-- ==== Sys2Proof/Word.lean ====
section
/-! DEFINITION. Words, bytes and bit fields (R9, R10), the plain shape of a register-map row, and the signed
difference of wrapping counters (R66). -/

namespace Sys2Proof

/-- A register word: 32 bits (R10). -/
abbrev Word := BitVec 32

/-- One byte of a wire frame or a stored object. -/
abbrev Byte := BitVec 8

/-- A field [high:low] of a register: the word's device address, its lowest bit and its width (R9). -/
structure Fld where
  addr : Nat
  lo : Nat
  width : Nat
deriving DecidableEq, Repr

/-- One row of the register map: base address, (stride, count) of each array dimension, reset value, and the masks
of the bits software may write (RW), clear by 1 (W1C), clear by reading (RC) and start actions with (WO), and the
legal range (low bit, width, least, greatest) of fields with reserved encodings (R12 to R16). -/
structure RegRow where
  base : Nat
  dims : List (Nat × Nat)
  reset : Nat
  rw : Nat
  w1c : Nat
  rc : Nat
  wo : Nat
  enc : List (Nat × Nat × Nat × Nat)
deriving DecidableEq, Repr

/-- The value of the field of `width` bits whose lowest bit is `lo` (R9). -/
def fieldOf (w : Word) (lo width : Nat) : Nat := w.toNat / 2 ^ lo % 2 ^ width

/-- The word `w` with that field replaced by `v` modulo the field's range. -/
def withField (w : Word) (lo width v : Nat) : Word :=
  BitVec.ofNat 32 (w.toNat % 2 ^ lo + v % 2 ^ width * 2 ^ lo + w.toNat / 2 ^ (lo + width) * 2 ^ (lo + width))

/-- The signed reading of an unsigned value of `n` bits, two's complement. -/
def signedOf (n v : Nat) : Int := if v < 2 ^ (n - 1) then (v : Int) else (v : Int) - 2 ^ n

/-- The two's-complement pattern of an integer in `n` bits. -/
def patternOf (n : Nat) (x : Int) : Nat := (x % (2 ^ n : Int)).toNat

end Sys2Proof
end

