-- ==== Sys2Proof/Config.lean ====
section
/-! DEFINITION. What an implementation fixes and what the spec leaves open. Every value here is an `opaque` constant
without a body: nothing can evaluate it, so a claim about the model holds for every value. The cryptographic functions
of R517 are such constants too: the spec names the public standards that define them and states only where their
results are used (log entry 7). -/

namespace Sys2Proof

/-- The inputs of a run as latched at a frame boundary (R165, R172): stream values (format and code), the ctl values of
stream pairs, the five elements of each tracked job slot, the measurement, setpoint, output and flags of each loop slot (R302), and the input-map
ID (R178). A key without an entry is absent. -/
structure Inputs where
  strm : List (Nat × (Nat × Nat))
  pair : List (Nat × Int)
  job : List (Nat × List (Option Int))
  loop : List (Nat × List (Option Int))
  inmap : Word
deriving DecidableEq, Repr

/-- One sample of a kernel batch (R165): stream, its format, value code, sample index [31:0] and position in the pending list. -/
structure BatchSample where
  sid : Nat
  fmt : Nat
  value : Nat
  idx : Nat
  pos : Nat
deriving DecidableEq, Repr

/-- A kernel batch of an input log: class, batch counter, start tick, samples, and the kernel state it read (Table 12 of chapter 04). -/
structure LogBatch where
  cls : Nat
  no : Nat
  start : Nat
  samples : List BatchSample
  kst : List (Nat × List Byte)
deriving DecidableEq, Repr

/-- One frame of an input log (R181): the frame counter, its inputs, whether the frame run was SKIPPED, the runs log-starved, the
kernel batches taken, the batches skipped and those of the frame before discarded (each run by its class, 5 the frame run, and its start
tick), and the epoch and log position of each table. -/
structure LogFrame where
  frame : Nat
  inputs : Inputs
  skipped : Bool
  starved : List (Nat × Nat)
  batches : List LogBatch
  kskip : List (Nat × Nat)
  disc : List (Nat × Nat)
  tables : List (Nat × Nat × Nat)
deriving DecidableEq, Repr

end Sys2Proof

namespace Sys2Proof.Config

/-- The variant fuse (SYS_ID.VARIANT, F). Read through `variant`. -/
opaque variantFuse : Nat

/-- The fused word at a register address whose reset value is F (R13). Masked to the word's fields where it is read. -/
opaque fuseWord : Nat → Word

/-- A fresh free value: the n-th value the spec leaves open in a run (log entry 3). -/
opaque freeValue : Nat → Nat

/-- A fresh random byte string of the given length (R518, R538, R541), the n-th drawn. -/
opaque randomBytes : Nat → Nat → List Byte

/-- SHA-256 (R517). -/
opaque sha256 : List Byte → List Byte

/-- HMAC-SHA-256 of a message under a key (R517). -/
opaque hmac : List Byte → List Byte → List Byte

/-- HKDF-SHA-256: keying material, salt, info and length in bytes (R539). -/
opaque hkdf : List Byte → List Byte → List Byte → Nat → List Byte

/-- LMS signature check: public key, message, signature (R517, R519). -/
opaque lmsVerify : List Byte → List Byte → List Byte → Bool

/-- HSS signature check of a firmware image against the fused vendor key (R522). -/
opaque hssVerify : List Byte → Bool

/-- LMS signature by the key of the given holder, at the given leaf, over a message (R528, R538, R544). -/
opaque lmsSign : Nat → Nat → List Byte → List Byte

/-- The public key of the holder (0 DIK, 1 AK-M, 2 AK-P) in its given generation (R518, R531). -/
opaque publicKey : Nat → Nat → List Byte

/-- The firmware image a part's slot holds as shipped, by part × 2 + slot (R523). -/
opaque factoryImage : Nat → List Byte

/-- The DIK certificate over an attestation public key (R531). -/
opaque dikCert : List Byte → List Byte

/-- The vendor device CA's HSS signature over a device's DIK_PUB and SERIAL, 5,716 bytes (R545). -/
opaque deviceCaSign : List Byte → List Byte

/-- The bytes of a commissioning record over which its CRC-32 stands (R49): record sequence, wire time, master, variant, module ID, the
images by role with handle, hash and EXACT, IFD_PART and the harness positions. R49 names the contents and not their layout. -/
opaque recordBytes : List Nat → List (Nat × Nat × List Byte × Bool) → List (Option (Nat × Nat)) → List Byte

/-- ML-KEM-768 encapsulation to a key with the n-th randomness: shared secret and ciphertext (R538). -/
opaque kemEncaps : Nat → List Byte → List Byte × List Byte

/-- ML-KEM-768 decapsulation of a ciphertext by this module (R542). -/
opaque kemDecaps : List Byte → List Byte

/-- AES-256-GCM encryption: key, nonce, additional data, plaintext; ciphertext with tag (R540, R542). -/
opaque gcmSeal : List Byte → List Byte → List Byte → List Byte → List Byte

/-- AES-256-GCM decryption: key, nonce, additional data, ciphertext; none where the tag fails (R540, R542). -/
opaque gcmOpen : List Byte → List Byte → List Byte → List Byte → Option (List Byte)

/-- The payload bytes of a frame whose layout the spec does not give: Craori BARRIER, INPUT, DIGEST, TICKREC, ROWMAP, PEEK_REQ and PEEK_DATA, the
tick marker of the pair link, and the row-address frames (log entry 5). The first argument is the Craori TYPE, 0 for the last two. -/
opaque framePayload : Nat → List Nat → List Byte

/-- SYS_ID.VARIANT: 0 LX7-C12S1, 1 LX7-C9S1, 2 LX7-C6S1, 3 LX7-C12S2; 4 to 255 are never reported (R447). -/
def variant : Nat := variantFuse % 4

/-- An element of a tile-store buffer that the run has not written: logical tile, buffer and element (log entry 13). -/
opaque unwritten : Nat → Nat → Nat → Option Int

/-- The frames of an input log object (R181): its byte format is not in the spec (log entry 14). -/
opaque logFrames : List Byte → List LogFrame

/-- The format level of an input log object (R182): its byte format is not in the spec (log entry 14). -/
opaque logLevel : List Byte → Nat

/-- The table requests in flight at a tick while a run is in progress (IFD_INFLIGHT): the spec bounds them and gives no law (log entry 85). -/
opaque requests : Nat → Nat

/-- The uncorrectable codewords that PORT_CNT_FECU shows of a port with link, at a tick: what the line does is open (log entry 64). -/
opaque fecErrors : Nat → Nat → Nat

/-- The frames a capture ring of the given size in GiB holds (R181). -/
opaque captureFrames : Nat → Nat

/-- The bytes of the capture ring as a readable object (R426, R181), and of a snapshot-store object (R183) by its frame, log position,
kernel state, program hash and inputs: their byte formats are not in the spec (log entry 14). -/
opaque captureBytes : List LogFrame → List Byte
opaque snapshotBytes : Nat → Nat → List (Nat × List Byte) → List Byte → Inputs → List Byte

/-- The bytes hashed for a part of a digest entry (R573) from the values it covers: the layout of the parts IN_STREAM to D_OUT is not
given bit by bit (log entry 14). -/
opaque digestBytes : Nat → List Nat → List Byte

/-- A table image (R222, R210): the segments it holds, the lines of a row, and its epoch and log position; its byte format
is not in the spec (log entry 14). -/
opaque imageSegments : List Byte → List Nat
opaque imageLine : List Byte → Nat → Nat → List Byte
opaque imageEpoch : List Byte → Nat × Nat

/-- The body of a takeover image's section (Table 3 of chapter 12) from its number, its words and its further items, and what such a body
holds: the layout within a section is not given (log entry 14). -/
opaque sectionBytes : Nat → List (Nat × Nat) → List (Nat × List Nat) → List Byte
opaque sectionWords : Nat → List Byte → List (Nat × Nat)
opaque sectionItems : Nat → List Byte → List (Nat × List Nat)

/-- The temperature in 1/128 °C of a platinum resistance by the IEC 60751 equations (R599): nominal ohms and the measured
milliohms. The equations are not in the spec (log entry 18). -/
opaque rtdTemp : Nat → Int → Int

/-- The temperature in 1/128 °C of an NTC (R613): measured milliohms, Rn in ohms and B in kelvin; the spec gives the real
formula and no rounding (log entry 18). -/
opaque ntcTemp : Int → Int → Int → Int

/-- Whether the three fused root hashes differ (R526, Table of SEC_STAT): fixed by the fuses of the part. -/
opaque rootMismatch : Bool

end Sys2Proof.Config
end

