-- ==== Sys2Proof/Syntax.lean ====
section
/-! DEFINITION. The commands: one constructor per row of spec/opcode_table.json, with the operands the row's rule gives
it. The rows carry no operand fields, so the operands are read from the rules (log entry 2). A register-write row
names the session slot `w` of the writer and the value written; a Zhoide command row carries its request header. -/

namespace Sys2Proof

/-- Network A or B (R59, R398). -/
inductive Net | a | b
deriving DecidableEq, Repr

/-- Lane A or lane B of Serac (R27). -/
inductive Lane | a | b
deriving DecidableEq, Repr

/-- The memories of Table 5 of chapter 14 (R567), in the coding of DIA_ECCTEST.MEM. -/
inductive MemKind | laneA | laneB | seracNv | portSram | tileStore | mainSram | ddr4 | stack
deriving DecidableEq, Repr

/-- The strap pins of P2 (R584, R585), each already in its reading: 1 for an open contact. -/
structure Straps where
  moduleId : Fin 64
  pairId : Fin 256
  slot : Fin 2
  paired : Bool
  bsrc : Fin 4
  enrol : Bool
deriving DecidableEq, Repr

/-- What a PTP message says of its sender (R59, R60): the identity of the sending port, the domain, the transport (0 UDP/IPv4, 1 UDP/IPv6,
2 IEEE 802.3), and the message interval as a power of two of a second. -/
structure PtpHead where
  sender : Nat
  domain : Fin 128
  transport : Fin 3
  logInterval : Int
deriving DecidableEq, Repr

/-- The data of a PTP Announce message that the best master clock algorithm compares (R59), with its head. -/
structure Announce where
  priority1 : Nat
  clockClass : Nat
  accuracy : Nat
  variance : Nat
  priority2 : Nat
  identity : Nat
  stepsRemoved : Nat
  head : PtpHead
deriving DecidableEq, Repr

/-- The head of a PTP Sync, with the path delay of its port and whether that delay was measured by the peer mechanism (R60); its departure
time t1 and its arrival t2 (R65) stand beside it. -/
structure PtpSync where
  head : PtpHead
  pathDelay : Int
  peer : Bool
deriving DecidableEq, Repr

/-- The network of a port: A0 to A7 are ports 0 to 7, B0 to B7 are 8 to 15 (R398). -/
def portNet (p : Nat) : Net := if p < 8 then .a else .b

/-- The other network. -/
def otherNet (n : Net) : Net := match n with | .a => .b | .b => .a

/-- How a datagram came (R399, R400): its source address, its arrival port, and whether it was sent to a row address instead of a module
address or a group. -/
structure Came where
  src : Nat
  port : Fin 16
  row : Bool
deriving DecidableEq, Repr

/-- What has come in a datagram, with how it came. -/
structure Heard (α : Type) where
  came : Came
  what : α
deriving DecidableEq, Repr

/-- Where a Zhoide frame came from and what it carries whether or not it names a session (R403, R406): its source address, arrival port,
whether it was sent to the row address (R399), tag and mailbox. -/
structure Plain where
  src : Nat
  port : Fin 16
  row : Bool
  tag : Word
  mbox : Fin 16
deriving DecidableEq, Repr

/-- How a sessionless frame came. -/
def Plain.came (q : Plain) : Came := ⟨q.src, q.port, q.row⟩

/-- A sessionless frame that came so, with its tag and mailbox. -/
def Came.plain (c : Came) (tag : Word) (mbox : Fin 16) : Plain := ⟨c.src, c.port, c.row, tag, mbox⟩

/-- The tag and the mailbox of a frame (R403). -/
structure Letter where
  tag : Word
  mbox : Fin 16
deriving DecidableEq, Repr

/-- The header of a Zhoide session request (R403): its source address, arrival port, whether it was sent to the row address (R399), session ID, frame number, tag,
mailbox and deferral. The payload has been authenticated and decrypted; a frame that fails a check of R440 is the row
ZHOIDE_PROTOCOL_VIOLATION. -/
structure Req where
  src : Nat
  port : Fin 16
  row : Bool
  session : Word
  seq : BitVec 64
  tag : Word
  mbox : Fin 16
  defer : Bool
  deferMs : Word
deriving DecidableEq, Repr

/-- The network a request came on. -/
def Req.net (q : Req) : Net := portNet q.port

/-- What a request carries whether or not it names a session. -/
def Req.plain (q : Req) : Plain := ⟨q.src, q.port, q.row, q.tag, q.mbox⟩

/-- The fields of a SESS_OPEN request (R536, Table 3), with the keys and certificate a PEER request appends (R542). -/
structure SessOpen where
  level : Byte
  master : BitVec 16
  flags : Byte
  moduleId : Byte
  nonce : List Byte
  ek : List Byte
  sig : List Byte
  pub : List Byte
  akpPub : List Byte
  dikPub : List Byte
  akpCert : List Byte
deriving DecidableEq, Repr

/-- What the initiator of a peer exchange receives from the responder (R542): the answer to SESS_OPEN, or the answer
to SESS_KEY. -/
inductive PeerResponse
  | opened (session : Word) (nonceD ct akpPub dikPub akpCert sig : List Byte)
  | keyed (confD sealedKey : List Byte)
deriving DecidableEq, Repr

/-- The request fields of ACTION_ADD (R421, R424). -/
structure ActionFields where
  trig : Byte
  kind : Byte
  job : Byte
  every : Byte
  trigVal : BitVec 64
  arg0 : Word
  arg1 : Word
deriving DecidableEq, Repr

/-- The ways a Zhoide frame fails before its command is judged: dropped silently, a violation of Table 9 (R440) with the session and command
that the frame names, a copy or an old frame (R405), an unknown command code (R421), or a payload that does not match its command's
layout, by the byte offset of the field (R421); and a Craori frame that is unparseable, fails its tag, or is a violation (R440, R501). -/
inductive BadFrame
  | unparseable
  | gcmFail
  | badLevel (session : Word) (cmd : Byte)
  | badCrc (cmd : Byte)
  | badLength (session : Word) (cmd : Byte)
  | reservedEnc (session : Word) (cmd : Byte)
  | noSession (cmd : Byte)
  | copyFrame
  | oldFrame
  | unknownCmd (q : Req) (cmd : Byte)
  | badPayload (q : Req) (cmd : Byte) (offset : Fin 8192)
  | craoriUnparseable
  | craoriGcmFail
  | craoriViolation
deriving DecidableEq, Repr
/-- A temperature source (R127): a stream or a field temperature input by its logical number. -/
inductive TempSource
  | stream (sid : Fin 262144)
  | field (i : Fin 144)
deriving DecidableEq, Repr


/-- A reading that Serac latches at a tick edge (R31, R599), in the unit its rule uses: a field input's measurement
(milliohms for RTD and NTC inputs, microamperes, microvolts, or millihertz with a pulse edge), the digital inputs, a pump's
FLT_N level, a valve output's electrical condition (0 none, 1 OPEN, 2 SHORT), a bank's and a fan's current in mA, a tach edge
with the speed it gives in rpm, the supply voltages in 10 mV, the field supply's current in mA, the module's temperatures by
R18, the cage's full-cooling indication and PEER_HEALTH. -/
inductive Latch
  | input (i : Fin 144) (m : Int)
  | digital (v : BitVec 16)
  | fltN (p : Fin 8) (low : Bool)
  | valve (v : Fin 64) (cond : Fin 3)
  | bank (b : Fin 8) (ma : Fin 65536)
  | fan (f : Fin 32) (ma : Fin 65536)
  | tach (f : Fin 32) (rpm : Fin 65536)
  | vin (pa pb : BitVec 16)
  | vact (aa ab : BitVec 16)
  | ifs (ma : BitVec 16)
  | therm0 (air serac : BitVec 16)
  | therm1 (inlet outlet : BitVec 16)
  | fcInd (on : Bool)
  | peerHealth (on : Bool)
deriving DecidableEq, Repr

/-- What the self-check and the lane comparison of a tick find (R265, R266, R272): whether each lane is bad, the digest of the lane that is
not selected where it is told, and the evaluations each lane has completed where it did not complete all that are due. -/
structure LaneCheck where
  badA : Bool
  badB : Bool
  digest : Option (BitVec 64)
  doneA : Option Nat
  doneB : Option Nat
deriving DecidableEq, Repr

/-- A tick in which both lanes are good and complete every evaluation. -/
def LaneCheck.good : LaneCheck := ⟨false, false, none, none, none⟩


/-- A channel that can be locked out (R309). -/
inductive LockChannel
  | pump (p : Fin 8)
  | valve (v : Fin 64)
  | solenoid (k : Fin 64)
  | fan (f : Fin 32)
deriving DecidableEq, Repr

/-- Why a bank's high-side switch opens by itself (R332). -/
inductive CutReason
  | overcurrent
  | stuckOn (channel : Fin 8)
  | protect
  | supply
deriving DecidableEq, Repr

/-- A protective sequence (R353, R354): one of a rack's, or one of the loop level's. -/
inductive SeqRef
  | rack (r : Fin 48) (bit : Fin 8)
  | loop (bit : Fin 7)
deriving DecidableEq, Repr


/-- A CAN frame (R449): identifier (a base identifier in bits [10:0]), format, BRS and ESI bits, DLC and payload. -/
structure CanFrame where
  id : BitVec 29
  ide : Bool
  fdf : Bool
  brs : Bool
  esi : Bool
  rtr : Bool
  dlc : Fin 16
  data : List Byte
deriving DecidableEq, Repr

/-- How an attempt to send a frame ends (R459). -/
inductive TxOutcome
  | sent
  | lostArbitration
  | error
deriving DecidableEq, Repr


/-- A path of the pair: a pair-link lane or a network (R476, R478). -/
inductive PairPath
  | lane (n : Fin 2)
  | net (c : Came)
deriving DecidableEq, Repr

/-- A heartbeat (R478, Table 1 of chapter 12), with the module and slot of its frame's header: ROLE 0 RESOLVING, 1 ACTIVE, 2 STANDBY. -/
structure Heartbeat where
  moduleId : Fin 64
  slot : Fin 2
  role : Fin 3
  state : Fin 16
  health : BitVec 6
  sidx : BitVec 64
  iseq : Word
  lmin : Byte
  lmax : Byte
  lcap : Byte
  lrun : Byte
  pseq : Word
deriving DecidableEq, Repr

/-- A tick record (R494): the sample index, PSEQ, the GO flag, and the loop slots' words by register address. -/
structure TickRec where
  sidx : BitVec 64
  pseq : Word
  go : Bool
  words : List (Nat × Word)
deriving DecidableEq, Repr

/-- A barrier as proposed (R491, R492): its ID, action, argument, and its sample index or wire time. -/
structure BarrierMsg where
  id : Fin 16
  action : Fin 8
  arg : Byte
  at_ : BitVec 64
deriving DecidableEq, Repr

/-- An adopted row as an ANNOUNCE lists it (R502): module ID, count, last PSEQ used. -/
structure AdoptRow where
  m : Fin 64
  count : BitVec 16
  pseq : Word
deriving DecidableEq, Repr

/-- An ANNOUNCE (R502), with the module and slot of its frame's header. -/
structure FedAnnounce where
  moduleId : Fin 64
  slot : Fin 2
  member : Bool
  state : Fin 16
  lmin : Byte
  lmax : Byte
  lcap : Byte
  lrun : Byte
  nacc : BitVec 16
  fepoch : Word
  request : Word
  target : Word
  pseq : Word
  adopted : List AdoptRow
deriving DecidableEq, Repr

/-- An accelerator of a member's row map (R502): its local index, rack, TDP, fallback cap, plan group base, and the configuration words of
its streams by channel. -/
structure RowAcc where
  idx : Fin 4096
  rack : Fin 48
  tdp : BitVec 16
  fallback : BitVec 16
  group : Word
  streams : List (Fin 64 × Word)
deriving DecidableEq, Repr

/-- A member's part of an ALLOC (R505). -/
structure AllocEntry where
  m : Fin 64
  budget : Word
  ramp : Word
deriving DecidableEq, Repr

/-- What the entry to lock-step finds of the partner (R497): equal hashes of the active slots, equal ALVL. -/
structure LsPartner where
  sameSlots : Bool
  sameAlvl : Bool
deriving DecidableEq, Repr

/-- The time that a step marker names (R79), and the ns after the tick edge at which its frame came (R65). -/
structure Stamp where
  time : BitVec 64
  ns : Fin 10000
deriving DecidableEq, Repr

/-- What has ended of the Icefield runs, with the most table requests that it had in flight (R144). -/
structure Ended (α : Type) where
  what : α
  inflight : Fin 294913
deriving DecidableEq, Repr


/-- The commands of the opcode table, in its order. -/
inductive Instr
  /-- POWER_ON (R609): The first logic input passes 38.5 V with MATE_N mated and the module begins its start-up timeline. -/
  | powerOn (pins : Straps)
  /-- SERAC_BOOT_VERIFY_DONE (R524): Serac finishes its self-test and firmware verification, enters BOOT or stays in POWERUP, and releases the port die. -/
  | seracBootVerifyDone (selfTest : Bool) (okA : Bool) (okB : Bool)
  /-- PORT_DIE_BOOT_DONE (R524): The port die finishes verifying its firmware, and Serac then powers and releases the main die. -/
  | portDieBootDone (okA : Bool) (okB : Bool)
  /-- MAIN_DIE_BOOT_DONE (R522): The main die finishes verifying its firmware and starts running it, or stays in reset. -/
  | mainDieBootDone (okA : Bool) (okB : Bool)
  /-- ROLE_RESOLVE (R474): The 50 ms heartbeat listening window in BOOT expires and the module resolves to ACTIVE or STANDBY. -/
  | roleResolve
  /-- BOOT_TIMEOUT (R43): The main die is still not ready 180 s after entry to BOOT and the module enters TABLE. -/
  | bootTimeout
  /-- MODULE_RESET_INPUT (R587): MRST_N is held low for at least 5 µs, HEALTH is deasserted and every die is held in reset. -/
  | moduleResetInput
  /-- MODULE_INSERT (R590): MATE_N mates and the hot-swap controllers may turn the inputs on. -/
  | moduleInsert
  /-- MODULE_WITHDRAW (R590): MATE_N breaks, HEALTH is deasserted and every input turns off within 1 ms. -/
  | moduleWithdraw
  /-- LOGIC_INPUT_LOST (R595): One logic input, PA or PB, falls out of range and the module continues on the other. -/
  | logicInputLost (input : Fin 2) (volts : Fin 65536)
  /-- LOGIC_POWER_FAIL (R595): Both logic inputs fall through 36.0 V, PFAIL_N goes low, HEALTH is deasserted and the module runs on hold-up. -/
  | logicPowerFail
  /-- ACTUATOR_SUPPLY_CHANGE (R333): The power supervisor reports input AA or AB lost or restored, and the actuator budget changes in that tick. -/
  | actuatorSupplyChange
  /-- FIELD_SUPPLY_LIMIT (R593): The field 24 V supply reaches 2.8 A and sheds the LP contacts first, then the SUP contacts. -/
  | fieldSupplyLimit (ma : Fin 65536)
  /-- FIELD_SUPPLY_RESTORE (R593): Shed field 24 V loads return 1 s after the total current falls below 2.4 A. -/
  | fieldSupplyRestore (ma : Fin 65536)
  /-- STRAP_CHANGE (R585): A live strap pin changes after sampling, ACT_HWEVT.STRAP_CHG is set and ACT_STRAP.DIFF is updated. -/
  | strapChange (pins : Straps)
  /-- HARNESS_CHANGE (R605): ID_PRES_N of a harness position changes and Serac rereads that identity memory within 100 ms. -/
  | harnessChange (pos : Fin 8) (present : Bool) (mem : Option (List Byte))
  /-- SEL_CHANGE (R600): The SEL input changes, and the module starts or stops exciting its RTD/NTC and leak inputs. -/
  | selChange (sel : Bool)
  /-- MAIN_DIE_THERMAL_LIMIT (R598): The main-die junction reaches 100 °C and its clock is reduced, or reaches 110 °C and the main die is powered down. -/
  | mainDieThermalLimit (powerDown : Bool)
  /-- PORT_DIE_THERMAL_LIMIT (R598): The port-die junction reaches 110 °C and the port die is held in reset until it falls below 95 °C. -/
  | portDieThermalLimit
  /-- OPTIC_PRESENT (R607): The cage reports an optic present or the port is enabled, and the port die reads its memory and maps it to a PHY. -/
  | opticPresent (port : Fin 16) (media : Fin 6)
  /-- TICK_EDGE (R31): The 10 µs tick edge increments the sample index, latches the inputs, evaluates the loops and protection, compares the lanes and drives the outputs. -/
  | tickEdge (latches : List Latch) (check : LaneCheck)
  /-- LANE_RECOVER (R267): A faulted lane completes its reset and self-test, enters RECOVER and loads the selected lane's state at the next frame boundary. -/
  | laneRecover (lane : Lane)
  /-- LANE_READY (R267): A RECOVER lane completes 100 consecutive frames with matching digests and enters SHADOW. -/
  | laneReady (lane : Lane)
  /-- FRAME_BOUNDARY (R32): The tick edge of sample index 100k begins a frame: packets are applied, feed-forward decays, commits take effect and the frame-level evaluations run. -/
  | frameBoundary
  /-- FRAME_PACKET (R34): A lane receives a frame packet over safety link M and accepts or discards it. -/
  | framePacket (lane : Lane) (bytes : List Byte)
  /-- PACKET_ACCEPT_EXCHANGE (R35): At S + 95 the lanes exchange their accept decisions and the packet is set to be applied or counted as missing. -/
  | packetAcceptExchange
  /-- MAIN_DIE_ABSENT (R38): Serac declares the main die absent after 20 frames without an applied packet while a frame program is active, and the loops take TABLE mode setpoints. -/
  | mainDieAbsent
  /-- MAIN_DIE_RESET (R38): A main-die reset occurs and Serac declares the main die absent. -/
  | mainDieReset
  /-- MAIN_POWER_GOOD_LOST (R594): A main-die rail loses power-good, the die is put in reset and Serac declares it absent. -/
  | mainPowerGoodLost
  /-- SAFETY_LINK_M_LOST (R38): Safety link M carries nothing for 3 consecutive ticks and Serac declares the main die absent. -/
  | safetyLinkMLost
  /-- MAIN_DIE_RELEASE (R616): After an absence Serac releases the main die from reset once its rails report power-good. -/
  | mainDieRelease
  /-- MAIN_DIE_READY (R608): The main die meets every readiness condition, the absence declaration ends and the Table 9 windows become reachable. -/
  | mainDieReady
  /-- TABLE_TO_RUN (R43): With the main die ready, 100 consecutive packets are applied and the module leaves TABLE for RUN, or for COMMISSION if no valid record exists. -/
  | tableToRun
  /-- PORT_DIE_ABSENT (R388): Safety link P carries nothing for 3 consecutive ticks and the port die is declared absent. -/
  | portDieAbsent
  /-- PORT_DIE_PRESENT (R388): Safety link P carries frames again and the port die's absence ends. -/
  | portDiePresent
  /-- CREC_MAKE (R50): A write of SYS_CREC_CMD.MAKE = 1 starts a pending making of the commissioning record. -/
  | crecMake (w : Fin 8)
  /-- CREC_CLEAR (R50): A write of SYS_CREC_CMD.CLEAR = 1 invalidates the commissioning record at once. -/
  | crecClear (w : Fin 8)
  /-- CEILING_RESET (R448): A write of SYS_CFGRST with CEIL = 1 and CONFIRM = 0xCE11 clears every ceiling at the next planner computation. -/
  | ceilingReset (w : Fin 8)
  /-- PTP_ANNOUNCE (R59): A PTP Announce message is received and the instance selects its master by the best master clock algorithm. -/
  | ptpAnnounce (net : Net) (port : Fin 8) (a : Announce)
  /-- PTP_SYNC (R61): A PTP Sync message is received and the servo slews, steps or changes between ACQUIRE and LOCKED. -/
  | ptpSync (net : Net) (port : Fin 8) (m : PtpSync) (t1 : BitVec 64) (t2 : BitVec 64)
  /-- ANNOUNCE_RECEIPT_TIMEOUT (R62): The selected instance loses its master by Announce receipt timeout and the servo leaves LOCKED for HOLDOVER. -/
  | announceReceiptTimeout (net : Net)
  /-- HOLDOVER_EXPIRY (R68): HOLDOVER reaches TIM_HOLD_LIM and the servo enters FREERUN. -/
  | holdoverExpiry
  /-- INSTANCE_DISAGREE (R64): Both PTP instances stay LOCKED with offsets more than 1 µs apart for 10 s and TIM_EVT.DISAGREE is set. -/
  | instanceDisagree
  /-- SAMPLE_INDEX_ANCHOR (R74): At the first tick with the servo LOCKED on module time, the sample index jumps to the aligned index and skipped SIDX entries are handled. -/
  | sampleIndexAnchor
  /-- TIM_REANCHOR (R77): A write of TIM_CTRL.REANCHOR = 1 sets the sample index to the aligned index at the next tick, or is refused. -/
  | timReanchor (w : Fin 8)
  /-- SNAPSHOT_REQUEST (R99): A write of TIM_SNAP_CTRL.NOW = 1 requests a common snapshot for the first tick at least 2 ticks later. -/
  | snapshotRequest (w : Fin 8)
  /-- COMMON_SNAPSHOT (R100): At the target tick edge every present block latches its snapshot registers under a new snapshot ID. -/
  | commonSnapshot
  /-- ACTION_COMMIT (R86): A write of AE_CTRL with VALID = 1 commits an action entry, which is armed, fired late or refused as LATE. -/
  | actionCommit (w : Fin 8) (n : Fin 4096) (value : Word)
  /-- ACTION_CANCEL_WRITE (R86): A write of AE_CTRL with VALID = 0 cancels an ARMED entry from the next tick edge. -/
  | actionCancelWrite (w : Fin 8) (n : Fin 4096) (value : Word)
  /-- ACTION_FIRE (R88): An armed entry's trigger is reached and its action executes in commit order. -/
  | actionFire (n : Fin 4096)
  /-- PACKET_SEAL (R90): At tick 80 the main die seals the packet for the next boundary and due SETPOINT entries fire. -/
  | packetSeal
  /-- MARKER_WINDOW_CLOSE (R80): A step-marker collection window closes, the boundary is fused and the job's angle, period and state are updated. -/
  | markerWindowClose (j : Fin 256)
  /-- JOB_COAST (R82): The extended angle of a LOCKED job passes the next boundary plus a quarter step with no fused marker, and the slot enters COAST. -/
  | jobCoast (j : Fin 256)
  /-- JOB_LOST (R82): A coasting job passes COAST_MAX steps, enters LOST and its named-step entries are cancelled. -/
  | jobLost (j : Fin 256)
  /-- JOB_CFG_WRITE (R105): A write of JOB_CFG enables or disables a job slot, and other fields take effect at the next fused boundary. -/
  | jobCfgWrite (w : Fin 8) (j : Fin 256) (value : Word)
  /-- STREAM_FRAME (R111): A stream frame arrives, is checked and de-duplicated, and its samples are passed on to the stream state. -/
  | streamFrame (udp : Heard (BitVec 16)) (bytes : List Byte) (ns : Fin 10000)
  /-- QUARANTINE_END (R441): The 10 s quarantine of a source expires, with a QUARANTINE record for each further second. -/
  | quarantineEnd (entry : Fin 256)
  /-- REORDER_WAIT_EXPIRY (R113): A held frame's reorder wait expires, the missing numbers are counted as gaps and the held frames are released. -/
  | reorderWaitExpiry (acc : Fin 4096)
  /-- STREAM_STALE (R127): A stream accepts no sample carrying a reading for its stale time and enters STALE. -/
  | streamStale (sid : Fin 262144)
  /-- PAIR_RESOLVED (R135): A split lasts the pair's persistence time with a forecast present, and the member farther from it is marked SUSPECT. -/
  | pairResolved (pair : Fin 4096)
  /-- SUSPECT_CLEAR (R132): A SUSPECT condition has been absent for STM_SUSP_CLR with its alarm acknowledged, and the source returns to OK. -/
  | suspectClear (x : TempSource)
  /-- FIELD_INPUT_FAULT (R128): A field temperature input reads beyond an electrical limit for 10 consecutive ticks and enters FAULT. -/
  | fieldInputFault (i : Fin 144)
  /-- FIELD_INPUT_FAULT_CLEAR (R127): A faulted source has read validly for 1 s and leaves FAULT. -/
  | fieldInputFaultClear (x : TempSource)
  /-- STREAM_COMMIT (R122): A write of STM_CMT.GO = 1 checks the staged stream configuration and admits or refuses it. -/
  | streamCommit (w : Fin 8)
  /-- STREAM_CONFIG_LOAD (R121): A write of STM_CMT.LOAD = 1 copies the active stream configuration into the staged words. -/
  | streamConfigLoad (w : Fin 8)
  /-- STREAM_ACK (R132): A write of STM_ACK acknowledges one stream's or every stream's supervision alarm, applied at the next boundary. -/
  | streamAck (w : Fin 8) (value : Word)
  /-- GUARD_DIGEST (R140): Serac receives a guard digest and uses it, judging the die limits from the next tick. -/
  | guardDigest
  /-- FRAME_RUN_START (R172): At tick 2 of a frame the frame program starts on the frame partition. -/
  | frameRunStart
  /-- FRAME_RUN_END (R172): The frame run ends and its results pass to the application cores, which build the packet and forecasts. -/
  | frameRunEnd (ns : Fin 10000) (inflight : Fin 294913) (mismatch : Option (Fin 64))
  /-- FRAME_RUN_OVERRUN (R173): At tick 80 an unfinished frame run is abandoned, emits nothing and is logged as SKIPPED. -/
  | frameRunOverrun
  /-- KERNEL_BATCH_START (R174): At a multiple of its period a class kernel starts a batch, or the due batch is skipped. -/
  | kernelBatchStart (c : Fin 5)
  /-- KERNEL_BATCH_END (R174): A kernel batch completes and writes its results and kernel state. -/
  | kernelBatchEnd (e : Ended (Fin 5))
  /-- RUN_MEMORY_ERROR (R175): An uncorrectable memory error met by a run abandons it and taints the frame's results. -/
  | runMemoryError (kernel : Option (Fin 5))
  /-- ARRAY_TEST_DONE (R180): The built-in array test ends and the array or spare is retired, or the event counts as transient. -/
  | arrayTestDone (tile : Fin 64) (arr : Fin 8) (activeOk : Bool) (spareOk : Bool)
  /-- SLOT_LOAD (R167): A write of SLOT_CMD.LOAD starts verification of an image into a slot that is not ACTIVE. -/
  | slotLoad (w : Fin 8) (slot : Fin 16) (handle : BitVec 16)
  /-- SLOT_VERIFY_DONE (R167): Slot verification ends and the slot becomes LOADED or REFUSED with a load error. -/
  | slotVerifyDone (slot : Fin 16)
  /-- SLOT_UNLOAD (R186): A write of SLOT_CMD.UNLOAD empties a slot that is not ACTIVE. -/
  | slotUnload (w : Fin 8) (slot : Fin 16)
  /-- IFD_SWITCH (R168): A write of IFD_SWITCH with GO = 1 checks and admits or refuses the activation of a LOADED slot. -/
  | ifdSwitch (w : Fin 8) (slot : Fin 16)
  /-- IFD_PART_WRITE (R169): A write of IFD_PART changes the partition sizes from the next frame boundary, or is refused. -/
  | ifdPartWrite (w : Fin 8) (value : Word)
  /-- REPLAY_START (R182): IFD_RPL_CTRL START begins replay of the input log. -/
  | replayStart (w : Fin 8) (pace : Bool)
  /-- REPLAY_PAUSE (R182): IFD_RPL_CTRL PAUSE puts replay in PAUSING until the frame in progress ends. -/
  | replayPause (w : Fin 8)
  /-- REPLAY_RESUME (R182): IFD_RPL_CTRL RESUME returns a paused replay to RUNNING. -/
  | replayResume (w : Fin 8) (pace : Bool)
  /-- REPLAY_STEP (R182): IFD_RPL_CTRL STEP runs one replay frame from PAUSED. -/
  | replayStep (w : Fin 8)
  /-- REPLAY_SNAP (R183): IFD_RPL_CTRL SNAP writes a replay snapshot to the snapshot store and returns its handle. -/
  | replaySnap (w : Fin 8)
  /-- REPLAY_RESTORE (R183): IFD_RPL_CTRL RESTORE loads a replay snapshot, or is refused on a program hash mismatch. -/
  | replayRestore (w : Fin 8)
  /-- REPLAY_STOP (R182): IFD_RPL_CTRL STOP returns replay to IDLE. -/
  | replayStop (w : Fin 8)
  /-- REPLAY_FRAME_END (R183): A replay frame ends, its records reach the overlay and a pending pause, end of log or fault takes effect. -/
  | replayFrameEnd (e : Ended Bool)
  /-- SEGMENT_LOAD_DONE (R195): A segment load completes and the segment becomes resident at the next frame boundary. -/
  | segmentLoadDone (t : Fin 4096) (seg : Fin 1048576)
  /-- SAVE_RETRY (R196): A save that was refused or not acknowledged is retried after 10 s. -/
  | saveRetry
  /-- LOG_COMMIT (R206): At tick 90 of frame k + 1 the update log of frame k is committed into a commit buffer in fixed order. -/
  | logCommit
  /-- COMMIT_WRITEBACK (R207): Once every run started before the boundary has ended, the commit buffer is written back in place. -/
  | commitWriteback
  /-- CHECKPOINT_START (R213): The checkpoint period expires and a sweep of the HOT tables starts, consistent at one frame boundary. -/
  | checkpointStart
  /-- CHECKPOINT_DONE (R213): A checkpoint sweep completes, replaces the previous checkpoint and is pushed to the host table store. -/
  | checkpointDone
  /-- TABLE_CREATE (R222): A write of T_CMD.CREATE = 1 creates a table, absent or from a table image. -/
  | tableCreate (w : Fin 8) (t : Fin 4096) (handle : BitVec 16)
  /-- TABLE_DELETE (R225): A write of T_CMD.DELETE = 1 deletes a table unless it is bound. -/
  | tableDelete (w : Fin 8) (t : Fin 4096)
  /-- TABLE_SAVE (R225): A write of T_CMD.SAVE = 1 saves every written segment to the host table store. -/
  | tableSave (w : Fin 8) (t : Fin 4096)
  /-- TABLE_RESTORE (R225): A write of T_CMD.RESTORE = 1 reloads a HOT table from its last checkpoint at the next boundary. -/
  | tableRestore (w : Fin 8) (t : Fin 4096)
  /-- PC_RETIRED (R218): A pseudo-channel meets an uncorrectable error, too many corrected errors or failed training and is retired and relocated. -/
  | pcRetired (stack : Fin 12) (pc : Fin 64) (lost : List (Fin 4096 × Fin 1048576))
  /-- STACK_LOST (R220): A stack fails training, loses power-good, trips thermally or reaches 8 retired pseudo-channels and is lost. -/
  | stackLost (stack : Fin 12)
  /-- PLANNER_COMPUTE (R235): At tick 85 the planner computes plan caps and effective values from the values in force. -/
  | plannerCompute
  /-- CHANGE_FRAME_EMIT (R247): At tick 95 change frames are sent for racks whose entries changed. -/
  | changeFrameEmit
  /-- REFRESH_FRAME_EMIT (R247): A rack's refresh interval expires and a FULL refresh frame is sent. -/
  | refreshFrameEmit (rack : Fin 48)
  /-- CEILING_COMMIT (R232): A write of CL_CTRL with VALID = 1 commits a ceiling entry. -/
  | ceilingCommit (w : Fin 8) (c : Fin 1024) (value : Word)
  /-- CEILING_CLEAR_WRITE (R232): A write of CL_CTRL with VALID = 0 clears a ceiling entry. -/
  | ceilingClearWrite (w : Fin 8) (c : Fin 1024) (value : Word)
  /-- STAGED_CHANGE_STAGE (R250): A write of STG_CTRL with VALID = 1 stages a change. -/
  | stagedChangeStage (w : Fin 8) (h : Fin 256) (value : Word)
  /-- STAGED_CHANGE_WITHDRAW (R262): A write of STG_CTRL with VALID = 0 withdraws a staged change. -/
  | stagedChangeWithdraw (w : Fin 8) (h : Fin 256) (value : Word)
  /-- PROT_FRAME_REBUILD (R253): The main die rebuilds a rack's prebuilt protective frames after a change of its accelerators, TDP or PLN_PROT_CFG. -/
  | protFrameRebuild (rack : Fin 48)
  /-- PROTECTIVE_CAP_SIGNAL (R254): Serac signals a rack's protective cap to the port die, which multicasts the prebuilt frame and clamps later frames. -/
  | protectiveCapSignal (rack : Fin 48)
  /-- PLAN_ACK (R259): A plan acknowledgement arrives, is de-duplicated and updates the accelerator state and the rack's power confirmation. -/
  | planAck (udp : Heard (BitVec 16)) (bytes : List Byte) (ns : Fin 10000)
  /-- PLAN_NOACK (R260): An accelerator has not acknowledged a change within 10 ms of its EFFECTIVE. -/
  | planNoack (acc : Fin 4096)
  /-- LOOP_COMMIT (R295): A write of LOP_CMT.GO = 1 checks the staged loop configuration and admits or refuses it. -/
  | loopCommit (w : Fin 8)
  /-- LOOP_CONFIG_LOAD (R294): A write of LOP_CMT.LOAD = 1 copies the active loop configuration into the staged words. -/
  | loopConfigLoad (w : Fin 8)
  /-- PL_ACK (R292): A write of LP_CTRL.PL_ACK = 1 ends a FAILSAFE plausibility action and the loop resumes. -/
  | plAck (w : Fin 8) (q : Fin 128) (value : Word)
  /-- PLAUSIBILITY_FAULT (R292): The plant-model residual stays outside PL_BAND for PL_PERSIST evaluations and the PL_ACT action starts. -/
  | plausibilityFault (q : Fin 128)
  /-- LOOP_FAILSAFE (R290): A loop's measurement is absent for IN_TMO due evaluations and its output goes to FS_OUT or holds. -/
  | loopFailsafe (q : Fin 128)
  /-- LOOP_CONFIG_SAVE (R298): Serac saves the loop configuration and direct-effect registers to its non-volatile store within 1 s of a change. -/
  | loopConfigSave
  /-- PUMP_START (R315): PMP_CMD START sets the run intent and starts an OFF DUTY pump with no substitution in force. -/
  | pumpStart (w : Fin 8) (p : Fin 8)
  /-- PUMP_STOP (R317): PMP_CMD STOP clears the run intent and ramps the pump down through STOPPING. -/
  | pumpStop (w : Fin 8) (p : Fin 8)
  /-- PUMP_ACK (R320): PMP_CMD ACK returns a TRIPPED or FAIL_START pump to OFF with its substitution kept. -/
  | pumpAck (w : Fin 8) (p : Fin 8)
  /-- PUMP_RESTORE (R320): PMP_CMD RESTORE starts a substituted DUTY pump and ends the redirection once it runs. -/
  | pumpRestore (w : Fin 8) (p : Fin 8)
  /-- PUMP_DRIVE_READY (R316): The drive has been ready for 100 ms and the pump ramps from SPD_MIN toward its demand. -/
  | pumpDriveReady (p : Fin 8)
  /-- PUMP_PROVEN (R316): Feedback reaches PROVE_PCT of demand and the pump enters RUNNING. -/
  | pumpProven (p : Fin 8)
  /-- PUMP_READY_TIMEOUT (R316): T_READY passes without the drive ready and the pump enters FAIL_START with cause NOT_READY. -/
  | pumpReadyTimeout (p : Fin 8)
  /-- PUMP_PROOF_TIMEOUT (R316): T_PROVE passes without proof and the pump enters FAIL_START with cause NO_PROOF. -/
  | pumpProofTimeout (p : Fin 8)
  /-- PUMP_STOP_COMPLETE (R317): A stopping pump's ramp reaches SPD_MIN, the enable goes off and the pump is OFF. -/
  | pumpStopComplete (p : Fin 8)
  /-- PUMP_TRIP (R318): A pump trips on FAULT_IN, LOW_FB or a CAN fault, and protection is told. -/
  | pumpTrip (p : Fin 8) (cause : Fin 3)
  /-- LOCKOUT_WRITE (R309): A write of PMP_LOCK, VLV_LOCK, SOL_LOCK or FAN_LOCK sets or clears a channel lockout. -/
  | lockoutWrite (w : Fin 8) (c : LockChannel) (value : Word)
  /-- VALVE_FAULT (R322): A valve output reads OPEN or SHORT for 50 ms and VLV_STAT.FAULT is set. -/
  | valveFault (v : Fin 64)
  /-- VALVE_DEVIATION (R322): Valve feedback differs from the travel by more than DEV_PCT for DEV_T and VLV_STAT.DEV is set. -/
  | valveDeviation (v : Fin 64)
  /-- SOL_PULSE (R328): SOL_CMD PULSE submits a normal-class pulse request to a solenoid channel. -/
  | solPulse (w : Fin 8) (k : Fin 64)
  /-- SOL_ENERGIZE (R328): SOL_CMD ENERGIZE submits a normal-class peak-and-hold request. -/
  | solEnergize (w : Fin 8) (k : Fin 64)
  /-- SOL_RELEASE (R328): SOL_CMD RELEASE ends HOLD, a PEAK_HOLD pull-in, or a waiting ENERGIZE at the next tick. -/
  | solRelease (w : Fin 8) (k : Fin 64)
  /-- SOL_TEST (R331): SOL_CMD TEST runs the channel self-test at the next free slot. -/
  | solTest (w : Fin 8) (k : Fin 64)
  /-- ISO_RESET (R327): SOL_CMD ISO_RESET sets POS = OPEN on a rack channel and ends its standing actions. -/
  | isoReset (w : Fin 8) (k : Fin 64)
  /-- SOLENOID_ARMATURE_DIP (R324): The filtered coil current dips by DIP before T_DET, marking the armature as moved. -/
  | solenoidArmatureDip (k : Fin 64)
  /-- SOLENOID_PULLIN_END (R325): A pull-in ends at dip + T_EXT or at T_PULSE, and the channel goes to DECAY or HOLD. -/
  | solenoidPullinEnd (k : Fin 64)
  /-- SOLENOID_OPEN_COIL (R325): Filtered current stays below 20 % of I_PEAK 5 ms into the pull-in and the channel faults OPEN_COIL. -/
  | solenoidOpenCoil (k : Fin 64)
  /-- SOLENOID_DECAY_END (R325): Coil current falls below 100 mA after switch-off, the bank slot frees and the result is set. -/
  | solenoidDecayEnd (k : Fin 64)
  /-- SOLENOID_RETRY (R326): T_RETRY passes after a NO_MOVE pull-in and the request rejoins the arbitration. -/
  | solenoidRetry (k : Fin 64)
  /-- SOLENOID_DEFER_TIMEOUT (R329): A request waits longer than DEFER_MS from acceptance and ends with DEFER_TMO. -/
  | solenoidDeferTimeout (k : Fin 64)
  /-- SOLENOID_SELF_TEST (R331): Every 60 s an OFF channel is tested with a 50 mA pulse, and a DRIVER fault brings in the spare switch. -/
  | solenoidSelfTest (k : Fin 64) (outcome : Fin 3)
  /-- BANK_CUT (R332): A bank's high-side opens on OVERCURRENT, STUCK_ON, PROTECT or SUPPLY and every request of the bank ends CUT. -/
  | bankCut (b : Fin 8) (reason : CutReason)
  /-- BANK_CMD_CUT (R332): BANK_CMD.CUT opens a bank's high-side switch with reason COMMAND. -/
  | bankCmdCut (w : Fin 8) (b : Fin 8)
  /-- BANK_CMD_RECLOSE (R332): BANK_CMD.RECLOSE tests the bank and recloses it unless the cause persists. -/
  | bankCmdReclose (w : Fin 8) (b : Fin 8) (passes : Bool)
  /-- BANK_SUPPLY_RECLOSE (R332): A bank cut for SUPPLY recloses after the bus has been above 40 V for 100 ms. -/
  | bankSupplyReclose (b : Fin 8)
  /-- ACTUATOR_OVERBUDGET (R335): The draw exceeds the budget for 5 ms with no pull-in in progress and fans are pulled back. -/
  | actuatorOverbudget
  /-- FAN_KICK_TIMEOUT (R341): A kick attempt passes its time without start, switching off, retrying or ending LOCKED_ROTOR. -/
  | fanKickTimeout (f : Fin 32)
  /-- FAN_STARTED (R341): Tach reaches 10 % of RATED during a kick and the fan enters RUN. -/
  | fanStarted (f : Fin 32)
  /-- FAN_TACH_TIMEOUT (R342): No tach edge arrives for two expected periods and the fan enters TACH_LOST or STOPPED. -/
  | fanTachTimeout (f : Fin 32)
  /-- FAN_OVERCURRENT (R342): Fan current exceeds 1.25 A for 1 ms and the fan switches off. -/
  | fanOvercurrent (f : Fin 32)
  /-- FAN_OC_RETRY (R342): 5 s after an overcurrent the fan kicks again, up to 3 attempts, then latches. -/
  | fanOcRetry (f : Fin 32)
  /-- FAN_TACH_RECOVERED (R342): A TACH_LOST fan shows tach edges within range for 1 s and returns to RUN. -/
  | fanTachRecovered (f : Fin 32)
  /-- FAN_RETRY (R342): FAN_CMD RETRY starts a new kick of a LOCKED_ROTOR or latched fan. -/
  | fanRetry (w : Fin 8) (f : Fin 32)
  /-- FAN_DEMAND_SILENT (R338): A HOST demand input is not written for FD_TMO and becomes silent. -/
  | fanDemandSilent (d : Fin 64)
  /-- CONVERTER_CHECK (R345): Once per second each converter is checked by reference injection, and after 3 failures a spare may take the input. -/
  | converterCheck (bad : List (Fin 128)) (spareBad : List (Fin 16))
  /-- SPAI_ASSIGN (R345): SPAI_CMD ASSIGN puts a spare analog channel behind an input. -/
  | spaiAssign (w : Fin 8) (sp : Fin 16) (inp : Fin 8)
  /-- SPAI_RELEASE (R345): SPAI_CMD RELEASE returns an input to its own converter. -/
  | spaiRelease (w : Fin 8) (sp : Fin 16) (inp : Fin 8)
  /-- WEAR_COUNTER_SAVE (R346): Every 10 minutes Serac writes the wear counters to its non-volatile store. -/
  | wearCounterSave
  /-- LEAK_MEASUREMENT (R360): Every 1 ms each leak input's resistance is measured and placed in a band. -/
  | leakMeasurement (readings : List (Fin 80 × Nat))
  /-- IMBALANCE_CHECK (R363): Every 1 ms a rack's supply and return flows are compared against its imbalance threshold. -/
  | imbalanceCheck (rack : Fin 48)
  /-- LEAK (R365): A rack's leak input is confirmed wet or its imbalance persists, SURVIVAL is imposed and isolation follows. -/
  | leak (rack : Fin 48)
  /-- LEAK_FAST (R366): A spot input is confirmed wet with the imbalance above threshold, and isolation is requested in the same tick. -/
  | leakFast (rack : Fin 48)
  /-- GFAULT (R364): A guarding input of a rack is faulted and the rack holds LEAKWATCH. -/
  | gfault (rack : Fin 48)
  /-- LEAK_WAIT_EXPIRY (R367): LEAK_WAIT passes without power confirmation and the isolation request is issued. -/
  | leakWaitExpiry (rack : Fin 48)
  /-- ISO_TRIP (R370): ISO_TRIP_S passes after POS became CLOSED and the rack is tripped and powered off. -/
  | isoTrip (rack : Fin 48)
  /-- LOOP_LEAK (R372): A loop-level spot input is confirmed wet and every rack holds LEAKWATCH. -/
  | loopLeak
  /-- LOOP_GFAULT (R354): A loop-level spot input or the loop flow source is faulted and every rack holds LEAKWATCH. -/
  | loopGfault
  /-- FLOW_SAMPLE_10MS (R373): Every 1 ms Serac forms Q10 from the flow source and judges sudden flow loss. -/
  | flowSample10ms
  /-- FLOW_EVAL_100MS (R373): Every 100 ms Serac forms Q and the slope b and evaluates slow flow loss and its time to limit. -/
  | flowEval100ms
  /-- DIE_HARD (R382): An accelerator counts DIE_PERSIST + 1 consecutive hard digests and its rack is tripped and powered off. -/
  | dieHard (rack : Fin 48)
  /-- DIGEST_LOST (R140): No guard digest arrives for 3 consecutive frames, die temperatures are absent and every rack holds LEAKWATCH. -/
  | digestLost
  /-- LIM_HARD (R384): A limit entry holds HARD for PERSIST ms and its ACTION is taken on its rack. -/
  | limHard (e : Fin 32)
  /-- LOOP_LIM_HARD (R354): A loop-scoped limit entry other than entry 0 reaches HARD and its ACTION applies on every rack. -/
  | loopLimHard (e : Fin 32)
  /-- SUP_HARD (R354): Limit entry 0 reaches HARD, every rack is tripped and the module enters FULLCOOL. -/
  | supHard
  /-- SEQUENCE_END (R356): A sequence's end condition holds with ACK_REQ = 0 and its holdings lift in that tick. -/
  | sequenceEnd (x : SeqRef)
  /-- POWEROFF_NOTICE_REPEAT (R385): Every 1 s while a trip holds with ACK_REQ set, the power-off notice is repeated. -/
  | poweroffNoticeRepeat (rack : Fin 48)
  /-- FULLCOOL_AUTO_EXIT (R391): FC_MIN has passed and every automatic cause has ended, and FULLCOOL ends. -/
  | fullcoolAutoExit
  /-- PRT_ACK (R358): A write of PRT_ACK acknowledges the ACK_REQ bits of a rack, the loop level, a field input or a limit entry. -/
  | prtAck (w : Fin 8) (value : Word)
  /-- HELLO (R421): The HELLO command returns levels, variant, module ID, row ownership and free session slots. -/
  | hello (c : Came) (tag : Word) (mbox : Fin 16)
  /-- SESS_OPEN (R537): SESS_OPEN is checked, the key is encapsulated and a session slot enters OPENING. -/
  | sessOpen (c : Came) (tag : Word) (mbox : Fin 16) (p : SessOpen)
  /-- SESS_KEY (R539): SESS_KEY checks the confirmation and the session slot enters OPEN. -/
  | sessKey (c : Came) (tag : Word) (mbox : Fin 16) (session : Word) (conf : List Byte) (peerKey : List Byte)
  /-- SESS_CLOSE (R410): SESS_CLOSE ends the session and releases its domains. -/
  | sessClose (q : Req)
  /-- SESSION_TIMEOUT (R410): No authenticated frame arrives for NET_SESS_TMO and the session ends. -/
  | sessionTimeout (slot : Fin 8)
  /-- SESSION_OPEN_TIMEOUT (R539): A slot in OPENING receives no valid SESS_KEY within 5 s and is freed. -/
  | sessionOpenTimeout (slot : Fin 8)
  /-- PING (R421): PING returns the wire time and the sample index. -/
  | ping (q : Req)
  /-- SUBSCRIBE (R421): SUBSCRIBE sets the notice classes the session receives. -/
  | subscribe (q : Req) (classes : Word)
  /-- ATTEST (R544): ATTEST returns an attestation report signed by AK-M. -/
  | attest (q : Req) (nonce : List Byte)
  /-- OWN_CLAIM (R415): OWN_CLAIM grants, renews, takes over or refuses an ownership domain. -/
  | ownClaim (q : Req) (domain : Byte) (flags : Byte)
  /-- OWN_RENEW (R416): OWN_RENEW restarts the lease of a held domain. -/
  | ownRenew (q : Req) (domain : Byte)
  /-- OWN_RELEASE (R416): OWN_RELEASE releases a held domain at once. -/
  | ownRelease (q : Req) (domain : Byte)
  /-- OWN_HANDOVER (R417): OWN_HANDOVER offers a held domain to a named session. -/
  | ownHandover (q : Req) (domain : Byte) (target : Word)
  /-- HANDOVER_OFFER_LAPSE (R417): A handover offer is not answered within 1 s and lapses. -/
  | handoverOfferLapse (domain : Fin 4)
  /-- OWN_QUERY (R421): OWN_QUERY returns the holder and lease of each domain. -/
  | ownQuery (q : Req)
  /-- OWNER_LEASE_EXPIRY (R416): A domain lease passes 2 s without renewal, the domain is released and the former holder is told. -/
  | ownerLeaseExpiry (domain : Fin 4)
  /-- REGRD (R422): REGRD reads COUNT consecutive register words after checking every address. -/
  | regrd (q : Req) (addr : Nat) (count : Nat) (busErr : Option Nat)
  /-- REGWR (R422): REGWR checks addresses, domains and state, then writes the words in ascending order. -/
  | regwr (q : Req) (addr : Nat) (values : List Word) (busErr : Option Nat)
  /-- REGISTER_WRITE (R264): A write to a register that has no behaviour of its own sets its fields, or is dropped for a reserved encoding. -/
  | registerWrite (w : Fin 8) (addr : Nat) (value : Word)
  /-- LATCHED_LOW_WORD_READ (R11): A read of a low word latches its high word or partner words for a consistent read. -/
  | latchedLowWordRead (addr : Nat)
  /-- RC_REGISTER_READ (R12): A read of an RC register returns its value and clears it in the same access. -/
  | rcRegisterRead (addr : Nat)
  /-- STATE_REQ_COMMISSION (R430): STATE_REQ COMMISSION moves the module from RUN to COMMISSION at the next tick edge. -/
  | stateReqCommission (q : Req)
  /-- STATE_REQ_RUN (R430): STATE_REQ RUN moves COMMISSION to RUN when a valid commissioning record exists, otherwise it is refused NO_RECORD. -/
  | stateReqRun (q : Req)
  /-- STATE_REQ_MANUAL (R430): STATE_REQ MANUAL moves the module to MANUAL. -/
  | stateReqManual (q : Req)
  /-- STATE_REQ_MAINT (R430): STATE_REQ MAINT moves the module to MAINT. -/
  | stateReqMaint (q : Req)
  /-- STATE_REQ_LEAVE (R430): STATE_REQ LEAVE leaves MANUAL or MAINT for RUN, COMMISSION or TABLE. -/
  | stateReqLeave (q : Req)
  /-- FULLCOOL_ENTER (R389): FULLCOOL_ENTER starts FULLCOOL at once, ahead of any request in execution. -/
  | fullcoolEnter (q : Req)
  /-- FULLCOOL_EXIT (R391): FULLCOOL_EXIT ends commanded FULLCOOL, or is refused while an automatic cause or FC_MIN holds. -/
  | fullcoolExit (q : Req)
  /-- RACK_ISOLATE (R392): RACK_ISOLATE starts LEAK on a rack without an input condition. -/
  | rackIsolate (q : Req) (rack : Byte)
  /-- RACK_TRIP (R392): RACK_TRIP starts CMD_TRIP on a rack. -/
  | rackTrip (q : Req) (rack : Byte)
  /-- ACK (R423): The ACK command acknowledges protection alarms or stream alarms, as PRT_ACK or STM_ACK would. -/
  | ack (q : Req) (what : Byte) (index : Word)
  /-- SETPOINT (R423): The SETPOINT command writes LP_SP of a loop slot. -/
  | setpoint (q : Req) (loop : Byte) (value : Word)
  /-- ACTION_ADD (R424): ACTION_ADD fills the lowest free action entry and commits it. -/
  | actionAdd (q : Req) (a : ActionFields)
  /-- ACTION_CANCEL (R424): ACTION_CANCEL cancels an entry and reports its final state after the following tick. -/
  | actionCancel (q : Req) (entry : BitVec 16)
  /-- PHASE_ANNOUNCE (R425): PHASE_ANNOUNCE records a job's step segments and their phase classes. -/
  | phaseAnnounce (q : Req) (job : Byte) (step : Word) (segs : List (BitVec 16 × BitVec 16))
  /-- STEP_MARK (R425): STEP_MARK delivers a scheduler step-boundary marker to a job slot. -/
  | stepMark (q : Req) (job : Byte) (step : Word) (stamp : Stamp)
  /-- JOB_SET_CLEAR (R425): JOB_SET with OP CLEAR empties a job slot's membership at the next computation. -/
  | jobSetClear (q : Req) (job : Byte)
  /-- JOB_SET_ADD (R425): JOB_SET with OP ADD adds accelerators to a job, moving them from other jobs. -/
  | jobSetAdd (q : Req) (job : Byte) (idx : List (BitVec 16))
  /-- JOB_SET_REMOVE (R425): JOB_SET with OP REMOVE removes accelerators from a job. -/
  | jobSetRemove (q : Req) (job : Byte) (idx : List (BitVec 16))
  /-- CEIL_SET (R426): CEIL_SET commits a ceiling entry and returns its sequence. -/
  | ceilSet (q : Req) (entry : BitVec 16) (scope : Byte) (form : Byte) (index : BitVec 16) (value : Word)
  /-- CEIL_CLEAR (R426): CEIL_CLEAR clears one or every valid ceiling entry. -/
  | ceilClear (q : Req) (entry : BitVec 16)
  /-- XFER_OPEN (R426): XFER_OPEN reserves space in the image store for an object and returns its handle. -/
  | xferOpen (q : Req) (kind : Byte) (flags : Byte) (size : BitVec 64)
  /-- XFER_DATA (R426): XFER_DATA writes bytes of an open object at an offset. -/
  | xferData (q : Req) (handle : BitVec 16) (offset : BitVec 64) (data : List Byte)
  /-- XFER_CLOSE (R426): XFER_CLOSE checks completeness and hash and closes, retains or deletes the object. -/
  | xferClose (q : Req) (handle : BitVec 16) (hash : List Byte)
  /-- XFER_READ (R426): XFER_READ returns bytes of a stored object. -/
  | xferRead (q : Req) (handle : BitVec 16) (offset : BitVec 64) (length : Word)
  /-- XFER_DELETE (R426): XFER_DELETE deletes a stored object. -/
  | xferDelete (q : Req) (handle : BitVec 16)
  /-- XFER_EXPIRY (R426): An object not closed within 60 s of its last XFER_DATA is deleted. -/
  | xferExpiry (handle : BitVec 16)
  /-- STORE_ATTACH (R437): STORE_ATTACH attaches the session as the host table store. -/
  | storeAttach (q : Req)
  /-- STORE_DETACH (R439): STORE_DETACH detaches the host table store. -/
  | storeDetach (q : Req)
  /-- STORE_PUT_RESPONSE (R438): The store master answers a STORE_PUT, and an OK to the last part completes the save. -/
  | storePutResponse (q : Req) (ok : Bool)
  /-- STORE_GET_RESPONSE (R438): The store master answers a STORE_GET with data or NOT_AVAILABLE. -/
  | storeGetResponse (q : Req) (size : Nat) (epoch : BitVec 64) (data : Option (List Byte))
  /-- DEVICE_REQUEST_RETRY (R439): A device request is unanswered after 1 s and is sent again, or fails after 3 retries. -/
  | deviceRequestRetry (tag : Word)
  /-- DEFERRED_EXECUTE (R434): A held request executes in the first tick its state becomes legal, after all checks rerun. -/
  | deferredExecute (slot : Fin 8) (mbox : Fin 16)
  /-- DEFER_TIMEOUT (R435): DEFER_MS passes with a request still held and it is answered STATE_TIMEOUT. -/
  | deferTimeout (slot : Fin 8) (mbox : Fin 16)
  /-- PORT_LINK_DOWN (R399): A port loses link and its traffic moves to the network's other ports within 3 ms. -/
  | portLinkDown (port : Fin 16)
  /-- PORT_LINK_UP (R399): A port gains link. -/
  | portLinkUp (port : Fin 16)
  /-- CAN_FRAME_RECEIVED (R456): A CAN frame received without error is matched to the high-priority buffer or a receive object. -/
  | canFrameReceived (b : Fin 8) (f : CanFrame) (missed : Nat)
  /-- POD_QUANTITY_TIMEOUT (R465): No fresh frame reaches a pod quantity for its TMO and it becomes absent. -/
  | podQuantityTimeout (q : Fin 256)
  /-- OBJ_STAT_READ (R458): A read of OBJ_STAT latches the object into the bus shadow and clears NEW and OVR. -/
  | objStatRead (b : Fin 8) (o : Fin 128)
  /-- HP_STAT_READ (R460): A read of HP_STAT latches the high-priority buffer and clears NEW and OVR. -/
  | hpStatRead (b : Fin 8)
  /-- CAN_TXREQ (R459): OBJ_CMD.TXREQ queues a transmit object's frame for arbitration. -/
  | canTxreq (w : Fin 8) (b : Fin 8) (o : Fin 128)
  /-- CAN_ABORT (R459): OBJ_CMD.ABORT withdraws a pending frame that has not started. -/
  | canAbort (w : Fin 8) (b : Fin 8) (o : Fin 128) (started : Bool)
  /-- CAN_TX_COMPLETE (R459): A queued frame finishes on the bus or its single shot fails. -/
  | canTxComplete (b : Fin 8) (o : Fin 128) (r : TxOutcome)
  /-- CAN_ERROR_STATE (R461): Error counting moves the bus into error-passive or bus-off. -/
  | canErrorState (b : Fin 8) (tec : Fin 512) (rec : Fin 512) (frames : Nat)
  /-- CAN_RECOVERY_START (R462): REC_DLY passes after a bus-off and the ISO recovery sequence starts. -/
  | canRecoveryStart (b : Fin 8)
  /-- CAN_RECOVERED (R462): The recovery sequence ends and the bus is error-active again. -/
  | canRecovered (b : Fin 8)
  /-- CAN_MODE_WRITE (R452): A write of BUS_CTRL.MODE changes the mode, resets the error counters and starts integration. -/
  | canModeWrite (w : Fin 8) (b : Fin 8) (value : Word)
  /-- CAN_AUTO_DWELL_TIMEOUT (R454): Rate detection dwells 50 ms without an error-free frame and moves to the next candidate. -/
  | canAutoDwellTimeout (b : Fin 8)
  /-- CAN_AUTO_TIMEOUT (R454): AUTO_TMO passes without the rates found and AUTO_FAIL is set. -/
  | canAutoTimeout (b : Fin 8)
  /-- DRIVE_CMD_SEND (R466): At its scheduled tick each CAN pump channel sends its DRIVE_CMD frame. -/
  | driveCmdSend
  /-- DRIVE_LOST (R468): No fresh DRIVE_STATUS arrives for TMO, DRV_STAT.LOST is set and a running pump trips. -/
  | driveLost (p : Fin 8)
  /-- HEARTBEAT_SEND (R478): At tick 50 of every frame the module sends a HEARTBEAT on both pair-link lanes and both networks. -/
  | heartbeatSend
  /-- HEARTBEAT_RECEIVED (R478): A valid partner heartbeat arrives on a path. -/
  | heartbeatReceived (path : PairPath) (h : Heartbeat)
  /-- PARTNER_LOST (R479): Both paths miss three consecutive frames of heartbeats and the partner is declared lost. -/
  | partnerLost
  /-- PEER_HEALTH_LOST (R480): A standby sees PEER_HEALTH deasserted for 1 ms. -/
  | peerHealthLost
  /-- TAKEOVER (R486): In the tick after the declaration, the standby enters TABLE, drives outputs and asserts HEALTH. -/
  | takeover
  /-- ROW_ADDRESS_REPEAT (R489): The row address announcements are repeated twice at 100 ms intervals. -/
  | rowAddressRepeat
  /-- SPLIT (R488): A module that took over still reads SEL = 0 after 5 ms, withdraws its HEALTH and resets. -/
  | split
  /-- PAIR_TICK_MARKER (R476): The standby receives the active module's tick marker and disciplines its tick, sample index and LOP_TCNT on it. -/
  | pairTickMarker (lane : Fin 2) (sidx : BitVec 64) (tcnt : BitVec 64)
  /-- PAIR_LANE_DOWN (R476): A pair-link lane loses symbol lock or delivers no valid frame for 100 µs. -/
  | pairLaneDown (lane : Fin 2) (lockLost : Bool)
  /-- PAI_WARM (R475): A write of PAI_CTRL.WARM powers and boots the standby's main die, or powers it down. -/
  | paiWarm (w : Fin 8) (value : Word)
  /-- PARTNER_READ_REGS (R477): PAI_PRD_CTRL GO with KIND = REGS sends a PEEK_REQ for partner register words. -/
  | partnerReadRegs (w : Fin 8) (value : Word)
  /-- PARTNER_READ_FIRN (R477): PAI_PRD_CTRL GO with KIND = FIRN sends a PEEK_REQ for a partner Firn record. -/
  | partnerReadFirn (w : Fin 8) (value : Word)
  /-- PEEK_REQ (R477): A module receives a PEEK_REQ and answers with PEEK_DATA within 1 ms. -/
  | peekReq (firn : Bool) (area : Fin 2) (count : Fin 16) (addr : BitVec 64)
  /-- PEEK_DATA (R477): PEEK_DATA arrives and lands in PAI_PRD_DATA with its result. -/
  | peekData (result : Fin 5) (words : List Word)
  /-- PEEK_TIMEOUT (R477): No PEEK_DATA arrives within 1 ms and PAI_PRD_STAT reports TIMEOUT. -/
  | peekTimeout
  /-- IMAGE_CUT (R481): At every frame boundary at a multiple of 1,000 ticks the active module cuts and sends a takeover image. -/
  | imageCut
  /-- IMAGE_FRAME (R483): An IMAGE frame arrives, and a completed image is checked and applied at the next boundary or discarded. -/
  | imageFrame (path : PairPath) (iseq : Word) (offset : Nat) (bytes : List Byte)
  /-- IMAGE_STALE (R484): No image has been applied for 50 ms and IMG_STALE is set. -/
  | imageStale
  /-- PAIR_BARRIER_PROPOSE (R491): The standby receives a pair barrier proposal, commits its SIDX entry and answers ACCEPT. -/
  | pairBarrierPropose (b : BarrierMsg)
  /-- PAIR_BARRIER_ACCEPT (R491): The active module receives ACCEPT and commits its own barrier entry. -/
  | pairBarrierAccept (id : Fin 16)
  /-- PAIR_BARRIER_CANCEL (R491): Without ACCEPT by N − 100 the active module sends CANCEL and the standby cancels its entry. -/
  | pairBarrierCancel (id : Fin 16)
  /-- FED_BARRIER_PROPOSE (R492): A member receives a BARRIER frame, commits a TIME entry and answers ACK. -/
  | fedBarrierPropose (m : Option Came × Fin 64) (b : BarrierMsg)
  /-- FED_BARRIER_ACK (R492): The coordinator receives a member's barrier ACK. -/
  | fedBarrierAck (m : Heard (Fin 64)) (id : Fin 16)
  /-- FED_BARRIER_CONFIRM_DUE (R492): At T − 5 ms the coordinator sends CONFIRM three times when every member has answered. -/
  | fedBarrierConfirmDue (id : Fin 16)
  /-- FED_BARRIER_CONFIRM (R492): A member receives the barrier CONFIRM. -/
  | fedBarrierConfirm (m : Heard (Fin 64)) (id : Fin 16) (t : BitVec 64)
  /-- FED_BARRIER_NO_CONFIRM (R492): A member without CONFIRM at T − 1 ms cancels its barrier entry. -/
  | fedBarrierNoConfirm (id : Fin 16)
  /-- ROLE_SWAP_REQUEST (R493): A write of PAI_SWAP.GO checks the pair and proposes a ROLE_SWAP barrier. -/
  | roleSwapRequest (w : Fin 8) (value : Word)
  /-- TICK_RECORD (R494): From N − 100 to N − 1 the standby receives per-tick records of the active loop state. -/
  | tickRecord (r : TickRec)
  /-- SWAP_READY (R494): At tick N − 10 the standby sends READY if it holds every record and is healthy. -/
  | swapReady
  /-- LOCKSTEP_ENTER_REQUEST (R497): PAI_LS_CTRL.ENTER checks the pair and proposes a LOCKSTEP_ENTER barrier. -/
  | lockstepEnterRequest (w : Fin 8) (p : LsPartner)
  /-- LOCKSTEP_LEAVE (R500): PAI_LS_CTRL.LEAVE ends lock-step with result LEFT. -/
  | lockstepLeave (w : Fin 8)
  /-- LOCKSTEP_INPUT_RECORD (R499): The standby receives the input record of a frame and runs the frame from it. -/
  | lockstepInputRecord (f : Heard LogFrame)
  /-- LOCKSTEP_DIGEST (R500): The standby compares the active module's frame digest with its own, ending lock-step on mismatch. -/
  | lockstepDigest (frame : Heard Nat) (d : List Byte)
  /-- LOCKSTEP_GAP (R500): An input record is missing for 10 frames, or the lag exceeds 2,000, and lock-step ends. -/
  | lockstepGap
  /-- FED_ANNOUNCE_SEND (R502): Every 10 ms an active member's port die sends ANNOUNCE to the federation group. -/
  | fedAnnounceSend
  /-- FED_ANNOUNCE (R502): A member's ANNOUNCE is received and its membership state updated. -/
  | fedAnnounce (a : Heard FedAnnounce)
  /-- FED_MEMBER_LOST (R502): A member is not heard for PAI_FED_LOST and is marked LOST. -/
  | fedMemberLost (m : Fin 64)
  /-- FED_ROWMAP (R502): A ROWMAP frame arrives and the member's row map is stored. -/
  | fedRowmap (m : Heard (Fin 64)) (map : List RowAcc)
  /-- FED_ROWMAP_SEND (R502): On change and every 60 s the module sends its ROWMAP. -/
  | fedRowmapSend
  /-- FED_COORDINATOR_ASSUME (R504): A module has seen itself as coordinator for 100 ms and begins to act as coordinator. -/
  | fedCoordinatorAssume
  /-- FED_ALLOC_COMPUTE (R505): Every 100 ms the coordinator computes member budgets and ramps and sends ALLOC. -/
  | fedAllocCompute
  /-- FED_ALLOC (R505): A member receives ALLOC and uses its values from EFFECTIVE. -/
  | fedAlloc (m : Heard (Fin 64)) (effective : BitVec 64) (entries : List AllocEntry)
  /-- FED_ALLOC_STALE (R505): No ALLOC arrives for 1 s and the member keeps its last values. -/
  | fedAllocStale
  /-- FED_RESYNC (R492): A member's FEPOCH differs from the coordinator's for 1 s and it resyncs at the next barrier. -/
  | fedResync
  /-- ADOPT_PROPOSE (R509): 100 ms after a member is lost or returns, the coordinator proposes an ADOPT federation barrier. -/
  | adoptPropose (m : Fin 64)
  /-- REDIRECT_SEND (R510): Every 1 s an adopter sends REDIRECT to each adopted rack's group. -/
  | redirectSend
  /-- FW_INSTALL (R526): SEC_FW_CMD INSTALL verifies a FIRMWARE object and writes it into the part's non-GOOD slot. -/
  | fwInstall (w : Fin 8) (part : Fin 4) (handle : BitVec 16)
  /-- FW_INSTALL_DONE (R526): An INSTALL ends and SEC_FW_STAT.RESULT reports its outcome. -/
  | fwInstallDone
  /-- FW_ACTIVATE (R526): SEC_FW_CMD ACTIVATE marks VALID slots TRIAL and resets the module at the next frame boundary. -/
  | fwActivate (w : Fin 8) (parts : Fin 8)
  /-- FW_COMMIT (R526): SEC_FW_CMD COMMIT blows rollback fuses up to the SVN of the GOOD slot. -/
  | fwCommit (w : Fin 8) (parts : Fin 8)
  /-- FW_REVERT (R526): SEC_FW_CMD REVERT marks the non-GOOD VALID slot TRIAL and resets the module. -/
  | fwRevert (w : Fin 8) (parts : Fin 8)
  /-- FW_TRIAL_GOOD (R525): A TRIAL slot's part runs 60 s past its ready point and the slot becomes GOOD. -/
  | fwTrialGood (part : Fin 3)
  /-- ENROL_COMMIT (R532): A write of EN_CFG with VALID commits an enrolment entry and may end or strip sessions. -/
  | enrolCommit (w : Fin 8) (n : Fin 64) (value : Word)
  /-- PROGRAM_KEY_COMMIT (R535): A write of PK_CFG commits or clears a program key entry. -/
  | programKeyCommit (w : Fin 8) (k : Fin 16) (value : Word)
  /-- SEND_KEY_RENEW (R543): Every 24 h, or when a SEQ passes 2³¹, the module renews its Craori send key by peer exchanges. -/
  | sendKeyRenew
  /-- FIRN_WINDOW_LATCH (R563): A write of W_CTRL.NEXT = 1 latches the next record and snapshot at the cursor into a read window. -/
  | firnWindowLatch (w : Fin 8) (win : Fin 8) (value : Word)
  /-- FIRN_CLEAR (R564): A write of FRN_CLR with CONFIRM = 0xC1EA clears the named areas at the next tick edge. -/
  | firnClear (w : Fin 8) (value : Word)
  /-- FIRN_MIRROR_COPY (R557): The main die copies Firn records into the DDR4 ring in SEQ order. -/
  | firnMirrorCopy
  /-- ANCHOR_SECOND (R561): At the first tick edge past a whole second of module time, an anchor entry is written. -/
  | anchorSecond
  /-- ANCHOR_FREE (R561): Every 100,000 ticks while the tick does not follow module time, a FREE anchor is written. -/
  | anchorFree
  /-- ECC_CORRECTED_ERROR (R567): A memory read meets a correctable error, which is corrected, written back and counted. -/
  | eccCorrectedError (mem : MemKind) (unit : Fin 64) (place : Fin 65536)
  /-- BUS_ERROR (R569): A transfer fails twice by parity, ECC or timeout and is declared a bus error. -/
  | busError (lane : Option Lane) (obj : Nat)
  /-- SCRUB_PASS (R570): A scrub period expires and a pass reads and corrects every word of a memory kind. -/
  | scrubPass (mem : MemKind)
  /-- ECC_TEST (R571): A write of DIA_ECCTEST with GO = 1 tests the check bits of a memory with a test word. -/
  | eccTest (w : Fin 8) (value : Word) (pass : Bool)
  /-- DIGEST_LATCH (R580): A write of DIA_DIG_SEL_HI latches the digest entry of a frame into DIA_DIGW. -/
  | digestLatch (w : Fin 8) (value : Word)
  /-- FIELD_INPUT_CONFIG_WRITE (R611): A write of ACT_INi reconfigures a logical input from the next tick edge and restarts its supervision windows. -/
  | fieldInputConfigWrite (w : Fin 8) (i : Fin 144) (word : Fin 3) (value : Word)
  /-- LOGIC_INPUT_RESTORED (R595): A lost logic input, PA or PB, returns within its operating range and PA_OK or PB_OK reads 1 again. -/
  | logicInputRestored (input : Fin 2) (volts : Fin 65536)
  /-- MODULE_RESET_RELEASE (R587): MRST_N rises after a valid reset and the module starts as in Table 11 from the 20 ms point. -/
  | moduleResetRelease (pins : Straps)
  /-- PORT_DIE_THERMAL_RELEASE (R598): A port die held in reset by its thermal limit falls below 95 °C and is released to restart its firmware. -/
  | portDieThermalRelease
  /-- UNCORRECTABLE_ERROR (R567): A memory read outside a run meets an uncorrectable error, which resets the port die or main die or switches to the other non-volatile copy. -/
  | uncorrectableError (mem : MemKind) (unit : Fin 64) (place : Fin 65536)
  /-- ZHOIDE_PROTOCOL_VIOLATION (R440): A Zhoide frame that is unparseable, fails a check of Table 9, is a copy or old, or names an unknown command is dropped or answered and counted toward quarantine. -/
  | zhoideProtocolViolation (c : Came) (l : Letter) (v : BadFrame)
  /-- SOLENOID_SHORT (R325): Coil current rises above 1.25 × I_PEAK during a pull-in, and the channel switches off into FAULT with SHORT. -/
  | solenoidShort (k : Fin 64)
  /-- PEER_EXCHANGE_RESPONSE (R542): The initiator of a peer exchange receives the responder's SESS_OPEN or SESS_KEY response, checks its DIK and takes the peer's send key. -/
  | peerExchangeResponse (peer : Fin 128) (p : PeerResponse)
  /-- TABLE_CREATE_DONE (R225): The creation of a table from an image completes, and T_STAT leaves CREATING for READY, PARTIAL or FAULT with IMAGE. -/
  | tableCreateDone (t : Fin 4096)
deriving DecidableEq, Repr

end Sys2Proof
end

