-- ==== Sys2Proof/Machine/State.lean ====
section
/-! DEFINITION. The machine's state: plain data. Every software-visible register word lives in `regs`, a sparse list of
(device address, word) pairs in canonical form (addresses strictly rising, no entry equal to the word's reset value); an
unlisted word reads its reset value. What the spec gives the block beside its registers (queues, timers, buffers,
sessions, stores, keys) has a field of its own, block by block. -/

namespace Sys2Proof.Machine

/-- A sparse table: rising keys, an absent key stands for the default that its reader names. -/
abbrev Tab (α : Type) := List (Nat × α)

/-- Time (chapter 02): the model's own count of ticks since power-up (R75), the sample index (R73), module time in ns
(R59), LOP_TCNT (R269), the pending re-anchor (R77), the target ticks of requested common snapshots (R99), the last
snapshot ID and its tick (R100), the partner's sample index (R78), the whole second and the tick of the last SECOND and
FREE anchors (R561), whether a row has already begun the present tick edge (R32), and the tick of the last boundary that closed a whole
frame of ticks (R75). -/
structure Clock where
  now : Nat
  sidx : BitVec 64
  mtime : BitVec 64
  tcnt : BitVec 64
  reanchor : Bool
  snapAt : List Nat
  snapId : Nat
  snapTick : Option Nat
  partnerSidx : Option (BitVec 64)
  lastSecond : Nat
  lastFree : Nat
  begun : Bool
  judged : Nat
deriving DecidableEq, Repr

/-- One PTP instance (R59 to R64): the last Announce of each master heard on each port and its tick (by `masterKey`), the master chosen, the
last offset, the runs of Sync messages inside 100 ns and outside 1 µs, and whether it meets the lock criterion. -/
structure Ptp where
  seen : Tab (Announce × Nat)
  master : Option Nat
  offset : Int
  inside : Nat
  outside : Nat
  lock : Bool
deriving DecidableEq, Repr

/-- The time servo (R61 to R68): the instances, whether one of them has been selected, whether time has been stepped in this
ACQUIRE, the tick and the error of entry to HOLDOVER, the tick since which the instances lie apart, whether that has
been told, and the slewing rate of module time in parts per 10^9 with the part of a ns not yet added, in 10^-5 ns. -/
structure Servo where
  a : Ptp
  b : Ptp
  chosen : Bool
  stepped : Bool
  holdFrom : Nat
  holdBase : Nat
  apartFrom : Option Nat
  told : Bool
  rate : Int
  frac : Int
deriving DecidableEq, Repr

/-- A step-boundary collection window (R80): its step, the tick it opened in, and the boundary times received. -/
structure MarkWindow where
  step : BitVec 32
  openedAt : Nat
  times : List (BitVec 64)
deriving DecidableEq, Repr

/-- The tracker of one job slot (R79 to R84, R188) beside its registers: the JOB_CFG word in force, the period in ns (0
before the first interval), the extended angle, the tracked angle while x is held, the last fused boundary, the collection
window, the outlier run, the run of intervals that agree, the last interval, the announced segments (start angle, class) in
force and those that wait for a step, the job class, and the announced phases by step. -/
structure Job where
  cfg : Word
  period : Nat
  x : BitVec 64
  heldTo : Option (BitVec 64)
  last : Option (BitVec 32 × BitVec 64)
  window : Option MarkWindow
  outliers : Nat
  agree : Nat
  interval : Option Nat
  segs : List (BitVec 16 × BitVec 16)
  segsNext : List (BitVec 32 × List (BitVec 16 × BitVec 16))
  cls : Option Nat
  history : List (BitVec 32 × List (BitVec 16 × BitVec 16))
deriving DecidableEq, Repr

/-- A taken cancel of an action entry (R86): the entry with the sequence number of its commit, the tick it was taken in, and the
ACTION_CANCEL request to answer after the next edge (R424). -/
structure Cancel where
  entry : Nat
  seq : BitVec 32
  taken : Nat
  reply : Option Req
deriving DecidableEq, Repr

/-- The action table beside its entries' registers (R85 to R96): the last commit sequence number, the ARMED entries in
commit order, the tick each was committed in, the lateness in µs of entries that fire late, the next step of EVERY entries,
the cancels taken, the setpoint trims the main die carries in its packets (Table 4), and the SEQ of its last packet (R33). -/
structure Actions where
  seq : BitVec 32
  armed : List Nat
  since : Tab Nat
  late : Tab Nat
  every : Tab (BitVec 32)
  cancels : List Cancel
  trims : Tab Word
  sealed : BitVec 32
deriving DecidableEq, Repr

/-- An answer to a Zhoide request (R406): its LEVEL and SEQ, and the response fields in the order of Table 6 of chapter 10. A sessionless
answer has session 0 and SEQ 0. -/
structure Answer where
  level : Nat
  seq : Nat
  session : Word
  mbox : Nat
  tag : Word
  cmd : Nat
  status : Nat
  state : Nat
  legal : Nat
  detail : Nat
  body : List Nat
deriving DecidableEq, Repr

/-- A request in a deferral slot (R433): the command, the tick of its acceptance, its timeout in ms, its place in the
order of acceptance, its command code and the states in which it is legal. -/
structure HeldReq where
  cmd : Instr
  tag : Word
  at_ : Nat
  ms : Nat
  order : Nat
  code : Nat
  legal : Nat
deriving DecidableEq, Repr

/-- A request of a mailbox as it arrived (R402, R405): its tag, the SEQ of its latest frame with the network that frame came on, whether a
copy of that frame has come on the other network, whether the request has come on both, and the answer sent to it. -/
structure Arrival where
  tag : Word
  seq : BitVec 64
  net : Net
  copied : Bool
  both : Bool
  sent : Option Answer
deriving DecidableEq, Repr

/-- A mailbox (R412, R413): the tag of the request in execution, the held request, the stored last answer, and the arrivals of its latest
request and of those still to be answered. -/
structure Mbox where
  exec : Option Word
  held : Option HeldReq
  last : Option Answer
  arrivals : List Arrival
deriving DecidableEq, Repr

/-- A session slot beside NET_SESSs (R405, R408, R410): the master's priorities per domain, the subscribed notice
classes, the receive window of frame numbers, the sender's next number, the ticks of the last frames, the time the slot
entered OPENING, the notice and device tags, the keys, the transcript of the opening, and the mailboxes. -/
structure Session where
  prio : List Nat
  subs : Nat
  rxHigh : Nat
  rxWin : Nat
  txNext : Nat
  lastRx : Nat
  lastA : Option Nat
  lastB : Option Nat
  openedAt : Nat
  notices : Nat
  keyIn : List Byte
  keyOut : List Byte
  keyConf : List Byte
  transcript : List Byte
  mbox : Tab Mbox
deriving DecidableEq, Repr

/-- A handover offer (R417): the session slot it names and the tick it was made. -/
structure Offer where
  target : Nat
  at_ : Nat
deriving DecidableEq, Repr

/-- A source under violation counting (R441): its address, the second of module time counted and the violations in it,
and the tick of its last PROTO_ERROR answer (R440) and notice (R126). -/
structure Source where
  addr : Nat
  second : Nat
  count : Nat
  lastErr : Option Nat
  lastNotice : Option Nat
deriving DecidableEq, Repr

/-- An object of the image store (R426): kind (1 PROGRAM, 2 TABLE, 3 LOG, 4 FIRMWARE), RETAIN flag, size, the bytes
written by offset, whether it is closed, its hash once closed, and the tick of its last XFER_DATA. -/
structure StoreObj where
  kind : Nat
  retain : Bool
  size : Nat
  data : Tab Byte
  closed : Bool
  hash : List Byte
  lastData : Nat
  domain : Nat
deriving DecidableEq, Repr

/-- A device request to the host table store (R437 to R439): its command (0xC1 STORE_PUT, 0xC2 STORE_GET), key, the
tick of its last sending, the times sent, the offset reached, the total, whether this part is the last, and the bytes received so far. -/
structure DeviceReq where
  tag : Word
  cmd : Nat
  key : List Nat
  sentAt : Nat
  sent : Nat
  offset : Nat
  total : Nat
  last : Bool
  buf : List Byte := []
deriving DecidableEq, Repr

/-- Zhoide (chapter 10): the session table, the lease and offer of each domain, the violating sources, the quarantine
ends, the image store and the non-volatile image store, the attached table store and its outstanding device request, the
acceptance counter of deferrals, and the last session ID given. -/
structure Zhoide where
  sess : Tab Session
  lease : Tab Nat
  offers : Tab Offer
  sources : List Source
  quarEnd : Tab Nat
  quarNext : Tab Nat
  store : Tab StoreObj
  nvStore : Tab StoreObj
  attached : Option Nat
  devs : List DeviceReq
  devTag : Nat
  held : Nat
  lastSession : Nat
deriving DecidableEq, Repr

/-- A register write that has reached Serac and waits for the next tick edge (R264): the writer's session slot, the
address and the word. -/
structure SeracWrite where
  slot : Nat
  addr : Nat
  value : Word
deriving DecidableEq, Repr

/-- A commissioning record (R49), with the CRC-32 it carries. -/
structure CrecRecord where
  seq : Nat
  time : BitVec 64
  master : Nat
  variant : Nat
  moduleId : Nat
  images : List (Nat × Nat × List Byte × Bool)
  part : Word
  harness : List (Option (Nat × Nat))
  crc : Nat
deriving DecidableEq, Repr

/-- The whole module (chapters 01 and 15): which dies run, the sampled and live straps, the pending state request, the
commissioning record and its pending making, the frame counters of R38 and R43, the entry tick of BOOT and of the
readiness points, the hot-swap and reset lines; whether logic power is on, the tick the hold-up ends at (R595), whether the first tick after
BOOT is still to come, whether a heartbeat of another module ID was heard (R589), and what stands at each harness position. -/
structure Sys where
  mated : Bool
  inReset : Bool
  seracUp : Bool
  portUp : Bool
  mainUp : Bool
  mainPowered : Bool
  mainHeld : Bool
  mainReady : Bool
  mainThermal : Bool
  portThermal : Bool
  mainThrottled : Bool
  hold : Bool
  straps : Straps
  pins : Straps
  stateReq : List (Nat × Req × Nat)
  crec : Option CrecRecord
  crecMake : Option Nat
  ceilReset : Option Nat
  noPacket : Nat
  applied : Nat
  bootAt : Nat
  readyAt : Tab Nat
  fwReset : Bool
  mateAt : Nat
  pfail : Bool
  wdog : Bool
  health : Bool
  excite : Bool
  shedFrom : Option Nat
  bootCause : Nat
  powered : Bool
  powerEnd : Option Nat
  firstTick : Bool
  mismatch : Bool
  harn : Tab (Option (List Byte))
deriving DecidableEq, Repr

/-- A Firn record (R549). `cls` is the place of its raiser in the order of R553: 0 protection, 1 loops, 2 actuators,
3 CAN FD, 4 the pair, 5 the rest of Serac, 6 the port die, 7 the main die. -/
structure FirnRec where
  seq : Nat
  code : Nat
  src : Nat
  cls : Nat
  first : Bool
  tainted : Bool
  standby : Bool
  trig : Bool
  snapId : Nat
  state : Nat
  ret : Nat
  moduleId : Nat
  slot : Nat
  obj : Nat
  args : List Nat
  snap : Option (List Word)
deriving DecidableEq, Repr

/-- A time anchor (R561): KIND 0 SECOND, 1 STEP, 2 ANCHOR, 3 FREE. -/
structure Anchor where
  seq : Nat
  sidx : BitVec 64
  tcnt : BitVec 64
  mtime : BitVec 64
  servo : Nat
  err : Word
  kind : Nat
  valid : Bool
deriving DecidableEq, Repr

/-- Firn (chapter 14): the next SEQ and the reserved limit, the records raised in this tick, the merge queue, the losses
not yet told, the three areas, the token buckets (credit in 1/100,000 token and the tick it was brought up to), the
anchors with their mirror, the next SEQ to mirror, the pending authorised clear, the records of the last 10 ms, and the digest rings. -/
structure Firn where
  seq : Nat
  limit : Nat
  fresh : List FirnRec
  queue : List FirnRec
  lost : Nat
  lostSrc : Nat
  first : List FirnRec
  circ : List FirnRec
  ring : List FirnRec
  buckets : Tab (Nat × Nat)
  anchors : List Anchor
  anchorRing : List Anchor
  mirror : Nat
  clear : Option (Nat × Nat)
  recent : List (Nat × Nat)
  digests : Tab (List Byte)
  rplDigests : Tab (List Byte)
deriving DecidableEq, Repr

/-- An LMS key holder's leaf state (R528): the next leaf and the reserved limit. -/
structure Leaves where
  next : Nat
  limit : Nat
deriving DecidableEq, Repr

/-- A peer exchange in progress (R542, R543), as the initiator: the peer's session ID, the shared secret's keys and the
transcript. -/
structure Exchange where
  session : Word
  keyIn : List Byte
  keyOut : List Byte
  keyConf : List Byte
  transcript : List Byte
deriving DecidableEq, Repr

/-- Security (chapter 13): the two attestation keys' leaves, the exchanges with peers (as initiator
and as responder), the send keys of the peers with the previous key and the tick it ends, this module's send key with the
tick it was drawn, the running installation (part, object), the image in each firmware slot by part × 2 + slot, the Craori frames sent by
TYPE with the crossings of 2^31 not yet answered by a renewal (R543), and the enrolment entries and program keys as committed: EN_MASTER and the
public key of each (R532, R535). -/
structure Sec where
  akm : Leaves
  akp : Leaves
  opening : Tab Exchange
  responding : Tab Exchange
  peerKeys : Tab (List Byte)
  peerOld : Tab (List Byte × Nat)
  sendKey : List Byte
  sendAt : Nat
  sendNext : Option (List Byte)
  awaiting : List Nat
  install : Option (Nat × Nat)
  fwImages : Tab (List Byte)
  craSeq : Tab Nat
  crossed : Nat
  enr : Tab (Word × List Byte)
  pkey : Tab (List Byte)
deriving DecidableEq, Repr

/-- Supervision of one temperature source or stream beside its register word (R127 to R136): the STALE, FAULT and SUSPECT
conditions, the starts of the runs of valid readings, of the residual and of the absence of every setting condition, the
tick of the last sample with a reading, and the readings and load references of the STUCK window. -/
structure Supv where
  since : Nat
  stale : Bool
  fault : Bool
  suspect : Bool
  validFrom : Option Nat
  resFrom : Option Nat
  clearFrom : Option Nat
  lastRead : Nat
  reads : List (Nat × Int)
  loads : List (Nat × Option Nat)
deriving DecidableEq, Repr

/-- A stream beside its registers: the sample index and time of its last accepted sample, the tick of its forecast, and
its supervision. -/
structure Strm where
  lastIdx : Option (BitVec 64)
  lastTime : BitVec 64
  fcastAt : Nat
  sup : Supv
deriving DecidableEq, Repr

/-- A record of a stream frame (R108): channel, format, quality, time after TBASE, and its samples (a MARK sample holds
the step number and the boundary time in one number). -/
structure StrmRec where
  chan : Nat
  fmt : Nat
  qual : Nat
  dt : Nat
  samples : List Nat
deriving DecidableEq, Repr

/-- A frame held by the reorder stage (R113), with the tick and the module time of its arrival in ns (R65). -/
structure HeldFrame where
  seq : BitVec 32
  at_ : Nat
  arrived : BitVec 64
  tbase : BitVec 64
  recs : List StrmRec
deriving DecidableEq, Repr

/-- A stream source beside SRC_STAT and SRC_SEQ (R111 to R113): the window, the tick of the last frame passed, the last
number released, the held frames, the ticks of the last frames per network, and its address. -/
structure StrmSrc where
  seen : Nat
  passed : Option Nat
  released : Option (BitVec 32)
  held : List HeldFrame
  lastA : Option Nat
  lastB : Option Nat
  addr : Nat
deriving DecidableEq, Repr

/-- An admitted stream commit that waits for its boundary (R123). -/
structure StrmCommit where
  at_ : Nat
  cfg : List (Nat × Word)
  pairs : Tab (Word × Word × Word)
deriving DecidableEq, Repr

/-- A guard digest under way to Serac (R140): its level, its tag, its number, and its entries that differ from the no-value code. -/
structure Digest where
  level : Nat
  tag : BitVec 64
  seq : Nat
  entries : Tab Nat
deriving DecidableEq, Repr

/-- Telemetry (chapter 03): streams, sources, the pairs in force with the control and protection values of the last
boundary, the pending commit, the acknowledgements of the frame, the samples passed in the frame, the guard digest sent,
and the row: the rack of each local index, and the global ID of each adopted one (log entry 11). -/
structure Streams where
  strm : Tab Strm
  src : Tab StrmSrc
  pairs : Tab (Word × Word × Word)
  pairVal : Tab (Option Int × Option (Int × Bool))
  commit : Option StrmCommit
  acks : List Nat
  ackAll : Bool
  passed : Nat
  digest : Option Digest
  digestSeq : Nat
  row : Tab Nat
  adopted : Tab Nat
deriving DecidableEq, Repr

/-- A block of 32 elements (R148): the shared exponent and the mantissas, none for the absent code. -/
structure Blk where
  exp : Int
  els : List (Option Int)
deriving DecidableEq, Repr

/-- A buffer entry of a program image (R164), with LINES, ROWS and BLOCKS already counted from 1. -/
structure BufDef where
  base : Nat
  lines : Nat
  kind : Nat
  rows : Nat
  blocks : Nat
deriving DecidableEq, Repr

/-- A program image (R166, Table 8 of chapter 04): header, bodies and hash. -/
structure Img where
  level : Nat
  role : Nat
  exactReq : Bool
  alvl : Nat
  ltiles : Nat
  tabs : List (Nat × Nat)
  grants : List Nat
  wcc : Nat
  wreq : Nat
  updq : Nat
  seed : Nat
  horizon : List Nat
  bufs : List BufDef
  stages : List (List Nat)
  hash : List Byte
deriving DecidableEq, Repr

/-- An update record (R161, R206): its place in the commit order (run start tick, class, logical tile, stage, element
position), its number among its logical tile's records, the rounding, and the row, lines, rule, weight and source row. -/
structure UpdRec where
  start : Nat
  cls : Nat
  ltile : Nat
  stage : Nat
  pos : Nat
  nth : Nat
  rs : Bool
  seed : Nat
  table : Nat
  row : Nat
  line0 : Nat
  nlines : Nat
  rule : Nat
  alpha : Nat
  src : List Blk
deriving DecidableEq, Repr

/-- What a run has computed (R162): packet entries by slot and kind, forecasts by stream, planner inputs by field and
accelerator, words of the result area, the trace, update records, new kernel state, and its counts. -/
structure RunOut where
  pkt : Tab Int
  fcast : List (Nat × Nat)
  plan : Tab Nat
  host : Tab Word
  trace : List Nat
  upds : List UpdRec
  kst : Tab (List Byte)
  gmiss : Nat
  sat : Nat
  updDrop : Nat
  pktDrop : Nat
  tmiss : Tab Nat
  tainted : Bool
  free : Nat
deriving DecidableEq, Repr

/-- The update log of a frame (R204): its lines reserved and its records. -/
structure UpdLog where
  frame : Nat
  lines : Nat
  recs : List UpdRec
deriving DecidableEq, Repr

/-- A table's content at a boundary (R213, R183): rows by line, epoch and log position. -/
structure TblCopy where
  table : Nat
  rows : Tab (Tab (List Byte))
  epoch : Nat
  logpos : Nat
deriving DecidableEq, Repr

/-- A sub-row changed by a commit (R207). -/
structure CommitRow where
  table : Nat
  row : Nat
  line0 : Nat
  lines : List (List Byte)
deriving DecidableEq, Repr

/-- A program slot beside its registers (R167): the handle under verification, the image bytes and the image. -/
structure Slot where
  handle : Nat
  img : Option Img
deriving DecidableEq, Repr

/-- A kernel batch in progress (R174): its start frame and start tick, its result, and the samples it took. -/
structure KBatch where
  frame : Nat
  start : Nat
  out : RunOut
  took : Tab (List (Nat × Nat))
deriving DecidableEq, Repr

/-- A kernel batch that started in this frame, for its digest (R573): class, batch counter, whether it ran exact, the kernel state it
read, and its outcome. -/
structure DigBatch where
  cls : Nat
  no : Nat
  exact_ : Bool
  kread : Tab (List Byte)
  out : RunOut
deriving DecidableEq, Repr

/-- A replay snapshot (R183), its replay copies by table (rows, epoch, log position) among it. -/
structure RplSnap where
  frame : BitVec 64
  pos : Nat
  kst : Tab (List Byte)
  hash : List Byte
  inputs : Inputs
  tables : List TblCopy
  upds : List UpdLog
deriving DecidableEq, Repr

/-- Replay (R181 to R183): the log, the position in it, the replay frame counter, the kernel state, the frame in progress,
the update logs of the last frames, and the trace. -/
structure Replay where
  log : List LogFrame
  pos : Nat
  frame : BitVec 64
  pace : Bool
  kst : Tab (List Byte)
  run : Option RunOut
  upds : List UpdLog
  trace : List Nat
  single : Bool
deriving DecidableEq, Repr

/-- Icefield (chapter 04): the slots, the admitted switch that waits for a boundary, the partition in force, the frame counter,
the latched inputs, the frame run in progress and the last finished one, the kernel batches, those started in this frame (for its digest), the batch counters and the
tick each class was last due, the samples that wait for a batch, the kernel state, replay, the capture ring (newest first) with the log frame being written, the
snapshot store, the transients of each array, the corrected errors of each bank, the shadow tests under way and the arrays retired at the next boundary, and the ticks
of the last forecast of each planner input. -/
structure Icefield where
  slots : Tab Slot
  switch : Option (Nat × Nat)
  part : Word
  frame : BitVec 64
  inputs : Inputs
  run : Option RunOut
  last : Option RunOut
  taint : Bool
  batches : Tab KBatch
  dig : List DigBatch
  batchNo : Tab Nat
  batchAt : Tab Nat
  pend : Tab (List (Nat × Nat))
  kst : Tab (List Byte)
  rpl : Replay
  capture : List LogFrame
  logNow : LogFrame
  snaps : Tab RplSnap
  transients : Tab (List Nat)
  bankErrs : Tab (List Nat)
  tests : List (Nat × Nat)
  retire : List (Nat × Nat)
  planAt : Tab Nat
  planIn : Tab Nat
deriving DecidableEq, Repr

def Inputs.none : Inputs := ⟨[], [], [], [], 0⟩
def LogFrame.none : LogFrame := ⟨0, Inputs.none, false, [], [], [], [], []⟩

/-- A table beside its registers (chapter 05): its rows by line, the resident segments (all but those listed in `out` where
`whole`), the segments written since they were saved, the home stack and the job class of each segment, loads completed for the next
boundary, the image it is being created from, and whether it is restored at the next boundary. -/
structure Tbl where
  rows : Tab (Tab (List Byte))
  whole : Bool
  res : List Nat
  out : List Nat
  dirty : List Nat
  home : Tab Nat
  cls : Tab Nat
  loaded : List Nat
  image : Option Nat
  restore : Bool
deriving DecidableEq, Repr

/-- A computed commit (R207): the frame of its log, the changed sub-rows in order, and the records committed per table. -/
structure Commit where
  frame : Nat
  rows : List CommitRow
  recs : Tab Nat
deriving DecidableEq, Repr

/-- Space on a stack that an evicted segment still holds (R196): until its save is acknowledged, and until every run that started before
the boundary of a frame has ended. -/
structure SpaceHeld where
  table : Nat
  seg : Nat
  stack : Nat
  bytes : Nat
  saving : Bool
  frame : Nat
deriving DecidableEq, Repr

/-- A save under way (R196, R214): table, segment, key, bytes, whether it is part of a checkpoint push, the tick of its last failure, and
whether the segment has been written since its bytes were taken. -/
structure SaveJob where
  table : Nat
  seg : Nat
  key : List Nat
  data : List Byte
  push : Bool
  failed : Option Nat
  written : Bool
deriving DecidableEq, Repr

/-- A checkpoint (R213): its frame, and the rows, epoch and log position of each HOT table. -/
structure Ckpt where
  frame : Nat
  tables : List TblCopy
deriving DecidableEq, Repr

/-- An answer of the host table store to a STORE_GET (R438): the epoch and the bytes, or NOT_AVAILABLE. -/
structure StoreAnswer where
  key : List Nat
  unit : Option (Nat × List Byte)
deriving DecidableEq, Repr

/-- The forecast tables (chapter 05): the tables, the open logs, the computed commit and whether one awaits write-back, the
last checkpoint, the one being swept, the tick the period runs from, the saves, the answers of the host table store by key
(none for NOT_AVAILABLE), the free bytes of each stack, the space evicted segments still hold, the pseudo-channels that an error has made due for
retirement, the ticks of the corrected errors of each within the last hour (R218), the resident segments that a standby asks the store for anew,
and the tick it last began to (R216). -/
structure Tables where
  tbl : Tab Tbl
  logs : List UpdLog
  commit : Option Commit
  wback : Bool
  ckpt : Option Ckpt
  sweep : Option Ckpt
  ckptFrom : Nat
  saves : List SaveJob
  got : List StoreAnswer
  free : Tab Nat
  held : List SpaceHeld
  pcDue : List (Nat × Nat)
  pcErrs : Tab (List Nat)
  refresh : List (Nat × Nat)
  askAt : Nat
deriving DecidableEq, Repr

/-- An entry of a plan frame (Table 2 of chapter 06): accelerator, flags PROTCAP, CEIL and WARM, cap, floor and ramp bound. -/
structure PlanEntry where
  acc : Nat
  prot : Bool
  ceil : Bool
  warm : Bool
  cap : Nat
  floor : Nat
  ramp : Nat
deriving DecidableEq, Repr

/-- A plan frame before it leaves (R245): rack, FULL, the delay of its effective time in µs after the base time, entries. -/
structure PlanFrame where
  rack : Nat
  full : Bool
  delayUs : Nat
  entries : List PlanEntry
deriving DecidableEq, Repr

/-- A change sent to an accelerator that is not yet acknowledged (R260): its PSEQ, the wire time from which the 10 ms count, and whether
the missing acknowledgement has been told. -/
structure Owed where
  pseq : BitVec 32
  due : BitVec 64
  told : Bool
deriving DecidableEq, Repr

/-- The last acknowledgement of an accelerator (R258), whether it reported FALLBACK, and the changes it owes one for, newest first. -/
structure PlanAck where
  aseq : Option (BitVec 32)
  pseq : BitVec 32
  power : Nat
  fell : Bool
  owed : List Owed
deriving DecidableEq, Repr

/-- A PLAN_EMIT that has fired since the last computation (R250, R251): the staged change, its words at the firing, and the words written
since. -/
structure Firing where
  h : Nat
  ctrl : Word
  val : Word
  after : List Nat
deriving DecidableEq, Repr

/-- The steps of a job that an accelerator's load is averaged over (R242): the step under way with its sum and samples, and
the completed steps, newest first. -/
structure Track where
  job : Nat
  step : BitVec 32
  sum : Nat
  n : Nat
  steps : List (Nat × Nat)
deriving DecidableEq, Repr

/-- The power plan beside its registers (chapter 06): the job slot of each accelerator and the membership changes that wait
for the next computation (R425), the tick, the plan caps and the entries of the last computation, its change frames until they are sent,
and its LEAD, lifetime (ns) and refresh interval (ms) (R235), the offset (µs) and the frames built for each staged change, the firings since
(R251), the tick of each rack's last refresh, the tick since which a job is neither LOCKED nor COAST (R243), load tracks, acknowledgements,
the protective caps signalled with the PSEQ that carried each (R254, R255), the prebuilt frames, the ceiling sequence and the committed value
of each ceiling entry (R232), and the federation's values (R227, R505) with those to come. -/
structure Plan where
  jobOf : Tab Nat
  jobSets : List (Nat × Nat × List Nat)
  pc : Tab Nat
  entries : Tab PlanEntry
  frames : List PlanFrame
  doneAt : Option Nat
  lead : Nat
  life : Nat
  every : Nat
  built : Tab (Nat × List PlanFrame)
  fired : List Firing
  refresh : Tab Nat
  unlocked : Tab Nat
  track : Tab Track
  acks : Tab PlanAck
  clamp : Tab Nat
  clampSeq : Tab (BitVec 32)
  prebuilt : Tab (List PlanEntry × List PlanEntry)
  clSeq : Nat
  clVal : Tab Nat
  fedNow : Option (Nat × Nat)
  fedNext : List (BitVec 64 × Nat × Nat)
deriving DecidableEq, Repr

/-- The field inputs beside their registers (R599, R613, R127, R345): the last measurement latched by logical input (milliohms
for TYPE 1 to 3, microamperes for 4, microvolts for 5, millihertz for 6 and 7), the tick of the last pulse edge, the
consecutive ticks beyond an electrical limit, the supervision, the consecutive failed converter checks, the pairs in force
with their control and protection values, and the acknowledgements of the frame. -/
structure FieldIn where
  meas : Tab Int
  edge : Tab Nat
  beyond : Tab Nat
  sup : Tab Supv
  conv : Tab Nat
  pairs : Tab (Word × Word × Word)
  pairVal : Tab (Option Int × Option (Int × Bool))
  acks : List Nat
  ackAll : Bool
deriving DecidableEq, Repr

/-- A loop beside its registers (chapter 07): the last setpoint in force that was present, the setpoint source last used,
whether the setpoint still moves to it (R283), the last table setpoint (R300), the consecutive absent evaluations (R290), the
model's residual counts (R291, R292) with the action of the fault, the outputs since the start, newest first (R291), whether
the last evaluation was frozen (R289), the whole second of LOP_TCNT of the last wrap told (R278), and whether it has been evaluated since it was enabled
(R296). -/
structure Loop where
  sp : Option Int
  source : Nat
  moving : Bool
  tbl : Option Int
  noin : Nat
  apart : Nat
  within : Nat
  act : Option Nat
  outs : List Int
  frozen : Bool
  wrapAt : Option Nat
  live : Bool
deriving DecidableEq, Repr

/-- A frame packet as accepted (R33): SEQ and the entries by slot × 4 + kind. -/
structure Packet where
  seq : Word
  entries : Tab Int
deriving DecidableEq, Repr

/-- An admitted loop commit that waits for its boundary (R296): its boundary's least tick and the staged words. -/
structure LoopCommit where
  at_ : Nat
  cfg : List (Nat × Word)
deriving DecidableEq, Repr

/-- The loop engine (chapter 07): the loops, the packet each lane has accepted in this frame, the bytes last discarded, the
packet to apply at the next boundary, the pending commit, the TABLE points in force, the ticks of each lane's entries into
FAULT, the frames a RECOVER lane has matched, whether it waits to load at the next boundary, the loops' words in the
non-volatile store and the tick of the first change not yet saved, and the report of the last boundary (R302). -/
structure LoopEng where
  loop : Tab Loop
  candA : Option Packet
  candB : Option Packet
  bad : List Byte
  next : Option Packet
  commit : Option LoopCommit
  points : List (Nat × Word)
  faults : Tab (List Nat)
  matched : Tab Nat
  loading : Bool
  nv : List (Nat × Word)
  changed : Option Nat
  report : Tab (List (Option Int))
  held : Bool
deriving DecidableEq, Repr

/-- A pump channel beside its registers (chapter 08): the tick its start began, the safety class of it, the demand in 1/10^8
of a demand unit, whether it still ramps, the run intent (non-volatile), whether RESTORE started it, the lost channel it
stands in for, since when FLT_N is low, since when it is high, and since when the feedback is below the trip level, the run
ticks not yet counted, whether the next DRIVE_CMD carries FAULT_RESET (R466), and whether FLOW_SUDDEN started it (R375). -/
structure Pump where
  start : Nat
  safety : Bool
  dem : Nat
  ramping : Bool
  intent : Bool
  restore : Bool
  standsFor : Option Nat
  lowFrom : Option Nat
  highFrom : Option Nat
  weakFrom : Option Nat
  ran : Nat
  faultReset : Bool
  byProt : Bool
deriving DecidableEq, Repr

/-- A valve output beside its registers: the sum of travel changes, the electrical condition latched and since when, since when
no condition holds, and since when the feedback is outside and inside the band (R322). -/
structure Valve where
  moved : Nat
  cond : Nat
  condFrom : Nat
  devFrom : Option Nat
  okFrom : Option Nat
deriving DecidableEq, Repr

/-- A request of a solenoid channel (R328): operation (1 PULSE, 2 ENERGIZE, 4 TEST), class, sequence, the tick its deferral
clock runs from, the repetitions made, the tick it rejoins the arbitration after a NO_MOVE, and whether it has waited. -/
structure SolReq where
  op : Nat
  safety : Bool
  seq : Nat
  clock : Nat
  tries : Nat
  rejoin : Option Nat
  waited : Bool
deriving DecidableEq, Repr

/-- A solenoid channel beside its registers: the request held, the tick and operation of the pull-in, the tick of its dip,
the tick of switch-off, whether the channel takes its bank's slot, the result the decay will set and the request it belongs to, a
RELEASE that waits for the next tick, and the tick of the last self-test. -/
structure Sol where
  req : Option SolReq
  pull : Option (Nat × Nat)
  dip : Option Nat
  offAt : Nat
  slot : Bool
  pending : Nat
  moves : Option SolReq
  release : Bool
  testAt : Nat
deriving DecidableEq, Repr

/-- A fan beside its registers (R337 to R343): the tick its kick attempt began while its switch is on, the tick of the next
attempt, the tick of the last tach edge, since when the current is above 1.25 A, the tick it went off by overcurrent, since when
edges are good again, the run ticks not yet counted, and the tick until which its tests are suspended. -/
structure Fan where
  kick : Option Nat
  again : Option Nat
  edge : Nat
  ocFrom : Option Nat
  ocAt : Nat
  goodFrom : Option Nat
  ran : Nat
  suspend : Nat
deriving DecidableEq, Repr

/-- The actuators (chapter 08): pumps, valves, solenoids, the bank slots that free at the next tick, the safety
requests that have ended with their result, the banks whose spare
switch is used, since when the bus is above 40 V, fans, the ticks of the writes of the fan demands, the fan zone groups under
the group rule, whether a pull-back is in force, whether the draw fits without it, the
fans' draw when it began and its limit in mA, since when the draw exceeds the budget, the supply voltages in 10 mV, and the wear counters in the non-volatile store with the tick of their last save, and the last command of each loop target (by kind ×
256 + index). -/
structure Acts where
  pump : Tab Pump
  valve : Tab Valve
  sol : Tab Sol
  freeing : List Nat
  ended : List (Nat × Nat)
  spareUsed : List Nat
  fan : Tab Fan
  demAt : Tab Nat
  groups : List Nat
  pull : Bool
  fit : Bool
  base : Nat
  limit : Nat
  overFrom : Option Nat
  volts : Nat × Nat
  busFrom : Option Nat
  nvWear : List (Nat × Word)
  wearAt : Nat
  cmd : Tab Nat
deriving DecidableEq, Repr

/-- A leak input (R361): rope loops 0 to 47, spot inputs 48 to 79: the last measured resistance in ohms, the consecutive
measurements in WET and in OPEN or SHORT, since when it reads DRY, and whether its confirmation has started a sequence. -/
structure LeakIn where
  res : Nat
  wet : Nat
  bad : Nat
  dryFrom : Option Nat
  told : Bool
deriving DecidableEq, Repr

/-- A flow source under averaging (R363, R373): the sum and number of this millisecond's readings, whether one was absent, and the
closed milliseconds, newest first (none where a reading was absent). -/
structure FlowAvg where
  sum : Int
  n : Nat
  gone : Bool
  ms : List (Option (Int × Nat))
deriving DecidableEq, Repr

/-- A rack under protection (chapter 09): its flow sources' averages, since when the imbalance is above threshold, reversed, and
neither, since when a named flow source is absent, the RFLOW reference, the start of LEAK, whether its isolation has been requested
in this sequence, whether it was commanded, the leak inputs that started it, whether the imbalance did, which start conditions stand that have been told
(imbalance, LEAK_FAST, GFAULT, RFLOW), the tick POS became CLOSED, whether ISO_TRIP_S has passed since, since when each sequence's
end condition holds, and the tick and number of the power-off notices. -/
structure RackP where
  sup : FlowAvg
  ret : FlowAvg
  above : Option Nat
  reversed : Option Nat
  balanced : Option Nat
  bad : Option Nat
  ref : Int
  leakAt : Option Nat
  asked : Bool
  force : Bool
  inputs : List Nat
  imb : Bool
  imbTold : Bool
  fastTold : Bool
  gfTold : Bool
  rfTold : Bool
  closedAt : Option Nat
  isoTrip : Bool
  clear : Tab Nat
  noticeAt : Nat
  notices : Nat
deriving DecidableEq, Repr

/-- A limit entry under judgement (R384): since when its value reaches HARD, whether its LIM_HARD holds, and since when the
value is on the safe side of WARN. -/
structure LimP where
  hardFrom : Option Nat
  active : Bool
  safeFrom : Option Nat
deriving DecidableEq, Repr

/-- Protection (chapter 09): leak inputs, racks, limit entries; the entries of the last digest, whether they wait to be judged, the
frames without one, whether one came in this frame, and since when one has come in every frame; the hard digests counted by
accelerator and those told; the loop flow's averages, the last values of Q (newest first), since when its source is absent, and
which loop start conditions stand that have been told (FLOW_SUDDEN, FLOW_SLOW, LOOP_GFAULT); since when each loop sequence's end
condition holds; the inputs that started LOOP_LEAK; the step of FLOW_SLOW and the pumps it boosts; the last automatic entry of
FULLCOOL, whether FLOW_SUDDEN caused it, and the limit entries that did; the overrides in force on pumps, valves and fans; and the
protective commands recorded before the module drives outputs (kind, rack). -/
structure Prot where
  leak : Tab LeakIn
  rack : Tab RackP
  lim : Tab LimP
  entries : Tab Nat
  judge : Bool
  missed : Nat
  got : Bool
  digestFrom : Option Nat
  hard : Tab Nat
  hardTold : List Nat
  flow : FlowAvg
  qs : List (Option Int)
  gone : Option Nat
  sudTold : Bool
  slowTold : Bool
  gfTold : Bool
  clear : Tab Nat
  loopInputs : List Nat
  slowStep : Nat
  boosted : List Nat
  fcAuto : Option Nat
  sudFc : Bool
  limFc : List Nat
  pumpOvr : Tab Nat
  valveOvr : Tab Nat
  fanOvr : Bool
  cmds : List (Nat × Nat)
deriving DecidableEq, Repr

/-- A frame that waits for the next tick edge (R457): its bus, its object (128 for the high-priority buffer), and the frame. -/
structure CanArrival where
  bus : Nat
  obj : Nat
  frame : CanFrame
deriving DecidableEq, Repr

/-- An allocated pod slot (R463): its bus, node, frames and first object. -/
structure PodAlloc where
  bus : Nat
  node : Nat
  frames : Nat
  first : Nat
deriving DecidableEq, Repr

/-- A pending transmission (R459): the frame and its place in the order of requests. -/
structure TxPend where
  frame : CanFrame
  order : Nat
deriving DecidableEq, Repr

/-- A bus's shadow of an object read through OBJ_STAT (R458): the object, and the words OBJ_RXID, OBJ_TS and OBJ_DATA0–15. -/
structure ObjShadow where
  obj : Nat
  words : List Word
deriving DecidableEq, Repr

/-- Rate detection under way on a bus (R454): when it started, the nominal candidate and since when it is listened to, whether that
candidate is kept, and the data candidate with whether an FD frame with BRS has been tried. -/
structure AutoDetect where
  start : Nat
  cand : Nat
  since : Nat
  kept : Bool
  data : Nat
  tried : Bool
deriving DecidableEq, Repr

/-- CAN FD (chapter 11): arrivals of this tick, the last SEQ of each object (bus × 128 + object), the tick of each pod quantity's last
fresh frame, the allocated pod slots and whether the allocation is to be redone, pending transmissions (bus × 128 + object) with the
requests counted, each drive's last fresh status, last command tick and command SEQ, the shadows of OBJ_STAT and HP_STAT reads,
rate detections, the ticks of each bus's bus-offs, and the buses in the recovery sequence. -/
structure Can where
  arrived : List CanArrival
  seqs : Tab Nat
  podAt : Tab Nat
  pods : Tab PodAlloc
  dirty : Bool
  tx : Tab TxPend
  txCount : Nat
  drvAt : Tab Nat
  drvSent : Tab Nat
  drvSeq : Tab Nat
  shadow : Tab ObjShadow
  hpShadow : Tab (List Word)
  auto : Tab AutoDetect
  boffs : Tab (List Nat)
  recovering : List Nat
deriving DecidableEq, Repr

/-- The content of a takeover image's section (Table 3 of chapter 12): register words by address, and the items beside the
registers by their place. -/
structure Section where
  words : List (Nat × Word)
  items : Tab (List Nat)
deriving DecidableEq, Repr

/-- A checked takeover image that waits for the next frame boundary (R483): ISEQ, PSEQ, the sample index of its cut, and its sections. -/
structure ImageRx where
  iseq : Word
  pseq : Word
  tag : BitVec 64
  level : Nat
  missing : Bool
  secs : Tab (List Byte)
deriving DecidableEq, Repr

/-- A pair barrier under agreement (R491), on either side: the message, and the action entry committed for it. -/
structure PairBar where
  msg : BarrierMsg
  entry : Option Nat
deriving DecidableEq, Repr

/-- The pair (chapter 12) beside its registers: the paths that heard the partner in this frame (pair, network) and the frame each last
heard it in, the last heartbeat, whether the partner has been declared lost, the tick of the declaration that TAKEOVER follows, since
when PEER_HEALTH is low after having been high, the tick HEALTH was asserted by a takeover, the tick of the last heartbeat sent, the tick of
each lane's last valid frame,
the ticks at which the row address announcements repeat, the tick of a pending partner read, the content of each section of the last
image cut and whether the next one is full, the image being received by ISEQ with its fragments, the last full copy of each section,
the checked image, the tick of the last image applied and the sample index of its cut, its PSEQ and record, whether its staleness has been told, the barriers
under agreement, the tick records held, whether READY has been sent or received, and the sample index N of a proposed swap with the
index of the last record sent with GO. -/
structure Pair where
  heard : List Nat
  heardIn : Tab Nat
  last : Option Heartbeat
  lost : Bool
  declared : Option Nat
  peerLow : Option Nat
  tookAt : Option Nat
  hbSent : Option Nat
  laneAt : Tab Nat
  repeats : List Nat
  peek : Option Nat
  sent : Tab Section
  fullNext : Bool
  rx : Option (Word × List (Nat × List Byte))
  held : Tab (List Byte)
  ready : Option ImageRx
  appliedAt : Option Nat
  cutAt : Option Nat
  appliedPseq : Word
  appliedRec : Option (List Nat)
  staleTold : Bool
  bars : List PairBar
  recs : List TickRec
  readyMark : Bool
  swapN : Option (BitVec 64)
  sentGo : Option (BitVec 64)
deriving DecidableEq, Repr

/-- Lock-step (R497 to R500): the first frame, whether this module sends the records, the input records that wait, the highest frame
received, the next frame to run, the digests received that wait for the own one, the frames matched, and the logs of frames run that
wait for their commit. -/
structure LockStep where
  start : Option Nat
  sends : Bool
  recs : List LogFrame
  high : Nat
  next : Nat
  digs : Tab (List Byte)
  matched : Nat
  logs : List UpdLog
deriving DecidableEq, Repr

/-- A member as heard (R502): its last ANNOUNCE, the tick of it, and the tick of each slot's last one. -/
structure Member where
  ann : FedAnnounce
  at_ : Nat
  slotAt : Tab Nat
deriving DecidableEq, Repr

/-- A federation barrier under agreement (R492): the message, the members that have answered, whether CONFIRM is held or sent, and the
entry committed for it. -/
structure FedBar where
  msg : BarrierMsg
  acks : List Nat
  confirmed : Bool
  entry : Option Nat
deriving DecidableEq, Repr

/-- An adopted accelerator (R509, R510): the module it belongs to, its original index, and its entry of the row map. -/
structure Adopted where
  m : Nat
  acc : RowAcc
deriving DecidableEq, Repr

/-- The federation (chapter 12) beside its registers: the members heard, their row maps, the barriers under agreement, since when this
module sees itself as coordinator, the tick of the last ALLOC, since when FEPOCH differs from the coordinator's and whether a resync is
due, the adopted accelerators by own local index, the tick each member was lost at or came back at, the members whose adoption or return
is proposed, the REDIRECT sequence, the PSEQ offset of each lost row, the tick of the last ANNOUNCE, of the last ROWMAP with what it held, and
of the last REDIRECT. -/
structure Fed where
  mem : Tab Member
  maps : Tab (List RowAcc)
  bars : List FedBar
  selfFrom : Option Nat
  allocAt : Option Nat
  differ : Option Nat
  resync : Bool
  adopt : Tab Adopted
  lostAt : Tab Nat
  backAt : Tab Nat
  pendingSet : List (Nat × Bool)
  rseq : Nat
  pseq : Tab Nat
  annAt : Option Nat
  mapAt : Option Nat
  mapSent : List Nat
  redirAt : Option Nat
deriving DecidableEq, Repr

/-- Memory integrity (R570, R572): the ticks of corrected errors by memory, unit and row, within the last hour; the SRAM repairs that
wait for a reset of their die; the tick of the last scrub pass of each memory kind; the words of the main die's retirements that entries hold,
once a retirement has found none; and the solenoid banks whose spare is in use with no entry. -/
structure Dia where
  errs : Tab (List Nat)
  repairs : List Nat
  scrubAt : Tab Nat
  fused : Option (List (Nat × Word))
  spares : List Nat
deriving DecidableEq, Repr

/-- The kinds of frame the module sends beside Zhoide answers. -/
inductive OutKind
  /-- A plan frame handed to the port die (R247, R250). -/
  | plan
  /-- A frame packet sealed by the main die (R90). -/
  | packet
  /-- A CAN frame sent on a bus (R459, R466). -/
  | can
  /-- A heartbeat (R478), a tick marker (R476), an IMAGE frame (R481), and the frames of pair barriers: PROPOSE, ACCEPT and CANCEL (R491). -/
  | heartbeat | tickMarker | image | barPropose | barAccept | barCancel
  /-- A tick record and READY (R494), a PEEK_REQ and a PEEK_DATA (R477). -/
  | tickRec | ready | peekReq | peekData
  /-- A gratuitous ARP and neighbour advertisement of the row addresses (R489). -/
  | rowAddress
  /-- INPUT and DIGEST frames of lock-step (R499, R500). -/
  | lsInput | lsDigest
  /-- ANNOUNCE, ROWMAP, ALLOC and REDIRECT frames (R502, R505, R510). -/
  | fedAnnounce | fedRowmap | fedAlloc | redirect
  /-- Federation barriers: the proposal, ACK and CONFIRM (R492). -/
  | fedPropose | fedAck | fedConfirm
  /-- SESS_OPEN and SESS_KEY requests of a peer exchange (R542). -/
  | peerOpen | peerKey
deriving DecidableEq, Repr

/-- Where a datagram came from: its source address and UDP port, and the network it arrived on. -/
structure Origin where
  addr : Nat
  udp : BitVec 16
  net : Net
deriving DecidableEq, Repr

/-- What the module sends (log entry 5): a record of the frames, answers and notices that leave it, newest first. -/
inductive Out
  /-- An answer in a session, on a network (R402). -/
  | answer (net : Net) (a : Answer)
  /-- A sessionless answer (HELLO, SESS_OPEN, SESS_KEY, PROTO_ERROR without a session) to a source address, on a network. -/
  | plain (dst : Nat) (net : Net) (a : Answer)
  /-- The outcome of a register-write row: the writer's slot, the address, the status and its detail. -/
  | wrote (slot addr status legal detail : Nat)
  /-- A NOTICE to a session slot (R436), on both networks (R402): class, tag, SEQ and fields. -/
  | notice (slot cls tag seq : Nat) (fields : List Nat)
  /-- A device request to the host table store (R437), on both networks (R402): slot, command, tag, SEQ and fields. -/
  | device (slot cmd tag seq : Nat) (fields : List Nat)
  /-- A PROTO_ERROR notice to a stream source or plan agent (R126, R259): the sender of the frame it answers, the UDP port it goes from, and
  its fields. -/
  | protoNotice (dst : Origin) (port level code src seq count : Nat)
  /-- A frame on another path: kind by the constructor's name in the text, with its fields. -/
  | frame (kind : OutKind) (fields : List Nat)
  /-- The bytes of a register that a row reads, bits [7:0] first. -/
  | data (bytes : List Byte)
deriving DecidableEq, Repr

/-- The machine's state. -/
structure State where
  pending : List Instr
  regs : List (Nat × Word)
  shadow : Tab Word
  clk : Clock
  servo : Servo
  jobs : Tab Job
  act : Actions
  zh : Zhoide
  sys : Sys
  firn : Firn
  sec : Sec
  waitWrites : List SeracWrite
  wlow : Tab Word
  stm : Streams
  ice : Icefield
  tbl : Tables
  plan : Plan
  field : FieldIn
  lop : LoopEng
  acts : Acts
  prt : Prot
  can : Can
  pair : Pair
  lst : LockStep
  fed : Fed
  dia : Dia
  out : List Out
  fresh : Nat
deriving DecidableEq, Repr

/-- Straps as the model takes them at reset: every identity 0, unpaired, boot source NORMAL (log entry 4). -/
def Straps.zero : Straps := ⟨0, 0, 0, false, 3, false⟩

/-- A PTP instance that has heard nothing. -/
def Ptp.idle : Ptp := ⟨[], none, 0, 0, 0, false⟩

/-- A servo in FREERUN that has heard nothing. -/
def Servo.idle : Servo := ⟨Ptp.idle, Ptp.idle, false, false, 0, 0, none, false, 0, 0⟩

/-- The machine as it stands before its first start (R43, R594): in its cage, in POWERUP, every register at its reset value, no packet,
no session, no record, the dies in reset, and no logic power yet; POWER_ON begins its start-up (log entry 38). -/
def State.reset : State where
  pending := []
  regs := []
  shadow := []
  clk := ⟨0, 0, 0, 0, false, [], 0, none, none, 0, 0, false, 0⟩
  servo := Servo.idle
  jobs := []
  act := ⟨0, [], [], [], [], [], [], 0⟩
  zh := ⟨[], [], [], [], [], [], [], [], none, [], 0, 0, 0⟩
  sys := { mated := true, inReset := false, seracUp := false, portUp := false, mainUp := false, mainPowered := false,
           mainHeld := true, mainReady := false, mainThermal := false, portThermal := false, mainThrottled := false,
           hold := false, straps := Straps.zero, pins := Straps.zero, stateReq := [], crec := none, crecMake := none,
           ceilReset := none, noPacket := 0, applied := 0, bootAt := 0, readyAt := [], fwReset := false, mateAt := 0,
           pfail := false, wdog := false, health := false, excite := false, shedFrom := none, bootCause := 0,
           powered := false, powerEnd := none, firstTick := false, mismatch := false, harn := [] }
  firn := ⟨0, 0, [], [], 0, 0, [], [], [], [], [], [], 0, none, [], [], []⟩
  sec := { akm := ⟨0, 0⟩, akp := ⟨0, 0⟩, opening := [], responding := [], peerKeys := [],
           peerOld := [], sendKey := [], sendAt := 0, sendNext := none, awaiting := [], install := none, fwImages := [], craSeq := [], crossed := 0, enr := [], pkey := [] }
  waitWrites := []
  wlow := []
  stm := ⟨[], [], [], [], none, [], false, 0, none, 0, [], []⟩
  ice := { slots := [], switch := none, part := 0x20, frame := 0, inputs := Inputs.none, run := none, last := none,
           taint := false, batches := [], dig := [], batchNo := [], batchAt := [], pend := [], kst := [],
           rpl := ⟨[], 0, 0, false, [], none, [], [], false⟩, capture := [], logNow := LogFrame.none, snaps := [],
           transients := [], bankErrs := [], tests := [], retire := [], planAt := [], planIn := [] }
  tbl := ⟨[], [], none, false, none, none, 0, [], [], [], [], [], [], [], 0⟩
  plan := { jobOf := [], jobSets := [], pc := [], entries := [], frames := [], doneAt := none, lead := 2000000, life := 1000000000, every := 100,
            built := [], fired := [], refresh := [], unlocked := [], track := [], acks := [], clamp := [], clampSeq := [], prebuilt := [],
            clSeq := 0, clVal := [], fedNow := none, fedNext := [] }
  field := ⟨[], [], [], [], [], [], [], [], false⟩
  lop := ⟨[], none, none, [], none, none, [], [], [], false, [], none, [], false⟩
  acts := { pump := [], valve := [], sol := [], freeing := [], ended := [], spareUsed := [], fan := [], demAt := [], groups := [],
            pull := false, fit := false, base := 0, limit := 0, overFrom := none, volts := (0, 0), busFrom := none, nvWear := [], wearAt := 0, cmd := [] }
  prt := { leak := [], rack := [], lim := [], entries := [], judge := false, missed := 0, got := false, digestFrom := none, hard := [],
           hardTold := [], flow := ⟨0, 0, false, []⟩, qs := [], gone := none, sudTold := false, slowTold := false, gfTold := false,
           clear := [], loopInputs := [], slowStep := 0, boosted := [], fcAuto := none, sudFc := false, limFc := [], pumpOvr := [],
           valveOvr := [], fanOvr := false, cmds := [] }
  can := ⟨[], [], [], [], false, [], 0, [], [], [], [], [], [], [], []⟩
  pair := { heard := [], heardIn := [], last := none, lost := false, declared := none, peerLow := none, tookAt := none, hbSent := none, laneAt := [],
            repeats := [], peek := none, sent := [], fullNext := true, rx := none, held := [], ready := none, appliedAt := none, cutAt := none,
            appliedPseq := 0, appliedRec := none, staleTold := false, bars := [], recs := [], readyMark := false, swapN := none, sentGo := none }
  lst := ⟨none, false, [], 0, 0, [], 0, []⟩
  fed := ⟨[], [], [], none, none, none, false, [], [], [], [], 0, [], none, none, [], none⟩
  dia := ⟨[], [], [], none, []⟩
  out := []
  fresh := 0

/-- Why a step stops with a fault. No meaning of this model ends so: the block has no fault of its own (R53 and R16 refuse
an access with an answer, and the answer is a next state). -/
inductive Fault
  /-- The machine is withdrawn from its cage: reserved for a claim about a module without power. Raised by no meaning. Safe. -/
  | noPower
deriving DecidableEq, Repr

/-- Why a step is refused. -/
inductive Refusal
  /-- A command that has no meaning yet, named by its row. Raised by the arms of `exec` alone. Safe. -/
  | notModelled (mnemonic : String)
deriving DecidableEq, Repr

end Sys2Proof.Machine
end

