-- ==== Sys2Proof/Machine/Flags.lean ====
section
/-! DEFINITION. The flag rules of status registers: write-one-to-clear bits and the hardware set that wins over a clear of
the same cycle (R12, R55), event sequence counts (R56), read-to-clear counts with the increment that survives (R57), the
software write that wins over a hardware update (R58), and saturating counts. -/

namespace Sys2Proof.Machine

/-- A W1C word after a software write of `v` in the cycle in which hardware sets the bits of `set` (R12, R55): a 1 in
`v` clears its bit, and a set of the same cycle wins. -/
def w1cAfter (old v set : Word) : Word := (old &&& ~~~v) ||| set

/-- The event sequence count after one clock cycle in which hardware sets at least one bit (R56): bits [15:0], wrapping. -/
def seqAfter (old : Word) : Word := withField old 0 16 (fieldOf old 0 16 + 1)

/-- A count that saturates at 0xFFFF_FFFF, after `n` increments. -/
def satCount (old : Word) (n : Nat) : Word := BitVec.ofNat 32 (min (old.toNat + n) 0xFFFFFFFF)

/-- An RC word after a clearing read in the cycle in which hardware counts `n` events (R57): the increments are kept. -/
def rcAfter (n : Nat) : Word := BitVec.ofNat 32 (min n 0xFFFFFFFF)

/-- A word that software writes whole in the cycle of a hardware update: the software write wins (R58). -/
def rwAfter (sw : Option Word) (hw : Word) : Word := sw.getD hw

/-- A software write of `v` over a word: RW bits take `v`, W1C bits clear where `v` is 1, all others keep (R12, R14). -/
def writeMasked (old v : Word) (rw w1c : Nat) : Word :=
  let m := BitVec.ofNat 32 rw
  let c := BitVec.ofNat 32 w1c
  (old &&& ~~~m &&& ~~~(v &&& c)) ||| (v &&& m)

end Sys2Proof.Machine
end

