-- ==== Sys2Proof/Machine/Operands.lean ====
section
/-! DEFINITION. Value encodings and number helpers: the no-value codes of R18 and R19, rounding half away from zero
(R614), signed differences of wrapping counters (R66), big-endian fields and CRC-32 of wire frames (R10, R33). -/

namespace Sys2Proof.Machine

/-- round(a / b) for b > 0: to the nearest integer, halves away from zero (R614). -/
def roundDiv (a : Int) (b : Nat) : Int :=
  if a ≥ 0 then ((2 * a.toNat + b) / (2 * b) : Nat) else -(((2 * (-a).toNat + b) / (2 * b) : Nat) : Int)

/-- The signed difference a − b modulo 2^64 (R66). -/
def diff64 (a b : BitVec 64) : Int := (a - b).toInt

/-- The signed difference of step numbers modulo 2^32 (R66). -/
def diff32 (a b : BitVec 32) : Int := (a - b).toInt

/-- A value held within [lo, hi]. -/
def clampInt (lo hi x : Int) : Int := if x < lo then lo else if hi < x then hi else x

/-- The no-value code of a temperature: 0x8000 (R18). -/
def noTemp : Nat := 0x8000

/-- The no-value code of a power or pressure: 0xFFFF (R18). -/
def noPower : Nat := 0xFFFF

/-- The no-value code of a flow: 0xFFFF_FFFF (R18). -/
def noFlow : Nat := 0xFFFFFFFF

/-- A 16-bit temperature code read as a signed number of 1/128 °C; the no-value code is absent (R19). -/
def tempOf (code : Nat) : Option Int := if code % 65536 = noTemp then none else some (signedOf 16 (code % 65536))

/-- The code of a temperature, never the no-value code (R19). -/
def tempCode (t : Option Int) : Nat :=
  match t with
  | none => noTemp
  | some x => patternOf 16 (clampInt (-32767) 32767 x)

/-- The big-endian value of a list of bytes (R10). -/
def beNat (bs : List Byte) : Nat := bs.foldl (fun n b => n * 256 + b.toNat) 0

/-- The big-endian value of `n` bytes from offset `o`. -/
def beAt (bs : List Byte) (o n : Nat) : Nat := beNat ((bs.drop o).take n)

/-- `n` bytes of a value, most significant first (R10). -/
def beBytes : Nat → Nat → List Byte
  | 0, _ => []
  | n + 1, v => BitVec.ofNat 8 (v / 256 ^ n) :: beBytes n v

/-- One byte into the reflected CRC-32 register of IEEE 802.3. -/
def crcBits : Nat → Nat → Nat
  | 0, c => c
  | k + 1, c => crcBits k (if c % 2 = 1 then (c / 2) ^^^ 0xEDB88320 else c / 2)

/-- CRC-32 with the IEEE 802.3 polynomial over a list of bytes (R33, R403). -/
def crc32 (bs : List Byte) : Nat :=
  (bs.foldl (fun c b => crcBits 8 (c ^^^ b.toNat)) 0xFFFFFFFF) ^^^ 0xFFFFFFFF

/-- The big-endian words of a byte string, for digests held in registers with byte 0 in bits [7:0]. -/
def leWords : List Byte → List Word
  | a :: b :: c :: d :: t => BitVec.ofNat 32 (a.toNat + 256 * b.toNat + 65536 * c.toNat + 16777216 * d.toNat) :: leWords t
  | _ => []

/-- The bytes of a word, bits [7:0] first. -/
def wordBytes (w : Word) : List Byte :=
  [w.extractLsb' 0 8, w.extractLsb' 8 8, w.extractLsb' 16 8, w.extractLsb' 24 8]

/-- Whether bit `n` of `v` is set. -/
def bitOf (v n : Nat) : Bool := v / 2 ^ n % 2 == 1

/-- Ticks in a number of milliseconds: a tick is 10 µs. -/
def msTicks (n : Nat) : Nat := n * 100

/-- Ticks in a number of seconds. -/
def sTicks (n : Nat) : Nat := n * 100000

/-- The lower median of a list of values under an order given by the signed difference from the first (R80). -/
def insertBy (le : α → α → Bool) (x : α) : List α → List α
  | [] => [x]
  | y :: t => if le x y then x :: y :: t else y :: insertBy le x t

/-- Insertion sort: stable, structural. -/
def sortBy (le : α → α → Bool) (l : List α) : List α := l.foldr (insertBy le) []

/-- The no-value code of a format: S16 and MARK have none and keep the reset value (R18, R109). -/
def noValue (fmt : Nat) : Nat := if fmt = 1 then noPower else noTemp

end Sys2Proof.Machine
end

