-- ==== Sys2Proof/Machine/RegMap.lean ====
section
/-! DEFINITION. The register map: the address of every register word of the device address space (R52, Table 9
of 01_row_model_and_architecture.md) and the field tables of chapters 02 to 15, taken from the register lists and
field tables of the spec. `Reg.X` is the address of word X, `Fd.X_F` the field F of word X; an array of records
takes its index or indices as arguments. -/

namespace Sys2Proof.Machine

def Reg.TIM_CTRL : Nat := 0x1000000
def Reg.TIM_STAT : Nat := 0x1000004
def Reg.TIM_EVT : Nat := 0x1000008
def Reg.TIM_EVT_SEQ : Nat := 0x100000C
def Reg.TIM_SIDX_LO : Nat := 0x1000010
def Reg.TIM_SIDX_HI : Nat := 0x1000014
def Reg.TIM_EDGE_NS : Nat := 0x1000018
def Reg.TIM_EDGE_SLO : Nat := 0x100001C
def Reg.TIM_EDGE_SHI : Nat := 0x1000020
def Reg.TIM_OFS : Nat := 0x1000024
def Reg.TIM_ERR_EST : Nat := 0x1000028
def Reg.TIM_SIDX_OFS : Nat := 0x100002C
def Reg.TIM_HOLD_LIM : Nat := 0x1000030
def Reg.TIM_PTP_A : Nat := 0x1000034
def Reg.TIM_PTP_B : Nat := 0x1000038
def Reg.TIM_ASYM (i : Nat) : Nat := 0x1000040 + 0x4 * i
def Reg.TIM_SNAP_CTRL : Nat := 0x1000080
def Reg.TIM_SNAP_ID : Nat := 0x1000084
def Reg.TIM_SNAP_IDX_LO : Nat := 0x1000088
def Reg.TIM_SNAP_IDX_HI : Nat := 0x100008C
def Reg.TIM_ACT_USED : Nat := 0x1000090
def Reg.TIM_ACT_CNT_LATE : Nat := 0x1000094
def Reg.TIM_ACT_CNT_LATEX : Nat := 0x1000098
def Reg.TIM_MRK_DROP : Nat := 0x100009C
def Reg.STM_CTRL : Nat := 0x2000000
def Reg.STM_CMT_STAT : Nat := 0x2000004
def Reg.STM_EVT : Nat := 0x2000008
def Reg.STM_EVT_SEQ : Nat := 0x200000C
def Reg.STM_CMT : Nat := 0x2000010
def Reg.STM_LOAD : Nat := 0x2000018
def Reg.STM_BUDGET : Nat := 0x200001C
def Reg.STM_LVL : Nat := 0x2000020
def Reg.STM_REORD_WAIT : Nat := 0x2000024
def Reg.STM_STUCK_CFG : Nat := 0x2000028
def Reg.STM_RES_CFG : Nat := 0x200002C
def Reg.STM_SUSP_CLR : Nat := 0x2000030
def Reg.STM_ACK : Nat := 0x2000034
def Reg.STM_GUARD_CNT : Nat := 0x2000038
def Reg.STM_CNT_DUP : Nat := 0x2000040
def Reg.STM_CNT_OLD : Nat := 0x2000044
def Reg.STM_CNT_GAP : Nat := 0x2000048
def Reg.STM_CNT_PROTO : Nat := 0x200004C
def Reg.STM_CNT_UNPARSE : Nat := 0x2000050
def Reg.STM_CNT_UNCFG : Nat := 0x2000054
def Reg.STM_CNT_TIMEERR : Nat := 0x2000058
def Reg.STM_CNT_REORD : Nat := 0x200005C
def Reg.STM_CNT_SHED (i : Nat) : Nat := 0x2000060 + 0x4 * i
def Reg.STM_SUP (i : Nat) : Nat := 0x2100000 + 0x4 * i
def Reg.STM_CFG (i : Nat) : Nat := 0x2400000 + 0x4 * i
def Reg.STM_SCFG (i : Nat) : Nat := 0x2800000 + 0x4 * i
def Reg.IFD_CTRL : Nat := 0x3000000
def Reg.IFD_STAT : Nat := 0x3000004
def Reg.IFD_EVT : Nat := 0x3000008
def Reg.IFD_EVT_SEQ : Nat := 0x300000C
def Reg.IFD_ALVL : Nat := 0x3000010
def Reg.IFD_PART : Nat := 0x3000014
def Reg.IFD_SWITCH : Nat := 0x3000018
def Reg.IFD_SW_STAT : Nat := 0x300001C
def Reg.IFD_FRAME_LO : Nat := 0x3000020
def Reg.IFD_FRAME_HI : Nat := 0x3000024
def Reg.IFD_RUN_NS : Nat := 0x3000028
def Reg.IFD_RUN_MAX : Nat := 0x300002C
def Reg.IFD_CNT_OVERRUN : Nat := 0x3000030
def Reg.IFD_CNT_KSKIP : Nat := 0x3000034
def Reg.IFD_CNT_GMISS : Nat := 0x3000038
def Reg.IFD_CNT_SAT : Nat := 0x300003C
def Reg.IFD_CNT_UPD_DROP : Nat := 0x3000040
def Reg.IFD_CNT_PKT_DROP : Nat := 0x3000044
def Reg.IFD_CNT_SHADOW : Nat := 0x3000048
def Reg.IFD_INFLIGHT : Nat := 0x300004C
def Reg.IFD_INFL_MAX : Nat := 0x3000050
def Reg.IFD_HEALTH : Nat := 0x3000054
def Reg.IFD_RPL_CTRL : Nat := 0x3000060
def Reg.IFD_RPL_STAT : Nat := 0x3000064
def Reg.IFD_RPL_FRAME_LO : Nat := 0x3000068
def Reg.IFD_RPL_FRAME_HI : Nat := 0x300006C
def Reg.IFD_RPL_SNAP : Nat := 0x3000070
def Reg.IFD_RPL_LOG : Nat := 0x3000074
def Reg.IFD_CAP_CTRL : Nat := 0x3000078
def Reg.IFD_RES (i : Nat) : Nat := 0x3100000 + 0x4 * i
def Reg.TBL_CTRL : Nat := 0x4000000
def Reg.TBL_STAT : Nat := 0x4000004
def Reg.TBL_EVT : Nat := 0x4000008
def Reg.TBL_EVT_SEQ : Nat := 0x400000C
def Reg.TBL_CAP : Nat := 0x4000010
def Reg.TBL_FREE : Nat := 0x4000014
def Reg.TBL_CKPT_CFG : Nat := 0x4000018
def Reg.TBL_CKPT_STAT : Nat := 0x400001C
def Reg.TBL_CKPT_FRM_LO : Nat := 0x4000020
def Reg.TBL_CKPT_FRM_HI : Nat := 0x4000024
def Reg.TBL_EVICT_CFG : Nat := 0x4000028
def Reg.TBL_HOST_BW : Nat := 0x400002C
def Reg.TBL_HOT_USE : Nat := 0x4000030
def Reg.TBL_LOG_USE : Nat := 0x4000034
def Reg.TBL_LOG_MAX : Nat := 0x4000038
def Reg.TBL_CNT_STARVE : Nat := 0x4000040
def Reg.TBL_CNT_DISC : Nat := 0x4000044
def Reg.TBL_CNT_NRDROP : Nat := 0x4000048
def Reg.TBL_CNT_LOAD : Nat := 0x400004C
def Reg.TBL_CNT_LATE : Nat := 0x4000050
def Reg.TBL_CNT_LOST : Nat := 0x4000054
def Reg.PLN_CTRL : Nat := 0x5000000
def Reg.PLN_STAT : Nat := 0x5000004
def Reg.PLN_EVT : Nat := 0x5000008
def Reg.PLN_EVT_SEQ : Nat := 0x500000C
def Reg.PLN_TIMING : Nat := 0x5000010
def Reg.PLN_EXPIRY : Nat := 0x5000014
def Reg.PLN_PROT_CFG : Nat := 0x5000018
def Reg.PLN_MARGIN : Nat := 0x500001C
def Reg.PLN_DEFAULT : Nat := 0x5000020
def Reg.PLN_MOD_BUDGET : Nat := 0x5000024
def Reg.PLN_MOD_RAMP : Nat := 0x5000028
def Reg.PLN_PSEQ : Nat := 0x500002C
def Reg.PLN_CEIL_USED : Nat := 0x5000030
def Reg.PLN_CNT_CAPPED : Nat := 0x5000040
def Reg.PLN_CNT_FLOORLOW : Nat := 0x5000044
def Reg.PLN_CNT_LATE : Nat := 0x5000048
def Reg.PLN_CNT_NOACK : Nat := 0x500004C
def Reg.PLN_CNT_OVER : Nat := 0x5000050
def Reg.PLN_CNT_ACKDROP : Nat := 0x5000054
def Reg.LOP_CTRL : Nat := 0x6000000
def Reg.LOP_STAT : Nat := 0x6000004
def Reg.LOP_EVT : Nat := 0x6000008
def Reg.LOP_EVT_SEQ : Nat := 0x600000C
def Reg.LOP_CMT : Nat := 0x6000010
def Reg.LOP_CMT_STAT : Nat := 0x6000014
def Reg.LOP_LOAD : Nat := 0x6000018
def Reg.LOP_INMAP : Nat := 0x600001C
def Reg.LOP_TCNT_LO : Nat := 0x6000020
def Reg.LOP_TCNT_HI : Nat := 0x6000024
def Reg.LOP_PKT_SEQ : Nat := 0x6000028
def Reg.LOP_CNT_PKTMISS : Nat := 0x6000030
def Reg.LOP_CNT_PKTBAD : Nat := 0x6000034
def Reg.LOP_CNT_FFIGN : Nat := 0x6000038
def Reg.LOP_CNT_LANESW : Nat := 0x600003C
def Reg.LOP_MISS0 : Nat := 0x6000040
def Reg.LOP_MISS0_SEQ : Nat := 0x6000044
def Reg.LOP_MISS1 : Nat := 0x6000048
def Reg.LOP_MISS1_SEQ : Nat := 0x600004C
def Reg.LOP_MISS2 : Nat := 0x6000050
def Reg.LOP_MISS2_SEQ : Nat := 0x6000054
def Reg.LOP_MISS3 : Nat := 0x6000058
def Reg.LOP_MISS3_SEQ : Nat := 0x600005C
def Reg.LOP_CNT_DIVERGE : Nat := 0x6000060
def Reg.LOP_CNT_MISS : Nat := 0x6000064
def Reg.ACT_CTRL : Nat := 0x7000000
def Reg.ACT_STAT : Nat := 0x7000004
def Reg.ACT_EVT : Nat := 0x7000008
def Reg.ACT_EVT_SEQ : Nat := 0x700000C
def Reg.ACT_GOV : Nat := 0x7000010
def Reg.ACT_DRAW : Nat := 0x7000014
def Reg.ACT_DRAW_MAX : Nat := 0x7000018
def Reg.ACT_FAN_CFG : Nat := 0x700001C
def Reg.ACT_CNT_DEFER : Nat := 0x7000020
def Reg.ACT_CNT_DEFTMO : Nat := 0x7000024
def Reg.ACT_CNT_PULLBACK : Nat := 0x7000028
def Reg.ACT_CNT_CUT : Nat := 0x700002C
def Reg.ACT_CNT_TRIP : Nat := 0x7000030
def Reg.ACT_REQ_SEQ : Nat := 0x7000034
def Reg.ACT_FDEM (i : Nat) : Nat := 0x7041000 + 0x4 * i
def Reg.PRT_CTRL : Nat := 0x8000000
def Reg.PRT_STAT : Nat := 0x8000004
def Reg.PRT_EVT : Nat := 0x8000008
def Reg.PRT_EVT_SEQ : Nat := 0x800000C
def Reg.PRT_ACK : Nat := 0x8000010
def Reg.PRT_LOOPSTAT : Nat := 0x8000014
def Reg.PRT_LEAK_CFG0 : Nat := 0x8000018
def Reg.PRT_LEAK_CFG1 : Nat := 0x800001C
def Reg.PRT_ISO_CFG : Nat := 0x8000020
def Reg.PRT_FC_CFG : Nat := 0x8000024
def Reg.PRT_FLOW_SRC : Nat := 0x8000028
def Reg.PRT_QNOM : Nat := 0x800002C
def Reg.PRT_FLOW_CFG1 : Nat := 0x8000030
def Reg.PRT_FLOW_CFG2 : Nat := 0x8000034
def Reg.PRT_Q : Nat := 0x8000038
def Reg.PRT_SLOPE : Nat := 0x800003C
def Reg.PRT_TTL : Nat := 0x8000040
def Reg.PRT_CNT_LEAK : Nat := 0x8000050
def Reg.PRT_CNT_ISO : Nat := 0x8000054
def Reg.PRT_CNT_TRIP : Nat := 0x8000058
def Reg.PRT_CNT_GFAULT : Nat := 0x800005C
def Reg.PRT_CNT_FLOW : Nat := 0x8000060
def Reg.PRT_CNT_LIMIT : Nat := 0x8000064
def Reg.PRT_FSUP (i : Nat) : Nat := 0x8040000 + 0x4 * i
def Reg.PRT_FCVAL (i : Nat) : Nat := 0x8050000 + 0x4 * i
def Reg.NET_CTRL : Nat := 0x9000000
def Reg.NET_STAT : Nat := 0x9000004
def Reg.NET_EVT : Nat := 0x9000008
def Reg.NET_EVT_SEQ : Nat := 0x900000C
def Reg.NET_UDP0 : Nat := 0x9000010
def Reg.NET_UDP1 : Nat := 0x9000014
def Reg.NET_SESS_TMO : Nat := 0x9000018
def Reg.NET_VLAN : Nat := 0x900001C
def Reg.NET_PCP : Nat := 0x9000020
def Reg.NET_ADDR6_A (i : Nat) : Nat := 0x9000030 + 0x4 * i
def Reg.NET_ADDR6_B (i : Nat) : Nat := 0x9000040 + 0x4 * i
def Reg.NET_ADDR4_A : Nat := 0x9000050
def Reg.NET_ADDR4_B : Nat := 0x9000054
def Reg.NET_PFX : Nat := 0x9000058
def Reg.NET_ROW6_A (i : Nat) : Nat := 0x9000060 + 0x4 * i
def Reg.NET_ROW6_B (i : Nat) : Nat := 0x9000070 + 0x4 * i
def Reg.NET_ROW4_A : Nat := 0x9000080
def Reg.NET_ROW4_B : Nat := 0x9000084
def Reg.NET_PGRP6_0 : Nat := 0x9000090
def Reg.NET_PGRP6_1 : Nat := 0x9000094
def Reg.NET_PGRP6_2 : Nat := 0x9000098
def Reg.NET_PGRP6_3 : Nat := 0x900009C
def Reg.NET_PGRP4 : Nat := 0x90000A0
def Reg.NET_CNT_UNPARSE : Nat := 0x90000C0
def Reg.NET_CNT_PROTO : Nat := 0x90000C4
def Reg.NET_CNT_AUTH : Nat := 0x90000C8
def Reg.NET_CNT_DUP : Nat := 0x90000CC
def Reg.NET_CNT_OLD : Nat := 0x90000D0
def Reg.NET_CNT_QUAR : Nat := 0x90000D4
def Reg.NET_CNT_QDROP : Nat := 0x90000D8
def Reg.NET_CNT_BUSY : Nat := 0x90000DC
def Reg.SYS_ID : Nat := 0x0
def Reg.SYS_STATE : Nat := 0x4
def Reg.SYS_ERR : Nat := 0x8
def Reg.SYS_ERR_SEQ : Nat := 0xC
def Reg.SYS_MODULE : Nat := 0x10
def Reg.SYS_LVL : Nat := 0x14
def Reg.SYS_DEFER : Nat := 0x18
def Reg.SYS_CNT_STATECONF : Nat := 0x1C
def Reg.SYS_CNT_DEFER : Nat := 0x20
def Reg.SYS_CNT_DTMO : Nat := 0x24
def Reg.SYS_CREC_CMD : Nat := 0x30
def Reg.SYS_CREC_STAT : Nat := 0x34
def Reg.SYS_CREC_SEQ : Nat := 0x38
def Reg.SYS_CFGRST : Nat := 0x3C
def Reg.BUS_CTRL (i : Nat) : Nat := 0xA000000 + 0x100 * i
def Reg.BUS_STAT (i : Nat) : Nat := 0xA000004 + 0x100 * i
def Reg.BUS_EVT (i : Nat) : Nat := 0xA000008 + 0x100 * i
def Reg.BUS_EVT_SEQ (i : Nat) : Nat := 0xA00000C + 0x100 * i
def Reg.BUS_NBT (i : Nat) : Nat := 0xA000010 + 0x100 * i
def Reg.BUS_DBT (i : Nat) : Nat := 0xA000014 + 0x100 * i
def Reg.BUS_ERRC (i : Nat) : Nat := 0xA000018 + 0x100 * i
def Reg.BUS_AUTO (i : Nat) : Nat := 0xA00001C + 0x100 * i
def Reg.HP_ID (i : Nat) : Nat := 0xA000020 + 0x100 * i
def Reg.HP_MASK (i : Nat) : Nat := 0xA000024 + 0x100 * i
def Reg.HP_STAT (i : Nat) : Nat := 0xA000028 + 0x100 * i
def Reg.HP_RXID (i : Nat) : Nat := 0xA00002C + 0x100 * i
def Reg.HP_TS (i : Nat) : Nat := 0xA000030 + 0x100 * i
def Reg.HP_DATA (i j : Nat) : Nat := 0xA000040 + 0x100 * i + 0x4 * j
def Reg.BUS_CNT_RXOK (i : Nat) : Nat := 0xA000080 + 0x100 * i
def Reg.BUS_CNT_TXOK (i : Nat) : Nat := 0xA000084 + 0x100 * i
def Reg.BUS_CNT_NOMATCH (i : Nat) : Nat := 0xA000088 + 0x100 * i
def Reg.BUS_CNT_OVR (i : Nat) : Nat := 0xA00008C + 0x100 * i
def Reg.BUS_CNT_BOFF (i : Nat) : Nat := 0xA000090 + 0x100 * i
def Reg.BUS_CNT_ERRFRM (i : Nat) : Nat := 0xA000094 + 0x100 * i
def Reg.CAN_PODQ (i : Nat) : Nat := 0xA090000 + 0x4 * i
def Reg.CAN_PODV (i : Nat) : Nat := 0xA091000 + 0x4 * i
def Reg.PAI_CTRL : Nat := 0xB000000
def Reg.PAI_STAT : Nat := 0xB000004
def Reg.PAI_EVT : Nat := 0xB000008
def Reg.PAI_EVT_SEQ : Nat := 0xB00000C
def Reg.PAI_SWAP : Nat := 0xB000010
def Reg.PAI_SWAP_STAT : Nat := 0xB000014
def Reg.PAI_SWAP_IDX_LO : Nat := 0xB000018
def Reg.PAI_SWAP_IDX_HI : Nat := 0xB00001C
def Reg.PAI_HB : Nat := 0xB000020
def Reg.PAI_IMG_SEQ : Nat := 0xB000024
def Reg.PAI_IMG_AGE : Nat := 0xB000028
def Reg.PAI_PLVL : Nat := 0xB00002C
def Reg.PAI_CNT_HBMISS : Nat := 0xB000030
def Reg.PAI_CNT_TAKEOVER : Nat := 0xB000034
def Reg.PAI_CNT_IMGBAD : Nat := 0xB000038
def Reg.PAI_CNT_SPLIT : Nat := 0xB00003C
def Reg.PAI_PRD_CTRL : Nat := 0xB000200
def Reg.PAI_PRD_ADDR_LO : Nat := 0xB000204
def Reg.PAI_PRD_ADDR_HI : Nat := 0xB000208
def Reg.PAI_PRD_STAT : Nat := 0xB00020C
def Reg.PAI_PRD_DATA (i : Nat) : Nat := 0xB000210 + 0x4 * i
def Reg.PAI_FED_CTRL : Nat := 0xB800000
def Reg.PAI_FED_STAT : Nat := 0xB800004
def Reg.PAI_FED_EVT : Nat := 0xB800008
def Reg.PAI_FED_EVT_SEQ : Nat := 0xB80000C
def Reg.PAI_LVL : Nat := 0xB800010
def Reg.PAI_FED_LOST : Nat := 0xB800014
def Reg.PAI_FED_BUDGET : Nat := 0xB800018
def Reg.PAI_FED_RAMP : Nat := 0xB80001C
def Reg.PAI_FEPOCH : Nat := 0xB800020
def Reg.PAI_RESV : Nat := 0xB800024
def Reg.PAI_LS_CTRL : Nat := 0xB800028
def Reg.PAI_LS_STAT : Nat := 0xB80002C
def Reg.PAI_LS_MAX : Nat := 0xB800030
def Reg.PAI_CNT_LSFRM : Nat := 0xB800034
def Reg.PAI_CNT_ADOPT : Nat := 0xB800038
def Reg.PAI_FGRP6_0 : Nat := 0xB800040
def Reg.PAI_FGRP6_1 : Nat := 0xB800044
def Reg.PAI_FGRP6_2 : Nat := 0xB800048
def Reg.PAI_FGRP6_3 : Nat := 0xB80004C
def Reg.PAI_FGRP4 : Nat := 0xB800050
def Reg.SEC_STAT : Nat := 0xC000000
def Reg.SEC_EVT : Nat := 0xC000004
def Reg.SEC_EVT_SEQ : Nat := 0xC000008
def Reg.SEC_ROOT (i : Nat) : Nat := 0xC000010 + 0x4 * i
def Reg.SEC_SERIAL (i : Nat) : Nat := 0xC000030 + 0x4 * i
def Reg.SEC_DIK_USED : Nat := 0xC000040
def Reg.SEC_AKM_NEXT : Nat := 0xC000044
def Reg.SEC_AKM_LIMIT : Nat := 0xC000048
def Reg.SEC_AKP_NEXT : Nat := 0xC00004C
def Reg.SEC_AKP_LIMIT : Nat := 0xC000050
def Reg.SEC_AK_GEN : Nat := 0xC000054
def Reg.SEC_FW_CMD : Nat := 0xC000060
def Reg.SEC_FW_STAT : Nat := 0xC000064
def Reg.SEC_CNT_AUTHFAIL : Nat := 0xC000070
def Reg.SEC_CNT_SESSOPEN : Nat := 0xC000074
def Reg.SEC_CNT_ATTEST : Nat := 0xC000078
def Reg.SEC_DIKCERT (i : Nat) : Nat := 0xC040000 + 0x4 * i
def Reg.FRN_CTRL : Nat := 0xD000000
def Reg.FRN_STAT : Nat := 0xD000004
def Reg.FRN_EVT : Nat := 0xD000008
def Reg.FRN_EVT_SEQ : Nat := 0xD00000C
def Reg.FRN_SEQ_LO : Nat := 0xD000010
def Reg.FRN_SEQ_HI : Nat := 0xD000014
def Reg.FRN_FIRST_USED : Nat := 0xD000018
def Reg.FRN_ANC_HEAD : Nat := 0xD00001C
def Reg.FRN_CIRC_OLD_LO : Nat := 0xD000020
def Reg.FRN_CIRC_OLD_HI : Nat := 0xD000024
def Reg.FRN_MIRROR_LO : Nat := 0xD000028
def Reg.FRN_MIRROR_HI : Nat := 0xD00002C
def Reg.FRN_CLR : Nat := 0xD000030
def Reg.FRN_ECC : Nat := 0xD000034
def Reg.FRN_SCRUB : Nat := 0xD000038
def Reg.FRN_CNT_WRITTEN : Nat := 0xD000040
def Reg.FRN_CNT_SUPP : Nat := 0xD000044
def Reg.FRN_CNT_LOST : Nat := 0xD000048
def Reg.FRN_CNT_MGAP : Nat := 0xD00004C
def Reg.FRN_WREC (i j : Nat) : Nat := 0xD031000 + 0x40 * i + 0x4 * j
def Reg.FRN_WSNAP (i j : Nat) : Nat := 0xD040000 + 0x200 * i + 0x4 * j
def Reg.DIA_CTRL : Nat := 0xE000000
def Reg.DIA_STAT : Nat := 0xE000004
def Reg.DIA_EVT : Nat := 0xE000008
def Reg.DIA_EVT_SEQ : Nat := 0xE00000C
def Reg.DIA_SCRUB : Nat := 0xE000010
def Reg.DIA_ECCTEST : Nat := 0xE000014
def Reg.DIA_FUSE_FREE : Nat := 0xE000018
def Reg.DIA_CNT_CORR : Nat := 0xE00001C
def Reg.DIA_CNT_UNCORR : Nat := 0xE000020
def Reg.DIA_CNT_BUSERR : Nat := 0xE000024
def Reg.DIA_DIG_LAST_LO : Nat := 0xE000028
def Reg.DIA_DIG_LAST_HI : Nat := 0xE00002C
def Reg.DIA_DIG_SEL_LO : Nat := 0xE000030
def Reg.DIA_DIG_SEL_HI : Nat := 0xE000034
def Reg.DIA_DIG_STAT : Nat := 0xE000038
def Reg.DIA_DIGW (i : Nat) : Nat := 0xE000100 + 0x4 * i
def Reg.DIA_FUSE (i : Nat) : Nat := 0xE010000 + 0x4 * i
def Reg.ACT_NTC_SUP : Nat := 0x7061000
def Reg.ACT_DI : Nat := 0x7061004
def Reg.ACT_HW_STAT : Nat := 0x7070000
def Reg.ACT_HWEVT : Nat := 0x7070004
def Reg.ACT_HWEVT_SEQ : Nat := 0x7070008
def Reg.ACT_VIN : Nat := 0x707000C
def Reg.ACT_VACT : Nat := 0x7070010
def Reg.ACT_IFS : Nat := 0x7070014
def Reg.ACT_THERM0 : Nat := 0x7070018
def Reg.ACT_THERM1 : Nat := 0x707001C
def Reg.ACT_STRAP : Nat := 0x7070020
def Reg.CTR_SEL (i j : Nat) : Nat := 0x7F0000 + 0x1000000 * i + 0x10 * j
def Reg.CTR_VAL (i j : Nat) : Nat := 0x7F0004 + 0x1000000 * i + 0x10 * j
def Reg.CTR_SNAP (i j : Nat) : Nat := 0x7F0008 + 0x1000000 * i + 0x10 * j
def Reg.BLK_SNAP_ID (i : Nat) : Nat := 0x7F0200 + 0x1000000 * i
def Reg.AE_CTRL (i : Nat) : Nat := 0x1010000 + 0x20 * i
def Reg.AE_TRIG_LO (i : Nat) : Nat := 0x1010004 + 0x20 * i
def Reg.AE_TRIG_HI (i : Nat) : Nat := 0x1010008 + 0x20 * i
def Reg.AE_ARG0 (i : Nat) : Nat := 0x101000C + 0x20 * i
def Reg.AE_ARG1 (i : Nat) : Nat := 0x1010010 + 0x20 * i
def Reg.AE_SEQ (i : Nat) : Nat := 0x1010014 + 0x20 * i
def Reg.AE_STAT (i : Nat) : Nat := 0x1010018 + 0x20 * i
def Reg.AE_LATE (i : Nat) : Nat := 0x101001C + 0x20 * i
def Reg.JOB_CFG (i : Nat) : Nat := 0x1040000 + 0x40 * i
def Reg.JOB_STAT (i : Nat) : Nat := 0x1040004 + 0x40 * i
def Reg.JOB_PERIOD (i : Nat) : Nat := 0x1040008 + 0x40 * i
def Reg.JOB_RATE (i : Nat) : Nat := 0x104000C + 0x40 * i
def Reg.JOB_XANG_LO (i : Nat) : Nat := 0x1040010 + 0x40 * i
def Reg.JOB_XANG_HI (i : Nat) : Nat := 0x1040014 + 0x40 * i
def Reg.JOB_LASTB_LO (i : Nat) : Nat := 0x1040018 + 0x40 * i
def Reg.JOB_LASTB_HI (i : Nat) : Nat := 0x104001C + 0x40 * i
def Reg.JOB_MSTRM (i j : Nat) : Nat := 0x1040020 + 0x40 * i + 0x4 * j
def Reg.PAIR_A (i : Nat) : Nat := 0x2010000 + 0x10 * i
def Reg.PAIR_B (i : Nat) : Nat := 0x2010004 + 0x10 * i
def Reg.PAIR_CFG (i : Nat) : Nat := 0x2010008 + 0x10 * i
def Reg.PAIR_STAT (i : Nat) : Nat := 0x201000C + 0x10 * i
def Reg.SRC_STAT (i : Nat) : Nat := 0x2020000 + 0x10 * i
def Reg.SRC_SEQ (i : Nat) : Nat := 0x2020004 + 0x10 * i
def Reg.SRC_GAP (i : Nat) : Nat := 0x2020008 + 0x10 * i
def Reg.SRC_VIOL (i : Nat) : Nat := 0x202000C + 0x10 * i
def Reg.SV_VAL (i : Nat) : Nat := 0x2C00000 + 0x10 * i
def Reg.SV_TIME (i : Nat) : Nat := 0x2C00004 + 0x10 * i
def Reg.SV_MISS (i : Nat) : Nat := 0x2C00008 + 0x10 * i
def Reg.SV_FCAST (i : Nat) : Nat := 0x2C0000C + 0x10 * i
def Reg.SLOT_CFG (i : Nat) : Nat := 0x3010000 + 0x40 * i
def Reg.SLOT_STAT (i : Nat) : Nat := 0x3010004 + 0x40 * i
def Reg.SLOT_CMD (i : Nat) : Nat := 0x3010008 + 0x40 * i
def Reg.SLOT_WCC (i : Nat) : Nat := 0x301000C + 0x40 * i
def Reg.SLOT_HASH (i j : Nat) : Nat := 0x3010010 + 0x40 * i + 0x4 * j
def Reg.SLOT_WREQ (i : Nat) : Nat := 0x3010030 + 0x40 * i
def Reg.SLOT_UPDQ (i : Nat) : Nat := 0x3010034 + 0x40 * i
def Reg.TILE_MAP (i : Nat) : Nat := 0x3020000 + 0x10 * i
def Reg.TILE_STAT (i : Nat) : Nat := 0x3020004 + 0x10 * i
def Reg.TILE_BANKMAP (i : Nat) : Nat := 0x3020008 + 0x10 * i
def Reg.TILE_ERR (i : Nat) : Nat := 0x302000C + 0x10 * i
def Reg.STK_STAT (i : Nat) : Nat := 0x4000100 + 0x10 * i
def Reg.STK_PCMAP (i : Nat) : Nat := 0x4000104 + 0x10 * i
def Reg.STK_CORR (i : Nat) : Nat := 0x4000108 + 0x10 * i
def Reg.STK_FREE (i : Nat) : Nat := 0x400010C + 0x10 * i
def Reg.T_CFG (i : Nat) : Nat := 0x4010000 + 0x40 * i
def Reg.T_ROWS (i : Nat) : Nat := 0x4010004 + 0x40 * i
def Reg.T_CMD (i : Nat) : Nat := 0x4010008 + 0x40 * i
def Reg.T_STAT (i : Nat) : Nat := 0x401000C + 0x40 * i
def Reg.T_EPOCH_LO (i : Nat) : Nat := 0x4010010 + 0x40 * i
def Reg.T_EPOCH_HI (i : Nat) : Nat := 0x4010014 + 0x40 * i
def Reg.T_LOGPOS_LO (i : Nat) : Nat := 0x4010018 + 0x40 * i
def Reg.T_LOGPOS_HI (i : Nat) : Nat := 0x401001C + 0x40 * i
def Reg.T_SEGS (i : Nat) : Nat := 0x4010020 + 0x40 * i
def Reg.T_SEGREQ (i : Nat) : Nat := 0x4010024 + 0x40 * i
def Reg.T_MIB (i : Nat) : Nat := 0x4010028 + 0x40 * i
def Reg.T_MISS (i : Nat) : Nat := 0x401002C + 0x40 * i
def Reg.ACC_CFG (i : Nat) : Nat := 0x5010000 + 0x10 * i
def Reg.ACC_TGT (i : Nat) : Nat := 0x5010004 + 0x10 * i
def Reg.ACC_EFF (i : Nat) : Nat := 0x5010008 + 0x10 * i
def Reg.ACC_STAT (i : Nat) : Nat := 0x501000C + 0x10 * i
def Reg.RK_BUDGET (i : Nat) : Nat := 0x5020000 + 0x10 * i
def Reg.RK_RAMP (i : Nat) : Nat := 0x5020004 + 0x10 * i
def Reg.RK_STAT (i : Nat) : Nat := 0x5020008 + 0x10 * i
def Reg.RK_SUM (i : Nat) : Nat := 0x502000C + 0x10 * i
def Reg.JB_CFG (i : Nat) : Nat := 0x5030000 + 0x10 * i
def Reg.JB_STAT (i : Nat) : Nat := 0x5030004 + 0x10 * i
def Reg.POL_CFG (i : Nat) : Nat := 0x5040000 + 0x10 * i
def Reg.POL_RAMP (i : Nat) : Nat := 0x5040004 + 0x10 * i
def Reg.CL_CTRL (i : Nat) : Nat := 0x5050000 + 0x20 * i
def Reg.CL_VAL (i : Nat) : Nat := 0x5050004 + 0x20 * i
def Reg.CL_SETTER (i : Nat) : Nat := 0x5050008 + 0x20 * i
def Reg.CL_SEQ (i : Nat) : Nat := 0x505000C + 0x20 * i
def Reg.CL_TIME_LO (i : Nat) : Nat := 0x5050010 + 0x20 * i
def Reg.CL_TIME_HI (i : Nat) : Nat := 0x5050014 + 0x20 * i
def Reg.CL_MEMB (i : Nat) : Nat := 0x5050018 + 0x20 * i
def Reg.STG_CTRL (i : Nat) : Nat := 0x5060000 + 0x10 * i
def Reg.STG_VAL (i : Nat) : Nat := 0x5060004 + 0x10 * i
def Reg.STG_OFS (i : Nat) : Nat := 0x5060008 + 0x10 * i
def Reg.STG_STAT (i : Nat) : Nat := 0x506000C + 0x10 * i
def Reg.LP_SCFG0 (i : Nat) : Nat := 0x6010000 + 0x100 * i
def Reg.LP_SCFG1 (i : Nat) : Nat := 0x6010004 + 0x100 * i
def Reg.LP_SCFG2 (i : Nat) : Nat := 0x6010008 + 0x100 * i
def Reg.LP_SCFG3 (i : Nat) : Nat := 0x601000C + 0x100 * i
def Reg.LP_SCFG4 (i : Nat) : Nat := 0x6010010 + 0x100 * i
def Reg.LP_CTRL (i : Nat) : Nat := 0x6010040 + 0x100 * i
def Reg.LP_B0 (i : Nat) : Nat := 0x6010044 + 0x100 * i
def Reg.LP_B1 (i : Nat) : Nat := 0x6010048 + 0x100 * i
def Reg.LP_B2 (i : Nat) : Nat := 0x601004C + 0x100 * i
def Reg.LP_B3 (i : Nat) : Nat := 0x6010050 + 0x100 * i
def Reg.LP_A1 (i : Nat) : Nat := 0x6010054 + 0x100 * i
def Reg.LP_A2 (i : Nat) : Nat := 0x6010058 + 0x100 * i
def Reg.LP_A3 (i : Nat) : Nat := 0x601005C + 0x100 * i
def Reg.LP_SHIFT (i : Nat) : Nat := 0x6010060 + 0x100 * i
def Reg.LP_SP (i : Nat) : Nat := 0x6010064 + 0x100 * i
def Reg.LP_CLLO (i : Nat) : Nat := 0x6010068 + 0x100 * i
def Reg.LP_CLHI (i : Nat) : Nat := 0x601006C + 0x100 * i
def Reg.LP_SLEW (i : Nat) : Nat := 0x6010070 + 0x100 * i
def Reg.LP_FF (i : Nat) : Nat := 0x6010074 + 0x100 * i
def Reg.LP_FFDEC (i : Nat) : Nat := 0x6010078 + 0x100 * i
def Reg.LP_BIAS (i : Nat) : Nat := 0x601007C + 0x100 * i
def Reg.LP_MAN_OUT (i : Nat) : Nat := 0x6010080 + 0x100 * i
def Reg.LP_FS_OUT (i : Nat) : Nat := 0x6010084 + 0x100 * i
def Reg.LP_PL0 (i : Nat) : Nat := 0x6010088 + 0x100 * i
def Reg.LP_PL1 (i : Nat) : Nat := 0x601008C + 0x100 * i
def Reg.LP_PL2 (i : Nat) : Nat := 0x6010090 + 0x100 * i
def Reg.LP_PL3 (i : Nat) : Nat := 0x6010094 + 0x100 * i
def Reg.LP_STAT (i : Nat) : Nat := 0x6010098 + 0x100 * i
def Reg.LP_WRAP (i : Nat) : Nat := 0x601009C + 0x100 * i
def Reg.ST_MEAS (i : Nat) : Nat := 0x6020000 + 0x40 * i
def Reg.ST_SP (i : Nat) : Nat := 0x6020004 + 0x40 * i
def Reg.ST_OUT (i : Nat) : Nat := 0x6020008 + 0x40 * i
def Reg.ST_ULAW (i : Nat) : Nat := 0x602000C + 0x40 * i
def Reg.ST_Y_LO (i : Nat) : Nat := 0x6020010 + 0x40 * i
def Reg.ST_Y_HI (i : Nat) : Nat := 0x6020014 + 0x40 * i
def Reg.ST_S1_LO (i : Nat) : Nat := 0x6020018 + 0x40 * i
def Reg.ST_S2_LO (i : Nat) : Nat := 0x6020020 + 0x40 * i
def Reg.ST_S3_LO (i : Nat) : Nat := 0x6020028 + 0x40 * i
def Reg.ST_S1_HI (i : Nat) : Nat := 0x602001C + 0x40 * i
def Reg.ST_S2_HI (i : Nat) : Nat := 0x6020024 + 0x40 * i
def Reg.ST_S3_HI (i : Nat) : Nat := 0x602002C + 0x40 * i
def Reg.ST_FFH (i : Nat) : Nat := 0x6020030 + 0x40 * i
def Reg.ST_FFS (i : Nat) : Nat := 0x6020034 + 0x40 * i
def Reg.ST_TRIM (i : Nat) : Nat := 0x6020038 + 0x40 * i
def Reg.ST_MODEL (i : Nat) : Nat := 0x602003C + 0x40 * i
def Reg.TB_X (i j : Nat) : Nat := 0x6030000 + 0x80 * i + 0x8 * j
def Reg.TB_Y (i j : Nat) : Nat := 0x6030004 + 0x80 * i + 0x8 * j
def Reg.PMP_CFG (i : Nat) : Nat := 0x7010000 + 0x40 * i
def Reg.PMP_SPD (i : Nat) : Nat := 0x7010004 + 0x40 * i
def Reg.PMP_SEQ (i : Nat) : Nat := 0x7010008 + 0x40 * i
def Reg.PMP_RAMP (i : Nat) : Nat := 0x701000C + 0x40 * i
def Reg.PMP_TRIP (i : Nat) : Nat := 0x7010010 + 0x40 * i
def Reg.PMP_CMD (i : Nat) : Nat := 0x7010014 + 0x40 * i
def Reg.PMP_LOCK (i : Nat) : Nat := 0x7010018 + 0x40 * i
def Reg.PMP_STAT (i : Nat) : Nat := 0x701001C + 0x40 * i
def Reg.PMP_DEM (i : Nat) : Nat := 0x7010020 + 0x40 * i
def Reg.PMP_STARTS (i : Nat) : Nat := 0x7010024 + 0x40 * i
def Reg.PMP_RUNH (i : Nat) : Nat := 0x7010028 + 0x40 * i
def Reg.PMP_FB_FULL (i : Nat) : Nat := 0x701002C + 0x40 * i
def Reg.VLV_CFG (i : Nat) : Nat := 0x7020000 + 0x20 * i
def Reg.VLV_TRV (i : Nat) : Nat := 0x7020004 + 0x20 * i
def Reg.VLV_LOCK (i : Nat) : Nat := 0x7020008 + 0x20 * i
def Reg.VLV_STAT (i : Nat) : Nat := 0x702000C + 0x20 * i
def Reg.VLV_TRAVEL (i : Nat) : Nat := 0x7020010 + 0x20 * i
def Reg.SOL_CFG (i : Nat) : Nat := 0x7030000 + 0x20 * i
def Reg.SOL_TIME (i : Nat) : Nat := 0x7030004 + 0x20 * i
def Reg.SOL_RETRY (i : Nat) : Nat := 0x7030008 + 0x20 * i
def Reg.SOL_CMD (i : Nat) : Nat := 0x703000C + 0x20 * i
def Reg.SOL_LOCK (i : Nat) : Nat := 0x7030010 + 0x20 * i
def Reg.SOL_STAT (i : Nat) : Nat := 0x7030014 + 0x20 * i
def Reg.SOL_SEQ (i : Nat) : Nat := 0x7030018 + 0x20 * i
def Reg.SOL_OPS (i : Nat) : Nat := 0x703001C + 0x20 * i
def Reg.BANK_STAT (i : Nat) : Nat := 0x7031000 + 0x10 * i
def Reg.BANK_CMD (i : Nat) : Nat := 0x7031004 + 0x10 * i
def Reg.FAN_CFG (i : Nat) : Nat := 0x7040000 + 0x40 * i
def Reg.FAN_ZMASK0 (i : Nat) : Nat := 0x7040004 + 0x40 * i
def Reg.FAN_ZMASK1 (i : Nat) : Nat := 0x7040008 + 0x40 * i
def Reg.FAN_FLOOR (i : Nat) : Nat := 0x704000C + 0x40 * i
def Reg.FAN_AT_IN (i : Nat) : Nat := 0x7040010 + 0x40 * i
def Reg.FAN_AT (i j : Nat) : Nat := 0x7040014 + 0x40 * i + 0x4 * j
def Reg.FAN_CMD (i : Nat) : Nat := 0x7040024 + 0x40 * i
def Reg.FAN_LOCK (i : Nat) : Nat := 0x7040028 + 0x40 * i
def Reg.FAN_STAT (i : Nat) : Nat := 0x704002C + 0x40 * i
def Reg.FAN_MEAS (i : Nat) : Nat := 0x7040030 + 0x40 * i
def Reg.FAN_RUNH (i : Nat) : Nat := 0x7040034 + 0x40 * i
def Reg.FAN_STARTS (i : Nat) : Nat := 0x7040038 + 0x40 * i
def Reg.SPAI_CMD (i : Nat) : Nat := 0x7050000 + 0x10 * i
def Reg.SPAI_STAT (i : Nat) : Nat := 0x7050004 + 0x10 * i
def Reg.RK_FLOWSRC (i : Nat) : Nat := 0x8010000 + 0x40 * i
def Reg.RK_IMB (i : Nat) : Nat := 0x8010004 + 0x40 * i
def Reg.RK_DIE (i : Nat) : Nat := 0x8010008 + 0x40 * i
def Reg.RK_DIECFG (i : Nat) : Nat := 0x801000C + 0x40 * i
def Reg.RK_ACT (i : Nat) : Nat := 0x8010010 + 0x40 * i
def Reg.RK_OUT (i : Nat) : Nat := 0x8010014 + 0x40 * i
def Reg.RK_QSUP (i : Nat) : Nat := 0x8010018 + 0x40 * i
def Reg.RK_IMBV (i : Nat) : Nat := 0x801001C + 0x40 * i
def Reg.RK_GUARD (i : Nat) : Nat := 0x8010020 + 0x40 * i
def Reg.ROPE_CFG (i : Nat) : Nat := 0x8020000 + 0x10 * i
def Reg.ROPE_STAT (i : Nat) : Nat := 0x8020004 + 0x10 * i
def Reg.SPOT_CFG (i : Nat) : Nat := 0x8021000 + 0x10 * i
def Reg.SPOT_STAT (i : Nat) : Nat := 0x8021004 + 0x10 * i
def Reg.LIM_CFG (i : Nat) : Nat := 0x8030000 + 0x10 * i
def Reg.LIM_THR (i : Nat) : Nat := 0x8030004 + 0x10 * i
def Reg.LIM_STAT (i : Nat) : Nat := 0x8030008 + 0x10 * i
def Reg.PORT_CFG (i : Nat) : Nat := 0x9010000 + 0x10 * i
def Reg.PORT_STAT (i : Nat) : Nat := 0x9010004 + 0x10 * i
def Reg.PORT_CNT_RX (i : Nat) : Nat := 0x9010008 + 0x10 * i
def Reg.PORT_CNT_FECU (i : Nat) : Nat := 0x901000C + 0x10 * i
def Reg.QU_STAT (i : Nat) : Nat := 0x9020000 + 0x20 * i
def Reg.QU_ADDR (i j : Nat) : Nat := 0x9020004 + 0x20 * i + 0x4 * j
def Reg.QU_VIOL (i : Nat) : Nat := 0x9020014 + 0x20 * i
def Reg.SS_STAT (i : Nat) : Nat := 0x9030000 + 0x20 * i
def Reg.SS_ID (i : Nat) : Nat := 0x9030004 + 0x20 * i
def Reg.SS_ROLES (i : Nat) : Nat := 0x9030008 + 0x20 * i
def Reg.SS_MBOX (i : Nat) : Nat := 0x903000C + 0x20 * i
def Reg.SS_IDLE (i : Nat) : Nat := 0x9030010 + 0x20 * i
def Reg.SS_LEVEL (i : Nat) : Nat := 0x9030014 + 0x20 * i
def Reg.OW_STAT (i : Nat) : Nat := 0x40 + 0x10 * i
def Reg.OW_LEASE (i : Nat) : Nat := 0x44 + 0x10 * i
def Reg.OW_SEQ (i : Nat) : Nat := 0x48 + 0x10 * i
def Reg.OBJ_CFG (i j : Nat) : Nat := 0xA010000 + 0x4000 * i + 0x80 * j
def Reg.OBJ_ID (i j : Nat) : Nat := 0xA010004 + 0x4000 * i + 0x80 * j
def Reg.OBJ_MASK (i j : Nat) : Nat := 0xA010008 + 0x4000 * i + 0x80 * j
def Reg.OBJ_CMD (i j : Nat) : Nat := 0xA01000C + 0x4000 * i + 0x80 * j
def Reg.OBJ_STAT (i j : Nat) : Nat := 0xA010010 + 0x4000 * i + 0x80 * j
def Reg.OBJ_RXID (i j : Nat) : Nat := 0xA010014 + 0x4000 * i + 0x80 * j
def Reg.OBJ_TS (i j : Nat) : Nat := 0xA010018 + 0x4000 * i + 0x80 * j
def Reg.OBJ_DATA (i j k : Nat) : Nat := 0xA010020 + 0x4000 * i + 0x80 * j + 0x4 * k
def Reg.POD_CFG (i : Nat) : Nat := 0xA080000 + 0x10 * i
def Reg.POD_STAT (i : Nat) : Nat := 0xA080004 + 0x10 * i
def Reg.POD_LAST (i : Nat) : Nat := 0xA080008 + 0x10 * i
def Reg.DRV_CFG (i : Nat) : Nat := 0xA0A0000 + 0x20 * i
def Reg.DRV_STAT (i : Nat) : Nat := 0xA0A0004 + 0x20 * i
def Reg.DRV_CUR (i : Nat) : Nat := 0xA0A0008 + 0x20 * i
def Reg.BAR_CFG (i : Nat) : Nat := 0xB000100 + 0x10 * i
def Reg.BAR_STAT (i : Nat) : Nat := 0xB000104 + 0x10 * i
def Reg.BAR_LAST (i : Nat) : Nat := 0xB000108 + 0x10 * i
def Reg.MEM_STAT (i : Nat) : Nat := 0xB810000 + 0x10 * i
def Reg.MEM_NACC (i : Nat) : Nat := 0xB810004 + 0x10 * i
def Reg.MEM_BUDGET (i : Nat) : Nat := 0xB810008 + 0x10 * i
def Reg.FW_SLOT (i : Nat) : Nat := 0xC000100 + 0x10 * i
def Reg.FW_SVN (i : Nat) : Nat := 0xC000104 + 0x10 * i
def Reg.FW_VERA (i : Nat) : Nat := 0xC000108 + 0x10 * i
def Reg.FW_VERB (i : Nat) : Nat := 0xC00010C + 0x10 * i
def Reg.EN_CFG (i : Nat) : Nat := 0xC010000 + 0x80 * i
def Reg.EN_MASTER (i : Nat) : Nat := 0xC010004 + 0x80 * i
def Reg.EN_PUB (i j : Nat) : Nat := 0xC010008 + 0x80 * i + 0x4 * j
def Reg.PK_CFG (i : Nat) : Nat := 0xC020000 + 0x80 * i
def Reg.PK_PUB (i j : Nat) : Nat := 0xC020008 + 0x80 * i + 0x4 * j
def Reg.PR_CFG (i : Nat) : Nat := 0xC030000 + 0x40 * i
def Reg.PR_HASH (i j : Nat) : Nat := 0xC030004 + 0x40 * i + 0x4 * j
def Reg.CODE_CFG (i : Nat) : Nat := 0xD010000 + 0x10 * i
def Reg.CODE_STAT (i : Nat) : Nat := 0xD010004 + 0x10 * i
def Reg.CODE_CNT (i : Nat) : Nat := 0xD010008 + 0x10 * i
def Reg.SS_CFG (i : Nat) : Nat := 0xD020000 + 0x400 * i
def Reg.SS_ADDR (i j : Nat) : Nat := 0xD020200 + 0x400 * i + 0x4 * j
def Reg.W_CTRL (i : Nat) : Nat := 0xD030000 + 0x20 * i
def Reg.W_CUR_LO (i : Nat) : Nat := 0xD030004 + 0x20 * i
def Reg.W_CUR_HI (i : Nat) : Nat := 0xD030008 + 0x20 * i
def Reg.W_STAT (i : Nat) : Nat := 0xD03000C + 0x20 * i
def Reg.AN_SEQ_LO (i : Nat) : Nat := 0xD050000 + 0x40 * i
def Reg.AN_SEQ_HI (i : Nat) : Nat := 0xD050004 + 0x40 * i
def Reg.AN_SIDX_LO (i : Nat) : Nat := 0xD050008 + 0x40 * i
def Reg.AN_SIDX_HI (i : Nat) : Nat := 0xD05000C + 0x40 * i
def Reg.AN_TCNT_LO (i : Nat) : Nat := 0xD050010 + 0x40 * i
def Reg.AN_TCNT_HI (i : Nat) : Nat := 0xD050014 + 0x40 * i
def Reg.AN_NS (i : Nat) : Nat := 0xD050018 + 0x40 * i
def Reg.AN_SLO (i : Nat) : Nat := 0xD05001C + 0x40 * i
def Reg.AN_SHI (i : Nat) : Nat := 0xD050020 + 0x40 * i
def Reg.AN_ERR (i : Nat) : Nat := 0xD050024 + 0x40 * i
def Reg.IN_CFG (i : Nat) : Nat := 0x7060000 + 0x10 * i
def Reg.IN_LO (i : Nat) : Nat := 0x7060004 + 0x10 * i
def Reg.IN_HI (i : Nat) : Nat := 0x7060008 + 0x10 * i
def Reg.IN_VAL (i : Nat) : Nat := 0x706000C + 0x10 * i
def Reg.HN_STAT (i : Nat) : Nat := 0x7070100 + 0x10 * i
def Reg.HN_ID (i : Nat) : Nat := 0x7070104 + 0x10 * i
def Reg.HN_SER_LO (i : Nat) : Nat := 0x7070108 + 0x10 * i
def Reg.HN_SER_HI (i : Nat) : Nat := 0x707010C + 0x10 * i
def Reg.FPAIR_A (i : Nat) : Nat := 0x8041000 + 0x10 * i
def Reg.FPAIR_B (i : Nat) : Nat := 0x8041004 + 0x10 * i
def Reg.FPAIR_CFG (i : Nat) : Nat := 0x8041008 + 0x10 * i
def Reg.FPAIR_STAT (i : Nat) : Nat := 0x804100C + 0x10 * i
def Reg.LP_ACFG0 (i : Nat) : Nat := 0x6010020 + 0x100 * i
def Reg.LP_ACFG1 (i : Nat) : Nat := 0x6010024 + 0x100 * i
def Reg.LP_ACFG2 (i : Nat) : Nat := 0x6010028 + 0x100 * i
def Reg.LP_ACFG3 (i : Nat) : Nat := 0x601002C + 0x100 * i
def Reg.LP_ACFG4 (i : Nat) : Nat := 0x6010030 + 0x100 * i

def Fd.TIM_CTRL_SERVO_EN : Fld := ⟨Reg.TIM_CTRL, 0, 1⟩
def Fd.TIM_CTRL_NET_PREF : Fld := ⟨Reg.TIM_CTRL, 1, 1⟩
def Fd.TIM_CTRL_REANCHOR : Fld := ⟨Reg.TIM_CTRL, 2, 1⟩
def Fd.TIM_STAT_SERVO : Fld := ⟨Reg.TIM_STAT, 0, 2⟩
def Fd.TIM_STAT_SEL : Fld := ⟨Reg.TIM_STAT, 2, 1⟩
def Fd.TIM_STAT_A_LOCK : Fld := ⟨Reg.TIM_STAT, 3, 1⟩
def Fd.TIM_STAT_B_LOCK : Fld := ⟨Reg.TIM_STAT, 4, 1⟩
def Fd.TIM_STAT_ANCHORED : Fld := ⟨Reg.TIM_STAT, 5, 1⟩
def Fd.TIM_STAT_TICK_SRC : Fld := ⟨Reg.TIM_STAT, 6, 2⟩
def Fd.TIM_EVT_LOCK_LOST : Fld := ⟨Reg.TIM_EVT, 0, 1⟩
def Fd.TIM_EVT_NET_SWITCH : Fld := ⟨Reg.TIM_EVT, 1, 1⟩
def Fd.TIM_EVT_DISAGREE : Fld := ⟨Reg.TIM_EVT, 2, 1⟩
def Fd.TIM_EVT_TIME_STEP : Fld := ⟨Reg.TIM_EVT, 3, 1⟩
def Fd.TIM_EVT_HOLD_EXPIRED : Fld := ⟨Reg.TIM_EVT, 4, 1⟩
def Fd.TIM_EVT_ANCHORED : Fld := ⟨Reg.TIM_EVT, 5, 1⟩
def Fd.TIM_EVT_ANCHOR_REFUSED : Fld := ⟨Reg.TIM_EVT, 6, 1⟩
def Fd.TIM_EVT_JOB_LOST : Fld := ⟨Reg.TIM_EVT, 7, 1⟩
def Fd.TIM_EVT_ACT_LATE : Fld := ⟨Reg.TIM_EVT, 8, 1⟩
def Fd.TIM_SIDX_LO_VAL : Fld := ⟨Reg.TIM_SIDX_LO, 0, 32⟩
def Fd.TIM_SIDX_HI_VAL : Fld := ⟨Reg.TIM_SIDX_HI, 0, 32⟩
def Fd.TIM_EDGE_NS_NS : Fld := ⟨Reg.TIM_EDGE_NS, 0, 32⟩
def Fd.TIM_EDGE_SLO_SEC : Fld := ⟨Reg.TIM_EDGE_SLO, 0, 32⟩
def Fd.TIM_EDGE_SHI_SEC : Fld := ⟨Reg.TIM_EDGE_SHI, 0, 16⟩
def Fd.TIM_OFS_NS : Fld := ⟨Reg.TIM_OFS, 0, 32⟩
def Fd.TIM_ERR_EST_NS : Fld := ⟨Reg.TIM_ERR_EST, 0, 32⟩
def Fd.TIM_SIDX_OFS_TICKS : Fld := ⟨Reg.TIM_SIDX_OFS, 0, 32⟩
def Fd.TIM_HOLD_LIM_SEC : Fld := ⟨Reg.TIM_HOLD_LIM, 0, 32⟩
def Fd.TIM_PTP_A_EN : Fld := ⟨Reg.TIM_PTP_A, 0, 1⟩
def Fd.TIM_PTP_A_DELAY : Fld := ⟨Reg.TIM_PTP_A, 1, 1⟩
def Fd.TIM_PTP_A_TRANSPORT : Fld := ⟨Reg.TIM_PTP_A, 2, 2⟩
def Fd.TIM_PTP_A_DOMAIN : Fld := ⟨Reg.TIM_PTP_A, 4, 7⟩
def Fd.TIM_PTP_B_EN : Fld := ⟨Reg.TIM_PTP_B, 0, 1⟩
def Fd.TIM_PTP_B_DELAY : Fld := ⟨Reg.TIM_PTP_B, 1, 1⟩
def Fd.TIM_PTP_B_TRANSPORT : Fld := ⟨Reg.TIM_PTP_B, 2, 2⟩
def Fd.TIM_PTP_B_DOMAIN : Fld := ⟨Reg.TIM_PTP_B, 4, 7⟩
def Fd.TIM_ASYM_NS (i : Nat) : Fld := ⟨Reg.TIM_ASYM i, 0, 32⟩
def Fd.TIM_SNAP_CTRL_NOW : Fld := ⟨Reg.TIM_SNAP_CTRL, 0, 1⟩
def Fd.TIM_SNAP_ID_ID : Fld := ⟨Reg.TIM_SNAP_ID, 0, 16⟩
def Fd.TIM_SNAP_IDX_LO_VAL : Fld := ⟨Reg.TIM_SNAP_IDX_LO, 0, 32⟩
def Fd.TIM_SNAP_IDX_HI_VAL : Fld := ⟨Reg.TIM_SNAP_IDX_HI, 0, 32⟩
def Fd.TIM_ACT_USED_N : Fld := ⟨Reg.TIM_ACT_USED, 0, 13⟩
def Fd.TIM_ACT_CNT_LATE_N : Fld := ⟨Reg.TIM_ACT_CNT_LATE, 0, 32⟩
def Fd.TIM_ACT_CNT_LATEX_N : Fld := ⟨Reg.TIM_ACT_CNT_LATEX, 0, 32⟩
def Fd.TIM_MRK_DROP_N : Fld := ⟨Reg.TIM_MRK_DROP, 0, 32⟩
def Fd.STM_CTRL_EN : Fld := ⟨Reg.STM_CTRL, 0, 1⟩
def Fd.STM_CMT_STAT_RESULT : Fld := ⟨Reg.STM_CMT_STAT, 0, 4⟩
def Fd.STM_CMT_STAT_PENDING : Fld := ⟨Reg.STM_CMT_STAT, 4, 1⟩
def Fd.STM_CMT_STAT_SEQ : Fld := ⟨Reg.STM_CMT_STAT, 16, 16⟩
def Fd.STM_EVT_CMT_DONE : Fld := ⟨Reg.STM_EVT, 0, 1⟩
def Fd.STM_EVT_CMT_REFUSED : Fld := ⟨Reg.STM_EVT, 1, 1⟩
def Fd.STM_EVT_GAP : Fld := ⟨Reg.STM_EVT, 2, 1⟩
def Fd.STM_EVT_OVERLOAD : Fld := ⟨Reg.STM_EVT, 3, 1⟩
def Fd.STM_EVT_PROTO : Fld := ⟨Reg.STM_EVT, 4, 1⟩
def Fd.STM_EVT_QUARANTINE : Fld := ⟨Reg.STM_EVT, 5, 1⟩
def Fd.STM_EVT_SUSPECT : Fld := ⟨Reg.STM_EVT, 6, 1⟩
def Fd.STM_EVT_FAULT : Fld := ⟨Reg.STM_EVT, 7, 1⟩
def Fd.STM_EVT_STALE : Fld := ⟨Reg.STM_EVT, 8, 1⟩
def Fd.STM_EVT_PAIR_SPLIT : Fld := ⟨Reg.STM_EVT, 9, 1⟩
def Fd.STM_CMT_GO : Fld := ⟨Reg.STM_CMT, 0, 1⟩
def Fd.STM_CMT_LOAD : Fld := ⟨Reg.STM_CMT, 1, 1⟩
def Fd.STM_LOAD_N : Fld := ⟨Reg.STM_LOAD, 0, 32⟩
def Fd.STM_BUDGET_N : Fld := ⟨Reg.STM_BUDGET, 0, 32⟩
def Fd.STM_LVL_MIN : Fld := ⟨Reg.STM_LVL, 0, 8⟩
def Fd.STM_LVL_MAX : Fld := ⟨Reg.STM_LVL, 8, 8⟩
def Fd.STM_REORD_WAIT_US : Fld := ⟨Reg.STM_REORD_WAIT, 0, 10⟩
def Fd.STM_STUCK_CFG_SD : Fld := ⟨Reg.STM_STUCK_CFG, 0, 8⟩
def Fd.STM_STUCK_CFG_WIN : Fld := ⟨Reg.STM_STUCK_CFG, 8, 9⟩
def Fd.STM_STUCK_CFG_LOADPCT : Fld := ⟨Reg.STM_STUCK_CFG, 17, 7⟩
def Fd.STM_RES_CFG_BAND : Fld := ⟨Reg.STM_RES_CFG, 0, 13⟩
def Fd.STM_RES_CFG_PERSIST : Fld := ⟨Reg.STM_RES_CFG, 13, 10⟩
def Fd.STM_SUSP_CLR_SEC : Fld := ⟨Reg.STM_SUSP_CLR, 0, 12⟩
def Fd.STM_ACK_SID : Fld := ⟨Reg.STM_ACK, 0, 18⟩
def Fd.STM_ACK_ALL : Fld := ⟨Reg.STM_ACK, 31, 1⟩
def Fd.STM_GUARD_CNT_N : Fld := ⟨Reg.STM_GUARD_CNT, 0, 15⟩
def Fd.STM_CNT_DUP_N : Fld := ⟨Reg.STM_CNT_DUP, 0, 32⟩
def Fd.STM_CNT_OLD_N : Fld := ⟨Reg.STM_CNT_OLD, 0, 32⟩
def Fd.STM_CNT_GAP_N : Fld := ⟨Reg.STM_CNT_GAP, 0, 32⟩
def Fd.STM_CNT_PROTO_N : Fld := ⟨Reg.STM_CNT_PROTO, 0, 32⟩
def Fd.STM_CNT_UNPARSE_N : Fld := ⟨Reg.STM_CNT_UNPARSE, 0, 32⟩
def Fd.STM_CNT_UNCFG_N : Fld := ⟨Reg.STM_CNT_UNCFG, 0, 32⟩
def Fd.STM_CNT_TIMEERR_N : Fld := ⟨Reg.STM_CNT_TIMEERR, 0, 32⟩
def Fd.STM_CNT_REORD_N : Fld := ⟨Reg.STM_CNT_REORD, 0, 32⟩
def Fd.STM_CNT_SHED_N (i : Nat) : Fld := ⟨Reg.STM_CNT_SHED i, 0, 32⟩
def Fd.STM_SUP_STATE (i : Nat) : Fld := ⟨Reg.STM_SUP i, 0, 3⟩
def Fd.STM_SUP_STUCK (i : Nat) : Fld := ⟨Reg.STM_SUP i, 3, 1⟩
def Fd.STM_SUP_RESIDUAL (i : Nat) : Fld := ⟨Reg.STM_SUP i, 4, 1⟩
def Fd.STM_SUP_PAIR (i : Nat) : Fld := ⟨Reg.STM_SUP i, 5, 1⟩
def Fd.STM_SUP_AGENT_FAULT (i : Nat) : Fld := ⟨Reg.STM_SUP i, 6, 1⟩
def Fd.STM_SUP_ACK_REQ (i : Nat) : Fld := ⟨Reg.STM_SUP i, 7, 1⟩
def Fd.STM_SUP_SUB (i : Nat) : Fld := ⟨Reg.STM_SUP i, 8, 1⟩
def Fd.STM_CFG_EN (i : Nat) : Fld := ⟨Reg.STM_CFG i, 0, 1⟩
def Fd.STM_CFG_CLASS (i : Nat) : Fld := ⟨Reg.STM_CFG i, 1, 3⟩
def Fd.STM_CFG_FMT (i : Nat) : Fld := ⟨Reg.STM_CFG i, 4, 4⟩
def Fd.STM_CFG_GUARD (i : Nat) : Fld := ⟨Reg.STM_CFG i, 8, 1⟩
def Fd.STM_CFG_SUP (i : Nat) : Fld := ⟨Reg.STM_CFG i, 9, 1⟩
def Fd.STM_CFG_PAIR (i : Nat) : Fld := ⟨Reg.STM_CFG i, 10, 12⟩
def Fd.STM_CFG_PAIRED (i : Nat) : Fld := ⟨Reg.STM_CFG i, 22, 1⟩
def Fd.STM_SCFG_EN (i : Nat) : Fld := ⟨Reg.STM_SCFG i, 0, 1⟩
def Fd.STM_SCFG_CLASS (i : Nat) : Fld := ⟨Reg.STM_SCFG i, 1, 3⟩
def Fd.STM_SCFG_FMT (i : Nat) : Fld := ⟨Reg.STM_SCFG i, 4, 4⟩
def Fd.STM_SCFG_GUARD (i : Nat) : Fld := ⟨Reg.STM_SCFG i, 8, 1⟩
def Fd.STM_SCFG_SUP (i : Nat) : Fld := ⟨Reg.STM_SCFG i, 9, 1⟩
def Fd.STM_SCFG_PAIR (i : Nat) : Fld := ⟨Reg.STM_SCFG i, 10, 12⟩
def Fd.STM_SCFG_PAIRED (i : Nat) : Fld := ⟨Reg.STM_SCFG i, 22, 1⟩
def Fd.IFD_CTRL_EN : Fld := ⟨Reg.IFD_CTRL, 0, 1⟩
def Fd.IFD_CTRL_CAPTURE : Fld := ⟨Reg.IFD_CTRL, 1, 1⟩
def Fd.IFD_CTRL_SHADOW_EN : Fld := ⟨Reg.IFD_CTRL, 2, 1⟩
def Fd.IFD_STAT_FRUN : Fld := ⟨Reg.IFD_STAT, 0, 1⟩
def Fd.IFD_STAT_KRUN : Fld := ⟨Reg.IFD_STAT, 1, 1⟩
def Fd.IFD_STAT_RRUN : Fld := ⟨Reg.IFD_STAT, 2, 1⟩
def Fd.IFD_STAT_FIT : Fld := ⟨Reg.IFD_STAT, 3, 1⟩
def Fd.IFD_STAT_FSLOT : Fld := ⟨Reg.IFD_STAT, 4, 4⟩
def Fd.IFD_EVT_OVERRUN : Fld := ⟨Reg.IFD_EVT, 0, 1⟩
def Fd.IFD_EVT_KSKIP : Fld := ⟨Reg.IFD_EVT, 1, 1⟩
def Fd.IFD_EVT_SAT : Fld := ⟨Reg.IFD_EVT, 2, 1⟩
def Fd.IFD_EVT_UPD_DROP : Fld := ⟨Reg.IFD_EVT, 3, 1⟩
def Fd.IFD_EVT_PKT_DROP : Fld := ⟨Reg.IFD_EVT, 4, 1⟩
def Fd.IFD_EVT_SHADOW_MIS : Fld := ⟨Reg.IFD_EVT, 5, 1⟩
def Fd.IFD_EVT_ARRAY_RETIRED : Fld := ⟨Reg.IFD_EVT, 6, 1⟩
def Fd.IFD_EVT_BANK_RETIRED : Fld := ⟨Reg.IFD_EVT, 7, 1⟩
def Fd.IFD_EVT_TILE_RETIRED : Fld := ⟨Reg.IFD_EVT, 8, 1⟩
def Fd.IFD_EVT_FIT_LOST : Fld := ⟨Reg.IFD_EVT, 9, 1⟩
def Fd.IFD_EVT_SWITCH_DONE : Fld := ⟨Reg.IFD_EVT, 10, 1⟩
def Fd.IFD_EVT_TAINT : Fld := ⟨Reg.IFD_EVT, 11, 1⟩
def Fd.IFD_ALVL_ALVL : Fld := ⟨Reg.IFD_ALVL, 0, 8⟩
def Fd.IFD_ALVL_IMG_MIN : Fld := ⟨Reg.IFD_ALVL, 8, 8⟩
def Fd.IFD_ALVL_IMG_MAX : Fld := ⟨Reg.IFD_ALVL, 16, 8⟩
def Fd.IFD_PART_KTILES : Fld := ⟨Reg.IFD_PART, 0, 7⟩
def Fd.IFD_PART_RTILES : Fld := ⟨Reg.IFD_PART, 8, 7⟩
def Fd.IFD_SWITCH_SLOT : Fld := ⟨Reg.IFD_SWITCH, 0, 4⟩
def Fd.IFD_SWITCH_GO : Fld := ⟨Reg.IFD_SWITCH, 31, 1⟩
def Fd.IFD_SW_STAT_RESULT : Fld := ⟨Reg.IFD_SW_STAT, 0, 4⟩
def Fd.IFD_SW_STAT_PENDING : Fld := ⟨Reg.IFD_SW_STAT, 4, 1⟩
def Fd.IFD_SW_STAT_SEQ : Fld := ⟨Reg.IFD_SW_STAT, 16, 16⟩
def Fd.IFD_FRAME_LO_VAL : Fld := ⟨Reg.IFD_FRAME_LO, 0, 32⟩
def Fd.IFD_FRAME_HI_VAL : Fld := ⟨Reg.IFD_FRAME_HI, 0, 32⟩
def Fd.IFD_RUN_NS_NS : Fld := ⟨Reg.IFD_RUN_NS, 0, 20⟩
def Fd.IFD_RUN_MAX_NS : Fld := ⟨Reg.IFD_RUN_MAX, 0, 20⟩
def Fd.IFD_CNT_OVERRUN_N : Fld := ⟨Reg.IFD_CNT_OVERRUN, 0, 32⟩
def Fd.IFD_CNT_KSKIP_N : Fld := ⟨Reg.IFD_CNT_KSKIP, 0, 32⟩
def Fd.IFD_CNT_GMISS_N : Fld := ⟨Reg.IFD_CNT_GMISS, 0, 32⟩
def Fd.IFD_CNT_SAT_N : Fld := ⟨Reg.IFD_CNT_SAT, 0, 32⟩
def Fd.IFD_CNT_UPD_DROP_N : Fld := ⟨Reg.IFD_CNT_UPD_DROP, 0, 32⟩
def Fd.IFD_CNT_PKT_DROP_N : Fld := ⟨Reg.IFD_CNT_PKT_DROP, 0, 32⟩
def Fd.IFD_CNT_SHADOW_N : Fld := ⟨Reg.IFD_CNT_SHADOW, 0, 32⟩
def Fd.IFD_INFLIGHT_N : Fld := ⟨Reg.IFD_INFLIGHT, 0, 19⟩
def Fd.IFD_INFL_MAX_N : Fld := ⟨Reg.IFD_INFL_MAX, 0, 19⟩
def Fd.IFD_HEALTH_TILES : Fld := ⟨Reg.IFD_HEALTH, 0, 7⟩
def Fd.IFD_HEALTH_ARRAYS : Fld := ⟨Reg.IFD_HEALTH, 8, 8⟩
def Fd.IFD_HEALTH_BANKS : Fld := ⟨Reg.IFD_HEALTH, 16, 8⟩
def Fd.IFD_RPL_CTRL_CMD : Fld := ⟨Reg.IFD_RPL_CTRL, 0, 3⟩
def Fd.IFD_RPL_CTRL_PACE : Fld := ⟨Reg.IFD_RPL_CTRL, 3, 1⟩
def Fd.IFD_RPL_STAT_STATE : Fld := ⟨Reg.IFD_RPL_STAT, 0, 3⟩
def Fd.IFD_RPL_STAT_LAST : Fld := ⟨Reg.IFD_RPL_STAT, 4, 2⟩
def Fd.IFD_RPL_FRAME_LO_VAL : Fld := ⟨Reg.IFD_RPL_FRAME_LO, 0, 32⟩
def Fd.IFD_RPL_FRAME_HI_VAL : Fld := ⟨Reg.IFD_RPL_FRAME_HI, 0, 32⟩
def Fd.IFD_RPL_SNAP_HANDLE : Fld := ⟨Reg.IFD_RPL_SNAP, 0, 16⟩
def Fd.IFD_RPL_LOG_HANDLE : Fld := ⟨Reg.IFD_RPL_LOG, 0, 16⟩
def Fd.IFD_CAP_CTRL_GIB : Fld := ⟨Reg.IFD_CAP_CTRL, 0, 4⟩
def Fd.TBL_CTRL_CKPT_EN : Fld := ⟨Reg.TBL_CTRL, 0, 1⟩
def Fd.TBL_CTRL_HOST_EN : Fld := ⟨Reg.TBL_CTRL, 1, 1⟩
def Fd.TBL_STAT_READY : Fld := ⟨Reg.TBL_STAT, 0, 1⟩
def Fd.TBL_STAT_CKPT_RUN : Fld := ⟨Reg.TBL_STAT, 1, 1⟩
def Fd.TBL_STAT_COMMIT_LAG : Fld := ⟨Reg.TBL_STAT, 2, 1⟩
def Fd.TBL_STAT_STACKS : Fld := ⟨Reg.TBL_STAT, 8, 4⟩
def Fd.TBL_EVT_COMMIT_DISC : Fld := ⟨Reg.TBL_EVT, 0, 1⟩
def Fd.TBL_EVT_LOG_STARVED : Fld := ⟨Reg.TBL_EVT, 1, 1⟩
def Fd.TBL_EVT_SEG_LOST : Fld := ⟨Reg.TBL_EVT, 2, 1⟩
def Fd.TBL_EVT_LOAD_LATE : Fld := ⟨Reg.TBL_EVT, 3, 1⟩
def Fd.TBL_EVT_CKPT_DONE : Fld := ⟨Reg.TBL_EVT, 4, 1⟩
def Fd.TBL_EVT_CKPT_FAIL : Fld := ⟨Reg.TBL_EVT, 5, 1⟩
def Fd.TBL_EVT_PC_RETIRED : Fld := ⟨Reg.TBL_EVT, 6, 1⟩
def Fd.TBL_EVT_STACK_LOST : Fld := ⟨Reg.TBL_EVT, 7, 1⟩
def Fd.TBL_EVT_SPACE : Fld := ⟨Reg.TBL_EVT, 8, 1⟩
def Fd.TBL_EVT_SAVE_FAIL : Fld := ⟨Reg.TBL_EVT, 9, 1⟩
def Fd.TBL_CAP_MIB : Fld := ⟨Reg.TBL_CAP, 0, 32⟩
def Fd.TBL_FREE_MIB : Fld := ⟨Reg.TBL_FREE, 0, 32⟩
def Fd.TBL_CKPT_CFG_PERIOD : Fld := ⟨Reg.TBL_CKPT_CFG, 0, 12⟩
def Fd.TBL_CKPT_STAT_STATE : Fld := ⟨Reg.TBL_CKPT_STAT, 0, 2⟩
def Fd.TBL_CKPT_STAT_SEQ : Fld := ⟨Reg.TBL_CKPT_STAT, 16, 16⟩
def Fd.TBL_CKPT_FRM_LO_VAL : Fld := ⟨Reg.TBL_CKPT_FRM_LO, 0, 32⟩
def Fd.TBL_CKPT_FRM_HI_VAL : Fld := ⟨Reg.TBL_CKPT_FRM_HI, 0, 32⟩
def Fd.TBL_EVICT_CFG_STEPS : Fld := ⟨Reg.TBL_EVICT_CFG, 0, 8⟩
def Fd.TBL_HOST_BW_GBPS : Fld := ⟨Reg.TBL_HOST_BW, 0, 7⟩
def Fd.TBL_HOT_USE_MIB : Fld := ⟨Reg.TBL_HOT_USE, 0, 16⟩
def Fd.TBL_LOG_USE_LINES : Fld := ⟨Reg.TBL_LOG_USE, 0, 23⟩
def Fd.TBL_LOG_MAX_LINES : Fld := ⟨Reg.TBL_LOG_MAX, 0, 23⟩
def Fd.TBL_CNT_STARVE_N : Fld := ⟨Reg.TBL_CNT_STARVE, 0, 32⟩
def Fd.TBL_CNT_DISC_N : Fld := ⟨Reg.TBL_CNT_DISC, 0, 32⟩
def Fd.TBL_CNT_NRDROP_N : Fld := ⟨Reg.TBL_CNT_NRDROP, 0, 32⟩
def Fd.TBL_CNT_LOAD_N : Fld := ⟨Reg.TBL_CNT_LOAD, 0, 32⟩
def Fd.TBL_CNT_LATE_N : Fld := ⟨Reg.TBL_CNT_LATE, 0, 32⟩
def Fd.TBL_CNT_LOST_N : Fld := ⟨Reg.TBL_CNT_LOST, 0, 32⟩
def Fd.PLN_CTRL_EN : Fld := ⟨Reg.PLN_CTRL, 0, 1⟩
def Fd.PLN_CTRL_FED : Fld := ⟨Reg.PLN_CTRL, 1, 1⟩
def Fd.PLN_STAT_RUN : Fld := ⟨Reg.PLN_STAT, 0, 1⟩
def Fd.PLN_STAT_DEMAND : Fld := ⟨Reg.PLN_STAT, 1, 1⟩
def Fd.PLN_EVT_CAPPED : Fld := ⟨Reg.PLN_EVT, 0, 1⟩
def Fd.PLN_EVT_FLOORLOW : Fld := ⟨Reg.PLN_EVT, 1, 1⟩
def Fd.PLN_EVT_LATE : Fld := ⟨Reg.PLN_EVT, 2, 1⟩
def Fd.PLN_EVT_NOACK : Fld := ⟨Reg.PLN_EVT, 3, 1⟩
def Fd.PLN_EVT_OVER : Fld := ⟨Reg.PLN_EVT, 4, 1⟩
def Fd.PLN_EVT_CEIL_SET : Fld := ⟨Reg.PLN_EVT, 5, 1⟩
def Fd.PLN_EVT_CEIL_CLR : Fld := ⟨Reg.PLN_EVT, 6, 1⟩
def Fd.PLN_EVT_PROT : Fld := ⟨Reg.PLN_EVT, 7, 1⟩
def Fd.PLN_EVT_FALLBACK : Fld := ⟨Reg.PLN_EVT, 8, 1⟩
def Fd.PLN_EVT_BADACT : Fld := ⟨Reg.PLN_EVT, 9, 1⟩
def Fd.PLN_TIMING_REFRESH : Fld := ⟨Reg.PLN_TIMING, 0, 10⟩
def Fd.PLN_TIMING_LEAD : Fld := ⟨Reg.PLN_TIMING, 10, 9⟩
def Fd.PLN_EXPIRY_MS : Fld := ⟨Reg.PLN_EXPIRY, 0, 16⟩
def Fd.PLN_PROT_CFG_LW_PCT : Fld := ⟨Reg.PLN_PROT_CFG, 0, 7⟩
def Fd.PLN_PROT_CFG_SV_PCT : Fld := ⟨Reg.PLN_PROT_CFG, 8, 7⟩
def Fd.PLN_MARGIN_PCT : Fld := ⟨Reg.PLN_MARGIN, 0, 6⟩
def Fd.PLN_DEFAULT_TARGET_PCT : Fld := ⟨Reg.PLN_DEFAULT, 0, 7⟩
def Fd.PLN_DEFAULT_POLICY : Fld := ⟨Reg.PLN_DEFAULT, 8, 4⟩
def Fd.PLN_MOD_BUDGET_VAL : Fld := ⟨Reg.PLN_MOD_BUDGET, 0, 32⟩
def Fd.PLN_MOD_RAMP_VAL : Fld := ⟨Reg.PLN_MOD_RAMP, 0, 32⟩
def Fd.PLN_PSEQ_VAL : Fld := ⟨Reg.PLN_PSEQ, 0, 32⟩
def Fd.PLN_CEIL_USED_N : Fld := ⟨Reg.PLN_CEIL_USED, 0, 11⟩
def Fd.PLN_CNT_CAPPED_N : Fld := ⟨Reg.PLN_CNT_CAPPED, 0, 32⟩
def Fd.PLN_CNT_FLOORLOW_N : Fld := ⟨Reg.PLN_CNT_FLOORLOW, 0, 32⟩
def Fd.PLN_CNT_LATE_N : Fld := ⟨Reg.PLN_CNT_LATE, 0, 32⟩
def Fd.PLN_CNT_NOACK_N : Fld := ⟨Reg.PLN_CNT_NOACK, 0, 32⟩
def Fd.PLN_CNT_OVER_N : Fld := ⟨Reg.PLN_CNT_OVER, 0, 32⟩
def Fd.PLN_CNT_ACKDROP_N : Fld := ⟨Reg.PLN_CNT_ACKDROP, 0, 32⟩
def Fd.LOP_CTRL_PLAUS_EN : Fld := ⟨Reg.LOP_CTRL, 0, 1⟩
def Fd.LOP_CTRL_FF_OFF : Fld := ⟨Reg.LOP_CTRL, 1, 1⟩
def Fd.LOP_STAT_SEL : Fld := ⟨Reg.LOP_STAT, 0, 1⟩
def Fd.LOP_STAT_A_STATE : Fld := ⟨Reg.LOP_STAT, 1, 2⟩
def Fd.LOP_STAT_B_STATE : Fld := ⟨Reg.LOP_STAT, 3, 2⟩
def Fd.LOP_STAT_MAIN_ABSENT : Fld := ⟨Reg.LOP_STAT, 5, 1⟩
def Fd.LOP_STAT_TABLE_ACT : Fld := ⟨Reg.LOP_STAT, 6, 1⟩
def Fd.LOP_EVT_LANE_FAULT : Fld := ⟨Reg.LOP_EVT, 0, 1⟩
def Fd.LOP_EVT_LANE_SWITCH : Fld := ⟨Reg.LOP_EVT, 1, 1⟩
def Fd.LOP_EVT_DIVERGE : Fld := ⟨Reg.LOP_EVT, 2, 1⟩
def Fd.LOP_EVT_LANE_READY : Fld := ⟨Reg.LOP_EVT, 3, 1⟩
def Fd.LOP_EVT_MISS : Fld := ⟨Reg.LOP_EVT, 4, 1⟩
def Fd.LOP_EVT_WRAP : Fld := ⟨Reg.LOP_EVT, 5, 1⟩
def Fd.LOP_EVT_NOIN : Fld := ⟨Reg.LOP_EVT, 6, 1⟩
def Fd.LOP_EVT_PLAUS : Fld := ⟨Reg.LOP_EVT, 7, 1⟩
def Fd.LOP_EVT_FAILSAFE : Fld := ⟨Reg.LOP_EVT, 8, 1⟩
def Fd.LOP_EVT_PKT_MISS : Fld := ⟨Reg.LOP_EVT, 9, 1⟩
def Fd.LOP_EVT_MAIN_ABSENT : Fld := ⟨Reg.LOP_EVT, 10, 1⟩
def Fd.LOP_EVT_CMT_DONE : Fld := ⟨Reg.LOP_EVT, 11, 1⟩
def Fd.LOP_EVT_CMT_REFUSED : Fld := ⟨Reg.LOP_EVT, 12, 1⟩
def Fd.LOP_EVT_LANE_RECOVER : Fld := ⟨Reg.LOP_EVT, 13, 1⟩
def Fd.LOP_CMT_GO : Fld := ⟨Reg.LOP_CMT, 0, 1⟩
def Fd.LOP_CMT_LOAD : Fld := ⟨Reg.LOP_CMT, 1, 1⟩
def Fd.LOP_CMT_STAT_RESULT : Fld := ⟨Reg.LOP_CMT_STAT, 0, 4⟩
def Fd.LOP_CMT_STAT_PENDING : Fld := ⟨Reg.LOP_CMT_STAT, 4, 1⟩
def Fd.LOP_CMT_STAT_SLOT : Fld := ⟨Reg.LOP_CMT_STAT, 5, 7⟩
def Fd.LOP_CMT_STAT_SEQ : Fld := ⟨Reg.LOP_CMT_STAT, 16, 16⟩
def Fd.LOP_LOAD_UNITS : Fld := ⟨Reg.LOP_LOAD, 0, 9⟩
def Fd.LOP_INMAP_ID : Fld := ⟨Reg.LOP_INMAP, 0, 32⟩
def Fd.LOP_TCNT_LO_VAL : Fld := ⟨Reg.LOP_TCNT_LO, 0, 32⟩
def Fd.LOP_TCNT_HI_VAL : Fld := ⟨Reg.LOP_TCNT_HI, 0, 32⟩
def Fd.LOP_PKT_SEQ_SEQ : Fld := ⟨Reg.LOP_PKT_SEQ, 0, 32⟩
def Fd.LOP_CNT_PKTMISS_N : Fld := ⟨Reg.LOP_CNT_PKTMISS, 0, 32⟩
def Fd.LOP_CNT_PKTBAD_N : Fld := ⟨Reg.LOP_CNT_PKTBAD, 0, 32⟩
def Fd.LOP_CNT_FFIGN_N : Fld := ⟨Reg.LOP_CNT_FFIGN, 0, 32⟩
def Fd.LOP_CNT_LANESW_N : Fld := ⟨Reg.LOP_CNT_LANESW, 0, 32⟩
def Fd.LOP_MISS0_LOOPS : Fld := ⟨Reg.LOP_MISS0, 0, 32⟩
def Fd.LOP_MISS1_LOOPS : Fld := ⟨Reg.LOP_MISS1, 0, 32⟩
def Fd.LOP_MISS2_LOOPS : Fld := ⟨Reg.LOP_MISS2, 0, 32⟩
def Fd.LOP_MISS3_LOOPS : Fld := ⟨Reg.LOP_MISS3, 0, 32⟩
def Fd.LOP_CNT_DIVERGE_N : Fld := ⟨Reg.LOP_CNT_DIVERGE, 0, 32⟩
def Fd.LOP_CNT_MISS_N : Fld := ⟨Reg.LOP_CNT_MISS, 0, 32⟩
def Fd.ACT_CTRL_SPARE_AUTO : Fld := ⟨Reg.ACT_CTRL, 0, 1⟩
def Fd.ACT_CTRL_PULLBACK_EN : Fld := ⟨Reg.ACT_CTRL, 1, 1⟩
def Fd.ACT_CTRL_SELFTEST_EN : Fld := ⟨Reg.ACT_CTRL, 2, 1⟩
def Fd.ACT_STAT_AA : Fld := ⟨Reg.ACT_STAT, 0, 1⟩
def Fd.ACT_STAT_AB : Fld := ⟨Reg.ACT_STAT, 1, 1⟩
def Fd.ACT_STAT_PULLBACK : Fld := ⟨Reg.ACT_STAT, 2, 1⟩
def Fd.ACT_STAT_OVERBUDGET : Fld := ⟨Reg.ACT_STAT, 3, 1⟩
def Fd.ACT_STAT_BUDGET : Fld := ⟨Reg.ACT_STAT, 4, 7⟩
def Fd.ACT_EVT_PMP_TRIP : Fld := ⟨Reg.ACT_EVT, 0, 1⟩
def Fd.ACT_EVT_PMP_FAIL_START : Fld := ⟨Reg.ACT_EVT, 1, 1⟩
def Fd.ACT_EVT_STANDBY_START : Fld := ⟨Reg.ACT_EVT, 2, 1⟩
def Fd.ACT_EVT_VLV_FAULT : Fld := ⟨Reg.ACT_EVT, 3, 1⟩
def Fd.ACT_EVT_VLV_DEV : Fld := ⟨Reg.ACT_EVT, 4, 1⟩
def Fd.ACT_EVT_SOL_FAULT : Fld := ⟨Reg.ACT_EVT, 5, 1⟩
def Fd.ACT_EVT_SOL_NOMOVE : Fld := ⟨Reg.ACT_EVT, 6, 1⟩
def Fd.ACT_EVT_DEFER_TMO : Fld := ⟨Reg.ACT_EVT, 7, 1⟩
def Fd.ACT_EVT_BANK_CUT : Fld := ⟨Reg.ACT_EVT, 8, 1⟩
def Fd.ACT_EVT_PULLBACK : Fld := ⟨Reg.ACT_EVT, 9, 1⟩
def Fd.ACT_EVT_OVERBUDGET : Fld := ⟨Reg.ACT_EVT, 10, 1⟩
def Fd.ACT_EVT_FAN_LOCKED : Fld := ⟨Reg.ACT_EVT, 11, 1⟩
def Fd.ACT_EVT_TACH_LOST : Fld := ⟨Reg.ACT_EVT, 12, 1⟩
def Fd.ACT_EVT_FAN_OC : Fld := ⟨Reg.ACT_EVT, 13, 1⟩
def Fd.ACT_EVT_GROUP_FULL : Fld := ⟨Reg.ACT_EVT, 14, 1⟩
def Fd.ACT_EVT_FAN_AUTO : Fld := ⟨Reg.ACT_EVT, 15, 1⟩
def Fd.ACT_EVT_SPARE_SOL : Fld := ⟨Reg.ACT_EVT, 16, 1⟩
def Fd.ACT_EVT_SPARE_AI : Fld := ⟨Reg.ACT_EVT, 17, 1⟩
def Fd.ACT_EVT_SUPPLY : Fld := ⟨Reg.ACT_EVT, 18, 1⟩
def Fd.ACT_GOV_RESERVE : Fld := ⟨Reg.ACT_GOV, 0, 10⟩
def Fd.ACT_DRAW_FAN : Fld := ⟨Reg.ACT_DRAW, 0, 16⟩
def Fd.ACT_DRAW_SOL : Fld := ⟨Reg.ACT_DRAW, 16, 16⟩
def Fd.ACT_DRAW_MAX_TOTAL : Fld := ⟨Reg.ACT_DRAW_MAX, 0, 16⟩
def Fd.ACT_FAN_CFG_KICK_MAX : Fld := ⟨Reg.ACT_FAN_CFG, 0, 4⟩
def Fd.ACT_FAN_CFG_FD_TMO : Fld := ⟨Reg.ACT_FAN_CFG, 4, 10⟩
def Fd.ACT_CNT_DEFER_N : Fld := ⟨Reg.ACT_CNT_DEFER, 0, 32⟩
def Fd.ACT_CNT_DEFTMO_N : Fld := ⟨Reg.ACT_CNT_DEFTMO, 0, 32⟩
def Fd.ACT_CNT_PULLBACK_N : Fld := ⟨Reg.ACT_CNT_PULLBACK, 0, 32⟩
def Fd.ACT_CNT_CUT_N : Fld := ⟨Reg.ACT_CNT_CUT, 0, 32⟩
def Fd.ACT_CNT_TRIP_N : Fld := ⟨Reg.ACT_CNT_TRIP, 0, 32⟩
def Fd.ACT_REQ_SEQ_SEQ : Fld := ⟨Reg.ACT_REQ_SEQ, 0, 32⟩
def Fd.ACT_FDEM_VAL (i : Nat) : Fld := ⟨Reg.ACT_FDEM i, 0, 16⟩
def Fd.ACT_FDEM_SRC (i : Nat) : Fld := ⟨Reg.ACT_FDEM i, 16, 1⟩
def Fd.ACT_FDEM_SILENT (i : Nat) : Fld := ⟨Reg.ACT_FDEM i, 17, 1⟩
def Fd.PRT_CTRL_ISO_AUTO : Fld := ⟨Reg.PRT_CTRL, 0, 1⟩
def Fd.PRT_CTRL_FC_SUDDEN : Fld := ⟨Reg.PRT_CTRL, 1, 1⟩
def Fd.PRT_STAT_FULLCOOL : Fld := ⟨Reg.PRT_STAT, 0, 1⟩
def Fd.PRT_STAT_FC_AUTO : Fld := ⟨Reg.PRT_STAT, 1, 1⟩
def Fd.PRT_STAT_FC_CMD : Fld := ⟨Reg.PRT_STAT, 2, 1⟩
def Fd.PRT_STAT_WATCH : Fld := ⟨Reg.PRT_STAT, 3, 1⟩
def Fd.PRT_STAT_PORT_ABSENT : Fld := ⟨Reg.PRT_STAT, 4, 1⟩
def Fd.PRT_STAT_DIGEST_LOST : Fld := ⟨Reg.PRT_STAT, 5, 1⟩
def Fd.PRT_EVT_LEAK : Fld := ⟨Reg.PRT_EVT, 0, 1⟩
def Fd.PRT_EVT_GFAULT : Fld := ⟨Reg.PRT_EVT, 1, 1⟩
def Fd.PRT_EVT_ISOLATED : Fld := ⟨Reg.PRT_EVT, 2, 1⟩
def Fd.PRT_EVT_ISO_FAIL : Fld := ⟨Reg.PRT_EVT, 3, 1⟩
def Fd.PRT_EVT_TRIP : Fld := ⟨Reg.PRT_EVT, 4, 1⟩
def Fd.PRT_EVT_FLOW_SLOW : Fld := ⟨Reg.PRT_EVT, 5, 1⟩
def Fd.PRT_EVT_FLOW_SUDDEN : Fld := ⟨Reg.PRT_EVT, 6, 1⟩
def Fd.PRT_EVT_LIMIT : Fld := ⟨Reg.PRT_EVT, 7, 1⟩
def Fd.PRT_EVT_WARN : Fld := ⟨Reg.PRT_EVT, 8, 1⟩
def Fd.PRT_EVT_DIGEST_LOST : Fld := ⟨Reg.PRT_EVT, 9, 1⟩
def Fd.PRT_EVT_FULLCOOL : Fld := ⟨Reg.PRT_EVT, 10, 1⟩
def Fd.PRT_EVT_SEQ_END : Fld := ⟨Reg.PRT_EVT, 11, 1⟩
def Fd.PRT_EVT_FSUSPECT : Fld := ⟨Reg.PRT_EVT, 12, 1⟩
def Fd.PRT_EVT_FFAULT : Fld := ⟨Reg.PRT_EVT, 13, 1⟩
def Fd.PRT_EVT_FPAIR_SPLIT : Fld := ⟨Reg.PRT_EVT, 14, 1⟩
def Fd.PRT_ACK_INDEX : Fld := ⟨Reg.PRT_ACK, 0, 8⟩
def Fd.PRT_ACK_WHAT : Fld := ⟨Reg.PRT_ACK, 8, 2⟩
def Fd.PRT_ACK_ALL : Fld := ⟨Reg.PRT_ACK, 31, 1⟩
def Fd.PRT_LOOPSTAT_ACTIVE : Fld := ⟨Reg.PRT_LOOPSTAT, 0, 8⟩
def Fd.PRT_LOOPSTAT_ACK_REQ : Fld := ⟨Reg.PRT_LOOPSTAT, 16, 8⟩
def Fd.PRT_LEAK_CFG0_LEAK_CONF : Fld := ⟨Reg.PRT_LEAK_CFG0, 0, 10⟩
def Fd.PRT_LEAK_CFG0_SPOT_CONF : Fld := ⟨Reg.PRT_LEAK_CFG0, 10, 8⟩
def Fd.PRT_LEAK_CFG0_FAULT_CONF : Fld := ⟨Reg.PRT_LEAK_CFG0, 18, 8⟩
def Fd.PRT_LEAK_CFG1_WET_PCT : Fld := ⟨Reg.PRT_LEAK_CFG1, 0, 8⟩
def Fd.PRT_LEAK_CFG1_OPEN_PCT : Fld := ⟨Reg.PRT_LEAK_CFG1, 8, 8⟩
def Fd.PRT_LEAK_CFG1_IMB_PERSIST : Fld := ⟨Reg.PRT_LEAK_CFG1, 16, 8⟩
def Fd.PRT_LEAK_CFG1_IMB_WIN : Fld := ⟨Reg.PRT_LEAK_CFG1, 24, 8⟩
def Fd.PRT_ISO_CFG_LEAK_WAIT : Fld := ⟨Reg.PRT_ISO_CFG, 0, 11⟩
def Fd.PRT_ISO_CFG_ISO_TRIP_S : Fld := ⟨Reg.PRT_ISO_CFG, 16, 8⟩
def Fd.PRT_ISO_CFG_DRY_S : Fld := ⟨Reg.PRT_ISO_CFG, 24, 8⟩
def Fd.PRT_FC_CFG_FC_MIN : Fld := ⟨Reg.PRT_FC_CFG, 0, 10⟩
def Fd.PRT_FC_CFG_CLEAR_S : Fld := ⟨Reg.PRT_FC_CFG, 16, 10⟩
def Fd.PRT_FLOW_SRC_KIND : Fld := ⟨Reg.PRT_FLOW_SRC, 0, 3⟩
def Fd.PRT_FLOW_SRC_IDX : Fld := ⟨Reg.PRT_FLOW_SRC, 8, 8⟩
def Fd.PRT_QNOM_MLS : Fld := ⟨Reg.PRT_QNOM, 0, 32⟩
def Fd.PRT_FLOW_CFG1_SUDDEN_PCT : Fld := ⟨Reg.PRT_FLOW_CFG1, 0, 7⟩
def Fd.PRT_FLOW_CFG1_MIN_PCT : Fld := ⟨Reg.PRT_FLOW_CFG1, 8, 7⟩
def Fd.PRT_FLOW_CFG1_SLOW_SLOPE : Fld := ⟨Reg.PRT_FLOW_CFG1, 16, 10⟩
def Fd.PRT_FLOW_CFG2_TTL_LW : Fld := ⟨Reg.PRT_FLOW_CFG2, 0, 10⟩
def Fd.PRT_FLOW_CFG2_TTL_SV : Fld := ⟨Reg.PRT_FLOW_CFG2, 10, 10⟩
def Fd.PRT_Q_MLS : Fld := ⟨Reg.PRT_Q, 0, 32⟩
def Fd.PRT_SLOPE_VAL : Fld := ⟨Reg.PRT_SLOPE, 0, 32⟩
def Fd.PRT_TTL_DS : Fld := ⟨Reg.PRT_TTL, 0, 32⟩
def Fd.PRT_CNT_LEAK_N : Fld := ⟨Reg.PRT_CNT_LEAK, 0, 32⟩
def Fd.PRT_CNT_ISO_N : Fld := ⟨Reg.PRT_CNT_ISO, 0, 32⟩
def Fd.PRT_CNT_TRIP_N : Fld := ⟨Reg.PRT_CNT_TRIP, 0, 32⟩
def Fd.PRT_CNT_GFAULT_N : Fld := ⟨Reg.PRT_CNT_GFAULT, 0, 32⟩
def Fd.PRT_CNT_FLOW_N : Fld := ⟨Reg.PRT_CNT_FLOW, 0, 32⟩
def Fd.PRT_CNT_LIMIT_N : Fld := ⟨Reg.PRT_CNT_LIMIT, 0, 32⟩
def Fd.PRT_FSUP_STATE (i : Nat) : Fld := ⟨Reg.PRT_FSUP i, 0, 3⟩
def Fd.PRT_FSUP_STUCK (i : Nat) : Fld := ⟨Reg.PRT_FSUP i, 3, 1⟩
def Fd.PRT_FSUP_RESIDUAL (i : Nat) : Fld := ⟨Reg.PRT_FSUP i, 4, 1⟩
def Fd.PRT_FSUP_PAIR (i : Nat) : Fld := ⟨Reg.PRT_FSUP i, 5, 1⟩
def Fd.PRT_FSUP_AGENT_FAULT (i : Nat) : Fld := ⟨Reg.PRT_FSUP i, 6, 1⟩
def Fd.PRT_FSUP_ACK_REQ (i : Nat) : Fld := ⟨Reg.PRT_FSUP i, 7, 1⟩
def Fd.PRT_FSUP_SUB (i : Nat) : Fld := ⟨Reg.PRT_FSUP i, 8, 1⟩
def Fd.PRT_FCVAL_VAL (i : Nat) : Fld := ⟨Reg.PRT_FCVAL i, 0, 16⟩
def Fd.NET_CTRL_V4_EN : Fld := ⟨Reg.NET_CTRL, 0, 1⟩
def Fd.NET_CTRL_V6_EN : Fld := ⟨Reg.NET_CTRL, 1, 1⟩
def Fd.NET_CTRL_QUAR_EN : Fld := ⟨Reg.NET_CTRL, 2, 1⟩
def Fd.NET_STAT_UP_A : Fld := ⟨Reg.NET_STAT, 0, 8⟩
def Fd.NET_STAT_UP_B : Fld := ⟨Reg.NET_STAT, 8, 8⟩
def Fd.NET_STAT_SESSIONS : Fld := ⟨Reg.NET_STAT, 16, 4⟩
def Fd.NET_STAT_ROW_OWNER : Fld := ⟨Reg.NET_STAT, 20, 1⟩
def Fd.NET_EVT_LINK_DOWN : Fld := ⟨Reg.NET_EVT, 0, 1⟩
def Fd.NET_EVT_LINK_UP : Fld := ⟨Reg.NET_EVT, 1, 1⟩
def Fd.NET_EVT_NET_LOST : Fld := ⟨Reg.NET_EVT, 2, 1⟩
def Fd.NET_EVT_QUARANTINE : Fld := ⟨Reg.NET_EVT, 3, 1⟩
def Fd.NET_EVT_QUAR_FULL : Fld := ⟨Reg.NET_EVT, 4, 1⟩
def Fd.NET_EVT_SESS_OPEN : Fld := ⟨Reg.NET_EVT, 5, 1⟩
def Fd.NET_EVT_SESS_CLOSE : Fld := ⟨Reg.NET_EVT, 6, 1⟩
def Fd.NET_EVT_AUTH_FAIL : Fld := ⟨Reg.NET_EVT, 7, 1⟩
def Fd.NET_EVT_OWNER : Fld := ⟨Reg.NET_EVT, 8, 1⟩
def Fd.NET_UDP0_MBOX : Fld := ⟨Reg.NET_UDP0, 0, 16⟩
def Fd.NET_UDP0_STREAM : Fld := ⟨Reg.NET_UDP0, 16, 16⟩
def Fd.NET_UDP1_PLAN : Fld := ⟨Reg.NET_UDP1, 0, 16⟩
def Fd.NET_SESS_TMO_SEC : Fld := ⟨Reg.NET_SESS_TMO, 0, 10⟩
def Fd.NET_VLAN_VID_A : Fld := ⟨Reg.NET_VLAN, 0, 12⟩
def Fd.NET_VLAN_TAG_A : Fld := ⟨Reg.NET_VLAN, 12, 1⟩
def Fd.NET_VLAN_VID_B : Fld := ⟨Reg.NET_VLAN, 16, 12⟩
def Fd.NET_VLAN_TAG_B : Fld := ⟨Reg.NET_VLAN, 28, 1⟩
def Fd.NET_PCP_MBOX : Fld := ⟨Reg.NET_PCP, 0, 3⟩
def Fd.NET_PCP_STREAM : Fld := ⟨Reg.NET_PCP, 4, 3⟩
def Fd.NET_PCP_PLAN : Fld := ⟨Reg.NET_PCP, 8, 3⟩
def Fd.NET_PCP_PTP : Fld := ⟨Reg.NET_PCP, 12, 3⟩
def Fd.NET_PCP_CRAORI : Fld := ⟨Reg.NET_PCP, 16, 3⟩
def Fd.NET_PFX_V6_A : Fld := ⟨Reg.NET_PFX, 0, 8⟩
def Fd.NET_PFX_V6_B : Fld := ⟨Reg.NET_PFX, 8, 8⟩
def Fd.NET_PFX_V4_A : Fld := ⟨Reg.NET_PFX, 16, 8⟩
def Fd.NET_PFX_V4_B : Fld := ⟨Reg.NET_PFX, 24, 8⟩
def Fd.NET_CNT_UNPARSE_N : Fld := ⟨Reg.NET_CNT_UNPARSE, 0, 32⟩
def Fd.NET_CNT_PROTO_N : Fld := ⟨Reg.NET_CNT_PROTO, 0, 32⟩
def Fd.NET_CNT_AUTH_N : Fld := ⟨Reg.NET_CNT_AUTH, 0, 32⟩
def Fd.NET_CNT_DUP_N : Fld := ⟨Reg.NET_CNT_DUP, 0, 32⟩
def Fd.NET_CNT_OLD_N : Fld := ⟨Reg.NET_CNT_OLD, 0, 32⟩
def Fd.NET_CNT_QUAR_N : Fld := ⟨Reg.NET_CNT_QUAR, 0, 32⟩
def Fd.NET_CNT_QDROP_N : Fld := ⟨Reg.NET_CNT_QDROP, 0, 32⟩
def Fd.NET_CNT_BUSY_N : Fld := ⟨Reg.NET_CNT_BUSY, 0, 32⟩
def Fd.SYS_ID_VARIANT : Fld := ⟨Reg.SYS_ID, 0, 8⟩
def Fd.SYS_ID_STEPPING : Fld := ⟨Reg.SYS_ID, 8, 8⟩
def Fd.SYS_STATE_STATE : Fld := ⟨Reg.SYS_STATE, 0, 4⟩
def Fd.SYS_STATE_RETURN : Fld := ⟨Reg.SYS_STATE, 4, 4⟩
def Fd.SYS_STATE_MAIN_ABSENT : Fld := ⟨Reg.SYS_STATE, 8, 1⟩
def Fd.SYS_STATE_PORT_ABSENT : Fld := ⟨Reg.SYS_STATE, 9, 1⟩
def Fd.SYS_ERR_BADENC : Fld := ⟨Reg.SYS_ERR, 0, 1⟩
def Fd.SYS_ERR_BADADDR : Fld := ⟨Reg.SYS_ERR, 1, 1⟩
def Fd.SYS_ERR_STATE_CONFLICT : Fld := ⟨Reg.SYS_ERR, 2, 1⟩
def Fd.SYS_ERR_NOT_OWNER : Fld := ⟨Reg.SYS_ERR, 3, 1⟩
def Fd.SYS_ERR_DEFER_TMO : Fld := ⟨Reg.SYS_ERR, 4, 1⟩
def Fd.SYS_MODULE_MODULE_ID : Fld := ⟨Reg.SYS_MODULE, 0, 6⟩
def Fd.SYS_MODULE_SLOT : Fld := ⟨Reg.SYS_MODULE, 8, 1⟩
def Fd.SYS_MODULE_PAIR_ID : Fld := ⟨Reg.SYS_MODULE, 16, 8⟩
def Fd.SYS_LVL_ZH_MIN : Fld := ⟨Reg.SYS_LVL, 0, 8⟩
def Fd.SYS_LVL_ZH_MAX : Fld := ⟨Reg.SYS_LVL, 8, 8⟩
def Fd.SYS_DEFER_HELD : Fld := ⟨Reg.SYS_DEFER, 0, 8⟩
def Fd.SYS_CNT_STATECONF_N : Fld := ⟨Reg.SYS_CNT_STATECONF, 0, 32⟩
def Fd.SYS_CNT_DEFER_N : Fld := ⟨Reg.SYS_CNT_DEFER, 0, 32⟩
def Fd.SYS_CNT_DTMO_N : Fld := ⟨Reg.SYS_CNT_DTMO, 0, 32⟩
def Fd.SYS_CREC_CMD_MAKE : Fld := ⟨Reg.SYS_CREC_CMD, 0, 1⟩
def Fd.SYS_CREC_CMD_CLEAR : Fld := ⟨Reg.SYS_CREC_CMD, 1, 1⟩
def Fd.SYS_CREC_STAT_VALID : Fld := ⟨Reg.SYS_CREC_STAT, 0, 1⟩
def Fd.SYS_CREC_STAT_PENDING : Fld := ⟨Reg.SYS_CREC_STAT, 1, 1⟩
def Fd.SYS_CREC_STAT_RESULT : Fld := ⟨Reg.SYS_CREC_STAT, 2, 4⟩
def Fd.SYS_CREC_SEQ_N : Fld := ⟨Reg.SYS_CREC_SEQ, 0, 32⟩
def Fd.SYS_CFGRST_CEIL : Fld := ⟨Reg.SYS_CFGRST, 0, 1⟩
def Fd.SYS_CFGRST_CONFIRM : Fld := ⟨Reg.SYS_CFGRST, 16, 16⟩
def Fd.BUS_CTRL_MODE (i : Nat) : Fld := ⟨Reg.BUS_CTRL i, 0, 3⟩
def Fd.BUS_CTRL_AUTO_REC (i : Nat) : Fld := ⟨Reg.BUS_CTRL i, 3, 1⟩
def Fd.BUS_CTRL_TERM (i : Nat) : Fld := ⟨Reg.BUS_CTRL i, 4, 1⟩
def Fd.BUS_CTRL_PXE (i : Nat) : Fld := ⟨Reg.BUS_CTRL i, 5, 1⟩
def Fd.BUS_CTRL_HP_EN (i : Nat) : Fld := ⟨Reg.BUS_CTRL i, 6, 1⟩
def Fd.BUS_CTRL_REC_DLY (i : Nat) : Fld := ⟨Reg.BUS_CTRL i, 8, 8⟩
def Fd.BUS_STAT_ESTATE (i : Nat) : Fld := ⟨Reg.BUS_STAT i, 0, 2⟩
def Fd.BUS_STAT_EMODE (i : Nat) : Fld := ⟨Reg.BUS_STAT i, 2, 3⟩
def Fd.BUS_STAT_AUTO_DONE (i : Nat) : Fld := ⟨Reg.BUS_STAT i, 5, 1⟩
def Fd.BUS_STAT_AUTO_FAIL (i : Nat) : Fld := ⟨Reg.BUS_STAT i, 6, 1⟩
def Fd.BUS_STAT_BOFF_LOCK (i : Nat) : Fld := ⟨Reg.BUS_STAT i, 7, 1⟩
def Fd.BUS_EVT_PASSIVE (i : Nat) : Fld := ⟨Reg.BUS_EVT i, 0, 1⟩
def Fd.BUS_EVT_BUS_OFF (i : Nat) : Fld := ⟨Reg.BUS_EVT i, 1, 1⟩
def Fd.BUS_EVT_RECOVERED (i : Nat) : Fld := ⟨Reg.BUS_EVT i, 2, 1⟩
def Fd.BUS_EVT_BOFF_LOCK (i : Nat) : Fld := ⟨Reg.BUS_EVT i, 3, 1⟩
def Fd.BUS_EVT_AUTO (i : Nat) : Fld := ⟨Reg.BUS_EVT i, 4, 1⟩
def Fd.BUS_EVT_HP (i : Nat) : Fld := ⟨Reg.BUS_EVT i, 5, 1⟩
def Fd.BUS_EVT_CFG_IGN (i : Nat) : Fld := ⟨Reg.BUS_EVT i, 6, 1⟩
def Fd.BUS_EVT_POD_ALLOC (i : Nat) : Fld := ⟨Reg.BUS_EVT i, 7, 1⟩
def Fd.BUS_EVT_DRV_LOST (i : Nat) : Fld := ⟨Reg.BUS_EVT i, 8, 1⟩
def Fd.BUS_NBT_BRP (i : Nat) : Fld := ⟨Reg.BUS_NBT i, 0, 5⟩
def Fd.BUS_NBT_TSEG1 (i : Nat) : Fld := ⟨Reg.BUS_NBT i, 5, 8⟩
def Fd.BUS_NBT_TSEG2 (i : Nat) : Fld := ⟨Reg.BUS_NBT i, 13, 7⟩
def Fd.BUS_NBT_SJW (i : Nat) : Fld := ⟨Reg.BUS_NBT i, 20, 7⟩
def Fd.BUS_DBT_BRP (i : Nat) : Fld := ⟨Reg.BUS_DBT i, 0, 5⟩
def Fd.BUS_DBT_TSEG1 (i : Nat) : Fld := ⟨Reg.BUS_DBT i, 5, 5⟩
def Fd.BUS_DBT_TSEG2 (i : Nat) : Fld := ⟨Reg.BUS_DBT i, 10, 4⟩
def Fd.BUS_DBT_SJW (i : Nat) : Fld := ⟨Reg.BUS_DBT i, 14, 4⟩
def Fd.BUS_DBT_TDC (i : Nat) : Fld := ⟨Reg.BUS_DBT i, 18, 1⟩
def Fd.BUS_DBT_TDCO (i : Nat) : Fld := ⟨Reg.BUS_DBT i, 19, 7⟩
def Fd.BUS_ERRC_TEC (i : Nat) : Fld := ⟨Reg.BUS_ERRC i, 0, 9⟩
def Fd.BUS_ERRC_REC (i : Nat) : Fld := ⟨Reg.BUS_ERRC i, 16, 7⟩
def Fd.BUS_ERRC_RP (i : Nat) : Fld := ⟨Reg.BUS_ERRC i, 23, 1⟩
def Fd.BUS_AUTO_AUTO_TMO (i : Nat) : Fld := ⟨Reg.BUS_AUTO i, 0, 8⟩
def Fd.HP_ID_ID (i : Nat) : Fld := ⟨Reg.HP_ID i, 0, 29⟩
def Fd.HP_MASK_MASK (i : Nat) : Fld := ⟨Reg.HP_MASK i, 0, 29⟩
def Fd.HP_STAT_NEW (i : Nat) : Fld := ⟨Reg.HP_STAT i, 0, 1⟩
def Fd.HP_STAT_OVR (i : Nat) : Fld := ⟨Reg.HP_STAT i, 1, 1⟩
def Fd.HP_STAT_IDE (i : Nat) : Fld := ⟨Reg.HP_STAT i, 2, 1⟩
def Fd.HP_STAT_FDF (i : Nat) : Fld := ⟨Reg.HP_STAT i, 3, 1⟩
def Fd.HP_STAT_DLC (i : Nat) : Fld := ⟨Reg.HP_STAT i, 4, 4⟩
def Fd.HP_RXID_ID (i : Nat) : Fld := ⟨Reg.HP_RXID i, 0, 29⟩
def Fd.CAN_PODQ_POD (i : Nat) : Fld := ⟨Reg.CAN_PODQ i, 0, 7⟩
def Fd.CAN_PODQ_FRAME (i : Nat) : Fld := ⟨Reg.CAN_PODQ i, 7, 2⟩
def Fd.CAN_PODQ_WORD (i : Nat) : Fld := ⟨Reg.CAN_PODQ i, 9, 5⟩
def Fd.CAN_PODQ_KIND (i : Nat) : Fld := ⟨Reg.CAN_PODQ i, 14, 3⟩
def Fd.CAN_PODQ_TMO (i : Nat) : Fld := ⟨Reg.CAN_PODQ i, 17, 8⟩
def Fd.PAI_CTRL_WARM : Fld := ⟨Reg.PAI_CTRL, 0, 1⟩
def Fd.PAI_STAT_ROLE : Fld := ⟨Reg.PAI_STAT, 0, 2⟩
def Fd.PAI_STAT_PAIRED : Fld := ⟨Reg.PAI_STAT, 2, 1⟩
def Fd.PAI_STAT_L0 : Fld := ⟨Reg.PAI_STAT, 3, 1⟩
def Fd.PAI_STAT_L1 : Fld := ⟨Reg.PAI_STAT, 4, 1⟩
def Fd.PAI_STAT_HB_PAIR : Fld := ⟨Reg.PAI_STAT, 5, 1⟩
def Fd.PAI_STAT_HB_NET : Fld := ⟨Reg.PAI_STAT, 6, 1⟩
def Fd.PAI_STAT_SEL : Fld := ⟨Reg.PAI_STAT, 7, 1⟩
def Fd.PAI_STAT_PEER_HEALTH : Fld := ⟨Reg.PAI_STAT, 8, 1⟩
def Fd.PAI_STAT_WARM_READY : Fld := ⟨Reg.PAI_STAT, 9, 1⟩
def Fd.PAI_STAT_IMG_OK : Fld := ⟨Reg.PAI_STAT, 10, 1⟩
def Fd.PAI_EVT_PARTNER_LOST : Fld := ⟨Reg.PAI_EVT, 0, 1⟩
def Fd.PAI_EVT_TAKEOVER : Fld := ⟨Reg.PAI_EVT, 1, 1⟩
def Fd.PAI_EVT_SPLIT : Fld := ⟨Reg.PAI_EVT, 2, 1⟩
def Fd.PAI_EVT_IMG_BAD : Fld := ⟨Reg.PAI_EVT, 3, 1⟩
def Fd.PAI_EVT_IMG_STALE : Fld := ⟨Reg.PAI_EVT, 4, 1⟩
def Fd.PAI_EVT_SWAP_DONE : Fld := ⟨Reg.PAI_EVT, 5, 1⟩
def Fd.PAI_EVT_SWAP_ABORT : Fld := ⟨Reg.PAI_EVT, 6, 1⟩
def Fd.PAI_EVT_LANE_DOWN : Fld := ⟨Reg.PAI_EVT, 7, 1⟩
def Fd.PAI_EVT_BAR_NONE : Fld := ⟨Reg.PAI_EVT, 8, 1⟩
def Fd.PAI_EVT_LEVEL : Fld := ⟨Reg.PAI_EVT, 9, 1⟩
def Fd.PAI_SWAP_LEAD : Fld := ⟨Reg.PAI_SWAP, 0, 10⟩
def Fd.PAI_SWAP_GO : Fld := ⟨Reg.PAI_SWAP, 31, 1⟩
def Fd.PAI_SWAP_STAT_STATE : Fld := ⟨Reg.PAI_SWAP_STAT, 0, 3⟩
def Fd.PAI_SWAP_STAT_RESULT : Fld := ⟨Reg.PAI_SWAP_STAT, 4, 4⟩
def Fd.PAI_SWAP_STAT_SEQ : Fld := ⟨Reg.PAI_SWAP_STAT, 16, 16⟩
def Fd.PAI_SWAP_IDX_LO_VAL : Fld := ⟨Reg.PAI_SWAP_IDX_LO, 0, 32⟩
def Fd.PAI_SWAP_IDX_HI_VAL : Fld := ⟨Reg.PAI_SWAP_IDX_HI, 0, 32⟩
def Fd.PAI_HB_MISS_PAIR : Fld := ⟨Reg.PAI_HB, 0, 8⟩
def Fd.PAI_HB_MISS_NET : Fld := ⟨Reg.PAI_HB, 8, 8⟩
def Fd.PAI_IMG_SEQ_ISEQ : Fld := ⟨Reg.PAI_IMG_SEQ, 0, 32⟩
def Fd.PAI_IMG_AGE_MS : Fld := ⟨Reg.PAI_IMG_AGE, 0, 32⟩
def Fd.PAI_PLVL_MIN : Fld := ⟨Reg.PAI_PLVL, 0, 8⟩
def Fd.PAI_PLVL_MAX : Fld := ⟨Reg.PAI_PLVL, 8, 8⟩
def Fd.PAI_PLVL_RUN : Fld := ⟨Reg.PAI_PLVL, 16, 8⟩
def Fd.PAI_PLVL_CAP : Fld := ⟨Reg.PAI_PLVL, 24, 8⟩
def Fd.PAI_CNT_HBMISS_N : Fld := ⟨Reg.PAI_CNT_HBMISS, 0, 32⟩
def Fd.PAI_CNT_TAKEOVER_N : Fld := ⟨Reg.PAI_CNT_TAKEOVER, 0, 32⟩
def Fd.PAI_CNT_IMGBAD_N : Fld := ⟨Reg.PAI_CNT_IMGBAD, 0, 32⟩
def Fd.PAI_CNT_SPLIT_N : Fld := ⟨Reg.PAI_CNT_SPLIT, 0, 32⟩
def Fd.PAI_PRD_CTRL_KIND : Fld := ⟨Reg.PAI_PRD_CTRL, 0, 1⟩
def Fd.PAI_PRD_CTRL_AREA : Fld := ⟨Reg.PAI_PRD_CTRL, 1, 2⟩
def Fd.PAI_PRD_CTRL_COUNT : Fld := ⟨Reg.PAI_PRD_CTRL, 3, 4⟩
def Fd.PAI_PRD_CTRL_GO : Fld := ⟨Reg.PAI_PRD_CTRL, 31, 1⟩
def Fd.PAI_PRD_STAT_RESULT : Fld := ⟨Reg.PAI_PRD_STAT, 0, 3⟩
def Fd.PAI_PRD_STAT_PENDING : Fld := ⟨Reg.PAI_PRD_STAT, 3, 1⟩
def Fd.PAI_PRD_STAT_WORDS : Fld := ⟨Reg.PAI_PRD_STAT, 4, 5⟩
def Fd.PAI_FED_CTRL_EN : Fld := ⟨Reg.PAI_FED_CTRL, 0, 1⟩
def Fd.PAI_FED_CTRL_RESV_EN : Fld := ⟨Reg.PAI_FED_CTRL, 1, 1⟩
def Fd.PAI_FED_CTRL_ADOPT_PCT : Fld := ⟨Reg.PAI_FED_CTRL, 2, 7⟩
def Fd.PAI_FED_CTRL_ADOPT_EN : Fld := ⟨Reg.PAI_FED_CTRL, 9, 1⟩
def Fd.PAI_FED_STAT_FSTATE : Fld := ⟨Reg.PAI_FED_STAT, 0, 2⟩
def Fd.PAI_FED_STAT_COORD : Fld := ⟨Reg.PAI_FED_STAT, 2, 1⟩
def Fd.PAI_FED_STAT_COORD_ID : Fld := ⟨Reg.PAI_FED_STAT, 3, 6⟩
def Fd.PAI_FED_STAT_MEMBERS : Fld := ⟨Reg.PAI_FED_STAT, 9, 7⟩
def Fd.PAI_FED_STAT_K : Fld := ⟨Reg.PAI_FED_STAT, 16, 3⟩
def Fd.PAI_FED_STAT_RESV_OK : Fld := ⟨Reg.PAI_FED_STAT, 19, 1⟩
def Fd.PAI_FED_EVT_JOINED : Fld := ⟨Reg.PAI_FED_EVT, 0, 1⟩
def Fd.PAI_FED_EVT_MEMBER_LOST : Fld := ⟨Reg.PAI_FED_EVT, 1, 1⟩
def Fd.PAI_FED_EVT_MEMBER_BACK : Fld := ⟨Reg.PAI_FED_EVT, 2, 1⟩
def Fd.PAI_FED_EVT_ADOPT : Fld := ⟨Reg.PAI_FED_EVT, 3, 1⟩
def Fd.PAI_FED_EVT_ADOPT_SHORT : Fld := ⟨Reg.PAI_FED_EVT, 4, 1⟩
def Fd.PAI_FED_EVT_RESYNC : Fld := ⟨Reg.PAI_FED_EVT, 5, 1⟩
def Fd.PAI_FED_EVT_ALLOC_STALE : Fld := ⟨Reg.PAI_FED_EVT, 6, 1⟩
def Fd.PAI_FED_EVT_DUP_ID : Fld := ⟨Reg.PAI_FED_EVT, 7, 1⟩
def Fd.PAI_FED_EVT_RESV_SHORT : Fld := ⟨Reg.PAI_FED_EVT, 8, 1⟩
def Fd.PAI_FED_EVT_LS_END : Fld := ⟨Reg.PAI_FED_EVT, 9, 1⟩
def Fd.PAI_FED_EVT_LEVEL : Fld := ⟨Reg.PAI_FED_EVT, 10, 1⟩
def Fd.PAI_LVL_MIN : Fld := ⟨Reg.PAI_LVL, 0, 8⟩
def Fd.PAI_LVL_MAX : Fld := ⟨Reg.PAI_LVL, 8, 8⟩
def Fd.PAI_LVL_RUN : Fld := ⟨Reg.PAI_LVL, 16, 8⟩
def Fd.PAI_FED_LOST_MS : Fld := ⟨Reg.PAI_FED_LOST, 0, 13⟩
def Fd.PAI_FED_BUDGET_VAL : Fld := ⟨Reg.PAI_FED_BUDGET, 0, 32⟩
def Fd.PAI_FED_RAMP_VAL : Fld := ⟨Reg.PAI_FED_RAMP, 0, 32⟩
def Fd.PAI_FEPOCH_N : Fld := ⟨Reg.PAI_FEPOCH, 0, 32⟩
def Fd.PAI_RESV_RESERVED : Fld := ⟨Reg.PAI_RESV, 0, 13⟩
def Fd.PAI_RESV_MAXOWN : Fld := ⟨Reg.PAI_RESV, 16, 13⟩
def Fd.PAI_LS_CTRL_ENTER : Fld := ⟨Reg.PAI_LS_CTRL, 0, 1⟩
def Fd.PAI_LS_CTRL_LEAVE : Fld := ⟨Reg.PAI_LS_CTRL, 1, 1⟩
def Fd.PAI_LS_STAT_STATE : Fld := ⟨Reg.PAI_LS_STAT, 0, 3⟩
def Fd.PAI_LS_STAT_RESULT : Fld := ⟨Reg.PAI_LS_STAT, 4, 4⟩
def Fd.PAI_LS_STAT_LAG : Fld := ⟨Reg.PAI_LS_STAT, 16, 16⟩
def Fd.PAI_LS_MAX_GBPS : Fld := ⟨Reg.PAI_LS_MAX, 0, 6⟩
def Fd.PAI_CNT_LSFRM_N : Fld := ⟨Reg.PAI_CNT_LSFRM, 0, 32⟩
def Fd.PAI_CNT_ADOPT_N : Fld := ⟨Reg.PAI_CNT_ADOPT, 0, 32⟩
def Fd.SEC_STAT_OWNED : Fld := ⟨Reg.SEC_STAT, 0, 1⟩
def Fd.SEC_STAT_DIK_EXHAUSTED : Fld := ⟨Reg.SEC_STAT, 1, 1⟩
def Fd.SEC_STAT_ROOT_MISMATCH : Fld := ⟨Reg.SEC_STAT, 2, 1⟩
def Fd.SEC_EVT_FW_FALLBACK : Fld := ⟨Reg.SEC_EVT, 0, 1⟩
def Fd.SEC_EVT_KEY_LOW : Fld := ⟨Reg.SEC_EVT, 1, 1⟩
def Fd.SEC_EVT_AK_RENEWED : Fld := ⟨Reg.SEC_EVT, 2, 1⟩
def Fd.SEC_EVT_AUTH_FAIL : Fld := ⟨Reg.SEC_EVT, 3, 1⟩
def Fd.SEC_EVT_ENROL : Fld := ⟨Reg.SEC_EVT, 4, 1⟩
def Fd.SEC_EVT_FW_DONE : Fld := ⟨Reg.SEC_EVT, 5, 1⟩
def Fd.SEC_DIK_USED_N : Fld := ⟨Reg.SEC_DIK_USED, 0, 11⟩
def Fd.SEC_AKM_NEXT_N : Fld := ⟨Reg.SEC_AKM_NEXT, 0, 32⟩
def Fd.SEC_AKM_LIMIT_N : Fld := ⟨Reg.SEC_AKM_LIMIT, 0, 32⟩
def Fd.SEC_AKP_NEXT_N : Fld := ⟨Reg.SEC_AKP_NEXT, 0, 32⟩
def Fd.SEC_AKP_LIMIT_N : Fld := ⟨Reg.SEC_AKP_LIMIT, 0, 32⟩
def Fd.SEC_AK_GEN_AKM : Fld := ⟨Reg.SEC_AK_GEN, 0, 16⟩
def Fd.SEC_AK_GEN_AKP : Fld := ⟨Reg.SEC_AK_GEN, 16, 16⟩
def Fd.SEC_FW_CMD_OP : Fld := ⟨Reg.SEC_FW_CMD, 0, 3⟩
def Fd.SEC_FW_CMD_PART : Fld := ⟨Reg.SEC_FW_CMD, 4, 2⟩
def Fd.SEC_FW_CMD_PARTS : Fld := ⟨Reg.SEC_FW_CMD, 6, 3⟩
def Fd.SEC_FW_CMD_HANDLE : Fld := ⟨Reg.SEC_FW_CMD, 16, 16⟩
def Fd.SEC_FW_STAT_RESULT : Fld := ⟨Reg.SEC_FW_STAT, 0, 4⟩
def Fd.SEC_FW_STAT_BUSY : Fld := ⟨Reg.SEC_FW_STAT, 4, 1⟩
def Fd.SEC_CNT_AUTHFAIL_N : Fld := ⟨Reg.SEC_CNT_AUTHFAIL, 0, 32⟩
def Fd.SEC_CNT_SESSOPEN_N : Fld := ⟨Reg.SEC_CNT_SESSOPEN, 0, 32⟩
def Fd.SEC_CNT_ATTEST_N : Fld := ⟨Reg.SEC_CNT_ATTEST, 0, 32⟩
def Fd.FRN_CTRL_MIRROR_EN : Fld := ⟨Reg.FRN_CTRL, 0, 1⟩
def Fd.FRN_CTRL_FIRST_EN : Fld := ⟨Reg.FRN_CTRL, 1, 1⟩
def Fd.FRN_STAT_FIRST_FULL : Fld := ⟨Reg.FRN_STAT, 0, 1⟩
def Fd.FRN_STAT_MIRROR_RUN : Fld := ⟨Reg.FRN_STAT, 1, 1⟩
def Fd.FRN_STAT_QUEUE : Fld := ⟨Reg.FRN_STAT, 16, 11⟩
def Fd.FRN_EVT_FIRST_FULL : Fld := ⟨Reg.FRN_EVT, 0, 1⟩
def Fd.FRN_EVT_LOST : Fld := ⟨Reg.FRN_EVT, 1, 1⟩
def Fd.FRN_EVT_SUPPRESSED : Fld := ⟨Reg.FRN_EVT, 2, 1⟩
def Fd.FRN_EVT_CLEARED : Fld := ⟨Reg.FRN_EVT, 3, 1⟩
def Fd.FRN_EVT_MIRROR_GAP : Fld := ⟨Reg.FRN_EVT, 4, 1⟩
def Fd.FRN_EVT_ECC_CORR : Fld := ⟨Reg.FRN_EVT, 5, 1⟩
def Fd.FRN_FIRST_USED_N : Fld := ⟨Reg.FRN_FIRST_USED, 0, 14⟩
def Fd.FRN_ANC_HEAD_IDX : Fld := ⟨Reg.FRN_ANC_HEAD, 0, 12⟩
def Fd.FRN_CLR_AREAS : Fld := ⟨Reg.FRN_CLR, 0, 3⟩
def Fd.FRN_CLR_CONFIRM : Fld := ⟨Reg.FRN_CLR, 16, 16⟩
def Fd.FRN_ECC_A : Fld := ⟨Reg.FRN_ECC, 0, 16⟩
def Fd.FRN_ECC_B : Fld := ⟨Reg.FRN_ECC, 16, 16⟩
def Fd.FRN_SCRUB_A : Fld := ⟨Reg.FRN_SCRUB, 0, 16⟩
def Fd.FRN_SCRUB_B : Fld := ⟨Reg.FRN_SCRUB, 16, 16⟩
def Fd.FRN_CNT_WRITTEN_N : Fld := ⟨Reg.FRN_CNT_WRITTEN, 0, 32⟩
def Fd.FRN_CNT_SUPP_N : Fld := ⟨Reg.FRN_CNT_SUPP, 0, 32⟩
def Fd.FRN_CNT_LOST_N : Fld := ⟨Reg.FRN_CNT_LOST, 0, 32⟩
def Fd.FRN_CNT_MGAP_N : Fld := ⟨Reg.FRN_CNT_MGAP, 0, 32⟩
def Fd.DIA_CTRL_DIG_EN : Fld := ⟨Reg.DIA_CTRL, 0, 1⟩
def Fd.DIA_CTRL_TRACE_EN : Fld := ⟨Reg.DIA_CTRL, 1, 1⟩
def Fd.DIA_CTRL_DIG_KIND : Fld := ⟨Reg.DIA_CTRL, 2, 1⟩
def Fd.DIA_STAT_DIG_RUN : Fld := ⟨Reg.DIA_STAT, 0, 1⟩
def Fd.DIA_STAT_SCRUB_RUN : Fld := ⟨Reg.DIA_STAT, 1, 1⟩
def Fd.DIA_EVT_CORR : Fld := ⟨Reg.DIA_EVT, 0, 1⟩
def Fd.DIA_EVT_UNCORR : Fld := ⟨Reg.DIA_EVT, 1, 1⟩
def Fd.DIA_EVT_BUS_ERR : Fld := ⟨Reg.DIA_EVT, 2, 1⟩
def Fd.DIA_EVT_SCRUB_PASS : Fld := ⟨Reg.DIA_EVT, 3, 1⟩
def Fd.DIA_EVT_FUSE_BLOWN : Fld := ⟨Reg.DIA_EVT, 4, 1⟩
def Fd.DIA_EVT_FUSE_LOW : Fld := ⟨Reg.DIA_EVT, 5, 1⟩
def Fd.DIA_EVT_FUSE_OUT : Fld := ⟨Reg.DIA_EVT, 6, 1⟩
def Fd.DIA_EVT_ECCTEST_DONE : Fld := ⟨Reg.DIA_EVT, 7, 1⟩
def Fd.DIA_EVT_DIG_TAINT : Fld := ⟨Reg.DIA_EVT, 8, 1⟩
def Fd.DIA_SCRUB_DDR4 : Fld := ⟨Reg.DIA_SCRUB, 0, 8⟩
def Fd.DIA_SCRUB_STACK : Fld := ⟨Reg.DIA_SCRUB, 8, 8⟩
def Fd.DIA_SCRUB_TILE : Fld := ⟨Reg.DIA_SCRUB, 16, 8⟩
def Fd.DIA_ECCTEST_MEM : Fld := ⟨Reg.DIA_ECCTEST, 0, 4⟩
def Fd.DIA_ECCTEST_MODE : Fld := ⟨Reg.DIA_ECCTEST, 4, 2⟩
def Fd.DIA_ECCTEST_UNIT : Fld := ⟨Reg.DIA_ECCTEST, 8, 6⟩
def Fd.DIA_ECCTEST_RESULT : Fld := ⟨Reg.DIA_ECCTEST, 28, 2⟩
def Fd.DIA_ECCTEST_GO : Fld := ⟨Reg.DIA_ECCTEST, 31, 1⟩
def Fd.DIA_FUSE_FREE_MAIN : Fld := ⟨Reg.DIA_FUSE_FREE, 0, 10⟩
def Fd.DIA_FUSE_FREE_SERAC : Fld := ⟨Reg.DIA_FUSE_FREE, 10, 8⟩
def Fd.DIA_FUSE_FREE_PORT : Fld := ⟨Reg.DIA_FUSE_FREE, 18, 7⟩
def Fd.DIA_CNT_CORR_N : Fld := ⟨Reg.DIA_CNT_CORR, 0, 32⟩
def Fd.DIA_CNT_UNCORR_N : Fld := ⟨Reg.DIA_CNT_UNCORR, 0, 32⟩
def Fd.DIA_CNT_BUSERR_N : Fld := ⟨Reg.DIA_CNT_BUSERR, 0, 32⟩
def Fd.DIA_DIG_STAT_RESULT : Fld := ⟨Reg.DIA_DIG_STAT, 0, 2⟩
def Fd.DIA_FUSE_PHYS (i : Nat) : Fld := ⟨Reg.DIA_FUSE i, 0, 8⟩
def Fd.DIA_FUSE_LOGICAL (i : Nat) : Fld := ⟨Reg.DIA_FUSE i, 8, 8⟩
def Fd.DIA_FUSE_UNIT (i : Nat) : Fld := ⟨Reg.DIA_FUSE i, 16, 12⟩
def Fd.DIA_FUSE_KIND (i : Nat) : Fld := ⟨Reg.DIA_FUSE i, 28, 3⟩
def Fd.DIA_FUSE_VALID (i : Nat) : Fld := ⟨Reg.DIA_FUSE i, 31, 1⟩
def Fd.ACT_NTC_SUP_OPEN_K : Fld := ⟨Reg.ACT_NTC_SUP, 0, 14⟩
def Fd.ACT_NTC_SUP_SHORT : Fld := ⟨Reg.ACT_NTC_SUP, 16, 10⟩
def Fd.ACT_DI_STATE : Fld := ⟨Reg.ACT_DI, 0, 16⟩
def Fd.ACT_HW_STAT_PA_OK : Fld := ⟨Reg.ACT_HW_STAT, 0, 1⟩
def Fd.ACT_HW_STAT_PB_OK : Fld := ⟨Reg.ACT_HW_STAT, 1, 1⟩
def Fd.ACT_HW_STAT_FS_OK : Fld := ⟨Reg.ACT_HW_STAT, 2, 1⟩
def Fd.ACT_HW_STAT_FS_SHED : Fld := ⟨Reg.ACT_HW_STAT, 3, 1⟩
def Fd.ACT_HW_STAT_SEL : Fld := ⟨Reg.ACT_HW_STAT, 4, 1⟩
def Fd.ACT_HW_STAT_FC_IND : Fld := ⟨Reg.ACT_HW_STAT, 5, 1⟩
def Fd.ACT_HWEVT_PA_LOST : Fld := ⟨Reg.ACT_HWEVT, 0, 1⟩
def Fd.ACT_HWEVT_PB_LOST : Fld := ⟨Reg.ACT_HWEVT, 1, 1⟩
def Fd.ACT_HWEVT_FS_LIMIT : Fld := ⟨Reg.ACT_HWEVT, 2, 1⟩
def Fd.ACT_HWEVT_HARNESS : Fld := ⟨Reg.ACT_HWEVT, 3, 1⟩
def Fd.ACT_HWEVT_STRAP_CHG : Fld := ⟨Reg.ACT_HWEVT, 4, 1⟩
def Fd.ACT_HWEVT_STRAP_MISMATCH : Fld := ⟨Reg.ACT_HWEVT, 5, 1⟩
def Fd.ACT_HWEVT_AIR_HOT : Fld := ⟨Reg.ACT_HWEVT, 6, 1⟩
def Fd.ACT_HWEVT_WATER : Fld := ⟨Reg.ACT_HWEVT, 7, 1⟩
def Fd.ACT_VIN_PA : Fld := ⟨Reg.ACT_VIN, 0, 16⟩
def Fd.ACT_VIN_PB : Fld := ⟨Reg.ACT_VIN, 16, 16⟩
def Fd.ACT_VACT_AA : Fld := ⟨Reg.ACT_VACT, 0, 16⟩
def Fd.ACT_VACT_AB : Fld := ⟨Reg.ACT_VACT, 16, 16⟩
def Fd.ACT_IFS_MA : Fld := ⟨Reg.ACT_IFS, 0, 16⟩
def Fd.ACT_THERM0_AIR : Fld := ⟨Reg.ACT_THERM0, 0, 16⟩
def Fd.ACT_THERM0_SERAC : Fld := ⟨Reg.ACT_THERM0, 16, 16⟩
def Fd.ACT_THERM1_INLET : Fld := ⟨Reg.ACT_THERM1, 0, 16⟩
def Fd.ACT_THERM1_OUTLET : Fld := ⟨Reg.ACT_THERM1, 16, 16⟩
def Fd.ACT_STRAP_MODULE_ID : Fld := ⟨Reg.ACT_STRAP, 0, 6⟩
def Fd.ACT_STRAP_PAIR_ID : Fld := ⟨Reg.ACT_STRAP, 8, 8⟩
def Fd.ACT_STRAP_SLOT : Fld := ⟨Reg.ACT_STRAP, 16, 1⟩
def Fd.ACT_STRAP_PAIRED : Fld := ⟨Reg.ACT_STRAP, 17, 1⟩
def Fd.ACT_STRAP_BSRC : Fld := ⟨Reg.ACT_STRAP, 18, 2⟩
def Fd.ACT_STRAP_ENROL : Fld := ⟨Reg.ACT_STRAP, 20, 1⟩
def Fd.ACT_STRAP_DIFF : Fld := ⟨Reg.ACT_STRAP, 31, 1⟩
def Fd.CTR_SEL_EVENT (i j : Nat) : Fld := ⟨Reg.CTR_SEL i j, 0, 6⟩
def Fd.CTR_SEL_MODE (i j : Nat) : Fld := ⟨Reg.CTR_SEL i j, 8, 2⟩
def Fd.CTR_SEL_OBJ_EN (i j : Nat) : Fld := ⟨Reg.CTR_SEL i j, 10, 1⟩
def Fd.CTR_SEL_OBJ (i j : Nat) : Fld := ⟨Reg.CTR_SEL i j, 16, 16⟩
def Fd.BLK_SNAP_ID_ID (i : Nat) : Fld := ⟨Reg.BLK_SNAP_ID i, 0, 16⟩
def Fd.AE_CTRL_VALID (i : Nat) : Fld := ⟨Reg.AE_CTRL i, 31, 1⟩
def Fd.AE_CTRL_TRIG (i : Nat) : Fld := ⟨Reg.AE_CTRL i, 28, 3⟩
def Fd.AE_CTRL_KIND (i : Nat) : Fld := ⟨Reg.AE_CTRL i, 24, 4⟩
def Fd.AE_CTRL_JOB (i : Nat) : Fld := ⟨Reg.AE_CTRL i, 16, 8⟩
def Fd.AE_CTRL_EVERY (i : Nat) : Fld := ⟨Reg.AE_CTRL i, 15, 1⟩
def Fd.AE_STAT_STATE (i : Nat) : Fld := ⟨Reg.AE_STAT i, 0, 3⟩
def Fd.AE_STAT_REASON (i : Nat) : Fld := ⟨Reg.AE_STAT i, 4, 4⟩
def Fd.JOB_CFG_EN (i : Nat) : Fld := ⟨Reg.JOB_CFG i, 0, 1⟩
def Fd.JOB_CFG_SRC_SCHED (i : Nat) : Fld := ⟨Reg.JOB_CFG i, 1, 1⟩
def Fd.JOB_CFG_SRC_STRM (i : Nat) : Fld := ⟨Reg.JOB_CFG i, 2, 1⟩
def Fd.JOB_CFG_NSTRM (i : Nat) : Fld := ⟨Reg.JOB_CFG i, 3, 4⟩
def Fd.JOB_CFG_LOCK_JIT (i : Nat) : Fld := ⟨Reg.JOB_CFG i, 7, 7⟩
def Fd.JOB_CFG_COAST_MAX (i : Nat) : Fld := ⟨Reg.JOB_CFG i, 14, 6⟩
def Fd.JOB_CFG_WIN (i : Nat) : Fld := ⟨Reg.JOB_CFG i, 20, 10⟩
def Fd.JOB_STAT_STATE (i : Nat) : Fld := ⟨Reg.JOB_STAT i, 0, 3⟩
def Fd.JOB_STAT_HELD (i : Nat) : Fld := ⟨Reg.JOB_STAT i, 3, 1⟩
def Fd.JOB_STAT_SEG (i : Nat) : Fld := ⟨Reg.JOB_STAT i, 4, 4⟩
def Fd.JOB_STAT_COASTED (i : Nat) : Fld := ⟨Reg.JOB_STAT i, 8, 8⟩
def Fd.JOB_MSTRM_SID (i j : Nat) : Fld := ⟨Reg.JOB_MSTRM i j, 0, 18⟩
def Fd.PAIR_A_SID (i : Nat) : Fld := ⟨Reg.PAIR_A i, 0, 18⟩
def Fd.PAIR_A_VALID (i : Nat) : Fld := ⟨Reg.PAIR_A i, 31, 1⟩
def Fd.PAIR_B_SID (i : Nat) : Fld := ⟨Reg.PAIR_B i, 0, 18⟩
def Fd.PAIR_CFG_BAND (i : Nat) : Fld := ⟨Reg.PAIR_CFG i, 0, 12⟩
def Fd.PAIR_CFG_PERSIST (i : Nat) : Fld := ⟨Reg.PAIR_CFG i, 12, 10⟩
def Fd.PAIR_STAT_STATE (i : Nat) : Fld := ⟨Reg.PAIR_STAT i, 0, 2⟩
def Fd.PAIR_STAT_SIDE (i : Nat) : Fld := ⟨Reg.PAIR_STAT i, 2, 1⟩
def Fd.PAIR_STAT_SPLIT_MS (i : Nat) : Fld := ⟨Reg.PAIR_STAT i, 12, 20⟩
def Fd.SRC_STAT_EPOCH (i : Nat) : Fld := ⟨Reg.SRC_STAT i, 0, 16⟩
def Fd.SRC_STAT_SEEN_A (i : Nat) : Fld := ⟨Reg.SRC_STAT i, 16, 1⟩
def Fd.SRC_STAT_SEEN_B (i : Nat) : Fld := ⟨Reg.SRC_STAT i, 17, 1⟩
def Fd.SRC_STAT_SINGLE (i : Nat) : Fld := ⟨Reg.SRC_STAT i, 18, 1⟩
def Fd.SRC_STAT_QUAR (i : Nat) : Fld := ⟨Reg.SRC_STAT i, 19, 1⟩
def Fd.SRC_STAT_SILENT (i : Nat) : Fld := ⟨Reg.SRC_STAT i, 20, 1⟩
def Fd.SRC_SEQ_HIGH (i : Nat) : Fld := ⟨Reg.SRC_SEQ i, 0, 32⟩
def Fd.SRC_GAP_N (i : Nat) : Fld := ⟨Reg.SRC_GAP i, 0, 32⟩
def Fd.SRC_VIOL_N (i : Nat) : Fld := ⟨Reg.SRC_VIOL i, 0, 32⟩
def Fd.SV_VAL_VALUE (i : Nat) : Fld := ⟨Reg.SV_VAL i, 0, 16⟩
def Fd.SV_VAL_QUAL (i : Nat) : Fld := ⟨Reg.SV_VAL i, 16, 4⟩
def Fd.SV_TIME_SIDX (i : Nat) : Fld := ⟨Reg.SV_TIME i, 0, 32⟩
def Fd.SV_MISS_MISS (i : Nat) : Fld := ⟨Reg.SV_MISS i, 0, 16⟩
def Fd.SV_MISS_REORD (i : Nat) : Fld := ⟨Reg.SV_MISS i, 16, 16⟩
def Fd.SV_FCAST_VALUE (i : Nat) : Fld := ⟨Reg.SV_FCAST i, 0, 16⟩
def Fd.SV_FCAST_FVALID (i : Nat) : Fld := ⟨Reg.SV_FCAST i, 16, 1⟩
def Fd.SLOT_CFG_EXACT (i : Nat) : Fld := ⟨Reg.SLOT_CFG i, 0, 1⟩
def Fd.SLOT_STAT_STATE (i : Nat) : Fld := ⟨Reg.SLOT_STAT i, 0, 3⟩
def Fd.SLOT_STAT_ROLE (i : Nat) : Fld := ⟨Reg.SLOT_STAT i, 4, 4⟩
def Fd.SLOT_STAT_LOAD_ERR (i : Nat) : Fld := ⟨Reg.SLOT_STAT i, 8, 4⟩
def Fd.SLOT_STAT_LTILES (i : Nat) : Fld := ⟨Reg.SLOT_STAT i, 16, 7⟩
def Fd.SLOT_CMD_LOAD (i : Nat) : Fld := ⟨Reg.SLOT_CMD i, 0, 1⟩
def Fd.SLOT_CMD_UNLOAD (i : Nat) : Fld := ⟨Reg.SLOT_CMD i, 1, 1⟩
def Fd.SLOT_CMD_HANDLE (i : Nat) : Fld := ⟨Reg.SLOT_CMD i, 16, 16⟩
def Fd.TILE_STAT_INSERVICE (i : Nat) : Fld := ⟨Reg.TILE_STAT i, 0, 1⟩
def Fd.TILE_STAT_SPARE_ARR_USED (i : Nat) : Fld := ⟨Reg.TILE_STAT i, 1, 1⟩
def Fd.TILE_STAT_SPARE_BANK_USED (i : Nat) : Fld := ⟨Reg.TILE_STAT i, 2, 1⟩
def Fd.TILE_STAT_ARR_LOST (i : Nat) : Fld := ⟨Reg.TILE_STAT i, 3, 4⟩
def Fd.TILE_STAT_PART (i : Nat) : Fld := ⟨Reg.TILE_STAT i, 7, 2⟩
def Fd.TILE_BANKMAP_BANK (i : Nat) : Fld := ⟨Reg.TILE_BANKMAP i, 0, 5⟩
def Fd.TILE_BANKMAP_VALID (i : Nat) : Fld := ⟨Reg.TILE_BANKMAP i, 5, 1⟩
def Fd.TILE_ERR_CORR (i : Nat) : Fld := ⟨Reg.TILE_ERR i, 0, 16⟩
def Fd.TILE_ERR_SHADOW (i : Nat) : Fld := ⟨Reg.TILE_ERR i, 16, 16⟩
def Fd.STK_STAT_STATE (i : Nat) : Fld := ⟨Reg.STK_STAT i, 0, 2⟩
def Fd.STK_STAT_PC_RET (i : Nat) : Fld := ⟨Reg.STK_STAT i, 2, 7⟩
def Fd.STK_STAT_SPARE_USED (i : Nat) : Fld := ⟨Reg.STK_STAT i, 9, 1⟩
def Fd.STK_PCMAP_PC (i : Nat) : Fld := ⟨Reg.STK_PCMAP i, 0, 6⟩
def Fd.STK_PCMAP_VALID (i : Nat) : Fld := ⟨Reg.STK_PCMAP i, 6, 1⟩
def Fd.STK_CORR_N (i : Nat) : Fld := ⟨Reg.STK_CORR i, 0, 32⟩
def Fd.STK_FREE_MIB (i : Nat) : Fld := ⟨Reg.STK_FREE i, 0, 32⟩
def Fd.T_CFG_KIND (i : Nat) : Fld := ⟨Reg.T_CFG i, 0, 3⟩
def Fd.T_CFG_EKIND (i : Nat) : Fld := ⟨Reg.T_CFG i, 3, 2⟩
def Fd.T_CFG_ROWLINES (i : Nat) : Fld := ⟨Reg.T_CFG i, 5, 8⟩
def Fd.T_CFG_HOT (i : Nat) : Fld := ⟨Reg.T_CFG i, 13, 1⟩
def Fd.T_CFG_REPLAY (i : Nat) : Fld := ⟨Reg.T_CFG i, 14, 1⟩
def Fd.T_CFG_LEVEL (i : Nat) : Fld := ⟨Reg.T_CFG i, 16, 8⟩
def Fd.T_CFG_DEPTH (i : Nat) : Fld := ⟨Reg.T_CFG i, 24, 4⟩
def Fd.T_CMD_CREATE (i : Nat) : Fld := ⟨Reg.T_CMD i, 0, 1⟩
def Fd.T_CMD_DELETE (i : Nat) : Fld := ⟨Reg.T_CMD i, 1, 1⟩
def Fd.T_CMD_SAVE (i : Nat) : Fld := ⟨Reg.T_CMD i, 2, 1⟩
def Fd.T_CMD_RESTORE (i : Nat) : Fld := ⟨Reg.T_CMD i, 3, 1⟩
def Fd.T_CMD_HANDLE (i : Nat) : Fld := ⟨Reg.T_CMD i, 16, 16⟩
def Fd.T_STAT_STATE (i : Nat) : Fld := ⟨Reg.T_STAT i, 0, 3⟩
def Fd.T_STAT_ERR (i : Nat) : Fld := ⟨Reg.T_STAT i, 4, 4⟩
def Fd.T_STAT_RESTORED (i : Nat) : Fld := ⟨Reg.T_STAT i, 8, 1⟩
def Fd.ACC_CFG_TDP (i : Nat) : Fld := ⟨Reg.ACC_CFG i, 0, 16⟩
def Fd.ACC_CFG_FALLBACK (i : Nat) : Fld := ⟨Reg.ACC_CFG i, 16, 16⟩
def Fd.ACC_TGT_TARGET (i : Nat) : Fld := ⟨Reg.ACC_TGT i, 0, 16⟩
def Fd.ACC_TGT_FLOOR (i : Nat) : Fld := ⟨Reg.ACC_TGT i, 16, 16⟩
def Fd.ACC_EFF_CAP (i : Nat) : Fld := ⟨Reg.ACC_EFF i, 0, 16⟩
def Fd.ACC_EFF_FLOOR (i : Nat) : Fld := ⟨Reg.ACC_EFF i, 16, 16⟩
def Fd.ACC_STAT_RAMP (i : Nat) : Fld := ⟨Reg.ACC_STAT i, 0, 16⟩
def Fd.ACC_STAT_SRC (i : Nat) : Fld := ⟨Reg.ACC_STAT i, 16, 3⟩
def Fd.ACC_STAT_FLOORLOW (i : Nat) : Fld := ⟨Reg.ACC_STAT i, 19, 1⟩
def Fd.ACC_STAT_ACKED (i : Nat) : Fld := ⟨Reg.ACC_STAT i, 20, 1⟩
def Fd.ACC_STAT_FALLBACK (i : Nat) : Fld := ⟨Reg.ACC_STAT i, 21, 1⟩
def Fd.ACC_STAT_OVER (i : Nat) : Fld := ⟨Reg.ACC_STAT i, 22, 1⟩
def Fd.RK_STAT_PROT (i : Nat) : Fld := ⟨Reg.RK_STAT i, 0, 2⟩
def Fd.RK_STAT_CONFIRM (i : Nat) : Fld := ⟨Reg.RK_STAT i, 2, 1⟩
def Fd.RK_STAT_NACC (i : Nat) : Fld := ⟨Reg.RK_STAT i, 3, 8⟩
def Fd.RK_SUM_VAL (i : Nat) : Fld := ⟨Reg.RK_SUM i, 0, 32⟩
def Fd.JB_CFG_TARGET_PCT (i : Nat) : Fld := ⟨Reg.JB_CFG i, 0, 7⟩
def Fd.JB_CFG_POLICY (i : Nat) : Fld := ⟨Reg.JB_CFG i, 8, 4⟩
def Fd.JB_STAT_POLICY (i : Nat) : Fld := ⟨Reg.JB_STAT i, 0, 4⟩
def Fd.JB_STAT_HELD (i : Nat) : Fld := ⟨Reg.JB_STAT i, 4, 1⟩
def Fd.JB_STAT_NACC (i : Nat) : Fld := ⟨Reg.JB_STAT i, 8, 13⟩
def Fd.POL_CFG_MODE (i : Nat) : Fld := ⟨Reg.POL_CFG i, 0, 2⟩
def Fd.POL_CFG_FLOOR_PCT (i : Nat) : Fld := ⟨Reg.POL_CFG i, 2, 7⟩
def Fd.POL_CFG_TRACK_STEPS (i : Nat) : Fld := ⟨Reg.POL_CFG i, 9, 7⟩
def Fd.POL_CFG_MAXHOLD (i : Nat) : Fld := ⟨Reg.POL_CFG i, 16, 10⟩
def Fd.POL_RAMP_RAMP (i : Nat) : Fld := ⟨Reg.POL_RAMP i, 0, 16⟩
def Fd.POL_RAMP_STAGGER (i : Nat) : Fld := ⟨Reg.POL_RAMP i, 16, 16⟩
def Fd.CL_CTRL_SCOPE (i : Nat) : Fld := ⟨Reg.CL_CTRL i, 0, 3⟩
def Fd.CL_CTRL_FORM (i : Nat) : Fld := ⟨Reg.CL_CTRL i, 3, 1⟩
def Fd.CL_CTRL_INDEX (i : Nat) : Fld := ⟨Reg.CL_CTRL i, 4, 12⟩
def Fd.CL_CTRL_VALID (i : Nat) : Fld := ⟨Reg.CL_CTRL i, 31, 1⟩
def Fd.CL_VAL_VAL (i : Nat) : Fld := ⟨Reg.CL_VAL i, 0, 32⟩
def Fd.CL_SETTER_MASTER (i : Nat) : Fld := ⟨Reg.CL_SETTER i, 0, 16⟩
def Fd.CL_SEQ_VAL (i : Nat) : Fld := ⟨Reg.CL_SEQ i, 0, 32⟩
def Fd.CL_MEMB_N (i : Nat) : Fld := ⟨Reg.CL_MEMB i, 0, 13⟩
def Fd.STG_CTRL_SCOPE (i : Nat) : Fld := ⟨Reg.STG_CTRL i, 0, 3⟩
def Fd.STG_CTRL_INDEX (i : Nat) : Fld := ⟨Reg.STG_CTRL i, 4, 12⟩
def Fd.STG_CTRL_SET_TGT (i : Nat) : Fld := ⟨Reg.STG_CTRL i, 16, 1⟩
def Fd.STG_CTRL_SET_FLOOR (i : Nat) : Fld := ⟨Reg.STG_CTRL i, 17, 1⟩
def Fd.STG_CTRL_SET_POL (i : Nat) : Fld := ⟨Reg.STG_CTRL i, 18, 1⟩
def Fd.STG_CTRL_POLICY (i : Nat) : Fld := ⟨Reg.STG_CTRL i, 20, 4⟩
def Fd.STG_CTRL_VALID (i : Nat) : Fld := ⟨Reg.STG_CTRL i, 31, 1⟩
def Fd.STG_VAL_TARGET (i : Nat) : Fld := ⟨Reg.STG_VAL i, 0, 16⟩
def Fd.STG_VAL_FLOOR (i : Nat) : Fld := ⟨Reg.STG_VAL i, 16, 16⟩
def Fd.STG_OFS_US (i : Nat) : Fld := ⟨Reg.STG_OFS i, 0, 32⟩
def Fd.STG_STAT_STATE (i : Nat) : Fld := ⟨Reg.STG_STAT i, 0, 2⟩
def Fd.STG_STAT_CAPPED (i : Nat) : Fld := ⟨Reg.STG_STAT i, 2, 1⟩
def Fd.STG_STAT_FRAMES (i : Nat) : Fld := ⟨Reg.STG_STAT i, 3, 4⟩
def Fd.LP_SCFG0_EN (i : Nat) : Fld := ⟨Reg.LP_SCFG0 i, 0, 1⟩
def Fd.LP_SCFG0_PLAUS (i : Nat) : Fld := ⟨Reg.LP_SCFG0 i, 1, 1⟩
def Fd.LP_SCFG0_FFH_EN (i : Nat) : Fld := ⟨Reg.LP_SCFG0 i, 2, 1⟩
def Fd.LP_SCFG0_FFS_EN (i : Nat) : Fld := ⟨Reg.LP_SCFG0 i, 3, 1⟩
def Fd.LP_SCFG0_TGT_KIND (i : Nat) : Fld := ⟨Reg.LP_SCFG0 i, 4, 3⟩
def Fd.LP_SCFG0_TGT_IDX (i : Nat) : Fld := ⟨Reg.LP_SCFG0 i, 8, 8⟩
def Fd.LP_SCFG0_SP_SRC (i : Nat) : Fld := ⟨Reg.LP_SCFG0 i, 16, 3⟩
def Fd.LP_SCFG0_SP_IDX (i : Nat) : Fld := ⟨Reg.LP_SCFG0 i, 20, 8⟩
def Fd.LP_SCFG1_DIV (i : Nat) : Fld := ⟨Reg.LP_SCFG1 i, 0, 17⟩
def Fd.LP_SCFG2_PH (i : Nat) : Fld := ⟨Reg.LP_SCFG2 i, 0, 17⟩
def Fd.LP_SCFG3_MA_KIND (i : Nat) : Fld := ⟨Reg.LP_SCFG3 i, 0, 3⟩
def Fd.LP_SCFG3_MA_IDX (i : Nat) : Fld := ⟨Reg.LP_SCFG3 i, 4, 8⟩
def Fd.LP_SCFG3_MB_KIND (i : Nat) : Fld := ⟨Reg.LP_SCFG3 i, 12, 3⟩
def Fd.LP_SCFG3_MB_IDX (i : Nat) : Fld := ⟨Reg.LP_SCFG3 i, 16, 8⟩
def Fd.LP_SCFG3_MOP (i : Nat) : Fld := ⟨Reg.LP_SCFG3 i, 24, 2⟩
def Fd.LP_SCFG4_TB_MODE (i : Nat) : Fld := ⟨Reg.LP_SCFG4 i, 0, 2⟩
def Fd.LP_SCFG4_TB_N (i : Nat) : Fld := ⟨Reg.LP_SCFG4 i, 2, 4⟩
def Fd.LP_SCFG4_TB_XKIND (i : Nat) : Fld := ⟨Reg.LP_SCFG4 i, 6, 3⟩
def Fd.LP_SCFG4_TB_XIDX (i : Nat) : Fld := ⟨Reg.LP_SCFG4 i, 10, 8⟩
def Fd.LP_CTRL_HOLD (i : Nat) : Fld := ⟨Reg.LP_CTRL i, 0, 1⟩
def Fd.LP_CTRL_MAN (i : Nat) : Fld := ⟨Reg.LP_CTRL i, 1, 1⟩
def Fd.LP_CTRL_INIT (i : Nat) : Fld := ⟨Reg.LP_CTRL i, 2, 1⟩
def Fd.LP_CTRL_FS_EN (i : Nat) : Fld := ⟨Reg.LP_CTRL i, 3, 1⟩
def Fd.LP_CTRL_PL_ACK (i : Nat) : Fld := ⟨Reg.LP_CTRL i, 4, 1⟩
def Fd.LP_CTRL_IN_TMO (i : Nat) : Fld := ⟨Reg.LP_CTRL i, 16, 16⟩
def Fd.LP_SHIFT_BSH (i : Nat) : Fld := ⟨Reg.LP_SHIFT i, 0, 4⟩
def Fd.LP_SHIFT_ASH (i : Nat) : Fld := ⟨Reg.LP_SHIFT i, 4, 2⟩
def Fd.LP_SHIFT_ESH (i : Nat) : Fld := ⟨Reg.LP_SHIFT i, 8, 4⟩
def Fd.LP_SLEW_OUT_SLEW (i : Nat) : Fld := ⟨Reg.LP_SLEW i, 0, 16⟩
def Fd.LP_SLEW_SP_SLEW (i : Nat) : Fld := ⟨Reg.LP_SLEW i, 16, 16⟩
def Fd.LP_FF_FFG (i : Nat) : Fld := ⟨Reg.LP_FF i, 0, 16⟩
def Fd.LP_FF_FFSH (i : Nat) : Fld := ⟨Reg.LP_FF i, 16, 4⟩
def Fd.LP_FFDEC_D (i : Nat) : Fld := ⟨Reg.LP_FFDEC i, 0, 16⟩
def Fd.LP_PL0_PL_G (i : Nat) : Fld := ⟨Reg.LP_PL0 i, 0, 16⟩
def Fd.LP_PL0_PL_GSH (i : Nat) : Fld := ⟨Reg.LP_PL0 i, 16, 4⟩
def Fd.LP_PL0_PL_DLY (i : Nat) : Fld := ⟨Reg.LP_PL0 i, 20, 8⟩
def Fd.LP_PL0_PL_ACT (i : Nat) : Fld := ⟨Reg.LP_PL0 i, 28, 2⟩
def Fd.LP_PL1_PL_ALPHA (i : Nat) : Fld := ⟨Reg.LP_PL1 i, 0, 16⟩
def Fd.LP_PL1_PL_PERSIST (i : Nat) : Fld := ⟨Reg.LP_PL1 i, 16, 16⟩
def Fd.LP_PL2_PL_M0 (i : Nat) : Fld := ⟨Reg.LP_PL2 i, 0, 32⟩
def Fd.LP_PL3_PL_BAND (i : Nat) : Fld := ⟨Reg.LP_PL3 i, 0, 32⟩
def Fd.LP_STAT_MISS (i : Nat) : Fld := ⟨Reg.LP_STAT i, 0, 1⟩
def Fd.LP_STAT_FROZEN (i : Nat) : Fld := ⟨Reg.LP_STAT i, 1, 1⟩
def Fd.LP_STAT_NOIN (i : Nat) : Fld := ⟨Reg.LP_STAT i, 2, 1⟩
def Fd.LP_STAT_SPABS (i : Nat) : Fld := ⟨Reg.LP_STAT i, 3, 1⟩
def Fd.LP_STAT_CLAMP_LO (i : Nat) : Fld := ⟨Reg.LP_STAT i, 4, 1⟩
def Fd.LP_STAT_CLAMP_HI (i : Nat) : Fld := ⟨Reg.LP_STAT i, 5, 1⟩
def Fd.LP_STAT_PLAUS (i : Nat) : Fld := ⟨Reg.LP_STAT i, 6, 1⟩
def Fd.LP_STAT_FAILSAFE (i : Nat) : Fld := ⟨Reg.LP_STAT i, 7, 1⟩
def Fd.LP_STAT_OVR (i : Nat) : Fld := ⟨Reg.LP_STAT i, 8, 1⟩
def Fd.LP_STAT_LOCK (i : Nat) : Fld := ⟨Reg.LP_STAT i, 9, 1⟩
def Fd.LP_STAT_MANUAL (i : Nat) : Fld := ⟨Reg.LP_STAT i, 10, 1⟩
def Fd.LP_STAT_TBL (i : Nat) : Fld := ⟨Reg.LP_STAT i, 11, 1⟩
def Fd.LP_WRAP_N (i : Nat) : Fld := ⟨Reg.LP_WRAP i, 0, 32⟩
def Fd.PMP_CFG_MODE (i : Nat) : Fld := ⟨Reg.PMP_CFG i, 0, 2⟩
def Fd.PMP_CFG_ROLE (i : Nat) : Fld := ⟨Reg.PMP_CFG i, 2, 2⟩
def Fd.PMP_CFG_GROUP (i : Nat) : Fld := ⟨Reg.PMP_CFG i, 4, 2⟩
def Fd.PMP_CFG_FB_KIND (i : Nat) : Fld := ⟨Reg.PMP_CFG i, 6, 2⟩
def Fd.PMP_CFG_FB_IDX (i : Nat) : Fld := ⟨Reg.PMP_CFG i, 8, 8⟩
def Fd.PMP_CFG_PWM_HZ (i : Nat) : Fld := ⟨Reg.PMP_CFG i, 16, 16⟩
def Fd.PMP_SPD_SPD_MIN (i : Nat) : Fld := ⟨Reg.PMP_SPD i, 0, 16⟩
def Fd.PMP_SPD_SPD_MAX (i : Nat) : Fld := ⟨Reg.PMP_SPD i, 16, 16⟩
def Fd.PMP_SEQ_T_READY (i : Nat) : Fld := ⟨Reg.PMP_SEQ i, 0, 8⟩
def Fd.PMP_SEQ_T_PROVE (i : Nat) : Fld := ⟨Reg.PMP_SEQ i, 8, 8⟩
def Fd.PMP_SEQ_PROVE_PCT (i : Nat) : Fld := ⟨Reg.PMP_SEQ i, 16, 7⟩
def Fd.PMP_RAMP_RAMP (i : Nat) : Fld := ⟨Reg.PMP_RAMP i, 0, 12⟩
def Fd.PMP_RAMP_EMERG_RAMP (i : Nat) : Fld := ⟨Reg.PMP_RAMP i, 16, 12⟩
def Fd.PMP_TRIP_TRIP_PCT (i : Nat) : Fld := ⟨Reg.PMP_TRIP i, 0, 7⟩
def Fd.PMP_TRIP_T_TRIP (i : Nat) : Fld := ⟨Reg.PMP_TRIP i, 8, 10⟩
def Fd.PMP_TRIP_FLT_MS (i : Nat) : Fld := ⟨Reg.PMP_TRIP i, 20, 8⟩
def Fd.PMP_CMD_OP (i : Nat) : Fld := ⟨Reg.PMP_CMD i, 0, 3⟩
def Fd.PMP_LOCK_LOCK (i : Nat) : Fld := ⟨Reg.PMP_LOCK i, 0, 1⟩
def Fd.PMP_STAT_STATE (i : Nat) : Fld := ⟨Reg.PMP_STAT i, 0, 3⟩
def Fd.PMP_STAT_CAUSE (i : Nat) : Fld := ⟨Reg.PMP_STAT i, 3, 4⟩
def Fd.PMP_STAT_SUBST (i : Nat) : Fld := ⟨Reg.PMP_STAT i, 8, 3⟩
def Fd.PMP_STAT_SUBST_VALID (i : Nat) : Fld := ⟨Reg.PMP_STAT i, 11, 1⟩
def Fd.PMP_STAT_REDIR (i : Nat) : Fld := ⟨Reg.PMP_STAT i, 12, 1⟩
def Fd.PMP_STAT_LOCK (i : Nat) : Fld := ⟨Reg.PMP_STAT i, 13, 1⟩
def Fd.PMP_STAT_OVR (i : Nat) : Fld := ⟨Reg.PMP_STAT i, 14, 1⟩
def Fd.PMP_DEM_DEMAND (i : Nat) : Fld := ⟨Reg.PMP_DEM i, 0, 16⟩
def Fd.PMP_DEM_FB (i : Nat) : Fld := ⟨Reg.PMP_DEM i, 16, 16⟩
def Fd.VLV_CFG_MODE (i : Nat) : Fld := ⟨Reg.VLV_CFG i, 0, 1⟩
def Fd.VLV_CFG_INV (i : Nat) : Fld := ⟨Reg.VLV_CFG i, 1, 1⟩
def Fd.VLV_CFG_FB_EN (i : Nat) : Fld := ⟨Reg.VLV_CFG i, 2, 1⟩
def Fd.VLV_CFG_FB_IDX (i : Nat) : Fld := ⟨Reg.VLV_CFG i, 3, 8⟩
def Fd.VLV_CFG_DEV_PCT (i : Nat) : Fld := ⟨Reg.VLV_CFG i, 11, 7⟩
def Fd.VLV_CFG_DEV_T (i : Nat) : Fld := ⟨Reg.VLV_CFG i, 18, 8⟩
def Fd.VLV_TRV_TRV_MIN (i : Nat) : Fld := ⟨Reg.VLV_TRV i, 0, 16⟩
def Fd.VLV_TRV_TRV_MAX (i : Nat) : Fld := ⟨Reg.VLV_TRV i, 16, 16⟩
def Fd.VLV_LOCK_LOCKVAL (i : Nat) : Fld := ⟨Reg.VLV_LOCK i, 0, 16⟩
def Fd.VLV_LOCK_LOCK (i : Nat) : Fld := ⟨Reg.VLV_LOCK i, 31, 1⟩
def Fd.VLV_STAT_OUT (i : Nat) : Fld := ⟨Reg.VLV_STAT i, 0, 16⟩
def Fd.VLV_STAT_FAULT (i : Nat) : Fld := ⟨Reg.VLV_STAT i, 16, 2⟩
def Fd.VLV_STAT_DEV (i : Nat) : Fld := ⟨Reg.VLV_STAT i, 18, 1⟩
def Fd.VLV_STAT_LOCK (i : Nat) : Fld := ⟨Reg.VLV_STAT i, 19, 1⟩
def Fd.VLV_STAT_OVR (i : Nat) : Fld := ⟨Reg.VLV_STAT i, 20, 1⟩
def Fd.SOL_CFG_PROF (i : Nat) : Fld := ⟨Reg.SOL_CFG i, 0, 1⟩
def Fd.SOL_CFG_I_PEAK (i : Nat) : Fld := ⟨Reg.SOL_CFG i, 4, 12⟩
def Fd.SOL_CFG_I_HOLD (i : Nat) : Fld := ⟨Reg.SOL_CFG i, 16, 10⟩
def Fd.SOL_TIME_T_PULSE (i : Nat) : Fld := ⟨Reg.SOL_TIME i, 0, 8⟩
def Fd.SOL_TIME_T_EXT (i : Nat) : Fld := ⟨Reg.SOL_TIME i, 8, 8⟩
def Fd.SOL_TIME_T_DET (i : Nat) : Fld := ⟨Reg.SOL_TIME i, 16, 8⟩
def Fd.SOL_TIME_DIP (i : Nat) : Fld := ⟨Reg.SOL_TIME i, 24, 8⟩
def Fd.SOL_RETRY_RETRIES (i : Nat) : Fld := ⟨Reg.SOL_RETRY i, 0, 2⟩
def Fd.SOL_RETRY_T_RETRY (i : Nat) : Fld := ⟨Reg.SOL_RETRY i, 4, 10⟩
def Fd.SOL_RETRY_DEFER_MS (i : Nat) : Fld := ⟨Reg.SOL_RETRY i, 16, 14⟩
def Fd.SOL_CMD_OP (i : Nat) : Fld := ⟨Reg.SOL_CMD i, 0, 3⟩
def Fd.SOL_LOCK_LOCK (i : Nat) : Fld := ⟨Reg.SOL_LOCK i, 0, 1⟩
def Fd.SOL_STAT_STATE (i : Nat) : Fld := ⟨Reg.SOL_STAT i, 0, 3⟩
def Fd.SOL_STAT_CLASS (i : Nat) : Fld := ⟨Reg.SOL_STAT i, 3, 1⟩
def Fd.SOL_STAT_RESULT (i : Nat) : Fld := ⟨Reg.SOL_STAT i, 4, 4⟩
def Fd.SOL_STAT_FAULT (i : Nat) : Fld := ⟨Reg.SOL_STAT i, 8, 3⟩
def Fd.SOL_STAT_POS (i : Nat) : Fld := ⟨Reg.SOL_STAT i, 11, 2⟩
def Fd.SOL_STAT_SPARE (i : Nat) : Fld := ⟨Reg.SOL_STAT i, 13, 1⟩
def Fd.SOL_STAT_LOCK (i : Nat) : Fld := ⟨Reg.SOL_STAT i, 14, 1⟩
def Fd.SOL_STAT_DIP_MS (i : Nat) : Fld := ⟨Reg.SOL_STAT i, 16, 16⟩
def Fd.BANK_STAT_CUT (i : Nat) : Fld := ⟨Reg.BANK_STAT i, 0, 1⟩
def Fd.BANK_STAT_REASON (i : Nat) : Fld := ⟨Reg.BANK_STAT i, 1, 3⟩
def Fd.BANK_STAT_SLOT (i : Nat) : Fld := ⟨Reg.BANK_STAT i, 4, 4⟩
def Fd.BANK_STAT_WAITING (i : Nat) : Fld := ⟨Reg.BANK_STAT i, 8, 8⟩
def Fd.BANK_STAT_I_BANK (i : Nat) : Fld := ⟨Reg.BANK_STAT i, 16, 16⟩
def Fd.BANK_CMD_CUT (i : Nat) : Fld := ⟨Reg.BANK_CMD i, 0, 1⟩
def Fd.BANK_CMD_RECLOSE (i : Nat) : Fld := ⟨Reg.BANK_CMD i, 1, 1⟩
def Fd.FAN_CFG_ZGROUP (i : Nat) : Fld := ⟨Reg.FAN_CFG i, 0, 4⟩
def Fd.FAN_CFG_PPR (i : Nat) : Fld := ⟨Reg.FAN_CFG i, 4, 2⟩
def Fd.FAN_CFG_ALLOW_OFF (i : Nat) : Fld := ⟨Reg.FAN_CFG i, 6, 1⟩
def Fd.FAN_CFG_MIN_DUTY (i : Nat) : Fld := ⟨Reg.FAN_CFG i, 8, 7⟩
def Fd.FAN_CFG_RATED (i : Nat) : Fld := ⟨Reg.FAN_CFG i, 16, 16⟩
def Fd.FAN_FLOOR_FLOOR_MA (i : Nat) : Fld := ⟨Reg.FAN_FLOOR i, 0, 10⟩
def Fd.FAN_AT_IN_IN (i : Nat) : Fld := ⟨Reg.FAN_AT_IN i, 0, 8⟩
def Fd.FAN_AT_IN_EN (i : Nat) : Fld := ⟨Reg.FAN_AT_IN i, 8, 1⟩
def Fd.FAN_AT_X (i j : Nat) : Fld := ⟨Reg.FAN_AT i j, 0, 16⟩
def Fd.FAN_AT_Y (i j : Nat) : Fld := ⟨Reg.FAN_AT i j, 16, 16⟩
def Fd.FAN_CMD_OP (i : Nat) : Fld := ⟨Reg.FAN_CMD i, 0, 2⟩
def Fd.FAN_LOCK_LOCKVAL (i : Nat) : Fld := ⟨Reg.FAN_LOCK i, 0, 16⟩
def Fd.FAN_LOCK_LOCK (i : Nat) : Fld := ⟨Reg.FAN_LOCK i, 31, 1⟩
def Fd.FAN_STAT_STATE (i : Nat) : Fld := ⟨Reg.FAN_STAT i, 0, 3⟩
def Fd.FAN_STAT_ATTEMPT (i : Nat) : Fld := ⟨Reg.FAN_STAT i, 3, 2⟩
def Fd.FAN_STAT_GFULL (i : Nat) : Fld := ⟨Reg.FAN_STAT i, 5, 1⟩
def Fd.FAN_STAT_AUTO (i : Nat) : Fld := ⟨Reg.FAN_STAT i, 6, 1⟩
def Fd.FAN_STAT_LOCK (i : Nat) : Fld := ⟨Reg.FAN_STAT i, 7, 1⟩
def Fd.FAN_STAT_OVR (i : Nat) : Fld := ⟨Reg.FAN_STAT i, 8, 1⟩
def Fd.FAN_STAT_PULLBACK (i : Nat) : Fld := ⟨Reg.FAN_STAT i, 9, 1⟩
def Fd.FAN_STAT_DRIVE (i : Nat) : Fld := ⟨Reg.FAN_STAT i, 16, 16⟩
def Fd.FAN_MEAS_RPM (i : Nat) : Fld := ⟨Reg.FAN_MEAS i, 0, 16⟩
def Fd.FAN_MEAS_MA (i : Nat) : Fld := ⟨Reg.FAN_MEAS i, 16, 16⟩
def Fd.SPAI_CMD_OP (i : Nat) : Fld := ⟨Reg.SPAI_CMD i, 0, 2⟩
def Fd.SPAI_CMD_IN (i : Nat) : Fld := ⟨Reg.SPAI_CMD i, 4, 3⟩
def Fd.SPAI_STAT_ASSIGNED (i : Nat) : Fld := ⟨Reg.SPAI_STAT i, 0, 1⟩
def Fd.SPAI_STAT_INPUT (i : Nat) : Fld := ⟨Reg.SPAI_STAT i, 1, 7⟩
def Fd.SPAI_STAT_AUTO (i : Nat) : Fld := ⟨Reg.SPAI_STAT i, 8, 1⟩
def Fd.SPAI_STAT_FAILED (i : Nat) : Fld := ⟨Reg.SPAI_STAT i, 9, 1⟩
def Fd.RK_FLOWSRC_SUP_KIND (i : Nat) : Fld := ⟨Reg.RK_FLOWSRC i, 0, 3⟩
def Fd.RK_FLOWSRC_SUP_IDX (i : Nat) : Fld := ⟨Reg.RK_FLOWSRC i, 8, 8⟩
def Fd.RK_FLOWSRC_RET_KIND (i : Nat) : Fld := ⟨Reg.RK_FLOWSRC i, 16, 3⟩
def Fd.RK_FLOWSRC_RET_IDX (i : Nat) : Fld := ⟨Reg.RK_FLOWSRC i, 24, 8⟩
def Fd.RK_IMB_IMB_THR (i : Nat) : Fld := ⟨Reg.RK_IMB i, 0, 16⟩
def Fd.RK_IMB_IMB_PCT (i : Nat) : Fld := ⟨Reg.RK_IMB i, 16, 7⟩
def Fd.RK_DIE_DIE_WARN (i : Nat) : Fld := ⟨Reg.RK_DIE i, 0, 16⟩
def Fd.RK_DIE_DIE_HARD (i : Nat) : Fld := ⟨Reg.RK_DIE i, 16, 16⟩
def Fd.RK_DIECFG_DIE_PERSIST (i : Nat) : Fld := ⟨Reg.RK_DIECFG i, 0, 7⟩
def Fd.RK_ACT_ACTIVE (i : Nat) : Fld := ⟨Reg.RK_ACT i, 0, 10⟩
def Fd.RK_ACT_ACK_REQ (i : Nat) : Fld := ⟨Reg.RK_ACT i, 16, 10⟩
def Fd.RK_OUT_CAP (i : Nat) : Fld := ⟨Reg.RK_OUT i, 0, 2⟩
def Fd.RK_OUT_TRIP (i : Nat) : Fld := ⟨Reg.RK_OUT i, 2, 1⟩
def Fd.RK_OUT_POWEROFF (i : Nat) : Fld := ⟨Reg.RK_OUT i, 3, 1⟩
def Fd.RK_OUT_ISOLATED (i : Nat) : Fld := ⟨Reg.RK_OUT i, 4, 1⟩
def Fd.RK_OUT_WATCH (i : Nat) : Fld := ⟨Reg.RK_OUT i, 5, 1⟩
def Fd.RK_OUT_VALVE_OVR (i : Nat) : Fld := ⟨Reg.RK_OUT i, 6, 1⟩
def Fd.RK_GUARD_VAL (i : Nat) : Fld := ⟨Reg.RK_GUARD i, 0, 16⟩
def Fd.RK_GUARD_SUB (i : Nat) : Fld := ⟨Reg.RK_GUARD i, 16, 1⟩
def Fd.ROPE_CFG_EOL (i : Nat) : Fld := ⟨Reg.ROPE_CFG i, 0, 16⟩
def Fd.ROPE_CFG_EN (i : Nat) : Fld := ⟨Reg.ROPE_CFG i, 16, 1⟩
def Fd.ROPE_STAT_BAND (i : Nat) : Fld := ⟨Reg.ROPE_STAT i, 0, 2⟩
def Fd.ROPE_STAT_WETCONF (i : Nat) : Fld := ⟨Reg.ROPE_STAT i, 2, 1⟩
def Fd.ROPE_STAT_FAULT (i : Nat) : Fld := ⟨Reg.ROPE_STAT i, 3, 1⟩
def Fd.ROPE_STAT_RES (i : Nat) : Fld := ⟨Reg.ROPE_STAT i, 16, 16⟩
def Fd.SPOT_CFG_EOL (i : Nat) : Fld := ⟨Reg.SPOT_CFG i, 0, 16⟩
def Fd.SPOT_CFG_LOC (i : Nat) : Fld := ⟨Reg.SPOT_CFG i, 16, 8⟩
def Fd.SPOT_CFG_EN (i : Nat) : Fld := ⟨Reg.SPOT_CFG i, 24, 1⟩
def Fd.LIM_CFG_KIND (i : Nat) : Fld := ⟨Reg.LIM_CFG i, 0, 3⟩
def Fd.LIM_CFG_IDX (i : Nat) : Fld := ⟨Reg.LIM_CFG i, 4, 8⟩
def Fd.LIM_CFG_SCOPE (i : Nat) : Fld := ⟨Reg.LIM_CFG i, 12, 8⟩
def Fd.LIM_CFG_DIR (i : Nat) : Fld := ⟨Reg.LIM_CFG i, 20, 1⟩
def Fd.LIM_CFG_ACTION (i : Nat) : Fld := ⟨Reg.LIM_CFG i, 21, 3⟩
def Fd.LIM_CFG_PERSIST (i : Nat) : Fld := ⟨Reg.LIM_CFG i, 24, 8⟩
def Fd.LIM_THR_WARN (i : Nat) : Fld := ⟨Reg.LIM_THR i, 0, 16⟩
def Fd.LIM_THR_HARD (i : Nat) : Fld := ⟨Reg.LIM_THR i, 16, 16⟩
def Fd.LIM_STAT_WARN (i : Nat) : Fld := ⟨Reg.LIM_STAT i, 0, 1⟩
def Fd.LIM_STAT_HARD (i : Nat) : Fld := ⟨Reg.LIM_STAT i, 1, 1⟩
def Fd.LIM_STAT_ACK_REQ (i : Nat) : Fld := ⟨Reg.LIM_STAT i, 2, 1⟩
def Fd.LIM_STAT_ABSENT (i : Nat) : Fld := ⟨Reg.LIM_STAT i, 3, 1⟩
def Fd.LIM_STAT_VALUE (i : Nat) : Fld := ⟨Reg.LIM_STAT i, 16, 16⟩
def Fd.PORT_CFG_EN (i : Nat) : Fld := ⟨Reg.PORT_CFG i, 0, 1⟩
def Fd.PORT_CFG_MBOX (i : Nat) : Fld := ⟨Reg.PORT_CFG i, 1, 1⟩
def Fd.PORT_CFG_STREAM (i : Nat) : Fld := ⟨Reg.PORT_CFG i, 2, 1⟩
def Fd.PORT_CFG_PLAN (i : Nat) : Fld := ⟨Reg.PORT_CFG i, 3, 1⟩
def Fd.PORT_CFG_PTP (i : Nat) : Fld := ⟨Reg.PORT_CFG i, 4, 1⟩
def Fd.PORT_CFG_CRAORI (i : Nat) : Fld := ⟨Reg.PORT_CFG i, 5, 1⟩
def Fd.PORT_STAT_LINK (i : Nat) : Fld := ⟨Reg.PORT_STAT i, 0, 1⟩
def Fd.PORT_STAT_FEC_LOCK (i : Nat) : Fld := ⟨Reg.PORT_STAT i, 1, 1⟩
def Fd.PORT_STAT_MEDIA (i : Nat) : Fld := ⟨Reg.PORT_STAT i, 2, 3⟩
def Fd.PORT_STAT_FLAPS (i : Nat) : Fld := ⟨Reg.PORT_STAT i, 16, 16⟩
def Fd.QU_STAT_VALID (i : Nat) : Fld := ⟨Reg.QU_STAT i, 0, 1⟩
def Fd.QU_STAT_REMAIN (i : Nat) : Fld := ⟨Reg.QU_STAT i, 8, 8⟩
def Fd.SS_STAT_STATE (i : Nat) : Fld := ⟨Reg.SS_STAT i, 0, 2⟩
def Fd.SS_STAT_DOMAINS (i : Nat) : Fld := ⟨Reg.SS_STAT i, 4, 4⟩
def Fd.SS_STAT_NET_A (i : Nat) : Fld := ⟨Reg.SS_STAT i, 8, 1⟩
def Fd.SS_STAT_NET_B (i : Nat) : Fld := ⟨Reg.SS_STAT i, 9, 1⟩
def Fd.SS_STAT_MASTER (i : Nat) : Fld := ⟨Reg.SS_STAT i, 16, 16⟩
def Fd.SS_MBOX_EXEC (i : Nat) : Fld := ⟨Reg.SS_MBOX i, 0, 16⟩
def Fd.SS_MBOX_HELD (i : Nat) : Fld := ⟨Reg.SS_MBOX i, 16, 16⟩
def Fd.OW_STAT_HELD (i : Nat) : Fld := ⟨Reg.OW_STAT i, 0, 1⟩
def Fd.OW_STAT_SLOT (i : Nat) : Fld := ⟨Reg.OW_STAT i, 1, 3⟩
def Fd.OW_STAT_MASTER (i : Nat) : Fld := ⟨Reg.OW_STAT i, 16, 16⟩
def Fd.OW_LEASE_MS (i : Nat) : Fld := ⟨Reg.OW_LEASE i, 0, 12⟩
def Fd.OW_SEQ_N (i : Nat) : Fld := ⟨Reg.OW_SEQ i, 0, 16⟩
def Fd.OBJ_CFG_DIR (i j : Nat) : Fld := ⟨Reg.OBJ_CFG i j, 0, 1⟩
def Fd.OBJ_CFG_IDE (i j : Nat) : Fld := ⟨Reg.OBJ_CFG i j, 1, 1⟩
def Fd.OBJ_CFG_FDF (i j : Nat) : Fld := ⟨Reg.OBJ_CFG i j, 2, 1⟩
def Fd.OBJ_CFG_BRS (i j : Nat) : Fld := ⟨Reg.OBJ_CFG i j, 3, 1⟩
def Fd.OBJ_CFG_DLC (i j : Nat) : Fld := ⟨Reg.OBJ_CFG i j, 4, 4⟩
def Fd.OBJ_CFG_SSHOT (i j : Nat) : Fld := ⟨Reg.OBJ_CFG i j, 8, 1⟩
def Fd.OBJ_CFG_EN (i j : Nat) : Fld := ⟨Reg.OBJ_CFG i j, 9, 1⟩
def Fd.OBJ_CFG_OWNER (i j : Nat) : Fld := ⟨Reg.OBJ_CFG i j, 10, 2⟩
def Fd.OBJ_ID_ID (i j : Nat) : Fld := ⟨Reg.OBJ_ID i j, 0, 29⟩
def Fd.OBJ_MASK_MASK (i j : Nat) : Fld := ⟨Reg.OBJ_MASK i j, 0, 29⟩
def Fd.OBJ_CMD_TXREQ (i j : Nat) : Fld := ⟨Reg.OBJ_CMD i j, 0, 1⟩
def Fd.OBJ_CMD_ABORT (i j : Nat) : Fld := ⟨Reg.OBJ_CMD i j, 1, 1⟩
def Fd.OBJ_STAT_NEW (i j : Nat) : Fld := ⟨Reg.OBJ_STAT i j, 0, 1⟩
def Fd.OBJ_STAT_OVR (i j : Nat) : Fld := ⟨Reg.OBJ_STAT i j, 1, 1⟩
def Fd.OBJ_STAT_TXPEND (i j : Nat) : Fld := ⟨Reg.OBJ_STAT i j, 2, 1⟩
def Fd.OBJ_STAT_TXOK (i j : Nat) : Fld := ⟨Reg.OBJ_STAT i j, 3, 1⟩
def Fd.OBJ_STAT_TXABORTED (i j : Nat) : Fld := ⟨Reg.OBJ_STAT i j, 4, 1⟩
def Fd.OBJ_STAT_RTR (i j : Nat) : Fld := ⟨Reg.OBJ_STAT i j, 5, 1⟩
def Fd.OBJ_STAT_ESI (i j : Nat) : Fld := ⟨Reg.OBJ_STAT i j, 6, 1⟩
def Fd.OBJ_STAT_FDF_RX (i j : Nat) : Fld := ⟨Reg.OBJ_STAT i j, 7, 1⟩
def Fd.OBJ_STAT_DLC_RX (i j : Nat) : Fld := ⟨Reg.OBJ_STAT i j, 8, 4⟩
def Fd.OBJ_RXID_ID (i j : Nat) : Fld := ⟨Reg.OBJ_RXID i j, 0, 29⟩
def Fd.POD_CFG_BUS (i : Nat) : Fld := ⟨Reg.POD_CFG i, 0, 3⟩
def Fd.POD_CFG_EN (i : Nat) : Fld := ⟨Reg.POD_CFG i, 3, 1⟩
def Fd.POD_CFG_NODE (i : Nat) : Fld := ⟨Reg.POD_CFG i, 4, 7⟩
def Fd.POD_CFG_NFRAMES (i : Nat) : Fld := ⟨Reg.POD_CFG i, 12, 2⟩
def Fd.POD_STAT_ACTIVE (i : Nat) : Fld := ⟨Reg.POD_STAT i, 0, 1⟩
def Fd.POD_STAT_ALLOC_FAIL (i : Nat) : Fld := ⟨Reg.POD_STAT i, 1, 1⟩
def Fd.POD_STAT_FIRST_OBJ (i : Nat) : Fld := ⟨Reg.POD_STAT i, 8, 8⟩
def Fd.POD_STAT_SEQ (i : Nat) : Fld := ⟨Reg.POD_STAT i, 16, 16⟩
def Fd.DRV_CFG_BUS (i : Nat) : Fld := ⟨Reg.DRV_CFG i, 0, 3⟩
def Fd.DRV_CFG_NODE (i : Nat) : Fld := ⟨Reg.DRV_CFG i, 4, 7⟩
def Fd.DRV_CFG_PERIOD (i : Nat) : Fld := ⟨Reg.DRV_CFG i, 11, 8⟩
def Fd.DRV_CFG_TMO (i : Nat) : Fld := ⟨Reg.DRV_CFG i, 19, 10⟩
def Fd.DRV_STAT_READY (i : Nat) : Fld := ⟨Reg.DRV_STAT i, 0, 1⟩
def Fd.DRV_STAT_RUNNING (i : Nat) : Fld := ⟨Reg.DRV_STAT i, 1, 1⟩
def Fd.DRV_STAT_FAULT (i : Nat) : Fld := ⟨Reg.DRV_STAT i, 2, 1⟩
def Fd.DRV_STAT_LOCAL (i : Nat) : Fld := ⟨Reg.DRV_STAT i, 3, 1⟩
def Fd.DRV_STAT_LOST (i : Nat) : Fld := ⟨Reg.DRV_STAT i, 4, 1⟩
def Fd.DRV_STAT_FCODE (i : Nat) : Fld := ⟨Reg.DRV_STAT i, 8, 8⟩
def Fd.DRV_STAT_SPEED (i : Nat) : Fld := ⟨Reg.DRV_STAT i, 16, 16⟩
def Fd.DRV_CUR_DA (i : Nat) : Fld := ⟨Reg.DRV_CUR i, 0, 16⟩
def Fd.BAR_CFG_ACTION (i : Nat) : Fld := ⟨Reg.BAR_CFG i, 0, 3⟩
def Fd.BAR_CFG_SCOPE (i : Nat) : Fld := ⟨Reg.BAR_CFG i, 3, 1⟩
def Fd.BAR_CFG_ARG (i : Nat) : Fld := ⟨Reg.BAR_CFG i, 8, 8⟩
def Fd.BAR_STAT_FIRED (i : Nat) : Fld := ⟨Reg.BAR_STAT i, 0, 16⟩
def Fd.MEM_STAT_FSTATE (i : Nat) : Fld := ⟨Reg.MEM_STAT i, 0, 2⟩
def Fd.MEM_STAT_STATE (i : Nat) : Fld := ⟨Reg.MEM_STAT i, 4, 4⟩
def Fd.MEM_STAT_LMAX (i : Nat) : Fld := ⟨Reg.MEM_STAT i, 8, 8⟩
def Fd.MEM_STAT_LMIN (i : Nat) : Fld := ⟨Reg.MEM_STAT i, 16, 8⟩
def Fd.MEM_NACC_NACC (i : Nat) : Fld := ⟨Reg.MEM_NACC i, 0, 13⟩
def Fd.MEM_NACC_ADOPTED (i : Nat) : Fld := ⟨Reg.MEM_NACC i, 16, 13⟩
def Fd.FW_SLOT_RUN (i : Nat) : Fld := ⟨Reg.FW_SLOT i, 0, 1⟩
def Fd.FW_SLOT_STATE_A (i : Nat) : Fld := ⟨Reg.FW_SLOT i, 1, 3⟩
def Fd.FW_SLOT_STATE_B (i : Nat) : Fld := ⟨Reg.FW_SLOT i, 4, 3⟩
def Fd.FW_SLOT_ATTEMPTS (i : Nat) : Fld := ⟨Reg.FW_SLOT i, 7, 2⟩
def Fd.FW_SVN_FLOOR (i : Nat) : Fld := ⟨Reg.FW_SVN i, 0, 7⟩
def Fd.FW_SVN_LEVEL (i : Nat) : Fld := ⟨Reg.FW_SVN i, 8, 8⟩
def Fd.FW_SVN_SVN (i : Nat) : Fld := ⟨Reg.FW_SVN i, 16, 7⟩
def Fd.EN_CFG_ROLES (i : Nat) : Fld := ⟨Reg.EN_CFG i, 0, 7⟩
def Fd.EN_CFG_VALID (i : Nat) : Fld := ⟨Reg.EN_CFG i, 31, 1⟩
def Fd.EN_MASTER_NUM (i : Nat) : Fld := ⟨Reg.EN_MASTER i, 0, 16⟩
def Fd.EN_MASTER_PRIO_CTL (i : Nat) : Fld := ⟨Reg.EN_MASTER i, 16, 4⟩
def Fd.EN_MASTER_PRIO_PLAN (i : Nat) : Fld := ⟨Reg.EN_MASTER i, 20, 4⟩
def Fd.EN_MASTER_PRIO_MAINT (i : Nat) : Fld := ⟨Reg.EN_MASTER i, 24, 4⟩
def Fd.EN_MASTER_PRIO_REC (i : Nat) : Fld := ⟨Reg.EN_MASTER i, 28, 4⟩
def Fd.PK_CFG_VALID (i : Nat) : Fld := ⟨Reg.PK_CFG i, 31, 1⟩
def Fd.PR_CFG_VALID (i : Nat) : Fld := ⟨Reg.PR_CFG i, 31, 1⟩
def Fd.CODE_CFG_RATE (i : Nat) : Fld := ⟨Reg.CODE_CFG i, 0, 10⟩
def Fd.CODE_CFG_BURST (i : Nat) : Fld := ⟨Reg.CODE_CFG i, 10, 8⟩
def Fd.CODE_CFG_FIRST (i : Nat) : Fld := ⟨Reg.CODE_CFG i, 18, 1⟩
def Fd.CODE_CFG_SNAPEN (i : Nat) : Fld := ⟨Reg.CODE_CFG i, 19, 1⟩
def Fd.CODE_CFG_SNAPSET (i : Nat) : Fld := ⟨Reg.CODE_CFG i, 20, 5⟩
def Fd.CODE_CFG_TRIG (i : Nat) : Fld := ⟨Reg.CODE_CFG i, 25, 1⟩
def Fd.CODE_STAT_TOKENS (i : Nat) : Fld := ⟨Reg.CODE_STAT i, 0, 8⟩
def Fd.CODE_STAT_PEND (i : Nat) : Fld := ⟨Reg.CODE_STAT i, 16, 16⟩
def Fd.SS_CFG_N (i : Nat) : Fld := ⟨Reg.SS_CFG i, 0, 8⟩
def Fd.W_CTRL_AREA (i : Nat) : Fld := ⟨Reg.W_CTRL i, 0, 2⟩
def Fd.W_CTRL_NEXT (i : Nat) : Fld := ⟨Reg.W_CTRL i, 2, 1⟩
def Fd.W_STAT_RESULT (i : Nat) : Fld := ⟨Reg.W_STAT i, 0, 3⟩
def Fd.W_STAT_SNAPW (i : Nat) : Fld := ⟨Reg.W_STAT i, 8, 8⟩
def Fd.AN_SHI_SEC (i : Nat) : Fld := ⟨Reg.AN_SHI i, 0, 16⟩
def Fd.AN_SHI_SERVO (i : Nat) : Fld := ⟨Reg.AN_SHI i, 16, 2⟩
def Fd.AN_SHI_VALID (i : Nat) : Fld := ⟨Reg.AN_SHI i, 18, 1⟩
def Fd.AN_SHI_KIND (i : Nat) : Fld := ⟨Reg.AN_SHI i, 19, 2⟩
def Fd.IN_CFG_TYPE (i : Nat) : Fld := ⟨Reg.IN_CFG i, 0, 3⟩
def Fd.IN_CFG_LOC (i : Nat) : Fld := ⟨Reg.IN_CFG i, 8, 8⟩
def Fd.IN_CFG_ENC (i : Nat) : Fld := ⟨Reg.IN_CFG i, 16, 3⟩
def Fd.HN_STAT_PRESENT (i : Nat) : Fld := ⟨Reg.HN_STAT i, 0, 1⟩
def Fd.HN_STAT_READ_OK (i : Nat) : Fld := ⟨Reg.HN_STAT i, 1, 1⟩
def Fd.HN_STAT_CRC_ERR (i : Nat) : Fld := ⟨Reg.HN_STAT i, 2, 1⟩
def Fd.HN_STAT_MATCH (i : Nat) : Fld := ⟨Reg.HN_STAT i, 3, 1⟩
def Fd.HN_ID_KIND (i : Nat) : Fld := ⟨Reg.HN_ID i, 0, 8⟩
def Fd.HN_ID_VARIANT (i : Nat) : Fld := ⟨Reg.HN_ID i, 8, 8⟩
def Fd.HN_ID_LEVEL (i : Nat) : Fld := ⟨Reg.HN_ID i, 16, 8⟩
def Fd.FPAIR_A_SID (i : Nat) : Fld := ⟨Reg.FPAIR_A i, 0, 18⟩
def Fd.FPAIR_A_VALID (i : Nat) : Fld := ⟨Reg.FPAIR_A i, 31, 1⟩
def Fd.FPAIR_B_SID (i : Nat) : Fld := ⟨Reg.FPAIR_B i, 0, 18⟩
def Fd.FPAIR_CFG_BAND (i : Nat) : Fld := ⟨Reg.FPAIR_CFG i, 0, 12⟩
def Fd.FPAIR_CFG_PERSIST (i : Nat) : Fld := ⟨Reg.FPAIR_CFG i, 12, 10⟩
def Fd.FPAIR_STAT_STATE (i : Nat) : Fld := ⟨Reg.FPAIR_STAT i, 0, 2⟩
def Fd.FPAIR_STAT_SIDE (i : Nat) : Fld := ⟨Reg.FPAIR_STAT i, 2, 1⟩
def Fd.FPAIR_STAT_SPLIT_MS (i : Nat) : Fld := ⟨Reg.FPAIR_STAT i, 12, 20⟩
def Fd.LP_ACFG0_EN (i : Nat) : Fld := ⟨Reg.LP_ACFG0 i, 0, 1⟩
def Fd.LP_ACFG0_PLAUS (i : Nat) : Fld := ⟨Reg.LP_ACFG0 i, 1, 1⟩
def Fd.LP_ACFG0_FFH_EN (i : Nat) : Fld := ⟨Reg.LP_ACFG0 i, 2, 1⟩
def Fd.LP_ACFG0_FFS_EN (i : Nat) : Fld := ⟨Reg.LP_ACFG0 i, 3, 1⟩
def Fd.LP_ACFG0_TGT_KIND (i : Nat) : Fld := ⟨Reg.LP_ACFG0 i, 4, 3⟩
def Fd.LP_ACFG0_TGT_IDX (i : Nat) : Fld := ⟨Reg.LP_ACFG0 i, 8, 8⟩
def Fd.LP_ACFG0_SP_SRC (i : Nat) : Fld := ⟨Reg.LP_ACFG0 i, 16, 3⟩
def Fd.LP_ACFG0_SP_IDX (i : Nat) : Fld := ⟨Reg.LP_ACFG0 i, 20, 8⟩
def Fd.LP_ACFG1_DIV (i : Nat) : Fld := ⟨Reg.LP_ACFG1 i, 0, 17⟩
def Fd.LP_ACFG2_PH (i : Nat) : Fld := ⟨Reg.LP_ACFG2 i, 0, 17⟩
def Fd.LP_ACFG3_MA_KIND (i : Nat) : Fld := ⟨Reg.LP_ACFG3 i, 0, 3⟩
def Fd.LP_ACFG3_MA_IDX (i : Nat) : Fld := ⟨Reg.LP_ACFG3 i, 4, 8⟩
def Fd.LP_ACFG3_MB_KIND (i : Nat) : Fld := ⟨Reg.LP_ACFG3 i, 12, 3⟩
def Fd.LP_ACFG3_MB_IDX (i : Nat) : Fld := ⟨Reg.LP_ACFG3 i, 16, 8⟩
def Fd.LP_ACFG3_MOP (i : Nat) : Fld := ⟨Reg.LP_ACFG3 i, 24, 2⟩
def Fd.LP_ACFG4_TB_MODE (i : Nat) : Fld := ⟨Reg.LP_ACFG4 i, 0, 2⟩
def Fd.LP_ACFG4_TB_N (i : Nat) : Fld := ⟨Reg.LP_ACFG4 i, 2, 4⟩
def Fd.LP_ACFG4_TB_XKIND (i : Nat) : Fld := ⟨Reg.LP_ACFG4 i, 6, 3⟩
def Fd.LP_ACFG4_TB_XIDX (i : Nat) : Fld := ⟨Reg.LP_ACFG4 i, 10, 8⟩

end Sys2Proof.Machine
end

