-- ==== Sys2Proof/Machine/RegTable.lean ====
section
/-! DEFINITION. The access table of the register map: for each register word its base address, its array strides
and counts, its reset value and the masks of its RW, W1C, RC and WO bits (R12 to R16), with the legal range of each
field that has reserved encodings, as the register lists and field tables of the spec give them. -/

namespace Sys2Proof.Machine

/-- Words of the SYS_ window. -/
def rowsSYS0 : List RegRow := [
  ⟨0x0, [], 0x10000FFFF, 0x0, 0x0, 0x0, 0x0, []⟩,
  ⟨0x4, [], 0xF0, 0x0, 0x0, 0x0, 0x0, []⟩,
  ⟨0x8, [], 0x0, 0x0, 0x1F, 0x0, 0x0, []⟩,
  ⟨0xC, [], 0x0, 0x0, 0x0, 0x0, 0x0, []⟩,
  ⟨0x10, [], 0x100FF013F, 0x0, 0x0, 0x0, 0x0, []⟩,
  ⟨0x14, [], 0x10000FFFF, 0x0, 0x0, 0x0, 0x0, []⟩,
  ⟨0x18, [], 0x0, 0x0, 0x0, 0x0, 0x0, []⟩,
  ⟨0x1C, [], 0x0, 0x0, 0x0, 0xFFFFFFFF, 0x0, []⟩,
  ⟨0x20, [], 0x0, 0x0, 0x0, 0xFFFFFFFF, 0x0, []⟩,
  ⟨0x24, [], 0x0, 0x0, 0x0, 0xFFFFFFFF, 0x0, []⟩,
  ⟨0x30, [], 0x0, 0x0, 0x0, 0x0, 0x3, []⟩,
  ⟨0x34, [], 0x0, 0x0, 0x0, 0x0, 0x0, []⟩,
  ⟨0x38, [], 0x0, 0x0, 0x0, 0x0, 0x0, []⟩,
  ⟨0x3C, [], 0x0, 0x0, 0x0, 0x0, 0xFFFF0001, [(0, 1, 1, 1), (16, 16, 52753, 52753)]⟩,
  ⟨0x40, [(0x10, 4)], 0x0, 0x0, 0x0, 0x0, 0x0, []⟩,
  ⟨0x44, [(0x10, 4)], 0x0, 0x0, 0x0, 0x0, 0x0, []⟩,
  ⟨0x48, [(0x10, 4)], 0x0, 0x0, 0x0, 0x0, 0x0, []⟩,
  ⟨0x4C, [(0x10, 4)], 0x0, 0x0, 0x0, 0x0, 0x0, []⟩]
def rowsSYS : List RegRow := rowsSYS0

/-- Words of the TIM_ window. -/
def rowsTIM0 : List RegRow := [
  ⟨0x1000000, [], 0x1, 0x3, 0x0, 0x0, 0x4, []⟩,
  ⟨0x1000004, [], 0x0, 0x0, 0x0, 0x0, 0x0, []⟩,
  ⟨0x1000008, [], 0x0, 0x0, 0x1FF, 0x0, 0x0, []⟩,
  ⟨0x100000C, [], 0x0, 0x0, 0x0, 0x0, 0x0, []⟩,
  ⟨0x1000010, [], 0x0, 0x0, 0x0, 0x0, 0x0, []⟩,
  ⟨0x1000014, [], 0x0, 0x0, 0x0, 0x0, 0x0, []⟩,
  ⟨0x1000018, [], 0x0, 0x0, 0x0, 0x0, 0x0, []⟩,
  ⟨0x100001C, [], 0x0, 0x0, 0x0, 0x0, 0x0, []⟩,
  ⟨0x1000020, [], 0x0, 0x0, 0x0, 0x0, 0x0, []⟩,
  ⟨0x1000024, [], 0x0, 0x0, 0x0, 0x0, 0x0, []⟩,
  ⟨0x1000028, [], 0xFFFFFFFF, 0x0, 0x0, 0x0, 0x0, []⟩,
  ⟨0x100002C, [], 0x0, 0x0, 0x0, 0x0, 0x0, []⟩,
  ⟨0x1000030, [], 0xE10, 0xFFFFFFFF, 0x0, 0x0, 0x0, [(0, 32, 10, 86400)]⟩,
  ⟨0x1000034, [], 0x1, 0x7FF, 0x0, 0x0, 0x0, [(2, 2, 0, 2)]⟩,
  ⟨0x1000038, [], 0x1, 0x7FF, 0x0, 0x0, 0x0, [(2, 2, 0, 2)]⟩,
  ⟨0x1000040, [(0x4, 16)], 0x0, 0xFFFFFFFF, 0x0, 0x0, 0x0, []⟩,
  ⟨0x1000080, [], 0x0, 0x0, 0x0, 0x0, 0x1, []⟩,
  ⟨0x1000084, [], 0x0, 0x0, 0x0, 0x0, 0x0, []⟩,
  ⟨0x1000088, [], 0x0, 0x0, 0x0, 0x0, 0x0, []⟩,
  ⟨0x100008C, [], 0x0, 0x0, 0x0, 0x0, 0x0, []⟩,
  ⟨0x1000090, [], 0x0, 0x0, 0x0, 0x0, 0x0, []⟩,
  ⟨0x1000094, [], 0x0, 0x0, 0x0, 0xFFFFFFFF, 0x0, []⟩,
  ⟨0x1000098, [], 0x0, 0x0, 0x0, 0xFFFFFFFF, 0x0, []⟩,
  ⟨0x100009C, [], 0x0, 0x0, 0x0, 0xFFFFFFFF, 0x0, []⟩,
  ⟨0x1010000, [(0x20, 4096)], 0x0, 0xFFFF8000, 0x0, 0x0, 0x0, [(28, 3, 0, 3), (24, 4, 1, 6)]⟩,
  ⟨0x1010004, [(0x20, 4096)], 0x0, 0xFFFFFFFF, 0x0, 0x0, 0x0, []⟩,
  ⟨0x1010008, [(0x20, 4096)], 0x0, 0xFFFFFFFF, 0x0, 0x0, 0x0, []⟩,
  ⟨0x101000C, [(0x20, 4096)], 0x0, 0xFFFFFFFF, 0x0, 0x0, 0x0, []⟩,
  ⟨0x1010010, [(0x20, 4096)], 0x0, 0xFFFFFFFF, 0x0, 0x0, 0x0, []⟩,
  ⟨0x1010014, [(0x20, 4096)], 0x0, 0x0, 0x0, 0x0, 0x0, []⟩,
  ⟨0x1010018, [(0x20, 4096)], 0x0, 0x0, 0x0, 0x0, 0x0, []⟩,
  ⟨0x101001C, [(0x20, 4096)], 0x0, 0x0, 0x0, 0x0, 0x0, []⟩,
  ⟨0x1040000, [(0x40, 256)], 0x3210A00, 0x3FFFFFFF, 0x0, 0x0, 0x0, [(3, 4, 0, 8), (7, 7, 5, 100), (14, 6, 1, 63), (20, 10, 0, 1000)]⟩,
  ⟨0x1040004, [(0x40, 256)], 0x0, 0x0, 0x0, 0x0, 0x0, []⟩,
  ⟨0x1040008, [(0x40, 256)], 0x0, 0x0, 0x0, 0x0, 0x0, []⟩,
  ⟨0x104000C, [(0x40, 256)], 0x0, 0x0, 0x0, 0x0, 0x0, []⟩,
  ⟨0x1040010, [(0x40, 256)], 0x0, 0x0, 0x0, 0x0, 0x0, []⟩,
  ⟨0x1040014, [(0x40, 256)], 0x0, 0x0, 0x0, 0x0, 0x0, []⟩,
  ⟨0x1040018, [(0x40, 256)], 0x0, 0x0, 0x0, 0x0, 0x0, []⟩,
  ⟨0x104001C, [(0x40, 256)], 0x0, 0x0, 0x0, 0x0, 0x0, []⟩]
def rowsTIM1 : List RegRow := [
  ⟨0x1040020, [(0x40, 256), (0x4, 8)], 0x0, 0x3FFFF, 0x0, 0x0, 0x0, []⟩]
def rowsTIM : List RegRow := rowsTIM0 ++ rowsTIM1

/-- Words of the STM_ window. -/
def rowsSTM0 : List RegRow := [
  ⟨0x2000000, [], 0x1, 0x1, 0x0, 0x0, 0x0, []⟩,
  ⟨0x2000004, [], 0x0, 0x0, 0x0, 0x0, 0x0, []⟩,
  ⟨0x2000008, [], 0x0, 0x0, 0x3FF, 0x0, 0x0, []⟩,
  ⟨0x200000C, [], 0x0, 0x0, 0x0, 0x0, 0x0, []⟩,
  ⟨0x2000010, [], 0x0, 0x0, 0x0, 0x0, 0x3, []⟩,
  ⟨0x2000018, [], 0x0, 0x0, 0x0, 0x0, 0x0, []⟩,
  ⟨0x200001C, [], 0x1FFFFFFFF, 0x0, 0x0, 0x0, 0x0, []⟩,
  ⟨0x2000020, [], 0x101, 0x0, 0x0, 0x0, 0x0, []⟩,
  ⟨0x2000024, [], 0x64, 0x3FF, 0x0, 0x0, 0x0, [(0, 10, 0, 1000)]⟩,
  ⟨0x2000028, [], 0x280A04, 0xFFFFFF, 0x0, 0x0, 0x0, [(0, 8, 1, 255), (8, 9, 1, 300), (17, 7, 5, 100)]⟩,
  ⟨0x200002C, [], 0x28200, 0x7FFFFF, 0x0, 0x0, 0x0, [(0, 13, 64, 6400), (13, 10, 1, 600)]⟩,
  ⟨0x2000030, [], 0x3C, 0xFFF, 0x0, 0x0, 0x0, [(0, 12, 1, 3600)]⟩,
  ⟨0x2000034, [], 0x0, 0x0, 0x0, 0x0, 0x8003FFFF, []⟩,
  ⟨0x2000038, [], 0x0, 0x0, 0x0, 0x0, 0x0, []⟩,
  ⟨0x2000040, [], 0x0, 0x0, 0x0, 0xFFFFFFFF, 0x0, []⟩,
  ⟨0x2000044, [], 0x0, 0x0, 0x0, 0xFFFFFFFF, 0x0, []⟩,
  ⟨0x2000048, [], 0x0, 0x0, 0x0, 0xFFFFFFFF, 0x0, []⟩,
  ⟨0x200004C, [], 0x0, 0x0, 0x0, 0xFFFFFFFF, 0x0, []⟩,
  ⟨0x2000050, [], 0x0, 0x0, 0x0, 0xFFFFFFFF, 0x0, []⟩,
  ⟨0x2000054, [], 0x0, 0x0, 0x0, 0xFFFFFFFF, 0x0, []⟩,
  ⟨0x2000058, [], 0x0, 0x0, 0x0, 0xFFFFFFFF, 0x0, []⟩,
  ⟨0x200005C, [], 0x0, 0x0, 0x0, 0xFFFFFFFF, 0x0, []⟩,
  ⟨0x2000060, [(0x4, 5)], 0x0, 0x0, 0x0, 0xFFFFFFFF, 0x0, []⟩,
  ⟨0x2100000, [(0x4, 262144)], 0x0, 0x0, 0x0, 0x0, 0x0, []⟩,
  ⟨0x2400000, [(0x4, 262144)], 0x0, 0x0, 0x0, 0x0, 0x0, []⟩,
  ⟨0x2800000, [(0x4, 262144)], 0x0, 0x7FFFFF, 0x0, 0x0, 0x0, [(1, 3, 0, 5)]⟩,
  ⟨0x2010000, [(0x10, 4096)], 0x0, 0x8003FFFF, 0x0, 0x0, 0x0, []⟩,
  ⟨0x2010004, [(0x10, 4096)], 0x0, 0x3FFFF, 0x0, 0x0, 0x0, []⟩,
  ⟨0x2010008, [(0x10, 4096)], 0x1E100, 0x3FFFFF, 0x0, 0x0, 0x0, [(0, 12, 32, 2560), (12, 10, 1, 600)]⟩,
  ⟨0x201000C, [(0x10, 4096)], 0x0, 0x0, 0x0, 0x0, 0x0, []⟩,
  ⟨0x2020000, [(0x10, 4096)], 0x0, 0x0, 0x0, 0x0, 0x0, []⟩,
  ⟨0x2020004, [(0x10, 4096)], 0x0, 0x0, 0x0, 0x0, 0x0, []⟩,
  ⟨0x2020008, [(0x10, 4096)], 0x0, 0x0, 0x0, 0xFFFFFFFF, 0x0, []⟩,
  ⟨0x202000C, [(0x10, 4096)], 0x0, 0x0, 0x0, 0xFFFFFFFF, 0x0, []⟩,
  ⟨0x2C00000, [(0x10, 262144)], 0x28000, 0x0, 0x0, 0x0, 0x0, []⟩,
  ⟨0x2C00004, [(0x10, 262144)], 0x0, 0x0, 0x0, 0x0, 0x0, []⟩,
  ⟨0x2C00008, [(0x10, 262144)], 0x0, 0x0, 0x0, 0x0, 0x0, []⟩,
  ⟨0x2C0000C, [(0x10, 262144)], 0x8000, 0x0, 0x0, 0x0, 0x0, []⟩]
def rowsSTM : List RegRow := rowsSTM0

/-- Words of the IFD_ window. -/
def rowsIFD0 : List RegRow := [
  ⟨0x3000000, [], 0x5, 0x7, 0x0, 0x0, 0x0, []⟩,
  ⟨0x3000004, [], 0x0, 0x0, 0x0, 0x0, 0x0, []⟩,
  ⟨0x3000008, [], 0x0, 0x0, 0xFFF, 0x0, 0x0, []⟩,
  ⟨0x300000C, [], 0x0, 0x0, 0x0, 0x0, 0x0, []⟩,
  ⟨0x3000010, [], 0x100FFFFFF, 0x0, 0x0, 0x0, 0x0, []⟩,
  ⟨0x3000014, [], 0x20, 0x7F7F, 0x0, 0x0, 0x0, [(0, 7, 0, 64), (8, 7, 0, 64)]⟩,
  ⟨0x3000018, [], 0x0, 0x0, 0x0, 0x0, 0x8000000F, []⟩,
  ⟨0x300001C, [], 0x0, 0x0, 0x0, 0x0, 0x0, []⟩,
  ⟨0x3000020, [], 0x0, 0x0, 0x0, 0x0, 0x0, []⟩,
  ⟨0x3000024, [], 0x0, 0x0, 0x0, 0x0, 0x0, []⟩,
  ⟨0x3000028, [], 0x0, 0x0, 0x0, 0x0, 0x0, []⟩,
  ⟨0x300002C, [], 0x0, 0x0, 0x0, 0xFFFFF, 0x0, []⟩,
  ⟨0x3000030, [], 0x0, 0x0, 0x0, 0xFFFFFFFF, 0x0, []⟩,
  ⟨0x3000034, [], 0x0, 0x0, 0x0, 0xFFFFFFFF, 0x0, []⟩,
  ⟨0x3000038, [], 0x0, 0x0, 0x0, 0xFFFFFFFF, 0x0, []⟩,
  ⟨0x300003C, [], 0x0, 0x0, 0x0, 0xFFFFFFFF, 0x0, []⟩,
  ⟨0x3000040, [], 0x0, 0x0, 0x0, 0xFFFFFFFF, 0x0, []⟩,
  ⟨0x3000044, [], 0x0, 0x0, 0x0, 0xFFFFFFFF, 0x0, []⟩,
  ⟨0x3000048, [], 0x0, 0x0, 0x0, 0xFFFFFFFF, 0x0, []⟩,
  ⟨0x300004C, [], 0x0, 0x0, 0x0, 0x0, 0x0, []⟩,
  ⟨0x3000050, [], 0x0, 0x0, 0x0, 0x7FFFF, 0x0, []⟩,
  ⟨0x3000054, [], 0x100FFFF7F, 0x0, 0x0, 0x0, 0x0, []⟩,
  ⟨0x3000060, [], 0x0, 0x0, 0x0, 0x0, 0xF, [(0, 3, 1, 7)]⟩,
  ⟨0x3000064, [], 0x0, 0x0, 0x0, 0x0, 0x0, []⟩,
  ⟨0x3000068, [], 0x0, 0x0, 0x0, 0x0, 0x0, []⟩,
  ⟨0x300006C, [], 0x0, 0x0, 0x0, 0x0, 0x0, []⟩,
  ⟨0x3000070, [], 0x0, 0xFFFF, 0x0, 0x0, 0x0, []⟩,
  ⟨0x3000074, [], 0x0, 0xFFFF, 0x0, 0x0, 0x0, []⟩,
  ⟨0x3000078, [], 0x1, 0xF, 0x0, 0x0, 0x0, [(0, 4, 1, 8)]⟩,
  ⟨0x3100000, [(0x4, 262144)], 0x0, 0x0, 0x0, 0x0, 0x0, []⟩,
  ⟨0x3010000, [(0x40, 16)], 0x1, 0x1, 0x0, 0x0, 0x0, []⟩,
  ⟨0x3010004, [(0x40, 16)], 0x0, 0x0, 0x0, 0x0, 0x0, []⟩,
  ⟨0x3010008, [(0x40, 16)], 0x0, 0x0, 0x0, 0x0, 0xFFFF0003, []⟩,
  ⟨0x301000C, [(0x40, 16)], 0x0, 0x0, 0x0, 0x0, 0x0, []⟩,
  ⟨0x3010010, [(0x40, 16), (0x4, 8)], 0x0, 0x0, 0x0, 0x0, 0x0, []⟩,
  ⟨0x3010030, [(0x40, 16)], 0x0, 0x0, 0x0, 0x0, 0x0, []⟩,
  ⟨0x3010034, [(0x40, 16)], 0x0, 0x0, 0x0, 0x0, 0x0, []⟩,
  ⟨0x3020000, [(0x10, 64)], 0x1FFFFFFFF, 0x0, 0x0, 0x0, 0x0, []⟩,
  ⟨0x3020004, [(0x10, 64)], 0x10000007F, 0x0, 0x0, 0x0, 0x0, []⟩,
  ⟨0x3020008, [(0x10, 64)], 0x10000003F, 0x0, 0x0, 0x0, 0x0, []⟩]
def rowsIFD1 : List RegRow := [
  ⟨0x302000C, [(0x10, 64)], 0x0, 0x0, 0x0, 0xFFFFFFFF, 0x0, []⟩]
def rowsIFD : List RegRow := rowsIFD0 ++ rowsIFD1

/-- Words of the TBL_ window. -/
def rowsTBL0 : List RegRow := [
  ⟨0x4000000, [], 0x3, 0x3, 0x0, 0x0, 0x0, []⟩,
  ⟨0x4000004, [], 0x0, 0x0, 0x0, 0x0, 0x0, []⟩,
  ⟨0x4000008, [], 0x0, 0x0, 0x3FF, 0x0, 0x0, []⟩,
  ⟨0x400000C, [], 0x0, 0x0, 0x0, 0x0, 0x0, []⟩,
  ⟨0x4000010, [], 0x1FFFFFFFF, 0x0, 0x0, 0x0, 0x0, []⟩,
  ⟨0x4000014, [], 0x1FFFFFFFF, 0x0, 0x0, 0x0, 0x0, []⟩,
  ⟨0x4000018, [], 0xA, 0xFFF, 0x0, 0x0, 0x0, [(0, 12, 1, 3600)]⟩,
  ⟨0x400001C, [], 0x0, 0x0, 0x0, 0x0, 0x0, []⟩,
  ⟨0x4000020, [], 0x0, 0x0, 0x0, 0x0, 0x0, []⟩,
  ⟨0x4000024, [], 0x0, 0x0, 0x0, 0x0, 0x0, []⟩,
  ⟨0x4000028, [], 0x4, 0xFF, 0x0, 0x0, 0x0, [(0, 8, 1, 255)]⟩,
  ⟨0x400002C, [], 0x32, 0x7F, 0x0, 0x0, 0x0, [(0, 7, 1, 100)]⟩,
  ⟨0x4000030, [], 0x0, 0x0, 0x0, 0x0, 0x0, []⟩,
  ⟨0x4000034, [], 0x0, 0x0, 0x0, 0x0, 0x0, []⟩,
  ⟨0x4000038, [], 0x0, 0x0, 0x0, 0x7FFFFF, 0x0, []⟩,
  ⟨0x4000040, [], 0x0, 0x0, 0x0, 0xFFFFFFFF, 0x0, []⟩,
  ⟨0x4000044, [], 0x0, 0x0, 0x0, 0xFFFFFFFF, 0x0, []⟩,
  ⟨0x4000048, [], 0x0, 0x0, 0x0, 0xFFFFFFFF, 0x0, []⟩,
  ⟨0x400004C, [], 0x0, 0x0, 0x0, 0xFFFFFFFF, 0x0, []⟩,
  ⟨0x4000050, [], 0x0, 0x0, 0x0, 0xFFFFFFFF, 0x0, []⟩,
  ⟨0x4000054, [], 0x0, 0x0, 0x0, 0xFFFFFFFF, 0x0, []⟩,
  ⟨0x4000100, [(0x10, 12)], 0x1000003FF, 0x0, 0x0, 0x0, 0x0, []⟩,
  ⟨0x4000104, [(0x10, 12)], 0x10000007F, 0x0, 0x0, 0x0, 0x0, []⟩,
  ⟨0x4000108, [(0x10, 12)], 0x0, 0x0, 0x0, 0xFFFFFFFF, 0x0, []⟩,
  ⟨0x400010C, [(0x10, 12)], 0x1FFFFFFFF, 0x0, 0x0, 0x0, 0x0, []⟩,
  ⟨0x4010000, [(0x40, 4096)], 0x0, 0xFFF7FFF, 0x0, 0x0, 0x0, [(3, 2, 0, 2), (24, 4, 0, 8)]⟩,
  ⟨0x4010004, [(0x40, 4096)], 0x0, 0xFFFFFFFF, 0x0, 0x0, 0x0, []⟩,
  ⟨0x4010008, [(0x40, 4096)], 0x0, 0x0, 0x0, 0x0, 0xFFFF000F, []⟩,
  ⟨0x401000C, [(0x40, 4096)], 0x0, 0x0, 0x0, 0x0, 0x0, []⟩,
  ⟨0x4010010, [(0x40, 4096)], 0x0, 0x0, 0x0, 0x0, 0x0, []⟩,
  ⟨0x4010014, [(0x40, 4096)], 0x0, 0x0, 0x0, 0x0, 0x0, []⟩,
  ⟨0x4010018, [(0x40, 4096)], 0x0, 0x0, 0x0, 0x0, 0x0, []⟩,
  ⟨0x401001C, [(0x40, 4096)], 0x0, 0x0, 0x0, 0x0, 0x0, []⟩,
  ⟨0x4010020, [(0x40, 4096)], 0x0, 0x0, 0x0, 0x0, 0x0, []⟩,
  ⟨0x4010024, [(0x40, 4096)], 0x0, 0x0, 0x0, 0x0, 0x0, []⟩,
  ⟨0x4010028, [(0x40, 4096)], 0x0, 0x0, 0x0, 0x0, 0x0, []⟩,
  ⟨0x401002C, [(0x40, 4096)], 0x0, 0x0, 0x0, 0xFFFFFFFF, 0x0, []⟩]
def rowsTBL : List RegRow := rowsTBL0

/-- Words of the PLN_ window. -/
def rowsPLN0 : List RegRow := [
  ⟨0x5000000, [], 0x1, 0x3, 0x0, 0x0, 0x0, []⟩,
  ⟨0x5000004, [], 0x0, 0x0, 0x0, 0x0, 0x0, []⟩,
  ⟨0x5000008, [], 0x0, 0x0, 0x3FF, 0x0, 0x0, []⟩,
  ⟨0x500000C, [], 0x0, 0x0, 0x0, 0x0, 0x0, []⟩,
  ⟨0x5000010, [], 0x5064, 0x7FFFF, 0x0, 0x0, 0x0, [(0, 10, 10, 1000), (10, 9, 5, 500)]⟩,
  ⟨0x5000014, [], 0x3E8, 0xFFFF, 0x0, 0x0, 0x0, [(0, 16, 100, 60000)]⟩,
  ⟨0x5000018, [], 0x1946, 0x7F7F, 0x0, 0x0, 0x0, [(0, 7, 30, 95), (8, 7, 5, 50)]⟩,
  ⟨0x500001C, [], 0xA, 0x3F, 0x0, 0x0, 0x0, [(0, 6, 0, 50)]⟩,
  ⟨0x5000020, [], 0x64, 0xF7F, 0x0, 0x0, 0x0, [(0, 7, 1, 100)]⟩,
  ⟨0x5000024, [], 0xFFFFFFFF, 0xFFFFFFFF, 0x0, 0x0, 0x0, []⟩,
  ⟨0x5000028, [], 0xFFFFFFFF, 0xFFFFFFFF, 0x0, 0x0, 0x0, []⟩,
  ⟨0x500002C, [], 0x0, 0x0, 0x0, 0x0, 0x0, []⟩,
  ⟨0x5000030, [], 0x0, 0x0, 0x0, 0x0, 0x0, []⟩,
  ⟨0x5000040, [], 0x0, 0x0, 0x0, 0xFFFFFFFF, 0x0, []⟩,
  ⟨0x5000044, [], 0x0, 0x0, 0x0, 0xFFFFFFFF, 0x0, []⟩,
  ⟨0x5000048, [], 0x0, 0x0, 0x0, 0xFFFFFFFF, 0x0, []⟩,
  ⟨0x500004C, [], 0x0, 0x0, 0x0, 0xFFFFFFFF, 0x0, []⟩,
  ⟨0x5000050, [], 0x0, 0x0, 0x0, 0xFFFFFFFF, 0x0, []⟩,
  ⟨0x5000054, [], 0x0, 0x0, 0x0, 0xFFFFFFFF, 0x0, []⟩,
  ⟨0x5010000, [(0x10, 4096)], 0x0, 0xFFFFFFFF, 0x0, 0x0, 0x0, [(0, 16, 0, 65534), (16, 16, 0, 65534)]⟩,
  ⟨0x5010004, [(0x10, 4096)], 0xFFFFFFFF, 0xFFFFFFFF, 0x0, 0x0, 0x0, []⟩,
  ⟨0x5010008, [(0x10, 4096)], 0x0, 0x0, 0x0, 0x0, 0x0, []⟩,
  ⟨0x501000C, [(0x10, 4096)], 0xFFFF, 0x0, 0x0, 0x0, 0x0, []⟩,
  ⟨0x5020000, [(0x10, 48)], 0xFFFFFFFF, 0xFFFFFFFF, 0x0, 0x0, 0x0, []⟩,
  ⟨0x5020004, [(0x10, 48)], 0xFFFFFFFF, 0xFFFFFFFF, 0x0, 0x0, 0x0, []⟩,
  ⟨0x5020008, [(0x10, 48)], 0x0, 0x0, 0x0, 0x0, 0x0, []⟩,
  ⟨0x502000C, [(0x10, 48)], 0x0, 0x0, 0x0, 0x0, 0x0, []⟩,
  ⟨0x5030000, [(0x10, 256)], 0x0, 0xF7F, 0x0, 0x0, 0x0, [(0, 7, 0, 100)]⟩,
  ⟨0x5030004, [(0x10, 256)], 0x0, 0x0, 0x0, 0x0, 0x0, []⟩,
  ⟨0x5040000, [(0x10, 16)], 0x1E1000, 0x3FFFFFF, 0x0, 0x0, 0x0, [(2, 7, 0, 90), (9, 7, 1, 100), (16, 10, 1, 600)]⟩,
  ⟨0x5040004, [(0x10, 16)], 0xFFFF, 0xFFFFFFFF, 0x0, 0x0, 0x0, [(16, 16, 0, 50000)]⟩,
  ⟨0x5050000, [(0x20, 1024)], 0x0, 0x8000FFFF, 0x0, 0x0, 0x0, [(0, 3, 0, 3)]⟩,
  ⟨0x5050004, [(0x20, 1024)], 0x0, 0xFFFFFFFF, 0x0, 0x0, 0x0, []⟩,
  ⟨0x5050008, [(0x20, 1024)], 0x0, 0x0, 0x0, 0x0, 0x0, []⟩,
  ⟨0x505000C, [(0x20, 1024)], 0x0, 0x0, 0x0, 0x0, 0x0, []⟩,
  ⟨0x5050010, [(0x20, 1024)], 0x0, 0x0, 0x0, 0x0, 0x0, []⟩,
  ⟨0x5050014, [(0x20, 1024)], 0x0, 0x0, 0x0, 0x0, 0x0, []⟩,
  ⟨0x5050018, [(0x20, 1024)], 0x0, 0x0, 0x0, 0x0, 0x0, []⟩,
  ⟨0x5060000, [(0x10, 256)], 0x0, 0x80F7FFF7, 0x0, 0x0, 0x0, [(0, 3, 0, 3)]⟩,
  ⟨0x5060004, [(0x10, 256)], 0xFFFFFFFF, 0xFFFFFFFF, 0x0, 0x0, 0x0, []⟩]
def rowsPLN1 : List RegRow := [
  ⟨0x5060008, [(0x10, 256)], 0x0, 0xFFFFFFFF, 0x0, 0x0, 0x0, [(0, 32, 0, 10000000)]⟩,
  ⟨0x506000C, [(0x10, 256)], 0x0, 0x0, 0x0, 0x0, 0x0, []⟩,
  ⟨0x5030008, [(0x10, 256), (0x4, 2)], 0x0, 0x0, 0x0, 0x0, 0x0, []⟩,
  ⟨0x5040008, [(0x10, 16), (0x4, 2)], 0x0, 0x0, 0x0, 0x0, 0x0, []⟩,
  ⟨0x505001C, [(0x20, 1024)], 0x0, 0x0, 0x0, 0x0, 0x0, []⟩]
def rowsPLN : List RegRow := rowsPLN0 ++ rowsPLN1

/-- Words of the LOP_ window. -/
def rowsLOP0 : List RegRow := [
  ⟨0x6000000, [], 0x1, 0x3, 0x0, 0x0, 0x0, []⟩,
  ⟨0x6000004, [], 0x8, 0x0, 0x0, 0x0, 0x0, []⟩,
  ⟨0x6000008, [], 0x0, 0x0, 0x3FFF, 0x0, 0x0, []⟩,
  ⟨0x600000C, [], 0x0, 0x0, 0x0, 0x0, 0x0, []⟩,
  ⟨0x6000010, [], 0x0, 0x0, 0x0, 0x0, 0x3, []⟩,
  ⟨0x6000014, [], 0x0, 0x0, 0x0, 0x0, 0x0, []⟩,
  ⟨0x6000018, [], 0x0, 0x0, 0x0, 0x0, 0x0, []⟩,
  ⟨0x600001C, [], 0x0, 0x0, 0x0, 0x0, 0x0, []⟩,
  ⟨0x6000020, [], 0x0, 0x0, 0x0, 0x0, 0x0, []⟩,
  ⟨0x6000024, [], 0x0, 0x0, 0x0, 0x0, 0x0, []⟩,
  ⟨0x6000028, [], 0x0, 0x0, 0x0, 0x0, 0x0, []⟩,
  ⟨0x6000030, [], 0x0, 0x0, 0x0, 0xFFFFFFFF, 0x0, []⟩,
  ⟨0x6000034, [], 0x0, 0x0, 0x0, 0xFFFFFFFF, 0x0, []⟩,
  ⟨0x6000038, [], 0x0, 0x0, 0x0, 0xFFFFFFFF, 0x0, []⟩,
  ⟨0x600003C, [], 0x0, 0x0, 0x0, 0xFFFFFFFF, 0x0, []⟩,
  ⟨0x6000040, [], 0x0, 0x0, 0xFFFFFFFF, 0x0, 0x0, []⟩,
  ⟨0x6000044, [], 0x0, 0x0, 0x0, 0x0, 0x0, []⟩,
  ⟨0x6000048, [], 0x0, 0x0, 0xFFFFFFFF, 0x0, 0x0, []⟩,
  ⟨0x600004C, [], 0x0, 0x0, 0x0, 0x0, 0x0, []⟩,
  ⟨0x6000050, [], 0x0, 0x0, 0xFFFFFFFF, 0x0, 0x0, []⟩,
  ⟨0x6000054, [], 0x0, 0x0, 0x0, 0x0, 0x0, []⟩,
  ⟨0x6000058, [], 0x0, 0x0, 0xFFFFFFFF, 0x0, 0x0, []⟩,
  ⟨0x600005C, [], 0x0, 0x0, 0x0, 0x0, 0x0, []⟩,
  ⟨0x6000060, [], 0x0, 0x0, 0x0, 0xFFFFFFFF, 0x0, []⟩,
  ⟨0x6000064, [], 0x0, 0x0, 0x0, 0xFFFFFFFF, 0x0, []⟩,
  ⟨0x6010000, [(0x100, 128)], 0x0, 0xFF7FF7F, 0x0, 0x0, 0x0, []⟩,
  ⟨0x6010004, [(0x100, 128)], 0x1, 0x1FFFF, 0x0, 0x0, 0x0, []⟩,
  ⟨0x6010008, [(0x100, 128)], 0x0, 0x1FFFF, 0x0, 0x0, 0x0, []⟩,
  ⟨0x601000C, [(0x100, 128)], 0x0, 0x3FF7FF7, 0x0, 0x0, 0x0, [(24, 2, 0, 2)]⟩,
  ⟨0x6010010, [(0x100, 128)], 0x0, 0x3FDFF, 0x0, 0x0, 0x0, []⟩,
  ⟨0x6010040, [(0x100, 128)], 0xA0000, 0xFFFF000F, 0x0, 0x0, 0x10, [(16, 16, 1, 65535)]⟩,
  ⟨0x6010044, [(0x100, 128)], 0x0, 0xFFFF, 0x0, 0x0, 0x0, []⟩,
  ⟨0x6010048, [(0x100, 128)], 0x0, 0xFFFF, 0x0, 0x0, 0x0, []⟩,
  ⟨0x601004C, [(0x100, 128)], 0x0, 0xFFFF, 0x0, 0x0, 0x0, []⟩,
  ⟨0x6010050, [(0x100, 128)], 0x0, 0xFFFF, 0x0, 0x0, 0x0, []⟩,
  ⟨0x6010054, [(0x100, 128)], 0x0, 0xFFFF, 0x0, 0x0, 0x0, []⟩,
  ⟨0x6010058, [(0x100, 128)], 0x0, 0xFFFF, 0x0, 0x0, 0x0, []⟩,
  ⟨0x601005C, [(0x100, 128)], 0x0, 0xFFFF, 0x0, 0x0, 0x0, []⟩,
  ⟨0x6010060, [(0x100, 128)], 0x0, 0xF3F, 0x0, 0x0, 0x0, [(0, 4, 0, 8), (4, 2, 0, 2)]⟩,
  ⟨0x6010064, [(0x100, 128)], 0x0, 0xFFFFFFFF, 0x0, 0x0, 0x0, []⟩]
def rowsLOP1 : List RegRow := [
  ⟨0x6010068, [(0x100, 128)], 0x0, 0xFFFFFFFF, 0x0, 0x0, 0x0, []⟩,
  ⟨0x601006C, [(0x100, 128)], 0x7FFF, 0xFFFFFFFF, 0x0, 0x0, 0x0, []⟩,
  ⟨0x6010070, [(0x100, 128)], 0x0, 0xFFFFFFFF, 0x0, 0x0, 0x0, []⟩,
  ⟨0x6010074, [(0x100, 128)], 0x0, 0xFFFFF, 0x0, 0x0, 0x0, []⟩,
  ⟨0x6010078, [(0x100, 128)], 0x7CD7, 0xFFFF, 0x0, 0x0, 0x0, [(0, 16, 0, 32767)]⟩,
  ⟨0x601007C, [(0x100, 128)], 0x0, 0xFFFFFFFF, 0x0, 0x0, 0x0, []⟩,
  ⟨0x6010080, [(0x100, 128)], 0x0, 0xFFFFFFFF, 0x0, 0x0, 0x0, []⟩,
  ⟨0x6010084, [(0x100, 128)], 0x0, 0xFFFFFFFF, 0x0, 0x0, 0x0, []⟩,
  ⟨0x6010088, [(0x100, 128)], 0x0, 0x3FFFFFFF, 0x0, 0x0, 0x0, []⟩,
  ⟨0x601008C, [(0x100, 128)], 0x640CCD, 0xFFFFFFFF, 0x0, 0x0, 0x0, [(0, 16, 1, 32767), (16, 16, 1, 65535)]⟩,
  ⟨0x6010090, [(0x100, 128)], 0x0, 0xFFFFFFFF, 0x0, 0x0, 0x0, []⟩,
  ⟨0x6010094, [(0x100, 128)], 0x200, 0xFFFFFFFF, 0x0, 0x0, 0x0, []⟩,
  ⟨0x6010098, [(0x100, 128)], 0x0, 0x0, 0x0, 0x0, 0x0, []⟩,
  ⟨0x601009C, [(0x100, 128)], 0x0, 0x0, 0x0, 0xFFFFFFFF, 0x0, []⟩,
  ⟨0x6020000, [(0x40, 128)], 0x80000000, 0x0, 0x0, 0x0, 0x0, []⟩,
  ⟨0x6020004, [(0x40, 128)], 0x80000000, 0x0, 0x0, 0x0, 0x0, []⟩,
  ⟨0x6020008, [(0x40, 128)], 0x0, 0x0, 0x0, 0x0, 0x0, []⟩,
  ⟨0x602000C, [(0x40, 128)], 0x0, 0x0, 0x0, 0x0, 0x0, []⟩,
  ⟨0x6020010, [(0x40, 128)], 0x0, 0x0, 0x0, 0x0, 0x0, []⟩,
  ⟨0x6020014, [(0x40, 128)], 0x0, 0x0, 0x0, 0x0, 0x0, []⟩,
  ⟨0x6020018, [(0x40, 128)], 0x0, 0x0, 0x0, 0x0, 0x0, []⟩,
  ⟨0x6020020, [(0x40, 128)], 0x0, 0x0, 0x0, 0x0, 0x0, []⟩,
  ⟨0x6020028, [(0x40, 128)], 0x0, 0x0, 0x0, 0x0, 0x0, []⟩,
  ⟨0x602001C, [(0x40, 128)], 0x0, 0x0, 0x0, 0x0, 0x0, []⟩,
  ⟨0x6020024, [(0x40, 128)], 0x0, 0x0, 0x0, 0x0, 0x0, []⟩,
  ⟨0x602002C, [(0x40, 128)], 0x0, 0x0, 0x0, 0x0, 0x0, []⟩,
  ⟨0x6020030, [(0x40, 128)], 0x0, 0x0, 0x0, 0x0, 0x0, []⟩,
  ⟨0x6020034, [(0x40, 128)], 0x0, 0x0, 0x0, 0x0, 0x0, []⟩,
  ⟨0x6020038, [(0x40, 128)], 0x0, 0x0, 0x0, 0x0, 0x0, []⟩,
  ⟨0x602003C, [(0x40, 128)], 0x80000000, 0x0, 0x0, 0x0, 0x0, []⟩,
  ⟨0x6030000, [(0x80, 128), (0x8, 16)], 0x0, 0xFFFFFFFF, 0x0, 0x0, 0x0, []⟩,
  ⟨0x6030004, [(0x80, 128), (0x8, 16)], 0x0, 0xFFFFFFFF, 0x0, 0x0, 0x0, []⟩,
  ⟨0x6010014, [(0x100, 128), (0x4, 3)], 0x0, 0x0, 0x0, 0x0, 0x0, []⟩,
  ⟨0x6010034, [(0x100, 128), (0x4, 3)], 0x0, 0x0, 0x0, 0x0, 0x0, []⟩,
  ⟨0x60100A0, [(0x100, 128), (0x4, 24)], 0x0, 0x0, 0x0, 0x0, 0x0, []⟩,
  ⟨0x6010020, [(0x100, 128)], 0x0, 0x0, 0x0, 0x0, 0x0, []⟩,
  ⟨0x6010024, [(0x100, 128)], 0x1, 0x0, 0x0, 0x0, 0x0, []⟩,
  ⟨0x6010028, [(0x100, 128)], 0x0, 0x0, 0x0, 0x0, 0x0, []⟩,
  ⟨0x601002C, [(0x100, 128)], 0x0, 0x0, 0x0, 0x0, 0x0, []⟩,
  ⟨0x6010030, [(0x100, 128)], 0x0, 0x0, 0x0, 0x0, 0x0, []⟩]
def rowsLOP : List RegRow := rowsLOP0 ++ rowsLOP1

/-- Words of the ACT_ window. -/
def rowsACT0 : List RegRow := [
  ⟨0x7000000, [], 0x7, 0x7, 0x0, 0x0, 0x0, []⟩,
  ⟨0x7000004, [], 0x0, 0x0, 0x0, 0x0, 0x0, []⟩,
  ⟨0x7000008, [], 0x0, 0x0, 0x7FFFF, 0x0, 0x0, []⟩,
  ⟨0x700000C, [], 0x0, 0x0, 0x0, 0x0, 0x0, []⟩,
  ⟨0x7000010, [], 0x190, 0x3FF, 0x0, 0x0, 0x0, [(0, 10, 0, 800)]⟩,
  ⟨0x7000014, [], 0x0, 0x0, 0x0, 0x0, 0x0, []⟩,
  ⟨0x7000018, [], 0x0, 0x0, 0x0, 0xFFFF, 0x0, []⟩,
  ⟨0x700001C, [], 0x54, 0x3FFF, 0x0, 0x0, 0x0, [(0, 4, 1, 8), (4, 10, 1, 600)]⟩,
  ⟨0x7000020, [], 0x0, 0x0, 0x0, 0xFFFFFFFF, 0x0, []⟩,
  ⟨0x7000024, [], 0x0, 0x0, 0x0, 0xFFFFFFFF, 0x0, []⟩,
  ⟨0x7000028, [], 0x0, 0x0, 0x0, 0xFFFFFFFF, 0x0, []⟩,
  ⟨0x700002C, [], 0x0, 0x0, 0x0, 0xFFFFFFFF, 0x0, []⟩,
  ⟨0x7000030, [], 0x0, 0x0, 0x0, 0xFFFFFFFF, 0x0, []⟩,
  ⟨0x7000034, [], 0x0, 0x0, 0x0, 0x0, 0x0, []⟩,
  ⟨0x7041000, [(0x4, 64)], 0x20000, 0xFFFF, 0x0, 0x0, 0x0, [(0, 16, 0, 32767)]⟩,
  ⟨0x7061000, [], 0x3207D0, 0x3FF3FFF, 0x0, 0x0, 0x0, [(0, 14, 100, 10000), (16, 10, 10, 1000)]⟩,
  ⟨0x7061004, [], 0x0, 0x0, 0x0, 0x0, 0x0, []⟩,
  ⟨0x7070000, [], 0x0, 0x0, 0x0, 0x0, 0x0, []⟩,
  ⟨0x7070004, [], 0x0, 0x0, 0xFF, 0x0, 0x0, []⟩,
  ⟨0x7070008, [], 0x0, 0x0, 0x0, 0x0, 0x0, []⟩,
  ⟨0x707000C, [], 0x0, 0x0, 0x0, 0x0, 0x0, []⟩,
  ⟨0x7070010, [], 0x0, 0x0, 0x0, 0x0, 0x0, []⟩,
  ⟨0x7070014, [], 0x0, 0x0, 0x0, 0x0, 0x0, []⟩,
  ⟨0x7070018, [], 0x80008000, 0x0, 0x0, 0x0, 0x0, []⟩,
  ⟨0x707001C, [], 0x80008000, 0x0, 0x0, 0x0, 0x0, []⟩,
  ⟨0x7070020, [], 0x1801FFF3F, 0x0, 0x0, 0x0, 0x0, []⟩,
  ⟨0x7010000, [(0x40, 8)], 0x3E80008, 0xFFFFFFFF, 0x0, 0x0, 0x0, [(2, 2, 0, 2), (6, 2, 0, 2), (16, 16, 100, 10000)]⟩,
  ⟨0x7010004, [(0x40, 8)], 0x7FFF199A, 0xFFFFFFFF, 0x0, 0x0, 0x0, []⟩,
  ⟨0x7010008, [(0x40, 8)], 0x326414, 0x7FFFFF, 0x0, 0x0, 0x0, [(0, 8, 1, 255), (8, 8, 1, 255), (16, 7, 10, 100)]⟩,
  ⟨0x701000C, [(0x40, 8)], 0x1F40064, 0xFFF0FFF, 0x0, 0x0, 0x0, [(0, 12, 1, 1000), (16, 12, 1, 1000)]⟩,
  ⟨0x7010010, [(0x40, 8)], 0xA0C814, 0xFF3FF7F, 0x0, 0x0, 0x0, [(0, 7, 5, 90), (8, 10, 10, 1000), (20, 8, 1, 255)]⟩,
  ⟨0x7010014, [(0x40, 8)], 0x0, 0x0, 0x0, 0x0, 0x7, [(0, 3, 1, 4)]⟩,
  ⟨0x7010018, [(0x40, 8)], 0x0, 0x1, 0x0, 0x0, 0x0, []⟩,
  ⟨0x701001C, [(0x40, 8)], 0x0, 0x0, 0x0, 0x0, 0x0, []⟩,
  ⟨0x7010020, [(0x40, 8)], 0xFFFF0000, 0x0, 0x0, 0x0, 0x0, []⟩,
  ⟨0x7010024, [(0x40, 8)], 0x0, 0x0, 0x0, 0x0, 0x0, []⟩,
  ⟨0x7010028, [(0x40, 8)], 0x0, 0x0, 0x0, 0x0, 0x0, []⟩,
  ⟨0x701002C, [(0x40, 8)], 0x0, 0xFFFFFFFF, 0x0, 0x0, 0x0, []⟩,
  ⟨0x7020000, [(0x20, 64)], 0x502800, 0x3FFFFFF, 0x0, 0x0, 0x0, [(11, 7, 1, 50), (18, 8, 1, 255)]⟩,
  ⟨0x7020004, [(0x20, 64)], 0x7FFF0000, 0xFFFFFFFF, 0x0, 0x0, 0x0, [(0, 16, 0, 32767), (16, 16, 0, 32767)]⟩]
def rowsACT1 : List RegRow := [
  ⟨0x7020008, [(0x20, 64)], 0x0, 0x8000FFFF, 0x0, 0x0, 0x0, [(0, 16, 0, 32767)]⟩,
  ⟨0x702000C, [(0x20, 64)], 0x0, 0x0, 0x0, 0x0, 0x0, []⟩,
  ⟨0x7020010, [(0x20, 64)], 0x0, 0x0, 0x0, 0x0, 0x0, []⟩,
  ⟨0x7030000, [(0x20, 64)], 0x7D00, 0x3FFFFF1, 0x0, 0x0, 0x0, [(4, 12, 100, 4000), (16, 10, 0, 600)]⟩,
  ⟨0x7030004, [(0x20, 64)], 0xA280A3C, 0xFFFFFFFF, 0x0, 0x0, 0x0, [(0, 8, 5, 200), (8, 8, 1, 50), (16, 8, 5, 200), (24, 8, 2, 100)]⟩,
  ⟨0x7030008, [(0x20, 64)], 0x1F40322, 0x3FFF3FF3, 0x0, 0x0, 0x0, [(4, 10, 1, 1000), (16, 14, 10, 10000)]⟩,
  ⟨0x703000C, [(0x20, 64)], 0x0, 0x0, 0x0, 0x0, 0x7, [(0, 3, 1, 5)]⟩,
  ⟨0x7030010, [(0x20, 64)], 0x0, 0x1, 0x0, 0x0, 0x0, []⟩,
  ⟨0x7030014, [(0x20, 64)], 0xFFFF0000, 0x0, 0x0, 0x0, 0x0, []⟩,
  ⟨0x7030018, [(0x20, 64)], 0x0, 0x0, 0x0, 0x0, 0x0, []⟩,
  ⟨0x703001C, [(0x20, 64)], 0x0, 0x0, 0x0, 0x0, 0x0, []⟩,
  ⟨0x7031000, [(0x10, 8)], 0xF0, 0x0, 0x0, 0x0, 0x0, []⟩,
  ⟨0x7031004, [(0x10, 8)], 0x0, 0x0, 0x0, 0x0, 0x3, []⟩,
  ⟨0x7040000, [(0x40, 32)], 0x2EE01410, 0xFFFF7F7F, 0x0, 0x0, 0x0, [(8, 7, 0, 100), (16, 16, 100, 30000)]⟩,
  ⟨0x7040004, [(0x40, 32)], 0x0, 0xFFFFFFFF, 0x0, 0x0, 0x0, []⟩,
  ⟨0x7040008, [(0x40, 32)], 0x0, 0xFFFFFFFF, 0x0, 0x0, 0x0, []⟩,
  ⟨0x704000C, [(0x40, 32)], 0x64, 0x3FF, 0x0, 0x0, 0x0, [(0, 10, 10, 1000)]⟩,
  ⟨0x7040010, [(0x40, 32)], 0x0, 0x1FF, 0x0, 0x0, 0x0, []⟩,
  ⟨0x7040014, [(0x40, 32), (0x4, 4)], 0x0, 0xFFFFFFFF, 0x0, 0x0, 0x0, [(16, 16, 0, 32767)]⟩,
  ⟨0x7040024, [(0x40, 32)], 0x0, 0x0, 0x0, 0x0, 0x3, [(0, 2, 1, 1)]⟩,
  ⟨0x7040028, [(0x40, 32)], 0x0, 0x8000FFFF, 0x0, 0x0, 0x0, [(0, 16, 0, 32767)]⟩,
  ⟨0x704002C, [(0x40, 32)], 0x0, 0x0, 0x0, 0x0, 0x0, []⟩,
  ⟨0x7040030, [(0x40, 32)], 0x0, 0x0, 0x0, 0x0, 0x0, []⟩,
  ⟨0x7040034, [(0x40, 32)], 0x0, 0x0, 0x0, 0x0, 0x0, []⟩,
  ⟨0x7040038, [(0x40, 32)], 0x0, 0x0, 0x0, 0x0, 0x0, []⟩,
  ⟨0x7050000, [(0x10, 16)], 0x0, 0x0, 0x0, 0x0, 0x73, [(0, 2, 1, 2)]⟩,
  ⟨0x7050004, [(0x10, 16)], 0x0, 0x0, 0x0, 0x0, 0x0, []⟩,
  ⟨0x7060000, [(0x10, 144)], 0xFF00, 0x7FF07, 0x0, 0x0, 0x0, [(16, 3, 0, 4)]⟩,
  ⟨0x7060004, [(0x10, 144)], 0x0, 0xFFFFFFFF, 0x0, 0x0, 0x0, []⟩,
  ⟨0x7060008, [(0x10, 144)], 0x0, 0xFFFFFFFF, 0x0, 0x0, 0x0, []⟩,
  ⟨0x706000C, [(0x10, 144)], 0x80000000, 0x0, 0x0, 0x0, 0x0, []⟩,
  ⟨0x7070100, [(0x10, 8)], 0x0, 0x0, 0x0, 0x0, 0x0, []⟩,
  ⟨0x7070104, [(0x10, 8)], 0x0, 0x0, 0x0, 0x0, 0x0, []⟩,
  ⟨0x7070108, [(0x10, 8)], 0x0, 0x0, 0x0, 0x0, 0x0, []⟩,
  ⟨0x707010C, [(0x10, 8)], 0x0, 0x0, 0x0, 0x0, 0x0, []⟩,
  ⟨0x7010030, [(0x40, 8), (0x4, 4)], 0x0, 0x0, 0x0, 0x0, 0x0, []⟩,
  ⟨0x7020014, [(0x20, 64), (0x4, 3)], 0x0, 0x0, 0x0, 0x0, 0x0, []⟩,
  ⟨0x7031008, [(0x10, 8), (0x4, 2)], 0x0, 0x0, 0x0, 0x0, 0x0, []⟩,
  ⟨0x704003C, [(0x40, 32)], 0x0, 0x0, 0x0, 0x0, 0x0, []⟩,
  ⟨0x7050008, [(0x10, 16), (0x4, 2)], 0x0, 0x0, 0x0, 0x0, 0x0, []⟩]
def rowsACT : List RegRow := rowsACT0 ++ rowsACT1

/-- Words of the PRT_ window. -/
def rowsPRT0 : List RegRow := [
  ⟨0x8000000, [], 0x3, 0x3, 0x0, 0x0, 0x0, []⟩,
  ⟨0x8000004, [], 0x0, 0x0, 0x0, 0x0, 0x0, []⟩,
  ⟨0x8000008, [], 0x0, 0x0, 0x7FFF, 0x0, 0x0, []⟩,
  ⟨0x800000C, [], 0x0, 0x0, 0x0, 0x0, 0x0, []⟩,
  ⟨0x8000010, [], 0x0, 0x0, 0x0, 0x0, 0x800003FF, []⟩,
  ⟨0x8000014, [], 0x0, 0x0, 0x0, 0x0, 0x0, []⟩,
  ⟨0x8000018, [], 0x2850C8, 0x3FFFFFF, 0x0, 0x0, 0x0, [(0, 10, 10, 1000), (10, 8, 5, 255), (18, 8, 1, 255)]⟩,
  ⟨0x800001C, [], 0x140A8246, 0xFFFFFFFF, 0x0, 0x0, 0x0, [(0, 8, 40, 90), (8, 8, 110, 200), (16, 8, 1, 100), (24, 8, 1, 100)]⟩,
  ⟨0x8000020, [], 0x3C0A00C8, 0xFFFF07FF, 0x0, 0x0, 0x0, [(0, 11, 50, 2000), (24, 8, 1, 255)]⟩,
  ⟨0x8000024, [], 0x1E003C, 0x3FF03FF, 0x0, 0x0, 0x0, [(0, 10, 0, 600), (16, 10, 1, 600)]⟩,
  ⟨0x8000028, [], 0x0, 0xFF07, 0x0, 0x0, 0x0, []⟩,
  ⟨0x800002C, [], 0x0, 0xFFFFFFFF, 0x0, 0x0, 0x0, []⟩,
  ⟨0x8000030, [], 0xA3C14, 0x3FF7F7F, 0x0, 0x0, 0x0, [(0, 7, 5, 80), (8, 7, 10, 95), (16, 10, 1, 1000)]⟩,
  ⟨0x8000034, [], 0x7878, 0xFFFFF, 0x0, 0x0, 0x0, [(0, 10, 10, 1000), (10, 10, 1, 1000)]⟩,
  ⟨0x8000038, [], 0xFFFFFFFF, 0x0, 0x0, 0x0, 0x0, []⟩,
  ⟨0x800003C, [], 0x0, 0x0, 0x0, 0x0, 0x0, []⟩,
  ⟨0x8000040, [], 0xFFFFFFFF, 0x0, 0x0, 0x0, 0x0, []⟩,
  ⟨0x8000050, [], 0x0, 0x0, 0x0, 0xFFFFFFFF, 0x0, []⟩,
  ⟨0x8000054, [], 0x0, 0x0, 0x0, 0xFFFFFFFF, 0x0, []⟩,
  ⟨0x8000058, [], 0x0, 0x0, 0x0, 0xFFFFFFFF, 0x0, []⟩,
  ⟨0x800005C, [], 0x0, 0x0, 0x0, 0xFFFFFFFF, 0x0, []⟩,
  ⟨0x8000060, [], 0x0, 0x0, 0x0, 0xFFFFFFFF, 0x0, []⟩,
  ⟨0x8000064, [], 0x0, 0x0, 0x0, 0xFFFFFFFF, 0x0, []⟩,
  ⟨0x8040000, [(0x4, 144)], 0x0, 0x0, 0x0, 0x0, 0x0, []⟩,
  ⟨0x8050000, [(0x4, 64)], 0x7FFF, 0xFFFF, 0x0, 0x0, 0x0, [(0, 16, 0, 32767)]⟩,
  ⟨0x8010000, [(0x40, 48)], 0x0, 0xFF07FF07, 0x0, 0x0, 0x0, []⟩,
  ⟨0x8010004, [(0x40, 48)], 0x50064, 0x7FFFFF, 0x0, 0x0, 0x0, [(0, 16, 10, 5000), (16, 7, 1, 50)]⟩,
  ⟨0x8010008, [(0x40, 48)], 0x34802F80, 0xFFFFFFFF, 0x0, 0x0, 0x0, []⟩,
  ⟨0x801000C, [(0x40, 48)], 0x3, 0x7F, 0x0, 0x0, 0x0, [(0, 7, 0, 100)]⟩,
  ⟨0x8010010, [(0x40, 48)], 0x0, 0x0, 0x0, 0x0, 0x0, []⟩,
  ⟨0x8010014, [(0x40, 48)], 0x0, 0x0, 0x0, 0x0, 0x0, []⟩,
  ⟨0x8010018, [(0x40, 48)], 0xFFFFFFFF, 0x0, 0x0, 0x0, 0x0, []⟩,
  ⟨0x801001C, [(0x40, 48)], 0x80000000, 0x0, 0x0, 0x0, 0x0, []⟩,
  ⟨0x8010020, [(0x40, 48)], 0x8000, 0x0, 0x0, 0x0, 0x0, []⟩,
  ⟨0x8020000, [(0x10, 48)], 0x103E8, 0x1FFFF, 0x0, 0x0, 0x0, [(0, 16, 100, 10000)]⟩,
  ⟨0x8020004, [(0x10, 48)], 0x0, 0x0, 0x0, 0x0, 0x0, []⟩,
  ⟨0x8021000, [(0x10, 32)], 0x1FF01D6, 0x1FFFFFF, 0x0, 0x0, 0x0, [(0, 16, 100, 10000)]⟩,
  ⟨0x8021004, [(0x10, 32)], 0x0, 0x0, 0x0, 0x0, 0x0, []⟩,
  ⟨0x8030000, [(0x10, 32)], 0xA0FE000, 0xFFFFFFF7, 0x0, 0x0, 0x0, [(21, 3, 0, 4)]⟩,
  ⟨0x8030004, [(0x10, 32)], 0x1B801800, 0xFFFFFFFF, 0x0, 0x0, 0x0, []⟩]
def rowsPRT1 : List RegRow := [
  ⟨0x8030008, [(0x10, 32)], 0x80000000, 0x0, 0x0, 0x0, 0x0, []⟩,
  ⟨0x8041000, [(0x10, 64)], 0x0, 0x8003FFFF, 0x0, 0x0, 0x0, []⟩,
  ⟨0x8041004, [(0x10, 64)], 0x0, 0x3FFFF, 0x0, 0x0, 0x0, []⟩,
  ⟨0x8041008, [(0x10, 64)], 0x1E100, 0x3FFFFF, 0x0, 0x0, 0x0, [(0, 12, 32, 2560), (12, 10, 1, 600)]⟩,
  ⟨0x804100C, [(0x10, 64)], 0x0, 0x0, 0x0, 0x0, 0x0, []⟩,
  ⟨0x8010024, [(0x40, 48), (0x4, 7)], 0x0, 0x0, 0x0, 0x0, 0x0, []⟩,
  ⟨0x8020008, [(0x10, 48), (0x4, 2)], 0x0, 0x0, 0x0, 0x0, 0x0, []⟩,
  ⟨0x8021008, [(0x10, 32), (0x4, 2)], 0x0, 0x0, 0x0, 0x0, 0x0, []⟩,
  ⟨0x803000C, [(0x10, 32)], 0x0, 0x0, 0x0, 0x0, 0x0, []⟩]
def rowsPRT : List RegRow := rowsPRT0 ++ rowsPRT1

/-- Words of the NET_ window. -/
def rowsNET0 : List RegRow := [
  ⟨0x9000000, [], 0x7, 0x7, 0x0, 0x0, 0x0, []⟩,
  ⟨0x9000004, [], 0x0, 0x0, 0x0, 0x0, 0x0, []⟩,
  ⟨0x9000008, [], 0x0, 0x0, 0x1FF, 0x0, 0x0, []⟩,
  ⟨0x900000C, [], 0x0, 0x0, 0x0, 0x0, 0x0, []⟩,
  ⟨0x9000010, [], 0x6EFB6EFA, 0xFFFFFFFF, 0x0, 0x0, 0x0, [(0, 16, 1024, 65535), (16, 16, 1024, 65535)]⟩,
  ⟨0x9000014, [], 0x6EFC, 0xFFFF, 0x0, 0x0, 0x0, [(0, 16, 1024, 65535)]⟩,
  ⟨0x9000018, [], 0xA, 0x3FF, 0x0, 0x0, 0x0, [(0, 10, 2, 600)]⟩,
  ⟨0x900001C, [], 0x0, 0x1FFF1FFF, 0x0, 0x0, 0x0, []⟩,
  ⟨0x9000020, [], 0x67654, 0x77777, 0x0, 0x0, 0x0, []⟩,
  ⟨0x9000030, [(0x4, 4)], 0x0, 0xFFFFFFFF, 0x0, 0x0, 0x0, []⟩,
  ⟨0x9000040, [(0x4, 4)], 0x0, 0xFFFFFFFF, 0x0, 0x0, 0x0, []⟩,
  ⟨0x9000050, [], 0x0, 0xFFFFFFFF, 0x0, 0x0, 0x0, []⟩,
  ⟨0x9000054, [], 0x0, 0xFFFFFFFF, 0x0, 0x0, 0x0, []⟩,
  ⟨0x9000058, [], 0x18184040, 0xFFFFFFFF, 0x0, 0x0, 0x0, [(0, 8, 1, 128), (8, 8, 1, 128), (16, 8, 1, 32), (24, 8, 1, 32)]⟩,
  ⟨0x9000060, [(0x4, 4)], 0x0, 0xFFFFFFFF, 0x0, 0x0, 0x0, []⟩,
  ⟨0x9000070, [(0x4, 4)], 0x0, 0xFFFFFFFF, 0x0, 0x0, 0x0, []⟩,
  ⟨0x9000080, [], 0x0, 0xFFFFFFFF, 0x0, 0x0, 0x0, []⟩,
  ⟨0x9000084, [], 0x0, 0xFFFFFFFF, 0x0, 0x0, 0x0, []⟩,
  ⟨0x9000090, [], 0xF1A90000, 0xFFFFFFFF, 0x0, 0x0, 0x0, []⟩,
  ⟨0x9000094, [], 0x0, 0xFFFFFFFF, 0x0, 0x0, 0x0, []⟩,
  ⟨0x9000098, [], 0x0, 0xFFFFFFFF, 0x0, 0x0, 0x0, []⟩,
  ⟨0x900009C, [], 0xFF050000, 0xFFFFFFFF, 0x0, 0x0, 0x0, []⟩,
  ⟨0x90000A0, [], 0xEFFFA900, 0xFFFFFFFF, 0x0, 0x0, 0x0, []⟩,
  ⟨0x90000C0, [], 0x0, 0x0, 0x0, 0xFFFFFFFF, 0x0, []⟩,
  ⟨0x90000C4, [], 0x0, 0x0, 0x0, 0xFFFFFFFF, 0x0, []⟩,
  ⟨0x90000C8, [], 0x0, 0x0, 0x0, 0xFFFFFFFF, 0x0, []⟩,
  ⟨0x90000CC, [], 0x0, 0x0, 0x0, 0xFFFFFFFF, 0x0, []⟩,
  ⟨0x90000D0, [], 0x0, 0x0, 0x0, 0xFFFFFFFF, 0x0, []⟩,
  ⟨0x90000D4, [], 0x0, 0x0, 0x0, 0xFFFFFFFF, 0x0, []⟩,
  ⟨0x90000D8, [], 0x0, 0x0, 0x0, 0xFFFFFFFF, 0x0, []⟩,
  ⟨0x90000DC, [], 0x0, 0x0, 0x0, 0xFFFFFFFF, 0x0, []⟩,
  ⟨0x9010000, [(0x10, 16)], 0x3F, 0x3F, 0x0, 0x0, 0x0, []⟩,
  ⟨0x9010004, [(0x10, 16)], 0x0, 0x0, 0x0, 0x0, 0x0, []⟩,
  ⟨0x9010008, [(0x10, 16)], 0x0, 0x0, 0x0, 0xFFFFFFFF, 0x0, []⟩,
  ⟨0x901000C, [(0x10, 16)], 0x0, 0x0, 0x0, 0xFFFFFFFF, 0x0, []⟩,
  ⟨0x9020000, [(0x20, 256)], 0x0, 0x0, 0x0, 0x0, 0x0, []⟩,
  ⟨0x9020004, [(0x20, 256), (0x4, 4)], 0x0, 0x0, 0x0, 0x0, 0x0, []⟩,
  ⟨0x9020014, [(0x20, 256)], 0x0, 0x0, 0x0, 0x0, 0x0, []⟩,
  ⟨0x9030000, [(0x20, 8)], 0x0, 0x0, 0x0, 0x0, 0x0, []⟩,
  ⟨0x9030004, [(0x20, 8)], 0x0, 0x0, 0x0, 0x0, 0x0, []⟩]
def rowsNET1 : List RegRow := [
  ⟨0x9030008, [(0x20, 8)], 0x0, 0x0, 0x0, 0x0, 0x0, []⟩,
  ⟨0x903000C, [(0x20, 8)], 0x0, 0x0, 0x0, 0x0, 0x0, []⟩,
  ⟨0x9030010, [(0x20, 8)], 0x0, 0x0, 0x0, 0x0, 0x0, []⟩,
  ⟨0x9030014, [(0x20, 8)], 0x0, 0x0, 0x0, 0x0, 0x0, []⟩,
  ⟨0x9020018, [(0x20, 256), (0x4, 2)], 0x0, 0x0, 0x0, 0x0, 0x0, []⟩,
  ⟨0x9030018, [(0x20, 8), (0x4, 2)], 0x0, 0x0, 0x0, 0x0, 0x0, []⟩]
def rowsNET : List RegRow := rowsNET0 ++ rowsNET1

/-- Words of the CAN_ window. -/
def rowsCAN0 : List RegRow := [
  ⟨0xA000000, [(0x100, 8)], 0x128, 0xFF7F, 0x0, 0x0, 0x0, []⟩,
  ⟨0xA000004, [(0x100, 8)], 0x0, 0x0, 0x0, 0x0, 0x0, []⟩,
  ⟨0xA000008, [(0x100, 8)], 0x0, 0x0, 0x1FF, 0x0, 0x0, []⟩,
  ⟨0xA00000C, [(0x100, 8)], 0x0, 0x0, 0x0, 0x0, 0x0, []⟩,
  ⟨0xA000010, [(0x100, 8)], 0x1F3EFC0, 0x7FFFFFF, 0x0, 0x0, 0x0, [(5, 8, 1, 255), (13, 7, 1, 127)]⟩,
  ⟨0xA000014, [(0x100, 8)], 0x7D11A0, 0x3FFFFFF, 0x0, 0x0, 0x0, []⟩,
  ⟨0xA000018, [(0x100, 8)], 0x0, 0x0, 0x0, 0x0, 0x0, []⟩,
  ⟨0xA00001C, [(0x100, 8)], 0x14, 0xFF, 0x0, 0x0, 0x0, [(0, 8, 1, 255)]⟩,
  ⟨0xA000020, [(0x100, 8)], 0x0, 0x1FFFFFFF, 0x0, 0x0, 0x0, []⟩,
  ⟨0xA000024, [(0x100, 8)], 0x1FFFFFFF, 0x1FFFFFFF, 0x0, 0x0, 0x0, []⟩,
  ⟨0xA000028, [(0x100, 8)], 0x0, 0x0, 0x0, 0x3, 0x0, []⟩,
  ⟨0xA00002C, [(0x100, 8)], 0x0, 0x0, 0x0, 0x0, 0x0, []⟩,
  ⟨0xA000030, [(0x100, 8)], 0x0, 0x0, 0x0, 0x0, 0x0, []⟩,
  ⟨0xA000040, [(0x100, 8), (0x4, 16)], 0x0, 0x0, 0x0, 0x0, 0x0, []⟩,
  ⟨0xA000080, [(0x100, 8)], 0x0, 0x0, 0x0, 0xFFFFFFFF, 0x0, []⟩,
  ⟨0xA000084, [(0x100, 8)], 0x0, 0x0, 0x0, 0xFFFFFFFF, 0x0, []⟩,
  ⟨0xA000088, [(0x100, 8)], 0x0, 0x0, 0x0, 0xFFFFFFFF, 0x0, []⟩,
  ⟨0xA00008C, [(0x100, 8)], 0x0, 0x0, 0x0, 0xFFFFFFFF, 0x0, []⟩,
  ⟨0xA000090, [(0x100, 8)], 0x0, 0x0, 0x0, 0xFFFFFFFF, 0x0, []⟩,
  ⟨0xA000094, [(0x100, 8)], 0x0, 0x0, 0x0, 0xFFFFFFFF, 0x0, []⟩,
  ⟨0xA090000, [(0x4, 256)], 0x140000, 0x1FFFFFF, 0x0, 0x0, 0x0, [(0, 7, 0, 95), (9, 5, 0, 29), (14, 3, 0, 5), (17, 8, 1, 255)]⟩,
  ⟨0xA091000, [(0x4, 256)], 0x80000000, 0x0, 0x0, 0x0, 0x0, []⟩,
  ⟨0xA010000, [(0x4000, 8), (0x80, 128)], 0x0, 0x3FF, 0x0, 0x0, 0x0, []⟩,
  ⟨0xA010004, [(0x4000, 8), (0x80, 128)], 0x0, 0x1FFFFFFF, 0x0, 0x0, 0x0, []⟩,
  ⟨0xA010008, [(0x4000, 8), (0x80, 128)], 0x1FFFFFFF, 0x1FFFFFFF, 0x0, 0x0, 0x0, []⟩,
  ⟨0xA01000C, [(0x4000, 8), (0x80, 128)], 0x0, 0x0, 0x0, 0x0, 0x3, []⟩,
  ⟨0xA010010, [(0x4000, 8), (0x80, 128)], 0x0, 0x0, 0x0, 0x3, 0x0, []⟩,
  ⟨0xA010014, [(0x4000, 8), (0x80, 128)], 0x0, 0x0, 0x0, 0x0, 0x0, []⟩,
  ⟨0xA010018, [(0x4000, 8), (0x80, 128)], 0x0, 0x0, 0x0, 0x0, 0x0, []⟩,
  ⟨0xA010020, [(0x4000, 8), (0x80, 128), (0x4, 16)], 0x0, 0xFFFFFFFF, 0x0, 0x0, 0x0, []⟩,
  ⟨0xA080000, [(0x10, 96)], 0x0, 0x37FF, 0x0, 0x0, 0x0, []⟩,
  ⟨0xA080004, [(0x10, 96)], 0x0, 0x0, 0x0, 0x0, 0x0, []⟩,
  ⟨0xA080008, [(0x10, 96)], 0x0, 0x0, 0x0, 0x0, 0x0, []⟩,
  ⟨0xA0A0000, [(0x20, 8)], 0x1905000, 0x1FFFFFF7, 0x0, 0x0, 0x0, [(11, 8, 1, 100), (19, 10, 10, 1000)]⟩,
  ⟨0xA0A0004, [(0x20, 8)], 0xFFFF0000, 0x0, 0x0, 0x0, 0x0, []⟩,
  ⟨0xA0A0008, [(0x20, 8)], 0x0, 0x0, 0x0, 0x0, 0x0, []⟩,
  ⟨0xA01001C, [(0x4000, 8), (0x80, 128)], 0x0, 0x0, 0x0, 0x0, 0x0, []⟩,
  ⟨0xA010060, [(0x4000, 8), (0x80, 128), (0x4, 8)], 0x0, 0x0, 0x0, 0x0, 0x0, []⟩,
  ⟨0xA08000C, [(0x10, 96)], 0x0, 0x0, 0x0, 0x0, 0x0, []⟩,
  ⟨0xA0A000C, [(0x20, 8), (0x4, 5)], 0x0, 0x0, 0x0, 0x0, 0x0, []⟩]
def rowsCAN : List RegRow := rowsCAN0

/-- Words of the PAI_ window. -/
def rowsPAI0 : List RegRow := [
  ⟨0xB000000, [], 0x0, 0x1, 0x0, 0x0, 0x0, []⟩,
  ⟨0xB000004, [], 0x0, 0x0, 0x0, 0x0, 0x0, []⟩,
  ⟨0xB000008, [], 0x0, 0x0, 0x3FF, 0x0, 0x0, []⟩,
  ⟨0xB00000C, [], 0x0, 0x0, 0x0, 0x0, 0x0, []⟩,
  ⟨0xB000010, [], 0x0, 0x0, 0x0, 0x0, 0x800003FF, [(0, 10, 10, 1000)]⟩,
  ⟨0xB000014, [], 0x0, 0x0, 0x0, 0x0, 0x0, []⟩,
  ⟨0xB000018, [], 0x0, 0x0, 0x0, 0x0, 0x0, []⟩,
  ⟨0xB00001C, [], 0x0, 0x0, 0x0, 0x0, 0x0, []⟩,
  ⟨0xB000020, [], 0x0, 0x0, 0x0, 0x0, 0x0, []⟩,
  ⟨0xB000024, [], 0x0, 0x0, 0x0, 0x0, 0x0, []⟩,
  ⟨0xB000028, [], 0xFFFFFFFF, 0x0, 0x0, 0x0, 0x0, []⟩,
  ⟨0xB00002C, [], 0x0, 0xFF000000, 0x0, 0x0, 0x0, []⟩,
  ⟨0xB000030, [], 0x0, 0x0, 0x0, 0xFFFFFFFF, 0x0, []⟩,
  ⟨0xB000034, [], 0x0, 0x0, 0x0, 0xFFFFFFFF, 0x0, []⟩,
  ⟨0xB000038, [], 0x0, 0x0, 0x0, 0xFFFFFFFF, 0x0, []⟩,
  ⟨0xB00003C, [], 0x0, 0x0, 0x0, 0xFFFFFFFF, 0x0, []⟩,
  ⟨0xB000200, [], 0x0, 0x0, 0x0, 0x0, 0x8000007F, [(1, 2, 0, 1)]⟩,
  ⟨0xB000204, [], 0x0, 0xFFFFFFFF, 0x0, 0x0, 0x0, []⟩,
  ⟨0xB000208, [], 0x0, 0xFFFFFFFF, 0x0, 0x0, 0x0, []⟩,
  ⟨0xB00020C, [], 0x0, 0x0, 0x0, 0x0, 0x0, []⟩,
  ⟨0xB000210, [(0x4, 16)], 0x0, 0x0, 0x0, 0x0, 0x0, []⟩,
  ⟨0xB800000, [], 0x31A, 0x3FF, 0x0, 0x0, 0x0, [(2, 7, 5, 100)]⟩,
  ⟨0xB800004, [], 0x0, 0x0, 0x0, 0x0, 0x0, []⟩,
  ⟨0xB800008, [], 0x0, 0x0, 0x7FF, 0x0, 0x0, []⟩,
  ⟨0xB80000C, [], 0x0, 0x0, 0x0, 0x0, 0x0, []⟩,
  ⟨0xB800010, [], 0x100FFFFFF, 0x0, 0x0, 0x0, 0x0, []⟩,
  ⟨0xB800014, [], 0xFA, 0x1FFF, 0x0, 0x0, 0x0, [(0, 13, 100, 5000)]⟩,
  ⟨0xB800018, [], 0xFFFFFFFF, 0xFFFFFFFF, 0x0, 0x0, 0x0, []⟩,
  ⟨0xB80001C, [], 0xFFFFFFFF, 0xFFFFFFFF, 0x0, 0x0, 0x0, []⟩,
  ⟨0xB800020, [], 0x0, 0x0, 0x0, 0x0, 0x0, []⟩,
  ⟨0xB800024, [], 0x10000000, 0x0, 0x0, 0x0, 0x0, []⟩,
  ⟨0xB800028, [], 0x0, 0x0, 0x0, 0x0, 0x3, []⟩,
  ⟨0xB80002C, [], 0x0, 0x0, 0x0, 0x0, 0x0, []⟩,
  ⟨0xB800030, [], 0x14, 0x3F, 0x0, 0x0, 0x0, [(0, 6, 1, 40)]⟩,
  ⟨0xB800034, [], 0x0, 0x0, 0x0, 0xFFFFFFFF, 0x0, []⟩,
  ⟨0xB800038, [], 0x0, 0x0, 0x0, 0xFFFFFFFF, 0x0, []⟩,
  ⟨0xB800040, [], 0xF1AD, 0xFFFFFFFF, 0x0, 0x0, 0x0, []⟩,
  ⟨0xB800044, [], 0x0, 0xFFFFFFFF, 0x0, 0x0, 0x0, []⟩,
  ⟨0xB800048, [], 0x0, 0xFFFFFFFF, 0x0, 0x0, 0x0, []⟩,
  ⟨0xB80004C, [], 0xFF050000, 0xFFFFFFFF, 0x0, 0x0, 0x0, []⟩]
def rowsPAI1 : List RegRow := [
  ⟨0xB800050, [], 0xEFFFAD01, 0xFFFFFFFF, 0x0, 0x0, 0x0, []⟩,
  ⟨0xB000100, [(0x10, 16)], 0x0, 0xFF0F, 0x0, 0x0, 0x0, []⟩,
  ⟨0xB000104, [(0x10, 16)], 0x0, 0x0, 0x0, 0x0, 0x0, []⟩,
  ⟨0xB000108, [(0x10, 16)], 0x0, 0x0, 0x0, 0x0, 0x0, []⟩,
  ⟨0xB810000, [(0x10, 64)], 0x0, 0x0, 0x0, 0x0, 0x0, []⟩,
  ⟨0xB810004, [(0x10, 64)], 0x0, 0x0, 0x0, 0x0, 0x0, []⟩,
  ⟨0xB810008, [(0x10, 64)], 0x0, 0x0, 0x0, 0x0, 0x0, []⟩,
  ⟨0xB00010C, [(0x10, 16)], 0x0, 0x0, 0x0, 0x0, 0x0, []⟩,
  ⟨0xB81000C, [(0x10, 64)], 0x0, 0x0, 0x0, 0x0, 0x0, []⟩]
def rowsPAI : List RegRow := rowsPAI0 ++ rowsPAI1

/-- Words of the SEC_ window. -/
def rowsSEC0 : List RegRow := [
  ⟨0xC000000, [], 0x0, 0x0, 0x0, 0x0, 0x0, []⟩,
  ⟨0xC000004, [], 0x0, 0x0, 0x3F, 0x0, 0x0, []⟩,
  ⟨0xC000008, [], 0x0, 0x0, 0x0, 0x0, 0x0, []⟩,
  ⟨0xC000010, [(0x4, 8)], 0x1FFFFFFFF, 0x0, 0x0, 0x0, 0x0, []⟩,
  ⟨0xC000030, [(0x4, 4)], 0x1FFFFFFFF, 0x0, 0x0, 0x0, 0x0, []⟩,
  ⟨0xC000040, [], 0x1000007FF, 0x0, 0x0, 0x0, 0x0, []⟩,
  ⟨0xC000044, [], 0x0, 0x0, 0x0, 0x0, 0x0, []⟩,
  ⟨0xC000048, [], 0x0, 0x0, 0x0, 0x0, 0x0, []⟩,
  ⟨0xC00004C, [], 0x0, 0x0, 0x0, 0x0, 0x0, []⟩,
  ⟨0xC000050, [], 0x0, 0x0, 0x0, 0x0, 0x0, []⟩,
  ⟨0xC000054, [], 0x0, 0x0, 0x0, 0x0, 0x0, []⟩,
  ⟨0xC000060, [], 0x0, 0x0, 0x0, 0x0, 0xFFFF01F7, [(4, 2, 0, 2)]⟩,
  ⟨0xC000064, [], 0x0, 0x0, 0x0, 0x0, 0x0, []⟩,
  ⟨0xC000070, [], 0x0, 0x0, 0x0, 0xFFFFFFFF, 0x0, []⟩,
  ⟨0xC000074, [], 0x0, 0x0, 0x0, 0xFFFFFFFF, 0x0, []⟩,
  ⟨0xC000078, [], 0x0, 0x0, 0x0, 0xFFFFFFFF, 0x0, []⟩,
  ⟨0xC040000, [(0x4, 1447)], 0x1FFFFFFFF, 0x0, 0x0, 0x0, 0x0, []⟩,
  ⟨0xC000100, [(0x10, 3)], 0x1000001FF, 0x0, 0x0, 0x0, 0x0, []⟩,
  ⟨0xC000104, [(0x10, 3)], 0x1007FFF7F, 0x0, 0x0, 0x0, 0x0, []⟩,
  ⟨0xC000108, [(0x10, 3)], 0x1FFFFFFFF, 0x0, 0x0, 0x0, 0x0, []⟩,
  ⟨0xC00010C, [(0x10, 3)], 0x1FFFFFFFF, 0x0, 0x0, 0x0, 0x0, []⟩,
  ⟨0xC010000, [(0x80, 64)], 0x0, 0x8000007F, 0x0, 0x0, 0x0, []⟩,
  ⟨0xC010004, [(0x80, 64)], 0x0, 0xFFFFFFFF, 0x0, 0x0, 0x0, []⟩,
  ⟨0xC010008, [(0x80, 64), (0x4, 14)], 0x0, 0xFFFFFFFF, 0x0, 0x0, 0x0, []⟩,
  ⟨0xC020000, [(0x80, 16)], 0x0, 0x80000000, 0x0, 0x0, 0x0, []⟩,
  ⟨0xC020008, [(0x80, 16), (0x4, 14)], 0x0, 0xFFFFFFFF, 0x0, 0x0, 0x0, []⟩,
  ⟨0xC030000, [(0x40, 128)], 0x0, 0x80000000, 0x0, 0x0, 0x0, []⟩,
  ⟨0xC030004, [(0x40, 128), (0x4, 8)], 0x0, 0xFFFFFFFF, 0x0, 0x0, 0x0, []⟩,
  ⟨0xC010040, [(0x80, 64), (0x4, 16)], 0x0, 0x0, 0x0, 0x0, 0x0, []⟩,
  ⟨0xC020004, [(0x80, 16)], 0x0, 0x0, 0x0, 0x0, 0x0, []⟩,
  ⟨0xC020040, [(0x80, 16), (0x4, 16)], 0x0, 0x0, 0x0, 0x0, 0x0, []⟩,
  ⟨0xC030024, [(0x40, 128), (0x4, 7)], 0x0, 0x0, 0x0, 0x0, 0x0, []⟩]
def rowsSEC : List RegRow := rowsSEC0

/-- Words of the FRN_ window. -/
def rowsFRN0 : List RegRow := [
  ⟨0xD000000, [], 0x3, 0x3, 0x0, 0x0, 0x0, []⟩,
  ⟨0xD000004, [], 0x0, 0x0, 0x0, 0x0, 0x0, []⟩,
  ⟨0xD000008, [], 0x0, 0x0, 0x3F, 0x0, 0x0, []⟩,
  ⟨0xD00000C, [], 0x0, 0x0, 0x0, 0x0, 0x0, []⟩,
  ⟨0xD000010, [], 0x0, 0x0, 0x0, 0x0, 0x0, []⟩,
  ⟨0xD000014, [], 0x0, 0x0, 0x0, 0x0, 0x0, []⟩,
  ⟨0xD000018, [], 0x0, 0x0, 0x0, 0x0, 0x0, []⟩,
  ⟨0xD00001C, [], 0x0, 0x0, 0x0, 0x0, 0x0, []⟩,
  ⟨0xD000020, [], 0x0, 0x0, 0x0, 0x0, 0x0, []⟩,
  ⟨0xD000024, [], 0x0, 0x0, 0x0, 0x0, 0x0, []⟩,
  ⟨0xD000028, [], 0x0, 0x0, 0x0, 0x0, 0x0, []⟩,
  ⟨0xD00002C, [], 0x0, 0x0, 0x0, 0x0, 0x0, []⟩,
  ⟨0xD000030, [], 0x0, 0x0, 0x0, 0x0, 0xFFFF0007, [(0, 3, 1, 7), (16, 16, 49642, 49642)]⟩,
  ⟨0xD000034, [], 0x0, 0x0, 0x0, 0xFFFFFFFF, 0x0, []⟩,
  ⟨0xD000038, [], 0x0, 0x0, 0x0, 0x0, 0x0, []⟩,
  ⟨0xD000040, [], 0x0, 0x0, 0x0, 0xFFFFFFFF, 0x0, []⟩,
  ⟨0xD000044, [], 0x0, 0x0, 0x0, 0xFFFFFFFF, 0x0, []⟩,
  ⟨0xD000048, [], 0x0, 0x0, 0x0, 0xFFFFFFFF, 0x0, []⟩,
  ⟨0xD00004C, [], 0x0, 0x0, 0x0, 0xFFFFFFFF, 0x0, []⟩,
  ⟨0xD031000, [(0x40, 8), (0x4, 16)], 0x0, 0x0, 0x0, 0x0, 0x0, []⟩,
  ⟨0xD040000, [(0x200, 8), (0x4, 128)], 0x0, 0x0, 0x0, 0x0, 0x0, []⟩,
  ⟨0xD010000, [(0x10, 1024)], 0x400A, 0x3FFFFFF, 0x0, 0x0, 0x0, [(0, 10, 0, 1000), (10, 8, 1, 255)]⟩,
  ⟨0xD010004, [(0x10, 1024)], 0x10, 0x0, 0x0, 0x0, 0x0, []⟩,
  ⟨0xD010008, [(0x10, 1024)], 0x0, 0x0, 0x0, 0xFFFFFFFF, 0x0, []⟩,
  ⟨0xD020000, [(0x400, 32)], 0x0, 0xFF, 0x0, 0x0, 0x0, [(0, 8, 0, 128)]⟩,
  ⟨0xD020200, [(0x400, 32), (0x4, 128)], 0x0, 0xFFFFFFFF, 0x0, 0x0, 0x0, []⟩,
  ⟨0xD030000, [(0x20, 8)], 0x1, 0x3, 0x0, 0x0, 0x4, [(0, 2, 0, 2)]⟩,
  ⟨0xD030004, [(0x20, 8)], 0x0, 0xFFFFFFFF, 0x0, 0x0, 0x0, []⟩,
  ⟨0xD030008, [(0x20, 8)], 0x0, 0xFFFFFFFF, 0x0, 0x0, 0x0, []⟩,
  ⟨0xD03000C, [(0x20, 8)], 0x0, 0x0, 0x0, 0x0, 0x0, []⟩,
  ⟨0xD050000, [(0x40, 4096)], 0x0, 0x0, 0x0, 0x0, 0x0, []⟩,
  ⟨0xD050004, [(0x40, 4096)], 0x0, 0x0, 0x0, 0x0, 0x0, []⟩,
  ⟨0xD050008, [(0x40, 4096)], 0x0, 0x0, 0x0, 0x0, 0x0, []⟩,
  ⟨0xD05000C, [(0x40, 4096)], 0x0, 0x0, 0x0, 0x0, 0x0, []⟩,
  ⟨0xD050010, [(0x40, 4096)], 0x0, 0x0, 0x0, 0x0, 0x0, []⟩,
  ⟨0xD050014, [(0x40, 4096)], 0x0, 0x0, 0x0, 0x0, 0x0, []⟩,
  ⟨0xD050018, [(0x40, 4096)], 0x0, 0x0, 0x0, 0x0, 0x0, []⟩,
  ⟨0xD05001C, [(0x40, 4096)], 0x0, 0x0, 0x0, 0x0, 0x0, []⟩,
  ⟨0xD050020, [(0x40, 4096)], 0x0, 0x0, 0x0, 0x0, 0x0, []⟩,
  ⟨0xD050024, [(0x40, 4096)], 0xFFFFFFFF, 0x0, 0x0, 0x0, 0x0, []⟩]
def rowsFRN1 : List RegRow := [
  ⟨0xD01000C, [(0x10, 1024)], 0x0, 0x0, 0x0, 0x0, 0x0, []⟩,
  ⟨0xD020004, [(0x400, 32), (0x4, 127)], 0x0, 0x0, 0x0, 0x0, 0x0, []⟩,
  ⟨0xD030010, [(0x20, 8), (0x4, 4)], 0x0, 0x0, 0x0, 0x0, 0x0, []⟩,
  ⟨0xD050028, [(0x40, 4096), (0x4, 6)], 0x0, 0x0, 0x0, 0x0, 0x0, []⟩]
def rowsFRN : List RegRow := rowsFRN0 ++ rowsFRN1

/-- Words of the DIA_ window. -/
def rowsDIA0 : List RegRow := [
  ⟨0xE000000, [], 0x1, 0x7, 0x0, 0x0, 0x0, []⟩,
  ⟨0xE000004, [], 0x0, 0x0, 0x0, 0x0, 0x0, []⟩,
  ⟨0xE000008, [], 0x0, 0x0, 0x1FF, 0x0, 0x0, []⟩,
  ⟨0xE00000C, [], 0x0, 0x0, 0x0, 0x0, 0x0, []⟩,
  ⟨0xE000010, [], 0xA0C18, 0xFFFFFF, 0x0, 0x0, 0x0, [(0, 8, 1, 168), (8, 8, 1, 168), (16, 8, 1, 255)]⟩,
  ⟨0xE000014, [], 0x0, 0x3F3F, 0x0, 0x0, 0x80000000, [(0, 4, 0, 7)]⟩,
  ⟨0xE000018, [], 0x101FFFFFF, 0x0, 0x0, 0x0, 0x0, []⟩,
  ⟨0xE00001C, [], 0x0, 0x0, 0x0, 0xFFFFFFFF, 0x0, []⟩,
  ⟨0xE000020, [], 0x0, 0x0, 0x0, 0xFFFFFFFF, 0x0, []⟩,
  ⟨0xE000024, [], 0x0, 0x0, 0x0, 0xFFFFFFFF, 0x0, []⟩,
  ⟨0xE000028, [], 0x0, 0x0, 0x0, 0x0, 0x0, []⟩,
  ⟨0xE00002C, [], 0x0, 0x0, 0x0, 0x0, 0x0, []⟩,
  ⟨0xE000030, [], 0x0, 0xFFFFFFFF, 0x0, 0x0, 0x0, []⟩,
  ⟨0xE000034, [], 0x0, 0xFFFFFFFF, 0x0, 0x0, 0x0, []⟩,
  ⟨0xE000038, [], 0x0, 0x0, 0x0, 0x0, 0x0, []⟩,
  ⟨0xE000100, [(0x4, 64)], 0x0, 0x0, 0x0, 0x0, 0x0, []⟩,
  ⟨0xE010000, [(0x4, 704)], 0x1FFFFFFFF, 0x0, 0x0, 0x0, 0x0, []⟩]
def rowsDIA : List RegRow := rowsDIA0

/-- The event counters and snapshot ID that every block window holds (R565). -/
def rowsCTR : List RegRow := [
  ⟨0x7F0000, [(0x1000000, 15), (0x10, 32)], 0x0, 0xFFFF073F, 0x0, 0x0, 0x0, [(8, 2, 0, 2)]⟩,
  ⟨0x7F0004, [(0x1000000, 15), (0x10, 32)], 0x0, 0xFFFFFFFF, 0x0, 0x0, 0x0, []⟩,
  ⟨0x7F0008, [(0x1000000, 15), (0x10, 32)], 0x0, 0x0, 0x0, 0x0, 0x0, []⟩,
  ⟨0x7F0200, [(0x1000000, 15)], 0x0, 0x0, 0x0, 0x0, 0x0, []⟩]

/-- The words of the window with the given number (Table 9 of chapter 01). -/
def windowRows : Nat → List RegRow
  | 0 => rowsSYS
  | 1 => rowsTIM
  | 2 => rowsSTM
  | 3 => rowsIFD
  | 4 => rowsTBL
  | 5 => rowsPLN
  | 6 => rowsLOP
  | 7 => rowsACT
  | 8 => rowsPRT
  | 9 => rowsNET
  | 10 => rowsCAN
  | 11 => rowsPAI
  | 12 => rowsSEC
  | 13 => rowsFRN
  | 14 => rowsDIA
  | _ => []

end Sys2Proof.Machine
end

