-- ==== Sys2Proof/Machine/Ops.lean ====
section
/-! DEFINITION. The named operations over the state: sparse tables, the register file, register fields, counts and event
bits, what the module sends, and the raising of an event with its Firn record (R551, R558, R565). -/

namespace Sys2Proof.Machine

/-- The entry of a sparse table at a key, or the default. -/
def Tab.at (d : α) : Tab α → Nat → α
  | [], _ => d
  | (k, v) :: t, n => if k = n then v else Tab.at d t n

/-- Whether a sparse table has an entry at a key. -/
def Tab.has (t : Tab α) (n : Nat) : Bool := t.any (fun p => p.1 == n)

/-- The entry of a sparse table at a key, if there is one. -/
def Tab.find (t : Tab α) (n : Nat) : Option α := (t.find? (fun p => p.1 == n)).map (·.2)

/-- A sparse table with an entry set: keys stay rising. -/
def Tab.put (n : Nat) (x : α) : Tab α → Tab α
  | [] => [(n, x)]
  | (k, v) :: t => if n < k then (n, x) :: (k, v) :: t else if n = k then (n, x) :: t else (k, v) :: Tab.put n x t

/-- A sparse table without the entry at a key. -/
def Tab.del (n : Nat) (t : Tab α) : Tab α := t.filter (fun p => p.1 != n)

/-! ### The register map -/

/-- Whether an offset falls on a word of an array with the given (stride, count) dimensions, greatest stride first. -/
def inDims : List (Nat × Nat) → Nat → Bool
  | [], o => o == 0
  | (st, c) :: t, o => decide (o / st < c) && inDims t (o % st)

/-- Whether a row of the register map holds an address. -/
def rowCovers (a : Nat) (r : RegRow) : Bool := decide (r.base ≤ a) && inDims r.dims (a - r.base)

/-- The row of the register map that holds an address, none for an unimplemented one (R53). -/
def rowAt (a : Nat) : Option RegRow :=
  ((windowRows (a / 0x1000000)).find? (rowCovers a)).or (rowsCTR.find? (rowCovers a))

/-- The codes whose CODE_CFG.FIRST resets to 1 (R556): every code of PRT_, PAI_ and SEC_, LOP_EVT bits 0 to 2, BOOT,
STATE, CLEAR and LOST. -/
def firstCode (c : Nat) : Bool :=
  c / 64 == 8 || c / 64 == 11 || c / 64 == 12 || c == 0x180 || c == 0x181 || c == 0x182 ||
  c == 0x3C0 || c == 0x3C1 || c == 0x3C3 || c == 0x3C5

/-- The reset word of CODE_CFG for a code (R556, R559, Table 10 of chapter 14): RATE 10, or 0 for PRT_ and module-wide
codes, BURST 16 and FIRST by R556. -/
def codeReset (c : Nat) : Nat :=
  (if c / 64 = 8 ∨ 0x3C0 ≤ c then 0 else 10) + 16 * 2 ^ 10 + (if firstCode c then 2 ^ 18 else 0)

/-- The update budget of the variant in units of 10 per second (STM_BUDGET, Table 2 of chapter 00). -/
def budgetWord : Nat :=
  match Config.variant with
  | 1 => 393216000
  | 2 => 262144000
  | _ => 524288000

/-- The allocatable capacity of the variant in MiB at reset (TBL_CAP). -/
def capacityMiB : Nat :=
  match Config.variant with
  | 1 => 576000
  | 2 => 384000
  | _ => 768000

/-- The table stacks of the variant (R6). -/
def stackCount : Nat :=
  match Config.variant with
  | 1 => 9
  | 2 => 6
  | _ => 12

/-- What an unlisted register word reads: its reset value from the register map (R13), the F words from fuses. A stack that the
variant lacks reads ABSENT with no space free (R6, Table 3 of chapter 05). -/
def resetWord (a : Nat) : Word :=
  match rowAt a with
  | none => 0
  | some r =>
    if r.base = Reg.CODE_CFG 0 then BitVec.ofNat 32 (codeReset ((a - r.base) / 16))
    else if a = Reg.LIM_CFG 0 then 0x0A8FE000
    else if r.reset < 2 ^ 32 then BitVec.ofNat 32 r.reset
    else if a = Reg.STM_BUDGET then BitVec.ofNat 32 budgetWord
    else if a = Reg.TBL_CAP ∨ a = Reg.TBL_FREE then BitVec.ofNat 32 capacityMiB
    else if a = Reg.SYS_LVL then 0x0101
    else if a = Reg.SYS_ID then BitVec.ofNat 32 (Config.variant + 256 * (Config.fuseWord a).toNat % 65536)
    else if (r.base = Reg.STK_STAT 0 ∨ r.base = Reg.STK_FREE 0) ∧ stackCount ≤ (a - r.base) / 16 then 0
    else Config.fuseWord a &&& BitVec.ofNat 32 (r.reset - 2 ^ 32)

/-- The register file's word at an address. -/
def regGet (rs : List (Nat × Word)) (a : Nat) : Word :=
  match rs with
  | [] => resetWord a
  | (k, w) :: t => if k = a then w else regGet t a

/-- The register file with one word set: other entries keep their order, and a word equal to its reset value is not
listed. -/
def regInsert (a : Nat) (w : Word) : List (Nat × Word) → List (Nat × Word)
  | [] => [(a, w)]
  | (k, v) :: t => if a < k then (a, w) :: (k, v) :: t else (k, v) :: regInsert a w t

/-- Set a word of the register file. -/
def regPut (rs : List (Nat × Word)) (a : Nat) (w : Word) : List (Nat × Word) :=
  let rest := rs.filter (fun p => p.1 != a)
  if w = resetWord a then rest else regInsert a w rest

/-- The canonical form of the register file: addresses strictly rising, no entry equal to its reset value. -/
def regsWf : List (Nat × Word) → Bool
  | [] => true
  | (k, w) :: t => decide (w ≠ resetWord k) && t.all (fun p => decide (k < p.1)) && regsWf t

/-- The word of a register as the machine holds it. -/
def State.rd (s : State) (a : Nat) : Word := regGet s.regs a

/-- The state with a register word set by hardware. -/
def State.wr (s : State) (a : Nat) (w : Word) : State := { s with regs := regPut s.regs a w }

/-- The value of a register field. -/
def State.fld (s : State) (f : Fld) : Nat := fieldOf (s.rd f.addr) f.lo f.width

/-- The state with a register field set by hardware. -/
def State.set (s : State) (f : Fld) (v : Nat) : State := s.wr f.addr (withField (s.rd f.addr) f.lo f.width v)

/-- The state with a one-bit field set to a Boolean. -/
def State.setB (s : State) (f : Fld) (b : Bool) : State := s.set f (if b then 1 else 0)

/-- Whether a one-bit field reads 1. -/
def State.on (s : State) (f : Fld) : Bool := s.fld f == 1

/-- The state with `n` added to a saturating count register. -/
def State.countBy (s : State) (a n : Nat) : State := s.wr a (satCount (s.rd a) n)

/-- The state with 1 added to a saturating count register. -/
def State.count (s : State) (a : Nat) : State := s.countBy a 1

/-- The state with 1 added to a field that saturates at its greatest value. -/
def State.bump (s : State) (f : Fld) : State := s.set f (min (s.fld f + 1) (2 ^ f.width - 1))

/-- The state with 1 added to a field that wraps. -/
def State.wrap (s : State) (f : Fld) : State := s.set f (s.fld f + 1)

/-- The state with one more frame sent. -/
def State.send (s : State) (o : Out) : State := { s with out := o :: s.out }

/-- A fresh free value, with the state that has used it up (log entry 3). -/
def State.free (s : State) : Nat × State := (Config.freeValue s.fresh, { s with fresh := s.fresh + 1 })

/-! ### States and dies -/

/-- The operating state's code (R43). -/
def State.opState (s : State) : Nat := s.fld Fd.SYS_STATE_STATE

/-- Whether the operating state lies in a state bitmap (R44). -/
def State.inMap (s : State) (m : Nat) : Bool := bitOf m s.opState

/-- Whether the main die is declared absent (R38). -/
def State.mainAbsent (s : State) : Bool := s.on Fd.SYS_STATE_MAIN_ABSENT

/-- Whether the main die's engines work: it is present, or its firmware runs again and its absence has not ended yet (R38, R608). -/
def State.mainRuns (s : State) : Bool := !s.mainAbsent || s.sys.mainUp

/-- Whether the port die is reported absent (R388). -/
def State.portAbsent (s : State) : Bool := s.on Fd.PRT_STAT_PORT_ABSENT

/-- Whether the module's role is active (PAI_STAT.ROLE, R474). -/
def State.isActive (s : State) : Bool := s.fld Fd.PAI_STAT_ROLE == 1

/-- Whether one of Serac's lanes is SELECTED and not in FAULT: with both lanes lost the module stops driving (R39, R266). -/
def State.laneDrives (s : State) : Bool :=
  s.fld (if s.on Fd.LOP_STAT_SEL then Fd.LOP_STAT_B_STATE else Fd.LOP_STAT_A_STATE) == 0

/-- Whether the module drives its outputs: every state that Table 8 of chapter 01 marks, in BOOT only with the active
role (R43), and while a lane is selected (R39). -/
def State.drives (s : State) : Bool :=
  let c := s.opState
  (decide (3 ≤ c) || (c == 1 && s.isActive)) && s.laneDrives

/-! ### Events -/

/-- The number n of an event bit within its block's codes (R551): PAI_FED_EVT bits follow from 16, ACT_HWEVT bits from 24. -/
def eventNumber (f : Fld) : Nat :=
  if f.addr = Reg.PAI_FED_EVT then 16 + f.lo else if f.addr = Reg.ACT_HWEVT then 24 + f.lo else f.lo

/-- The event code of a bit of a block's event register (R551). -/
def eventCode (f : Fld) : Nat := 64 * (f.addr / 0x1000000) + eventNumber f

/-- The die that raises a code (SRC of R549) by the block's housing (Table 9 of chapter 01): 0 Serac, 1 port die, 2 main
die. Module-wide codes are Serac's, but for MARK and PAIR_RESOLVED of the main die and QUARANTINE of the port die (DEDUCED, log
entry 95). -/
def codeSource (c : Nat) : Nat :=
  match c / 64 with
  | 15 => if c = 0x3C2 ∨ c = 0x3C7 then 2 else if c = 0x3C8 then 1 else 0
  | 6 | 7 | 8 | 10 | 13 => 0
  | 11 => if c % 64 % 32 < 16 then 0 else 2
  | 1 | 9 => 1
  | _ => 2

/-- The raiser's place in the order of R553 within one tick. -/
def codeClass (c : Nat) : Nat :=
  match c / 64 with
  | 8 => 0
  | 6 => 1
  | 7 => 2
  | 10 => 3
  | 11 => if c % 64 % 32 < 16 then 4 else 7
  | 13 => 5
  | 15 => if c = 0x3C2 ∨ c = 0x3C7 then 7 else if c = 0x3C8 then 6 else 5
  | 1 | 9 => 6
  | _ => 7

/-- The bucket of a code brought up to the present tick (R558): credit in 1/100,000 token, full at reset, gaining RATE per
tick below BURST; RATE 0 is unlimited and stays full. -/
def State.credit (s : State) (c : Nat) : Nat :=
  let burst := s.fld (Fd.CODE_CFG_BURST c) * 100000
  match s.firn.buckets.find c with
  | none => burst
  | some (cr, t) => if s.fld (Fd.CODE_CFG_RATE c) = 0 then burst else min burst (cr + s.fld (Fd.CODE_CFG_RATE c) * (s.clk.now - t))

/-- The state with a code's bucket set, as of the present tick. -/
def State.setCredit (s : State) (c cr : Nat) : State :=
  { s with firn := { s.firn with buckets := s.firn.buckets.put c (cr, s.clk.now) } }

/-- Whether an occurrence of a code finds a whole token (R558); while occurrences are pending, the code's SUMMARY record takes the
first one. SUMMARY and LOST are never limited (R559). -/
def State.hasToken (s : State) (c : Nat) : Bool :=
  s.fld (Fd.CODE_CFG_RATE c) == 0 || decide ((if s.fld (Fd.CODE_STAT_PEND c) = 0 then 100000 else 200000) ≤ s.credit c) || c == 0x3C4 || c == 0x3C5

/-- The state after an occurrence has taken its token. -/
def State.takeToken (s : State) (c : Nat) : State :=
  if s.fld (Fd.CODE_CFG_RATE c) = 0 then s else s.setCredit c (s.credit c - 100000)

/-- An empty Firn record of a code, for the fields filled at writing. -/
def FirnRec.make (code obj : Nat) (args : List Nat) (tainted : Bool) : FirnRec :=
  { seq := 0, code := code, src := codeSource code, cls := codeClass code, first := false, tainted := tainted,
    standby := false, trig := false, snapId := 0, state := 0, ret := 15, moduleId := 0, slot := 0, obj := obj,
    args := args, snap := none }

/-- The event counters of a block that count this occurrence (R565): MODE EVENTS, the event's number, and the object
filter. Counters at their reset value are OFF, so only listed words are looked at. -/
def countersFor (s : State) (code obj : Nat) : List Nat :=
  let base := Reg.CTR_SEL (code / 64) 0
  (s.regs.filter (fun p => decide (base ≤ p.1) && decide (p.1 < base + 0x200) && p.1 % 16 == 0 &&
      fieldOf p.2 0 6 == code % 64 && fieldOf p.2 8 2 == 1 &&
      (fieldOf p.2 10 1 == 0 || fieldOf p.2 16 16 == obj % 65536))).map (fun p => (p.1 - base) / 16)

/-- An occurrence of an event code: it is counted (R566), and its record is raised or suppressed by the code's bucket (R558). The
record waits for Firn's next write window. The second component says whether this is the first suppression since the code's last
SUMMARY. -/
def State.occurOnce (s : State) (code obj : Nat) (args : List Nat) (tainted : Bool) : State × Bool :=
  let s := (countersFor s code obj).foldl (fun s n => s.count (Reg.CTR_VAL (code / 64) n)) s
  let s := s.count (Reg.CODE_CNT code)
  if s.hasToken code then
    let s := s.takeToken code
    ({ s with firn := { s.firn with fresh := s.firn.fresh ++ [FirnRec.make code obj args tainted] } }, false)
  else
    let first := s.fld (Fd.CODE_STAT_PEND code) == 0
    ((s.bump (Fd.CODE_STAT_PEND code)).count Reg.FRN_CNT_SUPP, first)

/-- FRN_EVT.SUPPRESSED is set, an event of its own (R551, R558). -/
def State.markSuppressed (s : State) : State × Bool :=
  let s := s.set Fd.FRN_EVT_SUPPRESSED 1
  (s.wr Reg.FRN_EVT_SEQ (seqAfter (s.rd Reg.FRN_EVT_SEQ))).occurOnce 0x342 0xFFFFFFFF [] false

/-- An occurrence of an event code, with the event of its first suppression (R558). The code of that event may be suppressed in turn, for
the first time once; the next occurrence finds its PEND set. -/
def State.occur (s : State) (code obj : Nat) (args : List Nat) (tainted : Bool := false) : State :=
  let r := s.occurOnce code obj args tainted
  if r.2 then
    let r := r.1.markSuppressed
    if r.2 then r.1.markSuppressed.1 else r.1
  else r.1

/-- Hardware sets an event bit: the bit reads 1, the companion _SEQ advances once (R55, R56), and the event is raised with
its object and arguments (R551). -/
def State.raise (s : State) (f : Fld) (obj : Nat) (args : List Nat) (tainted : Bool := false) : State :=
  let s := s.wr f.addr (w1cAfter (s.rd f.addr) 0 (BitVec.ofNat 32 (2 ^ f.lo)))
  let s := s.wr (f.addr + 4) (seqAfter (s.rd (f.addr + 4)))
  s.occur (eventCode f) obj args tainted

/-- Hardware sets an event bit without a record of its own. -/
def State.mark (s : State) (f : Fld) : State :=
  let s := s.wr f.addr (w1cAfter (s.rd f.addr) 0 (BitVec.ofNat 32 (2 ^ f.lo)))
  s.wr (f.addr + 4) (seqAfter (s.rd (f.addr + 4)))

/-- The end of the condition whose start sets an event bit: code n + 32 (R551). -/
def State.raiseEnd (s : State) (f : Fld) (obj : Nat) (args : List Nat) : State := s.occur (eventCode f + 32) obj args

/-- No object named (R552). -/
def noObj : Nat := 0xFFFFFFFF

/-! ### Sessions and notices -/

/-- An empty session slot. -/
def Session.none : Session :=
  { prio := [], subs := 0, rxHigh := 0, rxWin := 0, txNext := 1, lastRx := 0, lastA := Option.none, lastB := Option.none,
    openedAt := 0, notices := 0, keyIn := [], keyOut := [], keyConf := [], transcript := [], mbox := [] }

/-- An empty mailbox. -/
def Mbox.none : Mbox := ⟨Option.none, Option.none, Option.none, []⟩

/-- A session slot's hidden part. -/
def State.sess (s : State) (k : Nat) : Session := Tab.at Session.none s.zh.sess k

/-- The state with a session slot's hidden part set. -/
def State.setSess (s : State) (k : Nat) (x : Session) : State := { s with zh := { s.zh with sess := s.zh.sess.put k x } }

/-- Whether a session slot is OPEN (NET_SESSs). -/
def State.sessOpen (s : State) (k : Nat) : Bool := s.fld (Fd.SS_STAT_STATE k) == 2

/-- The session slots that are open, in order. -/
def State.openSlots (s : State) : List Nat := (List.range 8).filter s.sessOpen

/-- A notice to a session slot, with the next notice tag of that session (R436) and its next frame number (R405). -/
def State.notice (s : State) (k cls : Nat) (fields : List Nat) : State :=
  let x := s.sess k
  (s.setSess k { x with notices := x.notices + 1, txNext := x.txNext + 1 }).send (.notice k cls (x.notices + 1) x.txNext fields)

/-- A device request to a session slot (R437), with the session's next frame number (R405). -/
def State.sendRequest (s : State) (k cmd tag : Nat) (fields : List Nat) : State :=
  let x := s.sess k
  (s.setSess k { x with txNext := x.txNext + 1 }).send (.device k cmd tag x.txNext fields)

/-- A notice to every open session that has subscribed to a class (R436): class 0 STATE, 1 ALARM. -/
def State.noticeAll (s : State) (cls : Nat) (fields : List Nat) : State :=
  (s.openSlots.filter (fun k => bitOf (s.sess k).subs cls)).foldl (fun s k => s.notice k cls fields) s

/-- Whether a session's master holds a role bit (R409). -/
def State.hasRole (s : State) (k bit : Nat) : Bool := bitOf (s.fld ⟨Reg.SS_ROLES k, 0, 7⟩) bit

/-! ### The operating state -/

/-- The STATE record and notices of a change of operating state (R436, Table 2 of chapter 14). -/
def State.announce (s : State) (old cause : Nat) : State :=
  let s := s.occur 0x3C1 noObj [s.opState, old, s.fld Fd.SYS_STATE_RETURN, cause]
  s.noticeAll 0 [s.opState, old, s.fld Fd.SYS_STATE_RETURN, s.clk.sidx.toNat]

/-- A change to an operating state other than PROTECT and FULLCOOL: the return state reads none (R46), and an entry to RUN or TABLE
sets ISO_AUTO (R368). `cause` is 0 for an automatic change and 1 for a command. -/
def State.enter (s : State) (code cause : Nat) : State :=
  let old := s.opState
  if old = code then s else
    let s := if code = 4 ∨ code = 5 then s.set Fd.PRT_CTRL_ISO_AUTO 1 else s
    ((s.set Fd.SYS_STATE_STATE code).set Fd.SYS_STATE_RETURN 15).announce old cause

/-- Entry to PROTECT (7) or FULLCOOL (8): the state left is stored as the return state, unless it is one of these two,
whose return state is kept; FULLCOOL is not left for PROTECT (R46). -/
def State.enterProtective (s : State) (code cause : Nat) : State :=
  let old := s.opState
  if old = code ∨ (old = 8 ∧ code = 7) then s else
    let ret := if old = 7 ∨ old = 8 then s.fld Fd.SYS_STATE_RETURN else old
    ((s.set Fd.SYS_STATE_RETURN ret).set Fd.SYS_STATE_STATE code).announce old cause

/-- Where an exit to a return state leads (R46): TABLE when that state needs the main die and it is absent. The states
that need the main die are COMMISSION and RUN. -/
def State.returnTarget (s : State) : Nat :=
  let r := s.fld Fd.SYS_STATE_RETURN
  if (r = 3 ∨ r = 4) ∧ s.mainAbsent then 5 else r

/-- Whether a valid commissioning record is held (SYS_CREC_STAT.VALID, R51). -/
def State.recordValid (s : State) : Bool := s.on Fd.SYS_CREC_STAT_VALID

/-- Where an exit from MANUAL or MAINT leads (R43): RUN with the main die present and a valid record, COMMISSION with the
main die present and none, TABLE otherwise. -/
def State.leaveTarget (s : State) : Nat :=
  if s.mainAbsent then 5 else if s.recordValid then 4 else 3

/-- The exits of BOOT of an active module (Table 8 of chapter 01, R586): with a main die held by HOLD to TABLE, with a ready one to RUN
or COMMISSION. -/
def State.leaveBoot (s : State) : State :=
  if s.opState ≠ 1 ∨ ¬ s.isActive then s
  else if s.sys.hold then s.enter 5 0
  else if s.sys.mainReady then s.enter (if s.recordValid then 4 else 3) 0 else s

end Sys2Proof.Machine
end

