-- ==== Sys2Proof/Machine/IceMath.lean ====
section
/-! DEFINITION. Numbers inside Icefield (R148 to R153): exact sums and their fit to INT32, blocks and their exponents,
rounding, rows in 64-byte lines, and the conversion of elements to each buffer kind. -/

namespace Sys2Proof.Machine

/-- A number m × 2^e with the saturations met in forming it. -/
structure Num where
  m : Int
  e : Int
  sat : Nat
deriving DecidableEq, Repr

/-- s ÷ 2^k rounded to the nearest integer, ties to even (R150). -/
def rne (s : Int) (k : Nat) : Int :=
  let d : Int := 2 ^ k
  let q := s / d
  let r := s - q * d
  if 2 * r < d then q else if d < 2 * r then q + 1 else if q % 2 = 0 then q else q + 1

/-- The least k, from a start and within some steps, for which the rounded value lies in the INT32 range (R150). -/
def fitSteps : Nat → Int → Nat → Nat
  | 0, _, k => k
  | n + 1, s, k => if (rne s k).natAbs ≤ 2 ^ 31 - 1 then k else fitSteps n s (k + 1)

/-- fit32 of R150. -/
def fit32 (s e : Int) : Num :=
  let k := fitSteps (s.natAbs.log2 + 1) s 0
  if e + k > 127 then ⟨s.sign * (2 ^ 31 - 1), 127, 1⟩ else ⟨rne s k, e + k, 0⟩

/-- The exact sum of two numbers at the lower exponent. -/
def exactAdd (a ea b eb : Int) : Int × Int :=
  let lo := min ea eb
  (a * 2 ^ (ea - lo).toNat + b * 2 ^ (eb - lo).toNat, lo)

/-- align_add of R150. -/
def alignAdd (a b : Num) : Num :=
  let p := exactAdd a.m a.e b.m b.e
  let r := fit32 p.1 p.2
  { r with sat := r.sat + a.sat + b.sat }

/-- An empty accumulator (R150). -/
def Num.empty : Num := ⟨0, 127, 0⟩

/-- Whether one number is below another. -/
def Num.lt (a b : Num) : Bool :=
  let lo := min a.e b.e
  decide (a.m * 2 ^ (a.e - lo).toNat < b.m * 2 ^ (b.e - lo).toNat)

/-- The generator of R153: bits [63:48] for a frame, stage, logical tile and element. -/
def stochBits (seed frame stage ltile element : Nat) : Nat :=
  let c := frame % 2 ^ 24 * 2 ^ 40 + stage * 2 ^ 30 + ltile * 2 ^ 24 + element % 2 ^ 24
  let z := BitVec.ofNat 64 (seed + c * 0x9E3779B97F4A7C15)
  let z := (z ^^^ (z >>> 30)) * 0xBF58476D1CE4E5B9
  let z := (z ^^^ (z >>> 27)) * 0x94D049BB133111EB
  let z := z ^^^ (z >>> 31)
  (z >>> 48).toNat

/-- How a stage rounds (R153): to nearest even, or stochastically with the seed, frame, stage and logical tile. -/
inductive Rounding
  | nearest
  | stochastic (seed frame stage ltile : Nat)
deriving DecidableEq, Repr

/-- s ÷ 2^k rounded, for the element at a position (R153). -/
def Rounding.apply (r : Rounding) (s : Int) (k element : Nat) : Int :=
  match r with
  | .nearest => rne s k
  | .stochastic seed frame stage ltile => (s * 65536 + stochBits seed frame stage ltile element * 2 ^ k) / (65536 * 2 ^ k)

/-- The mantissa of a number at a block exponent. -/
def Num.mant (n : Num) (r : Rounding) (e : Int) (element : Nat) : Int :=
  if e ≤ n.e then n.m * 2 ^ (n.e - e).toNat else r.apply n.m (e - n.e).toNat element

/-- The largest mantissa of a buffer kind (Table 2 of chapter 04): 0 BF8, 1 BF16, 2 INT32. -/
def mantMax (kind : Nat) : Nat := match kind with | 0 => 127 | 1 => 32767 | _ => 2 ^ 31 - 1

/-- The elements of a block with their positions. -/
abbrev PosEls := List (Option Num × Nat)

/-- Whether every present element rounds within the range at an exponent (R152). -/
def fitsAt (kind : Nat) (r : Rounding) (els : PosEls) (e : Int) : Bool :=
  els.all (fun p => p.1.all (fun n => decide ((n.mant r e p.2).natAbs ≤ mantMax kind)))

/-- The smallest exponent from `e` upward at which every element fits, within some steps (R152). -/
def leastExp (kind : Nat) (r : Rounding) (els : PosEls) : Nat → Int → Option Int
  | 0, _ => none
  | n + 1, e => if fitsAt kind r els e then some e else leastExp kind r els n (e + 1)

/-- A block of a kind from its elements (R152), with the number of blocks saturated. An INT32 result row takes the largest
exponent among the accumulators of the block; elements that come from no accumulator take the smallest exponent that fits. A block with no
present element has exponent 0. -/
def toBlock (kind : Nat) (accs : Bool) (r : Rounding) (els : PosEls) : Blk × Nat :=
  let present := els.filterMap (·.1)
  match present with
  | [] => (⟨0, els.map (fun _ => none)⟩, 0)
  | n :: t =>
    if kind = 2 ∧ accs then
      let e := t.foldl (fun e x => max e x.e) n.e
      let e := max e (-128)
      (⟨e, els.map (fun p => p.1.map (fun x => x.mant r e p.2))⟩, 0)
    else
      match leastExp kind r els 256 (-128) with
      | some e => (⟨e, els.map (fun p => p.1.map (fun x => x.mant r e p.2))⟩, 0)
      | none => (⟨127, els.map (fun p => p.1.map (fun x =>
          clampInt (-(mantMax kind : Int)) (mantMax kind) (x.mant r 127 p.2)))⟩, 1)

/-- The elements of a row of blocks as numbers. -/
def rowNums (row : List Blk) : List (Option Num) :=
  row.flatMap (fun b => b.els.map (fun m => m.map (fun m => ⟨m, b.exp, 0⟩)))

/-- A list cut or filled with absent elements to a length. -/
def padTo (n : Nat) (l : List (Option α)) : List (Option α) := (l.take n) ++ List.replicate (n - l.length) none

/-- A row of `blocks` blocks from its elements; `base` is the position of its first element. The saturations of the
elements and of the blocks are counted. -/
def toRow (kind : Nat) (accs : Bool) (r : Rounding) (blocks base : Nat) (els : List (Option Num)) : List Blk × Nat :=
  let els := padTo (32 * blocks) els
  let bs := (List.range blocks).map (fun b =>
    toBlock kind accs r (((els.drop (32 * b)).take 32).zip (List.range' (base + 32 * b) 32)))
  (bs.map (·.1), (bs.map (·.2)).foldl (· + ·) 0 + (els.filterMap (·.map (·.sat))).foldl (· + ·) 0)

/-! ### Rows in lines -/

/-- The lines of a row of B blocks (Table 2 of chapter 04). -/
def linesOf (kind blocks : Nat) : Nat :=
  match kind with | 0 => 1 + (blocks + 1) / 2 | 1 => 1 + blocks | 2 => 1 + 2 * blocks | _ => 2 * blocks

/-- The bytes of a mantissa of a kind. -/
def mantBytes (kind : Nat) : Nat := match kind with | 0 => 1 | 1 => 2 | _ => 4

/-- `n` bytes of a value, least significant first. -/
def leBytes : Nat → Nat → List Byte
  | 0, _ => []
  | n + 1, v => BitVec.ofNat 8 v :: leBytes n (v / 256)

/-- The little-endian value of a list of bytes. -/
def leNat : List Byte → Nat
  | [] => 0
  | b :: t => b.toNat + 256 * leNat t

/-- The little-endian value of `n` bytes from offset `o`. -/
def leAt (bs : List Byte) (o n : Nat) : Nat := leNat ((bs.drop o).take n)

/-- The absent code of a kind (Table 2). -/
def absentCode (kind : Nat) : Nat := match kind with | 0 => 0x80 | 1 => 0x8000 | 2 => 0x80000000 | _ => 0xFFFFFFFF

/-- A line all of whose elements hold the absent code (R191). -/
def absentLine (kind : Nat) : List Byte :=
  (List.replicate (64 / mantBytes kind) (leBytes (mantBytes kind) (absentCode kind))).flatten

/-- The mantissas in a byte string. -/
def readMants (kind : Nat) : Nat → List Byte → List (Option Int)
  | 0, _ => []
  | n + 1, bs =>
    let k := mantBytes kind
    let v := leAt bs 0 k
    (if v = absentCode kind then none else some (signedOf (8 * k) v)) :: readMants kind n (bs.drop k)

/-- A row of `blocks` blocks read from its lines, exponent line first (R148). -/
def readRow (kind blocks : Nat) (lines : List (List Byte)) : List Blk :=
  let exps := lines.headD []
  let body := (lines.drop 1).flatten
  (List.range blocks).map (fun b =>
    ⟨signedOf 8 (leAt exps b 1), readMants kind 32 (body.drop (32 * mantBytes kind * b))⟩)

/-- The lines of a row, exponent line first (R148): as many as Table 2 gives it. -/
def writeRowLines (kind : Nat) (row : List Blk) : List (List Byte) :=
  let exps := row.map (fun b => BitVec.ofInt 8 b.exp)
  let body := row.flatMap (fun b => b.els.flatMap (fun m =>
    leBytes (mantBytes kind) (match m with | none => absentCode kind | some v => patternOf (8 * mantBytes kind) v)))
  let bytes := exps ++ List.replicate (64 - exps.length) 0 ++ body
  let n := linesOf kind row.length
  let bytes := bytes ++ List.replicate (64 * n - bytes.length) 0
  (List.range n).map (fun i => (bytes.drop (64 * i)).take 64)

/-- rne(value ÷ 2^scale) (R162). -/
def scaled (scale : Int) (n : Num) : Int := if scale ≤ n.e then n.m * 2 ^ (n.e - scale).toNat else rne n.m (scale - n.e).toNat

/-- An integer brought into a range, with the saturations. -/
def saturate (lo hi v : Int) : Int × Nat := if hi < v then (hi, 1) else if v < lo then (lo, 1) else (v, 0)

/-- A destination integer of EMIT (R162): rne(value ÷ 2^scale), saturated to the signed numbers of `w` bits but for the no-value code
(R19), with the saturations. -/
def emitInt (w : Nat) (scale : Int) (n : Num) : Int × Nat := saturate (1 - 2 ^ (w - 1)) (2 ^ (w - 1) - 1) (scaled scale n)

/-- A destination integer of 16 bits without a sign (R18, R162): up to 65,534, as 65,535 is the no-value code. -/
def emitPower (scale : Int) (n : Num) : Int × Nat := saturate 0 65534 (scaled scale n)

/-- The integer an element of an index buffer names, negative or absent ones being misses (R156). -/
def indexOfNum (n : Num) : Option Nat :=
  let v := if 0 ≤ n.e then n.m * 2 ^ n.e.toNat else rne n.m (-n.e).toNat
  if v < 0 then none else some v.toNat

end Sys2Proof.Machine
end

