-- ==== Sys2Proof/Machine/Access.lean ====
section
/-! DEFINITION. Who may access which register word, and when: reachability (R52, R53), the ownership domain or role a
write needs (R418, R310, R546, R577, R580), the states a write is legal in (R428 and the legality rule of each block),
and the reserved encodings of a write (R16), field by field and across the fields of a word. -/

namespace Sys2Proof.Machine

/-- The window number of a device address (R52). -/
def windowOf (a : Nat) : Nat := a / 0x1000000

/-- The offset of a device address inside its window. -/
def offsetOf (a : Nat) : Nat := a % 0x1000000

/-- Whether an address is a word of a block's event counters (R565). -/
def isCounterWord (a : Nat) : Bool := decide (0x7F0000 ≤ offsetOf a) && decide (offsetOf a < 0x7F0208)

/-- Whether an address lies in a window, or a part of one, that is housed on Serac (R52). -/
def onSerac (a : Nat) : Bool :=
  match windowOf a with
  | 6 | 7 | 8 | 10 | 13 => true
  | 11 => decide (offsetOf a < 0x800000)
  | _ => false

/-- Whether an access to the address is served at this moment (R53). -/
def State.reachable (s : State) (a : Nat) : Bool :=
  a % 4 == 0 && (rowAt a).isSome && (!s.mainAbsent || onSerac a || a == Reg.SYS_STATE)

/-- Whether a port exists: A0 to A7 at 0 to 7, B0 to B7 at 8 to 15; the variant has four or eight of each network (R398). -/
def portExists (p : Nat) : Bool := decide (p % 8 < 4) || decide (Config.variant = 3)

/-- What a register write needs of the writer (Table 4 of chapter 10): an ownership domain, a role, or either. -/
inductive Need
  | domain (d : Nat)
  | role (r : Nat)
  | domainOrRole (d r : Nat)
deriving DecidableEq, Repr

/-- The ownership domain codes of R414. -/
def domControl : Nat := 0
def domPlan : Nat := 1
def domMaint : Nat := 2
def domRecord : Nat := 3

/-- The role bits of R409. -/
def roleFacility : Nat := 0
def roleOperator : Nat := 1
def rolePlanner : Nat := 2
def roleService : Nat := 3
def roleRecorder : Nat := 4
def roleScheduler : Nat := 5
def roleStore : Nat := 6

/-- The role that a domain's holder must have (R414). -/
def domainRole (d : Nat) : Nat :=
  match d with
  | 0 => roleOperator
  | 1 => rolePlanner
  | 2 => roleService
  | _ => roleRecorder

/-- The domains of writes to the ACT_ block (Table 1 of chapter 08): the lockout words and ISO_RESET need MAINTENANCE. -/
def actNeed (a : Nat) (v : Word) : Need :=
  let o := offsetOf a
  if (0x010000 ≤ o ∧ o < 0x010200 ∧ o % 0x40 = 0x18) ∨ (0x020000 ≤ o ∧ o < 0x020800 ∧ o % 0x20 = 0x08) ∨
     (0x030000 ≤ o ∧ o < 0x030800 ∧ o % 0x20 = 0x10) ∨ (0x040000 ≤ o ∧ o < 0x041000 ∧ o % 0x40 = 0x28) then .domain domMaint
  else if 0x030000 ≤ o ∧ o < 0x030800 ∧ o % 0x20 = 0x0C ∧ fieldOf v 0 3 = 5 then .domain domMaint
  else .domain domControl

/-- What a write of a word needs (R418, Table 4). -/
def writeNeed (a : Nat) (v : Word) : Need :=
  let o := offsetOf a
  match windowOf a with
  | 0 => if a = Reg.SYS_CFGRST then .domain domMaint else .domain domControl
  | 1 => if a = Reg.TIM_SNAP_CTRL then .domain domRecord else .domain domControl
  | 2 => if a = Reg.STM_ACK then .domainOrRole domControl roleFacility else .domain domControl
  | 5 => if 0x050000 ≤ o ∧ o < 0x060000 then .role roleFacility else .domain domPlan
  | 7 => actNeed a v
  | 8 => if a = Reg.PRT_ACK then .domainOrRole domControl roleFacility else .domain domControl
  | 9 | 12 => .domain domMaint
  | 11 => if 0x200 ≤ o ∧ o < 0x20C then .domain domRecord else .domain domMaint
  | 13 | 14 => .domain domRecord
  | _ => .domain domControl

/-- Legal states of a write to the SYS_ block (R446, R448, R50). -/
def sysLegal (a : Nat) (v : Word) : Nat :=
  if a = Reg.SYS_CREC_CMD then (if fieldOf v 0 1 = 1 then 0x0008 else if fieldOf v 1 1 = 1 then 0x0208 else 0x03FF)
  else if a = Reg.SYS_CFGRST then 0x0200 else 0x03FF

/-- Legal states of a write to the LOP_ block (R295, R297). -/
def lopLegal (a : Nat) (v : Word) : Nat :=
  let o := offsetOf a
  if a = Reg.LOP_CMT ∧ fieldOf v 0 1 = 1 then 0x0248
  else if 0x010000 ≤ o ∧ o < 0x018000 ∧ 0x40 ≤ o % 0x100 ∧ o % 0x100 < 0x98 then 0x03FA
  else 0x03FB

/-- Legal states of a write to the ACT_ block (R310, R611). -/
def actLegal (a : Nat) (v : Word) : Nat :=
  let o := offsetOf a
  if a = Reg.ACT_EVT ∨ a = Reg.ACT_HWEVT then 0x03FF
  else if actNeed a v = .domain domMaint then
    (if 0x030000 ≤ o ∧ o < 0x030800 ∧ o % 0x20 = 0x0C then 0x0208 else 0x0200)
  else if (0x010000 ≤ o ∧ o < 0x010200 ∧ o % 0x40 = 0x14) ∨ (0x030000 ≤ o ∧ o < 0x030800 ∧ o % 0x20 = 0x0C) ∨
     (0x031000 ≤ o ∧ o < 0x031080 ∧ o % 0x10 = 0x04) ∨ (0x040000 ≤ o ∧ o < 0x041000 ∧ o % 0x40 = 0x24) ∨
     (0x041000 ≤ o ∧ o < 0x042000) ∨ (0x050000 ≤ o ∧ o < 0x060000) then 0x03F8
  else 0x0208

/-- Legal states of a write to the CAN_ block (R469). -/
def canLegal (a : Nat) : Nat :=
  let o := offsetOf a
  if (o < 0x800 ∧ o % 0x100 = 0x08) ∨
     (0x010000 ≤ o ∧ o < 0x030000 ∧ (o % 0x80 = 0x0C ∨ (0x20 ≤ o % 0x80 ∧ o % 0x80 < 0x60))) then 0x03F8
  else 0x0208

/-- Legal states of a write to the PAI_ block (R514 and its list of chapter 12). -/
def paiLegal (a : Nat) : Nat :=
  let o := offsetOf a
  if a = Reg.PAI_SWAP then 0x0010
  else if a = Reg.PAI_LS_CTRL then 0x0210
  else if 0x200 ≤ o ∧ o < 0x20C then 0x03FE
  else 0x027C

/-- Legal states of a write to the SEC_ block (R527, R532, R535, R546). -/
def secLegal (a : Nat) (v : Word) : Nat :=
  if a = Reg.SEC_EVT then 0x03FF
  else if a = Reg.SEC_FW_CMD then
    (match fieldOf v 0 3 with
     | 1 => 0x03FE
     | 2 | 4 => 0x020C
     | 3 => 0x0208
     | _ => 0x03FF)
  else 0x0208

/-- Legal states of a write to the FRN_ block (R577). -/
def frnLegal (a : Nat) : Nat :=
  let o := offsetOf a
  if a = Reg.FRN_CLR then 0x0208
  else if a = Reg.FRN_EVT ∨ (0x030000 ≤ o ∧ o < 0x030100 ∧ o % 0x20 < 0x0C) then 0x03FF
  else 0x03FE

/-- The state bitmap in which a write of `v` to a word is legal (R44, R428). Counter words follow R566. -/
def writeLegal (a : Nat) (v : Word) : Nat :=
  let o := offsetOf a
  if isCounterWord a then (if windowOf a = 6 then 0x03FA else 0x03FE) else
  match windowOf a with
  | 0 => sysLegal a v
  | 1 => if a = Reg.TIM_CTRL ∧ fieldOf v 2 1 = 1 then 0x0208 else 0x03FF
  | 2 => if a = Reg.STM_CMT ∧ fieldOf v 0 1 = 1 then 0x0258 else 0x03FF
  | 3 =>
    if a = Reg.IFD_SWITCH ∧ fieldOf v 31 1 = 1 then 0x0258
    else if a = Reg.IFD_PART ∨ (a = Reg.IFD_CTRL ∧ fieldOf v 0 1 = 0) then 0x0208 else 0x03FF
  | 4 => if 0x010000 ≤ o ∧ o % 0x40 = 0x08 ∧ fieldOf v 0 2 ≠ 0 then 0x0258 else 0x03FF
  | 5 =>
    if a = Reg.PLN_EVT then 0x03FF else if 0x050000 ≤ o ∧ o < 0x060000 then 0x03FA
    else if 0x010000 ≤ o ∧ o < 0x020000 ∧ o % 16 = 0 then 0x0208 else 0x03F8
  | 6 => lopLegal a v
  | 7 => actLegal a v
  | 8 => if a = Reg.PRT_ACK then 0x03FA else 0x0208
  | 9 => if a = Reg.NET_EVT then 0x03FF else 0x0208
  | 10 => canLegal a
  | 11 => paiLegal a
  | 12 => secLegal a v
  | 13 => frnLegal a
  | 14 => if a = Reg.DIA_SCRUB ∨ a = Reg.DIA_ECCTEST then 0x0208 else 0x03FF
  | _ => 0x03FF

/-! ### Who holds what -/

/-- Whether the session in a slot holds a domain (R414, SYS_OWNd). -/
def State.holds (s : State) (k d : Nat) : Bool :=
  s.sessOpen k && s.on (Fd.OW_STAT_HELD d) && s.fld (Fd.OW_STAT_SLOT d) == k

/-- A refusal of a request or a write: status, legal bitmap and detail (R406, R419). -/
structure Denial where
  status : Nat
  legal : Nat
  detail : Nat
deriving DecidableEq, Repr

/-- What is missing for a need: NO_ROLE with the role bit, NOT_OWNER with the domain code. A row that names a domain or
a role is refused NOT_OWNER where the writer has neither (DEDUCED, log entry 9). -/
def State.missing (s : State) (k : Nat) : Need → Option Denial
  | .domain d => if s.holds k d then none else some ⟨0x30, 0, d⟩
  | .role r => if s.sessOpen k && s.hasRole k r then none else some ⟨0x31, 0, r⟩
  | .domainOrRole d r => if s.holds k d || (s.sessOpen k && s.hasRole k r) then none else some ⟨0x30, 0, d⟩

/-- The domains of a need that its holder used, whose leases an accepted request restarts (R416). -/
def State.usedDomain (s : State) (k : Nat) : Need → Option Nat
  | .domain d => some d
  | .role _ => none
  | .domainOrRole d _ => if s.holds k d then some d else none

/-- The states in which a write is legal as things stand: a write of SLOT_CFG of an ACTIVE slot is legal in none (Table 16 of
chapter 04). -/
def State.legalNow (s : State) (a : Nat) (v : Word) : Nat :=
  if Reg.SLOT_CFG 0 ≤ a ∧ a < Reg.SLOT_CFG 16 ∧ a % 0x40 = 0 ∧ s.fld (Fd.SLOT_STAT_STATE ((a - Reg.SLOT_CFG 0) / 0x40)) = 3 then 0
  else writeLegal a v

/-- The checks of a register write of several words, in the order of R427: every address first, then roles, domains and
the AND of the legal bitmaps (R422, R428, R429). -/
def State.checkWords (s : State) (k : Nat) (ws : List (Nat × Word)) : Option Denial :=
  match ws.find? (fun p => !s.reachable p.1) with
  | some p => some ⟨0x20, 0, p.1 % 2 ^ 32⟩
  | none =>
    let miss := ws.filterMap (fun p => s.missing k (writeNeed p.1 p.2))
    match (miss.find? (fun d => d.status == 0x31)).or miss.head? with
    | some d => some d
    | none =>
      let legal := ws.foldl (fun m p => m &&& s.legalNow p.1 p.2) 0x03FF
      if s.inMap legal then none else some ⟨0x10, legal, 0⟩

/-- The ticks of a lease: 2 s (R416). -/
def leaseTicks : Nat := sTicks 2

/-- The state with a domain's lease restarted (R416). -/
def State.renewLease (s : State) (d : Nat) : State :=
  { s with zh := { s.zh with lease := s.zh.lease.put d (s.clk.now + leaseTicks) } }

/-- The record-keeping of an access answered with an error status (R420, R422, R447): SYS_ERR and SYS_CNT_STATECONF. `cmd`
is the command code that the STATE_CONFLICT record carries. -/
def State.denied (s : State) (cmd : Nat) (d : Denial) : State :=
  match d.status with
  | 0x10 => (s.count Reg.SYS_CNT_STATECONF).raise Fd.SYS_ERR_STATE_CONFLICT noObj [cmd, s.opState, d.legal]
  | 0x20 => s.raise Fd.SYS_ERR_BADADDR noObj []
  | 0x30 => s.raise Fd.SYS_ERR_NOT_OWNER noObj []
  | 0x12 => s.count Reg.NET_CNT_BUSY
  | _ => s

/-! ### Reserved encodings -/

/-- Whether every field of a write lies in its legal range (R15, R16). -/
def fieldsOk (r : RegRow) (v : Word) : Bool :=
  r.enc.all (fun e => decide (e.2.2.1 ≤ fieldOf v e.1 e.2.1) && decide (fieldOf v e.1 e.2.1 ≤ e.2.2.2))

/-- SYS_ and NET_: encodings reserved across fields or words (R444, R447). -/
def crossNet (s : State) (a : Nat) (v : Word) : Bool :=
  if a = Reg.SYS_CREC_CMD then fieldOf v 0 2 ≠ 3
  else if a = Reg.NET_CTRL then fieldOf v 0 2 ≠ 0
  else if a = Reg.NET_UDP0 then
    decide (1024 ≤ fieldOf v 0 16) && decide (1024 ≤ fieldOf v 16 16) && fieldOf v 0 16 != fieldOf v 16 16 &&
    fieldOf v 0 16 != s.fld Fd.NET_UDP1_PLAN && fieldOf v 16 16 != s.fld Fd.NET_UDP1_PLAN
  else if a = Reg.NET_UDP1 then
    decide (1024 ≤ fieldOf v 0 16) && fieldOf v 0 16 != fieldOf (s.rd Reg.NET_UDP0) 0 16 &&
    fieldOf v 0 16 != fieldOf (s.rd Reg.NET_UDP0) 16 16
  else if a = Reg.NET_VLAN then
    (fieldOf v 12 1 == 0 || (fieldOf v 0 12 != 0 && fieldOf v 0 12 != 4095)) &&
    (fieldOf v 28 1 == 0 || (fieldOf v 16 12 != 0 && fieldOf v 16 12 != 4095))
  else if a = Reg.NET_PGRP6_0 then fieldOf v 0 8 = 0
  else if a = Reg.NET_PGRP6_3 then fieldOf v 16 16 = 0xFF05
  else if a = Reg.NET_PGRP4 then fieldOf v 0 8 == 0 && fieldOf v 24 8 == 239
  else true

end Sys2Proof.Machine
end

