-- ==== Sys2Proof/Machine/Net.lean ====
section
/-! DEFINITION. The host network as the module sees it: sources under violation counting and their quarantine (R440,
R441), session slots and their end (R410), the ownership table and its leases and offers (R414 to R417), and the receive
window of a session (R405). -/

namespace Sys2Proof.Machine

/-! ### Violations and quarantine -/

/-- The counting entry of a source address (R441). -/
def State.source (s : State) (addr : Nat) : Source :=
  (s.zh.sources.find? (fun x => x.addr == addr)).getD ⟨addr, 0, 0, none, none⟩

/-- The state with a source's counting entry set. -/
def State.setSource (s : State) (x : Source) : State :=
  { s with zh := { s.zh with sources := x :: s.zh.sources.filter (fun y => y.addr != x.addr) } }

/-- The source address held in a quarantine entry (QU_ADDR0 to 3). -/
def State.quarAddr (s : State) (e : Nat) : Nat :=
  (s.rd (Reg.QU_ADDR e 0)).toNat + 2 ^ 32 * (s.rd (Reg.QU_ADDR e 1)).toNat +
  2 ^ 64 * (s.rd (Reg.QU_ADDR e 2)).toNat + 2 ^ 96 * (s.rd (Reg.QU_ADDR e 3)).toNat

/-- The quarantine entry that holds a source address, if the source is quarantined. -/
def State.quarEntry (s : State) (addr : Nat) : Option Nat :=
  (s.zh.quarEnd.find? (fun p => s.quarAddr p.1 == addr)).map (·.1)

/-- The current second of module time (R441). -/
def State.second (s : State) : Nat := s.clk.mtime.toNat / 1000000000

/-- The lowest free quarantine entry. -/
def State.freeQuar (s : State) : Option Nat := (List.range 256).find? (fun e => !Tab.has s.zh.quarEnd e)

/-- Quarantine of a source begins in an entry (R441): 10 s from the violation that exceeded the limit. -/
def State.startQuarantine (s : State) (e addr viol : Nat) : State :=
  let s := (s.set (Fd.QU_STAT_VALID e) 1).set (Fd.QU_STAT_REMAIN e) 10
  let s := (List.range 4).foldl (fun s i => s.wr (Reg.QU_ADDR e i) (BitVec.ofNat 32 (addr / 2 ^ (32 * i)))) s
  let s := s.wr (Reg.QU_VIOL e) (BitVec.ofNat 32 viol)
  let s := { s with zh := { s.zh with quarEnd := s.zh.quarEnd.put e (s.clk.now + sTicks 10),
                                      quarNext := s.zh.quarNext.put e (s.clk.now + sTicks 1) } }
  let s := s.count Reg.NET_CNT_QUAR
  (s.raise Fd.NET_EVT_QUARANTINE e [viol]).raise Fd.STM_EVT_QUARANTINE e [viol]

/-- A violation counted against a source address (R441). More than 100 within one second of module time quarantine the
source, while an entry is free; QUAR_EN = 0 counts only. -/
def State.violate (s : State) (addr : Nat) : State :=
  let x := s.source addr
  let n := if x.second = s.second then x.count + 1 else 1
  let s := s.setSource { x with second := s.second, count := n }
  if n > 100 ∧ s.on Fd.NET_CTRL_QUAR_EN ∧ (s.quarEntry addr).isNone then
    match s.freeQuar with
    | some e => s.startQuarantine e addr n
    | none => s.raise Fd.NET_EVT_QUAR_FULL noObj []
  else s

/-- Whether a source may be sent a PROTO_ERROR answer now: at most once per 10 ms (R440). -/
def State.mayAnswerError (s : State) (addr : Nat) : Bool :=
  match (s.source addr).lastErr with
  | none => true
  | some t => decide (t + msTicks 10 ≤ s.clk.now)

/-! ### Frames from masters and senders -/

/-- Whether the IP version of a source address is served (NET_CTRL): an IPv4 address is held as ::ffff:a.b.c.d (R445). -/
def State.servesIp (s : State) (src : Nat) : Bool := if src / 2 ^ 32 = 0xFFFF then s.on Fd.NET_CTRL_V4_EN else s.on Fd.NET_CTRL_V6_EN

/-- Whether a port takes a frame of a traffic class from a source address: the port die is present, the port exists and is enabled, it
carries the class (R400), the IP version is served, and a frame sent to a row address finds it owned (R399, R475, R489). A frame that it does
not take is dropped uncounted. -/
def State.portTakes (s : State) (cls : Nat → Fld) (p src : Nat) (row : Bool) : Bool :=
  !s.portAbsent && portExists p && s.on (Fd.PORT_CFG_EN p) && s.on (cls p) && s.servesIp src && (!row || s.on Fd.NET_STAT_ROW_OWNER)

/-- A frame that a port has taken is counted (PORT_CNT_RX, log entry 64). -/
def State.countRx (s : State) (p : Nat) : State := s.count (Reg.PORT_CNT_RX p)

/-! ### Sessions -/

/-- The slot of the open session with an ID. -/
def State.slotOf (s : State) (id : Word) : Option Nat :=
  s.openSlots.find? (fun k => s.rd (Reg.SS_ID k) == id)

/-- A mailbox of a session slot. -/
def State.mailbox (s : State) (k m : Nat) : Mbox := Tab.at Mbox.none (s.sess k).mbox m

/-- The state with a mailbox set. -/
def State.setMailbox (s : State) (k m : Nat) (x : Mbox) : State :=
  s.setSess k { s.sess k with mbox := (s.sess k).mbox.put m x }

/-- A field's bit `n` set or cleared. -/
def State.setBit (s : State) (f : Fld) (n : Nat) (b : Bool) : State :=
  s.set f (if b then s.fld f ||| 2 ^ n else s.fld f &&& (2 ^ f.width - 1 - 2 ^ n))

/-- An authenticated frame has arrived from a session's master on a network (R410, SS_STAT.NET_A and NET_B). -/
def State.heard (s : State) (k : Nat) (net : Net) : State :=
  let x := s.sess k
  match net with
  | .a => s.setSess k { x with lastRx := s.clk.now, lastA := some s.clk.now }
  | .b => s.setSess k { x with lastRx := s.clk.now, lastB := some s.clk.now }

/-- A mailbox as a frame with a new number arrives on it (R402): the entry of its request, beside those still to be answered. -/
def arriveAt (m : Mbox) (q : Req) : Mbox :=
  let live : Word → Bool := fun t => m.exec == some t || m.held.any (fun h => h.tag == t)
  let both := (m.arrivals.find? (fun x => x.tag == q.tag)).any (fun x => live q.tag && (x.both || x.net != q.net))
  { m with arrivals := ⟨q.tag, q.seq, q.net, false, both, none⟩ :: m.arrivals.filter (fun (x : Arrival) => x.tag != q.tag && live x.tag) }

/-- The networks on which a request is answered (R402): one on which it came, and whether it came on both. -/
def answerNets (m : Mbox) (q : Req) : Net × Bool :=
  match m.arrivals.find? (fun x => x.tag == q.tag) with
  | some x => (x.net, x.both)
  | none => (q.net, false)

/-- What the receive window says of a frame number (R405). -/
inductive SeqVerdict | fresh (high win : Nat) | copy | old
deriving DecidableEq, Repr

/-- The window of R405 in the manner of R111: bit i of the window stands for the number i below the highest taken. -/
def seqVerdict (high win n : Nat) : SeqVerdict :=
  if high < n then
    let d := n - high
    .fresh n (if d < 64 then (win * 2 ^ d) % 2 ^ 64 ||| 1 else 1)
  else
    let d := high - n
    if 64 ≤ d then .old else if bitOf win d then .copy else .fresh high (win ||| 2 ^ d)

/-! ### Ownership -/

/-- The slot that holds a domain, if any. -/
def State.holder (s : State) (d : Nat) : Option Nat :=
  if s.on (Fd.OW_STAT_HELD d) then some (s.fld (Fd.OW_STAT_SLOT d)) else none

/-- The lease left of a domain, in ms (OW_LEASE). -/
def State.leaseMs (s : State) (d : Nat) : Nat :=
  if s.on (Fd.OW_STAT_HELD d) then (Tab.at 0 s.zh.lease d - s.clk.now) / 100 else 0

/-- A domain becomes free (R416): the table, the lease and any offer are cleared, and the change is recorded. -/
def State.freeDomain (s : State) (d : Nat) : State :=
  match s.holder d with
  | none => s
  | some k =>
    let s := ((s.set (Fd.OW_STAT_HELD d) 0).set (Fd.OW_STAT_SLOT d) 0).set (Fd.OW_STAT_MASTER d) 0
    let s := s.setBit (Fd.SS_STAT_DOMAINS k) d false
    let s := { s with zh := { s.zh with lease := s.zh.lease.del d, offers := s.zh.offers.del d } }
    (s.wrap (Fd.OW_SEQ_N d)).raise Fd.NET_EVT_OWNER noObj [d, 0xFFFFFFFF]

/-- A domain passes to a session slot, with a new lease and no tick in which it is free (R415, R417). -/
def State.grant (s : State) (k d : Nat) : State :=
  let s := match s.holder d with
    | none => s
    | some h => s.setBit (Fd.SS_STAT_DOMAINS h) d false
  let s := ((s.set (Fd.OW_STAT_HELD d) 1).set (Fd.OW_STAT_SLOT d) k).set (Fd.OW_STAT_MASTER d) (s.fld (Fd.SS_STAT_MASTER k))
  let s := s.setBit (Fd.SS_STAT_DOMAINS k) d true
  let s := { s with zh := { s.zh with offers := s.zh.offers.del d } }
  (((s.renewLease d).wrap (Fd.OW_SEQ_N d))).raise Fd.NET_EVT_OWNER noObj [d, s.fld (Fd.SS_STAT_MASTER k)]

/-- A domain's lease expires (R416): it is released, its former holder is told EXPIRED, and expiry of CONTROL in MANUAL
ends MANUAL (R43). -/
def State.expireDomain (s : State) (d : Nat) : State :=
  match s.holder d with
  | none => s
  | some k =>
    let s := (s.freeDomain d).notice k 3 [d, 0, 0]
    if d = domControl ∧ s.opState = 6 then s.enter s.leaveTarget 0 else s

/-- The lease of a domain has run out (R416). -/
def State.expireLease (s : State) (d : Nat) : State := if Tab.at 0 s.zh.lease d ≤ s.clk.now then s.expireDomain d else s

/-- An offer unanswered for 1 s lapses (R417). -/
def State.lapseOffer (s : State) (d : Nat) : State :=
  match Tab.find s.zh.offers d with
  | some o => if o.at_ + sTicks 1 ≤ s.clk.now then { s with zh := { s.zh with offers := s.zh.offers.del d } } else s
  | none => s

/-- The mailboxes of a slot that hold a deferred request. -/
def heldCount (x : Session) : Nat := (x.mbox.filter (fun p => p.2.held.isSome)).length

/-- The host table store becomes unreachable (R439): its device request is dropped. -/
def State.detachStore (s : State) : State := { s with zh := { s.zh with attached := none, devs := [] } }

/-- A session ends (R410): its domains are released in that tick, its held requests are discarded unanswered, its table
store attachment ends, and the slot is free. -/
def State.endSession (s : State) (k : Nat) : State :=
  if s.sessOpen k then
    let s := (List.range 4).foldl (fun s d => if s.holder d = some k then s.freeDomain d else s) s
    let s := s.set Fd.SYS_DEFER_HELD (s.fld Fd.SYS_DEFER_HELD - heldCount (s.sess k))
    let s := if s.zh.attached = some k then s.detachStore else s
    let s := { s with zh := { s.zh with sess := s.zh.sess.del k } }
    let s := (((((s.wr (Reg.SS_STAT k) 0).wr (Reg.SS_ID k) 0).wr (Reg.SS_ROLES k) 0).wr (Reg.SS_MBOX k) 0).wr (Reg.SS_LEVEL k) 0)
    (s.set Fd.NET_STAT_SESSIONS (s.fld Fd.NET_STAT_SESSIONS - 1)).raise Fd.NET_EVT_SESS_CLOSE k []
  else s

/-! ### Register-write rows -/

/-- A word takes a written value by its access types: RW bits take it, W1C bits clear, all others keep (R12, R14). -/
def State.plainWrite (s : State) (a : Nat) (v : Word) : State :=
  match rowAt a with
  | some r => s.wr a (writeMasked (s.rd a) v r.rw r.w1c)
  | none => s

/-- A register write by the session in slot `k`, with a behaviour of its own (R418, R422, R429, R16): the checks of a
one-word REGWR, then the reserved encodings, then the behaviour, which gives a status and its detail. The outcome is what
REGWR would answer. -/
def State.writeRowWith (s : State) (k a : Nat) (v : Word) (ok : Bool) (f : State → State × Nat × Nat) : State :=
  match s.checkWords k [(a, v)] with
  | some d => (s.denied 0x21 d).send (.wrote k a d.status d.legal d.detail)
  | none =>
    let s := match s.usedDomain k (writeNeed a v) with
      | some d => s.renewLease d
      | none => s
    if ((rowAt a).elim true (fun r => fieldsOk r v)) && ok then
      let r := f s
      r.1.send (.wrote k a r.2.1 0 r.2.2)
    else (s.raise Fd.SYS_ERR_BADENC noObj []).send (.wrote k a 0x21 0 0)

/-- A register write whose behaviour always answers OK. -/
def State.writeRow (s : State) (k a : Nat) (v : Word) (ok : Bool) (f : State → State) : State :=
  s.writeRowWith k a v ok (fun s => (f s, 0, 0))

end Sys2Proof.Machine
end

