-- ==== Sys2Proof/Machine/Zhoide.lean ====
section
/-! DEFINITION. Zhoide requests (chapter 10): the checks of R427 in their order, mailboxes, retransmissions and deferral
(R412, R413, R433), answers (R406, R419), and the commands of Table 6 that act on sessions, ownership and the operating
state. -/

namespace Sys2Proof.Machine

/-- How a command's execution ends: an answer at once with status, DETAIL and response fields; an answer that a later
step gives; or an answer after which the session ends. -/
inductive Reply
  | now (status detail : Nat) (body : List Nat)
  | later
  | close
deriving DecidableEq, Repr

/-- What the checks of R427 find for one request: each kind of failure, the legal bitmap, whether another rule
refuses with STATE_CONFLICT, the domains used, and the
execution, which is given the time in µs that the request was held. -/
structure Judge where
  code : Nat
  needMain : Bool := false
  bad : Option (Nat × Nat) := none
  role : Option Nat := none
  owner : Option Nat := none
  legal : Nat := 0x03FF
  barred : Bool := false
  busy : Bool := false
  uses : List Nat := []
  run : Nat → State → State × Reply

/-- The first failed check of R427, in its order. -/
def Judge.first (j : Judge) (q : Req) (s : State) : Option Denial :=
  if j.needMain && s.mainAbsent then some ⟨0x40, 0, 0⟩ else
  match j.bad with
  | some (st, d) => some ⟨st, 0, d⟩
  | none =>
    if q.defer && (q.deferMs.toNat == 0 || decide (60000 < q.deferMs.toNat)) then some ⟨0x21, 0, 0⟩ else
    match j.role with
    | some r => some ⟨0x31, 0, r⟩
    | none =>
      match j.owner with
      | some d => some ⟨0x30, 0, d⟩
      | none =>
        if !s.inMap j.legal || j.barred then some ⟨0x10, j.legal, 0⟩
        else if j.busy then some ⟨0x12, 0, 0⟩ else none

/-- The frame of an answer to a request (R406); its LEVEL and SEQ are set as it is sent. -/
def answerOf (q : Req) (code status legal detail : Nat) (body : List Nat) (s : State) : Answer :=
  { level := 0, seq := 0, session := q.session, mbox := q.mbox, tag := q.tag, cmd := code, status := status, state := s.opState,
    legal := legal, detail := detail, body := body }

/-- A sessionless answer to the frame `q` (R404, R406), at a LEVEL. -/
def State.sendPlain (s : State) (q : Plain) (level cmd status detail : Nat) (body : List Nat) : State :=
  s.send (.plain q.src (portNet q.port)
    { level := level, seq := 0, session := 0, mbox := q.mbox, tag := q.tag, cmd := cmd, status := status, state := s.opState, legal := 0,
      detail := detail, body := body })

/-- An answer goes out at the session's level and under its next frame number (R405, R406, R408), on one network or on both (R402); with it
the request of its tag has been answered. -/
def State.emit (s : State) (k : Nat) (nets : Net × Bool) (a : Answer) : State :=
  let a := { a with level := fieldOf (s.rd (Reg.SS_LEVEL k)) 0 8, seq := (s.sess k).txNext }
  let m := s.mailbox k a.mbox
  let s := s.setMailbox k a.mbox
    { m with arrivals := m.arrivals.map (fun (x : Arrival) => if x.tag == a.tag then { x with sent := some a } else x) }
  let s := s.setSess k { s.sess k with txNext := (s.sess k).txNext + 1 }
  (if nets.2 then s.send (.answer (otherNet nets.1) a) else s).send (.answer nets.1 a)

/-- A final answer: it is kept for retransmissions, and the request is no longer in execution (R413). -/
def State.finish (s : State) (k : Nat) (q : Req) (code status legal detail : Nat) (body : List Nat) : State :=
  let s := s.denied code ⟨status, legal, detail⟩
  let a := answerOf q code status legal detail body s
  let m := s.mailbox k q.mbox
  let mine := m.exec == some q.tag
  let s := s.setMailbox k q.mbox { m with exec := if mine then none else m.exec, last := some a }
  (if mine then s.setBit (Fd.SS_MBOX_EXEC k) q.mbox false else s).emit k (answerNets m q) a

/-- A request passes its checks and executes (R407, R416): the leases of the domains it needed restart. `held` is the time
in µs it was held. -/
def State.runJudge (s : State) (k : Nat) (q : Req) (j : Judge) (held : Nat) : State :=
  let s := j.uses.foldl (fun s d => s.renewLease d) s
  match j.run held s with
  | (s, .now st d body) => s.finish k q j.code st 0 (if st = 0 then held else d) body
  | (s, .later) =>
    (s.setMailbox k q.mbox { s.mailbox k q.mbox with exec := some q.tag }).setBit (Fd.SS_MBOX_EXEC k) q.mbox true
  | (s, .close) => (s.finish k q j.code 0 0 held []).endSession k

/-- A request is placed in its mailbox's deferral slot (R433). -/
def State.hold (s : State) (i : Instr) (k : Nat) (q : Req) (code legal : Nat) : State :=
  let h : HeldReq := { cmd := i, tag := q.tag, at_ := s.clk.now, ms := q.deferMs.toNat, order := s.zh.held, code := code,
                       legal := legal }
  let s := s.setMailbox k q.mbox { s.mailbox k q.mbox with held := some h }
  let s := { s with zh := { s.zh with held := s.zh.held + 1 } }
  ((s.setBit (Fd.SS_MBOX_HELD k) q.mbox true).bump Fd.SYS_DEFER_HELD).count Reg.SYS_CNT_DEFER

/-- The deferral slot of a mailbox becomes free. -/
def State.unhold (s : State) (k m : Nat) : State :=
  let s := s.setMailbox k m { s.mailbox k m with held := none }
  (s.setBit (Fd.SS_MBOX_HELD k) m false).set Fd.SYS_DEFER_HELD (s.fld Fd.SYS_DEFER_HELD - 1)

/-- The time a request has been held, in µs, saturating (R419). -/
def State.heldFor (s : State) (h : HeldReq) : Nat := min ((s.clk.now - h.at_) * 10) 0xFFFFFFFF

/-- A frame violation of Table 9 (R440): it is counted, counts against the source, and is answered PROTO_ERROR at most once
per 10 ms; in the session where the frame named an open one, sessionless otherwise, on the network on which it came. -/
def State.protoError (s : State) (q : Plain) (session : Word) (cmd code : Nat) : State :=
  let s := (s.count Reg.NET_CNT_PROTO).violate q.src
  if s.mayAnswerError q.src then
    let s := s.setSource { s.source q.src with lastErr := some s.clk.now }
    match s.slotOf session with
    | some k =>
      let x := s.sess k
      (s.setSess k { x with txNext := x.txNext + 1 }).send (.answer (portNet q.port)
        { level := fieldOf (s.rd (Reg.SS_LEVEL k)) 0 8, seq := x.txNext, session := session, mbox := q.mbox, tag := q.tag, cmd := cmd, status := 0x50,
          state := s.opState, legal := 0, detail := code, body := [] })
    | none => s.sendPlain q (s.fld Fd.SYS_LVL_ZH_MAX) cmd 0x50 code []
  else s

/-- A copy of a session's frame (R405, R402): it is counted, and where it is the first copy on the other network of a request that has been
answered, the same answer goes out there. -/
def State.takeCopy (s : State) (k : Nat) (q : Req) : State :=
  let s := s.count Reg.NET_CNT_DUP
  let m := s.mailbox k q.mbox
  match m.arrivals.find? (fun x => x.seq == q.seq && x.net != q.net && !x.copied) with
  | none => s
  | some x =>
    let s := s.setMailbox k q.mbox
      { m with arrivals := m.arrivals.map (fun (y : Arrival) => if y.tag == x.tag then { y with copied := true, both := true } else y) }
    match x.sent with
    | some a => s.send (.answer q.net a)
    | none => s

/-- The checks that every frame of a session passes first (R400, R405, R410, R440 to R442): its port takes it and counts it, its source is
not quarantined, its session is open, and it holds no reserved encoding, by DEFER_MS and by `fits`; then its number decides, and a new
number goes on. -/
def State.takeFrame (s : State) (q : Req) (code : Nat) (fits : Nat → State → Bool) (go : Nat → Nat → Nat → State → State) : State :=
  if !s.portTakes Fd.PORT_CFG_MBOX q.port q.src q.row then s else
  let s := s.countRx q.port
  if (s.quarEntry q.src).isSome then s.count Reg.NET_CNT_QDROP
  else match s.slotOf q.session with
  | none => s.protoError q.plain q.session code 5
  | some k =>
    let s := s.heard k q.net
    if (!q.defer && q.deferMs != 0) || !fits k s then s.protoError q.plain q.session code 4
    else match seqVerdict (s.sess k).rxHigh (s.sess k).rxWin q.seq.toNat with
    | .copy => s.takeCopy k q
    | .old => s.count Reg.NET_CNT_OLD
    | .fresh h w => go k h w s

/-- A frame with a new number is taken (R405) and arrives on its mailbox. -/
def State.arrive (s : State) (k h w : Nat) (q : Req) : State :=
  let s := s.setSess k { s.sess k with rxHigh := h, rxWin := w }
  s.setMailbox k q.mbox (arriveAt (s.mailbox k q.mbox) q)

/-- A request that is no retransmission of the request in execution or of the held one (R413): the stored answer, BUSY,
or the judgement of R427 with its deferral (R433). -/
def State.judgeNew (s : State) (i : Instr) (k : Nat) (q : Req) (j : Judge) (m : Mbox) : State :=
  match m.last.filter (fun a => a.tag == q.tag) with
  | some a => s.emit k (q.net, false) a
  | none =>
    if m.exec.isSome then (s.count Reg.NET_CNT_BUSY).emit k (q.net, false) (answerOf q j.code 0x12 0 0 [] s)
    else
      match j.first q s with
      | none => s.runJudge k q j 0
      | some d =>
        if d.status == 0x10 && q.defer && d.legal != 0 && !s.mainAbsent then
          (if m.held.isSome then s.finish k q j.code 0x12 0 0 [] else s.hold i k q j.code d.legal)
        else s.finish k q j.code d.status d.legal d.detail []

/-- The judgement of a request that has reached its mailbox (R413). -/
def State.handle (s : State) (i : Instr) (k : Nat) (q : Req) (j : Judge) : State :=
  let m := s.mailbox k q.mbox
  if m.exec = some q.tag then s
  else match m.held.filter (fun h => h.tag == q.tag) with
  | some h => s.emit k (q.net, false) (answerOf q j.code 0x02 0 (s.heldFor h) [] s)
  | none => s.judgeNew i k q j m

/-- A session request arrives (R402 to R405, R412): once its frame is taken, the mailbox and the command are judged. -/
def State.request (s : State) (i : Instr) (q : Req) (code : Nat) (j : Nat → State → Judge) : State :=
  s.takeFrame q code (fun _ _ => true) (fun k h w s =>
    let s := s.arrive k h w q
    s.handle i k q (j k s))

/-- A protective command is judged and executed on arrival, ahead of any request in execution and past a busy mailbox, and its DEFER flag is
ignored (R432). A retransmission gets the stored answer. -/
def State.executeNow (s : State) (k : Nat) (q : Req) (code : Nat) (jd : Judge) : State :=
  let m := s.mailbox k q.mbox
  match m.last.filter (fun a => a.tag == q.tag) with
  | some a => s.emit k (q.net, false) a
  | none =>
    let d := jd.first { q with defer := false } s
    let s := match d with
      | some d => s.denied code d
      | none => (jd.run 0 (jd.uses.foldl (fun s d => s.renewLease d) s)).1
    let a := match d with
      | some d => answerOf q code d.status d.legal d.detail [] s
      | none => answerOf q code 0 0 0 [] s
    (s.setMailbox k q.mbox { s.mailbox k q.mbox with last := some a }).emit k (q.net, false) a

/-- A protective command arrives (R432). -/
def State.requestNow (s : State) (q : Req) (code : Nat) (j : Nat → State → Judge) : State :=
  s.takeFrame q code (fun _ _ => true) (fun k h w s =>
    let s := s.arrive k h w q
    s.executeNow k q code (j k s))

/-- A held request runs again (R434): every check is repeated; a request whose state is no longer legal stays held. -/
def State.rerun (s : State) (k m : Nat) (h : HeldReq) (q : Req) (j : Judge) : State :=
  match j.first q s with
  | some d =>
    if d.status = 0x10 then s else (s.unhold k m).finish k q j.code d.status d.legal d.detail []
  | none => (s.unhold k m).runJudge k q j (s.heldFor h)

/-! ### Session commands -/

/-- A sessionless frame is taken (R400, R441): by its port, which counts it, and from a source that is not quarantined. -/
def State.takePlain (s : State) (q : Plain) (go : State → State) : State :=
  if !s.portTakes Fd.PORT_CFG_MBOX q.port q.src q.row then s else
  let s := s.countRx q.port
  if (s.quarEntry q.src).isSome then s.count Reg.NET_CNT_QDROP else go s

/-- A Craori frame is taken from a network (R400, R501): by its port, which counts it, and from a source that is not quarantined (R441). -/
def State.takeCra (s : State) (c : Came) (go : State → State) : State :=
  if !s.portTakes Fd.PORT_CFG_CRAORI c.port c.src c.row then s else
  let s := s.countRx c.port
  if (s.quarEntry c.src).isSome then s.count Reg.NET_CNT_QDROP else go s

/-- HELLO (R421), answered sessionless. -/
def execHello (c : Came) (tag : Word) (mbox : Fin 16) (s : State) : Host.Outcome State Fault Refusal :=
  let q := c.plain tag mbox
  .next (s.takePlain q (fun s =>
    let free := ((List.range 8).filter (fun k => s.fld (Fd.SS_STAT_STATE k) == 0)).length
    s.sendPlain q (s.fld Fd.SYS_LVL_ZH_MAX) 0x01 0 0 [s.fld Fd.SYS_LVL_ZH_MIN, s.fld Fd.SYS_LVL_ZH_MAX, s.fld Fd.SYS_ID_VARIANT,
      s.sys.straps.moduleId, s.fld Fd.NET_STAT_ROW_OWNER, free]))

def judgeClose (_k : Nat) (_s : State) : Judge := { code := 0x04, run := fun _ s => (s, .close) }

/-- SESS_CLOSE (R410). -/
def execSessClose (q : Req) (s : State) : Host.Outcome State Fault Refusal :=
  .next (s.request (.sessClose q) q 0x04 judgeClose)

def judgePing (_k : Nat) (_s : State) : Judge :=
  { code := 0x05, run := fun _ s => (s, .now 0 0 [s.clk.mtime.toNat, s.clk.sidx.toNat]) }

/-- PING (R421): the wire time and the sample index. -/
def execPing (q : Req) (s : State) : Host.Outcome State Fault Refusal :=
  .next (s.request (.ping q) q 0x05 judgePing)

def judgeSubscribe (classes : Word) (k : Nat) (_s : State) : Judge :=
  { code := 0x06, bad := if 4 ≤ classes.toNat then some (0x21, 0) else none,
    run := fun _ s => (s.setSess k { s.sess k with subs := classes.toNat }, .now 0 0 []) }

/-- SUBSCRIBE (R421): the notice classes the session receives. -/
def execSubscribe (q : Req) (classes : Word) (s : State) : Host.Outcome State Fault Refusal :=
  .next (s.request (.subscribe q classes) q 0x06 (judgeSubscribe classes))

/-- A session ends for which no authenticated frame has arrived for NET_SESS_TMO (R410). -/
def State.timeoutSession (s : State) (k : Nat) : State :=
  if s.sessOpen k && decide ((s.sess k).lastRx + sTicks (s.fld Fd.NET_SESS_TMO_SEC) ≤ s.clk.now) then s.endSession k else s

/-- SESSION_TIMEOUT (R410). -/
def execSessionTimeout (slot : Fin 8) (s : State) : Host.Outcome State Fault Refusal := .next (s.timeoutSession slot)

/-- The hidden part of a slot is dropped. -/
def State.delSess (s : State) (k : Nat) : State := { s with zh := { s.zh with sess := s.zh.sess.del k } }

/-- A slot in OPENING for 5 s is freed (R539). -/
def State.timeoutOpening (s : State) (k : Nat) : State :=
  if s.fld (Fd.SS_STAT_STATE k) == 1 && decide ((s.sess k).openedAt + sTicks 5 ≤ s.clk.now)
  then ((((s.wr (Reg.SS_STAT k) 0).wr (Reg.SS_ID k) 0).wr (Reg.SS_ROLES k) 0).wr (Reg.SS_LEVEL k) 0).delSess k
  else s

/-- SESSION_OPEN_TIMEOUT (R539). -/
def execSessionOpenTimeout (slot : Fin 8) (s : State) : Host.Outcome State Fault Refusal := .next (s.timeoutOpening slot)

/-! ### Ownership commands -/

/-- The lease of a grant in ms (R416). -/
def leaseMsFull : Nat := 2000

/-- A valid handover offer of a domain to a slot (R417): answered within 1 s. -/
def State.offered (s : State) (k d : Nat) : Bool :=
  match Tab.find s.zh.offers d with
  | some o => o.target == k && decide (s.clk.now ≤ o.at_ + sTicks 1)
  | none => false

/-- The claimant's and the holder's priority for a domain (R415). -/
def State.prio (s : State) (k d : Nat) : Nat := (s.sess k).prio.getD d 0

/-- The decision of a claim (R415). -/
def claimRun (k d : Nat) (take hand : Bool) (s : State) : State × Reply :=
  match s.holder d with
  | none => (s.grant k d, .now 0 0 [leaseMsFull])
  | some h =>
    if h = k then (s.renewLease d, .now 0 0 [leaseMsFull])
    else if hand && s.offered k d then
      ((s.grant k d).notice h 3 [d, 2, s.fld (Fd.SS_STAT_MASTER k)], .now 0 0 [leaseMsFull])
    else if take && decide (s.prio h d < s.prio k d) then
      ((s.grant k d).notice h 3 [d, 1, s.fld (Fd.SS_STAT_MASTER k)], .now 0 0 [leaseMsFull])
    else (s, .now 0x32 (s.fld (Fd.OW_STAT_MASTER d) + 65536 * s.leaseMs d) [])

def judgeClaim (domain flags : Byte) (k : Nat) (s : State) : Judge :=
  { code := 0x10,
    bad := if 4 ≤ domain.toNat then some (0x21, 0) else if 4 ≤ flags.toNat then some (0x21, 1) else none,
    role := if s.hasRole k (domainRole domain.toNat) then none else some (domainRole domain.toNat),
    run := fun _ s => claimRun k domain.toNat (bitOf flags.toNat 0) (bitOf flags.toNat 1) s }

/-- OWN_CLAIM (R415): grants, renews, takes over or refuses a domain. -/
def execOwnClaim (q : Req) (domain flags : Byte) (s : State) : Host.Outcome State Fault Refusal :=
  .next (s.request (.ownClaim q domain flags) q 0x10 (judgeClaim domain flags))

/-- A command that needs the holder of the domain it names. -/
def judgeHolder (code : Nat) (domain : Byte) (run : Nat → State → State × Reply) (k : Nat) (s : State) : Judge :=
  { code := code, bad := if 4 ≤ domain.toNat then some (0x21, 0) else none,
    owner := if s.holds k domain.toNat then none else some domain.toNat, uses := [domain.toNat], run := run }

def judgeRenew (domain : Byte) : Nat → State → Judge :=
  judgeHolder 0x11 domain (fun _ s => (s, .now 0 0 [leaseMsFull]))

/-- OWN_RENEW (R416). -/
def execOwnRenew (q : Req) (domain : Byte) (s : State) : Host.Outcome State Fault Refusal :=
  .next (s.request (.ownRenew q domain) q 0x11 (judgeRenew domain))

def judgeRelease (domain : Byte) : Nat → State → Judge :=
  judgeHolder 0x12 domain (fun _ s => (s.freeDomain domain.toNat, .now 0 0 []))

/-- OWN_RELEASE (R416): the domain is free at once. -/
def execOwnRelease (q : Req) (domain : Byte) (s : State) : Host.Outcome State Fault Refusal :=
  .next (s.request (.ownRelease q domain) q 0x12 (judgeRelease domain))

def judgeHandover (domain : Byte) (target : Word) : Nat → State → Judge :=
  judgeHolder 0x13 domain (fun _ s =>
    match s.slotOf target with
    | some t =>
      if s.hasRole t (domainRole domain.toNat) then
        ({ s with zh := { s.zh with offers := s.zh.offers.put domain.toNat ⟨t, s.clk.now⟩ } }, .now 0 0 [])
      else (s, .now 0x41 4 [])
    | none => (s, .now 0x41 4 []))

/-- OWN_HANDOVER (R417): offers a held domain to a named session; a new offer replaces an old one. -/
def execOwnHandover (q : Req) (domain : Byte) (target : Word) (s : State) : Host.Outcome State Fault Refusal :=
  .next (s.request (.ownHandover q domain target) q 0x13 (judgeHandover domain target))

/-- HANDOVER_OFFER_LAPSE (R417): an offer unanswered for 1 s lapses. -/
def execHandoverOfferLapse (domain : Fin 4) (s : State) : Host.Outcome State Fault Refusal :=
  .next (s.lapseOffer domain)

def judgeQuery (_k : Nat) (_s : State) : Judge :=
  { code := 0x14, run := fun _ s =>
      (s, .now 0 0 ((List.range 4).flatMap (fun d =>
        [s.fld (Fd.OW_STAT_HELD d), s.fld (Fd.OW_STAT_SLOT d), s.fld (Fd.OW_STAT_MASTER d), s.leaseMs d]))) }

/-- OWN_QUERY (R421): the holder and lease of each domain. -/
def execOwnQuery (q : Req) (s : State) : Host.Outcome State Fault Refusal :=
  .next (s.request (.ownQuery q) q 0x14 judgeQuery)

/-- OWNER_LEASE_EXPIRY (R416): 2 s have passed without renewal. -/
def execOwnerLeaseExpiry (domain : Fin 4) (s : State) : Host.Outcome State Fault Refusal :=
  .next (s.expireLease domain)

/-! ### Commanded changes of the operating state -/

/-- The states in which a STATE_REQ target is legal (R428, Table 7). -/
def stateReqLegal (target : Nat) : Nat :=
  match target with
  | 3 => 0x0010
  | 4 => 0x0008
  | 6 => 0x0038
  | 9 => 0x0070
  | _ => 0x0240

/-- The domain a STATE_REQ needs (R430). -/
def stateReqDomain (target : Nat) (s : State) : Nat :=
  if target = 9 ∨ (target = 15 ∧ s.opState = 9) then domMaint else domControl

def judgeStateReq (target : Nat) (q : Req) (k : Nat) (s : State) : Judge :=
  { code := 0x30, legal := stateReqLegal target,
    owner := if s.holds k (stateReqDomain target s) then none else some (stateReqDomain target s),
    uses := [stateReqDomain target s],
    run := fun held s =>
      if target = 4 ∧ ¬ s.recordValid then (s, .now 0x41 1 [])
      else ({ s with sys := { s.sys with stateReq := s.sys.stateReq ++ [(target, q, held)] } }, .later) }

/-- An accepted STATE_REQ at the next tick edge, after any automatic transition (R430, R47): it is judged against the state
it then finds, the state changes, and the answer reports the new state. -/
def State.applyStateReq (s : State) (r : Nat × Req × Nat) : State :=
  match s.slotOf r.2.1.session with
  | none =>
    if s.inMap (stateReqLegal r.1) then s.enter (if r.1 = 15 then s.leaveTarget else r.1) 1 else s
  | some k =>
    if ¬ s.inMap (stateReqLegal r.1) then s.finish k r.2.1 0x30 0x10 (stateReqLegal r.1) 0 []
    else if r.1 = 4 ∧ ¬ s.recordValid then s.finish k r.2.1 0x30 0x41 0 1 []
    else (s.enter (if r.1 = 15 then s.leaveTarget else r.1) 1).finish k r.2.1 0x30 0 0 r.2.2 []

/-- Every accepted STATE_REQ, in order. -/
def State.applyStateReqs (s : State) : State :=
  s.sys.stateReq.foldl State.applyStateReq { s with sys := { s.sys with stateReq := [] } }

/-- STATE_REQ COMMISSION (R430). -/
def execStateReqCommission (q : Req) (s : State) : Host.Outcome State Fault Refusal :=
  .next (s.request (.stateReqCommission q) q 0x30 (judgeStateReq 3 q))

/-- STATE_REQ RUN (R430). -/
def execStateReqRun (q : Req) (s : State) : Host.Outcome State Fault Refusal :=
  .next (s.request (.stateReqRun q) q 0x30 (judgeStateReq 4 q))

/-- STATE_REQ MANUAL (R430). -/
def execStateReqManual (q : Req) (s : State) : Host.Outcome State Fault Refusal :=
  .next (s.request (.stateReqManual q) q 0x30 (judgeStateReq 6 q))

/-- STATE_REQ MAINT (R430). -/
def execStateReqMaint (q : Req) (s : State) : Host.Outcome State Fault Refusal :=
  .next (s.request (.stateReqMaint q) q 0x30 (judgeStateReq 9 q))

/-- STATE_REQ LEAVE (R430). -/
def execStateReqLeave (q : Req) (s : State) : Host.Outcome State Fault Refusal :=
  .next (s.request (.stateReqLeave q) q 0x30 (judgeStateReq 15 q))

/-! ### Violations, quarantine and deferral timeouts -/

/-- Whether a code is that of a session command of Table 6. -/
def knownCmd (c : Nat) : Bool :=
  [4, 5, 6, 7, 0x10, 0x11, 0x12, 0x13, 0x14, 0x20, 0x21, 0x30, 0x31, 0x32, 0x33, 0x34, 0x35, 0x40, 0x41, 0x42, 0x50, 0x51, 0x52, 0x60, 0x61,
    0x70, 0x71, 0x72, 0x73, 0x74, 0x78, 0x79].contains c

/-- Whether Serac's limited service answers a session command (R442). -/
def onLimited (c : Nat) : Bool :=
  [4, 5, 6, 0x10, 0x11, 0x12, 0x13, 0x14, 0x20, 0x21, 0x30, 0x31, 0x32, 0x33, 0x34, 0x35, 0x40].contains c

/-- A request of an unknown command: it passes the session's checks and is answered UNKNOWN_CMD first of all (R427), so it
is never held. -/
def judgeUnknown (cmd : Nat) (_k : Nat) (_s : State) : Judge :=
  { code := cmd, bad := some (0x22, 0), run := fun _ s => (s, .now 0x22 0 []) }

/-- A request whose payload does not match its command's layout, or holds a reserved field other than zero, is answered BAD_VALUE with the
byte offset of the field (R421, R427). -/
def judgePayload (cmd offset : Nat) (_k : Nat) (_s : State) : Judge :=
  { code := cmd, needMain := !onLimited cmd, bad := some (0x21, offset), run := fun _ s => (s, .now 0x21 offset []) }

/-- ZHOIDE_PROTOCOL_VIOLATION (R440, R405, R421, R441, R501): a frame that fails before its command is judged. Only the violations of
Table 9 count toward quarantine (log entry 10). A bad Craori frame is counted as a Zhoide frame is, and no answer goes to it (log entry 92). -/
def execZhoideProtocolViolation (c : Came) (l : Letter) (v : BadFrame) (s : State) : Host.Outcome State Fault Refusal :=
  let q := c.plain l.tag l.mbox
  match v with
  | .craoriUnparseable => .next (s.takeCra c (fun s => s.count Reg.NET_CNT_UNPARSE))
  | .craoriGcmFail => .next (s.takeCra c (fun s => ((s.count Reg.NET_CNT_UNPARSE).count Reg.NET_CNT_AUTH).raise Fd.NET_EVT_AUTH_FAIL noObj []))
  | .craoriViolation => .next (s.takeCra c (fun s => (s.count Reg.NET_CNT_PROTO).violate c.src))
  | .unknownCmd r cmd => .next (if knownCmd cmd.toNat then s else s.request (.ping r) r cmd.toNat (judgeUnknown cmd.toNat))
  | .badPayload r cmd offset => .next (if knownCmd cmd.toNat then s.request (.ping r) r cmd.toNat (judgePayload cmd.toNat offset) else s)
  | .unparseable => .next (s.takePlain q (fun s => s.count Reg.NET_CNT_UNPARSE))
  | .gcmFail => .next (s.takePlain q (fun s => ((s.count Reg.NET_CNT_UNPARSE).count Reg.NET_CNT_AUTH).raise Fd.NET_EVT_AUTH_FAIL noObj []))
  | .badLevel session cmd => .next (s.takePlain q (fun s => s.protoError q session cmd.toNat 1))
  | .badCrc cmd => .next (s.takePlain q (fun s => s.protoError q 0 cmd.toNat 2))
  | .badLength session cmd => .next (s.takePlain q (fun s => s.protoError q session cmd.toNat 3))
  | .reservedEnc session cmd => .next (s.takePlain q (fun s => s.protoError q session cmd.toNat 4))
  | .noSession cmd => .next (s.takePlain q (fun s => s.protoError q 0 cmd.toNat 5))
  | .copyFrame => .next (s.takePlain q (fun s => s.count Reg.NET_CNT_DUP))
  | .oldFrame => .next (s.takePlain q (fun s => s.count Reg.NET_CNT_OLD))

/-- The records of further seconds of a quarantine up to the present tick (R441). -/
def State.quarSeconds (s : State) (e : Nat) : State :=
  (List.range 9).foldl (fun s i =>
    let start := Tab.at 0 s.zh.quarEnd e - sTicks 10
    if Tab.at 0 s.zh.quarNext e = start + sTicks (i + 1) ∧ start + sTicks (i + 1) ≤ s.clk.now then
      { s.occur 0x3C8 e [9 - i, (s.rd (Reg.QU_VIOL e)).toNat] with
        zh := { s.zh with quarNext := s.zh.quarNext.put e (start + sTicks (i + 2)) } }
    else s) s

/-- A quarantine as time passes (R441): one QUARANTINE record for each further second that has passed, and its end 10 s after the violation
that started it. -/
def State.quarTick (s : State) (e : Nat) : State :=
  match Tab.find s.zh.quarEnd e with
  | none => s
  | some t =>
    let s := s.quarSeconds e
    if t ≤ s.clk.now then
      let s := { s with zh := { s.zh with quarEnd := s.zh.quarEnd.del e, quarNext := s.zh.quarNext.del e } }
      (List.range 6).foldl (fun s i => s.wr (Reg.QU_STAT e + 4 * i) 0) s
    else s

/-- QUARANTINE_END (R441): the records of a quarantine, and its end. -/
def execQuarantineEnd (entry : Fin 256) (s : State) : Host.Outcome State Fault Refusal := .next (s.quarTick entry)

/-- The answer to a held request that ends without executing, under the command code it was held with. -/
def State.dropHeld (s : State) (k m : Nat) (h : HeldReq) (code status legal detail : Nat) : State :=
  let q : Req := { src := 0, port := 0, row := false, session := s.rd (Reg.SS_ID k), seq := 0, tag := h.tag, mbox := Fin.ofNat 16 m,
                   defer := true, deferMs := 0 }
  (s.unhold k m).finish k q code status legal detail []

/-- Every deferral slot is emptied and each held request is answered NOT_AVAILABLE (R435: a main-die reset). -/
def State.dropAllHeld (s : State) : State :=
  (List.range 8).foldl (fun s k =>
    (List.range 16).foldl (fun s m =>
      match (s.mailbox k m).held with
      | some h => s.dropHeld k m h h.code 0x40 0 0
      | none => s) s) s

/-- A request still held when DEFER_MS has passed is answered STATE_TIMEOUT (R435). -/
def State.timeoutHeld (s : State) (k m : Nat) : State :=
  match (s.mailbox k m).held with
  | none => s
  | some h =>
    if h.at_ + msTicks h.ms ≤ s.clk.now then
      ((s.count Reg.SYS_CNT_DTMO).raise Fd.SYS_ERR_DEFER_TMO noObj []).dropHeld k m h h.code 0x11 h.legal (s.heldFor h)
    else s

/-- DEFER_TIMEOUT (R435). -/
def execDeferTimeout (slot : Fin 8) (mbox : Fin 16) (s : State) : Host.Outcome State Fault Refusal := .next (s.timeoutHeld slot mbox)

end Sys2Proof.Machine
end

