-- ==== Sys2Proof/Machine/Time.lean ====
section
/-! DEFINITION. Time and step phase (chapter 02): common snapshots (R99 to R101), anchors (R561), the time servo's
selection and states (R59 to R68), step-marker fusion and the extended angle of a job (R79 to R84, R188), and the action
table up to firing (R85 to R96). -/

namespace Sys2Proof.Machine

/-! ### Sample index and anchors -/

/-- The aligned index: floor(module time ÷ 10 µs) (R74). -/
def State.aligned (s : State) : BitVec 64 := BitVec.ofNat 64 (s.clk.mtime.toNat / 10000)

/-- The module time of a frame's arrival, in ns after the last tick edge (R65). -/
def State.arrival (s : State) (ns : Fin 10000) : BitVec 64 := s.clk.mtime + BitVec.ofNat 64 ns.val

/-- The estimated tick-edge error (R67): the servo's estimate in LOCKED, growing by 50 ns per second in HOLDOVER, unknown
otherwise. -/
def State.errEst (s : State) : Word :=
  match s.fld Fd.TIM_STAT_SERVO with
  | 2 => s.rd Reg.TIM_ERR_EST
  | 3 => BitVec.ofNat 32 (min (s.servo.holdBase + 50 * ((s.clk.now - s.servo.holdFrom) / 100000)) 0xFFFFFFFF)
  | _ => 0xFFFFFFFF

/-- A time anchor is written (R561): the table keeps the newest 4,096. -/
def State.anchor (s : State) (kind : Nat) : State :=
  let e : Anchor := { seq := s.firn.seq, sidx := s.clk.sidx, tcnt := s.clk.tcnt, mtime := s.clk.mtime,
                      servo := s.fld Fd.TIM_STAT_SERVO, err := s.errEst, kind := kind, valid := kind != 3 }
  let s := { s with firn := { s.firn with anchors := (e :: s.firn.anchors).take 4096 } }
  s.set Fd.FRN_ANC_HEAD_IDX (s.fld Fd.FRN_ANC_HEAD_IDX + 1)

/-! ### Common snapshots -/

/-- The blocks present: all with the main die, those housed on Serac without it (R100). -/
def State.blockPresent (s : State) (b : Nat) : Bool := !s.mainAbsent || onSerac (b * 0x1000000)

/-- Every block present latches its snapshot registers under a new ID (R100, R565): the counters, the IDs, and the sample
index. A second snapshot of one tick merges with the first. TIM_SNAP_ID and TIM_SNAP_IDX keep the last snapshot taken with the main die
present (DESIGN CHOICE, log entry 71). -/
def State.snapshot (s : State) : State :=
  if s.clk.snapTick = some s.clk.now then s else
  let id := if s.clk.snapId = 0xFFFF then 1 else s.clk.snapId + 1
  let s := { s with clk := { s.clk with snapId := id, snapTick := some s.clk.now,
                                        snapAt := s.clk.snapAt.filter (fun t => decide (s.clk.now < t)) } }
  let s := (List.range 15).foldl (fun s b =>
    if s.blockPresent b then
      let s := (List.range 32).foldl (fun s n => s.wr (Reg.CTR_SNAP b n) (s.rd (Reg.CTR_VAL b n))) s
      s.wr (Reg.BLK_SNAP_ID b) (BitVec.ofNat 32 id)
    else s) s
  if s.mainAbsent then s else
    ((s.wr Reg.TIM_SNAP_ID (BitVec.ofNat 32 id)).wr Reg.TIM_SNAP_IDX_LO (s.clk.sidx.setWidth 32)).wr
      Reg.TIM_SNAP_IDX_HI ((s.clk.sidx >>> 32).setWidth 32)

/-- A request for the common snapshot of the first tick at least 2 ticks later (R99). -/
def State.requestSnapshot (s : State) : State :=
  let t := s.clk.now + 2
  if t ∈ s.clk.snapAt then s else { s with clk := { s.clk with snapAt := s.clk.snapAt ++ [t] } }

/-- The ID that the snapshot requested at this moment will carry (R560). -/
def State.nextSnapId (s : State) : Nat :=
  (s.clk.snapId + (s.requestSnapshot.clk.snapAt.length) - 1) % 0xFFFF + 1

/-- The snapshot requested for this tick, taken at its edge (R100). -/
def State.snapshotNow (s : State) : State :=
  if s.clk.snapAt.any (fun t => decide (t ≤ s.clk.now)) then s.snapshot else s

/-- SNAPSHOT_REQUEST (R99): a write of TIM_SNAP_CTRL.NOW = 1. -/
def execSnapshotRequest (w : Fin 8) (s : State) : Host.Outcome State Fault Refusal :=
  .next (s.writeRow w Reg.TIM_SNAP_CTRL 1 true State.requestSnapshot)

/-! ### The time servo -/

/-- The instance of a network. -/
def State.ptp (s : State) (n : Net) : Ptp := match n with | .a => s.servo.a | .b => s.servo.b

/-- The state with an instance set. -/
def State.setPtp (s : State) (n : Net) (p : Ptp) : State :=
  match n with
  | .a => { s with servo := { s.servo with a := p } }
  | .b => { s with servo := { s.servo with b := p } }

/-- The instance that TIM_STAT.SEL names. -/
def State.selected (s : State) : Net := if s.on Fd.TIM_STAT_SEL then .b else .a

/-- The key of a master heard on a port: the port above the 80 bits of the sender's identity. -/
def masterKey (port sender : Nat) : Nat := port * 2 ^ 80 + sender % 2 ^ 80

/-- The comparison of Announce data by the best master clock algorithm (R59): priority 1, class, accuracy, variance,
priority 2, identity, steps removed, then the sender; the lower port number wins between equals. -/
def announceKey (a : Announce) : List Nat :=
  [a.priority1, a.clockClass, a.accuracy, a.variance, a.priority2, a.identity, a.stepsRemoved, a.head.sender]

/-- Lexicographic order of equally long keys. -/
def keyLt : List Nat → List Nat → Bool
  | a :: x, b :: y => decide (a < b) || (a == b && keyLt x y)
  | _, _ => false

/-- The key of the best Announce heard, that of the lowest port among equals (R59). -/
def bestMaster (seen : Tab (Announce × Nat)) : Option Nat :=
  seen.foldl (fun b p =>
    match b with
    | none => some p
    | some c => if keyLt (announceKey p.2.1) (announceKey c.2.1) then some p else b) none |>.map (·.1)

/-- The grandmaster class of an instance's master, 256 without one. -/
def Ptp.cls (p : Ptp) : Nat := (p.master.bind (fun m => Tab.find p.seen m)).elim 256 (fun x => x.1.clockClass)

/-- The selection of R63. An instance without a master is not selected while the other has one. -/
def State.choose (s : State) : Net :=
  let a := s.servo.a
  let b := s.servo.b
  let tie : Net := if s.servo.chosen then s.selected else if s.on Fd.TIM_CTRL_NET_PREF then .b else .a
  if a.lock && !b.lock then .a
  else if b.lock && !a.lock then .b
  else if a.lock && b.lock && decide (a.cls < b.cls) then .a
  else if a.lock && b.lock && decide (b.cls < a.cls) then .b
  else if !a.lock && a.master.isSome && b.master.isNone then .a
  else if !b.lock && b.master.isSome && a.master.isNone then .b
  else tie

/-- The servo enters ACQUIRE, where time may be stepped once (R61). -/
def State.toAcquire (s : State) : State :=
  let s := if s.fld Fd.TIM_STAT_SERVO = 2 then s.raise Fd.TIM_EVT_LOCK_LOST noObj [] else s
  ({ s with servo := { s.servo with stepped := false } }.set Fd.TIM_STAT_SERVO 1).wr Reg.TIM_ERR_EST 0xFFFFFFFF

/-- The servo enters HOLDOVER from LOCKED (R61, R62, R67). -/
def State.toHoldover (s : State) : State :=
  let s := { s with servo := { s.servo with holdFrom := s.clk.now, holdBase := (s.rd Reg.TIM_ERR_EST).toNat } }
  (s.raise Fd.TIM_EVT_LOCK_LOST noObj []).set Fd.TIM_STAT_SERVO 3

/-- The servo enters FREERUN: module time runs on the port die's oscillator (R61). -/
def State.toFreerun (s : State) : State :=
  let s := if s.fld Fd.TIM_STAT_SERVO = 2 then s.raise Fd.TIM_EVT_LOCK_LOST noObj [] else s
  ({ s with servo := { s.servo with rate := 0 } }.set Fd.TIM_STAT_SERVO 0).wr Reg.TIM_ERR_EST 0xFFFFFFFF

/-- The run of seconds in which both instances are LOCKED with offsets more than 1 µs apart (R64). -/
def State.watchApart (s : State) : State :=
  let d := s.servo.a.offset - s.servo.b.offset
  if s.servo.a.lock && s.servo.b.lock && (decide (d > 1000) || decide (d < -1000)) then
    match s.servo.apartFrom with
    | some _ => s
    | none => { s with servo := { s.servo with apartFrom := some s.clk.now } }
  else { s with servo := { s.servo with apartFrom := none, told := false } }

/-- The lock bits and the watch over the instances, after one of them has changed. -/
def State.showLocks (s : State) : State :=
  ((s.setB Fd.TIM_STAT_A_LOCK s.servo.a.lock).setB Fd.TIM_STAT_B_LOCK s.servo.b.lock).watchApart

/-- Whether the offsets of the instances differ by more than 1 ms (R63). -/
def Servo.farApart (v : Servo) : Bool := decide (v.a.offset - v.b.offset > 1000000) || decide (v.a.offset - v.b.offset < -1000000)

/-- A change of selection (R63): a difference above 1 ms takes a LOCKED servo to ACQUIRE, where the new instance meets the lock criterion
afresh. -/
def State.switchTo (s : State) (n : Net) : State :=
  let s := s.setB Fd.TIM_STAT_SEL (n == Net.b)
  let s := if s.servo.chosen then s.raise Fd.TIM_EVT_NET_SWITCH noObj [] else s
  if s.fld Fd.TIM_STAT_SERVO = 2 ∧ s.servo.farApart then
    (s.setPtp n { s.ptp n with inside := 0, lock := false }).showLocks.toAcquire
  else s

/-- The lock bits, the selection and the servo state after an instance has changed (R61 to R63). -/
def State.servoJudge (s : State) : State :=
  let s := s.showLocks
  if ¬ s.on Fd.TIM_CTRL_SERVO_EN then (if s.fld Fd.TIM_STAT_SERVO = 0 then s else s.toFreerun) else
  let new := s.choose
  let s := if s.selected = new then s else s.switchTo new
  let s := { s with servo := { s.servo with chosen := (s.ptp new).master.isSome || s.servo.chosen } }
  let p := s.ptp new
  match s.fld Fd.TIM_STAT_SERVO with
  | 2 => if p.lock then s else if p.master.isNone then s.toHoldover else s.toAcquire
  | 1 => if p.lock then s.set Fd.TIM_STAT_SERVO 2 else s
  | _ => if p.master.isSome then (let s := s.toAcquire; if p.lock then s.set Fd.TIM_STAT_SERVO 2 else s) else s

/-- An instance has lost its master (R62): LOCKED on it with no other instance LOCKED is left for HOLDOVER (R61), whatever other master
may be heard; ACQUIRE follows with the next message. -/
def State.lostMaster (s : State) (n : Net) : State :=
  if s.fld Fd.TIM_STAT_SERVO = 2 ∧ s.selected = n ∧ ¬ (s.ptp (otherNet n)).lock then s.showLocks.toHoldover else s.servoJudge

/-- An instance has lost its master and every Announce (R62). -/
def State.loseMaster (s : State) (n : Net) : State :=
  (s.setPtp n { s.ptp n with seen := [], master := none, inside := 0, outside := 0, lock := false }).lostMaster n

/-- A network's TIM_PTP word. -/
def ptpWord (n : Net) : Nat := match n with | .a => Reg.TIM_PTP_A | .b => Reg.TIM_PTP_B

/-- Whether a port of a network takes PTP messages: it exists and its die runs, PORT_CFG.EN and PTP (R400), and the instance is enabled. -/
def State.portTakesPtp (s : State) (n : Net) (port : Nat) : Bool :=
  let p := match n with | .a => port | .b => port + 8
  !s.portAbsent && portExists p && s.on (Fd.PORT_CFG_EN p) && s.on (Fd.PORT_CFG_PTP p) && fieldOf (s.rd (ptpWord n)) 0 1 == 1

/-- Whether an instance takes a message by its options (R60, TIM_PTP_x): its domain and its transport, of a served IP version (NET_CTRL). -/
def State.takesHead (s : State) (n : Net) (h : PtpHead) : Bool :=
  fieldOf (s.rd (ptpWord n)) 4 7 == h.domain.val && fieldOf (s.rd (ptpWord n)) 2 2 == h.transport.val &&
  (match h.transport with | 0 => s.on Fd.NET_CTRL_V4_EN | 1 => s.on Fd.NET_CTRL_V6_EN | _ => true)

/-- The number of a port of a network (R398). -/
def portOf (n : Net) (port : Nat) : Nat := match n with | .a => port | .b => port + 8

/-- A PTP message is counted at the port that takes it (PORT_CNT_RX). -/
def State.countPtp (s : State) (n : Net) (port : Nat) : State := if s.portTakesPtp n port then s.countRx (portOf n port) else s

/-- PTP_ANNOUNCE (R59): the instance takes its master by the best master clock algorithm over its network's ports. A better master leaves
the lock to the offsets that follow (R62). -/
def execPtpAnnounce (net : Net) (port : Fin 8) (a : Announce) (s : State) : Host.Outcome State Fault Refusal :=
  .next <|
    let s := s.countPtp net port
    if s.portTakesPtp net port && s.takesHead net a.head then
      let p := s.ptp net
      let seen := p.seen.put (masterKey port a.head.sender) (a, s.clk.now)
      (s.setPtp net { p with seen := seen, master := bestMaster seen }).servoJudge
    else s

/-- The Announce receipt timeout in ticks: 3 Announce intervals (R60). -/
def announceTimeout (log : Int) : Nat :=
  if log ≥ 0 then 3 * sTicks (2 ^ log.toNat) else 3 * sTicks 1 / 2 ^ (-log).toNat

/-- ANNOUNCE_RECEIPT_TIMEOUT (R62): no Announce of the master for 3 intervals. The instance has lost it, and the best of the others heard
is taken. -/
def execAnnounceReceiptTimeout (net : Net) (s : State) : Host.Outcome State Fault Refusal :=
  .next <|
    let p := s.ptp net
    let seen := p.seen.filter (fun e => decide (s.clk.now < e.2.2 + announceTimeout e.2.1.head.logInterval))
    if p.master.any (fun m => !Tab.has seen m) then
      (s.setPtp net { p with seen := seen, master := bestMaster seen, inside := 0, outside := 0, lock := false }).lostMaster net
    else s

/-- HOLDOVER_EXPIRY (R68): HOLDOVER has lasted TIM_HOLD_LIM. -/
def execHoldoverExpiry (s : State) : Host.Outcome State Fault Refusal :=
  .next <|
    if s.fld Fd.TIM_STAT_SERVO = 3 ∧ s.servo.holdFrom + sTicks (s.fld Fd.TIM_HOLD_LIM_SEC) ≤ s.clk.now then
      s.toFreerun.raise Fd.TIM_EVT_HOLD_EXPIRED noObj []
    else s

/-- INSTANCE_DISAGREE (R64): the instances have both been LOCKED and apart for 10 s. Selection does not change. -/
def execInstanceDisagree (s : State) : Host.Outcome State Fault Refusal :=
  .next (match s.servo.apartFrom with
    | some t =>
      if t + sTicks 10 ≤ s.clk.now ∧ ¬ s.servo.told ∧ s.servo.a.lock ∧ s.servo.b.lock then
        { s with servo := { s.servo with told := true } }.raise Fd.TIM_EVT_DISAGREE noObj []
      else s
    | none => s)

/-- The offset of a Sync message (R61, R65): arrival less departure less the path delay with the port's asymmetry. -/
def syncOffset (s : State) (n : Net) (port : Nat) (t1 t2 : BitVec 64) (pathDelay : Int) : Int :=
  let p := match n with | .a => port | .b => port + 8
  diff64 t2 t1 - (pathDelay + (s.rd (Reg.TIM_ASYM p)).toInt)

/-- The runs of R61 and R62 after an offset: 16 inside ±100 ns meet the lock criterion, 4 outside ±1 µs lose it. -/
def Ptp.sync (p : Ptp) (o : Int) : Ptp :=
  let inside := if -100 ≤ o ∧ o ≤ 100 then p.inside + 1 else 0
  let outside := if o > 1000 ∨ o < -1000 then p.outside + 1 else 0
  { p with offset := o, inside := inside, outside := outside,
           lock := if 16 ≤ inside then true else if 4 ≤ outside then false else p.lock }

/-! ### Step phase -/

/-- A job slot's tracker. -/
def Job.idle : Job :=
  { cfg := 0, period := 0, x := 0, heldTo := none, last := none, window := none, outliers := 0, agree := 0,
    interval := none, segs := [], segsNext := [], cls := none, history := [] }

def State.job (s : State) (j : Nat) : Job := Tab.at Job.idle s.jobs j

def State.setJob (s : State) (j : Nat) (x : Job) : State := { s with jobs := s.jobs.put j x }

/-- The rate: round(2^32 × 10,000 ÷ p), 0 before the first period (R81). -/
def Job.rate (j : Job) : Nat := if j.period = 0 then 0 else (roundDiv (2 ^ 32 * 10000) j.period).toNat

/-- The step number and the step angle of the extended angle (R81). -/
def Job.step (j : Job) : BitVec 32 := (j.x >>> 32).setWidth 32
def Job.angle (j : Job) : Nat := (j.x.toNat / 65536) % 65536

/-- The segment that holds the current angle (R84). -/
def Job.segment (j : Job) : Nat := (j.segs.filter (fun g => decide (g.1.toNat ≤ j.angle))).length - 1

/-- The phase class in force at the current angle, if the job has announced one. -/
def Job.phase (j : Job) : Option Nat := (j.segs[j.segment]?).map (fun g => g.2.toNat)

/-- An ANGLE target as an extended angle (R81). -/
def angleTarget (step : BitVec 32) (angle : Nat) : BitVec 64 := BitVec.ofNat 64 (step.toNat * 2 ^ 32 + angle % 65536 * 65536)

/-- The coded tracking state (R82). -/
def State.jobState (s : State) (j : Nat) : Nat := s.fld (Fd.JOB_STAT_STATE j)

/-! ### The action table -/

/-- The fields of an action entry that decide its trigger (R88, R104). -/
structure Trigger where
  trig : Nat
  kind : Nat
  job : Nat
  every : Bool
  value : BitVec 64
deriving DecidableEq, Repr

/-- The trigger held in entry `n`. -/
def State.trigger (s : State) (n : Nat) : Trigger :=
  { trig := s.fld (Fd.AE_CTRL_TRIG n), kind := s.fld (Fd.AE_CTRL_KIND n), job := s.fld (Fd.AE_CTRL_JOB n),
    every := s.on (Fd.AE_CTRL_EVERY n),
    value := (s.rd (Reg.AE_TRIG_HI n)) ++ (s.rd (Reg.AE_TRIG_LO n)) }

/-- The module time at whose edge a TIME trigger fires (R88, R98): its wire time, rounded up to a whole multiple of 10 µs while the tick
follows module time, and for a barrier always. -/
def Trigger.edgeTime (t : Trigger) (onTime : Bool) : BitVec 64 :=
  if onTime || t.kind == 6 then BitVec.ofNat 64 ((t.value.toNat + 9999) / 10000 * 10000) else t.value

/-- The step and the angle that an ANGLE trigger names. -/
def Trigger.step (t : Trigger) : BitVec 32 := (t.value >>> 32).setWidth 32
def Trigger.angle (t : Trigger) : Nat := t.value.toNat % 65536

/-- How long ago the trigger's moment was, in ns; negative for a moment to come (R92). An ANGLE entry for a named step whose job has no
period yet counts as not late (DESIGN CHOICE, log entry 72). -/
def State.age (s : State) (t : Trigger) : Int :=
  match t.trig with
  | 0 => -10000
  | 1 => diff64 s.clk.sidx t.value * 10000
  | 2 => diff64 s.clk.mtime t.value
  | _ =>
    let j := s.job t.job
    let d := diff64 j.x (angleTarget t.step t.angle)
    if t.every ∨ d < 0 ∨ j.rate = 0 then 0 else d * 10000 / j.rate

/-- The lateness L in ns (R92). For a SETPOINT entry it is measured from the seal tick: the first tick 80 of a frame at or
after the trigger's tick (R90). -/
def State.lateness (s : State) (t : Trigger) : Int :=
  let a := s.age t
  if t.kind = 2 then
    if a ≤ 0 then min a 0 else
      let n := (s.clk.sidx.toNat : Int) - a / 10000
      let at_ := n + (180 - n % 100) % 100
      ((s.clk.sidx.toNat : Int) - at_) * 10000
  else if t.trig = 0 then 0 else a

/-- Whether a trigger of this lateness is refused as LATE: more than 1 ms, or any lateness of a BARRIER (R93, R94). -/
def tooLate (t : Trigger) (l : Int) : Bool := decide (l > 1000000) || (t.kind == 6 && decide (l > 0))

/-- A lateness in µs, saturating (R93). -/
def lateUs (l : Int) : Nat := min (l.toNat / 1000) 0xFFFFFFFF

/-- The ARMED entries in commit order, and TIM_ACT_USED. -/
def State.setArmed (s : State) (l : List Nat) : State :=
  { s with act := { s.act with armed := l } }.set Fd.TIM_ACT_USED_N l.length

/-- An entry leaves ARMED for a state with a reason (Table 3, Table 7). -/
def State.endEntry (s : State) (n state reason : Nat) : State :=
  let s := (s.set (Fd.AE_STAT_STATE n) state).set (Fd.AE_STAT_REASON n) reason
  let s := { s with act := { s.act with since := s.act.since.del n, late := s.act.late.del n, every := s.act.every.del n } }
  s.setArmed (s.act.armed.filter (fun m => m != n))

/-- The next step in which an EVERY entry crosses its angle (R83). -/
def nextCrossing (j : Job) (angle : Nat) : BitVec 32 := if angle ≤ j.angle then j.step + 1 else j.step

/-- A refusal as LATE is counted and recorded (R93); that of a PLAN_EMIT also in the plan's words (R262). -/
def State.refuseLate (s : State) (n us : Nat) : State :=
  let s := (s.count Reg.TIM_ACT_CNT_LATE).raise Fd.TIM_EVT_ACT_LATE n [us]
  if (s.trigger n).kind = 1 then (s.count Reg.PLN_CNT_LATE).raise Fd.PLN_EVT_LATE n [us] else s

/-- Commit of the entry whose words are written (R86, R93, R94): ARMED, ARMED to fire late, or REFUSED as LATE. -/
def State.commitEntry (s : State) (n : Nat) : State :=
  let t := s.trigger n
  let l := s.lateness t
  let seq := s.act.seq + 1
  let s := ({ s with act := { s.act with seq := seq } }.wr (Reg.AE_SEQ n) seq).wr (Reg.AE_LATE n) 0
  let s := s.set (Fd.AE_STAT_REASON n) 0
  if tooLate t l then ((s.set (Fd.AE_STAT_STATE n) 4).set (Fd.AE_STAT_REASON n) 1).refuseLate n (lateUs l)
  else
    let s := (s.set (Fd.AE_STAT_STATE n) 1).setArmed (s.act.armed ++ [n])
    let act := { s.act with since := s.act.since.put n s.clk.now }
    let act := if l > 0 then { act with late := act.late.put n (lateUs l) } else act
    let act := if t.trig = 3 ∧ t.every then { act with every := act.every.put n (nextCrossing (s.job t.job) t.angle) } else act
    { s with act := act }

/-- A cancel of the ARMED entry `n` is taken in this tick (R86). -/
def State.takeCancel (s : State) (n : Nat) (q : Option Req) : State :=
  { s with act := { s.act with cancels := s.act.cancels ++ [⟨n, s.rd (Reg.AE_SEQ n), s.clk.now, q⟩] } }

/-- A low trigger word that waits for its high word (R11) stands at once for an ANGLE entry, whose angle and step are values of their own
(R104). -/
def State.takeAngle (s : State) (n : Nat) : State :=
  if s.fld (Fd.AE_CTRL_TRIG n) ≠ 3 then s else
  match Tab.find s.wlow (Reg.AE_TRIG_LO n) with
  | some w => { s.wr (Reg.AE_TRIG_LO n) w with wlow := s.wlow.del (Reg.AE_TRIG_LO n) }
  | none => s

/-- A write of AE_CTRL (R86): commit, cancel, or a plain write of an entry that is not ARMED. The word of an entry that a write cancels
stays, VALID with it (DESIGN CHOICE, log entry 73). -/
def State.writeEntry (n : Nat) (v : Word) (s : State) : State :=
  if s.fld (Fd.AE_STAT_STATE n) = 1 then
    if fieldOf v 31 1 = 1 then s else s.takeCancel n none
  else
    let s := (s.wr (Reg.AE_CTRL n) (writeMasked (s.rd (Reg.AE_CTRL n)) v 0xFFFF8000 0)).takeAngle n
    if fieldOf v 31 1 = 1 then s.commitEntry n else s

/-- EVERY may be 1 only with TRIG = 3 (R104). -/
def crossAction (v : Word) : Bool := fieldOf v 15 1 == 0 || fieldOf v 28 3 == 3

/-- The row's answer to a commit that was refused: LATE with L in µs (R93, R419). -/
def State.writeAction (s : State) (w n : Nat) (v : Word) : State :=
  let was := s.fld (Fd.AE_STAT_STATE n)
  let t := s.writeRow w (Reg.AE_CTRL n) v (crossAction v) (State.writeEntry n v)
  if was ≠ 1 ∧ t.fld (Fd.AE_STAT_STATE n) = 4 ∧ t.act.seq ≠ s.act.seq then
    match t.out with
    | .wrote k a _ _ _ :: rest =>
      { t with out := .wrote k a 0x13 0 (lateUs (s.lateness (t.trigger n))) :: rest }
    | _ => t
  else t

/-- ACTION_COMMIT (R86): a write of AE_CTRL with VALID = 1. -/
def execActionCommit (w : Fin 8) (n : Fin 4096) (value : Word) (s : State) : Host.Outcome State Fault Refusal :=
  .next (s.writeAction w n value)

/-- ACTION_CANCEL_WRITE (R86): a write of AE_CTRL with VALID = 0. -/
def execActionCancelWrite (w : Fin 8) (n : Fin 4096) (value : Word) (s : State) : Host.Outcome State Fault Refusal :=
  .next (s.writeRow w (Reg.AE_CTRL n) value (crossAction value) (State.writeEntry n value))

/-- Whether a cancel's entry is still the one it was taken of: an entry that has fired since may have been committed again. -/
def State.cancelStands (s : State) (c : Cancel) : Bool := s.rd (Reg.AE_SEQ c.entry) == c.seq

/-- Cancels taken in an earlier tick end their entries at this edge (R86); an ACTION_CANCEL is then answered with the
entry's final state (R424), FIRED where it has been committed again since. -/
def State.settleCancels (s : State) : State :=
  let duec := s.act.cancels.filter (fun c => decide (c.taken < s.clk.now))
  let s := { s with act := { s.act with cancels := s.act.cancels.filter (fun c => !decide (c.taken < s.clk.now)) } }
  duec.foldl (fun s c =>
    let s := if s.fld (Fd.AE_STAT_STATE c.entry) = 1 ∧ s.cancelStands c then s.endEntry c.entry 3 3 else s
    match c.reply with
    | none => s
    | some q =>
      match s.slotOf q.session with
      | some k => s.finish k q 0x42 0 0 0 [if s.cancelStands c then s.fld (Fd.AE_STAT_STATE c.entry) else 2]
      | none => s) s

/-- The action table is emptied (R91): every entry is FREE again. -/
def State.emptyActions (s : State) : State :=
  let waiting := s.act.cancels
  let s := { s with act := { s.act with armed := [], since := [], late := [], every := [], cancels := [], trims := [] },
                    regs := s.regs.filter (fun p => !(decide (Reg.AE_CTRL 0 ≤ p.1) && decide (p.1 < Reg.AE_CTRL 4096))) }
  let s := s.setArmed []
  waiting.foldl (fun s c =>
    match c.reply.bind (fun q => (s.slotOf q.session).map (fun k => (k, q))) with
    | some (k, q) => s.finish k q 0x42 0x40 0 0 []
    | none => s) s

/-- Whether an armed entry's trigger has been reached at this tick (R88 to R90). -/
def State.due (s : State) (n : Nat) : Bool :=
  let t := s.trigger n
  let later := decide (Tab.at 0 s.act.since n < s.clk.now)
  if s.act.late.has n then later else
  match t.trig with
  | 0 => later
  | 1 => decide (diff64 s.clk.sidx t.value ≥ 0)
  | 2 => decide (diff64 s.clk.mtime (t.edgeTime (s.fld Fd.TIM_STAT_TICK_SRC == 1)) ≥ 0)
  | _ =>
    let st := s.jobState t.job
    let step := if t.every then Tab.at 0 s.act.every n else t.step
    (st == 2 || st == 3) && decide (diff64 (s.job t.job).x (angleTarget step t.angle) ≥ 0)

/-- The armed entries of a job for a named step are cancelled with reason PHASE_LOST (R82). -/
def State.losePhase (s : State) (j : Nat) : State :=
  (s.act.armed.filter (fun n => (s.trigger n).trig == 3 && (s.trigger n).job == j && !(s.trigger n).every)).foldl
    (fun s n => s.endEntry n 3 2) s

/-- The armed ANGLE entries of a job that enters LOCKED are judged by the late-action rule (R83, R93): one that is late within 1 ms fires at
the next tick. -/
def State.judgeAngles (s : State) (j : Nat) : State :=
  (s.act.armed.filter (fun n => (s.trigger n).trig == 3 && (s.trigger n).job == j)).foldl (fun s n =>
    let t := s.trigger n
    let l := s.lateness t
    if t.every then { s with act := { s.act with every := s.act.every.put n (nextCrossing (s.job j) t.angle) } }
    else if tooLate t l then (s.endEntry n 4 1).refuseLate n (lateUs l)
    else if l > 0 then { s with act := { s.act with late := s.act.late.put n (lateUs l), since := s.act.since.put n s.clk.now } } else s) s

/-! ### Step markers and boundaries -/

/-- Since when a job slot is neither LOCKED nor COAST (R243), after a change of its state. -/
def State.noteHeld (s : State) (j old st : Nat) : State :=
  if st = 2 ∨ st = 3 then { s with plan := { s.plan with unlocked := s.plan.unlocked.del j } }
  else if old = 2 ∨ old = 3 then { s with plan := { s.plan with unlocked := s.plan.unlocked.put j s.clk.now } }
  else s

/-- A job slot changes its tracking state (R82). -/
def State.setJobState (s : State) (j st : Nat) : State :=
  let old := s.jobState j
  let s := (s.set (Fd.JOB_STAT_STATE j) st).noteHeld j old st
  if st = 2 ∧ old ≠ 2 ∧ old ≠ 3 then s.judgeAngles j else s

/-- The lower median of the boundary times of a window, by the signed difference from the first (R80, R66). -/
def lowerMedian (l : List (BitVec 64)) : BitVec 64 :=
  match l with
  | [] => 0
  | a :: _ => (sortBy (fun x y => decide (diff64 x a ≤ diff64 y a)) l).getD ((l.length - 1) / 2) 0

/-- An interval that a tracker takes: 5 ms to 600 s (R82). -/
def inRange (i : Int) : Bool := decide (5000000 ≤ i) && decide (i ≤ 600000000000)

/-- The tracked angle of a boundary (s, tb) at this tick (R81). -/
def State.tracked (s : State) (j : Job) (step : BitVec 32) (tb : BitVec 64) : BitVec 64 :=
  BitVec.ofNat 64 (step.toNat * 2 ^ 32) + BitVec.ofInt 64 (diff64 s.clk.mtime tb * (j.rate : Int) / 10000)

/-- The lock test of ACQUIRE (R82): 4 consecutive intervals, each within LOCK_JIT of the one before. -/
def Job.agrees (j : Job) (i : Int) : Bool :=
  match j.interval with
  | none => false
  | some p => decide ((i - p).natAbs * 1000 ≤ fieldOf j.cfg 7 7 * p)

/-- The tracked angle follows a boundary at once: in ACQUIRE, and at the first boundary. -/
def Job.follow (j : Job) (x : BitVec 64) : Job := { j with x := x, heldTo := none }

/-- A slot enters ACQUIRE (Table 2): the lock test begins anew. -/
def State.acquireJob (s : State) (n : Nat) : State := (s.setJob n { s.job n with agree := 0, outliers := 0 }).setJobState n 1

/-- An interval in ACQUIRE (R81, R82): x follows the tracked angle, computed with the rate held before; an interval outside the range is
ignored. -/
def State.fuseAcquire (s : State) (n : Nat) (j : Job) (i : Int) (xt : BitVec 64) : State :=
  if inRange i then
    let agree := if j.agrees i then j.agree + 1 else 0
    let s := s.setJob n { j.follow xt with period := i.toNat, interval := some i.toNat, agree := agree, outliers := 0 }
    if 4 ≤ agree then s.setJobState n 2 else s
  else s.setJob n (j.follow xt)

/-- A boundary in LOCKED or COAST (R81, R82). -/
def State.fuseTrack (s : State) (n : Nat) (j : Job) (i : Int) (xt : BitVec 64) : State :=
  let e := diff64 xt j.x
  if e > 2 ^ 31 ∨ e < -(2 ^ 31) then (s.setJob n j).acquireJob n
  else
    let j := if e > 0 then j.follow xt else { j with heldTo := if e = 0 then none else some xt }
    let j := if inRange i then { j with interval := some i.toNat } else j
    let ok := inRange i && decide (4 * (i - j.period).natAbs ≤ j.period)
    let j := if ok then { j with period := ((j.period : Int) + (i - j.period) / 8).toNat, outliers := 0 }
             else { j with outliers := j.outliers + 1 }
    let s := s.setJob n j
    if 2 ≤ j.outliers then s.acquireJob n else s.setJobState n 2

/-- A fused boundary (s, tb) at this tick (R81, R82). A boundary of a LOST slot takes it to ACQUIRE. The divisions of the procedure round
down (DESIGN CHOICE, log entry 74). -/
def State.fuse (s : State) (n : Nat) (step : BitVec 32) (tb : BitVec 64) : State :=
  let s := if s.jobState n = 4 then s.acquireJob n else s
  let j := { s.job n with cfg := s.rd (Reg.JOB_CFG n), window := none, last := some (step, tb) }
  let xt := s.tracked j step tb
  match (s.job n).last with
  | none => s.setJob n (j.follow xt)
  | some (s0, t0) =>
    let i := diff64 tb t0 / (diff32 step s0)
    if s.jobState n = 1 then s.fuseAcquire n j i xt else s.fuseTrack n j i xt

/-- The collection window of a job slot closes and its boundary is fused (R80). -/
def State.closeWindow (s : State) (n : Nat) : State :=
  match (s.job n).window with
  | none => s
  | some w => s.fuse n w.step (lowerMedian w.times)

/-- A step marker reaches a job slot (R79, R80): dropped and counted, collected, or the opening of a window. A marker takes a
LOST slot to ACQUIRE. A marker for a step between the last fused one and that of the open window is dropped (DESIGN CHOICE, log entry 75). -/
def State.marker (s : State) (n : Nat) (step : BitVec 32) (tb arrived : BitVec 64) : State :=
  let j := s.job n
  let old := j.last.any (fun l => decide (diff32 step l.1 ≤ 0) || decide (diff64 tb l.2 < 0))
  let behind := j.window.any (fun w => decide (diff32 step w.step < 0))
  if old || behind || decide (diff64 tb arrived > 1000000) then s.count Reg.TIM_MRK_DROP
  else
    let s := if s.jobState n = 4 then s.acquireJob n else s
    let j := s.job n
    match j.window with
    | some w =>
      if w.step = step then s.setJob n { j with window := some { w with times := w.times ++ [tb] } }
      else
        let s := s.closeWindow n
        if (s.job n).last.any (fun l => decide (diff64 tb l.2 < 0)) then s.count Reg.TIM_MRK_DROP
        else s.setJob n { s.job n with window := some ⟨step, s.clk.now, [tb]⟩ }
    | none => s.setJob n { j with window := some ⟨step, s.clk.now, [tb]⟩ }

/-- MARKER_WINDOW_CLOSE (R80): JOB_CFG.WIN has passed since the window opened. -/
def execMarkerWindowClose (j : Fin 256) (s : State) : Host.Outcome State Fault Refusal :=
  .next (match (s.job j).window with
    | some w => if w.openedAt + fieldOf (s.job j).cfg 20 10 ≤ s.clk.now then s.closeWindow j else s
    | none => s)

/-- The steps-and-angle that a tracker passes without a fused boundary after `k` further steps (R82). -/
def coastLimit (j : Job) (k : Nat) : Option (BitVec 64) :=
  j.last.map (fun l => BitVec.ofNat 64 ((l.1.toNat + k) * 2 ^ 32 + 16384 * 65536))

/-- JOB_COAST (R82): a LOCKED job has passed the next boundary by a quarter step with no fused marker. -/
def execJobCoast (j : Fin 256) (s : State) : Host.Outcome State Fault Refusal :=
  .next (match coastLimit (s.job j) 1 with
    | some x => if s.jobState j = 2 ∧ diff64 (s.job j).x x ≥ 0 then s.setJobState j 3 else s
    | none => s)

/-- JOB_LOST (R82): a coasting job has passed COAST_MAX further steps; its named-step entries are cancelled. -/
def execJobLost (j : Fin 256) (s : State) : Host.Outcome State Fault Refusal :=
  .next (match coastLimit (s.job j) (1 + fieldOf (s.job j).cfg 14 6) with
    | some x =>
      if s.jobState j = 3 ∧ diff64 (s.job j).x x ≥ 0 then
        ((s.setJobState j 4).losePhase j).raise Fd.TIM_EVT_JOB_LOST j []
      else s
    | none => s)

/-- A write of JOB_CFG (R105, R82, R188): EN acts at once, every other field at the next fused boundary; a slot that leaves
IDLE starts with the whole word in force, and IDLE clears the slot's job class. -/
def State.writeJobCfg (j : Nat) (v : Word) (s : State) : State :=
  let s := s.wr (Reg.JOB_CFG j) (writeMasked (s.rd (Reg.JOB_CFG j)) v 0x3FFFFFFF 0)
  let en := fieldOf v 0 1 = 1
  if en ∧ s.jobState j = 0 then (s.setJob j { Job.idle with cfg := s.rd (Reg.JOB_CFG j) }).setJobState j 1
  else if ¬ en ∧ s.jobState j ≠ 0 then
    { (s.losePhase j).setJobState j 0 with jobs := s.jobs.del j }
  else s

/-- JOB_CFG_WRITE (R105). -/
def execJobCfgWrite (w : Fin 8) (j : Fin 256) (value : Word) (s : State) : Host.Outcome State Fault Refusal :=
  .next (s.writeRow w (Reg.JOB_CFG j) value true (State.writeJobCfg j value))

/-- The announced segments whose step has come take effect, the latest step's last (R84). -/
def Job.takeSegs (j : Job) : Job :=
  let due := sortBy (fun (a b : BitVec 32 × List (BitVec 16 × BitVec 16)) => decide (diff32 a.1 b.1 ≤ 0))
    (j.segsNext.filter (fun p => decide (diff32 j.step p.1 ≥ 0)))
  match due.getLast? with
  | some p => { j with segs := p.2, segsNext := j.segsNext.filter (fun p => decide (diff32 j.step p.1 < 0)) }
  | none => j

/-- One tick of every tracker (R81, R84): the angle advances by the rate, or is held until the tracked angle reaches it, and
announced segments take effect at their step. -/
def Job.tick (j : Job) : Job :=
  let r := BitVec.ofNat 64 j.rate
  let j := match j.heldTo with
    | none => { j with x := j.x + r }
    | some t => if diff64 (t + r) j.x ≥ 0 then { j with x := t + r, heldTo := none } else { j with heldTo := some (t + r) }
  j.takeSegs

def State.tickJobs (s : State) : State := { s with jobs := s.jobs.map (fun p => (p.1, p.2.tick)) }

def judgeStepMark (job : Byte) (step : Word) (stamp : Stamp) (k : Nat) (s : State) : Judge :=
  { code := 0x51, needMain := true, legal := 0x03F8,
    role := if s.hasRole k roleScheduler then none else some roleScheduler,
    run := fun _ s =>
      if s.jobState job.toNat ≠ 0 ∧ fieldOf (s.job job.toNat).cfg 1 1 = 1 then (s.marker job.toNat step stamp.time (s.arrival stamp.ns), .now 0 0 [])
      else (s, .now 0 0 []) }

/-- STEP_MARK (R425, R79): a scheduler marker, taken by a slot that accepts scheduler markers; its frame arrives `stamp.ns` nanoseconds after the
tick edge (R65). -/
def execStepMark (q : Req) (job : Byte) (step : Word) (stamp : Stamp) (s : State) : Host.Outcome State Fault Refusal :=
  .next (s.request (.stepMark q job step stamp) q 0x51 (judgeStepMark job step stamp))

/-- The start angles of announced segments rise strictly (R84). -/
def rising : List (BitVec 16 × BitVec 16) → Bool
  | a :: b :: t => decide (a.1.toNat < b.1.toNat) && rising (b :: t)
  | _ => true

/-- The first wrong field of a PHASE_ANNOUNCE, by its byte offset (R425). -/
def phaseBad (job : Byte) (segs : List (BitVec 16 × BitVec 16)) (s : State) : Option (Nat × Nat) :=
  if s.jobState job.toNat = 0 then some (0x21, 0)
  else if segs.length = 0 ∨ 16 < segs.length then some (0x21, 1)
  else if (segs.head?.any (fun g => g.1 != 0)) || !rising segs then some (0x21, 8)
  else
    let c := (segs.headD (0, 0)).2.toNat / 256
    if segs.all (fun g => g.2.toNat / 256 == c) && (s.job job.toNat).cls.all (fun d => d == c) then none else some (0x21, 10)

/-- An announcement of a job's step segments (R84, R188): it takes effect at the boundary of its step, or at the next one if
that step has begun. -/
def State.announcePhases (s : State) (n : Nat) (step : BitVec 32) (segs : List (BitVec 16 × BitVec 16)) : State :=
  let j := s.job n
  let at_ := if diff32 step j.step ≤ 0 then j.step + 1 else step
  s.setJob n { j with segsNext := j.segsNext.filter (fun p => p.1 != at_) ++ [(at_, segs)], cls := some ((segs.headD (0, 0)).2.toNat / 256),
                      history := (at_, segs) :: j.history }

def judgePhase (job : Byte) (step : Word) (segs : List (BitVec 16 × BitVec 16)) (k : Nat) (s : State) : Judge :=
  { code := 0x50, needMain := true, legal := 0x03F8, bad := phaseBad job segs s,
    role := if s.hasRole k roleScheduler then none else some roleScheduler,
    run := fun _ s => (s.announcePhases job.toNat step segs, .now 0 0 []) }

/-- PHASE_ANNOUNCE (R425, R84). -/
def execPhaseAnnounce (q : Req) (job : Byte) (step : Word) (segs : List (BitVec 16 × BitVec 16)) (s : State) :
    Host.Outcome State Fault Refusal :=
  .next (s.request (.phaseAnnounce q job step segs) q 0x50 (judgePhase job step segs))

/-- The domain an ACTION_ADD or ACTION_CANCEL needs, by the kind (R434). -/
def kindDomain (kind : Nat) : Nat :=
  match kind with
  | 1 | 3 => domPlan
  | 2 => domControl
  | 4 | 5 => domRecord
  | _ => domMaint

/-- The first wrong field of an ACTION_ADD, by its byte offset (R424, R104). -/
def actionBad (a : ActionFields) : Option (Nat × Nat) :=
  if 4 ≤ a.trig.toNat then some (0x21, 0)
  else if a.kind.toNat = 0 ∨ 7 ≤ a.kind.toNat then some (0x21, 1)
  else if 2 ≤ a.every.toNat ∨ (a.every.toNat = 1 ∧ a.trig.toNat ≠ 3) then some (0x21, 3)
  else if a.trig.toNat = 3 ∧ a.trigVal.toNat % 65536 ≠ 0 then some (0x21, 10)
  else none

/-- The trigger value of an ACTION_ADD in the form of the entry's words (R424): for ANGLE the step is in bytes 0 to 3 and the
angle in bytes 4 and 5. -/
def actionValue (a : ActionFields) : BitVec 64 :=
  if a.trig.toNat = 3 then BitVec.ofNat 64 (a.trigVal.toNat / 2 ^ 32 * 2 ^ 32 + a.trigVal.toNat / 65536 % 65536) else a.trigVal

/-- The lowest entry that is not ARMED (R87). -/
def State.freeEntry (s : State) : Option Nat := (List.range 4096).find? (fun n => !s.act.armed.contains n)

/-- ACTION_ADD fills and commits an entry, or is refused LATE and occupies none (R424, R87, R93). -/
def actionRun (a : ActionFields) (s : State) : State × Reply :=
  match s.freeEntry with
  | none => (s, .now 0x12 0 [])
  | some n =>
    let v := actionValue a
    let t : Trigger := ⟨a.trig.toNat, a.kind.toNat, a.job.toNat, a.every.toNat == 1, v⟩
    let l := s.lateness t
    if tooLate t l then (s.refuseLate n (lateUs l), .now 0x13 (lateUs l) [])
    else
      let c := 2 ^ 31 + a.trig.toNat * 2 ^ 28 + a.kind.toNat * 2 ^ 24 + a.job.toNat * 65536 + a.every.toNat * 32768
      let s := ((((s.wr (Reg.AE_CTRL n) (BitVec.ofNat 32 c)).wr (Reg.AE_TRIG_LO n) (v.setWidth 32)).wr (Reg.AE_TRIG_HI n)
        ((v >>> 32).setWidth 32)).wr (Reg.AE_ARG0 n) a.arg0).wr (Reg.AE_ARG1 n) a.arg1
      let s := s.commitEntry n
      (s, .now 0 0 [n, s.act.seq.toNat])

def judgeActionAdd (a : ActionFields) (k : Nat) (s : State) : Judge :=
  { code := 0x41, needMain := true, legal := 0x03F8, bad := actionBad a,
    owner := if s.holds k (kindDomain a.kind.toNat) then none else some (kindDomain a.kind.toNat),
    uses := [kindDomain a.kind.toNat], busy := s.freeEntry.isNone, run := fun _ s => actionRun a s }

/-- ACTION_ADD (R424). -/
def execActionAdd (q : Req) (a : ActionFields) (s : State) : Host.Outcome State Fault Refusal :=
  .next (s.request (.actionAdd q a) q 0x41 (judgeActionAdd a))

def judgeActionCancel (q : Req) (entry : BitVec 16) (k : Nat) (s : State) : Judge :=
  let n := entry.toNat
  let d := kindDomain (s.fld (Fd.AE_CTRL_KIND n))
  { code := 0x42, needMain := true, legal := 0x03F8, bad := if 4096 ≤ n then some (0x21, 0) else none,
    owner := if s.holds k d then none else some d, uses := [d],
    run := fun _ s =>
      if s.fld (Fd.AE_STAT_STATE n) = 1 then
        (s.takeCancel n (some q), .later)
      else (s, .now 0 0 [s.fld (Fd.AE_STAT_STATE n)]) }

/-- ACTION_CANCEL (R424): a cancel of an ARMED entry is answered after the next edge. -/
def execActionCancel (q : Req) (entry : BitVec 16) (s : State) : Host.Outcome State Fault Refusal :=
  .next (s.request (.actionCancel q entry) q 0x42 (judgeActionCancel q entry))

end Sys2Proof.Machine
end

