-- ==== Sys2Proof/Machine/Streams.lean ====
section
/-! DEFINITION. Telemetry streams (chapter 03): stream frames on the wire and their checks (R107 to R115), de-duplication
and reordering (R111 to R113), sample acceptance (R114 to R119, R124), supervision (R127 to R132), pairs (R134 to R136),
substitution and the guard digest (R137 to R140), and the staged configuration (R121 to R123). -/

namespace Sys2Proof.Machine

/-! ### Streams and accelerators -/

def Supv.fresh (now : Nat) (stale : Bool) : Supv :=
  { since := now, stale := stale, fault := false, suspect := false, validFrom := none, resFrom := none, clearFrom := none,
    lastRead := now, reads := [], loads := [] }

def Strm.fresh (now : Nat) : Strm := { lastIdx := none, lastTime := 0, fcastAt := 0, sup := Supv.fresh now true }

def State.strm (s : State) (i : Nat) : Strm := Tab.at (Strm.fresh 0) s.stm.strm i

def State.setStrm (s : State) (i : Nat) (x : Strm) : State := { s with stm := { s.stm with strm := s.stm.strm.put i x } }

def StrmSrc.none : StrmSrc := ⟨0, Option.none, Option.none, [], Option.none, Option.none, 0⟩

def State.strmSrc (s : State) (a : Nat) : StrmSrc := Tab.at StrmSrc.none s.stm.src a

def State.setSrc (s : State) (a : Nat) (x : StrmSrc) : State := { s with stm := { s.stm with src := s.stm.src.put a x } }

/-- The global ID of a local index: its own module's, or the original one of an adopted accelerator (R200, R510). -/
def State.globalOf (s : State) (a : Nat) : Nat :=
  (Tab.find s.stm.adopted a).getD (s.sys.straps.moduleId * 4096 + a)

/-- The local index of a global accelerator ID in this module's row configuration (R125). -/
def State.localOf (s : State) (g : Nat) : Option Nat :=
  match s.stm.adopted.find? (fun p => p.2 == g) with
  | some p => some p.1
  | none => if g / 4096 = s.sys.straps.moduleId ∧ Tab.has s.stm.row (g % 4096) ∧ ¬ Tab.has s.stm.adopted (g % 4096)
            then some (g % 4096) else none

/-- Whether a row configuration keeps the limits of Table 1 of chapter 01 (R22): local indices 0 to 4,095, each once, racks 0 to 47, and
at most 128 accelerators in a rack. -/
def rowLimits (row : Tab Nat) : Bool :=
  row.all (fun p => decide (p.1 < 4096) && decide (p.2 < 48)) && decide (row.map (·.1)).Nodup &&
  (List.range 48).all (fun r => decide ((row.filter (fun p => p.2 == r)).length ≤ 128))

/-- A row configuration is loaded from outside (R22, R23, log entry 11): one that exceeds a limit is refused, and the one in force stays. -/
def State.loadRow (s : State) (row : Tab Nat) : State :=
  if rowLimits row then { s with stm := { s.stm with row := row } } else s

/-- The rack of a local index; an adopted accelerator belongs to none (R23, R510). -/
def State.rackOf (s : State) (a : Nat) : Option Nat := if Tab.has s.stm.adopted a then none else Tab.find s.stm.row a

/-- The enabled streams, from the active configuration words that are listed. -/
def State.enabledStreams (s : State) : List Nat :=
  (s.regs.filter (fun p => decide (Reg.STM_CFG 0 ≤ p.1) && decide (p.1 < Reg.STM_CFG 262144) && fieldOf p.2 0 1 == 1)).map
    (fun p => (p.1 - Reg.STM_CFG 0) / 4)

/-- The enabled streams of an accelerator. -/
def State.streamsOf (s : State) (a : Nat) : List Nat := s.enabledStreams.filter (fun i => i / 64 == a)

/-- The nominal period in ticks of a rate class, the updates charged per second, and the stale time in ticks (R120, Table 5);
class M has no period and is never stale. -/
def classPeriod (c : Nat) : Nat :=
  match c with | 0 => 5 | 1 => 20 | 2 => 100 | 3 => 1000 | 4 => 10000 | _ => 0
def classCharge (c : Nat) : Nat :=
  match c with | 0 => 20000 | 1 => 5000 | 2 => 1000 | 3 => 100 | 4 => 10 | _ => 100
def classStale (c : Nat) : Option Nat :=
  match c with | 0 | 1 | 2 => some 300 | 3 => some 4000 | 4 => some 40000 | _ => none

/-- The present reading of a stream, absent with the no-value code (R19). -/
def State.reading (s : State) (i : Nat) : Option Int := tempOf (s.fld (Fd.SV_VAL_VALUE i))

/-- The valid forecast of a stream, absent when older than 20 frames (R135, R139). -/
def State.forecast (s : State) (i : Nat) : Option Int :=
  if s.on (Fd.SV_FCAST_FVALID i) ∧ s.clk.now ≤ (s.strm i).fcastAt + 2000 then tempOf (s.fld (Fd.SV_FCAST_VALUE i)) else none

/-! ### Supervision states -/

/-- The state shown: the highest of FAULT, STALE, SUSPECT, OK (R127). -/
def supState (x : Supv) : Nat := if x.fault then 2 else if x.stale then 3 else if x.suspect then 1 else 0

/-- The supervision part of a stream is set and its state shown. -/
def State.setSup (s : State) (i : Nat) (x : Supv) : State :=
  (s.setStrm i { s.strm i with sup := x }).set (Fd.STM_SUP_STATE i) (supState x)

/-- A stream enters SUSPECT by a new trigger (R127, R132). -/
def State.suspectStream (s : State) (i : Nat) : State :=
  let x := (s.strm i).sup
  let s := (s.setSup i { x with suspect := true, clearFrom := none }).set (Fd.STM_SUP_ACK_REQ i) 1
  if x.suspect then s else s.raise Fd.STM_EVT_SUSPECT i []

/-- A stream enters FAULT by a SENSOR_FAULT sample (R129). -/
def State.faultStream (s : State) (i : Nat) : State :=
  let x := (s.strm i).sup
  let s := (s.setSup i { x with fault := true, validFrom := none }).set (Fd.STM_SUP_AGENT_FAULT i) 1
  if x.fault then s else (s.set (Fd.STM_SUP_ACK_REQ i) 1).raise Fd.STM_EVT_FAULT i []

/-- STREAM_STALE (R127): no sample with a reading for the class's stale time; the run of VALID samples of R129 is broken. The entry is told
also where FAULT is the state reported (DESIGN CHOICE, log entry 77). -/
def execStreamStale (sid : Fin 262144) (s : State) : Host.Outcome State Fault Refusal :=
  .next <|
    let x := (s.strm sid).sup
    match classStale (s.fld (Fd.STM_CFG_CLASS sid)) with
    | none => s
    | some t =>
      if s.on (Fd.STM_CFG_EN sid) ∧ ¬ x.stale ∧ x.lastRead + t ≤ s.clk.now then
        (s.setSup sid { x with stale := true, validFrom := none }).raise Fd.STM_EVT_STALE sid []
      else s

/-! ### Sample acceptance -/

/-- The samples of a record with their sample times (R109). A MARK sample carries its own boundary time. -/
def recSamples (r : StrmRec) (tbase : BitVec 64) (period : Nat) : List (Nat × BitVec 64) :=
  if r.fmt = 3 then r.samples.map (fun v => (v / 2 ^ 64, BitVec.ofNat 64 v))
  else (r.samples.zip (List.range r.samples.length)).map
    (fun p => (p.1, tbase + BitVec.ofNat 64 (r.dt + p.2 * (period * 10000))))

/-- The sample index of a wire time: floor(W ÷ 10,000) − TIM_SIDX_OFS (R114). -/
def State.indexOf (s : State) (w : BitVec 64) : BitVec 64 :=
  BitVec.ofNat 64 (w.toNat / 10000) - (s.aligned - s.clk.sidx)

/-- Whether a sample time lies from 100 ms before to 1 ms after the arrival's module time (R114). -/
def inWindow (w arrived : BitVec 64) : Bool := decide (-100000000 ≤ diff64 w arrived) && decide (diff64 w arrived ≤ 1000000)

/-- The quality a sample is taken with: a VALID T16 or P16 sample with the no-value code counts as NOT_AVAILABLE (R119). -/
def effQual (fmt qual v : Nat) : Nat := if qual = 0 ∧ ((fmt = 0 ∧ v = noTemp) ∨ (fmt = 1 ∧ v = noPower)) then 2 else qual

/-- The value stored for a sample (R109): the no-value code for a T16 or P16 sample without a reading, the last value for an
S16 or MARK sample without one. -/
def storedValue (fmt qual v old : Nat) : Nat :=
  if qual = 0 then v % 65536 else if fmt = 0 then noTemp else if fmt = 1 then noPower else old

/-- The element code of a sample for kernels and the frame program (R109): an S16 or MARK sample without a reading takes a code above every
16-bit value, which reads absent. -/
def elemCode (fmt q v : Nat) : Nat := if q ≠ 0 ∧ 2 ≤ fmt then 65536 else v

/-- The run of VALID samples that an accepted one belongs to (R129): a gap of the class's stale time breaks it. -/
def Supv.validRun (x : Supv) (now : Nat) (stale : Option Nat) : Option Nat :=
  if stale.any (fun t => decide (x.lastRead + t ≤ now)) then some now else x.validFrom.orElse (fun _ => some now)

/-- The jobs that take markers from a stream (R79, JOB_MSTRM). -/
def State.markerJobs (s : State) (i : Nat) : List Nat :=
  (s.jobs.map (·.1)).filter (fun j =>
    s.jobState j != 0 && fieldOf (s.job j).cfg 2 1 == 1 &&
    (List.range (fieldOf (s.job j).cfg 3 4)).any (fun k => s.fld (Fd.JOB_MSTRM_SID j k) == i))

/-- An accepted sample waits for the next batch of its class's kernel (R174), where one is active. -/
def State.pendSample (s : State) (i v idx : Nat) : State :=
  let c := s.fld (Fd.STM_CFG_CLASS i)
  if (List.range 16).any (fun k => s.fld (Fd.SLOT_STAT_STATE k) == 3 && s.fld (Fd.SLOT_STAT_ROLE k) == c + 1) ∧ c ≤ 4 then
    let l := Tab.at [] s.ice.pend i ++ [(v, idx)]
    { s with ice := { s.ice with pend := s.ice.pend.put i l } }
  else s

/-- A sample of an enabled stream that lies in the time window (R116, R117, R119, R129). -/
def State.acceptSample (s : State) (i : Nat) (qual v : Nat) (w arrived : BitVec 64) : State :=
  let x := s.strm i
  let idx := s.indexOf w
  if x.lastIdx.any (fun l => decide (diff64 idx l ≤ 0)) then (s.bump (Fd.SV_MISS_REORD i)).count Reg.STM_CNT_REORD
  else
    let fmt := s.fld (Fd.STM_CFG_FMT i)
    let q := effQual fmt qual v
    let p := classPeriod (s.fld (Fd.STM_CFG_CLASS i)) * 10000
    let d := (diff64 w x.lastTime).toNat
    let s := if x.lastIdx.isSome && p != 0 && decide (3 * p < 2 * d) then
        s.set (Fd.SV_MISS_MISS i) (min (s.fld (Fd.SV_MISS_MISS i) + (roundDiv d p).toNat - 1) 65535)
      else s
    let s := (s.set (Fd.SV_VAL_VALUE i) (storedValue fmt q v (s.fld (Fd.SV_VAL_VALUE i)))).set (Fd.SV_VAL_QUAL i) q
    let s := s.wr (Reg.SV_TIME i) (idx.setWidth 32)
    let s := s.pendSample i (elemCode fmt q (s.fld (Fd.SV_VAL_VALUE i))) (idx.toNat % 2 ^ 32)
    let x := { x with lastIdx := some idx, lastTime := w }
    match q with
    | 0 =>
      let u := x.sup
      let reads := if s.on (Fd.STM_CFG_SUP i) then (s.clk.now, signedOf 16 (v % 65536)) :: u.reads else []
      let u := { u with lastRead := s.clk.now, stale := false,
                        validFrom := u.validRun s.clk.now (classStale (s.fld (Fd.STM_CFG_CLASS i))),
                        reads := reads.takeWhile (fun r => decide (s.clk.now < r.1 + 30000000)) }
      let s := (s.setStrm i x).setSup i u
      if fmt = 3 then (s.markerJobs i).foldl (fun s j => s.marker j (BitVec.ofNat 32 v) w arrived) s else s
    | 1 => (s.setStrm i x).faultStream i
    | _ => s.setStrm i { x with sup := { x.sup with validFrom := none } }

/-- The samples the port die passes in one frame before it sheds: twice the per-frame budget (R124, R8). -/
def State.shedLimit (s : State) : Nat := 2 * (s.fld Fd.STM_BUDGET_N * 10 / 1000)

/-- Whether a stream's samples may be shed: one that is neither guarded nor of class M (R124). -/
def State.sheddable (s : State) (i : Nat) : Bool := !s.on (Fd.STM_CFG_GUARD i) && decide (s.fld (Fd.STM_CFG_CLASS i) ≤ 4)

/-- A sample of a released frame in the time window: its stream, its quality, its value and its time. -/
structure Taken where
  sid : Nat
  qual : Nat
  value : Nat
  time : BitVec 64
deriving DecidableEq, Repr

/-- The samples of a released frame of an accelerator that lie in the time window (R109, R114, R115). -/
def State.frameSamples (s : State) (a : Nat) (f : HeldFrame) : List Taken :=
  (f.recs.filter (fun r => s.on (Fd.STM_CFG_EN (a * 64 + r.chan)))).flatMap (fun r =>
    let i := a * 64 + r.chan
    ((recSamples r f.tbase (classPeriod (s.fld (Fd.STM_CFG_CLASS i)))).filter (fun p => inWindow p.2 f.arrived)).map
      (fun p => (⟨i, r.qual, p.1, p.2⟩ : Taken)))

/-- The samples that a released frame counts as outside the time window (R114). -/
def State.frameLate (s : State) (a : Nat) (f : HeldFrame) : Nat :=
  ((f.recs.filter (fun r => s.on (Fd.STM_CFG_EN (a * 64 + r.chan)))).flatMap (fun r =>
    (recSamples r f.tbase (classPeriod (s.fld (Fd.STM_CFG_CLASS (a * 64 + r.chan))))).filter (fun p => !inWindow p.2 f.arrived))).length

/-- The places, among samples passed together, of those shed (R124): as many as exceed the limit, of class C4 first and C0 last, within a
class by rising stream ID. -/
def State.shedPlaces (s : State) (l : List Taken) : List Nat :=
  let n := s.stm.passed + l.length - s.shedLimit
  let places := (List.range l.length).filter (fun k => (l[k]?).any (fun t => s.sheddable t.sid))
  let key (k : Nat) : Nat := (l[k]?).elim 0 (fun t => (4 - s.fld (Fd.STM_CFG_CLASS t.sid)) * 2 ^ 18 + t.sid)
  (sortBy (fun x y => decide (key x ≤ key y)) places).take n

/-- One sample is shed (R124). -/
def State.shedSample (s : State) (i : Nat) : State :=
  (s.count (Reg.STM_CNT_SHED (s.fld (Fd.STM_CFG_CLASS i)))).raise Fd.STM_EVT_OVERLOAD i []

/-- One sample is passed to the main die (R114, R124). -/
def State.takeSample (s : State) (arrived : BitVec 64) (t : Taken) : State :=
  { s with stm := { s.stm with passed := s.stm.passed + 1 } }.acceptSample t.sid t.qual t.value t.time arrived

/-- A released frame: the records of enabled channels are taken, those of others counted (R115); samples outside the time window are
counted (R114), and those beyond the frame's limit shed (R124, log entry 12). -/
def State.releaseFrame (s : State) (a : Nat) (f : HeldFrame) : State :=
  let l := s.frameSamples a f
  let out := s.shedPlaces l
  let s := s.countBy Reg.STM_CNT_UNCFG ((f.recs.filter (fun r => !s.on (Fd.STM_CFG_EN (a * 64 + r.chan)))).length)
  let s := s.countBy Reg.STM_CNT_TIMEERR (s.frameLate a f)
  (l.zip (List.range l.length)).foldl (fun s p => if out.contains p.2 then s.shedSample p.1.sid else s.takeSample f.arrived p.1) s

/-! ### Reordering -/

/-- The held frames that follow the last released number without a gap are released in order (R113). -/
def State.releaseRun (s : State) (a : Nat) : Nat → State
  | 0 => s
  | n + 1 =>
    let x := s.strmSrc a
    match x.released.bind (fun r => x.held.find? (fun f => f.seq == r + 1)) with
    | none => s
    | some f =>
      let s := s.setSrc a { x with released := some f.seq, held := x.held.filter (fun g => g.seq != f.seq) }
      (s.releaseFrame a f).releaseRun a n

/-- A frame that passed the window reaches the reorder stage (R113). -/
def State.reorder (s : State) (a : Nat) (f : HeldFrame) : State :=
  let x := s.strmSrc a
  match x.released with
  | none => (s.setSrc a { x with released := some f.seq }).releaseFrame a f
  | some r =>
    let d := diff32 f.seq r
    if d ≤ 0 then s.releaseFrame a f
    else if d = 1 then
      ((s.setSrc a { x with released := some f.seq }).releaseFrame a f).releaseRun a x.held.length
    else s.setSrc a { x with held := sortBy (fun g h => decide (diff32 g.seq h.seq ≤ 0)) (f :: x.held) }

/-- The wait of held frame `f` expires (R113): the numbers still missing below it are counted, and it is released with the
held frames below it and those that follow without a gap. -/
def State.expireFrame (s : State) (a : Nat) (f : HeldFrame) : State :=
  let x := s.strmSrc a
  match x.released with
  | none => s
  | some r =>
    let below := x.held.filter (fun g => decide (diff32 g.seq f.seq ≤ 0))
    let missing := (diff32 f.seq r).toNat - below.length
    let s := (s.countBy Reg.STM_CNT_GAP missing).countBy (Reg.SRC_GAP a) missing
    let s := if missing = 0 then s else s.raise Fd.STM_EVT_GAP a [missing]
    let s := s.setSrc a { x with released := some f.seq, held := x.held.filter (fun g => decide (diff32 g.seq f.seq > 0)) }
    (below.foldl (fun s g => s.releaseFrame a g) s).releaseRun a x.held.length

/-- REORDER_WAIT_EXPIRY (R113): the held frames of a source whose wait has passed are released. -/
def execReorderWaitExpiry (acc : Fin 4096) (s : State) : Host.Outcome State Fault Refusal :=
  .next <|
    ((s.strmSrc acc).held.filter (fun f => decide (f.at_ + (s.fld Fd.STM_REORD_WAIT_US + 9) / 10 ≤ s.clk.now))).foldl
      (fun s f => if (s.strmSrc acc).held.any (fun g => g.seq == f.seq) then s.expireFrame acc f else s) s

/-! ### Frames on the wire -/

/-- The sample size of a format in bytes (R109). -/
def sampleSize (fmt : Nat) : Nat := if fmt = 3 then 12 else 2

/-- `n` samples of a given size. -/
def readSamples (bs : List Byte) (size : Nat) : Nat → List Nat
  | 0 => []
  | n + 1 => beAt bs 0 size :: readSamples (bs.drop size) size n

/-- The records of a frame, which must fill the bytes exactly (R108); the code of Table 6 where they do not parse. They are judged one after
another, a record's encodings before its length: of a frame with several such faults the first found gives the code (DESIGN CHOICE, log
entry 78). -/
def parseRecs : Nat → List Byte → Except Nat (List StrmRec)
  | 0, bs => if bs.isEmpty then .ok [] else .error 3
  | n + 1, bs =>
    if bs.length < 8 then .error 3 else
    let fmt := beAt bs 1 1 % 16
    let qual := beAt bs 1 1 / 16
    let cnt := beAt bs 2 2
    if 3 < fmt ∨ 2 < qual ∨ cnt = 0 ∨ (if fmt = 3 then 8 else 255) < cnt then .error 4 else
    let area := (cnt * sampleSize fmt + 3) / 4 * 4
    if bs.length < 8 + area then .error 3 else
    match parseRecs n (bs.drop (8 + area)) with
    | .error e => .error e
    | .ok t => .ok (⟨beAt bs 0 1 % 64, fmt, qual, beAt bs 4 4, readSamples (bs.drop 8) (sampleSize fmt) cnt⟩ :: t)

/-- Whether a channel appears in more than one record (R125). -/
def chanDup : List StrmRec → Bool
  | [] => false
  | r :: t => t.any (fun q => q.chan == r.chan) || chanDup t

/-- The checks of R111 up to SRC: the records and the local index of the source, or the code of Table 6. -/
def State.checkFrame (s : State) (bs : List Byte) : Except Nat (Nat × List StrmRec) :=
  let n := bs.length
  if 8192 < n then .error 3
  else if beAt bs 2 1 < s.fld Fd.STM_LVL_MIN ∨ s.fld Fd.STM_LVL_MAX < beAt bs 2 1 then .error 1
  else if crc32 (bs.take (n - 4)) ≠ beAt bs (n - 4) 4 then .error 2
  else if beAt bs 14 2 = 0 ∨ 64 < beAt bs 14 2 then .error 4
  else match parseRecs (beAt bs 14 2) ((bs.take (n - 4)).drop 24) with
  | .error e => .error e
  | .ok rs =>
    if chanDup rs then .error 6
    else match s.localOf (beAt bs 4 4 % 2 ^ 18) with
    | none => .error 5
    | some a =>
      if rs.any (fun r => s.on (Fd.STM_CFG_EN (a * 64 + r.chan)) && s.fld (Fd.STM_CFG_FMT (a * 64 + r.chan)) != r.fmt) then .error 7
      else .ok (a, rs)

/-- Whether a source may be sent a PROTO_ERROR notice now: at most once per 10 ms (R126). -/
def State.mayNotify (s : State) (addr : Nat) : Bool :=
  match (s.source addr).lastNotice with
  | none => true
  | some t => decide (t + msTicks 10 ≤ s.clk.now)

/-- A PROTO_ERROR notice for a dropped frame (R126), from a UDP port of the module, unless one was sent to the source within 10 ms. -/
def State.protoNotice (s : State) (o : Origin) (port code src seq : Nat) : State :=
  if s.mayNotify o.addr then
    (s.setSource { s.source o.addr with lastNotice := some s.clk.now }).send
      (.protoNotice o port (s.fld Fd.STM_LVL_MAX) code src seq (s.source o.addr).count)
  else s

/-- A violation of a stream frame (R125): counted, also against the source, and told. -/
def State.streamViolation (s : State) (o : Origin) (code : Nat) (bs : List Byte) : State :=
  let s := (s.count Reg.STM_CNT_PROTO).violate o.addr
  let s := match s.localOf (beAt bs 4 4 % 2 ^ 18) with
    | some a => (s.setSrc a { s.strmSrc a with addr := o.addr }).count (Reg.SRC_VIOL a)
    | none => s
  (s.raise Fd.STM_EVT_PROTO noObj [code, beAt bs 4 4]).protoNotice o 28411 code (beAt bs 4 4) (beAt bs 8 4)

/-- A source adopts a new epoch (R111, R113): the held frames of the old one are dropped and counted. -/
def State.adoptEpoch (s : State) (a epoch seq : Nat) : State :=
  let x := s.strmSrc a
  let s := s.countBy Reg.STM_CNT_OLD x.held.length
  let s := s.setSrc a { x with seen := 0, released := none, held := [] }
  (s.set (Fd.SRC_STAT_EPOCH a) epoch).wr (Reg.SRC_SEQ a) (BitVec.ofNat 32 seq - 1)

/-- Whether the held epoch has passed no frame for 1 s, or none at all (R111). -/
def State.silentSource (s : State) (a : Nat) : Bool :=
  match (s.strmSrc a).passed with
  | none => true
  | some t => decide (t + sTicks 1 ≤ s.clk.now)

/-- The window of R111 for a frame of the held epoch, which arrived at the given module time (R65). -/
def State.passFrame (s : State) (net : Net) (a : Nat) (bs : List Byte) (rs : List StrmRec) (arrived : BitVec 64) : State :=
  let x := s.strmSrc a
  let seq := BitVec.ofNat 32 (beAt bs 8 4)
  let d := diff32 seq (s.rd (Reg.SRC_SEQ a))
  let f : HeldFrame := ⟨seq, s.clk.now, arrived, BitVec.ofNat 64 (beAt bs 16 8), rs⟩
  let took (x : StrmSrc) : StrmSrc :=
    match net with
    | .a => { x with passed := some s.clk.now, lastA := some s.clk.now }
    | .b => { x with passed := some s.clk.now, lastB := some s.clk.now }
  let s := s.set (Fd.SRC_STAT_SINGLE a) (beAt bs 3 1 / 4 % 2)
  if d > 0 then
    let seen := if d < 64 then (x.seen * 2 ^ d.toNat) % 2 ^ 64 ||| 1 else 1
    ((s.setSrc a (took { x with seen := seen })).wr (Reg.SRC_SEQ a) seq).reorder a f
  else if d > -64 ∧ bitOf x.seen (-d).toNat = false then
    (s.setSrc a (took { x with seen := x.seen ||| 2 ^ (-d).toNat })).reorder a f
  else if d > -64 then s.count Reg.STM_CNT_DUP
  else s.count Reg.STM_CNT_OLD

/-- STREAM_FRAME (R111): a stream frame arrives from a source's UDP port, `ns` nanoseconds after the tick edge (R65). -/
def execStreamFrame (udp : Heard (BitVec 16)) (bytes : List Byte) (ns : Fin 10000) (s : State) :
    Host.Outcome State Fault Refusal :=
  .next <|
    let c := udp.came
    let src := c.src
    let from_ : Origin := ⟨src, udp.what, portNet c.port⟩
    if ¬ s.portTakes Fd.PORT_CFG_STREAM c.port src c.row ∨ ¬ s.on Fd.STM_CTRL_EN then s else
    let s := s.countRx c.port
    if (s.quarEntry src).isSome then s.count Reg.NET_CNT_QDROP
    else if bytes.length < 28 ∨ beAt bytes 0 2 ≠ 0xF1A7 then (s.count Reg.STM_CNT_UNPARSE).violate src
    else match s.checkFrame bytes with
    | .error code => s.streamViolation from_ code bytes
    | .ok (a, rs) =>
      let s := s.setSrc a { s.strmSrc a with addr := src }
      let at_ := s.arrival ns
      let epoch := beAt bytes 12 2
      let resync := beAt bytes 3 1 / 2 % 2 = 1
      if epoch = s.fld (Fd.SRC_STAT_EPOCH a) ∧ (s.strmSrc a).passed.isSome then s.passFrame (portNet c.port) a bytes rs at_
      else if (resync ∧ (BitVec.ofNat 16 epoch - BitVec.ofNat 16 (s.fld (Fd.SRC_STAT_EPOCH a))).toInt > 0) ∨ s.silentSource a then
        (s.adoptEpoch a epoch (beAt bytes 8 4)).passFrame (portNet c.port) a bytes rs at_
      else s.streamViolation from_ 8 bytes

/-! ### Supervision at a frame boundary -/

/-- The load reference of an accelerator: the sum of its enabled P16 streams, absent where none is enabled or one has no
value (R130). -/
def State.loadOf (s : State) (a : Nat) : Option Nat :=
  let l := (s.streamsOf a).filter (fun i => s.fld (Fd.STM_CFG_FMT i) == 1)
  if l.isEmpty || l.any (fun i => s.fld (Fd.SV_VAL_VALUE i) == noPower) then none
  else some (l.foldl (fun n i => n + s.fld (Fd.SV_VAL_VALUE i)) 0)

/-- The STUCK window in ticks (R130). -/
def State.stuckWindow (s : State) : Nat := sTicks (s.fld Fd.STM_STUCK_CFG_WIN)

/-- The stuck condition over a full window (R130): a standard deviation below the floor, and a load reference that changes by
the load fraction of its TDP. A window whose load is absent for more than a quarter is not judged. -/
def State.isStuck (s : State) (x : Supv) (tdp : Nat) : Bool :=
  let w := s.stuckWindow
  let r := (x.reads.filter (fun p => decide (s.clk.now ≤ p.1 + w))).map (·.2)
  let l := x.loads.filter (fun p => decide (s.clk.now ≤ p.1 + w))
  let present := l.filterMap (·.2)
  let n : Int := r.length
  let sum := r.foldl (· + ·) 0
  let sq := r.foldl (fun a v => a + v * v) 0
  let sd : Int := s.fld Fd.STM_STUCK_CFG_SD
  let hi := present.foldl max 0
  let lo := present.foldl min hi
  decide (x.since + w ≤ s.clk.now) && decide (0 < n) && decide (n * sq - sum * sum < sd * sd * n * n) &&
  decide (4 * (l.length - present.length) ≤ l.length) && !present.isEmpty &&
  decide (s.fld Fd.STM_STUCK_CFG_LOADPCT * tdp ≤ (hi - lo) * 100)

/-- The residual condition (R131): the reading has lain below its valid forecast by more than RES_BAND for RES_PERSIST. -/
def State.below (s : State) (i : Nat) : Bool :=
  match s.reading i, s.forecast i with
  | some r, some f => decide (r + s.fld Fd.STM_RES_CFG_BAND < f)
  | _, _ => false

/-- The partner of a stream in a pair in force (R134). -/
def State.partner (s : State) (i : Nat) : Option Nat :=
  if s.on (Fd.STM_CFG_PAIRED i) then
    match Tab.find s.stm.pairs (s.fld (Fd.STM_CFG_PAIR i)) with
    | some (a, b, _) => some (if fieldOf a 0 18 = i then fieldOf b 0 18 else fieldOf a 0 18)
    | none => none
  else none

/-- The band of a stream's pair. -/
def State.pairBand (s : State) (i : Nat) : Nat :=
  (Tab.find s.stm.pairs (s.fld (Fd.STM_CFG_PAIR i))).elim 0 (fun p => fieldOf p.2.2 0 12)

/-- The reading of a source in state OK. One that has none at present counts as not ok (DESIGN CHOICE, log entry 79). -/
def State.okReading (s : State) (i : Nat) : Option Int := if s.fld (Fd.STM_SUP_STATE i) = 0 then s.reading i else none

/-- The PAIR condition of a marked member, judged from raw readings (R136). -/
def State.pairHolds (s : State) (i : Nat) : Bool :=
  s.on (Fd.STM_SUP_PAIR i) &&
  (match s.reading i, (s.partner i).bind s.okReading with
   | some a, some b => decide ((s.pairBand i : Int) < (a - b).natAbs)
   | _, _ => true)

/-- The evaluation of a supervised stream at a frame boundary (R130 to R132, R136): the conditions, a new SUSPECT trigger, and
since when every setting condition has been absent. -/
def State.superviseStream (s : State) (i : Nat) : State :=
  let x := (s.strm i).sup
  let load := s.loadOf (i / 64)
  let loads := ((s.clk.now, load) :: x.loads).takeWhile (fun p => decide (s.clk.now ≤ p.1 + s.stuckWindow))
  let x := { x with loads := loads }
  let stuck := s.isStuck x (s.fld (Fd.ACC_CFG_TDP (i / 64)))
  let resFrom := if s.below i then x.resFrom.orElse (fun _ => some s.clk.now) else none
  let residual := resFrom.any (fun t => decide (t + 10000 * s.fld Fd.STM_RES_CFG_PERSIST ≤ s.clk.now))
  let rising := (stuck && !s.on (Fd.STM_SUP_STUCK i)) || (residual && !s.on (Fd.STM_SUP_RESIDUAL i))
  let any := stuck || residual || s.pairHolds i
  let x := { x with resFrom := resFrom, clearFrom := if any then none else x.clearFrom.orElse (fun _ => some s.clk.now) }
  let s := ((s.setSup i x).setB (Fd.STM_SUP_STUCK i) stuck).setB (Fd.STM_SUP_RESIDUAL i) residual
  if rising then s.suspectStream i else s

/-- The acknowledgements received during the frame are applied (R132). -/
def State.applyAcks (s : State) : State :=
  let l := if s.stm.ackAll then s.enabledStreams else s.stm.acks
  let s := l.foldl (fun s i => s.set (Fd.STM_SUP_ACK_REQ i) 0) s
  { s with stm := { s.stm with acks := [], ackAll := false } }

/-- Whether a SUSPECT source's clear condition holds: absent for STM_SUSP_CLR and acknowledged (R127, R132). -/
def State.mayClear (s : State) (x : Supv) (ackReq : Bool) : Bool :=
  x.suspect && !ackReq && x.clearFrom.any (fun t => decide (t + sTicks (s.fld Fd.STM_SUSP_CLR_SEC) ≤ s.clk.now))

/-- A stream leaves SUSPECT; a pair that marked it returns to AGREE with its split time at 0 (R132, R136). -/
def State.clearStream (s : State) (i : Nat) : State :=
  let s := s.setSup i { (s.strm i).sup with suspect := false }
  if s.on (Fd.STM_SUP_PAIR i) then
    (s.set (Fd.STM_SUP_PAIR i) 0).wr (Reg.PAIR_STAT (s.fld (Fd.STM_CFG_PAIR i))) 0
  else s

/-! ### Pairs -/

/-- The warning threshold of an accelerator's rack, the last substitute of R137. -/
def State.warnOf (s : State) (a : Nat) : Option Int := (s.rackOf a).bind (fun r => tempOf (s.fld (Fd.RK_DIE_DIE_WARN r)))

/-- The higher of two values that may be absent. -/
def maxOpt (a b : Option Int) : Option Int :=
  match a, b with
  | some x, some y => some (max x y)
  | some x, none => some x
  | none, y => y

/-- The substitute of a source (R137). -/
def State.substitute (s : State) (i : Nat) : Option Int :=
  match maxOpt ((s.partner i).bind s.okReading) (s.forecast i) with
  | some v => some v
  | none => s.warnOf (i / 64)

/-- The forecast for a stream pair's place (R135). -/
def State.pairForecast (s : State) (a b : Nat) : Option Int :=
  match s.forecast a with
  | some f => some f
  | none => s.forecast b

/-- The control value while both members are OK and apart (R135): the member nearer the forecast, else the higher. -/
def splitControl (a b : Int) (f : Option Int) : Int :=
  match f with
  | none => max a b
  | some v => if (a - v).natAbs < (b - v).natAbs then a else if (b - v).natAbs < (a - v).natAbs then b else max a b

/-- The protection value of a member that may not be OK: its reading or its substitute, and whether it is a substitute. -/
def State.protOf (s : State) (i : Nat) : Option (Int × Bool) :=
  match s.okReading i with
  | some v => some (v, false)
  | none => (s.substitute i).map (fun v => (v, true))

/-- The higher of two protection values. -/
def maxProt (a b : Option (Int × Bool)) : Option (Int × Bool) :=
  match a, b with
  | some x, some y => if x.1 < y.1 then some y else some x
  | some x, none => some x
  | none, y => y

/-- The procedure of R135 for pair `n` at a frame boundary. With the main die absent no split is evaluated (R133). -/
def State.judgePair (s : State) (n : Nat) : State :=
  match Tab.find s.stm.pairs n with
  | none => s
  | some (wa, wb, cfg) =>
    let ia := fieldOf wa 0 18
    let ib := fieldOf wb 0 18
    match s.okReading ia, s.okReading ib with
    | some a, some b =>
      if (a - b).natAbs ≤ fieldOf cfg 0 12 then
        let v := (a + b + 1) / 2
        let s := { s with stm := { s.stm with pairVal := s.stm.pairVal.put n (some v, some (v, false)) } }
        if s.mainAbsent then s else (s.set (Fd.PAIR_STAT_STATE n) 0).set (Fd.PAIR_STAT_SPLIT_MS n) 0
      else
        let v := (some (splitControl a b (s.pairForecast ia ib)), some (max a b, false))
        let s := { s with stm := { s.stm with pairVal := s.stm.pairVal.put n v } }
        if s.mainAbsent then s else
          let was := s.fld (Fd.PAIR_STAT_STATE n)
          let s := (s.bump (Fd.PAIR_STAT_SPLIT_MS n)).set (Fd.PAIR_STAT_STATE n) 1
          if was = 1 then s else s.raise Fd.STM_EVT_PAIR_SPLIT n []
    | oa, ob =>
      let ctl := match oa, ob with
        | some a, _ => some a
        | none, some b => some b
        | none, none => s.pairForecast ia ib
      { s with stm := { s.stm with pairVal := s.stm.pairVal.put n (ctl, maxProt (s.protOf ia) (s.protOf ib)) } }

/-- PAIR_RESOLVED (R135): at a frame boundary a split has lasted the persistence time and a forecast is present; the member farther from it,
on a tie the lower reading, is marked SUSPECT. -/
def execPairResolved (pair : Fin 4096) (s : State) : Host.Outcome State Fault Refusal :=
  .next <|
    match Tab.find s.stm.pairs pair with
    | none => s
    | some (wa, wb, cfg) =>
      let ia := fieldOf wa 0 18
      let ib := fieldOf wb 0 18
      match s.okReading ia, s.okReading ib, s.pairForecast ia ib with
      | some a, some b, some f =>
        if s.clk.sidx.toNat % 100 = 0 ∧ s.fld (Fd.PAIR_STAT_STATE pair) = 1 ∧ fieldOf cfg 12 10 * 1000 ≤ s.fld (Fd.PAIR_STAT_SPLIT_MS pair) ∧ ¬ s.mainAbsent then
          let da := (a - f).natAbs
          let db := (b - f).natAbs
          let sideB := db > da ∨ (da = db ∧ b < a)
          let i := if sideB then ib else ia
          let side := if sideB then 1 else 0
          let s := ((s.set (Fd.PAIR_STAT_STATE pair) 2).set (Fd.PAIR_STAT_SIDE pair) side).set (Fd.STM_SUP_PAIR i) 1
          (s.suspectStream i).occur 0x3C7 pair [0, side, s.fld (Fd.PAIR_STAT_SPLIT_MS pair)]
        else s
      | _, _, _ => s

/-! ### The guard digest -/

/-- Whether every enabled C0–C4 stream of an accelerator is STALE, and there is one (R138). -/
def State.isSilent (s : State) (a : Nat) : Bool :=
  let l := (s.streamsOf a).filter (fun i => decide (s.fld (Fd.STM_CFG_CLASS i) ≤ 4))
  !l.isEmpty && l.all (fun i => (s.strm i).sup.stale)

/-- The protection value of a guarded channel (R139). -/
def State.guardValue (s : State) (i : Nat) : Option (Int × Bool) :=
  if s.on (Fd.STM_CFG_PAIRED i) then (Tab.at (none, none) s.stm.pairVal (s.fld (Fd.STM_CFG_PAIR i))).2
  else if s.fld (Fd.STM_SUP_STATE i) = 0 then (s.reading i).map (fun v => (v, false))
  else (s.substitute i).map (fun v => (v, true))

/-- The entry of an accelerator in the guard digest (R139, R140). -/
def State.guardEntry (s : State) (a : Nat) : Nat :=
  if s.isSilent a then noTemp + 2 ^ 17 else
  match ((s.streamsOf a).filter (fun i => s.on (Fd.STM_CFG_GUARD i))).foldl (fun m i => maxProt m (s.guardValue i)) none with
  | none => noTemp
  | some (v, sub) => tempCode (some v) + (if sub then 2 ^ 16 else 0)

/-- The accelerators with enabled streams, rising. -/
def State.streamingAccs (s : State) : List Nat :=
  s.enabledStreams.foldl (fun l i => if l.contains (i / 64) then l else l ++ [i / 64]) []

/-- The accelerators whose SRC_STAT.SILENT reads 1. -/
def State.shownSilent (s : State) : List Nat :=
  (s.regs.filter (fun p => decide (Reg.SRC_STAT 0 ≤ p.1) && decide (p.1 < Reg.SRC_STAT 4096) && p.1 % 16 == 0 && fieldOf p.2 20 1 == 1)).map
    (fun p => (p.1 - Reg.SRC_STAT 0) / 16)

/-- The port die computes every guard value and sends the guard digest (R139, R140); SRC_STAT.SILENT and STM_SUPi.SUB are
brought up to date. -/
def State.buildDigest (s : State) : State :=
  if s.portAbsent then s else
  let accs := s.streamingAccs
  let entries := (accs.map (fun a => (a, s.guardEntry a))).filter (fun p => p.2 != noTemp)
  let s := (accs ++ s.shownSilent).foldl (fun s a => s.setB (Fd.SRC_STAT_SILENT a) (s.isSilent a)) s
  let s := (s.enabledStreams.filter (fun i => s.on (Fd.STM_CFG_GUARD i))).foldl (fun s i =>
    s.setB (Fd.STM_SUP_SUB i) (s.fld (Fd.STM_SUP_STATE i) != 0 && !s.isSilent (i / 64))) s
  { s with stm := { s.stm with digest := some ⟨s.fld Fd.STM_LVL_MAX, s.clk.sidx, s.stm.digestSeq + 1, entries⟩, digestSeq := s.stm.digestSeq + 1 } }

/-! ### Staged configuration -/

/-- The words of a list of register words that lie in an array of one word each. -/
def wordsIn (rs : List (Nat × Word)) (lo hi : Nat) : List (Nat × Word) :=
  rs.filter (fun p => decide (lo ≤ p.1) && decide (p.1 < hi))

/-- The staged stream words (R121). -/
def State.stagedCfg (s : State) : List (Nat × Word) :=
  (wordsIn s.regs (Reg.STM_SCFG 0) (Reg.STM_SCFG 262144)).map (fun p => ((p.1 - Reg.STM_SCFG 0) / 4, p.2))

/-- The staged pairs that are declared (R121, R134). -/
def State.stagedPairs (s : State) : Tab (Word × Word × Word) :=
  ((wordsIn s.regs (Reg.PAIR_A 0) (Reg.PAIR_A 4096)).filter (fun p => p.1 % 16 == 0 && fieldOf p.2 31 1 == 1)).map (fun p =>
    let n := (p.1 - Reg.PAIR_A 0) / 16
    (n, p.2, s.rd (Reg.PAIR_B n), s.rd (Reg.PAIR_CFG n)))

/-- The charged updates per second of a set of stream words (R120, R122). -/
def chargeOf (cfg : List (Nat × Word)) : Nat :=
  cfg.foldl (fun n p => if fieldOf p.2 0 1 = 1 then n + classCharge (fieldOf p.2 1 3) else n) 0

/-- A pair's members are wrong for a set of stream words (R122, R134): one stream, not enabled, not T16, without the pointer, of different
accelerators, or only one guarded. -/
def badPair (cfg : List (Nat × Word)) (n : Nat) (p : Word × Word × Word) : Bool :=
  let a := fieldOf p.1 0 18
  let b := fieldOf p.2.1 0 18
  let good (w : Word) : Bool :=
    fieldOf w 0 1 == 1 && fieldOf w 4 4 == 0 && fieldOf w 22 1 == 1 && fieldOf w 10 12 == n
  let wa := Tab.at 0 cfg a
  let wb := Tab.at 0 cfg b
  a == b || !good wa || !good wb || a / 64 != b / 64 || fieldOf wa 8 1 != fieldOf wb 8 1

/-- A stream points to a pair that does not list it (R122). -/
def badPointer (pairs : Tab (Word × Word × Word)) (p : Nat × Word) : Bool :=
  fieldOf p.2 0 1 == 1 && fieldOf p.2 22 1 == 1 &&
  !(match Tab.find pairs (fieldOf p.2 10 12) with
    | some (a, b, _) => fieldOf a 0 18 == p.1 || fieldOf b 0 18 == p.1
    | none => false)

/-- The guarded enabled channels of an accelerator in a set of stream words (R122). Words with EN = 0 do not count (DESIGN CHOICE, log
entry 80). -/
def guardsOf (cfg : List (Nat × Word)) (a : Nat) : Nat :=
  (cfg.filter (fun p => p.1 / 64 == a && fieldOf p.2 0 1 == 1 && fieldOf p.2 8 1 == 1)).length

/-- The result code of the checks of R122 on a staged set: OK or the first failed check. `fits` is the Icefield's check of
R169. -/
def State.commitResult (s : State) (cfg : List (Nat × Word)) (pairs : Tab (Word × Word × Word)) (fits : Bool) : Nat :=
  if s.fld Fd.STM_BUDGET_N * 10 < chargeOf cfg ∨ ¬ fits then 2
  else if cfg.any (fun p => decide (4 < guardsOf cfg (p.1 / 64))) then 4
  else if pairs.any (fun p => badPair cfg p.1 p.2) || cfg.any (badPointer pairs) then 3
  else 1

/-- Whether lock-step is entering or in step (PAI_LS_STAT). -/
def State.lsOn (s : State) : Bool := s.fld Fd.PAI_LS_STAT_STATE == 1 || s.fld Fd.PAI_LS_STAT_STATE == 2

/-- Whether the input records of a charged update rate exceed PAI_LS_MAX: 12 bytes for each update (R497). -/
def State.lsOverload (s : State) (rate : Nat) : Bool := decide (s.fld Fd.PAI_LS_MAX_GBPS * 1000000000 < rate * 12)

/-- Lock-step ends with a result (R500): STATE reads FAILED, and the end is told. -/
def State.lsEnd (s : State) (res : Nat) (args : List Nat) : State :=
  let s := ((s.set Fd.PAI_LS_STAT_STATE 3).set Fd.PAI_LS_STAT_RESULT res).set Fd.PAI_LS_STAT_LAG 0
  { s with lst := ⟨none, false, [], 0, 0, [], 0, []⟩ }.raise Fd.PAI_FED_EVT_LS_END noObj (args ++ [res])

/-- A write of STM_CMT.GO (R122, R123): the staged set is checked and admitted or refused; while a commit is pending it is
refused BUSY. -/
def State.streamGo (s : State) (fits : Bool) : State :=
  if s.stm.commit.isSome then (s.set Fd.STM_CMT_STAT_RESULT 5).raise Fd.STM_EVT_CMT_REFUSED noObj [5]
  else
    let cfg := s.stagedCfg
    let pairs := s.stagedPairs
    let r := s.commitResult cfg pairs fits
    let s := s.set Fd.STM_CMT_STAT_RESULT r
    if r = 1 then
      let s := { s with stm := { s.stm with commit := some ⟨s.clk.now, cfg, pairs⟩ } }.set Fd.STM_CMT_STAT_PENDING 1
      if s.lsOn ∧ s.lsOverload (chargeOf cfg) then s.lsEnd 6 [] else s
    else s.raise Fd.STM_EVT_CMT_REFUSED noObj [r]

/-- A stream's value and supervision words begin anew, with the no-value code of its format (R123). -/
def State.blankStream (s : State) (i fmt : Nat) : State :=
  ((s.wr (Reg.SV_VAL i) (resetWord (Reg.SV_VAL i))).set (Fd.SV_VAL_VALUE i) (noValue fmt)).wr (Reg.STM_SUP i) 0

/-- A stream takes its committed word (R123). -/
def State.commitStream (s : State) (i : Nat) (w : Word) : State :=
  let was := s.on (Fd.STM_CFG_EN i)
  let fmt := s.fld (Fd.STM_CFG_FMT i)
  let now_ := fieldOf w 0 1 = 1
  let s := s.wr (Reg.STM_CFG i) w
  let s := if fieldOf w 8 1 = 1 then s else s.set (Fd.STM_SUP_SUB i) 0
  if now_ ∧ ¬ was then
    ((s.blankStream i (fieldOf w 4 4)).setStrm i (Strm.fresh s.clk.now)).set (Fd.STM_SUP_STATE i) 3
  else if ¬ now_ ∧ was then
    { s.blankStream i fmt with stm := { s.stm with strm := s.stm.strm.del i } }
  else s

/-- A pair whose members or band change restarts in AGREE, and its members lose the PAIR reason (R123). -/
def State.commitPair (s : State) (n : Nat) (new : Option (Word × Word × Word)) : State :=
  let old := Tab.find s.stm.pairs n
  let same : Bool := match old, new with
    | some (a, b, c), some (a', b', c') => a == a' && b == b' && fieldOf c 0 12 == fieldOf c' 0 12
    | none, none => true
    | _, _ => false
  if same then s else
    let members := [old, new].flatMap (fun p => p.elim [] (fun x => [fieldOf x.1 0 18, fieldOf x.2.1 0 18]))
    let s := members.foldl (fun s i => s.set (Fd.STM_SUP_PAIR i) 0) s
    s.wr (Reg.PAIR_STAT n) 0

/-- An admitted commit takes effect at the first frame boundary at least 2 ticks after the write (R123). -/
def State.applyStreamCommit (s : State) : State :=
  match s.stm.commit with
  | none => s
  | some c =>
    if s.clk.now < c.at_ + 2 then s else
    let gone := s.enabledStreams.filter (fun i => !Tab.has c.cfg i)
    let touched := (s.stm.pairs.map (·.1)) ++ (c.pairs.map (·.1)).filter (fun n => !Tab.has s.stm.pairs n)
    let s := touched.foldl (fun s n => s.commitPair n (Tab.find c.pairs n)) s
    let s := gone.foldl (fun s i => s.commitStream i 0) s
    let s := c.cfg.foldl (fun s p => s.commitStream p.1 p.2) s
    let s := { s with stm := { s.stm with pairs := c.pairs, commit := none,
                                          pairVal := s.stm.pairVal.filter (fun p => Tab.has c.pairs p.1) } }
    let s := (s.wr Reg.STM_LOAD (BitVec.ofNat 32 (chargeOf c.cfg / 10))).set Fd.STM_GUARD_CNT_N
      (c.cfg.filter (fun p => fieldOf p.2 0 1 == 1 && fieldOf p.2 8 1 == 1)).length
    ((s.set Fd.STM_CMT_STAT_PENDING 0).wrap Fd.STM_CMT_STAT_SEQ).raise Fd.STM_EVT_CMT_DONE noObj []

/-- A write of STM_CMT.LOAD (R121): the active configuration and pairs become the staged ones; the staged words of a pair that is not
declared in the active set take their reset values (DESIGN CHOICE, log entry 81). -/
def State.streamLoad (s : State) : State :=
  let active := wordsIn s.regs (Reg.STM_CFG 0) (Reg.STM_CFG 262144)
  let s := { s with regs := s.regs.filter (fun p =>
    !(decide (Reg.STM_SCFG 0 ≤ p.1) && decide (p.1 < Reg.STM_SCFG 262144)) &&
    !(decide (Reg.PAIR_A 0 ≤ p.1) && decide (p.1 < Reg.PAIR_A 4096) && p.1 % 16 != 12)) }
  let s := active.foldl (fun s p => s.wr (p.1 - Reg.STM_CFG 0 + Reg.STM_SCFG 0) p.2) s
  s.stm.pairs.foldl (fun s p =>
    ((s.wr (Reg.PAIR_A p.1) p.2.1).wr (Reg.PAIR_B p.1) p.2.2.1).wr (Reg.PAIR_CFG p.1) p.2.2.2) s

/-- STREAM_CONFIG_LOAD (R121): a write of STM_CMT.LOAD = 1. -/
def execStreamConfigLoad (w : Fin 8) (s : State) : Host.Outcome State Fault Refusal :=
  .next (s.writeRow w Reg.STM_CMT 2 true State.streamLoad)

/-- A write of STM_ACK (R132): the acknowledgement is applied at the next boundary. -/
def State.streamAck (s : State) (v : Word) : State :=
  if fieldOf v 31 1 = 1 then { s with stm := { s.stm with ackAll := true } }
  else { s with stm := { s.stm with acks := s.stm.acks ++ [fieldOf v 0 18] } }

/-- STREAM_ACK (R132). -/
def execStreamAck (w : Fin 8) (value : Word) (s : State) : Host.Outcome State Fault Refusal :=
  .next (s.writeRow w Reg.STM_ACK value true (fun s => s.streamAck value))

/-- The fields of a staged stream word that exclude each other (Table 11): MARK with class M only, GUARD and SUP with T16
only, PAIRED with SUP only; GO and LOAD together (R143). -/
def crossStream (a : Nat) (v : Word) : Bool :=
  if a = Reg.STM_CMT then fieldOf v 0 2 != 3
  else if Reg.STM_SCFG 0 ≤ a ∧ a < Reg.STM_SCFG 262144 then
    (fieldOf v 1 3 == 5) == (fieldOf v 4 4 == 3) && decide (fieldOf v 1 3 ≤ 5) && decide (fieldOf v 4 4 ≤ 3) &&
    (fieldOf v 8 1 == 0 || fieldOf v 4 4 == 0) && (fieldOf v 9 1 == 0 || fieldOf v 4 4 == 0) &&
    (fieldOf v 22 1 == 0 || fieldOf v 9 1 == 1)
  else true

/-- The stream part of a frame boundary with the main die present or not (R123, R132, R133, R135, R139). -/
def State.streamBoundary (s : State) : State :=
  let s := { s with stm := { s.stm with passed := 0 } }
  let s := s.applyStreamCommit
  let sup := s.enabledStreams.filter (fun i => s.on (Fd.STM_CFG_SUP i))
  let s := if s.mainAbsent then s else sup.foldl State.superviseStream s
  let s := (s.stm.pairs.map (·.1)).foldl State.judgePair s
  let s := if s.mainAbsent then s else s.applyAcks
  s.buildDigest

end Sys2Proof.Machine
end

