-- ==== Sys2Proof/Machine/Field.lean ====
section
/-! DEFINITION. Field inputs: the conversion of a measurement to a reading (R613), the electrical supervision (R128), the
supervision states of field temperature inputs (R127, R130, R132), field-input pairs (R134, R135), converter checks and spare
analog channels (R345), and the values of the sources that loops and protection read (R274, R280, R384). -/

namespace Sys2Proof.Machine

/-- The indices below `n` of a record array whose record lists a word (a record at its reset values needs no look). -/
def State.listed (s : State) (base stride n : Nat) : List Nat :=
  (s.regs.filter (fun p => decide (base ≤ p.1) && decide (p.1 < base + stride * n))).foldl
    (fun l p => let i := (p.1 - base) / stride; if l.contains i then l else l ++ [i]) []

/-- A signed 32-bit register value, absent at 0x8000_0000 (R273). -/
def signedWord (w : Word) : Option Int := if w = 0x80000000 then none else some w.toInt

/-- The register word of a value that may be absent (R273). -/
def wordOf (v : Option Int) : Word :=
  match v with
  | none => 0x80000000
  | some x => BitVec.ofInt 32 x

/-! ### Readings -/

/-- Whether a configuration word makes input `i` a temperature source (R128, IN_CFG.ENC): an RTD, an NTC, or a current input
in the temperature encoding. -/
def tempSource (cfg : Word) : Bool :=
  let t := fieldOf cfg 0 3
  t == 1 || t == 2 || t == 3 || (t == 4 && fieldOf cfg 16 3 == 1)

/-- Whether a logical input is a temperature source. -/
def State.isTemp (s : State) (i : Nat) : Bool := tempSource (s.rd (Reg.IN_CFG i))

/-- A measurement beyond an electrical limit (Table 8 of chapter 03). -/
def State.beyondLimit (s : State) (i : Nat) (m : Int) : Bool :=
  match s.fld (Fd.IN_CFG_TYPE i) with
  | 1 => decide (400000 < m) || decide (m < 40000)
  | 2 => decide (4000000 < m) || decide (m < 400000)
  | 3 => decide ((s.fld Fd.ACT_NTC_SUP_OPEN_K : Int) * 1000000 < m) || decide (m < (s.fld Fd.ACT_NTC_SUP_SHORT : Int) * 1000)
  | 4 => decide (21000 < m) || decide (m < 3600)
  | _ => false

/-- A measurement in the valid span of its type (Table 8 of chapter 03, R613). -/
def State.validSpan (s : State) (i : Nat) (m : Int) : Bool :=
  match s.fld (Fd.IN_CFG_TYPE i) with
  | 1 => decide (60260 ≤ m) && decide (m ≤ 175860)
  | 2 => decide (602600 ≤ m) && decide (m ≤ 1758600)
  | 3 => !s.beyondLimit i m
  | 4 => decide (4000 ≤ m) && decide (m ≤ 20000)
  | 5 => decide (-500000 ≤ m) && decide (m ≤ 10500000)
  | 0 => false
  | _ => true

/-- A reading held in the range of its encoding (R18), never the no-value code (log entry 19). -/
def encClamp (enc : Nat) (v : Int) : Int :=
  match enc with
  | 1 => clampInt (-32767) 32767 v
  | 2 | 4 => clampInt 0 65534 v
  | 3 => clampInt 0 2147483647 v
  | _ => clampInt (-2147483647) 2147483647 v

/-- The reading of a measurement (R613): absent outside the span in which the type has a value. -/
def State.convert (s : State) (i : Nat) (m : Int) : Option Int :=
  let lo := (s.rd (Reg.IN_LO i)).toInt
  let hi := (s.rd (Reg.IN_HI i)).toInt
  let enc := s.fld (Fd.IN_CFG_ENC i)
  match s.fld (Fd.IN_CFG_TYPE i) with
  | 1 => if s.validSpan i m then some (encClamp 1 (Config.rtdTemp 100 m)) else none
  | 2 => if s.validSpan i m then some (encClamp 1 (Config.rtdTemp 1000 m)) else none
  | 3 => if s.validSpan i m then some (encClamp 1 (Config.ntcTemp m lo hi)) else none
  | 4 => if s.beyondLimit i m then none else some (encClamp enc (lo + roundDiv ((hi - lo) * (m - 4000)) 16000))
  | 5 => if s.validSpan i m then some (encClamp enc (lo + roundDiv ((hi - lo) * m) 10000000)) else none
  | 6 => some (encClamp 3 (roundDiv (m * lo) 1000000))
  | 7 => some (encClamp enc (lo + roundDiv (m * hi) 1000000))
  | _ => none

/-- The reading at this tick: a pulse input with no edge for 10 s reads 0 (R613). -/
def State.fieldReading (s : State) (i : Nat) : Option Int :=
  let t := s.fld (Fd.IN_CFG_TYPE i)
  if (t = 6 ∨ t = 7) ∧ Tab.at 0 s.field.edge i + sTicks 10 ≤ s.clk.now then some 0
  else (Tab.find s.field.meas i).bind (s.convert i)

/-! ### Supervision -/

/-- The supervision of a field input. -/
def State.fsup (s : State) (i : Nat) : Supv := Tab.at (Supv.fresh 0 false) s.field.sup i

/-- The state with an input's supervision set; PRT_FSUPi shows it for temperature sources (R395). -/
def State.setFSup (s : State) (i : Nat) (x : Supv) : State :=
  let s := { s with field := { s.field with sup := s.field.sup.put i x } }
  if s.isTemp i then s.set (Fd.PRT_FSUP_STATE i) (supState x) else s

/-- A field input enters FAULT (R127, R128): for a temperature source ACK_REQ and PRT_EVT.FFAULT. -/
def State.faultField (s : State) (i : Nat) : State :=
  let x := s.fsup i
  if x.fault then s else
  let s := s.setFSup i { x with fault := true, validFrom := none }
  if s.isTemp i then (s.set (Fd.PRT_FSUP_ACK_REQ i) 1).raise Fd.PRT_EVT_FFAULT i [] else s

/-- A field input enters SUSPECT, or is triggered again (R127, R132). -/
def State.suspectField (s : State) (i : Nat) : State :=
  let x := s.fsup i
  let s := (s.setFSup i { x with suspect := true, clearFrom := none }).set (Fd.PRT_FSUP_ACK_REQ i) 1
  if x.suspect then s else s.raise Fd.PRT_EVT_FSUSPECT i []

/-- The supervision windows of an input restart (R345, R611). -/
def State.restartWindows (s : State) (i : Nat) : State :=
  let x := s.fsup i
  let s := s.setFSup i { Supv.fresh s.clk.now false with fault := x.fault, suspect := x.suspect, lastRead := x.lastRead }
  { s with field := { s.field with beyond := s.field.beyond.del i } }

/-- One configured input at a tick edge: its reading, and its electrical check (R31, R128, R613). -/
def State.fieldTick (s : State) (i : Nat) : State :=
  let r := s.fieldReading i
  let s := if s.rd (Reg.IN_VAL i) = wordOf r then s else s.wr (Reg.IN_VAL i) (wordOf r)
  match Tab.find s.field.meas i with
  | none => s
  | some m =>
    let n := if s.beyondLimit i m then Tab.at 0 s.field.beyond i + 1 else 0
    let s := { s with field := { s.field with beyond := s.field.beyond.put i n } }
    let x := s.fsup i
    let valid := s.validSpan i m
    let from_ := if valid then x.validFrom.orElse (fun _ => some s.clk.now) else none
    let reads := match r with
      | some v => if s.isTemp i then ((s.clk.now, v) :: x.reads).takeWhile (fun p => decide (s.clk.now ≤ p.1 + s.stuckWindow)) else []
      | none => x.reads
    s.setFSup i { x with validFrom := from_, reads := reads }

/-- The inputs that are configured. -/
def State.configuredInputs (s : State) : List Nat :=
  (s.listed (Reg.IN_CFG 0) 0x10 144).filter (fun i => s.fld (Fd.IN_CFG_TYPE i) != 0)

/-- A latched measurement of a field input (R31, R599). -/
def State.latchInput (s : State) (i : Nat) (m : Int) : State :=
  { s with field := { s.field with meas := s.field.meas.put i m, edge := s.field.edge.put i s.clk.now } }

/-- FIELD_INPUT_FAULT (R128): an input has read beyond an electrical limit for 10 consecutive ticks. -/
def execFieldInputFault (i : Fin 144) (s : State) : Host.Outcome State Fault Refusal :=
  .next <| if 10 ≤ Tab.at 0 s.field.beyond i then s.faultField i else s

/-- Whether the converter behind an input passes its checks (R345): its own, or the spare assigned to it. -/
def State.converterGood (s : State) (i : Nat) : Bool :=
  let k := i / 8
  if k < 16 ∧ s.on (Fd.SPAI_STAT_ASSIGNED k) ∧ s.fld (Fd.SPAI_STAT_INPUT k) = i then Tab.at 0 s.field.conv (144 + k) < 3
  else Tab.at 0 s.field.conv i < 3

/-- FIELD_INPUT_FAULT_CLEAR (R127, R129): a faulted source has read validly for 1 s; a stream by VALID samples accepted over that time. -/
def execFieldInputFaultClear (x : TempSource) (s : State) : Host.Outcome State Fault Refusal :=
  .next <|
    match x with
    | .stream sid =>
      let u := (s.strm sid).sup
      if u.fault ∧ u.validFrom.any (fun t => decide (t + sTicks 1 ≤ u.lastRead)) then
        (s.setSup sid { u with fault := false }).set (Fd.STM_SUP_AGENT_FAULT sid) 0
      else s
    | .field i =>
      let u := s.fsup i
      if u.fault ∧ s.converterGood i ∧ u.validFrom.any (fun t => decide (t + sTicks 1 ≤ s.clk.now)) then
        s.setFSup i { u with fault := false }
      else s

/-- SUSPECT_CLEAR (R132): at a frame boundary a SUSPECT source's condition has been absent for STM_SUSP_CLR and its alarm is acknowledged;
the main die judges it. -/
def execSuspectClear (x : TempSource) (s : State) : Host.Outcome State Fault Refusal :=
  .next <|
    if s.mainAbsent ∨ s.clk.sidx.toNat % 100 ≠ 0 then s else
    match x with
    | .stream sid => if s.mayClear (s.strm sid).sup (s.on (Fd.STM_SUP_ACK_REQ sid)) then s.clearStream sid else s
    | .field i => if s.mayClear (s.fsup i) (s.on (Fd.PRT_FSUP_ACK_REQ i)) then s.setFSup i { s.fsup i with suspect := false } else s

/-! ### Load references of field inputs -/

/-- The accelerators a location covers: a rack's, or the module's (R130). -/
def State.accsAt (s : State) (loc : Nat) : List Nat :=
  let all := (s.stm.row.map (·.1)).filter (fun a => !Tab.has s.stm.adopted a)
  if loc = 0xFE then all ++ s.stm.adopted.map (·.1) else all.filter (fun a => s.rackOf a == some loc)

/-- The load reference of a location (R130): the sum over its accelerators. One without an enabled P16 stream has none of its own and adds
nothing; the sum is absent where no accelerator has one, or one has no value (DESIGN CHOICE, log entry 82). -/
def State.loadAt (s : State) (loc : Nat) : Option Nat :=
  let l := (s.accsAt loc).filter (fun a => (s.streamsOf a).any (fun i => s.fld (Fd.STM_CFG_FMT i) == 1))
  if l.isEmpty then none else l.foldl (fun n a => n.bind (fun x => (s.loadOf a).map (fun y => x + y))) (some 0)

/-- The reference TDP of a location (R130). -/
def State.tdpAt (s : State) (loc : Nat) : Nat := (s.accsAt loc).foldl (fun n a => n + s.fld (Fd.ACC_CFG_TDP a)) 0

/-- The stuck condition of a field temperature input at a frame boundary, evaluated by the main die (R130, R132). -/
def State.superviseField (s : State) (i : Nat) : State :=
  let x := s.fsup i
  let loc := s.fld (Fd.IN_CFG_LOC i)
  let load := if loc = 0xFF then none else s.loadAt loc
  let x := { x with loads := ((s.clk.now, load) :: x.loads).takeWhile (fun p => decide (s.clk.now ≤ p.1 + s.stuckWindow)) }
  let stuck := s.isStuck x (s.tdpAt loc)
  let rising := stuck && !s.on (Fd.PRT_FSUP_STUCK i)
  let x := { x with clearFrom := if stuck then none else x.clearFrom.orElse (fun _ => some s.clk.now) }
  let s := (s.setFSup i x).setB (Fd.PRT_FSUP_STUCK i) stuck
  if rising then s.suspectField i else s

/-- The field temperature inputs, in order. -/
def State.tempInputs (s : State) : List Nat := s.configuredInputs.filter s.isTemp

/-! ### Pairs -/

/-- Whether control and protection may use a logical input (R25): it exists, and its location is assigned. -/
def State.inUse (s : State) (i : Nat) : Bool := decide (i < 144) && s.fld (Fd.IN_CFG_LOC i) != 0xFF

/-- A field input's reading while it is OK and in use. -/
def State.okField (s : State) (i : Nat) : Option Int :=
  if supState (s.fsup i) = 0 ∧ s.inUse i then signedWord (s.rd (Reg.IN_VAL i)) else none

/-- The partner of an input in a pair in force. -/
def State.fieldPartner (s : State) (i : Nat) : Option Nat :=
  (s.field.pairs.find? (fun p => fieldOf p.2.1 0 18 == i || fieldOf p.2.2.1 0 18 == i)).map
    (fun p => if fieldOf p.2.1 0 18 = i then fieldOf p.2.2.1 0 18 else fieldOf p.2.1 0 18)

/-- The lowest DIE_WARN of all racks (R383). -/
def State.lowestWarn (s : State) : Option Int :=
  (List.range 48).foldl (fun m r => match m, tempOf (s.fld (Fd.RK_DIE_DIE_WARN r)) with
    | some x, some y => some (min x y)
    | none, y => y
    | x, none => x) none

/-- The warning threshold of a field input (R383). -/
def State.fieldWarn (s : State) (i : Nat) : Option Int :=
  match (List.range 32).find? (fun e => s.fld (Fd.LIM_CFG_KIND e) == 1 && s.fld (Fd.LIM_CFG_IDX e) == i) with
  | some e => tempOf (s.fld (Fd.LIM_THR_WARN e))
  | none =>
    let loc := s.fld (Fd.IN_CFG_LOC i)
    if loc < 48 then tempOf (s.fld (Fd.RK_DIE_DIE_WARN loc)) else s.lowestWarn

/-- The protection value of a field temperature input (R137): its reading, or its substitute. -/
def State.fieldProt (s : State) (i : Nat) : Option (Int × Bool) :=
  match s.okField i with
  | some v => some (v, false)
  | none =>
    if s.inUse i ∧ s.isTemp i ∧ supState (s.fsup i) ≠ 0 then
      match (s.fieldPartner i).bind s.okField with
      | some v => some (v, true)
      | none => (s.fieldWarn i).map (fun v => (v, true))
    else none

/-- The procedure of R135 for field-input pair `n`, which never has a forecast and never marks a member. -/
def State.judgeFPair (s : State) (n : Nat) : State :=
  match Tab.find s.field.pairs n with
  | none => s
  | some (wa, wb, cfg) =>
    let ia := fieldOf wa 0 18
    let ib := fieldOf wb 0 18
    match s.okField ia, s.okField ib with
    | some a, some b =>
      if (a - b).natAbs ≤ fieldOf cfg 0 12 then
        let v := (a + b + 1) / 2
        let s := { s with field := { s.field with pairVal := s.field.pairVal.put n (some v, some (v, false)) } }
        if s.mainAbsent then s else (s.set (Fd.FPAIR_STAT_STATE n) 0).set (Fd.FPAIR_STAT_SPLIT_MS n) 0
      else
        let s := { s with field := { s.field with pairVal := s.field.pairVal.put n (some (max a b), some (max a b, false)) } }
        if s.mainAbsent then s else
          let was := s.fld (Fd.FPAIR_STAT_STATE n)
          let s := (s.bump (Fd.FPAIR_STAT_SPLIT_MS n)).set (Fd.FPAIR_STAT_STATE n) 1
          if was = 1 then s else s.raise Fd.PRT_EVT_FPAIR_SPLIT n []
    | oa, ob =>
      let v := (oa.orElse (fun _ => ob), maxProt (s.fieldProt ia) (s.fieldProt ib))
      { s with field := { s.field with pairVal := s.field.pairVal.put n v } }

/-- The declared pairs as the words stand (R395). -/
def State.declaredPairs (s : State) : Tab (Word × Word × Word) :=
  ((s.listed (Reg.FPAIR_A 0) 0x10 64).filter (fun n => s.on (Fd.FPAIR_A_VALID n))).foldl
    (fun (t : Tab (Word × Word × Word)) n => t.put n (s.rd (Reg.FPAIR_A n), s.rd (Reg.FPAIR_B n), s.rd (Reg.FPAIR_CFG n))) []

/-- Written pairs take effect at a frame boundary; a pair that changes restarts in AGREE (R395). -/
def State.applyPairs (s : State) : State :=
  let new := s.declaredPairs
  let keys := (s.field.pairs.map (·.1) ++ new.map (·.1)).filter (fun n => Tab.find s.field.pairs n != Tab.find new n)
  let s := keys.foldl (fun s n => s.wr (Reg.FPAIR_STAT n) 0) s
  { s with field := { s.field with pairs := new, pairVal := s.field.pairVal.filter (fun p => !keys.contains p.1) } }

/-- The field inputs at a frame boundary (R132, R135): the main die's evaluations and the frame's acknowledgements, then pairs.
While the main die is absent no source enters or leaves SUSPECT, and acknowledgements wait (R133). -/
def State.fieldBoundary (s : State) : State :=
  let s := s.applyPairs
  let s := if s.mainAbsent then s else
    let s := s.tempInputs.foldl (fun s i => s.superviseField i) s
    let l := if s.field.ackAll then s.tempInputs else s.field.acks
    let s := l.foldl (fun s i => s.set (Fd.PRT_FSUP_ACK_REQ i) 0) s
    { s with field := { s.field with acks := [], ackAll := false } }
  let s := s.field.pairs.foldl (fun s p => s.judgeFPair p.1) s
  s.tempInputs.foldl (fun s i => s.setB (Fd.PRT_FSUP_SUB i) (supState (s.fsup i) != 0)) s

/-! ### Sources -/

/-- The value of a field input to control (R274, R137, R25): absent in FAULT, without a location, and, for an unpaired
temperature source, outside OK. -/
def State.fieldValue (s : State) (i : Nat) : Option Int :=
  let x := s.fsup i
  if x.fault ∨ ¬ s.inUse i ∨ (x.suspect ∧ (s.fieldPartner i).isNone) then none
  else signedWord (s.rd (Reg.IN_VAL i))

/-- The highest present guard value over a rack, or over the module at 255 (R274), absent while die temperatures are. -/
def State.guardMax (s : State) (r : Nat) : Option Int :=
  if s.on Fd.PRT_STAT_DIGEST_LOST then none else
    (s.prt.entries.filter (fun p => decide (r = 255) || s.rackOf p.1 == some r)).foldl (fun m p => maxOpt m (tempOf p.2)) none

/-- The last value of a pod quantity (R465). -/
def State.podValue (s : State) (q : Nat) : Option Int := signedWord (s.rd (Reg.CAN_PODV q))

/-- The value of a source of Table 2 of chapter 07. -/
def State.source2 (s : State) (kind idx : Nat) : Option Int :=
  match kind with
  | 1 => s.fieldValue idx
  | 2 => (Tab.at (none, none) s.field.pairVal idx).1
  | 3 => s.guardMax idx
  | 4 => s.podValue idx
  | _ => none

/-! ### Converters and spares -/

/-- A spare analog channel takes an input (R345): its windows restart, the input map changes and the event is told. -/
def State.assignSpare (s : State) (k i : Nat) (auto : Bool) : State :=
  let s := s.wr (Reg.SPAI_STAT k) (BitVec.ofNat 32 (1 + 2 * i + (if auto then 256 else 0) + 512 * s.fld (Fd.SPAI_STAT_FAILED k)))
  let s := (s.restartWindows i).wrap Fd.LOP_INMAP_ID
  s.raise Fd.ACT_EVT_SPARE_AI i [k]

/-- An input returns to its own converter (R345). -/
def State.releaseSpare (s : State) (k : Nat) : State :=
  let i := s.fld (Fd.SPAI_STAT_INPUT k)
  let s := s.wr (Reg.SPAI_STAT k) (BitVec.ofNat 32 (512 * s.fld (Fd.SPAI_STAT_FAILED k)))
  (s.restartWindows i).wrap Fd.LOP_INMAP_ID

/-- The count of failed checks of converter `c` after a check. -/
def State.checkConverter (s : State) (c : Nat) (failed : Bool) : State :=
  { s with field := { s.field with conv := if failed then s.field.conv.put c (Tab.at 0 s.field.conv c + 1) else s.field.conv.del c } }

/-- An input whose converter has failed its third check: FAULT, and its group's free spare takes it where SPARE_AUTO = 1. -/
def State.converterFailed (s : State) (i : Nat) : State :=
  let k := i / 8
  let s := s.faultField i
  if s.on Fd.ACT_CTRL_SPARE_AUTO ∧ ¬ s.on (Fd.SPAI_STAT_ASSIGNED k) ∧ ¬ s.on (Fd.SPAI_STAT_FAILED k) then s.assignSpare k i true else s

/-- CONVERTER_CHECK (R345): once per second each converter is checked by reference injection. -/
def execConverterCheck (bad : List (Fin 128)) (spareBad : List (Fin 16)) (s : State) : Host.Outcome State Fault Refusal :=
  .next <|
    let isBad (c : Nat) : Bool := bad.any (fun i => i.val == c)
    let own := (List.range 128).filter (fun c => isBad c || Tab.has s.field.conv c)
    let s := own.foldl (fun s c => s.checkConverter c (isBad c)) s
    let s := (List.range 16).foldl (fun s k =>
      let f := spareBad.any (fun x => x.val == k)
      (s.checkConverter (144 + k) f).setB (Fd.SPAI_STAT_FAILED k) f) s
    let s := own.foldl (fun s i => if Tab.at 0 s.field.conv i = 3 ∧ ¬ (s.on (Fd.SPAI_STAT_ASSIGNED (i / 8)) ∧ s.fld (Fd.SPAI_STAT_INPUT (i / 8)) = i)
      then s.converterFailed i else s) s
    (List.range 16).foldl (fun s k => if s.on (Fd.SPAI_STAT_ASSIGNED k) ∧ Tab.at 0 s.field.conv (144 + k) = 3
      then s.faultField (s.fld (Fd.SPAI_STAT_INPUT k)) else s) s

/-- A SPAI_CMD write (R345): ASSIGN and RELEASE fail, with nothing changed, if the target converter fails its check. -/
def State.spareCmd (s : State) (k : Nat) (v : Word) : State :=
  match fieldOf v 0 2 with
  | 1 => if s.on (Fd.SPAI_STAT_FAILED k) ∨ s.on (Fd.SPAI_STAT_ASSIGNED k) then s else s.assignSpare k (8 * k + fieldOf v 4 3) false
  | 2 => if s.on (Fd.SPAI_STAT_ASSIGNED k) ∧ ¬ Tab.has s.field.conv (s.fld (Fd.SPAI_STAT_INPUT k)) then s.releaseSpare k else s
  | _ => s

/-- SPAI_ASSIGN (R345): a write of SPAI_CMD with OP = ASSIGN. -/
def execSpaiAssign (w : Fin 8) (sp : Fin 16) (inp : Fin 8) (s : State) : Host.Outcome State Fault Refusal :=
  let v := BitVec.ofNat 32 (1 + 16 * inp.val)
  .next (s.writeRow w (Reg.SPAI_CMD sp) v true (fun s => s.spareCmd sp v))

/-- SPAI_RELEASE (R345): a write of SPAI_CMD with OP = RELEASE. -/
def execSpaiRelease (w : Fin 8) (sp : Fin 16) (inp : Fin 8) (s : State) : Host.Outcome State Fault Refusal :=
  let v := BitVec.ofNat 32 (2 + 16 * inp.val)
  .next (s.writeRow w (Reg.SPAI_CMD sp) v true (fun s => s.spareCmd sp v))

/-! ### Configuration writes -/

/-- A legal location code (R25). -/
def locOk (loc : Nat) : Bool := decide (loc < 48) || loc == 0xFE || loc == 0xFF

/-- Whether a type is legal for an input (R613). -/
def typeOk (i t : Nat) : Bool :=
  t == 0 || (decide (i < 64) && decide (t ≤ 3)) || (decide (64 ≤ i) && decide (i < 128) && (t == 4 || t == 5)) ||
  (decide (128 ≤ i) && (t == 6 || t == 7))

/-- Whether IN_LO and IN_HI are legal with a type (R613). -/
def spanOk (t : Nat) (lo hi : Word) : Bool :=
  if t = 3 then decide (1 ≤ lo.toInt) && decide (1000 ≤ hi.toInt) && decide (hi.toInt ≤ 10000)
  else if t = 6 then decide (1 ≤ lo.toInt) else true

/-- Whether a declared pair obeys R134 under the input configuration `cfg`. -/
def pairOk (cfg : Nat → Word) (a b : Nat) : Bool :=
  decide (a < 128) && decide (b < 128) && a != b && tempSource (cfg a) && tempSource (cfg b) &&
  fieldOf (cfg a) 8 8 == fieldOf (cfg b) 8 8 && fieldOf (cfg a) 8 8 != 0xFF

/-- Whether a configuration word makes an input a temperature source in 0–10 V mode, which R128 refuses a guarded role. -/
def voltTemp (cfg : Word) : Bool := fieldOf cfg 0 3 == 5 && fieldOf cfg 16 3 == 1

/-- Whether limit entry `e` of configuration `lim` may read input configuration `cfg` (R128): entry 0 guards the coolant supply temperature,
so it takes no input in 0–10 V mode; no entry takes a temperature source in that mode. -/
def limInputOk (e : Nat) (cfg : Word) : Bool := !(voltTemp cfg || (e == 0 && fieldOf cfg 0 3 == 5))

/-- The limit entries that read a logical input, as their words stand. -/
def State.limsOn (s : State) (i : Nat) : List Nat :=
  (List.range 32).filter (fun e => s.fld (Fd.LIM_CFG_KIND e) == 1 && s.fld (Fd.LIM_CFG_IDX e) == i)

/-- ACT_INi and PRT_FPAIRn: encodings reserved across words (R128, R134, R395, R611, R613). -/
def crossField (s : State) (a : Nat) (v : Word) : Bool :=
  let o := offsetOf a
  if windowOf a = 7 ∧ 0x060000 ≤ o ∧ o < 0x060900 then
    let i := (o - 0x060000) / 16
    match o % 16 with
    | 0 =>
      typeOk i (fieldOf v 0 3) && locOk (fieldOf v 8 8) && decide (fieldOf v 16 3 ≤ 4) &&
      spanOk (fieldOf v 0 3) (s.rd (Reg.IN_LO i)) (s.rd (Reg.IN_HI i)) && (s.limsOn i).all (fun e => limInputOk e v) &&
      s.declaredPairs.all (fun p => pairOk (fun j => if j = i then v else s.rd (Reg.IN_CFG j)) (fieldOf p.2.1 0 18) (fieldOf p.2.2.1 0 18))
    | 4 => spanOk (s.fld (Fd.IN_CFG_TYPE i)) v (s.rd (Reg.IN_HI i))
    | 8 => spanOk (s.fld (Fd.IN_CFG_TYPE i)) (s.rd (Reg.IN_LO i)) v
    | _ => true
  else if windowOf a = 8 ∧ 0x041000 ≤ o ∧ o < 0x041400 ∧ o % 16 < 12 then
    let n := (o - 0x041000) / 16
    let wa := if o % 16 = 0 then v else s.rd (Reg.FPAIR_A n)
    let wb := if o % 16 = 4 then v else s.rd (Reg.FPAIR_B n)
    let ia := fieldOf wa 0 18
    let ib := fieldOf wb 0 18
    fieldOf wa 31 1 == 0 ||
    (pairOk (fun j => s.rd (Reg.IN_CFG j)) ia ib &&
     s.declaredPairs.all (fun p => p.1 == n ||
       ([fieldOf p.2.1 0 18, fieldOf p.2.2.1 0 18].all (fun m => m != ia && m != ib))))
  else true

/-- A word of ACT_INi takes a value (R611): the input is reconfigured and its windows restart. -/
def State.writeInput (s : State) (i o : Nat) (v : Word) : State :=
  let a := Reg.IN_CFG i + o
  let s := s.plainWrite a v
  let s := if o = 0 then { s with field := { s.field with meas := s.field.meas.del i } } else s
  if s.isTemp i then s.restartWindows i
  else (({ s with field := { s.field with sup := s.field.sup.del i } }).restartWindows i).wr (Reg.PRT_FSUP i) 0

/-- FIELD_INPUT_CONFIG_WRITE (R611): a write of IN_CFG, IN_LO or IN_HI of a logical input. -/
def execFieldInputConfigWrite (w : Fin 8) (i : Fin 144) (word : Fin 3) (value : Word) (s : State) : Host.Outcome State Fault Refusal :=
  let a := Reg.IN_CFG i + 4 * word.val
  .next (s.writeRow w a value (crossField s a value) (fun s => s.writeInput i (4 * word.val) value))

end Sys2Proof.Machine
end

