-- ==== Sys2Proof/Machine/Integrity.lean ====
section
/-! DEFINITION. Field repair fuses (R572): the entries of each die, and the blowing of one for a retirement. -/

namespace Sys2Proof.Machine

/-- The first field entry and the number of entries of a die (Table 11 of chapter 14): 0 Serac, 1 port die, 2 main die. -/
def fuseBase (die : Nat) : Nat := match die with | 0 => 512 | 1 => 640 | _ => 0
def fuseCount (die : Nat) : Nat := match die with | 0 => 128 | 1 => 64 | _ => 512

/-- The count of free entries of a die (DIA_FUSE_FREE). -/
def fuseFree (die : Nat) : Fld :=
  match die with
  | 0 => Fd.DIA_FUSE_FREE_SERAC
  | 1 => Fd.DIA_FUSE_FREE_PORT
  | _ => Fd.DIA_FUSE_FREE_MAIN

/-- The entries of a die that are not blown. -/
def State.freeFuses (s : State) (die : Nat) : List Nat :=
  ((List.range (fuseCount die)).map (· + fuseBase die)).filter (fun m => !s.on (Fd.DIA_FUSE_VALID m))

/-- The words that show what the main die has retired: pseudo-channels (R218), arrays, banks and tiles (R180). -/
def retiredWord (a : Nat) : Bool :=
  (decide (0x4000100 ≤ a) && decide (a < 0x40001C0) && decide (a % 16 < 8)) ||
  (decide (0x3020000 ≤ a) && decide (a < 0x3020400) && decide (a % 16 < 12)) || a == Reg.IFD_HEALTH

/-- A retirement for which a die has no entry left holds until that die's next reset (R572): what the entries blown so far have retired is
noted. -/
def State.holdRetirement (s : State) (die kind unit : Nat) : State :=
  if kind = 5 then { s with dia := { s.dia with spares := unit :: s.dia.spares } }
  else if die = 2 ∧ s.dia.fused.isNone then { s with dia := { s.dia with fused := some (s.regs.filter (fun p => retiredWord p.1)) } }
  else s

/-- The retirements of the main die that no entry holds are undone by its reset (R572). -/
def State.forgetRetirements (s : State) : State :=
  match s.dia.fused with
  | none => s
  | some l =>
    let s := { s with regs := s.regs.filter (fun p => !retiredWord p.1), dia := { s.dia with fused := none } }
    l.foldl (fun (s : State) p => s.wr p.1 p.2) s

/-- A field entry is blown for a retirement, before the retirement shows (R572): kind, unit, the logical unit and the physical one that stands
for it. An SRAM repair of a die waits for the reset at which it takes effect. -/
def State.blowFuse (s : State) (die kind unit logical phys : Nat) : State :=
  match s.freeFuses die with
  | [] => (s.holdRetirement die kind unit).raise Fd.DIA_EVT_FUSE_OUT noObj [die]
  | m :: rest =>
    let w := 2 ^ 31 + kind % 8 * 2 ^ 28 + unit % 4096 * 65536 + logical % 256 * 256 + phys % 256
    let s := (s.wr (Reg.DIA_FUSE m) (BitVec.ofNat 32 w)).set (fuseFree die) rest.length
    let s := if kind = 3 ∨ kind = 4 then { s with dia := { s.dia with repairs := s.dia.repairs ++ [m] } } else s
    let s := s.raise Fd.DIA_EVT_FUSE_BLOWN m [die]
    let s := if rest.length ≤ 8 then s.raise Fd.DIA_EVT_FUSE_LOW noObj [die, rest.length] else s
    if rest.length = 0 then s.raise Fd.DIA_EVT_FUSE_OUT noObj [die] else s

/-- The SRAM repairs of a die take effect at its reset (R572). -/
def State.applyRepairs (s : State) (die : Nat) : State :=
  { s with dia := { s.dia with repairs := s.dia.repairs.filter (fun m => !(decide (fuseBase die ≤ m) && decide (m < fuseBase die + fuseCount die))) } }

end Sys2Proof.Machine
end

