-- ==== Sys2Proof/Machine/Loops.lean ====
section
/-! DEFINITION. Serac's loop engine (chapter 07): the law, setpoints, feed-forward, the output sequencer, plausibility, the
commit of a loop configuration, frame packets, and the two lanes. -/

namespace Sys2Proof.Machine

/-! ### Arithmetic of the law -/

/-- x reduced modulo 2^n into the signed range (w24 and w40 of R278). -/
def wrapInt (n : Nat) (x : Int) : Int :=
  let m := x % (2 ^ n : Int)
  if m < 2 ^ (n - 1) then m else m - 2 ^ n

/-- An arithmetic right shift: rounds toward minus infinity (R278). -/
def sar (x : Int) (n : Nat) : Int := x / (2 ^ n : Int)

/-- Coefficients and shifts of a law (R277). -/
structure Coefs where
  b : List Int
  a : List Int
  bsh : Nat
  ash : Nat
  esh : Nat
deriving DecidableEq, Repr

/-- The state words of a law (R278). -/
structure LawState where
  y : Int
  s1 : Int
  s2 : Int
  s3 : Int
deriving DecidableEq, Repr

/-- The error that enters the law (R277, R278). -/
def lawError (c : Coefs) (sp meas : Int) : Int := wrapInt 24 (sar (sp - meas) c.esh)

/-- tb_i of R278. -/
def lawTb (c : Coefs) (e : Int) (i : Nat) : Int := wrapInt 40 (c.b.getD i 0 * e * 2 ^ c.bsh)

/-- ta_i of R278 (a1 is the first A coefficient). -/
def lawTa (c : Coefs) (y : Int) (i : Nat) : Int := wrapInt 40 (sar (c.a.getD (i - 1) 0 * y) (15 - c.ash))

/-- One evaluation of the law (R278): the new state words, ulaw, and whether any reduction changed its argument. -/
def law (c : Coefs) (st : LawState) (sp meas : Int) : LawState × Int × Bool :=
  let e0 := sar (sp - meas) c.esh
  let e := wrapInt 24 e0
  let tb (i : Nat) : Int := lawTb c e i
  let y := wrapInt 40 (tb 0 + st.s1)
  let ta (i : Nat) : Int := lawTa c y i
  let r1 := tb 1 - ta 1 + st.s2
  let r2 := tb 2 - ta 2 + st.s3
  let r3 := tb 3 - ta 3
  let wraps : Bool :=
    e != e0 || (List.range 4).any (fun i => tb i != c.b.getD i 0 * e * 2 ^ c.bsh) ||
    y != tb 0 + st.s1 || [1, 2, 3].any (fun i => ta i != sar (c.a.getD (i - 1) 0 * y) (15 - c.ash)) ||
    wrapInt 40 r1 != r1 || wrapInt 40 r2 != r2 || wrapInt 40 r3 != r3
  (⟨y, wrapInt 40 r1, wrapInt 40 r2, wrapInt 40 r3⟩, sar (y + 2 ^ 14) 15, wraps)

/-- The preload of R289: the law then returns `t`. -/
def preload (c : Coefs) (st : LawState) (sp meas t : Int) : LawState :=
  ⟨st.y, wrapInt 40 (t * 2 ^ 15 - lawTb c (lawError c sp meas) 0), 0, 0⟩

/-- The interpolation of R301 through points that rise in X. -/
def curve (pts : List (Int × Int)) (x : Int) : Int :=
  match pts with
  | [] => 0
  | [p] => p.2
  | p :: q :: t =>
    if x < p.1 then p.2
    else if x < q.1 then
      let den := q.1 - p.1
      p.2 + (2 * ((q.2 - p.2) * (x - p.1)) + den) / (2 * den)
    else curve (q :: t) x

/-! ### Configuration words -/

/-- Word `k` of a slot's structural words (LP_SCFGk), read through `c`. -/
abbrev LoopCfg := Nat → Nat → Word

/-- The staged structural words. -/
def State.staged (s : State) : LoopCfg := fun q k => s.rd (Reg.LP_SCFG0 q + 4 * k)

/-- The active structural words. -/
def State.active (s : State) : LoopCfg := fun q k => s.rd (Reg.LP_ACFG0 q + 4 * k)

def LoopCfg.en (c : LoopCfg) (q : Nat) : Bool := fieldOf (c q 0) 0 1 == 1
def LoopCfg.plaus (c : LoopCfg) (q : Nat) : Bool := fieldOf (c q 0) 1 1 == 1
def LoopCfg.tgtKind (c : LoopCfg) (q : Nat) : Nat := fieldOf (c q 0) 4 3
def LoopCfg.tgt (c : LoopCfg) (q : Nat) : Nat := fieldOf (c q 0) 8 8
def LoopCfg.spSrc (c : LoopCfg) (q : Nat) : Nat := fieldOf (c q 0) 16 3
def LoopCfg.spIdx (c : LoopCfg) (q : Nat) : Nat := fieldOf (c q 0) 20 8
def LoopCfg.div (c : LoopCfg) (q : Nat) : Nat := fieldOf (c q 1) 0 17
def LoopCfg.ph (c : LoopCfg) (q : Nat) : Nat := fieldOf (c q 2) 0 17
def LoopCfg.tbMode (c : LoopCfg) (q : Nat) : Nat := fieldOf (c q 4) 0 2
def LoopCfg.tbN (c : LoopCfg) (q : Nat) : Nat := fieldOf (c q 4) 2 4

/-- The units of an evaluation (R270). -/
def LoopCfg.units (c : LoopCfg) (q : Nat) : Nat := if c.plaus q then 2 else 1

/-- Whether a slot is due at a count (R268). -/
def LoopCfg.due (c : LoopCfg) (q t : Nat) : Bool := c.div q != 0 && t % c.div q == c.ph q

/-- The cascade depth of a slot (R271), at most `fuel`. -/
def LoopCfg.depth (c : LoopCfg) : Nat → Nat → Nat
  | 0, _ => 0
  | fuel + 1, q => if c.spSrc q = 1 then c.depth fuel (c.spIdx q) + 1 else 0

/-- Whether a slot lies on a cycle of OUTER sources: following them from it comes back to it. -/
def LoopCfg.onCycle (c : LoopCfg) (q : Nat) : Nat → Nat → Bool
  | 0, _ => false
  | fuel + 1, p => c.spSrc p == 1 && (c.spIdx p == q || c.onCycle q fuel (c.spIdx p))

/-- The enabled slots under a configuration whose words are staged. -/
def State.stagedSlots (s : State) : List Nat :=
  sortBy (fun a b => decide (a ≤ b)) ((s.listed (Reg.LP_SCFG0 0) 0x100 128).filter (fun q => s.staged.en q))

/-- The enabled slots of the active configuration, rising. -/
def State.loopSlots (s : State) : List Nat :=
  sortBy (fun a b => decide (a ≤ b)) ((s.listed (Reg.LP_ACFG0 0) 0x100 128).filter (fun q => s.active.en q))

/-! ### Commit checks (Table 7) -/

/-- Whether a source of Table 2 names an index in its kind's range, and a field input with a location (R275, R295). -/
def State.sourceOk (s : State) (kind idx : Nat) : Bool :=
  match kind with
  | 0 | 4 => true
  | 1 => decide (idx < 144) && s.fld (Fd.IN_CFG_LOC idx) != 0xFF
  | 2 => decide (idx < 64)
  | 3 => decide (idx < 48) || idx == 255
  | _ => false

/-- BAD_SOURCE of a slot. -/
def State.badSource (s : State) (c : LoopCfg) (q : Nat) : Bool :=
  let w := c q 3
  fieldOf w 0 3 == 0 || !s.sourceOk (fieldOf w 0 3) (fieldOf w 4 8) || !s.sourceOk (fieldOf w 12 3) (fieldOf w 16 8) ||
  (c.tbMode q == 2 && !s.sourceOk (fieldOf (c q 4) 6 3) (fieldOf (c q 4) 10 8))

/-- BAD_CASCADE of a slot. -/
def badCascade (c : LoopCfg) (q : Nat) : Bool :=
  (c.spSrc q == 1 &&
    (let o := c.spIdx q
     o == q || decide (128 ≤ o) || !c.en o || c.tgtKind o != 3 || c.tgt o != q || c.onCycle q 128 q || decide (3 < c.depth 5 q) ||
     c.div q == 0 || c.div o % c.div q != 0 || c.ph o % c.div q != c.ph q)) ||
  (c.tgtKind q == 3 &&
    (let i := c.tgt q
     decide (128 ≤ i) || !c.en i || c.spSrc i != 1 || c.spIdx i != q))

/-- The points of a slot's table under a word reader. -/
def tablePoints (rd : Nat → Word) (q n : Nat) : List (Int × Int) :=
  (List.range n).map (fun i => ((rd (Reg.TB_X q i)).toInt, (rd (Reg.TB_Y q i)).toInt))

/-- Whether points rise strictly in X. -/
def risingX : List (Int × Int) → Bool
  | p :: q :: t => decide (p.1 < q.1) && risingX (q :: t)
  | _ => true

/-- The units due at a count. -/
def unitsAt (c : LoopCfg) (slots : List Nat) (t : Nat) : Nat := ((slots.filter (fun q => c.due q t)).map c.units).foldl (· + ·) 0

/-- The length of the schedule of some slots: the least common multiple of their divisors, a divisor of 100,000 (R268). -/
def schedule (c : LoopCfg) (slots : List Nat) : Nat := slots.foldl (fun n q => Nat.lcm n (c.div q)) 1

/-- The units of the most heavily loaded tick (R270). -/
def heaviest (c : LoopCfg) (slots : List Nat) : Nat := ((List.range (schedule c slots)).map (unitsAt c slots)).foldl max 0

/-- The check of a staged set (R295): the result code and the slot named. -/
def State.checkLoops (s : State) : Nat × Nat :=
  let c := s.staged
  let slots := s.stagedSlots
  match slots.find? (s.badSource c) with
  | some q => (2, q)
  | none =>
    match slots.find? (fun q => decide (c.div q ≤ c.ph q)) with
    | some q => (3, q)
    | none =>
      match slots.find? (badCascade c) with
      | some q => (4, q)
      | none =>
        match slots.find? (fun q => c.tgtKind q != 0 && slots.any (fun p => decide (p < q) && c.tgtKind p == c.tgtKind q && c.tgt p == c.tgt q)) with
        | some q => (5, q)
        | none =>
          match slots.find? (fun q => c.tbMode q == 2 && !risingX (tablePoints s.rd q (c.tbN q + 2))) with
          | some q => (6, q)
          | none =>
            match (List.range (schedule c slots)).find? (fun t => decide (160 < unitsAt c slots t)) with
            | some t => (7, (slots.find? (fun q => c.due q t)).getD 0)
            | none => (1, 0)

/-- The staged words as they stand: structural words and TABLE points. -/
def State.stagedLoopWords (s : State) : List (Nat × Word) :=
  wordsIn s.regs 0x6030000 0x6034000 ++
  (s.regs.filter (fun p => decide (0x6010000 ≤ p.1) && decide (p.1 < 0x6018000) && decide (p.1 % 0x100 < 0x14)))

/-- LOP_CMT.GO (R294 to R296). -/
def State.loopGo (s : State) : State :=
  if s.on Fd.LOP_CMT_STAT_PENDING then (s.set Fd.LOP_CMT_STAT_RESULT 8).raise Fd.LOP_EVT_CMT_REFUSED noObj [8]
  else
    let r := s.checkLoops
    let s := (s.set Fd.LOP_CMT_STAT_RESULT r.1).set Fd.LOP_CMT_STAT_SLOT r.2
    if r.1 = 1 then
      let s := s.set Fd.LOP_CMT_STAT_PENDING 1
      { s with lop := { s.lop with commit := some ⟨s.clk.now + 2, s.stagedLoopWords⟩ } }
    else s.raise Fd.LOP_EVT_CMT_REFUSED r.2 [r.1]

/-- LOP_CMT.LOAD (R294): the active configuration is copied into the staged words. -/
def State.loopLoad (s : State) : State :=
  let s := { s with regs := s.regs.filter (fun p => !(decide (0x6030000 ≤ p.1) && decide (p.1 < 0x6034000))) }
  let s := s.lop.points.foldl (fun s p => s.wr p.1 p.2) s
  (List.range 128).foldl (fun s q => (List.range 5).foldl (fun s k => s.wr (Reg.LP_SCFG0 q + 4 * k) (s.active q k)) s) s

/-- LOOP_COMMIT (R295): a write of LOP_CMT.GO = 1. -/
def execLoopCommit (w : Fin 8) (s : State) : Host.Outcome State Fault Refusal :=
  .next (s.writeRow w Reg.LOP_CMT 1 true State.loopGo)

/-- LOOP_CONFIG_LOAD (R294): a write of LOP_CMT.LOAD = 1. -/
def execLoopConfigLoad (w : Fin 8) (s : State) : Host.Outcome State Fault Refusal :=
  .next (s.writeRow w Reg.LOP_CMT 2 true State.loopLoad)

/-! ### Loop state -/

/-- A loop that has not been evaluated. -/
def Loop.idle : Loop :=
  { sp := none, source := 0, moving := false, tbl := none, noin := 0, apart := 0, within := 0, act := none, outs := [],
    frozen := false, wrapAt := none, live := false }

/-- A loop's part beside its registers. -/
def State.loop (s : State) (q : Nat) : Loop := Tab.at Loop.idle s.lop.loop q

/-- The state with a loop's part set. -/
def State.setLoop (s : State) (q : Nat) (x : Loop) : State := { s with lop := { s.lop with loop := s.lop.loop.put q x } }

/-- A 40-bit state word held in two registers. -/
def State.reg40 (s : State) (lo hi : Nat) : Int := signedOf 40 ((s.rd lo).toNat + 2 ^ 32 * fieldOf (s.rd hi) 0 8)

/-- The state with a 40-bit state word set. -/
def State.wr40 (s : State) (lo hi : Nat) (x : Int) : State :=
  let p := patternOf 40 x
  (s.wr lo (BitVec.ofNat 32 p)).wr hi (BitVec.ofNat 32 (p / 2 ^ 32))

/-- The law's state words of a slot. -/
def State.lawState (s : State) (q : Nat) : LawState :=
  ⟨s.reg40 (Reg.ST_Y_LO q) (Reg.ST_Y_HI q), s.reg40 (Reg.ST_S1_LO q) (Reg.ST_S1_HI q),
   s.reg40 (Reg.ST_S2_LO q) (Reg.ST_S2_HI q), s.reg40 (Reg.ST_S3_LO q) (Reg.ST_S3_HI q)⟩

/-- The state with the law's state words set. -/
def State.setLaw (s : State) (q : Nat) (x : LawState) : State :=
  (((s.wr40 (Reg.ST_Y_LO q) (Reg.ST_Y_HI q) x.y).wr40 (Reg.ST_S1_LO q) (Reg.ST_S1_HI q) x.s1).wr40
    (Reg.ST_S2_LO q) (Reg.ST_S2_HI q) x.s2).wr40 (Reg.ST_S3_LO q) (Reg.ST_S3_HI q) x.s3

/-- The coefficients of a slot as they stand (R277, R293). -/
def State.coefs (s : State) (q : Nat) : Coefs :=
  { b := [Reg.LP_B0 q, Reg.LP_B1 q, Reg.LP_B2 q, Reg.LP_B3 q].map (fun a => signedOf 16 (fieldOf (s.rd a) 0 16))
    a := [Reg.LP_A1 q, Reg.LP_A2 q, Reg.LP_A3 q].map (fun a => signedOf 16 (fieldOf (s.rd a) 0 16))
    bsh := s.fld (Fd.LP_SHIFT_BSH q), ash := s.fld (Fd.LP_SHIFT_ASH q), esh := s.fld (Fd.LP_SHIFT_ESH q) }

/-- The measurement of a slot (R274). -/
def State.measure (s : State) (q : Nat) : Option Int :=
  let w := s.active q 3
  let a := s.source2 (fieldOf w 0 3) (fieldOf w 4 8)
  let b := s.source2 (fieldOf w 12 3) (fieldOf w 16 8)
  match fieldOf w 24 2 with
  | 1 => a.bind (fun x => b.map (fun y => x - y))
  | 2 => maxOpt a b
  | _ => a

/-- Whether the first condition of R299 holds (LOP_STAT.TABLE_ACT). -/
def State.tableAct (s : State) : Bool :=
  let c := s.opState
  s.mainAbsent || c == 1 || c == 5 || ((c == 7 || c == 8) && s.fld Fd.SYS_STATE_RETURN == 5)

/-- The base setpoint of a slot (R280). -/
def State.baseSetpoint (s : State) (q : Nat) : Option Int :=
  let i := s.active.spIdx q
  match s.active.spSrc q with
  | 0 => signedWord (s.rd (Reg.LP_SP q))
  | 1 => if (s.loop i).live then some (s.rd (Reg.ST_OUT i)).toInt else none
  | 2 => if 64 ≤ i ∧ i < 128 then s.fieldValue i else none
  | 3 => if 128 ≤ i ∧ i < 144 then s.fieldValue i else none
  | _ => none

/-- The setpoint of a slot's TABLE mode table (R300, R301), before it is kept as the last one. -/
def State.tableSetpoint (s : State) (q : Nat) : Option Int :=
  let rd (a : Nat) : Word := ((s.lop.points.find? (fun p => p.1 == a)).map (·.2)).getD 0
  match s.active.tbMode q with
  | 1 => signedWord (rd (Reg.TB_Y q 0))
  | 2 =>
    match s.source2 (fieldOf (s.active q 4) 6 3) (fieldOf (s.active q 4) 10 8) with
    | some x => some (curve (tablePoints rd q (s.active.tbN q + 2)) x)
    | none => some ((s.loop q).tbl.getD (rd (Reg.TB_Y q 0)).toInt)
  | _ => s.baseSetpoint q

/-- What a slot's setpoint is taken from, as a number that changes with the source (R283): the setpoint source, the TABLE mode fields, and
whether the table applies. -/
def State.sourceKey (s : State) (q : Nat) (inTable : Bool) : Nat :=
  1 + fieldOf (s.active q 0) 16 12 + 2 ^ 16 * (s.active q 4).toNat + (if inTable then 2 ^ 48 else 0)

/-- The setpoint in force at an evaluation (R281 to R283), with the loop's part after it and whether the base was absent. -/
def State.setpoint (s : State) (q : Nat) (x : Loop) : Option Int × Loop × Bool :=
  let inTable := s.tableAct || x.act == some 1
  let raw := if inTable then s.tableSetpoint q else (s.baseSetpoint q).map (fun b => b + (s.rd (Reg.ST_TRIM q)).toInt)
  let key := s.sourceKey q inTable
  let x := if inTable && s.active.tbMode q == 2 then { x with tbl := raw } else x
  match raw with
  | none => (x.sp, x, true)
  | some v =>
    let slew := s.fld (Fd.LP_SLEW_SP_SLEW q)
    let moving := (x.moving || (key != x.source && x.source != 0)) && slew != 0 && x.sp.isSome
    let old := x.sp.getD v
    let now := if moving then clampInt (old - slew) (old + slew) v else v
    (some now, { x with sp := some now, source := key, moving := moving && now != v }, false)

/-! ### Targets -/

/-- The override of a loop's target (R287, R308). -/
def State.targetOverride (s : State) (q : Nat) : Option Nat :=
  match s.active.tgtKind q with
  | 1 => Tab.find s.prt.pumpOvr (s.active.tgt q)
  | 2 => Tab.find s.prt.valveOvr (s.active.tgt q)
  | _ => none

/-- The lockout value of a loop's target (R287, R309): 0 for a pump with no substitute in force, LOCKVAL for a valve. -/
def State.targetLockout (s : State) (q : Nat) : Option Nat :=
  let i := s.active.tgt q
  match s.active.tgtKind q with
  | 1 => if s.on (Fd.PMP_STAT_LOCK i) ∧ ¬ s.on (Fd.PMP_STAT_SUBST_VALID i) then some 0 else none
  | 2 => if s.on (Fd.VLV_STAT_LOCK i) then some (s.fld (Fd.VLV_LOCK_LOCKVAL i)) else none
  | _ => none

/-! ### The output sequencer -/

/-- The contributions ffh and ffs of a slot (R284 to R286). -/
def State.feedForward (s : State) (q : Nat) : Int × Int :=
  if s.opState = 3 ∨ s.on Fd.LOP_CTRL_FF_OFF then (0, 0) else
  let w := s.active q 0
  let h := if fieldOf w 2 1 = 1 then
      sar ((s.rd (Reg.ST_FFH q)).toInt * signedOf 16 (s.fld (Fd.LP_FF_FFG q))) (15 + s.fld (Fd.LP_FF_FFSH q)) else 0
  (h, if fieldOf w 3 1 = 1 then (s.rd (Reg.ST_FFS q)).toInt else 0)

/-- What one evaluation gives the sequencer: the output, the flags of LP_STAT it sets, and whether the loop is frozen. -/
structure SeqOut where
  out : Int
  flags : List Nat
  frozen : Bool
deriving DecidableEq, Repr

/-- The clamp of R287 with its flags (4 CLAMP_LO, 5 CLAMP_HI of LP_STAT). -/
def State.clampOut (s : State) (q : Nat) (x : Int) : Int × List Nat :=
  let lo := (s.rd (Reg.LP_CLLO q)).toInt
  let hi := (s.rd (Reg.LP_CLHI q)).toInt
  let v := max lo (min hi x)
  (v, if x < v then [4] else if v < x then [5] else [])

/-- The slew limit of R287. -/
def State.slewOut (s : State) (q : Nat) (x : Int) : Int :=
  let d := s.fld (Fd.LP_SLEW_OUT_SLEW q)
  let prev := (s.rd (Reg.ST_OUT q)).toInt
  if d = 0 then x else clampInt (prev - d) (prev + d) x

/-- Whether the inner loop a slot drives is frozen (R288). -/
def State.innerFrozen (s : State) (q : Nat) : Bool :=
  s.active.tgtKind q == 3 && s.on (Fd.LP_STAT_FROZEN (s.active.tgt q))

/-- Whether an evaluation without a measurement or setpoint, after `n` others, gives FS_OUT (R290). -/
def State.failsafeDue (s : State) (q n : Nat) : Bool := s.on (Fd.LP_CTRL_FS_EN q) && decide (s.fld (Fd.LP_CTRL_IN_TMO q) ≤ n)

/-- The evaluation of the law with its output (R278, R287, R289), and the state with the law's words. -/
def State.runLaw (s : State) (q : Nat) (sp meas : Int) (resume : Bool) : SeqOut × State × Bool :=
  let c := s.coefs q
  let ff := s.feedForward q
  let bias := (s.rd (Reg.LP_BIAS q)).toInt
  let st := s.lawState q
  let t := (s.rd (Reg.ST_OUT q)).toInt - ff.1 - ff.2 - bias
  let st := if resume && s.on (Fd.LP_CTRL_INIT q) then preload c st sp meas t else st
  let r := law c st sp meas
  let u := r.2.1 + ff.1 + ff.2 + bias
  let o := s.clampOut q (s.slewOut q u)
  (⟨o.1, o.2, false⟩, (s.setLaw q r.1).wr (Reg.ST_ULAW q) (BitVec.ofInt 32 r.2.1), r.2.2)

/-- The strict precedence of R287 above the law: the output and flags of a frozen evaluation, none where the law runs. -/
def State.frozenOut (s : State) (q : Nat) (x : Loop) (meas sp : Option Int) : Option SeqOut :=
  let prev := (s.rd (Reg.ST_OUT q)).toInt
  match s.targetOverride q, s.targetLockout q with
  | some v, _ => some ⟨v, [], true⟩
  | none, some v => some ⟨v, [], true⟩
  | none, none =>
    if s.on (Fd.LP_CTRL_MAN q) ∧ s.opState = 6 then
      let o := s.clampOut q (s.slewOut q (s.rd (Reg.LP_MAN_OUT q)).toInt)
      some ⟨o.1, 10 :: o.2, true⟩
    else if s.on (Fd.LP_CTRL_HOLD q) then some ⟨prev, [], true⟩
    else if s.innerFrozen q then some ⟨prev, [], true⟩
    else if meas.isNone ∨ sp.isNone then
      let fs := s.failsafeDue q (x.noin + 1)
      some ⟨if fs then (s.rd (Reg.LP_FS_OUT q)).toInt else prev, if fs then [7] else [], true⟩
    else if x.act = some 2 then some ⟨(s.rd (Reg.LP_FS_OUT q)).toInt, [7], true⟩
    else none

/-- The plant model (R291): mhat after an evaluation with output `out`, and the residual judged against the band (none where it
is not judged). -/
def State.model (s : State) (q : Nat) (x : Loop) (meas : Option Int) (frozen : Bool) : Option Int × Option Bool :=
  let mhat := signedWord (s.rd (Reg.ST_MODEL q))
  match meas with
  | none => (mhat, none)
  | some m =>
    if frozen then (some m, none) else
    let h := mhat.getD m
    let o := (x.outs[s.fld (Fd.LP_PL0_PL_DLY q)]?).getD (x.outs.getLast?.getD 0)
    let g := signedOf 16 (s.fld (Fd.LP_PL0_PL_G q))
    let ss := sar (o * g * 2 ^ s.fld (Fd.LP_PL0_PL_GSH q)) 15 + (s.rd (Reg.LP_PL2 q)).toInt
    let h := h + sar ((s.fld (Fd.LP_PL1_PL_ALPHA q) : Int) * (ss - h) + 2 ^ 14) 15
    (some h, some (decide ((s.rd (Reg.LP_PL3 q)).toNat < (m - h).natAbs)))

/-- The model's counts after a residual (R291, R292): the end of an ALARM or TABLE fault comes after PL_PERSIST evaluations inside
the band. -/
def State.judgeModel (s : State) (q : Nat) (x : Loop) (r : Option Bool) : State × Loop :=
  match r with
  | none => (s, { x with apart := 0, within := 0 })
  | some true => (s, { x with apart := x.apart + 1, within := 0 })
  | some false =>
    let x := { x with apart := 0, within := x.within + 1 }
    if x.act.any (fun a => a != 2) ∧ s.fld (Fd.LP_PL1_PL_PERSIST q) ≤ x.within then
      (s.raiseEnd Fd.LOP_EVT_PLAUS q [], { x with act := none })
    else (s, x)

/-- A wrap of a loop (R278): counted, and told once in each whole second of LOP_TCNT. -/
def State.tellWrap (s : State) (q : Nat) (x : Loop) : State × Loop :=
  let s := s.count (Reg.LP_WRAP q)
  let sec := s.clk.tcnt.toNat / 100000
  if x.wrapAt = some sec then (s, x) else (s.raise Fd.LOP_EVT_WRAP q [], { x with wrapAt := some sec })

/-- The flags of LP_STAT as a word. -/
def flagWord (l : List Nat) : Nat := l.foldl (fun n b => n ||| 2 ^ b) 0

/-- A plausibility fault of a slot begins (R292): with action FAILSAFE the output becomes FS_OUT and the loop is frozen. -/
def State.startPlaus (s : State) (q : Nat) : State :=
  let x := s.loop q
  let a := s.fld (Fd.LP_PL0_PL_ACT q)
  let s := ((s.setLoop q { x with act := some a, within := 0 }).set (Fd.LP_STAT_PLAUS q) 1).raise Fd.LOP_EVT_PLAUS q [a]
  if a = 2 then
    let o := s.rd (Reg.LP_FS_OUT q)
    let s := ((s.wr (Reg.ST_OUT q) o).set (Fd.LP_STAT_FAILSAFE q) 1).set (Fd.LP_STAT_FROZEN q) 1
    (s.setLoop q { s.loop q with frozen := true, outs := o.toInt :: (s.loop q).outs.drop 1 }).raise Fd.LOP_EVT_FAILSAFE q []
  else s

/-- Whether a slot's residual has lain outside PL_BAND for PL_PERSIST evaluations, with no fault active (R291). -/
def State.plausDue (s : State) (q : Nat) : Bool :=
  s.active.en q && s.active.plaus q && (s.loop q).act.isNone && decide (s.fld (Fd.LP_PL1_PL_PERSIST q) ≤ (s.loop q).apart)

/-- The flags of LP_STAT that follow a slot's measurement, setpoint and target (R282, R290, R299, R306). -/
def State.inputFlags (s : State) (q : Nat) (absent spAbsent inTable : Bool) : List Nat :=
  (if absent then [2] else []) ++ (if spAbsent then [3] else []) ++ (if inTable then [11] else []) ++
  (if (s.targetOverride q).isSome then [8] else []) ++ (if (s.targetLockout q).isSome then [9] else [])

/-- One evaluation of a slot (R271, R278, R287, R291). -/
def State.evaluate (s : State) (q : Nat) : State :=
  let x := s.loop q
  let meas := s.measure q
  let p := s.setpoint q x
  let x := p.2.1
  let inTable := s.tableAct || x.act == some 1
  let was := s.rd (Reg.LP_STAT q)
  let gone := meas.isNone && ((signedWord (s.rd (Reg.ST_MEAS q))).isSome || !x.live)
  let inputs := s.inputFlags q (meas.isNone || p.1.isNone) p.2.2 inTable
  let f := s.frozenOut q x meas p.1
  let r : SeqOut × State × Bool := match f, meas, p.1 with
    | none, some m, some v => s.runLaw q v m x.frozen
    | some o, _, _ => (o, s, false)
    | none, _, _ => (⟨(s.rd (Reg.ST_OUT q)).toInt, [], true⟩, s, false)
  let o := r.1
  let s := r.2.1
  let s := ((s.wr (Reg.ST_MEAS q) (wordOf meas)).wr (Reg.ST_SP q) (wordOf p.1)).wr (Reg.ST_OUT q) (BitVec.ofInt 32 o.out)
  let w := if r.2.2 then s.tellWrap q x else (s, x)
  let s := w.1
  let x := { w.2 with outs := (o.out :: w.2.outs).take 256, frozen := o.frozen, live := true,
                      noin := if meas.isNone || p.1.isNone then w.2.noin + 1 else 0 }
  let m := s.active.plaus q && s.on Fd.LOP_CTRL_PLAUS_EN
  let h := s.model q x meas o.frozen
  let s := if m then s.wr (Reg.ST_MODEL q) (wordOf h.1) else s
  let j := if m then s.judgeModel q x h.2 else (s, x)
  let s := j.1.setLoop q j.2
  let flags := o.flags ++ inputs ++ (if o.frozen then [1] else []) ++ (if j.2.act.isSome then [6] else [])
  let s := s.wr (Reg.LP_STAT q) (BitVec.ofNat 32 (flagWord flags))
  let s := if gone then s.raise Fd.LOP_EVT_NOIN q [] else s
  let s := if flags.contains 7 ∧ fieldOf was 7 1 = 0 then s.raise Fd.LOP_EVT_FAILSAFE q [] else s
  if m && s.plausDue q then s.startPlaus q else s

/-- A missed evaluation (R272). -/
def State.missEvaluation (s : State) (q : Nat) : State :=
  let s := (s.set (Fd.LP_STAT_MISS q) 1).count Reg.LOP_CNT_MISS
  let s := s.mark ⟨Reg.LOP_MISS0 + 8 * (q / 32), q % 32, 1⟩
  s.raise Fd.LOP_EVT_MISS q []

/-- The slots due at this tick, in ascending cascade depth and then slot number (R271). -/
def State.dueLoops (s : State) : List Nat :=
  let c := s.active
  let l := s.loopSlots.filter (fun q => c.due q s.clk.tcnt.toNat)
  [0, 1, 2, 3].flatMap (fun d => l.filter (fun q => c.depth 4 q == d))

/-- The last command a loop gives its target (R276): pumps, valves and fans take 0 to 32,767. -/
def State.commandTarget (s : State) (q : Nat) : State :=
  let k := s.active.tgtKind q
  if k = 1 ∨ k = 2 ∨ k = 4 then
    let v := (clampInt 0 32767 (s.rd (Reg.ST_OUT q)).toInt).toNat
    { s with acts := { s.acts with cmd := s.acts.cmd.put (k * 256 + s.active.tgt q) v } }
  else s

/-- The evaluations of a tick that both lanes have completed, where `done` is the lower number (R272). -/
def State.completed (s : State) (done : Option Nat) : List Nat := s.dueLoops.take (done.getD s.dueLoops.length)

/-- One byte into the CRC-64 register of ECMA-182. -/
def crc64Bits : Nat → Nat → Nat
  | 0, c => c
  | k + 1, c => crc64Bits k (if 2 ^ 63 ≤ c then (2 * c) % 2 ^ 64 ^^^ 0x42F0E1EBA9EA3693 else 2 * c)

/-- CRC-64 with the ECMA-182 polynomial (R265). -/
def crc64 (bs : List Byte) : Nat := bs.foldl (fun c b => crc64Bits 8 (c ^^^ b.toNat * 2 ^ 56)) 0

/-- What a lane's digest covers of a slot (R265): its output, its law state words and its sequencer flags, each big-endian. -/
def State.digestBytes (s : State) (q : Nat) : List Byte :=
  let x := s.lawState q
  beBytes 4 (s.rd (Reg.ST_OUT q)).toNat ++ [x.y, x.s1, x.s2, x.s3].flatMap (fun w => beBytes 5 (patternOf 40 w)) ++
  beBytes 4 (s.rd (Reg.LP_STAT q)).toNat

/-- The digest of a tick, over the slots evaluated in it in ascending slot order (R265). -/
def State.laneDigest (s : State) (done : Option Nat) : BitVec 64 :=
  BitVec.ofNat 64 (crc64 ((sortBy (fun a b => decide (a ≤ b)) (s.completed done)).flatMap s.digestBytes))

/-- The loop evaluations of a tick (R271, R272): `done` is the lower number of evaluations the lanes have completed. -/
def State.evaluateLoops (s : State) (done : Option Nat) : State :=
  let s := s.setB Fd.LOP_STAT_TABLE_ACT s.tableAct
  let l := s.dueLoops
  let n := done.getD l.length
  let s := (l.take n).foldl (fun s q => (s.evaluate q).commandTarget q) s
  (l.drop n).foldl (fun s q => s.missEvaluation q) s

/-! ### Rows of single loops -/

/-- PL_ACK (R292): a write of LP_CTRL with PL_ACK = 1 ends a FAILSAFE plausibility action; the loop resumes by R289. -/
def State.writeLoopCtrl (s : State) (q : Nat) (v : Word) : State :=
  let s := s.plainWrite (Reg.LP_CTRL q) v
  if fieldOf v 4 1 = 1 ∧ (s.loop q).act = some 2 then
    (((s.setLoop q { s.loop q with act := none, apart := 0, within := 0 }).set (Fd.LP_STAT_PLAUS q) 0)).raiseEnd Fd.LOP_EVT_PLAUS q []
  else s

/-- The record that a loop's words have changed since they were saved (R298). -/
def State.loopChanged (s : State) : State :=
  { s with lop := { s.lop with changed := s.lop.changed.orElse (fun _ => some s.clk.now) } }

/-- PL_ACK (R292). -/
def execPlAck (w : Fin 8) (q : Fin 128) (value : Word) (s : State) : Host.Outcome State Fault Refusal :=
  .next (s.writeRow w (Reg.LP_CTRL q) value true (fun s => (s.writeLoopCtrl q value).loopChanged))

/-- PLAUSIBILITY_FAULT (R292): the residual has lain outside PL_BAND for PL_PERSIST evaluations. The evaluation that finds it so begins the
fault itself; the row begins one that a later write of PL_PERSIST makes due. -/
def execPlausibilityFault (q : Fin 128) (s : State) : Host.Outcome State Fault Refusal :=
  .next (if s.plausDue q then (s.startPlaus q).commandTarget q else s)

/-- LOOP_FAILSAFE (R290): the measurement has been absent for IN_TMO consecutive due evaluations. The evaluation that completes them gives
FS_OUT itself; the row gives it where a later write makes it due. -/
def execLoopFailsafe (q : Fin 128) (s : State) : Host.Outcome State Fault Refusal :=
  .next <|
    if s.active.en q ∧ s.failsafeDue q (s.loop q).noin ∧ ¬ s.on (Fd.LP_STAT_FAILSAFE q) ∧
       ¬ s.on (Fd.LP_STAT_OVR q) ∧ ¬ s.on (Fd.LP_STAT_LOCK q) ∧ ¬ s.on (Fd.LP_STAT_MANUAL q) ∧ ¬ s.on (Fd.LP_CTRL_HOLD q) ∧
       ¬ s.innerFrozen q then
      let s := (s.wr (Reg.ST_OUT q) (s.rd (Reg.LP_FS_OUT q))).set (Fd.LP_STAT_FAILSAFE q) 1
      (s.commandTarget q).raise Fd.LOP_EVT_FAILSAFE q []
    else s

/-- The words of the loops that Serac keeps in its non-volatile store (R298): active configuration, direct-effect registers and
the TABLE points in force. -/
def State.loopWords (s : State) : List (Nat × Word) :=
  (s.regs.filter (fun p => decide (0x6010000 ≤ p.1) && decide (p.1 < 0x6018000) && decide (0x20 ≤ p.1 % 0x100) && decide (p.1 % 0x100 < 0x98))) ++
  s.lop.points

/-- LOOP_CONFIG_SAVE (R298). -/
def execLoopConfigSave (s : State) : Host.Outcome State Fault Refusal :=
  .next <| if s.lop.changed.isSome then { s with lop := { s.lop with nv := s.loopWords, changed := none } } else s

/-- The loops as they start from the non-volatile store after power-up (R298): zero state, HOLD, MAN and PL_ACK at 0. -/
def State.restoreLoops (s : State) : State :=
  let s := { s with regs := s.regs.filter (fun p => !(decide (0x6010000 ≤ p.1) && decide (p.1 < 0x6034000))) }
  let s := (s.lop.nv.filter (fun p => decide (p.1 < 0x6030000))).foldl (fun s p => s.wr p.1 p.2) s
  let s := (s.listed (Reg.LP_CTRL 0) 0x100 128).foldl (fun s q => (s.set (Fd.LP_CTRL_HOLD q) 0).set (Fd.LP_CTRL_MAN q) 0) s
  let s := { s with lop := { s.lop with loop := [], candA := none, candB := none, bad := [], next := none, commit := none,
                                        points := s.lop.nv.filter (fun p => decide (0x6030000 ≤ p.1)), faults := [], matched := [],
                                        loading := false, changed := none, report := [] } }
  (s.loopLoad).set Fd.LOP_LOAD_UNITS (heaviest s.active s.loopSlots)

/-! ### A commit takes effect (R296) -/

/-- The law's state and the model of a slot at zero, as a loop starts or restarts. -/
def State.zeroLoop (s : State) (q : Nat) : State := (s.setLaw q ⟨0, 0, 0, 0⟩).wr (Reg.ST_MODEL q) 0x80000000

/-- The command that a newly enabled slot's target has had so far, and keeps until its first evaluation (R296). -/
def State.commandSoFar (s : State) (q : Nat) : Word :=
  match s.active.tgtKind q with
  | 0 => 0
  | 3 => if s.rd (Reg.ST_SP (s.active.tgt q)) = 0x80000000 then 0 else s.rd (Reg.ST_SP (s.active.tgt q))
  | k => BitVec.ofNat 32 (Tab.at 0 s.acts.cmd (k * 256 + s.active.tgt q))

/-- One slot at the boundary of a commit: `old` are its active words before it. -/
def State.commitLoop (s : State) (old : LoopCfg) (q : Nat) : State :=
  let new := s.active
  if ¬ new.en q then { s with lop := { s.lop with loop := s.lop.loop.del q } }
  else if ¬ old.en q then (((s.zeroLoop q).wr (Reg.ST_OUT q) (s.commandSoFar q)).wr (Reg.LP_STAT q) 0).setLoop q Loop.idle
  else if old q 1 ≠ new q 1 ∨ old q 2 ≠ new q 2 ∨ old q 3 ≠ new q 3 ∨ old.tgtKind q ≠ new.tgtKind q ∨ old.tgt q ≠ new.tgt q then
    (s.zeroLoop q).setLoop q { s.loop q with noin := 0, apart := 0, within := 0, outs := [], frozen := true }
  else s

/-- The commands of targets that no enabled loop has any more end (R296). -/
def State.dropCommands (s : State) : State :=
  let l := s.loopSlots.map (fun q => s.active.tgtKind q * 256 + s.active.tgt q)
  { s with acts := { s.acts with cmd := s.acts.cmd.filter (fun (p : Nat × Nat) => l.contains p.1) } }

/-- An admitted commit takes effect at the first frame boundary at least 2 ticks after its write (R296). -/
def State.applyLoopCommit (s : State) : State :=
  match s.lop.commit with
  | none => s
  | some c =>
    if s.clk.now < c.at_ then s else
    let old := s.active
    let before := s.loopSlots
    let words := c.cfg.filter (fun p => decide (p.1 < 0x6030000))
    let s := { s with regs := s.regs.filter (fun p => !(decide (0x6010000 ≤ p.1) && decide (p.1 < 0x6018000) &&
                                decide (0x20 ≤ p.1 % 0x100) && decide (p.1 % 0x100 < 0x34))),
                      lop := { s.lop with commit := none, points := c.cfg.filter (fun p => decide (0x6030000 ≤ p.1)) } }
    let s := words.foldl (fun s p => s.wr (p.1 + 0x20) p.2) s
    let s := (before ++ s.loopSlots.filter (fun q => !before.contains q)).foldl (fun s q => s.commitLoop old q) s
    let s := s.dropCommands
    let s := (s.set Fd.LOP_LOAD_UNITS (heaviest s.active s.loopSlots)).set Fd.LOP_CMT_STAT_PENDING 0
    ((s.wrap Fd.LOP_CMT_STAT_SEQ).raise Fd.LOP_EVT_CMT_DONE noObj []).loopChanged

/-! ### Frame packets -/

/-- The entries of a packet (R33): slot, kind and value; none where one has a reserved encoding or appears twice (R34). -/
def packetEntries : Nat → List Byte → Option (Tab Int)
  | 0, _ => some []
  | n + 1, bs =>
    let slot := beAt bs 0 1
    let kind := beAt bs 1 1
    (packetEntries n (bs.drop 8)).bind (fun t =>
      if 128 ≤ slot ∨ 2 < kind ∨ Tab.has t (slot * 4 + kind) then none
      else some (t.put (slot * 4 + kind) (signedOf 32 (beAt bs 4 4))))

/-- The sample index of the boundary of the current frame (S of R32). -/
def State.frameS (s : State) : Nat := s.clk.sidx.toNat / 100 * 100

/-- A lane's check of a packet (R34). -/
def State.acceptPacket (s : State) (bs : List Byte) : Option Packet :=
  let n := beAt bs 2 2
  if n ≤ 384 ∧ bs.length = 24 + 8 * n ∧ beAt bs (20 + 8 * n) 4 = crc32 (bs.take (20 + 8 * n)) ∧ beAt bs 4 8 = s.frameS ∧
     s.fld Fd.PAI_PLVL_MIN ≤ beAt bs 0 1 ∧ beAt bs 0 1 ≤ s.fld Fd.PAI_PLVL_MAX then
    (packetEntries n (bs.drop 20)).map (fun t => ⟨BitVec.ofNat 32 (beAt bs 12 4), t⟩)
  else none

/-- Whether a lane takes part in packets (R35): SELECTED or SHADOW. -/
def State.takesPart (s : State) (l : Lane) : Bool :=
  let st := match l with
    | .a => s.fld Fd.LOP_STAT_A_STATE
    | .b => s.fld Fd.LOP_STAT_B_STATE
  st == 0 || st == 1

/-- FRAME_PACKET (R34, R35): a packet arrives complete at a lane. -/
def execFramePacket (lane : Lane) (bytes : List Byte) (s : State) : Host.Outcome State Fault Refusal :=
  .next <|
    match s.acceptPacket bytes with
    | none => if s.lop.bad = bytes then s else { s.count Reg.LOP_CNT_PKTBAD with lop := { s.lop with bad := bytes } }
    | some p =>
      if 90 < s.clk.sidx.toNat % 100 ∨ ¬ s.takesPart lane then s else
      match lane with
      | .a => { s with lop := { s.lop with candA := some p } }
      | .b => { s with lop := { s.lop with candB := some p } }

/-- PACKET_ACCEPT_EXCHANGE (R35): at S + 95 the packet is set to be applied if every lane that takes part has accepted it. -/
def execPacketAcceptExchange (s : State) : Host.Outcome State Fault Refusal :=
  .next <|
    if s.clk.sidx.toNat % 100 ≠ 95 then s else
    let a := s.takesPart .a
    let b := s.takesPart .b
    let p := if a ∧ b then (if s.lop.candA = s.lop.candB then s.lop.candA else none) else if a then s.lop.candA else if b then s.lop.candB else none
    { s with lop := { s.lop with next := p } }

/-- Whether a slot has enabled a kind of packet entry (R285). -/
def State.kindEnabled (s : State) (key : Nat) : Bool :=
  let q := key / 4
  s.active.en q && (match key % 4 with
    | 0 => true
    | 1 => fieldOf (s.active q 0) 2 1 == 1
    | _ => fieldOf (s.active q 0) 3 1 == 1)

/-- The register that holds a packet value of a kind. -/
def packetReg (key : Nat) : Nat :=
  match key % 4 with
  | 0 => Reg.ST_TRIM (key / 4)
  | 1 => Reg.ST_FFH (key / 4)
  | _ => Reg.ST_FFS (key / 4)

/-- The packet values that are not 0. -/
def State.packetRegs (s : State) : List (Nat × Word) :=
  s.regs.filter (fun p => decide (0x6020000 ≤ p.1) && decide (p.1 < 0x6022000) && decide (0x30 ≤ p.1 % 0x40) && decide (p.1 % 0x40 < 0x3C))

/-- A packet is applied (R36, R285): every pair it does not list takes 0, and entries of kinds not enabled are ignored. -/
def State.applyPacket (s : State) (p : Packet) : State :=
  let s := s.packetRegs.foldl (fun s r => s.wr r.1 0) s
  let s := p.entries.foldl (fun s e =>
    if s.kindEnabled e.1 then s.wr (packetReg e.1) (BitVec.ofInt 32 e.2) else s.count Reg.LOP_CNT_FFIGN) s
  s.wr Reg.LOP_PKT_SEQ p.seq

/-- One step of a feed-forward term's decay (R37, R286). -/
def decayed (d : Nat) (v : Int) : Int :=
  let n := sar (v * d + 2 ^ 14) 15
  if n = v then (if v > 0 then v - 1 else if v < 0 then v + 1 else 0) else n

/-- The decay of every feed-forward term at a boundary without an applied packet (R286). -/
def State.decayTerms (s : State) : State :=
  (s.packetRegs.filter (fun r => decide (0x34 ≤ r.1 % 0x40 ∨ r.1 % 0x40 = 0x30))).foldl
    (fun s r => if r.1 % 0x40 = 0x38 then s else s.wr r.1 (BitVec.ofInt 32 (decayed (s.fld (Fd.LP_FFDEC_D ((r.1 - 0x6020000) / 0x40))) r.2.toInt))) s

/-- Whether the main die is present and reports a frame program active (R37, R38). -/
def State.packetExpected (s : State) : Bool :=
  !s.mainAbsent && s.on Fd.IFD_CTRL_EN &&
  (List.range 16).any (fun k => s.fld (Fd.SLOT_STAT_STATE k) == 3 && s.fld (Fd.SLOT_STAT_ROLE k) == 0)

/-- Whether this boundary closes a whole frame of ticks; one that a jump of the sample index cuts short is judged with the next (R75). -/
def State.closesFrame (s : State) : Bool := s.clk.judged == s.clk.now

/-- The packet of the frame at its boundary (R36 to R38): applied, or a frame without one, whose decay counts ticks (R75). -/
def State.packetBoundary (s : State) : State :=
  let s := match s.lop.next with
    | some p => { s.applyPacket p with sys := { s.sys with applied := s.sys.applied + 1, noPacket := 0 } }
    | none =>
      if ¬ s.closesFrame then s else
      let s := s.decayTerms
      if s.packetExpected then
        let s := (s.count Reg.LOP_CNT_PKTMISS).raise Fd.LOP_EVT_PKT_MISS noObj []
        { s with sys := { s.sys with applied := 0, noPacket := s.sys.noPacket + 1 } }
      else { s with sys := { s.sys with applied := 0, noPacket := 0 } }
  { s with lop := { s.lop with next := none, candA := none, candB := none, bad := [] } }

/-- The loop report of a boundary (R302). -/
def State.loopReport (s : State) : Tab (List (Option Int)) :=
  ((s.listed (Reg.ST_MEAS 0) 0x40 128) ++ (s.listed (Reg.LP_STAT 0) 0x100 128)).foldl
    (fun (t : Tab (List (Option Int))) q => t.put q
      [signedWord (s.rd (Reg.ST_MEAS q)), signedWord (s.rd (Reg.ST_SP q)), some (s.rd (Reg.ST_OUT q)).toInt,
       some (fieldOf (s.rd (Reg.LP_STAT q)) 0 16 : Int)]) []

/-! ### Lanes -/

def stField (l : Lane) : Fld :=
  match l with
  | .a => Fd.LOP_STAT_A_STATE
  | .b => Fd.LOP_STAT_B_STATE

def otherLane : Lane → Lane
  | .a => .b
  | .b => .a

def laneCode : Lane → Nat
  | .a => 0
  | .b => 1

/-- The selected lane. -/
def State.selLane (s : State) : Lane := if s.on Fd.LOP_STAT_SEL then .b else .a

/-- A lane enters FAULT (R266, R267). -/
def State.faultLane (s : State) (l : Lane) : State :=
  let s := { s with lop := { s.lop with faults := s.lop.faults.put (laneCode l) (s.clk.now :: Tab.at [] s.lop.faults (laneCode l)),
                                        matched := s.lop.matched.del (laneCode l) } }
  (s.set (stField l) 3).raise Fd.LOP_EVT_LANE_FAULT (laneCode l) []

/-- Whether a lane stays in FAULT until the next module reset: its third entry within 1 h (R267). -/
def State.laneStuck (s : State) (l : Lane) : Bool :=
  match Tab.at [] s.lop.faults (laneCode l) with
  | t0 :: _ :: t2 :: _ => decide (t0 - t2 ≤ sTicks 3600)
  | _ => false

/-- The selected lane is bad (R39, R40, R266): it enters FAULT; a healthy SHADOW lane is selected, otherwise HEALTH is deasserted. -/
def State.dropSelected (s : State) (otherBad : Bool) : State :=
  let o := otherLane s.selLane
  let st := s.fld (stField o)
  let s := s.faultLane s.selLane
  if st = 1 ∧ ¬ otherBad then
    let s := ((s.set Fd.LOP_STAT_SEL (laneCode o)).set (stField o) 0).count Reg.LOP_CNT_LANESW
    s.raise Fd.LOP_EVT_LANE_SWITCH (laneCode o) []
  else { s with sys := { s.sys with health := false } }

/-- A lane is found bad outside its comparison (R39, R40: an uncorrectable ECC error, a bus error, the lane's watchdog): on the selected
lane the output update of the tick is suppressed too. -/
def State.laneBad (s : State) (l : Lane) : State :=
  if s.fld (stField l) = 3 then s
  else if l = s.selLane then { s.dropSelected false with lop := { (s.dropSelected false).lop with held := true } } else s.faultLane l

/-- The arbitration of R266 at 7.0 µs of a tick. The second part of the result says that the output update of this tick is
suppressed (R40): the selected lane is bad, or was found bad earlier in the tick. -/
def State.arbitrate (s : State) (k : LaneCheck) (differ : Bool) : State × Bool :=
  let held := s.lop.held
  let s := { s with lop := { s.lop with held := false } }
  let sel := s.selLane
  let o := otherLane sel
  let badOf (l : Lane) : Bool := match l with
    | .a => k.badA
    | .b => k.badB
  let st := s.fld (stField o)
  let s := if differ ∧ st = 1 ∧ ¬ badOf sel then (s.count Reg.LOP_CNT_DIVERGE).raise Fd.LOP_EVT_DIVERGE (laneCode o) [] else s
  if badOf sel ∧ s.laneDrives then (s.dropSelected (badOf o), true)
  else if (st = 1 ∨ st = 2) ∧ (badOf o ∨ differ) then (s.faultLane o, held)
  else (s, held)

/-- LANE_RECOVER (R267): a faulted lane has passed its reset and self-test. -/
def execLaneRecover (lane : Lane) (s : State) : Host.Outcome State Fault Refusal :=
  .next <|
    if s.fld (stField lane) = 3 ∧ ¬ s.laneStuck lane then
      let s := s.applyRepairs 0
      let s := { s with lop := { s.lop with loading := true, matched := s.lop.matched.del (laneCode lane) } }
      (s.set (stField lane) 2).raise Fd.LOP_EVT_LANE_RECOVER (laneCode lane) []
    else s

/-- A lane that has matched for 100 consecutive frames enters SHADOW (R267). -/
def State.readyLane (s : State) (lane : Lane) : State :=
  if s.fld (stField lane) = 2 ∧ 100 ≤ Tab.at 0 s.lop.matched (laneCode lane) then
    let s := { s with lop := { s.lop with matched := s.lop.matched.del (laneCode lane) } }
    (s.set (stField lane) 1).raise Fd.LOP_EVT_LANE_READY (laneCode lane) []
  else s

/-- LANE_READY (R267): a RECOVER lane has matched for 100 consecutive frames. -/
def execLaneReady (lane : Lane) (s : State) : Host.Outcome State Fault Refusal := .next (s.readyLane lane)

/-- One more frame of a RECOVER lane. -/
def State.matchLane (s : State) (l : Lane) : State :=
  if s.fld (stField l) = 2 then
    { s with lop := { s.lop with matched := s.lop.matched.put (laneCode l) (Tab.at 0 s.lop.matched (laneCode l) + 1) } }.readyLane l
  else s

/-- A RECOVER lane at a frame boundary: it loads the selected lane's state, then counts frames that match. -/
def State.laneBoundary (s : State) : State :=
  if s.lop.loading then { s with lop := { s.lop with loading := false } } else (s.matchLane .a).matchLane .b

/-- The loop engine at a frame boundary (R36, R286, R296, R302): the report of the frame's values, the packet, a pending commit
and the lanes. -/
def State.loopBoundary (s : State) : State :=
  let s := { s with lop := { s.lop with report := s.loopReport } }
  ((s.packetBoundary).applyLoopCommit).laneBoundary

/-- Whether an index lies in the range that its kind lists (first, and first beyond); a kind without a range takes any. -/
def indexOf (kind idx : Nat) (ranges : List (Nat × Nat × Nat)) : Bool :=
  (ranges.filter (fun r => r.1 == kind)).all (fun r => decide (r.2.1 ≤ idx) && decide (idx < r.2.2))

/-- LOP_: encodings reserved across fields (R274 to R276, R280, R294, R306). -/
def crossLoop (a : Nat) (v : Word) : Bool :=
  let o := offsetOf a
  let sourceEnc (kind idx : Nat) : Bool :=
    decide (kind ≤ 4) && (kind != 1 || decide (idx < 144)) && (kind != 3 || decide (idx < 48) || idx == 255)
  if a = Reg.LOP_CMT then fieldOf v 0 2 != 3
  else if 0x010000 ≤ o ∧ o < 0x018000 then
    match o % 0x100 with
    | 0x00 => indexOf (fieldOf v 4 3) (fieldOf v 8 8) [(1, 0, 8), (2, 0, 64), (3, 0, 128), (4, 0, 64)] &&
              indexOf (fieldOf v 16 3) (fieldOf v 20 8) [(1, 0, 128), (2, 64, 128), (3, 128, 144)]
    | 0x04 => fieldOf v 0 17 != 0 && 100000 % fieldOf v 0 17 == 0
    | 0x0C => sourceEnc (fieldOf v 0 3) (fieldOf v 4 8) && sourceEnc (fieldOf v 12 3) (fieldOf v 16 8) && fieldOf v 24 2 != 3
    | 0x10 => fieldOf v 0 2 != 3 && decide (fieldOf v 2 4 ≤ 14) && sourceEnc (fieldOf v 6 3) (fieldOf v 10 8)
    | _ => true
  else true

end Sys2Proof.Machine
end

