-- ==== Sys2Proof/Machine/Pumps.lean ====
section
/-! DEFINITION. Pump channels (chapter 08): the command that reaches a channel, the start, ramp and stop sequences, trips,
substitution and restoring, and the proportional valve outputs with their supervision. -/

namespace Sys2Proof.Machine

/-! ### Pumps: command and speed -/

/-- A pump channel beside its registers before anything has happened. -/
def Pump.idle : Pump :=
  { start := 0, safety := false, dem := 0, ramping := false, intent := false, restore := false, standsFor := none,
    lowFrom := none, highFrom := none, weakFrom := none, ran := 0, faultReset := false, byProt := false }

/-- A pump's part beside its registers. -/
def State.pump (s : State) (p : Nat) : Pump := Tab.at Pump.idle s.acts.pump p

/-- The state with a pump's part set. -/
def State.setPump (s : State) (p : Nat) (x : Pump) : State := { s with acts := { s.acts with pump := s.acts.pump.put p x } }

/-- PMP_STAT.STATE: 0 OFF, 1 STARTING, 2 RAMPING, 3 RUNNING, 4 STOPPING, 5 TRIPPED, 6 FAIL_START. -/
def State.pumpState (s : State) (p : Nat) : Nat := s.fld (Fd.PMP_STAT_STATE p)

/-- STARTING, RAMPING or RUNNING (R318). -/
def State.pumpDriven (s : State) (p : Nat) : Bool := decide (1 ≤ s.pumpState p) && decide (s.pumpState p ≤ 3)

/-- Whether the enable output is on (R313, R317). -/
def State.pumpEnabled (s : State) (p : Nat) : Bool := decide (1 ≤ s.pumpState p) && decide (s.pumpState p ≤ 4)

/-- Whether a pump is locked out (R309). -/
def State.pumpLocked (s : State) (p : Nat) : Bool := s.on (Fd.PMP_LOCK_LOCK p)

/-- The override of a pump; an OFFLINE pump is never driven by one (R309, R315). -/
def State.pumpOverride (s : State) (p : Nat) : Option Nat :=
  if s.fld (Fd.PMP_CFG_ROLE p) = 2 then none else Tab.find s.prt.pumpOvr p

/-- Whether an enabled loop targets a channel of a target kind (R276: 1 pump, 2 valve, 4 fan demand). -/
def State.targeted (s : State) (kind i : Nat) : Bool :=
  s.loopSlots.any (fun q => s.active.tgtKind q == kind && s.active.tgt q == i)

/-- The command a loop gives a channel, 0 where no enabled loop targets it (R308). -/
def State.loopCommand (s : State) (kind i : Nat) : Nat :=
  if s.targeted kind i then Tab.at 0 s.acts.cmd (kind * 256 + i) else 0

/-- The command of a pump (R308, R319): its override, else the command addressed to the channel it stands in for, else its
own. -/
def State.pumpCommand (s : State) (p : Nat) : Nat :=
  match s.pumpOverride p with
  | some v => v
  | none =>
    match (s.pump p).standsFor with
    | some l => (s.pumpOverride l).getD (s.loopCommand 1 l)
    | none => s.loopCommand 1 p

/-- The speed demand of a command in 1/32,768 of full speed (R313). -/
def speedOf (lo hi c : Nat) : Nat := lo + c * (hi - lo) / 32767

/-- The speed demand a pump is to reach. -/
def State.pumpGoal (s : State) (p : Nat) : Nat :=
  speedOf (s.fld (Fd.PMP_SPD_SPD_MIN p)) (s.fld (Fd.PMP_SPD_SPD_MAX p)) (s.pumpCommand p)

/-- 1/10^8 of a demand unit: a ramp of 0.1 %/s moves 32,768 of these per tick. -/
def rampUnit : Nat := 100000000

/-- What the analog output carries for a demand (R312, R313): volts in mode 0, milliamperes in mode 1; in the modes that do not
use it 0 V, the first of the two levels R312 names (DESIGN CHOICE, log entry 88). -/
def analogOut (mode x : Nat) : ℚ :=
  match mode with
  | 0 => 10 * x / 32767
  | 1 => 4 + 16 * x / 32767
  | _ => 0

/-- The duty of a pump's PWM output (R312, R313): low in the modes that do not use it. -/
def pwmOut (mode x : Nat) : ℚ := if mode = 2 then x / 32767 else 0

/-- The feedback of a pump in 1/32,768 of full speed (R314). -/
def State.pumpFeedback (s : State) (p : Nat) : Option Nat :=
  match s.fld (Fd.PMP_CFG_FB_KIND p) with
  | 1 =>
    let full := (s.rd (Reg.PMP_FB_FULL p)).toInt
    if full ≤ 0 then none
    else (s.fieldValue (s.fld (Fd.PMP_CFG_FB_IDX p))).map (fun v => (clampInt 0 65534 (v * 32768 / full)).toNat)
  | 2 => if s.on (Fd.DRV_STAT_LOST p) then none else some (min 65534 (s.fld (Fd.DRV_STAT_SPEED p)))
  | _ => none

/-! ### Starting, stopping, substitution -/

/-- A start begins (R316): the enable is on and the speed path carries SPD_MIN. -/
def State.startPump (s : State) (p : Nat) (safety : Bool) : State :=
  let lo := s.fld (Fd.PMP_SPD_SPD_MIN p)
  let s := s.setPump p { s.pump p with start := s.clk.now, safety := safety, dem := lo * rampUnit, ramping := false, weakFrom := none }
  ((s.set (Fd.PMP_STAT_STATE p) 1).set (Fd.PMP_STAT_CAUSE p) 0).set (Fd.PMP_DEM_DEMAND p) lo

/-- The stop sequence begins (R317). -/
def State.stopPump (s : State) (p : Nat) : State :=
  if s.pumpDriven p then (s.setPump p { s.pump p with ramping := true, restore := false }).set (Fd.PMP_STAT_STATE p) 4 else s

/-- A STOPPING pump returns to RUNNING from the present demand (R317), by the ramp of the start's class. -/
def State.resumePump (s : State) (p : Nat) (safety : Bool) : State :=
  (s.setPump p { s.pump p with ramping := true, safety := safety, weakFrom := none }).set (Fd.PMP_STAT_STATE p) 3

/-- The enable output goes off and the pump takes a state without drive. -/
def State.pumpOff (s : State) (p st cause : Nat) : State :=
  let s := s.setPump p { s.pump p with dem := 0, ramping := false, restore := false, weakFrom := none }
  ((s.set (Fd.PMP_STAT_STATE p) st).set (Fd.PMP_STAT_CAUSE p) cause).set (Fd.PMP_DEM_DEMAND p) 0

/-- The first STANDBY pump of a group that may be started (R319): OFF, not locked out, and not standing in already (log entry 88). -/
def State.candidate (s : State) (g skip : Nat) : Option Nat :=
  (List.range 8).find? (fun c => c != skip && s.fld (Fd.PMP_CFG_ROLE c) == 1 && s.fld (Fd.PMP_CFG_GROUP c) == g &&
    s.pumpState c == 0 && !s.pumpLocked c && (s.pump c).standsFor.isNone)

/-- The substitution for a lost channel (R319). -/
def State.substitutePump (s : State) (lost : Nat) (safety : Bool) : State :=
  match s.candidate (s.fld (Fd.PMP_CFG_GROUP lost)) lost with
  | none => (s.set (Fd.PMP_STAT_SUBST_VALID lost) 0).raise Fd.ACT_EVT_STANDBY_START lost []
  | some c =>
    let s := (s.set (Fd.PMP_STAT_SUBST lost) c).set (Fd.PMP_STAT_SUBST_VALID lost) 1
    let s := (s.setPump c { s.pump c with standsFor := some lost }).set (Fd.PMP_STAT_REDIR c) 1
    (s.startPump c safety).raise Fd.ACT_EVT_STANDBY_START c []

/-- Protection starts the first candidate of a group (R375), if there is one. -/
def State.standbyStart (s : State) (g skip : Nat) : State :=
  match s.candidate g skip with
  | none => s
  | some c =>
    let s := s.setPump c { s.pump c with byProt := true }
    (s.startPump c true).raise Fd.ACT_EVT_STANDBY_START c []

/-- A substitute no longer stands in for a channel. -/
def State.endRedirect (s : State) (c : Nat) : State :=
  (s.setPump c { s.pump c with standsFor := none }).set (Fd.PMP_STAT_REDIR c) 0

/-- What follows the loss of a pump (R319, R320): a DUTY pump without a substitute is substituted; a substitute lost in its start
passes to the next candidate. -/
def State.pumpLost (s : State) (p : Nat) (inStart : Bool) : State :=
  match (s.pump p).standsFor with
  | some l => if inStart then ((s.endRedirect p).set (Fd.PMP_STAT_SUBST_VALID l) 0).substitutePump l true else s
  | none =>
    if s.fld (Fd.PMP_CFG_ROLE p) = 0 ∧ ¬ s.on (Fd.PMP_STAT_SUBST_VALID p) then s.substitutePump p true
    else if (s.pump p).byProt ∧ inStart then (s.setPump p { s.pump p with byProt := false }).standbyStart (s.fld (Fd.PMP_CFG_GROUP p)) p
    else s

/-- A start has failed (R316). -/
def State.failStart (s : State) (p cause : Nat) : State :=
  ((s.pumpOff p 6 cause).raise Fd.ACT_EVT_PMP_FAIL_START p [cause]).pumpLost p true

/-- A trip (R318), before protection is told. -/
def State.tripPump (s : State) (p cause : Nat) : State :=
  let inStart := s.pumpState p != 3
  (((s.pumpOff p 5 cause).count Reg.ACT_CNT_TRIP).raise Fd.ACT_EVT_PMP_TRIP p [cause]).pumpLost p inStart

/-- A pump is proven (R316): a restored pump ends its redirection, and the substitute stops (R320). -/
def State.provePump (s : State) (p : Nat) : State :=
  let s := (s.set (Fd.PMP_STAT_STATE p) 3).count (Reg.PMP_STARTS p)
  let s := s.setPump p { s.pump p with byProt := false }
  if (s.pump p).restore then
    let s := s.setPump p { s.pump p with restore := false }
    if s.on (Fd.PMP_STAT_SUBST_VALID p) then
      let c := s.fld (Fd.PMP_STAT_SUBST p)
      let s := ((s.set (Fd.PMP_STAT_SUBST_VALID p) 0).set (Fd.PMP_STAT_SUBST p) 0).endRedirect c
      if (s.pumpOverride c).isSome then s else s.stopPump c
    else s
  else s

/-- Every DUTY pump whose intent is set and whose substitution is not in force starts when the module first drives its outputs as
active (R315). -/
def State.startDuty (s : State) : State :=
  (List.range 8).foldl (fun s p =>
    if s.fld (Fd.PMP_CFG_ROLE p) = 0 ∧ (s.pump p).intent ∧ s.pumpState p = 0 ∧ ¬ s.on (Fd.PMP_STAT_SUBST_VALID p) ∧ ¬ s.pumpLocked p
    then s.startPump p false else s) s

/-- What follows a write of PMP_CFG (R315): a pump made OFFLINE stops. -/
def State.pumpConfigured (s : State) (p : Nat) : State := if s.fld (Fd.PMP_CFG_ROLE p) = 2 then s.stopPump p else s

/-- Whether a pump keeps running when its override ends (R309). -/
def State.pumpKeeps (s : State) (p : Nat) : Bool :=
  !s.pumpLocked p && ((s.fld (Fd.PMP_CFG_ROLE p) == 0 && (s.pump p).intent) ||
    (s.fld (Fd.PMP_CFG_ROLE p) == 1 && (s.pump p).standsFor.isSome))

/-- A demand moved toward its goal by one tick's ramp, and whether it still ramps. -/
def rampTo (d goal step : Nat) : Nat × Bool :=
  if d ≤ goal then (if goal ≤ d + step then (goal, false) else (d + step, true))
  else if d ≤ goal + step then (goal, false) else (d - step, true)

/-- A pump's demand at a tick edge (R313, R316, R317). -/
def State.pumpDemand (s : State) (p : Nat) : State :=
  let x := s.pump p
  let rate := (if x.safety then s.fld (Fd.PMP_RAMP_EMERG_RAMP p) else s.fld (Fd.PMP_RAMP_RAMP p)) * 32768
  let r : Nat × Bool := match s.pumpState p with
    | 1 => (s.fld (Fd.PMP_SPD_SPD_MIN p) * rampUnit, false)
    | 2 | 3 => if x.ramping then rampTo x.dem (s.pumpGoal p * rampUnit) rate else (s.pumpGoal p * rampUnit, false)
    | 4 => rampTo x.dem (min x.dem (s.fld (Fd.PMP_SPD_SPD_MIN p) * rampUnit)) (s.fld (Fd.PMP_RAMP_RAMP p) * 32768)
    | _ => (0, false)
  (s.setPump p { x with dem := r.1, ramping := r.2 }).set (Fd.PMP_DEM_DEMAND p) (r.1 / rampUnit)

/-- A pump at a tick edge while the module drives its outputs. -/
def State.pumpTick (s : State) (p : Nat) : State :=
  let ovr := s.pumpOverride p
  let was := s.on (Fd.PMP_STAT_OVR p)
  let s := s.setB (Fd.PMP_STAT_OVR p) ovr.isSome
  let s :=
    if ovr.isSome then (if s.pumpState p = 0 then s.startPump p true else if s.pumpState p = 4 then s.resumePump p true else s)
    else if was ∧ ¬ s.pumpKeeps p then s.stopPump p else s
  let s := s.pumpDemand p
  let fb := s.pumpFeedback p
  let s := s.set (Fd.PMP_DEM_FB p) (fb.getD 0xFFFF)
  let x := s.pump p
  let weak := s.pumpState p == 3 && fb.any (fun v => decide (v * 100 * rampUnit < s.fld (Fd.PMP_TRIP_TRIP_PCT p) * x.dem))
  let x := { x with weakFrom := if weak then x.weakFrom.orElse (fun _ => some s.clk.now) else none }
  if s.pumpState p = 3 then
    let n := x.ran + 1
    if sTicks 60 ≤ n then (s.setPump p { x with ran := 0 }).count (Reg.PMP_RUNH p) else s.setPump p { x with ran := n }
  else s.setPump p x

/-- The level of FLT_N as latched (R316, R318). -/
def State.latchFlt (s : State) (p : Nat) (low : Bool) : State :=
  let x := s.pump p
  s.setPump p { x with
    lowFrom := if low then x.lowFrom.orElse (fun _ => some s.clk.now) else none
    highFrom := if low then none else x.highFrom.orElse (fun _ => some s.clk.now) }

/-- The pumps that are configured: an unlisted PMP_CFG is OFFLINE. -/
def State.pumpsInUse (s : State) : List Nat :=
  (List.range 8).filter (fun p => s.fld (Fd.PMP_CFG_ROLE p) != 2 || s.pumpState p != 0)

/-! ### Pump rows -/

/-- The effect of a PMP_CMD write (R315, R317, R320). -/
def State.pumpCmd (s : State) (p : Nat) (v : Word) : State :=
  let st := s.pumpState p
  let duty := s.fld (Fd.PMP_CFG_ROLE p) == 0
  match fieldOf v 0 3 with
  | 1 =>
    if s.pumpLocked p then s else
      let s := s.setPump p { s.pump p with intent := true }
      if ¬ duty then s
      else if st = 0 ∧ ¬ s.on (Fd.PMP_STAT_SUBST_VALID p) then s.startPump p false
      else if st = 4 then s.resumePump p false else s
  | 2 =>
    let s := s.setPump p { s.pump p with intent := false }
    if (s.pumpOverride p).isSome then s else s.stopPump p
  | 3 =>
    if st = 5 ∨ st = 6 then (s.pumpOff p 0 0).setPump p { s.pump p with dem := 0, ramping := false, faultReset := true } else s
  | 4 =>
    if st = 0 ∧ duty ∧ s.on (Fd.PMP_STAT_SUBST_VALID p) ∧ ¬ s.pumpLocked p then
      (s.startPump p false).setPump p { (s.startPump p false).pump p with restore := true }
    else s
  | _ => s

/-- PUMP_START (R315). -/
def execPumpStart (w : Fin 8) (p : Fin 8) (s : State) : Host.Outcome State Fault Refusal :=
  .next (s.writeRow w (Reg.PMP_CMD p) 1 true (fun s => s.pumpCmd p 1))

/-- PUMP_STOP (R317). -/
def execPumpStop (w : Fin 8) (p : Fin 8) (s : State) : Host.Outcome State Fault Refusal :=
  .next (s.writeRow w (Reg.PMP_CMD p) 2 true (fun s => s.pumpCmd p 2))

/-- PUMP_ACK (R320). -/
def execPumpAck (w : Fin 8) (p : Fin 8) (s : State) : Host.Outcome State Fault Refusal :=
  .next (s.writeRow w (Reg.PMP_CMD p) 3 true (fun s => s.pumpCmd p 3))

/-- PUMP_RESTORE (R320). -/
def execPumpRestore (w : Fin 8) (p : Fin 8) (s : State) : Host.Outcome State Fault Refusal :=
  .next (s.writeRow w (Reg.PMP_CMD p) 4 true (fun s => s.pumpCmd p 4))

/-- Whether a drive is ready (Table 2): FLT_N high for 100 ms since the start, or READY of a CAN drive that has neither a fault
nor local control (R468). -/
def State.driveReady (s : State) (p : Nat) : Bool :=
  if s.fld (Fd.PMP_CFG_MODE p) = 3 then
    s.on (Fd.DRV_STAT_READY p) && !s.on (Fd.DRV_STAT_FAULT p) && !s.on (Fd.DRV_STAT_LOCAL p) && !s.on (Fd.DRV_STAT_LOST p)
  else (s.pump p).highFrom.any (fun t => decide (max t (s.pump p).start + msTicks 100 ≤ s.clk.now))

/-- PUMP_DRIVE_READY (R316). -/
def execPumpDriveReady (p : Fin 8) (s : State) : Host.Outcome State Fault Refusal :=
  .next <| if s.pumpState p = 1 ∧ s.driveReady p then
    (s.setPump p { s.pump p with ramping := true }).set (Fd.PMP_STAT_STATE p) 2 else s

/-- Whether a ramping pump is proven (R316). -/
def State.pumpProof (s : State) (p : Nat) : Bool :=
  if s.fld (Fd.PMP_CFG_FB_KIND p) = 0 then !(s.pump p).ramping
  else (s.pumpFeedback p).any (fun v => decide (s.fld (Fd.PMP_SEQ_PROVE_PCT p) * (s.pump p).dem ≤ v * 100 * rampUnit))

/-- PUMP_PROVEN (R316). -/
def execPumpProven (p : Fin 8) (s : State) : Host.Outcome State Fault Refusal :=
  .next <| if s.pumpState p = 2 ∧ s.pumpProof p ∧ s.clk.now < (s.pump p).start + 10000 * s.fld (Fd.PMP_SEQ_T_PROVE p) then s.provePump p else s

/-- PUMP_READY_TIMEOUT (R316): cause NOT_READY. -/
def execPumpReadyTimeout (p : Fin 8) (s : State) : Host.Outcome State Fault Refusal :=
  .next <| if s.pumpState p = 1 ∧ ¬ s.driveReady p ∧ (s.pump p).start + 10000 * s.fld (Fd.PMP_SEQ_T_READY p) ≤ s.clk.now then s.failStart p 4 else s

/-- PUMP_PROOF_TIMEOUT (R316): cause NO_PROOF. -/
def execPumpProofTimeout (p : Fin 8) (s : State) : Host.Outcome State Fault Refusal :=
  .next <| if (s.pumpState p = 1 ∨ s.pumpState p = 2) ∧ (s.pump p).start + 10000 * s.fld (Fd.PMP_SEQ_T_PROVE p) ≤ s.clk.now then s.failStart p 5 else s

/-- PUMP_STOP_COMPLETE (R317). -/
def execPumpStopComplete (p : Fin 8) (s : State) : Host.Outcome State Fault Refusal :=
  .next <| if s.pumpState p = 4 ∧ (s.pump p).dem ≤ s.fld (Fd.PMP_SPD_SPD_MIN p) * rampUnit then s.pumpOff p 0 0 else s

/-- Whether the condition of a trip holds (R318): 1 FAULT_IN, 2 LOW_FB, 3 CAN. -/
def State.tripHolds (s : State) (p cause : Nat) : Bool :=
  s.pumpDriven p &&
  match cause with
  | 1 => s.fld (Fd.PMP_CFG_MODE p) != 3 && (s.pump p).lowFrom.any (fun t => decide (t + msTicks (s.fld (Fd.PMP_TRIP_FLT_MS p)) ≤ s.clk.now))
  | 2 => s.pumpState p == 3 && (s.pump p).weakFrom.any (fun t => decide (t + msTicks (s.fld (Fd.PMP_TRIP_T_TRIP p)) ≤ s.clk.now))
  | 3 => s.fld (Fd.PMP_CFG_MODE p) == 3 && (s.on (Fd.DRV_STAT_LOST p) ||
        ((s.on (Fd.DRV_STAT_FAULT p) || s.on (Fd.DRV_STAT_LOCAL p)) && s.pumpState p != 1))
  | _ => false

/-! ### Valves -/

/-- A valve output beside its registers before anything has happened. -/
def Valve.idle : Valve := ⟨0, 0, 0, none, none⟩

/-- A valve's part beside its registers. -/
def State.valve (s : State) (v : Nat) : Valve := Tab.at Valve.idle s.acts.valve v

/-- The state with a valve's part set. -/
def State.setValve (s : State) (v : Nat) (x : Valve) : State := { s with acts := { s.acts with valve := s.acts.valve.put v x } }

/-- The travel of a command (R321). -/
def travelOf (lo hi c : Nat) (inv : Bool) : Nat :=
  let t := lo + c * (hi - lo) / 32767
  if inv then 32767 - t else t

/-- The command of a valve output (R308, R309): its override, its lockout value, or its loop's. -/
def State.valveCommand (s : State) (v : Nat) : Nat :=
  match Tab.find s.prt.valveOvr v with
  | some c => c
  | none => if s.on (Fd.VLV_LOCK_LOCK v) then s.fld (Fd.VLV_LOCK_LOCKVAL v) else s.loopCommand 2 v

/-- The difference of feedback and travel lies beyond DEV_PCT of full travel (R322). -/
def State.valveApart (s : State) (v : Nat) : Option Bool :=
  if s.on (Fd.VLV_CFG_FB_EN v) then
    (s.fieldValue (s.fld (Fd.VLV_CFG_FB_IDX v))).map
      (fun fb => decide (s.fld (Fd.VLV_CFG_DEV_PCT v) * 32767 < 100 * (fb - (s.fld (Fd.VLV_STAT_OUT v) : Int)).natAbs))
  else none

/-- The electrical condition that counts in a mode (R322): 1 OPEN in current mode, 2 SHORT in voltage mode. -/
def valveCond (mode c : Nat) : Nat := if (c = 1 ∧ mode = 1) ∨ (c = 2 ∧ mode = 0) then c else 0

/-- The electrical condition of a valve output as latched (R322). -/
def State.latchValve (s : State) (v c : Nat) : State :=
  let c := valveCond (s.fld (Fd.VLV_CFG_MODE v)) c
  let x := s.valve v
  if x.cond = c then s else s.setValve v { x with cond := c, condFrom := s.clk.now }

/-- A valve output at a tick edge (R321, R322, R346). -/
def State.valveTick (s : State) (v : Nat) : State :=
  let s := s.latchValve v (s.valve v).cond
  let old := s.fld (Fd.VLV_STAT_OUT v)
  let t := travelOf (s.fld (Fd.VLV_TRV_TRV_MIN v)) (s.fld (Fd.VLV_TRV_TRV_MAX v)) (s.valveCommand v) (s.on (Fd.VLV_CFG_INV v))
  let x := s.valve v
  let moved := x.moved + ((t : Int) - old).natAbs
  let s := (s.set (Fd.VLV_STAT_OUT v) t).setB (Fd.VLV_STAT_OVR v) (Tab.has s.prt.valveOvr v)
  let s := s.wr (Reg.VLV_TRAVEL v) (BitVec.ofNat 32 (moved * 100 / 32767))
  let apart := s.valveApart v
  let dev := if apart = some true then x.devFrom.orElse (fun _ => some s.clk.now) else none
  let ok := if apart = some false then x.okFrom.orElse (fun _ => some s.clk.now) else none
  let s := s.setValve v { x with moved := moved, devFrom := dev, okFrom := ok }
  let s := if ok.any (fun f => decide (f + 10000 * s.fld (Fd.VLV_CFG_DEV_T v) ≤ s.clk.now)) then s.set (Fd.VLV_STAT_DEV v) 0 else s
  if x.cond = 0 ∧ s.fld (Fd.VLV_STAT_FAULT v) ≠ 0 ∧ x.condFrom + sTicks 1 ≤ s.clk.now then s.set (Fd.VLV_STAT_FAULT v) 0 else s


/-- The valve outputs that can move: those configured, locked, moved before, targeted by a loop or under an override. -/
def State.valvesInUse (s : State) : List Nat :=
  let l := s.listed (Reg.VLV_CFG 0) 0x20 64
  let m := ((s.acts.cmd.filter (fun p => p.1 / 256 == 2)).map (fun p => p.1 % 256)) ++ s.prt.valveOvr.map (·.1)
  l ++ (m.filter (fun v => decide (v < 64) && !l.contains v)).dedup

/-- VALVE_FAULT (R322). -/
def execValveFault (v : Fin 64) (s : State) : Host.Outcome State Fault Refusal :=
  .next <|
    let x := s.valve v
    if x.cond ≠ 0 ∧ x.condFrom + msTicks 50 ≤ s.clk.now ∧ s.fld (Fd.VLV_STAT_FAULT v) ≠ x.cond then
      (s.set (Fd.VLV_STAT_FAULT v) x.cond).raise Fd.ACT_EVT_VLV_FAULT v [x.cond]
    else s

/-- VALVE_DEVIATION (R322). -/
def execValveDeviation (v : Fin 64) (s : State) : Host.Outcome State Fault Refusal :=
  .next <|
    if ¬ s.on (Fd.VLV_STAT_DEV v) ∧ (s.valve v).devFrom.any (fun f => decide (f + 10000 * s.fld (Fd.VLV_CFG_DEV_T v) ≤ s.clk.now)) then
      (s.set (Fd.VLV_STAT_DEV v) 1).raise Fd.ACT_EVT_VLV_DEV v []
    else s

end Sys2Proof.Machine
end

