-- ==== Sys2Proof/Machine/Can.lean ====
section
/-! DEFINITION. CAN FD (chapter 11): bus modes and rate detection (R452 to R454), message objects and their matching, reading and
sending (R455 to R459), the high-priority buffer (R460), errors and bus-off (R461, R462), the pod profile (R463 to R465) and the
pump drive profile (R466 to R468). -/

namespace Sys2Proof.Machine

/-- The state with the CAN part changed. -/
def State.setCan (s : State) (c : Can) : State := { s with can := c }

/-! ### Modes -/

/-- BUS_CTRL.MODE. -/
def State.busMode (s : State) (b : Nat) : Nat := s.fld (Fd.BUS_CTRL_MODE b)

/-- The effective mode of a bus (R453, BUS_STAT.EMODE). -/
def State.canMode (s : State) (b : Nat) : Nat :=
  if s.opState = 0 then 0 else if s.opState = 2 ∧ s.busMode b = 1 then 2 else s.busMode b

/-- BUS_STAT.ESTATE: 0 ACTIVE, 1 PASSIVE, 2 BUS_OFF. -/
def State.busState (s : State) (b : Nat) : Nat := s.fld (Fd.BUS_STAT_ESTATE b)

/-- Whether a bus receives: it is not OFF and not in bus-off. -/
def State.busHears (s : State) (b : Nat) : Bool := s.canMode b != 0 && s.busState b != 2

/-- Whether a bus sends: NORMAL by the module that drives outputs (R453), or LOOPBACK (R452). -/
def State.busSends (s : State) (b : Nat) : Bool :=
  s.busState b != 2 && ((s.canMode b == 1 && s.drives) || s.canMode b == 4)

/-- The error counters of a bus at 0. -/
def State.zeroErrors (s : State) (b : Nat) : State := s.wr (Reg.BUS_ERRC b) 0

/-- Rate detection starts (R454). -/
def State.startAuto (s : State) (b : Nat) : State :=
  let s := (s.set (Fd.BUS_STAT_AUTO_DONE b) 0).set (Fd.BUS_STAT_AUTO_FAIL b) 0
  s.setCan { s.can with auto := s.can.auto.put b ⟨s.clk.now, 0, s.clk.now, false, 0, false⟩ }

/-- A bus's MODE has been `old` (R452, R462): a change of it resets the error counters, and OFF ends a bus-off and its lock. -/
def State.busModeFrom (s : State) (b old : Nat) : State :=
  let new := s.busMode b
  if new = old then s else
    let s := s.zeroErrors b
    let s := s.setCan { s.can with auto := s.can.auto.del b }
    let s := if new = 0 then
        let s := (s.set (Fd.BUS_STAT_ESTATE b) 0).set (Fd.BUS_STAT_BOFF_LOCK b) 0
        s.setCan { s.can with recovering := s.can.recovering.filter (fun x => x != b), boffs := s.can.boffs.del b }
      else if s.busState b = 1 then s.set (Fd.BUS_STAT_ESTATE b) 0 else s
    if new = 3 then s.startAuto b else s

/-- A write of BUS_CTRL (R452). -/
def State.writeBusCtrl (s : State) (b : Nat) (v : Word) : State := (s.plainWrite (Reg.BUS_CTRL b) v).busModeFrom b (s.busMode b)

/-- CAN_MODE_WRITE (R452). -/
def execCanModeWrite (w : Fin 8) (b : Fin 8) (value : Word) (s : State) : Host.Outcome State Fault Refusal :=
  .next (s.writeRow w (Reg.BUS_CTRL b) value true (fun s => s.writeBusCtrl b value))

/-- The word of BUS_NBT for a nominal candidate (R454: 1,000, 500, 250 and 125 kbit/s, sample point 80 %): the least BRP that
fits, and SJW equal to TSEG2 as in the example of R451 (log entry 20). -/
def nominalWord (cand : Nat) : Word :=
  let q (brp t1 t2 : Nat) : Word := BitVec.ofNat 32 (brp - 1 + (t1 - 1) * 0x20 + (t2 - 1) * 0x2000 + (t2 - 1) * 0x100000)
  match cand with
  | 0 => q 1 63 16
  | 1 => q 1 127 32
  | 2 => q 1 255 64
  | _ => q 2 255 64

/-- The word of BUS_DBT for a data candidate (R454: 8, 5, 4, 2 and 1 Mbit/s, sample point 75 %), as in the example of R451. Ten
clocks do not divide at 75 %: for 8 Mbit/s the split is one of the two nearest, by a free bit (log entry 20). -/
def dataWord (cand free : Nat) : Word :=
  let q (brp t1 t2 : Nat) : Word :=
    BitVec.ofNat 32 (brp - 1 + (t1 - 1) * 0x20 + (t2 - 1) * 0x400 + (t2 - 1) * 0x4000 + 0x40000 + brp * (1 + t1) * 0x80000)
  match cand with
  | 0 => if free % 2 = 0 then q 1 6 3 else q 1 7 2
  | 1 => q 1 11 4
  | 2 => q 1 14 5
  | 3 => q 1 29 10
  | _ => q 2 29 10

/-- Rate detection succeeds (R454). `data` is the data candidate found, if an FD frame with BRS arrived. -/
def State.autoFound (s : State) (b : Nat) (x : AutoDetect) (data : Option Nat) : State :=
  let s := s.wr (Reg.BUS_NBT b) (nominalWord x.cand)
  let s := match data with
    | none => s
    | some d => let f := s.free; f.2.wr (Reg.BUS_DBT b) (dataWord d f.1)
  let s := s.setCan { s.can with auto := s.can.auto.del b }
  (s.set (Fd.BUS_STAT_AUTO_DONE b) 1).raise (Fd.BUS_EVT_AUTO b) b []

/-- A frame received without error during rate detection (R454): the first keeps the nominal candidate, and a later FD frame with BRS the
data candidate. `missed` counts the FD frames with BRS that failed at a data candidate since the last frame. -/
def State.autoFrame (s : State) (b : Nat) (f : CanFrame) (missed : Nat) : State :=
  match Tab.find s.can.auto b with
  | none => s
  | some x =>
    if ¬ x.kept then s.setCan { s.can with auto := s.can.auto.put b { x with kept := true } } else
    let x := { x with data := (x.data + missed) % 5, tried := x.tried || decide (0 < missed) }
    if f.fdf && f.brs then s.autoFound b x (some x.data)
    else s.setCan { s.can with auto := s.can.auto.put b x }

/-- After 50 ms without an error-free frame the next nominal candidate is listened for (R454). -/
def State.autoDwell (s : State) (b : Nat) : State :=
  match Tab.find s.can.auto b with
  | none => s
  | some x =>
    if ¬ x.kept ∧ x.since + msTicks 50 ≤ s.clk.now then
      s.setCan { s.can with auto := s.can.auto.put b { x with cand := (x.cand + 1) % 4, since := s.clk.now } }
    else s

/-- Whether a bus's 120 Ω termination is connected (R602): exactly while BUS_CTRL.TERM = 1 and the module drives outputs. -/
def State.terminated (s : State) (b : Nat) : Bool := s.on (Fd.BUS_CTRL_TERM b) && s.drives

/-- CAN_AUTO_DWELL_TIMEOUT (R454). -/
def execCanAutoDwellTimeout (b : Fin 8) (s : State) : Host.Outcome State Fault Refusal := .next (s.autoDwell b)

/-- Rate detection when AUTO_TMO has passed (R454): a kept nominal rate with no FD frame with BRS is a success that leaves BUS_DBT unchanged;
anything else is a failure (log entry 20). -/
def State.autoTimeout (s : State) (b : Nat) : State :=
  match Tab.find s.can.auto b with
  | none => s
  | some x =>
    if x.start + msTicks (100 * s.fld (Fd.BUS_AUTO_AUTO_TMO b)) ≤ s.clk.now then
      if x.kept ∧ ¬ x.tried then s.autoFound b x none
      else
        let s := s.setCan { s.can with auto := s.can.auto.del b }
        (s.set (Fd.BUS_STAT_AUTO_FAIL b) 1).raise (Fd.BUS_EVT_AUTO b) b []
    else s

/-- CAN_AUTO_TIMEOUT (R454). -/
def execCanAutoTimeout (b : Fin 8) (s : State) : Host.Outcome State Fault Refusal := .next (s.autoTimeout b)

/-! ### Message objects -/

/-- The payload bytes of a DLC: 0 to 8, then 12, 16, 20, 24, 32, 48 and 64 of an FD frame (ISO 11898-1, R449). -/
def dlcBytes (fdf : Bool) (dlc : Nat) : Nat :=
  if dlc ≤ 8 then dlc else if !fdf then 8 else [12, 16, 20, 24, 32, 48, 64].getD (dlc - 9) 64

/-- The pod slot whose allocation holds an object (R463). -/
def State.podOf (s : State) (b o : Nat) : Option Nat :=
  (s.can.pods.find? (fun p => p.2.bus == b && decide (p.2.first ≤ o) && decide (o < p.2.first + p.2.frames))).map (·.1)

/-- The owner of an object (R455, OBJ_CFG.OWNER): 2 DRIVE for objects 0 to 15, 1 POD as far as the allocation reaches, else 0 HOST. -/
def State.objOwner (s : State) (b o : Nat) : Nat := if o < 16 then 2 else if (s.podOf b o).isSome then 1 else 0

/-- Whether a frame matches a receive object (R456). -/
def State.objMatches (s : State) (b : Nat) (f : CanFrame) (o : Nat) : Bool :=
  let c := s.rd (Reg.OBJ_CFG b o)
  fieldOf c 9 1 == 1 && fieldOf c 0 1 == 0 && (fieldOf c 1 1 == 1) == f.ide && (fieldOf c 2 1 == 0 || f.fdf) &&
  ((f.id.setWidth 32 ^^^ s.rd (Reg.OBJ_ID b o)) &&& s.rd (Reg.OBJ_MASK b o) &&& 0x1FFFFFFF) == 0

/-- Whether a frame matches the high-priority filter (R460). -/
def State.hpMatches (s : State) (b : Nat) (f : CanFrame) : Bool :=
  s.on (Fd.BUS_CTRL_HP_EN b) && ((f.id.setWidth 32 ^^^ s.rd (Reg.HP_ID b)) &&& s.rd (Reg.HP_MASK b) &&& 0x1FFFFFFF) == 0

/-- Where a frame goes (R456): 128 for the high-priority buffer, else the first matching enabled receive object. -/
def State.canMatch (s : State) (b : Nat) (f : CanFrame) : Option Nat :=
  if s.hpMatches b f then some 128 else (List.range 128).find? (s.objMatches b f)

/-- A frame received on a bus without error: it is matched, and waits for the next tick edge to become visible (R456, R457). -/
def State.canReceive (s : State) (b : Nat) (f : CanFrame) : State :=
  let s := s.count (Reg.BUS_CNT_RXOK b)
  match s.canMatch b f with
  | none => s.count (Reg.BUS_CNT_NOMATCH b)
  | some o => s.setCan { s.can with arrived := s.can.arrived ++ [⟨b, o, f⟩] }

/-- CAN_FRAME_RECEIVED (R456, R454). -/
def execCanFrameReceived (b : Fin 8) (f : CanFrame) (missed : Nat) (s : State) : Host.Outcome State Fault Refusal :=
  .next (if s.busHears b then (s.canReceive b f).autoFrame b f missed else s)

/-- The 16 payload words of a frame: bytes the frame does not carry are free (log entry 21). -/
def payloadWords (f : CanFrame) (free : Nat) : List Word :=
  let d := f.data.take (dlcBytes f.fdf f.dlc)
  (List.range 16).map (fun k => BitVec.ofNat 32 (leAt ((List.range 64).map (fun i => (d[i]?).getD (BitVec.ofNat 8 (free / 256 ^ i)))) (4 * k) 4))

/-- Words set from an address on. -/
def State.wrAll (s : State) (a : Nat) : List Word → State
  | [] => s
  | w :: t => (s.wr a w).wrAll (a + 4) t

/-- The value of a pod quantity in a frame (R464, R18), none where the frame does not carry its words; the inner none is the
no-value code. -/
def podRead (kind : Nat) (d : List Byte) (word : Nat) : Option (Option Int) :=
  let o := 4 + 2 * word
  let v := beAt d o 2
  if kind = 0 ∨ d.length < o + (if kind = 4 then 4 else 2) then none else
  match kind with
  | 1 => some (tempOf v)
  | 4 => some (let f := beAt d o 4; if f = noFlow then none else some f)
  | 5 => some (some (signedOf 16 v))
  | _ => some (if v = noPower then none else some v)

/-- CAN_PODVq of a value. -/
def podWord (v : Option Int) : Word := v.elim 0x80000000 (fun x => BitVec.ofInt 32 x)

/-- Pod quantity `q` takes its value from a fresh frame (R465). -/
def State.podTake (s : State) (k idx : Nat) (d : List Byte) (q : Nat) : State :=
  if s.fld (Fd.CAN_PODQ_POD q) = k ∧ s.fld (Fd.CAN_PODQ_FRAME q) = idx then
    match podRead (s.fld (Fd.CAN_PODQ_KIND q)) d (s.fld (Fd.CAN_PODQ_WORD q)) with
    | none => s
    | some v => (s.wr (Reg.CAN_PODV q) (podWord v)).setCan { s.can with podAt := s.can.podAt.put q s.clk.now }
  else s

/-- The pod quantities that are configured. -/
def State.podQs (s : State) : List Nat := s.listed (Reg.CAN_PODQ 0) 4 256

/-- A fresh pod frame becomes visible (R465). -/
def State.podFresh (s : State) (k idx : Nat) (d : List Byte) : State :=
  let s := if idx = 0 then s.set (Fd.POD_STAT_SEQ k) (beAt d 0 2) else s
  let s := s.wr (Reg.POD_LAST k) (s.clk.sidx.setWidth 32)
  s.podQs.foldl (fun s q => s.podTake k idx d q) s

/-- The pump whose drive reports through an object of a bus (R466). -/
def State.driveOf (s : State) (b o : Nat) : Option Nat :=
  if o < 16 ∧ o % 2 = 0 ∧ s.fld (Fd.PMP_CFG_MODE (o / 2)) = 3 ∧ s.fld (Fd.DRV_CFG_BUS (o / 2)) = b then some (o / 2) else none

/-- A fresh DRIVE_STATUS becomes visible (R467, R468). -/
def State.driveFresh (s : State) (p : Nat) (d : List Byte) : State :=
  let st := beAt d 2 1
  let s := s.wr (Reg.DRV_STAT p) (BitVec.ofNat 32 (st % 16 + 256 * beAt d 3 1 + 65536 * beAt d 4 2))
  let s := s.set (Fd.DRV_CUR_DA p) (beAt d 6 2)
  s.setCan { s.can with drvAt := s.can.drvAt.put p s.clk.now }

/-- A frame becomes visible in an object (R457, R465, R468): words, NEW and OVR, and, where its SEQ differs from the object's last,
the pod quantities, absent while the bus is in bus-off (R461), or the drive status it carries. -/
def State.showFrame (s : State) (b o : Nat) (f : CanFrame) : State :=
  let again := s.on (Fd.OBJ_STAT_NEW b o)
  let s := if again then s.count (Reg.BUS_CNT_OVR b) else s
  let stat := 1 + (if again ∨ s.on (Fd.OBJ_STAT_OVR b o) then 2 else 0) + (if f.rtr then 32 else 0) + (if f.esi then 64 else 0) +
    (if f.fdf then 128 else 0) + f.dlc.val * 256 + 4 * (fieldOf (s.rd (Reg.OBJ_STAT b o)) 2 3)
  let fr := s.free
  let s := fr.2
  let s := ((s.wr (Reg.OBJ_STAT b o) (BitVec.ofNat 32 stat)).wr (Reg.OBJ_RXID b o) (f.id.setWidth 32)).wr (Reg.OBJ_TS b o) (s.clk.sidx.setWidth 32)
  let s := s.wrAll (Reg.OBJ_DATA b o 0) (payloadWords f fr.1)
  let key := 128 * b + o
  let d := f.data.take (dlcBytes f.fdf f.dlc)
  let seq := beAt d 0 2
  let fresh := Tab.find s.can.seqs key != some seq
  if f.rtr ∨ ¬ fresh then s else
  match s.podOf b o with
  | some k =>
    let s := s.setCan { s.can with seqs := s.can.seqs.put key seq }
    if s.busState b = 2 then s else s.podFresh k (o - (Tab.find s.can.pods k).elim 0 (·.first)) d
  | none =>
    match s.driveOf b o with
    | some p => (s.setCan { s.can with seqs := s.can.seqs.put key seq }).driveFresh p d
    | none => s

/-- A frame becomes visible in the high-priority buffer (R460). -/
def State.showHp (s : State) (b : Nat) (f : CanFrame) : State :=
  let stat := 1 + (if s.on (Fd.HP_STAT_NEW b) ∨ s.on (Fd.HP_STAT_OVR b) then 2 else 0) + (if f.ide then 4 else 0) + (if f.fdf then 8 else 0) +
    f.dlc.val * 16
  let fr := s.free
  let w := payloadWords f fr.1
  let s := ((fr.2.wr (Reg.HP_STAT b) (BitVec.ofNat 32 stat)).wr (Reg.HP_RXID b) (f.id.setWidth 32)).wr (Reg.HP_TS b) (s.clk.sidx.setWidth 32)
  (s.wrAll (Reg.HP_DATA b 0) w).raise (Fd.BUS_EVT_HP b) b [f.id.toNat, (w.getD 0 0).toNat, (w.getD 1 0).toNat]

/-- The frames of the last tick become visible at a tick edge, in their order of arrival (R457): of several for one object the last
remains, and every earlier one counts as an overwrite. -/
def State.canTick (s : State) : State :=
  let l := s.can.arrived
  let s := s.setCan { s.can with arrived := [] }
  let step (s : State) (n : Nat) : State :=
    match l[n]? with
    | none => s
    | some a =>
      if a.obj = 128 then s.showHp a.bus a.frame
      else if (l.drop (n + 1)).any (fun c => c.bus == a.bus && c.obj == a.obj) then
        (s.count (Reg.BUS_CNT_OVR a.bus)).set (Fd.OBJ_STAT_OVR a.bus a.obj) 1
      else s.showFrame a.bus a.obj a.frame
  (List.range l.length).foldl step s

/-- A read of OBJ_STAT (R458): the object's words are latched, and NEW and OVR clear. -/
def State.readObj (s : State) (b o : Nat) : State :=
  let words := [s.rd (Reg.OBJ_RXID b o), s.rd (Reg.OBJ_TS b o)] ++ (List.range 16).map (fun i => s.rd (Reg.OBJ_DATA b o i))
  let s := s.setCan { s.can with shadow := s.can.shadow.put b ⟨o, words⟩ }
  (s.set (Fd.OBJ_STAT_NEW b o) 0).set (Fd.OBJ_STAT_OVR b o) 0

/-- OBJ_STAT_READ (R458). -/
def execObjStatRead (b : Fin 8) (o : Fin 128) (s : State) : Host.Outcome State Fault Refusal := .next (s.readObj b o)

/-- A read of HP_STAT (R460). -/
def State.readHp (s : State) (b : Nat) : State :=
  let words := [s.rd (Reg.HP_RXID b), s.rd (Reg.HP_TS b)] ++ (List.range 16).map (fun i => s.rd (Reg.HP_DATA b i))
  let s := s.setCan { s.can with hpShadow := s.can.hpShadow.put b words }
  (s.set (Fd.HP_STAT_NEW b) 0).set (Fd.HP_STAT_OVR b) 0

/-- HP_STAT_READ (R460). -/
def execHpStatRead (b : Fin 8) (s : State) : Host.Outcome State Fault Refusal := .next (s.readHp b)

/-! ### Sending -/

/-- The payload a transmit object sends: byte 4i of OBJ_DATAi in [7:0]. -/
def State.objPayload (s : State) (b o : Nat) (n : Nat) : List Byte :=
  ((List.range 16).flatMap (fun i => wordBytes (s.rd (Reg.OBJ_DATA b o i)))).take n

/-- The frame formed from a transmit object (R459). -/
def State.objFrame (s : State) (b o : Nat) : CanFrame :=
  let c := s.rd (Reg.OBJ_CFG b o)
  let ide := fieldOf c 1 1 == 1
  let fdf := fieldOf c 2 1 == 1
  let dlc := Fin.ofNat 16 (fieldOf c 4 4)
  { id := BitVec.ofNat 29 (fieldOf (s.rd (Reg.OBJ_ID b o)) 0 (if ide then 29 else 11)), ide := ide, fdf := fdf, brs := fieldOf c 3 1 == 1,
    esi := s.busState b == 1, rtr := false, dlc := dlc, data := s.objPayload b o (dlcBytes fdf dlc) }

/-- A frame is queued (R459): a pending one is replaced and keeps its place. -/
def State.txRequest (s : State) (b o : Nat) : State :=
  let key := 128 * b + o
  let f := s.objFrame b o
  let s := match Tab.find s.can.tx key with
    | some x => s.setCan { s.can with tx := s.can.tx.put key { x with frame := f } }
    | none => s.setCan { s.can with tx := s.can.tx.put key ⟨f, s.can.txCount⟩, txCount := s.can.txCount + 1 }
  ((s.set (Fd.OBJ_STAT_TXPEND b o) 1).set (Fd.OBJ_STAT_TXOK b o) 0).set (Fd.OBJ_STAT_TXABORTED b o) 0

/-- Whether a host command acts on an object: an enabled transmit object of the host (R455, R459). -/
def State.hostSends (s : State) (b o : Nat) : Bool :=
  s.objOwner b o == 0 && s.on (Fd.OBJ_CFG_DIR b o) && s.on (Fd.OBJ_CFG_EN b o)

/-- A pending frame is withdrawn unless it is already on the bus (R459). -/
def State.txAbort (s : State) (b o : Nat) (started : Bool) : State :=
  if (Tab.find s.can.tx (128 * b + o)).isSome ∧ ¬ started then
    let s := s.setCan { s.can with tx := s.can.tx.del (128 * b + o) }
    (s.set (Fd.OBJ_STAT_TXPEND b o) 0).set (Fd.OBJ_STAT_TXABORTED b o) 1
  else s

/-- CAN_TXREQ (R459). -/
def execCanTxreq (w : Fin 8) (b : Fin 8) (o : Fin 128) (s : State) : Host.Outcome State Fault Refusal :=
  .next (s.writeRow w (Reg.OBJ_CMD b o) 1 true (fun s => if s.hostSends b o then s.txRequest b o else s))

/-- CAN_ABORT (R459): `started` says whether the frame is already on the bus. -/
def execCanAbort (w : Fin 8) (b : Fin 8) (o : Fin 128) (started : Bool) (s : State) : Host.Outcome State Fault Refusal :=
  .next (s.writeRow w (Reg.OBJ_CMD b o) 2 true (fun s => if s.hostSends b o then s.txAbort b o started else s))

/-- The place of a pending frame in the contention (R459): the identifier, a base identifier shifted into [28:18], then the object. -/
def txKey (o : Nat) (f : CanFrame) : Nat := (if f.ide then f.id.toNat else f.id.toNat % 2048 * 2 ^ 18) * 128 + o

/-- Whether the frame of an object may be the one on the bus: no frame ahead of it in the contention was requested before it. -/
def State.mayFinish (s : State) (b o : Nat) (x : TxPend) : Bool :=
  s.can.tx.all (fun p => p.1 / 128 != b || !decide (txKey (p.1 % 128) p.2.frame < txKey o x.frame) || decide (x.order < p.2.order))

/-- A frame as the model records it on the bus: bus, object, identifier, format bits, DLC and payload. -/
def canFields (b o : Nat) (f : CanFrame) : List Nat :=
  [b, o, f.id.toNat, if f.ide then 1 else 0, if f.fdf then 1 else 0, if f.brs then 1 else 0, f.dlc.val] ++ f.data.map (·.toNat)

/-- CAN_TX_COMPLETE (R459): an attempt ends. A frame not sent is retried, unless it is single-shot; in LOOPBACK the controller
receives its own frame. -/
def execCanTxComplete (b : Fin 8) (o : Fin 128) (r : TxOutcome) (s : State) : Host.Outcome State Fault Refusal :=
  .next (match Tab.find s.can.tx (128 * b + o) with
    | none => s
    | some x =>
      if s.busSends b && s.mayFinish b o x then
        let drop (s : State) : State := (s.setCan { s.can with tx := s.can.tx.del (128 * b + o) }).set (Fd.OBJ_STAT_TXPEND b o) 0
        match r with
        | .sent =>
          let s := ((drop s).set (Fd.OBJ_STAT_TXOK b o) 1).count (Reg.BUS_CNT_TXOK b)
          if s.canMode b = 4 then s.canReceive b x.frame else s.send (.frame .can (canFields b o x.frame))
        | .lostArbitration => if s.on (Fd.OBJ_CFG_SSHOT b o) then (drop s).set (Fd.OBJ_STAT_TXABORTED b o) 1 else s
        | .error =>
          let s := s.count (Reg.BUS_CNT_ERRFRM b)
          if s.on (Fd.OBJ_CFG_SSHOT b o) then (drop s).set (Fd.OBJ_STAT_TXABORTED b o) 1 else s
      else s)

/-! ### Errors and bus-off -/

/-- The pod quantities read on a bus become absent (R461). -/
def State.podsGone (s : State) (b : Nat) : State :=
  s.podQs.foldl (fun s q =>
    if s.fld (Fd.CAN_PODQ_KIND q) ≠ 0 ∧ (Tab.find s.can.pods (s.fld (Fd.CAN_PODQ_POD q))).any (fun x => x.bus == b) then
      s.wr (Reg.CAN_PODV q) 0x80000000 else s) s

/-- A bus enters bus-off (R461, R462): a ninth within 60 s locks it. -/
def State.busOff (s : State) (b : Nat) : State :=
  let recent := s.clk.now :: (Tab.at [] s.can.boffs b).filter (fun t => decide (s.clk.now < t + sTicks 60))
  let s := s.setCan { s.can with boffs := s.can.boffs.put b recent }
  let s := ((s.set (Fd.BUS_STAT_ESTATE b) 2).count (Reg.BUS_CNT_BOFF b)).raise (Fd.BUS_EVT_BUS_OFF b) b []
  let s := s.podsGone b
  if 9 ≤ recent.length then (s.set (Fd.BUS_STAT_BOFF_LOCK b) 1).raise (Fd.BUS_EVT_BOFF_LOCK b) b [] else s

/-- CAN_ERROR_STATE (R461): the counters as ISO 11898-1 moves them, with the error frames seen; error-passive from 128, bus-off
from a transmit count of 256. -/
def execCanErrorState (b : Fin 8) (tec rec : Fin 512) (frames : Nat) (s : State) : Host.Outcome State Fault Refusal :=
  .next (
    if s.canMode b = 0 ∨ s.busState b = 2 then s else
      let s := s.countBy (Reg.BUS_CNT_ERRFRM b) frames
      let s := s.wr (Reg.BUS_ERRC b) (BitVec.ofNat 32 (tec.val + min rec.val 127 * 65536 + (if 128 ≤ rec.val then 0x800000 else 0)))
      if 256 ≤ tec.val then s.busOff b
      else if 128 ≤ tec.val ∨ 128 ≤ rec.val then
        if s.busState b = 1 then s else (s.set (Fd.BUS_STAT_ESTATE b) 1).raise (Fd.BUS_EVT_PASSIVE b) b []
      else s.set (Fd.BUS_STAT_ESTATE b) 0)

/-- The recovery of a bus starts once REC_DLY has passed since the bus-off (R462). -/
def State.startRecovery (s : State) (b : Nat) : State :=
  if s.busState b = 2 ∧ s.on (Fd.BUS_CTRL_AUTO_REC b) ∧ ¬ s.on (Fd.BUS_STAT_BOFF_LOCK b) ∧ ¬ s.can.recovering.contains b ∧
     (Tab.at [] s.can.boffs b).head?.any (fun t => decide (t + msTicks (100 * s.fld (Fd.BUS_CTRL_REC_DLY b)) ≤ s.clk.now)) then
    s.setCan { s.can with recovering := s.can.recovering ++ [b] }
  else s

/-- CAN_RECOVERY_START (R462). -/
def execCanRecoveryStart (b : Fin 8) (s : State) : Host.Outcome State Fault Refusal := .next (s.startRecovery b)

/-- CAN_RECOVERED (R462): the recovery sequence has ended. -/
def execCanRecovered (b : Fin 8) (s : State) : Host.Outcome State Fault Refusal :=
  .next (
    if s.can.recovering.contains b.val then
      let s := s.setCan { s.can with recovering := s.can.recovering.filter (fun x => x != b.val) }
      ((s.set (Fd.BUS_STAT_ESTATE b) 0).zeroErrors b).raise (Fd.BUS_EVT_RECOVERED b) b []
    else s)

/-! ### Pods -/

/-- Identifier of a profile frame (R463). -/
def profileId (func node index : Nat) : Word := BitVec.ofNat 32 (func * 2 ^ 24 + node * 256 + index)

/-- Whether an enabled lower slot names the same pod (R463). -/
def State.podRepeats (s : State) (k : Nat) : Bool :=
  (List.range k).any (fun j => s.on (Fd.POD_CFG_EN j) && s.fld (Fd.POD_CFG_BUS j) == s.fld (Fd.POD_CFG_BUS k) &&
    s.fld (Fd.POD_CFG_NODE j) == s.fld (Fd.POD_CFG_NODE k))

/-- The objects of a pod slot are set (R463). -/
def State.podObjects (s : State) (x : PodAlloc) : State :=
  (List.range x.frames).foldl (fun s i =>
    ((s.wr (Reg.OBJ_CFG x.bus (x.first + i)) 0x206).wr (Reg.OBJ_ID x.bus (x.first + i)) (profileId 8 x.node i)).wr
      (Reg.OBJ_MASK x.bus (x.first + i)) 0x1FFFFFFF) s

/-- A pod slot is allocated, or fails (R463). -/
def State.allocPod (s : State) (k : Nat) : State :=
  let b := s.fld (Fd.POD_CFG_BUS k)
  let n := s.fld (Fd.POD_CFG_NFRAMES k) + 1
  let first := (s.can.pods.filter (fun p => p.2.bus == b)).foldl (fun (m : Nat) (p : Nat × PodAlloc) => max m (p.2.first + p.2.frames)) 16
  let s := s.wr (Reg.POD_STAT k) (BitVec.ofNat 32 (fieldOf (s.rd (Reg.POD_STAT k)) 16 16 * 65536))
  if !s.on (Fd.POD_CFG_EN k) then s
  else if 128 < first + n ∨ s.podRepeats k then (s.set (Fd.POD_STAT_ALLOC_FAIL k) 1).raise (Fd.BUS_EVT_POD_ALLOC b) b []
  else
    let x : PodAlloc := ⟨b, s.fld (Fd.POD_CFG_NODE k), n, first⟩
    let s := s.setCan { s.can with pods := s.can.pods.put k x }
    ((s.set (Fd.POD_STAT_ACTIVE k) 1).set (Fd.POD_STAT_FIRST_OBJ k) first).podObjects x

/-- The objects of the old allocation are given back to the host, disabled. -/
def State.freePods (s : State) : State :=
  let s := s.can.pods.foldl (fun (s : State) (p : Nat × PodAlloc) =>
    (List.range p.2.frames).foldl (fun s i => s.wr (Reg.OBJ_CFG p.2.bus (p.2.first + i)) 0) s) s
  s.setCan { s.can with pods := [], seqs := s.can.seqs.filter (fun p => decide (p.1 % 128 < 16)) }

/-- At a frame boundary after a change of pod slots every allocation is redone, in ascending order (R463). -/
def State.canBoundary (s : State) : State :=
  if s.can.dirty then
    let s := (s.setCan { s.can with dirty := false }).freePods
    (sortBy (fun a b => decide (a ≤ b)) (s.listed (Reg.POD_CFG 0) 0x10 96)).foldl State.allocPod s
  else s

/-- A pod quantity is absent after TMO without a fresh frame (R465). -/
def State.timeoutPod (s : State) (q : Nat) : State :=
  if s.fld (Fd.CAN_PODQ_KIND q) ≠ 0 ∧
     (Tab.find s.can.podAt q).any (fun t => decide (t + msTicks (10 * s.fld (Fd.CAN_PODQ_TMO q)) ≤ s.clk.now)) then
    s.wr (Reg.CAN_PODV q) 0x80000000
  else s

/-- POD_QUANTITY_TIMEOUT (R465). -/
def execPodQuantityTimeout (q : Fin 256) (s : State) : Host.Outcome State Fault Refusal := .next (s.timeoutPod q)

/-- A write of a pod quantity's source (R465): a quantity that reads another word is absent until a fresh frame carries it (log entry
91). -/
def State.writePodQ (s : State) (q : Nat) (v : Word) : State :=
  let old := s.rd (Reg.CAN_PODQ q)
  let s := s.plainWrite (Reg.CAN_PODQ q) v
  if (old ^^^ s.rd (Reg.CAN_PODQ q)) &&& 0x1FFFF = 0 then s else
  (s.wr (Reg.CAN_PODV q) 0x80000000).setCan { s.can with podAt := s.can.podAt.del q }

/-! ### Pump drives -/

/-- The objects of a pump's drive on a bus: set where the pump uses the drive there, else disabled (R466). -/
def State.driveObjects (s : State) (p : Nat) : State :=
  let can := s.fld (Fd.PMP_CFG_MODE p) == 3
  let node := s.fld (Fd.DRV_CFG_NODE p)
  let s := (List.range 8).foldl (fun s b =>
    if can && b == s.fld (Fd.DRV_CFG_BUS p) then
      let s := ((s.wr (Reg.OBJ_CFG b (2 * p)) 0x206).wr (Reg.OBJ_ID b (2 * p)) (profileId 6 node 0)).wr (Reg.OBJ_MASK b (2 * p)) 0x1FFFFFFF
      (s.wr (Reg.OBJ_CFG b (2 * p + 1)) 0x287).wr (Reg.OBJ_ID b (2 * p + 1)) (profileId 0x12 node 0)
    else (s.wr (Reg.OBJ_CFG b (2 * p)) 0).wr (Reg.OBJ_CFG b (2 * p + 1)) 0) s
  s.setCan { s.can with drvAt := s.can.drvAt.put p s.clk.now }

/-- The DRIVE_CMD content of a pump (R466). -/
def State.driveBytes (s : State) (p seq : Nat) : List Byte :=
  let en := s.pumpEnabled p
  let flags := (if en then 1 else 0) + (if (s.pump p).faultReset then 2 else 0)
  beBytes 2 seq ++ beBytes 1 flags ++ [0] ++ beBytes 2 (if en then s.fld (Fd.PMP_DEM_DEMAND p) else 0) ++ [0, 0]

/-- A pump's DRIVE_CMD is queued in its object (R466). -/
def State.sendDrive (s : State) (p : Nat) : State :=
  let b := s.fld (Fd.DRV_CFG_BUS p)
  let o := 2 * p + 1
  let seq := Tab.at 0 s.can.drvSeq p
  let d := s.driveBytes p seq
  let s := (s.wr (Reg.OBJ_DATA b o 0) (BitVec.ofNat 32 (leAt d 0 4))).wr (Reg.OBJ_DATA b o 1) (BitVec.ofNat 32 (leAt d 4 4))
  let s := s.setPump p { s.pump p with faultReset := false }
  let s := s.setCan { s.can with drvSeq := s.can.drvSeq.put p ((seq + 1) % 65536), drvSent := s.can.drvSent.put p s.clk.now }
  s.txRequest b o

/-- Whether a pump's DRIVE_CMD is due in this tick and has not been sent in it (R466). -/
def State.driveDue (s : State) (p : Nat) : Bool :=
  s.fld (Fd.PMP_CFG_MODE p) == 3 && s.clk.tcnt.toNat % (100 * s.fld (Fd.DRV_CFG_PERIOD p)) == p && Tab.find s.can.drvSent p != some s.clk.now

/-- DRIVE_CMD_SEND (R466): every CAN pump channel whose tick this is. Only the module that drives outputs sends (R453). -/
def execDriveCmdSend (s : State) : Host.Outcome State Fault Refusal :=
  .next (if s.drives then (List.range 8).foldl (fun s p => if s.driveDue p then s.sendDrive p else s) s else s)

/-- A pump that has come to use its drive by a takeover image has its status expected from now on (R468, R483). -/
def State.expectDrives (s : State) : State :=
  (List.range 8).foldl (fun (s : State) p =>
    if s.fld (Fd.PMP_CFG_MODE p) = 3 ∧ (Tab.find s.can.drvAt p).isNone then s.setCan { s.can with drvAt := s.can.drvAt.put p s.clk.now } else s) s

/-- A drive without a fresh status for TMO is lost, and a driven pump trips with cause CAN (R468, R318). -/
def State.loseDrive (s : State) (p : Nat) : State :=
  if s.fld (Fd.PMP_CFG_MODE p) = 3 ∧ ¬ s.on (Fd.DRV_STAT_LOST p) ∧
     Tab.at 0 s.can.drvAt p + msTicks (s.fld (Fd.DRV_CFG_TMO p)) ≤ s.clk.now then
    let s := (s.set (Fd.DRV_STAT_LOST p) 1).raise (Fd.BUS_EVT_DRV_LOST (s.fld (Fd.DRV_CFG_BUS p))) (s.fld (Fd.DRV_CFG_BUS p)) []
    if s.pumpDriven p then s.tripPump p 3 else s
  else s

/-- DRIVE_LOST (R468). -/
def execDriveLost (p : Fin 8) (s : State) : Host.Outcome State Fault Refusal := .next (s.loseDrive p)

/-- What has run out on the CAN buses by the end of a tick and no command has ended (log entry 90): dwell and rate detection (R454), the
delay of a recovery (R462), pod quantities (R465) and drives (R468). -/
def State.canRunOut (s : State) : State :=
  let s := (List.range 8).foldl (fun (s : State) b => ((s.autoTimeout b).autoDwell b).startRecovery b) s
  let s := s.podQs.foldl (fun (s : State) q => s.timeoutPod q) s
  (List.range 8).foldl (fun (s : State) p => s.loseDrive p) s

/-! ### Register writes -/

/-- CAN_: encodings reserved across fields (R450, R459, R472). -/
def crossCan (s : State) (a : Nat) (v : Word) : Bool :=
  let o := offsetOf a
  if o < 0x800 then
    (if o % 0x100 = 0x10 then decide (fieldOf v 20 7 ≤ fieldOf v 13 7)
     else if o % 0x100 = 0x14 then decide (fieldOf v 14 4 ≤ fieldOf v 10 4) else true)
  else if o < 0x010000 then true
  else if o < 0x030000 then
    (if o % 0x80 = 0 then (fieldOf v 2 1 == 1 || (fieldOf v 3 1 == 0 && decide (fieldOf v 4 4 ≤ 8)))
     else if o % 0x80 = 0x0C then fieldOf v 0 2 != 3 else true)
  else if 0x080000 ≤ o ∧ o < 0x080600 ∧ o % 0x10 = 0 then fieldOf v 3 1 == 0 || fieldOf v 4 7 != 0
  else if 0x090000 ≤ o ∧ o < 0x090400 then !(fieldOf v 14 3 == 4 && fieldOf v 9 5 == 29)
  else if 0x0A0000 ≤ o ∧ o < 0x0A0100 ∧ o % 0x20 = 0 then
    fieldOf v 4 7 != 0 || s.fld (Fd.PMP_CFG_MODE ((o - 0x0A0000) / 0x20)) != 3
  else true

/-- A write to a message object's words (R455, R459): none to an object a profile owns, none to the payload of a receive object; a
new payload replaces a pending one. -/
def State.writeObj (s : State) (b o off : Nat) (v : Word) : State :=
  if s.objOwner b o ≠ 0 then s
  else if off = 0x0C then
    if fieldOf v 0 1 = 1 then (if s.hostSends b o then s.txRequest b o else s)
    else if fieldOf v 1 1 = 1 then
      let f := s.free
      if f.2.hostSends b o then f.2.txAbort b o (f.1 % 2 == 1) else s
    else s
  else if 0x20 ≤ off then
    if s.on (Fd.OBJ_CFG_DIR b o) then
      let s := s.wr (Reg.OBJ_DATA b o ((off - 0x20) / 4)) v
      match Tab.find s.can.tx (128 * b + o) with
      | some x => s.setCan { s.can with tx := s.can.tx.put (128 * b + o) { x with frame := { x.frame with data := s.objPayload b o x.frame.data.length } } }
      | none => s
    else s
  else s.plainWrite (Reg.OBJ_CFG b o + off) v

/-- A write to a word of the CAN_ block (R451, R452, R455, R463, R466). -/
def State.writeCan (s : State) (a : Nat) (v : Word) : State :=
  let o := offsetOf a
  let b := o / 0x100
  if o < 0x800 then
    if o % 0x100 = 0 then s.writeBusCtrl b v
    else if (o % 0x100 = 0x10 ∨ o % 0x100 = 0x14 ∨ o % 0x100 = 0x1C) ∧ s.busMode b ≠ 0 then s.raise (Fd.BUS_EVT_CFG_IGN b) b []
    else s.plainWrite a v
  else if 0x010000 ≤ o ∧ o < 0x030000 then
    s.writeObj ((o - 0x010000) / 0x4000) ((o - 0x010000) % 0x4000 / 0x80) (o % 0x80) v
  else if 0x080000 ≤ o ∧ o < 0x080600 ∧ o % 0x10 = 0 then
    let s := s.plainWrite a v
    s.setCan { s.can with dirty := true }
  else if 0x0A0000 ≤ o ∧ o < 0x0A0100 ∧ o % 0x20 = 0 then (s.plainWrite a v).driveObjects ((o - 0x0A0000) / 0x20)
  else if 0x090000 ≤ o ∧ o < 0x090400 then s.writePodQ ((o - 0x090000) / 4) v
  else s.plainWrite a v

end Sys2Proof.Machine
end

