-- ==== Sys2Proof/Machine/IceRun.lean ====
section
/-! DEFINITION. Program images (R164 to R167) and the run of a stage list (R154 to R163): GATHER, MMA, EW, REDUCE, SCAN,
SCATTER_UPD and EMIT over the buffers of each logical tile. A slot in exact mode fixes every order (R177); in fast mode the
sums whose order is not fixed are free values (log entry 15). -/

namespace Sys2Proof.Machine

/-! ### Program images -/

/-- `n` fields of `w` bytes from an offset. -/
def leFields (bs : List Byte) (o w n : Nat) : List Nat := (List.range n).map (fun i => leAt bs (o + w * i) w)

/-- A buffer entry (R164). -/
def parseBuf (bs : List Byte) (o : Nat) : BufDef :=
  { base := leAt bs o 2, lines := leAt bs (o + 2) 2 + 1, kind := leAt bs (o + 4) 4 % 4,
    rows := leAt bs (o + 4) 4 / 4 % 4096 + 1, blocks := leAt bs (o + 4) 4 / 2 ^ 14 % 64 + 1 }

/-- The bytes of an image before its HASH (R166). -/
def imageSize (bs : List Byte) : Nat :=
  296 + 4 * leAt bs 13 1 + (leAt bs 14 1 + 3) / 4 * 4 + 8 * leAt bs 10 2 + 32 * leAt bs 8 2

/-- The image held in a byte string (Table 8). -/
def parseImage (bs : List Byte) : Img :=
  let ntab := leAt bs 13 1
  let ng := leAt bs 14 1
  let nbuf := leAt bs 10 2
  let o1 := 296 + 4 * ntab
  let o2 := o1 + (ng + 3) / 4 * 4
  let o3 := o2 + 8 * nbuf
  { level := leAt bs 4 1, role := leAt bs 5 1, exactReq := leAt bs 6 1 % 2 == 1, alvl := leAt bs 7 1, ltiles := leAt bs 12 1,
    tabs := (leFields bs 296 4 ntab).map (fun w => (w % 4096, w / 65536 % 256)), grants := leFields bs o1 1 ng,
    wcc := leAt bs 16 4, wreq := leAt bs 20 4, updq := leAt bs 24 4, seed := leAt bs 32 8, horizon := leFields bs 40 4 64,
    bufs := (List.range nbuf).map (fun i => parseBuf bs (o2 + 8 * i)),
    stages := (List.range (leAt bs 8 2)).map (fun i => leFields bs (o3 + 32 * i) 4 8),
    hash := (bs.drop (imageSize bs)).take 32 }

/-- Word `i` of a stage descriptor. -/
def dword (d : List Nat) (i : Nat) : Nat := d.getD i 0
/-- Bits [lo+w-1:lo] of word `i` of a descriptor. -/
def dbits (d : List Nat) (i lo w : Nat) : Nat := dword d i / 2 ^ lo % 2 ^ w
def dOp (d : List Nat) : Nat := dbits d 0 0 4
def dFmt (d : List Nat) : Nat := dbits d 0 4 2
def dDst (d : List Nat) : Nat := dbits d 0 8 8
def dA (d : List Nat) : Nat := dbits d 0 16 8
def dB (d : List Nat) : Nat := dbits d 0 24 8

/-- The bits of words 1 to 3 that Table 4 gives an operation. -/
def dMasks (d : List Nat) : List Nat :=
  match dOp d with
  | 1 => [0x0FFFFFFF, 0x01FFFFFF, 0]
  | 2 => [0x03FFFFFF, 0, 0]
  | 3 => [0x1F, 0xFFFFFFFF, 0xFF]
  | 4 => [0x7F, 0, 0]
  | 5 => [0xFF, 0, 0]
  | 6 => [0xFFFF3FFF, 0xFFFFFFFF, 0]
  | 7 => [0xFFF, if dbits d 1 0 4 = 0 then 3 else if dbits d 1 0 4 = 2 ∨ dbits d 1 0 4 = 3 then 0xFFFF else 0, 0]
  | _ => [0, 0, 0]

/-- Whether a descriptor uses no reserved encoding or field (R154, R155). -/
def stageFormatOk (d : List Nat) : Bool :=
  decide (dOp d < 8) && dFmt d != 3 && dbits d 0 7 1 == 0 &&
  ((dMasks d).zip (List.range' 1 3)).all (fun p => dword d p.2 == (dword d p.2 &&& p.1)) &&
  [4, 5, 6, 7].all (fun i => dword d i == 0) &&
  (match dOp d with
   | 3 => decide (dbits d 1 0 5 ≤ 0x0C)
   | 4 => dbits d 1 0 2 != 3 && dbits d 1 2 2 != 3 && dbits d 1 4 3 != 7
   | 5 => dbits d 1 0 2 != 3
   | 6 => dbits d 1 12 2 != 3
   | 7 => decide (dbits d 1 0 4 ≤ 4) && (dbits d 1 0 4 != 0 || dbits d 2 0 2 == 1 || dbits d 2 0 2 == 2)
   | _ => true)

/-- Strictly rising numbers. -/
def strictlyRising : List Nat → Bool
  | a :: b :: t => decide (a < b) && strictlyRising (b :: t)
  | _ => true

/-- The FORMAT check of R167: MAGIC, reserved fields and encodings, and the length. -/
def imageFormatOk (bs : List Byte) (min_ max_ : Nat) : Bool :=
  let g := parseImage bs
  decide (imageSize bs + 36 ≤ bs.length) && leAt bs 0 4 == 0x1CEF1E1D && decide (min_ ≤ g.level) && decide (g.level ≤ max_) &&
  (List.range (leAt bs 10 2)).all (fun i => decide (leAt bs (296 + 4 * leAt bs 13 1 + (leAt bs 14 1 + 3) / 4 * 4 + 8 * i + 4) 4 < 2 ^ 20)) &&
  decide (g.role ≤ 6) && decide (leAt bs 6 1 ≤ 1) && decide (1 ≤ leAt bs 8 2) && decide (leAt bs 8 2 ≤ 1024) &&
  decide (1 ≤ leAt bs 10 2) && decide (leAt bs 10 2 ≤ 240) && decide (1 ≤ g.ltiles) && decide (g.ltiles ≤ 64) &&
  decide (leAt bs 13 1 ≤ 64) && decide (leAt bs 14 1 ≤ 128) && g.grants.all (fun x => decide (x < 128)) &&
  leAt bs 15 1 == 0 && leAt bs 28 4 == 0 && strictlyRising g.horizon && decide (g.horizon.getLastD 0 ≤ 1000000) &&
  (leFields bs 296 4 (leAt bs 13 1)).all (fun w => w / 4096 % 16 == 0 && decide (w < 2 ^ 24)) &&
  g.stages.all stageFormatOk

/-- The kind of a buffer: declared, or of an input (Table 7; log entry 16). -/
def bufKind (g : Img) (b : Nat) : Nat := (g.bufs[b]?).elim 2 (·.kind)

/-- Whether a buffer may be named as a source by an image of this role (R165). -/
def sourceOk (g : Img) (b : Nat) : Bool :=
  decide (b < g.bufs.length) || b == 0xF6 ||
  (decide (0xF0 ≤ b) && decide (b ≤ 0xF3) && (g.role == 0 || g.role == 6)) ||
  ((b == 0xF4 || b == 0xF5) && g.role != 0)

/-- The BOUNDS check of R167 on one stage (R151, R155, R157, R165). -/
def stageBoundsOk (g : Img) (d : List Nat) : Bool :=
  let writes := dOp d = 1 ∨ dOp d = 2 ∨ dOp d = 3 ∨ dOp d = 4 ∨ dOp d = 5
  dOp d == 0 ||
  ((if writes then decide (dDst d < g.bufs.length) || (dDst d == 0xF5 && g.role != 0) else true) &&
   sourceOk g (dA d) && (dB d == 0xFF || sourceOk g (dB d)) &&
   (match dOp d with
    | 1 => (dbits d 2 0 16 + 1) % (dbits d 2 16 8 + 1) == 0 && g.tabs.any (fun t => t.1 == dbits d 1 0 12)
    | 2 => dB d != 0xFF && bufKind g (dA d) == bufKind g (dB d) && (dbits d 1 23 1 == 0 || dFmt d == 2) &&
           decide (dbits d 1 0 9 < 512) && decide (dbits d 1 9 8 < 256)
    | 5 => dB d != 0xFF
    | 6 => dB d != 0xFF && g.tabs.any (fun t => t.1 == dbits d 1 0 12) &&
           (dbits d 1 12 2 != 1 || (decide (1 ≤ dbits d 1 16 16) && decide (dbits d 1 16 16 ≤ 32767)))
    | _ => true))

/-- Whether two buffers overlap in the tile store. -/
def overlaps (a b : BufDef) : Bool := decide (a.base < b.base + b.lines) && decide (b.base < a.base + a.lines)

/-- No two buffers overlap (R164). -/
def apart : List BufDef → Bool
  | [] => true
  | a :: t => t.all (fun b => !overlaps a b) && apart t

/-- The BOUNDS check of R167. -/
def imageBoundsOk (g : Img) : Bool :=
  g.bufs.all (fun b => decide (b.rows * linesOf b.kind b.blocks ≤ b.lines) && decide (b.base + b.lines ≤ 65536)) &&
  apart g.bufs && g.stages.all (stageBoundsOk g) &&
  (g.stages.getLast?.any (fun d => dOp d == 0)) && (g.stages.dropLast).all (fun d => dOp d != 0)

/-! ### Runs -/

/-- A buffer's content: rows of elements. -/
abbrev Rows := List (List (Option Num))

/-- What a run reads: the image, whether exact, the counter of R153, the input buffers, the format of a stream, the rows of its tables
(table, row, first line, lines; none for a miss), the element kind of a table, and the place in the commit order. -/
structure RunEnv where
  img : Img
  exact_ : Bool
  counter : Nat
  input : Nat → Rows
  fmt : Nat → Nat
  row : Nat → Nat → Nat → Nat → Option (List (List Byte))
  ekind : Nat → Nat
  start : Nat
  cls : Nat
  traced : Bool := false

/-- A run in progress: the buffers by logical tile and number, and what it has computed. -/
structure RunSt where
  bufs : Tab Rows
  out : RunOut

def RunOut.none : RunOut :=
  { pkt := [], fcast := [], plan := [], host := [], trace := [], upds := [], kst := [], gmiss := 0, sat := 0, updDrop := 0,
    pktDrop := 0, tmiss := [], tainted := false, free := 0 }

/-- The content of a buffer in a logical tile. An element that the run has not written is free (log entry 13). -/
def RunSt.read (r : RunSt) (v : RunEnv) (lt b : Nat) : Rows :=
  if 0xF0 ≤ b ∧ b ≠ 0xF5 then v.input b else
  match Tab.find r.bufs (lt * 256 + b) with
  | some x => x
  | none =>
    if b = 0xF5 then v.input b else
    let d := v.img.bufs.getD b ⟨0, 0, 0, 0, 0⟩
    (List.range d.rows).map (fun i => (List.range (32 * d.blocks)).map (fun j =>
      (Config.unwritten lt b (i * 32 * d.blocks + j)).map (fun m => ⟨m, 0, 0⟩)))

/-- The rounding of a stage in a logical tile (R153). -/
def stageRounding (v : RunEnv) (k lt : Nat) (d : List Nat) : Rounding :=
  if dbits d 0 6 1 = 1 then .stochastic v.img.seed v.counter k lt else .nearest

/-- The rows of a result are converted to their destination's kind and written (R152), and the other rows of the buffer stay (R156, R160);
the kernel state is 16 words of 32 bits (log entry 16), and an index buffer keeps whole numbers. `accs` says whether the elements come from
accumulators. -/
def RunSt.write (r : RunSt) (v : RunEnv) (k lt : Nat) (d : List Nat) (x : Rows) (accs : Bool := true) : RunSt :=
  let b := dDst d
  let old := r.read v lt b
  let rows := x.take old.length
  let put (y : Rows) : Tab Rows := r.bufs.put (lt * 256 + b) (y ++ old.drop y.length)
  if b = 0xF5 then
    { r with bufs := put (rows.map (fun row => (padTo 16 row).map (fun n => n.map (fun n => (⟨(emitInt 32 0 n).1, 0, 0⟩ : Num))))) }
  else
    let bd := v.img.bufs.getD b ⟨0, 0, 0, 0, 0⟩
    if bd.kind = 3 then
      { r with bufs := put (rows.map (fun row =>
        (padTo (32 * bd.blocks) row).map (fun n => (n.bind indexOfNum).map (fun i => (⟨i, 0, 0⟩ : Num))))) }
    else
      let rd := stageRounding v k lt d
      let y := (rows.zip (List.range rows.length)).map (fun p => toRow (dFmt d) accs rd bd.blocks (p.2 * 32 * bd.blocks) p.1)
      { r with bufs := put (y.map (fun p => rowNums p.1)), out := { r.out with sat := r.out.sat + (y.map (·.2)).foldl (· + ·) 0 } }

/-- In fast mode a sum whose order is not fixed is free wherever it is present (R177, log entry 15). -/
def RunSt.loosen (r : RunSt) (v : RunEnv) (x : Rows) : RunSt × Rows :=
  if v.exact_ then (r, x) else
    let n := (x.map List.length).foldl max 0
    let y := (x.zip (List.range x.length)).map (fun p => (p.1.zip (List.range p.1.length)).map (fun q =>
      q.1.map (fun _ =>
        let i := r.out.free + 2 * (p.2 * n + q.2)
        (⟨signedOf 32 (Config.freeValue i % 2 ^ 32), signedOf 8 (Config.freeValue (i + 1) % 256), 0⟩ : Num))))
    ({ r with out := { r.out with free := r.out.free + 2 * (x.length * n) } }, y)

/-- A sum that is absent if any term is (R149). -/
def addOpt (a b : Option Num) : Option Num :=
  match a, b with
  | some x, some y => some (alignAdd x y)
  | _, _ => none

/-- MAX or MIN of two elements, absent terms ignored (R149). -/
def pickOpt (greater : Bool) (a b : Option Num) : Option Num :=
  match a, b with
  | some x, some y => some (if Num.lt x y == greater then y else x)
  | some x, none => some x
  | none, y => y

/-- The indices of SRCA (R156). -/
def indices (x : Rows) (count : Nat) : List (Option Nat) := padTo count (x.flatten.map (fun n => n.bind indexOfNum))

/-! ### Stages -/

/-- The rows that a GATHER fetches, none for a miss (R156). -/
def fetchRows (v : RunEnv) (d : List Nat) (idx : List (Option Nat)) : List (Option (List (Option Num))) :=
  let t := dbits d 1 0 12
  let blocks := (v.img.bufs.getD (dDst d) ⟨0, 0, 0, 0, 1⟩).blocks
  idx.map (fun i => (i.bind (fun i => v.row t i (dbits d 1 12 8) (dbits d 1 20 8 + 1))).map
    (fun ls => rowNums (readRow (v.ekind t) blocks ls)))

/-- A list in groups of `n`. -/
def groups (n : Nat) : Nat → List α → List (List α)
  | 0, _ => []
  | k + 1, l => if l.isEmpty then [] else l.take n :: groups n k (l.drop n)

/-- The sum of a bag: rows in ascending order, misses contributing nothing; none where all missed (R156). -/
def bagSum (rows : List (Option (List (Option Num)))) : List (Option Num) :=
  match rows.filterMap id with
  | [] => []
  | r :: t => t.foldl (fun acc x => (acc.zip x).map (fun p => addOpt p.1 p.2)) (r.map (fun n => n.map (alignAdd Num.empty)))

/-- GATHER (R156). -/
def stageGather (v : RunEnv) (k lt : Nat) (d : List Nat) (r : RunSt) : RunSt :=
  let t := dbits d 1 0 12
  let rows := fetchRows v d (indices (r.read v lt (dA d)) (dbits d 2 0 16 + 1))
  let miss := (rows.filter Option.isNone).length
  let r := { r with out := { r.out with gmiss := r.out.gmiss + miss, tmiss := r.out.tmiss.put t (Tab.at 0 r.out.tmiss t + miss) } }
  if dbits d 2 24 1 = 0 then r.write v k lt d (rows.map (fun x => x.getD [])) false
  else
    let x := (groups (dbits d 2 16 8 + 1) rows.length rows).map bagSum
    let p := r.loosen v x
    p.1.write v k lt d p.2

/-- An element of a matrix held in a buffer, transposed or not. -/
def elemOf (x : Rows) (tr : Bool) (i j : Nat) : Option Num :=
  if tr then ((x.getD j []).getD i none) else ((x.getD i []).getD j none)

/-- The exact sum of 32 products of one block (R151), absent if a factor is (R149). -/
def blockDot (a b : List (Option Num)) : Option Num :=
  (a.zip b).foldl (fun acc p =>
    match acc, p.1, p.2 with
    | some s, some x, some y =>
      let q := exactAdd s.m s.e (x.m * y.m) (x.e + y.e)
      some ⟨q.1, q.2, 0⟩
    | _, _, _ => none) (some ⟨0, 254, 0⟩)

/-- MMA (R157): each output element over the K blocks in ascending order. -/
def stageMma (v : RunEnv) (k lt : Nat) (d : List Nat) (r : RunSt) : RunSt :=
  let a := r.read v lt (dA d)
  let b := r.read v lt (dB d)
  let old := r.read v lt (dDst d)
  let ta := dbits d 1 24 1 = 1
  let tb := dbits d 1 25 1 = 1
  let acc := dbits d 1 23 1 = 1
  let nb := dbits d 1 17 6 + 1
  let x : Rows := (List.range (8 * (dbits d 1 0 9 + 1))).map (fun i =>
    (List.range (8 * (dbits d 1 9 8 + 1))).map (fun j =>
      (List.range nb).foldl (fun s kb =>
        addOpt s (blockDot ((List.range' (32 * kb) 32).map (fun q => elemOf a ta i q))
                           ((List.range' (32 * kb) 32).map (fun q => elemOf b tb q j))))
        (if acc then elemOf old false i j else some Num.empty)))
  let p := r.loosen v x
  p.1.write v k lt d p.2

/-- The fitted product of two numbers. -/
def mulNum (a b : Num) : Num := fit32 (a.m * b.m) (a.e + b.e)

/-- The fit of R150 to INT32 of an exact fraction p ÷ q × 2^e (q > 0), for PWL (R158): from its exponent upward. -/
def fitFraction (p : Int) (q : Nat) (e : Int) : Num :=
  match (List.range 512).find? (fun k => decide ((rneFrac p (q * 2 ^ k)).natAbs ≤ 2 ^ 31 - 1)) with
  | some k => if e + k > 127 then ⟨p.sign * (2 ^ 31 - 1), 127, 1⟩ else ⟨rneFrac p (q * 2 ^ k), e + k, 0⟩
  | none => ⟨p.sign * (2 ^ 31 - 1), 127, 1⟩
where
  /-- p ÷ q to the nearest integer, ties to even. -/
  rneFrac (p : Int) (q : Nat) : Int :=
    let k := p / q
    let r := p - k * q
    if 2 * r < q then k else if (q : Int) < 2 * r then k + 1 else if k % 2 = 0 then k else k + 1

/-- A through the piecewise-linear function of 65 breakpoints and values (R158). -/
def pwl (a : Num) (xs ys : List (Option Num)) : Option Num :=
  let x (i : Nat) : Option Num := xs.getD i none
  let y (i : Nat) : Option Num := ys.getD i none
  match x 0, x 64 with
  | some lo, some hi =>
    if Num.lt a lo then y 0 else if !Num.lt a hi then y 64 else
    match (List.range 64).find? (fun i => (x (i + 1)).all (fun n => Num.lt a n)) with
    | none => none
    | some i =>
      match x i, x (i + 1), y i, y (i + 1) with
      | some x0, some x1, some y0, some y1 =>
        let lx := min a.e (min x0.e x1.e)
        let ly := min y0.e y1.e
        let sx (n : Num) : Int := n.m * 2 ^ (n.e - lx).toNat
        let sy (n : Num) : Int := n.m * 2 ^ (n.e - ly).toNat
        let q := (sx x1 - sx x0).toNat
        if q = 0 then some y0 else some (fitFraction (sy y0 * q + (sy y1 - sy y0) * (sx a - sx x0)) q ly)
      | _, _, _, _ => none
  | _, _ => none

/-- The function of one element (Table 6 of chapter 04). -/
def ewElem (fn : Nat) (imm : Num) (xs ys : List (Option Num)) (a b : Option Num) : Option Num :=
  match fn with
  | 0 => addOpt a b
  | 1 => addOpt a (b.map (fun n => { n with m := -n.m }))
  | 2 => match a, b with | some x, some y => some (mulNum x y) | _, _ => none
  | 3 => pickOpt true a b
  | 4 => pickOpt false a b
  | 5 => a.map (fun x => mulNum x imm)
  | 6 => a.map (fun x => alignAdd x imm)
  | 7 => a.map (fun x => if x.m < 0 then { x with m := 0 } else x)
  | 8 => a.or b
  | 9 => a
  | 10 => a.bind (fun x => pwl x xs ys)
  | 11 => some ⟨if a.isNone then 1 else 0, 0, 0⟩
  | 12 => match a, b with | some x, some y => if y.m = 0 then none else some x | _, _ => none
  | _ => none

/-- A number fitted to INT32 (R150), as every function of EW is (R158). -/
def Num.fit (n : Num) : Num := let r := fit32 n.m n.e; { r with sat := r.sat + n.sat }

/-- EW (R158). -/
def stageEw (v : RunEnv) (k lt : Nat) (d : List Nat) (r : RunSt) : RunSt :=
  let a := r.read v lt (dA d)
  let imm : Num := ⟨signedOf 32 (dword d 2), signedOf 8 (dbits d 3 0 8), 0⟩
  let b := if dB d = 0xFF then [] else r.read v lt (dB d)
  let other (i j : Nat) : Option Num := if dB d = 0xFF then some imm else (b.getD i []).getD j none
  r.write v k lt d ((a.zip (List.range a.length)).map (fun p => (p.1.zip (List.range p.1.length)).map (fun q =>
    (ewElem (dbits d 1 0 5) imm (b.getD 0 []) (b.getD 1 []) q.1 (other p.2 q.2)).map Num.fit)))

/-- The combination of two elements in a reduction (R159). -/
def reduceTwo (fn : Nat) (a b : Option Num) : Option Num :=
  match fn with | 0 => addOpt a b | 1 => pickOpt true a b | _ => pickOpt false a b

/-- The exact sum of a block's elements, absent if one is (R159). -/
def blockSum (l : List (Option Num)) : Option Num :=
  l.foldl (fun acc n =>
    match acc, n with
    | some s, some x => (let q := exactAdd s.m s.e x.m x.e; some ⟨q.1, q.2, 0⟩)
    | _, _ => none) (some ⟨0, 254, 0⟩)

/-- One row reduced to one element (R159, AXIS 0). -/
def reduceRow (fn : Nat) (row : List (Option Num)) : Option Num :=
  if fn = 0 then (groups 32 row.length row).foldl (fun s b => addOpt s (blockSum b)) (some Num.empty)
  else row.foldl (reduceTwo fn) none

/-- The pairwise tree over logical tiles (R159). -/
def pairUp (fn : Nat) : List (Option Num) → List (Option Num)
  | a :: b :: t => reduceTwo fn a b :: pairUp fn t
  | l => l
def treeReduce (fn : Nat) : Nat → List (Option Num) → Option Num
  | 0, l => l.headD none
  | n + 1, l => treeReduce fn n (pairUp fn l)

/-- REDUCE within one logical tile (AXIS 0 and 1). -/
def stageReduce (v : RunEnv) (k lt : Nat) (d : List Nat) (r : RunSt) : RunSt :=
  let a := r.read v lt (dA d)
  let fn := dbits d 1 0 2
  if dbits d 1 2 2 = 0 then r.write v k lt d (a.map (fun row => [reduceRow fn row]))
  else
    let cols := (a.map List.length).foldl max 0
    let col (j : Nat) : List (Option Num) := a.map (fun row => row.getD j none)
    r.write v k lt d [(List.range cols).map (fun j =>
      if fn = 0 then (col j).foldl addOpt (some Num.empty) else (col j).foldl (reduceTwo fn) none)]

/-- REDUCE across each aligned group of logical tiles (AXIS 2). -/
def stageReduceTiles (v : RunEnv) (k : Nat) (d : List Nat) (r : RunSt) : RunSt :=
  let n := 2 ^ dbits d 1 4 3
  let fn := dbits d 1 0 2
  let src := (List.range v.img.ltiles).map (fun lt => r.read v lt (dA d))
  let group (g : Nat) : Rows :=
    let xs := (src.drop (g * n)).take n
    let first := xs.headD []
    (first.zip (List.range first.length)).map (fun p => (List.range p.1.length).map (fun j =>
      treeReduce fn 7 (xs.map (fun x => elemOf x false p.2 j))))
  (List.range ((v.img.ltiles + n - 1) / n)).foldl (fun (acc : RunSt) g =>
    let p := if fn = 0 then acc.loosen v (group g) else (acc, group g)
    ((List.range' (g * n) n).filter (fun lt => decide (lt < v.img.ltiles))).foldl (fun (acc : RunSt) lt => acc.write v k lt d p.2) p.1) r

/-- The H results of a SCAN (R160), in ascending h. -/
def scanFrom (fn : Nat) (b : Rows) : Nat → Nat → List (Option Num) → Rows
  | 0, _, _ => []
  | n + 1, h, x =>
    let u (j : Nat) : Option Num := (b.getD (if fn = 0 then 2 * h + 1 else h) []).getD j none
    let a (j : Nat) : Option Num := (b.getD (2 * h) []).getD j none
    let y := (x.zip (List.range x.length)).map (fun p =>
      match fn with
      | 0 =>
        match a p.2, p.1, u p.2 with
        | some a, some x, some u => (let q := exactAdd (a.m * x.m) (a.e + x.e) u.m u.e; some (fit32 q.1 q.2))
        | _, _, _ => none
      | 1 => addOpt p.1 (u p.2)
      | _ => pickOpt true p.1 (u p.2))
    y :: scanFrom fn b n (h + 1) (y.map (fun q => q.map (fun x => { x with sat := 0 })))

/-- SCAN (R160). -/
def stageScan (v : RunEnv) (k lt : Nat) (d : List Nat) (r : RunSt) : RunSt :=
  r.write v k lt d (scanFrom (dbits d 1 0 2) (r.read v lt (dB d)) (dbits d 1 2 6 + 1) 0 ((r.read v lt (dA d)).headD []))

/-- SCATTER_UPD (R161): records into the run's update log. -/
def stageScatter (v : RunEnv) (k lt : Nat) (d : List Nat) (r : RunSt) : RunSt :=
  let t := dbits d 1 0 12
  let idx := indices (r.read v lt (dA d)) (dbits d 2 0 16 + 1)
  let src := r.read v lt (dB d)
  let blocks := if dB d < v.img.bufs.length then (v.img.bufs.getD (dB d) ⟨0, 0, 0, 0, 1⟩).blocks
    else max 1 (((src.map List.length).foldl max 0 + 31) / 32)
  (idx.zip (List.range idx.length)).foldl (fun (r : RunSt) p =>
    match p.1.bind (fun i => (v.row t i 0 1).map (fun _ => i)) with
    | none => { r with out := { r.out with gmiss := r.out.gmiss + 1, tmiss := r.out.tmiss.put t (Tab.at 0 r.out.tmiss t + 1) } }
    | some i =>
      let row := src.getD p.2 []
      let blks := (List.range blocks).map (fun b =>
        (toBlock (if bufKind v.img (dB d) = 3 then 2 else bufKind v.img (dB d)) true .nearest
          (((row.drop (32 * b)).take 32).map (fun n => (n, 0)))).1)
      let u : UpdRec :=
        { start := v.start, cls := v.cls, ltile := lt, stage := k, pos := p.2, nth := 0, rs := dbits d 0 6 1 == 1,
          seed := v.img.seed, table := t, row := i, line0 := dbits d 2 16 8, nlines := dbits d 2 24 8 + 1,
          rule := dbits d 1 12 2, alpha := dbits d 1 16 16, src := blks }
      { r with out := { r.out with upds := r.out.upds ++ [u] } }) r

/-- The records of one logical tile within its quota (R161), numbered: the first ones in exact mode; in fast mode, which fixes no quota order
(R177), free values choose among them. -/
def withinQuota (exact_ : Bool) (quota free : Nat) (l : List UpdRec) : List UpdRec :=
  let ix := List.range l.length
  let order := if exact_ then ix else sortBy (fun a b => decide (Config.freeValue (free + a) ≤ Config.freeValue (free + b))) ix
  let kept := order.take quota
  let l := if l.length ≤ quota then l else (l.zip ix).filterMap (fun p => if kept.contains p.2 then some p.1 else none)
  (l.zip (List.range l.length)).map (fun p => { p.1 with nth := p.2 })

/-- The quota of every logical tile on the records of a run (R161). -/
def RunSt.quota (r : RunSt) (v : RunEnv) : RunSt :=
  let kept := (List.range v.img.ltiles).flatMap (fun lt =>
    withinQuota v.exact_ v.img.updq (r.out.free + lt * r.out.upds.length) (r.out.upds.filter (fun u => u.ltile == lt)))
  { r with out := { r.out with upds := kept, updDrop := r.out.upds.length - kept.length,
                               free := r.out.free + v.img.ltiles * r.out.upds.length } }

/-- A forecast code of a stream (R18, R162): power without a sign, other formats with one; the no-value code of the format, above every
16-bit code, for an absent element. -/
def fcastCode (fmt : Nat) (scale : Int) (n : Option Num) : Nat × Nat :=
  match n with
  | none => (65536 + noValue fmt, 0)
  | some n => let p := if fmt = 1 then emitPower scale n else emitInt 16 scale n; (patternOf 16 p.1, p.2)

/-- One element emitted (R162). -/
def emitElem (v : RunEnv) (d : List Nat) (r : RunOut) (i : Nat) (target : Option Nat) (n : Option Num) : RunOut :=
  let scale := signedOf 8 (dbits d 1 4 8)
  let p (w : Nat) : Int × Nat := n.elim (-(2 ^ (w - 1)), 0) (emitInt w scale)
  match dbits d 1 0 4 with
  | 0 =>
    match target with
    | none => { r with pktDrop := r.pktDrop + 1 }
    | some slot =>
      if v.img.role ≠ 0 ∨ ¬ v.img.grants.contains slot then { r with pktDrop := r.pktDrop + 1 }
      else
        let key := slot * 4 + dbits d 2 0 2
        if !Tab.has r.pkt key && decide (384 ≤ r.pkt.length) then { r with pktDrop := r.pktDrop + 1 }
        else { r with pkt := r.pkt.put key (p 32).1, sat := r.sat + (p 32).2 }
  | 1 =>
    match target with
    | none => r
    | some sid =>
      if 262144 ≤ sid then r else
      let c := fcastCode (v.fmt sid) scale n
      { r with fcast := r.fcast ++ [(sid, c.1)], sat := r.sat + c.2 }
  | 2 => if i < 4096 then { r with plan := r.plan.put (dbits d 2 0 16 * 4096 + i) (patternOf 32 (p 32).1), sat := r.sat + (p 32).2 }
         else r
  | 3 => if dbits d 2 0 16 * 16 + i < 262144 then
           { r with host := r.host.put (dbits d 2 0 16 * 16 + i) (BitVec.ofInt 32 (p 32).1), sat := r.sat + (p 32).2 }
         else r
  | _ => if v.img.role = 6 then { r with trace := r.trace ++ [patternOf 32 (p 32).1], sat := r.sat + (p 32).2 } else r

/-- EMIT (R162). -/
def stageEmit (v : RunEnv) (lt : Nat) (d : List Nat) (r : RunSt) : RunSt :=
  let a := (r.read v lt (dA d)).flatten
  let b := if dB d = 0xFF then [] else (r.read v lt (dB d)).flatten.map (fun n => n.bind indexOfNum)
  let targeted := dbits d 1 0 4 ≤ 1
  let a := if targeted then a.take b.length else a
  { r with out := (a.zip (List.range a.length)).foldl (fun o p => emitElem v d o p.2 (b.getD p.2 none) p.1) r.out }

/-- One stage in one logical tile. -/
def stageOne (v : RunEnv) (k lt : Nat) (d : List Nat) (r : RunSt) : RunSt :=
  match dOp d with
  | 1 => stageGather v k lt d r
  | 2 => stageMma v k lt d r
  | 3 => stageEw v k lt d r
  | 4 => stageReduce v k lt d r
  | 5 => stageScan v k lt d r
  | 6 => stageScatter v k lt d r
  | 7 => stageEmit v lt d r
  | _ => r

/-- A value of a buffer as numbers, for a digest over it (R573). -/
def numCode (n : Option Num) : List Nat := n.elim [2 ^ 64] (fun x => [patternOf 64 x.m, patternOf 16 x.e])

/-- The trace item of a stage in a logical tile (R575), as ten words: stage and tile, zero, and the hash of its DST buffer. -/
def traceItem (k lt : Nat) (b : Rows) : List Nat :=
  [k + 65536 * lt, 0] ++ (leWords (Config.sha256 (Config.digestBytes 5 (b.flatten.flatMap numCode)))).map (·.toNat)

/-- The trace of a stage over every logical tile (R575). -/
def traceStage (v : RunEnv) (k : Nat) (d : List Nat) (r : RunSt) : RunSt :=
  if v.traced then
    { r with out := { r.out with trace := r.out.trace ++
      (List.range v.img.ltiles).flatMap (fun lt => traceItem k lt (Tab.at [] r.bufs (lt * 256 + dDst d))) } }
  else r

/-- One stage over every logical tile, in ascending order (R147), with its trace. -/
def stageAll (v : RunEnv) (k : Nat) (d : List Nat) (r : RunSt) : RunSt :=
  traceStage v k d (if dOp d = 4 ∧ dbits d 1 2 2 = 2 then stageReduceTiles v k d r
    else (List.range v.img.ltiles).foldl (fun r lt => stageOne v k lt d r) r)

/-- A run of the whole stage list (R171: every run executes it all). The kernel state written by the last logical tile that
wrote it is the batch's new state. -/
def runImage (v : RunEnv) (free : Nat) : RunSt :=
  ((v.img.stages.zip (List.range v.img.stages.length)).foldl (fun r p => stageAll v p.2 p.1 r)
    ⟨[], { RunOut.none with free := free }⟩).quota v

end Sys2Proof.Machine
end

