-- ==== Sys2Proof/Machine/Tables.lean ====
section
/-! DEFINITION. Forecast tables (chapter 05): rows and segments (R187 to R192), residency and loads (R193 to R200), placement
(R201, R202), the update log and its commit (R204 to R209), saves, checkpoints (R212 to R216) and stack faults (R218 to
R221), with the T_CMD writes of R222 and R225. -/

namespace Sys2Proof.Machine

/-! ### Tables and their rows -/

def Tbl.empty : Tbl :=
  { rows := [], whole := false, res := [], out := [], dirty := [], home := [], cls := [], loaded := [], image := none, restore := false }

def State.tblOf (s : State) (t : Nat) : Tbl := Tab.at Tbl.empty s.tbl.tbl t

def State.setTbl (s : State) (t : Nat) (x : Tbl) : State := { s with tbl := { s.tbl with tbl := s.tbl.tbl.put t x } }

def State.tblKind (s : State) (t : Nat) : Nat := s.fld (Fd.T_CFG_KIND t)
def State.tblEkind (s : State) (t : Nat) : Nat := s.fld (Fd.T_CFG_EKIND t)
def State.rowLines (s : State) (t : Nat) : Nat := s.fld (Fd.T_CFG_ROWLINES t) + 1

/-- The rows of a table (Table 1 of chapter 05). -/
def State.tblRows (s : State) (t : Nat) : Nat :=
  match s.tblKind t with
  | 0 => 65536
  | 1 => 67108864
  | 2 => 8192
  | 3 => 262144 * 2 ^ s.fld (Fd.T_CFG_DEPTH t)
  | _ => (s.rd (Reg.T_ROWS t)).toNat

def State.tblSegs (s : State) (t : Nat) : Nat := s.tblRows t / 64

/-- The bytes of a segment: 64 rows (R190, R192). -/
def State.segBytes (s : State) (t : Nat) : Nat := 4096 * s.rowLines t

/-- The tables that exist, by T_STAT.STATE READY or PARTIAL. -/
def State.tblLive (s : State) (t : Nat) : Bool := s.fld (Fd.T_STAT_STATE t) == 2 || s.fld (Fd.T_STAT_STATE t) == 3

/-- The job slot an accelerator belongs to (R23), and that slot's job class (R188). -/
def State.jobOf (s : State) (a : Nat) : Option Nat := Tab.find s.plan.jobOf a
def State.classOf (s : State) (a : Nat) : Option Nat := (s.jobOf a).bind (fun j => (s.job j).cls)

/-- Whether a segment is resident (R195). -/
def State.resident (s : State) (t seg : Nat) : Bool :=
  let x := s.tblOf t
  if x.whole then decide (seg < s.tblSegs t) && !x.out.contains seg else x.res.contains seg

/-- Whether a SLICE segment belongs to another job class than its accelerator's (R197). -/
def State.foreign (s : State) (t seg : Nat) : Bool :=
  s.tblKind t == 1 && (s.classOf (seg % 4096)).any (fun c => Tab.find (s.tblOf t).cls seg != some c)

/-- Line `l` of a row as it stands (R191). -/
def State.rowLine (s : State) (t i l : Nat) : List Byte :=
  (Tab.find (Tab.at [] (s.tblOf t).rows i) l).getD (absentLine (s.tblEkind t))

/-- Lines of a row for a gather, none for a miss (R156). -/
def State.tableRow (s : State) (t i l0 n : Nat) : Option (List (List Byte)) :=
  if s.tblLive t && decide (i < s.tblRows t) && s.resident t (i / 64) then some ((List.range' l0 n).map (fun l => s.rowLine t i l))
  else none

/-- The tables created, in order. -/
def State.tables (s : State) : List Nat := s.tbl.tbl.map (·.1)

/-! ### Placement -/

/-- The pseudo-channels of a stack that the others carry in turn: those retired beyond the one in the spare areas (R219). -/
def State.carried (s : State) (k : Nat) : Nat := s.fld (Fd.STK_STAT_PC_RET k) - 1

/-- The allocatable bytes of a stack in service (R201, R219). -/
def State.stackCap (s : State) (k : Nat) : Nat := (64000 - 1000 * s.carried k) * 1048576

/-- The free bytes of a stack in service (R201). -/
def State.stackFree (s : State) (k : Nat) : Nat :=
  if k < stackCount ∧ s.fld (Fd.STK_STAT_STATE k) ≠ 3 then (Tab.find s.tbl.free k).getD (s.stackCap k) else 0

/-- The logical pseudo-channel that holds line `j` of row `i` of a segment with `n` lines a row (R202). -/
def linePc (n i j : Nat) : Nat := (i * n + j) % 64

/-- Whether a segment of a table has a line on a pseudo-channel (R202). -/
def State.linesOn (s : State) (t pc : Nat) : Bool :=
  (List.range 64).any (fun i => (List.range (s.rowLines t)).any (fun j => linePc (s.rowLines t) i j == pc))

/-- The stack with the most free space, on a tie the lowest (R202). -/
def bestStack (f : Nat → Nat) : Nat := (List.range 12).foldl (fun b k => if f b < f k then k else b) 0

/-- The stacks in service (TBL_STAT.STACKS). -/
def State.stacksUp (s : State) : Nat := ((List.range stackCount).filter (fun k => s.fld (Fd.STK_STAT_STATE k) != 3)).length

/-- STK_FREE and TBL_FREE after a change of allocation, in whole MiB, with TBL_CAP and the stacks in service. -/
def State.showFree (s : State) : State :=
  let s := (List.range stackCount).foldl (fun s k => s.set (Fd.STK_FREE_MIB k) (s.stackFree k / 1048576)) s
  let s := s.set Fd.TBL_FREE_MIB (((List.range stackCount).map s.stackFree).foldl (· + ·) 0 / 1048576)
  let up := (List.range stackCount).filter (fun k => s.fld (Fd.STK_STAT_STATE k) != 3)
  (s.set Fd.TBL_CAP_MIB ((up.map s.stackCap).foldl (· + ·) 0 / 1048576)).set Fd.TBL_STAT_STACKS s.stacksUp

/-- A segment takes its home stack (R202), none where no stack has room. -/
def State.place (s : State) (t seg : Nat) : Option State :=
  let k := bestStack s.stackFree
  if s.segBytes t ≤ s.stackFree k then
    let x := s.tblOf t
    some ({ s with tbl := { s.tbl with free := s.tbl.free.put k (s.stackFree k - s.segBytes t) } }.setTbl t
      { x with home := x.home.put seg k })
  else none

/-- The first `n` segments of a table take their home stacks. -/
def State.placeAll (s : State) (t : Nat) : Nat → Option State
  | 0 => some s
  | n + 1 => (s.placeAll t n).bind (fun s => s.place t n)

/-- Bytes of a stack are free again. -/
def State.giveSpace (s : State) (k n : Nat) : State := { s with tbl := { s.tbl with free := s.tbl.free.put k (s.stackFree k + n) } }

/-- A segment's space is freed. -/
def State.unplace (s : State) (t seg : Nat) : State :=
  let x := s.tblOf t
  match Tab.find x.home seg with
  | none => s
  | some k => (s.giveSpace k (s.segBytes t)).setTbl t { x with home := x.home.del seg }

/-- An evicted segment's space is held until its save is acknowledged, where one is under way, and until every run that started before
this boundary has ended (R196). -/
def State.holdSpace (s : State) (t seg : Nat) (saving : Bool) : State :=
  let x := s.tblOf t
  match Tab.find x.home seg with
  | none => s
  | some k =>
    { s with tbl := { s.tbl with held := s.tbl.held ++ [(⟨t, seg, k, s.segBytes t, saving, s.ice.frame.toNat⟩ : SpaceHeld)] } }.setTbl t { x with home := x.home.del seg }

/-- Held space with no save and no run from before its boundary left is freed (R196). -/
def State.freeHeld (s : State) : State :=
  let done := fun (h : SpaceHeld) => !h.saving && !s.ice.batches.any (fun b => decide (b.2.frame < h.frame))
  let r : State := { s with tbl := { s.tbl with held := s.tbl.held.filter (fun h => !done h) } }
  (s.tbl.held.filter done).foldl (fun s h => s.giveSpace h.stack h.bytes) r

/-! ### What is required -/

/-- The accelerators of a job slot, ascending. -/
def State.members (s : State) (j : Nat) : List Nat := (s.plan.jobOf.filter (fun p => p.2 == j)).map (·.1)

/-- The phase indices a job requires (R193) with their place in the order of need (R194): those of its announcements of the last STEPS
steps and of steps to come, under its job class; 0 for the phase of the current angle, and 1 above the step angle at which it begins for
another. -/
def State.jobPhases (s : State) (j : Nat) : List (Nat × Nat) :=
  let x := s.job j
  let steps : Int := s.fld Fd.TBL_EVICT_CFG_STEPS
  let segs := (x.history.filter (fun h => decide (-steps < diff32 h.1 x.step))).flatMap (·.2)
  let mine := segs.filter (fun g => x.cls == some (g.2.toNat / 256))
  let need (p : Nat) : Nat :=
    if x.phase.any (fun q => x.cls == some (q / 256) && q % 256 == p) then 0
    else ((mine.filter (fun g => g.2.toNat % 256 == p)).map (fun g => 1 + g.1.toNat)).foldl min 65536
  sortBy (fun a b => decide (a.2 ≤ b.2)) ((mine.map (fun g => g.2.toNat % 256)).dedup.map (fun p => (p, need p)))

/-- The required segments of a table (R193), each with its place in the order of need (R194): a whole table's at once. Replay copies load
nothing (R210). -/
def State.needed (s : State) (t : Nat) : List (Nat × Nat) :=
  if s.on (Fd.T_CFG_REPLAY t) then []
  else if s.tblKind t = 1 then
    (s.jobs.filter (fun p => s.jobState p.1 != 0 && p.2.cls.isSome)).flatMap (fun p =>
      (s.jobPhases p.1).flatMap (fun ph => (s.members p.1).map (fun a => (ph.1 * 4096 + a, ph.2))))
  else (List.range (s.tblSegs t)).map (fun g => (g, 0))

/-- The required segments of a table (R193). -/
def State.required (s : State) (t : Nat) : List Nat := (s.needed t).map (·.1)

/-- The words of a table that show its residency (R225). -/
def State.showTable (s : State) (t : Nat) : State :=
  let req := s.required t
  let have_ := (req.filter (fun g => s.resident t g)).length
  let s := (s.wr (Reg.T_SEGS t) (BitVec.ofNat 32 have_)).wr (Reg.T_SEGREQ t) (BitVec.ofNat 32 req.length)
  let held := ((s.tbl.held.filter (fun h => h.table == t)).map (·.bytes)).foldl (· + ·) 0
  let s := s.wr (Reg.T_MIB t) (BitVec.ofNat 32 (((s.tblOf t).home.length * s.segBytes t + held + 1048575) / 1048576))
  if s.tblLive t then s.set (Fd.T_STAT_STATE t) (if have_ = req.length then 2 else 3) else s

/-- The active slot images. -/
def State.activeSlots (s : State) : List Nat := (List.range 16).filter (fun k => s.fld (Fd.SLOT_STAT_STATE k) == 3)
def State.slotImg (s : State) (k : Nat) : Option Img := (Tab.find s.ice.slots k).bind (·.img)

/-- Whether a table is bound by a LOADED or ACTIVE slot (R222). -/
def State.bound (s : State) (t : Nat) : Bool :=
  (List.range 16).any (fun k => (s.fld (Fd.SLOT_STAT_STATE k) == 2 || s.fld (Fd.SLOT_STAT_STATE k) == 3) &&
    (s.slotImg k).any (fun g => g.tabs.any (fun b => b.1 == t)))

/-- Every table's residency words, and TBL_STAT.READY (R224). -/
def State.showTables (s : State) : State :=
  let s := s.tables.foldl State.showTable s
  s.setB Fd.TBL_STAT_READY ((s.tables.filter s.bound).all (fun t => s.fld (Fd.T_STAT_STATE t) == 2))

/-! ### The host table store -/

/-- The key of a saved unit (R214, R438): table, level, job class, owner, segment, epoch. -/
def State.storeKey (s : State) (t seg : Nat) : List Nat :=
  let slice := s.tblKind t = 1
  [t, s.fld (Fd.T_CFG_LEVEL t), if slice then ((Tab.find (s.tblOf t).cls seg).or (s.classOf (seg % 4096))).getD 0 else 0,
   if slice then s.globalOf (seg % 4096) else s.sys.straps.moduleId * 4096, seg,
   (s.rd (Reg.T_EPOCH_LO t)).toNat + 2 ^ 32 * (s.rd (Reg.T_EPOCH_HI t)).toNat]

/-- The bytes of a segment, rows and lines ascending (log entry 17). -/
def State.segData (s : State) (t seg : Nat) : List Byte :=
  (List.range' (64 * seg) 64).flatMap (fun i => (List.range (s.rowLines t)).flatMap (fun l => s.rowLine t i l))

/-- The rows of a segment from its bytes. -/
def segRows (lines seg : Nat) (bs : List Byte) : Tab (Tab (List Byte)) :=
  (List.range 64).map (fun i => (64 * seg + i, (List.range lines).map (fun l => (l, (bs.drop (64 * (i * lines + l))).take 64))))

/-- The rows of a table without those of a segment. -/
def dropSegRows (seg : Nat) (r : Tab (Tab (List Byte))) : Tab (Tab (List Byte)) := r.filter (fun p => p.1 / 64 != seg)

/-- Whether the host table store can be used (R214, TBL_CTRL.HOST_EN). -/
def State.storeUp (s : State) : Bool := s.zh.attached.isSome && s.on Fd.TBL_CTRL_HOST_EN

/-- A part of a save is at most 8,152 bytes (R438). -/
def partBytes : Nat := 8152

/-- A device request goes out on mailbox 14 of the attached session (R437). -/
def State.sendDevice (s : State) (d : DeviceReq) (fields : List Nat) : State :=
  match s.zh.attached with
  | none => s
  | some k => ({ s with zh := { s.zh with devs := [d], devTag := s.zh.devTag + 1 } }).sendRequest k d.cmd s.zh.devTag fields

/-- A part of a save is sent. -/
def State.sendPart (s : State) (j : SaveJob) (off : Nat) : State :=
  let last := j.data.length ≤ off + partBytes
  let part := (j.data.drop off).take partBytes
  s.sendDevice { tag := BitVec.ofNat 32 s.zh.devTag, cmd := 0xC1, key := j.key, sentAt := s.clk.now, sent := 1, offset := off,
                 total := j.data.length, last := last }
    (j.key ++ [j.data.length, off, if last then 1 else 0] ++ part.map (·.toNat))

/-- The required segments still to be loaded, over every table, in the order of need (R194): table and segment. -/
def State.loadOrder (s : State) : List (Nat × Nat) :=
  let l := (s.tables.filter s.tblLive).flatMap (fun t =>
    ((s.needed t).filter (fun g => !s.resident t g.1 && !(s.tblOf t).loaded.contains g.1)).map (fun g => (t, g)))
  (sortBy (fun (a b : Nat × Nat × Nat) => decide (a.2.2 ≤ b.2.2)) l).map (fun p => (p.1, p.2.1))

/-- The copy of a HOT table in the last checkpoint. -/
def State.hotSaved (s : State) (t : Nat) : Option TblCopy :=
  if s.on (Fd.T_CFG_HOT t) then s.tbl.ckpt.bind (fun c => c.tables.find? (fun x => x.table == t)) else none

/-- The store's answer for a segment, where one is held. -/
def State.answerFor (s : State) (t seg : Nat) : Option StoreAnswer :=
  s.tbl.got.find? (fun r => r.key.take 5 == (s.storeKey t seg).take 5)

/-- The next segment to ask the store for: the first in the order of need that no checkpoint holds and that is not yet asked for, and then
those a standby asks for anew. -/
def State.nextLoad (s : State) : Option (Nat × Nat) :=
  (s.loadOrder.find? (fun p => (s.hotSaved p.1).isNone && (s.answerFor p.1 p.2).isNone)).or
    (s.tbl.refresh.find? (fun p => (s.answerFor p.1 p.2).isNone))

/-- The next device request, one at a time: saves before loads (R196, R194; log entry 17). -/
def State.nextDevice (s : State) : State :=
  if !s.storeUp || !s.zh.devs.isEmpty || !s.mainRuns then s else
  match s.tbl.saves.find? (fun j => j.failed.isNone) with
  | some j => s.sendPart j 0
  | none =>
    match s.nextLoad with
    | none => s
    | some (t, g) =>
      let key := (s.storeKey t g).take 5 ++ [0xFFFFFFFFFFFFFFFF]
      s.sendDevice { tag := BitVec.ofNat 32 s.zh.devTag, cmd := 0xC2, key := key, sentAt := s.clk.now, sent := 1, offset := 0,
                     total := 0, last := true } (key ++ [0, partBytes])

/-- The state with another list of saves, and with another list of the store's answers. -/
def State.setSaves (s : State) (l : List SaveJob) : State := { s with tbl := { s.tbl with saves := l } }
def State.setGot (s : State) (l : List StoreAnswer) : State := { s with tbl := { s.tbl with got := l } }

/-- A save has failed (R196): refused or unanswered. A checkpoint push that is refused fails the checkpoint. -/
def State.saveFailed (s : State) (key : List Nat) : State :=
  match s.tbl.saves.find? (fun j => j.key == key) with
  | none => s
  | some j =>
    let s := s.setSaves (s.tbl.saves.map (fun x => if x.key == key then { x with failed := some s.clk.now } else x))
    if j.push then
      let s := s.setSaves (s.tbl.saves.filter (fun x => !x.push))
      (s.set Fd.TBL_CKPT_STAT_STATE 0).raise Fd.TBL_EVT_CKPT_FAIL noObj []
    else s.raise Fd.TBL_EVT_SAVE_FAIL j.table [j.seg]

/-- A save is acknowledged (R196, R438). -/
def State.saveDone (s : State) (key : List Nat) : State :=
  match s.tbl.saves.find? (fun j => j.key == key) with
  | none => s
  | some j =>
    let s := s.setSaves (s.tbl.saves.filter (fun x => x.key != key))
    if j.push then
      if s.tbl.saves.any (·.push) then s else s.set Fd.TBL_CKPT_STAT_STATE 0
    else
      let s : State := { s with tbl := { s.tbl with
        held := s.tbl.held.map (fun h => if h.table == j.table && h.seg == j.seg then { h with saving := false } else h) } }
      if j.written ∨ (s.storeKey j.table j.seg).getD 2 0 ≠ j.key.getD 2 0 then s.freeHeld
      else (s.setTbl j.table { s.tblOf j.table with dirty := (s.tblOf j.table).dirty.filter (· != j.seg) }).freeHeld

/-- A save of a segment as it stands is queued, unless one of this content is under way. -/
def State.queueSave (s : State) (t seg : Nat) : State :=
  if s.tbl.saves.any (fun j => !j.push && j.table == t && j.seg == seg && !j.written && j.key.getD 2 0 == (s.storeKey t seg).getD 2 0) then s
  else s.setSaves (s.tbl.saves ++ [⟨t, seg, s.storeKey t seg, s.segData t seg, false, none, false⟩])

/-- SAVE_RETRY (R196): 10 s after its failure a save is tried again. -/
def execSaveRetry (s : State) : Host.Outcome State Fault Refusal :=
  .next (s.setSaves (s.tbl.saves.map (fun j =>
    if j.failed.any (fun t => decide (t + sTicks 10 ≤ s.clk.now)) then { j with failed := none } else j))).nextDevice

/-! ### Loads -/

/-- The content a load brings for a segment (R194): from the checkpoint for a HOT table, else the answer of the host table
store, else absent; none while the store has not answered. -/
def State.loadSource (s : State) (t seg : Nat) : Option (Tab (Tab (List Byte))) :=
  match s.hotSaved t with
  | some x => some (x.rows.filter (fun p => p.1 / 64 == seg))
  | none =>
    if s.storeUp then
      match s.answerFor t seg with
      | none => none
      | some r => some (r.unit.elim [] (fun u => segRows (s.rowLines t) seg u.2))
    else some []

/-- The segment whose load completes next: the first in the order of need whose source has it (R194). -/
def State.loadNow (s : State) : Option (Nat × Nat) := s.loadOrder.find? (fun p => (s.loadSource p.1 p.2).isSome)

/-- SEGMENT_LOAD_DONE (R194, R195): the load of the required segment that is next in the order of need has completed; it becomes resident at
the next frame boundary. A load that finds no space waits (R198). -/
def execSegmentLoadDone (t : Fin 4096) (seg : Fin 1048576) (s : State) : Host.Outcome State Fault Refusal :=
  .next <|
    if s.mainRuns && s.loadNow == some (t.val, seg.val) then
      match s.loadSource t seg with
      | none => s
      | some rows =>
        let placed := if (Tab.find (s.tblOf t).home seg).isSome then some s else s.place t seg
        match placed with
        | none => s.raise Fd.TBL_EVT_SPACE t [seg]
        | some s =>
          let x := s.tblOf t
          let x := { x with rows := rows.foldl (fun r p => r.put p.1 p.2) (dropSegRows seg x.rows), loaded := x.loaded ++ [seg.val],
                            cls := match s.classOf (seg % 4096) with | some c => x.cls.put seg c | none => x.cls }
          let s := s.setGot (s.tbl.got.filter (fun r => r.key.take 5 != (s.storeKey t seg).take 5))
          ((s.setTbl t x).count Reg.TBL_CNT_LOAD).showFree.nextDevice
    else s

/-- The required SLICE segments of a job's phase that are late (R199): told once per segment. -/
def State.latePhase (s : State) (j q : Nat) : State :=
  let ph := q % 256
  if (s.job j).cls ≠ some (q / 256) then s else
  (s.tables.filter (fun t => s.tblLive t && s.tblKind t == 1 && !s.on (Fd.T_CFG_REPLAY t))).foldl (fun s t =>
    ((s.members j).filter (fun a => !s.resident t (ph * 4096 + a))).foldl (fun s a =>
      (s.count Reg.TBL_CNT_LATE).raise Fd.TBL_EVT_LOAD_LATE t [ph * 4096 + a]) s) s

/-! ### The update log and its commit -/

/-- The lines a run reserves in the log (R204). -/
def logNeed (g : Img) : Nat :=
  let n := (g.stages.filter (fun d => dOp d == 6)).foldl (fun m d => max m (dbits d 2 24 8 + 1)) 0
  if n = 0 then 0 else g.updq * g.ltiles * (1 + n)

/-- The greatest log of a frame, in lines. -/
def logLines : Nat := 4194304

/-- Space for a run's worst case in the log of a frame; none where the run is log-starved (R204). -/
def reserveLog (logs : List UpdLog) (frame need : Nat) : Option (List UpdLog) :=
  match logs.find? (fun l => l.frame == frame) with
  | none => if need ≤ logLines then some (logs ++ [⟨frame, need, []⟩]) else none
  | some l =>
    if l.lines + need ≤ logLines then some (logs.map (fun x => if x.frame == frame then { x with lines := x.lines + need } else x))
    else none

/-- The records of a run that has ended join the log of its start frame, while that is open. -/
def appendLog (logs : List UpdLog) (frame : Nat) (recs : List UpdRec) : List UpdLog :=
  logs.map (fun l => if l.frame == frame then { l with recs := l.recs ++ recs } else l)

/-- The commit order (R206). -/
def recLe (a b : UpdRec) : Bool :=
  let k (r : UpdRec) : List Nat := [r.start, r.cls, r.ltile, r.stage, r.pos]
  (k a == k b) || lexLt (k a) (k b)
where
  lexLt : List Nat → List Nat → Bool
    | a :: x, b :: y => decide (a < b) || (a == b && lexLt x y)
    | _, _ => false

/-- The new value of one element (R206). -/
def updElem (rule alpha kind : Nat) (r u : Option Num) : Option Num :=
  let fit (n : Num) : Num := if kind = 2 then fit32 n.m n.e else n
  match r, u with
  | r, none => r
  | none, some u => some u
  | some r, some u =>
    if rule = 2 then some u
    else if rule = 0 then (let q := exactAdd r.m r.e u.m u.e; some (fit ⟨q.1, q.2, 0⟩))
    else
      let d := exactAdd u.m u.e (-r.m) r.e
      let q := exactAdd r.m r.e (alpha * d.1) (d.2 - 15)
      some (fit ⟨q.1, q.2, 0⟩)

/-- The lines of a sub-row, as changed so far by the commit. -/
def State.commitLines (s : State) (c : List CommitRow) (t i l0 n : Nat) : List (List Byte) :=
  (List.range' l0 n).map (fun l =>
    (c.findSome? (fun r => if r.table = t ∧ r.row = i ∧ r.line0 ≤ l then r.lines[l - r.line0]? else none)).getD (s.rowLine t i l))

/-- One record of a commit: dropped, or the changed sub-row in front of those before it (R206). -/
def State.commitRec (s : State) (frame : Nat) (acc : List CommitRow × Nat × Tab Nat) (r : UpdRec) :
    List CommitRow × Nat × Tab Nat :=
  let kind := s.tblEkind r.table
  let blocks := r.src.length
  if !s.tblLive r.table || !s.resident r.table (r.row / 64) || r.nlines != linesOf kind blocks then (acc.1, acc.2.1 + 1, acc.2.2)
  else
    let cur := rowNums (readRow kind blocks (s.commitLines acc.1 r.table r.row r.line0 r.nlines))
    let new := (cur.zip (rowNums r.src)).map (fun p => updElem r.rule r.alpha kind p.1 p.2)
    let rd := if r.rs then Rounding.stochastic r.seed frame r.stage r.ltile else .nearest
    let lines := writeRowLines kind (toRow kind true rd blocks (2048 * r.nth) new).1
    (⟨r.table, r.row, r.line0, lines⟩ :: acc.1, acc.2.1, acc.2.2.put r.table (Tab.at 0 acc.2.2 r.table + 1))

/-- The commit of a log (R206) after what was committed before it: changed sub-rows newest first, the records dropped and the records
committed per table. -/
def State.commitAfter (s : State) (acc : List CommitRow × Nat × Tab Nat) (l : UpdLog) : List CommitRow × Nat × Tab Nat :=
  (sortBy recLe l.recs).foldl (s.commitRec l.frame) acc

/-- The commit of a log (R206). -/
def State.commitLog (s : State) (l : UpdLog) : List CommitRow × Nat × Tab Nat := s.commitAfter ([], 0, []) l

/-- A sub-row is written into a table. -/
def Tbl.putLines (x : Tbl) (i l0 : Nat) (lines : List (List Byte)) : Tbl :=
  let row := (lines.zip (List.range' l0 lines.length)).foldl (fun (r : Tab (List Byte)) p => r.put p.2 p.1) (Tab.at [] x.rows i)
  { x with rows := x.rows.put i row, dirty := if x.dirty.contains (i / 64) then x.dirty else (i / 64) :: x.dirty }

/-- A table's 64-bit register pair advanced by `n`. -/
def State.addPair (s : State) (lo hi n : Nat) : State :=
  let v := (s.rd lo).toNat + 2 ^ 32 * (s.rd hi).toNat + n
  (s.wr lo (BitVec.ofNat 32 v)).wr hi (BitVec.ofNat 32 (v / 2 ^ 32))

/-- A computed commit takes effect (R207, R208, R209): the rows change, in the order of the records; a save of a segment it changes no longer
holds the segment's content. -/
def State.applyCommit (s : State) (c : Commit) : State :=
  let s := c.rows.reverse.foldl (fun s r => s.setTbl r.table ((s.tblOf r.table).putLines r.row r.line0 r.lines)) s
  let s := s.setSaves (s.tbl.saves.map (fun j =>
    if c.rows.any (fun r => r.table == j.table && r.row / 64 == j.seg) then { j with written := true } else j))
  c.recs.foldl (fun s p => s.addPair (Reg.T_LOGPOS_LO p.1) (Reg.T_LOGPOS_HI p.1) p.2) s

/-- The frame counter. -/
def State.frameNo (s : State) : Nat := s.ice.frame.toNat

/-- The batches that have not ended by tick 90 of the frame after the one they started in have their records discarded (R205). -/
def State.discardLate (s : State) : State :=
  (s.ice.batches.filter (fun b => decide (b.2.frame + 1 ≤ s.frameNo) && !b.2.out.upds.isEmpty)).foldl (fun s b =>
    let s := { s with ice := { s.ice with batches := s.ice.batches.put b.1 { b.2 with out := { b.2.out with upds := [] } },
                                          logNow := { s.ice.logNow with disc := s.ice.logNow.disc ++ [(b.1, b.2.start)] } } }
    (s.count Reg.TBL_CNT_DISC).raise Fd.TBL_EVT_COMMIT_DISC b.1 []) s

/-- TBL_LOG_USE of the log that closes, and its largest value since read. -/
def State.showLog (s : State) (n : Nat) : State :=
  (s.set Fd.TBL_LOG_USE_LINES n).set Fd.TBL_LOG_MAX_LINES (max (s.fld Fd.TBL_LOG_MAX_LINES) n)

/-- The log of the frame before closes at tick 90 and is committed into a commit buffer (R205, R206), with any log that a jump of the
sample index has left open. -/
def State.commitDue (s : State) : State :=
  if ¬ s.mainRuns then s else
  let due := s.tbl.logs.filter (fun l => decide (l.frame + 1 ≤ s.frameNo))
  let s := s.discardLate.showLog ((due.map (·.lines)).foldl (· + ·) 0)
  if due.isEmpty then s else
  let r := due.foldl s.commitAfter ([], 0, [])
  let s := s.countBy Reg.TBL_CNT_NRDROP r.2.1
  { s with tbl := { s.tbl with logs := s.tbl.logs.filter (fun l => !decide (l.frame + 1 ≤ s.frameNo)),
                               commit := some ⟨(due.map (·.frame)).foldl max 0, r.1, r.2.2⟩ } }

/-- The commit at the tick edge of tick 90 of a frame (R206). -/
def State.commitNow (s : State) : State := if s.clk.sidx.toNat % 100 = 90 then s.commitDue else s

/-- COMMIT_WRITEBACK (R207): every run that started before the boundary has ended, and the buffer is written back. -/
def execCommitWriteback (s : State) : Host.Outcome State Fault Refusal :=
  .next (if s.tbl.wback ∧ ¬ s.ice.batches.any (fun b => decide (b.2.frame < s.frameNo)) then
      { s with tbl := { s.tbl with wback := false } }.set Fd.TBL_STAT_COMMIT_LAG 0
    else s)

/-! ### Frame boundaries -/

/-- Segments of a table leave it: they are no longer resident, and their space is held (R196). -/
def State.dropSegs (s : State) (t : Nat) (l : List Nat) : State :=
  let s := l.foldl (fun s g => s.holdSpace t g (s.tbl.saves.any (fun j => !j.push && j.table == t && j.seg == g))) s
  let x := s.tblOf t
  s.setTbl t { x with rows := x.rows.filter (fun p => !l.contains (p.1 / 64)), res := x.res.filter (fun g => !l.contains g),
                      cls := x.cls.filter (fun p => !l.contains p.1), dirty := x.dirty.filter (fun g => !l.contains g) }

/-- The segments of a SLICE table that go at a boundary (R196, R197): those of another job class than their accelerator's, saved where they
were written, and those no longer required, once saved. -/
def State.evictions (s : State) (t : Nat) : State × List Nat :=
  if s.tblKind t != 1 || s.on (Fd.T_CFG_REPLAY t) then (s, []) else
  let req := s.required t
  let x := s.tblOf t
  let gone := x.res.filter (fun g => !req.contains g || s.foreign t g)
  ((gone.filter (fun g => x.dirty.contains g)).foldl (fun s g => s.queueSave t g) s,
   gone.filter (fun g => !x.dirty.contains g || s.foreign t g))

/-- Completed loads of a table take effect (R195), but for segments that have come to belong to another job class (R197). -/
def State.takeLoads (s : State) (t : Nat) : State :=
  let x := s.tblOf t
  let good := x.loaded.filter (fun g => !s.foreign t g)
  let s := s.setTbl t { x with res := if x.whole then x.res else x.res ++ good, out := x.out.filter (fun g => !good.contains g), loaded := [] }
  s.dropSegs t (x.loaded.filter (fun g => s.foreign t g))

/-- Evictions and completed loads of a table take effect (R195, R196). -/
def State.settleTable (s : State) (t : Nat) : State :=
  let e := s.evictions t
  (e.1.dropSegs t e.2).takeLoads t

/-- A table's epoch and log position take those of a copy. -/
def State.setEpoch (s : State) (t epoch logpos : Nat) : State :=
  let s := (s.wr (Reg.T_EPOCH_LO t) (BitVec.ofNat 32 epoch)).wr (Reg.T_EPOCH_HI t) (BitVec.ofNat 32 (epoch / 2 ^ 32))
  (s.wr (Reg.T_LOGPOS_LO t) (BitVec.ofNat 32 logpos)).wr (Reg.T_LOGPOS_HI t) (BitVec.ofNat 32 (logpos / 2 ^ 32))

/-- A HOT table is restored from the last checkpoint, where one holds it, and to its epoch (R215, R221, R225): the resident segments take its
content at once, and the others when they are loaded. -/
def State.restoreTable (s : State) (t : Nat) : State :=
  match s.hotSaved t with
  | none => s.setTbl t { s.tblOf t with restore := false }
  | some k =>
    let x := s.tblOf t
    let s := s.setTbl t { x with rows := k.rows.filter (fun p => !x.out.contains (p.1 / 64)), restore := false, dirty := [] }
    (s.setEpoch t k.epoch k.logpos).set (Fd.T_STAT_RESTORED t) 1

/-- Whether this module is a standby that follows the active module's pushes (R216): not in lock-step, with its main die up and the store in
reach. -/
def State.followsPushes (s : State) : Bool :=
  s.fld Fd.PAI_STAT_ROLE == 2 && !s.lsOn && s.mainRuns && s.storeUp

/-- The resident segments of HOT and SLICE tables (R216). -/
def State.pushedSegs (s : State) : List (Nat × Nat) :=
  (s.tables.filter (fun t => s.tblLive t && !s.on (Fd.T_CFG_REPLAY t) && (s.on (Fd.T_CFG_HOT t) || s.tblKind t == 1))).flatMap (fun t =>
    ((s.required t).filter (s.resident t)).map (fun g => (t, g)))

/-- A standby begins to ask the store anew for what the active module has pushed and saved, every TBL_CKPT_CFG.PERIOD (R216, log entry 93). -/
def State.askAgain (s : State) : State :=
  if s.followsPushes ∧ s.tbl.refresh.isEmpty ∧ s.tbl.askAt + sTicks (s.fld Fd.TBL_CKPT_CFG_PERIOD) ≤ s.clk.now then
    { s with tbl := { s.tbl with refresh := s.pushedSegs, askAt := s.clk.now } }
  else s

/-- A segment takes the content that the store has answered with; a HOT table takes the epoch, where it is later. -/
def State.takeAnswer (s : State) (t seg : Nat) : State :=
  match (s.answerFor t seg).bind (·.unit) with
  | none => s
  | some u =>
    let x := s.tblOf t
    let s := s.setTbl t { x with rows := (segRows (s.rowLines t) seg u.2).foldl (fun r p => r.put p.1 p.2) (dropSegRows seg x.rows),
                                 dirty := x.dirty.filter (· != seg) }
    if s.on (Fd.T_CFG_HOT t) ∧ (s.rd (Reg.T_EPOCH_LO t)).toNat + 2 ^ 32 * (s.rd (Reg.T_EPOCH_HI t)).toNat < u.1 then
      (s.wr (Reg.T_EPOCH_LO t) (BitVec.ofNat 32 u.1)).wr (Reg.T_EPOCH_HI t) (BitVec.ofNat 32 (u.1 / 2 ^ 32))
    else s

/-- At a boundary, once the store has answered for all of them, the segments a standby has asked for anew take their content together (R216,
R195). A module that has become active asks no more. -/
def State.takePushes (s : State) : State :=
  if s.tbl.refresh.isEmpty then s
  else if s.followsPushes ∧ ¬ s.tbl.refresh.all (fun p => (s.answerFor p.1 p.2).isSome) then s
  else
    let l := s.tbl.refresh
    let s := if s.followsPushes then l.foldl (fun (s : State) p => s.takeAnswer p.1 p.2) s else s
    let s := s.setGot (s.tbl.got.filter (fun r => !l.any (fun p => r.key.take 5 == (s.storeKey p.1 p.2).take 5)))
    { s with tbl := { s.tbl with refresh := [] } }

/-- The tables at a frame boundary, in the order of R208. -/
def State.tablesBoundary (s : State) : State :=
  let effect := s.tbl.commit.filter (fun c => decide (c.frame + 2 ≤ s.frameNo))
  let s := match effect with
    | none => s
    | some c => { (s.applyCommit c) with tbl := { (s.applyCommit c).tbl with commit := none, wback := true } }.set
        Fd.TBL_STAT_COMMIT_LAG 1
  let changed := s.tables.filter (fun t =>
    effect.any (fun c => Tab.has c.recs t) || !(s.evictions t).2.isEmpty || !(s.tblOf t).loaded.isEmpty)
  let restored := s.tables.filter (fun t => (s.tblOf t).restore)
  let s := s.tables.foldl State.settleTable s
  let s := changed.foldl (fun s t => s.addPair (Reg.T_EPOCH_LO t) (Reg.T_EPOCH_HI t) 1) s
  let s := restored.foldl (fun s t =>
    if (s.hotSaved t).isSome then (s.restoreTable t).addPair (Reg.T_EPOCH_LO t) (Reg.T_EPOCH_HI t) 1 else s.restoreTable t) s
  s.takePushes.askAgain.freeHeld.showFree.showTables.nextDevice

/-! ### Checkpoints -/

/-- The content of the HOT tables at this boundary. -/
def State.hotCopy (s : State) : Ckpt :=
  { frame := s.frameNo,
    tables := (s.tables.filter (fun t => s.on (Fd.T_CFG_HOT t))).map (fun t =>
      { table := t, rows := (s.tblOf t).rows, epoch := (s.rd (Reg.T_EPOCH_LO t)).toNat + 2 ^ 32 * (s.rd (Reg.T_EPOCH_HI t)).toNat,
        logpos := (s.rd (Reg.T_LOGPOS_LO t)).toNat + 2 ^ 32 * (s.rd (Reg.T_LOGPOS_HI t)).toNat }) }

/-- CHECKPOINT_START (R213): the period has passed since the end of the last checkpoint, and no sweep runs. -/
def execCheckpointStart (s : State) : Host.Outcome State Fault Refusal :=
  .next <|
    if s.on Fd.TBL_CTRL_CKPT_EN ∧ s.mainRuns ∧ s.tbl.sweep.isNone ∧
       s.tbl.ckptFrom + sTicks (s.fld Fd.TBL_CKPT_CFG_PERIOD) ≤ s.clk.now then
      ({ s with tbl := { s.tbl with sweep := some s.hotCopy } }.set Fd.TBL_STAT_CKPT_RUN 1).set Fd.TBL_CKPT_STAT_STATE 1
    else s

/-- The pushes of a completed checkpoint to the host table store (R213): every segment of its tables. -/
def State.pushJobs (s : State) (c : Ckpt) : List SaveJob :=
  c.tables.flatMap (fun k =>
    ((k.rows.map (fun p => p.1 / 64)).dedup.map (fun g =>
      let rows := (List.range' (64 * g) 64).flatMap (fun i => (List.range (s.rowLines k.table)).flatMap (fun l =>
        (Tab.find (Tab.at [] k.rows i) l).getD (absentLine (s.tblEkind k.table))))
      (⟨k.table, g, (s.storeKey k.table g).take 5 ++ [k.epoch], rows, true, none, false⟩ : SaveJob))))

/-- A sweep is abandoned (TBL_EVT.CKPT_FAIL). -/
def State.abandonSweep (s : State) : State :=
  if s.tbl.sweep.isNone then s else
  let s := { s with tbl := { s.tbl with sweep := none, ckptFrom := s.clk.now } }
  ((s.set Fd.TBL_STAT_CKPT_RUN 0).set Fd.TBL_CKPT_STAT_STATE 0).raise Fd.TBL_EVT_CKPT_FAIL noObj []

/-- CHECKPOINT_DONE (R213): a sweep has completed and replaces the previous checkpoint; it is pushed to the host table
store, and waits where the store cannot be reached (R214). A standby, which loads what the active module pushes, pushes none (R216, log entry
93). -/
def execCheckpointDone (s : State) : Host.Outcome State Fault Refusal :=
  .next <|
    match s.tbl.sweep with
    | none => s
    | some c =>
      if ¬ s.mainRuns then s else
      let push := if s.fld Fd.PAI_STAT_ROLE = 2 then [] else s.pushJobs c
      let s := { s with tbl := { s.tbl with ckpt := some c, sweep := none, ckptFrom := s.clk.now } }
      let s := s.setSaves (s.tbl.saves.filter (fun j => !j.push) ++ push)
      let s := (s.set Fd.TBL_STAT_CKPT_RUN 0).set Fd.TBL_CKPT_STAT_STATE (if push.isEmpty then 0 else 2)
      let s := (s.wr Reg.TBL_CKPT_FRM_LO (BitVec.ofNat 32 c.frame)).wr Reg.TBL_CKPT_FRM_HI (BitVec.ofNat 32 (c.frame / 2 ^ 32))
      ((s.wrap Fd.TBL_CKPT_STAT_SEQ).raise Fd.TBL_EVT_CKPT_DONE noObj []).nextDevice

/-! ### Table commands -/

/-- The checkpoint area used by HOT tables, in bytes (R212). -/
def State.hotBytes (s : State) : Nat :=
  ((s.tables.filter (fun t => s.on (Fd.T_CFG_HOT t))).map (fun t => s.tblSegs t * s.segBytes t)).foldl (· + ·) 0

/-- A table is created (R222, R187, R212): refused by LIMIT, CKPT_FULL or SPACE, else CREATING from an image or absent. -/
def State.createTable (s : State) (t handle : Nat) : State :=
  if s.fld (Fd.T_STAT_STATE t) ≠ 0 then s else
  let slice := s.tblKind t = 1
  let size := s.tblSegs t * s.segBytes t
  let fail (e : Nat) : State := s.set (Fd.T_STAT_ERR t) e
  let badRows : Bool := s.tblKind t == 4 && (decide (s.tblRows t < 64) || decide (67108864 < s.tblRows t) || s.tblRows t % 64 != 0)
  if 256 ≤ s.tables.length ∨ badRows ∨ (slice ∧ 16 ≤ (s.tables.filter (fun u => s.tblKind u == 1)).length) then fail 2
  else if s.on (Fd.T_CFG_HOT t) ∧ 32 * 2 ^ 30 < s.hotBytes + size then fail 4
  else
    let base := { Tbl.empty with whole := !slice && !s.on (Fd.T_CFG_REPLAY t), image := if handle = 0 then none else some handle }
    let s0 := (s.set (Fd.T_STAT_ERR t) 0).set (Fd.T_STAT_RESTORED t) 0
    let s1 := ((((s0.wr (Reg.T_EPOCH_LO t) 0).wr (Reg.T_EPOCH_HI t) 0).wr (Reg.T_LOGPOS_LO t) 0).wr (Reg.T_LOGPOS_HI t) 0).setTbl t base
    match if base.whole then s1.placeAll t (s1.tblSegs t) else some s1 with
    | none => fail 1
    | some s2 =>
      let s2 := s2.set (Fd.T_STAT_STATE t) (if handle = 0 then 2 else 1)
      let s2 := s2.set Fd.TBL_HOT_USE_MIB ((s2.hotBytes + 1048575) / 1048576)
      (if handle = 0 then s2.showTable t else s2).showFree

/-- A table ceases to exist: its space is freed, its saves and records are not made, and its words read as after reset, its configuration
kept. -/
def State.dropTable (s : State) (t : Nat) : State :=
  let s : State := (s.tblOf t).home.foldl (fun s p => s.unplace t p.1) s
  let s : State := (s.tbl.held.filter (fun h => h.table == t)).foldl (fun s h => s.giveSpace h.stack h.bytes) s
  let s : State := { s with tbl := { s.tbl with
    tbl := s.tbl.tbl.del t, saves := s.tbl.saves.filter (fun j => j.table != t), held := s.tbl.held.filter (fun h => h.table != t),
    logs := s.tbl.logs.map (fun l => { l with recs := l.recs.filter (fun r => r.table != t) }),
    commit := s.tbl.commit.map (fun c => { c with rows := c.rows.filter (fun r => r.table != t), recs := c.recs.del t }) } }
  let s := (s.wr (Reg.T_STAT t) 0).wr (Reg.T_SEGS t) 0
  let s := (s.wr (Reg.T_SEGREQ t) 0).wr (Reg.T_MIB t) 0
  (s.set Fd.TBL_HOT_USE_MIB ((s.hotBytes + 1048575) / 1048576)).showFree

/-- What a write of T_CMD does (R222, R225). -/
def State.tableCmd (t : Nat) (v : Word) (s : State) : State :=
  match fieldOf v 0 4 with
  | 1 => s.createTable t (fieldOf v 16 16)
  | 2 => if s.fld (Fd.T_STAT_STATE t) = 0 then s else if s.bound t then s.set (Fd.T_STAT_ERR t) 3 else s.dropTable t
  | 4 => ((s.tblOf t).dirty.foldl (fun s g => s.queueSave t g) s).nextDevice
  | 8 => if s.on (Fd.T_CFG_HOT t) ∧ s.tblLive t then s.setTbl t { s.tblOf t with restore := true } else s
  | _ => s

/-- T_CMD: more than one of bits [3:0] is a reserved encoding. -/
def crossTable (s : State) (a : Nat) (v : Word) : Bool :=
  if 0x010000 ≤ offsetOf a then
    match offsetOf a % 0x40 with
    | 0x08 => fieldOf v 0 4 == 0 || fieldOf v 0 4 == 1 || fieldOf v 0 4 == 2 || fieldOf v 0 4 == 4 || fieldOf v 0 4 == 8
    | 0x00 => decide (fieldOf v 0 3 ≤ 4) && fieldOf v 3 2 != 3 && (fieldOf v 13 1 == 0 || fieldOf v 0 3 != 1) &&
              (if fieldOf v 0 3 = 3 then decide (fieldOf v 24 4 ≤ 8) else fieldOf v 24 4 == 0)
    | 0x04 => decide (64 ≤ v.toNat) && decide (v.toNat ≤ 67108864) && v.toNat % 64 == 0
    | _ => true
  else if a = Reg.TBL_HOST_BW then
    decide (1 ≤ v.toNat % 128) && decide (v.toNat % 128 ≤ if s.fld Fd.SYS_ID_VARIANT = 3 then 100 else 50)
  else true

/-- A write of T_CMD by a register-write row. -/
def State.tableRow_ (s : State) (w t cmd : Nat) : State :=
  s.writeRow w (Reg.T_CMD t) (BitVec.ofNat 32 cmd) (crossTable s (Reg.T_CMD t) (BitVec.ofNat 32 cmd))
    (State.tableCmd t (BitVec.ofNat 32 cmd))

/-- TABLE_CREATE (R222). -/
def execTableCreate (w : Fin 8) (t : Fin 4096) (handle : BitVec 16) (s : State) : Host.Outcome State Fault Refusal :=
  .next (s.tableRow_ w t (1 + 65536 * handle.toNat))

/-- TABLE_DELETE (R225). -/
def execTableDelete (w : Fin 8) (t : Fin 4096) (s : State) : Host.Outcome State Fault Refusal := .next (s.tableRow_ w t 2)

/-- TABLE_SAVE (R225). -/
def execTableSave (w : Fin 8) (t : Fin 4096) (s : State) : Host.Outcome State Fault Refusal := .next (s.tableRow_ w t 4)

/-- TABLE_RESTORE (R225). -/
def execTableRestore (w : Fin 8) (t : Fin 4096) (s : State) : Host.Outcome State Fault Refusal := .next (s.tableRow_ w t 8)

/-- Whether an LMS signature verifies: the key is of a type of Table 1 of chapter 13 (R519): LMS H10, H15 or H20, with LMOTS W4 or W8. -/
def lmsOk (key msg sig : List Byte) : Bool :=
  decide (6 ≤ beAt key 0 4) && decide (beAt key 0 4 ≤ 8) && (beAt key 4 4 == 3 || beAt key 4 4 == 4) && Config.lmsVerify key msg sig

/-- Whether the SIG of an image verifies (R535): the program key entry it names is valid and signs the 32-byte HASH. -/
def State.sigOk (s : State) (hash sig : List Byte) : Bool :=
  let k := leAt sig 0 1
  decide (k < 16) && s.on (Fd.PK_CFG_VALID k) &&
  lmsOk (Tab.at [] s.sec.pkey k) hash (sig.drop 4)

/-- Listed segments of a table take their home stacks (R202). -/
def State.placeSegs (s : State) (t : Nat) (l : List Nat) : Option State := l.foldl (fun r g => r.bind (fun s => s.place t g)) (some s)

/-- A closed object of the image store by its handle. -/
def State.object (s : State) (h kind : Nat) : Option StoreObj :=
  (Tab.find s.zh.store h).filter (fun o => o.closed && o.kind == kind)

/-- The bytes of an object. -/
def StoreObj.bytes (o : StoreObj) : List Byte := (List.range o.size).map (fun i => Tab.at 0 o.data i)

/-- TABLE_CREATE_DONE (R225): the creation from an image completes: READY or PARTIAL with the image's rows, or FAULT with
IMAGE, the table then holding no rows. The segments of a SLICE table are those of its accelerators' job classes (R189), and are saved before
they are evicted; a table whose segments find no room is not created. A table image ends in its 32-byte HASH and SIG like a program image (R535); where
they lie is read from the end of the object (log entry 14). -/
def execTableCreateDone (t : Fin 4096) (s : State) : Host.Outcome State Fault Refusal :=
  .next <|
    if s.fld (Fd.T_STAT_STATE t) ≠ 1 ∨ ¬ s.mainRuns then s else
    match (s.tblOf t).image.bind (fun h => s.object h 2) with
    | none => (s.set (Fd.T_STAT_STATE t) 4).set (Fd.T_STAT_ERR t) 5
    | some o =>
      let bs := o.bytes
      let body := (Config.imageSegments bs)
      let n := (Config.imageEpoch bs)
      if s.sigOk o.hash (Config.imageLine bs (2 ^ 32) 0) then
        let rows : Tab (Tab (List Byte)) := body.flatMap (fun g => (List.range' (64 * g) 64).map (fun i =>
          (i, (List.range (s.rowLines t)).map (fun l => (l, Config.imageLine bs i l)))))
        let whole := (s.tblOf t).whole
        match if whole then some s else s.placeSegs t body with
        | none => (s.dropTable t).set (Fd.T_STAT_ERR t) 1
        | some s =>
          let x := s.tblOf t
          let live := s.tblKind t = 1 ∧ ¬ s.on (Fd.T_CFG_REPLAY t)
          let s := s.setTbl t { x with rows := rows.foldl (fun r p => r.put p.1 p.2) [], res := if whole then [] else body, image := none,
                                       dirty := if live then body else [],
                                       cls := if live then body.filterMap (fun g => (s.classOf (g % 4096)).map (fun c => (g, c))) else [] }
          let s := if s.on (Fd.T_CFG_REPLAY t) then s.setEpoch t n.1 n.2 else s
          ((s.set (Fd.T_STAT_STATE t) 2).showTable t).showFree
      else
        let s := s.setTbl t { s.tblOf t with rows := [], res := [], whole := false, image := none }
        (s.set (Fd.T_STAT_STATE t) 4).set (Fd.T_STAT_ERR t) 5

/-! ### Losses -/

/-- A segment is lost (R221): counted and recorded. A required one is reloaded by R194 onto a stack with free space, and one not required is
dropped; a HOT table is restored from its checkpoint at the next boundary. -/
def State.loseSegment (s : State) (t seg : Nat) : State :=
  let s := s.unplace t seg
  let x := s.tblOf t
  let s := s.setTbl t { x with rows := dropSegRows seg x.rows, res := x.res.filter (· != seg), loaded := x.loaded.filter (· != seg),
                               out := if x.whole && !x.out.contains seg then x.out ++ [seg] else x.out,
                               dirty := x.dirty.filter (· != seg), cls := x.cls.del seg, restore := x.restore || (s.hotSaved t).isSome }
  (s.count Reg.TBL_CNT_LOST).raise Fd.TBL_EVT_SEG_LOST t [seg]

/-- The segments whose home is a stack. -/
def State.segsOn (s : State) (k : Nat) : List (Nat × Nat) :=
  s.tables.flatMap (fun t => ((s.tblOf t).home.filter (fun p => p.2 == k)).map (fun p => (t, p.1)))

/-- A stack is lost (R220): its segments, and its capacity with the space that evicted segments held there. -/
def State.loseStack (s : State) (k : Nat) : State :=
  let gone := s.segsOn k
  let s := s.set (Fd.STK_STAT_STATE k) 3
  let s := gone.foldl (fun s p => s.loseSegment p.1 p.2) s
  let s := { s with tbl := { s.tbl with free := s.tbl.free.put k 0, held := s.tbl.held.filter (fun h => h.stack != k) } }
  s.raise Fd.TBL_EVT_STACK_LOST k []

/-- Whether the main die trains its stacks: it is powered and released, and does not run yet. -/
def State.training (s : State) : Bool := s.sys.mainPowered && !s.sys.mainHeld && !s.mainRuns

/-- Whether a pseudo-channel is retired now (R218): an error has made it due, or it fails training at start-up. -/
def State.pcFails (s : State) (k pc : Nat) : Bool :=
  decide (k < stackCount) && s.fld (Fd.STK_STAT_STATE k) != 3 && (s.training || (s.mainRuns && s.tbl.pcDue.contains (k, pc)))

/-- A pseudo-channel of a stack is retired (R218, R219): the first of a stack goes into the spare areas, and the segments with a line that
cannot be read, named here, are lost; a further one loses the segments with a line on it and 1,000 MiB. At 8 the stack is lost (R220). -/
def State.retirePc (s : State) (k pc : Nat) (unread : List (Nat × Nat)) : State :=
  let n := s.fld (Fd.STK_STAT_PC_RET k) + 1
  let first := ¬ s.on (Fd.STK_STAT_SPARE_USED k)
  let s := { s with tbl := { s.tbl with pcDue := s.tbl.pcDue.filter (· != (k, pc)), pcErrs := s.tbl.pcErrs.del (k * 64 + pc) } }
  let s := s.blowFuse 2 2 k pc (if first then 64 else 255)
  let s := ((s.set (Fd.STK_STAT_PC_RET k) n).set (Fd.STK_STAT_STATE k) 2).raise Fd.TBL_EVT_PC_RETIRED k [pc]
  let gone := (s.segsOn k).filter (fun p => if first then unread.contains p else s.linesOn p.1 pc)
  let s := gone.foldl (fun s p => s.loseSegment p.1 p.2) s
  let s := if first then
      ((s.set (Fd.STK_STAT_SPARE_USED k) 1).set (Fd.STK_PCMAP_PC k) pc).set (Fd.STK_PCMAP_VALID k) 1
    else match Tab.find s.tbl.free k with
      | some b => { s with tbl := { s.tbl with free := s.tbl.free.put k (b - 1000 * 1048576) } }
      | none => s
  if 8 ≤ n then s.loseStack k else s

/-- PC_RETIRED (R218, R219): pseudo-channel `pc` of a stack is retired. -/
def execPcRetired (stack : Fin 12) (pc : Fin 64) (lost : List (Fin 4096 × Fin 1048576)) (s : State) :
    Host.Outcome State Fault Refusal :=
  .next (if s.pcFails stack pc then (s.retirePc stack pc (lost.map (fun p => (p.1.val, p.2.val)))).showFree.showTables else s)

/-- STACK_LOST (R220): the stack fails training, loses power-good or trips thermally. -/
def execStackLost (stack : Fin 12) (s : State) : Host.Outcome State Fault Refusal :=
  .next (if stackCount ≤ stack.val ∨ s.fld (Fd.STK_STAT_STATE stack) = 3 ∨ ¬ (s.mainRuns ∨ s.training) then s
    else (s.loseStack stack).showFree.showTables)

/-- A corrected error of a pseudo-channel (R218): more than 64 in 1 h make it due for retirement. -/
def State.pcCorrected (s : State) (k pc : Nat) : State :=
  let key := k * 64 + pc
  let l := s.clk.now :: (Tab.at [] s.tbl.pcErrs key).filter (fun t => decide (s.clk.now < t + sTicks 3600))
  let s := { s with tbl := { s.tbl with pcErrs := s.tbl.pcErrs.put key l } }.count (Reg.STK_CORR k)
  if 64 < l.length then { s with tbl := { s.tbl with pcDue := s.tbl.pcDue ++ [(k, pc)] } } else s

/-- An uncorrectable error of a pseudo-channel makes it due for retirement (R218). -/
def State.pcUncorrected (s : State) (k pc : Nat) : State := { s with tbl := { s.tbl with pcDue := s.tbl.pcDue ++ [(k, pc)] } }

/-- A stack at the start-up that follows a main-die reset: it trains again, with the pseudo-channels retired so far; 8 of them leave it lost
(R220, log entry 84). -/
def State.retrain (s : State) (k : Nat) : State :=
  if s.fld (Fd.STK_STAT_STATE k) ≠ 3 ∨ 8 ≤ s.fld (Fd.STK_STAT_PC_RET k) then s
  else s.set (Fd.STK_STAT_STATE k) (if s.fld (Fd.STK_STAT_PC_RET k) = 0 then 1 else 2)

/-- A table after a main-die reset (R215): it holds nothing; a whole table keeps its space, and loads again. A HOT table that the
checkpoint holds is restored to its epoch. -/
def State.emptyTable (s : State) (t : Nat) : State :=
  let x := s.tblOf t
  let s := s.setTbl t { x with rows := [], res := [], loaded := [], dirty := [], cls := [], home := if x.whole then x.home.filter (fun p => s.fld (Fd.STK_STAT_STATE p.2) != 3) else [],
                               out := if x.whole then List.range (s.tblSegs t) else [] }
  if (s.hotSaved t).isSome then s.restoreTable t else s

/-- The free bytes of every stack with the space of the tables' segments taken (R201). -/
def State.recount (s : State) : State :=
  let s := { s with tbl := { s.tbl with free := [], held := [] } }
  s.tables.foldl (fun s t => (s.tblOf t).home.foldl (fun s p =>
    { s with tbl := { s.tbl with free := s.tbl.free.put p.2 (s.stackFree p.2 - s.segBytes t) } }) s) s

/-- The tables after a main-die reset (R215): the stacks train again and have lost their content; HOT tables reload from the checkpoint and
the others from the host table store. -/
def State.tablesReset (s : State) : State :=
  let s := { s with tbl := { s.tbl with logs := [], commit := none, wback := false, sweep := none, saves := [], got := [], pcDue := [] } }
  let s := ((s.set Fd.TBL_STAT_COMMIT_LAG 0).set Fd.TBL_STAT_CKPT_RUN 0).set Fd.TBL_CKPT_STAT_STATE 0
  let s := (List.range stackCount).foldl State.retrain s
  (s.tables.foldl State.emptyTable s).recount

end Sys2Proof.Machine
end

