-- ==== Sys2Proof/Machine/Icefield.lean ====
section
/-! DEFINITION. Icefield control (chapter 04): slots and their verification (R166, R167), the switch and its checks (R168,
R169), partitions (R146), frame runs (R172, R173), kernel batches (R174), memory errors (R175), spares (R180), replay (R181
to R183), and the stream commit's admission (R122, R169). -/

namespace Sys2Proof.Machine

/-! ### Partitions and the switch checks -/

def kTiles (p : Word) : Nat := fieldOf p 0 7
def rTiles (p : Word) : Nat := fieldOf p 8 7

/-- The engine tiles in service in a range (R180). -/
def State.tilesIn (s : State) (lo n : Nat) : Nat :=
  ((List.range' lo n).filter (fun t => s.on (Fd.TILE_STAT_INSERVICE t))).length

/-- The engine tiles of the frame partition under a partition word (R146). -/
def State.frameTiles (s : State) (p : Word) : Nat := s.tilesIn (kTiles p) (64 - kTiles p - rTiles p)

/-- The charged updates per second of a class (R120). -/
def classUpdates (cfg : List (Nat × Word)) (c : Nat) : Nat :=
  (cfg.filter (fun p => fieldOf p.2 0 1 == 1 && fieldOf p.2 1 3 == c)).length * classCharge c

/-- The stream configuration in force. -/
def State.streamCfg (s : State) : List (Nat × Word) := s.enabledStreams.map (fun i => (i, s.rd (Reg.STM_CFG i)))

/-- The peak line rate: 40 × 10⁹ per stack in service (Table 11, R220), less 1/64 for each pseudo-channel that the others carry (R219). -/
def State.peakLines (s : State) : Nat :=
  (((List.range stackCount).filter (fun k => s.fld (Fd.STK_STAT_STATE k) != 3)).map (fun k => 625000000 * (64 - s.carried k))).foldl (· + ·) 0

/-- An active set: slot and image by role. -/
abbrev ActiveSet := List (Nat × Img)

/-- The active set in force. -/
def State.activeSet (s : State) : ActiveSet := s.activeSlots.filterMap (fun k => (s.slotImg k).map (fun g => (k, g)))

/-- The active set after a slot has taken its role (R168). -/
def State.setWith (s : State) (k : Nat) (g : Img) : ActiveSet := (k, g) :: s.activeSet.filter (fun p => p.2.role != g.role)

def State.isExact (s : State) (k : Nat) : Bool := s.on (Fd.SLOT_CFG_EXACT k)

/-- OVER_TIME of Table 9, for the frame program and for the kernels. -/
def State.overTime (s : State) (act : ActiveSet) (p : Word) (cfg : List (Nat × Word)) : Bool :=
  act.any (fun x => x.2.role == 0 &&
    (s.frameTiles p == 0 ||
     decide (9 * 1560000 * 8 * (if s.isExact x.1 then 55 else 100) <
       x.2.wcc * ((x.2.ltiles + s.frameTiles p - 1) / s.frameTiles p) * 10 * 100))) ||
  decide (11 * 9 * s.tilesIn 0 (kTiles p) * 8 * 2000000000 < 10 *
    ((act.filter (fun x => decide (1 ≤ x.2.role) && decide (x.2.role ≤ 5))).map (fun x =>
      classUpdates cfg (x.2.role - 1) * x.2.wcc * (if s.isExact x.1 then 20 else 11))).foldl (· + ·) 0)

/-- OVER_BANDWIDTH of Table 9. -/
def State.overBandwidth (s : State) (act : ActiveSet) (cfg : List (Nat × Word)) : Bool :=
  decide (85 * s.peakLines < 100 * (act.map (fun x =>
    if x.2.role = 0 then x.2.wreq * 1000
    else if x.2.role ≤ 5 then classUpdates cfg (x.2.role - 1) * x.2.wreq else 0)).foldl (· + ·) 0)

/-- OVER_QUOTA of Table 9. -/
def overQuota (act : ActiveSet) : Bool :=
  decide (262144 < ((act.filter (fun x => decide (x.2.role ≤ 5))).map (fun x => x.2.updq * x.2.ltiles)).foldl (· + ·) 0)

/-- TABLES of Table 9 for an image (R168, R210): every bound table exists, at a level that differs by at most one, and is a
replay copy for a REPLAY image only. -/
def State.tablesOk (s : State) (g : Img) : Bool :=
  g.tabs.all (fun b => s.tblLive b.1 && decide (s.fld (Fd.T_CFG_LEVEL b.1) ≤ b.2 + 1) && decide (b.2 ≤ s.fld (Fd.T_CFG_LEVEL b.1) + 1) &&
    (s.on (Fd.T_CFG_REPLAY b.1) == (g.role == 6)))

/-- GRANT of Table 9: every granted loop slot accepts feed-forward (LP_ACFG0). -/
def State.grantsOk (s : State) (g : Img) : Bool :=
  g.grants.all (fun i => s.on (Fd.LP_ACFG0_EN i) && (s.on (Fd.LP_ACFG0_FFH_EN i) || s.on (Fd.LP_ACFG0_FFS_EN i)))

/-- The result of the switch checks for an active set (Table 9): 1 OK, or the first failed check. -/
def State.switchResult (s : State) (act : ActiveSet) (p : Word) (cfg : List (Nat × Word)) : Nat :=
  if act.any (fun x => x.2.exactReq && !s.isExact x.1) then 3
  else if s.overTime act p cfg then 4
  else if s.overBandwidth act cfg then 5
  else if overQuota act then 6
  else if !act.all (fun x => s.tablesOk x.2) then 7
  else if !act.all (fun x => s.grantsOk x.2) then 8 else 1

/-- IFD_STAT.FIT and its loss without a command (R169, R220). -/
def State.judgeFit (s : State) : State :=
  let fit := s.switchResult s.activeSet s.ice.part s.streamCfg = 1
  let was := s.on Fd.IFD_STAT_FIT
  let s := s.setB Fd.IFD_STAT_FIT fit
  if was ∧ ¬ fit then s.raise Fd.IFD_EVT_FIT_LOST noObj [] else s

/-- STREAM_COMMIT (R122, R169): a write of STM_CMT.GO = 1. -/
def execStreamCommit (w : Fin 8) (s : State) : Host.Outcome State Fault Refusal :=
  .next (s.writeRow w Reg.STM_CMT 1 true (fun s =>
    s.streamGo (!s.overTime s.activeSet s.ice.part s.stagedCfg && !s.overBandwidth s.activeSet s.stagedCfg)))

/-! ### Slots -/

def State.setSlot (s : State) (k : Nat) (x : Slot) : State := { s with ice := { s.ice with slots := s.ice.slots.put k x } }
def State.delSlot (s : State) (k : Nat) : State := { s with ice := { s.ice with slots := s.ice.slots.del k } }

/-- The words that show a slot's image, or their reset values. -/
def State.showSlot (s : State) (k : Nat) (g : Option Img) : State :=
  let s := (s.set (Fd.SLOT_STAT_ROLE k) (g.elim 0 (·.role))).set (Fd.SLOT_STAT_LTILES k) (g.elim 0 (·.ltiles))
  let s := s.wr (Reg.SLOT_WCC k) (BitVec.ofNat 32 (g.elim 0 (·.wcc)))
  let s := s.wr (Reg.SLOT_WREQ k) (BitVec.ofNat 32 (g.elim 0 (·.wreq)))
  let s := s.wr (Reg.SLOT_UPDQ k) (BitVec.ofNat 32 (g.elim 0 (·.updq)))
  let ws := (g.elim [] (fun g => leWords g.hash))
  (List.range 8).foldl (fun s j => s.wr (Reg.SLOT_HASH k j) (ws.getD j 0)) s

/-- The error of an image's verification (R167): 0 none, 1 SIGNATURE, 2 FORMAT, 3 BOUNDS, 4 ALVL. -/
def State.imageError (s : State) (bs : List Byte) : Nat :=
  let n := imageSize bs
  let hash := (bs.drop n).take 32
  if Config.sha256 (bs.take n) ≠ hash ∨ ¬ s.sigOk hash (bs.drop (n + 32)) then 1
  else if ¬ imageFormatOk bs (s.fld Fd.IFD_ALVL_IMG_MIN) (s.fld Fd.IFD_ALVL_IMG_MAX) then 2
  else if ¬ imageBoundsOk (parseImage bs) then 3
  else if (parseImage bs).alvl ≠ s.fld Fd.IFD_ALVL_ALVL then 4 else 0

/-- A write of SLOT_CMD (R167, R186). -/
def State.slotCmd (k : Nat) (v : Word) (s : State) : State :=
  if fieldOf v 0 2 = 0 then s
  else if s.fld (Fd.SLOT_STAT_STATE k) = 3 then s.set (Fd.SLOT_STAT_LOAD_ERR k) 5
  else if fieldOf v 0 2 = 1 then
    ((s.set (Fd.SLOT_STAT_STATE k) 1).set (Fd.SLOT_STAT_LOAD_ERR k) 0).setSlot k ⟨fieldOf v 16 16, s.slotImg k⟩
  else ((s.set (Fd.SLOT_STAT_STATE k) 0).set (Fd.SLOT_STAT_LOAD_ERR k) 0).showSlot k none |>.delSlot k

/-- SLOT_LOAD (R167). -/
def execSlotLoad (w : Fin 8) (slot : Fin 16) (handle : BitVec 16) (s : State) : Host.Outcome State Fault Refusal :=
  let v := BitVec.ofNat 32 (1 + 65536 * handle.toNat)
  .next (s.writeRow w (Reg.SLOT_CMD slot) v true (State.slotCmd slot v))

/-- SLOT_UNLOAD (R186). -/
def execSlotUnload (w : Fin 8) (slot : Fin 16) (s : State) : Host.Outcome State Fault Refusal :=
  .next (s.writeRow w (Reg.SLOT_CMD slot) 2 true (State.slotCmd slot 2))

/-- SLOT_VERIFY_DONE (R167): the slot becomes LOADED, or REFUSED with its error; an image it held before stays. A handle that names no
PROGRAM object has no signature. -/
def execSlotVerifyDone (slot : Fin 16) (s : State) : Host.Outcome State Fault Refusal :=
  .next <|
    if s.fld (Fd.SLOT_STAT_STATE slot) ≠ 1 ∨ ¬ s.mainRuns then s else
    let h := (Tab.find s.ice.slots slot).elim 0 (·.handle)
    let bs := (s.object h 1).elim [] StoreObj.bytes
    let e := if (s.object h 1).isNone then 1 else s.imageError bs
    if e = 0 then
      let g := parseImage bs
      ((s.set (Fd.SLOT_STAT_STATE slot) 2).setSlot slot ⟨h, some g⟩).showSlot slot (some g)
    else
      (s.set (Fd.SLOT_STAT_STATE slot) 4).set (Fd.SLOT_STAT_LOAD_ERR slot) e

/-- A write of IFD_SWITCH with GO = 1 (R168). -/
def State.switchGo (v : Word) (s : State) : State :=
  if fieldOf v 31 1 = 0 then s else
  let k := fieldOf v 0 4
  let result (r : Nat) : State := s.set Fd.IFD_SW_STAT_RESULT r
  if s.ice.switch.isSome then result 9 else
  match s.slotImg k with
  | some g =>
    if s.fld (Fd.SLOT_STAT_STATE k) ≠ 2 then result 2 else
    let r := s.switchResult (s.setWith k g) s.ice.part s.streamCfg
    if r = 1 then { (result 1).set Fd.IFD_SW_STAT_PENDING 1 with ice := { s.ice with switch := some (k, s.clk.now) } } else result r
  | none => result 2

/-- IFD_SWITCH (R168). -/
def execIfdSwitch (w : Fin 8) (slot : Fin 16) (s : State) : Host.Outcome State Fault Refusal :=
  let v := BitVec.ofNat 32 (2 ^ 31 + slot.val)
  .next (s.writeRow w Reg.IFD_SWITCH v true (State.switchGo v))

/-- A slot becomes the active slot of its image's role (R168, R170). -/
def State.activate (s : State) (k : Nat) : State :=
  match s.slotImg k with
  | none => s
  | some g =>
    let old := s.activeSlots.filter (fun j => (s.slotImg j).any (fun h => h.role == g.role))
    let s := old.foldl (fun s j => s.set (Fd.SLOT_STAT_STATE j) 2) s
    let s := s.set (Fd.SLOT_STAT_STATE k) 3
    if g.role = 0 then s.set Fd.IFD_STAT_FSLOT k else s

/-- A write of IFD_PART (R146, R169): refused with OVER_TIME where the active set would not fit. -/
def State.partWrite (v : Word) (s : State) : State :=
  if s.overTime s.activeSet v s.streamCfg || s.overBandwidth s.activeSet s.streamCfg then s.set Fd.IFD_SW_STAT_RESULT 4
  else s.wr Reg.IFD_PART (v &&& 0x7F7F)

/-- IFD_: encodings reserved across fields. -/
def crossIce (a : Nat) (v : Word) : Bool :=
  if a = Reg.IFD_PART then decide (kTiles v + rTiles v ≤ 63)
  else if 0x03010000 ≤ a ∧ a < 0x03010400 ∧ a % 0x40 = 0x08 then fieldOf v 0 2 != 3 else true

/-- IFD_PART_WRITE (R169). -/
def execIfdPartWrite (w : Fin 8) (value : Word) (s : State) : Host.Outcome State Fault Refusal :=
  .next (s.writeRow w Reg.IFD_PART value (crossIce Reg.IFD_PART value) (State.partWrite value))

/-! ### Inputs of a run -/

/-- An element of IN_STREAM by format (R165): exponent −7 for T16, −5 for P16, 0 for S16 and MARK; absent for a code above every 16-bit value
(R109). -/
def streamElem (fmt code : Nat) : Option Num :=
  if 65536 ≤ code then none else
  match fmt with
  | 0 => (tempOf code).map (fun m => ⟨m, -7, 0⟩)
  | 1 => if code = noPower then none else some ⟨code, -5, 0⟩
  | _ => some ⟨code, 0, 0⟩

/-- Whole numbers as elements of an input row. -/
def intRow (l : List (Option Int)) : List (Option Num) := l.map (fun x => x.map (fun m => ⟨m, 0, 0⟩))

/-- A 32-bit word as a signed element, absent for the absent code. -/
def wordElem (v : Nat) : Option Int := if v % 2 ^ 32 = 2 ^ 31 then none else some (signedOf 32 (v % 2 ^ 32))

/-- The streams of a batch, in order. -/
def batchStreams (l : List BatchSample) : List Nat := (l.map (·.sid)).dedup

/-- The format of a stream as a run sees it: with its samples in the batch, or with its latched value (R178). -/
def fmtIn (i : Inputs) (batch : List BatchSample) (sid : Nat) : Nat :=
  match batch.find? (fun x => x.sid == sid) with
  | some x => x.fmt
  | none => (Tab.find i.strm sid).elim 0 (·.1)

/-- The input buffers of a run (Table 7; log entry 16). -/
def inputBuf (g : Img) (i : Inputs) (batch : List BatchSample) (kst : Tab (List Byte)) (b : Nat) : Rows :=
  match b with
  | 0xF0 => (List.range 4096).map (fun a => (List.range 64).map (fun c =>
      (Tab.find i.strm (a * 64 + c)).bind (fun p => streamElem p.1 p.2)))
  | 0xF1 => (List.range 2).map (fun r => (List.range 2048).map (fun c =>
      (Tab.find i.pair (r * 2048 + c)).map (fun m => ⟨m, -7, 0⟩)))
  | 0xF2 => (List.range 256).map (fun j => intRow (Tab.at [none, none, none, none, none] i.job j))
  | 0xF3 => (List.range 128).map (fun l => intRow (Tab.at [none, none, some 0, some 0] i.loop l))
  | 0xF4 => batch.map (fun x =>
      [some ⟨x.sid, 0, 0⟩, streamElem x.fmt x.value, (wordElem x.idx).map (fun m => ⟨m, 0, 0⟩), some ⟨x.pos, 0, 0⟩])
  | 0xF5 => (batchStreams batch).map (fun i => (List.range 16).map (fun w =>
      (wordElem (leAt (Tab.at (List.replicate 64 0) kst i) (4 * w) 4)).map (fun m => ⟨m, 0, 0⟩)))
  | 0xF6 => [g.horizon.map (fun (h : Nat) => (some ⟨h, 0, 0⟩ : Option Num))]
  | _ => []

/-- The stream values, pair values and job elements at an edge (R165). The loop values are added by the frame boundary. -/
def State.latchInputs (s : State) (loops : Tab (List (Option Int))) : Inputs :=
  { strm := s.enabledStreams.map (fun i =>
      let fmt := s.fld (Fd.STM_CFG_FMT i)
      (i, (fmt, elemCode fmt (s.fld (Fd.SV_VAL_QUAL i)) (s.fld (Fd.SV_VAL_VALUE i))))),
    pair := s.stm.pairVal.filterMap (fun p => p.2.1.map (fun v => (p.1, v))),
    job := (s.jobs.filter (fun p => s.jobState p.1 != 0)).map (fun p =>
      (p.1, [wordElem p.2.step.toNat, some p.2.angle, some (p.2.period / 1000), some (s.jobState p.1), p.2.phase.map (·)])),
    loop := loops, inmap := s.rd Reg.LOP_INMAP }

/-- The environment of a run, started at a tick. -/
def State.runEnv (s : State) (k : Nat) (g : Img) (counter cls : Nat) (i : Inputs) (batch : List BatchSample)
    (kst : Tab (List Byte)) : RunEnv :=
  { img := g, exact_ := s.isExact k, counter := counter, input := inputBuf g i batch kst, fmt := fmtIn i batch,
    row := fun t r l n => s.tableRow t r l n, ekind := s.tblEkind, start := s.clk.sidx.toNat, cls := cls }

/-- The kernel state a run has written, by stream of the batch (R165; log entry 16): 16 words of 32 bits, least significant byte first. -/
def kstOut (r : RunSt) (ltiles : Nat) (batch : List BatchSample) : Tab (List Byte) :=
  match (List.range ltiles).reverse.findSome? (fun lt => Tab.find r.bufs (lt * 256 + 0xF5)) with
  | none => []
  | some rows => ((batchStreams batch).zip rows).foldl (fun (t : Tab (List Byte)) p =>
      t.put p.1 (p.2.flatMap (fun n => leBytes 4 (n.elim (2 ^ 31) (fun n => patternOf 32 n.m))))) []

/-- A run's outcome; its free values are used up. -/
def State.runOn (s : State) (v : RunEnv) (batch : List BatchSample) : RunOut × State :=
  let r := runImage v s.fresh
  ({ r.out with kst := kstOut r v.img.ltiles batch }, { s with fresh := r.out.free })

/-- A run reserves log space in the frame that is open, or is log-starved and writes no records (R204). -/
def State.reserveRun (s : State) (g : Img) (cls : Nat) (o : RunOut) : RunOut × State :=
  match reserveLog s.tbl.logs s.frameNo (logNeed g) with
  | some l => (o, { s with tbl := { s.tbl with logs := l } })
  | none =>
    let s := { s with ice := { s.ice with logNow := { s.ice.logNow with starved := s.ice.logNow.starved ++ [(cls, s.clk.sidx.toNat)] } } }
    ({ o with upds := [] }, (s.count Reg.TBL_CNT_STARVE).raise Fd.TBL_EVT_LOG_STARVED cls [])

/-! ### Results -/

/-- The counts of a run (R150, R156, R161, R162) and their events. -/
def State.countRun (s : State) (o : RunOut) : State :=
  let s := s.countBy Reg.IFD_CNT_GMISS o.gmiss
  let s := o.tmiss.foldl (fun s p => s.countBy (Reg.T_MISS p.1) p.2) s
  let s := if o.sat = 0 then s else (s.countBy Reg.IFD_CNT_SAT o.sat).raise Fd.IFD_EVT_SAT noObj [o.sat]
  let s := if o.updDrop = 0 then s else (s.countBy Reg.IFD_CNT_UPD_DROP o.updDrop).raise Fd.IFD_EVT_UPD_DROP noObj [o.updDrop]
  if o.pktDrop = 0 then s else (s.countBy Reg.IFD_CNT_PKT_DROP o.pktDrop).raise Fd.IFD_EVT_PKT_DROP noObj [o.pktDrop]

/-- Whether a forecast of a stream is marked valid (R211): its code is above every 16-bit value where the forecast is absent. A replay
forecasts no frame of its own (log entry 83). -/
def State.fcastValid (s : State) (g : Img) (o : RunOut) (sid v : Nat) : Bool :=
  let a := sid / 64
  decide (v < 65536) && !o.tainted && g.role != 6 &&
  g.tabs.all (fun b => (s.required b.1).all (fun q => (s.tblKind b.1 == 1 && q % 4096 != a) || s.resident b.1 q)) &&
  (s.jobOf a).all (fun j => s.jobState j == 2 || s.jobState j == 3)

/-- The forecasts, planner inputs and host results of a run reach their receivers (R162). -/
def State.deliver (s : State) (g : Img) (o : RunOut) : State :=
  let s := o.fcast.foldl (fun s p =>
    let s := (s.set (Fd.SV_FCAST_VALUE p.1) (p.2 % 65536)).setB (Fd.SV_FCAST_FVALID p.1) (s.fcastValid g o p.1 p.2)
    s.setStrm p.1 { s.strm p.1 with fcastAt := s.clk.now }) s
  let s := o.host.foldl (fun s p => s.wr (Reg.IFD_RES p.1) p.2) s
  let at_ := o.plan.foldl (fun (t : Tab Nat) (p : Nat × Nat) => t.put (p.1 / 4096) s.clk.now) s.ice.planAt
  { s with ice := { s.ice with planIn := o.plan.foldl (fun (t : Tab Nat) (p : Nat × Nat) => t.put p.1 p.2) s.ice.planIn, planAt := at_ } }

/-- FVALID falls for every stream without a forecast for 20 frames (R211). -/
def State.ageForecasts (s : State) : State :=
  s.enabledStreams.foldl (fun s i =>
    if s.on (Fd.SV_FCAST_FVALID i) ∧ (s.strm i).fcastAt + 2000 < s.clk.now then s.set (Fd.SV_FCAST_FVALID i) 0 else s) s

/-! ### Frame runs -/

/-- The active slot and image of a role. -/
def State.activeOf (s : State) (role : Nat) : Option (Nat × Img) := s.activeSet.find? (fun p => p.2.role == role)

/-- Whether the main die reports a frame program active (R38): a frame slot active and IFD_CTRL.EN = 1. -/
def State.frameActive (s : State) : Bool := s.on Fd.IFD_CTRL_EN && (s.activeOf 0).isSome

def State.setIceRun (s : State) (r : Option RunOut) : State := { s with ice := { s.ice with run := r } }

/-- FRAME_RUN_START (R172): at tick 2 of a frame the frame program starts. Its whole stage list is computed here, from the
inputs latched at the boundary; the results pass on when the run ends. -/
def execFrameRunStart (s : State) : Host.Outcome State Fault Refusal :=
  .next <|
    match s.activeOf 0 with
    | none => s
    | some (k, g) =>
      if ¬ s.mainRuns ∨ ¬ s.on Fd.IFD_CTRL_EN ∨ s.ice.run.isSome ∨ s.ice.last.isSome ∨ s.ice.logNow.skipped ∨ s.clk.sidx.toNat % 100 ≠ 2 then s
      else
      let p := s.runOn (s.runEnv k g s.frameNo 5 s.ice.inputs [] []) []
      let q := p.2.reserveRun g 5 p.1
      (q.2.setIceRun (some q.1)).set Fd.IFD_STAT_FRUN 1

/-- The most table requests in flight of a run (R8, R144): 24,576 trackers per stack of the variant. -/
def State.peakRequests (s : State) (n : Nat) : State :=
  s.set Fd.IFD_INFL_MAX_N (max (s.fld Fd.IFD_INFL_MAX_N) (min n (24576 * stackCount)))

/-- IFD_RUN_NS of a frame run that has ended, and its largest value since read (R185). -/
def State.showRun (s : State) (ns : Nat) : State :=
  ((s.set Fd.IFD_STAT_FRUN 0).set Fd.IFD_RUN_NS_NS ns).set Fd.IFD_RUN_MAX_NS (max (s.fld Fd.IFD_RUN_MAX_NS) ns)

/-- A frame run is abandoned (R173): it emits nothing, its records are discarded and the frame is SKIPPED. -/
def State.abandonRun (s : State) : State :=
  let s := { s with ice := { s.ice with run := none, last := none, logNow := { s.ice.logNow with skipped := true } } }
  ((s.showRun 0xFFFFF).count Reg.IFD_CNT_OVERRUN).raise Fd.IFD_EVT_OVERRUN noObj [s.frameNo]

/-- The deadline of a frame run (R172): an unfinished run is abandoned at tick 80. -/
def State.deadlineNow (s : State) : State := if s.ice.run.isSome ∧ 80 ≤ s.clk.sidx.toNat % 100 then s.abandonRun else s

/-- Whether the spare array of a tile shadows in a frame run (R180): unused, in a tile in service of the frame partition. -/
def State.shadows (s : State) (tile : Nat) : Bool :=
  s.on Fd.IFD_CTRL_SHADOW_EN && s.on (Fd.TILE_STAT_INSERVICE tile) && !s.on (Fd.TILE_STAT_SPARE_ARR_USED tile) &&
  decide (kTiles s.ice.part ≤ tile) && decide (tile < 64 - rTiles s.ice.part)

/-- The logical array that the spares shadow in this frame (R180). -/
def State.shadowed (s : State) : Nat := s.frameNo % 8

/-- A shadow mismatch of a tile's array (R180): the run is abandoned and both arrays are tested. -/
def State.shadowMismatch (s : State) (tile arr : Nat) : State :=
  let s := (s.abandonRun.count Reg.IFD_CNT_SHADOW).bump (Fd.TILE_ERR_SHADOW tile)
  { s with ice := { s.ice with tests := s.ice.tests ++ [(tile, arr)] } }.raise Fd.IFD_EVT_SHADOW_MIS tile [arr]

/-- A frame run ends with its results: they pass to the application cores, and its records join the log of its frame. -/
def State.finishRun (s : State) (g : Img) (o : RunOut) (ns : Nat) : State :=
  let s := { s with ice := { s.ice with run := none, last := some o } }
  let s := { s with tbl := { s.tbl with logs := appendLog s.tbl.logs s.frameNo o.upds } }
  ((s.showRun ns).countRun o).deliver g o

/-- FRAME_RUN_END (R172): the run ends in this tick, `ns` nanoseconds after its edge, with the most table requests it had in flight; its results
pass to the application cores. A shadow mismatch in a tile whose spare shadows abandons it instead (R180). -/
def execFrameRunEnd (ns : Fin 10000) (inflight : Fin 294913) (mismatch : Option (Fin 64)) (s : State) : Host.Outcome State Fault Refusal :=
  .next <|
    match s.ice.run, s.activeOf 0 with
    | some o, some (_, g) =>
      let s := s.peakRequests inflight
      match mismatch.filter (fun t => s.shadows t.val) with
      | some t => s.shadowMismatch t s.shadowed
      | none => s.finishRun g o (10000 * (s.clk.sidx.toNat % 100) + ns)
    | _, _ => s

/-! ### Kernel batches -/

/-- The samples a batch takes: of each enabled stream of the class the oldest 32 (R174). -/
def State.takeBatch (s : State) (c : Nat) : Tab (List (Nat × Nat)) :=
  (s.ice.pend.filter (fun p => s.on (Fd.STM_CFG_EN p.1) && s.fld (Fd.STM_CFG_CLASS p.1) == c)).map (fun p => (p.1, p.2.take 32))

/-- The batch's rows: stream by stream, oldest first. -/
def State.batchSamples (s : State) (t : Tab (List (Nat × Nat))) : List BatchSample :=
  t.flatMap (fun p => (p.2.zip (List.range p.2.length)).map (fun q => ⟨p.1, s.fld (Fd.STM_CFG_FMT p.1), q.1.1, q.1.2, q.2⟩))

/-- A due batch is skipped (R174, R175). -/
def State.skipBatch (s : State) (c : Nat) : State :=
  let s := { s with ice := { s.ice with logNow := { s.ice.logNow with kskip := s.ice.logNow.kskip ++ [(c, s.clk.sidx.toNat)] } } }
  (s.count Reg.IFD_CNT_KSKIP).raise Fd.IFD_EVT_KSKIP c []

/-- IFD_STAT.KRUN: a kernel batch is in progress. -/
def State.showKrun (s : State) : State := s.setB Fd.IFD_STAT_KRUN (!s.ice.batches.isEmpty)

/-- A batch of class `c` starts with the program of a slot (R174): it takes its samples and reserves its log space. -/
def State.beginBatch (s : State) (c k : Nat) (g : Img) : State :=
  let took := s.takeBatch c
  let smp := s.batchSamples took
  let no := Tab.at 0 s.ice.batchNo c + 1
  let kread := s.ice.kst.filter (fun x => Tab.has took x.1)
  let p := s.runOn (s.runEnv k g no c s.ice.inputs smp s.ice.kst) smp
  let q := p.2.reserveRun g c p.1
  let s := q.2
  let pend := took.foldl (fun (t : Tab (List (Nat × Nat))) x => t.put x.1 ((Tab.at [] t x.1).drop 32)) s.ice.pend
  let ln := { s.ice.logNow with batches := s.ice.logNow.batches ++ [(⟨c, no, s.clk.sidx.toNat, smp, kread⟩ : LogBatch)] }
  { s with ice := { s.ice with pend := pend.filter (fun x => !x.2.isEmpty), batchNo := s.ice.batchNo.put c no, logNow := ln,
                               batches := s.ice.batches.put c ⟨s.frameNo, s.clk.sidx.toNat, q.1, took⟩,
                               dig := s.ice.dig ++ [(⟨c, no, s.isExact k, kread, q.1⟩ : DigBatch)] } }.showKrun

/-- The batch of class `c` that is due at this tick, once (R174): it starts, or is skipped while the last one has not finished. -/
def State.dueBatch (s : State) (c : Nat) : State :=
  match s.activeOf (c + 1) with
  | none => s
  | some (k, g) =>
    if s.clk.sidx.toNat % classPeriod c ≠ 0 ∨ Tab.find s.ice.batchAt c = some s.clk.now then s else
    let s := { s with ice := { s.ice with batchAt := s.ice.batchAt.put c s.clk.now } }
    if Tab.has s.ice.batches c then s.skipBatch c else s.beginBatch c k g

/-- KERNEL_BATCH_START (R174, R204): the batch of a class that is due at this tick starts or is skipped. Batches of one tick start in the order
C0 to C4, so those of the classes before it that are due start first. -/
def execKernelBatchStart (c : Fin 5) (s : State) : Host.Outcome State Fault Refusal :=
  .next (if ¬ s.mainRuns ∨ ¬ s.on Fd.IFD_CTRL_EN then s else (List.range (c.val + 1)).foldl State.dueBatch s)

/-- A kernel state with what a run has written. -/
def putKst (t : Tab (List Byte)) (o : RunOut) : Tab (List Byte) := o.kst.foldl (fun (t : Tab (List Byte)) (p : Nat × List Byte) => t.put p.1 p.2) t

/-- KERNEL_BATCH_END (R174): a batch completes and writes its results and kernel state. -/
def execKernelBatchEnd (e : Ended (Fin 5)) (s : State) : Host.Outcome State Fault Refusal :=
  .next <|
    match Tab.find s.ice.batches e.what with
    | none => s
    | some b =>
      let s := { s with ice := { s.ice with batches := s.ice.batches.del e.what, kst := putKst s.ice.kst b.out } }
      let s := { s with tbl := { s.tbl with logs := appendLog s.tbl.logs b.frame b.out.upds } }
      let s := ((s.peakRequests e.inflight).countRun b.out).showKrun.freeHeld
      (s.activeOf (e.what + 1)).elim s (fun p => s.deliver p.2 b.out)

/-- A log frame in which a batch is a skip instead (R175). -/
def unlogBatch (f : LogFrame) (frame c start : Nat) : LogFrame :=
  if f.frame ≠ frame then f else
  { f with batches := f.batches.filter (fun b => !(b.cls == c && b.start == start)), kskip := f.kskip ++ [(c, start)],
           starved := f.starved.filter (· != (c, start)) }

/-- A batch in progress is abandoned as a skip (R175): its samples wait for the following batch, and its entries leave the input log and the
digest of its frame. -/
def State.abandonBatch (s : State) (c : Nat) (b : KBatch) : State :=
  let pend := b.took.foldl (fun (t : Tab (List (Nat × Nat))) x => t.put x.1 (x.2 ++ Tab.at [] t x.1)) s.ice.pend
  let s := { s with ice := { s.ice with
    batches := s.ice.batches.del c, pend := pend, logNow := unlogBatch s.ice.logNow b.frame c b.start,
    capture := s.ice.capture.map (fun f => unlogBatch f b.frame c b.start),
    dig := if b.frame = s.frameNo then s.ice.dig.filter (fun d => !(d.cls == c && d.no == Tab.at 0 s.ice.batchNo c)) else s.ice.dig } }
  (s.count Reg.IFD_CNT_KSKIP).raise Fd.IFD_EVT_KSKIP c []

/-- RUN_MEMORY_ERROR (R175): an uncorrectable memory error abandons the frame run, or the batch of a class, whose samples wait
for the following batch. -/
def execRunMemoryError (kernel : Option (Fin 5)) (s : State) : Host.Outcome State Fault Refusal :=
  .next <|
    let taint (s : State) : State :=
      { s with ice := { s.ice with taint := true } }.raise Fd.IFD_EVT_TAINT noObj [] (tainted := true)
    match kernel with
    | none => if s.ice.run.isSome then taint s.abandonRun else s
    | some c =>
      match Tab.find s.ice.batches c with
      | none => s
      | some b => taint (s.abandonBatch c b).showKrun.freeHeld

/-! ### Spares -/

/-- The physical array of a logical one (TILE_MAP). -/
def State.physOf (s : State) (tile arr : Nat) : Nat := fieldOf (s.rd (Reg.TILE_MAP tile)) (4 * arr) 4

/-- A tile leaves service (R180): its logical tiles run on the rest of its partition. -/
def State.retireTile (s : State) (tile : Nat) : State :=
  if ¬ s.on (Fd.TILE_STAT_INSERVICE tile) then s else
  let s := (s.set (Fd.TILE_STAT_INSERVICE tile) 0).set (Fd.TILE_STAT_PART tile) 3
  ((s.set Fd.IFD_HEALTH_TILES (s.fld Fd.IFD_HEALTH_TILES - 1)).raise Fd.IFD_EVT_TILE_RETIRED tile []).judgeFit

/-- A physical array is counted as retired; fewer than 4 left take the tile out of service. -/
def State.loseArray (s : State) (tile : Nat) : State :=
  let s := (s.bump (Fd.TILE_STAT_ARR_LOST tile)).bump Fd.IFD_HEALTH_ARRAYS
  if 5 < s.fld (Fd.TILE_STAT_ARR_LOST tile) then s.retireTile tile else s

/-- The active array behind a logical number is retired (Table 13): the spare takes the number from the next frame boundary,
or the work runs in turn where the spare is used. -/
def State.retireArray (s : State) (tile arr : Nat) : State :=
  { s with ice := { s.ice with retire := s.ice.retire ++ [(tile, arr)] } }

/-- The retirements that take effect at a frame boundary. -/
def State.applyRetire (s : State) : State :=
  let l := s.ice.retire
  let s := { s with ice := { s.ice with retire := [] } }
  l.foldl (fun s p =>
    let used := (List.range 8).map (fun i => s.physOf p.1 i)
    let spare := (List.range 9).find? (fun x => !used.contains x)
    let free := ¬ s.on (Fd.TILE_STAT_SPARE_ARR_USED p.1)
    let v := if free then spare.getD 15 else 15
    let s := s.blowFuse 2 0 p.1 p.2 v
    let s := s.set ⟨Reg.TILE_MAP p.1, 4 * p.2, 4⟩ v
    ((s.set (Fd.TILE_STAT_SPARE_ARR_USED p.1) 1).raise Fd.IFD_EVT_ARRAY_RETIRED p.1 [p.2]).loseArray p.1) s

/-- The spare array of a tile is retired (Table 13): it stands for no logical array, which its fuse entry says by 255. -/
def State.retireSpare (s : State) (tile : Nat) : State :=
  let used := (List.range 8).map (fun i => s.physOf tile i)
  let spare := ((List.range 9).find? (fun x => !used.contains x)).getD 8
  ((s.blowFuse 2 0 tile 255 spare).set (Fd.TILE_STAT_SPARE_ARR_USED tile) 1).loseArray tile

/-- ARRAY_TEST_DONE (R180, Table 13): the built-in test of an array and of the spare that shadowed it. -/
def execArrayTestDone (tile : Fin 64) (arr : Fin 8) (activeOk spareOk : Bool) (s : State) : Host.Outcome State Fault Refusal :=
  .next <|
    if ¬ s.ice.tests.contains (tile.val, arr.val) then s else
    let s := { s with ice := { s.ice with tests := s.ice.tests.filter (· != (tile.val, arr.val)) } }
    let s := if spareOk then s else s.retireSpare tile
    if ¬ activeOk then s.retireArray tile arr
    else if spareOk then
      let key := tile.val * 8 + arr.val
      let l := s.clk.now :: (Tab.at [] s.ice.transients key).filter (fun t => decide (s.clk.now < t + sTicks 3600))
      let s := { s with ice := { s.ice with transients := s.ice.transients.put key l } }.bump (Fd.TILE_ERR_SHADOW tile)
      if 3 ≤ l.length then s.retireArray tile arr else s
    else s

/-- A tile-store bank fails (R180): the spare bank takes its number, or, with the spare bank used, the tile leaves service. -/
def State.retireBank (s : State) (tile bank : Nat) : State :=
  let used := s.on (Fd.TILE_STAT_SPARE_BANK_USED tile)
  let s := (s.blowFuse 2 1 tile bank (if used then 255 else 16)).bump Fd.IFD_HEALTH_BANKS
  if used then (s.raise Fd.IFD_EVT_BANK_RETIRED tile [bank]).retireTile tile
  else
    let s := ((s.set (Fd.TILE_STAT_SPARE_BANK_USED tile) 1).set (Fd.TILE_BANKMAP_BANK tile) bank).set (Fd.TILE_BANKMAP_VALID tile) 1
    s.raise Fd.IFD_EVT_BANK_RETIRED tile [bank]

/-- A corrected error of a tile-store bank (R180): more than 16 in 1 h retire the bank. -/
def State.bankCorrected (s : State) (tile bank : Nat) : State :=
  let key := tile * 16 + bank
  let l := s.clk.now :: (Tab.at [] s.ice.bankErrs key).filter (fun t => decide (s.clk.now < t + sTicks 3600))
  let s := { s with ice := { s.ice with bankErrs := s.ice.bankErrs.put key l } }.bump (Fd.TILE_ERR_CORR tile)
  if 16 < l.length then s.retireBank tile bank else s

/-! ### Replay -/

def State.setRpl (s : State) (r : Replay) : State := { s with ice := { s.ice with rpl := r } }
def State.rplState (s : State) : Nat := s.fld Fd.IFD_RPL_STAT_STATE

/-- A replay state and the outcome of the last command; RRUN shows a frame in progress. -/
def State.toRpl (s : State) (st last : Nat) (busy : Bool) : State :=
  ((s.set Fd.IFD_RPL_STAT_STATE st).set Fd.IFD_RPL_STAT_LAST last).setB Fd.IFD_STAT_RRUN busy

/-- The level and the frames of the log that IFD_RPL_LOG names: the capture ring, of the engine's own level, or a LOG object (R181, R182);
none where it names neither. -/
def State.replayLog (s : State) : Option (Nat × List LogFrame) :=
  let h := s.fld Fd.IFD_RPL_LOG_HANDLE
  if h = 0x7FFF then some (s.fld Fd.IFD_ALVL_ALVL, s.ice.capture.reverse)
  else (s.object h 3).map (fun o => (Config.logLevel o.bytes, Config.logFrames o.bytes))

def regPair (s : State) (lo hi : Nat) : Nat := (s.rd lo).toNat + 2 ^ 32 * (s.rd hi).toNat

/-- The state with the replay frame counter shown. -/
def State.showRplFrame (s : State) : State :=
  let n := s.ice.rpl.frame.toNat
  (s.wr Reg.IFD_RPL_FRAME_LO (BitVec.ofNat 32 n)).wr Reg.IFD_RPL_FRAME_HI (BitVec.ofNat 32 (n / 2 ^ 32))

/-- Whether a log does not fit a replay program (R182, R210): no log, a log or a program of another level than the engine's, or a first frame
that names another epoch or log position than that of a replay copy. -/
def State.logMismatch (s : State) (g : Img) (log : Option (Nat × List LogFrame)) : Bool :=
  match log with
  | none => true
  | some (level, l) =>
    level != s.fld Fd.IFD_ALVL_ALVL || g.alvl != s.fld Fd.IFD_ALVL_ALVL ||
    l.head?.any (fun f => g.tabs.any (fun b => (f.tables.find? (fun t => t.1 == b.1)).any (fun t =>
      t.2.1 != regPair s (Reg.T_EPOCH_LO b.1) (Reg.T_EPOCH_HI b.1) || t.2.2 != regPair s (Reg.T_LOGPOS_LO b.1) (Reg.T_LOGPOS_HI b.1))))

/-- Replay goes on to its next frame, or is DONE at the end of the log (R182). -/
def State.replayOn (s : State) (st : Nat) : State :=
  if s.ice.rpl.log.length ≤ s.ice.rpl.pos then (s.setRpl { s.ice.rpl with single := false }).toRpl 4 1 false else s.toRpl st 1 true

/-- START (R182, R210): from IDLE with an active replay slot. -/
def State.replayStart (pace : Bool) (s : State) : State :=
  match s.rplState, s.activeOf 6 with
  | 0, some (_, g) =>
    let log := s.replayLog
    let t := s.setRpl { s.ice.rpl with log := log.elim [] (·.2), pos := 0, frame := 0, pace := pace, kst := [], run := none, upds := [],
                                       trace := [], single := false }
    (if s.logMismatch g log then t.toRpl 5 1 false else t.replayOn 1).showRplFrame
  | _, _ => s.toRpl s.rplState 2 (s.on Fd.IFD_STAT_RRUN)

/-- SNAP (R183): a snapshot in the snapshot store, under the lowest free handle from 0x8000. -/
def State.replaySnap (s : State) : State :=
  match (List.range' 0x8000 0x7FFF).find? (fun h => !Tab.has s.ice.snaps h), s.activeOf 6 with
  | some h, some (_, g) =>
    let r := s.ice.rpl
    let copies : List TblCopy := (s.tables.filter (fun t => s.on (Fd.T_CFG_REPLAY t))).map (fun t =>
      ⟨t, (s.tblOf t).rows, regPair s (Reg.T_EPOCH_LO t) (Reg.T_EPOCH_HI t), regPair s (Reg.T_LOGPOS_LO t) (Reg.T_LOGPOS_HI t)⟩)
    let n : RplSnap := { frame := r.frame, pos := r.pos, kst := r.kst, hash := g.hash,
                         inputs := (r.log[r.pos - 1]?).elim Inputs.none (·.inputs), tables := copies, upds := r.upds }
    ({ s with ice := { s.ice with snaps := s.ice.snaps.put h n } }.set Fd.IFD_RPL_SNAP_HANDLE h).toRpl s.rplState 1 false
  | _, _ => s.toRpl s.rplState 3 false

/-- RESTORE (R183): the snapshot named in IFD_RPL_SNAP, refused where the program hash differs; replay is then PAUSED. -/
def State.replayRestore (s : State) : State :=
  match Tab.find s.ice.snaps (s.fld Fd.IFD_RPL_SNAP_HANDLE), s.activeOf 6 with
  | some n, some (_, g) =>
    if n.hash ≠ g.hash then s.toRpl s.rplState 3 false else
    let s := s.setRpl { s.ice.rpl with log := s.replayLog.elim [] (·.2), pos := n.pos, frame := n.frame, kst := n.kst, run := none,
                                       upds := n.upds, single := false }
    let s := (n.tables.filter (fun k => Tab.has s.tbl.tbl k.table)).foldl (fun s k =>
      (s.setTbl k.table { s.tblOf k.table with rows := k.rows }).setEpoch k.table k.epoch k.logpos) s
    (s.toRpl 3 1 false).showRplFrame
  | _, _ => s.toRpl s.rplState 3 false

/-- Whether a command is legal in the present replay state (Table 14). -/
def rplLegal (st cmd : Nat) : Bool :=
  match st with
  | 0 => cmd == 1 || cmd == 6
  | 1 => cmd == 2 || cmd == 7
  | 2 => cmd == 7
  | 3 => cmd == 3 || cmd == 4 || cmd == 5 || cmd == 6 || cmd == 7
  | 4 => cmd == 5 || cmd == 7
  | _ => cmd == 7

/-- A write of IFD_RPL_CTRL (R182): a command that is not legal in the present replay state is ignored. A step in progress
lets only STOP act. -/
def State.replayCmd (v : Word) (s : State) : State :=
  let cmd := fieldOf v 0 3
  let pace := fieldOf v 3 1 = 1
  let st := if s.ice.rpl.single then 2 else s.rplState
  if ¬ rplLegal st cmd then s.set Fd.IFD_RPL_STAT_LAST 2 else
  match cmd with
  | 1 => s.replayStart pace
  | 2 => s.toRpl 2 1 true
  | 3 => (s.setRpl { s.ice.rpl with pace := pace }).replayOn 1
  | 4 => (s.setRpl { s.ice.rpl with single := true }).replayOn 3
  | 5 => s.replaySnap
  | 6 => s.replayRestore
  | _ => (s.setRpl { s.ice.rpl with log := [], run := none, upds := [], single := false }).toRpl 0 1 false

/-- A write of IFD_RPL_CTRL by a register-write row. -/
def State.replayRow (s : State) (w : Nat) (v : Word) : State := s.writeRow w Reg.IFD_RPL_CTRL v true (State.replayCmd v)

def execReplayStart (w : Fin 8) (pace : Bool) (s : State) : Host.Outcome State Fault Refusal :=
  .next (s.replayRow w (if pace then 9 else 1))
def execReplayPause (w : Fin 8) (s : State) : Host.Outcome State Fault Refusal := .next (s.replayRow w 2)
def execReplayResume (w : Fin 8) (pace : Bool) (s : State) : Host.Outcome State Fault Refusal :=
  .next (s.replayRow w (if pace then 11 else 3))
def execReplayStep (w : Fin 8) (s : State) : Host.Outcome State Fault Refusal := .next (s.replayRow w 4)
def execReplaySnap (w : Fin 8) (s : State) : Host.Outcome State Fault Refusal := .next (s.replayRow w 5)
def execReplayRestore (w : Fin 8) (s : State) : Host.Outcome State Fault Refusal := .next (s.replayRow w 6)
def execReplayStop (w : Fin 8) (s : State) : Host.Outcome State Fault Refusal := .next (s.replayRow w 7)

/-- The replay log of two frames before takes effect on the replay copies (R206, R210). -/
def State.replayCommit (s : State) : State :=
  let r := s.ice.rpl
  match r.upds.find? (fun l => decide (l.frame + 2 ≤ r.frame.toNat)) with
  | none => s
  | some l =>
    let c := s.commitLog l
    let s := s.countBy Reg.TBL_CNT_NRDROP c.2.1
    let s := s.applyCommit ⟨l.frame, c.1, c.2.2⟩
    let s := c.2.2.foldl (fun s p => s.addPair (Reg.T_EPOCH_LO p.1) (Reg.T_EPOCH_HI p.1) 1) s
    s.setRpl { s.ice.rpl with upds := s.ice.rpl.upds.filter (fun x => x.frame != l.frame) }

/-! ### Result digests -/

/-- The numbers of a run's emitted values, update records and kernel state, for D_OUT (R573). -/
def outNums (o : RunOut) : List Nat :=
  o.pkt.flatMap (fun p => [p.1, patternOf 64 p.2]) ++ o.fcast.flatMap (fun p => [p.1, p.2]) ++ o.plan.flatMap (fun p => [p.1, p.2]) ++
  o.host.flatMap (fun p => [p.1, p.2.toNat]) ++ o.trace ++
  o.upds.flatMap (fun u => [u.start, u.cls, u.ltile, u.stage, u.pos, u.nth, u.table, u.row, u.line0, u.nlines, u.rule, u.alpha] ++
    u.src.flatMap (fun b => patternOf 16 b.exp :: b.els.map (fun x => x.elim (2 ^ 64) (patternOf 64)))) ++
  kstNums o.kst
where
  /-- The numbers of a kernel state. -/
  kstNums (t : Tab (List Byte)) : List Nat := t.flatMap (fun p => p.1 :: p.2.map (·.toNat))

/-- The numbers of inputs latched at a boundary: streams and pairs for H_STRM, jobs and loops for H_CTX (R573). -/
def strmNums (i : Inputs) : List Nat :=
  i.strm.flatMap (fun p => [p.1, p.2.1, p.2.2]) ++ i.pair.flatMap (fun p => [p.1, patternOf 64 p.2])
def ctxNums (i : Inputs) : List Nat :=
  (i.job ++ i.loop).flatMap (fun p => p.1 :: p.2.map (fun x => x.elim (2 ^ 64) (patternOf 64))) ++ [i.inmap.toNat]

/-- The numbers of kernel batches of an input log. -/
def batchNums (l : List LogBatch) : List Nat :=
  l.flatMap (fun b => [b.cls, b.no, b.start] ++ b.samples.flatMap (fun x => [x.sid, x.fmt, x.value, x.idx, x.pos]))

/-- The numbers of runs named by class and start tick. -/
def runNums (l : List (Nat × Nat)) : List Nat := l.flatMap (fun p => [p.1, p.2])

/-- A digest entry (R573, Table 6): 256 bytes. -/
def digestEntry (frame flags nbatch : Nat) (inmap : Word) (hProg hTab hStrm hCtx dOut : List Byte) : List Byte :=
  leBytes 8 frame ++ leBytes 1 flags ++ leBytes 1 0 ++ leBytes 2 nbatch ++ leBytes 4 inmap.toNat ++ leBytes 16 0 ++
  hProg ++ hTab ++ hStrm ++ hCtx ++ dOut ++ Config.sha256 (hProg ++ hTab ++ hStrm ++ hCtx ++ dOut) ++ leBytes 32 0

/-- D of a digest entry: bytes 192 to 223. -/
def digestD (e : List Byte) : List Byte := (e.drop 192).take 32

/-- H_PROG of a set of programs: the hashes of the frame slot and of the kernel slots C0 to C4. -/
def hProg (act : ActiveSet) : List Byte :=
  Config.sha256 ((List.range 6).flatMap (fun r => ((act.find? (fun p => p.2.role == r)).map (fun p => p.2.hash)).getD (leBytes 32 0)))

/-- H_TAB of tables with their epochs and log positions, in ascending table ID. -/
def hTab (l : List (Nat × Nat × Nat)) : List Byte :=
  Config.sha256 ((sortBy (fun a b => decide (a.1 ≤ b.1)) l).flatMap (fun p => leBytes 2 p.1 ++ leBytes 2 0 ++ leBytes 8 p.2.1 ++ leBytes 8 p.2.2))

/-- The flag bits of an entry (Table 6). -/
def digestFlags (ex tainted skipped starved : Bool) : Nat :=
  (if ex then 1 else 0) + (if tainted then 2 else 0) + (if skipped then 4 else 0) + (if starved then 8 else 0)

/-- A new entry in the ring of live frames, which holds 1,048,576 (R573), shown in DIA_DIG_LAST; a tainted one is told. -/
def State.putDigest (s : State) (frame : Nat) (e : List Byte) (tainted : Bool) : State :=
  let ring := Tab.put frame e (s.firn.digests.filter (fun p => decide (frame < p.1 + 1048576)))
  let s := { s with firn := { s.firn with digests := ring } }
  let s := (s.wr Reg.DIA_DIG_LAST_LO (BitVec.ofNat 32 frame)).wr Reg.DIA_DIG_LAST_HI (BitVec.ofNat 32 (frame / 2 ^ 32))
  if tainted then s.raise Fd.DIA_EVT_DIG_TAINT noObj [frame % 2 ^ 32, frame / 2 ^ 32] (tainted := true) else s

/-- The digest entry of the frame that ends (R573): its frame run and every kernel batch that started in it. -/
def State.formDigest (s : State) : State :=
  if ¬ s.mainRuns ∨ ¬ s.on Fd.DIA_CTRL_DIG_EN then s else
  let f := s.ice.logNow
  let bs := s.ice.dig
  let act := s.activeSet
  let tainted := s.ice.taint || s.ice.last.any (·.tainted) || bs.any (fun b => b.out.tainted)
  let ex := (act.filter (fun p => p.2.role == 0)).all (fun p => s.isExact p.1) && bs.all (·.exact_)
  let outs := s.ice.last.elim [] outNums ++ bs.flatMap (fun b => outNums b.out)
  let e := digestEntry f.frame (digestFlags ex tainted f.skipped (!f.starved.isEmpty || !f.disc.isEmpty)) bs.length f.inputs.inmap
    (hProg act) (hTab (f.tables.filter (fun p => s.bound p.1)))
    (Config.sha256 (Config.digestBytes 0 (strmNums f.inputs ++ batchNums f.batches ++ bs.flatMap (fun b => outNums.kstNums b.kread))))
    (Config.sha256 (Config.digestBytes 1 (ctxNums f.inputs ++ [f.frame] ++ f.batches.map (·.no) ++ act.map (fun p => p.2.seed) ++
      (if f.skipped then [1] else [0]) ++ runNums f.starved ++ runNums f.kskip ++ runNums f.disc)))
    (Config.sha256 (Config.digestBytes 2 outs))
  s.putDigest f.frame e tainted

/-- The tables bound by a replay program, with epoch and log position. -/
def State.replayTables (s : State) (g : Img) : List (Nat × Nat × Nat) :=
  g.tabs.map (fun b => (b.1, regPair s (Reg.T_EPOCH_LO b.1) (Reg.T_EPOCH_HI b.1), regPair s (Reg.T_LOGPOS_LO b.1) (Reg.T_LOGPOS_HI b.1)))

/-- The digest entry of a replay frame (R573), in a ring of 262,144 under the replay frame counter: from the kernel state its runs read and
their outcomes. -/
def State.replayDigest (s : State) (k : Nat) (g : Img) (f : LogFrame) (tabs : List (Nat × Nat × Nat)) (kread : Tab (List Byte))
    (outs : List RunOut) : State :=
  if ¬ s.on Fd.DIA_CTRL_DIG_EN then s else
  let n := s.ice.rpl.frame.toNat
  let e := digestEntry n (digestFlags (s.isExact k) (outs.any (·.tainted)) f.skipped (!f.starved.isEmpty || !f.disc.isEmpty)) f.batches.length
    f.inputs.inmap (Config.sha256 (g.hash ++ leBytes 160 0)) (hTab tabs)
    (Config.sha256 (Config.digestBytes 0 (strmNums f.inputs ++ batchNums f.batches ++ outNums.kstNums kread)))
    (Config.sha256 (Config.digestBytes 1 (ctxNums f.inputs ++ [f.frame] ++ f.batches.map (·.no) ++ [g.seed] ++
      (if f.skipped then [1] else [0]) ++ runNums f.starved ++ runNums f.kskip ++ runNums f.disc)))
    (Config.sha256 (Config.digestBytes 2 (outs.flatMap outNums)))
  { s with firn := { s.firn with rplDigests := Tab.put n e (s.firn.rplDigests.filter (fun p => decide (n < p.1 + 262144))) } }

/-- Whether a log names a run, by its class and start tick; a frame has one frame run, of class 5. -/
def namesRun (l : List (Nat × Nat)) (cls start : Nat) : Bool := l.any (fun p => p.1 == cls && (cls == 5 || p.2 == start))

/-- The logs of frames without the records of the runs that a log frame names as discarded (R205). -/
def dropDiscarded (logs : List UpdLog) (f : LogFrame) : List UpdLog :=
  logs.map (fun l => if l.frame < f.frame then { l with recs := l.recs.filter (fun u => !namesRun f.disc u.cls u.start) } else l)

/-- Whether a replay program is a kernel: a stage of it reads IN_BATCH or KSTATE (R181). -/
def isKernel (g : Img) : Bool := g.stages.any (fun d => dOp d != 0 && (dA d == 0xF4 || dB d == 0xF4 || dA d == 0xF5 || dB d == 0xF5))

/-- The runs of a replay frame: each batch of the log where the program is a kernel (R174, R181), and otherwise the frame run, where the
frame is not SKIPPED. -/
def replayRuns (g : Img) (f : LogFrame) : List LogBatch :=
  if isKernel g then f.batches else if f.skipped then [] else [⟨5, 0, 0, [], []⟩]

/-- One run of a replay frame (R181): it reads the replay's kernel state, and the log's for a stream the replay has not run (log entry 83);
its records go to the overlay, none where the log names it as starved; a run that does not fit there is a fault (R210). -/
def State.replayRun (g : Img) (k : Nat) (f : LogFrame) (acc : Option (State × List RunOut)) (b : LogBatch) : Option (State × List RunOut) :=
  acc.bind (fun a =>
    let s := a.1
    let n := s.ice.rpl.frame.toNat
    let kst := b.kst.foldl (fun (t : Tab (List Byte)) x => if Tab.has t x.1 then t else t.put x.1 x.2) s.ice.rpl.kst
    let p := s.runOn { s.runEnv k g n b.cls f.inputs b.samples kst with start := b.start, traced := s.on Fd.DIA_CTRL_TRACE_EN } b.samples
    let o := if namesRun f.starved b.cls b.start then { p.1 with upds := [] } else p.1
    let s := p.2
    (reserveLog s.ice.rpl.upds n (logNeed g)).map (fun logs =>
      let s := s.setRpl { s.ice.rpl with upds := appendLog logs n o.upds, trace := s.ice.rpl.trace ++ o.trace, kst := putKst kst o }
      ((s.countRun o).deliver g o, a.2 ++ [o])))

/-- One replay frame (R181): the overlay's commit, its runs, the discards its log names, and its digest. -/
def State.replayFrame (s : State) (k : Nat) (g : Img) (f : LogFrame) : Option State :=
  let s := s.replayCommit
  let kread := s.ice.rpl.kst
  let tabs := s.replayTables g
  ((replayRuns g f).foldl (State.replayRun g k f) (some (s, []))).map (fun a =>
    let s := a.1.setRpl { a.1.ice.rpl with upds := dropDiscarded a.1.ice.rpl.upds { f with frame := a.1.ice.rpl.frame.toNat } }
    s.replayDigest k g f tabs kread a.2)

/-- REPLAY_FRAME_END (R182, R183): the frame in progress ends, or the log fails its CRC. A pending pause or a step ends in
PAUSED, and the end of the log in DONE. -/
def execReplayFrameEnd (e : Ended Bool) (s : State) : Host.Outcome State Fault Refusal :=
  .next <|
    let r := s.ice.rpl
    if ¬ s.on Fd.IFD_STAT_RRUN ∨ ¬ s.mainRuns ∨ ¬ s.on Fd.IFD_CTRL_EN then s else
    match s.activeOf 6, r.log[r.pos]? with
    | some (k, g), some f =>
      let s := s.peakRequests e.inflight
      if e.what then s.toRpl 5 (s.fld Fd.IFD_RPL_STAT_LAST) false else
      match s.replayFrame k g f with
      | none => s.toRpl 5 (s.fld Fd.IFD_RPL_STAT_LAST) false
      | some s =>
        let done := r.log.length ≤ r.pos + 1
        let pause := s.rplState = 2 ∨ r.single
        let s := s.setRpl { s.ice.rpl with pos := r.pos + 1, frame := r.frame + 1, single := false }
        (s.toRpl (if done then 4 else if pause then 3 else 1) (s.fld Fd.IFD_RPL_STAT_LAST) (!done && !decide pause)).showRplFrame
    | _, _ => s.toRpl 5 (s.fld Fd.IFD_RPL_STAT_LAST) false

/-! ### Frame boundaries and the reset of the main die -/

/-- The log frame of the frame that ends joins the capture ring (R181, IFD_CTRL.CAPTURE, IFD_CAP_CTRL). -/
def State.captureFrame (s : State) : State :=
  if s.on Fd.IFD_CTRL_CAPTURE then
    { s with ice := { s.ice with capture := (s.ice.logNow :: s.ice.capture).take (Config.captureFrames (s.fld Fd.IFD_CAP_CTRL_GIB)) } }
  else s

/-- An admitted switch takes effect at the first boundary at least 2 ticks after the write (R168). A slot unloaded meanwhile is NOT_LOADED
(log entry 83). -/
def State.applySwitch (s : State) : State :=
  match s.ice.switch with
  | some (k, t) =>
    if s.clk.now < t + 2 then s else
    let s := { s with ice := { s.ice with switch := none } }.set Fd.IFD_SW_STAT_PENDING 0
    if (s.slotImg k).isNone then s.set Fd.IFD_SW_STAT_RESULT 2
    else ((s.activate k).wrap Fd.IFD_SW_STAT_SEQ).raise Fd.IFD_EVT_SWITCH_DONE k []
  | none => s

/-- TILE_STAT.PART of every tile under the partition in force (R146, R186): 3 out of service. -/
def State.showParts (s : State) : State :=
  (List.range 64).foldl (fun s t => s.set (Fd.TILE_STAT_PART t)
    (if ¬ s.on (Fd.TILE_STAT_INSERVICE t) then 3 else if t < kTiles s.ice.part then 0 else if t < 64 - rTiles s.ice.part then 1 else 2)) s

/-- Icefield and the tables at a frame boundary (R168, R169, R172, R180, R208): the switch, the partition, retirements and the
frame counter, then the tables, then the inputs of the new frame. -/
def State.iceBoundary (s : State) (loops : Tab (List (Option Int))) : State :=
  let s := if s.ice.run.isSome then s.abandonRun else s
  let s := s.formDigest.captureFrame.applySwitch.applyRetire
  let n := s.ice.frame + 1
  let s := { s with ice := { s.ice with part := s.rd Reg.IFD_PART, frame := n, last := none, taint := false, dig := [] } }.showParts.judgeFit
  let s := (s.wr Reg.IFD_FRAME_LO (n.setWidth 32)).wr Reg.IFD_FRAME_HI ((n >>> 32).setWidth 32)
  let s := s.tablesBoundary
  let i := s.latchInputs loops
  let tabs := s.tables.map (fun t => (t, regPair s (Reg.T_EPOCH_LO t) (Reg.T_EPOCH_HI t), regPair s (Reg.T_LOGPOS_LO t) (Reg.T_LOGPOS_HI t)))
  { s with ice := { s.ice with inputs := i, logNow := { LogFrame.none with frame := n.toNat, inputs := i, tables := tabs } } }

/-- Icefield after a main-die reset: every slot is empty and nothing runs (R170). -/
def State.iceReset (s : State) : State :=
  let s := (List.range 16).foldl (fun s k => (((s.wr (Reg.SLOT_STAT k) 0).showSlot k none).delSlot k)) s
  let s := (s.wr Reg.IFD_STAT 0).wr Reg.IFD_RPL_STAT 0
  let s := s.set Fd.IFD_SW_STAT_PENDING 0
  { s with ice := { s.ice with switch := none, run := none, last := none, batches := [], dig := [], pend := [], kst := [], planIn := [],
                               planAt := [], rpl := ⟨[], 0, 0, false, [], none, [], [], false⟩, tests := [] } }

end Sys2Proof.Machine
end

