-- ==== Sys2Proof/Machine/Evidence.lean ====
section
/-! DEFINITION. Firn's areas, read windows, authorised clearing, mirror and anchors (R549 to R564), memory integrity (R567 to R572), and
the latch of a digest entry (R580). The write window itself is in Recorder.lean, after the register views it captures. -/

namespace Sys2Proof.Machine

/-! ### Records and areas -/

/-- The records of an area, newest first (R554): 0 FIRST, 1 CIRCULATING, 2 RING. -/
def State.area (s : State) (a : Nat) : List FirnRec :=
  match a with
  | 0 => s.firn.first
  | 1 => s.firn.circ
  | _ => s.firn.ring

/-- The snapshot blocks of an area's ring (Table 3 of chapter 14), none for the first area, which holds each snapshot with its record. -/
def areaBlocks (a : Nat) : Option Nat :=
  match a with
  | 0 => none
  | 1 => some 16384
  | _ => some 4194304

/-- The record with the lowest SEQ at or above a cursor (R563), with the records of the area that are newer. -/
def recordAt (cur : Nat) (l : List FirnRec) : Option (FirnRec × Nat) :=
  let up := l.filter (fun r => decide (cur ≤ r.seq))
  up.getLast?.map (fun r => (r, (up.dropLast.filter (fun x => x.snap.isSome)).length))

/-- Whether a record's snapshot block has been overwritten (R555): as many newer snapshots as the ring has blocks. -/
def snapGone (a newer : Nat) : Bool := (areaBlocks a).any (fun n => decide (n ≤ newer))

/-- The 16 words of a record (R549, Table 1), with the SNAP_GONE bit of this read. -/
def FirnRec.words (r : FirnRec) (gone : Bool) : List Word :=
  let bit (b : Bool) (n : Nat) : Nat := if b then 2 ^ n else 0
  let w2 := r.code % 1024 + r.src % 4 * 1024 + bit r.first 12 + bit r.snap.isSome 13 + bit gone 14 + bit r.tainted 15 +
    bit r.standby 16 + bit r.trig 17 + ((r.snap.getD []).length % 256) * 2 ^ 24
  let w4 := r.state % 16 + r.ret % 16 * 16 + r.moduleId % 64 * 256 + r.slot % 2 * 2 ^ 14
  let body := ([r.seq, r.seq / 2 ^ 32, w2, r.snapId % 65536, w4, r.obj] ++ (List.range 7).map (fun i => r.args.getD i 0) ++ [0, 0]).map
    (BitVec.ofNat 32)
  body ++ [BitVec.ofNat 32 (crc32 (body.flatMap wordBytes))]

/-- The words of a record's snapshot: zeros beyond SNAPW, and all zeros once the block is overwritten (R555). -/
def FirnRec.snapWords (r : FirnRec) (gone : Bool) : List Word :=
  let l := if gone then [] else r.snap.getD []
  (List.range 128).map (fun i => l.getD i 0)

/-- The cursor of a read window. -/
def State.cursor (s : State) (w : Nat) : Nat := (s.rd (Reg.W_CUR_LO w)).toNat + 2 ^ 32 * (s.rd (Reg.W_CUR_HI w)).toNat

/-- A window takes a record: its words, its snapshot, the cursor after it and the result (R563). -/
def State.latchRecord (s : State) (w a res : Nat) (r : FirnRec) (newer : Nat) : State :=
  let gone := r.snap.isSome && snapGone a newer
  let s := ((List.range 16).zip (r.words gone)).foldl (fun s p => s.wr (Reg.FRN_WREC w p.1) p.2) s
  let s := ((List.range 128).zip (r.snapWords gone)).foldl (fun s p => s.wr (Reg.FRN_WSNAP w p.1) p.2) s
  let s := (s.wr (Reg.W_CUR_LO w) (BitVec.ofNat 32 (r.seq + 1))).wr (Reg.W_CUR_HI w) (BitVec.ofNat 32 ((r.seq + 1) / 2 ^ 32))
  (s.set (Fd.W_STAT_RESULT w) res).set (Fd.W_STAT_SNAPW w) (r.snap.getD []).length

/-- The latch of the next record at a window's cursor (R563). -/
def State.latchWindow (s : State) (w : Nat) : State :=
  let a := s.fld (Fd.W_CTRL_AREA w)
  if a = 2 ∧ s.mainAbsent then s.set (Fd.W_STAT_RESULT w) 4 else
  let l := s.area a
  let cur := s.cursor w
  let cur := if cur = 2 ^ 64 - 1 then (l.head?.map (fun r => r.seq)).getD cur else cur
  match recordAt cur l with
  | none => s.set (Fd.W_STAT_RESULT w) 3
  | some (r, newer) =>
    let gap := decide (a ≠ 0) && decide (cur ≠ 0) && (l.getLast?).any (fun o => decide (cur < o.seq))
    s.latchRecord w a (if gap then 2 else 1) r newer

/-- FIRN_WINDOW_LATCH (R563): a write of W_CTRL. -/
def execFirnWindowLatch (w : Fin 8) (win : Fin 8) (value : Word) (s : State) : Host.Outcome State Fault Refusal :=
  .next (s.writeRow w (Reg.W_CTRL win) value true (fun s =>
    let s := s.set (Fd.W_CTRL_AREA win) (fieldOf value 0 2)
    if fieldOf value 2 1 = 1 then s.latchWindow win else s))

/-- FIRN_CLEAR (R564): a write of FRN_CLR. The clear acts at the next tick edge. -/
def execFirnClear (w : Fin 8) (value : Word) (s : State) : Host.Outcome State Fault Refusal :=
  .next (s.writeRow w Reg.FRN_CLR value (fieldOf value 16 16 == 0xC1EA && fieldOf value 0 3 != 0) (fun s =>
    { s with firn := { s.firn with clear := some (fieldOf value 0 3, s.fld (Fd.SS_STAT_MASTER w)) } }))

/-- The records removed from an area by a clear below a point. -/
def cleared (areas bit point : Nat) (l : List FirnRec) : List FirnRec :=
  if bitOf areas bit then l.filter (fun r => decide (point ≤ r.seq)) else l

/-- The lowest and the highest SEQ of a list of records. -/
def seqSpan (l : List FirnRec) : Option (Nat × Nat) :=
  match l with
  | [] => none
  | r :: t => some (t.foldl (fun p x => (min p.1 x.seq, max p.2 x.seq)) (r.seq, r.seq))

/-- A pending clear takes effect at the tick edge (R564): the records leave the named areas, and the CLEAR record waits for the window of
this tick. Where no record is removed, the span that it reports is not stated (log entry 34). -/
def State.applyClear (s : State) : State :=
  match s.firn.clear with
  | none => s
  | some (areas, master) =>
    let point := s.firn.seq
    let f := s.firn
    let gone := (if bitOf areas 0 then f.first else []) ++ (if bitOf areas 1 then f.circ else []) ++ (if bitOf areas 2 then f.ring else [])
    let q := match seqSpan (gone.filter (fun r => decide (r.seq < point))) with
      | some p => (p, s)
      | none => let a := s.free; let b := a.2.free; ((a.1, b.1), b.2)
    let s := q.2
    let s := { s with firn := { f with first := cleared areas 0 point f.first, circ := cleared areas 1 point f.circ,
                                       ring := cleared areas 2 point f.ring, clear := none,
                                       mirror := if bitOf areas 2 then max f.mirror point else f.mirror } }
    let s := s.occur 0x3C3 noObj [master, areas, q.1.1 % 2 ^ 32, q.1.1 / 2 ^ 32, q.1.2 % 2 ^ 32, q.1.2 / 2 ^ 32]
    s.raise Fd.FRN_EVT_CLEARED noObj []

/-! ### Mirror and anchors -/

/-- The anchors that the DDR4 ring does not hold yet (R561), newest first. -/
def Firn.newAnchors (f : Firn) : List Anchor := f.anchors.takeWhile (fun x => f.anchorRing.head? != some x)

/-- The main die copies every record and every anchor not yet copied into the rings (R557, R561). Records overwritten meanwhile are a gap,
which is counted and told. -/
def State.mirrorCopy (s : State) : State :=
  if s.mainAbsent ∨ ¬ s.on Fd.FRN_CTRL_MIRROR_EN then s else
  let s := { s with firn := { s.firn with anchorRing := (s.firn.newAnchors ++ s.firn.anchorRing).take 1048576 } }
  let todo := s.firn.circ.filter (fun r => decide (s.firn.mirror ≤ r.seq))
  match todo.getLast? with
  | none => s
  | some o =>
    let gap := o.seq - s.firn.mirror
    let s := { s with firn := { s.firn with ring := (todo ++ s.firn.ring).take 16777216, mirror := s.firn.seq } }
    if 0 < gap then (s.countBy Reg.FRN_CNT_MGAP gap).raise Fd.FRN_EVT_MIRROR_GAP noObj [gap] else s

/-- FIRN_MIRROR_COPY (R557). -/
def execFirnMirrorCopy (s : State) : Host.Outcome State Fault Refusal := .next s.mirrorCopy

/-- Whether Serac's tick follows module time (R71): TIM_STAT.TICK_SRC. -/
def State.tickOnTime (s : State) : Bool := s.fld Fd.TIM_STAT_TICK_SRC == 1

/-- Whether what the mirror has not copied is 10 ms old (R557): the record at FRN_MIRROR, or an anchor. -/
def State.mirrorDue (s : State) : Bool :=
  (decide (s.firn.mirror < s.firn.seq) && s.firn.recent.all (fun p => decide (s.firn.mirror < p.2))) ||
  s.firn.newAnchors.any (fun x => decide (x.tcnt.toNat + msTicks 10 ≤ s.clk.tcnt.toNat))

/-- A tick edge at which module time, which the port die keeps, passes a whole second (R561). -/
def State.secondNow (s : State) : State :=
  if s.second = s.clk.lastSecond then s else
  let passed := decide (s.clk.lastSecond < s.second) && s.sys.portUp && !s.portAbsent
  let s := { s with clk := { s.clk with lastSecond := s.second } }
  if passed then s.anchor 0 else s

/-- A tick edge while the tick does not follow module time: an anchor every 100,000 ticks (R561), counted from the tick at which it ceased to. -/
def State.freeNow (s : State) : State :=
  if s.tickOnTime then { s with clk := { s.clk with lastFree := s.clk.now } }
  else if s.clk.lastFree + 100000 ≤ s.clk.now then { s with clk := { s.clk with lastFree := s.clk.now } }.anchor 3 else s

/-! ### Memory integrity -/

/-- The code of a memory (DIA_ECCTEST.MEM). -/
def memCode : MemKind → Nat
  | .laneA => 0
  | .laneB => 1
  | .seracNv => 2
  | .portSram => 3
  | .tileStore => 4
  | .mainSram => 5
  | .ddr4 => 6
  | .stack => 7

/-- The die that holds an SRAM with row repairs (R572): 0 Serac, 1 port die, 2 main die. -/
def sramDie : MemKind → Option Nat
  | .laneA | .laneB => some 0
  | .portSram => some 1
  | .tileStore | .mainSram => some 2
  | _ => none

/-- A row or a column of an SRAM is repaired by a field entry (R572): the upper half of the places are columns. Which spare stands for it
is not stated (log entry 95). -/
def State.repairRow (s : State) (m : MemKind) (unit place : Nat) : State :=
  match sramDie m with
  | some d =>
    let f := s.free
    f.2.blowFuse d (if place < 32768 then 3 else 4) (memCode m * 64 + unit) place f.1
  | none => s

/-- The bank of a tile store that holds a place: 16 banks (R180). -/
def bankOf (place : Nat) : Nat := place % 16

/-- ECC_CORRECTED_ERROR (R567, R568, R572): the word is corrected and written back, the error is counted and told, and the row's run of
corrected errors within 1 h is judged. -/
def State.corrected (s : State) (m : MemKind) (unit place : Nat) : State :=
  let s := (s.count Reg.DIA_CNT_CORR).raise Fd.DIA_EVT_CORR noObj [memCode m, unit]
  let s := match m with
    | .laneA => (s.bump Fd.FRN_ECC_A).raise Fd.FRN_EVT_ECC_CORR noObj [0]
    | .laneB => (s.bump Fd.FRN_ECC_B).raise Fd.FRN_EVT_ECC_CORR noObj [1]
    | .tileStore => s.bankCorrected unit (bankOf place)
    | .stack => s.pcCorrected unit (place % 64)
    | _ => s
  let key := (memCode m * 64 + unit) * 65536 + place
  let l := s.clk.now :: (Tab.at [] s.dia.errs key).filter (fun t => decide (s.clk.now < t + sTicks 3600))
  let s := { s with dia := { s.dia with errs := s.dia.errs.put key l } }
  if l.length = 17 then s.repairRow m unit place else s

def execEccCorrectedError (mem : MemKind) (unit : Fin 64) (place : Fin 65536) (s : State) : Host.Outcome State Fault Refusal :=
  .next (s.corrected mem unit place)

/-- A bus error (R569) is counted and told; inside a Serac lane it makes that lane bad (R266). -/
def State.busFail (s : State) (lane : Option Lane) (obj : Nat) : State :=
  let s := (s.count Reg.DIA_CNT_BUSERR).raise Fd.DIA_EVT_BUS_ERR obj []
  match lane with
  | some l => s.laneBad l
  | none => s

/-- BUS_ERROR (R569). -/
def execBusError (lane : Option Lane) (obj : Nat) (s : State) : Host.Outcome State Fault Refusal := .next (s.busFail lane obj)

/-- The ticks between the passes of a memory kind (R570), none for a kind that is not scrubbed. -/
def State.scrubTicks (s : State) (m : MemKind) : Option Nat :=
  match m with
  | .laneA | .laneB => some (sTicks 1)
  | .tileStore => some (sTicks (s.fld Fd.DIA_SCRUB_TILE))
  | .stack => some (sTicks (3600 * s.fld Fd.DIA_SCRUB_STACK))
  | .ddr4 => some (sTicks (3600 * s.fld Fd.DIA_SCRUB_DDR4))
  | _ => none

/-- The tick from which a memory's die scrubs it: Serac from BOOT, the main die once it is ready. None while the die does not run. -/
def State.scrubFrom (s : State) (m : MemKind) : Option Nat :=
  match m with
  | .laneA | .laneB => if s.sys.seracUp then some s.sys.bootAt else none
  | _ => if s.mainAbsent then none else Tab.find s.sys.readyAt 2

/-- Whether a memory kind's period has passed since its last pass, or since its die began to scrub (R570). -/
def State.scrubDue (s : State) (m : MemKind) : Bool :=
  match s.scrubFrom m with
  | none => false
  | some t => (s.scrubTicks m).any (fun p => decide (max t (Tab.at 0 s.dia.scrubAt (memCode m)) + p ≤ s.clk.now))

/-- A pass of a memory kind completes where its period has passed (R570). -/
def State.scrub (s : State) (m : MemKind) : State :=
  if ¬ s.scrubDue m then s else
  let s := { s with dia := { s.dia with scrubAt := s.dia.scrubAt.put (memCode m) s.clk.now } }
  let s := match m with
    | .laneA => s.wrap Fd.FRN_SCRUB_A
    | .laneB => s.wrap Fd.FRN_SCRUB_B
    | _ => s
  s.raise Fd.DIA_EVT_SCRUB_PASS noObj [memCode m]

/-- SCRUB_PASS (R570): a memory kind's period has passed and a pass completes. -/
def execScrubPass (mem : MemKind) (s : State) : Host.Outcome State Fault Refusal := .next (s.scrub mem)

/-- What has run out of Firn and the scrubs by the end of a tick and no command has ended (log entry 90): the copy of the mirror within 10 ms
(R557) and the passes (R570). -/
def State.firnRunOut (s : State) : State :=
  let s := if s.mirrorDue then s.mirrorCopy else s
  [MemKind.laneA, MemKind.laneB, MemKind.tileStore, MemKind.stack, MemKind.ddr4].foldl (fun (s : State) m => s.scrub m) s

/-- The encodings of DIA_ECCTEST reserved across fields (R581): MODE 0 and 3 with GO, memories 8 to 15, and a unit outside its memory. -/
def crossEccTest (v : Word) : Bool :=
  let mem := fieldOf v 0 4
  let unit := fieldOf v 8 6
  decide (mem < 8) && (fieldOf v 31 1 == 0 || fieldOf v 4 2 == 1 || fieldOf v 4 2 == 2) &&
  (if mem = 4 then true else if mem = 7 then decide (unit < 12) else unit == 0)

/-- The test of the check bits of a memory (R571). -/
def State.eccTest (s : State) (v : Word) (pass : Bool) : State :=
  let s := s.plainWrite Reg.DIA_ECCTEST v
  if fieldOf v 31 1 = 1 then (s.set Fd.DIA_ECCTEST_RESULT (if pass then 1 else 2)).raise Fd.DIA_EVT_ECCTEST_DONE noObj [fieldOf v 0 4]
  else s

/-- ECC_TEST (R571). -/
def execEccTest (w : Fin 8) (value : Word) (pass : Bool) (s : State) : Host.Outcome State Fault Refusal :=
  .next (s.writeRow w Reg.DIA_ECCTEST value (crossEccTest value) (fun s => s.eccTest value pass))

/-! ### Digest latch -/

/-- The latch of the entry named by DIA_DIG_SEL from the ring selected by DIG_KIND (R580). -/
def State.latchDigest (s : State) : State :=
  let n := regPair s Reg.DIA_DIG_SEL_LO Reg.DIA_DIG_SEL_HI
  let ring := if s.on Fd.DIA_CTRL_DIG_KIND then s.firn.rplDigests else s.firn.digests
  match Tab.find ring n with
  | some e =>
    let s := ((List.range 64).zip (leWords e)).foldl (fun s p => s.wr (Reg.DIA_DIGW p.1) p.2) s
    s.set Fd.DIA_DIG_STAT_RESULT 1
  | none => s.set Fd.DIA_DIG_STAT_RESULT (if ring.any (fun p => decide (n < p.1)) then 2 else 3)

/-- DIGEST_LATCH (R580): a write of DIA_DIG_SEL_HI. -/
def execDigestLatch (w : Fin 8) (value : Word) (s : State) : Host.Outcome State Fault Refusal :=
  .next (s.writeRow w Reg.DIA_DIG_SEL_HI value true (fun s => (s.plainWrite Reg.DIA_DIG_SEL_HI value).latchDigest))

end Sys2Proof.Machine
end

