-- ==== Sys2Proof/Machine/Solenoids.lean ====
section
/-! DEFINITION. Solenoid channels and banks (chapter 08): requests and their classes, the arbitration of pull-ins under the
actuator power governor, pull-in, decay and repetition, channel faults and the spare switch, and the safety cut. -/

namespace Sys2Proof.Machine

/-- A solenoid channel beside its registers before anything has happened. -/
def Sol.idle : Sol :=
  { req := none, pull := none, dip := none, offAt := 0, slot := false, pending := 0, moves := none, release := false, testAt := 0 }

/-- A solenoid channel's part beside its registers. -/
def State.sol (s : State) (k : Nat) : Sol := Tab.at Sol.idle s.acts.sol k

/-- The state with a solenoid channel's part set. -/
def State.setSol (s : State) (k : Nat) (x : Sol) : State := { s with acts := { s.acts with sol := s.acts.sol.put k x } }

/-- SOL_STAT.STATE: 0 OFF, 1 WAIT, 2 PULLIN, 3 HOLD, 4 DECAY, 5 TEST, 6 FAULT. -/
def State.solState (s : State) (k : Nat) : Nat := s.fld (Fd.SOL_STAT_STATE k)

/-- The state with SOL_STAT.STATE set. -/
def State.setSolState (s : State) (k st : Nat) : State := s.set (Fd.SOL_STAT_STATE k) st

/-- The state with SOL_STAT.RESULT set. -/
def State.solResult (s : State) (k r : Nat) : State := s.set (Fd.SOL_STAT_RESULT k) r

/-- The state a channel at rest shows: FAULT while a fault stands, else OFF. -/
def State.solRest (s : State) (k : Nat) : Nat := if s.fld (Fd.SOL_STAT_FAULT k) = 0 then 0 else 6

/-- Whether a bank is cut. -/
def State.bankCut (s : State) (b : Nat) : Bool := s.on (Fd.BANK_STAT_CUT b)

/-- The channels of a bank. -/
def bankChannels (b : Nat) : List Nat := (List.range 8).map (fun i => 8 * b + i)

/-- Whether a channel holds a request that waits: neither in pull-in nor in TEST. -/
def State.solWaits (s : State) (k : Nat) : Bool := (s.sol k).req.isSome && s.solState k != 2 && s.solState k != 5

/-- The requests of a bank that wait (BANK_STAT.WAITING). -/
def State.bankWaiting (s : State) (b : Nat) : Nat := ((bankChannels b).filter s.solWaits).length

/-- Whether a bank's slot is taken. -/
def State.slotTaken (s : State) (b : Nat) : Bool :=
  (bankChannels b).any (fun k => (s.sol k).slot) || s.acts.freeing.contains b

/-- A channel gives its bank's slot back, free from the next tick (Table 3). -/
def State.freeSlot (s : State) (k : Nat) : State :=
  let s := s.set (Fd.BANK_STAT_SLOT (k / 8)) 0xF
  if (s.sol k).slot then
    let s := s.setSol k { s.sol k with slot := false }
    { s with acts := { s.acts with freeing := (k / 8) :: s.acts.freeing } }
  else s

/-- A request has ended with a result; the end of a safety-class request is told to protection (R369). -/
def State.solEnded (s : State) (k : Nat) (r : SolReq) (res : Nat) : State :=
  let s := s.solResult k res
  if r.safety then { s with acts := { s.acts with ended := s.acts.ended ++ [(k, res)] } } else s

/-- The held request of a channel ends with a result. -/
def State.endRequest (s : State) (k res : Nat) : State :=
  match (s.sol k).req with
  | none => s
  | some r =>
    let s := s.setSol k { s.sol k with req := none }
    let s := if s.solState k = 1 ∨ s.solState k = 5 then s.setSolState k (s.solRest k) else s
    s.solEnded k r res

/-- A channel switches off into DECAY, with the result its decay will set for the request given (0 for none). -/
def State.switchOff (s : State) (k pending : Nat) (moves : Option SolReq) : State :=
  let s := s.setSol k { s.sol k with pull := none, offAt := s.clk.now, pending := pending, moves := moves }
  (s.set (Fd.BANK_STAT_SLOT (k / 8)) (if s.solState k = 2 then 0xF else s.fld (Fd.BANK_STAT_SLOT (k / 8)))).setSolState k 4

/-- A request is accepted (R328): it takes the next request sequence. -/
def State.acceptReq (s : State) (k op : Nat) (safety : Bool) : State :=
  let seq := (s.rd Reg.ACT_REQ_SEQ).toNat + 1
  let s := (s.wr Reg.ACT_REQ_SEQ (BitVec.ofNat 32 seq)).wr (Reg.SOL_SEQ k) (BitVec.ofNat 32 seq)
  let s := s.setB (Fd.SOL_STAT_CLASS k) safety
  let s := s.setSol k { s.sol k with req := some ⟨op, safety, seq % 2 ^ 32, s.clk.now, 0, none, false⟩ }
  if s.solState k = 3 ∨ s.solState k = 4 then s else s.setSolState k 1

/-- A request reaches a channel (R328, R309, R331, R332): operation 1 PULSE, 2 ENERGIZE, 4 TEST. -/
def State.submit (s : State) (k op : Nat) (safety : Bool) : State :=
  if s.bankCut (k / 8) then
    let s := (s.solResult k 5).setB (Fd.SOL_STAT_CLASS k) safety
    if safety then { s with acts := { s.acts with ended := s.acts.ended ++ [(k, 5)] } } else s
  else
    match (s.sol k).req with
    | some r =>
      if r.safety then (if safety then s else s.solResult k 6)
      else if safety then
        let s := s.setSol k { s.sol k with req := none }
        let s := if s.solState k = 2 then s.switchOff k 0 none else s
        (s.solResult k 8).acceptReq k op true
      else s.solResult k 6
    | none =>
      if safety then s.acceptReq k op true
      else if s.on (Fd.SOL_LOCK_LOCK k) then s.solResult k 7
      else if s.fld (Fd.SOL_STAT_FAULT k) ≠ 0 ∧ op ≠ 4 then s.solResult k 9
      else s.acceptReq k op false

/-- A RELEASE at the next tick (R328): it ends HOLD and a pull-in of the channel, and withdraws a waiting ENERGIZE. -/
def State.doRelease (s : State) (k : Nat) : State :=
  let x := s.sol k
  let s := s.setSol k { x with release := false, req := if s.solState k = 2 ∨ x.req.any (fun r => r.op == 2) then none else x.req }
  match s.solState k with
  | 2 | 3 => s.switchOff k 0 none
  | 1 => if (s.sol k).req.isNone then s.setSolState k (s.solRest k) else s
  | _ => s

/-- A solenoid lockout takes effect (R309). -/
def State.lockSol (s : State) (k : Nat) : State :=
  let x := s.sol k
  let s :=
    if x.req.any (fun r => !r.safety) then
      let pulling := s.solState k == 2
      let s := s.endRequest k 7
      if pulling then s.switchOff k 0 none else s
    else if x.moves.any (fun r => !r.safety) then (s.setSol k { x with moves := none, pending := 0 }).solResult k 7
    else s
  if s.solState k = 3 then s.switchOff k 0 none else s

/-! ### Faults and the cut -/

/-- A channel fault (R331): the code, the event, and the FAULT state. -/
def State.solFault (s : State) (k code : Nat) : State :=
  let s := (s.set (Fd.SOL_STAT_FAULT k) code).raise Fd.ACT_EVT_SOL_FAULT k [code]
  if s.solState k = 0 ∨ s.solState k = 1 ∨ s.solState k = 5 then s.setSolState k 6 else s

/-- A pull-in ends in a fault (Table 3): off, FAULT, and its request ends with RESULT = FAULT. -/
def State.pullFault (s : State) (k code : Nat) : State :=
  let s := s.freeSlot k
  let s := (s.setSol k { s.sol k with pull := none, offAt := s.clk.now }).setSolState k 0
  (s.solFault k code).endRequest k 9

/-- One channel of a bank that is cut (R332). -/
def State.cutChannel (s : State) (k : Nat) : State :=
  let x := s.sol k
  let s := s.freeSlot k
  let s := if s.solState k = 0 then s else s.setSolState k (s.solRest k)
  let s := match x.moves with
    | some r => (s.setSol k { s.sol k with moves := none, pending := 0 }).solEnded k r 5
    | none => s
  let s := if x.pull.isSome ∨ x.release then s.setSol k { s.sol k with pull := none, offAt := s.clk.now, release := false } else s
  s.endRequest k 5

/-- A bank is cut (R332): 1 OVERCURRENT, 2 STUCK_ON, 3 COMMAND, 4 PROTECT, 5 SUPPLY. -/
def State.cutBank (s : State) (b reason : Nat) : State :=
  if s.bankCut b then s else
    let s := (s.set (Fd.BANK_STAT_CUT b) 1).set (Fd.BANK_STAT_REASON b) reason
    let s := (bankChannels b).foldl (fun s k => s.cutChannel k) s
    (s.count Reg.ACT_CNT_CUT).raise Fd.ACT_EVT_BANK_CUT b [reason]

/-- A bank recloses (R332). -/
def State.reclose (s : State) (b : Nat) : State :=
  let s := (s.set (Fd.BANK_STAT_CUT b) 0).set (Fd.BANK_STAT_REASON b) 0
  { s with acts := { s.acts with freeing := s.acts.freeing.filter (fun x => x != b) } }

/-- The outcome of a channel's self-test (R331, R344): 0 it passes, 1 OPEN_COIL, 2 DRIVER. The bank's spare takes over a DRIVER
channel while it is free. -/
def State.testOutcome (s : State) (k outcome : Nat) : State :=
  let s := s.setSol k { s.sol k with testAt := s.clk.now }
  let old := s.fld (Fd.SOL_STAT_FAULT k)
  match outcome with
  | 0 =>
    let s := s.set (Fd.SOL_STAT_FAULT k) 0
    if s.solState k = 6 then s.setSolState k 0 else s
  | 1 => if old = 1 then s else s.solFault k 1
  | _ =>
    if s.acts.spareUsed.contains (k / 8) then (if old = 5 then s else s.solFault k 5)
    else
      let s := s.raise Fd.ACT_EVT_SOL_FAULT k [5]
      let s := { s with acts := { s.acts with spareUsed := (k / 8) :: s.acts.spareUsed } }.blowFuse 0 5 (k / 8) (k % 8) 8
      (s.set (Fd.SOL_STAT_SPARE k) 1).raise Fd.ACT_EVT_SPARE_SOL k [k / 8]

/-! ### The governor -/

/-- The measured fan draw in mA (R333). -/
def State.fanDraw (s : State) : Nat := ((List.range 32).map (fun f => s.fld (Fd.FAN_MEAS_MA f))).foldl (· + ·) 0

/-- The measured draw of the solenoid banks in mA (R333). -/
def State.solDraw (s : State) : Nat := ((List.range 8).map (fun b => s.fld (Fd.BANK_STAT_I_BANK b))).foldl (· + ·) 0

/-- The budget in mA (R333). -/
def State.budgetMa (s : State) : Nat := 1000 * s.fld Fd.ACT_STAT_BUDGET

/-- The fans whose current a pull-back limits (R336): those in KICK or RUN. -/
def State.pulledFans (s : State) : List Nat :=
  (List.range 32).filter (fun f => s.fld (Fd.FAN_STAT_STATE f) == 1 || s.fld (Fd.FAN_STAT_STATE f) == 2)

/-- The limit of a pull-back in mA per fan (R336). -/
def pullLimit (budget sol n : Nat) : Nat := if n = 0 then 0 else (budget - sol) / n

/-- Fans are pulled back (R336): the draw they had is kept, to judge when the draw fits without the pull-back. -/
def State.beginPull (s : State) (sol : Nat) : State :=
  let fans := s.pulledFans
  let limit := pullLimit s.budgetMa sol fans.length
  let s := { s with acts := { s.acts with limit := limit, fit := false } }
  if s.acts.pull then s else
    let s := { s with acts := { s.acts with pull := true, base := s.fanDraw } }
    let s := fans.foldl (fun s f => s.set (Fd.FAN_STAT_PULLBACK f) 1) s
    ((s.set Fd.ACT_STAT_PULLBACK 1).count Reg.ACT_CNT_PULLBACK).raise Fd.ACT_EVT_PULLBACK noObj [limit]

/-- The pull-back ends (R336); the tests of the fans stay suspended for 1 s. -/
def State.endPull (s : State) : State :=
  let s := { s with acts := { s.acts with pull := false, fit := false } }
  let s := (List.range 32).foldl (fun s f =>
    if s.on (Fd.FAN_STAT_PULLBACK f) then
      let x : Fan := Tab.at ⟨none, none, 0, none, 0, none, 0, 0⟩ s.acts.fan f
      let s := { s with acts := { s.acts with fan := s.acts.fan.put f { x with suspend := s.clk.now + sTicks 1 } } }
      s.set (Fd.FAN_STAT_PULLBACK f) 0
    else s) s
  (s.set Fd.ACT_STAT_PULLBACK 0).set Fd.ACT_STAT_OVERBUDGET 0

/-- Whether any pull-in is in progress. -/
def State.anyPull (s : State) : Bool := s.acts.sol.any (fun p => p.2.pull.isSome)

/-- What the solenoids draw or may yet draw: the measured draw, or the hold currents and the I_PEAK of every pull-in that has not
decayed where that is more. A pull-back lasts as long as the pull-ins that need it (R336). -/
def State.solNeed (s : State) : Nat :=
  max s.solDraw (s.acts.sol.foldl (fun n (p : Nat × Sol) =>
    n + (if p.2.slot then s.fld (Fd.SOL_CFG_I_PEAK p.1) else if s.solState p.1 = 3 then s.fld (Fd.SOL_CFG_I_HOLD p.1) else 0)) 0)

/-- The governor at a tick edge (R333, R335, R336): ACT_DRAW, the condition of OVERBUDGET, and the end of a pull-back. -/
def State.governTick (s : State) : State :=
  let fan := s.fanDraw
  let sol := s.solDraw
  let s := s.wr Reg.ACT_DRAW (BitVec.ofNat 32 (min (fan / 10) 65535 + 65536 * min (sol / 10) 65535))
  let total := min ((fan + sol) / 10) 65535
  let s := if s.fld Fd.ACT_DRAW_MAX_TOTAL < total then s.set Fd.ACT_DRAW_MAX_TOTAL total else s
  let tooMuch := decide (s.budgetMa < fan + sol) && !s.anyPull
  let s := { s with acts := { s.acts with overFrom := if tooMuch then s.acts.overFrom.orElse (fun _ => some s.clk.now) else none } }
  if ¬ s.acts.pull then s
  else if s.acts.fit then s.endPull
  else if s.acts.base + s.solNeed ≤ s.budgetMa then { s with acts := { s.acts with fit := true } }
  else s

/-! ### Arbitration (R329) -/

/-- The order of requests: safety first, then by request sequence. -/
def reqBefore (a b : SolReq) : Bool :=
  if a.safety = b.safety then decide (diff32 (BitVec.ofNat 32 a.seq) (BitVec.ofNat 32 b.seq) ≤ 0) else a.safety

/-- The request of a channel that takes part in the arbitration. The self-test of a TEST needs the channel off (R331), so that of a channel in
HOLD waits for the hold's end. -/
def State.arbReq (s : State) (k : Nat) : Option SolReq :=
  if s.solState k = 1 ∨ s.solState k = 3 then (s.sol k).req.filter (fun r => r.rejoin.isNone && (r.op != 4 || s.solState k == 1)) else none

/-- A bank's first waiting request, where its slot is free and not cut. -/
def State.bankFirst (s : State) (b : Nat) : Option (Nat × SolReq) :=
  if s.bankCut b ∨ s.slotTaken b then none else
    (bankChannels b).foldl (fun m k => match m, s.arbReq k with
      | some (j, r), some q => if reqBefore r q then some (j, r) else some (k, q)
      | none, some q => some (k, q)
      | m, none => m) none

/-- A normal pull-in of a bank in which a safety request waits ends, and its request waits again. -/
def State.yieldSlot (s : State) (b : Nat) : State :=
  match (bankChannels b).find? (fun k => s.solState k == 2 && (s.sol k).req.any (fun r => !r.safety)) with
  | none => s
  | some k =>
    if (bankChannels b).any (fun j => s.solWaits j && (s.sol j).req.any (fun r => r.safety && r.rejoin.isNone)) then
      let s := s.setSol k { s.sol k with req := (s.sol k).req.map (fun r => { r with clock := s.clk.now, rejoin := none }) }
      s.switchOff k 0 none
    else s

/-- The sum of the hold currents of a bank. -/
def State.holdSum (s : State) (b : Nat) : Nat :=
  (((bankChannels b).filter (fun k => s.solState k == 3)).map (fun k => s.fld (Fd.SOL_CFG_I_HOLD k))).foldl (· + ·) 0

/-- A pull-in starts (Table 3). A TEST has no pull-in: the channel is in TEST until its outcome is known. -/
def State.startPull (s : State) (k : Nat) (r : SolReq) : State :=
  if r.op = 4 then s.setSolState k 5 else
    let s := s.setSol k { s.sol k with pull := some (s.clk.now, r.op), dip := none, slot := true }
    ((s.set (Fd.SOL_STAT_DIP_MS k) 0xFFFF).set (Fd.BANK_STAT_SLOT (k / 8)) (k % 8)).setSolState k 2

/-- One candidate of the arbitration, with the draw so far in mA and the part of it that banks draw. -/
def State.admitReq (x : State × Nat × Nat) (c : Nat × SolReq) : State × Nat × Nat :=
  let s := x.1
  let k := c.1
  let r := c.2
  let i := if r.op = 4 then 50 else s.fld (Fd.SOL_CFG_I_PEAK k)
  let reserve := if r.safety then 0 else 10 * s.fld Fd.ACT_GOV_RESERVE
  if 8000 < s.holdSum (k / 8) + i then x
  else if x.2.1 + i + reserve ≤ s.budgetMa then (s.startPull k r, x.2.1 + i, x.2.2 + i)
  else if r.safety ∧ s.on Fd.ACT_CTRL_PULLBACK_EN then ((s.startPull k r).beginPull (x.2.2 + i), x.2.1 + i, x.2.2 + i)
  else x

/-- The arbitration of a tick (R329), and the count of the requests that now wait (ACT_CNT_DEFER). -/
def State.arbitrateSol (s : State) : State :=
  let s := (List.range 8).foldl (fun s b => s.yieldSlot b) s
  let cand := (List.range 8).filterMap s.bankFirst
  let cand := sortBy (fun a b => reqBefore a.2 b.2) cand
  let s := (cand.foldl State.admitReq (s, s.fanDraw + s.solDraw, s.solDraw)).1
  ((s.acts.sol.map (·.1)).filter s.solWaits).foldl (fun (s : State) k =>
    match (s.sol k).req with
    | some r => if r.waited ∨ r.rejoin.isSome then s else (s.setSol k { s.sol k with req := some { r with waited := true } }).count Reg.ACT_CNT_DEFER
    | none => s) s

/-- The solenoids at a tick edge: slots freed in the last tick, releases, then the arbitration. -/
def State.solTick (s : State) : State :=
  let s := { s with acts := { s.acts with freeing := [] } }
  let s := ((s.acts.sol.filter (fun p => p.2.release)).map (·.1)).foldl (fun s k => s.doRelease k) s
  if s.acts.sol.any (fun p => p.2.req.isSome) then s.arbitrateSol else s

/-! ### Pull-in, decay and repetition -/

/-- The armature has moved (R324): the dip is timed in 0.1 ms from the start of the pull-in, and RESULT shows MOVED, pending (Table 3). -/
def State.dipped (s : State) (k : Nat) : State :=
  match (s.sol k).pull with
  | some (t, _) =>
    if (s.sol k).dip.isNone ∧ s.clk.now ≤ t + msTicks (s.fld (Fd.SOL_TIME_T_DET k)) then
      ((s.setSol k { s.sol k with dip := some s.clk.now }).set (Fd.SOL_STAT_DIP_MS k) (min ((s.clk.now - t) / 10) 0xFFFE)).solResult k 1
    else s
  | none => s

/-- The tick a pull-in ends in (Table 3). -/
def State.pullEnd (s : State) (k start : Nat) : Nat :=
  let longest := start + msTicks (s.fld (Fd.SOL_TIME_T_PULSE k))
  match (s.sol k).dip with
  | some d => min (d + msTicks (s.fld (Fd.SOL_TIME_T_EXT k))) longest
  | none => longest

/-- The end of a pull-in (R325): HOLD for an ENERGIZE that has moved, else DECAY; without a dip RESULT shows NO_MOVE, pending (Table 3). -/
def State.endPullIn (s : State) (k : Nat) : State :=
  let x := s.sol k
  let moved := x.dip.isSome
  let s := if moved then s.count (Reg.SOL_OPS k) else s
  if moved ∧ x.req.any (fun r => r.op == 2) then
    let s := s.freeSlot k
    let s := (s.setSol k { s.sol k with pull := none }).setSolState k 3
    s.endRequest k 1
  else
    let s := s.setSol k { s.sol k with req := none }
    let s := if moved then s else s.solResult k 2
    s.switchOff k (if moved then 1 else 2) x.req

/-- What a finished decay sets for its request (R325 to R327): MOVED, a repetition, STILL, or the fault NO_MOVE. A request that was
accepted during the decay displaces the repetition. -/
def State.decayResult (s : State) (k pending : Nat) (r : SolReq) : State :=
  if pending = 1 then
    let s := if k < 48 then s.set (Fd.SOL_STAT_POS k) 2 else s
    s.solEnded k r 1
  else if (s.sol k).req.isSome then s.solEnded k r 2
  else if r.tries < s.fld (Fd.SOL_RETRY_RETRIES k) then
    let t := s.clk.now + 1000 * s.fld (Fd.SOL_RETRY_T_RETRY k)
    s.setSol k { s.sol k with req := some { r with tries := r.tries + 1, rejoin := some t } }
  else if k < 48 ∧ r.op = 1 ∧ s.fld (Fd.SOL_STAT_POS k) = 2 then s.solEnded k r 3
  else ((s.solFault k 4).raise Fd.ACT_EVT_SOL_NOMOVE k []).solEnded k r 2

/-- The end of a decay (Table 3). -/
def State.endDecay (s : State) (k : Nat) : State :=
  let x := s.sol k
  let s := s.freeSlot k
  let s := s.setSol k { s.sol k with pending := 0, moves := none }
  let s := match x.moves with
    | some r => s.decayResult k x.pending r
    | none => s
  s.setSolState k (if (s.sol k).req.isSome then 1 else s.solRest k)

/-- A repetition rejoins the arbitration (R326): its deferral clock restarts. -/
def State.rejoin (s : State) (k : Nat) : State :=
  match (s.sol k).req with
  | some r =>
    if r.rejoin.any (fun t => decide (t ≤ s.clk.now)) then
      s.setSol k { s.sol k with req := some { r with rejoin := none, clock := s.clk.now } }
    else s
  | none => s

/-- A request has waited longer than DEFER_MS (R329). -/
def State.deferTimeout (s : State) (k : Nat) : State :=
  match (s.sol k).req with
  | some r =>
    if s.solState k ≠ 2 ∧ s.solState k ≠ 5 ∧ r.rejoin.isNone ∧ r.clock + msTicks (s.fld (Fd.SOL_RETRY_DEFER_MS k)) ≤ s.clk.now then
      ((s.endRequest k 4).count Reg.ACT_CNT_DEFTMO).raise Fd.ACT_EVT_DEFER_TMO k []
    else s
  | none => s

/-! ### Encodings across fields (R323, R325, R330, R350) -/

/-- Whether a SOL_CFG word is legal for channel `k` beside the other channels of its bank. -/
def State.solCfgOk (s : State) (k : Nat) (v : Word) : Bool :=
  let prof := fieldOf v 0 1
  let hold := fieldOf v 16 10
  let cfg (j : Nat) : Word := if j = k then v else s.rd (Reg.SOL_CFG j)
  let l := bankChannels (k / 8)
  let holds := ((l.filter (fun j => fieldOf (cfg j) 0 1 == 1)).map (fun j => fieldOf (cfg j) 16 10)).foldl (· + ·) 0
  let peak := (l.map (fun j => fieldOf (cfg j) 4 12)).foldl max 0
  (if prof = 1 then decide (48 ≤ k) && decide (50 ≤ hold) else hold == 0) && decide (holds + peak ≤ 8000)

/-- Whether a SOL_CMD operation is legal on a channel (R350). -/
def State.solCmdOk (s : State) (k op : Nat) : Bool :=
  match op with
  | 2 | 3 => s.on (Fd.SOL_CFG_PROF k)
  | 5 => decide (k < 48)
  | _ => true

end Sys2Proof.Machine
end

