-- ==== Sys2Proof/Machine/Fans.lean ====
section
/-! DEFINITION. Fans (chapter 08): demand inputs, the fan command with its autonomous table and zone groups, kick, stop and
failure; lockouts, wear counters, and the rows of solenoids, banks and fans that protection has no part in. -/

namespace Sys2Proof.Machine

/-- A fan beside its registers before anything has happened. -/
def Fan.idle : Fan := { kick := none, again := none, edge := 0, ocFrom := none, ocAt := 0, goodFrom := none, ran := 0, suspend := 0 }

/-- A fan's part beside its registers. -/
def State.fan (s : State) (f : Nat) : Fan := Tab.at Fan.idle s.acts.fan f

/-- The state with a fan's part set. -/
def State.setFan (s : State) (f : Nat) (x : Fan) : State := { s with acts := { s.acts with fan := s.acts.fan.put f x } }

/-- FAN_STAT.STATE: 0 OFF, 1 KICK, 2 RUN, 3 STOPPED, 4 LOCKED_ROTOR, 5 TACH_LOST, 6 OVERCURRENT. -/
def State.fanState (s : State) (f : Nat) : Nat := s.fld (Fd.FAN_STAT_STATE f)

/-- The state with FAN_STAT.STATE and the duty applied set. -/
def State.setFanState (s : State) (f st drive : Nat) : State := (s.set (Fd.FAN_STAT_STATE f) st).set (Fd.FAN_STAT_DRIVE f) drive

/-! ### Demand inputs (R337, R338) -/

/-- Whether the loop that targets a demand input is in FAILSAFE through an absent measurement (R290, R338). -/
def State.loopSilent (s : State) (d : Nat) : Bool :=
  s.loopSlots.any (fun q => s.active.tgtKind q == 4 && s.active.tgt q == d && s.on (Fd.LP_STAT_FAILSAFE q) && (s.loop q).act != some 2)

/-- Whether a demand input that is written by the host has been written within FD_TMO (R338). -/
def State.demandFresh (s : State) (d : Nat) : Bool :=
  (Tab.find s.acts.demAt d).any (fun t => decide (s.clk.now < t + sTicks (s.fld Fd.ACT_FAN_CFG_FD_TMO)))

/-- A demand input at a tick edge: a loop's output, or a change of SRC back to HOST. -/
def State.demandTick (s : State) (d : Nat) : State :=
  if s.targeted 4 d then
    let s := match Tab.find s.acts.cmd (4 * 256 + d) with
      | some v => s.set (Fd.ACT_FDEM_VAL d) v
      | none => s
    (s.set (Fd.ACT_FDEM_SRC d) 1).setB (Fd.ACT_FDEM_SILENT d) (s.loopSilent d)
  else if s.on (Fd.ACT_FDEM_SRC d) then (s.set (Fd.ACT_FDEM_SRC d) 0).setB (Fd.ACT_FDEM_SILENT d) (!s.demandFresh d)
  else s

/-- A write of ACT_FDEMd (R337): ignored while a loop targets the input. -/
def State.writeDemand (s : State) (d : Nat) (v : Word) : State :=
  if s.targeted 4 d then s else
    let s := (s.set (Fd.ACT_FDEM_VAL d) (fieldOf v 0 16)).set (Fd.ACT_FDEM_SILENT d) 0
    { s with acts := { s.acts with demAt := s.acts.demAt.put d s.clk.now } }

/-- The value of a demand input, if it is present and not silent. -/
def State.fanDemand (s : State) (d : Nat) : Option Nat :=
  if s.on (Fd.ACT_FDEM_SILENT d) ∨ (s.on (Fd.ACT_FDEM_SRC d) ∧ ¬ Tab.has s.acts.cmd (4 * 256 + d)) then none
  else some (s.fld (Fd.ACT_FDEM_VAL d))

/-! ### The fan command (R339, R340, R343) -/

/-- The demand inputs in a fan's zone mask. -/
def State.zones (s : State) (f : Nat) : List Nat :=
  let m := (s.rd (Reg.FAN_ZMASK0 f)).toNat + 2 ^ 32 * (s.rd (Reg.FAN_ZMASK1 f)).toNat
  if m = 0 then [] else (List.range 64).filter (fun d => bitOf m d)

/-- The autonomous table of a fan (R340). -/
def State.fanTable (s : State) (f : Nat) : Nat :=
  let pts := (List.range 4).map (fun i => (signedOf 16 (s.fld (Fd.FAN_AT_X f i)), (s.fld (Fd.FAN_AT_Y f i) : Int)))
  if s.on (Fd.FAN_AT_IN_EN f) ∧ risingX pts then
    match s.fieldValue (s.fld (Fd.FAN_AT_IN_IN f)) with
    | some x => (clampInt 0 32767 (curve pts x)).toNat
    | none => 32767
  else 32767

/-- Whether a fan's command is formed with its autonomous table. -/
def State.fanAuto (s : State) (f : Nat) : Bool := (s.zones f).isEmpty || (s.zones f).any (fun d => s.on (Fd.ACT_FDEM_SILENT d))

/-- The command a fan takes from its zones. -/
def State.zoneCommand (s : State) (f : Nat) : Nat :=
  let live := (s.zones f).filterMap s.fanDemand
  let live := if s.fanAuto f then live ++ [s.fanTable f] else live
  if live.isEmpty then 32767 else live.foldl max 0

/-- Whether a fan counts as failed (R343). -/
def State.fanFailed (s : State) (f : Nat) : Bool :=
  let st := s.fanState f
  decide (3 ≤ st) || (st == 1 && decide (2 ≤ s.fld (Fd.FAN_STAT_ATTEMPT f)))

/-- The zone groups in which a fan is failed. -/
def State.failedGroups (s : State) : List Nat :=
  (List.range 32).foldl (fun l f =>
    let g := s.fld (Fd.FAN_CFG_ZGROUP f)
    if g ≠ 0 ∧ s.fanFailed f ∧ ¬ l.contains g then l ++ [g] else l) []

/-- Whether the group rule raises a fan (R343). -/
def State.groupFull (s : State) (f : Nat) : Bool := s.acts.groups.contains (s.fld (Fd.FAN_CFG_ZGROUP f)) && !s.fanFailed f

/-- A fan's command (R308, R339). -/
def State.fanCommand (s : State) (f : Nat) : Nat :=
  if s.prt.fanOvr then 32767
  else if s.on (Fd.FAN_LOCK_LOCK f) then s.fld (Fd.FAN_LOCK_LOCKVAL f)
  else if s.groupFull f then 32767
  else s.zoneCommand f

/-- The duty of a command (R339). -/
def fanDuty (cmd minDuty : Nat) (allowOff : Bool) : Nat := if cmd = 0 ∧ allowOff then 0 else max cmd (minDuty * 32767 / 100)

/-- The duty a fan is to run at. -/
def State.fanGoal (s : State) (f : Nat) : Nat := fanDuty (s.fanCommand f) (s.fld (Fd.FAN_CFG_MIN_DUTY f)) (s.on (Fd.FAN_CFG_ALLOW_OFF f))

/-! ### Kick, stop and failure (R341, R342) -/

/-- The fans that kick (R341): a kick lasts from its first attempt to its start or its end (Table 4). -/
def State.kicking (s : State) : Nat := ((List.range 32).filter (fun f => s.fanState f == 1)).length

/-- Whether another fan may kick. -/
def State.mayKick (s : State) : Bool := decide (s.kicking < s.fld Fd.ACT_FAN_CFG_KICK_MAX)

/-- A kick attempt begins (Table 4): switch on, PWM at 100 %. -/
def State.kick (s : State) (f attempt : Nat) : State :=
  let s := s.setFan f { s.fan f with kick := some s.clk.now, again := none, goodFrom := none, ocFrom := none }
  (s.setFanState f 1 32767).set (Fd.FAN_STAT_ATTEMPT f) attempt

/-- The switch of a fan goes off. -/
def State.fanOff (s : State) (f st : Nat) : State :=
  (s.setFan f { s.fan f with kick := none, again := none, goodFrom := none, ocFrom := none }).setFanState f st 0

/-- A locked rotor (Table 4). -/
def State.lockRotor (s : State) (f : Nat) : State := (s.fanOff f 4).raise Fd.ACT_EVT_FAN_LOCKED f []

/-- Run time in minutes (R346): RUN and TACH_LOST count. -/
def State.fanRan (s : State) (f : Nat) : State :=
  let n := (s.fan f).ran + 1
  if sTicks 60 ≤ n then (s.setFan f { s.fan f with ran := 0 }).count (Reg.FAN_RUNH f) else s.setFan f { s.fan f with ran := n }

/-- A STOPPED fan kicks again, continuing the attempt count of its last kick (R342). -/
def State.rekick (s : State) (f : Nat) : State :=
  let n := s.fld (Fd.FAN_STAT_ATTEMPT f)
  if 3 ≤ n then s.lockRotor f else if s.mayKick then s.kick f (n + 1) else s

/-- A fan at a tick edge. -/
def State.fanTick (s : State) (f : Nat) : State :=
  let auto := s.fanAuto f
  let s := if auto ∧ ¬ s.on (Fd.FAN_STAT_AUTO f) then s.raise Fd.ACT_EVT_FAN_AUTO f [] else s
  let s := ((s.setB (Fd.FAN_STAT_AUTO f) auto).setB (Fd.FAN_STAT_GFULL f) (s.groupFull f)).setB (Fd.FAN_STAT_OVR f) s.prt.fanOvr
  let d := s.fanGoal f
  match s.fanState f with
  | 0 => if d ≠ 0 ∧ s.mayKick then s.kick f 1 else s
  | 1 => if d = 0 then s.fanOff f 0 else s
  | 2 => if d = 0 then s.fanOff f 0 else (s.set (Fd.FAN_STAT_DRIVE f) d).fanRan f
  | 3 => if d = 0 then s.fanOff f 0 else s.rekick f
  | 5 => s.fanRan f
  | _ => s

/-- The zone groups at a tick edge (R343). -/
def State.groupTick (s : State) : State :=
  let now := s.failedGroups
  let s := (now.filter (fun g => !s.acts.groups.contains g)).foldl (fun s g => s.raise Fd.ACT_EVT_GROUP_FULL g []) s
  { s with acts := { s.acts with groups := now } }

/-- All fans at a tick edge. -/
def State.fansTick (s : State) : State :=
  let l : List Nat := s.listed (Reg.ACT_FDEM 0) 4 64 ++ ((s.acts.cmd.filter (fun p => p.1 / 256 == 4)).map (fun p => p.1 % 256))
  let s := l.foldl (fun (s : State) d => if d < 64 then s.demandTick d else s) s
  (List.range 32).foldl (fun s f => s.fanTick f) s.groupTick

/-- The tests of a fan are suspended under a pull-back and for 1 s after it (R336). -/
def State.fanSuspended (s : State) (f : Nat) : Bool := s.on (Fd.FAN_STAT_PULLBACK f) || decide (s.clk.now < (s.fan f).suspend)

/-- Whether no tach edge has come for two expected periods (R342): a period is 60 s over rpm and pulses per revolution, the speed
never less than 10 % of RATED. -/
def State.tachLate (s : State) (f : Nat) : Bool :=
  decide (120000000 ≤ (s.clk.now - (s.fan f).edge) * max (10 * s.fld (Fd.FAN_MEAS_RPM f)) (s.fld (Fd.FAN_CFG_RATED f)) *
    (s.fld (Fd.FAN_CFG_PPR f) + 1))

/-- A tach edge as latched. -/
def State.latchTach (s : State) (f rpm : Nat) : State :=
  let good := decide (2 * rpm ≤ 3 * s.fld (Fd.FAN_CFG_RATED f))
  let x := s.fan f
  let from_ := if s.tachLate f then none else x.goodFrom
  let s := s.setFan f { x with edge := s.clk.now, goodFrom := if good then from_.orElse (fun _ => some s.clk.now) else none }
  s.set (Fd.FAN_MEAS_RPM f) rpm

/-- A fan's current as latched. -/
def State.latchFan (s : State) (f ma : Nat) : State :=
  let x := s.fan f
  let s := s.setFan f { x with ocFrom := if 1250 < ma then x.ocFrom.orElse (fun _ => some s.clk.now) else none }
  s.set (Fd.FAN_MEAS_MA f) ma

/-- FAN_KICK_TIMEOUT (R341): 3 s of an attempt without a start, or the time of the next attempt. -/
def execFanKickTimeout (f : Fin 32) (s : State) : Host.Outcome State Fault Refusal :=
  .next <|
    let x := s.fan f
    let n := s.fld (Fd.FAN_STAT_ATTEMPT f)
    if s.fanState f ≠ 1 then s else
    match x.kick, x.again with
    | some t, _ =>
      if t + sTicks 3 ≤ s.clk.now then
        if 3 ≤ n then s.lockRotor f
        else (s.setFan f { x with kick := none, again := some (t + sTicks 5) }).set (Fd.FAN_STAT_DRIVE f) 0
      else s
    | none, some t => if t ≤ s.clk.now then s.kick f (n + 1) else s
    | none, none => s

/-- FAN_STARTED (R341): the tach reaches 10 % of RATED during a kick. -/
def execFanStarted (f : Fin 32) (s : State) : Host.Outcome State Fault Refusal :=
  .next <|
    let x := s.fan f
    if s.fanState f = 1 ∧ x.kick.any (fun t => decide (t ≤ x.edge) && decide (s.clk.now ≤ t + sTicks 3)) ∧
       s.fld (Fd.FAN_CFG_RATED f) ≤ 10 * s.fld (Fd.FAN_MEAS_RPM f) then
      ((s.setFan f { x with kick := none, again := none, ocFrom := none }).setFanState f 2 (s.fanGoal f)).count (Reg.FAN_STARTS f)
    else s

/-- FAN_TACH_TIMEOUT (R342): TACH_LOST with the current at FLOOR_MA or above, else STOPPED. -/
def execFanTachTimeout (f : Fin 32) (s : State) : Host.Outcome State Fault Refusal :=
  .next <|
    if s.fanState f = 2 ∧ s.tachLate f ∧ ¬ s.fanSuspended f then
      if s.fld (Fd.FAN_FLOOR_FLOOR_MA f) ≤ s.fld (Fd.FAN_MEAS_MA f) then
        ((s.setFan f { s.fan f with goodFrom := none }).set (Fd.FAN_STAT_STATE f) 5).raise Fd.ACT_EVT_TACH_LOST f []
      else s.fanOff f 3
    else s

/-- FAN_OVERCURRENT (R342): the current of a fan in RUN has been above 1.25 A for 1 ms. -/
def execFanOvercurrent (f : Fin 32) (s : State) : Host.Outcome State Fault Refusal :=
  .next <|
    if s.fanState f = 2 ∧ (s.fan f).ocFrom.any (fun t => decide (t + msTicks 1 ≤ s.clk.now)) then
      let s := s.fanOff f 6
      (s.setFan f { s.fan f with ocAt := s.clk.now }).raise Fd.ACT_EVT_FAN_OC f [s.fld (Fd.FAN_MEAS_MA f)]
    else s

/-- FAN_OC_RETRY (R342): 5 s after an overcurrent, up to the third attempt. -/
def execFanOcRetry (f : Fin 32) (s : State) : Host.Outcome State Fault Refusal :=
  .next <|
    let n := s.fld (Fd.FAN_STAT_ATTEMPT f)
    if s.fanState f = 6 ∧ n < 3 ∧ (s.fan f).ocAt + sTicks 5 ≤ s.clk.now ∧ s.mayKick then s.kick f (n + 1) else s

/-- FAN_TACH_RECOVERED (R342): a TACH_LOST fan has shown tach edges within 0 to 150 % of RATED for 1 s. -/
def execFanTachRecovered (f : Fin 32) (s : State) : Host.Outcome State Fault Refusal :=
  .next <|
    if s.fanState f = 5 ∧ ¬ s.tachLate f ∧ (s.fan f).goodFrom.any (fun t => decide (t + sTicks 1 ≤ s.clk.now)) then
      s.setFanState f 2 (s.fanGoal f)
    else s

/-- The effect of FAN_CMD.RETRY (R342). -/
def State.fanRetry (s : State) (f : Nat) : State :=
  if s.fanState f = 4 ∨ (s.fanState f = 6 ∧ 3 ≤ s.fld (Fd.FAN_STAT_ATTEMPT f)) then
    let s := (s.fanOff f 0).set (Fd.FAN_STAT_ATTEMPT f) 0
    if s.fanGoal f ≠ 0 ∧ s.mayKick then s.kick f 1 else s
  else s

/-- FAN_RETRY (R342): a write of FAN_CMD with OP = RETRY. -/
def execFanRetry (w : Fin 8) (f : Fin 32) (s : State) : Host.Outcome State Fault Refusal :=
  .next (s.writeRow w (Reg.FAN_CMD f) 1 true (fun s => s.fanRetry f))

/-- FAN_DEMAND_SILENT (R338): a HOST demand input has not been written for FD_TMO. -/
def execFanDemandSilent (d : Fin 64) (s : State) : Host.Outcome State Fault Refusal :=
  .next <| if ¬ s.on (Fd.ACT_FDEM_SRC d) ∧ ¬ s.demandFresh d then s.set (Fd.ACT_FDEM_SILENT d) 1 else s

/-- ACTUATOR_OVERBUDGET (R335): the draw has exceeded the budget for 5 ms with no pull-in in progress. -/
def execActuatorOverbudget (s : State) : Host.Outcome State Fault Refusal :=
  .next <|
    if ¬ s.on Fd.ACT_STAT_OVERBUDGET ∧ ¬ s.anyPull ∧ s.acts.overFrom.any (fun t => decide (t + msTicks 5 ≤ s.clk.now)) then
      let s := (s.set Fd.ACT_STAT_OVERBUDGET 1).raise Fd.ACT_EVT_OVERBUDGET noObj [(s.fanDraw + s.solDraw) / 10]
      s.beginPull s.solDraw
    else s

/-! ### Wear counters (R346) -/

/-- The words of the wear counters that have counted. -/
def State.wearWords (s : State) : List (Nat × Word) :=
  s.regs.filter (fun p =>
    let o := p.1 - 0x7000000
    decide (0x7010000 ≤ p.1) && decide (p.1 < 0x7041000) &&
    ((decide (o < 0x10200) && (o % 0x40 == 0x24 || o % 0x40 == 0x28)) ||
     (decide (0x20000 ≤ o) && decide (o < 0x20800) && o % 0x20 == 0x10) ||
     (decide (0x30000 ≤ o) && decide (o < 0x30800) && o % 0x20 == 0x1C) ||
     (decide (0x40000 ≤ o) && (o % 0x40 == 0x34 || o % 0x40 == 0x38))))

/-- WEAR_COUNTER_SAVE (R346): every 10 minutes. -/
def execWearCounterSave (s : State) : Host.Outcome State Fault Refusal :=
  .next <| if s.acts.wearAt + sTicks 600 ≤ s.clk.now then
    { s with acts := { s.acts with nvWear := s.wearWords, wearAt := s.clk.now } } else s

/-! ### Lockouts (R309, R319) -/

/-- A pump's lockout as it stands takes effect: the pump stops unless an override drives it, and a DUTY pump that is meant to run
is substituted, normal-class. -/
def State.lockPump (s : State) (p : Nat) (was : Bool) : State :=
  let now := s.pumpLocked p
  let s := s.setB (Fd.PMP_STAT_LOCK p) now
  if now ∧ ¬ was then
    let meant := s.fld (Fd.PMP_CFG_ROLE p) == 0 && ((s.pump p).intent || s.pumpDriven p) && !s.on (Fd.PMP_STAT_SUBST_VALID p)
    let s := if (s.pumpOverride p).isSome then s else s.stopPump p
    if meant then s.substitutePump p false else s
  else s

/-- The word of a channel's lockout. -/
def lockAddr : LockChannel → Nat
  | .pump p => Reg.PMP_LOCK p
  | .valve v => Reg.VLV_LOCK v
  | .solenoid k => Reg.SOL_LOCK k
  | .fan f => Reg.FAN_LOCK f

/-- A write of a lockout word takes effect. -/
def State.writeLock (s : State) (c : LockChannel) (v : Word) : State :=
  let t := s.plainWrite (lockAddr c) v
  match c with
  | .pump p => t.lockPump p (s.pumpLocked p)
  | .valve n => t.setB (Fd.VLV_STAT_LOCK n) (t.on (Fd.VLV_LOCK_LOCK n))
  | .solenoid k =>
    let on := t.on (Fd.SOL_LOCK_LOCK k)
    let t := t.setB (Fd.SOL_STAT_LOCK k) on
    if on ∧ ¬ s.on (Fd.SOL_LOCK_LOCK k) then t.lockSol k else t
  | .fan f => t.setB (Fd.FAN_STAT_LOCK f) (t.on (Fd.FAN_LOCK_LOCK f))

/-- LOCKOUT_WRITE (R309). -/
def execLockoutWrite (w : Fin 8) (c : LockChannel) (value : Word) (s : State) : Host.Outcome State Fault Refusal :=
  .next (s.writeRow w (lockAddr c) value true (fun s => s.writeLock c value))

/-! ### Solenoid and bank rows without a part in protection -/

/-- SOL_PULSE (R328). -/
def execSolPulse (w : Fin 8) (k : Fin 64) (s : State) : Host.Outcome State Fault Refusal :=
  .next (s.writeRow w (Reg.SOL_CMD k) 1 true (fun s => s.submit k 1 false))

/-- SOL_ENERGIZE (R328): reserved on PULSE channels. -/
def execSolEnergize (w : Fin 8) (k : Fin 64) (s : State) : Host.Outcome State Fault Refusal :=
  .next (s.writeRow w (Reg.SOL_CMD k) 2 (s.solCmdOk k 2) (fun s => s.submit k 2 false))

/-- A RELEASE is noted for the next tick (R328). -/
def State.askRelease (s : State) (k : Nat) : State := s.setSol k { s.sol k with release := true }

/-- SOL_RELEASE (R328): reserved on PULSE channels. -/
def execSolRelease (w : Fin 8) (k : Fin 64) (s : State) : Host.Outcome State Fault Refusal :=
  .next (s.writeRow w (Reg.SOL_CMD k) 3 (s.solCmdOk k 3) (fun s => s.askRelease k))

/-- SOL_TEST (R328, R331). -/
def execSolTest (w : Fin 8) (k : Fin 64) (s : State) : Host.Outcome State Fault Refusal :=
  .next (s.writeRow w (Reg.SOL_CMD k) 4 true (fun s => s.submit k 4 false))

/-- SOLENOID_ARMATURE_DIP (R324). -/
def execSolenoidArmatureDip (k : Fin 64) (s : State) : Host.Outcome State Fault Refusal :=
  .next <| if s.solState k = 2 then s.dipped k else s

/-- SOLENOID_PULLIN_END (R325). -/
def execSolenoidPullinEnd (k : Fin 64) (s : State) : Host.Outcome State Fault Refusal :=
  .next <|
    match (s.sol k).pull with
    | some (t, _) => if s.solState k = 2 ∧ s.pullEnd k t ≤ s.clk.now then s.endPullIn k else s
    | none => s

/-- SOLENOID_RETRY (R326). -/
def execSolenoidRetry (k : Fin 64) (s : State) : Host.Outcome State Fault Refusal :=
  .next (s.rejoin k)

/-- SOLENOID_SELF_TEST (R331, R344): the test of a channel at rest once every 60 s, or the test a TEST request has reached.
`outcome`: 0 pass, 1 OPEN_COIL, 2 DRIVER. -/
def execSolenoidSelfTest (k : Fin 64) (outcome : Fin 3) (s : State) : Host.Outcome State Fault Refusal :=
  .next <|
    if s.solState k = 5 then
      let s := (s.testOutcome k outcome)
      let s := s.endRequest k (if s.fld (Fd.SOL_STAT_FAULT k) = 0 then 0 else 9)
      s.setSolState k (s.solRest k)
    else if s.on Fd.ACT_CTRL_SELFTEST_EN ∧ (s.solState k = 0 ∨ s.solState k = 6) ∧ ¬ s.slotTaken (k / 8) ∧ ¬ s.bankCut (k / 8) ∧
        (s.sol k).testAt + sTicks 60 ≤ s.clk.now then s.testOutcome k outcome
    else s

/-- The effect of BANK_CMD.RECLOSE (R332): `passes` says whether the test finds no cause that persists. -/
def State.tryReclose (s : State) (b : Nat) (passes : Bool) : State := if s.bankCut b ∧ passes then s.reclose b else s

/-- BANK_CMD_RECLOSE (R332). -/
def execBankCmdReclose (w : Fin 8) (b : Fin 8) (passes : Bool) (s : State) : Host.Outcome State Fault Refusal :=
  .next (s.writeRow w (Reg.BANK_CMD b) 2 true (fun s => s.tryReclose b passes))

/-- BANK_SUPPLY_RECLOSE (R332): the bus has been above 40 V for 100 ms. -/
def execBankSupplyReclose (b : Fin 8) (s : State) : Host.Outcome State Fault Refusal :=
  .next <| if s.bankCut b ∧ s.fld (Fd.BANK_STAT_REASON b) = 5 ∧ s.acts.busFrom.any (fun t => decide (t + msTicks 100 ≤ s.clk.now)) then
    s.reclose b else s

end Sys2Proof.Machine
end

