-- ==== Sys2Proof/Machine/Guard.lean ====
section
/-! DEFINITION. Protection (chapter 09): sequences and alarms with what they hold, protective caps, trips and overrides, FULLCOOL,
leak bands and isolation, flow averages, and the judgement of die limits and limit entries. -/

namespace Sys2Proof.Machine

/-! ### Parts -/

def FlowAvg.empty : FlowAvg := ⟨0, 0, false, []⟩

/-- A rack about which protection knows nothing. -/
def RackP.idle : RackP :=
  { sup := FlowAvg.empty, ret := FlowAvg.empty, above := none, reversed := none, balanced := none, bad := none, ref := 0,
    leakAt := none, asked := false, force := false, inputs := [], imb := false, imbTold := false, fastTold := false, gfTold := false,
    rfTold := false, closedAt := none, isoTrip := false, clear := [], noticeAt := 0, notices := 0 }

/-- A rack's part. -/
def State.rackP (s : State) (r : Nat) : RackP := Tab.at RackP.idle s.prt.rack r

/-- The state with a rack's part set. -/
def State.setRackP (s : State) (r : Nat) (x : RackP) : State := { s with prt := { s.prt with rack := s.prt.rack.put r x } }

/-- A leak input's part. -/
def State.leakIn (s : State) (i : Nat) : LeakIn := Tab.at ⟨0, 0, 0, none, false⟩ s.prt.leak i

/-- The state with a leak input's part set. -/
def State.setLeakIn (s : State) (i : Nat) (x : LeakIn) : State := { s with prt := { s.prt with leak := s.prt.leak.put i x } }

/-- A limit entry's part. -/
def State.limP (s : State) (e : Nat) : LimP := Tab.at ⟨none, false, none⟩ s.prt.lim e

/-- The state with a limit entry's part set. -/
def State.setLimP (s : State) (e : Nat) (x : LimP) : State := { s with prt := { s.prt with lim := s.prt.lim.put e x } }

/-- Bits of Table 1. -/
def seqGfault : Nat := 0
def seqLeak : Nat := 1
def seqLeakFast : Nat := 2
def seqRflow : Nat := 3
def seqDieHard : Nat := 4
def seqIsoFail : Nat := 5
def seqCmdTrip : Nat := 6
def seqLimHard : Nat := 7

/-- Whether a bit of RK_ACT.ACTIVE is set. -/
def State.rackActive (s : State) (r b : Nat) : Bool := bitOf (s.fld (Fd.RK_ACT_ACTIVE r)) b

/-- Whether a bit of PRT_LOOPSTAT.ACTIVE is set. -/
def State.loopActive (s : State) (b : Nat) : Bool := bitOf (s.fld Fd.PRT_LOOPSTAT_ACTIVE) b

/-- The racks of which a word or a part is listed. -/
def State.racksListed (s : State) : List Nat :=
  let l := s.listed (Reg.RK_FLOWSRC 0) 0x40 48
  l ++ (s.prt.rack.map (·.1)).filter (fun r => !l.contains r)

/-- The racks whose outputs may differ from reset: every rack while a loop-level sequence stands. -/
def State.racksInUse (s : State) : List Nat :=
  if s.fld Fd.PRT_LOOPSTAT_ACTIVE = 0 then sortBy (fun a b => decide (a ≤ b)) s.racksListed else List.range 48

/-- Whether any sequence is active (R357): alarms do not count. -/
def State.anySequence (s : State) : Bool :=
  s.fld Fd.PRT_LOOPSTAT_ACTIVE % 128 != 0 || s.racksListed.any (fun r => s.fld (Fd.RK_ACT_ACTIVE r) % 256 != 0)

/-! ### Flow (R363, R373) -/

/-- A source's reading enters its average; at the end of a millisecond its bucket closes. -/
def FlowAvg.step (f : FlowAvg) (v : Option Int) (close : Bool) : FlowAvg :=
  let f := match v with
    | some x => { f with sum := f.sum + x, n := f.n + 1 }
    | none => { f with gone := true }
  if close then ⟨0, 0, false, (((if f.gone then none else some (f.sum, f.n)) :: f.ms).take 1010)⟩ else f

/-- The mean over `k` closed milliseconds, `skip` milliseconds ago, absent where one is absent or missing. -/
def FlowAvg.mean (f : FlowAvg) (skip k : Nat) : Option Int :=
  let l := (f.ms.drop skip).take k
  if l.length < k then none else
    (l.foldl (fun (m : Option (Int × Nat)) b => m.bind (fun x => b.map (fun y => (x.1 + y.1, x.2 + y.2)))) (some (0, 0))).bind
      (fun x => if x.2 = 0 then none else some (x.1 / (x.2 : Int)))

/-- Q10 of this millisecond (R373). -/
def FlowAvg.q10 (f : FlowAvg) : Option Int := f.mean 0 10

/-- The Q10 of 100 ms earlier. -/
def FlowAvg.q10Before (f : FlowAvg) : Option Int := f.mean 100 10

/-- Whether a rack is isolated (R370): POS of its channel reads CLOSED. -/
def State.isolated (s : State) (r : Nat) : Bool := s.fld (Fd.SOL_STAT_POS r) == 2

/-- A flow source's value (Table 9, PRT_FLOW_SRC). -/
def State.flowValue (s : State) (kind idx : Nat) : Option Int := if kind = 1 ∨ kind = 4 then s.source2 kind idx else none

/-- The flow averages of a rack at a tick edge, and since when a named source is absent (R364). -/
def State.rackFlow (s : State) (r : Nat) (close : Bool) : State :=
  let w := s.rd (Reg.RK_FLOWSRC r)
  let ks := fieldOf w 0 3
  let kr := fieldOf w 16 3
  if ks = 0 ∧ kr = 0 then s else
    let a := s.flowValue ks (fieldOf w 8 8)
    let b := s.flowValue kr (fieldOf w 24 8)
    let gone := (ks != 0 && a.isNone) || (kr != 0 && b.isNone)
    let x := s.rackP r
    s.setRackP r { x with
      sup := x.sup.step a close, ret := x.ret.step b close
      bad := if gone then x.bad.orElse (fun _ => some s.clk.now) else none }

/-- The loop flow's averages at a tick edge. -/
def State.loopFlow (s : State) (close : Bool) : State :=
  let k := s.fld Fd.PRT_FLOW_SRC_KIND
  if k = 0 then { s with prt := { s.prt with flow := FlowAvg.empty, gone := none } } else
    let v := s.flowValue k (s.fld Fd.PRT_FLOW_SRC_IDX)
    { s with prt := { s.prt with
        flow := s.prt.flow.step v close
        gone := if v.isNone then s.prt.gone.orElse (fun _ => some s.clk.now) else none } }

/-- Ticks of FAULT_CONF (R361). -/
def State.faultConf (s : State) : Nat := 10000 * s.fld Fd.PRT_LEAK_CFG0_FAULT_CONF

/-- Ticks of IMB_PERSIST. -/
def State.imbPersist (s : State) : Nat := 10000 * s.fld Fd.PRT_LEAK_CFG1_IMB_PERSIST

/-- Ticks of CLEAR_S. -/
def State.clearTicks (s : State) : Nat := sTicks (s.fld Fd.PRT_FC_CFG_CLEAR_S)

/-- Whether a time since has reached a duration. -/
def State.since (s : State) (from_ : Option Nat) (ticks : Nat) : Bool := from_.any (fun t => decide (t + ticks ≤ s.clk.now))

/-! ### Leak inputs (R360 to R362) -/

/-- EOL in ohms and EN of a leak input. -/
def State.leakCfg (s : State) (i : Nat) : Nat × Bool :=
  if i < 48 then (10 * s.fld (Fd.ROPE_CFG_EOL i), s.on (Fd.ROPE_CFG_EN i))
  else (10 * s.fld (Fd.SPOT_CFG_EOL (i - 48)), s.on (Fd.SPOT_CFG_EN (i - 48)))

/-- The address of a leak input's status word. -/
def leakStat (i : Nat) : Nat := if i < 48 then Reg.ROPE_STAT i else Reg.SPOT_STAT (i - 48)

/-- The band of a resistance (Table 3): 0 DRY, 1 WET, 2 OPEN, 3 SHORT. -/
def leakBand (r eol wet open_ : Nat) : Nat :=
  if r < 50 then 3 else if r * 100 < wet * eol then 1 else if open_ * eol < r * 100 then 2 else 0

/-- The rack a leak input guards (R362): 48 for the loop level, none where it guards nothing. -/
def State.guards (s : State) (i : Nat) : Option Nat :=
  if i < 48 then some i else
    let l := s.fld (Fd.SPOT_CFG_LOC (i - 48))
    if l < 48 then some l else if l = 0xFE then some 48 else none

/-- Confirmed wet, and faulted, as the status word shows. -/
def State.wetConf (s : State) (i : Nat) : Bool := fieldOf (s.rd (leakStat i)) 2 1 == 1
def State.leakFaulted (s : State) (i : Nat) : Bool := fieldOf (s.rd (leakStat i)) 3 1 == 1

/-- One measurement of a leak input (R360, R361); one that is not supervised is neither confirmed wet nor faulted. -/
def State.measureLeak (s : State) (i : Nat) : State :=
  let c := s.leakCfg i
  if ¬ c.2 then
    if s.rd (leakStat i) = 0 then s else
      (s.setLeakIn i { s.leakIn i with wet := 0, bad := 0, dryFrom := none, told := false }).wr (leakStat i) 0
  else
    let x := s.leakIn i
    let b := leakBand x.res c.1 (s.fld Fd.PRT_LEAK_CFG1_WET_PCT) (s.fld Fd.PRT_LEAK_CFG1_OPEN_PCT)
    let wet := if b = 1 then x.wet + 1 else 0
    let bad := if 2 ≤ b then x.bad + 1 else 0
    let conf := if i < 48 then s.fld Fd.PRT_LEAK_CFG0_LEAK_CONF else s.fld Fd.PRT_LEAK_CFG0_SPOT_CONF
    let isWet := decide (conf ≤ wet)
    let isBad := decide (100 * s.fld Fd.PRT_LEAK_CFG0_FAULT_CONF ≤ bad)
    let s := s.setLeakIn i { x with
      wet := wet, bad := bad, told := x.told && isWet
      dryFrom := if b = 0 then x.dryFrom.orElse (fun _ => some s.clk.now) else none }
    s.wr (leakStat i) (BitVec.ofNat 32 (b + (if isWet then 4 else 0) + (if isBad then 8 else 0) + 65536 * min (x.res / 10) 65535))

/-- The leak inputs measured at least once. -/
def State.leakInputs (s : State) : List Nat := s.prt.leak.map (·.1)

/-- The inputs guarding a rack (or the loop level, 48) that are confirmed wet. -/
def State.wetGuards (s : State) (r : Nat) : List Nat := s.leakInputs.filter (fun i => s.guards i == some r && s.wetConf i)

/-- Whether a guarding input of a rack is faulted (R364). -/
def State.rackFaulted (s : State) (r : Nat) : Bool :=
  s.leakInputs.any (fun i => s.guards i == some r && s.leakFaulted i) ||
  s.since (s.rackP r).bad s.faultConf || s.since (s.rackP r).reversed s.imbPersist

/-- Whether a loop-level input is faulted (R364). -/
def State.loopFaulted (s : State) : Bool :=
  s.leakInputs.any (fun i => s.guards i == some 48 && s.leakFaulted i) || s.since s.prt.gone s.faultConf

/-! ### Caps, trips and overrides (R355, R370, R378, R385, R390) -/

/-- Whether an active limit entry of a scope (48 for the loop level) has an action. -/
def State.limHolds (s : State) (scope action : Nat) : Bool :=
  s.prt.lim.any (fun p => p.2.active && p.1 != 0 && s.fld (Fd.LIM_CFG_SCOPE p.1) == (if scope = 48 then 0xFE else scope) &&
    s.fld (Fd.LIM_CFG_ACTION p.1) == action)

/-- The protective cap of a rack (R355): 0 none, 1 LEAKWATCH, 2 SURVIVAL. -/
def State.capOf (s : State) (r : Nat) : Nat :=
  let act := s.rackActive r
  if act seqLeak || act seqLeakFast || act seqRflow || act seqIsoFail || (act seqLimHard && s.limHolds r 2) || s.isolated r ||
     (s.loopActive 0 && s.prt.slowStep == 2) || s.loopActive 1 || (s.loopActive 3 && s.limHolds 48 2) then 2
  else if act seqGfault || (act seqLimHard && s.limHolds r 1) || (s.loopActive 0 && s.prt.slowStep == 1) || s.loopActive 4 ||
     s.loopActive 5 || s.loopActive 6 || (s.loopActive 3 && s.limHolds 48 1) then 1
  else 0

/-- The cause of a rack's trip as its Table 1 bit, none where nothing holds a trip (R385, R29): a standing isolation counts as LEAK,
a loop-level limit as LIM_HARD, and SURVIVAL without a port die as the sequence that holds it. -/
def State.tripCause (s : State) (r : Nat) : Option Nat :=
  if s.rackActive r seqDieHard then some seqDieHard
  else if s.rackActive r seqIsoFail then some seqIsoFail
  else if s.rackActive r seqCmdTrip then some seqCmdTrip
  else if (s.rackActive r seqLimHard && s.limHolds r 3) || s.loopActive 2 || (s.loopActive 3 && s.limHolds 48 3) then some seqLimHard
  else if s.isolated r && (s.rackP r).isoTrip then some seqLeak
  else if s.portAbsent && s.capOf r == 2 then some (if s.rackActive r seqRflow then seqRflow else seqLeak)
  else none

/-- Whether a sequence that holds a rack's trip awaits acknowledgement (R385). Table 4 of chapter 09 repeats the notice of a standing
isolation while its LEAK awaits it. -/
def State.tripAck (s : State) (r : Nat) : Bool :=
  let a := s.fld (Fd.RK_ACT_ACK_REQ r) &&& s.fld (Fd.RK_ACT_ACTIVE r)
  let l := s.fld Fd.PRT_LOOPSTAT_ACK_REQ &&& s.fld Fd.PRT_LOOPSTAT_ACTIVE
  bitOf a seqDieHard || bitOf a seqIsoFail || bitOf a seqCmdTrip || (bitOf a seqLimHard && s.limHolds r 3) || bitOf l 2 ||
  (bitOf l 3 && s.limHolds 48 3) || ((s.rackP r).isoTrip && (bitOf a seqLeak || bitOf a seqLeakFast)) ||
  (s.portAbsent && (bitOf a seqLeak || bitOf a seqLeakFast || bitOf a seqRflow || bitOf l 1))

/-- The power-off notice of a rack to every session that holds FACILITY (R385, R436); none with the main die absent. -/
def State.powerOff (s : State) (r cause rep : Nat) : State :=
  if s.mainAbsent then s else
    let s := s.setRackP r { s.rackP r with noticeAt := s.clk.now, notices := rep }
    (s.openSlots.filter (fun k => s.hasRole k roleFacility)).foldl (fun s k => s.notice k 2 [r, cause, 0, rep]) s

/-- The state with a field set where it differs. -/
def State.setIf (s : State) (f : Fld) (v : Nat) : State := if s.fld f = v then s else s.set f v

/-- Whether a rack is under hard-limit watch (R378). -/
def State.watched (s : State) (r : Nat) : Bool := s.rackActive r seqRflow || s.loopActive 1

/-- The outputs of one rack (R355, R370, R378, R385, R386). -/
def State.settleRack (s : State) (r : Nat) : State :=
  let iso := s.isolated r
  let s := (((s.setIf (Fd.RK_OUT_CAP r) (s.capOf r)).setIf (Fd.RK_OUT_ISOLATED r) (if iso then 1 else 0)).setIf
    (Fd.RK_OUT_VALVE_OVR r) (if iso then 1 else 0)).setIf (Fd.RK_OUT_WATCH r) (if s.watched r then 1 else 0)
  let was := s.on (Fd.RK_OUT_TRIP r)
  let s := match s.tripCause r with
    | some c =>
      if was then s else
        (((s.set (Fd.RK_OUT_TRIP r) 1).count Reg.PRT_CNT_TRIP).raise Fd.PRT_EVT_TRIP r [c]).powerOff r c 0
    | none => s.setIf (Fd.RK_OUT_TRIP r) 0
  s.setIf (Fd.RK_OUT_POWEROFF r) (if s.on (Fd.RK_OUT_TRIP r) && s.tripAck r && !s.mainAbsent then 1 else 0)

/-- The overrides in force (R370, R380, R390): isolation before FULLCOOL before the pump boost. -/
def State.settleOverrides (s : State) : State :=
  let fc := s.on Fd.PRT_STAT_FULLCOOL
  let pumps : Tab Nat := (List.range 8).foldl (fun (t : Tab Nat) p =>
    if (fc ∧ s.fld (Fd.PMP_CFG_ROLE p) < 2) ∨ s.prt.boosted.contains p then t.put p 32767 else t) []
  let valves : Tab Nat := if fc then (List.range 64).map (fun v => (v, if v < 48 ∧ s.isolated v then 0 else s.fld ⟨Reg.PRT_FCVAL v, 0, 16⟩))
    else (s.racksListed.filter s.isolated).foldl (fun (t : Tab Nat) r => t.put r 0) []
  { s with prt := { s.prt with pumpOvr := pumps, valveOvr := valves, fanOvr := fc } }

/-- The causes of FULLCOOL as they stand (PRT_STAT.FC_AUTO, R391). -/
def State.fcAutoActive (s : State) : Bool := s.loopActive 2 || s.prt.sudFc || !s.prt.limFc.isEmpty

/-- The outputs that protection holds, brought to what its sequences and standing actions hold. A module that does not drive its
outputs holds none (R48). -/
def State.settle (s : State) : State :=
  let s := s.setIf Fd.PRT_STAT_FC_AUTO (if s.fcAutoActive then 1 else 0)
  if s.drives then
    let l := s.racksInUse ++ (if s.fld Fd.PRT_LOOPSTAT_ACTIVE = 0 then (List.range 48).filter (fun r => !s.racksListed.contains r && s.rd (Reg.RK_OUT r) != 0) else [])
    let s := l.foldl (fun (s : State) r => s.settleRack r) s
    let s := s.setIf Fd.PRT_STAT_WATCH (if s.loopActive 1 || s.racksListed.any (fun r => s.rackActive r seqRflow) then 1 else 0)
    s.settleOverrides
  else s

/-! ### Starts (R356, R357) -/

/-- The SEQ that the next protection record will take, if nothing is lost meanwhile. -/
def State.nextProtSeq (s : State) : Nat :=
  s.firn.seq + (if s.firn.lost = 0 then 0 else 1) + s.firn.queue.length + (s.firn.fresh.filter (fun r => r.cls == 0)).length

/-- The module enters PROTECT when a sequence starts while none is active (R357); a module that drives nothing changes no state
(R48). -/
def State.enterIfFirst (s : State) (first : Bool) : State := if first && s.drives then s.enterProtective 7 0 else s

/-- A start is recorded: the PRT_EVT bit of its kind with the Firn record, and the ALARM notice (R356, R436). -/
def State.tellStart (s : State) (ev : Fld) (what index bit : Nat) : State :=
  let n := s.nextProtSeq
  (s.raise ev (if what = 0 then index else noObj) [bit]).noticeAll 1 [what, index, bit, 0, n]

/-- A rack's sequence or alarm starts (R356). -/
def State.startRack (s : State) (r bit : Nat) (ev : Fld) : State :=
  let first := decide (bit < 8) && !s.anySequence
  let s := (s.setBit (Fd.RK_ACT_ACTIVE r) bit true).setBit (Fd.RK_ACT_ACK_REQ r) bit true
  let s := s.setRackP r { s.rackP r with clear := (s.rackP r).clear.del bit }
  (s.enterIfFirst first).tellStart ev 0 r bit

/-- A loop-level sequence or alarm starts (R356). -/
def State.startLoop (s : State) (bit : Nat) (ev : Fld) : State :=
  let first := decide (bit < 7) && !s.anySequence
  let s := (s.setBit Fd.PRT_LOOPSTAT_ACTIVE bit true).setBit Fd.PRT_LOOPSTAT_ACK_REQ bit true
  let s := { s with prt := { s.prt with clear := s.prt.clear.del bit } }
  (s.enterIfFirst first).tellStart ev 1 0 bit

/-- FULLCOOL is entered (R389, R390). -/
def State.enterFullcool (s : State) (auto : Bool) : State :=
  let s := if auto then { s with prt := { s.prt with fcAuto := some s.clk.now } } else s.set Fd.PRT_STAT_FC_CMD 1
  let s := if s.on Fd.PRT_STAT_FULLCOOL then s else (s.set Fd.PRT_STAT_FULLCOOL 1).raise Fd.PRT_EVT_FULLCOOL noObj [if auto then 0 else 1]
  let s := if s.drives then s.enterProtective 8 (if auto then 0 else 1) else s
  s.settle

/-- FULLCOOL ends (R391, R46): to PROTECT with the same return state while a sequence is active, else to the return state. -/
def State.leaveFullcool (s : State) (cause : Nat) : State :=
  let s := (s.set Fd.PRT_STAT_FULLCOOL 0).set Fd.PRT_STAT_FC_CMD 0
  let s := { s with prt := { s.prt with fcAuto := none } }
  let s :=
    if s.opState = 8 then (if s.anySequence then (s.set Fd.SYS_STATE_STATE 7).announce 8 cause else (s.enter s.returnTarget cause).leaveBoot)
    else s
  s.settle

/-- The module leaves PROTECT in the tick in which the last active sequence ends (R357). -/
def State.leaveProtect (s : State) : State :=
  if s.opState = 7 ∧ ¬ s.anySequence then (s.enter s.returnTarget 0).leaveBoot else s

/-! ### Isolation (R367 to R370) -/

/-- The isolation request of a rack (R367, R368): a safety-class PULSE on its channel. -/
def State.askIsolation (s : State) (r : Nat) (always : Bool) : State :=
  let s := s.setRackP r { s.rackP r with asked := true }
  if s.isolated r ∨ ¬ (always ∨ s.on Fd.PRT_CTRL_ISO_AUTO) then s else s.submit r 1 true

/-- The isolation of a rack begins or ends with POS (R370). -/
def State.checkPos (s : State) (r : Nat) : State :=
  let x := s.rackP r
  if s.isolated r ∧ x.closedAt.isNone then
    ((s.setRackP r { x with closedAt := some s.clk.now, isoTrip := false }).count Reg.PRT_CNT_ISO).raise Fd.PRT_EVT_ISOLATED r []
  else if ¬ s.isolated r ∧ x.closedAt.isSome then s.setRackP r { x with closedAt := none, isoTrip := false }
  else s

/-- What protection makes of the ends of safety requests (R369, R370): ISO_FAIL after NO_MOVE, DEFER_TMO, CUT or FAULT. -/
def State.isoResults (s : State) : State :=
  let l := s.acts.ended
  let s := { s with acts := { s.acts with ended := [] } }
  let s := l.foldl (fun (s : State) (p : Nat × Nat) =>
    if p.1 < 48 ∧ (p.2 = 2 ∨ p.2 = 4 ∨ p.2 = 5 ∨ p.2 = 9) then s.startRack p.1 seqIsoFail Fd.PRT_EVT_ISO_FAIL else s) s
  s.settle

/-- A LEAK or LEAK_FAST starts on a rack (R365, R366, Tables 4 and 5). -/
def State.startLeak (s : State) (r bit : Nat) (inputs : List Nat) (imb : Bool) : State :=
  let x := s.rackP r
  let fresh := !s.rackActive r seqLeak && !s.rackActive r seqLeakFast
  let x := if fresh then { x with leakAt := some s.clk.now, asked := false, inputs := [], imb := false } else x
  let x := { x with
    inputs := x.inputs ++ inputs.filter (fun i => !x.inputs.contains i), imb := x.imb || imb
    leakAt := x.leakAt.orElse (fun _ => some s.clk.now) }
  let s := ((s.setRackP r x).startRack r bit Fd.PRT_EVT_LEAK).count Reg.PRT_CNT_LEAK
  s.setRackP r { s.rackP r with clear := (s.rackP r).clear.put bit s.clk.now }

/-- Isolation requests that are due at a tick edge: LEAK_FAST at once, LEAK at power confirmation (R367). A port die that is absent
confirms nothing (R388). -/
def State.isolateDue (s : State) : State :=
  if ¬ s.drives then s else
    s.racksInUse.foldl (fun (s : State) r =>
      if (s.rackP r).asked then s
      else if s.rackActive r seqLeakFast then s.askIsolation r (s.rackP r).force
      else if s.rackActive r seqLeak ∧ ¬ s.portAbsent ∧ s.fld (Fd.RK_STAT_PROT r) = 2 ∧ s.on (Fd.RK_STAT_CONFIRM r) then s.askIsolation r (s.rackP r).force
      else s) s

/-! ### Flow sequences (R374 to R381) -/

/-- FLOW_SUDDEN starts (R375): every rack takes SURVIVAL and watch, a STANDBY pump starts in each group with a DUTY pump that has no
substitution in force, and FULLCOOL follows where FC_SUDDEN = 1. -/
def State.startSudden (s : State) : State :=
  let s := (s.startLoop 1 Fd.PRT_EVT_FLOW_SUDDEN).count Reg.PRT_CNT_FLOW
  let s := if s.drives then
      (List.range 4).foldl (fun (s : State) g =>
        if (List.range 8).any (fun p => s.fld (Fd.PMP_CFG_ROLE p) == 0 && s.fld (Fd.PMP_CFG_GROUP p) == g && !s.on (Fd.PMP_STAT_SUBST_VALID p))
        then s.standbyStart g 8 else s) s
    else s
  if s.on Fd.PRT_CTRL_FC_SUDDEN then ({ s with prt := { s.prt with sudFc := true } }).enterFullcool true else s.settle

/-- A pump's trip is told to protection (R374): it starts FLOW_SUDDEN where the flow sequences are in use. -/
def State.pumpTripped (s : State) : State :=
  if s.rd Reg.PRT_QNOM = 0 ∨ s.fld Fd.PRT_FLOW_SRC_KIND = 0 then s else s.startSudden

/-- The sum of (2i − 99) y_i over the last 100 values of Q, oldest first: b is a 16,665th of it (R373). -/
def slopeSum (qs : List Int) : Int :=
  ((List.range 100).map (fun (i : Nat) => (2 * (i : Int) - 99) * qs.getD (99 - i) 0)).foldl (· + ·) 0

/-- The last 100 values of Q, newest first, where all are present. -/
def State.lastQs (s : State) : Option (List Int) :=
  let l := s.prt.qs.take 100
  if l.length < 100 then none else l.foldr (fun v (m : Option (List Int)) => v.bind (fun x => m.map (fun t => x :: t))) (some [])

/-- Whether the slope lies at or below −SLOW_SLOPE × QNOM ÷ 10,000 (R379). -/
def State.slopeLow (s : State) (sum : Int) : Bool :=
  decide (sum * 10000 ≤ -((s.fld Fd.PRT_FLOW_CFG1_SLOW_SLOPE * (s.rd Reg.PRT_QNOM).toNat * 16665 : Nat) : Int))

/-- Whether Q is at or above MIN_PCT × QNOM. -/
def State.flowEnough (s : State) (q : Int) : Bool :=
  decide (((s.fld Fd.PRT_FLOW_CFG1_MIN_PCT * (s.rd Reg.PRT_QNOM).toNat : Nat) : Int) ≤ 100 * q)

/-- The step that a time to limit calls for (R380), from Q and the slope sum: TTL below TTL_LW takes 1, below TTL_SV 2. -/
def State.ttlStep (s : State) (q sum : Int) : Nat :=
  let d := 100 * q - ((s.fld Fd.PRT_FLOW_CFG1_MIN_PCT * (s.rd Reg.PRT_QNOM).toNat : Nat) : Int)
  let below (t : Nat) : Bool := decide (d ≤ 0) || (decide (sum < 0) && decide (d * 16665 < 100 * (t : Int) * (-sum)))
  if below (s.fld Fd.PRT_FLOW_CFG2_TTL_SV) then 2 else if below (s.fld Fd.PRT_FLOW_CFG2_TTL_LW) then 1 else 0

/-- PRT_TTL in 0.1 s (R379), rounded down; 0 with Q at or below MIN_PCT × QNOM whatever the slope (DEDUCED, log entry 89). -/
def State.ttlWord (s : State) (q sum : Int) : Nat :=
  let d := 100 * q - ((s.fld Fd.PRT_FLOW_CFG1_MIN_PCT * (s.rd Reg.PRT_QNOM).toNat : Nat) : Int)
  if d ≤ 0 then 0 else if 0 ≤ sum then 0xFFFFFFFF else min (d * 16665 * 10 / (100 * (-sum))).toNat 0xFFFFFFFE

/-! ### Limit entries (R384) -/

/-- The value a limit entry reads: a source outside OK by its substitute. -/
def State.limValue (s : State) (e : Nat) : Option Int :=
  let i := s.fld (Fd.LIM_CFG_IDX e)
  match s.fld (Fd.LIM_CFG_KIND e) with
  | 1 => (s.fieldProt i).map (·.1)
  | 2 => (Tab.at (none, none) s.field.pairVal i).2.map (·.1)
  | 4 => s.podValue i
  | _ => none

/-- Whether a value reaches a threshold in the direction of an entry; a no-value code is no threshold (R19). -/
def limReaches (low : Bool) (v : Int) (thr : Option Int) : Bool := thr.any (fun t => if low then decide (v ≤ t) else decide (t ≤ v))

/-- The consecutive ticks HARD must hold (R384, R378): none on a rack under watch. -/
def State.limPersist (s : State) (e : Nat) : Nat :=
  let sc := s.fld (Fd.LIM_CFG_SCOPE e)
  if sc < 48 ∧ s.watched sc then 0 else msTicks (s.fld (Fd.LIM_CFG_PERSIST e))

/-- Whether an entry gives cause to LIM_WARN (Table 2). -/
def State.limWarns (s : State) (e : Nat) : Bool :=
  s.fld (Fd.LIM_CFG_KIND e) != 0 && (s.on (Fd.LIM_STAT_WARN e) || s.on (Fd.LIM_STAT_ABSENT e) ||
    (s.on (Fd.LIM_STAT_HARD e) && s.fld (Fd.LIM_CFG_ACTION e) == 0))

/-- The LIM_WARN alarm follows the entries (R356): each entry whose cause begins sets its ACK_REQ and starts the alarm. -/
def State.warnStart (s : State) (e : Nat) : State :=
  (s.set (Fd.LIM_STAT_ACK_REQ e) 1).startLoop 7 Fd.PRT_EVT_WARN

/-- The entries that are judged. -/
def State.limEntries (s : State) : List Nat :=
  (sortBy (fun a b => decide (a ≤ b)) (s.listed (Reg.LIM_CFG 0) 0x10 32)).filter (fun e => s.fld (Fd.LIM_CFG_KIND e) != 0)

/-- The entries with a word or a part listed. -/
def State.limListed (s : State) : List Nat :=
  let l := s.listed (Reg.LIM_CFG 0) 0x10 32
  l ++ (s.prt.lim.map (·.1)).filter (fun e => !l.contains e)

/-- One entry at a tick edge. -/
def State.judgeLim (s : State) (e : Nat) : State :=
  let was := s.limWarns e
  let v := s.limValue e
  let low := s.on (Fd.LIM_CFG_DIR e)
  let warn := v.any (fun x => limReaches low x (tempOf (s.fld (Fd.LIM_THR_WARN e))))
  let hard := v.any (fun x => limReaches low x (tempOf (s.fld (Fd.LIM_THR_HARD e))))
  let x := s.limP e
  let s := s.setLimP e { x with
    hardFrom := if hard then x.hardFrom.orElse (fun _ => some s.clk.now) else none
    safeFrom := if v.isSome && !warn then x.safeFrom.orElse (fun _ => some s.clk.now) else none }
  let s := ((s.setIf (Fd.LIM_STAT_WARN e) (if warn then 1 else 0)).setIf (Fd.LIM_STAT_ABSENT e) (if v.isNone then 1 else 0)).setIf
    (Fd.LIM_STAT_VALUE e) (tempCode v)
  let s := if hard then s else s.setIf (Fd.LIM_STAT_HARD e) 0
  if s.limWarns e ∧ ¬ was then s.warnStart e else s

/-- The LIM_WARN alarm's ACTIVE bit (R356). -/
def State.settleWarn (s : State) : State :=
  let on := s.limEntries.any s.limWarns
  if s.loopActive 7 = on then s else s.setBit Fd.PRT_LOOPSTAT_ACTIVE 7 on

/-- Entry `e` has reached HARD for PERSIST (R384): its action is taken on its scope. -/
def State.limHard (s : State) (e : Nat) : State :=
  let s := ((s.set (Fd.LIM_STAT_HARD e) 1).set (Fd.LIM_STAT_ACK_REQ e) 1).count Reg.PRT_CNT_LIMIT
  let a := s.fld (Fd.LIM_CFG_ACTION e)
  if e = 0 then
    let s := s.setLimP 0 { s.limP 0 with active := true }
    (s.startLoop 2 Fd.PRT_EVT_LIMIT).enterFullcool true
  else if a = 0 then s.warnStart e
  else
    let s := s.setLimP e { s.limP e with active := true }
    let sc := s.fld (Fd.LIM_CFG_SCOPE e)
    let s := if sc < 48 then s.startRack sc seqLimHard Fd.PRT_EVT_LIMIT else s.startLoop 3 Fd.PRT_EVT_LIMIT
    if a = 4 then ({ s with prt := { s.prt with limFc := e :: s.prt.limFc.filter (fun x => x != e) } }).enterFullcool true else s.settle

/-- Whether an entry has just reached HARD for PERSIST. -/
def State.limHardDue (s : State) (e : Nat) : Bool :=
  s.fld (Fd.LIM_CFG_KIND e) != 0 && !s.on (Fd.LIM_STAT_HARD e) && s.since (s.limP e).hardFrom (s.limPersist e)

/-! ### Die limits (R382, R387) -/

/-- The guard value of an entry of the digest, absent where it has none. -/
def guardOf (v : Nat) : Option Int := tempOf (v % 65536)

/-- DIE_PERSIST of a rack, none on a rack under watch (R378). -/
def State.diePersist (s : State) (r : Nat) : Nat := if s.watched r then 0 else s.fld (Fd.RK_DIECFG_DIE_PERSIST r)

/-- Whether an accelerator's entry is at or above a limit. -/
def guardAtLeast (v : Nat) (lim : Option Int) : Bool :=
  match guardOf v, lim with
  | some x, some y => decide (y ≤ x)
  | _, _ => false

/-- An accelerator's hard digests after a digest (R382). -/
def State.countHard (s : State) (a v : Nat) : State :=
  match s.rackOf a with
  | none => s
  | some r =>
    if guardAtLeast v (tempOf (s.fld (Fd.RK_DIE_DIE_HARD r))) then
      { s with prt := { s.prt with hard := s.prt.hard.put a (Tab.at 0 s.prt.hard a + 1) } }
    else { s with prt := { s.prt with hard := s.prt.hard.del a, hardTold := s.prt.hardTold.filter (fun x => x != a) } }

/-- The entries of a rack in the last digest. -/
def State.rackEntries (s : State) (r : Nat) : List Nat := (s.prt.entries.filter (fun p => s.rackOf p.1 == some r)).map (·.2)

/-- An alarm of a rack follows its condition (R356). -/
def State.rackAlarm (s : State) (r bit : Nat) (cond : Bool) : State :=
  if cond = s.rackActive r bit then s
  else if cond then s.startRack r bit Fd.PRT_EVT_WARN
  else s.setBit (Fd.RK_ACT_ACTIVE r) bit false

/-- Whether a rack has a present guard value at or above DIE_WARN. -/
def State.dieWarm (s : State) (r : Nat) : Bool := (s.rackEntries r).any (fun v => guardAtLeast v (tempOf (s.fld (Fd.RK_DIE_DIE_WARN r))))

/-- A rack's part of a digest: RK_GUARD, DIE_WARN and SILENT. -/
def State.judgeRackDigest (s : State) (r : Nat) : State :=
  let l := s.rackEntries r
  let top := l.foldl (fun m v => maxOpt m (guardOf v)) none
  let s := s.wr (Reg.RK_GUARD r) (BitVec.ofNat 32 (tempCode top + (if l.any (fun v => bitOf v 16) then 65536 else 0)))
  (s.rackAlarm r 8 (s.dieWarm r)).rackAlarm r 9 (l.any (fun v => bitOf v 17))

/-- The racks with accelerators. -/
def State.dieRacks (s : State) : List Nat :=
  let l := (s.stm.row.map (·.2)).dedup
  l ++ (s.racksListed.filter (fun r => !l.contains r))

/-- The digest that arrived in the last tick is judged (R140, R382). -/
def State.judgeDigest (s : State) : State :=
  if ¬ s.prt.judge then s else
    let s := (s.set Fd.PRT_STAT_DIGEST_LOST 0)
    let gone := (s.prt.hard.map (·.1)).filter (fun a => !Tab.has s.prt.entries a)
    let s := gone.foldl (fun (s : State) a => { s with prt := { s.prt with hard := s.prt.hard.del a, hardTold := s.prt.hardTold.filter (fun x => x != a) } }) s
    let s := s.prt.entries.foldl (fun (s : State) (p : Nat × Nat) => s.countHard p.1 p.2) s
    let s := { s with prt := { s.prt with judge := false, digestFrom := s.prt.digestFrom.orElse (fun _ => some s.clk.now) } }
    (sortBy (fun a b => decide (a ≤ b)) s.dieRacks).foldl (fun (s : State) r => s.judgeRackDigest r) s

/-- The accelerators of a rack that have counted DIE_PERSIST + 1 hard digests and have not been told. -/
def State.hardAccs (s : State) (r : Nat) : List Nat :=
  (s.prt.hard.filter (fun p => s.rackOf p.1 == some r && decide (s.diePersist r < p.2) && !s.prt.hardTold.contains p.1)).map (·.1)

/-- DIE_HARD starts on a rack. -/
def State.startDieHard (s : State) (r : Nat) : State := ((s.startRack r seqDieHard Fd.PRT_EVT_LIMIT).count Reg.PRT_CNT_LIMIT).settle

/-- A watched rack that has lost its die temperatures holds DIE_HARD (R378). -/
def State.watchLost (s : State) : State :=
  if s.loopActive 4 then
    ((List.range 48).filter (fun r => s.watched r && !s.rackActive r seqDieHard)).foldl (fun (s : State) r => s.startDieHard r) s
  else s

/-- A frame boundary counts the frames without a digest (R140). -/
def State.digestBoundary (s : State) : State :=
  if s.prt.got then { s with prt := { s.prt with missed := 0, got := false } }
  else { s with prt := { s.prt with missed := s.prt.missed + 1, digestFrom := none } }

/-! ### End conditions (Tables 1 and 2) -/

/-- Whether the inputs of a leak sequence have read DRY for DRY_S. -/
def State.dryAll (s : State) (l : List Nat) : Bool :=
  l.all (fun i => s.since (s.leakIn i).dryFrom (sTicks (s.fld Fd.PRT_ISO_CFG_DRY_S)))

/-- Whether a rack's imbalance has been neither above threshold nor reversed for DRY_S. -/
def State.balancedLong (s : State) (r : Nat) : Bool :=
  let x := s.rackP r
  x.above.isNone && x.reversed.isNone && x.balanced.all (fun t => decide (t + sTicks (s.fld Fd.PRT_ISO_CFG_DRY_S) ≤ s.clk.now))

/-- Whether every active limit entry of a scope is on the safe side of WARN. -/
def State.limSafe (s : State) (scope : Nat) : Bool :=
  s.prt.lim.all (fun p => !(p.2.active && p.1 != 0 && s.fld (Fd.LIM_CFG_SCOPE p.1) == (if scope = 48 then 0xFE else scope)) || p.2.safeFrom.isSome)

/-- The condition that a rack sequence counts CLEAR_S of. -/
def State.rackClear (s : State) (r bit : Nat) : Bool :=
  match bit with
  | 0 => !s.rackFaulted r
  | 3 => (s.rackP r).sup.q10.any (fun q => decide ((s.rackP r).ref ≤ 2 * q))
  | 4 => !s.dieWarm r && !(s.watched r && s.loopActive 4)
  | 7 => s.limSafe r
  | _ => false

/-- Whether the end condition of a rack sequence holds (Table 1). A LEAK by command alone ends by acknowledgement alone (R392). -/
def State.rackEnds (s : State) (r bit : Nat) : Bool :=
  let x := s.rackP r
  match bit with
  | 1 | 2 => (x.inputs.isEmpty && !x.imb) ||
    (s.dryAll x.inputs && s.balancedLong r && s.since (Tab.find x.clear bit) (sTicks (s.fld Fd.PRT_ISO_CFG_DRY_S)))
  | 3 => s.isolated r || s.since (Tab.find x.clear 3) s.clearTicks
  | 5 => (!s.rackActive r seqLeak && !s.rackActive r seqLeakFast) || s.isolated r
  | 6 => true
  | _ => s.since (Tab.find x.clear bit) s.clearTicks

/-- The condition that a loop sequence counts CLEAR_S of. -/
def State.loopClear (s : State) (bit : Nat) : Bool :=
  let q := s.prt.qs.head?.bind id
  match bit with
  | 0 => q.any s.flowEnough && s.lastQs.any (fun l => !s.slopeLow (slopeSum l))
  | 1 => q.any s.flowEnough
  | 2 => (s.limP 0).safeFrom.isSome
  | 3 => s.limSafe 48
  | 4 => s.prt.digestFrom.isSome
  | 6 => !s.loopFaulted
  | _ => false

/-- Whether the end condition of a loop sequence holds (Table 2). -/
def State.loopEnds (s : State) (bit : Nat) : Bool :=
  if bit = 5 then s.dryAll s.prt.loopInputs else s.since (Tab.find s.prt.clear bit) s.clearTicks

/-- A condition's start in a table of clear times. -/
def clearStep (now : Nat) (t : Tab Nat) (bit : Nat) (holds : Bool) : Tab Nat :=
  if holds then (if Tab.has t bit then t else t.put bit now) else t.del bit

/-- The clear times of every active sequence at a tick edge. -/
def State.clearTick (s : State) : State :=
  let s := (s.racksListed.filter (fun r => s.fld (Fd.RK_ACT_ACTIVE r) % 256 != 0)).foldl (fun (s : State) r =>
    let t := ([0, 3, 4, 7].filter (fun b => s.rackActive r b)).foldl (fun (t : Tab Nat) b => clearStep s.clk.now t b (s.rackClear r b)) (s.rackP r).clear
    s.setRackP r { s.rackP r with clear := t }) s
  let t := ([0, 1, 2, 3, 4, 6].filter (fun b => s.loopActive b)).foldl (fun (t : Tab Nat) b => clearStep s.clk.now t b (s.loopClear b)) s.prt.clear
  { s with prt := { s.prt with clear := t } }

/-- Which start conditions still stand: one that has ended may start its sequence again. -/
def State.toldTick (s : State) : State :=
  let s := (s.prt.rack.map (·.1)).foldl (fun (s : State) r =>
    let x := s.rackP r
    s.setRackP r { x with gfTold := x.gfTold && s.rackFaulted r, fastTold := x.fastTold && (s.wetGuards r).any (fun i => decide (48 ≤ i)) }) s
  { s with prt := { s.prt with gfTold := s.prt.gfTold && s.loopFaulted } }

/-! ### The tick -/

/-- Protection at a tick edge, before the outputs (R352). -/
def State.protTick (s : State) : State :=
  let close := decide (s.clk.tcnt.toNat % 100 = 99)
  let s := s.loopFlow close
  let s := (s.listed (Reg.RK_FLOWSRC 0) 0x40 48).foldl (fun (s : State) r => s.rackFlow r close) s
  let s := s.judgeDigest
  let s := (s.limEntries.foldl (fun (s : State) e => s.judgeLim e) s).settleWarn
  let s := s.clearTick.toldTick
  let s := s.watchLost
  s.isolateDue.isoResults

end Sys2Proof.Machine
end

