-- ==== Sys2Proof/Machine/GuardRows.lean ====
section
/-! DEFINITION. The rows of protection (chapter 09) and of the actuator events that protection takes part in: leaks and isolation,
flow, die and limit sequences, ends of sequences, FULLCOOL, and acknowledgements. -/

namespace Sys2Proof.Machine

/-! ### Pumps and solenoids -/

/-- PUMP_TRIP (R318): the cause is 1 FAULT_IN, 2 LOW_FB or 3 CAN; protection is told. -/
def execPumpTrip (p : Fin 8) (cause : Fin 3) (s : State) : Host.Outcome State Fault Refusal :=
  .next <| if s.tripHolds p (cause.val + 1) then (s.tripPump p (cause.val + 1)).pumpTripped else s

/-- SOLENOID_OPEN_COIL (R325): 5 ms into the pull-in. -/
def execSolenoidOpenCoil (k : Fin 64) (s : State) : Host.Outcome State Fault Refusal :=
  .next <|
    match (s.sol k).pull with
    | some (t, _) => if s.solState k = 2 ∧ (s.sol k).dip.isNone ∧ t + msTicks 5 ≤ s.clk.now then (s.pullFault k 1).isoResults else s
    | none => s

/-- SOLENOID_SHORT (R325): the current has risen above 1.25 × I_PEAK during a pull-in. -/
def execSolenoidShort (k : Fin 64) (s : State) : Host.Outcome State Fault Refusal :=
  .next <| if s.solState k = 2 then (s.pullFault k 2).isoResults else s

/-- SOLENOID_DECAY_END (R325, R327, R370): the result is set; a pulse that has closed a rack's valve begins its standing actions. -/
def execSolenoidDecayEnd (k : Fin 64) (s : State) : Host.Outcome State Fault Refusal :=
  .next <|
    if s.solState k = 4 then
      let s := s.endDecay k
      (if k.val < 48 then s.checkPos k else s).isoResults
    else s

/-- SOLENOID_DEFER_TIMEOUT (R329): the request ends DEFER_TMO, and a request behind it may start. -/
def execSolenoidDeferTimeout (k : Fin 64) (s : State) : Host.Outcome State Fault Refusal :=
  .next (if s.drives then (s.deferTimeout k).arbitrateSol.isoResults else (s.deferTimeout k).isoResults)

/-- BANK_CUT (R332). A STUCK_ON channel was switched off 5 ms ago or more; SUPPLY needs a bus below 36 V. -/
def execBankCut (b : Fin 8) (reason : CutReason) (s : State) : Host.Outcome State Fault Refusal :=
  .next <|
    match reason with
    | .overcurrent => (s.cutBank b 1).isoResults
    | .stuckOn c =>
      let k := 8 * b.val + c.val
      if s.solState k ≠ 2 ∧ s.solState k ≠ 3 ∧ (s.sol k).offAt + msTicks 5 ≤ s.clk.now then
        ((s.solFault k 3).cutBank b 2).isoResults
      else s
    | .protect => (s.cutBank b 4).isoResults
    | .supply => if max s.acts.volts.1 s.acts.volts.2 < 3600 then (s.cutBank b 5).isoResults else s

/-- BANK_CMD_CUT (R332): a write of BANK_CMD.CUT. -/
def execBankCmdCut (w : Fin 8) (b : Fin 8) (s : State) : Host.Outcome State Fault Refusal :=
  .next (s.writeRow w (Reg.BANK_CMD b) 1 true (fun s => (s.cutBank b 3).isoResults))

/-- The effect of ISO_RESET on a rack's channel (R327, R370). -/
def State.isoReset (s : State) (k : Nat) : State := ((s.set (Fd.SOL_STAT_POS k) 1).checkPos k).settle

/-- ISO_RESET (R327): a write of SOL_CMD with OP = ISO_RESET, reserved on channels 48 to 63. -/
def execIsoReset (w : Fin 8) (k : Fin 64) (s : State) : Host.Outcome State Fault Refusal :=
  .next (s.writeRow w (Reg.SOL_CMD k) 5 (s.solCmdOk k 5) (fun s => s.isoReset k))

/-! ### Leaks -/

/-- LEAK_MEASUREMENT (R360, R361): one measurement of every leak input. `readings` names the inputs whose resistance differs from the
last measurement, in ohms: rope loops 0 to 47, spot inputs from 48. -/
def execLeakMeasurement (readings : List (Fin 80 × Nat)) (s : State) : Host.Outcome State Fault Refusal :=
  .next <|
    let s := readings.foldl (fun (s : State) (p : Fin 80 × Nat) => s.setLeakIn p.1.val { s.leakIn p.1.val with res := p.2 }) s
    s.leakInputs.foldl (fun (s : State) i => s.measureLeak i) s

/-- The imbalance of a rack, where it is judged: I and T (R363). -/
def State.imbalance (s : State) (r : Nat) : Option (Int × Int) :=
  let w := s.rd (Reg.RK_FLOWSRC r)
  let x := s.rackP r
  let win := 10 * s.fld Fd.PRT_LEAK_CFG1_IMB_WIN
  if fieldOf w 0 3 = 0 ∨ fieldOf w 16 3 = 0 ∨ s.isolated r then none else
    match x.sup.mean 0 win, x.ret.mean 0 win with
    | some qs, some qr =>
      let thr : Int := s.fld (Fd.RK_IMB_IMB_THR r)
      if qs < thr then none else some (qs - qr, max thr (qs * s.fld (Fd.RK_IMB_IMB_PCT r) / 100))
    | _, _ => none

/-- IMBALANCE_CHECK (R363). -/
def execImbalanceCheck (rack : Fin 48) (s : State) : Host.Outcome State Fault Refusal :=
  .next <|
    let x := s.rackP rack
    let m := s.imbalance rack
    let above := m.any (fun p => decide (p.2 < p.1))
    let rev := m.any (fun p => decide (p.1 < -p.2))
    let wasOff := x.above.isSome || x.reversed.isSome
    let s := s.setRackP rack { x with
      above := if above then x.above.orElse (fun _ => some s.clk.now) else none
      reversed := if rev then x.reversed.orElse (fun _ => some s.clk.now) else none
      balanced := if above || rev then none else if wasOff then some s.clk.now else x.balanced
      imbTold := x.imbTold && above, fastTold := x.fastTold && above }
    s.wr (Reg.RK_IMBV rack) (wordOf (m.map (·.1)))

/-- LEAK (R365): a guarding input has been confirmed wet, or the imbalance has stayed above threshold for IMB_PERSIST. -/
def execLeak (rack : Fin 48) (s : State) : Host.Outcome State Fault Refusal :=
  .next <|
    let wet := (s.wetGuards rack).filter (fun i => !(s.leakIn i).told)
    let imb := s.since (s.rackP rack).above s.imbPersist && !(s.rackP rack).imbTold
    if wet.isEmpty ∧ ¬ imb then s else
      let s := wet.foldl (fun (s : State) i => s.setLeakIn i { s.leakIn i with told := true }) s
      let s := if imb then s.setRackP rack { s.rackP rack with imbTold := true } else s
      (s.startLeak rack seqLeak wet imb).settle

/-- LEAK_FAST (R366): a spot input is confirmed wet while the imbalance is above threshold; the isolation request follows in the same
tick (Table 5). -/
def execLeakFast (rack : Fin 48) (s : State) : Host.Outcome State Fault Refusal :=
  .next <|
    let wet := (s.wetGuards rack).filter (fun i => decide (48 ≤ i))
    let x := s.rackP rack
    if wet.isEmpty ∨ x.above.isNone ∨ x.fastTold then s else
      let s := (s.setRackP rack { x with fastTold := true }).startLeak rack seqLeakFast wet true
      if s.drives then ((s.askIsolation rack false).arbitrateSol).isoResults else s.settle

/-- GFAULT (R364): a guarding input of the rack is faulted. -/
def execGfault (rack : Fin 48) (s : State) : Host.Outcome State Fault Refusal :=
  .next <|
    if s.rackFaulted rack ∧ ¬ (s.rackP rack).gfTold then
      let s := s.setRackP rack { s.rackP rack with gfTold := true }
      ((s.startRack rack seqGfault Fd.PRT_EVT_GFAULT).count Reg.PRT_CNT_GFAULT).settle
    else s

/-- LEAK_WAIT_EXPIRY (R367): LEAK_WAIT has passed without power confirmation. -/
def execLeakWaitExpiry (rack : Fin 48) (s : State) : Host.Outcome State Fault Refusal :=
  .next <|
    let x := s.rackP rack
    if s.drives ∧ s.rackActive rack seqLeak ∧ ¬ x.asked ∧ s.since x.leakAt (msTicks (s.fld Fd.PRT_ISO_CFG_LEAK_WAIT)) then
      (s.askIsolation rack x.force).isoResults
    else s

/-- ISO_TRIP (R370): ISO_TRIP_S has passed since POS became CLOSED. -/
def execIsoTrip (rack : Fin 48) (s : State) : Host.Outcome State Fault Refusal :=
  .next <|
    let x := s.rackP rack
    if s.isolated rack ∧ ¬ x.isoTrip ∧ s.since x.closedAt (sTicks (s.fld Fd.PRT_ISO_CFG_ISO_TRIP_S)) then
      (s.setRackP rack { x with isoTrip := true }).settle
    else s

/-- LOOP_LEAK (R372): a loop-level spot input has been confirmed wet. -/
def execLoopLeak (s : State) : Host.Outcome State Fault Refusal :=
  .next <|
    let wet := (s.wetGuards 48).filter (fun i => !(s.leakIn i).told)
    if wet.isEmpty then s else
      let s := wet.foldl (fun (s : State) i => s.setLeakIn i { s.leakIn i with told := true }) s
      let old := if s.loopActive 5 then s.prt.loopInputs else []
      let s := { s with prt := { s.prt with loopInputs := old ++ wet.filter (fun i => !old.contains i) } }
      (s.startLoop 5 Fd.PRT_EVT_LEAK).settle

/-- LOOP_GFAULT (R354, R364): a loop-level spot input or the loop flow source is faulted. -/
def execLoopGfault (s : State) : Host.Outcome State Fault Refusal :=
  .next <|
    if s.loopFaulted ∧ ¬ s.prt.gfTold then
      let s := { s with prt := { s.prt with gfTold := true } }
      ((s.startLoop 6 Fd.PRT_EVT_GFAULT).count Reg.PRT_CNT_GFAULT).settle
    else s

/-! ### Flow loss -/

/-- Whether a Q10 has fallen below SUDDEN_PCT of the Q10 of 100 ms earlier, which was at least `floor` tenths. -/
def State.fellSudden (s : State) (f : FlowAvg) (floor10 : Int) : Bool :=
  match f.q10, f.q10Before with
  | some q, some e => decide (floor10 ≤ 10 * e) && decide (q * 100 < s.fld Fd.PRT_FLOW_CFG1_SUDDEN_PCT * e)
  | _, _ => false

/-- RFLOW of one rack (R377). -/
def State.judgeRflow (s : State) (r : Nat) : State :=
  let x := s.rackP r
  let s := s.wr (Reg.RK_QSUP r) (match x.sup.q10 with | some q => BitVec.ofInt 32 q | none => 0xFFFFFFFF)
  let fell := !s.isolated r && s.fellSudden x.sup (100 * s.fld (Fd.RK_IMB_IMB_THR r) : Nat)
  if fell ∧ ¬ x.rfTold then
    let s := s.setRackP r { x with rfTold := true, ref := x.sup.q10Before.getD 0 }
    (((s.startRack r seqRflow Fd.PRT_EVT_FLOW_SUDDEN).count Reg.PRT_CNT_FLOW).settle).watchLost
  else s.setRackP r { x with rfTold := fell }

/-- FLOW_SAMPLE_10MS (R373, R374, R377): Q10 of the loop and of every rack's supply source. -/
def execFlowSample10ms (s : State) : Host.Outcome State Fault Refusal :=
  .next <|
    let qnom := (s.rd Reg.PRT_QNOM).toNat
    let fell := qnom != 0 && s.fld Fd.PRT_FLOW_SRC_KIND != 0 && s.fellSudden s.prt.flow qnom
    let was := s.prt.sudTold
    let s := { s with prt := { s.prt with sudTold := fell } }
    let s := if fell ∧ ¬ was then s.startSudden.watchLost else s
    (sortBy (fun a b => decide (a ≤ b)) ((s.listed (Reg.RK_FLOWSRC 0) 0x40 48).filter (fun r => s.fld (Fd.RK_FLOWSRC_SUP_KIND r) != 0))).foldl
      (fun (s : State) r => s.judgeRflow r) s

/-- FLOW_SLOW starts (R380): every RUNNING pump is boosted. -/
def State.startSlow (s : State) : State :=
  let run := (List.range 8).filter (fun p => s.pumpState p == 3 && !s.prt.boosted.contains p)
  let s := { s with prt := { s.prt with boosted := s.prt.boosted ++ run } }
  (s.startLoop 0 Fd.PRT_EVT_FLOW_SLOW).count Reg.PRT_CNT_FLOW

/-- The time to limit of an evaluation while FLOW_SLOW is active, and the steps of R380. -/
def State.stepSlow (s : State) (q sum : Int) : State :=
  let s := s.wr Reg.PRT_TTL (BitVec.ofNat 32 (s.ttlWord q sum))
  let n := s.ttlStep q sum
  if s.prt.slowStep < n then ({ s with prt := { s.prt with slowStep := n } }).raise Fd.PRT_EVT_FLOW_SLOW noObj [0, n] else s

/-- FLOW_EVAL_100MS (R373, R379, R380). -/
def execFlowEval100ms (s : State) : Host.Outcome State Fault Refusal :=
  .next <|
    let use := s.rd Reg.PRT_QNOM != 0 && s.fld Fd.PRT_FLOW_SRC_KIND != 0
    let q := s.prt.flow.mean 0 100
    let s := { s with prt := { s.prt with qs := (q :: s.prt.qs).take 100 } }
    let s := s.wr Reg.PRT_Q (match q with | some x => BitVec.ofInt 32 x | none => 0xFFFFFFFF)
    match s.lastQs with
    | none =>
      let s := { s with prt := { s.prt with slowTold := false } }
      s.wr Reg.PRT_SLOPE 0xFFFFFFFF
    | some l =>
      let sum := slopeSum l
      let s := s.wr Reg.PRT_SLOPE (BitVec.ofInt 32 (clampInt (-2147483647) 2147483647 (roundDiv sum 16665)))
      let low := use && s.slopeLow sum
      let was := s.prt.slowTold
      let s := { s with prt := { s.prt with slowTold := low } }
      let s := if low ∧ ¬ was then s.startSlow else s
      let s := if s.loopActive 0 then s.stepSlow (l.headD 0) sum else s.wr Reg.PRT_TTL 0xFFFFFFFF
      s.settle

/-! ### Die and limit sequences -/

/-- GUARD_DIGEST (R140): Serac takes the digest that the port die has sent, and judges it from the next tick. -/
def execGuardDigest (s : State) : Host.Outcome State Fault Refusal :=
  .next <|
    match s.stm.digest with
    | some d =>
      { s with stm := { s.stm with digest := none }
               prt := { s.prt with entries := d.entries, judge := true, got := true, missed := 0 } }
    | none => s

/-- DIE_HARD (R382): an accelerator of the rack has counted DIE_PERSIST + 1 consecutive hard digests. -/
def execDieHard (rack : Fin 48) (s : State) : Host.Outcome State Fault Refusal :=
  .next <|
    let l := s.hardAccs rack
    if l.isEmpty ∨ s.on Fd.PRT_STAT_DIGEST_LOST then s else
      ({ s with prt := { s.prt with hardTold := s.prt.hardTold ++ l } }).startDieHard rack

/-- DIGEST_LOST (R140, R387): no digest for 3 consecutive frames; every die temperature is absent. -/
def execDigestLost (s : State) : Host.Outcome State Fault Refusal :=
  .next <|
    if 3 ≤ s.prt.missed ∧ ¬ s.on Fd.PRT_STAT_DIGEST_LOST then
      let s := { s with prt := { s.prt with entries := [], judge := false, hard := [], hardTold := [] } }
      let s := s.racksListed.foldl (fun (s : State) r => (s.rackAlarm r 8 false).rackAlarm r 9 false) s
      let s := (s.set Fd.PRT_STAT_DIGEST_LOST 1).startLoop 4 Fd.PRT_EVT_DIGEST_LOST
      s.watchLost.settle
    else s

/-- LIM_HARD (R384): an entry scoped to a rack reaches HARD for PERSIST. -/
def execLimHard (e : Fin 32) (s : State) : Host.Outcome State Fault Refusal :=
  .next <| if e.val ≠ 0 ∧ s.fld (Fd.LIM_CFG_SCOPE e) < 48 ∧ s.limHardDue e then s.limHard e else s

/-- LOOP_LIM_HARD (R354): an entry with scope 0xFE other than entry 0. -/
def execLoopLimHard (e : Fin 32) (s : State) : Host.Outcome State Fault Refusal :=
  .next <| if e.val ≠ 0 ∧ s.fld (Fd.LIM_CFG_SCOPE e) = 0xFE ∧ s.limHardDue e then s.limHard e else s

/-- SUP_HARD (R354): entry 0, the coolant supply temperature. -/
def execSupHard (s : State) : Host.Outcome State Fault Refusal :=
  .next <| if s.limHardDue 0 then s.limHard 0 else s

/-! ### Ends -/

/-- The active entries of a scope let go. -/
def State.endLimits (s : State) (p : Nat → Bool) : State :=
  let l := s.prt.lim.map (fun (x : Nat × LimP) => if p x.1 then ((x.1, { x.2 with active := false }) : Nat × LimP) else x)
  { s with prt := { s.prt with lim := l, limFc := s.prt.limFc.filter (fun e => !p e) } }

/-- A rack sequence ends: what it holds lifts (R356). -/
def State.endRack (s : State) (r b : Nat) : State :=
  let s := s.setBit (Fd.RK_ACT_ACTIVE r) b false
  let s := s.setRackP r { s.rackP r with clear := (s.rackP r).clear.del b }
  let s :=
    if (b = 1 ∨ b = 2) ∧ ¬ s.rackActive r seqLeak ∧ ¬ s.rackActive r seqLeakFast then
      s.setRackP r { s.rackP r with leakAt := none, asked := false, force := false, inputs := [], imb := false }
    else s
  let s := if b = 7 then s.endLimits (fun e => e != 0 && s.fld (Fd.LIM_CFG_SCOPE e) == r) else s
  ((s.raise Fd.PRT_EVT_SEQ_END r [b]).settle).leaveProtect

/-- A loop-level sequence ends. -/
def State.endLoop (s : State) (b : Nat) : State :=
  let s := s.setBit Fd.PRT_LOOPSTAT_ACTIVE b false
  let s := { s with prt := { s.prt with clear := s.prt.clear.del b } }
  let s := match b with
    | 0 => ({ s with prt := { s.prt with slowStep := 0, boosted := [] } }).wr Reg.PRT_TTL 0xFFFFFFFF
    | 1 => { s with prt := { s.prt with sudFc := false } }
    | 2 => s.endLimits (fun e => e == 0)
    | 3 => s.endLimits (fun e => e != 0 && s.fld (Fd.LIM_CFG_SCOPE e) == 0xFE)
    | 5 => { s with prt := { s.prt with loopInputs := [] } }
    | _ => s
  ((s.raise Fd.PRT_EVT_SEQ_END noObj [b]).settle).leaveProtect

/-- SEQUENCE_END (R356): the end condition holds with ACK_REQ = 0. -/
def execSequenceEnd (x : SeqRef) (s : State) : Host.Outcome State Fault Refusal :=
  .next <|
    match x with
    | .rack r b =>
      if s.rackActive r b ∧ ¬ bitOf (s.fld (Fd.RK_ACT_ACK_REQ r)) b ∧ s.rackEnds r b then s.endRack r b else s
    | .loop b => if s.loopActive b ∧ ¬ bitOf (s.fld Fd.PRT_LOOPSTAT_ACK_REQ) b ∧ s.loopEnds b then s.endLoop b else s

/-- POWEROFF_NOTICE_REPEAT (R385): 1 s after the last notice, while RK_OUT.POWEROFF reads 1. -/
def execPoweroffNoticeRepeat (rack : Fin 48) (s : State) : Host.Outcome State Fault Refusal :=
  .next <|
    let x := s.rackP rack
    if s.on (Fd.RK_OUT_POWEROFF rack) ∧ ¬ s.mainAbsent ∧ x.noticeAt + sTicks 1 ≤ s.clk.now then
      s.powerOff rack ((s.tripCause rack).getD 0) (x.notices + 1)
    else s

/-! ### FULLCOOL -/

/-- Whether FC_MIN has passed since the last automatic entry and no automatic cause is active (R391). -/
def State.fcAutoOver (s : State) : Bool :=
  !s.fcAutoActive && s.prt.fcAuto.all (fun t => decide (t + sTicks (s.fld Fd.PRT_FC_CFG_FC_MIN) ≤ s.clk.now))

/-- FULLCOOL_AUTO_EXIT (R391). -/
def execFullcoolAutoExit (s : State) : Host.Outcome State Fault Refusal :=
  .next <| if s.on Fd.PRT_STAT_FULLCOOL ∧ ¬ s.on Fd.PRT_STAT_FC_CMD ∧ s.prt.fcAuto.isSome ∧ s.fcAutoOver then s.leaveFullcool 0 else s

/-! ### Acknowledgements and protective commands -/

/-- An acknowledgement (R358): 0 a rack, 1 the loop level, 2 a field input (applied by R132), 3 a limit entry. -/
def State.ackOne (s : State) (what index : Nat) : State :=
  match what with
  | 0 => (s.set (Fd.RK_ACT_ACK_REQ index) 0).settle
  | 1 => (s.set Fd.PRT_LOOPSTAT_ACK_REQ 0).settle
  | 2 => { s with field := { s.field with acks := s.field.acks ++ [index] } }
  | _ => s.set (Fd.LIM_STAT_ACK_REQ index) 0

/-- Everything is acknowledged. -/
def State.ackAll (s : State) : State :=
  let s := s.racksListed.foldl (fun (s : State) r => s.set (Fd.RK_ACT_ACK_REQ r) 0) s
  let s := s.limListed.foldl (fun (s : State) e => s.set (Fd.LIM_STAT_ACK_REQ e) 0) (s.set Fd.PRT_LOOPSTAT_ACK_REQ 0)
  ({ s with field := { s.field with ackAll := true } }).settle

/-- The effect of a PRT_ACK write. -/
def State.protAck (s : State) (v : Word) : State :=
  if fieldOf v 31 1 = 1 then s.ackAll else s.ackOne (fieldOf v 8 2) (fieldOf v 0 8)

/-- Whether an index is in the range of what it acknowledges. -/
def ackIndexOk (what index : Nat) : Bool :=
  match what with
  | 0 => decide (index < 48)
  | 1 => true
  | 2 => decide (index < 144)
  | 3 => decide (index < 32)
  | _ => false

/-- PRT_: encodings reserved across fields or words (R128, R382, R384, R395 to R397). -/
def crossPrt (s : State) (a : Nat) (v : Word) : Bool :=
  let o := offsetOf a
  if a = Reg.PRT_ACK then fieldOf v 31 1 == 1 || ackIndexOk (fieldOf v 8 2) (fieldOf v 0 8)
  else if a = Reg.PRT_FLOW_CFG2 then decide (fieldOf v 10 10 < fieldOf v 0 10)
  else if 0x010000 ≤ o ∧ o < 0x010C00 ∧ o % 0x40 = 0x08 then decide (signedOf 16 (fieldOf v 0 16) < signedOf 16 (fieldOf v 16 16))
  else if 0x021000 ≤ o ∧ o < 0x021200 ∧ o % 0x10 = 0 then locOk (fieldOf v 16 8)
  else if 0x030000 ≤ o ∧ o < 0x030200 then
    let e := (o - 0x030000) / 16
    match o % 16 with
    | 0 =>
      (fieldOf v 12 8 == 0xFE || decide (fieldOf v 12 8 < 48)) &&
      (e != 0 || ((fieldOf v 0 3 == 1 || fieldOf v 0 3 == 2) && fieldOf v 12 8 == 0xFE && fieldOf v 20 1 == 0)) &&
      (fieldOf v 0 3 != 1 || decide (144 ≤ fieldOf v 4 8) || limInputOk e (s.rd (Reg.IN_CFG (fieldOf v 4 8))))
    | 4 =>
      let w := signedOf 16 (fieldOf v 0 16)
      let h := signedOf 16 (fieldOf v 16 16)
      (if s.on (Fd.LIM_CFG_DIR e) then decide (h < w) else decide (w < h)) && (e != 0 || decide (h ≤ 0x2080))
    | _ => true
  else crossField s a v

/-- A write of LIM_CFG: entry 0 keeps its ACTION (Table 9). -/
def State.writeLimCfg (s : State) (e : Nat) (v : Word) : State :=
  let s := s.plainWrite (Reg.LIM_CFG e) v
  let s := if e = 0 then s.set (Fd.LIM_CFG_ACTION 0) 4 else s
  let s := s.setLimP e { s.limP e with hardFrom := none, safeFrom := none }
  if s.fld (Fd.LIM_CFG_KIND e) = 0 then s.wr (Reg.LIM_STAT e) (withField 0x80000000 2 1 (s.fld (Fd.LIM_STAT_ACK_REQ e))) else s

/-- PRT_ACK (R358). -/
def execPrtAck (w : Fin 8) (value : Word) (s : State) : Host.Outcome State Fault Refusal :=
  .next (s.writeRow w Reg.PRT_ACK value (crossPrt s Reg.PRT_ACK value) (fun s => s.protAck value))

/-- A command that needs FACILITY or CONTROL (Table 6 of chapter 10): what is missing, and the domain used. -/
def State.facilityOrControl (s : State) (k : Nat) : Option Nat × List Nat :=
  if s.holds k domControl then (none, [domControl]) else if s.hasRole k roleFacility then (none, []) else (some domControl, [])

/-- A protective command acts (R392): 0 enter FULLCOOL, 1 isolate rack, 2 trip rack. -/
def State.protCommand (s : State) (kind r : Nat) : State :=
  match kind with
  | 0 => s.enterFullcool false
  | 1 =>
    let s := s.setRackP r { s.rackP r with asked := false, force := true, leakAt := none }
    (s.startLeak r seqLeak [] false).setRackP r { (s.startLeak r seqLeak [] false).rackP r with asked := false, force := true } |>.settle
  | _ => (s.startRack r seqCmdTrip Fd.PRT_EVT_TRIP).settle

/-- A protective command is recorded while the module drives no outputs, and acts at once otherwise (R432). -/
def State.protOrRecord (s : State) (kind r : Nat) : State :=
  if s.drives then s.protCommand kind r else { s with prt := { s.prt with cmds := s.prt.cmds ++ [(kind, r)] } }

/-- The recorded protective commands act from the tick at which the module first drives outputs (R48, R432). -/
def State.actRecorded (s : State) : State :=
  let l := s.prt.cmds
  let s := { s with prt := { s.prt with cmds := [] } }
  l.foldl (fun (s : State) (p : Nat × Nat) => s.protCommand p.1 p.2) s

def judgeProt (code kind rack : Nat) (k : Nat) (s : State) : Judge :=
  { code := code, bad := if 48 ≤ rack then some (0x21, 0) else none, owner := (s.facilityOrControl k).1, uses := (s.facilityOrControl k).2,
    run := fun _ s => (s.protOrRecord kind rack, .now 0 0 []) }

/-- FULLCOOL_ENTER (R389, R392). -/
def execFullcoolEnter (q : Req) (s : State) : Host.Outcome State Fault Refusal :=
  .next (s.requestNow q 0x31 (judgeProt 0x31 0 0))

/-- RACK_ISOLATE (R392). -/
def execRackIsolate (q : Req) (rack : Byte) (s : State) : Host.Outcome State Fault Refusal :=
  .next (s.requestNow q 0x33 (judgeProt 0x33 1 rack.toNat))

/-- RACK_TRIP (R392). -/
def execRackTrip (q : Req) (rack : Byte) (s : State) : Host.Outcome State Fault Refusal :=
  .next (s.requestNow q 0x34 (judgeProt 0x34 2 rack.toNat))

def judgeFcExit (k : Nat) (s : State) : Judge :=
  { code := 0x32, owner := (s.facilityOrControl k).1, uses := (s.facilityOrControl k).2, legal := 0x0100, barred := !s.fcAutoOver,
    run := fun _ s => (s.leaveFullcool 1, .now 0 0 []) }

/-- FULLCOOL_EXIT (R391, R431). -/
def execFullcoolExit (q : Req) (s : State) : Host.Outcome State Fault Refusal :=
  .next (s.request (.fullcoolExit q) q 0x32 judgeFcExit)

/-- The effect of ACK (R423): PRT_ACK for WHAT 0 to 3, STM_ACK for 4, both for 5. -/
def State.ackCmd (s : State) (what index : Nat) : State :=
  match what with
  | 4 => s.streamAck (BitVec.ofNat 32 index)
  | 5 => if s.mainAbsent then s.ackAll else s.ackAll.streamAck 0x80000000
  | _ => s.ackOne what index

def judgeAck (what : Byte) (index : Word) (k : Nat) (s : State) : Judge :=
  { code := 0x35, needMain := what.toNat == 4, legal := 0x03FA, owner := (s.facilityOrControl k).1, uses := (s.facilityOrControl k).2,
    bad := if what.toNat = 5 ∨ (what.toNat = 4 ∧ index.toNat < 262144) ∨ (what.toNat < 4 ∧ ackIndexOk what.toNat index.toNat) then none else some (0x21, 0),
    run := fun _ s => (s.ackCmd what.toNat index.toNat, .now 0 0 []) }

/-- ACK (R358, R423). -/
def execAck (q : Req) (what : Byte) (index : Word) (s : State) : Host.Outcome State Fault Refusal :=
  .next (s.request (.ack q what index) q 0x35 (judgeAck what index))

def judgeSetpoint (loop : Byte) (value : Word) (k : Nat) (s : State) : Judge :=
  { code := 0x40, legal := 0x03FA, owner := if s.holds k domControl then none else some domControl, uses := [domControl],
    bad := if 128 ≤ loop.toNat then some (0x21, 0) else none,
    run := fun _ s => ({ s with waitWrites := s.waitWrites ++ [⟨k, Reg.LP_SP loop.toNat, value⟩] }, .now 0 0 []) }

/-- SETPOINT (R423): LP_SP takes the value at the next tick edge (R264). -/
def execSetpoint (q : Req) (loop : Byte) (value : Word) (s : State) : Host.Outcome State Fault Refusal :=
  .next (s.request (.setpoint q loop value) q 0x40 (judgeSetpoint loop value))

end Sys2Proof.Machine
end

