-- ==== Sys2Proof/Machine/Plan.lean ====
section
/-! DEFINITION. Power plan, ceilings and warm-hold (chapter 06): the planner (R235 to R244), plan frames (R245 to R249), staged
changes (R250, R251), protective caps (R252 to R255), acknowledgements (R258 to R260), and the commands JOB_SET, CEIL_SET and
CEIL_CLEAR (R425, R426). -/

namespace Sys2Proof.Machine

/-- "No limit" (R227). -/
def noLimit : Nat := 0xFFFFFFFF

def State.tdp (s : State) (a : Nat) : Nat := s.fld (Fd.ACC_CFG_TDP a)

/-- The accelerators of the plan in ascending local index: of the row or adopted, with a TDP (R226). -/
def State.planAccs (s : State) : List Nat :=
  (sortBy (fun a b => decide (a ≤ b)) ((s.stm.row.map (·.1)) ++ ((s.stm.adopted.map (·.1)).filter (fun a => !Tab.has s.stm.row a)))).filter
    (fun a => s.tdp a != 0)

/-- The accelerators of a rack that take part in the plan. -/
def State.rackAccs (s : State) (r : Nat) : List Nat := s.planAccs.filter (fun a => s.rackOf a == some r)

/-- The plan group of an accelerator: its rack, or for an adopted one the lost row's rack, numbered 4096 + 64 × module + rack (R510). -/
def lostGroup (m rack : Nat) : Nat := 4096 + 64 * m + rack
def State.groupOf (s : State) (a : Nat) : Option Nat :=
  match Tab.find s.fed.adopt a with
  | some x => some (lostGroup x.m x.acc.rack)
  | none => s.rackOf a
def State.groupAccs (s : State) (g : Nat) : List Nat := s.planAccs.filter (fun a => s.groupOf a == some g)

/-! ### Membership -/

/-- One membership change (R425): 0 CLEAR, 1 ADD, 2 REMOVE. -/
def applyJobSet (m : Tab Nat) (c : Nat × Nat × List Nat) : Tab Nat :=
  match c.2.1 with
  | 0 => m.filter (fun p => p.2 != c.1)
  | 1 => c.2.2.foldl (fun (m : Tab Nat) a => m.put a c.1) m
  | _ => m.filter (fun p => !(p.2 == c.1 && c.2.2.contains p.1))

/-- The membership after the changes that wait (R425). -/
def State.nextMembers (s : State) : Tab Nat := s.plan.jobSets.foldl applyJobSet s.plan.jobOf

/-- The first wrong index of a JOB_SET ADD or REMOVE (R425): out of the row, without TDP, or repeated. -/
def badIndex (s : State) : List Nat → Nat → Option Nat
  | [], _ => none
  | a :: t, n => if 4096 ≤ a ∨ s.tdp a = 0 ∨ t.contains a then some n else badIndex s t (n + 2)

def judgeJobSet (job : Nat) (op : Nat) (idx : List Nat) (k : Nat) (s : State) : Judge :=
  { code := 0x52, needMain := true, legal := 0x03F8,
    bad := if 4000 < idx.length then some (0x21, 2) else (badIndex s idx 4).map (fun o => (0x21, o)),
    owner := if s.holds k domPlan then none else some domPlan, uses := [domPlan],
    run := fun _ s =>
      let s := { s with plan := { s.plan with jobSets := s.plan.jobSets ++ [(job, op, idx)] } }
      (s, .now 0 0 [(s.nextMembers.filter (fun p => p.2 == job)).length]) }

/-- JOB_SET CLEAR (R425). -/
def execJobSetClear (q : Req) (job : Byte) (s : State) : Host.Outcome State Fault Refusal :=
  .next (s.request (.jobSetClear q job) q 0x52 (judgeJobSet job.toNat 0 []))

/-- JOB_SET ADD (R425). -/
def execJobSetAdd (q : Req) (job : Byte) (idx : List (BitVec 16)) (s : State) : Host.Outcome State Fault Refusal :=
  .next (s.request (.jobSetAdd q job idx) q 0x52 (judgeJobSet job.toNat 1 (idx.map (·.toNat))))

/-- JOB_SET REMOVE (R425). -/
def execJobSetRemove (q : Req) (job : Byte) (idx : List (BitVec 16)) (s : State) : Host.Outcome State Fault Refusal :=
  .next (s.request (.jobSetRemove q job idx) q 0x52 (judgeJobSet job.toNat 2 (idx.map (·.toNat))))

/-! ### Ceilings and protective caps -/

/-- Whether a scope covers an accelerator (R231): 0 ACC, 1 RACK, 2 JOB, 3 MODULE. -/
def State.covers (s : State) (scope index a : Nat) : Bool :=
  match scope with
  | 0 => a == index
  | 1 => s.rackOf a == some index
  | 2 => s.jobOf a == some index
  | _ => true

/-- The valid ceiling entries, ascending: number and control word. -/
def State.ceilings (s : State) : List (Nat × Word) :=
  (s.regs.filter (fun p => decide (Reg.CL_CTRL 0 ≤ p.1) && decide (p.1 < Reg.CL_CTRL 1024) && p.1 % 32 == 0 && fieldOf p.2 31 1 == 1)).map
    (fun p => ((p.1 - Reg.CL_CTRL 0) / 32, p.2))

/-- The members of a ceiling (R234). -/
def State.ceilMembers (s : State) (w : Word) : List Nat := s.planAccs.filter (s.covers (fieldOf w 0 3) (fieldOf w 4 12))

/-- The value of a ceiling for each of its members (R234); none for a SHARE ceiling without members. -/
def State.ceilValue (s : State) (e : Nat) (w : Word) : Option Nat :=
  let v := Tab.at 0 s.plan.clVal e
  let n := (s.ceilMembers w).length
  if fieldOf w 3 1 = 0 then some v else if n = 0 then none else some (min (v / n) 0xFFFE)

/-- The values of the ceilings that cover an accelerator, in ascending entry number (R237). -/
def State.ceilValues (s : State) (a : Nat) : List Nat :=
  (s.ceilings.filter (fun e => s.covers (fieldOf e.2 0 3) (fieldOf e.2 4 12) a)).filterMap (fun e => s.ceilValue e.1 e.2)

/-- The protective cap of a rack (R252): 0 none, 1 LEAKWATCH, 2 SURVIVAL, as Serac imposes it. -/
def State.rackCap (s : State) (r : Nat) : Nat := s.fld (Fd.RK_OUT_CAP r)

/-- The value of a protective cap for an accelerator (R252). -/
def State.capValue (s : State) (kind a : Nat) : Nat :=
  s.tdp a * (if kind = 1 then s.fld Fd.PLN_PROT_CFG_LW_PCT else s.fld Fd.PLN_PROT_CFG_SV_PCT) / 100

/-- The kind of protective cap on an accelerator's rack. -/
def State.accCap (s : State) (a : Nat) : Nat := (s.rackOf a).elim 0 s.rackCap

/-- The lowest limit that ceilings and the protective cap put on an accelerator, if any. -/
def State.imposed (s : State) (a : Nat) : Option Nat :=
  let l := s.ceilValues a ++ (if s.accCap a = 0 then [] else [s.capValue (s.accCap a) a])
  l.foldl (fun m v => some (m.elim v (min v))) none

/-- Targets above what is imposed (R238): the smallest limit and the count, packed as R419 says, or none. -/
def State.cappedBy (s : State) (l : List (Nat × Nat)) : Option Nat :=
  let hit := l.filterMap (fun p => (s.imposed p.1).filter (fun v => decide (v < p.2)))
  match hit with
  | [] => none
  | v :: t => some (t.foldl min v % 65536 * 65536 + min hit.length 65535)

/-- A write answered CAPPED is counted once and recorded (R238). -/
def State.capped (s : State) (d : Option Nat) : State × Nat × Nat :=
  match d with
  | none => (s, 0, 0)
  | some d => ((s.count Reg.PLN_CNT_CAPPED).raise Fd.PLN_EVT_CAPPED noObj [d], 1, d)

/-- The encodings of a scope and its index that are not reserved (R262). -/
def scopeOk (scope index : Nat) : Bool :=
  match scope with
  | 0 => decide (index < 4096)
  | 1 => decide (index < 48)
  | 2 => decide (index < 256)
  | 3 => index == 0
  | _ => false

/-- PLN_: encodings reserved across fields or words (R247, R252, R262, R234, R250). -/
def crossPlan (s : State) (a : Nat) (v : Word) : Bool :=
  let o := offsetOf a
  if a = Reg.PLN_TIMING then decide (2 * fieldOf v 0 10 ≤ s.fld Fd.PLN_EXPIRY_MS)
  else if a = Reg.PLN_EXPIRY then decide (2 * s.fld Fd.PLN_TIMING_REFRESH ≤ fieldOf v 0 16)
  else if a = Reg.PLN_PROT_CFG then decide (fieldOf v 8 7 < fieldOf v 0 7)
  else if 0x050000 ≤ o ∧ o < 0x058000 ∧ o % 32 = 0 then
    scopeOk (fieldOf v 0 3) (fieldOf v 4 12) &&
    (fieldOf v 31 1 == 0 || fieldOf v 3 1 == 1 || decide ((s.rd (a + 4)).toNat ≤ 0xFFFE))
  else if 0x060000 ≤ o ∧ o < 0x061000 ∧ o % 16 = 0 then
    scopeOk (fieldOf v 0 3) (fieldOf v 4 12) && (fieldOf v 18 1 == 0 || fieldOf v 0 3 == 2)
  else true

/-- PLN_CEIL_USED. -/
def State.showCeilings (s : State) : State := s.set Fd.PLN_CEIL_USED_N s.ceilings.length

/-- A ceiling is committed by the session in a slot (R232): its scope, form, index and the value of CL_VAL. -/
def State.setCeiling (s : State) (k c : Nat) (v : Word) : State :=
  let m := s.fld (Fd.SS_STAT_MASTER k)
  let seq := s.plan.clSeq + 1
  let s := { s with plan := { s.plan with clSeq := seq, clVal := s.plan.clVal.put c (s.rd (Reg.CL_VAL c)).toNat } }
  let s := ((s.wr (Reg.CL_CTRL c) (v &&& 0x8000FFFF)).wr (Reg.CL_SETTER c) (BitVec.ofNat 32 m)).wr (Reg.CL_SEQ c) (BitVec.ofNat 32 seq)
  let s := (s.wr (Reg.CL_TIME_LO c) (s.clk.mtime.setWidth 32)).wr (Reg.CL_TIME_HI c) ((s.clk.mtime >>> 32).setWidth 32)
  s.showCeilings.raise Fd.PLN_EVT_CEIL_SET c [m, (s.rd (Reg.CL_VAL c)).toNat]

/-- A ceiling entry is cleared (R232). -/
def State.clearCeiling (s : State) (k c : Nat) : State :=
  let m := s.fld (Fd.SS_STAT_MASTER k)
  if s.on (Fd.CL_CTRL_VALID c) then
    (s.set (Fd.CL_CTRL_VALID c) 0).showCeilings.raise Fd.PLN_EVT_CEIL_CLR c [m, Tab.at 0 s.plan.clVal c]
  else s

/-- A write of CL_CTRL (R232). -/
def State.ceilWrite (k c : Nat) (v : Word) (s : State) : State :=
  if fieldOf v 31 1 = 1 then s.setCeiling k c v else (s.clearCeiling k c).wr (Reg.CL_CTRL c) (v &&& 0xFFFF)

/-- CEILING_COMMIT (R232): a write of CL_CTRL with VALID = 1. -/
def execCeilingCommit (w : Fin 8) (c : Fin 1024) (value : Word) (s : State) : Host.Outcome State Fault Refusal :=
  .next (s.writeRow w (Reg.CL_CTRL c) (value ||| 0x80000000) (crossPlan s (Reg.CL_CTRL c) (value ||| 0x80000000))
    (State.ceilWrite w c (value ||| 0x80000000)))

/-- CEILING_CLEAR_WRITE (R232): a write of CL_CTRL with VALID = 0. -/
def execCeilingClearWrite (w : Fin 8) (c : Fin 1024) (value : Word) (s : State) : Host.Outcome State Fault Refusal :=
  .next (s.writeRow w (Reg.CL_CTRL c) (value &&& 0x7FFFFFFF) (crossPlan s (Reg.CL_CTRL c) (value &&& 0x7FFFFFFF))
    (State.ceilWrite w c (value &&& 0x7FFFFFFF)))

/-- The lowest ceiling entry that is not valid. -/
def State.freeCeiling (s : State) : Option Nat := (List.range 1024).find? (fun c => !s.on (Fd.CL_CTRL_VALID c))

def judgeCeilSet (entry : Nat) (scope form index : Nat) (value : Word) (k : Nat) (s : State) : Judge :=
  { code := 0x60, needMain := true, legal := 0x03FA,
    bad := if 1024 ≤ entry ∧ entry ≠ 0xFFFF then some (0x21, 0)
           else if 4 ≤ scope then some (0x21, 2) else if 2 ≤ form then some (0x21, 3)
           else if ¬ scopeOk scope index then some (0x21, 4)
           else if form = 0 ∧ 0xFFFE < value.toNat then some (0x21, 8) else none,
    role := if s.hasRole k roleFacility then none else some roleFacility,
    busy := entry == 0xFFFF && s.freeCeiling.isNone,
    run := fun _ s =>
      let c := if entry = 0xFFFF then s.freeCeiling.getD 0 else entry
      let s := (s.wr (Reg.CL_VAL c) value).setCeiling k c (BitVec.ofNat 32 (2 ^ 31 + index * 16 + form * 8 + scope))
      (s, .now 0 0 [c, (s.rd (Reg.CL_SEQ c)).toNat]) }

/-- CEIL_SET (R426). -/
def execCeilSet (q : Req) (entry : BitVec 16) (scope form : Byte) (index : BitVec 16) (value : Word) (s : State) :
    Host.Outcome State Fault Refusal :=
  .next (s.request (.ceilSet q entry scope form index value) q 0x60 (judgeCeilSet entry.toNat scope.toNat form.toNat index.toNat value))

def judgeCeilClear (entry : Nat) (k : Nat) (s : State) : Judge :=
  { code := 0x61, needMain := true, legal := 0x03FA, bad := if 1024 ≤ entry ∧ entry ≠ 0xFFFF then some (0x21, 0) else none,
    role := if s.hasRole k roleFacility then none else some roleFacility,
    run := fun _ s =>
      let l := (s.ceilings.map (·.1)).filter (fun c => entry == 0xFFFF || c == entry)
      (l.foldl (fun s c => s.clearCeiling k c) s, .now 0 0 [l.length]) }

/-- CEIL_CLEAR (R426). -/
def execCeilClear (q : Req) (entry : BitVec 16) (s : State) : Host.Outcome State Fault Refusal :=
  .next (s.request (.ceilClear q entry) q 0x61 (judgeCeilClear entry.toNat))

/-! ### The planner -/

/-- Whether the frame program emits PLAN field 0, or has in the last 20 frames (R236, R262). -/
def State.emitsDemand (s : State) : Bool := (Tab.find s.ice.planAt 0).any (fun t => decide (s.clk.now ≤ t + 2000))

/-- The demand of an accelerator (R236), absent without PLAN field 0, for the no-value code, and after 20 frames. -/
def State.demand (s : State) (a : Nat) : Option Nat :=
  if s.emitsDemand then
    match Tab.find s.ice.planIn a with
    | none => none
    | some v => if v = 2 ^ 31 then none else some (clampInt 0 0xFFFE (signedOf 32 v)).toNat
  else none

/-- target(a) of R236; an adopted accelerator's is ADOPT_PCT of its TDP (R510). -/
def State.target (s : State) (a : Nat) : Nat :=
  if Tab.has s.fed.adopt a then s.tdp a * s.fld Fd.PAI_FED_CTRL_ADOPT_PCT / 100 else
  if s.fld (Fd.ACC_TGT_TARGET a) ≠ 0xFFFF then s.fld (Fd.ACC_TGT_TARGET a) else
  let pct := (s.jobOf a).elim 0 (fun j => s.fld (Fd.JB_CFG_TARGET_PCT j))
  s.tdp a * (if pct ≠ 0 then pct else s.fld Fd.PLN_DEFAULT_TARGET_PCT) / 100

/-- request(a) of R236. -/
def State.planRequest (s : State) (a : Nat) : Nat :=
  match s.demand a with
  | none => s.target a
  | some d => min (s.target a) (d + s.tdp a * s.fld Fd.PLN_MARGIN_PCT / 100)

def sumBy (f : α → Nat) (l : List α) : Nat := (l.map f).foldl (· + ·) 0

/-- The plan cap of an accelerator after its rack's budget (R236). An adopted accelerator is in no rack. -/
def State.rackShare (s : State) (a : Nat) : Nat :=
  match s.rackOf a with
  | none => s.target a
  | some r =>
    let b := (s.rd (Reg.RK_BUDGET r)).toNat
    let l := s.rackAccs r
    if b = noLimit ∨ sumBy s.target l ≤ b then s.target a
    else if sumBy s.planRequest l = 0 then 0
    else min (s.target a) (b * s.planRequest a / sumBy s.planRequest l)

/-- This module's accelerators and those of the federation's members, own and adopted (R505). -/
def State.naccOwn (s : State) : Nat := s.planAccs.length
def FedAnnounce.naccAll (a : FedAnnounce) : Nat := a.nacc.toNat + sumBy (fun (x : AdoptRow) => x.count.toNat) a.adopted
def State.naccOf (s : State) (m : Nat) : Nat :=
  if m = s.sys.straps.moduleId.val then s.naccOwn else (Tab.find s.fed.mem m).elim 0 (fun x => FedAnnounce.naccAll x.ann)
def State.naccAll (s : State) : Nat :=
  s.naccOwn + sumBy s.naccOf ((List.range 64).filter (fun m => m != s.sys.straps.moduleId.val && s.fld (Fd.MEM_STAT_FSTATE m) == 2))

/-- A member's values before its first ALLOC, from its own view (R505). -/
def State.fedShare (s : State) (total : Nat) : Nat :=
  if total = noLimit then noLimit else if s.naccAll = 0 then 0 else total * s.naccOwn / s.naccAll

/-- Whether the federation assigns the module budget and ramp bound (R227): this module is a member and FED is 1. -/
def State.fedPlans (s : State) : Bool := s.on Fd.PLN_CTRL_FED && s.fld Fd.PAI_FED_STAT_FSTATE == 2

/-- The module budget and ramp bound in use (R227, R505). -/
def State.modBudget (s : State) : Nat :=
  if s.fedPlans then
    match s.plan.fedNow with | some p => p.1 | none => s.fedShare (s.rd Reg.PAI_FED_BUDGET).toNat
  else (s.rd Reg.PLN_MOD_BUDGET).toNat
def State.modRamp (s : State) : Nat :=
  if s.fedPlans then
    match s.plan.fedNow with | some p => p.2 | none => s.fedShare (s.rd Reg.PAI_FED_RAMP).toNat
  else (s.rd Reg.PLN_MOD_RAMP).toNat

/-- The plan caps of the whole module (R236). -/
def State.planCaps (s : State) : Tab Nat :=
  let l := s.planAccs.map (fun a => (a, s.rackShare a))
  let tot := sumBy (·.2) l
  if s.modBudget ≠ noLimit ∧ s.modBudget < tot then l.map (fun p => (p.1, p.2 * s.modBudget / tot)) else l

/-- The policy of an accelerator (R241). -/
def State.policyOf (s : State) (a : Nat) : Nat := (s.jobOf a).elim (s.fld Fd.PLN_DEFAULT_POLICY) (fun j => s.fld (Fd.JB_CFG_POLICY j))

/-- Whether a job with accelerators has been neither LOCKED nor COAST for its policy's MAXHOLD (R243). -/
def State.jobHeld (s : State) (j : Nat) : Bool :=
  s.plan.jobOf.any (fun p => p.2 == j) && (Tab.find s.plan.unlocked j).any (fun t => decide (t + sTicks (s.fld (Fd.POL_CFG_MAXHOLD (s.fld (Fd.JB_CFG_POLICY j)))) ≤ s.clk.now))

/-- The mean load over the last TRACK_STEPS completed steps (R242). -/
def State.trackMean (s : State) (a n : Nat) : Option Nat :=
  match Tab.find s.plan.track a, s.jobOf a with
  | some t, some j =>
    let l := t.steps.take n
    if t.job ≠ j ∨ l.length < n ∨ sumBy (·.2) l = 0 then none else some (sumBy (·.1) l / sumBy (·.2) l)
  | _, _ => none

/-- The policy floor (R242, R243). -/
def State.policyFloor (s : State) (a : Nat) : Nat :=
  let p := s.policyOf a
  if (s.jobOf a).any s.jobHeld then 0 else
  match s.fld (Fd.POL_CFG_MODE p) with
  | 1 => s.tdp a * s.fld (Fd.POL_CFG_FLOOR_PCT p) / 100
  | 2 => (s.trackMean a (s.fld (Fd.POL_CFG_TRACK_STEPS p))).elim 0 (fun m => m * s.fld (Fd.POL_CFG_FLOOR_PCT p) / 100)
  | _ => 0

/-- The ramp bound of an accelerator (R237); an adopted one's comes from the module's share alone (R510). -/
def State.rampBound (s : State) (a : Nat) : Nat :=
  if Tab.has s.fed.adopt a then (if s.modRamp = noLimit then 0xFFFF else min (s.modRamp / s.planAccs.length) 0xFFFF) else
  let rk := (s.rackOf a).elim noLimit (fun r => (s.rd (Reg.RK_RAMP r)).toNat)
  let n := (s.rackOf a).elim 1 (fun r => (s.rackAccs r).length)
  let l := [s.fld (Fd.POL_RAMP_RAMP (s.policyOf a))] ++ (if rk = noLimit then [] else [rk / n]) ++
    (if s.modRamp = noLimit then [] else [s.modRamp / s.planAccs.length])
  min (l.foldl min 0xFFFFFFFF) 0xFFFF

/-- The effective cap and its source from a plan cap (R237): 0 PLAN, 1 CEILING, 2 LEAKWATCH, 3 SURVIVAL. -/
def State.effCap (s : State) (a pc : Nat) : Nat × Nat :=
  let c := (s.ceilValues a).foldl (fun (c : Nat × Nat) v => if v ≤ c.1 then (v, 1) else c) (pc, 0)
  let k := s.accCap a
  if k ≠ 0 ∧ s.capValue k a ≤ c.1 then (s.capValue k a, k + 1) else c

/-- The floor before and after it is lowered to the cap (R237). -/
def State.effFloor (s : State) (a cap : Nat) : Nat × Bool :=
  let f := if s.fld (Fd.ACC_TGT_FLOOR a) ≠ 0xFFFF then s.fld (Fd.ACC_TGT_FLOOR a) else s.policyFloor a
  let f := if s.accCap a = 2 ∨ Tab.has s.fed.adopt a then 0 else f
  if cap < f then (cap, true) else (f, false)

/-- The entry of an accelerator from its plan cap (R237, R245). -/
def State.planEntry (s : State) (a pc : Nat) : PlanEntry :=
  let c := s.effCap a pc
  let f := s.effFloor a c.1
  { acc := a, prot := decide (2 ≤ c.2), ceil := c.2 == 1, warm := f.1 != 0, cap := c.1, floor := f.1, ramp := s.rampBound a }

/-- Every entry of a computation. -/
def State.planEntries (s : State) : Tab PlanEntry := s.planCaps.map (fun p => (p.1, s.planEntry p.1 p.2))

/-- The members of a staged change's scope (R250). -/
def State.stagedMembers (s : State) (h : Nat) : List Nat :=
  s.planAccs.filter (s.covers (s.fld (Fd.STG_CTRL_SCOPE h)) (s.fld (Fd.STG_CTRL_INDEX h)))

/-- A staged change, by its words, applied to the plan values (R250); the words in `kept` keep what was written to them later (R251). -/
def State.applyStaged (s : State) (ctrl val : Word) (kept : List Nat) : State :=
  let l := s.planAccs.filter (fun a => s.covers (fieldOf ctrl 0 3) (fieldOf ctrl 4 12) a && !kept.contains (Reg.ACC_TGT a))
  let s := l.foldl (fun (s : State) a =>
    let s := if fieldOf ctrl 16 1 = 1 then s.set (Fd.ACC_TGT_TARGET a) (fieldOf val 0 16) else s
    if fieldOf ctrl 17 1 = 1 then s.set (Fd.ACC_TGT_FLOOR a) (fieldOf val 16 16) else s) s
  let j := fieldOf ctrl 4 12
  if fieldOf ctrl 18 1 = 1 ∧ ¬ kept.contains (Reg.JB_CFG j) then s.set (Fd.JB_CFG_POLICY j) (fieldOf ctrl 20 4) else s

/-- A staged change as its words stand now, applied (R250). -/
def State.withStaged (s : State) (h : Nat) : State := s.applyStaged (s.rd (Reg.STG_CTRL h)) (s.rd (Reg.STG_VAL h)) []

/-- The staged entries. -/
def State.stagedList (s : State) : List Nat := (List.range 256).filter (fun h => s.fld (Fd.STG_STAT_STATE h) == 1)

/-- The floor and ramp bound of a change now, where only the cap's rise is staggered (R244). -/
def heldBack (old new : PlanEntry) : PlanEntry := { new with cap := old.cap, floor := min new.floor old.cap, prot := old.prot, ceil := old.ceil }

/-- The group of a staggered rise (R244): the rank among the job's affected accelerators in ascending global ID, 8 groups. -/
def State.staggerGroup (s : State) (affected : List Nat) (a : Nat) : Nat :=
  match s.jobOf a with
  | none => 0
  | some j =>
    let l := affected.filter (fun b => s.jobOf b == some j)
    8 * (l.filter (fun b => decide (s.globalOf b < s.globalOf a))).length / l.length

/-- The stagger of an accelerator's policy in µs per group, 0 for none or outside a job. -/
def State.staggerUs (s : State) (a : Nat) : Nat := if (s.jobOf a).isSome then s.fld (Fd.POL_RAMP_STAGGER (s.policyOf a)) / 8 * 10 else 0

/-- The frames of a change (R247, R244): per rack one frame for what applies at once, and one per job and group of staggered rises. -/
def State.changeFrames (s : State) (old new : Tab PlanEntry) (changed : List Nat) : List PlanFrame :=
  let rises (a : Nat) : Bool :=
    (match Tab.find old a, Tab.find new a with | some o, some n => decide (o.cap < n.cap) | _, _ => false) && s.staggerUs a != 0
  let racks := ((changed.filterMap s.groupOf).dedup)
  racks.flatMap (fun r =>
    let mine := changed.filter (fun a => s.groupOf a == some r)
    let nowEntries := mine.filterMap (fun a =>
      match Tab.find old a, Tab.find new a with
      | some o, some n => if rises a then (if o.floor = n.floor ∧ o.ramp = n.ramp then none else some (heldBack o n)) else some n
      | none, some n => some n
      | _, _ => none)
    let first := if nowEntries.isEmpty then [] else [(⟨r, false, 0, nowEntries⟩ : PlanFrame)]
    first ++ ((mine.filter rises).filterMap s.jobOf).dedup.flatMap (fun j => (List.range 8).filterMap (fun g =>
      let l := mine.filter (fun a => rises a && s.jobOf a == some j && s.staggerGroup changed a == g)
      match l with
      | [] => none
      | a :: _ => some ⟨r, false, g * s.staggerUs a, l.filterMap (fun a => Tab.find new a)⟩)))

/-- The accelerators whose entries differ. -/
def changedAccs (old new : Tab PlanEntry) : List Nat := (new.filter (fun p => Tab.find old p.1 != some p.2)).map (·.1)

/-- The load tracks after one more frame (R242). -/
def State.trackLoads (s : State) : State :=
  let t := s.planAccs.foldl (fun (t : Tab Track) a =>
    match s.jobOf a with
    | none => t.del a
    | some j =>
      let st := (s.job j).step
      let x := (Tab.find t a).filter (fun x => x.job == j) |>.getD ⟨j, st, 0, 0, []⟩
      let x := if x.step = st then x else { x with step := st, sum := 0, n := 0, steps := ((x.sum, x.n) :: x.steps).take 100 }
      t.put a (match s.loadOf a with | some l => { x with sum := x.sum + l, n := x.n + 1 } | none => x)) s.plan.track
  { s with plan := { s.plan with track := t } }

/-- A job slot never LOCKED since the planner started counts from the planner's first computation (R243). -/
def State.watchHeld (s : State) : State :=
  let u := (List.range 256).foldl (fun (u : Tab Nat) j =>
    if s.jobState j = 2 ∨ s.jobState j = 3 ∨ Tab.has u j then u else u.put j s.clk.now) s.plan.unlocked
  { s with plan := { s.plan with unlocked := u } }

/-- A ceiling reset taken since the last computation clears every ceiling, with its own record (R448, R233). -/
def State.ceilResetNow (s : State) : State :=
  match s.sys.ceilReset with
  | none => s
  | some m =>
    let l := s.ceilings.map (·.1)
    let s := l.foldl (fun s c => s.set (Fd.CL_CTRL_VALID c) 0) { s with sys := { s.sys with ceilReset := none } }
    s.showCeilings.raise Fd.PLN_EVT_CEIL_CLR noObj [l.length, m]

/-- The words of an accelerator after a computation (R237, R239). -/
def State.showEntry (s : State) (e : PlanEntry) : State :=
  let a := e.acc
  let was := s.on (Fd.ACC_STAT_FLOORLOW a)
  let pc := Tab.at 0 s.plan.pc a
  let low := (s.effFloor a e.cap).2
  let s := ((s.set (Fd.ACC_EFF_CAP a) e.cap).set (Fd.ACC_EFF_FLOOR a) e.floor).set (Fd.ACC_STAT_RAMP a) e.ramp
  let s := (s.set (Fd.ACC_STAT_SRC a) (s.effCap a pc).2).setB (Fd.ACC_STAT_FLOORLOW a) low
  if low ∧ ¬ was then (s.count Reg.PLN_CNT_FLOORLOW).raise Fd.PLN_EVT_FLOORLOW a [] else s

/-- The words of an accelerator that no longer takes part in the plan (R226): as at reset, but for the last acknowledgement's. -/
def State.hideEntry (s : State) (a : Nat) : State :=
  let s := ((s.set (Fd.ACC_EFF_CAP a) 0).set (Fd.ACC_EFF_FLOOR a) 0).set (Fd.ACC_STAT_RAMP a) 0xFFFF
  (s.set (Fd.ACC_STAT_SRC a) 0).set (Fd.ACC_STAT_FLOORLOW a) 0

/-- Whether this module's plan frames leave it: a standby sends none (R475), nor does a module without its port die. -/
def State.sendsPlan (s : State) : Bool := s.fld Fd.PAI_STAT_ROLE != 2 && !s.portAbsent

/-- The words of racks, jobs, ceilings and the planner after a computation. -/
def State.showPlan (s : State) : State :=
  let s := (List.range 48).foldl (fun s r =>
    let l := s.rackAccs r
    (s.set (Fd.RK_STAT_NACC r) l.length).wr (Reg.RK_SUM r) (BitVec.ofNat 32 (sumBy (fun a => s.fld (Fd.ACC_EFF_CAP a)) l))) s
  let s := (List.range 256).foldl (fun s j =>
    ((s.set (Fd.JB_STAT_POLICY j) (s.fld (Fd.JB_CFG_POLICY j))).setB (Fd.JB_STAT_HELD j) (s.jobHeld j)).set (Fd.JB_STAT_NACC j)
      (s.members j).length) s
  let s := s.ceilings.foldl (fun s e => s.set (Fd.CL_MEMB_N e.1) (s.ceilMembers e.2).length) s
  (s.setB Fd.PLN_STAT_DEMAND s.emitsDemand).setB Fd.PLN_STAT_RUN s.sendsPlan

/-- The firings since the last computation take effect, in order (R250, R251). A staged change written again since stays STAGED. -/
def State.settleFirings (s : State) : State :=
  let s := s.plan.fired.foldl (fun (s : State) (f : Firing) =>
    let s := s.applyStaged f.ctrl f.val f.after
    if f.after.contains (Reg.STG_CTRL f.h) then s else s.set (Fd.STG_STAT_STATE f.h) 2) s
  { s with plan := { s.plan with fired := [] } }

/-- The offset and the frames of every staged change (R250). -/
def State.buildStaged (s : State) : State :=
  s.stagedList.foldl (fun (s : State) h =>
    let x := s.withStaged h
    let new := x.planEntries
    let f := x.changeFrames s.plan.entries new (changedAccs s.plan.entries new)
    { s with plan := { s.plan with built := s.plan.built.put h ((s.rd (Reg.STG_OFS h)).toNat, f) } }.set (Fd.STG_STAT_FRAMES h)
      (min f.length 15)) s

/-- The federation's values whose EFFECTIVE has come, the last of them in force (R505). -/
def State.takeFed (s : State) : State :=
  let due := s.plan.fedNext.filter (fun p => decide (diff64 p.1 s.clk.mtime ≤ 0))
  let rest := s.plan.fedNext.filter (fun p => !decide (diff64 p.1 s.clk.mtime ≤ 0))
  { s with plan := { s.plan with fedNow := due.getLast?.elim s.plan.fedNow (fun p => some p.2), fedNext := rest } }

/-- What a computation finds: membership, the federation's values, a ceiling reset, the firings, the load tracks and the held jobs, and the
LEAD, lifetime and refresh interval that its frames take (R235). -/
def State.settlePlan (s : State) : State :=
  let s := { s with plan := { s.plan with jobOf := s.nextMembers, jobSets := [], doneAt := some s.clk.now,
                                          lead := s.fld Fd.PLN_TIMING_LEAD * 100000, life := s.fld Fd.PLN_EXPIRY_MS * 1000000,
                                          every := s.fld Fd.PLN_TIMING_REFRESH } }
  s.takeFed.ceilResetNow.settleFirings.trackLoads.watchHeld

/-- The computation of plan caps, entries and change frames from the values found (R235 to R244). -/
def State.computePlan (s : State) : State :=
  let pc := s.planCaps
  let new := s.planEntries
  let old := s.plan.entries
  let fs := s.changeFrames old new (changedAccs old new)
  let s := { s with plan := { s.plan with pc := pc, entries := new, frames := fs } }
  let s := (old.filter (fun p => !Tab.has new p.1)).foldl (fun (s : State) p => s.hideEntry p.1) s
  let s := new.foldl (fun (s : State) p => s.showEntry p.2) s
  s.showPlan.buildStaged

/-- PLANNER_COMPUTE (R235): at tick 85 of a frame the planner computes plan caps and effective values, once. -/
def execPlannerCompute (s : State) : Host.Outcome State Fault Refusal :=
  .next <|
    if ¬ s.mainRuns ∨ ¬ s.on Fd.PLN_CTRL_EN ∨ s.clk.sidx.toNat % 100 ≠ 85 ∨ s.plan.doneAt = some s.clk.now then s
    else s.settlePlan.computePlan

/-! ### Plan frames -/

/-- The clamp of R254 on an entry of a rack with a signalled protective cap. -/
def State.clampEntry (s : State) (kind : Nat) (e : PlanEntry) : PlanEntry :=
  if kind = 0 then e else
  let p := s.capValue kind e.acc
  let cap := min e.cap p
  { e with cap := cap, prot := e.prot || decide (p < e.cap), floor := if kind = 2 then 0 else min e.floor cap }

/-- An entry on the wire (R245). -/
def PlanEntry.bytes (e : PlanEntry) : List Byte :=
  beBytes 2 (e.acc + (if e.prot then 4096 else 0) + (if e.ceil then 8192 else 0) + (if e.warm then 16384 else 0)) ++
  beBytes 2 e.cap ++ beBytes 2 e.floor ++ beBytes 2 e.ramp

/-- A plan frame as it is sent, but for the network (R245): the module and rack it is for, its flags, PSEQ, wire times and entries. -/
structure PlanCopy where
  level : Nat
  module : Nat
  rack : Nat
  prot : Bool
  full : Bool
  pseq : Nat
  effective : Nat
  expiry : Nat
  issue : Nat
  entries : List PlanEntry
deriving DecidableEq, Repr

/-- The bytes of a plan frame on network A (0) or B (1): Table 2 of chapter 06, big-endian, with the CRC-32 of all before it (R245). -/
def PlanCopy.bytes (f : PlanCopy) (net : Nat) : List Byte :=
  let b := beBytes 2 0xF1A9 ++ beBytes 1 f.level ++ beBytes 1 (net + (if f.prot then 2 else 0) + (if f.full then 4 else 0)) ++
    beBytes 1 f.module ++ beBytes 1 f.rack ++ beBytes 2 f.entries.length ++ beBytes 4 f.pseq ++ beBytes 4 0 ++
    beBytes 8 f.effective ++ beBytes 8 f.expiry ++ beBytes 8 f.issue ++ f.entries.flatMap PlanEntry.bytes
  b ++ beBytes 4 (crc32 b)

/-- Both copies of a plan frame leave (R245), to the group of their rack: the IPv4 group `base` plus the rack. -/
def State.sendCopies (s : State) (base : Nat) (f : PlanCopy) : State :=
  (s.send (.frame .plan (0 :: (base + f.rack) :: (f.bytes 0).map BitVec.toNat))).send (.frame .plan (1 :: (base + f.rack) :: (f.bytes 1).map BitVec.toNat))

/-- A plan frame to a lost row's rack group (R510): the lost module's ID, original indices, and the PSEQ of that row. -/
def State.sendLost (s : State) (g : Nat) (full : Bool) (effective expiry : Nat) (l : List PlanEntry) : State :=
  let m := (g - 4096) / 64
  let seq := (Tab.at 0 s.fed.pseq m + 1) % 2 ^ 32
  let s := { s with fed := { s.fed with pseq := s.fed.pseq.put m seq } }
  let base := ((s.fed.adopt.find? (fun x => x.2.m == m)).map (fun x => x.2.acc.group.toNat)).getD (s.rd Reg.NET_PGRP4).toNat
  let l := l.map (fun (e : PlanEntry) => { e with acc := (Tab.find s.fed.adopt e.acc).elim e.acc (fun x => x.acc.idx.val) })
  s.sendCopies base { level := s.fld Fd.PAI_PLVL_RUN, module := m, rack := (g - 4096) % 64, prot := false, full := full, pseq := seq,
                      effective := effective, expiry := expiry, issue := s.clk.mtime.toNat,
                      entries := sortBy (fun (a b : PlanEntry) => decide (a.acc ≤ b.acc)) l }

/-- A plan frame leaves the port die (R246, R254): it takes the next PSEQ and its issue time, and the clamp of its rack. -/
def State.sendPlan (s : State) (rack : Nat) (prot full : Bool) (effective expiry : Nat) (l : List PlanEntry) : State :=
  if l.isEmpty ∨ ¬ s.sendsPlan then s
  else if 4096 ≤ rack then s.sendLost rack full effective expiry l else
  let seq := s.rd Reg.PLN_PSEQ + 1
  let kind := Tab.at 0 s.plan.clamp rack
  let s := s.wr Reg.PLN_PSEQ seq
  s.sendCopies (s.rd Reg.NET_PGRP4).toNat
    { level := s.fld Fd.PAI_PLVL_RUN, module := s.sys.straps.moduleId.val, rack := rack, prot := prot || kind != 0, full := full, pseq := seq.toNat,
      effective := effective, expiry := expiry, issue := s.clk.mtime.toNat, entries := l.map (s.clampEntry kind) }

/-- The PSEQ last used for a plan group. -/
def State.lastPseq (s : State) (g : Nat) : Word :=
  if 4096 ≤ g then BitVec.ofNat 32 (Tab.at 0 s.fed.pseq ((g - 4096) / 64)) else s.rd Reg.PLN_PSEQ

def PlanAck.none : PlanAck := ⟨Option.none, 0, 0, false, []⟩
def State.planAck (s : State) (a : Nat) : PlanAck := Tab.at PlanAck.none s.plan.acks a
def State.setPlanAck (s : State) (a : Nat) (x : PlanAck) : State := { s with plan := { s.plan with acks := s.plan.acks.put a x } }

/-- Accelerators owe an acknowledgement of a change by the last frame of a plan group, 10 ms after a wire time (R260). -/
def State.owe (s : State) (g due : Nat) (l : List PlanEntry) : State :=
  if ¬ s.sendsPlan then s else
  l.foldl (fun (s : State) e => s.setPlanAck e.acc
    { s.planAck e.acc with owed := ⟨s.lastPseq g, BitVec.ofNat 64 due, false⟩ :: (s.planAck e.acc).owed }) s

/-- A change or staged frame goes out; its accelerators owe an acknowledgement (R260). -/
def State.sendChange (s : State) (base : Nat) (f : PlanFrame) : State :=
  let eff := base + f.delayUs * 1000
  (s.sendPlan f.rack false f.full eff (eff + s.plan.life) f.entries).owe f.rack eff f.entries

/-- CHANGE_FRAME_EMIT (R247): at tick 95 the change frames of this frame's computation go out. -/
def execChangeFrameEmit (s : State) : Host.Outcome State Fault Refusal :=
  .next <|
    if ¬ s.mainRuns ∨ ¬ s.on Fd.PLN_CTRL_EN ∨ s.clk.sidx.toNat % 100 ≠ 95 then s else
    let s := s.plan.frames.foldl (fun (s : State) f => s.sendChange (s.clk.mtime.toNat + s.plan.lead) f) s
    { s with plan := { s.plan with frames := [] } }

/-- The plan groups of the last computation's entries, and those of them that bear a rack's number (R510). -/
def State.planGroups (s : State) : List Nat := (s.plan.entries.filterMap (fun p => s.groupOf p.1)).dedup
def State.groupsOf (s : State) (rack : Nat) : List Nat :=
  s.planGroups.filter (fun g => (if 4096 ≤ g then (g - 4096) % 64 else g) == rack)

/-- The rack numbers with entries, ascending. -/
def State.planRacks (s : State) : List Nat := (List.range 48).filter (fun r => !(s.groupsOf r).isEmpty)

/-- Whether a rack's refresh falls in this frame (R247): the racks are spread evenly over the interval by their order (log entry 86). -/
def State.refreshDue (s : State) (rack : Nat) : Bool :=
  let l := s.planRacks
  let k := (l.filter (fun r => decide (r < rack))).length
  l.contains rack && s.clk.sidx.toNat / 100 % s.plan.every == k * s.plan.every / l.length

/-- REFRESH_FRAME_EMIT (R247): at tick 95 of a rack's frame a FULL frame goes out, and with it those of the lost rows' racks of
that number (R510). -/
def execRefreshFrameEmit (rack : Fin 48) (s : State) : Host.Outcome State Fault Refusal :=
  .next <|
    if ¬ s.mainRuns ∨ ¬ s.on Fd.PLN_CTRL_EN ∨ s.clk.sidx.toNat % 100 ≠ 95 ∨ ¬ s.refreshDue rack ∨
       Tab.find s.plan.refresh rack = some s.clk.now then s else
    let eff := s.clk.mtime.toNat + s.plan.lead
    let s := { s with plan := { s.plan with refresh := s.plan.refresh.put rack s.clk.now } }
    (s.groupsOf rack).foldl (fun (s : State) g =>
      s.sendPlan g false true eff (eff + s.plan.life) ((s.plan.entries.filter (fun p => s.groupOf p.1 == some g)).map (·.2))) s

/-! ### Staged changes -/

/-- The targets a staged change asks for: its own, or those that hold once the owner target is withdrawn. -/
def State.stagedTargets (s : State) (h : Nat) : List (Nat × Nat) :=
  if s.on (Fd.STG_CTRL_SET_TGT h) then (s.stagedMembers h).map (fun a => (a, (s.withStaged h).target a)) else []

/-- A write of a plan word is remembered with the firings that wait (R251). -/
def State.notePlanWrite (s : State) (a : Nat) : State :=
  { s with plan := { s.plan with fired := s.plan.fired.map (fun (f : Firing) => { f with after := a :: f.after }) } }

/-- A write of STG_CTRL (R250): VALID = 1 stages, VALID = 0 withdraws. -/
def State.stageWrite (h : Nat) (v : Word) (s : State) : State × Nat × Nat :=
  let s := (s.wr (Reg.STG_CTRL h) (v &&& 0x80F7FFF7)).notePlanWrite (Reg.STG_CTRL h)
  if fieldOf v 31 1 = 1 then
    let d := s.cappedBy (s.stagedTargets h)
    let s := (s.set (Fd.STG_STAT_STATE h) 1).setB (Fd.STG_STAT_CAPPED h) d.isSome
    s.capped d
  else
    ({ s with plan := { s.plan with built := s.plan.built.del h } }.wr (Reg.STG_STAT h) 0, 0, 0)

/-- STAGED_CHANGE_STAGE (R250). -/
def execStagedChangeStage (w : Fin 8) (h : Fin 256) (value : Word) (s : State) : Host.Outcome State Fault Refusal :=
  let v := value ||| 0x80000000
  .next (s.writeRowWith w (Reg.STG_CTRL h) v (crossPlan s (Reg.STG_CTRL h) v) (State.stageWrite h v))

/-- STAGED_CHANGE_WITHDRAW (R262). -/
def execStagedChangeWithdraw (w : Fin 8) (h : Fin 256) (value : Word) (s : State) : Host.Outcome State Fault Refusal :=
  let v := value &&& 0x7FFFFFFF
  .next (s.writeRowWith w (Reg.STG_CTRL h) v (crossPlan s (Reg.STG_CTRL h) v) (State.stageWrite h v))

/-- A PLAN_EMIT fires (R250): the built frames leave with their offset, and the values are taken at the next computation. A change that has
fired and has not been staged again is no longer STAGED (log entry 86). -/
def State.planEmit (s : State) (h : Nat) : State :=
  if 256 ≤ h ∨ s.fld (Fd.STG_STAT_STATE h) ≠ 1 ∨ s.plan.fired.any (fun f => f.h == h && !f.after.contains (Reg.STG_CTRL h)) then
    s.raise Fd.PLN_EVT_BADACT h []
  else
  let b := Tab.at (0, []) s.plan.built h
  let s := if s.on Fd.PLN_CTRL_EN ∧ s.mainRuns then b.2.foldl (fun (s : State) f => s.sendChange (s.clk.mtime.toNat + b.1 * 1000) f) s else s
  { s with plan := { s.plan with fired := s.plan.fired ++ [⟨h, s.rd (Reg.STG_CTRL h), s.rd (Reg.STG_VAL h), []⟩] } }

/-- A WARMHOLD fires (R241). -/
def State.warmhold (s : State) (job policy : Nat) : State :=
  if 15 < policy then s.raise Fd.PLN_EVT_BADACT job [] else (s.set (Fd.JB_CFG_POLICY job) policy).notePlanWrite (Reg.JB_CFG job)

/-! ### Writes that ask for targets -/

/-- Whether a write of a plan word asks for targets (R238): it names one, or it withdraws the one that stands. -/
def State.asksTarget (s : State) (a : Nat) (v : Word) : Bool :=
  let o := offsetOf a
  if 0x010000 ≤ o ∧ o < 0x020000 ∧ o % 16 = 4 then fieldOf v 0 16 != 0xFFFF || fieldOf (s.rd a) 0 16 != 0xFFFF
  else if 0x030000 ≤ o ∧ o < 0x031000 ∧ o % 16 = 0 then fieldOf v 0 7 != 0 || fieldOf (s.rd a) 0 7 != 0
  else true

/-- Whether an accelerator's target is not its owner's own (R236). -/
def State.noOwnTarget (s : State) (a : Nat) : Bool := s.fld (Fd.ACC_TGT_TARGET a) == 0xFFFF

/-- The targets a write of a plan word asks for, after it is made (R238). -/
def State.askedTargets (s : State) (a : Nat) : List (Nat × Nat) :=
  let o := offsetOf a
  if 0x010000 ≤ o ∧ o < 0x020000 ∧ o % 16 = 4 then
    (let x := (o - 0x010000) / 16; if s.tdp x = 0 then [] else [(x, s.target x)])
  else if 0x030000 ≤ o ∧ o < 0x031000 ∧ o % 16 = 0 then
    ((s.members ((o - 0x030000) / 16)).filter (fun x => s.tdp x != 0 && s.noOwnTarget x)).map (fun x => (x, s.target x))
  else if a = Reg.PLN_DEFAULT then
    (s.planAccs.filter (fun x => s.noOwnTarget x && (s.jobOf x).all (fun j => s.fld (Fd.JB_CFG_TARGET_PCT j) == 0))).map (fun x => (x, s.target x))
  else []

/-! ### Protective caps -/

/-- The prebuilt entry of an accelerator under a cap (R253). -/
def State.protEntry (s : State) (kind a : Nat) : PlanEntry :=
  { acc := a, prot := true, ceil := false, warm := false, cap := s.capValue kind a, floor := 0, ramp := 0xFFFF }

/-- PROT_FRAME_REBUILD (R253): the main die rebuilds a rack's pair of protective frames. -/
def execProtFrameRebuild (rack : Fin 48) (s : State) : Host.Outcome State Fault Refusal :=
  .next <| if s.mainAbsent then s else
    let l := s.rackAccs rack
    { s with plan := { s.plan with prebuilt := s.plan.prebuilt.put rack (l.map (s.protEntry 1), l.map (s.protEntry 2)) } }

/-- PROTECTIVE_CAP_SIGNAL (R254, R29): the port die takes a rack's protective cap from Serac: it multicasts the prebuilt frame
of a cap that begins or changes, and clamps every later frame until the cap ends. -/
def execProtectiveCapSignal (rack : Fin 48) (s : State) : Host.Outcome State Fault Refusal :=
  .next <|
    let kind := s.rackCap rack
    if kind = Tab.at 0 s.plan.clamp rack ∨ s.portAbsent then s else
    let s := { s with plan := { s.plan with clamp := s.plan.clamp.put rack kind } }
    let s := ((s.set (Fd.RK_STAT_PROT rack) kind).set (Fd.RK_STAT_CONFIRM rack) 0).raise Fd.PLN_EVT_PROT rack [kind]
    if kind = 0 then s else
    let p := Tab.at ([], []) s.plan.prebuilt rack
    let l := if kind = 1 then p.1 else p.2
    let s := (s.sendPlan rack true true 0 0 l).owe rack s.clk.mtime.toNat l
    { s with plan := { s.plan with clampSeq := s.plan.clampSeq.put rack (s.rd Reg.PLN_PSEQ) } }

/-- Whether a rack's power is confirmed (R255). -/
def State.confirmed (s : State) (r : Nat) : Bool :=
  let kind := Tab.at 0 s.plan.clamp r
  kind != 0 && ((s.rackAccs r).filter (fun a => !s.isSilent a)).all (fun a =>
    let k := s.planAck a
    k.aseq.isSome && !k.fell && decide (diff32 k.pseq (Tab.at 0 s.plan.clampSeq r) ≥ 0) && decide (k.power ≤ s.capValue kind a))

/-! ### Acknowledgements -/

/-- A violation of a plan acknowledgement (R259): counted against the source and told. -/
def State.ackViolation (s : State) (o : Origin) (code : Nat) (bs : List Byte) : State :=
  (s.violate o.addr).protoNotice o 28412 code (beAt bs 4 4) (beAt bs 8 4)

/-- Whether an acknowledgement that arrives at a wire time covers a change, and in time (R260). -/
def Owed.covered (o : Owed) (pseq : BitVec 32) : Bool := decide (diff32 pseq o.pseq ≥ 0)
def Owed.inTime (o : Owed) (t : BitVec 64) : Bool := decide (diff64 t o.due ≤ 10000000)

/-- A valid acknowledgement of accelerator `a` that arrives at wire time `t` (R259, R260, R255). -/
def State.takeAck (s : State) (a : Nat) (bs : List Byte) (t : BitVec 64) : State :=
  let k := s.planAck a
  let aseq := BitVec.ofNat 32 (beAt bs 8 4)
  if k.aseq.any (fun x => decide (diff32 aseq x ≤ 0)) then s.count Reg.PLN_CNT_ACKDROP else
  let pseq := BitVec.ofNat 32 (beAt bs 12 4)
  let power := beAt bs 30 2
  let fb := beAt bs 3 1 / 2 % 2 = 1
  let s := s.setPlanAck a { k with aseq := some aseq, pseq := pseq, power := power, fell := fb,
                                   owed := if fb then k.owed else k.owed.filter (fun o => !o.covered pseq) }
  let wasFb := s.on (Fd.ACC_STAT_FALLBACK a)
  let s := s.setB (Fd.ACC_STAT_FALLBACK a) fb
  let s := if fb ∧ ¬ wasFb then s.raise Fd.PLN_EVT_FALLBACK a [] else s
  let s := if ¬ fb ∧ (k.owed.head?).any (fun o => o.covered pseq && o.inTime t) then s.set (Fd.ACC_STAT_ACKED a) 1 else s
  let tooHigh := power ≠ noPower ∧ beAt bs 24 2 * 100 + 2 * s.tdp a < power * 100 ∧ diff64 t (BitVec.ofNat 64 (beAt bs 16 8)) > 2000000
  let s := s.setB (Fd.ACC_STAT_OVER a) tooHigh
  let s := if tooHigh then (s.count Reg.PLN_CNT_OVER).raise Fd.PLN_EVT_OVER a [power] else s
  match s.rackOf a with
  | none => s
  | some r => s.setB (Fd.RK_STAT_CONFIRM r) (s.confirmed r)

/-- PLAN_ACK (R259): a plan acknowledgement arrives at a port. -/
def execPlanAck (udp : Heard (BitVec 16)) (bytes : List Byte) (ns : Fin 10000) (s : State) :
    Host.Outcome State Fault Refusal :=
  .next <|
    let c := udp.came
    let src := c.src
    let from_ : Origin := ⟨src, udp.what, portNet c.port⟩
    if ¬ s.portTakes Fd.PORT_CFG_PLAN c.port src c.row then s else
    let s := s.countRx c.port
    if (s.quarEntry src).isSome then s.count Reg.NET_CNT_QDROP
    else if bytes.length < 36 ∨ beAt bytes 0 2 ≠ 0xF1AA then s
    else if beAt bytes 2 1 < s.fld Fd.STM_LVL_MIN ∨ s.fld Fd.STM_LVL_MAX < beAt bytes 2 1 then s.ackViolation from_ 1 bytes
    else if crc32 (bytes.take 32) ≠ beAt bytes 32 4 then s.ackViolation from_ 2 bytes
    else if bytes.length ≠ 36 then s.ackViolation from_ 3 bytes
    else match s.localOf (beAt bytes 4 4 % 2 ^ 18) with
    | none => s.ackViolation from_ 5 bytes
    | some a => s.takeAck a bytes (s.arrival ns)

/-- Whether a change is overdue for an acknowledgement now, and has not been told (R260). -/
def State.overdue (s : State) (o : Owed) : Bool := !o.told && decide (diff64 s.clk.mtime o.due ≥ 10000000)

/-- The changes an accelerator still owes once those overdue are told: each told but the newest is dropped. -/
def State.toldOwed (s : State) (l : List Owed) : List Owed :=
  let l := l.map (fun (o : Owed) => { o with told := o.told || s.overdue o })
  l.take 1 ++ (l.drop 1).filter (fun o => !o.told)

/-- PLAN_NOACK (R260): 10 ms after its EFFECTIVE a change is not acknowledged; each such change counts once. -/
def execPlanNoack (acc : Fin 4096) (s : State) : Host.Outcome State Fault Refusal :=
  .next <|
    let k := s.planAck acc
    let due := k.owed.filter s.overdue
    if due.isEmpty then s else
    let s := (s.setPlanAck acc { k with owed := s.toldOwed k.owed }).set (Fd.ACC_STAT_ACKED acc) 0
    (s.countBy Reg.PLN_CNT_NOACK due.length).raise Fd.PLN_EVT_NOACK acc []

end Sys2Proof.Machine
end

