-- ==== Sys2Proof/Machine/Transfer.lean ====
section
/-! DEFINITION. The image store and its transfer commands (R426), the host table store and its device requests (R437 to R439), and
the links of the host ports (R399). -/

namespace Sys2Proof.Machine

/-- The state with an object of the image store set. -/
def State.setObj (s : State) (h : Nat) (o : StoreObj) : State := { s with zh := { s.zh with store := s.zh.store.put h o } }

/-- The state without an object of the image store. -/
def State.delObj (s : State) (h : Nat) : State := { s with zh := { s.zh with store := s.zh.store.del h } }

/-- The bytes reserved in a store. -/
def storeUsed (t : Tab StoreObj) : Nat := (t.map (fun p => p.2.size)).foldl (· + ·) 0

/-- Whether the image store has room for an object (R426): 4 GiB and 4,096 objects. -/
def State.storeFits (s : State) (size : Nat) : Bool :=
  decide (s.zh.store.length < 4096) && decide (storeUsed s.zh.store + size ≤ 4 * 2 ^ 30)

/-- The lowest free handle from 0x0001 (R426). -/
def State.freeHandle (s : State) : Nat := ((List.range' 1 4096).find? (fun h => !Tab.has s.zh.store h)).getD 0

/-- The object of an XFER_OPEN under a new handle. -/
def openRun (kind flags size : Nat) (s : State) : State × Reply :=
  let h := s.freeHandle
  let o : StoreObj := { kind := kind, retain := bitOf flags 0, size := size, data := [], closed := false, hash := [], lastData := s.clk.now,
                        domain := if kind = 4 then domMaint else domControl }
  (s.setObj h o, .now 0 0 [h])

/-- The domain a transfer of a kind needs (Table 6). -/
def xferDomain (kind : Nat) : Nat := if kind = 4 then domMaint else domControl

def judgeXferOpen (kind flags : Byte) (size : BitVec 64) (k : Nat) (s : State) : Judge :=
  { code := 0x70, needMain := true, legal := 0x03FE,
    bad := if kind.toNat = 0 ∨ 4 < kind.toNat then some (0x21, 0) else if 1 < flags.toNat then some (0x21, 1) else none,
    owner := if s.holds k (xferDomain kind.toNat) then none else some (xferDomain kind.toNat),
    busy := !s.storeFits size.toNat, uses := [xferDomain kind.toNat],
    run := fun _ s => openRun kind.toNat flags.toNat size.toNat s }

/-- XFER_OPEN (R426): reserves SIZE and answers the handle. -/
def execXferOpen (q : Req) (kind flags : Byte) (size : BitVec 64) (s : State) : Host.Outcome State Fault Refusal :=
  .next (s.request (.xferOpen q kind flags size) q 0x70 (judgeXferOpen kind flags size))

/-- The domain of the object a handle names, CONTROL where there is none. -/
def State.objDomain (s : State) (h : Nat) : Nat := (Tab.find s.zh.store h).elim domControl (·.domain)

/-- A transfer command on an object of the image store, by the holder of the domain it was opened under. The capture ring and the
snapshot store are for reading only: their handles are out of range (R426). -/
def judgeObject (code h : Nat) (bad : Option (Nat × Nat)) (run : StoreObj → State → State × Reply) (k : Nat) (s : State) : Judge :=
  { code := code, needMain := true, legal := 0x03FE,
    bad := if 0x7FFE < h ∧ h < 0xFFFF then some (0x21, 0) else bad,
    owner := if s.holds k (s.objDomain h) then none else some (s.objDomain h), uses := [s.objDomain h],
    run := fun _ s => match Tab.find s.zh.store h with
      | none => (s, .now 0x40 0 [])
      | some o => run o s }

/-- The bytes of a transfer are set. -/
def putBytes : Nat → List Byte → Tab Byte → Tab Byte
  | _, [], t => t
  | o, b :: bs, t => putBytes (o + 1) bs (t.put o b)

def judgeXferData (handle : BitVec 16) (offset : BitVec 64) (data : List Byte) (k : Nat) (s : State) : Judge :=
  let h := handle.toNat
  let beyond := match Tab.find s.zh.store h with
    | some o => decide (o.size < offset.toNat + data.length)
    | none => false
  judgeObject 0x71 h (if data.length = 0 ∨ 8176 < data.length then some (0x21, 12) else if beyond then some (0x21, 4) else none)
    (fun o s =>
      if o.closed then (s, .now 0x40 0 [])
      else (s.setObj h { o with data := putBytes offset.toNat data o.data, lastData := s.clk.now }, .now 0 0 [])) k s

/-- XFER_DATA (R426): at any offset and in any order. -/
def execXferData (q : Req) (handle : BitVec 16) (offset : BitVec 64) (data : List Byte) (s : State) : Host.Outcome State Fault Refusal :=
  .next (s.request (.ping q) q 0x71 (judgeXferData handle offset data))

/-- Whether the non-volatile image store has room (R426): 2 GiB and 256 objects. -/
def State.nvFits (s : State) (size : Nat) : Bool :=
  decide (s.zh.nvStore.length < 256) && decide (storeUsed s.zh.nvStore + size ≤ 2 * 2 ^ 30)

/-- Whether an object is to be copied into the non-volatile image store: RETAIN on a PROGRAM or TABLE object. -/
def StoreObj.kept (o : StoreObj) : Bool := o.retain && (o.kind == 1 || o.kind == 2)

/-- The copy of a closed object into the non-volatile image store; one held under the same kind and hash already is that copy. -/
def State.retain (s : State) (o : StoreObj) : State :=
  if o.kept ∧ ¬ s.zh.nvStore.any (fun p => p.2.kind == o.kind && p.2.hash == o.hash) then
    let h := ((List.range 256).find? (fun n => !Tab.has s.zh.nvStore n)).getD 0
    { s with zh := { s.zh with nvStore := s.zh.nvStore.put h o } }
  else s

def judgeXferClose (handle : BitVec 16) (hash : List Byte) (k : Nat) (s : State) : Judge :=
  let h := handle.toNat
  let full := match Tab.find s.zh.store h with
    | some o => !o.closed && o.kept && !s.nvFits o.size && !s.zh.nvStore.any (fun p => p.2.kind == o.kind && p.2.hash == hash)
    | none => false
  let j := judgeObject 0x72 h (if hash.length = 32 then none else some (0x21, 4))
    (fun o s =>
      if o.closed then (s, .now 0x40 0 [])
      else if o.data.length < o.size then (s.delObj h, .now 0x41 3 [])
      else if Config.sha256 o.bytes ≠ hash then (s.delObj h, .now 0x41 2 [])
      else
        let o := { o with closed := true, hash := hash }
        ((s.setObj h o).retain o, .now 0 0 [])) k s
  { j with busy := full }

/-- XFER_CLOSE (R426): INCOMPLETE and HASH refuse it and delete the object; a RETAIN object is copied. -/
def execXferClose (q : Req) (handle : BitVec 16) (hash : List Byte) (s : State) : Host.Outcome State Fault Refusal :=
  .next (s.request (.ping q) q 0x72 (judgeXferClose handle hash))

/-- The bytes a handle lets read (R426): a closed object, the capture ring, or a snapshot. -/
def State.readable (s : State) (h : Nat) : Option (List Byte) :=
  if h = 0x7FFF then some (Config.captureBytes s.ice.capture)
  else if 0x8000 ≤ h then (Tab.find s.ice.snaps h).map (fun n => Config.snapshotBytes n.frame.toNat n.pos n.kst n.hash n.inputs)
  else ((Tab.find s.zh.store h).filter (·.closed)).map (·.bytes)

def judgeXferRead (handle : BitVec 16) (offset : BitVec 64) (length : Word) (_k : Nat) (_s : State) : Judge :=
  { code := 0x73, needMain := true, legal := 0x03FE,
    bad := if length.toNat = 0 ∨ 8168 < length.toNat then some (0x21, 12) else none,
    run := fun _ s => match s.readable handle.toNat with
      | none => (s, .now 0x40 0 [])
      | some b => (s, .now 0 0 (b.length :: ((b.drop offset.toNat).take length.toNat).map (·.toNat))) }

/-- XFER_READ (R426): SIZE, and the bytes the object holds from OFFSET on. -/
def execXferRead (q : Req) (handle : BitVec 16) (offset : BitVec 64) (length : Word) (s : State) : Host.Outcome State Fault Refusal :=
  .next (s.request (.xferRead q handle offset length) q 0x73 (judgeXferRead handle offset length))

def judgeXferDelete (handle : BitVec 16) (k : Nat) (s : State) : Judge :=
  judgeObject 0x74 handle.toNat none (fun _ s => (s.delObj handle.toNat, .now 0 0 [])) k s

/-- XFER_DELETE (R426). -/
def execXferDelete (q : Req) (handle : BitVec 16) (s : State) : Host.Outcome State Fault Refusal :=
  .next (s.request (.xferDelete q handle) q 0x74 (judgeXferDelete handle))

/-- An object not closed within 60 s of its last XFER_DATA is deleted (R426). -/
def State.expireObj (s : State) (handle : Nat) : State :=
  match Tab.find s.zh.store handle with
  | none => s
  | some o => if ¬ o.closed ∧ o.lastData + sTicks 60 ≤ s.clk.now then s.delObj handle else s

/-- XFER_EXPIRY (R426): 60 s without XFER_DATA. -/
def execXferExpiry (handle : BitVec 16) (s : State) : Host.Outcome State Fault Refusal := .next (s.expireObj handle.toNat)

/-! ### The host table store -/

def judgeStoreAttach (k : Nat) (s : State) : Judge :=
  { code := 0x78, needMain := true, legal := 0x03FA, role := if s.hasRole k roleStore then none else some roleStore,
    busy := s.zh.attached.isSome,
    run := fun _ s => ({ s with zh := { s.zh with attached := some k } }.nextDevice, .now 0 0 []) }

/-- STORE_ATTACH (R437). -/
def execStoreAttach (q : Req) (s : State) : Host.Outcome State Fault Refusal :=
  .next (s.request (.storeAttach q) q 0x78 judgeStoreAttach)

def judgeStoreDetach (k : Nat) (s : State) : Judge :=
  { code := 0x79, needMain := true, legal := 0x03FA, role := if s.zh.attached = some k then none else some roleStore,
    run := fun _ s => (s.detachStore, .now 0 0 []) }

/-- STORE_DETACH (R439): by the attached session. -/
def execStoreDetach (q : Req) (s : State) : Host.Outcome State Fault Refusal :=
  .next (s.request (.storeDetach q) q 0x79 judgeStoreDetach)

/-- A master's answer to a device request arrives (R437): it must come from the attached session, which R440 checks. -/
def State.response (s : State) (q : Req) (cmd : Nat) (f : DeviceReq → State → State) : State :=
  s.takeFrame q cmd (fun k s => s.zh.attached == some k && q.mbox == 14) (fun k h w s =>
    let s := s.setSess k { s.sess k with rxHigh := h, rxWin := w }
    match s.zh.devs.find? (fun d => d.tag == q.tag && d.cmd == cmd) with
    | none => s
    | some d => f d { s with zh := { s.zh with devs := s.zh.devs.filter (fun (x : DeviceReq) => x.tag != q.tag) } })

/-- STORE_PUT_RESPONSE (R438, R196): OK to the last part completes the save, a refusal fails it. -/
def execStorePutResponse (q : Req) (ok : Bool) (s : State) : Host.Outcome State Fault Refusal :=
  .next (s.response q 0xC1 (fun d s =>
    if ¬ ok then (s.saveFailed d.key).nextDevice
    else if d.last then (s.saveDone d.key).nextDevice
    else match s.tbl.saves.find? (fun j => j.key == d.key) with
      | some j => s.sendPart j (d.offset + partBytes)
      | none => s.nextDevice))

/-- A further part of a unit is asked for, under the epoch the store answered with (log entry 17). -/
def State.askPart (s : State) (key : List Nat) (buf : List Byte) : State :=
  s.sendDevice { tag := BitVec.ofNat 32 s.zh.devTag, cmd := 0xC2, key := key, sentAt := s.clk.now, sent := 1, offset := buf.length, total := 0,
                 last := true, buf := buf } (key ++ [buf.length, partBytes])

/-- STORE_GET_RESPONSE (R438): a part of the unit, or NOT_AVAILABLE. -/
def execStoreGetResponse (q : Req) (size : Nat) (epoch : BitVec 64) (data : Option (List Byte)) (s : State) :
    Host.Outcome State Fault Refusal :=
  .next (s.response q 0xC2 (fun d s =>
    match data with
    | none => (s.setGot (s.tbl.got ++ [⟨d.key, none⟩])).nextDevice
    | some b =>
      let buf := d.buf ++ b
      let key := d.key.take 5 ++ [epoch.toNat]
      if buf.length < size ∧ b ≠ [] then s.askPart key buf
      else (s.setGot (s.tbl.got ++ [⟨key, some (epoch.toNat, buf)⟩])).nextDevice))

/-- A device request is sent again under its tag. -/
def State.resend (s : State) (d : DeviceReq) (fields : List Nat) : State :=
  match s.zh.attached with
  | none => s
  | some k =>
    ({ s with zh := { s.zh with devs := s.zh.devs.map (fun (x : DeviceReq) => if x.tag == d.tag then { d with sentAt := s.clk.now, sent := d.sent + 1 } else x) } }).sendRequest
      k d.cmd d.tag.toNat fields

/-- After 1 s without an answer a device request is sent again, up to 3 times; then a save fails, and a load takes the next source
(R439). -/
def State.retryDevice (s : State) (tag : Word) : State :=
  match s.zh.devs.find? (fun d => d.tag == tag) with
  | none => s
  | some d =>
    if s.clk.now < d.sentAt + sTicks 1 then s
    else if d.sent ≤ 3 then
      match s.tbl.saves.find? (fun j => d.cmd == 0xC1 && j.key == d.key) with
      | some j => s.resend d (d.key ++ [j.data.length, d.offset, if d.last then 1 else 0] ++ ((j.data.drop d.offset).take partBytes).map (·.toNat))
      | none => s.resend d (d.key ++ [d.offset, partBytes])
    else
      let s := { s with zh := { s.zh with devs := s.zh.devs.filter (fun (x : DeviceReq) => x.tag != tag) } }
      if d.cmd = 0xC1 then (s.saveFailed d.key).nextDevice
      else (s.setGot (s.tbl.got ++ [⟨d.key, none⟩])).nextDevice

/-- DEVICE_REQUEST_RETRY (R439). -/
def execDeviceRequestRetry (tag : Word) (s : State) : Host.Outcome State Fault Refusal := .next (s.retryDevice tag)

/-! ### Port links -/


/-- PORT_LINK_DOWN (R399, R62): its traffic moves to the network's other ports; losing the last one loses the network and its PTP master. -/
def execPortLinkDown (port : Fin 16) (s : State) : Host.Outcome State Fault Refusal :=
  .next (
    if s.on (Fd.PORT_STAT_LINK port) then
      let s := ((s.set (Fd.PORT_STAT_LINK port) 0).set (Fd.PORT_STAT_FEC_LOCK port) 0).bump (Fd.PORT_STAT_FLAPS port)
      let up := if port.val < 8 then Fd.NET_STAT_UP_A else Fd.NET_STAT_UP_B
      let s := (s.setBit up (port.val % 8) false).raise Fd.NET_EVT_LINK_DOWN port []
      let net := if port.val < 8 then Net.a else Net.b
      if s.fld up = 0 then (s.raise Fd.NET_EVT_NET_LOST noObj []).loseMaster net else s
    else s)

/-- The port die serves Zhoide on a network: its ready point (R525, R609). -/
def State.servePort (s : State) : State :=
  if Tab.has s.sys.readyAt 1 then s else { s with sys := { s.sys with readyAt := s.sys.readyAt.put 1 s.clk.now } }

/-- PORT_LINK_UP: an enabled port of a running port die gains link. -/
def execPortLinkUp (port : Fin 16) (s : State) : Host.Outcome State Fault Refusal :=
  .next (
    if portExists port && s.on (Fd.PORT_CFG_EN port) && !s.on (Fd.PORT_STAT_LINK port) && s.sys.portUp then
      let s := (s.set (Fd.PORT_STAT_LINK port) 1).set (Fd.PORT_STAT_FEC_LOCK port) 1
      let up := if port.val < 8 then Fd.NET_STAT_UP_A else Fd.NET_STAT_UP_B
      ((s.setBit up (port.val % 8) true).raise Fd.NET_EVT_LINK_UP port []).servePort
    else s)

end Sys2Proof.Machine
end

