-- ==== Sys2Proof/Machine/Dies.lean ====
section
/-! DEFINITION. The dies of the module: the source of Serac's tick (R71), the absence of the main die and of the port die (R38, R388,
R616), their resets, the commissioning record and its slots (R49 to R51, R170), and the readiness of the main die (R608). -/

namespace Sys2Proof.Machine

/-! ### The tick source -/

/-- The source Serac takes its tick from (R71): 2 the pair link in STANDBY while a lane is up, 1 module time while the port die keeps it
(R70), 0 Serac's own oscillator. -/
def State.tickSource (s : State) : Nat :=
  if s.opState = 2 ∧ (s.on Fd.PAI_STAT_L0 ∨ s.on Fd.PAI_STAT_L1) then 2 else if s.sys.portUp ∧ ¬ s.portAbsent then 1 else 0

/-- TIM_STAT.TICK_SRC follows the source in use. -/
def State.judgeTick (s : State) : State := s.set Fd.TIM_STAT_TICK_SRC s.tickSource

/-! ### The commissioning record -/

/-- The object of the non-volatile image store with a handle and a hash (R51). -/
def State.retained (s : State) (h : Nat) (hash : List Byte) : Option StoreObj :=
  (Tab.find s.zh.nvStore h).filter (fun o => o.hash == hash)

/-- Whether harness position `h` matches what a record stores for it (R606). -/
def State.harnessMatches (s : State) (h : Nat) (x : Option (Nat × Nat)) : Bool :=
  match x with
  | none => !s.on (Fd.HN_STAT_PRESENT h)
  | some (kind, variant) => s.on (Fd.HN_STAT_READ_OK h) && s.fld (Fd.HN_ID_KIND h) == kind && s.fld (Fd.HN_ID_VARIANT h) == variant &&
      kind == h + 1

/-- The CRC-32 over the contents of a record (R49). -/
def CrecRecord.crcOf (r : CrecRecord) : Nat :=
  crc32 (Config.recordBytes [r.seq, r.time.toNat, r.master, r.variant, r.moduleId, r.part.toNat] r.images r.harness)

/-- Whether a record is valid on this module (R51). -/
def State.recordHolds (s : State) (r : CrecRecord) : Bool :=
  r.crc == r.crcOf && r.variant == s.fld Fd.SYS_ID_VARIANT && r.moduleId == s.sys.straps.moduleId.val &&
  (List.range 8).all (fun h => s.harnessMatches h (r.harness.getD h none)) &&
  r.images.all (fun i => (s.retained i.2.1 i.2.2.1).isSome)

/-- The record is judged (R51): SYS_CREC_STAT.VALID and the MATCH bits; `tell` where an invalid record writes a CREC record. -/
def State.judgeRecord (s : State) (tell : Bool) : State :=
  let ok := s.sys.crec.any (fun r => s.recordHolds r)
  let s := s.setB Fd.SYS_CREC_STAT_VALID ok
  match s.sys.crec with
  | some r => if tell && !ok then s.occur 0x3C9 noObj [2, r.seq, 0xFFFFFFFF] else s
  | none => s

/-- The MATCH bit of a harness position (R606). -/
def State.showMatch (s : State) (h : Nat) : State :=
  s.setB (Fd.HN_STAT_MATCH h) (s.sys.crec.any (fun r => s.harnessMatches h (r.harness.getD h none)))

/-- A record's slots are loaded and activated from the image store, with EXACT and IFD_PART from the record (R170). The slots take the
numbers of their order in the record. -/
def State.loadRecord (s : State) (r : CrecRecord) : State :=
  let s := s.wr Reg.IFD_PART r.part
  let s := { s with ice := { s.ice with part := r.part } }
  (r.images.zip (List.range 16)).foldl (fun s x =>
    let k := x.2
    match s.retained x.1.2.1 x.1.2.2.1 with
    | none => s
    | some o =>
      let g := parseImage o.bytes
      let s := s.setB (Fd.SLOT_CFG_EXACT k) x.1.2.2.2
      (((s.set (Fd.SLOT_STAT_STATE k) 2).setSlot k ⟨x.1.2.1, some g⟩).showSlot k (some g)).activate k) s

/-- Whether every slot of the record is active (R608, R475). -/
def State.recordActive (s : State) : Bool :=
  s.sys.crec.any (fun r => r.images.all (fun i => s.activeSet.any (fun p => p.2.role == i.1 && p.2.hash == i.2.2.1)))

/-- PAI_STAT.WARM_READY (R475). -/
def State.warmReady (s : State) : Bool := !s.mainAbsent && s.recordActive && s.on Fd.TBL_STAT_READY

/-- The roles a record holds (R49). -/
def recordRoles : List Nat := [0, 1, 2, 3, 4, 5, 6]

/-- The handle in the non-volatile store of the program with a hash. -/
def State.retainedAt (s : State) (hash : List Byte) : Option Nat :=
  (s.zh.nvStore.find? (fun p => p.2.kind == 1 && p.2.hash == hash)).map (·.1)

/-- The first failed check of a making (R50): 2 NO_FRAME, 3 NOT_RETAINED, 4 NO_SUPPLY, 5 HARNESS, 1 OK. -/
def State.makingResult (s : State) : Nat :=
  if (s.activeOf 0).isNone then 2
  else if s.activeSet.any (fun p => (s.retainedAt p.2.hash).isNone) then 3
  else if s.fld (Fd.LIM_CFG_KIND 0) = 0 then 4
  else if (List.range 8).any (fun h => s.on (Fd.HN_STAT_PRESENT h) && !s.on (Fd.HN_STAT_READ_OK h)) then 5
  else 1

/-- The record that a making forms (R49). -/
def State.newRecord (s : State) (master : Nat) : CrecRecord :=
  let r : CrecRecord := {
    seq := (s.fld Fd.SYS_CREC_SEQ_N + 1) % 2 ^ 32, time := s.clk.mtime, master := master, variant := s.fld Fd.SYS_ID_VARIANT,
    moduleId := s.sys.straps.moduleId,
    images := recordRoles.filterMap (fun role => (s.activeOf role).bind (fun p =>
      (s.retainedAt p.2.hash).map (fun h => (role, h, p.2.hash, s.isExact p.1)))),
    part := s.ice.part,
    harness := (List.range 8).map (fun h =>
      if s.on (Fd.HN_STAT_READ_OK h) then some (s.fld (Fd.HN_ID_KIND h), s.fld (Fd.HN_ID_VARIANT h)) else none),
    crc := 0 }
  { r with crc := r.crcOf }

/-- A pending making at the frame boundary (R50). -/
def State.makeRecord (s : State) : State :=
  match s.sys.crecMake with
  | none => s
  | some master =>
    let s := { s with sys := { s.sys with crecMake := none } }.set Fd.SYS_CREC_STAT_PENDING 0
    let e := s.makingResult
    let s := s.set Fd.SYS_CREC_STAT_RESULT e
    if e = 1 then
      let r := s.newRecord master
      let s := { s with sys := { s.sys with crec := some r } }.wr Reg.SYS_CREC_SEQ (BitVec.ofNat 32 r.seq)
      let s := ((List.range 8).foldl (fun s h => s.showMatch h) s).judgeRecord false
      s.occur 0x3C9 noObj [0, r.seq, master]
    else s

/-- SYS_CREC_CMD.MAKE (R50): the record is made at the next frame boundary; BUSY while one is under way. -/
def State.askRecord (s : State) (w : Nat) : State :=
  if s.sys.crecMake.isSome then s.set Fd.SYS_CREC_STAT_RESULT 6
  else { s with sys := { s.sys with crecMake := some (s.fld (Fd.SS_STAT_MASTER w)) } }.set Fd.SYS_CREC_STAT_PENDING 1

/-- SYS_CREC_CMD.CLEAR (R50): the record is invalid at once: its CRC no longer stands. -/
def State.clearRecord (s : State) (w : Nat) : State :=
  if s.sys.crecMake.isSome then s.set Fd.SYS_CREC_STAT_RESULT 6 else
  let s := match s.sys.crec with
    | some r => { s with sys := { s.sys with crec := some { r with crc := r.crcOf + 1 } } }
    | none => s
  (s.judgeRecord false).occur 0x3C9 noObj [1, s.fld Fd.SYS_CREC_SEQ_N, s.fld (Fd.SS_STAT_MASTER w)]

/-- CREC_MAKE (R50): a write of SYS_CREC_CMD.MAKE = 1. -/
def execCrecMake (w : Fin 8) (s : State) : Host.Outcome State Fault Refusal :=
  .next (s.writeRow w Reg.SYS_CREC_CMD 1 true (fun s => s.askRecord w))

/-- CREC_CLEAR (R50): a write of SYS_CREC_CMD.CLEAR = 1 invalidates the record at once. -/
def execCrecClear (w : Fin 8) (s : State) : Host.Outcome State Fault Refusal :=
  .next (s.writeRow w Reg.SYS_CREC_CMD 2 true (fun s => s.clearRecord w))

/-- CEILING_RESET (R448): a write of SYS_CFGRST with CEIL = 1 and CONFIRM = 0xCE11. -/
def execCeilingReset (w : Fin 8) (s : State) : Host.Outcome State Fault Refusal :=
  .next (s.writeRow w Reg.SYS_CFGRST 0xCE110001 true (fun s =>
    { s with sys := { s.sys with ceilReset := some (s.fld (Fd.SS_STAT_MASTER w)) } }))

/-! ### The main die -/

/-- The state with the module's own part set. -/
def State.setSys (s : State) (y : Sys) : State := { s with sys := y }

/-- Serac declares the main die absent (R38): the bits, MAIN_ABSENT, the emptied action table (R91), and TABLE from RUN and
COMMISSION (R43). -/
def State.declareAbsent (s : State) : State :=
  if s.mainAbsent then s else
  let s := (s.set Fd.SYS_STATE_MAIN_ABSENT 1).set Fd.LOP_STAT_MAIN_ABSENT 1
  let s := (s.raise Fd.LOP_EVT_MAIN_ABSENT noObj []).emptyActions
  let s := s.setSys { s.sys with noPacket := 0, applied := 0, mainReady := false, readyAt := Tab.del 2 s.sys.readyAt }
  if s.opState = 3 ∨ s.opState = 4 then s.enter 5 0 else s

/-- What a main-die reset takes with it: slots, tables in the stacks, deferral slots (R435), job classes (R188), the action table, a
pending stream commit or making. Configuration registers keep their values (log entry 33). -/
def State.resetMain (s : State) : State :=
  let s := s.forgetRetirements.emptyActions.dropAllHeld.iceReset.tablesReset
  let s := s.applyRepairs 2
  let s := { s with jobs := s.jobs.map (fun (p : Nat × Job) => (p.1, { p.2 with cls := none })) }
  let s := s.setSys { s.sys with mainUp := false, mainHeld := true, mainReady := false, mainThrottled := false, crecMake := none,
                                 readyAt := Tab.del 2 s.sys.readyAt }
  let s := { s with sec := { s.sec with install := none } }
  ((s.set Fd.SYS_CREC_STAT_PENDING 0).set Fd.SEC_FW_STAT_BUSY 0).set Fd.PLN_STAT_RUN 0

/-- A declaration of absence with the reset of the main die (R38, R616). -/
def State.loseMain (s : State) : State := s.declareAbsent.resetMain

/-- MAIN_DIE_ABSENT (R38): 20 consecutive frames without an applied packet while a frame program is active. -/
def execMainDieAbsent (s : State) : Host.Outcome State Fault Refusal :=
  .next (if 20 ≤ s.sys.noPacket ∧ ¬ s.mainAbsent then s.loseMain else s)

/-- MAIN_DIE_RESET (R38): a main-die reset occurs. -/
def execMainDieReset (s : State) : Host.Outcome State Fault Refusal :=
  .next (if s.sys.seracUp then s.loseMain else s)

/-- MAIN_POWER_GOOD_LOST (R594, R38): a main-die rail loses power-good. -/
def execMainPowerGoodLost (s : State) : Host.Outcome State Fault Refusal :=
  .next (if s.sys.seracUp ∧ s.sys.mainPowered then s.loseMain else s)

/-- SAFETY_LINK_M_LOST (R38): link M has carried nothing for 3 consecutive ticks. -/
def execSafetyLinkMLost (s : State) : Host.Outcome State Fault Refusal :=
  .next (if s.sys.seracUp ∧ ¬ s.mainAbsent then s.loseMain else s)

/-- Whether Serac may power and release the main die now (R616, R475, R586, R598): not held by HOLD, not down by its thermal limit, and
in STANDBY only while WARM. -/
def State.mayRun (s : State) : Bool :=
  s.sys.seracUp && !s.sys.hold && !s.sys.mainThermal && (s.opState != 2 || s.on Fd.PAI_CTRL_WARM)

/-- The leaves of one attestation key (R528): 1,048,576. -/
def akLeaves : Nat := 1048576

/-- NEXT after a power-up of the key's die (R528): LIMIT. -/
def Leaves.powered (x : Leaves) : Leaves := ⟨x.limit, x.limit⟩

/-- KEY_LOW as NEXT passes the last 65,536 leaves (R531); `h` is 1 for AK-M and 2 for AK-P. -/
def State.tellLow (s : State) (h : Nat) (old new : Leaves) : State :=
  if akLeaves - new.next < 65536 ∧ ¬ akLeaves - old.next < 65536 then s.raise Fd.SEC_EVT_KEY_LOW noObj [h] else s

/-- The main die is powered, where it was not, and released from reset (R616). Its attestation key's NEXT starts at LIMIT (R528). -/
def State.releaseMain (s : State) : State :=
  if ¬ s.mayRun then s
  else if s.sys.mainPowered then { s with sys := { s.sys with mainHeld := false } }
  else
    let x := s.sec.akm
    let t := { s with sys := { s.sys with mainPowered := true, mainHeld := false }, sec := { s.sec with akm := x.powered } }
    t.tellLow 1 x x.powered

/-- MAIN_DIE_RELEASE (R616): the rails of a held main die report power-good. -/
def execMainDieRelease (s : State) : Host.Outcome State Fault Refusal :=
  .next (if s.sys.mainHeld ∧ ¬ s.sys.mainUp then s.releaseMain else s)

/-- The main die is powered down (R475, R598). -/
def State.powerMainDown (s : State) : State :=
  let s := s.loseMain
  { s with sys := { s.sys with mainPowered := false } }

/-- The module drives outputs as active from this moment on (R315): every DUTY pump with its intent set is started once after power-up. -/
def State.beginDriving (s : State) : State := s.startDuty

/-- Whether the main die is ready by R608. In STANDBY, where a main die sends no packets (R475), their count is not asked for
(log entry 32). -/
def State.readyNow (s : State) : Bool :=
  s.sys.mainUp && (!s.recordValid || (s.recordActive && (s.opState == 2 || decide (100 ≤ s.sys.applied))))

/-- MAIN_DIE_READY (R608, R38, R43): the absence ends and BOOT is left. -/
def execMainDieReady (s : State) : Host.Outcome State Fault Refusal :=
  .next (if s.readyNow ∧ ¬ s.sys.mainReady then
      let s := { s with sys := { s.sys with mainReady := true, readyAt := s.sys.readyAt.put 2 s.clk.now } }
      ((s.set Fd.SYS_STATE_MAIN_ABSENT 0).set Fd.LOP_STAT_MAIN_ABSENT 0).mirrorCopy.leaveBoot
    else s)

/-- TABLE_TO_RUN (R43): the main die is ready and 100 consecutive packets have been applied. -/
def execTableToRun (s : State) : Host.Outcome State Fault Refusal :=
  .next (if s.opState = 5 ∧ s.sys.mainReady ∧ ¬ s.mainAbsent ∧ 100 ≤ s.sys.applied then s.enter (if s.recordValid then 4 else 3) 0 else s)

/-- BOOT_TIMEOUT (R43, R589): the main die is not ready 180 s after entry to BOOT. The rule does not act while the role is RESOLVING. -/
def execBootTimeout (s : State) : Host.Outcome State Fault Refusal :=
  .next (if s.opState = 1 ∧ ¬ s.sys.mainReady ∧ s.fld Fd.PAI_STAT_ROLE ≠ 0 ∧ s.sys.bootAt + sTicks 180 ≤ s.clk.now then s.enter 5 0 else s)

/-! ### The port die -/

/-- Serac judges the port die absent (R388). -/
def State.losePort (s : State) : State :=
  ((s.set Fd.PRT_STAT_PORT_ABSENT 1).set Fd.SYS_STATE_PORT_ABSENT 1).judgeTick.settle

/-- A reset of the port die: its sessions end (R410), its servo starts again, and the die is absent until its firmware runs. -/
def State.resetPort (s : State) : State :=
  let s := (List.range 8).foldl (fun s k => s.endSession k) s
  let s := (List.range 8).foldl (fun s k => ((s.wr (Reg.SS_STAT k) 0).wr (Reg.SS_ID k) 0).delSess k) s
  let s := { s with servo := Servo.idle,
                    sys := { s.sys with portUp := false, readyAt := s.sys.readyAt.del 1 },
                    sec := { s.sec with opening := [], responding := [], awaiting := [], sendNext := none } }
  (s.toFreerun.applyRepairs 1).losePort

/-- PORT_DIE_ABSENT (R388): link P has carried nothing for 3 consecutive ticks. -/
def execPortDieAbsent (s : State) : Host.Outcome State Fault Refusal :=
  .next (if s.sys.seracUp ∧ ¬ s.portAbsent then s.losePort else s)

/-- PORT_DIE_PRESENT (R388): link P carries frames again. -/
def execPortDiePresent (s : State) : Host.Outcome State Fault Refusal :=
  .next (if s.sys.portUp ∧ s.portAbsent then
      ((s.set Fd.PRT_STAT_PORT_ABSENT 0).set Fd.SYS_STATE_PORT_ABSENT 0).judgeTick.settle else s)

/-- MAIN_DIE_THERMAL_LIMIT (R598): at 100 °C the clock is reduced, at 110 °C the main die is powered down. -/
def execMainDieThermalLimit (powerDown : Bool) (s : State) : Host.Outcome State Fault Refusal :=
  .next (if ¬ s.sys.mainPowered then s
    else if powerDown then { s.powerMainDown with sys := { s.powerMainDown.sys with mainThermal := true } }
    else { s with sys := { s.sys with mainThrottled := true } })

/-- PORT_DIE_THERMAL_LIMIT (R598): at 110 °C the port die is held in reset and reported absent. -/
def execPortDieThermalLimit (s : State) : Host.Outcome State Fault Refusal :=
  .next (if s.sys.portThermal then s else { s.resetPort with sys := { s.resetPort.sys with portThermal := true } })

/-- PORT_DIE_THERMAL_RELEASE (R598): below 95 °C the port die is released to restart its firmware. -/
def execPortDieThermalRelease (s : State) : Host.Outcome State Fault Refusal :=
  .next { s with sys := { s.sys with portThermal := false } }

/-- UNCORRECTABLE_ERROR (R567, R569, R572, R266): counted and told, with what Table 5 gives for the memory. -/
def State.uncorrected (s : State) (m : MemKind) (unit place : Nat) : State :=
  let s := ((s.count Reg.DIA_CNT_UNCORR).raise Fd.DIA_EVT_UNCORR noObj [memCode m, unit]).repairRow m unit place
  match m with
  | .laneA => s.laneBad .a
  | .laneB => s.laneBad .b
  | .seracNv => s
  | .portSram => s.resetPort
  | .tileStore =>
    let s := s.retireBank unit (bankOf place)
    if s.ice.run.isSome ∨ ¬ s.ice.batches.isEmpty then s else s.loseMain
  | .mainSram => s.loseMain
  | .ddr4 => (s.busFail none noObj).abandonSweep
  | .stack => s.pcUncorrected unit (place % 64)

def execUncorrectableError (mem : MemKind) (unit : Fin 64) (place : Fin 65536) (s : State) : Host.Outcome State Fault Refusal :=
  .next (s.uncorrected mem unit place)

end Sys2Proof.Machine
end

