-- ==== Sys2Proof/Machine/Image.lean ====
section
/-! DEFINITION. Craori frames (R501), and the takeover image (R481 to R485): its sections, the cut with what is sent full, the check, and
what the application of a section changes. The layout inside a section is not in the spec (log entry 14). -/

namespace Sys2Proof.Machine

/-! ### Craori frames -/

/-- The next frame of a Craori TYPE is counted (R501: SEQ per type and sender). -/
def State.nextCra (s : State) (ty : Nat) : Nat × State :=
  let n := (Tab.at 0 s.sec.craSeq ty + 1) % 2 ^ 32
  (n, { s with sec := { s.sec with craSeq := s.sec.craSeq.put ty n, crossed := s.sec.crossed + (if n = 2 ^ 31 then 1 else 0) } })

/-- A Craori frame on each of some paths, with one SEQ (R476, R501): path 0 and 1 are the lanes, 2 and 3 the networks, each with the fields of
its payload, to which those of the header are put. A frame on a network needs the port die. -/
def State.craEach (s : State) (kind : OutKind) (ty level : Nat) (paths : List (Nat × List Nat)) : State :=
  let p := s.nextCra ty
  let head := [level, ty, s.sys.straps.moduleId.val, s.sys.straps.slot.val, p.1, s.clk.mtime.toNat]
  (paths.filter (fun x => decide (x.1 < 2) || !p.2.portAbsent)).foldl
    (fun (s : State) x => s.send (.frame kind (x.1 :: (head ++ x.2)))) p.2

/-- A Craori frame of one payload on each of some paths. -/
def State.cra (s : State) (kind : OutKind) (ty level : Nat) (paths : List Nat) (fields : List Nat) : State :=
  s.craEach kind ty level (paths.map (fun x => (x, fields)))

/-- The row addresses of a network (NET_ROW6, NET_ROW4): the words of the IPv6 address, word 0 first, and the IPv4 address. -/
def State.rowAddress (s : State) (n : Net) : List Nat × Nat :=
  let a6 := if n = .a then Reg.NET_ROW6_A 0 else Reg.NET_ROW6_B 0
  let a4 := if n = .a then Reg.NET_ROW4_A else Reg.NET_ROW4_B
  ((List.range 4).map (fun i => (s.rd (a6 + 4 * i)).toNat), (s.rd a4).toNat)

/-- The pair running level (PAI_PLVL.RUN) and the federation's (PAI_LVL.RUN). -/
def State.pairLevel (s : State) : Nat := s.fld Fd.PAI_PLVL_RUN
def State.fedLevel (s : State) : Nat := s.fld Fd.PAI_LVL_RUN

/-- Whether a lane of the pair link is up (R476). -/
def State.pairUp (s : State) : Bool := s.on Fd.PAI_STAT_L0 || s.on Fd.PAI_STAT_L1

/-! ### Sections (Table 3 of chapter 12) -/

/-- Whether a word is one that software writes. -/
def writable (a : Nat) : Bool := (rowAt a).any (fun r => r.rw != 0)

/-- The register words of a section, by address. -/
def sectionHas (n a : Nat) : Bool :=
  let w := windowOf a
  let o := offsetOf a
  match n with
  | 2 => a == Reg.LOP_CTRL || (w == 6 && decide (0x010000 ≤ o) && decide (o < 0x018000) && decide (0x20 ≤ o % 0x100) && decide (o % 0x100 < 0x98))
  | 3 => w == 6 && ((decide (0x020000 ≤ o) && decide (o < 0x022000) && (o % 0x40 == 0x08 || decide (0x10 ≤ o % 0x40))) ||
      (decide (0x010000 ≤ o) && decide (o < 0x018000) && o % 0x100 == 0x9C))
  | 4 => w == 7 && ((decide (o < 0x7F0000) && writable a && !(decide (0x041000 ≤ o) && decide (o < 0x042000))) ||
      (decide (0x010000 ≤ o) && decide (o < 0x010200) && (o % 0x40 == 0x1C || o % 0x40 == 0x24 || o % 0x40 == 0x28)) ||
      (decide (0x020000 ≤ o) && decide (o < 0x020800) && o % 0x20 == 0x10) ||
      (decide (0x030000 ≤ o) && decide (o < 0x030800) && (o % 0x20 == 0x14 || o % 0x20 == 0x1C)) ||
      (decide (0x040000 ≤ o) && decide (o < 0x040800) && (o % 0x40 == 0x2C || o % 0x40 == 0x34 || o % 0x40 == 0x38)) ||
      (decide (0x050000 ≤ o) && decide (o < 0x050100) && o % 0x10 == 0x04))
  | 5 => w == 8 && decide (o < 0x7F0000) && writable a
  | 6 => w == 10 && decide (o < 0x7F0000) && writable a &&
      !(decide (0x010000 ≤ o) && decide (o < 0x030000) && (o % 0x80 == 0x0C || (decide (0x20 ≤ o % 0x80) && decide (o % 0x80 < 0x60))))
  | 7 => w == 5 && decide (0x050000 ≤ o) && decide (o < 0x060000)
  | 8 => w == 5 && decide (o < 0x7F0000) && !(decide (0x050000 ≤ o) && decide (o < 0x060000)) && (writable a || decide (0x060000 ≤ o))
  | 10 => decide (0x2400000 ≤ a) && decide (a < 0x2800000)
  | 11 => w == 4 && decide (0x010000 ≤ o) && decide (o < 0x7F0000) && writable a
  | 12 => w == 1 && decide (o < 0x7F0000) && writable a && !(decide (0x010000 ≤ o) && decide (o < 0x030000))
  | _ => false

/-- A tick as an age in an image, 0 for none, and back. -/
def ageOf (now : Nat) (t : Option Nat) : Nat := t.elim 0 (fun x => now - x + 1)
def sinceAge (now a : Nat) : Option Nat := if a = 0 then none else some (now - (a - 1))

def b2n (b : Bool) : Nat := if b then 1 else 0

/-- The commissioning record as numbers (R49). -/
def CrecRecord.nums (r : CrecRecord) : List Nat :=
  [r.seq, r.time.toNat, r.master, r.variant, r.moduleId, r.part.toNat, r.crc, r.images.length] ++
  r.images.flatMap (fun i => [i.1, i.2.1, b2n i.2.2.2] ++ (List.range 32).map (fun k => (i.2.2.1.getD k 0).toNat)) ++
  (List.range 8).flatMap (fun h => match r.harness.getD h none with | none => [0, 0, 0] | some (k, v) => [1, k, v])

/-- The record that numbers stand for. -/
def recordOf (l : List Nat) : CrecRecord :=
  let n := l.getD 7 0 % 16
  let at_ := fun i => l.getD i 0
  { seq := at_ 0, time := BitVec.ofNat 64 (at_ 1), master := at_ 2, variant := at_ 3, moduleId := at_ 4, part := BitVec.ofNat 32 (at_ 5),
    crc := at_ 6,
    images := (List.range n).map (fun i => (at_ (8 + 35 * i), at_ (9 + 35 * i),
      (List.range 32).map (fun k => BitVec.ofNat 8 (at_ (11 + 35 * i + k))), at_ (10 + 35 * i) == 1)),
    harness := (List.range 8).map (fun h => if at_ (8 + 35 * n + 3 * h) = 1 then some (at_ (9 + 35 * n + 3 * h), at_ (10 + 35 * n + 3 * h)) else none) }

/-- A plan entry as numbers, and back. -/
def PlanEntry.nums (e : PlanEntry) : List Nat := [e.acc, b2n e.prot, b2n e.ceil, b2n e.warm, e.cap, e.floor, e.ramp]
def planEntriesOf : Nat → List Nat → List PlanEntry
  | n + 1, a :: p :: c :: w :: cap :: fl :: r :: t => ⟨a, p == 1, c == 1, w == 1, cap, fl, r⟩ :: planEntriesOf n t
  | _, _ => []

/-- The items of R311 beside registers: pumps, valves and fans. -/
def State.actuatorItems (s : State) : Tab (List Nat) :=
  s.acts.pump.map (fun p => (p.1, [p.2.dem, b2n p.2.ramping, b2n p.2.intent, p.2.standsFor.elim 0 (· + 1), p.2.ran])) ++
  s.acts.fan.map (fun p => (256 + p.1, [p.2.ran])) ++ s.acts.valve.map (fun p => (512 + p.1, [p.2.moved]))

/-- The items of R393: active sequences, ACK_REQ bits, timers, watch and counts. -/
def State.protItems (s : State) : Tab (List Nat) :=
  let now := s.clk.now
  [(64, [s.fld Fd.PRT_LOOPSTAT_ACTIVE, s.fld Fd.PRT_LOOPSTAT_ACK_REQ, s.fld Fd.PRT_STAT_FULLCOOL, s.fld Fd.PRT_STAT_FC_CMD, b2n s.prt.sudFc,
         ageOf now s.prt.fcAuto])] ++
  s.racksListed.map (fun r =>
    let x := s.rackP r
    (r, [s.fld (Fd.RK_ACT_ACTIVE r), s.fld (Fd.RK_ACT_ACK_REQ r), ageOf now x.leakAt, b2n x.force, b2n x.imb, ageOf now x.above,
         ageOf now x.bad, ageOf now x.closedAt, ageOf now x.reversed, x.ref.toNat] ++ x.inputs)) ++
  s.racksListed.map (fun r => (8192 + r, (s.rackP r).clear.flatMap (fun p => [p.1, ageOf now (some p.2)]))) ++
  [(65, s.prt.clear.flatMap (fun p => [p.1, ageOf now (some p.2)])), (66, s.prt.slowStep :: s.prt.boosted)] ++
  s.limListed.map (fun e =>
    (128 + e, [b2n (s.on (Fd.LIM_STAT_ACK_REQ e)), b2n (s.limP e).active, ageOf now (s.limP e).hardFrom, b2n (s.prt.limFc.contains e),
      ageOf now (s.limP e).safeFrom])) ++
  s.leakInputs.map (fun i => (256 + i, [(s.leakIn i).wet, (s.leakIn i).bad])) ++
  s.tempInputs.map (fun i => (512 + i, [b2n (s.on (Fd.PRT_FSUP_ACK_REQ i))])) ++
  s.prt.hard.map (fun p => (1024 + p.1, [p.2]))

/-- The items of a section beside its words. -/
def State.sectionItemsOf (s : State) (n : Nat) : Tab (List Nat) :=
  match n with
  | 1 => (0, [s.opState, s.fld Fd.SYS_STATE_RETURN]) :: (s.sys.crec.elim [] (fun r => [(1, r.nums)]))
  | 2 => s.lop.points.map (fun p => (p.1, [p.2.toNat]))
  | 3 => s.lop.loop.map (fun p => (p.1, [p.2.apart, p.2.within]))
  | 4 => s.actuatorItems
  | 5 => s.protItems
  | 7 => (1024, [s.plan.clSeq]) :: s.plan.clVal.map (fun p => (p.1, [p.2]))
  | 8 => s.plan.jobOf.map (fun p => (p.1, [p.2]))
  | 9 => s.plan.prebuilt.map (fun p => (p.1, p.2.1.length :: (p.2.1.flatMap PlanEntry.nums ++ p.2.2.flatMap PlanEntry.nums)))
  | 10 => s.stm.pairs.map (fun p => (p.1, [p.2.1.toNat, p.2.2.1.toNat, p.2.2.2.toNat]))
  | 11 => s.sys.crec.elim [] (fun r => r.images.map (fun i => (i.1, i.2.2.1.map BitVec.toNat)))
  | 12 => s.jobs.map (fun p => (p.1, [p.2.cfg.toNat]))
  | _ => []

/-- A section's content as at this moment (R482). -/
def State.sectionNow (s : State) (n : Nat) : Section :=
  { words := s.regs.filter (fun p => sectionHas n p.1), items := s.sectionItemsOf n }

/-- The bytes of a section's body. -/
def Section.bytes (n : Nat) (x : Section) : List Byte := Config.sectionBytes n (x.words.map (fun p => (p.1, p.2.toNat))) x.items

/-- The section that bytes stand for. -/
def sectionOf (n : Nat) (bs : List Byte) : Section :=
  { words := ((Config.sectionWords n bs).filter (fun p => sectionHas n p.1)).map (fun p => (p.1, BitVec.ofNat 32 p.2)), items := Config.sectionItems n bs }

/-- The sections of an image, and those that every image holds in full (Table 3). -/
def imageSections : List Nat := [1, 2, 3, 4, 5, 6, 7, 8, 9, 10, 11, 12]
def everyImage : List Nat := [1, 3, 4, 5, 7, 9]

/-! ### The cut (R481, R482) -/

/-- The sections an image holds in full. -/
def State.fullSections (s : State) (iseq : Nat) (now : Tab Section) : List Nat :=
  imageSections.filter (fun n => everyImage.contains n || iseq % 100 == 0 || s.pair.fullNext || Tab.find s.pair.sent n != Tab.find now n)

/-- The bytes of an image (Table 2). -/
def State.imageBytes (s : State) (iseq : Nat) (full : List Nat) (now : Tab Section) : List Byte :=
  let lv := s.pairLevel
  let body := imageSections.flatMap (fun n =>
    if full.contains n then
      let b := (Tab.at ⟨[], []⟩ now n).bytes n
      beBytes 1 n ++ beBytes 1 lv ++ beBytes 1 0 ++ beBytes 1 0 ++ beBytes 4 b.length ++ b
    else beBytes 1 n ++ beBytes 1 lv ++ beBytes 1 1 ++ beBytes 1 0 ++ beBytes 4 0)
  let len := 32 + body.length + 4
  let m := beBytes 2 0xF1AC ++ beBytes 1 lv ++ beBytes 1 (if full.length = imageSections.length then 1 else 0) ++
    beBytes 1 (s.sys.straps.moduleId.val + 64 * s.sys.straps.slot.val) ++ beBytes 1 imageSections.length ++ beBytes 2 0 ++ beBytes 4 iseq ++
    beBytes 4 (s.rd Reg.PLN_PSEQ).toNat ++ beBytes 8 s.clk.sidx.toNat ++ beBytes 4 len ++ beBytes 4 0 ++ body
  m ++ beBytes 4 (crc32 m)

/-- The bytes of an image in one IMAGE frame at most (R481). -/
def imageChunk : Nat := 8184

/-- The frames of an image leave on the pair link, or on both networks while both lanes are down (R481). -/
def State.sendImage (s : State) (iseq : Nat) (bs : List Byte) : State :=
  let paths := if s.pairUp then [0, 1] else [2, 3]
  (List.range ((bs.length + imageChunk - 1) / imageChunk)).foldl (fun s k =>
    let part := (bs.drop (k * imageChunk)).take imageChunk
    s.cra .image 3 s.pairLevel paths ([iseq, k * imageChunk] ++ part.map BitVec.toNat)) s

/-- The cut of a takeover image. -/
def State.cutImage (s : State) : State :=
  let iseq := ((s.rd Reg.PAI_IMG_SEQ).toNat + 1) % 2 ^ 32
  let now : Tab Section := imageSections.map (fun n => (n, s.sectionNow n))
  let full := s.fullSections iseq now
  let s := (s.wr Reg.PAI_IMG_SEQ (BitVec.ofNat 32 iseq)).sendImage iseq (s.imageBytes iseq full now)
  { s with pair := { s.pair with sent := now, fullNext := false } }

/-- The cut at a frame boundary of the active module at a multiple of 1,000 (R481). -/
def State.imageNow (s : State) : State :=
  if s.isActive ∧ s.on Fd.PAI_STAT_PAIRED ∧ s.clk.sidx.toNat % 1000 = 0 ∧ s.drives then s.cutImage else s

/-! ### Receipt and application (R483) -/

/-- The sections of an image's bytes after the header, with their UNCHANGED flags. -/
def sectionsIn : Nat → List Byte → List (Nat × Bool × List Byte)
  | 0, _ => []
  | n + 1, bs =>
    if bs.length < 8 then []
    else
      let len := beAt bs 4 4
      (beAt bs 0 1, beAt bs 2 1 % 2 == 1, (bs.drop 8).take len) :: sectionsIn n (bs.drop (8 + len))

/-- The fragments of an image joined, once they cover its LENGTH without a hole. -/
def joinImage (parts : List (Nat × List Byte)) : Option (List Byte) :=
  let l := sortBy (fun a b => decide (a.1 ≤ b.1)) parts
  let bs := l.foldl (fun (acc : List Byte) p => if p.1 ≤ acc.length then acc ++ p.2.drop (acc.length - p.1) else acc) []
  if 32 ≤ bs.length ∧ beAt bs 24 4 = bs.length then some bs else none

/-- An image that fails a check is discarded (R483). -/
def State.badImage (s : State) : State :=
  ((s.set Fd.PAI_STAT_IMG_OK 0).count Reg.PAI_CNT_IMGBAD).raise Fd.PAI_EVT_IMG_BAD noObj []

/-- A complete image is checked: MAGIC, CRC, LEVEL, and a full copy of every section it marks UNCHANGED (R483). -/
def State.checkImage (s : State) (bs : List Byte) : State :=
  let secs := sectionsIn (beAt bs 5 1) ((bs.drop 32).take (bs.length - 36))
  let held := (secs.filter (fun x => !x.2.1)).foldl (fun (t : Tab (List Byte)) x => t.put x.1 x.2.2) s.pair.held
  let good := beAt bs 0 2 == 0xF1AC && crc32 (bs.take (bs.length - 4)) == beAt bs (bs.length - 4) 4 &&
    decide (s.fld Fd.PAI_PLVL_MIN ≤ beAt bs 2 1) && decide (beAt bs 2 1 ≤ s.fld Fd.PAI_PLVL_MAX) &&
    secs.all (fun x => !x.2.1 || s.pair.held.has x.1)
  if good then
    let r : ImageRx := { iseq := BitVec.ofNat 32 (beAt bs 8 4), pseq := BitVec.ofNat 32 (beAt bs 12 4), tag := BitVec.ofNat 64 (beAt bs 16 8),
                         level := beAt bs 2 1, missing := false, secs := held }
    { s with pair := { s.pair with held := held, ready := some r } }
  else s.badImage

/-- A fragment of an image arrives. Another ISEQ starts another image; one left incomplete has no check to fail. -/
def State.takeImage (s : State) (iseq : Word) (offset : Nat) (bytes : List Byte) : State :=
  let old := match s.pair.rx with
    | some (i, l) => if i = iseq then l else []
    | none => []
  if old.any (fun p => p.1 == offset) then s else
  let l := old ++ [(offset, bytes)]
  match joinImage l with
  | none => { s with pair := { s.pair with rx := some (iseq, l) } }
  | some bs => { s with pair := { s.pair with rx := none } }.checkImage bs

/-- An IMAGE frame is taken by a standby; an image already taken is not taken again. -/
def State.imageFrame (s : State) (iseq : Word) (offset : Nat) (bytes : List Byte) : State :=
  if s.fld Fd.PAI_STAT_ROLE = 2 ∧ iseq ≠ s.rd Reg.PAI_IMG_SEQ ∧ s.pair.ready.all (fun r => r.iseq != iseq) then s.takeImage iseq offset bytes else s

/-- IMAGE_FRAME (R481, R483): an IMAGE frame arrives on a lane that is up, or on a network. -/
def execImageFrame (path : PairPath) (iseq : Word) (offset : Nat) (bytes : List Byte) (s : State) : Host.Outcome State Fault Refusal :=
  .next (match path with
    | .lane n => if s.on (if n.val = 0 then Fd.PAI_STAT_L0 else Fd.PAI_STAT_L1) then s.imageFrame iseq offset bytes else s
    | .net c => s.takeCra c (fun s => s.imageFrame iseq offset bytes))

/-- Words of a section replace those the standby holds. -/
def State.replaceWords (s : State) (n : Nat) (l : List (Nat × Word)) : State :=
  l.foldl (fun s p => s.wr p.1 p.2) { s with regs := s.regs.filter (fun p => !sectionHas n p.1) }

/-- The channel states carried in an image (R311): solenoid requests that were waiting or in pull-in are not carried, and a channel's
timers start again. -/
def State.applyActuators (s : State) (x : Section) : State :=
  let now := s.clk.now
  let s := s.replaceWords 4 x.words
  let s := (List.range 64).foldl (fun s k => if s.solState k = 3 ∨ s.solState k = 6 ∨ s.solState k = 0 then s else s.setSolState k 0) s
  let pump : Tab Pump := (List.range 8).foldl (fun (t : Tab Pump) p =>
    let y := Tab.at [] x.items p
    if x.items.has p then
      t.put p { Pump.idle with start := now, dem := y.getD 0 0, ramping := y.getD 1 0 == 1, intent := y.getD 2 0 == 1,
                               standsFor := if y.getD 3 0 = 0 then none else some (y.getD 3 0 - 1), ran := y.getD 4 0 }
    else t) s.acts.pump
  let fan : Tab Fan := (List.range 32).foldl (fun (t : Tab Fan) f =>
    t.put f { Fan.idle with edge := now, suspend := now, ran := (Tab.at [] x.items (256 + f)).getD 0 0,
                            kick := if s.fld (Fd.FAN_STAT_STATE f) = 1 then some now else none }) []
  let valve : Tab Valve := (List.range 64).foldl (fun (t : Tab Valve) v =>
    if x.items.has (512 + v) then t.put v { s.valve v with moved := (Tab.at [] x.items (512 + v)).getD 0 0 } else t) s.acts.valve
  let used := (List.range 32).filter (fun f => s.fld (Fd.FAN_STAT_STATE f) != 0 || x.items.has (256 + f))
  { s with acts := { s.acts with pump := pump, fan := fan.filter (fun (p : Nat × Fan) => used.contains p.1), valve := valve, sol := [], freeing := [] } }.expectDrives

/-- The CAN_ words of an image (R483): a bus whose MODE changes goes through the change (R452), and other pod slots are allocated anew (R463). -/
def State.applyCan (s : State) (x : Section) : State :=
  let pods (s : State) : List (Nat × Word) := s.regs.filter (fun p => decide (0xA080000 ≤ p.1) && decide (p.1 < 0xA080600))
  let t := s.replaceWords 6 x.words
  let t := if pods t = pods s then t else t.setCan { t.can with dirty := true }
  ((List.range 8).foldl (fun (t : State) b => t.busModeFrom b (s.busMode b)) t).expectDrives

/-- One section of an applied image (R483). PROTECTION's items wait for a takeover (R393); ACTUATOR's and all words act at once. -/
def State.applySection (s : State) (n : Nat) (bs : List Byte) : State :=
  let x := sectionOf n bs
  match n with
  | 1 => { s with pair := { s.pair with appliedRec := Tab.find x.items 1 } }
  | 2 =>
    let pts := x.items.filter (fun (p : Nat × List Nat) => decide (0x6030000 ≤ p.1) && decide (p.1 < 0x6034000))
    let s := s.replaceWords 2 x.words
    { s with lop := { s.lop with points := pts.map (fun (p : Nat × List Nat) => (p.1, BitVec.ofNat 32 (p.2.getD 0 0))) } }
  | 3 => x.items.foldl (fun (s : State) (p : Nat × List Nat) => s.setLoop p.1 { s.loop p.1 with apart := p.2.getD 0 0, within := p.2.getD 1 0 })
      (s.replaceWords 3 x.words)
  | 4 => s.applyActuators x
  | 8 =>
    let s := s.replaceWords 8 x.words
    { s with plan := { s.plan with jobOf := x.items.map (fun (p : Nat × List Nat) => (p.1, p.2.getD 0 0)) } }
  | 9 =>
    let f (p : Nat × List Nat) : Nat × List PlanEntry × List PlanEntry :=
      (p.1, planEntriesOf (p.2.getD 0 0) (p.2.drop 1), planEntriesOf p.2.length (p.2.drop (1 + 7 * p.2.getD 0 0)))
    { s with plan := { s.plan with prebuilt := x.items.map f } }
  | 10 =>
    let f (p : Nat × List Nat) : Nat × Word × Word × Word :=
      (p.1, BitVec.ofNat 32 (p.2.getD 0 0), BitVec.ofNat 32 (p.2.getD 1 0), BitVec.ofNat 32 (p.2.getD 2 0))
    let s := s.replaceWords 10 x.words
    { s with stm := { s.stm with pairs := x.items.map f } }
  | 12 => x.items.foldl (fun (s : State) (p : Nat × List Nat) => s.setJob p.1 { s.job p.1 with cfg := BitVec.ofNat 32 (p.2.getD 0 0) })
      (s.replaceWords 12 x.words)
  | 7 =>
    let f (p : Nat × List Nat) : Nat × Nat := (p.1, p.2.getD 0 0)
    let s := s.replaceWords 7 x.words
    ({ s with plan := { s.plan with clSeq := (Tab.at [] x.items 1024).getD 0 0,
                                    clVal := (x.items.filter (fun (p : Nat × List Nat) => decide (p.1 < 1024))).map f } }).showCeilings
  | 6 => s.applyCan x
  | 5 | 11 => s.replaceWords n x.words
  | _ => s

/-- A good image is applied at the frame boundary (R483). -/
def State.applyImage (s : State) : State :=
  match s.pair.ready with
  | none => s
  | some r =>
    if s.fld Fd.PAI_STAT_ROLE ≠ 2 then { s with pair := { s.pair with ready := none } } else
    let s := r.secs.foldl (fun (s : State) (p : Nat × List Byte) => s.applySection p.1 p.2) s
    let s := (s.wr Reg.PAI_IMG_SEQ r.iseq).set Fd.PAI_STAT_IMG_OK 1
    { s with pair := { s.pair with ready := none, appliedAt := some s.clk.now, cutAt := some r.tag.toNat, appliedPseq := r.pseq, staleTold := false } }

/-- No image has been applied for 50 ms (R484), counted at first from the resolution 50 ms after entry to BOOT (R474). -/
def State.staleImage (s : State) : State :=
  if s.fld Fd.PAI_STAT_ROLE = 2 ∧ ¬ s.pair.staleTold ∧ decide (s.pair.appliedAt.getD (s.sys.bootAt + msTicks 50) + msTicks 50 ≤ s.clk.now)
  then { s with pair := { s.pair with staleTold := true } }.raise Fd.PAI_EVT_IMG_STALE noObj [] else s

/-- IMAGE_STALE (R484). -/
def execImageStale (s : State) : Host.Outcome State Fault Refusal := .next s.staleImage

/-- Pairs of a place and an age from a section's numbers. -/
def agesOf : List Nat → List (Nat × Nat)
  | k :: a :: t => (k, a) :: agesOf t
  | _ => []

/-- End timers joined with those of an image: the earlier start of each. -/
def mergeClear (now : Nat) (own : Tab Nat) (l : List Nat) : Tab Nat :=
  (agesOf l).foldl (fun (t : Tab Nat) p => match sinceAge now p.2 with
    | some x => t.put p.1 (min x ((Tab.find t p.1).getD x))
    | none => t) own

/-- The protective sequences of the last image join those of the shadow evaluation (R393): a sequence active in either is active, an
ACK_REQ bit set in either is set, and timers and counts keep the earlier start and the higher count. -/
def State.mergeProtection (s : State) : State :=
  match Tab.find s.pair.held 5 with
  | none => s
  | some bs =>
    let x := Config.sectionItems 5 bs
    let now := s.clk.now
    let early (a b : Option Nat) : Option Nat := match a, b with | some x, some y => some (min x y) | some x, none => some x | none, y => y
    let s := x.foldl (fun (s : State) (p : Nat × List Nat) =>
      let v := fun i => p.2.getD i 0
      if p.1 < 48 then
        let s := (s.set (Fd.RK_ACT_ACTIVE p.1) (s.fld (Fd.RK_ACT_ACTIVE p.1) ||| v 0)).set (Fd.RK_ACT_ACK_REQ p.1) (s.fld (Fd.RK_ACT_ACK_REQ p.1) ||| v 1)
        let r := s.rackP p.1
        s.setRackP p.1 { r with leakAt := early r.leakAt (sinceAge now (v 2)), force := r.force || v 3 == 1, imb := r.imb || v 4 == 1,
                                above := early r.above (sinceAge now (v 5)), bad := early r.bad (sinceAge now (v 6)),
                                closedAt := early r.closedAt (sinceAge now (v 7)), reversed := early r.reversed (sinceAge now (v 8)),
                                ref := if r.ref = 0 then (v 9 : Nat) else r.ref,
                                inputs := r.inputs ++ (p.2.drop 10).filter (fun i => !r.inputs.contains i) }
      else if p.1 = 65 then { s with prt := { s.prt with clear := mergeClear now s.prt.clear p.2 } }
      else if p.1 = 66 then
        { s with prt := { s.prt with slowStep := max s.prt.slowStep (v 0),
                                     boosted := s.prt.boosted ++ (p.2.drop 1).filter (fun i => !s.prt.boosted.contains i) } }
      else if 8192 ≤ p.1 ∧ p.1 < 8240 then
        s.setRackP (p.1 - 8192) { s.rackP (p.1 - 8192) with clear := mergeClear now (s.rackP (p.1 - 8192)).clear p.2 }
      else if p.1 = 64 then
        let s := (s.set Fd.PRT_LOOPSTAT_ACTIVE (s.fld Fd.PRT_LOOPSTAT_ACTIVE ||| v 0)).set Fd.PRT_LOOPSTAT_ACK_REQ (s.fld Fd.PRT_LOOPSTAT_ACK_REQ ||| v 1)
        let s := (s.set Fd.PRT_STAT_FULLCOOL (s.fld Fd.PRT_STAT_FULLCOOL ||| v 2)).set Fd.PRT_STAT_FC_CMD (s.fld Fd.PRT_STAT_FC_CMD ||| v 3)
        { s with prt := { s.prt with sudFc := s.prt.sudFc || v 4 == 1, fcAuto := early s.prt.fcAuto (sinceAge now (v 5)) } }
      else if 128 ≤ p.1 ∧ p.1 < 160 then
        let e := p.1 - 128
        let s := s.set (Fd.LIM_STAT_ACK_REQ e) (s.fld (Fd.LIM_STAT_ACK_REQ e) ||| v 0)
        let l := s.limP e
        let s := s.setLimP e { l with active := l.active || v 1 == 1, hardFrom := early l.hardFrom (sinceAge now (v 2)),
                                      safeFrom := early l.safeFrom (sinceAge now (v 4)) }
        if v 3 = 1 ∧ ¬ s.prt.limFc.contains e then { s with prt := { s.prt with limFc := s.prt.limFc ++ [e] } } else s
      else if 256 ≤ p.1 ∧ p.1 < 336 then
        let l := s.leakIn (p.1 - 256)
        s.setLeakIn (p.1 - 256) { l with wet := max l.wet (v 0), bad := max l.bad (v 1) }
      else if 512 ≤ p.1 ∧ p.1 < 656 then s.set (Fd.PRT_FSUP_ACK_REQ (p.1 - 512)) (s.fld (Fd.PRT_FSUP_ACK_REQ (p.1 - 512)) ||| v 0)
      else if 1024 ≤ p.1 ∧ p.1 < 5120 then
        { s with prt := { s.prt with hard := s.prt.hard.put (p.1 - 1024) (max (Tab.at 0 s.prt.hard (p.1 - 1024)) (v 0)) } }
      else s) s
    s

end Sys2Proof.Machine
end

