-- ==== Sys2Proof/Machine/Barriers.lean ====
section
/-! DEFINITION. Pair barriers up to their firing (R490, R491, R97), the tick records and READY of a planned role swap (R494), and the end
of a swap that does not happen (R495, R496). The firmware's barrier IDs are the model's (log entry 35). -/

namespace Sys2Proof.Machine

/-- The barrier IDs that the firmware's procedures use (log entry 35). -/
def barRoleSwap : Nat := 0
def barPairLevel : Nat := 1
def barLockstep : Nat := 2
def barFedLevel : Nat := 3
def barAdopt : Nat := 4

/-- The actions of R490. -/
def actNone : Nat := 0
def actRoleSwap : Nat := 1
def actLevelSet : Nat := 2
def actLockstep : Nat := 3
def actAdopt : Nat := 4
def actMark : Nat := 5

/-- A barrier register holds its action, scope and argument (R490). -/
def State.setBarrier (s : State) (b : BarrierMsg) (scope : Nat) : State :=
  let i := b.id.val
  ((s.set (Fd.BAR_CFG_ACTION i) b.action.val).set (Fd.BAR_CFG_SCOPE i) scope).set (Fd.BAR_CFG_ARG i) b.arg.toNat

/-- A BARRIER entry is committed with a trigger (1 SIDX, 2 TIME): the entry, where it became ARMED (R86, R94). Without the main die there
is no action table (R91). -/
def State.commitBarrier (s : State) (b : BarrierMsg) (trig scope : Nat) : Option Nat × State :=
  if s.mainAbsent then (none, s) else
  match s.freeEntry with
  | none => (none, s)
  | some n =>
    let s := s.setBarrier b scope
    let s := ((((s.wr (Reg.AE_CTRL n) (BitVec.ofNat 32 (2 ^ 31 + trig * 2 ^ 28 + 6 * 2 ^ 24))).wr (Reg.AE_TRIG_LO n) (b.at_.setWidth 32)).wr
      (Reg.AE_TRIG_HI n) ((b.at_ >>> 32).setWidth 32)).wr (Reg.AE_ARG0 n) (BitVec.ofNat 32 b.id.val)).wr (Reg.AE_ARG1 n) 0
    let s := s.commitEntry n
    (if s.fld (Fd.AE_STAT_STATE n) = 1 then some n else none, s)

/-- The barrier under agreement with an ID. -/
def State.pairBar (s : State) (id : Nat) : Option PairBar := s.pair.bars.find? (fun x => x.msg.id.val == id)

/-- The state without the barrier under an ID; its entry, where one is ARMED, is cancelled (R86). -/
def State.dropBar (s : State) (id : Nat) : State :=
  let s := match (s.pairBar id).bind (·.entry) with
    | some n => if s.fld (Fd.AE_STAT_STATE n) = 1 then s.endEntry n 3 3 else s
    | none => s
  { s with pair := { s.pair with bars := s.pair.bars.filter (fun x => x.msg.id.val != id) } }

/-- The state with a barrier under agreement. -/
def State.putBar (s : State) (x : PairBar) : State :=
  { s with pair := { s.pair with bars := s.pair.bars.filter (fun y => y.msg.id.val != x.msg.id.val) ++ [x] } }

/-- The state of the swap (PAI_SWAP_STAT). -/
def State.swapState (s : State) : Nat := s.fld Fd.PAI_SWAP_STAT_STATE

/-- Whether a swap is proposed or armed (R493). -/
def State.swapping (s : State) : Bool := decide (1 ≤ s.swapState) && decide (s.swapState ≤ 3)

/-- A swap ends without a change of roles (R495, R496). -/
def State.abortSwap (s : State) : State :=
  if s.swapping then
    let s := ((s.dropBar barRoleSwap).set Fd.PAI_SWAP_STAT_STATE 5).set Fd.PAI_SWAP_STAT_RESULT 6
    { s with pair := { s.pair with recs := [], readyMark := false, swapN := none, sentGo := none } }.raise Fd.PAI_EVT_SWAP_ABORT noObj []
  else s

/-- A ROLE_SWAP entry stands ARMED for N (R493, PAI_SWAP_IDX). -/
def State.armSwap (s : State) (n : BitVec 64) : State :=
  let s := ((s.set Fd.PAI_SWAP_STAT_STATE 2).wr Reg.PAI_SWAP_IDX_LO (n.setWidth 32)).wr Reg.PAI_SWAP_IDX_HI ((n >>> 32).setWidth 32)
  { s with pair := { s.pair with swapN := some n, recs := [], readyMark := false, sentGo := none } }

/-- The active module proposes a pair barrier (R491). -/
def State.proposePair (s : State) (b : BarrierMsg) : State :=
  let s := s.putBar ⟨b, none⟩
  s.cra .barPropose 5 s.pairLevel [0, 1] [b.id.val, b.action.val, b.arg.toNat, b.at_.toNat]

/-- PAIR_BARRIER_PROPOSE (R491): the standby commits its SIDX entry and answers ACCEPT. The copy of the other lane is dropped (R476). -/
def execPairBarrierPropose (b : BarrierMsg) (s : State) : Host.Outcome State Fault Refusal :=
  .next (if s.fld Fd.PAI_STAT_ROLE = 2 ∧ s.pairUp ∧ (s.pairBar b.id).all (fun x => x.msg != b) then
      let s := s.dropBar b.id.val
      match s.commitBarrier b 1 0 with
      | (none, s) => s
      | (some n, s) =>
        let s := s.putBar ⟨b, some n⟩
        let s := if b.action.val = actRoleSwap then s.armSwap b.at_ else s
        s.cra .barAccept 5 s.pairLevel [0, 1] [b.id.val]
    else s)

/-- PAIR_BARRIER_ACCEPT (R491): the active module commits its own entry, where N − 100 has not come. -/
def execPairBarrierAccept (id : Fin 16) (s : State) : Host.Outcome State Fault Refusal :=
  .next (match s.pairBar id with
    | some x =>
      if s.isActive ∧ x.entry.isNone ∧ diff64 s.clk.sidx x.msg.at_ < -100 then
        match s.commitBarrier x.msg 1 0 with
        | (none, s) => s
        | (some n, s) =>
          let s := s.putBar ⟨x.msg, some n⟩
          if x.msg.action.val = actRoleSwap then s.armSwap x.msg.at_ else s
      else s
    | none => s)

/-- On the active module a proposal without ACCEPT by N − 100 is cancelled, and CANCEL is sent (R491). -/
def State.cancelBar (s : State) (id : Nat) : State :=
  match s.pairBar id with
  | some x =>
    if s.isActive ∧ x.entry.isNone ∧ diff64 s.clk.sidx x.msg.at_ ≥ -100 then
      let s := if x.msg.action.val = actRoleSwap then s.abortSwap else s
      (s.dropBar id).cra .barCancel 5 s.pairLevel [0, 1] [id]
    else s
  | none => s

/-- PAIR_BARRIER_CANCEL (R491): the active module cancels a proposal; on the standby, CANCEL arrives and cancels its entry. -/
def execPairBarrierCancel (id : Fin 16) (s : State) : Host.Outcome State Fault Refusal :=
  .next (if s.isActive then s.cancelBar id else
    match s.pairBar id with
    | some x => (if x.msg.action.val = actRoleSwap then s.abortSwap else s).dropBar id
    | none => s)

/-- Every barrier of the pair under agreement is cancelled (R486). -/
def State.dropBars (s : State) : State := s.pair.bars.foldl (fun (s : State) x => s.dropBar x.msg.id.val) s

/-! ### Tick records (R494) -/

/-- The words of a tick record: those of LOOPSTATE but the wrap counts. -/
def State.recordWords (s : State) : List (Nat × Word) := s.regs.filter (fun p => sectionHas 3 p.1 && decide (0x6020000 ≤ p.1))

/-- The active module sends its tick record at 7.5 µs of each tick from N − 100 to N − 1; GO stands in each record from the one after READY
arrives. -/
def State.sendTickRecord (s : State) : State :=
  match s.pair.swapN with
  | none => s
  | some n =>
    let d := diff64 n s.clk.sidx
    if s.isActive ∧ (s.swapState = 2 ∨ s.swapState = 3) ∧ 1 ≤ d ∧ d ≤ 100 then
      let s := s.set Fd.PAI_SWAP_STAT_STATE 3
      let go := s.pair.readyMark
      let s := if go then { s with pair := { s.pair with sentGo := some s.clk.sidx } } else s
      s.cra .tickRec 8 s.pairLevel [0, 1]
        ([s.clk.sidx.toNat, (s.rd Reg.PLN_PSEQ).toNat, b2n go] ++ s.recordWords.flatMap (fun p => [p.1, p.2.toNat]))
    else s

/-- TICK_RECORD (R494): the standby holds a record of the window. -/
def execTickRecord (r : TickRec) (s : State) : Host.Outcome State Fault Refusal :=
  .next (match s.pair.swapN with
    | some n =>
      let d := diff64 n r.sidx
      if s.fld Fd.PAI_STAT_ROLE = 2 ∧ (s.swapState = 2 ∨ s.swapState = 3) ∧ 1 ≤ d ∧ d ≤ 100 ∧ s.pair.recs.all (fun x => x.sidx != r.sidx) then
        { s with pair := { s.pair with recs := s.pair.recs ++ [r] } }.set Fd.PAI_SWAP_STAT_STATE 3
      else s
    | none => s)

/-- Whether both lanes of Serac are healthy: SELECTED or SHADOW. -/
def State.lanesOk (s : State) : Bool := decide (s.fld Fd.LOP_STAT_A_STATE < 2) && decide (s.fld Fd.LOP_STAT_B_STATE < 2)

/-- Whether the standby holds every record from N − 100 up to the tick before this one. -/
def State.holdsRecords (s : State) (n : BitVec 64) : Bool :=
  (List.range (100 - (diff64 n s.clk.sidx).toNat)).all (fun i => s.pair.recs.any (fun r => r.sidx == n - 100 + BitVec.ofNat 64 i))

/-- At N − 10 the standby sends READY where it is ready (R494). -/
def State.offerReady (s : State) : State :=
  match s.pair.swapN with
  | some n =>
    if s.fld Fd.PAI_STAT_ROLE = 2 ∧ s.clk.sidx = n - 10 ∧ ¬ s.pair.readyMark ∧ s.holdsRecords n ∧ s.lanesOk ∧ s.warmReady then
      { s with pair := { s.pair with readyMark := true } }.cra .ready 8 s.pairLevel [0, 1] [s.clk.sidx.toNat]
    else s
  | none => s

/-- SWAP_READY (R494): the standby sends READY; on the active module, in the window, READY arrives. -/
def execSwapReady (s : State) : Host.Outcome State Fault Refusal :=
  .next (if s.isActive then
      (if s.pair.swapN.isSome ∧ s.swapState = 3 then { s with pair := { s.pair with readyMark := true } } else s)
    else s.offerReady)

end Sys2Proof.Machine
end

