-- ==== Sys2Proof/Machine/Lockstep.lean ====
section
/-! DEFINITION. Lock-step (R497 to R500): entry and its refusals, the input records and result digests, and the standby's runs of the
active module's frames. Table image and digest byte layouts that the spec does not give are the constants of log entry 14. -/

namespace Sys2Proof.Machine

/-- Whether the partner's last heartbeat shows a warm, ready standby. -/
def State.partnerWarm (s : State) : Bool := s.pair.last.any (fun h => h.role.val == 2 && h.state.val == 2 && h.health.getLsbD 3)

/-- The refusal of an entry to lock-step, in the order of R497: 2 NOT_READY, 3 SLOTS, 5 ALVL, 4 TABLES, 6 OVERLOAD; 1 OK. -/
def State.lsCheck (s : State) (p : LsPartner) : Nat :=
  if ¬ s.partnerWarm then 2
  else if ¬ p.sameSlots ∨ s.activeSet.any (fun x => decide (x.2.role < 6) && !s.isExact x.1) then 3
  else if ¬ p.sameAlvl then 5
  else if s.tables.any (fun t => s.bound t && !s.on (Fd.T_CFG_HOT t) && s.tblKind t != 1) then 4
  else if s.lsOverload (s.fld Fd.STM_LOAD_N * 10) then 6
  else 1

/-- The first sample index at a frame boundary that lies at least `n` ticks ahead. -/
def State.boundaryAhead (s : State) (n : Nat) : BitVec 64 := BitVec.ofNat 64 ((s.clk.sidx.toNat + n + 99) / 100 * 100)

/-- An admitted entry proposes its pair barrier (R498). While lock-step is on, or an entry is proposed, a further one changes nothing. -/
def State.lsEnter (s : State) (p : LsPartner) : State :=
  if s.lsOn ∨ (s.pairBar barLockstep).isSome then s else
  let r := s.lsCheck p
  let s := s.set Fd.PAI_LS_STAT_RESULT r
  if r = 1 then s.proposePair { id := 2, action := 3, arg := 0, at_ := s.boundaryAhead 2000 } else s

/-- LOCKSTEP_ENTER_REQUEST (R497): a write of PAI_LS_CTRL.ENTER. -/
def execLockstepEnterRequest (w : Fin 8) (p : LsPartner) (s : State) : Host.Outcome State Fault Refusal :=
  .next (s.writeRow w Reg.PAI_LS_CTRL 1 true (fun s => s.lsEnter p))

/-- LOCKSTEP_LEAVE (R500): a write of PAI_LS_CTRL.LEAVE. -/
def State.lsLeave (s : State) : State := if s.lsOn then s.lsEnd 10 [] else s

def execLockstepLeave (w : Fin 8) (s : State) : Host.Outcome State Fault Refusal :=
  .next (s.writeRow w Reg.PAI_LS_CTRL 2 true State.lsLeave)

/-- The action LOCKSTEP_ENTER at N (R498). The frame that begins at N is the next one: the barrier acts at the edge, before the boundary.
The active module takes a checkpoint and saves its SLICE segments; the standby empties its tables, which then load from the host table
store. -/
def State.lsBegin (s : State) : State :=
  let f := s.frameNo + 1
  let s := (s.set Fd.PAI_LS_STAT_STATE 1).set Fd.PAI_LS_STAT_LAG 0
  let s := { s with lst := ⟨some f, s.isActive, [], f - 1, f, [], 0, []⟩ }
  if s.isActive then
    let s := if s.tbl.sweep.isSome then s
      else ({ s with tbl := { s.tbl with sweep := some s.hotCopy } }.set Fd.TBL_STAT_CKPT_RUN 1).set Fd.TBL_CKPT_STAT_STATE 1
    let s := (s.tables.filter (fun t => s.tblKind t == 1 && !s.on (Fd.T_CFG_REPLAY t))).foldl (fun (s : State) t =>
      (s.tblOf t).res.foldl (fun (s : State) g => s.queueSave t g) s) s
    s.nextDevice
  else ({ s with tbl := { s.tbl with ckpt := none } }.tablesReset).nextDevice

/-! ### Records and digests -/

/-- The input record of a frame as numbers (R499). -/
def inputRecord (f : LogFrame) : List Nat :=
  [f.frame, b2n f.skipped] ++ strmNums f.inputs ++ ctxNums f.inputs ++ batchNums f.batches ++ runNums f.starved ++ runNums f.kskip ++ runNums f.disc

/-- At a frame boundary the active module sends the input record of the frame that has ended and its digest (R499, R500). -/
def State.lsSend (s : State) (f : LogFrame) : State :=
  if s.lsOn ∧ s.lst.sends ∧ s.lst.start.any (fun n => decide (n ≤ f.frame)) then
    let s := s.cra .lsInput 6 s.pairLevel [2, 3] (inputRecord f)
    match Tab.find s.firn.digests f.frame with
    | some e => s.cra .lsDigest 7 s.pairLevel [2, 3] (f.frame :: (digestD e).map BitVec.toNat)
    | none => s
  else s

/-- Two digests of one frame are compared (R500): PAI_CNT_LSFRM counts, 100 consecutive matches end ENTERING, and a difference ends
lock-step. -/
def State.lsCompare (s : State) (frame : Nat) (own other : List Byte) : State :=
  let s := s.count Reg.PAI_CNT_LSFRM
  if own = other then
    let m := s.lst.matched + 1
    let s := { s with lst := { s.lst with matched := m } }
    if 100 ≤ m then (s.set Fd.PAI_LS_STAT_STATE 2).set Fd.PAI_LS_STAT_RESULT 1 else s
  else s.lsEnd 7 [frame % 2 ^ 32, frame / 2 ^ 32]

/-- The records of a log that take effect before a frame runs (R206, R498). -/
def State.lsCommit (s : State) (frame : Nat) : State :=
  match s.lst.logs.find? (fun l => decide (l.frame + 2 ≤ frame)) with
  | none => s
  | some l =>
    let c := s.commitLog l
    let s := (s.countBy Reg.TBL_CNT_NRDROP c.2.1).applyCommit ⟨l.frame, c.1, c.2.2⟩
    let s := c.2.2.foldl (fun s p => s.addPair (Reg.T_EPOCH_LO p.1) (Reg.T_EPOCH_HI p.1) 1) s
    { s with lst := { s.lst with logs := s.lst.logs.filter (fun x => x.frame != l.frame) } }

/-- One kernel batch of a record (R499): the records of a batch that the active module starved are not kept. -/
def State.lsBatch (s : State) (f : LogFrame) (b : LogBatch) : State :=
  match s.activeOf (b.cls + 1) with
  | none => s
  | some (k, g) =>
    let kst := s.ice.kst
    let p := s.runOn { s.runEnv k g b.no b.cls f.inputs b.samples kst with start := b.start } b.samples
    let o := if namesRun f.starved b.cls b.start then { p.1 with upds := [] } else p.1
    let s := p.2
    { s with ice := { s.ice with kst := putKst kst o,
                                 dig := s.ice.dig ++ [(⟨b.cls, b.no, s.isExact k, kst.filter (fun x => b.samples.any (fun y => y.sid == x.1)), o⟩ : DigBatch)] },
             lst := { s.lst with logs := appendLog s.lst.logs f.frame o.upds } }

/-- The standby runs one frame from its record and forms its digest (R498 to R500). -/
def State.lsRun (s : State) (f : LogFrame) : State :=
  let s := s.lsCommit f.frame
  let tabs := s.tables.map (fun t => (t, regPair s (Reg.T_EPOCH_LO t) (Reg.T_EPOCH_HI t), regPair s (Reg.T_LOGPOS_LO t) (Reg.T_LOGPOS_HI t)))
  let s := { s with ice := { s.ice with inputs := f.inputs, logNow := { f with tables := tabs }, last := none, taint := false, dig := [] },
                    lst := { s.lst with logs := dropDiscarded s.lst.logs f ++ [(⟨f.frame, 0, []⟩ : UpdLog)] } }
  let s := f.batches.foldl (fun s b => s.lsBatch f b) s
  let s := if f.skipped then s else
    match s.activeOf 0 with
    | none => s
    | some (k, g) =>
      let at_ := (f.batches.head?.elim 0 (fun b => b.start)) / 100 * 100 + 2
      let p := s.runOn { s.runEnv k g f.frame 5 f.inputs [] [] with start := at_ } []
      let o := if namesRun f.starved 5 at_ then { p.1 with upds := [] } else p.1
      let s := p.2
      { s with ice := { s.ice with last := some o }, lst := { s.lst with logs := appendLog s.lst.logs f.frame o.upds } }
  s.formDigest

/-- The standby runs the records it holds in order, once its tables are loaded, and compares each digest it has received. -/
def State.lsAdvance : Nat → State → State
  | 0, s => s
  | n + 1, s =>
    if ¬ s.lsOn ∨ s.lst.sends ∨ ¬ s.on Fd.TBL_STAT_READY then s else
    match s.lst.recs.find? (fun f => f.frame == s.lst.next) with
    | none => s
    | some f =>
      let s := s.lsRun f
      let s := { s with lst := { s.lst with recs := s.lst.recs.filter (fun x => x.frame != f.frame), next := f.frame + 1 } }
      let s := s.set Fd.PAI_LS_STAT_LAG (min (s.lst.high - f.frame) 0xFFFF)
      let s := match Tab.find s.lst.digs f.frame, Tab.find s.firn.digests f.frame with
        | some d, some e => { s with lst := { s.lst with digs := s.lst.digs.del f.frame } }.lsCompare f.frame (digestD e) d
        | _, _ => s
      s.lsAdvance n

/-- LOCKSTEP_INPUT_RECORD (R499, R500): the standby takes a frame's record and runs what it can; LAG above 2,000 ends lock-step. -/
def execLockstepInputRecord (f : Heard LogFrame) (s : State) : Host.Outcome State Fault Refusal :=
  .next (s.takeCra f.came fun s => if s.lsOn ∧ ¬ s.lst.sends ∧ s.lst.next ≤ f.what.frame ∧ s.lst.recs.all (fun x => x.frame != f.what.frame) then
      let s := { s with lst := { s.lst with recs := s.lst.recs ++ [f.what], high := max s.lst.high f.what.frame } }
      let s := s.lsAdvance s.lst.recs.length
      let lag := s.lst.high + 1 - s.lst.next
      let s := if s.lsOn then s.set Fd.PAI_LS_STAT_LAG (min lag 0xFFFF) else s
      if s.lsOn ∧ 2000 < lag then s.lsEnd 8 [] else s
    else s)

/-- LOCKSTEP_DIGEST (R500): a digest arrives and is compared with the own one of its frame, or waits for it. -/
def execLockstepDigest (frame : Heard Nat) (d : List Byte) (s : State) : Host.Outcome State Fault Refusal :=
  .next (s.takeCra frame.came fun s => if s.lsOn ∧ s.lst.start.any (fun n => decide (n ≤ frame.what)) then
      if s.lst.sends ∨ frame.what < s.lst.next then
        match Tab.find s.firn.digests frame.what with
        | some e => s.lsCompare frame.what (digestD e) d
        | none => s
      else { s with lst := { s.lst with digs := s.lst.digs.put frame.what d } }
    else s)

/-- An input record is missing for 10 frames (R500). -/
def State.gapEnds (s : State) : State :=
  if s.lsOn ∧ ¬ s.lst.sends ∧ s.lst.next + 10 ≤ s.lst.high ∧ s.lst.recs.all (fun f => f.frame != s.lst.next) then s.lsEnd 9 [] else s

/-- LOCKSTEP_GAP (R500). -/
def execLockstepGap (s : State) : Host.Outcome State Fault Refusal := .next s.gapEnds

end Sys2Proof.Machine
end

