-- ==== Sys2Proof/Machine/Pair.lean ====
section
/-! DEFINITION. The pair (chapter 12): heartbeats and losses (R476 to R480), takeover (R486 to R489), the planned role swap (R493 to R496),
the running level (R506), the warm standby (R475) and the reading of the partner (R477). -/

namespace Sys2Proof.Machine

def State.setPair (s : State) (p : Pair) : State := { s with pair := p }

/-! ### Lanes and heartbeats -/

/-- The bit of a lane's state in PAI_STAT. -/
def laneBit (n : Nat) : Fld := if n = 0 then Fd.PAI_STAT_L0 else Fd.PAI_STAT_L1

/-- A valid frame has arrived on a lane, which is up (R476). -/
def State.laneAlive (s : State) (n : Nat) : State :=
  (s.setPair { s.pair with laneAt := s.pair.laneAt.put n s.clk.now }).set (laneBit n) 1 |>.judgeTick

/-- PAIR_LANE_DOWN (R476): a lane loses symbol lock, or has delivered no valid frame for 100 µs. -/
def execPairLaneDown (lane : Fin 2) (lockLost : Bool) (s : State) : Host.Outcome State Fault Refusal :=
  .next (if s.on (laneBit lane) ∧ (lockLost ∨ Tab.at 0 s.pair.laneAt lane + 10 ≤ s.clk.now) then
      ((s.set (laneBit lane) 0).raise Fd.PAI_EVT_LANE_DOWN lane []).judgeTick
    else s)

/-- The HEALTH byte of a heartbeat (Table 1). -/
def State.healthBits (s : State) : Nat :=
  b2n (decide (s.fld Fd.LOP_STAT_A_STATE < 2)) + 2 * b2n (decide (s.fld Fd.LOP_STAT_B_STATE < 2)) + 4 * b2n (!s.mainAbsent) +
  8 * b2n s.warmReady + 16 * b2n (s.on Fd.PAI_STAT_IMG_OK) + 32 * b2n (s.on Fd.PAI_STAT_SEL)

/-- The heartbeat of a frame leaves at its tick 50, once, on both lanes and both networks (R478). -/
def State.sendHeartbeat (s : State) : State :=
  if s.on Fd.PAI_STAT_PAIRED ∧ s.opState ≠ 0 ∧ s.clk.sidx.toNat % 100 = 50 ∧ s.pair.hbSent ≠ some s.clk.now then
      { s with pair := { s.pair with hbSent := some s.clk.now } }.cra .heartbeat 1 s.pairLevel [0, 1, 2, 3]
        [s.fld Fd.PAI_STAT_ROLE, s.opState, s.healthBits, s.clk.sidx.toNat, (s.rd Reg.PAI_IMG_SEQ).toNat, s.fld Fd.PAI_PLVL_MIN,
         s.fld Fd.PAI_PLVL_MAX, s.fld Fd.PAI_PLVL_CAP, s.pairLevel, if s.isActive then (s.rd Reg.PLN_PSEQ).toNat else 0]
  else s

/-- HEARTBEAT_SEND (R478). -/
def execHeartbeatSend (s : State) : Host.Outcome State Fault Refusal := .next s.sendHeartbeat

/-- The highest level a module may run at: min(LMAX, LCAP), where a CAP of 0 means LMIN (R506, R507). -/
def levelTop (lmin lmax lcap : Nat) : Nat := min lmax (if lcap = 0 then lmin else lcap)

/-- The level the pair is to run at (R506): the lower of the two tops, where both ranges hold it. -/
def State.wantedLevel (s : State) (h : Heartbeat) : Option Nat :=
  let own := levelTop (s.fld Fd.PAI_PLVL_MIN) (s.fld Fd.PAI_PLVL_MAX) (s.fld Fd.PAI_PLVL_CAP)
  let l := min own (levelTop h.lmin.toNat h.lmax.toNat h.lcap.toNat)
  if s.fld Fd.PAI_PLVL_MIN ≤ l ∧ h.lmin.toNat ≤ l then some l else none

/-- The active module proposes a LEVEL_SET pair barrier when another level is to run (R506). Its index, the first frame boundary at least
2,000 ticks ahead, is the model's (log entry 35). -/
def State.proposeLevel (s : State) (h : Heartbeat) : State :=
  match s.wantedLevel h with
  | some l =>
    if s.isActive ∧ s.pairUp ∧ h.role.val = 2 ∧ l ≠ s.pairLevel ∧ (s.pairBar barPairLevel).isNone then
      s.proposePair { id := 1, action := 2, arg := BitVec.ofNat 8 l, at_ := s.boundaryAhead 2000 }
    else s
  | none => s

/-- A valid heartbeat on the pair path (0) or the network path (1). One with another module ID is no partner's: while the role is not
resolved it is a strap mismatch (R589), and it is ignored otherwise. -/
def State.heartbeat (s : State) (p : Nat) (h : Heartbeat) : State :=
  if h.moduleId ≠ s.sys.straps.moduleId then
    if s.fld Fd.PAI_STAT_ROLE = 0 ∧ ¬ s.sys.mismatch then
      { s with sys := { s.sys with mismatch := true } }.raise Fd.ACT_HWEVT_STRAP_MISMATCH noObj []
    else s
  else if h.slot = s.sys.straps.slot then s
  else
    let full := s.pair.fullNext || !h.health.getLsbD 4
    let s := s.setPair { s.pair with heard := p :: s.pair.heard.filter (· != p), heardIn := s.pair.heardIn.put p s.clk.now, last := some h,
                                     lost := false, fullNext := full }
    s.proposeLevel h

/-- HEARTBEAT_RECEIVED (R478, R589): a valid heartbeat on a path. -/
def execHeartbeatReceived (path : PairPath) (h : Heartbeat) (s : State) : Host.Outcome State Fault Refusal :=
  .next (if ¬ s.on Fd.PAI_STAT_PAIRED ∨ s.opState = 0 then s else
    match path with
    | .lane n => (s.laneAlive n).heartbeat 0 h
    | .net c => s.takeCra c (fun s => s.heartbeat 1 h))

/-- The misses of a frame that ends, path by path (R479). -/
def State.countMisses (s : State) : State :=
  if ¬ s.on Fd.PAI_STAT_PAIRED ∨ s.fld Fd.PAI_STAT_ROLE = 0 then s.setPair { s.pair with heard := [] } else
  let s := if s.pair.heard.contains 0 then s.set Fd.PAI_HB_MISS_PAIR 0 else s.bump Fd.PAI_HB_MISS_PAIR
  let s := if s.pair.heard.contains 1 then s.set Fd.PAI_HB_MISS_NET 0 else s.bump Fd.PAI_HB_MISS_NET
  s.setPair { s.pair with heard := [] }

/-- The misses are judged where a whole frame of ticks has passed: a frame that a jump of the sample index cuts short is judged with the
next one (R75, R479). -/
def State.wholeFrame (s : State) : State :=
  if s.clk.now < s.clk.judged + 100 then s else { s with clk := { s.clk with judged := s.clk.now } }.countMisses

/-- The partner is declared lost once both paths have missed three consecutive frames (R479, R496). A swap under way is cancelled. -/
def State.judgePartner (s : State) : State :=
  if s.on Fd.PAI_STAT_PAIRED ∧ s.fld Fd.PAI_STAT_ROLE ≠ 0 ∧ ¬ s.pair.lost ∧ 3 ≤ s.fld Fd.PAI_HB_MISS_PAIR ∧ 3 ≤ s.fld Fd.PAI_HB_MISS_NET then
    let s := s.setPair { s.pair with lost := true, declared := if s.isActive then s.pair.declared else some s.clk.now }
    ((s.count Reg.PAI_CNT_HBMISS).raise Fd.PAI_EVT_PARTNER_LOST noObj []).abortSwap
  else s

/-- PARTNER_LOST (R479). -/
def execPartnerLost (s : State) : Host.Outcome State Fault Refusal := .next s.judgePartner

/-- The partner of a standby has deasserted PEER_HEALTH for 1 ms (R480, R496). -/
def State.judgePeer (s : State) : State :=
  if s.fld Fd.PAI_STAT_ROLE = 2 ∧ s.pair.declared.isNone ∧ s.pair.peerLow.any (fun t => decide (t + msTicks 1 ≤ s.clk.now)) then
    (s.setPair { s.pair with declared := some s.clk.now }).abortSwap
  else s

/-- PEER_HEALTH_LOST (R480). -/
def execPeerHealthLost (s : State) : Host.Outcome State Fault Refusal := .next s.judgePeer

/-! ### Becoming active -/

/-- The row addresses are announced on both networks and twice again at 100 ms intervals (R489). -/
def State.sendRowAddresses (s : State) : State :=
  if s.portAbsent then s else
  let words (n : Net) : List Nat := (s.rowAddress n).2 :: (s.rowAddress n).1
  (s.send (.frame .rowAddress (0 :: words .a))).send (.frame .rowAddress (1 :: words .b))

/-- The row addresses belong to this module (R399, R489). -/
def State.takeRow (s : State) : State :=
  let s := (s.set Fd.NET_STAT_ROW_OWNER 1).sendRowAddresses
  s.setPair { s.pair with repeats := [s.clk.now + msTicks 100, s.clk.now + msTicks 200] }

/-- The row addresses are announced again where that is due (R489). -/
def State.repeatRow (s : State) : State :=
  if s.isActive ∧ s.pair.repeats.any (fun t => decide (t ≤ s.clk.now)) then
    (s.setPair { s.pair with repeats := s.pair.repeats.drop 1 }).sendRowAddresses
  else s

/-- ROW_ADDRESS_REPEAT (R489). -/
def execRowAddressRepeat (s : State) : Host.Outcome State Fault Refusal := .next s.repeatRow

/-- Protection issues its own requests from the tick in which the module first drives outputs (R48, R311): isolation, standby pumps, and
the state of a sequence or of FULLCOOL found active. -/
def State.takeProtection (s : State) : State :=
  let s := s.racksInUse.foldl (fun (s : State) r =>
    if s.rackActive r seqLeak || s.rackActive r seqLeakFast then s.setRackP r { s.rackP r with asked := s.isolated r } else s) s
  let s := if s.loopActive 1 then
      (List.range 4).foldl (fun (s : State) g =>
        if (List.range 8).any (fun p => s.fld (Fd.PMP_CFG_ROLE p) == 0 && s.fld (Fd.PMP_CFG_GROUP p) == g && !s.on (Fd.PMP_STAT_SUBST_VALID p))
        then s.standbyStart g 8 else s) s
    else s
  let s := if s.anySequence then s.enterProtective 7 0 else s
  let s := if s.on Fd.PRT_STAT_FULLCOOL then s.enterProtective 8 0 else s
  s.actRecorded.isolateDue.settle

/-- The module begins to drive its outputs as the active one. -/
def State.takeOutputs (s : State) : State := s.beginDriving.takeProtection

/-- TAKEOVER (R486): in the tick after a declaration the standby enters TABLE, drives outputs and asserts HEALTH, powers a cold main die,
takes its tick from module time, and goes on from the last image (R246, R311, R393, R51). -/
def State.takeover (s : State) : State :=
  let s := (s.abortSwap).dropBars
  let s := s.setPair { s.pair with declared := none, tookAt := some s.clk.now, fullNext := true, sent := [] }
  let s := (s.set Fd.PAI_STAT_ROLE 1).mergeProtection
  let s := { s with sys := { s.sys with health := true, crec := match s.pair.appliedRec with | some l => some (recordOf l) | none => s.sys.crec } }
  let s := s.wr Reg.PLN_PSEQ (s.pair.appliedPseq + 65536)
  let s := (s.enter 5 0).judgeTick
  let s := ((s.raise Fd.PAI_EVT_TAKEOVER noObj []).count Reg.PAI_CNT_TAKEOVER).judgeRecord true
  let s := if s.sys.mainUp then s else s.releaseMain
  s.takeOutputs.takeRow

/-- The takeover at the edge of the tick after the declaration. -/
def State.takeoverNow (s : State) : State :=
  if s.fld Fd.PAI_STAT_ROLE = 2 ∧ s.pair.declared.any (fun t => decide (t < s.clk.now)) then s.takeover else s

/-! ### The planned role swap -/

/-- The refusal of a swap, in the order of R493: 5 BUSY, 3 NO_LINK, 2 NOT_READY, 4 LEVEL; 1 OK. -/
def State.swapCheck (s : State) : Nat :=
  if s.swapping then 5
  else if ¬ s.pairUp then 3
  else match s.pair.last with
    | none => 2
    | some h =>
      if h.role.val ≠ 2 ∨ h.state.val ≠ 2 ∨ ¬ (h.health.getLsbD 0 ∧ h.health.getLsbD 1 ∧ h.health.getLsbD 3 ∧ h.health.getLsbD 4) then 2
      else if s.pairLevel < h.lmin.toNat ∨ h.lmax.toNat < s.pairLevel then 4 else 1

/-- A write of PAI_SWAP (R493): with GO, a ROLE_SWAP pair barrier is proposed at the first frame boundary at least LEAD frames ahead. -/
def State.swapGo (s : State) (v : Word) : State :=
  if fieldOf v 31 1 = 0 then s else
  let r := s.swapCheck
  let s := s.set Fd.PAI_SWAP_STAT_RESULT (if r = 1 then 0 else r)
  if r = 1 then
    (s.set Fd.PAI_SWAP_STAT_STATE 1).proposePair { id := 0, action := 1, arg := 0, at_ := s.boundaryAhead (100 * fieldOf v 0 10) }
  else s

/-- ROLE_SWAP_REQUEST (R493). -/
def execRoleSwapRequest (w : Fin 8) (value : Word) (s : State) : Host.Outcome State Fault Refusal :=
  .next (s.writeRow w Reg.PAI_SWAP value true (fun s => s.swapGo value))

/-- The parts of a completed swap that both modules share (R495, R496). -/
def State.swapDone (s : State) : State :=
  let s := ((s.set Fd.PAI_SWAP_STAT_STATE 4).set Fd.PAI_SWAP_STAT_RESULT 1).wrap Fd.PAI_SWAP_STAT_SEQ
  let s := s.setPair { s.pair with recs := [], readyMark := false, swapN := none, sentGo := none, peerLow := none }
  (s.raise Fd.PAI_EVT_SWAP_DONE noObj []).lsLeave

/-- The standby becomes active at N from the record of N − 1 (R495, R496, R246). -/
def State.swapIn (s : State) (r : TickRec) : State :=
  let s := { s with regs := s.regs.filter (fun p => !(sectionHas 3 p.1 && decide (0x6020000 ≤ p.1))) }
  let s := (r.words.filter (fun p => sectionHas 3 p.1 && decide (0x6020000 ≤ p.1))).foldl (fun (s : State) p => s.wr p.1 p.2) s
  let s := (s.set Fd.PAI_STAT_ROLE 1).mergeProtection
  let s := { s with sys := { s.sys with health := true, crec := match s.pair.appliedRec with | some l => some (recordOf l) | none => s.sys.crec } }
  let s := (s.wr Reg.PLN_PSEQ (r.pseq + 65536)).enter 4 0
  let s := s.setPair { s.pair with sent := [], fullNext := true }
  (s.judgeTick.judgeRecord true).swapDone.takeOutputs.takeRow

/-- The former active module becomes a warm standby at N (R495, R475). -/
def State.swapOut (s : State) : State :=
  let s := { s with sys := { s.sys with health := false } }
  let s := ((s.set Fd.PAI_STAT_ROLE 2).set Fd.PAI_CTRL_WARM 1).set Fd.NET_STAT_ROW_OWNER 0
  let s := s.enter 2 0
  let s := (List.range 4).foldl (fun (s : State) d => s.expireDomain d) s
  let s := s.setPair { s.pair with appliedAt := some s.clk.now, cutAt := none, staleTold := false, repeats := [], tookAt := none }
  (s.set Fd.PAI_STAT_IMG_OK 0).judgeTick.swapDone

/-- The action ROLE_SWAP at N (R495). The standby needs the record of N − 1 with GO = 1; the active module knows of it by having sent it. -/
def State.swapAct (s : State) : State :=
  match s.pair.swapN with
  | none => s
  | some n =>
    if s.fld Fd.PAI_STAT_ROLE = 2 then
      match s.pair.recs.find? (fun r => r.sidx == n - 1 && r.go) with
      | some r => s.swapIn r
      | none => s.abortSwap
    else if s.isActive ∧ s.pair.sentGo = some (n - 1) then s.swapOut
    else s.abortSwap

/-! ### The warm standby -/

/-- A write of PAI_CTRL (R475): WARM powers and boots the main die of a standby, or powers it down. An active module ignores it. -/
def State.writeWarm (s : State) (v : Word) : State :=
  if s.isActive then s else
  let s := s.set Fd.PAI_CTRL_WARM (fieldOf v 0 1)
  if fieldOf v 0 1 = 1 then (if s.sys.mainPowered then s else s.releaseMain) else if s.sys.mainPowered then s.powerMainDown else s

/-- PAI_WARM (R475). -/
def execPaiWarm (w : Fin 8) (value : Word) (s : State) : Host.Outcome State Fault Refusal :=
  .next (s.writeRow w Reg.PAI_CTRL value true (fun s => s.writeWarm value))

/-! ### Reading the partner (R477) -/

/-- A write of PAI_PRD_CTRL: with GO, one PEEK_REQ on both lanes, unless a request is pending or no lane is up. -/
def State.readPartner (s : State) (v : Word) : State :=
  if fieldOf v 31 1 = 0 then s
  else if s.on Fd.PAI_PRD_STAT_PENDING then s.set Fd.PAI_PRD_STAT_RESULT 7
  else if ¬ s.pairUp then s.set Fd.PAI_PRD_STAT_RESULT 5
  else
    let s := (s.set Fd.PAI_PRD_STAT_PENDING 1).setPair { s.pair with peek := some s.clk.now }
    s.cra .peekReq 0x0B s.pairLevel [0, 1]
      [fieldOf v 0 1, fieldOf v 1 2, fieldOf v 3 4, (s.rd Reg.PAI_PRD_ADDR_LO).toNat, (s.rd Reg.PAI_PRD_ADDR_HI).toNat]

/-- The encodings of PAI_PRD_CTRL reserved across fields (R515): AREA 2 and 3 with KIND FIRN. -/
def crossPeek (v : Word) : Bool := fieldOf v 0 1 == 0 || decide (fieldOf v 1 2 < 2)

/-- PARTNER_READ_REGS and PARTNER_READ_FIRN (R477). -/
def execPartnerReadRegs (w : Fin 8) (value : Word) (s : State) : Host.Outcome State Fault Refusal :=
  .next (s.writeRow w Reg.PAI_PRD_CTRL value (crossPeek value) (fun s => s.readPartner value))

def execPartnerReadFirn (w : Fin 8) (value : Word) (s : State) : Host.Outcome State Fault Refusal :=
  .next (s.writeRow w Reg.PAI_PRD_CTRL value (crossPeek value) (fun s => s.readPartner value))

/-- PEEK_DATA (R477): the answer to a pending request lands in PAI_PRD_DATA0–15. -/
def execPeekData (result : Fin 5) (words : List Word) (s : State) : Host.Outcome State Fault Refusal :=
  .next (if s.on Fd.PAI_PRD_STAT_PENDING then
      let l := words.take 16
      let s := ((List.range 16).zip l).foldl (fun (s : State) p => s.wr (Reg.PAI_PRD_DATA p.1) p.2) s
      let s := ((s.set Fd.PAI_PRD_STAT_RESULT result).set Fd.PAI_PRD_STAT_PENDING 0).set Fd.PAI_PRD_STAT_WORDS l.length
      s.setPair { s.pair with peek := none }
    else s)

/-- A partner read has had no answer within 1 ms (R477). -/
def State.timeoutPeek (s : State) : State :=
  if s.pair.peek.any (fun t => decide (t + msTicks 1 ≤ s.clk.now)) then
    ((s.set Fd.PAI_PRD_STAT_RESULT 6).set Fd.PAI_PRD_STAT_PENDING 0).setPair { s.pair with peek := none }
  else s

/-- PEEK_TIMEOUT (R477). -/
def execPeekTimeout (s : State) : Host.Outcome State Fault Refusal := .next s.timeoutPeek

end Sys2Proof.Machine
end

