-- ==== Sys2Proof/Machine/Fed.lean ====
section
/-! DEFINITION. The federation (chapter 12): members and their announcements (R502, R503), the coordinator and the budget (R504, R505),
reservation and adoption (R508 to R511), and federation barriers up to their firing (R492) with what each firing does. Members agree on the
barrier IDs of log entry 35; what an ANNOUNCE does not carry is said in log entry 36. -/

namespace Sys2Proof.Machine

def State.setFed (s : State) (f : Fed) : State := { s with fed := f }

/-- This module's ID. -/
def State.myId (s : State) : Nat := s.sys.straps.moduleId.val

/-- A member takes part while the federation is on and its module is active (R502). -/
def State.fedOn (s : State) : Bool := s.on Fd.PAI_FED_CTRL_EN && s.isActive && !s.portAbsent

def State.member? (s : State) (m : Nat) : Option Member := Tab.find s.fed.mem m

/-- The members, ascending, this module among them once it is one (R503). -/
def State.fedMembers (s : State) : List Nat := (List.range 64).filter (fun m => s.fld (Fd.MEM_STAT_FSTATE m) == 2)

/-- The coordinator as this module sees it (R504): the lowest member in RUN, or else the lowest member. -/
def State.coordinator (s : State) : Option Nat :=
  (s.fedMembers.find? (fun m => s.fld (Fd.MEM_STAT_STATE m) == 4)).or s.fedMembers.head?

/-- Rows absorbed by a federation of n members (Table 6). -/
def rowsAbsorbed (n : Nat) : Nat := if n ≤ 1 then 0 else if n ≤ 11 then 1 else if n ≤ 27 then 2 else if n ≤ 47 then 3 else 4

/-- Local indices reserved by each of n members (R508): ceil(4,096 × k ÷ n). -/
def reservedOf (n : Nat) : Nat := if n = 0 then 0 else (4096 * rowsAbsorbed n + n - 1) / n

/-- The federation's size for Table 6: members and lost members. -/
def State.fedSize (s : State) : Nat := ((List.range 64).filter (fun m => decide (2 ≤ s.fld (Fd.MEM_STAT_FSTATE m)))).length

/-- The accelerators a member carries of its own (R502). -/
def State.ownOf (s : State) (m : Nat) : Nat :=
  if m = s.myId then (s.planAccs.filter (fun a => !Tab.has s.fed.adopt a)).length else s.fld (Fd.MEM_NACC_NACC m)

/-- Whether no member carries more than its limit (R508). -/
def State.reserveOk (s : State) : Bool := s.fedMembers.all (fun m => decide (s.ownOf m ≤ 4096 - reservedOf s.fedSize))

/-- The words of this module's own member entry. -/
def State.showSelf (s : State) : State :=
  let m := s.myId
  let st := s.fld Fd.PAI_FED_STAT_FSTATE
  let s := (s.set (Fd.MEM_STAT_FSTATE m) st).set (Fd.MEM_STAT_STATE m) (if st = 0 then 0 else s.opState)
  let s := (s.set (Fd.MEM_STAT_LMIN m) (if st = 0 then 0 else s.fld Fd.PAI_LVL_MIN)).set (Fd.MEM_STAT_LMAX m) (if st = 0 then 0 else s.fld Fd.PAI_LVL_MAX)
  s.set (Fd.MEM_NACC_NACC m) (if st = 0 then 0 else s.ownOf m)

/-- The membership words after any change (R502 to R508). The coordinator acts only after FED_COORDINATOR_ASSUME. -/
def State.judgeFed (s : State) : State :=
  let s := if s.fedOn then (if s.fld Fd.PAI_FED_STAT_FSTATE = 0 then s.set Fd.PAI_FED_STAT_FSTATE 1 else s) else s.set Fd.PAI_FED_STAT_FSTATE 0
  let s := s.showSelf
  let c := s.coordinator
  let mine := s.fedOn && c == some s.myId
  let from_ := if mine then some (s.fed.selfFrom.getD s.clk.now) else none
  let s := s.setFed { s.fed with selfFrom := from_ }
  let s := if mine then s else s.set Fd.PAI_FED_STAT_COORD 0
  let s := (s.set Fd.PAI_FED_STAT_COORD_ID (c.getD 0)).set Fd.PAI_FED_STAT_MEMBERS s.fedMembers.length
  let on_ := s.on Fd.PAI_FED_CTRL_RESV_EN && decide (s.fld Fd.PAI_FED_STAT_FSTATE = 2)
  let n := s.fedSize
  let r := if on_ then reservedOf n else 0
  let was := s.on Fd.PAI_FED_STAT_RESV_OK
  let had := s.fld Fd.PAI_RESV_RESERVED
  let s := ((s.set Fd.PAI_FED_STAT_K (if on_ then rowsAbsorbed n else 0)).set Fd.PAI_RESV_RESERVED r).set Fd.PAI_RESV_MAXOWN (4096 - r)
  let ok := on_ && s.reserveOk
  let s := s.setB Fd.PAI_FED_STAT_RESV_OK ok
  if on_ ∧ ¬ ok ∧ (was ∨ had ≠ r) then s.raise Fd.PAI_FED_EVT_RESV_SHORT noObj [] else s

/-! ### Announcements -/

/-- The adopted rows this module lists (R502): module, count and last PSEQ. -/
def State.adoptRows (s : State) : List (Nat × Nat × Nat) :=
  ((s.fed.adopt.map (fun x => x.2.m)).dedup).map (fun m => (m, (s.fed.adopt.filter (fun x => x.2.m == m)).length, Tab.at 0 s.fed.pseq m))

/-- Whether what goes out every `every` ticks is due (R502, R505, R510). -/
def State.periodDue (s : State) (last : Option Nat) (every : Nat) : Bool := last.all (fun t => decide (t + every ≤ s.clk.now))

/-- The payload of an ANNOUNCE on a network (R502), with the row addresses of that network. -/
def State.announceOn (s : State) (n : Net) : List Nat :=
  let rows := s.adoptRows
  [s.fld Fd.PAI_FED_STAT_FSTATE - 1, s.opState, s.fld Fd.PAI_LVL_MIN, s.fld Fd.PAI_LVL_MAX, s.fld Fd.PAI_PLVL_CAP, s.fedLevel, s.ownOf s.myId,
    (s.rd Reg.PAI_FEPOCH).toNat, sumBy s.planRequest s.planAccs, sumBy s.target s.planAccs, (s.rd Reg.PLN_PSEQ).toNat] ++
  (s.rowAddress n).1 ++ [(s.rowAddress n).2, rows.length] ++ rows.flatMap (fun r => [r.1, r.2.1, r.2.2])

/-- An ANNOUNCE leaves every 10 ms, on both networks, whether or not the main die is present (R502). -/
def State.announceDue (s : State) : State :=
  if ¬ s.on Fd.PAI_FED_CTRL_EN ∨ ¬ s.periodDue s.fed.annAt (msTicks 10) then s else
  let s := s.judgeFed
  if ¬ s.fedOn then s else
  (s.setFed { s.fed with annAt := some s.clk.now }).craEach .fedAnnounce 2 s.fedLevel [(2, s.announceOn .a), (3, s.announceOn .b)]

/-- FED_ANNOUNCE_SEND (R502). -/
def execFedAnnounceSend (s : State) : Host.Outcome State Fault Refusal := .next s.announceDue

/-- The range and top of a member's levels: this module's, or as announced. -/
def State.rangeOf (s : State) (m : Nat) : Nat × Nat × Nat :=
  if m = s.myId then (s.fld Fd.PAI_LVL_MIN, s.fld Fd.PAI_LVL_MAX, levelTop (s.fld Fd.PAI_LVL_MIN) (s.fld Fd.PAI_LVL_MAX) (s.fld Fd.PAI_PLVL_CAP))
  else match s.member? m with
    | some x => (x.ann.lmin.toNat, x.ann.lmax.toNat, levelTop x.ann.lmin.toNat x.ann.lmax.toNat x.ann.lcap.toNat)
    | none => (s.fld (Fd.MEM_STAT_LMIN m), s.fld (Fd.MEM_STAT_LMAX m), s.fld (Fd.MEM_STAT_LMIN m))

/-- The level the federation is to run at (R506): the lowest top, where every member's range holds it. -/
def State.fedWanted (s : State) : Option Nat :=
  match s.fedMembers with
  | [] => none
  | m :: t =>
    let l := t.foldl (fun l x => min l (s.rangeOf x).2.2) (s.rangeOf m).2.2
    if (m :: t).all (fun x => decide ((s.rangeOf x).1 ≤ l) && decide (l ≤ (s.rangeOf x).2.1)) then some l else none

/-! ### Barriers up to their firing (R492) -/

def State.fedBar (s : State) (id : Nat) : Option FedBar := s.fed.bars.find? (fun x => x.msg.id.val == id)

def State.putFedBar (s : State) (x : FedBar) : State :=
  s.setFed { s.fed with bars := s.fed.bars.filter (fun y => y.msg.id.val != x.msg.id.val) ++ [x] }

def State.dropFedBar (s : State) (id : Nat) : State :=
  let s := match (s.fedBar id).bind (·.entry) with
    | some n => if s.fld (Fd.AE_STAT_STATE n) = 1 then s.endEntry n 3 3 else s
    | none => s
  s.setFed { s.fed with bars := s.fed.bars.filter (fun x => x.msg.id.val != id) }

/-- The adoption set a barrier will put in force: every loss and every return not yet settled (R509, R511). -/
def State.noteAdoption (s : State) (b : BarrierMsg) : State :=
  if b.action.val = actAdopt then
    s.setFed { s.fed with pendingSet := s.fed.lostAt.map (fun x => (x.1, true)) ++ s.fed.backAt.map (fun x => (x.1, false)) }
  else s

/-- The coordinator proposes a federation barrier: its own TIME entry, and the proposal to the federation group. -/
def State.proposeFed (s : State) (b : BarrierMsg) : State :=
  match s.commitBarrier b 2 1 with
  | (none, s) => s
  | (some n, s) =>
    let s := (s.putFedBar ⟨b, [], false, some n⟩).noteAdoption b
    s.cra .fedPropose 5 s.fedLevel [2, 3] [b.id.val, b.action.val, b.arg.toNat, b.at_.toNat]

/-- A wire time at least 20 ms ahead, at a whole multiple of 10 µs (R492, log entry 35). -/
def State.wireAhead (s : State) : BitVec 64 := BitVec.ofNat 64 ((s.clk.mtime.toNat + 20000000 + 9999) / 10000 * 10000)

/-- The coordinator proposes a LEVEL_SET barrier when another level is to run (R506). -/
def State.proposeFedLevel (s : State) : State :=
  match s.fedWanted with
  | some l =>
    if s.on Fd.PAI_FED_STAT_COORD ∧ l ≠ s.fedLevel ∧ (s.fedBar barFedLevel).isNone then
      s.proposeFed { id := 3, action := 2, arg := BitVec.ofNat 8 l, at_ := s.wireAhead }
    else s
  | none => s

/-- FED_BARRIER_PROPOSE (R492): the coordinator proposes; or, from the network, a member's proposal arrives, and is committed and answered where
that member is the coordinator. The copy of the other network changes nothing. -/
def execFedBarrierPropose (m : Option Came × Fin 64) (b : BarrierMsg) (s : State) : Host.Outcome State Fault Refusal :=
  .next (match m.1 with
    | none =>
      if s.fedOn ∧ s.on Fd.PAI_FED_STAT_COORD ∧ diff64 b.at_ s.clk.mtime ≥ 20000000 ∧ (s.fedBar b.id).isNone then s.proposeFed b else s
    | some c => s.takeCra c fun s =>
      if s.fedOn ∧ m.2.val ≠ s.myId ∧ s.coordinator = some m.2.val ∧ (s.fedBar b.id).all (fun x => x.msg != b) then
        match (s.dropFedBar b.id).commitBarrier b 2 1 with
        | (none, s) => s
        | (some n, s) => ((s.putFedBar ⟨b, [], false, some n⟩).noteAdoption b).cra .fedAck 5 s.fedLevel [2, 3] [b.id.val, b.at_.toNat]
      else s)

/-- FED_BARRIER_ACK (R492): a member has answered, in time by T − 5 ms. -/
def execFedBarrierAck (m : Heard (Fin 64)) (id : Fin 16) (s : State) : Host.Outcome State Fault Refusal :=
  .next (s.takeCra m.came fun s => match s.fedBar id with
    | some x =>
      if s.on Fd.PAI_FED_STAT_COORD ∧ diff64 x.msg.at_ s.clk.mtime ≥ 5000000 ∧ ¬ x.acks.contains m.what.val then
        s.putFedBar { x with acks := x.acks ++ [m.what.val] }
      else s
    | none => s)

/-- By T − 5 ms every member has answered: CONFIRM goes out three times on each network (R492). -/
def State.confirmBar (s : State) (id : Nat) : State :=
  match s.fedBar id with
  | some x =>
    if s.on Fd.PAI_FED_STAT_COORD ∧ ¬ x.confirmed ∧ diff64 x.msg.at_ s.clk.mtime ≤ 5000000 ∧ diff64 x.msg.at_ s.clk.mtime ≥ 1000000 ∧
        s.fedMembers.all (fun m => m == s.myId || x.acks.contains m) then
      let s := s.putFedBar { x with confirmed := true }
      (List.range 3).foldl (fun (s : State) _ => s.cra .fedConfirm 5 s.fedLevel [2, 3] [id, x.msg.at_.toNat]) s
    else s
  | none => s

/-- FED_BARRIER_CONFIRM_DUE (R492). -/
def execFedBarrierConfirmDue (id : Fin 16) (s : State) : Host.Outcome State Fault Refusal := .next (s.confirmBar id)

/-- FED_BARRIER_CONFIRM (R492): CONFIRM arrives by T − 1 ms. -/
def execFedBarrierConfirm (m : Heard (Fin 64)) (id : Fin 16) (t : BitVec 64) (s : State) : Host.Outcome State Fault Refusal :=
  .next (s.takeCra m.came fun s => match s.fedBar id with
    | some x =>
      if s.coordinator = some m.what.val ∧ x.msg.at_ = t ∧ diff64 t s.clk.mtime ≥ 1000000 then s.putFedBar { x with confirmed := true } else s
    | none => s)

/-- At T − 1 ms no CONFIRM is held, and the entry is cancelled by R86 (R492). -/
def State.unconfirmBar (s : State) (id : Nat) : State :=
  match s.fedBar id with
  | some x => if ¬ x.confirmed ∧ diff64 x.msg.at_ s.clk.mtime ≤ 1000000 then s.dropFedBar id else s
  | none => s

/-- FED_BARRIER_NO_CONFIRM (R492). -/
def execFedBarrierNoConfirm (id : Fin 16) (s : State) : Host.Outcome State Fault Refusal := .next (s.unconfirmBar id)

/-! ### Hearing members -/

/-- The words of a member from its ANNOUNCE. -/
def State.showMember (s : State) (a : FedAnnounce) : State :=
  let m := a.moduleId.val
  let s := (s.set (Fd.MEM_STAT_FSTATE m) (if a.member then 2 else 1)).set (Fd.MEM_STAT_STATE m) a.state
  let s := (s.set (Fd.MEM_STAT_LMIN m) a.lmin.toNat).set (Fd.MEM_STAT_LMAX m) a.lmax.toNat
  s.set (Fd.MEM_NACC_NACC m) (min a.nacc.toNat 4096)

/-- The adopters' last PSEQ of this module's own row are passed (R511). -/
def State.passPseq (s : State) (a : FedAnnounce) : State :=
  (a.adopted.filter (fun (x : AdoptRow) => x.m.val == s.myId)).foldl (fun (s : State) x =>
    if diff32 x.pseq (s.rd Reg.PLN_PSEQ) > 0 then s.wr Reg.PLN_PSEQ x.pseq else s) s

/-- Since when FEPOCH differs from the coordinator's (R492). -/
def State.watchEpoch (s : State) (a : FedAnnounce) : State :=
  if s.coordinator = some a.moduleId.val ∧ s.fld Fd.PAI_FED_STAT_FSTATE = 2 then
    s.setFed { s.fed with differ := if a.fepoch = s.rd Reg.PAI_FEPOCH then none else some (s.fed.differ.getD s.clk.now) }
  else s

/-- FED_ANNOUNCE (R502): an ANNOUNCE of another slot of a module ID heard within 100 ms is ignored and told; a member lost is back. -/
def execFedAnnounce (f : Heard FedAnnounce) (s : State) : Host.Outcome State Fault Refusal :=
  .next (s.takeCra f.came fun s =>
    let a := f.what
    let m := a.moduleId.val
    if ¬ s.on Fd.PAI_FED_CTRL_EN then s
    else if m = s.myId then
      if s.fedOn ∧ a.slot ≠ s.sys.straps.slot then s.raise Fd.PAI_FED_EVT_DUP_ID m [] else s
    else
      let old := s.member? m
      let other := 1 - a.slot.val
      if old.any (fun x => (Tab.find x.slotAt other).any (fun t => decide (s.clk.now ≤ t + msTicks 100))) then s.raise Fd.PAI_FED_EVT_DUP_ID m []
      else
        let slots : Tab Nat := Tab.put a.slot.val s.clk.now (old.elim [] (fun x => x.slotAt))
        let wasLost := s.fld (Fd.MEM_STAT_FSTATE m) = 3
        let s := (s.setFed { s.fed with mem := s.fed.mem.put m ⟨a, s.clk.now, slots⟩ }).showMember a
        let s := if wasLost then
            let s := if Tab.has s.fed.lostAt m then s.setFed { s.fed with lostAt := s.fed.lostAt.del m }
                     else s.setFed { s.fed with backAt := s.fed.backAt.put m s.clk.now }
            s.raise Fd.PAI_FED_EVT_MEMBER_BACK m []
          else s
        ((s.passPseq a).judgeFed.watchEpoch a).proposeFedLevel)

/-- A member is lost after PAI_FED_LOST without an ANNOUNCE (R502). -/
def State.loseMember (s : State) (m : Nat) : State :=
  match s.member? m with
  | some x =>
    let st := s.fld (Fd.MEM_STAT_FSTATE m)
    if s.on Fd.PAI_FED_CTRL_EN ∧ (st = 1 ∨ st = 2) ∧ x.at_ + msTicks (s.fld Fd.PAI_FED_LOST_MS) ≤ s.clk.now then
      let s := s.set (Fd.MEM_STAT_FSTATE m) 3
      let s := if st = 2 then s.setFed { s.fed with lostAt := s.fed.lostAt.put m s.clk.now, backAt := s.fed.backAt.del m } else s
      (s.raise Fd.PAI_FED_EVT_MEMBER_LOST m []).judgeFed
    else s
  | none => s

/-- FED_MEMBER_LOST (R502). -/
def execFedMemberLost (m : Fin 64) (s : State) : Host.Outcome State Fault Refusal := .next (s.loseMember m)

/-- FED_ROWMAP (R502): every member keeps the row maps of all others in DDR4. -/
def execFedRowmap (m : Heard (Fin 64)) (map : List RowAcc) (s : State) : Host.Outcome State Fault Refusal :=
  .next (s.takeCra m.came fun s =>
    if s.on Fd.PAI_FED_CTRL_EN ∧ ¬ s.mainAbsent ∧ m.what.val ≠ s.myId then s.setFed { s.fed with maps := s.fed.maps.put m.what map } else s)

/-- This module's row map (R502): its own accelerators with rack, TDP, fallback cap, plan group base and stream configuration. -/
def State.rowMap (s : State) : List Nat :=
  (s.planAccs.filter (fun a => !Tab.has s.fed.adopt a)).flatMap (fun a =>
    [a, (s.rackOf a).getD 0, s.tdp a, s.fld (Fd.ACC_CFG_FALLBACK a), (s.rd Reg.NET_PGRP4).toNat, (s.streamsOf a).length] ++
    (s.streamsOf a).flatMap (fun i => [i % 64, (s.rd (Reg.STM_CFG i)).toNat]))

/-- The row map leaves on every change and every 60 s (R502). -/
def State.rowMapDue (s : State) : State :=
  if ¬ s.fedOn ∨ s.mainAbsent ∨ (¬ s.periodDue s.fed.mapAt (sTicks 60) ∧ s.rowMap = s.fed.mapSent) then s else
  (s.setFed { s.fed with mapAt := some s.clk.now, mapSent := s.rowMap }).cra .fedRowmap 9 s.fedLevel [2, 3] s.rowMap

/-- FED_ROWMAP_SEND (R502). -/
def execFedRowmapSend (s : State) : Host.Outcome State Fault Refusal := .next s.rowMapDue

/-! ### The coordinator and ALLOC -/

/-- This module acts as coordinator once it has seen itself so for 100 ms (R504). -/
def State.assumeCoord (s : State) : State :=
  if s.fedOn ∧ ¬ s.on Fd.PAI_FED_STAT_COORD ∧ s.fed.selfFrom.any (fun t => decide (t + msTicks 100 ≤ s.clk.now)) then
    (s.set Fd.PAI_FED_STAT_COORD 1).proposeFedLevel
  else s

/-- FED_COORDINATOR_ASSUME (R504). -/
def execFedCoordinatorAssume (s : State) : Host.Outcome State Fault Refusal := .next s.assumeCoord

/-- The request and the target sums of a member (R505). -/
def State.sumsOf (s : State) (m : Nat) : Nat × Nat :=
  if m = s.myId then (sumBy s.planRequest s.planAccs, sumBy s.target s.planAccs)
  else (s.member? m).elim (0, 0) (fun x => (x.ann.request.toNat, x.ann.target.toNat))

/-- A share of R505, a free value where it divides by 0: the spec states none there (log entry 36). -/
def State.fedShareOf (s : State) (k a b : Nat) : Nat := if b = 0 then Config.freeValue (s.fresh + k) % 2 ^ 32 else a / b

/-- The budgets and ramp bounds of every member (R505). -/
def State.fedAlloc (s : State) : List (Nat × Nat × Nat) :=
  let fb := (s.rd Reg.PAI_FED_BUDGET).toNat
  let fr := (s.rd Reg.PAI_FED_RAMP).toNat
  let l := s.fedMembers
  let n := sumBy s.naccOf l
  let tgt := sumBy (fun m => (s.sumsOf m).2) l
  let req := sumBy (fun m => (s.sumsOf m).1) l
  l.map (fun m =>
    let b := if fb = noLimit then noLimit
      else if tgt ≤ fb then (s.sumsOf m).2 + s.fedShareOf (3 * m) ((fb - tgt) * s.naccOf m) n
      else s.fedShareOf (3 * m + 1) (fb * (s.sumsOf m).1) req
    (m, b % 2 ^ 32, if fr = noLimit then noLimit else s.fedShareOf (3 * m + 2) (fr * s.naccOf m) n))

/-- A member takes its part of an ALLOC, to be used from EFFECTIVE on (R227, R505). -/
def State.takeAlloc (s : State) (eff : Nat) (l : List (Nat × Nat × Nat)) : State :=
  let s := l.foldl (fun (s : State) e => s.wr (Reg.MEM_BUDGET e.1) (BitVec.ofNat 32 e.2.1)) s
  let s := s.setFed { s.fed with allocAt := some s.clk.now }
  match l.find? (fun e => e.1 == s.myId) with
  | some e =>
    let t := BitVec.ofNat 64 eff
    { s with plan := { s.plan with fedNext := s.plan.fedNext.filter (fun x => x.1 != t) ++ [(t, e.2.1, e.2.2)] } }
  | none => s

/-- The coordinator computes and sends an ALLOC every 100 ms (R505). -/
def State.allocDue (s : State) : State :=
  if s.fedOn ∧ s.on Fd.PAI_FED_STAT_COORD ∧ s.periodDue s.fed.allocAt (msTicks 100) then
    let l := s.fedAlloc
    let eff := s.clk.mtime.toNat + 20000000
    ({ s with fresh := s.fresh + 192 }.takeAlloc eff l).cra .fedAlloc 4 s.fedLevel [2, 3] (eff :: l.flatMap (fun (e : Nat × Nat × Nat) => [e.1, e.2.1, e.2.2]))
  else s

/-- FED_ALLOC_COMPUTE (R505). -/
def execFedAllocCompute (s : State) : Host.Outcome State Fault Refusal := .next s.allocDue

/-- FED_ALLOC (R505): an ALLOC of the coordinator arrives. -/
def execFedAlloc (m : Heard (Fin 64)) (effective : BitVec 64) (entries : List AllocEntry) (s : State) : Host.Outcome State Fault Refusal :=
  .next (s.takeCra m.came fun s =>
    if s.fedOn ∧ m.what.val ≠ s.myId ∧ s.coordinator = some m.what.val then
      s.takeAlloc effective.toNat (entries.map (fun (e : AllocEntry) => (e.m.val, e.budget.toNat, e.ramp.toNat)))
    else s)

/-- Without ALLOC for 1 s a member keeps its last values, and says so (R505). -/
def State.staleAlloc (s : State) : State :=
  if s.fedOn ∧ s.fld Fd.PAI_FED_STAT_FSTATE = 2 ∧ s.fed.allocAt.any (fun t => decide (t + sTicks 1 ≤ s.clk.now)) then
    (s.setFed { s.fed with allocAt := none }).raise Fd.PAI_FED_EVT_ALLOC_STALE noObj []
  else s

/-- FED_ALLOC_STALE (R505). -/
def execFedAllocStale (s : State) : Host.Outcome State Fault Refusal := .next s.staleAlloc

/-! ### Adoption (R509 to R511) -/

/-- Accelerators dealt one at a time, in turn, to survivors that still have room (R509): each with its adopter. Where no room is left the
rest stay unadopted. -/
def deal : List (Nat × Nat) → List α → List (α × Nat)
  | _, [] => []
  | q, a :: rest =>
    match q.filter (fun x => decide (0 < x.2)) with
    | [] => []
    | (m, c) :: t => (a, m) :: deal (t ++ [(m, c - 1)]) rest

/-- The accelerators a member has adopted: this module's own, or as announced. -/
def State.adoptedBy (s : State) (m : Nat) : Nat :=
  if m = s.myId then s.fed.adopt.length else (s.member? m).elim 0 (fun x => sumBy (fun (r : AdoptRow) => r.count.toNat) x.ann.adopted)

/-- The room of a survivor (R509): its reserve, or its free local indices where no reserve is kept. What another member's ADOPT_EN is no
frame tells: it counts as 1 (log entry 36). -/
def State.roomOf (s : State) (m : Nat) : Nat :=
  if m = s.myId ∧ ¬ s.on Fd.PAI_FED_CTRL_ADOPT_EN then 0
  else if s.on Fd.PAI_FED_CTRL_RESV_EN then reservedOf s.fedSize - s.adoptedBy m
  else 4096 - s.ownOf m - s.adoptedBy m

/-- The lost accelerators of a set of members in ascending global ID. -/
def State.lostAccs (s : State) (ms : List Nat) : List (Nat × RowAcc) :=
  (sortBy (fun a b => decide (a ≤ b)) ms).flatMap (fun m =>
    (sortBy (fun (a b : RowAcc) => decide (a.idx ≤ b.idx)) (Tab.at [] s.fed.maps m)).map (fun (r : RowAcc) => (m, r)))

/-- This module's share of an adoption (R509). -/
def State.myShare (s : State) (ms : List Nat) : List (Nat × RowAcc) :=
  ((deal (s.fedMembers.map (fun m => (m, s.roomOf m))) (s.lostAccs ms)).filter (fun x => x.2 == s.myId)).map (·.1)

/-- The free local indices, lowest first. -/
def State.freeLocals (s : State) : List Nat :=
  (List.range 4096).filter (fun a => !Tab.has s.stm.row a && !Tab.has s.stm.adopted a)

/-- The stream words that the next boundary will have in force. -/
def State.nextCfg (s : State) : List (Nat × Word) :=
  match s.stm.commit with
  | some c => c.cfg
  | none => s.streamCfg

/-- The stream words of an adopted accelerator at a local index. The PAIRED pointers name pairs of the lost module and are dropped. -/
def adoptedCfg (a : Nat) (r : RowAcc) : List (Nat × Word) := r.streams.map (fun p => (64 * a + p.1.val, withField p.2 22 1 0))

/-- The stream words put in force by an adoption or a return, at the next boundary (R123). -/
def State.commitAdopted (s : State) (cfg : List (Nat × Word)) : State :=
  let pairs := s.stm.commit.elim s.stm.pairs (fun c => c.pairs)
  { s with stm := { s.stm with commit := some ⟨s.clk.now, cfg, pairs⟩ } }.set Fd.STM_CMT_STAT_PENDING 1

/-- The accelerators of a share that R122 lets in, in order, up to the first refused, with the stream words of all of them. -/
def State.admitted (s : State) : List (Nat × (Nat × RowAcc)) → List (Nat × Word) → List (Nat × (Nat × RowAcc)) × List (Nat × Word)
  | [], cfg => ([], cfg)
  | x :: t, cfg =>
    let new := cfg ++ adoptedCfg x.1 x.2.2
    let pairs := s.stm.commit.elim s.stm.pairs (fun c => c.pairs)
    let fits := !s.overTime s.activeSet s.ice.part new && !s.overBandwidth s.activeSet new
    if s.commitResult new pairs fits = 1 then let p := s.admitted t new; (x :: p.1, p.2) else ([], cfg)

/-- This module adopts its share of lost rows (R509, R510). -/
def State.adoptShare (s : State) (ms : List Nat) : State :=
  let share := s.myShare ms
  let placed := s.freeLocals.zip share
  let p := s.admitted placed s.nextCfg
  let s := p.1.foldl (fun (s : State) x =>
    let a := x.1
    let r : RowAcc := x.2.2
    let s := { s with stm := { s.stm with adopted := s.stm.adopted.put a (4096 * x.2.1 + r.idx.val) },
                      fed := { s.fed with adopt := s.fed.adopt.put a ⟨x.2.1, r⟩ } }
    ((s.set (Fd.ACC_CFG_TDP a) r.tdp.toNat).set (Fd.ACC_CFG_FALLBACK a) r.fallback.toNat).bump (Fd.MEM_NACC_ADOPTED x.2.1)) s
  let s := if p.1.isEmpty then s else (s.commitAdopted p.2).countBy Reg.PAI_CNT_ADOPT p.1.length
  let s := ms.foldl (fun (s : State) m =>
    if Tab.has s.fed.pseq m ∨ ¬ s.fed.adopt.any (fun x => x.2.m == m) then s else
      let last := (s.member? m).elim 0 (fun x => x.ann.pseq.toNat)
      s.setFed { s.fed with pseq := s.fed.pseq.put m ((last + 2 ^ 24) % 2 ^ 32) }) s
  let s := if p.1.length < share.length then s.raise Fd.PAI_FED_EVT_ADOPT_SHORT noObj [] else s
  if p.1.isEmpty then s else s.raise Fd.PAI_FED_EVT_ADOPT noObj [p.1.length]

/-- The address that a REDIRECT names on a network (R510): the words of the row's IPv6 address, word 0 first, or of ::ffff:a.b.c.d where the row
has IPv4 alone. -/
def State.rowDest (s : State) (n : Net) : List Nat :=
  let a := s.rowAddress n
  if a.1.all (fun w => w == 0) then [a.2, 0xFFFF, 0, 0] else a.1

/-- REDIRECT to the group of a lost row's rack (R510): destinations are this module's row addresses, or none on a return (R511). -/
def State.redirect (s : State) (m rack : Nat) (back : Bool) : State :=
  let rseq := (s.fed.rseq + 1) % 2 ^ 32
  let s := s.setFed { s.fed with rseq := rseq }
  let l := (s.fed.adopt.filter (fun x => x.2.m == m && x.2.acc.rack.val == rack)).map (fun x => x.2.acc.idx.val)
  let body (n : Net) : List Nat := [m, rack, rseq, l.length] ++ l.flatMap (fun a => a :: (if back then [0, 0, 0, 0] else s.rowDest n))
  s.craEach .redirect 0x0A s.fedLevel [(2, body .a), (3, body .b)]

/-- The lost racks with accelerators adopted here. -/
def State.adoptedRacks (s : State) : List (Nat × Nat) := (s.fed.adopt.map (fun x => (x.2.m, x.2.acc.rack.val))).dedup

/-- A row returns (R511): zero destinations, its SLICE segments saved, and its local indices released. -/
def State.giveBack (s : State) (m : Nat) : State :=
  let accs := (s.fed.adopt.filter (fun x => x.2.m == m)).map (·.1)
  if accs.isEmpty then s else
  let s := (s.adoptedRacks.filter (fun x => x.1 == m)).foldl (fun (s : State) x => s.redirect m x.2 true) s
  let s := (s.tables.filter (fun t => s.tblKind t == 1 && !s.on (Fd.T_CFG_REPLAY t))).foldl (fun (s : State) t =>
    ((s.tblOf t).res.filter (fun g => accs.contains (g % 4096))).foldl (fun (s : State) g => s.queueSave t g) s) s
  let s := s.nextDevice
  let s := s.commitAdopted (s.nextCfg.filter (fun p => !accs.contains (p.1 / 64)))
  let s := accs.foldl (fun (s : State) a => s.wr (Reg.ACC_CFG a) (resetWord (Reg.ACC_CFG a))) s
  let s := { s with stm := { s.stm with adopted := s.stm.adopted.filter (fun x => !accs.contains x.1) },
                    fed := { s.fed with adopt := s.fed.adopt.filter (fun x => x.2.m != m), pseq := s.fed.pseq.del m } }
  s.set (Fd.MEM_NACC_ADOPTED m) 0

/-- The action ADOPT (R490, R509, R511): losses are adopted, returns given back; the returning member itself numbers its frames at least
65,536 above its own last. -/
def State.adoptNow (s : State) : State :=
  let lost := (s.fed.pendingSet.filter (fun x => x.2)).map (·.1)
  let back := (s.fed.pendingSet.filter (fun x => !x.2)).map (·.1)
  let s := s.setFed { s.fed with pendingSet := [], lostAt := s.fed.lostAt.filter (fun x => !lost.contains x.1),
                                 backAt := s.fed.backAt.filter (fun x => !back.contains x.1) }
  let s := back.foldl (fun (s : State) m => s.giveBack m) s
  if lost.isEmpty then s else s.adoptShare lost

/-- 100 ms after a member is lost or back, the coordinator proposes an ADOPT barrier (R509, R511). -/
def State.proposeAdopt (s : State) (m : Nat) : State :=
  if s.fedOn ∧ s.on Fd.PAI_FED_STAT_COORD ∧ (s.fedBar barAdopt).isNone ∧
      ((Tab.find s.fed.lostAt m).or (Tab.find s.fed.backAt m)).any (fun t => decide (t + msTicks 100 ≤ s.clk.now)) then
    s.proposeFed { id := 4, action := 4, arg := 0, at_ := s.wireAhead }
  else s

/-- ADOPT_PROPOSE (R509, R511). -/
def execAdoptPropose (m : Fin 64) (s : State) : Host.Outcome State Fault Refusal := .next (s.proposeAdopt m)

/-- REDIRECT leaves every 1 s, to each adopted rack's group (R510). -/
def State.redirectDue (s : State) : State :=
  if ¬ s.fedOn ∨ s.fed.adopt.isEmpty ∨ ¬ s.periodDue s.fed.redirAt (sTicks 1) then s else
  s.adoptedRacks.foldl (fun (s : State) x => s.redirect x.1 x.2 false) (s.setFed { s.fed with redirAt := some s.clk.now })

/-- REDIRECT_SEND (R510). -/
def execRedirectSend (s : State) : Host.Outcome State Fault Refusal := .next s.redirectDue

/-! ### Firing of a federation barrier -/

/-- FEPOCH has differed from the coordinator's for 1 s: the next federation barrier brings this member into line (R492). -/
def State.resyncDue (s : State) : State :=
  if s.fed.differ.any (fun t => decide (t + sTicks 1 ≤ s.clk.now)) then s.setFed { s.fed with resync := true } else s

/-- FED_RESYNC (R492). -/
def execFedResync (s : State) : Host.Outcome State Fault Refusal := .next s.resyncDue

/-- A resync takes the coordinator's running level, adoption set and epoch (R492). -/
def State.resyncNow (s : State) : State :=
  match s.coordinator.bind s.member? with
  | none => s
  | some x =>
    let a : FedAnnounce := x.ann
    let here := (s.fed.adopt.map (fun y => y.2.m)).dedup
    let there := a.adopted.map (fun (r : AdoptRow) => r.m.val)
    let s := (s.wr Reg.PAI_FEPOCH a.fepoch).set Fd.PAI_LVL_RUN a.lrun.toNat
    let s := s.setFed { s.fed with resync := false, differ := none }
    let s := (here.filter (fun m => !there.contains m)).foldl (fun (s : State) m => s.giveBack m) s
    let new := there.filter (fun m => !here.contains m && s.fld (Fd.MEM_STAT_FSTATE m) == 3)
    let s := if new.isEmpty then s else s.adoptShare new
    s.raise Fd.PAI_FED_EVT_RESYNC noObj []

/-- Members heard that join at a federation barrier (R503), this module among them; where adopters list its row it is a returning member and
numbers its plan frames on from 65,536 above its own last (R511). -/
def State.joinAll (s : State) : State :=
  let run := s.fedLevel
  let s := (List.range 64).foldl (fun (s : State) m =>
    if s.fld (Fd.MEM_STAT_FSTATE m) = 1 ∧ m ≠ s.myId ∧ (s.rangeOf m).1 ≤ run ∧ run ≤ (s.rangeOf m).2.1 then s.set (Fd.MEM_STAT_FSTATE m) 2 else s) s
  if s.fld Fd.PAI_FED_STAT_FSTATE = 1 then
    let l := (s.coordinator.bind s.member?).elim run (fun x => x.ann.lrun.toNat)
    if s.fld Fd.PAI_LVL_MIN ≤ l ∧ l ≤ s.fld Fd.PAI_LVL_MAX then
      let back := s.fed.mem.any (fun x => x.2.ann.adopted.any (fun (r : AdoptRow) => r.m.val == s.myId))
      let s := if back then s.wr Reg.PLN_PSEQ (s.rd Reg.PLN_PSEQ + 65536) else s
      let s := (s.set Fd.PAI_FED_STAT_FSTATE 2).set Fd.PAI_LVL_RUN l
      (s.setFed { s.fed with allocAt := some s.clk.now }).raise Fd.PAI_FED_EVT_JOINED noObj []
    else s
  else s

/-- A federation barrier fires (R490, R492): the epoch advances, members join, a resync is made, and the action is done. -/
def State.fedFire (s : State) (id action arg : Nat) : State :=
  let s := s.setFed { s.fed with bars := s.fed.bars.filter (fun x => x.msg.id.val != id) }
  let s := if s.fed.resync then s.resyncNow else s
  let s := (s.wr Reg.PAI_FEPOCH (s.rd Reg.PAI_FEPOCH + 1)).joinAll
  let s :=
    if action = actLevelSet then (s.set Fd.PAI_LVL_RUN arg).raise Fd.PAI_FED_EVT_LEVEL noObj [arg]
    else if action = actAdopt then s.adoptNow
    else s
  s.judgeFed

/-! ### What has run out -/

/-- What has run out in the federation by the end of a tick and no command has ended (log entry 90): members (R502), the coordinator's
time (R504), adoptions (R509), barriers (R492), ALLOCs (R505), the resync (R492), and what is sent at intervals (R502, R510). -/
def State.fedRunOut (s : State) : State :=
  if ¬ s.on Fd.PAI_FED_CTRL_EN then s else
  let s := (s.fed.mem.map (·.1)).foldl (fun (s : State) m => s.loseMember m) s
  let s := s.assumeCoord
  let s := (s.fed.lostAt.map (·.1) ++ s.fed.backAt.map (·.1)).foldl (fun (s : State) m => s.proposeAdopt m) s
  let s := (s.fed.bars.map (fun x => x.msg.id.val)).foldl (fun (s : State) id => (s.confirmBar id).unconfirmBar id) s
  s.allocDue.staleAlloc.resyncDue.announceDue.rowMapDue.redirectDue

end Sys2Proof.Machine
end

