-- ==== Sys2Proof/Machine/Actions.lean ====
section
/-! DEFINITION. What the action table does when a trigger is reached (R88 to R96): the actions of Table 4 of chapter 02, barriers (R97, R98,
R490), jumps of the sample index (R74, R77, R96) and steps of module time (R61, R95), and the sealing of the frame packet (R90, R33). -/

namespace Sys2Proof.Machine

/-! ### Barriers -/

/-- Whether a barrier that fires now by wire time is DEGRADED (R98). -/
def State.degraded (s : State) : Bool := s.fld Fd.TIM_STAT_SERVO != 2 || decide (25 < s.errEst.toNat)

/-- The effect of a pair barrier's action (R490): the barrier is no longer under agreement. -/
def State.pairFire (s : State) (id action arg : Nat) : State :=
  let s := s.setPair { s.pair with bars := s.pair.bars.filter (fun x => x.msg.id.val != id) }
  if action = actRoleSwap then s.swapAct
  else if action = actLevelSet then (s.set Fd.PAI_PLVL_RUN arg).raise Fd.PAI_EVT_LEVEL noObj [arg]
  else if action = actLockstep then s.lsBegin
  else s

/-- A BARRIER entry executes (R490, R97, R98): its register counts the firing, and the action is done. A firing that is DEGRADED, and every
MARK, writes a BARRIER record (R551). -/
def State.fireBarrier (s : State) (id : Nat) (deg : Bool) : State :=
  let note (s : State) (action arg : Nat) : State :=
    s.occur 0x3C6 id [action, if deg then 1 else 0, s.clk.sidx.toNat % 2 ^ 32, s.clk.sidx.toNat / 2 ^ 32, arg]
  if 15 < id then (if deg then note s actNone 0 else s).raise Fd.PAI_EVT_BAR_NONE noObj [id] else
  let action := s.fld (Fd.BAR_CFG_ACTION id)
  let arg := s.fld (Fd.BAR_CFG_ARG id)
  let scope := s.fld (Fd.BAR_CFG_SCOPE id)
  let s := (s.wrap (Fd.BAR_STAT_FIRED id)).wr (Reg.BAR_LAST id) (s.clk.sidx.setWidth 32)
  let s := if action = actMark ∨ deg then note s action arg else s
  let s := if action = actNone then s.raise Fd.PAI_EVT_BAR_NONE noObj [id] else s
  if scope = 1 then s.fedFire id action arg else s.pairFire id action arg

/-! ### Firing -/

/-- The mark of an entry that is due by a jump or a step, in the table of lateness, whose true values lie below 2^32 (R95, R96). -/
def steppedMark : Nat := 2 ^ 32

/-- The reason an entry ends with when it fires (Table 7): 5 STEPPED, 4 DEGRADED, 0 otherwise. -/
def State.fireReason (s : State) (n : Nat) : Nat :=
  let t := s.trigger n
  if Tab.find s.act.late n = some steppedMark then 5
  else if t.kind = 6 ∧ t.trig = 2 ∧ s.degraded then 4 else 0

/-- An entry ends FIRED, with its lateness counted (R93); an EVERY entry stays ARMED for its next step (R83). -/
def State.endFired (s : State) (n : Nat) : State :=
  let t := s.trigger n
  let r := s.fireReason n
  let s := match Tab.find s.act.late n with
    | some l => if l = steppedMark then s else (s.wr (Reg.AE_LATE n) (BitVec.ofNat 32 l)).count Reg.TIM_ACT_CNT_LATEX
    | none => s
  if t.trig = 3 ∧ t.every then
    { s with act := { s.act with every := s.act.every.put n (nextCrossing (s.job t.job) t.angle), late := s.act.late.del n } }
  else s.endEntry n 2 r

/-- Whether a BARRIER entry is a federation barrier's without CONFIRM, which does not fire (R492). -/
def State.unconfirmed (s : State) (n : Nat) : Bool := s.fed.bars.any (fun x => x.entry == some n && !x.confirmed)

/-- An entry of any kind but SETPOINT executes (Table 4). -/
def State.fireEntry (s : State) (n : Nat) : State :=
  let t := s.trigger n
  let a0 := s.rd (Reg.AE_ARG0 n)
  let a1 := s.rd (Reg.AE_ARG1 n)
  let deg := t.trig == 2 && s.degraded
  if t.kind = 6 ∧ s.unconfirmed n then s.dropFedBar a0.toNat else
  let s := s.endFired n
  match t.kind with
  | 1 => s.planEmit a0.toNat
  | 3 => s.warmhold (fieldOf a0 0 8) a1.toNat
  | 4 => s.snapshot
  | 5 => s.occur 0x3C2 n [a0.toNat]
  | 6 => s.fireBarrier a0.toNat deg
  | _ => s

/-- A SETPOINT entry fires at a seal tick (R90): the trim of its loop slot. -/
def State.fireSetpoint (s : State) (n : Nat) : State :=
  let slot := fieldOf (s.rd (Reg.AE_ARG0 n)) 0 7
  let v := s.rd (Reg.AE_ARG1 n)
  let s := s.endFired n
  { s with act := { s.act with trims := s.act.trims.put slot v } }

/-- Whether this is a seal tick: tick 80 of a frame (R90). -/
def State.sealTick (s : State) : Bool := s.clk.sidx.toNat % 100 == 80

/-- The ARMED entries that fire in this tick, in commit order (R89): those due, a SETPOINT at a seal tick alone (R90). None fires while the
main die is absent (R91). -/
def State.dueEntries (s : State) : List Nat :=
  if s.mainAbsent then [] else s.act.armed.filter (fun n => s.due n && ((s.trigger n).kind != 2 || s.sealTick))

/-- An entry executes, of any kind (Table 4). -/
def State.fireAny (s : State) (n : Nat) : State := if (s.trigger n).kind = 2 then s.fireSetpoint n else s.fireEntry n

/-- Every entry that fires in this tick, in commit order (R89). One that an earlier of them has ended does not. -/
def State.fireDue (s : State) : State :=
  s.dueEntries.foldl (fun (s : State) n => if s.act.armed.contains n then s.fireAny n else s) s

/-- ACTION_FIRE (R88, R89): entry `n`, due since the edge of its tick, fires when it is the first of the due ones. Entries due at the edge
itself fire with it. -/
def execActionFire (n : Fin 4096) (s : State) : Host.Outcome State Fault Refusal :=
  .next (if s.dueEntries.head? = some n.val then s.fireAny n else s)

/-! ### Jumps and steps -/

/-- An entry is due by a jump or a step (R95, R96): a SETPOINT entry waits for the next seal tick. -/
def State.fireStepped (s : State) (n : Nat) : State :=
  let s := { s with act := { s.act with late := s.act.late.put n steppedMark } }
  if (s.trigger n).kind = 2 then s else s.fireEntry n

/-- The sample index jumps from `p`, that of the last tick, to `new` (R96): entries of the skipped range are handled in commit order. -/
def State.jumpIndex (s : State) (p new : BitVec 64) : State :=
  let s := { s with clk := { s.clk with sidx := new } }
  let hit := s.act.armed.filter (fun n =>
    let t := s.trigger n
    t.trig == 1 && decide (diff64 t.value p > 0) && decide (diff64 new t.value > 0))
  hit.foldl (fun (s : State) n =>
    if ¬ s.act.armed.contains n then s
    else if (s.trigger n).kind = 6 then
      let id := (s.rd (Reg.AE_ARG0 n)).toNat
      let s := s.endEntry n 3 5
      match s.pairBar id with
      | some x => if x.msg.action.val = actRoleSwap then s.abortSwap else s.dropBar id
      | none => s
    else s.fireStepped n) s

/-- The sample index is set to the aligned index at a tick edge, one past the last tick's (R74, R77, R96). -/
def State.takeAligned (s : State) : State :=
  let s := s.jumpIndex (s.clk.sidx - 1) s.aligned
  ((s.set Fd.TIM_STAT_ANCHORED 1).anchor 2).raise Fd.TIM_EVT_ANCHORED noObj []

/-- Whether the sample index is anchored at a tick edge (R74): the servo LOCKED, the tick from module time, and no anchor yet. -/
def State.anchors (s : State) : Bool :=
  s.fld Fd.TIM_STAT_SERVO == 2 && s.fld Fd.TIM_STAT_TICK_SRC == 1 && !s.on Fd.TIM_STAT_ANCHORED

/-- The anchor of a tick edge (R74). -/
def State.anchorNow (s : State) : State := if s.anchors then s.takeAligned else s

/-- TIM_REANCHOR (R77): a write of TIM_CTRL.REANCHOR, acted on at the next tick. -/
def execTimReanchor (w : Fin 8) (s : State) : Host.Outcome State Fault Refusal :=
  .next (s.writeRow w Reg.TIM_CTRL (s.rd Reg.TIM_CTRL ||| 4) true (fun s => { s with clk := { s.clk with reanchor := true } }))

/-- A requested re-anchor at its tick (R77). -/
def State.reanchorNow (s : State) : State :=
  if ¬ s.clk.reanchor then s else
  let s := { s with clk := { s.clk with reanchor := false } }
  if s.fld Fd.TIM_STAT_TICK_SRC ≠ 1 ∨ diff64 s.aligned s.clk.sidx < 0 then s.raise Fd.TIM_EVT_ANCHOR_REFUSED noObj [] else s.takeAligned


/-- Module time is stepped (R61, R95): an anchor is written, and TIME entries inside the skipped interval fire in commit order. -/
def State.stepTime (s : State) (new : BitVec 64) : State :=
  let old := s.clk.mtime
  let s := ({ s with clk := { s.clk with mtime := new } }.anchor 1).raise Fd.TIM_EVT_TIME_STEP noObj []
  if s.mainAbsent then s else
  (s.act.armed.filter (fun n =>
    let t := s.trigger n
    t.trig == 2 && decide (diff64 t.value old > 0) && decide (diff64 new t.value > 0))).foldl (fun (s : State) n =>
      if s.act.armed.contains n then s.fireStepped n else s) s

/-- Whether an instance takes a Sync (R60): from its master, in its domain and transport, with a path delay by its delay mechanism, at an
interval from 2^-7 s to 1 s. -/
def State.takesSync (s : State) (net : Net) (port : Nat) (m : PtpSync) : Bool :=
  s.portTakesPtp net port && s.takesHead net m.head && fieldOf (s.rd (ptpWord net)) 1 1 == (if m.peer then 1 else 0) &&
  decide (-7 ≤ m.head.logInterval) && decide (m.head.logInterval ≤ 0) && (s.ptp net).master == some (masterKey port m.head.sender)

/-- The servo slews module time at a rate of its own, within ±200 ppm (R61, log entry 37). -/
def State.slew (s : State) : State :=
  let p := s.free
  { p.2 with servo := { p.2.servo with rate := ((p.1 % 400001 : Nat) : Int) - 200000 } }

/-- PTP_SYNC (R61 to R65, R95): an offset of an instance; the servo slews, and in ACQUIRE an offset above 1 ms steps module time once. The
servo's error estimate and its rate inside ±200 ppm are not given by the spec: both are free (log entry 37). -/
def execPtpSync (net : Net) (port : Fin 8) (m : PtpSync) (t1 t2 : BitVec 64) (s : State) : Host.Outcome State Fault Refusal :=
  .next (
    let s := s.countPtp net port
    if ¬ s.takesSync net port m then s else
    let o := syncOffset s net port t1 t2 m.pathDelay
    let s := (s.setPtp net ((s.ptp net).sync o)).servoJudge
    if s.selected ≠ net then s else
    let s := s.wr Reg.TIM_OFS (BitVec.ofInt 32 (clampInt (-2147483647) 2147483647 o))
    match s.fld Fd.TIM_STAT_SERVO with
    | 2 => let p := s.slew.free; p.2.wr Reg.TIM_ERR_EST (BitVec.ofNat 32 p.1)
    | 1 =>
      if ¬ s.servo.stepped ∧ (o > 1000000 ∨ o < -1000000) then
        let p := s.ptp net
        let s := s.setPtp net { p with offset := 0, inside := 0, outside := 0 }
        { s with servo := { s.servo with stepped := true } }.stepTime (s.clk.mtime - BitVec.ofInt 64 o)
      else s.slew
    | _ => s)

/-! ### The packet -/

/-- An entry of a frame packet (R33). -/
def packetEntry (p : Nat × Int) : List Byte :=
  beBytes 1 (p.1 / 4) ++ beBytes 1 (p.1 % 4) ++ beBytes 2 0 ++ beBytes 4 (patternOf 32 p.2)

/-- The bytes of a frame packet (R33, Table 5 of chapter 01). -/
def packetBytes (level tag seq : Nat) (entries : List (Nat × Int)) : List Byte :=
  let b := beBytes 1 level ++ beBytes 1 0 ++ beBytes 2 entries.length ++ beBytes 8 tag ++ beBytes 4 seq ++ beBytes 4 0 ++ entries.flatMap packetEntry
  b ++ beBytes 4 (crc32 b)

/-- The entries of the packet to be sealed (R88, R90): those of the frame's run, and the setpoint trims. There is none where the frame's run was
abandoned (R173) or no frame program is active (R170). -/
def State.packetEntries (s : State) : Option (List (Nat × Int)) :=
  (if s.frameActive then s.ice.last.map (fun o => o.pkt) else none).map (fun p => (s.act.trims.foldl (fun (t : Tab Int) (x : Nat × Word) => t.put (4 * x.1) x.2.toInt) p).take 384)

/-- PACKET_SEAL (R90): at tick 80 the entries still due fire in commit order, SETPOINT entries among them, and the main die seals the packet
for the next boundary, tagged with the sample index of its frame. A warm standby sends none (R475). -/
def execPacketSeal (s : State) : Host.Outcome State Fault Refusal :=
  .next (if ¬ s.mainRuns ∨ ¬ s.sealTick then s else
    let s := s.fireDue
    match s.packetEntries with
    | none => s
    | some l =>
      if s.fld Fd.PAI_STAT_ROLE = 2 then s else
      let seq := s.act.sealed + 1
      { s with act := { s.act with sealed := seq } }.send
        (.frame .packet ((packetBytes s.pairLevel (s.clk.sidx.toNat - 80) seq.toNat l).map BitVec.toNat)))

end Sys2Proof.Machine
end

