-- ==== Sys2Proof/Machine/Security.lean ====
section
/-! DEFINITION. Keys, boot and attestation (chapter 13): leaf state and AK renewal (R528 to R531), sessions (R536 to R539), peer exchanges
and send keys (R541 to R543), attestation (R544), enrolment and program keys (R532 to R535), and firmware commands (R526, R527). The
cryptographic functions are the constants of log entry 7. -/

namespace Sys2Proof.Machine

/-! ### Signing keys -/

def dikLeaves : Nat := 1024

/-- The leaf state of AK-M (1) or AK-P (2). -/
def State.leaves (s : State) (h : Nat) : Leaves := if h = 1 then s.sec.akm else s.sec.akp
def State.setLeaves (s : State) (h : Nat) (x : Leaves) : State :=
  if h = 1 then { s with sec := { s.sec with akm := x } } else { s with sec := { s.sec with akp := x } }

/-- The generation of an attestation key (SEC_AK_GEN). -/
def genField (h : Nat) : Fld := if h = 1 then Fd.SEC_AK_GEN_AKM else Fd.SEC_AK_GEN_AKP
def State.generation (s : State) (h : Nat) : Nat := s.fld (genField h)

/-- The public key of a holder, and its certificate by the DIK (R531). -/
def State.akPub (s : State) (h : Nat) : List Byte := Config.publicKey h (s.generation h)
def State.akCert (s : State) (h : Nat) : List Byte := Config.dikCert (s.akPub h)
def dikPub : List Byte := Config.publicKey 0 0

/-- A new AK, certified with the next DIK leaf (R529, R531); none while no DIK leaf remains. -/
def State.renewAk (s : State) (h : Nat) : Option State :=
  let used := s.fld Fd.SEC_DIK_USED_N
  if dikLeaves ≤ used then none else
  let s := (s.set Fd.SEC_DIK_USED_N (used + 1)).setB Fd.SEC_STAT_DIK_EXHAUSTED (decide (used + 1 = dikLeaves))
  some (((s.setLeaves h ⟨0, 0⟩).wrap (genField h)).raise Fd.SEC_EVT_AK_RENEWED noObj [h])

/-- A leaf is reserved and used (R528): LIMIT is written 1,024 further before leaf NEXT = LIMIT is used. KEY_LOW is set as fewer than
65,536 leaves remain, and the AK is renewed when none is left (R531). -/
def State.useLeaf (s : State) (h : Nat) : State :=
  let x := s.leaves h
  let s := s.setLeaves h ⟨x.next + 1, if x.next = x.limit then x.limit + 1024 else x.limit⟩
  let s := if akLeaves - (x.next + 1) < 65536 ∧ ¬ akLeaves - x.next < 65536 then s.raise Fd.SEC_EVT_KEY_LOW noObj [h] else s
  if akLeaves ≤ x.next + 1 then (s.renewAk h).getD s else s

/-- The state in which an AK can sign: renewed where it has no leaf left; none where it cannot be (R531). -/
def State.readyAk (s : State) (h : Nat) : Option State := if (s.leaves h).next < akLeaves then some s else s.renewAk h

/-- The leaf an AK signs with next, among those of all its generations. -/
def State.nextLeaf (s : State) (h : Nat) : Nat := s.generation h * akLeaves + (s.leaves h).next

/-- A failed authentication (R537, R539): counted and told. -/
def State.authFail (s : State) : State := (s.count Reg.SEC_CNT_AUTHFAIL).raise Fd.SEC_EVT_AUTH_FAIL noObj []

/-! ### Enrolment -/

/-- The committed EN_MASTER word of an enrolment entry, and its committed public key (R532). -/
def State.enrolWord (s : State) (n : Nat) : Word := (Tab.find s.sec.enr n).elim 0 (fun x => x.1)
def State.enrolPub (s : State) (n : Nat) : List Byte := (Tab.find s.sec.enr n).elim (List.replicate 56 0) (fun x => x.2)

/-- The master number of an enrolment entry, and its priorities by domain. -/
def State.enrolNum (s : State) (n : Nat) : Nat := fieldOf (s.enrolWord n) 0 16
def State.enrolPrio (s : State) (n : Nat) : List Nat := (List.range 4).map (fun d => fieldOf (s.enrolWord n) (16 + 4 * d) 4)

/-- The valid enrolment entry of a master number. -/
def State.enrolled (s : State) (master : Nat) : Option Nat :=
  (List.range 64).find? (fun n => s.on (Fd.EN_CFG_VALID n) && s.enrolNum n == master)

/-- The 56 bytes of a public key as written from a word on. -/
def State.keyAt (s : State) (a : Nat) : List Byte := (List.range 14).flatMap (fun j => wordBytes (s.rd (a + 4 * j)))

/-- An entry's EN_MASTER and key are committed as they have been written (R532). -/
def State.commitEntryOf (s : State) (n : Nat) : State :=
  { s with sec := { s.sec with enr := s.sec.enr.put n (s.rd (Reg.EN_MASTER n), s.keyAt (Reg.EN_PUB n 0)) } }

def State.owned (s : State) : Bool := (List.range 64).any (fun n => s.on (Fd.EN_CFG_VALID n))

/-- The words that 56 bytes of a key make. -/
def State.writeKey (s : State) (a : Nat) (key : List Byte) : State :=
  ((List.range 14).zip (leWords key)).foldl (fun (s : State) p => s.wr (a + 4 * p.1) p.2) s

/-- The first enrolment (R534): entry 0, master number 0, every role and priority 15 in every domain. -/
def State.enrolFirst (s : State) (key : List Byte) : State :=
  let s := ((s.wr (Reg.EN_CFG 0) 0x8000007F).wr (Reg.EN_MASTER 0) 0xFFFF0000).writeKey (Reg.EN_PUB 0 0) key
  ((s.commitEntryOf 0).set Fd.SEC_STAT_OWNED 1).raise Fd.SEC_EVT_ENROL 0 []

/-- Whether a commit of an enrolment entry is no reserved encoding (R532): a valid entry with SERVICE remains, and the master number is
unique among the valid entries. -/
def State.enrolOk (s : State) (n : Nat) (v : Word) : Bool :=
  let valid (m : Nat) : Bool := if m = n then fieldOf v 31 1 == 1 else s.on (Fd.EN_CFG_VALID m)
  let roles (m : Nat) : Nat := if m = n then fieldOf v 0 7 else s.fld (Fd.EN_CFG_ROLES m)
  (List.range 64).any (fun m => valid m && bitOf (roles m) roleService) &&
  (fieldOf v 31 1 == 0 || (List.range 64).all (fun m => m == n || !valid m || s.enrolNum m != s.fld (Fd.EN_MASTER_NUM n)))

/-- The slots in use by a master. -/
def State.slotsOf (s : State) (master : Nat) : List Nat :=
  (List.range 8).filter (fun k => s.fld (Fd.SS_STAT_STATE k) != 0 && s.fld (Fd.SS_STAT_MASTER k) == master)

/-- A slot in OPENING is freed. -/
def State.closeOpening (s : State) (k : Nat) : State :=
  ((((s.wr (Reg.SS_STAT k) 0).wr (Reg.SS_ID k) 0).wr (Reg.SS_ROLES k) 0).wr (Reg.SS_LEVEL k) 0).delSess k

/-- A commit of an enrolment entry (R532, R533): an entry that is cleared, or goes to another master number, ends its master's sessions; a
removed role releases the domains held under it. -/
def State.enrol (s : State) (n : Nat) (v : Word) : State :=
  let master := s.enrolNum n
  let was := s.on (Fd.EN_CFG_VALID n)
  let s := (s.wr (Reg.EN_CFG n) (v &&& 0x8000007F)).commitEntryOf n
  let s := if ¬ was then s
    else if fieldOf v 31 1 = 0 ∨ s.enrolNum n ≠ master then
      (s.slotsOf master).foldl (fun (s : State) k => if s.sessOpen k then s.endSession k else s.closeOpening k) s
    else
      (s.slotsOf master).foldl (fun (s : State) k =>
        let s := s.wr (Reg.SS_ROLES k) (BitVec.ofNat 32 (fieldOf v 0 7))
        (List.range 4).foldl (fun (s : State) d => if s.holder d = some k ∧ ¬ bitOf (fieldOf v 0 7) (domainRole d) then s.freeDomain d else s) s) s
  (s.setB Fd.SEC_STAT_OWNED s.owned).raise Fd.SEC_EVT_ENROL n []

/-- ENROL_COMMIT (R532): a write of EN_CFG. -/
def execEnrolCommit (w : Fin 8) (n : Fin 64) (value : Word) (s : State) : Host.Outcome State Fault Refusal :=
  .next (s.writeRow w (Reg.EN_CFG n) value (s.enrolOk n value) (fun s => s.enrol n value))

/-- A write of PK_CFG (R535) commits the entry with its key as written. Verified slots stay loaded. -/
def State.programKey (s : State) (k : Nat) (v : Word) : State :=
  let s := s.wr (Reg.PK_CFG k) (v &&& 0x80000000)
  { s with sec := { s.sec with pkey := s.sec.pkey.put k (s.keyAt (Reg.PK_PUB k 0)) } }.raise Fd.SEC_EVT_ENROL k []

/-- PROGRAM_KEY_COMMIT (R535). -/
def execProgramKeyCommit (w : Fin 8) (k : Fin 16) (value : Word) (s : State) : Host.Outcome State Fault Refusal :=
  .next (s.writeRow w (Reg.PK_CFG k) value true (fun s => s.programKey k value))

/-! ### Sessions -/

/-- The signed part of a SESS_OPEN request, and its whole payload (Table 3, R542). -/
def sessSigned (p : SessOpen) : List Byte :=
  beBytes 2 p.master.toNat ++ [p.flags, p.moduleId] ++ p.nonce ++ p.ek
def sessPayload (p : SessOpen) : List Byte :=
  sessSigned p ++ beBytes 4 p.sig.length ++ p.sig ++ p.pub ++ p.akpPub ++ p.dikPub ++ p.akpCert

/-- The first wrong length or reserved field of a SESS_OPEN, by its offset (R537 step 1), then MODULE (step 2). -/
def State.sessOpenBad (s : State) (p : SessOpen) : Option Nat :=
  let boot := p.flags.getLsbD 0
  let peer := p.flags.getLsbD 1
  if p.level.toNat < s.fld Fd.SYS_LVL_ZH_MIN ∨ s.fld Fd.SYS_LVL_ZH_MAX < p.level.toNat then some 0
  else if 4 ≤ p.flags.toNat ∨ (boot ∧ peer) then some 2
  else if p.nonce.length ≠ 32 ∨ p.ek.length ≠ 1184 ∨ p.pub.length ≠ (if boot then 56 else 0) ∨
    p.akpPub.length ≠ (if peer then 56 else 0) ∨ p.dikPub.length ≠ (if peer then 56 else 0) ∨ p.akpCert.length ≠ (if peer then 2508 else 0) then some 0
  else if p.moduleId.toNat ≠ s.sys.straps.moduleId.val then some 3 else none

/-- The hash a valid SEC_PEER entry holds. -/
def State.peerHash (s : State) (j : Nat) : List Byte := (List.range 8).flatMap (fun i => wordBytes (s.rd (Reg.PR_HASH j i)))

/-- Whether a peer's DIK is the one trusted (R542). -/
def State.peerTrusted (s : State) (j : Nat) (dik : List Byte) : Bool :=
  decide (j < 128) && s.on (Fd.PR_CFG_VALID j) && Config.sha256 dik == s.peerHash j

/-- Whether the initiator of a SESS_OPEN is known (R537 step 3, R534, R542). -/
def State.initiatorKnown (s : State) (p : SessOpen) : Bool :=
  if p.flags.getLsbD 1 then s.peerTrusted p.master.toNat p.dikPub
  else if p.flags.getLsbD 0 then !s.owned && s.sys.straps.enrol
  else (s.enrolled p.master.toNat).isSome

/-- Whether its signature holds (R537 step 4), with the certificate of a peer's AK-P under its DIK. -/
def State.initiatorSigned (s : State) (p : SessOpen) : Bool :=
  let key := if p.flags.getLsbD 1 then p.akpPub else if p.flags.getLsbD 0 then p.pub
    else (s.enrolled p.master.toNat).elim [] s.enrolPub
  lmsOk key (sessSigned p) p.sig && (!p.flags.getLsbD 1 || lmsOk p.dikPub p.akpPub p.akpCert)

/-- The free session slot, lowest first (R408). -/
def State.freeSession (s : State) : Option Nat := (List.range 8).find? (fun k => s.fld (Fd.SS_STAT_STATE k) == 0)

/-- The three keys of an exchange (R539): 32 bytes each, from the shared secret, the nonces and the transcript. -/
def exchangeKeys (k nonceM nonceD t : List Byte) : List Byte × List Byte × List Byte :=
  let b := Config.hkdf k (nonceM ++ nonceD) t 96
  (b.take 32, (b.drop 32).take 32, (b.drop 64).take 32)

/-- What a fresh draw of random bytes gives. -/
def State.random (s : State) (n : Nat) : List Byte × State := (Config.randomBytes s.fresh n, { s with fresh := s.fresh + 1 })

/-- A session ID, never 0 and never reused since power-up (R538). -/
def State.newSession (s : State) : Nat × State :=
  let n := s.zh.lastSession % 0xFFFFFFFF + 1
  (n, { s with zh := { s.zh with lastSession := n } })

/-- The numbers of a byte string. -/
def natsOf (bs : List Byte) : List Nat := bs.map BitVec.toNat

/-- A SESS_OPEN that has passed every check is answered (R538): the ciphertext, the keys of this module and the signature; the slot enters
OPENING, or the exchange with a peer is kept. -/
def State.sessAccept (s : State) (q : Plain) (p : SessOpen) : State :=
  match s.readyAk 2 with
  | none => s.sendPlain q p.level.toNat 0x02 0x40 0 []
  | some s =>
    let id := s.newSession
    let r := id.2.random 32
    let kem := Config.kemEncaps r.2.fresh p.ek
    let s := { r.2 with fresh := r.2.fresh + 1 }
    let body := beBytes 4 id.1 ++ r.1 ++ kem.2 ++ s.akPub 2 ++ dikPub ++ s.akCert 2
    let t := Config.sha256 (sessPayload p ++ body)
    let sig := Config.lmsSign 2 (s.nextLeaf 2) t
    let s := s.useLeaf 2
    let k := exchangeKeys kem.1 p.nonce r.1 t
    let s :=
      if p.flags.getLsbD 1 then
        let x : Exchange := ⟨BitVec.ofNat 32 id.1, k.1, k.2.1, k.2.2, t⟩
        { s with sec := { s.sec with responding := s.sec.responding.put p.master.toNat x } }
      else
        match s.freeSession, s.enrolled p.master.toNat with
        | some c, some n =>
          let s := ((s.wr (Reg.SS_STAT c) (BitVec.ofNat 32 (1 + 65536 * p.master.toNat))).wr (Reg.SS_ID c) (BitVec.ofNat 32 id.1)).wr (Reg.SS_ROLES c)
            (BitVec.ofNat 32 (s.fld (Fd.EN_CFG_ROLES n)))
          let s := s.wr (Reg.SS_LEVEL c) (BitVec.ofNat 32 p.level.toNat)
          s.setSess c { Session.none with
            prio := s.enrolPrio n, openedAt := s.clk.now, keyIn := k.1, keyOut := k.2.1, keyConf := k.2.2, transcript := t }
        | _, _ => s
    s.sendPlain q p.level.toNat 0x02 0 0 (natsOf (body ++ sig))

/-- SESS_OPEN (R537): the checks in their order, each failure answered. -/
def execSessOpen (c : Came) (tag : Word) (mbox : Fin 16) (p : SessOpen) (s : State) : Host.Outcome State Fault Refusal :=
  let q := c.plain tag mbox
  .next (s.takePlain q (fun s =>
    let l := p.level.toNat
    match s.sessOpenBad p with
    | some o => s.sendPlain q l 0x02 0x21 o []
    | none =>
      if ¬ s.initiatorKnown p then (s.authFail.violate q.src).sendPlain q l 0x02 0x40 0 []
      else if ¬ s.initiatorSigned p then (s.authFail.violate q.src).sendPlain q l 0x02 0x21 1224 []
      else
        let boot := p.flags.getLsbD 0
        let s := if boot then s.enrolFirst p.pub else s
        if ¬ p.flags.getLsbD 1 ∧ s.freeSession.isNone then (s.count Reg.NET_CNT_BUSY).sendPlain q l 0x02 0x12 0 []
        else s.sessAccept q (if boot then { p with master := 0 } else p)))

/-- The nonce under which a send key travels (R540, R542): direction, network byte 0x00, two zero bytes and SEQ 0. -/
def keyNonce (dir : Byte) : List Byte := dir :: List.replicate 11 0

/-- The slot in OPENING that a SESS_KEY names. -/
def State.openingSlot (s : State) (session : Word) : Option Nat :=
  (List.range 8).find? (fun k => s.fld (Fd.SS_STAT_STATE k) == 1 && s.rd (Reg.SS_ID k) == session)

/-- A peer's send key is taken; the previous one is kept for the time of R543. -/
def State.takePeerKey (s : State) (j : Nat) (key : List Byte) : State :=
  let old := match Tab.find s.sec.peerKeys j with
    | some k => s.sec.peerOld.put j (k, s.clk.now + sTicks 1)
    | none => s.sec.peerOld
  { s with sec := { s.sec with peerKeys := s.sec.peerKeys.put j key, peerOld := old } }

/-- The send key that an exchange delivers: the new one while a renewal is under way (R543). -/
def State.keyToSend (s : State) : List Byte := s.sec.sendNext.getD s.sec.sendKey

/-- A peer has confirmed; with the last one the new send key is in use (R543). -/
def State.peerConfirmed (s : State) (j : Nat) : State :=
  let rest := s.sec.awaiting.filter (· != j)
  let sec := { s.sec with awaiting := rest }
  match s.sec.sendNext, rest with
  | some k, [] => { s with sec := { sec with sendKey := k, sendNext := none } }
  | _, _ => { s with sec := sec }

/-- SESS_KEY (R539, R542): a right CONF_M opens the slot, or completes a peer exchange; a wrong one frees it. -/
def execSessKey (c : Came) (tag : Word) (mbox : Fin 16) (session : Word) (conf peerKey : List Byte) (s : State) : Host.Outcome State Fault Refusal :=
  let q := c.plain tag mbox
  .next (s.takePlain q (fun s =>
    let l := s.fld Fd.SYS_LVL_ZH_MAX
    match s.openingSlot session with
    | some k =>
      let x := s.sess k
      if conf = Config.hmac x.keyConf (0x4D :: x.transcript) then
        let s := (s.set (Fd.SS_STAT_STATE k) 2).setSess k { x with lastRx := s.clk.now }
        let s := ((s.bump Fd.NET_STAT_SESSIONS).count Reg.SEC_CNT_SESSOPEN).raise Fd.NET_EVT_SESS_OPEN k []
        s.sendPlain q (fieldOf (s.rd (Reg.SS_LEVEL k)) 0 8) 0x03 0 0 (natsOf (Config.hmac x.keyConf (0x44 :: x.transcript)))
      else (s.authFail.closeOpening k).sendPlain q l 0x03 0x21 8 []
    | none =>
      match s.sec.responding.find? (fun p => p.2.session == session) with
      | some (j, x) =>
        let s := { s with sec := { s.sec with responding := s.sec.responding.del j } }
        match (if conf = Config.hmac x.keyConf (0x4D :: x.transcript) then Config.gcmOpen x.keyIn (keyNonce 0) [] peerKey else none) with
        | some key =>
          let own := Config.gcmSeal x.keyOut (keyNonce 1) [] s.keyToSend
          ((s.takePeerKey j key).peerConfirmed j).sendPlain q l 0x03 0 0 (natsOf (Config.hmac x.keyConf (0x44 :: x.transcript) ++ own))
        | none => s.authFail.sendPlain q l 0x03 0x21 8 []
      | none => s.sendPlain q l 0x03 0x21 0 []))

/-! ### Peer exchanges -/

/-- This module's number among the peers: module ID × 2 + slot. -/
def State.peerNumber (s : State) : Nat := 2 * s.sys.straps.moduleId.val + s.sys.straps.slot.val

/-- The peers trusted. -/
def State.peers (s : State) : List Nat := (List.range 128).filter (fun j => j != s.peerNumber && s.on (Fd.PR_CFG_VALID j))

/-- An exchange with a peer begins (R542): SESS_OPEN with PEER = 1, signed by AK-P. -/
def State.openPeer (s : State) (j : Nat) : State :=
  match s.readyAk 2 with
  | none => s
  | some s =>
    let nonce := s.random 32
    let ek := nonce.2.random 1184
    let s := ek.2
    let signed := beBytes 2 s.peerNumber ++ [2, BitVec.ofNat 8 (j / 2)] ++ nonce.1 ++ ek.1
    let sig := Config.lmsSign 2 (s.nextLeaf 2) signed
    let payload := signed ++ beBytes 4 sig.length ++ sig ++ s.akPub 2 ++ dikPub ++ s.akCert 2
    let s := s.useLeaf 2
    let x : Exchange := ⟨0, [], [], [], payload⟩
    { s with sec := { s.sec with opening := s.sec.opening.put j x } }.send (.frame .peerOpen (j :: natsOf payload))

/-- Exchanges with every peer: this module opens those with peers of a higher number, and waits for those of a lower one (R543). -/
def State.startExchanges (s : State) : State :=
  let s := { s with sec := { s.sec with awaiting := s.peers } }
  (s.peers.filter (fun j => decide (s.peerNumber < j))).foldl (fun (s : State) j => s.openPeer j) s

/-- Every 24 h, and whenever a SEQ has passed 2^31, a new send key is drawn and delivered to every peer (R543). -/
def State.renewSend (s : State) : State :=
  if s.portAbsent ∨ s.sec.sendNext.isSome ∨ ¬ (s.sec.sendAt + sTicks 86400 ≤ s.clk.now ∨ 0 < s.sec.crossed) then s else
  let r := s.random 32
  let s := { r.2 with sec := { r.2.sec with sendNext := some r.1, sendAt := r.2.clk.now, crossed := 0 } }
  let s := s.startExchanges
  if s.sec.awaiting.isEmpty then s.peerConfirmed 128 else s

/-- SEND_KEY_RENEW (R543). -/
def execSendKeyRenew (s : State) : Host.Outcome State Fault Refusal := .next s.renewSend

/-- PEER_EXCHANGE_RESPONSE (R542): the initiator checks the responder's DIK, certificate and signature and sends SESS_KEY with its send key;
with the answer to that it checks CONF_D and takes the peer's key. -/
def execPeerExchangeResponse (peer : Fin 128) (p : PeerResponse) (s : State) : Host.Outcome State Fault Refusal :=
  .next (
    if s.portAbsent then s else
    match Tab.find s.sec.opening peer with
    | none => s
    | some x =>
      match p with
      | .opened session nonceD ct akpPub dik akpCert sig =>
        let t := Config.sha256 (x.transcript ++ beBytes 4 session.toNat ++ nonceD ++ ct ++ akpPub ++ dik ++ akpCert)
        if x.session ≠ 0 then s
        else if s.peerTrusted peer dik ∧ lmsOk dik akpPub akpCert ∧ lmsOk akpPub t sig then
          let k := exchangeKeys (Config.kemDecaps ct) ((x.transcript.drop 4).take 32) nonceD t
          let y : Exchange := ⟨session, k.1, k.2.1, k.2.2, t⟩
          let s := { s with sec := { s.sec with opening := s.sec.opening.put peer y } }
          s.send (.frame .peerKey (peer :: session.toNat :: natsOf (Config.hmac k.2.2 (0x4D :: t) ++ Config.gcmSeal k.1 (keyNonce 0) [] s.keyToSend)))
        else { s with sec := { s.sec with opening := s.sec.opening.del peer } }.authFail
      | .keyed confD sealedKey =>
        let s := { s with sec := { s.sec with opening := s.sec.opening.del peer } }
        match (if x.session ≠ 0 ∧ confD = Config.hmac x.keyConf (0x44 :: x.transcript) then Config.gcmOpen x.keyOut (keyNonce 1) [] sealedKey else none) with
        | some key => (s.takePeerKey peer key).peerConfirmed peer
        | none => s.authFail)

/-! ### Firmware -/

/-- The image in a firmware slot: part p, slot 0 A or 1 B (R523). -/
def State.fwImage (s : State) (p slot : Nat) : List Byte := (Tab.find s.sec.fwImages (2 * p + slot)).getD (Config.factoryImage (2 * p + slot))

/-- The state of a firmware slot: 0 EMPTY, 1 VALID, 2 TRIAL, 3 GOOD, 4 BAD (R523). -/
def fwState (p slot : Nat) : Fld := if slot = 0 then Fd.FW_SLOT_STATE_A p else Fd.FW_SLOT_STATE_B p
def State.fwStat (s : State) (p slot : Nat) : Nat := s.fld (fwState p slot)

/-- The slot of a part in a state, A first. -/
def State.fwSlot (s : State) (p st : Nat) : Option Nat := (List.range 2).find? (fun b => s.fwStat p b == st)

/-- The slot of a part that is not GOOD; without a GOOD slot the one that does not run (R526). -/
def State.fwSpare (s : State) (p : Nat) : Nat :=
  match s.fwSlot p 3 with
  | some g => 1 - g
  | none => 1 - s.fld (Fd.FW_SLOT_RUN p)

/-- Fields of an image's header (R521). -/
def fwSvn (bs : List Byte) : Nat := beAt bs 8 4
def fwVersion (bs : List Byte) : Nat := beAt bs 12 4

/-- The result of verifying an image for a part (R522, R526): 2 FORMAT, 3 PART, 4 SIGNATURE, 5 ROLLBACK, 1 OK. -/
def State.fwVerify (s : State) (p : Nat) (bs : List Byte) : Nat :=
  if bs.length < 36 ∨ beAt bs 0 4 ≠ 0xAD7EF1A0 ∨ 2 < beAt bs 4 1 ∨ beAt bs 6 2 ≠ 0 ∨ beAt bs 24 8 ≠ 0 ∨ 64 < fwSvn bs ∨
     bs.length ≠ 36 + beAt bs 16 8 + beAt bs (32 + beAt bs 16 8) 4 then 2
  else if beAt bs 4 1 ≠ p then 3
  else if ¬ Config.hssVerify bs then 4
  else if fwSvn bs < s.fld (Fd.FW_SVN_FLOOR p) then 5 else 1

/-- The encodings of SEC_FW_CMD reserved across fields (R547): PART 3 with INSTALL, PARTS 0 with the others, OP 0 and 5 to 7. -/
def crossFw (v : Word) : Bool :=
  match fieldOf v 0 3 with
  | 1 => fieldOf v 4 2 != 3
  | 2 | 3 | 4 => fieldOf v 6 3 != 0
  | _ => false

/-- The parts named in PARTS. -/
def partsOf (v : Word) : List Nat := (List.range 3).filter (fun p => bitOf (fieldOf v 6 3) p)

/-- A firmware command has ended with a result. -/
def State.fwDone (s : State) (r : Nat) : State := (s.set Fd.SEC_FW_STAT_RESULT r).raise Fd.SEC_EVT_FW_DONE noObj [r]

/-- ACTIVATE and REVERT (R526): the VALID slot of every named part becomes TRIAL, and the module resets at the next frame boundary. -/
def State.fwTry (s : State) (ps : List Nat) : State :=
  if ps.any (fun p => (s.fwSlot p 1).isNone) then s.fwDone 7 else
  let s := ps.foldl (fun (s : State) p =>
    match s.fwSlot p 1 with
    | some b => (s.set (fwState p b) 2).set (Fd.FW_SLOT_ATTEMPTS p) 0
    | none => s) s
  { s with sys := { s.sys with fwReset := true } }.fwDone 1

/-- COMMIT (R526): fuses are blown until the floor equals the SVN of the GOOD slot; a floor never falls. -/
def State.fwCommit (s : State) (ps : List Nat) : State :=
  let s := ps.foldl (fun (s : State) p =>
    match s.fwSlot p 3 with
    | some b => s.set (Fd.FW_SVN_FLOOR p) (max (s.fld (Fd.FW_SVN_FLOOR p)) (min (fwSvn (s.fwImage p b)) 64))
    | none => s) s
  s.fwDone 1

/-- A write of SEC_FW_CMD (R526). While INSTALL runs a further command is refused BUSY. -/
def State.fwCommand (s : State) (v : Word) : State :=
  if s.on Fd.SEC_FW_STAT_BUSY then s.set Fd.SEC_FW_STAT_RESULT 6 else
  match fieldOf v 0 3 with
  | 1 => { ((s.set Fd.SEC_FW_STAT_BUSY 1).set Fd.SEC_FW_STAT_RESULT 0) with sec := { s.sec with install := some (fieldOf v 4 2, fieldOf v 16 16) } }
  | 2 | 4 => s.fwTry (partsOf v)
  | 3 => s.fwCommit (partsOf v)
  | _ => s

/-- A firmware command row: the write of SEC_FW_CMD with its fields. -/
def State.fwRow (s : State) (w op part parts handle : Nat) : State :=
  let v := BitVec.ofNat 32 (op + 16 * part + 64 * parts + 65536 * handle)
  s.writeRow w Reg.SEC_FW_CMD v (crossFw v) (fun s => s.fwCommand v)

/-- FW_INSTALL (R526). -/
def execFwInstall (w : Fin 8) (part : Fin 4) (handle : BitVec 16) (s : State) : Host.Outcome State Fault Refusal :=
  .next (s.fwRow w 1 part 0 handle.toNat)

/-- FW_INSTALL_DONE (R526): the object is verified and written into the part's slot that is not GOOD, or the first failed check is
reported. An object that does not exist fails FORMAT. -/
def execFwInstallDone (s : State) : Host.Outcome State Fault Refusal :=
  .next (match s.sec.install with
    | none => s
    | some (p, h) =>
      let s := { s with sec := { s.sec with install := none } }.set Fd.SEC_FW_STAT_BUSY 0
      match s.object h 4 with
      | none => s.fwDone 2
      | some o =>
        let bs := o.bytes
        let r := s.fwVerify p bs
        if r ≠ 1 then s.fwDone r else
        let b := s.fwSpare p
        let s := (s.set (fwState p b) 1).wr (if b = 0 then Reg.FW_VERA p else Reg.FW_VERB p) (BitVec.ofNat 32 (fwVersion bs))
        let s := { s with sec := { s.sec with fwImages := s.sec.fwImages.put (2 * p + b) bs }, zh := { s.zh with store := s.zh.store.del h } }
        s.fwDone 1)

/-- FW_ACTIVATE, FW_COMMIT and FW_REVERT (R526). -/
def execFwActivate (w : Fin 8) (parts : Fin 8) (s : State) : Host.Outcome State Fault Refusal := .next (s.fwRow w 2 0 parts 0)
def execFwCommit (w : Fin 8) (parts : Fin 8) (s : State) : Host.Outcome State Fault Refusal := .next (s.fwRow w 3 0 parts 0)
def execFwRevert (w : Fin 8) (parts : Fin 8) (s : State) : Host.Outcome State Fault Refusal := .next (s.fwRow w 4 0 parts 0)

/-- A TRIAL slot becomes GOOD 60 s after its part's ready point; the slot that was GOOD stays as VALID (R525, log entry 94). -/
def State.trialGood (s : State) (part : Nat) : State :=
  let b := s.fld (Fd.FW_SLOT_RUN part)
  if (Tab.find s.sys.readyAt part).any (fun t => decide (t + sTicks 60 ≤ s.clk.now)) ∧ s.fwStat part b = 2 then
    let s := if s.fwStat part (1 - b) = 3 then s.set (fwState part (1 - b)) 1 else s
    (s.set (fwState part b) 3).set (Fd.FW_SLOT_ATTEMPTS part) 0
  else s

/-- FW_TRIAL_GOOD (R525). -/
def execFwTrialGood (part : Fin 3) (s : State) : Host.Outcome State Fault Refusal := .next (s.trialGood part)

/-- What has run out of this chapter by the end of a tick and no command has ended (log entry 90): trials (R525) and the send key (R543). -/
def State.secRunOut (s : State) : State := (((s.trialGood 0).trialGood 1).trialGood 2).renewSend

/-! ### Attestation -/

/-- The part of a report about one die (Table 5): 48 bytes on the running image. -/
def State.partReport (s : State) (p : Nat) : List Byte :=
  let b := s.fld (Fd.FW_SLOT_RUN p)
  let i := s.fwImage p b
  beBytes 1 b ++ beBytes 1 (s.fwStat p b) ++ beBytes 1 (s.fld (Fd.FW_SVN_LEVEL p)) ++ beBytes 1 (s.fld (Fd.FW_SVN_FLOOR p)) ++
  beBytes 4 (s.fld (Fd.FW_SVN_SVN p)) ++ beBytes 4 (s.rd (if b = 0 then Reg.FW_VERA p else Reg.FW_VERB p)).toNat ++ beBytes 4 0 ++ Config.sha256 i

/-- PROG and ENROL of a report (Table 5). -/
def State.progHash (s : State) : List Byte :=
  Config.sha256 ((List.range 16).flatMap (fun k => match s.slotImg k with | some g => g.hash | none => List.replicate 32 0))
def State.enrolHash (s : State) : List Byte :=
  Config.sha256 ((List.range 64).flatMap (fun n => wordBytes (s.rd (Reg.EN_CFG n)) ++ wordBytes (s.enrolWord n) ++ s.enrolPub n))

/-- Bytes 0 to 2,947 of the report (Table 5 of chapter 13). -/
def State.report (s : State) (nonce : List Byte) : List Byte :=
  beBytes 2 0xF1AE ++ beBytes 1 (s.fld Fd.SYS_LVL_ZH_MAX) ++ beBytes 1 0 ++ beBytes 4 5776 ++
  (List.range 4).flatMap (fun i => wordBytes (s.rd (Reg.SEC_SERIAL i))) ++
  beBytes 1 s.sys.straps.moduleId.val ++ beBytes 1 s.sys.straps.slot.val ++ beBytes 1 (s.fld Fd.SYS_ID_VARIANT) ++ beBytes 1 s.opState ++ beBytes 4 0 ++
  nonce ++ beBytes 8 s.clk.sidx.toNat ++ beBytes 8 s.clk.mtime.toNat ++ (List.range 8).flatMap (fun i => wordBytes (s.rd (Reg.SEC_ROOT i))) ++
  (List.range 3).flatMap s.partReport ++ s.progHash ++ s.enrolHash ++ beBytes 4 (s.rd Reg.LOP_INMAP).toNat ++ beBytes 4 0 ++
  s.akPub 1 ++ dikPub ++ s.akCert 1

/-- ATTEST (R544): the report signed by AK-M; NOT_AVAILABLE where no leaf is left (R531). -/
def judgeAttest (nonce : List Byte) (_k : Nat) (_s : State) : Judge :=
  { code := 0x07, needMain := true, bad := if nonce.length ≠ 32 then some (0x21, 0) else none,
    run := fun _ s =>
      match s.readyAk 1 with
      | none => (s, .now 0x40 0 [])
      | some s =>
        let b := s.report nonce
        let sig := Config.lmsSign 1 (s.nextLeaf 1) b
        ((s.useLeaf 1).count Reg.SEC_CNT_ATTEST, .now 0 0 (natsOf (b ++ sig))) }

def execAttest (q : Req) (nonce : List Byte) (s : State) : Host.Outcome State Fault Refusal :=
  .next (s.request (.attest q nonce) q 0x07 (judgeAttest nonce))

end Sys2Proof.Machine
end

