-- ==== Sys2Proof/Machine/Registers.lean ====
section
/-! DEFINITION. Register reads: the words whose value is computed when they are read, the latched partners of wide values (R11, R103,
R105, R307, R579), the reads with an effect (R12, R57, R458, R460), and the rows REGRD, LATCHED_LOW_WORD_READ, RC_REGISTER_READ and
PEEK_REQ. -/

namespace Sys2Proof.Machine

/-! ### Words computed when read -/

/-- A word with one field computed. -/
def seen (f : Fld) (v : Nat) (w : Word) : Word := withField w f.lo f.width v

/-- 1 for a condition that holds. -/
def flag (b : Bool) : Nat := if b then 1 else 0

/-- Whether a tick lies less than a span ago. -/
def State.within (s : State) (t : Option Nat) (span : Nat) : Bool := t.any (fun x => decide (s.clk.now ≤ x + span))

/-- SYS_MODULE and the lease words (R416, R585). -/
def State.sysView (s : State) (a : Nat) : Word :=
  let o := offsetOf a
  if a = Reg.SYS_MODULE then
    let w := withField 0 0 6 s.sys.straps.moduleId
    withField (withField w 8 1 s.sys.straps.slot) 16 8 s.sys.straps.pairId
  else if 0x40 ≤ o ∧ o < 0x80 ∧ o % 16 = 4 then BitVec.ofNat 32 (s.leaseMs ((o - 0x40) / 16))
  else s.rd a

/-- TIM_SIDX_OFS (R76): the aligned index minus the sample index, held to 32 bits. -/
def State.sidxOfs (s : State) : Word :=
  BitVec.ofInt 32 (clampInt (-2147483647) 2147483647 (diff64 s.aligned s.clk.sidx))

/-- JOB_STAT with HELD, SEG and the steps coasted since the last fused boundary (R81, R82, R84), which are counted from its step in COAST and
LOST (DESIGN CHOICE, log entry 76). -/
def State.jobStat (s : State) (j : Nat) : Word :=
  let b := s.job j
  let coasted := match b.last with
    | some l => min 255 (diff32 b.step l.1).toNat
    | none => 0
  let w := seen (Fd.JOB_STAT_HELD j) (flag b.heldTo.isSome) (s.rd (Reg.JOB_STAT j))
  seen (Fd.JOB_STAT_COASTED j) (if s.jobState j = 3 ∨ s.jobState j = 4 then coasted else 0) (seen (Fd.JOB_STAT_SEG j) (b.segment % 16) w)

/-- The words of the TIM_ block that follow the clock and the job trackers (R67, R73, R76, R81, Tables 7 and 8 of chapter 02). JOB_PERIOD is
rounded down to whole µs (DESIGN CHOICE, log entry 74). -/
def State.timView (s : State) (a : Nat) : Word :=
  let o := offsetOf a
  let m := s.clk.mtime.toNat
  if a = Reg.TIM_SIDX_LO then s.clk.sidx.setWidth 32
  else if a = Reg.TIM_SIDX_HI then (s.clk.sidx >>> 32).setWidth 32
  else if a = Reg.TIM_EDGE_NS then BitVec.ofNat 32 (m % 1000000000)
  else if a = Reg.TIM_EDGE_SLO then BitVec.ofNat 32 (m / 1000000000)
  else if a = Reg.TIM_EDGE_SHI then BitVec.ofNat 32 (m / 1000000000 / 2 ^ 32 % 65536)
  else if a = Reg.TIM_ERR_EST then s.errEst
  else if a = Reg.TIM_SIDX_OFS then s.sidxOfs
  else if 0x10000 ≤ o ∧ o < 0x30000 ∧ o % 0x20 = 4 then
    if s.fld (Fd.AE_CTRL_TRIG ((o - 0x10000) / 0x20)) = 3 then s.rd a &&& 0xFFFF else s.rd a
  else if 0x40000 ≤ o ∧ o < 0x44000 then
    let j := (o - 0x40000) / 0x40
    let b := s.job j
    match (o - 0x40000) % 0x40 with
    | 0x04 => s.jobStat j
    | 0x08 => BitVec.ofNat 32 (b.period / 1000)
    | 0x0C => BitVec.ofNat 32 b.rate
    | 0x10 => b.x.setWidth 32
    | 0x14 => (b.x >>> 32).setWidth 32
    | 0x18 => (b.last.elim 0 (fun l => l.2)).setWidth 32
    | 0x1C => ((b.last.elim 0 (fun l => l.2)) >>> 32).setWidth 32
    | _ => s.rd a
  else s.rd a

/-- SRC_STAT with SEEN_A and SEEN_B of the last 10 ms and the quarantine of the source (R111, R126). -/
def State.stmView (s : State) (a : Nat) : Word :=
  let o := offsetOf a
  if 0x20000 ≤ o ∧ o < 0x30000 ∧ o % 16 = 0 then
    let n := (o - 0x20000) / 16
    let x := s.strmSrc n
    let w := seen (Fd.SRC_STAT_SEEN_A n) (flag (s.within x.lastA (msTicks 10))) (s.rd a)
    let w := seen (Fd.SRC_STAT_SEEN_B n) (flag (s.within x.lastB (msTicks 10))) w
    if Tab.has s.stm.src n then seen (Fd.SRC_STAT_QUAR n) (flag (s.quarEntry x.addr).isSome) w else w
  else s.rd a

/-- T_ROWS of a table whose rows follow from its kind (Table 3 of chapter 05). -/
def State.tblView (s : State) (a : Nat) : Word :=
  let o := offsetOf a
  if 0x10000 ≤ o ∧ o < 0x50000 ∧ o % 0x40 = 4 then
    BitVec.ofNat 32 (s.tblRows ((o - 0x10000) / 0x40))
  else s.rd a

/-- The table requests in flight (IFD_INFLIGHT): none without a run, and otherwise a value within the trackers of the variant (R8, R144). -/
def State.inFlight (s : State) : Nat :=
  if s.ice.run.isSome || !s.ice.batches.isEmpty || s.on Fd.IFD_STAT_RRUN then Config.requests s.clk.now % (24576 * stackCount + 1) else 0

/-- IFD_INFLIGHT and IFD_INFL_MAX (Table 16 of chapter 04). -/
def State.iceView (s : State) (a : Nat) : Word :=
  if a = Reg.IFD_INFLIGHT then BitVec.ofNat 32 s.inFlight
  else if a = Reg.IFD_INFL_MAX then BitVec.ofNat 32 (max (s.fld Fd.IFD_INFL_MAX_N) s.inFlight)
  else s.rd a

/-- LOP_TCNT (R269). -/
def State.lopView (s : State) (a : Nat) : Word :=
  if a = Reg.LOP_TCNT_LO then s.clk.tcnt.setWidth 32
  else if a = Reg.LOP_TCNT_HI then (s.clk.tcnt >>> 32).setWidth 32
  else s.rd a

/-- The live strap pins (R585). -/
def State.strapView (s : State) : Word :=
  let p := s.sys.pins
  let w := [(0, 6, p.moduleId.val), (8, 8, p.pairId.val), (16, 1, p.slot.val), (17, 1, flag p.paired), (18, 2, p.bsrc.val),
            (20, 1, flag p.enrol), (31, 1, flag (p != s.sys.straps))]
  w.foldl (fun (w : Word) f => withField w f.1 f.2.1 f.2.2) 0

/-- The computed words of the ACT_ block. -/
def State.actView (s : State) (a : Nat) : Word :=
  let o := offsetOf a
  if a = Reg.ACT_STRAP then s.strapView
  else if 0x31000 ≤ o ∧ o < 0x31080 ∧ o % 16 = 0 then
    let b := (o - 0x31000) / 16
    seen (Fd.BANK_STAT_WAITING b) (s.bankWaiting b) (s.rd a)
  else s.rd a

/-- The computed words of the NET_ block: what is left of a quarantine (R441), the idle time of a session and the networks of its last
10 s (R410). -/
def State.netView (s : State) (a : Nat) : Word :=
  let o := offsetOf a
  if 0x20000 ≤ o ∧ o < 0x22000 ∧ o % 0x20 = 0 then
    let e := (o - 0x20000) / 0x20
    match Tab.find s.zh.quarEnd e with
    | some t => seen (Fd.QU_STAT_REMAIN e) ((t - s.clk.now + 99999) / 100000) (s.rd a)
    | none => s.rd a
  else if 0x10000 ≤ o ∧ o < 0x10100 ∧ o % 0x10 = 0xC ∧ s.on (Fd.PORT_STAT_LINK ((o - 0x10000) / 0x10)) then
    BitVec.ofNat 32 (Config.fecErrors ((o - 0x10000) / 0x10) s.clk.now)
  else if 0x30000 ≤ o ∧ o < 0x30100 then
    let k := (o - 0x30000) / 0x20
    if s.fld (Fd.SS_STAT_STATE k) = 0 then s.rd a
    else if o % 0x20 = 0x10 then BitVec.ofNat 32 (min ((s.clk.now - (s.sess k).lastRx) / 100) 0xFFFFFFFF)
    else if o % 0x20 = 0 then
      let w := seen (Fd.SS_STAT_NET_A k) (flag (s.within (s.sess k).lastA (sTicks 10))) (s.rd a)
      seen (Fd.SS_STAT_NET_B k) (flag (s.within (s.sess k).lastB (sTicks 10))) w
    else s.rd a
  else s.rd a

/-- The computed words of the CAN_ block: the mode a bus runs in (R453), the owner of an object (R463, R465), and the words that a read of
OBJ_STAT or HP_STAT latched (R458, R460). -/
def State.canView (s : State) (a : Nat) : Word :=
  let o := offsetOf a
  if 0x10000 ≤ o ∧ o < 0x30000 then
    let b := (o - 0x10000) / 0x4000
    let n := (o - 0x10000) % 0x4000 / 0x80
    let w := o % 0x80
    if w = 0 then seen (Fd.OBJ_CFG_OWNER b n) (s.objOwner b n) (s.rd a)
    else
      match (Tab.find s.can.shadow b).filter (fun x => x.obj == n) with
      | some x =>
        if w = 0x14 then x.words.getD 0 0
        else if w = 0x18 then x.words.getD 1 0
        else if 0x20 ≤ w ∧ w < 0x60 ∧ s.fld (Fd.OBJ_CFG_DIR b n) = 0 then x.words.getD (2 + (w - 0x20) / 4) 0
        else s.rd a
      | none => s.rd a
  else if o < 0x800 then
    let b := o / 0x100
    let w := o % 0x100
    if w = 4 then seen (Fd.BUS_STAT_EMODE b) (s.canMode b) (s.rd a)
    else
      match Tab.find s.can.hpShadow b with
      | some x =>
        if w = 0x2C then x.getD 0 0
        else if w = 0x30 then x.getD 1 0
        else if 0x40 ≤ w ∧ w < 0x80 then x.getD (2 + (w - 0x40) / 4) 0
        else s.rd a
      | none => s.rd a
  else s.rd a

/-- PAI_STAT with the paths the partner was heard on in the last 3 frames and WARM_READY, and the age of the last image (R475, R479,
R484). -/
def State.paiView (s : State) (a : Nat) : Word :=
  if a = Reg.PAI_STAT then
    let w := seen Fd.PAI_STAT_HB_PAIR (flag (s.within (Tab.find s.pair.heardIn 0) 300)) (s.rd a)
    let w := seen Fd.PAI_STAT_HB_NET (flag (s.within (Tab.find s.pair.heardIn 1) 300)) w
    seen Fd.PAI_STAT_WARM_READY (flag s.warmReady) w
  else if a = Reg.PAI_IMG_AGE then
    match s.pair.cutAt with
    | some c => BitVec.ofNat 32 (min ((s.clk.sidx.toNat - c) / 100) 0xFFFFFFFE)
    | none => 0xFFFFFFFF
  else s.rd a

/-- The vendor device certificate (R545): DIK_PUB, SERIAL and the device CA's signature over both. -/
def State.deviceCert (s : State) : List Byte :=
  let body := dikPub ++ (List.range 4).flatMap (fun i => wordBytes (s.rd (Reg.SEC_SERIAL i)))
  body ++ Config.deviceCaSign body

/-- The computed words of the SEC_ block: the leaf counts (R528), SEC_STAT (R535, R526) and the vendor device certificate, byte 0 in bits
[7:0] of the first word (R545, R546). -/
def State.secView (s : State) (a : Nat) : Word :=
  if a = Reg.SEC_AKM_NEXT then BitVec.ofNat 32 s.sec.akm.next
  else if a = Reg.SEC_AKM_LIMIT then BitVec.ofNat 32 s.sec.akm.limit
  else if a = Reg.SEC_AKP_NEXT then BitVec.ofNat 32 s.sec.akp.next
  else if a = Reg.SEC_AKP_LIMIT then BitVec.ofNat 32 s.sec.akp.limit
  else if a = Reg.SEC_STAT then
    let w := seen Fd.SEC_STAT_OWNED (flag s.owned) (s.rd a)
    let w := seen Fd.SEC_STAT_DIK_EXHAUSTED (flag (decide (1024 ≤ s.fld Fd.SEC_DIK_USED_N))) w
    seen Fd.SEC_STAT_ROOT_MISMATCH (flag (s.sys.portUp && Config.rootMismatch)) w
  else if Reg.SEC_DIKCERT 0 ≤ a ∧ a < Reg.SEC_DIKCERT 1447 then
    let b := s.deviceCert.drop (a - Reg.SEC_DIKCERT 0)
    (leWords ((b ++ [0, 0, 0, 0]).take 4)).headD 0
  else s.rd a

/-- A 64-bit value's low (0) or high (1) word. -/
def halfOf (v : Nat) (hi : Bool) : Word := BitVec.ofNat 32 (if hi then v / 2 ^ 32 else v)

/-- Entry `e` of the anchor table (R561): the entry written last stands before FRN_ANC_HEAD. -/
def State.anchorAt (s : State) (e : Nat) : Option Anchor := s.firn.anchors[(s.fld Fd.FRN_ANC_HEAD_IDX + 4095 - e) % 4096]?

/-- A word of an anchor (Table 10 of chapter 14). -/
def Anchor.word (x : Anchor) (o : Nat) : Option Word :=
  let sec := x.mtime.toNat / 1000000000
  match o with
  | 0x00 => some (halfOf x.seq false)
  | 0x04 => some (halfOf x.seq true)
  | 0x08 => some (halfOf x.sidx.toNat false)
  | 0x0C => some (halfOf x.sidx.toNat true)
  | 0x10 => some (halfOf x.tcnt.toNat false)
  | 0x14 => some (halfOf x.tcnt.toNat true)
  | 0x18 => some (BitVec.ofNat 32 (x.mtime.toNat % 1000000000))
  | 0x1C => some (halfOf sec false)
  | 0x20 => some (BitVec.ofNat 32 (sec / 2 ^ 32 % 65536 + x.servo % 4 * 65536 + flag x.valid * 2 ^ 18 + x.kind % 4 * 2 ^ 19))
  | 0x24 => some x.err
  | _ => none

/-- The records below this SEQ are the main die's (R557). -/
def State.oldestCirc (s : State) : Nat := (s.firn.circ.getLast?).elim 0 (fun r => r.seq)

/-- The computed words of the FRN_ block (Tables 8 to 10 of chapter 14): the status, the SEQs, the tokens of a code and the anchors. -/
def State.frnView (s : State) (a : Nat) : Word :=
  let o := offsetOf a
  if a = Reg.FRN_STAT then
    let run := s.on Fd.FRN_CTRL_MIRROR_EN && !s.mainAbsent
    let w := seen Fd.FRN_STAT_FIRST_FULL (flag (decide (8192 ≤ s.firn.first.length))) (s.rd a)
    seen Fd.FRN_STAT_QUEUE s.firn.queue.length (seen Fd.FRN_STAT_MIRROR_RUN (flag run) w)
  else if a = Reg.FRN_SEQ_LO then halfOf s.firn.seq false
  else if a = Reg.FRN_SEQ_HI then halfOf s.firn.seq true
  else if a = Reg.FRN_FIRST_USED then BitVec.ofNat 32 s.firn.first.length
  else if a = Reg.FRN_CIRC_OLD_LO then halfOf s.oldestCirc false
  else if a = Reg.FRN_CIRC_OLD_HI then halfOf s.oldestCirc true
  else if a = Reg.FRN_MIRROR_LO then halfOf s.firn.mirror false
  else if a = Reg.FRN_MIRROR_HI then halfOf s.firn.mirror true
  else if 0x10000 ≤ o ∧ o < 0x14000 ∧ o % 16 = 4 then
    let c := (o - 0x10000) / 16
    seen (Fd.CODE_STAT_TOKENS c) (min 255 (s.credit c / 100000)) (s.rd a)
  else if 0x50000 ≤ o ∧ o < 0x90000 then
    match (s.anchorAt ((o - 0x50000) / 0x40)).bind (fun (x : Anchor) => x.word ((o - 0x50000) % 0x40)) with
    | some w => w
    | none => s.rd a
  else s.rd a

/-- The computed word of the DIA_ block (Table 12 of chapter 14): while the main die runs it forms digests as DIG_EN says, and some pass is
always in progress (DEDUCED, log entry 95). -/
def State.diaView (s : State) (a : Nat) : Word :=
  if a = Reg.DIA_STAT then
    seen Fd.DIA_STAT_SCRUB_RUN (flag s.mainRuns) (seen Fd.DIA_STAT_DIG_RUN (flag (s.mainRuns && s.on Fd.DIA_CTRL_DIG_EN)) (s.rd a))
  else s.rd a

/-- A word as a read shows it at this moment, before the latched partners. -/
def State.viewWord (s : State) (a : Nat) : Word :=
  match windowOf a with
  | 0 => s.sysView a
  | 1 => s.timView a
  | 2 => s.stmView a
  | 3 => s.iceView a
  | 4 => s.tblView a
  | 6 => s.lopView a
  | 7 => s.actView a
  | 9 => s.netView a
  | 10 => s.canView a
  | 11 => s.paiView a
  | 12 => s.secView a
  | 13 => s.frnView a
  | 14 => s.diaView a
  | _ => s.rd a

/-! ### Reads -/

/-- The partner words that a read of a low word latches until its next read: those of R103, R105 and R307. -/
def stickyPartners (a : Nat) : List Nat :=
  if a = Reg.TIM_SIDX_LO then [Reg.TIM_SIDX_HI, Reg.TIM_EDGE_NS, Reg.TIM_EDGE_SLO, Reg.TIM_EDGE_SHI]
  else if a = Reg.TIM_SNAP_IDX_LO then [Reg.TIM_SNAP_IDX_HI]
  else if windowOf a = 1 ∧ 0x40000 ≤ offsetOf a ∧ offsetOf a < 0x44000 ∧ (offsetOf a % 0x40 = 0x10 ∨ offsetOf a % 0x40 = 0x18) then [a + 4]
  else if windowOf a = 6 ∧ 0x20000 ≤ offsetOf a ∧ offsetOf a < 0x22000 ∧ offsetOf a % 0x40 = 0 then
    (List.range 15).map (fun i => a + 4 * (i + 1))
  else []

/-- The partner words that a read of a low word latches for one read each (R11). -/
def oncePartners (a : Nat) : List Nat :=
  let o := offsetOf a
  let one := match windowOf a with
    | 1 => decide (0x10000 ≤ o ∧ o < 0x30000 ∧ o % 0x20 = 4)
    | 3 => a == Reg.IFD_FRAME_LO || a == Reg.IFD_RPL_FRAME_LO
    | 4 => a == Reg.TBL_CKPT_FRM_LO || decide (0x10000 ≤ o ∧ o < 0x50000 ∧ (o % 0x40 = 0x10 ∨ o % 0x40 = 0x18))
    | 5 => decide (0x50000 ≤ o ∧ o < 0x58000 ∧ o % 0x20 = 0x10)
    | 6 => a == Reg.LOP_TCNT_LO
    | 7 => decide (0x70100 ≤ o ∧ o < 0x70180 ∧ o % 16 = 8)
    | 11 => a == Reg.PAI_SWAP_IDX_LO || a == Reg.PAI_PRD_ADDR_LO
    | 13 => a == Reg.FRN_SEQ_LO || a == Reg.FRN_CIRC_OLD_LO || a == Reg.FRN_MIRROR_LO || decide (0x30000 ≤ o ∧ o < 0x30100 ∧ o % 0x20 = 4)
    | 14 => a == Reg.DIA_DIG_LAST_LO || a == Reg.DIA_DIG_SEL_LO
    | _ => false
  let four := (windowOf a == 9 && [0x30, 0x40, 0x60, 0x70, 0x90].contains o) ||
    decide (windowOf a = 9 ∧ 0x20000 ≤ o ∧ o < 0x22000 ∧ o % 0x20 = 4) || a == Reg.PAI_FGRP6_0
  if one then [a + 4]
  else if four then (List.range 3).map (fun i => a + 4 * (i + 1))
  else if (windowOf a = 3 ∧ 0x10000 ≤ o ∧ o < 0x10400 ∧ o % 0x40 = 0x10) ∨ (windowOf a = 12 ∧ 0x30000 ≤ o ∧ o < 0x32000 ∧ o % 0x40 = 4) then
    (List.range 7).map (fun i => a + 4 * (i + 1))
  else if windowOf a = 13 ∧ 0x50000 ≤ o ∧ o < 0x90000 ∧ o % 0x40 = 0 then (List.range 9).map (fun i => a + 4 * (i + 1))
  else []

/-- Whether a word shows a latch of the TIM_ block alone, 0 before the first (R103, R105). -/
def timLatched (a : Nat) : Bool :=
  a == Reg.TIM_SIDX_HI || a == Reg.TIM_EDGE_NS || a == Reg.TIM_EDGE_SLO || a == Reg.TIM_EDGE_SHI || a == Reg.TIM_SNAP_IDX_HI ||
  decide (windowOf a = 1 ∧ 0x40000 ≤ offsetOf a ∧ offsetOf a < 0x44000 ∧ (offsetOf a % 0x40 = 0x14 ∨ offsetOf a % 0x40 = 0x1C))

/-- Whether the latch of a partner word stands until the next read of its low word. -/
def isSticky (a : Nat) : Bool :=
  timLatched a ||
  decide (windowOf a = 6 ∧ 0x20000 ≤ offsetOf a ∧ offsetOf a < 0x22000)

/-- The bits of a word that read as zero: write-only fields (R12). -/
def State.readMask (a : Nat) (w : Word) : Word :=
  match rowAt a with
  | some r => w &&& ~~~(BitVec.ofNat 32 r.wo)
  | none => 0

/-- What a read of a word returns, without the effect of reading it. -/
def State.readValue (s : State) (a : Nat) : Word :=
  State.readMask a (match Tab.find s.shadow a with
    | some w => w
    | none => if timLatched a then 0 else s.viewWord a)

/-- A word's latch is taken. -/
def State.latchWord (s : State) (a p : Nat) (v : Word) : State := if a = p then s else { s with shadow := s.shadow.put p v }

/-- The effect of reading a word (R11, R12, R57, R458, R460): OBJ_STAT and HP_STAT latch their object, a low word latches its partners,
a partner's latch is consumed, and RC bits clear. -/
def State.afterRead (s : State) (a : Nat) : State :=
  let o := offsetOf a
  let s :=
    if windowOf a = 10 ∧ 0x10000 ≤ o ∧ o < 0x30000 ∧ o % 0x80 = 0x10 then s.readObj ((o - 0x10000) / 0x4000) ((o - 0x10000) % 0x4000 / 0x80)
    else if windowOf a = 10 ∧ o < 0x800 ∧ o % 0x100 = 0x28 then s.readHp (o / 0x100)
    else s
  let s := (stickyPartners a ++ oncePartners a).foldl (fun (s : State) p => s.latchWord a p (s.viewWord p)) s
  let s := if isSticky a then s else { s with shadow := s.shadow.del a }
  match rowAt a with
  | some r => if r.rc = 0 then s else s.wr a (s.rd a &&& ~~~(BitVec.ofNat 32 r.rc))
  | none => s

/-- A register read of one word by anybody: refused where the word is not served (R53), otherwise its value and the effect of reading. -/
def State.readRow (s : State) (a : Nat) : State :=
  if ¬ s.reachable a then s.denied 0x20 ⟨0x20, 0, a⟩
  else (s.send (.data (wordBytes (s.readValue a)))).afterRead a

/-- LATCHED_LOW_WORD_READ (R11): a read of the low word of a wide value. -/
def execLatchedLowWordRead (addr : Nat) (s : State) : Host.Outcome State Fault Refusal := .next (s.readRow addr)

/-- RC_REGISTER_READ (R12, R57): a read of a read-to-clear word. -/
def execRcRegisterRead (addr : Nat) (s : State) : Host.Outcome State Fault Refusal := .next (s.readRow addr)

/-! ### REGRD -/

/-- The words of a consecutive read (R422), read in ascending order, each with its effect: what has been read so far, and the state. -/
def readWords (addrs : List Nat) (s : State) : List Word × State :=
  addrs.foldl (fun (p : List Word × State) a => (p.1 ++ [p.2.readValue a], p.2.afterRead a)) ([], s)

/-- The addresses of COUNT words from ADDR. -/
def wordsFrom (addr count : Nat) : List Nat := (List.range count).map (fun i => addr + 4 * i)

/-- REGRD (R422): COUNT from 1 to 64, and every address served; the words follow. A bus error at one of the words ends the request
NOT_AVAILABLE (R569). -/
def judgeRegrd (addr count : Nat) (busErr : Option Nat) (_k : Nat) (s : State) : Judge :=
  { code := 0x20,
    bad := if count = 0 ∨ 64 < count then some (0x21, 6)
      else ((wordsFrom addr count).find? (fun a => !s.reachable a)).map (fun a => (0x20, a % 2 ^ 32)),
    run := fun _ s =>
      match busErr.filter (fun n => decide (n < count)) with
      | some n => ((readWords (wordsFrom addr n) s).2.busFail none noObj, .now 0x40 0 [])
      | none => let r := readWords (wordsFrom addr count) s; (r.2, .now 0 0 (r.1.map BitVec.toNat)) }

/-- REGRD (R422): COUNT words from a 40-bit device address. -/
def execRegrd (q : Req) (addr count : Nat) (busErr : Option Nat) (s : State) : Host.Outcome State Fault Refusal :=
  .next (s.request (.regrd q addr count busErr) q 0x20 (judgeRegrd addr count busErr))

/-! ### The partner's reads -/

/-- Whether a word may be read through the pair link (R477): SYS_STATE and the windows housed on Serac. -/
def State.peekable (s : State) (a : Nat) : Bool :=
  a % 4 == 0 && (rowAt a).isSome && (a == Reg.SYS_STATE || onSerac a) && s.sys.seracUp

/-- The result and the words of a PEEK_REQ (R477): 1 OK, 2 BAD_ADDR, 3 END, 4 GAP. Nothing of the read has an effect. -/
def State.peekAnswer (s : State) (firn : Bool) (area count addr : Nat) : Nat × List Word :=
  if firn then
    let l := s.area area
    let cur := if addr = 2 ^ 64 - 1 then (l.head?.map (fun r => r.seq)).getD addr else addr
    match recordAt cur l with
    | none => (3, [])
    | some (r, newer) =>
      let gap := decide (area ≠ 0) && decide (cur ≠ 0) && (l.getLast?).any (fun o => decide (cur < o.seq))
      (if gap then 4 else 1, r.words (r.snap.isSome && snapGone area newer))
  else
    let l := wordsFrom addr (count + 1)
    if l.all s.peekable then (1, l.map s.readValue) else (2, [])

/-- PEEK_REQ (R477): the partner's Serac asks, and this one answers on both lanes in every operating state. -/
def execPeekReq (firn : Bool) (area : Fin 2) (count : Fin 16) (addr : BitVec 64) (s : State) : Host.Outcome State Fault Refusal :=
  .next (if s.sys.seracUp then
      let r := s.peekAnswer firn area count addr.toNat
      s.cra .peekData 0x0C s.pairLevel [0, 1] (r.1 :: r.2.map BitVec.toNat)
    else s)

end Sys2Proof.Machine
end

