-- ==== Sys2Proof/Machine/Writes.lean ====
section
/-! DEFINITION. Register writes by address: the encodings reserved across fields and words of every block (R16), what a write of each
word does, wide values that take effect with their highest word (R11), the Serac words that wait for the next tick edge (R264), and the
rows REGWR and REGISTER_WRITE (R422). -/

namespace Sys2Proof.Machine

/-! ### Reserved encodings across fields and words -/

/-- Whether an offset lies in an array of records at a word of the record. -/
def inArray (o base size stride word : Nat) : Bool := decide (base ≤ o) && decide (o < base + size) && (o - base) % stride == word

/-- ACT_ (Tables 7 to 9 of chapter 08, R321, R324, R330). -/
def crossAct (s : State) (a : Nat) (v : Word) : Bool :=
  let o := offsetOf a
  let pair := decide (fieldOf v 0 16 ≤ fieldOf v 16 16)
  if inArray o 0x10000 0x200 0x40 0x00 then
    let full := (s.rd (a + 0x2C)).toInt
    (fieldOf v 6 2 != 1 || decide (0 < full)) && (fieldOf v 6 2 != 2 || fieldOf v 0 2 == 3)
  else if inArray o 0x10000 0x200 0x40 0x2C then fieldOf (s.rd (a - 0x2C)) 6 2 != 1 || decide (0 < v.toInt)
  else if inArray o 0x10000 0x200 0x40 0x04 || inArray o 0x20000 0x800 0x20 0x04 then pair
  else if inArray o 0x30000 0x800 0x20 0x00 then s.solCfgOk ((o - 0x30000) / 0x20) v
  else if inArray o 0x30000 0x800 0x20 0x04 then decide (fieldOf v 16 8 ≤ fieldOf v 0 8)
  else if inArray o 0x30000 0x800 0x20 0x0C then s.solCmdOk ((o - 0x30000) / 0x20) (fieldOf v 0 3)
  else if inArray o 0x31000 0x80 0x10 0x04 then fieldOf v 0 2 != 3
  else crossField s a v

/-- PAI_ (Tables 8 and 9 of chapter 12). -/
def crossPai (s : State) (a : Nat) (v : Word) : Bool :=
  if a = Reg.PAI_PRD_CTRL then crossPeek v
  else if a = Reg.PAI_LS_CTRL then fieldOf v 0 2 != 3
  else if a = Reg.PAI_PLVL then decide (fieldOf v 24 8 ≤ fieldOf (s.rd a) 8 8)
  else if a = Reg.PAI_FGRP6_3 then fieldOf v 16 16 == 0xFF05
  else if a = Reg.PAI_FGRP4 then fieldOf v 24 8 == 239
  else if Reg.BAR_CFG 12 ≤ a ∧ a < Reg.BAR_CFG 16 ∧ a % 16 = 0 then fieldOf v 0 3 == actNone || fieldOf v 0 3 == actMark
  else true

/-- The first word of a key's type: byte 0 is the most significant (R519). -/
def keyTypeOk (v : Word) (lms : Bool) : Bool :=
  v.toNat % 0x1000000 == 0 &&
  (if lms then decide (6 ≤ fieldOf v 24 8) && decide (fieldOf v 24 8 ≤ 8) else fieldOf v 24 8 == 3 || fieldOf v 24 8 == 4)

/-- SEC_ (R519, R532, R547). -/
def crossSec (s : State) (a : Nat) (v : Word) : Bool :=
  let o := offsetOf a
  if a = Reg.SEC_FW_CMD then crossFw v
  else if inArray o 0x10000 0x2000 0x80 0x00 then s.enrolOk ((o - 0x10000) / 0x80) v
  else if inArray o 0x10000 0x2000 0x80 0x08 || inArray o 0x20000 0x800 0x80 0x08 then keyTypeOk v true
  else if inArray o 0x10000 0x2000 0x80 0x0C || inArray o 0x20000 0x800 0x80 0x0C then keyTypeOk v false
  else true

/-- FRN_ (R560, R564). -/
def crossFrn (a : Nat) (v : Word) : Bool :=
  let o := offsetOf a
  if a = Reg.FRN_CLR then fieldOf v 16 16 == 0xC1EA && fieldOf v 0 3 != 0
  else if 0x20000 ≤ o ∧ o < 0x28000 ∧ 0x200 ≤ o % 0x400 then onSerac v.toNat && v.toNat % 4 == 0
  else true

/-- Whether a write carries no encoding reserved across the fields or words of its block (R16). -/
def crossWord (s : State) (a : Nat) (v : Word) : Bool :=
  if isCounterWord a then offsetOf a % 16 != 0 || fieldOf v 8 2 != 2 || decide (fieldOf v 0 6 < 32) else
  match windowOf a with
  | 0 | 9 => crossNet s a v
  | 1 => if 0x10000 ≤ offsetOf a ∧ offsetOf a < 0x30000 ∧ a % 0x20 = 0 then crossAction v else true
  | 2 => crossStream a v
  | 3 => crossIce a v
  | 4 => if inArray (offsetOf a) 0x10000 0x40000 0x40 4 && s.fld ⟨a - 4, 0, 3⟩ != 4 then true else crossTable s a v
  | 5 => crossPlan s a v
  | 6 => crossLoop a v
  | 7 => crossAct s a v
  | 8 => crossPrt s a v
  | 10 => crossCan s a v
  | 11 => crossPai s a v
  | 12 => crossSec s a v
  | 13 => crossFrn a v
  | 14 => if a = Reg.DIA_ECCTEST then crossEccTest v else true
  | _ => true

/-! ### What a write does -/

/-- The outcome of a write: the state, the status and its detail. -/
abbrev Wrote := State × Nat × Nat

/-- A write answered OK. -/
def wroteOk (s : State) : Wrote := (s, 0, 0)

/-- SYS_ (R50, R448). -/
def State.applySys (s : State) (k a : Nat) (v : Word) : State :=
  if a = Reg.SYS_CREC_CMD then
    (if fieldOf v 0 1 = 1 then s.askRecord k else if fieldOf v 1 1 = 1 then s.clearRecord k else s)
  else if a = Reg.SYS_CFGRST then { s with sys := { s.sys with ceilReset := some (s.fld (Fd.SS_STAT_MASTER k)) } }
  else s.plainWrite a v

/-- The options of an instance (R60): one that they change hears its masters afresh. -/
def State.ptpOptions (s : State) (n : Net) (v : Word) : State :=
  let t := s.plainWrite (ptpWord n) v
  if t.rd (ptpWord n) = s.rd (ptpWord n) then t else t.loseMaster n

/-- TIM_ (R60, R77, R86, R93, R99, R105). -/
def State.applyTim (s : State) (a : Nat) (v : Word) : Wrote :=
  let o := offsetOf a
  if a = Reg.TIM_CTRL then
    let s := (s.plainWrite a v).servoJudge
    wroteOk (if fieldOf v 2 1 = 1 then { s with clk := { s.clk with reanchor := true } } else s)
  else if a = Reg.TIM_SNAP_CTRL then wroteOk (if fieldOf v 0 1 = 1 then s.requestSnapshot else s)
  else if a = Reg.TIM_PTP_A then wroteOk (s.ptpOptions .a v)
  else if a = Reg.TIM_PTP_B then wroteOk (s.ptpOptions .b v)
  else if 0x10000 ≤ o ∧ o < 0x30000 then
    let n := (o - 0x10000) / 0x20
    if o % 0x20 = 0 then
      let t := State.writeEntry n v s
      if t.act.seq ≠ s.act.seq ∧ t.fld (Fd.AE_STAT_STATE n) = 4 then (t, 0x13, lateUs (t.lateness (t.trigger n))) else wroteOk t
    else wroteOk (if s.fld (Fd.AE_STAT_STATE n) = 1 then s else s.plainWrite a v)
  else if 0x40000 ≤ o ∧ o < 0x44000 ∧ o % 0x40 = 0 then wroteOk (State.writeJobCfg ((o - 0x40000) / 0x40) v s)
  else wroteOk (s.plainWrite a v)

/-- STM_ (R123, R132). -/
def State.applyStm (s : State) (a : Nat) (v : Word) : State :=
  if a = Reg.STM_CMT then
    (if fieldOf v 0 1 = 1 then
      s.streamGo (!s.overTime s.activeSet s.ice.part s.stagedCfg && !s.overBandwidth s.activeSet s.stagedCfg)
    else if fieldOf v 1 1 = 1 then s.streamLoad else s)
  else if a = Reg.STM_ACK then s.streamAck v
  else s.plainWrite a v

/-- IFD_ (R167 to R169, R182). -/
def State.applyIce (s : State) (a : Nat) (v : Word) : State :=
  let o := offsetOf a
  if a = Reg.IFD_SWITCH then State.switchGo v s
  else if a = Reg.IFD_PART then State.partWrite v s
  else if a = Reg.IFD_RPL_CTRL then State.replayCmd v s
  else if inArray o 0x10000 0x400 0x40 0x08 then State.slotCmd ((o - 0x10000) / 0x40) v s
  else s.plainWrite a v

/-- TBL_ (R222): T_CFG and T_ROWS of a table that exists, and T_ROWS of a kind other than DENSE, keep their values. -/
def State.applyTbl (s : State) (a : Nat) (v : Word) : State :=
  let o := offsetOf a
  if 0x10000 ≤ o ∧ o < 0x50000 then
    let t := (o - 0x10000) / 0x40
    match o % 0x40 with
    | 0x00 => if s.fld (Fd.T_STAT_STATE t) ≠ 0 then s else s.plainWrite a v
    | 0x04 => if s.fld (Fd.T_STAT_STATE t) ≠ 0 ∨ s.fld (Fd.T_CFG_KIND t) ≠ 4 then s else s.plainWrite a v
    | 0x08 => State.tableCmd t v s
    | _ => s.plainWrite a v
  else s.plainWrite a v

/-- PLN_ (R232, R238, R250, R251). -/
def State.applyPln (s : State) (k a : Nat) (v : Word) : Wrote :=
  let o := offsetOf a
  if inArray o 0x50000 0x8000 0x20 0 then wroteOk (State.ceilWrite k ((o - 0x50000) / 0x20) v s)
  else if inArray o 0x60000 0x1000 0x10 0 then State.stageWrite ((o - 0x60000) / 0x10) v s
  else
    let asks := s.asksTarget a v
    let s := (s.plainWrite a v).notePlanWrite a
    let s := if a = Reg.PLN_CTRL ∧ fieldOf v 0 1 = 0 then s.set Fd.PLN_STAT_RUN 0 else s
    s.capped (if asks then s.cappedBy (s.askedTargets a) else none)

/-- LOP_ (R292, R294 to R298). -/
def State.applyLop (s : State) (a : Nat) (v : Word) : State :=
  let o := offsetOf a
  if a = Reg.LOP_CMT then (if fieldOf v 0 1 = 1 then s.loopGo else if fieldOf v 1 1 = 1 then s.loopLoad else s)
  else if inArray o 0x10000 0x8000 0x100 0x40 then (s.writeLoopCtrl ((o - 0x10000) / 0x100) v).loopChanged
  else if 0x10000 ≤ o ∧ o < 0x18000 ∧ 0x40 ≤ o % 0x100 then (s.plainWrite a v).loopChanged
  else s.plainWrite a v

/-- A command to a solenoid channel (R328). -/
def State.applySol (s : State) (k : Nat) (v : Word) : State :=
  match fieldOf v 0 3 with
  | 3 => s.askRelease k
  | 5 => s.isoReset k
  | op => s.submit k op false

/-- A command to a bank (R329, R332). Whether a reclosed bank passes its test is the outcome of the field's electronics: a free value. -/
def State.applyBank (s : State) (b : Nat) (v : Word) : State :=
  if fieldOf v 0 1 = 1 then (s.cutBank b 3).isoResults
  else if fieldOf v 1 1 = 1 then s.free.2.tryReclose b (s.free.1 % 2 == 1)
  else s

/-- ACT_ (R309, R315, R328, R332, R337, R342, R345, R611). -/
def State.applyAct (s : State) (a : Nat) (v : Word) : State :=
  let o := offsetOf a
  if 0x10000 ≤ o ∧ o < 0x10200 then
    let p := (o - 0x10000) / 0x40
    match o % 0x40 with
    | 0x00 => ((s.plainWrite a v).pumpConfigured p).driveObjects p
    | 0x14 => s.pumpCmd p v
    | 0x18 => s.writeLock (.pump (Fin.ofNat 8 p)) v
    | _ => s.plainWrite a v
  else if inArray o 0x20000 0x800 0x20 0x08 then s.writeLock (.valve (Fin.ofNat 64 ((o - 0x20000) / 0x20))) v
  else if 0x30000 ≤ o ∧ o < 0x30800 then
    let k := (o - 0x30000) / 0x20
    match o % 0x20 with
    | 0x0C => s.applySol k v
    | 0x10 => s.writeLock (.solenoid (Fin.ofNat 64 k)) v
    | _ => s.plainWrite a v
  else if inArray o 0x31000 0x80 0x10 4 then s.applyBank ((o - 0x31000) / 0x10) v
  else if 0x40000 ≤ o ∧ o < 0x40800 then
    let f := (o - 0x40000) / 0x40
    match o % 0x40 with
    | 0x24 => s.fanRetry f
    | 0x28 => s.writeLock (.fan (Fin.ofNat 32 f)) v
    | _ => s.plainWrite a v
  else if 0x41000 ≤ o ∧ o < 0x42000 then s.writeDemand ((o - 0x41000) / 4) v
  else if inArray o 0x50000 0x100 0x10 0 then s.spareCmd ((o - 0x50000) / 0x10) v
  else if 0x60000 ≤ o ∧ o < 0x60900 then s.writeInput ((o - 0x60000) / 16) (o % 16) v
  else s.plainWrite a v

/-- PRT_ (R358, R384). -/
def State.applyPrt (s : State) (a : Nat) (v : Word) : State :=
  let o := offsetOf a
  if a = Reg.PRT_ACK then s.protAck v
  else if inArray o 0x30000 0x200 0x10 0 then s.writeLimCfg ((o - 0x30000) / 0x10) v
  else s.plainWrite a v

/-- PAI_ (R475, R477, R493, R497, R500, R501, R516). What the partner holds of the slots at an entry to lock-step by this path is free. -/
def State.applyPai (s : State) (a : Nat) (v : Word) : State :=
  if a = Reg.PAI_CTRL then s.writeWarm v
  else if a = Reg.PAI_SWAP then s.swapGo v
  else if a = Reg.PAI_PRD_CTRL then s.readPartner v
  else if a = Reg.PAI_LS_CTRL then
    (if fieldOf v 0 1 = 1 then s.free.2.lsEnter ⟨s.free.1 % 2 == 1, s.free.1 / 2 % 2 == 1⟩
     else if fieldOf v 1 1 = 1 then s.lsLeave else s)
  else if a = Reg.PAI_FED_CTRL then (s.plainWrite a v).judgeFed
  else if Reg.BAR_CFG 0 ≤ a ∧ a < Reg.BAR_CFG 12 ∧ a % 16 = 0 then s
  else s.plainWrite a v

/-- SEC_ (R526, R532, R535). -/
def State.applySec (s : State) (a : Nat) (v : Word) : State :=
  let o := offsetOf a
  if a = Reg.SEC_FW_CMD then s.fwCommand v
  else if inArray o 0x10000 0x2000 0x80 0 then s.enrol ((o - 0x10000) / 0x80) v
  else if inArray o 0x20000 0x800 0x80 0 then s.programKey ((o - 0x20000) / 0x80) v
  else s.plainWrite a v

/-- FRN_ (R558, R563, R564). -/
def State.applyFrn (s : State) (k a : Nat) (v : Word) : State :=
  let o := offsetOf a
  if a = Reg.FRN_CLR then { s with firn := { s.firn with clear := some (fieldOf v 0 3, s.fld (Fd.SS_STAT_MASTER k)) } }
  else if inArray o 0x10000 0x4000 0x10 0 then
    let s := s.plainWrite a v
    s.setCredit ((o - 0x10000) / 16) (fieldOf v 10 8 * 100000)
  else if inArray o 0x30000 0x100 0x20 0 then
    let s := s.plainWrite a v
    if fieldOf v 2 1 = 1 then s.latchWindow ((o - 0x30000) / 0x20) else s
  else s.plainWrite a v

/-- DIA_ (R571, R580). Whether the check bits pass their test is the memory's outcome: a free value. -/
def State.applyDia (s : State) (a : Nat) (v : Word) : State :=
  if a = Reg.DIA_ECCTEST then s.free.2.eccTest v (s.free.1 % 2 == 1)
  else if a = Reg.DIA_DIG_SEL_HI then (s.plainWrite a v).latchDigest
  else s.plainWrite a v

/-- The effect of a write of `v` to a word, by the session in slot `k`. -/
def State.applyWord (s : State) (k a : Nat) (v : Word) : Wrote :=
  if isCounterWord a then wroteOk (s.plainWrite a v) else
  match windowOf a with
  | 0 => wroteOk (s.applySys k a v)
  | 1 => s.applyTim a v
  | 2 => wroteOk (s.applyStm a v)
  | 3 => wroteOk (s.applyIce a v)
  | 4 => wroteOk (s.applyTbl a v)
  | 5 => s.applyPln k a v
  | 6 => wroteOk (s.applyLop a v)
  | 7 => wroteOk (s.applyAct a v)
  | 8 => wroteOk (s.applyPrt a v)
  | 10 => wroteOk (s.writeCan a v)
  | 11 => wroteOk (s.applyPai a v)
  | 12 => wroteOk (s.applySec a v)
  | 13 => wroteOk (s.applyFrn k a v)
  | 14 => wroteOk (s.applyDia a v)
  | _ => wroteOk (s.plainWrite a v)

/-! ### Wide values (R11) -/

/-- The first word and the number of words of a writable value wider than 32 bits. -/
def wideOf (a : Nat) : Option (Nat × Nat) :=
  let o := offsetOf a
  match windowOf a with
  | 1 => if 0x10000 ≤ o ∧ o < 0x30000 ∧ (o % 0x20 = 4 ∨ o % 0x20 = 8) then some (a - (a % 0x20 - 4), 2) else none
  | 9 => if (0x30 ≤ o ∧ o < 0x50) ∨ (0x60 ≤ o ∧ o < 0x80) ∨ (0x90 ≤ o ∧ o < 0xA0) then some (a - a % 16, 4) else none
  | 11 => if o = 0x204 ∨ o = 0x208 then some (Reg.PAI_PRD_ADDR_LO, 2) else if 0x800040 ≤ o ∧ o < 0x800050 then some (a - a % 16, 4) else none
  | 12 => if 0x30000 ≤ o ∧ o < 0x32000 ∧ 4 ≤ o % 0x40 ∧ o % 0x40 < 0x24 then some (a - (a % 0x40 - 4), 8) else none
  | 13 => if 0x30000 ≤ o ∧ o < 0x30100 ∧ (o % 0x20 = 4 ∨ o % 0x20 = 8) then some (a - (a % 0x20 - 4), 2) else none
  | 14 => if a = Reg.DIA_DIG_SEL_LO ∨ a = Reg.DIA_DIG_SEL_HI then some (Reg.DIA_DIG_SEL_LO, 2) else none
  | _ => none

/-- The action entry whose trigger words hold an address. -/
def triggerEntry (a : Nat) : Option Nat :=
  let o := offsetOf a
  if windowOf a = 1 ∧ 0x10000 ≤ o ∧ o < 0x30000 ∧ (o % 0x20 = 4 ∨ o % 0x20 = 8) then some ((o - 0x10000) / 0x20) else none

/-- Whether a write of a trigger word is ignored: its entry is ARMED (R86). -/
def State.fixedTrigger (s : State) (a : Nat) : Bool := (triggerEntry a).any (fun n => s.fld (Fd.AE_STAT_STATE n) == 1)

/-- Whether a trigger word stands by itself: that of an ANGLE entry, whose angle and step are values of their own (R104). -/
def State.angleWord (s : State) (a : Nat) : Bool := (triggerEntry a).any (fun n => s.fld (Fd.AE_CTRL_TRIG n) == 3)

/-- A write reaches its register: a low word of a wide value waits for the highest, which then takes them all (R11). -/
def State.writeWord (s : State) (k a : Nat) (v : Word) : Wrote :=
  match wideOf a with
  | none => s.applyWord k a v
  | some (b, n) =>
    if s.fixedTrigger a then wroteOk s
    else if s.angleWord a then wroteOk (s.plainWrite a v)
    else if a + 4 < b + 4 * n then wroteOk { s with wlow := s.wlow.put a v }
    else
      let lows := (List.range (n - 1)).map (fun i => b + 4 * i)
      let s := lows.foldl (fun (s : State) x =>
        match Tab.find s.wlow x with
        | some w => { (s.applyWord k x w).1 with wlow := s.wlow.del x }
        | none => s) s
      s.applyWord k a v

/-- The writes that wait for Serac's tick edge take effect, in the order of their execution (R264). -/
def State.applyWaiting (s : State) : State :=
  s.waitWrites.foldl (fun (s : State) (w : SeracWrite) => (s.writeWord w.slot w.addr w.value).1) { s with waitWrites := [] }

/-- The registers as the waiting writes will leave them, against which a later write's encodings are judged. -/
def State.ahead (s : State) : State := s.waitWrites.foldl (fun (s : State) (w : SeracWrite) => s.plainWrite w.addr w.value) s

/-- Whether a write carries no reserved encoding (R16). A word with no writable field takes any value. -/
def State.encodes (s : State) (a : Nat) (v : Word) : Bool :=
  (rowAt a).elim true (fun (r : RegRow) => (r.rw == 0 && r.w1c == 0 && r.wo == 0) || (fieldsOk r v && crossWord s.ahead a v))

/-- A legal write is executed: at once, or at the next tick edge where the word is housed on Serac (R264). -/
def State.putWord (s : State) (k a : Nat) (v : Word) : Wrote :=
  if onSerac a then wroteOk { s with waitWrites := s.waitWrites ++ [⟨k, a, v⟩] } else s.writeWord k a v

/-! ### REGWR -/

/-- How far a REGWR has come (R422): the words written, the worst status with its detail, and whether it has ended. -/
structure WriteRun where
  state : State
  done : Nat
  status : Nat
  detail : Nat
  ended : Bool

/-- A CAPPED detail joined with another of the same request (R238, R419): the lower limit, and the counts added. -/
def joinCapped (d e : Nat) : Nat :=
  if d = 0 then e else min (d / 65536) (e / 65536) * 65536 + min (d % 65536 + e % 65536) 65535

/-- One word of a REGWR (R422): its encoding is checked, and it is written. -/
def WriteRun.word (k : Nat) (busErr : Option Nat) (r : WriteRun) (p : Nat × Word) : WriteRun :=
  if r.ended then r
  else if busErr = some r.done then { r with state := r.state.busFail none noObj, status := 0x40, detail := 0, ended := true }
  else if !r.state.encodes p.1 p.2 then
    { r with state := r.state.raise Fd.SYS_ERR_BADENC noObj [], status := 0x21, detail := r.done, ended := true }
  else
    let w := r.state.putWord k p.1 p.2
    let r := { r with state := w.1, done := r.done + 1 }
    if w.2.1 = 0 then r
    else { r with status := w.2.1, detail := if w.2.1 = 1 then joinCapped r.detail w.2.2 else w.2.2 }

/-- The words of a REGWR, one after another. -/
def State.writeRun (s : State) (k : Nat) (ws : List (Nat × Word)) (busErr : Option Nat) : WriteRun :=
  ws.foldl (WriteRun.word k busErr) ⟨s, 0, 0, 0, false⟩

/-- The domains that the words of a write use. -/
def State.usedDomains (s : State) (k : Nat) (ws : List (Nat × Word)) : List Nat :=
  (ws.filterMap (fun p => s.usedDomain k (writeNeed p.1 p.2))).dedup

/-- The order of R427 for the words of a write: a role before a domain. -/
def State.missingWords (s : State) (k : Nat) (ws : List (Nat × Word)) : Option Nat × Option Nat :=
  let l := ws.filterMap (fun p => s.missing k (writeNeed p.1 p.2))
  ((l.find? (fun d => d.status == 0x31)).map Denial.detail, (l.find? (fun d => d.status != 0x31)).map Denial.detail)

/-- REGWR (R422, R418, R428, R429): COUNT from 1 to 64; every address, then every domain and every state, is checked before the first
word is written. -/
def judgeRegwr (addr : Nat) (values : List Word) (busErr : Option Nat) (k : Nat) (s : State) : Judge :=
  let ws := (wordsFrom addr values.length).zip values
  let miss := s.missingWords k ws
  { code := 0x21,
    bad := if values.length = 0 ∨ 64 < values.length then some (0x21, 6)
      else (ws.find? (fun p => !s.reachable p.1)).map (fun p => (0x20, p.1 % 2 ^ 32)),
    role := miss.1, owner := miss.2,
    legal := ws.foldl (fun m p => m &&& s.legalNow p.1 p.2) 0x03FF,
    uses := s.usedDomains k ws,
    run := fun _ s =>
      let r := s.writeRun k ws busErr
      (r.state, .now r.status r.detail [r.done]) }

/-- REGWR (R422): COUNT words to a 40-bit device address. -/
def execRegwr (q : Req) (addr : Nat) (values : List Word) (busErr : Option Nat) (s : State) : Host.Outcome State Fault Refusal :=
  .next (s.request (.regwr q addr values busErr) q 0x21 (judgeRegwr addr values busErr))

/-- REGISTER_WRITE (R16, R418, R422): one word written by the session in slot `w`, with the outcome REGWR would answer. -/
def execRegisterWrite (w : Fin 8) (addr : Nat) (value : Word) (s : State) : Host.Outcome State Fault Refusal :=
  .next (
    match s.checkWords w [(addr, value)] with
    | some d => (s.denied 0x21 d).send (.wrote w addr d.status d.legal d.detail)
    | none =>
      let s := (s.usedDomains w [(addr, value)]).foldl (fun s d => s.renewLease d) s
      let r := s.writeRun w [(addr, value)] none
      r.state.send (.wrote w addr r.status 0 r.detail))

end Sys2Proof.Machine
end

