-- ==== Sys2Proof/Machine/Deferral.lean ====
section
/-! DEFINITION. The execution of held requests (R434): the judgement of the request that a deferral slot holds, and the order in which
held requests run. -/

namespace Sys2Proof.Machine

/-- A request with the judgement of its command. -/
abbrev HeldJudge := Req × (Nat → State → Judge)

/-- The request a deferral slot holds, with the judgement its command makes. The other commands are legal in every state that a session
can be in, or are never deferred (R432), and so are not held. -/
def heldJudge (i : Instr) : Option HeldJudge :=
  match i with
  | .sessClose q => some (q, judgeClose)
  | .ping q => some (q, judgePing)
  | .subscribe q c => some (q, judgeSubscribe c)
  | .attest q n => some (q, judgeAttest n)
  | .ownClaim q d f => some (q, judgeClaim d f)
  | .ownRenew q d => some (q, judgeRenew d)
  | .ownRelease q d => some (q, judgeRelease d)
  | .ownHandover q d t => some (q, judgeHandover d t)
  | .ownQuery q => some (q, judgeQuery)
  | .regrd q a n e => some (q, judgeRegrd a n e)
  | .regwr q a ws e => some (q, judgeRegwr a ws e)
  | .stateReqCommission q => some (q, judgeStateReq 3 q)
  | .stateReqRun q => some (q, judgeStateReq 4 q)
  | .stateReqManual q => some (q, judgeStateReq 6 q)
  | .stateReqMaint q => some (q, judgeStateReq 9 q)
  | .stateReqLeave q => some (q, judgeStateReq 15 q)
  | .fullcoolExit q => some (q, judgeFcExit)
  | .ack q w x => some (q, judgeAck w x)
  | .setpoint q l v => some (q, judgeSetpoint l v)
  | .actionAdd q a => some (q, judgeActionAdd a)
  | .actionCancel q e => some (q, judgeActionCancel q e)
  | .phaseAnnounce q j st x => some (q, judgePhase j st x)
  | .stepMark q j st stamp => some (q, judgeStepMark j st stamp)
  | .jobSetClear q j => some (q, judgeJobSet j.toNat 0 [])
  | .jobSetAdd q j x => some (q, judgeJobSet j.toNat 1 (x.map (·.toNat)))
  | .jobSetRemove q j x => some (q, judgeJobSet j.toNat 2 (x.map (·.toNat)))
  | .ceilSet q e sc f x v => some (q, judgeCeilSet e.toNat sc.toNat f.toNat x.toNat v)
  | .ceilClear q e => some (q, judgeCeilClear e.toNat)
  | .xferOpen q k f n => some (q, judgeXferOpen k f n)
  | .xferRead q h o n => some (q, judgeXferRead h o n)
  | .xferDelete q h => some (q, judgeXferDelete h)
  | .storeAttach q => some (q, judgeStoreAttach)
  | .storeDetach q => some (q, judgeStoreDetach)
  | _ => none

/-- Whether a held request ends if it runs now: its state is legal, or another check fails first (R434). -/
def State.heldEnds (s : State) (k : Nat) (h : HeldReq) : Bool :=
  match heldJudge h.cmd with
  | none => false
  | some (q, j) => match (j k s).first q s with
    | some d => d.status != 0x10
    | none => true

/-- Whether the state is in a held request's bitmap. -/
def State.heldLegal (s : State) (h : HeldReq) : Bool := s.inMap h.legal

/-- The held requests of all mailboxes, with their session slot. -/
def State.heldAll (s : State) : List (Nat × HeldReq) :=
  (List.range 8).flatMap (fun k => (List.range 16).filterMap (fun m => (s.mailbox k m).held.map (fun h => (k, h))))

/-- A held request whose bitmap holds the state runs (R434), with every check again. -/
def State.runHeld (s : State) (k m : Nat) (h : HeldReq) : State :=
  if ¬ s.heldLegal h then s else
  match heldJudge h.cmd with
  | none => s
  | some (q, j) => s.rerun k m h q (j k s)

/-- DEFERRED_EXECUTE (R434): a held request runs. One that was accepted earlier and could run too goes first, and a change of state that a
request has asked for comes before the next request. -/
def execDeferredExecute (slot : Fin 8) (mbox : Fin 16) (s : State) : Host.Outcome State Fault Refusal :=
  .next (match (s.mailbox slot mbox).held with
    | none => s
    | some h =>
      if s.heldAll.any (fun p => decide (p.2.order < h.order) && s.heldLegal p.2 && s.heldEnds p.1 p.2) ∨ s.sys.stateReq ≠ [] then s
      else s.runHeld slot mbox h)

/-- The held requests that have become legal, in a tick (R434): in order of acceptance, each against the state that the one before has left,
which takes effect in that tick. -/
def State.heldTick (s : State) : State :=
  if s.fld Fd.SYS_DEFER_HELD = 0 then s else
  (s.heldAll.mergeSort (fun a b => decide (a.2.order ≤ b.2.order))).foldl (fun (s : State) p =>
    match (List.range 16).find? (fun m => (s.mailbox p.1 m).held == some p.2) with
    | some m => (s.runHeld p.1 m p.2).applyStateReqs
    | none => s) s

/-! ### What has run out -/

/-- What has run out by the end of a tick and no command has ended: offers, leases and sessions (R410, R416, R417, R539), quarantines (R441),
deferrals (R435), transfers (R426), device requests (R439), trials (R525) and the send key (R543). It ends before the next tick begins (log
entry 90). -/
def State.runOut (s : State) : State :=
  let s := (List.range 4).foldl (fun (s : State) d => (s.lapseOffer d).expireLease d) s
  let s := (List.range 8).foldl (fun (s : State) k => (s.timeoutSession k).timeoutOpening k) s
  let s := (s.zh.quarEnd.map (·.1)).foldl (fun (s : State) e => s.quarTick e) s
  let s := if s.fld Fd.SYS_DEFER_HELD = 0 then s else
    (List.range 8).foldl (fun (s : State) k => (List.range 16).foldl (fun (s : State) m => s.timeoutHeld k m) s) s
  let s := (s.zh.store.map (·.1)).foldl (fun (s : State) h => s.expireObj h) s
  ((s.zh.devs.map (·.tag)).foldl (fun (s : State) t => s.retryDevice t) s).secRunOut

end Sys2Proof.Machine
end

