-- ==== Sys2Proof/Machine/Recorder.lean ====
section
/-! DEFINITION. Firn's write window (R549, R550, R553 to R556, R558 to R560): the SUMMARY and LOST records, the merge queue, the sequence
numbers, the first and circulating areas, and the snapshots attached to records. -/

namespace Sys2Proof.Machine

/-- Serac's place in the order of R553: protection, loops in slot order, actuators, CAN FD, the pair, the rest; then the port die, then
the main die. -/
def FirnRec.before (x y : FirnRec) : Bool :=
  decide (x.cls < y.cls) || (x.cls == y.cls && (x.cls != 1 || decide (x.obj ≤ y.obj)))

/-- The words that a code attaches to its records (R560), as a read without effect shows them; none where SNAPEN is 0. -/
def State.captured (s : State) (code : Nat) : Option (List Word) :=
  if s.on (Fd.CODE_CFG_SNAPEN code) then
    let set := s.fld (Fd.CODE_CFG_SNAPSET code)
    some ((List.range (min 128 (s.fld (Fd.SS_CFG_N set)))).map (fun j => s.readValue (s.rd (Reg.SS_ADDR set j)).toNat))
  else none

/-- The codes with suppressed occurrences that hold a token (R559), in ascending order. -/
def State.summaryCodes (s : State) : List Nat :=
  ((s.regs.filter (fun p => decide (0xD010000 ≤ p.1) && decide (p.1 < 0xD014000) && p.1 % 16 == 4)).map
    (fun p => (p.1 - 0xD010000) / 16)).filter (fun c => s.fld (Fd.CODE_STAT_PEND c) != 0 && decide (100000 ≤ s.credit c))

/-- The SUMMARY of a code (R559): it takes the token, and PEND returns to 0. It is Firn's own record. -/
def State.summarise (s : State) (c : Nat) : State :=
  let r := FirnRec.make 0x3C4 c [s.fld (Fd.CODE_STAT_PEND c)] false
  let s := ((s.takeToken c).set (Fd.CODE_STAT_PEND c) 0).count (Reg.CODE_CNT 0x3C4)
  { s with firn := { s.firn with fresh := r :: s.firn.fresh } }

/-- Whether a record enters the first area (R556): its code has FIRST = 1, or it is the CLEAR record of that area (R564). -/
def State.entersFirst (s : State) (r : FirnRec) : Bool :=
  decide (s.firn.first.length < 8192) &&
  ((s.on (Fd.CODE_CFG_FIRST r.code) && s.on Fd.FRN_CTRL_FIRST_EN) || (r.code == 0x3C3 && bitOf (r.args.getD 1 0) 0))

/-- The record takes its number and the module's state (R549, R550). -/
def State.number (s : State) (r : FirnRec) : FirnRec :=
  { r with seq := s.firn.seq, state := s.opState, ret := s.fld Fd.SYS_STATE_RETURN, moduleId := s.sys.straps.moduleId, slot := s.sys.straps.slot,
           standby := s.opState == 2,
           snap := if r.src = 0 then r.snap else s.captured r.code,
           trig := s.on (Fd.CODE_CFG_TRIG r.code), snapId := if s.on (Fd.CODE_CFG_TRIG r.code) then s.nextSnapId else 0,
           first := s.entersFirst r }

/-- A record is written: into the circulating area, and into the first area where its code says so (R555, R556). -/
def State.writeRecord (s : State) (r : FirnRec) : State :=
  let r := s.number r
  let s := if r.trig then s.requestSnapshot else s
  let f := s.firn
  let s := { s with firn := { f with
    seq := f.seq + 1
    limit := if f.seq = f.limit then f.limit + 65536 else f.limit
    first := if r.first then r :: f.first else f.first
    circ := (r :: f.circ).take 65536
    recent := (s.clk.now, r.seq) :: f.recent } }
  let s := s.count Reg.FRN_CNT_WRITTEN
  if r.first ∧ s.firn.first.length = 8192 then s.raise Fd.FRN_EVT_FIRST_FULL noObj [] else s

/-- Records that find the queue full are lost, each an event (R551, R553). -/
def State.loseRecords (s : State) (l : List FirnRec) : State :=
  match l with
  | [] => s
  | r :: _ =>
    let f := s.firn
    let s := { s with firn := { f with lost := f.lost + l.length, lostSrc := if f.lost = 0 then r.src else f.lostSrc } }
    l.foldl (fun (s : State) _ => s.occur (eventCode Fd.FRN_EVT_LOST) noObj []) ((s.countBy Reg.FRN_CNT_LOST l.length).mark Fd.FRN_EVT_LOST)

/-- The LOST record of the next window, if records have been lost (R553). -/
def Firn.lostRecord (f : Firn) : List FirnRec := if f.lost = 0 then [] else [FirnRec.make 0x3C5 noObj [f.lost, f.lostSrc] false]

/-- Whether a record is the first of its window: BOOT (R550), and CLEAR, the first record of the areas cleared (R564). -/
def FirnRec.leads (r : FirnRec) : Bool := r.code == 0x3C0 || r.code == 0x3C3

/-- Everything that stands for writing in a window, in its order (R550, R553, R564): BOOT or CLEAR, LOST, the queue, and the records raised in
this tick; Serac's take their snapshots (R560). -/
def State.windowOrder (s : State) : List FirnRec :=
  let seen (l : List FirnRec) : List FirnRec := l.map (fun (r : FirnRec) => if r.src = 0 then { r with snap := s.captured r.code } else r)
  let fresh := seen s.firn.fresh
  fresh.filter FirnRec.leads ++ seen s.firn.lostRecord ++ s.firn.queue ++ sortBy FirnRec.before (fresh.filter (fun r => !r.leads))

/-- Firn's write window of a tick (R553): at most 32 records are written, 1,024 wait, and the rest are lost. -/
def State.writeWindow (s : State) : State :=
  let s := s.summaryCodes.reverse.foldl (fun (s : State) c => s.summarise c) s
  let l := s.windowOrder
  let s := if s.firn.lost = 0 then s else s.count (Reg.CODE_CNT 0x3C5)
  let s := { s with firn := { s.firn with fresh := [], lost := 0, lostSrc := 0, queue := (l.drop 32).take 1024,
                                          recent := s.firn.recent.filter (fun p => decide (s.clk.now < p.1 + msTicks 10)) } }
  let s := (l.take 32).foldl (fun (s : State) r => s.writeRecord r) s
  s.loseRecords ((l.drop 32).drop 1024)

end Sys2Proof.Machine
end

