-- ==== Sys2Proof/Machine/Sys.lean ====
section
/-! DEFINITION. The module as hardware (chapter 15): power and reset (R587, R590, R594, R595), straps (R585, R586), supplies (R333, R591,
R593), harnesses and optics (R604 to R607), the boot of the three dies (R522 to R525, R609), the resolution of the role (R474) and the
withdrawal of a takeover (R488). -/

namespace Sys2Proof.Machine

/-! ### What a reset keeps -/

/-- The registers that stand for non-volatile words (R180, R215, R218, R233, R523, R529, R531, R532, R536, R540, R572, R49): firmware slots,
leaf counts, trust entries, ceilings, fuses, the record sequence, the table definitions, and the retirements of pseudo-channels, arrays and
banks. -/
def keptWord (a : Nat) : Bool :=
  (decide (0xC000100 ≤ a) && decide (a < 0xC000130)) || a == Reg.SEC_DIK_USED || a == Reg.SEC_AK_GEN ||
  (decide (0xC010000 ≤ a) && decide (a < 0xC040000)) || (decide (0x5050000 ≤ a) && decide (a < 0x5058000)) || a == Reg.PLN_CEIL_USED ||
  a == Reg.DIA_FUSE_FREE || (decide (0xE010000 ≤ a) && decide (a < 0xE011000)) || a == Reg.SYS_CREC_SEQ ||
  (decide (0x4010000 ≤ a) && decide (a < 0x4050000)) || retiredWord a

/-- The words of measurements and pins, which go on while logic power is kept. -/
def liveWord (a : Nat) : Bool :=
  a == Reg.ACT_HW_STAT || a == Reg.ACT_VIN || a == Reg.ACT_VACT || a == Reg.ACT_IFS || a == Reg.ACT_THERM0 || a == Reg.ACT_THERM1 ||
  a == Reg.FRN_ANC_HEAD

/-- The fields of mixed words that a reset keeps: POS and SPARE of the solenoid channels (R327, R344), PAI_PLVL.CAP (R507), and, with
logic power, the supplies of ACT_STAT and the pins of PAI_STAT. -/
def State.keptFields (r s : State) (keep : Bool) : State :=
  let r := (List.range 64).foldl (fun (r : State) k =>
    (r.set (Fd.SOL_STAT_POS k) (s.fld (Fd.SOL_STAT_POS k))).set (Fd.SOL_STAT_SPARE k) (s.fld (Fd.SOL_STAT_SPARE k))) r
  let r := (List.range 64).foldl (fun (r : State) t => r.set (Fd.TILE_STAT_PART t) 0) r
  let r := r.set Fd.PAI_PLVL_CAP (s.fld Fd.PAI_PLVL_CAP)
  let fs := [Fd.ACT_STAT_AA, Fd.ACT_STAT_AB, Fd.ACT_STAT_BUDGET, Fd.PAI_STAT_SEL, Fd.PAI_STAT_PEER_HEALTH]
  if keep then fs.foldl (fun (r : State) f => r.set f (s.fld f)) r else r

/-- Whether the inlet water lets a main die that its thermal limit has powered down start again (R598): below 40 °C. -/
def State.waterCool (s : State) : Bool := (tempOf (s.fld Fd.ACT_THERM1_INLET)).any (fun t => decide (t < 40 * 128))

/-- The module's own part after a reset. -/
def Sys.after (y : Sys) (keep cool : Bool) (cause : Nat) : Sys :=
  { State.reset.sys with mated := y.mated, mateAt := y.mateAt, straps := y.straps, pins := y.pins, crec := y.crec, harn := y.harn,
                         portThermal := y.portThermal && keep, mainThermal := y.mainThermal && keep && !cool, bootCause := cause,
                         powered := y.powered && keep, pfail := y.pfail && keep, shedFrom := if keep then y.shedFrom else none }

/-- The leaves, entries of trust and firmware images that a reset keeps (R523, R528, R532, R535). -/
def Sec.after (x : Sec) : Sec := { State.reset.sec with akm := x.akm, akp := x.akp, fwImages := x.fwImages, enr := x.enr, pkey := x.pkey }

/-- Firn after a module reset with logic power kept (R553, R554): records that wait are lost, and their number is kept. -/
def Firn.afterReset (f : Firn) : Firn :=
  let waiting := f.queue ++ sortBy FirnRec.before f.fresh
  let src := if f.lost ≠ 0 then f.lostSrc else match waiting with | r :: _ => r.src | [] => 0
  { State.reset.firn with seq := f.seq, limit := f.limit, first := f.first, circ := f.circ, ring := f.ring, anchors := f.anchors,
                          anchorRing := f.anchorRing, mirror := f.mirror, recent := f.recent, lost := f.lost + waiting.length, lostSrc := src }

/-- Firn after a loss of logic power (R550, R554, R556): SEQ goes to LIMIT, the circulating area and the ring are lost, and each record
written to the first area within the last 10 ms may be lost from it: a free value decides. -/
def State.firnAfterLoss (s : State) : State :=
  let young := s.firn.recent.filter (fun p => decide (s.clk.now < p.1 + msTicks 10))
  let gone := young.filter (fun p => (Config.freeValue (s.fresh + p.2)) % 2 == 1)
  let f := s.firn
  let n := { State.reset.firn with seq := f.limit, limit := f.limit, mirror := f.limit,
                                   first := f.first.filter (fun r => !gone.any (fun p => p.2 == r.seq)) }
  { s with firn := n, fresh := s.fresh + young.foldl (fun m p => max m (p.2 + 1)) 0 }

/-- The parts of Zhoide that a reset keeps: the non-volatile image store, and the image store in DDR4 and the session numbers while logic
power is kept (R215, R426, R532). -/
def Zhoide.after (z : Zhoide) (keep : Bool) : Zhoide :=
  { State.reset.zh with nvStore := z.nvStore, store := if keep then z.store else [], lastSession := if keep then z.lastSession else 0 }

/-- The actuators after a reset: run intents (R315), spare switches in use (R344), wear (R346), and the measured supplies. -/
def Acts.after (x : Acts) (keep : Bool) (wear : List (Nat × Word)) (now : Nat) : Acts :=
  { State.reset.acts with pump := x.pump.map (fun (p : Nat × Pump) => (p.1, { Pump.idle with intent := p.2.intent })), spareUsed := x.spareUsed,
                          nvWear := wear, wearAt := now, volts := if keep then x.volts else (0, 0),
                          busFrom := if keep then x.busFrom else none }

/-- The racks whose valve stays CLOSED keep since when, so that their standing trip follows (R370, log entry 89). -/
def State.stillIsolated (s : State) : Tab RackP :=
  s.prt.rack.filterMap (fun (p : Nat × RackP) => if s.isolated p.1 then
    some (p.1, { RackP.idle with closedAt := p.2.closedAt, isoTrip := p.2.isoTrip }) else none)

/-- The spare switches in use that no entry of Serac holds are free again after its reset (R344, R572). -/
def State.forgetSpares (s : State) : State :=
  if s.dia.spares.isEmpty then s else
  let gone := s.dia.spares
  let s := { s with acts := { s.acts with spareUsed := s.acts.spareUsed.filter (fun b => !gone.contains b) }, dia := { s.dia with spares := [] } }
  (List.range 64).foldl (fun (s : State) k => if gone.contains (k / 8) then s.set (Fd.SOL_STAT_SPARE k) 0 else s) s

/-- A module reset (`keep`) or a loss of logic power: every register and every piece of state takes its reset value, but for what the
non-volatile stores, and with logic power DDR4, the circulating area and the pins, keep (R12, R215, R298, R346, R528, R550, R554, R572). -/
def State.restart (s : State) (keep : Bool) (cause : Nat) : State :=
  let s := s.forgetRetirements.forgetSpares
  let wear := if keep then s.wearWords else s.acts.nvWear
  let r : State := { State.reset with
    pending := s.pending, out := s.out, fresh := s.fresh, regs := s.regs.filter (fun p => keptWord p.1 || (keep && liveWord p.1)),
    clk := { State.reset.clk with now := s.clk.now },
    zh := s.zh.after keep, sys := s.sys.after keep s.waterCool cause, sec := s.sec.after, acts := s.acts.after keep wear s.clk.now,
    prt := { State.reset.prt with rack := s.stillIsolated }, lop := { State.reset.lop with nv := s.lop.nv }, stm := { State.reset.stm with row := s.stm.row }, dia := if keep then s.dia else State.reset.dia,
    plan := { State.reset.plan with clSeq := s.plan.clSeq, clVal := s.plan.clVal }, tbl := { s.tbl with ckpt := if keep then s.tbl.ckpt else none },
    ice := { State.reset.ice with capture := if keep then s.ice.capture else [], snaps := if keep then s.ice.snaps else [],
                                  retire := s.ice.retire } }
  let r := wear.foldl (fun (r : State) p => r.wr p.1 p.2) (r.keptFields s keep)
  let r := r.tablesReset
  let r := ((r.applyRepairs 0).applyRepairs 1).applyRepairs 2
  if keep then { r with firn := s.firn.afterReset } else ({ r with firn := s.firn }).firnAfterLoss

/-- Logic power goes: the module stops. -/
def State.logicOff (s : State) : State := s.restart false 0

/-! ### Power, straps and resets -/

/-- Serac samples the straps and the pins stand at the same values (R585); HOLD keeps the main die unpowered (R586). -/
def State.sampleStraps (s : State) (pins : Straps) : State :=
  s.setSys { s.sys with straps := pins, pins := pins, hold := pins.bsrc.val == 1 }

/-- POWER_ON (R609): the first logic input passes 38.5 V with MATE_N mated. AK-P's NEXT starts at LIMIT (R528). -/
def execPowerOn (pins : Straps) (s : State) : Host.Outcome State Fault Refusal :=
  .next (if s.sys.mated ∧ ¬ s.sys.powered then
      let x := s.sec.akp
      let s := (s.setSys { s.sys with powered := true, bootCause := 0 }).sampleStraps pins
      ({ s with sec := { s.sec with akp := x.powered } }).tellLow 2 x x.powered
    else s)

/-- MODULE_RESET_INPUT (R587): MRST_N is low for 5 µs or more. During hold-up the module does not come back before its power ends. -/
def execModuleResetInput (s : State) : Host.Outcome State Fault Refusal :=
  .next (if s.sys.powered ∧ ¬ s.sys.inReset then
      (if s.sys.powerEnd.isSome then s.logicOff else
        let r := s.restart true 1
        r.setSys { r.sys with inReset := true })
    else s)

/-- MODULE_RESET_RELEASE (R587, R585): the module starts from the 20 ms point of its start-up, and Serac samples the straps. -/
def execModuleResetRelease (pins : Straps) (s : State) : Host.Outcome State Fault Refusal :=
  .next (if s.sys.powered ∧ s.sys.inReset then (s.setSys { s.sys with inReset := false }).sampleStraps pins else s)

/-- MODULE_INSERT (R590): MATE_N mates. -/
def execModuleInsert (s : State) : Host.Outcome State Fault Refusal :=
  .next (if s.sys.mated then s else s.setSys { s.sys with mated := true, mateAt := s.clk.now })

/-- MODULE_WITHDRAW (R590): MATE_N breaks; HEALTH is deasserted and every input is turned off. -/
def execModuleWithdraw (s : State) : Host.Outcome State Fault Refusal :=
  .next (if s.sys.mated then (let r := s.logicOff; r.setSys { r.sys with mated := false }) else s)

/-- The bit and the event of a logic input. -/
def inputOk (n : Fin 2) : Fld := if n = 0 then Fd.ACT_HW_STAT_PA_OK else Fd.ACT_HW_STAT_PB_OK
def inputVolts (n : Fin 2) : Fld := if n = 0 then Fd.ACT_VIN_PA else Fd.ACT_VIN_PB
def inputLost (n : Fin 2) : Fld := if n = 0 then Fd.ACT_HWEVT_PA_LOST else Fd.ACT_HWEVT_PB_LOST

/-- The operating range of an input, 40 to 60 V in 10 mV (R591). -/
def logicInRange (v : Nat) : Bool := decide (4000 ≤ v) && decide (v ≤ 6000)

/-- A logic input has left its range (R595, R39): the module continues on the other input. -/
def State.loseInput (s : State) (input : Fin 2) : State := (s.set (inputOk input) 0).raise (inputLost input) noObj []

/-- A logic input is within its range. -/
def State.regainInput (s : State) (input : Fin 2) : State :=
  let s := s.set (inputOk input) 1
  s.setSys { s.sys with pfail := false }

/-- A measured voltage of a logic input: PA_OK and PB_OK follow it (R595, R612). -/
def State.judgeInput (s : State) (input : Fin 2) (volts : Nat) : State :=
  let s := s.set (inputVolts input) volts
  if logicInRange volts = s.on (inputOk input) then s else if logicInRange volts then s.regainInput input else s.loseInput input

/-- LOGIC_INPUT_LOST (R595, R39): an input leaves its range. -/
def execLogicInputLost (input : Fin 2) (volts : Fin 65536) (s : State) : Host.Outcome State Fault Refusal :=
  .next (if s.on (inputOk input) ∧ ¬ logicInRange volts then s.judgeInput input volts else s)

/-- LOGIC_INPUT_RESTORED (R595): the input is within its range again. -/
def execLogicInputRestored (input : Fin 2) (volts : Fin 65536) (s : State) : Host.Outcome State Fault Refusal :=
  .next (if s.sys.powered ∧ ¬ s.on (inputOk input) ∧ logicInRange volts then s.judgeInput input volts else s)

/-- LOGIC_POWER_FAIL (R595, R591): both logic inputs fall through 36.0 V. HEALTH is deasserted, and the module runs on for a hold-up of
5 ms; without a running Serac nothing is left to run. -/
def execLogicPowerFail (s : State) : Host.Outcome State Fault Refusal :=
  .next (if s.sys.powered ∧ ¬ s.sys.pfail then
      (if s.sys.seracUp then
        let s := (s.set Fd.ACT_HW_STAT_PA_OK 0).set Fd.ACT_HW_STAT_PB_OK 0
        s.setSys { s.sys with pfail := true, health := false, powerEnd := some (s.clk.now + msTicks 5) }
      else s.logicOff)
    else s)

/-! ### Supplies -/

/-- The presence of an actuator input from its voltage in 10 mV (R591): on above 38.5 V rising, off below 36.0 V falling. -/
def supplyOn (was : Bool) (v : Nat) : Bool := if was then decide (3600 ≤ v) else decide (3850 ≤ v)

/-- The actuator inputs present, and the budget of 40 A for each (R333); a change of it is told. -/
def State.judgeSupply (s : State) : State :=
  let a := supplyOn (s.on Fd.ACT_STAT_AA) s.acts.volts.1
  let b := supplyOn (s.on Fd.ACT_STAT_AB) s.acts.volts.2
  if a = s.on Fd.ACT_STAT_AA ∧ b = s.on Fd.ACT_STAT_AB then s else
  let old := s.fld Fd.ACT_STAT_BUDGET
  let n := 40 * (b2n a + b2n b)
  let s := ((s.setB Fd.ACT_STAT_AA a).setB Fd.ACT_STAT_AB b).set Fd.ACT_STAT_BUDGET n
  if n = old then s else s.raise Fd.ACT_EVT_SUPPLY noObj []

/-- ACTUATOR_SUPPLY_CHANGE (R333). -/
def execActuatorSupplyChange (s : State) : Host.Outcome State Fault Refusal :=
  .next (if s.sys.seracUp then s.judgeSupply else s)

/-- FIELD_SUPPLY_LIMIT (R593): the field 24 V supply reaches 2.8 A, limits, and sheds its loads. -/
def execFieldSupplyLimit (ma : Fin 65536) (s : State) : Host.Outcome State Fault Refusal :=
  .next (if s.sys.seracUp ∧ 2800 ≤ ma.val ∧ ¬ s.on Fd.ACT_HW_STAT_FS_SHED then
      let s := ((s.set Fd.ACT_HW_STAT_FS_SHED 1).set Fd.ACT_IFS_MA ma).raise Fd.ACT_HWEVT_FS_LIMIT noObj []
      s.setSys { s.sys with shedFrom := none }
    else s)

/-- The loads shed return 1 s after the total has fallen below 2.4 A (R593). -/
def State.restoreLoads (s : State) : State :=
  if s.sys.shedFrom.any (fun t => decide (t + sTicks 1 ≤ s.clk.now)) ∧ s.on Fd.ACT_HW_STAT_FS_SHED then
    let s := s.set Fd.ACT_HW_STAT_FS_SHED 0
    s.setSys { s.sys with shedFrom := none }
  else s

/-- FIELD_SUPPLY_RESTORE (R593): the total is still below 2.4 A. -/
def execFieldSupplyRestore (ma : Fin 65536) (s : State) : Host.Outcome State Fault Refusal :=
  .next (if s.on Fd.ACT_HW_STAT_FS_SHED ∧ ma.val < 2400 then (s.set Fd.ACT_IFS_MA ma).restoreLoads else s)

/-- What has run out of the supplies by the end of a tick and no command has ended (log entry 90): a change of the actuator supplies that has been
latched (R333), and the second after which loads return (R593). -/
def State.supplyRunOut (s : State) : State := s.judgeSupply.restoreLoads

/-! ### Pins, harnesses and optics -/

/-- STRAP_CHANGE (R585): a live strap changes. The sampled values stand until the next module reset. -/
def execStrapChange (pins : Straps) (s : State) : Host.Outcome State Fault Refusal :=
  .next (if pins = s.sys.pins then s else
    let s := s.setSys { s.sys with pins := pins }
    if s.sys.seracUp then s.raise Fd.ACT_HWEVT_STRAP_CHG noObj [] else s)

/-- SEL_CHANGE (R600, R487): excitation ends with SEL, and starts at the next tick edge at which SEL reads 1. -/
def execSelChange (sel : Bool) (s : State) : Host.Outcome State Fault Refusal :=
  .next (
    let s := (s.setB Fd.ACT_HW_STAT_SEL sel).setB Fd.PAI_STAT_SEL sel
    if sel then s.setPair { s.pair with tookAt := none } else s.setSys { s.sys with excite := false })

/-- Whether an identity memory passes the checks of R605 but its CRC: length, MAGIC and LEVEL (Table 10). -/
def harnessForm (m : List Byte) : Bool := decide (128 ≤ m.length) && beAt m 0 2 == 0xF1B0 && beAt m 2 1 == 1

/-- Whether its CRC is correct. -/
def harnessCrc (m : List Byte) : Bool := decide (128 ≤ m.length) && beAt m 124 4 == crc32 (m.take 124)

/-- Serac reads a harness position (R605, R606): what stands there is in `sys.harn`. -/
def State.readHarness (s : State) (h : Nat) : State :=
  let s := ((s.wr (Reg.HN_STAT h) 0).wr (Reg.HN_ID h) 0).wr (Reg.HN_SER_LO h) 0 |>.wr (Reg.HN_SER_HI h) 0
  let s := match Tab.find s.sys.harn h with
    | none => s
    | some none => s.set (Fd.HN_STAT_PRESENT h) 1
    | some (some m) =>
      let s := s.set (Fd.HN_STAT_PRESENT h) 1
      if ¬ harnessCrc m then s.set (Fd.HN_STAT_CRC_ERR h) 1
      else if ¬ harnessForm m then s
      else
        let s := s.set (Fd.HN_STAT_READ_OK h) 1
        let s := ((s.set (Fd.HN_ID_KIND h) (beAt m 3 1)).set (Fd.HN_ID_VARIANT h) (beAt m 4 1)).set (Fd.HN_ID_LEVEL h) (beAt m 2 1)
        (s.wr (Reg.HN_SER_HI h) (BitVec.ofNat 32 (beAt m 8 4))).wr (Reg.HN_SER_LO h) (BitVec.ofNat 32 (beAt m 12 4))
  s.showMatch h

/-- HARNESS_CHANGE (R605): the presence at a position changes; Serac reads the position, and the change is told. -/
def execHarnessChange (pos : Fin 8) (present : Bool) (mem : Option (List Byte)) (s : State) : Host.Outcome State Fault Refusal :=
  .next (
    let s := s.setSys { s.sys with harn := if present then s.sys.harn.put pos mem else s.sys.harn.del pos }
    if s.sys.seracUp then (s.readHarness pos).raise Fd.ACT_HWEVT_HARNESS pos [] else s)

/-- OPTIC_PRESENT (R607): the port die has read the module's memory; MEDIA is the PHY it names, or 0. -/
def execOpticPresent (port : Fin 16) (media : Fin 6) (s : State) : Host.Outcome State Fault Refusal :=
  .next (if s.sys.portUp ∧ portExists port then s.set (Fd.PORT_STAT_MEDIA port) media else s)

/-! ### The boot of a part (R522, R523, R525) -/

/-- The trial slots of a part that have had three attempts become BAD (R525). -/
def State.endTrials (s : State) (p : Nat) : State :=
  (List.range 2).foldl (fun (s : State) b =>
    if s.fwStat p b = 2 ∧ 3 ≤ s.fld (Fd.FW_SLOT_ATTEMPTS p) then (s.set (fwState p b) 4).raise Fd.SEC_EVT_FW_FALLBACK noObj [p] else s) s

/-- The order in which a part tries its slots: TRIAL, GOOD, then VALID; under ALTERNATE the slot that is not GOOD first (R523). -/
def State.bootOrder (s : State) (p : Nat) : List Nat :=
  let pick (st : Nat) : List Nat := (List.range 2).filter (fun b => s.fwStat p b == st)
  if s.sys.straps.bsrc.val = 2 then pick 2 ++ pick 1 ++ pick 3 else pick 2 ++ pick 3 ++ pick 1

/-- A part boots the first slot whose image is accepted (R523). `okA` and `okB` say whether the slots' images are accepted by R522. None
where no slot's is. -/
def State.bootPart (s : State) (p : Nat) (okA okB : Bool) : Option State :=
  let s := s.endTrials p
  ((s.bootOrder p).find? (fun b => if b = 0 then okA else okB)).map (fun b =>
    let s := if s.fwStat p b = 2 then s.bump (Fd.FW_SLOT_ATTEMPTS p) else s
    let m := s.fwImage p b
    let s := (s.set (Fd.FW_SLOT_RUN p) b).set (Fd.FW_SVN_LEVEL p) (beAt m 5 1)
    let s := s.set (Fd.FW_SVN_SVN p) (fwSvn m)
    s.wr (if b = 0 then Reg.FW_VERA p else Reg.FW_VERB p) (BitVec.ofNat 32 (fwVersion m)))

/-- The running level a module starts from (R506, R507): the firmware of level g speaks g − 1 and g. -/
def State.startLevels (s : State) : State :=
  let g := s.fld (Fd.FW_SVN_LEVEL 0)
  let s := (s.set Fd.PAI_PLVL_MIN (g - 1)).set Fd.PAI_PLVL_MAX g
  let run := levelTop (g - 1) g (s.fld Fd.PAI_PLVL_CAP)
  let s := (s.set Fd.PAI_PLVL_RUN run).set Fd.PAI_LVL_RUN run
  (s.set Fd.PAI_LVL_MIN (g - 1)).set Fd.PAI_LVL_MAX g

/-- The running slots of the three parts, bit p for part p (ARG1 of BOOT). -/
def State.runBits (s : State) : Nat := s.fld (Fd.FW_SLOT_RUN 0) + 2 * s.fld (Fd.FW_SLOT_RUN 1) + 4 * s.fld (Fd.FW_SLOT_RUN 2)

/-- Entry to BOOT (R43, R609, R51, R298, R605): Serac runs, the other dies are absent until they do, and the harnesses, the record and
the loops' store are read. -/
def State.enterBoot (s : State) : State :=
  let s := s.setSys { s.sys with seracUp := true, bootAt := s.clk.now, firstTick := true, health := false, wdog := false,
                                 readyAt := [], hold := s.sys.straps.bsrc.val == 1 }
  let s := s.occur 0x3C0 noObj [s.sys.bootCause, s.runBits]
  let s := (s.setB Fd.PAI_STAT_PAIRED s.sys.straps.paired).startLevels
  let s := (((s.set Fd.SYS_STATE_MAIN_ABSENT 1).set Fd.LOP_STAT_MAIN_ABSENT 1).set Fd.SYS_STATE_PORT_ABSENT 1).set Fd.PRT_STAT_PORT_ABSENT 1
  let f := s.free
  let s := f.2.setB Fd.ACT_HW_STAT_FS_OK (f.1 % 2 == 1)
  let s := s.enter 1 0
  let s := (List.range 8).foldl (fun (s : State) h => s.readHarness h) s
  let s := (s.restoreLoops).judgeRecord true
  let s := (List.range 48).foldl (fun (s : State) r => s.checkPos r) s
  s.judgeTick

/-- SERAC_BOOT_VERIFY_DONE (R43, R524): Serac passes its self-test and verifies its firmware; else it stays in POWERUP. -/
def execSeracBootVerifyDone (selfTest okA okB : Bool) (s : State) : Host.Outcome State Fault Refusal :=
  .next (if s.sys.powered ∧ ¬ s.sys.inReset ∧ ¬ s.sys.seracUp ∧ selfTest then
      match s.bootPart 0 okA okB with
      | some t => t.enterBoot
      | none => s.endTrials 0
    else s)

/-- PORT_DIE_BOOT_DONE (R524, R543): the port die's verification ends. It runs an accepted image, or stays in reset; Serac then powers
and releases the main die in either case. -/
def execPortDieBootDone (okA okB : Bool) (s : State) : Host.Outcome State Fault Refusal :=
  .next (if s.sys.seracUp ∧ ¬ s.sys.portUp ∧ ¬ s.sys.portThermal then
      let s := match s.bootPart 1 okA okB with
        | none => s.endTrials 1
        | some s =>
          let s := s.setSys { s.sys with portUp := true }
          let r := s.random 32
          let s := { r.2 with sec := { r.2.sec with sendKey := r.1, sendAt := r.2.clk.now } }
          s.startExchanges
      if s.sys.mainPowered then s else s.releaseMain
    else s)

/-- MAIN_DIE_BOOT_DONE (R524, R608, R170): DDR4 and stacks have trained and the main die's verification ends; its firmware loads the
slots of a valid record. -/
def execMainDieBootDone (okA okB : Bool) (s : State) : Host.Outcome State Fault Refusal :=
  .next (if s.sys.mainPowered ∧ ¬ s.sys.mainHeld ∧ ¬ s.sys.mainUp then
      match s.bootPart 2 okA okB with
      | none => s.endTrials 2
      | some s =>
        let s := s.setSys { s.sys with mainUp := true }
        match s.sys.crec with
        | some r => if s.recordValid then s.loadRecord r else s
        | none => s
    else s)

/-! ### The role -/

/-- The role that R474 gives: true for ACTIVE. A partner heard only as STANDBY is judged by PEER_HEALTH, as no heartbeat is. -/
def State.becomesActive (s : State) : Bool :=
  if ¬ s.on Fd.PAI_STAT_PAIRED then true
  else match s.pair.last.map (fun h => h.role.val) with
    | some 1 => false
    | some 0 => s.sys.straps.slot == 0
    | _ => !s.on Fd.PAI_STAT_PEER_HEALTH

/-- The module is active from BOOT (R474, R43, R586): it drives its outputs from the TABLE mode tables and asserts HEALTH. -/
def State.resolveActive (s : State) : State :=
  let s := s.set Fd.PAI_STAT_ROLE 1
  let s := s.setSys { s.sys with health := true, readyAt := s.sys.readyAt.put 0 s.clk.now }
  s.takeOutputs.takeRow.judgeTick.leaveBoot

/-- The module is standby from BOOT (R474, R475, R506): its main die is cold, and it runs at the partner's level. -/
def State.resolveStandby (s : State) : State :=
  let s := s.set Fd.PAI_STAT_ROLE 2
  let s := s.setSys { s.sys with readyAt := s.sys.readyAt.put 0 s.clk.now }
  let s := s.enter 2 0
  let s := match s.pair.last with
    | some h => if s.fld Fd.PAI_PLVL_MIN ≤ h.lrun.toNat ∧ h.lrun.toNat ≤ s.fld Fd.PAI_PLVL_MAX then s.set Fd.PAI_PLVL_RUN h.lrun.toNat else s
    | none => s
  let s := if s.sys.mainPowered then s.powerMainDown else s
  s.judgeTick

/-- ROLE_RESOLVE (R473, R474, R589): an unpaired module at once, a paired one after 50 ms of BOOT; never after a strap mismatch. -/
def execRoleResolve (s : State) : Host.Outcome State Fault Refusal :=
  .next (if s.opState = 1 ∧ s.fld Fd.PAI_STAT_ROLE = 0 ∧ ¬ s.sys.mismatch ∧
        (¬ s.on Fd.PAI_STAT_PAIRED ∨ s.sys.bootAt + msTicks 50 ≤ s.clk.now) then
      (if s.becomesActive then s.resolveActive else s.resolveStandby)
    else s)

/-- A module that has taken over still reads SEL = 0 5 ms after it and `more` ticks (R488): it deasserts HEALTH, tells it, and resets. -/
def State.withdraw (s : State) (more : Nat) : State :=
  if s.isActive ∧ ¬ s.on Fd.PAI_STAT_SEL ∧ s.pair.tookAt.any (fun t => decide (t + msTicks 5 + more ≤ s.clk.now)) then
    let s := s.setSys { s.sys with health := false }
    let s := ((s.raise Fd.PAI_EVT_SPLIT noObj []).count Reg.PAI_CNT_SPLIT).writeWindow
    let r := s.restart true 3
    r.sampleStraps s.sys.pins
  else s

/-- SPLIT (R488). -/
def execSplit (s : State) : Host.Outcome State Fault Refusal := .next (s.withdraw 0)

end Sys2Proof.Machine
end

