-- ==== Sys2Proof/Machine/Tick.lean ====
section
/-! DEFINITION. The tick edge (R31) and the frame boundary (R32): what a tick latches, evaluates, drives and writes, in the order of
Table 4 of chapter 01, and what begins with each frame. The boundary of frame k belongs to the tick edge of sample index 100k: the row
FRAME_BOUNDARY begins that edge, and TICK_EDGE begins it where FRAME_BOUNDARY has not (log entry 39). -/

namespace Sys2Proof.Machine

/-! ### The inputs latched -/

/-- Whether the air region or Serac is too hot (R597, R598). -/
def State.airHot (s : State) : Bool :=
  (tempOf (s.fld Fd.ACT_THERM0_AIR)).any (fun t => decide (55 * 128 < t)) ||
  (tempOf (s.fld Fd.ACT_THERM0_SERAC)).any (fun t => decide (125 * 128 ≤ t))

/-- Whether the water is too warm (R596). -/
def State.waterHot (s : State) : Bool :=
  (tempOf (s.fld Fd.ACT_THERM1_INLET)).any (fun t => decide (40 * 128 < t)) ||
  (tempOf (s.fld Fd.ACT_THERM1_OUTLET)).any (fun t => decide (50 * 128 < t))

/-- PEER_HEALTH as latched, with the tick since which it is low after having been high (R480). -/
def State.latchPeer (s : State) (on : Bool) : State :=
  let was := s.on Fd.PAI_STAT_PEER_HEALTH
  let s := s.setB Fd.PAI_STAT_PEER_HEALTH on
  if on then s.setPair { s.pair with peerLow := none }
  else if was then s.setPair { s.pair with peerLow := some s.clk.now } else s

/-- One latched input (R31): a field input, a feedback, a supply or a pin. -/
def State.applyLatch (s : State) (l : Latch) : State :=
  match l with
  | .input i m => s.latchInput i m
  | .digital v => s.wr Reg.ACT_DI (v.setWidth 32)
  | .fltN p low => s.latchFlt p low
  | .valve v cond => s.latchValve v cond
  | .bank b ma => s.set (Fd.BANK_STAT_I_BANK b) ma
  | .fan f ma => s.latchFan f ma
  | .tach f rpm => s.latchTach f rpm
  | .vin pa pb =>
    (s.judgeInput 0 pa.toNat).judgeInput 1 pb.toNat
  | .vact aa ab =>
    let s := (s.set Fd.ACT_VACT_AA aa.toNat).set Fd.ACT_VACT_AB ab.toNat
    let up := decide (4000 < max aa.toNat ab.toNat)
    { s with acts := { s.acts with volts := (aa.toNat, ab.toNat),
                                   busFrom := if up then s.acts.busFrom.orElse (fun _ => some s.clk.now) else none } }
  | .ifs ma =>
    let s := s.set Fd.ACT_IFS_MA ma.toNat
    s.setSys { s.sys with shedFrom := if s.on Fd.ACT_HW_STAT_FS_SHED ∧ ma.toNat < 2400 then s.sys.shedFrom.orElse (fun _ => some s.clk.now) else none }
  | .therm0 air serac =>
    let was := s.airHot
    let s := (s.set Fd.ACT_THERM0_AIR air.toNat).set Fd.ACT_THERM0_SERAC serac.toNat
    if s.airHot ∧ ¬ was then s.raise Fd.ACT_HWEVT_AIR_HOT noObj [] else s
  | .therm1 inlet outlet =>
    let was := s.waterHot
    let s := (s.set Fd.ACT_THERM1_INLET inlet.toNat).set Fd.ACT_THERM1_OUTLET outlet.toNat
    if s.waterHot ∧ ¬ was then s.raise Fd.ACT_HWEVT_WATER noObj [] else s
  | .fcInd on => s.setB Fd.ACT_HW_STAT_FC_IND on
  | .peerHealth on => s.latchPeer on

/-! ### The edge -/

/-- What the next tick edge takes from the partner's tick marker: the sample index and LOP_TCNT (R78, R269). -/
abbrev Mark := Option (BitVec 64 × BitVec 64)

/-- How far the edges slew onto the whole multiples of 10 µs of module time in one tick (R72): by at most 2 ns, to the nearer multiple
(log entry 37). -/
def edgeSlew (m : Nat) : Int :=
  let r := m % 10000
  if r ≤ 5000 then -((min 2 r : Nat) : Int) else ((min 2 (10000 - r) : Nat) : Int)

/-- Module time over a tick (R61, R72): 10,000 ns slewed onto whole multiples of 10 µs where the tick follows module time; otherwise 10,000 ns
at the servo's rate, a part of a ns carried. -/
def State.passTime (s : State) : State :=
  if s.fld Fd.TIM_STAT_TICK_SRC = 1 then
    { s with clk := { s.clk with mtime := s.clk.mtime + BitVec.ofInt 64 (10000 + edgeSlew s.clk.mtime.toNat) } }
  else
    let f := s.servo.frac + s.servo.rate
    { s with clk := { s.clk with mtime := s.clk.mtime + BitVec.ofInt 64 (10000 + f / 100000) }, servo := { s.servo with frac := f % 100000 } }

/-- Time at a tick edge (R73, R59, R269): the sample index is 0 at the first tick after POWERUP. -/
def State.advance (s : State) (mk : Mark) : State :=
  let s := s.passTime
  let c := s.clk
  let next := mk.getD (if s.sys.firstTick then c.sidx else c.sidx + 1, c.tcnt + 1)
  let s := { s with clk := { c with now := c.now + 1, sidx := next.1, tcnt := next.2 } }
  s.setSys { s.sys with firstTick := false }

/-- The trackers of a tick, with the segments that are late for a phase that begins (R81, R199). -/
def State.jobsTick (s : State) : State :=
  let old := s.jobs
  let s := s.tickJobs
  if ¬ s.mainRuns then s else
  s.jobs.foldl (fun (s : State) (p : Nat × Job) =>
    let was := (Tab.find old p.1).bind Job.phase
    if p.2.phase ≠ was ∧ (s.jobState p.1 = 2 ∨ s.jobState p.1 = 3) then p.2.phase.elim s (fun ph => s.latePhase p.1 ph) else s) s

/-- The partner's index, where its marker jumps ahead of the last tick's (R78, R96). -/
def State.followMark (s : State) (p : BitVec 64) (mk : Mark) : State :=
  match mk with
  | some m => if diff64 m.1 p > 1 then s.jumpIndex p m.1 else s
  | none => s

/-- What has run out of the pair by the end of a tick and no command has ended (log entry 90): the heartbeat of tick 50 (R478), READY (R494), the
declarations of R479 and R480, proposals without ACCEPT (R491), the row addresses (R489), a partner read (R477), images (R484) and input
records (R500). A lane of the pair link is not among them (log entry 92). -/
def State.pairRunOut (s : State) : State :=
  if ¬ s.on Fd.PAI_STAT_PAIRED then s.repeatRow else
  let s := s.sendHeartbeat.offerReady.judgePartner.judgePeer
  let s := (s.pair.bars.map (fun x => x.msg.id.val)).foldl (fun (s : State) id => s.cancelBar id) s
  s.repeatRow.timeoutPeek.staleImage.gapEnds

/-- How a tick edge begins: what has run out, time, a takeover (R486) and the trackers (R81), waiting writes (R264), cancels (R86), and the
partner's index (R78). -/
def State.edgeBase (s : State) (mk : Mark) : State :=
  (s.runOut.canRunOut.pairRunOut.fedRunOut.firnRunOut.supplyRunOut.advance mk).takeoverNow.jobsTick.applyWaiting.settleCancels.followMark s.clk.sidx mk

/-- What takes effect at a tick edge before a frame's work: its beginning, a jump of the sample index (R74, R77), the time anchors (R561), an
authorised clear (R564), the snapshot of this tick (R100), the actions due (R88, R89), the deadline of the frame run (R172) and the commit of
the frame before (R206). -/
def State.edgeTo (s : State) (mk : Mark) : State :=
  (s.edgeBase mk).anchorNow.reanchorNow.secondNow.freeNow.applyClear.snapshotNow.fireDue.deadlineNow.commitNow

/-- The edge of a tick that no marker begins. -/
def State.edge (s : State) : State := s.edgeTo none

/-! ### The frame boundary -/

/-- The main die's part of a boundary: none while it is absent; a lock-step standby runs the frames of the active module instead of its
own (R498). -/
def State.mainBoundary (s : State) : State :=
  if ¬ s.mainRuns then s
  else if s.lsOn ∧ ¬ s.lst.sends then
    let n := s.ice.frame + 1
    let s := ({ s with ice := { s.ice with frame := n } }.wr Reg.IFD_FRAME_LO (n.setWidth 32)).wr Reg.IFD_FRAME_HI ((n >>> 32).setWidth 32)
    let s := s.tablesBoundary
    s.lsAdvance s.lst.recs.length
  else
    let f := s.ice.logNow
    (s.iceBoundary s.lop.report).lsSend f

/-- A firmware activation resets the module at the next frame boundary (R526). -/
def State.activationReset (s : State) : State :=
  if s.sys.fwReset then (s.restart true 2).sampleStraps s.sys.pins else s

/-- A frame begins (R32): heartbeats missed in the frame that ends, a takeover image to apply, streams and field inputs, the loop engine with its
packet and report, Icefield and the tables, CAN pods, the count of guard digests, a commissioning record asked for, and the cut of an image (R481). -/
def State.boundary (s : State) : State :=
  let s := s.wholeFrame.applyImage
  let s := s.ageForecasts.streamBoundary.fieldBoundary.loopBoundary
  let s := s.mainBoundary.canBoundary.digestBoundary
  s.makeRecord.imageNow.activationReset

/-- The boundary of a tick edge, where its sample index begins a frame. -/
def State.frameEdge (s : State) : State := if s.clk.sidx.toNat % 100 = 0 then s.boundary else s

/-- The edge with the boundary, where its sample index begins a frame. -/
def State.edgeAll (s : State) : State := s.edge.frameEdge

/-- The next tick edge has begun: the evaluations of the tick follow with its TICK_EDGE (log entry 39). -/
def State.beginTick (s : State) : State := { s with clk := { s.clk with begun := s.sys.seracUp } }

/-- Whether the next tick edge can begin: Serac runs, and it has not begun. -/
def State.edgeToCome (s : State) : Bool := s.sys.seracUp && !s.clk.begun

/-- FRAME_BOUNDARY (R32): the tick edge of sample index 100k begins, where the next edge is that one and has not begun. -/
def execFrameBoundary (s : State) : Host.Outcome State Fault Refusal :=
  .next (if s.edgeToCome ∧ s.edge.clk.sidx.toNat % 100 = 0 then s.edge.boundary.beginTick else s)

/-- SAMPLE_INDEX_ANCHOR (R74): the tick edge that anchors the sample index begins: the first with the servo LOCKED, the tick from module
time, and no anchor yet. -/
def execSampleIndexAnchor (s : State) : Host.Outcome State Fault Refusal :=
  .next (if s.edgeToCome ∧ s.anchors then s.edgeAll.beginTick else s)

/-- FRAME_RUN_OVERRUN (R172, R173): the tick edge of tick 80 of a frame begins, at which an unfinished frame run is abandoned. -/
def execFrameRunOverrun (s : State) : Host.Outcome State Fault Refusal :=
  .next (if s.edgeToCome ∧ s.ice.run.isSome ∧ s.edge.clk.sidx.toNat % 100 = 80 then s.edgeAll.beginTick else s)

/-- LOG_COMMIT (R206): the tick edge of tick 90 of frame k + 1 begins, at which the log of frame k is committed. -/
def execLogCommit (s : State) : Host.Outcome State Fault Refusal :=
  .next (if s.edgeToCome ∧ s.edge.clk.sidx.toNat % 100 = 90 then s.edgeAll.beginTick else s)

/-- TAKEOVER (R486): the edge of the tick after the declaration begins, at which the standby takes over. -/
def execTakeover (s : State) : Host.Outcome State Fault Refusal :=
  .next (if s.edgeToCome ∧ s.fld Fd.PAI_STAT_ROLE = 2 ∧ s.pair.declared.any (fun t => decide (t ≤ s.clk.now)) then s.edgeAll.beginTick else s)

/-- IMAGE_CUT (R481): the tick edge of a sample index at a multiple of 1,000 begins, at which the active module of a pair cuts its image. -/
def execImageCut (s : State) : Host.Outcome State Fault Refusal :=
  .next (if s.edgeToCome ∧ s.isActive ∧ s.on Fd.PAI_STAT_PAIRED ∧ s.edge.clk.sidx.toNat % 1000 = 0 then s.edgeAll.beginTick else s)

/-- ANCHOR_SECOND (R561): the first tick edge at which module time passes a whole second begins. -/
def execAnchorSecond (s : State) : Host.Outcome State Fault Refusal :=
  .next (if s.edgeToCome ∧ s.sys.portUp ∧ ¬ s.portAbsent ∧ s.clk.lastSecond < s.edge.clk.lastSecond then s.edgeAll.beginTick else s)

/-- ANCHOR_FREE (R561): the tick edge begins at which 100,000 ticks have passed while the tick does not follow module time. -/
def execAnchorFree (s : State) : Host.Outcome State Fault Refusal :=
  .next (if s.edgeToCome ∧ ¬ s.edge.tickOnTime ∧ s.edge.clk.lastFree = s.edge.clk.now then s.edgeAll.beginTick else s)

/-- COMMON_SNAPSHOT (R100): the edge of a requested snapshot's target tick begins, at which every block present latches. -/
def execCommonSnapshot (s : State) : Host.Outcome State Fault Refusal :=
  .next (if s.edgeToCome ∧ s.clk.snapAt.any (fun t => decide (t ≤ s.clk.now + 1)) then s.edgeAll.beginTick else s)

/-- The index and LOP_TCNT of a marker are taken, and the module counts as anchored (R78, R269). -/
def State.takeMark (s : State) (m : BitVec 64 × BitVec 64) : State :=
  { s with clk := { s.clk with sidx := m.1, tcnt := m.2, partnerSidx := some m.1 } }.set Fd.TIM_STAT_ANCHORED 1

/-- PAIR_TICK_MARKER (R476, R78, R269): a tick marker arrives on a lane. The tick edge of a standby follows the marker of L0 while L0 is up,
and of L1 otherwise: a marker ahead of the last tick's index begins the next edge, and any other gives the present tick its values. The
module counts as anchored. -/
def execPairTickMarker (lane : Fin 2) (sidx tcnt : BitVec 64) (s : State) : Host.Outcome State Fault Refusal :=
  .next (if s.opState = 0 ∨ ¬ s.on Fd.PAI_STAT_PAIRED then s else
    let s := s.laneAlive lane
    let used : Nat := if s.on Fd.PAI_STAT_L0 then 0 else 1
    if s.fld Fd.TIM_STAT_TICK_SRC ≠ 2 ∨ lane.val ≠ used then s
    else if s.edgeToCome ∧ diff64 sidx s.clk.sidx > 0 then ((s.edgeTo (some (sidx, tcnt))).takeMark (sidx, tcnt)).frameEdge.beginTick
    else s.takeMark (sidx, tcnt))

/-! ### The evaluations of a tick -/

/-- The outputs of a tick (R31, R40): all change together, unless this tick's update is suppressed or the module drives none. -/
def State.outputsTick (s : State) (suppressed : Bool) : State :=
  if suppressed ∨ ¬ s.drives then s else
  let s := s.pumpsInUse.foldl (fun (s : State) p => s.pumpTick p) s
  let s := s.valvesInUse.foldl (fun (s : State) v => s.valveTick v) s
  s.fansTick.solTick

/-- The event bits that an event number of a block stands for (R551): of CAN_, one for each bus. -/
def eventBits (k n : Nat) : List (Nat × Nat) :=
  match k with
  | 0 => [(Reg.SYS_ERR, n)]
  | 7 => [if n < 24 then (Reg.ACT_EVT, n) else (Reg.ACT_HWEVT, n - 24)]
  | 10 => (List.range 8).map (fun b => (Reg.BUS_EVT b, n))
  | 11 => [if n < 16 then (Reg.PAI_EVT, n) else (Reg.PAI_FED_EVT, n - 16)]
  | 12 => [(Reg.SEC_EVT, n)]
  | _ => [(k * 0x1000000 + 8, n)]

/-- Whether the event bit of a TICKS counter reads 1 (R566); of CAN_, on the bus that its object filter names, where it has one. -/
def State.counterTicks (s : State) (k : Nat) (sel : Word) : Bool :=
  let l := eventBits k (fieldOf sel 0 6)
  let l := if k = 10 ∧ fieldOf sel 10 1 = 1 then (l.drop (fieldOf sel 16 16)).take 1 else l
  l.any (fun p => fieldOf (s.rd p.1) p.2 1 == 1)

/-- The counters of MODE TICKS (R566). -/
def State.countTicks (s : State) : State :=
  (s.regs.filter (fun p => decide (0x7F0000 ≤ p.1 % 0x1000000) && decide (p.1 % 0x1000000 < 0x7F0200) && p.1 % 16 == 0 &&
    fieldOf p.2 8 2 == 2)).foldl (fun (s : State) p => if s.counterTicks (p.1 / 0x1000000) p.2 then s.count (p.1 + 4) else s) s

/-- The active module of a pair sends its tick marker on both lanes (R476). -/
def State.sendMarker (s : State) : State :=
  if s.isActive ∧ s.on Fd.PAI_STAT_PAIRED then
    (s.send (.frame .tickMarker [0, s.clk.sidx.toNat, s.clk.tcnt.toNat])).send (.frame .tickMarker [1, s.clk.sidx.toNat, s.clk.tcnt.toNat])
  else s

/-- The pins that follow the tick (R588, R600): WDOG toggles, and excitation stands while SEL does. -/
def State.pinsTick (s : State) : State :=
  s.setSys { s.sys with wdog := !s.sys.wdog, excite := s.on Fd.ACT_HW_STAT_SEL }

/-- A tick from its edge to its end (R31): the latched inputs, CAN arrivals, loops and protection, the state requests accepted since the
last tick and the held requests that have become legal, after every automatic transition of this one (R430, R434, R47), the comparison of
the lanes, the outputs, the records and the marker. -/
def State.tickBody (s : State) (latches : List Latch) (check : LaneCheck) : State :=
  let s := latches.foldl (fun (s : State) l => s.applyLatch l) s.sendMarker.canTick
  let s := s.configuredInputs.foldl (fun (s : State) i => s.fieldTick i) s
  let done := match check.doneA, check.doneB with
    | some a, some b => some (min a b)
    | some a, none => some a
    | none, b => b
  let s := (s.evaluateLoops done).protTick.applyStateReqs.heldTick
  let r := s.arbitrate check (check.digest.any (fun d => d != s.laneDigest done))
  let s := r.1.outputsTick r.2
  let s := s.governTick.pinsTick.judgeTick
  (s.sendTickRecord.countTicks.writeWindow).withdraw 1

/-- TICK_EDGE (R31): every 10 µs while Serac runs. Hold-up that has run out ends the module (R595). -/
def execTickEdge (latches : List Latch) (check : LaneCheck) (s : State) : Host.Outcome State Fault Refusal :=
  .next (if ¬ s.sys.seracUp then s else
    let s := if s.clk.begun then { s with clk := { s.clk with begun := false } } else s.edgeAll
    if ¬ s.sys.seracUp then s
    else if s.sys.powerEnd.any (fun t => decide (t ≤ s.clk.now)) then s.logicOff
    else s.tickBody latches check)

end Sys2Proof.Machine
end

