-- ==== Sys2Proof/Machine/Dispatch.lean ====
section
/-! DEFINITION. The dispatch: one arm per command of the table, each a direct call of its meaning. -/

namespace Sys2Proof.Machine

/-- The effect of a command on everything but the queue. -/
def exec (i : Instr) (s : State) : Host.Outcome State Fault Refusal :=
  match i with
  | .powerOn pins => Sys2Proof.Machine.execPowerOn pins s
  | .seracBootVerifyDone selfTest okA okB => Sys2Proof.Machine.execSeracBootVerifyDone selfTest okA okB s
  | .portDieBootDone okA okB => Sys2Proof.Machine.execPortDieBootDone okA okB s
  | .mainDieBootDone okA okB => Sys2Proof.Machine.execMainDieBootDone okA okB s
  | .roleResolve => Sys2Proof.Machine.execRoleResolve s
  | .bootTimeout => Sys2Proof.Machine.execBootTimeout s
  | .moduleResetInput => Sys2Proof.Machine.execModuleResetInput s
  | .moduleInsert => Sys2Proof.Machine.execModuleInsert s
  | .moduleWithdraw => Sys2Proof.Machine.execModuleWithdraw s
  | .logicInputLost input volts => Sys2Proof.Machine.execLogicInputLost input volts s
  | .logicPowerFail => Sys2Proof.Machine.execLogicPowerFail s
  | .actuatorSupplyChange => Sys2Proof.Machine.execActuatorSupplyChange s
  | .fieldSupplyLimit ma => Sys2Proof.Machine.execFieldSupplyLimit ma s
  | .fieldSupplyRestore ma => Sys2Proof.Machine.execFieldSupplyRestore ma s
  | .strapChange pins => Sys2Proof.Machine.execStrapChange pins s
  | .harnessChange pos present mem => Sys2Proof.Machine.execHarnessChange pos present mem s
  | .selChange sel => Sys2Proof.Machine.execSelChange sel s
  | .mainDieThermalLimit powerDown => Sys2Proof.Machine.execMainDieThermalLimit powerDown s
  | .portDieThermalLimit => Sys2Proof.Machine.execPortDieThermalLimit s
  | .opticPresent port media => Sys2Proof.Machine.execOpticPresent port media s
  | .tickEdge latches check => Sys2Proof.Machine.execTickEdge latches check s
  | .laneRecover lane => Sys2Proof.Machine.execLaneRecover lane s
  | .laneReady lane => Sys2Proof.Machine.execLaneReady lane s
  | .frameBoundary => Sys2Proof.Machine.execFrameBoundary s
  | .framePacket lane bytes => Sys2Proof.Machine.execFramePacket lane bytes s
  | .packetAcceptExchange => Sys2Proof.Machine.execPacketAcceptExchange s
  | .mainDieAbsent => Sys2Proof.Machine.execMainDieAbsent s
  | .mainDieReset => Sys2Proof.Machine.execMainDieReset s
  | .mainPowerGoodLost => Sys2Proof.Machine.execMainPowerGoodLost s
  | .safetyLinkMLost => Sys2Proof.Machine.execSafetyLinkMLost s
  | .mainDieRelease => Sys2Proof.Machine.execMainDieRelease s
  | .mainDieReady => Sys2Proof.Machine.execMainDieReady s
  | .tableToRun => Sys2Proof.Machine.execTableToRun s
  | .portDieAbsent => Sys2Proof.Machine.execPortDieAbsent s
  | .portDiePresent => Sys2Proof.Machine.execPortDiePresent s
  | .crecMake w => Sys2Proof.Machine.execCrecMake w s
  | .crecClear w => Sys2Proof.Machine.execCrecClear w s
  | .ceilingReset w => Sys2Proof.Machine.execCeilingReset w s
  | .ptpAnnounce net port a => Sys2Proof.Machine.execPtpAnnounce net port a s
  | .ptpSync net port m t1 t2 => Sys2Proof.Machine.execPtpSync net port m t1 t2 s
  | .announceReceiptTimeout net => Sys2Proof.Machine.execAnnounceReceiptTimeout net s
  | .holdoverExpiry => Sys2Proof.Machine.execHoldoverExpiry s
  | .instanceDisagree => Sys2Proof.Machine.execInstanceDisagree s
  | .sampleIndexAnchor => Sys2Proof.Machine.execSampleIndexAnchor s
  | .timReanchor w => Sys2Proof.Machine.execTimReanchor w s
  | .snapshotRequest w => Sys2Proof.Machine.execSnapshotRequest w s
  | .commonSnapshot => Sys2Proof.Machine.execCommonSnapshot s
  | .actionCommit w n value => Sys2Proof.Machine.execActionCommit w n value s
  | .actionCancelWrite w n value => Sys2Proof.Machine.execActionCancelWrite w n value s
  | .actionFire n => Sys2Proof.Machine.execActionFire n s
  | .packetSeal => Sys2Proof.Machine.execPacketSeal s
  | .markerWindowClose j => Sys2Proof.Machine.execMarkerWindowClose j s
  | .jobCoast j => Sys2Proof.Machine.execJobCoast j s
  | .jobLost j => Sys2Proof.Machine.execJobLost j s
  | .jobCfgWrite w j value => Sys2Proof.Machine.execJobCfgWrite w j value s
  | .streamFrame udp bytes ns => Sys2Proof.Machine.execStreamFrame udp bytes ns s
  | .quarantineEnd entry => Sys2Proof.Machine.execQuarantineEnd entry s
  | .reorderWaitExpiry acc => Sys2Proof.Machine.execReorderWaitExpiry acc s
  | .streamStale sid => Sys2Proof.Machine.execStreamStale sid s
  | .pairResolved pair => Sys2Proof.Machine.execPairResolved pair s
  | .suspectClear x => Sys2Proof.Machine.execSuspectClear x s
  | .fieldInputFault inp => Sys2Proof.Machine.execFieldInputFault inp s
  | .fieldInputFaultClear x => Sys2Proof.Machine.execFieldInputFaultClear x s
  | .streamCommit w => Sys2Proof.Machine.execStreamCommit w s
  | .streamConfigLoad w => Sys2Proof.Machine.execStreamConfigLoad w s
  | .streamAck w value => Sys2Proof.Machine.execStreamAck w value s
  | .guardDigest => Sys2Proof.Machine.execGuardDigest s
  | .frameRunStart => Sys2Proof.Machine.execFrameRunStart s
  | .frameRunEnd ns inflight mismatch => Sys2Proof.Machine.execFrameRunEnd ns inflight mismatch s
  | .frameRunOverrun => Sys2Proof.Machine.execFrameRunOverrun s
  | .kernelBatchStart c => Sys2Proof.Machine.execKernelBatchStart c s
  | .kernelBatchEnd e => Sys2Proof.Machine.execKernelBatchEnd e s
  | .runMemoryError kernel => Sys2Proof.Machine.execRunMemoryError kernel s
  | .arrayTestDone tile arr activeOk spareOk => Sys2Proof.Machine.execArrayTestDone tile arr activeOk spareOk s
  | .slotLoad w slot handle => Sys2Proof.Machine.execSlotLoad w slot handle s
  | .slotVerifyDone slot => Sys2Proof.Machine.execSlotVerifyDone slot s
  | .slotUnload w slot => Sys2Proof.Machine.execSlotUnload w slot s
  | .ifdSwitch w slot => Sys2Proof.Machine.execIfdSwitch w slot s
  | .ifdPartWrite w value => Sys2Proof.Machine.execIfdPartWrite w value s
  | .replayStart w pace => Sys2Proof.Machine.execReplayStart w pace s
  | .replayPause w => Sys2Proof.Machine.execReplayPause w s
  | .replayResume w pace => Sys2Proof.Machine.execReplayResume w pace s
  | .replayStep w => Sys2Proof.Machine.execReplayStep w s
  | .replaySnap w => Sys2Proof.Machine.execReplaySnap w s
  | .replayRestore w => Sys2Proof.Machine.execReplayRestore w s
  | .replayStop w => Sys2Proof.Machine.execReplayStop w s
  | .replayFrameEnd e => Sys2Proof.Machine.execReplayFrameEnd e s
  | .segmentLoadDone t seg => Sys2Proof.Machine.execSegmentLoadDone t seg s
  | .saveRetry => Sys2Proof.Machine.execSaveRetry s
  | .logCommit => Sys2Proof.Machine.execLogCommit s
  | .commitWriteback => Sys2Proof.Machine.execCommitWriteback s
  | .checkpointStart => Sys2Proof.Machine.execCheckpointStart s
  | .checkpointDone => Sys2Proof.Machine.execCheckpointDone s
  | .tableCreate w t handle => Sys2Proof.Machine.execTableCreate w t handle s
  | .tableDelete w t => Sys2Proof.Machine.execTableDelete w t s
  | .tableSave w t => Sys2Proof.Machine.execTableSave w t s
  | .tableRestore w t => Sys2Proof.Machine.execTableRestore w t s
  | .pcRetired stack pc lost => Sys2Proof.Machine.execPcRetired stack pc lost s
  | .stackLost stack => Sys2Proof.Machine.execStackLost stack s
  | .plannerCompute => Sys2Proof.Machine.execPlannerCompute s
  | .changeFrameEmit => Sys2Proof.Machine.execChangeFrameEmit s
  | .refreshFrameEmit rack => Sys2Proof.Machine.execRefreshFrameEmit rack s
  | .ceilingCommit w c value => Sys2Proof.Machine.execCeilingCommit w c value s
  | .ceilingClearWrite w c value => Sys2Proof.Machine.execCeilingClearWrite w c value s
  | .stagedChangeStage w h value => Sys2Proof.Machine.execStagedChangeStage w h value s
  | .stagedChangeWithdraw w h value => Sys2Proof.Machine.execStagedChangeWithdraw w h value s
  | .protFrameRebuild rack => Sys2Proof.Machine.execProtFrameRebuild rack s
  | .protectiveCapSignal rack => Sys2Proof.Machine.execProtectiveCapSignal rack s
  | .planAck udp bytes ns => Sys2Proof.Machine.execPlanAck udp bytes ns s
  | .planNoack acc => Sys2Proof.Machine.execPlanNoack acc s
  | .loopCommit w => Sys2Proof.Machine.execLoopCommit w s
  | .loopConfigLoad w => Sys2Proof.Machine.execLoopConfigLoad w s
  | .plAck w q value => Sys2Proof.Machine.execPlAck w q value s
  | .plausibilityFault q => Sys2Proof.Machine.execPlausibilityFault q s
  | .loopFailsafe q => Sys2Proof.Machine.execLoopFailsafe q s
  | .loopConfigSave => Sys2Proof.Machine.execLoopConfigSave s
  | .pumpStart w p => Sys2Proof.Machine.execPumpStart w p s
  | .pumpStop w p => Sys2Proof.Machine.execPumpStop w p s
  | .pumpAck w p => Sys2Proof.Machine.execPumpAck w p s
  | .pumpRestore w p => Sys2Proof.Machine.execPumpRestore w p s
  | .pumpDriveReady p => Sys2Proof.Machine.execPumpDriveReady p s
  | .pumpProven p => Sys2Proof.Machine.execPumpProven p s
  | .pumpReadyTimeout p => Sys2Proof.Machine.execPumpReadyTimeout p s
  | .pumpProofTimeout p => Sys2Proof.Machine.execPumpProofTimeout p s
  | .pumpStopComplete p => Sys2Proof.Machine.execPumpStopComplete p s
  | .pumpTrip p cause => Sys2Proof.Machine.execPumpTrip p cause s
  | .lockoutWrite w c value => Sys2Proof.Machine.execLockoutWrite w c value s
  | .valveFault v => Sys2Proof.Machine.execValveFault v s
  | .valveDeviation v => Sys2Proof.Machine.execValveDeviation v s
  | .solPulse w k => Sys2Proof.Machine.execSolPulse w k s
  | .solEnergize w k => Sys2Proof.Machine.execSolEnergize w k s
  | .solRelease w k => Sys2Proof.Machine.execSolRelease w k s
  | .solTest w k => Sys2Proof.Machine.execSolTest w k s
  | .isoReset w k => Sys2Proof.Machine.execIsoReset w k s
  | .solenoidArmatureDip k => Sys2Proof.Machine.execSolenoidArmatureDip k s
  | .solenoidPullinEnd k => Sys2Proof.Machine.execSolenoidPullinEnd k s
  | .solenoidOpenCoil k => Sys2Proof.Machine.execSolenoidOpenCoil k s
  | .solenoidDecayEnd k => Sys2Proof.Machine.execSolenoidDecayEnd k s
  | .solenoidRetry k => Sys2Proof.Machine.execSolenoidRetry k s
  | .solenoidDeferTimeout k => Sys2Proof.Machine.execSolenoidDeferTimeout k s
  | .solenoidSelfTest k outcome => Sys2Proof.Machine.execSolenoidSelfTest k outcome s
  | .bankCut b reason => Sys2Proof.Machine.execBankCut b reason s
  | .bankCmdCut w b => Sys2Proof.Machine.execBankCmdCut w b s
  | .bankCmdReclose w b passes => Sys2Proof.Machine.execBankCmdReclose w b passes s
  | .bankSupplyReclose b => Sys2Proof.Machine.execBankSupplyReclose b s
  | .actuatorOverbudget => Sys2Proof.Machine.execActuatorOverbudget s
  | .fanKickTimeout f => Sys2Proof.Machine.execFanKickTimeout f s
  | .fanStarted f => Sys2Proof.Machine.execFanStarted f s
  | .fanTachTimeout f => Sys2Proof.Machine.execFanTachTimeout f s
  | .fanOvercurrent f => Sys2Proof.Machine.execFanOvercurrent f s
  | .fanOcRetry f => Sys2Proof.Machine.execFanOcRetry f s
  | .fanTachRecovered f => Sys2Proof.Machine.execFanTachRecovered f s
  | .fanRetry w f => Sys2Proof.Machine.execFanRetry w f s
  | .fanDemandSilent d => Sys2Proof.Machine.execFanDemandSilent d s
  | .converterCheck bad spareBad => Sys2Proof.Machine.execConverterCheck bad spareBad s
  | .spaiAssign w sp inp => Sys2Proof.Machine.execSpaiAssign w sp inp s
  | .spaiRelease w sp inp => Sys2Proof.Machine.execSpaiRelease w sp inp s
  | .wearCounterSave => Sys2Proof.Machine.execWearCounterSave s
  | .leakMeasurement readings => Sys2Proof.Machine.execLeakMeasurement readings s
  | .imbalanceCheck rack => Sys2Proof.Machine.execImbalanceCheck rack s
  | .leak rack => Sys2Proof.Machine.execLeak rack s
  | .leakFast rack => Sys2Proof.Machine.execLeakFast rack s
  | .gfault rack => Sys2Proof.Machine.execGfault rack s
  | .leakWaitExpiry rack => Sys2Proof.Machine.execLeakWaitExpiry rack s
  | .isoTrip rack => Sys2Proof.Machine.execIsoTrip rack s
  | .loopLeak => Sys2Proof.Machine.execLoopLeak s
  | .loopGfault => Sys2Proof.Machine.execLoopGfault s
  | .flowSample10ms => Sys2Proof.Machine.execFlowSample10ms s
  | .flowEval100ms => Sys2Proof.Machine.execFlowEval100ms s
  | .dieHard rack => Sys2Proof.Machine.execDieHard rack s
  | .digestLost => Sys2Proof.Machine.execDigestLost s
  | .limHard e => Sys2Proof.Machine.execLimHard e s
  | .loopLimHard e => Sys2Proof.Machine.execLoopLimHard e s
  | .supHard => Sys2Proof.Machine.execSupHard s
  | .sequenceEnd x => Sys2Proof.Machine.execSequenceEnd x s
  | .poweroffNoticeRepeat rack => Sys2Proof.Machine.execPoweroffNoticeRepeat rack s
  | .fullcoolAutoExit => Sys2Proof.Machine.execFullcoolAutoExit s
  | .prtAck w value => Sys2Proof.Machine.execPrtAck w value s
  | .hello c tag mbox => Sys2Proof.Machine.execHello c tag mbox s
  | .sessOpen c tag mbox p => Sys2Proof.Machine.execSessOpen c tag mbox p s
  | .sessKey c tag mbox session conf peerKey => Sys2Proof.Machine.execSessKey c tag mbox session conf peerKey s
  | .sessClose q => Sys2Proof.Machine.execSessClose q s
  | .sessionTimeout slot => Sys2Proof.Machine.execSessionTimeout slot s
  | .sessionOpenTimeout slot => Sys2Proof.Machine.execSessionOpenTimeout slot s
  | .ping q => Sys2Proof.Machine.execPing q s
  | .subscribe q classes => Sys2Proof.Machine.execSubscribe q classes s
  | .attest q nonce => Sys2Proof.Machine.execAttest q nonce s
  | .ownClaim q domain flags => Sys2Proof.Machine.execOwnClaim q domain flags s
  | .ownRenew q domain => Sys2Proof.Machine.execOwnRenew q domain s
  | .ownRelease q domain => Sys2Proof.Machine.execOwnRelease q domain s
  | .ownHandover q domain target => Sys2Proof.Machine.execOwnHandover q domain target s
  | .handoverOfferLapse domain => Sys2Proof.Machine.execHandoverOfferLapse domain s
  | .ownQuery q => Sys2Proof.Machine.execOwnQuery q s
  | .ownerLeaseExpiry domain => Sys2Proof.Machine.execOwnerLeaseExpiry domain s
  | .regrd q addr count busErr => Sys2Proof.Machine.execRegrd q addr count busErr s
  | .regwr q addr values busErr => Sys2Proof.Machine.execRegwr q addr values busErr s
  | .registerWrite w addr value => Sys2Proof.Machine.execRegisterWrite w addr value s
  | .latchedLowWordRead addr => Sys2Proof.Machine.execLatchedLowWordRead addr s
  | .rcRegisterRead addr => Sys2Proof.Machine.execRcRegisterRead addr s
  | .stateReqCommission q => Sys2Proof.Machine.execStateReqCommission q s
  | .stateReqRun q => Sys2Proof.Machine.execStateReqRun q s
  | .stateReqManual q => Sys2Proof.Machine.execStateReqManual q s
  | .stateReqMaint q => Sys2Proof.Machine.execStateReqMaint q s
  | .stateReqLeave q => Sys2Proof.Machine.execStateReqLeave q s
  | .fullcoolEnter q => Sys2Proof.Machine.execFullcoolEnter q s
  | .fullcoolExit q => Sys2Proof.Machine.execFullcoolExit q s
  | .rackIsolate q rack => Sys2Proof.Machine.execRackIsolate q rack s
  | .rackTrip q rack => Sys2Proof.Machine.execRackTrip q rack s
  | .ack q what index => Sys2Proof.Machine.execAck q what index s
  | .setpoint q loop value => Sys2Proof.Machine.execSetpoint q loop value s
  | .actionAdd q a => Sys2Proof.Machine.execActionAdd q a s
  | .actionCancel q entry => Sys2Proof.Machine.execActionCancel q entry s
  | .phaseAnnounce q job step segs => Sys2Proof.Machine.execPhaseAnnounce q job step segs s
  | .stepMark q job step stamp => Sys2Proof.Machine.execStepMark q job step stamp s
  | .jobSetClear q job => Sys2Proof.Machine.execJobSetClear q job s
  | .jobSetAdd q job idx => Sys2Proof.Machine.execJobSetAdd q job idx s
  | .jobSetRemove q job idx => Sys2Proof.Machine.execJobSetRemove q job idx s
  | .ceilSet q entry scope form index value => Sys2Proof.Machine.execCeilSet q entry scope form index value s
  | .ceilClear q entry => Sys2Proof.Machine.execCeilClear q entry s
  | .xferOpen q kind flags size => Sys2Proof.Machine.execXferOpen q kind flags size s
  | .xferData q handle offset data => Sys2Proof.Machine.execXferData q handle offset data s
  | .xferClose q handle hash => Sys2Proof.Machine.execXferClose q handle hash s
  | .xferRead q handle offset length => Sys2Proof.Machine.execXferRead q handle offset length s
  | .xferDelete q handle => Sys2Proof.Machine.execXferDelete q handle s
  | .xferExpiry handle => Sys2Proof.Machine.execXferExpiry handle s
  | .storeAttach q => Sys2Proof.Machine.execStoreAttach q s
  | .storeDetach q => Sys2Proof.Machine.execStoreDetach q s
  | .storePutResponse q ok => Sys2Proof.Machine.execStorePutResponse q ok s
  | .storeGetResponse q size epoch data => Sys2Proof.Machine.execStoreGetResponse q size epoch data s
  | .deviceRequestRetry tag => Sys2Proof.Machine.execDeviceRequestRetry tag s
  | .deferredExecute slot mbox => Sys2Proof.Machine.execDeferredExecute slot mbox s
  | .deferTimeout slot mbox => Sys2Proof.Machine.execDeferTimeout slot mbox s
  | .portLinkDown port => Sys2Proof.Machine.execPortLinkDown port s
  | .portLinkUp port => Sys2Proof.Machine.execPortLinkUp port s
  | .canFrameReceived b f missed => Sys2Proof.Machine.execCanFrameReceived b f missed s
  | .podQuantityTimeout q => Sys2Proof.Machine.execPodQuantityTimeout q s
  | .objStatRead b o => Sys2Proof.Machine.execObjStatRead b o s
  | .hpStatRead b => Sys2Proof.Machine.execHpStatRead b s
  | .canTxreq w b o => Sys2Proof.Machine.execCanTxreq w b o s
  | .canAbort w b o started => Sys2Proof.Machine.execCanAbort w b o started s
  | .canTxComplete b o r => Sys2Proof.Machine.execCanTxComplete b o r s
  | .canErrorState b tec rec frames => Sys2Proof.Machine.execCanErrorState b tec rec frames s
  | .canRecoveryStart b => Sys2Proof.Machine.execCanRecoveryStart b s
  | .canRecovered b => Sys2Proof.Machine.execCanRecovered b s
  | .canModeWrite w b value => Sys2Proof.Machine.execCanModeWrite w b value s
  | .canAutoDwellTimeout b => Sys2Proof.Machine.execCanAutoDwellTimeout b s
  | .canAutoTimeout b => Sys2Proof.Machine.execCanAutoTimeout b s
  | .driveCmdSend => Sys2Proof.Machine.execDriveCmdSend s
  | .driveLost p => Sys2Proof.Machine.execDriveLost p s
  | .heartbeatSend => Sys2Proof.Machine.execHeartbeatSend s
  | .heartbeatReceived path h => Sys2Proof.Machine.execHeartbeatReceived path h s
  | .partnerLost => Sys2Proof.Machine.execPartnerLost s
  | .peerHealthLost => Sys2Proof.Machine.execPeerHealthLost s
  | .takeover => Sys2Proof.Machine.execTakeover s
  | .rowAddressRepeat => Sys2Proof.Machine.execRowAddressRepeat s
  | .split => Sys2Proof.Machine.execSplit s
  | .pairTickMarker lane sidx tcnt => Sys2Proof.Machine.execPairTickMarker lane sidx tcnt s
  | .pairLaneDown lane lockLost => Sys2Proof.Machine.execPairLaneDown lane lockLost s
  | .paiWarm w value => Sys2Proof.Machine.execPaiWarm w value s
  | .partnerReadRegs w value => Sys2Proof.Machine.execPartnerReadRegs w value s
  | .partnerReadFirn w value => Sys2Proof.Machine.execPartnerReadFirn w value s
  | .peekReq firn area count addr => Sys2Proof.Machine.execPeekReq firn area count addr s
  | .peekData result words => Sys2Proof.Machine.execPeekData result words s
  | .peekTimeout => Sys2Proof.Machine.execPeekTimeout s
  | .imageCut => Sys2Proof.Machine.execImageCut s
  | .imageFrame path iseq offset bytes => Sys2Proof.Machine.execImageFrame path iseq offset bytes s
  | .imageStale => Sys2Proof.Machine.execImageStale s
  | .pairBarrierPropose b => Sys2Proof.Machine.execPairBarrierPropose b s
  | .pairBarrierAccept id => Sys2Proof.Machine.execPairBarrierAccept id s
  | .pairBarrierCancel id => Sys2Proof.Machine.execPairBarrierCancel id s
  | .fedBarrierPropose m b => Sys2Proof.Machine.execFedBarrierPropose m b s
  | .fedBarrierAck m id => Sys2Proof.Machine.execFedBarrierAck m id s
  | .fedBarrierConfirmDue id => Sys2Proof.Machine.execFedBarrierConfirmDue id s
  | .fedBarrierConfirm m id t => Sys2Proof.Machine.execFedBarrierConfirm m id t s
  | .fedBarrierNoConfirm id => Sys2Proof.Machine.execFedBarrierNoConfirm id s
  | .roleSwapRequest w value => Sys2Proof.Machine.execRoleSwapRequest w value s
  | .tickRecord r => Sys2Proof.Machine.execTickRecord r s
  | .swapReady => Sys2Proof.Machine.execSwapReady s
  | .lockstepEnterRequest w p => Sys2Proof.Machine.execLockstepEnterRequest w p s
  | .lockstepLeave w => Sys2Proof.Machine.execLockstepLeave w s
  | .lockstepInputRecord f => Sys2Proof.Machine.execLockstepInputRecord f s
  | .lockstepDigest frame d => Sys2Proof.Machine.execLockstepDigest frame d s
  | .lockstepGap => Sys2Proof.Machine.execLockstepGap s
  | .fedAnnounceSend => Sys2Proof.Machine.execFedAnnounceSend s
  | .fedAnnounce a => Sys2Proof.Machine.execFedAnnounce a s
  | .fedMemberLost m => Sys2Proof.Machine.execFedMemberLost m s
  | .fedRowmap m map => Sys2Proof.Machine.execFedRowmap m map s
  | .fedRowmapSend => Sys2Proof.Machine.execFedRowmapSend s
  | .fedCoordinatorAssume => Sys2Proof.Machine.execFedCoordinatorAssume s
  | .fedAllocCompute => Sys2Proof.Machine.execFedAllocCompute s
  | .fedAlloc m effective entries => Sys2Proof.Machine.execFedAlloc m effective entries s
  | .fedAllocStale => Sys2Proof.Machine.execFedAllocStale s
  | .fedResync => Sys2Proof.Machine.execFedResync s
  | .adoptPropose m => Sys2Proof.Machine.execAdoptPropose m s
  | .redirectSend => Sys2Proof.Machine.execRedirectSend s
  | .fwInstall w part handle => Sys2Proof.Machine.execFwInstall w part handle s
  | .fwInstallDone => Sys2Proof.Machine.execFwInstallDone s
  | .fwActivate w parts => Sys2Proof.Machine.execFwActivate w parts s
  | .fwCommit w parts => Sys2Proof.Machine.execFwCommit w parts s
  | .fwRevert w parts => Sys2Proof.Machine.execFwRevert w parts s
  | .fwTrialGood part => Sys2Proof.Machine.execFwTrialGood part s
  | .enrolCommit w n value => Sys2Proof.Machine.execEnrolCommit w n value s
  | .programKeyCommit w k value => Sys2Proof.Machine.execProgramKeyCommit w k value s
  | .sendKeyRenew => Sys2Proof.Machine.execSendKeyRenew s
  | .firnWindowLatch w win value => Sys2Proof.Machine.execFirnWindowLatch w win value s
  | .firnClear w value => Sys2Proof.Machine.execFirnClear w value s
  | .firnMirrorCopy => Sys2Proof.Machine.execFirnMirrorCopy s
  | .anchorSecond => Sys2Proof.Machine.execAnchorSecond s
  | .anchorFree => Sys2Proof.Machine.execAnchorFree s
  | .eccCorrectedError mem unit place => Sys2Proof.Machine.execEccCorrectedError mem unit place s
  | .busError lane obj => Sys2Proof.Machine.execBusError lane obj s
  | .scrubPass mem => Sys2Proof.Machine.execScrubPass mem s
  | .eccTest w value pass => Sys2Proof.Machine.execEccTest w value pass s
  | .digestLatch w value => Sys2Proof.Machine.execDigestLatch w value s
  | .fieldInputConfigWrite w inp word value => Sys2Proof.Machine.execFieldInputConfigWrite w inp word value s
  | .logicInputRestored input volts => Sys2Proof.Machine.execLogicInputRestored input volts s
  | .moduleResetRelease pins => Sys2Proof.Machine.execModuleResetRelease pins s
  | .portDieThermalRelease => Sys2Proof.Machine.execPortDieThermalRelease s
  | .uncorrectableError mem unit place => Sys2Proof.Machine.execUncorrectableError mem unit place s
  | .zhoideProtocolViolation c l v => Sys2Proof.Machine.execZhoideProtocolViolation c l v s
  | .solenoidShort k => Sys2Proof.Machine.execSolenoidShort k s
  | .peerExchangeResponse peer p => Sys2Proof.Machine.execPeerExchangeResponse peer p s
  | .tableCreateDone t => Sys2Proof.Machine.execTableCreateDone t s

end Sys2Proof.Machine
end

