-- ==== Sys2Proof/Safety.lean ====
section
/-! DEFINITION. What a safe run is, in the terms the statements use: the invariant of the module's state, what one step may do to it, and
the words that an event may change. -/

namespace Sys2Proof.Machine

/-- Firn in good order (R550): the next SEQ is at most the reserved limit, and every record held carries a smaller SEQ. -/
structure Firn.Ok (f : Firn) : Prop where
  limit : f.seq ≤ f.limit
  first : ∀ r ∈ f.first, r.seq < f.seq
  circ : ∀ r ∈ f.circ, r.seq < f.seq
  ring : ∀ r ∈ f.ring, r.seq < f.seq

/-- The invariant: the register file is in its canonical form, and Firn is in good order. -/
structure Inv (s : State) : Prop where
  regs : regsWf s.regs = true
  firn : s.firn.Ok

/-- What Firn may do in a step: it keeps its order, and no SEQ is given twice (R550). -/
def FirnStep (f g : Firn) : Prop := f.Ok → g.Ok ∧ f.seq ≤ g.seq

/-- The words that an occurrence of an event may change beside its own event register and _SEQ: the event counters of the blocks (R565),
the rate-limit words of the codes (R558), and Firn's words for suppressed records. -/
def eventWord (a : Nat) : Bool :=
  decide (0x7F0000 ≤ a % 0x1000000) || (decide (0xD010000 ≤ a) && decide (a < 0xD014000)) || a == Reg.FRN_CNT_SUPP || a == Reg.FRN_EVT ||
  a == Reg.FRN_EVT_SEQ

/-- No word but those listed and those of events changes between two states. -/
def Same (s t : State) (words : List Nat) : Prop := ∀ a, eventWord a = false → a ∉ words → t.rd a = s.rd a

/-! ### The parts of the state -/

/-- The parts of the state, for statements of what a command leaves alone. The queue is none of them: no command's effect touches it. -/
inductive Part
  | servo | jobs | act | zh | sys | sec | waitWrites | wlow | stm | ice | tbl | plan | field | lop | acts | prt | can | pair | lst | fed | dia
  | shadow | clk | out | firn | regs | fresh
deriving DecidableEq, Repr

/-- A part is the same in two states. -/
def Part.Same (p : Part) (s t : State) : Prop :=
  match p with
  | .servo => t.servo = s.servo
  | .jobs => t.jobs = s.jobs
  | .act => t.act = s.act
  | .zh => t.zh = s.zh
  | .sys => t.sys = s.sys
  | .sec => t.sec = s.sec
  | .waitWrites => t.waitWrites = s.waitWrites
  | .wlow => t.wlow = s.wlow
  | .stm => t.stm = s.stm
  | .ice => t.ice = s.ice
  | .tbl => t.tbl = s.tbl
  | .plan => t.plan = s.plan
  | .field => t.field = s.field
  | .lop => t.lop = s.lop
  | .acts => t.acts = s.acts
  | .prt => t.prt = s.prt
  | .can => t.can = s.can
  | .pair => t.pair = s.pair
  | .lst => t.lst = s.lst
  | .fed => t.fed = s.fed
  | .dia => t.dia = s.dia
  | .shadow => t.shadow = s.shadow
  | .clk => t.clk = s.clk
  | .out => t.out = s.out
  | .firn => t.firn = s.firn
  | .regs => t.regs = s.regs
  | .fresh => t.fresh = s.fresh

/-- Only the named parts of the state differ; the queue of commands does not. -/
def Only (ps : List Part) (s t : State) : Prop := t.pending = s.pending ∧ ∀ p, p ∉ ps → p.Same s t

/-- Only the named parts of the state differ, and of the register file only the named words and those of events. -/
def Changes (ps : List Part) (words : List Nat) (s t : State) : Prop := Only (.regs :: ps) s t ∧ Same s t words

/-! ### What may move a part of the state -/

/-- The commands that may move module time, the sample index and the tick count. -/
def movesClk : Instr → Bool
  | .moduleResetInput .. | .moduleWithdraw .. | .logicPowerFail .. | .tickEdge .. | .frameBoundary .. | .ptpSync .. | .sampleIndexAnchor ..
  | .timReanchor .. | .snapshotRequest .. | .commonSnapshot .. | .actionFire .. | .packetSeal .. | .frameRunOverrun .. | .logCommit ..
  | .regwr .. | .registerWrite .. | .deferredExecute .. | .takeover .. | .split .. | .pairTickMarker .. | .imageCut .. | .anchorSecond ..
  | .anchorFree .. => true
  | _ => false

/-- The commands that may move the time servo. -/
def movesServo : Instr → Bool
  | .moduleResetInput .. | .moduleWithdraw .. | .logicPowerFail .. | .portDieThermalLimit .. | .tickEdge .. | .frameBoundary ..
  | .ptpAnnounce .. | .ptpSync .. | .announceReceiptTimeout .. | .holdoverExpiry .. | .instanceDisagree .. | .sampleIndexAnchor ..
  | .commonSnapshot .. | .frameRunOverrun .. | .logCommit .. | .regwr .. | .registerWrite .. | .deferredExecute .. | .portLinkDown ..
  | .takeover .. | .split .. | .pairTickMarker .. | .imageCut .. | .anchorSecond .. | .anchorFree .. | .uncorrectableError .. => true
  | _ => false

/-- The commands that may move the Icefield engine. -/
def movesIce : Instr → Bool
  | .mainDieBootDone .. | .roleResolve .. | .moduleResetInput .. | .moduleWithdraw .. | .logicPowerFail .. | .mainDieThermalLimit ..
  | .tickEdge .. | .frameBoundary .. | .mainDieAbsent .. | .mainDieReset .. | .mainPowerGoodLost .. | .safetyLinkMLost ..
  | .sampleIndexAnchor .. | .commonSnapshot .. | .streamFrame .. | .reorderWaitExpiry .. | .frameRunStart .. | .frameRunEnd ..
  | .frameRunOverrun .. | .kernelBatchStart .. | .kernelBatchEnd .. | .runMemoryError .. | .arrayTestDone .. | .slotLoad ..
  | .slotVerifyDone .. | .slotUnload .. | .ifdSwitch .. | .replayStart .. | .replayPause .. | .replayResume .. | .replayStep ..
  | .replaySnap .. | .replayRestore .. | .replayStop .. | .replayFrameEnd .. | .logCommit .. | .regwr .. | .registerWrite ..
  | .deferredExecute .. | .takeover .. | .split .. | .pairTickMarker .. | .paiWarm .. | .imageCut .. | .lockstepInputRecord ..
  | .anchorSecond .. | .anchorFree .. | .eccCorrectedError .. | .uncorrectableError .. => true
  | _ => false

/-- The commands that may move the planner. -/
def movesPlan : Instr → Bool
  | .moduleResetInput .. | .moduleWithdraw .. | .logicPowerFail .. | .tickEdge .. | .frameBoundary .. | .ptpSync .. | .sampleIndexAnchor ..
  | .commonSnapshot .. | .actionFire .. | .packetSeal .. | .markerWindowClose .. | .jobCoast .. | .jobLost .. | .jobCfgWrite ..
  | .streamFrame .. | .reorderWaitExpiry .. | .frameRunOverrun .. | .logCommit .. | .plannerCompute .. | .changeFrameEmit ..
  | .refreshFrameEmit .. | .ceilingCommit .. | .ceilingClearWrite .. | .stagedChangeStage .. | .stagedChangeWithdraw ..
  | .protFrameRebuild .. | .protectiveCapSignal .. | .planAck .. | .planNoack .. | .regwr .. | .registerWrite .. | .stepMark ..
  | .jobSetClear .. | .jobSetAdd .. | .jobSetRemove .. | .ceilSet .. | .deferredExecute .. | .takeover .. | .split .. | .pairTickMarker ..
  | .imageCut .. | .fedAllocCompute .. | .fedAlloc .. | .anchorSecond .. | .anchorFree .. => true
  | _ => false

/-- The commands that may move the field inputs. -/
def movesField : Instr → Bool
  | .moduleResetInput .. | .moduleWithdraw .. | .logicPowerFail .. | .tickEdge .. | .frameBoundary .. | .sampleIndexAnchor ..
  | .commonSnapshot .. | .suspectClear .. | .fieldInputFault .. | .fieldInputFaultClear .. | .frameRunOverrun .. | .logCommit ..
  | .converterCheck .. | .spaiAssign .. | .spaiRelease .. | .prtAck .. | .regwr .. | .registerWrite .. | .ack .. | .deferredExecute ..
  | .takeover .. | .split .. | .pairTickMarker .. | .imageCut .. | .anchorSecond .. | .anchorFree .. | .fieldInputConfigWrite .. => true
  | _ => false

/-- The commands that may move the CAN buses. -/
def movesCan : Instr → Bool
  | .moduleResetInput .. | .moduleWithdraw .. | .logicPowerFail .. | .tickEdge .. | .frameBoundary .. | .sampleIndexAnchor ..
  | .commonSnapshot .. | .frameRunOverrun .. | .logCommit .. | .regrd .. | .regwr .. | .registerWrite .. | .latchedLowWordRead ..
  | .rcRegisterRead .. | .deferredExecute .. | .canFrameReceived .. | .objStatRead .. | .hpStatRead .. | .canTxreq .. | .canAbort ..
  | .canTxComplete .. | .canErrorState .. | .canRecoveryStart .. | .canRecovered .. | .canModeWrite .. | .canAutoDwellTimeout ..
  | .canAutoTimeout .. | .driveCmdSend .. | .takeover .. | .split .. | .pairTickMarker .. | .imageCut .. | .anchorSecond ..
  | .anchorFree .. => true
  | _ => false

/-- The commands that may move the loop engine. -/
def movesLop : Instr → Bool
  | .seracBootVerifyDone .. | .moduleResetInput .. | .moduleWithdraw .. | .logicPowerFail .. | .tickEdge .. | .laneRecover ..
  | .laneReady .. | .frameBoundary .. | .framePacket .. | .packetAcceptExchange .. | .sampleIndexAnchor .. | .commonSnapshot ..
  | .frameRunOverrun .. | .logCommit .. | .loopCommit .. | .plAck .. | .plausibilityFault .. | .loopConfigSave .. | .regrd .. | .regwr ..
  | .registerWrite .. | .deferredExecute .. | .takeover .. | .split .. | .pairTickMarker .. | .imageCut .. | .anchorSecond ..
  | .anchorFree .. | .busError .. | .uncorrectableError .. => true
  | _ => false

/-- The commands that may move lockstep. -/
def movesLst : Instr → Bool
  | .moduleResetInput .. | .moduleWithdraw .. | .logicPowerFail .. | .tickEdge .. | .frameBoundary .. | .ptpSync .. | .sampleIndexAnchor ..
  | .commonSnapshot .. | .actionFire .. | .packetSeal .. | .streamCommit .. | .frameRunOverrun .. | .logCommit .. | .regwr ..
  | .registerWrite .. | .deferredExecute .. | .takeover .. | .split .. | .pairTickMarker .. | .imageCut .. | .lockstepLeave ..
  | .lockstepInputRecord .. | .lockstepDigest .. | .lockstepGap .. | .anchorSecond .. | .anchorFree .. => true
  | _ => false

/-- The commands that may move the federation. -/
def movesFed : Instr → Bool
  | .moduleResetInput .. | .moduleWithdraw .. | .logicPowerFail .. | .tickEdge .. | .frameBoundary .. | .ptpSync .. | .sampleIndexAnchor ..
  | .commonSnapshot .. | .actionFire .. | .packetSeal .. | .frameRunOverrun .. | .logCommit .. | .changeFrameEmit .. | .refreshFrameEmit ..
  | .protectiveCapSignal .. | .regwr .. | .registerWrite .. | .deferredExecute .. | .takeover .. | .split .. | .pairTickMarker ..
  | .imageCut .. | .fedBarrierPropose .. | .fedBarrierAck .. | .fedBarrierConfirmDue .. | .fedBarrierConfirm .. | .fedBarrierNoConfirm ..
  | .fedAnnounceSend .. | .fedAnnounce .. | .fedMemberLost .. | .fedRowmap .. | .fedRowmapSend .. | .fedCoordinatorAssume ..
  | .fedAllocCompute .. | .fedAlloc .. | .fedAllocStale .. | .fedResync .. | .adoptPropose .. | .redirectSend .. | .anchorSecond ..
  | .anchorFree .. => true
  | _ => false

/-- The commands that may move the pair link. -/
def movesPair : Instr → Bool
  | .roleResolve .. | .moduleResetInput .. | .moduleWithdraw .. | .logicPowerFail .. | .selChange .. | .tickEdge .. | .frameBoundary ..
  | .ptpSync .. | .sampleIndexAnchor .. | .commonSnapshot .. | .actionFire .. | .packetSeal .. | .frameRunOverrun .. | .logCommit ..
  | .regwr .. | .registerWrite .. | .deferredExecute .. | .heartbeatSend .. | .heartbeatReceived .. | .partnerLost .. | .peerHealthLost ..
  | .takeover .. | .rowAddressRepeat .. | .split .. | .pairTickMarker .. | .partnerReadRegs .. | .partnerReadFirn .. | .peekData ..
  | .peekTimeout .. | .imageCut .. | .imageFrame .. | .imageStale .. | .pairBarrierPropose .. | .pairBarrierAccept ..
  | .pairBarrierCancel .. | .roleSwapRequest .. | .tickRecord .. | .swapReady .. | .lockstepEnterRequest .. | .anchorSecond ..
  | .anchorFree .. => true
  | _ => false

/-- Whether a command may move a part: no claim is made about the parts not named here. -/
def moves (i : Instr) : Part → Bool
  | .clk => movesClk i
  | .servo => movesServo i
  | .ice => movesIce i
  | .plan => movesPlan i
  | .field => movesField i
  | .can => movesCan i
  | .lop => movesLop i
  | .lst => movesLst i
  | .fed => movesFed i
  | .pair => movesPair i
  | _ => true

/-! ### Register writes and requests that are taken -/

/-- A write of the word `v` to the address `a` by the session in slot `k` is taken: it passes the checks of R418 and R428, and neither a
field (R16) nor the fields together (`ok`) hold a reserved encoding. -/
structure State.WriteTaken (s : State) (k a : Nat) (v : Word) (ok : Bool) : Prop where
  checks : s.checkWords k [(a, v)] = none
  fields : (rowAt a).elim true (fun r => fieldsOk r v) = true
  cross : ok = true

/-- The state in which a write that is taken acts: the lease of the domain it used is renewed (R416). -/
def State.afterChecks (s : State) (k a : Nat) (v : Word) : State :=
  match s.usedDomain k (writeNeed a v) with
  | some d => s.renewLease d
  | none => s

/-- The last thing sent says that a write of a session was taken. -/
def WroteOk (t : State) (k a : Nat) : Prop := t.out.head? = some (.wrote k a 0 0 0)

/-- The state in which the frame of a request is judged by its number (R405, R410): its port has counted it and its session heard it. -/
def State.onFrame (s : State) (k : Nat) (q : Req) : State := (s.countRx q.port).heard k q.net

/-- A session's request reaches its judgement (R400, R402, R405, R412, R413): its port takes it, its source is not quarantined, its session is
open in slot `k`, its frame number is new, and its mailbox has no request in execution and none held or answered under its tag. `u` is the
state in which it is judged. -/
structure State.Reaches (s : State) (q : Req) (k : Nat) (u : State) : Prop where
  port : s.portTakes Fd.PORT_CFG_MBOX q.port q.src q.row = true
  quar : (s.countRx q.port).quarEntry q.src = none
  slot : (s.countRx q.port).slotOf q.session = some k
  defer : q.defer = true ∨ q.deferMs = 0
  fresh : ∃ h w, seqVerdict ((s.onFrame k q).sess k).rxHigh ((s.onFrame k q).sess k).rxWin q.seq.toNat = .fresh h w ∧
    u = (s.onFrame k q).arrive k h w q
  exec : (u.mailbox k q.mbox).exec = none
  held : (u.mailbox k q.mbox).held.all (fun h => h.tag != q.tag) = true
  last : (u.mailbox k q.mbox).last.all (fun a => a.tag != q.tag) = true

/-- The last thing sent is the answer to a request: OK, with these response fields (R406, R419). -/
def AnsweredOk (t : State) (q : Req) (code : Nat) (body : List Nat) : Prop :=
  ∃ n a, t.out.head? = some (.answer n a) ∧ a.session = q.session ∧ a.mbox = q.mbox.val ∧ a.tag = q.tag ∧ a.cmd = code ∧ a.status = 0 ∧ a.body = body

/-- The last thing sent is the answer to a request with a status other than OK (R406, R419). -/
def Refused (t : State) (q : Req) (code status : Nat) : Prop :=
  ∃ n a, t.out.head? = some (.answer n a) ∧ a.session = q.session ∧ a.mbox = q.mbox.val ∧ a.tag = q.tag ∧ a.cmd = code ∧ a.status = status ∧ status ≠ 0

/-- The last thing sent is a sessionless answer to a frame, on the network that it came in on (R402, R404, R406). -/
def PlainAnswered (t : State) (q : Plain) (code status detail : Nat) (body : List Nat) : Prop :=
  ∃ a, t.out.head? = some (.plain q.src (portNet q.port) a) ∧ a.tag = q.tag ∧ a.mbox = q.mbox.val ∧ a.cmd = code ∧ a.status = status ∧
    a.detail = detail ∧ a.body = body

/-- A sessionless frame is taken (R400, R441): its port takes it, and its source is not quarantined. -/
structure State.TakesPlain (s : State) (q : Plain) : Prop where
  port : s.portTakes Fd.PORT_CFG_MBOX q.port q.src q.row = true
  quar : (s.countRx q.port).quarEntry q.src = none

/-- A Craori frame is taken (R400, R441, R501): its port takes it, and its source is not quarantined. -/
structure State.TakesCra (s : State) (c : Came) : Prop where
  port : s.portTakes Fd.PORT_CFG_CRAORI c.port c.src c.row = true
  quar : (s.countRx c.port).quarEntry c.src = none

/-! ### Runs -/

/-- A run of `k` steps ends in no fault and no refusal. -/
def SafeRun (k : Nat) (s : State) : Prop := ∃ t, core.run k s = .next t

end Sys2Proof.Machine
end

