-- ==== Sys2Proof/Certificates/Slice0/Obligations.lean ====
section
/-! DEFINITION. The statements for the provers. A statement about commands is a conjunction, one clause for each case of a command: under the hypotheses named,
the command answers a next state, and the clause says what it holds; where it says Changes or Only, nothing but what it names differs.
Where a clause rests on a choice of the model, the docstring names the entry of the assumption log; entries 1, 5, 8, 9, 23, 24, 25, 36, 48, 57, 64 bear on every command. -/

set_option linter.unusedVariables false

open Sys2Proof Sys2Proof.Machine

/-- With a command at the front of the queue, step is exec of it on the state with the rest of the queue. On an empty queue the block idles: the
state stays (the model's own choice, log entry 1). (derived from spec/95_what_each_step_holds.md: Which steps each requirement bears on) -/
def Obligations.AStepTakesTheFrontCommand : Prop :=
  (∀ (c : Instr) (rest : List Instr) (s : State), s.pending = c :: rest →
    Sys2Proof.Machine.step s = Sys2Proof.Machine.exec c { s with pending := rest }) ∧
  (∀ s : State, s.pending = [] → Sys2Proof.Machine.step s = .next s)

/-- In State.reset nothing waits and nothing is sent, the state is POWERUP, no domain is held, no session slot is in use, every CAN bus is OFF,
time is 0, and the words named hold their reset values. (derived from spec/01_row_model_and_architecture.md: Operating states;
spec/02_time_and_step_phase.md: TIM_ registers; spec/10_zhoide_host_interface.md: NET_ registers; spec/14_firn_and_evidence.md: DIA_
registers; spec/11_can_fd.md: CAN_ registers) -/
def Obligations.ResetStandsAtTheSpecsValues : Prop :=
  State.reset.pending = [] ∧ State.reset.out = [] ∧ State.reset.opState = 0 ∧
  State.reset.rd Reg.TIM_HOLD_LIM = 3600 ∧
  State.reset.rd Reg.NET_SESS_TMO = 10 ∧
  State.reset.rd Reg.DIA_CTRL = 1 ∧ State.reset.rd Reg.DIA_SCRUB = 0x000A0C18 ∧
  State.reset.rd Reg.SYS_CREC_CMD = 0 ∧ State.reset.rd Reg.FRN_EVT = 0 ∧ State.reset.rd Reg.PLN_EVT = 0 ∧ State.reset.rd Reg.TIM_EVT = 0 ∧
  (∀ d : Fin 4, State.reset.holder d = none) ∧
  (∀ k : Fin 8, State.reset.fld (Fd.SS_STAT_STATE k) = 0) ∧
  (∀ b : Fin 8, State.reset.busMode b = 0) ∧
  State.reset.clk.sidx = 0 ∧ State.reset.clk.mtime = 0

/-- Inv holds of State.reset. (derived from spec/14_firn_and_evidence.md: Records) -/
def Obligations.ResetMeetsTheInvariant : Prop :=
  Inv State.reset

/-- From every state that meets Inv (the register file is canonical; Firn keeps its SEQ order and its limit), step answers a next state that
meets Inv. (derived from spec/14_firn_and_evidence.md: Records; spec/01_row_model_and_architecture.md: Device address space) -/
def Obligations.EveryStepKeepsTheInvariant : Prop :=
  ∀ s : State, Inv s → ∃ t, Sys2Proof.Machine.step s = .next t ∧ Inv t

/-- From every state that meets Inv, any number of steps ends in no fault and no refusal; Inv holds at its end, the first k commands have left
the queue, SEQ and the tick never go back, and nothing that was sent is taken back. (derived from spec/14_firn_and_evidence.md: Records) -/
def Obligations.AnyRunIsSafe : Prop :=
  ∀ (k : Nat) (s : State), Inv s →
    ∃ t : State, Sys2Proof.core.run k s = .next t ∧ Inv t ∧ t.pending = s.pending.drop k ∧ s.firn.seq ≤ t.firn.seq ∧ s.out <:+ t.out ∧
      s.clk.now ≤ t.clk.now

/-- Every command answers a next state and leaves the queue alone; a command that `moves` does not name for the clock, the servo, the engine,
the planner, the field inputs, CAN, the loops, lock-step, the federation or the pair link leaves that part as it was. (derived from
spec/01_row_model_and_architecture.md: The five functions and the dies that perform them; spec/00_scope.md: Where each subject is decided) -/
def Obligations.EachPartHasItsMovers : Prop :=
  ∀ (i : Instr) (s : State), ∃ t, Sys2Proof.Machine.exec i s = .next t ∧ t.pending = s.pending ∧
    ∀ p : Part, moves i p = false → p.Same s t

/-- R68: The reset value of TIM_HOLD_LIM is 3,600 s, and a write outside 10 to 86,400 s leaves it as it was while a write inside the range is
taken. In HOLDOVER for TIM_HOLD_LIM seconds or longer, HOLDOVER_EXPIRY enters FREERUN, sets TIM_EVT.HOLD_EXPIRED and leaves the clock as it
was; before that it changes nothing. -/
def Obligations.HoldoverHasALimit : Prop :=
  (State.reset.rd Reg.TIM_HOLD_LIM = 3600) ∧
  (∀ (s : State),
    s.fld Fd.TIM_STAT_SERVO = 3 → s.servo.holdFrom + 100000 * s.fld Fd.TIM_HOLD_LIM_SEC ≤ s.clk.now → 
    ∃ t, Sys2Proof.Machine.exec .holdoverExpiry s = .next t ∧
      t.fld Fd.TIM_STAT_SERVO = 0 ∧
      t.on Fd.TIM_EVT_HOLD_EXPIRED = true ∧
      t.clk = s.clk ∧ t.servo = { s.servo with rate := 0 } ∧
      Changes [.servo, .firn] [Reg.TIM_STAT, Reg.TIM_ERR_EST, Reg.TIM_EVT, Reg.TIM_EVT_SEQ] s t) ∧
  (∀ (s : State),
    s.clk.now < s.servo.holdFrom + 100000 * s.fld Fd.TIM_HOLD_LIM_SEC → 
    ∃ t, Sys2Proof.Machine.exec .holdoverExpiry s = .next t ∧
      t = s) ∧
  (∀ (w : Fin 8) (value : Word) (s : State),
    (value.toNat < 10 ∨ 86400 < value.toNat) → 
    ∃ t, Sys2Proof.Machine.exec (.registerWrite w Reg.TIM_HOLD_LIM value) s = .next t ∧
      t.rd Reg.TIM_HOLD_LIM = s.rd Reg.TIM_HOLD_LIM) ∧
  (∀ (w : Fin 8) (value : Word) (s : State),
    s.checkWords w [(Reg.TIM_HOLD_LIM, value)] = none → 10 ≤ value.toNat ∧ value.toNat ≤ 86400 → 
    ∃ t, Sys2Proof.Machine.exec (.registerWrite w Reg.TIM_HOLD_LIM value) s = .next t ∧
      WroteOk t w Reg.TIM_HOLD_LIM ∧
      t.rd Reg.TIM_HOLD_LIM = value ∧
      Changes [.zh, .out] [Reg.TIM_HOLD_LIM] s t)

/-- R533: A taken ENROL_COMMIT that clears a valid entry leaves none of that master's slots in use and none of its sessions holding a domain;
one that keeps the entry valid frees every domain that a session of the master held under a role the new word lacks. -/
def Obligations.CommitsEndSessionsAndRoles : Prop :=
  (∀ (w : Fin 8) (n : Fin 64) (value : Word) (s : State),
    s.WriteTaken w (Reg.EN_CFG n) value (s.enrolOk n value) → s.on (Fd.EN_CFG_VALID n) = true → (fieldOf value 31 1 = 0 ∨ s.fld (Fd.EN_MASTER_NUM n) ≠ s.enrolNum n) → 
    ∃ t, Sys2Proof.Machine.exec (.enrolCommit w n value) s = .next t ∧
      (∀ k, k ∈ s.slotsOf (s.enrolNum n) → t.fld (Fd.SS_STAT_STATE k) = 0 ∧ (∀ d, d < 4 → s.sessOpen k = true → t.holder d ≠ some k))) ∧
  (∀ (w : Fin 8) (n : Fin 64) (value : Word) (s : State),
    s.WriteTaken w (Reg.EN_CFG n) value (s.enrolOk n value) → s.on (Fd.EN_CFG_VALID n) = true → fieldOf value 31 1 = 1 → s.fld (Fd.EN_MASTER_NUM n) = s.enrolNum n → 
    ∃ t, Sys2Proof.Machine.exec (.enrolCommit w n value) s = .next t ∧
      (∀ k d, k ∈ s.slotsOf (s.enrolNum n) → d < 4 → s.holder d = some k → bitOf (fieldOf value 0 7) (domainRole d) = false → t.holder d = none))

/-- R230: CEIL_SET, CEIL_CLEAR, CEILING_COMMIT, CEILING_CLEAR_WRITE and a write of CL_VAL, from a session with the facility role in a legal
state with valid fields, take effect with no premise on the setter or on any domain; from a session without the role they are refused
NO_ROLE and no ceiling changes. -/
def Obligations.AnyFacilityMasterSetsCeilings : Prop :=
  (∀ (q : Req) (entry : BitVec 16) (scope form : Byte) (index : BitVec 16) (value : Word) (s : State) (k : Nat) (u : State),
    s.Reaches q k u → s.mainAbsent = false → s.inMap 0x03FA = true → q.defer = false → entry.toNat < 1024 → (scope.toNat < 4 ∧ form.toNat < 2 ∧ scopeOk scope.toNat index.toNat = true ∧ (form = 0 → value.toNat ≤ 0xFFFE)) → s.hasRole k roleFacility = true → 
    ∃ t, Sys2Proof.Machine.exec (.ceilSet q entry scope form index value) s = .next t ∧
      AnsweredOk t q 0x60 [entry.toNat, (t.rd (Reg.CL_SEQ entry.toNat)).toNat] ∧
      t.rd (Reg.CL_VAL entry.toNat) = value ∧
      t.rd (Reg.CL_CTRL entry.toNat) = BitVec.ofNat 32 (2 ^ 31 + index.toNat * 16 + form.toNat * 8 + scope.toNat)) ∧
  (∀ (q : Req) (entry : BitVec 16) (scope form : Byte) (index : BitVec 16) (value : Word) (s : State) (k : Nat) (u : State),
    s.Reaches q k u → s.mainAbsent = false → q.defer = false → entry.toNat < 1024 → (scope.toNat < 4 ∧ form.toNat < 2 ∧ scopeOk scope.toNat index.toNat = true ∧ (form = 0 → value.toNat ≤ 0xFFFE)) → s.hasRole k roleFacility = false → 
    ∃ t, Sys2Proof.Machine.exec (.ceilSet q entry scope form index value) s = .next t ∧
      Refused t q 0x60 0x31 ∧
      Changes [.zh, .out] [Reg.SS_MBOX k, Reg.PORT_CNT_RX q.port] s t) ∧
  (∀ (q : Req) (entry : BitVec 16) (s : State) (k : Nat) (u : State),
    s.Reaches q k u → s.mainAbsent = false → s.inMap 0x03FA = true → q.defer = false → entry.toNat < 1024 → s.hasRole k roleFacility = true → s.on (Fd.CL_CTRL_VALID entry.toNat) = true → 
    ∃ t, Sys2Proof.Machine.exec (.ceilClear q entry) s = .next t ∧
      AnsweredOk t q 0x61 [1] ∧
      t.on (Fd.CL_CTRL_VALID entry.toNat) = false) ∧
  (∀ (q : Req) (entry : BitVec 16) (s : State) (k : Nat) (u : State),
    s.Reaches q k u → s.mainAbsent = false → q.defer = false → (entry.toNat < 1024 ∨ entry = 0xFFFF) → s.hasRole k roleFacility = false → 
    ∃ t, Sys2Proof.Machine.exec (.ceilClear q entry) s = .next t ∧
      Refused t q 0x61 0x31 ∧
      Changes [.zh, .out] [Reg.SS_MBOX k, Reg.PORT_CNT_RX q.port] s t) ∧
  (∀ (w : Fin 8) (c : Fin 1024) (value : Word) (s : State),
    s.mainAbsent = false → s.inMap 0x03FA = true → crossPlan s (Reg.CL_CTRL c) (value ||| 0x80000000) = true → s.sessOpen w = true ∧ s.hasRole w roleFacility = true → 
    ∃ t, Sys2Proof.Machine.exec (.ceilingCommit w c value) s = .next t ∧
      WroteOk t w (Reg.CL_CTRL c) ∧
      t.rd (Reg.CL_CTRL c) = (value ||| 0x80000000) &&& 0x8000FFFF) ∧
  (∀ (w : Fin 8) (c : Fin 1024) (value : Word) (s : State),
    s.mainAbsent = false → s.hasRole w roleFacility = false → 
    ∃ t, Sys2Proof.Machine.exec (.ceilingCommit w c value) s = .next t ∧
      t.out.head? = some (.wrote w (Reg.CL_CTRL c) 0x31 0 roleFacility) ∧
      Changes [.out] [] s t) ∧
  (∀ (w : Fin 8) (c : Fin 1024) (value : Word) (s : State),
    s.mainAbsent = false → s.inMap 0x03FA = true → crossPlan s (Reg.CL_CTRL c) (value &&& 0x7FFFFFFF) = true → s.sessOpen w = true ∧ s.hasRole w roleFacility = true → 
    ∃ t, Sys2Proof.Machine.exec (.ceilingClearWrite w c value) s = .next t ∧
      WroteOk t w (Reg.CL_CTRL c) ∧
      t.rd (Reg.CL_CTRL c) = value &&& 0x7FFFFFFF &&& 0xFFFF) ∧
  (∀ (w : Fin 8) (c : Fin 1024) (value : Word) (s : State),
    s.mainAbsent = false → s.hasRole w roleFacility = false → 
    ∃ t, Sys2Proof.Machine.exec (.ceilingClearWrite w c value) s = .next t ∧
      t.out.head? = some (.wrote w (Reg.CL_CTRL c) 0x31 0 roleFacility) ∧
      Changes [.out] [] s t) ∧
  (∀ (w : Fin 8) (value : Word) (s : State) (c : Fin 1024),
    s.mainAbsent = false → s.inMap 0x03FA = true → s.sessOpen w = true ∧ s.hasRole w roleFacility = true → 
    ∃ t, Sys2Proof.Machine.exec (.registerWrite w (Reg.CL_VAL c) value) s = .next t ∧
      WroteOk t w (Reg.CL_VAL c) ∧
      t.rd (Reg.CL_VAL c) = value) ∧
  (∀ (w : Fin 8) (value : Word) (s : State) (c : Fin 1024),
    s.mainAbsent = false → s.hasRole w roleFacility = false → 
    ∃ t, Sys2Proof.Machine.exec (.registerWrite w (Reg.CL_VAL c) value) s = .next t ∧
      t.out.head? = some (.wrote w (Reg.CL_VAL c) 0x31 0 roleFacility) ∧
      Changes [.out] [] s t)

/-- R94: A taken commit of a BARRIER entry whose trigger has a lateness above 0 ends REFUSED with reason LATE and arms nothing, and an
ACTION_ADD of one is answered LATE and arms nothing. -/
def Obligations.BarrierEntriesHaveNoLateAllowance : Prop :=
  (∀ (w : Fin 8) (n : Fin 4096) (value : Word) (s : State),
    s.WriteTaken w (Reg.AE_CTRL n) value (crossAction value) → s.fld (Fd.AE_STAT_STATE n) ≠ 1 → fieldOf value 31 1 = 1 → fieldOf value 24 4 = 6 → 0 < s.lateness ((s.wr (Reg.AE_CTRL n) (writeMasked (s.rd (Reg.AE_CTRL n)) value 0xFFFF8000 0)).trigger n) → 
    ∃ t, Sys2Proof.Machine.exec (.actionCommit w n value) s = .next t ∧
      t.out.head? = some (.wrote w (Reg.AE_CTRL n) 0x13 0 (lateUs (s.lateness ((s.wr (Reg.AE_CTRL n) (writeMasked (s.rd (Reg.AE_CTRL n)) value 0xFFFF8000 0)).trigger n)))) ∧
      t.fld (Fd.AE_STAT_STATE n) = 4 ∧ t.fld (Fd.AE_STAT_REASON n) = 1 ∧
      t.act.armed = s.act.armed) ∧
  (∀ (q : Req) (a : ActionFields) (s : State) (k : Nat) (u : State),
    s.Reaches q k u → (judgeActionAdd a k u).first q u = none → a.kind = 6 → 0 < s.lateness ⟨a.trig.toNat, 6, a.job.toNat, a.every.toNat == 1, actionValue a⟩ → 
    ∃ t, Sys2Proof.Machine.exec (.actionAdd q a) s = .next t ∧
      Refused t q 0x41 0x13 ∧
      t.act.armed = s.act.armed ∧
      Changes [.zh, .firn, .out] [Reg.TIM_ACT_CNT_LATE, Reg.TIM_EVT, Reg.TIM_EVT_SEQ, Reg.SS_MBOX k, Reg.PORT_CNT_RX q.port] s t)

/-- R451: When a write of BUS_NBT, BUS_DBT or BUS_AUTO is executed with the bus in OFF, the word takes the written bits and nothing else
changes; in any other mode the word is unchanged and BUS_EVT.CFG_IGN is set. -/
def Obligations.BusTimingIsWrittenInOff : Prop :=
  ∀ (s : State) (k : Nat) (b : Fin 8) (v : Word) (a : Nat), a ∈ [Reg.BUS_NBT b, Reg.BUS_DBT b, Reg.BUS_AUTO b] →
    (s.fld (Fd.BUS_CTRL_MODE b) = 0 →
      ∃ r, rowAt a = some r ∧ r.rw ≠ 0 ∧ (s.writeWord k a v).1.rd a = writeMasked (s.rd a) v r.rw r.w1c ∧ Changes [] [a] s (s.writeWord k a v).1) ∧
    (s.fld (Fd.BUS_CTRL_MODE b) ≠ 0 →
      (s.writeWord k a v).1.rd a = s.rd a ∧ (s.writeWord k a v).1.on (Fd.BUS_EVT_CFG_IGN b) = true ∧
      Changes [.firn] [Reg.BUS_EVT b, Reg.BUS_EVT_SEQ b] s (s.writeWord k a v).1)

/-- Registers are read and written by sessions and by hardware reads: reads answer the words in order, a latched low word holds the wider value,
a read-to-clear word clears, a write to a word of the main die lands at once and one to a word housed on Serac waits for the tick edge.
Commands: LATCHED_LOW_WORD_READ, RC_REGISTER_READ, REGRD, PEEK_REQ, REGWR, REGISTER_WRITE. Formalises what R11, R12, R16, R57, R418, R422,
R477 say of these cases. Choices of the model that bear on its clauses: log entries 22, 26, 27, 58, 90. -/
def Obligations.RegistersAreReadAndWritten : Prop :=
  (∀ (s : State),
    s.mainAbsent = false → 
    ∃ t, Sys2Proof.Machine.exec (.latchedLowWordRead Reg.TIM_SIDX_LO) s = .next t ∧
      t.out = .data (wordBytes (s.readValue Reg.TIM_SIDX_LO)) :: s.out ∧
      t.readValue Reg.TIM_SIDX_HI = (s.clk.sidx >>> 32).setWidth 32 ∧
      t.readValue Reg.TIM_EDGE_NS = BitVec.ofNat 32 (s.clk.mtime.toNat % 1000000000) ∧
      Tab.find t.shadow Reg.TIM_SIDX_LO = none ∧
      Only [.out, .shadow] s t) ∧
  (∀ (addr : Nat) (s : State),
    s.reachable addr = true → 
    ∃ t, Sys2Proof.Machine.exec (.latchedLowWordRead addr) s = .next t ∧
      t.out = .data (wordBytes (s.readValue addr)) :: s.out ∧
      (∀ p ∈ stickyPartners addr ++ oncePartners addr, Tab.find t.shadow p = some (s.viewWord p)) ∧
      Only [.out, .shadow, .regs] s t) ∧
  (∀ (addr : Nat) (s : State),
    s.reachable addr = false → 
    ∃ t, Sys2Proof.Machine.exec (.latchedLowWordRead addr) s = .next t ∧
      t.out = s.out ∧ t.shadow = s.shadow ∧
      Only [.regs, .firn, .sec] s t) ∧
  (∀ (addr : Nat) (s : State),
    s.reachable addr = true → 
    ∃ t, Sys2Proof.Machine.exec (.rcRegisterRead addr) s = .next t ∧
      t.out = .data (wordBytes (s.readValue addr)) :: s.out ∧
      Only [.out, .shadow, .regs] s t) ∧
  (∀ (addr : Nat) (s : State) (r : RegRow),
    s.reachable addr = true → rowAt addr = some r → r.rc ≠ 0 → windowOf addr ≠ 10 → stickyPartners addr ++ oncePartners addr = [] → 
    ∃ t, Sys2Proof.Machine.exec (.rcRegisterRead addr) s = .next t ∧
      t.out = .data (wordBytes (s.readValue addr)) :: s.out ∧
      t.rd addr = s.rd addr &&& ~~~(BitVec.ofNat 32 r.rc) ∧
      Changes [.out, .shadow] [addr] s t) ∧
  (∀ (q : Req) (addr count : Nat) (s : State) (k : Nat) (u : State),
    s.Reaches q k u → (judgeRegrd addr count none k u).first q u = none → 
    ∃ t, Sys2Proof.Machine.exec (.regrd q addr count none) s = .next t ∧
      AnsweredOk t q 0x20 ((readWords (wordsFrom addr count) u).1.map BitVec.toNat)) ∧
  (∀ (q : Req) (addr count : Nat) (busErr : Option Nat) (s : State) (k : Nat) (u : State) (n : Nat),
    s.Reaches q k u → (judgeRegrd addr count busErr k u).first q u = none → busErr = some n → n < count → 
    ∃ t, Sys2Proof.Machine.exec (.regrd q addr count busErr) s = .next t ∧
      Refused t q 0x20 0x40) ∧
  (∀ (q : Req) (addr count : Nat) (busErr : Option Nat) (s : State) (k : Nat) (u : State),
    s.Reaches q k u → (count = 0 ∨ 64 < count) → 
    ∃ t, Sys2Proof.Machine.exec (.regrd q addr count busErr) s = .next t ∧
      Refused t q 0x20 0x21) ∧
  (∀ (count : Fin 16) (addr : BitVec 64) (s : State),
    s.sys.seracUp = true → (wordsFrom addr.toNat (count + 1)).all s.peekable = true → 
    ∃ t, Sys2Proof.Machine.exec (.peekReq false 0 count addr) s = .next t ∧
      (∃ n, t.out = .frame .peekData ([1, s.pairLevel, 0x0C, s.sys.straps.moduleId.val, s.sys.straps.slot.val, n, s.clk.mtime.toNat, 1] ++ (wordsFrom addr.toNat (count + 1)).map (fun a => (s.readValue a).toNat)) :: .frame .peekData ([0, s.pairLevel, 0x0C, s.sys.straps.moduleId.val, s.sys.straps.slot.val, n, s.clk.mtime.toNat, 1] ++ (wordsFrom addr.toNat (count + 1)).map (fun a => (s.readValue a).toNat)) :: s.out) ∧
      Only [.sec, .out] s t) ∧
  (∀ (firn : Bool) (area : Fin 2) (count : Fin 16) (addr : BitVec 64) (s : State),
    s.sys.seracUp = true → 
    ∃ t, Sys2Proof.Machine.exec (.peekReq firn area count addr) s = .next t ∧
      t.out.head?.isSome = true ∧
      Only [.sec, .out] s t) ∧
  (∀ (firn : Bool) (area : Fin 2) (count : Fin 16) (addr : BitVec 64) (s : State),
    s.sys.seracUp = false → 
    ∃ t, Sys2Proof.Machine.exec (.peekReq firn area count addr) s = .next t ∧
      t = s) ∧
  (∀ (q : Req) (addr : Nat) (values : List Word) (s : State) (k : Nat) (u : State),
    s.Reaches q k u → (values.length = 0 ∨ 64 < values.length) → 
    ∃ t, Sys2Proof.Machine.exec (.regwr q addr values none) s = .next t ∧
      Refused t q 0x21 0x21 ∧
      t.waitWrites = s.waitWrites) ∧
  (∀ (q : Req) (addr : Nat) (values : List Word) (s : State) (k : Nat) (u : State) (d : Denial),
    s.Reaches q k u → (judgeRegwr addr values none k u).first q u = some d → d.status ≠ 0x10 → 
    ∃ t, Sys2Proof.Machine.exec (.regwr q addr values none) s = .next t ∧
      Refused t q 0x21 d.status ∧
      t.waitWrites = s.waitWrites) ∧
  (∀ (q : Req) (addr : Nat) (v : Word) (s : State) (k : Nat) (u : State),
    s.Reaches q k u → (judgeRegwr addr [v] none k u).first q u = none → onSerac addr = true → s.encodes addr v = true → 
    ∃ t, Sys2Proof.Machine.exec (.regwr q addr [v] none) s = .next t ∧
      AnsweredOk t q 0x21 [1] ∧
      t.waitWrites = s.waitWrites ++ [⟨k, addr, v⟩] ∧
      Changes [.zh, .waitWrites, .out] [Reg.SS_MBOX k, Reg.PORT_CNT_RX q.port] s t) ∧
  (∀ (q : Req) (addr : Nat) (v : Word) (s : State) (k : Nat) (u : State),
    s.Reaches q k u → (judgeRegwr addr [v] none k u).first q u = none → onSerac addr = false → isCounterWord addr = true → s.encodes addr v = true → 
    ∃ t, Sys2Proof.Machine.exec (.regwr q addr [v] none) s = .next t ∧
      AnsweredOk t q 0x21 [1] ∧
      t.rd addr = (s.plainWrite addr v).rd addr ∧
      Changes [.zh, .out] [addr, Reg.SS_MBOX k, Reg.PORT_CNT_RX q.port] s t) ∧
  (∀ (w : Fin 8) (addr : Nat) (value : Word) (s : State),
    s.checkWords w [(addr, value)] = none → onSerac addr = true → s.encodes addr value = true → 
    ∃ t, Sys2Proof.Machine.exec (.registerWrite w addr value) s = .next t ∧
      WroteOk t w addr ∧
      t.waitWrites = s.waitWrites ++ [⟨w, addr, value⟩] ∧
      Changes [.zh, .waitWrites, .out] [] s t) ∧
  (∀ (w : Fin 8) (addr : Nat) (value : Word) (s : State),
    s.checkWords w [(addr, value)] = none → onSerac addr = false → isCounterWord addr = true → s.encodes addr value = true → 
    ∃ t, Sys2Proof.Machine.exec (.registerWrite w addr value) s = .next t ∧
      WroteOk t w addr ∧
      t.rd addr = (s.plainWrite addr value).rd addr ∧
      Changes [.zh, .out] [addr] s t) ∧
  (∀ (w : Fin 8) (addr : Nat) (value : Word) (s : State) (d : Denial),
    s.checkWords w [(addr, value)] = some d → 
    ∃ t, Sys2Proof.Machine.exec (.registerWrite w addr value) s = .next t ∧
      t.out.head? = some (.wrote w addr d.status d.legal d.detail) ∧
      t.waitWrites = s.waitWrites ∧
      Only [.out, .regs, .firn, .sec] s t)

/-- A tick edge and a frame boundary advance the counters: a tick edge counts one tick and passes the time of one, at the rate of the servo or
slewed onto whole multiples of 10 us, and takes the index of a marker where one begins it; the tick that follows its edge runs with the
latched inputs; a boundary begins the edge of a frame; and without Serac, or at the end of the hold-up, nothing goes on. Commands:
FRAME_BOUNDARY, TICK_EDGE. Formalises what R31, R32, R595 say of these cases. Choices of the model that bear on its clauses: log entries 19,
27, 31, 33, 34, 39, 40, 42, 43, 50, 51, 56, 58, 60, 62, 63, 67, 87, 89, 90, 91, 92, 95. -/
def Obligations.TicksAndFramesAdvance : Prop :=
  (∀ (s : State),
    s.sys.seracUp = true → s.clk.begun = false → s.edge.clk.sidx.toNat % 100 = 0 → 
    ∃ t, Sys2Proof.Machine.exec .frameBoundary s = .next t ∧
      t.clk.begun = t.sys.seracUp ∧
      s.clk.now + 1 ≤ t.clk.now ∧
      (s.firn.Ok → s.firn.seq ≤ t.firn.seq)) ∧
  (∀ (latches : List Latch) (check : LaneCheck) (s : State),
    s.sys.seracUp = true → s.clk.begun = false → s.edgeAll.sys.seracUp = true → (s.edgeAll.sys.powerEnd.all (fun n => decide (s.edgeAll.clk.now < n)) = true) → 
    ∃ t, Sys2Proof.Machine.exec (.tickEdge latches check) s = .next t ∧
      t = s.edgeAll.tickBody latches check ∧
      s.clk.now + 1 ≤ t.clk.now ∧
      t.sys.excite = t.on Fd.ACT_HW_STAT_SEL) ∧
  (∀ (s : State) (mk : Mark),
    mk = none → s.sys.firstTick = false → s.fld Fd.TIM_STAT_TICK_SRC ≠ 1 → s.servo.rate = 0 ∧ s.servo.frac = 0 → 
    ∃ t, t = s.advance mk ∧
      t.clk = { s.clk with now := s.clk.now + 1, sidx := s.clk.sidx + 1, tcnt := s.clk.tcnt + 1, mtime := s.clk.mtime + 10000 } ∧
      Only [.clk, .servo, .sys] s t) ∧
  (∀ (s : State) (mk : Mark),
    mk = none → s.sys.firstTick = true → s.fld Fd.TIM_STAT_TICK_SRC ≠ 1 → 
    ∃ t, t = s.advance mk ∧
      t.clk = { s.clk with now := s.clk.now + 1, tcnt := s.clk.tcnt + 1, mtime := s.clk.mtime + BitVec.ofInt 64 (10000 + (s.servo.frac + s.servo.rate) / 100000) } ∧
      t.servo = { s.servo with frac := (s.servo.frac + s.servo.rate) % 100000 } ∧
      t.sys = { s.sys with firstTick := false } ∧
      Only [.clk, .servo, .sys] s t) ∧
  (∀ (s : State) (mk : Mark) (x : BitVec 64 × BitVec 64),
    mk = some x → s.fld Fd.TIM_STAT_TICK_SRC = 1 → 
    ∃ t, t = s.advance mk ∧
      t.clk = { s.clk with now := s.clk.now + 1, sidx := x.1, tcnt := x.2, mtime := s.clk.mtime + BitVec.ofInt 64 (10000 + edgeSlew s.clk.mtime.toNat) } ∧
      t.servo = s.servo ∧
      Only [.clk, .sys] s t) ∧
  (∀ (latches : List Latch) (check : LaneCheck) (s : State),
    s.sys.seracUp = true → s.clk.begun = true → s.sys.powerEnd = none → 
    ∃ t, Sys2Proof.Machine.exec (.tickEdge latches check) s = .next t ∧
      t.clk.begun = false ∧
      t.clk.now = s.clk.now ∧ t.clk.sidx = s.clk.sidx ∧
      t.sys.excite = t.on Fd.ACT_HW_STAT_SEL) ∧
  (∀ (latches : List Latch) (check : LaneCheck) (s : State),
    s.sys.seracUp = false → 
    ∃ t, Sys2Proof.Machine.exec (.tickEdge latches check) s = .next t ∧
      t = s) ∧
  (∀ (latches : List Latch) (check : LaneCheck) (s : State) (n : Nat),
    s.sys.seracUp = true → s.clk.begun = true → s.sys.powerEnd = some n → n ≤ s.clk.now → 
    ∃ t, Sys2Proof.Machine.exec (.tickEdge latches check) s = .next t ∧
      t.sys.seracUp = false ∧
      t.sys.portUp = false) ∧
  (∀ (s : State),
    (s.sys.seracUp = false ∨ s.clk.begun = true ∨ s.edge.clk.sidx.toNat % 100 ≠ 0) → 
    ∃ t, Sys2Proof.Machine.exec .frameBoundary s = .next t ∧
      t = s)

/-- Session commands are answered: HELLO, PING and SUBSCRIBE are answered, sessions close by command and by time-out, and protocol violations
are counted. Commands: HELLO, PING, SUBSCRIBE, SESS_CLOSE, SESSION_TIMEOUT, SESSION_OPEN_TIMEOUT, ZHOIDE_PROTOCOL_VIOLATION. Formalises what
R405, R410, R421, R440, R441, R501, R539 say of these cases. Choices of the model that bear on its clauses: log entries 10, 27, 28, 90, 92. -/
def Obligations.SessionCommandsAreAnswered : Prop :=
  (∀ (q : Plain) (s : State),
    s.TakesPlain q → 
    ∃ t, Sys2Proof.Machine.exec (.hello q.came q.tag q.mbox) s = .next t ∧
      (PlainAnswered t q 0x01 0 0 [s.fld Fd.SYS_LVL_ZH_MIN, s.fld Fd.SYS_LVL_ZH_MAX, s.fld Fd.SYS_ID_VARIANT, s.sys.straps.moduleId.val, s.fld Fd.NET_STAT_ROW_OWNER, ((List.range 8).filter (fun k => s.fld (Fd.SS_STAT_STATE k) == 0)).length]) ∧
      t.out.length = s.out.length + 1 ∧
      Changes [.out] [Reg.PORT_CNT_RX q.port] s t) ∧
  (∀ (q : Plain) (s : State) (e : Nat),
    s.portTakes Fd.PORT_CFG_MBOX q.port q.src q.row = true → (s.countRx q.port).quarEntry q.src = some e → 
    ∃ t, Sys2Proof.Machine.exec (.hello q.came q.tag q.mbox) s = .next t ∧
      t.rd Reg.NET_CNT_QDROP = satCount (s.rd Reg.NET_CNT_QDROP) 1 ∧
      Changes [] [Reg.PORT_CNT_RX q.port, Reg.NET_CNT_QDROP] s t) ∧
  (∀ (q : Req) (s : State) (k : Nat) (u : State),
    s.Reaches q k u → (judgePing k u).first q u = none → 
    ∃ t, Sys2Proof.Machine.exec (.ping q) s = .next t ∧
      AnsweredOk t q 0x05 [s.clk.mtime.toNat, s.clk.sidx.toNat] ∧
      Changes [.zh, .out] [Reg.SS_MBOX k, Reg.PORT_CNT_RX q.port] s t) ∧
  (∀ (q : Req) (classes : Word) (s : State) (k : Nat) (u : State),
    s.Reaches q k u → (judgeSubscribe classes k u).first q u = none → 
    ∃ t, Sys2Proof.Machine.exec (.subscribe q classes) s = .next t ∧
      AnsweredOk t q 0x06 [] ∧
      (t.sess k).subs = classes.toNat ∧
      Changes [.zh, .out] [Reg.SS_MBOX k, Reg.PORT_CNT_RX q.port] s t) ∧
  (∀ (q : Req) (s : State) (k : Nat) (u : State),
    s.Reaches q k u → (judgeClose k u).first q u = none → 
    ∃ t, Sys2Proof.Machine.exec (.sessClose q) s = .next t ∧
      AnsweredOk t q 0x04 [] ∧
      t.sessOpen k = false ∧
      t.rd (Reg.SS_ID k) = 0 ∧
      (∀ d, d < 4 → t.holds k d = false) ∧
      t.on Fd.NET_EVT_SESS_CLOSE = true ∧
      Only [.zh, .regs, .firn, .out] s t) ∧
  (∀ (slot : Fin 8) (s : State),
    s.sessOpen slot = true → (s.sess slot).lastRx + sTicks (s.fld Fd.NET_SESS_TMO_SEC) ≤ s.clk.now → 
    ∃ t, Sys2Proof.Machine.exec (.sessionTimeout slot) s = .next t ∧
      t.sessOpen slot = false ∧
      t.rd (Reg.SS_ID slot) = 0 ∧
      Tab.find t.zh.sess slot = none ∧
      t.on Fd.NET_EVT_SESS_CLOSE = true ∧
      Only [.zh, .regs, .firn] s t) ∧
  (∀ (slot : Fin 8) (s : State),
    s.fld (Fd.SS_STAT_STATE slot) = 1 → (s.sess slot).openedAt + sTicks 5 ≤ s.clk.now → 
    ∃ t, Sys2Proof.Machine.exec (.sessionOpenTimeout slot) s = .next t ∧
      t.rd (Reg.SS_STAT slot) = 0 ∧
      t.rd (Reg.SS_ID slot) = 0 ∧
      Tab.find t.zh.sess slot = none ∧
      Changes [.zh] [Reg.SS_STAT slot, Reg.SS_ID slot, Reg.SS_ROLES slot, Reg.SS_LEVEL slot] s t) ∧
  (∀ (q : Plain) (session : Word) (cmd : Byte) (s : State),
    s.TakesPlain q → ((s.source q.src).second ≠ s.second ∨ (s.source q.src).count < 100) → s.mayAnswerError q.src = true → s.slotOf session = none → 
    ∃ t, Sys2Proof.Machine.exec (.zhoideProtocolViolation q.came ⟨q.tag, q.mbox⟩ (.badLevel session cmd)) s = .next t ∧
      t.rd Reg.NET_CNT_PROTO = satCount (s.rd Reg.NET_CNT_PROTO) 1 ∧
      ((t.source q.src).count = if (s.source q.src).second = s.second then (s.source q.src).count + 1 else 1) ∧
      (t.source q.src).lastErr = some s.clk.now ∧
      PlainAnswered t q cmd.toNat 0x50 1 [] ∧
      Changes [.zh, .out] [Reg.PORT_CNT_RX q.port, Reg.NET_CNT_PROTO] s t) ∧
  (∀ (q : Plain) (cmd : Byte) (s : State),
    s.TakesPlain q → ((s.source q.src).second ≠ s.second ∨ (s.source q.src).count < 100) → s.mayAnswerError q.src = true → s.slotOf 0 = none → 
    ∃ t, Sys2Proof.Machine.exec (.zhoideProtocolViolation q.came ⟨q.tag, q.mbox⟩ (.badCrc cmd)) s = .next t ∧
      t.rd Reg.NET_CNT_PROTO = satCount (s.rd Reg.NET_CNT_PROTO) 1 ∧
      ((t.source q.src).count = if (s.source q.src).second = s.second then (s.source q.src).count + 1 else 1) ∧
      (t.source q.src).lastErr = some s.clk.now ∧
      PlainAnswered t q cmd.toNat 0x50 2 [] ∧
      Changes [.zh, .out] [Reg.PORT_CNT_RX q.port, Reg.NET_CNT_PROTO] s t) ∧
  (∀ (q : Plain) (session : Word) (cmd : Byte) (s : State),
    s.TakesPlain q → ((s.source q.src).second ≠ s.second ∨ (s.source q.src).count < 100) → s.mayAnswerError q.src = true → s.slotOf session = none → 
    ∃ t, Sys2Proof.Machine.exec (.zhoideProtocolViolation q.came ⟨q.tag, q.mbox⟩ (.badLength session cmd)) s = .next t ∧
      t.rd Reg.NET_CNT_PROTO = satCount (s.rd Reg.NET_CNT_PROTO) 1 ∧
      ((t.source q.src).count = if (s.source q.src).second = s.second then (s.source q.src).count + 1 else 1) ∧
      (t.source q.src).lastErr = some s.clk.now ∧
      PlainAnswered t q cmd.toNat 0x50 3 [] ∧
      Changes [.zh, .out] [Reg.PORT_CNT_RX q.port, Reg.NET_CNT_PROTO] s t) ∧
  (∀ (q : Plain) (session : Word) (cmd : Byte) (s : State),
    s.TakesPlain q → ((s.source q.src).second ≠ s.second ∨ (s.source q.src).count < 100) → s.mayAnswerError q.src = true → s.slotOf session = none → 
    ∃ t, Sys2Proof.Machine.exec (.zhoideProtocolViolation q.came ⟨q.tag, q.mbox⟩ (.reservedEnc session cmd)) s = .next t ∧
      t.rd Reg.NET_CNT_PROTO = satCount (s.rd Reg.NET_CNT_PROTO) 1 ∧
      ((t.source q.src).count = if (s.source q.src).second = s.second then (s.source q.src).count + 1 else 1) ∧
      (t.source q.src).lastErr = some s.clk.now ∧
      PlainAnswered t q cmd.toNat 0x50 4 [] ∧
      Changes [.zh, .out] [Reg.PORT_CNT_RX q.port, Reg.NET_CNT_PROTO] s t) ∧
  (∀ (q : Plain) (cmd : Byte) (s : State),
    s.TakesPlain q → ((s.source q.src).second ≠ s.second ∨ (s.source q.src).count < 100) → s.mayAnswerError q.src = true → s.slotOf 0 = none → 
    ∃ t, Sys2Proof.Machine.exec (.zhoideProtocolViolation q.came ⟨q.tag, q.mbox⟩ (.noSession cmd)) s = .next t ∧
      t.rd Reg.NET_CNT_PROTO = satCount (s.rd Reg.NET_CNT_PROTO) 1 ∧
      ((t.source q.src).count = if (s.source q.src).second = s.second then (s.source q.src).count + 1 else 1) ∧
      (t.source q.src).lastErr = some s.clk.now ∧
      PlainAnswered t q cmd.toNat 0x50 5 [] ∧
      Changes [.zh, .out] [Reg.PORT_CNT_RX q.port, Reg.NET_CNT_PROTO] s t) ∧
  (∀ (q : Plain) (cmd : Byte) (s : State) (e : Nat),
    s.TakesPlain q → (s.source q.src).second = s.second → (s.source q.src).count = 100 → s.on Fd.NET_CTRL_QUAR_EN = true → s.freeQuar = some e → 
    ∃ t, Sys2Proof.Machine.exec (.zhoideProtocolViolation q.came ⟨q.tag, q.mbox⟩ (.badCrc cmd)) s = .next t ∧
      t.on (Fd.QU_STAT_VALID e) = true ∧
      t.quarAddr e = q.src % 2 ^ 128 ∧
      Tab.find t.zh.quarEnd e = some (s.clk.now + sTicks 10) ∧
      t.rd Reg.NET_CNT_QUAR = satCount (s.rd Reg.NET_CNT_QUAR) 1 ∧
      t.on Fd.NET_EVT_QUARANTINE = true ∧
      t.on Fd.STM_EVT_QUARANTINE = true) ∧
  (∀ (q : Plain) (s : State),
    s.TakesPlain q → 
    ∃ t, Sys2Proof.Machine.exec (.zhoideProtocolViolation q.came ⟨q.tag, q.mbox⟩ .unparseable) s = .next t ∧
      t.rd Reg.NET_CNT_UNPARSE = satCount (s.rd Reg.NET_CNT_UNPARSE) 1 ∧
      Changes [] [Reg.PORT_CNT_RX q.port, Reg.NET_CNT_UNPARSE] s t) ∧
  (∀ (q : Plain) (s : State),
    s.TakesPlain q → 
    ∃ t, Sys2Proof.Machine.exec (.zhoideProtocolViolation q.came ⟨q.tag, q.mbox⟩ .gcmFail) s = .next t ∧
      t.rd Reg.NET_CNT_UNPARSE = satCount (s.rd Reg.NET_CNT_UNPARSE) 1 ∧
      t.rd Reg.NET_CNT_AUTH = satCount (s.rd Reg.NET_CNT_AUTH) 1 ∧
      t.on Fd.NET_EVT_AUTH_FAIL = true ∧
      Changes [.firn] [Reg.PORT_CNT_RX q.port, Reg.NET_CNT_UNPARSE, Reg.NET_CNT_AUTH, Reg.NET_EVT, Reg.NET_EVT_SEQ] s t) ∧
  (∀ (q : Plain) (s : State),
    s.TakesPlain q → 
    ∃ t, Sys2Proof.Machine.exec (.zhoideProtocolViolation q.came ⟨q.tag, q.mbox⟩ .copyFrame) s = .next t ∧
      t.rd Reg.NET_CNT_DUP = satCount (s.rd Reg.NET_CNT_DUP) 1 ∧
      Changes [] [Reg.PORT_CNT_RX q.port, Reg.NET_CNT_DUP] s t) ∧
  (∀ (q : Plain) (s : State),
    s.TakesPlain q → 
    ∃ t, Sys2Proof.Machine.exec (.zhoideProtocolViolation q.came ⟨q.tag, q.mbox⟩ .oldFrame) s = .next t ∧
      t.rd Reg.NET_CNT_OLD = satCount (s.rd Reg.NET_CNT_OLD) 1 ∧
      Changes [] [Reg.PORT_CNT_RX q.port, Reg.NET_CNT_OLD] s t) ∧
  (∀ (q : Plain) (s : State),
    s.TakesCra ⟨q.src, q.port, q.row⟩ → 
    ∃ t, Sys2Proof.Machine.exec (.zhoideProtocolViolation q.came ⟨q.tag, q.mbox⟩ .craoriUnparseable) s = .next t ∧
      t.rd Reg.NET_CNT_UNPARSE = satCount (s.rd Reg.NET_CNT_UNPARSE) 1 ∧
      Changes [] [Reg.PORT_CNT_RX q.port, Reg.NET_CNT_UNPARSE] s t) ∧
  (∀ (q : Plain) (s : State),
    s.TakesCra ⟨q.src, q.port, q.row⟩ → 
    ∃ t, Sys2Proof.Machine.exec (.zhoideProtocolViolation q.came ⟨q.tag, q.mbox⟩ .craoriGcmFail) s = .next t ∧
      t.rd Reg.NET_CNT_AUTH = satCount (s.rd Reg.NET_CNT_AUTH) 1 ∧
      t.on Fd.NET_EVT_AUTH_FAIL = true ∧
      Changes [.firn] [Reg.PORT_CNT_RX q.port, Reg.NET_CNT_UNPARSE, Reg.NET_CNT_AUTH, Reg.NET_EVT, Reg.NET_EVT_SEQ] s t) ∧
  (∀ (q : Plain) (s : State),
    s.TakesCra ⟨q.src, q.port, q.row⟩ → ((s.source q.src).second ≠ s.second ∨ (s.source q.src).count < 100) → 
    ∃ t, Sys2Proof.Machine.exec (.zhoideProtocolViolation q.came ⟨q.tag, q.mbox⟩ .craoriViolation) s = .next t ∧
      t.rd Reg.NET_CNT_PROTO = satCount (s.rd Reg.NET_CNT_PROTO) 1 ∧
      ((t.source q.src).count = if (s.source q.src).second = s.second then (s.source q.src).count + 1 else 1) ∧
      Changes [.zh] [Reg.PORT_CNT_RX q.port, Reg.NET_CNT_PROTO] s t) ∧
  (∀ (q : Plain) (r : Req) (cmd : Byte) (s : State) (k : Nat) (u : State),
    s.Reaches r k u → knownCmd cmd.toNat = false → r.defer = false → 
    ∃ t, Sys2Proof.Machine.exec (.zhoideProtocolViolation q.came ⟨q.tag, q.mbox⟩ (.unknownCmd r cmd)) s = .next t ∧
      Refused t r cmd.toNat 0x22 ∧
      Changes [.zh, .out] [Reg.SS_MBOX k, Reg.PORT_CNT_RX r.port] s t) ∧
  (∀ (q : Plain) (r : Req) (cmd : Byte) (offset : Fin 8192) (s : State) (k : Nat) (u : State),
    s.Reaches r k u → knownCmd cmd.toNat = true → (onLimited cmd.toNat = true ∨ s.mainAbsent = false) → 
    ∃ t, Sys2Proof.Machine.exec (.zhoideProtocolViolation q.came ⟨q.tag, q.mbox⟩ (.badPayload r cmd offset)) s = .next t ∧
      Refused t r cmd.toNat 0x21 ∧
      Changes [.zh, .out] [Reg.SS_MBOX k, Reg.PORT_CNT_RX r.port] s t)

/-- Ownership of a domain passes by command: claims, renewals, releases, handovers, lapses and lease expiries change the holder and the lease as
the rules say and touch nothing else. Commands: OWN_CLAIM, OWN_RENEW, OWN_RELEASE, OWN_HANDOVER, HANDOVER_OFFER_LAPSE, OWN_QUERY,
OWNER_LEASE_EXPIRY. Formalises what R415, R416, R417, R421 say of these cases. Choices of the model that bear on its clauses: log entries
27, 28, 90. -/
def Obligations.OwnershipPassesByCommand : Prop :=
  (∀ (q : Req) (domain flags : Byte) (s : State) (k : Nat) (u : State),
    s.Reaches q k u → (judgeClaim domain flags k u).first q u = none → s.holder domain.toNat = none → 
    ∃ t, Sys2Proof.Machine.exec (.ownClaim q domain flags) s = .next t ∧
      AnsweredOk t q 0x10 [2000] ∧
      t.holds k domain.toNat = true ∧
      t.fld (Fd.OW_STAT_MASTER domain.toNat) = s.fld (Fd.SS_STAT_MASTER k) ∧
      Tab.at 0 t.zh.lease domain.toNat = s.clk.now + sTicks 2 ∧
      t.fld (Fd.OW_SEQ_N domain.toNat) = (s.fld (Fd.OW_SEQ_N domain.toNat) + 1) % 65536 ∧
      t.on Fd.NET_EVT_OWNER = true ∧
      Changes [.zh, .firn, .out] [Reg.OW_STAT domain.toNat, Reg.OW_SEQ domain.toNat, Reg.SS_STAT k, Reg.SS_MBOX k, Reg.NET_EVT, Reg.NET_EVT_SEQ, Reg.PORT_CNT_RX q.port] s t) ∧
  (∀ (q : Req) (domain flags : Byte) (s : State) (k h : Nat) (u : State),
    s.Reaches q k u → (judgeClaim domain flags k u).first q u = none → s.holder domain.toNat = some h → h ≠ k → bitOf flags.toNat 0 = true → bitOf flags.toNat 1 = false → s.prio h domain.toNat < s.prio k domain.toNat → 
    ∃ t, Sys2Proof.Machine.exec (.ownClaim q domain flags) s = .next t ∧
      AnsweredOk t q 0x10 [2000] ∧
      t.holds k domain.toNat = true ∧
      t.holder domain.toNat = some k ∧
      Out.notice h 3 ((s.sess h).notices + 1) (s.sess h).txNext [domain.toNat, 1, s.fld (Fd.SS_STAT_MASTER k)] ∈ t.out ∧
      Changes [.zh, .firn, .out] [Reg.OW_STAT domain.toNat, Reg.OW_SEQ domain.toNat, Reg.SS_STAT k, Reg.SS_STAT h, Reg.SS_MBOX k, Reg.NET_EVT, Reg.NET_EVT_SEQ, Reg.PORT_CNT_RX q.port] s t) ∧
  (∀ (q : Req) (domain : Byte) (s : State) (k : Nat) (u : State),
    s.Reaches q k u → (judgeRenew domain k u).first q u = none → 
    ∃ t, Sys2Proof.Machine.exec (.ownRenew q domain) s = .next t ∧
      AnsweredOk t q 0x11 [2000] ∧
      Tab.at 0 t.zh.lease domain.toNat = s.clk.now + sTicks 2 ∧
      Changes [.zh, .out] [Reg.SS_MBOX k, Reg.PORT_CNT_RX q.port] s t) ∧
  (∀ (q : Req) (domain : Byte) (s : State) (k : Nat) (u : State),
    s.Reaches q k u → (judgeRelease domain k u).first q u = none → 
    ∃ t, Sys2Proof.Machine.exec (.ownRelease q domain) s = .next t ∧
      AnsweredOk t q 0x12 [] ∧
      t.holder domain.toNat = none ∧
      t.fld (Fd.OW_SEQ_N domain.toNat) = (s.fld (Fd.OW_SEQ_N domain.toNat) + 1) % 65536 ∧
      Tab.find t.zh.lease domain.toNat = none ∧
      Changes [.zh, .firn, .out] [Reg.OW_STAT domain.toNat, Reg.OW_SEQ domain.toNat, Reg.SS_STAT k, Reg.SS_MBOX k, Reg.NET_EVT, Reg.NET_EVT_SEQ, Reg.PORT_CNT_RX q.port] s t) ∧
  (∀ (q : Req) (domain : Byte) (target : Word) (s : State) (k : Nat) (u : State) (h : Nat),
    s.Reaches q k u → (judgeHandover domain target k u).first q u = none → s.slotOf target = some h → s.hasRole h (domainRole domain.toNat) = true → 
    ∃ t, Sys2Proof.Machine.exec (.ownHandover q domain target) s = .next t ∧
      AnsweredOk t q 0x13 [] ∧
      Tab.find t.zh.offers domain.toNat = some ⟨h, s.clk.now⟩ ∧
      t.holder domain.toNat = s.holder domain.toNat ∧
      Changes [.zh, .out] [Reg.SS_MBOX k, Reg.PORT_CNT_RX q.port] s t) ∧
  (∀ (domain : Fin 4) (s : State) (o : Offer),
    Tab.find s.zh.offers domain = some o → o.at_ + sTicks 1 ≤ s.clk.now → 
    ∃ t, Sys2Proof.Machine.exec (.handoverOfferLapse domain) s = .next t ∧
      Tab.find t.zh.offers domain = none ∧
      Only [.zh] s t) ∧
  (∀ (q : Req) (s : State) (k : Nat) (u : State),
    s.Reaches q k u → (judgeQuery k u).first q u = none → 
    ∃ t, Sys2Proof.Machine.exec (.ownQuery q) s = .next t ∧
      (AnsweredOk t q 0x14 ((List.range 4).flatMap (fun d => [s.fld (Fd.OW_STAT_HELD d), s.fld (Fd.OW_STAT_SLOT d), s.fld (Fd.OW_STAT_MASTER d), s.leaseMs d]))) ∧
      Changes [.zh, .out] [Reg.SS_MBOX k, Reg.PORT_CNT_RX q.port] s t) ∧
  (∀ (domain : Fin 4) (s : State) (k : Nat),
    s.holder domain = some k → Tab.at 0 s.zh.lease domain ≤ s.clk.now → (domain.val ≠ 0 ∨ s.opState ≠ 6) → 
    ∃ t, Sys2Proof.Machine.exec (.ownerLeaseExpiry domain) s = .next t ∧
      t.holder domain = none ∧
      t.out = .notice k 3 ((s.sess k).notices + 1) (s.sess k).txNext [domain.val, 0, 0] :: s.out ∧
      t.on Fd.NET_EVT_OWNER = true ∧
      Changes [.zh, .firn, .out] [Reg.OW_STAT domain, Reg.OW_SEQ domain, Reg.SS_STAT k, Reg.NET_EVT, Reg.NET_EVT_SEQ] s t) ∧
  (∀ (s : State) (k : Nat),
    s.holder 0 = some k → Tab.at 0 s.zh.lease 0 ≤ s.clk.now → s.opState = 6 → 
    ∃ t, Sys2Proof.Machine.exec (.ownerLeaseExpiry 0) s = .next t ∧
      t.holder 0 = none ∧
      t.opState = s.leaveTarget ∧
      t.fld Fd.SYS_STATE_RETURN = 15)

/-- State requests are accepted, and held requests run or lapse: a legal state request is answered OK and queued for the tick edge; a held
request runs when its state is legal and is answered STATE_TIMEOUT when its time has passed. Commands: STATE_REQ_COMMISSION, STATE_REQ_RUN,
STATE_REQ_MANUAL, STATE_REQ_MAINT, STATE_REQ_LEAVE, DEFERRED_EXECUTE, DEFER_TIMEOUT. Formalises what R430, R434, R435 say of these cases.
Choices of the model that bear on its clauses: log entries 27, 30, 90. -/
def Obligations.StateRequestsAreAcceptedOrHeld : Prop :=
  (∀ (q : Req) (s : State) (k : Nat) (u : State),
    s.Reaches q k u → (judgeStateReq 3 q k u).first q u = none → 
    ∃ t, Sys2Proof.Machine.exec (.stateReqCommission q) s = .next t ∧
      t.sys = { s.sys with stateReq := s.sys.stateReq ++ [(3, q, 0)] } ∧
      (t.mailbox k q.mbox).exec = some q.tag ∧
      Changes [.zh, .sys] [Reg.SS_MBOX k, Reg.PORT_CNT_RX q.port] s t) ∧
  (∀ (q : Req) (s : State) (k : Nat) (u : State),
    s.Reaches q k u → (judgeStateReq 4 q k u).first q u = none → s.recordValid = true → 
    ∃ t, Sys2Proof.Machine.exec (.stateReqRun q) s = .next t ∧
      t.sys = { s.sys with stateReq := s.sys.stateReq ++ [(4, q, 0)] } ∧
      (t.mailbox k q.mbox).exec = some q.tag ∧
      Changes [.zh, .sys] [Reg.SS_MBOX k, Reg.PORT_CNT_RX q.port] s t) ∧
  (∀ (q : Req) (s : State) (k : Nat) (u : State),
    s.Reaches q k u → (judgeStateReq 6 q k u).first q u = none → 
    ∃ t, Sys2Proof.Machine.exec (.stateReqManual q) s = .next t ∧
      t.sys = { s.sys with stateReq := s.sys.stateReq ++ [(6, q, 0)] } ∧
      (t.mailbox k q.mbox).exec = some q.tag ∧
      Changes [.zh, .sys] [Reg.SS_MBOX k, Reg.PORT_CNT_RX q.port] s t) ∧
  (∀ (q : Req) (s : State) (k : Nat) (u : State),
    s.Reaches q k u → (judgeStateReq 9 q k u).first q u = none → 
    ∃ t, Sys2Proof.Machine.exec (.stateReqMaint q) s = .next t ∧
      t.sys = { s.sys with stateReq := s.sys.stateReq ++ [(9, q, 0)] } ∧
      (t.mailbox k q.mbox).exec = some q.tag ∧
      Changes [.zh, .sys] [Reg.SS_MBOX k, Reg.PORT_CNT_RX q.port] s t) ∧
  (∀ (q : Req) (s : State) (k : Nat) (u : State),
    s.Reaches q k u → (judgeStateReq 15 q k u).first q u = none → 
    ∃ t, Sys2Proof.Machine.exec (.stateReqLeave q) s = .next t ∧
      t.sys = { s.sys with stateReq := s.sys.stateReq ++ [(15, q, 0)] } ∧
      (t.mailbox k q.mbox).exec = some q.tag ∧
      Changes [.zh, .sys] [Reg.SS_MBOX k, Reg.PORT_CNT_RX q.port] s t) ∧
  (∀ (slot : Fin 8) (mbox : Fin 16) (s : State) (h : HeldReq) (q : Req),
    (s.mailbox slot mbox).held = some h → h.cmd = .ping q → q.mbox = mbox → s.heldLegal h = true → s.inMap 0x03FF = true → (q.defer = false ∨ 1 ≤ q.deferMs.toNat ∧ q.deferMs.toNat ≤ 60000) → (s.heldAll.any (fun p => decide (p.2.order < h.order) && s.heldLegal p.2 && s.heldEnds p.1 p.2) = false) → s.sys.stateReq = [] → 
    ∃ t, Sys2Proof.Machine.exec (.deferredExecute slot mbox) s = .next t ∧
      AnsweredOk t q 0x05 [s.clk.mtime.toNat, s.clk.sidx.toNat] ∧
      (t.mailbox slot mbox).held = none ∧
      (t.mailbox slot mbox).exec = none ∧
      t.fld Fd.SYS_DEFER_HELD = s.fld Fd.SYS_DEFER_HELD - 1 ∧
      Changes [.zh, .out] [Reg.SS_MBOX slot, Reg.SYS_DEFER] s t) ∧
  (∀ (slot : Fin 8) (mbox : Fin 16) (s : State) (h : HeldReq),
    (s.mailbox slot mbox).held = some h → h.at_ + msTicks h.ms ≤ s.clk.now → 
    ∃ t, Sys2Proof.Machine.exec (.deferTimeout slot mbox) s = .next t ∧
      (t.mailbox slot mbox).held = none ∧
      (∃ n a, t.out.head? = some (.answer n a) ∧ a.session = s.rd (Reg.SS_ID slot) ∧ a.mbox = mbox.val ∧ a.tag = h.tag ∧ a.cmd = h.code ∧ a.status = 0x11 ∧ a.state = s.opState ∧ a.legal = h.legal ∧ a.detail = s.heldFor h ∧ a.body = []) ∧
      (t.mailbox slot mbox).last.map (fun a => (a.tag, a.cmd, a.status)) = some (h.tag, h.code, 0x11) ∧
      t.rd Reg.SYS_CNT_DTMO = satCount (s.rd Reg.SYS_CNT_DTMO) 1 ∧
      t.on Fd.SYS_ERR_DEFER_TMO = true ∧
      Changes [.zh, .firn, .out] [Reg.SS_MBOX slot, Reg.SYS_DEFER, Reg.SYS_CNT_DTMO, Reg.SYS_ERR, Reg.SYS_ERR_SEQ] s t) ∧
  (∀ (slot : Fin 8) (mbox : Fin 16) (s : State),
    ((s.mailbox slot mbox).held.all (fun h => !s.heldLegal h) = true ∨ s.sys.stateReq ≠ []) → 
    ∃ t, Sys2Proof.Machine.exec (.deferredExecute slot mbox) s = .next t ∧
      t = s) ∧
  (∀ (slot : Fin 8) (mbox : Fin 16) (s : State),
    ((s.mailbox slot mbox).held.all (fun h => decide (s.clk.now < h.at_ + msTicks h.ms)) = true) → 
    ∃ t, Sys2Proof.Machine.exec (.deferTimeout slot mbox) s = .next t ∧
      t = s)

/-- Action entries are committed, cancelled and fired: a commit arms an entry or refuses it as late, a cancel waits for the edge, and an entry
that is due fires; anchors and Sync messages re-anchor the sample index. Commands: ACTION_COMMIT, ACTION_CANCEL_WRITE, ACTION_ADD,
ACTION_CANCEL, ACTION_FIRE, PACKET_SEAL, SAMPLE_INDEX_ANCHOR, TIM_REANCHOR, PAIR_TICK_MARKER, PTP_SYNC. Formalises what R61, R65, R74, R77,
R78, R86, R88, R89, R90, R95, R269, R424, R475, R476 say of these cases. Choices of the model that bear on its clauses: log entries 3, 22,
27, 34, 37, 39, 44, 45, 60, 63, 71, 72, 73, 84, 86, 90, 92, 95. -/
def Obligations.ActionEntriesAreCommittedAndFire : Prop :=
  (∀ (w : Fin 8) (n : Fin 4096) (value : Word) (s : State),
    s.WriteTaken w (Reg.AE_CTRL n) value (crossAction value) → s.fld (Fd.AE_STAT_STATE n) ≠ 1 → fieldOf value 31 1 = 1 → tooLate (((s.wr (Reg.AE_CTRL n) (writeMasked (s.rd (Reg.AE_CTRL n)) value 0xFFFF8000 0)).takeAngle n).trigger n) (s.lateness (((s.wr (Reg.AE_CTRL n) (writeMasked (s.rd (Reg.AE_CTRL n)) value 0xFFFF8000 0)).takeAngle n).trigger n)) = false → 
    ∃ t, Sys2Proof.Machine.exec (.actionCommit w n value) s = .next t ∧
      WroteOk t w (Reg.AE_CTRL n) ∧
      t.fld (Fd.AE_STAT_STATE n) = 1 ∧
      t.act.armed = s.act.armed ++ [n.val] ∧
      t.act.seq = s.act.seq + 1 ∧ t.rd (Reg.AE_SEQ n) = s.act.seq + 1 ∧
      t.rd (Reg.AE_CTRL n) = writeMasked (s.rd (Reg.AE_CTRL n)) value 0xFFFF8000 0 ∧
      Changes [.zh, .act, .wlow, .out] [Reg.AE_CTRL n, Reg.AE_TRIG_LO n, Reg.AE_STAT n, Reg.AE_SEQ n, Reg.AE_LATE n, Reg.TIM_ACT_USED] s t) ∧
  (∀ (w : Fin 8) (n : Fin 4096) (value : Word) (s : State),
    s.WriteTaken w (Reg.AE_CTRL n) value (crossAction value) → s.fld (Fd.AE_STAT_STATE n) ≠ 1 → fieldOf value 31 1 = 1 → tooLate (((s.wr (Reg.AE_CTRL n) (writeMasked (s.rd (Reg.AE_CTRL n)) value 0xFFFF8000 0)).takeAngle n).trigger n) (s.lateness (((s.wr (Reg.AE_CTRL n) (writeMasked (s.rd (Reg.AE_CTRL n)) value 0xFFFF8000 0)).takeAngle n).trigger n)) = true → 
    ∃ t, Sys2Proof.Machine.exec (.actionCommit w n value) s = .next t ∧
      t.out.head? = some (.wrote w (Reg.AE_CTRL n) 0x13 0 (lateUs (s.lateness (((s.wr (Reg.AE_CTRL n) (writeMasked (s.rd (Reg.AE_CTRL n)) value 0xFFFF8000 0)).takeAngle n).trigger n)))) ∧
      t.fld (Fd.AE_STAT_STATE n) = 4 ∧ t.fld (Fd.AE_STAT_REASON n) = 1 ∧
      t.act.armed = s.act.armed ∧
      t.rd Reg.TIM_ACT_CNT_LATE = satCount (s.rd Reg.TIM_ACT_CNT_LATE) 1 ∧
      t.on Fd.TIM_EVT_ACT_LATE = true) ∧
  (∀ (w : Fin 8) (n : Fin 4096) (value : Word) (s : State),
    s.WriteTaken w (Reg.AE_CTRL n) value (crossAction value) → s.fld (Fd.AE_STAT_STATE n) = 1 → fieldOf value 31 1 = 0 → 
    ∃ t, Sys2Proof.Machine.exec (.actionCancelWrite w n value) s = .next t ∧
      WroteOk t w (Reg.AE_CTRL n) ∧
      t.act = { s.act with cancels := s.act.cancels ++ [⟨n.val, s.rd (Reg.AE_SEQ n), s.clk.now, none⟩] } ∧
      Changes [.zh, .act, .out] [] s t) ∧
  (∀ (w : Fin 8) (n : Fin 4096) (value : Word) (s : State),
    s.WriteTaken w (Reg.AE_CTRL n) value (crossAction value) → s.fld (Fd.AE_STAT_STATE n) ≠ 1 → fieldOf value 31 1 = 0 → 
    ∃ t, Sys2Proof.Machine.exec (.actionCancelWrite w n value) s = .next t ∧
      WroteOk t w (Reg.AE_CTRL n) ∧
      t.rd (Reg.AE_CTRL n) = writeMasked (s.rd (Reg.AE_CTRL n)) value 0xFFFF8000 0 ∧
      Changes [.zh, .wlow, .out] [Reg.AE_CTRL n, Reg.AE_TRIG_LO n] s t) ∧
  (∀ (q : Req) (a : ActionFields) (s : State) (k : Nat) (u : State) (n : Nat),
    s.Reaches q k u → (judgeActionAdd a k u).first q u = none → s.freeEntry = some n → tooLate ⟨a.trig.toNat, a.kind.toNat, a.job.toNat, a.every.toNat == 1, actionValue a⟩ (s.lateness ⟨a.trig.toNat, a.kind.toNat, a.job.toNat, a.every.toNat == 1, actionValue a⟩) = false → 
    ∃ t, Sys2Proof.Machine.exec (.actionAdd q a) s = .next t ∧
      AnsweredOk t q 0x41 [n, (s.act.seq + 1).toNat] ∧
      t.trigger n = ⟨a.trig.toNat, a.kind.toNat, a.job.toNat, a.every.toNat == 1, actionValue a⟩ ∧
      t.rd (Reg.AE_ARG0 n) = a.arg0 ∧ t.rd (Reg.AE_ARG1 n) = a.arg1 ∧
      t.fld (Fd.AE_STAT_STATE n) = 1 ∧
      t.act.armed = s.act.armed ++ [n] ∧
      Changes [.zh, .act, .out] [Reg.AE_CTRL n, Reg.AE_TRIG_LO n, Reg.AE_TRIG_HI n, Reg.AE_ARG0 n, Reg.AE_ARG1 n, Reg.AE_STAT n, Reg.AE_SEQ n, Reg.AE_LATE n, Reg.TIM_ACT_USED, Reg.SS_MBOX k, Reg.PORT_CNT_RX q.port] s t) ∧
  (∀ (q : Req) (entry : BitVec 16) (s : State) (k : Nat) (u : State),
    s.Reaches q k u → (judgeActionCancel q entry k u).first q u = none → s.fld (Fd.AE_STAT_STATE entry.toNat) = 1 → 
    ∃ t, Sys2Proof.Machine.exec (.actionCancel q entry) s = .next t ∧
      t.act = { s.act with cancels := s.act.cancels ++ [⟨entry.toNat, s.rd (Reg.AE_SEQ entry.toNat), s.clk.now, some q⟩] } ∧
      (t.mailbox k q.mbox).exec = some q.tag ∧
      Changes [.zh, .act] [Reg.SS_MBOX k, Reg.PORT_CNT_RX q.port] s t) ∧
  (∀ (n : Fin 4096) (s : State),
    s.dueEntries.head? = some n.val → (s.trigger n).kind = 5 → (s.trigger n).trig ≠ 3 → 
    ∃ t, Sys2Proof.Machine.exec (.actionFire n) s = .next t ∧
      t.fld (Fd.AE_STAT_STATE n) = 2 ∧
      t.fld (Fd.AE_STAT_REASON n) = s.fireReason n ∧
      (t.act.armed = s.act.armed.filter (fun m => m != n.val)) ∧
      Changes [.act, .firn] [Reg.AE_STAT n, Reg.AE_LATE n, Reg.TIM_ACT_CNT_LATEX, Reg.TIM_ACT_USED] s t) ∧
  (∀ (n : Fin 4096) (s : State),
    s.dueEntries.head? = some n.val → (s.trigger n).kind = 3 → (s.trigger n).trig ≠ 3 → (s.rd (Reg.AE_ARG1 n)).toNat ≤ 15 → 
    ∃ t, Sys2Proof.Machine.exec (.actionFire n) s = .next t ∧
      t.fld (Fd.AE_STAT_STATE n) = 2 ∧
      t.fld (Fd.JB_CFG_POLICY (fieldOf (s.rd (Reg.AE_ARG0 n)) 0 8)) = (s.rd (Reg.AE_ARG1 n)).toNat) ∧
  (∀ (n : Fin 4096) (s : State),
    s.dueEntries.head? = some n.val → (s.trigger n).kind = 2 → ((s.trigger n).trig ≠ 3 ∨ (s.trigger n).every = false) → 
    ∃ t, Sys2Proof.Machine.exec (.actionFire n) s = .next t ∧
      s.sealTick = true ∧
      t.fld (Fd.AE_STAT_STATE n) = 2 ∧
      (t.act.armed = s.act.armed.filter (fun m => m != n.val)) ∧
      t.act.trims = s.act.trims.put (fieldOf (s.rd (Reg.AE_ARG0 n)) 0 7) (s.rd (Reg.AE_ARG1 n)) ∧
      Changes [.act] [Reg.AE_STAT n, Reg.AE_LATE n, Reg.TIM_ACT_CNT_LATEX, Reg.TIM_ACT_USED] s t) ∧
  (∀ (n : Fin 4096) (s : State),
    s.dueEntries.head? = some n.val → (s.trigger n).kind = 1 → ((s.trigger n).trig ≠ 3 ∨ (s.trigger n).every = false) → (s.rd (Reg.AE_ARG0 n)).toNat < 256 → s.fld (Fd.STG_STAT_STATE (s.rd (Reg.AE_ARG0 n)).toNat) = 1 → s.plan.fired = [] → 
    ∃ t, Sys2Proof.Machine.exec (.actionFire n) s = .next t ∧
      t.fld (Fd.AE_STAT_STATE n) = 2 ∧
      t.plan.fired = [⟨(s.rd (Reg.AE_ARG0 n)).toNat, s.rd (Reg.STG_CTRL (s.rd (Reg.AE_ARG0 n)).toNat), s.rd (Reg.STG_VAL (s.rd (Reg.AE_ARG0 n)).toNat), []⟩] ∧
      (s.on Fd.PLN_CTRL_EN = false → Changes [.act, .plan] [Reg.AE_STAT n, Reg.AE_LATE n, Reg.TIM_ACT_CNT_LATEX, Reg.TIM_ACT_USED] s t) ∧
      Changes [.act, .plan, .out] [Reg.AE_STAT n, Reg.AE_LATE n, Reg.TIM_ACT_CNT_LATEX, Reg.TIM_ACT_USED, Reg.PLN_PSEQ] s t) ∧
  (∀ (n : Fin 4096) (s : State),
    s.dueEntries.head? = some n.val → (s.trigger n).kind = 4 → ((s.trigger n).trig ≠ 3 ∨ (s.trigger n).every = false) → s.clk.snapTick ≠ some s.clk.now → 
    ∃ t, Sys2Proof.Machine.exec (.actionFire n) s = .next t ∧
      t.fld (Fd.AE_STAT_STATE n) = 2 ∧
      (t.clk.snapId = if s.clk.snapId = 0xFFFF then 1 else s.clk.snapId + 1) ∧
      t.clk.snapTick = some s.clk.now ∧
      Only [.act, .clk, .regs] s t) ∧
  (∀ (n : Fin 4096) (s : State),
    s.dueEntries.head? = some n.val → (s.trigger n).kind = 6 → (s.trigger n).trig = 0 → s.unconfirmed n = false → (s.rd (Reg.AE_ARG0 n)).toNat < 16 → s.fld (Fd.BAR_CFG_ACTION (s.rd (Reg.AE_ARG0 n)).toNat) = 3 → s.fld (Fd.BAR_CFG_SCOPE (s.rd (Reg.AE_ARG0 n)).toNat) = 0 → 
    ∃ t, Sys2Proof.Machine.exec (.actionFire n) s = .next t ∧
      t.fld (Fd.AE_STAT_STATE n) = 2 ∧
      t.fld (Fd.BAR_STAT_FIRED (s.rd (Reg.AE_ARG0 n)).toNat) = (s.fld (Fd.BAR_STAT_FIRED (s.rd (Reg.AE_ARG0 n)).toNat) + 1) % 65536 ∧
      t.rd (Reg.BAR_LAST (s.rd (Reg.AE_ARG0 n)).toNat) = s.clk.sidx.setWidth 32) ∧
  (∀ (n : Fin 4096) (s : State),
    s.dueEntries.head? = some n.val → (s.trigger n).kind = 5 → (s.trigger n).trig = 3 → (s.trigger n).every = true → 
    ∃ t, Sys2Proof.Machine.exec (.actionFire n) s = .next t ∧
      t.fld (Fd.AE_STAT_STATE n) = s.fld (Fd.AE_STAT_STATE n) ∧
      t.act.armed = s.act.armed ∧
      t.act.every = s.act.every.put n (nextCrossing (s.job (s.trigger n).job) (s.trigger n).angle) ∧
      Changes [.act, .firn] [Reg.AE_LATE n, Reg.TIM_ACT_CNT_LATEX] s t) ∧
  (∀ (s : State) (l : List (Nat × Int)),
    s.mainRuns = true → s.sealTick = true → s.fireDue.packetEntries = some l → s.fireDue.fld Fd.PAI_STAT_ROLE ≠ 2 → 
    ∃ t, Sys2Proof.Machine.exec .packetSeal s = .next t ∧
      t.act.sealed = s.fireDue.act.sealed + 1 ∧
      t.out = .frame .packet ((packetBytes s.fireDue.pairLevel (s.fireDue.clk.sidx.toNat - 80) (s.fireDue.act.sealed + 1).toNat l).map BitVec.toNat) :: s.fireDue.out ∧
      Only [.act, .out] s.fireDue t) ∧
  (∀ (s : State) (l : List (Nat × Int)),
    s.mainRuns = true → s.sealTick = true → s.dueEntries = [] → s.packetEntries = some l → s.fld Fd.PAI_STAT_ROLE ≠ 2 → 
    ∃ t, Sys2Proof.Machine.exec .packetSeal s = .next t ∧
      t.act.sealed = s.act.sealed + 1 ∧
      t.act.armed = s.act.armed ∧
      t.out = .frame .packet ((packetBytes s.pairLevel (s.clk.sidx.toNat - 80) (s.act.sealed + 1).toNat l).map BitVec.toNat) :: s.out ∧
      Only [.act, .out] s t) ∧
  (∀ (s : State),
    s.edgeToCome = true → s.fld Fd.TIM_STAT_SERVO = 2 → s.fld Fd.TIM_STAT_TICK_SRC = 1 → s.on Fd.TIM_STAT_ANCHORED = false → 
    ∃ t, Sys2Proof.Machine.exec .sampleIndexAnchor s = .next t ∧
      t = s.edgeAll.beginTick ∧
      t.clk.begun = t.sys.seracUp) ∧
  (∀ (s : State),
    s.fld Fd.TIM_STAT_SERVO = 2 → s.fld Fd.TIM_STAT_TICK_SRC = 1 → s.on Fd.TIM_STAT_ANCHORED = false → s.act.armed = [] → 
    ∃ t, t = s.anchorNow ∧
      t.clk.sidx = BitVec.ofNat 64 (s.clk.mtime.toNat / 10000) ∧
      t.on Fd.TIM_STAT_ANCHORED = true ∧
      t.on Fd.TIM_EVT_ANCHORED = true ∧
      (t.firn.anchors.head?.map (fun x => (x.sidx, x.kind)) = some (s.aligned, 2)) ∧
      Changes [.clk, .firn] [Reg.TIM_STAT, Reg.FRN_ANC_HEAD, Reg.TIM_EVT, Reg.TIM_EVT_SEQ] s t) ∧
  (∀ (w : Fin 8) (s : State),
    s.WriteTaken w Reg.TIM_CTRL (s.rd Reg.TIM_CTRL ||| 4) true → 
    ∃ t, Sys2Proof.Machine.exec (.timReanchor w) s = .next t ∧
      WroteOk t w Reg.TIM_CTRL ∧
      t.clk.reanchor = true ∧
      t.clk.sidx = s.clk.sidx ∧
      Changes [.zh, .clk, .out] [] s t) ∧
  (∀ (sidx tcnt : BitVec 64) (s : State),
    s.opState ≠ 0 → s.on Fd.PAI_STAT_PAIRED = true → (s.laneAlive 0).fld Fd.TIM_STAT_TICK_SRC = 2 → (s.edgeToCome = false ∨ diff64 sidx s.clk.sidx ≤ 0) → 
    ∃ t, Sys2Proof.Machine.exec (.pairTickMarker 0 sidx tcnt) s = .next t ∧
      t.clk.sidx = sidx ∧
      t.clk.tcnt = tcnt ∧
      t.clk.partnerSidx = some sidx ∧
      t.on Fd.TIM_STAT_ANCHORED = true ∧
      t.on Fd.PAI_STAT_L0 = true ∧
      Changes [.clk, .pair] [Reg.TIM_STAT, Reg.PAI_STAT] s t) ∧
  (∀ (lane : Fin 2) (sidx tcnt : BitVec 64) (s : State),
    s.opState ≠ 0 → s.on Fd.PAI_STAT_PAIRED = true → (s.laneAlive lane).fld Fd.TIM_STAT_TICK_SRC = 2 → (lane.val = if (s.laneAlive lane).on Fd.PAI_STAT_L0 then 0 else 1) → s.edgeToCome = true → 0 < diff64 sidx s.clk.sidx → 
    ∃ t, Sys2Proof.Machine.exec (.pairTickMarker lane sidx tcnt) s = .next t ∧
      t = (((s.laneAlive lane).edgeTo (some (sidx, tcnt))).takeMark (sidx, tcnt)).frameEdge.beginTick ∧
      t.clk.begun = t.sys.seracUp) ∧
  (∀ (port : Fin 8) (m : PtpSync) (t1 t2 : BitVec 64) (s : State),
    s.takesSync .a port m = true → s.servo.a.lock = false → s.servo.b.lock = false → s.servo.b.master = none → s.on Fd.TIM_STAT_SEL = false → s.on Fd.TIM_CTRL_SERVO_EN = true → s.fld Fd.TIM_STAT_SERVO = 1 → s.servo.stepped = false → 1000000 < syncOffset s .a port t1 t2 m.pathDelay → s.act.armed = [] → 
    ∃ t, Sys2Proof.Machine.exec (.ptpSync .a port m t1 t2) s = .next t ∧
      t.clk.mtime = s.clk.mtime - BitVec.ofInt 64 (syncOffset s .a port t1 t2 m.pathDelay) ∧
      t.servo.stepped = true ∧
      t.servo.a.offset = 0 ∧
      t.rd Reg.TIM_OFS = BitVec.ofInt 32 (clampInt (-2147483647) 2147483647 (syncOffset s .a port t1 t2 m.pathDelay)) ∧
      t.on Fd.TIM_EVT_TIME_STEP = true ∧
      Changes [.clk, .servo, .firn] [Reg.TIM_STAT, Reg.TIM_OFS, Reg.FRN_ANC_HEAD, Reg.TIM_EVT, Reg.TIM_EVT_SEQ, Reg.PORT_CNT_RX port] s t) ∧
  (∀ (port : Fin 8) (m : PtpSync) (t1 t2 : BitVec 64) (s : State),
    s.takesSync .a port m = true → s.servo.a.inside = 15 → s.servo.b.lock = false → s.on Fd.TIM_STAT_SEL = false → s.on Fd.TIM_CTRL_SERVO_EN = true → s.fld Fd.TIM_STAT_SERVO = 1 → (syncOffset s .a port t1 t2 m.pathDelay).natAbs ≤ 100 → 
    ∃ t, Sys2Proof.Machine.exec (.ptpSync .a port m t1 t2) s = .next t ∧
      t.fld Fd.TIM_STAT_SERVO = 2 ∧
      t.servo.a.lock = true ∧
      -200000 ≤ t.servo.rate ∧ t.servo.rate ≤ 200000 ∧
      t.clk = s.clk ∧
      t.rd Reg.TIM_OFS = BitVec.ofInt 32 (syncOffset s .a port t1 t2 m.pathDelay) ∧
      Changes [.servo, .fresh] [Reg.TIM_STAT, Reg.TIM_OFS, Reg.TIM_ERR_EST, Reg.PORT_CNT_RX port] s t) ∧
  (∀ (port : Fin 8) (m : PtpSync) (t1 t2 : BitVec 64) (s : State),
    s.takesSync .a port m = true → s.servo.a.outside = 3 → s.servo.b.lock = false → s.servo.b.master = none → s.on Fd.TIM_STAT_SEL = false → s.on Fd.TIM_CTRL_SERVO_EN = true → s.fld Fd.TIM_STAT_SERVO = 2 → 1000 < (syncOffset s .a port t1 t2 m.pathDelay).natAbs ∧ (syncOffset s .a port t1 t2 m.pathDelay).natAbs ≤ 1000000 → 
    ∃ t, Sys2Proof.Machine.exec (.ptpSync .a port m t1 t2) s = .next t ∧
      t.fld Fd.TIM_STAT_SERVO = 1 ∧
      t.servo.a.lock = false ∧
      t.on Fd.TIM_EVT_LOCK_LOST = true ∧
      t.clk = s.clk)

/-- Snapshots are taken and the time servo follows its masters: a snapshot request is armed, a common snapshot latches the counters, and
Announce messages, their time-outs, the end of holdover and a disagreement of the instances act as the rules say. Commands:
SNAPSHOT_REQUEST, COMMON_SNAPSHOT, PTP_ANNOUNCE, ANNOUNCE_RECEIPT_TIMEOUT, HOLDOVER_EXPIRY, INSTANCE_DISAGREE. Formalises what R59, R62,
R64, R68, R99, R100 say of these cases. Choices of the model that bear on its clauses: log entries 37, 39, 45. -/
def Obligations.SnapshotsAndTimeServoAct : Prop :=
  (∀ (w : Fin 8) (s : State),
    s.WriteTaken w Reg.TIM_SNAP_CTRL 1 true → s.clk.now + 2 ∉ s.clk.snapAt → 
    ∃ t, Sys2Proof.Machine.exec (.snapshotRequest w) s = .next t ∧
      WroteOk t w Reg.TIM_SNAP_CTRL ∧
      t.clk = { s.clk with snapAt := s.clk.snapAt ++ [s.clk.now + 2] } ∧
      Changes [.zh, .clk, .out] [] s t) ∧
  (∀ (s : State),
    s.edgeToCome = true → (s.clk.snapAt.any (fun x => decide (x ≤ s.clk.now + 1)) = true) → 
    ∃ t, Sys2Proof.Machine.exec .commonSnapshot s = .next t ∧
      t = s.edgeAll.beginTick ∧
      t.clk.begun = t.sys.seracUp) ∧
  (∀ (s : State),
    (s.clk.snapAt.any (fun x => decide (x ≤ s.clk.now)) = true) → s.clk.snapTick ≠ some s.clk.now → s.mainAbsent = false → s.portAbsent = false → 
    ∃ t, t = s.snapshotNow ∧
      (t.clk.snapId = if s.clk.snapId = 0xFFFF then 1 else s.clk.snapId + 1) ∧
      t.clk.snapTick = some s.clk.now ∧
      (t.clk.snapAt = s.clk.snapAt.filter (fun x => decide (s.clk.now < x))) ∧
      (∀ b n, b < 15 → n < 32 → t.rd (Reg.CTR_SNAP b n) = s.rd (Reg.CTR_VAL b n)) ∧
      (∀ b, b < 15 → t.rd (Reg.BLK_SNAP_ID b) = BitVec.ofNat 32 t.clk.snapId) ∧
      t.rd Reg.TIM_SNAP_IDX_LO = s.clk.sidx.setWidth 32 ∧ t.rd Reg.TIM_SNAP_IDX_HI = (s.clk.sidx >>> 32).setWidth 32 ∧
      Only [.clk, .regs] s t) ∧
  (∀ (net : Net) (port : Fin 8) (a : Announce) (s : State),
    s.portTakesPtp net port = true → s.takesHead net a.head = true → 
    ∃ t, Sys2Proof.Machine.exec (.ptpAnnounce net port a) s = .next t ∧
      (t.ptp net).seen = (s.ptp net).seen.put (masterKey port a.head.sender) (a, s.clk.now) ∧
      (t.ptp net).master = bestMaster ((s.ptp net).seen.put (masterKey port a.head.sender) (a, s.clk.now)) ∧
      Only [.servo, .regs, .firn] s t) ∧
  (∀ (net : Net) (port : Fin 8) (a : Announce) (s : State),
    s.portTakesPtp net port = true → s.takesHead net a.head = false → 
    ∃ t, Sys2Proof.Machine.exec (.ptpAnnounce net port a) s = .next t ∧
      Changes [] [Reg.PORT_CNT_RX (portOf net port)] s t) ∧
  (∀ (s : State) (m : Nat),
    s.servo.a.master = some m → (Tab.has (s.servo.a.seen.filter (fun e => decide (s.clk.now < e.2.2 + announceTimeout e.2.1.head.logInterval))) m = false) → s.servo.b.lock = false → s.on Fd.TIM_STAT_SEL = false → s.fld Fd.TIM_STAT_SERVO = 2 → 
    ∃ t, Sys2Proof.Machine.exec (.announceReceiptTimeout .a) s = .next t ∧
      t.servo.a.lock = false ∧ t.servo.a.inside = 0 ∧
      (t.servo.a.master = bestMaster (s.servo.a.seen.filter (fun e => decide (s.clk.now < e.2.2 + announceTimeout e.2.1.head.logInterval)))) ∧
      t.fld Fd.TIM_STAT_SERVO = 3 ∧
      t.servo.holdFrom = s.clk.now ∧ t.servo.holdBase = (s.rd Reg.TIM_ERR_EST).toNat ∧
      t.on Fd.TIM_EVT_LOCK_LOST = true ∧
      Changes [.servo, .firn] [Reg.TIM_STAT, Reg.TIM_EVT, Reg.TIM_EVT_SEQ] s t) ∧
  (∀ (s : State) (m : Nat),
    s.servo.b.master = some m → (Tab.has (s.servo.b.seen.filter (fun e => decide (s.clk.now < e.2.2 + announceTimeout e.2.1.head.logInterval))) m = false) → 
    ∃ t, Sys2Proof.Machine.exec (.announceReceiptTimeout .b) s = .next t ∧
      (t.servo.b.seen = s.servo.b.seen.filter (fun e => decide (s.clk.now < e.2.2 + announceTimeout e.2.1.head.logInterval))) ∧
      t.servo.b.lock = false ∧ t.servo.b.inside = 0 ∧
      Only [.servo, .regs, .firn] s t) ∧
  (∀ (s : State),
    s.fld Fd.TIM_STAT_SERVO = 3 → s.servo.holdFrom + sTicks (s.fld Fd.TIM_HOLD_LIM_SEC) ≤ s.clk.now → 
    ∃ t, Sys2Proof.Machine.exec .holdoverExpiry s = .next t ∧
      t.fld Fd.TIM_STAT_SERVO = 0 ∧
      t.rd Reg.TIM_ERR_EST = 0xFFFFFFFF ∧
      t.on Fd.TIM_EVT_HOLD_EXPIRED = true ∧
      t.servo = { s.servo with rate := 0 } ∧
      Changes [.servo, .firn] [Reg.TIM_STAT, Reg.TIM_ERR_EST, Reg.TIM_EVT, Reg.TIM_EVT_SEQ] s t) ∧
  (∀ (s : State) (t0 : Nat),
    s.servo.apartFrom = some t0 → t0 + sTicks 10 ≤ s.clk.now → s.servo.told = false → s.servo.a.lock = true → s.servo.b.lock = true → 
    ∃ t, Sys2Proof.Machine.exec .instanceDisagree s = .next t ∧
      t.servo = { s.servo with told := true } ∧
      t.on Fd.TIM_EVT_DISAGREE = true ∧
      t.fld Fd.TIM_STAT_SEL = s.fld Fd.TIM_STAT_SEL ∧
      Changes [.servo, .firn] [Reg.TIM_EVT, Reg.TIM_EVT_SEQ] s t)

/-- Jobs are tracked by their markers and commands: marker windows close, jobs coast and are lost, and step marks, phase announcements and
configuration writes move the step phase. Commands: MARKER_WINDOW_CLOSE, JOB_COAST, JOB_LOST, JOB_CFG_WRITE, STEP_MARK, PHASE_ANNOUNCE.
Formalises what R65, R79, R80, R82, R84, R105, R425 say of these cases. Choices of the model that bear on its clauses: log entries 27, 45,
74, 75, 90. -/
def Obligations.JobsAreTracked : Prop :=
  (∀ (j : Fin 256) (s : State) (x : MarkWindow),
    (s.job j).window = some x → x.openedAt + fieldOf (s.job j).cfg 20 10 ≤ s.clk.now → (s.job j).last = none → 
    ∃ t, Sys2Proof.Machine.exec (.markerWindowClose j) s = .next t ∧
      (t.job j).last = some (x.step, lowerMedian x.times) ∧
      (t.job j).window = none ∧
      (t.job j).cfg = s.rd (Reg.JOB_CFG j) ∧
      Only [.jobs] s t) ∧
  (∀ (j : Fin 256) (s : State) (x : MarkWindow) (s0 : BitVec 32) (t0 : BitVec 64) (p : Nat),
    (s.job j).window = some x → x.openedAt + fieldOf (s.job j).cfg 20 10 ≤ s.clk.now → (s.job j).last = some (s0, t0) → s.jobState j = 1 → (s.job j).interval = some p → inRange (diff64 (lowerMedian x.times) t0 / diff32 x.step s0) = true → (diff64 (lowerMedian x.times) t0 / diff32 x.step s0 - (p : Int)).natAbs * 1000 ≤ fieldOf (s.rd (Reg.JOB_CFG j)) 7 7 * p → 3 ≤ (s.job j).agree → s.act.armed = [] → 
    ∃ t, Sys2Proof.Machine.exec (.markerWindowClose j) s = .next t ∧
      t.jobState j = 2 ∧
      (t.job j).period = (diff64 (lowerMedian x.times) t0 / diff32 x.step s0).toNat ∧
      (t.job j).last = some (x.step, lowerMedian x.times) ∧
      Changes [.jobs] [Reg.JOB_STAT j] s t) ∧
  (∀ (j : Fin 256) (s : State) (x : BitVec 64),
    coastLimit (s.job j) 1 = some x → s.jobState j = 2 → diff64 (s.job j).x x ≥ 0 → 
    ∃ t, Sys2Proof.Machine.exec (.jobCoast j) s = .next t ∧
      t.jobState j = 3 ∧
      Changes [] [Reg.JOB_STAT j] s t) ∧
  (∀ (j : Fin 256) (s : State) (x : BitVec 64),
    coastLimit (s.job j) (1 + fieldOf (s.job j).cfg 14 6) = some x → s.jobState j = 3 → diff64 (s.job j).x x ≥ 0 → 
    ∃ t, Sys2Proof.Machine.exec (.jobLost j) s = .next t ∧
      t.jobState j = 4 ∧
      t.on Fd.TIM_EVT_JOB_LOST = true ∧
      (∀ n ∈ s.act.armed, (s.trigger n).trig = 3 → (s.trigger n).job = j.val → (s.trigger n).every = false → n ∉ t.act.armed) ∧
      Only [.act, .plan, .regs, .firn] s t) ∧
  (∀ (w : Fin 8) (j : Fin 256) (value : Word) (s : State),
    s.WriteTaken w (Reg.JOB_CFG j) value true → fieldOf value 0 1 = 1 → s.jobState j = 0 → 
    ∃ t, Sys2Proof.Machine.exec (.jobCfgWrite w j value) s = .next t ∧
      WroteOk t w (Reg.JOB_CFG j) ∧
      t.jobState j = 1 ∧
      t.job j = { Job.idle with cfg := t.rd (Reg.JOB_CFG j) } ∧
      t.rd (Reg.JOB_CFG j) = writeMasked (s.rd (Reg.JOB_CFG j)) value 0x3FFFFFFF 0 ∧
      Changes [.zh, .jobs, .out] [Reg.JOB_CFG j, Reg.JOB_STAT j] s t) ∧
  (∀ (w : Fin 8) (j : Fin 256) (value : Word) (s : State),
    s.WriteTaken w (Reg.JOB_CFG j) value true → fieldOf value 0 1 = 0 → s.jobState j ≠ 0 → 
    ∃ t, Sys2Proof.Machine.exec (.jobCfgWrite w j value) s = .next t ∧
      WroteOk t w (Reg.JOB_CFG j) ∧
      t.jobState j = 0 ∧
      t.job j = Job.idle ∧
      Only [.zh, .jobs, .act, .plan, .regs, .out] s t) ∧
  (∀ (q : Req) (job : Byte) (step : Word) (tb : BitVec 64) (ns : Fin 10000) (s : State) (k : Nat) (u : State),
    s.Reaches q k u → (judgeStepMark job step ⟨tb, ns⟩ k u).first q u = none → (s.jobState job.toNat = 1 ∨ s.jobState job.toNat = 2 ∨ s.jobState job.toNat = 3) → fieldOf (s.job job.toNat).cfg 1 1 = 1 → (s.job job.toNat).last = none → (s.job job.toNat).window = none → diff64 tb (s.arrival ns) ≤ 1000000 → 
    ∃ t, Sys2Proof.Machine.exec (.stepMark q job step ⟨tb, ns⟩) s = .next t ∧
      AnsweredOk t q 0x51 [] ∧
      (t.job job.toNat).window = some ⟨step, s.clk.now, [tb]⟩ ∧
      Changes [.zh, .jobs, .out] [Reg.SS_MBOX k, Reg.PORT_CNT_RX q.port] s t) ∧
  (∀ (q : Req) (job : Byte) (step : Word) (segs : List (BitVec 16 × BitVec 16)) (s : State) (k : Nat) (u : State),
    s.Reaches q k u → (judgePhase job step segs k u).first q u = none → 
    ∃ t, Sys2Proof.Machine.exec (.phaseAnnounce q job step segs) s = .next t ∧
      AnsweredOk t q 0x50 [] ∧
      ((if diff32 step (s.job job.toNat).step ≤ 0 then (s.job job.toNat).step + 1 else step, segs) ∈ (t.job job.toNat).segsNext) ∧
      (∀ p ∈ (s.job job.toNat).segsNext, p.1 ≠ (if diff32 step (s.job job.toNat).step ≤ 0 then (s.job job.toNat).step + 1 else step) → p ∈ (t.job job.toNat).segsNext) ∧
      (t.job job.toNat).cls = some ((segs.headD (0, 0)).2.toNat / 256) ∧
      (t.job job.toNat).x = (s.job job.toNat).x ∧
      Changes [.zh, .jobs, .out] [Reg.SS_MBOX k, Reg.PORT_CNT_RX q.port] s t)

/-- Pair barriers are proposed, accepted and cancelled: a barrier is proposed to the partner, accepted or cancelled, and the planned swap
exchanges its tick records and readiness. Commands: PAIR_BARRIER_PROPOSE, PAIR_BARRIER_ACCEPT, PAIR_BARRIER_CANCEL, TICK_RECORD, SWAP_READY.
Formalises what R476, R491, R494 say of these cases. Choices of the model that bear on its clauses: log entries 35, 44, 45, 58, 60, 63, 92. -/
def Obligations.PairBarriersAreAgreed : Prop :=
  (∀ (b : BarrierMsg) (s : State) (n : Nat),
    s.fld Fd.PAI_STAT_ROLE = 2 → s.pairUp = true → s.mainAbsent = false → s.pairBar b.id.val = none → s.freeEntry = some n → b.action.val ≠ actRoleSwap → diff64 s.clk.sidx b.at_ ≤ 0 → 
    ∃ t, Sys2Proof.Machine.exec (.pairBarrierPropose b) s = .next t ∧
      t.pair.bars = s.pair.bars ++ [⟨b, some n⟩] ∧
      t.act.armed = s.act.armed ++ [n] ∧
      t.fld (Fd.AE_STAT_STATE n) = 1 ∧
      (t.trigger n).kind = 6 ∧
      (t.trigger n).trig = 1 ∧
      (t.trigger n).value = b.at_ ∧
      t.fld (Fd.BAR_CFG_ACTION b.id.val) = b.action.val ∧
      t.fld (Fd.BAR_CFG_SCOPE b.id.val) = 0 ∧
      Changes [.act, .pair, .sec, .out] [Reg.AE_CTRL n, Reg.AE_TRIG_LO n, Reg.AE_TRIG_HI n, Reg.AE_ARG0 n, Reg.AE_ARG1 n, Reg.AE_STAT n, Reg.AE_SEQ n, Reg.AE_LATE n, Reg.TIM_ACT_USED, Reg.BAR_CFG b.id.val] s t) ∧
  (∀ (b : BarrierMsg) (s : State) (n : Nat),
    s.fld Fd.PAI_STAT_ROLE = 2 → s.pairUp = true → s.mainAbsent = false → s.pairBar b.id.val = none → s.freeEntry = some n → b.action.val = actRoleSwap → diff64 s.clk.sidx b.at_ ≤ 0 → 
    ∃ t, Sys2Proof.Machine.exec (.pairBarrierPropose b) s = .next t ∧
      t.pair.bars = s.pair.bars ++ [⟨b, some n⟩] ∧
      t.act.armed = s.act.armed ++ [n] ∧
      t.pair.swapN = some b.at_ ∧
      t.swapState = 2 ∧
      t.rd Reg.PAI_SWAP_IDX_LO = b.at_.setWidth 32 ∧ t.rd Reg.PAI_SWAP_IDX_HI = (b.at_ >>> 32).setWidth 32 ∧
      t.pair.recs = [] ∧
      Only [.act, .pair, .sec, .out, .regs] s t) ∧
  (∀ (b : BarrierMsg) (s : State) (n : Nat),
    s.fld Fd.PAI_STAT_ROLE = 2 → s.pairUp = true → s.mainAbsent = false → s.pairBar b.id.val = none → s.freeEntry = some n → diff64 s.clk.sidx b.at_ > 0 → 
    ∃ t, Sys2Proof.Machine.exec (.pairBarrierPropose b) s = .next t ∧
      t.pair = s.pair ∧
      t.act.armed = s.act.armed ∧
      t.fld (Fd.AE_STAT_STATE n) = 4 ∧
      t.fld (Fd.AE_STAT_REASON n) = 1 ∧
      t.on Fd.TIM_EVT_ACT_LATE = true ∧
      Only [.act, .regs, .firn] s t) ∧
  (∀ (b : BarrierMsg) (s : State),
    (s.fld Fd.PAI_STAT_ROLE ≠ 2 ∨ s.pairUp = false ∨ (s.pairBar b.id).any (fun x => x.msg == b) = true) → 
    ∃ t, Sys2Proof.Machine.exec (.pairBarrierPropose b) s = .next t ∧
      t = s) ∧
  (∀ (id : Fin 16) (s : State) (x : PairBar) (n : Nat),
    s.pairBar id = some x → s.isActive = true → x.entry = none → diff64 s.clk.sidx x.msg.at_ < -100 → s.mainAbsent = false → s.freeEntry = some n → x.msg.action.val ≠ actRoleSwap → 
    ∃ t, Sys2Proof.Machine.exec (.pairBarrierAccept id) s = .next t ∧
      t.pairBar id = some ⟨x.msg, some n⟩ ∧
      t.act.armed = s.act.armed ++ [n] ∧
      t.fld (Fd.AE_STAT_STATE n) = 1 ∧
      (t.trigger n).value = x.msg.at_ ∧
      Only [.act, .pair, .regs] s t) ∧
  (∀ (id : Fin 16) (s : State) (x : PairBar) (n : Nat),
    s.pairBar id = some x → s.isActive = true → x.entry = none → diff64 s.clk.sidx x.msg.at_ < -100 → s.mainAbsent = false → s.freeEntry = some n → x.msg.action.val = actRoleSwap → 
    ∃ t, Sys2Proof.Machine.exec (.pairBarrierAccept id) s = .next t ∧
      t.pairBar id = some ⟨x.msg, some n⟩ ∧
      t.act.armed = s.act.armed ++ [n] ∧
      t.pair.swapN = some x.msg.at_ ∧
      t.swapState = 2 ∧
      Only [.act, .pair, .regs] s t) ∧
  (∀ (id : Fin 16) (s : State),
    (s.isActive = false ∨ (s.pairBar id).all (fun x => x.entry.isSome || decide (diff64 s.clk.sidx x.msg.at_ ≥ -100)) = true) → 
    ∃ t, Sys2Proof.Machine.exec (.pairBarrierAccept id) s = .next t ∧
      t = s) ∧
  (∀ (id : Fin 16) (s : State) (x : PairBar),
    s.pairBar id = some x → s.isActive = true → x.entry = none → diff64 s.clk.sidx x.msg.at_ ≥ -100 → x.msg.action.val ≠ actRoleSwap → 
    ∃ t, Sys2Proof.Machine.exec (.pairBarrierCancel id) s = .next t ∧
      t.pairBar id = none ∧
      Only [.pair, .sec, .out] s t) ∧
  (∀ (id : Fin 16) (s : State) (x : PairBar) (n : Nat),
    s.pairBar id = some x → s.isActive = false → x.entry = some n → s.fld (Fd.AE_STAT_STATE n) = 1 → x.msg.action.val ≠ actRoleSwap → 
    ∃ t, Sys2Proof.Machine.exec (.pairBarrierCancel id) s = .next t ∧
      t.pairBar id = none ∧
      t.fld (Fd.AE_STAT_STATE n) = 3 ∧
      t.fld (Fd.AE_STAT_REASON n) = 3 ∧
      (t.act.armed = s.act.armed.filter (fun m => m != n)) ∧
      Changes [.act, .pair] [Reg.AE_STAT n, Reg.TIM_ACT_USED] s t) ∧
  (∀ (id : Fin 16) (s : State) (x : PairBar),
    s.pairBar id = some x → s.isActive = true → x.entry = none → diff64 s.clk.sidx x.msg.at_ ≥ -100 → x.msg.action.val = actRoleSwap → id.val = barRoleSwap → s.swapping = true → 
    ∃ t, Sys2Proof.Machine.exec (.pairBarrierCancel id) s = .next t ∧
      t.pairBar id = none ∧
      t.swapState = 5 ∧
      t.fld Fd.PAI_SWAP_STAT_RESULT = 6 ∧
      t.on Fd.PAI_EVT_SWAP_ABORT = true ∧
      Only [.pair, .sec, .out, .regs, .firn] s t) ∧
  (∀ (id : Fin 16) (s : State),
    s.pairBar id = none → 
    ∃ t, Sys2Proof.Machine.exec (.pairBarrierCancel id) s = .next t ∧
      t = s) ∧
  (∀ (r : TickRec) (s : State) (n : BitVec 64),
    s.pair.swapN = some n → s.fld Fd.PAI_STAT_ROLE = 2 → (s.swapState = 2 ∨ s.swapState = 3) → 1 ≤ diff64 n r.sidx ∧ diff64 n r.sidx ≤ 100 → (s.pair.recs.all (fun x => x.sidx != r.sidx) = true) → 
    ∃ t, Sys2Proof.Machine.exec (.tickRecord r) s = .next t ∧
      t.pair.recs = s.pair.recs ++ [r] ∧
      t.swapState = 3 ∧
      Changes [.pair] [Reg.PAI_SWAP_STAT] s t) ∧
  (∀ (r : TickRec) (s : State),
    (s.fld Fd.PAI_STAT_ROLE ≠ 2 ∨ (s.swapState ≠ 2 ∧ s.swapState ≠ 3) ∨ s.pair.swapN = none ∨ s.pair.recs.any (fun x => x.sidx == r.sidx) = true) → 
    ∃ t, Sys2Proof.Machine.exec (.tickRecord r) s = .next t ∧
      t = s) ∧
  (∀ (s : State) (n : BitVec 64),
    s.pair.swapN = some n → s.isActive = true → s.swapState = 3 → 
    ∃ t, Sys2Proof.Machine.exec .swapReady s = .next t ∧
      t.pair.readyMark = true ∧
      Only [.pair] s t) ∧
  (∀ (s : State) (n : BitVec 64),
    s.pair.swapN = some n → s.fld Fd.PAI_STAT_ROLE = 2 → s.clk.sidx = n - 10 → s.pair.readyMark = false → s.holdsRecords n = true → s.lanesOk = true → s.warmReady = true → 
    ∃ t, Sys2Proof.Machine.exec .swapReady s = .next t ∧
      t.pair.readyMark = true ∧
      t.out.head?.isSome = true ∧
      Only [.pair, .sec, .out] s t) ∧
  (∀ (s : State),
    s.isActive = true → (s.swapState ≠ 3 ∨ s.pair.swapN = none) → 
    ∃ t, Sys2Proof.Machine.exec .swapReady s = .next t ∧
      t = s)

/-- Stream frames and stream events take effect: a frame is released in order, a reorder wait ends, a stream goes stale, a sensor pair is
resolved, a configuration is committed or loaded, and faults are acknowledged. Commands: STREAM_FRAME, QUARANTINE_END, REORDER_WAIT_EXPIRY,
STREAM_STALE, PAIR_RESOLVED, STREAM_COMMIT, STREAM_CONFIG_LOAD, STREAM_ACK. Formalises what R65, R111, R113, R121, R122, R127, R129, R132,
R135, R169, R441 say of these cases. Choices of the model that bear on its clauses: log entries 10, 12, 46, 67, 77, 78, 79, 80, 81. -/
def Obligations.StreamEventsTakeEffect : Prop :=
  (∀ (c : Came) (udp : BitVec 16) (bytes : List Byte) (ns : Fin 10000) (s : State),
    (s.portTakes Fd.PORT_CFG_STREAM c.port c.src c.row = false ∨ s.on Fd.STM_CTRL_EN = false) → 
    ∃ t, Sys2Proof.Machine.exec (.streamFrame ⟨c, udp⟩ bytes ns) s = .next t ∧
      t = s) ∧
  (∀ (c : Came) (udp : BitVec 16) (bytes : List Byte) (ns : Fin 10000) (s : State),
    s.portTakes Fd.PORT_CFG_STREAM c.port c.src c.row = true → s.on Fd.STM_CTRL_EN = true → ((s.countRx c.port).quarEntry c.src).isSome = true → 
    ∃ t, Sys2Proof.Machine.exec (.streamFrame ⟨c, udp⟩ bytes ns) s = .next t ∧
      t.rd Reg.NET_CNT_QDROP = satCount (s.rd Reg.NET_CNT_QDROP) 1 ∧
      Changes [] [Reg.NET_CNT_QDROP, Reg.PORT_CNT_RX c.port] s t) ∧
  (∀ (c : Came) (udp : BitVec 16) (bytes : List Byte) (ns : Fin 10000) (s : State),
    s.portTakes Fd.PORT_CFG_STREAM c.port c.src c.row = true → s.on Fd.STM_CTRL_EN = true → (s.countRx c.port).quarEntry c.src = none → (bytes.length < 28 ∨ beAt bytes 0 2 ≠ 0xF1A7) → 
    ∃ t, Sys2Proof.Machine.exec (.streamFrame ⟨c, udp⟩ bytes ns) s = .next t ∧
      t.rd Reg.STM_CNT_UNPARSE = satCount (s.rd Reg.STM_CNT_UNPARSE) 1 ∧
      t.stm = s.stm ∧
      Only [.zh, .regs, .firn] s t) ∧
  (∀ (c : Came) (udp : BitVec 16) (bytes : List Byte) (ns : Fin 10000) (s : State) (code : Nat),
    s.portTakes Fd.PORT_CFG_STREAM c.port c.src c.row = true → s.on Fd.STM_CTRL_EN = true → (s.countRx c.port).quarEntry c.src = none → 28 ≤ bytes.length → beAt bytes 0 2 = 0xF1A7 → (s.countRx c.port).checkFrame bytes = .error code → 
    ∃ t, Sys2Proof.Machine.exec (.streamFrame ⟨c, udp⟩ bytes ns) s = .next t ∧
      t.on Fd.STM_EVT_PROTO = true ∧
      t.rd Reg.STM_CNT_PROTO = satCount (s.rd Reg.STM_CNT_PROTO) 1 ∧
      (∀ a, s.localOf (beAt bytes 4 4 % 2 ^ 18) = some a → t.rd (Reg.SRC_VIOL a) = satCount (s.rd (Reg.SRC_VIOL a)) 1) ∧
      (s.mayNotify c.src = true → t.out.head? = some (.protoNotice ⟨c.src, udp, portNet c.port⟩ 28411 (s.fld Fd.STM_LVL_MAX) code (beAt bytes 4 4) (beAt bytes 8 4) (t.source c.src).count)) ∧
      Only [.zh, .stm, .out, .regs, .firn] s t) ∧
  (∀ (c : Came) (udp : BitVec 16) (bytes : List Byte) (ns : Fin 10000) (s : State) (a : Nat) (rs : List StrmRec) (r : BitVec 32),
    s.portTakes Fd.PORT_CFG_STREAM c.port c.src c.row = true → s.on Fd.STM_CTRL_EN = true → (s.countRx c.port).quarEntry c.src = none → 28 ≤ bytes.length → beAt bytes 0 2 = 0xF1A7 → (s.countRx c.port).checkFrame bytes = .ok (a, rs) → beAt bytes 12 2 = s.fld (Fd.SRC_STAT_EPOCH a) → (s.strmSrc a).passed.isSome = true → s.rd (Reg.SRC_SEQ a) = r → (s.strmSrc a).released = some r → 1 < diff32 (BitVec.ofNat 32 (beAt bytes 8 4)) r → 
    ∃ t, Sys2Proof.Machine.exec (.streamFrame ⟨c, udp⟩ bytes ns) s = .next t ∧
      t.rd (Reg.SRC_SEQ a) = BitVec.ofNat 32 (beAt bytes 8 4) ∧
      (t.strmSrc a).passed = some s.clk.now ∧
      (t.strmSrc a).released = some r ∧
      (∃ f ∈ (t.strmSrc a).held, f.seq = BitVec.ofNat 32 (beAt bytes 8 4) ∧ f.recs = rs ∧ f.at_ = s.clk.now ∧ f.arrived = s.arrival ns) ∧
      Changes [.stm] [Reg.SRC_SEQ a, Reg.SRC_STAT a, Reg.PORT_CNT_RX c.port] s t) ∧
  (∀ (c : Came) (udp : BitVec 16) (bytes : List Byte) (ns : Fin 10000) (s : State) (a : Nat) (rs : List StrmRec) (r : BitVec 32),
    s.portTakes Fd.PORT_CFG_STREAM c.port c.src c.row = true → s.on Fd.STM_CTRL_EN = true → (s.countRx c.port).quarEntry c.src = none → 28 ≤ bytes.length → beAt bytes 0 2 = 0xF1A7 → (s.countRx c.port).checkFrame bytes = .ok (a, rs) → beAt bytes 12 2 = s.fld (Fd.SRC_STAT_EPOCH a) → (s.strmSrc a).passed.isSome = true → s.rd (Reg.SRC_SEQ a) = r → (s.strmSrc a).released = some r → (s.strmSrc a).held = [] → diff32 (BitVec.ofNat 32 (beAt bytes 8 4)) r = 1 → 
    ∃ t, Sys2Proof.Machine.exec (.streamFrame ⟨c, udp⟩ bytes ns) s = .next t ∧
      t.rd (Reg.SRC_SEQ a) = BitVec.ofNat 32 (beAt bytes 8 4) ∧
      (t.strmSrc a).passed = some s.clk.now ∧
      (t.strmSrc a).released = some (BitVec.ofNat 32 (beAt bytes 8 4)) ∧
      (t.strmSrc a).held = [] ∧
      t.stm.row = s.stm.row ∧ t.stm.pairs = s.stm.pairs) ∧
  (∀ (c : Came) (udp : BitVec 16) (bytes : List Byte) (ns : Fin 10000) (s : State) (a : Nat) (rs : List StrmRec),
    s.portTakes Fd.PORT_CFG_STREAM c.port c.src c.row = true → s.on Fd.STM_CTRL_EN = true → (s.countRx c.port).quarEntry c.src = none → 28 ≤ bytes.length → beAt bytes 0 2 = 0xF1A7 → (s.countRx c.port).checkFrame bytes = .ok (a, rs) → beAt bytes 12 2 = s.fld (Fd.SRC_STAT_EPOCH a) → (s.strmSrc a).passed.isSome = true → -64 < diff32 (BitVec.ofNat 32 (beAt bytes 8 4)) (s.rd (Reg.SRC_SEQ a)) ∧ diff32 (BitVec.ofNat 32 (beAt bytes 8 4)) (s.rd (Reg.SRC_SEQ a)) ≤ 0 → bitOf (s.strmSrc a).seen (-diff32 (BitVec.ofNat 32 (beAt bytes 8 4)) (s.rd (Reg.SRC_SEQ a))).toNat = true → 
    ∃ t, Sys2Proof.Machine.exec (.streamFrame ⟨c, udp⟩ bytes ns) s = .next t ∧
      t.rd Reg.STM_CNT_DUP = satCount (s.rd Reg.STM_CNT_DUP) 1 ∧
      Changes [.stm] [Reg.STM_CNT_DUP, Reg.SRC_STAT a, Reg.PORT_CNT_RX c.port] s t) ∧
  (∀ (c : Came) (udp : BitVec 16) (bytes : List Byte) (ns : Fin 10000) (s : State) (a : Nat) (rs : List StrmRec),
    s.portTakes Fd.PORT_CFG_STREAM c.port c.src c.row = true → s.on Fd.STM_CTRL_EN = true → (s.countRx c.port).quarEntry c.src = none → 28 ≤ bytes.length → beAt bytes 0 2 = 0xF1A7 → (s.countRx c.port).checkFrame bytes = .ok (a, rs) → beAt bytes 12 2 = s.fld (Fd.SRC_STAT_EPOCH a) → (s.strmSrc a).passed.isSome = true → diff32 (BitVec.ofNat 32 (beAt bytes 8 4)) (s.rd (Reg.SRC_SEQ a)) ≤ -64 → 
    ∃ t, Sys2Proof.Machine.exec (.streamFrame ⟨c, udp⟩ bytes ns) s = .next t ∧
      t.rd Reg.STM_CNT_OLD = satCount (s.rd Reg.STM_CNT_OLD) 1 ∧
      t.rd (Reg.SRC_SEQ a) = s.rd (Reg.SRC_SEQ a) ∧
      Changes [.stm] [Reg.STM_CNT_OLD, Reg.SRC_STAT a, Reg.PORT_CNT_RX c.port] s t) ∧
  (∀ (c : Came) (udp : BitVec 16) (bytes : List Byte) (ns : Fin 10000) (s : State) (a : Nat) (rs : List StrmRec),
    s.portTakes Fd.PORT_CFG_STREAM c.port c.src c.row = true → s.on Fd.STM_CTRL_EN = true → (s.countRx c.port).quarEntry c.src = none → 28 ≤ bytes.length → beAt bytes 0 2 = 0xF1A7 → (s.countRx c.port).checkFrame bytes = .ok (a, rs) → (beAt bytes 12 2 ≠ s.fld (Fd.SRC_STAT_EPOCH a) ∨ (s.strmSrc a).passed = none) → s.silentSource a = true → 
    ∃ t, Sys2Proof.Machine.exec (.streamFrame ⟨c, udp⟩ bytes ns) s = .next t ∧
      t.fld (Fd.SRC_STAT_EPOCH a) = beAt bytes 12 2 % 65536 ∧
      t.rd (Reg.SRC_SEQ a) = BitVec.ofNat 32 (beAt bytes 8 4) ∧
      (t.strmSrc a).passed = some s.clk.now ∧
      (t.strmSrc a).released = some (BitVec.ofNat 32 (beAt bytes 8 4)) ∧
      (t.strmSrc a).held = []) ∧
  (∀ (c : Came) (udp : BitVec 16) (bytes : List Byte) (ns : Fin 10000) (s : State) (a : Nat) (rs : List StrmRec),
    s.portTakes Fd.PORT_CFG_STREAM c.port c.src c.row = true → s.on Fd.STM_CTRL_EN = true → (s.countRx c.port).quarEntry c.src = none → 28 ≤ bytes.length → beAt bytes 0 2 = 0xF1A7 → (s.countRx c.port).checkFrame bytes = .ok (a, rs) → beAt bytes 12 2 ≠ s.fld (Fd.SRC_STAT_EPOCH a) → beAt bytes 3 1 / 2 % 2 = 0 → s.silentSource a = false → 
    ∃ t, Sys2Proof.Machine.exec (.streamFrame ⟨c, udp⟩ bytes ns) s = .next t ∧
      t.on Fd.STM_EVT_PROTO = true ∧
      t.rd Reg.STM_CNT_PROTO = satCount (s.rd Reg.STM_CNT_PROTO) 1 ∧
      t.fld (Fd.SRC_STAT_EPOCH a) = s.fld (Fd.SRC_STAT_EPOCH a) ∧
      t.rd (Reg.SRC_SEQ a) = s.rd (Reg.SRC_SEQ a) ∧
      Only [.zh, .stm, .out, .regs, .firn] s t) ∧
  (∀ (entry : Fin 256) (s : State) (n : Nat),
    Tab.find s.zh.quarEnd entry = some n → n ≤ s.clk.now → 
    ∃ t, Sys2Proof.Machine.exec (.quarantineEnd entry) s = .next t ∧
      Tab.find t.zh.quarEnd entry = none ∧
      t.on (Fd.QU_STAT_VALID entry) = false ∧
      t.rd (Reg.QU_STAT entry) = 0 ∧ t.rd (Reg.QU_ADDR entry 0) = 0 ∧ t.rd (Reg.QU_VIOL entry) = 0 ∧
      Only [.zh, .regs, .firn] s t) ∧
  (∀ (entry : Fin 256) (s : State) (n : Nat),
    Tab.find s.zh.quarEnd entry = some n → s.clk.now < n → 
    ∃ t, Sys2Proof.Machine.exec (.quarantineEnd entry) s = .next t ∧
      Tab.find t.zh.quarEnd entry = some n ∧
      t.rd (Reg.QU_STAT entry) = s.rd (Reg.QU_STAT entry) ∧
      Only [.zh, .regs, .firn] s t) ∧
  (∀ (entry : Fin 256) (s : State),
    Tab.find s.zh.quarEnd entry = none → 
    ∃ t, Sys2Proof.Machine.exec (.quarantineEnd entry) s = .next t ∧
      t = s) ∧
  (∀ (acc : Fin 4096) (s : State) (f : HeldFrame) (r : BitVec 32),
    (s.strmSrc acc).held = [f] → (s.strmSrc acc).released = some r → f.at_ + (s.fld Fd.STM_REORD_WAIT_US + 9) / 10 ≤ s.clk.now → 1 < diff32 f.seq r → 
    ∃ t, Sys2Proof.Machine.exec (.reorderWaitExpiry acc) s = .next t ∧
      (t.strmSrc acc).released = some f.seq ∧
      (t.strmSrc acc).held = [] ∧
      t.rd (Reg.SRC_GAP acc) = satCount (s.rd (Reg.SRC_GAP acc)) ((diff32 f.seq r).toNat - 1) ∧
      t.rd Reg.STM_CNT_GAP = satCount (s.rd Reg.STM_CNT_GAP) ((diff32 f.seq r).toNat - 1) ∧
      t.on Fd.STM_EVT_GAP = true) ∧
  (∀ (acc : Fin 4096) (s : State),
    (∀ f ∈ (s.strmSrc acc).held, s.clk.now < f.at_ + (s.fld Fd.STM_REORD_WAIT_US + 9) / 10) → 
    ∃ t, Sys2Proof.Machine.exec (.reorderWaitExpiry acc) s = .next t ∧
      t = s) ∧
  (∀ (sid : Fin 262144) (s : State) (n : Nat),
    classStale (s.fld (Fd.STM_CFG_CLASS sid)) = some n → s.on (Fd.STM_CFG_EN sid) = true → (s.strm sid).sup.stale = false → (s.strm sid).sup.lastRead + n ≤ s.clk.now → 
    ∃ t, Sys2Proof.Machine.exec (.streamStale sid) s = .next t ∧
      (t.strm sid).sup.stale = true ∧
      t.on Fd.STM_EVT_STALE = true ∧
      Changes [.stm, .firn] [Reg.STM_SUP sid, Reg.STM_EVT, Reg.STM_EVT_SEQ] s t) ∧
  (∀ (sid : Fin 262144) (s : State),
    (classStale (s.fld (Fd.STM_CFG_CLASS sid)) = none ∨ s.on (Fd.STM_CFG_EN sid) = false ∨ (s.strm sid).sup.stale = true) → 
    ∃ t, Sys2Proof.Machine.exec (.streamStale sid) s = .next t ∧
      t = s) ∧
  (∀ (pair : Fin 4096) (s : State) (wa wb cfg : Word) (a b f : Int),
    Tab.find s.stm.pairs pair = some (wa, wb, cfg) → s.okReading (fieldOf wa 0 18) = some a → s.okReading (fieldOf wb 0 18) = some b → s.pairForecast (fieldOf wa 0 18) (fieldOf wb 0 18) = some f → s.clk.sidx.toNat % 100 = 0 → s.fld (Fd.PAIR_STAT_STATE pair) = 1 → fieldOf cfg 12 10 * 1000 ≤ s.fld (Fd.PAIR_STAT_SPLIT_MS pair) → s.mainAbsent = false → (a - f).natAbs < (b - f).natAbs → 
    ∃ t, Sys2Proof.Machine.exec (.pairResolved pair) s = .next t ∧
      t.fld (Fd.PAIR_STAT_STATE pair) = 2 ∧
      t.fld (Fd.PAIR_STAT_SIDE pair) = 1 ∧
      t.on (Fd.STM_SUP_PAIR (fieldOf wb 0 18)) = true ∧
      (t.strm (fieldOf wb 0 18)).sup.suspect = true ∧
      Changes [.stm, .firn] [Reg.PAIR_STAT pair, Reg.STM_SUP (fieldOf wb 0 18), Reg.STM_EVT, Reg.STM_EVT_SEQ] s t) ∧
  (∀ (pair : Fin 4096) (s : State) (wa wb cfg : Word) (a b f : Int),
    Tab.find s.stm.pairs pair = some (wa, wb, cfg) → s.okReading (fieldOf wa 0 18) = some a → s.okReading (fieldOf wb 0 18) = some b → s.pairForecast (fieldOf wa 0 18) (fieldOf wb 0 18) = some f → s.clk.sidx.toNat % 100 = 0 → s.fld (Fd.PAIR_STAT_STATE pair) = 1 → fieldOf cfg 12 10 * 1000 ≤ s.fld (Fd.PAIR_STAT_SPLIT_MS pair) → s.mainAbsent = false → (b - f).natAbs < (a - f).natAbs ∨ ((a - f).natAbs = (b - f).natAbs ∧ a ≤ b) → 
    ∃ t, Sys2Proof.Machine.exec (.pairResolved pair) s = .next t ∧
      t.fld (Fd.PAIR_STAT_STATE pair) = 2 ∧
      t.fld (Fd.PAIR_STAT_SIDE pair) = 0 ∧
      t.on (Fd.STM_SUP_PAIR (fieldOf wa 0 18)) = true ∧
      (t.strm (fieldOf wa 0 18)).sup.suspect = true ∧
      Changes [.stm, .firn] [Reg.PAIR_STAT pair, Reg.STM_SUP (fieldOf wa 0 18), Reg.STM_EVT, Reg.STM_EVT_SEQ] s t) ∧
  (∀ (pair : Fin 4096) (s : State),
    (Tab.find s.stm.pairs pair = none ∨ s.clk.sidx.toNat % 100 ≠ 0 ∨ s.fld (Fd.PAIR_STAT_STATE pair) ≠ 1 ∨ s.mainAbsent = true) → 
    ∃ t, Sys2Proof.Machine.exec (.pairResolved pair) s = .next t ∧
      t = s) ∧
  (∀ (w : Fin 8) (s : State),
    s.WriteTaken w Reg.STM_CMT 1 true → s.stm.commit = none → s.commitResult s.stagedCfg s.stagedPairs (!s.overTime s.activeSet s.ice.part s.stagedCfg && !s.overBandwidth s.activeSet s.stagedCfg) = 1 → s.lsOn = false → 
    ∃ t, Sys2Proof.Machine.exec (.streamCommit w) s = .next t ∧
      WroteOk t w Reg.STM_CMT ∧
      t.fld Fd.STM_CMT_STAT_RESULT = 1 ∧
      t.on Fd.STM_CMT_STAT_PENDING = true ∧
      t.stm.commit = some ⟨s.clk.now, s.stagedCfg, s.stagedPairs⟩ ∧
      Changes [.zh, .stm, .out] [Reg.STM_CMT_STAT] s t) ∧
  (∀ (w : Fin 8) (s : State),
    s.WriteTaken w Reg.STM_CMT 1 true → s.stm.commit.isSome = true → 
    ∃ t, Sys2Proof.Machine.exec (.streamCommit w) s = .next t ∧
      WroteOk t w Reg.STM_CMT ∧
      t.fld Fd.STM_CMT_STAT_RESULT = 5 ∧
      t.on Fd.STM_EVT_CMT_REFUSED = true ∧
      t.stm = s.stm) ∧
  (∀ (w : Fin 8) (s : State),
    s.WriteTaken w Reg.STM_CMT 1 true → s.stm.commit = none → s.commitResult s.stagedCfg s.stagedPairs (!s.overTime s.activeSet s.ice.part s.stagedCfg && !s.overBandwidth s.activeSet s.stagedCfg) ≠ 1 → 
    ∃ t, Sys2Proof.Machine.exec (.streamCommit w) s = .next t ∧
      WroteOk t w Reg.STM_CMT ∧
      t.fld Fd.STM_CMT_STAT_RESULT = s.commitResult s.stagedCfg s.stagedPairs (!s.overTime s.activeSet s.ice.part s.stagedCfg && !s.overBandwidth s.activeSet s.stagedCfg) ∧
      t.on Fd.STM_EVT_CMT_REFUSED = true ∧
      t.stm = s.stm) ∧
  (∀ (w : Fin 8) (s : State),
    s.WriteTaken w Reg.STM_CMT 2 true → regsWf s.regs = true → 
    ∃ t, Sys2Proof.Machine.exec (.streamConfigLoad w) s = .next t ∧
      WroteOk t w Reg.STM_CMT ∧
      (∀ i, i < 262144 → t.rd (Reg.STM_SCFG i) = s.rd (Reg.STM_CFG i))) ∧
  (∀ (w : Fin 8) (value : Word) (s : State),
    s.WriteTaken w Reg.STM_ACK value true → 
    ∃ t, Sys2Proof.Machine.exec (.streamAck w value) s = .next t ∧
      WroteOk t w Reg.STM_ACK ∧
      t.stm.ackAll = (s.stm.ackAll || fieldOf value 31 1 == 1) ∧
      (t.stm.acks = if fieldOf value 31 1 = 1 then s.stm.acks else s.stm.acks ++ [fieldOf value 0 18]) ∧
      Changes [.zh, .stm, .out] [] s t)

/-- Program slots are loaded, verified, switched and unloaded: a slot is loaded from the store, verified, unloaded, put in force by the switch,
and the partition is written. Commands: SLOT_LOAD, SLOT_UNLOAD, SLOT_VERIFY_DONE, IFD_SWITCH, IFD_PART_WRITE. Formalises what R167, R168,
R169, R186 say of these cases. Choices of the model that bear on its clauses: log entries 14, 27, 65, 90. -/
def Obligations.ProgramSlotsTakeCommands : Prop :=
  (∀ (w : Fin 8) (slot : Fin 16) (handle : BitVec 16) (s : State),
    s.WriteTaken w (Reg.SLOT_CMD slot) (BitVec.ofNat 32 (1 + 65536 * handle.toNat)) true → s.fld (Fd.SLOT_STAT_STATE slot) ≠ 3 → 
    ∃ t, Sys2Proof.Machine.exec (.slotLoad w slot handle) s = .next t ∧
      WroteOk t w (Reg.SLOT_CMD slot) ∧
      t.fld (Fd.SLOT_STAT_STATE slot) = 1 ∧ t.fld (Fd.SLOT_STAT_LOAD_ERR slot) = 0 ∧
      Tab.find t.ice.slots slot = some ⟨handle.toNat, s.slotImg slot⟩ ∧
      Changes [.zh, .ice, .out] [Reg.SLOT_STAT slot] s t) ∧
  (∀ (w : Fin 8) (slot : Fin 16) (handle : BitVec 16) (s : State),
    s.WriteTaken w (Reg.SLOT_CMD slot) (BitVec.ofNat 32 (1 + 65536 * handle.toNat)) true → s.fld (Fd.SLOT_STAT_STATE slot) = 3 → 
    ∃ t, Sys2Proof.Machine.exec (.slotLoad w slot handle) s = .next t ∧
      t.fld (Fd.SLOT_STAT_STATE slot) = 3 ∧ t.fld (Fd.SLOT_STAT_LOAD_ERR slot) = 5 ∧
      Changes [.zh, .out] [Reg.SLOT_STAT slot] s t) ∧
  (∀ (w : Fin 8) (slot : Fin 16) (s : State),
    s.WriteTaken w (Reg.SLOT_CMD slot) 2 true → s.fld (Fd.SLOT_STAT_STATE slot) ≠ 3 → 
    ∃ t, Sys2Proof.Machine.exec (.slotUnload w slot) s = .next t ∧
      WroteOk t w (Reg.SLOT_CMD slot) ∧
      t.fld (Fd.SLOT_STAT_STATE slot) = 0 ∧ t.fld (Fd.SLOT_STAT_ROLE slot) = 0 ∧ t.fld (Fd.SLOT_STAT_LTILES slot) = 0 ∧
      t.slotImg slot = none ∧
      Changes [.zh, .ice, .out] ([Reg.SLOT_STAT slot, Reg.SLOT_WCC slot, Reg.SLOT_WREQ slot, Reg.SLOT_UPDQ slot] ++ (List.range 8).map (Reg.SLOT_HASH slot)) s t) ∧
  (∀ (slot : Fin 16) (s : State),
    s.fld (Fd.SLOT_STAT_STATE slot) = 1 → s.mainRuns = true → (s.object ((Tab.find s.ice.slots slot).elim 0 (fun x => x.handle)) 1 = none) → 
    ∃ t, Sys2Proof.Machine.exec (.slotVerifyDone slot) s = .next t ∧
      t.fld (Fd.SLOT_STAT_STATE slot) = 4 ∧ t.fld (Fd.SLOT_STAT_LOAD_ERR slot) = 1 ∧
      t.ice = s.ice ∧
      Changes [] [Reg.SLOT_STAT slot] s t) ∧
  (∀ (slot : Fin 16) (s : State),
    (s.fld (Fd.SLOT_STAT_STATE slot) ≠ 1 ∨ s.mainRuns = false) → 
    ∃ t, Sys2Proof.Machine.exec (.slotVerifyDone slot) s = .next t ∧
      t = s) ∧
  (∀ (slot : Fin 16) (s : State) (o : StoreObj),
    s.fld (Fd.SLOT_STAT_STATE slot) = 1 → s.mainRuns = true → (s.object ((Tab.find s.ice.slots slot).elim 0 (fun x => x.handle)) 1 = some o) → 
    ∃ t, Sys2Proof.Machine.exec (.slotVerifyDone slot) s = .next t ∧
      (t.fld (Fd.SLOT_STAT_STATE slot) = if s.imageError o.bytes = 0 then 2 else 4) ∧
      (s.imageError o.bytes = 0 → t.slotImg slot = some (parseImage o.bytes) ∧ t.fld (Fd.SLOT_STAT_ROLE slot) = (parseImage o.bytes).role % 8) ∧
      (s.imageError o.bytes ≠ 0 → t.fld (Fd.SLOT_STAT_LOAD_ERR slot) = s.imageError o.bytes ∧ t.ice = s.ice) ∧
      Changes [.ice] ([Reg.SLOT_STAT slot, Reg.SLOT_WCC slot, Reg.SLOT_WREQ slot, Reg.SLOT_UPDQ slot] ++ (List.range 8).map (Reg.SLOT_HASH slot)) s t) ∧
  (∀ (w : Fin 8) (slot : Fin 16) (s : State) (g : Img),
    s.WriteTaken w Reg.IFD_SWITCH (BitVec.ofNat 32 (2 ^ 31 + slot.val)) true → s.ice.switch = none → s.slotImg slot = some g → s.fld (Fd.SLOT_STAT_STATE slot) = 2 → 
    ∃ t, Sys2Proof.Machine.exec (.ifdSwitch w slot) s = .next t ∧
      WroteOk t w Reg.IFD_SWITCH ∧
      t.fld Fd.IFD_SW_STAT_RESULT = s.switchResult (s.setWith slot g) s.ice.part s.streamCfg ∧
      (t.ice.switch = if s.switchResult (s.setWith slot g) s.ice.part s.streamCfg = 1 then some (slot.val, s.clk.now) else none) ∧
      (s.switchResult (s.setWith slot g) s.ice.part s.streamCfg = 1 → t.on Fd.IFD_SW_STAT_PENDING = true) ∧
      Changes [.zh, .ice, .out] [Reg.IFD_SW_STAT] s t) ∧
  (∀ (w : Fin 8) (slot : Fin 16) (s : State),
    s.WriteTaken w Reg.IFD_SWITCH (BitVec.ofNat 32 (2 ^ 31 + slot.val)) true → s.ice.switch = none → (s.slotImg slot = none ∨ s.fld (Fd.SLOT_STAT_STATE slot) ≠ 2) → 
    ∃ t, Sys2Proof.Machine.exec (.ifdSwitch w slot) s = .next t ∧
      t.fld Fd.IFD_SW_STAT_RESULT = 2 ∧ t.ice = s.ice ∧
      Changes [.zh, .out] [Reg.IFD_SW_STAT] s t) ∧
  (∀ (w : Fin 8) (slot : Fin 16) (s : State),
    s.WriteTaken w Reg.IFD_SWITCH (BitVec.ofNat 32 (2 ^ 31 + slot.val)) true → s.ice.switch.isSome = true → 
    ∃ t, Sys2Proof.Machine.exec (.ifdSwitch w slot) s = .next t ∧
      WroteOk t w Reg.IFD_SWITCH ∧
      t.fld Fd.IFD_SW_STAT_RESULT = 9 ∧ t.ice = s.ice ∧
      Changes [.zh, .out] [Reg.IFD_SW_STAT] s t) ∧
  (∀ (w : Fin 8) (value : Word) (s : State),
    s.WriteTaken w Reg.IFD_PART value (crossIce Reg.IFD_PART value) → (s.overTime s.activeSet value s.streamCfg = true ∨ s.overBandwidth s.activeSet s.streamCfg = true) → 
    ∃ t, Sys2Proof.Machine.exec (.ifdPartWrite w value) s = .next t ∧
      WroteOk t w Reg.IFD_PART ∧
      t.fld Fd.IFD_SW_STAT_RESULT = 4 ∧
      Changes [.zh, .out] [Reg.IFD_SW_STAT] s t) ∧
  (∀ (w : Fin 8) (value : Word) (s : State),
    s.WriteTaken w Reg.IFD_PART value (crossIce Reg.IFD_PART value) → s.overTime s.activeSet value s.streamCfg = false → s.overBandwidth s.activeSet s.streamCfg = false → 
    ∃ t, Sys2Proof.Machine.exec (.ifdPartWrite w value) s = .next t ∧
      WroteOk t w Reg.IFD_PART ∧
      t.rd Reg.IFD_PART = value &&& 0x7F7F ∧
      Changes [.zh, .out] [Reg.IFD_PART] s t)

/-- Frame runs and kernel batches start, end and fail as the rules say: runs and batches start and end, an overrun and a memory error end a run
without its outputs, and array tests report. Commands: FRAME_RUN_START, FRAME_RUN_END, FRAME_RUN_OVERRUN, KERNEL_BATCH_START,
KERNEL_BATCH_END, RUN_MEMORY_ERROR, ARRAY_TEST_DONE. Formalises what R172, R173, R174, R175, R180, R204 say of these cases. Choices of the
model that bear on its clauses: log entries 3, 13, 15, 16, 34, 39, 47, 60, 62, 65, 83, 85, 95. -/
def Obligations.RunsAndBatchesAct : Prop :=
  (∀ (s : State) (k : Nat) (g : Img),
    s.activeOf 0 = some (k, g) → s.mainRuns = true → s.on Fd.IFD_CTRL_EN = true → s.ice.run = none → s.ice.last = none → s.ice.logNow.skipped = false → s.clk.sidx.toNat % 100 = 2 → 
    ∃ t, Sys2Proof.Machine.exec .frameRunStart s = .next t ∧
      t.ice.run.isSome = true ∧
      t.on Fd.IFD_STAT_FRUN = true ∧
      Only [.ice, .tbl, .fresh, .regs, .firn] s t) ∧
  (∀ (s : State),
    (s.activeOf 0 = none ∨ s.mainRuns = false ∨ s.on Fd.IFD_CTRL_EN = false ∨ s.ice.run.isSome = true ∨ s.ice.last.isSome = true ∨ s.ice.logNow.skipped = true ∨ s.clk.sidx.toNat % 100 ≠ 2) → 
    ∃ t, Sys2Proof.Machine.exec .frameRunStart s = .next t ∧
      t = s) ∧
  (∀ (ns : Fin 10000) (inflight : Fin 294913) (mismatch : Option (Fin 64)) (s : State) (o : RunOut) (k : Nat) (g : Img),
    (mismatch.all (fun n => !s.shadows n) = true) → s.ice.run = some o → s.activeOf 0 = some (k, g) → 
    ∃ t, Sys2Proof.Machine.exec (.frameRunEnd ns inflight mismatch) s = .next t ∧
      t.ice.run = none ∧ t.ice.last = some o ∧
      t.on Fd.IFD_STAT_FRUN = false ∧ t.fld Fd.IFD_RUN_NS_NS = 10000 * (s.clk.sidx.toNat % 100) + ns ∧
      t.fld Fd.IFD_RUN_MAX_NS = max (s.fld Fd.IFD_RUN_MAX_NS) (10000 * (s.clk.sidx.toNat % 100) + ns) ∧
      t.fld Fd.IFD_INFL_MAX_N = max (s.fld Fd.IFD_INFL_MAX_N) (min inflight.val (24576 * stackCount)) ∧
      t.tbl.logs = appendLog s.tbl.logs s.frameNo o.upds ∧
      Only [.ice, .tbl, .stm, .regs, .firn] s t) ∧
  (∀ (ns : Fin 10000) (inflight : Fin 294913) (mismatch : Option (Fin 64)) (s : State) (o : RunOut) (k : Nat) (g : Img) (n : Fin 64),
    (mismatch = some n) → s.shadows n = true → s.ice.run = some o → s.activeOf 0 = some (k, g) → 
    ∃ t, Sys2Proof.Machine.exec (.frameRunEnd ns inflight mismatch) s = .next t ∧
      t.ice.run = none ∧ t.ice.last = none ∧ t.ice.logNow.skipped = true ∧
      t.ice.tests = s.ice.tests ++ [(n.val, s.shadowed)] ∧
      t.rd Reg.IFD_CNT_OVERRUN = satCount (s.rd Reg.IFD_CNT_OVERRUN) 1 ∧ t.rd Reg.IFD_CNT_SHADOW = satCount (s.rd Reg.IFD_CNT_SHADOW) 1 ∧
      t.on Fd.IFD_EVT_SHADOW_MIS = true ∧ t.on Fd.IFD_EVT_OVERRUN = true ∧
      Changes [.ice, .firn] [Reg.IFD_STAT, Reg.IFD_RUN_NS, Reg.IFD_RUN_MAX, Reg.IFD_INFL_MAX, Reg.IFD_CNT_OVERRUN, Reg.IFD_CNT_SHADOW, Reg.TILE_ERR n, Reg.IFD_EVT, Reg.IFD_EVT_SEQ] s t) ∧
  (∀ (ns : Fin 10000) (inflight : Fin 294913) (mismatch : Option (Fin 64)) (s : State),
    (s.ice.run = none ∨ s.activeOf 0 = none) → 
    ∃ t, Sys2Proof.Machine.exec (.frameRunEnd ns inflight mismatch) s = .next t ∧
      t = s) ∧
  (∀ (s : State),
    s.edgeToCome = true → s.ice.run.isSome = true → s.edge.clk.sidx.toNat % 100 = 80 → 
    ∃ t, Sys2Proof.Machine.exec .frameRunOverrun s = .next t ∧
      t = s.edgeAll.beginTick ∧
      t.clk.begun = t.sys.seracUp) ∧
  (∀ (s : State),
    (s.edgeToCome = false ∨ s.ice.run = none ∨ s.edge.clk.sidx.toNat % 100 ≠ 80) → 
    ∃ t, Sys2Proof.Machine.exec .frameRunOverrun s = .next t ∧
      t = s) ∧
  (∀ (s : State),
    s.ice.run.isSome = true → 80 ≤ s.clk.sidx.toNat % 100 → 
    ∃ t, t = s.deadlineNow ∧
      t.ice = { s.ice with run := none, last := none, logNow := { s.ice.logNow with skipped := true } } ∧
      t.on Fd.IFD_STAT_FRUN = false ∧ t.fld Fd.IFD_RUN_NS_NS = 0xFFFFF ∧ t.fld Fd.IFD_RUN_MAX_NS = 0xFFFFF ∧
      t.rd Reg.IFD_CNT_OVERRUN = satCount (s.rd Reg.IFD_CNT_OVERRUN) 1 ∧
      t.on Fd.IFD_EVT_OVERRUN = true ∧
      Changes [.ice, .firn] [Reg.IFD_STAT, Reg.IFD_RUN_NS, Reg.IFD_RUN_MAX, Reg.IFD_CNT_OVERRUN, Reg.IFD_EVT, Reg.IFD_EVT_SEQ] s t) ∧
  (∀ (c : Fin 5) (s : State) (k : Nat) (g : Img),
    s.activeOf (c.val + 1) = some (k, g) → (∀ x, x < c.val → s.activeOf (x + 1) = none ∨ s.clk.sidx.toNat % classPeriod x ≠ 0 ∨ Tab.find s.ice.batchAt x = some s.clk.now) → s.mainRuns = true → s.on Fd.IFD_CTRL_EN = true → s.clk.sidx.toNat % classPeriod c = 0 → Tab.find s.ice.batchAt c ≠ some s.clk.now → Tab.has s.ice.batches c = false → ((s.ice.pend.map (fun p => p.1)).Nodup) → 
    ∃ t, Sys2Proof.Machine.exec (.kernelBatchStart c) s = .next t ∧
      (Tab.find t.ice.batches c).map (fun b => (b.frame, b.start)) = some (s.frameNo, s.clk.sidx.toNat) ∧
      (Tab.find t.ice.batches c).map (fun b => b.took) = some (s.takeBatch c) ∧
      Tab.at 0 t.ice.batchNo c = Tab.at 0 s.ice.batchNo c + 1 ∧
      t.on Fd.IFD_STAT_KRUN = true ∧
      (∀ i l, Tab.find s.ice.pend i = some l → s.on (Fd.STM_CFG_EN i) = true → s.fld (Fd.STM_CFG_CLASS i) = c.val → Tab.at [] t.ice.pend i = l.drop 32) ∧
      Only [.ice, .tbl, .fresh, .regs, .firn] s t) ∧
  (∀ (c : Fin 5) (s : State) (k : Nat) (g : Img),
    s.activeOf (c.val + 1) = some (k, g) → (∀ x, x < c.val → s.activeOf (x + 1) = none ∨ s.clk.sidx.toNat % classPeriod x ≠ 0 ∨ Tab.find s.ice.batchAt x = some s.clk.now) → s.mainRuns = true → s.on Fd.IFD_CTRL_EN = true → s.clk.sidx.toNat % classPeriod c = 0 → Tab.find s.ice.batchAt c ≠ some s.clk.now → Tab.has s.ice.batches c = true → 
    ∃ t, Sys2Proof.Machine.exec (.kernelBatchStart c) s = .next t ∧
      t.ice = { s.ice with batchAt := s.ice.batchAt.put c s.clk.now, logNow := { s.ice.logNow with kskip := s.ice.logNow.kskip ++ [(c.val, s.clk.sidx.toNat)] } } ∧
      t.rd Reg.IFD_CNT_KSKIP = satCount (s.rd Reg.IFD_CNT_KSKIP) 1 ∧
      t.on Fd.IFD_EVT_KSKIP = true ∧
      Changes [.ice, .firn] [Reg.IFD_CNT_KSKIP, Reg.IFD_EVT, Reg.IFD_EVT_SEQ] s t) ∧
  (∀ (c : Fin 5) (s : State),
    (s.mainRuns = false ∨ s.on Fd.IFD_CTRL_EN = false) → 
    ∃ t, Sys2Proof.Machine.exec (.kernelBatchStart c) s = .next t ∧
      t = s) ∧
  (∀ (c : Fin 5) (s : State),
    s.mainRuns = true → s.on Fd.IFD_CTRL_EN = true → 
    ∃ t, Sys2Proof.Machine.exec (.kernelBatchStart c) s = .next t ∧
      t = (List.range (c.val + 1)).foldl State.dueBatch s) ∧
  (∀ (c : Fin 5) (inflight : Fin 294913) (s : State) (b : KBatch),
    Tab.find s.ice.batches c = some b → 
    ∃ t, Sys2Proof.Machine.exec (.kernelBatchEnd ⟨c, inflight⟩) s = .next t ∧
      t.ice.batches = s.ice.batches.del c ∧
      t.tbl.logs = appendLog s.tbl.logs b.frame b.out.upds ∧
      t.on Fd.IFD_STAT_KRUN = !(s.ice.batches.del c).isEmpty ∧
      t.fld Fd.IFD_INFL_MAX_N = max (s.fld Fd.IFD_INFL_MAX_N) (min inflight.val (24576 * stackCount)) ∧
      Only [.ice, .tbl, .stm, .regs, .firn] s t) ∧
  (∀ (c : Fin 5) (inflight : Fin 294913) (s : State),
    Tab.find s.ice.batches c = none → 
    ∃ t, Sys2Proof.Machine.exec (.kernelBatchEnd ⟨c, inflight⟩) s = .next t ∧
      t = s) ∧
  (∀ (kernel : Option (Fin 5)) (s : State),
    kernel = none → s.ice.run.isSome = true → 
    ∃ t, Sys2Proof.Machine.exec (.runMemoryError kernel) s = .next t ∧
      t.ice = { s.ice with run := none, last := none, logNow := { s.ice.logNow with skipped := true }, taint := true } ∧
      t.on Fd.IFD_EVT_TAINT = true ∧ t.on Fd.IFD_EVT_OVERRUN = true ∧
      t.fld Fd.IFD_RUN_NS_NS = 0xFFFFF ∧
      Changes [.ice, .firn] [Reg.IFD_STAT, Reg.IFD_RUN_NS, Reg.IFD_RUN_MAX, Reg.IFD_CNT_OVERRUN, Reg.IFD_EVT, Reg.IFD_EVT_SEQ] s t) ∧
  (∀ (kernel : Option (Fin 5)) (s : State) (c : Fin 5) (b : KBatch),
    kernel = some c → Tab.find s.ice.batches c = some b → 
    ∃ t, Sys2Proof.Machine.exec (.runMemoryError kernel) s = .next t ∧
      t.ice.batches = s.ice.batches.del c ∧ t.ice.taint = true ∧
      t.ice.logNow = unlogBatch s.ice.logNow b.frame c b.start ∧
      t.rd Reg.IFD_CNT_KSKIP = satCount (s.rd Reg.IFD_CNT_KSKIP) 1 ∧
      t.on Fd.IFD_EVT_TAINT = true ∧ t.on Fd.IFD_EVT_KSKIP = true ∧
      t.on Fd.IFD_STAT_KRUN = !(s.ice.batches.del c).isEmpty ∧
      Only [.ice, .tbl, .regs, .firn] s t) ∧
  (∀ (kernel : Option (Fin 5)) (s : State),
    ((kernel = none ∧ s.ice.run = none) ∨ kernel.any (fun c => (Tab.find s.ice.batches c).isNone) = true) → 
    ∃ t, Sys2Proof.Machine.exec (.runMemoryError kernel) s = .next t ∧
      t = s) ∧
  (∀ (tile : Fin 64) (arr : Fin 8) (activeOk spareOk : Bool) (s : State),
    s.ice.tests.contains (tile.val, arr.val) = true → activeOk = false → spareOk = true → 
    ∃ t, Sys2Proof.Machine.exec (.arrayTestDone tile arr activeOk spareOk) s = .next t ∧
      (t = { s with ice := { s.ice with tests := s.ice.tests.filter (fun x => x != (tile.val, arr.val)), retire := s.ice.retire ++ [(tile.val, arr.val)] } })) ∧
  (∀ (tile : Fin 64) (arr : Fin 8) (activeOk spareOk : Bool) (s : State),
    s.ice.tests.contains (tile.val, arr.val) = true → activeOk = true → spareOk = false → 
    ∃ t, Sys2Proof.Machine.exec (.arrayTestDone tile arr activeOk spareOk) s = .next t ∧
      t.on (Fd.TILE_STAT_SPARE_ARR_USED tile) = true ∧
      (t.ice.tests = s.ice.tests.filter (fun x => x != (tile.val, arr.val)) ∧ t.ice.retire = s.ice.retire) ∧
      Only [.ice, .dia, .regs, .firn] s t) ∧
  (∀ (tile : Fin 64) (arr : Fin 8) (activeOk spareOk : Bool) (s : State),
    s.ice.tests.contains (tile.val, arr.val) = true → activeOk = false → spareOk = false → 
    ∃ t, Sys2Proof.Machine.exec (.arrayTestDone tile arr activeOk spareOk) s = .next t ∧
      t.on (Fd.TILE_STAT_SPARE_ARR_USED tile) = true ∧
      (t.ice.tests = s.ice.tests.filter (fun x => x != (tile.val, arr.val)) ∧ t.ice.retire = s.ice.retire ++ [(tile.val, arr.val)]) ∧
      Only [.ice, .dia, .regs, .firn] s t) ∧
  (∀ (tile : Fin 64) (arr : Fin 8) (activeOk spareOk : Bool) (s : State),
    s.ice.tests.contains (tile.val, arr.val) = true → activeOk = true → spareOk = true → (((Tab.at [] s.ice.transients (tile.val * 8 + arr.val)).filter (fun x => decide (s.clk.now < x + sTicks 3600))).length < 2) → 
    ∃ t, Sys2Proof.Machine.exec (.arrayTestDone tile arr activeOk spareOk) s = .next t ∧
      t.ice.retire = s.ice.retire ∧
      (t.ice.tests = s.ice.tests.filter (fun x => x != (tile.val, arr.val))) ∧
      Changes [.ice] [Reg.TILE_ERR tile] s t) ∧
  (∀ (tile : Fin 64) (arr : Fin 8) (activeOk spareOk : Bool) (s : State),
    s.ice.tests.contains (tile.val, arr.val) = true → activeOk = true → spareOk = true → (2 ≤ ((Tab.at [] s.ice.transients (tile.val * 8 + arr.val)).filter (fun x => decide (s.clk.now < x + sTicks 3600))).length) → 
    ∃ t, Sys2Proof.Machine.exec (.arrayTestDone tile arr activeOk spareOk) s = .next t ∧
      t.ice.retire = s.ice.retire ++ [(tile.val, arr.val)] ∧
      (t.ice.tests = s.ice.tests.filter (fun x => x != (tile.val, arr.val))) ∧
      Changes [.ice] [Reg.TILE_ERR tile] s t) ∧
  (∀ (tile : Fin 64) (arr : Fin 8) (activeOk spareOk : Bool) (s : State),
    s.ice.tests.contains (tile.val, arr.val) = false → 
    ∃ t, Sys2Proof.Machine.exec (.arrayTestDone tile arr activeOk spareOk) s = .next t ∧
      t = s)

/-- Replay takes its commands: replay starts, pauses, resumes, steps, takes and restores snapshots, ends a frame and stops. Commands:
REPLAY_START, REPLAY_PAUSE, REPLAY_RESUME, REPLAY_STEP, REPLAY_SNAP, REPLAY_RESTORE, REPLAY_STOP, REPLAY_FRAME_END. Formalises what R182,
R183 say of these cases. Choices of the model that bear on its clauses: log entries 83, 85. -/
def Obligations.ReplayTakesCommands : Prop :=
  (∀ (w : Fin 8) (pace : Bool) (s : State) (k : Nat) (g : Img) (v : Nat) (l : List LogFrame),
    (s.WriteTaken w Reg.IFD_RPL_CTRL (if pace then 9 else 1) true) → s.ice.rpl.single = false → s.rplState = 0 → s.activeOf 6 = some (k, g) → s.replayLog = some (v, l) → (s.logMismatch g (some (v, l)) = false) → 
    ∃ t, Sys2Proof.Machine.exec (.replayStart w pace) s = .next t ∧
      WroteOk t w Reg.IFD_RPL_CTRL ∧
      (t.rplState = if l = [] then 4 else 1) ∧
      t.fld Fd.IFD_RPL_STAT_LAST = 1 ∧ t.on Fd.IFD_STAT_RRUN = decide (l ≠ []) ∧
      t.ice.rpl = { s.ice.rpl with log := l, pos := 0, frame := 0, pace := pace, kst := [], run := none, upds := [], trace := [], single := false } ∧
      Changes [.zh, .ice, .out] [Reg.IFD_RPL_STAT, Reg.IFD_STAT, Reg.IFD_RPL_FRAME_LO, Reg.IFD_RPL_FRAME_HI] s t) ∧
  (∀ (w : Fin 8) (pace : Bool) (s : State) (k : Nat) (g : Img),
    (s.WriteTaken w Reg.IFD_RPL_CTRL (if pace then 9 else 1) true) → s.ice.rpl.single = false → s.rplState = 0 → s.activeOf 6 = some (k, g) → (s.logMismatch g s.replayLog = true) → 
    ∃ t, Sys2Proof.Machine.exec (.replayStart w pace) s = .next t ∧
      WroteOk t w Reg.IFD_RPL_CTRL ∧
      t.rplState = 5 ∧
      t.fld Fd.IFD_RPL_STAT_LAST = 1 ∧ t.on Fd.IFD_STAT_RRUN = false ∧
      Changes [.zh, .ice, .out] [Reg.IFD_RPL_STAT, Reg.IFD_STAT, Reg.IFD_RPL_FRAME_LO, Reg.IFD_RPL_FRAME_HI] s t) ∧
  (∀ (w : Fin 8) (pace : Bool) (s : State),
    (s.WriteTaken w Reg.IFD_RPL_CTRL (if pace then 9 else 1) true) → s.ice.rpl.single = false → s.rplState = 0 → s.activeOf 6 = none → 
    ∃ t, Sys2Proof.Machine.exec (.replayStart w pace) s = .next t ∧
      WroteOk t w Reg.IFD_RPL_CTRL ∧
      t.rplState = 0 ∧ t.fld Fd.IFD_RPL_STAT_LAST = 2 ∧
      Changes [.zh, .out] [Reg.IFD_RPL_STAT, Reg.IFD_STAT] s t) ∧
  (∀ (w : Fin 8) (s : State),
    s.WriteTaken w Reg.IFD_RPL_CTRL 2 true → s.ice.rpl.single = false → s.rplState = 1 → 
    ∃ t, Sys2Proof.Machine.exec (.replayPause w) s = .next t ∧
      WroteOk t w Reg.IFD_RPL_CTRL ∧
      t.rplState = 2 ∧ t.fld Fd.IFD_RPL_STAT_LAST = 1 ∧ t.on Fd.IFD_STAT_RRUN = true ∧
      Changes [.zh, .out] [Reg.IFD_RPL_STAT, Reg.IFD_STAT] s t) ∧
  (∀ (w : Fin 8) (s : State),
    s.WriteTaken w Reg.IFD_RPL_CTRL 2 true → (rplLegal (if s.ice.rpl.single then 2 else s.rplState) 2 = false) → 
    ∃ t, Sys2Proof.Machine.exec (.replayPause w) s = .next t ∧
      t.rplState = s.rplState ∧ t.fld Fd.IFD_RPL_STAT_LAST = 2 ∧
      Changes [.zh, .out] [Reg.IFD_RPL_STAT] s t) ∧
  (∀ (w : Fin 8) (pace : Bool) (s : State),
    (s.WriteTaken w Reg.IFD_RPL_CTRL (if pace then 11 else 3) true) → s.ice.rpl.single = false → s.rplState = 3 → s.ice.rpl.pos < s.ice.rpl.log.length → 
    ∃ t, Sys2Proof.Machine.exec (.replayResume w pace) s = .next t ∧
      WroteOk t w Reg.IFD_RPL_CTRL ∧
      t.rplState = 1 ∧ t.fld Fd.IFD_RPL_STAT_LAST = 1 ∧ t.on Fd.IFD_STAT_RRUN = true ∧
      t.ice.rpl = { s.ice.rpl with pace := pace } ∧
      Changes [.zh, .ice, .out] [Reg.IFD_RPL_STAT, Reg.IFD_STAT] s t) ∧
  (∀ (w : Fin 8) (pace : Bool) (s : State),
    (s.WriteTaken w Reg.IFD_RPL_CTRL (if pace then 11 else 3) true) → s.ice.rpl.single = false → s.rplState = 3 → s.ice.rpl.log.length ≤ s.ice.rpl.pos → 
    ∃ t, Sys2Proof.Machine.exec (.replayResume w pace) s = .next t ∧
      WroteOk t w Reg.IFD_RPL_CTRL ∧
      t.rplState = 4 ∧ t.fld Fd.IFD_RPL_STAT_LAST = 1 ∧ t.on Fd.IFD_STAT_RRUN = false ∧
      t.ice.rpl = { s.ice.rpl with pace := pace } ∧
      Changes [.zh, .ice, .out] [Reg.IFD_RPL_STAT, Reg.IFD_STAT] s t) ∧
  (∀ (w : Fin 8) (s : State),
    s.WriteTaken w Reg.IFD_RPL_CTRL 4 true → s.ice.rpl.single = false → s.rplState = 3 → s.ice.rpl.pos < s.ice.rpl.log.length → 
    ∃ t, Sys2Proof.Machine.exec (.replayStep w) s = .next t ∧
      WroteOk t w Reg.IFD_RPL_CTRL ∧
      t.rplState = 3 ∧ t.fld Fd.IFD_RPL_STAT_LAST = 1 ∧ t.on Fd.IFD_STAT_RRUN = true ∧
      t.ice.rpl = { s.ice.rpl with single := true } ∧
      Changes [.zh, .ice, .out] [Reg.IFD_RPL_STAT, Reg.IFD_STAT] s t) ∧
  (∀ (w : Fin 8) (s : State),
    s.WriteTaken w Reg.IFD_RPL_CTRL 4 true → s.ice.rpl.single = false → s.rplState = 3 → s.ice.rpl.log.length ≤ s.ice.rpl.pos → 
    ∃ t, Sys2Proof.Machine.exec (.replayStep w) s = .next t ∧
      WroteOk t w Reg.IFD_RPL_CTRL ∧
      t.rplState = 4 ∧ t.fld Fd.IFD_RPL_STAT_LAST = 1 ∧ t.on Fd.IFD_STAT_RRUN = false ∧
      t.ice.rpl = { s.ice.rpl with single := false } ∧
      Changes [.zh, .ice, .out] [Reg.IFD_RPL_STAT, Reg.IFD_STAT] s t) ∧
  (∀ (w : Fin 8) (s : State) (k : Nat) (g : Img),
    s.WriteTaken w Reg.IFD_RPL_CTRL 5 true → s.ice.rpl.single = false → (s.rplState = 3 ∨ s.rplState = 4) → s.activeOf 6 = some (k, g) → Tab.has s.ice.snaps 0x8000 = false → 
    ∃ t, Sys2Proof.Machine.exec (.replaySnap w) s = .next t ∧
      WroteOk t w Reg.IFD_RPL_CTRL ∧
      t.fld Fd.IFD_RPL_SNAP_HANDLE = 0x8000 ∧
      (Tab.find t.ice.snaps 0x8000).map (fun n => (n.frame, n.pos, n.hash)) = some (s.ice.rpl.frame, s.ice.rpl.pos, g.hash) ∧
      t.rplState = s.rplState ∧ t.fld Fd.IFD_RPL_STAT_LAST = 1 ∧
      Changes [.zh, .ice, .out] [Reg.IFD_RPL_STAT, Reg.IFD_STAT, Reg.IFD_RPL_SNAP] s t) ∧
  (∀ (w : Fin 8) (s : State) (k : Nat) (g : Img) (n : RplSnap),
    s.WriteTaken w Reg.IFD_RPL_CTRL 6 true → s.ice.rpl.single = false → (s.rplState = 0 ∨ s.rplState = 3) → s.activeOf 6 = some (k, g) → Tab.find s.ice.snaps (s.fld Fd.IFD_RPL_SNAP_HANDLE) = some n → n.hash = g.hash → 
    ∃ t, Sys2Proof.Machine.exec (.replayRestore w) s = .next t ∧
      WroteOk t w Reg.IFD_RPL_CTRL ∧
      t.rplState = 3 ∧ t.fld Fd.IFD_RPL_STAT_LAST = 1 ∧
      t.ice.rpl.frame = n.frame ∧ t.ice.rpl.pos = n.pos ∧ t.ice.rpl.kst = n.kst ∧ t.ice.rpl.upds = n.upds ∧
      Only [.zh, .ice, .tbl, .regs, .out] s t) ∧
  (∀ (w : Fin 8) (s : State),
    s.WriteTaken w Reg.IFD_RPL_CTRL 6 true → s.ice.rpl.single = false → (s.rplState = 0 ∨ s.rplState = 3) → (s.activeOf 6 = none ∨ Tab.find s.ice.snaps (s.fld Fd.IFD_RPL_SNAP_HANDLE) = none) → 
    ∃ t, Sys2Proof.Machine.exec (.replayRestore w) s = .next t ∧
      WroteOk t w Reg.IFD_RPL_CTRL ∧
      t.rplState = s.rplState ∧ t.fld Fd.IFD_RPL_STAT_LAST = 3 ∧
      Changes [.zh, .out] [Reg.IFD_RPL_STAT, Reg.IFD_STAT] s t) ∧
  (∀ (w : Fin 8) (s : State),
    s.WriteTaken w Reg.IFD_RPL_CTRL 7 true → (s.rplState ≠ 0 ∨ s.ice.rpl.single = true) → 
    ∃ t, Sys2Proof.Machine.exec (.replayStop w) s = .next t ∧
      WroteOk t w Reg.IFD_RPL_CTRL ∧
      t.rplState = 0 ∧ t.fld Fd.IFD_RPL_STAT_LAST = 1 ∧ t.on Fd.IFD_STAT_RRUN = false ∧
      t.ice.rpl = { s.ice.rpl with log := [], run := none, upds := [], single := false } ∧
      Changes [.zh, .ice, .out] [Reg.IFD_RPL_STAT, Reg.IFD_STAT] s t) ∧
  (∀ (logError : Bool) (inflight : Fin 294913) (s : State) (k : Nat) (g : Img) (f : LogFrame) (u : State),
    s.on Fd.IFD_STAT_RRUN = true → s.mainRuns = true → s.on Fd.IFD_CTRL_EN = true → s.activeOf 6 = some (k, g) → s.ice.rpl.log[s.ice.rpl.pos]? = some f → (s.peakRequests inflight).replayFrame k g f = some u → logError = false → 
    ∃ t, Sys2Proof.Machine.exec (.replayFrameEnd ⟨logError, inflight⟩) s = .next t ∧
      t.ice.rpl.pos = s.ice.rpl.pos + 1 ∧ t.ice.rpl.frame = s.ice.rpl.frame + 1 ∧
      (t.rplState = if s.ice.rpl.log.length ≤ s.ice.rpl.pos + 1 then 4 else if s.rplState = 2 ∨ s.ice.rpl.single = true then 3 else 1) ∧
      t.ice.rpl.single = false ∧
      Only [.ice, .tbl, .regs, .firn, .fresh] s t) ∧
  (∀ (logError : Bool) (inflight : Fin 294913) (s : State) (k : Nat) (g : Img) (f : LogFrame),
    s.on Fd.IFD_STAT_RRUN = true → s.mainRuns = true → s.on Fd.IFD_CTRL_EN = true → s.activeOf 6 = some (k, g) → s.ice.rpl.log[s.ice.rpl.pos]? = some f → logError = true → 
    ∃ t, Sys2Proof.Machine.exec (.replayFrameEnd ⟨logError, inflight⟩) s = .next t ∧
      t.rplState = 5 ∧ t.on Fd.IFD_STAT_RRUN = false ∧
      Changes [] [Reg.IFD_RPL_STAT, Reg.IFD_STAT, Reg.IFD_INFL_MAX] s t) ∧
  (∀ (logError : Bool) (inflight : Fin 294913) (s : State),
    (s.on Fd.IFD_STAT_RRUN = false ∨ s.mainRuns = false ∨ s.on Fd.IFD_CTRL_EN = false) → 
    ∃ t, Sys2Proof.Machine.exec (.replayFrameEnd ⟨logError, inflight⟩) s = .next t ∧
      t = s)

/-- Table commands take effect: a table is created, deleted, saved and restored, and a creation that ends makes the table usable. Commands:
TABLE_CREATE, TABLE_DELETE, TABLE_SAVE, TABLE_RESTORE, TABLE_CREATE_DONE. Formalises what R189, R222, R225, R535 say of these cases. Choices
of the model that bear on its clauses: log entries 3, 14, 17, 49, 65, 84. -/
def Obligations.TableCommandsTakeEffect : Prop :=
  (∀ (w : Fin 8) (tb : Fin 4096) (handle : BitVec 16) (s : State),
    s.WriteTaken w (Reg.T_CMD tb) (BitVec.ofNat 32 (1 + 65536 * handle.toNat)) (crossTable s (Reg.T_CMD tb) (BitVec.ofNat 32 (1 + 65536 * handle.toNat))) → s.fld (Fd.T_STAT_STATE tb) = 0 → s.tblKind tb = 1 → s.tables.length < 256 → ((s.tables.filter (fun u => s.tblKind u == 1)).length < 16) → s.on (Fd.T_CFG_HOT tb) = false → handle ≠ 0 → 
    ∃ t, Sys2Proof.Machine.exec (.tableCreate w tb handle) s = .next t ∧
      WroteOk t w (Reg.T_CMD tb) ∧
      t.fld (Fd.T_STAT_STATE tb) = 1 ∧ t.fld (Fd.T_STAT_ERR tb) = 0 ∧
      t.tblOf tb = { Tbl.empty with image := some handle.toNat } ∧
      t.rd (Reg.T_EPOCH_LO tb) = 0 ∧ t.rd (Reg.T_EPOCH_HI tb) = 0 ∧ t.rd (Reg.T_LOGPOS_LO tb) = 0 ∧ t.rd (Reg.T_LOGPOS_HI tb) = 0 ∧
      Only [.zh, .tbl, .regs, .out] s t) ∧
  (∀ (w : Fin 8) (tb : Fin 4096) (s : State),
    s.WriteTaken w (Reg.T_CMD tb) 1 (crossTable s (Reg.T_CMD tb) 1) → s.fld (Fd.T_STAT_STATE tb) = 0 → s.tblKind tb = 1 → s.tables.length < 256 → ((s.tables.filter (fun u => s.tblKind u == 1)).length < 16) → s.on (Fd.T_CFG_HOT tb) = false → 
    ∃ t, Sys2Proof.Machine.exec (.tableCreate w tb 0) s = .next t ∧
      WroteOk t w (Reg.T_CMD tb) ∧
      t.tblLive tb = true ∧
      t.tblOf tb = Tbl.empty ∧
      t.fld (Fd.T_STAT_ERR tb) = 0) ∧
  (∀ (w : Fin 8) (tb : Fin 4096) (handle : BitVec 16) (s : State),
    s.WriteTaken w (Reg.T_CMD tb) (BitVec.ofNat 32 (1 + 65536 * handle.toNat)) (crossTable s (Reg.T_CMD tb) (BitVec.ofNat 32 (1 + 65536 * handle.toNat))) → s.fld (Fd.T_STAT_STATE tb) = 0 → (256 ≤ s.tables.length ∨ (s.tblKind tb = 4 ∧ (s.tblRows tb < 64 ∨ 67108864 < s.tblRows tb ∨ s.tblRows tb % 64 ≠ 0)) ∨ (s.tblKind tb = 1 ∧ 16 ≤ (s.tables.filter (fun u => s.tblKind u == 1)).length)) → 
    ∃ t, Sys2Proof.Machine.exec (.tableCreate w tb handle) s = .next t ∧
      WroteOk t w (Reg.T_CMD tb) ∧
      t.fld (Fd.T_STAT_STATE tb) = 0 ∧ t.fld (Fd.T_STAT_ERR tb) = 2 ∧
      Changes [.zh, .out] [Reg.T_STAT tb] s t) ∧
  (∀ (w : Fin 8) (tb : Fin 4096) (handle : BitVec 16) (s : State),
    s.WriteTaken w (Reg.T_CMD tb) (BitVec.ofNat 32 (1 + 65536 * handle.toNat)) (crossTable s (Reg.T_CMD tb) (BitVec.ofNat 32 (1 + 65536 * handle.toNat))) → s.fld (Fd.T_STAT_STATE tb) ≠ 0 → 
    ∃ t, Sys2Proof.Machine.exec (.tableCreate w tb handle) s = .next t ∧
      WroteOk t w (Reg.T_CMD tb) ∧
      Changes [.zh, .out] [] s t) ∧
  (∀ (w : Fin 8) (tb : Fin 4096) (s : State),
    s.WriteTaken w (Reg.T_CMD tb) 2 (crossTable s (Reg.T_CMD tb) 2) → s.fld (Fd.T_STAT_STATE tb) = 0 → 
    ∃ t, Sys2Proof.Machine.exec (.tableDelete w tb) s = .next t ∧
      WroteOk t w (Reg.T_CMD tb) ∧
      Changes [.zh, .out] [] s t) ∧
  (∀ (w : Fin 8) (tb : Fin 4096) (s : State),
    s.WriteTaken w (Reg.T_CMD tb) 2 (crossTable s (Reg.T_CMD tb) 2) → s.fld (Fd.T_STAT_STATE tb) ≠ 0 → s.bound tb = true → 
    ∃ t, Sys2Proof.Machine.exec (.tableDelete w tb) s = .next t ∧
      WroteOk t w (Reg.T_CMD tb) ∧
      t.fld (Fd.T_STAT_ERR tb) = 3 ∧
      Changes [.zh, .out] [Reg.T_STAT tb] s t) ∧
  (∀ (w : Fin 8) (tb : Fin 4096) (s : State),
    s.WriteTaken w (Reg.T_CMD tb) 2 (crossTable s (Reg.T_CMD tb) 2) → s.fld (Fd.T_STAT_STATE tb) ≠ 0 → s.bound tb = false → 
    ∃ t, Sys2Proof.Machine.exec (.tableDelete w tb) s = .next t ∧
      WroteOk t w (Reg.T_CMD tb) ∧
      Tab.find t.tbl.tbl tb = none ∧
      t.rd (Reg.T_STAT tb) = 0 ∧
      t.rd (Reg.T_CFG tb) = s.rd (Reg.T_CFG tb) ∧
      (t.tbl.saves.all (fun j => j.table != tb.val) = true) ∧
      Only [.zh, .tbl, .regs, .out] s t) ∧
  (∀ (w : Fin 8) (tb : Fin 4096) (s : State),
    s.WriteTaken w (Reg.T_CMD tb) 4 (crossTable s (Reg.T_CMD tb) 4) → 
    ∃ t, Sys2Proof.Machine.exec (.tableSave w tb) s = .next t ∧
      WroteOk t w (Reg.T_CMD tb) ∧
      (∀ g ∈ (s.tblOf tb).dirty, t.tbl.saves.any (fun j => !j.push && j.table == tb.val && j.seg == g) = true) ∧
      t.tblOf tb = s.tblOf tb ∧
      Only [.zh, .tbl, .out] s t) ∧
  (∀ (w : Fin 8) (tb : Fin 4096) (s : State),
    s.WriteTaken w (Reg.T_CMD tb) 8 (crossTable s (Reg.T_CMD tb) 8) → s.on (Fd.T_CFG_HOT tb) = true → s.tblLive tb = true → 
    ∃ t, Sys2Proof.Machine.exec (.tableRestore w tb) s = .next t ∧
      WroteOk t w (Reg.T_CMD tb) ∧
      t.tblOf tb = { s.tblOf tb with restore := true } ∧
      Changes [.zh, .tbl, .out] [] s t) ∧
  (∀ (w : Fin 8) (tb : Fin 4096) (s : State),
    s.WriteTaken w (Reg.T_CMD tb) 8 (crossTable s (Reg.T_CMD tb) 8) → (s.on (Fd.T_CFG_HOT tb) = false ∨ s.tblLive tb = false) → 
    ∃ t, Sys2Proof.Machine.exec (.tableRestore w tb) s = .next t ∧
      WroteOk t w (Reg.T_CMD tb) ∧
      Changes [.zh, .out] [] s t) ∧
  (∀ (tb : Fin 4096) (s : State),
    (s.fld (Fd.T_STAT_STATE tb) ≠ 1 ∨ s.mainRuns = false) → 
    ∃ t, Sys2Proof.Machine.exec (.tableCreateDone tb) s = .next t ∧
      t = s) ∧
  (∀ (tb : Fin 4096) (s : State),
    s.fld (Fd.T_STAT_STATE tb) = 1 → s.mainRuns = true → ((s.tblOf tb).image.bind (fun h => s.object h 2) = none) → 
    ∃ t, Sys2Proof.Machine.exec (.tableCreateDone tb) s = .next t ∧
      t.fld (Fd.T_STAT_STATE tb) = 4 ∧ t.fld (Fd.T_STAT_ERR tb) = 5 ∧
      Changes [] [Reg.T_STAT tb] s t) ∧
  (∀ (tb : Fin 4096) (s : State) (o : StoreObj),
    s.fld (Fd.T_STAT_STATE tb) = 1 → s.mainRuns = true → ((s.tblOf tb).image.bind (fun h => s.object h 2) = some o) → 
    ∃ t, Sys2Proof.Machine.exec (.tableCreateDone tb) s = .next t ∧
      (s.sigOk o.hash (Config.imageLine o.bytes (2 ^ 32) 0) = false → t.fld (Fd.T_STAT_STATE tb) = 4 ∧ t.fld (Fd.T_STAT_ERR tb) = 5 ∧ (t.tblOf tb).rows = []) ∧
      (s.sigOk o.hash (Config.imageLine o.bytes (2 ^ 32) 0) = true → t.tblLive tb = true) ∧
      (t.tblOf tb).image = none ∧
      Only [.tbl, .regs] s t)

/-- Segments, logs and checkpoints move: a segment load ends, a save is tried again, a log commits and is written back, and a checkpoint starts
and ends. Commands: SAVE_RETRY, SEGMENT_LOAD_DONE, LOG_COMMIT, COMMIT_WRITEBACK, CHECKPOINT_START, CHECKPOINT_DONE. Formalises what R194,
R195, R196, R198, R206, R207, R213, R214, R216 say of these cases. Choices of the model that bear on its clauses: log entries 3, 17, 22, 34,
39, 60, 93, 95. -/
def Obligations.SegmentsAndLogsMove : Prop :=
  (∀ (s : State), ∃ t, Sys2Proof.Machine.exec .saveRetry s = .next t ∧
      (t.tbl.saves = s.tbl.saves.map (fun j => if j.failed.any (fun x => decide (x + sTicks 10 ≤ s.clk.now)) then { j with failed := none } else j)) ∧
      Only [.zh, .tbl, .out] s t) ∧
  (∀ (tb : Fin 4096) (seg : Fin 1048576) (s : State) (k : Nat) (rows : Tab (Tab (List Byte))),
    s.mainRuns = true → s.loadNow = some (tb.val, seg.val) → s.loadSource tb seg = some rows → Tab.find (s.tblOf tb).home seg = some k → 
    ∃ t, Sys2Proof.Machine.exec (.segmentLoadDone tb seg) s = .next t ∧
      (t.tblOf tb).loaded = (s.tblOf tb).loaded ++ [seg.val] ∧
      (t.tblOf tb).rows = rows.foldl (fun x p => x.put p.1 p.2) (dropSegRows seg (s.tblOf tb).rows) ∧
      t.rd Reg.TBL_CNT_LOAD = satCount (s.rd Reg.TBL_CNT_LOAD) 1 ∧
      (t.tblOf tb).res = (s.tblOf tb).res ∧ (t.tblOf tb).out = (s.tblOf tb).out ∧
      Only [.tbl, .zh, .out, .regs] s t) ∧
  (∀ (tb : Fin 4096) (seg : Fin 1048576) (s : State),
    s.mainRuns = true → s.loadNow = some (tb.val, seg.val) → Tab.find (s.tblOf tb).home seg = none → s.place tb seg = none → 
    ∃ t, Sys2Proof.Machine.exec (.segmentLoadDone tb seg) s = .next t ∧
      t.on Fd.TBL_EVT_SPACE = true ∧
      t.tbl = s.tbl ∧
      Only [.regs, .firn] s t) ∧
  (∀ (tb : Fin 4096) (seg : Fin 1048576) (s : State),
    (s.mainRuns = false ∨ s.loadNow ≠ some (tb.val, seg.val)) → 
    ∃ t, Sys2Proof.Machine.exec (.segmentLoadDone tb seg) s = .next t ∧
      t = s) ∧
  (∀ (s : State),
    s.edgeToCome = true → s.edge.clk.sidx.toNat % 100 = 90 → 
    ∃ t, Sys2Proof.Machine.exec .logCommit s = .next t ∧
      t = s.edgeAll.beginTick ∧
      t.clk.begun = t.sys.seracUp) ∧
  (∀ (s : State),
    (s.edgeToCome = false ∨ s.edge.clk.sidx.toNat % 100 ≠ 90) → 
    ∃ t, Sys2Proof.Machine.exec .logCommit s = .next t ∧
      t = s) ∧
  (∀ (s : State) (l : UpdLog),
    s.clk.sidx.toNat % 100 = 90 → s.mainRuns = true → (s.tbl.logs.filter (fun x => decide (x.frame + 1 ≤ s.frameNo)) = [l]) → s.ice.batches = [] → 
    ∃ t, t = s.commitNow ∧
      (t.tbl.logs = s.tbl.logs.filter (fun x => !decide (x.frame + 1 ≤ s.frameNo))) ∧
      t.tbl.commit = some ⟨l.frame, (s.commitLog l).1, (s.commitLog l).2.2⟩ ∧
      t.rd Reg.TBL_CNT_NRDROP = satCount (s.rd Reg.TBL_CNT_NRDROP) (s.commitLog l).2.1 ∧
      t.fld Fd.TBL_LOG_USE_LINES = l.lines % 2 ^ Fd.TBL_LOG_USE_LINES.width ∧
      Changes [.tbl] [Reg.TBL_CNT_NRDROP, Reg.TBL_LOG_USE, Reg.TBL_LOG_MAX] s t) ∧
  (∀ (s : State) (c : Nat) (b : KBatch),
    s.clk.sidx.toNat % 100 = 90 → s.mainRuns = true → s.ice.batches = [(c, b)] → b.frame + 1 ≤ s.frameNo → b.out.upds ≠ [] → s.tbl.logs = [] → 
    ∃ t, t = s.commitNow ∧
      Tab.find t.ice.batches c = some { b with out := { b.out with upds := [] } } ∧
      t.ice.logNow.disc = s.ice.logNow.disc ++ [(c, b.start)] ∧
      t.rd Reg.TBL_CNT_DISC = satCount (s.rd Reg.TBL_CNT_DISC) 1 ∧
      t.on Fd.TBL_EVT_COMMIT_DISC = true) ∧
  (∀ (s : State),
    s.tbl.wback = true → (s.ice.batches.any (fun b => decide (b.2.frame < s.frameNo)) = false) → 
    ∃ t, Sys2Proof.Machine.exec .commitWriteback s = .next t ∧
      t.tbl = { s.tbl with wback := false } ∧
      t.on Fd.TBL_STAT_COMMIT_LAG = false ∧
      Changes [.tbl] [Reg.TBL_STAT] s t) ∧
  (∀ (s : State),
    (s.tbl.wback = false ∨ s.ice.batches.any (fun b => decide (b.2.frame < s.frameNo)) = true) → 
    ∃ t, Sys2Proof.Machine.exec .commitWriteback s = .next t ∧
      t = s) ∧
  (∀ (s : State),
    s.on Fd.TBL_CTRL_CKPT_EN = true → s.mainRuns = true → s.tbl.sweep = none → s.tbl.ckptFrom + sTicks (s.fld Fd.TBL_CKPT_CFG_PERIOD) ≤ s.clk.now → 
    ∃ t, Sys2Proof.Machine.exec .checkpointStart s = .next t ∧
      t.tbl = { s.tbl with sweep := some s.hotCopy } ∧
      t.on Fd.TBL_STAT_CKPT_RUN = true ∧ t.fld Fd.TBL_CKPT_STAT_STATE = 1 ∧
      Changes [.tbl] [Reg.TBL_STAT, Reg.TBL_CKPT_STAT] s t) ∧
  (∀ (s : State),
    (s.on Fd.TBL_CTRL_CKPT_EN = false ∨ s.mainRuns = false ∨ s.tbl.sweep.isSome = true ∨ s.clk.now < s.tbl.ckptFrom + sTicks (s.fld Fd.TBL_CKPT_CFG_PERIOD)) → 
    ∃ t, Sys2Proof.Machine.exec .checkpointStart s = .next t ∧
      t = s) ∧
  (∀ (s : State) (c : Ckpt),
    s.tbl.sweep = some c → s.mainRuns = true → 
    ∃ t, Sys2Proof.Machine.exec .checkpointDone s = .next t ∧
      t.tbl.ckpt = some c ∧ t.tbl.sweep = none ∧ t.tbl.ckptFrom = s.clk.now ∧
      (t.tbl.saves = s.tbl.saves.filter (fun j => !j.push) ++ (if s.fld Fd.PAI_STAT_ROLE = 2 then [] else s.pushJobs c)) ∧
      (t.fld Fd.TBL_CKPT_STAT_STATE = (if s.fld Fd.PAI_STAT_ROLE = 2 ∨ s.pushJobs c = [] then 0 else 2) ∧ t.on Fd.TBL_STAT_CKPT_RUN = false) ∧
      t.rd Reg.TBL_CKPT_FRM_LO = BitVec.ofNat 32 c.frame ∧ t.rd Reg.TBL_CKPT_FRM_HI = BitVec.ofNat 32 (c.frame / 2 ^ 32) ∧
      t.on Fd.TBL_EVT_CKPT_DONE = true ∧
      Changes [.tbl, .zh, .out, .firn] [Reg.TBL_STAT, Reg.TBL_CKPT_STAT, Reg.TBL_CKPT_FRM_LO, Reg.TBL_CKPT_FRM_HI, Reg.TBL_EVT, Reg.TBL_EVT_SEQ] s t) ∧
  (∀ (s : State),
    (s.tbl.sweep = none ∨ s.mainRuns = false) → 
    ∃ t, Sys2Proof.Machine.exec .checkpointDone s = .next t ∧
      t = s)

/-- Job sets and ceilings are commanded: job sets are cleared and changed, and ceilings are set and cleared by register and by command.
Commands: JOB_SET_CLEAR, JOB_SET_ADD, JOB_SET_REMOVE, CEILING_COMMIT, CEILING_CLEAR_WRITE, CEIL_SET, CEIL_CLEAR. Formalises what R232, R425,
R426 say of these cases. Choices of the model that bear on its clauses: log entries 27, 49, 90. -/
def Obligations.JobsAndCeilingsAreCommanded : Prop :=
  (∀ (q : Req) (job : Byte) (s : State) (k : Nat) (u : State),
    s.Reaches q k u → (judgeJobSet job.toNat 0 [] k u).first q u = none → 
    ∃ t, Sys2Proof.Machine.exec (.jobSetClear q job) s = .next t ∧
      (AnsweredOk t q 0x52 [(t.nextMembers.filter (fun p => p.2 == job.toNat)).length]) ∧
      t.plan = { s.plan with jobSets := s.plan.jobSets ++ [(job.toNat, 0, [])] } ∧
      Changes [.zh, .plan, .out] [Reg.SS_MBOX k, Reg.PORT_CNT_RX q.port] s t) ∧
  (∀ (q : Req) (job : Byte) (idx : List (BitVec 16)) (s : State) (k : Nat) (u : State),
    s.Reaches q k u → ((judgeJobSet job.toNat 1 (idx.map (fun x => x.toNat)) k u).first q u = none) → 
    ∃ t, Sys2Proof.Machine.exec (.jobSetAdd q job idx) s = .next t ∧
      (AnsweredOk t q 0x52 [(t.nextMembers.filter (fun p => p.2 == job.toNat)).length]) ∧
      (t.plan = { s.plan with jobSets := s.plan.jobSets ++ [(job.toNat, 1, idx.map (fun x => x.toNat))] }) ∧
      Changes [.zh, .plan, .out] [Reg.SS_MBOX k, Reg.PORT_CNT_RX q.port] s t) ∧
  (∀ (q : Req) (job : Byte) (idx : List (BitVec 16)) (s : State) (k : Nat) (u : State),
    s.Reaches q k u → ((judgeJobSet job.toNat 2 (idx.map (fun x => x.toNat)) k u).first q u = none) → 
    ∃ t, Sys2Proof.Machine.exec (.jobSetRemove q job idx) s = .next t ∧
      (AnsweredOk t q 0x52 [(t.nextMembers.filter (fun p => p.2 == job.toNat)).length]) ∧
      (t.plan = { s.plan with jobSets := s.plan.jobSets ++ [(job.toNat, 2, idx.map (fun x => x.toNat))] }) ∧
      Changes [.zh, .plan, .out] [Reg.SS_MBOX k, Reg.PORT_CNT_RX q.port] s t) ∧
  (∀ (w : Fin 8) (c : Fin 1024) (value : Word) (s : State),
    s.WriteTaken w (Reg.CL_CTRL c) (value ||| 0x80000000) (crossPlan s (Reg.CL_CTRL c) (value ||| 0x80000000)) → 
    ∃ t, Sys2Proof.Machine.exec (.ceilingCommit w c value) s = .next t ∧
      WroteOk t w (Reg.CL_CTRL c) ∧
      t.rd (Reg.CL_CTRL c) = (value ||| 0x80000000) &&& 0x8000FFFF ∧
      t.rd (Reg.CL_SETTER c) = BitVec.ofNat 32 (s.fld (Fd.SS_STAT_MASTER w)) ∧
      t.rd (Reg.CL_SEQ c) = BitVec.ofNat 32 (s.plan.clSeq + 1) ∧ t.plan = { s.plan with clSeq := s.plan.clSeq + 1, clVal := s.plan.clVal.put c (s.rd (Reg.CL_VAL c)).toNat } ∧
      t.rd (Reg.CL_TIME_LO c) = s.clk.mtime.setWidth 32 ∧ t.rd (Reg.CL_TIME_HI c) = (s.clk.mtime >>> 32).setWidth 32 ∧
      t.on Fd.PLN_EVT_CEIL_SET = true ∧
      Changes [.zh, .plan, .firn, .out] [Reg.CL_CTRL c, Reg.CL_SETTER c, Reg.CL_SEQ c, Reg.CL_TIME_LO c, Reg.CL_TIME_HI c, Reg.PLN_CEIL_USED, Reg.PLN_EVT, Reg.PLN_EVT_SEQ] s t) ∧
  (∀ (w : Fin 8) (c : Fin 1024) (value : Word) (s : State),
    s.WriteTaken w (Reg.CL_CTRL c) (value &&& 0x7FFFFFFF) (crossPlan s (Reg.CL_CTRL c) (value &&& 0x7FFFFFFF)) → s.on (Fd.CL_CTRL_VALID c) = true → 
    ∃ t, Sys2Proof.Machine.exec (.ceilingClearWrite w c value) s = .next t ∧
      WroteOk t w (Reg.CL_CTRL c) ∧
      t.rd (Reg.CL_CTRL c) = value &&& 0x7FFFFFFF &&& 0xFFFF ∧
      t.on Fd.PLN_EVT_CEIL_CLR = true ∧
      Changes [.zh, .firn, .out] [Reg.CL_CTRL c, Reg.PLN_CEIL_USED, Reg.PLN_EVT, Reg.PLN_EVT_SEQ] s t) ∧
  (∀ (w : Fin 8) (c : Fin 1024) (value : Word) (s : State),
    s.WriteTaken w (Reg.CL_CTRL c) (value &&& 0x7FFFFFFF) (crossPlan s (Reg.CL_CTRL c) (value &&& 0x7FFFFFFF)) → s.on (Fd.CL_CTRL_VALID c) = false → 
    ∃ t, Sys2Proof.Machine.exec (.ceilingClearWrite w c value) s = .next t ∧
      WroteOk t w (Reg.CL_CTRL c) ∧
      t.rd (Reg.CL_CTRL c) = value &&& 0x7FFFFFFF &&& 0xFFFF ∧
      Changes [.zh, .out] [Reg.CL_CTRL c] s t) ∧
  (∀ (q : Req) (entry : BitVec 16) (scope form : Byte) (index : BitVec 16) (value : Word) (s : State) (k : Nat) (u : State),
    s.Reaches q k u → (judgeCeilSet entry.toNat scope.toNat form.toNat index.toNat value k u).first q u = none → entry ≠ 0xFFFF → 
    ∃ t, Sys2Proof.Machine.exec (.ceilSet q entry scope form index value) s = .next t ∧
      AnsweredOk t q 0x60 [entry.toNat, (t.rd (Reg.CL_SEQ entry.toNat)).toNat] ∧
      t.rd (Reg.CL_VAL entry.toNat) = value ∧ Tab.find t.plan.clVal entry.toNat = some value.toNat ∧
      t.on (Fd.CL_CTRL_VALID entry.toNat) = true ∧ t.fld (Fd.CL_CTRL_SCOPE entry.toNat) = scope.toNat ∧ t.fld (Fd.CL_CTRL_INDEX entry.toNat) = index.toNat ∧
      t.on Fd.PLN_EVT_CEIL_SET = true ∧
      Changes [.zh, .plan, .firn, .out] [Reg.SS_MBOX k, Reg.CL_VAL entry.toNat, Reg.CL_CTRL entry.toNat, Reg.CL_SETTER entry.toNat, Reg.CL_SEQ entry.toNat, Reg.CL_TIME_LO entry.toNat, Reg.CL_TIME_HI entry.toNat, Reg.PLN_CEIL_USED, Reg.PLN_EVT, Reg.PLN_EVT_SEQ, Reg.PORT_CNT_RX q.port] s t) ∧
  (∀ (q : Req) (entry : BitVec 16) (scope form : Byte) (index : BitVec 16) (value : Word) (s : State) (k : Nat) (u : State) (e : Nat),
    s.Reaches q k u → (judgeCeilSet entry.toNat scope.toNat form.toNat index.toNat value k u).first q u = none → entry = 0xFFFF → s.freeCeiling = some e → 
    ∃ t, Sys2Proof.Machine.exec (.ceilSet q entry scope form index value) s = .next t ∧
      AnsweredOk t q 0x60 [e, (t.rd (Reg.CL_SEQ e)).toNat] ∧
      t.rd (Reg.CL_VAL e) = value ∧ Tab.find t.plan.clVal e = some value.toNat ∧
      t.on (Fd.CL_CTRL_VALID e) = true ∧ t.fld (Fd.CL_CTRL_SCOPE e) = scope.toNat ∧ t.fld (Fd.CL_CTRL_INDEX e) = index.toNat ∧
      Changes [.zh, .plan, .firn, .out] [Reg.SS_MBOX k, Reg.CL_VAL e, Reg.CL_CTRL e, Reg.CL_SETTER e, Reg.CL_SEQ e, Reg.CL_TIME_LO e, Reg.CL_TIME_HI e, Reg.PLN_CEIL_USED, Reg.PLN_EVT, Reg.PLN_EVT_SEQ, Reg.PORT_CNT_RX q.port] s t) ∧
  (∀ (q : Req) (entry : BitVec 16) (s : State) (k : Nat) (u : State),
    s.Reaches q k u → (judgeCeilClear entry.toNat k u).first q u = none → entry = 0xFFFF → 
    ∃ t, Sys2Proof.Machine.exec (.ceilClear q entry) s = .next t ∧
      AnsweredOk t q 0x61 [s.ceilings.length] ∧
      (∀ e, e < 1024 → t.on (Fd.CL_CTRL_VALID e) = false)) ∧
  (∀ (q : Req) (entry : BitVec 16) (s : State) (k : Nat) (u : State),
    s.Reaches q k u → (judgeCeilClear entry.toNat k u).first q u = none → entry ≠ 0xFFFF → s.on (Fd.CL_CTRL_VALID entry.toNat) = false → 
    ∃ t, Sys2Proof.Machine.exec (.ceilClear q entry) s = .next t ∧
      AnsweredOk t q 0x61 [0] ∧
      Changes [.zh, .out] [Reg.SS_MBOX k, Reg.PORT_CNT_RX q.port] s t) ∧
  (∀ (q : Req) (entry : BitVec 16) (s : State) (k : Nat) (u : State),
    s.Reaches q k u → (judgeCeilClear entry.toNat k u).first q u = none → entry ≠ 0xFFFF → s.on (Fd.CL_CTRL_VALID entry.toNat) = true → 
    ∃ t, Sys2Proof.Machine.exec (.ceilClear q entry) s = .next t ∧
      AnsweredOk t q 0x61 [1] ∧
      t.on (Fd.CL_CTRL_VALID entry.toNat) = false ∧
      t.on Fd.PLN_EVT_CEIL_CLR = true ∧
      Changes [.zh, .firn, .out] [Reg.SS_MBOX k, Reg.CL_CTRL entry.toNat, Reg.PLN_CEIL_USED, Reg.PLN_EVT, Reg.PLN_EVT_SEQ, Reg.PORT_CNT_RX q.port] s t)

/-- The plan is computed and its frames are sent: the planner computes, change and refresh frames go out, staged changes are staged and
withdrawn, protective frames and caps are built, and acknowledgements are counted. Commands: PLANNER_COMPUTE, CHANGE_FRAME_EMIT,
REFRESH_FRAME_EMIT, STAGED_CHANGE_STAGE, STAGED_CHANGE_WITHDRAW, PROT_FRAME_REBUILD, PROTECTIVE_CAP_SIGNAL, PLAN_ACK, PLAN_NOACK. Formalises
what R29, R235, R247, R250, R253, R254, R259, R260, R262, R510 say of these cases. Choices of the model that bear on its clauses: log
entries 10, 11, 22, 46, 49, 82, 86. -/
def Obligations.ThePlanIsComputedAndSent : Prop :=
  (∀ (s : State),
    s.mainRuns = true → s.on Fd.PLN_CTRL_EN = true → s.clk.sidx.toNat % 100 = 85 → s.plan.doneAt ≠ some s.clk.now → 
    ∃ t, Sys2Proof.Machine.exec .plannerCompute s = .next t ∧
      t.plan.jobOf = s.nextMembers ∧ t.plan.jobSets = [] ∧ t.plan.fired = [] ∧
      t.plan.doneAt = some s.clk.now ∧ t.plan.lead = s.fld Fd.PLN_TIMING_LEAD * 100000 ∧ t.plan.life = s.fld Fd.PLN_EXPIRY_MS * 1000000 ∧ t.plan.every = s.fld Fd.PLN_TIMING_REFRESH ∧
      t.plan.pc = s.settlePlan.planCaps ∧ t.plan.entries = s.settlePlan.planEntries ∧
      t.plan.frames = s.settlePlan.changeFrames s.plan.entries t.plan.entries (changedAccs s.plan.entries t.plan.entries) ∧
      t.on Fd.PLN_STAT_RUN = s.sendsPlan ∧
      Only [.plan, .sys, .regs, .firn] s t) ∧
  (∀ (s : State),
    (s.mainRuns = false ∨ s.on Fd.PLN_CTRL_EN = false ∨ s.clk.sidx.toNat % 100 ≠ 85 ∨ s.plan.doneAt = some s.clk.now) → 
    ∃ t, Sys2Proof.Machine.exec .plannerCompute s = .next t ∧
      t = s) ∧
  (∀ (s : State),
    s.mainRuns = true → s.on Fd.PLN_CTRL_EN = true → s.clk.sidx.toNat % 100 = 95 → 
    ∃ t, Sys2Proof.Machine.exec .changeFrameEmit s = .next t ∧
      t.plan.frames = [] ∧ t.plan.entries = s.plan.entries ∧
      (s.sendsPlan = true → (∀ f ∈ s.plan.frames, ∀ e ∈ f.entries, (t.planAck e.acc).owed ≠ [])) ∧
      Changes [.plan, .fed, .out] [Reg.PLN_PSEQ] s t) ∧
  (∀ (s : State) (r : Nat) (d : Nat) (e : PlanEntry),
    s.mainRuns = true → s.on Fd.PLN_CTRL_EN = true → s.clk.sidx.toNat % 100 = 95 → s.plan.frames = [⟨r, false, d, [e]⟩] → r < 48 → Tab.at 0 s.plan.clamp r = 0 → s.sendsPlan = true → 
    ∃ t, Sys2Proof.Machine.exec .changeFrameEmit s = .next t ∧
      t.rd Reg.PLN_PSEQ = s.rd Reg.PLN_PSEQ + 1 ∧
      (t.out = [1, 0].map (fun n => Out.frame .plan (n :: ((s.rd Reg.NET_PGRP4).toNat + r) :: (PlanCopy.bytes { level := s.fld Fd.PAI_PLVL_RUN, module := s.sys.straps.moduleId.val, rack := r, prot := false, full := false, pseq := (s.rd Reg.PLN_PSEQ + 1).toNat, effective := s.clk.mtime.toNat + s.plan.lead + d * 1000, expiry := s.clk.mtime.toNat + s.plan.lead + d * 1000 + s.plan.life, issue := s.clk.mtime.toNat, entries := [e] } n).map BitVec.toNat)) ++ s.out) ∧
      (t.planAck e.acc).owed = ⟨s.rd Reg.PLN_PSEQ + 1, BitVec.ofNat 64 (s.clk.mtime.toNat + s.plan.lead + d * 1000), false⟩ :: (s.planAck e.acc).owed ∧
      Changes [.plan, .out] [Reg.PLN_PSEQ] s t) ∧
  (∀ (s : State),
    (s.mainRuns = false ∨ s.on Fd.PLN_CTRL_EN = false ∨ s.clk.sidx.toNat % 100 ≠ 95) → 
    ∃ t, Sys2Proof.Machine.exec .changeFrameEmit s = .next t ∧
      t = s) ∧
  (∀ (rack : Fin 48) (s : State),
    s.mainRuns = true → s.on Fd.PLN_CTRL_EN = true → s.clk.sidx.toNat % 100 = 95 → s.refreshDue rack = true → Tab.find s.plan.refresh rack ≠ some s.clk.now → s.groupsOf rack = [rack.val] → s.sendsPlan = true → 
    ∃ t, Sys2Proof.Machine.exec (.refreshFrameEmit rack) s = .next t ∧
      t.plan.refresh = s.plan.refresh.put rack s.clk.now ∧
      t.rd Reg.PLN_PSEQ = s.rd Reg.PLN_PSEQ + 1 ∧
      (t.out = [1, 0].map (fun n => Out.frame .plan (n :: ((s.rd Reg.NET_PGRP4).toNat + rack.val) :: (PlanCopy.bytes { level := s.fld Fd.PAI_PLVL_RUN, module := s.sys.straps.moduleId.val, rack := rack, prot := Tab.at 0 s.plan.clamp rack != 0, full := true, pseq := (s.rd Reg.PLN_PSEQ + 1).toNat, effective := s.clk.mtime.toNat + s.plan.lead, expiry := s.clk.mtime.toNat + s.plan.lead + s.plan.life, issue := s.clk.mtime.toNat, entries := ((s.plan.entries.filter (fun p => s.groupOf p.1 == some rack.val)).map (fun p => s.clampEntry (Tab.at 0 s.plan.clamp rack) p.2)) } n).map BitVec.toNat)) ++ s.out) ∧
      Changes [.plan, .out] [Reg.PLN_PSEQ] s t) ∧
  (∀ (rack : Fin 48) (s : State),
    (s.mainRuns = false ∨ s.on Fd.PLN_CTRL_EN = false ∨ s.clk.sidx.toNat % 100 ≠ 95 ∨ s.refreshDue rack = false ∨ Tab.find s.plan.refresh rack = some s.clk.now) → 
    ∃ t, Sys2Proof.Machine.exec (.refreshFrameEmit rack) s = .next t ∧
      t = s) ∧
  (∀ (w : Fin 8) (h : Fin 256) (value : Word) (s : State),
    s.WriteTaken w (Reg.STG_CTRL h) (value ||| 0x80000000) (crossPlan s (Reg.STG_CTRL h) (value ||| 0x80000000)) → 
    ∃ t, Sys2Proof.Machine.exec (.stagedChangeStage w h value) s = .next t ∧
      t.rd (Reg.STG_CTRL h) = (value ||| 0x80000000) &&& 0x80F7FFF7 ∧
      t.fld (Fd.STG_STAT_STATE h) = 1 ∧
      t.on (Fd.STG_STAT_CAPPED h) = (t.cappedBy (t.stagedTargets h)).isSome ∧
      (t.cappedBy (t.stagedTargets h)) = none → WroteOk t w (Reg.STG_CTRL h) ∧
      (t.plan.fired = s.plan.fired.map (fun f => { f with after := Reg.STG_CTRL h :: f.after })) ∧
      Changes [.zh, .plan, .firn, .out] [Reg.STG_CTRL h, Reg.STG_STAT h, Reg.PLN_CNT_CAPPED, Reg.PLN_EVT, Reg.PLN_EVT_SEQ] s t) ∧
  (∀ (w : Fin 8) (h : Fin 256) (value : Word) (s : State),
    s.WriteTaken w (Reg.STG_CTRL h) (value &&& 0x7FFFFFFF) (crossPlan s (Reg.STG_CTRL h) (value &&& 0x7FFFFFFF)) → 
    ∃ t, Sys2Proof.Machine.exec (.stagedChangeWithdraw w h value) s = .next t ∧
      WroteOk t w (Reg.STG_CTRL h) ∧
      t.rd (Reg.STG_CTRL h) = value &&& 0x7FFFFFFF &&& 0x80F7FFF7 ∧
      t.rd (Reg.STG_STAT h) = 0 ∧
      (t.plan = { s.plan with built := s.plan.built.del h, fired := s.plan.fired.map (fun f => { f with after := Reg.STG_CTRL h :: f.after }) }) ∧
      Changes [.zh, .plan, .out] [Reg.STG_CTRL h, Reg.STG_STAT h] s t) ∧
  (∀ (rack : Fin 48) (s : State),
    s.mainAbsent = false → 
    ∃ t, Sys2Proof.Machine.exec (.protFrameRebuild rack) s = .next t ∧
      t = { s with plan := { s.plan with prebuilt := s.plan.prebuilt.put rack ((s.rackAccs rack).map (s.protEntry 1), (s.rackAccs rack).map (s.protEntry 2)) } }) ∧
  (∀ (rack : Fin 48) (s : State),
    s.mainAbsent = true → 
    ∃ t, Sys2Proof.Machine.exec (.protFrameRebuild rack) s = .next t ∧
      t = s) ∧
  (∀ (rack : Fin 48) (s : State),
    (s.rackCap rack = Tab.at 0 s.plan.clamp rack ∨ s.portAbsent = true) → 
    ∃ t, Sys2Proof.Machine.exec (.protectiveCapSignal rack) s = .next t ∧
      t = s) ∧
  (∀ (rack : Fin 48) (s : State),
    s.rackCap rack = 0 → Tab.at 0 s.plan.clamp rack ≠ 0 → s.portAbsent = false → 
    ∃ t, Sys2Proof.Machine.exec (.protectiveCapSignal rack) s = .next t ∧
      t.plan = { s.plan with clamp := s.plan.clamp.put rack 0 } ∧
      t.fld (Fd.RK_STAT_PROT rack) = 0 ∧ t.on (Fd.RK_STAT_CONFIRM rack) = false ∧
      t.on Fd.PLN_EVT_PROT = true ∧
      Changes [.plan, .firn] [Reg.RK_STAT rack, Reg.PLN_EVT, Reg.PLN_EVT_SEQ] s t) ∧
  (∀ (rack : Fin 48) (s : State),
    s.rackCap rack ≠ Tab.at 0 s.plan.clamp rack → s.portAbsent = false → 
    ∃ t, Sys2Proof.Machine.exec (.protectiveCapSignal rack) s = .next t ∧
      Tab.at 0 t.plan.clamp rack = s.rackCap rack ∧
      t.fld (Fd.RK_STAT_PROT rack) = s.rackCap rack ∧ t.on (Fd.RK_STAT_CONFIRM rack) = false ∧
      t.on Fd.PLN_EVT_PROT = true ∧
      (s.rackCap rack ≠ 0 → Tab.find t.plan.clampSeq rack = some (t.rd Reg.PLN_PSEQ)) ∧
      Changes [.plan, .firn, .out] [Reg.RK_STAT rack, Reg.PLN_PSEQ, Reg.PLN_EVT, Reg.PLN_EVT_SEQ] s t) ∧
  (∀ (c : Came) (udp : BitVec 16) (bytes : List Byte) (ns : Fin 10000) (s : State) (a : Nat),
    s.portTakes Fd.PORT_CFG_PLAN c.port c.src c.row = true → (s.countRx c.port).quarEntry c.src = none → bytes.length = 36 ∧ beAt bytes 0 2 = 0xF1AA → s.fld Fd.STM_LVL_MIN ≤ beAt bytes 2 1 ∧ beAt bytes 2 1 ≤ s.fld Fd.STM_LVL_MAX → crc32 (bytes.take 32) = beAt bytes 32 4 → s.localOf (beAt bytes 4 4 % 2 ^ 18) = some a → ((s.planAck a).aseq.all (fun x => decide (0 < diff32 (BitVec.ofNat 32 (beAt bytes 8 4)) x)) = true) → beAt bytes 3 1 / 2 % 2 = 0 → 
    ∃ t, Sys2Proof.Machine.exec (.planAck ⟨c, udp⟩ bytes ns) s = .next t ∧
      (t.planAck a = ⟨some (BitVec.ofNat 32 (beAt bytes 8 4)), BitVec.ofNat 32 (beAt bytes 12 4), beAt bytes 30 2, false, (s.planAck a).owed.filter (fun o => !o.covered (BitVec.ofNat 32 (beAt bytes 12 4)))⟩) ∧
      t.on (Fd.ACC_STAT_FALLBACK a) = false ∧
      (t.on (Fd.ACC_STAT_ACKED a) = (s.on (Fd.ACC_STAT_ACKED a) || (s.planAck a).owed.head?.any (fun o => o.covered (BitVec.ofNat 32 (beAt bytes 12 4)) && o.inTime (s.arrival ns)))) ∧
      Changes [.plan, .firn] ([Reg.PORT_CNT_RX c.port, Reg.ACC_STAT a, Reg.PLN_CNT_OVER, Reg.PLN_EVT, Reg.PLN_EVT_SEQ] ++ (s.rackOf a).toList.map Reg.RK_STAT) s t) ∧
  (∀ (c : Came) (udp : BitVec 16) (bytes : List Byte) (ns : Fin 10000) (s : State) (a : Nat),
    s.portTakes Fd.PORT_CFG_PLAN c.port c.src c.row = true → (s.countRx c.port).quarEntry c.src = none → bytes.length = 36 ∧ beAt bytes 0 2 = 0xF1AA → s.fld Fd.STM_LVL_MIN ≤ beAt bytes 2 1 ∧ beAt bytes 2 1 ≤ s.fld Fd.STM_LVL_MAX → crc32 (bytes.take 32) = beAt bytes 32 4 → s.localOf (beAt bytes 4 4 % 2 ^ 18) = some a → ((s.planAck a).aseq.all (fun x => decide (0 < diff32 (BitVec.ofNat 32 (beAt bytes 8 4)) x)) = true) → beAt bytes 3 1 / 2 % 2 = 1 → 
    ∃ t, Sys2Proof.Machine.exec (.planAck ⟨c, udp⟩ bytes ns) s = .next t ∧
      t.planAck a = { s.planAck a with aseq := some (BitVec.ofNat 32 (beAt bytes 8 4)), pseq := BitVec.ofNat 32 (beAt bytes 12 4), power := beAt bytes 30 2, fell := true } ∧
      t.on (Fd.ACC_STAT_FALLBACK a) = true ∧ t.on (Fd.ACC_STAT_ACKED a) = s.on (Fd.ACC_STAT_ACKED a) ∧
      (s.on (Fd.ACC_STAT_FALLBACK a) = false → t.on Fd.PLN_EVT_FALLBACK = true) ∧
      Changes [.plan, .firn] ([Reg.PORT_CNT_RX c.port, Reg.ACC_STAT a, Reg.PLN_CNT_OVER, Reg.PLN_EVT, Reg.PLN_EVT_SEQ] ++ (s.rackOf a).toList.map Reg.RK_STAT) s t) ∧
  (∀ (c : Came) (udp : BitVec 16) (bytes : List Byte) (ns : Fin 10000) (s : State) (a : Nat) (x : BitVec 32),
    s.portTakes Fd.PORT_CFG_PLAN c.port c.src c.row = true → (s.countRx c.port).quarEntry c.src = none → bytes.length = 36 ∧ beAt bytes 0 2 = 0xF1AA → s.fld Fd.STM_LVL_MIN ≤ beAt bytes 2 1 ∧ beAt bytes 2 1 ≤ s.fld Fd.STM_LVL_MAX → crc32 (bytes.take 32) = beAt bytes 32 4 → s.localOf (beAt bytes 4 4 % 2 ^ 18) = some a → (s.planAck a).aseq = some x → diff32 (BitVec.ofNat 32 (beAt bytes 8 4)) x ≤ 0 → 
    ∃ t, Sys2Proof.Machine.exec (.planAck ⟨c, udp⟩ bytes ns) s = .next t ∧
      t.rd Reg.PLN_CNT_ACKDROP = satCount (s.rd Reg.PLN_CNT_ACKDROP) 1 ∧
      Changes [] [Reg.PORT_CNT_RX c.port, Reg.PLN_CNT_ACKDROP] s t) ∧
  (∀ (c : Came) (udp : BitVec 16) (bytes : List Byte) (ns : Fin 10000) (s : State),
    s.portTakes Fd.PORT_CFG_PLAN c.port c.src c.row = true → (s.countRx c.port).quarEntry c.src = none → 36 ≤ bytes.length ∧ beAt bytes 0 2 = 0xF1AA → s.fld Fd.STM_LVL_MIN ≤ beAt bytes 2 1 ∧ beAt bytes 2 1 ≤ s.fld Fd.STM_LVL_MAX → crc32 (bytes.take 32) ≠ beAt bytes 32 4 → 
    ∃ t, Sys2Proof.Machine.exec (.planAck ⟨c, udp⟩ bytes ns) s = .next t ∧
      t.plan = s.plan ∧
      t = (s.countRx c.port).ackViolation ⟨c.src, udp, portNet c.port⟩ 2 bytes) ∧
  (∀ (c : Came) (udp : BitVec 16) (bytes : List Byte) (ns : Fin 10000) (s : State),
    s.portTakes Fd.PORT_CFG_PLAN c.port c.src c.row = true → (s.countRx c.port).quarEntry c.src = none → 36 ≤ bytes.length ∧ beAt bytes 0 2 = 0xF1AA → (beAt bytes 2 1 < s.fld Fd.STM_LVL_MIN ∨ s.fld Fd.STM_LVL_MAX < beAt bytes 2 1) → 
    ∃ t, Sys2Proof.Machine.exec (.planAck ⟨c, udp⟩ bytes ns) s = .next t ∧
      t.plan = s.plan ∧
      t = (s.countRx c.port).ackViolation ⟨c.src, udp, portNet c.port⟩ 1 bytes) ∧
  (∀ (c : Came) (udp : BitVec 16) (bytes : List Byte) (ns : Fin 10000) (s : State),
    s.portTakes Fd.PORT_CFG_PLAN c.port c.src c.row = true → (s.countRx c.port).quarEntry c.src = none → 36 < bytes.length ∧ beAt bytes 0 2 = 0xF1AA → s.fld Fd.STM_LVL_MIN ≤ beAt bytes 2 1 ∧ beAt bytes 2 1 ≤ s.fld Fd.STM_LVL_MAX → crc32 (bytes.take 32) = beAt bytes 32 4 → 
    ∃ t, Sys2Proof.Machine.exec (.planAck ⟨c, udp⟩ bytes ns) s = .next t ∧
      t.plan = s.plan ∧
      t = (s.countRx c.port).ackViolation ⟨c.src, udp, portNet c.port⟩ 3 bytes) ∧
  (∀ (c : Came) (udp : BitVec 16) (bytes : List Byte) (ns : Fin 10000) (s : State),
    s.portTakes Fd.PORT_CFG_PLAN c.port c.src c.row = true → (s.countRx c.port).quarEntry c.src = none → bytes.length = 36 ∧ beAt bytes 0 2 = 0xF1AA → s.fld Fd.STM_LVL_MIN ≤ beAt bytes 2 1 ∧ beAt bytes 2 1 ≤ s.fld Fd.STM_LVL_MAX → crc32 (bytes.take 32) = beAt bytes 32 4 → s.localOf (beAt bytes 4 4 % 2 ^ 18) = none → 
    ∃ t, Sys2Proof.Machine.exec (.planAck ⟨c, udp⟩ bytes ns) s = .next t ∧
      t.plan = s.plan ∧
      t = (s.countRx c.port).ackViolation ⟨c.src, udp, portNet c.port⟩ 5 bytes) ∧
  (∀ (c : Came) (udp : BitVec 16) (bytes : List Byte) (ns : Fin 10000) (s : State),
    s.portTakes Fd.PORT_CFG_PLAN c.port c.src c.row = true → (s.countRx c.port).quarEntry c.src = none → (bytes.length < 36 ∨ beAt bytes 0 2 ≠ 0xF1AA) → 
    ∃ t, Sys2Proof.Machine.exec (.planAck ⟨c, udp⟩ bytes ns) s = .next t ∧
      Changes [] [Reg.PORT_CNT_RX c.port] s t) ∧
  (∀ (c : Came) (udp : BitVec 16) (bytes : List Byte) (ns : Fin 10000) (s : State),
    s.portTakes Fd.PORT_CFG_PLAN c.port c.src c.row = false → 
    ∃ t, Sys2Proof.Machine.exec (.planAck ⟨c, udp⟩ bytes ns) s = .next t ∧
      t = s) ∧
  (∀ (acc : Fin 4096) (s : State),
    ((s.planAck acc).owed.filter s.overdue).length ≠ 0 → 
    ∃ t, Sys2Proof.Machine.exec (.planNoack acc) s = .next t ∧
      t.planAck acc = { s.planAck acc with owed := s.toldOwed (s.planAck acc).owed } ∧
      t.on (Fd.ACC_STAT_ACKED acc) = false ∧
      t.rd Reg.PLN_CNT_NOACK = satCount (s.rd Reg.PLN_CNT_NOACK) ((s.planAck acc).owed.filter s.overdue).length ∧
      t.on Fd.PLN_EVT_NOACK = true ∧
      Changes [.plan, .firn] [Reg.ACC_STAT acc, Reg.PLN_CNT_NOACK, Reg.PLN_EVT, Reg.PLN_EVT_SEQ] s t) ∧
  (∀ (acc : Fin 4096) (s : State),
    ((s.planAck acc).owed.all (fun o => !s.overdue o) = true) → 
    ∃ t, Sys2Proof.Machine.exec (.planNoack acc) s = .next t ∧
      t = s)

/-- Loop configurations are committed and packets reach the lanes: a configuration is committed, loaded and saved, plausibility faults and
fail-safes act, a packet is accepted or discarded whole, and a lane recovers. Commands: LOOP_COMMIT, LOOP_CONFIG_LOAD, LOOP_CONFIG_SAVE,
PL_ACK, PLAUSIBILITY_FAULT, LOOP_FAILSAFE, FRAME_PACKET, PACKET_ACCEPT_EXCHANGE, LANE_RECOVER, LANE_READY. Formalises what R34, R35, R267,
R290, R292, R294, R295, R298 say of these cases. Choices of the model that bear on its clauses: log entries 22, 31, 50. -/
def Obligations.LoopPacketsAndConfigurationsAct : Prop :=
  (∀ (w : Fin 8) (s : State),
    s.WriteTaken w Reg.LOP_CMT 1 true → s.on Fd.LOP_CMT_STAT_PENDING = false → s.checkLoops.1 = 1 → 
    ∃ t, Sys2Proof.Machine.exec (.loopCommit w) s = .next t ∧
      WroteOk t w Reg.LOP_CMT ∧
      t.fld Fd.LOP_CMT_STAT_RESULT = 1 ∧ t.on Fd.LOP_CMT_STAT_PENDING = true ∧
      t.lop = { s.lop with commit := some ⟨s.clk.now + 2, s.stagedLoopWords⟩ } ∧
      Changes [.zh, .lop, .out] [Reg.LOP_CMT_STAT] s t) ∧
  (∀ (w : Fin 8) (s : State),
    s.WriteTaken w Reg.LOP_CMT 1 true → s.on Fd.LOP_CMT_STAT_PENDING = false → s.checkLoops.1 ≠ 1 → 
    ∃ t, Sys2Proof.Machine.exec (.loopCommit w) s = .next t ∧
      t.fld Fd.LOP_CMT_STAT_RESULT = s.checkLoops.1 % 16 ∧ t.fld Fd.LOP_CMT_STAT_SLOT = s.checkLoops.2 % 256 ∧
      t.on Fd.LOP_CMT_STAT_PENDING = false ∧
      t.on Fd.LOP_EVT_CMT_REFUSED = true ∧
      Changes [.zh, .firn, .out] [Reg.LOP_CMT_STAT, Reg.LOP_EVT, Reg.LOP_EVT_SEQ] s t) ∧
  (∀ (w : Fin 8) (s : State),
    s.WriteTaken w Reg.LOP_CMT 1 true → s.on Fd.LOP_CMT_STAT_PENDING = true → 
    ∃ t, Sys2Proof.Machine.exec (.loopCommit w) s = .next t ∧
      WroteOk t w Reg.LOP_CMT ∧
      t.fld Fd.LOP_CMT_STAT_RESULT = 8 ∧
      t.on Fd.LOP_EVT_CMT_REFUSED = true ∧
      t.lop = s.lop ∧
      Changes [.zh, .firn, .out] [Reg.LOP_CMT_STAT, Reg.LOP_EVT, Reg.LOP_EVT_SEQ] s t) ∧
  (∀ (w : Fin 8) (s : State),
    s.WriteTaken w Reg.LOP_CMT 2 true → 
    ∃ t, Sys2Proof.Machine.exec (.loopConfigLoad w) s = .next t ∧
      WroteOk t w Reg.LOP_CMT ∧
      (∀ q k, q < 128 → k < 5 → t.staged q k = s.active q k) ∧
      t.lop = s.lop ∧
      Only [.zh, .regs, .out] s t) ∧
  (∀ (s : State) (n : Nat),
    s.lop.changed = some n → 
    ∃ t, Sys2Proof.Machine.exec .loopConfigSave s = .next t ∧
      t = { s with lop := { s.lop with nv := s.loopWords, changed := none } }) ∧
  (∀ (s : State),
    s.lop.changed = none → 
    ∃ t, Sys2Proof.Machine.exec .loopConfigSave s = .next t ∧
      t = s) ∧
  (∀ (w : Fin 8) (q : Fin 128) (value : Word) (s : State),
    s.WriteTaken w (Reg.LP_CTRL q) value true → fieldOf value 4 1 = 1 → (s.loop q).act = some 2 → 
    ∃ t, Sys2Proof.Machine.exec (.plAck w q value) s = .next t ∧
      WroteOk t w (Reg.LP_CTRL q) ∧
      t.loop q = { s.loop q with act := none, apart := 0, within := 0 } ∧
      t.on (Fd.LP_STAT_PLAUS q) = false ∧
      t.lop.changed.isSome = true ∧
      Changes [.zh, .lop, .firn, .out] [Reg.LP_CTRL q, Reg.LP_STAT q, Reg.LOP_EVT, Reg.LOP_EVT_SEQ] s t) ∧
  (∀ (w : Fin 8) (q : Fin 128) (value : Word) (s : State),
    s.WriteTaken w (Reg.LP_CTRL q) value true → (fieldOf value 4 1 = 0 ∨ (s.loop q).act = none) → 
    ∃ t, Sys2Proof.Machine.exec (.plAck w q value) s = .next t ∧
      WroteOk t w (Reg.LP_CTRL q) ∧
      (t.loop q).act = (s.loop q).act ∧
      t.fld (Fd.LP_STAT_PLAUS q) = s.fld (Fd.LP_STAT_PLAUS q) ∧
      Only [.zh, .lop, .acts, .firn, .out, .regs] s t) ∧
  (∀ (q : Fin 128) (s : State),
    s.plausDue q = false → 
    ∃ t, Sys2Proof.Machine.exec (.plausibilityFault q) s = .next t ∧
      t = s) ∧
  (∀ (q : Fin 128) (s : State),
    s.active.en q = true → s.active.plaus q = true → (s.loop q).act = none → s.fld (Fd.LP_PL1_PL_PERSIST q) ≤ (s.loop q).apart → s.fld (Fd.LP_PL0_PL_ACT q) ≠ 2 → 
    ∃ t, Sys2Proof.Machine.exec (.plausibilityFault q) s = .next t ∧
      t.loop q = { s.loop q with act := some (s.fld (Fd.LP_PL0_PL_ACT q)), within := 0 } ∧
      t.on (Fd.LP_STAT_PLAUS q) = true ∧ t.on Fd.LOP_EVT_PLAUS = true ∧
      t.acts = (s.commandTarget q).acts ∧
      Changes [.lop, .acts, .firn] [Reg.LP_STAT q, Reg.LOP_EVT, Reg.LOP_EVT_SEQ] s t) ∧
  (∀ (q : Fin 128) (s : State),
    s.active.en q = true → s.active.plaus q = true → (s.loop q).act = none → s.fld (Fd.LP_PL1_PL_PERSIST q) ≤ (s.loop q).apart → s.fld (Fd.LP_PL0_PL_ACT q) = 2 → 
    ∃ t, Sys2Proof.Machine.exec (.plausibilityFault q) s = .next t ∧
      t.loop q = { s.loop q with act := some 2, within := 0, frozen := true, outs := (s.rd (Reg.LP_FS_OUT q)).toInt :: (s.loop q).outs.drop 1 } ∧
      t.rd (Reg.ST_OUT q) = s.rd (Reg.LP_FS_OUT q) ∧
      t.on (Fd.LP_STAT_PLAUS q) = true ∧ t.on (Fd.LP_STAT_FAILSAFE q) = true ∧ t.on (Fd.LP_STAT_FROZEN q) = true ∧
      t.on Fd.LOP_EVT_PLAUS = true ∧ t.on Fd.LOP_EVT_FAILSAFE = true ∧
      Changes [.lop, .acts, .firn] [Reg.LP_STAT q, Reg.ST_OUT q, Reg.LOP_EVT, Reg.LOP_EVT_SEQ] s t) ∧
  (∀ (q : Fin 128) (s : State),
    s.active.en q = true → s.fld (Fd.LP_CTRL_IN_TMO q) ≤ (s.loop q).noin → s.on (Fd.LP_CTRL_FS_EN q) = true → s.on (Fd.LP_STAT_FAILSAFE q) = false → s.on (Fd.LP_STAT_OVR q) = false ∧ s.on (Fd.LP_STAT_LOCK q) = false ∧ s.on (Fd.LP_STAT_MANUAL q) = false ∧ s.on (Fd.LP_CTRL_HOLD q) = false → s.innerFrozen q = false → 
    ∃ t, Sys2Proof.Machine.exec (.loopFailsafe q) s = .next t ∧
      t.rd (Reg.ST_OUT q) = s.rd (Reg.LP_FS_OUT q) ∧
      t.on (Fd.LP_STAT_FAILSAFE q) = true ∧
      (s.active.tgtKind q = 1 ∨ s.active.tgtKind q = 2 ∨ s.active.tgtKind q = 4 → t.acts.cmd = s.acts.cmd.put (s.active.tgtKind q * 256 + s.active.tgt q) (clampInt 0 32767 (s.rd (Reg.LP_FS_OUT q)).toInt).toNat) ∧
      t.on Fd.LOP_EVT_FAILSAFE = true ∧
      Changes [.acts, .firn] [Reg.LP_STAT q, Reg.ST_OUT q, Reg.LOP_EVT, Reg.LOP_EVT_SEQ] s t) ∧
  (∀ (q : Fin 128) (s : State),
    (s.active.en q = false ∨ s.failsafeDue q (s.loop q).noin = false ∨ s.on (Fd.LP_STAT_FAILSAFE q) = true ∨ s.on (Fd.LP_STAT_OVR q) = true ∨ s.on (Fd.LP_STAT_LOCK q) = true ∨ s.on (Fd.LP_STAT_MANUAL q) = true ∨ s.on (Fd.LP_CTRL_HOLD q) = true ∨ s.innerFrozen q = true) → 
    ∃ t, Sys2Proof.Machine.exec (.loopFailsafe q) s = .next t ∧
      t = s) ∧
  (∀ (lane : Lane) (bytes : List Byte) (s : State) (p : Packet),
    s.acceptPacket bytes = some p → s.clk.sidx.toNat % 100 ≤ 90 → s.takesPart lane = true → 
    ∃ t, Sys2Proof.Machine.exec (.framePacket lane bytes) s = .next t ∧
      (t.lop = match lane with | .a => { s.lop with candA := some p } | .b => { s.lop with candB := some p }) ∧
      Only [.lop] s t) ∧
  (∀ (lane : Lane) (bytes : List Byte) (s : State),
    s.acceptPacket bytes = none → s.lop.bad ≠ bytes → 
    ∃ t, Sys2Proof.Machine.exec (.framePacket lane bytes) s = .next t ∧
      t.rd Reg.LOP_CNT_PKTBAD = satCount (s.rd Reg.LOP_CNT_PKTBAD) 1 ∧
      t.lop = { s.lop with bad := bytes } ∧
      Changes [.lop] [Reg.LOP_CNT_PKTBAD] s t) ∧
  (∀ (lane : Lane) (bytes : List Byte) (s : State),
    s.acceptPacket bytes = none → s.lop.bad = bytes → 
    ∃ t, Sys2Proof.Machine.exec (.framePacket lane bytes) s = .next t ∧
      t = s) ∧
  (∀ (lane : Lane) (bytes : List Byte) (s : State),
    (s.acceptPacket bytes).isSome = true → (90 < s.clk.sidx.toNat % 100 ∨ s.takesPart lane = false) → 
    ∃ t, Sys2Proof.Machine.exec (.framePacket lane bytes) s = .next t ∧
      t = s) ∧
  (∀ (s : State),
    s.clk.sidx.toNat % 100 = 95 → s.takesPart .a = true ∧ s.takesPart .b = false → 
    ∃ t, Sys2Proof.Machine.exec .packetAcceptExchange s = .next t ∧
      t.lop = { s.lop with next := s.lop.candA } ∧
      Only [.lop] s t) ∧
  (∀ (s : State),
    s.clk.sidx.toNat % 100 = 95 → s.takesPart .a = false ∧ s.takesPart .b = true → 
    ∃ t, Sys2Proof.Machine.exec .packetAcceptExchange s = .next t ∧
      t.lop = { s.lop with next := s.lop.candB } ∧
      Only [.lop] s t) ∧
  (∀ (s : State),
    s.clk.sidx.toNat % 100 = 95 → s.takesPart .a = false ∧ s.takesPart .b = false → 
    ∃ t, Sys2Proof.Machine.exec .packetAcceptExchange s = .next t ∧
      t.lop = { s.lop with next := none } ∧
      Only [.lop] s t) ∧
  (∀ (s : State),
    s.clk.sidx.toNat % 100 ≠ 95 → 
    ∃ t, Sys2Proof.Machine.exec .packetAcceptExchange s = .next t ∧
      t = s) ∧
  (∀ (s : State),
    s.clk.sidx.toNat % 100 = 95 → s.takesPart .a = true ∧ s.takesPart .b = true → 
    ∃ t, Sys2Proof.Machine.exec .packetAcceptExchange s = .next t ∧
      (t.lop = { s.lop with next := if s.lop.candA = s.lop.candB then s.lop.candA else none }) ∧
      Only [.lop] s t) ∧
  (∀ (lane : Lane) (s : State),
    s.fld (stField lane) = 3 → s.laneStuck lane = false → 
    ∃ t, Sys2Proof.Machine.exec (.laneRecover lane) s = .next t ∧
      t.fld (stField lane) = 2 ∧
      t.lop = { s.lop with loading := true, matched := s.lop.matched.del (laneCode lane) } ∧
      t.on Fd.LOP_EVT_LANE_RECOVER = true ∧
      Changes [.lop, .dia, .firn] [Reg.LOP_STAT, Reg.LOP_EVT, Reg.LOP_EVT_SEQ] s t) ∧
  (∀ (lane : Lane) (s : State),
    s.fld (stField lane) = 2 → 100 ≤ Tab.at 0 s.lop.matched (laneCode lane) → 
    ∃ t, Sys2Proof.Machine.exec (.laneReady lane) s = .next t ∧
      t.fld (stField lane) = 1 ∧
      t.lop = { s.lop with matched := s.lop.matched.del (laneCode lane) } ∧
      t.on Fd.LOP_EVT_LANE_READY = true ∧
      Changes [.lop, .firn] [Reg.LOP_STAT, Reg.LOP_EVT, Reg.LOP_EVT_SEQ] s t) ∧
  (∀ (lane : Lane) (s : State),
    (s.fld (stField lane) ≠ 3 ∨ s.laneStuck lane = true) → 
    ∃ t, Sys2Proof.Machine.exec (.laneRecover lane) s = .next t ∧
      t = s) ∧
  (∀ (lane : Lane) (s : State),
    (s.fld (stField lane) ≠ 2 ∨ Tab.at 0 s.lop.matched (laneCode lane) < 100) → 
    ∃ t, Sys2Proof.Machine.exec (.laneReady lane) s = .next t ∧
      t = s)

/-- Pump commands take effect, pump sequences advance, pumps trip and valves fail: START, STOP, ACK, RESTORE and the lockout write act on the
pump as its state allows; a pump becomes ready, is proven, fails to start, stops and trips; a valve fault and a valve deviation are taken.
Commands: PUMP_START, PUMP_STOP, PUMP_ACK, PUMP_RESTORE, LOCKOUT_WRITE, PUMP_DRIVE_READY, PUMP_PROVEN, PUMP_READY_TIMEOUT,
PUMP_PROOF_TIMEOUT, PUMP_STOP_COMPLETE, PUMP_TRIP, VALVE_FAULT, VALVE_DEVIATION. Formalises what R309, R315, R316, R317, R318, R320, R322
say of these cases. Choices of the model that bear on its clauses: log entries 51, 54, 88. -/
def Obligations.PumpsAreCommandedAdvanceAndTrip : Prop :=
  (∀ (w p : Fin 8) (s : State),
    s.WriteTaken w (Reg.PMP_CMD p) 1 true → s.pumpLocked p = false → s.fld (Fd.PMP_CFG_ROLE p) = 0 → s.pumpState p = 0 → s.on (Fd.PMP_STAT_SUBST_VALID p) = false → 
    ∃ t, Sys2Proof.Machine.exec (.pumpStart w p) s = .next t ∧
      WroteOk t w (Reg.PMP_CMD p) ∧
      t.pumpState p = 1 ∧
      (t.pump p).intent = true ∧
      t.fld (Fd.PMP_DEM_DEMAND p) = s.fld (Fd.PMP_SPD_SPD_MIN p) ∧
      Changes [.zh, .acts, .out] [Reg.PMP_STAT p, Reg.PMP_DEM p] s t) ∧
  (∀ (w p : Fin 8) (s : State),
    s.WriteTaken w (Reg.PMP_CMD p) 2 true → s.pumpOverride p = none → 1 ≤ s.pumpState p → s.pumpState p ≤ 3 → 
    ∃ t, Sys2Proof.Machine.exec (.pumpStop w p) s = .next t ∧
      WroteOk t w (Reg.PMP_CMD p) ∧
      t.pumpState p = 4 ∧
      (t.pump p).intent = false ∧
      (t.pump p).ramping = true ∧
      Changes [.zh, .acts, .out] [Reg.PMP_STAT p] s t) ∧
  (∀ (w p : Fin 8) (s : State),
    s.WriteTaken w (Reg.PMP_CMD p) 3 true → (s.pumpState p = 5 ∨ s.pumpState p = 6) → 
    ∃ t, Sys2Proof.Machine.exec (.pumpAck w p) s = .next t ∧
      WroteOk t w (Reg.PMP_CMD p) ∧
      t.pumpState p = 0 ∧
      t.on (Fd.PMP_STAT_SUBST_VALID p) = s.on (Fd.PMP_STAT_SUBST_VALID p) ∧
      t.fld (Fd.PMP_STAT_SUBST p) = s.fld (Fd.PMP_STAT_SUBST p) ∧
      Changes [.zh, .acts, .out] [Reg.PMP_STAT p, Reg.PMP_DEM p] s t) ∧
  (∀ (w p : Fin 8) (s : State),
    s.WriteTaken w (Reg.PMP_CMD p) 4 true → s.pumpState p = 0 → s.fld (Fd.PMP_CFG_ROLE p) = 0 → s.on (Fd.PMP_STAT_SUBST_VALID p) = true → s.pumpLocked p = false → 
    ∃ t, Sys2Proof.Machine.exec (.pumpRestore w p) s = .next t ∧
      WroteOk t w (Reg.PMP_CMD p) ∧
      t.pumpState p = 1 ∧
      (t.pump p).restore = true ∧
      t.on (Fd.PMP_STAT_SUBST_VALID p) = true ∧
      Changes [.zh, .acts, .out] [Reg.PMP_STAT p, Reg.PMP_DEM p] s t) ∧
  (∀ (w : Fin 8) (v : Fin 64) (value : Word) (s : State),
    s.WriteTaken w (Reg.VLV_LOCK v) value true → 
    ∃ t, Sys2Proof.Machine.exec (.lockoutWrite w (.valve v) value) s = .next t ∧
      WroteOk t w (Reg.VLV_LOCK v) ∧
      t.fld (Fd.VLV_LOCK_LOCK v) = fieldOf value 31 1 ∧
      t.fld (Fd.VLV_LOCK_LOCKVAL v) = fieldOf value 0 16 ∧
      t.fld (Fd.VLV_STAT_LOCK v) = fieldOf value 31 1 ∧
      Changes [.zh, .out] [Reg.VLV_LOCK v, Reg.VLV_STAT v] s t) ∧
  (∀ (w : Fin 8) (f : Fin 32) (value : Word) (s : State),
    s.WriteTaken w (Reg.FAN_LOCK f) value true → 
    ∃ t, Sys2Proof.Machine.exec (.lockoutWrite w (.fan f) value) s = .next t ∧
      WroteOk t w (Reg.FAN_LOCK f) ∧
      t.fld (Fd.FAN_LOCK_LOCK f) = fieldOf value 31 1 ∧
      t.fld (Fd.FAN_STAT_LOCK f) = fieldOf value 31 1 ∧
      Changes [.zh, .out] [Reg.FAN_LOCK f, Reg.FAN_STAT f] s t) ∧
  (∀ (w : Fin 8) (k : Fin 64) (value : Word) (s : State),
    s.WriteTaken w (Reg.SOL_LOCK k) value true → (s.on (Fd.SOL_LOCK_LOCK k) = true ∨ fieldOf value 0 1 = 0) → 
    ∃ t, Sys2Proof.Machine.exec (.lockoutWrite w (.solenoid k) value) s = .next t ∧
      WroteOk t w (Reg.SOL_LOCK k) ∧
      t.fld (Fd.SOL_LOCK_LOCK k) = fieldOf value 0 1 ∧
      t.fld (Fd.SOL_STAT_LOCK k) = fieldOf value 0 1 ∧
      Changes [.zh, .out] [Reg.SOL_LOCK k, Reg.SOL_STAT k] s t) ∧
  (∀ (w p : Fin 8) (value : Word) (s : State),
    s.WriteTaken w (Reg.PMP_LOCK p) value true → fieldOf value 0 1 = 1 → s.pumpLocked p = false → s.pumpOverride p = none → s.fld (Fd.PMP_CFG_ROLE p) ≠ 0 → 1 ≤ s.pumpState p → s.pumpState p ≤ 3 → 
    ∃ t, Sys2Proof.Machine.exec (.lockoutWrite w (.pump p) value) s = .next t ∧
      t.pumpLocked p = true ∧
      t.pumpState p = 4 ∧
      Changes [.zh, .acts, .out] [Reg.PMP_LOCK p, Reg.PMP_STAT p] s t) ∧
  (∀ (p : Fin 8) (s : State),
    s.pumpState p = 1 → s.driveReady p = true → 
    ∃ t, Sys2Proof.Machine.exec (.pumpDriveReady p) s = .next t ∧
      t.pumpState p = 2 ∧
      (t.pump p).ramping = true ∧
      Changes [.acts] [Reg.PMP_STAT p] s t) ∧
  (∀ (p : Fin 8) (s : State),
    s.pumpState p = 2 → s.pumpProof p = true → s.clk.now < (s.pump p).start + 10000 * s.fld (Fd.PMP_SEQ_T_PROVE p) → (s.pump p).restore = false → 
    ∃ t, Sys2Proof.Machine.exec (.pumpProven p) s = .next t ∧
      t.pumpState p = 3 ∧
      t.rd (Reg.PMP_STARTS p) = satCount (s.rd (Reg.PMP_STARTS p)) 1 ∧
      Changes [.acts] [Reg.PMP_STAT p, Reg.PMP_STARTS p] s t) ∧
  (∀ (p : Fin 8) (s : State),
    s.pumpState p = 1 → s.driveReady p = false → (s.pump p).start + 10000 * s.fld (Fd.PMP_SEQ_T_READY p) ≤ s.clk.now → (s.pump p).standsFor = none → s.on (Fd.PMP_STAT_SUBST_VALID p) = true → (s.pump p).byProt = false → 
    ∃ t, Sys2Proof.Machine.exec (.pumpReadyTimeout p) s = .next t ∧
      t.pumpState p = 6 ∧
      t.fld (Fd.PMP_STAT_CAUSE p) = 4 ∧
      t.fld (Fd.PMP_DEM_DEMAND p) = 0 ∧
      t.on Fd.ACT_EVT_PMP_FAIL_START = true ∧
      Only [.acts, .regs, .firn] s t) ∧
  (∀ (p : Fin 8) (s : State),
    s.pumpState p = 2 → (s.pump p).start + 10000 * s.fld (Fd.PMP_SEQ_T_PROVE p) ≤ s.clk.now → (s.pump p).standsFor = none → s.on (Fd.PMP_STAT_SUBST_VALID p) = true → (s.pump p).byProt = false → 
    ∃ t, Sys2Proof.Machine.exec (.pumpProofTimeout p) s = .next t ∧
      t.pumpState p = 6 ∧
      t.fld (Fd.PMP_STAT_CAUSE p) = 5 ∧
      t.fld (Fd.PMP_DEM_DEMAND p) = 0 ∧
      t.on Fd.ACT_EVT_PMP_FAIL_START = true) ∧
  (∀ (p : Fin 8) (s : State),
    s.pumpState p = 4 → (s.pump p).dem ≤ s.fld (Fd.PMP_SPD_SPD_MIN p) * rampUnit → 
    ∃ t, Sys2Proof.Machine.exec (.pumpStopComplete p) s = .next t ∧
      t.pumpState p = 0 ∧
      t.fld (Fd.PMP_DEM_DEMAND p) = 0 ∧
      (t.pump p).intent = (s.pump p).intent ∧
      Changes [.acts] [Reg.PMP_STAT p, Reg.PMP_DEM p] s t) ∧
  (∀ (p : Fin 8) (cause : Fin 3) (s : State),
    s.tripHolds p (cause + 1) = true → s.rd Reg.PRT_QNOM = 0 → (s.pump p).standsFor = none → s.fld (Fd.PMP_CFG_ROLE p) = 1 → (s.pump p).byProt = false → 
    ∃ t, Sys2Proof.Machine.exec (.pumpTrip p cause) s = .next t ∧
      t.pumpState p = 5 ∧
      t.fld (Fd.PMP_STAT_CAUSE p) = cause + 1 ∧
      t.fld (Fd.PMP_DEM_DEMAND p) = 0 ∧
      (t.pump p).dem = 0 ∧
      t.rd Reg.ACT_CNT_TRIP = satCount (s.rd Reg.ACT_CNT_TRIP) 1 ∧
      t.on Fd.ACT_EVT_PMP_TRIP = true ∧
      Changes [.acts, .firn] [Reg.PMP_STAT p, Reg.PMP_DEM p, Reg.ACT_CNT_TRIP, Reg.ACT_EVT, Reg.ACT_EVT_SEQ] s t) ∧
  (∀ (v : Fin 64) (s : State),
    (s.valve v).cond ≠ 0 → (s.valve v).cond < 4 → (s.valve v).condFrom + msTicks 50 ≤ s.clk.now → s.fld (Fd.VLV_STAT_FAULT v) ≠ (s.valve v).cond → 
    ∃ t, Sys2Proof.Machine.exec (.valveFault v) s = .next t ∧
      t.fld (Fd.VLV_STAT_FAULT v) = (s.valve v).cond ∧
      t.on Fd.ACT_EVT_VLV_FAULT = true ∧
      Changes [.firn] [Reg.VLV_STAT v, Reg.ACT_EVT, Reg.ACT_EVT_SEQ] s t) ∧
  (∀ (v : Fin 64) (s : State) (f : Nat),
    s.on (Fd.VLV_STAT_DEV v) = false → (s.valve v).devFrom = some f → f + 10000 * s.fld (Fd.VLV_CFG_DEV_T v) ≤ s.clk.now → 
    ∃ t, Sys2Proof.Machine.exec (.valveDeviation v) s = .next t ∧
      t.on (Fd.VLV_STAT_DEV v) = true ∧
      t.on Fd.ACT_EVT_VLV_DEV = true ∧
      Changes [.firn] [Reg.VLV_STAT v, Reg.ACT_EVT, Reg.ACT_EVT_SEQ] s t)

/-- Solenoid commands take effect: PULSE, ENERGIZE, TEST, RELEASE and ISO_RESET are accepted, and a bank is cut and reclosed by command.
Commands: SOL_PULSE, SOL_ENERGIZE, SOL_TEST, SOL_RELEASE, ISO_RESET, BANK_CMD_CUT, BANK_CMD_RECLOSE. Formalises what R327, R328, R331, R332
say of these cases. Choices of the model that bear on its clauses: log entries 52, 54. -/
def Obligations.SolenoidCommandsTakeEffect : Prop :=
  (∀ (w : Fin 8) (k : Fin 64) (s : State),
    s.WriteTaken w (Reg.SOL_CMD k) 1 true → s.bankCut (k / 8) = false → (s.sol k).req = none → s.on (Fd.SOL_LOCK_LOCK k) = false → s.fld (Fd.SOL_STAT_FAULT k) = 0 → s.solState k = 0 → 
    ∃ t, Sys2Proof.Machine.exec (.solPulse w k) s = .next t ∧
      WroteOk t w (Reg.SOL_CMD k) ∧
      t.solState k = 1 ∧
      t.rd Reg.ACT_REQ_SEQ = s.rd Reg.ACT_REQ_SEQ + 1 ∧
      t.rd (Reg.SOL_SEQ k) = s.rd Reg.ACT_REQ_SEQ + 1 ∧
      (t.sol k).req = some ⟨1, false, (s.rd Reg.ACT_REQ_SEQ + 1).toNat, s.clk.now, 0, none, false⟩ ∧
      Changes [.zh, .acts, .out] [Reg.ACT_REQ_SEQ, Reg.SOL_SEQ k, Reg.SOL_STAT k] s t) ∧
  (∀ (w : Fin 8) (k : Fin 64) (s : State),
    s.WriteTaken w (Reg.SOL_CMD k) 2 (s.solCmdOk k 2) → s.bankCut (k / 8) = false → (s.sol k).req = none → s.on (Fd.SOL_LOCK_LOCK k) = false → s.fld (Fd.SOL_STAT_FAULT k) = 0 → s.solState k = 0 → 
    ∃ t, Sys2Proof.Machine.exec (.solEnergize w k) s = .next t ∧
      WroteOk t w (Reg.SOL_CMD k) ∧
      t.solState k = 1 ∧
      t.rd Reg.ACT_REQ_SEQ = s.rd Reg.ACT_REQ_SEQ + 1 ∧
      t.rd (Reg.SOL_SEQ k) = s.rd Reg.ACT_REQ_SEQ + 1 ∧
      (t.sol k).req = some ⟨2, false, (s.rd Reg.ACT_REQ_SEQ + 1).toNat, s.clk.now, 0, none, false⟩ ∧
      Changes [.zh, .acts, .out] [Reg.ACT_REQ_SEQ, Reg.SOL_SEQ k, Reg.SOL_STAT k] s t) ∧
  (∀ (w : Fin 8) (k : Fin 64) (s : State),
    s.WriteTaken w (Reg.SOL_CMD k) 4 true → s.bankCut (k / 8) = false → (s.sol k).req = none → s.on (Fd.SOL_LOCK_LOCK k) = false → s.solState k = 6 → 
    ∃ t, Sys2Proof.Machine.exec (.solTest w k) s = .next t ∧
      WroteOk t w (Reg.SOL_CMD k) ∧
      t.solState k = 1 ∧
      (t.sol k).req = some ⟨4, false, (s.rd Reg.ACT_REQ_SEQ + 1).toNat, s.clk.now, 0, none, false⟩ ∧
      Changes [.zh, .acts, .out] [Reg.ACT_REQ_SEQ, Reg.SOL_SEQ k, Reg.SOL_STAT k] s t) ∧
  (∀ (w : Fin 8) (k : Fin 64) (s : State),
    s.WriteTaken w (Reg.SOL_CMD k) 3 (s.solCmdOk k 3) → 
    ∃ t, Sys2Proof.Machine.exec (.solRelease w k) s = .next t ∧
      WroteOk t w (Reg.SOL_CMD k) ∧
      (t.sol k).release = true ∧
      (t.sol k).req = (s.sol k).req ∧
      Changes [.zh, .acts, .out] [] s t) ∧
  (∀ (w : Fin 8) (k : Fin 64) (s : State),
    s.WriteTaken w (Reg.SOL_CMD k) 5 (s.solCmdOk k 5) → 
    ∃ t, Sys2Proof.Machine.exec (.isoReset w k) s = .next t ∧
      WroteOk t w (Reg.SOL_CMD k) ∧
      t.fld (Fd.SOL_STAT_POS k) = 1 ∧
      t.isolated k = false) ∧
  (∀ (w b : Fin 8) (s : State),
    s.WriteTaken w (Reg.BANK_CMD b) 1 true → s.bankCut b = false → 
    ∃ t, Sys2Proof.Machine.exec (.bankCmdCut w b) s = .next t ∧
      WroteOk t w (Reg.BANK_CMD b) ∧
      t.bankCut b = true ∧
      t.fld (Fd.BANK_STAT_REASON b) = 3 ∧
      (∀ k, 8 * b.val ≤ k → k < 8 * b.val + 8 → (t.sol k).req = none ∧ (t.sol k).pull = none)) ∧
  (∀ (w b : Fin 8) (s : State),
    s.WriteTaken w (Reg.BANK_CMD b) 2 true → s.bankCut b = true → 
    ∃ t, Sys2Proof.Machine.exec (.bankCmdReclose w b true) s = .next t ∧
      WroteOk t w (Reg.BANK_CMD b) ∧
      t.bankCut b = false ∧
      t.fld (Fd.BANK_STAT_REASON b) = 0 ∧
      Changes [.zh, .acts, .out] [Reg.BANK_STAT b] s t)

/-- The solenoid sequence advances: pull-in, dip, decay, open coil, short, retry, deferral time-out and self-test move the channel, and a bank
is cut and recloses with its supply. Commands: SOLENOID_ARMATURE_DIP, SOLENOID_PULLIN_END, SOLENOID_OPEN_COIL, SOLENOID_SHORT,
SOLENOID_DECAY_END, SOLENOID_RETRY, SOLENOID_DEFER_TIMEOUT, SOLENOID_SELF_TEST, BANK_CUT, BANK_SUPPLY_RECLOSE. Formalises what R324, R325,
R326, R327, R329, R331, R332, R344, R370 say of these cases. Choices of the model that bear on its clauses: log entries 52, 54, 62, 88, 95. -/
def Obligations.SolenoidSequenceAdvances : Prop :=
  (∀ (k : Fin 64) (s : State) (t0 op : Nat),
    s.solState k = 2 → (s.sol k).pull = some (t0, op) → (s.sol k).dip = none → s.clk.now ≤ t0 + msTicks (s.fld (Fd.SOL_TIME_T_DET k)) → 
    ∃ t, Sys2Proof.Machine.exec (.solenoidArmatureDip k) s = .next t ∧
      (t.sol k).dip = some s.clk.now ∧
      t.fld (Fd.SOL_STAT_DIP_MS k) = min ((s.clk.now - t0) / 10) 0xFFFE ∧
      Changes [.acts] [Reg.SOL_STAT k] s t) ∧
  (∀ (k : Fin 64) (s : State) (t0 d : Nat) (r : SolReq),
    s.solState k = 2 → (s.sol k).pull = some (t0, 2) → (s.sol k).dip = some d → s.pullEnd k t0 ≤ s.clk.now → (s.sol k).req = some r → r.op = 2 → 
    ∃ t, Sys2Proof.Machine.exec (.solenoidPullinEnd k) s = .next t ∧
      t.solState k = 3 ∧
      t.fld (Fd.SOL_STAT_RESULT k) = 1 ∧
      (t.sol k).req = none ∧
      t.rd (Reg.SOL_OPS k) = satCount (s.rd (Reg.SOL_OPS k)) 1 ∧
      Changes [.acts] [Reg.SOL_STAT k, Reg.SOL_OPS k, Reg.BANK_STAT (k / 8)] s t) ∧
  (∀ (k : Fin 64) (s : State) (t0 : Nat) (r : SolReq),
    s.solState k = 2 → (s.sol k).pull = some (t0, 1) → (s.sol k).dip = none → s.pullEnd k t0 ≤ s.clk.now → (s.sol k).req = some r → 
    ∃ t, Sys2Proof.Machine.exec (.solenoidPullinEnd k) s = .next t ∧
      t.solState k = 4 ∧
      (t.sol k).pending = 2 ∧
      (t.sol k).moves = some r ∧
      (t.sol k).req = none ∧
      Changes [.acts] [Reg.SOL_STAT k, Reg.BANK_STAT (k / 8)] s t) ∧
  (∀ (k : Fin 64) (s : State) (t0 op : Nat) (r : SolReq),
    s.solState k = 2 → (s.sol k).pull = some (t0, op) → (s.sol k).dip = none → t0 + msTicks 5 ≤ s.clk.now → (s.sol k).req = some r → 
    ∃ t, Sys2Proof.Machine.exec (.solenoidOpenCoil k) s = .next t ∧
      t.solState k = 6 ∧
      t.fld (Fd.SOL_STAT_FAULT k) = 1 ∧
      t.fld (Fd.SOL_STAT_RESULT k) = 9 ∧
      (t.sol k).req = none ∧
      t.on Fd.ACT_EVT_SOL_FAULT = true) ∧
  (∀ (k : Fin 64) (s : State) (r : SolReq),
    s.solState k = 2 → (s.sol k).req = some r → 
    ∃ t, Sys2Proof.Machine.exec (.solenoidShort k) s = .next t ∧
      t.solState k = 6 ∧
      t.fld (Fd.SOL_STAT_FAULT k) = 2 ∧
      t.fld (Fd.SOL_STAT_RESULT k) = 9 ∧
      (t.sol k).req = none ∧
      t.on Fd.ACT_EVT_SOL_FAULT = true) ∧
  (∀ (k : Fin 64) (s : State) (r : SolReq),
    s.solState k = 4 → (s.sol k).moves = some r → (s.sol k).pending = 1 → (s.sol k).req = none → s.fld (Fd.SOL_STAT_FAULT k) = 0 → 
    ∃ t, Sys2Proof.Machine.exec (.solenoidDecayEnd k) s = .next t ∧
      t.solState k = 0 ∧
      t.fld (Fd.SOL_STAT_RESULT k) = 1 ∧
      (t.fld (Fd.SOL_STAT_POS k) = (if k.val < 48 then 2 else s.fld (Fd.SOL_STAT_POS k))) ∧
      (t.sol k).slot = false) ∧
  (∀ (k : Fin 64) (s : State) (r : SolReq) (t0 : Nat),
    (s.sol k).req = some r → r.rejoin = some t0 → t0 ≤ s.clk.now → 
    ∃ t, Sys2Proof.Machine.exec (.solenoidRetry k) s = .next t ∧
      (t.sol k).req = some { r with rejoin := none, clock := s.clk.now } ∧
      Changes [.acts] [] s t) ∧
  (∀ (k : Fin 64) (s : State) (r : SolReq),
    (s.sol k).req = some r → s.solState k = 1 → r.rejoin = none → r.clock + msTicks (s.fld (Fd.SOL_RETRY_DEFER_MS k)) ≤ s.clk.now → 
    ∃ t, Sys2Proof.Machine.exec (.solenoidDeferTimeout k) s = .next t ∧
      t.fld (Fd.SOL_STAT_RESULT k) = 4 ∧
      (t.sol k).req = none ∧
      t.rd Reg.ACT_CNT_DEFTMO = satCount (s.rd Reg.ACT_CNT_DEFTMO) 1) ∧
  (∀ (k : Fin 64) (s : State),
    s.solState k = 0 → s.on Fd.ACT_CTRL_SELFTEST_EN = true → s.slotTaken (k / 8) = false → s.bankCut (k / 8) = false → (s.sol k).testAt + sTicks 60 ≤ s.clk.now → s.fld (Fd.SOL_STAT_FAULT k) = 0 → 
    ∃ t, Sys2Proof.Machine.exec (.solenoidSelfTest k 1) s = .next t ∧
      t.solState k = 6 ∧
      t.fld (Fd.SOL_STAT_FAULT k) = 1 ∧
      (t.sol k).testAt = s.clk.now ∧
      t.on Fd.ACT_EVT_SOL_FAULT = true ∧
      Changes [.acts, .firn] [Reg.SOL_STAT k, Reg.ACT_EVT, Reg.ACT_EVT_SEQ] s t) ∧
  (∀ (b : Fin 8) (s : State),
    s.bankCut b = false → 
    ∃ t, Sys2Proof.Machine.exec (.bankCut b .overcurrent) s = .next t ∧
      t.bankCut b = true ∧
      t.fld (Fd.BANK_STAT_REASON b) = 1 ∧
      t.rd Reg.ACT_CNT_CUT = satCount (s.rd Reg.ACT_CNT_CUT) 1) ∧
  (∀ (b : Fin 8) (s : State),
    s.bankCut b = false → 
    ∃ t, Sys2Proof.Machine.exec (.bankCut b .protect) s = .next t ∧
      t.bankCut b = true ∧
      t.fld (Fd.BANK_STAT_REASON b) = 4 ∧
      t.rd Reg.ACT_CNT_CUT = satCount (s.rd Reg.ACT_CNT_CUT) 1) ∧
  (∀ (b : Fin 8) (s : State),
    s.bankCut b = false → max s.acts.volts.1 s.acts.volts.2 < 3600 → 
    ∃ t, Sys2Proof.Machine.exec (.bankCut b .supply) s = .next t ∧
      t.bankCut b = true ∧
      t.fld (Fd.BANK_STAT_REASON b) = 5 ∧
      t.rd Reg.ACT_CNT_CUT = satCount (s.rd Reg.ACT_CNT_CUT) 1) ∧
  (∀ (b c : Fin 8) (s : State),
    s.bankCut b = false → s.solState (8 * b + c) = 0 → (s.sol (8 * b + c)).offAt + msTicks 5 ≤ s.clk.now → 
    ∃ t, Sys2Proof.Machine.exec (.bankCut b (.stuckOn c)) s = .next t ∧
      t.bankCut b = true ∧
      t.fld (Fd.BANK_STAT_REASON b) = 2 ∧
      t.fld (Fd.SOL_STAT_FAULT (8 * b + c)) = 3) ∧
  (∀ (b : Fin 8) (s : State) (t0 : Nat),
    s.bankCut b = true → s.fld (Fd.BANK_STAT_REASON b) = 5 → s.acts.busFrom = some t0 → t0 + msTicks 100 ≤ s.clk.now → 
    ∃ t, Sys2Proof.Machine.exec (.bankSupplyReclose b) s = .next t ∧
      t.bankCut b = false ∧
      t.fld (Fd.BANK_STAT_REASON b) = 0 ∧
      Changes [.acts] [Reg.BANK_STAT b] s t)

/-- Fan, governor and wear events take effect: kick, start, tachometer, overcurrent and retry events move the fan; silent demand, an over-budget
supply and the wear save act. Commands: FAN_KICK_TIMEOUT, FAN_STARTED, FAN_TACH_TIMEOUT, FAN_OVERCURRENT, FAN_OC_RETRY, FAN_TACH_RECOVERED,
FAN_RETRY, FAN_DEMAND_SILENT, ACTUATOR_OVERBUDGET, WEAR_COUNTER_SAVE. Formalises what R335, R338, R341, R342, R346 say of these cases.
Choices of the model that bear on its clauses: log entries 34, 39, 53, 60, 88, 95. -/
def Obligations.FanEventsTakeEffect : Prop :=
  (∀ (f : Fin 32) (s : State) (t0 : Nat),
    s.fanState f = 1 → (s.fan f).kick = some t0 → t0 + sTicks 3 ≤ s.clk.now → 3 ≤ s.fld (Fd.FAN_STAT_ATTEMPT f) → 
    ∃ t, Sys2Proof.Machine.exec (.fanKickTimeout f) s = .next t ∧
      t.fanState f = 4 ∧
      t.fld (Fd.FAN_STAT_DRIVE f) = 0 ∧
      t.on Fd.ACT_EVT_FAN_LOCKED = true ∧
      Changes [.acts, .firn] [Reg.FAN_STAT f, Reg.ACT_EVT, Reg.ACT_EVT_SEQ] s t) ∧
  (∀ (f : Fin 32) (s : State) (t0 : Nat),
    s.fanState f = 1 → (s.fan f).kick = some t0 → t0 + sTicks 3 ≤ s.clk.now → s.fld (Fd.FAN_STAT_ATTEMPT f) < 3 → 
    ∃ t, Sys2Proof.Machine.exec (.fanKickTimeout f) s = .next t ∧
      t.fanState f = 1 ∧
      (t.fan f).kick = none ∧
      (t.fan f).again = some (t0 + sTicks 5) ∧
      t.fld (Fd.FAN_STAT_DRIVE f) = 0 ∧
      Changes [.acts] [Reg.FAN_STAT f] s t) ∧
  (∀ (f : Fin 32) (s : State) (t0 : Nat),
    s.fanState f = 1 → (s.fan f).kick = some t0 → t0 ≤ (s.fan f).edge → s.clk.now ≤ t0 + sTicks 3 → s.fld (Fd.FAN_CFG_RATED f) ≤ 10 * s.fld (Fd.FAN_MEAS_RPM f) → 
    ∃ t, Sys2Proof.Machine.exec (.fanStarted f) s = .next t ∧
      t.fanState f = 2 ∧
      t.fld (Fd.FAN_STAT_DRIVE f) = s.fanGoal f % 65536 ∧
      t.rd (Reg.FAN_STARTS f) = satCount (s.rd (Reg.FAN_STARTS f)) 1 ∧
      Changes [.acts] [Reg.FAN_STAT f, Reg.FAN_STARTS f] s t) ∧
  (∀ (f : Fin 32) (s : State),
    s.fanState f = 2 → s.tachLate f = true → s.fanSuspended f = false → s.fld (Fd.FAN_FLOOR_FLOOR_MA f) ≤ s.fld (Fd.FAN_MEAS_MA f) → 
    ∃ t, Sys2Proof.Machine.exec (.fanTachTimeout f) s = .next t ∧
      t.fanState f = 5 ∧
      t.on Fd.ACT_EVT_TACH_LOST = true ∧
      Changes [.acts, .firn] [Reg.FAN_STAT f, Reg.ACT_EVT, Reg.ACT_EVT_SEQ] s t) ∧
  (∀ (f : Fin 32) (s : State),
    s.fanState f = 2 → s.tachLate f = true → s.fanSuspended f = false → s.fld (Fd.FAN_MEAS_MA f) < s.fld (Fd.FAN_FLOOR_FLOOR_MA f) → 
    ∃ t, Sys2Proof.Machine.exec (.fanTachTimeout f) s = .next t ∧
      t.fanState f = 3 ∧
      t.fld (Fd.FAN_STAT_DRIVE f) = 0 ∧
      Changes [.acts] [Reg.FAN_STAT f] s t) ∧
  (∀ (f : Fin 32) (s : State) (t0 : Nat),
    s.fanState f = 2 → (s.fan f).ocFrom = some t0 → t0 + msTicks 1 ≤ s.clk.now → 
    ∃ t, Sys2Proof.Machine.exec (.fanOvercurrent f) s = .next t ∧
      t.fanState f = 6 ∧
      t.fld (Fd.FAN_STAT_DRIVE f) = 0 ∧
      (t.fan f).ocAt = s.clk.now ∧
      t.on Fd.ACT_EVT_FAN_OC = true ∧
      Changes [.acts, .firn] [Reg.FAN_STAT f, Reg.ACT_EVT, Reg.ACT_EVT_SEQ] s t) ∧
  (∀ (f : Fin 32) (s : State),
    s.fanState f = 6 → s.fld (Fd.FAN_STAT_ATTEMPT f) < 3 → (s.fan f).ocAt + sTicks 5 ≤ s.clk.now → s.mayKick = true → 
    ∃ t, Sys2Proof.Machine.exec (.fanOcRetry f) s = .next t ∧
      t.fanState f = 1 ∧
      t.fld (Fd.FAN_STAT_ATTEMPT f) = s.fld (Fd.FAN_STAT_ATTEMPT f) + 1 ∧
      t.fld (Fd.FAN_STAT_DRIVE f) = 32767 ∧
      (t.fan f).kick = some s.clk.now ∧
      Changes [.acts] [Reg.FAN_STAT f] s t) ∧
  (∀ (f : Fin 32) (s : State) (t0 : Nat),
    s.fanState f = 5 → s.tachLate f = false → (s.fan f).goodFrom = some t0 → t0 + sTicks 1 ≤ s.clk.now → 
    ∃ t, Sys2Proof.Machine.exec (.fanTachRecovered f) s = .next t ∧
      t.fanState f = 2 ∧
      t.fld (Fd.FAN_STAT_DRIVE f) = s.fanGoal f % 65536 ∧
      Changes [] [Reg.FAN_STAT f] s t) ∧
  (∀ (w : Fin 8) (f : Fin 32) (s : State),
    s.WriteTaken w (Reg.FAN_CMD f) 1 true → s.fanState f = 4 → 
    ∃ t, Sys2Proof.Machine.exec (.fanRetry w f) s = .next t ∧
      WroteOk t w (Reg.FAN_CMD f) ∧
      (t.fanState f = 0 ∨ t.fanState f = 1) ∧
      t.fld (Fd.FAN_STAT_ATTEMPT f) ≤ 1 ∧
      Changes [.zh, .acts, .out] [Reg.FAN_STAT f] s t) ∧
  (∀ (d : Fin 64) (s : State),
    s.on (Fd.ACT_FDEM_SRC d) = false → s.demandFresh d = false → 
    ∃ t, Sys2Proof.Machine.exec (.fanDemandSilent d) s = .next t ∧
      t.on (Fd.ACT_FDEM_SILENT d) = true ∧
      t.fld (Fd.ACT_FDEM_VAL d) = s.fld (Fd.ACT_FDEM_VAL d) ∧
      Changes [] [Reg.ACT_FDEM d] s t) ∧
  (∀ (s : State) (t0 : Nat),
    s.on Fd.ACT_STAT_OVERBUDGET = false → s.anyPull = false → s.acts.overFrom = some t0 → t0 + msTicks 5 ≤ s.clk.now → s.acts.pull = false → 
    ∃ t, Sys2Proof.Machine.exec .actuatorOverbudget s = .next t ∧
      t.on Fd.ACT_STAT_OVERBUDGET = true ∧
      t.on Fd.ACT_STAT_PULLBACK = true ∧
      t.acts.pull = true ∧
      t.acts.limit = pullLimit s.budgetMa s.solDraw s.pulledFans.length ∧
      t.rd Reg.ACT_CNT_PULLBACK = satCount (s.rd Reg.ACT_CNT_PULLBACK) 1 ∧
      Only [.acts, .regs, .firn] s t) ∧
  (∀ (s : State),
    s.acts.wearAt + sTicks 600 ≤ s.clk.now → 
    ∃ t, Sys2Proof.Machine.exec .wearCounterSave s = .next t ∧
      t.acts.nvWear = s.wearWords ∧
      t.acts.wearAt = s.clk.now ∧
      Only [.acts] s t)

/-- Field input events take effect: an input fault is set and clears, a suspect mark clears, a converter check acts, a spare is assigned and
released, and a configuration is written. Commands: FIELD_INPUT_FAULT, FIELD_INPUT_FAULT_CLEAR, SUSPECT_CLEAR, CONVERTER_CHECK, SPAI_ASSIGN,
SPAI_RELEASE, FIELD_INPUT_CONFIG_WRITE. Formalises what R127, R128, R129, R132, R345, R611 say of these cases. Choices of the model that
bear on its clauses: log entry 89. -/
def Obligations.FieldInputsTakeEffect : Prop :=
  (∀ (i : Fin 144) (s : State),
    10 ≤ Tab.at 0 s.field.beyond i → (s.fsup i).fault = false → s.isTemp i = true → 
    ∃ t, Sys2Proof.Machine.exec (.fieldInputFault i) s = .next t ∧
      (t.fsup i).fault = true ∧
      t.fld (Fd.PRT_FSUP_STATE i) = 2 ∧
      t.on (Fd.PRT_FSUP_ACK_REQ i) = true ∧
      t.on Fd.PRT_EVT_FFAULT = true ∧
      Changes [.field, .firn] [Reg.PRT_FSUP i, Reg.PRT_EVT, Reg.PRT_EVT_SEQ] s t) ∧
  (∀ (i : Fin 144) (s : State),
    Tab.at 0 s.field.beyond i < 10 → 
    ∃ t, Sys2Proof.Machine.exec (.fieldInputFault i) s = .next t ∧
      t = s) ∧
  (∀ (i : Fin 144) (s : State) (t0 : Nat),
    (s.fsup i).fault = true → s.converterGood i = true → (s.fsup i).validFrom = some t0 → t0 + sTicks 1 ≤ s.clk.now → 
    ∃ t, Sys2Proof.Machine.exec (.fieldInputFaultClear (.field i)) s = .next t ∧
      (t.fsup i).fault = false ∧
      Changes [.field] [Reg.PRT_FSUP i] s t) ∧
  (∀ (sid : Fin 262144) (s : State) (t0 : Nat),
    (s.strm sid).sup.fault = true → (s.strm sid).sup.validFrom = some t0 → t0 + sTicks 1 ≤ (s.strm sid).sup.lastRead → 
    ∃ t, Sys2Proof.Machine.exec (.fieldInputFaultClear (.stream sid)) s = .next t ∧
      (t.strm sid).sup.fault = false ∧
      t.on (Fd.STM_SUP_AGENT_FAULT sid) = false ∧
      Changes [.stm] [Reg.STM_SUP sid] s t) ∧
  (∀ (i : Fin 144) (s : State),
    ((s.fsup i).fault = false ∨ s.converterGood i = false ∨ (s.fsup i).validFrom.all (fun t0 => decide (s.clk.now < t0 + sTicks 1)) = true) → 
    ∃ t, Sys2Proof.Machine.exec (.fieldInputFaultClear (.field i)) s = .next t ∧
      t = s) ∧
  (∀ (sid : Fin 262144) (s : State),
    ((s.strm sid).sup.fault = false ∨ (s.strm sid).sup.validFrom.all (fun t0 => decide ((s.strm sid).sup.lastRead < t0 + sTicks 1)) = true) → 
    ∃ t, Sys2Proof.Machine.exec (.fieldInputFaultClear (.stream sid)) s = .next t ∧
      t = s) ∧
  (∀ (x : TempSource) (s : State),
    (s.mainAbsent = true ∨ s.clk.sidx.toNat % 100 ≠ 0) → 
    ∃ t, Sys2Proof.Machine.exec (.suspectClear x) s = .next t ∧
      t = s) ∧
  (∀ (i : Fin 144) (s : State),
    s.mainAbsent = false → s.clk.sidx.toNat % 100 = 0 → s.mayClear (s.fsup i) (s.on (Fd.PRT_FSUP_ACK_REQ i)) = true → 
    ∃ t, Sys2Proof.Machine.exec (.suspectClear (.field i)) s = .next t ∧
      (t.fsup i).suspect = false ∧
      Changes [.field] [Reg.PRT_FSUP i] s t) ∧
  (∀ (sid : Fin 262144) (s : State),
    s.mainAbsent = false → s.clk.sidx.toNat % 100 = 0 → s.mayClear (s.strm sid).sup (s.on (Fd.STM_SUP_ACK_REQ sid)) = true → 
    ∃ t, Sys2Proof.Machine.exec (.suspectClear (.stream sid)) s = .next t ∧
      (t.strm sid).sup.suspect = false ∧
      t.on (Fd.STM_SUP_PAIR sid) = false ∧
      Changes [.stm] [Reg.STM_SUP sid, Reg.PAIR_STAT (s.fld (Fd.STM_CFG_PAIR sid))] s t) ∧
  (∀ (c : Fin 128) (s : State),
    Tab.at 0 s.field.conv c = 2 → (s.fsup c).fault = false → s.on (Fd.SPAI_STAT_ASSIGNED (c / 8)) = false → 
    ∃ t, Sys2Proof.Machine.exec (.converterCheck [c] []) s = .next t ∧
      Tab.at 0 t.field.conv c = 3 ∧
      (t.fsup c).fault = true ∧
      t.on (Fd.SPAI_STAT_FAILED (c / 8)) = false) ∧
  (∀ (w : Fin 8) (sp : Fin 16) (inp : Fin 8) (s : State),
    s.WriteTaken w (Reg.SPAI_CMD sp) (BitVec.ofNat 32 (1 + 16 * inp.val)) true → s.on (Fd.SPAI_STAT_FAILED sp) = false → s.on (Fd.SPAI_STAT_ASSIGNED sp) = false → 
    ∃ t, Sys2Proof.Machine.exec (.spaiAssign w sp inp) s = .next t ∧
      WroteOk t w (Reg.SPAI_CMD sp) ∧
      t.on (Fd.SPAI_STAT_ASSIGNED sp) = true ∧
      t.fld (Fd.SPAI_STAT_INPUT sp) = 8 * sp + inp ∧
      t.fld Fd.LOP_INMAP_ID = (s.fld Fd.LOP_INMAP_ID + 1) % 2 ^ Fd.LOP_INMAP_ID.width ∧
      t.on Fd.ACT_EVT_SPARE_AI = true) ∧
  (∀ (w : Fin 8) (sp : Fin 16) (inp : Fin 8) (s : State),
    s.WriteTaken w (Reg.SPAI_CMD sp) (BitVec.ofNat 32 (2 + 16 * inp.val)) true → s.on (Fd.SPAI_STAT_ASSIGNED sp) = true → Tab.has s.field.conv (s.fld (Fd.SPAI_STAT_INPUT sp)) = false → 
    ∃ t, Sys2Proof.Machine.exec (.spaiRelease w sp inp) s = .next t ∧
      WroteOk t w (Reg.SPAI_CMD sp) ∧
      t.on (Fd.SPAI_STAT_ASSIGNED sp) = false ∧
      t.fld Fd.LOP_INMAP_ID = (s.fld Fd.LOP_INMAP_ID + 1) % 2 ^ Fd.LOP_INMAP_ID.width) ∧
  (∀ (w : Fin 8) (i : Fin 144) (word : Fin 3) (value : Word) (s : State),
    s.WriteTaken w (Reg.IN_CFG i + 4 * word.val) value (crossField s (Reg.IN_CFG i + 4 * word.val) value) → 
    ∃ t, Sys2Proof.Machine.exec (.fieldInputConfigWrite w i word value) s = .next t ∧
      WroteOk t w (Reg.IN_CFG i + 4 * word.val) ∧
      t.rd (Reg.IN_CFG i + 4 * word.val) = (s.plainWrite (Reg.IN_CFG i + 4 * word.val) value).rd (Reg.IN_CFG i + 4 * word.val) ∧
      Tab.has t.field.beyond i = false ∧
      Changes [.zh, .field, .out] [Reg.IN_CFG i + 4 * word.val, Reg.PRT_FSUP i] s t) ∧
  (∀ (i : Fin 144) (s : State),
    s.mayClear (s.fsup i) (s.on (Fd.PRT_FSUP_ACK_REQ i)) = false → 
    ∃ t, Sys2Proof.Machine.exec (.suspectClear (.field i)) s = .next t ∧
      t = s) ∧
  (∀ (sid : Fin 262144) (s : State),
    s.mayClear (s.strm sid).sup (s.on (Fd.STM_SUP_ACK_REQ sid)) = false → 
    ∃ t, Sys2Proof.Machine.exec (.suspectClear (.stream sid)) s = .next t ∧
      t = s) ∧
  (∀ (w : Fin 8) (sp : Fin 16) (inp : Fin 8) (s : State),
    s.WriteTaken w (Reg.SPAI_CMD sp) (BitVec.ofNat 32 (1 + 16 * inp.val)) true → (s.on (Fd.SPAI_STAT_FAILED sp) = true ∨ s.on (Fd.SPAI_STAT_ASSIGNED sp) = true) → 
    ∃ t, Sys2Proof.Machine.exec (.spaiAssign w sp inp) s = .next t ∧
      WroteOk t w (Reg.SPAI_CMD sp) ∧
      Changes [.zh, .out] [] s t) ∧
  (∀ (w : Fin 8) (sp : Fin 16) (inp : Fin 8) (s : State),
    s.WriteTaken w (Reg.SPAI_CMD sp) (BitVec.ofNat 32 (2 + 16 * inp.val)) true → (s.on (Fd.SPAI_STAT_ASSIGNED sp) = false ∨ Tab.has s.field.conv (s.fld (Fd.SPAI_STAT_INPUT sp)) = true) → 
    ∃ t, Sys2Proof.Machine.exec (.spaiRelease w sp inp) s = .next t ∧
      WroteOk t w (Reg.SPAI_CMD sp) ∧
      Changes [.zh, .out] [] s t) ∧
  (∀ (bad : List (Fin 128)) (spareBad : List (Fin 16)) (s : State),
    (bad = [] ∧ s.field.conv = [] ∧ (∀ k, k < 16 → s.on (Fd.SPAI_STAT_ASSIGNED k) = false)) → 
    ∃ t, Sys2Proof.Machine.exec (.converterCheck bad spareBad) s = .next t ∧
      (∀ k : Fin 16, t.on (Fd.SPAI_STAT_FAILED k) = spareBad.contains k) ∧
      Only [.field, .regs] s t)

/-- Leak sequences start and isolate: leak inputs are judged, LEAK, LEAK_FAST and GFAULT sequences start, a wait ends, an isolated rack trips,
and loop leaks raise their alarms. Commands: LEAK_MEASUREMENT, IMBALANCE_CHECK, LEAK, LEAK_FAST, GFAULT, LEAK_WAIT_EXPIRY, ISO_TRIP,
LOOP_LEAK, LOOP_GFAULT. Formalises what R354, R360, R361, R363, R364, R365, R366, R367, R370, R372 say of these cases. Choices of the model
that bear on its clauses: log entries 22, 52, 54, 55, 88. -/
def Obligations.LeakSequencesStart : Prop :=
  (∀ (i : Fin 80) (r : Nat) (s : State),
    s.prt.leak = [] → (s.leakCfg i).2 = true → 1 < s.fld Fd.PRT_LEAK_CFG0_LEAK_CONF → 1 < s.fld Fd.PRT_LEAK_CFG0_SPOT_CONF → 
    ∃ t, Sys2Proof.Machine.exec (.leakMeasurement [(i, r)]) s = .next t ∧
      (t.leakIn i).res = r ∧
      fieldOf (t.rd (leakStat i)) 0 2 = leakBand r (s.leakCfg i).1 (s.fld Fd.PRT_LEAK_CFG1_WET_PCT) (s.fld Fd.PRT_LEAK_CFG1_OPEN_PCT) ∧
      t.wetConf i = false ∧
      Changes [.prt] [leakStat i] s t) ∧
  (∀ (i : Fin 80) (r : Nat) (s : State),
    s.leakInputs = [i.val] → (s.leakCfg i).2 = true → leakBand r (s.leakCfg i).1 (s.fld Fd.PRT_LEAK_CFG1_WET_PCT) (s.fld Fd.PRT_LEAK_CFG1_OPEN_PCT) = 1 → ((if i.val < 48 then s.fld Fd.PRT_LEAK_CFG0_LEAK_CONF else s.fld Fd.PRT_LEAK_CFG0_SPOT_CONF) ≤ (s.leakIn i).wet + 1) → 
    ∃ t, Sys2Proof.Machine.exec (.leakMeasurement [(i, r)]) s = .next t ∧
      (t.leakIn i).wet = (s.leakIn i).wet + 1 ∧
      t.wetConf i = true ∧
      Changes [.prt] [leakStat i] s t) ∧
  (∀ (s : State),
    s.prt.leak = [] → 
    ∃ t, Sys2Proof.Machine.exec (.leakMeasurement []) s = .next t ∧
      t = s) ∧
  (∀ (rack : Fin 48) (s : State) (i thr : Int),
    s.imbalance rack = some (i, thr) → thr < i → (s.rackP rack).above = none → 0 ≤ thr → 
    ∃ t, Sys2Proof.Machine.exec (.imbalanceCheck rack) s = .next t ∧
      (t.rackP rack).above = some s.clk.now ∧
      (t.rackP rack).reversed = none ∧
      t.rd (Reg.RK_IMBV rack) = wordOf (some i) ∧
      Changes [.prt] [Reg.RK_IMBV rack] s t) ∧
  (∀ (rack : Fin 48) (s : State), ∃ t, Sys2Proof.Machine.exec (.imbalanceCheck rack) s = .next t ∧
      t.rd (Reg.RK_IMBV rack) = wordOf ((s.imbalance rack).map (·.1)) ∧
      (s.imbalance rack = none → (t.rackP rack).above = none ∧ (t.rackP rack).reversed = none ∧ (t.rackP rack).imbTold = false) ∧
      Changes [.prt] [Reg.RK_IMBV rack] s t) ∧
  (∀ (rack : Fin 48) (s : State),
    ((s.wetGuards rack).any (fun i => !(s.leakIn i).told) = true) → 
    ∃ t, Sys2Proof.Machine.exec (.leak rack) s = .next t ∧
      t.rackActive rack seqLeak = true ∧
      bitOf (t.fld (Fd.RK_ACT_ACK_REQ rack)) seqLeak = true ∧
      t.rd Reg.PRT_CNT_LEAK = satCount (s.rd Reg.PRT_CNT_LEAK) 1) ∧
  (∀ (rack : Fin 48) (s : State),
    ((s.wetGuards rack).all (fun i => (s.leakIn i).told) = true) → (s.since (s.rackP rack).above s.imbPersist = false ∨ (s.rackP rack).imbTold = true) → 
    ∃ t, Sys2Proof.Machine.exec (.leak rack) s = .next t ∧
      t = s) ∧
  (∀ (rack : Fin 48) (s : State),
    ((s.wetGuards rack).all (fun i => decide (i < 48)) = true ∨ (s.rackP rack).above = none ∨ (s.rackP rack).fastTold = true) → 
    ∃ t, Sys2Proof.Machine.exec (.leakFast rack) s = .next t ∧
      t = s) ∧
  (∀ (rack : Fin 48) (s : State),
    (s.rackFaulted rack = false ∨ (s.rackP rack).gfTold = true) → 
    ∃ t, Sys2Proof.Machine.exec (.gfault rack) s = .next t ∧
      t = s) ∧
  (∀ (rack : Fin 48) (s : State),
    (s.drives = false ∨ s.rackActive rack seqLeak = false ∨ (s.rackP rack).asked = true ∨ s.since (s.rackP rack).leakAt (msTicks (s.fld Fd.PRT_ISO_CFG_LEAK_WAIT)) = false) → 
    ∃ t, Sys2Proof.Machine.exec (.leakWaitExpiry rack) s = .next t ∧
      t = s) ∧
  (∀ (rack : Fin 48) (s : State),
    (s.isolated rack = false ∨ (s.rackP rack).isoTrip = true ∨ s.since (s.rackP rack).closedAt (sTicks (s.fld Fd.PRT_ISO_CFG_ISO_TRIP_S)) = false) → 
    ∃ t, Sys2Proof.Machine.exec (.isoTrip rack) s = .next t ∧
      t = s) ∧
  (∀ (s : State),
    ((s.wetGuards 48).all (fun i => (s.leakIn i).told) = true) → 
    ∃ t, Sys2Proof.Machine.exec .loopLeak s = .next t ∧
      t = s) ∧
  (∀ (s : State),
    (s.loopFaulted = false ∨ s.prt.gfTold = true) → 
    ∃ t, Sys2Proof.Machine.exec .loopGfault s = .next t ∧
      t = s) ∧
  (∀ (rack : Fin 48) (s : State),
    s.since (s.rackP rack).above s.imbPersist = true → (s.rackP rack).imbTold = false → s.rackActive rack seqLeak = false → s.rackActive rack seqLeakFast = false → 
    ∃ t, Sys2Proof.Machine.exec (.leak rack) s = .next t ∧
      t.rackActive rack seqLeak = true ∧
      bitOf (t.fld (Fd.RK_ACT_ACK_REQ rack)) seqLeak = true ∧
      t.rd Reg.PRT_CNT_LEAK = satCount (s.rd Reg.PRT_CNT_LEAK) 1 ∧
      (t.rackP rack).leakAt = some s.clk.now ∧
      (s.drives = true → s.anySequence = false → s.opState ≠ 7 → s.opState ≠ 8 → t.opState = 7)) ∧
  (∀ (rack : Fin 48) (s : State),
    ((s.wetGuards rack).any (fun i => decide (48 ≤ i)) = true) → (s.rackP rack).above.isSome = true → (s.rackP rack).fastTold = false → 
    ∃ t, Sys2Proof.Machine.exec (.leakFast rack) s = .next t ∧
      t.rackActive rack seqLeakFast = true ∧
      bitOf (t.fld (Fd.RK_ACT_ACK_REQ rack)) seqLeakFast = true ∧
      t.rd Reg.PRT_CNT_LEAK = satCount (s.rd Reg.PRT_CNT_LEAK) 1 ∧
      (s.drives = true → (t.rackP rack).asked = true)) ∧
  (∀ (rack : Fin 48) (s : State),
    s.rackFaulted rack = true → (s.rackP rack).gfTold = false → 
    ∃ t, Sys2Proof.Machine.exec (.gfault rack) s = .next t ∧
      t.rackActive rack seqGfault = true ∧
      bitOf (t.fld (Fd.RK_ACT_ACK_REQ rack)) seqGfault = true ∧
      t.rd Reg.PRT_CNT_GFAULT = satCount (s.rd Reg.PRT_CNT_GFAULT) 1) ∧
  (∀ (rack : Fin 48) (s : State),
    s.drives = true → s.rackActive rack seqLeak = true → (s.rackP rack).asked = false → s.since (s.rackP rack).leakAt (msTicks (s.fld Fd.PRT_ISO_CFG_LEAK_WAIT)) = true → s.on Fd.PRT_CTRL_ISO_AUTO = true → s.isolated rack = false → s.bankCut (rack / 8) = false → (s.sol rack).req = none → 
    ∃ t, Sys2Proof.Machine.exec (.leakWaitExpiry rack) s = .next t ∧
      (t.rackP rack).asked = true ∧
      (t.sol rack).req = some ⟨1, true, (s.rd Reg.ACT_REQ_SEQ + 1).toNat, s.clk.now, 0, none, false⟩ ∧
      t.rd (Reg.SOL_SEQ rack) = s.rd Reg.ACT_REQ_SEQ + 1) ∧
  (∀ (rack : Fin 48) (s : State),
    s.isolated rack = true → (s.rackP rack).isoTrip = false → s.since (s.rackP rack).closedAt (sTicks (s.fld Fd.PRT_ISO_CFG_ISO_TRIP_S)) = true → s.drives = true → 
    ∃ t, Sys2Proof.Machine.exec (.isoTrip rack) s = .next t ∧
      (t.rackP rack).isoTrip = true ∧
      t.on (Fd.RK_OUT_TRIP rack) = true) ∧
  (∀ (s : State),
    ((s.wetGuards 48).any (fun i => !(s.leakIn i).told) = true) → 
    ∃ t, Sys2Proof.Machine.exec .loopLeak s = .next t ∧
      t.loopActive 5 = true ∧
      bitOf (t.fld Fd.PRT_LOOPSTAT_ACK_REQ) 5 = true ∧
      t.prt.loopInputs ≠ []) ∧
  (∀ (s : State),
    s.loopFaulted = true → s.prt.gfTold = false → 
    ∃ t, Sys2Proof.Machine.exec .loopGfault s = .next t ∧
      t.loopActive 6 = true ∧
      bitOf (t.fld Fd.PRT_LOOPSTAT_ACK_REQ) 6 = true ∧
      t.prt.gfTold = true ∧
      t.rd Reg.PRT_CNT_GFAULT = satCount (s.rd Reg.PRT_CNT_GFAULT) 1)

/-- Flow, die and limit sequences start: flow samples are judged, and hard die, hard limit, supply and lost-digest conditions start their
sequences or alarms. Commands: FLOW_SAMPLE_10MS, FLOW_EVAL_100MS, GUARD_DIGEST, DIE_HARD, DIGEST_LOST, LIM_HARD, LOOP_LIM_HARD, SUP_HARD.
Formalises what R140, R354, R373, R374, R377, R379, R380, R382, R384, R387 say of these cases. Choices of the model that bear on its
clauses: log entries 11, 22, 51, 54, 55, 88, 89. -/
def Obligations.FlowDieAndLimitSequencesStart : Prop :=
  (∀ (s : State),
    s.rd Reg.PRT_QNOM ≠ 0 → s.fld Fd.PRT_FLOW_SRC_KIND ≠ 0 → s.fellSudden s.prt.flow (s.rd Reg.PRT_QNOM).toNat = true → s.prt.sudTold = false → s.on Fd.PRT_CTRL_FC_SUDDEN = false → s.loopActive 4 = false → ((s.listed (Reg.RK_FLOWSRC 0) 0x40 48).all (fun r => s.fld (Fd.RK_FLOWSRC_SUP_KIND r) == 0) = true) → 
    ∃ t, Sys2Proof.Machine.exec .flowSample10ms s = .next t ∧
      t.loopActive 1 = true ∧
      bitOf (t.fld Fd.PRT_LOOPSTAT_ACK_REQ) 1 = true ∧
      t.rd Reg.PRT_CNT_FLOW = satCount (s.rd Reg.PRT_CNT_FLOW) 1 ∧
      t.prt.sudTold = true) ∧
  (∀ (s : State),
    (s.rd Reg.PRT_QNOM = 0 ∨ s.fld Fd.PRT_FLOW_SRC_KIND = 0 ∨ s.fellSudden s.prt.flow (s.rd Reg.PRT_QNOM).toNat = false) → ((s.listed (Reg.RK_FLOWSRC 0) 0x40 48).all (fun r => s.fld (Fd.RK_FLOWSRC_SUP_KIND r) == 0) = true) → 
    ∃ t, Sys2Proof.Machine.exec .flowSample10ms s = .next t ∧
      t.prt = { s.prt with sudTold := false } ∧
      Only [.prt] s t) ∧
  (∀ (s : State) (l : List Int),
    { s with prt := { s.prt with qs := (s.prt.flow.mean 0 100 :: s.prt.qs).take 100 } }.lastQs = some l → 
    ∃ t, Sys2Proof.Machine.exec .flowEval100ms s = .next t ∧
      t.prt.qs = (s.prt.flow.mean 0 100 :: s.prt.qs).take 100 ∧
      t.rd Reg.PRT_SLOPE = BitVec.ofInt 32 (clampInt (-2147483647) 2147483647 (roundDiv (slopeSum l) 16665)) ∧
      t.prt.slowTold = (decide (s.rd Reg.PRT_QNOM ≠ 0) && decide (s.fld Fd.PRT_FLOW_SRC_KIND ≠ 0) && s.slopeLow (slopeSum l))) ∧
  (∀ (s : State), ∃ t, Sys2Proof.Machine.exec .flowEval100ms s = .next t ∧
      t.prt.qs = (s.prt.flow.mean 0 100 :: s.prt.qs).take 100 ∧
      (t.rd Reg.PRT_Q = (match s.prt.flow.mean 0 100 with | some x => BitVec.ofInt 32 x | none => 0xFFFFFFFF)) ∧
      (s.prt.qs.length < 99 → t.rd Reg.PRT_SLOPE = 0xFFFFFFFF)) ∧
  (∀ (s : State) (d : Digest),
    s.stm.digest = some d → 
    ∃ t, Sys2Proof.Machine.exec .guardDigest s = .next t ∧
      t.stm.digest = none ∧
      t.prt.entries = d.entries ∧
      t.prt.judge = true ∧
      t.prt.missed = 0 ∧
      Only [.stm, .prt] s t) ∧
  (∀ (s : State),
    s.stm.digest = none → 
    ∃ t, Sys2Proof.Machine.exec .guardDigest s = .next t ∧
      t = s) ∧
  (∀ (rack : Fin 48) (s : State),
    (s.hardAccs rack = [] ∨ s.on Fd.PRT_STAT_DIGEST_LOST = true) → 
    ∃ t, Sys2Proof.Machine.exec (.dieHard rack) s = .next t ∧
      t = s) ∧
  (∀ (rack : Fin 48) (s : State),
    s.hardAccs rack ≠ [] → s.on Fd.PRT_STAT_DIGEST_LOST = false → 
    ∃ t, Sys2Proof.Machine.exec (.dieHard rack) s = .next t ∧
      t.rackActive rack seqDieHard = true ∧
      bitOf (t.fld (Fd.RK_ACT_ACK_REQ rack)) seqDieHard = true ∧
      t.rd Reg.PRT_CNT_LIMIT = satCount (s.rd Reg.PRT_CNT_LIMIT) 1 ∧
      t.prt.hardTold = s.prt.hardTold ++ s.hardAccs rack) ∧
  (∀ (s : State),
    3 ≤ s.prt.missed → s.on Fd.PRT_STAT_DIGEST_LOST = false → 
    ∃ t, Sys2Proof.Machine.exec .digestLost s = .next t ∧
      t.on Fd.PRT_STAT_DIGEST_LOST = true ∧
      t.loopActive 4 = true ∧
      t.prt.entries = [] ∧
      t.prt.hard = []) ∧
  (∀ (s : State),
    (s.prt.missed < 3 ∨ s.on Fd.PRT_STAT_DIGEST_LOST = true) → 
    ∃ t, Sys2Proof.Machine.exec .digestLost s = .next t ∧
      t = s) ∧
  (∀ (e : Fin 32) (s : State),
    (e.val = 0 ∨ 48 ≤ s.fld (Fd.LIM_CFG_SCOPE e) ∨ s.limHardDue e = false) → 
    ∃ t, Sys2Proof.Machine.exec (.limHard e) s = .next t ∧
      t = s) ∧
  (∀ (e : Fin 32) (s : State),
    e.val ≠ 0 → s.fld (Fd.LIM_CFG_SCOPE e) < 48 → s.limHardDue e = true → s.fld (Fd.LIM_CFG_ACTION e) = 4 → 
    ∃ t, Sys2Proof.Machine.exec (.limHard e) s = .next t ∧
      t.on (Fd.LIM_STAT_HARD e) = true ∧
      t.rackActive (s.fld (Fd.LIM_CFG_SCOPE e)) seqLimHard = true ∧
      t.on Fd.PRT_STAT_FULLCOOL = true ∧
      (t.limP e).active = true ∧
      t.rd Reg.PRT_CNT_LIMIT = satCount (s.rd Reg.PRT_CNT_LIMIT) 1) ∧
  (∀ (e : Fin 32) (s : State),
    e.val ≠ 0 → s.fld (Fd.LIM_CFG_SCOPE e) < 48 → s.limHardDue e = true → s.fld (Fd.LIM_CFG_ACTION e) = 0 → 
    ∃ t, Sys2Proof.Machine.exec (.limHard e) s = .next t ∧
      t.on (Fd.LIM_STAT_HARD e) = true ∧
      t.on (Fd.LIM_STAT_ACK_REQ e) = true ∧
      t.rackActive (s.fld (Fd.LIM_CFG_SCOPE e)) seqLimHard = s.rackActive (s.fld (Fd.LIM_CFG_SCOPE e)) seqLimHard ∧
      t.rd Reg.PRT_CNT_LIMIT = satCount (s.rd Reg.PRT_CNT_LIMIT) 1) ∧
  (∀ (e : Fin 32) (s : State),
    (e.val = 0 ∨ s.fld (Fd.LIM_CFG_SCOPE e) ≠ 0xFE ∨ s.limHardDue e = false) → 
    ∃ t, Sys2Proof.Machine.exec (.loopLimHard e) s = .next t ∧
      t = s) ∧
  (∀ (s : State),
    s.limHardDue 0 = false → 
    ∃ t, Sys2Proof.Machine.exec .supHard s = .next t ∧
      t = s) ∧
  (∀ (e : Fin 32) (s : State),
    e.val ≠ 0 → s.fld (Fd.LIM_CFG_SCOPE e) < 48 → s.limHardDue e = true → s.fld (Fd.LIM_CFG_ACTION e) ≠ 0 → 
    ∃ t, Sys2Proof.Machine.exec (.limHard e) s = .next t ∧
      t.on (Fd.LIM_STAT_HARD e) = true ∧
      t.on (Fd.LIM_STAT_ACK_REQ e) = true ∧
      t.rackActive (s.fld (Fd.LIM_CFG_SCOPE e)) seqLimHard = true ∧
      (t.limP e).active = true ∧
      t.rd Reg.PRT_CNT_LIMIT = satCount (s.rd Reg.PRT_CNT_LIMIT) 1) ∧
  (∀ (e : Fin 32) (s : State),
    e.val ≠ 0 → s.fld (Fd.LIM_CFG_SCOPE e) = 0xFE → s.limHardDue e = true → s.fld (Fd.LIM_CFG_ACTION e) ≠ 0 → 
    ∃ t, Sys2Proof.Machine.exec (.loopLimHard e) s = .next t ∧
      t.on (Fd.LIM_STAT_HARD e) = true ∧
      t.on (Fd.LIM_STAT_ACK_REQ e) = true ∧
      t.loopActive 3 = true ∧
      (t.limP e).active = true ∧
      t.rd Reg.PRT_CNT_LIMIT = satCount (s.rd Reg.PRT_CNT_LIMIT) 1) ∧
  (∀ (s : State),
    s.limHardDue 0 = true → 
    ∃ t, Sys2Proof.Machine.exec .supHard s = .next t ∧
      t.on (Fd.LIM_STAT_HARD 0) = true ∧
      t.loopActive 2 = true ∧
      t.on Fd.PRT_STAT_FULLCOOL = true ∧
      (s.drives = true → t.opState = 8) ∧
      t.rd Reg.PRT_CNT_LIMIT = satCount (s.rd Reg.PRT_CNT_LIMIT) 1)

/-- Protection ends and is acknowledged: a sequence ends when its condition has gone, a power-off request repeats, FULLCOOL ends by itself, and
PRT_ACK acknowledges. Commands: SEQUENCE_END, POWEROFF_NOTICE_REPEAT, FULLCOOL_AUTO_EXIT, PRT_ACK. Formalises what R356, R358, R385, R391
say of these cases. Choices of the model that bear on its clauses: log entries 27, 54, 89. -/
def Obligations.ProtectionEndsAndAnswers : Prop :=
  (∀ (r : Fin 48) (b : Fin 8) (s : State),
    s.rackActive r b = true → bitOf (s.fld (Fd.RK_ACT_ACK_REQ r)) b = false → s.rackEnds r b = true → 
    ∃ t, Sys2Proof.Machine.exec (.sequenceEnd (.rack r b)) s = .next t ∧
      t.rackActive r b = false ∧
      t.fld (Fd.RK_ACT_ACK_REQ r) = s.fld (Fd.RK_ACT_ACK_REQ r)) ∧
  (∀ (b : Fin 7) (s : State),
    s.loopActive b = true → bitOf (s.fld Fd.PRT_LOOPSTAT_ACK_REQ) b = false → s.loopEnds b = true → 
    ∃ t, Sys2Proof.Machine.exec (.sequenceEnd (.loop b)) s = .next t ∧
      t.loopActive b = false ∧
      t.fld Fd.PRT_LOOPSTAT_ACK_REQ = s.fld Fd.PRT_LOOPSTAT_ACK_REQ) ∧
  (∀ (r : Fin 48) (b : Fin 8) (s : State),
    (s.rackActive r b = false ∨ bitOf (s.fld (Fd.RK_ACT_ACK_REQ r)) b = true ∨ s.rackEnds r b = false) → 
    ∃ t, Sys2Proof.Machine.exec (.sequenceEnd (.rack r b)) s = .next t ∧
      t = s) ∧
  (∀ (b : Fin 7) (s : State),
    (s.loopActive b = false ∨ bitOf (s.fld Fd.PRT_LOOPSTAT_ACK_REQ) b = true ∨ s.loopEnds b = false) → 
    ∃ t, Sys2Proof.Machine.exec (.sequenceEnd (.loop b)) s = .next t ∧
      t = s) ∧
  (∀ (rack : Fin 48) (s : State),
    (s.on (Fd.RK_OUT_POWEROFF rack) = false ∨ s.mainAbsent = true ∨ s.clk.now < (s.rackP rack).noticeAt + sTicks 1) → 
    ∃ t, Sys2Proof.Machine.exec (.poweroffNoticeRepeat rack) s = .next t ∧
      t = s) ∧
  (∀ (s : State),
    (s.on Fd.PRT_STAT_FULLCOOL = false ∨ s.on Fd.PRT_STAT_FC_CMD = true ∨ s.prt.fcAuto = none ∨ s.fcAutoOver = false) → 
    ∃ t, Sys2Proof.Machine.exec .fullcoolAutoExit s = .next t ∧
      t = s) ∧
  (∀ (w : Fin 8) (i : Fin 256) (s : State),
    s.WriteTaken w Reg.PRT_ACK (BitVec.ofNat 32 (512 + i)) (crossPrt s Reg.PRT_ACK (BitVec.ofNat 32 (512 + i))) → 
    ∃ t, Sys2Proof.Machine.exec (.prtAck w (BitVec.ofNat 32 (512 + i))) s = .next t ∧
      WroteOk t w Reg.PRT_ACK ∧
      t.field = { s.field with acks := s.field.acks ++ [i.val] } ∧
      Changes [.zh, .field, .out] [] s t) ∧
  (∀ (w : Fin 8) (s : State),
    s.WriteTaken w Reg.PRT_ACK 256 (crossPrt s Reg.PRT_ACK 256) → 
    ∃ t, Sys2Proof.Machine.exec (.prtAck w 256) s = .next t ∧
      WroteOk t w Reg.PRT_ACK ∧
      t.fld Fd.PRT_LOOPSTAT_ACK_REQ = 0) ∧
  (∀ (w : Fin 8) (value : Word) (s : State),
    s.WriteTaken w Reg.PRT_ACK value (crossPrt s Reg.PRT_ACK value) → fieldOf value 31 1 = 1 → 
    ∃ t, Sys2Proof.Machine.exec (.prtAck w value) s = .next t ∧
      WroteOk t w Reg.PRT_ACK ∧
      t.fld Fd.PRT_LOOPSTAT_ACK_REQ = 0 ∧
      t.field.ackAll = true ∧
      (∀ rack ∈ s.racksListed, t.fld (Fd.RK_ACT_ACK_REQ rack) = 0)) ∧
  (∀ (rack : Fin 48) (s : State),
    s.on (Fd.RK_OUT_POWEROFF rack) = true → s.mainAbsent = false → (s.rackP rack).noticeAt + sTicks 1 ≤ s.clk.now → 
    ∃ t, Sys2Proof.Machine.exec (.poweroffNoticeRepeat rack) s = .next t ∧
      (t.rackP rack).noticeAt = s.clk.now ∧
      (t.rackP rack).notices = (s.rackP rack).notices + 1 ∧
      (t.out.length = s.out.length + (s.openSlots.filter (fun k => s.hasRole k roleFacility)).length) ∧
      Changes [.prt, .zh, .out] [] s t) ∧
  (∀ (s : State),
    s.on Fd.PRT_STAT_FULLCOOL = true → s.on Fd.PRT_STAT_FC_CMD = false → s.prt.fcAuto.isSome = true → s.fcAutoOver = true → 
    ∃ t, Sys2Proof.Machine.exec .fullcoolAutoExit s = .next t ∧
      t.on Fd.PRT_STAT_FULLCOOL = false ∧
      t.prt.fcAuto = none ∧
      (s.opState = 8 → s.anySequence = true → t.opState = 7) ∧
      (s.opState = 8 → s.anySequence = false → t.opState = s.returnTarget)) ∧
  (∀ (w : Fin 8) (r : Fin 48) (s : State),
    s.WriteTaken w Reg.PRT_ACK (BitVec.ofNat 32 r) (crossPrt s Reg.PRT_ACK (BitVec.ofNat 32 r)) → 
    ∃ t, Sys2Proof.Machine.exec (.prtAck w (BitVec.ofNat 32 r)) s = .next t ∧
      WroteOk t w Reg.PRT_ACK ∧
      t.fld (Fd.RK_ACT_ACK_REQ r) = 0 ∧
      t.fld (Fd.RK_ACT_ACTIVE r) = s.fld (Fd.RK_ACT_ACTIVE r)) ∧
  (∀ (w : Fin 8) (e : Fin 32) (s : State),
    s.WriteTaken w Reg.PRT_ACK (BitVec.ofNat 32 (768 + e)) (crossPrt s Reg.PRT_ACK (BitVec.ofNat 32 (768 + e))) → 
    ∃ t, Sys2Proof.Machine.exec (.prtAck w (BitVec.ofNat 32 (768 + e))) s = .next t ∧
      WroteOk t w Reg.PRT_ACK ∧
      t.on (Fd.LIM_STAT_ACK_REQ e) = false ∧
      Changes [.zh, .out] [Reg.LIM_STAT e] s t)

/-- Protective commands act on arrival: FULLCOOL is entered and left by command, a rack is isolated and tripped, and ACK and SETPOINT are taken.
Commands: FULLCOOL_ENTER, RACK_ISOLATE, RACK_TRIP, ACK, FULLCOOL_EXIT, SETPOINT. Formalises what R264, R358, R389, R391, R392, R423, R431
say of these cases. Choices of the model that bear on its clauses: log entries 27, 87, 90. -/
def Obligations.ProtectiveCommandsAct : Prop :=
  (∀ (q : Req) (s : State) (k : Nat) (u : State),
    s.Reaches q k u → (judgeProt 0x31 0 0 k u).first { q with defer := false } u = none → s.drives = true → 
    ∃ t, Sys2Proof.Machine.exec (.fullcoolEnter q) s = .next t ∧
      AnsweredOk t q 0x31 [] ∧
      t.on Fd.PRT_STAT_FULLCOOL = true ∧
      t.on Fd.PRT_STAT_FC_CMD = true ∧
      t.opState = 8) ∧
  (∀ (q : Req) (s : State) (k : Nat) (u : State),
    s.Reaches q k u → (judgeProt 0x31 0 0 k u).first { q with defer := false } u = none → s.drives = false → 
    ∃ t, Sys2Proof.Machine.exec (.fullcoolEnter q) s = .next t ∧
      AnsweredOk t q 0x31 [] ∧
      t.prt = { s.prt with cmds := s.prt.cmds ++ [(0, 0)] } ∧
      t.opState = s.opState) ∧
  (∀ (q : Req) (rack : Byte) (s : State) (k : Nat) (u : State),
    s.Reaches q k u → (judgeProt 0x33 1 rack.toNat k u).first { q with defer := false } u = none → s.drives = false → 
    ∃ t, Sys2Proof.Machine.exec (.rackIsolate q rack) s = .next t ∧
      AnsweredOk t q 0x33 [] ∧
      t.prt = { s.prt with cmds := s.prt.cmds ++ [(1, rack.toNat)] }) ∧
  (∀ (q : Req) (rack : Byte) (s : State) (k : Nat) (u : State),
    s.Reaches q k u → (judgeProt 0x34 2 rack.toNat k u).first { q with defer := false } u = none → s.drives = false → 
    ∃ t, Sys2Proof.Machine.exec (.rackTrip q rack) s = .next t ∧
      AnsweredOk t q 0x34 [] ∧
      t.prt = { s.prt with cmds := s.prt.cmds ++ [(2, rack.toNat)] }) ∧
  (∀ (q : Req) (index : Word) (s : State) (k : Nat) (u : State),
    s.Reaches q k u → (judgeAck 1 index k u).first q u = none → 
    ∃ t, Sys2Proof.Machine.exec (.ack q 1 index) s = .next t ∧
      AnsweredOk t q 0x35 [] ∧
      t.fld Fd.PRT_LOOPSTAT_ACK_REQ = 0) ∧
  (∀ (q : Req) (index : Word) (s : State) (k : Nat) (u : State),
    s.Reaches q k u → (judgeAck 2 index k u).first q u = none → 
    ∃ t, Sys2Proof.Machine.exec (.ack q 2 index) s = .next t ∧
      AnsweredOk t q 0x35 [] ∧
      t.field = { s.field with acks := s.field.acks ++ [index.toNat] }) ∧
  (∀ (q : Req) (index : Word) (s : State) (k : Nat) (u : State),
    s.Reaches q k u → (judgeAck 3 index k u).first q u = none → 
    ∃ t, Sys2Proof.Machine.exec (.ack q 3 index) s = .next t ∧
      AnsweredOk t q 0x35 [] ∧
      t.on (Fd.LIM_STAT_ACK_REQ index.toNat) = false) ∧
  (∀ (q : Req) (index : Word) (s : State) (k : Nat) (u : State),
    s.Reaches q k u → (judgeAck 5 index k u).first q u = none → 
    ∃ t, Sys2Proof.Machine.exec (.ack q 5 index) s = .next t ∧
      AnsweredOk t q 0x35 [] ∧
      t.fld Fd.PRT_LOOPSTAT_ACK_REQ = 0 ∧
      t.field.ackAll = true ∧
      t.stm.ackAll = (s.stm.ackAll || !s.mainAbsent)) ∧
  (∀ (q : Req) (s : State) (k : Nat) (u : State),
    s.Reaches q k u → (judgeFcExit k u).first q u = none → 
    ∃ t, Sys2Proof.Machine.exec (.fullcoolExit q) s = .next t ∧
      AnsweredOk t q 0x32 [] ∧
      t.on Fd.PRT_STAT_FULLCOOL = false ∧
      t.on Fd.PRT_STAT_FC_CMD = false ∧
      (s.anySequence = true → t.opState = 7)) ∧
  (∀ (q : Req) (rack : Byte) (s : State) (k : Nat) (u : State),
    s.Reaches q k u → (judgeProt 0x33 1 rack.toNat k u).first { q with defer := false } u = none → s.drives = true → 
    ∃ t, Sys2Proof.Machine.exec (.rackIsolate q rack) s = .next t ∧
      AnsweredOk t q 0x33 [] ∧
      t.rackActive rack.toNat seqLeak = true ∧
      (t.rackP rack.toNat).force = true ∧
      (t.rackP rack.toNat).asked = false) ∧
  (∀ (q : Req) (rack : Byte) (s : State) (k : Nat) (u : State),
    s.Reaches q k u → (judgeProt 0x34 2 rack.toNat k u).first { q with defer := false } u = none → s.drives = true → 
    ∃ t, Sys2Proof.Machine.exec (.rackTrip q rack) s = .next t ∧
      AnsweredOk t q 0x34 [] ∧
      t.rackActive rack.toNat seqCmdTrip = true ∧
      t.on (Fd.RK_OUT_TRIP rack.toNat) = true) ∧
  (∀ (q : Req) (index : Word) (s : State) (k : Nat) (u : State),
    s.Reaches q k u → (judgeAck 0 index k u).first q u = none → 
    ∃ t, Sys2Proof.Machine.exec (.ack q 0 index) s = .next t ∧
      AnsweredOk t q 0x35 [] ∧
      t.fld (Fd.RK_ACT_ACK_REQ index.toNat) = 0) ∧
  (∀ (q : Req) (index : Word) (s : State) (k : Nat) (u : State),
    s.Reaches q k u → (judgeAck 4 index k u).first q u = none → 
    ∃ t, Sys2Proof.Machine.exec (.ack q 4 index) s = .next t ∧
      AnsweredOk t q 0x35 [] ∧
      t.stm.ackAll = (s.stm.ackAll || fieldOf index 31 1 == 1) ∧
      Changes [.zh, .stm, .out] [Reg.SS_MBOX k, Reg.PORT_CNT_RX q.port] s t) ∧
  (∀ (q : Req) (loop : Byte) (value : Word) (s : State) (k : Nat) (u : State),
    s.Reaches q k u → (judgeSetpoint loop value k u).first q u = none → 
    ∃ t, Sys2Proof.Machine.exec (.setpoint q loop value) s = .next t ∧
      AnsweredOk t q 0x40 [] ∧
      t.waitWrites = s.waitWrites ++ [⟨k, Reg.LP_SP loop.toNat, value⟩] ∧
      Changes [.zh, .waitWrites, .out] [Reg.SS_MBOX k, Reg.PORT_CNT_RX q.port] s t)

/-- CAN buses change mode, recover from errors and serve their profiles: modes are written, automatic detection moves on, error states, bus-off
and recovery act, and pods and drives are heard, commanded and lost. Commands: CAN_MODE_WRITE, CAN_AUTO_DWELL_TIMEOUT, CAN_AUTO_TIMEOUT,
CAN_ERROR_STATE, CAN_RECOVERY_START, CAN_RECOVERED, POD_QUANTITY_TIMEOUT, DRIVE_CMD_SEND, DRIVE_LOST. Formalises what R452, R453, R454,
R461, R462, R465, R466, R468 say of these cases. Choices of the model that bear on its clauses: log entries 3, 20, 22, 51, 56, 91. -/
def Obligations.CanBusesChangeModeAndRecover : Prop :=
  (∀ (w : Fin 8) (b : Fin 8) (value : Word) (s : State),
    s.WriteTaken w (Reg.BUS_CTRL b) value (crossCan s (Reg.BUS_CTRL b) value) → fieldOf value 0 3 = 1 → s.busMode b ≠ 1 → s.busState b = 1 → 
    ∃ t, Sys2Proof.Machine.exec (.canModeWrite w b value) s = .next t ∧
      WroteOk t w (Reg.BUS_CTRL b) ∧
      t.busMode b = 1 ∧
      t.rd (Reg.BUS_ERRC b) = 0 ∧
      t.busState b = 0 ∧
      Changes [.zh, .can, .out] [Reg.BUS_CTRL b, Reg.BUS_ERRC b, Reg.BUS_STAT b] s t) ∧
  (∀ (w : Fin 8) (b : Fin 8) (value : Word) (s : State),
    s.WriteTaken w (Reg.BUS_CTRL b) value (crossCan s (Reg.BUS_CTRL b) value) → fieldOf value 0 3 = 3 → s.busMode b = 0 → 
    ∃ t, Sys2Proof.Machine.exec (.canModeWrite w b value) s = .next t ∧
      Tab.find t.can.auto b = some ⟨s.clk.now, 0, s.clk.now, false, 0, false⟩ ∧
      t.on (Fd.BUS_STAT_AUTO_DONE b) = false ∧ t.on (Fd.BUS_STAT_AUTO_FAIL b) = false ∧
      Changes [.zh, .can, .out] [Reg.BUS_CTRL b, Reg.BUS_ERRC b, Reg.BUS_STAT b] s t) ∧
  (∀ (w : Fin 8) (b : Fin 8) (value : Word) (s : State),
    s.WriteTaken w (Reg.BUS_CTRL b) value (crossCan s (Reg.BUS_CTRL b) value) → fieldOf value 0 3 = 0 → s.busMode b ≠ 0 → 
    ∃ t, Sys2Proof.Machine.exec (.canModeWrite w b value) s = .next t ∧
      t.busState b = 0 ∧ t.on (Fd.BUS_STAT_BOFF_LOCK b) = false ∧
      t.can.recovering.contains b.val = false ∧
      Changes [.zh, .can, .out] [Reg.BUS_CTRL b, Reg.BUS_ERRC b, Reg.BUS_STAT b] s t) ∧
  (∀ (b : Fin 8) (s : State) (x : AutoDetect),
    Tab.find s.can.auto b = some x → x.kept = false → x.since + msTicks 50 ≤ s.clk.now → 
    ∃ t, Sys2Proof.Machine.exec (.canAutoDwellTimeout b) s = .next t ∧
      Tab.find t.can.auto b = some { x with cand := (x.cand + 1) % 4, since := s.clk.now } ∧
      Only [.can] s t) ∧
  (∀ (b : Fin 8) (s : State) (x : AutoDetect),
    Tab.find s.can.auto b = some x → x.start + msTicks (100 * s.fld (Fd.BUS_AUTO_AUTO_TMO b)) ≤ s.clk.now → (x.kept = false ∨ x.tried = true) → 
    ∃ t, Sys2Proof.Machine.exec (.canAutoTimeout b) s = .next t ∧
      Tab.find t.can.auto b = none ∧
      t.on (Fd.BUS_STAT_AUTO_FAIL b) = true ∧ t.on (Fd.BUS_EVT_AUTO b) = true ∧
      Changes [.can, .firn] [Reg.BUS_STAT b, Reg.BUS_EVT b, Reg.BUS_EVT_SEQ b] s t) ∧
  (∀ (b : Fin 8) (s : State) (x : AutoDetect),
    Tab.find s.can.auto b = some x → x.start + msTicks (100 * s.fld (Fd.BUS_AUTO_AUTO_TMO b)) ≤ s.clk.now → x.kept = true → x.tried = false → 
    ∃ t, Sys2Proof.Machine.exec (.canAutoTimeout b) s = .next t ∧
      Tab.find t.can.auto b = none ∧
      t.rd (Reg.BUS_NBT b) = nominalWord x.cand ∧
      t.on (Fd.BUS_STAT_AUTO_DONE b) = true ∧ t.on (Fd.BUS_EVT_AUTO b) = true ∧
      Changes [.can, .firn] [Reg.BUS_NBT b, Reg.BUS_STAT b, Reg.BUS_EVT b, Reg.BUS_EVT_SEQ b] s t) ∧
  (∀ (b : Fin 8) (tec rcv : Fin 512) (frames : Nat) (s : State),
    s.canMode b ≠ 0 → s.busState b = 0 → tec.val < 256 → (128 ≤ tec.val ∨ 128 ≤ rcv.val) → 
    ∃ t, Sys2Proof.Machine.exec (.canErrorState b tec rcv frames) s = .next t ∧
      t.busState b = 1 ∧
      (t.rd (Reg.BUS_ERRC b) = BitVec.ofNat 32 (tec.val + min rcv.val 127 * 65536 + (if 128 ≤ rcv.val then 0x800000 else 0))) ∧
      t.rd (Reg.BUS_CNT_ERRFRM b) = satCount (s.rd (Reg.BUS_CNT_ERRFRM b)) frames ∧
      t.on (Fd.BUS_EVT_PASSIVE b) = true ∧
      Changes [.firn] [Reg.BUS_STAT b, Reg.BUS_ERRC b, Reg.BUS_CNT_ERRFRM b, Reg.BUS_EVT b, Reg.BUS_EVT_SEQ b] s t) ∧
  (∀ (b : Fin 8) (tec rcv : Fin 512) (frames : Nat) (s : State),
    s.canMode b ≠ 0 → s.busState b ≠ 2 → 256 ≤ tec.val → 
    ∃ t, Sys2Proof.Machine.exec (.canErrorState b tec rcv frames) s = .next t ∧
      t.busState b = 2 ∧
      t.on (Fd.BUS_EVT_BUS_OFF b) = true ∧
      t.rd (Reg.BUS_CNT_BOFF b) = satCount (s.rd (Reg.BUS_CNT_BOFF b)) 1 ∧
      (t.on (Fd.BUS_STAT_BOFF_LOCK b) = (s.on (Fd.BUS_STAT_BOFF_LOCK b) || decide (8 ≤ ((Tab.at [] s.can.boffs b).filter (fun x => decide (s.clk.now < x + sTicks 60))).length))) ∧
      Only [.can, .regs, .firn] s t) ∧
  (∀ (b : Fin 8) (s : State) (x : Nat),
    s.busState b = 2 → s.on (Fd.BUS_CTRL_AUTO_REC b) = true → s.on (Fd.BUS_STAT_BOFF_LOCK b) = false → s.can.recovering.contains b.val = false → (Tab.at [] s.can.boffs b).head? = some x → x + msTicks (100 * s.fld (Fd.BUS_CTRL_REC_DLY b)) ≤ s.clk.now → 
    ∃ t, Sys2Proof.Machine.exec (.canRecoveryStart b) s = .next t ∧
      t = { s with can := { s.can with recovering := s.can.recovering ++ [b.val] } }) ∧
  (∀ (b : Fin 8) (s : State),
    s.can.recovering.contains b.val = true → 
    ∃ t, Sys2Proof.Machine.exec (.canRecovered b) s = .next t ∧
      t.busState b = 0 ∧ t.rd (Reg.BUS_ERRC b) = 0 ∧
      (t.can = { s.can with recovering := s.can.recovering.filter (fun x => x != b.val) }) ∧
      t.on (Fd.BUS_EVT_RECOVERED b) = true ∧
      Changes [.can, .firn] [Reg.BUS_STAT b, Reg.BUS_ERRC b, Reg.BUS_EVT b, Reg.BUS_EVT_SEQ b] s t) ∧
  (∀ (q : Fin 256) (s : State) (x : Nat),
    s.fld (Fd.CAN_PODQ_KIND q) ≠ 0 → Tab.find s.can.podAt q = some x → x + msTicks (10 * s.fld (Fd.CAN_PODQ_TMO q)) ≤ s.clk.now → 
    ∃ t, Sys2Proof.Machine.exec (.podQuantityTimeout q) s = .next t ∧
      t.rd (Reg.CAN_PODV q) = 0x80000000 ∧
      Changes [] [Reg.CAN_PODV q] s t) ∧
  (∀ (s : State),
    s.drives = true → (List.range 8).filter s.driveDue = [3] → Tab.find s.can.tx (128 * s.fld (Fd.DRV_CFG_BUS 3) + 7) = none → 
    ∃ t, Sys2Proof.Machine.exec .driveCmdSend s = .next t ∧
      Tab.find t.can.tx (128 * s.fld (Fd.DRV_CFG_BUS 3) + 7) = some ⟨t.objFrame (s.fld (Fd.DRV_CFG_BUS 3)) 7, s.can.txCount⟩ ∧
      t.on (Fd.OBJ_STAT_TXPEND (s.fld (Fd.DRV_CFG_BUS 3)) 7) = true ∧
      t.rd (Reg.OBJ_DATA (s.fld (Fd.DRV_CFG_BUS 3)) 7 0) = BitVec.ofNat 32 (leAt (s.driveBytes 3 (Tab.at 0 s.can.drvSeq 3)) 0 4) ∧
      t.can.drvSeq = s.can.drvSeq.put 3 ((Tab.at 0 s.can.drvSeq 3 + 1) % 65536) ∧ t.can.drvSent = s.can.drvSent.put 3 s.clk.now ∧
      Changes [.can, .acts] [Reg.OBJ_STAT (s.fld (Fd.DRV_CFG_BUS 3)) 7, Reg.OBJ_DATA (s.fld (Fd.DRV_CFG_BUS 3)) 7 0, Reg.OBJ_DATA (s.fld (Fd.DRV_CFG_BUS 3)) 7 1] s t) ∧
  (∀ (p : Fin 8) (s : State),
    s.fld (Fd.PMP_CFG_MODE p) = 3 → s.on (Fd.DRV_STAT_LOST p) = false → Tab.at 0 s.can.drvAt p + msTicks (s.fld (Fd.DRV_CFG_TMO p)) ≤ s.clk.now → s.pumpDriven p = false → 
    ∃ t, Sys2Proof.Machine.exec (.driveLost p) s = .next t ∧
      t.on (Fd.DRV_STAT_LOST p) = true ∧
      t.on (Fd.BUS_EVT_DRV_LOST (s.fld (Fd.DRV_CFG_BUS p))) = true ∧
      Changes [.firn] [Reg.DRV_STAT p, Reg.BUS_EVT (s.fld (Fd.DRV_CFG_BUS p)), Reg.BUS_EVT_SEQ (s.fld (Fd.DRV_CFG_BUS p))] s t)

/-- CAN frames are received and sent: a frame is matched to its object or the high-priority buffer, the status reads clear what they read, and
transmissions are requested, aborted and completed. Commands: CAN_FRAME_RECEIVED, OBJ_STAT_READ, HP_STAT_READ, CAN_TXREQ, CAN_ABORT,
CAN_TX_COMPLETE. Formalises what R454, R456, R458, R459, R460 say of these cases. Choices of the model that bear on its clauses: log entries
3, 20, 56, 91. -/
def Obligations.CanFramesAreReceivedAndSent : Prop :=
  (∀ (b : Fin 8) (f : CanFrame) (missed : Nat) (s : State) (o : Nat),
    s.busHears b = true → s.canMatch b f = some o → Tab.find s.can.auto b = none → 
    ∃ t, Sys2Proof.Machine.exec (.canFrameReceived b f missed) s = .next t ∧
      t.can = { s.can with arrived := s.can.arrived ++ [⟨b, o, f⟩] } ∧
      t.rd (Reg.BUS_CNT_RXOK b) = satCount (s.rd (Reg.BUS_CNT_RXOK b)) 1 ∧
      Changes [.can] [Reg.BUS_CNT_RXOK b] s t) ∧
  (∀ (b : Fin 8) (f : CanFrame) (missed : Nat) (s : State),
    s.busHears b = true → s.canMatch b f = none → Tab.find s.can.auto b = none → 
    ∃ t, Sys2Proof.Machine.exec (.canFrameReceived b f missed) s = .next t ∧
      t.rd (Reg.BUS_CNT_RXOK b) = satCount (s.rd (Reg.BUS_CNT_RXOK b)) 1 ∧
      t.rd (Reg.BUS_CNT_NOMATCH b) = satCount (s.rd (Reg.BUS_CNT_NOMATCH b)) 1 ∧
      Changes [] [Reg.BUS_CNT_RXOK b, Reg.BUS_CNT_NOMATCH b] s t) ∧
  (∀ (b : Fin 8) (f : CanFrame) (missed : Nat) (s : State) (x : AutoDetect),
    s.busHears b = true → s.canMatch b f = none → Tab.find s.can.auto b = some x → f.fdf = true ∧ f.brs = true → x.kept = true → 
    ∃ t, Sys2Proof.Machine.exec (.canFrameReceived b f missed) s = .next t ∧
      t.rd (Reg.BUS_NBT b) = nominalWord x.cand ∧
      t.rd (Reg.BUS_DBT b) = dataWord ((x.data + missed) % 5) (Config.freeValue s.fresh) ∧
      Tab.find t.can.auto b = none ∧ t.on (Fd.BUS_STAT_AUTO_DONE b) = true ∧
      Changes [.can, .fresh, .firn] [Reg.BUS_CNT_RXOK b, Reg.BUS_CNT_NOMATCH b, Reg.BUS_NBT b, Reg.BUS_DBT b, Reg.BUS_STAT b, Reg.BUS_EVT b, Reg.BUS_EVT_SEQ b] s t) ∧
  (∀ (b : Fin 8) (o : Fin 128) (s : State), ∃ t, Sys2Proof.Machine.exec (.objStatRead b o) s = .next t ∧
      t.on (Fd.OBJ_STAT_NEW b o) = false ∧ t.on (Fd.OBJ_STAT_OVR b o) = false ∧
      (Tab.find t.can.shadow b = some ⟨o, [s.rd (Reg.OBJ_RXID b o), s.rd (Reg.OBJ_TS b o)] ++ (List.range 16).map (fun i => s.rd (Reg.OBJ_DATA b o i))⟩) ∧
      Changes [.can] [Reg.OBJ_STAT b o] s t) ∧
  (∀ (b : Fin 8) (s : State), ∃ t, Sys2Proof.Machine.exec (.hpStatRead b) s = .next t ∧
      t.on (Fd.HP_STAT_NEW b) = false ∧ t.on (Fd.HP_STAT_OVR b) = false ∧
      (Tab.find t.can.hpShadow b = some ([s.rd (Reg.HP_RXID b), s.rd (Reg.HP_TS b)] ++ (List.range 16).map (fun i => s.rd (Reg.HP_DATA b i)))) ∧
      Changes [.can] [Reg.HP_STAT b] s t) ∧
  (∀ (w : Fin 8) (b : Fin 8) (o : Fin 128) (s : State),
    s.WriteTaken w (Reg.OBJ_CMD b o) 1 (crossCan s (Reg.OBJ_CMD b o) 1) → s.hostSends b o = true → Tab.find s.can.tx (128 * b + o) = none → 
    ∃ t, Sys2Proof.Machine.exec (.canTxreq w b o) s = .next t ∧
      WroteOk t w (Reg.OBJ_CMD b o) ∧
      Tab.find t.can.tx (128 * b + o) = some ⟨s.objFrame b o, s.can.txCount⟩ ∧ t.can.txCount = s.can.txCount + 1 ∧
      t.on (Fd.OBJ_STAT_TXPEND b o) = true ∧ t.on (Fd.OBJ_STAT_TXOK b o) = false ∧ t.on (Fd.OBJ_STAT_TXABORTED b o) = false ∧
      Changes [.zh, .can, .out] [Reg.OBJ_STAT b o] s t) ∧
  (∀ (w : Fin 8) (b : Fin 8) (o : Fin 128) (started : Bool) (s : State) (x : TxPend),
    s.WriteTaken w (Reg.OBJ_CMD b o) 2 (crossCan s (Reg.OBJ_CMD b o) 2) → s.hostSends b o = true → Tab.find s.can.tx (128 * b + o) = some x → started = false → 
    ∃ t, Sys2Proof.Machine.exec (.canAbort w b o started) s = .next t ∧
      Tab.find t.can.tx (128 * b + o) = none ∧
      t.on (Fd.OBJ_STAT_TXPEND b o) = false ∧ t.on (Fd.OBJ_STAT_TXABORTED b o) = true ∧
      Changes [.zh, .can, .out] [Reg.OBJ_STAT b o] s t) ∧
  (∀ (b : Fin 8) (o : Fin 128) (r : TxOutcome) (s : State) (x : TxPend),
    r = .sent → Tab.find s.can.tx (128 * b + o) = some x → s.busSends b = true → s.mayFinish b o x = true → s.canMode b ≠ 4 → 
    ∃ t, Sys2Proof.Machine.exec (.canTxComplete b o r) s = .next t ∧
      Tab.find t.can.tx (128 * b + o) = none ∧
      t.on (Fd.OBJ_STAT_TXPEND b o) = false ∧ t.on (Fd.OBJ_STAT_TXOK b o) = true ∧
      t.rd (Reg.BUS_CNT_TXOK b) = satCount (s.rd (Reg.BUS_CNT_TXOK b)) 1 ∧
      t.out = .frame .can (canFields b o x.frame) :: s.out ∧
      Changes [.can, .out] [Reg.OBJ_STAT b o, Reg.BUS_CNT_TXOK b] s t) ∧
  (∀ (b : Fin 8) (o : Fin 128) (r : TxOutcome) (s : State) (x : TxPend),
    r = .error → Tab.find s.can.tx (128 * b + o) = some x → s.busSends b = true → s.mayFinish b o x = true → s.on (Fd.OBJ_CFG_SSHOT b o) = true → 
    ∃ t, Sys2Proof.Machine.exec (.canTxComplete b o r) s = .next t ∧
      Tab.find t.can.tx (128 * b + o) = none ∧
      t.on (Fd.OBJ_STAT_TXPEND b o) = false ∧ t.on (Fd.OBJ_STAT_TXABORTED b o) = true ∧
      t.rd (Reg.BUS_CNT_ERRFRM b) = satCount (s.rd (Reg.BUS_CNT_ERRFRM b)) 1 ∧
      Changes [.can] [Reg.OBJ_STAT b o, Reg.BUS_CNT_ERRFRM b] s t)

/-- Federation members are heard and the budget is allocated: announcements go out and are heard, members are lost, row maps pass, the
coordinator is assumed, and shares are computed, taken and go stale. Commands: FED_ANNOUNCE_SEND, FED_ANNOUNCE, FED_MEMBER_LOST, FED_ROWMAP,
FED_ROWMAP_SEND, FED_RESYNC, FED_COORDINATOR_ASSUME, FED_ALLOC_COMPUTE, FED_ALLOC, FED_ALLOC_STALE, REDIRECT_SEND. Formalises what R492,
R502, R504, R505, R510 say of these cases. Choices of the model that bear on its clauses: log entries 11, 35, 58, 61, 92. -/
def Obligations.MembersAreHeardAndTheBudgetAllocated : Prop :=
  (∀ (s : State),
    s.fedOn = true → (s.fed.annAt.all (fun x => decide (x + msTicks 10 ≤ s.clk.now)) = true) → 
    ∃ t, Sys2Proof.Machine.exec .fedAnnounceSend s = .next t ∧
      t.fed.annAt = some s.clk.now ∧
      t.sec.craSeq = s.sec.craSeq.put 2 ((Tab.at 0 s.sec.craSeq 2 + 1) % 2 ^ 32) ∧
      t.out.length = s.out.length + 2 ∧
      Changes [.sec, .fed, .firn, .out] [Reg.PAI_FED_STAT, Reg.PAI_RESV, Reg.MEM_STAT s.myId, Reg.MEM_NACC s.myId, Reg.PAI_FED_EVT, Reg.PAI_FED_EVT_SEQ] s t) ∧
  (∀ (s : State),
    (s.on Fd.PAI_FED_CTRL_EN = false ∨ s.fed.annAt.any (fun x => decide (s.clk.now < x + msTicks 10)) = true) → 
    ∃ t, Sys2Proof.Machine.exec .fedAnnounceSend s = .next t ∧
      t = s) ∧
  (∀ (s : State),
    s.fedOn = false → 
    ∃ t, Sys2Proof.Machine.exec .fedAnnounceSend s = .next t ∧
      t.out = s.out ∧ t.sec = s.sec) ∧
  (∀ (c : Came) (a : FedAnnounce) (s : State),
    s.TakesCra c → (s.on Fd.PAI_FED_CTRL_EN = false ∨ a.moduleId.val = s.myId ∧ (s.fedOn = false ∨ a.slot = s.sys.straps.slot)) → 
    ∃ t, Sys2Proof.Machine.exec (.fedAnnounce ⟨c, a⟩) s = .next t ∧
      Changes [] [Reg.PORT_CNT_RX c.port] s t) ∧
  (∀ (c : Came) (a : FedAnnounce) (s : State),
    s.portTakes Fd.PORT_CFG_CRAORI c.port c.src c.row = false → 
    ∃ t, Sys2Proof.Machine.exec (.fedAnnounce ⟨c, a⟩) s = .next t ∧
      t = s) ∧
  (∀ (c : Came) (a : FedAnnounce) (s : State) (x : Member) (y : Nat),
    s.TakesCra c → s.on Fd.PAI_FED_CTRL_EN = true → a.moduleId.val ≠ s.myId → s.member? a.moduleId = some x → Tab.find x.slotAt (1 - a.slot.val) = some y → s.clk.now ≤ y + msTicks 100 → 
    ∃ t, Sys2Proof.Machine.exec (.fedAnnounce ⟨c, a⟩) s = .next t ∧
      t.on Fd.PAI_FED_EVT_DUP_ID = true ∧
      Changes [.firn] [Reg.PAI_FED_EVT, Reg.PAI_FED_EVT_SEQ, Reg.PORT_CNT_RX c.port] s t) ∧
  (∀ (c : Came) (a : FedAnnounce) (s : State),
    s.TakesCra c → s.on Fd.PAI_FED_CTRL_EN = true → a.moduleId.val ≠ s.myId → ((s.member? a.moduleId).all (fun x => (Tab.find x.slotAt (1 - a.slot.val)).all (fun y => decide (y + msTicks 100 < s.clk.now))) = true) → 
    ∃ t, Sys2Proof.Machine.exec (.fedAnnounce ⟨c, a⟩) s = .next t ∧
      (t.member? a.moduleId).map (fun x => (x.ann, x.at_)) = some (a, s.clk.now) ∧
      (t.fld (Fd.MEM_STAT_FSTATE a.moduleId) = if a.member then 2 else 1) ∧
      t.fld (Fd.MEM_STAT_STATE a.moduleId) = a.state.val ∧
      t.fld (Fd.MEM_NACC_NACC a.moduleId) = min a.nacc.toNat 4096) ∧
  (∀ (c : Came) (a : FedAnnounce) (s : State),
    s.TakesCra c → s.fedOn = true → a.moduleId.val = s.myId → a.slot ≠ s.sys.straps.slot → 
    ∃ t, Sys2Proof.Machine.exec (.fedAnnounce ⟨c, a⟩) s = .next t ∧
      t.on Fd.PAI_FED_EVT_DUP_ID = true ∧
      Changes [.firn] [Reg.PAI_FED_EVT, Reg.PAI_FED_EVT_SEQ, Reg.PORT_CNT_RX c.port] s t) ∧
  (∀ (m : Fin 64) (s : State) (x : Member),
    s.member? m = some x → s.on Fd.PAI_FED_CTRL_EN = true → s.fld (Fd.MEM_STAT_FSTATE m) = 2 → x.at_ + msTicks (s.fld Fd.PAI_FED_LOST_MS) ≤ s.clk.now → m.val ≠ s.myId → 
    ∃ t, Sys2Proof.Machine.exec (.fedMemberLost m) s = .next t ∧
      t.fld (Fd.MEM_STAT_FSTATE m) = 3 ∧
      t.fed.lostAt = s.fed.lostAt.put m s.clk.now ∧ t.fed.backAt = s.fed.backAt.del m ∧
      t.on Fd.PAI_FED_EVT_MEMBER_LOST = true ∧
      Changes [.fed, .firn] [Reg.PAI_FED_STAT, Reg.PAI_RESV, Reg.MEM_STAT s.myId, Reg.MEM_NACC s.myId, Reg.MEM_STAT m, Reg.PAI_FED_EVT, Reg.PAI_FED_EVT_SEQ] s t) ∧
  (∀ (m : Fin 64) (s : State),
    (s.on Fd.PAI_FED_CTRL_EN = false ∨ (s.member? m).all (fun x => decide (s.clk.now < x.at_ + msTicks (s.fld Fd.PAI_FED_LOST_MS))) = true ∨ s.fld (Fd.MEM_STAT_FSTATE m) = 0 ∨ s.fld (Fd.MEM_STAT_FSTATE m) = 3) → 
    ∃ t, Sys2Proof.Machine.exec (.fedMemberLost m) s = .next t ∧
      t = s) ∧
  (∀ (c : Came) (m : Fin 64) (map : List RowAcc) (s : State),
    s.TakesCra c → (s.on Fd.PAI_FED_CTRL_EN = false ∨ s.mainAbsent = true ∨ m.val = s.myId) → 
    ∃ t, Sys2Proof.Machine.exec (.fedRowmap ⟨c, m⟩ map) s = .next t ∧
      Changes [] [Reg.PORT_CNT_RX c.port] s t) ∧
  (∀ (c : Came) (m : Fin 64) (map : List RowAcc) (s : State),
    s.TakesCra c → s.on Fd.PAI_FED_CTRL_EN = true → s.mainAbsent = false → m.val ≠ s.myId → 
    ∃ t, Sys2Proof.Machine.exec (.fedRowmap ⟨c, m⟩ map) s = .next t ∧
      t.fed = { s.fed with maps := s.fed.maps.put m map } ∧
      Changes [.fed] [Reg.PORT_CNT_RX c.port] s t) ∧
  (∀ (s : State),
    s.fedOn = true → s.mainAbsent = false → (s.fed.mapAt.all (fun x => decide (x + sTicks 60 ≤ s.clk.now)) = true ∨ s.rowMap ≠ s.fed.mapSent) → 
    ∃ t, Sys2Proof.Machine.exec .fedRowmapSend s = .next t ∧
      t.fed = { s.fed with mapAt := some s.clk.now, mapSent := s.rowMap } ∧
      t.sec.craSeq = s.sec.craSeq.put 9 ((Tab.at 0 s.sec.craSeq 9 + 1) % 2 ^ 32) ∧
      t.out.length = s.out.length + 2 ∧
      Only [.sec, .fed, .out] s t) ∧
  (∀ (s : State),
    (s.fedOn = false ∨ s.mainAbsent = true ∨ s.fed.mapAt.any (fun x => decide (s.clk.now < x + sTicks 60)) = true ∧ s.rowMap = s.fed.mapSent) → 
    ∃ t, Sys2Proof.Machine.exec .fedRowmapSend s = .next t ∧
      t = s) ∧
  (∀ (s : State),
    (s.fed.differ.all (fun x => decide (s.clk.now < x + sTicks 1)) = true) → 
    ∃ t, Sys2Proof.Machine.exec .fedResync s = .next t ∧
      t = s) ∧
  (∀ (s : State) (x : Nat),
    s.fed.differ = some x → x + sTicks 1 ≤ s.clk.now → 
    ∃ t, Sys2Proof.Machine.exec .fedResync s = .next t ∧
      t = { s with fed := { s.fed with resync := true } }) ∧
  (∀ (s : State) (x : Nat),
    s.fedOn = true → s.fed.selfFrom = some x → s.on Fd.PAI_FED_STAT_COORD = false → x + msTicks 100 ≤ s.clk.now → 
    ∃ t, Sys2Proof.Machine.exec .fedCoordinatorAssume s = .next t ∧
      t.on Fd.PAI_FED_STAT_COORD = true ∧
      (s.fedWanted = some s.fedLevel ∨ s.fedWanted = none → Changes [] [Reg.PAI_FED_STAT] s t)) ∧
  (∀ (s : State),
    (s.fedOn = false ∨ s.on Fd.PAI_FED_STAT_COORD = true ∨ s.fed.selfFrom.all (fun x => decide (s.clk.now < x + msTicks 100)) = true) → 
    ∃ t, Sys2Proof.Machine.exec .fedCoordinatorAssume s = .next t ∧
      t = s) ∧
  (∀ (s : State),
    (s.fedOn = false ∨ s.on Fd.PAI_FED_STAT_COORD = false ∨ s.fed.allocAt.any (fun x => decide (s.clk.now < x + msTicks 100)) = true) → 
    ∃ t, Sys2Proof.Machine.exec .fedAllocCompute s = .next t ∧
      t = s) ∧
  (∀ (s : State),
    s.fedOn = true → s.on Fd.PAI_FED_STAT_COORD = true → (s.fed.allocAt.all (fun x => decide (x + msTicks 100 ≤ s.clk.now)) = true) → 
    ∃ t, Sys2Proof.Machine.exec .fedAllocCompute s = .next t ∧
      t.fed.allocAt = some s.clk.now ∧
      (∀ e ∈ s.fedAlloc, t.rd (Reg.MEM_BUDGET e.1) = BitVec.ofNat 32 e.2.1) ∧
      Changes [.fed, .plan, .sec, .out, .fresh] (s.fedMembers.map Reg.MEM_BUDGET) s t) ∧
  (∀ (c : Came) (m : Fin 64) (effective : BitVec 64) (entries : List AllocEntry) (s : State) (e : AllocEntry),
    s.TakesCra c → s.fedOn = true → m.val ≠ s.myId → s.coordinator = some m.val → (entries.find? (fun x => x.m.val == s.myId) = some e) → 
    ∃ t, Sys2Proof.Machine.exec (.fedAlloc ⟨c, m⟩ effective entries) s = .next t ∧
      t.fed.allocAt = some s.clk.now ∧
      (t.plan = { s.plan with fedNext := s.plan.fedNext.filter (fun x => x.1 != effective) ++ [(effective, e.budget.toNat, e.ramp.toNat)] }) ∧
      (Changes [.fed, .plan] (Reg.PORT_CNT_RX c.port :: entries.map (fun x => Reg.MEM_BUDGET x.m)) s t)) ∧
  (∀ (c : Came) (m : Fin 64) (effective : BitVec 64) (entries : List AllocEntry) (s : State),
    s.TakesCra c → (s.fedOn = false ∨ m.val = s.myId ∨ s.coordinator ≠ some m.val) → 
    ∃ t, Sys2Proof.Machine.exec (.fedAlloc ⟨c, m⟩ effective entries) s = .next t ∧
      Changes [] [Reg.PORT_CNT_RX c.port] s t) ∧
  (∀ (c : Came) (m : Fin 64) (effective : BitVec 64) (entries : List AllocEntry) (s : State),
    s.TakesCra c → s.fedOn = true → m.val ≠ s.myId → s.coordinator = some m.val → (entries.all (fun x => x.m.val != s.myId) = true) → 
    ∃ t, Sys2Proof.Machine.exec (.fedAlloc ⟨c, m⟩ effective entries) s = .next t ∧
      t.fed.allocAt = some s.clk.now ∧ t.plan = s.plan ∧
      (Changes [.fed] (Reg.PORT_CNT_RX c.port :: entries.map (fun x => Reg.MEM_BUDGET x.m)) s t)) ∧
  (∀ (s : State),
    (s.fedOn = false ∨ s.fld Fd.PAI_FED_STAT_FSTATE ≠ 2 ∨ s.fed.allocAt.all (fun x => decide (s.clk.now < x + sTicks 1)) = true) → 
    ∃ t, Sys2Proof.Machine.exec .fedAllocStale s = .next t ∧
      t = s) ∧
  (∀ (s : State) (x : Nat),
    s.fedOn = true → s.fld Fd.PAI_FED_STAT_FSTATE = 2 → s.fed.allocAt = some x → x + sTicks 1 ≤ s.clk.now → 
    ∃ t, Sys2Proof.Machine.exec .fedAllocStale s = .next t ∧
      t.fed = { s.fed with allocAt := none } ∧
      t.plan = s.plan ∧
      t.on Fd.PAI_FED_EVT_ALLOC_STALE = true ∧
      Changes [.fed, .firn] [Reg.PAI_FED_EVT, Reg.PAI_FED_EVT_SEQ] s t) ∧
  (∀ (s : State) (x : Adopted),
    s.fedOn = true → (s.fed.adopt.map (fun y => y.2) = [x]) → (s.fed.redirAt.all (fun x => decide (x + sTicks 1 ≤ s.clk.now)) = true) → 
    ∃ t, Sys2Proof.Machine.exec .redirectSend s = .next t ∧
      t.fed = { s.fed with rseq := (s.fed.rseq + 1) % 2 ^ 32, redirAt := some s.clk.now } ∧
      t.out.length = s.out.length + 2 ∧
      Only [.fed, .sec, .out] s t) ∧
  (∀ (s : State),
    (s.fedOn = false ∨ s.fed.adopt = [] ∨ s.fed.redirAt.any (fun x => decide (s.clk.now < x + sTicks 1)) = true) → 
    ∃ t, Sys2Proof.Machine.exec .redirectSend s = .next t ∧
      t = s)

/-- Federation barriers are agreed: a barrier is proposed, acknowledged, confirmed or given up, and an adoption is proposed. Commands:
FED_BARRIER_PROPOSE, FED_BARRIER_ACK, FED_BARRIER_CONFIRM_DUE, FED_BARRIER_CONFIRM, FED_BARRIER_NO_CONFIRM, ADOPT_PROPOSE. Formalises what
R492, R509, R511 say of these cases. Choices of the model that bear on its clauses: log entries 35, 44, 45, 58, 61, 92. -/
def Obligations.FederationBarriersAreAgreed : Prop :=
  (∀ (c : Option Came) (m : Fin 64) (b : BarrierMsg) (s : State) (n : Nat),
    c = none → s.fedOn = true → s.on Fd.PAI_FED_STAT_COORD = true → diff64 b.at_ s.clk.mtime ≥ 20000000 → s.fedBar b.id = none → s.mainAbsent = false → s.freeEntry = some n → b.action.val ≠ actAdopt → 
    ∃ t, Sys2Proof.Machine.exec (.fedBarrierPropose (c, m) b) s = .next t ∧
      t.fedBar b.id = some ⟨b, [], false, some n⟩ ∧
      t.act.armed = s.act.armed ++ [n] ∧
      t.fld (Fd.AE_STAT_STATE n) = 1 ∧
      (t.trigger n).trig = 2 ∧ (t.trigger n).kind = 6 ∧ (t.trigger n).value = b.at_ ∧
      t.fld (Fd.BAR_CFG_ACTION b.id.val) = b.action.val ∧ t.fld (Fd.BAR_CFG_SCOPE b.id.val) = 1 ∧
      Changes [.act, .fed, .sec, .out] [Reg.AE_CTRL n, Reg.AE_TRIG_LO n, Reg.AE_TRIG_HI n, Reg.AE_ARG0 n, Reg.AE_ARG1 n, Reg.AE_STAT n, Reg.AE_SEQ n, Reg.AE_LATE n, Reg.TIM_ACT_USED, Reg.BAR_CFG b.id.val] s t) ∧
  (∀ (c : Option Came) (m : Fin 64) (b : BarrierMsg) (s : State) (a : Came) (n : Nat),
    c = some a → s.TakesCra a → s.fedOn = true → m.val ≠ s.myId → s.coordinator = some m.val → s.fedBar b.id = none → s.mainAbsent = false → 0 ≤ diff64 b.at_ s.clk.mtime → s.freeEntry = some n → b.action.val ≠ actAdopt → 
    ∃ t, Sys2Proof.Machine.exec (.fedBarrierPropose (c, m) b) s = .next t ∧
      t.fedBar b.id = some ⟨b, [], false, some n⟩ ∧
      t.act.armed = s.act.armed ++ [n] ∧
      (t.trigger n).trig = 2 ∧ (t.trigger n).kind = 6 ∧ (t.trigger n).value = b.at_ ∧
      t.out.length = s.out.length + 2 ∧
      Changes [.act, .fed, .sec, .out] [Reg.AE_CTRL n, Reg.AE_TRIG_LO n, Reg.AE_TRIG_HI n, Reg.AE_ARG0 n, Reg.AE_ARG1 n, Reg.AE_STAT n, Reg.AE_SEQ n, Reg.AE_LATE n, Reg.TIM_ACT_USED, Reg.BAR_CFG b.id.val, Reg.PORT_CNT_RX a.port] s t) ∧
  (∀ (c : Option Came) (m : Fin 64) (b : BarrierMsg) (s : State) (a : Came),
    c = some a → s.TakesCra a → (s.fedOn = false ∨ m.val = s.myId ∨ s.coordinator ≠ some m.val ∨ (s.fedBar b.id).map (fun x => x.msg) = some b) → 
    ∃ t, Sys2Proof.Machine.exec (.fedBarrierPropose (c, m) b) s = .next t ∧
      Changes [] [Reg.PORT_CNT_RX a.port] s t) ∧
  (∀ (c : Option Came) (m : Fin 64) (b : BarrierMsg) (s : State),
    c = none → (s.fedOn = false ∨ s.on Fd.PAI_FED_STAT_COORD = false ∨ diff64 b.at_ s.clk.mtime < 20000000 ∨ s.fedBar b.id ≠ none) → 
    ∃ t, Sys2Proof.Machine.exec (.fedBarrierPropose (c, m) b) s = .next t ∧
      t = s) ∧
  (∀ (c : Came) (m : Fin 64) (id : Fin 16) (s : State),
    s.TakesCra c → (s.on Fd.PAI_FED_STAT_COORD = false ∨ (s.fedBar id).all (fun x => decide (diff64 x.msg.at_ s.clk.mtime < 5000000) || x.acks.contains m.val) = true) → 
    ∃ t, Sys2Proof.Machine.exec (.fedBarrierAck ⟨c, m⟩ id) s = .next t ∧
      Changes [] [Reg.PORT_CNT_RX c.port] s t) ∧
  (∀ (c : Came) (m : Fin 64) (id : Fin 16) (s : State) (x : FedBar),
    s.TakesCra c → s.fedBar id = some x → s.on Fd.PAI_FED_STAT_COORD = true → diff64 x.msg.at_ s.clk.mtime ≥ 5000000 → x.acks.contains m.val = false → 
    ∃ t, Sys2Proof.Machine.exec (.fedBarrierAck ⟨c, m⟩ id) s = .next t ∧
      t.fedBar id = some { x with acks := x.acks ++ [m.val] } ∧
      Changes [.fed] [Reg.PORT_CNT_RX c.port] s t) ∧
  (∀ (id : Fin 16) (s : State) (x : FedBar),
    s.fedBar id = some x → s.on Fd.PAI_FED_STAT_COORD = true → x.confirmed = false → diff64 x.msg.at_ s.clk.mtime ≤ 5000000 ∧ diff64 x.msg.at_ s.clk.mtime ≥ 1000000 → (s.fedMembers.all (fun m => m == s.myId || x.acks.contains m) = true) → s.portAbsent = false → 
    ∃ t, Sys2Proof.Machine.exec (.fedBarrierConfirmDue id) s = .next t ∧
      t.fedBar id = some { x with confirmed := true } ∧
      t.out.length = s.out.length + 6 ∧
      Only [.fed, .sec, .out] s t) ∧
  (∀ (id : Fin 16) (s : State),
    (s.on Fd.PAI_FED_STAT_COORD = false ∨ (s.fedBar id).all (fun x => x.confirmed || decide (5000000 < diff64 x.msg.at_ s.clk.mtime) || decide (diff64 x.msg.at_ s.clk.mtime < 1000000) || s.fedMembers.any (fun m => m != s.myId && !x.acks.contains m)) = true) → 
    ∃ t, Sys2Proof.Machine.exec (.fedBarrierConfirmDue id) s = .next t ∧
      t = s) ∧
  (∀ (c : Came) (m : Fin 64) (id : Fin 16) (at_ : BitVec 64) (s : State),
    s.TakesCra c → (s.coordinator ≠ some m.val ∨ (s.fedBar id).all (fun x => decide (x.msg.at_ ≠ at_)) = true ∨ diff64 at_ s.clk.mtime < 1000000) → 
    ∃ t, Sys2Proof.Machine.exec (.fedBarrierConfirm ⟨c, m⟩ id at_) s = .next t ∧
      Changes [] [Reg.PORT_CNT_RX c.port] s t) ∧
  (∀ (c : Came) (m : Fin 64) (id : Fin 16) (at_ : BitVec 64) (s : State) (x : FedBar),
    s.TakesCra c → s.fedBar id = some x → s.coordinator = some m.val → x.msg.at_ = at_ → diff64 at_ s.clk.mtime ≥ 1000000 → 
    ∃ t, Sys2Proof.Machine.exec (.fedBarrierConfirm ⟨c, m⟩ id at_) s = .next t ∧
      t.fedBar id = some { x with confirmed := true } ∧
      Changes [.fed] [Reg.PORT_CNT_RX c.port] s t) ∧
  (∀ (id : Fin 16) (s : State) (x : FedBar) (n : Nat),
    s.fedBar id = some x → x.confirmed = false → diff64 x.msg.at_ s.clk.mtime ≤ 1000000 → x.entry = some n → s.fld (Fd.AE_STAT_STATE n) = 1 → 
    ∃ t, Sys2Proof.Machine.exec (.fedBarrierNoConfirm id) s = .next t ∧
      t.fedBar id = none ∧
      t.fld (Fd.AE_STAT_STATE n) = 3 ∧ t.fld (Fd.AE_STAT_REASON n) = 3 ∧
      (t.act.armed = s.act.armed.filter (fun m => m != n)) ∧
      Changes [.act, .fed] [Reg.AE_STAT n, Reg.TIM_ACT_USED] s t) ∧
  (∀ (id : Fin 16) (s : State),
    ((s.fedBar id).all (fun x => x.confirmed || decide (1000000 < diff64 x.msg.at_ s.clk.mtime)) = true) → 
    ∃ t, Sys2Proof.Machine.exec (.fedBarrierNoConfirm id) s = .next t ∧
      t = s) ∧
  (∀ (m : Fin 64) (s : State),
    (s.fedOn = false ∨ s.on Fd.PAI_FED_STAT_COORD = false ∨ s.fedBar barAdopt ≠ none ∨ ((Tab.find s.fed.lostAt m).or (Tab.find s.fed.backAt m)).all (fun x => decide (s.clk.now < x + msTicks 100)) = true) → 
    ∃ t, Sys2Proof.Machine.exec (.adoptPropose m) s = .next t ∧
      t = s) ∧
  (∀ (m : Fin 64) (s : State) (n x : Nat),
    s.fedOn = true → s.on Fd.PAI_FED_STAT_COORD = true → s.fedBar barAdopt = none → (Tab.find s.fed.lostAt m).or (Tab.find s.fed.backAt m) = some x → x + msTicks 100 ≤ s.clk.now → s.mainAbsent = false → s.freeEntry = some n → 
    ∃ t, Sys2Proof.Machine.exec (.adoptPropose m) s = .next t ∧
      (t.fedBar barAdopt).map (fun x => (x.msg.action.val, x.msg.at_, x.entry)) = some (actAdopt, s.wireAhead, some n) ∧
      (t.fed.pendingSet = s.fed.lostAt.map (fun x => (x.1, true)) ++ s.fed.backAt.map (fun x => (x.1, false))) ∧
      Only [.act, .fed, .sec, .out, .regs] s t)

/-- The takeover image is cut and taken, and the standby takes over: an image is cut, received and goes stale; the standby takes over, a planned
swap is requested, and a warm main die catches up. Commands: IMAGE_CUT, IMAGE_FRAME, IMAGE_STALE, TAKEOVER, ROLE_SWAP_REQUEST, PAI_WARM.
Formalises what R475, R481, R483, R484, R486, R493 say of these cases. Choices of the model that bear on its clauses: log entries 34, 35,
39, 58, 60, 69, 92, 95. -/
def Obligations.TheImageIsTakenAndTheStandbyTakesOver : Prop :=
  (∀ (s : State),
    s.edgeToCome = true → s.isActive = true → s.on Fd.PAI_STAT_PAIRED = true → s.edge.clk.sidx.toNat % 1000 = 0 → 
    ∃ t, Sys2Proof.Machine.exec .imageCut s = .next t ∧
      t = s.edgeAll.beginTick ∧
      t.clk.begun = t.sys.seracUp) ∧
  (∀ (s : State),
    (s.edgeToCome = false ∨ s.isActive = false ∨ s.on Fd.PAI_STAT_PAIRED = false ∨ s.edge.clk.sidx.toNat % 1000 ≠ 0) → 
    ∃ t, Sys2Proof.Machine.exec .imageCut s = .next t ∧
      t = s) ∧
  (∀ (s : State),
    s.isActive = true → s.on Fd.PAI_STAT_PAIRED = true → s.clk.sidx.toNat % 1000 = 0 → s.drives = true → 
    ∃ t, t = s.imageNow ∧
      t.rd Reg.PAI_IMG_SEQ = s.rd Reg.PAI_IMG_SEQ + 1 ∧
      (t.pair.sent = imageSections.map (fun n => (n, s.sectionNow n)) ∧ t.pair.fullNext = false) ∧
      Changes [.pair, .sec, .out] [Reg.PAI_IMG_SEQ] s t) ∧
  (∀ (path : PairPath) (iseq : Word) (offset : Nat) (bytes : List Byte) (s : State),
    s.fld Fd.PAI_STAT_ROLE = 2 → path = .lane 0 ∧ s.on Fd.PAI_STAT_L0 = true → iseq ≠ s.rd Reg.PAI_IMG_SEQ → s.pair.ready = none → s.pair.rx = some (iseq, [(0, [9])]) → offset = 8184 → bytes = [1, 2, 3] → 
    ∃ t, Sys2Proof.Machine.exec (.imageFrame path iseq offset bytes) s = .next t ∧
      t.pair.rx = some (iseq, [(0, [9]), (8184, [1, 2, 3])]) ∧
      Only [.pair] s t) ∧
  (∀ (path : PairPath) (iseq : Word) (offset : Nat) (bytes : List Byte) (s : State) (a : Came),
    path = .net a → s.TakesCra a → s.fld Fd.PAI_STAT_ROLE = 2 → iseq ≠ s.rd Reg.PAI_IMG_SEQ → s.pair.ready = none → s.pair.rx = some (iseq, [(0, [9])]) → offset = 8184 → bytes = [1, 2, 3] → 
    ∃ t, Sys2Proof.Machine.exec (.imageFrame path iseq offset bytes) s = .next t ∧
      t.pair.rx = some (iseq, [(0, [9]), (8184, [1, 2, 3])]) ∧
      Changes [.pair] [Reg.PORT_CNT_RX a.port] s t) ∧
  (∀ (path : PairPath) (iseq : Word) (offset : Nat) (bytes : List Byte) (s : State) (n : Fin 2),
    path = .lane n → (s.on (laneBit n) = false ∨ s.fld Fd.PAI_STAT_ROLE ≠ 2 ∨ iseq = s.rd Reg.PAI_IMG_SEQ ∨ s.pair.ready.any (fun r => r.iseq == iseq) = true) → 
    ∃ t, Sys2Proof.Machine.exec (.imageFrame path iseq offset bytes) s = .next t ∧
      t = s) ∧
  (∀ (path : PairPath) (iseq : Word) (offset : Nat) (bytes : List Byte) (s : State) (a : Came),
    path = .net a → s.TakesCra a → (s.fld Fd.PAI_STAT_ROLE ≠ 2 ∨ iseq = s.rd Reg.PAI_IMG_SEQ ∨ s.pair.ready.any (fun r => r.iseq == iseq) = true) → 
    ∃ t, Sys2Proof.Machine.exec (.imageFrame path iseq offset bytes) s = .next t ∧
      Changes [] [Reg.PORT_CNT_RX a.port] s t) ∧
  (∀ (s : State),
    (s.fld Fd.PAI_STAT_ROLE ≠ 2 ∨ s.pair.staleTold = true ∨ s.clk.now < s.pair.appliedAt.getD (s.sys.bootAt + msTicks 50) + msTicks 50) → 
    ∃ t, Sys2Proof.Machine.exec .imageStale s = .next t ∧
      t = s) ∧
  (∀ (s : State),
    s.fld Fd.PAI_STAT_ROLE = 2 → s.pair.staleTold = false → s.pair.appliedAt.getD (s.sys.bootAt + msTicks 50) + msTicks 50 ≤ s.clk.now → 
    ∃ t, Sys2Proof.Machine.exec .imageStale s = .next t ∧
      t.pair = { s.pair with staleTold := true } ∧
      t.on Fd.PAI_EVT_IMG_STALE = true ∧
      Changes [.pair, .firn] [Reg.PAI_EVT, Reg.PAI_EVT_SEQ] s t) ∧
  (∀ (s : State),
    s.edgeToCome = true → s.fld Fd.PAI_STAT_ROLE = 2 → (s.pair.declared.any (fun x => decide (x ≤ s.clk.now)) = true) → 
    ∃ t, Sys2Proof.Machine.exec .takeover s = .next t ∧
      t = s.edgeAll.beginTick ∧
      t.clk.begun = t.sys.seracUp) ∧
  (∀ (s : State),
    (s.edgeToCome = false ∨ s.fld Fd.PAI_STAT_ROLE ≠ 2 ∨ s.pair.declared.all (fun x => decide (s.clk.now < x)) = true) → 
    ∃ t, Sys2Proof.Machine.exec .takeover s = .next t ∧
      t = s) ∧
  (∀ (s : State) (x : Nat),
    s.fld Fd.PAI_STAT_ROLE = 2 → s.pair.declared = some x → x < s.clk.now → 
    ∃ t, t = s.takeoverNow ∧
      t.fld Fd.PAI_STAT_ROLE = 1 ∧
      (t.opState = 5 ∨ t.opState = 7 ∨ t.opState = 8) ∧
      (Tab.find s.pair.held 5 = none → s.anySequence = false → s.on Fd.PRT_STAT_FULLCOOL = false → t.opState = 5) ∧
      t.sys.health = true ∧
      t.rd Reg.PLN_PSEQ = s.pair.appliedPseq + 65536 ∧
      t.on Fd.NET_STAT_ROW_OWNER = true ∧
      t.on Fd.PAI_EVT_TAKEOVER = true ∧
      t.pair.declared = none ∧ t.pair.tookAt = some s.clk.now ∧ t.pair.repeats = [s.clk.now + msTicks 100, s.clk.now + msTicks 200]) ∧
  (∀ (w : Fin 8) (value : Word) (s : State),
    s.WriteTaken w Reg.PAI_SWAP value true → fieldOf value 31 1 = 1 → s.swapping = false → s.swapCheck = 1 → 
    ∃ t, Sys2Proof.Machine.exec (.roleSwapRequest w value) s = .next t ∧
      WroteOk t w Reg.PAI_SWAP ∧
      t.fld Fd.PAI_SWAP_STAT_STATE = 1 ∧ t.fld Fd.PAI_SWAP_STAT_RESULT = 0 ∧
      (t.pairBar barRoleSwap).map (fun x => (x.msg.action.val, x.msg.at_)) = some (actRoleSwap, s.boundaryAhead (100 * fieldOf value 0 10)) ∧
      Changes [.zh, .pair, .sec, .out] [Reg.PAI_SWAP, Reg.PAI_SWAP_STAT] s t) ∧
  (∀ (w : Fin 8) (value : Word) (s : State),
    s.WriteTaken w Reg.PAI_SWAP value true → fieldOf value 31 1 = 1 → s.swapCheck ≠ 1 → 
    ∃ t, Sys2Proof.Machine.exec (.roleSwapRequest w value) s = .next t ∧
      t.fld Fd.PAI_SWAP_STAT_RESULT = s.swapCheck ∧
      t.pair = s.pair ∧
      Changes [.zh, .out] [Reg.PAI_SWAP, Reg.PAI_SWAP_STAT] s t) ∧
  (∀ (w : Fin 8) (value : Word) (s : State),
    s.WriteTaken w Reg.PAI_SWAP value true → fieldOf value 31 1 = 0 → 
    ∃ t, Sys2Proof.Machine.exec (.roleSwapRequest w value) s = .next t ∧
      WroteOk t w Reg.PAI_SWAP ∧
      Changes [.zh, .out] [Reg.PAI_SWAP] s t) ∧
  (∀ (w : Fin 8) (value : Word) (s : State),
    s.WriteTaken w Reg.PAI_CTRL value true → s.isActive = false → 
    ∃ t, Sys2Proof.Machine.exec (.paiWarm w value) s = .next t ∧
      WroteOk t w Reg.PAI_CTRL ∧
      t.fld Fd.PAI_CTRL_WARM = fieldOf value 0 1 ∧
      (fieldOf value 0 1 = 0 → t.sys.mainPowered = false) ∧
      (fieldOf value 0 1 = 1 → s.sys.seracUp = true → s.sys.hold = false → s.sys.mainThermal = false → t.sys.mainPowered = true)) ∧
  (∀ (w : Fin 8) (value : Word) (s : State),
    s.WriteTaken w Reg.PAI_CTRL value true → s.isActive = true → 
    ∃ t, Sys2Proof.Machine.exec (.paiWarm w value) s = .next t ∧
      t.fld Fd.PAI_CTRL_WARM = s.fld Fd.PAI_CTRL_WARM ∧
      t.sys = s.sys ∧
      Changes [.zh, .out] [] s t)

/-- The partner is heard, lost and read: heartbeats are sent and heard, a lane and the partner are declared lost, a repeated row address is
reported, and the partner registers and records are read. Commands: HEARTBEAT_SEND, HEARTBEAT_RECEIVED, PAIR_LANE_DOWN, PARTNER_LOST,
PEER_HEALTH_LOST, ROW_ADDRESS_REPEAT, PARTNER_READ_REGS, PARTNER_READ_FIRN, PEEK_DATA, PEEK_TIMEOUT. Formalises what R476, R477, R478, R479,
R480, R489, R589 say of these cases. Choices of the model that bear on its clauses: log entries 22, 35, 60, 63, 69, 92. -/
def Obligations.ThePartnerIsHeardAndRead : Prop :=
  (∀ (s : State),
    s.on Fd.PAI_STAT_PAIRED = true → s.opState ≠ 0 → s.clk.sidx.toNat % 100 = 50 → s.pair.hbSent ≠ some s.clk.now → s.portAbsent = false → 
    ∃ t, Sys2Proof.Machine.exec .heartbeatSend s = .next t ∧
      t.sec.craSeq = s.sec.craSeq.put 1 ((Tab.at 0 s.sec.craSeq 1 + 1) % 2 ^ 32) ∧
      (t.out = [3, 2, 1, 0].map (fun p => Out.frame .heartbeat [p, s.pairLevel, 1, s.sys.straps.moduleId.val, s.sys.straps.slot.val, (Tab.at 0 s.sec.craSeq 1 + 1) % 2 ^ 32, s.clk.mtime.toNat, s.fld Fd.PAI_STAT_ROLE, s.opState, s.healthBits, s.clk.sidx.toNat, (s.rd Reg.PAI_IMG_SEQ).toNat, s.fld Fd.PAI_PLVL_MIN, s.fld Fd.PAI_PLVL_MAX, s.fld Fd.PAI_PLVL_CAP, s.pairLevel, if s.isActive then (s.rd Reg.PLN_PSEQ).toNat else 0]) ++ s.out) ∧
      t.pair = { s.pair with hbSent := some s.clk.now } ∧
      Only [.sec, .out, .pair] s t) ∧
  (∀ (s : State),
    (s.on Fd.PAI_STAT_PAIRED = false ∨ s.opState = 0 ∨ s.clk.sidx.toNat % 100 ≠ 50 ∨ s.pair.hbSent = some s.clk.now) → 
    ∃ t, Sys2Proof.Machine.exec .heartbeatSend s = .next t ∧
      t = s) ∧
  (∀ (path : PairPath) (h : Heartbeat) (s : State),
    s.on Fd.PAI_STAT_PAIRED = true → s.opState ≠ 0 → h.moduleId = s.sys.straps.moduleId → h.slot ≠ s.sys.straps.slot → s.isActive = false → path = .lane 1 → 
    ∃ t, Sys2Proof.Machine.exec (.heartbeatReceived path h) s = .next t ∧
      t.on Fd.PAI_STAT_L1 = true ∧
      (t.pair = { s.pair with laneAt := s.pair.laneAt.put 1 s.clk.now, heard := 0 :: s.pair.heard.filter (fun x => x != 0), heardIn := s.pair.heardIn.put 0 s.clk.now, last := some h, lost := false, fullNext := s.pair.fullNext || !h.health.getLsbD 4 }) ∧
      Changes [.pair] [Reg.PAI_STAT, Reg.TIM_STAT] s t) ∧
  (∀ (path : PairPath) (h : Heartbeat) (s : State) (a : Came),
    s.on Fd.PAI_STAT_PAIRED = true → s.opState ≠ 0 → h.moduleId = s.sys.straps.moduleId → h.slot ≠ s.sys.straps.slot → (s.isActive = false ∨ s.pairUp = false) → path = .net a → s.TakesCra a → 
    ∃ t, Sys2Proof.Machine.exec (.heartbeatReceived path h) s = .next t ∧
      (t.pair = { s.pair with heard := 1 :: s.pair.heard.filter (fun x => x != 1), heardIn := s.pair.heardIn.put 1 s.clk.now, last := some h, lost := false, fullNext := s.pair.fullNext || !h.health.getLsbD 4 }) ∧
      Changes [.pair] [Reg.PORT_CNT_RX a.port] s t) ∧
  (∀ (path : PairPath) (h : Heartbeat) (s : State) (a : Came) (l : Nat),
    s.on Fd.PAI_STAT_PAIRED = true → s.opState ≠ 0 → h.moduleId = s.sys.straps.moduleId → h.slot ≠ s.sys.straps.slot → s.isActive = true → s.pairUp = true → h.role = 2 → s.wantedLevel h = some l → l ≠ s.pairLevel → s.pairBar barPairLevel = none → path = .net a → s.TakesCra a → 
    ∃ t, Sys2Proof.Machine.exec (.heartbeatReceived path h) s = .next t ∧
      (t.pairBar barPairLevel).map (fun x => (x.msg.action.val, x.msg.arg.toNat, x.msg.at_)) = some (2, l % 256, s.boundaryAhead 2000) ∧
      Changes [.pair, .sec, .out] [Reg.PORT_CNT_RX a.port] s t) ∧
  (∀ (path : PairPath) (h : Heartbeat) (s : State),
    (s.on Fd.PAI_STAT_PAIRED = false ∨ s.opState = 0) → 
    ∃ t, Sys2Proof.Machine.exec (.heartbeatReceived path h) s = .next t ∧
      t = s) ∧
  (∀ (path : PairPath) (h : Heartbeat) (s : State) (a : Came),
    path = .net a → s.on Fd.PAI_STAT_PAIRED = true → s.opState ≠ 0 → s.TakesCra a → (h.moduleId ≠ s.sys.straps.moduleId ∧ (s.fld Fd.PAI_STAT_ROLE ≠ 0 ∨ s.sys.mismatch = true) ∨ h.moduleId = s.sys.straps.moduleId ∧ h.slot = s.sys.straps.slot) → 
    ∃ t, Sys2Proof.Machine.exec (.heartbeatReceived path h) s = .next t ∧
      Changes [] [Reg.PORT_CNT_RX a.port] s t) ∧
  (∀ (path : PairPath) (h : Heartbeat) (s : State) (a : Came),
    s.on Fd.PAI_STAT_PAIRED = true → s.opState ≠ 0 → h.moduleId ≠ s.sys.straps.moduleId → s.fld Fd.PAI_STAT_ROLE = 0 → (s.sys.mismatch = false) → path = .net a → s.TakesCra a → 
    ∃ t, Sys2Proof.Machine.exec (.heartbeatReceived path h) s = .next t ∧
      (t.sys = { s.sys with mismatch := true }) ∧
      t.on Fd.ACT_HWEVT_STRAP_MISMATCH = true ∧
      Changes [.sys, .firn] [Reg.ACT_HWEVT, Reg.ACT_HWEVT_SEQ, Reg.PORT_CNT_RX a.port] s t) ∧
  (∀ (lane : Fin 2) (lockLost : Bool) (s : State),
    s.on (laneBit lane) = true → (lockLost = true ∨ Tab.at 0 s.pair.laneAt lane + 10 ≤ s.clk.now) → 
    ∃ t, Sys2Proof.Machine.exec (.pairLaneDown lane lockLost) s = .next t ∧
      t.on (laneBit lane) = false ∧
      t.on Fd.PAI_EVT_LANE_DOWN = true ∧
      Changes [.firn] [Reg.PAI_STAT, Reg.TIM_STAT, Reg.PAI_EVT, Reg.PAI_EVT_SEQ] s t) ∧
  (∀ (lane : Fin 2) (lockLost : Bool) (s : State),
    (s.on (laneBit lane) = false ∨ lockLost = false ∧ s.clk.now < Tab.at 0 s.pair.laneAt lane + 10) → 
    ∃ t, Sys2Proof.Machine.exec (.pairLaneDown lane lockLost) s = .next t ∧
      t = s) ∧
  (∀ (s : State),
    (s.on Fd.PAI_STAT_PAIRED = false ∨ s.fld Fd.PAI_STAT_ROLE = 0 ∨ s.pair.lost = true ∨ s.fld Fd.PAI_HB_MISS_PAIR < 3 ∨ s.fld Fd.PAI_HB_MISS_NET < 3) → 
    ∃ t, Sys2Proof.Machine.exec .partnerLost s = .next t ∧
      t = s) ∧
  (∀ (s : State),
    s.on Fd.PAI_STAT_PAIRED = true → s.fld Fd.PAI_STAT_ROLE ≠ 0 → s.pair.lost = false → 3 ≤ s.fld Fd.PAI_HB_MISS_PAIR → 3 ≤ s.fld Fd.PAI_HB_MISS_NET → s.swapping = false → 
    ∃ t, Sys2Proof.Machine.exec .partnerLost s = .next t ∧
      (t.pair = { s.pair with lost := true, declared := if s.isActive then s.pair.declared else some s.clk.now }) ∧
      t.rd Reg.PAI_CNT_HBMISS = satCount (s.rd Reg.PAI_CNT_HBMISS) 1 ∧
      t.on Fd.PAI_EVT_PARTNER_LOST = true ∧
      Changes [.pair, .firn] [Reg.PAI_CNT_HBMISS, Reg.PAI_EVT, Reg.PAI_EVT_SEQ] s t) ∧
  (∀ (s : State) (x : Nat),
    s.fld Fd.PAI_STAT_ROLE = 2 → s.pair.declared = none → s.pair.peerLow = some x → x + msTicks 1 ≤ s.clk.now → s.swapping = false → 
    ∃ t, Sys2Proof.Machine.exec .peerHealthLost s = .next t ∧
      t = { s with pair := { s.pair with declared := some s.clk.now } }) ∧
  (∀ (s : State),
    (s.fld Fd.PAI_STAT_ROLE ≠ 2 ∨ s.pair.declared ≠ none ∨ s.pair.peerLow.all (fun x => decide (s.clk.now < x + msTicks 1)) = true) → 
    ∃ t, Sys2Proof.Machine.exec .peerHealthLost s = .next t ∧
      t = s) ∧
  (∀ (s : State),
    (s.isActive = false ∨ s.pair.repeats.all (fun x => decide (s.clk.now < x)) = true) → 
    ∃ t, Sys2Proof.Machine.exec .rowAddressRepeat s = .next t ∧
      t = s) ∧
  (∀ (s : State),
    s.isActive = true → (s.pair.repeats.any (fun x => decide (x ≤ s.clk.now)) = true) → s.portAbsent = false → 
    ∃ t, Sys2Proof.Machine.exec .rowAddressRepeat s = .next t ∧
      t.pair = { s.pair with repeats := s.pair.repeats.drop 1 } ∧
      t.out.length = s.out.length + 2 ∧
      Only [.pair, .out] s t) ∧
  (∀ (w : Fin 8) (value : Word) (s : State),
    s.WriteTaken w Reg.PAI_PRD_CTRL value (crossPeek value) → fieldOf value 31 1 = 0 → 
    ∃ t, Sys2Proof.Machine.exec (.partnerReadRegs w value) s = .next t ∧
      WroteOk t w Reg.PAI_PRD_CTRL ∧
      Changes [.zh, .out] [Reg.PAI_PRD_CTRL] s t) ∧
  (∀ (w : Fin 8) (value : Word) (s : State),
    s.WriteTaken w Reg.PAI_PRD_CTRL value (crossPeek value) → fieldOf value 31 1 = 1 → s.on Fd.PAI_PRD_STAT_PENDING = false → s.pairUp = true → 
    ∃ t, Sys2Proof.Machine.exec (.partnerReadRegs w value) s = .next t ∧
      WroteOk t w Reg.PAI_PRD_CTRL ∧
      t.on Fd.PAI_PRD_STAT_PENDING = true ∧
      t.pair = { s.pair with peek := some s.clk.now } ∧
      Changes [.zh, .pair, .sec, .out] [Reg.PAI_PRD_CTRL, Reg.PAI_PRD_STAT] s t) ∧
  (∀ (w : Fin 8) (value : Word) (s : State),
    s.WriteTaken w Reg.PAI_PRD_CTRL value (crossPeek value) → fieldOf value 31 1 = 0 → 
    ∃ t, Sys2Proof.Machine.exec (.partnerReadFirn w value) s = .next t ∧
      WroteOk t w Reg.PAI_PRD_CTRL ∧
      Changes [.zh, .out] [Reg.PAI_PRD_CTRL] s t) ∧
  (∀ (w : Fin 8) (value : Word) (s : State),
    s.WriteTaken w Reg.PAI_PRD_CTRL value (crossPeek value) → fieldOf value 31 1 = 1 → s.on Fd.PAI_PRD_STAT_PENDING = false → s.pairUp = true → 
    ∃ t, Sys2Proof.Machine.exec (.partnerReadFirn w value) s = .next t ∧
      WroteOk t w Reg.PAI_PRD_CTRL ∧
      t.on Fd.PAI_PRD_STAT_PENDING = true ∧
      t.pair = { s.pair with peek := some s.clk.now } ∧
      Changes [.zh, .pair, .sec, .out] [Reg.PAI_PRD_CTRL, Reg.PAI_PRD_STAT] s t) ∧
  (∀ (w : Fin 8) (value : Word) (s : State),
    s.WriteTaken w Reg.PAI_PRD_CTRL value (crossPeek value) → fieldOf value 31 1 = 1 → (s.on Fd.PAI_PRD_STAT_PENDING = true ∨ s.pairUp = false) → 
    ∃ t, Sys2Proof.Machine.exec (.partnerReadRegs w value) s = .next t ∧
      (t.fld Fd.PAI_PRD_STAT_RESULT = if s.on Fd.PAI_PRD_STAT_PENDING then 7 else 5) ∧
      Changes [.zh, .out] [Reg.PAI_PRD_CTRL, Reg.PAI_PRD_STAT] s t) ∧
  (∀ (w : Fin 8) (value : Word) (s : State),
    s.WriteTaken w Reg.PAI_PRD_CTRL value (crossPeek value) → fieldOf value 31 1 = 1 → (s.on Fd.PAI_PRD_STAT_PENDING = true ∨ s.pairUp = false) → 
    ∃ t, Sys2Proof.Machine.exec (.partnerReadFirn w value) s = .next t ∧
      (t.fld Fd.PAI_PRD_STAT_RESULT = if s.on Fd.PAI_PRD_STAT_PENDING then 7 else 5) ∧
      Changes [.zh, .out] [Reg.PAI_PRD_CTRL, Reg.PAI_PRD_STAT] s t) ∧
  (∀ (result : Fin 5) (words : List Word) (s : State),
    s.on Fd.PAI_PRD_STAT_PENDING = true → 
    ∃ t, Sys2Proof.Machine.exec (.peekData result words) s = .next t ∧
      t.fld Fd.PAI_PRD_STAT_RESULT = result.val ∧ t.on Fd.PAI_PRD_STAT_PENDING = false ∧ t.fld Fd.PAI_PRD_STAT_WORDS = min words.length 16 ∧
      (∀ k, k < 16 → ∀ x, words[k]? = some x → t.rd (Reg.PAI_PRD_DATA k) = x) ∧
      t.pair = { s.pair with peek := none } ∧
      Changes [.pair] (Reg.PAI_PRD_STAT :: (List.range 16).map Reg.PAI_PRD_DATA) s t) ∧
  (∀ (result : Fin 5) (words : List Word) (s : State),
    s.on Fd.PAI_PRD_STAT_PENDING = false → 
    ∃ t, Sys2Proof.Machine.exec (.peekData result words) s = .next t ∧
      t = s) ∧
  (∀ (s : State),
    (s.pair.peek.all (fun x => decide (s.clk.now < x + msTicks 1)) = true) → 
    ∃ t, Sys2Proof.Machine.exec .peekTimeout s = .next t ∧
      t = s) ∧
  (∀ (s : State) (x : Nat),
    s.pair.peek = some x → x + msTicks 1 ≤ s.clk.now → 
    ∃ t, Sys2Proof.Machine.exec .peekTimeout s = .next t ∧
      t.fld Fd.PAI_PRD_STAT_RESULT = 6 ∧ t.on Fd.PAI_PRD_STAT_PENDING = false ∧
      t.pair = { s.pair with peek := none } ∧
      Changes [.pair] [Reg.PAI_PRD_STAT] s t)

/-- Lock-step runs and ends: lock-step is requested, inputs are recorded, digests are compared, and a gap, a difference or a command ends it.
Commands: LOCKSTEP_ENTER_REQUEST, LOCKSTEP_LEAVE, LOCKSTEP_INPUT_RECORD, LOCKSTEP_DIGEST, LOCKSTEP_GAP. Formalises what R497, R499, R500 say
of these cases. Choices of the model that bear on its clauses: log entries 35, 59, 92, 95. -/
def Obligations.LockstepRunsAndEnds : Prop :=
  (∀ (w : Fin 8) (p : LsPartner) (s : State),
    s.WriteTaken w Reg.PAI_LS_CTRL 1 true → s.lsOn = false → s.pairBar barLockstep = none → 
    ∃ t, Sys2Proof.Machine.exec (.lockstepEnterRequest w p) s = .next t ∧
      WroteOk t w Reg.PAI_LS_CTRL ∧
      t.fld Fd.PAI_LS_STAT_RESULT = s.lsCheck p ∧
      (t.pairBar barLockstep).isSome = decide (s.lsCheck p = 1) ∧
      (s.lsCheck p = 1 → (t.pairBar barLockstep).map (fun x => (x.msg.action.val, x.msg.at_)) = some (actLockstep, s.boundaryAhead 2000)) ∧
      Changes [.zh, .pair, .sec, .out] [Reg.PAI_LS_STAT] s t) ∧
  (∀ (w : Fin 8) (p : LsPartner) (s : State),
    s.WriteTaken w Reg.PAI_LS_CTRL 1 true → s.lsOn = false → s.pairBar barLockstep = none → s.partnerWarm = true → p.sameSlots = false → 
    ∃ t, Sys2Proof.Machine.exec (.lockstepEnterRequest w p) s = .next t ∧
      t.fld Fd.PAI_LS_STAT_RESULT = 3 ∧
      t.pairBar barLockstep = none ∧
      Changes [.zh, .out] [Reg.PAI_LS_STAT] s t) ∧
  (∀ (w : Fin 8) (p : LsPartner) (s : State),
    s.WriteTaken w Reg.PAI_LS_CTRL 1 true → s.lsOn = false → s.pairBar barLockstep = none → s.lsCheck p ≠ 1 → 
    ∃ t, Sys2Proof.Machine.exec (.lockstepEnterRequest w p) s = .next t ∧
      WroteOk t w Reg.PAI_LS_CTRL ∧
      t.fld Fd.PAI_LS_STAT_RESULT = s.lsCheck p ∧
      t.pairBar barLockstep = none ∧
      Changes [.zh, .out] [Reg.PAI_LS_STAT] s t) ∧
  (∀ (w : Fin 8) (p : LsPartner) (s : State),
    s.WriteTaken w Reg.PAI_LS_CTRL 1 true → (s.lsOn = true ∨ s.pairBar barLockstep ≠ none) → 
    ∃ t, Sys2Proof.Machine.exec (.lockstepEnterRequest w p) s = .next t ∧
      WroteOk t w Reg.PAI_LS_CTRL ∧
      Changes [.zh, .out] [] s t) ∧
  (∀ (w : Fin 8) (s : State),
    s.WriteTaken w Reg.PAI_LS_CTRL 2 true → s.lsOn = false → 
    ∃ t, Sys2Proof.Machine.exec (.lockstepLeave w) s = .next t ∧
      WroteOk t w Reg.PAI_LS_CTRL ∧
      Changes [.zh, .out] [] s t) ∧
  (∀ (w : Fin 8) (s : State),
    s.WriteTaken w Reg.PAI_LS_CTRL 2 true → s.lsOn = true → 
    ∃ t, Sys2Proof.Machine.exec (.lockstepLeave w) s = .next t ∧
      WroteOk t w Reg.PAI_LS_CTRL ∧
      t.fld Fd.PAI_LS_STAT_STATE = 3 ∧ t.fld Fd.PAI_LS_STAT_RESULT = 10 ∧ t.fld Fd.PAI_LS_STAT_LAG = 0 ∧
      t.lst = ⟨none, false, [], 0, 0, [], 0, []⟩ ∧
      t.on Fd.PAI_FED_EVT_LS_END = true ∧
      Changes [.zh, .out, .lst, .firn] [Reg.PAI_LS_STAT, Reg.PAI_FED_EVT, Reg.PAI_FED_EVT_SEQ] s t) ∧
  (∀ (c : Came) (f : LogFrame) (s : State),
    s.TakesCra c → s.lsOn = true → s.lst.sends = false → s.lst.next ≤ f.frame → (s.lst.recs.all (fun x => x.frame != f.frame) = true) → s.on Fd.TBL_STAT_READY = false → max s.lst.high f.frame + 1 ≤ s.lst.next + 2000 → 
    ∃ t, Sys2Proof.Machine.exec (.lockstepInputRecord ⟨c, f⟩) s = .next t ∧
      t.lst = { s.lst with recs := s.lst.recs ++ [f], high := max s.lst.high f.frame } ∧
      t.fld Fd.PAI_LS_STAT_LAG = max s.lst.high f.frame + 1 - s.lst.next ∧
      Changes [.lst] [Reg.PAI_LS_STAT, Reg.PORT_CNT_RX c.port] s t) ∧
  (∀ (c : Came) (f : LogFrame) (s : State),
    s.TakesCra c → s.lsOn = true → s.lst.sends = false → s.lst.next ≤ f.frame → (s.lst.recs.all (fun x => x.frame != f.frame) = true) → s.on Fd.TBL_STAT_READY = false → s.lst.next + 2000 < max s.lst.high f.frame + 1 → 
    ∃ t, Sys2Proof.Machine.exec (.lockstepInputRecord ⟨c, f⟩) s = .next t ∧
      t.fld Fd.PAI_LS_STAT_STATE = 3 ∧ t.fld Fd.PAI_LS_STAT_RESULT = 8 ∧
      t.on Fd.PAI_FED_EVT_LS_END = true ∧
      Changes [.lst, .firn] [Reg.PAI_LS_STAT, Reg.PAI_FED_EVT, Reg.PAI_FED_EVT_SEQ, Reg.PORT_CNT_RX c.port] s t) ∧
  (∀ (c : Came) (f : LogFrame) (s : State),
    s.TakesCra c → (s.lsOn = false ∨ s.lst.sends = true ∨ f.frame < s.lst.next ∨ s.lst.recs.any (fun x => x.frame == f.frame) = true) → 
    ∃ t, Sys2Proof.Machine.exec (.lockstepInputRecord ⟨c, f⟩) s = .next t ∧
      Changes [] [Reg.PORT_CNT_RX c.port] s t) ∧
  (∀ (c : Came) (f : LogFrame) (s : State),
    s.portTakes Fd.PORT_CFG_CRAORI c.port c.src c.row = false → 
    ∃ t, Sys2Proof.Machine.exec (.lockstepInputRecord ⟨c, f⟩) s = .next t ∧
      t = s) ∧
  (∀ (c : Came) (frame : Nat) (d : List Byte) (s : State) (n : Nat),
    s.TakesCra c → s.lsOn = true → s.lst.start = some n → n ≤ frame → s.lst.sends = false → s.lst.next ≤ frame → 
    ∃ t, Sys2Proof.Machine.exec (.lockstepDigest ⟨c, frame⟩ d) s = .next t ∧
      t.lst = { s.lst with digs := s.lst.digs.put frame d } ∧
      Changes [.lst] [Reg.PORT_CNT_RX c.port] s t) ∧
  (∀ (c : Came) (frame : Nat) (d : List Byte) (s : State),
    s.TakesCra c → (s.lsOn = false ∨ s.lst.start.any (fun n => decide (n ≤ frame)) = false ∨ (s.lst.sends = true ∨ frame < s.lst.next) ∧ Tab.find s.firn.digests frame = none) → 
    ∃ t, Sys2Proof.Machine.exec (.lockstepDigest ⟨c, frame⟩ d) s = .next t ∧
      Changes [] [Reg.PORT_CNT_RX c.port] s t) ∧
  (∀ (c : Came) (frame : Nat) (d : List Byte) (s : State),
    s.portTakes Fd.PORT_CFG_CRAORI c.port c.src c.row = false → 
    ∃ t, Sys2Proof.Machine.exec (.lockstepDigest ⟨c, frame⟩ d) s = .next t ∧
      t = s) ∧
  (∀ (c : Came) (frame : Nat) (d : List Byte) (s : State) (n : Nat) (e : List Byte),
    s.TakesCra c → s.lsOn = true → s.lst.start = some n → n ≤ frame → (s.lst.sends = true ∨ frame < s.lst.next) → Tab.find s.firn.digests frame = some e → digestD e = d → 
    ∃ t, Sys2Proof.Machine.exec (.lockstepDigest ⟨c, frame⟩ d) s = .next t ∧
      t.lst = { s.lst with matched := s.lst.matched + 1 } ∧
      t.rd Reg.PAI_CNT_LSFRM = satCount (s.rd Reg.PAI_CNT_LSFRM) 1 ∧
      (t.fld Fd.PAI_LS_STAT_STATE = if 100 ≤ s.lst.matched + 1 then 2 else s.fld Fd.PAI_LS_STAT_STATE) ∧
      (t.fld Fd.PAI_LS_STAT_RESULT = if 100 ≤ s.lst.matched + 1 then 1 else s.fld Fd.PAI_LS_STAT_RESULT) ∧
      Changes [.lst] [Reg.PAI_LS_STAT, Reg.PAI_CNT_LSFRM, Reg.PORT_CNT_RX c.port] s t) ∧
  (∀ (c : Came) (frame : Nat) (d : List Byte) (s : State) (n : Nat) (e : List Byte),
    s.TakesCra c → s.lsOn = true → s.lst.start = some n → n ≤ frame → (s.lst.sends = true ∨ frame < s.lst.next) → Tab.find s.firn.digests frame = some e → digestD e ≠ d → 
    ∃ t, Sys2Proof.Machine.exec (.lockstepDigest ⟨c, frame⟩ d) s = .next t ∧
      t.fld Fd.PAI_LS_STAT_STATE = 3 ∧ t.fld Fd.PAI_LS_STAT_RESULT = 7 ∧
      t.on Fd.PAI_FED_EVT_LS_END = true ∧
      t.rd Reg.PAI_CNT_LSFRM = satCount (s.rd Reg.PAI_CNT_LSFRM) 1 ∧
      Changes [.lst, .firn] [Reg.PAI_LS_STAT, Reg.PAI_CNT_LSFRM, Reg.PAI_FED_EVT, Reg.PAI_FED_EVT_SEQ, Reg.PORT_CNT_RX c.port] s t) ∧
  (∀ (s : State),
    s.lsOn = true → s.lst.sends = false → s.lst.next + 10 ≤ s.lst.high → (s.lst.recs.all (fun f => f.frame != s.lst.next) = true) → 
    ∃ t, Sys2Proof.Machine.exec .lockstepGap s = .next t ∧
      t.fld Fd.PAI_LS_STAT_STATE = 3 ∧ t.fld Fd.PAI_LS_STAT_RESULT = 9 ∧ t.fld Fd.PAI_LS_STAT_LAG = 0 ∧
      t.on Fd.PAI_FED_EVT_LS_END = true ∧
      Changes [.lst, .firn] [Reg.PAI_LS_STAT, Reg.PAI_FED_EVT, Reg.PAI_FED_EVT_SEQ] s t) ∧
  (∀ (s : State),
    (s.lsOn = false ∨ s.lst.sends = true ∨ s.lst.high < s.lst.next + 10 ∨ s.lst.recs.any (fun f => f.frame == s.lst.next) = true) → 
    ∃ t, Sys2Proof.Machine.exec .lockstepGap s = .next t ∧
      t = s)

/-- Keys, enrolments and sessions are established: sessions open, keys are confirmed, attestation is answered, enrolment and program keys are
committed, and send keys are renewed. Commands: SESS_OPEN, SESS_KEY, ATTEST, ENROL_COMMIT, PROGRAM_KEY_COMMIT, SEND_KEY_RENEW,
PEER_EXCHANGE_RESPONSE. Formalises what R532, R535, R537, R539, R542, R543 say of these cases. Choices of the model that bear on its
clauses: log entries 10, 22, 27, 28, 29, 69, 90, 94. -/
def Obligations.KeysAndSessionsAreEstablished : Prop :=
  (∀ (q : Plain) (p : SessOpen) (s : State) (n c : Nat),
    s.TakesPlain q → s.sessOpenBad p = none → p.flags = 0 → s.enrolled p.master.toNat = some n → s.freeSession = some c → (s.leaves 2).next + 1 < akLeaves → 
    ∃ t, Sys2Proof.Machine.exec (.sessOpen q.came q.tag q.mbox p) s = .next t ∧
      (s.initiatorSigned p = true → t.fld (Fd.SS_STAT_STATE c) = 1 ∧ t.fld (Fd.SS_STAT_MASTER c) = p.master.toNat ∧ t.rd (Reg.SS_ID c) = BitVec.ofNat 32 s.newSession.1 ∧ t.fld ⟨Reg.SS_ROLES c, 0, 7⟩ = s.fld (Fd.EN_CFG_ROLES n) ∧ (t.leaves 2).next = (s.leaves 2).next + 1 ∧ Changes [.sec, .zh, .fresh, .firn, .out] [Reg.SS_STAT c, Reg.SS_ID c, Reg.SS_ROLES c, Reg.SS_LEVEL c, Reg.SEC_EVT, Reg.SEC_EVT_SEQ, Reg.PORT_CNT_RX q.port] s t) ∧
      (s.initiatorSigned p = false → PlainAnswered t q 0x02 0x21 1224 [] ∧ t.rd Reg.SEC_CNT_AUTHFAIL = satCount (s.rd Reg.SEC_CNT_AUTHFAIL) 1 ∧ t.sec = s.sec)) ∧
  (∀ (q : Plain) (p : SessOpen) (s : State),
    s.TakesPlain q → s.sessOpenBad p = none → p.flags = 0 → s.initiatorKnown p = true → s.freeSession = none → 
    ∃ t, Sys2Proof.Machine.exec (.sessOpen q.came q.tag q.mbox p) s = .next t ∧
      (s.initiatorSigned p = true → PlainAnswered t q 0x02 0x12 0 [] ∧ t.rd Reg.NET_CNT_BUSY = satCount (s.rd Reg.NET_CNT_BUSY) 1 ∧ Changes [.out] [Reg.NET_CNT_BUSY, Reg.PORT_CNT_RX q.port] s t)) ∧
  (∀ (q : Plain) (p : SessOpen) (s : State),
    s.TakesPlain q → s.sessOpenBad p = none → s.initiatorKnown p = false → 
    ∃ t, Sys2Proof.Machine.exec (.sessOpen q.came q.tag q.mbox p) s = .next t ∧
      PlainAnswered t q 0x02 0x40 0 [] ∧
      t.rd Reg.SEC_CNT_AUTHFAIL = satCount (s.rd Reg.SEC_CNT_AUTHFAIL) 1 ∧
      t.on Fd.SEC_EVT_AUTH_FAIL = true ∧
      t.sec = s.sec) ∧
  (∀ (q : Plain) (p : SessOpen) (s : State) (o : Nat),
    s.TakesPlain q → s.sessOpenBad p = some o → 
    ∃ t, Sys2Proof.Machine.exec (.sessOpen q.came q.tag q.mbox p) s = .next t ∧
      PlainAnswered t q 0x02 0x21 o [] ∧
      Changes [.out] [Reg.PORT_CNT_RX q.port] s t) ∧
  (∀ (q : Plain) (p : SessOpen) (s : State),
    s.portTakes Fd.PORT_CFG_MBOX q.port q.src q.row = false → 
    ∃ t, Sys2Proof.Machine.exec (.sessOpen q.came q.tag q.mbox p) s = .next t ∧
      t = s) ∧
  (∀ (q : Plain) (session : Word) (peerKey : List Byte) (s : State) (k : Nat),
    s.TakesPlain q → s.openingSlot session = some k → 
    ∃ t, Sys2Proof.Machine.exec (.sessKey q.came q.tag q.mbox session (Config.hmac (s.sess k).keyConf (0x4D :: (s.sess k).transcript)) peerKey) s = .next t ∧
      t.sessOpen k = true ∧
      t.sess k = { s.sess k with lastRx := s.clk.now } ∧
      t.rd Reg.SEC_CNT_SESSOPEN = satCount (s.rd Reg.SEC_CNT_SESSOPEN) 1 ∧
      t.on Fd.NET_EVT_SESS_OPEN = true ∧
      PlainAnswered t q 0x03 0 0 (natsOf (Config.hmac (s.sess k).keyConf (0x44 :: (s.sess k).transcript))) ∧
      Changes [.zh, .firn, .out] [Reg.SS_STAT k, Reg.NET_STAT, Reg.SEC_CNT_SESSOPEN, Reg.NET_EVT, Reg.NET_EVT_SEQ, Reg.PORT_CNT_RX q.port] s t) ∧
  (∀ (q : Plain) (session : Word) (conf peerKey : List Byte) (s : State) (k : Nat),
    s.TakesPlain q → s.openingSlot session = some k → 
    ∃ t, Sys2Proof.Machine.exec (.sessKey q.came q.tag q.mbox session conf peerKey) s = .next t ∧
      (conf ≠ Config.hmac (s.sess k).keyConf (0x4D :: (s.sess k).transcript) → PlainAnswered t q 0x03 0x21 8 [] ∧ t.fld (Fd.SS_STAT_STATE k) = 0 ∧ t.rd Reg.SEC_CNT_AUTHFAIL = satCount (s.rd Reg.SEC_CNT_AUTHFAIL) 1 ∧ Changes [.zh, .firn, .out] [Reg.SS_STAT k, Reg.SS_ID k, Reg.SS_ROLES k, Reg.SS_LEVEL k, Reg.SEC_CNT_AUTHFAIL, Reg.SEC_EVT, Reg.SEC_EVT_SEQ, Reg.PORT_CNT_RX q.port] s t)) ∧
  (∀ (q : Plain) (session : Word) (conf peerKey : List Byte) (s : State),
    s.TakesPlain q → s.openingSlot session = none → (s.sec.responding.all (fun p => p.2.session != session) = true) → 
    ∃ t, Sys2Proof.Machine.exec (.sessKey q.came q.tag q.mbox session conf peerKey) s = .next t ∧
      PlainAnswered t q 0x03 0x21 0 [] ∧
      Changes [.out] [Reg.PORT_CNT_RX q.port] s t) ∧
  (∀ (q : Plain) (session : Word) (conf peerKey : List Byte) (s : State),
    s.portTakes Fd.PORT_CFG_MBOX q.port q.src q.row = false → 
    ∃ t, Sys2Proof.Machine.exec (.sessKey q.came q.tag q.mbox session conf peerKey) s = .next t ∧
      t = s) ∧
  (∀ (q : Req) (nonce : List Byte) (s : State) (k : Nat) (u : State),
    s.Reaches q k u → (judgeAttest nonce k u).first q u = none → (s.leaves 1).next + 1 < akLeaves → 
    ∃ t, Sys2Proof.Machine.exec (.attest q nonce) s = .next t ∧
      AnsweredOk t q 0x07 (natsOf (s.report nonce ++ Config.lmsSign 1 (s.nextLeaf 1) (s.report nonce))) ∧
      (t.leaves 1).next = (s.leaves 1).next + 1 ∧
      t.rd Reg.SEC_CNT_ATTEST = satCount (s.rd Reg.SEC_CNT_ATTEST) 1 ∧
      Changes [.zh, .sec, .firn, .out] [Reg.SS_MBOX k, Reg.SEC_CNT_ATTEST, Reg.SEC_EVT, Reg.SEC_EVT_SEQ, Reg.PORT_CNT_RX q.port] s t) ∧
  (∀ (w : Fin 8) (n : Fin 64) (value : Word) (s : State),
    s.WriteTaken w (Reg.EN_CFG n) value (s.enrolOk n value) → s.on (Fd.EN_CFG_VALID n) = false → 
    ∃ t, Sys2Proof.Machine.exec (.enrolCommit w n value) s = .next t ∧
      WroteOk t w (Reg.EN_CFG n) ∧
      t.rd (Reg.EN_CFG n) = value &&& 0x8000007F ∧
      t.sec = { s.sec with enr := s.sec.enr.put n (s.rd (Reg.EN_MASTER n), s.keyAt (Reg.EN_PUB n 0)) } ∧
      t.on Fd.SEC_EVT_ENROL = true ∧
      Changes [.zh, .sec, .firn, .out] [Reg.EN_CFG n, Reg.SEC_STAT, Reg.SEC_EVT, Reg.SEC_EVT_SEQ] s t) ∧
  (∀ (w : Fin 8) (n : Fin 64) (value : Word) (s : State),
    s.WriteTaken w (Reg.EN_CFG n) value (s.enrolOk n value) → s.on (Fd.EN_CFG_VALID n) = true → fieldOf value 31 1 = 0 → 
    ∃ t, Sys2Proof.Machine.exec (.enrolCommit w n value) s = .next t ∧
      t.on (Fd.EN_CFG_VALID n) = false ∧
      (∀ k, k ∈ s.slotsOf (s.enrolNum n) → t.fld (Fd.SS_STAT_STATE k) = 0) ∧
      t.on Fd.SEC_EVT_ENROL = true) ∧
  (∀ (w : Fin 8) (n : Fin 64) (value : Word) (s : State),
    s.WriteTaken w (Reg.EN_CFG n) value (s.enrolOk n value) → s.on (Fd.EN_CFG_VALID n) = true → fieldOf value 31 1 = 1 → fieldOf (s.rd (Reg.EN_MASTER n)) 0 16 = s.enrolNum n → 
    ∃ t, Sys2Proof.Machine.exec (.enrolCommit w n value) s = .next t ∧
      (∀ k, k ∈ s.slotsOf (s.enrolNum n) → t.fld (Fd.SS_STAT_STATE k) = s.fld (Fd.SS_STAT_STATE k) ∧ t.rd (Reg.SS_ROLES k) = BitVec.ofNat 32 (fieldOf value 0 7)) ∧
      (∀ d, d < 4 → bitOf (fieldOf value 0 7) (domainRole d) = false → (∃ k, k ∈ s.slotsOf (s.enrolNum n) ∧ s.holder d = some k) → t.on (Fd.OW_STAT_HELD d) = false) ∧
      t.on Fd.SEC_EVT_ENROL = true) ∧
  (∀ (w : Fin 8) (k : Fin 16) (value : Word) (s : State),
    s.WriteTaken w (Reg.PK_CFG k) value true → 
    ∃ t, Sys2Proof.Machine.exec (.programKeyCommit w k value) s = .next t ∧
      WroteOk t w (Reg.PK_CFG k) ∧
      t.rd (Reg.PK_CFG k) = value &&& 0x80000000 ∧
      t.sec = { s.sec with pkey := s.sec.pkey.put k (s.keyAt (Reg.PK_PUB k 0)) } ∧
      t.on Fd.SEC_EVT_ENROL = true ∧
      Changes [.zh, .sec, .firn, .out] [Reg.PK_CFG k, Reg.SEC_EVT, Reg.SEC_EVT_SEQ] s t) ∧
  (∀ (s : State),
    s.portAbsent = false → s.sec.sendNext = none → (s.sec.sendAt + sTicks 86400 ≤ s.clk.now ∨ 0 < s.sec.crossed) → s.peers = [] → 
    ∃ t, Sys2Proof.Machine.exec .sendKeyRenew s = .next t ∧
      t.sec = { s.sec with sendKey := Config.randomBytes s.fresh 32, sendAt := s.clk.now, crossed := 0, awaiting := [] } ∧
      t.fresh = s.fresh + 1 ∧
      Only [.sec, .fresh] s t) ∧
  (∀ (s : State),
    (s.portAbsent = true ∨ s.sec.sendNext ≠ none ∨ s.clk.now < s.sec.sendAt + sTicks 86400 ∧ s.sec.crossed = 0) → 
    ∃ t, Sys2Proof.Machine.exec .sendKeyRenew s = .next t ∧
      t = s) ∧
  (∀ (peer : Fin 128) (p : PeerResponse) (s : State),
    (s.portAbsent = true ∨ Tab.find s.sec.opening peer = none) → 
    ∃ t, Sys2Proof.Machine.exec (.peerExchangeResponse peer p) s = .next t ∧
      t = s) ∧
  (∀ (peer : Fin 128) (confD sealedKey : List Byte) (s : State) (x : Exchange),
    s.portAbsent = false → Tab.find s.sec.opening peer = some x → x.session = 0 → 
    ∃ t, Sys2Proof.Machine.exec (.peerExchangeResponse peer (.keyed confD sealedKey)) s = .next t ∧
      t.sec = { s.sec with opening := s.sec.opening.del peer } ∧
      t.rd Reg.SEC_CNT_AUTHFAIL = satCount (s.rd Reg.SEC_CNT_AUTHFAIL) 1 ∧
      Changes [.sec, .firn] [Reg.SEC_CNT_AUTHFAIL, Reg.SEC_EVT, Reg.SEC_EVT_SEQ] s t) ∧
  (∀ (peer : Fin 128) (confD sealedKey : List Byte) (s : State) (x : Exchange),
    s.portAbsent = false → Tab.find s.sec.opening peer = some x → x.session ≠ 0 → 
    ∃ t, Sys2Proof.Machine.exec (.peerExchangeResponse peer (.keyed confD sealedKey)) s = .next t ∧
      (∀ key, confD = Config.hmac x.keyConf (0x44 :: x.transcript) → Config.gcmOpen x.keyOut (keyNonce 1) [] sealedKey = some key → Tab.find t.sec.peerKeys peer = some key ∧ t.sec.awaiting = s.sec.awaiting.filter (fun y => y != peer.val) ∧ Only [.sec] s t)) ∧
  (∀ (peer : Fin 128) (session : Word) (nonceD ct akpPub dik akpCert sig : List Byte) (s : State) (x : Exchange),
    s.portAbsent = false → Tab.find s.sec.opening peer = some x → x.session = 0 → 
    ∃ t, Sys2Proof.Machine.exec (.peerExchangeResponse peer (.opened session nonceD ct akpPub dik akpCert sig)) s = .next t ∧
      (s.peerTrusted peer dik = true ∧ lmsOk dik akpPub akpCert = true ∧ lmsOk akpPub (Config.sha256 (x.transcript ++ beBytes 4 session.toNat ++ nonceD ++ ct ++ akpPub ++ dik ++ akpCert)) sig = true → (∃ y, Tab.find t.sec.opening peer = some y ∧ y.session = session) ∧ Only [.sec, .out] s t) ∧
      (¬(s.peerTrusted peer dik = true ∧ lmsOk dik akpPub akpCert = true ∧ lmsOk akpPub (Config.sha256 (x.transcript ++ beBytes 4 session.toNat ++ nonceD ++ ct ++ akpPub ++ dik ++ akpCert)) sig = true) → Tab.find t.sec.opening peer = none ∧ t.rd Reg.SEC_CNT_AUTHFAIL = satCount (s.rd Reg.SEC_CNT_AUTHFAIL) 1 ∧ Changes [.sec, .firn] [Reg.SEC_CNT_AUTHFAIL, Reg.SEC_EVT, Reg.SEC_EVT_SEQ] s t))

/-- Firmware commands take effect: an image is installed, activated, reverted and committed, and a trial turns good. Commands: FW_INSTALL,
FW_INSTALL_DONE, FW_ACTIVATE, FW_REVERT, FW_COMMIT, FW_TRIAL_GOOD. Formalises what R525, R526 say of these cases. Choices of the model that
bear on its clauses: log entries 22, 30, 94. -/
def Obligations.FirmwareCommandsTakeEffect : Prop :=
  (∀ (w : Fin 8) (part : Fin 4) (handle : BitVec 16) (s : State),
    s.WriteTaken w Reg.SEC_FW_CMD (BitVec.ofNat 32 (1 + 16 * part.val + 65536 * handle.toNat)) (crossFw (BitVec.ofNat 32 (1 + 16 * part.val + 65536 * handle.toNat))) → s.on Fd.SEC_FW_STAT_BUSY = true → 
    ∃ t, Sys2Proof.Machine.exec (.fwInstall w part handle) s = .next t ∧
      WroteOk t w Reg.SEC_FW_CMD ∧
      t.fld Fd.SEC_FW_STAT_RESULT = 6 ∧
      Changes [.zh, .out] [Reg.SEC_FW_STAT] s t) ∧
  (∀ (w : Fin 8) (part : Fin 4) (handle : BitVec 16) (s : State),
    s.WriteTaken w Reg.SEC_FW_CMD (BitVec.ofNat 32 (1 + 16 * part.val + 65536 * handle.toNat)) (crossFw (BitVec.ofNat 32 (1 + 16 * part.val + 65536 * handle.toNat))) → s.on Fd.SEC_FW_STAT_BUSY = false → 
    ∃ t, Sys2Proof.Machine.exec (.fwInstall w part handle) s = .next t ∧
      WroteOk t w Reg.SEC_FW_CMD ∧
      t.on Fd.SEC_FW_STAT_BUSY = true ∧ t.fld Fd.SEC_FW_STAT_RESULT = 0 ∧
      t.sec = { s.sec with install := some (part.val, handle.toNat) } ∧
      Changes [.zh, .sec, .out] [Reg.SEC_FW_STAT] s t) ∧
  (∀ (s : State),
    s.sec.install = none → 
    ∃ t, Sys2Proof.Machine.exec .fwInstallDone s = .next t ∧
      t = s) ∧
  (∀ (s : State) (p h : Nat),
    s.sec.install = some (p, h) → s.object h 4 = none → 
    ∃ t, Sys2Proof.Machine.exec .fwInstallDone s = .next t ∧
      t.sec = { s.sec with install := none } ∧
      t.on Fd.SEC_FW_STAT_BUSY = false ∧ t.fld Fd.SEC_FW_STAT_RESULT = 2 ∧
      t.on Fd.SEC_EVT_FW_DONE = true ∧
      Changes [.sec, .firn] [Reg.SEC_FW_STAT, Reg.SEC_EVT, Reg.SEC_EVT_SEQ] s t) ∧
  (∀ (s : State) (p h : Nat) (o : StoreObj),
    s.sec.install = some (p, h) → s.object h 4 = some o → p < 3 → 
    ∃ t, Sys2Proof.Machine.exec .fwInstallDone s = .next t ∧
      t.on Fd.SEC_FW_STAT_BUSY = false ∧ t.fld Fd.SEC_FW_STAT_RESULT = s.fwVerify p o.bytes ∧ t.sec.install = none ∧
      t.on Fd.SEC_EVT_FW_DONE = true ∧
      (s.fwVerify p o.bytes = 1 → t.fwStat p (s.fwSpare p) = 1 ∧ t.rd (if s.fwSpare p = 0 then Reg.FW_VERA p else Reg.FW_VERB p) = BitVec.ofNat 32 (fwVersion o.bytes) ∧ t.fwImage p (s.fwSpare p) = o.bytes ∧ Tab.find t.zh.store h = none) ∧
      (s.fwVerify p o.bytes ≠ 1 → Changes [.sec, .firn] [Reg.SEC_FW_STAT, Reg.SEC_EVT, Reg.SEC_EVT_SEQ] s t)) ∧
  (∀ (w : Fin 8) (parts : Fin 8) (s : State),
    s.WriteTaken w Reg.SEC_FW_CMD (BitVec.ofNat 32 (2 + 64 * parts.val)) (crossFw (BitVec.ofNat 32 (2 + 64 * parts.val))) → s.on Fd.SEC_FW_STAT_BUSY = true → 
    ∃ t, Sys2Proof.Machine.exec (.fwActivate w parts) s = .next t ∧
      WroteOk t w Reg.SEC_FW_CMD ∧
      t.fld Fd.SEC_FW_STAT_RESULT = 6 ∧
      Changes [.zh, .out] [Reg.SEC_FW_STAT] s t) ∧
  (∀ (w : Fin 8) (parts : Fin 8) (s : State),
    s.WriteTaken w Reg.SEC_FW_CMD (BitVec.ofNat 32 (2 + 64 * parts.val)) (crossFw (BitVec.ofNat 32 (2 + 64 * parts.val))) → s.on Fd.SEC_FW_STAT_BUSY = false → ((List.range 3).all (fun p => !bitOf parts.val p || (s.fwSlot p 1).isSome) = true) → 
    ∃ t, Sys2Proof.Machine.exec (.fwActivate w parts) s = .next t ∧
      WroteOk t w Reg.SEC_FW_CMD ∧
      ((List.range 3).all (fun p => !bitOf parts.val p || (s.fwSlot p 1).any (fun b => t.fwStat p b == 2)) = true) ∧
      t.sys = { s.sys with fwReset := true } ∧
      t.fld Fd.SEC_FW_STAT_RESULT = 1 ∧ t.on Fd.SEC_EVT_FW_DONE = true ∧
      Changes [.zh, .sys, .firn, .out] ([Reg.SEC_FW_STAT, Reg.SEC_EVT, Reg.SEC_EVT_SEQ] ++ (List.range 3).map Reg.FW_SLOT) s t) ∧
  (∀ (w : Fin 8) (parts : Fin 8) (s : State),
    s.WriteTaken w Reg.SEC_FW_CMD (BitVec.ofNat 32 (2 + 64 * parts.val)) (crossFw (BitVec.ofNat 32 (2 + 64 * parts.val))) → s.on Fd.SEC_FW_STAT_BUSY = false → ((List.range 3).any (fun p => bitOf parts.val p && (s.fwSlot p 1).isNone) = true) → 
    ∃ t, Sys2Proof.Machine.exec (.fwActivate w parts) s = .next t ∧
      t.fld Fd.SEC_FW_STAT_RESULT = 7 ∧ t.on Fd.SEC_EVT_FW_DONE = true ∧
      Changes [.zh, .firn, .out] [Reg.SEC_FW_STAT, Reg.SEC_EVT, Reg.SEC_EVT_SEQ] s t) ∧
  (∀ (w : Fin 8) (parts : Fin 8) (s : State),
    s.WriteTaken w Reg.SEC_FW_CMD (BitVec.ofNat 32 (4 + 64 * parts.val)) (crossFw (BitVec.ofNat 32 (4 + 64 * parts.val))) → s.on Fd.SEC_FW_STAT_BUSY = true → 
    ∃ t, Sys2Proof.Machine.exec (.fwRevert w parts) s = .next t ∧
      WroteOk t w Reg.SEC_FW_CMD ∧
      t.fld Fd.SEC_FW_STAT_RESULT = 6 ∧
      Changes [.zh, .out] [Reg.SEC_FW_STAT] s t) ∧
  (∀ (w : Fin 8) (parts : Fin 8) (s : State),
    s.WriteTaken w Reg.SEC_FW_CMD (BitVec.ofNat 32 (4 + 64 * parts.val)) (crossFw (BitVec.ofNat 32 (4 + 64 * parts.val))) → s.on Fd.SEC_FW_STAT_BUSY = false → ((List.range 3).all (fun p => !bitOf parts.val p || (s.fwSlot p 1).isSome) = true) → 
    ∃ t, Sys2Proof.Machine.exec (.fwRevert w parts) s = .next t ∧
      WroteOk t w Reg.SEC_FW_CMD ∧
      ((List.range 3).all (fun p => !bitOf parts.val p || (s.fwSlot p 1).any (fun b => t.fwStat p b == 2)) = true) ∧
      t.sys = { s.sys with fwReset := true } ∧
      t.fld Fd.SEC_FW_STAT_RESULT = 1 ∧ t.on Fd.SEC_EVT_FW_DONE = true ∧
      Changes [.zh, .sys, .firn, .out] ([Reg.SEC_FW_STAT, Reg.SEC_EVT, Reg.SEC_EVT_SEQ] ++ (List.range 3).map Reg.FW_SLOT) s t) ∧
  (∀ (w : Fin 8) (parts : Fin 8) (s : State),
    s.WriteTaken w Reg.SEC_FW_CMD (BitVec.ofNat 32 (4 + 64 * parts.val)) (crossFw (BitVec.ofNat 32 (4 + 64 * parts.val))) → s.on Fd.SEC_FW_STAT_BUSY = false → ((List.range 3).any (fun p => bitOf parts.val p && (s.fwSlot p 1).isNone) = true) → 
    ∃ t, Sys2Proof.Machine.exec (.fwRevert w parts) s = .next t ∧
      t.fld Fd.SEC_FW_STAT_RESULT = 7 ∧ t.on Fd.SEC_EVT_FW_DONE = true ∧
      Changes [.zh, .firn, .out] [Reg.SEC_FW_STAT, Reg.SEC_EVT, Reg.SEC_EVT_SEQ] s t) ∧
  (∀ (w : Fin 8) (parts : Fin 8) (s : State),
    s.WriteTaken w Reg.SEC_FW_CMD (BitVec.ofNat 32 (3 + 64 * parts.val)) (crossFw (BitVec.ofNat 32 (3 + 64 * parts.val))) → s.on Fd.SEC_FW_STAT_BUSY = true → 
    ∃ t, Sys2Proof.Machine.exec (.fwCommit w parts) s = .next t ∧
      WroteOk t w Reg.SEC_FW_CMD ∧
      t.fld Fd.SEC_FW_STAT_RESULT = 6 ∧
      Changes [.zh, .out] [Reg.SEC_FW_STAT] s t) ∧
  (∀ (w : Fin 8) (parts : Fin 8) (s : State),
    s.WriteTaken w Reg.SEC_FW_CMD (BitVec.ofNat 32 (3 + 64 * parts.val)) (crossFw (BitVec.ofNat 32 (3 + 64 * parts.val))) → s.on Fd.SEC_FW_STAT_BUSY = false → 
    ∃ t, Sys2Proof.Machine.exec (.fwCommit w parts) s = .next t ∧
      WroteOk t w Reg.SEC_FW_CMD ∧
      (∀ p, p < 3 → t.fld (Fd.FW_SVN_FLOOR p) = if bitOf parts.val p then (s.fwSlot p 3).elim (s.fld (Fd.FW_SVN_FLOOR p)) (fun b => max (s.fld (Fd.FW_SVN_FLOOR p)) (min (fwSvn (s.fwImage p b)) 64)) else s.fld (Fd.FW_SVN_FLOOR p)) ∧
      t.fld Fd.SEC_FW_STAT_RESULT = 1 ∧ t.on Fd.SEC_EVT_FW_DONE = true ∧
      Changes [.zh, .firn, .out] ([Reg.SEC_FW_STAT, Reg.SEC_EVT, Reg.SEC_EVT_SEQ] ++ (List.range 3).map Reg.FW_SVN) s t) ∧
  (∀ (part : Fin 3) (s : State) (x : Nat),
    s.fwStat part (s.fld (Fd.FW_SLOT_RUN part)) = 2 → Tab.find s.sys.readyAt part = some x → x + sTicks 60 ≤ s.clk.now → 
    ∃ t, Sys2Proof.Machine.exec (.fwTrialGood part) s = .next t ∧
      t.fwStat part (s.fld (Fd.FW_SLOT_RUN part)) = 3 ∧
      (t.fwStat part (1 - s.fld (Fd.FW_SLOT_RUN part)) = if s.fwStat part (1 - s.fld (Fd.FW_SLOT_RUN part)) = 3 then 1 else s.fwStat part (1 - s.fld (Fd.FW_SLOT_RUN part))) ∧
      t.fld (Fd.FW_SLOT_ATTEMPTS part) = 0 ∧
      Changes [] [Reg.FW_SLOT part] s t) ∧
  (∀ (part : Fin 3) (s : State),
    ((Tab.find s.sys.readyAt part).all (fun x => decide (s.clk.now < x + sTicks 60)) = true ∨ s.fwStat part (s.fld (Fd.FW_SLOT_RUN part)) ≠ 2) → 
    ∃ t, Sys2Proof.Machine.exec (.fwTrialGood part) s = .next t ∧
      t = s)

/-- Transfers and the table store act: transfers open, carry data, close, read, delete and expire, and a session serves the table store.
Commands: XFER_OPEN, XFER_DATA, XFER_CLOSE, XFER_READ, XFER_DELETE, XFER_EXPIRY, STORE_ATTACH, STORE_DETACH, STORE_PUT_RESPONSE,
STORE_GET_RESPONSE, DEVICE_REQUEST_RETRY. Formalises what R196, R426, R437, R438, R439 say of these cases. Choices of the model that bear on
its clauses: log entries 17, 27, 30, 90. -/
def Obligations.StoreTransfersAct : Prop :=
  (∀ (q : Req) (kind flags : Byte) (size : BitVec 64) (s : State) (k : Nat) (u : State),
    s.Reaches q k u → (judgeXferOpen kind flags size k u).first q u = none → 
    ∃ t, Sys2Proof.Machine.exec (.xferOpen q kind flags size) s = .next t ∧
      AnsweredOk t q 0x70 [s.freeHandle] ∧
      (Tab.find t.zh.store s.freeHandle = some { kind := kind.toNat, retain := bitOf flags.toNat 0, size := size.toNat, data := [], closed := false, hash := [], lastData := s.clk.now, domain := if kind.toNat = 4 then domMaint else domControl }) ∧
      Changes [.zh, .out] [Reg.SS_MBOX k, Reg.PORT_CNT_RX q.port] s t) ∧
  (∀ (q : Req) (handle : BitVec 16) (offset : BitVec 64) (data : List Byte) (s : State) (k : Nat) (u : State) (o : StoreObj),
    s.Reaches q k u → (judgeXferData handle offset data k u).first q u = none → Tab.find s.zh.store handle.toNat = some o → o.closed = false → 
    ∃ t, Sys2Proof.Machine.exec (.xferData q handle offset data) s = .next t ∧
      AnsweredOk t q 0x71 [] ∧
      Tab.find t.zh.store handle.toNat = some { o with data := putBytes offset.toNat data o.data, lastData := s.clk.now } ∧
      Changes [.zh, .out] [Reg.SS_MBOX k, Reg.PORT_CNT_RX q.port] s t) ∧
  (∀ (q : Req) (handle : BitVec 16) (hash : List Byte) (s : State) (k : Nat) (u : State) (o : StoreObj),
    s.Reaches q k u → (judgeXferClose handle hash k u).first q u = none → Tab.find s.zh.store handle.toNat = some o → o.closed = false → o.size ≤ o.data.length → 
    ∃ t, Sys2Proof.Machine.exec (.xferClose q handle hash) s = .next t ∧
      (Config.sha256 o.bytes = hash → AnsweredOk t q 0x72 [] ∧ Tab.find t.zh.store handle.toNat = some { o with closed := true, hash := hash }) ∧
      (Config.sha256 o.bytes = hash → { o with closed := true, hash := hash }.kept = true → s.zh.nvStore.any (fun p => p.2.kind == o.kind && p.2.hash == hash) = false → t.zh.nvStore.any (fun p => p.2.kind == o.kind && p.2.hash == hash) = true) ∧
      (Config.sha256 o.bytes ≠ hash → Tab.find t.zh.store handle.toNat = none ∧ Refused t q 0x72 0x41) ∧
      Changes [.zh, .out] [Reg.SS_MBOX k, Reg.PORT_CNT_RX q.port] s t) ∧
  (∀ (q : Req) (handle : BitVec 16) (hash : List Byte) (s : State) (k : Nat) (u : State) (o : StoreObj),
    s.Reaches q k u → (judgeXferClose handle hash k u).first q u = none → Tab.find s.zh.store handle.toNat = some o → o.closed = false → o.data.length < o.size → 
    ∃ t, Sys2Proof.Machine.exec (.xferClose q handle hash) s = .next t ∧
      Refused t q 0x72 0x41 ∧
      Tab.find t.zh.store handle.toNat = none ∧
      Changes [.zh, .out] [Reg.SS_MBOX k, Reg.PORT_CNT_RX q.port] s t) ∧
  (∀ (q : Req) (handle : BitVec 16) (offset : BitVec 64) (length : Word) (s : State) (k : Nat) (u : State) (b : List Byte),
    s.Reaches q k u → (judgeXferRead handle offset length k u).first q u = none → s.readable handle.toNat = some b → 
    ∃ t, Sys2Proof.Machine.exec (.xferRead q handle offset length) s = .next t ∧
      AnsweredOk t q 0x73 (b.length :: ((b.drop offset.toNat).take length.toNat).map (·.toNat)) ∧
      Changes [.zh, .out] [Reg.SS_MBOX k, Reg.PORT_CNT_RX q.port] s t) ∧
  (∀ (q : Req) (handle : BitVec 16) (offset : BitVec 64) (length : Word) (s : State) (k : Nat) (u : State),
    s.Reaches q k u → (judgeXferRead handle offset length k u).first q u = none → s.readable handle.toNat = none → 
    ∃ t, Sys2Proof.Machine.exec (.xferRead q handle offset length) s = .next t ∧
      Refused t q 0x73 0x40 ∧
      Changes [.zh, .out] [Reg.SS_MBOX k, Reg.PORT_CNT_RX q.port] s t) ∧
  (∀ (q : Req) (handle : BitVec 16) (s : State) (k : Nat) (u : State) (o : StoreObj),
    s.Reaches q k u → (judgeXferDelete handle k u).first q u = none → Tab.find s.zh.store handle.toNat = some o → 
    ∃ t, Sys2Proof.Machine.exec (.xferDelete q handle) s = .next t ∧
      AnsweredOk t q 0x74 [] ∧
      Tab.find t.zh.store handle.toNat = none ∧
      Changes [.zh, .out] [Reg.SS_MBOX k, Reg.PORT_CNT_RX q.port] s t) ∧
  (∀ (q : Req) (handle : BitVec 16) (offset : BitVec 64) (data : List Byte) (s : State) (k : Nat) (u : State),
    s.Reaches q k u → (judgeXferData handle offset data k u).first q u = none → ((Tab.find s.zh.store handle.toNat).all (fun o => o.closed) = true) → 
    ∃ t, Sys2Proof.Machine.exec (.xferData q handle offset data) s = .next t ∧
      Refused t q 0x71 0x40 ∧
      t.zh.store = s.zh.store) ∧
  (∀ (handle : BitVec 16) (s : State),
    ((Tab.find s.zh.store handle.toNat).all (fun o => o.closed || decide (s.clk.now < o.lastData + sTicks 60)) = true) → 
    ∃ t, Sys2Proof.Machine.exec (.xferExpiry handle) s = .next t ∧
      t = s) ∧
  (∀ (handle : BitVec 16) (s : State) (o : StoreObj),
    Tab.find s.zh.store handle.toNat = some o → o.closed = false → o.lastData + sTicks 60 ≤ s.clk.now → 
    ∃ t, Sys2Proof.Machine.exec (.xferExpiry handle) s = .next t ∧
      Tab.find t.zh.store handle.toNat = none ∧
      Only [.zh] s t) ∧
  (∀ (q : Req) (s : State) (k : Nat) (u : State),
    s.Reaches q k u → (judgeStoreAttach k u).first q u = none → 
    ∃ t, Sys2Proof.Machine.exec (.storeAttach q) s = .next t ∧
      AnsweredOk t q 0x78 [] ∧
      t.zh.attached = some k ∧
      Changes [.zh, .out] [Reg.SS_MBOX k, Reg.PORT_CNT_RX q.port] s t) ∧
  (∀ (q : Req) (s : State) (k : Nat) (u : State),
    s.Reaches q k u → (judgeStoreDetach k u).first q u = none → 
    ∃ t, Sys2Proof.Machine.exec (.storeDetach q) s = .next t ∧
      AnsweredOk t q 0x79 [] ∧
      t.zh.attached = none ∧ t.zh.devs = [] ∧
      Changes [.zh, .out] [Reg.SS_MBOX k, Reg.PORT_CNT_RX q.port] s t) ∧
  (∀ (q : Req) (s : State) (k high win : Nat) (d : DeviceReq) (j : SaveJob),
    s.portTakes Fd.PORT_CFG_MBOX q.port q.src q.row = true → (s.countRx q.port).quarEntry q.src = none → (s.countRx q.port).slotOf q.session = some k → (q.defer = true ∨ q.deferMs = 0) → s.zh.attached = some k → q.mbox = 14 → seqVerdict ((s.onFrame k q).sess k).rxHigh ((s.onFrame k q).sess k).rxWin q.seq.toNat = .fresh high win → (s.zh.devs.find? (fun d => d.tag == q.tag && d.cmd == 0xC1) = some d) → d.last = true → (s.tbl.saves.find? (fun x => x.key == d.key) = some j) → j.push = false → j.written = false → (s.storeKey j.table j.seg).getD 2 0 = j.key.getD 2 0 → 
    ∃ t, Sys2Proof.Machine.exec (.storePutResponse q true) s = .next t ∧
      (t.tbl.saves = s.tbl.saves.filter (fun x => x.key != d.key)) ∧
      (t.tblOf j.table).dirty = (s.tblOf j.table).dirty.filter (· != j.seg) ∧
      Only [.zh, .tbl, .out, .regs] s t) ∧
  (∀ (q : Req) (size : Nat) (epoch : BitVec 64) (s : State) (k high win : Nat) (d : DeviceReq),
    s.portTakes Fd.PORT_CFG_MBOX q.port q.src q.row = true → (s.countRx q.port).quarEntry q.src = none → (s.countRx q.port).slotOf q.session = some k → (q.defer = true ∨ q.deferMs = 0) → s.zh.attached = some k → q.mbox = 14 → seqVerdict ((s.onFrame k q).sess k).rxHigh ((s.onFrame k q).sess k).rxWin q.seq.toNat = .fresh high win → (s.zh.devs.find? (fun d => d.tag == q.tag && d.cmd == 0xC2) = some d) → 
    ∃ t, Sys2Proof.Machine.exec (.storeGetResponse q size epoch none) s = .next t ∧
      t.tbl.got = s.tbl.got ++ [⟨d.key, none⟩] ∧
      Only [.zh, .tbl, .out, .regs] s t) ∧
  (∀ (q : Req) (size : Nat) (epoch : BitVec 64) (b : List Byte) (s : State) (k high win : Nat) (d : DeviceReq),
    s.portTakes Fd.PORT_CFG_MBOX q.port q.src q.row = true → (s.countRx q.port).quarEntry q.src = none → (s.countRx q.port).slotOf q.session = some k → (q.defer = true ∨ q.deferMs = 0) → s.zh.attached = some k → q.mbox = 14 → seqVerdict ((s.onFrame k q).sess k).rxHigh ((s.onFrame k q).sess k).rxWin q.seq.toNat = .fresh high win → (s.zh.devs.find? (fun d => d.tag == q.tag && d.cmd == 0xC2) = some d) → size ≤ (d.buf ++ b).length → 
    ∃ t, Sys2Proof.Machine.exec (.storeGetResponse q size epoch (some b)) s = .next t ∧
      t.tbl.got = s.tbl.got ++ [⟨d.key.take 5 ++ [epoch.toNat], some (epoch.toNat, d.buf ++ b)⟩] ∧
      Only [.zh, .tbl, .out, .regs] s t) ∧
  (∀ (q : Req) (s : State) (k high win : Nat) (d : DeviceReq) (j : SaveJob),
    s.portTakes Fd.PORT_CFG_MBOX q.port q.src q.row = true → (s.countRx q.port).quarEntry q.src = none → (s.countRx q.port).slotOf q.session = some k → (q.defer = true ∨ q.deferMs = 0) → s.zh.attached = some k → q.mbox = 14 → seqVerdict ((s.onFrame k q).sess k).rxHigh ((s.onFrame k q).sess k).rxWin q.seq.toNat = .fresh high win → (s.zh.devs.find? (fun d => d.tag == q.tag && d.cmd == 0xC1) = some d) → (s.tbl.saves.find? (fun x => x.key == d.key) = some j) → j.push = false → 
    ∃ t, Sys2Proof.Machine.exec (.storePutResponse q false) s = .next t ∧
      (t.tbl.saves = s.tbl.saves.map (fun x => if x.key == d.key then { x with failed := some s.clk.now } else x)) ∧
      t.on Fd.TBL_EVT_SAVE_FAIL = true ∧
      Only [.zh, .tbl, .out, .regs, .firn] s t) ∧
  (∀ (tag : Word) (s : State),
    ((s.zh.devs.find? (fun d => d.tag == tag)).all (fun d => decide (s.clk.now < d.sentAt + sTicks 1)) = true) → 
    ∃ t, Sys2Proof.Machine.exec (.deviceRequestRetry tag) s = .next t ∧
      t = s) ∧
  (∀ (tag : Word) (s : State) (d : DeviceReq) (j : SaveJob),
    (s.zh.devs.find? (fun d => d.tag == tag) = some d) → d.sentAt + sTicks 1 ≤ s.clk.now → 3 < d.sent → d.cmd = 0xC1 → (s.tbl.saves.find? (fun x => x.key == d.key) = some j) → j.push = false → 
    ∃ t, Sys2Proof.Machine.exec (.deviceRequestRetry tag) s = .next t ∧
      (t.tbl.saves = s.tbl.saves.map (fun x => if x.key == d.key then { x with failed := some s.clk.now } else x)) ∧
      t.on Fd.TBL_EVT_SAVE_FAIL = true) ∧
  (∀ (tag : Word) (s : State) (k : Nat) (d : DeviceReq),
    (s.zh.devs.find? (fun d => d.tag == tag) = some d) → d.sentAt + sTicks 1 ≤ s.clk.now → d.sent ≤ 3 → s.zh.attached = some k → 
    ∃ t, Sys2Proof.Machine.exec (.deviceRequestRetry tag) s = .next t ∧
      (t.zh.devs.find? (fun d => d.tag == tag) = some { d with sentAt := s.clk.now, sent := d.sent + 1 }) ∧
      (∃ fields, t.out = .device k d.cmd d.tag.toNat (s.sess k).txNext fields :: s.out) ∧
      Only [.zh, .out] s t) ∧
  (∀ (tag : Word) (s : State) (d : DeviceReq),
    (s.zh.devs.find? (fun d => d.tag == tag) = some d) → d.sentAt + sTicks 1 ≤ s.clk.now → 3 < d.sent → d.cmd ≠ 0xC1 → 
    ∃ t, Sys2Proof.Machine.exec (.deviceRequestRetry tag) s = .next t ∧
      t.tbl.got = s.tbl.got ++ [⟨d.key, none⟩] ∧
      Only [.zh, .tbl, .out] s t)

/-- Commissioning records and evidence are kept: the commissioning record is made and cleared, ceilings are reset, and Firn windows, clearing,
mirror and anchors act. Commands: CREC_MAKE, CREC_CLEAR, CEILING_RESET, FIRN_WINDOW_LATCH, FIRN_CLEAR, FIRN_MIRROR_COPY, ANCHOR_SECOND,
ANCHOR_FREE. Formalises what R50, R448, R557, R561, R563, R564 say of these cases. Choices of the model that bear on its clauses: log
entries 34, 39, 60, 62, 63, 95. -/
def Obligations.RecordsAndEvidenceAreKept : Prop :=
  (∀ (w : Fin 8) (s : State),
    s.WriteTaken w Reg.SYS_CREC_CMD 1 true → s.sys.crecMake = none → 
    ∃ t, Sys2Proof.Machine.exec (.crecMake w) s = .next t ∧
      WroteOk t w Reg.SYS_CREC_CMD ∧
      t.sys = { s.sys with crecMake := some (s.fld (Fd.SS_STAT_MASTER w)) } ∧
      t.on Fd.SYS_CREC_STAT_PENDING = true ∧
      Changes [.zh, .sys, .out] [Reg.SYS_CREC_STAT] s t) ∧
  (∀ (w : Fin 8) (s : State) (r : CrecRecord),
    s.WriteTaken w Reg.SYS_CREC_CMD 2 true → s.sys.crecMake = none → s.sys.crec = some r → 
    ∃ t, Sys2Proof.Machine.exec (.crecClear w) s = .next t ∧
      WroteOk t w Reg.SYS_CREC_CMD ∧
      t.sys = { s.sys with crec := some { r with crc := r.crcOf + 1 } } ∧
      t.recordValid = false ∧
      Changes [.zh, .sys, .firn, .out] [Reg.SYS_CREC_STAT] s t) ∧
  (∀ (w : Fin 8) (s : State),
    s.WriteTaken w Reg.SYS_CFGRST 0xCE110001 true → 
    ∃ t, Sys2Proof.Machine.exec (.ceilingReset w) s = .next t ∧
      WroteOk t w Reg.SYS_CFGRST ∧
      t.sys = { s.sys with ceilReset := some (s.fld (Fd.SS_STAT_MASTER w)) } ∧
      Changes [.zh, .sys, .out] [] s t) ∧
  (∀ (w : Fin 8) (win : Fin 8) (value : Word) (s : State) (r : FirnRec) (newer : Nat),
    s.WriteTaken w (Reg.W_CTRL win) value true → fieldOf value 0 2 = 1 → fieldOf value 2 1 = 1 → s.cursor win ≠ 2 ^ 64 - 1 → recordAt (s.cursor win) s.firn.circ = some (r, newer) → 
    ∃ t, Sys2Proof.Machine.exec (.firnWindowLatch w win value) s = .next t ∧
      WroteOk t w (Reg.W_CTRL win) ∧
      (∀ i, i < 16 → t.rd (Reg.FRN_WREC win i) = (r.words (r.snap.isSome && snapGone 1 newer)).getD i 0) ∧
      (∀ i, i < 128 → t.rd (Reg.FRN_WSNAP win i) = (r.snapWords (r.snap.isSome && snapGone 1 newer)).getD i 0) ∧
      t.cursor win = (r.seq + 1) % 2 ^ 64 ∧
      (t.fld (Fd.W_STAT_RESULT win) = if s.cursor win ≠ 0 ∧ (s.firn.circ.getLast?).any (fun o => decide (s.cursor win < o.seq)) = true then 2 else 1) ∧
      t.firn = s.firn ∧
      Changes [.zh, .out] ([Reg.W_CTRL win, Reg.W_CUR_LO win, Reg.W_CUR_HI win, Reg.W_STAT win] ++ (List.range 16).map (Reg.FRN_WREC win) ++ (List.range 128).map (Reg.FRN_WSNAP win)) s t) ∧
  (∀ (w : Fin 8) (win : Fin 8) (value : Word) (s : State),
    s.WriteTaken w (Reg.W_CTRL win) value true → fieldOf value 2 1 = 1 → (fieldOf value 0 2 ≠ 2 ∨ s.mainAbsent = false) → s.area (fieldOf value 0 2) = [] → 
    ∃ t, Sys2Proof.Machine.exec (.firnWindowLatch w win value) s = .next t ∧
      WroteOk t w (Reg.W_CTRL win) ∧
      t.fld (Fd.W_STAT_RESULT win) = 3 ∧
      Changes [.zh, .out] [Reg.W_CTRL win, Reg.W_STAT win] s t) ∧
  (∀ (w : Fin 8) (win : Fin 8) (value : Word) (s : State),
    s.WriteTaken w (Reg.W_CTRL win) value true → fieldOf value 2 1 = 0 → 
    ∃ t, Sys2Proof.Machine.exec (.firnWindowLatch w win value) s = .next t ∧
      WroteOk t w (Reg.W_CTRL win) ∧
      t.fld (Fd.W_CTRL_AREA win) = fieldOf value 0 2 ∧
      Changes [.zh, .out] [Reg.W_CTRL win] s t) ∧
  (∀ (w : Fin 8) (value : Word) (s : State),
    s.WriteTaken w Reg.FRN_CLR value (fieldOf value 16 16 == 0xC1EA && fieldOf value 0 3 != 0) → 
    ∃ t, Sys2Proof.Machine.exec (.firnClear w value) s = .next t ∧
      WroteOk t w Reg.FRN_CLR ∧
      t.firn = { s.firn with clear := some (fieldOf value 0 3, s.fld (Fd.SS_STAT_MASTER w)) } ∧
      Changes [.zh, .firn, .out] [] s t) ∧
  (∀ (s : State) (areas master : Nat),
    s.firn.clear = some (areas, master) → 
    ∃ t, t = s.applyClear ∧
      t.firn.clear = none ∧
      t.firn.first = cleared areas 0 s.firn.seq s.firn.first ∧
      t.firn.circ = cleared areas 1 s.firn.seq s.firn.circ ∧
      t.firn.ring = cleared areas 2 s.firn.seq s.firn.ring ∧
      t.on Fd.FRN_EVT_CLEARED = true ∧
      Changes [.firn, .fresh] [Reg.FRN_EVT, Reg.FRN_EVT_SEQ] s t) ∧
  (∀ (s : State) (o : FirnRec),
    s.mainAbsent = false → s.on Fd.FRN_CTRL_MIRROR_EN = true → ((s.firn.circ.filter (fun r => decide (s.firn.mirror ≤ r.seq))).getLast? = some o) → o.seq ≤ s.firn.mirror → 
    ∃ t, Sys2Proof.Machine.exec .firnMirrorCopy s = .next t ∧
      (t.firn = { s.firn with ring := (s.firn.circ.filter (fun r => decide (s.firn.mirror ≤ r.seq)) ++ s.firn.ring).take 16777216, mirror := s.firn.seq, anchorRing := (s.firn.newAnchors ++ s.firn.anchorRing).take 1048576 }) ∧
      Only [.firn] s t) ∧
  (∀ (s : State),
    s.mainAbsent = false → s.on Fd.FRN_CTRL_MIRROR_EN = true → (s.firn.circ.all (fun r => decide (r.seq < s.firn.mirror)) = true) → 
    ∃ t, Sys2Proof.Machine.exec .firnMirrorCopy s = .next t ∧
      t.firn = { s.firn with anchorRing := (s.firn.newAnchors ++ s.firn.anchorRing).take 1048576 } ∧
      Only [.firn] s t) ∧
  (∀ (s : State) (o : FirnRec),
    s.mainAbsent = false → s.on Fd.FRN_CTRL_MIRROR_EN = true → ((s.firn.circ.filter (fun r => decide (s.firn.mirror ≤ r.seq))).getLast? = some o) → s.firn.mirror < o.seq → 
    ∃ t, Sys2Proof.Machine.exec .firnMirrorCopy s = .next t ∧
      t.firn.mirror = s.firn.seq ∧
      t.rd Reg.FRN_CNT_MGAP = satCount (s.rd Reg.FRN_CNT_MGAP) (o.seq - s.firn.mirror) ∧
      t.on Fd.FRN_EVT_MIRROR_GAP = true ∧
      Changes [.firn] [Reg.FRN_CNT_MGAP, Reg.FRN_EVT, Reg.FRN_EVT_SEQ] s t) ∧
  (∀ (s : State),
    s.edgeToCome = true → s.sys.portUp = true → s.portAbsent = false → s.clk.lastSecond < s.edge.clk.lastSecond → 
    ∃ t, Sys2Proof.Machine.exec .anchorSecond s = .next t ∧
      t = s.edgeAll.beginTick ∧
      t.clk.begun = t.sys.seracUp) ∧
  (∀ (s : State),
    s.clk.lastSecond < s.clk.mtime.toNat / 1000000000 → s.sys.portUp = true → s.portAbsent = false → 
    ∃ t, t = s.secondNow ∧
      t.clk.lastSecond = s.clk.mtime.toNat / 1000000000 ∧
      (t.firn.anchors.head?.map (fun x => (x.mtime, x.sidx, x.kind)) = some (s.clk.mtime, s.clk.sidx, 0)) ∧
      t.fld Fd.FRN_ANC_HEAD_IDX = (s.fld Fd.FRN_ANC_HEAD_IDX + 1) % 4096 ∧
      Changes [.clk, .firn] [Reg.FRN_ANC_HEAD] s t) ∧
  (∀ (s : State),
    s.edgeToCome = true → s.edge.tickOnTime = false → s.edge.clk.lastFree = s.edge.clk.now → 
    ∃ t, Sys2Proof.Machine.exec .anchorFree s = .next t ∧
      t = s.edgeAll.beginTick ∧
      t.clk.begun = t.sys.seracUp) ∧
  (∀ (s : State),
    s.fld Fd.TIM_STAT_TICK_SRC ≠ 1 → s.clk.lastFree + 100000 ≤ s.clk.now → 
    ∃ t, t = s.freeNow ∧
      t.clk.lastFree = s.clk.now ∧
      (t.firn.anchors.head?.map (fun x => (x.kind, x.valid)) = some (3, false)) ∧
      t.fld Fd.FRN_ANC_HEAD_IDX = (s.fld Fd.FRN_ANC_HEAD_IDX + 1) % 4096 ∧
      Changes [.clk, .firn] [Reg.FRN_ANC_HEAD] s t)

/-- Memory errors are counted, scrubbing and tests report, and stacks fail: corrected errors and bus errors are counted, scrub passes and
check-bit tests report, digests are latched, pseudo-channels are retired and a stack is lost. Commands: ECC_CORRECTED_ERROR, BUS_ERROR,
SCRUB_PASS, ECC_TEST, DIGEST_LATCH, PC_RETIRED, STACK_LOST. Formalises what R218, R219, R220, R569, R570, R571, R580 say of these cases.
Choices of the model that bear on its clauses: log entries 3, 62, 84, 95. -/
def Obligations.MemoryErrorsAreCountedAndStacksFail : Prop :=
  (∀ (unit : Fin 64) (place : Fin 65536) (s : State),
    (((Tab.at [] s.dia.errs (unit.val * 65536 + place.val)).filter (fun e => decide (s.clk.now < e + sTicks 3600))).length ≠ 16) → 
    ∃ t, Sys2Proof.Machine.exec (.eccCorrectedError .laneA unit place) s = .next t ∧
      t.fld Fd.FRN_ECC_A = min (s.fld Fd.FRN_ECC_A + 1) 65535 ∧
      t.fld Fd.FRN_ECC_B = s.fld Fd.FRN_ECC_B ∧
      t.rd Reg.DIA_CNT_CORR = satCount (s.rd Reg.DIA_CNT_CORR) 1 ∧
      t.on Fd.DIA_EVT_CORR = true ∧
      t.on Fd.FRN_EVT_ECC_CORR = true ∧
      Changes [.dia, .firn] [Reg.DIA_CNT_CORR, Reg.DIA_EVT, Reg.DIA_EVT_SEQ, Reg.FRN_ECC, Reg.FRN_EVT, Reg.FRN_EVT_SEQ] s t) ∧
  (∀ (mem : MemKind) (unit : Fin 64) (place : Fin 65536) (s : State),
    mem ≠ .laneA ∧ mem ≠ .laneB ∧ mem ≠ .tileStore ∧ mem ≠ .stack → (((Tab.at [] s.dia.errs ((memCode mem * 64 + unit.val) * 65536 + place.val)).filter (fun e => decide (s.clk.now < e + sTicks 3600))).length ≠ 16) → 
    ∃ t, Sys2Proof.Machine.exec (.eccCorrectedError mem unit place) s = .next t ∧
      t.rd Reg.DIA_CNT_CORR = satCount (s.rd Reg.DIA_CNT_CORR) 1 ∧
      t.on Fd.DIA_EVT_CORR = true ∧
      (Tab.at [] t.dia.errs ((memCode mem * 64 + unit.val) * 65536 + place.val)).head? = some s.clk.now ∧
      Changes [.dia, .firn] [Reg.DIA_CNT_CORR, Reg.DIA_EVT, Reg.DIA_EVT_SEQ] s t) ∧
  (∀ (unit : Fin 64) (place : Fin 65536) (s : State),
    (((Tab.at [] s.tbl.pcErrs (unit.val * 64 + place.val % 64)).filter (fun e => decide (s.clk.now < e + sTicks 3600))).length = 64) → (((Tab.at [] s.dia.errs ((448 + unit.val) * 65536 + place.val)).filter (fun e => decide (s.clk.now < e + sTicks 3600))).length ≠ 16) → 
    ∃ t, Sys2Proof.Machine.exec (.eccCorrectedError .stack unit place) s = .next t ∧
      t.rd (Reg.STK_CORR unit) = satCount (s.rd (Reg.STK_CORR unit)) 1 ∧
      t.tbl.pcDue = s.tbl.pcDue ++ [(unit.val, place.val % 64)] ∧
      Changes [.dia, .tbl, .firn] [Reg.STK_CORR unit, Reg.DIA_CNT_CORR, Reg.DIA_EVT, Reg.DIA_EVT_SEQ] s t) ∧
  (∀ (unit : Fin 64) (place : Fin 65536) (s : State),
    (((Tab.at [] s.ice.bankErrs (unit.val * 16 + place.val % 16)).filter (fun e => decide (s.clk.now < e + sTicks 3600))).length < 16) → (((Tab.at [] s.dia.errs ((256 + unit.val) * 65536 + place.val)).filter (fun e => decide (s.clk.now < e + sTicks 3600))).length ≠ 16) → 
    ∃ t, Sys2Proof.Machine.exec (.eccCorrectedError .tileStore unit place) s = .next t ∧
      t.fld (Fd.TILE_ERR_CORR unit) = min (s.fld (Fd.TILE_ERR_CORR unit) + 1) 65535 ∧
      t.rd Reg.DIA_CNT_CORR = satCount (s.rd Reg.DIA_CNT_CORR) 1 ∧
      Changes [.dia, .ice, .firn] [Reg.TILE_ERR unit, Reg.DIA_CNT_CORR, Reg.DIA_EVT, Reg.DIA_EVT_SEQ] s t) ∧
  (∀ (obj : Nat) (s : State), ∃ t, Sys2Proof.Machine.exec (.busError none obj) s = .next t ∧
      t.rd Reg.DIA_CNT_BUSERR = satCount (s.rd Reg.DIA_CNT_BUSERR) 1 ∧
      t.on Fd.DIA_EVT_BUS_ERR = true ∧
      Changes [.firn] [Reg.DIA_CNT_BUSERR, Reg.DIA_EVT, Reg.DIA_EVT_SEQ] s t) ∧
  (∀ (obj : Nat) (s : State),
    s.on Fd.LOP_STAT_SEL = false → s.fld Fd.LOP_STAT_B_STATE ≠ 3 → 
    ∃ t, Sys2Proof.Machine.exec (.busError (some .b) obj) s = .next t ∧
      t.fld Fd.LOP_STAT_B_STATE = 3 ∧
      t.on Fd.LOP_EVT_LANE_FAULT = true ∧
      t.rd Reg.DIA_CNT_BUSERR = satCount (s.rd Reg.DIA_CNT_BUSERR) 1 ∧
      Changes [.lop, .firn] [Reg.DIA_CNT_BUSERR, Reg.DIA_EVT, Reg.DIA_EVT_SEQ, Reg.LOP_STAT, Reg.LOP_EVT, Reg.LOP_EVT_SEQ] s t) ∧
  (∀ (s : State),
    s.sys.seracUp = true → max s.sys.bootAt (Tab.at 0 s.dia.scrubAt 0) + sTicks 1 ≤ s.clk.now → 
    ∃ t, Sys2Proof.Machine.exec (.scrubPass .laneA) s = .next t ∧
      Tab.at 0 t.dia.scrubAt 0 = s.clk.now ∧
      t.fld Fd.FRN_SCRUB_A = (s.fld Fd.FRN_SCRUB_A + 1) % 65536 ∧
      t.on Fd.DIA_EVT_SCRUB_PASS = true ∧
      Changes [.dia, .firn] [Reg.FRN_SCRUB, Reg.DIA_EVT, Reg.DIA_EVT_SEQ] s t) ∧
  (∀ (s : State) (r : Nat),
    s.mainAbsent = false → Tab.find s.sys.readyAt 2 = some r → max r (Tab.at 0 s.dia.scrubAt 6) + sTicks (3600 * s.fld Fd.DIA_SCRUB_DDR4) ≤ s.clk.now → 
    ∃ t, Sys2Proof.Machine.exec (.scrubPass .ddr4) s = .next t ∧
      Tab.at 0 t.dia.scrubAt 6 = s.clk.now ∧
      t.on Fd.DIA_EVT_SCRUB_PASS = true ∧
      Changes [.dia, .firn] [Reg.DIA_EVT, Reg.DIA_EVT_SEQ] s t) ∧
  (∀ (w : Fin 8) (value : Word) (pass : Bool) (s : State),
    s.WriteTaken w Reg.DIA_ECCTEST value (crossEccTest value) → fieldOf value 31 1 = 1 → 
    ∃ t, Sys2Proof.Machine.exec (.eccTest w value pass) s = .next t ∧
      WroteOk t w Reg.DIA_ECCTEST ∧
      (t.fld Fd.DIA_ECCTEST_RESULT = if pass then 1 else 2) ∧
      t.on Fd.DIA_EVT_ECCTEST_DONE = true ∧
      Changes [.zh, .firn, .out] [Reg.DIA_ECCTEST, Reg.DIA_EVT, Reg.DIA_EVT_SEQ] s t) ∧
  (∀ (w : Fin 8) (value : Word) (s : State) (e : List Byte),
    s.WriteTaken w Reg.DIA_DIG_SEL_HI value true → (Tab.find (if s.on Fd.DIA_CTRL_DIG_KIND then s.firn.rplDigests else s.firn.digests) ((s.rd Reg.DIA_DIG_SEL_LO).toNat + 2 ^ 32 * value.toNat) = some e) → e.length = 256 → 
    ∃ t, Sys2Proof.Machine.exec (.digestLatch w value) s = .next t ∧
      WroteOk t w Reg.DIA_DIG_SEL_HI ∧
      t.fld Fd.DIA_DIG_STAT_RESULT = 1 ∧
      (∀ i, i < 64 → t.rd (Reg.DIA_DIGW i) = (leWords e).getD i 0) ∧
      Changes [.zh, .out] ([Reg.DIA_DIG_SEL_HI, Reg.DIA_DIG_STAT] ++ (List.range 64).map Reg.DIA_DIGW) s t) ∧
  (∀ (stack : Fin 12) (pc : Fin 64) (lost : List (Fin 4096 × Fin 1048576)) (s : State),
    stack.val < stackCount → s.fld (Fd.STK_STAT_STATE stack) ≠ 3 → (s.training = true ∨ (s.mainRuns = true ∧ s.tbl.pcDue.contains (stack.val, pc.val) = true)) → s.on (Fd.STK_STAT_SPARE_USED stack) = false → s.fld (Fd.STK_STAT_PC_RET stack) < 7 → 
    ∃ t, Sys2Proof.Machine.exec (.pcRetired stack pc lost) s = .next t ∧
      t.fld (Fd.STK_STAT_PC_RET stack) = s.fld (Fd.STK_STAT_PC_RET stack) + 1 ∧
      t.fld (Fd.STK_STAT_STATE stack) = 2 ∧
      t.on (Fd.STK_STAT_SPARE_USED stack) = true ∧
      t.fld (Fd.STK_PCMAP_PC stack) = pc ∧ t.on (Fd.STK_PCMAP_VALID stack) = true ∧
      t.on Fd.TBL_EVT_PC_RETIRED = true ∧
      Only [.tbl, .dia, .regs, .firn] s t) ∧
  (∀ (stack : Fin 12) (pc : Fin 64) (lost : List (Fin 4096 × Fin 1048576)) (s : State),
    stack.val < stackCount → s.fld (Fd.STK_STAT_STATE stack) ≠ 3 → (s.training = true ∨ (s.mainRuns = true ∧ s.tbl.pcDue.contains (stack.val, pc.val) = true)) → s.on (Fd.STK_STAT_SPARE_USED stack) = true → 1 ≤ s.fld (Fd.STK_STAT_PC_RET stack) ∧ s.fld (Fd.STK_STAT_PC_RET stack) < 7 → s.segsOn stack = [] → 
    ∃ t, Sys2Proof.Machine.exec (.pcRetired stack pc lost) s = .next t ∧
      t.fld (Fd.STK_STAT_PC_RET stack) = s.fld (Fd.STK_STAT_PC_RET stack) + 1 ∧
      t.fld (Fd.STK_STAT_STATE stack) = 2 ∧
      t.stackFree stack = s.stackFree stack - 1000 * 1048576 ∧
      t.on Fd.TBL_EVT_PC_RETIRED = true ∧
      Only [.tbl, .dia, .regs, .firn] s t) ∧
  (∀ (stack : Fin 12) (pc : Fin 64) (lost : List (Fin 4096 × Fin 1048576)) (s : State),
    stack.val < stackCount → s.fld (Fd.STK_STAT_STATE stack) ≠ 3 → (s.training = true ∨ (s.mainRuns = true ∧ s.tbl.pcDue.contains (stack.val, pc.val) = true)) → s.fld (Fd.STK_STAT_PC_RET stack) = 7 → 
    ∃ t, Sys2Proof.Machine.exec (.pcRetired stack pc lost) s = .next t ∧
      t.fld (Fd.STK_STAT_STATE stack) = 3 ∧
      t.fld (Fd.STK_FREE_MIB stack) = 0 ∧
      t.on Fd.TBL_EVT_PC_RETIRED = true ∧ t.on Fd.TBL_EVT_STACK_LOST = true) ∧
  (∀ (stack : Fin 12) (pc : Fin 64) (lost : List (Fin 4096 × Fin 1048576)) (s : State),
    (stackCount ≤ stack.val ∨ s.fld (Fd.STK_STAT_STATE stack) = 3 ∨ (s.training = false ∧ (s.mainRuns = false ∨ s.tbl.pcDue.contains (stack.val, pc.val) = false))) → 
    ∃ t, Sys2Proof.Machine.exec (.pcRetired stack pc lost) s = .next t ∧
      t = s) ∧
  (∀ (stack : Fin 12) (s : State),
    stack.val < stackCount → s.fld (Fd.STK_STAT_STATE stack) ≠ 3 → (s.mainRuns = true ∨ s.training = true) → 
    ∃ t, Sys2Proof.Machine.exec (.stackLost stack) s = .next t ∧
      t.fld (Fd.STK_STAT_STATE stack) = 3 ∧ t.fld (Fd.STK_FREE_MIB stack) = 0 ∧
      t.on Fd.TBL_EVT_STACK_LOST = true ∧
      t.segsOn stack = [] ∧
      Only [.tbl, .regs, .firn] s t) ∧
  (∀ (stack : Fin 12) (s : State),
    (stackCount ≤ stack.val ∨ s.fld (Fd.STK_STAT_STATE stack) = 3 ∨ (s.mainRuns = false ∧ s.training = false)) → 
    ∃ t, Sys2Proof.Machine.exec (.stackLost stack) s = .next t ∧
      t = s)

/-- The main die is lost and returns: the main die is declared absent, reset, released and ready again, and TABLE passes to RUN. Commands:
MAIN_DIE_ABSENT, MAIN_DIE_RESET, MAIN_POWER_GOOD_LOST, SAFETY_LINK_M_LOST, MAIN_DIE_RELEASE, MAIN_DIE_READY, TABLE_TO_RUN, BOOT_TIMEOUT.
Formalises what R38, R43, R589, R594, R608, R616 say of these cases. Choices of the model that bear on its clauses: log entries 27, 32, 33,
95. -/
def Obligations.MainDieIsLostAndReturns : Prop :=
  (∀ (s : State),
    20 ≤ s.sys.noPacket → s.mainAbsent = false → 
    ∃ t, Sys2Proof.Machine.exec .mainDieAbsent s = .next t ∧
      t.mainAbsent = true ∧
      t.act.armed = [] ∧
      t.sys.mainUp = false ∧ t.sys.mainHeld = true ∧ t.sys.mainReady = false ∧
      (s.opState = 3 ∨ s.opState = 4 → t.opState = 5)) ∧
  (∀ (s : State),
    s.sys.seracUp = true → s.mainAbsent = false → 
    ∃ t, Sys2Proof.Machine.exec .mainDieReset s = .next t ∧
      t.mainAbsent = true ∧
      t.act.armed = [] ∧
      t.sys.mainUp = false ∧ t.sys.mainHeld = true ∧ t.sys.mainReady = false ∧
      (s.opState = 3 ∨ s.opState = 4 → t.opState = 5)) ∧
  (∀ (s : State),
    s.sys.seracUp = true → s.sys.mainPowered = true → s.mainAbsent = false → 
    ∃ t, Sys2Proof.Machine.exec .mainPowerGoodLost s = .next t ∧
      t.mainAbsent = true ∧
      t.act.armed = [] ∧
      t.sys.mainUp = false ∧ t.sys.mainHeld = true ∧ t.sys.mainReady = false) ∧
  (∀ (s : State),
    s.sys.seracUp = true → s.mainAbsent = false → 
    ∃ t, Sys2Proof.Machine.exec .safetyLinkMLost s = .next t ∧
      t.mainAbsent = true ∧
      t.act.armed = [] ∧
      t.sys.mainUp = false ∧ t.sys.mainHeld = true ∧ t.sys.mainReady = false) ∧
  (∀ (s : State),
    s.sys.mainHeld = true → s.sys.mainUp = false → s.mayRun = true → s.sys.mainPowered = true → 
    ∃ t, Sys2Proof.Machine.exec .mainDieRelease s = .next t ∧
      t.sys = { s.sys with mainHeld := false } ∧
      Only [.sys] s t) ∧
  (∀ (s : State),
    s.sys.mainHeld = true → s.sys.mainUp = false → s.mayRun = true → s.sys.mainPowered = false → 
    ∃ t, Sys2Proof.Machine.exec .mainDieRelease s = .next t ∧
      t.sys = { s.sys with mainPowered := true, mainHeld := false } ∧
      t.sec = { s.sec with akm := ⟨s.sec.akm.limit, s.sec.akm.limit⟩ } ∧
      Changes [.sys, .sec, .firn] [Reg.SEC_EVT, Reg.SEC_EVT_SEQ] s t) ∧
  (∀ (s : State),
    s.readyNow = true → s.sys.mainReady = false → s.opState = 1 → s.isActive = true → 
    ∃ t, Sys2Proof.Machine.exec .mainDieReady s = .next t ∧
      t.sys.mainReady = true ∧
      Tab.at 0 t.sys.readyAt 2 = s.clk.now ∧
      t.mainAbsent = false ∧
      t.on Fd.LOP_STAT_MAIN_ABSENT = false ∧
      (t.opState = if s.recordValid then 4 else 3)) ∧
  (∀ (s : State),
    s.opState = 5 → s.sys.mainReady = true → s.mainAbsent = false → 100 ≤ s.sys.applied → 
    ∃ t, Sys2Proof.Machine.exec .tableToRun s = .next t ∧
      (t.opState = if s.recordValid then 4 else 3) ∧
      t.fld Fd.SYS_STATE_RETURN = 15) ∧
  (∀ (s : State),
    s.opState = 1 → s.sys.mainReady = false → s.fld Fd.PAI_STAT_ROLE ≠ 0 → s.sys.bootAt + sTicks 180 ≤ s.clk.now → 
    ∃ t, Sys2Proof.Machine.exec .bootTimeout s = .next t ∧
      t.opState = 5 ∧
      t.fld Fd.SYS_STATE_RETURN = 15)

/-- The port die and the dies heat limits act: the port die is lost and returns, thermal limits hold and release a die, and an uncorrectable
error acts where it fell. Commands: PORT_DIE_ABSENT, PORT_DIE_PRESENT, MAIN_DIE_THERMAL_LIMIT, PORT_DIE_THERMAL_LIMIT,
PORT_DIE_THERMAL_RELEASE, UNCORRECTABLE_ERROR. Formalises what R388, R598 say of these cases. Choices of the model that bear on its clauses:
log entries 3, 28, 33, 43, 54, 62, 63, 95. -/
def Obligations.DiesFailAndReturn : Prop :=
  (∀ (s : State),
    s.sys.seracUp = true → s.portAbsent = false → s.opState ≠ 2 → 
    ∃ t, Sys2Proof.Machine.exec .portDieAbsent s = .next t ∧
      t.portAbsent = true ∧
      t.on Fd.SYS_STATE_PORT_ABSENT = true ∧
      t.fld Fd.TIM_STAT_TICK_SRC = 0) ∧
  (∀ (s : State),
    s.sys.portUp = true → s.portAbsent = true → s.opState ≠ 2 → 
    ∃ t, Sys2Proof.Machine.exec .portDiePresent s = .next t ∧
      t.portAbsent = false ∧
      t.on Fd.SYS_STATE_PORT_ABSENT = false ∧
      t.fld Fd.TIM_STAT_TICK_SRC = 1) ∧
  (∀ (s : State),
    s.sys.mainPowered = true → 
    ∃ t, Sys2Proof.Machine.exec (.mainDieThermalLimit false) s = .next t ∧
      t.sys = { s.sys with mainThrottled := true } ∧
      Only [.sys] s t) ∧
  (∀ (s : State),
    s.sys.mainPowered = true → s.mainAbsent = false → 
    ∃ t, Sys2Proof.Machine.exec (.mainDieThermalLimit true) s = .next t ∧
      t.sys.mainThermal = true ∧
      t.sys.mainPowered = false ∧ t.sys.mainUp = false ∧ t.sys.mainHeld = true ∧
      t.mainAbsent = true) ∧
  (∀ (s : State),
    s.sys.portThermal = false → 
    ∃ t, Sys2Proof.Machine.exec .portDieThermalLimit s = .next t ∧
      t.sys.portThermal = true ∧
      t.sys.portUp = false ∧
      t.portAbsent = true ∧
      t.fld Fd.TIM_STAT_SERVO = 0 ∧
      (∀ k, k < 8 → t.sessOpen k = false)) ∧
  (∀ (s : State), ∃ t, Sys2Proof.Machine.exec .portDieThermalRelease s = .next t ∧
      t.sys = { s.sys with portThermal := false } ∧
      Only [.sys] s t) ∧
  (∀ (mem : MemKind) (unit : Fin 64) (place : Fin 65536) (s : State),
    mem = .seracNv → 
    ∃ t, Sys2Proof.Machine.exec (.uncorrectableError mem unit place) s = .next t ∧
      t.rd Reg.DIA_CNT_UNCORR = satCount (s.rd Reg.DIA_CNT_UNCORR) 1 ∧
      t.on Fd.DIA_EVT_UNCORR = true ∧
      Changes [.firn] [Reg.DIA_CNT_UNCORR, Reg.DIA_EVT, Reg.DIA_EVT_SEQ] s t) ∧
  (∀ (unit : Fin 64) (place : Fin 65536) (s : State), ∃ t, Sys2Proof.Machine.exec (.uncorrectableError .stack unit place) s = .next t ∧
      t.rd Reg.DIA_CNT_UNCORR = satCount (s.rd Reg.DIA_CNT_UNCORR) 1 ∧
      t.tbl = { s.tbl with pcDue := s.tbl.pcDue ++ [(unit.val, place.val % 64)] } ∧
      Changes [.tbl, .firn] [Reg.DIA_CNT_UNCORR, Reg.DIA_EVT, Reg.DIA_EVT_SEQ] s t) ∧
  (∀ (unit : Fin 64) (place : Fin 65536) (s : State),
    s.on Fd.LOP_STAT_SEL = false → s.fld Fd.LOP_STAT_B_STATE ≠ 3 → 
    ∃ t, Sys2Proof.Machine.exec (.uncorrectableError .laneB unit place) s = .next t ∧
      t.fld Fd.LOP_STAT_B_STATE = 3 ∧
      t.on Fd.LOP_EVT_LANE_FAULT = true ∧
      t.on Fd.DIA_EVT_UNCORR = true ∧
      t.sys = s.sys) ∧
  (∀ (unit : Fin 64) (place : Fin 65536) (s : State),
    s.on Fd.LOP_STAT_SEL = false → s.fld Fd.LOP_STAT_A_STATE ≠ 3 → s.fld Fd.LOP_STAT_B_STATE = 1 → 
    ∃ t, Sys2Proof.Machine.exec (.uncorrectableError .laneA unit place) s = .next t ∧
      t.fld Fd.LOP_STAT_A_STATE = 3 ∧
      t.on Fd.LOP_STAT_SEL = true ∧ t.fld Fd.LOP_STAT_B_STATE = 0 ∧
      t.lop.held = true ∧
      t.on Fd.LOP_EVT_LANE_SWITCH = true) ∧
  (∀ (unit : Fin 64) (place : Fin 65536) (s : State),
    s.on Fd.LOP_STAT_SEL = false → s.fld Fd.LOP_STAT_A_STATE ≠ 3 → s.fld Fd.LOP_STAT_B_STATE ≠ 1 → 
    ∃ t, Sys2Proof.Machine.exec (.uncorrectableError .laneA unit place) s = .next t ∧
      t.fld Fd.LOP_STAT_A_STATE = 3 ∧
      t.sys.health = false ∧
      t.lop.held = true) ∧
  (∀ (unit : Fin 64) (place : Fin 65536) (s : State),
    (s.ice.run.isSome = true ∨ s.ice.batches ≠ []) → s.on (Fd.TILE_STAT_SPARE_BANK_USED unit) = false → 
    ∃ t, Sys2Proof.Machine.exec (.uncorrectableError .tileStore unit place) s = .next t ∧
      t.on (Fd.TILE_STAT_SPARE_BANK_USED unit) = true ∧
      t.fld (Fd.TILE_BANKMAP_BANK unit) = bankOf place ∧
      t.on Fd.IFD_EVT_BANK_RETIRED = true ∧
      t.mainAbsent = s.mainAbsent) ∧
  (∀ (unit : Fin 64) (place : Fin 65536) (s : State),
    s.tbl.sweep.isSome = true → 
    ∃ t, Sys2Proof.Machine.exec (.uncorrectableError .ddr4 unit place) s = .next t ∧
      t.tbl.sweep = none ∧
      t.rd Reg.DIA_CNT_BUSERR = satCount (s.rd Reg.DIA_CNT_BUSERR) 1 ∧
      t.on Fd.TBL_EVT_CKPT_FAIL = true) ∧
  (∀ (unit : Fin 64) (place : Fin 65536) (s : State),
    s.mainAbsent = false → 
    ∃ t, Sys2Proof.Machine.exec (.uncorrectableError .mainSram unit place) s = .next t ∧
      t.mainAbsent = true ∧
      t.sys.mainUp = false ∧ t.sys.mainHeld = true) ∧
  (∀ (unit : Fin 64) (place : Fin 65536) (s : State), ∃ t, Sys2Proof.Machine.exec (.uncorrectableError .portSram unit place) s = .next t ∧
      t.portAbsent = true ∧
      t.sys.portUp = false)

/-- Power, reset, boot and the role take their course: power comes and goes, the reset input acts, a module is inserted, withdrawn and splits,
the parts boot, and the role is resolved. Commands: POWER_ON, MODULE_RESET_INPUT, MODULE_RESET_RELEASE, MODULE_INSERT, MODULE_WITHDRAW,
SPLIT, SERAC_BOOT_VERIFY_DONE, PORT_DIE_BOOT_DONE, MAIN_DIE_BOOT_DONE, ROLE_RESOLVE. Formalises what R43, R170, R473, R474, R488, R524,
R528, R543, R585, R587, R589, R590, R608, R609 say of these cases. Choices of the model that bear on its clauses: log entries 3, 4, 6, 27,
33, 38, 40, 41, 42, 62, 63, 84, 89, 92, 95. -/
def Obligations.StartUpTakesItsCourse : Prop :=
  (∀ (pins : Straps) (s : State),
    s.sys.mated = true → s.sys.powered = false → 
    ∃ t, Sys2Proof.Machine.exec (.powerOn pins) s = .next t ∧
      t.sys = { s.sys with powered := true, bootCause := 0, straps := pins, pins := pins, hold := pins.bsrc.val == 1 } ∧
      t.sec = { s.sec with akp := ⟨s.sec.akp.limit, s.sec.akp.limit⟩ } ∧
      Changes [.sys, .sec, .firn] [Reg.SEC_EVT, Reg.SEC_EVT_SEQ] s t) ∧
  (∀ (pins : Straps) (s : State),
    (s.sys.mated = false ∨ s.sys.powered = true) → 
    ∃ t, Sys2Proof.Machine.exec (.powerOn pins) s = .next t ∧
      t = s) ∧
  (∀ (s : State),
    (s.sys.powered = false ∨ s.sys.inReset = true) → 
    ∃ t, Sys2Proof.Machine.exec .moduleResetInput s = .next t ∧
      t = s) ∧
  (∀ (s : State),
    s.sys.powered = true → s.sys.inReset = false → s.sys.powerEnd ≠ none → 
    ∃ t, Sys2Proof.Machine.exec .moduleResetInput s = .next t ∧
      t.sys.powered = false ∧ t.sys.seracUp = false ∧ t.sys.health = false ∧
      t.opState = 0 ∧
      t.firn.circ = [] ∧ t.firn.ring = [] ∧ t.zh.store = []) ∧
  (∀ (s : State),
    s.sys.powered = true → s.sys.inReset = false → s.sys.powerEnd = none → 
    ∃ t, Sys2Proof.Machine.exec .moduleResetInput s = .next t ∧
      t.sys.inReset = true ∧
      t.sys.bootCause = 1 ∧
      t.sys.seracUp = false ∧ t.sys.portUp = false ∧ t.sys.mainUp = false ∧
      t.opState = 0 ∧
      t.act = State.reset.act ∧ t.prt = { State.reset.prt with rack := s.stillIsolated } ∧ t.servo = State.reset.servo ∧ t.waitWrites = [] ∧
      t.firn.seq = s.firn.seq ∧ t.firn.first = s.firn.first ∧ t.firn.circ = s.firn.circ ∧
      t.clk.now = s.clk.now ∧ t.clk.sidx = 0 ∧
      t.zh.nvStore = s.zh.nvStore ∧ t.zh.sess = [] ∧
      t.pending = s.pending) ∧
  (∀ (pins : Straps) (s : State),
    s.sys.powered = true → s.sys.inReset = true → 
    ∃ t, Sys2Proof.Machine.exec (.moduleResetRelease pins) s = .next t ∧
      t.sys = { s.sys with inReset := false, straps := pins, pins := pins, hold := pins.bsrc.val == 1 } ∧
      Only [.sys] s t) ∧
  (∀ (pins : Straps) (s : State),
    (s.sys.powered = false ∨ s.sys.inReset = false) → 
    ∃ t, Sys2Proof.Machine.exec (.moduleResetRelease pins) s = .next t ∧
      t = s) ∧
  (∀ (s : State),
    s.sys.mated = true → 
    ∃ t, Sys2Proof.Machine.exec .moduleInsert s = .next t ∧
      t = s) ∧
  (∀ (s : State),
    s.sys.mated = false → 
    ∃ t, Sys2Proof.Machine.exec .moduleInsert s = .next t ∧
      t.sys = { s.sys with mated := true, mateAt := s.clk.now } ∧
      Only [.sys] s t) ∧
  (∀ (s : State),
    s.sys.mated = false → 
    ∃ t, Sys2Proof.Machine.exec .moduleWithdraw s = .next t ∧
      t = s) ∧
  (∀ (s : State),
    s.sys.mated = true → 
    ∃ t, Sys2Proof.Machine.exec .moduleWithdraw s = .next t ∧
      t.sys.mated = false ∧ t.sys.powered = false ∧ t.sys.health = false ∧ t.sys.seracUp = false ∧
      t.opState = 0 ∧
      t.firn.seq = s.firn.limit ∧ t.firn.circ = [] ∧ t.firn.ring = [] ∧
      t.zh.nvStore = s.zh.nvStore ∧ t.zh.store = [] ∧
      t.act = State.reset.act ∧ t.prt = { State.reset.prt with rack := s.stillIsolated }) ∧
  (∀ (s : State),
    (s.isActive = false ∨ s.on Fd.PAI_STAT_SEL = true ∨ s.pair.tookAt.all (fun x => decide (s.clk.now < x + msTicks 5)) = true) → 
    ∃ t, Sys2Proof.Machine.exec .split s = .next t ∧
      t = s) ∧
  (∀ (s : State) (t0 : Nat),
    s.isActive = true → s.on Fd.PAI_STAT_SEL = false → s.pair.tookAt = some t0 → t0 + msTicks 5 ≤ s.clk.now → 
    ∃ t, Sys2Proof.Machine.exec .split s = .next t ∧
      t.sys.bootCause = 3 ∧
      t.sys.health = false ∧ t.sys.seracUp = false ∧ t.sys.straps = s.sys.pins ∧
      t.opState = 0 ∧
      t.pair.tookAt = none ∧
      t.act = State.reset.act ∧ t.prt = { State.reset.prt with rack := s.stillIsolated }) ∧
  (∀ (okA okB : Bool) (s : State),
    s.sys.powered = true → s.sys.inReset = false → s.sys.seracUp = false → (s.bootPart 0 okA okB).isSome = true → 
    ∃ t, Sys2Proof.Machine.exec (.seracBootVerifyDone true okA okB) s = .next t ∧
      t.sys.seracUp = true ∧
      t.sys.bootAt = s.clk.now ∧
      t.opState = 1 ∧
      t.mainAbsent = true ∧
      t.on Fd.SYS_STATE_PORT_ABSENT = true ∧
      t.on Fd.PAI_STAT_PAIRED = s.sys.straps.paired) ∧
  (∀ (okA okB : Bool) (s : State),
    s.sys.powered = true → s.sys.inReset = false → s.sys.seracUp = false → s.bootPart 0 okA okB = none → 
    ∃ t, Sys2Proof.Machine.exec (.seracBootVerifyDone true okA okB) s = .next t ∧
      t.sys = s.sys ∧
      t.opState = s.opState) ∧
  (∀ (selfTest okA okB : Bool) (s : State),
    (selfTest = false ∨ s.sys.powered = false ∨ s.sys.inReset = true ∨ s.sys.seracUp = true) → 
    ∃ t, Sys2Proof.Machine.exec (.seracBootVerifyDone selfTest okA okB) s = .next t ∧
      t = s) ∧
  (∀ (okA okB : Bool) (s : State),
    (s.sys.seracUp = false ∨ s.sys.portUp = true ∨ s.sys.portThermal = true) → 
    ∃ t, Sys2Proof.Machine.exec (.portDieBootDone okA okB) s = .next t ∧
      t = s) ∧
  (∀ (okA okB : Bool) (s : State),
    s.sys.seracUp = true → s.sys.portUp = false → s.sys.portThermal = false → s.sys.mainPowered = true → s.bootPart 1 okA okB = none → 
    ∃ t, Sys2Proof.Machine.exec (.portDieBootDone okA okB) s = .next t ∧
      t = s.endTrials 1 ∧
      t.sys = s.sys) ∧
  (∀ (okA okB : Bool) (s : State),
    (s.sys.mainPowered = false ∨ s.sys.mainHeld = true ∨ s.sys.mainUp = true) → 
    ∃ t, Sys2Proof.Machine.exec (.mainDieBootDone okA okB) s = .next t ∧
      t = s) ∧
  (∀ (okA okB : Bool) (s : State),
    s.sys.mainPowered = true → s.sys.mainHeld = false → s.sys.mainUp = false → s.bootPart 2 okA okB = none → 
    ∃ t, Sys2Proof.Machine.exec (.mainDieBootDone okA okB) s = .next t ∧
      t = s.endTrials 2 ∧
      t.sys = s.sys) ∧
  (∀ (okA okB : Bool) (s : State),
    s.sys.seracUp = true → s.sys.portUp = false → s.sys.portThermal = false → s.sys.mainPowered = true → (s.bootPart 1 okA okB).isSome = true → 
    ∃ t, Sys2Proof.Machine.exec (.portDieBootDone okA okB) s = .next t ∧
      t.sys = { s.sys with portUp := true } ∧
      t.sec.sendAt = s.clk.now ∧
      (∀ b, ((s.endTrials 1).bootOrder 1).find? (fun b => if b = 0 then okA else okB) = some b → t.fld (Fd.FW_SLOT_RUN 1) = b)) ∧
  (∀ (okA okB : Bool) (s : State),
    s.sys.mainPowered = true → s.sys.mainHeld = false → s.sys.mainUp = false → s.sys.crec = none → (s.bootPart 2 okA okB).isSome = true → 
    ∃ t, Sys2Proof.Machine.exec (.mainDieBootDone okA okB) s = .next t ∧
      t.sys = { s.sys with mainUp := true } ∧
      (∀ b, ((s.endTrials 2).bootOrder 2).find? (fun b => if b = 0 then okA else okB) = some b → t.fld (Fd.FW_SLOT_RUN 2) = b) ∧
      Only [.sys, .regs, .firn] s t) ∧
  (∀ (s : State),
    (s.opState ≠ 1 ∨ s.fld Fd.PAI_STAT_ROLE ≠ 0 ∨ s.sys.mismatch = true ∨ s.on Fd.PAI_STAT_PAIRED = true ∧ s.clk.now < s.sys.bootAt + msTicks 50) → 
    ∃ t, Sys2Proof.Machine.exec .roleResolve s = .next t ∧
      t = s) ∧
  (∀ (s : State),
    s.opState = 1 → s.fld Fd.PAI_STAT_ROLE = 0 → (s.sys.mismatch = false) → s.on Fd.PAI_STAT_PAIRED = false → 
    ∃ t, Sys2Proof.Machine.exec .roleResolve s = .next t ∧
      t.isActive = true ∧
      t.sys.health = true ∧
      Tab.at 0 t.sys.readyAt 0 = s.clk.now) ∧
  (∀ (s : State),
    s.opState = 1 → s.fld Fd.PAI_STAT_ROLE = 0 → (s.sys.mismatch = false) → s.on Fd.PAI_STAT_PAIRED = true → s.sys.bootAt + msTicks 50 ≤ s.clk.now → s.becomesActive = false → 
    ∃ t, Sys2Proof.Machine.exec .roleResolve s = .next t ∧
      t.fld Fd.PAI_STAT_ROLE = 2 ∧
      t.opState = 2 ∧
      t.sys.mainPowered = false ∧
      t.drives = false)

/-- Supplies and pins are followed: the logic inputs, the actuator supply, the field supply, the straps and the select pin are followed.
Commands: LOGIC_INPUT_LOST, LOGIC_INPUT_RESTORED, LOGIC_POWER_FAIL, ACTUATOR_SUPPLY_CHANGE, FIELD_SUPPLY_LIMIT, FIELD_SUPPLY_RESTORE,
STRAP_CHANGE, SEL_CHANGE. Formalises what R39, R333, R487, R585, R591, R593, R595, R600 say of these cases. Choices of the model that bear
on its clauses: log entries 33, 40, 42, 70, 89, 95. -/
def Obligations.SuppliesAndPinsAreFollowed : Prop :=
  (∀ (input : Fin 2) (volts : Fin 65536) (s : State),
    s.on (inputOk input) = true → logicInRange volts = false → 
    ∃ t, Sys2Proof.Machine.exec (.logicInputLost input volts) s = .next t ∧
      t.on (inputOk input) = false ∧
      t.fld (inputVolts input) = volts ∧
      t.on (inputLost input) = true ∧
      t.opState = s.opState ∧
      Changes [.firn] [Reg.ACT_HW_STAT, Reg.ACT_VIN, Reg.ACT_HWEVT, Reg.ACT_HWEVT_SEQ] s t) ∧
  (∀ (input : Fin 2) (volts : Fin 65536) (s : State),
    (s.on (inputOk input) = false ∨ logicInRange volts = true) → 
    ∃ t, Sys2Proof.Machine.exec (.logicInputLost input volts) s = .next t ∧
      t = s) ∧
  (∀ (input : Fin 2) (volts : Fin 65536) (s : State),
    (s.sys.powered = false ∨ s.on (inputOk input) = true ∨ logicInRange volts = false) → 
    ∃ t, Sys2Proof.Machine.exec (.logicInputRestored input volts) s = .next t ∧
      t = s) ∧
  (∀ (input : Fin 2) (volts : Fin 65536) (s : State),
    s.sys.powered = true → s.on (inputOk input) = false → logicInRange volts = true → 
    ∃ t, Sys2Proof.Machine.exec (.logicInputRestored input volts) s = .next t ∧
      t.on (inputOk input) = true ∧
      t.fld (inputVolts input) = volts ∧
      t.sys = { s.sys with pfail := false } ∧
      Changes [.sys] [Reg.ACT_HW_STAT, Reg.ACT_VIN] s t) ∧
  (∀ (s : State),
    s.sys.powered = true → s.sys.pfail = false → s.sys.seracUp = true → 
    ∃ t, Sys2Proof.Machine.exec .logicPowerFail s = .next t ∧
      t.sys = { s.sys with pfail := true, health := false, powerEnd := some (s.clk.now + msTicks 5) } ∧
      t.on Fd.ACT_HW_STAT_PA_OK = false ∧ t.on Fd.ACT_HW_STAT_PB_OK = false ∧
      Changes [.sys] [Reg.ACT_HW_STAT] s t) ∧
  (∀ (s : State),
    (s.sys.powered = false ∨ s.sys.pfail = true) → 
    ∃ t, Sys2Proof.Machine.exec .logicPowerFail s = .next t ∧
      t = s) ∧
  (∀ (s : State),
    s.sys.powered = true → s.sys.pfail = false → s.sys.seracUp = false → 
    ∃ t, Sys2Proof.Machine.exec .logicPowerFail s = .next t ∧
      t.sys.powered = false ∧ t.sys.seracUp = false ∧ t.sys.health = false ∧
      t.opState = 0) ∧
  (∀ (s : State),
    (s.sys.seracUp = false ∨ supplyOn (s.on Fd.ACT_STAT_AA) s.acts.volts.1 = s.on Fd.ACT_STAT_AA ∧ supplyOn (s.on Fd.ACT_STAT_AB) s.acts.volts.2 = s.on Fd.ACT_STAT_AB) → 
    ∃ t, Sys2Proof.Machine.exec .actuatorSupplyChange s = .next t ∧
      t = s) ∧
  (∀ (s : State),
    s.sys.seracUp = true → (supplyOn (s.on Fd.ACT_STAT_AA) s.acts.volts.1 ≠ s.on Fd.ACT_STAT_AA ∨ supplyOn (s.on Fd.ACT_STAT_AB) s.acts.volts.2 ≠ s.on Fd.ACT_STAT_AB) → 
    ∃ t, Sys2Proof.Machine.exec .actuatorSupplyChange s = .next t ∧
      t.on Fd.ACT_STAT_AA = supplyOn (s.on Fd.ACT_STAT_AA) s.acts.volts.1 ∧
      t.on Fd.ACT_STAT_AB = supplyOn (s.on Fd.ACT_STAT_AB) s.acts.volts.2 ∧
      t.fld Fd.ACT_STAT_BUDGET = 40 * (b2n (supplyOn (s.on Fd.ACT_STAT_AA) s.acts.volts.1) + b2n (supplyOn (s.on Fd.ACT_STAT_AB) s.acts.volts.2)) ∧
      (t.fld Fd.ACT_STAT_BUDGET ≠ s.fld Fd.ACT_STAT_BUDGET → t.on Fd.ACT_EVT_SUPPLY = true) ∧
      Changes [.firn] [Reg.ACT_STAT, Reg.ACT_EVT, Reg.ACT_EVT_SEQ] s t) ∧
  (∀ (ma : Fin 65536) (s : State),
    s.sys.seracUp = true → 2800 ≤ ma.val → s.on Fd.ACT_HW_STAT_FS_SHED = false → 
    ∃ t, Sys2Proof.Machine.exec (.fieldSupplyLimit ma) s = .next t ∧
      t.on Fd.ACT_HW_STAT_FS_SHED = true ∧
      t.fld Fd.ACT_IFS_MA = ma ∧
      t.on Fd.ACT_HWEVT_FS_LIMIT = true ∧
      t.sys = { s.sys with shedFrom := none } ∧
      Changes [.sys, .firn] [Reg.ACT_HW_STAT, Reg.ACT_IFS, Reg.ACT_HWEVT, Reg.ACT_HWEVT_SEQ] s t) ∧
  (∀ (ma : Fin 65536) (s : State),
    (s.sys.seracUp = false ∨ ma.val < 2800 ∨ s.on Fd.ACT_HW_STAT_FS_SHED = true) → 
    ∃ t, Sys2Proof.Machine.exec (.fieldSupplyLimit ma) s = .next t ∧
      t = s) ∧
  (∀ (ma : Fin 65536) (s : State),
    (s.on Fd.ACT_HW_STAT_FS_SHED = false ∨ 2400 ≤ ma.val) → 
    ∃ t, Sys2Proof.Machine.exec (.fieldSupplyRestore ma) s = .next t ∧
      t = s) ∧
  (∀ (ma : Fin 65536) (s : State),
    s.on Fd.ACT_HW_STAT_FS_SHED = true → ma.val < 2400 → (s.sys.shedFrom.all (fun x => decide (s.clk.now < x + sTicks 1)) = true) → 
    ∃ t, Sys2Proof.Machine.exec (.fieldSupplyRestore ma) s = .next t ∧
      t.fld Fd.ACT_IFS_MA = ma ∧
      Changes [] [Reg.ACT_IFS] s t) ∧
  (∀ (ma : Fin 65536) (s : State) (t0 : Nat),
    s.on Fd.ACT_HW_STAT_FS_SHED = true → ma.val < 2400 → s.sys.shedFrom = some t0 → t0 + sTicks 1 ≤ s.clk.now → 
    ∃ t, Sys2Proof.Machine.exec (.fieldSupplyRestore ma) s = .next t ∧
      t.on Fd.ACT_HW_STAT_FS_SHED = false ∧
      t.fld Fd.ACT_IFS_MA = ma ∧
      t.sys = { s.sys with shedFrom := none } ∧
      Changes [.sys] [Reg.ACT_HW_STAT, Reg.ACT_IFS] s t) ∧
  (∀ (pins : Straps) (s : State),
    pins ≠ s.sys.pins → s.sys.seracUp = true → 
    ∃ t, Sys2Proof.Machine.exec (.strapChange pins) s = .next t ∧
      t.sys = { s.sys with pins := pins } ∧
      t.on Fd.ACT_HWEVT_STRAP_CHG = true ∧
      Changes [.sys, .firn] [Reg.ACT_HWEVT, Reg.ACT_HWEVT_SEQ] s t) ∧
  (∀ (pins : Straps) (s : State),
    pins = s.sys.pins → 
    ∃ t, Sys2Proof.Machine.exec (.strapChange pins) s = .next t ∧
      t = s) ∧
  (∀ (pins : Straps) (s : State),
    pins ≠ s.sys.pins → s.sys.seracUp = false → 
    ∃ t, Sys2Proof.Machine.exec (.strapChange pins) s = .next t ∧
      t.sys = { s.sys with pins := pins } ∧
      Only [.sys] s t) ∧
  (∀ (s : State), ∃ t, Sys2Proof.Machine.exec (.selChange false) s = .next t ∧
      t.on Fd.ACT_HW_STAT_SEL = false ∧ t.on Fd.PAI_STAT_SEL = false ∧
      t.sys = { s.sys with excite := false } ∧
      Changes [.sys] [Reg.ACT_HW_STAT, Reg.PAI_STAT] s t) ∧
  (∀ (s : State), ∃ t, Sys2Proof.Machine.exec (.selChange true) s = .next t ∧
      t.on Fd.ACT_HW_STAT_SEL = true ∧ t.on Fd.PAI_STAT_SEL = true ∧
      t.pair = { s.pair with tookAt := none } ∧
      Changes [.pair] [Reg.ACT_HW_STAT, Reg.PAI_STAT] s t)

/-- Harnesses and optics are read, and port links come and go: a harness is read and checked against the record, an optic is read, and a link
that goes down or comes up is reported. Commands: HARNESS_CHANGE, OPTIC_PRESENT, PORT_LINK_DOWN, PORT_LINK_UP. Formalises what R62, R399,
R605, R607 say of these cases. Choices of the model that bear on its clauses: log entry 95. -/
def Obligations.HarnessesOpticsAndLinksAreRead : Prop :=
  (∀ (pos : Fin 8) (mem : Option (List Byte)) (s : State),
    s.sys.seracUp = true → 
    ∃ t, Sys2Proof.Machine.exec (.harnessChange pos false mem) s = .next t ∧
      t.on (Fd.HN_STAT_PRESENT pos) = false ∧ t.on (Fd.HN_STAT_READ_OK pos) = false ∧
      t.rd (Reg.HN_ID pos) = 0 ∧ t.rd (Reg.HN_SER_LO pos) = 0 ∧ t.rd (Reg.HN_SER_HI pos) = 0 ∧
      t.on Fd.ACT_HWEVT_HARNESS = true ∧
      Tab.find t.sys.harn pos = none ∧
      Changes [.sys, .firn] [Reg.HN_STAT pos, Reg.HN_ID pos, Reg.HN_SER_LO pos, Reg.HN_SER_HI pos, Reg.ACT_HWEVT, Reg.ACT_HWEVT_SEQ] s t) ∧
  (∀ (pos : Fin 8) (m : List Byte) (s : State),
    s.sys.seracUp = true → harnessCrc m = true → harnessForm m = true → 
    ∃ t, Sys2Proof.Machine.exec (.harnessChange pos true (some m)) s = .next t ∧
      t.on (Fd.HN_STAT_PRESENT pos) = true ∧ t.on (Fd.HN_STAT_READ_OK pos) = true ∧ t.on (Fd.HN_STAT_CRC_ERR pos) = false ∧
      t.fld (Fd.HN_ID_KIND pos) = beAt m 3 1 ∧ t.fld (Fd.HN_ID_VARIANT pos) = beAt m 4 1 ∧
      t.rd (Reg.HN_SER_HI pos) = BitVec.ofNat 32 (beAt m 8 4) ∧ t.rd (Reg.HN_SER_LO pos) = BitVec.ofNat 32 (beAt m 12 4) ∧
      t.on Fd.ACT_HWEVT_HARNESS = true) ∧
  (∀ (pos : Fin 8) (present : Bool) (mem : Option (List Byte)) (s : State),
    s.sys.seracUp = false → 
    ∃ t, Sys2Proof.Machine.exec (.harnessChange pos present mem) s = .next t ∧
      (t.sys = { s.sys with harn := if present then s.sys.harn.put pos mem else s.sys.harn.del pos }) ∧
      Only [.sys] s t) ∧
  (∀ (pos : Fin 8) (m : List Byte) (s : State),
    s.sys.seracUp = true → harnessCrc m = false → 
    ∃ t, Sys2Proof.Machine.exec (.harnessChange pos true (some m)) s = .next t ∧
      t.on (Fd.HN_STAT_PRESENT pos) = true ∧ t.on (Fd.HN_STAT_READ_OK pos) = false ∧ t.on (Fd.HN_STAT_CRC_ERR pos) = true ∧
      t.rd (Reg.HN_ID pos) = 0 ∧ t.rd (Reg.HN_SER_LO pos) = 0 ∧ t.rd (Reg.HN_SER_HI pos) = 0 ∧
      t.on Fd.ACT_HWEVT_HARNESS = true) ∧
  (∀ (pos : Fin 8) (s : State),
    s.sys.seracUp = true → 
    ∃ t, Sys2Proof.Machine.exec (.harnessChange pos true none) s = .next t ∧
      t.on (Fd.HN_STAT_PRESENT pos) = true ∧ t.on (Fd.HN_STAT_READ_OK pos) = false ∧ t.on (Fd.HN_STAT_CRC_ERR pos) = false ∧
      t.on Fd.ACT_HWEVT_HARNESS = true) ∧
  (∀ (port : Fin 16) (media : Fin 6) (s : State),
    s.sys.portUp = false → 
    ∃ t, Sys2Proof.Machine.exec (.opticPresent port media) s = .next t ∧
      t = s) ∧
  (∀ (port : Fin 16) (media : Fin 6) (s : State),
    s.sys.portUp = true → 
    ∃ t, Sys2Proof.Machine.exec (.opticPresent port media) s = .next t ∧
      (portExists port = true → t.fld (Fd.PORT_STAT_MEDIA port) = media) ∧
      Changes [] [Reg.PORT_STAT port] s t) ∧
  (∀ (port : Fin 16) (s : State),
    s.on (Fd.PORT_STAT_LINK port) = true → port.val < 8 → s.fld Fd.NET_STAT_UP_A &&& (2 ^ 8 - 1 - 2 ^ (port.val % 8)) ≠ 0 → 
    ∃ t, Sys2Proof.Machine.exec (.portLinkDown port) s = .next t ∧
      t.on (Fd.PORT_STAT_LINK port) = false ∧ t.on (Fd.PORT_STAT_FEC_LOCK port) = false ∧
      t.fld Fd.NET_STAT_UP_A = s.fld Fd.NET_STAT_UP_A &&& (2 ^ 8 - 1 - 2 ^ (port.val % 8)) ∧
      t.on Fd.NET_EVT_LINK_DOWN = true ∧
      Changes [.firn] [Reg.PORT_STAT port, Reg.NET_STAT, Reg.NET_EVT, Reg.NET_EVT_SEQ] s t) ∧
  (∀ (port : Fin 16) (s : State),
    s.on (Fd.PORT_STAT_LINK port) = true → 8 ≤ port.val → s.fld Fd.NET_STAT_UP_B &&& (2 ^ 8 - 1 - 2 ^ (port.val % 8)) = 0 → 
    ∃ t, Sys2Proof.Machine.exec (.portLinkDown port) s = .next t ∧
      t.on (Fd.PORT_STAT_LINK port) = false ∧
      t.fld Fd.NET_STAT_UP_B = 0 ∧
      t.on Fd.NET_EVT_LINK_DOWN = true ∧ t.on Fd.NET_EVT_NET_LOST = true ∧
      t.servo.b.master = none ∧ t.servo.b.seen = []) ∧
  (∀ (port : Fin 16) (s : State),
    s.on (Fd.PORT_CFG_EN port) = true → s.on (Fd.PORT_STAT_LINK port) = false → s.sys.portUp = true → 
    ∃ t, Sys2Proof.Machine.exec (.portLinkUp port) s = .next t ∧
      (portExists port = true → t.on (Fd.PORT_STAT_LINK port) = true ∧ t.on (Fd.PORT_STAT_FEC_LOCK port) = true ∧ t.on Fd.NET_EVT_LINK_UP = true) ∧
      (portExists port = true → bitOf (t.fld (if port.val < 8 then Fd.NET_STAT_UP_A else Fd.NET_STAT_UP_B)) (port.val % 8) = true) ∧
      Changes [.sys, .firn] [Reg.PORT_STAT port, Reg.NET_STAT, Reg.NET_EVT, Reg.NET_EVT_SEQ] s t) ∧
  (∀ (port : Fin 16) (s : State),
    s.on (Fd.PORT_STAT_LINK port) = false → 
    ∃ t, Sys2Proof.Machine.exec (.portLinkDown port) s = .next t ∧
      t = s) ∧
  (∀ (port : Fin 16) (s : State),
    (portExists port = false ∨ s.on (Fd.PORT_CFG_EN port) = false ∨ s.on (Fd.PORT_STAT_LINK port) = true ∨ s.sys.portUp = false) → 
    ∃ t, Sys2Proof.Machine.exec (.portLinkUp port) s = .next t ∧
      t = s)

/-- Whatever its judgement, a request (one that is judged in its turn, and a protective one that is judged on arrival) that reaches it and fails
a check of R427 is answered with the status of the first check that it fails, and beside that answer, the frame count of its port and what
the refusal itself counts and records nothing changes; the same holds of a register write that fails a check or holds a reserved encoding.
Of a request judged in its turn, a STATE_CONFLICT is meant where it does not ask to be held. (derived from spec/10_zhoide_host_interface.md:
Checking a request; spec/10_zhoide_host_interface.md: Status codes) -/
def Obligations.RefusalsChangeNothing : Prop :=
  (∀ (s u : State) (i : Instr) (q : Req) (code k : Nat) (j : Nat → State → Judge) (d : Denial),
      s.Reaches q k u → (j k u).code = code → (j k u).first q u = some d → d.status ≠ 0 → (d.status = 0x10 → q.defer = false) →
      Refused (s.request i q code j) q code d.status ∧
      Changes [.zh, .firn, .out] [Reg.PORT_CNT_RX q.port, Reg.SYS_CNT_STATECONF, Reg.SYS_ERR, Reg.SYS_ERR_SEQ, Reg.NET_CNT_BUSY] s
        (s.request i q code j)) ∧
  (∀ (s u : State) (q : Req) (code k : Nat) (j : Nat → State → Judge) (d : Denial),
      s.Reaches q k u → (j k u).first { q with defer := false } u = some d → d.status ≠ 0 →
      Refused (s.requestNow q code j) q code d.status ∧
      Changes [.zh, .firn, .out] [Reg.PORT_CNT_RX q.port, Reg.SYS_CNT_STATECONF, Reg.SYS_ERR, Reg.SYS_ERR_SEQ, Reg.NET_CNT_BUSY] s
        (s.requestNow q code j)) ∧
  (∀ (s : State) (w a : Nat) (v : Word) (ok : Bool) (f : State → State × Nat × Nat) (d : Denial), s.checkWords w [(a, v)] = some d →
      (s.writeRowWith w a v ok f).out.head? = some (.wrote w a d.status d.legal d.detail) ∧
      Changes [.firn, .out] [Reg.SYS_CNT_STATECONF, Reg.SYS_ERR, Reg.SYS_ERR_SEQ, Reg.NET_CNT_BUSY] s (s.writeRowWith w a v ok f)) ∧
  (∀ (s : State) (w a : Nat) (v : Word) (ok : Bool) (f : State → State × Nat × Nat), s.checkWords w [(a, v)] = none →
      ((rowAt a).elim true (fun r => fieldsOk r v) && ok) = false →
      (s.writeRowWith w a v ok f).out.head? = some (.wrote w a 0x21 0 0) ∧
      Changes [.zh, .firn, .out] [Reg.SYS_ERR, Reg.SYS_ERR_SEQ] s (s.writeRowWith w a v ok f))

/-- A sample whose index is not later than that of the last accepted one is counted in SV_MISS.REORD and STM_CNT_REORD and changes nothing else;
any other becomes the last accepted one, with its index and time. (derived from spec/03_telemetry_streams.md: From frame to stream state) -/
def Obligations.SamplesPassInOrder : Prop :=
  ∀ (s : State) (i : Fin 262144) (qual v : Nat) (w arrived : BitVec 64),
    ((∃ l, (s.strm i).lastIdx = some l ∧ diff64 (s.indexOf w) l ≤ 0) →
      (s.acceptSample i qual v w arrived).fld (Fd.SV_MISS_REORD i) = min (s.fld (Fd.SV_MISS_REORD i) + 1) 0xFFFF ∧
      (s.acceptSample i qual v w arrived).rd Reg.STM_CNT_REORD = satCount (s.rd Reg.STM_CNT_REORD) 1 ∧
      Changes [] [Reg.SV_MISS i, Reg.STM_CNT_REORD] s (s.acceptSample i qual v w arrived)) ∧
    ((∀ l, (s.strm i).lastIdx = some l → 0 < diff64 (s.indexOf w) l) →
      ((s.acceptSample i qual v w arrived).strm i).lastIdx = some (s.indexOf w) ∧ ((s.acceptSample i qual v w arrived).strm i).lastTime = w)

/-- A value written big-endian into a frame is read back from its place, its first byte is the most significant, and bytes read as a value are
written back as they were. (derived from spec/00_scope.md: Bits, numbers and registers) -/
def Obligations.WordsKeepTheirOrderOnTheWire : Prop :=
  (∀ (n v : Nat) (pre post : List Byte), v < 256 ^ n → beAt (pre ++ beBytes n v ++ post) pre.length n = v) ∧
  (∀ (n v : Nat), (beBytes n v).length = n) ∧
  (∀ (n v : Nat), v < 256 ^ (n + 1) → ((beBytes (n + 1) v).head?.map BitVec.toNat) = some (v / 256 ^ n)) ∧
  (∀ bs : List Byte, beBytes bs.length (beNat bs) = bs)

/-- Accelerators are dealt from the front of the list, as many as there is room for, to members with room, none of which gets more than its
room; and the reserve of each of n members is 4,096 times the rows absorbed divided by n, rounded up. (derived from
spec/12_pair_federation_upgrade.md: Reservation and adoption) -/
def Obligations.TheDealGivesEachItsRoom : Prop :=
  (∀ (q : List (Nat × Nat)) (l : List RowAcc), (q.map (·.1)).Nodup →
      (deal q l).map (·.1) <+: l ∧
      (deal q l).length = min l.length (sumBy (·.2) q) ∧
      (∀ x ∈ deal q l, ∃ c, (x.2, c) ∈ q ∧ 0 < c) ∧
      (∀ m c, (m, c) ∈ q → ((deal q l).filter (fun x => x.2 == m)).length ≤ c)) ∧
  (∀ n, 0 < n → 4096 * rowsAbsorbed n ≤ n * reservedOf n ∧ n * reservedOf n < 4096 * rowsAbsorbed n + n)

/-- An effective cap is the least of the plan cap, the covering ceilings and the protective cap; the floor is at most the cap, and 0 under
SURVIVAL; the ramp bound is at most 0xFFFF; the plan caps sum to at most the module budget, and the rack shares of a rack to at most its
budget. (derived from spec/06_power_plan.md: Effective values; spec/06_power_plan.md: The planner) -/
def Obligations.ThePlanStaysUnderItsLimits : Prop :=
  (∀ (s : State) (a pc : Nat),
      (s.planEntry a pc).cap ≤ pc ∧
      (∀ v ∈ s.ceilValues a, (s.planEntry a pc).cap ≤ v) ∧
      (s.accCap a ≠ 0 → (s.planEntry a pc).cap ≤ s.capValue (s.accCap a) a) ∧
      ((s.planEntry a pc).cap = pc ∨ (s.planEntry a pc).cap ∈ s.ceilValues a ∨
        (s.accCap a ≠ 0 ∧ (s.planEntry a pc).cap = s.capValue (s.accCap a) a)) ∧
      (s.planEntry a pc).floor ≤ (s.planEntry a pc).cap ∧
      (s.accCap a = 2 → (s.planEntry a pc).floor = 0) ∧
      (s.planEntry a pc).ramp ≤ 0xFFFF) ∧
  (∀ s : State, s.modBudget ≠ noLimit → sumBy (·.2) s.planCaps ≤ s.modBudget) ∧
  (∀ (s : State) (r : Nat), (s.rd (Reg.RK_BUDGET r)).toNat ≠ noLimit → sumBy s.rackShare (s.rackAccs r) ≤ (s.rd (Reg.RK_BUDGET r)).toNat)
end

