-- ==== Sys2Proof/Laws/Regs.lean ====
section
/-! SUPPORT. The laws of the register file: a word read after a write, the canonical form, the fields of a word, and the operations over
fields and counts. -/

namespace Sys2Proof.Machine

/-! ### Words -/

theorem regGet_filter_ne (rs : List (Nat × Word)) (a b : Nat) (h : b ≠ a) :
    regGet (rs.filter (fun p => p.1 != a)) b = regGet rs b := by
  induction rs with
  | nil => rfl
  | cons p t ih =>
    obtain ⟨k, w⟩ := p
    by_cases hk : k = a
    · subst hk
      simp [regGet, ih, Ne.symm h]
    · have : (k != a) = true := by simpa using hk
      simp only [List.filter_cons, this, if_true, regGet, ih]

theorem regGet_filter_self (rs : List (Nat × Word)) (a : Nat) :
    regGet (rs.filter (fun p => p.1 != a)) a = resetWord a := by
  induction rs with
  | nil => rfl
  | cons p t ih =>
    obtain ⟨k, w⟩ := p
    by_cases hk : k = a
    · simp [hk, ih]
    · have : (k != a) = true := by simpa using hk
      simp only [List.filter_cons, this, if_true, regGet, if_neg hk, ih]

theorem regGet_regInsert_self (rs : List (Nat × Word)) (a : Nat) (w : Word) (h : ∀ p ∈ rs, p.1 ≠ a) :
    regGet (regInsert a w rs) a = w := by
  induction rs with
  | nil => simp [regInsert, regGet]
  | cons p t ih =>
    obtain ⟨k, v⟩ := p
    simp only [regInsert]
    split
    · simp [regGet]
    · have hk : k ≠ a := h (k, v) (by simp)
      simp only [regGet, if_neg hk]
      exact ih (fun p hp => h p (by simp [hp]))

theorem regGet_regInsert_ne (rs : List (Nat × Word)) (a b : Nat) (w : Word) (h : b ≠ a) :
    regGet (regInsert a w rs) b = regGet rs b := by
  induction rs with
  | nil => simp [regInsert, regGet, Ne.symm h]
  | cons p t ih =>
    obtain ⟨k, v⟩ := p
    simp only [regInsert]
    split
    · simp [regGet, Ne.symm h]
    · simp only [regGet, ih]

/-- A word written is the word read. -/
@[simp] theorem regGet_regPut_self (rs : List (Nat × Word)) (a : Nat) (w : Word) : regGet (regPut rs a w) a = w := by
  simp only [regPut]
  split
  · rename_i h
    rw [regGet_filter_self, h]
  · exact regGet_regInsert_self _ _ _ (fun p hp => by simpa using (List.mem_filter.mp hp).2)

/-- A write leaves every other word alone. -/
theorem regGet_regPut_ne (rs : List (Nat × Word)) (a b : Nat) (w : Word) (h : b ≠ a) : regGet (regPut rs a w) b = regGet rs b := by
  simp only [regPut]
  split
  · exact regGet_filter_ne rs a b h
  · rw [regGet_regInsert_ne _ _ _ _ h, regGet_filter_ne rs a b h]

/-! ### The canonical form -/

theorem regsWf_filter (p : Nat × Word → Bool) (rs : List (Nat × Word)) (h : regsWf rs = true) : regsWf (rs.filter p) = true := by
  induction rs with
  | nil => rfl
  | cons x t ih =>
    obtain ⟨k, w⟩ := x
    simp only [regsWf, Bool.and_eq_true, List.all_eq_true] at h
    simp only [List.filter_cons]
    split
    · simp only [regsWf, Bool.and_eq_true, List.all_eq_true]
      exact ⟨⟨h.1.1, fun y hy => h.1.2 y (List.mem_filter.mp hy).1⟩, ih h.2⟩
    · exact ih h.2

theorem regInsert_above (rs : List (Nat × Word)) (a k : Nat) (w : Word) (hk : k < a) (h : ∀ p ∈ rs, k < p.1) :
    ∀ p ∈ regInsert a w rs, k < p.1 := by
  induction rs with
  | nil => simpa [regInsert] using hk
  | cons x t ih =>
    obtain ⟨j, v⟩ := x
    intro p hp
    simp only [regInsert] at hp
    split at hp
    · rcases List.mem_cons.mp hp with rfl | hp
      · exact hk
      · exact h p hp
    · rcases List.mem_cons.mp hp with rfl | hp
      · exact h _ (by simp)
      · exact ih (fun q hq => h q (by simp [hq])) p hp

theorem regsWf_regInsert (rs : List (Nat × Word)) (a : Nat) (w : Word) (hw : w ≠ resetWord a) (hn : ∀ p ∈ rs, p.1 ≠ a)
    (h : regsWf rs = true) : regsWf (regInsert a w rs) = true := by
  induction rs with
  | nil => simpa [regInsert, regsWf] using hw
  | cons x t ih =>
    obtain ⟨k, v⟩ := x
    simp only [regsWf, Bool.and_eq_true, List.all_eq_true, decide_eq_true_eq] at h
    have hk : k ≠ a := hn (k, v) (by simp)
    simp only [regInsert]
    split
    · rename_i hlt
      simp only [regsWf, Bool.and_eq_true, List.all_eq_true, decide_eq_true_eq]
      refine ⟨⟨hw, fun p hp => ?_⟩, ⟨h.1.1, fun p hp => ?_⟩, h.2⟩
      · rcases List.mem_cons.mp hp with rfl | hp
        · exact hlt
        · exact lt_trans hlt (h.1.2 p hp)
      · exact h.1.2 p hp
    · rename_i hge
      simp only [regsWf, Bool.and_eq_true, List.all_eq_true, decide_eq_true_eq]
      refine ⟨⟨h.1.1, ?_⟩, ih (fun p hp => hn p (by simp [hp])) h.2⟩
      exact regInsert_above t a k w (lt_of_le_of_ne (not_lt.mp hge) hk) h.1.2

/-- A write of the register file keeps its canonical form. -/
theorem regsWf_regPut (rs : List (Nat × Word)) (a : Nat) (w : Word) (h : regsWf rs = true) : regsWf (regPut rs a w) = true := by
  simp only [regPut]
  split
  · exact regsWf_filter _ rs h
  · rename_i hw
    exact regsWf_regInsert _ a w hw (fun p hp => by simpa using (List.mem_filter.mp hp).2) (regsWf_filter _ rs h)

/-! ### Words of the state -/

@[simp] theorem State.rd_wr_self (s : State) (a : Nat) (w : Word) : (s.wr a w).rd a = w := regGet_regPut_self _ _ _
theorem State.rd_wr_ne (s : State) (a b : Nat) (w : Word) (h : b ≠ a) : (s.wr a w).rd b = s.rd b := regGet_regPut_ne _ _ _ _ h

/-! ### Fields of a word -/

/-- The bits of a word with a field replaced. -/
theorem testBit_withField (w : Word) (lo n v j : Nat) :
    (w.toNat % 2 ^ lo + v % 2 ^ n * 2 ^ lo + w.toNat / 2 ^ (lo + n) * 2 ^ (lo + n)).testBit j =
      if lo ≤ j ∧ j < lo + n then v.testBit (j - lo) else w.toNat.testBit j := by
  have e : w.toNat % 2 ^ lo + v % 2 ^ n * 2 ^ lo + w.toNat / 2 ^ (lo + n) * 2 ^ (lo + n) =
      2 ^ (lo + n) * (w.toNat / 2 ^ (lo + n)) + (2 ^ lo * (v % 2 ^ n) + w.toNat % 2 ^ lo) := by ring
  have b1 : w.toNat % 2 ^ lo < 2 ^ lo := Nat.mod_lt _ (Nat.two_pow_pos lo)
  have b2 : 2 ^ lo * (v % 2 ^ n) + w.toNat % 2 ^ lo < 2 ^ (lo + n) := by
    have h : v % 2 ^ n + 1 ≤ 2 ^ n := Nat.mod_lt _ (Nat.two_pow_pos n)
    calc _ < 2 ^ lo * (v % 2 ^ n) + 2 ^ lo := by omega
      _ = 2 ^ lo * (v % 2 ^ n + 1) := by ring
      _ ≤ 2 ^ lo * 2 ^ n := Nat.mul_le_mul_left _ h
      _ = 2 ^ (lo + n) := by rw [pow_add]
  rw [e, Nat.testBit_two_pow_mul_add _ b2]
  by_cases h1 : j < lo + n
  · rw [if_pos h1, Nat.testBit_two_pow_mul_add _ b1]
    by_cases h2 : j < lo
    · simp [h2, Nat.testBit_mod_two_pow]
    · have : j - lo < n := by omega
      simp [h2, not_lt.mp h2, h1, Nat.testBit_mod_two_pow, this]
  · have : ¬ (lo ≤ j ∧ j < lo + n) := fun h => h1 h.2
    rw [if_neg h1, if_neg this, Nat.testBit_div_two_pow]
    congr 1; omega

/-- The bits of a field. -/
theorem testBit_fieldOf (w : Word) (lo n i : Nat) : (fieldOf w lo n).testBit i = (decide (i < n) && w.toNat.testBit (i + lo)) := by
  simp [fieldOf, Nat.testBit_mod_two_pow, Nat.testBit_div_two_pow, Nat.add_comm]

/-- The field written is the field read, cut to its width. -/
theorem fieldOf_withField_self (w : Word) (lo n v : Nat) (h : lo + n ≤ 32) : fieldOf (withField w lo n v) lo n = v % 2 ^ n := by
  apply Nat.eq_of_testBit_eq
  intro i
  rw [testBit_fieldOf, withField, BitVec.toNat_ofNat, Nat.testBit_mod_two_pow, testBit_withField, Nat.testBit_mod_two_pow]
  by_cases hi : i < n
  · have h1 : i + lo < 32 := by omega
    have h2 : lo ≤ i + lo ∧ i + lo < lo + n := by omega
    simp [hi, h1, h2]
  · simp [hi]

/-- A field that shares no bit with the one written keeps its value. -/
theorem fieldOf_withField_ne (w : Word) (lo n v lo' n' : Nat) (h : lo + n ≤ lo' ∨ lo' + n' ≤ lo) :
    fieldOf (withField w lo n v) lo' n' = fieldOf w lo' n' := by
  apply Nat.eq_of_testBit_eq
  intro i
  rw [testBit_fieldOf, testBit_fieldOf, withField, BitVec.toNat_ofNat, Nat.testBit_mod_two_pow, testBit_withField]
  by_cases hi : i < n'
  · have h2 : ¬ (lo ≤ i + lo' ∧ i + lo' < lo + n) := by omega
    by_cases h1 : i + lo' < 32
    · simp [hi, h1, h2]
    · have : w.toNat.testBit (i + lo') = false :=
        Nat.testBit_lt_two_pow (lt_of_lt_of_le w.isLt (Nat.pow_le_pow_right (by norm_num) (by omega)))
      simp [h1, this]
  · simp [hi]

/-! ### Fields of the state -/

/-- A field set reads as set, cut to its width. -/
theorem State.fld_set_self (s : State) (f : Fld) (v : Nat) (h : f.lo + f.width ≤ 32) : (s.set f v).fld f = v % 2 ^ f.width := by
  simp only [State.fld, State.set, State.rd_wr_self]
  exact fieldOf_withField_self _ _ _ _ h

/-- A field of another word keeps its value. -/
theorem State.fld_set_word (s : State) (f g : Fld) (v : Nat) (h : g.addr ≠ f.addr) : (s.set f v).fld g = s.fld g := by
  simp only [State.fld, State.set, State.rd_wr_ne _ _ _ _ h]

/-- Another field of the same word keeps its value. -/
theorem State.fld_set_bits (s : State) (f g : Fld) (v : Nat) (ha : g.addr = f.addr) (h : f.lo + f.width ≤ g.lo ∨ g.lo + g.width ≤ f.lo) :
    (s.set f v).fld g = s.fld g := by
  simp only [State.fld, State.set, ha, State.rd_wr_self]
  exact fieldOf_withField_ne _ _ _ _ _ _ h

/-- A word other than the field's keeps its value. -/
theorem State.rd_set_ne (s : State) (f : Fld) (v a : Nat) (h : a ≠ f.addr) : (s.set f v).rd a = s.rd a := State.rd_wr_ne _ _ _ _ h

/-- A word other than the count keeps its value. -/
theorem State.rd_count_ne (s : State) (c a : Nat) (h : a ≠ c) : (s.count c).rd a = s.rd a := State.rd_wr_ne _ _ _ _ h

/-- A count after one more event: it saturates (R12). -/
theorem State.rd_count_self (s : State) (c : Nat) : (s.count c).rd c = satCount (s.rd c) 1 := State.rd_wr_self _ _ _

end Sys2Proof.Machine
end

