-- ==== Sys2Proof/Laws/State.lean ====
section
/-! SUPPORT. What the elementary updates leave alone: one lemma for each field of the state that an update does not touch. -/

namespace Sys2Proof.Machine

/-! ### `State.wr` -/

@[simp] theorem State.wr_pending (s : State) (a : Nat) (w : Word) : (s.wr a w).pending = s.pending := rfl
@[simp] theorem State.wr_shadow (s : State) (a : Nat) (w : Word) : (s.wr a w).shadow = s.shadow := rfl
@[simp] theorem State.wr_clk (s : State) (a : Nat) (w : Word) : (s.wr a w).clk = s.clk := rfl
@[simp] theorem State.wr_servo (s : State) (a : Nat) (w : Word) : (s.wr a w).servo = s.servo := rfl
@[simp] theorem State.wr_jobs (s : State) (a : Nat) (w : Word) : (s.wr a w).jobs = s.jobs := rfl
@[simp] theorem State.wr_act (s : State) (a : Nat) (w : Word) : (s.wr a w).act = s.act := rfl
@[simp] theorem State.wr_zh (s : State) (a : Nat) (w : Word) : (s.wr a w).zh = s.zh := rfl
@[simp] theorem State.wr_sys (s : State) (a : Nat) (w : Word) : (s.wr a w).sys = s.sys := rfl
@[simp] theorem State.wr_firn (s : State) (a : Nat) (w : Word) : (s.wr a w).firn = s.firn := rfl
@[simp] theorem State.wr_sec (s : State) (a : Nat) (w : Word) : (s.wr a w).sec = s.sec := rfl
@[simp] theorem State.wr_waitWrites (s : State) (a : Nat) (w : Word) : (s.wr a w).waitWrites = s.waitWrites := rfl
@[simp] theorem State.wr_wlow (s : State) (a : Nat) (w : Word) : (s.wr a w).wlow = s.wlow := rfl
@[simp] theorem State.wr_stm (s : State) (a : Nat) (w : Word) : (s.wr a w).stm = s.stm := rfl
@[simp] theorem State.wr_ice (s : State) (a : Nat) (w : Word) : (s.wr a w).ice = s.ice := rfl
@[simp] theorem State.wr_tbl (s : State) (a : Nat) (w : Word) : (s.wr a w).tbl = s.tbl := rfl
@[simp] theorem State.wr_plan (s : State) (a : Nat) (w : Word) : (s.wr a w).plan = s.plan := rfl
@[simp] theorem State.wr_field (s : State) (a : Nat) (w : Word) : (s.wr a w).field = s.field := rfl
@[simp] theorem State.wr_lop (s : State) (a : Nat) (w : Word) : (s.wr a w).lop = s.lop := rfl
@[simp] theorem State.wr_acts (s : State) (a : Nat) (w : Word) : (s.wr a w).acts = s.acts := rfl
@[simp] theorem State.wr_prt (s : State) (a : Nat) (w : Word) : (s.wr a w).prt = s.prt := rfl
@[simp] theorem State.wr_can (s : State) (a : Nat) (w : Word) : (s.wr a w).can = s.can := rfl
@[simp] theorem State.wr_pair (s : State) (a : Nat) (w : Word) : (s.wr a w).pair = s.pair := rfl
@[simp] theorem State.wr_lst (s : State) (a : Nat) (w : Word) : (s.wr a w).lst = s.lst := rfl
@[simp] theorem State.wr_fed (s : State) (a : Nat) (w : Word) : (s.wr a w).fed = s.fed := rfl
@[simp] theorem State.wr_dia (s : State) (a : Nat) (w : Word) : (s.wr a w).dia = s.dia := rfl
@[simp] theorem State.wr_out (s : State) (a : Nat) (w : Word) : (s.wr a w).out = s.out := rfl
@[simp] theorem State.wr_fresh (s : State) (a : Nat) (w : Word) : (s.wr a w).fresh = s.fresh := rfl

/-! ### `State.set` -/

@[simp] theorem State.set_pending (s : State) (f : Fld) (v : Nat) : (s.set f v).pending = s.pending := rfl
@[simp] theorem State.set_shadow (s : State) (f : Fld) (v : Nat) : (s.set f v).shadow = s.shadow := rfl
@[simp] theorem State.set_clk (s : State) (f : Fld) (v : Nat) : (s.set f v).clk = s.clk := rfl
@[simp] theorem State.set_servo (s : State) (f : Fld) (v : Nat) : (s.set f v).servo = s.servo := rfl
@[simp] theorem State.set_jobs (s : State) (f : Fld) (v : Nat) : (s.set f v).jobs = s.jobs := rfl
@[simp] theorem State.set_act (s : State) (f : Fld) (v : Nat) : (s.set f v).act = s.act := rfl
@[simp] theorem State.set_zh (s : State) (f : Fld) (v : Nat) : (s.set f v).zh = s.zh := rfl
@[simp] theorem State.set_sys (s : State) (f : Fld) (v : Nat) : (s.set f v).sys = s.sys := rfl
@[simp] theorem State.set_firn (s : State) (f : Fld) (v : Nat) : (s.set f v).firn = s.firn := rfl
@[simp] theorem State.set_sec (s : State) (f : Fld) (v : Nat) : (s.set f v).sec = s.sec := rfl
@[simp] theorem State.set_waitWrites (s : State) (f : Fld) (v : Nat) : (s.set f v).waitWrites = s.waitWrites := rfl
@[simp] theorem State.set_wlow (s : State) (f : Fld) (v : Nat) : (s.set f v).wlow = s.wlow := rfl
@[simp] theorem State.set_stm (s : State) (f : Fld) (v : Nat) : (s.set f v).stm = s.stm := rfl
@[simp] theorem State.set_ice (s : State) (f : Fld) (v : Nat) : (s.set f v).ice = s.ice := rfl
@[simp] theorem State.set_tbl (s : State) (f : Fld) (v : Nat) : (s.set f v).tbl = s.tbl := rfl
@[simp] theorem State.set_plan (s : State) (f : Fld) (v : Nat) : (s.set f v).plan = s.plan := rfl
@[simp] theorem State.set_field (s : State) (f : Fld) (v : Nat) : (s.set f v).field = s.field := rfl
@[simp] theorem State.set_lop (s : State) (f : Fld) (v : Nat) : (s.set f v).lop = s.lop := rfl
@[simp] theorem State.set_acts (s : State) (f : Fld) (v : Nat) : (s.set f v).acts = s.acts := rfl
@[simp] theorem State.set_prt (s : State) (f : Fld) (v : Nat) : (s.set f v).prt = s.prt := rfl
@[simp] theorem State.set_can (s : State) (f : Fld) (v : Nat) : (s.set f v).can = s.can := rfl
@[simp] theorem State.set_pair (s : State) (f : Fld) (v : Nat) : (s.set f v).pair = s.pair := rfl
@[simp] theorem State.set_lst (s : State) (f : Fld) (v : Nat) : (s.set f v).lst = s.lst := rfl
@[simp] theorem State.set_fed (s : State) (f : Fld) (v : Nat) : (s.set f v).fed = s.fed := rfl
@[simp] theorem State.set_dia (s : State) (f : Fld) (v : Nat) : (s.set f v).dia = s.dia := rfl
@[simp] theorem State.set_out (s : State) (f : Fld) (v : Nat) : (s.set f v).out = s.out := rfl
@[simp] theorem State.set_fresh (s : State) (f : Fld) (v : Nat) : (s.set f v).fresh = s.fresh := rfl

/-! ### `State.setB` -/

@[simp] theorem State.setB_pending (s : State) (f : Fld) (b : Bool) : (s.setB f b).pending = s.pending := rfl
@[simp] theorem State.setB_shadow (s : State) (f : Fld) (b : Bool) : (s.setB f b).shadow = s.shadow := rfl
@[simp] theorem State.setB_clk (s : State) (f : Fld) (b : Bool) : (s.setB f b).clk = s.clk := rfl
@[simp] theorem State.setB_servo (s : State) (f : Fld) (b : Bool) : (s.setB f b).servo = s.servo := rfl
@[simp] theorem State.setB_jobs (s : State) (f : Fld) (b : Bool) : (s.setB f b).jobs = s.jobs := rfl
@[simp] theorem State.setB_act (s : State) (f : Fld) (b : Bool) : (s.setB f b).act = s.act := rfl
@[simp] theorem State.setB_zh (s : State) (f : Fld) (b : Bool) : (s.setB f b).zh = s.zh := rfl
@[simp] theorem State.setB_sys (s : State) (f : Fld) (b : Bool) : (s.setB f b).sys = s.sys := rfl
@[simp] theorem State.setB_firn (s : State) (f : Fld) (b : Bool) : (s.setB f b).firn = s.firn := rfl
@[simp] theorem State.setB_sec (s : State) (f : Fld) (b : Bool) : (s.setB f b).sec = s.sec := rfl
@[simp] theorem State.setB_waitWrites (s : State) (f : Fld) (b : Bool) : (s.setB f b).waitWrites = s.waitWrites := rfl
@[simp] theorem State.setB_wlow (s : State) (f : Fld) (b : Bool) : (s.setB f b).wlow = s.wlow := rfl
@[simp] theorem State.setB_stm (s : State) (f : Fld) (b : Bool) : (s.setB f b).stm = s.stm := rfl
@[simp] theorem State.setB_ice (s : State) (f : Fld) (b : Bool) : (s.setB f b).ice = s.ice := rfl
@[simp] theorem State.setB_tbl (s : State) (f : Fld) (b : Bool) : (s.setB f b).tbl = s.tbl := rfl
@[simp] theorem State.setB_plan (s : State) (f : Fld) (b : Bool) : (s.setB f b).plan = s.plan := rfl
@[simp] theorem State.setB_field (s : State) (f : Fld) (b : Bool) : (s.setB f b).field = s.field := rfl
@[simp] theorem State.setB_lop (s : State) (f : Fld) (b : Bool) : (s.setB f b).lop = s.lop := rfl
@[simp] theorem State.setB_acts (s : State) (f : Fld) (b : Bool) : (s.setB f b).acts = s.acts := rfl
@[simp] theorem State.setB_prt (s : State) (f : Fld) (b : Bool) : (s.setB f b).prt = s.prt := rfl
@[simp] theorem State.setB_can (s : State) (f : Fld) (b : Bool) : (s.setB f b).can = s.can := rfl
@[simp] theorem State.setB_pair (s : State) (f : Fld) (b : Bool) : (s.setB f b).pair = s.pair := rfl
@[simp] theorem State.setB_lst (s : State) (f : Fld) (b : Bool) : (s.setB f b).lst = s.lst := rfl
@[simp] theorem State.setB_fed (s : State) (f : Fld) (b : Bool) : (s.setB f b).fed = s.fed := rfl
@[simp] theorem State.setB_dia (s : State) (f : Fld) (b : Bool) : (s.setB f b).dia = s.dia := rfl
@[simp] theorem State.setB_out (s : State) (f : Fld) (b : Bool) : (s.setB f b).out = s.out := rfl
@[simp] theorem State.setB_fresh (s : State) (f : Fld) (b : Bool) : (s.setB f b).fresh = s.fresh := rfl

/-! ### `State.countBy` -/

@[simp] theorem State.countBy_pending (s : State) (a n : Nat) : (s.countBy a n).pending = s.pending := rfl
@[simp] theorem State.countBy_shadow (s : State) (a n : Nat) : (s.countBy a n).shadow = s.shadow := rfl
@[simp] theorem State.countBy_clk (s : State) (a n : Nat) : (s.countBy a n).clk = s.clk := rfl
@[simp] theorem State.countBy_servo (s : State) (a n : Nat) : (s.countBy a n).servo = s.servo := rfl
@[simp] theorem State.countBy_jobs (s : State) (a n : Nat) : (s.countBy a n).jobs = s.jobs := rfl
@[simp] theorem State.countBy_act (s : State) (a n : Nat) : (s.countBy a n).act = s.act := rfl
@[simp] theorem State.countBy_zh (s : State) (a n : Nat) : (s.countBy a n).zh = s.zh := rfl
@[simp] theorem State.countBy_sys (s : State) (a n : Nat) : (s.countBy a n).sys = s.sys := rfl
@[simp] theorem State.countBy_firn (s : State) (a n : Nat) : (s.countBy a n).firn = s.firn := rfl
@[simp] theorem State.countBy_sec (s : State) (a n : Nat) : (s.countBy a n).sec = s.sec := rfl
@[simp] theorem State.countBy_waitWrites (s : State) (a n : Nat) : (s.countBy a n).waitWrites = s.waitWrites := rfl
@[simp] theorem State.countBy_wlow (s : State) (a n : Nat) : (s.countBy a n).wlow = s.wlow := rfl
@[simp] theorem State.countBy_stm (s : State) (a n : Nat) : (s.countBy a n).stm = s.stm := rfl
@[simp] theorem State.countBy_ice (s : State) (a n : Nat) : (s.countBy a n).ice = s.ice := rfl
@[simp] theorem State.countBy_tbl (s : State) (a n : Nat) : (s.countBy a n).tbl = s.tbl := rfl
@[simp] theorem State.countBy_plan (s : State) (a n : Nat) : (s.countBy a n).plan = s.plan := rfl
@[simp] theorem State.countBy_field (s : State) (a n : Nat) : (s.countBy a n).field = s.field := rfl
@[simp] theorem State.countBy_lop (s : State) (a n : Nat) : (s.countBy a n).lop = s.lop := rfl
@[simp] theorem State.countBy_acts (s : State) (a n : Nat) : (s.countBy a n).acts = s.acts := rfl
@[simp] theorem State.countBy_prt (s : State) (a n : Nat) : (s.countBy a n).prt = s.prt := rfl
@[simp] theorem State.countBy_can (s : State) (a n : Nat) : (s.countBy a n).can = s.can := rfl
@[simp] theorem State.countBy_pair (s : State) (a n : Nat) : (s.countBy a n).pair = s.pair := rfl
@[simp] theorem State.countBy_lst (s : State) (a n : Nat) : (s.countBy a n).lst = s.lst := rfl
@[simp] theorem State.countBy_fed (s : State) (a n : Nat) : (s.countBy a n).fed = s.fed := rfl
@[simp] theorem State.countBy_dia (s : State) (a n : Nat) : (s.countBy a n).dia = s.dia := rfl
@[simp] theorem State.countBy_out (s : State) (a n : Nat) : (s.countBy a n).out = s.out := rfl
@[simp] theorem State.countBy_fresh (s : State) (a n : Nat) : (s.countBy a n).fresh = s.fresh := rfl

/-! ### `State.count` -/

@[simp] theorem State.count_pending (s : State) (a : Nat) : (s.count a).pending = s.pending := rfl
@[simp] theorem State.count_shadow (s : State) (a : Nat) : (s.count a).shadow = s.shadow := rfl
@[simp] theorem State.count_clk (s : State) (a : Nat) : (s.count a).clk = s.clk := rfl
@[simp] theorem State.count_servo (s : State) (a : Nat) : (s.count a).servo = s.servo := rfl
@[simp] theorem State.count_jobs (s : State) (a : Nat) : (s.count a).jobs = s.jobs := rfl
@[simp] theorem State.count_act (s : State) (a : Nat) : (s.count a).act = s.act := rfl
@[simp] theorem State.count_zh (s : State) (a : Nat) : (s.count a).zh = s.zh := rfl
@[simp] theorem State.count_sys (s : State) (a : Nat) : (s.count a).sys = s.sys := rfl
@[simp] theorem State.count_firn (s : State) (a : Nat) : (s.count a).firn = s.firn := rfl
@[simp] theorem State.count_sec (s : State) (a : Nat) : (s.count a).sec = s.sec := rfl
@[simp] theorem State.count_waitWrites (s : State) (a : Nat) : (s.count a).waitWrites = s.waitWrites := rfl
@[simp] theorem State.count_wlow (s : State) (a : Nat) : (s.count a).wlow = s.wlow := rfl
@[simp] theorem State.count_stm (s : State) (a : Nat) : (s.count a).stm = s.stm := rfl
@[simp] theorem State.count_ice (s : State) (a : Nat) : (s.count a).ice = s.ice := rfl
@[simp] theorem State.count_tbl (s : State) (a : Nat) : (s.count a).tbl = s.tbl := rfl
@[simp] theorem State.count_plan (s : State) (a : Nat) : (s.count a).plan = s.plan := rfl
@[simp] theorem State.count_field (s : State) (a : Nat) : (s.count a).field = s.field := rfl
@[simp] theorem State.count_lop (s : State) (a : Nat) : (s.count a).lop = s.lop := rfl
@[simp] theorem State.count_acts (s : State) (a : Nat) : (s.count a).acts = s.acts := rfl
@[simp] theorem State.count_prt (s : State) (a : Nat) : (s.count a).prt = s.prt := rfl
@[simp] theorem State.count_can (s : State) (a : Nat) : (s.count a).can = s.can := rfl
@[simp] theorem State.count_pair (s : State) (a : Nat) : (s.count a).pair = s.pair := rfl
@[simp] theorem State.count_lst (s : State) (a : Nat) : (s.count a).lst = s.lst := rfl
@[simp] theorem State.count_fed (s : State) (a : Nat) : (s.count a).fed = s.fed := rfl
@[simp] theorem State.count_dia (s : State) (a : Nat) : (s.count a).dia = s.dia := rfl
@[simp] theorem State.count_out (s : State) (a : Nat) : (s.count a).out = s.out := rfl
@[simp] theorem State.count_fresh (s : State) (a : Nat) : (s.count a).fresh = s.fresh := rfl

/-! ### `State.bump` -/

@[simp] theorem State.bump_pending (s : State) (f : Fld) : (s.bump f).pending = s.pending := rfl
@[simp] theorem State.bump_shadow (s : State) (f : Fld) : (s.bump f).shadow = s.shadow := rfl
@[simp] theorem State.bump_clk (s : State) (f : Fld) : (s.bump f).clk = s.clk := rfl
@[simp] theorem State.bump_servo (s : State) (f : Fld) : (s.bump f).servo = s.servo := rfl
@[simp] theorem State.bump_jobs (s : State) (f : Fld) : (s.bump f).jobs = s.jobs := rfl
@[simp] theorem State.bump_act (s : State) (f : Fld) : (s.bump f).act = s.act := rfl
@[simp] theorem State.bump_zh (s : State) (f : Fld) : (s.bump f).zh = s.zh := rfl
@[simp] theorem State.bump_sys (s : State) (f : Fld) : (s.bump f).sys = s.sys := rfl
@[simp] theorem State.bump_firn (s : State) (f : Fld) : (s.bump f).firn = s.firn := rfl
@[simp] theorem State.bump_sec (s : State) (f : Fld) : (s.bump f).sec = s.sec := rfl
@[simp] theorem State.bump_waitWrites (s : State) (f : Fld) : (s.bump f).waitWrites = s.waitWrites := rfl
@[simp] theorem State.bump_wlow (s : State) (f : Fld) : (s.bump f).wlow = s.wlow := rfl
@[simp] theorem State.bump_stm (s : State) (f : Fld) : (s.bump f).stm = s.stm := rfl
@[simp] theorem State.bump_ice (s : State) (f : Fld) : (s.bump f).ice = s.ice := rfl
@[simp] theorem State.bump_tbl (s : State) (f : Fld) : (s.bump f).tbl = s.tbl := rfl
@[simp] theorem State.bump_plan (s : State) (f : Fld) : (s.bump f).plan = s.plan := rfl
@[simp] theorem State.bump_field (s : State) (f : Fld) : (s.bump f).field = s.field := rfl
@[simp] theorem State.bump_lop (s : State) (f : Fld) : (s.bump f).lop = s.lop := rfl
@[simp] theorem State.bump_acts (s : State) (f : Fld) : (s.bump f).acts = s.acts := rfl
@[simp] theorem State.bump_prt (s : State) (f : Fld) : (s.bump f).prt = s.prt := rfl
@[simp] theorem State.bump_can (s : State) (f : Fld) : (s.bump f).can = s.can := rfl
@[simp] theorem State.bump_pair (s : State) (f : Fld) : (s.bump f).pair = s.pair := rfl
@[simp] theorem State.bump_lst (s : State) (f : Fld) : (s.bump f).lst = s.lst := rfl
@[simp] theorem State.bump_fed (s : State) (f : Fld) : (s.bump f).fed = s.fed := rfl
@[simp] theorem State.bump_dia (s : State) (f : Fld) : (s.bump f).dia = s.dia := rfl
@[simp] theorem State.bump_out (s : State) (f : Fld) : (s.bump f).out = s.out := rfl
@[simp] theorem State.bump_fresh (s : State) (f : Fld) : (s.bump f).fresh = s.fresh := rfl

/-! ### `State.wrap` -/

@[simp] theorem State.wrap_pending (s : State) (f : Fld) : (s.wrap f).pending = s.pending := rfl
@[simp] theorem State.wrap_shadow (s : State) (f : Fld) : (s.wrap f).shadow = s.shadow := rfl
@[simp] theorem State.wrap_clk (s : State) (f : Fld) : (s.wrap f).clk = s.clk := rfl
@[simp] theorem State.wrap_servo (s : State) (f : Fld) : (s.wrap f).servo = s.servo := rfl
@[simp] theorem State.wrap_jobs (s : State) (f : Fld) : (s.wrap f).jobs = s.jobs := rfl
@[simp] theorem State.wrap_act (s : State) (f : Fld) : (s.wrap f).act = s.act := rfl
@[simp] theorem State.wrap_zh (s : State) (f : Fld) : (s.wrap f).zh = s.zh := rfl
@[simp] theorem State.wrap_sys (s : State) (f : Fld) : (s.wrap f).sys = s.sys := rfl
@[simp] theorem State.wrap_firn (s : State) (f : Fld) : (s.wrap f).firn = s.firn := rfl
@[simp] theorem State.wrap_sec (s : State) (f : Fld) : (s.wrap f).sec = s.sec := rfl
@[simp] theorem State.wrap_waitWrites (s : State) (f : Fld) : (s.wrap f).waitWrites = s.waitWrites := rfl
@[simp] theorem State.wrap_wlow (s : State) (f : Fld) : (s.wrap f).wlow = s.wlow := rfl
@[simp] theorem State.wrap_stm (s : State) (f : Fld) : (s.wrap f).stm = s.stm := rfl
@[simp] theorem State.wrap_ice (s : State) (f : Fld) : (s.wrap f).ice = s.ice := rfl
@[simp] theorem State.wrap_tbl (s : State) (f : Fld) : (s.wrap f).tbl = s.tbl := rfl
@[simp] theorem State.wrap_plan (s : State) (f : Fld) : (s.wrap f).plan = s.plan := rfl
@[simp] theorem State.wrap_field (s : State) (f : Fld) : (s.wrap f).field = s.field := rfl
@[simp] theorem State.wrap_lop (s : State) (f : Fld) : (s.wrap f).lop = s.lop := rfl
@[simp] theorem State.wrap_acts (s : State) (f : Fld) : (s.wrap f).acts = s.acts := rfl
@[simp] theorem State.wrap_prt (s : State) (f : Fld) : (s.wrap f).prt = s.prt := rfl
@[simp] theorem State.wrap_can (s : State) (f : Fld) : (s.wrap f).can = s.can := rfl
@[simp] theorem State.wrap_pair (s : State) (f : Fld) : (s.wrap f).pair = s.pair := rfl
@[simp] theorem State.wrap_lst (s : State) (f : Fld) : (s.wrap f).lst = s.lst := rfl
@[simp] theorem State.wrap_fed (s : State) (f : Fld) : (s.wrap f).fed = s.fed := rfl
@[simp] theorem State.wrap_dia (s : State) (f : Fld) : (s.wrap f).dia = s.dia := rfl
@[simp] theorem State.wrap_out (s : State) (f : Fld) : (s.wrap f).out = s.out := rfl
@[simp] theorem State.wrap_fresh (s : State) (f : Fld) : (s.wrap f).fresh = s.fresh := rfl

/-! ### `State.mark` -/

@[simp] theorem State.mark_pending (s : State) (f : Fld) : (s.mark f).pending = s.pending := by
  rw [State.mark, State.wr_pending, State.wr_pending]
@[simp] theorem State.mark_shadow (s : State) (f : Fld) : (s.mark f).shadow = s.shadow := by
  rw [State.mark, State.wr_shadow, State.wr_shadow]
@[simp] theorem State.mark_clk (s : State) (f : Fld) : (s.mark f).clk = s.clk := by
  rw [State.mark, State.wr_clk, State.wr_clk]
@[simp] theorem State.mark_servo (s : State) (f : Fld) : (s.mark f).servo = s.servo := by
  rw [State.mark, State.wr_servo, State.wr_servo]
@[simp] theorem State.mark_jobs (s : State) (f : Fld) : (s.mark f).jobs = s.jobs := by
  rw [State.mark, State.wr_jobs, State.wr_jobs]
@[simp] theorem State.mark_act (s : State) (f : Fld) : (s.mark f).act = s.act := by
  rw [State.mark, State.wr_act, State.wr_act]
@[simp] theorem State.mark_zh (s : State) (f : Fld) : (s.mark f).zh = s.zh := by
  rw [State.mark, State.wr_zh, State.wr_zh]
@[simp] theorem State.mark_sys (s : State) (f : Fld) : (s.mark f).sys = s.sys := by
  rw [State.mark, State.wr_sys, State.wr_sys]
@[simp] theorem State.mark_firn (s : State) (f : Fld) : (s.mark f).firn = s.firn := by
  rw [State.mark, State.wr_firn, State.wr_firn]
@[simp] theorem State.mark_sec (s : State) (f : Fld) : (s.mark f).sec = s.sec := by
  rw [State.mark, State.wr_sec, State.wr_sec]
@[simp] theorem State.mark_waitWrites (s : State) (f : Fld) : (s.mark f).waitWrites = s.waitWrites := by
  rw [State.mark, State.wr_waitWrites, State.wr_waitWrites]
@[simp] theorem State.mark_wlow (s : State) (f : Fld) : (s.mark f).wlow = s.wlow := by
  rw [State.mark, State.wr_wlow, State.wr_wlow]
@[simp] theorem State.mark_stm (s : State) (f : Fld) : (s.mark f).stm = s.stm := by
  rw [State.mark, State.wr_stm, State.wr_stm]
@[simp] theorem State.mark_ice (s : State) (f : Fld) : (s.mark f).ice = s.ice := by
  rw [State.mark, State.wr_ice, State.wr_ice]
@[simp] theorem State.mark_tbl (s : State) (f : Fld) : (s.mark f).tbl = s.tbl := by
  rw [State.mark, State.wr_tbl, State.wr_tbl]
@[simp] theorem State.mark_plan (s : State) (f : Fld) : (s.mark f).plan = s.plan := by
  rw [State.mark, State.wr_plan, State.wr_plan]
@[simp] theorem State.mark_field (s : State) (f : Fld) : (s.mark f).field = s.field := by
  rw [State.mark, State.wr_field, State.wr_field]
@[simp] theorem State.mark_lop (s : State) (f : Fld) : (s.mark f).lop = s.lop := by
  rw [State.mark, State.wr_lop, State.wr_lop]
@[simp] theorem State.mark_acts (s : State) (f : Fld) : (s.mark f).acts = s.acts := by
  rw [State.mark, State.wr_acts, State.wr_acts]
@[simp] theorem State.mark_prt (s : State) (f : Fld) : (s.mark f).prt = s.prt := by
  rw [State.mark, State.wr_prt, State.wr_prt]
@[simp] theorem State.mark_can (s : State) (f : Fld) : (s.mark f).can = s.can := by
  rw [State.mark, State.wr_can, State.wr_can]
@[simp] theorem State.mark_pair (s : State) (f : Fld) : (s.mark f).pair = s.pair := by
  rw [State.mark, State.wr_pair, State.wr_pair]
@[simp] theorem State.mark_lst (s : State) (f : Fld) : (s.mark f).lst = s.lst := by
  rw [State.mark, State.wr_lst, State.wr_lst]
@[simp] theorem State.mark_fed (s : State) (f : Fld) : (s.mark f).fed = s.fed := by
  rw [State.mark, State.wr_fed, State.wr_fed]
@[simp] theorem State.mark_dia (s : State) (f : Fld) : (s.mark f).dia = s.dia := by
  rw [State.mark, State.wr_dia, State.wr_dia]
@[simp] theorem State.mark_out (s : State) (f : Fld) : (s.mark f).out = s.out := by
  rw [State.mark, State.wr_out, State.wr_out]
@[simp] theorem State.mark_fresh (s : State) (f : Fld) : (s.mark f).fresh = s.fresh := by
  rw [State.mark, State.wr_fresh, State.wr_fresh]

/-! ### `State.send` -/

@[simp] theorem State.send_pending (s : State) (o : Out) : (s.send o).pending = s.pending := rfl
@[simp] theorem State.send_regs (s : State) (o : Out) : (s.send o).regs = s.regs := rfl
@[simp] theorem State.send_shadow (s : State) (o : Out) : (s.send o).shadow = s.shadow := rfl
@[simp] theorem State.send_clk (s : State) (o : Out) : (s.send o).clk = s.clk := rfl
@[simp] theorem State.send_servo (s : State) (o : Out) : (s.send o).servo = s.servo := rfl
@[simp] theorem State.send_jobs (s : State) (o : Out) : (s.send o).jobs = s.jobs := rfl
@[simp] theorem State.send_act (s : State) (o : Out) : (s.send o).act = s.act := rfl
@[simp] theorem State.send_zh (s : State) (o : Out) : (s.send o).zh = s.zh := rfl
@[simp] theorem State.send_sys (s : State) (o : Out) : (s.send o).sys = s.sys := rfl
@[simp] theorem State.send_firn (s : State) (o : Out) : (s.send o).firn = s.firn := rfl
@[simp] theorem State.send_sec (s : State) (o : Out) : (s.send o).sec = s.sec := rfl
@[simp] theorem State.send_waitWrites (s : State) (o : Out) : (s.send o).waitWrites = s.waitWrites := rfl
@[simp] theorem State.send_wlow (s : State) (o : Out) : (s.send o).wlow = s.wlow := rfl
@[simp] theorem State.send_stm (s : State) (o : Out) : (s.send o).stm = s.stm := rfl
@[simp] theorem State.send_ice (s : State) (o : Out) : (s.send o).ice = s.ice := rfl
@[simp] theorem State.send_tbl (s : State) (o : Out) : (s.send o).tbl = s.tbl := rfl
@[simp] theorem State.send_plan (s : State) (o : Out) : (s.send o).plan = s.plan := rfl
@[simp] theorem State.send_field (s : State) (o : Out) : (s.send o).field = s.field := rfl
@[simp] theorem State.send_lop (s : State) (o : Out) : (s.send o).lop = s.lop := rfl
@[simp] theorem State.send_acts (s : State) (o : Out) : (s.send o).acts = s.acts := rfl
@[simp] theorem State.send_prt (s : State) (o : Out) : (s.send o).prt = s.prt := rfl
@[simp] theorem State.send_can (s : State) (o : Out) : (s.send o).can = s.can := rfl
@[simp] theorem State.send_pair (s : State) (o : Out) : (s.send o).pair = s.pair := rfl
@[simp] theorem State.send_lst (s : State) (o : Out) : (s.send o).lst = s.lst := rfl
@[simp] theorem State.send_fed (s : State) (o : Out) : (s.send o).fed = s.fed := rfl
@[simp] theorem State.send_dia (s : State) (o : Out) : (s.send o).dia = s.dia := rfl
@[simp] theorem State.send_fresh (s : State) (o : Out) : (s.send o).fresh = s.fresh := rfl

/-! ### `State.setSys` -/

@[simp] theorem State.setSys_pending (s : State) (y : Sys) : (s.setSys y).pending = s.pending := rfl
@[simp] theorem State.setSys_regs (s : State) (y : Sys) : (s.setSys y).regs = s.regs := rfl
@[simp] theorem State.setSys_shadow (s : State) (y : Sys) : (s.setSys y).shadow = s.shadow := rfl
@[simp] theorem State.setSys_clk (s : State) (y : Sys) : (s.setSys y).clk = s.clk := rfl
@[simp] theorem State.setSys_servo (s : State) (y : Sys) : (s.setSys y).servo = s.servo := rfl
@[simp] theorem State.setSys_jobs (s : State) (y : Sys) : (s.setSys y).jobs = s.jobs := rfl
@[simp] theorem State.setSys_act (s : State) (y : Sys) : (s.setSys y).act = s.act := rfl
@[simp] theorem State.setSys_zh (s : State) (y : Sys) : (s.setSys y).zh = s.zh := rfl
@[simp] theorem State.setSys_firn (s : State) (y : Sys) : (s.setSys y).firn = s.firn := rfl
@[simp] theorem State.setSys_sec (s : State) (y : Sys) : (s.setSys y).sec = s.sec := rfl
@[simp] theorem State.setSys_waitWrites (s : State) (y : Sys) : (s.setSys y).waitWrites = s.waitWrites := rfl
@[simp] theorem State.setSys_wlow (s : State) (y : Sys) : (s.setSys y).wlow = s.wlow := rfl
@[simp] theorem State.setSys_stm (s : State) (y : Sys) : (s.setSys y).stm = s.stm := rfl
@[simp] theorem State.setSys_ice (s : State) (y : Sys) : (s.setSys y).ice = s.ice := rfl
@[simp] theorem State.setSys_tbl (s : State) (y : Sys) : (s.setSys y).tbl = s.tbl := rfl
@[simp] theorem State.setSys_plan (s : State) (y : Sys) : (s.setSys y).plan = s.plan := rfl
@[simp] theorem State.setSys_field (s : State) (y : Sys) : (s.setSys y).field = s.field := rfl
@[simp] theorem State.setSys_lop (s : State) (y : Sys) : (s.setSys y).lop = s.lop := rfl
@[simp] theorem State.setSys_acts (s : State) (y : Sys) : (s.setSys y).acts = s.acts := rfl
@[simp] theorem State.setSys_prt (s : State) (y : Sys) : (s.setSys y).prt = s.prt := rfl
@[simp] theorem State.setSys_can (s : State) (y : Sys) : (s.setSys y).can = s.can := rfl
@[simp] theorem State.setSys_pair (s : State) (y : Sys) : (s.setSys y).pair = s.pair := rfl
@[simp] theorem State.setSys_lst (s : State) (y : Sys) : (s.setSys y).lst = s.lst := rfl
@[simp] theorem State.setSys_fed (s : State) (y : Sys) : (s.setSys y).fed = s.fed := rfl
@[simp] theorem State.setSys_dia (s : State) (y : Sys) : (s.setSys y).dia = s.dia := rfl
@[simp] theorem State.setSys_out (s : State) (y : Sys) : (s.setSys y).out = s.out := rfl
@[simp] theorem State.setSys_fresh (s : State) (y : Sys) : (s.setSys y).fresh = s.fresh := rfl

/-! ### `State.setPair` -/

@[simp] theorem State.setPair_pending (s : State) (y : Pair) : (s.setPair y).pending = s.pending := rfl
@[simp] theorem State.setPair_regs (s : State) (y : Pair) : (s.setPair y).regs = s.regs := rfl
@[simp] theorem State.setPair_shadow (s : State) (y : Pair) : (s.setPair y).shadow = s.shadow := rfl
@[simp] theorem State.setPair_clk (s : State) (y : Pair) : (s.setPair y).clk = s.clk := rfl
@[simp] theorem State.setPair_servo (s : State) (y : Pair) : (s.setPair y).servo = s.servo := rfl
@[simp] theorem State.setPair_jobs (s : State) (y : Pair) : (s.setPair y).jobs = s.jobs := rfl
@[simp] theorem State.setPair_act (s : State) (y : Pair) : (s.setPair y).act = s.act := rfl
@[simp] theorem State.setPair_zh (s : State) (y : Pair) : (s.setPair y).zh = s.zh := rfl
@[simp] theorem State.setPair_sys (s : State) (y : Pair) : (s.setPair y).sys = s.sys := rfl
@[simp] theorem State.setPair_firn (s : State) (y : Pair) : (s.setPair y).firn = s.firn := rfl
@[simp] theorem State.setPair_sec (s : State) (y : Pair) : (s.setPair y).sec = s.sec := rfl
@[simp] theorem State.setPair_waitWrites (s : State) (y : Pair) : (s.setPair y).waitWrites = s.waitWrites := rfl
@[simp] theorem State.setPair_wlow (s : State) (y : Pair) : (s.setPair y).wlow = s.wlow := rfl
@[simp] theorem State.setPair_stm (s : State) (y : Pair) : (s.setPair y).stm = s.stm := rfl
@[simp] theorem State.setPair_ice (s : State) (y : Pair) : (s.setPair y).ice = s.ice := rfl
@[simp] theorem State.setPair_tbl (s : State) (y : Pair) : (s.setPair y).tbl = s.tbl := rfl
@[simp] theorem State.setPair_plan (s : State) (y : Pair) : (s.setPair y).plan = s.plan := rfl
@[simp] theorem State.setPair_field (s : State) (y : Pair) : (s.setPair y).field = s.field := rfl
@[simp] theorem State.setPair_lop (s : State) (y : Pair) : (s.setPair y).lop = s.lop := rfl
@[simp] theorem State.setPair_acts (s : State) (y : Pair) : (s.setPair y).acts = s.acts := rfl
@[simp] theorem State.setPair_prt (s : State) (y : Pair) : (s.setPair y).prt = s.prt := rfl
@[simp] theorem State.setPair_can (s : State) (y : Pair) : (s.setPair y).can = s.can := rfl
@[simp] theorem State.setPair_lst (s : State) (y : Pair) : (s.setPair y).lst = s.lst := rfl
@[simp] theorem State.setPair_fed (s : State) (y : Pair) : (s.setPair y).fed = s.fed := rfl
@[simp] theorem State.setPair_dia (s : State) (y : Pair) : (s.setPair y).dia = s.dia := rfl
@[simp] theorem State.setPair_out (s : State) (y : Pair) : (s.setPair y).out = s.out := rfl
@[simp] theorem State.setPair_fresh (s : State) (y : Pair) : (s.setPair y).fresh = s.fresh := rfl

/-! ### `State.setFed` -/

@[simp] theorem State.setFed_pending (s : State) (y : Fed) : (s.setFed y).pending = s.pending := rfl
@[simp] theorem State.setFed_regs (s : State) (y : Fed) : (s.setFed y).regs = s.regs := rfl
@[simp] theorem State.setFed_shadow (s : State) (y : Fed) : (s.setFed y).shadow = s.shadow := rfl
@[simp] theorem State.setFed_clk (s : State) (y : Fed) : (s.setFed y).clk = s.clk := rfl
@[simp] theorem State.setFed_servo (s : State) (y : Fed) : (s.setFed y).servo = s.servo := rfl
@[simp] theorem State.setFed_jobs (s : State) (y : Fed) : (s.setFed y).jobs = s.jobs := rfl
@[simp] theorem State.setFed_act (s : State) (y : Fed) : (s.setFed y).act = s.act := rfl
@[simp] theorem State.setFed_zh (s : State) (y : Fed) : (s.setFed y).zh = s.zh := rfl
@[simp] theorem State.setFed_sys (s : State) (y : Fed) : (s.setFed y).sys = s.sys := rfl
@[simp] theorem State.setFed_firn (s : State) (y : Fed) : (s.setFed y).firn = s.firn := rfl
@[simp] theorem State.setFed_sec (s : State) (y : Fed) : (s.setFed y).sec = s.sec := rfl
@[simp] theorem State.setFed_waitWrites (s : State) (y : Fed) : (s.setFed y).waitWrites = s.waitWrites := rfl
@[simp] theorem State.setFed_wlow (s : State) (y : Fed) : (s.setFed y).wlow = s.wlow := rfl
@[simp] theorem State.setFed_stm (s : State) (y : Fed) : (s.setFed y).stm = s.stm := rfl
@[simp] theorem State.setFed_ice (s : State) (y : Fed) : (s.setFed y).ice = s.ice := rfl
@[simp] theorem State.setFed_tbl (s : State) (y : Fed) : (s.setFed y).tbl = s.tbl := rfl
@[simp] theorem State.setFed_plan (s : State) (y : Fed) : (s.setFed y).plan = s.plan := rfl
@[simp] theorem State.setFed_field (s : State) (y : Fed) : (s.setFed y).field = s.field := rfl
@[simp] theorem State.setFed_lop (s : State) (y : Fed) : (s.setFed y).lop = s.lop := rfl
@[simp] theorem State.setFed_acts (s : State) (y : Fed) : (s.setFed y).acts = s.acts := rfl
@[simp] theorem State.setFed_prt (s : State) (y : Fed) : (s.setFed y).prt = s.prt := rfl
@[simp] theorem State.setFed_can (s : State) (y : Fed) : (s.setFed y).can = s.can := rfl
@[simp] theorem State.setFed_pair (s : State) (y : Fed) : (s.setFed y).pair = s.pair := rfl
@[simp] theorem State.setFed_lst (s : State) (y : Fed) : (s.setFed y).lst = s.lst := rfl
@[simp] theorem State.setFed_dia (s : State) (y : Fed) : (s.setFed y).dia = s.dia := rfl
@[simp] theorem State.setFed_out (s : State) (y : Fed) : (s.setFed y).out = s.out := rfl
@[simp] theorem State.setFed_fresh (s : State) (y : Fed) : (s.setFed y).fresh = s.fresh := rfl

/-! ### `State.setCan` -/

@[simp] theorem State.setCan_pending (s : State) (y : Can) : (s.setCan y).pending = s.pending := rfl
@[simp] theorem State.setCan_regs (s : State) (y : Can) : (s.setCan y).regs = s.regs := rfl
@[simp] theorem State.setCan_shadow (s : State) (y : Can) : (s.setCan y).shadow = s.shadow := rfl
@[simp] theorem State.setCan_clk (s : State) (y : Can) : (s.setCan y).clk = s.clk := rfl
@[simp] theorem State.setCan_servo (s : State) (y : Can) : (s.setCan y).servo = s.servo := rfl
@[simp] theorem State.setCan_jobs (s : State) (y : Can) : (s.setCan y).jobs = s.jobs := rfl
@[simp] theorem State.setCan_act (s : State) (y : Can) : (s.setCan y).act = s.act := rfl
@[simp] theorem State.setCan_zh (s : State) (y : Can) : (s.setCan y).zh = s.zh := rfl
@[simp] theorem State.setCan_sys (s : State) (y : Can) : (s.setCan y).sys = s.sys := rfl
@[simp] theorem State.setCan_firn (s : State) (y : Can) : (s.setCan y).firn = s.firn := rfl
@[simp] theorem State.setCan_sec (s : State) (y : Can) : (s.setCan y).sec = s.sec := rfl
@[simp] theorem State.setCan_waitWrites (s : State) (y : Can) : (s.setCan y).waitWrites = s.waitWrites := rfl
@[simp] theorem State.setCan_wlow (s : State) (y : Can) : (s.setCan y).wlow = s.wlow := rfl
@[simp] theorem State.setCan_stm (s : State) (y : Can) : (s.setCan y).stm = s.stm := rfl
@[simp] theorem State.setCan_ice (s : State) (y : Can) : (s.setCan y).ice = s.ice := rfl
@[simp] theorem State.setCan_tbl (s : State) (y : Can) : (s.setCan y).tbl = s.tbl := rfl
@[simp] theorem State.setCan_plan (s : State) (y : Can) : (s.setCan y).plan = s.plan := rfl
@[simp] theorem State.setCan_field (s : State) (y : Can) : (s.setCan y).field = s.field := rfl
@[simp] theorem State.setCan_lop (s : State) (y : Can) : (s.setCan y).lop = s.lop := rfl
@[simp] theorem State.setCan_acts (s : State) (y : Can) : (s.setCan y).acts = s.acts := rfl
@[simp] theorem State.setCan_prt (s : State) (y : Can) : (s.setCan y).prt = s.prt := rfl
@[simp] theorem State.setCan_pair (s : State) (y : Can) : (s.setCan y).pair = s.pair := rfl
@[simp] theorem State.setCan_lst (s : State) (y : Can) : (s.setCan y).lst = s.lst := rfl
@[simp] theorem State.setCan_fed (s : State) (y : Can) : (s.setCan y).fed = s.fed := rfl
@[simp] theorem State.setCan_dia (s : State) (y : Can) : (s.setCan y).dia = s.dia := rfl
@[simp] theorem State.setCan_out (s : State) (y : Can) : (s.setCan y).out = s.out := rfl
@[simp] theorem State.setCan_fresh (s : State) (y : Can) : (s.setCan y).fresh = s.fresh := rfl

/-! ### Reading after an update that leaves the register file alone -/

@[simp] theorem State.send_rd (s : State) (o : Out) (k : Nat) : (s.send o).rd k = s.rd k := rfl
@[simp] theorem State.send_fld (s : State) (o : Out) (g : Fld) : (s.send o).fld g = s.fld g := rfl
@[simp] theorem State.send_on (s : State) (o : Out) (g : Fld) : (s.send o).on g = s.on g := rfl
@[simp] theorem State.setSys_rd (s : State) (y : Sys) (k : Nat) : (s.setSys y).rd k = s.rd k := rfl
@[simp] theorem State.setSys_fld (s : State) (y : Sys) (g : Fld) : (s.setSys y).fld g = s.fld g := rfl
@[simp] theorem State.setSys_on (s : State) (y : Sys) (g : Fld) : (s.setSys y).on g = s.on g := rfl
@[simp] theorem State.setPair_rd (s : State) (y : Pair) (k : Nat) : (s.setPair y).rd k = s.rd k := rfl
@[simp] theorem State.setPair_fld (s : State) (y : Pair) (g : Fld) : (s.setPair y).fld g = s.fld g := rfl
@[simp] theorem State.setPair_on (s : State) (y : Pair) (g : Fld) : (s.setPair y).on g = s.on g := rfl
@[simp] theorem State.setFed_rd (s : State) (y : Fed) (k : Nat) : (s.setFed y).rd k = s.rd k := rfl
@[simp] theorem State.setFed_fld (s : State) (y : Fed) (g : Fld) : (s.setFed y).fld g = s.fld g := rfl
@[simp] theorem State.setFed_on (s : State) (y : Fed) (g : Fld) : (s.setFed y).on g = s.on g := rfl
@[simp] theorem State.setCan_rd (s : State) (y : Can) (k : Nat) : (s.setCan y).rd k = s.rd k := rfl
@[simp] theorem State.setCan_fld (s : State) (y : Can) (g : Fld) : (s.setCan y).fld g = s.fld g := rfl
@[simp] theorem State.setCan_on (s : State) (y : Can) (g : Fld) : (s.setCan y).on g = s.on g := rfl

/-- What is sent comes first in `out`. -/
@[simp] theorem State.send_out (s : State) (o : Out) : (s.send o).out = o :: s.out := rfl
@[simp] theorem State.setSys_sys (s : State) (y : Sys) : (s.setSys y).sys = y := rfl
@[simp] theorem State.setPair_pair (s : State) (y : Pair) : (s.setPair y).pair = y := rfl
@[simp] theorem State.setFed_fed (s : State) (y : Fed) : (s.setFed y).fed = y := rfl
@[simp] theorem State.setCan_can (s : State) (y : Can) : (s.setCan y).can = y := rfl

end Sys2Proof.Machine
end

