-- ==== Sys2Proof/Laws/Events.lean ====
section
/-! SUPPORT. What the occurrence of an event can do (R551, R558, R566): the words it may change, and that it changes nothing of the state
but the register file and Firn. -/

namespace Sys2Proof.Machine

/-- Two states that differ in the register file and in Firn alone. -/
structure State.Quiet (s t : State) : Prop where
  pending : t.pending = s.pending
  shadow : t.shadow = s.shadow
  clk : t.clk = s.clk
  servo : t.servo = s.servo
  jobs : t.jobs = s.jobs
  act : t.act = s.act
  zh : t.zh = s.zh
  sys : t.sys = s.sys
  sec : t.sec = s.sec
  waitWrites : t.waitWrites = s.waitWrites
  wlow : t.wlow = s.wlow
  stm : t.stm = s.stm
  ice : t.ice = s.ice
  tbl : t.tbl = s.tbl
  plan : t.plan = s.plan
  field : t.field = s.field
  lop : t.lop = s.lop
  acts : t.acts = s.acts
  prt : t.prt = s.prt
  can : t.can = s.can
  pair : t.pair = s.pair
  lst : t.lst = s.lst
  fed : t.fed = s.fed
  dia : t.dia = s.dia
  out : t.out = s.out
  fresh : t.fresh = s.fresh

theorem State.Quiet.refl (s : State) : State.Quiet s s := ⟨rfl, rfl, rfl, rfl, rfl, rfl, rfl, rfl, rfl, rfl, rfl, rfl, rfl, rfl, rfl, rfl, rfl, rfl, rfl, rfl, rfl, rfl, rfl, rfl, rfl, rfl⟩

theorem State.Quiet.trans {a b c : State} (h : State.Quiet a b) (k : State.Quiet b c) : State.Quiet a c :=
  ⟨k.pending.trans h.pending, k.shadow.trans h.shadow, k.clk.trans h.clk, k.servo.trans h.servo, k.jobs.trans h.jobs, k.act.trans
   h.act, k.zh.trans h.zh, k.sys.trans h.sys, k.sec.trans h.sec, k.waitWrites.trans h.waitWrites, k.wlow.trans h.wlow, k.stm.trans
   h.stm, k.ice.trans h.ice, k.tbl.trans h.tbl, k.plan.trans h.plan, k.field.trans h.field, k.lop.trans h.lop, k.acts.trans h.acts,
   k.prt.trans h.prt, k.can.trans h.can, k.pair.trans h.pair, k.lst.trans h.lst, k.fed.trans h.fed, k.dia.trans h.dia, k.out.trans
   h.out, k.fresh.trans h.fresh⟩

/-- A change of the register file and of Firn is quiet. -/
theorem State.Quiet.of (s : State) (rs : List (Nat × Word)) (f : Firn) : State.Quiet s { s with regs := rs, firn := f } :=
  ⟨rfl, rfl, rfl, rfl, rfl, rfl, rfl, rfl, rfl, rfl, rfl, rfl, rfl, rfl, rfl, rfl, rfl, rfl, rfl, rfl, rfl, rfl, rfl, rfl, rfl, rfl⟩

theorem State.Quiet.foldl {α : Type} {f : State → α → State} (hf : ∀ t x, State.Quiet t (f t x)) (l : List α) (s : State) :
    State.Quiet s (l.foldl f s) := by
  induction l generalizing s with
  | nil => exact State.Quiet.refl s
  | cons x l ih => exact (hf s x).trans (ih (f s x))

theorem State.wr_quiet (s : State) (a : Nat) (w : Word) : State.Quiet s (s.wr a w) := .of s _ _
theorem State.count_quiet (s : State) (a : Nat) : State.Quiet s (s.count a) := .of s _ _
theorem State.bump_quiet (s : State) (f : Fld) : State.Quiet s (s.bump f) := .of s _ _
theorem State.takeToken_quiet (s : State) (c : Nat) : State.Quiet s (s.takeToken c) := by
  unfold State.takeToken
  split
  · exact .refl s
  · exact .of s _ _

/-! ### Occurrences -/

theorem State.occurOnce_quiet (s : State) (c o : Nat) (l : List Nat) (t : Bool) : State.Quiet s (s.occurOnce c o l t).1 := by
  unfold State.occurOnce
  have h := (State.Quiet.foldl (fun (u : State) n => u.count_quiet (Reg.CTR_VAL (c / 64) n)) (countersFor s c o) s).trans
    (State.count_quiet _ (Reg.CODE_CNT c))
  dsimp only
  split
  · exact h.trans ((State.takeToken_quiet _ c).trans (.of _ _ _))
  · exact h.trans ((State.bump_quiet _ _).trans (State.count_quiet _ _))

theorem State.markSuppressed_quiet (s : State) : State.Quiet s s.markSuppressed.1 := by
  unfold State.markSuppressed
  exact ((State.wr_quiet _ _ _).trans (State.wr_quiet _ _ _)).trans (State.occurOnce_quiet _ _ _ _ _)

theorem State.occur_quiet (s : State) (c o : Nat) (l : List Nat) (t : Bool) : State.Quiet s (s.occur c o l t) := by
  unfold State.occur
  dsimp only
  have h := s.occurOnce_quiet c o l t
  split
  · have k := h.trans (State.markSuppressed_quiet _)
    split
    · exact k.trans (State.markSuppressed_quiet _)
    · exact k
  · exact h

theorem State.raise_quiet (s : State) (f : Fld) (o : Nat) (l : List Nat) (t : Bool) : State.Quiet s (s.raise f o l t) := by
  unfold State.raise
  exact ((State.wr_quiet _ _ _).trans (State.wr_quiet _ _ _)).trans (State.occur_quiet _ _ _ _ _)

theorem State.raiseEnd_quiet (s : State) (f : Fld) (o : Nat) (l : List Nat) : State.Quiet s (s.raiseEnd f o l) := State.occur_quiet _ _ _ _ _

/-! ### The words an occurrence leaves alone -/

theorem State.foldl_count_rd {α : Type} (g : α → Nat) (a : Nat) (h : ∀ x, a ≠ g x) (l : List α) (s : State) :
    (l.foldl (fun (u : State) x => u.count (g x)) s).rd a = s.rd a := by
  induction l generalizing s with
  | nil => rfl
  | cons x l ih => rw [List.foldl_cons, ih]; exact State.rd_count_ne _ _ _ (h x)

theorem mem_countersFor {s : State} {c o n : Nat} (h : n ∈ countersFor s c o) : n < 32 := by
  obtain ⟨p, hp, rfl⟩ := List.mem_map.mp h
  have hk := (List.mem_filter.mp hp).2
  simp only [Bool.and_eq_true, decide_eq_true_eq] at hk
  omega

theorem State.foldl_count_rd_mem (g : Nat → Nat) (a : Nat) (l : List Nat) (h : ∀ x ∈ l, a ≠ g x) (s : State) :
    (l.foldl (fun (u : State) x => u.count (g x)) s).rd a = s.rd a := by
  induction l generalizing s with
  | nil => rfl
  | cons x l ih =>
    rw [List.foldl_cons, ih (fun y hy => h y (by simp [hy]))]
    exact State.rd_count_ne _ _ _ (h x (by simp))

theorem State.takeToken_rd (s : State) (c a : Nat) : (s.takeToken c).rd a = s.rd a := by
  unfold State.takeToken
  split <;> rfl

theorem State.occurOnce_rd (s : State) (c o : Nat) (l : List Nat) (t : Bool) (a : Nat) (hc : c < 1024) (ha : eventWord a = false) :
    (s.occurOnce c o l t).1.rd a = s.rd a := by
  simp only [eventWord, Bool.or_eq_false_iff, Bool.and_eq_false_iff, decide_eq_false_iff_not, beq_eq_false_iff_ne] at ha
  obtain ⟨⟨⟨⟨h1, h2⟩, h3⟩, h4⟩, h5⟩ := ha
  have n1 : ∀ x ∈ countersFor s c o, a ≠ Reg.CTR_VAL (c / 64) x := by
    intro x hx
    have := mem_countersFor hx
    simp only [Reg.CTR_VAL]
    omega
  have n2 : a ≠ Reg.CODE_CNT c := by simp only [Reg.CODE_CNT]; omega
  have n3 : a ≠ (Fd.CODE_STAT_PEND c).addr := by simp only [Fd.CODE_STAT_PEND, Reg.CODE_STAT]; omega
  unfold State.occurOnce
  dsimp only
  split
  · show ((_ : State).takeToken c).rd a = _
    rw [State.takeToken_rd, State.rd_count_ne _ _ _ n2, State.foldl_count_rd_mem _ _ _ n1]
  · show (((_ : State).bump _).count _).rd a = _
    rw [State.rd_count_ne _ _ _ h3, State.bump, State.rd_set_ne _ _ _ _ n3, State.rd_count_ne _ _ _ n2, State.foldl_count_rd_mem _ _ _ n1]

theorem State.markSuppressed_rd (s : State) (a : Nat) (ha : eventWord a = false) : s.markSuppressed.1.rd a = s.rd a := by
  have hb := ha
  simp only [eventWord, Bool.or_eq_false_iff, beq_eq_false_iff_ne] at hb
  unfold State.markSuppressed
  dsimp only
  rw [State.occurOnce_rd _ _ _ _ _ _ (by decide) ha, State.rd_wr_ne _ _ _ _ hb.2, State.rd_set_ne _ _ _ _ hb.1.2]

/-- An occurrence changes no word but those of events, counters and rate limits. -/
theorem State.occur_rd (s : State) (c o : Nat) (l : List Nat) (t : Bool) (a : Nat) (hc : c < 1024) (ha : eventWord a = false) :
    (s.occur c o l t).rd a = s.rd a := by
  unfold State.occur
  dsimp only
  split
  · split
    · rw [State.markSuppressed_rd _ _ ha, State.markSuppressed_rd _ _ ha, State.occurOnce_rd _ _ _ _ _ _ hc ha]
    · rw [State.markSuppressed_rd _ _ ha, State.occurOnce_rd _ _ _ _ _ _ hc ha]
  · exact State.occurOnce_rd _ _ _ _ _ _ hc ha

/-- Raising an event changes no word but the event register, its _SEQ and those of an occurrence. -/
theorem State.raise_rd (s : State) (f : Fld) (o : Nat) (l : List Nat) (t : Bool) (a : Nat) (hc : eventCode f < 1024)
    (ha : eventWord a = false) (h1 : a ≠ f.addr) (h2 : a ≠ f.addr + 4) : (s.raise f o l t).rd a = s.rd a := by
  unfold State.raise
  dsimp only
  rw [State.occur_rd _ _ _ _ _ _ hc ha, State.rd_wr_ne _ _ _ _ h2, State.rd_wr_ne _ _ _ _ h1]

/-- A field of another word reads as before an event. -/
theorem State.raise_fld (s : State) (f g : Fld) (o : Nat) (l : List Nat) (t : Bool) (hc : eventCode f < 1024)
    (ha : eventWord g.addr = false) (h1 : g.addr ≠ f.addr) (h2 : g.addr ≠ f.addr + 4) : (s.raise f o l t).fld g = s.fld g := by
  simp only [State.fld, State.raise_rd s f o l t g.addr hc ha h1 h2]

/-- A bit that hardware sets reads 1 (R55). -/
theorem fieldOf_w1cAfter_set (w : Word) (n : Nat) (h : n < 32) : fieldOf (w1cAfter w 0 (BitVec.ofNat 32 (2 ^ n))) n 1 = 1 := by
  apply Nat.eq_of_testBit_eq
  intro i
  rw [testBit_fieldOf]
  by_cases hi : i = 0
  · subst hi
    have hm : 2 ^ n % 4294967296 = 2 ^ n := Nat.mod_eq_of_lt (Nat.pow_lt_pow_right (by norm_num) h)
    simp [w1cAfter, Nat.testBit_or, hm, Nat.testBit_two_pow_self]
  · have : ¬ i < 1 := by omega
    have h1 : Nat.testBit 1 i = false := by
      rw [show (1 : Nat) = 2 ^ 0 from rfl, Nat.testBit_two_pow_of_ne (by omega)]
    simp [this, h1]

/-- The event's own bit reads 1 after it is raised (R55). -/
theorem State.raise_on (s : State) (f : Fld) (o : Nat) (l : List Nat) (t : Bool) (hc : eventCode f < 1024)
    (ha : eventWord f.addr = false) (hw : f.width = 1) (hl : f.lo < 32) : (s.raise f o l t).on f = true := by
  unfold State.raise State.on State.fld
  dsimp only
  rw [State.occur_rd _ _ _ _ _ _ hc ha, State.rd_wr_ne _ _ _ _ (by omega), State.rd_wr_self, hw, fieldOf_w1cAfter_set _ _ hl]
  rfl


/-! ### What `State.occur` leaves alone -/

@[simp] theorem State.occur_pending (s : State) (c o : Nat) (l : List Nat) (t : Bool) : (s.occur c o l t).pending = s.pending := (s.occur_quiet c o l t).pending
@[simp] theorem State.occur_shadow (s : State) (c o : Nat) (l : List Nat) (t : Bool) : (s.occur c o l t).shadow = s.shadow := (s.occur_quiet c o l t).shadow
@[simp] theorem State.occur_clk (s : State) (c o : Nat) (l : List Nat) (t : Bool) : (s.occur c o l t).clk = s.clk := (s.occur_quiet c o l t).clk
@[simp] theorem State.occur_servo (s : State) (c o : Nat) (l : List Nat) (t : Bool) : (s.occur c o l t).servo = s.servo := (s.occur_quiet c o l t).servo
@[simp] theorem State.occur_jobs (s : State) (c o : Nat) (l : List Nat) (t : Bool) : (s.occur c o l t).jobs = s.jobs := (s.occur_quiet c o l t).jobs
@[simp] theorem State.occur_act (s : State) (c o : Nat) (l : List Nat) (t : Bool) : (s.occur c o l t).act = s.act := (s.occur_quiet c o l t).act
@[simp] theorem State.occur_zh (s : State) (c o : Nat) (l : List Nat) (t : Bool) : (s.occur c o l t).zh = s.zh := (s.occur_quiet c o l t).zh
@[simp] theorem State.occur_sys (s : State) (c o : Nat) (l : List Nat) (t : Bool) : (s.occur c o l t).sys = s.sys := (s.occur_quiet c o l t).sys
@[simp] theorem State.occur_sec (s : State) (c o : Nat) (l : List Nat) (t : Bool) : (s.occur c o l t).sec = s.sec := (s.occur_quiet c o l t).sec
@[simp] theorem State.occur_waitWrites (s : State) (c o : Nat) (l : List Nat) (t : Bool) : (s.occur c o l t).waitWrites = s.waitWrites := (s.occur_quiet c o l t).waitWrites
@[simp] theorem State.occur_wlow (s : State) (c o : Nat) (l : List Nat) (t : Bool) : (s.occur c o l t).wlow = s.wlow := (s.occur_quiet c o l t).wlow
@[simp] theorem State.occur_stm (s : State) (c o : Nat) (l : List Nat) (t : Bool) : (s.occur c o l t).stm = s.stm := (s.occur_quiet c o l t).stm
@[simp] theorem State.occur_ice (s : State) (c o : Nat) (l : List Nat) (t : Bool) : (s.occur c o l t).ice = s.ice := (s.occur_quiet c o l t).ice
@[simp] theorem State.occur_tbl (s : State) (c o : Nat) (l : List Nat) (t : Bool) : (s.occur c o l t).tbl = s.tbl := (s.occur_quiet c o l t).tbl
@[simp] theorem State.occur_plan (s : State) (c o : Nat) (l : List Nat) (t : Bool) : (s.occur c o l t).plan = s.plan := (s.occur_quiet c o l t).plan
@[simp] theorem State.occur_field (s : State) (c o : Nat) (l : List Nat) (t : Bool) : (s.occur c o l t).field = s.field := (s.occur_quiet c o l t).field
@[simp] theorem State.occur_lop (s : State) (c o : Nat) (l : List Nat) (t : Bool) : (s.occur c o l t).lop = s.lop := (s.occur_quiet c o l t).lop
@[simp] theorem State.occur_acts (s : State) (c o : Nat) (l : List Nat) (t : Bool) : (s.occur c o l t).acts = s.acts := (s.occur_quiet c o l t).acts
@[simp] theorem State.occur_prt (s : State) (c o : Nat) (l : List Nat) (t : Bool) : (s.occur c o l t).prt = s.prt := (s.occur_quiet c o l t).prt
@[simp] theorem State.occur_can (s : State) (c o : Nat) (l : List Nat) (t : Bool) : (s.occur c o l t).can = s.can := (s.occur_quiet c o l t).can
@[simp] theorem State.occur_pair (s : State) (c o : Nat) (l : List Nat) (t : Bool) : (s.occur c o l t).pair = s.pair := (s.occur_quiet c o l t).pair
@[simp] theorem State.occur_lst (s : State) (c o : Nat) (l : List Nat) (t : Bool) : (s.occur c o l t).lst = s.lst := (s.occur_quiet c o l t).lst
@[simp] theorem State.occur_fed (s : State) (c o : Nat) (l : List Nat) (t : Bool) : (s.occur c o l t).fed = s.fed := (s.occur_quiet c o l t).fed
@[simp] theorem State.occur_dia (s : State) (c o : Nat) (l : List Nat) (t : Bool) : (s.occur c o l t).dia = s.dia := (s.occur_quiet c o l t).dia
@[simp] theorem State.occur_out (s : State) (c o : Nat) (l : List Nat) (t : Bool) : (s.occur c o l t).out = s.out := (s.occur_quiet c o l t).out
@[simp] theorem State.occur_fresh (s : State) (c o : Nat) (l : List Nat) (t : Bool) : (s.occur c o l t).fresh = s.fresh := (s.occur_quiet c o l t).fresh

/-! ### What `State.raise` leaves alone -/

@[simp] theorem State.raise_pending (s : State) (f : Fld) (o : Nat) (l : List Nat) (t : Bool) : (s.raise f o l t).pending = s.pending := (s.raise_quiet f o l t).pending
@[simp] theorem State.raise_shadow (s : State) (f : Fld) (o : Nat) (l : List Nat) (t : Bool) : (s.raise f o l t).shadow = s.shadow := (s.raise_quiet f o l t).shadow
@[simp] theorem State.raise_clk (s : State) (f : Fld) (o : Nat) (l : List Nat) (t : Bool) : (s.raise f o l t).clk = s.clk := (s.raise_quiet f o l t).clk
@[simp] theorem State.raise_servo (s : State) (f : Fld) (o : Nat) (l : List Nat) (t : Bool) : (s.raise f o l t).servo = s.servo := (s.raise_quiet f o l t).servo
@[simp] theorem State.raise_jobs (s : State) (f : Fld) (o : Nat) (l : List Nat) (t : Bool) : (s.raise f o l t).jobs = s.jobs := (s.raise_quiet f o l t).jobs
@[simp] theorem State.raise_act (s : State) (f : Fld) (o : Nat) (l : List Nat) (t : Bool) : (s.raise f o l t).act = s.act := (s.raise_quiet f o l t).act
@[simp] theorem State.raise_zh (s : State) (f : Fld) (o : Nat) (l : List Nat) (t : Bool) : (s.raise f o l t).zh = s.zh := (s.raise_quiet f o l t).zh
@[simp] theorem State.raise_sys (s : State) (f : Fld) (o : Nat) (l : List Nat) (t : Bool) : (s.raise f o l t).sys = s.sys := (s.raise_quiet f o l t).sys
@[simp] theorem State.raise_sec (s : State) (f : Fld) (o : Nat) (l : List Nat) (t : Bool) : (s.raise f o l t).sec = s.sec := (s.raise_quiet f o l t).sec
@[simp] theorem State.raise_waitWrites (s : State) (f : Fld) (o : Nat) (l : List Nat) (t : Bool) : (s.raise f o l t).waitWrites = s.waitWrites := (s.raise_quiet f o l t).waitWrites
@[simp] theorem State.raise_wlow (s : State) (f : Fld) (o : Nat) (l : List Nat) (t : Bool) : (s.raise f o l t).wlow = s.wlow := (s.raise_quiet f o l t).wlow
@[simp] theorem State.raise_stm (s : State) (f : Fld) (o : Nat) (l : List Nat) (t : Bool) : (s.raise f o l t).stm = s.stm := (s.raise_quiet f o l t).stm
@[simp] theorem State.raise_ice (s : State) (f : Fld) (o : Nat) (l : List Nat) (t : Bool) : (s.raise f o l t).ice = s.ice := (s.raise_quiet f o l t).ice
@[simp] theorem State.raise_tbl (s : State) (f : Fld) (o : Nat) (l : List Nat) (t : Bool) : (s.raise f o l t).tbl = s.tbl := (s.raise_quiet f o l t).tbl
@[simp] theorem State.raise_plan (s : State) (f : Fld) (o : Nat) (l : List Nat) (t : Bool) : (s.raise f o l t).plan = s.plan := (s.raise_quiet f o l t).plan
@[simp] theorem State.raise_field (s : State) (f : Fld) (o : Nat) (l : List Nat) (t : Bool) : (s.raise f o l t).field = s.field := (s.raise_quiet f o l t).field
@[simp] theorem State.raise_lop (s : State) (f : Fld) (o : Nat) (l : List Nat) (t : Bool) : (s.raise f o l t).lop = s.lop := (s.raise_quiet f o l t).lop
@[simp] theorem State.raise_acts (s : State) (f : Fld) (o : Nat) (l : List Nat) (t : Bool) : (s.raise f o l t).acts = s.acts := (s.raise_quiet f o l t).acts
@[simp] theorem State.raise_prt (s : State) (f : Fld) (o : Nat) (l : List Nat) (t : Bool) : (s.raise f o l t).prt = s.prt := (s.raise_quiet f o l t).prt
@[simp] theorem State.raise_can (s : State) (f : Fld) (o : Nat) (l : List Nat) (t : Bool) : (s.raise f o l t).can = s.can := (s.raise_quiet f o l t).can
@[simp] theorem State.raise_pair (s : State) (f : Fld) (o : Nat) (l : List Nat) (t : Bool) : (s.raise f o l t).pair = s.pair := (s.raise_quiet f o l t).pair
@[simp] theorem State.raise_lst (s : State) (f : Fld) (o : Nat) (l : List Nat) (t : Bool) : (s.raise f o l t).lst = s.lst := (s.raise_quiet f o l t).lst
@[simp] theorem State.raise_fed (s : State) (f : Fld) (o : Nat) (l : List Nat) (t : Bool) : (s.raise f o l t).fed = s.fed := (s.raise_quiet f o l t).fed
@[simp] theorem State.raise_dia (s : State) (f : Fld) (o : Nat) (l : List Nat) (t : Bool) : (s.raise f o l t).dia = s.dia := (s.raise_quiet f o l t).dia
@[simp] theorem State.raise_out (s : State) (f : Fld) (o : Nat) (l : List Nat) (t : Bool) : (s.raise f o l t).out = s.out := (s.raise_quiet f o l t).out
@[simp] theorem State.raise_fresh (s : State) (f : Fld) (o : Nat) (l : List Nat) (t : Bool) : (s.raise f o l t).fresh = s.fresh := (s.raise_quiet f o l t).fresh

/-! ### What `State.raiseEnd` leaves alone -/

@[simp] theorem State.raiseEnd_pending (s : State) (f : Fld) (o : Nat) (l : List Nat) : (s.raiseEnd f o l).pending = s.pending := (s.raiseEnd_quiet f o l).pending
@[simp] theorem State.raiseEnd_shadow (s : State) (f : Fld) (o : Nat) (l : List Nat) : (s.raiseEnd f o l).shadow = s.shadow := (s.raiseEnd_quiet f o l).shadow
@[simp] theorem State.raiseEnd_clk (s : State) (f : Fld) (o : Nat) (l : List Nat) : (s.raiseEnd f o l).clk = s.clk := (s.raiseEnd_quiet f o l).clk
@[simp] theorem State.raiseEnd_servo (s : State) (f : Fld) (o : Nat) (l : List Nat) : (s.raiseEnd f o l).servo = s.servo := (s.raiseEnd_quiet f o l).servo
@[simp] theorem State.raiseEnd_jobs (s : State) (f : Fld) (o : Nat) (l : List Nat) : (s.raiseEnd f o l).jobs = s.jobs := (s.raiseEnd_quiet f o l).jobs
@[simp] theorem State.raiseEnd_act (s : State) (f : Fld) (o : Nat) (l : List Nat) : (s.raiseEnd f o l).act = s.act := (s.raiseEnd_quiet f o l).act
@[simp] theorem State.raiseEnd_zh (s : State) (f : Fld) (o : Nat) (l : List Nat) : (s.raiseEnd f o l).zh = s.zh := (s.raiseEnd_quiet f o l).zh
@[simp] theorem State.raiseEnd_sys (s : State) (f : Fld) (o : Nat) (l : List Nat) : (s.raiseEnd f o l).sys = s.sys := (s.raiseEnd_quiet f o l).sys
@[simp] theorem State.raiseEnd_sec (s : State) (f : Fld) (o : Nat) (l : List Nat) : (s.raiseEnd f o l).sec = s.sec := (s.raiseEnd_quiet f o l).sec
@[simp] theorem State.raiseEnd_waitWrites (s : State) (f : Fld) (o : Nat) (l : List Nat) : (s.raiseEnd f o l).waitWrites = s.waitWrites := (s.raiseEnd_quiet f o l).waitWrites
@[simp] theorem State.raiseEnd_wlow (s : State) (f : Fld) (o : Nat) (l : List Nat) : (s.raiseEnd f o l).wlow = s.wlow := (s.raiseEnd_quiet f o l).wlow
@[simp] theorem State.raiseEnd_stm (s : State) (f : Fld) (o : Nat) (l : List Nat) : (s.raiseEnd f o l).stm = s.stm := (s.raiseEnd_quiet f o l).stm
@[simp] theorem State.raiseEnd_ice (s : State) (f : Fld) (o : Nat) (l : List Nat) : (s.raiseEnd f o l).ice = s.ice := (s.raiseEnd_quiet f o l).ice
@[simp] theorem State.raiseEnd_tbl (s : State) (f : Fld) (o : Nat) (l : List Nat) : (s.raiseEnd f o l).tbl = s.tbl := (s.raiseEnd_quiet f o l).tbl
@[simp] theorem State.raiseEnd_plan (s : State) (f : Fld) (o : Nat) (l : List Nat) : (s.raiseEnd f o l).plan = s.plan := (s.raiseEnd_quiet f o l).plan
@[simp] theorem State.raiseEnd_field (s : State) (f : Fld) (o : Nat) (l : List Nat) : (s.raiseEnd f o l).field = s.field := (s.raiseEnd_quiet f o l).field
@[simp] theorem State.raiseEnd_lop (s : State) (f : Fld) (o : Nat) (l : List Nat) : (s.raiseEnd f o l).lop = s.lop := (s.raiseEnd_quiet f o l).lop
@[simp] theorem State.raiseEnd_acts (s : State) (f : Fld) (o : Nat) (l : List Nat) : (s.raiseEnd f o l).acts = s.acts := (s.raiseEnd_quiet f o l).acts
@[simp] theorem State.raiseEnd_prt (s : State) (f : Fld) (o : Nat) (l : List Nat) : (s.raiseEnd f o l).prt = s.prt := (s.raiseEnd_quiet f o l).prt
@[simp] theorem State.raiseEnd_can (s : State) (f : Fld) (o : Nat) (l : List Nat) : (s.raiseEnd f o l).can = s.can := (s.raiseEnd_quiet f o l).can
@[simp] theorem State.raiseEnd_pair (s : State) (f : Fld) (o : Nat) (l : List Nat) : (s.raiseEnd f o l).pair = s.pair := (s.raiseEnd_quiet f o l).pair
@[simp] theorem State.raiseEnd_lst (s : State) (f : Fld) (o : Nat) (l : List Nat) : (s.raiseEnd f o l).lst = s.lst := (s.raiseEnd_quiet f o l).lst
@[simp] theorem State.raiseEnd_fed (s : State) (f : Fld) (o : Nat) (l : List Nat) : (s.raiseEnd f o l).fed = s.fed := (s.raiseEnd_quiet f o l).fed
@[simp] theorem State.raiseEnd_dia (s : State) (f : Fld) (o : Nat) (l : List Nat) : (s.raiseEnd f o l).dia = s.dia := (s.raiseEnd_quiet f o l).dia
@[simp] theorem State.raiseEnd_out (s : State) (f : Fld) (o : Nat) (l : List Nat) : (s.raiseEnd f o l).out = s.out := (s.raiseEnd_quiet f o l).out
@[simp] theorem State.raiseEnd_fresh (s : State) (f : Fld) (o : Nat) (l : List Nat) : (s.raiseEnd f o l).fresh = s.fresh := (s.raiseEnd_quiet f o l).fresh

end Sys2Proof.Machine
end

