-- ==== Sys2Proof/Laws/Keeps.lean ====
section
/-! SUPPORT. One relation that says what a part of a step may do (`Keeps`): the register file stays canonical, the queue of commands stays as it is,
what has been sent is only added to, free values are not used again, time does not go back, Firn keeps its order, and of the other parts of
the state only those named by a mask change. Bit i of the mask stands for a field, in the order of the structure. -/

namespace Sys2Proof.Machine

/-- What a part of a step may do between two states; the bits of `F` name the fields that may change. -/
structure Keeps (F : Nat) (s t : State) : Prop where
  wf : regsWf s.regs = true → regsWf t.regs = true
  pending : t.pending = s.pending
  freshLe : s.fresh ≤ t.fresh
  sent : s.out <:+ t.out
  now : s.clk.now ≤ t.clk.now
  firnStep : FirnStep s.firn t.firn
  servo : F ||| 1 = F ∨ t.servo = s.servo
  jobs : F ||| 2 = F ∨ t.jobs = s.jobs
  act : F ||| 4 = F ∨ t.act = s.act
  zh : F ||| 8 = F ∨ t.zh = s.zh
  sys : F ||| 16 = F ∨ t.sys = s.sys
  sec : F ||| 32 = F ∨ t.sec = s.sec
  waitWrites : F ||| 64 = F ∨ t.waitWrites = s.waitWrites
  wlow : F ||| 128 = F ∨ t.wlow = s.wlow
  stm : F ||| 256 = F ∨ t.stm = s.stm
  ice : F ||| 512 = F ∨ t.ice = s.ice
  tbl : F ||| 1024 = F ∨ t.tbl = s.tbl
  plan : F ||| 2048 = F ∨ t.plan = s.plan
  field : F ||| 4096 = F ∨ t.field = s.field
  lop : F ||| 8192 = F ∨ t.lop = s.lop
  acts : F ||| 16384 = F ∨ t.acts = s.acts
  prt : F ||| 32768 = F ∨ t.prt = s.prt
  can : F ||| 65536 = F ∨ t.can = s.can
  pair : F ||| 131072 = F ∨ t.pair = s.pair
  lst : F ||| 262144 = F ∨ t.lst = s.lst
  fed : F ||| 524288 = F ∨ t.fed = s.fed
  dia : F ||| 1048576 = F ∨ t.dia = s.dia
  shadow : F ||| 2097152 = F ∨ t.shadow = s.shadow
  clk : F ||| 4194304 = F ∨ t.clk = s.clk
  out : F ||| 8388608 = F ∨ t.out = s.out
  firn : F ||| 16777216 = F ∨ t.firn = s.firn
  regs : F ||| 33554432 = F ∨ t.regs = s.regs
  fresh : F ||| 67108864 = F ∨ t.fresh = s.fresh

theorem maskSub {F m n : Nat} (h : F ||| m = F) (k : m ||| n = m) : F ||| n = F := by
  rw [← h, ← k, Nat.or_assoc, Nat.or_assoc, Nat.or_self]

theorem FirnStep.refl (f : Firn) : FirnStep f f := fun h => ⟨h, le_rfl⟩

theorem FirnStep.trans {f g h : Firn} (x : FirnStep f g) (y : FirnStep g h) : FirnStep f h :=
  fun k => ⟨(y (x k).1).1, (x k).2.trans (y (x k).1).2⟩

/-- A change of Firn that leaves SEQ, LIMIT and the three areas alone. -/
theorem FirnStep.of_eq {f g : Firn} (h1 : g.seq = f.seq) (h2 : g.limit = f.limit) (h3 : g.first = f.first) (h4 : g.circ = f.circ)
    (h5 : g.ring = f.ring) : FirnStep f g :=
  fun k => ⟨⟨by rw [h1, h2]; exact k.limit, by rw [h1, h3]; exact k.first, by rw [h1, h4]; exact k.circ, by rw [h1, h5]; exact k.ring⟩, h1.ge⟩

theorem Keeps.refl (F : Nat) (s : State) : Keeps F s s :=
  ⟨id, rfl, le_rfl, List.suffix_rfl, le_rfl, FirnStep.refl _, .inr rfl, .inr rfl, .inr rfl, .inr rfl, .inr rfl, .inr rfl, .inr rfl, .inr rfl, .inr rfl, .inr rfl, .inr rfl, .inr rfl, .inr rfl, .inr rfl, .inr rfl, .inr rfl, .inr rfl, .inr rfl, .inr rfl, .inr rfl, .inr rfl, .inr rfl, .inr rfl, .inr rfl, .inr rfl, .inr rfl, .inr rfl⟩

theorem Keeps.orTrans {α : Type} {p : Prop} {x y z : α} (h : p ∨ y = x) (k : p ∨ z = y) : p ∨ z = x := by
  rcases h with h | h
  · exact .inl h
  · rcases k with k | k
    · exact .inl k
    · exact .inr (k.trans h)

theorem Keeps.trans {F : Nat} {a b c : State} (h : Keeps F a b) (k : Keeps F b c) : Keeps F a c :=
  ⟨fun x => k.wf (h.wf x), k.pending.trans h.pending, h.freshLe.trans k.freshLe, h.sent.trans k.sent, h.now.trans k.now, h.firnStep.trans k.firnStep,
   Keeps.orTrans h.servo k.servo, Keeps.orTrans h.jobs k.jobs, Keeps.orTrans h.act k.act, Keeps.orTrans h.zh k.zh, Keeps.orTrans
   h.sys k.sys, Keeps.orTrans h.sec k.sec, Keeps.orTrans h.waitWrites k.waitWrites, Keeps.orTrans h.wlow k.wlow, Keeps.orTrans h.stm
   k.stm, Keeps.orTrans h.ice k.ice, Keeps.orTrans h.tbl k.tbl, Keeps.orTrans h.plan k.plan, Keeps.orTrans h.field k.field,
   Keeps.orTrans h.lop k.lop, Keeps.orTrans h.acts k.acts, Keeps.orTrans h.prt k.prt, Keeps.orTrans h.can k.can, Keeps.orTrans h.pair
   k.pair, Keeps.orTrans h.lst k.lst, Keeps.orTrans h.fed k.fed, Keeps.orTrans h.dia k.dia, Keeps.orTrans h.shadow k.shadow,
   Keeps.orTrans h.clk k.clk, Keeps.orTrans h.out k.out, Keeps.orTrans h.firn k.firn, Keeps.orTrans h.regs k.regs, Keeps.orTrans
   h.fresh k.fresh⟩

/-- One change after others. -/
theorem Keeps.upd {F : Nat} {a s t : State} (h : Keeps F a s) (wf : regsWf s.regs = true → regsWf t.regs = true) (pending : t.pending = s.pending)
    (freshLe : s.fresh ≤ t.fresh) (sent : s.out <:+ t.out) (now : s.clk.now ≤ t.clk.now) (firnStep : FirnStep s.firn t.firn)
    (servo : F ||| 1 = F ∨ t.servo = s.servo) (jobs : F ||| 2 = F ∨ t.jobs = s.jobs) (act : F ||| 4 = F ∨ t.act = s.act) (zh : F ||| 8 = F ∨ t.zh = s.zh)
    (sys : F ||| 16 = F ∨ t.sys = s.sys) (sec : F ||| 32 = F ∨ t.sec = s.sec) (waitWrites : F ||| 64 = F ∨ t.waitWrites = s.waitWrites)
    (wlow : F ||| 128 = F ∨ t.wlow = s.wlow) (stm : F ||| 256 = F ∨ t.stm = s.stm) (ice : F ||| 512 = F ∨ t.ice = s.ice)
    (tbl : F ||| 1024 = F ∨ t.tbl = s.tbl) (plan : F ||| 2048 = F ∨ t.plan = s.plan) (field : F ||| 4096 = F ∨ t.field = s.field)
    (lop : F ||| 8192 = F ∨ t.lop = s.lop) (acts : F ||| 16384 = F ∨ t.acts = s.acts) (prt : F ||| 32768 = F ∨ t.prt = s.prt)
    (can : F ||| 65536 = F ∨ t.can = s.can) (pair : F ||| 131072 = F ∨ t.pair = s.pair) (lst : F ||| 262144 = F ∨ t.lst = s.lst)
    (fed : F ||| 524288 = F ∨ t.fed = s.fed) (dia : F ||| 1048576 = F ∨ t.dia = s.dia) (shadow : F ||| 2097152 = F ∨ t.shadow = s.shadow)
    (clk : F ||| 4194304 = F ∨ t.clk = s.clk) (out : F ||| 8388608 = F ∨ t.out = s.out) (firn : F ||| 16777216 = F ∨ t.firn = s.firn)
    (regs : F ||| 33554432 = F ∨ t.regs = s.regs) (fresh : F ||| 67108864 = F ∨ t.fresh = s.fresh) : Keeps F a t :=
  h.trans ⟨wf, pending, freshLe, sent, now, firnStep, servo, jobs, act, zh, sys, sec, waitWrites, wlow, stm, ice, tbl, plan, field, lop, acts, prt, can, pair, lst, fed, dia, shadow, clk, out, firn, regs, fresh⟩

theorem Keeps.upd_servo {F : Nat} {a s : State} {x : Servo} (hF : F ||| 1 = F) (h : Keeps F a s) : Keeps F a { s with servo := x } :=
  h.trans ⟨id, rfl, le_rfl, List.suffix_rfl, le_rfl, FirnStep.refl _, .inl hF, .inr rfl, .inr rfl, .inr rfl, .inr rfl, .inr rfl, .inr rfl, .inr rfl, .inr rfl, .inr rfl, .inr rfl, .inr rfl, .inr rfl, .inr rfl, .inr rfl, .inr rfl, .inr rfl, .inr rfl, .inr rfl, .inr rfl, .inr rfl, .inr rfl, .inr rfl, .inr rfl, .inr rfl, .inr rfl, .inr rfl⟩
theorem Keeps.upd_jobs {F : Nat} {a s : State} {x : Tab Job} (hF : F ||| 2 = F) (h : Keeps F a s) : Keeps F a { s with jobs := x } :=
  h.trans ⟨id, rfl, le_rfl, List.suffix_rfl, le_rfl, FirnStep.refl _, .inr rfl, .inl hF, .inr rfl, .inr rfl, .inr rfl, .inr rfl, .inr rfl, .inr rfl, .inr rfl, .inr rfl, .inr rfl, .inr rfl, .inr rfl, .inr rfl, .inr rfl, .inr rfl, .inr rfl, .inr rfl, .inr rfl, .inr rfl, .inr rfl, .inr rfl, .inr rfl, .inr rfl, .inr rfl, .inr rfl, .inr rfl⟩
theorem Keeps.upd_act {F : Nat} {a s : State} {x : Actions} (hF : F ||| 4 = F) (h : Keeps F a s) : Keeps F a { s with act := x } :=
  h.trans ⟨id, rfl, le_rfl, List.suffix_rfl, le_rfl, FirnStep.refl _, .inr rfl, .inr rfl, .inl hF, .inr rfl, .inr rfl, .inr rfl, .inr rfl, .inr rfl, .inr rfl, .inr rfl, .inr rfl, .inr rfl, .inr rfl, .inr rfl, .inr rfl, .inr rfl, .inr rfl, .inr rfl, .inr rfl, .inr rfl, .inr rfl, .inr rfl, .inr rfl, .inr rfl, .inr rfl, .inr rfl, .inr rfl⟩
theorem Keeps.upd_zh {F : Nat} {a s : State} {x : Zhoide} (hF : F ||| 8 = F) (h : Keeps F a s) : Keeps F a { s with zh := x } :=
  h.trans ⟨id, rfl, le_rfl, List.suffix_rfl, le_rfl, FirnStep.refl _, .inr rfl, .inr rfl, .inr rfl, .inl hF, .inr rfl, .inr rfl, .inr rfl, .inr rfl, .inr rfl, .inr rfl, .inr rfl, .inr rfl, .inr rfl, .inr rfl, .inr rfl, .inr rfl, .inr rfl, .inr rfl, .inr rfl, .inr rfl, .inr rfl, .inr rfl, .inr rfl, .inr rfl, .inr rfl, .inr rfl, .inr rfl⟩
theorem Keeps.upd_sys {F : Nat} {a s : State} {x : Sys} (hF : F ||| 16 = F) (h : Keeps F a s) : Keeps F a { s with sys := x } :=
  h.trans ⟨id, rfl, le_rfl, List.suffix_rfl, le_rfl, FirnStep.refl _, .inr rfl, .inr rfl, .inr rfl, .inr rfl, .inl hF, .inr rfl, .inr rfl, .inr rfl, .inr rfl, .inr rfl, .inr rfl, .inr rfl, .inr rfl, .inr rfl, .inr rfl, .inr rfl, .inr rfl, .inr rfl, .inr rfl, .inr rfl, .inr rfl, .inr rfl, .inr rfl, .inr rfl, .inr rfl, .inr rfl, .inr rfl⟩
theorem Keeps.upd_sec {F : Nat} {a s : State} {x : Sec} (hF : F ||| 32 = F) (h : Keeps F a s) : Keeps F a { s with sec := x } :=
  h.trans ⟨id, rfl, le_rfl, List.suffix_rfl, le_rfl, FirnStep.refl _, .inr rfl, .inr rfl, .inr rfl, .inr rfl, .inr rfl, .inl hF, .inr rfl, .inr rfl, .inr rfl, .inr rfl, .inr rfl, .inr rfl, .inr rfl, .inr rfl, .inr rfl, .inr rfl, .inr rfl, .inr rfl, .inr rfl, .inr rfl, .inr rfl, .inr rfl, .inr rfl, .inr rfl, .inr rfl, .inr rfl, .inr rfl⟩
theorem Keeps.upd_waitWrites {F : Nat} {a s : State} {x : List SeracWrite} (hF : F ||| 64 = F) (h : Keeps F a s) : Keeps F a { s with waitWrites := x } :=
  h.trans ⟨id, rfl, le_rfl, List.suffix_rfl, le_rfl, FirnStep.refl _, .inr rfl, .inr rfl, .inr rfl, .inr rfl, .inr rfl, .inr rfl, .inl hF, .inr rfl, .inr rfl, .inr rfl, .inr rfl, .inr rfl, .inr rfl, .inr rfl, .inr rfl, .inr rfl, .inr rfl, .inr rfl, .inr rfl, .inr rfl, .inr rfl, .inr rfl, .inr rfl, .inr rfl, .inr rfl, .inr rfl, .inr rfl⟩
theorem Keeps.upd_wlow {F : Nat} {a s : State} {x : Tab Word} (hF : F ||| 128 = F) (h : Keeps F a s) : Keeps F a { s with wlow := x } :=
  h.trans ⟨id, rfl, le_rfl, List.suffix_rfl, le_rfl, FirnStep.refl _, .inr rfl, .inr rfl, .inr rfl, .inr rfl, .inr rfl, .inr rfl, .inr rfl, .inl hF, .inr rfl, .inr rfl, .inr rfl, .inr rfl, .inr rfl, .inr rfl, .inr rfl, .inr rfl, .inr rfl, .inr rfl, .inr rfl, .inr rfl, .inr rfl, .inr rfl, .inr rfl, .inr rfl, .inr rfl, .inr rfl, .inr rfl⟩
theorem Keeps.upd_stm {F : Nat} {a s : State} {x : Streams} (hF : F ||| 256 = F) (h : Keeps F a s) : Keeps F a { s with stm := x } :=
  h.trans ⟨id, rfl, le_rfl, List.suffix_rfl, le_rfl, FirnStep.refl _, .inr rfl, .inr rfl, .inr rfl, .inr rfl, .inr rfl, .inr rfl, .inr rfl, .inr rfl, .inl hF, .inr rfl, .inr rfl, .inr rfl, .inr rfl, .inr rfl, .inr rfl, .inr rfl, .inr rfl, .inr rfl, .inr rfl, .inr rfl, .inr rfl, .inr rfl, .inr rfl, .inr rfl, .inr rfl, .inr rfl, .inr rfl⟩
theorem Keeps.upd_ice {F : Nat} {a s : State} {x : Icefield} (hF : F ||| 512 = F) (h : Keeps F a s) : Keeps F a { s with ice := x } :=
  h.trans ⟨id, rfl, le_rfl, List.suffix_rfl, le_rfl, FirnStep.refl _, .inr rfl, .inr rfl, .inr rfl, .inr rfl, .inr rfl, .inr rfl, .inr rfl, .inr rfl, .inr rfl, .inl hF, .inr rfl, .inr rfl, .inr rfl, .inr rfl, .inr rfl, .inr rfl, .inr rfl, .inr rfl, .inr rfl, .inr rfl, .inr rfl, .inr rfl, .inr rfl, .inr rfl, .inr rfl, .inr rfl, .inr rfl⟩
theorem Keeps.upd_tbl {F : Nat} {a s : State} {x : Tables} (hF : F ||| 1024 = F) (h : Keeps F a s) : Keeps F a { s with tbl := x } :=
  h.trans ⟨id, rfl, le_rfl, List.suffix_rfl, le_rfl, FirnStep.refl _, .inr rfl, .inr rfl, .inr rfl, .inr rfl, .inr rfl, .inr rfl, .inr rfl, .inr rfl, .inr rfl, .inr rfl, .inl hF, .inr rfl, .inr rfl, .inr rfl, .inr rfl, .inr rfl, .inr rfl, .inr rfl, .inr rfl, .inr rfl, .inr rfl, .inr rfl, .inr rfl, .inr rfl, .inr rfl, .inr rfl, .inr rfl⟩
theorem Keeps.upd_plan {F : Nat} {a s : State} {x : Plan} (hF : F ||| 2048 = F) (h : Keeps F a s) : Keeps F a { s with plan := x } :=
  h.trans ⟨id, rfl, le_rfl, List.suffix_rfl, le_rfl, FirnStep.refl _, .inr rfl, .inr rfl, .inr rfl, .inr rfl, .inr rfl, .inr rfl, .inr rfl, .inr rfl, .inr rfl, .inr rfl, .inr rfl, .inl hF, .inr rfl, .inr rfl, .inr rfl, .inr rfl, .inr rfl, .inr rfl, .inr rfl, .inr rfl, .inr rfl, .inr rfl, .inr rfl, .inr rfl, .inr rfl, .inr rfl, .inr rfl⟩
theorem Keeps.upd_field {F : Nat} {a s : State} {x : FieldIn} (hF : F ||| 4096 = F) (h : Keeps F a s) : Keeps F a { s with field := x } :=
  h.trans ⟨id, rfl, le_rfl, List.suffix_rfl, le_rfl, FirnStep.refl _, .inr rfl, .inr rfl, .inr rfl, .inr rfl, .inr rfl, .inr rfl, .inr rfl, .inr rfl, .inr rfl, .inr rfl, .inr rfl, .inr rfl, .inl hF, .inr rfl, .inr rfl, .inr rfl, .inr rfl, .inr rfl, .inr rfl, .inr rfl, .inr rfl, .inr rfl, .inr rfl, .inr rfl, .inr rfl, .inr rfl, .inr rfl⟩
theorem Keeps.upd_lop {F : Nat} {a s : State} {x : LoopEng} (hF : F ||| 8192 = F) (h : Keeps F a s) : Keeps F a { s with lop := x } :=
  h.trans ⟨id, rfl, le_rfl, List.suffix_rfl, le_rfl, FirnStep.refl _, .inr rfl, .inr rfl, .inr rfl, .inr rfl, .inr rfl, .inr rfl, .inr rfl, .inr rfl, .inr rfl, .inr rfl, .inr rfl, .inr rfl, .inr rfl, .inl hF, .inr rfl, .inr rfl, .inr rfl, .inr rfl, .inr rfl, .inr rfl, .inr rfl, .inr rfl, .inr rfl, .inr rfl, .inr rfl, .inr rfl, .inr rfl⟩
theorem Keeps.upd_acts {F : Nat} {a s : State} {x : Acts} (hF : F ||| 16384 = F) (h : Keeps F a s) : Keeps F a { s with acts := x } :=
  h.trans ⟨id, rfl, le_rfl, List.suffix_rfl, le_rfl, FirnStep.refl _, .inr rfl, .inr rfl, .inr rfl, .inr rfl, .inr rfl, .inr rfl, .inr rfl, .inr rfl, .inr rfl, .inr rfl, .inr rfl, .inr rfl, .inr rfl, .inr rfl, .inl hF, .inr rfl, .inr rfl, .inr rfl, .inr rfl, .inr rfl, .inr rfl, .inr rfl, .inr rfl, .inr rfl, .inr rfl, .inr rfl, .inr rfl⟩
theorem Keeps.upd_prt {F : Nat} {a s : State} {x : Prot} (hF : F ||| 32768 = F) (h : Keeps F a s) : Keeps F a { s with prt := x } :=
  h.trans ⟨id, rfl, le_rfl, List.suffix_rfl, le_rfl, FirnStep.refl _, .inr rfl, .inr rfl, .inr rfl, .inr rfl, .inr rfl, .inr rfl, .inr rfl, .inr rfl, .inr rfl, .inr rfl, .inr rfl, .inr rfl, .inr rfl, .inr rfl, .inr rfl, .inl hF, .inr rfl, .inr rfl, .inr rfl, .inr rfl, .inr rfl, .inr rfl, .inr rfl, .inr rfl, .inr rfl, .inr rfl, .inr rfl⟩
theorem Keeps.upd_can {F : Nat} {a s : State} {x : Can} (hF : F ||| 65536 = F) (h : Keeps F a s) : Keeps F a { s with can := x } :=
  h.trans ⟨id, rfl, le_rfl, List.suffix_rfl, le_rfl, FirnStep.refl _, .inr rfl, .inr rfl, .inr rfl, .inr rfl, .inr rfl, .inr rfl, .inr rfl, .inr rfl, .inr rfl, .inr rfl, .inr rfl, .inr rfl, .inr rfl, .inr rfl, .inr rfl, .inr rfl, .inl hF, .inr rfl, .inr rfl, .inr rfl, .inr rfl, .inr rfl, .inr rfl, .inr rfl, .inr rfl, .inr rfl, .inr rfl⟩
theorem Keeps.upd_pair {F : Nat} {a s : State} {x : Pair} (hF : F ||| 131072 = F) (h : Keeps F a s) : Keeps F a { s with pair := x } :=
  h.trans ⟨id, rfl, le_rfl, List.suffix_rfl, le_rfl, FirnStep.refl _, .inr rfl, .inr rfl, .inr rfl, .inr rfl, .inr rfl, .inr rfl, .inr rfl, .inr rfl, .inr rfl, .inr rfl, .inr rfl, .inr rfl, .inr rfl, .inr rfl, .inr rfl, .inr rfl, .inr rfl, .inl hF, .inr rfl, .inr rfl, .inr rfl, .inr rfl, .inr rfl, .inr rfl, .inr rfl, .inr rfl, .inr rfl⟩
theorem Keeps.upd_lst {F : Nat} {a s : State} {x : LockStep} (hF : F ||| 262144 = F) (h : Keeps F a s) : Keeps F a { s with lst := x } :=
  h.trans ⟨id, rfl, le_rfl, List.suffix_rfl, le_rfl, FirnStep.refl _, .inr rfl, .inr rfl, .inr rfl, .inr rfl, .inr rfl, .inr rfl, .inr rfl, .inr rfl, .inr rfl, .inr rfl, .inr rfl, .inr rfl, .inr rfl, .inr rfl, .inr rfl, .inr rfl, .inr rfl, .inr rfl, .inl hF, .inr rfl, .inr rfl, .inr rfl, .inr rfl, .inr rfl, .inr rfl, .inr rfl, .inr rfl⟩
theorem Keeps.upd_fed {F : Nat} {a s : State} {x : Fed} (hF : F ||| 524288 = F) (h : Keeps F a s) : Keeps F a { s with fed := x } :=
  h.trans ⟨id, rfl, le_rfl, List.suffix_rfl, le_rfl, FirnStep.refl _, .inr rfl, .inr rfl, .inr rfl, .inr rfl, .inr rfl, .inr rfl, .inr rfl, .inr rfl, .inr rfl, .inr rfl, .inr rfl, .inr rfl, .inr rfl, .inr rfl, .inr rfl, .inr rfl, .inr rfl, .inr rfl, .inr rfl, .inl hF, .inr rfl, .inr rfl, .inr rfl, .inr rfl, .inr rfl, .inr rfl, .inr rfl⟩
theorem Keeps.upd_dia {F : Nat} {a s : State} {x : Dia} (hF : F ||| 1048576 = F) (h : Keeps F a s) : Keeps F a { s with dia := x } :=
  h.trans ⟨id, rfl, le_rfl, List.suffix_rfl, le_rfl, FirnStep.refl _, .inr rfl, .inr rfl, .inr rfl, .inr rfl, .inr rfl, .inr rfl, .inr rfl, .inr rfl, .inr rfl, .inr rfl, .inr rfl, .inr rfl, .inr rfl, .inr rfl, .inr rfl, .inr rfl, .inr rfl, .inr rfl, .inr rfl, .inr rfl, .inl hF, .inr rfl, .inr rfl, .inr rfl, .inr rfl, .inr rfl, .inr rfl⟩
theorem Keeps.upd_shadow {F : Nat} {a s : State} {x : Tab Word} (hF : F ||| 2097152 = F) (h : Keeps F a s) : Keeps F a { s with shadow := x } :=
  h.trans ⟨id, rfl, le_rfl, List.suffix_rfl, le_rfl, FirnStep.refl _, .inr rfl, .inr rfl, .inr rfl, .inr rfl, .inr rfl, .inr rfl, .inr rfl, .inr rfl, .inr rfl, .inr rfl, .inr rfl, .inr rfl, .inr rfl, .inr rfl, .inr rfl, .inr rfl, .inr rfl, .inr rfl, .inr rfl, .inr rfl, .inr rfl, .inl hF, .inr rfl, .inr rfl, .inr rfl, .inr rfl, .inr rfl⟩
theorem Keeps.upd_clk {F : Nat} {a s : State} {x : Clock} (hF : F ||| 4194304 = F) (k : s.clk.now ≤ x.now) (h : Keeps F a s) : Keeps F a { s with clk := x } :=
  h.trans ⟨id, rfl, le_rfl, List.suffix_rfl, k, FirnStep.refl _, .inr rfl, .inr rfl, .inr rfl, .inr rfl, .inr rfl, .inr rfl, .inr rfl, .inr rfl, .inr rfl, .inr rfl, .inr rfl, .inr rfl, .inr rfl, .inr rfl, .inr rfl, .inr rfl, .inr rfl, .inr rfl, .inr rfl, .inr rfl, .inr rfl, .inr rfl, .inl hF, .inr rfl, .inr rfl, .inr rfl, .inr rfl⟩
theorem Keeps.upd_firn {F : Nat} {a s : State} {x : Firn} (hF : F ||| 16777216 = F) (k : FirnStep s.firn x) (h : Keeps F a s) : Keeps F a { s with firn := x } :=
  h.trans ⟨id, rfl, le_rfl, List.suffix_rfl, le_rfl, k, .inr rfl, .inr rfl, .inr rfl, .inr rfl, .inr rfl, .inr rfl, .inr rfl, .inr rfl, .inr rfl, .inr rfl, .inr rfl, .inr rfl, .inr rfl, .inr rfl, .inr rfl, .inr rfl, .inr rfl, .inr rfl, .inr rfl, .inr rfl, .inr rfl, .inr rfl, .inr rfl, .inr rfl, .inl hF, .inr rfl, .inr rfl⟩
theorem Keeps.upd_regs {F : Nat} {a s : State} {x : List (Nat × Word)} (hF : F ||| 33554432 = F) (k : regsWf s.regs = true → regsWf x = true) (h : Keeps F a s) : Keeps F a { s with regs := x } :=
  h.trans ⟨k, rfl, le_rfl, List.suffix_rfl, le_rfl, FirnStep.refl _, .inr rfl, .inr rfl, .inr rfl, .inr rfl, .inr rfl, .inr rfl, .inr rfl, .inr rfl, .inr rfl, .inr rfl, .inr rfl, .inr rfl, .inr rfl, .inr rfl, .inr rfl, .inr rfl, .inr rfl, .inr rfl, .inr rfl, .inr rfl, .inr rfl, .inr rfl, .inr rfl, .inr rfl, .inr rfl, .inl hF, .inr rfl⟩
theorem Keeps.upd_out {F : Nat} {a s : State} {x : List Out} (hF : F ||| 8388608 = F) (k : s.out <:+ x) (h : Keeps F a s) : Keeps F a { s with out := x } :=
  h.trans ⟨id, rfl, le_rfl, k, le_rfl, FirnStep.refl _, .inr rfl, .inr rfl, .inr rfl, .inr rfl, .inr rfl, .inr rfl, .inr rfl, .inr rfl, .inr rfl, .inr rfl, .inr rfl, .inr rfl, .inr rfl, .inr rfl, .inr rfl, .inr rfl, .inr rfl, .inr rfl, .inr rfl, .inr rfl, .inr rfl, .inr rfl, .inr rfl, .inl hF, .inr rfl, .inr rfl, .inr rfl⟩
theorem Keeps.upd_fresh {F : Nat} {a s : State} {x : Nat} (hF : F ||| 67108864 = F) (k : s.fresh ≤ x) (h : Keeps F a s) : Keeps F a { s with fresh := x } :=
  h.trans ⟨id, rfl, k, List.suffix_rfl, le_rfl, FirnStep.refl _, .inr rfl, .inr rfl, .inr rfl, .inr rfl, .inr rfl, .inr rfl, .inr rfl, .inr rfl, .inr rfl, .inr rfl, .inr rfl, .inr rfl, .inr rfl, .inr rfl, .inr rfl, .inr rfl, .inr rfl, .inr rfl, .inr rfl, .inr rfl, .inr rfl, .inr rfl, .inr rfl, .inr rfl, .inr rfl, .inr rfl, .inl hF⟩

/-! ### Ways to a state -/

theorem Keeps.ite {F : Nat} {a : State} {c : Prop} [Decidable c] {t f : State} (ht : Keeps F a t) (hf : Keeps F a f) :
    Keeps F a (if c then t else f) := by
  split
  · exact ht
  · exact hf

theorem Keeps.foldl {F : Nat} {a : State} {α : Type} {f : State → α → State} {l : List α} {s : State} (hs : Keeps F a s)
    (hf : ∀ t x, Keeps F a t → Keeps F a (f t x)) : Keeps F a (l.foldl f s) := by
  induction l generalizing s with
  | nil => exact hs
  | cons x l ih => exact ih (hf s x hs)

/-- A fold over a state and more, seen through `p`. -/
theorem Keeps.foldlOn {F : Nat} {a : State} {α β : Type} (p : β → State) {f : β → α → β} {l : List α} {b : β} (hs : Keeps F a (p b))
    (hf : ∀ t x, Keeps F a (p t) → Keeps F a (p (f t x))) : Keeps F a (p (l.foldl f b)) := by
  induction l generalizing b with
  | nil => exact hs
  | cons x l ih => exact ih (hf b x hs)

theorem Keeps.elim {F : Nat} {a : State} {α : Type} {f : α → State} {o : Option α} {s : State} (hs : Keeps F a s)
    (hf : ∀ x, Keeps F a (f x)) : Keeps F a (o.elim s f) := by
  cases o
  · exact hs
  · exact hf _

theorem Keeps.p1 {F : Nat} {a s : State} {β : Type} {y : β} (h : Keeps F a s) : Keeps F a (s, y).1 := h
theorem Keeps.p2 {F : Nat} {a s : State} {β : Type} {y : β} (h : Keeps F a s) : Keeps F a (y, s).2 := h
theorem Keeps.p21 {F : Nat} {a s : State} {β γ : Type} {y : β} {z : γ} (h : Keeps F a s) : Keeps F a (y, s, z).2.1 := h
theorem Keeps.run {F : Nat} {a s : State} {n u d : Nat} {e : Bool} (h : Keeps F a s) : Keeps F a (WriteRun.mk s n u d e).state := h

theorem Keeps.of1 {F : Nat} {a s : State} {β : Type} {p : State × β} {y : β} (e : p = (s, y)) (h : Keeps F a p.1) : Keeps F a s := by
  rw [e] at h
  exact h

theorem Keeps.of2 {F : Nat} {a s : State} {β : Type} {p : β × State} {y : β} (e : p = (y, s)) (h : Keeps F a p.2) : Keeps F a s := by
  rw [e] at h
  exact h

/-- What a part that may give no state may do. -/
def KeepsOpt (F : Nat) (a : State) (o : Option State) : Prop := ∀ t, o = some t → Keeps F a t

theorem KeepsOpt.of {F : Nat} {a t : State} {o : Option State} (e : o = some t) (h : KeepsOpt F a o) : Keeps F a t := h t e
theorem KeepsOpt.some {F : Nat} {a t : State} (h : Keeps F a t) : KeepsOpt F a (some t) := fun _ e => Option.some.inj e ▸ h
theorem KeepsOpt.none {F : Nat} {a : State} : KeepsOpt F a none := fun _ e => nomatch e
theorem KeepsOpt.map {F : Nat} {a : State} {α : Type} {f : α → State} {o : Option α} (h : ∀ x, Keeps F a (f x)) : KeepsOpt F a (o.map f) := by
  cases o
  · exact KeepsOpt.none
  · exact KeepsOpt.some (h _)

/-! ### Requests -/

/-- What the execution of a judged request may do. -/
def JudgeKeeps (F : Nat) (a : State) (j : Judge) : Prop := ∀ k t, Keeps F a t → Keeps F a (j.run k t).1

theorem JudgeKeeps.mk {F : Nat} {a : State} {code : Nat} {needMain : Bool} {bad : Option (Nat × Nat)} {role owner : Option Nat} {legal : Nat}
    {barred busy : Bool} {uses : List Nat} {run : Nat → State → State × Reply} (h : ∀ k t, Keeps F a t → Keeps F a (run k t).1) :
    JudgeKeeps F a ⟨code, needMain, bad, role, owner, legal, barred, busy, uses, run⟩ := h

end Sys2Proof.Machine
end

