-- ==== Sys2Proof/Laws/KeepsFirn.lean ====
section
/-! SUPPORT. What Firn may do in a step, as `Keeps` asks for it, and the free values that a run of Icefield draws. -/

namespace Sys2Proof.Machine
theorem cleared_sub (areas bit point : Nat) (l : List FirnRec) : ∀ r ∈ cleared areas bit point l, r ∈ l := by
  intro r hr
  unfold cleared at hr
  split at hr
  · exact (List.mem_filter.mp hr).1
  · exact hr

/-- A clear of areas (R564) keeps Firn's order. -/
theorem FirnStep.clear {f : Firn} {areas point m : Nat} {c : Option (Nat × Nat)} :
    FirnStep f { f with first := cleared areas 0 point f.first, circ := cleared areas 1 point f.circ,
                        ring := cleared areas 2 point f.ring, clear := c, mirror := m } :=
  fun k => ⟨⟨k.limit, fun r hr => k.first r (cleared_sub _ _ _ _ r hr), fun r hr => k.circ r (cleared_sub _ _ _ _ r hr),
    fun r hr => k.ring r (cleared_sub _ _ _ _ r hr)⟩, le_rfl⟩

/-- A copy into the ring (R557) keeps Firn's order. -/
theorem FirnStep.mirrored {f : Firn} {l : List FirnRec} {n m : Nat} (h : ∀ r ∈ l, r ∈ f.circ) :
    FirnStep f { f with ring := (l ++ f.ring).take n, mirror := m } :=
  fun k => ⟨⟨k.limit, k.first, k.circ, fun r hr => by
    rcases List.mem_append.mp (List.mem_of_mem_take hr) with hr | hr
    · exact k.circ r (h r hr)
    · exact k.ring r hr⟩, le_rfl⟩

/-- A record written under the next SEQ (R550, R555, R556) keeps Firn's order. -/
theorem FirnStep.written {f : Firn} {r : FirnRec} {n : Nat} {b : Bool} {l : List (Nat × Nat)} (h : r.seq = f.seq) :
    FirnStep f { f with seq := f.seq + 1, limit := if f.seq = f.limit then f.limit + 65536 else f.limit,
                        first := if b then r :: f.first else f.first, circ := (r :: f.circ).take n, recent := l } := by
  intro k
  refine ⟨⟨?_, ?_, ?_, fun x hx => Nat.lt_succ_of_lt (k.ring x hx)⟩, Nat.le_succ _⟩
  · have := k.limit
    dsimp only
    split <;> omega
  · intro x hx
    dsimp only at hx ⊢
    split at hx
    · rcases List.mem_cons.mp hx with rfl | hx
      · omega
      · exact Nat.lt_succ_of_lt (k.first x hx)
    · exact Nat.lt_succ_of_lt (k.first x hx)
  · intro x hx
    dsimp only at hx ⊢
    rcases List.mem_cons.mp (List.mem_of_mem_take hx) with rfl | hx
    · omega
    · exact Nat.lt_succ_of_lt (k.circ x hx)

/-- A loss of logic power (R550, R554, R556): SEQ goes on at LIMIT. -/
theorem FirnStep.lost {f g : Firn} {p : FirnRec → Bool} (h1 : g.seq = f.limit) (h2 : g.limit = f.limit) (h3 : g.first = f.first.filter p)
    (h4 : g.circ = []) (h5 : g.ring = []) : FirnStep f g := by
  intro k
  refine ⟨⟨by rw [h1, h2], ?_, ?_, ?_⟩, h1 ▸ k.limit⟩
  · intro r hr
    rw [h3] at hr
    rw [h1]
    exact lt_of_lt_of_le (k.first r (List.mem_filter.mp hr).1) k.limit
  · simp [h4]
  · simp [h5]

/-! ### Free values drawn by a run -/

theorem foldl_free {β : Type} {n : Nat} {f : RunSt → β → RunSt} (l : List β) (r : RunSt) (h : n ≤ r.out.free)
    (hf : ∀ r x, n ≤ r.out.free → n ≤ (f r x).out.free) : n ≤ (l.foldl f r).out.free := by
  induction l generalizing r with
  | nil => exact h
  | cons x l ih => exact ih _ (hf r x h)

theorem RunSt.write_free (r : RunSt) (v : RunEnv) (k lt : Nat) (d : List Nat) (x : Rows) (b : Bool) : (r.write v k lt d x b).out.free = r.out.free := by
  unfold RunSt.write
  dsimp only
  split
  · rfl
  · split <;> rfl

theorem RunSt.loosen_free (r : RunSt) (v : RunEnv) (x : Rows) : r.out.free ≤ (r.loosen v x).1.out.free := by
  unfold RunSt.loosen
  split
  · exact le_rfl
  · exact Nat.le_add_right _ _

theorem stageGather_free (v : RunEnv) (k lt : Nat) (d : List Nat) (r : RunSt) : r.out.free ≤ (stageGather v k lt d r).out.free := by
  unfold stageGather
  dsimp only
  split
  · rw [RunSt.write_free]
  · rw [RunSt.write_free]
    refine le_trans ?_ (RunSt.loosen_free _ _ _)
    exact le_rfl

theorem stageMma_free (v : RunEnv) (k lt : Nat) (d : List Nat) (r : RunSt) : r.out.free ≤ (stageMma v k lt d r).out.free :=
  (RunSt.loosen_free r v _).trans (RunSt.write_free _ _ _ _ _ _ _).ge

theorem stageReduce_free (v : RunEnv) (k lt : Nat) (d : List Nat) (r : RunSt) : r.out.free ≤ (stageReduce v k lt d r).out.free := by
  unfold stageReduce
  dsimp only
  split <;> exact (RunSt.write_free _ _ _ _ _ _ _).ge

theorem stageScatter_free (v : RunEnv) (k lt : Nat) (d : List Nat) (r : RunSt) : r.out.free ≤ (stageScatter v k lt d r).out.free := by
  unfold stageScatter
  extract_lets t idx src blocks
  refine foldl_free _ _ le_rfl ?_
  intro q x h
  dsimp only
  split
  · exact h
  · split <;> exact h

theorem emitElem_free (v : RunEnv) (d : List Nat) (r : RunOut) (i : Nat) (t : Option Nat) (n : Option Num) : (emitElem v d r i t n).free = r.free := by
  unfold emitElem
  extract_lets scale p
  split
  · split
    · rfl
    · split
      · rfl
      · dsimp only
        split <;> rfl
  · split
    · rfl
    · split <;> rfl
  · split <;> rfl
  · split <;> rfl
  · split <;> rfl

theorem stageEmit_free (v : RunEnv) (lt : Nat) (d : List Nat) (r : RunSt) : (stageEmit v lt d r).out.free = r.out.free := by
  unfold stageEmit
  extract_lets a b targeted a2
  dsimp only
  generalize a2.zip (List.range a2.length) = l
  generalize r.out = o
  induction l generalizing o with
  | nil => rfl
  | cons x l ih => exact (ih _).trans (emitElem_free _ _ _ _ _ _)

theorem stageOne_free (v : RunEnv) (k lt : Nat) (d : List Nat) (r : RunSt) : r.out.free ≤ (stageOne v k lt d r).out.free := by
  unfold stageOne
  split
  · exact stageGather_free _ _ _ _ _
  · exact stageMma_free _ _ _ _ _
  · exact (RunSt.write_free _ _ _ _ _ _ _).ge
  · exact stageReduce_free _ _ _ _ _
  · exact (RunSt.write_free _ _ _ _ _ _ _).ge
  · exact stageScatter_free _ _ _ _ _
  · exact (stageEmit_free _ _ _ _).ge
  · exact le_rfl

theorem stageReduceTiles_free (v : RunEnv) (k : Nat) (d : List Nat) (r : RunSt) : r.out.free ≤ (stageReduceTiles v k d r).out.free := by
  unfold stageReduceTiles
  extract_lets n fn src group
  refine foldl_free _ _ le_rfl ?_
  intro q x h
  extract_lets p
  refine foldl_free _ _ ?_ (fun r y k => by rw [RunSt.write_free]; exact k)
  unfold p
  split
  · exact h.trans (RunSt.loosen_free _ _ _)
  · exact h

theorem traceStage_free (v : RunEnv) (k : Nat) (d : List Nat) (r : RunSt) : (traceStage v k d r).out.free = r.out.free := by
  unfold traceStage
  split <;> rfl

theorem stageAll_free (v : RunEnv) (k : Nat) (d : List Nat) (r : RunSt) : r.out.free ≤ (stageAll v k d r).out.free := by
  unfold stageAll
  rw [traceStage_free]
  split
  · exact stageReduceTiles_free _ _ _ _
  · exact foldl_free _ _ le_rfl (fun _ _ h => h.trans (stageOne_free _ _ _ _ _))

theorem RunSt.quota_free (r : RunSt) (v : RunEnv) : r.out.free ≤ (r.quota v).out.free := Nat.le_add_right _ _

/-- A run uses no free value twice: the number of the next one does not fall. -/
theorem runImage_free (v : RunEnv) (n : Nat) : n ≤ (runImage v n).out.free :=
  le_trans (foldl_free (n := n) _ _ le_rfl (fun _ _ h => h.trans (stageAll_free _ _ _ _))) (RunSt.quota_free _ _)

end Sys2Proof.Machine
end

