-- ==== Sys2Proof/Laws/KeepsOps.lean ====
section
/-! SUPPORT. What each operation and each command of the register file, events, the network and sessions may change, as `Keeps` says it. -/

namespace Sys2Proof.Machine

/-! ### Ops -/

theorem State.wr_keeps {F : Nat} {a s : State} {x1 x2} (hF : F ||| 33554432 = F) (h : Keeps F a s) :
    Keeps F a (State.wr s x1 x2) :=
  Keeps.upd_regs hF (regsWf_regPut _ _ _) h

theorem State.set_keeps {F : Nat} {a s : State} {x1 x2} (hF : F ||| 33554432 = F) (h : Keeps F a s) :
    Keeps F a (State.set s x1 x2) := by
  unfold State.set
  refine State.wr_keeps (maskSub hF rfl) ?_
  assumption

theorem State.setB_keeps {F : Nat} {a s : State} {x1 x2} (hF : F ||| 33554432 = F) (h : Keeps F a s) :
    Keeps F a (State.setB s x1 x2) := by
  unfold State.setB
  refine State.set_keeps (maskSub hF rfl) ?_
  assumption

theorem State.countBy_keeps {F : Nat} {a s : State} {x1 x2} (hF : F ||| 33554432 = F) (h : Keeps F a s) :
    Keeps F a (State.countBy s x1 x2) := by
  unfold State.countBy
  refine State.wr_keeps (maskSub hF rfl) ?_
  assumption

theorem State.count_keeps {F : Nat} {a s : State} {x1} (hF : F ||| 33554432 = F) (h : Keeps F a s) :
    Keeps F a (State.count s x1) := by
  unfold State.count
  refine State.countBy_keeps (maskSub hF rfl) ?_
  assumption

theorem State.bump_keeps {F : Nat} {a s : State} {x1} (hF : F ||| 33554432 = F) (h : Keeps F a s) :
    Keeps F a (State.bump s x1) := by
  unfold State.bump
  refine State.set_keeps (maskSub hF rfl) ?_
  assumption

theorem State.wrap_keeps {F : Nat} {a s : State} {x1} (hF : F ||| 33554432 = F) (h : Keeps F a s) :
    Keeps F a (State.wrap s x1) := by
  unfold State.wrap
  refine State.set_keeps (maskSub hF rfl) ?_
  assumption

theorem State.send_keeps {F : Nat} {a s : State} {x1} (hF : F ||| 8388608 = F) (h : Keeps F a s) :
    Keeps F a (State.send s x1) := by
  unfold State.send
  refine Keeps.upd_out (maskSub hF rfl) (List.suffix_cons _ _) ?_
  assumption

theorem State.free_keeps {F : Nat} {a s : State} (hF : F ||| 67108864 = F) (h : Keeps F a s) :
    Keeps F a (State.free s).2 := by
  unfold State.free
  refine Keeps.p2 ?_
  refine Keeps.upd_fresh (maskSub hF rfl) (Nat.le_succ _) ?_
  assumption

theorem State.setCredit_keeps {F : Nat} {a s : State} {x1 x2} (hF : F ||| 16777216 = F) (h : Keeps F a s) :
    Keeps F a (State.setCredit s x1 x2) := by
  unfold State.setCredit
  refine Keeps.upd_firn (maskSub hF rfl) (FirnStep.of_eq rfl rfl rfl rfl rfl) ?_
  assumption

theorem State.takeToken_keeps {F : Nat} {a s : State} {x1} (hF : F ||| 16777216 = F) (h : Keeps F a s) :
    Keeps F a (State.takeToken s x1) := by
  unfold State.takeToken
  refine Keeps.ite ?_ ?_
  · assumption
  · refine State.setCredit_keeps (maskSub hF rfl) ?_
    assumption

theorem State.occurOnce_keeps {F : Nat} {a s : State} {x1 x2 x3 x4} (hF : F ||| 50331648 = F) (h : Keeps F a s) :
    Keeps F a (State.occurOnce s x1 x2 x3 x4).1 := by
  unfold State.occurOnce
  extract_lets +onlyGivenNames -underBinder -merge y0
  have hy0 : Keeps F a y0 := by
    unfold y0
    refine Keeps.foldl ?_ ?_
    · assumption
    · intro x2 x3 h1
      beta_reduce
      refine State.count_keeps (maskSub hF rfl) ?_
      assumption
  try clear_value y0
  extract_lets +onlyGivenNames -underBinder -merge y4
  have hy4 : Keeps F a y4 := by
    unfold y4
    refine State.count_keeps (maskSub hF rfl) ?_
    assumption
  try clear_value y4
  split
  · extract_lets +onlyGivenNames -underBinder -merge y5
    have hy5 : Keeps F a y5 := by
      unfold y5
      refine State.takeToken_keeps (maskSub hF rfl) ?_
      assumption
    try clear_value y5
    refine Keeps.p1 ?_
    refine Keeps.upd_firn (maskSub hF rfl) (FirnStep.of_eq rfl rfl rfl rfl rfl) ?_
    assumption
  · extract_lets +onlyGivenNames -underBinder -merge y6
    try clear_value y6
    refine Keeps.p1 ?_
    refine State.count_keeps (maskSub hF rfl) ?_
    refine State.bump_keeps (maskSub hF rfl) ?_
    assumption

theorem State.markSuppressed_keeps {F : Nat} {a s : State} (hF : F ||| 50331648 = F) (h : Keeps F a s) :
    Keeps F a (State.markSuppressed s).1 := by
  unfold State.markSuppressed
  extract_lets +onlyGivenNames -underBinder -merge y0
  have hy0 : Keeps F a y0 := by
    unfold y0
    refine State.set_keeps (maskSub hF rfl) ?_
    assumption
  try clear_value y0
  refine State.occurOnce_keeps (maskSub hF rfl) ?_
  refine State.wr_keeps (maskSub hF rfl) ?_
  assumption

theorem State.occur_keeps {F : Nat} {a s : State} {x1 x2 x3 x4} (hF : F ||| 50331648 = F) (h : Keeps F a s) :
    Keeps F a (State.occur s x1 x2 x3 x4) := by
  unfold State.occur
  extract_lets +onlyGivenNames -underBinder -merge y0
  have hy01 : Keeps F a y0.1 := by
    unfold y0
    refine State.occurOnce_keeps (maskSub hF rfl) ?_
    assumption
  try clear_value y0
  refine Keeps.ite ?_ ?_
  · extract_lets +onlyGivenNames -underBinder -merge y1
    have hy11 : Keeps F a y1.1 := by
      unfold y1
      refine State.markSuppressed_keeps (maskSub hF rfl) ?_
      assumption
    try clear_value y1
    refine Keeps.ite ?_ ?_
    · refine State.markSuppressed_keeps (maskSub hF rfl) ?_
      assumption
    · assumption
  · assumption

theorem State.raise_keeps {F : Nat} {a s : State} {x1 x2 x3 x4} (hF : F ||| 50331648 = F) (h : Keeps F a s) :
    Keeps F a (State.raise s x1 x2 x3 x4) := by
  unfold State.raise
  extract_lets +onlyGivenNames -underBinder -merge y0
  have hy0 : Keeps F a y0 := by
    unfold y0
    refine State.wr_keeps (maskSub hF rfl) ?_
    assumption
  try clear_value y0
  extract_lets +onlyGivenNames -underBinder -merge y1
  have hy1 : Keeps F a y1 := by
    unfold y1
    refine State.wr_keeps (maskSub hF rfl) ?_
    assumption
  try clear_value y1
  refine State.occur_keeps (maskSub hF rfl) ?_
  assumption

theorem State.mark_keeps {F : Nat} {a s : State} {x1} (hF : F ||| 33554432 = F) (h : Keeps F a s) :
    Keeps F a (State.mark s x1) := by
  unfold State.mark
  extract_lets +onlyGivenNames -underBinder -merge y0
  have hy0 : Keeps F a y0 := by
    unfold y0
    refine State.wr_keeps (maskSub hF rfl) ?_
    assumption
  try clear_value y0
  refine State.wr_keeps (maskSub hF rfl) ?_
  assumption

theorem State.raiseEnd_keeps {F : Nat} {a s : State} {x1 x2 x3} (hF : F ||| 50331648 = F) (h : Keeps F a s) :
    Keeps F a (State.raiseEnd s x1 x2 x3) := by
  unfold State.raiseEnd
  refine State.occur_keeps (maskSub hF rfl) ?_
  assumption

theorem State.setSess_keeps {F : Nat} {a s : State} {x1 x2} (hF : F ||| 8 = F) (h : Keeps F a s) :
    Keeps F a (State.setSess s x1 x2) := by
  unfold State.setSess
  refine Keeps.upd_zh (maskSub hF rfl) ?_
  assumption

theorem State.notice_keeps {F : Nat} {a s : State} {x1 x2 x3} (hF : F ||| 8388616 = F) (h : Keeps F a s) :
    Keeps F a (State.notice s x1 x2 x3) := by
  unfold State.notice
  extract_lets +onlyGivenNames -underBinder -merge y0
  try clear_value y0
  refine State.send_keeps (maskSub hF rfl) ?_
  refine State.setSess_keeps (maskSub hF rfl) ?_
  assumption

theorem State.sendRequest_keeps {F : Nat} {a s : State} {x1 x2 x3 x4} (hF : F ||| 8388616 = F) (h : Keeps F a s) :
    Keeps F a (State.sendRequest s x1 x2 x3 x4) := by
  unfold State.sendRequest
  extract_lets +onlyGivenNames -underBinder -merge y0
  try clear_value y0
  refine State.send_keeps (maskSub hF rfl) ?_
  refine State.setSess_keeps (maskSub hF rfl) ?_
  assumption

theorem State.noticeAll_keeps {F : Nat} {a s : State} {x1 x2} (hF : F ||| 8388616 = F) (h : Keeps F a s) :
    Keeps F a (State.noticeAll s x1 x2) := by
  unfold State.noticeAll
  refine Keeps.foldl ?_ ?_
  · assumption
  · intro x1 x2 h0
    beta_reduce
    refine State.notice_keeps (maskSub hF rfl) ?_
    assumption

theorem State.announce_keeps {F : Nat} {a s : State} {x1 x2} (hF : F ||| 58720264 = F) (h : Keeps F a s) :
    Keeps F a (State.announce s x1 x2) := by
  unfold State.announce
  extract_lets +onlyGivenNames -underBinder -merge y0
  have hy0 : Keeps F a y0 := by
    unfold y0
    refine State.occur_keeps (maskSub hF rfl) ?_
    assumption
  try clear_value y0
  refine State.noticeAll_keeps (maskSub hF rfl) ?_
  assumption

theorem State.enter_keeps {F : Nat} {a s : State} {x1 x2} (hF : F ||| 58720264 = F) (h : Keeps F a s) :
    Keeps F a (State.enter s x1 x2) := by
  unfold State.enter
  extract_lets +onlyGivenNames -underBinder -merge y0
  try clear_value y0
  refine Keeps.ite ?_ ?_
  · assumption
  · extract_lets +onlyGivenNames -underBinder -merge y1
    have hy1 : Keeps F a y1 := by
      unfold y1
      refine Keeps.ite ?_ ?_
      · refine State.set_keeps (maskSub hF rfl) ?_
        assumption
      · assumption
    try clear_value y1
    refine State.announce_keeps (maskSub hF rfl) ?_
    refine State.set_keeps (maskSub hF rfl) ?_
    refine State.set_keeps (maskSub hF rfl) ?_
    assumption

theorem State.enterProtective_keeps {F : Nat} {a s : State} {x1 x2} (hF : F ||| 58720264 = F) (h : Keeps F a s) :
    Keeps F a (State.enterProtective s x1 x2) := by
  unfold State.enterProtective
  extract_lets +onlyGivenNames -underBinder -merge y0
  try clear_value y0
  refine Keeps.ite ?_ ?_
  · assumption
  · extract_lets +onlyGivenNames -underBinder -merge y1
    try clear_value y1
    refine State.announce_keeps (maskSub hF rfl) ?_
    refine State.set_keeps (maskSub hF rfl) ?_
    refine State.set_keeps (maskSub hF rfl) ?_
    assumption

theorem State.leaveBoot_keeps {F : Nat} {a s : State} (hF : F ||| 58720264 = F) (h : Keeps F a s) :
    Keeps F a (State.leaveBoot s) := by
  unfold State.leaveBoot
  refine Keeps.ite ?_ ?_
  · assumption
  · refine Keeps.ite ?_ ?_
    · refine State.enter_keeps (maskSub hF rfl) ?_
      assumption
    · refine Keeps.ite ?_ ?_
      · refine State.enter_keeps (maskSub hF rfl) ?_
        assumption
      · assumption

/-! ### Access -/

theorem State.renewLease_keeps {F : Nat} {a s : State} {x1} (hF : F ||| 8 = F) (h : Keeps F a s) :
    Keeps F a (State.renewLease s x1) := by
  unfold State.renewLease
  refine Keeps.upd_zh (maskSub hF rfl) ?_
  assumption

theorem State.denied_keeps {F : Nat} {a s : State} {x1 x2} (hF : F ||| 50331648 = F) (h : Keeps F a s) :
    Keeps F a (State.denied s x1 x2) := by
  unfold State.denied
  split
  · refine State.raise_keeps (maskSub hF rfl) ?_
    refine State.count_keeps (maskSub hF rfl) ?_
    assumption
  · refine State.raise_keeps (maskSub hF rfl) ?_
    assumption
  · refine State.raise_keeps (maskSub hF rfl) ?_
    assumption
  · refine State.count_keeps (maskSub hF rfl) ?_
    assumption
  · assumption

/-! ### Net -/

theorem State.setSource_keeps {F : Nat} {a s : State} {x1} (hF : F ||| 8 = F) (h : Keeps F a s) :
    Keeps F a (State.setSource s x1) := by
  unfold State.setSource
  refine Keeps.upd_zh (maskSub hF rfl) ?_
  assumption

theorem State.startQuarantine_keeps {F : Nat} {a s : State} {x1 x2 x3} (hF : F ||| 50331656 = F) (h : Keeps F a s) :
    Keeps F a (State.startQuarantine s x1 x2 x3) := by
  unfold State.startQuarantine
  extract_lets +onlyGivenNames -underBinder -merge y0
  have hy0 : Keeps F a y0 := by
    unfold y0
    refine State.set_keeps (maskSub hF rfl) ?_
    refine State.set_keeps (maskSub hF rfl) ?_
    assumption
  try clear_value y0
  extract_lets +onlyGivenNames -underBinder -merge y1
  have hy1 : Keeps F a y1 := by
    unfold y1
    refine Keeps.foldl ?_ ?_
    · assumption
    · intro x3 x4 h2
      beta_reduce
      refine State.wr_keeps (maskSub hF rfl) ?_
      assumption
  try clear_value y1
  extract_lets +onlyGivenNames -underBinder -merge y5
  have hy5 : Keeps F a y5 := by
    unfold y5
    refine State.wr_keeps (maskSub hF rfl) ?_
    assumption
  try clear_value y5
  extract_lets +onlyGivenNames -underBinder -merge y6
  try clear_value y6
  extract_lets +onlyGivenNames -underBinder -merge y7
  have hy7 : Keeps F a y7 := by
    unfold y7
    refine Keeps.upd_zh (maskSub hF rfl) ?_
    assumption
  try clear_value y7
  extract_lets +onlyGivenNames -underBinder -merge y8
  have hy8 : Keeps F a y8 := by
    unfold y8
    refine State.count_keeps (maskSub hF rfl) ?_
    assumption
  try clear_value y8
  refine State.raise_keeps (maskSub hF rfl) ?_
  refine State.raise_keeps (maskSub hF rfl) ?_
  assumption

theorem State.violate_keeps {F : Nat} {a s : State} {x1} (hF : F ||| 50331656 = F) (h : Keeps F a s) :
    Keeps F a (State.violate s x1) := by
  unfold State.violate
  extract_lets +onlyGivenNames -underBinder -merge y0
  try clear_value y0
  extract_lets +onlyGivenNames -underBinder -merge y1
  try clear_value y1
  extract_lets +onlyGivenNames -underBinder -merge y2
  have hy2 : Keeps F a y2 := by
    unfold y2
    refine State.setSource_keeps (maskSub hF rfl) ?_
    assumption
  try clear_value y2
  refine Keeps.ite ?_ ?_
  · split
    · refine State.startQuarantine_keeps (maskSub hF rfl) ?_
      assumption
    · refine State.raise_keeps (maskSub hF rfl) ?_
      assumption
  · assumption

theorem State.countRx_keeps {F : Nat} {a s : State} {x1} (hF : F ||| 33554432 = F) (h : Keeps F a s) :
    Keeps F a (State.countRx s x1) := by
  unfold State.countRx
  refine State.count_keeps (maskSub hF rfl) ?_
  assumption

theorem State.setMailbox_keeps {F : Nat} {a s : State} {x1 x2 x3} (hF : F ||| 8 = F) (h : Keeps F a s) :
    Keeps F a (State.setMailbox s x1 x2 x3) := by
  unfold State.setMailbox
  refine State.setSess_keeps (maskSub hF rfl) ?_
  assumption

theorem State.setBit_keeps {F : Nat} {a s : State} {x1 x2 x3} (hF : F ||| 33554432 = F) (h : Keeps F a s) :
    Keeps F a (State.setBit s x1 x2 x3) := by
  unfold State.setBit
  refine State.set_keeps (maskSub hF rfl) ?_
  assumption

theorem State.heard_keeps {F : Nat} {a s : State} {x1 x2} (hF : F ||| 8 = F) (h : Keeps F a s) :
    Keeps F a (State.heard s x1 x2) := by
  unfold State.heard
  extract_lets +onlyGivenNames -underBinder -merge y0
  try clear_value y0
  split
  · refine State.setSess_keeps (maskSub hF rfl) ?_
    assumption
  · refine State.setSess_keeps (maskSub hF rfl) ?_
    assumption

theorem State.freeDomain_keeps {F : Nat} {a s : State} {x1} (hF : F ||| 50331656 = F) (h : Keeps F a s) :
    Keeps F a (State.freeDomain s x1) := by
  unfold State.freeDomain
  split
  · assumption
  · extract_lets +onlyGivenNames -underBinder -merge y0
    have hy0 : Keeps F a y0 := by
      unfold y0
      refine State.set_keeps (maskSub hF rfl) ?_
      refine State.set_keeps (maskSub hF rfl) ?_
      refine State.set_keeps (maskSub hF rfl) ?_
      assumption
    try clear_value y0
    extract_lets +onlyGivenNames -underBinder -merge y1
    have hy1 : Keeps F a y1 := by
      unfold y1
      refine State.setBit_keeps (maskSub hF rfl) ?_
      assumption
    try clear_value y1
    extract_lets +onlyGivenNames -underBinder -merge y2
    try clear_value y2
    extract_lets +onlyGivenNames -underBinder -merge y3
    have hy3 : Keeps F a y3 := by
      unfold y3
      refine Keeps.upd_zh (maskSub hF rfl) ?_
      assumption
    try clear_value y3
    refine State.raise_keeps (maskSub hF rfl) ?_
    refine State.wrap_keeps (maskSub hF rfl) ?_
    assumption

theorem State.grant_keeps {F : Nat} {a s : State} {x1 x2} (hF : F ||| 50331656 = F) (h : Keeps F a s) :
    Keeps F a (State.grant s x1 x2) := by
  unfold State.grant
  extract_lets +onlyGivenNames -underBinder -merge y0
  have hy0 : Keeps F a y0 := by
    unfold y0
    split
    · assumption
    · refine State.setBit_keeps (maskSub hF rfl) ?_
      assumption
  try clear_value y0
  extract_lets +onlyGivenNames -underBinder -merge y1
  have hy1 : Keeps F a y1 := by
    unfold y1
    refine State.set_keeps (maskSub hF rfl) ?_
    refine State.set_keeps (maskSub hF rfl) ?_
    refine State.set_keeps (maskSub hF rfl) ?_
    assumption
  try clear_value y1
  extract_lets +onlyGivenNames -underBinder -merge y2
  have hy2 : Keeps F a y2 := by
    unfold y2
    refine State.setBit_keeps (maskSub hF rfl) ?_
    assumption
  try clear_value y2
  extract_lets +onlyGivenNames -underBinder -merge y3
  try clear_value y3
  extract_lets +onlyGivenNames -underBinder -merge y4
  have hy4 : Keeps F a y4 := by
    unfold y4
    refine Keeps.upd_zh (maskSub hF rfl) ?_
    assumption
  try clear_value y4
  refine State.raise_keeps (maskSub hF rfl) ?_
  refine State.wrap_keeps (maskSub hF rfl) ?_
  refine State.renewLease_keeps (maskSub hF rfl) ?_
  assumption

theorem State.expireDomain_keeps {F : Nat} {a s : State} {x1} (hF : F ||| 58720264 = F) (h : Keeps F a s) :
    Keeps F a (State.expireDomain s x1) := by
  unfold State.expireDomain
  split
  · assumption
  · extract_lets +onlyGivenNames -underBinder -merge y0
    have hy0 : Keeps F a y0 := by
      unfold y0
      refine State.notice_keeps (maskSub hF rfl) ?_
      refine State.freeDomain_keeps (maskSub hF rfl) ?_
      assumption
    try clear_value y0
    refine Keeps.ite ?_ ?_
    · refine State.enter_keeps (maskSub hF rfl) ?_
      assumption
    · assumption

theorem State.expireLease_keeps {F : Nat} {a s : State} {x1} (hF : F ||| 58720264 = F) (h : Keeps F a s) :
    Keeps F a (State.expireLease s x1) := by
  unfold State.expireLease
  refine Keeps.ite ?_ ?_
  · refine State.expireDomain_keeps (maskSub hF rfl) ?_
    assumption
  · assumption

theorem State.lapseOffer_keeps {F : Nat} {a s : State} {x1} (hF : F ||| 8 = F) (h : Keeps F a s) :
    Keeps F a (State.lapseOffer s x1) := by
  unfold State.lapseOffer
  split
  · refine Keeps.ite ?_ ?_
    · refine Keeps.upd_zh (maskSub hF rfl) ?_
      assumption
    · assumption
  · assumption

theorem State.detachStore_keeps {F : Nat} {a s : State} (hF : F ||| 8 = F) (h : Keeps F a s) :
    Keeps F a (State.detachStore s) := by
  unfold State.detachStore
  refine Keeps.upd_zh (maskSub hF rfl) ?_
  assumption

theorem State.endSession_keeps {F : Nat} {a s : State} {x1} (hF : F ||| 50331656 = F) (h : Keeps F a s) :
    Keeps F a (State.endSession s x1) := by
  unfold State.endSession
  refine Keeps.ite ?_ ?_
  · extract_lets +onlyGivenNames -underBinder -merge y0
    have hy0 : Keeps F a y0 := by
      unfold y0
      refine Keeps.foldl ?_ ?_
      · assumption
      · intro x2 x3 h1
        beta_reduce
        refine Keeps.ite ?_ ?_
        · refine State.freeDomain_keeps (maskSub hF rfl) ?_
          assumption
        · assumption
    try clear_value y0
    extract_lets +onlyGivenNames -underBinder -merge y4
    have hy4 : Keeps F a y4 := by
      unfold y4
      refine State.set_keeps (maskSub hF rfl) ?_
      assumption
    try clear_value y4
    extract_lets +onlyGivenNames -underBinder -merge y5
    have hy5 : Keeps F a y5 := by
      unfold y5
      refine Keeps.ite ?_ ?_
      · refine State.detachStore_keeps (maskSub hF rfl) ?_
        assumption
      · assumption
    try clear_value y5
    extract_lets +onlyGivenNames -underBinder -merge y6
    try clear_value y6
    extract_lets +onlyGivenNames -underBinder -merge y7
    have hy7 : Keeps F a y7 := by
      unfold y7
      refine Keeps.upd_zh (maskSub hF rfl) ?_
      assumption
    try clear_value y7
    extract_lets +onlyGivenNames -underBinder -merge y8
    have hy8 : Keeps F a y8 := by
      unfold y8
      refine State.wr_keeps (maskSub hF rfl) ?_
      refine State.wr_keeps (maskSub hF rfl) ?_
      refine State.wr_keeps (maskSub hF rfl) ?_
      refine State.wr_keeps (maskSub hF rfl) ?_
      refine State.wr_keeps (maskSub hF rfl) ?_
      assumption
    try clear_value y8
    refine State.raise_keeps (maskSub hF rfl) ?_
    refine State.set_keeps (maskSub hF rfl) ?_
    assumption
  · assumption

theorem State.plainWrite_keeps {F : Nat} {a s : State} {x1 x2} (hF : F ||| 33554432 = F) (h : Keeps F a s) :
    Keeps F a (State.plainWrite s x1 x2) := by
  unfold State.plainWrite
  split
  · refine State.wr_keeps (maskSub hF rfl) ?_
    assumption
  · assumption

theorem State.writeRowWith_keeps {F : Nat} {a s : State} {x1 x2 x3 x4 x5} (hF : F ||| 58720264 = F) (h : Keeps F a s) (hf : ∀ v0, Keeps F a v0 → Keeps F a (x5 v0).1) :
    Keeps F a (State.writeRowWith s x1 x2 x3 x4 x5) := by
  unfold State.writeRowWith
  split
  · refine State.send_keeps (maskSub hF rfl) ?_
    refine State.denied_keeps (maskSub hF rfl) ?_
    assumption
  · extract_lets +onlyGivenNames -underBinder -merge y0
    have hy0 : Keeps F a y0 := by
      unfold y0
      split
      · refine State.renewLease_keeps (maskSub hF rfl) ?_
        assumption
      · assumption
    try clear_value y0
    refine Keeps.ite ?_ ?_
    · extract_lets +onlyGivenNames -underBinder -merge y1
      have hy11 : Keeps F a y1.1 := by
        unfold y1
        refine hf _ ?_
        assumption
      try clear_value y1
      refine State.send_keeps (maskSub hF rfl) ?_
      assumption
    · refine State.send_keeps (maskSub hF rfl) ?_
      refine State.raise_keeps (maskSub hF rfl) ?_
      assumption

theorem State.writeRow_keeps {F : Nat} {a s : State} {x1 x2 x3 x4 x5} (hF : F ||| 58720264 = F) (h : Keeps F a s) (hf : ∀ v0, Keeps F a v0 → Keeps F a (x5 v0)) :
    Keeps F a (State.writeRow s x1 x2 x3 x4 x5) :=
  State.writeRowWith_keeps hF h hf

/-- A register write sends one answer after all that it sends otherwise. -/
theorem State.writeRow_sent {F : Nat} {a s : State} {k b v ok f} (hF : F ||| 58720264 = F) (h : Keeps F a s)
    (hf : ∀ t, Keeps F a t → Keeps F a (f t)) :
    ∃ o l, (State.writeRow s k b v ok f).out = o :: l ∧ a.out <:+ l := by
  have F0 {n : Nat} (k : 58720264 ||| n = 58720264) : F ||| n = F := maskSub hF k
  unfold State.writeRow State.writeRowWith
  split
  · exact ⟨_, _, rfl, (State.denied_keeps (F0 rfl) h).sent⟩
  · have h0 : Keeps F a (match s.usedDomain k (writeNeed b v) with | some d => s.renewLease d | none => s) := by
      split
      · exact State.renewLease_keeps (F0 rfl) h
      · exact h
    dsimp only
    split
    · exact ⟨_, _, rfl, (hf _ h0).sent⟩
    · exact ⟨_, _, rfl, (State.raise_keeps (F0 rfl) h0).sent⟩

/-! ### Zhoide -/

theorem State.sendPlain_keeps {F : Nat} {a s : State} {x1 x2 x3 x4 x5 x6} (hF : F ||| 8388608 = F) (h : Keeps F a s) :
    Keeps F a (State.sendPlain s x1 x2 x3 x4 x5 x6) := by
  unfold State.sendPlain
  refine State.send_keeps (maskSub hF rfl) ?_
  assumption

theorem State.emit_keeps {F : Nat} {a s : State} {x1 x2 x3} (hF : F ||| 8388616 = F) (h : Keeps F a s) :
    Keeps F a (State.emit s x1 x2 x3) := by
  unfold State.emit
  extract_lets +onlyGivenNames -underBinder -merge y0
  try clear_value y0
  extract_lets +onlyGivenNames -underBinder -merge y1
  try clear_value y1
  extract_lets +onlyGivenNames -underBinder -merge y2
  have hy2 : Keeps F a y2 := by
    unfold y2
    refine State.setMailbox_keeps (maskSub hF rfl) ?_
    assumption
  try clear_value y2
  extract_lets +onlyGivenNames -underBinder -merge y3
  try clear_value y3
  extract_lets +onlyGivenNames -underBinder -merge y4
  have hy4 : Keeps F a y4 := by
    unfold y4
    refine State.setSess_keeps (maskSub hF rfl) ?_
    assumption
  try clear_value y4
  refine State.send_keeps (maskSub hF rfl) ?_
  refine Keeps.ite ?_ ?_
  · refine State.send_keeps (maskSub hF rfl) ?_
    assumption
  · assumption

theorem State.finish_keeps {F : Nat} {a s : State} {x1 x2 x3 x4 x5 x6 x7} (hF : F ||| 58720264 = F) (h : Keeps F a s) :
    Keeps F a (State.finish s x1 x2 x3 x4 x5 x6 x7) := by
  unfold State.finish
  extract_lets +onlyGivenNames -underBinder -merge y0
  have hy0 : Keeps F a y0 := by
    unfold y0
    refine State.denied_keeps (maskSub hF rfl) ?_
    assumption
  try clear_value y0
  extract_lets +onlyGivenNames -underBinder -merge y1
  try clear_value y1
  extract_lets +onlyGivenNames -underBinder -merge y2
  try clear_value y2
  extract_lets +onlyGivenNames -underBinder -merge y3
  try clear_value y3
  extract_lets +onlyGivenNames -underBinder -merge y4
  have hy4 : Keeps F a y4 := by
    unfold y4
    refine State.setMailbox_keeps (maskSub hF rfl) ?_
    assumption
  try clear_value y4
  refine State.emit_keeps (maskSub hF rfl) ?_
  refine Keeps.ite ?_ ?_
  · refine State.setBit_keeps (maskSub hF rfl) ?_
    assumption
  · assumption

theorem State.runJudge_keeps {F : Nat} {a s : State} {x1 x2 x3 x4} (hF : F ||| 58720264 = F) (h : Keeps F a s) (hj : JudgeKeeps F a x3) :
    Keeps F a (State.runJudge s x1 x2 x3 x4) := by
  unfold State.runJudge
  extract_lets +onlyGivenNames -underBinder -merge y0
  have hy0 : Keeps F a y0 := by
    unfold y0
    refine Keeps.foldl ?_ ?_
    · assumption
    · intro x2 x3 h1
      beta_reduce
      refine State.renewLease_keeps (maskSub hF rfl) ?_
      assumption
  try clear_value y0
  split
  · rename_i p4 p5 p6 p7 e8
    have hp4 : Keeps F a p4 := by
      refine Keeps.of1 e8 ?_
      refine hj _ _ ?_
      assumption
    refine State.finish_keeps (maskSub hF rfl) ?_
    assumption
  · rename_i p9 e10
    have hp9 : Keeps F a p9 := by
      refine Keeps.of1 e10 ?_
      refine hj _ _ ?_
      assumption
    refine State.setBit_keeps (maskSub hF rfl) ?_
    refine State.setMailbox_keeps (maskSub hF rfl) ?_
    assumption
  · rename_i p11 e12
    have hp11 : Keeps F a p11 := by
      refine Keeps.of1 e12 ?_
      refine hj _ _ ?_
      assumption
    refine State.endSession_keeps (maskSub hF rfl) ?_
    refine State.finish_keeps (maskSub hF rfl) ?_
    assumption

theorem State.hold_keeps {F : Nat} {a s : State} {x1 x2 x3 x4 x5} (hF : F ||| 33554440 = F) (h : Keeps F a s) :
    Keeps F a (State.hold s x1 x2 x3 x4 x5) := by
  unfold State.hold
  extract_lets +onlyGivenNames -underBinder -merge y0
  try clear_value y0
  extract_lets +onlyGivenNames -underBinder -merge y1
  try clear_value y1
  extract_lets +onlyGivenNames -underBinder -merge y2
  have hy2 : Keeps F a y2 := by
    unfold y2
    refine State.setMailbox_keeps (maskSub hF rfl) ?_
    assumption
  try clear_value y2
  extract_lets +onlyGivenNames -underBinder -merge y3
  try clear_value y3
  extract_lets +onlyGivenNames -underBinder -merge y4
  have hy4 : Keeps F a y4 := by
    unfold y4
    refine Keeps.upd_zh (maskSub hF rfl) ?_
    assumption
  try clear_value y4
  refine State.count_keeps (maskSub hF rfl) ?_
  refine State.bump_keeps (maskSub hF rfl) ?_
  refine State.setBit_keeps (maskSub hF rfl) ?_
  assumption

theorem State.unhold_keeps {F : Nat} {a s : State} {x1 x2} (hF : F ||| 33554440 = F) (h : Keeps F a s) :
    Keeps F a (State.unhold s x1 x2) := by
  unfold State.unhold
  extract_lets +onlyGivenNames -underBinder -merge y0
  try clear_value y0
  extract_lets +onlyGivenNames -underBinder -merge y1
  have hy1 : Keeps F a y1 := by
    unfold y1
    refine State.setMailbox_keeps (maskSub hF rfl) ?_
    assumption
  try clear_value y1
  refine State.set_keeps (maskSub hF rfl) ?_
  refine State.setBit_keeps (maskSub hF rfl) ?_
  assumption

theorem State.protoError_keeps {F : Nat} {a s : State} {x1 x2 x3 x4} (hF : F ||| 58720264 = F) (h : Keeps F a s) :
    Keeps F a (State.protoError s x1 x2 x3 x4) := by
  unfold State.protoError
  extract_lets +onlyGivenNames -underBinder -merge y0
  have hy0 : Keeps F a y0 := by
    unfold y0
    refine State.violate_keeps (maskSub hF rfl) ?_
    refine State.count_keeps (maskSub hF rfl) ?_
    assumption
  try clear_value y0
  refine Keeps.ite ?_ ?_
  · extract_lets +onlyGivenNames -underBinder -merge y1
    try clear_value y1
    extract_lets +onlyGivenNames -underBinder -merge y2
    have hy2 : Keeps F a y2 := by
      unfold y2
      refine State.setSource_keeps (maskSub hF rfl) ?_
      assumption
    try clear_value y2
    split
    · extract_lets +onlyGivenNames -underBinder -merge y3
      try clear_value y3
      refine State.send_keeps (maskSub hF rfl) ?_
      refine State.setSess_keeps (maskSub hF rfl) ?_
      assumption
    · refine State.sendPlain_keeps (maskSub hF rfl) ?_
      assumption
  · assumption

theorem State.takeCopy_keeps {F : Nat} {a s : State} {x1 x2} (hF : F ||| 41943048 = F) (h : Keeps F a s) :
    Keeps F a (State.takeCopy s x1 x2) := by
  unfold State.takeCopy
  extract_lets +onlyGivenNames -underBinder -merge y0
  have hy0 : Keeps F a y0 := by
    unfold y0
    refine State.count_keeps (maskSub hF rfl) ?_
    assumption
  try clear_value y0
  extract_lets +onlyGivenNames -underBinder -merge y1
  try clear_value y1
  split
  · assumption
  · extract_lets +onlyGivenNames -underBinder -merge y2
    have hy2 : Keeps F a y2 := by
      unfold y2
      refine State.setMailbox_keeps (maskSub hF rfl) ?_
      assumption
    try clear_value y2
    split
    · refine State.send_keeps (maskSub hF rfl) ?_
      assumption
    · assumption

theorem State.takeFrame_keeps {F : Nat} {a s : State} {x1 x2 x3 x4} (hF : F ||| 58720264 = F) (h : Keeps F a s) (hf : ∀ v0 v1 v2 v3, Keeps F a v3 → Keeps F a (x4 v0 v1 v2 v3)) :
    Keeps F a (State.takeFrame s x1 x2 x3 x4) := by
  unfold State.takeFrame
  refine Keeps.ite ?_ ?_
  · assumption
  · extract_lets +onlyGivenNames -underBinder -merge y0
    have hy0 : Keeps F a y0 := by
      unfold y0
      refine State.countRx_keeps (maskSub hF rfl) ?_
      assumption
    try clear_value y0
    refine Keeps.ite ?_ ?_
    · refine State.count_keeps (maskSub hF rfl) ?_
      assumption
    · split
      · refine State.protoError_keeps (maskSub hF rfl) ?_
        assumption
      · extract_lets +onlyGivenNames -underBinder -merge y1
        have hy1 : Keeps F a y1 := by
          unfold y1
          refine State.heard_keeps (maskSub hF rfl) ?_
          assumption
        try clear_value y1
        refine Keeps.ite ?_ ?_
        · refine State.protoError_keeps (maskSub hF rfl) ?_
          assumption
        · split
          · refine State.takeCopy_keeps (maskSub hF rfl) ?_
            assumption
          · refine State.count_keeps (maskSub hF rfl) ?_
            assumption
          · refine hf _ _ _ _ ?_
            assumption

theorem State.arrive_keeps {F : Nat} {a s : State} {x1 x2 x3 x4} (hF : F ||| 8 = F) (h : Keeps F a s) :
    Keeps F a (State.arrive s x1 x2 x3 x4) := by
  unfold State.arrive
  extract_lets +onlyGivenNames -underBinder -merge y0
  try clear_value y0
  extract_lets +onlyGivenNames -underBinder -merge y1
  have hy1 : Keeps F a y1 := by
    unfold y1
    refine State.setSess_keeps (maskSub hF rfl) ?_
    assumption
  try clear_value y1
  refine State.setMailbox_keeps (maskSub hF rfl) ?_
  assumption

theorem State.judgeNew_keeps {F : Nat} {a s : State} {x1 x2 x3 x4 x5} (hF : F ||| 58720264 = F) (h : Keeps F a s) (hj : JudgeKeeps F a x4) :
    Keeps F a (State.judgeNew s x1 x2 x3 x4 x5) := by
  unfold State.judgeNew
  split
  · refine State.emit_keeps (maskSub hF rfl) ?_
    assumption
  · refine Keeps.ite ?_ ?_
    · refine State.emit_keeps (maskSub hF rfl) ?_
      refine State.count_keeps (maskSub hF rfl) ?_
      assumption
    · split
      · refine State.runJudge_keeps (maskSub hF rfl) ?_ ?_
        · assumption
        · exact hj
      · refine Keeps.ite ?_ ?_
        · refine Keeps.ite ?_ ?_
          · refine State.finish_keeps (maskSub hF rfl) ?_
            assumption
          · refine State.hold_keeps (maskSub hF rfl) ?_
            assumption
        · refine State.finish_keeps (maskSub hF rfl) ?_
          assumption

theorem State.handle_keeps {F : Nat} {a s : State} {x1 x2 x3 x4} (hF : F ||| 58720264 = F) (h : Keeps F a s) (hj : JudgeKeeps F a x4) :
    Keeps F a (State.handle s x1 x2 x3 x4) := by
  unfold State.handle
  extract_lets +onlyGivenNames -underBinder -merge y0
  try clear_value y0
  refine Keeps.ite ?_ ?_
  · assumption
  · split
    · refine State.emit_keeps (maskSub hF rfl) ?_
      assumption
    · refine State.judgeNew_keeps (maskSub hF rfl) ?_ ?_
      · assumption
      · exact hj

theorem State.request_keeps {F : Nat} {a s : State} {x1 x2 x3 x4} (hF : F ||| 58720264 = F) (h : Keeps F a s) (hf : ∀ v0 v1, JudgeKeeps F a (x4 v0 v1)) :
    Keeps F a (State.request s x1 x2 x3 x4) := by
  unfold State.request
  refine State.takeFrame_keeps (maskSub hF rfl) ?_ ?_
  · assumption
  · intro x1 x2 x3 x4 h0
    beta_reduce
    extract_lets +onlyGivenNames -underBinder -merge y5
    have hy5 : Keeps F a y5 := by
      unfold y5
      refine State.arrive_keeps (maskSub hF rfl) ?_
      assumption
    try clear_value y5
    refine State.handle_keeps (maskSub hF rfl) ?_ ?_
    · assumption
    · exact hf _ _

theorem State.executeNow_keeps {F : Nat} {a s : State} {x1 x2 x3 x4} (hF : F ||| 58720264 = F) (h : Keeps F a s) (hj : JudgeKeeps F a x4) :
    Keeps F a (State.executeNow s x1 x2 x3 x4) := by
  unfold State.executeNow
  extract_lets +onlyGivenNames -underBinder -merge y0
  try clear_value y0
  split
  · refine State.emit_keeps (maskSub hF rfl) ?_
    assumption
  · extract_lets +onlyGivenNames -underBinder -merge y1
    try clear_value y1
    extract_lets +onlyGivenNames -underBinder -merge y2
    have hy2 : Keeps F a y2 := by
      unfold y2
      split
      · refine State.denied_keeps (maskSub hF rfl) ?_
        assumption
      · refine hj _ _ ?_
        refine Keeps.foldl ?_ ?_
        · assumption
        · intro x4 x5 h3
          beta_reduce
          refine State.renewLease_keeps (maskSub hF rfl) ?_
          assumption
    try clear_value y2
    extract_lets +onlyGivenNames -underBinder -merge y6
    try clear_value y6
    refine State.emit_keeps (maskSub hF rfl) ?_
    refine State.setMailbox_keeps (maskSub hF rfl) ?_
    assumption

theorem State.requestNow_keeps {F : Nat} {a s : State} {x1 x2 x3} (hF : F ||| 58720264 = F) (h : Keeps F a s) (hf : ∀ v0 v1, JudgeKeeps F a (x3 v0 v1)) :
    Keeps F a (State.requestNow s x1 x2 x3) := by
  unfold State.requestNow
  refine State.takeFrame_keeps (maskSub hF rfl) ?_ ?_
  · assumption
  · intro x1 x2 x3 x4 h0
    beta_reduce
    extract_lets +onlyGivenNames -underBinder -merge y5
    have hy5 : Keeps F a y5 := by
      unfold y5
      refine State.arrive_keeps (maskSub hF rfl) ?_
      assumption
    try clear_value y5
    refine State.executeNow_keeps (maskSub hF rfl) ?_ ?_
    · assumption
    · exact hf _ _

theorem State.rerun_keeps {F : Nat} {a s : State} {x1 x2 x3 x4 x5} (hF : F ||| 58720264 = F) (h : Keeps F a s) (hj : JudgeKeeps F a x5) :
    Keeps F a (State.rerun s x1 x2 x3 x4 x5) := by
  unfold State.rerun
  split
  · refine Keeps.ite ?_ ?_
    · assumption
    · refine State.finish_keeps (maskSub hF rfl) ?_
      refine State.unhold_keeps (maskSub hF rfl) ?_
      assumption
  · refine State.runJudge_keeps (maskSub hF rfl) ?_ ?_
    · refine State.unhold_keeps (maskSub hF rfl) ?_
      assumption
    · exact hj

theorem State.takePlain_keeps {F : Nat} {a s : State} {x1 x2} (hF : F ||| 33554432 = F) (h : Keeps F a s) (hf : ∀ v0, Keeps F a v0 → Keeps F a (x2 v0)) :
    Keeps F a (State.takePlain s x1 x2) := by
  unfold State.takePlain
  refine Keeps.ite ?_ ?_
  · assumption
  · extract_lets +onlyGivenNames -underBinder -merge y0
    have hy0 : Keeps F a y0 := by
      unfold y0
      refine State.countRx_keeps (maskSub hF rfl) ?_
      assumption
    try clear_value y0
    refine Keeps.ite ?_ ?_
    · refine State.count_keeps (maskSub hF rfl) ?_
      assumption
    · refine hf _ ?_
      assumption

theorem State.takeCra_keeps {F : Nat} {a s : State} {x1 x2} (hF : F ||| 33554432 = F) (h : Keeps F a s) (hf : ∀ v0, Keeps F a v0 → Keeps F a (x2 v0)) :
    Keeps F a (State.takeCra s x1 x2) := by
  unfold State.takeCra
  refine Keeps.ite ?_ ?_
  · assumption
  · extract_lets +onlyGivenNames -underBinder -merge y0
    have hy0 : Keeps F a y0 := by
      unfold y0
      refine State.countRx_keeps (maskSub hF rfl) ?_
      assumption
    try clear_value y0
    refine Keeps.ite ?_ ?_
    · refine State.count_keeps (maskSub hF rfl) ?_
      assumption
    · refine hf _ ?_
      assumption

theorem execHello_keeps {F : Nat} {a s : State} {x0 x1 x2} (hF : F ||| 41943040 = F) (h : Keeps F a s) :
    ∃ t, execHello x0 x1 x2 s = .next t ∧ Keeps F a t := by
  refine ⟨_, rfl, ?_⟩
  refine State.takePlain_keeps (maskSub hF rfl) ?_ ?_
  · assumption
  · intro x1 h0
    beta_reduce
    extract_lets +onlyGivenNames -underBinder -merge y2
    try clear_value y2
    refine State.sendPlain_keeps (maskSub hF rfl) ?_
    assumption

theorem judgeClose_keeps {F : Nat} {a s : State} {x0} (hF : F ||| 0 = F)  :
    JudgeKeeps F a (judgeClose x0 s) := by
  unfold judgeClose
  refine JudgeKeeps.mk ?_
  intro x1 x2 h0
  beta_reduce
  refine Keeps.p1 ?_
  assumption

theorem execSessClose_keeps {F : Nat} {a s : State} {x0} (hF : F ||| 58720264 = F) (h : Keeps F a s) :
    ∃ t, execSessClose x0 s = .next t ∧ Keeps F a t := by
  refine ⟨_, rfl, ?_⟩
  refine State.request_keeps (maskSub hF rfl) ?_ ?_
  · assumption
  · intro _ _
    beta_reduce
    refine judgeClose_keeps (maskSub hF rfl)

theorem judgePing_keeps {F : Nat} {a s : State} {x0} (hF : F ||| 0 = F)  :
    JudgeKeeps F a (judgePing x0 s) := by
  unfold judgePing
  refine JudgeKeeps.mk ?_
  intro x1 x2 h0
  beta_reduce
  refine Keeps.p1 ?_
  assumption

theorem execPing_keeps {F : Nat} {a s : State} {x0} (hF : F ||| 58720264 = F) (h : Keeps F a s) :
    ∃ t, execPing x0 s = .next t ∧ Keeps F a t := by
  refine ⟨_, rfl, ?_⟩
  refine State.request_keeps (maskSub hF rfl) ?_ ?_
  · assumption
  · intro _ _
    beta_reduce
    refine judgePing_keeps (maskSub hF rfl)

theorem judgeSubscribe_keeps {F : Nat} {a s : State} {x0 x1} (hF : F ||| 8 = F)  :
    JudgeKeeps F a (judgeSubscribe x0 x1 s) := by
  unfold judgeSubscribe
  refine JudgeKeeps.mk ?_
  intro x1 x2 h0
  beta_reduce
  refine Keeps.p1 ?_
  refine State.setSess_keeps (maskSub hF rfl) ?_
  assumption

theorem execSubscribe_keeps {F : Nat} {a s : State} {x0 x1} (hF : F ||| 58720264 = F) (h : Keeps F a s) :
    ∃ t, execSubscribe x0 x1 s = .next t ∧ Keeps F a t := by
  refine ⟨_, rfl, ?_⟩
  refine State.request_keeps (maskSub hF rfl) ?_ ?_
  · assumption
  · intro _ _
    beta_reduce
    refine judgeSubscribe_keeps (maskSub hF rfl)

theorem State.timeoutSession_keeps {F : Nat} {a s : State} {x1} (hF : F ||| 50331656 = F) (h : Keeps F a s) :
    Keeps F a (State.timeoutSession s x1) := by
  unfold State.timeoutSession
  refine Keeps.ite ?_ ?_
  · refine State.endSession_keeps (maskSub hF rfl) ?_
    assumption
  · assumption

theorem execSessionTimeout_keeps {F : Nat} {a s : State} {x0} (hF : F ||| 50331656 = F) (h : Keeps F a s) :
    ∃ t, execSessionTimeout x0 s = .next t ∧ Keeps F a t := by
  refine ⟨_, rfl, ?_⟩
  refine State.timeoutSession_keeps (maskSub hF rfl) ?_
  assumption

theorem State.delSess_keeps {F : Nat} {a s : State} {x1} (hF : F ||| 8 = F) (h : Keeps F a s) :
    Keeps F a (State.delSess s x1) := by
  unfold State.delSess
  refine Keeps.upd_zh (maskSub hF rfl) ?_
  assumption

theorem State.timeoutOpening_keeps {F : Nat} {a s : State} {x1} (hF : F ||| 33554440 = F) (h : Keeps F a s) :
    Keeps F a (State.timeoutOpening s x1) := by
  unfold State.timeoutOpening
  refine Keeps.ite ?_ ?_
  · refine State.delSess_keeps (maskSub hF rfl) ?_
    refine State.wr_keeps (maskSub hF rfl) ?_
    refine State.wr_keeps (maskSub hF rfl) ?_
    refine State.wr_keeps (maskSub hF rfl) ?_
    refine State.wr_keeps (maskSub hF rfl) ?_
    assumption
  · assumption

theorem execSessionOpenTimeout_keeps {F : Nat} {a s : State} {x0} (hF : F ||| 33554440 = F) (h : Keeps F a s) :
    ∃ t, execSessionOpenTimeout x0 s = .next t ∧ Keeps F a t := by
  refine ⟨_, rfl, ?_⟩
  refine State.timeoutOpening_keeps (maskSub hF rfl) ?_
  assumption

theorem claimRun_keeps {F : Nat} {a s : State} {x0 x1 x2 x3} (hF : F ||| 58720264 = F) (h : Keeps F a s) :
    Keeps F a (claimRun x0 x1 x2 x3 s).1 := by
  unfold claimRun
  split
  · refine Keeps.p1 ?_
    refine State.grant_keeps (maskSub hF rfl) ?_
    assumption
  · split
    · refine Keeps.p1 ?_
      refine State.renewLease_keeps (maskSub hF rfl) ?_
      assumption
    · split
      · refine Keeps.p1 ?_
        refine State.notice_keeps (maskSub hF rfl) ?_
        refine State.grant_keeps (maskSub hF rfl) ?_
        assumption
      · split
        · refine Keeps.p1 ?_
          refine State.notice_keeps (maskSub hF rfl) ?_
          refine State.grant_keeps (maskSub hF rfl) ?_
          assumption
        · refine Keeps.p1 ?_
          assumption

theorem judgeClaim_keeps {F : Nat} {a s : State} {x0 x1 x2} (hF : F ||| 58720264 = F)  :
    JudgeKeeps F a (judgeClaim x0 x1 x2 s) := by
  unfold judgeClaim
  refine JudgeKeeps.mk ?_
  intro x1 x2 h0
  beta_reduce
  refine claimRun_keeps (maskSub hF rfl) ?_
  assumption

theorem execOwnClaim_keeps {F : Nat} {a s : State} {x0 x1 x2} (hF : F ||| 58720264 = F) (h : Keeps F a s) :
    ∃ t, execOwnClaim x0 x1 x2 s = .next t ∧ Keeps F a t := by
  refine ⟨_, rfl, ?_⟩
  refine State.request_keeps (maskSub hF rfl) ?_ ?_
  · assumption
  · intro _ _
    beta_reduce
    refine judgeClaim_keeps (maskSub hF rfl)

theorem judgeHolder_keeps {F : Nat} {a s : State} {x0 x1 x2 x3} (hF : F ||| 0 = F) (hf : ∀ v0 v1, Keeps F a v1 → Keeps F a (x2 v0 v1).1) :
    JudgeKeeps F a (judgeHolder x0 x1 x2 x3 s) := by
  unfold judgeHolder
  refine JudgeKeeps.mk ?_
  intro x1 x2 h0
  beta_reduce
  refine hf _ _ ?_
  assumption

theorem judgeRenew_keeps {F : Nat} {a s : State} {x0 x1} (hF : F ||| 0 = F)  :
    JudgeKeeps F a (judgeRenew x0 x1 s) := by
  unfold judgeRenew
  refine judgeHolder_keeps (maskSub hF rfl) ?_
  intro x1 x2 h0
  beta_reduce
  refine Keeps.p1 ?_
  assumption

theorem execOwnRenew_keeps {F : Nat} {a s : State} {x0 x1} (hF : F ||| 58720264 = F) (h : Keeps F a s) :
    ∃ t, execOwnRenew x0 x1 s = .next t ∧ Keeps F a t := by
  refine ⟨_, rfl, ?_⟩
  refine State.request_keeps (maskSub hF rfl) ?_ ?_
  · assumption
  · intro _ _
    beta_reduce
    refine judgeRenew_keeps (maskSub hF rfl)

theorem judgeRelease_keeps {F : Nat} {a s : State} {x0 x1} (hF : F ||| 50331656 = F)  :
    JudgeKeeps F a (judgeRelease x0 x1 s) := by
  unfold judgeRelease
  refine judgeHolder_keeps (maskSub hF rfl) ?_
  intro x1 x2 h0
  beta_reduce
  refine Keeps.p1 ?_
  refine State.freeDomain_keeps (maskSub hF rfl) ?_
  assumption

theorem execOwnRelease_keeps {F : Nat} {a s : State} {x0 x1} (hF : F ||| 58720264 = F) (h : Keeps F a s) :
    ∃ t, execOwnRelease x0 x1 s = .next t ∧ Keeps F a t := by
  refine ⟨_, rfl, ?_⟩
  refine State.request_keeps (maskSub hF rfl) ?_ ?_
  · assumption
  · intro _ _
    beta_reduce
    refine judgeRelease_keeps (maskSub hF rfl)

theorem judgeHandover_keeps {F : Nat} {a s : State} {x0 x1 x2} (hF : F ||| 8 = F)  :
    JudgeKeeps F a (judgeHandover x0 x1 x2 s) := by
  unfold judgeHandover
  refine judgeHolder_keeps (maskSub hF rfl) ?_
  intro x1 x2 h0
  beta_reduce
  split
  · split
    · refine Keeps.p1 ?_
      refine Keeps.upd_zh (maskSub hF rfl) ?_
      assumption
    · refine Keeps.p1 ?_
      assumption
  · refine Keeps.p1 ?_
    assumption

theorem execOwnHandover_keeps {F : Nat} {a s : State} {x0 x1 x2} (hF : F ||| 58720264 = F) (h : Keeps F a s) :
    ∃ t, execOwnHandover x0 x1 x2 s = .next t ∧ Keeps F a t := by
  refine ⟨_, rfl, ?_⟩
  refine State.request_keeps (maskSub hF rfl) ?_ ?_
  · assumption
  · intro _ _
    beta_reduce
    refine judgeHandover_keeps (maskSub hF rfl)

theorem execHandoverOfferLapse_keeps {F : Nat} {a s : State} {x0} (hF : F ||| 8 = F) (h : Keeps F a s) :
    ∃ t, execHandoverOfferLapse x0 s = .next t ∧ Keeps F a t := by
  refine ⟨_, rfl, ?_⟩
  refine State.lapseOffer_keeps (maskSub hF rfl) ?_
  assumption

theorem judgeQuery_keeps {F : Nat} {a s : State} {x0} (hF : F ||| 0 = F)  :
    JudgeKeeps F a (judgeQuery x0 s) := by
  unfold judgeQuery
  refine JudgeKeeps.mk ?_
  intro x1 x2 h0
  beta_reduce
  refine Keeps.p1 ?_
  assumption

theorem execOwnQuery_keeps {F : Nat} {a s : State} {x0} (hF : F ||| 58720264 = F) (h : Keeps F a s) :
    ∃ t, execOwnQuery x0 s = .next t ∧ Keeps F a t := by
  refine ⟨_, rfl, ?_⟩
  refine State.request_keeps (maskSub hF rfl) ?_ ?_
  · assumption
  · intro _ _
    beta_reduce
    refine judgeQuery_keeps (maskSub hF rfl)

theorem execOwnerLeaseExpiry_keeps {F : Nat} {a s : State} {x0} (hF : F ||| 58720264 = F) (h : Keeps F a s) :
    ∃ t, execOwnerLeaseExpiry x0 s = .next t ∧ Keeps F a t := by
  refine ⟨_, rfl, ?_⟩
  refine State.expireLease_keeps (maskSub hF rfl) ?_
  assumption

theorem judgeStateReq_keeps {F : Nat} {a s : State} {x0 x1 x2} (hF : F ||| 16 = F)  :
    JudgeKeeps F a (judgeStateReq x0 x1 x2 s) := by
  unfold judgeStateReq
  refine JudgeKeeps.mk ?_
  intro x1 x2 h0
  beta_reduce
  split
  · refine Keeps.p1 ?_
    assumption
  · refine Keeps.p1 ?_
    refine Keeps.upd_sys (maskSub hF rfl) ?_
    assumption

theorem State.applyStateReq_keeps {F : Nat} {a s : State} {x1} (hF : F ||| 58720264 = F) (h : Keeps F a s) :
    Keeps F a (State.applyStateReq s x1) := by
  unfold State.applyStateReq
  split
  · refine Keeps.ite ?_ ?_
    · refine State.enter_keeps (maskSub hF rfl) ?_
      assumption
    · assumption
  · refine Keeps.ite ?_ ?_
    · refine State.finish_keeps (maskSub hF rfl) ?_
      assumption
    · refine Keeps.ite ?_ ?_
      · refine State.finish_keeps (maskSub hF rfl) ?_
        assumption
      · refine State.finish_keeps (maskSub hF rfl) ?_
        refine State.enter_keeps (maskSub hF rfl) ?_
        assumption

theorem State.applyStateReqs_keeps {F : Nat} {a s : State} (hF : F ||| 58720280 = F) (h : Keeps F a s) :
    Keeps F a (State.applyStateReqs s) := by
  unfold State.applyStateReqs
  refine Keeps.foldl ?_ ?_
  · refine Keeps.upd_sys (maskSub hF rfl) ?_
    assumption
  · intro x1 x2 h0
    beta_reduce
    refine State.applyStateReq_keeps (maskSub hF rfl) ?_
    assumption

theorem execStateReqCommission_keeps {F : Nat} {a s : State} {x0} (hF : F ||| 58720280 = F) (h : Keeps F a s) :
    ∃ t, execStateReqCommission x0 s = .next t ∧ Keeps F a t := by
  refine ⟨_, rfl, ?_⟩
  refine State.request_keeps (maskSub hF rfl) ?_ ?_
  · assumption
  · intro _ _
    beta_reduce
    refine judgeStateReq_keeps (maskSub hF rfl)

theorem execStateReqRun_keeps {F : Nat} {a s : State} {x0} (hF : F ||| 58720280 = F) (h : Keeps F a s) :
    ∃ t, execStateReqRun x0 s = .next t ∧ Keeps F a t := by
  refine ⟨_, rfl, ?_⟩
  refine State.request_keeps (maskSub hF rfl) ?_ ?_
  · assumption
  · intro _ _
    beta_reduce
    refine judgeStateReq_keeps (maskSub hF rfl)

theorem execStateReqManual_keeps {F : Nat} {a s : State} {x0} (hF : F ||| 58720280 = F) (h : Keeps F a s) :
    ∃ t, execStateReqManual x0 s = .next t ∧ Keeps F a t := by
  refine ⟨_, rfl, ?_⟩
  refine State.request_keeps (maskSub hF rfl) ?_ ?_
  · assumption
  · intro _ _
    beta_reduce
    refine judgeStateReq_keeps (maskSub hF rfl)

theorem execStateReqMaint_keeps {F : Nat} {a s : State} {x0} (hF : F ||| 58720280 = F) (h : Keeps F a s) :
    ∃ t, execStateReqMaint x0 s = .next t ∧ Keeps F a t := by
  refine ⟨_, rfl, ?_⟩
  refine State.request_keeps (maskSub hF rfl) ?_ ?_
  · assumption
  · intro _ _
    beta_reduce
    refine judgeStateReq_keeps (maskSub hF rfl)

theorem execStateReqLeave_keeps {F : Nat} {a s : State} {x0} (hF : F ||| 58720280 = F) (h : Keeps F a s) :
    ∃ t, execStateReqLeave x0 s = .next t ∧ Keeps F a t := by
  refine ⟨_, rfl, ?_⟩
  refine State.request_keeps (maskSub hF rfl) ?_ ?_
  · assumption
  · intro _ _
    beta_reduce
    refine judgeStateReq_keeps (maskSub hF rfl)

theorem judgeUnknown_keeps {F : Nat} {a s : State} {x0 x1} (hF : F ||| 0 = F)  :
    JudgeKeeps F a (judgeUnknown x0 x1 s) := by
  unfold judgeUnknown
  refine JudgeKeeps.mk ?_
  intro x1 x2 h0
  beta_reduce
  refine Keeps.p1 ?_
  assumption

theorem judgePayload_keeps {F : Nat} {a s : State} {x0 x1 x2} (hF : F ||| 0 = F)  :
    JudgeKeeps F a (judgePayload x0 x1 x2 s) := by
  unfold judgePayload
  refine JudgeKeeps.mk ?_
  intro x1 x2 h0
  beta_reduce
  refine Keeps.p1 ?_
  assumption

theorem execZhoideProtocolViolation_keeps {F : Nat} {a s : State} {x0 x1 x2} (hF : F ||| 58720264 = F) (h : Keeps F a s) :
    ∃ t, execZhoideProtocolViolation x0 x1 x2 s = .next t ∧ Keeps F a t := by
  cases x2 with
  | unknownCmd r cmd =>
    refine ⟨_, rfl, Keeps.ite h (State.request_keeps (maskSub hF rfl) h ?_)⟩
    intro _ _
    exact judgeUnknown_keeps (maskSub hF rfl)
  | badPayload r cmd offset =>
    refine ⟨_, rfl, Keeps.ite (State.request_keeps (maskSub hF rfl) h ?_) h⟩
    intro _ _
    exact judgePayload_keeps (maskSub hF rfl)
  | craoriViolation =>
    refine ⟨_, rfl, State.takeCra_keeps (maskSub hF rfl) h ?_⟩
    intro t ht
    exact State.violate_keeps (maskSub hF rfl) (State.count_keeps (maskSub hF rfl) ht)
  | craoriUnparseable =>
    refine ⟨_, rfl, State.takeCra_keeps (maskSub hF rfl) h ?_⟩
    intro t ht
    exact State.count_keeps (maskSub hF rfl) ht
  | craoriGcmFail =>
    refine ⟨_, rfl, State.takeCra_keeps (maskSub hF rfl) h ?_⟩
    intro t ht
    exact State.raise_keeps (maskSub hF rfl) (State.count_keeps (maskSub hF rfl) (State.count_keeps (maskSub hF rfl) ht))
  | gcmFail =>
    refine ⟨_, rfl, State.takePlain_keeps (maskSub hF rfl) h ?_⟩
    intro t ht
    exact State.raise_keeps (maskSub hF rfl) (State.count_keeps (maskSub hF rfl) (State.count_keeps (maskSub hF rfl) ht))
  | unparseable =>
    refine ⟨_, rfl, State.takePlain_keeps (maskSub hF rfl) h ?_⟩
    intro t ht
    exact State.count_keeps (maskSub hF rfl) ht
  | copyFrame =>
    refine ⟨_, rfl, State.takePlain_keeps (maskSub hF rfl) h ?_⟩
    intro t ht
    exact State.count_keeps (maskSub hF rfl) ht
  | oldFrame =>
    refine ⟨_, rfl, State.takePlain_keeps (maskSub hF rfl) h ?_⟩
    intro t ht
    exact State.count_keeps (maskSub hF rfl) ht
  | badLevel session cmd =>
    refine ⟨_, rfl, State.takePlain_keeps (maskSub hF rfl) h ?_⟩
    intro t ht
    exact State.protoError_keeps (maskSub hF rfl) ht
  | badCrc cmd =>
    refine ⟨_, rfl, State.takePlain_keeps (maskSub hF rfl) h ?_⟩
    intro t ht
    exact State.protoError_keeps (maskSub hF rfl) ht
  | badLength session cmd =>
    refine ⟨_, rfl, State.takePlain_keeps (maskSub hF rfl) h ?_⟩
    intro t ht
    exact State.protoError_keeps (maskSub hF rfl) ht
  | reservedEnc session cmd =>
    refine ⟨_, rfl, State.takePlain_keeps (maskSub hF rfl) h ?_⟩
    intro t ht
    exact State.protoError_keeps (maskSub hF rfl) ht
  | noSession cmd =>
    refine ⟨_, rfl, State.takePlain_keeps (maskSub hF rfl) h ?_⟩
    intro t ht
    exact State.protoError_keeps (maskSub hF rfl) ht

theorem State.quarSeconds_keeps {F : Nat} {a s : State} {x1} (hF : F ||| 50331656 = F) (h : Keeps F a s) :
    Keeps F a (State.quarSeconds s x1) := by
  unfold State.quarSeconds
  refine Keeps.foldl ?_ ?_
  · assumption
  · intro x1 x2 h0
    beta_reduce
    extract_lets +onlyGivenNames -underBinder -merge y3
    try clear_value y3
    refine Keeps.ite ?_ ?_
    · extract_lets +onlyGivenNames -underBinder -merge y4
      have hy4 : Keeps F a y4 := by
        unfold y4
        refine State.occur_keeps (maskSub hF rfl) ?_
        assumption
      try clear_value y4
      refine Keeps.upd_zh (maskSub hF rfl) ?_
      assumption
    · assumption

theorem State.quarTick_keeps {F : Nat} {a s : State} {x1} (hF : F ||| 50331656 = F) (h : Keeps F a s) :
    Keeps F a (State.quarTick s x1) := by
  unfold State.quarTick
  split
  · assumption
  · extract_lets +onlyGivenNames -underBinder -merge y0
    have hy0 : Keeps F a y0 := by
      unfold y0
      refine State.quarSeconds_keeps (maskSub hF rfl) ?_
      assumption
    try clear_value y0
    refine Keeps.ite ?_ ?_
    · extract_lets +onlyGivenNames -underBinder -merge y1
      try clear_value y1
      extract_lets +onlyGivenNames -underBinder -merge y2
      have hy2 : Keeps F a y2 := by
        unfold y2
        refine Keeps.upd_zh (maskSub hF rfl) ?_
        assumption
      try clear_value y2
      refine Keeps.foldl ?_ ?_
      · assumption
      · intro x4 x5 h3
        beta_reduce
        refine State.wr_keeps (maskSub hF rfl) ?_
        assumption
    · assumption

theorem execQuarantineEnd_keeps {F : Nat} {a s : State} {x0} (hF : F ||| 50331656 = F) (h : Keeps F a s) :
    ∃ t, execQuarantineEnd x0 s = .next t ∧ Keeps F a t := by
  refine ⟨_, rfl, ?_⟩
  refine State.quarTick_keeps (maskSub hF rfl) ?_
  assumption

theorem State.dropHeld_keeps {F : Nat} {a s : State} {x1 x2 x3 x4 x5 x6 x7} (hF : F ||| 58720264 = F) (h : Keeps F a s) :
    Keeps F a (State.dropHeld s x1 x2 x3 x4 x5 x6 x7) := by
  unfold State.dropHeld
  extract_lets +onlyGivenNames -underBinder -merge y0
  try clear_value y0
  refine State.finish_keeps (maskSub hF rfl) ?_
  refine State.unhold_keeps (maskSub hF rfl) ?_
  assumption

theorem State.dropAllHeld_keeps {F : Nat} {a s : State} (hF : F ||| 58720264 = F) (h : Keeps F a s) :
    Keeps F a (State.dropAllHeld s) := by
  unfold State.dropAllHeld
  refine Keeps.foldl ?_ ?_
  · assumption
  · intro x1 x2 h0
    beta_reduce
    refine Keeps.foldl ?_ ?_
    · assumption
    · intro x4 x5 h3
      beta_reduce
      split
      · refine State.dropHeld_keeps (maskSub hF rfl) ?_
        assumption
      · assumption

theorem State.timeoutHeld_keeps {F : Nat} {a s : State} {x1 x2} (hF : F ||| 58720264 = F) (h : Keeps F a s) :
    Keeps F a (State.timeoutHeld s x1 x2) := by
  unfold State.timeoutHeld
  split
  · assumption
  · refine Keeps.ite ?_ ?_
    · refine State.dropHeld_keeps (maskSub hF rfl) ?_
      refine State.raise_keeps (maskSub hF rfl) ?_
      refine State.count_keeps (maskSub hF rfl) ?_
      assumption
    · assumption

theorem execDeferTimeout_keeps {F : Nat} {a s : State} {x0 x1} (hF : F ||| 58720264 = F) (h : Keeps F a s) :
    ∃ t, execDeferTimeout x0 x1 s = .next t ∧ Keeps F a t := by
  refine ⟨_, rfl, ?_⟩
  refine State.timeoutHeld_keeps (maskSub hF rfl) ?_
  assumption

end Sys2Proof.Machine
end

