-- ==== Sys2Proof/Laws/Commands.lean ====
section
/-! SUPPORT. What a register write that is taken and a request that reaches its judgement do: the shared part of the commands that sessions
send. -/

namespace Sys2Proof.Machine

/-! ### Fields and words after an update -/

theorem State.fld_wr_ne (s : State) (g : Fld) (a : Nat) (w : Word) (h : g.addr ≠ a) : (s.wr a w).fld g = s.fld g := by
  simp only [State.fld, State.rd_wr_ne _ _ _ _ h]

theorem State.fld_countBy_ne (s : State) (g : Fld) (a n : Nat) (h : g.addr ≠ a) : (s.countBy a n).fld g = s.fld g := State.fld_wr_ne _ _ _ _ h
theorem State.fld_count_ne (s : State) (g : Fld) (a : Nat) (h : g.addr ≠ a) : (s.count a).fld g = s.fld g := State.fld_wr_ne _ _ _ _ h
theorem State.rd_countBy_ne (s : State) (b a n : Nat) (h : b ≠ a) : (s.countBy a n).rd b = s.rd b := State.rd_wr_ne _ _ _ _ h
theorem State.rd_countBy_self (s : State) (c n : Nat) : (s.countBy c n).rd c = satCount (s.rd c) n := State.rd_wr_self _ _ _
@[simp] theorem State.fld_send (s : State) (g : Fld) (o : Out) : (s.send o).fld g = s.fld g := rfl
@[simp] theorem State.rd_send (s : State) (a : Nat) (o : Out) : (s.send o).rd a = s.rd a := rfl

/-- A field's value fits its width. -/
theorem State.fld_lt (s : State) (f : Fld) : s.fld f < 2 ^ f.width := Nat.mod_lt _ (Nat.two_pow_pos _)

/-- A field's value cut to a width no smaller than its own. -/
theorem State.fld_mod (s : State) (f : Fld) (n : Nat) (h : f.width ≤ n) : s.fld f % 2 ^ n = s.fld f :=
  Nat.mod_eq_of_lt (lt_of_lt_of_le (s.fld_lt f) (Nat.pow_le_pow_right (by norm_num) h))

/-- The event's own bit as a field (R55). -/
theorem State.raise_bit (s : State) (f : Fld) (o : Nat) (l : List Nat) (t : Bool) (hc : eventCode f < 1024)
    (ha : eventWord f.addr = false) (hw : f.width = 1) (hl : f.lo < 32) : (s.raise f o l t).fld f = 1 := by
  simpa [State.on] using State.raise_on s f o l t hc ha hw hl

/-! ### Register writes -/

/-- A write that is taken acts in the state after its checks, and is answered OK. -/
theorem State.writeRow_taken {s : State} {k a : Nat} {v : Word} {ok : Bool} (f : State → State) (h : s.WriteTaken k a v ok) :
    s.writeRow k a v ok f = (f (s.afterChecks k a v)).send (.wrote k a 0 0 0) := by
  unfold State.writeRow State.writeRowWith
  rw [h.checks]
  dsimp only
  rw [if_pos (by rw [h.fields, h.cross]; rfl)]
  rfl

theorem WroteOk.send (s : State) (k a : Nat) : WroteOk (s.send (.wrote k a 0 0 0)) k a := rfl

/-- A write that is taken, of a word whose behaviour gives a status. -/
theorem State.writeRowWith_taken {s : State} {k a : Nat} {v : Word} {ok : Bool} (f : State → State × Nat × Nat) (h : s.WriteTaken k a v ok) :
    s.writeRowWith k a v ok f = (f (s.afterChecks k a v)).1.send (.wrote k a (f (s.afterChecks k a v)).2.1 0 (f (s.afterChecks k a v)).2.2) := by
  unfold State.writeRowWith
  rw [h.checks]
  dsimp only
  rw [if_pos (by rw [h.fields, h.cross]; rfl)]
  rfl

/-- The checks of a write change at most the lease of a domain. -/
theorem State.afterChecks_eq (s : State) (k a : Nat) (v : Word) : ∃ z, s.afterChecks k a v = { s with zh := z } := by
  unfold State.afterChecks State.renewLease
  split
  · exact ⟨_, rfl⟩
  · exact ⟨s.zh, rfl⟩

theorem State.afterChecks_keeps {F : Nat} {a s : State} {x1 x2 x3} (hF : F ||| 8 = F) (h : Keeps F a s) : Keeps F a (State.afterChecks s x1 x2 x3) := by
  unfold State.afterChecks
  split
  · exact State.renewLease_keeps hF h
  · exact h

@[simp] theorem State.afterChecks_rd (s : State) (k a : Nat) (v : Word) (b : Nat) : (s.afterChecks k a v).rd b = s.rd b := by
  unfold State.afterChecks State.renewLease
  split <;> rfl

@[simp] theorem State.afterChecks_fld (s : State) (k a : Nat) (v : Word) (f : Fld) : (s.afterChecks k a v).fld f = s.fld f := by
  simp only [State.fld, State.afterChecks_rd]

@[simp] theorem State.afterChecks_pending (s : State) (k a : Nat) (v : Word) : (s.afterChecks k a v).pending = s.pending := by
  obtain ⟨z, e⟩ := s.afterChecks_eq k a v
  rw [e]
@[simp] theorem State.afterChecks_regs (s : State) (k a : Nat) (v : Word) : (s.afterChecks k a v).regs = s.regs := by
  obtain ⟨z, e⟩ := s.afterChecks_eq k a v
  rw [e]
@[simp] theorem State.afterChecks_shadow (s : State) (k a : Nat) (v : Word) : (s.afterChecks k a v).shadow = s.shadow := by
  obtain ⟨z, e⟩ := s.afterChecks_eq k a v
  rw [e]
@[simp] theorem State.afterChecks_clk (s : State) (k a : Nat) (v : Word) : (s.afterChecks k a v).clk = s.clk := by
  obtain ⟨z, e⟩ := s.afterChecks_eq k a v
  rw [e]
@[simp] theorem State.afterChecks_servo (s : State) (k a : Nat) (v : Word) : (s.afterChecks k a v).servo = s.servo := by
  obtain ⟨z, e⟩ := s.afterChecks_eq k a v
  rw [e]
@[simp] theorem State.afterChecks_jobs (s : State) (k a : Nat) (v : Word) : (s.afterChecks k a v).jobs = s.jobs := by
  obtain ⟨z, e⟩ := s.afterChecks_eq k a v
  rw [e]
@[simp] theorem State.afterChecks_act (s : State) (k a : Nat) (v : Word) : (s.afterChecks k a v).act = s.act := by
  obtain ⟨z, e⟩ := s.afterChecks_eq k a v
  rw [e]
@[simp] theorem State.afterChecks_sys (s : State) (k a : Nat) (v : Word) : (s.afterChecks k a v).sys = s.sys := by
  obtain ⟨z, e⟩ := s.afterChecks_eq k a v
  rw [e]
@[simp] theorem State.afterChecks_firn (s : State) (k a : Nat) (v : Word) : (s.afterChecks k a v).firn = s.firn := by
  obtain ⟨z, e⟩ := s.afterChecks_eq k a v
  rw [e]
@[simp] theorem State.afterChecks_sec (s : State) (k a : Nat) (v : Word) : (s.afterChecks k a v).sec = s.sec := by
  obtain ⟨z, e⟩ := s.afterChecks_eq k a v
  rw [e]
@[simp] theorem State.afterChecks_waitWrites (s : State) (k a : Nat) (v : Word) : (s.afterChecks k a v).waitWrites = s.waitWrites := by
  obtain ⟨z, e⟩ := s.afterChecks_eq k a v
  rw [e]
@[simp] theorem State.afterChecks_wlow (s : State) (k a : Nat) (v : Word) : (s.afterChecks k a v).wlow = s.wlow := by
  obtain ⟨z, e⟩ := s.afterChecks_eq k a v
  rw [e]
@[simp] theorem State.afterChecks_stm (s : State) (k a : Nat) (v : Word) : (s.afterChecks k a v).stm = s.stm := by
  obtain ⟨z, e⟩ := s.afterChecks_eq k a v
  rw [e]
@[simp] theorem State.afterChecks_ice (s : State) (k a : Nat) (v : Word) : (s.afterChecks k a v).ice = s.ice := by
  obtain ⟨z, e⟩ := s.afterChecks_eq k a v
  rw [e]
@[simp] theorem State.afterChecks_tbl (s : State) (k a : Nat) (v : Word) : (s.afterChecks k a v).tbl = s.tbl := by
  obtain ⟨z, e⟩ := s.afterChecks_eq k a v
  rw [e]
@[simp] theorem State.afterChecks_plan (s : State) (k a : Nat) (v : Word) : (s.afterChecks k a v).plan = s.plan := by
  obtain ⟨z, e⟩ := s.afterChecks_eq k a v
  rw [e]
@[simp] theorem State.afterChecks_field (s : State) (k a : Nat) (v : Word) : (s.afterChecks k a v).field = s.field := by
  obtain ⟨z, e⟩ := s.afterChecks_eq k a v
  rw [e]
@[simp] theorem State.afterChecks_lop (s : State) (k a : Nat) (v : Word) : (s.afterChecks k a v).lop = s.lop := by
  obtain ⟨z, e⟩ := s.afterChecks_eq k a v
  rw [e]
@[simp] theorem State.afterChecks_acts (s : State) (k a : Nat) (v : Word) : (s.afterChecks k a v).acts = s.acts := by
  obtain ⟨z, e⟩ := s.afterChecks_eq k a v
  rw [e]
@[simp] theorem State.afterChecks_prt (s : State) (k a : Nat) (v : Word) : (s.afterChecks k a v).prt = s.prt := by
  obtain ⟨z, e⟩ := s.afterChecks_eq k a v
  rw [e]
@[simp] theorem State.afterChecks_can (s : State) (k a : Nat) (v : Word) : (s.afterChecks k a v).can = s.can := by
  obtain ⟨z, e⟩ := s.afterChecks_eq k a v
  rw [e]
@[simp] theorem State.afterChecks_pair (s : State) (k a : Nat) (v : Word) : (s.afterChecks k a v).pair = s.pair := by
  obtain ⟨z, e⟩ := s.afterChecks_eq k a v
  rw [e]
@[simp] theorem State.afterChecks_lst (s : State) (k a : Nat) (v : Word) : (s.afterChecks k a v).lst = s.lst := by
  obtain ⟨z, e⟩ := s.afterChecks_eq k a v
  rw [e]
@[simp] theorem State.afterChecks_fed (s : State) (k a : Nat) (v : Word) : (s.afterChecks k a v).fed = s.fed := by
  obtain ⟨z, e⟩ := s.afterChecks_eq k a v
  rw [e]
@[simp] theorem State.afterChecks_dia (s : State) (k a : Nat) (v : Word) : (s.afterChecks k a v).dia = s.dia := by
  obtain ⟨z, e⟩ := s.afterChecks_eq k a v
  rw [e]
@[simp] theorem State.afterChecks_out (s : State) (k a : Nat) (v : Word) : (s.afterChecks k a v).out = s.out := by
  obtain ⟨z, e⟩ := s.afterChecks_eq k a v
  rw [e]
@[simp] theorem State.afterChecks_fresh (s : State) (k a : Nat) (v : Word) : (s.afterChecks k a v).fresh = s.fresh := by
  obtain ⟨z, e⟩ := s.afterChecks_eq k a v
  rw [e]

/-- A plain write touches no other word. -/
theorem State.rd_plainWrite_ne (s : State) (a b : Nat) (v : Word) (h : b ≠ a) : (s.plainWrite a v).rd b = s.rd b := by
  unfold State.plainWrite
  split
  · exact State.rd_wr_ne _ _ _ _ h
  · rfl

theorem State.fld_plainWrite_ne (s : State) (g : Fld) (a : Nat) (v : Word) (h : g.addr ≠ a) : (s.plainWrite a v).fld g = s.fld g := by
  simp only [State.fld, State.rd_plainWrite_ne _ _ _ _ h]

/-- The word a plain write leaves, by the access masks of its row. -/
theorem State.rd_plainWrite_self (s : State) (a : Nat) (v : Word) (r : RegRow) (h : rowAt a = some r) :
    (s.plainWrite a v).rd a = writeMasked (s.rd a) v r.rw r.w1c := by
  unfold State.plainWrite
  rw [h]
  exact State.rd_wr_self _ _ _

/-- A plain write reads the word it writes and no other. -/
theorem State.rd_plainWrite_congr (s t : State) (a : Nat) (v : Word) (h : t.rd a = s.rd a) : (t.plainWrite a v).rd a = (s.plainWrite a v).rd a := by
  unfold State.plainWrite
  split
  · rw [State.rd_wr_self, State.rd_wr_self, h]
  · exact h

/-- A field that software writes takes the value written. -/
theorem fieldOf_writeMasked (old v : Word) (rw w1c lo n : Nat) (h : ∀ i < n, (BitVec.ofNat 32 rw).getLsbD (lo + i) = true) :
    fieldOf (writeMasked old v rw w1c) lo n = fieldOf v lo n := by
  apply Nat.eq_of_testBit_eq
  intro i
  simp only [fieldOf, Nat.testBit_mod_two_pow, Nat.testBit_div_two_pow, BitVec.testBit_toNat]
  by_cases hi : i < n
  · have hb := h i hi
    rw [Nat.add_comm i lo]
    have hl : lo + i < 32 := by
      by_contra hc
      rw [BitVec.getLsbD_of_ge _ _ (by omega)] at hb
      cases hb
    simp only [writeMasked, BitVec.getLsbD_or, BitVec.getLsbD_and, BitVec.getLsbD_not, hb, hl, decide_true, Bool.and_true, Bool.not_true, Bool.and_false, Bool.false_and, Bool.false_or]
  · simp only [hi, decide_false, Bool.false_and]
theorem State.fld_plainWrite_self (s : State) (f : Fld) (v : Word) (r : RegRow) (h : rowAt f.addr = some r)
    (hm : ∀ i < f.width, (BitVec.ofNat 32 r.rw).getLsbD (f.lo + i) = true) : (s.plainWrite f.addr v).fld f = fieldOf v f.lo f.width := by
  unfold State.fld
  rw [State.rd_plainWrite_self _ _ _ r h]
  exact fieldOf_writeMasked _ _ _ _ _ _ hm
/-- Every bit of a field is one that software writes. -/
def written (f : Fld) : Bool := (rowAt f.addr).elim false (fun r => (List.range f.width).all (fun i => (BitVec.ofNat 32 r.rw).getLsbD (f.lo + i)))
theorem State.fld_plainWrite (s : State) (f : Fld) (a : Nat) (v : Word) (ha : f.addr = a) (h : written f = true) : (s.plainWrite a v).fld f = fieldOf v f.lo f.width := by
  subst ha
  unfold written at h
  cases hr : rowAt f.addr with
  | none => rw [hr] at h; cases h
  | some r =>
    rw [hr] at h
    refine State.fld_plainWrite_self s f v r hr (fun i hi => ?_)
    exact List.all_eq_true.mp h i (List.mem_range.mpr hi)

/-! ### Requests -/

/-- The frame of a request that reaches its judgement is taken, and its number is new (R400, R405). -/
theorem State.takeFrame_fresh {s u : State} {q : Req} {k code : Nat} {fits : Nat → State → Bool} {go : Nat → Nat → Nat → State → State}
    (h : s.Reaches q k u) (hf : fits k (s.onFrame k q) = true) :
    ∃ hh w, u = (s.onFrame k q).arrive k hh w q ∧ s.takeFrame q code fits go = go k hh w (s.onFrame k q) := by
  obtain ⟨hp, hq, hs, hd, ⟨hh, w, hv, rfl⟩, -, -, -⟩ := h
  refine ⟨hh, w, rfl, ?_⟩
  have h1 : (!q.defer && q.deferMs != 0) = false := by
    rcases hd with hd | hd <;> simp [hd]
  unfold State.takeFrame
  unfold State.onFrame at *
  simp only [hp, hq, hs, h1, hf, hv, Bool.not_true, Bool.false_eq_true, if_false, Option.isSome_none, Bool.or_false]

/-- A request that reaches its judgement and passes it executes. -/
theorem State.request_taken {s u : State} {i : Instr} {q : Req} {k code : Nat} {j : Nat → State → Judge} (h : s.Reaches q k u)
    (hj : (j k u).first q u = none) : s.request i q code j = u.runJudge k q (j k u) 0 := by
  unfold State.request
  obtain ⟨hh, w, rfl, e⟩ := State.takeFrame_fresh (code := code) (fits := fun _ _ => true)
    (go := fun k h w s => let s := s.arrive k h w q; s.handle i k q (j k s)) h rfl
  rw [e]
  dsimp only
  unfold State.handle
  obtain ⟨-, -, -, -, -, he, hh', hl⟩ := h
  dsimp only
  generalize hm : State.mailbox _ k q.mbox = m at he hh' hl
  rw [if_neg (by simp [he])]
  have h2 : m.held.filter (fun h => h.tag == q.tag) = none := by
    cases hx : m.held with
    | none => rfl
    | some x => rw [hx] at hh'; simpa [Option.filter, bne] using hh'
  have h3 : m.last.filter (fun a => a.tag == q.tag) = none := by
    cases hx : m.last with
    | none => rfl
    | some x => rw [hx] at hl; simpa [Option.filter, bne] using hl
  rw [h2]
  dsimp only
  unfold State.judgeNew
  rw [h3]
  dsimp only
  rw [if_neg (by simp [he]), hj]

/-- A protective command that reaches its judgement and passes it executes (R432). -/
theorem State.requestNow_taken {s u : State} {q : Req} {k code : Nat} {j : Nat → State → Judge} (h : s.Reaches q k u)
    (hj : (j k u).first { q with defer := false } u = none) :
    s.requestNow q code j =
      (let v := ((j k u).run 0 ((j k u).uses.foldl (fun s d => s.renewLease d) u)).1
       let a := answerOf q code 0 0 0 [] v
       (v.setMailbox k q.mbox { v.mailbox k q.mbox with last := some a }).emit k (q.net, false) a) := by
  unfold State.requestNow
  obtain ⟨hh, w, rfl, e⟩ := State.takeFrame_fresh (code := code) (fits := fun _ _ => true)
    (go := fun k h w s => let s := s.arrive k h w q; s.executeNow k q code (j k s)) h rfl
  rw [e]
  dsimp only
  unfold State.executeNow
  have h3 : ∀ m : Option Answer, m.all (fun a => a.tag != q.tag) = true → m.filter (fun a => a.tag == q.tag) = none := by
    intro m hm
    cases m with
    | none => rfl
    | some x => simpa [Option.filter, bne] using hm
  dsimp only
  rw [h3 _ h.last]
  simp only [hj]

/-- The sessions' part of a request's arrival is all that it changes beside its port's count of frames. -/
theorem State.Reaches.eq {s u : State} {q : Req} {k : Nat} (h : s.Reaches q k u) : ∃ z, u = { s.countRx q.port with zh := z } := by
  obtain ⟨x, w, -, e⟩ := h.fresh
  unfold State.onFrame State.arrive State.heard at e
  cases hn : q.net <;> rw [hn] at e <;> exact ⟨_, e⟩

/-- The leases that a request renews are of the sessions' part. -/
theorem renewAll_eq (l : List Nat) (s : State) : ∃ z, l.foldl (fun (s : State) d => s.renewLease d) s = { s with zh := z } := by
  induction l generalizing s with
  | nil => exact ⟨s.zh, rfl⟩
  | cons d l ih =>
    obtain ⟨z, e⟩ := ih (s.renewLease d)
    exact ⟨z, e.trans rfl⟩

theorem State.denied_ok (s : State) (code l d : Nat) : s.denied code ⟨0, l, d⟩ = s := rfl

/-- An answer leaves last on the network that its request came in on (R402). -/
theorem State.emit_head (s : State) (k : Nat) (n : Net × Bool) (a : Answer) :
    (s.emit k n a).out.head? = some (.answer n.1 { a with level := fieldOf (s.rd (Reg.SS_LEVEL k)) 0 8, seq := (s.sess k).txNext }) := by
  unfold State.emit
  dsimp only
  split <;> rfl

/-! ### What a change leaves alone -/

/-- The bit of a part in a mask of `Keeps`. -/
def Part.bit (p : Part) : Nat :=
  match p with
  | .servo => 1
  | .jobs => 2
  | .act => 4
  | .zh => 8
  | .sys => 16
  | .sec => 32
  | .waitWrites => 64
  | .wlow => 128
  | .stm => 256
  | .ice => 512
  | .tbl => 1024
  | .plan => 2048
  | .field => 4096
  | .lop => 8192
  | .acts => 16384
  | .prt => 32768
  | .can => 65536
  | .pair => 131072
  | .lst => 262144
  | .fed => 524288
  | .dia => 1048576
  | .shadow => 2097152
  | .clk => 4194304
  | .out => 8388608
  | .firn => 16777216
  | .regs => 33554432
  | .fresh => 67108864

theorem Keeps.same {F : Nat} {s t : State} (h : Keeps F s t) (p : Part) (hp : F ||| p.bit ≠ F) : p.Same s t := by
  cases p
  · exact h.servo.resolve_left hp
  · exact h.jobs.resolve_left hp
  · exact h.act.resolve_left hp
  · exact h.zh.resolve_left hp
  · exact h.sys.resolve_left hp
  · exact h.sec.resolve_left hp
  · exact h.waitWrites.resolve_left hp
  · exact h.wlow.resolve_left hp
  · exact h.stm.resolve_left hp
  · exact h.ice.resolve_left hp
  · exact h.tbl.resolve_left hp
  · exact h.plan.resolve_left hp
  · exact h.field.resolve_left hp
  · exact h.lop.resolve_left hp
  · exact h.acts.resolve_left hp
  · exact h.prt.resolve_left hp
  · exact h.can.resolve_left hp
  · exact h.pair.resolve_left hp
  · exact h.lst.resolve_left hp
  · exact h.fed.resolve_left hp
  · exact h.dia.resolve_left hp
  · exact h.shadow.resolve_left hp
  · exact h.clk.resolve_left hp
  · exact h.out.resolve_left hp
  · exact h.firn.resolve_left hp
  · exact h.regs.resolve_left hp
  · exact h.fresh.resolve_left hp

/-- A change within a mask leaves alone every part whose bit is not in it. -/
theorem Keeps.only {F : Nat} {s t : State} (h : Keeps F s t) (ps : List Part) (hps : ∀ p, p ∉ ps → F ||| p.bit ≠ F) : Only ps s t :=
  ⟨h.pending, fun p hp => h.same p (hps p hp)⟩

theorem Only.trans {ps : List Part} {a b c : State} (h : Only ps a b) (k : Only ps b c) : Only ps a c := by
  refine ⟨k.1.trans h.1, ?_⟩
  intro p hp
  have x := h.2 p hp
  have y := k.2 p hp
  cases p <;> exact Eq.trans y x

theorem Only.mono {ps qs : List Part} {a b : State} (h : Only ps a b) (k : ∀ p ∈ ps, p ∈ qs) : Only qs a b :=
  ⟨h.1, fun p hp => h.2 p (fun x => hp (k p x))⟩

theorem Same.trans {ws : List Nat} {a b c : State} (h : Same a b ws) (k : Same b c ws) : Same a c ws :=
  fun x he hw => (k x he hw).trans (h x he hw)

/-- An answer at once with OK: what is sent, and what else of the state it changes. -/
theorem State.finish_ok (s : State) (k : Nat) (q : Req) (code d : Nat) (body : List Nat) :
    AnsweredOk (s.finish k q code 0 0 d body) q code body := by
  unfold State.finish AnsweredOk
  rw [State.denied_ok]
  dsimp only
  rw [State.emit_head]
  exact ⟨_, _, rfl, rfl, rfl, rfl, rfl, rfl, rfl⟩

@[simp] theorem State.emit_rd (s : State) (k : Nat) (n : Net × Bool) (a : Answer) (b : Nat) : (s.emit k n a).rd b = s.rd b := by
  unfold State.emit
  dsimp only
  split <;> rfl
@[simp] theorem State.setSess_rd (s : State) (k : Nat) (x : Session) (b : Nat) : (s.setSess k x).rd b = s.rd b := rfl
@[simp] theorem State.setMailbox_rd (s : State) (k m : Nat) (x : Mbox) (b : Nat) : (s.setMailbox k m x).rd b = s.rd b := rfl

theorem State.setBit_rd_ne (s : State) (f : Fld) (n : Nat) (v : Bool) (b : Nat) (h : b ≠ f.addr) : (s.setBit f n v).rd b = s.rd b :=
  State.rd_set_ne _ _ _ _ h

theorem State.finish_same (s : State) (k : Nat) (q : Req) (code d : Nat) (body : List Nat) :
    Same s (s.finish k q code 0 0 d body) [Reg.SS_MBOX k] := by
  unfold State.finish
  rw [State.denied_ok]
  intro a _ hw
  simp only [List.mem_cons, List.not_mem_nil, or_false] at hw
  dsimp only
  rw [State.emit_rd]
  split
  · rw [State.setBit_rd_ne _ _ _ _ _ hw, State.setMailbox_rd]
  · exact State.setMailbox_rd _ _ _ _ _

end Sys2Proof.Machine
end

