-- ==== Sys2Proof/Laws/KeepsTime.lean ====
section
/-! SUPPORT. What each operation and each command of time, actions and streams may change, as `Keeps` says it. -/

namespace Sys2Proof.Machine

/-! ### Time -/

theorem State.anchor_keeps {F : Nat} {a s : State} {x1} (hF : F ||| 50331648 = F) (h : Keeps F a s) :
    Keeps F a (State.anchor s x1) := by
  unfold State.anchor
  extract_lets +onlyGivenNames -underBinder -merge y0
  try clear_value y0
  extract_lets +onlyGivenNames -underBinder -merge y1
  extract_lets +onlyGivenNames -underBinder -merge y2
  have hy2 : Keeps F a y2 := by
    unfold y2
    refine Keeps.upd_firn (maskSub hF rfl) (FirnStep.of_eq rfl rfl rfl rfl rfl) ?_
    assumption
  try clear_value y2
  refine State.set_keeps (maskSub hF rfl) ?_
  assumption

theorem State.snapshot_keeps {F : Nat} {a s : State} (hF : F ||| 37748736 = F) (h : Keeps F a s) :
    Keeps F a (State.snapshot s) := by
  unfold State.snapshot
  refine Keeps.ite ?_ ?_
  · assumption
  · extract_lets +onlyGivenNames -underBinder -merge y0
    try clear_value y0
    extract_lets +onlyGivenNames -underBinder -merge y1
    extract_lets +onlyGivenNames -underBinder -merge y2
    have hy2 : Keeps F a y2 := by
      unfold y2
      refine Keeps.upd_clk (maskSub hF rfl) le_rfl ?_
      assumption
    try clear_value y2
    extract_lets +onlyGivenNames -underBinder -merge y3
    have hy3 : Keeps F a y3 := by
      unfold y3
      refine Keeps.foldl ?_ ?_
      · assumption
      · intro x5 x6 h4
        beta_reduce
        refine Keeps.ite ?_ ?_
        · extract_lets +onlyGivenNames -underBinder -merge y7
          have hy7 : Keeps F a y7 := by
            unfold y7
            refine Keeps.foldl ?_ ?_
            · assumption
            · intro x9 x10 h8
              beta_reduce
              refine State.wr_keeps (maskSub hF rfl) ?_
              assumption
          try clear_value y7
          refine State.wr_keeps (maskSub hF rfl) ?_
          assumption
        · assumption
    try clear_value y3
    refine Keeps.ite ?_ ?_
    · assumption
    · refine State.wr_keeps (maskSub hF rfl) ?_
      refine State.wr_keeps (maskSub hF rfl) ?_
      refine State.wr_keeps (maskSub hF rfl) ?_
      assumption

theorem State.requestSnapshot_keeps {F : Nat} {a s : State} (hF : F ||| 4194304 = F) (h : Keeps F a s) :
    Keeps F a (State.requestSnapshot s) := by
  unfold State.requestSnapshot
  extract_lets +onlyGivenNames -underBinder -merge y0
  try clear_value y0
  refine Keeps.ite ?_ ?_
  · assumption
  · refine Keeps.upd_clk (maskSub hF rfl) le_rfl ?_
    assumption

theorem State.snapshotNow_keeps {F : Nat} {a s : State} (hF : F ||| 37748736 = F) (h : Keeps F a s) :
    Keeps F a (State.snapshotNow s) := by
  unfold State.snapshotNow
  refine Keeps.ite ?_ ?_
  · refine State.snapshot_keeps (maskSub hF rfl) ?_
    assumption
  · assumption

theorem execSnapshotRequest_keeps {F : Nat} {a s : State} {x0} (hF : F ||| 62914568 = F) (h : Keeps F a s) :
    ∃ t, execSnapshotRequest x0 s = .next t ∧ Keeps F a t := by
  refine ⟨_, rfl, ?_⟩
  refine State.writeRow_keeps (maskSub hF rfl) ?_ ?_
  · assumption
  · intro x1 h0
    beta_reduce
    refine State.requestSnapshot_keeps (maskSub hF rfl) ?_
    assumption

theorem State.setPtp_keeps {F : Nat} {a s : State} {x1 x2} (hF : F ||| 1 = F) (h : Keeps F a s) :
    Keeps F a (State.setPtp s x1 x2) := by
  unfold State.setPtp
  split
  · refine Keeps.upd_servo (maskSub hF rfl) ?_
    assumption
  · refine Keeps.upd_servo (maskSub hF rfl) ?_
    assumption

theorem State.toAcquire_keeps {F : Nat} {a s : State} (hF : F ||| 50331649 = F) (h : Keeps F a s) :
    Keeps F a (State.toAcquire s) := by
  unfold State.toAcquire
  extract_lets +onlyGivenNames -underBinder -merge y0
  have hy0 : Keeps F a y0 := by
    unfold y0
    refine Keeps.ite ?_ ?_
    · refine State.raise_keeps (maskSub hF rfl) ?_
      assumption
    · assumption
  try clear_value y0
  refine State.wr_keeps (maskSub hF rfl) ?_
  refine State.set_keeps (maskSub hF rfl) ?_
  refine Keeps.upd_servo (maskSub hF rfl) ?_
  assumption

theorem State.toHoldover_keeps {F : Nat} {a s : State} (hF : F ||| 50331649 = F) (h : Keeps F a s) :
    Keeps F a (State.toHoldover s) := by
  unfold State.toHoldover
  extract_lets +onlyGivenNames -underBinder -merge y0
  try clear_value y0
  extract_lets +onlyGivenNames -underBinder -merge y1
  have hy1 : Keeps F a y1 := by
    unfold y1
    refine Keeps.upd_servo (maskSub hF rfl) ?_
    assumption
  try clear_value y1
  refine State.set_keeps (maskSub hF rfl) ?_
  refine State.raise_keeps (maskSub hF rfl) ?_
  assumption

theorem State.toFreerun_keeps {F : Nat} {a s : State} (hF : F ||| 50331649 = F) (h : Keeps F a s) :
    Keeps F a (State.toFreerun s) := by
  unfold State.toFreerun
  extract_lets +onlyGivenNames -underBinder -merge y0
  have hy0 : Keeps F a y0 := by
    unfold y0
    refine Keeps.ite ?_ ?_
    · refine State.raise_keeps (maskSub hF rfl) ?_
      assumption
    · assumption
  try clear_value y0
  refine State.wr_keeps (maskSub hF rfl) ?_
  refine State.set_keeps (maskSub hF rfl) ?_
  refine Keeps.upd_servo (maskSub hF rfl) ?_
  assumption

theorem State.watchApart_keeps {F : Nat} {a s : State} (hF : F ||| 1 = F) (h : Keeps F a s) :
    Keeps F a (State.watchApart s) := by
  unfold State.watchApart
  extract_lets +onlyGivenNames -underBinder -merge y0
  try clear_value y0
  refine Keeps.ite ?_ ?_
  · split
    · assumption
    · refine Keeps.upd_servo (maskSub hF rfl) ?_
      assumption
  · refine Keeps.upd_servo (maskSub hF rfl) ?_
    assumption

theorem State.showLocks_keeps {F : Nat} {a s : State} (hF : F ||| 33554433 = F) (h : Keeps F a s) :
    Keeps F a (State.showLocks s) := by
  unfold State.showLocks
  refine State.watchApart_keeps (maskSub hF rfl) ?_
  refine State.setB_keeps (maskSub hF rfl) ?_
  refine State.setB_keeps (maskSub hF rfl) ?_
  assumption

theorem State.switchTo_keeps {F : Nat} {a s : State} {x1} (hF : F ||| 50331649 = F) (h : Keeps F a s) :
    Keeps F a (State.switchTo s x1) := by
  unfold State.switchTo
  extract_lets +onlyGivenNames -underBinder -merge y0
  have hy0 : Keeps F a y0 := by
    unfold y0
    refine State.setB_keeps (maskSub hF rfl) ?_
    assumption
  try clear_value y0
  extract_lets +onlyGivenNames -underBinder -merge y1
  have hy1 : Keeps F a y1 := by
    unfold y1
    refine Keeps.ite ?_ ?_
    · refine State.raise_keeps (maskSub hF rfl) ?_
      assumption
    · assumption
  try clear_value y1
  refine Keeps.ite ?_ ?_
  · refine State.toAcquire_keeps (maskSub hF rfl) ?_
    refine State.showLocks_keeps (maskSub hF rfl) ?_
    refine State.setPtp_keeps (maskSub hF rfl) ?_
    assumption
  · assumption

theorem State.servoJudge_keeps {F : Nat} {a s : State} (hF : F ||| 50331649 = F) (h : Keeps F a s) :
    Keeps F a (State.servoJudge s) := by
  unfold State.servoJudge
  extract_lets +onlyGivenNames -underBinder -merge y0
  have hy0 : Keeps F a y0 := by
    unfold y0
    refine State.showLocks_keeps (maskSub hF rfl) ?_
    assumption
  refine Keeps.ite ?_ ?_
  · refine Keeps.ite ?_ ?_
    · assumption
    · refine State.toFreerun_keeps (maskSub hF rfl) ?_
      assumption
  · extract_lets +onlyGivenNames -underBinder -merge y1
    extract_lets +onlyGivenNames -underBinder -merge y2
    have hy2 : Keeps F a y2 := by
      unfold y2
      refine Keeps.ite ?_ ?_
      · assumption
      · refine State.switchTo_keeps (maskSub hF rfl) ?_
        assumption
    extract_lets +onlyGivenNames -underBinder -merge y3
    extract_lets +onlyGivenNames -underBinder -merge y4
    have hy4 : Keeps F a y4 := by
      unfold y4
      refine Keeps.upd_servo (maskSub hF rfl) ?_
      assumption
    extract_lets +onlyGivenNames -underBinder -merge y5
    split
    · refine Keeps.ite ?_ ?_
      · assumption
      · refine Keeps.ite ?_ ?_
        · refine State.toHoldover_keeps (maskSub hF rfl) ?_
          assumption
        · refine State.toAcquire_keeps (maskSub hF rfl) ?_
          assumption
    · refine Keeps.ite ?_ ?_
      · refine State.set_keeps (maskSub hF rfl) ?_
        assumption
      · assumption
    · refine Keeps.ite ?_ ?_
      · extract_lets +onlyGivenNames -underBinder -merge y6
        have hy6 : Keeps F a y6 := by
          unfold y6
          refine State.toAcquire_keeps (maskSub hF rfl) ?_
          assumption
        refine Keeps.ite ?_ ?_
        · refine State.set_keeps (maskSub hF rfl) ?_
          assumption
        · assumption
      · assumption

theorem State.lostMaster_keeps {F : Nat} {a s : State} {x1} (hF : F ||| 50331649 = F) (h : Keeps F a s) :
    Keeps F a (State.lostMaster s x1) := by
  unfold State.lostMaster
  refine Keeps.ite ?_ ?_
  · refine State.toHoldover_keeps (maskSub hF rfl) ?_
    refine State.showLocks_keeps (maskSub hF rfl) ?_
    assumption
  · refine State.servoJudge_keeps (maskSub hF rfl) ?_
    assumption

theorem State.loseMaster_keeps {F : Nat} {a s : State} {x1} (hF : F ||| 50331649 = F) (h : Keeps F a s) :
    Keeps F a (State.loseMaster s x1) := by
  unfold State.loseMaster
  refine State.lostMaster_keeps (maskSub hF rfl) ?_
  refine State.setPtp_keeps (maskSub hF rfl) ?_
  assumption

theorem State.countPtp_keeps {F : Nat} {a s : State} {x1 x2} (hF : F ||| 33554432 = F) (h : Keeps F a s) :
    Keeps F a (State.countPtp s x1 x2) := by
  unfold State.countPtp
  refine Keeps.ite ?_ ?_
  · refine State.countRx_keeps (maskSub hF rfl) ?_
    assumption
  · assumption

theorem execPtpAnnounce_keeps {F : Nat} {a s : State} {x0 x1 x2} (hF : F ||| 50331649 = F) (h : Keeps F a s) :
    ∃ t, execPtpAnnounce x0 x1 x2 s = .next t ∧ Keeps F a t := by
  refine ⟨_, rfl, ?_⟩
  extract_lets +onlyGivenNames -underBinder -merge y0
  have hy0 : Keeps F a y0 := by
    unfold y0
    refine State.countPtp_keeps (maskSub hF rfl) ?_
    assumption
  try clear_value y0
  refine Keeps.ite ?_ ?_
  · extract_lets +onlyGivenNames -underBinder -merge y1
    try clear_value y1
    extract_lets +onlyGivenNames -underBinder -merge y2
    try clear_value y2
    refine State.servoJudge_keeps (maskSub hF rfl) ?_
    refine State.setPtp_keeps (maskSub hF rfl) ?_
    assumption
  · assumption

theorem execAnnounceReceiptTimeout_keeps {F : Nat} {a s : State} {x0} (hF : F ||| 50331649 = F) (h : Keeps F a s) :
    ∃ t, execAnnounceReceiptTimeout x0 s = .next t ∧ Keeps F a t := by
  refine ⟨_, rfl, ?_⟩
  extract_lets +onlyGivenNames -underBinder -merge y0
  try clear_value y0
  extract_lets +onlyGivenNames -underBinder -merge y1
  try clear_value y1
  refine Keeps.ite ?_ ?_
  · refine State.lostMaster_keeps (maskSub hF rfl) ?_
    refine State.setPtp_keeps (maskSub hF rfl) ?_
    assumption
  · assumption

theorem execHoldoverExpiry_keeps {F : Nat} {a s : State} (hF : F ||| 50331649 = F) (h : Keeps F a s) :
    ∃ t, execHoldoverExpiry s = .next t ∧ Keeps F a t := by
  refine ⟨_, rfl, ?_⟩
  refine Keeps.ite ?_ ?_
  · refine State.raise_keeps (maskSub hF rfl) ?_
    refine State.toFreerun_keeps (maskSub hF rfl) ?_
    assumption
  · assumption

theorem execInstanceDisagree_keeps {F : Nat} {a s : State} (hF : F ||| 50331649 = F) (h : Keeps F a s) :
    ∃ t, execInstanceDisagree s = .next t ∧ Keeps F a t := by
  refine ⟨_, rfl, ?_⟩
  split
  · refine Keeps.ite ?_ ?_
    · refine State.raise_keeps (maskSub hF rfl) ?_
      refine Keeps.upd_servo (maskSub hF rfl) ?_
      assumption
    · assumption
  · assumption

theorem State.setJob_keeps {F : Nat} {a s : State} {x1 x2} (hF : F ||| 2 = F) (h : Keeps F a s) :
    Keeps F a (State.setJob s x1 x2) := by
  unfold State.setJob
  refine Keeps.upd_jobs (maskSub hF rfl) ?_
  assumption

theorem State.setArmed_keeps {F : Nat} {a s : State} {x1} (hF : F ||| 33554436 = F) (h : Keeps F a s) :
    Keeps F a (State.setArmed s x1) := by
  unfold State.setArmed
  refine State.set_keeps (maskSub hF rfl) ?_
  refine Keeps.upd_act (maskSub hF rfl) ?_
  assumption

theorem State.endEntry_keeps {F : Nat} {a s : State} {x1 x2 x3} (hF : F ||| 33554436 = F) (h : Keeps F a s) :
    Keeps F a (State.endEntry s x1 x2 x3) := by
  unfold State.endEntry
  extract_lets +onlyGivenNames -underBinder -merge y0
  have hy0 : Keeps F a y0 := by
    unfold y0
    refine State.set_keeps (maskSub hF rfl) ?_
    refine State.set_keeps (maskSub hF rfl) ?_
    assumption
  try clear_value y0
  extract_lets +onlyGivenNames -underBinder -merge y1
  try clear_value y1
  extract_lets +onlyGivenNames -underBinder -merge y2
  have hy2 : Keeps F a y2 := by
    unfold y2
    refine Keeps.upd_act (maskSub hF rfl) ?_
    assumption
  try clear_value y2
  refine State.setArmed_keeps (maskSub hF rfl) ?_
  assumption

theorem State.refuseLate_keeps {F : Nat} {a s : State} {x1 x2} (hF : F ||| 50331648 = F) (h : Keeps F a s) :
    Keeps F a (State.refuseLate s x1 x2) := by
  unfold State.refuseLate
  extract_lets +onlyGivenNames -underBinder -merge y0
  have hy0 : Keeps F a y0 := by
    unfold y0
    refine State.raise_keeps (maskSub hF rfl) ?_
    refine State.count_keeps (maskSub hF rfl) ?_
    assumption
  try clear_value y0
  refine Keeps.ite ?_ ?_
  · refine State.raise_keeps (maskSub hF rfl) ?_
    refine State.count_keeps (maskSub hF rfl) ?_
    assumption
  · assumption

theorem State.commitEntry_keeps {F : Nat} {a s : State} {x1} (hF : F ||| 50331652 = F) (h : Keeps F a s) :
    Keeps F a (State.commitEntry s x1) := by
  unfold State.commitEntry
  extract_lets +onlyGivenNames -underBinder -merge y0
  try clear_value y0
  extract_lets +onlyGivenNames -underBinder -merge y1
  try clear_value y1
  extract_lets +onlyGivenNames -underBinder -merge y2
  try clear_value y2
  extract_lets +onlyGivenNames -underBinder -merge y3
  try clear_value y3
  extract_lets +onlyGivenNames -underBinder -merge y4
  have hy4 : Keeps F a y4 := by
    unfold y4
    refine State.wr_keeps (maskSub hF rfl) ?_
    refine State.wr_keeps (maskSub hF rfl) ?_
    refine Keeps.upd_act (maskSub hF rfl) ?_
    assumption
  try clear_value y4
  extract_lets +onlyGivenNames -underBinder -merge y5
  have hy5 : Keeps F a y5 := by
    unfold y5
    refine State.set_keeps (maskSub hF rfl) ?_
    assumption
  try clear_value y5
  refine Keeps.ite ?_ ?_
  · refine State.refuseLate_keeps (maskSub hF rfl) ?_
    refine State.set_keeps (maskSub hF rfl) ?_
    refine State.set_keeps (maskSub hF rfl) ?_
    assumption
  · extract_lets +onlyGivenNames -underBinder -merge y6
    have hy6 : Keeps F a y6 := by
      unfold y6
      refine State.setArmed_keeps (maskSub hF rfl) ?_
      refine State.set_keeps (maskSub hF rfl) ?_
      assumption
    try clear_value y6
    extract_lets +onlyGivenNames -underBinder -merge y7
    try clear_value y7
    extract_lets +onlyGivenNames -underBinder -merge y8
    try clear_value y8
    extract_lets +onlyGivenNames -underBinder -merge y9
    try clear_value y9
    extract_lets +onlyGivenNames -underBinder -merge y10
    try clear_value y10
    refine Keeps.upd_act (maskSub hF rfl) ?_
    assumption

theorem State.takeCancel_keeps {F : Nat} {a s : State} {x1 x2} (hF : F ||| 4 = F) (h : Keeps F a s) :
    Keeps F a (State.takeCancel s x1 x2) := by
  unfold State.takeCancel
  refine Keeps.upd_act (maskSub hF rfl) ?_
  assumption

theorem State.takeAngle_keeps {F : Nat} {a s : State} {x1} (hF : F ||| 33554560 = F) (h : Keeps F a s) :
    Keeps F a (State.takeAngle s x1) := by
  unfold State.takeAngle
  refine Keeps.ite ?_ ?_
  · assumption
  · split
    · extract_lets +onlyGivenNames -underBinder -merge y0
      have hy0 : Keeps F a y0 := by
        unfold y0
        refine State.wr_keeps (maskSub hF rfl) ?_
        assumption
      try clear_value y0
      refine Keeps.upd_wlow (maskSub hF rfl) ?_
      assumption
    · assumption

theorem State.writeEntry_keeps {F : Nat} {a s : State} {x0 x1} (hF : F ||| 50331780 = F) (h : Keeps F a s) :
    Keeps F a (State.writeEntry x0 x1 s) := by
  unfold State.writeEntry
  refine Keeps.ite ?_ ?_
  · refine Keeps.ite ?_ ?_
    · assumption
    · refine State.takeCancel_keeps (maskSub hF rfl) ?_
      assumption
  · extract_lets +onlyGivenNames -underBinder -merge y0
    have hy0 : Keeps F a y0 := by
      unfold y0
      refine State.takeAngle_keeps (maskSub hF rfl) ?_
      refine State.wr_keeps (maskSub hF rfl) ?_
      assumption
    try clear_value y0
    refine Keeps.ite ?_ ?_
    · refine State.commitEntry_keeps (maskSub hF rfl) ?_
      assumption
    · assumption

theorem State.writeAction_keeps {F : Nat} {a s : State} {x1 x2 x3} (hF : F ||| 58720396 = F) (h : Keeps F a s) :
    Keeps F a (State.writeAction s x1 x2 x3) := by
  have hw : ∀ t, Keeps F a t → Keeps F a (State.writeEntry x2 x3 t) := fun t ht => State.writeEntry_keeps (maskSub hF rfl) ht
  have hy1 : Keeps F a (s.writeRow x1 (Reg.AE_CTRL x2) x3 (crossAction x3) (State.writeEntry x2 x3)) :=
    State.writeRow_keeps (maskSub hF rfl) h hw
  obtain ⟨o, l, e, k⟩ := State.writeRow_sent (k := x1) (b := Reg.AE_CTRL x2) (v := x3) (ok := crossAction x3) (maskSub hF rfl) h hw
  unfold State.writeAction
  extract_lets +onlyGivenNames -underBinder -merge y0 y1
  try clear_value y0
  have hy1 : Keeps F a y1 := hy1
  have e : y1.out = o :: l := e
  try clear_value y1
  refine Keeps.ite ?_ hy1
  split
  · rename_i e2
    rw [e] at e2
    cases e2
    exact ⟨hy1.wf, hy1.pending, hy1.freshLe, k.trans (List.suffix_cons _ _), hy1.now, hy1.firnStep, hy1.servo, hy1.jobs, hy1.act, hy1.zh, hy1.sys, hy1.sec,
      hy1.waitWrites, hy1.wlow, hy1.stm, hy1.ice, hy1.tbl, hy1.plan, hy1.field, hy1.lop, hy1.acts, hy1.prt, hy1.can, hy1.pair, hy1.lst, hy1.fed, hy1.dia,
      hy1.shadow, hy1.clk, .inl (maskSub hF rfl), hy1.firn, hy1.regs, hy1.fresh⟩
  · exact hy1

theorem execActionCommit_keeps {F : Nat} {a s : State} {x0 x1 x2} (hF : F ||| 58720396 = F) (h : Keeps F a s) :
    ∃ t, execActionCommit x0 x1 x2 s = .next t ∧ Keeps F a t := by
  refine ⟨_, rfl, ?_⟩
  refine State.writeAction_keeps (maskSub hF rfl) ?_
  assumption

theorem execActionCancelWrite_keeps {F : Nat} {a s : State} {x0 x1 x2} (hF : F ||| 58720396 = F) (h : Keeps F a s) :
    ∃ t, execActionCancelWrite x0 x1 x2 s = .next t ∧ Keeps F a t := by
  refine ⟨_, rfl, ?_⟩
  refine State.writeRow_keeps (maskSub hF rfl) ?_ ?_
  · assumption
  · intro x1 h0
    beta_reduce
    refine State.writeEntry_keeps (maskSub hF rfl) ?_
    assumption

theorem State.settleCancels_keeps {F : Nat} {a s : State} (hF : F ||| 58720268 = F) (h : Keeps F a s) :
    Keeps F a (State.settleCancels s) := by
  unfold State.settleCancels
  extract_lets +onlyGivenNames -underBinder -merge y0
  try clear_value y0
  extract_lets +onlyGivenNames -underBinder -merge y1
  try clear_value y1
  extract_lets +onlyGivenNames -underBinder -merge y2
  have hy2 : Keeps F a y2 := by
    unfold y2
    refine Keeps.upd_act (maskSub hF rfl) ?_
    assumption
  try clear_value y2
  refine Keeps.foldl ?_ ?_
  · assumption
  · intro x4 x5 h3
    beta_reduce
    extract_lets +onlyGivenNames -underBinder -merge y6
    have hy6 : Keeps F a y6 := by
      unfold y6
      refine Keeps.ite ?_ ?_
      · refine State.endEntry_keeps (maskSub hF rfl) ?_
        assumption
      · assumption
    try clear_value y6
    split
    · assumption
    · split
      · refine State.finish_keeps (maskSub hF rfl) ?_
        assumption
      · assumption

theorem State.emptyActions_keeps {F : Nat} {a s : State} (hF : F ||| 58720268 = F) (h : Keeps F a s) :
    Keeps F a (State.emptyActions s) := by
  unfold State.emptyActions
  extract_lets +onlyGivenNames -underBinder -merge y0
  try clear_value y0
  extract_lets +onlyGivenNames -underBinder -merge y1
  try clear_value y1
  extract_lets +onlyGivenNames -underBinder -merge y2
  have hy2 : Keeps F a y2 := by
    unfold y2
    refine Keeps.upd (s := s) ?_ (regsWf_filter _ _) rfl le_rfl List.suffix_rfl le_rfl (FirnStep.refl _)
       (.inr rfl) (.inr rfl) (.inl (maskSub hF rfl)) (.inr rfl) (.inr rfl) (.inr rfl) (.inr rfl) (.inr rfl) (.inr rfl) (.inr rfl) (.inr rfl)
       (.inr rfl) (.inr rfl) (.inr rfl) (.inr rfl) (.inr rfl) (.inr rfl) (.inr rfl) (.inr rfl) (.inr rfl) (.inr rfl) (.inr rfl) (.inr rfl)
       (.inr rfl) (.inr rfl) (.inl (maskSub hF rfl)) (.inr rfl)
    assumption
  try clear_value y2
  extract_lets +onlyGivenNames -underBinder -merge y3
  have hy3 : Keeps F a y3 := by
    unfold y3
    refine State.setArmed_keeps (maskSub hF rfl) ?_
    assumption
  try clear_value y3
  refine Keeps.foldl ?_ ?_
  · assumption
  · intro x5 x6 h4
    beta_reduce
    split
    · refine State.finish_keeps (maskSub hF rfl) ?_
      assumption
    · assumption

theorem State.losePhase_keeps {F : Nat} {a s : State} {x1} (hF : F ||| 33554436 = F) (h : Keeps F a s) :
    Keeps F a (State.losePhase s x1) := by
  unfold State.losePhase
  refine Keeps.foldl ?_ ?_
  · assumption
  · intro x1 x2 h0
    beta_reduce
    refine State.endEntry_keeps (maskSub hF rfl) ?_
    assumption

theorem State.judgeAngles_keeps {F : Nat} {a s : State} {x1} (hF : F ||| 50331652 = F) (h : Keeps F a s) :
    Keeps F a (State.judgeAngles s x1) := by
  unfold State.judgeAngles
  refine Keeps.foldl ?_ ?_
  · assumption
  · intro x1 x2 h0
    beta_reduce
    extract_lets +onlyGivenNames -underBinder -merge y3
    try clear_value y3
    extract_lets +onlyGivenNames -underBinder -merge y4
    try clear_value y4
    refine Keeps.ite ?_ ?_
    · refine Keeps.upd_act (maskSub hF rfl) ?_
      assumption
    · refine Keeps.ite ?_ ?_
      · refine State.refuseLate_keeps (maskSub hF rfl) ?_
        refine State.endEntry_keeps (maskSub hF rfl) ?_
        assumption
      · refine Keeps.ite ?_ ?_
        · refine Keeps.upd_act (maskSub hF rfl) ?_
          assumption
        · assumption

theorem State.noteHeld_keeps {F : Nat} {a s : State} {x1 x2 x3} (hF : F ||| 2048 = F) (h : Keeps F a s) :
    Keeps F a (State.noteHeld s x1 x2 x3) := by
  unfold State.noteHeld
  refine Keeps.ite ?_ ?_
  · refine Keeps.upd_plan (maskSub hF rfl) ?_
    assumption
  · refine Keeps.ite ?_ ?_
    · refine Keeps.upd_plan (maskSub hF rfl) ?_
      assumption
    · assumption

theorem State.setJobState_keeps {F : Nat} {a s : State} {x1 x2} (hF : F ||| 50333700 = F) (h : Keeps F a s) :
    Keeps F a (State.setJobState s x1 x2) := by
  unfold State.setJobState
  extract_lets +onlyGivenNames -underBinder -merge y0
  try clear_value y0
  extract_lets +onlyGivenNames -underBinder -merge y1
  have hy1 : Keeps F a y1 := by
    unfold y1
    refine State.noteHeld_keeps (maskSub hF rfl) ?_
    refine State.set_keeps (maskSub hF rfl) ?_
    assumption
  try clear_value y1
  refine Keeps.ite ?_ ?_
  · refine State.judgeAngles_keeps (maskSub hF rfl) ?_
    assumption
  · assumption

theorem State.acquireJob_keeps {F : Nat} {a s : State} {x1} (hF : F ||| 50333702 = F) (h : Keeps F a s) :
    Keeps F a (State.acquireJob s x1) := by
  unfold State.acquireJob
  refine State.setJobState_keeps (maskSub hF rfl) ?_
  refine State.setJob_keeps (maskSub hF rfl) ?_
  assumption

theorem State.fuseAcquire_keeps {F : Nat} {a s : State} {x1 x2 x3 x4} (hF : F ||| 50333702 = F) (h : Keeps F a s) :
    Keeps F a (State.fuseAcquire s x1 x2 x3 x4) := by
  unfold State.fuseAcquire
  refine Keeps.ite ?_ ?_
  · extract_lets +onlyGivenNames -underBinder -merge y0
    try clear_value y0
    extract_lets +onlyGivenNames -underBinder -merge y1
    try clear_value y1
    extract_lets +onlyGivenNames -underBinder -merge y2
    have hy2 : Keeps F a y2 := by
      unfold y2
      refine State.setJob_keeps (maskSub hF rfl) ?_
      assumption
    try clear_value y2
    refine Keeps.ite ?_ ?_
    · refine State.setJobState_keeps (maskSub hF rfl) ?_
      assumption
    · assumption
  · refine State.setJob_keeps (maskSub hF rfl) ?_
    assumption

theorem State.fuseTrack_keeps {F : Nat} {a s : State} {x1 x2 x3 x4} (hF : F ||| 50333702 = F) (h : Keeps F a s) :
    Keeps F a (State.fuseTrack s x1 x2 x3 x4) := by
  unfold State.fuseTrack
  extract_lets +onlyGivenNames -underBinder -merge y0
  try clear_value y0
  refine Keeps.ite ?_ ?_
  · refine State.acquireJob_keeps (maskSub hF rfl) ?_
    refine State.setJob_keeps (maskSub hF rfl) ?_
    assumption
  · extract_lets +onlyGivenNames -underBinder -merge y1
    try clear_value y1
    extract_lets +onlyGivenNames -underBinder -merge y2
    try clear_value y2
    extract_lets +onlyGivenNames -underBinder -merge y3
    try clear_value y3
    extract_lets +onlyGivenNames -underBinder -merge y4
    try clear_value y4
    extract_lets +onlyGivenNames -underBinder -merge y5
    have hy5 : Keeps F a y5 := by
      unfold y5
      refine State.setJob_keeps (maskSub hF rfl) ?_
      assumption
    try clear_value y5
    refine Keeps.ite ?_ ?_
    · refine State.acquireJob_keeps (maskSub hF rfl) ?_
      assumption
    · refine State.setJobState_keeps (maskSub hF rfl) ?_
      assumption

theorem State.fuse_keeps {F : Nat} {a s : State} {x1 x2 x3} (hF : F ||| 50333702 = F) (h : Keeps F a s) :
    Keeps F a (State.fuse s x1 x2 x3) := by
  unfold State.fuse
  extract_lets +onlyGivenNames -underBinder -merge y0
  have hy0 : Keeps F a y0 := by
    unfold y0
    refine Keeps.ite ?_ ?_
    · refine State.acquireJob_keeps (maskSub hF rfl) ?_
      assumption
    · assumption
  try clear_value y0
  extract_lets +onlyGivenNames -underBinder -merge y1
  try clear_value y1
  extract_lets +onlyGivenNames -underBinder -merge y2
  try clear_value y2
  extract_lets +onlyGivenNames -underBinder -merge y3
  try clear_value y3
  split
  · refine State.setJob_keeps (maskSub hF rfl) ?_
    assumption
  · extract_lets +onlyGivenNames -underBinder -merge y4
    try clear_value y4
    refine Keeps.ite ?_ ?_
    · refine State.fuseAcquire_keeps (maskSub hF rfl) ?_
      assumption
    · refine State.fuseTrack_keeps (maskSub hF rfl) ?_
      assumption

theorem State.closeWindow_keeps {F : Nat} {a s : State} {x1} (hF : F ||| 50333702 = F) (h : Keeps F a s) :
    Keeps F a (State.closeWindow s x1) := by
  unfold State.closeWindow
  split
  · assumption
  · refine State.fuse_keeps (maskSub hF rfl) ?_
    assumption

theorem State.marker_keeps {F : Nat} {a s : State} {x1 x2 x3 x4} (hF : F ||| 50333702 = F) (h : Keeps F a s) :
    Keeps F a (State.marker s x1 x2 x3 x4) := by
  unfold State.marker
  extract_lets +onlyGivenNames -underBinder -merge y0
  try clear_value y0
  extract_lets +onlyGivenNames -underBinder -merge y1
  try clear_value y1
  extract_lets +onlyGivenNames -underBinder -merge y2
  try clear_value y2
  refine Keeps.ite ?_ ?_
  · refine State.count_keeps (maskSub hF rfl) ?_
    assumption
  · extract_lets +onlyGivenNames -underBinder -merge y3
    have hy3 : Keeps F a y3 := by
      unfold y3
      refine Keeps.ite ?_ ?_
      · refine State.acquireJob_keeps (maskSub hF rfl) ?_
        assumption
      · assumption
    try clear_value y3
    extract_lets +onlyGivenNames -underBinder -merge y4
    try clear_value y4
    split
    · refine Keeps.ite ?_ ?_
      · refine State.setJob_keeps (maskSub hF rfl) ?_
        assumption
      · extract_lets +onlyGivenNames -underBinder -merge y5
        have hy5 : Keeps F a y5 := by
          unfold y5
          refine State.closeWindow_keeps (maskSub hF rfl) ?_
          assumption
        try clear_value y5
        refine Keeps.ite ?_ ?_
        · refine State.count_keeps (maskSub hF rfl) ?_
          assumption
        · refine State.setJob_keeps (maskSub hF rfl) ?_
          assumption
    · refine State.setJob_keeps (maskSub hF rfl) ?_
      assumption

theorem execMarkerWindowClose_keeps {F : Nat} {a s : State} {x0} (hF : F ||| 50333702 = F) (h : Keeps F a s) :
    ∃ t, execMarkerWindowClose x0 s = .next t ∧ Keeps F a t := by
  refine ⟨_, rfl, ?_⟩
  split
  · refine Keeps.ite ?_ ?_
    · refine State.closeWindow_keeps (maskSub hF rfl) ?_
      assumption
    · assumption
  · assumption

theorem execJobCoast_keeps {F : Nat} {a s : State} {x0} (hF : F ||| 50333700 = F) (h : Keeps F a s) :
    ∃ t, execJobCoast x0 s = .next t ∧ Keeps F a t := by
  refine ⟨_, rfl, ?_⟩
  split
  · refine Keeps.ite ?_ ?_
    · refine State.setJobState_keeps (maskSub hF rfl) ?_
      assumption
    · assumption
  · assumption

theorem execJobLost_keeps {F : Nat} {a s : State} {x0} (hF : F ||| 50333700 = F) (h : Keeps F a s) :
    ∃ t, execJobLost x0 s = .next t ∧ Keeps F a t := by
  refine ⟨_, rfl, ?_⟩
  split
  · refine Keeps.ite ?_ ?_
    · refine State.raise_keeps (maskSub hF rfl) ?_
      refine State.losePhase_keeps (maskSub hF rfl) ?_
      refine State.setJobState_keeps (maskSub hF rfl) ?_
      assumption
    · assumption
  · assumption

theorem State.writeJobCfg_keeps {F : Nat} {a s : State} {x0 x1} (hF : F ||| 50333702 = F) (h : Keeps F a s) :
    Keeps F a (State.writeJobCfg x0 x1 s) := by
  unfold State.writeJobCfg
  extract_lets +onlyGivenNames -underBinder -merge y0
  have hy0 : Keeps F a y0 := by
    unfold y0
    refine State.wr_keeps (maskSub hF rfl) ?_
    assumption
  try clear_value y0
  extract_lets +onlyGivenNames -underBinder -merge y1
  refine Keeps.ite ?_ ?_
  · refine State.setJobState_keeps (maskSub hF rfl) ?_
    refine State.setJob_keeps (maskSub hF rfl) ?_
    assumption
  · refine Keeps.ite ?_ ?_
    · extract_lets +onlyGivenNames -underBinder -merge y2
      have hy2 : Keeps F a y2 := by
        unfold y2
        refine State.setJobState_keeps (maskSub hF rfl) ?_
        refine State.losePhase_keeps (maskSub hF rfl) ?_
        assumption
      try clear_value y2
      refine Keeps.upd_jobs (maskSub hF rfl) ?_
      assumption
    · assumption

theorem execJobCfgWrite_keeps {F : Nat} {a s : State} {x0 x1 x2} (hF : F ||| 58722318 = F) (h : Keeps F a s) :
    ∃ t, execJobCfgWrite x0 x1 x2 s = .next t ∧ Keeps F a t := by
  refine ⟨_, rfl, ?_⟩
  refine State.writeRow_keeps (maskSub hF rfl) ?_ ?_
  · assumption
  · intro x1 h0
    beta_reduce
    refine State.writeJobCfg_keeps (maskSub hF rfl) ?_
    assumption

theorem State.tickJobs_keeps {F : Nat} {a s : State} (hF : F ||| 2 = F) (h : Keeps F a s) :
    Keeps F a (State.tickJobs s) := by
  unfold State.tickJobs
  refine Keeps.upd_jobs (maskSub hF rfl) ?_
  assumption

theorem judgeStepMark_keeps {F : Nat} {a s : State} {x0 x1 x2 x3} (hF : F ||| 50333702 = F)  :
    JudgeKeeps F a (judgeStepMark x0 x1 x2 x3 s) := by
  unfold judgeStepMark
  refine JudgeKeeps.mk ?_
  intro x1 x2 h0
  beta_reduce
  split
  · refine Keeps.p1 ?_
    refine State.marker_keeps (maskSub hF rfl) ?_
    assumption
  · refine Keeps.p1 ?_
    assumption

theorem execStepMark_keeps {F : Nat} {a s : State} {x0 x1 x2 x3} (hF : F ||| 58722318 = F) (h : Keeps F a s) :
    ∃ t, execStepMark x0 x1 x2 x3 s = .next t ∧ Keeps F a t := by
  refine ⟨_, rfl, ?_⟩
  refine State.request_keeps (maskSub hF rfl) ?_ ?_
  · assumption
  · intro _ _
    beta_reduce
    refine judgeStepMark_keeps (maskSub hF rfl)

theorem State.announcePhases_keeps {F : Nat} {a s : State} {x1 x2 x3} (hF : F ||| 2 = F) (h : Keeps F a s) :
    Keeps F a (State.announcePhases s x1 x2 x3) := by
  unfold State.announcePhases
  extract_lets +onlyGivenNames -underBinder -merge y0
  try clear_value y0
  extract_lets +onlyGivenNames -underBinder -merge y1
  try clear_value y1
  refine State.setJob_keeps (maskSub hF rfl) ?_
  assumption

theorem judgePhase_keeps {F : Nat} {a s : State} {x0 x1 x2 x3} (hF : F ||| 2 = F)  :
    JudgeKeeps F a (judgePhase x0 x1 x2 x3 s) := by
  unfold judgePhase
  refine JudgeKeeps.mk ?_
  intro x1 x2 h0
  beta_reduce
  refine Keeps.p1 ?_
  refine State.announcePhases_keeps (maskSub hF rfl) ?_
  assumption

theorem execPhaseAnnounce_keeps {F : Nat} {a s : State} {x0 x1 x2 x3} (hF : F ||| 58720266 = F) (h : Keeps F a s) :
    ∃ t, execPhaseAnnounce x0 x1 x2 x3 s = .next t ∧ Keeps F a t := by
  refine ⟨_, rfl, ?_⟩
  refine State.request_keeps (maskSub hF rfl) ?_ ?_
  · assumption
  · intro _ _
    beta_reduce
    refine judgePhase_keeps (maskSub hF rfl)

theorem actionRun_keeps {F : Nat} {a s : State} {x0} (hF : F ||| 50331652 = F) (h : Keeps F a s) :
    Keeps F a (actionRun x0 s).1 := by
  unfold actionRun
  split
  · refine Keeps.p1 ?_
    assumption
  · extract_lets +onlyGivenNames -underBinder -merge y0
    try clear_value y0
    extract_lets +onlyGivenNames -underBinder -merge y1
    try clear_value y1
    extract_lets +onlyGivenNames -underBinder -merge y2
    try clear_value y2
    split
    · refine Keeps.p1 ?_
      refine State.refuseLate_keeps (maskSub hF rfl) ?_
      assumption
    · extract_lets +onlyGivenNames -underBinder -merge y3
      try clear_value y3
      extract_lets +onlyGivenNames -underBinder -merge y4
      have hy4 : Keeps F a y4 := by
        unfold y4
        refine State.wr_keeps (maskSub hF rfl) ?_
        refine State.wr_keeps (maskSub hF rfl) ?_
        refine State.wr_keeps (maskSub hF rfl) ?_
        refine State.wr_keeps (maskSub hF rfl) ?_
        refine State.wr_keeps (maskSub hF rfl) ?_
        assumption
      try clear_value y4
      extract_lets +onlyGivenNames -underBinder -merge y5
      have hy5 : Keeps F a y5 := by
        unfold y5
        refine State.commitEntry_keeps (maskSub hF rfl) ?_
        assumption
      try clear_value y5
      refine Keeps.p1 ?_
      assumption

theorem judgeActionAdd_keeps {F : Nat} {a s : State} {x0 x1} (hF : F ||| 50331652 = F)  :
    JudgeKeeps F a (judgeActionAdd x0 x1 s) := by
  unfold judgeActionAdd
  refine JudgeKeeps.mk ?_
  intro x1 x2 h0
  beta_reduce
  refine actionRun_keeps (maskSub hF rfl) ?_
  assumption

theorem execActionAdd_keeps {F : Nat} {a s : State} {x0 x1} (hF : F ||| 58720268 = F) (h : Keeps F a s) :
    ∃ t, execActionAdd x0 x1 s = .next t ∧ Keeps F a t := by
  refine ⟨_, rfl, ?_⟩
  refine State.request_keeps (maskSub hF rfl) ?_ ?_
  · assumption
  · intro _ _
    beta_reduce
    refine judgeActionAdd_keeps (maskSub hF rfl)

theorem judgeActionCancel_keeps {F : Nat} {a s : State} {x0 x1 x2} (hF : F ||| 4 = F)  :
    JudgeKeeps F a (judgeActionCancel x0 x1 x2 s) := by
  unfold judgeActionCancel
  extract_lets +onlyGivenNames -underBinder -merge y0
  try clear_value y0
  extract_lets +onlyGivenNames -underBinder -merge y1
  try clear_value y1
  refine JudgeKeeps.mk ?_
  intro x3 x4 h2
  beta_reduce
  split
  · refine Keeps.p1 ?_
    refine State.takeCancel_keeps (maskSub hF rfl) ?_
    assumption
  · refine Keeps.p1 ?_
    assumption

theorem execActionCancel_keeps {F : Nat} {a s : State} {x0 x1} (hF : F ||| 58720268 = F) (h : Keeps F a s) :
    ∃ t, execActionCancel x0 x1 s = .next t ∧ Keeps F a t := by
  refine ⟨_, rfl, ?_⟩
  refine State.request_keeps (maskSub hF rfl) ?_ ?_
  · assumption
  · intro _ _
    beta_reduce
    refine judgeActionCancel_keeps (maskSub hF rfl)

/-! ### Streams -/

theorem State.setStrm_keeps {F : Nat} {a s : State} {x1 x2} (hF : F ||| 256 = F) (h : Keeps F a s) :
    Keeps F a (State.setStrm s x1 x2) := by
  unfold State.setStrm
  refine Keeps.upd_stm (maskSub hF rfl) ?_
  assumption

theorem State.setSrc_keeps {F : Nat} {a s : State} {x1 x2} (hF : F ||| 256 = F) (h : Keeps F a s) :
    Keeps F a (State.setSrc s x1 x2) := by
  unfold State.setSrc
  refine Keeps.upd_stm (maskSub hF rfl) ?_
  assumption

theorem State.loadRow_keeps {F : Nat} {a s : State} {x1} (hF : F ||| 256 = F) (h : Keeps F a s) :
    Keeps F a (State.loadRow s x1) := by
  unfold State.loadRow
  refine Keeps.ite ?_ ?_
  · refine Keeps.upd_stm (maskSub hF rfl) ?_
    assumption
  · assumption

theorem State.setSup_keeps {F : Nat} {a s : State} {x1 x2} (hF : F ||| 33554688 = F) (h : Keeps F a s) :
    Keeps F a (State.setSup s x1 x2) := by
  unfold State.setSup
  refine State.set_keeps (maskSub hF rfl) ?_
  refine State.setStrm_keeps (maskSub hF rfl) ?_
  assumption

theorem State.suspectStream_keeps {F : Nat} {a s : State} {x1} (hF : F ||| 50331904 = F) (h : Keeps F a s) :
    Keeps F a (State.suspectStream s x1) := by
  unfold State.suspectStream
  extract_lets +onlyGivenNames -underBinder -merge y0
  try clear_value y0
  extract_lets +onlyGivenNames -underBinder -merge y1
  have hy1 : Keeps F a y1 := by
    unfold y1
    refine State.set_keeps (maskSub hF rfl) ?_
    refine State.setSup_keeps (maskSub hF rfl) ?_
    assumption
  try clear_value y1
  refine Keeps.ite ?_ ?_
  · assumption
  · refine State.raise_keeps (maskSub hF rfl) ?_
    assumption

theorem State.faultStream_keeps {F : Nat} {a s : State} {x1} (hF : F ||| 50331904 = F) (h : Keeps F a s) :
    Keeps F a (State.faultStream s x1) := by
  unfold State.faultStream
  extract_lets +onlyGivenNames -underBinder -merge y0
  try clear_value y0
  extract_lets +onlyGivenNames -underBinder -merge y1
  have hy1 : Keeps F a y1 := by
    unfold y1
    refine State.set_keeps (maskSub hF rfl) ?_
    refine State.setSup_keeps (maskSub hF rfl) ?_
    assumption
  try clear_value y1
  refine Keeps.ite ?_ ?_
  · assumption
  · refine State.raise_keeps (maskSub hF rfl) ?_
    refine State.set_keeps (maskSub hF rfl) ?_
    assumption

theorem execStreamStale_keeps {F : Nat} {a s : State} {x0} (hF : F ||| 50331904 = F) (h : Keeps F a s) :
    ∃ t, execStreamStale x0 s = .next t ∧ Keeps F a t := by
  refine ⟨_, rfl, ?_⟩
  extract_lets +onlyGivenNames -underBinder -merge y0
  try clear_value y0
  split
  · assumption
  · refine Keeps.ite ?_ ?_
    · refine State.raise_keeps (maskSub hF rfl) ?_
      refine State.setSup_keeps (maskSub hF rfl) ?_
      assumption
    · assumption

theorem State.pendSample_keeps {F : Nat} {a s : State} {x1 x2 x3} (hF : F ||| 512 = F) (h : Keeps F a s) :
    Keeps F a (State.pendSample s x1 x2 x3) := by
  unfold State.pendSample
  extract_lets +onlyGivenNames -underBinder -merge y0
  try clear_value y0
  refine Keeps.ite ?_ ?_
  · extract_lets +onlyGivenNames -underBinder -merge y1
    try clear_value y1
    refine Keeps.upd_ice (maskSub hF rfl) ?_
    assumption
  · assumption

theorem State.acceptSample_keeps {F : Nat} {a s : State} {x1 x2 x3 x4 x5} (hF : F ||| 50334470 = F) (h : Keeps F a s) :
    Keeps F a (State.acceptSample s x1 x2 x3 x4 x5) := by
  unfold State.acceptSample
  extract_lets +onlyGivenNames -underBinder -merge y0
  try clear_value y0
  extract_lets +onlyGivenNames -underBinder -merge y1
  try clear_value y1
  refine Keeps.ite ?_ ?_
  · refine State.count_keeps (maskSub hF rfl) ?_
    refine State.bump_keeps (maskSub hF rfl) ?_
    assumption
  · extract_lets +onlyGivenNames -underBinder -merge y2
    try clear_value y2
    extract_lets +onlyGivenNames -underBinder -merge y3
    try clear_value y3
    extract_lets +onlyGivenNames -underBinder -merge y4
    try clear_value y4
    extract_lets +onlyGivenNames -underBinder -merge y5
    try clear_value y5
    extract_lets +onlyGivenNames -underBinder -merge y6
    have hy6 : Keeps F a y6 := by
      unfold y6
      refine Keeps.ite ?_ ?_
      · refine State.set_keeps (maskSub hF rfl) ?_
        assumption
      · assumption
    try clear_value y6
    extract_lets +onlyGivenNames -underBinder -merge y7
    have hy7 : Keeps F a y7 := by
      unfold y7
      refine State.set_keeps (maskSub hF rfl) ?_
      refine State.set_keeps (maskSub hF rfl) ?_
      assumption
    try clear_value y7
    extract_lets +onlyGivenNames -underBinder -merge y8
    have hy8 : Keeps F a y8 := by
      unfold y8
      refine State.wr_keeps (maskSub hF rfl) ?_
      assumption
    try clear_value y8
    extract_lets +onlyGivenNames -underBinder -merge y9
    have hy9 : Keeps F a y9 := by
      unfold y9
      refine State.pendSample_keeps (maskSub hF rfl) ?_
      assumption
    try clear_value y9
    extract_lets +onlyGivenNames -underBinder -merge y10
    try clear_value y10
    split
    · extract_lets +onlyGivenNames -underBinder -merge y11
      try clear_value y11
      extract_lets +onlyGivenNames -underBinder -merge y12
      try clear_value y12
      extract_lets +onlyGivenNames -underBinder -merge y13
      try clear_value y13
      extract_lets +onlyGivenNames -underBinder -merge y14
      have hy14 : Keeps F a y14 := by
        unfold y14
        refine State.setSup_keeps (maskSub hF rfl) ?_
        refine State.setStrm_keeps (maskSub hF rfl) ?_
        assumption
      try clear_value y14
      refine Keeps.ite ?_ ?_
      · refine Keeps.foldl ?_ ?_
        · assumption
        · intro x16 x17 h15
          beta_reduce
          refine State.marker_keeps (maskSub hF rfl) ?_
          assumption
      · assumption
    · refine State.faultStream_keeps (maskSub hF rfl) ?_
      refine State.setStrm_keeps (maskSub hF rfl) ?_
      assumption
    · refine State.setStrm_keeps (maskSub hF rfl) ?_
      assumption

theorem State.shedSample_keeps {F : Nat} {a s : State} {x1} (hF : F ||| 50331648 = F) (h : Keeps F a s) :
    Keeps F a (State.shedSample s x1) := by
  unfold State.shedSample
  refine State.raise_keeps (maskSub hF rfl) ?_
  refine State.count_keeps (maskSub hF rfl) ?_
  assumption

theorem State.takeSample_keeps {F : Nat} {a s : State} {x1 x2} (hF : F ||| 50334470 = F) (h : Keeps F a s) :
    Keeps F a (State.takeSample s x1 x2) := by
  unfold State.takeSample
  refine State.acceptSample_keeps (maskSub hF rfl) ?_
  refine Keeps.upd_stm (maskSub hF rfl) ?_
  assumption

theorem State.releaseFrame_keeps {F : Nat} {a s : State} {x1 x2} (hF : F ||| 50334470 = F) (h : Keeps F a s) :
    Keeps F a (State.releaseFrame s x1 x2) := by
  unfold State.releaseFrame
  extract_lets +onlyGivenNames -underBinder -merge y0
  try clear_value y0
  extract_lets +onlyGivenNames -underBinder -merge y1
  try clear_value y1
  extract_lets +onlyGivenNames -underBinder -merge y2
  have hy2 : Keeps F a y2 := by
    unfold y2
    refine State.countBy_keeps (maskSub hF rfl) ?_
    assumption
  try clear_value y2
  extract_lets +onlyGivenNames -underBinder -merge y3
  have hy3 : Keeps F a y3 := by
    unfold y3
    refine State.countBy_keeps (maskSub hF rfl) ?_
    assumption
  try clear_value y3
  refine Keeps.foldl ?_ ?_
  · assumption
  · intro x5 x6 h4
    beta_reduce
    refine Keeps.ite ?_ ?_
    · refine State.shedSample_keeps (maskSub hF rfl) ?_
      assumption
    · refine State.takeSample_keeps (maskSub hF rfl) ?_
      assumption

theorem State.releaseRun_keeps {F : Nat} {a s : State} {x1 x2} (hF : F ||| 50334470 = F) (h : Keeps F a s) :
    Keeps F a (State.releaseRun s x1 x2) := by
  induction x2 generalizing s with
  | zero => exact h
  | succ n ih =>
    unfold State.releaseRun
    extract_lets +onlyGivenNames y0
    try clear_value y0
    split
    · exact h
    · exact ih (State.releaseFrame_keeps (maskSub hF rfl) (State.setSrc_keeps (maskSub hF rfl) h))

theorem State.reorder_keeps {F : Nat} {a s : State} {x1 x2} (hF : F ||| 50334470 = F) (h : Keeps F a s) :
    Keeps F a (State.reorder s x1 x2) := by
  unfold State.reorder
  extract_lets +onlyGivenNames -underBinder -merge y0
  try clear_value y0
  split
  · refine State.releaseFrame_keeps (maskSub hF rfl) ?_
    refine State.setSrc_keeps (maskSub hF rfl) ?_
    assumption
  · extract_lets +onlyGivenNames -underBinder -merge y1
    try clear_value y1
    refine Keeps.ite ?_ ?_
    · refine State.releaseFrame_keeps (maskSub hF rfl) ?_
      assumption
    · refine Keeps.ite ?_ ?_
      · refine State.releaseRun_keeps (maskSub hF rfl) ?_
        refine State.releaseFrame_keeps (maskSub hF rfl) ?_
        refine State.setSrc_keeps (maskSub hF rfl) ?_
        assumption
      · refine State.setSrc_keeps (maskSub hF rfl) ?_
        assumption

theorem State.expireFrame_keeps {F : Nat} {a s : State} {x1 x2} (hF : F ||| 50334470 = F) (h : Keeps F a s) :
    Keeps F a (State.expireFrame s x1 x2) := by
  unfold State.expireFrame
  extract_lets +onlyGivenNames -underBinder -merge y0
  try clear_value y0
  split
  · assumption
  · extract_lets +onlyGivenNames -underBinder -merge y1
    try clear_value y1
    extract_lets +onlyGivenNames -underBinder -merge y2
    try clear_value y2
    extract_lets +onlyGivenNames -underBinder -merge y3
    have hy3 : Keeps F a y3 := by
      unfold y3
      refine State.countBy_keeps (maskSub hF rfl) ?_
      refine State.countBy_keeps (maskSub hF rfl) ?_
      assumption
    try clear_value y3
    extract_lets +onlyGivenNames -underBinder -merge y4
    have hy4 : Keeps F a y4 := by
      unfold y4
      refine Keeps.ite ?_ ?_
      · assumption
      · refine State.raise_keeps (maskSub hF rfl) ?_
        assumption
    try clear_value y4
    extract_lets +onlyGivenNames -underBinder -merge y5
    have hy5 : Keeps F a y5 := by
      unfold y5
      refine State.setSrc_keeps (maskSub hF rfl) ?_
      assumption
    try clear_value y5
    refine State.releaseRun_keeps (maskSub hF rfl) ?_
    refine Keeps.foldl ?_ ?_
    · assumption
    · intro x7 x8 h6
      beta_reduce
      refine State.releaseFrame_keeps (maskSub hF rfl) ?_
      assumption

theorem execReorderWaitExpiry_keeps {F : Nat} {a s : State} {x0} (hF : F ||| 50334470 = F) (h : Keeps F a s) :
    ∃ t, execReorderWaitExpiry x0 s = .next t ∧ Keeps F a t := by
  refine ⟨_, rfl, ?_⟩
  refine Keeps.foldl ?_ ?_
  · assumption
  · intro x1 x2 h0
    beta_reduce
    refine Keeps.ite ?_ ?_
    · refine State.expireFrame_keeps (maskSub hF rfl) ?_
      assumption
    · assumption

theorem State.protoNotice_keeps {F : Nat} {a s : State} {x1 x2 x3 x4 x5} (hF : F ||| 8388616 = F) (h : Keeps F a s) :
    Keeps F a (State.protoNotice s x1 x2 x3 x4 x5) := by
  unfold State.protoNotice
  refine Keeps.ite ?_ ?_
  · refine State.send_keeps (maskSub hF rfl) ?_
    refine State.setSource_keeps (maskSub hF rfl) ?_
    assumption
  · assumption

theorem State.streamViolation_keeps {F : Nat} {a s : State} {x1 x2 x3} (hF : F ||| 58720520 = F) (h : Keeps F a s) :
    Keeps F a (State.streamViolation s x1 x2 x3) := by
  unfold State.streamViolation
  extract_lets +onlyGivenNames -underBinder -merge y0
  have hy0 : Keeps F a y0 := by
    unfold y0
    refine State.violate_keeps (maskSub hF rfl) ?_
    refine State.count_keeps (maskSub hF rfl) ?_
    assumption
  try clear_value y0
  extract_lets +onlyGivenNames -underBinder -merge y1
  have hy1 : Keeps F a y1 := by
    unfold y1
    split
    · refine State.count_keeps (maskSub hF rfl) ?_
      refine State.setSrc_keeps (maskSub hF rfl) ?_
      assumption
    · assumption
  try clear_value y1
  refine State.protoNotice_keeps (maskSub hF rfl) ?_
  refine State.raise_keeps (maskSub hF rfl) ?_
  assumption

theorem State.adoptEpoch_keeps {F : Nat} {a s : State} {x1 x2 x3} (hF : F ||| 33554688 = F) (h : Keeps F a s) :
    Keeps F a (State.adoptEpoch s x1 x2 x3) := by
  unfold State.adoptEpoch
  extract_lets +onlyGivenNames -underBinder -merge y0
  try clear_value y0
  extract_lets +onlyGivenNames -underBinder -merge y1
  have hy1 : Keeps F a y1 := by
    unfold y1
    refine State.countBy_keeps (maskSub hF rfl) ?_
    assumption
  try clear_value y1
  extract_lets +onlyGivenNames -underBinder -merge y2
  have hy2 : Keeps F a y2 := by
    unfold y2
    refine State.setSrc_keeps (maskSub hF rfl) ?_
    assumption
  try clear_value y2
  refine State.wr_keeps (maskSub hF rfl) ?_
  refine State.set_keeps (maskSub hF rfl) ?_
  assumption

theorem State.passFrame_keeps {F : Nat} {a s : State} {x1 x2 x3 x4 x5} (hF : F ||| 50334470 = F) (h : Keeps F a s) :
    Keeps F a (State.passFrame s x1 x2 x3 x4 x5) := by
  unfold State.passFrame
  extract_lets +onlyGivenNames -underBinder -merge y0
  try clear_value y0
  extract_lets +onlyGivenNames -underBinder -merge y1
  try clear_value y1
  extract_lets +onlyGivenNames -underBinder -merge y2
  try clear_value y2
  extract_lets +onlyGivenNames -underBinder -merge y3
  try clear_value y3
  extract_lets +onlyGivenNames -underBinder -merge y4
  try clear_value y4
  extract_lets +onlyGivenNames -underBinder -merge y5
  have hy5 : Keeps F a y5 := by
    unfold y5
    refine State.set_keeps (maskSub hF rfl) ?_
    assumption
  try clear_value y5
  refine Keeps.ite ?_ ?_
  · extract_lets +onlyGivenNames -underBinder -merge y6
    try clear_value y6
    refine State.reorder_keeps (maskSub hF rfl) ?_
    refine State.wr_keeps (maskSub hF rfl) ?_
    refine State.setSrc_keeps (maskSub hF rfl) ?_
    assumption
  · refine Keeps.ite ?_ ?_
    · refine State.reorder_keeps (maskSub hF rfl) ?_
      refine State.setSrc_keeps (maskSub hF rfl) ?_
      assumption
    · refine Keeps.ite ?_ ?_
      · refine State.count_keeps (maskSub hF rfl) ?_
        assumption
      · refine State.count_keeps (maskSub hF rfl) ?_
        assumption

theorem execStreamFrame_keeps {F : Nat} {a s : State} {x0 x1 x2} (hF : F ||| 58723086 = F) (h : Keeps F a s) :
    ∃ t, execStreamFrame x0 x1 x2 s = .next t ∧ Keeps F a t := by
  refine ⟨_, rfl, ?_⟩
  extract_lets +onlyGivenNames -underBinder -merge y0
  try clear_value y0
  extract_lets +onlyGivenNames -underBinder -merge y1
  try clear_value y1
  extract_lets +onlyGivenNames -underBinder -merge y2
  try clear_value y2
  refine Keeps.ite ?_ ?_
  · assumption
  · extract_lets +onlyGivenNames -underBinder -merge y3
    have hy3 : Keeps F a y3 := by
      unfold y3
      refine State.countRx_keeps (maskSub hF rfl) ?_
      assumption
    try clear_value y3
    refine Keeps.ite ?_ ?_
    · refine State.count_keeps (maskSub hF rfl) ?_
      assumption
    · refine Keeps.ite ?_ ?_
      · refine State.violate_keeps (maskSub hF rfl) ?_
        refine State.count_keeps (maskSub hF rfl) ?_
        assumption
      · split
        · refine State.streamViolation_keeps (maskSub hF rfl) ?_
          assumption
        · extract_lets +onlyGivenNames -underBinder -merge y4
          try clear_value y4
          extract_lets +onlyGivenNames -underBinder -merge y5
          have hy5 : Keeps F a y5 := by
            unfold y5
            refine State.setSrc_keeps (maskSub hF rfl) ?_
            assumption
          try clear_value y5
          extract_lets +onlyGivenNames -underBinder -merge y6
          try clear_value y6
          extract_lets +onlyGivenNames -underBinder -merge y7
          try clear_value y7
          extract_lets +onlyGivenNames -underBinder -merge y8
          refine Keeps.ite ?_ ?_
          · refine State.passFrame_keeps (maskSub hF rfl) ?_
            assumption
          · refine Keeps.ite ?_ ?_
            · refine State.passFrame_keeps (maskSub hF rfl) ?_
              refine State.adoptEpoch_keeps (maskSub hF rfl) ?_
              assumption
            · refine State.streamViolation_keeps (maskSub hF rfl) ?_
              assumption

theorem State.superviseStream_keeps {F : Nat} {a s : State} {x1} (hF : F ||| 50331904 = F) (h : Keeps F a s) :
    Keeps F a (State.superviseStream s x1) := by
  unfold State.superviseStream
  extract_lets +onlyGivenNames -underBinder -merge y0
  try clear_value y0
  extract_lets +onlyGivenNames -underBinder -merge y1
  try clear_value y1
  extract_lets +onlyGivenNames -underBinder -merge y2
  try clear_value y2
  extract_lets +onlyGivenNames -underBinder -merge y3
  try clear_value y3
  extract_lets +onlyGivenNames -underBinder -merge y4
  try clear_value y4
  extract_lets +onlyGivenNames -underBinder -merge y5
  try clear_value y5
  extract_lets +onlyGivenNames -underBinder -merge y6
  try clear_value y6
  extract_lets +onlyGivenNames -underBinder -merge y7
  try clear_value y7
  extract_lets +onlyGivenNames -underBinder -merge y8
  try clear_value y8
  extract_lets +onlyGivenNames -underBinder -merge y9
  try clear_value y9
  extract_lets +onlyGivenNames -underBinder -merge y10
  have hy10 : Keeps F a y10 := by
    unfold y10
    refine State.setB_keeps (maskSub hF rfl) ?_
    refine State.setB_keeps (maskSub hF rfl) ?_
    refine State.setSup_keeps (maskSub hF rfl) ?_
    assumption
  try clear_value y10
  refine Keeps.ite ?_ ?_
  · refine State.suspectStream_keeps (maskSub hF rfl) ?_
    assumption
  · assumption

theorem State.applyAcks_keeps {F : Nat} {a s : State} (hF : F ||| 33554688 = F) (h : Keeps F a s) :
    Keeps F a (State.applyAcks s) := by
  unfold State.applyAcks
  extract_lets +onlyGivenNames -underBinder -merge y0
  try clear_value y0
  extract_lets +onlyGivenNames -underBinder -merge y1
  have hy1 : Keeps F a y1 := by
    unfold y1
    refine Keeps.foldl ?_ ?_
    · assumption
    · intro x3 x4 h2
      beta_reduce
      refine State.set_keeps (maskSub hF rfl) ?_
      assumption
  try clear_value y1
  refine Keeps.upd_stm (maskSub hF rfl) ?_
  assumption

theorem State.clearStream_keeps {F : Nat} {a s : State} {x1} (hF : F ||| 33554688 = F) (h : Keeps F a s) :
    Keeps F a (State.clearStream s x1) := by
  unfold State.clearStream
  extract_lets +onlyGivenNames -underBinder -merge y0
  try clear_value y0
  extract_lets +onlyGivenNames -underBinder -merge y1
  have hy1 : Keeps F a y1 := by
    unfold y1
    refine State.setSup_keeps (maskSub hF rfl) ?_
    assumption
  try clear_value y1
  refine Keeps.ite ?_ ?_
  · refine State.wr_keeps (maskSub hF rfl) ?_
    refine State.set_keeps (maskSub hF rfl) ?_
    assumption
  · assumption

theorem State.judgePair_keeps {F : Nat} {a s : State} {x1} (hF : F ||| 50331904 = F) (h : Keeps F a s) :
    Keeps F a (State.judgePair s x1) := by
  unfold State.judgePair
  split
  · assumption
  · extract_lets +onlyGivenNames -underBinder -merge y0
    try clear_value y0
    extract_lets +onlyGivenNames -underBinder -merge y1
    try clear_value y1
    split
    · refine Keeps.ite ?_ ?_
      · extract_lets +onlyGivenNames -underBinder -merge y2
        try clear_value y2
        extract_lets +onlyGivenNames -underBinder -merge y3
        try clear_value y3
        extract_lets +onlyGivenNames -underBinder -merge y4
        have hy4 : Keeps F a y4 := by
          unfold y4
          refine Keeps.upd_stm (maskSub hF rfl) ?_
          assumption
        try clear_value y4
        refine Keeps.ite ?_ ?_
        · assumption
        · refine State.set_keeps (maskSub hF rfl) ?_
          refine State.set_keeps (maskSub hF rfl) ?_
          assumption
      · extract_lets +onlyGivenNames -underBinder -merge y5
        try clear_value y5
        extract_lets +onlyGivenNames -underBinder -merge y6
        try clear_value y6
        extract_lets +onlyGivenNames -underBinder -merge y7
        have hy7 : Keeps F a y7 := by
          unfold y7
          refine Keeps.upd_stm (maskSub hF rfl) ?_
          assumption
        try clear_value y7
        refine Keeps.ite ?_ ?_
        · assumption
        · extract_lets +onlyGivenNames -underBinder -merge y8
          try clear_value y8
          extract_lets +onlyGivenNames -underBinder -merge y9
          have hy9 : Keeps F a y9 := by
            unfold y9
            refine State.set_keeps (maskSub hF rfl) ?_
            refine State.bump_keeps (maskSub hF rfl) ?_
            assumption
          try clear_value y9
          refine Keeps.ite ?_ ?_
          · assumption
          · refine State.raise_keeps (maskSub hF rfl) ?_
            assumption
    · extract_lets +onlyGivenNames -underBinder -merge y10
      try clear_value y10
      refine Keeps.upd_stm (maskSub hF rfl) ?_
      assumption

theorem execPairResolved_keeps {F : Nat} {a s : State} {x0} (hF : F ||| 50331904 = F) (h : Keeps F a s) :
    ∃ t, execPairResolved x0 s = .next t ∧ Keeps F a t := by
  refine ⟨_, rfl, ?_⟩
  split
  · assumption
  · extract_lets +onlyGivenNames -underBinder -merge y0
    try clear_value y0
    extract_lets +onlyGivenNames -underBinder -merge y1
    try clear_value y1
    split
    · refine Keeps.ite ?_ ?_
      · extract_lets +onlyGivenNames -underBinder -merge y2
        try clear_value y2
        extract_lets +onlyGivenNames -underBinder -merge y3
        try clear_value y3
        extract_lets +onlyGivenNames -underBinder -merge y4
        extract_lets +onlyGivenNames -underBinder -merge y5
        try clear_value y5
        extract_lets +onlyGivenNames -underBinder -merge y6
        try clear_value y6
        extract_lets +onlyGivenNames -underBinder -merge y7
        have hy7 : Keeps F a y7 := by
          unfold y7
          refine State.set_keeps (maskSub hF rfl) ?_
          refine State.set_keeps (maskSub hF rfl) ?_
          refine State.set_keeps (maskSub hF rfl) ?_
          assumption
        try clear_value y7
        refine State.occur_keeps (maskSub hF rfl) ?_
        refine State.suspectStream_keeps (maskSub hF rfl) ?_
        assumption
      · assumption
    · assumption

theorem State.buildDigest_keeps {F : Nat} {a s : State} (hF : F ||| 33554688 = F) (h : Keeps F a s) :
    Keeps F a (State.buildDigest s) := by
  unfold State.buildDigest
  refine Keeps.ite ?_ ?_
  · assumption
  · extract_lets +onlyGivenNames -underBinder -merge y0
    try clear_value y0
    extract_lets +onlyGivenNames -underBinder -merge y1
    try clear_value y1
    extract_lets +onlyGivenNames -underBinder -merge y2
    have hy2 : Keeps F a y2 := by
      unfold y2
      refine Keeps.foldl ?_ ?_
      · assumption
      · intro x4 x5 h3
        beta_reduce
        refine State.setB_keeps (maskSub hF rfl) ?_
        assumption
    try clear_value y2
    extract_lets +onlyGivenNames -underBinder -merge y6
    have hy6 : Keeps F a y6 := by
      unfold y6
      refine Keeps.foldl ?_ ?_
      · assumption
      · intro x8 x9 h7
        beta_reduce
        refine State.setB_keeps (maskSub hF rfl) ?_
        assumption
    try clear_value y6
    refine Keeps.upd_stm (maskSub hF rfl) ?_
    assumption

theorem State.lsEnd_keeps {F : Nat} {a s : State} {x1 x2} (hF : F ||| 50593792 = F) (h : Keeps F a s) :
    Keeps F a (State.lsEnd s x1 x2) := by
  unfold State.lsEnd
  extract_lets +onlyGivenNames -underBinder -merge y0
  have hy0 : Keeps F a y0 := by
    unfold y0
    refine State.set_keeps (maskSub hF rfl) ?_
    refine State.set_keeps (maskSub hF rfl) ?_
    refine State.set_keeps (maskSub hF rfl) ?_
    assumption
  try clear_value y0
  refine State.raise_keeps (maskSub hF rfl) ?_
  refine Keeps.upd_lst (maskSub hF rfl) ?_
  assumption

theorem State.streamGo_keeps {F : Nat} {a s : State} {x1} (hF : F ||| 50594048 = F) (h : Keeps F a s) :
    Keeps F a (State.streamGo s x1) := by
  unfold State.streamGo
  refine Keeps.ite ?_ ?_
  · refine State.raise_keeps (maskSub hF rfl) ?_
    refine State.set_keeps (maskSub hF rfl) ?_
    assumption
  · extract_lets +onlyGivenNames -underBinder -merge y0
    extract_lets +onlyGivenNames -underBinder -merge y1
    extract_lets +onlyGivenNames -underBinder -merge y2
    extract_lets +onlyGivenNames -underBinder -merge y3
    have hy3 : Keeps F a y3 := by
      unfold y3
      refine State.set_keeps (maskSub hF rfl) ?_
      assumption
    refine Keeps.ite ?_ ?_
    · extract_lets +onlyGivenNames -underBinder -merge y4
      extract_lets +onlyGivenNames -underBinder -merge y5
      have hy5 : Keeps F a y5 := by
        unfold y5
        refine State.set_keeps (maskSub hF rfl) ?_
        refine Keeps.upd_stm (maskSub hF rfl) ?_
        assumption
      refine Keeps.ite ?_ ?_
      · refine State.lsEnd_keeps (maskSub hF rfl) ?_
        assumption
      · assumption
    · refine State.raise_keeps (maskSub hF rfl) ?_
      assumption

theorem State.blankStream_keeps {F : Nat} {a s : State} {x1 x2} (hF : F ||| 33554432 = F) (h : Keeps F a s) :
    Keeps F a (State.blankStream s x1 x2) := by
  unfold State.blankStream
  refine State.wr_keeps (maskSub hF rfl) ?_
  refine State.set_keeps (maskSub hF rfl) ?_
  refine State.wr_keeps (maskSub hF rfl) ?_
  assumption

theorem State.commitStream_keeps {F : Nat} {a s : State} {x1 x2} (hF : F ||| 33554688 = F) (h : Keeps F a s) :
    Keeps F a (State.commitStream s x1 x2) := by
  unfold State.commitStream
  extract_lets +onlyGivenNames -underBinder -merge y0
  try clear_value y0
  extract_lets +onlyGivenNames -underBinder -merge y1
  try clear_value y1
  extract_lets +onlyGivenNames -underBinder -merge y2
  extract_lets +onlyGivenNames -underBinder -merge y3
  have hy3 : Keeps F a y3 := by
    unfold y3
    refine State.wr_keeps (maskSub hF rfl) ?_
    assumption
  try clear_value y3
  extract_lets +onlyGivenNames -underBinder -merge y4
  have hy4 : Keeps F a y4 := by
    unfold y4
    refine Keeps.ite ?_ ?_
    · assumption
    · refine State.set_keeps (maskSub hF rfl) ?_
      assumption
  try clear_value y4
  refine Keeps.ite ?_ ?_
  · refine State.set_keeps (maskSub hF rfl) ?_
    refine State.setStrm_keeps (maskSub hF rfl) ?_
    refine State.blankStream_keeps (maskSub hF rfl) ?_
    assumption
  · refine Keeps.ite ?_ ?_
    · extract_lets +onlyGivenNames -underBinder -merge y5
      have hy5 : Keeps F a y5 := by
        unfold y5
        refine State.blankStream_keeps (maskSub hF rfl) ?_
        assumption
      try clear_value y5
      refine Keeps.upd_stm (maskSub hF rfl) ?_
      assumption
    · assumption

theorem State.commitPair_keeps {F : Nat} {a s : State} {x1 x2} (hF : F ||| 33554432 = F) (h : Keeps F a s) :
    Keeps F a (State.commitPair s x1 x2) := by
  unfold State.commitPair
  extract_lets +onlyGivenNames -underBinder -merge y0
  try clear_value y0
  extract_lets +onlyGivenNames -underBinder -merge y1
  try clear_value y1
  refine Keeps.ite ?_ ?_
  · assumption
  · extract_lets +onlyGivenNames -underBinder -merge y2
    try clear_value y2
    extract_lets +onlyGivenNames -underBinder -merge y3
    have hy3 : Keeps F a y3 := by
      unfold y3
      refine Keeps.foldl ?_ ?_
      · assumption
      · intro x5 x6 h4
        beta_reduce
        refine State.set_keeps (maskSub hF rfl) ?_
        assumption
    try clear_value y3
    refine State.wr_keeps (maskSub hF rfl) ?_
    assumption

theorem State.applyStreamCommit_keeps {F : Nat} {a s : State} (hF : F ||| 50331904 = F) (h : Keeps F a s) :
    Keeps F a (State.applyStreamCommit s) := by
  unfold State.applyStreamCommit
  split
  · assumption
  · refine Keeps.ite ?_ ?_
    · assumption
    · extract_lets +onlyGivenNames -underBinder -merge y0
      try clear_value y0
      extract_lets +onlyGivenNames -underBinder -merge y1
      try clear_value y1
      extract_lets +onlyGivenNames -underBinder -merge y2
      have hy2 : Keeps F a y2 := by
        unfold y2
        refine Keeps.foldl ?_ ?_
        · assumption
        · intro x4 x5 h3
          beta_reduce
          refine State.commitPair_keeps (maskSub hF rfl) ?_
          assumption
      try clear_value y2
      extract_lets +onlyGivenNames -underBinder -merge y6
      have hy6 : Keeps F a y6 := by
        unfold y6
        refine Keeps.foldl ?_ ?_
        · assumption
        · intro x8 x9 h7
          beta_reduce
          refine State.commitStream_keeps (maskSub hF rfl) ?_
          assumption
      try clear_value y6
      extract_lets +onlyGivenNames -underBinder -merge y10
      have hy10 : Keeps F a y10 := by
        unfold y10
        refine Keeps.foldl ?_ ?_
        · assumption
        · intro x12 x13 h11
          beta_reduce
          refine State.commitStream_keeps (maskSub hF rfl) ?_
          assumption
      try clear_value y10
      extract_lets +onlyGivenNames -underBinder -merge y14
      try clear_value y14
      extract_lets +onlyGivenNames -underBinder -merge y15
      have hy15 : Keeps F a y15 := by
        unfold y15
        refine Keeps.upd_stm (maskSub hF rfl) ?_
        assumption
      try clear_value y15
      extract_lets +onlyGivenNames -underBinder -merge y16
      have hy16 : Keeps F a y16 := by
        unfold y16
        refine State.set_keeps (maskSub hF rfl) ?_
        refine State.wr_keeps (maskSub hF rfl) ?_
        assumption
      try clear_value y16
      refine State.raise_keeps (maskSub hF rfl) ?_
      refine State.wrap_keeps (maskSub hF rfl) ?_
      refine State.set_keeps (maskSub hF rfl) ?_
      assumption

theorem State.streamLoad_keeps {F : Nat} {a s : State} (hF : F ||| 33554432 = F) (h : Keeps F a s) :
    Keeps F a (State.streamLoad s) := by
  unfold State.streamLoad
  extract_lets +onlyGivenNames -underBinder -merge y0
  try clear_value y0
  extract_lets +onlyGivenNames -underBinder -merge y1
  have hy1 : Keeps F a y1 := by
    unfold y1
    refine Keeps.upd_regs (maskSub hF rfl) (regsWf_filter _ _) ?_
    assumption
  try clear_value y1
  extract_lets +onlyGivenNames -underBinder -merge y2
  have hy2 : Keeps F a y2 := by
    unfold y2
    refine Keeps.foldl ?_ ?_
    · assumption
    · intro x4 x5 h3
      beta_reduce
      refine State.wr_keeps (maskSub hF rfl) ?_
      assumption
  try clear_value y2
  refine Keeps.foldl ?_ ?_
  · assumption
  · intro x7 x8 h6
    beta_reduce
    refine State.wr_keeps (maskSub hF rfl) ?_
    refine State.wr_keeps (maskSub hF rfl) ?_
    refine State.wr_keeps (maskSub hF rfl) ?_
    assumption

theorem execStreamConfigLoad_keeps {F : Nat} {a s : State} {x0} (hF : F ||| 58720264 = F) (h : Keeps F a s) :
    ∃ t, execStreamConfigLoad x0 s = .next t ∧ Keeps F a t := by
  refine ⟨_, rfl, ?_⟩
  refine State.writeRow_keeps (maskSub hF rfl) ?_ ?_
  · assumption
  · intro x1 h0
    beta_reduce
    refine State.streamLoad_keeps (maskSub hF rfl) ?_
    assumption

theorem State.streamAck_keeps {F : Nat} {a s : State} {x1} (hF : F ||| 256 = F) (h : Keeps F a s) :
    Keeps F a (State.streamAck s x1) := by
  unfold State.streamAck
  refine Keeps.ite ?_ ?_
  · refine Keeps.upd_stm (maskSub hF rfl) ?_
    assumption
  · refine Keeps.upd_stm (maskSub hF rfl) ?_
    assumption

theorem execStreamAck_keeps {F : Nat} {a s : State} {x0 x1} (hF : F ||| 58720520 = F) (h : Keeps F a s) :
    ∃ t, execStreamAck x0 x1 s = .next t ∧ Keeps F a t := by
  refine ⟨_, rfl, ?_⟩
  refine State.writeRow_keeps (maskSub hF rfl) ?_ ?_
  · assumption
  · intro x1 h0
    beta_reduce
    refine State.streamAck_keeps (maskSub hF rfl) ?_
    assumption

theorem State.streamBoundary_keeps {F : Nat} {a s : State} (hF : F ||| 50331904 = F) (h : Keeps F a s) :
    Keeps F a (State.streamBoundary s) := by
  unfold State.streamBoundary
  extract_lets +onlyGivenNames -underBinder -merge y0
  try clear_value y0
  extract_lets +onlyGivenNames -underBinder -merge y1
  have hy1 : Keeps F a y1 := by
    unfold y1
    refine Keeps.upd_stm (maskSub hF rfl) ?_
    assumption
  try clear_value y1
  extract_lets +onlyGivenNames -underBinder -merge y2
  have hy2 : Keeps F a y2 := by
    unfold y2
    refine State.applyStreamCommit_keeps (maskSub hF rfl) ?_
    assumption
  try clear_value y2
  extract_lets +onlyGivenNames -underBinder -merge y3
  try clear_value y3
  extract_lets +onlyGivenNames -underBinder -merge y4
  have hy4 : Keeps F a y4 := by
    unfold y4
    refine Keeps.ite ?_ ?_
    · assumption
    · refine Keeps.foldl ?_ ?_
      · assumption
      · intro x6 x7 h5
        beta_reduce
        refine State.superviseStream_keeps (maskSub hF rfl) ?_
        assumption
  try clear_value y4
  extract_lets +onlyGivenNames -underBinder -merge y8
  have hy8 : Keeps F a y8 := by
    unfold y8
    refine Keeps.foldl ?_ ?_
    · assumption
    · intro x10 x11 h9
      beta_reduce
      refine State.judgePair_keeps (maskSub hF rfl) ?_
      assumption
  try clear_value y8
  extract_lets +onlyGivenNames -underBinder -merge y12
  have hy12 : Keeps F a y12 := by
    unfold y12
    refine Keeps.ite ?_ ?_
    · assumption
    · refine State.applyAcks_keeps (maskSub hF rfl) ?_
      assumption
  try clear_value y12
  refine State.buildDigest_keeps (maskSub hF rfl) ?_
  assumption

end Sys2Proof.Machine
end

