-- ==== Sys2Proof/Laws/KeepsTables.lean ====
section
/-! SUPPORT. What each operation and each command of tables and Icefield may change, as `Keeps` says it. -/

namespace Sys2Proof.Machine

/-! ### Integrity -/

theorem State.holdRetirement_keeps {F : Nat} {a s : State} {x1 x2 x3} (hF : F ||| 1048576 = F) (h : Keeps F a s) :
    Keeps F a (State.holdRetirement s x1 x2 x3) := by
  unfold State.holdRetirement
  refine Keeps.ite ?_ ?_
  · refine Keeps.upd_dia (maskSub hF rfl) ?_
    assumption
  · refine Keeps.ite ?_ ?_
    · refine Keeps.upd_dia (maskSub hF rfl) ?_
      assumption
    · assumption

theorem State.forgetRetirements_keeps {F : Nat} {a s : State} (hF : F ||| 34603008 = F) (h : Keeps F a s) :
    Keeps F a (State.forgetRetirements s) := by
  unfold State.forgetRetirements
  split
  · assumption
  · extract_lets +onlyGivenNames -underBinder -merge y0
    try clear_value y0
    extract_lets +onlyGivenNames -underBinder -merge y1
    have hy1 : Keeps F a y1 := by
      unfold y1
      refine Keeps.upd (s := s) ?_ (regsWf_filter _ _) rfl le_rfl List.suffix_rfl le_rfl (FirnStep.refl _)
         (.inr rfl) (.inr rfl) (.inr rfl) (.inr rfl) (.inr rfl) (.inr rfl) (.inr rfl) (.inr rfl) (.inr rfl) (.inr rfl) (.inr rfl) (.inr rfl)
         (.inr rfl) (.inr rfl) (.inr rfl) (.inr rfl) (.inr rfl) (.inr rfl) (.inr rfl) (.inr rfl) (.inl (maskSub hF rfl)) (.inr rfl) (.inr rfl)
         (.inr rfl) (.inr rfl) (.inl (maskSub hF rfl)) (.inr rfl)
      assumption
    try clear_value y1
    refine Keeps.foldl ?_ ?_
    · assumption
    · intro x3 x4 h2
      beta_reduce
      refine State.wr_keeps (maskSub hF rfl) ?_
      assumption

theorem State.blowFuse_keeps {F : Nat} {a s : State} {x1 x2 x3 x4 x5} (hF : F ||| 51380224 = F) (h : Keeps F a s) :
    Keeps F a (State.blowFuse s x1 x2 x3 x4 x5) := by
  unfold State.blowFuse
  split
  · refine State.raise_keeps (maskSub hF rfl) ?_
    refine State.holdRetirement_keeps (maskSub hF rfl) ?_
    assumption
  · extract_lets +onlyGivenNames -underBinder -merge y0
    try clear_value y0
    extract_lets +onlyGivenNames -underBinder -merge y1
    have hy1 : Keeps F a y1 := by
      unfold y1
      refine State.set_keeps (maskSub hF rfl) ?_
      refine State.wr_keeps (maskSub hF rfl) ?_
      assumption
    try clear_value y1
    extract_lets +onlyGivenNames -underBinder -merge y2
    try clear_value y2
    extract_lets +onlyGivenNames -underBinder -merge y3
    have hy3 : Keeps F a y3 := by
      unfold y3
      refine Keeps.ite ?_ ?_
      · refine Keeps.upd_dia (maskSub hF rfl) ?_
        assumption
      · assumption
    try clear_value y3
    extract_lets +onlyGivenNames -underBinder -merge y4
    have hy4 : Keeps F a y4 := by
      unfold y4
      refine State.raise_keeps (maskSub hF rfl) ?_
      assumption
    try clear_value y4
    extract_lets +onlyGivenNames -underBinder -merge y5
    have hy5 : Keeps F a y5 := by
      unfold y5
      refine Keeps.ite ?_ ?_
      · refine State.raise_keeps (maskSub hF rfl) ?_
        assumption
      · assumption
    try clear_value y5
    refine Keeps.ite ?_ ?_
    · refine State.raise_keeps (maskSub hF rfl) ?_
      assumption
    · assumption

theorem State.applyRepairs_keeps {F : Nat} {a s : State} {x1} (hF : F ||| 1048576 = F) (h : Keeps F a s) :
    Keeps F a (State.applyRepairs s x1) := by
  unfold State.applyRepairs
  refine Keeps.upd_dia (maskSub hF rfl) ?_
  assumption

/-! ### Tables -/

theorem State.setTbl_keeps {F : Nat} {a s : State} {x1 x2} (hF : F ||| 1024 = F) (h : Keeps F a s) :
    Keeps F a (State.setTbl s x1 x2) := by
  unfold State.setTbl
  refine Keeps.upd_tbl (maskSub hF rfl) ?_
  assumption

theorem State.showFree_keeps {F : Nat} {a s : State} (hF : F ||| 33554432 = F) (h : Keeps F a s) :
    Keeps F a (State.showFree s) := by
  unfold State.showFree
  extract_lets +onlyGivenNames -underBinder -merge y0
  have hy0 : Keeps F a y0 := by
    unfold y0
    refine Keeps.foldl ?_ ?_
    · assumption
    · intro x2 x3 h1
      beta_reduce
      refine State.set_keeps (maskSub hF rfl) ?_
      assumption
  try clear_value y0
  extract_lets +onlyGivenNames -underBinder -merge y4
  have hy4 : Keeps F a y4 := by
    unfold y4
    refine State.set_keeps (maskSub hF rfl) ?_
    assumption
  try clear_value y4
  extract_lets +onlyGivenNames -underBinder -merge y5
  try clear_value y5
  refine State.set_keeps (maskSub hF rfl) ?_
  refine State.set_keeps (maskSub hF rfl) ?_
  assumption

theorem State.place_keeps {F : Nat} {a s : State} {x1 x2} (hF : F ||| 1024 = F) (h : Keeps F a s) :
    KeepsOpt F a (State.place s x1 x2) := by
  unfold State.place
  extract_lets +onlyGivenNames -underBinder -merge y0
  try clear_value y0
  split
  · extract_lets +onlyGivenNames -underBinder -merge y1
    try clear_value y1
    refine KeepsOpt.some ?_
    refine State.setTbl_keeps (maskSub hF rfl) ?_
    refine Keeps.upd_tbl (maskSub hF rfl) ?_
    assumption
  · exact KeepsOpt.none

theorem State.placeAll_keeps {F : Nat} {a s : State} {x1 x2} (hF : F ||| 1024 = F) (h : Keeps F a s) :
    KeepsOpt F a (State.placeAll s x1 x2) := by
  induction x2 with
  | zero => exact KeepsOpt.some h
  | succ n ih =>
    intro t e
    obtain ⟨u, hu, e⟩ := Option.bind_eq_some_iff.mp e
    exact State.place_keeps (maskSub hF rfl) (ih u hu) t e

theorem State.giveSpace_keeps {F : Nat} {a s : State} {x1 x2} (hF : F ||| 1024 = F) (h : Keeps F a s) :
    Keeps F a (State.giveSpace s x1 x2) := by
  unfold State.giveSpace
  refine Keeps.upd_tbl (maskSub hF rfl) ?_
  assumption

theorem State.unplace_keeps {F : Nat} {a s : State} {x1 x2} (hF : F ||| 1024 = F) (h : Keeps F a s) :
    Keeps F a (State.unplace s x1 x2) := by
  unfold State.unplace
  extract_lets +onlyGivenNames -underBinder -merge y0
  try clear_value y0
  split
  · assumption
  · refine State.setTbl_keeps (maskSub hF rfl) ?_
    refine State.giveSpace_keeps (maskSub hF rfl) ?_
    assumption

theorem State.holdSpace_keeps {F : Nat} {a s : State} {x1 x2 x3} (hF : F ||| 1024 = F) (h : Keeps F a s) :
    Keeps F a (State.holdSpace s x1 x2 x3) := by
  unfold State.holdSpace
  extract_lets +onlyGivenNames -underBinder -merge y0
  try clear_value y0
  split
  · assumption
  · refine State.setTbl_keeps (maskSub hF rfl) ?_
    refine Keeps.upd_tbl (maskSub hF rfl) ?_
    assumption

theorem State.freeHeld_keeps {F : Nat} {a s : State} (hF : F ||| 1024 = F) (h : Keeps F a s) :
    Keeps F a (State.freeHeld s) := by
  unfold State.freeHeld
  extract_lets +onlyGivenNames -underBinder -merge y0
  try clear_value y0
  extract_lets +onlyGivenNames -underBinder -merge y1
  try clear_value y1
  extract_lets +onlyGivenNames -underBinder -merge y2
  have hy2 : Keeps F a y2 := by
    unfold y2
    refine Keeps.upd_tbl (maskSub hF rfl) ?_
    assumption
  try clear_value y2
  refine Keeps.foldl ?_ ?_
  · assumption
  · intro x4 x5 h3
    beta_reduce
    refine State.giveSpace_keeps (maskSub hF rfl) ?_
    assumption

theorem State.showTable_keeps {F : Nat} {a s : State} {x1} (hF : F ||| 33554432 = F) (h : Keeps F a s) :
    Keeps F a (State.showTable s x1) := by
  unfold State.showTable
  extract_lets +onlyGivenNames -underBinder -merge y0
  try clear_value y0
  extract_lets +onlyGivenNames -underBinder -merge y1
  try clear_value y1
  extract_lets +onlyGivenNames -underBinder -merge y2
  have hy2 : Keeps F a y2 := by
    unfold y2
    refine State.wr_keeps (maskSub hF rfl) ?_
    refine State.wr_keeps (maskSub hF rfl) ?_
    assumption
  try clear_value y2
  extract_lets +onlyGivenNames -underBinder -merge y3
  try clear_value y3
  extract_lets +onlyGivenNames -underBinder -merge y4
  have hy4 : Keeps F a y4 := by
    unfold y4
    refine State.wr_keeps (maskSub hF rfl) ?_
    assumption
  try clear_value y4
  refine Keeps.ite ?_ ?_
  · refine State.set_keeps (maskSub hF rfl) ?_
    assumption
  · assumption

theorem State.showTables_keeps {F : Nat} {a s : State} (hF : F ||| 33554432 = F) (h : Keeps F a s) :
    Keeps F a (State.showTables s) := by
  unfold State.showTables
  extract_lets +onlyGivenNames -underBinder -merge y0
  have hy0 : Keeps F a y0 := by
    unfold y0
    refine Keeps.foldl ?_ ?_
    · assumption
    · intro x2 x3 h1
      beta_reduce
      refine State.showTable_keeps (maskSub hF rfl) ?_
      assumption
  try clear_value y0
  refine State.setB_keeps (maskSub hF rfl) ?_
  assumption

theorem State.sendDevice_keeps {F : Nat} {a s : State} {x1 x2} (hF : F ||| 8388616 = F) (h : Keeps F a s) :
    Keeps F a (State.sendDevice s x1 x2) := by
  unfold State.sendDevice
  split
  · assumption
  · refine State.sendRequest_keeps (maskSub hF rfl) ?_
    refine Keeps.upd_zh (maskSub hF rfl) ?_
    assumption

theorem State.sendPart_keeps {F : Nat} {a s : State} {x1 x2} (hF : F ||| 8388616 = F) (h : Keeps F a s) :
    Keeps F a (State.sendPart s x1 x2) := by
  unfold State.sendPart
  extract_lets +onlyGivenNames -underBinder -merge y0
  extract_lets +onlyGivenNames -underBinder -merge y1
  try clear_value y1
  refine State.sendDevice_keeps (maskSub hF rfl) ?_
  assumption

theorem State.nextDevice_keeps {F : Nat} {a s : State} (hF : F ||| 8388616 = F) (h : Keeps F a s) :
    Keeps F a (State.nextDevice s) := by
  unfold State.nextDevice
  refine Keeps.ite ?_ ?_
  · assumption
  · split
    · refine State.sendPart_keeps (maskSub hF rfl) ?_
      assumption
    · split
      · assumption
      · extract_lets +onlyGivenNames -underBinder -merge y0
        try clear_value y0
        refine State.sendDevice_keeps (maskSub hF rfl) ?_
        assumption

theorem State.setSaves_keeps {F : Nat} {a s : State} {x1} (hF : F ||| 1024 = F) (h : Keeps F a s) :
    Keeps F a (State.setSaves s x1) := by
  unfold State.setSaves
  refine Keeps.upd_tbl (maskSub hF rfl) ?_
  assumption

theorem State.setGot_keeps {F : Nat} {a s : State} {x1} (hF : F ||| 1024 = F) (h : Keeps F a s) :
    Keeps F a (State.setGot s x1) := by
  unfold State.setGot
  refine Keeps.upd_tbl (maskSub hF rfl) ?_
  assumption

theorem State.saveFailed_keeps {F : Nat} {a s : State} {x1} (hF : F ||| 50332672 = F) (h : Keeps F a s) :
    Keeps F a (State.saveFailed s x1) := by
  unfold State.saveFailed
  split
  · assumption
  · extract_lets +onlyGivenNames -underBinder -merge y0
    have hy0 : Keeps F a y0 := by
      unfold y0
      refine State.setSaves_keeps (maskSub hF rfl) ?_
      assumption
    try clear_value y0
    refine Keeps.ite ?_ ?_
    · extract_lets +onlyGivenNames -underBinder -merge y1
      have hy1 : Keeps F a y1 := by
        unfold y1
        refine State.setSaves_keeps (maskSub hF rfl) ?_
        assumption
      try clear_value y1
      refine State.raise_keeps (maskSub hF rfl) ?_
      refine State.set_keeps (maskSub hF rfl) ?_
      assumption
    · refine State.raise_keeps (maskSub hF rfl) ?_
      assumption

theorem State.saveDone_keeps {F : Nat} {a s : State} {x1} (hF : F ||| 33555456 = F) (h : Keeps F a s) :
    Keeps F a (State.saveDone s x1) := by
  unfold State.saveDone
  split
  · assumption
  · extract_lets +onlyGivenNames -underBinder -merge y0
    have hy0 : Keeps F a y0 := by
      unfold y0
      refine State.setSaves_keeps (maskSub hF rfl) ?_
      assumption
    try clear_value y0
    refine Keeps.ite ?_ ?_
    · refine Keeps.ite ?_ ?_
      · assumption
      · refine State.set_keeps (maskSub hF rfl) ?_
        assumption
    · extract_lets +onlyGivenNames -underBinder -merge y1
      try clear_value y1
      extract_lets +onlyGivenNames -underBinder -merge y2
      have hy2 : Keeps F a y2 := by
        unfold y2
        refine Keeps.upd_tbl (maskSub hF rfl) ?_
        assumption
      try clear_value y2
      refine Keeps.ite ?_ ?_
      · refine State.freeHeld_keeps (maskSub hF rfl) ?_
        assumption
      · refine State.freeHeld_keeps (maskSub hF rfl) ?_
        refine State.setTbl_keeps (maskSub hF rfl) ?_
        assumption

theorem State.queueSave_keeps {F : Nat} {a s : State} {x1 x2} (hF : F ||| 1024 = F) (h : Keeps F a s) :
    Keeps F a (State.queueSave s x1 x2) := by
  unfold State.queueSave
  refine Keeps.ite ?_ ?_
  · assumption
  · refine State.setSaves_keeps (maskSub hF rfl) ?_
    assumption

theorem execSaveRetry_keeps {F : Nat} {a s : State} (hF : F ||| 8389640 = F) (h : Keeps F a s) :
    ∃ t, execSaveRetry s = .next t ∧ Keeps F a t := by
  refine ⟨_, rfl, ?_⟩
  refine State.nextDevice_keeps (maskSub hF rfl) ?_
  refine State.setSaves_keeps (maskSub hF rfl) ?_
  assumption

theorem execSegmentLoadDone_keeps {F : Nat} {a s : State} {x0 x1} (hF : F ||| 58721288 = F) (h : Keeps F a s) :
    ∃ t, execSegmentLoadDone x0 x1 s = .next t ∧ Keeps F a t := by
  refine ⟨_, rfl, ?_⟩
  refine Keeps.ite ?_ ?_
  · split
    · assumption
    · extract_lets +onlyGivenNames -underBinder -merge y0
      have hy0 : KeepsOpt F a y0 := by
        unfold y0
        split
        · exact KeepsOpt.some h
        · exact State.place_keeps (maskSub hF rfl) h
      try clear_value y0
      cases y0 with
      | none => exact State.raise_keeps (maskSub hF rfl) h
      | some p3 =>
        have hp3 : Keeps F a p3 := hy0 p3 rfl
        exact State.nextDevice_keeps (maskSub hF rfl) (State.showFree_keeps (maskSub hF rfl) (State.count_keeps (maskSub hF rfl)
          (State.setTbl_keeps (maskSub hF rfl) (State.setGot_keeps (maskSub hF rfl) hp3))))
  · assumption

theorem State.latePhase_keeps {F : Nat} {a s : State} {x1 x2} (hF : F ||| 50331648 = F) (h : Keeps F a s) :
    Keeps F a (State.latePhase s x1 x2) := by
  unfold State.latePhase
  extract_lets +onlyGivenNames -underBinder -merge y0
  try clear_value y0
  refine Keeps.ite ?_ ?_
  · assumption
  · refine Keeps.foldl ?_ ?_
    · assumption
    · intro x2 x3 h1
      beta_reduce
      refine Keeps.foldl ?_ ?_
      · assumption
      · intro x5 x6 h4
        beta_reduce
        refine State.raise_keeps (maskSub hF rfl) ?_
        refine State.count_keeps (maskSub hF rfl) ?_
        assumption

theorem State.addPair_keeps {F : Nat} {a s : State} {x1 x2 x3} (hF : F ||| 33554432 = F) (h : Keeps F a s) :
    Keeps F a (State.addPair s x1 x2 x3) := by
  unfold State.addPair
  extract_lets +onlyGivenNames -underBinder -merge y0
  try clear_value y0
  refine State.wr_keeps (maskSub hF rfl) ?_
  refine State.wr_keeps (maskSub hF rfl) ?_
  assumption

theorem State.applyCommit_keeps {F : Nat} {a s : State} {x1} (hF : F ||| 33555456 = F) (h : Keeps F a s) :
    Keeps F a (State.applyCommit s x1) := by
  unfold State.applyCommit
  extract_lets +onlyGivenNames -underBinder -merge y0
  have hy0 : Keeps F a y0 := by
    unfold y0
    refine Keeps.foldl ?_ ?_
    · assumption
    · intro x2 x3 h1
      beta_reduce
      refine State.setTbl_keeps (maskSub hF rfl) ?_
      assumption
  try clear_value y0
  extract_lets +onlyGivenNames -underBinder -merge y4
  have hy4 : Keeps F a y4 := by
    unfold y4
    refine State.setSaves_keeps (maskSub hF rfl) ?_
    assumption
  try clear_value y4
  refine Keeps.foldl ?_ ?_
  · assumption
  · intro x6 x7 h5
    beta_reduce
    refine State.addPair_keeps (maskSub hF rfl) ?_
    assumption

theorem State.discardLate_keeps {F : Nat} {a s : State} (hF : F ||| 50332160 = F) (h : Keeps F a s) :
    Keeps F a (State.discardLate s) := by
  unfold State.discardLate
  refine Keeps.foldl ?_ ?_
  · assumption
  · intro x1 x2 h0
    beta_reduce
    extract_lets +onlyGivenNames -underBinder -merge y3
    try clear_value y3
    extract_lets +onlyGivenNames -underBinder -merge y4
    try clear_value y4
    extract_lets +onlyGivenNames -underBinder -merge y5
    try clear_value y5
    extract_lets +onlyGivenNames -underBinder -merge y6
    try clear_value y6
    extract_lets +onlyGivenNames -underBinder -merge y7
    have hy7 : Keeps F a y7 := by
      unfold y7
      refine Keeps.upd_ice (maskSub hF rfl) ?_
      assumption
    try clear_value y7
    refine State.raise_keeps (maskSub hF rfl) ?_
    refine State.count_keeps (maskSub hF rfl) ?_
    assumption

theorem State.showLog_keeps {F : Nat} {a s : State} {x1} (hF : F ||| 33554432 = F) (h : Keeps F a s) :
    Keeps F a (State.showLog s x1) := by
  unfold State.showLog
  refine State.set_keeps (maskSub hF rfl) ?_
  refine State.set_keeps (maskSub hF rfl) ?_
  assumption

theorem State.commitDue_keeps {F : Nat} {a s : State} (hF : F ||| 50333184 = F) (h : Keeps F a s) :
    Keeps F a (State.commitDue s) := by
  unfold State.commitDue
  refine Keeps.ite ?_ ?_
  · assumption
  · extract_lets +onlyGivenNames -underBinder -merge y0
    try clear_value y0
    extract_lets +onlyGivenNames -underBinder -merge y1
    have hy1 : Keeps F a y1 := by
      unfold y1
      refine State.showLog_keeps (maskSub hF rfl) ?_
      refine State.discardLate_keeps (maskSub hF rfl) ?_
      assumption
    try clear_value y1
    refine Keeps.ite ?_ ?_
    · assumption
    · extract_lets +onlyGivenNames -underBinder -merge y2
      try clear_value y2
      extract_lets +onlyGivenNames -underBinder -merge y3
      have hy3 : Keeps F a y3 := by
        unfold y3
        refine State.countBy_keeps (maskSub hF rfl) ?_
        assumption
      try clear_value y3
      refine Keeps.upd_tbl (maskSub hF rfl) ?_
      assumption

theorem State.commitNow_keeps {F : Nat} {a s : State} (hF : F ||| 50333184 = F) (h : Keeps F a s) :
    Keeps F a (State.commitNow s) := by
  unfold State.commitNow
  refine Keeps.ite ?_ ?_
  · refine State.commitDue_keeps (maskSub hF rfl) ?_
    assumption
  · assumption

theorem execCommitWriteback_keeps {F : Nat} {a s : State} (hF : F ||| 33555456 = F) (h : Keeps F a s) :
    ∃ t, execCommitWriteback s = .next t ∧ Keeps F a t := by
  refine ⟨_, rfl, ?_⟩
  refine Keeps.ite ?_ ?_
  · refine State.set_keeps (maskSub hF rfl) ?_
    refine Keeps.upd_tbl (maskSub hF rfl) ?_
    assumption
  · assumption

theorem State.dropSegs_keeps {F : Nat} {a s : State} {x1 x2} (hF : F ||| 1024 = F) (h : Keeps F a s) :
    Keeps F a (State.dropSegs s x1 x2) := by
  unfold State.dropSegs
  extract_lets +onlyGivenNames -underBinder -merge y0
  have hy0 : Keeps F a y0 := by
    unfold y0
    refine Keeps.foldl ?_ ?_
    · assumption
    · intro x2 x3 h1
      beta_reduce
      refine State.holdSpace_keeps (maskSub hF rfl) ?_
      assumption
  try clear_value y0
  extract_lets +onlyGivenNames -underBinder -merge y4
  try clear_value y4
  refine State.setTbl_keeps (maskSub hF rfl) ?_
  assumption

theorem State.evictions_keeps {F : Nat} {a s : State} {x1} (hF : F ||| 1024 = F) (h : Keeps F a s) :
    Keeps F a (State.evictions s x1).1 := by
  unfold State.evictions
  split
  · refine Keeps.p1 ?_
    assumption
  · extract_lets +onlyGivenNames -underBinder -merge y0
    try clear_value y0
    extract_lets +onlyGivenNames -underBinder -merge y1
    try clear_value y1
    extract_lets +onlyGivenNames -underBinder -merge y2
    try clear_value y2
    refine Keeps.p1 ?_
    refine Keeps.foldl ?_ ?_
    · assumption
    · intro x4 x5 h3
      beta_reduce
      refine State.queueSave_keeps (maskSub hF rfl) ?_
      assumption

theorem State.takeLoads_keeps {F : Nat} {a s : State} {x1} (hF : F ||| 1024 = F) (h : Keeps F a s) :
    Keeps F a (State.takeLoads s x1) := by
  unfold State.takeLoads
  extract_lets +onlyGivenNames -underBinder -merge y0
  try clear_value y0
  extract_lets +onlyGivenNames -underBinder -merge y1
  try clear_value y1
  extract_lets +onlyGivenNames -underBinder -merge y2
  have hy2 : Keeps F a y2 := by
    unfold y2
    refine State.setTbl_keeps (maskSub hF rfl) ?_
    assumption
  try clear_value y2
  refine State.dropSegs_keeps (maskSub hF rfl) ?_
  assumption

theorem State.settleTable_keeps {F : Nat} {a s : State} {x1} (hF : F ||| 1024 = F) (h : Keeps F a s) :
    Keeps F a (State.settleTable s x1) := by
  unfold State.settleTable
  extract_lets +onlyGivenNames -underBinder -merge y0
  have hy01 : Keeps F a y0.1 := by
    unfold y0
    refine State.evictions_keeps (maskSub hF rfl) ?_
    assumption
  try clear_value y0
  refine State.takeLoads_keeps (maskSub hF rfl) ?_
  refine State.dropSegs_keeps (maskSub hF rfl) ?_
  assumption

theorem State.setEpoch_keeps {F : Nat} {a s : State} {x1 x2 x3} (hF : F ||| 33554432 = F) (h : Keeps F a s) :
    Keeps F a (State.setEpoch s x1 x2 x3) := by
  unfold State.setEpoch
  extract_lets +onlyGivenNames -underBinder -merge y0
  have hy0 : Keeps F a y0 := by
    unfold y0
    refine State.wr_keeps (maskSub hF rfl) ?_
    refine State.wr_keeps (maskSub hF rfl) ?_
    assumption
  try clear_value y0
  refine State.wr_keeps (maskSub hF rfl) ?_
  refine State.wr_keeps (maskSub hF rfl) ?_
  assumption

theorem State.restoreTable_keeps {F : Nat} {a s : State} {x1} (hF : F ||| 33555456 = F) (h : Keeps F a s) :
    Keeps F a (State.restoreTable s x1) := by
  unfold State.restoreTable
  split
  · refine State.setTbl_keeps (maskSub hF rfl) ?_
    assumption
  · extract_lets +onlyGivenNames -underBinder -merge y0
    try clear_value y0
    extract_lets +onlyGivenNames -underBinder -merge y1
    have hy1 : Keeps F a y1 := by
      unfold y1
      refine State.setTbl_keeps (maskSub hF rfl) ?_
      assumption
    try clear_value y1
    refine State.set_keeps (maskSub hF rfl) ?_
    refine State.setEpoch_keeps (maskSub hF rfl) ?_
    assumption

theorem State.askAgain_keeps {F : Nat} {a s : State} (hF : F ||| 1024 = F) (h : Keeps F a s) :
    Keeps F a (State.askAgain s) := by
  unfold State.askAgain
  refine Keeps.ite ?_ ?_
  · refine Keeps.upd_tbl (maskSub hF rfl) ?_
    assumption
  · assumption

theorem State.takeAnswer_keeps {F : Nat} {a s : State} {x1 x2} (hF : F ||| 33555456 = F) (h : Keeps F a s) :
    Keeps F a (State.takeAnswer s x1 x2) := by
  unfold State.takeAnswer
  split
  · assumption
  · extract_lets +onlyGivenNames -underBinder -merge y0
    try clear_value y0
    extract_lets +onlyGivenNames -underBinder -merge y1
    have hy1 : Keeps F a y1 := by
      unfold y1
      refine State.setTbl_keeps (maskSub hF rfl) ?_
      assumption
    try clear_value y1
    refine Keeps.ite ?_ ?_
    · refine State.wr_keeps (maskSub hF rfl) ?_
      refine State.wr_keeps (maskSub hF rfl) ?_
      assumption
    · assumption

theorem State.takePushes_keeps {F : Nat} {a s : State} (hF : F ||| 33555456 = F) (h : Keeps F a s) :
    Keeps F a (State.takePushes s) := by
  unfold State.takePushes
  refine Keeps.ite ?_ ?_
  · assumption
  · refine Keeps.ite ?_ ?_
    · assumption
    · extract_lets +onlyGivenNames -underBinder -merge y0
      try clear_value y0
      extract_lets +onlyGivenNames -underBinder -merge y1
      have hy1 : Keeps F a y1 := by
        unfold y1
        refine Keeps.ite ?_ ?_
        · refine Keeps.foldl ?_ ?_
          · assumption
          · intro x3 x4 h2
            beta_reduce
            refine State.takeAnswer_keeps (maskSub hF rfl) ?_
            assumption
        · assumption
      try clear_value y1
      extract_lets +onlyGivenNames -underBinder -merge y5
      have hy5 : Keeps F a y5 := by
        unfold y5
        refine State.setGot_keeps (maskSub hF rfl) ?_
        assumption
      try clear_value y5
      refine Keeps.upd_tbl (maskSub hF rfl) ?_
      assumption

theorem State.tablesBoundary_keeps {F : Nat} {a s : State} (hF : F ||| 41944072 = F) (h : Keeps F a s) :
    Keeps F a (State.tablesBoundary s) := by
  unfold State.tablesBoundary
  extract_lets +onlyGivenNames -underBinder -merge y0
  try clear_value y0
  extract_lets +onlyGivenNames -underBinder -merge y1
  have hy1 : Keeps F a y1 := by
    unfold y1
    split
    · assumption
    · refine State.set_keeps (maskSub hF rfl) ?_
      extract_lets +onlyGivenNames -underBinder -merge y2
      have hy2 : Keeps F a y2 := by
        unfold y2
        refine State.applyCommit_keeps (maskSub hF rfl) ?_
        assumption
      try clear_value y2
      refine Keeps.upd_tbl (maskSub hF rfl) ?_
      assumption
  try clear_value y1
  extract_lets +onlyGivenNames -underBinder -merge y3
  try clear_value y3
  extract_lets +onlyGivenNames -underBinder -merge y4
  try clear_value y4
  extract_lets +onlyGivenNames -underBinder -merge y5
  have hy5 : Keeps F a y5 := by
    unfold y5
    refine Keeps.foldl ?_ ?_
    · assumption
    · intro x7 x8 h6
      beta_reduce
      refine State.settleTable_keeps (maskSub hF rfl) ?_
      assumption
  try clear_value y5
  extract_lets +onlyGivenNames -underBinder -merge y9
  have hy9 : Keeps F a y9 := by
    unfold y9
    refine Keeps.foldl ?_ ?_
    · assumption
    · intro x11 x12 h10
      beta_reduce
      refine State.addPair_keeps (maskSub hF rfl) ?_
      assumption
  try clear_value y9
  extract_lets +onlyGivenNames -underBinder -merge y13
  have hy13 : Keeps F a y13 := by
    unfold y13
    refine Keeps.foldl ?_ ?_
    · assumption
    · intro x15 x16 h14
      beta_reduce
      refine Keeps.ite ?_ ?_
      · refine State.addPair_keeps (maskSub hF rfl) ?_
        refine State.restoreTable_keeps (maskSub hF rfl) ?_
        assumption
      · refine State.restoreTable_keeps (maskSub hF rfl) ?_
        assumption
  try clear_value y13
  refine State.nextDevice_keeps (maskSub hF rfl) ?_
  refine State.showTables_keeps (maskSub hF rfl) ?_
  refine State.showFree_keeps (maskSub hF rfl) ?_
  refine State.freeHeld_keeps (maskSub hF rfl) ?_
  refine State.askAgain_keeps (maskSub hF rfl) ?_
  refine State.takePushes_keeps (maskSub hF rfl) ?_
  assumption

theorem execCheckpointStart_keeps {F : Nat} {a s : State} (hF : F ||| 33555456 = F) (h : Keeps F a s) :
    ∃ t, execCheckpointStart s = .next t ∧ Keeps F a t := by
  refine ⟨_, rfl, ?_⟩
  refine Keeps.ite ?_ ?_
  · refine State.set_keeps (maskSub hF rfl) ?_
    refine State.set_keeps (maskSub hF rfl) ?_
    refine Keeps.upd_tbl (maskSub hF rfl) ?_
    assumption
  · assumption

theorem State.abandonSweep_keeps {F : Nat} {a s : State} (hF : F ||| 50332672 = F) (h : Keeps F a s) :
    Keeps F a (State.abandonSweep s) := by
  unfold State.abandonSweep
  refine Keeps.ite ?_ ?_
  · assumption
  · extract_lets +onlyGivenNames -underBinder -merge y0
    try clear_value y0
    extract_lets +onlyGivenNames -underBinder -merge y1
    have hy1 : Keeps F a y1 := by
      unfold y1
      refine Keeps.upd_tbl (maskSub hF rfl) ?_
      assumption
    try clear_value y1
    refine State.raise_keeps (maskSub hF rfl) ?_
    refine State.set_keeps (maskSub hF rfl) ?_
    refine State.set_keeps (maskSub hF rfl) ?_
    assumption

theorem execCheckpointDone_keeps {F : Nat} {a s : State} (hF : F ||| 58721288 = F) (h : Keeps F a s) :
    ∃ t, execCheckpointDone s = .next t ∧ Keeps F a t := by
  refine ⟨_, rfl, ?_⟩
  split
  · assumption
  · refine Keeps.ite ?_ ?_
    · assumption
    · extract_lets +onlyGivenNames -underBinder -merge y0
      try clear_value y0
      extract_lets +onlyGivenNames -underBinder -merge y1
      try clear_value y1
      extract_lets +onlyGivenNames -underBinder -merge y2
      have hy2 : Keeps F a y2 := by
        unfold y2
        refine Keeps.upd_tbl (maskSub hF rfl) ?_
        assumption
      try clear_value y2
      extract_lets +onlyGivenNames -underBinder -merge y3
      have hy3 : Keeps F a y3 := by
        unfold y3
        refine State.setSaves_keeps (maskSub hF rfl) ?_
        assumption
      try clear_value y3
      extract_lets +onlyGivenNames -underBinder -merge y4
      have hy4 : Keeps F a y4 := by
        unfold y4
        refine State.set_keeps (maskSub hF rfl) ?_
        refine State.set_keeps (maskSub hF rfl) ?_
        assumption
      try clear_value y4
      extract_lets +onlyGivenNames -underBinder -merge y5
      have hy5 : Keeps F a y5 := by
        unfold y5
        refine State.wr_keeps (maskSub hF rfl) ?_
        refine State.wr_keeps (maskSub hF rfl) ?_
        assumption
      try clear_value y5
      refine State.nextDevice_keeps (maskSub hF rfl) ?_
      refine State.raise_keeps (maskSub hF rfl) ?_
      refine State.wrap_keeps (maskSub hF rfl) ?_
      assumption

theorem State.createTable_keeps {F : Nat} {a s : State} {x1 x2} (hF : F ||| 33555456 = F) (h : Keeps F a s) :
    Keeps F a (State.createTable s x1 x2) := by
  unfold State.createTable
  refine Keeps.ite ?_ ?_
  · assumption
  · extract_lets +onlyGivenNames -underBinder -merge y0
    extract_lets +onlyGivenNames -underBinder -merge y1
    try clear_value y1
    extract_lets +onlyGivenNames -underBinder -merge y2
    have hfy2 : ∀ v0, Keeps F a (y2 v0) := by
      intro z3
      unfold y2
      beta_reduce
      refine State.set_keeps (maskSub hF rfl) ?_
      assumption
    try clear_value y2
    extract_lets +onlyGivenNames -underBinder -merge y4
    try clear_value y4
    refine Keeps.ite ?_ ?_
    · refine hfy2 _
    · refine Keeps.ite ?_ ?_
      · refine hfy2 _
      · extract_lets +onlyGivenNames -underBinder -merge y5
        try clear_value y5
        extract_lets +onlyGivenNames -underBinder -merge y6
        try clear_value y6
        extract_lets +onlyGivenNames -underBinder -merge y7
        have hy7 : Keeps F a y7 := by
          unfold y7
          refine State.set_keeps (maskSub hF rfl) ?_
          refine State.set_keeps (maskSub hF rfl) ?_
          assumption
        try clear_value y7
        extract_lets +onlyGivenNames -underBinder -merge y8
        have hy8 : Keeps F a y8 := by
          unfold y8
          refine State.setTbl_keeps (maskSub hF rfl) ?_
          refine State.wr_keeps (maskSub hF rfl) ?_
          refine State.wr_keeps (maskSub hF rfl) ?_
          refine State.wr_keeps (maskSub hF rfl) ?_
          refine State.wr_keeps (maskSub hF rfl) ?_
          assumption
        try clear_value y8
        split
        · refine hfy2 _
        · rename_i p11 e12
          have hp11 : Keeps F a p11 := by
            refine KeepsOpt.of e12 ?_
            split
            · refine State.placeAll_keeps (maskSub hF rfl) ?_
              assumption
            · refine KeepsOpt.some ?_
              assumption
          extract_lets +onlyGivenNames -underBinder -merge y13
          have hy13 : Keeps F a y13 := by
            unfold y13
            refine State.set_keeps (maskSub hF rfl) ?_
            assumption
          try clear_value y13
          extract_lets +onlyGivenNames -underBinder -merge y14
          have hy14 : Keeps F a y14 := by
            unfold y14
            refine State.set_keeps (maskSub hF rfl) ?_
            assumption
          try clear_value y14
          refine State.showFree_keeps (maskSub hF rfl) ?_
          refine Keeps.ite ?_ ?_
          · refine State.showTable_keeps (maskSub hF rfl) ?_
            assumption
          · assumption

theorem State.dropTable_keeps {F : Nat} {a s : State} {x1} (hF : F ||| 33555456 = F) (h : Keeps F a s) :
    Keeps F a (State.dropTable s x1) := by
  unfold State.dropTable
  extract_lets +onlyGivenNames -underBinder -merge y0
  have hy0 : Keeps F a y0 := by
    unfold y0
    refine Keeps.foldl ?_ ?_
    · assumption
    · intro x2 x3 h1
      beta_reduce
      refine State.unplace_keeps (maskSub hF rfl) ?_
      assumption
  try clear_value y0
  extract_lets +onlyGivenNames -underBinder -merge y4
  have hy4 : Keeps F a y4 := by
    unfold y4
    refine Keeps.foldl ?_ ?_
    · assumption
    · intro x6 x7 h5
      beta_reduce
      refine State.giveSpace_keeps (maskSub hF rfl) ?_
      assumption
  try clear_value y4
  extract_lets +onlyGivenNames -underBinder -merge y8
  try clear_value y8
  extract_lets +onlyGivenNames -underBinder -merge y9
  have hy9 : Keeps F a y9 := by
    unfold y9
    refine Keeps.upd_tbl (maskSub hF rfl) ?_
    assumption
  try clear_value y9
  extract_lets +onlyGivenNames -underBinder -merge y10
  have hy10 : Keeps F a y10 := by
    unfold y10
    refine State.wr_keeps (maskSub hF rfl) ?_
    refine State.wr_keeps (maskSub hF rfl) ?_
    assumption
  try clear_value y10
  extract_lets +onlyGivenNames -underBinder -merge y11
  have hy11 : Keeps F a y11 := by
    unfold y11
    refine State.wr_keeps (maskSub hF rfl) ?_
    refine State.wr_keeps (maskSub hF rfl) ?_
    assumption
  try clear_value y11
  refine State.showFree_keeps (maskSub hF rfl) ?_
  refine State.set_keeps (maskSub hF rfl) ?_
  assumption

theorem State.tableCmd_keeps {F : Nat} {a s : State} {x0 x1} (hF : F ||| 41944072 = F) (h : Keeps F a s) :
    Keeps F a (State.tableCmd x0 x1 s) := by
  unfold State.tableCmd
  split
  · refine State.createTable_keeps (maskSub hF rfl) ?_
    assumption
  · refine Keeps.ite ?_ ?_
    · assumption
    · refine Keeps.ite ?_ ?_
      · refine State.set_keeps (maskSub hF rfl) ?_
        assumption
      · refine State.dropTable_keeps (maskSub hF rfl) ?_
        assumption
  · refine State.nextDevice_keeps (maskSub hF rfl) ?_
    refine Keeps.foldl ?_ ?_
    · assumption
    · intro x1 x2 h0
      beta_reduce
      refine State.queueSave_keeps (maskSub hF rfl) ?_
      assumption
  · refine Keeps.ite ?_ ?_
    · refine State.setTbl_keeps (maskSub hF rfl) ?_
      assumption
    · assumption
  · assumption

theorem State.tableRow__keeps {F : Nat} {a s : State} {x1 x2 x3} (hF : F ||| 58721288 = F) (h : Keeps F a s) :
    Keeps F a (State.tableRow_ s x1 x2 x3) := by
  unfold State.tableRow_
  refine State.writeRow_keeps (maskSub hF rfl) ?_ ?_
  · assumption
  · intro x1 h0
    beta_reduce
    refine State.tableCmd_keeps (maskSub hF rfl) ?_
    assumption

theorem execTableCreate_keeps {F : Nat} {a s : State} {x0 x1 x2} (hF : F ||| 58721288 = F) (h : Keeps F a s) :
    ∃ t, execTableCreate x0 x1 x2 s = .next t ∧ Keeps F a t := by
  refine ⟨_, rfl, ?_⟩
  refine State.tableRow__keeps (maskSub hF rfl) ?_
  assumption

theorem execTableDelete_keeps {F : Nat} {a s : State} {x0 x1} (hF : F ||| 58721288 = F) (h : Keeps F a s) :
    ∃ t, execTableDelete x0 x1 s = .next t ∧ Keeps F a t := by
  refine ⟨_, rfl, ?_⟩
  refine State.tableRow__keeps (maskSub hF rfl) ?_
  assumption

theorem execTableSave_keeps {F : Nat} {a s : State} {x0 x1} (hF : F ||| 58721288 = F) (h : Keeps F a s) :
    ∃ t, execTableSave x0 x1 s = .next t ∧ Keeps F a t := by
  refine ⟨_, rfl, ?_⟩
  refine State.tableRow__keeps (maskSub hF rfl) ?_
  assumption

theorem execTableRestore_keeps {F : Nat} {a s : State} {x0 x1} (hF : F ||| 58721288 = F) (h : Keeps F a s) :
    ∃ t, execTableRestore x0 x1 s = .next t ∧ Keeps F a t := by
  refine ⟨_, rfl, ?_⟩
  refine State.tableRow__keeps (maskSub hF rfl) ?_
  assumption

theorem State.placeSegs_keeps {F : Nat} {a s : State} {x1 x2} (hF : F ||| 1024 = F) (h : Keeps F a s) :
    KeepsOpt F a (State.placeSegs s x1 x2) := by
  unfold State.placeSegs
  have h0 : KeepsOpt F a (some s) := KeepsOpt.some h
  generalize some s = o at h0 ⊢
  induction x2 generalizing o with
  | nil => exact h0
  | cons g l ih =>
    refine ih _ ?_
    intro t e
    obtain ⟨u, hu, e⟩ := Option.bind_eq_some_iff.mp e
    exact State.place_keeps (maskSub hF rfl) (h0 u hu) t e

theorem execTableCreateDone_keeps {F : Nat} {a s : State} {x0} (hF : F ||| 33555456 = F) (h : Keeps F a s) :
    ∃ t, execTableCreateDone x0 s = .next t ∧ Keeps F a t := by
  refine ⟨_, rfl, ?_⟩
  refine Keeps.ite ?_ ?_
  · assumption
  · split
    · refine State.set_keeps (maskSub hF rfl) ?_
      refine State.set_keeps (maskSub hF rfl) ?_
      assumption
    · extract_lets +onlyGivenNames -underBinder -merge y0
      try clear_value y0
      extract_lets +onlyGivenNames -underBinder -merge y1
      try clear_value y1
      extract_lets +onlyGivenNames -underBinder -merge y2
      try clear_value y2
      refine Keeps.ite ?_ ?_
      · extract_lets +onlyGivenNames -underBinder -merge y3
        try clear_value y3
        extract_lets +onlyGivenNames -underBinder -merge y4
        try clear_value y4
        split
        · refine State.set_keeps (maskSub hF rfl) ?_
          refine State.dropTable_keeps (maskSub hF rfl) ?_
          assumption
        · rename_i p7 e8
          have hp7 : Keeps F a p7 := by
            refine KeepsOpt.of e8 ?_
            split
            · refine KeepsOpt.some ?_
              assumption
            · refine State.placeSegs_keeps (maskSub hF rfl) ?_
              assumption
          extract_lets +onlyGivenNames -underBinder -merge y9
          try clear_value y9
          extract_lets +onlyGivenNames -underBinder -merge y10
          extract_lets +onlyGivenNames -underBinder -merge y11
          have hy11 : Keeps F a y11 := by
            unfold y11
            refine State.setTbl_keeps (maskSub hF rfl) ?_
            assumption
          try clear_value y11
          extract_lets +onlyGivenNames -underBinder -merge y12
          have hy12 : Keeps F a y12 := by
            unfold y12
            refine Keeps.ite ?_ ?_
            · refine State.setEpoch_keeps (maskSub hF rfl) ?_
              assumption
            · assumption
          try clear_value y12
          refine State.showFree_keeps (maskSub hF rfl) ?_
          refine State.showTable_keeps (maskSub hF rfl) ?_
          refine State.set_keeps (maskSub hF rfl) ?_
          assumption
      · extract_lets +onlyGivenNames -underBinder -merge y13
        try clear_value y13
        extract_lets +onlyGivenNames -underBinder -merge y14
        have hy14 : Keeps F a y14 := by
          unfold y14
          refine State.setTbl_keeps (maskSub hF rfl) ?_
          assumption
        try clear_value y14
        refine State.set_keeps (maskSub hF rfl) ?_
        refine State.set_keeps (maskSub hF rfl) ?_
        assumption

theorem State.loseSegment_keeps {F : Nat} {a s : State} {x1 x2} (hF : F ||| 50332672 = F) (h : Keeps F a s) :
    Keeps F a (State.loseSegment s x1 x2) := by
  unfold State.loseSegment
  extract_lets +onlyGivenNames -underBinder -merge y0
  have hy0 : Keeps F a y0 := by
    unfold y0
    refine State.unplace_keeps (maskSub hF rfl) ?_
    assumption
  try clear_value y0
  extract_lets +onlyGivenNames -underBinder -merge y1
  try clear_value y1
  extract_lets +onlyGivenNames -underBinder -merge y2
  have hy2 : Keeps F a y2 := by
    unfold y2
    refine State.setTbl_keeps (maskSub hF rfl) ?_
    assumption
  try clear_value y2
  refine State.raise_keeps (maskSub hF rfl) ?_
  refine State.count_keeps (maskSub hF rfl) ?_
  assumption

theorem State.loseStack_keeps {F : Nat} {a s : State} {x1} (hF : F ||| 50332672 = F) (h : Keeps F a s) :
    Keeps F a (State.loseStack s x1) := by
  unfold State.loseStack
  extract_lets +onlyGivenNames -underBinder -merge y0
  try clear_value y0
  extract_lets +onlyGivenNames -underBinder -merge y1
  have hy1 : Keeps F a y1 := by
    unfold y1
    refine State.set_keeps (maskSub hF rfl) ?_
    assumption
  try clear_value y1
  extract_lets +onlyGivenNames -underBinder -merge y2
  have hy2 : Keeps F a y2 := by
    unfold y2
    refine Keeps.foldl ?_ ?_
    · assumption
    · intro x4 x5 h3
      beta_reduce
      refine State.loseSegment_keeps (maskSub hF rfl) ?_
      assumption
  try clear_value y2
  extract_lets +onlyGivenNames -underBinder -merge y6
  try clear_value y6
  extract_lets +onlyGivenNames -underBinder -merge y7
  have hy7 : Keeps F a y7 := by
    unfold y7
    refine Keeps.upd_tbl (maskSub hF rfl) ?_
    assumption
  try clear_value y7
  refine State.raise_keeps (maskSub hF rfl) ?_
  assumption

theorem State.retirePc_keeps {F : Nat} {a s : State} {x1 x2 x3} (hF : F ||| 51381248 = F) (h : Keeps F a s) :
    Keeps F a (State.retirePc s x1 x2 x3) := by
  unfold State.retirePc
  extract_lets +onlyGivenNames -underBinder -merge y0
  try clear_value y0
  extract_lets +onlyGivenNames -underBinder -merge y1
  extract_lets +onlyGivenNames -underBinder -merge y2
  try clear_value y2
  extract_lets +onlyGivenNames -underBinder -merge y3
  have hy3 : Keeps F a y3 := by
    unfold y3
    refine Keeps.upd_tbl (maskSub hF rfl) ?_
    assumption
  try clear_value y3
  extract_lets +onlyGivenNames -underBinder -merge y4
  have hy4 : Keeps F a y4 := by
    unfold y4
    refine State.blowFuse_keeps (maskSub hF rfl) ?_
    assumption
  try clear_value y4
  extract_lets +onlyGivenNames -underBinder -merge y5
  have hy5 : Keeps F a y5 := by
    unfold y5
    refine State.raise_keeps (maskSub hF rfl) ?_
    refine State.set_keeps (maskSub hF rfl) ?_
    refine State.set_keeps (maskSub hF rfl) ?_
    assumption
  try clear_value y5
  extract_lets +onlyGivenNames -underBinder -merge y6
  try clear_value y6
  extract_lets +onlyGivenNames -underBinder -merge y7
  have hy7 : Keeps F a y7 := by
    unfold y7
    refine Keeps.foldl ?_ ?_
    · assumption
    · intro x9 x10 h8
      beta_reduce
      refine State.loseSegment_keeps (maskSub hF rfl) ?_
      assumption
  try clear_value y7
  extract_lets +onlyGivenNames -underBinder -merge y11
  have hy11 : Keeps F a y11 := by
    unfold y11
    refine Keeps.ite ?_ ?_
    · refine State.set_keeps (maskSub hF rfl) ?_
      refine State.set_keeps (maskSub hF rfl) ?_
      refine State.set_keeps (maskSub hF rfl) ?_
      assumption
    · split
      · refine Keeps.upd_tbl (maskSub hF rfl) ?_
        assumption
      · assumption
  try clear_value y11
  refine Keeps.ite ?_ ?_
  · refine State.loseStack_keeps (maskSub hF rfl) ?_
    assumption
  · assumption

theorem execPcRetired_keeps {F : Nat} {a s : State} {x0 x1 x2} (hF : F ||| 51381248 = F) (h : Keeps F a s) :
    ∃ t, execPcRetired x0 x1 x2 s = .next t ∧ Keeps F a t := by
  refine ⟨_, rfl, ?_⟩
  refine Keeps.ite ?_ ?_
  · refine State.showTables_keeps (maskSub hF rfl) ?_
    refine State.showFree_keeps (maskSub hF rfl) ?_
    refine State.retirePc_keeps (maskSub hF rfl) ?_
    assumption
  · assumption

theorem execStackLost_keeps {F : Nat} {a s : State} {x0} (hF : F ||| 50332672 = F) (h : Keeps F a s) :
    ∃ t, execStackLost x0 s = .next t ∧ Keeps F a t := by
  refine ⟨_, rfl, ?_⟩
  refine Keeps.ite ?_ ?_
  · assumption
  · refine State.showTables_keeps (maskSub hF rfl) ?_
    refine State.showFree_keeps (maskSub hF rfl) ?_
    refine State.loseStack_keeps (maskSub hF rfl) ?_
    assumption

theorem State.pcCorrected_keeps {F : Nat} {a s : State} {x1 x2} (hF : F ||| 33555456 = F) (h : Keeps F a s) :
    Keeps F a (State.pcCorrected s x1 x2) := by
  unfold State.pcCorrected
  extract_lets +onlyGivenNames -underBinder -merge y0
  try clear_value y0
  extract_lets +onlyGivenNames -underBinder -merge y1
  try clear_value y1
  extract_lets +onlyGivenNames -underBinder -merge y2
  try clear_value y2
  extract_lets +onlyGivenNames -underBinder -merge y3
  have hy3 : Keeps F a y3 := by
    unfold y3
    refine State.count_keeps (maskSub hF rfl) ?_
    refine Keeps.upd_tbl (maskSub hF rfl) ?_
    assumption
  try clear_value y3
  refine Keeps.ite ?_ ?_
  · refine Keeps.upd_tbl (maskSub hF rfl) ?_
    assumption
  · assumption

theorem State.pcUncorrected_keeps {F : Nat} {a s : State} {x1 x2} (hF : F ||| 1024 = F) (h : Keeps F a s) :
    Keeps F a (State.pcUncorrected s x1 x2) := by
  unfold State.pcUncorrected
  refine Keeps.upd_tbl (maskSub hF rfl) ?_
  assumption

theorem State.retrain_keeps {F : Nat} {a s : State} {x1} (hF : F ||| 33554432 = F) (h : Keeps F a s) :
    Keeps F a (State.retrain s x1) := by
  unfold State.retrain
  refine Keeps.ite ?_ ?_
  · assumption
  · refine State.set_keeps (maskSub hF rfl) ?_
    assumption

theorem State.emptyTable_keeps {F : Nat} {a s : State} {x1} (hF : F ||| 33555456 = F) (h : Keeps F a s) :
    Keeps F a (State.emptyTable s x1) := by
  unfold State.emptyTable
  extract_lets +onlyGivenNames -underBinder -merge y0
  try clear_value y0
  extract_lets +onlyGivenNames -underBinder -merge y1
  have hy1 : Keeps F a y1 := by
    unfold y1
    refine State.setTbl_keeps (maskSub hF rfl) ?_
    assumption
  try clear_value y1
  refine Keeps.ite ?_ ?_
  · refine State.restoreTable_keeps (maskSub hF rfl) ?_
    assumption
  · assumption

theorem State.recount_keeps {F : Nat} {a s : State} (hF : F ||| 1024 = F) (h : Keeps F a s) :
    Keeps F a (State.recount s) := by
  unfold State.recount
  extract_lets +onlyGivenNames -underBinder -merge y0
  try clear_value y0
  extract_lets +onlyGivenNames -underBinder -merge y1
  have hy1 : Keeps F a y1 := by
    unfold y1
    refine Keeps.upd_tbl (maskSub hF rfl) ?_
    assumption
  try clear_value y1
  refine Keeps.foldl ?_ ?_
  · assumption
  · intro x3 x4 h2
    beta_reduce
    refine Keeps.foldl ?_ ?_
    · assumption
    · intro x6 x7 h5
      beta_reduce
      refine Keeps.upd_tbl (maskSub hF rfl) ?_
      assumption

theorem State.tablesReset_keeps {F : Nat} {a s : State} (hF : F ||| 33555456 = F) (h : Keeps F a s) :
    Keeps F a (State.tablesReset s) := by
  unfold State.tablesReset
  extract_lets +onlyGivenNames -underBinder -merge y0
  try clear_value y0
  extract_lets +onlyGivenNames -underBinder -merge y1
  have hy1 : Keeps F a y1 := by
    unfold y1
    refine Keeps.upd_tbl (maskSub hF rfl) ?_
    assumption
  try clear_value y1
  extract_lets +onlyGivenNames -underBinder -merge y2
  have hy2 : Keeps F a y2 := by
    unfold y2
    refine State.set_keeps (maskSub hF rfl) ?_
    refine State.set_keeps (maskSub hF rfl) ?_
    refine State.set_keeps (maskSub hF rfl) ?_
    assumption
  try clear_value y2
  extract_lets +onlyGivenNames -underBinder -merge y3
  have hy3 : Keeps F a y3 := by
    unfold y3
    refine Keeps.foldl ?_ ?_
    · assumption
    · intro x5 x6 h4
      beta_reduce
      refine State.retrain_keeps (maskSub hF rfl) ?_
      assumption
  try clear_value y3
  refine State.recount_keeps (maskSub hF rfl) ?_
  refine Keeps.foldl ?_ ?_
  · assumption
  · intro x8 x9 h7
    beta_reduce
    refine State.emptyTable_keeps (maskSub hF rfl) ?_
    assumption

/-! ### Icefield -/

theorem State.judgeFit_keeps {F : Nat} {a s : State} (hF : F ||| 50331648 = F) (h : Keeps F a s) :
    Keeps F a (State.judgeFit s) := by
  unfold State.judgeFit
  extract_lets +onlyGivenNames -underBinder -merge y0
  extract_lets +onlyGivenNames -underBinder -merge y1
  try clear_value y1
  extract_lets +onlyGivenNames -underBinder -merge y2
  have hy2 : Keeps F a y2 := by
    unfold y2
    refine State.setB_keeps (maskSub hF rfl) ?_
    assumption
  try clear_value y2
  refine Keeps.ite ?_ ?_
  · refine State.raise_keeps (maskSub hF rfl) ?_
    assumption
  · assumption

theorem execStreamCommit_keeps {F : Nat} {a s : State} {x0} (hF : F ||| 58982664 = F) (h : Keeps F a s) :
    ∃ t, execStreamCommit x0 s = .next t ∧ Keeps F a t := by
  refine ⟨_, rfl, ?_⟩
  refine State.writeRow_keeps (maskSub hF rfl) ?_ ?_
  · assumption
  · intro x1 h0
    beta_reduce
    refine State.streamGo_keeps (maskSub hF rfl) ?_
    assumption

theorem State.setSlot_keeps {F : Nat} {a s : State} {x1 x2} (hF : F ||| 512 = F) (h : Keeps F a s) :
    Keeps F a (State.setSlot s x1 x2) := by
  unfold State.setSlot
  refine Keeps.upd_ice (maskSub hF rfl) ?_
  assumption

theorem State.delSlot_keeps {F : Nat} {a s : State} {x1} (hF : F ||| 512 = F) (h : Keeps F a s) :
    Keeps F a (State.delSlot s x1) := by
  unfold State.delSlot
  refine Keeps.upd_ice (maskSub hF rfl) ?_
  assumption

theorem State.showSlot_keeps {F : Nat} {a s : State} {x1 x2} (hF : F ||| 33554432 = F) (h : Keeps F a s) :
    Keeps F a (State.showSlot s x1 x2) := by
  unfold State.showSlot
  extract_lets +onlyGivenNames -underBinder -merge y0
  have hy0 : Keeps F a y0 := by
    unfold y0
    refine State.set_keeps (maskSub hF rfl) ?_
    refine State.set_keeps (maskSub hF rfl) ?_
    assumption
  try clear_value y0
  extract_lets +onlyGivenNames -underBinder -merge y1
  have hy1 : Keeps F a y1 := by
    unfold y1
    refine State.wr_keeps (maskSub hF rfl) ?_
    assumption
  try clear_value y1
  extract_lets +onlyGivenNames -underBinder -merge y2
  have hy2 : Keeps F a y2 := by
    unfold y2
    refine State.wr_keeps (maskSub hF rfl) ?_
    assumption
  try clear_value y2
  extract_lets +onlyGivenNames -underBinder -merge y3
  have hy3 : Keeps F a y3 := by
    unfold y3
    refine State.wr_keeps (maskSub hF rfl) ?_
    assumption
  try clear_value y3
  extract_lets +onlyGivenNames -underBinder -merge y4
  try clear_value y4
  refine Keeps.foldl ?_ ?_
  · assumption
  · intro x6 x7 h5
    beta_reduce
    refine State.wr_keeps (maskSub hF rfl) ?_
    assumption

theorem State.slotCmd_keeps {F : Nat} {a s : State} {x0 x1} (hF : F ||| 33554944 = F) (h : Keeps F a s) :
    Keeps F a (State.slotCmd x0 x1 s) := by
  unfold State.slotCmd
  refine Keeps.ite ?_ ?_
  · assumption
  · refine Keeps.ite ?_ ?_
    · refine State.set_keeps (maskSub hF rfl) ?_
      assumption
    · refine Keeps.ite ?_ ?_
      · refine State.setSlot_keeps (maskSub hF rfl) ?_
        refine State.set_keeps (maskSub hF rfl) ?_
        refine State.set_keeps (maskSub hF rfl) ?_
        assumption
      · refine State.delSlot_keeps (maskSub hF rfl) ?_
        refine State.showSlot_keeps (maskSub hF rfl) ?_
        refine State.set_keeps (maskSub hF rfl) ?_
        refine State.set_keeps (maskSub hF rfl) ?_
        assumption

theorem execSlotLoad_keeps {F : Nat} {a s : State} {x0 x1 x2} (hF : F ||| 58720776 = F) (h : Keeps F a s) :
    ∃ t, execSlotLoad x0 x1 x2 s = .next t ∧ Keeps F a t := by
  refine ⟨_, rfl, ?_⟩
  refine State.writeRow_keeps (maskSub hF rfl) ?_ ?_
  · assumption
  · intro x1 h0
    beta_reduce
    refine State.slotCmd_keeps (maskSub hF rfl) ?_
    assumption

theorem execSlotUnload_keeps {F : Nat} {a s : State} {x0 x1} (hF : F ||| 58720776 = F) (h : Keeps F a s) :
    ∃ t, execSlotUnload x0 x1 s = .next t ∧ Keeps F a t := by
  refine ⟨_, rfl, ?_⟩
  refine State.writeRow_keeps (maskSub hF rfl) ?_ ?_
  · assumption
  · intro x1 h0
    beta_reduce
    refine State.slotCmd_keeps (maskSub hF rfl) ?_
    assumption

theorem execSlotVerifyDone_keeps {F : Nat} {a s : State} {x0} (hF : F ||| 33554944 = F) (h : Keeps F a s) :
    ∃ t, execSlotVerifyDone x0 s = .next t ∧ Keeps F a t := by
  refine ⟨_, rfl, ?_⟩
  refine Keeps.ite ?_ ?_
  · assumption
  · extract_lets +onlyGivenNames -underBinder -merge y0
    try clear_value y0
    extract_lets +onlyGivenNames -underBinder -merge y1
    try clear_value y1
    extract_lets +onlyGivenNames -underBinder -merge y2
    try clear_value y2
    refine Keeps.ite ?_ ?_
    · extract_lets +onlyGivenNames -underBinder -merge y3
      try clear_value y3
      refine State.showSlot_keeps (maskSub hF rfl) ?_
      refine State.setSlot_keeps (maskSub hF rfl) ?_
      refine State.set_keeps (maskSub hF rfl) ?_
      assumption
    · refine State.set_keeps (maskSub hF rfl) ?_
      refine State.set_keeps (maskSub hF rfl) ?_
      assumption

theorem State.switchGo_keeps {F : Nat} {a s : State} {x0} (hF : F ||| 33554944 = F) (h : Keeps F a s) :
    Keeps F a (State.switchGo x0 s) := by
  unfold State.switchGo
  refine Keeps.ite ?_ ?_
  · assumption
  · extract_lets +onlyGivenNames -underBinder -merge y0
    try clear_value y0
    extract_lets +onlyGivenNames -underBinder -merge y1
    have hfy1 : ∀ v0, Keeps F a (y1 v0) := by
      intro z2
      unfold y1
      beta_reduce
      refine State.set_keeps (maskSub hF rfl) ?_
      assumption
    try clear_value y1
    refine Keeps.ite ?_ ?_
    · refine hfy1 _
    · split
      · refine Keeps.ite ?_ ?_
        · refine hfy1 _
        · extract_lets +onlyGivenNames -underBinder -merge y3
          try clear_value y3
          refine Keeps.ite ?_ ?_
          · extract_lets +onlyGivenNames -underBinder -merge y4
            have hy4 : Keeps F a y4 := by
              unfold y4
              refine State.set_keeps (maskSub hF rfl) ?_
              refine hfy1 _
            try clear_value y4
            refine Keeps.upd_ice (maskSub hF rfl) ?_
            assumption
          · refine hfy1 _
      · refine hfy1 _

theorem execIfdSwitch_keeps {F : Nat} {a s : State} {x0 x1} (hF : F ||| 58720776 = F) (h : Keeps F a s) :
    ∃ t, execIfdSwitch x0 x1 s = .next t ∧ Keeps F a t := by
  refine ⟨_, rfl, ?_⟩
  refine State.writeRow_keeps (maskSub hF rfl) ?_ ?_
  · assumption
  · intro x1 h0
    beta_reduce
    refine State.switchGo_keeps (maskSub hF rfl) ?_
    assumption

theorem State.activate_keeps {F : Nat} {a s : State} {x1} (hF : F ||| 33554432 = F) (h : Keeps F a s) :
    Keeps F a (State.activate s x1) := by
  unfold State.activate
  split
  · assumption
  · extract_lets +onlyGivenNames -underBinder -merge y0
    try clear_value y0
    extract_lets +onlyGivenNames -underBinder -merge y1
    have hy1 : Keeps F a y1 := by
      unfold y1
      refine Keeps.foldl ?_ ?_
      · assumption
      · intro x3 x4 h2
        beta_reduce
        refine State.set_keeps (maskSub hF rfl) ?_
        assumption
    try clear_value y1
    extract_lets +onlyGivenNames -underBinder -merge y5
    have hy5 : Keeps F a y5 := by
      unfold y5
      refine State.set_keeps (maskSub hF rfl) ?_
      assumption
    try clear_value y5
    refine Keeps.ite ?_ ?_
    · refine State.set_keeps (maskSub hF rfl) ?_
      assumption
    · assumption

theorem State.partWrite_keeps {F : Nat} {a s : State} {x0} (hF : F ||| 33554432 = F) (h : Keeps F a s) :
    Keeps F a (State.partWrite x0 s) := by
  unfold State.partWrite
  refine Keeps.ite ?_ ?_
  · refine State.set_keeps (maskSub hF rfl) ?_
    assumption
  · refine State.wr_keeps (maskSub hF rfl) ?_
    assumption

theorem execIfdPartWrite_keeps {F : Nat} {a s : State} {x0 x1} (hF : F ||| 58720264 = F) (h : Keeps F a s) :
    ∃ t, execIfdPartWrite x0 x1 s = .next t ∧ Keeps F a t := by
  refine ⟨_, rfl, ?_⟩
  refine State.writeRow_keeps (maskSub hF rfl) ?_ ?_
  · assumption
  · intro x1 h0
    beta_reduce
    refine State.partWrite_keeps (maskSub hF rfl) ?_
    assumption

theorem State.runOn_keeps {F : Nat} {a s : State} {x1 x2} (hF : F ||| 67108864 = F) (h : Keeps F a s) :
    Keeps F a (State.runOn s x1 x2).2 :=
  Keeps.upd_fresh hF (runImage_free _ _) h

theorem State.reserveRun_keeps {F : Nat} {a s : State} {x1 x2 x3} (hF : F ||| 50333184 = F) (h : Keeps F a s) :
    Keeps F a (State.reserveRun s x1 x2 x3).2 := by
  unfold State.reserveRun
  split
  · refine Keeps.p2 ?_
    refine Keeps.upd_tbl (maskSub hF rfl) ?_
    assumption
  · extract_lets +onlyGivenNames -underBinder -merge y0
    try clear_value y0
    extract_lets +onlyGivenNames -underBinder -merge y1
    try clear_value y1
    extract_lets +onlyGivenNames -underBinder -merge y2
    have hy2 : Keeps F a y2 := by
      unfold y2
      refine Keeps.upd_ice (maskSub hF rfl) ?_
      assumption
    try clear_value y2
    refine Keeps.p2 ?_
    refine State.raise_keeps (maskSub hF rfl) ?_
    refine State.count_keeps (maskSub hF rfl) ?_
    assumption

theorem State.countRun_keeps {F : Nat} {a s : State} {x1} (hF : F ||| 50331648 = F) (h : Keeps F a s) :
    Keeps F a (State.countRun s x1) := by
  unfold State.countRun
  extract_lets +onlyGivenNames -underBinder -merge y0
  have hy0 : Keeps F a y0 := by
    unfold y0
    refine State.countBy_keeps (maskSub hF rfl) ?_
    assumption
  try clear_value y0
  extract_lets +onlyGivenNames -underBinder -merge y1
  have hy1 : Keeps F a y1 := by
    unfold y1
    refine Keeps.foldl ?_ ?_
    · assumption
    · intro x3 x4 h2
      beta_reduce
      refine State.countBy_keeps (maskSub hF rfl) ?_
      assumption
  try clear_value y1
  extract_lets +onlyGivenNames -underBinder -merge y5
  have hy5 : Keeps F a y5 := by
    unfold y5
    refine Keeps.ite ?_ ?_
    · assumption
    · refine State.raise_keeps (maskSub hF rfl) ?_
      refine State.countBy_keeps (maskSub hF rfl) ?_
      assumption
  try clear_value y5
  extract_lets +onlyGivenNames -underBinder -merge y6
  have hy6 : Keeps F a y6 := by
    unfold y6
    refine Keeps.ite ?_ ?_
    · assumption
    · refine State.raise_keeps (maskSub hF rfl) ?_
      refine State.countBy_keeps (maskSub hF rfl) ?_
      assumption
  try clear_value y6
  refine Keeps.ite ?_ ?_
  · assumption
  · refine State.raise_keeps (maskSub hF rfl) ?_
    refine State.countBy_keeps (maskSub hF rfl) ?_
    assumption

theorem State.deliver_keeps {F : Nat} {a s : State} {x1 x2} (hF : F ||| 33555200 = F) (h : Keeps F a s) :
    Keeps F a (State.deliver s x1 x2) := by
  unfold State.deliver
  extract_lets +onlyGivenNames -underBinder -merge y0
  have hy0 : Keeps F a y0 := by
    unfold y0
    refine Keeps.foldl ?_ ?_
    · assumption
    · intro x2 x3 h1
      beta_reduce
      extract_lets +onlyGivenNames -underBinder -merge y4
      have hy4 : Keeps F a y4 := by
        unfold y4
        refine State.setB_keeps (maskSub hF rfl) ?_
        refine State.set_keeps (maskSub hF rfl) ?_
        assumption
      try clear_value y4
      refine State.setStrm_keeps (maskSub hF rfl) ?_
      assumption
  try clear_value y0
  extract_lets +onlyGivenNames -underBinder -merge y5
  have hy5 : Keeps F a y5 := by
    unfold y5
    refine Keeps.foldl ?_ ?_
    · assumption
    · intro x7 x8 h6
      beta_reduce
      refine State.wr_keeps (maskSub hF rfl) ?_
      assumption
  try clear_value y5
  extract_lets +onlyGivenNames -underBinder -merge y9
  try clear_value y9
  refine Keeps.upd_ice (maskSub hF rfl) ?_
  assumption

theorem State.ageForecasts_keeps {F : Nat} {a s : State} (hF : F ||| 33554432 = F) (h : Keeps F a s) :
    Keeps F a (State.ageForecasts s) := by
  unfold State.ageForecasts
  refine Keeps.foldl ?_ ?_
  · assumption
  · intro x1 x2 h0
    beta_reduce
    refine Keeps.ite ?_ ?_
    · refine State.set_keeps (maskSub hF rfl) ?_
      assumption
    · assumption

theorem State.setIceRun_keeps {F : Nat} {a s : State} {x1} (hF : F ||| 512 = F) (h : Keeps F a s) :
    Keeps F a (State.setIceRun s x1) := by
  unfold State.setIceRun
  refine Keeps.upd_ice (maskSub hF rfl) ?_
  assumption

theorem execFrameRunStart_keeps {F : Nat} {a s : State} (hF : F ||| 117442048 = F) (h : Keeps F a s) :
    ∃ t, execFrameRunStart s = .next t ∧ Keeps F a t := by
  refine ⟨_, rfl, ?_⟩
  split
  · assumption
  · refine Keeps.ite ?_ ?_
    · assumption
    · extract_lets +onlyGivenNames -underBinder -merge y0
      have hy02 : Keeps F a y0.2 := by
        unfold y0
        refine State.runOn_keeps (maskSub hF rfl) ?_
        assumption
      try clear_value y0
      extract_lets +onlyGivenNames -underBinder -merge y1
      have hy12 : Keeps F a y1.2 := by
        unfold y1
        refine State.reserveRun_keeps (maskSub hF rfl) ?_
        assumption
      try clear_value y1
      refine State.set_keeps (maskSub hF rfl) ?_
      refine State.setIceRun_keeps (maskSub hF rfl) ?_
      assumption

theorem State.peakRequests_keeps {F : Nat} {a s : State} {x1} (hF : F ||| 33554432 = F) (h : Keeps F a s) :
    Keeps F a (State.peakRequests s x1) := by
  unfold State.peakRequests
  refine State.set_keeps (maskSub hF rfl) ?_
  assumption

theorem State.showRun_keeps {F : Nat} {a s : State} {x1} (hF : F ||| 33554432 = F) (h : Keeps F a s) :
    Keeps F a (State.showRun s x1) := by
  unfold State.showRun
  refine State.set_keeps (maskSub hF rfl) ?_
  refine State.set_keeps (maskSub hF rfl) ?_
  refine State.set_keeps (maskSub hF rfl) ?_
  assumption

theorem State.abandonRun_keeps {F : Nat} {a s : State} (hF : F ||| 50332160 = F) (h : Keeps F a s) :
    Keeps F a (State.abandonRun s) := by
  unfold State.abandonRun
  extract_lets +onlyGivenNames -underBinder -merge y0
  try clear_value y0
  extract_lets +onlyGivenNames -underBinder -merge y1
  try clear_value y1
  extract_lets +onlyGivenNames -underBinder -merge y2
  have hy2 : Keeps F a y2 := by
    unfold y2
    refine Keeps.upd_ice (maskSub hF rfl) ?_
    assumption
  try clear_value y2
  refine State.raise_keeps (maskSub hF rfl) ?_
  refine State.count_keeps (maskSub hF rfl) ?_
  refine State.showRun_keeps (maskSub hF rfl) ?_
  assumption

theorem State.deadlineNow_keeps {F : Nat} {a s : State} (hF : F ||| 50332160 = F) (h : Keeps F a s) :
    Keeps F a (State.deadlineNow s) := by
  unfold State.deadlineNow
  refine Keeps.ite ?_ ?_
  · refine State.abandonRun_keeps (maskSub hF rfl) ?_
    assumption
  · assumption

theorem State.shadowMismatch_keeps {F : Nat} {a s : State} {x1 x2} (hF : F ||| 50332160 = F) (h : Keeps F a s) :
    Keeps F a (State.shadowMismatch s x1 x2) := by
  unfold State.shadowMismatch
  extract_lets +onlyGivenNames -underBinder -merge y0
  have hy0 : Keeps F a y0 := by
    unfold y0
    refine State.bump_keeps (maskSub hF rfl) ?_
    refine State.count_keeps (maskSub hF rfl) ?_
    refine State.abandonRun_keeps (maskSub hF rfl) ?_
    assumption
  try clear_value y0
  refine State.raise_keeps (maskSub hF rfl) ?_
  refine Keeps.upd_ice (maskSub hF rfl) ?_
  assumption

theorem State.finishRun_keeps {F : Nat} {a s : State} {x1 x2 x3} (hF : F ||| 50333440 = F) (h : Keeps F a s) :
    Keeps F a (State.finishRun s x1 x2 x3) := by
  unfold State.finishRun
  extract_lets +onlyGivenNames -underBinder -merge y0
  try clear_value y0
  extract_lets +onlyGivenNames -underBinder -merge y1
  have hy1 : Keeps F a y1 := by
    unfold y1
    refine Keeps.upd_ice (maskSub hF rfl) ?_
    assumption
  try clear_value y1
  extract_lets +onlyGivenNames -underBinder -merge y2
  try clear_value y2
  extract_lets +onlyGivenNames -underBinder -merge y3
  have hy3 : Keeps F a y3 := by
    unfold y3
    refine Keeps.upd_tbl (maskSub hF rfl) ?_
    assumption
  try clear_value y3
  refine State.deliver_keeps (maskSub hF rfl) ?_
  refine State.countRun_keeps (maskSub hF rfl) ?_
  refine State.showRun_keeps (maskSub hF rfl) ?_
  assumption

theorem execFrameRunEnd_keeps {F : Nat} {a s : State} {x0 x1 x2} (hF : F ||| 50333440 = F) (h : Keeps F a s) :
    ∃ t, execFrameRunEnd x0 x1 x2 s = .next t ∧ Keeps F a t := by
  refine ⟨_, rfl, ?_⟩
  split
  · extract_lets +onlyGivenNames -underBinder -merge y0
    have hy0 : Keeps F a y0 := by
      unfold y0
      refine State.peakRequests_keeps (maskSub hF rfl) ?_
      assumption
    try clear_value y0
    split
    · refine State.shadowMismatch_keeps (maskSub hF rfl) ?_
      assumption
    · refine State.finishRun_keeps (maskSub hF rfl) ?_
      assumption
  · assumption

theorem State.skipBatch_keeps {F : Nat} {a s : State} {x1} (hF : F ||| 50332160 = F) (h : Keeps F a s) :
    Keeps F a (State.skipBatch s x1) := by
  unfold State.skipBatch
  extract_lets +onlyGivenNames -underBinder -merge y0
  try clear_value y0
  extract_lets +onlyGivenNames -underBinder -merge y1
  try clear_value y1
  extract_lets +onlyGivenNames -underBinder -merge y2
  have hy2 : Keeps F a y2 := by
    unfold y2
    refine Keeps.upd_ice (maskSub hF rfl) ?_
    assumption
  try clear_value y2
  refine State.raise_keeps (maskSub hF rfl) ?_
  refine State.count_keeps (maskSub hF rfl) ?_
  assumption

theorem State.showKrun_keeps {F : Nat} {a s : State} (hF : F ||| 33554432 = F) (h : Keeps F a s) :
    Keeps F a (State.showKrun s) := by
  unfold State.showKrun
  refine State.setB_keeps (maskSub hF rfl) ?_
  assumption

theorem State.beginBatch_keeps {F : Nat} {a s : State} {x1 x2 x3} (hF : F ||| 117442048 = F) (h : Keeps F a s) :
    Keeps F a (State.beginBatch s x1 x2 x3) := by
  unfold State.beginBatch
  extract_lets +onlyGivenNames -underBinder -merge y0
  try clear_value y0
  extract_lets +onlyGivenNames -underBinder -merge y1
  try clear_value y1
  extract_lets +onlyGivenNames -underBinder -merge y2
  try clear_value y2
  extract_lets +onlyGivenNames -underBinder -merge y3
  try clear_value y3
  extract_lets +onlyGivenNames -underBinder -merge y4
  have hy42 : Keeps F a y4.2 := by
    unfold y4
    refine State.runOn_keeps (maskSub hF rfl) ?_
    assumption
  try clear_value y4
  extract_lets +onlyGivenNames -underBinder -merge y5
  have hy52 : Keeps F a y5.2 := by
    unfold y5
    refine State.reserveRun_keeps (maskSub hF rfl) ?_
    assumption
  try clear_value y5
  extract_lets +onlyGivenNames -underBinder -merge y6
  have hy6 : Keeps F a y6 := by
    unfold y6
    assumption
  try clear_value y6
  extract_lets +onlyGivenNames -underBinder -merge y7
  try clear_value y7
  extract_lets +onlyGivenNames -underBinder -merge y8
  try clear_value y8
  extract_lets +onlyGivenNames -underBinder -merge y9
  try clear_value y9
  refine State.showKrun_keeps (maskSub hF rfl) ?_
  refine Keeps.upd_ice (maskSub hF rfl) ?_
  assumption

theorem State.dueBatch_keeps {F : Nat} {a s : State} {x1} (hF : F ||| 117442048 = F) (h : Keeps F a s) :
    Keeps F a (State.dueBatch s x1) := by
  unfold State.dueBatch
  split
  · assumption
  · refine Keeps.ite ?_ ?_
    · assumption
    · extract_lets +onlyGivenNames -underBinder -merge y0
      try clear_value y0
      extract_lets +onlyGivenNames -underBinder -merge y1
      have hy1 : Keeps F a y1 := by
        unfold y1
        refine Keeps.upd_ice (maskSub hF rfl) ?_
        assumption
      try clear_value y1
      refine Keeps.ite ?_ ?_
      · refine State.skipBatch_keeps (maskSub hF rfl) ?_
        assumption
      · refine State.beginBatch_keeps (maskSub hF rfl) ?_
        assumption

theorem execKernelBatchStart_keeps {F : Nat} {a s : State} {x0} (hF : F ||| 117442048 = F) (h : Keeps F a s) :
    ∃ t, execKernelBatchStart x0 s = .next t ∧ Keeps F a t := by
  refine ⟨_, rfl, ?_⟩
  refine Keeps.ite ?_ ?_
  · assumption
  · refine Keeps.foldl ?_ ?_
    · assumption
    · intro x1 x2 h0
      beta_reduce
      refine State.dueBatch_keeps (maskSub hF rfl) ?_
      assumption

theorem execKernelBatchEnd_keeps {F : Nat} {a s : State} {x0} (hF : F ||| 50333440 = F) (h : Keeps F a s) :
    ∃ t, execKernelBatchEnd x0 s = .next t ∧ Keeps F a t := by
  refine ⟨_, rfl, ?_⟩
  split
  · assumption
  · extract_lets +onlyGivenNames -underBinder -merge y0
    try clear_value y0
    extract_lets +onlyGivenNames -underBinder -merge y1
    have hy1 : Keeps F a y1 := by
      unfold y1
      refine Keeps.upd_ice (maskSub hF rfl) ?_
      assumption
    try clear_value y1
    extract_lets +onlyGivenNames -underBinder -merge y2
    try clear_value y2
    extract_lets +onlyGivenNames -underBinder -merge y3
    have hy3 : Keeps F a y3 := by
      unfold y3
      refine Keeps.upd_tbl (maskSub hF rfl) ?_
      assumption
    try clear_value y3
    extract_lets +onlyGivenNames -underBinder -merge y4
    have hy4 : Keeps F a y4 := by
      unfold y4
      refine State.freeHeld_keeps (maskSub hF rfl) ?_
      refine State.showKrun_keeps (maskSub hF rfl) ?_
      refine State.countRun_keeps (maskSub hF rfl) ?_
      refine State.peakRequests_keeps (maskSub hF rfl) ?_
      assumption
    try clear_value y4
    refine Keeps.elim ?_ (fun _ => ?_)
    · assumption
    · refine State.deliver_keeps (maskSub hF rfl) ?_
      assumption

theorem State.abandonBatch_keeps {F : Nat} {a s : State} {x1 x2} (hF : F ||| 50332160 = F) (h : Keeps F a s) :
    Keeps F a (State.abandonBatch s x1 x2) := by
  unfold State.abandonBatch
  extract_lets +onlyGivenNames -underBinder -merge y0
  try clear_value y0
  extract_lets +onlyGivenNames -underBinder -merge y1
  try clear_value y1
  extract_lets +onlyGivenNames -underBinder -merge y2
  have hy2 : Keeps F a y2 := by
    unfold y2
    refine Keeps.upd_ice (maskSub hF rfl) ?_
    assumption
  try clear_value y2
  refine State.raise_keeps (maskSub hF rfl) ?_
  refine State.count_keeps (maskSub hF rfl) ?_
  assumption

theorem execRunMemoryError_keeps {F : Nat} {a s : State} {x0} (hF : F ||| 50333184 = F) (h : Keeps F a s) :
    ∃ t, execRunMemoryError x0 s = .next t ∧ Keeps F a t := by
  refine ⟨_, rfl, ?_⟩
  extract_lets +onlyGivenNames -underBinder -merge y0
  have hfy0 : ∀ v0, Keeps F a v0 → Keeps F a (y0 v0) := by
    intro z1 k2
    unfold y0
    beta_reduce
    refine State.raise_keeps (maskSub hF rfl) ?_
    refine Keeps.upd_ice (maskSub hF rfl) ?_
    assumption
  try clear_value y0
  split
  · refine Keeps.ite ?_ ?_
    · refine hfy0 _ ?_
      refine State.abandonRun_keeps (maskSub hF rfl) ?_
      assumption
    · assumption
  · split
    · assumption
    · refine hfy0 _ ?_
      refine State.freeHeld_keeps (maskSub hF rfl) ?_
      refine State.showKrun_keeps (maskSub hF rfl) ?_
      refine State.abandonBatch_keeps (maskSub hF rfl) ?_
      assumption

theorem State.retireTile_keeps {F : Nat} {a s : State} {x1} (hF : F ||| 50331648 = F) (h : Keeps F a s) :
    Keeps F a (State.retireTile s x1) := by
  unfold State.retireTile
  refine Keeps.ite ?_ ?_
  · assumption
  · extract_lets +onlyGivenNames -underBinder -merge y0
    have hy0 : Keeps F a y0 := by
      unfold y0
      refine State.set_keeps (maskSub hF rfl) ?_
      refine State.set_keeps (maskSub hF rfl) ?_
      assumption
    try clear_value y0
    refine State.judgeFit_keeps (maskSub hF rfl) ?_
    refine State.raise_keeps (maskSub hF rfl) ?_
    refine State.set_keeps (maskSub hF rfl) ?_
    assumption

theorem State.loseArray_keeps {F : Nat} {a s : State} {x1} (hF : F ||| 50331648 = F) (h : Keeps F a s) :
    Keeps F a (State.loseArray s x1) := by
  unfold State.loseArray
  extract_lets +onlyGivenNames -underBinder -merge y0
  have hy0 : Keeps F a y0 := by
    unfold y0
    refine State.bump_keeps (maskSub hF rfl) ?_
    refine State.bump_keeps (maskSub hF rfl) ?_
    assumption
  try clear_value y0
  refine Keeps.ite ?_ ?_
  · refine State.retireTile_keeps (maskSub hF rfl) ?_
    assumption
  · assumption

theorem State.retireArray_keeps {F : Nat} {a s : State} {x1 x2} (hF : F ||| 512 = F) (h : Keeps F a s) :
    Keeps F a (State.retireArray s x1 x2) := by
  unfold State.retireArray
  refine Keeps.upd_ice (maskSub hF rfl) ?_
  assumption

theorem State.applyRetire_keeps {F : Nat} {a s : State} (hF : F ||| 51380736 = F) (h : Keeps F a s) :
    Keeps F a (State.applyRetire s) := by
  unfold State.applyRetire
  extract_lets +onlyGivenNames -underBinder -merge y0
  try clear_value y0
  extract_lets +onlyGivenNames -underBinder -merge y1
  try clear_value y1
  extract_lets +onlyGivenNames -underBinder -merge y2
  have hy2 : Keeps F a y2 := by
    unfold y2
    refine Keeps.upd_ice (maskSub hF rfl) ?_
    assumption
  try clear_value y2
  refine Keeps.foldl ?_ ?_
  · assumption
  · intro x4 x5 h3
    beta_reduce
    extract_lets +onlyGivenNames -underBinder -merge y6
    try clear_value y6
    extract_lets +onlyGivenNames -underBinder -merge y7
    try clear_value y7
    extract_lets +onlyGivenNames -underBinder -merge y8
    extract_lets +onlyGivenNames -underBinder -merge y9
    try clear_value y9
    extract_lets +onlyGivenNames -underBinder -merge y10
    have hy10 : Keeps F a y10 := by
      unfold y10
      refine State.blowFuse_keeps (maskSub hF rfl) ?_
      assumption
    try clear_value y10
    extract_lets +onlyGivenNames -underBinder -merge y11
    have hy11 : Keeps F a y11 := by
      unfold y11
      refine State.set_keeps (maskSub hF rfl) ?_
      assumption
    try clear_value y11
    refine State.loseArray_keeps (maskSub hF rfl) ?_
    refine State.raise_keeps (maskSub hF rfl) ?_
    refine State.set_keeps (maskSub hF rfl) ?_
    assumption

theorem State.retireSpare_keeps {F : Nat} {a s : State} {x1} (hF : F ||| 51380224 = F) (h : Keeps F a s) :
    Keeps F a (State.retireSpare s x1) := by
  unfold State.retireSpare
  extract_lets +onlyGivenNames -underBinder -merge y0
  try clear_value y0
  extract_lets +onlyGivenNames -underBinder -merge y1
  try clear_value y1
  refine State.loseArray_keeps (maskSub hF rfl) ?_
  refine State.set_keeps (maskSub hF rfl) ?_
  refine State.blowFuse_keeps (maskSub hF rfl) ?_
  assumption

theorem execArrayTestDone_keeps {F : Nat} {a s : State} {x0 x1 x2 x3} (hF : F ||| 51380736 = F) (h : Keeps F a s) :
    ∃ t, execArrayTestDone x0 x1 x2 x3 s = .next t ∧ Keeps F a t := by
  refine ⟨_, rfl, ?_⟩
  refine Keeps.ite ?_ ?_
  · assumption
  · extract_lets +onlyGivenNames -underBinder -merge y0
    try clear_value y0
    extract_lets +onlyGivenNames -underBinder -merge y1
    have hy1 : Keeps F a y1 := by
      unfold y1
      refine Keeps.upd_ice (maskSub hF rfl) ?_
      assumption
    try clear_value y1
    extract_lets +onlyGivenNames -underBinder -merge y2
    have hy2 : Keeps F a y2 := by
      unfold y2
      refine Keeps.ite ?_ ?_
      · assumption
      · refine State.retireSpare_keeps (maskSub hF rfl) ?_
        assumption
    try clear_value y2
    refine Keeps.ite ?_ ?_
    · refine State.retireArray_keeps (maskSub hF rfl) ?_
      assumption
    · refine Keeps.ite ?_ ?_
      · extract_lets +onlyGivenNames -underBinder -merge y3
        try clear_value y3
        extract_lets +onlyGivenNames -underBinder -merge y4
        try clear_value y4
        extract_lets +onlyGivenNames -underBinder -merge y5
        try clear_value y5
        extract_lets +onlyGivenNames -underBinder -merge y6
        have hy6 : Keeps F a y6 := by
          unfold y6
          refine State.bump_keeps (maskSub hF rfl) ?_
          refine Keeps.upd_ice (maskSub hF rfl) ?_
          assumption
        try clear_value y6
        refine Keeps.ite ?_ ?_
        · refine State.retireArray_keeps (maskSub hF rfl) ?_
          assumption
        · assumption
      · assumption

theorem State.retireBank_keeps {F : Nat} {a s : State} {x1 x2} (hF : F ||| 51380224 = F) (h : Keeps F a s) :
    Keeps F a (State.retireBank s x1 x2) := by
  unfold State.retireBank
  extract_lets +onlyGivenNames -underBinder -merge y0
  try clear_value y0
  extract_lets +onlyGivenNames -underBinder -merge y1
  have hy1 : Keeps F a y1 := by
    unfold y1
    refine State.bump_keeps (maskSub hF rfl) ?_
    refine State.blowFuse_keeps (maskSub hF rfl) ?_
    assumption
  try clear_value y1
  refine Keeps.ite ?_ ?_
  · refine State.retireTile_keeps (maskSub hF rfl) ?_
    refine State.raise_keeps (maskSub hF rfl) ?_
    assumption
  · extract_lets +onlyGivenNames -underBinder -merge y2
    have hy2 : Keeps F a y2 := by
      unfold y2
      refine State.set_keeps (maskSub hF rfl) ?_
      refine State.set_keeps (maskSub hF rfl) ?_
      refine State.set_keeps (maskSub hF rfl) ?_
      assumption
    try clear_value y2
    refine State.raise_keeps (maskSub hF rfl) ?_
    assumption

theorem State.bankCorrected_keeps {F : Nat} {a s : State} {x1 x2} (hF : F ||| 51380736 = F) (h : Keeps F a s) :
    Keeps F a (State.bankCorrected s x1 x2) := by
  unfold State.bankCorrected
  extract_lets +onlyGivenNames -underBinder -merge y0
  try clear_value y0
  extract_lets +onlyGivenNames -underBinder -merge y1
  try clear_value y1
  extract_lets +onlyGivenNames -underBinder -merge y2
  try clear_value y2
  extract_lets +onlyGivenNames -underBinder -merge y3
  have hy3 : Keeps F a y3 := by
    unfold y3
    refine State.bump_keeps (maskSub hF rfl) ?_
    refine Keeps.upd_ice (maskSub hF rfl) ?_
    assumption
  try clear_value y3
  refine Keeps.ite ?_ ?_
  · refine State.retireBank_keeps (maskSub hF rfl) ?_
    assumption
  · assumption

theorem State.setRpl_keeps {F : Nat} {a s : State} {x1} (hF : F ||| 512 = F) (h : Keeps F a s) :
    Keeps F a (State.setRpl s x1) := by
  unfold State.setRpl
  refine Keeps.upd_ice (maskSub hF rfl) ?_
  assumption

theorem State.toRpl_keeps {F : Nat} {a s : State} {x1 x2 x3} (hF : F ||| 33554432 = F) (h : Keeps F a s) :
    Keeps F a (State.toRpl s x1 x2 x3) := by
  unfold State.toRpl
  refine State.setB_keeps (maskSub hF rfl) ?_
  refine State.set_keeps (maskSub hF rfl) ?_
  refine State.set_keeps (maskSub hF rfl) ?_
  assumption

theorem State.showRplFrame_keeps {F : Nat} {a s : State} (hF : F ||| 33554432 = F) (h : Keeps F a s) :
    Keeps F a (State.showRplFrame s) := by
  unfold State.showRplFrame
  extract_lets +onlyGivenNames -underBinder -merge y0
  try clear_value y0
  refine State.wr_keeps (maskSub hF rfl) ?_
  refine State.wr_keeps (maskSub hF rfl) ?_
  assumption

theorem State.replayOn_keeps {F : Nat} {a s : State} {x1} (hF : F ||| 33554944 = F) (h : Keeps F a s) :
    Keeps F a (State.replayOn s x1) := by
  unfold State.replayOn
  refine Keeps.ite ?_ ?_
  · refine State.toRpl_keeps (maskSub hF rfl) ?_
    refine State.setRpl_keeps (maskSub hF rfl) ?_
    assumption
  · refine State.toRpl_keeps (maskSub hF rfl) ?_
    assumption

theorem State.replayStart_keeps {F : Nat} {a s : State} {x0} (hF : F ||| 33554944 = F) (h : Keeps F a s) :
    Keeps F a (State.replayStart x0 s) := by
  unfold State.replayStart
  split
  · extract_lets +onlyGivenNames -underBinder -merge y0
    try clear_value y0
    extract_lets +onlyGivenNames -underBinder -merge y1
    try clear_value y1
    extract_lets +onlyGivenNames -underBinder -merge y2
    have hy2 : Keeps F a y2 := by
      unfold y2
      refine State.setRpl_keeps (maskSub hF rfl) ?_
      assumption
    try clear_value y2
    refine State.showRplFrame_keeps (maskSub hF rfl) ?_
    refine Keeps.ite ?_ ?_
    · refine State.toRpl_keeps (maskSub hF rfl) ?_
      assumption
    · refine State.replayOn_keeps (maskSub hF rfl) ?_
      assumption
  · refine State.toRpl_keeps (maskSub hF rfl) ?_
    assumption

theorem State.replaySnap_keeps {F : Nat} {a s : State} (hF : F ||| 33554944 = F) (h : Keeps F a s) :
    Keeps F a (State.replaySnap s) := by
  unfold State.replaySnap
  split
  · extract_lets +onlyGivenNames -underBinder -merge y0
    try clear_value y0
    extract_lets +onlyGivenNames -underBinder -merge y1
    try clear_value y1
    extract_lets +onlyGivenNames -underBinder -merge y2
    try clear_value y2
    refine State.toRpl_keeps (maskSub hF rfl) ?_
    refine State.set_keeps (maskSub hF rfl) ?_
    refine Keeps.upd_ice (maskSub hF rfl) ?_
    assumption
  · refine State.toRpl_keeps (maskSub hF rfl) ?_
    assumption

theorem State.replayRestore_keeps {F : Nat} {a s : State} (hF : F ||| 33555968 = F) (h : Keeps F a s) :
    Keeps F a (State.replayRestore s) := by
  unfold State.replayRestore
  split
  · refine Keeps.ite ?_ ?_
    · refine State.toRpl_keeps (maskSub hF rfl) ?_
      assumption
    · extract_lets +onlyGivenNames -underBinder -merge y0
      try clear_value y0
      extract_lets +onlyGivenNames -underBinder -merge y1
      have hy1 : Keeps F a y1 := by
        unfold y1
        refine State.setRpl_keeps (maskSub hF rfl) ?_
        assumption
      try clear_value y1
      extract_lets +onlyGivenNames -underBinder -merge y2
      have hy2 : Keeps F a y2 := by
        unfold y2
        refine Keeps.foldl ?_ ?_
        · assumption
        · intro x4 x5 h3
          beta_reduce
          refine State.setEpoch_keeps (maskSub hF rfl) ?_
          refine State.setTbl_keeps (maskSub hF rfl) ?_
          assumption
      try clear_value y2
      refine State.showRplFrame_keeps (maskSub hF rfl) ?_
      refine State.toRpl_keeps (maskSub hF rfl) ?_
      assumption
  · refine State.toRpl_keeps (maskSub hF rfl) ?_
    assumption

theorem State.replayCmd_keeps {F : Nat} {a s : State} {x0} (hF : F ||| 33555968 = F) (h : Keeps F a s) :
    Keeps F a (State.replayCmd x0 s) := by
  unfold State.replayCmd
  extract_lets +onlyGivenNames -underBinder -merge y0
  try clear_value y0
  extract_lets +onlyGivenNames -underBinder -merge y1
  extract_lets +onlyGivenNames -underBinder -merge y2
  try clear_value y2
  refine Keeps.ite ?_ ?_
  · refine State.set_keeps (maskSub hF rfl) ?_
    assumption
  · split
    · refine State.replayStart_keeps (maskSub hF rfl) ?_
      assumption
    · refine State.toRpl_keeps (maskSub hF rfl) ?_
      assumption
    · refine State.replayOn_keeps (maskSub hF rfl) ?_
      refine State.setRpl_keeps (maskSub hF rfl) ?_
      assumption
    · refine State.replayOn_keeps (maskSub hF rfl) ?_
      refine State.setRpl_keeps (maskSub hF rfl) ?_
      assumption
    · refine State.replaySnap_keeps (maskSub hF rfl) ?_
      assumption
    · refine State.replayRestore_keeps (maskSub hF rfl) ?_
      assumption
    · refine State.toRpl_keeps (maskSub hF rfl) ?_
      refine State.setRpl_keeps (maskSub hF rfl) ?_
      assumption

theorem State.replayRow_keeps {F : Nat} {a s : State} {x1 x2} (hF : F ||| 58721800 = F) (h : Keeps F a s) :
    Keeps F a (State.replayRow s x1 x2) := by
  unfold State.replayRow
  refine State.writeRow_keeps (maskSub hF rfl) ?_ ?_
  · assumption
  · intro x1 h0
    beta_reduce
    refine State.replayCmd_keeps (maskSub hF rfl) ?_
    assumption

theorem execReplayStart_keeps {F : Nat} {a s : State} {x0 x1} (hF : F ||| 58721800 = F) (h : Keeps F a s) :
    ∃ t, execReplayStart x0 x1 s = .next t ∧ Keeps F a t := by
  refine ⟨_, rfl, ?_⟩
  refine State.replayRow_keeps (maskSub hF rfl) ?_
  assumption

theorem execReplayPause_keeps {F : Nat} {a s : State} {x0} (hF : F ||| 58721800 = F) (h : Keeps F a s) :
    ∃ t, execReplayPause x0 s = .next t ∧ Keeps F a t := by
  refine ⟨_, rfl, ?_⟩
  refine State.replayRow_keeps (maskSub hF rfl) ?_
  assumption

theorem execReplayResume_keeps {F : Nat} {a s : State} {x0 x1} (hF : F ||| 58721800 = F) (h : Keeps F a s) :
    ∃ t, execReplayResume x0 x1 s = .next t ∧ Keeps F a t := by
  refine ⟨_, rfl, ?_⟩
  refine State.replayRow_keeps (maskSub hF rfl) ?_
  assumption

theorem execReplayStep_keeps {F : Nat} {a s : State} {x0} (hF : F ||| 58721800 = F) (h : Keeps F a s) :
    ∃ t, execReplayStep x0 s = .next t ∧ Keeps F a t := by
  refine ⟨_, rfl, ?_⟩
  refine State.replayRow_keeps (maskSub hF rfl) ?_
  assumption

theorem execReplaySnap_keeps {F : Nat} {a s : State} {x0} (hF : F ||| 58721800 = F) (h : Keeps F a s) :
    ∃ t, execReplaySnap x0 s = .next t ∧ Keeps F a t := by
  refine ⟨_, rfl, ?_⟩
  refine State.replayRow_keeps (maskSub hF rfl) ?_
  assumption

theorem execReplayRestore_keeps {F : Nat} {a s : State} {x0} (hF : F ||| 58721800 = F) (h : Keeps F a s) :
    ∃ t, execReplayRestore x0 s = .next t ∧ Keeps F a t := by
  refine ⟨_, rfl, ?_⟩
  refine State.replayRow_keeps (maskSub hF rfl) ?_
  assumption

theorem execReplayStop_keeps {F : Nat} {a s : State} {x0} (hF : F ||| 58721800 = F) (h : Keeps F a s) :
    ∃ t, execReplayStop x0 s = .next t ∧ Keeps F a t := by
  refine ⟨_, rfl, ?_⟩
  refine State.replayRow_keeps (maskSub hF rfl) ?_
  assumption

theorem State.replayCommit_keeps {F : Nat} {a s : State} (hF : F ||| 33555968 = F) (h : Keeps F a s) :
    Keeps F a (State.replayCommit s) := by
  unfold State.replayCommit
  extract_lets +onlyGivenNames -underBinder -merge y0
  try clear_value y0
  split
  · assumption
  · extract_lets +onlyGivenNames -underBinder -merge y1
    try clear_value y1
    extract_lets +onlyGivenNames -underBinder -merge y2
    have hy2 : Keeps F a y2 := by
      unfold y2
      refine State.countBy_keeps (maskSub hF rfl) ?_
      assumption
    try clear_value y2
    extract_lets +onlyGivenNames -underBinder -merge y3
    have hy3 : Keeps F a y3 := by
      unfold y3
      refine State.applyCommit_keeps (maskSub hF rfl) ?_
      assumption
    try clear_value y3
    extract_lets +onlyGivenNames -underBinder -merge y4
    have hy4 : Keeps F a y4 := by
      unfold y4
      refine Keeps.foldl ?_ ?_
      · assumption
      · intro x6 x7 h5
        beta_reduce
        refine State.addPair_keeps (maskSub hF rfl) ?_
        assumption
    try clear_value y4
    refine State.setRpl_keeps (maskSub hF rfl) ?_
    assumption

theorem State.putDigest_keeps {F : Nat} {a s : State} {x1 x2 x3} (hF : F ||| 50331648 = F) (h : Keeps F a s) :
    Keeps F a (State.putDigest s x1 x2 x3) := by
  unfold State.putDigest
  extract_lets +onlyGivenNames -underBinder -merge y0
  try clear_value y0
  extract_lets +onlyGivenNames -underBinder -merge y1
  extract_lets +onlyGivenNames -underBinder -merge y2
  have hy2 : Keeps F a y2 := by
    unfold y2
    refine Keeps.upd_firn (maskSub hF rfl) (FirnStep.of_eq rfl rfl rfl rfl rfl) ?_
    assumption
  try clear_value y2
  extract_lets +onlyGivenNames -underBinder -merge y3
  have hy3 : Keeps F a y3 := by
    unfold y3
    refine State.wr_keeps (maskSub hF rfl) ?_
    refine State.wr_keeps (maskSub hF rfl) ?_
    assumption
  try clear_value y3
  refine Keeps.ite ?_ ?_
  · refine State.raise_keeps (maskSub hF rfl) ?_
    assumption
  · assumption

theorem State.formDigest_keeps {F : Nat} {a s : State} (hF : F ||| 50331648 = F) (h : Keeps F a s) :
    Keeps F a (State.formDigest s) := by
  unfold State.formDigest
  refine Keeps.ite ?_ ?_
  · assumption
  · extract_lets +onlyGivenNames -underBinder -merge y0
    try clear_value y0
    extract_lets +onlyGivenNames -underBinder -merge y1
    try clear_value y1
    extract_lets +onlyGivenNames -underBinder -merge y2
    try clear_value y2
    extract_lets +onlyGivenNames -underBinder -merge y3
    try clear_value y3
    extract_lets +onlyGivenNames -underBinder -merge y4
    try clear_value y4
    extract_lets +onlyGivenNames -underBinder -merge y5
    try clear_value y5
    extract_lets +onlyGivenNames -underBinder -merge y6
    try clear_value y6
    refine State.putDigest_keeps (maskSub hF rfl) ?_
    assumption

theorem State.replayDigest_keeps {F : Nat} {a s : State} {x1 x2 x3 x4 x5 x6} (hF : F ||| 16777216 = F) (h : Keeps F a s) :
    Keeps F a (State.replayDigest s x1 x2 x3 x4 x5 x6) := by
  unfold State.replayDigest
  refine Keeps.ite ?_ ?_
  · assumption
  · extract_lets +onlyGivenNames -underBinder -merge y0
    try clear_value y0
    extract_lets +onlyGivenNames -underBinder -merge y1
    try clear_value y1
    refine Keeps.upd_firn (maskSub hF rfl) (FirnStep.of_eq rfl rfl rfl rfl rfl) ?_
    assumption

/-- One run of a replay keeps what `Keeps` asks of the state it ends in. -/
theorem State.replayRun_keeps {F : Nat} {a : State} {g : Img} {k : Nat} {f : LogFrame} {b : LogBatch} {o : Option (State × List RunOut)}
    (hF : F ||| 117442304 = F) (h : ∀ p, o = some p → Keeps F a p.1) : ∀ p, State.replayRun g k f o b = some p → Keeps F a p.1 := by
  intro p e
  obtain ⟨q, hq, e⟩ := Option.bind_eq_some_iff.mp e
  obtain ⟨l, -, rfl⟩ := Option.map_eq_some_iff.mp e
  exact State.deliver_keeps (maskSub hF rfl) (State.countRun_keeps (maskSub hF rfl) (State.setRpl_keeps (maskSub hF rfl)
    (State.runOn_keeps (maskSub hF rfl) (h q hq))))

theorem State.replayFrame_keeps {F : Nat} {a s : State} {x1 x2 x3} (hF : F ||| 117442304 = F) (h : Keeps F a s) :
    KeepsOpt F a (State.replayFrame s x1 x2 x3) := by
  unfold State.replayFrame
  extract_lets +onlyGivenNames -underBinder -merge y0
  have hy0 : Keeps F a y0 := State.replayCommit_keeps (maskSub hF rfl) h
  try clear_value y0
  extract_lets +onlyGivenNames -underBinder -merge y1 y2
  try clear_value y1 y2
  have h0 : ∀ p, (some (y0, ([] : List RunOut))) = some p → Keeps F a p.1 := fun p e => by cases e; exact hy0
  intro t e
  obtain ⟨p, hp, rfl⟩ := Option.map_eq_some_iff.mp e
  have hl : ∀ (l : List LogBatch) (o : Option (State × List RunOut)), (∀ p, o = some p → Keeps F a p.1) →
      ∀ p, l.foldl (State.replayRun x2 x1 x3) o = some p → Keeps F a p.1 := by
    intro l
    induction l with
    | nil => exact fun o ho => ho
    | cons b l ih => exact fun o ho => ih _ (State.replayRun_keeps (maskSub hF rfl) ho)
  exact State.replayDigest_keeps (maskSub hF rfl) (State.setRpl_keeps (maskSub hF rfl) (hl _ _ h0 p hp))

theorem execReplayFrameEnd_keeps {F : Nat} {a s : State} {x0} (hF : F ||| 117442304 = F) (h : Keeps F a s) :
    ∃ t, execReplayFrameEnd x0 s = .next t ∧ Keeps F a t := by
  refine ⟨_, rfl, ?_⟩
  extract_lets +onlyGivenNames -underBinder -merge y0
  try clear_value y0
  refine Keeps.ite ?_ ?_
  · assumption
  · split
    · extract_lets +onlyGivenNames -underBinder -merge y1
      have hy1 : Keeps F a y1 := by
        unfold y1
        refine State.peakRequests_keeps (maskSub hF rfl) ?_
        assumption
      try clear_value y1
      refine Keeps.ite ?_ ?_
      · refine State.toRpl_keeps (maskSub hF rfl) ?_
        assumption
      · split
        · refine State.toRpl_keeps (maskSub hF rfl) ?_
          assumption
        · rename_i p4 e5
          have hp4 : Keeps F a p4 := by
            refine KeepsOpt.of e5 ?_
            refine State.replayFrame_keeps (maskSub hF rfl) ?_
            assumption
          extract_lets +onlyGivenNames -underBinder -merge y6
          extract_lets +onlyGivenNames -underBinder -merge y7
          extract_lets +onlyGivenNames -underBinder -merge y8
          try clear_value y8
          extract_lets +onlyGivenNames -underBinder -merge y9
          have hy9 : Keeps F a y9 := by
            unfold y9
            refine State.setRpl_keeps (maskSub hF rfl) ?_
            assumption
          try clear_value y9
          refine State.showRplFrame_keeps (maskSub hF rfl) ?_
          refine State.toRpl_keeps (maskSub hF rfl) ?_
          assumption
    · refine State.toRpl_keeps (maskSub hF rfl) ?_
      assumption

theorem State.captureFrame_keeps {F : Nat} {a s : State} (hF : F ||| 512 = F) (h : Keeps F a s) :
    Keeps F a (State.captureFrame s) := by
  unfold State.captureFrame
  refine Keeps.ite ?_ ?_
  · refine Keeps.upd_ice (maskSub hF rfl) ?_
    assumption
  · assumption

theorem State.applySwitch_keeps {F : Nat} {a s : State} (hF : F ||| 50332160 = F) (h : Keeps F a s) :
    Keeps F a (State.applySwitch s) := by
  unfold State.applySwitch
  split
  · refine Keeps.ite ?_ ?_
    · assumption
    · extract_lets +onlyGivenNames -underBinder -merge y0
      try clear_value y0
      extract_lets +onlyGivenNames -underBinder -merge y1
      have hy1 : Keeps F a y1 := by
        unfold y1
        refine State.set_keeps (maskSub hF rfl) ?_
        refine Keeps.upd_ice (maskSub hF rfl) ?_
        assumption
      try clear_value y1
      refine Keeps.ite ?_ ?_
      · refine State.set_keeps (maskSub hF rfl) ?_
        assumption
      · refine State.raise_keeps (maskSub hF rfl) ?_
        refine State.wrap_keeps (maskSub hF rfl) ?_
        refine State.activate_keeps (maskSub hF rfl) ?_
        assumption
  · assumption

theorem State.showParts_keeps {F : Nat} {a s : State} (hF : F ||| 33554432 = F) (h : Keeps F a s) :
    Keeps F a (State.showParts s) := by
  unfold State.showParts
  refine Keeps.foldl ?_ ?_
  · assumption
  · intro x1 x2 h0
    beta_reduce
    refine State.set_keeps (maskSub hF rfl) ?_
    assumption

theorem State.iceBoundary_keeps {F : Nat} {a s : State} {x1} (hF : F ||| 59770376 = F) (h : Keeps F a s) :
    Keeps F a (State.iceBoundary s x1) := by
  unfold State.iceBoundary
  extract_lets +onlyGivenNames -underBinder -merge y0
  have hy0 : Keeps F a y0 := by
    unfold y0
    refine Keeps.ite ?_ ?_
    · refine State.abandonRun_keeps (maskSub hF rfl) ?_
      assumption
    · assumption
  try clear_value y0
  extract_lets +onlyGivenNames -underBinder -merge y1
  have hy1 : Keeps F a y1 := by
    unfold y1
    refine State.applyRetire_keeps (maskSub hF rfl) ?_
    refine State.applySwitch_keeps (maskSub hF rfl) ?_
    refine State.captureFrame_keeps (maskSub hF rfl) ?_
    refine State.formDigest_keeps (maskSub hF rfl) ?_
    assumption
  try clear_value y1
  extract_lets +onlyGivenNames -underBinder -merge y2
  try clear_value y2
  extract_lets +onlyGivenNames -underBinder -merge y3
  try clear_value y3
  extract_lets +onlyGivenNames -underBinder -merge y4
  have hy4 : Keeps F a y4 := by
    unfold y4
    refine State.judgeFit_keeps (maskSub hF rfl) ?_
    refine State.showParts_keeps (maskSub hF rfl) ?_
    refine Keeps.upd_ice (maskSub hF rfl) ?_
    assumption
  try clear_value y4
  extract_lets +onlyGivenNames -underBinder -merge y5
  have hy5 : Keeps F a y5 := by
    unfold y5
    refine State.wr_keeps (maskSub hF rfl) ?_
    refine State.wr_keeps (maskSub hF rfl) ?_
    assumption
  try clear_value y5
  extract_lets +onlyGivenNames -underBinder -merge y6
  have hy6 : Keeps F a y6 := by
    unfold y6
    refine State.tablesBoundary_keeps (maskSub hF rfl) ?_
    assumption
  try clear_value y6
  extract_lets +onlyGivenNames -underBinder -merge y7
  try clear_value y7
  extract_lets +onlyGivenNames -underBinder -merge y8
  try clear_value y8
  refine Keeps.upd_ice (maskSub hF rfl) ?_
  assumption

theorem State.iceReset_keeps {F : Nat} {a s : State} (hF : F ||| 33554944 = F) (h : Keeps F a s) :
    Keeps F a (State.iceReset s) := by
  unfold State.iceReset
  extract_lets +onlyGivenNames -underBinder -merge y0
  have hy0 : Keeps F a y0 := by
    unfold y0
    refine Keeps.foldl ?_ ?_
    · assumption
    · intro x2 x3 h1
      beta_reduce
      refine State.delSlot_keeps (maskSub hF rfl) ?_
      refine State.showSlot_keeps (maskSub hF rfl) ?_
      refine State.wr_keeps (maskSub hF rfl) ?_
      assumption
  try clear_value y0
  extract_lets +onlyGivenNames -underBinder -merge y4
  have hy4 : Keeps F a y4 := by
    unfold y4
    refine State.wr_keeps (maskSub hF rfl) ?_
    refine State.wr_keeps (maskSub hF rfl) ?_
    assumption
  try clear_value y4
  extract_lets +onlyGivenNames -underBinder -merge y5
  have hy5 : Keeps F a y5 := by
    unfold y5
    refine State.set_keeps (maskSub hF rfl) ?_
    assumption
  try clear_value y5
  refine Keeps.upd_ice (maskSub hF rfl) ?_
  assumption

end Sys2Proof.Machine
end

