-- ==== Sys2Proof/Laws/KeepsLoops.lean ====
section
/-! SUPPORT. What each operation and each command of field inputs, loops and evidence may change, as `Keeps` says it. -/

namespace Sys2Proof.Machine

/-! ### Field -/

theorem State.setFSup_keeps {F : Nat} {a s : State} {x1 x2} (hF : F ||| 33558528 = F) (h : Keeps F a s) :
    Keeps F a (State.setFSup s x1 x2) := by
  unfold State.setFSup
  extract_lets +onlyGivenNames -underBinder -merge y0
  try clear_value y0
  extract_lets +onlyGivenNames -underBinder -merge y1
  have hy1 : Keeps F a y1 := by
    unfold y1
    refine Keeps.upd_field (maskSub hF rfl) ?_
    assumption
  try clear_value y1
  refine Keeps.ite ?_ ?_
  · refine State.set_keeps (maskSub hF rfl) ?_
    assumption
  · assumption

theorem State.faultField_keeps {F : Nat} {a s : State} {x1} (hF : F ||| 50335744 = F) (h : Keeps F a s) :
    Keeps F a (State.faultField s x1) := by
  unfold State.faultField
  extract_lets +onlyGivenNames -underBinder -merge y0
  try clear_value y0
  refine Keeps.ite ?_ ?_
  · assumption
  · extract_lets +onlyGivenNames -underBinder -merge y1
    have hy1 : Keeps F a y1 := by
      unfold y1
      refine State.setFSup_keeps (maskSub hF rfl) ?_
      assumption
    try clear_value y1
    refine Keeps.ite ?_ ?_
    · refine State.raise_keeps (maskSub hF rfl) ?_
      refine State.set_keeps (maskSub hF rfl) ?_
      assumption
    · assumption

theorem State.suspectField_keeps {F : Nat} {a s : State} {x1} (hF : F ||| 50335744 = F) (h : Keeps F a s) :
    Keeps F a (State.suspectField s x1) := by
  unfold State.suspectField
  extract_lets +onlyGivenNames -underBinder -merge y0
  try clear_value y0
  extract_lets +onlyGivenNames -underBinder -merge y1
  have hy1 : Keeps F a y1 := by
    unfold y1
    refine State.set_keeps (maskSub hF rfl) ?_
    refine State.setFSup_keeps (maskSub hF rfl) ?_
    assumption
  try clear_value y1
  refine Keeps.ite ?_ ?_
  · assumption
  · refine State.raise_keeps (maskSub hF rfl) ?_
    assumption

theorem State.restartWindows_keeps {F : Nat} {a s : State} {x1} (hF : F ||| 33558528 = F) (h : Keeps F a s) :
    Keeps F a (State.restartWindows s x1) := by
  unfold State.restartWindows
  extract_lets +onlyGivenNames -underBinder -merge y0
  try clear_value y0
  extract_lets +onlyGivenNames -underBinder -merge y1
  try clear_value y1
  extract_lets +onlyGivenNames -underBinder -merge y2
  have hy2 : Keeps F a y2 := by
    unfold y2
    refine State.setFSup_keeps (maskSub hF rfl) ?_
    assumption
  try clear_value y2
  refine Keeps.upd_field (maskSub hF rfl) ?_
  assumption

theorem State.fieldTick_keeps {F : Nat} {a s : State} {x1} (hF : F ||| 33558528 = F) (h : Keeps F a s) :
    Keeps F a (State.fieldTick s x1) := by
  unfold State.fieldTick
  extract_lets +onlyGivenNames -underBinder -merge y0
  try clear_value y0
  extract_lets +onlyGivenNames -underBinder -merge y1
  have hy1 : Keeps F a y1 := by
    unfold y1
    refine Keeps.ite ?_ ?_
    · assumption
    · refine State.wr_keeps (maskSub hF rfl) ?_
      assumption
  try clear_value y1
  split
  · assumption
  · extract_lets +onlyGivenNames -underBinder -merge y2
    try clear_value y2
    extract_lets +onlyGivenNames -underBinder -merge y3
    try clear_value y3
    extract_lets +onlyGivenNames -underBinder -merge y4
    have hy4 : Keeps F a y4 := by
      unfold y4
      refine Keeps.upd_field (maskSub hF rfl) ?_
      assumption
    try clear_value y4
    extract_lets +onlyGivenNames -underBinder -merge y5
    try clear_value y5
    extract_lets +onlyGivenNames -underBinder -merge y6
    try clear_value y6
    extract_lets +onlyGivenNames -underBinder -merge y7
    try clear_value y7
    extract_lets +onlyGivenNames -underBinder -merge y8
    try clear_value y8
    refine State.setFSup_keeps (maskSub hF rfl) ?_
    assumption

theorem State.latchInput_keeps {F : Nat} {a s : State} {x1 x2} (hF : F ||| 4096 = F) (h : Keeps F a s) :
    Keeps F a (State.latchInput s x1 x2) := by
  unfold State.latchInput
  refine Keeps.upd_field (maskSub hF rfl) ?_
  assumption

theorem execFieldInputFault_keeps {F : Nat} {a s : State} {x0} (hF : F ||| 50335744 = F) (h : Keeps F a s) :
    ∃ t, execFieldInputFault x0 s = .next t ∧ Keeps F a t := by
  refine ⟨_, rfl, ?_⟩
  refine Keeps.ite ?_ ?_
  · refine State.faultField_keeps (maskSub hF rfl) ?_
    assumption
  · assumption

theorem execFieldInputFaultClear_keeps {F : Nat} {a s : State} {x0} (hF : F ||| 33558784 = F) (h : Keeps F a s) :
    ∃ t, execFieldInputFaultClear x0 s = .next t ∧ Keeps F a t := by
  refine ⟨_, rfl, ?_⟩
  split
  · extract_lets +onlyGivenNames -underBinder -merge y0
    try clear_value y0
    refine Keeps.ite ?_ ?_
    · refine State.set_keeps (maskSub hF rfl) ?_
      refine State.setSup_keeps (maskSub hF rfl) ?_
      assumption
    · assumption
  · extract_lets +onlyGivenNames -underBinder -merge y1
    try clear_value y1
    refine Keeps.ite ?_ ?_
    · refine State.setFSup_keeps (maskSub hF rfl) ?_
      assumption
    · assumption

theorem execSuspectClear_keeps {F : Nat} {a s : State} {x0} (hF : F ||| 33558784 = F) (h : Keeps F a s) :
    ∃ t, execSuspectClear x0 s = .next t ∧ Keeps F a t := by
  refine ⟨_, rfl, ?_⟩
  refine Keeps.ite ?_ ?_
  · assumption
  · split
    · refine Keeps.ite ?_ ?_
      · refine State.clearStream_keeps (maskSub hF rfl) ?_
        assumption
      · assumption
    · refine Keeps.ite ?_ ?_
      · refine State.setFSup_keeps (maskSub hF rfl) ?_
        assumption
      · assumption

theorem State.superviseField_keeps {F : Nat} {a s : State} {x1} (hF : F ||| 50335744 = F) (h : Keeps F a s) :
    Keeps F a (State.superviseField s x1) := by
  unfold State.superviseField
  extract_lets +onlyGivenNames -underBinder -merge y0
  try clear_value y0
  extract_lets +onlyGivenNames -underBinder -merge y1
  try clear_value y1
  extract_lets +onlyGivenNames -underBinder -merge y2
  try clear_value y2
  extract_lets +onlyGivenNames -underBinder -merge y3
  try clear_value y3
  extract_lets +onlyGivenNames -underBinder -merge y4
  try clear_value y4
  extract_lets +onlyGivenNames -underBinder -merge y5
  try clear_value y5
  extract_lets +onlyGivenNames -underBinder -merge y6
  try clear_value y6
  extract_lets +onlyGivenNames -underBinder -merge y7
  have hy7 : Keeps F a y7 := by
    unfold y7
    refine State.setB_keeps (maskSub hF rfl) ?_
    refine State.setFSup_keeps (maskSub hF rfl) ?_
    assumption
  try clear_value y7
  refine Keeps.ite ?_ ?_
  · refine State.suspectField_keeps (maskSub hF rfl) ?_
    assumption
  · assumption

theorem State.judgeFPair_keeps {F : Nat} {a s : State} {x1} (hF : F ||| 50335744 = F) (h : Keeps F a s) :
    Keeps F a (State.judgeFPair s x1) := by
  unfold State.judgeFPair
  split
  · assumption
  · extract_lets +onlyGivenNames -underBinder -merge y0
    try clear_value y0
    extract_lets +onlyGivenNames -underBinder -merge y1
    try clear_value y1
    split
    · refine Keeps.ite ?_ ?_
      · extract_lets +onlyGivenNames -underBinder -merge y2
        try clear_value y2
        extract_lets +onlyGivenNames -underBinder -merge y3
        try clear_value y3
        extract_lets +onlyGivenNames -underBinder -merge y4
        have hy4 : Keeps F a y4 := by
          unfold y4
          refine Keeps.upd_field (maskSub hF rfl) ?_
          assumption
        try clear_value y4
        refine Keeps.ite ?_ ?_
        · assumption
        · refine State.set_keeps (maskSub hF rfl) ?_
          refine State.set_keeps (maskSub hF rfl) ?_
          assumption
      · extract_lets +onlyGivenNames -underBinder -merge y5
        try clear_value y5
        extract_lets +onlyGivenNames -underBinder -merge y6
        have hy6 : Keeps F a y6 := by
          unfold y6
          refine Keeps.upd_field (maskSub hF rfl) ?_
          assumption
        try clear_value y6
        refine Keeps.ite ?_ ?_
        · assumption
        · extract_lets +onlyGivenNames -underBinder -merge y7
          try clear_value y7
          extract_lets +onlyGivenNames -underBinder -merge y8
          have hy8 : Keeps F a y8 := by
            unfold y8
            refine State.set_keeps (maskSub hF rfl) ?_
            refine State.bump_keeps (maskSub hF rfl) ?_
            assumption
          try clear_value y8
          refine Keeps.ite ?_ ?_
          · assumption
          · refine State.raise_keeps (maskSub hF rfl) ?_
            assumption
    · extract_lets +onlyGivenNames -underBinder -merge y9
      try clear_value y9
      refine Keeps.upd_field (maskSub hF rfl) ?_
      assumption

theorem State.applyPairs_keeps {F : Nat} {a s : State} (hF : F ||| 33558528 = F) (h : Keeps F a s) :
    Keeps F a (State.applyPairs s) := by
  unfold State.applyPairs
  extract_lets +onlyGivenNames -underBinder -merge y0
  try clear_value y0
  extract_lets +onlyGivenNames -underBinder -merge y1
  try clear_value y1
  extract_lets +onlyGivenNames -underBinder -merge y2
  have hy2 : Keeps F a y2 := by
    unfold y2
    refine Keeps.foldl ?_ ?_
    · assumption
    · intro x4 x5 h3
      beta_reduce
      refine State.wr_keeps (maskSub hF rfl) ?_
      assumption
  try clear_value y2
  refine Keeps.upd_field (maskSub hF rfl) ?_
  assumption

theorem State.fieldBoundary_keeps {F : Nat} {a s : State} (hF : F ||| 50335744 = F) (h : Keeps F a s) :
    Keeps F a (State.fieldBoundary s) := by
  unfold State.fieldBoundary
  extract_lets +onlyGivenNames -underBinder -merge y0
  have hy0 : Keeps F a y0 := by
    unfold y0
    refine State.applyPairs_keeps (maskSub hF rfl) ?_
    assumption
  try clear_value y0
  extract_lets +onlyGivenNames -underBinder -merge y1
  have hy1 : Keeps F a y1 := by
    unfold y1
    refine Keeps.foldl ?_ ?_
    · assumption
    · intro x3 x4 h2
      beta_reduce
      refine State.superviseField_keeps (maskSub hF rfl) ?_
      assumption
  try clear_value y1
  extract_lets +onlyGivenNames -underBinder -merge y5
  try clear_value y5
  extract_lets +onlyGivenNames -underBinder -merge y6
  have hy6 : Keeps F a y6 := by
    unfold y6
    refine Keeps.foldl ?_ ?_
    · assumption
    · intro x8 x9 h7
      beta_reduce
      refine State.set_keeps (maskSub hF rfl) ?_
      assumption
  try clear_value y6
  extract_lets +onlyGivenNames -underBinder -merge y10
  try clear_value y10
  extract_lets +onlyGivenNames -underBinder -merge y11
  have hy11 : Keeps F a y11 := by
    unfold y11
    refine Keeps.ite ?_ ?_
    · assumption
    · refine Keeps.upd_field (maskSub hF rfl) ?_
      assumption
  try clear_value y11
  extract_lets +onlyGivenNames -underBinder -merge y12
  have hy12 : Keeps F a y12 := by
    unfold y12
    refine Keeps.foldl ?_ ?_
    · assumption
    · intro x14 x15 h13
      beta_reduce
      refine State.judgeFPair_keeps (maskSub hF rfl) ?_
      assumption
  try clear_value y12
  refine Keeps.foldl ?_ ?_
  · assumption
  · intro x17 x18 h16
    beta_reduce
    refine State.setB_keeps (maskSub hF rfl) ?_
    assumption

theorem State.assignSpare_keeps {F : Nat} {a s : State} {x1 x2 x3} (hF : F ||| 50335744 = F) (h : Keeps F a s) :
    Keeps F a (State.assignSpare s x1 x2 x3) := by
  unfold State.assignSpare
  extract_lets +onlyGivenNames -underBinder -merge y0
  have hy0 : Keeps F a y0 := by
    unfold y0
    refine State.wr_keeps (maskSub hF rfl) ?_
    assumption
  try clear_value y0
  extract_lets +onlyGivenNames -underBinder -merge y1
  have hy1 : Keeps F a y1 := by
    unfold y1
    refine State.wrap_keeps (maskSub hF rfl) ?_
    refine State.restartWindows_keeps (maskSub hF rfl) ?_
    assumption
  try clear_value y1
  refine State.raise_keeps (maskSub hF rfl) ?_
  assumption

theorem State.releaseSpare_keeps {F : Nat} {a s : State} {x1} (hF : F ||| 33558528 = F) (h : Keeps F a s) :
    Keeps F a (State.releaseSpare s x1) := by
  unfold State.releaseSpare
  extract_lets +onlyGivenNames -underBinder -merge y0
  try clear_value y0
  extract_lets +onlyGivenNames -underBinder -merge y1
  have hy1 : Keeps F a y1 := by
    unfold y1
    refine State.wr_keeps (maskSub hF rfl) ?_
    assumption
  try clear_value y1
  refine State.wrap_keeps (maskSub hF rfl) ?_
  refine State.restartWindows_keeps (maskSub hF rfl) ?_
  assumption

theorem State.checkConverter_keeps {F : Nat} {a s : State} {x1 x2} (hF : F ||| 4096 = F) (h : Keeps F a s) :
    Keeps F a (State.checkConverter s x1 x2) := by
  unfold State.checkConverter
  refine Keeps.upd_field (maskSub hF rfl) ?_
  assumption

theorem State.converterFailed_keeps {F : Nat} {a s : State} {x1} (hF : F ||| 50335744 = F) (h : Keeps F a s) :
    Keeps F a (State.converterFailed s x1) := by
  unfold State.converterFailed
  extract_lets +onlyGivenNames -underBinder -merge y0
  try clear_value y0
  extract_lets +onlyGivenNames -underBinder -merge y1
  have hy1 : Keeps F a y1 := by
    unfold y1
    refine State.faultField_keeps (maskSub hF rfl) ?_
    assumption
  try clear_value y1
  refine Keeps.ite ?_ ?_
  · refine State.assignSpare_keeps (maskSub hF rfl) ?_
    assumption
  · assumption

theorem execConverterCheck_keeps {F : Nat} {a s : State} {x0 x1} (hF : F ||| 50335744 = F) (h : Keeps F a s) :
    ∃ t, execConverterCheck x0 x1 s = .next t ∧ Keeps F a t := by
  refine ⟨_, rfl, ?_⟩
  extract_lets +onlyGivenNames -underBinder -merge y0
  try clear_value y0
  extract_lets +onlyGivenNames -underBinder -merge y1
  try clear_value y1
  extract_lets +onlyGivenNames -underBinder -merge y2
  have hy2 : Keeps F a y2 := by
    unfold y2
    refine Keeps.foldl ?_ ?_
    · assumption
    · intro x4 x5 h3
      beta_reduce
      refine State.checkConverter_keeps (maskSub hF rfl) ?_
      assumption
  try clear_value y2
  extract_lets +onlyGivenNames -underBinder -merge y6
  have hy6 : Keeps F a y6 := by
    unfold y6
    refine Keeps.foldl ?_ ?_
    · assumption
    · intro x8 x9 h7
      beta_reduce
      extract_lets +onlyGivenNames -underBinder -merge y10
      try clear_value y10
      refine State.setB_keeps (maskSub hF rfl) ?_
      refine State.checkConverter_keeps (maskSub hF rfl) ?_
      assumption
  try clear_value y6
  extract_lets +onlyGivenNames -underBinder -merge y11
  have hy11 : Keeps F a y11 := by
    unfold y11
    refine Keeps.foldl ?_ ?_
    · assumption
    · intro x13 x14 h12
      beta_reduce
      refine Keeps.ite ?_ ?_
      · refine State.converterFailed_keeps (maskSub hF rfl) ?_
        assumption
      · assumption
  try clear_value y11
  refine Keeps.foldl ?_ ?_
  · assumption
  · intro x16 x17 h15
    beta_reduce
    refine Keeps.ite ?_ ?_
    · refine State.faultField_keeps (maskSub hF rfl) ?_
      assumption
    · assumption

theorem State.spareCmd_keeps {F : Nat} {a s : State} {x1 x2} (hF : F ||| 50335744 = F) (h : Keeps F a s) :
    Keeps F a (State.spareCmd s x1 x2) := by
  unfold State.spareCmd
  split
  · refine Keeps.ite ?_ ?_
    · assumption
    · refine State.assignSpare_keeps (maskSub hF rfl) ?_
      assumption
  · refine Keeps.ite ?_ ?_
    · refine State.releaseSpare_keeps (maskSub hF rfl) ?_
      assumption
    · assumption
  · assumption

theorem execSpaiAssign_keeps {F : Nat} {a s : State} {x0 x1 x2} (hF : F ||| 58724360 = F) (h : Keeps F a s) :
    ∃ t, execSpaiAssign x0 x1 x2 s = .next t ∧ Keeps F a t := by
  refine ⟨_, rfl, ?_⟩
  refine State.writeRow_keeps (maskSub hF rfl) ?_ ?_
  · assumption
  · intro x1 h0
    beta_reduce
    refine State.spareCmd_keeps (maskSub hF rfl) ?_
    assumption

theorem execSpaiRelease_keeps {F : Nat} {a s : State} {x0 x1 x2} (hF : F ||| 58724360 = F) (h : Keeps F a s) :
    ∃ t, execSpaiRelease x0 x1 x2 s = .next t ∧ Keeps F a t := by
  refine ⟨_, rfl, ?_⟩
  refine State.writeRow_keeps (maskSub hF rfl) ?_ ?_
  · assumption
  · intro x1 h0
    beta_reduce
    refine State.spareCmd_keeps (maskSub hF rfl) ?_
    assumption

theorem State.writeInput_keeps {F : Nat} {a s : State} {x1 x2 x3} (hF : F ||| 33558528 = F) (h : Keeps F a s) :
    Keeps F a (State.writeInput s x1 x2 x3) := by
  unfold State.writeInput
  extract_lets +onlyGivenNames -underBinder -merge y0
  try clear_value y0
  extract_lets +onlyGivenNames -underBinder -merge y1
  have hy1 : Keeps F a y1 := by
    unfold y1
    refine State.plainWrite_keeps (maskSub hF rfl) ?_
    assumption
  try clear_value y1
  extract_lets +onlyGivenNames -underBinder -merge y2
  try clear_value y2
  extract_lets +onlyGivenNames -underBinder -merge y3
  have hy3 : Keeps F a y3 := by
    unfold y3
    refine Keeps.ite ?_ ?_
    · refine Keeps.upd_field (maskSub hF rfl) ?_
      assumption
    · assumption
  try clear_value y3
  refine Keeps.ite ?_ ?_
  · refine State.restartWindows_keeps (maskSub hF rfl) ?_
    assumption
  · refine State.wr_keeps (maskSub hF rfl) ?_
    refine State.restartWindows_keeps (maskSub hF rfl) ?_
    refine Keeps.upd_field (maskSub hF rfl) ?_
    assumption

theorem execFieldInputConfigWrite_keeps {F : Nat} {a s : State} {x0 x1 x2 x3} (hF : F ||| 58724360 = F) (h : Keeps F a s) :
    ∃ t, execFieldInputConfigWrite x0 x1 x2 x3 s = .next t ∧ Keeps F a t := by
  refine ⟨_, rfl, ?_⟩
  refine State.writeRow_keeps (maskSub hF rfl) ?_ ?_
  · assumption
  · intro x1 h0
    beta_reduce
    refine State.writeInput_keeps (maskSub hF rfl) ?_
    assumption

/-! ### Loops -/

theorem State.loopGo_keeps {F : Nat} {a s : State} (hF : F ||| 50339840 = F) (h : Keeps F a s) :
    Keeps F a (State.loopGo s) := by
  unfold State.loopGo
  refine Keeps.ite ?_ ?_
  · refine State.raise_keeps (maskSub hF rfl) ?_
    refine State.set_keeps (maskSub hF rfl) ?_
    assumption
  · extract_lets +onlyGivenNames -underBinder -merge y0
    try clear_value y0
    extract_lets +onlyGivenNames -underBinder -merge y1
    have hy1 : Keeps F a y1 := by
      unfold y1
      refine State.set_keeps (maskSub hF rfl) ?_
      refine State.set_keeps (maskSub hF rfl) ?_
      assumption
    try clear_value y1
    refine Keeps.ite ?_ ?_
    · extract_lets +onlyGivenNames -underBinder -merge y2
      have hy2 : Keeps F a y2 := by
        unfold y2
        refine State.set_keeps (maskSub hF rfl) ?_
        assumption
      try clear_value y2
      refine Keeps.upd_lop (maskSub hF rfl) ?_
      assumption
    · refine State.raise_keeps (maskSub hF rfl) ?_
      assumption

theorem State.loopLoad_keeps {F : Nat} {a s : State} (hF : F ||| 33554432 = F) (h : Keeps F a s) :
    Keeps F a (State.loopLoad s) := by
  unfold State.loopLoad
  extract_lets +onlyGivenNames -underBinder -merge y0
  have hy0 : Keeps F a y0 := by
    unfold y0
    refine Keeps.upd_regs (maskSub hF rfl) (regsWf_filter _ _) ?_
    assumption
  try clear_value y0
  extract_lets +onlyGivenNames -underBinder -merge y1
  have hy1 : Keeps F a y1 := by
    unfold y1
    refine Keeps.foldl ?_ ?_
    · assumption
    · intro x3 x4 h2
      beta_reduce
      refine State.wr_keeps (maskSub hF rfl) ?_
      assumption
  try clear_value y1
  refine Keeps.foldl ?_ ?_
  · assumption
  · intro x6 x7 h5
    beta_reduce
    refine Keeps.foldl ?_ ?_
    · assumption
    · intro x9 x10 h8
      beta_reduce
      refine State.wr_keeps (maskSub hF rfl) ?_
      assumption

theorem execLoopCommit_keeps {F : Nat} {a s : State} {x0} (hF : F ||| 58728456 = F) (h : Keeps F a s) :
    ∃ t, execLoopCommit x0 s = .next t ∧ Keeps F a t := by
  refine ⟨_, rfl, ?_⟩
  refine State.writeRow_keeps (maskSub hF rfl) ?_ ?_
  · assumption
  · intro x1 h0
    beta_reduce
    refine State.loopGo_keeps (maskSub hF rfl) ?_
    assumption

theorem execLoopConfigLoad_keeps {F : Nat} {a s : State} {x0} (hF : F ||| 58720264 = F) (h : Keeps F a s) :
    ∃ t, execLoopConfigLoad x0 s = .next t ∧ Keeps F a t := by
  refine ⟨_, rfl, ?_⟩
  refine State.writeRow_keeps (maskSub hF rfl) ?_ ?_
  · assumption
  · intro x1 h0
    beta_reduce
    refine State.loopLoad_keeps (maskSub hF rfl) ?_
    assumption

theorem State.setLoop_keeps {F : Nat} {a s : State} {x1 x2} (hF : F ||| 8192 = F) (h : Keeps F a s) :
    Keeps F a (State.setLoop s x1 x2) := by
  unfold State.setLoop
  refine Keeps.upd_lop (maskSub hF rfl) ?_
  assumption

theorem State.wr40_keeps {F : Nat} {a s : State} {x1 x2 x3} (hF : F ||| 33554432 = F) (h : Keeps F a s) :
    Keeps F a (State.wr40 s x1 x2 x3) := by
  unfold State.wr40
  extract_lets +onlyGivenNames -underBinder -merge y0
  try clear_value y0
  refine State.wr_keeps (maskSub hF rfl) ?_
  refine State.wr_keeps (maskSub hF rfl) ?_
  assumption

theorem State.setLaw_keeps {F : Nat} {a s : State} {x1 x2} (hF : F ||| 33554432 = F) (h : Keeps F a s) :
    Keeps F a (State.setLaw s x1 x2) := by
  unfold State.setLaw
  refine State.wr40_keeps (maskSub hF rfl) ?_
  refine State.wr40_keeps (maskSub hF rfl) ?_
  refine State.wr40_keeps (maskSub hF rfl) ?_
  refine State.wr40_keeps (maskSub hF rfl) ?_
  assumption

theorem State.runLaw_keeps {F : Nat} {a s : State} {x1 x2 x3 x4} (hF : F ||| 33554432 = F) (h : Keeps F a s) :
    Keeps F a (State.runLaw s x1 x2 x3 x4).2.1 := by
  unfold State.runLaw
  extract_lets +onlyGivenNames -underBinder -merge y0
  try clear_value y0
  extract_lets +onlyGivenNames -underBinder -merge y1
  try clear_value y1
  extract_lets +onlyGivenNames -underBinder -merge y2
  try clear_value y2
  extract_lets +onlyGivenNames -underBinder -merge y3
  try clear_value y3
  extract_lets +onlyGivenNames -underBinder -merge y4
  try clear_value y4
  extract_lets +onlyGivenNames -underBinder -merge y5
  try clear_value y5
  extract_lets +onlyGivenNames -underBinder -merge y6
  try clear_value y6
  extract_lets +onlyGivenNames -underBinder -merge y7
  try clear_value y7
  extract_lets +onlyGivenNames -underBinder -merge y8
  try clear_value y8
  refine Keeps.p21 ?_
  refine State.wr_keeps (maskSub hF rfl) ?_
  refine State.setLaw_keeps (maskSub hF rfl) ?_
  assumption

theorem State.judgeModel_keeps {F : Nat} {a s : State} {x1 x2 x3} (hF : F ||| 50331648 = F) (h : Keeps F a s) :
    Keeps F a (State.judgeModel s x1 x2 x3).1 := by
  unfold State.judgeModel
  split
  · refine Keeps.p1 ?_
    assumption
  · refine Keeps.p1 ?_
    assumption
  · extract_lets +onlyGivenNames -underBinder -merge y0
    try clear_value y0
    split
    · refine Keeps.p1 ?_
      refine State.raiseEnd_keeps (maskSub hF rfl) ?_
      assumption
    · refine Keeps.p1 ?_
      assumption

theorem State.tellWrap_keeps {F : Nat} {a s : State} {x1 x2} (hF : F ||| 50331648 = F) (h : Keeps F a s) :
    Keeps F a (State.tellWrap s x1 x2).1 := by
  unfold State.tellWrap
  extract_lets +onlyGivenNames -underBinder -merge y0
  have hy0 : Keeps F a y0 := by
    unfold y0
    refine State.count_keeps (maskSub hF rfl) ?_
    assumption
  try clear_value y0
  extract_lets +onlyGivenNames -underBinder -merge y1
  try clear_value y1
  split
  · refine Keeps.p1 ?_
    assumption
  · refine Keeps.p1 ?_
    refine State.raise_keeps (maskSub hF rfl) ?_
    assumption

theorem State.startPlaus_keeps {F : Nat} {a s : State} {x1} (hF : F ||| 50339840 = F) (h : Keeps F a s) :
    Keeps F a (State.startPlaus s x1) := by
  unfold State.startPlaus
  extract_lets +onlyGivenNames -underBinder -merge y0
  try clear_value y0
  extract_lets +onlyGivenNames -underBinder -merge y1
  try clear_value y1
  extract_lets +onlyGivenNames -underBinder -merge y2
  have hy2 : Keeps F a y2 := by
    unfold y2
    refine State.raise_keeps (maskSub hF rfl) ?_
    refine State.set_keeps (maskSub hF rfl) ?_
    refine State.setLoop_keeps (maskSub hF rfl) ?_
    assumption
  try clear_value y2
  refine Keeps.ite ?_ ?_
  · extract_lets +onlyGivenNames -underBinder -merge y3
    try clear_value y3
    extract_lets +onlyGivenNames -underBinder -merge y4
    have hy4 : Keeps F a y4 := by
      unfold y4
      refine State.set_keeps (maskSub hF rfl) ?_
      refine State.set_keeps (maskSub hF rfl) ?_
      refine State.wr_keeps (maskSub hF rfl) ?_
      assumption
    try clear_value y4
    refine State.raise_keeps (maskSub hF rfl) ?_
    refine State.setLoop_keeps (maskSub hF rfl) ?_
    assumption
  · assumption

theorem State.evaluate_keeps {F : Nat} {a s : State} {x1} (hF : F ||| 50339840 = F) (h : Keeps F a s) :
    Keeps F a (State.evaluate s x1) := by
  unfold State.evaluate
  extract_lets +onlyGivenNames -underBinder -merge y0
  try clear_value y0
  extract_lets +onlyGivenNames -underBinder -merge y1
  try clear_value y1
  extract_lets +onlyGivenNames -underBinder -merge y2
  try clear_value y2
  extract_lets +onlyGivenNames -underBinder -merge y3
  try clear_value y3
  extract_lets +onlyGivenNames -underBinder -merge y4
  try clear_value y4
  extract_lets +onlyGivenNames -underBinder -merge y5
  try clear_value y5
  extract_lets +onlyGivenNames -underBinder -merge y6
  try clear_value y6
  extract_lets +onlyGivenNames -underBinder -merge y7
  try clear_value y7
  extract_lets +onlyGivenNames -underBinder -merge y8
  try clear_value y8
  extract_lets +onlyGivenNames -underBinder -merge y9
  have hy921 : Keeps F a y9.2.1 := by
    unfold y9
    split
    · refine State.runLaw_keeps (maskSub hF rfl) ?_
      assumption
    · refine Keeps.p21 ?_
      assumption
    · refine Keeps.p21 ?_
      assumption
  try clear_value y9
  extract_lets +onlyGivenNames -underBinder -merge y10
  try clear_value y10
  extract_lets +onlyGivenNames -underBinder -merge y11
  have hy11 : Keeps F a y11 := by
    unfold y11
    assumption
  try clear_value y11
  extract_lets +onlyGivenNames -underBinder -merge y12
  have hy12 : Keeps F a y12 := by
    unfold y12
    refine State.wr_keeps (maskSub hF rfl) ?_
    refine State.wr_keeps (maskSub hF rfl) ?_
    refine State.wr_keeps (maskSub hF rfl) ?_
    assumption
  try clear_value y12
  extract_lets +onlyGivenNames -underBinder -merge y13
  have hy131 : Keeps F a y13.1 := by
    unfold y13
    split
    · refine State.tellWrap_keeps (maskSub hF rfl) ?_
      assumption
    · refine Keeps.p1 ?_
      assumption
  try clear_value y13
  extract_lets +onlyGivenNames -underBinder -merge y14
  have hy14 : Keeps F a y14 := by
    unfold y14
    assumption
  try clear_value y14
  extract_lets +onlyGivenNames -underBinder -merge y15
  try clear_value y15
  extract_lets +onlyGivenNames -underBinder -merge y16
  try clear_value y16
  extract_lets +onlyGivenNames -underBinder -merge y17
  try clear_value y17
  extract_lets +onlyGivenNames -underBinder -merge y18
  try clear_value y18
  extract_lets +onlyGivenNames -underBinder -merge y19
  have hy19 : Keeps F a y19 := by
    unfold y19
    refine Keeps.ite ?_ ?_
    · refine State.wr_keeps (maskSub hF rfl) ?_
      assumption
    · assumption
  try clear_value y19
  extract_lets +onlyGivenNames -underBinder -merge y20
  have hy201 : Keeps F a y20.1 := by
    unfold y20
    split
    · refine State.judgeModel_keeps (maskSub hF rfl) ?_
      assumption
    · refine Keeps.p1 ?_
      assumption
  try clear_value y20
  extract_lets +onlyGivenNames -underBinder -merge y21
  have hy21 : Keeps F a y21 := by
    unfold y21
    refine State.setLoop_keeps (maskSub hF rfl) ?_
    assumption
  try clear_value y21
  extract_lets +onlyGivenNames -underBinder -merge y22
  try clear_value y22
  extract_lets +onlyGivenNames -underBinder -merge y23
  have hy23 : Keeps F a y23 := by
    unfold y23
    refine State.wr_keeps (maskSub hF rfl) ?_
    assumption
  try clear_value y23
  extract_lets +onlyGivenNames -underBinder -merge y24
  have hy24 : Keeps F a y24 := by
    unfold y24
    refine Keeps.ite ?_ ?_
    · refine State.raise_keeps (maskSub hF rfl) ?_
      assumption
    · assumption
  try clear_value y24
  extract_lets +onlyGivenNames -underBinder -merge y25
  have hy25 : Keeps F a y25 := by
    unfold y25
    refine Keeps.ite ?_ ?_
    · refine State.raise_keeps (maskSub hF rfl) ?_
      assumption
    · assumption
  try clear_value y25
  refine Keeps.ite ?_ ?_
  · refine State.startPlaus_keeps (maskSub hF rfl) ?_
    assumption
  · assumption

theorem State.missEvaluation_keeps {F : Nat} {a s : State} {x1} (hF : F ||| 50331648 = F) (h : Keeps F a s) :
    Keeps F a (State.missEvaluation s x1) := by
  unfold State.missEvaluation
  extract_lets +onlyGivenNames -underBinder -merge y0
  have hy0 : Keeps F a y0 := by
    unfold y0
    refine State.count_keeps (maskSub hF rfl) ?_
    refine State.set_keeps (maskSub hF rfl) ?_
    assumption
  try clear_value y0
  extract_lets +onlyGivenNames -underBinder -merge y1
  have hy1 : Keeps F a y1 := by
    unfold y1
    refine State.mark_keeps (maskSub hF rfl) ?_
    assumption
  try clear_value y1
  refine State.raise_keeps (maskSub hF rfl) ?_
  assumption

theorem State.commandTarget_keeps {F : Nat} {a s : State} {x1} (hF : F ||| 16384 = F) (h : Keeps F a s) :
    Keeps F a (State.commandTarget s x1) := by
  unfold State.commandTarget
  extract_lets +onlyGivenNames -underBinder -merge y0
  try clear_value y0
  refine Keeps.ite ?_ ?_
  · extract_lets +onlyGivenNames -underBinder -merge y1
    try clear_value y1
    refine Keeps.upd_acts (maskSub hF rfl) ?_
    assumption
  · assumption

theorem State.evaluateLoops_keeps {F : Nat} {a s : State} {x1} (hF : F ||| 50356224 = F) (h : Keeps F a s) :
    Keeps F a (State.evaluateLoops s x1) := by
  unfold State.evaluateLoops
  extract_lets +onlyGivenNames -underBinder -merge y0
  have hy0 : Keeps F a y0 := by
    unfold y0
    refine State.setB_keeps (maskSub hF rfl) ?_
    assumption
  try clear_value y0
  extract_lets +onlyGivenNames -underBinder -merge y1
  try clear_value y1
  extract_lets +onlyGivenNames -underBinder -merge y2
  try clear_value y2
  extract_lets +onlyGivenNames -underBinder -merge y3
  have hy3 : Keeps F a y3 := by
    unfold y3
    refine Keeps.foldl ?_ ?_
    · assumption
    · intro x5 x6 h4
      beta_reduce
      refine State.commandTarget_keeps (maskSub hF rfl) ?_
      refine State.evaluate_keeps (maskSub hF rfl) ?_
      assumption
  try clear_value y3
  refine Keeps.foldl ?_ ?_
  · assumption
  · intro x8 x9 h7
    beta_reduce
    refine State.missEvaluation_keeps (maskSub hF rfl) ?_
    assumption

theorem State.writeLoopCtrl_keeps {F : Nat} {a s : State} {x1 x2} (hF : F ||| 50339840 = F) (h : Keeps F a s) :
    Keeps F a (State.writeLoopCtrl s x1 x2) := by
  unfold State.writeLoopCtrl
  extract_lets +onlyGivenNames -underBinder -merge y0
  have hy0 : Keeps F a y0 := by
    unfold y0
    refine State.plainWrite_keeps (maskSub hF rfl) ?_
    assumption
  try clear_value y0
  refine Keeps.ite ?_ ?_
  · refine State.raiseEnd_keeps (maskSub hF rfl) ?_
    refine State.set_keeps (maskSub hF rfl) ?_
    refine State.setLoop_keeps (maskSub hF rfl) ?_
    assumption
  · assumption

theorem State.loopChanged_keeps {F : Nat} {a s : State} (hF : F ||| 8192 = F) (h : Keeps F a s) :
    Keeps F a (State.loopChanged s) := by
  unfold State.loopChanged
  refine Keeps.upd_lop (maskSub hF rfl) ?_
  assumption

theorem execPlAck_keeps {F : Nat} {a s : State} {x0 x1 x2} (hF : F ||| 58728456 = F) (h : Keeps F a s) :
    ∃ t, execPlAck x0 x1 x2 s = .next t ∧ Keeps F a t := by
  refine ⟨_, rfl, ?_⟩
  refine State.writeRow_keeps (maskSub hF rfl) ?_ ?_
  · assumption
  · intro x1 h0
    beta_reduce
    refine State.loopChanged_keeps (maskSub hF rfl) ?_
    refine State.writeLoopCtrl_keeps (maskSub hF rfl) ?_
    assumption

theorem execPlausibilityFault_keeps {F : Nat} {a s : State} {x0} (hF : F ||| 50356224 = F) (h : Keeps F a s) :
    ∃ t, execPlausibilityFault x0 s = .next t ∧ Keeps F a t := by
  refine ⟨_, rfl, ?_⟩
  refine Keeps.ite ?_ ?_
  · refine State.commandTarget_keeps (maskSub hF rfl) ?_
    refine State.startPlaus_keeps (maskSub hF rfl) ?_
    assumption
  · assumption

theorem execLoopFailsafe_keeps {F : Nat} {a s : State} {x0} (hF : F ||| 50348032 = F) (h : Keeps F a s) :
    ∃ t, execLoopFailsafe x0 s = .next t ∧ Keeps F a t := by
  refine ⟨_, rfl, ?_⟩
  refine Keeps.ite ?_ ?_
  · extract_lets +onlyGivenNames -underBinder -merge y0
    have hy0 : Keeps F a y0 := by
      unfold y0
      refine State.set_keeps (maskSub hF rfl) ?_
      refine State.wr_keeps (maskSub hF rfl) ?_
      assumption
    try clear_value y0
    refine State.raise_keeps (maskSub hF rfl) ?_
    refine State.commandTarget_keeps (maskSub hF rfl) ?_
    assumption
  · assumption

theorem execLoopConfigSave_keeps {F : Nat} {a s : State} (hF : F ||| 8192 = F) (h : Keeps F a s) :
    ∃ t, execLoopConfigSave s = .next t ∧ Keeps F a t := by
  refine ⟨_, rfl, ?_⟩
  refine Keeps.ite ?_ ?_
  · refine Keeps.upd_lop (maskSub hF rfl) ?_
    assumption
  · assumption

theorem State.restoreLoops_keeps {F : Nat} {a s : State} (hF : F ||| 33562624 = F) (h : Keeps F a s) :
    Keeps F a (State.restoreLoops s) := by
  unfold State.restoreLoops
  extract_lets +onlyGivenNames -underBinder -merge y0
  have hy0 : Keeps F a y0 := by
    unfold y0
    refine Keeps.upd_regs (maskSub hF rfl) (regsWf_filter _ _) ?_
    assumption
  try clear_value y0
  extract_lets +onlyGivenNames -underBinder -merge y1
  have hy1 : Keeps F a y1 := by
    unfold y1
    refine Keeps.foldl ?_ ?_
    · assumption
    · intro x3 x4 h2
      beta_reduce
      refine State.wr_keeps (maskSub hF rfl) ?_
      assumption
  try clear_value y1
  extract_lets +onlyGivenNames -underBinder -merge y5
  have hy5 : Keeps F a y5 := by
    unfold y5
    refine Keeps.foldl ?_ ?_
    · assumption
    · intro x7 x8 h6
      beta_reduce
      refine State.set_keeps (maskSub hF rfl) ?_
      refine State.set_keeps (maskSub hF rfl) ?_
      assumption
  try clear_value y5
  extract_lets +onlyGivenNames -underBinder -merge y9
  try clear_value y9
  extract_lets +onlyGivenNames -underBinder -merge y10
  have hy10 : Keeps F a y10 := by
    unfold y10
    refine Keeps.upd_lop (maskSub hF rfl) ?_
    assumption
  try clear_value y10
  refine State.set_keeps (maskSub hF rfl) ?_
  refine State.loopLoad_keeps (maskSub hF rfl) ?_
  assumption

theorem State.zeroLoop_keeps {F : Nat} {a s : State} {x1} (hF : F ||| 33554432 = F) (h : Keeps F a s) :
    Keeps F a (State.zeroLoop s x1) := by
  unfold State.zeroLoop
  refine State.wr_keeps (maskSub hF rfl) ?_
  refine State.setLaw_keeps (maskSub hF rfl) ?_
  assumption

theorem State.commitLoop_keeps {F : Nat} {a s : State} {x1 x2} (hF : F ||| 33562624 = F) (h : Keeps F a s) :
    Keeps F a (State.commitLoop s x1 x2) := by
  unfold State.commitLoop
  extract_lets +onlyGivenNames -underBinder -merge y0
  try clear_value y0
  refine Keeps.ite ?_ ?_
  · refine Keeps.upd_lop (maskSub hF rfl) ?_
    assumption
  · refine Keeps.ite ?_ ?_
    · refine State.setLoop_keeps (maskSub hF rfl) ?_
      refine State.wr_keeps (maskSub hF rfl) ?_
      refine State.wr_keeps (maskSub hF rfl) ?_
      refine State.zeroLoop_keeps (maskSub hF rfl) ?_
      assumption
    · refine Keeps.ite ?_ ?_
      · refine State.setLoop_keeps (maskSub hF rfl) ?_
        refine State.zeroLoop_keeps (maskSub hF rfl) ?_
        assumption
      · assumption

theorem State.dropCommands_keeps {F : Nat} {a s : State} (hF : F ||| 16384 = F) (h : Keeps F a s) :
    Keeps F a (State.dropCommands s) := by
  unfold State.dropCommands
  extract_lets +onlyGivenNames -underBinder -merge y0
  try clear_value y0
  refine Keeps.upd_acts (maskSub hF rfl) ?_
  assumption

theorem State.applyLoopCommit_keeps {F : Nat} {a s : State} (hF : F ||| 50356224 = F) (h : Keeps F a s) :
    Keeps F a (State.applyLoopCommit s) := by
  unfold State.applyLoopCommit
  split
  · assumption
  · refine Keeps.ite ?_ ?_
    · assumption
    · extract_lets +onlyGivenNames -underBinder -merge y0
      try clear_value y0
      extract_lets +onlyGivenNames -underBinder -merge y1
      try clear_value y1
      extract_lets +onlyGivenNames -underBinder -merge y2
      try clear_value y2
      extract_lets +onlyGivenNames -underBinder -merge y3
      try clear_value y3
      extract_lets +onlyGivenNames -underBinder -merge y4
      have hy4 : Keeps F a y4 := by
        unfold y4
        refine Keeps.upd (s := s) ?_ (regsWf_filter _ _) rfl le_rfl List.suffix_rfl le_rfl (FirnStep.refl _)
           (.inr rfl) (.inr rfl) (.inr rfl) (.inr rfl) (.inr rfl) (.inr rfl) (.inr rfl) (.inr rfl) (.inr rfl) (.inr rfl) (.inr rfl) (.inr rfl)
           (.inr rfl) (.inl (maskSub hF rfl)) (.inr rfl) (.inr rfl) (.inr rfl) (.inr rfl) (.inr rfl) (.inr rfl) (.inr rfl) (.inr rfl) (.inr rfl)
           (.inr rfl) (.inr rfl) (.inl (maskSub hF rfl)) (.inr rfl)
        assumption
      try clear_value y4
      extract_lets +onlyGivenNames -underBinder -merge y5
      have hy5 : Keeps F a y5 := by
        unfold y5
        refine Keeps.foldl ?_ ?_
        · assumption
        · intro x7 x8 h6
          beta_reduce
          refine State.wr_keeps (maskSub hF rfl) ?_
          assumption
      try clear_value y5
      extract_lets +onlyGivenNames -underBinder -merge y9
      have hy9 : Keeps F a y9 := by
        unfold y9
        refine Keeps.foldl ?_ ?_
        · assumption
        · intro x11 x12 h10
          beta_reduce
          refine State.commitLoop_keeps (maskSub hF rfl) ?_
          assumption
      try clear_value y9
      extract_lets +onlyGivenNames -underBinder -merge y13
      have hy13 : Keeps F a y13 := by
        unfold y13
        refine State.dropCommands_keeps (maskSub hF rfl) ?_
        assumption
      try clear_value y13
      extract_lets +onlyGivenNames -underBinder -merge y14
      have hy14 : Keeps F a y14 := by
        unfold y14
        refine State.set_keeps (maskSub hF rfl) ?_
        refine State.set_keeps (maskSub hF rfl) ?_
        assumption
      try clear_value y14
      refine State.loopChanged_keeps (maskSub hF rfl) ?_
      refine State.raise_keeps (maskSub hF rfl) ?_
      refine State.wrap_keeps (maskSub hF rfl) ?_
      assumption

theorem execFramePacket_keeps {F : Nat} {a s : State} {x0 x1} (hF : F ||| 33562624 = F) (h : Keeps F a s) :
    ∃ t, execFramePacket x0 x1 s = .next t ∧ Keeps F a t := by
  refine ⟨_, rfl, ?_⟩
  split
  · refine Keeps.ite ?_ ?_
    · assumption
    · extract_lets +onlyGivenNames -underBinder -merge y0
      have hy0 : Keeps F a y0 := by
        unfold y0
        refine State.count_keeps (maskSub hF rfl) ?_
        assumption
      try clear_value y0
      refine Keeps.upd_lop (maskSub hF rfl) ?_
      assumption
  · refine Keeps.ite ?_ ?_
    · assumption
    · split
      · refine Keeps.upd_lop (maskSub hF rfl) ?_
        assumption
      · refine Keeps.upd_lop (maskSub hF rfl) ?_
        assumption

theorem execPacketAcceptExchange_keeps {F : Nat} {a s : State} (hF : F ||| 8192 = F) (h : Keeps F a s) :
    ∃ t, execPacketAcceptExchange s = .next t ∧ Keeps F a t := by
  refine ⟨_, rfl, ?_⟩
  refine Keeps.ite ?_ ?_
  · assumption
  · extract_lets +onlyGivenNames -underBinder -merge y0
    try clear_value y0
    extract_lets +onlyGivenNames -underBinder -merge y1
    try clear_value y1
    extract_lets +onlyGivenNames -underBinder -merge y2
    try clear_value y2
    refine Keeps.upd_lop (maskSub hF rfl) ?_
    assumption

theorem State.applyPacket_keeps {F : Nat} {a s : State} {x1} (hF : F ||| 33554432 = F) (h : Keeps F a s) :
    Keeps F a (State.applyPacket s x1) := by
  unfold State.applyPacket
  extract_lets +onlyGivenNames -underBinder -merge y0
  have hy0 : Keeps F a y0 := by
    unfold y0
    refine Keeps.foldl ?_ ?_
    · assumption
    · intro x2 x3 h1
      beta_reduce
      refine State.wr_keeps (maskSub hF rfl) ?_
      assumption
  try clear_value y0
  extract_lets +onlyGivenNames -underBinder -merge y4
  have hy4 : Keeps F a y4 := by
    unfold y4
    refine Keeps.foldl ?_ ?_
    · assumption
    · intro x6 x7 h5
      beta_reduce
      refine Keeps.ite ?_ ?_
      · refine State.wr_keeps (maskSub hF rfl) ?_
        assumption
      · refine State.count_keeps (maskSub hF rfl) ?_
        assumption
  try clear_value y4
  refine State.wr_keeps (maskSub hF rfl) ?_
  assumption

theorem State.decayTerms_keeps {F : Nat} {a s : State} (hF : F ||| 33554432 = F) (h : Keeps F a s) :
    Keeps F a (State.decayTerms s) := by
  unfold State.decayTerms
  refine Keeps.foldl ?_ ?_
  · assumption
  · intro x1 x2 h0
    beta_reduce
    refine Keeps.ite ?_ ?_
    · assumption
    · refine State.wr_keeps (maskSub hF rfl) ?_
      assumption

theorem State.packetBoundary_keeps {F : Nat} {a s : State} (hF : F ||| 50339856 = F) (h : Keeps F a s) :
    Keeps F a (State.packetBoundary s) := by
  unfold State.packetBoundary
  extract_lets +onlyGivenNames -underBinder -merge y0
  have hy0 : Keeps F a y0 := by
    unfold y0
    split
    · extract_lets +onlyGivenNames -underBinder -merge y1
      have hy1 : Keeps F a y1 := by
        unfold y1
        refine State.applyPacket_keeps (maskSub hF rfl) ?_
        assumption
      try clear_value y1
      refine Keeps.upd_sys (maskSub hF rfl) ?_
      assumption
    · refine Keeps.ite ?_ ?_
      · assumption
      · extract_lets +onlyGivenNames -underBinder -merge y2
        have hy2 : Keeps F a y2 := by
          unfold y2
          refine State.decayTerms_keeps (maskSub hF rfl) ?_
          assumption
        try clear_value y2
        refine Keeps.ite ?_ ?_
        · extract_lets +onlyGivenNames -underBinder -merge y3
          have hy3 : Keeps F a y3 := by
            unfold y3
            refine State.raise_keeps (maskSub hF rfl) ?_
            refine State.count_keeps (maskSub hF rfl) ?_
            assumption
          try clear_value y3
          refine Keeps.upd_sys (maskSub hF rfl) ?_
          assumption
        · refine Keeps.upd_sys (maskSub hF rfl) ?_
          assumption
  try clear_value y0
  refine Keeps.upd_lop (maskSub hF rfl) ?_
  assumption

theorem State.faultLane_keeps {F : Nat} {a s : State} {x1} (hF : F ||| 50339840 = F) (h : Keeps F a s) :
    Keeps F a (State.faultLane s x1) := by
  unfold State.faultLane
  extract_lets +onlyGivenNames -underBinder -merge y0
  try clear_value y0
  extract_lets +onlyGivenNames -underBinder -merge y1
  have hy1 : Keeps F a y1 := by
    unfold y1
    refine Keeps.upd_lop (maskSub hF rfl) ?_
    assumption
  try clear_value y1
  refine State.raise_keeps (maskSub hF rfl) ?_
  refine State.set_keeps (maskSub hF rfl) ?_
  assumption

theorem State.dropSelected_keeps {F : Nat} {a s : State} {x1} (hF : F ||| 50339856 = F) (h : Keeps F a s) :
    Keeps F a (State.dropSelected s x1) := by
  unfold State.dropSelected
  extract_lets +onlyGivenNames -underBinder -merge y0
  try clear_value y0
  extract_lets +onlyGivenNames -underBinder -merge y1
  try clear_value y1
  extract_lets +onlyGivenNames -underBinder -merge y2
  have hy2 : Keeps F a y2 := by
    unfold y2
    refine State.faultLane_keeps (maskSub hF rfl) ?_
    assumption
  try clear_value y2
  refine Keeps.ite ?_ ?_
  · extract_lets +onlyGivenNames -underBinder -merge y3
    have hy3 : Keeps F a y3 := by
      unfold y3
      refine State.count_keeps (maskSub hF rfl) ?_
      refine State.set_keeps (maskSub hF rfl) ?_
      refine State.set_keeps (maskSub hF rfl) ?_
      assumption
    try clear_value y3
    refine State.raise_keeps (maskSub hF rfl) ?_
    assumption
  · refine Keeps.upd_sys (maskSub hF rfl) ?_
    assumption

theorem State.laneBad_keeps {F : Nat} {a s : State} {x1} (hF : F ||| 50339856 = F) (h : Keeps F a s) :
    Keeps F a (State.laneBad s x1) := by
  unfold State.laneBad
  refine Keeps.ite ?_ ?_
  · assumption
  · refine Keeps.ite ?_ ?_
    · extract_lets +onlyGivenNames -underBinder -merge y0
      have hy0 : Keeps F a y0 := by
        unfold y0
        refine State.dropSelected_keeps (maskSub hF rfl) ?_
        assumption
      try clear_value y0
      refine Keeps.upd_lop (maskSub hF rfl) ?_
      assumption
    · refine State.faultLane_keeps (maskSub hF rfl) ?_
      assumption

theorem State.arbitrate_keeps {F : Nat} {a s : State} {x1 x2} (hF : F ||| 50339856 = F) (h : Keeps F a s) :
    Keeps F a (State.arbitrate s x1 x2).1 := by
  unfold State.arbitrate
  extract_lets +onlyGivenNames -underBinder -merge y0 z0 y2
  have hy2 : Keeps F a y2 := Keeps.upd_lop (maskSub hF rfl) h
  try clear_value y2
  extract_lets +onlyGivenNames -underBinder -merge y3 y4 y5 y6 y7
  have hy7 : Keeps F a y7 := Keeps.ite (State.raise_keeps (maskSub hF rfl) (State.count_keeps (maskSub hF rfl) hy2)) hy2
  try clear_value y7
  split
  · exact Keeps.p1 (State.dropSelected_keeps (maskSub hF rfl) hy7)
  · split
    · exact Keeps.p1 (State.faultLane_keeps (maskSub hF rfl) hy7)
    · exact Keeps.p1 hy7

theorem execLaneRecover_keeps {F : Nat} {a s : State} {x0} (hF : F ||| 51388416 = F) (h : Keeps F a s) :
    ∃ t, execLaneRecover x0 s = .next t ∧ Keeps F a t := by
  refine ⟨_, rfl, ?_⟩
  refine Keeps.ite ?_ ?_
  · extract_lets +onlyGivenNames -underBinder -merge y0
    have hy0 : Keeps F a y0 := by
      unfold y0
      refine State.applyRepairs_keeps (maskSub hF rfl) ?_
      assumption
    try clear_value y0
    extract_lets +onlyGivenNames -underBinder -merge y1
    try clear_value y1
    extract_lets +onlyGivenNames -underBinder -merge y2
    have hy2 : Keeps F a y2 := by
      unfold y2
      refine Keeps.upd_lop (maskSub hF rfl) ?_
      assumption
    try clear_value y2
    refine State.raise_keeps (maskSub hF rfl) ?_
    refine State.set_keeps (maskSub hF rfl) ?_
    assumption
  · assumption

theorem State.readyLane_keeps {F : Nat} {a s : State} {x1} (hF : F ||| 50339840 = F) (h : Keeps F a s) :
    Keeps F a (State.readyLane s x1) := by
  unfold State.readyLane
  refine Keeps.ite ?_ ?_
  · extract_lets +onlyGivenNames -underBinder -merge y0
    try clear_value y0
    extract_lets +onlyGivenNames -underBinder -merge y1
    have hy1 : Keeps F a y1 := by
      unfold y1
      refine Keeps.upd_lop (maskSub hF rfl) ?_
      assumption
    try clear_value y1
    refine State.raise_keeps (maskSub hF rfl) ?_
    refine State.set_keeps (maskSub hF rfl) ?_
    assumption
  · assumption

theorem execLaneReady_keeps {F : Nat} {a s : State} {x0} (hF : F ||| 50339840 = F) (h : Keeps F a s) :
    ∃ t, execLaneReady x0 s = .next t ∧ Keeps F a t := by
  refine ⟨_, rfl, ?_⟩
  refine State.readyLane_keeps (maskSub hF rfl) ?_
  assumption

theorem State.matchLane_keeps {F : Nat} {a s : State} {x1} (hF : F ||| 50339840 = F) (h : Keeps F a s) :
    Keeps F a (State.matchLane s x1) := by
  unfold State.matchLane
  refine Keeps.ite ?_ ?_
  · refine State.readyLane_keeps (maskSub hF rfl) ?_
    refine Keeps.upd_lop (maskSub hF rfl) ?_
    assumption
  · assumption

theorem State.laneBoundary_keeps {F : Nat} {a s : State} (hF : F ||| 50339840 = F) (h : Keeps F a s) :
    Keeps F a (State.laneBoundary s) := by
  unfold State.laneBoundary
  refine Keeps.ite ?_ ?_
  · refine Keeps.upd_lop (maskSub hF rfl) ?_
    assumption
  · refine State.matchLane_keeps (maskSub hF rfl) ?_
    refine State.matchLane_keeps (maskSub hF rfl) ?_
    assumption

theorem State.loopBoundary_keeps {F : Nat} {a s : State} (hF : F ||| 50356240 = F) (h : Keeps F a s) :
    Keeps F a (State.loopBoundary s) := by
  unfold State.loopBoundary
  extract_lets +onlyGivenNames -underBinder -merge y0
  try clear_value y0
  extract_lets +onlyGivenNames -underBinder -merge y1
  have hy1 : Keeps F a y1 := by
    unfold y1
    refine Keeps.upd_lop (maskSub hF rfl) ?_
    assumption
  try clear_value y1
  refine State.laneBoundary_keeps (maskSub hF rfl) ?_
  refine State.applyLoopCommit_keeps (maskSub hF rfl) ?_
  refine State.packetBoundary_keeps (maskSub hF rfl) ?_
  assumption

/-! ### Evidence -/

theorem State.latchRecord_keeps {F : Nat} {a s : State} {x1 x2 x3 x4 x5} (hF : F ||| 33554432 = F) (h : Keeps F a s) :
    Keeps F a (State.latchRecord s x1 x2 x3 x4 x5) := by
  unfold State.latchRecord
  extract_lets +onlyGivenNames -underBinder -merge y0
  try clear_value y0
  extract_lets +onlyGivenNames -underBinder -merge y1
  have hy1 : Keeps F a y1 := by
    unfold y1
    refine Keeps.foldl ?_ ?_
    · assumption
    · intro x3 x4 h2
      beta_reduce
      refine State.wr_keeps (maskSub hF rfl) ?_
      assumption
  try clear_value y1
  extract_lets +onlyGivenNames -underBinder -merge y5
  have hy5 : Keeps F a y5 := by
    unfold y5
    refine Keeps.foldl ?_ ?_
    · assumption
    · intro x7 x8 h6
      beta_reduce
      refine State.wr_keeps (maskSub hF rfl) ?_
      assumption
  try clear_value y5
  extract_lets +onlyGivenNames -underBinder -merge y9
  have hy9 : Keeps F a y9 := by
    unfold y9
    refine State.wr_keeps (maskSub hF rfl) ?_
    refine State.wr_keeps (maskSub hF rfl) ?_
    assumption
  try clear_value y9
  refine State.set_keeps (maskSub hF rfl) ?_
  refine State.set_keeps (maskSub hF rfl) ?_
  assumption

theorem State.latchWindow_keeps {F : Nat} {a s : State} {x1} (hF : F ||| 33554432 = F) (h : Keeps F a s) :
    Keeps F a (State.latchWindow s x1) := by
  unfold State.latchWindow
  extract_lets +onlyGivenNames -underBinder -merge y0
  try clear_value y0
  refine Keeps.ite ?_ ?_
  · refine State.set_keeps (maskSub hF rfl) ?_
    assumption
  · extract_lets +onlyGivenNames -underBinder -merge y1
    try clear_value y1
    extract_lets +onlyGivenNames -underBinder -merge y2
    try clear_value y2
    extract_lets +onlyGivenNames -underBinder -merge y3
    try clear_value y3
    split
    · refine State.set_keeps (maskSub hF rfl) ?_
      assumption
    · extract_lets +onlyGivenNames -underBinder -merge y4
      try clear_value y4
      refine State.latchRecord_keeps (maskSub hF rfl) ?_
      assumption

theorem execFirnWindowLatch_keeps {F : Nat} {a s : State} {x0 x1 x2} (hF : F ||| 58720264 = F) (h : Keeps F a s) :
    ∃ t, execFirnWindowLatch x0 x1 x2 s = .next t ∧ Keeps F a t := by
  refine ⟨_, rfl, ?_⟩
  refine State.writeRow_keeps (maskSub hF rfl) ?_ ?_
  · assumption
  · intro x1 h0
    beta_reduce
    extract_lets +onlyGivenNames -underBinder -merge y2
    have hy2 : Keeps F a y2 := by
      unfold y2
      refine State.set_keeps (maskSub hF rfl) ?_
      assumption
    try clear_value y2
    refine Keeps.ite ?_ ?_
    · refine State.latchWindow_keeps (maskSub hF rfl) ?_
      assumption
    · assumption

theorem execFirnClear_keeps {F : Nat} {a s : State} {x0 x1} (hF : F ||| 58720264 = F) (h : Keeps F a s) :
    ∃ t, execFirnClear x0 x1 s = .next t ∧ Keeps F a t := by
  refine ⟨_, rfl, ?_⟩
  refine State.writeRow_keeps (maskSub hF rfl) ?_ ?_
  · assumption
  · intro x1 h0
    beta_reduce
    refine Keeps.upd_firn (maskSub hF rfl) (FirnStep.of_eq rfl rfl rfl rfl rfl) ?_
    assumption

theorem State.applyClear_keeps {F : Nat} {a s : State} (hF : F ||| 117440512 = F) (h : Keeps F a s) :
    Keeps F a (State.applyClear s) := by
  unfold State.applyClear
  split
  · assumption
  · extract_lets +onlyGivenNames -underBinder -merge y0 y1 y2 y3
    have e3 : y3.2.firn = y1 := by
      unfold y3
      split <;> rfl
    have hy32 : Keeps F a y3.2 := by
      unfold y3
      split
      · exact h
      · exact State.free_keeps (maskSub hF rfl) (State.free_keeps (maskSub hF rfl) h)
    try clear_value y0 y2 y3
    extract_lets +onlyGivenNames -underBinder -merge y6 y7
    have hy7 : Keeps F a y7 := Keeps.upd_firn (maskSub hF rfl) (by rw [show y6.firn = y1 from e3]; exact FirnStep.clear) hy32
    try clear_value y7
    exact State.raise_keeps (maskSub hF rfl) (State.occur_keeps (maskSub hF rfl) hy7)

theorem State.mirrorCopy_keeps {F : Nat} {a s : State} (hF : F ||| 50331648 = F) (h : Keeps F a s) :
    Keeps F a (State.mirrorCopy s) := by
  unfold State.mirrorCopy
  refine Keeps.ite h ?_
  extract_lets +onlyGivenNames -underBinder -merge za ya
  have hya : Keeps F a ya := Keeps.upd_firn (maskSub hF rfl) (FirnStep.of_eq rfl rfl rfl rfl rfl) h
  try clear_value ya
  extract_lets +onlyGivenNames -underBinder -merge y0
  have hy0 : ∀ r ∈ y0, r ∈ ya.firn.circ := fun r hr => (List.mem_filter.mp hr).1
  try clear_value y0
  split
  · exact hya
  · extract_lets +onlyGivenNames -underBinder -merge y1 z1 y3
    have hy3 : Keeps F a y3 := Keeps.upd_firn (maskSub hF rfl) (FirnStep.mirrored hy0) hya
    try clear_value y3
    exact Keeps.ite (State.raise_keeps (maskSub hF rfl) (State.countBy_keeps (maskSub hF rfl) hy3)) hy3

theorem execFirnMirrorCopy_keeps {F : Nat} {a s : State} (hF : F ||| 50331648 = F) (h : Keeps F a s) :
    ∃ t, execFirnMirrorCopy s = .next t ∧ Keeps F a t := by
  refine ⟨_, rfl, ?_⟩
  refine State.mirrorCopy_keeps (maskSub hF rfl) ?_
  assumption

theorem State.secondNow_keeps {F : Nat} {a s : State} (hF : F ||| 54525952 = F) (h : Keeps F a s) :
    Keeps F a (State.secondNow s) := by
  unfold State.secondNow
  refine Keeps.ite ?_ ?_
  · assumption
  · extract_lets +onlyGivenNames -underBinder -merge y0
    try clear_value y0
    extract_lets +onlyGivenNames -underBinder -merge y1
    extract_lets +onlyGivenNames -underBinder -merge y2
    have hy2 : Keeps F a y2 := by
      unfold y2
      refine Keeps.upd_clk (maskSub hF rfl) le_rfl ?_
      assumption
    try clear_value y2
    refine Keeps.ite ?_ ?_
    · refine State.anchor_keeps (maskSub hF rfl) ?_
      assumption
    · assumption

theorem State.freeNow_keeps {F : Nat} {a s : State} (hF : F ||| 54525952 = F) (h : Keeps F a s) :
    Keeps F a (State.freeNow s) := by
  unfold State.freeNow
  refine Keeps.ite ?_ ?_
  · refine Keeps.upd_clk (maskSub hF rfl) le_rfl ?_
    assumption
  · refine Keeps.ite ?_ ?_
    · refine State.anchor_keeps (maskSub hF rfl) ?_
      refine Keeps.upd_clk (maskSub hF rfl) le_rfl ?_
      assumption
    · assumption

theorem State.repairRow_keeps {F : Nat} {a s : State} {x1 x2 x3} (hF : F ||| 118489088 = F) (h : Keeps F a s) :
    Keeps F a (State.repairRow s x1 x2 x3) := by
  unfold State.repairRow
  split
  · extract_lets +onlyGivenNames -underBinder -merge y0
    have hy02 : Keeps F a y0.2 := by
      unfold y0
      refine State.free_keeps (maskSub hF rfl) ?_
      assumption
    try clear_value y0
    refine State.blowFuse_keeps (maskSub hF rfl) ?_
    assumption
  · assumption

theorem State.corrected_keeps {F : Nat} {a s : State} {x1 x2 x3} (hF : F ||| 118490624 = F) (h : Keeps F a s) :
    Keeps F a (State.corrected s x1 x2 x3) := by
  unfold State.corrected
  extract_lets +onlyGivenNames -underBinder -merge y0
  have hy0 : Keeps F a y0 := by
    unfold y0
    refine State.raise_keeps (maskSub hF rfl) ?_
    refine State.count_keeps (maskSub hF rfl) ?_
    assumption
  try clear_value y0
  extract_lets +onlyGivenNames -underBinder -merge y1
  have hy1 : Keeps F a y1 := by
    unfold y1
    split
    · refine State.raise_keeps (maskSub hF rfl) ?_
      refine State.bump_keeps (maskSub hF rfl) ?_
      assumption
    · refine State.raise_keeps (maskSub hF rfl) ?_
      refine State.bump_keeps (maskSub hF rfl) ?_
      assumption
    · refine State.bankCorrected_keeps (maskSub hF rfl) ?_
      assumption
    · refine State.pcCorrected_keeps (maskSub hF rfl) ?_
      assumption
    · assumption
  try clear_value y1
  extract_lets +onlyGivenNames -underBinder -merge y2
  try clear_value y2
  extract_lets +onlyGivenNames -underBinder -merge y3
  try clear_value y3
  extract_lets +onlyGivenNames -underBinder -merge y4
  try clear_value y4
  extract_lets +onlyGivenNames -underBinder -merge y5
  have hy5 : Keeps F a y5 := by
    unfold y5
    refine Keeps.upd_dia (maskSub hF rfl) ?_
    assumption
  try clear_value y5
  refine Keeps.ite ?_ ?_
  · refine State.repairRow_keeps (maskSub hF rfl) ?_
    assumption
  · assumption

theorem execEccCorrectedError_keeps {F : Nat} {a s : State} {x0 x1 x2} (hF : F ||| 118490624 = F) (h : Keeps F a s) :
    ∃ t, execEccCorrectedError x0 x1 x2 s = .next t ∧ Keeps F a t := by
  refine ⟨_, rfl, ?_⟩
  refine State.corrected_keeps (maskSub hF rfl) ?_
  assumption

theorem State.busFail_keeps {F : Nat} {a s : State} {x1 x2} (hF : F ||| 50339856 = F) (h : Keeps F a s) :
    Keeps F a (State.busFail s x1 x2) := by
  unfold State.busFail
  extract_lets +onlyGivenNames -underBinder -merge y0
  have hy0 : Keeps F a y0 := by
    unfold y0
    refine State.raise_keeps (maskSub hF rfl) ?_
    refine State.count_keeps (maskSub hF rfl) ?_
    assumption
  try clear_value y0
  split
  · refine State.laneBad_keeps (maskSub hF rfl) ?_
    assumption
  · assumption

theorem execBusError_keeps {F : Nat} {a s : State} {x0 x1} (hF : F ||| 50339856 = F) (h : Keeps F a s) :
    ∃ t, execBusError x0 x1 s = .next t ∧ Keeps F a t := by
  refine ⟨_, rfl, ?_⟩
  refine State.busFail_keeps (maskSub hF rfl) ?_
  assumption

theorem State.scrub_keeps {F : Nat} {a s : State} {x1} (hF : F ||| 51380224 = F) (h : Keeps F a s) :
    Keeps F a (State.scrub s x1) := by
  unfold State.scrub
  refine Keeps.ite ?_ ?_
  · assumption
  · extract_lets +onlyGivenNames -underBinder -merge y0
    try clear_value y0
    extract_lets +onlyGivenNames -underBinder -merge y1
    have hy1 : Keeps F a y1 := by
      unfold y1
      refine Keeps.upd_dia (maskSub hF rfl) ?_
      assumption
    try clear_value y1
    extract_lets +onlyGivenNames -underBinder -merge y2
    have hy2 : Keeps F a y2 := by
      unfold y2
      split
      · refine State.wrap_keeps (maskSub hF rfl) ?_
        assumption
      · refine State.wrap_keeps (maskSub hF rfl) ?_
        assumption
      · assumption
    try clear_value y2
    refine State.raise_keeps (maskSub hF rfl) ?_
    assumption

theorem execScrubPass_keeps {F : Nat} {a s : State} {x0} (hF : F ||| 51380224 = F) (h : Keeps F a s) :
    ∃ t, execScrubPass x0 s = .next t ∧ Keeps F a t := by
  refine ⟨_, rfl, ?_⟩
  refine State.scrub_keeps (maskSub hF rfl) ?_
  assumption

theorem State.firnRunOut_keeps {F : Nat} {a s : State} (hF : F ||| 51380224 = F) (h : Keeps F a s) :
    Keeps F a (State.firnRunOut s) := by
  unfold State.firnRunOut
  extract_lets +onlyGivenNames -underBinder -merge y0
  have hy0 : Keeps F a y0 := by
    unfold y0
    refine Keeps.ite ?_ ?_
    · refine State.mirrorCopy_keeps (maskSub hF rfl) ?_
      assumption
    · assumption
  try clear_value y0
  refine Keeps.foldl ?_ ?_
  · assumption
  · intro x2 x3 h1
    beta_reduce
    refine State.scrub_keeps (maskSub hF rfl) ?_
    assumption

theorem State.eccTest_keeps {F : Nat} {a s : State} {x1 x2} (hF : F ||| 50331648 = F) (h : Keeps F a s) :
    Keeps F a (State.eccTest s x1 x2) := by
  unfold State.eccTest
  extract_lets +onlyGivenNames -underBinder -merge y0
  have hy0 : Keeps F a y0 := by
    unfold y0
    refine State.plainWrite_keeps (maskSub hF rfl) ?_
    assumption
  try clear_value y0
  refine Keeps.ite ?_ ?_
  · refine State.raise_keeps (maskSub hF rfl) ?_
    refine State.set_keeps (maskSub hF rfl) ?_
    assumption
  · assumption

theorem execEccTest_keeps {F : Nat} {a s : State} {x0 x1 x2} (hF : F ||| 58720264 = F) (h : Keeps F a s) :
    ∃ t, execEccTest x0 x1 x2 s = .next t ∧ Keeps F a t := by
  refine ⟨_, rfl, ?_⟩
  refine State.writeRow_keeps (maskSub hF rfl) ?_ ?_
  · assumption
  · intro x1 h0
    beta_reduce
    refine State.eccTest_keeps (maskSub hF rfl) ?_
    assumption

theorem State.latchDigest_keeps {F : Nat} {a s : State} (hF : F ||| 33554432 = F) (h : Keeps F a s) :
    Keeps F a (State.latchDigest s) := by
  unfold State.latchDigest
  extract_lets +onlyGivenNames -underBinder -merge y0
  try clear_value y0
  extract_lets +onlyGivenNames -underBinder -merge y1
  try clear_value y1
  split
  · extract_lets +onlyGivenNames -underBinder -merge y2
    have hy2 : Keeps F a y2 := by
      unfold y2
      refine Keeps.foldl ?_ ?_
      · assumption
      · intro x4 x5 h3
        beta_reduce
        refine State.wr_keeps (maskSub hF rfl) ?_
        assumption
    try clear_value y2
    refine State.set_keeps (maskSub hF rfl) ?_
    assumption
  · refine State.set_keeps (maskSub hF rfl) ?_
    assumption

theorem execDigestLatch_keeps {F : Nat} {a s : State} {x0 x1} (hF : F ||| 58720264 = F) (h : Keeps F a s) :
    ∃ t, execDigestLatch x0 x1 s = .next t ∧ Keeps F a t := by
  refine ⟨_, rfl, ?_⟩
  refine State.writeRow_keeps (maskSub hF rfl) ?_ ?_
  · assumption
  · intro x1 h0
    beta_reduce
    refine State.latchDigest_keeps (maskSub hF rfl) ?_
    refine State.plainWrite_keeps (maskSub hF rfl) ?_
    assumption

end Sys2Proof.Machine
end

