-- ==== Sys2Proof/Laws/KeepsActs.lean ====
section
/-! SUPPORT. What each operation and each command of pumps, solenoids and fans may change, as `Keeps` says it. -/

namespace Sys2Proof.Machine

/-! ### Pumps -/

theorem State.setPump_keeps {F : Nat} {a s : State} {x1 x2} (hF : F ||| 16384 = F) (h : Keeps F a s) :
    Keeps F a (State.setPump s x1 x2) := by
  unfold State.setPump
  refine Keeps.upd_acts (maskSub hF rfl) ?_
  assumption

theorem State.startPump_keeps {F : Nat} {a s : State} {x1 x2} (hF : F ||| 33570816 = F) (h : Keeps F a s) :
    Keeps F a (State.startPump s x1 x2) := by
  unfold State.startPump
  extract_lets +onlyGivenNames -underBinder -merge y0
  try clear_value y0
  extract_lets +onlyGivenNames -underBinder -merge y1
  try clear_value y1
  extract_lets +onlyGivenNames -underBinder -merge y2
  have hy2 : Keeps F a y2 := by
    unfold y2
    refine State.setPump_keeps (maskSub hF rfl) ?_
    assumption
  try clear_value y2
  refine State.set_keeps (maskSub hF rfl) ?_
  refine State.set_keeps (maskSub hF rfl) ?_
  refine State.set_keeps (maskSub hF rfl) ?_
  assumption

theorem State.stopPump_keeps {F : Nat} {a s : State} {x1} (hF : F ||| 33570816 = F) (h : Keeps F a s) :
    Keeps F a (State.stopPump s x1) := by
  unfold State.stopPump
  refine Keeps.ite ?_ ?_
  · refine State.set_keeps (maskSub hF rfl) ?_
    refine State.setPump_keeps (maskSub hF rfl) ?_
    assumption
  · assumption

theorem State.resumePump_keeps {F : Nat} {a s : State} {x1 x2} (hF : F ||| 33570816 = F) (h : Keeps F a s) :
    Keeps F a (State.resumePump s x1 x2) := by
  unfold State.resumePump
  refine State.set_keeps (maskSub hF rfl) ?_
  refine State.setPump_keeps (maskSub hF rfl) ?_
  assumption

theorem State.pumpOff_keeps {F : Nat} {a s : State} {x1 x2 x3} (hF : F ||| 33570816 = F) (h : Keeps F a s) :
    Keeps F a (State.pumpOff s x1 x2 x3) := by
  unfold State.pumpOff
  extract_lets +onlyGivenNames -underBinder -merge y0
  try clear_value y0
  extract_lets +onlyGivenNames -underBinder -merge y1
  have hy1 : Keeps F a y1 := by
    unfold y1
    refine State.setPump_keeps (maskSub hF rfl) ?_
    assumption
  try clear_value y1
  refine State.set_keeps (maskSub hF rfl) ?_
  refine State.set_keeps (maskSub hF rfl) ?_
  refine State.set_keeps (maskSub hF rfl) ?_
  assumption

theorem State.substitutePump_keeps {F : Nat} {a s : State} {x1 x2} (hF : F ||| 50348032 = F) (h : Keeps F a s) :
    Keeps F a (State.substitutePump s x1 x2) := by
  unfold State.substitutePump
  split
  · refine State.raise_keeps (maskSub hF rfl) ?_
    refine State.set_keeps (maskSub hF rfl) ?_
    assumption
  · extract_lets +onlyGivenNames -underBinder -merge y0
    have hy0 : Keeps F a y0 := by
      unfold y0
      refine State.set_keeps (maskSub hF rfl) ?_
      refine State.set_keeps (maskSub hF rfl) ?_
      assumption
    try clear_value y0
    extract_lets +onlyGivenNames -underBinder -merge y1
    try clear_value y1
    extract_lets +onlyGivenNames -underBinder -merge y2
    have hy2 : Keeps F a y2 := by
      unfold y2
      refine State.set_keeps (maskSub hF rfl) ?_
      refine State.setPump_keeps (maskSub hF rfl) ?_
      assumption
    try clear_value y2
    refine State.raise_keeps (maskSub hF rfl) ?_
    refine State.startPump_keeps (maskSub hF rfl) ?_
    assumption

theorem State.standbyStart_keeps {F : Nat} {a s : State} {x1 x2} (hF : F ||| 50348032 = F) (h : Keeps F a s) :
    Keeps F a (State.standbyStart s x1 x2) := by
  unfold State.standbyStart
  split
  · assumption
  · extract_lets +onlyGivenNames -underBinder -merge y0
    try clear_value y0
    extract_lets +onlyGivenNames -underBinder -merge y1
    have hy1 : Keeps F a y1 := by
      unfold y1
      refine State.setPump_keeps (maskSub hF rfl) ?_
      assumption
    try clear_value y1
    refine State.raise_keeps (maskSub hF rfl) ?_
    refine State.startPump_keeps (maskSub hF rfl) ?_
    assumption

theorem State.endRedirect_keeps {F : Nat} {a s : State} {x1} (hF : F ||| 33570816 = F) (h : Keeps F a s) :
    Keeps F a (State.endRedirect s x1) := by
  unfold State.endRedirect
  refine State.set_keeps (maskSub hF rfl) ?_
  refine State.setPump_keeps (maskSub hF rfl) ?_
  assumption

theorem State.pumpLost_keeps {F : Nat} {a s : State} {x1 x2} (hF : F ||| 50348032 = F) (h : Keeps F a s) :
    Keeps F a (State.pumpLost s x1 x2) := by
  unfold State.pumpLost
  split
  · refine Keeps.ite ?_ ?_
    · refine State.substitutePump_keeps (maskSub hF rfl) ?_
      refine State.set_keeps (maskSub hF rfl) ?_
      refine State.endRedirect_keeps (maskSub hF rfl) ?_
      assumption
    · assumption
  · refine Keeps.ite ?_ ?_
    · refine State.substitutePump_keeps (maskSub hF rfl) ?_
      assumption
    · refine Keeps.ite ?_ ?_
      · refine State.standbyStart_keeps (maskSub hF rfl) ?_
        refine State.setPump_keeps (maskSub hF rfl) ?_
        assumption
      · assumption

theorem State.failStart_keeps {F : Nat} {a s : State} {x1 x2} (hF : F ||| 50348032 = F) (h : Keeps F a s) :
    Keeps F a (State.failStart s x1 x2) := by
  unfold State.failStart
  refine State.pumpLost_keeps (maskSub hF rfl) ?_
  refine State.raise_keeps (maskSub hF rfl) ?_
  refine State.pumpOff_keeps (maskSub hF rfl) ?_
  assumption

theorem State.tripPump_keeps {F : Nat} {a s : State} {x1 x2} (hF : F ||| 50348032 = F) (h : Keeps F a s) :
    Keeps F a (State.tripPump s x1 x2) := by
  unfold State.tripPump
  extract_lets +onlyGivenNames -underBinder -merge y0
  try clear_value y0
  refine State.pumpLost_keeps (maskSub hF rfl) ?_
  refine State.raise_keeps (maskSub hF rfl) ?_
  refine State.count_keeps (maskSub hF rfl) ?_
  refine State.pumpOff_keeps (maskSub hF rfl) ?_
  assumption

theorem State.provePump_keeps {F : Nat} {a s : State} {x1} (hF : F ||| 33570816 = F) (h : Keeps F a s) :
    Keeps F a (State.provePump s x1) := by
  unfold State.provePump
  extract_lets +onlyGivenNames -underBinder -merge y0
  have hy0 : Keeps F a y0 := by
    unfold y0
    refine State.count_keeps (maskSub hF rfl) ?_
    refine State.set_keeps (maskSub hF rfl) ?_
    assumption
  try clear_value y0
  extract_lets +onlyGivenNames -underBinder -merge y1
  try clear_value y1
  extract_lets +onlyGivenNames -underBinder -merge y2
  have hy2 : Keeps F a y2 := by
    unfold y2
    refine State.setPump_keeps (maskSub hF rfl) ?_
    assumption
  try clear_value y2
  refine Keeps.ite ?_ ?_
  · extract_lets +onlyGivenNames -underBinder -merge y3
    try clear_value y3
    extract_lets +onlyGivenNames -underBinder -merge y4
    have hy4 : Keeps F a y4 := by
      unfold y4
      refine State.setPump_keeps (maskSub hF rfl) ?_
      assumption
    try clear_value y4
    refine Keeps.ite ?_ ?_
    · extract_lets +onlyGivenNames -underBinder -merge y5
      try clear_value y5
      extract_lets +onlyGivenNames -underBinder -merge y6
      have hy6 : Keeps F a y6 := by
        unfold y6
        refine State.endRedirect_keeps (maskSub hF rfl) ?_
        refine State.set_keeps (maskSub hF rfl) ?_
        refine State.set_keeps (maskSub hF rfl) ?_
        assumption
      try clear_value y6
      refine Keeps.ite ?_ ?_
      · assumption
      · refine State.stopPump_keeps (maskSub hF rfl) ?_
        assumption
    · assumption
  · assumption

theorem State.startDuty_keeps {F : Nat} {a s : State} (hF : F ||| 33570816 = F) (h : Keeps F a s) :
    Keeps F a (State.startDuty s) := by
  unfold State.startDuty
  refine Keeps.foldl ?_ ?_
  · assumption
  · intro x1 x2 h0
    beta_reduce
    refine Keeps.ite ?_ ?_
    · refine State.startPump_keeps (maskSub hF rfl) ?_
      assumption
    · assumption

theorem State.pumpConfigured_keeps {F : Nat} {a s : State} {x1} (hF : F ||| 33570816 = F) (h : Keeps F a s) :
    Keeps F a (State.pumpConfigured s x1) := by
  unfold State.pumpConfigured
  refine Keeps.ite ?_ ?_
  · refine State.stopPump_keeps (maskSub hF rfl) ?_
    assumption
  · assumption

theorem State.pumpDemand_keeps {F : Nat} {a s : State} {x1} (hF : F ||| 33570816 = F) (h : Keeps F a s) :
    Keeps F a (State.pumpDemand s x1) := by
  unfold State.pumpDemand
  extract_lets +onlyGivenNames -underBinder -merge y0
  try clear_value y0
  extract_lets +onlyGivenNames -underBinder -merge y1
  try clear_value y1
  extract_lets +onlyGivenNames -underBinder -merge y2
  try clear_value y2
  refine State.set_keeps (maskSub hF rfl) ?_
  refine State.setPump_keeps (maskSub hF rfl) ?_
  assumption

theorem State.pumpTick_keeps {F : Nat} {a s : State} {x1} (hF : F ||| 33570816 = F) (h : Keeps F a s) :
    Keeps F a (State.pumpTick s x1) := by
  unfold State.pumpTick
  extract_lets +onlyGivenNames -underBinder -merge y0
  try clear_value y0
  extract_lets +onlyGivenNames -underBinder -merge y1
  try clear_value y1
  extract_lets +onlyGivenNames -underBinder -merge y2
  have hy2 : Keeps F a y2 := by
    unfold y2
    refine State.setB_keeps (maskSub hF rfl) ?_
    assumption
  try clear_value y2
  extract_lets +onlyGivenNames -underBinder -merge y3
  have hy3 : Keeps F a y3 := by
    unfold y3
    refine Keeps.ite ?_ ?_
    · refine Keeps.ite ?_ ?_
      · refine State.startPump_keeps (maskSub hF rfl) ?_
        assumption
      · refine Keeps.ite ?_ ?_
        · refine State.resumePump_keeps (maskSub hF rfl) ?_
          assumption
        · assumption
    · refine Keeps.ite ?_ ?_
      · refine State.stopPump_keeps (maskSub hF rfl) ?_
        assumption
      · assumption
  try clear_value y3
  extract_lets +onlyGivenNames -underBinder -merge y4
  have hy4 : Keeps F a y4 := by
    unfold y4
    refine State.pumpDemand_keeps (maskSub hF rfl) ?_
    assumption
  try clear_value y4
  extract_lets +onlyGivenNames -underBinder -merge y5
  try clear_value y5
  extract_lets +onlyGivenNames -underBinder -merge y6
  have hy6 : Keeps F a y6 := by
    unfold y6
    refine State.set_keeps (maskSub hF rfl) ?_
    assumption
  try clear_value y6
  extract_lets +onlyGivenNames -underBinder -merge y7
  try clear_value y7
  extract_lets +onlyGivenNames -underBinder -merge y8
  try clear_value y8
  extract_lets +onlyGivenNames -underBinder -merge y9
  try clear_value y9
  refine Keeps.ite ?_ ?_
  · extract_lets +onlyGivenNames -underBinder -merge y10
    try clear_value y10
    refine Keeps.ite ?_ ?_
    · refine State.count_keeps (maskSub hF rfl) ?_
      refine State.setPump_keeps (maskSub hF rfl) ?_
      assumption
    · refine State.setPump_keeps (maskSub hF rfl) ?_
      assumption
  · refine State.setPump_keeps (maskSub hF rfl) ?_
    assumption

theorem State.latchFlt_keeps {F : Nat} {a s : State} {x1 x2} (hF : F ||| 16384 = F) (h : Keeps F a s) :
    Keeps F a (State.latchFlt s x1 x2) := by
  unfold State.latchFlt
  extract_lets +onlyGivenNames -underBinder -merge y0
  try clear_value y0
  refine State.setPump_keeps (maskSub hF rfl) ?_
  assumption

theorem State.pumpCmd_keeps {F : Nat} {a s : State} {x1 x2} (hF : F ||| 33570816 = F) (h : Keeps F a s) :
    Keeps F a (State.pumpCmd s x1 x2) := by
  unfold State.pumpCmd
  extract_lets +onlyGivenNames -underBinder -merge y0
  try clear_value y0
  extract_lets +onlyGivenNames -underBinder -merge y1
  try clear_value y1
  split
  · refine Keeps.ite ?_ ?_
    · assumption
    · extract_lets +onlyGivenNames -underBinder -merge y2
      try clear_value y2
      extract_lets +onlyGivenNames -underBinder -merge y3
      have hy3 : Keeps F a y3 := by
        unfold y3
        refine State.setPump_keeps (maskSub hF rfl) ?_
        assumption
      try clear_value y3
      refine Keeps.ite ?_ ?_
      · assumption
      · refine Keeps.ite ?_ ?_
        · refine State.startPump_keeps (maskSub hF rfl) ?_
          assumption
        · refine Keeps.ite ?_ ?_
          · refine State.resumePump_keeps (maskSub hF rfl) ?_
            assumption
          · assumption
  · extract_lets +onlyGivenNames -underBinder -merge y4
    try clear_value y4
    extract_lets +onlyGivenNames -underBinder -merge y5
    have hy5 : Keeps F a y5 := by
      unfold y5
      refine State.setPump_keeps (maskSub hF rfl) ?_
      assumption
    try clear_value y5
    refine Keeps.ite ?_ ?_
    · assumption
    · refine State.stopPump_keeps (maskSub hF rfl) ?_
      assumption
  · refine Keeps.ite ?_ ?_
    · refine State.setPump_keeps (maskSub hF rfl) ?_
      refine State.pumpOff_keeps (maskSub hF rfl) ?_
      assumption
    · assumption
  · refine Keeps.ite ?_ ?_
    · refine State.setPump_keeps (maskSub hF rfl) ?_
      refine State.startPump_keeps (maskSub hF rfl) ?_
      assumption
    · assumption
  · assumption

theorem execPumpStart_keeps {F : Nat} {a s : State} {x0 x1} (hF : F ||| 58736648 = F) (h : Keeps F a s) :
    ∃ t, execPumpStart x0 x1 s = .next t ∧ Keeps F a t := by
  refine ⟨_, rfl, ?_⟩
  refine State.writeRow_keeps (maskSub hF rfl) ?_ ?_
  · assumption
  · intro x1 h0
    beta_reduce
    refine State.pumpCmd_keeps (maskSub hF rfl) ?_
    assumption

theorem execPumpStop_keeps {F : Nat} {a s : State} {x0 x1} (hF : F ||| 58736648 = F) (h : Keeps F a s) :
    ∃ t, execPumpStop x0 x1 s = .next t ∧ Keeps F a t := by
  refine ⟨_, rfl, ?_⟩
  refine State.writeRow_keeps (maskSub hF rfl) ?_ ?_
  · assumption
  · intro x1 h0
    beta_reduce
    refine State.pumpCmd_keeps (maskSub hF rfl) ?_
    assumption

theorem execPumpAck_keeps {F : Nat} {a s : State} {x0 x1} (hF : F ||| 58736648 = F) (h : Keeps F a s) :
    ∃ t, execPumpAck x0 x1 s = .next t ∧ Keeps F a t := by
  refine ⟨_, rfl, ?_⟩
  refine State.writeRow_keeps (maskSub hF rfl) ?_ ?_
  · assumption
  · intro x1 h0
    beta_reduce
    refine State.pumpCmd_keeps (maskSub hF rfl) ?_
    assumption

theorem execPumpRestore_keeps {F : Nat} {a s : State} {x0 x1} (hF : F ||| 58736648 = F) (h : Keeps F a s) :
    ∃ t, execPumpRestore x0 x1 s = .next t ∧ Keeps F a t := by
  refine ⟨_, rfl, ?_⟩
  refine State.writeRow_keeps (maskSub hF rfl) ?_ ?_
  · assumption
  · intro x1 h0
    beta_reduce
    refine State.pumpCmd_keeps (maskSub hF rfl) ?_
    assumption

theorem execPumpDriveReady_keeps {F : Nat} {a s : State} {x0} (hF : F ||| 33570816 = F) (h : Keeps F a s) :
    ∃ t, execPumpDriveReady x0 s = .next t ∧ Keeps F a t := by
  refine ⟨_, rfl, ?_⟩
  refine Keeps.ite ?_ ?_
  · refine State.set_keeps (maskSub hF rfl) ?_
    refine State.setPump_keeps (maskSub hF rfl) ?_
    assumption
  · assumption

theorem execPumpProven_keeps {F : Nat} {a s : State} {x0} (hF : F ||| 33570816 = F) (h : Keeps F a s) :
    ∃ t, execPumpProven x0 s = .next t ∧ Keeps F a t := by
  refine ⟨_, rfl, ?_⟩
  refine Keeps.ite ?_ ?_
  · refine State.provePump_keeps (maskSub hF rfl) ?_
    assumption
  · assumption

theorem execPumpReadyTimeout_keeps {F : Nat} {a s : State} {x0} (hF : F ||| 50348032 = F) (h : Keeps F a s) :
    ∃ t, execPumpReadyTimeout x0 s = .next t ∧ Keeps F a t := by
  refine ⟨_, rfl, ?_⟩
  refine Keeps.ite ?_ ?_
  · refine State.failStart_keeps (maskSub hF rfl) ?_
    assumption
  · assumption

theorem execPumpProofTimeout_keeps {F : Nat} {a s : State} {x0} (hF : F ||| 50348032 = F) (h : Keeps F a s) :
    ∃ t, execPumpProofTimeout x0 s = .next t ∧ Keeps F a t := by
  refine ⟨_, rfl, ?_⟩
  refine Keeps.ite ?_ ?_
  · refine State.failStart_keeps (maskSub hF rfl) ?_
    assumption
  · assumption

theorem execPumpStopComplete_keeps {F : Nat} {a s : State} {x0} (hF : F ||| 33570816 = F) (h : Keeps F a s) :
    ∃ t, execPumpStopComplete x0 s = .next t ∧ Keeps F a t := by
  refine ⟨_, rfl, ?_⟩
  refine Keeps.ite ?_ ?_
  · refine State.pumpOff_keeps (maskSub hF rfl) ?_
    assumption
  · assumption

theorem State.setValve_keeps {F : Nat} {a s : State} {x1 x2} (hF : F ||| 16384 = F) (h : Keeps F a s) :
    Keeps F a (State.setValve s x1 x2) := by
  unfold State.setValve
  refine Keeps.upd_acts (maskSub hF rfl) ?_
  assumption

theorem State.latchValve_keeps {F : Nat} {a s : State} {x1 x2} (hF : F ||| 16384 = F) (h : Keeps F a s) :
    Keeps F a (State.latchValve s x1 x2) := by
  unfold State.latchValve
  extract_lets +onlyGivenNames -underBinder -merge y0
  try clear_value y0
  extract_lets +onlyGivenNames -underBinder -merge y1
  try clear_value y1
  refine Keeps.ite ?_ ?_
  · assumption
  · refine State.setValve_keeps (maskSub hF rfl) ?_
    assumption

theorem State.valveTick_keeps {F : Nat} {a s : State} {x1} (hF : F ||| 33570816 = F) (h : Keeps F a s) :
    Keeps F a (State.valveTick s x1) := by
  unfold State.valveTick
  extract_lets +onlyGivenNames -underBinder -merge y0
  have hy0 : Keeps F a y0 := by
    unfold y0
    refine State.latchValve_keeps (maskSub hF rfl) ?_
    assumption
  try clear_value y0
  extract_lets +onlyGivenNames -underBinder -merge y1
  try clear_value y1
  extract_lets +onlyGivenNames -underBinder -merge y2
  try clear_value y2
  extract_lets +onlyGivenNames -underBinder -merge y3
  try clear_value y3
  extract_lets +onlyGivenNames -underBinder -merge y4
  try clear_value y4
  extract_lets +onlyGivenNames -underBinder -merge y5
  have hy5 : Keeps F a y5 := by
    unfold y5
    refine State.setB_keeps (maskSub hF rfl) ?_
    refine State.set_keeps (maskSub hF rfl) ?_
    assumption
  try clear_value y5
  extract_lets +onlyGivenNames -underBinder -merge y6
  have hy6 : Keeps F a y6 := by
    unfold y6
    refine State.wr_keeps (maskSub hF rfl) ?_
    assumption
  try clear_value y6
  extract_lets +onlyGivenNames -underBinder -merge y7
  try clear_value y7
  extract_lets +onlyGivenNames -underBinder -merge y8
  try clear_value y8
  extract_lets +onlyGivenNames -underBinder -merge y9
  try clear_value y9
  extract_lets +onlyGivenNames -underBinder -merge y10
  have hy10 : Keeps F a y10 := by
    unfold y10
    refine State.setValve_keeps (maskSub hF rfl) ?_
    assumption
  try clear_value y10
  extract_lets +onlyGivenNames -underBinder -merge y11
  have hy11 : Keeps F a y11 := by
    unfold y11
    refine Keeps.ite ?_ ?_
    · refine State.set_keeps (maskSub hF rfl) ?_
      assumption
    · assumption
  try clear_value y11
  refine Keeps.ite ?_ ?_
  · refine State.set_keeps (maskSub hF rfl) ?_
    assumption
  · assumption

theorem execValveFault_keeps {F : Nat} {a s : State} {x0} (hF : F ||| 50331648 = F) (h : Keeps F a s) :
    ∃ t, execValveFault x0 s = .next t ∧ Keeps F a t := by
  refine ⟨_, rfl, ?_⟩
  extract_lets +onlyGivenNames -underBinder -merge y0
  try clear_value y0
  refine Keeps.ite ?_ ?_
  · refine State.raise_keeps (maskSub hF rfl) ?_
    refine State.set_keeps (maskSub hF rfl) ?_
    assumption
  · assumption

theorem execValveDeviation_keeps {F : Nat} {a s : State} {x0} (hF : F ||| 50331648 = F) (h : Keeps F a s) :
    ∃ t, execValveDeviation x0 s = .next t ∧ Keeps F a t := by
  refine ⟨_, rfl, ?_⟩
  refine Keeps.ite ?_ ?_
  · refine State.raise_keeps (maskSub hF rfl) ?_
    refine State.set_keeps (maskSub hF rfl) ?_
    assumption
  · assumption

/-! ### Solenoids -/

theorem State.setSol_keeps {F : Nat} {a s : State} {x1 x2} (hF : F ||| 16384 = F) (h : Keeps F a s) :
    Keeps F a (State.setSol s x1 x2) := by
  unfold State.setSol
  refine Keeps.upd_acts (maskSub hF rfl) ?_
  assumption

theorem State.setSolState_keeps {F : Nat} {a s : State} {x1 x2} (hF : F ||| 33554432 = F) (h : Keeps F a s) :
    Keeps F a (State.setSolState s x1 x2) := by
  unfold State.setSolState
  refine State.set_keeps (maskSub hF rfl) ?_
  assumption

theorem State.solResult_keeps {F : Nat} {a s : State} {x1 x2} (hF : F ||| 33554432 = F) (h : Keeps F a s) :
    Keeps F a (State.solResult s x1 x2) := by
  unfold State.solResult
  refine State.set_keeps (maskSub hF rfl) ?_
  assumption

theorem State.freeSlot_keeps {F : Nat} {a s : State} {x1} (hF : F ||| 33570816 = F) (h : Keeps F a s) :
    Keeps F a (State.freeSlot s x1) := by
  unfold State.freeSlot
  extract_lets +onlyGivenNames -underBinder -merge y0
  have hy0 : Keeps F a y0 := by
    unfold y0
    refine State.set_keeps (maskSub hF rfl) ?_
    assumption
  try clear_value y0
  refine Keeps.ite ?_ ?_
  · extract_lets +onlyGivenNames -underBinder -merge y1
    try clear_value y1
    extract_lets +onlyGivenNames -underBinder -merge y2
    have hy2 : Keeps F a y2 := by
      unfold y2
      refine State.setSol_keeps (maskSub hF rfl) ?_
      assumption
    try clear_value y2
    refine Keeps.upd_acts (maskSub hF rfl) ?_
    assumption
  · assumption

theorem State.solEnded_keeps {F : Nat} {a s : State} {x1 x2 x3} (hF : F ||| 33570816 = F) (h : Keeps F a s) :
    Keeps F a (State.solEnded s x1 x2 x3) := by
  unfold State.solEnded
  extract_lets +onlyGivenNames -underBinder -merge y0
  have hy0 : Keeps F a y0 := by
    unfold y0
    refine State.solResult_keeps (maskSub hF rfl) ?_
    assumption
  try clear_value y0
  refine Keeps.ite ?_ ?_
  · refine Keeps.upd_acts (maskSub hF rfl) ?_
    assumption
  · assumption

theorem State.endRequest_keeps {F : Nat} {a s : State} {x1 x2} (hF : F ||| 33570816 = F) (h : Keeps F a s) :
    Keeps F a (State.endRequest s x1 x2) := by
  unfold State.endRequest
  split
  · assumption
  · extract_lets +onlyGivenNames -underBinder -merge y0
    try clear_value y0
    extract_lets +onlyGivenNames -underBinder -merge y1
    have hy1 : Keeps F a y1 := by
      unfold y1
      refine State.setSol_keeps (maskSub hF rfl) ?_
      assumption
    try clear_value y1
    extract_lets +onlyGivenNames -underBinder -merge y2
    have hy2 : Keeps F a y2 := by
      unfold y2
      refine Keeps.ite ?_ ?_
      · refine State.setSolState_keeps (maskSub hF rfl) ?_
        assumption
      · assumption
    try clear_value y2
    refine State.solEnded_keeps (maskSub hF rfl) ?_
    assumption

theorem State.switchOff_keeps {F : Nat} {a s : State} {x1 x2 x3} (hF : F ||| 33570816 = F) (h : Keeps F a s) :
    Keeps F a (State.switchOff s x1 x2 x3) := by
  unfold State.switchOff
  extract_lets +onlyGivenNames -underBinder -merge y0
  try clear_value y0
  extract_lets +onlyGivenNames -underBinder -merge y1
  have hy1 : Keeps F a y1 := by
    unfold y1
    refine State.setSol_keeps (maskSub hF rfl) ?_
    assumption
  try clear_value y1
  refine State.setSolState_keeps (maskSub hF rfl) ?_
  refine State.set_keeps (maskSub hF rfl) ?_
  assumption

theorem State.acceptReq_keeps {F : Nat} {a s : State} {x1 x2 x3} (hF : F ||| 33570816 = F) (h : Keeps F a s) :
    Keeps F a (State.acceptReq s x1 x2 x3) := by
  unfold State.acceptReq
  extract_lets +onlyGivenNames -underBinder -merge y0
  try clear_value y0
  extract_lets +onlyGivenNames -underBinder -merge y1
  have hy1 : Keeps F a y1 := by
    unfold y1
    refine State.wr_keeps (maskSub hF rfl) ?_
    refine State.wr_keeps (maskSub hF rfl) ?_
    assumption
  try clear_value y1
  extract_lets +onlyGivenNames -underBinder -merge y2
  have hy2 : Keeps F a y2 := by
    unfold y2
    refine State.setB_keeps (maskSub hF rfl) ?_
    assumption
  try clear_value y2
  extract_lets +onlyGivenNames -underBinder -merge y3
  try clear_value y3
  extract_lets +onlyGivenNames -underBinder -merge y4
  have hy4 : Keeps F a y4 := by
    unfold y4
    refine State.setSol_keeps (maskSub hF rfl) ?_
    assumption
  try clear_value y4
  refine Keeps.ite ?_ ?_
  · assumption
  · refine State.setSolState_keeps (maskSub hF rfl) ?_
    assumption

theorem State.submit_keeps {F : Nat} {a s : State} {x1 x2 x3} (hF : F ||| 33570816 = F) (h : Keeps F a s) :
    Keeps F a (State.submit s x1 x2 x3) := by
  unfold State.submit
  refine Keeps.ite ?_ ?_
  · extract_lets +onlyGivenNames -underBinder -merge y0
    have hy0 : Keeps F a y0 := by
      unfold y0
      refine State.setB_keeps (maskSub hF rfl) ?_
      refine State.solResult_keeps (maskSub hF rfl) ?_
      assumption
    try clear_value y0
    refine Keeps.ite ?_ ?_
    · refine Keeps.upd_acts (maskSub hF rfl) ?_
      assumption
    · assumption
  · split
    · refine Keeps.ite ?_ ?_
      · refine Keeps.ite ?_ ?_
        · assumption
        · refine State.solResult_keeps (maskSub hF rfl) ?_
          assumption
      · refine Keeps.ite ?_ ?_
        · extract_lets +onlyGivenNames -underBinder -merge y1
          try clear_value y1
          extract_lets +onlyGivenNames -underBinder -merge y2
          have hy2 : Keeps F a y2 := by
            unfold y2
            refine State.setSol_keeps (maskSub hF rfl) ?_
            assumption
          try clear_value y2
          extract_lets +onlyGivenNames -underBinder -merge y3
          have hy3 : Keeps F a y3 := by
            unfold y3
            refine Keeps.ite ?_ ?_
            · refine State.switchOff_keeps (maskSub hF rfl) ?_
              assumption
            · assumption
          try clear_value y3
          refine State.acceptReq_keeps (maskSub hF rfl) ?_
          refine State.solResult_keeps (maskSub hF rfl) ?_
          assumption
        · refine State.solResult_keeps (maskSub hF rfl) ?_
          assumption
    · refine Keeps.ite ?_ ?_
      · refine State.acceptReq_keeps (maskSub hF rfl) ?_
        assumption
      · refine Keeps.ite ?_ ?_
        · refine State.solResult_keeps (maskSub hF rfl) ?_
          assumption
        · refine Keeps.ite ?_ ?_
          · refine State.solResult_keeps (maskSub hF rfl) ?_
            assumption
          · refine State.acceptReq_keeps (maskSub hF rfl) ?_
            assumption

theorem State.doRelease_keeps {F : Nat} {a s : State} {x1} (hF : F ||| 33570816 = F) (h : Keeps F a s) :
    Keeps F a (State.doRelease s x1) := by
  unfold State.doRelease
  extract_lets +onlyGivenNames -underBinder -merge y0
  try clear_value y0
  extract_lets +onlyGivenNames -underBinder -merge y1
  have hy1 : Keeps F a y1 := by
    unfold y1
    refine State.setSol_keeps (maskSub hF rfl) ?_
    assumption
  try clear_value y1
  split
  · refine State.switchOff_keeps (maskSub hF rfl) ?_
    assumption
  · refine State.switchOff_keeps (maskSub hF rfl) ?_
    assumption
  · refine Keeps.ite ?_ ?_
    · refine State.setSolState_keeps (maskSub hF rfl) ?_
      assumption
    · assumption
  · assumption

theorem State.lockSol_keeps {F : Nat} {a s : State} {x1} (hF : F ||| 33570816 = F) (h : Keeps F a s) :
    Keeps F a (State.lockSol s x1) := by
  unfold State.lockSol
  extract_lets +onlyGivenNames -underBinder -merge y0
  try clear_value y0
  extract_lets +onlyGivenNames -underBinder -merge y1
  try clear_value y1
  extract_lets +onlyGivenNames -underBinder -merge y2
  have hy2 : Keeps F a y2 := by
    unfold y2
    refine State.endRequest_keeps (maskSub hF rfl) ?_
    assumption
  try clear_value y2
  extract_lets +onlyGivenNames -underBinder -merge y3
  have hy3 : Keeps F a y3 := by
    unfold y3
    refine Keeps.ite ?_ ?_
    · refine Keeps.ite ?_ ?_
      · refine State.switchOff_keeps (maskSub hF rfl) ?_
        assumption
      · assumption
    · refine Keeps.ite ?_ ?_
      · refine State.solResult_keeps (maskSub hF rfl) ?_
        refine State.setSol_keeps (maskSub hF rfl) ?_
        assumption
      · assumption
  try clear_value y3
  refine Keeps.ite ?_ ?_
  · refine State.switchOff_keeps (maskSub hF rfl) ?_
    assumption
  · assumption

theorem State.solFault_keeps {F : Nat} {a s : State} {x1 x2} (hF : F ||| 50331648 = F) (h : Keeps F a s) :
    Keeps F a (State.solFault s x1 x2) := by
  unfold State.solFault
  extract_lets +onlyGivenNames -underBinder -merge y0
  have hy0 : Keeps F a y0 := by
    unfold y0
    refine State.raise_keeps (maskSub hF rfl) ?_
    refine State.set_keeps (maskSub hF rfl) ?_
    assumption
  try clear_value y0
  refine Keeps.ite ?_ ?_
  · refine State.setSolState_keeps (maskSub hF rfl) ?_
    assumption
  · assumption

theorem State.pullFault_keeps {F : Nat} {a s : State} {x1 x2} (hF : F ||| 50348032 = F) (h : Keeps F a s) :
    Keeps F a (State.pullFault s x1 x2) := by
  unfold State.pullFault
  extract_lets +onlyGivenNames -underBinder -merge y0
  have hy0 : Keeps F a y0 := by
    unfold y0
    refine State.freeSlot_keeps (maskSub hF rfl) ?_
    assumption
  try clear_value y0
  extract_lets +onlyGivenNames -underBinder -merge y1
  try clear_value y1
  extract_lets +onlyGivenNames -underBinder -merge y2
  have hy2 : Keeps F a y2 := by
    unfold y2
    refine State.setSolState_keeps (maskSub hF rfl) ?_
    refine State.setSol_keeps (maskSub hF rfl) ?_
    assumption
  try clear_value y2
  refine State.endRequest_keeps (maskSub hF rfl) ?_
  refine State.solFault_keeps (maskSub hF rfl) ?_
  assumption

theorem State.cutChannel_keeps {F : Nat} {a s : State} {x1} (hF : F ||| 33570816 = F) (h : Keeps F a s) :
    Keeps F a (State.cutChannel s x1) := by
  unfold State.cutChannel
  extract_lets +onlyGivenNames -underBinder -merge y0
  try clear_value y0
  extract_lets +onlyGivenNames -underBinder -merge y1
  have hy1 : Keeps F a y1 := by
    unfold y1
    refine State.freeSlot_keeps (maskSub hF rfl) ?_
    assumption
  try clear_value y1
  extract_lets +onlyGivenNames -underBinder -merge y2
  have hy2 : Keeps F a y2 := by
    unfold y2
    refine Keeps.ite ?_ ?_
    · assumption
    · refine State.setSolState_keeps (maskSub hF rfl) ?_
      assumption
  try clear_value y2
  extract_lets +onlyGivenNames -underBinder -merge y3
  have hy3 : Keeps F a y3 := by
    unfold y3
    split
    · refine State.solEnded_keeps (maskSub hF rfl) ?_
      refine State.setSol_keeps (maskSub hF rfl) ?_
      assumption
    · assumption
  try clear_value y3
  extract_lets +onlyGivenNames -underBinder -merge y4
  try clear_value y4
  extract_lets +onlyGivenNames -underBinder -merge y5
  have hy5 : Keeps F a y5 := by
    unfold y5
    refine Keeps.ite ?_ ?_
    · refine State.setSol_keeps (maskSub hF rfl) ?_
      assumption
    · assumption
  try clear_value y5
  refine State.endRequest_keeps (maskSub hF rfl) ?_
  assumption

theorem State.cutBank_keeps {F : Nat} {a s : State} {x1 x2} (hF : F ||| 50348032 = F) (h : Keeps F a s) :
    Keeps F a (State.cutBank s x1 x2) := by
  unfold State.cutBank
  refine Keeps.ite ?_ ?_
  · assumption
  · extract_lets +onlyGivenNames -underBinder -merge y0
    have hy0 : Keeps F a y0 := by
      unfold y0
      refine State.set_keeps (maskSub hF rfl) ?_
      refine State.set_keeps (maskSub hF rfl) ?_
      assumption
    try clear_value y0
    extract_lets +onlyGivenNames -underBinder -merge y1
    have hy1 : Keeps F a y1 := by
      unfold y1
      refine Keeps.foldl ?_ ?_
      · assumption
      · intro x3 x4 h2
        beta_reduce
        refine State.cutChannel_keeps (maskSub hF rfl) ?_
        assumption
    try clear_value y1
    refine State.raise_keeps (maskSub hF rfl) ?_
    refine State.count_keeps (maskSub hF rfl) ?_
    assumption

theorem State.reclose_keeps {F : Nat} {a s : State} {x1} (hF : F ||| 33570816 = F) (h : Keeps F a s) :
    Keeps F a (State.reclose s x1) := by
  unfold State.reclose
  extract_lets +onlyGivenNames -underBinder -merge y0
  have hy0 : Keeps F a y0 := by
    unfold y0
    refine State.set_keeps (maskSub hF rfl) ?_
    refine State.set_keeps (maskSub hF rfl) ?_
    assumption
  try clear_value y0
  refine Keeps.upd_acts (maskSub hF rfl) ?_
  assumption

theorem State.testOutcome_keeps {F : Nat} {a s : State} {x1 x2} (hF : F ||| 51396608 = F) (h : Keeps F a s) :
    Keeps F a (State.testOutcome s x1 x2) := by
  unfold State.testOutcome
  extract_lets +onlyGivenNames -underBinder -merge y0
  try clear_value y0
  extract_lets +onlyGivenNames -underBinder -merge y1
  have hy1 : Keeps F a y1 := by
    unfold y1
    refine State.setSol_keeps (maskSub hF rfl) ?_
    assumption
  try clear_value y1
  extract_lets +onlyGivenNames -underBinder -merge y2
  try clear_value y2
  split
  · extract_lets +onlyGivenNames -underBinder -merge y3
    have hy3 : Keeps F a y3 := by
      unfold y3
      refine State.set_keeps (maskSub hF rfl) ?_
      assumption
    try clear_value y3
    refine Keeps.ite ?_ ?_
    · refine State.setSolState_keeps (maskSub hF rfl) ?_
      assumption
    · assumption
  · refine Keeps.ite ?_ ?_
    · assumption
    · refine State.solFault_keeps (maskSub hF rfl) ?_
      assumption
  · refine Keeps.ite ?_ ?_
    · refine Keeps.ite ?_ ?_
      · assumption
      · refine State.solFault_keeps (maskSub hF rfl) ?_
        assumption
    · extract_lets +onlyGivenNames -underBinder -merge y4
      have hy4 : Keeps F a y4 := by
        unfold y4
        refine State.raise_keeps (maskSub hF rfl) ?_
        assumption
      try clear_value y4
      extract_lets +onlyGivenNames -underBinder -merge y5
      try clear_value y5
      extract_lets +onlyGivenNames -underBinder -merge y6
      have hy6 : Keeps F a y6 := by
        unfold y6
        refine State.blowFuse_keeps (maskSub hF rfl) ?_
        refine Keeps.upd_acts (maskSub hF rfl) ?_
        assumption
      try clear_value y6
      refine State.raise_keeps (maskSub hF rfl) ?_
      refine State.set_keeps (maskSub hF rfl) ?_
      assumption

theorem State.beginPull_keeps {F : Nat} {a s : State} {x1} (hF : F ||| 50348032 = F) (h : Keeps F a s) :
    Keeps F a (State.beginPull s x1) := by
  unfold State.beginPull
  extract_lets +onlyGivenNames -underBinder -merge y0
  try clear_value y0
  extract_lets +onlyGivenNames -underBinder -merge y1
  try clear_value y1
  extract_lets +onlyGivenNames -underBinder -merge y2
  try clear_value y2
  extract_lets +onlyGivenNames -underBinder -merge y3
  have hy3 : Keeps F a y3 := by
    unfold y3
    refine Keeps.upd_acts (maskSub hF rfl) ?_
    assumption
  try clear_value y3
  refine Keeps.ite ?_ ?_
  · assumption
  · extract_lets +onlyGivenNames -underBinder -merge y4
    try clear_value y4
    extract_lets +onlyGivenNames -underBinder -merge y5
    have hy5 : Keeps F a y5 := by
      unfold y5
      refine Keeps.upd_acts (maskSub hF rfl) ?_
      assumption
    try clear_value y5
    extract_lets +onlyGivenNames -underBinder -merge y6
    have hy6 : Keeps F a y6 := by
      unfold y6
      refine Keeps.foldl ?_ ?_
      · assumption
      · intro x8 x9 h7
        beta_reduce
        refine State.set_keeps (maskSub hF rfl) ?_
        assumption
    try clear_value y6
    refine State.raise_keeps (maskSub hF rfl) ?_
    refine State.count_keeps (maskSub hF rfl) ?_
    refine State.set_keeps (maskSub hF rfl) ?_
    assumption

theorem State.endPull_keeps {F : Nat} {a s : State} (hF : F ||| 33570816 = F) (h : Keeps F a s) :
    Keeps F a (State.endPull s) := by
  unfold State.endPull
  extract_lets +onlyGivenNames -underBinder -merge y0
  try clear_value y0
  extract_lets +onlyGivenNames -underBinder -merge y1
  have hy1 : Keeps F a y1 := by
    unfold y1
    refine Keeps.upd_acts (maskSub hF rfl) ?_
    assumption
  try clear_value y1
  extract_lets +onlyGivenNames -underBinder -merge y2
  have hy2 : Keeps F a y2 := by
    unfold y2
    refine Keeps.foldl ?_ ?_
    · assumption
    · intro x4 x5 h3
      beta_reduce
      refine Keeps.ite ?_ ?_
      · extract_lets +onlyGivenNames -underBinder -merge y6
        try clear_value y6
        extract_lets +onlyGivenNames -underBinder -merge y7
        try clear_value y7
        extract_lets +onlyGivenNames -underBinder -merge y8
        have hy8 : Keeps F a y8 := by
          unfold y8
          refine Keeps.upd_acts (maskSub hF rfl) ?_
          assumption
        try clear_value y8
        refine State.set_keeps (maskSub hF rfl) ?_
        assumption
      · assumption
  try clear_value y2
  refine State.set_keeps (maskSub hF rfl) ?_
  refine State.set_keeps (maskSub hF rfl) ?_
  assumption

theorem State.governTick_keeps {F : Nat} {a s : State} (hF : F ||| 33570816 = F) (h : Keeps F a s) :
    Keeps F a (State.governTick s) := by
  unfold State.governTick
  extract_lets +onlyGivenNames -underBinder -merge y0
  extract_lets +onlyGivenNames -underBinder -merge y1
  extract_lets +onlyGivenNames -underBinder -merge y2
  have hy2 : Keeps F a y2 := by
    unfold y2
    refine State.wr_keeps (maskSub hF rfl) ?_
    assumption
  extract_lets +onlyGivenNames -underBinder -merge y3
  extract_lets +onlyGivenNames -underBinder -merge y4
  have hy4 : Keeps F a y4 := by
    unfold y4
    refine Keeps.ite ?_ ?_
    · refine State.set_keeps (maskSub hF rfl) ?_
      assumption
    · assumption
  extract_lets +onlyGivenNames -underBinder -merge y5
  extract_lets +onlyGivenNames -underBinder -merge y6
  extract_lets +onlyGivenNames -underBinder -merge y7
  have hy7 : Keeps F a y7 := by
    unfold y7
    refine Keeps.upd_acts (maskSub hF rfl) ?_
    assumption
  refine Keeps.ite ?_ ?_
  · assumption
  · refine Keeps.ite ?_ ?_
    · refine State.endPull_keeps (maskSub hF rfl) ?_
      assumption
    · refine Keeps.ite ?_ ?_
      · refine Keeps.upd_acts (maskSub hF rfl) ?_
        assumption
      · assumption

theorem State.yieldSlot_keeps {F : Nat} {a s : State} {x1} (hF : F ||| 33570816 = F) (h : Keeps F a s) :
    Keeps F a (State.yieldSlot s x1) := by
  unfold State.yieldSlot
  split
  · assumption
  · refine Keeps.ite ?_ ?_
    · extract_lets +onlyGivenNames -underBinder -merge y0
      try clear_value y0
      extract_lets +onlyGivenNames -underBinder -merge y1
      have hy1 : Keeps F a y1 := by
        unfold y1
        refine State.setSol_keeps (maskSub hF rfl) ?_
        assumption
      try clear_value y1
      refine State.switchOff_keeps (maskSub hF rfl) ?_
      assumption
    · assumption

theorem State.startPull_keeps {F : Nat} {a s : State} {x1 x2} (hF : F ||| 33570816 = F) (h : Keeps F a s) :
    Keeps F a (State.startPull s x1 x2) := by
  unfold State.startPull
  refine Keeps.ite ?_ ?_
  · refine State.setSolState_keeps (maskSub hF rfl) ?_
    assumption
  · extract_lets +onlyGivenNames -underBinder -merge y0
    try clear_value y0
    extract_lets +onlyGivenNames -underBinder -merge y1
    have hy1 : Keeps F a y1 := by
      unfold y1
      refine State.setSol_keeps (maskSub hF rfl) ?_
      assumption
    try clear_value y1
    refine State.setSolState_keeps (maskSub hF rfl) ?_
    refine State.set_keeps (maskSub hF rfl) ?_
    refine State.set_keeps (maskSub hF rfl) ?_
    assumption

theorem State.admitReq_keeps {F : Nat} {a : State} {x0 x1} (hF : F ||| 50348032 = F) (h : Keeps F a x0.1) :
    Keeps F a (State.admitReq x0 x1).1 := by
  unfold State.admitReq
  extract_lets +onlyGivenNames -underBinder -merge y0
  have hy0 : Keeps F a y0 := by
    unfold y0
    assumption
  try clear_value y0
  extract_lets +onlyGivenNames -underBinder -merge y1
  try clear_value y1
  extract_lets +onlyGivenNames -underBinder -merge y2
  try clear_value y2
  extract_lets +onlyGivenNames -underBinder -merge y3
  try clear_value y3
  extract_lets +onlyGivenNames -underBinder -merge y4
  try clear_value y4
  split
  · assumption
  · split
    · refine Keeps.p1 ?_
      refine State.startPull_keeps (maskSub hF rfl) ?_
      assumption
    · split
      · refine Keeps.p1 ?_
        refine State.beginPull_keeps (maskSub hF rfl) ?_
        refine State.startPull_keeps (maskSub hF rfl) ?_
        assumption
      · assumption

theorem State.arbitrateSol_keeps {F : Nat} {a s : State} (hF : F ||| 50348032 = F) (h : Keeps F a s) :
    Keeps F a (State.arbitrateSol s) := by
  unfold State.arbitrateSol
  extract_lets +onlyGivenNames -underBinder -merge y0
  have hy0 : Keeps F a y0 := by
    unfold y0
    refine Keeps.foldl ?_ ?_
    · assumption
    · intro x2 x3 h1
      beta_reduce
      refine State.yieldSlot_keeps (maskSub hF rfl) ?_
      assumption
  try clear_value y0
  extract_lets +onlyGivenNames -underBinder -merge y4
  try clear_value y4
  extract_lets +onlyGivenNames -underBinder -merge y5
  try clear_value y5
  extract_lets +onlyGivenNames -underBinder -merge y6
  have hy6 : Keeps F a y6 := by
    unfold y6
    refine Keeps.foldlOn Prod.fst ?_ ?_
    · refine Keeps.p1 ?_
      assumption
    · intro x8 x9 h7
      beta_reduce
      refine State.admitReq_keeps (maskSub hF rfl) ?_
      assumption
  try clear_value y6
  refine Keeps.foldl ?_ ?_
  · assumption
  · intro x11 x12 h10
    beta_reduce
    split
    · refine Keeps.ite ?_ ?_
      · assumption
      · refine State.count_keeps (maskSub hF rfl) ?_
        refine State.setSol_keeps (maskSub hF rfl) ?_
        assumption
    · assumption

theorem State.solTick_keeps {F : Nat} {a s : State} (hF : F ||| 50348032 = F) (h : Keeps F a s) :
    Keeps F a (State.solTick s) := by
  unfold State.solTick
  extract_lets +onlyGivenNames -underBinder -merge y0
  try clear_value y0
  extract_lets +onlyGivenNames -underBinder -merge y1
  have hy1 : Keeps F a y1 := by
    unfold y1
    refine Keeps.upd_acts (maskSub hF rfl) ?_
    assumption
  try clear_value y1
  extract_lets +onlyGivenNames -underBinder -merge y2
  have hy2 : Keeps F a y2 := by
    unfold y2
    refine Keeps.foldl ?_ ?_
    · assumption
    · intro x4 x5 h3
      beta_reduce
      refine State.doRelease_keeps (maskSub hF rfl) ?_
      assumption
  try clear_value y2
  refine Keeps.ite ?_ ?_
  · refine State.arbitrateSol_keeps (maskSub hF rfl) ?_
    assumption
  · assumption

theorem State.dipped_keeps {F : Nat} {a s : State} {x1} (hF : F ||| 33570816 = F) (h : Keeps F a s) :
    Keeps F a (State.dipped s x1) := by
  unfold State.dipped
  split
  · refine Keeps.ite ?_ ?_
    · refine State.solResult_keeps (maskSub hF rfl) ?_
      refine State.set_keeps (maskSub hF rfl) ?_
      refine State.setSol_keeps (maskSub hF rfl) ?_
      assumption
    · assumption
  · assumption

theorem State.endPullIn_keeps {F : Nat} {a s : State} {x1} (hF : F ||| 33570816 = F) (h : Keeps F a s) :
    Keeps F a (State.endPullIn s x1) := by
  unfold State.endPullIn
  extract_lets +onlyGivenNames -underBinder -merge y0
  try clear_value y0
  extract_lets +onlyGivenNames -underBinder -merge y1
  try clear_value y1
  extract_lets +onlyGivenNames -underBinder -merge y2
  have hy2 : Keeps F a y2 := by
    unfold y2
    refine Keeps.ite ?_ ?_
    · refine State.count_keeps (maskSub hF rfl) ?_
      assumption
    · assumption
  try clear_value y2
  refine Keeps.ite ?_ ?_
  · extract_lets +onlyGivenNames -underBinder -merge y3
    have hy3 : Keeps F a y3 := by
      unfold y3
      refine State.freeSlot_keeps (maskSub hF rfl) ?_
      assumption
    try clear_value y3
    extract_lets +onlyGivenNames -underBinder -merge y4
    try clear_value y4
    extract_lets +onlyGivenNames -underBinder -merge y5
    have hy5 : Keeps F a y5 := by
      unfold y5
      refine State.setSolState_keeps (maskSub hF rfl) ?_
      refine State.setSol_keeps (maskSub hF rfl) ?_
      assumption
    try clear_value y5
    refine State.endRequest_keeps (maskSub hF rfl) ?_
    assumption
  · extract_lets +onlyGivenNames -underBinder -merge y6
    try clear_value y6
    extract_lets +onlyGivenNames -underBinder -merge y7
    have hy7 : Keeps F a y7 := by
      unfold y7
      refine State.setSol_keeps (maskSub hF rfl) ?_
      assumption
    try clear_value y7
    extract_lets +onlyGivenNames -underBinder -merge y8
    have hy8 : Keeps F a y8 := by
      unfold y8
      refine Keeps.ite ?_ ?_
      · assumption
      · refine State.solResult_keeps (maskSub hF rfl) ?_
        assumption
    try clear_value y8
    refine State.switchOff_keeps (maskSub hF rfl) ?_
    assumption

theorem State.decayResult_keeps {F : Nat} {a s : State} {x1 x2 x3} (hF : F ||| 50348032 = F) (h : Keeps F a s) :
    Keeps F a (State.decayResult s x1 x2 x3) := by
  unfold State.decayResult
  refine Keeps.ite ?_ ?_
  · extract_lets +onlyGivenNames -underBinder -merge y0
    have hy0 : Keeps F a y0 := by
      unfold y0
      refine Keeps.ite ?_ ?_
      · refine State.set_keeps (maskSub hF rfl) ?_
        assumption
      · assumption
    try clear_value y0
    refine State.solEnded_keeps (maskSub hF rfl) ?_
    assumption
  · refine Keeps.ite ?_ ?_
    · refine State.solEnded_keeps (maskSub hF rfl) ?_
      assumption
    · refine Keeps.ite ?_ ?_
      · extract_lets +onlyGivenNames -underBinder -merge y1
        try clear_value y1
        refine State.setSol_keeps (maskSub hF rfl) ?_
        assumption
      · refine Keeps.ite ?_ ?_
        · refine State.solEnded_keeps (maskSub hF rfl) ?_
          assumption
        · refine State.solEnded_keeps (maskSub hF rfl) ?_
          refine State.raise_keeps (maskSub hF rfl) ?_
          refine State.solFault_keeps (maskSub hF rfl) ?_
          assumption

theorem State.endDecay_keeps {F : Nat} {a s : State} {x1} (hF : F ||| 50348032 = F) (h : Keeps F a s) :
    Keeps F a (State.endDecay s x1) := by
  unfold State.endDecay
  extract_lets +onlyGivenNames -underBinder -merge y0
  try clear_value y0
  extract_lets +onlyGivenNames -underBinder -merge y1
  have hy1 : Keeps F a y1 := by
    unfold y1
    refine State.freeSlot_keeps (maskSub hF rfl) ?_
    assumption
  try clear_value y1
  extract_lets +onlyGivenNames -underBinder -merge y2
  try clear_value y2
  extract_lets +onlyGivenNames -underBinder -merge y3
  have hy3 : Keeps F a y3 := by
    unfold y3
    refine State.setSol_keeps (maskSub hF rfl) ?_
    assumption
  try clear_value y3
  extract_lets +onlyGivenNames -underBinder -merge y4
  have hy4 : Keeps F a y4 := by
    unfold y4
    split
    · refine State.decayResult_keeps (maskSub hF rfl) ?_
      assumption
    · assumption
  try clear_value y4
  refine State.setSolState_keeps (maskSub hF rfl) ?_
  assumption

theorem State.rejoin_keeps {F : Nat} {a s : State} {x1} (hF : F ||| 16384 = F) (h : Keeps F a s) :
    Keeps F a (State.rejoin s x1) := by
  unfold State.rejoin
  split
  · refine Keeps.ite ?_ ?_
    · refine State.setSol_keeps (maskSub hF rfl) ?_
      assumption
    · assumption
  · assumption

theorem State.deferTimeout_keeps {F : Nat} {a s : State} {x1} (hF : F ||| 50348032 = F) (h : Keeps F a s) :
    Keeps F a (State.deferTimeout s x1) := by
  unfold State.deferTimeout
  split
  · refine Keeps.ite ?_ ?_
    · refine State.raise_keeps (maskSub hF rfl) ?_
      refine State.count_keeps (maskSub hF rfl) ?_
      refine State.endRequest_keeps (maskSub hF rfl) ?_
      assumption
    · assumption
  · assumption

/-! ### Fans -/

theorem State.setFan_keeps {F : Nat} {a s : State} {x1 x2} (hF : F ||| 16384 = F) (h : Keeps F a s) :
    Keeps F a (State.setFan s x1 x2) := by
  unfold State.setFan
  refine Keeps.upd_acts (maskSub hF rfl) ?_
  assumption

theorem State.setFanState_keeps {F : Nat} {a s : State} {x1 x2 x3} (hF : F ||| 33554432 = F) (h : Keeps F a s) :
    Keeps F a (State.setFanState s x1 x2 x3) := by
  unfold State.setFanState
  refine State.set_keeps (maskSub hF rfl) ?_
  refine State.set_keeps (maskSub hF rfl) ?_
  assumption

theorem State.demandTick_keeps {F : Nat} {a s : State} {x1} (hF : F ||| 33554432 = F) (h : Keeps F a s) :
    Keeps F a (State.demandTick s x1) := by
  unfold State.demandTick
  refine Keeps.ite ?_ ?_
  · extract_lets +onlyGivenNames -underBinder -merge y0
    have hy0 : Keeps F a y0 := by
      unfold y0
      split
      · refine State.set_keeps (maskSub hF rfl) ?_
        assumption
      · assumption
    try clear_value y0
    refine State.setB_keeps (maskSub hF rfl) ?_
    refine State.set_keeps (maskSub hF rfl) ?_
    assumption
  · refine Keeps.ite ?_ ?_
    · refine State.setB_keeps (maskSub hF rfl) ?_
      refine State.set_keeps (maskSub hF rfl) ?_
      assumption
    · assumption

theorem State.writeDemand_keeps {F : Nat} {a s : State} {x1 x2} (hF : F ||| 33570816 = F) (h : Keeps F a s) :
    Keeps F a (State.writeDemand s x1 x2) := by
  unfold State.writeDemand
  refine Keeps.ite ?_ ?_
  · assumption
  · extract_lets +onlyGivenNames -underBinder -merge y0
    have hy0 : Keeps F a y0 := by
      unfold y0
      refine State.set_keeps (maskSub hF rfl) ?_
      refine State.set_keeps (maskSub hF rfl) ?_
      assumption
    try clear_value y0
    refine Keeps.upd_acts (maskSub hF rfl) ?_
    assumption

theorem State.kick_keeps {F : Nat} {a s : State} {x1 x2} (hF : F ||| 33570816 = F) (h : Keeps F a s) :
    Keeps F a (State.kick s x1 x2) := by
  unfold State.kick
  extract_lets +onlyGivenNames -underBinder -merge y0
  try clear_value y0
  extract_lets +onlyGivenNames -underBinder -merge y1
  have hy1 : Keeps F a y1 := by
    unfold y1
    refine State.setFan_keeps (maskSub hF rfl) ?_
    assumption
  try clear_value y1
  refine State.set_keeps (maskSub hF rfl) ?_
  refine State.setFanState_keeps (maskSub hF rfl) ?_
  assumption

theorem State.fanOff_keeps {F : Nat} {a s : State} {x1 x2} (hF : F ||| 33570816 = F) (h : Keeps F a s) :
    Keeps F a (State.fanOff s x1 x2) := by
  unfold State.fanOff
  refine State.setFanState_keeps (maskSub hF rfl) ?_
  refine State.setFan_keeps (maskSub hF rfl) ?_
  assumption

theorem State.lockRotor_keeps {F : Nat} {a s : State} {x1} (hF : F ||| 50348032 = F) (h : Keeps F a s) :
    Keeps F a (State.lockRotor s x1) := by
  unfold State.lockRotor
  refine State.raise_keeps (maskSub hF rfl) ?_
  refine State.fanOff_keeps (maskSub hF rfl) ?_
  assumption

theorem State.fanRan_keeps {F : Nat} {a s : State} {x1} (hF : F ||| 33570816 = F) (h : Keeps F a s) :
    Keeps F a (State.fanRan s x1) := by
  unfold State.fanRan
  extract_lets +onlyGivenNames -underBinder -merge y0
  try clear_value y0
  refine Keeps.ite ?_ ?_
  · refine State.count_keeps (maskSub hF rfl) ?_
    refine State.setFan_keeps (maskSub hF rfl) ?_
    assumption
  · refine State.setFan_keeps (maskSub hF rfl) ?_
    assumption

theorem State.rekick_keeps {F : Nat} {a s : State} {x1} (hF : F ||| 50348032 = F) (h : Keeps F a s) :
    Keeps F a (State.rekick s x1) := by
  unfold State.rekick
  extract_lets +onlyGivenNames -underBinder -merge y0
  try clear_value y0
  refine Keeps.ite ?_ ?_
  · refine State.lockRotor_keeps (maskSub hF rfl) ?_
    assumption
  · refine Keeps.ite ?_ ?_
    · refine State.kick_keeps (maskSub hF rfl) ?_
      assumption
    · assumption

theorem State.fanTick_keeps {F : Nat} {a s : State} {x1} (hF : F ||| 50348032 = F) (h : Keeps F a s) :
    Keeps F a (State.fanTick s x1) := by
  unfold State.fanTick
  extract_lets +onlyGivenNames -underBinder -merge y0
  try clear_value y0
  extract_lets +onlyGivenNames -underBinder -merge y1
  have hy1 : Keeps F a y1 := by
    unfold y1
    refine Keeps.ite ?_ ?_
    · refine State.raise_keeps (maskSub hF rfl) ?_
      assumption
    · assumption
  try clear_value y1
  extract_lets +onlyGivenNames -underBinder -merge y2
  have hy2 : Keeps F a y2 := by
    unfold y2
    refine State.setB_keeps (maskSub hF rfl) ?_
    refine State.setB_keeps (maskSub hF rfl) ?_
    refine State.setB_keeps (maskSub hF rfl) ?_
    assumption
  try clear_value y2
  extract_lets +onlyGivenNames -underBinder -merge y3
  try clear_value y3
  split
  · refine Keeps.ite ?_ ?_
    · refine State.kick_keeps (maskSub hF rfl) ?_
      assumption
    · assumption
  · refine Keeps.ite ?_ ?_
    · refine State.fanOff_keeps (maskSub hF rfl) ?_
      assumption
    · assumption
  · refine Keeps.ite ?_ ?_
    · refine State.fanOff_keeps (maskSub hF rfl) ?_
      assumption
    · refine State.fanRan_keeps (maskSub hF rfl) ?_
      refine State.set_keeps (maskSub hF rfl) ?_
      assumption
  · refine Keeps.ite ?_ ?_
    · refine State.fanOff_keeps (maskSub hF rfl) ?_
      assumption
    · refine State.rekick_keeps (maskSub hF rfl) ?_
      assumption
  · refine State.fanRan_keeps (maskSub hF rfl) ?_
    assumption
  · assumption

theorem State.groupTick_keeps {F : Nat} {a s : State} (hF : F ||| 50348032 = F) (h : Keeps F a s) :
    Keeps F a (State.groupTick s) := by
  unfold State.groupTick
  extract_lets +onlyGivenNames -underBinder -merge y0
  try clear_value y0
  extract_lets +onlyGivenNames -underBinder -merge y1
  have hy1 : Keeps F a y1 := by
    unfold y1
    refine Keeps.foldl ?_ ?_
    · assumption
    · intro x3 x4 h2
      beta_reduce
      refine State.raise_keeps (maskSub hF rfl) ?_
      assumption
  try clear_value y1
  refine Keeps.upd_acts (maskSub hF rfl) ?_
  assumption

theorem State.fansTick_keeps {F : Nat} {a s : State} (hF : F ||| 50348032 = F) (h : Keeps F a s) :
    Keeps F a (State.fansTick s) := by
  unfold State.fansTick
  extract_lets +onlyGivenNames -underBinder -merge y0
  try clear_value y0
  extract_lets +onlyGivenNames -underBinder -merge y1
  have hy1 : Keeps F a y1 := by
    unfold y1
    refine Keeps.foldl ?_ ?_
    · assumption
    · intro x3 x4 h2
      beta_reduce
      refine Keeps.ite ?_ ?_
      · refine State.demandTick_keeps (maskSub hF rfl) ?_
        assumption
      · assumption
  try clear_value y1
  refine Keeps.foldl ?_ ?_
  · refine State.groupTick_keeps (maskSub hF rfl) ?_
    assumption
  · intro x6 x7 h5
    beta_reduce
    refine State.fanTick_keeps (maskSub hF rfl) ?_
    assumption

theorem State.latchTach_keeps {F : Nat} {a s : State} {x1 x2} (hF : F ||| 33570816 = F) (h : Keeps F a s) :
    Keeps F a (State.latchTach s x1 x2) := by
  unfold State.latchTach
  extract_lets +onlyGivenNames -underBinder -merge y0
  try clear_value y0
  extract_lets +onlyGivenNames -underBinder -merge y1
  try clear_value y1
  extract_lets +onlyGivenNames -underBinder -merge y2
  try clear_value y2
  extract_lets +onlyGivenNames -underBinder -merge y3
  have hy3 : Keeps F a y3 := by
    unfold y3
    refine State.setFan_keeps (maskSub hF rfl) ?_
    assumption
  try clear_value y3
  refine State.set_keeps (maskSub hF rfl) ?_
  assumption

theorem State.latchFan_keeps {F : Nat} {a s : State} {x1 x2} (hF : F ||| 33570816 = F) (h : Keeps F a s) :
    Keeps F a (State.latchFan s x1 x2) := by
  unfold State.latchFan
  extract_lets +onlyGivenNames -underBinder -merge y0
  try clear_value y0
  extract_lets +onlyGivenNames -underBinder -merge y1
  have hy1 : Keeps F a y1 := by
    unfold y1
    refine State.setFan_keeps (maskSub hF rfl) ?_
    assumption
  try clear_value y1
  refine State.set_keeps (maskSub hF rfl) ?_
  assumption

theorem execFanKickTimeout_keeps {F : Nat} {a s : State} {x0} (hF : F ||| 50348032 = F) (h : Keeps F a s) :
    ∃ t, execFanKickTimeout x0 s = .next t ∧ Keeps F a t := by
  refine ⟨_, rfl, ?_⟩
  extract_lets +onlyGivenNames -underBinder -merge y0
  try clear_value y0
  extract_lets +onlyGivenNames -underBinder -merge y1
  try clear_value y1
  refine Keeps.ite ?_ ?_
  · assumption
  · split
    · refine Keeps.ite ?_ ?_
      · refine Keeps.ite ?_ ?_
        · refine State.lockRotor_keeps (maskSub hF rfl) ?_
          assumption
        · refine State.set_keeps (maskSub hF rfl) ?_
          refine State.setFan_keeps (maskSub hF rfl) ?_
          assumption
      · assumption
    · refine Keeps.ite ?_ ?_
      · refine State.kick_keeps (maskSub hF rfl) ?_
        assumption
      · assumption
    · assumption

theorem execFanStarted_keeps {F : Nat} {a s : State} {x0} (hF : F ||| 33570816 = F) (h : Keeps F a s) :
    ∃ t, execFanStarted x0 s = .next t ∧ Keeps F a t := by
  refine ⟨_, rfl, ?_⟩
  extract_lets +onlyGivenNames -underBinder -merge y0
  try clear_value y0
  refine Keeps.ite ?_ ?_
  · refine State.count_keeps (maskSub hF rfl) ?_
    refine State.setFanState_keeps (maskSub hF rfl) ?_
    refine State.setFan_keeps (maskSub hF rfl) ?_
    assumption
  · assumption

theorem execFanTachTimeout_keeps {F : Nat} {a s : State} {x0} (hF : F ||| 50348032 = F) (h : Keeps F a s) :
    ∃ t, execFanTachTimeout x0 s = .next t ∧ Keeps F a t := by
  refine ⟨_, rfl, ?_⟩
  refine Keeps.ite ?_ ?_
  · refine Keeps.ite ?_ ?_
    · refine State.raise_keeps (maskSub hF rfl) ?_
      refine State.set_keeps (maskSub hF rfl) ?_
      refine State.setFan_keeps (maskSub hF rfl) ?_
      assumption
    · refine State.fanOff_keeps (maskSub hF rfl) ?_
      assumption
  · assumption

theorem execFanOvercurrent_keeps {F : Nat} {a s : State} {x0} (hF : F ||| 50348032 = F) (h : Keeps F a s) :
    ∃ t, execFanOvercurrent x0 s = .next t ∧ Keeps F a t := by
  refine ⟨_, rfl, ?_⟩
  refine Keeps.ite ?_ ?_
  · extract_lets +onlyGivenNames -underBinder -merge y0
    have hy0 : Keeps F a y0 := by
      unfold y0
      refine State.fanOff_keeps (maskSub hF rfl) ?_
      assumption
    try clear_value y0
    refine State.raise_keeps (maskSub hF rfl) ?_
    refine State.setFan_keeps (maskSub hF rfl) ?_
    assumption
  · assumption

theorem execFanOcRetry_keeps {F : Nat} {a s : State} {x0} (hF : F ||| 33570816 = F) (h : Keeps F a s) :
    ∃ t, execFanOcRetry x0 s = .next t ∧ Keeps F a t := by
  refine ⟨_, rfl, ?_⟩
  extract_lets +onlyGivenNames -underBinder -merge y0
  try clear_value y0
  refine Keeps.ite ?_ ?_
  · refine State.kick_keeps (maskSub hF rfl) ?_
    assumption
  · assumption

theorem execFanTachRecovered_keeps {F : Nat} {a s : State} {x0} (hF : F ||| 33554432 = F) (h : Keeps F a s) :
    ∃ t, execFanTachRecovered x0 s = .next t ∧ Keeps F a t := by
  refine ⟨_, rfl, ?_⟩
  refine Keeps.ite ?_ ?_
  · refine State.setFanState_keeps (maskSub hF rfl) ?_
    assumption
  · assumption

theorem State.fanRetry_keeps {F : Nat} {a s : State} {x1} (hF : F ||| 33570816 = F) (h : Keeps F a s) :
    Keeps F a (State.fanRetry s x1) := by
  unfold State.fanRetry
  refine Keeps.ite ?_ ?_
  · extract_lets +onlyGivenNames -underBinder -merge y0
    have hy0 : Keeps F a y0 := by
      unfold y0
      refine State.set_keeps (maskSub hF rfl) ?_
      refine State.fanOff_keeps (maskSub hF rfl) ?_
      assumption
    try clear_value y0
    refine Keeps.ite ?_ ?_
    · refine State.kick_keeps (maskSub hF rfl) ?_
      assumption
    · assumption
  · assumption

theorem execFanRetry_keeps {F : Nat} {a s : State} {x0 x1} (hF : F ||| 58736648 = F) (h : Keeps F a s) :
    ∃ t, execFanRetry x0 x1 s = .next t ∧ Keeps F a t := by
  refine ⟨_, rfl, ?_⟩
  refine State.writeRow_keeps (maskSub hF rfl) ?_ ?_
  · assumption
  · intro x1 h0
    beta_reduce
    refine State.fanRetry_keeps (maskSub hF rfl) ?_
    assumption

theorem execFanDemandSilent_keeps {F : Nat} {a s : State} {x0} (hF : F ||| 33554432 = F) (h : Keeps F a s) :
    ∃ t, execFanDemandSilent x0 s = .next t ∧ Keeps F a t := by
  refine ⟨_, rfl, ?_⟩
  refine Keeps.ite ?_ ?_
  · refine State.set_keeps (maskSub hF rfl) ?_
    assumption
  · assumption

theorem execActuatorOverbudget_keeps {F : Nat} {a s : State} (hF : F ||| 50348032 = F) (h : Keeps F a s) :
    ∃ t, execActuatorOverbudget s = .next t ∧ Keeps F a t := by
  refine ⟨_, rfl, ?_⟩
  refine Keeps.ite ?_ ?_
  · extract_lets +onlyGivenNames -underBinder -merge y0
    have hy0 : Keeps F a y0 := by
      unfold y0
      refine State.raise_keeps (maskSub hF rfl) ?_
      refine State.set_keeps (maskSub hF rfl) ?_
      assumption
    try clear_value y0
    refine State.beginPull_keeps (maskSub hF rfl) ?_
    assumption
  · assumption

theorem execWearCounterSave_keeps {F : Nat} {a s : State} (hF : F ||| 16384 = F) (h : Keeps F a s) :
    ∃ t, execWearCounterSave s = .next t ∧ Keeps F a t := by
  refine ⟨_, rfl, ?_⟩
  refine Keeps.ite ?_ ?_
  · refine Keeps.upd_acts (maskSub hF rfl) ?_
    assumption
  · assumption

theorem State.lockPump_keeps {F : Nat} {a s : State} {x1 x2} (hF : F ||| 50348032 = F) (h : Keeps F a s) :
    Keeps F a (State.lockPump s x1 x2) := by
  unfold State.lockPump
  extract_lets +onlyGivenNames -underBinder -merge y0
  try clear_value y0
  extract_lets +onlyGivenNames -underBinder -merge y1
  have hy1 : Keeps F a y1 := by
    unfold y1
    refine State.setB_keeps (maskSub hF rfl) ?_
    assumption
  try clear_value y1
  refine Keeps.ite ?_ ?_
  · extract_lets +onlyGivenNames -underBinder -merge y2
    try clear_value y2
    extract_lets +onlyGivenNames -underBinder -merge y3
    have hy3 : Keeps F a y3 := by
      unfold y3
      refine Keeps.ite ?_ ?_
      · assumption
      · refine State.stopPump_keeps (maskSub hF rfl) ?_
        assumption
    try clear_value y3
    refine Keeps.ite ?_ ?_
    · refine State.substitutePump_keeps (maskSub hF rfl) ?_
      assumption
    · assumption
  · assumption

theorem State.writeLock_keeps {F : Nat} {a s : State} {x1 x2} (hF : F ||| 50348032 = F) (h : Keeps F a s) :
    Keeps F a (State.writeLock s x1 x2) := by
  unfold State.writeLock
  extract_lets +onlyGivenNames -underBinder -merge y0
  have hy0 : Keeps F a y0 := by
    unfold y0
    refine State.plainWrite_keeps (maskSub hF rfl) ?_
    assumption
  try clear_value y0
  split
  · refine State.lockPump_keeps (maskSub hF rfl) ?_
    assumption
  · refine State.setB_keeps (maskSub hF rfl) ?_
    assumption
  · extract_lets +onlyGivenNames -underBinder -merge y1
    try clear_value y1
    extract_lets +onlyGivenNames -underBinder -merge y2
    have hy2 : Keeps F a y2 := by
      unfold y2
      refine State.setB_keeps (maskSub hF rfl) ?_
      assumption
    try clear_value y2
    refine Keeps.ite ?_ ?_
    · refine State.lockSol_keeps (maskSub hF rfl) ?_
      assumption
    · assumption
  · refine State.setB_keeps (maskSub hF rfl) ?_
    assumption

theorem execLockoutWrite_keeps {F : Nat} {a s : State} {x0 x1 x2} (hF : F ||| 58736648 = F) (h : Keeps F a s) :
    ∃ t, execLockoutWrite x0 x1 x2 s = .next t ∧ Keeps F a t := by
  refine ⟨_, rfl, ?_⟩
  refine State.writeRow_keeps (maskSub hF rfl) ?_ ?_
  · assumption
  · intro x1 h0
    beta_reduce
    refine State.writeLock_keeps (maskSub hF rfl) ?_
    assumption

theorem execSolPulse_keeps {F : Nat} {a s : State} {x0 x1} (hF : F ||| 58736648 = F) (h : Keeps F a s) :
    ∃ t, execSolPulse x0 x1 s = .next t ∧ Keeps F a t := by
  refine ⟨_, rfl, ?_⟩
  refine State.writeRow_keeps (maskSub hF rfl) ?_ ?_
  · assumption
  · intro x1 h0
    beta_reduce
    refine State.submit_keeps (maskSub hF rfl) ?_
    assumption

theorem execSolEnergize_keeps {F : Nat} {a s : State} {x0 x1} (hF : F ||| 58736648 = F) (h : Keeps F a s) :
    ∃ t, execSolEnergize x0 x1 s = .next t ∧ Keeps F a t := by
  refine ⟨_, rfl, ?_⟩
  refine State.writeRow_keeps (maskSub hF rfl) ?_ ?_
  · assumption
  · intro x1 h0
    beta_reduce
    refine State.submit_keeps (maskSub hF rfl) ?_
    assumption

theorem State.askRelease_keeps {F : Nat} {a s : State} {x1} (hF : F ||| 16384 = F) (h : Keeps F a s) :
    Keeps F a (State.askRelease s x1) := by
  unfold State.askRelease
  refine State.setSol_keeps (maskSub hF rfl) ?_
  assumption

theorem execSolRelease_keeps {F : Nat} {a s : State} {x0 x1} (hF : F ||| 58736648 = F) (h : Keeps F a s) :
    ∃ t, execSolRelease x0 x1 s = .next t ∧ Keeps F a t := by
  refine ⟨_, rfl, ?_⟩
  refine State.writeRow_keeps (maskSub hF rfl) ?_ ?_
  · assumption
  · intro x1 h0
    beta_reduce
    refine State.askRelease_keeps (maskSub hF rfl) ?_
    assumption

theorem execSolTest_keeps {F : Nat} {a s : State} {x0 x1} (hF : F ||| 58736648 = F) (h : Keeps F a s) :
    ∃ t, execSolTest x0 x1 s = .next t ∧ Keeps F a t := by
  refine ⟨_, rfl, ?_⟩
  refine State.writeRow_keeps (maskSub hF rfl) ?_ ?_
  · assumption
  · intro x1 h0
    beta_reduce
    refine State.submit_keeps (maskSub hF rfl) ?_
    assumption

theorem execSolenoidArmatureDip_keeps {F : Nat} {a s : State} {x0} (hF : F ||| 33570816 = F) (h : Keeps F a s) :
    ∃ t, execSolenoidArmatureDip x0 s = .next t ∧ Keeps F a t := by
  refine ⟨_, rfl, ?_⟩
  refine Keeps.ite ?_ ?_
  · refine State.dipped_keeps (maskSub hF rfl) ?_
    assumption
  · assumption

theorem execSolenoidPullinEnd_keeps {F : Nat} {a s : State} {x0} (hF : F ||| 33570816 = F) (h : Keeps F a s) :
    ∃ t, execSolenoidPullinEnd x0 s = .next t ∧ Keeps F a t := by
  refine ⟨_, rfl, ?_⟩
  split
  · refine Keeps.ite ?_ ?_
    · refine State.endPullIn_keeps (maskSub hF rfl) ?_
      assumption
    · assumption
  · assumption

theorem execSolenoidRetry_keeps {F : Nat} {a s : State} {x0} (hF : F ||| 16384 = F) (h : Keeps F a s) :
    ∃ t, execSolenoidRetry x0 s = .next t ∧ Keeps F a t := by
  refine ⟨_, rfl, ?_⟩
  refine State.rejoin_keeps (maskSub hF rfl) ?_
  assumption

theorem execSolenoidSelfTest_keeps {F : Nat} {a s : State} {x0 x1} (hF : F ||| 51396608 = F) (h : Keeps F a s) :
    ∃ t, execSolenoidSelfTest x0 x1 s = .next t ∧ Keeps F a t := by
  refine ⟨_, rfl, ?_⟩
  refine Keeps.ite ?_ ?_
  · extract_lets +onlyGivenNames -underBinder -merge y0
    have hy0 : Keeps F a y0 := by
      unfold y0
      refine State.testOutcome_keeps (maskSub hF rfl) ?_
      assumption
    try clear_value y0
    extract_lets +onlyGivenNames -underBinder -merge y1
    have hy1 : Keeps F a y1 := by
      unfold y1
      refine State.endRequest_keeps (maskSub hF rfl) ?_
      assumption
    try clear_value y1
    refine State.setSolState_keeps (maskSub hF rfl) ?_
    assumption
  · refine Keeps.ite ?_ ?_
    · refine State.testOutcome_keeps (maskSub hF rfl) ?_
      assumption
    · assumption

theorem State.tryReclose_keeps {F : Nat} {a s : State} {x1 x2} (hF : F ||| 33570816 = F) (h : Keeps F a s) :
    Keeps F a (State.tryReclose s x1 x2) := by
  unfold State.tryReclose
  refine Keeps.ite ?_ ?_
  · refine State.reclose_keeps (maskSub hF rfl) ?_
    assumption
  · assumption

theorem execBankCmdReclose_keeps {F : Nat} {a s : State} {x0 x1 x2} (hF : F ||| 58736648 = F) (h : Keeps F a s) :
    ∃ t, execBankCmdReclose x0 x1 x2 s = .next t ∧ Keeps F a t := by
  refine ⟨_, rfl, ?_⟩
  refine State.writeRow_keeps (maskSub hF rfl) ?_ ?_
  · assumption
  · intro x1 h0
    beta_reduce
    refine State.tryReclose_keeps (maskSub hF rfl) ?_
    assumption

theorem execBankSupplyReclose_keeps {F : Nat} {a s : State} {x0} (hF : F ||| 33570816 = F) (h : Keeps F a s) :
    ∃ t, execBankSupplyReclose x0 s = .next t ∧ Keeps F a t := by
  refine ⟨_, rfl, ?_⟩
  refine Keeps.ite ?_ ?_
  · refine State.reclose_keeps (maskSub hF rfl) ?_
    assumption
  · assumption

end Sys2Proof.Machine
end

