-- ==== Sys2Proof/Laws/KeepsGuard.lean ====
section
/-! SUPPORT. What each operation and each command of protection may change, as `Keeps` says it. -/

namespace Sys2Proof.Machine

/-! ### Guard -/

theorem State.setRackP_keeps {F : Nat} {a s : State} {x1 x2} (hF : F ||| 32768 = F) (h : Keeps F a s) :
    Keeps F a (State.setRackP s x1 x2) := by
  unfold State.setRackP
  refine Keeps.upd_prt (maskSub hF rfl) ?_
  assumption

theorem State.setLeakIn_keeps {F : Nat} {a s : State} {x1 x2} (hF : F ||| 32768 = F) (h : Keeps F a s) :
    Keeps F a (State.setLeakIn s x1 x2) := by
  unfold State.setLeakIn
  refine Keeps.upd_prt (maskSub hF rfl) ?_
  assumption

theorem State.setLimP_keeps {F : Nat} {a s : State} {x1 x2} (hF : F ||| 32768 = F) (h : Keeps F a s) :
    Keeps F a (State.setLimP s x1 x2) := by
  unfold State.setLimP
  refine Keeps.upd_prt (maskSub hF rfl) ?_
  assumption

theorem State.rackFlow_keeps {F : Nat} {a s : State} {x1 x2} (hF : F ||| 32768 = F) (h : Keeps F a s) :
    Keeps F a (State.rackFlow s x1 x2) := by
  unfold State.rackFlow
  extract_lets +onlyGivenNames -underBinder -merge y0
  try clear_value y0
  extract_lets +onlyGivenNames -underBinder -merge y1
  try clear_value y1
  extract_lets +onlyGivenNames -underBinder -merge y2
  try clear_value y2
  refine Keeps.ite ?_ ?_
  · assumption
  · extract_lets +onlyGivenNames -underBinder -merge y3
    try clear_value y3
    extract_lets +onlyGivenNames -underBinder -merge y4
    try clear_value y4
    extract_lets +onlyGivenNames -underBinder -merge y5
    try clear_value y5
    extract_lets +onlyGivenNames -underBinder -merge y6
    try clear_value y6
    refine State.setRackP_keeps (maskSub hF rfl) ?_
    assumption

theorem State.loopFlow_keeps {F : Nat} {a s : State} {x1} (hF : F ||| 32768 = F) (h : Keeps F a s) :
    Keeps F a (State.loopFlow s x1) := by
  unfold State.loopFlow
  extract_lets +onlyGivenNames -underBinder -merge y0
  try clear_value y0
  refine Keeps.ite ?_ ?_
  · refine Keeps.upd_prt (maskSub hF rfl) ?_
    assumption
  · extract_lets +onlyGivenNames -underBinder -merge y1
    try clear_value y1
    refine Keeps.upd_prt (maskSub hF rfl) ?_
    assumption

theorem State.measureLeak_keeps {F : Nat} {a s : State} {x1} (hF : F ||| 33587200 = F) (h : Keeps F a s) :
    Keeps F a (State.measureLeak s x1) := by
  unfold State.measureLeak
  extract_lets +onlyGivenNames -underBinder -merge y0
  try clear_value y0
  refine Keeps.ite ?_ ?_
  · refine Keeps.ite ?_ ?_
    · assumption
    · refine State.wr_keeps (maskSub hF rfl) ?_
      refine State.setLeakIn_keeps (maskSub hF rfl) ?_
      assumption
  · extract_lets +onlyGivenNames -underBinder -merge y1
    try clear_value y1
    extract_lets +onlyGivenNames -underBinder -merge y2
    try clear_value y2
    extract_lets +onlyGivenNames -underBinder -merge y3
    try clear_value y3
    extract_lets +onlyGivenNames -underBinder -merge y4
    try clear_value y4
    extract_lets +onlyGivenNames -underBinder -merge y5
    try clear_value y5
    extract_lets +onlyGivenNames -underBinder -merge y6
    try clear_value y6
    extract_lets +onlyGivenNames -underBinder -merge y7
    try clear_value y7
    extract_lets +onlyGivenNames -underBinder -merge y8
    have hy8 : Keeps F a y8 := by
      unfold y8
      refine State.setLeakIn_keeps (maskSub hF rfl) ?_
      assumption
    try clear_value y8
    refine State.wr_keeps (maskSub hF rfl) ?_
    assumption

theorem State.powerOff_keeps {F : Nat} {a s : State} {x1 x2 x3} (hF : F ||| 8421384 = F) (h : Keeps F a s) :
    Keeps F a (State.powerOff s x1 x2 x3) := by
  unfold State.powerOff
  refine Keeps.ite ?_ ?_
  · assumption
  · extract_lets +onlyGivenNames -underBinder -merge y0
    try clear_value y0
    extract_lets +onlyGivenNames -underBinder -merge y1
    have hy1 : Keeps F a y1 := by
      unfold y1
      refine State.setRackP_keeps (maskSub hF rfl) ?_
      assumption
    try clear_value y1
    refine Keeps.foldl ?_ ?_
    · assumption
    · intro x3 x4 h2
      beta_reduce
      refine State.notice_keeps (maskSub hF rfl) ?_
      assumption

theorem State.setIf_keeps {F : Nat} {a s : State} {x1 x2} (hF : F ||| 33554432 = F) (h : Keeps F a s) :
    Keeps F a (State.setIf s x1 x2) := by
  unfold State.setIf
  refine Keeps.ite ?_ ?_
  · assumption
  · refine State.set_keeps (maskSub hF rfl) ?_
    assumption

theorem State.settleRack_keeps {F : Nat} {a s : State} {x1} (hF : F ||| 58753032 = F) (h : Keeps F a s) :
    Keeps F a (State.settleRack s x1) := by
  unfold State.settleRack
  extract_lets +onlyGivenNames -underBinder -merge y0
  try clear_value y0
  extract_lets +onlyGivenNames -underBinder -merge y1
  have hy1 : Keeps F a y1 := by
    unfold y1
    refine State.setIf_keeps (maskSub hF rfl) ?_
    refine State.setIf_keeps (maskSub hF rfl) ?_
    refine State.setIf_keeps (maskSub hF rfl) ?_
    refine State.setIf_keeps (maskSub hF rfl) ?_
    assumption
  try clear_value y1
  extract_lets +onlyGivenNames -underBinder -merge y2
  try clear_value y2
  extract_lets +onlyGivenNames -underBinder -merge y3
  have hy3 : Keeps F a y3 := by
    unfold y3
    split
    · refine Keeps.ite ?_ ?_
      · assumption
      · refine State.powerOff_keeps (maskSub hF rfl) ?_
        refine State.raise_keeps (maskSub hF rfl) ?_
        refine State.count_keeps (maskSub hF rfl) ?_
        refine State.set_keeps (maskSub hF rfl) ?_
        assumption
    · refine State.setIf_keeps (maskSub hF rfl) ?_
      assumption
  try clear_value y3
  refine State.setIf_keeps (maskSub hF rfl) ?_
  assumption

theorem State.settleOverrides_keeps {F : Nat} {a s : State} (hF : F ||| 32768 = F) (h : Keeps F a s) :
    Keeps F a (State.settleOverrides s) := by
  unfold State.settleOverrides
  extract_lets +onlyGivenNames -underBinder -merge y0
  try clear_value y0
  extract_lets +onlyGivenNames -underBinder -merge y1
  try clear_value y1
  extract_lets +onlyGivenNames -underBinder -merge y2
  try clear_value y2
  refine Keeps.upd_prt (maskSub hF rfl) ?_
  assumption

theorem State.settle_keeps {F : Nat} {a s : State} (hF : F ||| 58753032 = F) (h : Keeps F a s) :
    Keeps F a (State.settle s) := by
  unfold State.settle
  extract_lets +onlyGivenNames -underBinder -merge y0
  have hy0 : Keeps F a y0 := by
    unfold y0
    refine State.setIf_keeps (maskSub hF rfl) ?_
    assumption
  try clear_value y0
  refine Keeps.ite ?_ ?_
  · extract_lets +onlyGivenNames -underBinder -merge y1
    try clear_value y1
    extract_lets +onlyGivenNames -underBinder -merge y2
    have hy2 : Keeps F a y2 := by
      unfold y2
      refine Keeps.foldl ?_ ?_
      · assumption
      · intro x4 x5 h3
        beta_reduce
        refine State.settleRack_keeps (maskSub hF rfl) ?_
        assumption
    try clear_value y2
    extract_lets +onlyGivenNames -underBinder -merge y6
    have hy6 : Keeps F a y6 := by
      unfold y6
      refine State.setIf_keeps (maskSub hF rfl) ?_
      assumption
    try clear_value y6
    refine State.settleOverrides_keeps (maskSub hF rfl) ?_
    assumption
  · assumption

theorem State.enterIfFirst_keeps {F : Nat} {a s : State} {x1} (hF : F ||| 58720264 = F) (h : Keeps F a s) :
    Keeps F a (State.enterIfFirst s x1) := by
  unfold State.enterIfFirst
  refine Keeps.ite ?_ ?_
  · refine State.enterProtective_keeps (maskSub hF rfl) ?_
    assumption
  · assumption

theorem State.tellStart_keeps {F : Nat} {a s : State} {x1 x2 x3 x4} (hF : F ||| 58720264 = F) (h : Keeps F a s) :
    Keeps F a (State.tellStart s x1 x2 x3 x4) := by
  unfold State.tellStart
  extract_lets +onlyGivenNames -underBinder -merge y0
  try clear_value y0
  refine State.noticeAll_keeps (maskSub hF rfl) ?_
  refine State.raise_keeps (maskSub hF rfl) ?_
  assumption

theorem State.startRack_keeps {F : Nat} {a s : State} {x1 x2 x3} (hF : F ||| 58753032 = F) (h : Keeps F a s) :
    Keeps F a (State.startRack s x1 x2 x3) := by
  unfold State.startRack
  extract_lets +onlyGivenNames -underBinder -merge y0
  try clear_value y0
  extract_lets +onlyGivenNames -underBinder -merge y1
  have hy1 : Keeps F a y1 := by
    unfold y1
    refine State.setBit_keeps (maskSub hF rfl) ?_
    refine State.setBit_keeps (maskSub hF rfl) ?_
    assumption
  try clear_value y1
  extract_lets +onlyGivenNames -underBinder -merge y2
  try clear_value y2
  extract_lets +onlyGivenNames -underBinder -merge y3
  have hy3 : Keeps F a y3 := by
    unfold y3
    refine State.setRackP_keeps (maskSub hF rfl) ?_
    assumption
  try clear_value y3
  refine State.tellStart_keeps (maskSub hF rfl) ?_
  refine State.enterIfFirst_keeps (maskSub hF rfl) ?_
  assumption

theorem State.startLoop_keeps {F : Nat} {a s : State} {x1 x2} (hF : F ||| 58753032 = F) (h : Keeps F a s) :
    Keeps F a (State.startLoop s x1 x2) := by
  unfold State.startLoop
  extract_lets +onlyGivenNames -underBinder -merge y0
  try clear_value y0
  extract_lets +onlyGivenNames -underBinder -merge y1
  have hy1 : Keeps F a y1 := by
    unfold y1
    refine State.setBit_keeps (maskSub hF rfl) ?_
    refine State.setBit_keeps (maskSub hF rfl) ?_
    assumption
  try clear_value y1
  extract_lets +onlyGivenNames -underBinder -merge y2
  try clear_value y2
  extract_lets +onlyGivenNames -underBinder -merge y3
  have hy3 : Keeps F a y3 := by
    unfold y3
    refine Keeps.upd_prt (maskSub hF rfl) ?_
    assumption
  try clear_value y3
  refine State.tellStart_keeps (maskSub hF rfl) ?_
  refine State.enterIfFirst_keeps (maskSub hF rfl) ?_
  assumption

theorem State.enterFullcool_keeps {F : Nat} {a s : State} {x1} (hF : F ||| 58753032 = F) (h : Keeps F a s) :
    Keeps F a (State.enterFullcool s x1) := by
  unfold State.enterFullcool
  extract_lets +onlyGivenNames -underBinder -merge y0
  try clear_value y0
  extract_lets +onlyGivenNames -underBinder -merge y1
  have hy1 : Keeps F a y1 := by
    unfold y1
    refine Keeps.ite ?_ ?_
    · refine Keeps.upd_prt (maskSub hF rfl) ?_
      assumption
    · refine State.set_keeps (maskSub hF rfl) ?_
      assumption
  try clear_value y1
  extract_lets +onlyGivenNames -underBinder -merge y2
  have hy2 : Keeps F a y2 := by
    unfold y2
    refine Keeps.ite ?_ ?_
    · assumption
    · refine State.raise_keeps (maskSub hF rfl) ?_
      refine State.set_keeps (maskSub hF rfl) ?_
      assumption
  try clear_value y2
  extract_lets +onlyGivenNames -underBinder -merge y3
  have hy3 : Keeps F a y3 := by
    unfold y3
    refine Keeps.ite ?_ ?_
    · refine State.enterProtective_keeps (maskSub hF rfl) ?_
      assumption
    · assumption
  try clear_value y3
  refine State.settle_keeps (maskSub hF rfl) ?_
  assumption

theorem State.leaveFullcool_keeps {F : Nat} {a s : State} {x1} (hF : F ||| 58753032 = F) (h : Keeps F a s) :
    Keeps F a (State.leaveFullcool s x1) := by
  unfold State.leaveFullcool
  extract_lets +onlyGivenNames -underBinder -merge y0
  have hy0 : Keeps F a y0 := by
    unfold y0
    refine State.set_keeps (maskSub hF rfl) ?_
    refine State.set_keeps (maskSub hF rfl) ?_
    assumption
  extract_lets +onlyGivenNames -underBinder -merge y1
  extract_lets +onlyGivenNames -underBinder -merge y2
  have hy2 : Keeps F a y2 := by
    unfold y2
    refine Keeps.upd_prt (maskSub hF rfl) ?_
    assumption
  extract_lets +onlyGivenNames -underBinder -merge y3
  have hy3 : Keeps F a y3 := by
    unfold y3
    refine Keeps.ite ?_ ?_
    · refine Keeps.ite ?_ ?_
      · refine State.announce_keeps (maskSub hF rfl) ?_
        refine State.set_keeps (maskSub hF rfl) ?_
        assumption
      · refine State.leaveBoot_keeps (maskSub hF rfl) ?_
        refine State.enter_keeps (maskSub hF rfl) ?_
        assumption
    · assumption
  refine State.settle_keeps (maskSub hF rfl) ?_
  assumption

theorem State.leaveProtect_keeps {F : Nat} {a s : State} (hF : F ||| 58720264 = F) (h : Keeps F a s) :
    Keeps F a (State.leaveProtect s) := by
  unfold State.leaveProtect
  refine Keeps.ite ?_ ?_
  · refine State.leaveBoot_keeps (maskSub hF rfl) ?_
    refine State.enter_keeps (maskSub hF rfl) ?_
    assumption
  · assumption

theorem State.askIsolation_keeps {F : Nat} {a s : State} {x1 x2} (hF : F ||| 33603584 = F) (h : Keeps F a s) :
    Keeps F a (State.askIsolation s x1 x2) := by
  unfold State.askIsolation
  extract_lets +onlyGivenNames -underBinder -merge y0
  try clear_value y0
  extract_lets +onlyGivenNames -underBinder -merge y1
  have hy1 : Keeps F a y1 := by
    unfold y1
    refine State.setRackP_keeps (maskSub hF rfl) ?_
    assumption
  try clear_value y1
  refine Keeps.ite ?_ ?_
  · assumption
  · refine State.submit_keeps (maskSub hF rfl) ?_
    assumption

theorem State.checkPos_keeps {F : Nat} {a s : State} {x1} (hF : F ||| 50364416 = F) (h : Keeps F a s) :
    Keeps F a (State.checkPos s x1) := by
  unfold State.checkPos
  extract_lets +onlyGivenNames -underBinder -merge y0
  try clear_value y0
  refine Keeps.ite ?_ ?_
  · refine State.raise_keeps (maskSub hF rfl) ?_
    refine State.count_keeps (maskSub hF rfl) ?_
    refine State.setRackP_keeps (maskSub hF rfl) ?_
    assumption
  · refine Keeps.ite ?_ ?_
    · refine State.setRackP_keeps (maskSub hF rfl) ?_
      assumption
    · assumption

theorem State.isoResults_keeps {F : Nat} {a s : State} (hF : F ||| 58769416 = F) (h : Keeps F a s) :
    Keeps F a (State.isoResults s) := by
  unfold State.isoResults
  extract_lets +onlyGivenNames -underBinder -merge y0
  try clear_value y0
  extract_lets +onlyGivenNames -underBinder -merge y1
  try clear_value y1
  extract_lets +onlyGivenNames -underBinder -merge y2
  have hy2 : Keeps F a y2 := by
    unfold y2
    refine Keeps.upd_acts (maskSub hF rfl) ?_
    assumption
  try clear_value y2
  extract_lets +onlyGivenNames -underBinder -merge y3
  have hy3 : Keeps F a y3 := by
    unfold y3
    refine Keeps.foldl ?_ ?_
    · assumption
    · intro x5 x6 h4
      beta_reduce
      refine Keeps.ite ?_ ?_
      · refine State.startRack_keeps (maskSub hF rfl) ?_
        assumption
      · assumption
  try clear_value y3
  refine State.settle_keeps (maskSub hF rfl) ?_
  assumption

theorem State.startLeak_keeps {F : Nat} {a s : State} {x1 x2 x3 x4} (hF : F ||| 58753032 = F) (h : Keeps F a s) :
    Keeps F a (State.startLeak s x1 x2 x3 x4) := by
  unfold State.startLeak
  extract_lets +onlyGivenNames -underBinder -merge y0
  try clear_value y0
  extract_lets +onlyGivenNames -underBinder -merge y1
  try clear_value y1
  extract_lets +onlyGivenNames -underBinder -merge y2
  try clear_value y2
  extract_lets +onlyGivenNames -underBinder -merge y3
  try clear_value y3
  extract_lets +onlyGivenNames -underBinder -merge y4
  have hy4 : Keeps F a y4 := by
    unfold y4
    refine State.count_keeps (maskSub hF rfl) ?_
    refine State.startRack_keeps (maskSub hF rfl) ?_
    refine State.setRackP_keeps (maskSub hF rfl) ?_
    assumption
  try clear_value y4
  refine State.setRackP_keeps (maskSub hF rfl) ?_
  assumption

theorem State.isolateDue_keeps {F : Nat} {a s : State} (hF : F ||| 33603584 = F) (h : Keeps F a s) :
    Keeps F a (State.isolateDue s) := by
  unfold State.isolateDue
  refine Keeps.ite ?_ ?_
  · assumption
  · refine Keeps.foldl ?_ ?_
    · assumption
    · intro x1 x2 h0
      beta_reduce
      refine Keeps.ite ?_ ?_
      · assumption
      · refine Keeps.ite ?_ ?_
        · refine State.askIsolation_keeps (maskSub hF rfl) ?_
          assumption
        · refine Keeps.ite ?_ ?_
          · refine State.askIsolation_keeps (maskSub hF rfl) ?_
            assumption
          · assumption

theorem State.startSudden_keeps {F : Nat} {a s : State} (hF : F ||| 58769416 = F) (h : Keeps F a s) :
    Keeps F a (State.startSudden s) := by
  unfold State.startSudden
  extract_lets +onlyGivenNames -underBinder -merge y0
  have hy0 : Keeps F a y0 := by
    unfold y0
    refine State.count_keeps (maskSub hF rfl) ?_
    refine State.startLoop_keeps (maskSub hF rfl) ?_
    assumption
  try clear_value y0
  extract_lets +onlyGivenNames -underBinder -merge y1
  have hy1 : Keeps F a y1 := by
    unfold y1
    refine Keeps.ite ?_ ?_
    · refine Keeps.foldl ?_ ?_
      · assumption
      · intro x3 x4 h2
        beta_reduce
        refine Keeps.ite ?_ ?_
        · refine State.standbyStart_keeps (maskSub hF rfl) ?_
          assumption
        · assumption
    · assumption
  try clear_value y1
  refine Keeps.ite ?_ ?_
  · refine State.enterFullcool_keeps (maskSub hF rfl) ?_
    refine Keeps.upd_prt (maskSub hF rfl) ?_
    assumption
  · refine State.settle_keeps (maskSub hF rfl) ?_
    assumption

theorem State.pumpTripped_keeps {F : Nat} {a s : State} (hF : F ||| 58769416 = F) (h : Keeps F a s) :
    Keeps F a (State.pumpTripped s) := by
  unfold State.pumpTripped
  refine Keeps.ite ?_ ?_
  · assumption
  · refine State.startSudden_keeps (maskSub hF rfl) ?_
    assumption

theorem State.warnStart_keeps {F : Nat} {a s : State} {x1} (hF : F ||| 58753032 = F) (h : Keeps F a s) :
    Keeps F a (State.warnStart s x1) := by
  unfold State.warnStart
  refine State.startLoop_keeps (maskSub hF rfl) ?_
  refine State.set_keeps (maskSub hF rfl) ?_
  assumption

theorem State.judgeLim_keeps {F : Nat} {a s : State} {x1} (hF : F ||| 58753032 = F) (h : Keeps F a s) :
    Keeps F a (State.judgeLim s x1) := by
  unfold State.judgeLim
  extract_lets +onlyGivenNames -underBinder -merge y0
  try clear_value y0
  extract_lets +onlyGivenNames -underBinder -merge y1
  try clear_value y1
  extract_lets +onlyGivenNames -underBinder -merge y2
  try clear_value y2
  extract_lets +onlyGivenNames -underBinder -merge y3
  try clear_value y3
  extract_lets +onlyGivenNames -underBinder -merge y4
  try clear_value y4
  extract_lets +onlyGivenNames -underBinder -merge y5
  try clear_value y5
  extract_lets +onlyGivenNames -underBinder -merge y6
  have hy6 : Keeps F a y6 := by
    unfold y6
    refine State.setLimP_keeps (maskSub hF rfl) ?_
    assumption
  try clear_value y6
  extract_lets +onlyGivenNames -underBinder -merge y7
  have hy7 : Keeps F a y7 := by
    unfold y7
    refine State.setIf_keeps (maskSub hF rfl) ?_
    refine State.setIf_keeps (maskSub hF rfl) ?_
    refine State.setIf_keeps (maskSub hF rfl) ?_
    assumption
  try clear_value y7
  extract_lets +onlyGivenNames -underBinder -merge y8
  have hy8 : Keeps F a y8 := by
    unfold y8
    refine Keeps.ite ?_ ?_
    · assumption
    · refine State.setIf_keeps (maskSub hF rfl) ?_
      assumption
  try clear_value y8
  refine Keeps.ite ?_ ?_
  · refine State.warnStart_keeps (maskSub hF rfl) ?_
    assumption
  · assumption

theorem State.settleWarn_keeps {F : Nat} {a s : State} (hF : F ||| 33554432 = F) (h : Keeps F a s) :
    Keeps F a (State.settleWarn s) := by
  unfold State.settleWarn
  extract_lets +onlyGivenNames -underBinder -merge y0
  try clear_value y0
  refine Keeps.ite ?_ ?_
  · assumption
  · refine State.setBit_keeps (maskSub hF rfl) ?_
    assumption

theorem State.limHard_keeps {F : Nat} {a s : State} {x1} (hF : F ||| 58753032 = F) (h : Keeps F a s) :
    Keeps F a (State.limHard s x1) := by
  unfold State.limHard
  extract_lets +onlyGivenNames -underBinder -merge y0
  have hy0 : Keeps F a y0 := by
    unfold y0
    refine State.count_keeps (maskSub hF rfl) ?_
    refine State.set_keeps (maskSub hF rfl) ?_
    refine State.set_keeps (maskSub hF rfl) ?_
    assumption
  try clear_value y0
  extract_lets +onlyGivenNames -underBinder -merge y1
  try clear_value y1
  refine Keeps.ite ?_ ?_
  · extract_lets +onlyGivenNames -underBinder -merge y2
    try clear_value y2
    extract_lets +onlyGivenNames -underBinder -merge y3
    have hy3 : Keeps F a y3 := by
      unfold y3
      refine State.setLimP_keeps (maskSub hF rfl) ?_
      assumption
    try clear_value y3
    refine State.enterFullcool_keeps (maskSub hF rfl) ?_
    refine State.startLoop_keeps (maskSub hF rfl) ?_
    assumption
  · refine Keeps.ite ?_ ?_
    · refine State.warnStart_keeps (maskSub hF rfl) ?_
      assumption
    · extract_lets +onlyGivenNames -underBinder -merge y4
      try clear_value y4
      extract_lets +onlyGivenNames -underBinder -merge y5
      have hy5 : Keeps F a y5 := by
        unfold y5
        refine State.setLimP_keeps (maskSub hF rfl) ?_
        assumption
      try clear_value y5
      extract_lets +onlyGivenNames -underBinder -merge y6
      try clear_value y6
      extract_lets +onlyGivenNames -underBinder -merge y7
      have hy7 : Keeps F a y7 := by
        unfold y7
        refine Keeps.ite ?_ ?_
        · refine State.startRack_keeps (maskSub hF rfl) ?_
          assumption
        · refine State.startLoop_keeps (maskSub hF rfl) ?_
          assumption
      try clear_value y7
      refine Keeps.ite ?_ ?_
      · refine State.enterFullcool_keeps (maskSub hF rfl) ?_
        refine Keeps.upd_prt (maskSub hF rfl) ?_
        assumption
      · refine State.settle_keeps (maskSub hF rfl) ?_
        assumption

theorem State.countHard_keeps {F : Nat} {a s : State} {x1 x2} (hF : F ||| 32768 = F) (h : Keeps F a s) :
    Keeps F a (State.countHard s x1 x2) := by
  unfold State.countHard
  split
  · assumption
  · refine Keeps.ite ?_ ?_
    · refine Keeps.upd_prt (maskSub hF rfl) ?_
      assumption
    · refine Keeps.upd_prt (maskSub hF rfl) ?_
      assumption

theorem State.rackAlarm_keeps {F : Nat} {a s : State} {x1 x2 x3} (hF : F ||| 58753032 = F) (h : Keeps F a s) :
    Keeps F a (State.rackAlarm s x1 x2 x3) := by
  unfold State.rackAlarm
  refine Keeps.ite ?_ ?_
  · assumption
  · refine Keeps.ite ?_ ?_
    · refine State.startRack_keeps (maskSub hF rfl) ?_
      assumption
    · refine State.setBit_keeps (maskSub hF rfl) ?_
      assumption

theorem State.judgeRackDigest_keeps {F : Nat} {a s : State} {x1} (hF : F ||| 58753032 = F) (h : Keeps F a s) :
    Keeps F a (State.judgeRackDigest s x1) := by
  unfold State.judgeRackDigest
  extract_lets +onlyGivenNames -underBinder -merge y0
  try clear_value y0
  extract_lets +onlyGivenNames -underBinder -merge y1
  try clear_value y1
  extract_lets +onlyGivenNames -underBinder -merge y2
  have hy2 : Keeps F a y2 := by
    unfold y2
    refine State.wr_keeps (maskSub hF rfl) ?_
    assumption
  try clear_value y2
  refine State.rackAlarm_keeps (maskSub hF rfl) ?_
  refine State.rackAlarm_keeps (maskSub hF rfl) ?_
  assumption

theorem State.judgeDigest_keeps {F : Nat} {a s : State} (hF : F ||| 58753032 = F) (h : Keeps F a s) :
    Keeps F a (State.judgeDigest s) := by
  unfold State.judgeDigest
  refine Keeps.ite ?_ ?_
  · assumption
  · extract_lets +onlyGivenNames -underBinder -merge y0
    have hy0 : Keeps F a y0 := by
      unfold y0
      refine State.set_keeps (maskSub hF rfl) ?_
      assumption
    try clear_value y0
    extract_lets +onlyGivenNames -underBinder -merge y1
    try clear_value y1
    extract_lets +onlyGivenNames -underBinder -merge y2
    have hy2 : Keeps F a y2 := by
      unfold y2
      refine Keeps.foldl ?_ ?_
      · assumption
      · intro x4 x5 h3
        beta_reduce
        refine Keeps.upd_prt (maskSub hF rfl) ?_
        assumption
    try clear_value y2
    extract_lets +onlyGivenNames -underBinder -merge y6
    have hy6 : Keeps F a y6 := by
      unfold y6
      refine Keeps.foldl ?_ ?_
      · assumption
      · intro x8 x9 h7
        beta_reduce
        refine State.countHard_keeps (maskSub hF rfl) ?_
        assumption
    try clear_value y6
    extract_lets +onlyGivenNames -underBinder -merge y10
    try clear_value y10
    extract_lets +onlyGivenNames -underBinder -merge y11
    have hy11 : Keeps F a y11 := by
      unfold y11
      refine Keeps.upd_prt (maskSub hF rfl) ?_
      assumption
    try clear_value y11
    refine Keeps.foldl ?_ ?_
    · assumption
    · intro x13 x14 h12
      beta_reduce
      refine State.judgeRackDigest_keeps (maskSub hF rfl) ?_
      assumption

theorem State.startDieHard_keeps {F : Nat} {a s : State} {x1} (hF : F ||| 58753032 = F) (h : Keeps F a s) :
    Keeps F a (State.startDieHard s x1) := by
  unfold State.startDieHard
  refine State.settle_keeps (maskSub hF rfl) ?_
  refine State.count_keeps (maskSub hF rfl) ?_
  refine State.startRack_keeps (maskSub hF rfl) ?_
  assumption

theorem State.watchLost_keeps {F : Nat} {a s : State} (hF : F ||| 58753032 = F) (h : Keeps F a s) :
    Keeps F a (State.watchLost s) := by
  unfold State.watchLost
  refine Keeps.ite ?_ ?_
  · refine Keeps.foldl ?_ ?_
    · assumption
    · intro x1 x2 h0
      beta_reduce
      refine State.startDieHard_keeps (maskSub hF rfl) ?_
      assumption
  · assumption

theorem State.digestBoundary_keeps {F : Nat} {a s : State} (hF : F ||| 32768 = F) (h : Keeps F a s) :
    Keeps F a (State.digestBoundary s) := by
  unfold State.digestBoundary
  refine Keeps.ite ?_ ?_
  · refine Keeps.upd_prt (maskSub hF rfl) ?_
    assumption
  · refine Keeps.upd_prt (maskSub hF rfl) ?_
    assumption

theorem State.clearTick_keeps {F : Nat} {a s : State} (hF : F ||| 32768 = F) (h : Keeps F a s) :
    Keeps F a (State.clearTick s) := by
  unfold State.clearTick
  extract_lets +onlyGivenNames -underBinder -merge y0
  have hy0 : Keeps F a y0 := by
    unfold y0
    refine Keeps.foldl ?_ ?_
    · assumption
    · intro x2 x3 h1
      beta_reduce
      extract_lets +onlyGivenNames -underBinder -merge y4
      try clear_value y4
      refine State.setRackP_keeps (maskSub hF rfl) ?_
      assumption
  try clear_value y0
  extract_lets +onlyGivenNames -underBinder -merge y5
  try clear_value y5
  refine Keeps.upd_prt (maskSub hF rfl) ?_
  assumption

theorem State.toldTick_keeps {F : Nat} {a s : State} (hF : F ||| 32768 = F) (h : Keeps F a s) :
    Keeps F a (State.toldTick s) := by
  unfold State.toldTick
  extract_lets +onlyGivenNames -underBinder -merge y0
  have hy0 : Keeps F a y0 := by
    unfold y0
    refine Keeps.foldl ?_ ?_
    · assumption
    · intro x2 x3 h1
      beta_reduce
      extract_lets +onlyGivenNames -underBinder -merge y4
      try clear_value y4
      refine State.setRackP_keeps (maskSub hF rfl) ?_
      assumption
  try clear_value y0
  refine Keeps.upd_prt (maskSub hF rfl) ?_
  assumption

theorem State.protTick_keeps {F : Nat} {a s : State} (hF : F ||| 58769416 = F) (h : Keeps F a s) :
    Keeps F a (State.protTick s) := by
  unfold State.protTick
  extract_lets +onlyGivenNames -underBinder -merge y0
  try clear_value y0
  extract_lets +onlyGivenNames -underBinder -merge y1
  have hy1 : Keeps F a y1 := by
    unfold y1
    refine State.loopFlow_keeps (maskSub hF rfl) ?_
    assumption
  try clear_value y1
  extract_lets +onlyGivenNames -underBinder -merge y2
  have hy2 : Keeps F a y2 := by
    unfold y2
    refine Keeps.foldl ?_ ?_
    · assumption
    · intro x4 x5 h3
      beta_reduce
      refine State.rackFlow_keeps (maskSub hF rfl) ?_
      assumption
  try clear_value y2
  extract_lets +onlyGivenNames -underBinder -merge y6
  have hy6 : Keeps F a y6 := by
    unfold y6
    refine State.judgeDigest_keeps (maskSub hF rfl) ?_
    assumption
  try clear_value y6
  extract_lets +onlyGivenNames -underBinder -merge y7
  have hy7 : Keeps F a y7 := by
    unfold y7
    refine State.settleWarn_keeps (maskSub hF rfl) ?_
    refine Keeps.foldl ?_ ?_
    · assumption
    · intro x9 x10 h8
      beta_reduce
      refine State.judgeLim_keeps (maskSub hF rfl) ?_
      assumption
  try clear_value y7
  extract_lets +onlyGivenNames -underBinder -merge y11
  have hy11 : Keeps F a y11 := by
    unfold y11
    refine State.toldTick_keeps (maskSub hF rfl) ?_
    refine State.clearTick_keeps (maskSub hF rfl) ?_
    assumption
  try clear_value y11
  extract_lets +onlyGivenNames -underBinder -merge y12
  have hy12 : Keeps F a y12 := by
    unfold y12
    refine State.watchLost_keeps (maskSub hF rfl) ?_
    assumption
  try clear_value y12
  refine State.isoResults_keeps (maskSub hF rfl) ?_
  refine State.isolateDue_keeps (maskSub hF rfl) ?_
  assumption

/-! ### GuardRows -/

theorem execPumpTrip_keeps {F : Nat} {a s : State} {x0 x1} (hF : F ||| 58769416 = F) (h : Keeps F a s) :
    ∃ t, execPumpTrip x0 x1 s = .next t ∧ Keeps F a t := by
  refine ⟨_, rfl, ?_⟩
  refine Keeps.ite ?_ ?_
  · refine State.pumpTripped_keeps (maskSub hF rfl) ?_
    refine State.tripPump_keeps (maskSub hF rfl) ?_
    assumption
  · assumption

theorem execSolenoidOpenCoil_keeps {F : Nat} {a s : State} {x0} (hF : F ||| 58769416 = F) (h : Keeps F a s) :
    ∃ t, execSolenoidOpenCoil x0 s = .next t ∧ Keeps F a t := by
  refine ⟨_, rfl, ?_⟩
  split
  · refine Keeps.ite ?_ ?_
    · refine State.isoResults_keeps (maskSub hF rfl) ?_
      refine State.pullFault_keeps (maskSub hF rfl) ?_
      assumption
    · assumption
  · assumption

theorem execSolenoidShort_keeps {F : Nat} {a s : State} {x0} (hF : F ||| 58769416 = F) (h : Keeps F a s) :
    ∃ t, execSolenoidShort x0 s = .next t ∧ Keeps F a t := by
  refine ⟨_, rfl, ?_⟩
  refine Keeps.ite ?_ ?_
  · refine State.isoResults_keeps (maskSub hF rfl) ?_
    refine State.pullFault_keeps (maskSub hF rfl) ?_
    assumption
  · assumption

theorem execSolenoidDecayEnd_keeps {F : Nat} {a s : State} {x0} (hF : F ||| 58769416 = F) (h : Keeps F a s) :
    ∃ t, execSolenoidDecayEnd x0 s = .next t ∧ Keeps F a t := by
  refine ⟨_, rfl, ?_⟩
  refine Keeps.ite ?_ ?_
  · extract_lets +onlyGivenNames -underBinder -merge y0
    have hy0 : Keeps F a y0 := by
      unfold y0
      refine State.endDecay_keeps (maskSub hF rfl) ?_
      assumption
    try clear_value y0
    refine State.isoResults_keeps (maskSub hF rfl) ?_
    refine Keeps.ite ?_ ?_
    · refine State.checkPos_keeps (maskSub hF rfl) ?_
      assumption
    · assumption
  · assumption

theorem execSolenoidDeferTimeout_keeps {F : Nat} {a s : State} {x0} (hF : F ||| 58769416 = F) (h : Keeps F a s) :
    ∃ t, execSolenoidDeferTimeout x0 s = .next t ∧ Keeps F a t := by
  refine ⟨_, rfl, ?_⟩
  refine Keeps.ite ?_ ?_
  · refine State.isoResults_keeps (maskSub hF rfl) ?_
    refine State.arbitrateSol_keeps (maskSub hF rfl) ?_
    refine State.deferTimeout_keeps (maskSub hF rfl) ?_
    assumption
  · refine State.isoResults_keeps (maskSub hF rfl) ?_
    refine State.deferTimeout_keeps (maskSub hF rfl) ?_
    assumption

theorem execBankCut_keeps {F : Nat} {a s : State} {x0 x1} (hF : F ||| 58769416 = F) (h : Keeps F a s) :
    ∃ t, execBankCut x0 x1 s = .next t ∧ Keeps F a t := by
  refine ⟨_, rfl, ?_⟩
  split
  · refine State.isoResults_keeps (maskSub hF rfl) ?_
    refine State.cutBank_keeps (maskSub hF rfl) ?_
    assumption
  · extract_lets +onlyGivenNames -underBinder -merge y0
    try clear_value y0
    refine Keeps.ite ?_ ?_
    · refine State.isoResults_keeps (maskSub hF rfl) ?_
      refine State.cutBank_keeps (maskSub hF rfl) ?_
      refine State.solFault_keeps (maskSub hF rfl) ?_
      assumption
    · assumption
  · refine State.isoResults_keeps (maskSub hF rfl) ?_
    refine State.cutBank_keeps (maskSub hF rfl) ?_
    assumption
  · refine Keeps.ite ?_ ?_
    · refine State.isoResults_keeps (maskSub hF rfl) ?_
      refine State.cutBank_keeps (maskSub hF rfl) ?_
      assumption
    · assumption

theorem execBankCmdCut_keeps {F : Nat} {a s : State} {x0 x1} (hF : F ||| 58769416 = F) (h : Keeps F a s) :
    ∃ t, execBankCmdCut x0 x1 s = .next t ∧ Keeps F a t := by
  refine ⟨_, rfl, ?_⟩
  refine State.writeRow_keeps (maskSub hF rfl) ?_ ?_
  · assumption
  · intro x1 h0
    beta_reduce
    refine State.isoResults_keeps (maskSub hF rfl) ?_
    refine State.cutBank_keeps (maskSub hF rfl) ?_
    assumption

theorem State.isoReset_keeps {F : Nat} {a s : State} {x1} (hF : F ||| 58753032 = F) (h : Keeps F a s) :
    Keeps F a (State.isoReset s x1) := by
  unfold State.isoReset
  refine State.settle_keeps (maskSub hF rfl) ?_
  refine State.checkPos_keeps (maskSub hF rfl) ?_
  refine State.set_keeps (maskSub hF rfl) ?_
  assumption

theorem execIsoReset_keeps {F : Nat} {a s : State} {x0 x1} (hF : F ||| 58753032 = F) (h : Keeps F a s) :
    ∃ t, execIsoReset x0 x1 s = .next t ∧ Keeps F a t := by
  refine ⟨_, rfl, ?_⟩
  refine State.writeRow_keeps (maskSub hF rfl) ?_ ?_
  · assumption
  · intro x1 h0
    beta_reduce
    refine State.isoReset_keeps (maskSub hF rfl) ?_
    assumption

theorem execLeakMeasurement_keeps {F : Nat} {a s : State} {x0} (hF : F ||| 33587200 = F) (h : Keeps F a s) :
    ∃ t, execLeakMeasurement x0 s = .next t ∧ Keeps F a t := by
  refine ⟨_, rfl, ?_⟩
  extract_lets +onlyGivenNames -underBinder -merge y0
  have hy0 : Keeps F a y0 := by
    unfold y0
    refine Keeps.foldl ?_ ?_
    · assumption
    · intro x2 x3 h1
      beta_reduce
      refine State.setLeakIn_keeps (maskSub hF rfl) ?_
      assumption
  try clear_value y0
  refine Keeps.foldl ?_ ?_
  · assumption
  · intro x5 x6 h4
    beta_reduce
    refine State.measureLeak_keeps (maskSub hF rfl) ?_
    assumption

theorem execImbalanceCheck_keeps {F : Nat} {a s : State} {x0} (hF : F ||| 33587200 = F) (h : Keeps F a s) :
    ∃ t, execImbalanceCheck x0 s = .next t ∧ Keeps F a t := by
  refine ⟨_, rfl, ?_⟩
  extract_lets +onlyGivenNames -underBinder -merge y0
  try clear_value y0
  extract_lets +onlyGivenNames -underBinder -merge y1
  try clear_value y1
  extract_lets +onlyGivenNames -underBinder -merge y2
  try clear_value y2
  extract_lets +onlyGivenNames -underBinder -merge y3
  try clear_value y3
  extract_lets +onlyGivenNames -underBinder -merge y4
  try clear_value y4
  extract_lets +onlyGivenNames -underBinder -merge y5
  have hy5 : Keeps F a y5 := by
    unfold y5
    refine State.setRackP_keeps (maskSub hF rfl) ?_
    assumption
  try clear_value y5
  refine State.wr_keeps (maskSub hF rfl) ?_
  assumption

theorem execLeak_keeps {F : Nat} {a s : State} {x0} (hF : F ||| 58753032 = F) (h : Keeps F a s) :
    ∃ t, execLeak x0 s = .next t ∧ Keeps F a t := by
  refine ⟨_, rfl, ?_⟩
  extract_lets +onlyGivenNames -underBinder -merge y0
  try clear_value y0
  extract_lets +onlyGivenNames -underBinder -merge y1
  try clear_value y1
  refine Keeps.ite ?_ ?_
  · assumption
  · extract_lets +onlyGivenNames -underBinder -merge y2
    have hy2 : Keeps F a y2 := by
      unfold y2
      refine Keeps.foldl ?_ ?_
      · assumption
      · intro x4 x5 h3
        beta_reduce
        refine State.setLeakIn_keeps (maskSub hF rfl) ?_
        assumption
    try clear_value y2
    extract_lets +onlyGivenNames -underBinder -merge y6
    try clear_value y6
    extract_lets +onlyGivenNames -underBinder -merge y7
    have hy7 : Keeps F a y7 := by
      unfold y7
      refine Keeps.ite ?_ ?_
      · refine State.setRackP_keeps (maskSub hF rfl) ?_
        assumption
      · assumption
    try clear_value y7
    refine State.settle_keeps (maskSub hF rfl) ?_
    refine State.startLeak_keeps (maskSub hF rfl) ?_
    assumption

theorem execLeakFast_keeps {F : Nat} {a s : State} {x0} (hF : F ||| 58769416 = F) (h : Keeps F a s) :
    ∃ t, execLeakFast x0 s = .next t ∧ Keeps F a t := by
  refine ⟨_, rfl, ?_⟩
  extract_lets +onlyGivenNames -underBinder -merge y0
  try clear_value y0
  extract_lets +onlyGivenNames -underBinder -merge y1
  try clear_value y1
  refine Keeps.ite ?_ ?_
  · assumption
  · extract_lets +onlyGivenNames -underBinder -merge y2
    have hy2 : Keeps F a y2 := by
      unfold y2
      refine State.startLeak_keeps (maskSub hF rfl) ?_
      refine State.setRackP_keeps (maskSub hF rfl) ?_
      assumption
    try clear_value y2
    refine Keeps.ite ?_ ?_
    · refine State.isoResults_keeps (maskSub hF rfl) ?_
      refine State.arbitrateSol_keeps (maskSub hF rfl) ?_
      refine State.askIsolation_keeps (maskSub hF rfl) ?_
      assumption
    · refine State.settle_keeps (maskSub hF rfl) ?_
      assumption

theorem execGfault_keeps {F : Nat} {a s : State} {x0} (hF : F ||| 58753032 = F) (h : Keeps F a s) :
    ∃ t, execGfault x0 s = .next t ∧ Keeps F a t := by
  refine ⟨_, rfl, ?_⟩
  refine Keeps.ite ?_ ?_
  · extract_lets +onlyGivenNames -underBinder -merge y0
    try clear_value y0
    extract_lets +onlyGivenNames -underBinder -merge y1
    have hy1 : Keeps F a y1 := by
      unfold y1
      refine State.setRackP_keeps (maskSub hF rfl) ?_
      assumption
    try clear_value y1
    refine State.settle_keeps (maskSub hF rfl) ?_
    refine State.count_keeps (maskSub hF rfl) ?_
    refine State.startRack_keeps (maskSub hF rfl) ?_
    assumption
  · assumption

theorem execLeakWaitExpiry_keeps {F : Nat} {a s : State} {x0} (hF : F ||| 58769416 = F) (h : Keeps F a s) :
    ∃ t, execLeakWaitExpiry x0 s = .next t ∧ Keeps F a t := by
  refine ⟨_, rfl, ?_⟩
  extract_lets +onlyGivenNames -underBinder -merge y0
  try clear_value y0
  refine Keeps.ite ?_ ?_
  · refine State.isoResults_keeps (maskSub hF rfl) ?_
    refine State.askIsolation_keeps (maskSub hF rfl) ?_
    assumption
  · assumption

theorem execIsoTrip_keeps {F : Nat} {a s : State} {x0} (hF : F ||| 58753032 = F) (h : Keeps F a s) :
    ∃ t, execIsoTrip x0 s = .next t ∧ Keeps F a t := by
  refine ⟨_, rfl, ?_⟩
  extract_lets +onlyGivenNames -underBinder -merge y0
  try clear_value y0
  refine Keeps.ite ?_ ?_
  · refine State.settle_keeps (maskSub hF rfl) ?_
    refine State.setRackP_keeps (maskSub hF rfl) ?_
    assumption
  · assumption

theorem execLoopLeak_keeps {F : Nat} {a s : State} (hF : F ||| 58753032 = F) (h : Keeps F a s) :
    ∃ t, execLoopLeak s = .next t ∧ Keeps F a t := by
  refine ⟨_, rfl, ?_⟩
  extract_lets +onlyGivenNames -underBinder -merge y0
  try clear_value y0
  refine Keeps.ite ?_ ?_
  · assumption
  · extract_lets +onlyGivenNames -underBinder -merge y1
    have hy1 : Keeps F a y1 := by
      unfold y1
      refine Keeps.foldl ?_ ?_
      · assumption
      · intro x3 x4 h2
        beta_reduce
        refine State.setLeakIn_keeps (maskSub hF rfl) ?_
        assumption
    try clear_value y1
    extract_lets +onlyGivenNames -underBinder -merge y5
    try clear_value y5
    extract_lets +onlyGivenNames -underBinder -merge y6
    try clear_value y6
    extract_lets +onlyGivenNames -underBinder -merge y7
    have hy7 : Keeps F a y7 := by
      unfold y7
      refine Keeps.upd_prt (maskSub hF rfl) ?_
      assumption
    try clear_value y7
    refine State.settle_keeps (maskSub hF rfl) ?_
    refine State.startLoop_keeps (maskSub hF rfl) ?_
    assumption

theorem execLoopGfault_keeps {F : Nat} {a s : State} (hF : F ||| 58753032 = F) (h : Keeps F a s) :
    ∃ t, execLoopGfault s = .next t ∧ Keeps F a t := by
  refine ⟨_, rfl, ?_⟩
  refine Keeps.ite ?_ ?_
  · extract_lets +onlyGivenNames -underBinder -merge y0
    try clear_value y0
    extract_lets +onlyGivenNames -underBinder -merge y1
    have hy1 : Keeps F a y1 := by
      unfold y1
      refine Keeps.upd_prt (maskSub hF rfl) ?_
      assumption
    try clear_value y1
    refine State.settle_keeps (maskSub hF rfl) ?_
    refine State.count_keeps (maskSub hF rfl) ?_
    refine State.startLoop_keeps (maskSub hF rfl) ?_
    assumption
  · assumption

theorem State.judgeRflow_keeps {F : Nat} {a s : State} {x1} (hF : F ||| 58753032 = F) (h : Keeps F a s) :
    Keeps F a (State.judgeRflow s x1) := by
  unfold State.judgeRflow
  extract_lets +onlyGivenNames -underBinder -merge y0
  try clear_value y0
  extract_lets +onlyGivenNames -underBinder -merge y1
  have hy1 : Keeps F a y1 := by
    unfold y1
    refine State.wr_keeps (maskSub hF rfl) ?_
    assumption
  try clear_value y1
  extract_lets +onlyGivenNames -underBinder -merge y2
  try clear_value y2
  refine Keeps.ite ?_ ?_
  · extract_lets +onlyGivenNames -underBinder -merge y3
    have hy3 : Keeps F a y3 := by
      unfold y3
      refine State.setRackP_keeps (maskSub hF rfl) ?_
      assumption
    try clear_value y3
    refine State.watchLost_keeps (maskSub hF rfl) ?_
    refine State.settle_keeps (maskSub hF rfl) ?_
    refine State.count_keeps (maskSub hF rfl) ?_
    refine State.startRack_keeps (maskSub hF rfl) ?_
    assumption
  · refine State.setRackP_keeps (maskSub hF rfl) ?_
    assumption

theorem execFlowSample10ms_keeps {F : Nat} {a s : State} (hF : F ||| 58769416 = F) (h : Keeps F a s) :
    ∃ t, execFlowSample10ms s = .next t ∧ Keeps F a t := by
  refine ⟨_, rfl, ?_⟩
  extract_lets +onlyGivenNames -underBinder -merge y0
  try clear_value y0
  extract_lets +onlyGivenNames -underBinder -merge y1
  try clear_value y1
  extract_lets +onlyGivenNames -underBinder -merge y2
  try clear_value y2
  extract_lets +onlyGivenNames -underBinder -merge y3
  try clear_value y3
  extract_lets +onlyGivenNames -underBinder -merge y4
  have hy4 : Keeps F a y4 := by
    unfold y4
    refine Keeps.upd_prt (maskSub hF rfl) ?_
    assumption
  try clear_value y4
  extract_lets +onlyGivenNames -underBinder -merge y5
  have hy5 : Keeps F a y5 := by
    unfold y5
    refine Keeps.ite ?_ ?_
    · refine State.watchLost_keeps (maskSub hF rfl) ?_
      refine State.startSudden_keeps (maskSub hF rfl) ?_
      assumption
    · assumption
  try clear_value y5
  refine Keeps.foldl ?_ ?_
  · assumption
  · intro x7 x8 h6
    beta_reduce
    refine State.judgeRflow_keeps (maskSub hF rfl) ?_
    assumption

theorem State.startSlow_keeps {F : Nat} {a s : State} (hF : F ||| 58753032 = F) (h : Keeps F a s) :
    Keeps F a (State.startSlow s) := by
  unfold State.startSlow
  extract_lets +onlyGivenNames -underBinder -merge y0
  try clear_value y0
  extract_lets +onlyGivenNames -underBinder -merge y1
  try clear_value y1
  extract_lets +onlyGivenNames -underBinder -merge y2
  have hy2 : Keeps F a y2 := by
    unfold y2
    refine Keeps.upd_prt (maskSub hF rfl) ?_
    assumption
  try clear_value y2
  refine State.count_keeps (maskSub hF rfl) ?_
  refine State.startLoop_keeps (maskSub hF rfl) ?_
  assumption

theorem State.stepSlow_keeps {F : Nat} {a s : State} {x1 x2} (hF : F ||| 50364416 = F) (h : Keeps F a s) :
    Keeps F a (State.stepSlow s x1 x2) := by
  unfold State.stepSlow
  extract_lets +onlyGivenNames -underBinder -merge y0
  have hy0 : Keeps F a y0 := by
    unfold y0
    refine State.wr_keeps (maskSub hF rfl) ?_
    assumption
  try clear_value y0
  extract_lets +onlyGivenNames -underBinder -merge y1
  try clear_value y1
  refine Keeps.ite ?_ ?_
  · refine State.raise_keeps (maskSub hF rfl) ?_
    refine Keeps.upd_prt (maskSub hF rfl) ?_
    assumption
  · assumption

theorem execFlowEval100ms_keeps {F : Nat} {a s : State} (hF : F ||| 58753032 = F) (h : Keeps F a s) :
    ∃ t, execFlowEval100ms s = .next t ∧ Keeps F a t := by
  refine ⟨_, rfl, ?_⟩
  extract_lets +onlyGivenNames -underBinder -merge y0
  try clear_value y0
  extract_lets +onlyGivenNames -underBinder -merge y1
  try clear_value y1
  extract_lets +onlyGivenNames -underBinder -merge y2
  try clear_value y2
  extract_lets +onlyGivenNames -underBinder -merge y3
  have hy3 : Keeps F a y3 := by
    unfold y3
    refine Keeps.upd_prt (maskSub hF rfl) ?_
    assumption
  try clear_value y3
  extract_lets +onlyGivenNames -underBinder -merge y4
  have hy4 : Keeps F a y4 := by
    unfold y4
    refine State.wr_keeps (maskSub hF rfl) ?_
    assumption
  try clear_value y4
  split
  · extract_lets +onlyGivenNames -underBinder -merge y5
    try clear_value y5
    extract_lets +onlyGivenNames -underBinder -merge y6
    have hy6 : Keeps F a y6 := by
      unfold y6
      refine Keeps.upd_prt (maskSub hF rfl) ?_
      assumption
    try clear_value y6
    refine State.wr_keeps (maskSub hF rfl) ?_
    assumption
  · extract_lets +onlyGivenNames -underBinder -merge y7
    try clear_value y7
    extract_lets +onlyGivenNames -underBinder -merge y8
    have hy8 : Keeps F a y8 := by
      unfold y8
      refine State.wr_keeps (maskSub hF rfl) ?_
      assumption
    try clear_value y8
    extract_lets +onlyGivenNames -underBinder -merge y9
    try clear_value y9
    extract_lets +onlyGivenNames -underBinder -merge y10
    try clear_value y10
    extract_lets +onlyGivenNames -underBinder -merge y11
    try clear_value y11
    extract_lets +onlyGivenNames -underBinder -merge y12
    have hy12 : Keeps F a y12 := by
      unfold y12
      refine Keeps.upd_prt (maskSub hF rfl) ?_
      assumption
    try clear_value y12
    extract_lets +onlyGivenNames -underBinder -merge y13
    have hy13 : Keeps F a y13 := by
      unfold y13
      refine Keeps.ite ?_ ?_
      · refine State.startSlow_keeps (maskSub hF rfl) ?_
        assumption
      · assumption
    try clear_value y13
    extract_lets +onlyGivenNames -underBinder -merge y14
    have hy14 : Keeps F a y14 := by
      unfold y14
      refine Keeps.ite ?_ ?_
      · refine State.stepSlow_keeps (maskSub hF rfl) ?_
        assumption
      · refine State.wr_keeps (maskSub hF rfl) ?_
        assumption
    try clear_value y14
    refine State.settle_keeps (maskSub hF rfl) ?_
    assumption

theorem execGuardDigest_keeps {F : Nat} {a s : State} (hF : F ||| 33024 = F) (h : Keeps F a s) :
    ∃ t, execGuardDigest s = .next t ∧ Keeps F a t := by
  refine ⟨_, rfl, ?_⟩
  split
  · refine Keeps.upd (s := s) ?_ id rfl le_rfl List.suffix_rfl le_rfl (FirnStep.refl _)
       (.inr rfl) (.inr rfl) (.inr rfl) (.inr rfl) (.inr rfl) (.inr rfl) (.inr rfl) (.inr rfl) (.inl (maskSub hF rfl)) (.inr rfl) (.inr rfl)
       (.inr rfl) (.inr rfl) (.inr rfl) (.inr rfl) (.inl (maskSub hF rfl)) (.inr rfl) (.inr rfl) (.inr rfl) (.inr rfl) (.inr rfl) (.inr rfl)
       (.inr rfl) (.inr rfl) (.inr rfl) (.inr rfl) (.inr rfl)
    assumption
  · assumption

theorem execDieHard_keeps {F : Nat} {a s : State} {x0} (hF : F ||| 58753032 = F) (h : Keeps F a s) :
    ∃ t, execDieHard x0 s = .next t ∧ Keeps F a t := by
  refine ⟨_, rfl, ?_⟩
  extract_lets +onlyGivenNames -underBinder -merge y0
  try clear_value y0
  refine Keeps.ite ?_ ?_
  · assumption
  · refine State.startDieHard_keeps (maskSub hF rfl) ?_
    refine Keeps.upd_prt (maskSub hF rfl) ?_
    assumption

theorem execDigestLost_keeps {F : Nat} {a s : State} (hF : F ||| 58753032 = F) (h : Keeps F a s) :
    ∃ t, execDigestLost s = .next t ∧ Keeps F a t := by
  refine ⟨_, rfl, ?_⟩
  refine Keeps.ite ?_ ?_
  · extract_lets +onlyGivenNames -underBinder -merge y0
    try clear_value y0
    extract_lets +onlyGivenNames -underBinder -merge y1
    have hy1 : Keeps F a y1 := by
      unfold y1
      refine Keeps.upd_prt (maskSub hF rfl) ?_
      assumption
    try clear_value y1
    extract_lets +onlyGivenNames -underBinder -merge y2
    have hy2 : Keeps F a y2 := by
      unfold y2
      refine Keeps.foldl ?_ ?_
      · assumption
      · intro x4 x5 h3
        beta_reduce
        refine State.rackAlarm_keeps (maskSub hF rfl) ?_
        refine State.rackAlarm_keeps (maskSub hF rfl) ?_
        assumption
    try clear_value y2
    extract_lets +onlyGivenNames -underBinder -merge y6
    have hy6 : Keeps F a y6 := by
      unfold y6
      refine State.startLoop_keeps (maskSub hF rfl) ?_
      refine State.set_keeps (maskSub hF rfl) ?_
      assumption
    try clear_value y6
    refine State.settle_keeps (maskSub hF rfl) ?_
    refine State.watchLost_keeps (maskSub hF rfl) ?_
    assumption
  · assumption

theorem execLimHard_keeps {F : Nat} {a s : State} {x0} (hF : F ||| 58753032 = F) (h : Keeps F a s) :
    ∃ t, execLimHard x0 s = .next t ∧ Keeps F a t := by
  refine ⟨_, rfl, ?_⟩
  refine Keeps.ite ?_ ?_
  · refine State.limHard_keeps (maskSub hF rfl) ?_
    assumption
  · assumption

theorem execLoopLimHard_keeps {F : Nat} {a s : State} {x0} (hF : F ||| 58753032 = F) (h : Keeps F a s) :
    ∃ t, execLoopLimHard x0 s = .next t ∧ Keeps F a t := by
  refine ⟨_, rfl, ?_⟩
  refine Keeps.ite ?_ ?_
  · refine State.limHard_keeps (maskSub hF rfl) ?_
    assumption
  · assumption

theorem execSupHard_keeps {F : Nat} {a s : State} (hF : F ||| 58753032 = F) (h : Keeps F a s) :
    ∃ t, execSupHard s = .next t ∧ Keeps F a t := by
  refine ⟨_, rfl, ?_⟩
  refine Keeps.ite ?_ ?_
  · refine State.limHard_keeps (maskSub hF rfl) ?_
    assumption
  · assumption

theorem State.endLimits_keeps {F : Nat} {a s : State} {x1} (hF : F ||| 32768 = F) (h : Keeps F a s) :
    Keeps F a (State.endLimits s x1) := by
  unfold State.endLimits
  extract_lets +onlyGivenNames -underBinder -merge y0
  try clear_value y0
  refine Keeps.upd_prt (maskSub hF rfl) ?_
  assumption

theorem State.endRack_keeps {F : Nat} {a s : State} {x1 x2} (hF : F ||| 58753032 = F) (h : Keeps F a s) :
    Keeps F a (State.endRack s x1 x2) := by
  unfold State.endRack
  extract_lets +onlyGivenNames -underBinder -merge y0
  have hy0 : Keeps F a y0 := by
    unfold y0
    refine State.setBit_keeps (maskSub hF rfl) ?_
    assumption
  try clear_value y0
  extract_lets +onlyGivenNames -underBinder -merge y1
  try clear_value y1
  extract_lets +onlyGivenNames -underBinder -merge y2
  have hy2 : Keeps F a y2 := by
    unfold y2
    refine State.setRackP_keeps (maskSub hF rfl) ?_
    assumption
  try clear_value y2
  extract_lets +onlyGivenNames -underBinder -merge y3
  try clear_value y3
  extract_lets +onlyGivenNames -underBinder -merge y4
  have hy4 : Keeps F a y4 := by
    unfold y4
    refine Keeps.ite ?_ ?_
    · refine State.setRackP_keeps (maskSub hF rfl) ?_
      assumption
    · assumption
  try clear_value y4
  extract_lets +onlyGivenNames -underBinder -merge y5
  have hy5 : Keeps F a y5 := by
    unfold y5
    refine Keeps.ite ?_ ?_
    · refine State.endLimits_keeps (maskSub hF rfl) ?_
      assumption
    · assumption
  try clear_value y5
  refine State.leaveProtect_keeps (maskSub hF rfl) ?_
  refine State.settle_keeps (maskSub hF rfl) ?_
  refine State.raise_keeps (maskSub hF rfl) ?_
  assumption

theorem State.endLoop_keeps {F : Nat} {a s : State} {x1} (hF : F ||| 58753032 = F) (h : Keeps F a s) :
    Keeps F a (State.endLoop s x1) := by
  unfold State.endLoop
  extract_lets +onlyGivenNames -underBinder -merge y0
  have hy0 : Keeps F a y0 := by
    unfold y0
    refine State.setBit_keeps (maskSub hF rfl) ?_
    assumption
  try clear_value y0
  extract_lets +onlyGivenNames -underBinder -merge y1
  try clear_value y1
  extract_lets +onlyGivenNames -underBinder -merge y2
  have hy2 : Keeps F a y2 := by
    unfold y2
    refine Keeps.upd_prt (maskSub hF rfl) ?_
    assumption
  try clear_value y2
  extract_lets +onlyGivenNames -underBinder -merge y3
  have hy3 : Keeps F a y3 := by
    unfold y3
    split
    · refine State.wr_keeps (maskSub hF rfl) ?_
      refine Keeps.upd_prt (maskSub hF rfl) ?_
      assumption
    · refine Keeps.upd_prt (maskSub hF rfl) ?_
      assumption
    · refine State.endLimits_keeps (maskSub hF rfl) ?_
      assumption
    · refine State.endLimits_keeps (maskSub hF rfl) ?_
      assumption
    · refine Keeps.upd_prt (maskSub hF rfl) ?_
      assumption
    · assumption
  try clear_value y3
  refine State.leaveProtect_keeps (maskSub hF rfl) ?_
  refine State.settle_keeps (maskSub hF rfl) ?_
  refine State.raise_keeps (maskSub hF rfl) ?_
  assumption

theorem execSequenceEnd_keeps {F : Nat} {a s : State} {x0} (hF : F ||| 58753032 = F) (h : Keeps F a s) :
    ∃ t, execSequenceEnd x0 s = .next t ∧ Keeps F a t := by
  refine ⟨_, rfl, ?_⟩
  split
  · refine Keeps.ite ?_ ?_
    · refine State.endRack_keeps (maskSub hF rfl) ?_
      assumption
    · assumption
  · refine Keeps.ite ?_ ?_
    · refine State.endLoop_keeps (maskSub hF rfl) ?_
      assumption
    · assumption

theorem execPoweroffNoticeRepeat_keeps {F : Nat} {a s : State} {x0} (hF : F ||| 8421384 = F) (h : Keeps F a s) :
    ∃ t, execPoweroffNoticeRepeat x0 s = .next t ∧ Keeps F a t := by
  refine ⟨_, rfl, ?_⟩
  extract_lets +onlyGivenNames -underBinder -merge y0
  try clear_value y0
  refine Keeps.ite ?_ ?_
  · refine State.powerOff_keeps (maskSub hF rfl) ?_
    assumption
  · assumption

theorem execFullcoolAutoExit_keeps {F : Nat} {a s : State} (hF : F ||| 58753032 = F) (h : Keeps F a s) :
    ∃ t, execFullcoolAutoExit s = .next t ∧ Keeps F a t := by
  refine ⟨_, rfl, ?_⟩
  refine Keeps.ite ?_ ?_
  · refine State.leaveFullcool_keeps (maskSub hF rfl) ?_
    assumption
  · assumption

theorem State.ackOne_keeps {F : Nat} {a s : State} {x1 x2} (hF : F ||| 58757128 = F) (h : Keeps F a s) :
    Keeps F a (State.ackOne s x1 x2) := by
  unfold State.ackOne
  split
  · refine State.settle_keeps (maskSub hF rfl) ?_
    refine State.set_keeps (maskSub hF rfl) ?_
    assumption
  · refine State.settle_keeps (maskSub hF rfl) ?_
    refine State.set_keeps (maskSub hF rfl) ?_
    assumption
  · refine Keeps.upd_field (maskSub hF rfl) ?_
    assumption
  · refine State.set_keeps (maskSub hF rfl) ?_
    assumption

theorem State.ackAll_keeps {F : Nat} {a s : State} (hF : F ||| 58757128 = F) (h : Keeps F a s) :
    Keeps F a (State.ackAll s) := by
  unfold State.ackAll
  extract_lets +onlyGivenNames -underBinder -merge y0
  have hy0 : Keeps F a y0 := by
    unfold y0
    refine Keeps.foldl ?_ ?_
    · assumption
    · intro x2 x3 h1
      beta_reduce
      refine State.set_keeps (maskSub hF rfl) ?_
      assumption
  try clear_value y0
  extract_lets +onlyGivenNames -underBinder -merge y4
  have hy4 : Keeps F a y4 := by
    unfold y4
    refine Keeps.foldl ?_ ?_
    · refine State.set_keeps (maskSub hF rfl) ?_
      assumption
    · intro x6 x7 h5
      beta_reduce
      refine State.set_keeps (maskSub hF rfl) ?_
      assumption
  try clear_value y4
  refine State.settle_keeps (maskSub hF rfl) ?_
  refine Keeps.upd_field (maskSub hF rfl) ?_
  assumption

theorem State.protAck_keeps {F : Nat} {a s : State} {x1} (hF : F ||| 58757128 = F) (h : Keeps F a s) :
    Keeps F a (State.protAck s x1) := by
  unfold State.protAck
  refine Keeps.ite ?_ ?_
  · refine State.ackAll_keeps (maskSub hF rfl) ?_
    assumption
  · refine State.ackOne_keeps (maskSub hF rfl) ?_
    assumption

theorem State.writeLimCfg_keeps {F : Nat} {a s : State} {x1 x2} (hF : F ||| 33587200 = F) (h : Keeps F a s) :
    Keeps F a (State.writeLimCfg s x1 x2) := by
  unfold State.writeLimCfg
  extract_lets +onlyGivenNames -underBinder -merge y0
  have hy0 : Keeps F a y0 := by
    unfold y0
    refine State.plainWrite_keeps (maskSub hF rfl) ?_
    assumption
  try clear_value y0
  extract_lets +onlyGivenNames -underBinder -merge y1
  have hy1 : Keeps F a y1 := by
    unfold y1
    refine Keeps.ite ?_ ?_
    · refine State.set_keeps (maskSub hF rfl) ?_
      assumption
    · assumption
  try clear_value y1
  extract_lets +onlyGivenNames -underBinder -merge y2
  try clear_value y2
  extract_lets +onlyGivenNames -underBinder -merge y3
  have hy3 : Keeps F a y3 := by
    unfold y3
    refine State.setLimP_keeps (maskSub hF rfl) ?_
    assumption
  try clear_value y3
  refine Keeps.ite ?_ ?_
  · refine State.wr_keeps (maskSub hF rfl) ?_
    assumption
  · assumption

theorem execPrtAck_keeps {F : Nat} {a s : State} {x0 x1} (hF : F ||| 58757128 = F) (h : Keeps F a s) :
    ∃ t, execPrtAck x0 x1 s = .next t ∧ Keeps F a t := by
  refine ⟨_, rfl, ?_⟩
  refine State.writeRow_keeps (maskSub hF rfl) ?_ ?_
  · assumption
  · intro x1 h0
    beta_reduce
    refine State.protAck_keeps (maskSub hF rfl) ?_
    assumption

theorem State.protCommand_keeps {F : Nat} {a s : State} {x1 x2} (hF : F ||| 58753032 = F) (h : Keeps F a s) :
    Keeps F a (State.protCommand s x1 x2) := by
  unfold State.protCommand
  split
  · refine State.enterFullcool_keeps (maskSub hF rfl) ?_
    assumption
  · extract_lets +onlyGivenNames -underBinder -merge y0
    try clear_value y0
    extract_lets +onlyGivenNames -underBinder -merge y1
    have hy1 : Keeps F a y1 := by
      unfold y1
      refine State.setRackP_keeps (maskSub hF rfl) ?_
      assumption
    try clear_value y1
    refine State.settle_keeps (maskSub hF rfl) ?_
    refine State.setRackP_keeps (maskSub hF rfl) ?_
    refine State.startLeak_keeps (maskSub hF rfl) ?_
    assumption
  · refine State.settle_keeps (maskSub hF rfl) ?_
    refine State.startRack_keeps (maskSub hF rfl) ?_
    assumption

theorem State.protOrRecord_keeps {F : Nat} {a s : State} {x1 x2} (hF : F ||| 58753032 = F) (h : Keeps F a s) :
    Keeps F a (State.protOrRecord s x1 x2) := by
  unfold State.protOrRecord
  refine Keeps.ite ?_ ?_
  · refine State.protCommand_keeps (maskSub hF rfl) ?_
    assumption
  · refine Keeps.upd_prt (maskSub hF rfl) ?_
    assumption

theorem State.actRecorded_keeps {F : Nat} {a s : State} (hF : F ||| 58753032 = F) (h : Keeps F a s) :
    Keeps F a (State.actRecorded s) := by
  unfold State.actRecorded
  extract_lets +onlyGivenNames -underBinder -merge y0
  try clear_value y0
  extract_lets +onlyGivenNames -underBinder -merge y1
  try clear_value y1
  extract_lets +onlyGivenNames -underBinder -merge y2
  have hy2 : Keeps F a y2 := by
    unfold y2
    refine Keeps.upd_prt (maskSub hF rfl) ?_
    assumption
  try clear_value y2
  refine Keeps.foldl ?_ ?_
  · assumption
  · intro x4 x5 h3
    beta_reduce
    refine State.protCommand_keeps (maskSub hF rfl) ?_
    assumption

theorem judgeProt_keeps {F : Nat} {a s : State} {x0 x1 x2 x3} (hF : F ||| 58753032 = F)  :
    JudgeKeeps F a (judgeProt x0 x1 x2 x3 s) := by
  unfold judgeProt
  refine JudgeKeeps.mk ?_
  intro x1 x2 h0
  beta_reduce
  refine Keeps.p1 ?_
  refine State.protOrRecord_keeps (maskSub hF rfl) ?_
  assumption

theorem execFullcoolEnter_keeps {F : Nat} {a s : State} {x0} (hF : F ||| 58753032 = F) (h : Keeps F a s) :
    ∃ t, execFullcoolEnter x0 s = .next t ∧ Keeps F a t := by
  refine ⟨_, rfl, ?_⟩
  refine State.requestNow_keeps (maskSub hF rfl) ?_ ?_
  · assumption
  · intro _ _
    beta_reduce
    refine judgeProt_keeps (maskSub hF rfl)

theorem execRackIsolate_keeps {F : Nat} {a s : State} {x0 x1} (hF : F ||| 58753032 = F) (h : Keeps F a s) :
    ∃ t, execRackIsolate x0 x1 s = .next t ∧ Keeps F a t := by
  refine ⟨_, rfl, ?_⟩
  refine State.requestNow_keeps (maskSub hF rfl) ?_ ?_
  · assumption
  · intro _ _
    beta_reduce
    refine judgeProt_keeps (maskSub hF rfl)

theorem execRackTrip_keeps {F : Nat} {a s : State} {x0 x1} (hF : F ||| 58753032 = F) (h : Keeps F a s) :
    ∃ t, execRackTrip x0 x1 s = .next t ∧ Keeps F a t := by
  refine ⟨_, rfl, ?_⟩
  refine State.requestNow_keeps (maskSub hF rfl) ?_ ?_
  · assumption
  · intro _ _
    beta_reduce
    refine judgeProt_keeps (maskSub hF rfl)

theorem judgeFcExit_keeps {F : Nat} {a s : State} {x0} (hF : F ||| 58753032 = F)  :
    JudgeKeeps F a (judgeFcExit x0 s) := by
  unfold judgeFcExit
  refine JudgeKeeps.mk ?_
  intro x1 x2 h0
  beta_reduce
  refine Keeps.p1 ?_
  refine State.leaveFullcool_keeps (maskSub hF rfl) ?_
  assumption

theorem execFullcoolExit_keeps {F : Nat} {a s : State} {x0} (hF : F ||| 58753032 = F) (h : Keeps F a s) :
    ∃ t, execFullcoolExit x0 s = .next t ∧ Keeps F a t := by
  refine ⟨_, rfl, ?_⟩
  refine State.request_keeps (maskSub hF rfl) ?_ ?_
  · assumption
  · intro _ _
    beta_reduce
    refine judgeFcExit_keeps (maskSub hF rfl)

theorem State.ackCmd_keeps {F : Nat} {a s : State} {x1 x2} (hF : F ||| 58757384 = F) (h : Keeps F a s) :
    Keeps F a (State.ackCmd s x1 x2) := by
  unfold State.ackCmd
  split
  · refine State.streamAck_keeps (maskSub hF rfl) ?_
    assumption
  · refine Keeps.ite ?_ ?_
    · refine State.ackAll_keeps (maskSub hF rfl) ?_
      assumption
    · refine State.streamAck_keeps (maskSub hF rfl) ?_
      refine State.ackAll_keeps (maskSub hF rfl) ?_
      assumption
  · refine State.ackOne_keeps (maskSub hF rfl) ?_
    assumption

theorem judgeAck_keeps {F : Nat} {a s : State} {x0 x1 x2} (hF : F ||| 58757384 = F)  :
    JudgeKeeps F a (judgeAck x0 x1 x2 s) := by
  unfold judgeAck
  refine JudgeKeeps.mk ?_
  intro x1 x2 h0
  beta_reduce
  refine Keeps.p1 ?_
  refine State.ackCmd_keeps (maskSub hF rfl) ?_
  assumption

theorem execAck_keeps {F : Nat} {a s : State} {x0 x1 x2} (hF : F ||| 58757384 = F) (h : Keeps F a s) :
    ∃ t, execAck x0 x1 x2 s = .next t ∧ Keeps F a t := by
  refine ⟨_, rfl, ?_⟩
  refine State.request_keeps (maskSub hF rfl) ?_ ?_
  · assumption
  · intro _ _
    beta_reduce
    refine judgeAck_keeps (maskSub hF rfl)

theorem judgeSetpoint_keeps {F : Nat} {a s : State} {x0 x1 x2} (hF : F ||| 64 = F)  :
    JudgeKeeps F a (judgeSetpoint x0 x1 x2 s) := by
  unfold judgeSetpoint
  refine JudgeKeeps.mk ?_
  intro x1 x2 h0
  beta_reduce
  refine Keeps.p1 ?_
  refine Keeps.upd_waitWrites (maskSub hF rfl) ?_
  assumption

theorem execSetpoint_keeps {F : Nat} {a s : State} {x0 x1 x2} (hF : F ||| 58720328 = F) (h : Keeps F a s) :
    ∃ t, execSetpoint x0 x1 x2 s = .next t ∧ Keeps F a t := by
  refine ⟨_, rfl, ?_⟩
  refine State.request_keeps (maskSub hF rfl) ?_ ?_
  · assumption
  · intro _ _
    beta_reduce
    refine judgeSetpoint_keeps (maskSub hF rfl)

end Sys2Proof.Machine
end

