-- ==== Sys2Proof/Laws/KeepsPlan.lean ====
section
/-! SUPPORT. What each operation and each command of pod links, jobs, ceilings and transfers may change, as `Keeps` says it. -/

namespace Sys2Proof.Machine

/-! ### Can -/

theorem State.setCan_keeps {F : Nat} {a s : State} {x1} (hF : F ||| 65536 = F) (h : Keeps F a s) :
    Keeps F a (State.setCan s x1) := by
  unfold State.setCan
  refine Keeps.upd_can (maskSub hF rfl) ?_
  assumption

theorem State.zeroErrors_keeps {F : Nat} {a s : State} {x1} (hF : F ||| 33554432 = F) (h : Keeps F a s) :
    Keeps F a (State.zeroErrors s x1) := by
  unfold State.zeroErrors
  refine State.wr_keeps (maskSub hF rfl) ?_
  assumption

theorem State.startAuto_keeps {F : Nat} {a s : State} {x1} (hF : F ||| 33619968 = F) (h : Keeps F a s) :
    Keeps F a (State.startAuto s x1) := by
  unfold State.startAuto
  extract_lets +onlyGivenNames -underBinder -merge y0
  have hy0 : Keeps F a y0 := by
    unfold y0
    refine State.set_keeps (maskSub hF rfl) ?_
    refine State.set_keeps (maskSub hF rfl) ?_
    assumption
  try clear_value y0
  refine State.setCan_keeps (maskSub hF rfl) ?_
  assumption

theorem State.busModeFrom_keeps {F : Nat} {a s : State} {x1 x2} (hF : F ||| 33619968 = F) (h : Keeps F a s) :
    Keeps F a (State.busModeFrom s x1 x2) := by
  unfold State.busModeFrom
  extract_lets +onlyGivenNames -underBinder -merge y0
  try clear_value y0
  refine Keeps.ite ?_ ?_
  · assumption
  · extract_lets +onlyGivenNames -underBinder -merge y1
    have hy1 : Keeps F a y1 := by
      unfold y1
      refine State.zeroErrors_keeps (maskSub hF rfl) ?_
      assumption
    try clear_value y1
    extract_lets +onlyGivenNames -underBinder -merge y2
    try clear_value y2
    extract_lets +onlyGivenNames -underBinder -merge y3
    have hy3 : Keeps F a y3 := by
      unfold y3
      refine State.setCan_keeps (maskSub hF rfl) ?_
      assumption
    try clear_value y3
    extract_lets +onlyGivenNames -underBinder -merge y4
    have hy4 : Keeps F a y4 := by
      unfold y4
      refine State.set_keeps (maskSub hF rfl) ?_
      refine State.set_keeps (maskSub hF rfl) ?_
      assumption
    try clear_value y4
    extract_lets +onlyGivenNames -underBinder -merge y5
    try clear_value y5
    extract_lets +onlyGivenNames -underBinder -merge y6
    have hy6 : Keeps F a y6 := by
      unfold y6
      refine Keeps.ite ?_ ?_
      · refine State.setCan_keeps (maskSub hF rfl) ?_
        assumption
      · refine Keeps.ite ?_ ?_
        · refine State.set_keeps (maskSub hF rfl) ?_
          assumption
        · assumption
    try clear_value y6
    refine Keeps.ite ?_ ?_
    · refine State.startAuto_keeps (maskSub hF rfl) ?_
      assumption
    · assumption

theorem State.writeBusCtrl_keeps {F : Nat} {a s : State} {x1 x2} (hF : F ||| 33619968 = F) (h : Keeps F a s) :
    Keeps F a (State.writeBusCtrl s x1 x2) := by
  unfold State.writeBusCtrl
  refine State.busModeFrom_keeps (maskSub hF rfl) ?_
  refine State.plainWrite_keeps (maskSub hF rfl) ?_
  assumption

theorem execCanModeWrite_keeps {F : Nat} {a s : State} {x0 x1 x2} (hF : F ||| 58785800 = F) (h : Keeps F a s) :
    ∃ t, execCanModeWrite x0 x1 x2 s = .next t ∧ Keeps F a t := by
  refine ⟨_, rfl, ?_⟩
  refine State.writeRow_keeps (maskSub hF rfl) ?_ ?_
  · assumption
  · intro x1 h0
    beta_reduce
    refine State.writeBusCtrl_keeps (maskSub hF rfl) ?_
    assumption

theorem State.autoFound_keeps {F : Nat} {a s : State} {x1 x2 x3} (hF : F ||| 117506048 = F) (h : Keeps F a s) :
    Keeps F a (State.autoFound s x1 x2 x3) := by
  unfold State.autoFound
  extract_lets +onlyGivenNames -underBinder -merge y0
  have hy0 : Keeps F a y0 := by
    unfold y0
    refine State.wr_keeps (maskSub hF rfl) ?_
    assumption
  try clear_value y0
  extract_lets +onlyGivenNames -underBinder -merge y1
  have hy1 : Keeps F a y1 := by
    unfold y1
    split
    · assumption
    · extract_lets +onlyGivenNames -underBinder -merge y2
      have hy22 : Keeps F a y2.2 := by
        unfold y2
        refine State.free_keeps (maskSub hF rfl) ?_
        assumption
      try clear_value y2
      refine State.wr_keeps (maskSub hF rfl) ?_
      assumption
  try clear_value y1
  extract_lets +onlyGivenNames -underBinder -merge y3
  try clear_value y3
  extract_lets +onlyGivenNames -underBinder -merge y4
  have hy4 : Keeps F a y4 := by
    unfold y4
    refine State.setCan_keeps (maskSub hF rfl) ?_
    assumption
  try clear_value y4
  refine State.raise_keeps (maskSub hF rfl) ?_
  refine State.set_keeps (maskSub hF rfl) ?_
  assumption

theorem State.autoFrame_keeps {F : Nat} {a s : State} {x1 x2 x3} (hF : F ||| 117506048 = F) (h : Keeps F a s) :
    Keeps F a (State.autoFrame s x1 x2 x3) := by
  unfold State.autoFrame
  split
  · assumption
  · refine Keeps.ite ?_ ?_
    · refine State.setCan_keeps (maskSub hF rfl) ?_
      assumption
    · extract_lets +onlyGivenNames -underBinder -merge y0
      try clear_value y0
      refine Keeps.ite ?_ ?_
      · refine State.autoFound_keeps (maskSub hF rfl) ?_
        assumption
      · refine State.setCan_keeps (maskSub hF rfl) ?_
        assumption

theorem State.autoDwell_keeps {F : Nat} {a s : State} {x1} (hF : F ||| 65536 = F) (h : Keeps F a s) :
    Keeps F a (State.autoDwell s x1) := by
  unfold State.autoDwell
  split
  · assumption
  · refine Keeps.ite ?_ ?_
    · refine State.setCan_keeps (maskSub hF rfl) ?_
      assumption
    · assumption

theorem execCanAutoDwellTimeout_keeps {F : Nat} {a s : State} {x0} (hF : F ||| 65536 = F) (h : Keeps F a s) :
    ∃ t, execCanAutoDwellTimeout x0 s = .next t ∧ Keeps F a t := by
  refine ⟨_, rfl, ?_⟩
  refine State.autoDwell_keeps (maskSub hF rfl) ?_
  assumption

theorem State.autoTimeout_keeps {F : Nat} {a s : State} {x1} (hF : F ||| 117506048 = F) (h : Keeps F a s) :
    Keeps F a (State.autoTimeout s x1) := by
  unfold State.autoTimeout
  split
  · assumption
  · refine Keeps.ite ?_ ?_
    · refine Keeps.ite ?_ ?_
      · refine State.autoFound_keeps (maskSub hF rfl) ?_
        assumption
      · extract_lets +onlyGivenNames -underBinder -merge y0
        try clear_value y0
        extract_lets +onlyGivenNames -underBinder -merge y1
        have hy1 : Keeps F a y1 := by
          unfold y1
          refine State.setCan_keeps (maskSub hF rfl) ?_
          assumption
        try clear_value y1
        refine State.raise_keeps (maskSub hF rfl) ?_
        refine State.set_keeps (maskSub hF rfl) ?_
        assumption
    · assumption

theorem execCanAutoTimeout_keeps {F : Nat} {a s : State} {x0} (hF : F ||| 117506048 = F) (h : Keeps F a s) :
    ∃ t, execCanAutoTimeout x0 s = .next t ∧ Keeps F a t := by
  refine ⟨_, rfl, ?_⟩
  refine State.autoTimeout_keeps (maskSub hF rfl) ?_
  assumption

theorem State.canReceive_keeps {F : Nat} {a s : State} {x1 x2} (hF : F ||| 33619968 = F) (h : Keeps F a s) :
    Keeps F a (State.canReceive s x1 x2) := by
  unfold State.canReceive
  extract_lets +onlyGivenNames -underBinder -merge y0
  have hy0 : Keeps F a y0 := by
    unfold y0
    refine State.count_keeps (maskSub hF rfl) ?_
    assumption
  try clear_value y0
  split
  · refine State.count_keeps (maskSub hF rfl) ?_
    assumption
  · refine State.setCan_keeps (maskSub hF rfl) ?_
    assumption

theorem execCanFrameReceived_keeps {F : Nat} {a s : State} {x0 x1 x2} (hF : F ||| 117506048 = F) (h : Keeps F a s) :
    ∃ t, execCanFrameReceived x0 x1 x2 s = .next t ∧ Keeps F a t := by
  refine ⟨_, rfl, ?_⟩
  refine Keeps.ite ?_ ?_
  · refine State.autoFrame_keeps (maskSub hF rfl) ?_
    refine State.canReceive_keeps (maskSub hF rfl) ?_
    assumption
  · assumption

theorem State.wrAll_keeps {F : Nat} {a s : State} {x1 x2} (hF : F ||| 33554432 = F) (h : Keeps F a s) :
    Keeps F a (State.wrAll s x1 x2) := by
  induction x2 generalizing s x1 with
  | nil => exact h
  | cons w t ih => exact ih (State.wr_keeps hF h)

theorem State.podTake_keeps {F : Nat} {a s : State} {x1 x2 x3 x4} (hF : F ||| 33619968 = F) (h : Keeps F a s) :
    Keeps F a (State.podTake s x1 x2 x3 x4) := by
  unfold State.podTake
  refine Keeps.ite ?_ ?_
  · split
    · assumption
    · refine State.setCan_keeps (maskSub hF rfl) ?_
      refine State.wr_keeps (maskSub hF rfl) ?_
      assumption
  · assumption

theorem State.podFresh_keeps {F : Nat} {a s : State} {x1 x2 x3} (hF : F ||| 33619968 = F) (h : Keeps F a s) :
    Keeps F a (State.podFresh s x1 x2 x3) := by
  unfold State.podFresh
  extract_lets +onlyGivenNames -underBinder -merge y0
  have hy0 : Keeps F a y0 := by
    unfold y0
    refine Keeps.ite ?_ ?_
    · refine State.set_keeps (maskSub hF rfl) ?_
      assumption
    · assumption
  try clear_value y0
  extract_lets +onlyGivenNames -underBinder -merge y1
  have hy1 : Keeps F a y1 := by
    unfold y1
    refine State.wr_keeps (maskSub hF rfl) ?_
    assumption
  try clear_value y1
  refine Keeps.foldl ?_ ?_
  · assumption
  · intro x3 x4 h2
    beta_reduce
    refine State.podTake_keeps (maskSub hF rfl) ?_
    assumption

theorem State.driveFresh_keeps {F : Nat} {a s : State} {x1 x2} (hF : F ||| 33619968 = F) (h : Keeps F a s) :
    Keeps F a (State.driveFresh s x1 x2) := by
  unfold State.driveFresh
  extract_lets +onlyGivenNames -underBinder -merge y0
  try clear_value y0
  extract_lets +onlyGivenNames -underBinder -merge y1
  have hy1 : Keeps F a y1 := by
    unfold y1
    refine State.wr_keeps (maskSub hF rfl) ?_
    assumption
  try clear_value y1
  extract_lets +onlyGivenNames -underBinder -merge y2
  have hy2 : Keeps F a y2 := by
    unfold y2
    refine State.set_keeps (maskSub hF rfl) ?_
    assumption
  try clear_value y2
  refine State.setCan_keeps (maskSub hF rfl) ?_
  assumption

theorem State.showFrame_keeps {F : Nat} {a s : State} {x1 x2 x3} (hF : F ||| 100728832 = F) (h : Keeps F a s) :
    Keeps F a (State.showFrame s x1 x2 x3) := by
  unfold State.showFrame
  extract_lets +onlyGivenNames -underBinder -merge y0
  try clear_value y0
  extract_lets +onlyGivenNames -underBinder -merge y1
  have hy1 : Keeps F a y1 := by
    unfold y1
    refine Keeps.ite ?_ ?_
    · refine State.count_keeps (maskSub hF rfl) ?_
      assumption
    · assumption
  try clear_value y1
  extract_lets +onlyGivenNames -underBinder -merge y2
  try clear_value y2
  extract_lets +onlyGivenNames -underBinder -merge y3
  have hy32 : Keeps F a y3.2 := by
    unfold y3
    refine State.free_keeps (maskSub hF rfl) ?_
    assumption
  try clear_value y3
  extract_lets +onlyGivenNames -underBinder -merge y4
  have hy4 : Keeps F a y4 := by
    unfold y4
    assumption
  try clear_value y4
  extract_lets +onlyGivenNames -underBinder -merge y5
  have hy5 : Keeps F a y5 := by
    unfold y5
    refine State.wr_keeps (maskSub hF rfl) ?_
    refine State.wr_keeps (maskSub hF rfl) ?_
    refine State.wr_keeps (maskSub hF rfl) ?_
    assumption
  try clear_value y5
  extract_lets +onlyGivenNames -underBinder -merge y6
  have hy6 : Keeps F a y6 := by
    unfold y6
    refine State.wrAll_keeps (maskSub hF rfl) ?_
    assumption
  try clear_value y6
  extract_lets +onlyGivenNames -underBinder -merge y7
  try clear_value y7
  extract_lets +onlyGivenNames -underBinder -merge y8
  try clear_value y8
  extract_lets +onlyGivenNames -underBinder -merge y9
  try clear_value y9
  extract_lets +onlyGivenNames -underBinder -merge y10
  try clear_value y10
  refine Keeps.ite ?_ ?_
  · assumption
  · split
    · extract_lets +onlyGivenNames -underBinder -merge y11
      try clear_value y11
      extract_lets +onlyGivenNames -underBinder -merge y12
      have hy12 : Keeps F a y12 := by
        unfold y12
        refine State.setCan_keeps (maskSub hF rfl) ?_
        assumption
      try clear_value y12
      refine Keeps.ite ?_ ?_
      · assumption
      · refine State.podFresh_keeps (maskSub hF rfl) ?_
        assumption
    · split
      · refine State.driveFresh_keeps (maskSub hF rfl) ?_
        refine State.setCan_keeps (maskSub hF rfl) ?_
        assumption
      · assumption

theorem State.showHp_keeps {F : Nat} {a s : State} {x1 x2} (hF : F ||| 117440512 = F) (h : Keeps F a s) :
    Keeps F a (State.showHp s x1 x2) := by
  unfold State.showHp
  extract_lets +onlyGivenNames -underBinder -merge y0
  try clear_value y0
  extract_lets +onlyGivenNames -underBinder -merge y1
  have hy12 : Keeps F a y1.2 := by
    unfold y1
    refine State.free_keeps (maskSub hF rfl) ?_
    assumption
  try clear_value y1
  extract_lets +onlyGivenNames -underBinder -merge y2
  try clear_value y2
  extract_lets +onlyGivenNames -underBinder -merge y3
  have hy3 : Keeps F a y3 := by
    unfold y3
    refine State.wr_keeps (maskSub hF rfl) ?_
    refine State.wr_keeps (maskSub hF rfl) ?_
    refine State.wr_keeps (maskSub hF rfl) ?_
    assumption
  try clear_value y3
  refine State.raise_keeps (maskSub hF rfl) ?_
  refine State.wrAll_keeps (maskSub hF rfl) ?_
  assumption

theorem State.canTick_keeps {F : Nat} {a s : State} (hF : F ||| 117506048 = F) (h : Keeps F a s) :
    Keeps F a (State.canTick s) := by
  unfold State.canTick
  extract_lets +onlyGivenNames -underBinder -merge y0
  try clear_value y0
  extract_lets +onlyGivenNames -underBinder -merge y1
  try clear_value y1
  extract_lets +onlyGivenNames -underBinder -merge y2
  have hy2 : Keeps F a y2 := by
    unfold y2
    refine State.setCan_keeps (maskSub hF rfl) ?_
    assumption
  try clear_value y2
  extract_lets +onlyGivenNames -underBinder -merge y3
  have hfy3 : ∀ v0 v1, Keeps F a v0 → Keeps F a (y3 v0 v1) := by
    intro z4 z5 k6
    unfold y3
    beta_reduce
    split
    · assumption
    · refine Keeps.ite ?_ ?_
      · refine State.showHp_keeps (maskSub hF rfl) ?_
        assumption
      · refine Keeps.ite ?_ ?_
        · refine State.set_keeps (maskSub hF rfl) ?_
          refine State.count_keeps (maskSub hF rfl) ?_
          assumption
        · refine State.showFrame_keeps (maskSub hF rfl) ?_
          assumption
  try clear_value y3
  refine Keeps.foldl ?_ ?_
  · assumption
  · intro x8 x9 h7
    beta_reduce
    refine hfy3 _ _ ?_
    assumption

theorem State.readObj_keeps {F : Nat} {a s : State} {x1 x2} (hF : F ||| 33619968 = F) (h : Keeps F a s) :
    Keeps F a (State.readObj s x1 x2) := by
  unfold State.readObj
  extract_lets +onlyGivenNames -underBinder -merge y0
  try clear_value y0
  extract_lets +onlyGivenNames -underBinder -merge y1
  try clear_value y1
  extract_lets +onlyGivenNames -underBinder -merge y2
  have hy2 : Keeps F a y2 := by
    unfold y2
    refine State.setCan_keeps (maskSub hF rfl) ?_
    assumption
  try clear_value y2
  refine State.set_keeps (maskSub hF rfl) ?_
  refine State.set_keeps (maskSub hF rfl) ?_
  assumption

theorem execObjStatRead_keeps {F : Nat} {a s : State} {x0 x1} (hF : F ||| 33619968 = F) (h : Keeps F a s) :
    ∃ t, execObjStatRead x0 x1 s = .next t ∧ Keeps F a t := by
  refine ⟨_, rfl, ?_⟩
  refine State.readObj_keeps (maskSub hF rfl) ?_
  assumption

theorem State.readHp_keeps {F : Nat} {a s : State} {x1} (hF : F ||| 33619968 = F) (h : Keeps F a s) :
    Keeps F a (State.readHp s x1) := by
  unfold State.readHp
  extract_lets +onlyGivenNames -underBinder -merge y0
  try clear_value y0
  extract_lets +onlyGivenNames -underBinder -merge y1
  try clear_value y1
  extract_lets +onlyGivenNames -underBinder -merge y2
  have hy2 : Keeps F a y2 := by
    unfold y2
    refine State.setCan_keeps (maskSub hF rfl) ?_
    assumption
  try clear_value y2
  refine State.set_keeps (maskSub hF rfl) ?_
  refine State.set_keeps (maskSub hF rfl) ?_
  assumption

theorem execHpStatRead_keeps {F : Nat} {a s : State} {x0} (hF : F ||| 33619968 = F) (h : Keeps F a s) :
    ∃ t, execHpStatRead x0 s = .next t ∧ Keeps F a t := by
  refine ⟨_, rfl, ?_⟩
  refine State.readHp_keeps (maskSub hF rfl) ?_
  assumption

theorem State.txRequest_keeps {F : Nat} {a s : State} {x1 x2} (hF : F ||| 33619968 = F) (h : Keeps F a s) :
    Keeps F a (State.txRequest s x1 x2) := by
  unfold State.txRequest
  extract_lets +onlyGivenNames -underBinder -merge y0
  try clear_value y0
  extract_lets +onlyGivenNames -underBinder -merge y1
  try clear_value y1
  extract_lets +onlyGivenNames -underBinder -merge y2
  have hy2 : Keeps F a y2 := by
    unfold y2
    split
    · refine State.setCan_keeps (maskSub hF rfl) ?_
      assumption
    · refine State.setCan_keeps (maskSub hF rfl) ?_
      assumption
  try clear_value y2
  refine State.set_keeps (maskSub hF rfl) ?_
  refine State.set_keeps (maskSub hF rfl) ?_
  refine State.set_keeps (maskSub hF rfl) ?_
  assumption

theorem State.txAbort_keeps {F : Nat} {a s : State} {x1 x2 x3} (hF : F ||| 33619968 = F) (h : Keeps F a s) :
    Keeps F a (State.txAbort s x1 x2 x3) := by
  unfold State.txAbort
  refine Keeps.ite ?_ ?_
  · extract_lets +onlyGivenNames -underBinder -merge y0
    try clear_value y0
    extract_lets +onlyGivenNames -underBinder -merge y1
    have hy1 : Keeps F a y1 := by
      unfold y1
      refine State.setCan_keeps (maskSub hF rfl) ?_
      assumption
    try clear_value y1
    refine State.set_keeps (maskSub hF rfl) ?_
    refine State.set_keeps (maskSub hF rfl) ?_
    assumption
  · assumption

theorem execCanTxreq_keeps {F : Nat} {a s : State} {x0 x1 x2} (hF : F ||| 58785800 = F) (h : Keeps F a s) :
    ∃ t, execCanTxreq x0 x1 x2 s = .next t ∧ Keeps F a t := by
  refine ⟨_, rfl, ?_⟩
  refine State.writeRow_keeps (maskSub hF rfl) ?_ ?_
  · assumption
  · intro x1 h0
    beta_reduce
    refine Keeps.ite ?_ ?_
    · refine State.txRequest_keeps (maskSub hF rfl) ?_
      assumption
    · assumption

theorem execCanAbort_keeps {F : Nat} {a s : State} {x0 x1 x2 x3} (hF : F ||| 58785800 = F) (h : Keeps F a s) :
    ∃ t, execCanAbort x0 x1 x2 x3 s = .next t ∧ Keeps F a t := by
  refine ⟨_, rfl, ?_⟩
  refine State.writeRow_keeps (maskSub hF rfl) ?_ ?_
  · assumption
  · intro x1 h0
    beta_reduce
    refine Keeps.ite ?_ ?_
    · refine State.txAbort_keeps (maskSub hF rfl) ?_
      assumption
    · assumption

theorem execCanTxComplete_keeps {F : Nat} {a s : State} {x0 x1 x2} (hF : F ||| 42008576 = F) (h : Keeps F a s) :
    ∃ t, execCanTxComplete x0 x1 x2 s = .next t ∧ Keeps F a t := by
  refine ⟨_, rfl, ?_⟩
  split
  · assumption
  · refine Keeps.ite ?_ ?_
    · extract_lets +onlyGivenNames -underBinder -merge y0
      have hfy0 : ∀ v0, Keeps F a v0 → Keeps F a (y0 v0) := by
        intro z1 k2
        unfold y0
        beta_reduce
        refine State.set_keeps (maskSub hF rfl) ?_
        refine State.setCan_keeps (maskSub hF rfl) ?_
        assumption
      try clear_value y0
      split
      · extract_lets +onlyGivenNames -underBinder -merge y3
        have hy3 : Keeps F a y3 := by
          unfold y3
          refine State.count_keeps (maskSub hF rfl) ?_
          refine State.set_keeps (maskSub hF rfl) ?_
          refine hfy0 _ ?_
          assumption
        try clear_value y3
        refine Keeps.ite ?_ ?_
        · refine State.canReceive_keeps (maskSub hF rfl) ?_
          assumption
        · refine State.send_keeps (maskSub hF rfl) ?_
          assumption
      · refine Keeps.ite ?_ ?_
        · refine State.set_keeps (maskSub hF rfl) ?_
          refine hfy0 _ ?_
          assumption
        · assumption
      · extract_lets +onlyGivenNames -underBinder -merge y4
        have hy4 : Keeps F a y4 := by
          unfold y4
          refine State.count_keeps (maskSub hF rfl) ?_
          assumption
        try clear_value y4
        refine Keeps.ite ?_ ?_
        · refine State.set_keeps (maskSub hF rfl) ?_
          refine hfy0 _ ?_
          assumption
        · assumption
    · assumption

theorem State.podsGone_keeps {F : Nat} {a s : State} {x1} (hF : F ||| 33554432 = F) (h : Keeps F a s) :
    Keeps F a (State.podsGone s x1) := by
  unfold State.podsGone
  refine Keeps.foldl ?_ ?_
  · assumption
  · intro x1 x2 h0
    beta_reduce
    refine Keeps.ite ?_ ?_
    · refine State.wr_keeps (maskSub hF rfl) ?_
      assumption
    · assumption

theorem State.busOff_keeps {F : Nat} {a s : State} {x1} (hF : F ||| 50397184 = F) (h : Keeps F a s) :
    Keeps F a (State.busOff s x1) := by
  unfold State.busOff
  extract_lets +onlyGivenNames -underBinder -merge y0
  try clear_value y0
  extract_lets +onlyGivenNames -underBinder -merge y1
  try clear_value y1
  extract_lets +onlyGivenNames -underBinder -merge y2
  have hy2 : Keeps F a y2 := by
    unfold y2
    refine State.setCan_keeps (maskSub hF rfl) ?_
    assumption
  try clear_value y2
  extract_lets +onlyGivenNames -underBinder -merge y3
  have hy3 : Keeps F a y3 := by
    unfold y3
    refine State.raise_keeps (maskSub hF rfl) ?_
    refine State.count_keeps (maskSub hF rfl) ?_
    refine State.set_keeps (maskSub hF rfl) ?_
    assumption
  try clear_value y3
  extract_lets +onlyGivenNames -underBinder -merge y4
  have hy4 : Keeps F a y4 := by
    unfold y4
    refine State.podsGone_keeps (maskSub hF rfl) ?_
    assumption
  try clear_value y4
  refine Keeps.ite ?_ ?_
  · refine State.raise_keeps (maskSub hF rfl) ?_
    refine State.set_keeps (maskSub hF rfl) ?_
    assumption
  · assumption

theorem execCanErrorState_keeps {F : Nat} {a s : State} {x0 x1 x2 x3} (hF : F ||| 50397184 = F) (h : Keeps F a s) :
    ∃ t, execCanErrorState x0 x1 x2 x3 s = .next t ∧ Keeps F a t := by
  refine ⟨_, rfl, ?_⟩
  refine Keeps.ite ?_ ?_
  · assumption
  · extract_lets +onlyGivenNames -underBinder -merge y0
    have hy0 : Keeps F a y0 := by
      unfold y0
      refine State.countBy_keeps (maskSub hF rfl) ?_
      assumption
    try clear_value y0
    extract_lets +onlyGivenNames -underBinder -merge y1
    have hy1 : Keeps F a y1 := by
      unfold y1
      refine State.wr_keeps (maskSub hF rfl) ?_
      assumption
    try clear_value y1
    refine Keeps.ite ?_ ?_
    · refine State.busOff_keeps (maskSub hF rfl) ?_
      assumption
    · refine Keeps.ite ?_ ?_
      · refine Keeps.ite ?_ ?_
        · assumption
        · refine State.raise_keeps (maskSub hF rfl) ?_
          refine State.set_keeps (maskSub hF rfl) ?_
          assumption
      · refine State.set_keeps (maskSub hF rfl) ?_
        assumption

theorem State.startRecovery_keeps {F : Nat} {a s : State} {x1} (hF : F ||| 65536 = F) (h : Keeps F a s) :
    Keeps F a (State.startRecovery s x1) := by
  unfold State.startRecovery
  refine Keeps.ite ?_ ?_
  · refine State.setCan_keeps (maskSub hF rfl) ?_
    assumption
  · assumption

theorem execCanRecoveryStart_keeps {F : Nat} {a s : State} {x0} (hF : F ||| 65536 = F) (h : Keeps F a s) :
    ∃ t, execCanRecoveryStart x0 s = .next t ∧ Keeps F a t := by
  refine ⟨_, rfl, ?_⟩
  refine State.startRecovery_keeps (maskSub hF rfl) ?_
  assumption

theorem execCanRecovered_keeps {F : Nat} {a s : State} {x0} (hF : F ||| 50397184 = F) (h : Keeps F a s) :
    ∃ t, execCanRecovered x0 s = .next t ∧ Keeps F a t := by
  refine ⟨_, rfl, ?_⟩
  refine Keeps.ite ?_ ?_
  · extract_lets +onlyGivenNames -underBinder -merge y0
    try clear_value y0
    extract_lets +onlyGivenNames -underBinder -merge y1
    have hy1 : Keeps F a y1 := by
      unfold y1
      refine State.setCan_keeps (maskSub hF rfl) ?_
      assumption
    try clear_value y1
    refine State.raise_keeps (maskSub hF rfl) ?_
    refine State.zeroErrors_keeps (maskSub hF rfl) ?_
    refine State.set_keeps (maskSub hF rfl) ?_
    assumption
  · assumption

theorem State.podObjects_keeps {F : Nat} {a s : State} {x1} (hF : F ||| 33554432 = F) (h : Keeps F a s) :
    Keeps F a (State.podObjects s x1) := by
  unfold State.podObjects
  refine Keeps.foldl ?_ ?_
  · assumption
  · intro x1 x2 h0
    beta_reduce
    refine State.wr_keeps (maskSub hF rfl) ?_
    refine State.wr_keeps (maskSub hF rfl) ?_
    refine State.wr_keeps (maskSub hF rfl) ?_
    assumption

theorem State.allocPod_keeps {F : Nat} {a s : State} {x1} (hF : F ||| 50397184 = F) (h : Keeps F a s) :
    Keeps F a (State.allocPod s x1) := by
  unfold State.allocPod
  extract_lets +onlyGivenNames -underBinder -merge y0
  try clear_value y0
  extract_lets +onlyGivenNames -underBinder -merge y1
  try clear_value y1
  extract_lets +onlyGivenNames -underBinder -merge y2
  try clear_value y2
  extract_lets +onlyGivenNames -underBinder -merge y3
  have hy3 : Keeps F a y3 := by
    unfold y3
    refine State.wr_keeps (maskSub hF rfl) ?_
    assumption
  try clear_value y3
  refine Keeps.ite ?_ ?_
  · assumption
  · refine Keeps.ite ?_ ?_
    · refine State.raise_keeps (maskSub hF rfl) ?_
      refine State.set_keeps (maskSub hF rfl) ?_
      assumption
    · extract_lets +onlyGivenNames -underBinder -merge y4
      try clear_value y4
      extract_lets +onlyGivenNames -underBinder -merge y5
      try clear_value y5
      extract_lets +onlyGivenNames -underBinder -merge y6
      have hy6 : Keeps F a y6 := by
        unfold y6
        refine State.setCan_keeps (maskSub hF rfl) ?_
        assumption
      try clear_value y6
      refine State.podObjects_keeps (maskSub hF rfl) ?_
      refine State.set_keeps (maskSub hF rfl) ?_
      refine State.set_keeps (maskSub hF rfl) ?_
      assumption

theorem State.freePods_keeps {F : Nat} {a s : State} (hF : F ||| 33619968 = F) (h : Keeps F a s) :
    Keeps F a (State.freePods s) := by
  unfold State.freePods
  extract_lets +onlyGivenNames -underBinder -merge y0
  have hy0 : Keeps F a y0 := by
    unfold y0
    refine Keeps.foldl ?_ ?_
    · assumption
    · intro x2 x3 h1
      beta_reduce
      refine Keeps.foldl ?_ ?_
      · assumption
      · intro x5 x6 h4
        beta_reduce
        refine State.wr_keeps (maskSub hF rfl) ?_
        assumption
  try clear_value y0
  refine State.setCan_keeps (maskSub hF rfl) ?_
  assumption

theorem State.canBoundary_keeps {F : Nat} {a s : State} (hF : F ||| 50397184 = F) (h : Keeps F a s) :
    Keeps F a (State.canBoundary s) := by
  unfold State.canBoundary
  refine Keeps.ite ?_ ?_
  · extract_lets +onlyGivenNames -underBinder -merge y0
    try clear_value y0
    extract_lets +onlyGivenNames -underBinder -merge y1
    have hy1 : Keeps F a y1 := by
      unfold y1
      refine State.freePods_keeps (maskSub hF rfl) ?_
      refine State.setCan_keeps (maskSub hF rfl) ?_
      assumption
    try clear_value y1
    refine Keeps.foldl ?_ ?_
    · assumption
    · intro x3 x4 h2
      beta_reduce
      refine State.allocPod_keeps (maskSub hF rfl) ?_
      assumption
  · assumption

theorem State.timeoutPod_keeps {F : Nat} {a s : State} {x1} (hF : F ||| 33554432 = F) (h : Keeps F a s) :
    Keeps F a (State.timeoutPod s x1) := by
  unfold State.timeoutPod
  refine Keeps.ite ?_ ?_
  · refine State.wr_keeps (maskSub hF rfl) ?_
    assumption
  · assumption

theorem execPodQuantityTimeout_keeps {F : Nat} {a s : State} {x0} (hF : F ||| 33554432 = F) (h : Keeps F a s) :
    ∃ t, execPodQuantityTimeout x0 s = .next t ∧ Keeps F a t := by
  refine ⟨_, rfl, ?_⟩
  refine State.timeoutPod_keeps (maskSub hF rfl) ?_
  assumption

theorem State.writePodQ_keeps {F : Nat} {a s : State} {x1 x2} (hF : F ||| 33619968 = F) (h : Keeps F a s) :
    Keeps F a (State.writePodQ s x1 x2) := by
  unfold State.writePodQ
  extract_lets +onlyGivenNames -underBinder -merge y0
  try clear_value y0
  extract_lets +onlyGivenNames -underBinder -merge y1
  have hy1 : Keeps F a y1 := by
    unfold y1
    refine State.plainWrite_keeps (maskSub hF rfl) ?_
    assumption
  try clear_value y1
  refine Keeps.ite ?_ ?_
  · assumption
  · refine State.setCan_keeps (maskSub hF rfl) ?_
    refine State.wr_keeps (maskSub hF rfl) ?_
    assumption

theorem State.driveObjects_keeps {F : Nat} {a s : State} {x1} (hF : F ||| 33619968 = F) (h : Keeps F a s) :
    Keeps F a (State.driveObjects s x1) := by
  unfold State.driveObjects
  extract_lets +onlyGivenNames -underBinder -merge y0
  try clear_value y0
  extract_lets +onlyGivenNames -underBinder -merge y1
  try clear_value y1
  extract_lets +onlyGivenNames -underBinder -merge y2
  have hy2 : Keeps F a y2 := by
    unfold y2
    refine Keeps.foldl ?_ ?_
    · assumption
    · intro x4 x5 h3
      beta_reduce
      refine Keeps.ite ?_ ?_
      · extract_lets +onlyGivenNames -underBinder -merge y6
        have hy6 : Keeps F a y6 := by
          unfold y6
          refine State.wr_keeps (maskSub hF rfl) ?_
          refine State.wr_keeps (maskSub hF rfl) ?_
          refine State.wr_keeps (maskSub hF rfl) ?_
          assumption
        try clear_value y6
        refine State.wr_keeps (maskSub hF rfl) ?_
        refine State.wr_keeps (maskSub hF rfl) ?_
        assumption
      · refine State.wr_keeps (maskSub hF rfl) ?_
        refine State.wr_keeps (maskSub hF rfl) ?_
        assumption
  try clear_value y2
  refine State.setCan_keeps (maskSub hF rfl) ?_
  assumption

theorem State.sendDrive_keeps {F : Nat} {a s : State} {x1} (hF : F ||| 33636352 = F) (h : Keeps F a s) :
    Keeps F a (State.sendDrive s x1) := by
  unfold State.sendDrive
  extract_lets +onlyGivenNames -underBinder -merge y0
  try clear_value y0
  extract_lets +onlyGivenNames -underBinder -merge y1
  try clear_value y1
  extract_lets +onlyGivenNames -underBinder -merge y2
  try clear_value y2
  extract_lets +onlyGivenNames -underBinder -merge y3
  try clear_value y3
  extract_lets +onlyGivenNames -underBinder -merge y4
  have hy4 : Keeps F a y4 := by
    unfold y4
    refine State.wr_keeps (maskSub hF rfl) ?_
    refine State.wr_keeps (maskSub hF rfl) ?_
    assumption
  try clear_value y4
  extract_lets +onlyGivenNames -underBinder -merge y5
  try clear_value y5
  extract_lets +onlyGivenNames -underBinder -merge y6
  have hy6 : Keeps F a y6 := by
    unfold y6
    refine State.setPump_keeps (maskSub hF rfl) ?_
    assumption
  try clear_value y6
  extract_lets +onlyGivenNames -underBinder -merge y7
  try clear_value y7
  extract_lets +onlyGivenNames -underBinder -merge y8
  have hy8 : Keeps F a y8 := by
    unfold y8
    refine State.setCan_keeps (maskSub hF rfl) ?_
    assumption
  try clear_value y8
  refine State.txRequest_keeps (maskSub hF rfl) ?_
  assumption

theorem execDriveCmdSend_keeps {F : Nat} {a s : State} (hF : F ||| 33636352 = F) (h : Keeps F a s) :
    ∃ t, execDriveCmdSend s = .next t ∧ Keeps F a t := by
  refine ⟨_, rfl, ?_⟩
  refine Keeps.ite ?_ ?_
  · refine Keeps.foldl ?_ ?_
    · assumption
    · intro x1 x2 h0
      beta_reduce
      refine Keeps.ite ?_ ?_
      · refine State.sendDrive_keeps (maskSub hF rfl) ?_
        assumption
      · assumption
  · assumption

theorem State.expectDrives_keeps {F : Nat} {a s : State} (hF : F ||| 65536 = F) (h : Keeps F a s) :
    Keeps F a (State.expectDrives s) := by
  unfold State.expectDrives
  refine Keeps.foldl ?_ ?_
  · assumption
  · intro x1 x2 h0
    beta_reduce
    refine Keeps.ite ?_ ?_
    · refine State.setCan_keeps (maskSub hF rfl) ?_
      assumption
    · assumption

theorem State.loseDrive_keeps {F : Nat} {a s : State} {x1} (hF : F ||| 50348032 = F) (h : Keeps F a s) :
    Keeps F a (State.loseDrive s x1) := by
  unfold State.loseDrive
  refine Keeps.ite ?_ ?_
  · extract_lets +onlyGivenNames -underBinder -merge y0
    have hy0 : Keeps F a y0 := by
      unfold y0
      refine State.raise_keeps (maskSub hF rfl) ?_
      refine State.set_keeps (maskSub hF rfl) ?_
      assumption
    try clear_value y0
    refine Keeps.ite ?_ ?_
    · refine State.tripPump_keeps (maskSub hF rfl) ?_
      assumption
    · assumption
  · assumption

theorem execDriveLost_keeps {F : Nat} {a s : State} {x0} (hF : F ||| 50348032 = F) (h : Keeps F a s) :
    ∃ t, execDriveLost x0 s = .next t ∧ Keeps F a t := by
  refine ⟨_, rfl, ?_⟩
  refine State.loseDrive_keeps (maskSub hF rfl) ?_
  assumption

theorem State.canRunOut_keeps {F : Nat} {a s : State} (hF : F ||| 117522432 = F) (h : Keeps F a s) :
    Keeps F a (State.canRunOut s) := by
  unfold State.canRunOut
  extract_lets +onlyGivenNames -underBinder -merge y0
  have hy0 : Keeps F a y0 := by
    unfold y0
    refine Keeps.foldl ?_ ?_
    · assumption
    · intro x2 x3 h1
      beta_reduce
      refine State.startRecovery_keeps (maskSub hF rfl) ?_
      refine State.autoDwell_keeps (maskSub hF rfl) ?_
      refine State.autoTimeout_keeps (maskSub hF rfl) ?_
      assumption
  try clear_value y0
  extract_lets +onlyGivenNames -underBinder -merge y4
  have hy4 : Keeps F a y4 := by
    unfold y4
    refine Keeps.foldl ?_ ?_
    · assumption
    · intro x6 x7 h5
      beta_reduce
      refine State.timeoutPod_keeps (maskSub hF rfl) ?_
      assumption
  try clear_value y4
  refine Keeps.foldl ?_ ?_
  · assumption
  · intro x9 x10 h8
    beta_reduce
    refine State.loseDrive_keeps (maskSub hF rfl) ?_
    assumption

theorem State.writeObj_keeps {F : Nat} {a s : State} {x1 x2 x3 x4} (hF : F ||| 100728832 = F) (h : Keeps F a s) :
    Keeps F a (State.writeObj s x1 x2 x3 x4) := by
  unfold State.writeObj
  refine Keeps.ite ?_ ?_
  · assumption
  · refine Keeps.ite ?_ ?_
    · refine Keeps.ite ?_ ?_
      · refine Keeps.ite ?_ ?_
        · refine State.txRequest_keeps (maskSub hF rfl) ?_
          assumption
        · assumption
      · refine Keeps.ite ?_ ?_
        · extract_lets +onlyGivenNames -underBinder -merge y0
          have hy02 : Keeps F a y0.2 := by
            unfold y0
            refine State.free_keeps (maskSub hF rfl) ?_
            assumption
          try clear_value y0
          refine Keeps.ite ?_ ?_
          · refine State.txAbort_keeps (maskSub hF rfl) ?_
            assumption
          · assumption
        · assumption
    · refine Keeps.ite ?_ ?_
      · refine Keeps.ite ?_ ?_
        · extract_lets +onlyGivenNames -underBinder -merge y1
          have hy1 : Keeps F a y1 := by
            unfold y1
            refine State.wr_keeps (maskSub hF rfl) ?_
            assumption
          try clear_value y1
          split
          · refine State.setCan_keeps (maskSub hF rfl) ?_
            assumption
          · assumption
        · assumption
      · refine State.plainWrite_keeps (maskSub hF rfl) ?_
        assumption

theorem State.writeCan_keeps {F : Nat} {a s : State} {x1 x2} (hF : F ||| 117506048 = F) (h : Keeps F a s) :
    Keeps F a (State.writeCan s x1 x2) := by
  unfold State.writeCan
  extract_lets +onlyGivenNames -underBinder -merge y0
  try clear_value y0
  extract_lets +onlyGivenNames -underBinder -merge y1
  try clear_value y1
  refine Keeps.ite ?_ ?_
  · refine Keeps.ite ?_ ?_
    · refine State.writeBusCtrl_keeps (maskSub hF rfl) ?_
      assumption
    · refine Keeps.ite ?_ ?_
      · refine State.raise_keeps (maskSub hF rfl) ?_
        assumption
      · refine State.plainWrite_keeps (maskSub hF rfl) ?_
        assumption
  · refine Keeps.ite ?_ ?_
    · refine State.writeObj_keeps (maskSub hF rfl) ?_
      assumption
    · refine Keeps.ite ?_ ?_
      · extract_lets +onlyGivenNames -underBinder -merge y2
        have hy2 : Keeps F a y2 := by
          unfold y2
          refine State.plainWrite_keeps (maskSub hF rfl) ?_
          assumption
        try clear_value y2
        refine State.setCan_keeps (maskSub hF rfl) ?_
        assumption
      · refine Keeps.ite ?_ ?_
        · refine State.driveObjects_keeps (maskSub hF rfl) ?_
          refine State.plainWrite_keeps (maskSub hF rfl) ?_
          assumption
        · refine Keeps.ite ?_ ?_
          · refine State.writePodQ_keeps (maskSub hF rfl) ?_
            assumption
          · refine State.plainWrite_keeps (maskSub hF rfl) ?_
            assumption

/-! ### Plan -/

theorem judgeJobSet_keeps {F : Nat} {a s : State} {x0 x1 x2 x3} (hF : F ||| 2048 = F)  :
    JudgeKeeps F a (judgeJobSet x0 x1 x2 x3 s) := by
  unfold judgeJobSet
  refine JudgeKeeps.mk ?_
  intro x1 x2 h0
  beta_reduce
  extract_lets +onlyGivenNames -underBinder -merge y3
  try clear_value y3
  extract_lets +onlyGivenNames -underBinder -merge y4
  have hy4 : Keeps F a y4 := by
    unfold y4
    refine Keeps.upd_plan (maskSub hF rfl) ?_
    assumption
  try clear_value y4
  refine Keeps.p1 ?_
  assumption

theorem execJobSetClear_keeps {F : Nat} {a s : State} {x0 x1} (hF : F ||| 58722312 = F) (h : Keeps F a s) :
    ∃ t, execJobSetClear x0 x1 s = .next t ∧ Keeps F a t := by
  refine ⟨_, rfl, ?_⟩
  refine State.request_keeps (maskSub hF rfl) ?_ ?_
  · assumption
  · intro _ _
    beta_reduce
    refine judgeJobSet_keeps (maskSub hF rfl)

theorem execJobSetAdd_keeps {F : Nat} {a s : State} {x0 x1 x2} (hF : F ||| 58722312 = F) (h : Keeps F a s) :
    ∃ t, execJobSetAdd x0 x1 x2 s = .next t ∧ Keeps F a t := by
  refine ⟨_, rfl, ?_⟩
  refine State.request_keeps (maskSub hF rfl) ?_ ?_
  · assumption
  · intro _ _
    beta_reduce
    refine judgeJobSet_keeps (maskSub hF rfl)

theorem execJobSetRemove_keeps {F : Nat} {a s : State} {x0 x1 x2} (hF : F ||| 58722312 = F) (h : Keeps F a s) :
    ∃ t, execJobSetRemove x0 x1 x2 s = .next t ∧ Keeps F a t := by
  refine ⟨_, rfl, ?_⟩
  refine State.request_keeps (maskSub hF rfl) ?_ ?_
  · assumption
  · intro _ _
    beta_reduce
    refine judgeJobSet_keeps (maskSub hF rfl)

theorem State.capped_keeps {F : Nat} {a s : State} {x1} (hF : F ||| 50331648 = F) (h : Keeps F a s) :
    Keeps F a (State.capped s x1).1 := by
  unfold State.capped
  split
  · refine Keeps.p1 ?_
    assumption
  · refine Keeps.p1 ?_
    refine State.raise_keeps (maskSub hF rfl) ?_
    refine State.count_keeps (maskSub hF rfl) ?_
    assumption

theorem State.showCeilings_keeps {F : Nat} {a s : State} (hF : F ||| 33554432 = F) (h : Keeps F a s) :
    Keeps F a (State.showCeilings s) := by
  unfold State.showCeilings
  refine State.set_keeps (maskSub hF rfl) ?_
  assumption

theorem State.setCeiling_keeps {F : Nat} {a s : State} {x1 x2 x3} (hF : F ||| 50333696 = F) (h : Keeps F a s) :
    Keeps F a (State.setCeiling s x1 x2 x3) := by
  unfold State.setCeiling
  extract_lets +onlyGivenNames -underBinder -merge y0
  try clear_value y0
  extract_lets +onlyGivenNames -underBinder -merge y1
  try clear_value y1
  extract_lets +onlyGivenNames -underBinder -merge y2
  try clear_value y2
  extract_lets +onlyGivenNames -underBinder -merge y3
  have hy3 : Keeps F a y3 := by
    unfold y3
    refine Keeps.upd_plan (maskSub hF rfl) ?_
    assumption
  try clear_value y3
  extract_lets +onlyGivenNames -underBinder -merge y4
  have hy4 : Keeps F a y4 := by
    unfold y4
    refine State.wr_keeps (maskSub hF rfl) ?_
    refine State.wr_keeps (maskSub hF rfl) ?_
    refine State.wr_keeps (maskSub hF rfl) ?_
    assumption
  try clear_value y4
  extract_lets +onlyGivenNames -underBinder -merge y5
  have hy5 : Keeps F a y5 := by
    unfold y5
    refine State.wr_keeps (maskSub hF rfl) ?_
    refine State.wr_keeps (maskSub hF rfl) ?_
    assumption
  try clear_value y5
  refine State.raise_keeps (maskSub hF rfl) ?_
  refine State.showCeilings_keeps (maskSub hF rfl) ?_
  assumption

theorem State.clearCeiling_keeps {F : Nat} {a s : State} {x1 x2} (hF : F ||| 50331648 = F) (h : Keeps F a s) :
    Keeps F a (State.clearCeiling s x1 x2) := by
  unfold State.clearCeiling
  extract_lets +onlyGivenNames -underBinder -merge y0
  try clear_value y0
  refine Keeps.ite ?_ ?_
  · refine State.raise_keeps (maskSub hF rfl) ?_
    refine State.showCeilings_keeps (maskSub hF rfl) ?_
    refine State.set_keeps (maskSub hF rfl) ?_
    assumption
  · assumption

theorem State.ceilWrite_keeps {F : Nat} {a s : State} {x0 x1 x2} (hF : F ||| 50333696 = F) (h : Keeps F a s) :
    Keeps F a (State.ceilWrite x0 x1 x2 s) := by
  unfold State.ceilWrite
  refine Keeps.ite ?_ ?_
  · refine State.setCeiling_keeps (maskSub hF rfl) ?_
    assumption
  · refine State.wr_keeps (maskSub hF rfl) ?_
    refine State.clearCeiling_keeps (maskSub hF rfl) ?_
    assumption

theorem execCeilingCommit_keeps {F : Nat} {a s : State} {x0 x1 x2} (hF : F ||| 58722312 = F) (h : Keeps F a s) :
    ∃ t, execCeilingCommit x0 x1 x2 s = .next t ∧ Keeps F a t := by
  refine ⟨_, rfl, ?_⟩
  refine State.writeRow_keeps (maskSub hF rfl) ?_ ?_
  · assumption
  · intro x1 h0
    beta_reduce
    refine State.ceilWrite_keeps (maskSub hF rfl) ?_
    assumption

theorem execCeilingClearWrite_keeps {F : Nat} {a s : State} {x0 x1 x2} (hF : F ||| 58722312 = F) (h : Keeps F a s) :
    ∃ t, execCeilingClearWrite x0 x1 x2 s = .next t ∧ Keeps F a t := by
  refine ⟨_, rfl, ?_⟩
  refine State.writeRow_keeps (maskSub hF rfl) ?_ ?_
  · assumption
  · intro x1 h0
    beta_reduce
    refine State.ceilWrite_keeps (maskSub hF rfl) ?_
    assumption

theorem judgeCeilSet_keeps {F : Nat} {a s : State} {x0 x1 x2 x3 x4 x5} (hF : F ||| 50333696 = F)  :
    JudgeKeeps F a (judgeCeilSet x0 x1 x2 x3 x4 x5 s) := by
  unfold judgeCeilSet
  refine JudgeKeeps.mk ?_
  intro x1 x2 h0
  beta_reduce
  extract_lets +onlyGivenNames -underBinder -merge y3
  try clear_value y3
  extract_lets +onlyGivenNames -underBinder -merge y4
  have hy4 : Keeps F a y4 := by
    unfold y4
    refine State.setCeiling_keeps (maskSub hF rfl) ?_
    refine State.wr_keeps (maskSub hF rfl) ?_
    assumption
  try clear_value y4
  refine Keeps.p1 ?_
  assumption

theorem execCeilSet_keeps {F : Nat} {a s : State} {x0 x1 x2 x3 x4 x5} (hF : F ||| 58722312 = F) (h : Keeps F a s) :
    ∃ t, execCeilSet x0 x1 x2 x3 x4 x5 s = .next t ∧ Keeps F a t := by
  refine ⟨_, rfl, ?_⟩
  refine State.request_keeps (maskSub hF rfl) ?_ ?_
  · assumption
  · intro _ _
    beta_reduce
    refine judgeCeilSet_keeps (maskSub hF rfl)

theorem judgeCeilClear_keeps {F : Nat} {a s : State} {x0 x1} (hF : F ||| 50331648 = F)  :
    JudgeKeeps F a (judgeCeilClear x0 x1 s) := by
  unfold judgeCeilClear
  refine JudgeKeeps.mk ?_
  intro x1 x2 h0
  beta_reduce
  extract_lets +onlyGivenNames -underBinder -merge y3
  try clear_value y3
  refine Keeps.p1 ?_
  refine Keeps.foldl ?_ ?_
  · assumption
  · intro x5 x6 h4
    beta_reduce
    refine State.clearCeiling_keeps (maskSub hF rfl) ?_
    assumption

theorem execCeilClear_keeps {F : Nat} {a s : State} {x0 x1} (hF : F ||| 58720264 = F) (h : Keeps F a s) :
    ∃ t, execCeilClear x0 x1 s = .next t ∧ Keeps F a t := by
  refine ⟨_, rfl, ?_⟩
  refine State.request_keeps (maskSub hF rfl) ?_ ?_
  · assumption
  · intro _ _
    beta_reduce
    refine judgeCeilClear_keeps (maskSub hF rfl)

theorem State.applyStaged_keeps {F : Nat} {a s : State} {x1 x2 x3} (hF : F ||| 33554432 = F) (h : Keeps F a s) :
    Keeps F a (State.applyStaged s x1 x2 x3) := by
  unfold State.applyStaged
  extract_lets +onlyGivenNames -underBinder -merge y0
  try clear_value y0
  extract_lets +onlyGivenNames -underBinder -merge y1
  have hy1 : Keeps F a y1 := by
    unfold y1
    refine Keeps.foldl ?_ ?_
    · assumption
    · intro x3 x4 h2
      beta_reduce
      extract_lets +onlyGivenNames -underBinder -merge y5
      have hy5 : Keeps F a y5 := by
        unfold y5
        refine Keeps.ite ?_ ?_
        · refine State.set_keeps (maskSub hF rfl) ?_
          assumption
        · assumption
      try clear_value y5
      refine Keeps.ite ?_ ?_
      · refine State.set_keeps (maskSub hF rfl) ?_
        assumption
      · assumption
  try clear_value y1
  extract_lets +onlyGivenNames -underBinder -merge y6
  try clear_value y6
  refine Keeps.ite ?_ ?_
  · refine State.set_keeps (maskSub hF rfl) ?_
    assumption
  · assumption

theorem State.withStaged_keeps {F : Nat} {a s : State} {x1} (hF : F ||| 33554432 = F) (h : Keeps F a s) :
    Keeps F a (State.withStaged s x1) := by
  unfold State.withStaged
  refine State.applyStaged_keeps (maskSub hF rfl) ?_
  assumption

theorem State.trackLoads_keeps {F : Nat} {a s : State} (hF : F ||| 2048 = F) (h : Keeps F a s) :
    Keeps F a (State.trackLoads s) := by
  unfold State.trackLoads
  extract_lets +onlyGivenNames -underBinder -merge y0
  try clear_value y0
  refine Keeps.upd_plan (maskSub hF rfl) ?_
  assumption

theorem State.watchHeld_keeps {F : Nat} {a s : State} (hF : F ||| 2048 = F) (h : Keeps F a s) :
    Keeps F a (State.watchHeld s) := by
  unfold State.watchHeld
  extract_lets +onlyGivenNames -underBinder -merge y0
  try clear_value y0
  refine Keeps.upd_plan (maskSub hF rfl) ?_
  assumption

theorem State.ceilResetNow_keeps {F : Nat} {a s : State} (hF : F ||| 50331664 = F) (h : Keeps F a s) :
    Keeps F a (State.ceilResetNow s) := by
  unfold State.ceilResetNow
  split
  · assumption
  · extract_lets +onlyGivenNames -underBinder -merge y0
    try clear_value y0
    extract_lets +onlyGivenNames -underBinder -merge y1
    try clear_value y1
    extract_lets +onlyGivenNames -underBinder -merge y2
    have hy2 : Keeps F a y2 := by
      unfold y2
      refine Keeps.foldl ?_ ?_
      · refine Keeps.upd_sys (maskSub hF rfl) ?_
        assumption
      · intro x4 x5 h3
        beta_reduce
        refine State.set_keeps (maskSub hF rfl) ?_
        assumption
    try clear_value y2
    refine State.raise_keeps (maskSub hF rfl) ?_
    refine State.showCeilings_keeps (maskSub hF rfl) ?_
    assumption

theorem State.showEntry_keeps {F : Nat} {a s : State} {x1} (hF : F ||| 50331648 = F) (h : Keeps F a s) :
    Keeps F a (State.showEntry s x1) := by
  unfold State.showEntry
  extract_lets +onlyGivenNames -underBinder -merge y0
  try clear_value y0
  extract_lets +onlyGivenNames -underBinder -merge y1
  try clear_value y1
  extract_lets +onlyGivenNames -underBinder -merge y2
  try clear_value y2
  extract_lets +onlyGivenNames -underBinder -merge y3
  try clear_value y3
  extract_lets +onlyGivenNames -underBinder -merge y4
  have hy4 : Keeps F a y4 := by
    unfold y4
    refine State.set_keeps (maskSub hF rfl) ?_
    refine State.set_keeps (maskSub hF rfl) ?_
    refine State.set_keeps (maskSub hF rfl) ?_
    assumption
  try clear_value y4
  extract_lets +onlyGivenNames -underBinder -merge y5
  have hy5 : Keeps F a y5 := by
    unfold y5
    refine State.setB_keeps (maskSub hF rfl) ?_
    refine State.set_keeps (maskSub hF rfl) ?_
    assumption
  try clear_value y5
  refine Keeps.ite ?_ ?_
  · refine State.raise_keeps (maskSub hF rfl) ?_
    refine State.count_keeps (maskSub hF rfl) ?_
    assumption
  · assumption

theorem State.hideEntry_keeps {F : Nat} {a s : State} {x1} (hF : F ||| 33554432 = F) (h : Keeps F a s) :
    Keeps F a (State.hideEntry s x1) := by
  unfold State.hideEntry
  extract_lets +onlyGivenNames -underBinder -merge y0
  have hy0 : Keeps F a y0 := by
    unfold y0
    refine State.set_keeps (maskSub hF rfl) ?_
    refine State.set_keeps (maskSub hF rfl) ?_
    refine State.set_keeps (maskSub hF rfl) ?_
    assumption
  try clear_value y0
  refine State.set_keeps (maskSub hF rfl) ?_
  refine State.set_keeps (maskSub hF rfl) ?_
  assumption

theorem State.showPlan_keeps {F : Nat} {a s : State} (hF : F ||| 33554432 = F) (h : Keeps F a s) :
    Keeps F a (State.showPlan s) := by
  unfold State.showPlan
  extract_lets +onlyGivenNames -underBinder -merge y0
  have hy0 : Keeps F a y0 := by
    unfold y0
    refine Keeps.foldl ?_ ?_
    · assumption
    · intro x2 x3 h1
      beta_reduce
      extract_lets +onlyGivenNames -underBinder -merge y4
      try clear_value y4
      refine State.wr_keeps (maskSub hF rfl) ?_
      refine State.set_keeps (maskSub hF rfl) ?_
      assumption
  try clear_value y0
  extract_lets +onlyGivenNames -underBinder -merge y5
  have hy5 : Keeps F a y5 := by
    unfold y5
    refine Keeps.foldl ?_ ?_
    · assumption
    · intro x7 x8 h6
      beta_reduce
      refine State.set_keeps (maskSub hF rfl) ?_
      refine State.setB_keeps (maskSub hF rfl) ?_
      refine State.set_keeps (maskSub hF rfl) ?_
      assumption
  try clear_value y5
  extract_lets +onlyGivenNames -underBinder -merge y9
  have hy9 : Keeps F a y9 := by
    unfold y9
    refine Keeps.foldl ?_ ?_
    · assumption
    · intro x11 x12 h10
      beta_reduce
      refine State.set_keeps (maskSub hF rfl) ?_
      assumption
  try clear_value y9
  refine State.setB_keeps (maskSub hF rfl) ?_
  refine State.setB_keeps (maskSub hF rfl) ?_
  assumption

theorem State.settleFirings_keeps {F : Nat} {a s : State} (hF : F ||| 33556480 = F) (h : Keeps F a s) :
    Keeps F a (State.settleFirings s) := by
  unfold State.settleFirings
  extract_lets +onlyGivenNames -underBinder -merge y0
  have hy0 : Keeps F a y0 := by
    unfold y0
    refine Keeps.foldl ?_ ?_
    · assumption
    · intro x2 x3 h1
      beta_reduce
      extract_lets +onlyGivenNames -underBinder -merge y4
      have hy4 : Keeps F a y4 := by
        unfold y4
        refine State.applyStaged_keeps (maskSub hF rfl) ?_
        assumption
      try clear_value y4
      refine Keeps.ite ?_ ?_
      · assumption
      · refine State.set_keeps (maskSub hF rfl) ?_
        assumption
  try clear_value y0
  refine Keeps.upd_plan (maskSub hF rfl) ?_
  assumption

theorem State.buildStaged_keeps {F : Nat} {a s : State} (hF : F ||| 33556480 = F) (h : Keeps F a s) :
    Keeps F a (State.buildStaged s) := by
  unfold State.buildStaged
  refine Keeps.foldl ?_ ?_
  · assumption
  · intro x1 x2 h0
    beta_reduce
    extract_lets +onlyGivenNames -underBinder -merge y3
    have hy3 : Keeps F a y3 := by
      unfold y3
      refine State.withStaged_keeps (maskSub hF rfl) ?_
      assumption
    try clear_value y3
    extract_lets +onlyGivenNames -underBinder -merge y4
    try clear_value y4
    extract_lets +onlyGivenNames -underBinder -merge y5
    try clear_value y5
    refine State.set_keeps (maskSub hF rfl) ?_
    refine Keeps.upd_plan (maskSub hF rfl) ?_
    assumption

theorem State.takeFed_keeps {F : Nat} {a s : State} (hF : F ||| 2048 = F) (h : Keeps F a s) :
    Keeps F a (State.takeFed s) := by
  unfold State.takeFed
  extract_lets +onlyGivenNames -underBinder -merge y0
  try clear_value y0
  extract_lets +onlyGivenNames -underBinder -merge y1
  try clear_value y1
  refine Keeps.upd_plan (maskSub hF rfl) ?_
  assumption

theorem State.settlePlan_keeps {F : Nat} {a s : State} (hF : F ||| 50333712 = F) (h : Keeps F a s) :
    Keeps F a (State.settlePlan s) := by
  unfold State.settlePlan
  extract_lets +onlyGivenNames -underBinder -merge y0
  try clear_value y0
  extract_lets +onlyGivenNames -underBinder -merge y1
  have hy1 : Keeps F a y1 := by
    unfold y1
    refine Keeps.upd_plan (maskSub hF rfl) ?_
    assumption
  try clear_value y1
  refine State.watchHeld_keeps (maskSub hF rfl) ?_
  refine State.trackLoads_keeps (maskSub hF rfl) ?_
  refine State.settleFirings_keeps (maskSub hF rfl) ?_
  refine State.ceilResetNow_keeps (maskSub hF rfl) ?_
  refine State.takeFed_keeps (maskSub hF rfl) ?_
  assumption

theorem State.computePlan_keeps {F : Nat} {a s : State} (hF : F ||| 50333696 = F) (h : Keeps F a s) :
    Keeps F a (State.computePlan s) := by
  unfold State.computePlan
  extract_lets +onlyGivenNames -underBinder -merge y0
  try clear_value y0
  extract_lets +onlyGivenNames -underBinder -merge y1
  try clear_value y1
  extract_lets +onlyGivenNames -underBinder -merge y2
  try clear_value y2
  extract_lets +onlyGivenNames -underBinder -merge y3
  try clear_value y3
  extract_lets +onlyGivenNames -underBinder -merge y4
  try clear_value y4
  extract_lets +onlyGivenNames -underBinder -merge y5
  have hy5 : Keeps F a y5 := by
    unfold y5
    refine Keeps.upd_plan (maskSub hF rfl) ?_
    assumption
  try clear_value y5
  extract_lets +onlyGivenNames -underBinder -merge y6
  have hy6 : Keeps F a y6 := by
    unfold y6
    refine Keeps.foldl ?_ ?_
    · assumption
    · intro x8 x9 h7
      beta_reduce
      refine State.hideEntry_keeps (maskSub hF rfl) ?_
      assumption
  try clear_value y6
  extract_lets +onlyGivenNames -underBinder -merge y10
  have hy10 : Keeps F a y10 := by
    unfold y10
    refine Keeps.foldl ?_ ?_
    · assumption
    · intro x12 x13 h11
      beta_reduce
      refine State.showEntry_keeps (maskSub hF rfl) ?_
      assumption
  try clear_value y10
  refine State.buildStaged_keeps (maskSub hF rfl) ?_
  refine State.showPlan_keeps (maskSub hF rfl) ?_
  assumption

theorem execPlannerCompute_keeps {F : Nat} {a s : State} (hF : F ||| 50333712 = F) (h : Keeps F a s) :
    ∃ t, execPlannerCompute s = .next t ∧ Keeps F a t := by
  refine ⟨_, rfl, ?_⟩
  refine Keeps.ite ?_ ?_
  · assumption
  · refine State.computePlan_keeps (maskSub hF rfl) ?_
    refine State.settlePlan_keeps (maskSub hF rfl) ?_
    assumption

theorem State.sendCopies_keeps {F : Nat} {a s : State} {x1 x2} (hF : F ||| 8388608 = F) (h : Keeps F a s) :
    Keeps F a (State.sendCopies s x1 x2) := by
  unfold State.sendCopies
  refine State.send_keeps (maskSub hF rfl) ?_
  refine State.send_keeps (maskSub hF rfl) ?_
  assumption

theorem State.sendLost_keeps {F : Nat} {a s : State} {x1 x2 x3 x4 x5} (hF : F ||| 8912896 = F) (h : Keeps F a s) :
    Keeps F a (State.sendLost s x1 x2 x3 x4 x5) := by
  unfold State.sendLost
  extract_lets +onlyGivenNames -underBinder -merge y0
  try clear_value y0
  extract_lets +onlyGivenNames -underBinder -merge y1
  try clear_value y1
  extract_lets +onlyGivenNames -underBinder -merge y2
  try clear_value y2
  extract_lets +onlyGivenNames -underBinder -merge y3
  have hy3 : Keeps F a y3 := by
    unfold y3
    refine Keeps.upd_fed (maskSub hF rfl) ?_
    assumption
  try clear_value y3
  extract_lets +onlyGivenNames -underBinder -merge y4
  try clear_value y4
  extract_lets +onlyGivenNames -underBinder -merge y5
  try clear_value y5
  refine State.sendCopies_keeps (maskSub hF rfl) ?_
  assumption

theorem State.sendPlan_keeps {F : Nat} {a s : State} {x1 x2 x3 x4 x5 x6} (hF : F ||| 42467328 = F) (h : Keeps F a s) :
    Keeps F a (State.sendPlan s x1 x2 x3 x4 x5 x6) := by
  unfold State.sendPlan
  refine Keeps.ite ?_ ?_
  · assumption
  · refine Keeps.ite ?_ ?_
    · refine State.sendLost_keeps (maskSub hF rfl) ?_
      assumption
    · extract_lets +onlyGivenNames -underBinder -merge y0
      try clear_value y0
      extract_lets +onlyGivenNames -underBinder -merge y1
      try clear_value y1
      extract_lets +onlyGivenNames -underBinder -merge y2
      have hy2 : Keeps F a y2 := by
        unfold y2
        refine State.wr_keeps (maskSub hF rfl) ?_
        assumption
      try clear_value y2
      refine State.sendCopies_keeps (maskSub hF rfl) ?_
      assumption

theorem State.setPlanAck_keeps {F : Nat} {a s : State} {x1 x2} (hF : F ||| 2048 = F) (h : Keeps F a s) :
    Keeps F a (State.setPlanAck s x1 x2) := by
  unfold State.setPlanAck
  refine Keeps.upd_plan (maskSub hF rfl) ?_
  assumption

theorem State.owe_keeps {F : Nat} {a s : State} {x1 x2 x3} (hF : F ||| 2048 = F) (h : Keeps F a s) :
    Keeps F a (State.owe s x1 x2 x3) := by
  unfold State.owe
  refine Keeps.ite ?_ ?_
  · assumption
  · refine Keeps.foldl ?_ ?_
    · assumption
    · intro x1 x2 h0
      beta_reduce
      refine State.setPlanAck_keeps (maskSub hF rfl) ?_
      assumption

theorem State.sendChange_keeps {F : Nat} {a s : State} {x1 x2} (hF : F ||| 42469376 = F) (h : Keeps F a s) :
    Keeps F a (State.sendChange s x1 x2) := by
  unfold State.sendChange
  extract_lets +onlyGivenNames -underBinder -merge y0
  try clear_value y0
  refine State.owe_keeps (maskSub hF rfl) ?_
  refine State.sendPlan_keeps (maskSub hF rfl) ?_
  assumption

theorem execChangeFrameEmit_keeps {F : Nat} {a s : State} (hF : F ||| 42469376 = F) (h : Keeps F a s) :
    ∃ t, execChangeFrameEmit s = .next t ∧ Keeps F a t := by
  refine ⟨_, rfl, ?_⟩
  refine Keeps.ite ?_ ?_
  · assumption
  · extract_lets +onlyGivenNames -underBinder -merge y0
    have hy0 : Keeps F a y0 := by
      unfold y0
      refine Keeps.foldl ?_ ?_
      · assumption
      · intro x2 x3 h1
        beta_reduce
        refine State.sendChange_keeps (maskSub hF rfl) ?_
        assumption
    try clear_value y0
    refine Keeps.upd_plan (maskSub hF rfl) ?_
    assumption

theorem execRefreshFrameEmit_keeps {F : Nat} {a s : State} {x0} (hF : F ||| 42469376 = F) (h : Keeps F a s) :
    ∃ t, execRefreshFrameEmit x0 s = .next t ∧ Keeps F a t := by
  refine ⟨_, rfl, ?_⟩
  refine Keeps.ite ?_ ?_
  · assumption
  · extract_lets +onlyGivenNames -underBinder -merge y0
    try clear_value y0
    extract_lets +onlyGivenNames -underBinder -merge y1
    try clear_value y1
    extract_lets +onlyGivenNames -underBinder -merge y2
    have hy2 : Keeps F a y2 := by
      unfold y2
      refine Keeps.upd_plan (maskSub hF rfl) ?_
      assumption
    try clear_value y2
    refine Keeps.foldl ?_ ?_
    · assumption
    · intro x4 x5 h3
      beta_reduce
      refine State.sendPlan_keeps (maskSub hF rfl) ?_
      assumption

theorem State.notePlanWrite_keeps {F : Nat} {a s : State} {x1} (hF : F ||| 2048 = F) (h : Keeps F a s) :
    Keeps F a (State.notePlanWrite s x1) := by
  unfold State.notePlanWrite
  refine Keeps.upd_plan (maskSub hF rfl) ?_
  assumption

theorem State.stageWrite_keeps {F : Nat} {a s : State} {x0 x1} (hF : F ||| 50333696 = F) (h : Keeps F a s) :
    Keeps F a (State.stageWrite x0 x1 s).1 := by
  unfold State.stageWrite
  extract_lets +onlyGivenNames -underBinder -merge y0
  have hy0 : Keeps F a y0 := by
    unfold y0
    refine State.notePlanWrite_keeps (maskSub hF rfl) ?_
    refine State.wr_keeps (maskSub hF rfl) ?_
    assumption
  try clear_value y0
  split
  · extract_lets +onlyGivenNames -underBinder -merge y1
    try clear_value y1
    extract_lets +onlyGivenNames -underBinder -merge y2
    have hy2 : Keeps F a y2 := by
      unfold y2
      refine State.setB_keeps (maskSub hF rfl) ?_
      refine State.set_keeps (maskSub hF rfl) ?_
      assumption
    try clear_value y2
    refine State.capped_keeps (maskSub hF rfl) ?_
    assumption
  · refine Keeps.p1 ?_
    refine State.wr_keeps (maskSub hF rfl) ?_
    refine Keeps.upd_plan (maskSub hF rfl) ?_
    assumption

theorem execStagedChangeStage_keeps {F : Nat} {a s : State} {x0 x1 x2} (hF : F ||| 58722312 = F) (h : Keeps F a s) :
    ∃ t, execStagedChangeStage x0 x1 x2 s = .next t ∧ Keeps F a t := by
  refine ⟨_, rfl, ?_⟩
  refine State.writeRowWith_keeps (maskSub hF rfl) ?_ ?_
  · assumption
  · intro x1 h0
    beta_reduce
    refine State.stageWrite_keeps (maskSub hF rfl) ?_
    assumption

theorem execStagedChangeWithdraw_keeps {F : Nat} {a s : State} {x0 x1 x2} (hF : F ||| 58722312 = F) (h : Keeps F a s) :
    ∃ t, execStagedChangeWithdraw x0 x1 x2 s = .next t ∧ Keeps F a t := by
  refine ⟨_, rfl, ?_⟩
  refine State.writeRowWith_keeps (maskSub hF rfl) ?_ ?_
  · assumption
  · intro x1 h0
    beta_reduce
    refine State.stageWrite_keeps (maskSub hF rfl) ?_
    assumption

theorem State.planEmit_keeps {F : Nat} {a s : State} {x1} (hF : F ||| 59246592 = F) (h : Keeps F a s) :
    Keeps F a (State.planEmit s x1) := by
  unfold State.planEmit
  refine Keeps.ite ?_ ?_
  · refine State.raise_keeps (maskSub hF rfl) ?_
    assumption
  · extract_lets +onlyGivenNames -underBinder -merge y0
    try clear_value y0
    extract_lets +onlyGivenNames -underBinder -merge y1
    have hy1 : Keeps F a y1 := by
      unfold y1
      refine Keeps.ite ?_ ?_
      · refine Keeps.foldl ?_ ?_
        · assumption
        · intro x3 x4 h2
          beta_reduce
          refine State.sendChange_keeps (maskSub hF rfl) ?_
          assumption
      · assumption
    try clear_value y1
    refine Keeps.upd_plan (maskSub hF rfl) ?_
    assumption

theorem State.warmhold_keeps {F : Nat} {a s : State} {x1 x2} (hF : F ||| 50333696 = F) (h : Keeps F a s) :
    Keeps F a (State.warmhold s x1 x2) := by
  unfold State.warmhold
  refine Keeps.ite ?_ ?_
  · refine State.raise_keeps (maskSub hF rfl) ?_
    assumption
  · refine State.notePlanWrite_keeps (maskSub hF rfl) ?_
    refine State.set_keeps (maskSub hF rfl) ?_
    assumption

theorem execProtFrameRebuild_keeps {F : Nat} {a s : State} {x0} (hF : F ||| 2048 = F) (h : Keeps F a s) :
    ∃ t, execProtFrameRebuild x0 s = .next t ∧ Keeps F a t := by
  refine ⟨_, rfl, ?_⟩
  refine Keeps.ite ?_ ?_
  · assumption
  · extract_lets +onlyGivenNames -underBinder -merge y0
    try clear_value y0
    refine Keeps.upd_plan (maskSub hF rfl) ?_
    assumption

theorem execProtectiveCapSignal_keeps {F : Nat} {a s : State} {x0} (hF : F ||| 59246592 = F) (h : Keeps F a s) :
    ∃ t, execProtectiveCapSignal x0 s = .next t ∧ Keeps F a t := by
  refine ⟨_, rfl, ?_⟩
  extract_lets +onlyGivenNames -underBinder -merge y0
  try clear_value y0
  refine Keeps.ite ?_ ?_
  · assumption
  · extract_lets +onlyGivenNames -underBinder -merge y1
    try clear_value y1
    extract_lets +onlyGivenNames -underBinder -merge y2
    have hy2 : Keeps F a y2 := by
      unfold y2
      refine Keeps.upd_plan (maskSub hF rfl) ?_
      assumption
    try clear_value y2
    extract_lets +onlyGivenNames -underBinder -merge y3
    have hy3 : Keeps F a y3 := by
      unfold y3
      refine State.raise_keeps (maskSub hF rfl) ?_
      refine State.set_keeps (maskSub hF rfl) ?_
      refine State.set_keeps (maskSub hF rfl) ?_
      assumption
    try clear_value y3
    refine Keeps.ite ?_ ?_
    · assumption
    · extract_lets +onlyGivenNames -underBinder -merge y4
      try clear_value y4
      extract_lets +onlyGivenNames -underBinder -merge y5
      try clear_value y5
      extract_lets +onlyGivenNames -underBinder -merge y6
      have hy6 : Keeps F a y6 := by
        unfold y6
        refine State.owe_keeps (maskSub hF rfl) ?_
        refine State.sendPlan_keeps (maskSub hF rfl) ?_
        assumption
      try clear_value y6
      refine Keeps.upd_plan (maskSub hF rfl) ?_
      assumption

theorem State.ackViolation_keeps {F : Nat} {a s : State} {x1 x2 x3} (hF : F ||| 58720264 = F) (h : Keeps F a s) :
    Keeps F a (State.ackViolation s x1 x2 x3) := by
  unfold State.ackViolation
  refine State.protoNotice_keeps (maskSub hF rfl) ?_
  refine State.violate_keeps (maskSub hF rfl) ?_
  assumption

theorem State.takeAck_keeps {F : Nat} {a s : State} {x1 x2 x3} (hF : F ||| 50333696 = F) (h : Keeps F a s) :
    Keeps F a (State.takeAck s x1 x2 x3) := by
  unfold State.takeAck
  extract_lets +onlyGivenNames -underBinder -merge y0
  try clear_value y0
  extract_lets +onlyGivenNames -underBinder -merge y1
  try clear_value y1
  refine Keeps.ite ?_ ?_
  · refine State.count_keeps (maskSub hF rfl) ?_
    assumption
  · extract_lets +onlyGivenNames -underBinder -merge y2
    try clear_value y2
    extract_lets +onlyGivenNames -underBinder -merge y3
    try clear_value y3
    extract_lets +onlyGivenNames -underBinder -merge y4
    extract_lets +onlyGivenNames -underBinder -merge y5
    have hy5 : Keeps F a y5 := by
      unfold y5
      refine State.setPlanAck_keeps (maskSub hF rfl) ?_
      assumption
    try clear_value y5
    extract_lets +onlyGivenNames -underBinder -merge y6
    try clear_value y6
    extract_lets +onlyGivenNames -underBinder -merge y7
    have hy7 : Keeps F a y7 := by
      unfold y7
      refine State.setB_keeps (maskSub hF rfl) ?_
      assumption
    try clear_value y7
    extract_lets +onlyGivenNames -underBinder -merge y8
    have hy8 : Keeps F a y8 := by
      unfold y8
      refine Keeps.ite ?_ ?_
      · refine State.raise_keeps (maskSub hF rfl) ?_
        assumption
      · assumption
    try clear_value y8
    extract_lets +onlyGivenNames -underBinder -merge y9
    have hy9 : Keeps F a y9 := by
      unfold y9
      refine Keeps.ite ?_ ?_
      · refine State.set_keeps (maskSub hF rfl) ?_
        assumption
      · assumption
    try clear_value y9
    extract_lets +onlyGivenNames -underBinder -merge y10
    extract_lets +onlyGivenNames -underBinder -merge y11
    have hy11 : Keeps F a y11 := by
      unfold y11
      refine State.setB_keeps (maskSub hF rfl) ?_
      assumption
    try clear_value y11
    extract_lets +onlyGivenNames -underBinder -merge y12
    have hy12 : Keeps F a y12 := by
      unfold y12
      refine Keeps.ite ?_ ?_
      · refine State.raise_keeps (maskSub hF rfl) ?_
        refine State.count_keeps (maskSub hF rfl) ?_
        assumption
      · assumption
    try clear_value y12
    split
    · assumption
    · refine State.setB_keeps (maskSub hF rfl) ?_
      assumption

theorem execPlanAck_keeps {F : Nat} {a s : State} {x0 x1 x2} (hF : F ||| 58722312 = F) (h : Keeps F a s) :
    ∃ t, execPlanAck x0 x1 x2 s = .next t ∧ Keeps F a t := by
  refine ⟨_, rfl, ?_⟩
  extract_lets +onlyGivenNames -underBinder -merge y0
  try clear_value y0
  extract_lets +onlyGivenNames -underBinder -merge y1
  try clear_value y1
  extract_lets +onlyGivenNames -underBinder -merge y2
  try clear_value y2
  refine Keeps.ite ?_ ?_
  · assumption
  · extract_lets +onlyGivenNames -underBinder -merge y3
    have hy3 : Keeps F a y3 := by
      unfold y3
      refine State.countRx_keeps (maskSub hF rfl) ?_
      assumption
    try clear_value y3
    refine Keeps.ite ?_ ?_
    · refine State.count_keeps (maskSub hF rfl) ?_
      assumption
    · refine Keeps.ite ?_ ?_
      · assumption
      · refine Keeps.ite ?_ ?_
        · refine State.ackViolation_keeps (maskSub hF rfl) ?_
          assumption
        · refine Keeps.ite ?_ ?_
          · refine State.ackViolation_keeps (maskSub hF rfl) ?_
            assumption
          · refine Keeps.ite ?_ ?_
            · refine State.ackViolation_keeps (maskSub hF rfl) ?_
              assumption
            · split
              · refine State.ackViolation_keeps (maskSub hF rfl) ?_
                assumption
              · refine State.takeAck_keeps (maskSub hF rfl) ?_
                assumption

theorem execPlanNoack_keeps {F : Nat} {a s : State} {x0} (hF : F ||| 50333696 = F) (h : Keeps F a s) :
    ∃ t, execPlanNoack x0 s = .next t ∧ Keeps F a t := by
  refine ⟨_, rfl, ?_⟩
  extract_lets +onlyGivenNames -underBinder -merge y0
  try clear_value y0
  extract_lets +onlyGivenNames -underBinder -merge y1
  try clear_value y1
  refine Keeps.ite ?_ ?_
  · assumption
  · extract_lets +onlyGivenNames -underBinder -merge y2
    have hy2 : Keeps F a y2 := by
      unfold y2
      refine State.set_keeps (maskSub hF rfl) ?_
      refine State.setPlanAck_keeps (maskSub hF rfl) ?_
      assumption
    try clear_value y2
    refine State.raise_keeps (maskSub hF rfl) ?_
    refine State.countBy_keeps (maskSub hF rfl) ?_
    assumption

/-! ### Transfer -/

theorem State.setObj_keeps {F : Nat} {a s : State} {x1 x2} (hF : F ||| 8 = F) (h : Keeps F a s) :
    Keeps F a (State.setObj s x1 x2) := by
  unfold State.setObj
  refine Keeps.upd_zh (maskSub hF rfl) ?_
  assumption

theorem State.delObj_keeps {F : Nat} {a s : State} {x1} (hF : F ||| 8 = F) (h : Keeps F a s) :
    Keeps F a (State.delObj s x1) := by
  unfold State.delObj
  refine Keeps.upd_zh (maskSub hF rfl) ?_
  assumption

theorem openRun_keeps {F : Nat} {a s : State} {x0 x1 x2} (hF : F ||| 8 = F) (h : Keeps F a s) :
    Keeps F a (openRun x0 x1 x2 s).1 := by
  unfold openRun
  extract_lets +onlyGivenNames -underBinder -merge y0
  try clear_value y0
  extract_lets +onlyGivenNames -underBinder -merge y1
  try clear_value y1
  refine Keeps.p1 ?_
  refine State.setObj_keeps (maskSub hF rfl) ?_
  assumption

theorem judgeXferOpen_keeps {F : Nat} {a s : State} {x0 x1 x2 x3} (hF : F ||| 8 = F)  :
    JudgeKeeps F a (judgeXferOpen x0 x1 x2 x3 s) := by
  unfold judgeXferOpen
  refine JudgeKeeps.mk ?_
  intro x1 x2 h0
  beta_reduce
  refine openRun_keeps (maskSub hF rfl) ?_
  assumption

theorem execXferOpen_keeps {F : Nat} {a s : State} {x0 x1 x2 x3} (hF : F ||| 58720264 = F) (h : Keeps F a s) :
    ∃ t, execXferOpen x0 x1 x2 x3 s = .next t ∧ Keeps F a t := by
  refine ⟨_, rfl, ?_⟩
  refine State.request_keeps (maskSub hF rfl) ?_ ?_
  · assumption
  · intro _ _
    beta_reduce
    refine judgeXferOpen_keeps (maskSub hF rfl)

theorem judgeObject_keeps {F : Nat} {a s : State} {x0 x1 x2 x3 x4} (hF : F ||| 0 = F) (hf : ∀ v0 v1, Keeps F a v1 → Keeps F a (x3 v0 v1).1) :
    JudgeKeeps F a (judgeObject x0 x1 x2 x3 x4 s) := by
  unfold judgeObject
  refine JudgeKeeps.mk ?_
  intro x1 x2 h0
  beta_reduce
  split
  · refine Keeps.p1 ?_
    assumption
  · refine hf _ _ ?_
    assumption

theorem judgeXferData_keeps {F : Nat} {a s : State} {x0 x1 x2 x3} (hF : F ||| 8 = F)  :
    JudgeKeeps F a (judgeXferData x0 x1 x2 x3 s) := by
  unfold judgeXferData
  extract_lets +onlyGivenNames -underBinder -merge y0
  try clear_value y0
  extract_lets +onlyGivenNames -underBinder -merge y1
  try clear_value y1
  refine judgeObject_keeps (maskSub hF rfl) ?_
  intro x3 x4 h2
  beta_reduce
  split
  · refine Keeps.p1 ?_
    assumption
  · refine Keeps.p1 ?_
    refine State.setObj_keeps (maskSub hF rfl) ?_
    assumption

theorem execXferData_keeps {F : Nat} {a s : State} {x0 x1 x2 x3} (hF : F ||| 58720264 = F) (h : Keeps F a s) :
    ∃ t, execXferData x0 x1 x2 x3 s = .next t ∧ Keeps F a t := by
  refine ⟨_, rfl, ?_⟩
  refine State.request_keeps (maskSub hF rfl) ?_ ?_
  · assumption
  · intro _ _
    beta_reduce
    refine judgeXferData_keeps (maskSub hF rfl)

theorem State.retain_keeps {F : Nat} {a s : State} {x1} (hF : F ||| 8 = F) (h : Keeps F a s) :
    Keeps F a (State.retain s x1) := by
  unfold State.retain
  refine Keeps.ite ?_ ?_
  · extract_lets +onlyGivenNames -underBinder -merge y0
    try clear_value y0
    refine Keeps.upd_zh (maskSub hF rfl) ?_
    assumption
  · assumption

theorem judgeXferClose_keeps {F : Nat} {a s : State} {x0 x1 x2} (hF : F ||| 8 = F)  :
    JudgeKeeps F a (judgeXferClose x0 x1 x2 s) := by
  unfold judgeXferClose
  extract_lets +onlyGivenNames -underBinder -merge y0
  try clear_value y0
  extract_lets +onlyGivenNames -underBinder -merge y1
  try clear_value y1
  extract_lets +onlyGivenNames -underBinder -merge y2
  have hj : JudgeKeeps F a y2 := by
    unfold y2
    refine judgeObject_keeps (maskSub hF rfl) ?_
    intro x4 x5 h3
    beta_reduce
    split
    · refine Keeps.p1 ?_
      assumption
    · split
      · refine Keeps.p1 ?_
        refine State.delObj_keeps (maskSub hF rfl) ?_
        assumption
      · split
        · refine Keeps.p1 ?_
          refine State.delObj_keeps (maskSub hF rfl) ?_
          assumption
        · extract_lets +onlyGivenNames -underBinder -merge y6
          try clear_value y6
          refine Keeps.p1 ?_
          refine State.retain_keeps (maskSub hF rfl) ?_
          refine State.setObj_keeps (maskSub hF rfl) ?_
          assumption
  try clear_value y2
  refine JudgeKeeps.mk ?_
  intro x8 x9 h7
  beta_reduce
  refine hj _ _ ?_
  assumption

theorem execXferClose_keeps {F : Nat} {a s : State} {x0 x1 x2} (hF : F ||| 58720264 = F) (h : Keeps F a s) :
    ∃ t, execXferClose x0 x1 x2 s = .next t ∧ Keeps F a t := by
  refine ⟨_, rfl, ?_⟩
  refine State.request_keeps (maskSub hF rfl) ?_ ?_
  · assumption
  · intro _ _
    beta_reduce
    refine judgeXferClose_keeps (maskSub hF rfl)

theorem judgeXferRead_keeps {F : Nat} {a s : State} {x0 x1 x2 x3} (hF : F ||| 0 = F)  :
    JudgeKeeps F a (judgeXferRead x0 x1 x2 x3 s) := by
  unfold judgeXferRead
  refine JudgeKeeps.mk ?_
  intro x1 x2 h0
  beta_reduce
  split
  · refine Keeps.p1 ?_
    assumption
  · refine Keeps.p1 ?_
    assumption

theorem execXferRead_keeps {F : Nat} {a s : State} {x0 x1 x2 x3} (hF : F ||| 58720264 = F) (h : Keeps F a s) :
    ∃ t, execXferRead x0 x1 x2 x3 s = .next t ∧ Keeps F a t := by
  refine ⟨_, rfl, ?_⟩
  refine State.request_keeps (maskSub hF rfl) ?_ ?_
  · assumption
  · intro _ _
    beta_reduce
    refine judgeXferRead_keeps (maskSub hF rfl)

theorem judgeXferDelete_keeps {F : Nat} {a s : State} {x0 x1} (hF : F ||| 8 = F)  :
    JudgeKeeps F a (judgeXferDelete x0 x1 s) := by
  unfold judgeXferDelete
  refine judgeObject_keeps (maskSub hF rfl) ?_
  intro x1 x2 h0
  beta_reduce
  refine Keeps.p1 ?_
  refine State.delObj_keeps (maskSub hF rfl) ?_
  assumption

theorem execXferDelete_keeps {F : Nat} {a s : State} {x0 x1} (hF : F ||| 58720264 = F) (h : Keeps F a s) :
    ∃ t, execXferDelete x0 x1 s = .next t ∧ Keeps F a t := by
  refine ⟨_, rfl, ?_⟩
  refine State.request_keeps (maskSub hF rfl) ?_ ?_
  · assumption
  · intro _ _
    beta_reduce
    refine judgeXferDelete_keeps (maskSub hF rfl)

theorem State.expireObj_keeps {F : Nat} {a s : State} {x1} (hF : F ||| 8 = F) (h : Keeps F a s) :
    Keeps F a (State.expireObj s x1) := by
  unfold State.expireObj
  split
  · assumption
  · refine Keeps.ite ?_ ?_
    · refine State.delObj_keeps (maskSub hF rfl) ?_
      assumption
    · assumption

theorem execXferExpiry_keeps {F : Nat} {a s : State} {x0} (hF : F ||| 8 = F) (h : Keeps F a s) :
    ∃ t, execXferExpiry x0 s = .next t ∧ Keeps F a t := by
  refine ⟨_, rfl, ?_⟩
  refine State.expireObj_keeps (maskSub hF rfl) ?_
  assumption

theorem judgeStoreAttach_keeps {F : Nat} {a s : State} {x0} (hF : F ||| 8388616 = F)  :
    JudgeKeeps F a (judgeStoreAttach x0 s) := by
  unfold judgeStoreAttach
  refine JudgeKeeps.mk ?_
  intro x1 x2 h0
  beta_reduce
  refine Keeps.p1 ?_
  refine State.nextDevice_keeps (maskSub hF rfl) ?_
  refine Keeps.upd_zh (maskSub hF rfl) ?_
  assumption

theorem execStoreAttach_keeps {F : Nat} {a s : State} {x0} (hF : F ||| 58720264 = F) (h : Keeps F a s) :
    ∃ t, execStoreAttach x0 s = .next t ∧ Keeps F a t := by
  refine ⟨_, rfl, ?_⟩
  refine State.request_keeps (maskSub hF rfl) ?_ ?_
  · assumption
  · intro _ _
    beta_reduce
    refine judgeStoreAttach_keeps (maskSub hF rfl)

theorem judgeStoreDetach_keeps {F : Nat} {a s : State} {x0} (hF : F ||| 8 = F)  :
    JudgeKeeps F a (judgeStoreDetach x0 s) := by
  unfold judgeStoreDetach
  refine JudgeKeeps.mk ?_
  intro x1 x2 h0
  beta_reduce
  refine Keeps.p1 ?_
  refine State.detachStore_keeps (maskSub hF rfl) ?_
  assumption

theorem execStoreDetach_keeps {F : Nat} {a s : State} {x0} (hF : F ||| 58720264 = F) (h : Keeps F a s) :
    ∃ t, execStoreDetach x0 s = .next t ∧ Keeps F a t := by
  refine ⟨_, rfl, ?_⟩
  refine State.request_keeps (maskSub hF rfl) ?_ ?_
  · assumption
  · intro _ _
    beta_reduce
    refine judgeStoreDetach_keeps (maskSub hF rfl)

theorem State.response_keeps {F : Nat} {a s : State} {x1 x2 x3} (hF : F ||| 58720264 = F) (h : Keeps F a s) (hf : ∀ v0 v1, Keeps F a v1 → Keeps F a (x3 v0 v1)) :
    Keeps F a (State.response s x1 x2 x3) := by
  unfold State.response
  refine State.takeFrame_keeps (maskSub hF rfl) ?_ ?_
  · assumption
  · intro x1 x2 x3 x4 h0
    beta_reduce
    extract_lets +onlyGivenNames -underBinder -merge y5
    try clear_value y5
    extract_lets +onlyGivenNames -underBinder -merge y6
    have hy6 : Keeps F a y6 := by
      unfold y6
      refine State.setSess_keeps (maskSub hF rfl) ?_
      assumption
    try clear_value y6
    split
    · assumption
    · refine hf _ _ ?_
      refine Keeps.upd_zh (maskSub hF rfl) ?_
      assumption

theorem execStorePutResponse_keeps {F : Nat} {a s : State} {x0 x1} (hF : F ||| 58721288 = F) (h : Keeps F a s) :
    ∃ t, execStorePutResponse x0 x1 s = .next t ∧ Keeps F a t := by
  refine ⟨_, rfl, ?_⟩
  refine State.response_keeps (maskSub hF rfl) ?_ ?_
  · assumption
  · intro x1 x2 h0
    beta_reduce
    refine Keeps.ite ?_ ?_
    · refine State.nextDevice_keeps (maskSub hF rfl) ?_
      refine State.saveFailed_keeps (maskSub hF rfl) ?_
      assumption
    · refine Keeps.ite ?_ ?_
      · refine State.nextDevice_keeps (maskSub hF rfl) ?_
        refine State.saveDone_keeps (maskSub hF rfl) ?_
        assumption
      · split
        · refine State.sendPart_keeps (maskSub hF rfl) ?_
          assumption
        · refine State.nextDevice_keeps (maskSub hF rfl) ?_
          assumption

theorem State.askPart_keeps {F : Nat} {a s : State} {x1 x2} (hF : F ||| 8388616 = F) (h : Keeps F a s) :
    Keeps F a (State.askPart s x1 x2) := by
  unfold State.askPart
  refine State.sendDevice_keeps (maskSub hF rfl) ?_
  assumption

theorem execStoreGetResponse_keeps {F : Nat} {a s : State} {x0 x1 x2 x3} (hF : F ||| 58721288 = F) (h : Keeps F a s) :
    ∃ t, execStoreGetResponse x0 x1 x2 x3 s = .next t ∧ Keeps F a t := by
  refine ⟨_, rfl, ?_⟩
  refine State.response_keeps (maskSub hF rfl) ?_ ?_
  · assumption
  · intro x1 x2 h0
    beta_reduce
    split
    · refine State.nextDevice_keeps (maskSub hF rfl) ?_
      refine State.setGot_keeps (maskSub hF rfl) ?_
      assumption
    · extract_lets +onlyGivenNames -underBinder -merge y3
      try clear_value y3
      extract_lets +onlyGivenNames -underBinder -merge y4
      try clear_value y4
      refine Keeps.ite ?_ ?_
      · refine State.askPart_keeps (maskSub hF rfl) ?_
        assumption
      · refine State.nextDevice_keeps (maskSub hF rfl) ?_
        refine State.setGot_keeps (maskSub hF rfl) ?_
        assumption

theorem State.resend_keeps {F : Nat} {a s : State} {x1 x2} (hF : F ||| 8388616 = F) (h : Keeps F a s) :
    Keeps F a (State.resend s x1 x2) := by
  unfold State.resend
  split
  · assumption
  · refine State.sendRequest_keeps (maskSub hF rfl) ?_
    refine Keeps.upd_zh (maskSub hF rfl) ?_
    assumption

theorem State.retryDevice_keeps {F : Nat} {a s : State} {x1} (hF : F ||| 58721288 = F) (h : Keeps F a s) :
    Keeps F a (State.retryDevice s x1) := by
  unfold State.retryDevice
  split
  · assumption
  · refine Keeps.ite ?_ ?_
    · assumption
    · refine Keeps.ite ?_ ?_
      · split
        · refine State.resend_keeps (maskSub hF rfl) ?_
          assumption
        · refine State.resend_keeps (maskSub hF rfl) ?_
          assumption
      · extract_lets +onlyGivenNames -underBinder -merge y0
        try clear_value y0
        extract_lets +onlyGivenNames -underBinder -merge y1
        have hy1 : Keeps F a y1 := by
          unfold y1
          refine Keeps.upd_zh (maskSub hF rfl) ?_
          assumption
        try clear_value y1
        refine Keeps.ite ?_ ?_
        · refine State.nextDevice_keeps (maskSub hF rfl) ?_
          refine State.saveFailed_keeps (maskSub hF rfl) ?_
          assumption
        · refine State.nextDevice_keeps (maskSub hF rfl) ?_
          refine State.setGot_keeps (maskSub hF rfl) ?_
          assumption

theorem execDeviceRequestRetry_keeps {F : Nat} {a s : State} {x0} (hF : F ||| 58721288 = F) (h : Keeps F a s) :
    ∃ t, execDeviceRequestRetry x0 s = .next t ∧ Keeps F a t := by
  refine ⟨_, rfl, ?_⟩
  refine State.retryDevice_keeps (maskSub hF rfl) ?_
  assumption

theorem execPortLinkDown_keeps {F : Nat} {a s : State} {x0} (hF : F ||| 50331649 = F) (h : Keeps F a s) :
    ∃ t, execPortLinkDown x0 s = .next t ∧ Keeps F a t := by
  refine ⟨_, rfl, ?_⟩
  refine Keeps.ite ?_ ?_
  · extract_lets +onlyGivenNames -underBinder -merge y0
    have hy0 : Keeps F a y0 := by
      unfold y0
      refine State.bump_keeps (maskSub hF rfl) ?_
      refine State.set_keeps (maskSub hF rfl) ?_
      refine State.set_keeps (maskSub hF rfl) ?_
      assumption
    try clear_value y0
    extract_lets +onlyGivenNames -underBinder -merge y1
    try clear_value y1
    extract_lets +onlyGivenNames -underBinder -merge y2
    have hy2 : Keeps F a y2 := by
      unfold y2
      refine State.raise_keeps (maskSub hF rfl) ?_
      refine State.setBit_keeps (maskSub hF rfl) ?_
      assumption
    try clear_value y2
    extract_lets +onlyGivenNames -underBinder -merge y3
    try clear_value y3
    refine Keeps.ite ?_ ?_
    · refine State.loseMaster_keeps (maskSub hF rfl) ?_
      refine State.raise_keeps (maskSub hF rfl) ?_
      assumption
    · assumption
  · assumption

theorem State.servePort_keeps {F : Nat} {a s : State} (hF : F ||| 16 = F) (h : Keeps F a s) :
    Keeps F a (State.servePort s) := by
  unfold State.servePort
  refine Keeps.ite ?_ ?_
  · assumption
  · refine Keeps.upd_sys (maskSub hF rfl) ?_
    assumption

theorem execPortLinkUp_keeps {F : Nat} {a s : State} {x0} (hF : F ||| 50331664 = F) (h : Keeps F a s) :
    ∃ t, execPortLinkUp x0 s = .next t ∧ Keeps F a t := by
  refine ⟨_, rfl, ?_⟩
  refine Keeps.ite ?_ ?_
  · extract_lets +onlyGivenNames -underBinder -merge y0
    have hy0 : Keeps F a y0 := by
      unfold y0
      refine State.set_keeps (maskSub hF rfl) ?_
      refine State.set_keeps (maskSub hF rfl) ?_
      assumption
    try clear_value y0
    extract_lets +onlyGivenNames -underBinder -merge y1
    try clear_value y1
    refine State.servePort_keeps (maskSub hF rfl) ?_
    refine State.raise_keeps (maskSub hF rfl) ?_
    refine State.setBit_keeps (maskSub hF rfl) ?_
    assumption
  · assumption

end Sys2Proof.Machine
end

