-- ==== Sys2Proof/Laws/KeepsDies.lean ====
section
/-! SUPPORT. What each operation and each command of dies, images, barriers, lock-step and pairs may change, as `Keeps` says it. -/

namespace Sys2Proof.Machine

/-! ### Dies -/

theorem State.judgeTick_keeps {F : Nat} {a s : State} (hF : F ||| 33554432 = F) (h : Keeps F a s) :
    Keeps F a (State.judgeTick s) := by
  unfold State.judgeTick
  refine State.set_keeps (maskSub hF rfl) ?_
  assumption

theorem State.judgeRecord_keeps {F : Nat} {a s : State} {x1} (hF : F ||| 50331648 = F) (h : Keeps F a s) :
    Keeps F a (State.judgeRecord s x1) := by
  unfold State.judgeRecord
  extract_lets +onlyGivenNames -underBinder -merge y0
  try clear_value y0
  extract_lets +onlyGivenNames -underBinder -merge y1
  have hy1 : Keeps F a y1 := by
    unfold y1
    refine State.setB_keeps (maskSub hF rfl) ?_
    assumption
  try clear_value y1
  split
  · refine Keeps.ite ?_ ?_
    · refine State.occur_keeps (maskSub hF rfl) ?_
      assumption
    · assumption
  · assumption

theorem State.showMatch_keeps {F : Nat} {a s : State} {x1} (hF : F ||| 33554432 = F) (h : Keeps F a s) :
    Keeps F a (State.showMatch s x1) := by
  unfold State.showMatch
  refine State.setB_keeps (maskSub hF rfl) ?_
  assumption

theorem State.loadRecord_keeps {F : Nat} {a s : State} {x1} (hF : F ||| 33554944 = F) (h : Keeps F a s) :
    Keeps F a (State.loadRecord s x1) := by
  unfold State.loadRecord
  extract_lets +onlyGivenNames -underBinder -merge y0
  have hy0 : Keeps F a y0 := by
    unfold y0
    refine State.wr_keeps (maskSub hF rfl) ?_
    assumption
  try clear_value y0
  extract_lets +onlyGivenNames -underBinder -merge y1
  try clear_value y1
  extract_lets +onlyGivenNames -underBinder -merge y2
  have hy2 : Keeps F a y2 := by
    unfold y2
    refine Keeps.upd_ice (maskSub hF rfl) ?_
    assumption
  try clear_value y2
  refine Keeps.foldl ?_ ?_
  · assumption
  · intro x4 x5 h3
    beta_reduce
    extract_lets +onlyGivenNames -underBinder -merge y6
    try clear_value y6
    split
    · assumption
    · extract_lets +onlyGivenNames -underBinder -merge y7
      try clear_value y7
      extract_lets +onlyGivenNames -underBinder -merge y8
      have hy8 : Keeps F a y8 := by
        unfold y8
        refine State.setB_keeps (maskSub hF rfl) ?_
        assumption
      try clear_value y8
      refine State.activate_keeps (maskSub hF rfl) ?_
      refine State.showSlot_keeps (maskSub hF rfl) ?_
      refine State.setSlot_keeps (maskSub hF rfl) ?_
      refine State.set_keeps (maskSub hF rfl) ?_
      assumption

theorem State.makeRecord_keeps {F : Nat} {a s : State} (hF : F ||| 50331664 = F) (h : Keeps F a s) :
    Keeps F a (State.makeRecord s) := by
  unfold State.makeRecord
  split
  · assumption
  · extract_lets +onlyGivenNames -underBinder -merge y0
    try clear_value y0
    extract_lets +onlyGivenNames -underBinder -merge y1
    have hy1 : Keeps F a y1 := by
      unfold y1
      refine State.set_keeps (maskSub hF rfl) ?_
      refine Keeps.upd_sys (maskSub hF rfl) ?_
      assumption
    try clear_value y1
    extract_lets +onlyGivenNames -underBinder -merge y2
    try clear_value y2
    extract_lets +onlyGivenNames -underBinder -merge y3
    have hy3 : Keeps F a y3 := by
      unfold y3
      refine State.set_keeps (maskSub hF rfl) ?_
      assumption
    try clear_value y3
    refine Keeps.ite ?_ ?_
    · extract_lets +onlyGivenNames -underBinder -merge y4
      try clear_value y4
      extract_lets +onlyGivenNames -underBinder -merge y5
      try clear_value y5
      extract_lets +onlyGivenNames -underBinder -merge y6
      have hy6 : Keeps F a y6 := by
        unfold y6
        refine State.wr_keeps (maskSub hF rfl) ?_
        refine Keeps.upd_sys (maskSub hF rfl) ?_
        assumption
      try clear_value y6
      extract_lets +onlyGivenNames -underBinder -merge y7
      have hy7 : Keeps F a y7 := by
        unfold y7
        refine State.judgeRecord_keeps (maskSub hF rfl) ?_
        refine Keeps.foldl ?_ ?_
        · assumption
        · intro x9 x10 h8
          beta_reduce
          refine State.showMatch_keeps (maskSub hF rfl) ?_
          assumption
      try clear_value y7
      refine State.occur_keeps (maskSub hF rfl) ?_
      assumption
    · assumption

theorem State.askRecord_keeps {F : Nat} {a s : State} {x1} (hF : F ||| 33554448 = F) (h : Keeps F a s) :
    Keeps F a (State.askRecord s x1) := by
  unfold State.askRecord
  refine Keeps.ite ?_ ?_
  · refine State.set_keeps (maskSub hF rfl) ?_
    assumption
  · refine State.set_keeps (maskSub hF rfl) ?_
    refine Keeps.upd_sys (maskSub hF rfl) ?_
    assumption

theorem State.clearRecord_keeps {F : Nat} {a s : State} {x1} (hF : F ||| 50331664 = F) (h : Keeps F a s) :
    Keeps F a (State.clearRecord s x1) := by
  unfold State.clearRecord
  refine Keeps.ite ?_ ?_
  · refine State.set_keeps (maskSub hF rfl) ?_
    assumption
  · extract_lets +onlyGivenNames -underBinder -merge y0
    have hy0 : Keeps F a y0 := by
      unfold y0
      split
      · refine Keeps.upd_sys (maskSub hF rfl) ?_
        assumption
      · assumption
    try clear_value y0
    refine State.occur_keeps (maskSub hF rfl) ?_
    refine State.judgeRecord_keeps (maskSub hF rfl) ?_
    assumption

theorem execCrecMake_keeps {F : Nat} {a s : State} {x0} (hF : F ||| 58720280 = F) (h : Keeps F a s) :
    ∃ t, execCrecMake x0 s = .next t ∧ Keeps F a t := by
  refine ⟨_, rfl, ?_⟩
  refine State.writeRow_keeps (maskSub hF rfl) ?_ ?_
  · assumption
  · intro x1 h0
    beta_reduce
    refine State.askRecord_keeps (maskSub hF rfl) ?_
    assumption

theorem execCrecClear_keeps {F : Nat} {a s : State} {x0} (hF : F ||| 58720280 = F) (h : Keeps F a s) :
    ∃ t, execCrecClear x0 s = .next t ∧ Keeps F a t := by
  refine ⟨_, rfl, ?_⟩
  refine State.writeRow_keeps (maskSub hF rfl) ?_ ?_
  · assumption
  · intro x1 h0
    beta_reduce
    refine State.clearRecord_keeps (maskSub hF rfl) ?_
    assumption

theorem execCeilingReset_keeps {F : Nat} {a s : State} {x0} (hF : F ||| 58720280 = F) (h : Keeps F a s) :
    ∃ t, execCeilingReset x0 s = .next t ∧ Keeps F a t := by
  refine ⟨_, rfl, ?_⟩
  refine State.writeRow_keeps (maskSub hF rfl) ?_ ?_
  · assumption
  · intro x1 h0
    beta_reduce
    refine Keeps.upd_sys (maskSub hF rfl) ?_
    assumption

theorem State.setSys_keeps {F : Nat} {a s : State} {x1} (hF : F ||| 16 = F) (h : Keeps F a s) :
    Keeps F a (State.setSys s x1) := by
  unfold State.setSys
  refine Keeps.upd_sys (maskSub hF rfl) ?_
  assumption

theorem State.declareAbsent_keeps {F : Nat} {a s : State} (hF : F ||| 58720284 = F) (h : Keeps F a s) :
    Keeps F a (State.declareAbsent s) := by
  unfold State.declareAbsent
  refine Keeps.ite ?_ ?_
  · assumption
  · extract_lets +onlyGivenNames -underBinder -merge y0
    have hy0 : Keeps F a y0 := by
      unfold y0
      refine State.set_keeps (maskSub hF rfl) ?_
      refine State.set_keeps (maskSub hF rfl) ?_
      assumption
    try clear_value y0
    extract_lets +onlyGivenNames -underBinder -merge y1
    have hy1 : Keeps F a y1 := by
      unfold y1
      refine State.emptyActions_keeps (maskSub hF rfl) ?_
      refine State.raise_keeps (maskSub hF rfl) ?_
      assumption
    try clear_value y1
    extract_lets +onlyGivenNames -underBinder -merge y2
    try clear_value y2
    extract_lets +onlyGivenNames -underBinder -merge y3
    have hy3 : Keeps F a y3 := by
      unfold y3
      refine State.setSys_keeps (maskSub hF rfl) ?_
      assumption
    try clear_value y3
    refine Keeps.ite ?_ ?_
    · refine State.enter_keeps (maskSub hF rfl) ?_
      assumption
    · assumption

theorem State.resetMain_keeps {F : Nat} {a s : State} (hF : F ||| 59770430 = F) (h : Keeps F a s) :
    Keeps F a (State.resetMain s) := by
  unfold State.resetMain
  extract_lets +onlyGivenNames -underBinder -merge y0
  have hy0 : Keeps F a y0 := by
    unfold y0
    refine State.tablesReset_keeps (maskSub hF rfl) ?_
    refine State.iceReset_keeps (maskSub hF rfl) ?_
    refine State.dropAllHeld_keeps (maskSub hF rfl) ?_
    refine State.emptyActions_keeps (maskSub hF rfl) ?_
    refine State.forgetRetirements_keeps (maskSub hF rfl) ?_
    assumption
  try clear_value y0
  extract_lets +onlyGivenNames -underBinder -merge y1
  have hy1 : Keeps F a y1 := by
    unfold y1
    refine State.applyRepairs_keeps (maskSub hF rfl) ?_
    assumption
  try clear_value y1
  extract_lets +onlyGivenNames -underBinder -merge y2
  have hy2 : Keeps F a y2 := by
    unfold y2
    refine Keeps.upd_jobs (maskSub hF rfl) ?_
    assumption
  try clear_value y2
  extract_lets +onlyGivenNames -underBinder -merge y3
  try clear_value y3
  extract_lets +onlyGivenNames -underBinder -merge y4
  have hy4 : Keeps F a y4 := by
    unfold y4
    refine State.setSys_keeps (maskSub hF rfl) ?_
    assumption
  try clear_value y4
  extract_lets +onlyGivenNames -underBinder -merge y5
  try clear_value y5
  extract_lets +onlyGivenNames -underBinder -merge y6
  have hy6 : Keeps F a y6 := by
    unfold y6
    refine Keeps.upd_sec (maskSub hF rfl) ?_
    assumption
  try clear_value y6
  refine State.set_keeps (maskSub hF rfl) ?_
  refine State.set_keeps (maskSub hF rfl) ?_
  refine State.set_keeps (maskSub hF rfl) ?_
  assumption

theorem State.loseMain_keeps {F : Nat} {a s : State} (hF : F ||| 59770430 = F) (h : Keeps F a s) :
    Keeps F a (State.loseMain s) := by
  unfold State.loseMain
  refine State.resetMain_keeps (maskSub hF rfl) ?_
  refine State.declareAbsent_keeps (maskSub hF rfl) ?_
  assumption

theorem execMainDieAbsent_keeps {F : Nat} {a s : State} (hF : F ||| 59770430 = F) (h : Keeps F a s) :
    ∃ t, execMainDieAbsent s = .next t ∧ Keeps F a t := by
  refine ⟨_, rfl, ?_⟩
  refine Keeps.ite ?_ ?_
  · refine State.loseMain_keeps (maskSub hF rfl) ?_
    assumption
  · assumption

theorem execMainDieReset_keeps {F : Nat} {a s : State} (hF : F ||| 59770430 = F) (h : Keeps F a s) :
    ∃ t, execMainDieReset s = .next t ∧ Keeps F a t := by
  refine ⟨_, rfl, ?_⟩
  refine Keeps.ite ?_ ?_
  · refine State.loseMain_keeps (maskSub hF rfl) ?_
    assumption
  · assumption

theorem execMainPowerGoodLost_keeps {F : Nat} {a s : State} (hF : F ||| 59770430 = F) (h : Keeps F a s) :
    ∃ t, execMainPowerGoodLost s = .next t ∧ Keeps F a t := by
  refine ⟨_, rfl, ?_⟩
  refine Keeps.ite ?_ ?_
  · refine State.loseMain_keeps (maskSub hF rfl) ?_
    assumption
  · assumption

theorem execSafetyLinkMLost_keeps {F : Nat} {a s : State} (hF : F ||| 59770430 = F) (h : Keeps F a s) :
    ∃ t, execSafetyLinkMLost s = .next t ∧ Keeps F a t := by
  refine ⟨_, rfl, ?_⟩
  refine Keeps.ite ?_ ?_
  · refine State.loseMain_keeps (maskSub hF rfl) ?_
    assumption
  · assumption

theorem State.tellLow_keeps {F : Nat} {a s : State} {x1 x2 x3} (hF : F ||| 50331648 = F) (h : Keeps F a s) :
    Keeps F a (State.tellLow s x1 x2 x3) := by
  unfold State.tellLow
  refine Keeps.ite ?_ ?_
  · refine State.raise_keeps (maskSub hF rfl) ?_
    assumption
  · assumption

theorem State.releaseMain_keeps {F : Nat} {a s : State} (hF : F ||| 50331696 = F) (h : Keeps F a s) :
    Keeps F a (State.releaseMain s) := by
  unfold State.releaseMain
  refine Keeps.ite ?_ ?_
  · assumption
  · refine Keeps.ite ?_ ?_
    · refine Keeps.upd_sys (maskSub hF rfl) ?_
      assumption
    · extract_lets +onlyGivenNames -underBinder -merge y0
      try clear_value y0
      extract_lets +onlyGivenNames -underBinder -merge y1
      try clear_value y1
      extract_lets +onlyGivenNames -underBinder -merge y2
      try clear_value y2
      extract_lets +onlyGivenNames -underBinder -merge y3
      have hy3 : Keeps F a y3 := by
        unfold y3
        refine Keeps.upd (s := s) ?_ id rfl le_rfl List.suffix_rfl le_rfl (FirnStep.refl _)
           (.inr rfl) (.inr rfl) (.inr rfl) (.inr rfl) (.inl (maskSub hF rfl)) (.inl (maskSub hF rfl)) (.inr rfl) (.inr rfl) (.inr rfl) (.inr rfl)
           (.inr rfl) (.inr rfl) (.inr rfl) (.inr rfl) (.inr rfl) (.inr rfl) (.inr rfl) (.inr rfl) (.inr rfl) (.inr rfl) (.inr rfl) (.inr rfl)
           (.inr rfl) (.inr rfl) (.inr rfl) (.inr rfl) (.inr rfl)
        assumption
      try clear_value y3
      refine State.tellLow_keeps (maskSub hF rfl) ?_
      assumption

theorem execMainDieRelease_keeps {F : Nat} {a s : State} (hF : F ||| 50331696 = F) (h : Keeps F a s) :
    ∃ t, execMainDieRelease s = .next t ∧ Keeps F a t := by
  refine ⟨_, rfl, ?_⟩
  refine Keeps.ite ?_ ?_
  · refine State.releaseMain_keeps (maskSub hF rfl) ?_
    assumption
  · assumption

theorem State.powerMainDown_keeps {F : Nat} {a s : State} (hF : F ||| 59770430 = F) (h : Keeps F a s) :
    Keeps F a (State.powerMainDown s) := by
  unfold State.powerMainDown
  extract_lets +onlyGivenNames -underBinder -merge y0
  have hy0 : Keeps F a y0 := by
    unfold y0
    refine State.loseMain_keeps (maskSub hF rfl) ?_
    assumption
  try clear_value y0
  refine Keeps.upd_sys (maskSub hF rfl) ?_
  assumption

theorem State.beginDriving_keeps {F : Nat} {a s : State} (hF : F ||| 33570816 = F) (h : Keeps F a s) :
    Keeps F a (State.beginDriving s) := by
  unfold State.beginDriving
  refine State.startDuty_keeps (maskSub hF rfl) ?_
  assumption

theorem execMainDieReady_keeps {F : Nat} {a s : State} (hF : F ||| 58720280 = F) (h : Keeps F a s) :
    ∃ t, execMainDieReady s = .next t ∧ Keeps F a t := by
  refine ⟨_, rfl, ?_⟩
  refine Keeps.ite ?_ ?_
  · extract_lets +onlyGivenNames -underBinder -merge y0
    extract_lets +onlyGivenNames -underBinder -merge y1
    have hy1 : Keeps F a y1 := by
      unfold y1
      refine Keeps.upd_sys (maskSub hF rfl) ?_
      assumption
    refine State.leaveBoot_keeps (maskSub hF rfl) ?_
    refine State.mirrorCopy_keeps (maskSub hF rfl) ?_
    refine State.set_keeps (maskSub hF rfl) ?_
    refine State.set_keeps (maskSub hF rfl) ?_
    assumption
  · assumption

theorem execTableToRun_keeps {F : Nat} {a s : State} (hF : F ||| 58720264 = F) (h : Keeps F a s) :
    ∃ t, execTableToRun s = .next t ∧ Keeps F a t := by
  refine ⟨_, rfl, ?_⟩
  refine Keeps.ite ?_ ?_
  · refine State.enter_keeps (maskSub hF rfl) ?_
    assumption
  · assumption

theorem execBootTimeout_keeps {F : Nat} {a s : State} (hF : F ||| 58720264 = F) (h : Keeps F a s) :
    ∃ t, execBootTimeout s = .next t ∧ Keeps F a t := by
  refine ⟨_, rfl, ?_⟩
  refine Keeps.ite ?_ ?_
  · refine State.enter_keeps (maskSub hF rfl) ?_
    assumption
  · assumption

theorem State.losePort_keeps {F : Nat} {a s : State} (hF : F ||| 58753032 = F) (h : Keeps F a s) :
    Keeps F a (State.losePort s) := by
  unfold State.losePort
  refine State.settle_keeps (maskSub hF rfl) ?_
  refine State.judgeTick_keeps (maskSub hF rfl) ?_
  refine State.set_keeps (maskSub hF rfl) ?_
  refine State.set_keeps (maskSub hF rfl) ?_
  assumption

theorem State.resetPort_keeps {F : Nat} {a s : State} (hF : F ||| 59801657 = F) (h : Keeps F a s) :
    Keeps F a (State.resetPort s) := by
  unfold State.resetPort
  extract_lets +onlyGivenNames -underBinder -merge y0
  have hy0 : Keeps F a y0 := by
    unfold y0
    refine Keeps.foldl ?_ ?_
    · assumption
    · intro x2 x3 h1
      beta_reduce
      refine State.endSession_keeps (maskSub hF rfl) ?_
      assumption
  try clear_value y0
  extract_lets +onlyGivenNames -underBinder -merge y4
  have hy4 : Keeps F a y4 := by
    unfold y4
    refine Keeps.foldl ?_ ?_
    · assumption
    · intro x6 x7 h5
      beta_reduce
      refine State.delSess_keeps (maskSub hF rfl) ?_
      refine State.wr_keeps (maskSub hF rfl) ?_
      refine State.wr_keeps (maskSub hF rfl) ?_
      assumption
  try clear_value y4
  extract_lets +onlyGivenNames -underBinder -merge y8
  try clear_value y8
  extract_lets +onlyGivenNames -underBinder -merge y9
  try clear_value y9
  extract_lets +onlyGivenNames -underBinder -merge y10
  have hy10 : Keeps F a y10 := by
    unfold y10
    refine Keeps.upd (s := y4) ?_ id rfl le_rfl List.suffix_rfl le_rfl (FirnStep.refl _)
       (.inl (maskSub hF rfl)) (.inr rfl) (.inr rfl) (.inr rfl) (.inl (maskSub hF rfl)) (.inl (maskSub hF rfl)) (.inr rfl) (.inr rfl) (.inr rfl)
       (.inr rfl) (.inr rfl) (.inr rfl) (.inr rfl) (.inr rfl) (.inr rfl) (.inr rfl) (.inr rfl) (.inr rfl) (.inr rfl) (.inr rfl) (.inr rfl)
       (.inr rfl) (.inr rfl) (.inr rfl) (.inr rfl) (.inr rfl) (.inr rfl)
    assumption
  try clear_value y10
  refine State.losePort_keeps (maskSub hF rfl) ?_
  refine State.applyRepairs_keeps (maskSub hF rfl) ?_
  refine State.toFreerun_keeps (maskSub hF rfl) ?_
  assumption

theorem execPortDieAbsent_keeps {F : Nat} {a s : State} (hF : F ||| 58753032 = F) (h : Keeps F a s) :
    ∃ t, execPortDieAbsent s = .next t ∧ Keeps F a t := by
  refine ⟨_, rfl, ?_⟩
  refine Keeps.ite ?_ ?_
  · refine State.losePort_keeps (maskSub hF rfl) ?_
    assumption
  · assumption

theorem execPortDiePresent_keeps {F : Nat} {a s : State} (hF : F ||| 58753032 = F) (h : Keeps F a s) :
    ∃ t, execPortDiePresent s = .next t ∧ Keeps F a t := by
  refine ⟨_, rfl, ?_⟩
  refine Keeps.ite ?_ ?_
  · refine State.settle_keeps (maskSub hF rfl) ?_
    refine State.judgeTick_keeps (maskSub hF rfl) ?_
    refine State.set_keeps (maskSub hF rfl) ?_
    refine State.set_keeps (maskSub hF rfl) ?_
    assumption
  · assumption

theorem execMainDieThermalLimit_keeps {F : Nat} {a s : State} {x0} (hF : F ||| 59770430 = F) (h : Keeps F a s) :
    ∃ t, execMainDieThermalLimit x0 s = .next t ∧ Keeps F a t := by
  refine ⟨_, rfl, ?_⟩
  refine Keeps.ite ?_ ?_
  · assumption
  · refine Keeps.ite ?_ ?_
    · extract_lets +onlyGivenNames -underBinder -merge y0
      have hy0 : Keeps F a y0 := by
        unfold y0
        refine State.powerMainDown_keeps (maskSub hF rfl) ?_
        assumption
      try clear_value y0
      refine Keeps.upd_sys (maskSub hF rfl) ?_
      assumption
    · refine Keeps.upd_sys (maskSub hF rfl) ?_
      assumption

theorem execPortDieThermalLimit_keeps {F : Nat} {a s : State} (hF : F ||| 59801657 = F) (h : Keeps F a s) :
    ∃ t, execPortDieThermalLimit s = .next t ∧ Keeps F a t := by
  refine ⟨_, rfl, ?_⟩
  refine Keeps.ite ?_ ?_
  · assumption
  · extract_lets +onlyGivenNames -underBinder -merge y0
    have hy0 : Keeps F a y0 := by
      unfold y0
      refine State.resetPort_keeps (maskSub hF rfl) ?_
      assumption
    try clear_value y0
    refine Keeps.upd_sys (maskSub hF rfl) ?_
    assumption

theorem execPortDieThermalRelease_keeps {F : Nat} {a s : State} (hF : F ||| 16 = F) (h : Keeps F a s) :
    ∃ t, execPortDieThermalRelease s = .next t ∧ Keeps F a t := by
  refine ⟨_, rfl, ?_⟩
  refine Keeps.upd_sys (maskSub hF rfl) ?_
  assumption

theorem State.uncorrected_keeps {F : Nat} {a s : State} {x1 x2 x3} (hF : F ||| 126920255 = F) (h : Keeps F a s) :
    Keeps F a (State.uncorrected s x1 x2 x3) := by
  unfold State.uncorrected
  extract_lets +onlyGivenNames -underBinder -merge y0
  have hy0 : Keeps F a y0 := by
    unfold y0
    refine State.repairRow_keeps (maskSub hF rfl) ?_
    refine State.raise_keeps (maskSub hF rfl) ?_
    refine State.count_keeps (maskSub hF rfl) ?_
    assumption
  try clear_value y0
  split
  · refine State.laneBad_keeps (maskSub hF rfl) ?_
    assumption
  · refine State.laneBad_keeps (maskSub hF rfl) ?_
    assumption
  · assumption
  · refine State.resetPort_keeps (maskSub hF rfl) ?_
    assumption
  · extract_lets +onlyGivenNames -underBinder -merge y1
    have hy1 : Keeps F a y1 := by
      unfold y1
      refine State.retireBank_keeps (maskSub hF rfl) ?_
      assumption
    try clear_value y1
    refine Keeps.ite ?_ ?_
    · assumption
    · refine State.loseMain_keeps (maskSub hF rfl) ?_
      assumption
  · refine State.loseMain_keeps (maskSub hF rfl) ?_
    assumption
  · refine State.abandonSweep_keeps (maskSub hF rfl) ?_
    refine State.busFail_keeps (maskSub hF rfl) ?_
    assumption
  · refine State.pcUncorrected_keeps (maskSub hF rfl) ?_
    assumption

theorem execUncorrectableError_keeps {F : Nat} {a s : State} {x0 x1 x2} (hF : F ||| 126920255 = F) (h : Keeps F a s) :
    ∃ t, execUncorrectableError x0 x1 x2 s = .next t ∧ Keeps F a t := by
  refine ⟨_, rfl, ?_⟩
  refine State.uncorrected_keeps (maskSub hF rfl) ?_
  assumption

/-! ### Image -/

theorem State.nextCra_keeps {F : Nat} {a s : State} {x1} (hF : F ||| 32 = F) (h : Keeps F a s) :
    Keeps F a (State.nextCra s x1).2 := by
  unfold State.nextCra
  extract_lets +onlyGivenNames -underBinder -merge y0
  try clear_value y0
  refine Keeps.p2 ?_
  refine Keeps.upd_sec (maskSub hF rfl) ?_
  assumption

theorem State.craEach_keeps {F : Nat} {a s : State} {x1 x2 x3 x4} (hF : F ||| 8388640 = F) (h : Keeps F a s) :
    Keeps F a (State.craEach s x1 x2 x3 x4) := by
  unfold State.craEach
  extract_lets +onlyGivenNames -underBinder -merge y0
  have hy02 : Keeps F a y0.2 := by
    unfold y0
    refine State.nextCra_keeps (maskSub hF rfl) ?_
    assumption
  try clear_value y0
  extract_lets +onlyGivenNames -underBinder -merge y1
  try clear_value y1
  refine Keeps.foldl ?_ ?_
  · assumption
  · intro x3 x4 h2
    beta_reduce
    refine State.send_keeps (maskSub hF rfl) ?_
    assumption

theorem State.cra_keeps {F : Nat} {a s : State} {x1 x2 x3 x4 x5} (hF : F ||| 8388640 = F) (h : Keeps F a s) :
    Keeps F a (State.cra s x1 x2 x3 x4 x5) := by
  unfold State.cra
  refine State.craEach_keeps (maskSub hF rfl) ?_
  assumption

theorem State.sendImage_keeps {F : Nat} {a s : State} {x1 x2} (hF : F ||| 8388640 = F) (h : Keeps F a s) :
    Keeps F a (State.sendImage s x1 x2) := by
  unfold State.sendImage
  extract_lets +onlyGivenNames -underBinder -merge y0
  try clear_value y0
  refine Keeps.foldl ?_ ?_
  · assumption
  · intro x2 x3 h1
    beta_reduce
    extract_lets +onlyGivenNames -underBinder -merge y4
    try clear_value y4
    refine State.cra_keeps (maskSub hF rfl) ?_
    assumption

theorem State.cutImage_keeps {F : Nat} {a s : State} (hF : F ||| 42074144 = F) (h : Keeps F a s) :
    Keeps F a (State.cutImage s) := by
  unfold State.cutImage
  extract_lets +onlyGivenNames -underBinder -merge y0
  try clear_value y0
  extract_lets +onlyGivenNames -underBinder -merge y1
  try clear_value y1
  extract_lets +onlyGivenNames -underBinder -merge y2
  try clear_value y2
  extract_lets +onlyGivenNames -underBinder -merge y3
  have hy3 : Keeps F a y3 := by
    unfold y3
    refine State.sendImage_keeps (maskSub hF rfl) ?_
    refine State.wr_keeps (maskSub hF rfl) ?_
    assumption
  try clear_value y3
  refine Keeps.upd_pair (maskSub hF rfl) ?_
  assumption

theorem State.imageNow_keeps {F : Nat} {a s : State} (hF : F ||| 42074144 = F) (h : Keeps F a s) :
    Keeps F a (State.imageNow s) := by
  unfold State.imageNow
  refine Keeps.ite ?_ ?_
  · refine State.cutImage_keeps (maskSub hF rfl) ?_
    assumption
  · assumption

theorem State.badImage_keeps {F : Nat} {a s : State} (hF : F ||| 50331648 = F) (h : Keeps F a s) :
    Keeps F a (State.badImage s) := by
  unfold State.badImage
  refine State.raise_keeps (maskSub hF rfl) ?_
  refine State.count_keeps (maskSub hF rfl) ?_
  refine State.set_keeps (maskSub hF rfl) ?_
  assumption

theorem State.checkImage_keeps {F : Nat} {a s : State} {x1} (hF : F ||| 50462720 = F) (h : Keeps F a s) :
    Keeps F a (State.checkImage s x1) := by
  unfold State.checkImage
  extract_lets +onlyGivenNames -underBinder -merge y0
  try clear_value y0
  extract_lets +onlyGivenNames -underBinder -merge y1
  try clear_value y1
  extract_lets +onlyGivenNames -underBinder -merge y2
  try clear_value y2
  refine Keeps.ite ?_ ?_
  · extract_lets +onlyGivenNames -underBinder -merge y3
    try clear_value y3
    refine Keeps.upd_pair (maskSub hF rfl) ?_
    assumption
  · refine State.badImage_keeps (maskSub hF rfl) ?_
    assumption

theorem State.takeImage_keeps {F : Nat} {a s : State} {x1 x2 x3} (hF : F ||| 50462720 = F) (h : Keeps F a s) :
    Keeps F a (State.takeImage s x1 x2 x3) := by
  unfold State.takeImage
  extract_lets +onlyGivenNames -underBinder -merge y0
  try clear_value y0
  refine Keeps.ite ?_ ?_
  · assumption
  · extract_lets +onlyGivenNames -underBinder -merge y1
    try clear_value y1
    split
    · refine Keeps.upd_pair (maskSub hF rfl) ?_
      assumption
    · refine State.checkImage_keeps (maskSub hF rfl) ?_
      refine Keeps.upd_pair (maskSub hF rfl) ?_
      assumption

theorem State.imageFrame_keeps {F : Nat} {a s : State} {x1 x2 x3} (hF : F ||| 50462720 = F) (h : Keeps F a s) :
    Keeps F a (State.imageFrame s x1 x2 x3) := by
  unfold State.imageFrame
  refine Keeps.ite ?_ ?_
  · refine State.takeImage_keeps (maskSub hF rfl) ?_
    assumption
  · assumption

theorem execImageFrame_keeps {F : Nat} {a s : State} {x0 x1 x2 x3} (hF : F ||| 50462720 = F) (h : Keeps F a s) :
    ∃ t, execImageFrame x0 x1 x2 x3 s = .next t ∧ Keeps F a t := by
  refine ⟨_, rfl, ?_⟩
  split
  · refine Keeps.ite ?_ ?_
    · refine State.imageFrame_keeps (maskSub hF rfl) ?_
      assumption
    · assumption
  · refine State.takeCra_keeps (maskSub hF rfl) ?_ ?_
    · assumption
    · intro x1 h0
      beta_reduce
      refine State.imageFrame_keeps (maskSub hF rfl) ?_
      assumption

theorem State.replaceWords_keeps {F : Nat} {a s : State} {x1 x2} (hF : F ||| 33554432 = F) (h : Keeps F a s) :
    Keeps F a (State.replaceWords s x1 x2) := by
  unfold State.replaceWords
  refine Keeps.foldl ?_ ?_
  · refine Keeps.upd_regs (maskSub hF rfl) (regsWf_filter _ _) ?_
    assumption
  · intro x1 x2 h0
    beta_reduce
    refine State.wr_keeps (maskSub hF rfl) ?_
    assumption

theorem State.applyActuators_keeps {F : Nat} {a s : State} {x1} (hF : F ||| 33636352 = F) (h : Keeps F a s) :
    Keeps F a (State.applyActuators s x1) := by
  unfold State.applyActuators
  extract_lets +onlyGivenNames -underBinder -merge y0
  try clear_value y0
  extract_lets +onlyGivenNames -underBinder -merge y1
  have hy1 : Keeps F a y1 := by
    unfold y1
    refine State.replaceWords_keeps (maskSub hF rfl) ?_
    assumption
  try clear_value y1
  extract_lets +onlyGivenNames -underBinder -merge y2
  have hy2 : Keeps F a y2 := by
    unfold y2
    refine Keeps.foldl ?_ ?_
    · assumption
    · intro x4 x5 h3
      beta_reduce
      refine Keeps.ite ?_ ?_
      · assumption
      · refine State.setSolState_keeps (maskSub hF rfl) ?_
        assumption
  try clear_value y2
  extract_lets +onlyGivenNames -underBinder -merge y6
  try clear_value y6
  extract_lets +onlyGivenNames -underBinder -merge y7
  try clear_value y7
  extract_lets +onlyGivenNames -underBinder -merge y8
  try clear_value y8
  extract_lets +onlyGivenNames -underBinder -merge y9
  try clear_value y9
  refine State.expectDrives_keeps (maskSub hF rfl) ?_
  refine Keeps.upd_acts (maskSub hF rfl) ?_
  assumption

theorem State.applyCan_keeps {F : Nat} {a s : State} {x1} (hF : F ||| 33619968 = F) (h : Keeps F a s) :
    Keeps F a (State.applyCan s x1) := by
  unfold State.applyCan
  extract_lets +onlyGivenNames -underBinder -merge y0
  try clear_value y0
  extract_lets +onlyGivenNames -underBinder -merge y1
  have hy1 : Keeps F a y1 := by
    unfold y1
    refine State.replaceWords_keeps (maskSub hF rfl) ?_
    assumption
  try clear_value y1
  extract_lets +onlyGivenNames -underBinder -merge y2
  try clear_value y2
  extract_lets +onlyGivenNames -underBinder -merge y3
  have hy3 : Keeps F a y3 := by
    unfold y3
    refine Keeps.ite ?_ ?_
    · assumption
    · refine State.setCan_keeps (maskSub hF rfl) ?_
      assumption
  try clear_value y3
  refine State.expectDrives_keeps (maskSub hF rfl) ?_
  refine Keeps.foldl ?_ ?_
  · assumption
  · intro x5 x6 h4
    beta_reduce
    refine State.busModeFrom_keeps (maskSub hF rfl) ?_
    assumption

theorem State.applySection_keeps {F : Nat} {a s : State} {x1 x2} (hF : F ||| 33777922 = F) (h : Keeps F a s) :
    Keeps F a (State.applySection s x1 x2) := by
  unfold State.applySection
  extract_lets +onlyGivenNames -underBinder -merge y0
  try clear_value y0
  split
  · refine Keeps.upd_pair (maskSub hF rfl) ?_
    assumption
  · extract_lets +onlyGivenNames -underBinder -merge y1
    try clear_value y1
    extract_lets +onlyGivenNames -underBinder -merge y2
    have hy2 : Keeps F a y2 := by
      unfold y2
      refine State.replaceWords_keeps (maskSub hF rfl) ?_
      assumption
    try clear_value y2
    refine Keeps.upd_lop (maskSub hF rfl) ?_
    assumption
  · refine Keeps.foldl ?_ ?_
    · refine State.replaceWords_keeps (maskSub hF rfl) ?_
      assumption
    · intro x4 x5 h3
      beta_reduce
      refine State.setLoop_keeps (maskSub hF rfl) ?_
      assumption
  · refine State.applyActuators_keeps (maskSub hF rfl) ?_
    assumption
  · extract_lets +onlyGivenNames -underBinder -merge y6
    have hy6 : Keeps F a y6 := by
      unfold y6
      refine State.replaceWords_keeps (maskSub hF rfl) ?_
      assumption
    try clear_value y6
    refine Keeps.upd_plan (maskSub hF rfl) ?_
    assumption
  · extract_lets +onlyGivenNames -underBinder -merge y7
    try clear_value y7
    refine Keeps.upd_plan (maskSub hF rfl) ?_
    assumption
  · extract_lets +onlyGivenNames -underBinder -merge y8
    try clear_value y8
    extract_lets +onlyGivenNames -underBinder -merge y9
    have hy9 : Keeps F a y9 := by
      unfold y9
      refine State.replaceWords_keeps (maskSub hF rfl) ?_
      assumption
    try clear_value y9
    refine Keeps.upd_stm (maskSub hF rfl) ?_
    assumption
  · refine Keeps.foldl ?_ ?_
    · refine State.replaceWords_keeps (maskSub hF rfl) ?_
      assumption
    · intro x11 x12 h10
      beta_reduce
      refine State.setJob_keeps (maskSub hF rfl) ?_
      assumption
  · extract_lets +onlyGivenNames -underBinder -merge y13
    try clear_value y13
    extract_lets +onlyGivenNames -underBinder -merge y14
    have hy14 : Keeps F a y14 := by
      unfold y14
      refine State.replaceWords_keeps (maskSub hF rfl) ?_
      assumption
    try clear_value y14
    refine State.showCeilings_keeps (maskSub hF rfl) ?_
    refine Keeps.upd_plan (maskSub hF rfl) ?_
    assumption
  · refine State.applyCan_keeps (maskSub hF rfl) ?_
    assumption
  · refine State.replaceWords_keeps (maskSub hF rfl) ?_
    assumption
  · refine State.replaceWords_keeps (maskSub hF rfl) ?_
    assumption
  · assumption

theorem State.applyImage_keeps {F : Nat} {a s : State} (hF : F ||| 33777922 = F) (h : Keeps F a s) :
    Keeps F a (State.applyImage s) := by
  unfold State.applyImage
  split
  · assumption
  · refine Keeps.ite ?_ ?_
    · refine Keeps.upd_pair (maskSub hF rfl) ?_
      assumption
    · extract_lets +onlyGivenNames -underBinder -merge y0
      have hy0 : Keeps F a y0 := by
        unfold y0
        refine Keeps.foldl ?_ ?_
        · assumption
        · intro x2 x3 h1
          beta_reduce
          refine State.applySection_keeps (maskSub hF rfl) ?_
          assumption
      try clear_value y0
      extract_lets +onlyGivenNames -underBinder -merge y4
      have hy4 : Keeps F a y4 := by
        unfold y4
        refine State.set_keeps (maskSub hF rfl) ?_
        refine State.wr_keeps (maskSub hF rfl) ?_
        assumption
      try clear_value y4
      refine Keeps.upd_pair (maskSub hF rfl) ?_
      assumption

theorem State.staleImage_keeps {F : Nat} {a s : State} (hF : F ||| 50462720 = F) (h : Keeps F a s) :
    Keeps F a (State.staleImage s) := by
  unfold State.staleImage
  refine Keeps.ite ?_ ?_
  · refine State.raise_keeps (maskSub hF rfl) ?_
    refine Keeps.upd_pair (maskSub hF rfl) ?_
    assumption
  · assumption

theorem execImageStale_keeps {F : Nat} {a s : State} (hF : F ||| 50462720 = F) (h : Keeps F a s) :
    ∃ t, execImageStale s = .next t ∧ Keeps F a t := by
  refine ⟨_, rfl, ?_⟩
  refine State.staleImage_keeps (maskSub hF rfl) ?_
  assumption

theorem State.mergeProtection_keeps {F : Nat} {a s : State} (hF : F ||| 33587200 = F) (h : Keeps F a s) :
    Keeps F a (State.mergeProtection s) := by
  unfold State.mergeProtection
  split
  · assumption
  · extract_lets +onlyGivenNames -underBinder -merge y0
    try clear_value y0
    extract_lets +onlyGivenNames -underBinder -merge y1
    try clear_value y1
    extract_lets +onlyGivenNames -underBinder -merge y2
    try clear_value y2
    extract_lets +onlyGivenNames -underBinder -merge y3
    have hy3 : Keeps F a y3 := by
      unfold y3
      refine Keeps.foldl ?_ ?_
      · assumption
      · intro x5 x6 h4
        beta_reduce
        extract_lets +onlyGivenNames -underBinder -merge y7
        try clear_value y7
        refine Keeps.ite ?_ ?_
        · extract_lets +onlyGivenNames -underBinder -merge y8
          have hy8 : Keeps F a y8 := by
            unfold y8
            refine State.set_keeps (maskSub hF rfl) ?_
            refine State.set_keeps (maskSub hF rfl) ?_
            assumption
          try clear_value y8
          extract_lets +onlyGivenNames -underBinder -merge y9
          try clear_value y9
          refine State.setRackP_keeps (maskSub hF rfl) ?_
          assumption
        · refine Keeps.ite ?_ ?_
          · refine Keeps.upd_prt (maskSub hF rfl) ?_
            assumption
          · refine Keeps.ite ?_ ?_
            · refine Keeps.upd_prt (maskSub hF rfl) ?_
              assumption
            · refine Keeps.ite ?_ ?_
              · refine State.setRackP_keeps (maskSub hF rfl) ?_
                assumption
              · refine Keeps.ite ?_ ?_
                · extract_lets +onlyGivenNames -underBinder -merge y10
                  have hy10 : Keeps F a y10 := by
                    unfold y10
                    refine State.set_keeps (maskSub hF rfl) ?_
                    refine State.set_keeps (maskSub hF rfl) ?_
                    assumption
                  try clear_value y10
                  extract_lets +onlyGivenNames -underBinder -merge y11
                  have hy11 : Keeps F a y11 := by
                    unfold y11
                    refine State.set_keeps (maskSub hF rfl) ?_
                    refine State.set_keeps (maskSub hF rfl) ?_
                    assumption
                  try clear_value y11
                  refine Keeps.upd_prt (maskSub hF rfl) ?_
                  assumption
                · refine Keeps.ite ?_ ?_
                  · extract_lets +onlyGivenNames -underBinder -merge y12
                    try clear_value y12
                    extract_lets +onlyGivenNames -underBinder -merge y13
                    have hy13 : Keeps F a y13 := by
                      unfold y13
                      refine State.set_keeps (maskSub hF rfl) ?_
                      assumption
                    try clear_value y13
                    extract_lets +onlyGivenNames -underBinder -merge y14
                    try clear_value y14
                    extract_lets +onlyGivenNames -underBinder -merge y15
                    have hy15 : Keeps F a y15 := by
                      unfold y15
                      refine State.setLimP_keeps (maskSub hF rfl) ?_
                      assumption
                    try clear_value y15
                    refine Keeps.ite ?_ ?_
                    · refine Keeps.upd_prt (maskSub hF rfl) ?_
                      assumption
                    · assumption
                  · refine Keeps.ite ?_ ?_
                    · extract_lets +onlyGivenNames -underBinder -merge y16
                      try clear_value y16
                      refine State.setLeakIn_keeps (maskSub hF rfl) ?_
                      assumption
                    · refine Keeps.ite ?_ ?_
                      · refine State.set_keeps (maskSub hF rfl) ?_
                        assumption
                      · refine Keeps.ite ?_ ?_
                        · refine Keeps.upd_prt (maskSub hF rfl) ?_
                          assumption
                        · assumption
    try clear_value y3
    assumption

/-! ### Barriers -/

theorem State.setBarrier_keeps {F : Nat} {a s : State} {x1 x2} (hF : F ||| 33554432 = F) (h : Keeps F a s) :
    Keeps F a (State.setBarrier s x1 x2) := by
  unfold State.setBarrier
  extract_lets +onlyGivenNames -underBinder -merge y0
  try clear_value y0
  refine State.set_keeps (maskSub hF rfl) ?_
  refine State.set_keeps (maskSub hF rfl) ?_
  refine State.set_keeps (maskSub hF rfl) ?_
  assumption

theorem State.commitBarrier_keeps {F : Nat} {a s : State} {x1 x2 x3} (hF : F ||| 50331652 = F) (h : Keeps F a s) :
    Keeps F a (State.commitBarrier s x1 x2 x3).2 := by
  unfold State.commitBarrier
  split
  · refine Keeps.p2 ?_
    assumption
  · split
    · refine Keeps.p2 ?_
      assumption
    · extract_lets +onlyGivenNames -underBinder -merge y0
      have hy0 : Keeps F a y0 := by
        unfold y0
        refine State.setBarrier_keeps (maskSub hF rfl) ?_
        assumption
      try clear_value y0
      extract_lets +onlyGivenNames -underBinder -merge y1
      have hy1 : Keeps F a y1 := by
        unfold y1
        refine State.wr_keeps (maskSub hF rfl) ?_
        refine State.wr_keeps (maskSub hF rfl) ?_
        refine State.wr_keeps (maskSub hF rfl) ?_
        refine State.wr_keeps (maskSub hF rfl) ?_
        refine State.wr_keeps (maskSub hF rfl) ?_
        assumption
      try clear_value y1
      extract_lets +onlyGivenNames -underBinder -merge y2
      have hy2 : Keeps F a y2 := by
        unfold y2
        refine State.commitEntry_keeps (maskSub hF rfl) ?_
        assumption
      try clear_value y2
      refine Keeps.p2 ?_
      assumption

theorem State.dropBar_keeps {F : Nat} {a s : State} {x1} (hF : F ||| 33685508 = F) (h : Keeps F a s) :
    Keeps F a (State.dropBar s x1) := by
  unfold State.dropBar
  extract_lets +onlyGivenNames -underBinder -merge y0
  have hy0 : Keeps F a y0 := by
    unfold y0
    split
    · refine Keeps.ite ?_ ?_
      · refine State.endEntry_keeps (maskSub hF rfl) ?_
        assumption
      · assumption
    · assumption
  try clear_value y0
  refine Keeps.upd_pair (maskSub hF rfl) ?_
  assumption

theorem State.putBar_keeps {F : Nat} {a s : State} {x1} (hF : F ||| 131072 = F) (h : Keeps F a s) :
    Keeps F a (State.putBar s x1) := by
  unfold State.putBar
  refine Keeps.upd_pair (maskSub hF rfl) ?_
  assumption

theorem State.abortSwap_keeps {F : Nat} {a s : State} (hF : F ||| 50462724 = F) (h : Keeps F a s) :
    Keeps F a (State.abortSwap s) := by
  unfold State.abortSwap
  refine Keeps.ite ?_ ?_
  · extract_lets +onlyGivenNames -underBinder -merge y0
    have hy0 : Keeps F a y0 := by
      unfold y0
      refine State.set_keeps (maskSub hF rfl) ?_
      refine State.set_keeps (maskSub hF rfl) ?_
      refine State.dropBar_keeps (maskSub hF rfl) ?_
      assumption
    try clear_value y0
    refine State.raise_keeps (maskSub hF rfl) ?_
    refine Keeps.upd_pair (maskSub hF rfl) ?_
    assumption
  · assumption

theorem State.armSwap_keeps {F : Nat} {a s : State} {x1} (hF : F ||| 33685504 = F) (h : Keeps F a s) :
    Keeps F a (State.armSwap s x1) := by
  unfold State.armSwap
  extract_lets +onlyGivenNames -underBinder -merge y0
  have hy0 : Keeps F a y0 := by
    unfold y0
    refine State.wr_keeps (maskSub hF rfl) ?_
    refine State.wr_keeps (maskSub hF rfl) ?_
    refine State.set_keeps (maskSub hF rfl) ?_
    assumption
  try clear_value y0
  refine Keeps.upd_pair (maskSub hF rfl) ?_
  assumption

theorem State.proposePair_keeps {F : Nat} {a s : State} {x1} (hF : F ||| 8519712 = F) (h : Keeps F a s) :
    Keeps F a (State.proposePair s x1) := by
  unfold State.proposePair
  extract_lets +onlyGivenNames -underBinder -merge y0
  have hy0 : Keeps F a y0 := by
    unfold y0
    refine State.putBar_keeps (maskSub hF rfl) ?_
    assumption
  try clear_value y0
  refine State.cra_keeps (maskSub hF rfl) ?_
  assumption

theorem execPairBarrierPropose_keeps {F : Nat} {a s : State} {x0} (hF : F ||| 58851364 = F) (h : Keeps F a s) :
    ∃ t, execPairBarrierPropose x0 s = .next t ∧ Keeps F a t := by
  refine ⟨_, rfl, ?_⟩
  refine Keeps.ite ?_ ?_
  · extract_lets +onlyGivenNames -underBinder -merge y0
    have hy0 : Keeps F a y0 := by
      unfold y0
      refine State.dropBar_keeps (maskSub hF rfl) ?_
      assumption
    try clear_value y0
    split
    · rename_i p1 e2
      have hp1 : Keeps F a p1 := by
        refine Keeps.of2 e2 ?_
        refine State.commitBarrier_keeps (maskSub hF rfl) ?_
        assumption
      assumption
    · rename_i p3 p4 e5
      have hp4 : Keeps F a p4 := by
        refine Keeps.of2 e5 ?_
        refine State.commitBarrier_keeps (maskSub hF rfl) ?_
        assumption
      extract_lets +onlyGivenNames -underBinder -merge y6
      have hy6 : Keeps F a y6 := by
        unfold y6
        refine State.putBar_keeps (maskSub hF rfl) ?_
        assumption
      try clear_value y6
      extract_lets +onlyGivenNames -underBinder -merge y7
      have hy7 : Keeps F a y7 := by
        unfold y7
        refine Keeps.ite ?_ ?_
        · refine State.armSwap_keeps (maskSub hF rfl) ?_
          assumption
        · assumption
      try clear_value y7
      refine State.cra_keeps (maskSub hF rfl) ?_
      assumption
  · assumption

theorem execPairBarrierAccept_keeps {F : Nat} {a s : State} {x0} (hF : F ||| 50462724 = F) (h : Keeps F a s) :
    ∃ t, execPairBarrierAccept x0 s = .next t ∧ Keeps F a t := by
  refine ⟨_, rfl, ?_⟩
  split
  · refine Keeps.ite ?_ ?_
    · split
      · rename_i p0 e1
        have hp0 : Keeps F a p0 := by
          refine Keeps.of2 e1 ?_
          refine State.commitBarrier_keeps (maskSub hF rfl) ?_
          assumption
        assumption
      · rename_i p2 p3 e4
        have hp3 : Keeps F a p3 := by
          refine Keeps.of2 e4 ?_
          refine State.commitBarrier_keeps (maskSub hF rfl) ?_
          assumption
        extract_lets +onlyGivenNames -underBinder -merge y5
        have hy5 : Keeps F a y5 := by
          unfold y5
          refine State.putBar_keeps (maskSub hF rfl) ?_
          assumption
        try clear_value y5
        refine Keeps.ite ?_ ?_
        · refine State.armSwap_keeps (maskSub hF rfl) ?_
          assumption
        · assumption
    · assumption
  · assumption

theorem State.cancelBar_keeps {F : Nat} {a s : State} {x1} (hF : F ||| 58851364 = F) (h : Keeps F a s) :
    Keeps F a (State.cancelBar s x1) := by
  unfold State.cancelBar
  split
  · refine Keeps.ite ?_ ?_
    · extract_lets +onlyGivenNames -underBinder -merge y0
      have hy0 : Keeps F a y0 := by
        unfold y0
        refine Keeps.ite ?_ ?_
        · refine State.abortSwap_keeps (maskSub hF rfl) ?_
          assumption
        · assumption
      try clear_value y0
      refine State.cra_keeps (maskSub hF rfl) ?_
      refine State.dropBar_keeps (maskSub hF rfl) ?_
      assumption
    · assumption
  · assumption

theorem execPairBarrierCancel_keeps {F : Nat} {a s : State} {x0} (hF : F ||| 58851364 = F) (h : Keeps F a s) :
    ∃ t, execPairBarrierCancel x0 s = .next t ∧ Keeps F a t := by
  refine ⟨_, rfl, ?_⟩
  refine Keeps.ite ?_ ?_
  · refine State.cancelBar_keeps (maskSub hF rfl) ?_
    assumption
  · split
    · refine State.dropBar_keeps (maskSub hF rfl) ?_
      refine Keeps.ite ?_ ?_
      · refine State.abortSwap_keeps (maskSub hF rfl) ?_
        assumption
      · assumption
    · assumption

theorem State.dropBars_keeps {F : Nat} {a s : State} (hF : F ||| 33685508 = F) (h : Keeps F a s) :
    Keeps F a (State.dropBars s) := by
  unfold State.dropBars
  refine Keeps.foldl ?_ ?_
  · assumption
  · intro x1 x2 h0
    beta_reduce
    refine State.dropBar_keeps (maskSub hF rfl) ?_
    assumption

theorem State.sendTickRecord_keeps {F : Nat} {a s : State} (hF : F ||| 42074144 = F) (h : Keeps F a s) :
    Keeps F a (State.sendTickRecord s) := by
  unfold State.sendTickRecord
  split
  · assumption
  · extract_lets +onlyGivenNames -underBinder -merge y0
    try clear_value y0
    refine Keeps.ite ?_ ?_
    · extract_lets +onlyGivenNames -underBinder -merge y1
      have hy1 : Keeps F a y1 := by
        unfold y1
        refine State.set_keeps (maskSub hF rfl) ?_
        assumption
      try clear_value y1
      extract_lets +onlyGivenNames -underBinder -merge y2
      try clear_value y2
      extract_lets +onlyGivenNames -underBinder -merge y3
      try clear_value y3
      extract_lets +onlyGivenNames -underBinder -merge y4
      have hy4 : Keeps F a y4 := by
        unfold y4
        refine Keeps.ite ?_ ?_
        · refine Keeps.upd_pair (maskSub hF rfl) ?_
          assumption
        · assumption
      try clear_value y4
      refine State.cra_keeps (maskSub hF rfl) ?_
      assumption
    · assumption

theorem execTickRecord_keeps {F : Nat} {a s : State} {x0} (hF : F ||| 33685504 = F) (h : Keeps F a s) :
    ∃ t, execTickRecord x0 s = .next t ∧ Keeps F a t := by
  refine ⟨_, rfl, ?_⟩
  split
  · extract_lets +onlyGivenNames -underBinder -merge y0
    try clear_value y0
    refine Keeps.ite ?_ ?_
    · refine State.set_keeps (maskSub hF rfl) ?_
      refine Keeps.upd_pair (maskSub hF rfl) ?_
      assumption
    · assumption
  · assumption

theorem State.offerReady_keeps {F : Nat} {a s : State} (hF : F ||| 8519712 = F) (h : Keeps F a s) :
    Keeps F a (State.offerReady s) := by
  unfold State.offerReady
  split
  · refine Keeps.ite ?_ ?_
    · refine State.cra_keeps (maskSub hF rfl) ?_
      refine Keeps.upd_pair (maskSub hF rfl) ?_
      assumption
    · assumption
  · assumption

theorem execSwapReady_keeps {F : Nat} {a s : State} (hF : F ||| 8519712 = F) (h : Keeps F a s) :
    ∃ t, execSwapReady s = .next t ∧ Keeps F a t := by
  refine ⟨_, rfl, ?_⟩
  refine Keeps.ite ?_ ?_
  · refine Keeps.ite ?_ ?_
    · refine Keeps.upd_pair (maskSub hF rfl) ?_
      assumption
    · assumption
  · refine State.offerReady_keeps (maskSub hF rfl) ?_
    assumption

/-! ### Lockstep -/

theorem State.lsEnter_keeps {F : Nat} {a s : State} {x1} (hF : F ||| 42074144 = F) (h : Keeps F a s) :
    Keeps F a (State.lsEnter s x1) := by
  unfold State.lsEnter
  refine Keeps.ite ?_ ?_
  · assumption
  · extract_lets +onlyGivenNames -underBinder -merge y0
    try clear_value y0
    extract_lets +onlyGivenNames -underBinder -merge y1
    have hy1 : Keeps F a y1 := by
      unfold y1
      refine State.set_keeps (maskSub hF rfl) ?_
      assumption
    try clear_value y1
    refine Keeps.ite ?_ ?_
    · refine State.proposePair_keeps (maskSub hF rfl) ?_
      assumption
    · assumption

theorem execLockstepEnterRequest_keeps {F : Nat} {a s : State} {x0 x1} (hF : F ||| 58851368 = F) (h : Keeps F a s) :
    ∃ t, execLockstepEnterRequest x0 x1 s = .next t ∧ Keeps F a t := by
  refine ⟨_, rfl, ?_⟩
  refine State.writeRow_keeps (maskSub hF rfl) ?_ ?_
  · assumption
  · intro x1 h0
    beta_reduce
    refine State.lsEnter_keeps (maskSub hF rfl) ?_
    assumption

theorem State.lsLeave_keeps {F : Nat} {a s : State} (hF : F ||| 50593792 = F) (h : Keeps F a s) :
    Keeps F a (State.lsLeave s) := by
  unfold State.lsLeave
  refine Keeps.ite ?_ ?_
  · refine State.lsEnd_keeps (maskSub hF rfl) ?_
    assumption
  · assumption

theorem execLockstepLeave_keeps {F : Nat} {a s : State} {x0} (hF : F ||| 58982408 = F) (h : Keeps F a s) :
    ∃ t, execLockstepLeave x0 s = .next t ∧ Keeps F a t := by
  refine ⟨_, rfl, ?_⟩
  refine State.writeRow_keeps (maskSub hF rfl) ?_ ?_
  · assumption
  · intro x1 h0
    beta_reduce
    refine State.lsLeave_keeps (maskSub hF rfl) ?_
    assumption

theorem State.lsBegin_keeps {F : Nat} {a s : State} (hF : F ||| 42206216 = F) (h : Keeps F a s) :
    Keeps F a (State.lsBegin s) := by
  unfold State.lsBegin
  extract_lets +onlyGivenNames -underBinder -merge y0
  try clear_value y0
  extract_lets +onlyGivenNames -underBinder -merge y1
  have hy1 : Keeps F a y1 := by
    unfold y1
    refine State.set_keeps (maskSub hF rfl) ?_
    refine State.set_keeps (maskSub hF rfl) ?_
    assumption
  try clear_value y1
  extract_lets +onlyGivenNames -underBinder -merge y2
  have hy2 : Keeps F a y2 := by
    unfold y2
    refine Keeps.upd_lst (maskSub hF rfl) ?_
    assumption
  try clear_value y2
  refine Keeps.ite ?_ ?_
  · extract_lets +onlyGivenNames -underBinder -merge y3
    try clear_value y3
    extract_lets +onlyGivenNames -underBinder -merge y4
    have hy4 : Keeps F a y4 := by
      unfold y4
      refine Keeps.ite ?_ ?_
      · assumption
      · refine State.set_keeps (maskSub hF rfl) ?_
        refine State.set_keeps (maskSub hF rfl) ?_
        refine Keeps.upd_tbl (maskSub hF rfl) ?_
        assumption
    try clear_value y4
    extract_lets +onlyGivenNames -underBinder -merge y5
    have hy5 : Keeps F a y5 := by
      unfold y5
      refine Keeps.foldl ?_ ?_
      · assumption
      · intro x7 x8 h6
        beta_reduce
        refine Keeps.foldl ?_ ?_
        · assumption
        · intro x10 x11 h9
          beta_reduce
          refine State.queueSave_keeps (maskSub hF rfl) ?_
          assumption
    try clear_value y5
    refine State.nextDevice_keeps (maskSub hF rfl) ?_
    assumption
  · refine State.nextDevice_keeps (maskSub hF rfl) ?_
    refine State.tablesReset_keeps (maskSub hF rfl) ?_
    refine Keeps.upd_tbl (maskSub hF rfl) ?_
    assumption

theorem State.lsSend_keeps {F : Nat} {a s : State} {x1} (hF : F ||| 8388640 = F) (h : Keeps F a s) :
    Keeps F a (State.lsSend s x1) := by
  unfold State.lsSend
  refine Keeps.ite ?_ ?_
  · extract_lets +onlyGivenNames -underBinder -merge y0
    have hy0 : Keeps F a y0 := by
      unfold y0
      refine State.cra_keeps (maskSub hF rfl) ?_
      assumption
    try clear_value y0
    split
    · refine State.cra_keeps (maskSub hF rfl) ?_
      assumption
    · assumption
  · assumption

theorem State.lsCompare_keeps {F : Nat} {a s : State} {x1 x2 x3} (hF : F ||| 50593792 = F) (h : Keeps F a s) :
    Keeps F a (State.lsCompare s x1 x2 x3) := by
  unfold State.lsCompare
  extract_lets +onlyGivenNames -underBinder -merge y0
  have hy0 : Keeps F a y0 := by
    unfold y0
    refine State.count_keeps (maskSub hF rfl) ?_
    assumption
  try clear_value y0
  refine Keeps.ite ?_ ?_
  · extract_lets +onlyGivenNames -underBinder -merge y1
    try clear_value y1
    extract_lets +onlyGivenNames -underBinder -merge y2
    try clear_value y2
    extract_lets +onlyGivenNames -underBinder -merge y3
    have hy3 : Keeps F a y3 := by
      unfold y3
      refine Keeps.upd_lst (maskSub hF rfl) ?_
      assumption
    try clear_value y3
    refine Keeps.ite ?_ ?_
    · refine State.set_keeps (maskSub hF rfl) ?_
      refine State.set_keeps (maskSub hF rfl) ?_
      assumption
    · assumption
  · refine State.lsEnd_keeps (maskSub hF rfl) ?_
    assumption

theorem State.lsCommit_keeps {F : Nat} {a s : State} {x1} (hF : F ||| 33817600 = F) (h : Keeps F a s) :
    Keeps F a (State.lsCommit s x1) := by
  unfold State.lsCommit
  split
  · assumption
  · extract_lets +onlyGivenNames -underBinder -merge y0
    try clear_value y0
    extract_lets +onlyGivenNames -underBinder -merge y1
    have hy1 : Keeps F a y1 := by
      unfold y1
      refine State.applyCommit_keeps (maskSub hF rfl) ?_
      refine State.countBy_keeps (maskSub hF rfl) ?_
      assumption
    try clear_value y1
    extract_lets +onlyGivenNames -underBinder -merge y2
    have hy2 : Keeps F a y2 := by
      unfold y2
      refine Keeps.foldl ?_ ?_
      · assumption
      · intro x4 x5 h3
        beta_reduce
        refine State.addPair_keeps (maskSub hF rfl) ?_
        assumption
    try clear_value y2
    refine Keeps.upd_lst (maskSub hF rfl) ?_
    assumption

theorem State.lsBatch_keeps {F : Nat} {a s : State} {x1 x2} (hF : F ||| 67371520 = F) (h : Keeps F a s) :
    Keeps F a (State.lsBatch s x1 x2) := by
  unfold State.lsBatch
  split
  · assumption
  · extract_lets +onlyGivenNames -underBinder -merge y0
    try clear_value y0
    extract_lets +onlyGivenNames -underBinder -merge y1
    try clear_value y1
    extract_lets +onlyGivenNames -underBinder -merge y2
    have hy22 : Keeps F a y2.2 := by
      unfold y2
      refine State.runOn_keeps (maskSub hF rfl) ?_
      assumption
    try clear_value y2
    extract_lets +onlyGivenNames -underBinder -merge y3
    try clear_value y3
    extract_lets +onlyGivenNames -underBinder -merge y4
    try clear_value y4
    extract_lets +onlyGivenNames -underBinder -merge y5
    have hy5 : Keeps F a y5 := by
      unfold y5
      assumption
    try clear_value y5
    refine Keeps.upd (s := y5) ?_ id rfl le_rfl List.suffix_rfl le_rfl (FirnStep.refl _)
       (.inr rfl) (.inr rfl) (.inr rfl) (.inr rfl) (.inr rfl) (.inr rfl) (.inr rfl) (.inr rfl) (.inr rfl) (.inl (maskSub hF rfl)) (.inr rfl)
       (.inr rfl) (.inr rfl) (.inr rfl) (.inr rfl) (.inr rfl) (.inr rfl) (.inr rfl) (.inl (maskSub hF rfl)) (.inr rfl) (.inr rfl) (.inr rfl)
       (.inr rfl) (.inr rfl) (.inr rfl) (.inr rfl) (.inr rfl)
    assumption

theorem State.lsRun_keeps {F : Nat} {a s : State} {x1} (hF : F ||| 117704192 = F) (h : Keeps F a s) :
    Keeps F a (State.lsRun s x1) := by
  unfold State.lsRun
  extract_lets +onlyGivenNames -underBinder -merge y0
  have hy0 : Keeps F a y0 := by
    unfold y0
    refine State.lsCommit_keeps (maskSub hF rfl) ?_
    assumption
  try clear_value y0
  extract_lets +onlyGivenNames -underBinder -merge y1
  try clear_value y1
  extract_lets +onlyGivenNames -underBinder -merge y2
  try clear_value y2
  extract_lets +onlyGivenNames -underBinder -merge y3
  try clear_value y3
  extract_lets +onlyGivenNames -underBinder -merge y4
  have hy4 : Keeps F a y4 := by
    unfold y4
    refine Keeps.upd (s := y0) ?_ id rfl le_rfl List.suffix_rfl le_rfl (FirnStep.refl _)
       (.inr rfl) (.inr rfl) (.inr rfl) (.inr rfl) (.inr rfl) (.inr rfl) (.inr rfl) (.inr rfl) (.inr rfl) (.inl (maskSub hF rfl)) (.inr rfl)
       (.inr rfl) (.inr rfl) (.inr rfl) (.inr rfl) (.inr rfl) (.inr rfl) (.inr rfl) (.inl (maskSub hF rfl)) (.inr rfl) (.inr rfl) (.inr rfl)
       (.inr rfl) (.inr rfl) (.inr rfl) (.inr rfl) (.inr rfl)
    assumption
  try clear_value y4
  extract_lets +onlyGivenNames -underBinder -merge y5
  have hy5 : Keeps F a y5 := by
    unfold y5
    refine Keeps.foldl ?_ ?_
    · assumption
    · intro x7 x8 h6
      beta_reduce
      refine State.lsBatch_keeps (maskSub hF rfl) ?_
      assumption
  try clear_value y5
  extract_lets +onlyGivenNames -underBinder -merge y9
  have hy9 : Keeps F a y9 := by
    unfold y9
    refine Keeps.ite ?_ ?_
    · assumption
    · split
      · assumption
      · extract_lets +onlyGivenNames -underBinder -merge y10
        try clear_value y10
        extract_lets +onlyGivenNames -underBinder -merge y11
        try clear_value y11
        extract_lets +onlyGivenNames -underBinder -merge y12
        have hy122 : Keeps F a y12.2 := by
          unfold y12
          refine State.runOn_keeps (maskSub hF rfl) ?_
          assumption
        try clear_value y12
        extract_lets +onlyGivenNames -underBinder -merge y13
        try clear_value y13
        extract_lets +onlyGivenNames -underBinder -merge y14
        try clear_value y14
        extract_lets +onlyGivenNames -underBinder -merge y15
        have hy15 : Keeps F a y15 := by
          unfold y15
          assumption
        try clear_value y15
        refine Keeps.upd (s := y15) ?_ id rfl le_rfl List.suffix_rfl le_rfl (FirnStep.refl _)
           (.inr rfl) (.inr rfl) (.inr rfl) (.inr rfl) (.inr rfl) (.inr rfl) (.inr rfl) (.inr rfl) (.inr rfl) (.inl (maskSub hF rfl)) (.inr rfl)
           (.inr rfl) (.inr rfl) (.inr rfl) (.inr rfl) (.inr rfl) (.inr rfl) (.inr rfl) (.inl (maskSub hF rfl)) (.inr rfl) (.inr rfl) (.inr rfl)
           (.inr rfl) (.inr rfl) (.inr rfl) (.inr rfl) (.inr rfl)
        assumption
  try clear_value y9
  refine State.formDigest_keeps (maskSub hF rfl) ?_
  assumption

theorem State.lsAdvance_keeps {F : Nat} {a s : State} {x1} (hF : F ||| 117704192 = F) (h : Keeps F a s) :
    Keeps F a (State.lsAdvance x1 s) := by
  induction x1 generalizing s with
  | zero => exact h
  | succ n ih =>
    unfold State.lsAdvance
    refine Keeps.ite h ?_
    split
    · exact h
    · extract_lets +onlyGivenNames -underBinder -merge y0
      have hy0 : Keeps F a y0 := State.lsRun_keeps (maskSub hF rfl) h
      try clear_value y0
      extract_lets +onlyGivenNames -underBinder -merge z1 y1
      have hy1 : Keeps F a y1 := Keeps.upd_lst (maskSub hF rfl) hy0
      try clear_value y1
      extract_lets +onlyGivenNames -underBinder -merge y2
      have hy2 : Keeps F a y2 := State.set_keeps (maskSub hF rfl) hy1
      try clear_value y2
      extract_lets +onlyGivenNames -underBinder -merge y3
      have hy3 : Keeps F a y3 := by
        unfold y3
        split
        · exact State.lsCompare_keeps (maskSub hF rfl) (Keeps.upd_lst (maskSub hF rfl) hy2)
        · exact hy2
      try clear_value y3
      exact ih hy3

theorem execLockstepInputRecord_keeps {F : Nat} {a s : State} {x0} (hF : F ||| 117704192 = F) (h : Keeps F a s) :
    ∃ t, execLockstepInputRecord x0 s = .next t ∧ Keeps F a t := by
  refine ⟨_, rfl, ?_⟩
  refine State.takeCra_keeps (maskSub hF rfl) h ?_
  intro t ht
  beta_reduce
  refine Keeps.ite ?_ ht
  extract_lets +onlyGivenNames -underBinder -merge z1 y1
  have hy1 : Keeps F a y1 := Keeps.upd_lst (maskSub hF rfl) ht
  extract_lets +onlyGivenNames -underBinder -merge y2
  have hy2 : Keeps F a y2 := State.lsAdvance_keeps (maskSub hF rfl) hy1
  try clear_value y2
  extract_lets +onlyGivenNames -underBinder -merge y3 y4
  have hy4 : Keeps F a y4 := Keeps.ite (State.set_keeps (maskSub hF rfl) hy2) hy2
  try clear_value y4
  exact Keeps.ite (State.lsEnd_keeps (maskSub hF rfl) hy4) hy4

theorem execLockstepDigest_keeps {F : Nat} {a s : State} {x0 x1} (hF : F ||| 50593792 = F) (h : Keeps F a s) :
    ∃ t, execLockstepDigest x0 x1 s = .next t ∧ Keeps F a t := by
  refine ⟨_, rfl, ?_⟩
  refine State.takeCra_keeps (maskSub hF rfl) ?_ ?_
  · assumption
  · intro x1 h0
    beta_reduce
    refine Keeps.ite ?_ ?_
    · refine Keeps.ite ?_ ?_
      · split
        · refine State.lsCompare_keeps (maskSub hF rfl) ?_
          assumption
        · assumption
      · refine Keeps.upd_lst (maskSub hF rfl) ?_
        assumption
    · assumption

theorem State.gapEnds_keeps {F : Nat} {a s : State} (hF : F ||| 50593792 = F) (h : Keeps F a s) :
    Keeps F a (State.gapEnds s) := by
  unfold State.gapEnds
  refine Keeps.ite ?_ ?_
  · refine State.lsEnd_keeps (maskSub hF rfl) ?_
    assumption
  · assumption

theorem execLockstepGap_keeps {F : Nat} {a s : State} (hF : F ||| 50593792 = F) (h : Keeps F a s) :
    ∃ t, execLockstepGap s = .next t ∧ Keeps F a t := by
  refine ⟨_, rfl, ?_⟩
  refine State.gapEnds_keeps (maskSub hF rfl) ?_
  assumption

/-! ### Pair -/

theorem State.setPair_keeps {F : Nat} {a s : State} {x1} (hF : F ||| 131072 = F) (h : Keeps F a s) :
    Keeps F a (State.setPair s x1) := by
  unfold State.setPair
  refine Keeps.upd_pair (maskSub hF rfl) ?_
  assumption

theorem State.laneAlive_keeps {F : Nat} {a s : State} {x1} (hF : F ||| 33685504 = F) (h : Keeps F a s) :
    Keeps F a (State.laneAlive s x1) := by
  unfold State.laneAlive
  refine State.judgeTick_keeps (maskSub hF rfl) ?_
  refine State.set_keeps (maskSub hF rfl) ?_
  refine State.setPair_keeps (maskSub hF rfl) ?_
  assumption

theorem execPairLaneDown_keeps {F : Nat} {a s : State} {x0 x1} (hF : F ||| 50331648 = F) (h : Keeps F a s) :
    ∃ t, execPairLaneDown x0 x1 s = .next t ∧ Keeps F a t := by
  refine ⟨_, rfl, ?_⟩
  refine Keeps.ite ?_ ?_
  · refine State.judgeTick_keeps (maskSub hF rfl) ?_
    refine State.raise_keeps (maskSub hF rfl) ?_
    refine State.set_keeps (maskSub hF rfl) ?_
    assumption
  · assumption

theorem State.sendHeartbeat_keeps {F : Nat} {a s : State} (hF : F ||| 8519712 = F) (h : Keeps F a s) :
    Keeps F a (State.sendHeartbeat s) := by
  unfold State.sendHeartbeat
  refine Keeps.ite ?_ ?_
  · refine State.cra_keeps (maskSub hF rfl) ?_
    refine Keeps.upd_pair (maskSub hF rfl) ?_
    assumption
  · assumption

theorem execHeartbeatSend_keeps {F : Nat} {a s : State} (hF : F ||| 8519712 = F) (h : Keeps F a s) :
    ∃ t, execHeartbeatSend s = .next t ∧ Keeps F a t := by
  refine ⟨_, rfl, ?_⟩
  refine State.sendHeartbeat_keeps (maskSub hF rfl) ?_
  assumption

theorem State.proposeLevel_keeps {F : Nat} {a s : State} {x1} (hF : F ||| 8519712 = F) (h : Keeps F a s) :
    Keeps F a (State.proposeLevel s x1) := by
  unfold State.proposeLevel
  split
  · refine Keeps.ite ?_ ?_
    · refine State.proposePair_keeps (maskSub hF rfl) ?_
      assumption
    · assumption
  · assumption

theorem State.heartbeat_keeps {F : Nat} {a s : State} {x1 x2} (hF : F ||| 58851376 = F) (h : Keeps F a s) :
    Keeps F a (State.heartbeat s x1 x2) := by
  unfold State.heartbeat
  refine Keeps.ite ?_ ?_
  · refine Keeps.ite ?_ ?_
    · refine State.raise_keeps (maskSub hF rfl) ?_
      refine Keeps.upd_sys (maskSub hF rfl) ?_
      assumption
    · assumption
  · refine Keeps.ite ?_ ?_
    · assumption
    · extract_lets +onlyGivenNames -underBinder -merge y0
      try clear_value y0
      extract_lets +onlyGivenNames -underBinder -merge y1
      try clear_value y1
      extract_lets +onlyGivenNames -underBinder -merge y2
      have hy2 : Keeps F a y2 := by
        unfold y2
        refine State.setPair_keeps (maskSub hF rfl) ?_
        assumption
      try clear_value y2
      refine State.proposeLevel_keeps (maskSub hF rfl) ?_
      assumption

theorem execHeartbeatReceived_keeps {F : Nat} {a s : State} {x0 x1} (hF : F ||| 58851376 = F) (h : Keeps F a s) :
    ∃ t, execHeartbeatReceived x0 x1 s = .next t ∧ Keeps F a t := by
  refine ⟨_, rfl, ?_⟩
  refine Keeps.ite ?_ ?_
  · assumption
  · split
    · refine State.heartbeat_keeps (maskSub hF rfl) ?_
      refine State.laneAlive_keeps (maskSub hF rfl) ?_
      assumption
    · refine State.takeCra_keeps (maskSub hF rfl) ?_ ?_
      · assumption
      · intro x1 h0
        beta_reduce
        refine State.heartbeat_keeps (maskSub hF rfl) ?_
        assumption

theorem State.countMisses_keeps {F : Nat} {a s : State} (hF : F ||| 33685504 = F) (h : Keeps F a s) :
    Keeps F a (State.countMisses s) := by
  unfold State.countMisses
  refine Keeps.ite ?_ ?_
  · refine State.setPair_keeps (maskSub hF rfl) ?_
    assumption
  · extract_lets +onlyGivenNames -underBinder -merge y0
    have hy0 : Keeps F a y0 := by
      unfold y0
      refine Keeps.ite ?_ ?_
      · refine State.set_keeps (maskSub hF rfl) ?_
        assumption
      · refine State.bump_keeps (maskSub hF rfl) ?_
        assumption
    try clear_value y0
    extract_lets +onlyGivenNames -underBinder -merge y1
    have hy1 : Keeps F a y1 := by
      unfold y1
      refine Keeps.ite ?_ ?_
      · refine State.set_keeps (maskSub hF rfl) ?_
        assumption
      · refine State.bump_keeps (maskSub hF rfl) ?_
        assumption
    try clear_value y1
    refine State.setPair_keeps (maskSub hF rfl) ?_
    assumption

theorem State.wholeFrame_keeps {F : Nat} {a s : State} (hF : F ||| 37879808 = F) (h : Keeps F a s) :
    Keeps F a (State.wholeFrame s) := by
  unfold State.wholeFrame
  refine Keeps.ite ?_ ?_
  · assumption
  · refine State.countMisses_keeps (maskSub hF rfl) ?_
    refine Keeps.upd_clk (maskSub hF rfl) le_rfl ?_
    assumption

theorem State.judgePartner_keeps {F : Nat} {a s : State} (hF : F ||| 50462724 = F) (h : Keeps F a s) :
    Keeps F a (State.judgePartner s) := by
  unfold State.judgePartner
  refine Keeps.ite ?_ ?_
  · extract_lets +onlyGivenNames -underBinder -merge y0
    try clear_value y0
    extract_lets +onlyGivenNames -underBinder -merge y1
    have hy1 : Keeps F a y1 := by
      unfold y1
      refine State.setPair_keeps (maskSub hF rfl) ?_
      assumption
    try clear_value y1
    refine State.abortSwap_keeps (maskSub hF rfl) ?_
    refine State.raise_keeps (maskSub hF rfl) ?_
    refine State.count_keeps (maskSub hF rfl) ?_
    assumption
  · assumption

theorem execPartnerLost_keeps {F : Nat} {a s : State} (hF : F ||| 50462724 = F) (h : Keeps F a s) :
    ∃ t, execPartnerLost s = .next t ∧ Keeps F a t := by
  refine ⟨_, rfl, ?_⟩
  refine State.judgePartner_keeps (maskSub hF rfl) ?_
  assumption

theorem State.judgePeer_keeps {F : Nat} {a s : State} (hF : F ||| 50462724 = F) (h : Keeps F a s) :
    Keeps F a (State.judgePeer s) := by
  unfold State.judgePeer
  refine Keeps.ite ?_ ?_
  · refine State.abortSwap_keeps (maskSub hF rfl) ?_
    refine State.setPair_keeps (maskSub hF rfl) ?_
    assumption
  · assumption

theorem execPeerHealthLost_keeps {F : Nat} {a s : State} (hF : F ||| 50462724 = F) (h : Keeps F a s) :
    ∃ t, execPeerHealthLost s = .next t ∧ Keeps F a t := by
  refine ⟨_, rfl, ?_⟩
  refine State.judgePeer_keeps (maskSub hF rfl) ?_
  assumption

theorem State.sendRowAddresses_keeps {F : Nat} {a s : State} (hF : F ||| 8388608 = F) (h : Keeps F a s) :
    Keeps F a (State.sendRowAddresses s) := by
  unfold State.sendRowAddresses
  refine Keeps.ite ?_ ?_
  · assumption
  · extract_lets +onlyGivenNames -underBinder -merge y0
    try clear_value y0
    refine State.send_keeps (maskSub hF rfl) ?_
    refine State.send_keeps (maskSub hF rfl) ?_
    assumption

theorem State.takeRow_keeps {F : Nat} {a s : State} (hF : F ||| 42074112 = F) (h : Keeps F a s) :
    Keeps F a (State.takeRow s) := by
  unfold State.takeRow
  extract_lets +onlyGivenNames -underBinder -merge y0
  have hy0 : Keeps F a y0 := by
    unfold y0
    refine State.sendRowAddresses_keeps (maskSub hF rfl) ?_
    refine State.set_keeps (maskSub hF rfl) ?_
    assumption
  try clear_value y0
  refine State.setPair_keeps (maskSub hF rfl) ?_
  assumption

theorem State.repeatRow_keeps {F : Nat} {a s : State} (hF : F ||| 8519680 = F) (h : Keeps F a s) :
    Keeps F a (State.repeatRow s) := by
  unfold State.repeatRow
  refine Keeps.ite ?_ ?_
  · refine State.sendRowAddresses_keeps (maskSub hF rfl) ?_
    refine State.setPair_keeps (maskSub hF rfl) ?_
    assumption
  · assumption

theorem execRowAddressRepeat_keeps {F : Nat} {a s : State} (hF : F ||| 8519680 = F) (h : Keeps F a s) :
    ∃ t, execRowAddressRepeat s = .next t ∧ Keeps F a t := by
  refine ⟨_, rfl, ?_⟩
  refine State.repeatRow_keeps (maskSub hF rfl) ?_
  assumption

theorem State.takeProtection_keeps {F : Nat} {a s : State} (hF : F ||| 58769416 = F) (h : Keeps F a s) :
    Keeps F a (State.takeProtection s) := by
  unfold State.takeProtection
  extract_lets +onlyGivenNames -underBinder -merge y0
  have hy0 : Keeps F a y0 := by
    unfold y0
    refine Keeps.foldl ?_ ?_
    · assumption
    · intro x2 x3 h1
      beta_reduce
      refine Keeps.ite ?_ ?_
      · refine State.setRackP_keeps (maskSub hF rfl) ?_
        assumption
      · assumption
  try clear_value y0
  extract_lets +onlyGivenNames -underBinder -merge y4
  have hy4 : Keeps F a y4 := by
    unfold y4
    refine Keeps.ite ?_ ?_
    · refine Keeps.foldl ?_ ?_
      · assumption
      · intro x6 x7 h5
        beta_reduce
        refine Keeps.ite ?_ ?_
        · refine State.standbyStart_keeps (maskSub hF rfl) ?_
          assumption
        · assumption
    · assumption
  try clear_value y4
  extract_lets +onlyGivenNames -underBinder -merge y8
  have hy8 : Keeps F a y8 := by
    unfold y8
    refine Keeps.ite ?_ ?_
    · refine State.enterProtective_keeps (maskSub hF rfl) ?_
      assumption
    · assumption
  try clear_value y8
  extract_lets +onlyGivenNames -underBinder -merge y9
  have hy9 : Keeps F a y9 := by
    unfold y9
    refine Keeps.ite ?_ ?_
    · refine State.enterProtective_keeps (maskSub hF rfl) ?_
      assumption
    · assumption
  try clear_value y9
  refine State.settle_keeps (maskSub hF rfl) ?_
  refine State.isolateDue_keeps (maskSub hF rfl) ?_
  refine State.actRecorded_keeps (maskSub hF rfl) ?_
  assumption

theorem State.takeOutputs_keeps {F : Nat} {a s : State} (hF : F ||| 58769416 = F) (h : Keeps F a s) :
    Keeps F a (State.takeOutputs s) := by
  unfold State.takeOutputs
  refine State.takeProtection_keeps (maskSub hF rfl) ?_
  refine State.beginDriving_keeps (maskSub hF rfl) ?_
  assumption

theorem State.takeover_keeps {F : Nat} {a s : State} (hF : F ||| 58900540 = F) (h : Keeps F a s) :
    Keeps F a (State.takeover s) := by
  unfold State.takeover
  extract_lets +onlyGivenNames -underBinder -merge y0
  have hy0 : Keeps F a y0 := by
    unfold y0
    refine State.dropBars_keeps (maskSub hF rfl) ?_
    refine State.abortSwap_keeps (maskSub hF rfl) ?_
    assumption
  try clear_value y0
  extract_lets +onlyGivenNames -underBinder -merge y1
  try clear_value y1
  extract_lets +onlyGivenNames -underBinder -merge y2
  have hy2 : Keeps F a y2 := by
    unfold y2
    refine State.setPair_keeps (maskSub hF rfl) ?_
    assumption
  try clear_value y2
  extract_lets +onlyGivenNames -underBinder -merge y3
  have hy3 : Keeps F a y3 := by
    unfold y3
    refine State.mergeProtection_keeps (maskSub hF rfl) ?_
    refine State.set_keeps (maskSub hF rfl) ?_
    assumption
  try clear_value y3
  extract_lets +onlyGivenNames -underBinder -merge y4
  try clear_value y4
  extract_lets +onlyGivenNames -underBinder -merge y5
  have hy5 : Keeps F a y5 := by
    unfold y5
    refine Keeps.upd_sys (maskSub hF rfl) ?_
    assumption
  try clear_value y5
  extract_lets +onlyGivenNames -underBinder -merge y6
  have hy6 : Keeps F a y6 := by
    unfold y6
    refine State.wr_keeps (maskSub hF rfl) ?_
    assumption
  try clear_value y6
  extract_lets +onlyGivenNames -underBinder -merge y7
  have hy7 : Keeps F a y7 := by
    unfold y7
    refine State.judgeTick_keeps (maskSub hF rfl) ?_
    refine State.enter_keeps (maskSub hF rfl) ?_
    assumption
  try clear_value y7
  extract_lets +onlyGivenNames -underBinder -merge y8
  have hy8 : Keeps F a y8 := by
    unfold y8
    refine State.judgeRecord_keeps (maskSub hF rfl) ?_
    refine State.count_keeps (maskSub hF rfl) ?_
    refine State.raise_keeps (maskSub hF rfl) ?_
    assumption
  try clear_value y8
  extract_lets +onlyGivenNames -underBinder -merge y9
  have hy9 : Keeps F a y9 := by
    unfold y9
    refine Keeps.ite ?_ ?_
    · assumption
    · refine State.releaseMain_keeps (maskSub hF rfl) ?_
      assumption
  try clear_value y9
  refine State.takeRow_keeps (maskSub hF rfl) ?_
  refine State.takeOutputs_keeps (maskSub hF rfl) ?_
  assumption

theorem State.takeoverNow_keeps {F : Nat} {a s : State} (hF : F ||| 58900540 = F) (h : Keeps F a s) :
    Keeps F a (State.takeoverNow s) := by
  unfold State.takeoverNow
  refine Keeps.ite ?_ ?_
  · refine State.takeover_keeps (maskSub hF rfl) ?_
    assumption
  · assumption

theorem State.swapGo_keeps {F : Nat} {a s : State} {x1} (hF : F ||| 42074144 = F) (h : Keeps F a s) :
    Keeps F a (State.swapGo s x1) := by
  unfold State.swapGo
  refine Keeps.ite ?_ ?_
  · assumption
  · extract_lets +onlyGivenNames -underBinder -merge y0
    try clear_value y0
    extract_lets +onlyGivenNames -underBinder -merge y1
    have hy1 : Keeps F a y1 := by
      unfold y1
      refine State.set_keeps (maskSub hF rfl) ?_
      assumption
    try clear_value y1
    refine Keeps.ite ?_ ?_
    · refine State.proposePair_keeps (maskSub hF rfl) ?_
      refine State.set_keeps (maskSub hF rfl) ?_
      assumption
    · assumption

theorem execRoleSwapRequest_keeps {F : Nat} {a s : State} {x0 x1} (hF : F ||| 58851368 = F) (h : Keeps F a s) :
    ∃ t, execRoleSwapRequest x0 x1 s = .next t ∧ Keeps F a t := by
  refine ⟨_, rfl, ?_⟩
  refine State.writeRow_keeps (maskSub hF rfl) ?_ ?_
  · assumption
  · intro x1 h0
    beta_reduce
    refine State.swapGo_keeps (maskSub hF rfl) ?_
    assumption

theorem State.swapDone_keeps {F : Nat} {a s : State} (hF : F ||| 50724864 = F) (h : Keeps F a s) :
    Keeps F a (State.swapDone s) := by
  unfold State.swapDone
  extract_lets +onlyGivenNames -underBinder -merge y0
  have hy0 : Keeps F a y0 := by
    unfold y0
    refine State.wrap_keeps (maskSub hF rfl) ?_
    refine State.set_keeps (maskSub hF rfl) ?_
    refine State.set_keeps (maskSub hF rfl) ?_
    assumption
  try clear_value y0
  extract_lets +onlyGivenNames -underBinder -merge y1
  try clear_value y1
  extract_lets +onlyGivenNames -underBinder -merge y2
  have hy2 : Keeps F a y2 := by
    unfold y2
    refine State.setPair_keeps (maskSub hF rfl) ?_
    assumption
  try clear_value y2
  refine State.lsLeave_keeps (maskSub hF rfl) ?_
  refine State.raise_keeps (maskSub hF rfl) ?_
  assumption

theorem State.swapIn_keeps {F : Nat} {a s : State} {x1} (hF : F ||| 59162648 = F) (h : Keeps F a s) :
    Keeps F a (State.swapIn s x1) := by
  unfold State.swapIn
  extract_lets +onlyGivenNames -underBinder -merge y0
  have hy0 : Keeps F a y0 := by
    unfold y0
    refine Keeps.upd_regs (maskSub hF rfl) (regsWf_filter _ _) ?_
    assumption
  try clear_value y0
  extract_lets +onlyGivenNames -underBinder -merge y1
  have hy1 : Keeps F a y1 := by
    unfold y1
    refine Keeps.foldl ?_ ?_
    · assumption
    · intro x3 x4 h2
      beta_reduce
      refine State.wr_keeps (maskSub hF rfl) ?_
      assumption
  try clear_value y1
  extract_lets +onlyGivenNames -underBinder -merge y5
  have hy5 : Keeps F a y5 := by
    unfold y5
    refine State.mergeProtection_keeps (maskSub hF rfl) ?_
    refine State.set_keeps (maskSub hF rfl) ?_
    assumption
  try clear_value y5
  extract_lets +onlyGivenNames -underBinder -merge y6
  try clear_value y6
  extract_lets +onlyGivenNames -underBinder -merge y7
  have hy7 : Keeps F a y7 := by
    unfold y7
    refine Keeps.upd_sys (maskSub hF rfl) ?_
    assumption
  try clear_value y7
  extract_lets +onlyGivenNames -underBinder -merge y8
  have hy8 : Keeps F a y8 := by
    unfold y8
    refine State.enter_keeps (maskSub hF rfl) ?_
    refine State.wr_keeps (maskSub hF rfl) ?_
    assumption
  try clear_value y8
  extract_lets +onlyGivenNames -underBinder -merge y9
  try clear_value y9
  extract_lets +onlyGivenNames -underBinder -merge y10
  have hy10 : Keeps F a y10 := by
    unfold y10
    refine State.setPair_keeps (maskSub hF rfl) ?_
    assumption
  try clear_value y10
  refine State.takeRow_keeps (maskSub hF rfl) ?_
  refine State.takeOutputs_keeps (maskSub hF rfl) ?_
  refine State.swapDone_keeps (maskSub hF rfl) ?_
  refine State.judgeRecord_keeps (maskSub hF rfl) ?_
  refine State.judgeTick_keeps (maskSub hF rfl) ?_
  assumption

theorem State.swapOut_keeps {F : Nat} {a s : State} (hF : F ||| 59113496 = F) (h : Keeps F a s) :
    Keeps F a (State.swapOut s) := by
  unfold State.swapOut
  extract_lets +onlyGivenNames -underBinder -merge y0
  try clear_value y0
  extract_lets +onlyGivenNames -underBinder -merge y1
  have hy1 : Keeps F a y1 := by
    unfold y1
    refine Keeps.upd_sys (maskSub hF rfl) ?_
    assumption
  try clear_value y1
  extract_lets +onlyGivenNames -underBinder -merge y2
  have hy2 : Keeps F a y2 := by
    unfold y2
    refine State.set_keeps (maskSub hF rfl) ?_
    refine State.set_keeps (maskSub hF rfl) ?_
    refine State.set_keeps (maskSub hF rfl) ?_
    assumption
  try clear_value y2
  extract_lets +onlyGivenNames -underBinder -merge y3
  have hy3 : Keeps F a y3 := by
    unfold y3
    refine State.enter_keeps (maskSub hF rfl) ?_
    assumption
  try clear_value y3
  extract_lets +onlyGivenNames -underBinder -merge y4
  have hy4 : Keeps F a y4 := by
    unfold y4
    refine Keeps.foldl ?_ ?_
    · assumption
    · intro x6 x7 h5
      beta_reduce
      refine State.expireDomain_keeps (maskSub hF rfl) ?_
      assumption
  try clear_value y4
  extract_lets +onlyGivenNames -underBinder -merge y8
  try clear_value y8
  extract_lets +onlyGivenNames -underBinder -merge y9
  have hy9 : Keeps F a y9 := by
    unfold y9
    refine State.setPair_keeps (maskSub hF rfl) ?_
    assumption
  try clear_value y9
  refine State.swapDone_keeps (maskSub hF rfl) ?_
  refine State.judgeTick_keeps (maskSub hF rfl) ?_
  refine State.set_keeps (maskSub hF rfl) ?_
  assumption

theorem State.swapAct_keeps {F : Nat} {a s : State} (hF : F ||| 59162652 = F) (h : Keeps F a s) :
    Keeps F a (State.swapAct s) := by
  unfold State.swapAct
  split
  · assumption
  · refine Keeps.ite ?_ ?_
    · split
      · refine State.swapIn_keeps (maskSub hF rfl) ?_
        assumption
      · refine State.abortSwap_keeps (maskSub hF rfl) ?_
        assumption
    · refine Keeps.ite ?_ ?_
      · refine State.swapOut_keeps (maskSub hF rfl) ?_
        assumption
      · refine State.abortSwap_keeps (maskSub hF rfl) ?_
        assumption

theorem State.writeWarm_keeps {F : Nat} {a s : State} {x1} (hF : F ||| 59770430 = F) (h : Keeps F a s) :
    Keeps F a (State.writeWarm s x1) := by
  unfold State.writeWarm
  refine Keeps.ite ?_ ?_
  · assumption
  · extract_lets +onlyGivenNames -underBinder -merge y0
    have hy0 : Keeps F a y0 := by
      unfold y0
      refine State.set_keeps (maskSub hF rfl) ?_
      assumption
    try clear_value y0
    refine Keeps.ite ?_ ?_
    · refine Keeps.ite ?_ ?_
      · assumption
      · refine State.releaseMain_keeps (maskSub hF rfl) ?_
        assumption
    · refine Keeps.ite ?_ ?_
      · refine State.powerMainDown_keeps (maskSub hF rfl) ?_
        assumption
      · assumption

theorem execPaiWarm_keeps {F : Nat} {a s : State} {x0 x1} (hF : F ||| 59770430 = F) (h : Keeps F a s) :
    ∃ t, execPaiWarm x0 x1 s = .next t ∧ Keeps F a t := by
  refine ⟨_, rfl, ?_⟩
  refine State.writeRow_keeps (maskSub hF rfl) ?_ ?_
  · assumption
  · intro x1 h0
    beta_reduce
    refine State.writeWarm_keeps (maskSub hF rfl) ?_
    assumption

theorem State.readPartner_keeps {F : Nat} {a s : State} {x1} (hF : F ||| 42074144 = F) (h : Keeps F a s) :
    Keeps F a (State.readPartner s x1) := by
  unfold State.readPartner
  refine Keeps.ite ?_ ?_
  · assumption
  · refine Keeps.ite ?_ ?_
    · refine State.set_keeps (maskSub hF rfl) ?_
      assumption
    · refine Keeps.ite ?_ ?_
      · refine State.set_keeps (maskSub hF rfl) ?_
        assumption
      · extract_lets +onlyGivenNames -underBinder -merge y0
        try clear_value y0
        extract_lets +onlyGivenNames -underBinder -merge y1
        have hy1 : Keeps F a y1 := by
          unfold y1
          refine State.setPair_keeps (maskSub hF rfl) ?_
          refine State.set_keeps (maskSub hF rfl) ?_
          assumption
        try clear_value y1
        refine State.cra_keeps (maskSub hF rfl) ?_
        assumption

theorem execPartnerReadRegs_keeps {F : Nat} {a s : State} {x0 x1} (hF : F ||| 58851368 = F) (h : Keeps F a s) :
    ∃ t, execPartnerReadRegs x0 x1 s = .next t ∧ Keeps F a t := by
  refine ⟨_, rfl, ?_⟩
  refine State.writeRow_keeps (maskSub hF rfl) ?_ ?_
  · assumption
  · intro x1 h0
    beta_reduce
    refine State.readPartner_keeps (maskSub hF rfl) ?_
    assumption

theorem execPartnerReadFirn_keeps {F : Nat} {a s : State} {x0 x1} (hF : F ||| 58851368 = F) (h : Keeps F a s) :
    ∃ t, execPartnerReadFirn x0 x1 s = .next t ∧ Keeps F a t := by
  refine ⟨_, rfl, ?_⟩
  refine State.writeRow_keeps (maskSub hF rfl) ?_ ?_
  · assumption
  · intro x1 h0
    beta_reduce
    refine State.readPartner_keeps (maskSub hF rfl) ?_
    assumption

theorem execPeekData_keeps {F : Nat} {a s : State} {x0 x1} (hF : F ||| 33685504 = F) (h : Keeps F a s) :
    ∃ t, execPeekData x0 x1 s = .next t ∧ Keeps F a t := by
  refine ⟨_, rfl, ?_⟩
  refine Keeps.ite ?_ ?_
  · extract_lets +onlyGivenNames -underBinder -merge y0
    try clear_value y0
    extract_lets +onlyGivenNames -underBinder -merge y1
    have hy1 : Keeps F a y1 := by
      unfold y1
      refine Keeps.foldl ?_ ?_
      · assumption
      · intro x3 x4 h2
        beta_reduce
        refine State.wr_keeps (maskSub hF rfl) ?_
        assumption
    try clear_value y1
    extract_lets +onlyGivenNames -underBinder -merge y5
    have hy5 : Keeps F a y5 := by
      unfold y5
      refine State.set_keeps (maskSub hF rfl) ?_
      refine State.set_keeps (maskSub hF rfl) ?_
      refine State.set_keeps (maskSub hF rfl) ?_
      assumption
    try clear_value y5
    refine State.setPair_keeps (maskSub hF rfl) ?_
    assumption
  · assumption

theorem State.timeoutPeek_keeps {F : Nat} {a s : State} (hF : F ||| 33685504 = F) (h : Keeps F a s) :
    Keeps F a (State.timeoutPeek s) := by
  unfold State.timeoutPeek
  refine Keeps.ite ?_ ?_
  · refine State.setPair_keeps (maskSub hF rfl) ?_
    refine State.set_keeps (maskSub hF rfl) ?_
    refine State.set_keeps (maskSub hF rfl) ?_
    assumption
  · assumption

theorem execPeekTimeout_keeps {F : Nat} {a s : State} (hF : F ||| 33685504 = F) (h : Keeps F a s) :
    ∃ t, execPeekTimeout s = .next t ∧ Keeps F a t := by
  refine ⟨_, rfl, ?_⟩
  refine State.timeoutPeek_keeps (maskSub hF rfl) ?_
  assumption

end Sys2Proof.Machine
end

