-- ==== Sys2Proof/Laws/KeepsFed.lean ====
section
/-! SUPPORT. What each operation and each command of federation, timed actions and security may change, as `Keeps` says it. -/

namespace Sys2Proof.Machine

/-! ### Fed -/

theorem State.setFed_keeps {F : Nat} {a s : State} {x1} (hF : F ||| 524288 = F) (h : Keeps F a s) :
    Keeps F a (State.setFed s x1) := by
  unfold State.setFed
  refine Keeps.upd_fed (maskSub hF rfl) ?_
  assumption

theorem State.showSelf_keeps {F : Nat} {a s : State} (hF : F ||| 33554432 = F) (h : Keeps F a s) :
    Keeps F a (State.showSelf s) := by
  unfold State.showSelf
  extract_lets +onlyGivenNames -underBinder -merge y0
  try clear_value y0
  extract_lets +onlyGivenNames -underBinder -merge y1
  try clear_value y1
  extract_lets +onlyGivenNames -underBinder -merge y2
  have hy2 : Keeps F a y2 := by
    unfold y2
    refine State.set_keeps (maskSub hF rfl) ?_
    refine State.set_keeps (maskSub hF rfl) ?_
    assumption
  try clear_value y2
  extract_lets +onlyGivenNames -underBinder -merge y3
  have hy3 : Keeps F a y3 := by
    unfold y3
    refine State.set_keeps (maskSub hF rfl) ?_
    refine State.set_keeps (maskSub hF rfl) ?_
    assumption
  try clear_value y3
  refine State.set_keeps (maskSub hF rfl) ?_
  assumption

theorem State.judgeFed_keeps {F : Nat} {a s : State} (hF : F ||| 50855936 = F) (h : Keeps F a s) :
    Keeps F a (State.judgeFed s) := by
  unfold State.judgeFed
  extract_lets +onlyGivenNames -underBinder -merge y0
  have hy0 : Keeps F a y0 := by
    unfold y0
    refine Keeps.ite ?_ ?_
    · refine Keeps.ite ?_ ?_
      · refine State.set_keeps (maskSub hF rfl) ?_
        assumption
      · assumption
    · refine State.set_keeps (maskSub hF rfl) ?_
      assumption
  try clear_value y0
  extract_lets +onlyGivenNames -underBinder -merge y1
  have hy1 : Keeps F a y1 := by
    unfold y1
    refine State.showSelf_keeps (maskSub hF rfl) ?_
    assumption
  try clear_value y1
  extract_lets +onlyGivenNames -underBinder -merge y2
  try clear_value y2
  extract_lets +onlyGivenNames -underBinder -merge y3
  try clear_value y3
  extract_lets +onlyGivenNames -underBinder -merge y4
  try clear_value y4
  extract_lets +onlyGivenNames -underBinder -merge y5
  try clear_value y5
  extract_lets +onlyGivenNames -underBinder -merge y6
  have hy6 : Keeps F a y6 := by
    unfold y6
    refine State.setFed_keeps (maskSub hF rfl) ?_
    assumption
  try clear_value y6
  extract_lets +onlyGivenNames -underBinder -merge y7
  have hy7 : Keeps F a y7 := by
    unfold y7
    refine Keeps.ite ?_ ?_
    · assumption
    · refine State.set_keeps (maskSub hF rfl) ?_
      assumption
  try clear_value y7
  extract_lets +onlyGivenNames -underBinder -merge y8
  have hy8 : Keeps F a y8 := by
    unfold y8
    refine State.set_keeps (maskSub hF rfl) ?_
    refine State.set_keeps (maskSub hF rfl) ?_
    assumption
  try clear_value y8
  extract_lets +onlyGivenNames -underBinder -merge y9
  try clear_value y9
  extract_lets +onlyGivenNames -underBinder -merge y10
  try clear_value y10
  extract_lets +onlyGivenNames -underBinder -merge y11
  try clear_value y11
  extract_lets +onlyGivenNames -underBinder -merge y12
  try clear_value y12
  extract_lets +onlyGivenNames -underBinder -merge y13
  try clear_value y13
  extract_lets +onlyGivenNames -underBinder -merge y14
  have hy14 : Keeps F a y14 := by
    unfold y14
    refine State.set_keeps (maskSub hF rfl) ?_
    refine State.set_keeps (maskSub hF rfl) ?_
    refine State.set_keeps (maskSub hF rfl) ?_
    assumption
  try clear_value y14
  extract_lets +onlyGivenNames -underBinder -merge y15
  try clear_value y15
  extract_lets +onlyGivenNames -underBinder -merge y16
  have hy16 : Keeps F a y16 := by
    unfold y16
    refine State.setB_keeps (maskSub hF rfl) ?_
    assumption
  try clear_value y16
  refine Keeps.ite ?_ ?_
  · refine State.raise_keeps (maskSub hF rfl) ?_
    assumption
  · assumption

theorem State.announceDue_keeps {F : Nat} {a s : State} (hF : F ||| 59244576 = F) (h : Keeps F a s) :
    Keeps F a (State.announceDue s) := by
  unfold State.announceDue
  refine Keeps.ite ?_ ?_
  · assumption
  · extract_lets +onlyGivenNames -underBinder -merge y0
    have hy0 : Keeps F a y0 := by
      unfold y0
      refine State.judgeFed_keeps (maskSub hF rfl) ?_
      assumption
    try clear_value y0
    refine Keeps.ite ?_ ?_
    · assumption
    · refine State.craEach_keeps (maskSub hF rfl) ?_
      refine State.setFed_keeps (maskSub hF rfl) ?_
      assumption

theorem execFedAnnounceSend_keeps {F : Nat} {a s : State} (hF : F ||| 59244576 = F) (h : Keeps F a s) :
    ∃ t, execFedAnnounceSend s = .next t ∧ Keeps F a t := by
  refine ⟨_, rfl, ?_⟩
  refine State.announceDue_keeps (maskSub hF rfl) ?_
  assumption

theorem State.putFedBar_keeps {F : Nat} {a s : State} {x1} (hF : F ||| 524288 = F) (h : Keeps F a s) :
    Keeps F a (State.putFedBar s x1) := by
  unfold State.putFedBar
  refine State.setFed_keeps (maskSub hF rfl) ?_
  assumption

theorem State.dropFedBar_keeps {F : Nat} {a s : State} {x1} (hF : F ||| 34078724 = F) (h : Keeps F a s) :
    Keeps F a (State.dropFedBar s x1) := by
  unfold State.dropFedBar
  extract_lets +onlyGivenNames -underBinder -merge y0
  have hy0 : Keeps F a y0 := by
    unfold y0
    split
    · refine Keeps.ite ?_ ?_
      · refine State.endEntry_keeps (maskSub hF rfl) ?_
        assumption
      · assumption
    · assumption
  try clear_value y0
  refine State.setFed_keeps (maskSub hF rfl) ?_
  assumption

theorem State.noteAdoption_keeps {F : Nat} {a s : State} {x1} (hF : F ||| 524288 = F) (h : Keeps F a s) :
    Keeps F a (State.noteAdoption s x1) := by
  unfold State.noteAdoption
  refine Keeps.ite ?_ ?_
  · refine State.setFed_keeps (maskSub hF rfl) ?_
    assumption
  · assumption

theorem State.proposeFed_keeps {F : Nat} {a s : State} {x1} (hF : F ||| 59244580 = F) (h : Keeps F a s) :
    Keeps F a (State.proposeFed s x1) := by
  unfold State.proposeFed
  split
  · rename_i p0 e1
    have hp0 : Keeps F a p0 := by
      refine Keeps.of2 e1 ?_
      refine State.commitBarrier_keeps (maskSub hF rfl) ?_
      assumption
    assumption
  · rename_i p2 p3 e4
    have hp3 : Keeps F a p3 := by
      refine Keeps.of2 e4 ?_
      refine State.commitBarrier_keeps (maskSub hF rfl) ?_
      assumption
    extract_lets +onlyGivenNames -underBinder -merge y5
    have hy5 : Keeps F a y5 := by
      unfold y5
      refine State.noteAdoption_keeps (maskSub hF rfl) ?_
      refine State.putFedBar_keeps (maskSub hF rfl) ?_
      assumption
    try clear_value y5
    refine State.cra_keeps (maskSub hF rfl) ?_
    assumption

theorem State.proposeFedLevel_keeps {F : Nat} {a s : State} (hF : F ||| 59244580 = F) (h : Keeps F a s) :
    Keeps F a (State.proposeFedLevel s) := by
  unfold State.proposeFedLevel
  split
  · refine Keeps.ite ?_ ?_
    · refine State.proposeFed_keeps (maskSub hF rfl) ?_
      assumption
    · assumption
  · assumption

theorem execFedBarrierPropose_keeps {F : Nat} {a s : State} {x0 x1} (hF : F ||| 59244580 = F) (h : Keeps F a s) :
    ∃ t, execFedBarrierPropose x0 x1 s = .next t ∧ Keeps F a t := by
  refine ⟨_, rfl, ?_⟩
  split
  · refine Keeps.ite ?_ ?_
    · refine State.proposeFed_keeps (maskSub hF rfl) ?_
      assumption
    · assumption
  · refine State.takeCra_keeps (maskSub hF rfl) ?_ ?_
    · assumption
    · intro x1 h0
      beta_reduce
      refine Keeps.ite ?_ ?_
      · split
        · rename_i p2 e3
          have hp2 : Keeps F a p2 := by
            refine Keeps.of2 e3 ?_
            refine State.commitBarrier_keeps (maskSub hF rfl) ?_
            refine State.dropFedBar_keeps (maskSub hF rfl) ?_
            assumption
          assumption
        · rename_i p4 p5 e6
          have hp5 : Keeps F a p5 := by
            refine Keeps.of2 e6 ?_
            refine State.commitBarrier_keeps (maskSub hF rfl) ?_
            refine State.dropFedBar_keeps (maskSub hF rfl) ?_
            assumption
          refine State.cra_keeps (maskSub hF rfl) ?_
          refine State.noteAdoption_keeps (maskSub hF rfl) ?_
          refine State.putFedBar_keeps (maskSub hF rfl) ?_
          assumption
      · assumption

theorem execFedBarrierAck_keeps {F : Nat} {a s : State} {x0 x1} (hF : F ||| 34078720 = F) (h : Keeps F a s) :
    ∃ t, execFedBarrierAck x0 x1 s = .next t ∧ Keeps F a t := by
  refine ⟨_, rfl, ?_⟩
  refine State.takeCra_keeps (maskSub hF rfl) ?_ ?_
  · assumption
  · intro x1 h0
    beta_reduce
    split
    · refine Keeps.ite ?_ ?_
      · refine State.putFedBar_keeps (maskSub hF rfl) ?_
        assumption
      · assumption
    · assumption

theorem State.confirmBar_keeps {F : Nat} {a s : State} {x1} (hF : F ||| 8912928 = F) (h : Keeps F a s) :
    Keeps F a (State.confirmBar s x1) := by
  unfold State.confirmBar
  split
  · refine Keeps.ite ?_ ?_
    · extract_lets +onlyGivenNames -underBinder -merge y0
      have hy0 : Keeps F a y0 := by
        unfold y0
        refine State.putFedBar_keeps (maskSub hF rfl) ?_
        assumption
      try clear_value y0
      refine Keeps.foldl ?_ ?_
      · assumption
      · intro x2 x3 h1
        beta_reduce
        refine State.cra_keeps (maskSub hF rfl) ?_
        assumption
    · assumption
  · assumption

theorem execFedBarrierConfirmDue_keeps {F : Nat} {a s : State} {x0} (hF : F ||| 8912928 = F) (h : Keeps F a s) :
    ∃ t, execFedBarrierConfirmDue x0 s = .next t ∧ Keeps F a t := by
  refine ⟨_, rfl, ?_⟩
  refine State.confirmBar_keeps (maskSub hF rfl) ?_
  assumption

theorem execFedBarrierConfirm_keeps {F : Nat} {a s : State} {x0 x1 x2} (hF : F ||| 34078720 = F) (h : Keeps F a s) :
    ∃ t, execFedBarrierConfirm x0 x1 x2 s = .next t ∧ Keeps F a t := by
  refine ⟨_, rfl, ?_⟩
  refine State.takeCra_keeps (maskSub hF rfl) ?_ ?_
  · assumption
  · intro x1 h0
    beta_reduce
    split
    · refine Keeps.ite ?_ ?_
      · refine State.putFedBar_keeps (maskSub hF rfl) ?_
        assumption
      · assumption
    · assumption

theorem State.unconfirmBar_keeps {F : Nat} {a s : State} {x1} (hF : F ||| 34078724 = F) (h : Keeps F a s) :
    Keeps F a (State.unconfirmBar s x1) := by
  unfold State.unconfirmBar
  split
  · refine Keeps.ite ?_ ?_
    · refine State.dropFedBar_keeps (maskSub hF rfl) ?_
      assumption
    · assumption
  · assumption

theorem execFedBarrierNoConfirm_keeps {F : Nat} {a s : State} {x0} (hF : F ||| 34078724 = F) (h : Keeps F a s) :
    ∃ t, execFedBarrierNoConfirm x0 s = .next t ∧ Keeps F a t := by
  refine ⟨_, rfl, ?_⟩
  refine State.unconfirmBar_keeps (maskSub hF rfl) ?_
  assumption

theorem State.showMember_keeps {F : Nat} {a s : State} {x1} (hF : F ||| 33554432 = F) (h : Keeps F a s) :
    Keeps F a (State.showMember s x1) := by
  unfold State.showMember
  extract_lets +onlyGivenNames -underBinder -merge y0
  try clear_value y0
  extract_lets +onlyGivenNames -underBinder -merge y1
  have hy1 : Keeps F a y1 := by
    unfold y1
    refine State.set_keeps (maskSub hF rfl) ?_
    refine State.set_keeps (maskSub hF rfl) ?_
    assumption
  try clear_value y1
  extract_lets +onlyGivenNames -underBinder -merge y2
  have hy2 : Keeps F a y2 := by
    unfold y2
    refine State.set_keeps (maskSub hF rfl) ?_
    refine State.set_keeps (maskSub hF rfl) ?_
    assumption
  try clear_value y2
  refine State.set_keeps (maskSub hF rfl) ?_
  assumption

theorem State.passPseq_keeps {F : Nat} {a s : State} {x1} (hF : F ||| 33554432 = F) (h : Keeps F a s) :
    Keeps F a (State.passPseq s x1) := by
  unfold State.passPseq
  refine Keeps.foldl ?_ ?_
  · assumption
  · intro x1 x2 h0
    beta_reduce
    refine Keeps.ite ?_ ?_
    · refine State.wr_keeps (maskSub hF rfl) ?_
      assumption
    · assumption

theorem State.watchEpoch_keeps {F : Nat} {a s : State} {x1} (hF : F ||| 524288 = F) (h : Keeps F a s) :
    Keeps F a (State.watchEpoch s x1) := by
  unfold State.watchEpoch
  refine Keeps.ite ?_ ?_
  · refine State.setFed_keeps (maskSub hF rfl) ?_
    assumption
  · assumption

theorem execFedAnnounce_keeps {F : Nat} {a s : State} {x0} (hF : F ||| 59244580 = F) (h : Keeps F a s) :
    ∃ t, execFedAnnounce x0 s = .next t ∧ Keeps F a t := by
  refine ⟨_, rfl, ?_⟩
  refine State.takeCra_keeps (maskSub hF rfl) ?_ ?_
  · assumption
  · intro x1 h0
    beta_reduce
    extract_lets +onlyGivenNames -underBinder -merge y2
    try clear_value y2
    extract_lets +onlyGivenNames -underBinder -merge y3
    try clear_value y3
    refine Keeps.ite ?_ ?_
    · assumption
    · refine Keeps.ite ?_ ?_
      · refine Keeps.ite ?_ ?_
        · refine State.raise_keeps (maskSub hF rfl) ?_
          assumption
        · assumption
      · extract_lets +onlyGivenNames -underBinder -merge y4
        try clear_value y4
        extract_lets +onlyGivenNames -underBinder -merge y5
        try clear_value y5
        refine Keeps.ite ?_ ?_
        · refine State.raise_keeps (maskSub hF rfl) ?_
          assumption
        · extract_lets +onlyGivenNames -underBinder -merge y6
          try clear_value y6
          extract_lets +onlyGivenNames -underBinder -merge y7
          extract_lets +onlyGivenNames -underBinder -merge y8
          try clear_value y8
          extract_lets +onlyGivenNames -underBinder -merge y9
          have hy9 : Keeps F a y9 := by
            unfold y9
            refine State.showMember_keeps (maskSub hF rfl) ?_
            refine State.setFed_keeps (maskSub hF rfl) ?_
            assumption
          try clear_value y9
          extract_lets +onlyGivenNames -underBinder -merge y10
          try clear_value y10
          extract_lets +onlyGivenNames -underBinder -merge y11
          try clear_value y11
          extract_lets +onlyGivenNames -underBinder -merge y12
          have hy12 : Keeps F a y12 := by
            unfold y12
            refine Keeps.ite ?_ ?_
            · refine State.setFed_keeps (maskSub hF rfl) ?_
              assumption
            · refine State.setFed_keeps (maskSub hF rfl) ?_
              assumption
          try clear_value y12
          extract_lets +onlyGivenNames -underBinder -merge y13
          have hy13 : Keeps F a y13 := by
            unfold y13
            refine Keeps.ite ?_ ?_
            · refine State.raise_keeps (maskSub hF rfl) ?_
              assumption
            · assumption
          try clear_value y13
          refine State.proposeFedLevel_keeps (maskSub hF rfl) ?_
          refine State.watchEpoch_keeps (maskSub hF rfl) ?_
          refine State.judgeFed_keeps (maskSub hF rfl) ?_
          refine State.passPseq_keeps (maskSub hF rfl) ?_
          assumption

theorem State.loseMember_keeps {F : Nat} {a s : State} {x1} (hF : F ||| 50855936 = F) (h : Keeps F a s) :
    Keeps F a (State.loseMember s x1) := by
  unfold State.loseMember
  split
  · extract_lets +onlyGivenNames -underBinder -merge y0
    try clear_value y0
    refine Keeps.ite ?_ ?_
    · extract_lets +onlyGivenNames -underBinder -merge y1
      have hy1 : Keeps F a y1 := by
        unfold y1
        refine State.set_keeps (maskSub hF rfl) ?_
        assumption
      try clear_value y1
      extract_lets +onlyGivenNames -underBinder -merge y2
      try clear_value y2
      extract_lets +onlyGivenNames -underBinder -merge y3
      have hy3 : Keeps F a y3 := by
        unfold y3
        refine Keeps.ite ?_ ?_
        · refine State.setFed_keeps (maskSub hF rfl) ?_
          assumption
        · assumption
      try clear_value y3
      refine State.judgeFed_keeps (maskSub hF rfl) ?_
      refine State.raise_keeps (maskSub hF rfl) ?_
      assumption
    · assumption
  · assumption

theorem execFedMemberLost_keeps {F : Nat} {a s : State} {x0} (hF : F ||| 50855936 = F) (h : Keeps F a s) :
    ∃ t, execFedMemberLost x0 s = .next t ∧ Keeps F a t := by
  refine ⟨_, rfl, ?_⟩
  refine State.loseMember_keeps (maskSub hF rfl) ?_
  assumption

theorem execFedRowmap_keeps {F : Nat} {a s : State} {x0 x1} (hF : F ||| 34078720 = F) (h : Keeps F a s) :
    ∃ t, execFedRowmap x0 x1 s = .next t ∧ Keeps F a t := by
  refine ⟨_, rfl, ?_⟩
  refine State.takeCra_keeps (maskSub hF rfl) ?_ ?_
  · assumption
  · intro x1 h0
    beta_reduce
    refine Keeps.ite ?_ ?_
    · refine State.setFed_keeps (maskSub hF rfl) ?_
      assumption
    · assumption

theorem State.rowMapDue_keeps {F : Nat} {a s : State} (hF : F ||| 8912928 = F) (h : Keeps F a s) :
    Keeps F a (State.rowMapDue s) := by
  unfold State.rowMapDue
  refine Keeps.ite ?_ ?_
  · assumption
  · refine State.cra_keeps (maskSub hF rfl) ?_
    refine State.setFed_keeps (maskSub hF rfl) ?_
    assumption

theorem execFedRowmapSend_keeps {F : Nat} {a s : State} (hF : F ||| 8912928 = F) (h : Keeps F a s) :
    ∃ t, execFedRowmapSend s = .next t ∧ Keeps F a t := by
  refine ⟨_, rfl, ?_⟩
  refine State.rowMapDue_keeps (maskSub hF rfl) ?_
  assumption

theorem State.assumeCoord_keeps {F : Nat} {a s : State} (hF : F ||| 59244580 = F) (h : Keeps F a s) :
    Keeps F a (State.assumeCoord s) := by
  unfold State.assumeCoord
  refine Keeps.ite ?_ ?_
  · refine State.proposeFedLevel_keeps (maskSub hF rfl) ?_
    refine State.set_keeps (maskSub hF rfl) ?_
    assumption
  · assumption

theorem execFedCoordinatorAssume_keeps {F : Nat} {a s : State} (hF : F ||| 59244580 = F) (h : Keeps F a s) :
    ∃ t, execFedCoordinatorAssume s = .next t ∧ Keeps F a t := by
  refine ⟨_, rfl, ?_⟩
  refine State.assumeCoord_keeps (maskSub hF rfl) ?_
  assumption

theorem State.takeAlloc_keeps {F : Nat} {a s : State} {x1 x2} (hF : F ||| 34080768 = F) (h : Keeps F a s) :
    Keeps F a (State.takeAlloc s x1 x2) := by
  unfold State.takeAlloc
  extract_lets +onlyGivenNames -underBinder -merge y0
  have hy0 : Keeps F a y0 := by
    unfold y0
    refine Keeps.foldl ?_ ?_
    · assumption
    · intro x2 x3 h1
      beta_reduce
      refine State.wr_keeps (maskSub hF rfl) ?_
      assumption
  try clear_value y0
  extract_lets +onlyGivenNames -underBinder -merge y4
  try clear_value y4
  extract_lets +onlyGivenNames -underBinder -merge y5
  have hy5 : Keeps F a y5 := by
    unfold y5
    refine State.setFed_keeps (maskSub hF rfl) ?_
    assumption
  try clear_value y5
  split
  · extract_lets +onlyGivenNames -underBinder -merge y6
    try clear_value y6
    refine Keeps.upd_plan (maskSub hF rfl) ?_
    assumption
  · assumption

theorem State.allocDue_keeps {F : Nat} {a s : State} (hF : F ||| 109578272 = F) (h : Keeps F a s) :
    Keeps F a (State.allocDue s) := by
  unfold State.allocDue
  refine Keeps.ite ?_ h
  exact State.cra_keeps (maskSub hF rfl) (State.takeAlloc_keeps (maskSub hF rfl) (Keeps.upd_fresh (maskSub hF rfl) (Nat.le_add_right _ _) h))

theorem execFedAllocCompute_keeps {F : Nat} {a s : State} (hF : F ||| 109578272 = F) (h : Keeps F a s) :
    ∃ t, execFedAllocCompute s = .next t ∧ Keeps F a t := by
  refine ⟨_, rfl, ?_⟩
  refine State.allocDue_keeps (maskSub hF rfl) ?_
  assumption

theorem execFedAlloc_keeps {F : Nat} {a s : State} {x0 x1 x2} (hF : F ||| 34080768 = F) (h : Keeps F a s) :
    ∃ t, execFedAlloc x0 x1 x2 s = .next t ∧ Keeps F a t := by
  refine ⟨_, rfl, ?_⟩
  refine State.takeCra_keeps (maskSub hF rfl) ?_ ?_
  · assumption
  · intro x1 h0
    beta_reduce
    refine Keeps.ite ?_ ?_
    · refine State.takeAlloc_keeps (maskSub hF rfl) ?_
      assumption
    · assumption

theorem State.staleAlloc_keeps {F : Nat} {a s : State} (hF : F ||| 50855936 = F) (h : Keeps F a s) :
    Keeps F a (State.staleAlloc s) := by
  unfold State.staleAlloc
  refine Keeps.ite ?_ ?_
  · refine State.raise_keeps (maskSub hF rfl) ?_
    refine State.setFed_keeps (maskSub hF rfl) ?_
    assumption
  · assumption

theorem execFedAllocStale_keeps {F : Nat} {a s : State} (hF : F ||| 50855936 = F) (h : Keeps F a s) :
    ∃ t, execFedAllocStale s = .next t ∧ Keeps F a t := by
  refine ⟨_, rfl, ?_⟩
  refine State.staleAlloc_keeps (maskSub hF rfl) ?_
  assumption

theorem State.commitAdopted_keeps {F : Nat} {a s : State} {x1} (hF : F ||| 33554688 = F) (h : Keeps F a s) :
    Keeps F a (State.commitAdopted s x1) := by
  unfold State.commitAdopted
  extract_lets +onlyGivenNames -underBinder -merge y0
  try clear_value y0
  refine State.set_keeps (maskSub hF rfl) ?_
  refine Keeps.upd_stm (maskSub hF rfl) ?_
  assumption

theorem State.adoptShare_keeps {F : Nat} {a s : State} {x1} (hF : F ||| 50856192 = F) (h : Keeps F a s) :
    Keeps F a (State.adoptShare s x1) := by
  unfold State.adoptShare
  extract_lets +onlyGivenNames -underBinder -merge y0
  try clear_value y0
  extract_lets +onlyGivenNames -underBinder -merge y1
  try clear_value y1
  extract_lets +onlyGivenNames -underBinder -merge y2
  try clear_value y2
  extract_lets +onlyGivenNames -underBinder -merge y3
  have hy3 : Keeps F a y3 := by
    unfold y3
    refine Keeps.foldl ?_ ?_
    · assumption
    · intro x5 x6 h4
      beta_reduce
      extract_lets +onlyGivenNames -underBinder -merge y7
      try clear_value y7
      extract_lets +onlyGivenNames -underBinder -merge y8
      try clear_value y8
      extract_lets +onlyGivenNames -underBinder -merge y9
      try clear_value y9
      extract_lets +onlyGivenNames -underBinder -merge y10
      try clear_value y10
      extract_lets +onlyGivenNames -underBinder -merge y11
      have hy11 : Keeps F a y11 := by
        unfold y11
        refine Keeps.upd (s := x5) ?_ id rfl le_rfl List.suffix_rfl le_rfl (FirnStep.refl _)
           (.inr rfl) (.inr rfl) (.inr rfl) (.inr rfl) (.inr rfl) (.inr rfl) (.inr rfl) (.inr rfl) (.inl (maskSub hF rfl)) (.inr rfl) (.inr rfl)
           (.inr rfl) (.inr rfl) (.inr rfl) (.inr rfl) (.inr rfl) (.inr rfl) (.inr rfl) (.inr rfl) (.inl (maskSub hF rfl)) (.inr rfl) (.inr rfl)
           (.inr rfl) (.inr rfl) (.inr rfl) (.inr rfl) (.inr rfl)
        assumption
      try clear_value y11
      refine State.bump_keeps (maskSub hF rfl) ?_
      refine State.set_keeps (maskSub hF rfl) ?_
      refine State.set_keeps (maskSub hF rfl) ?_
      assumption
  try clear_value y3
  extract_lets +onlyGivenNames -underBinder -merge y12
  have hy12 : Keeps F a y12 := by
    unfold y12
    refine Keeps.ite ?_ ?_
    · assumption
    · refine State.countBy_keeps (maskSub hF rfl) ?_
      refine State.commitAdopted_keeps (maskSub hF rfl) ?_
      assumption
  try clear_value y12
  extract_lets +onlyGivenNames -underBinder -merge y13
  have hy13 : Keeps F a y13 := by
    unfold y13
    refine Keeps.foldl ?_ ?_
    · assumption
    · intro x15 x16 h14
      beta_reduce
      refine Keeps.ite ?_ ?_
      · assumption
      · extract_lets +onlyGivenNames -underBinder -merge y17
        try clear_value y17
        refine State.setFed_keeps (maskSub hF rfl) ?_
        assumption
  try clear_value y13
  extract_lets +onlyGivenNames -underBinder -merge y18
  have hy18 : Keeps F a y18 := by
    unfold y18
    refine Keeps.ite ?_ ?_
    · refine State.raise_keeps (maskSub hF rfl) ?_
      assumption
    · assumption
  try clear_value y18
  refine Keeps.ite ?_ ?_
  · assumption
  · refine State.raise_keeps (maskSub hF rfl) ?_
    assumption

theorem State.redirect_keeps {F : Nat} {a s : State} {x1 x2 x3} (hF : F ||| 8912928 = F) (h : Keeps F a s) :
    Keeps F a (State.redirect s x1 x2 x3) := by
  unfold State.redirect
  extract_lets +onlyGivenNames -underBinder -merge y0
  try clear_value y0
  extract_lets +onlyGivenNames -underBinder -merge y1
  try clear_value y1
  extract_lets +onlyGivenNames -underBinder -merge y2
  have hy2 : Keeps F a y2 := by
    unfold y2
    refine State.setFed_keeps (maskSub hF rfl) ?_
    assumption
  try clear_value y2
  extract_lets +onlyGivenNames -underBinder -merge y3
  try clear_value y3
  extract_lets +onlyGivenNames -underBinder -merge y4
  try clear_value y4
  refine State.craEach_keeps (maskSub hF rfl) ?_
  assumption

theorem State.giveBack_keeps {F : Nat} {a s : State} {x1} (hF : F ||| 42468648 = F) (h : Keeps F a s) :
    Keeps F a (State.giveBack s x1) := by
  unfold State.giveBack
  extract_lets +onlyGivenNames -underBinder -merge y0
  try clear_value y0
  refine Keeps.ite ?_ ?_
  · assumption
  · extract_lets +onlyGivenNames -underBinder -merge y1
    have hy1 : Keeps F a y1 := by
      unfold y1
      refine Keeps.foldl ?_ ?_
      · assumption
      · intro x3 x4 h2
        beta_reduce
        refine State.redirect_keeps (maskSub hF rfl) ?_
        assumption
    try clear_value y1
    extract_lets +onlyGivenNames -underBinder -merge y5
    have hy5 : Keeps F a y5 := by
      unfold y5
      refine Keeps.foldl ?_ ?_
      · assumption
      · intro x7 x8 h6
        beta_reduce
        refine Keeps.foldl ?_ ?_
        · assumption
        · intro x10 x11 h9
          beta_reduce
          refine State.queueSave_keeps (maskSub hF rfl) ?_
          assumption
    try clear_value y5
    extract_lets +onlyGivenNames -underBinder -merge y12
    have hy12 : Keeps F a y12 := by
      unfold y12
      refine State.nextDevice_keeps (maskSub hF rfl) ?_
      assumption
    try clear_value y12
    extract_lets +onlyGivenNames -underBinder -merge y13
    have hy13 : Keeps F a y13 := by
      unfold y13
      refine State.commitAdopted_keeps (maskSub hF rfl) ?_
      assumption
    try clear_value y13
    extract_lets +onlyGivenNames -underBinder -merge y14
    have hy14 : Keeps F a y14 := by
      unfold y14
      refine Keeps.foldl ?_ ?_
      · assumption
      · intro x16 x17 h15
        beta_reduce
        refine State.wr_keeps (maskSub hF rfl) ?_
        assumption
    try clear_value y14
    extract_lets +onlyGivenNames -underBinder -merge y18
    try clear_value y18
    extract_lets +onlyGivenNames -underBinder -merge y19
    try clear_value y19
    extract_lets +onlyGivenNames -underBinder -merge y20
    have hy20 : Keeps F a y20 := by
      unfold y20
      refine Keeps.upd (s := y14) ?_ id rfl le_rfl List.suffix_rfl le_rfl (FirnStep.refl _)
         (.inr rfl) (.inr rfl) (.inr rfl) (.inr rfl) (.inr rfl) (.inr rfl) (.inr rfl) (.inr rfl) (.inl (maskSub hF rfl)) (.inr rfl) (.inr rfl)
         (.inr rfl) (.inr rfl) (.inr rfl) (.inr rfl) (.inr rfl) (.inr rfl) (.inr rfl) (.inr rfl) (.inl (maskSub hF rfl)) (.inr rfl) (.inr rfl)
         (.inr rfl) (.inr rfl) (.inr rfl) (.inr rfl) (.inr rfl)
      assumption
    try clear_value y20
    refine State.set_keeps (maskSub hF rfl) ?_
    assumption

theorem State.adoptNow_keeps {F : Nat} {a s : State} (hF : F ||| 59245864 = F) (h : Keeps F a s) :
    Keeps F a (State.adoptNow s) := by
  unfold State.adoptNow
  extract_lets +onlyGivenNames -underBinder -merge y0
  try clear_value y0
  extract_lets +onlyGivenNames -underBinder -merge y1
  try clear_value y1
  extract_lets +onlyGivenNames -underBinder -merge y2
  try clear_value y2
  extract_lets +onlyGivenNames -underBinder -merge y3
  have hy3 : Keeps F a y3 := by
    unfold y3
    refine State.setFed_keeps (maskSub hF rfl) ?_
    assumption
  try clear_value y3
  extract_lets +onlyGivenNames -underBinder -merge y4
  have hy4 : Keeps F a y4 := by
    unfold y4
    refine Keeps.foldl ?_ ?_
    · assumption
    · intro x6 x7 h5
      beta_reduce
      refine State.giveBack_keeps (maskSub hF rfl) ?_
      assumption
  try clear_value y4
  refine Keeps.ite ?_ ?_
  · assumption
  · refine State.adoptShare_keeps (maskSub hF rfl) ?_
    assumption

theorem State.proposeAdopt_keeps {F : Nat} {a s : State} {x1} (hF : F ||| 59244580 = F) (h : Keeps F a s) :
    Keeps F a (State.proposeAdopt s x1) := by
  unfold State.proposeAdopt
  refine Keeps.ite ?_ ?_
  · refine State.proposeFed_keeps (maskSub hF rfl) ?_
    assumption
  · assumption

theorem execAdoptPropose_keeps {F : Nat} {a s : State} {x0} (hF : F ||| 59244580 = F) (h : Keeps F a s) :
    ∃ t, execAdoptPropose x0 s = .next t ∧ Keeps F a t := by
  refine ⟨_, rfl, ?_⟩
  refine State.proposeAdopt_keeps (maskSub hF rfl) ?_
  assumption

theorem State.redirectDue_keeps {F : Nat} {a s : State} (hF : F ||| 8912928 = F) (h : Keeps F a s) :
    Keeps F a (State.redirectDue s) := by
  unfold State.redirectDue
  refine Keeps.ite ?_ ?_
  · assumption
  · refine Keeps.foldl ?_ ?_
    · refine State.setFed_keeps (maskSub hF rfl) ?_
      assumption
    · intro x1 x2 h0
      beta_reduce
      refine State.redirect_keeps (maskSub hF rfl) ?_
      assumption

theorem execRedirectSend_keeps {F : Nat} {a s : State} (hF : F ||| 8912928 = F) (h : Keeps F a s) :
    ∃ t, execRedirectSend s = .next t ∧ Keeps F a t := by
  refine ⟨_, rfl, ?_⟩
  refine State.redirectDue_keeps (maskSub hF rfl) ?_
  assumption

theorem State.resyncDue_keeps {F : Nat} {a s : State} (hF : F ||| 524288 = F) (h : Keeps F a s) :
    Keeps F a (State.resyncDue s) := by
  unfold State.resyncDue
  refine Keeps.ite ?_ ?_
  · refine State.setFed_keeps (maskSub hF rfl) ?_
    assumption
  · assumption

theorem execFedResync_keeps {F : Nat} {a s : State} (hF : F ||| 524288 = F) (h : Keeps F a s) :
    ∃ t, execFedResync s = .next t ∧ Keeps F a t := by
  refine ⟨_, rfl, ?_⟩
  refine State.resyncDue_keeps (maskSub hF rfl) ?_
  assumption

theorem State.resyncNow_keeps {F : Nat} {a s : State} (hF : F ||| 59245864 = F) (h : Keeps F a s) :
    Keeps F a (State.resyncNow s) := by
  unfold State.resyncNow
  split
  · assumption
  · extract_lets +onlyGivenNames -underBinder -merge y0
    try clear_value y0
    extract_lets +onlyGivenNames -underBinder -merge y1
    try clear_value y1
    extract_lets +onlyGivenNames -underBinder -merge y2
    try clear_value y2
    extract_lets +onlyGivenNames -underBinder -merge y3
    have hy3 : Keeps F a y3 := by
      unfold y3
      refine State.set_keeps (maskSub hF rfl) ?_
      refine State.wr_keeps (maskSub hF rfl) ?_
      assumption
    try clear_value y3
    extract_lets +onlyGivenNames -underBinder -merge y4
    try clear_value y4
    extract_lets +onlyGivenNames -underBinder -merge y5
    have hy5 : Keeps F a y5 := by
      unfold y5
      refine State.setFed_keeps (maskSub hF rfl) ?_
      assumption
    try clear_value y5
    extract_lets +onlyGivenNames -underBinder -merge y6
    have hy6 : Keeps F a y6 := by
      unfold y6
      refine Keeps.foldl ?_ ?_
      · assumption
      · intro x8 x9 h7
        beta_reduce
        refine State.giveBack_keeps (maskSub hF rfl) ?_
        assumption
    try clear_value y6
    extract_lets +onlyGivenNames -underBinder -merge y10
    try clear_value y10
    extract_lets +onlyGivenNames -underBinder -merge y11
    have hy11 : Keeps F a y11 := by
      unfold y11
      refine Keeps.ite ?_ ?_
      · assumption
      · refine State.adoptShare_keeps (maskSub hF rfl) ?_
        assumption
    try clear_value y11
    refine State.raise_keeps (maskSub hF rfl) ?_
    assumption

theorem State.joinAll_keeps {F : Nat} {a s : State} (hF : F ||| 50855936 = F) (h : Keeps F a s) :
    Keeps F a (State.joinAll s) := by
  unfold State.joinAll
  extract_lets +onlyGivenNames -underBinder -merge y0
  try clear_value y0
  extract_lets +onlyGivenNames -underBinder -merge y1
  have hy1 : Keeps F a y1 := by
    unfold y1
    refine Keeps.foldl ?_ ?_
    · assumption
    · intro x3 x4 h2
      beta_reduce
      refine Keeps.ite ?_ ?_
      · refine State.set_keeps (maskSub hF rfl) ?_
        assumption
      · assumption
  try clear_value y1
  refine Keeps.ite ?_ ?_
  · extract_lets +onlyGivenNames -underBinder -merge y5
    try clear_value y5
    refine Keeps.ite ?_ ?_
    · extract_lets +onlyGivenNames -underBinder -merge y6
      try clear_value y6
      extract_lets +onlyGivenNames -underBinder -merge y7
      have hy7 : Keeps F a y7 := by
        unfold y7
        refine Keeps.ite ?_ ?_
        · refine State.wr_keeps (maskSub hF rfl) ?_
          assumption
        · assumption
      try clear_value y7
      extract_lets +onlyGivenNames -underBinder -merge y8
      have hy8 : Keeps F a y8 := by
        unfold y8
        refine State.set_keeps (maskSub hF rfl) ?_
        refine State.set_keeps (maskSub hF rfl) ?_
        assumption
      try clear_value y8
      refine State.raise_keeps (maskSub hF rfl) ?_
      refine State.setFed_keeps (maskSub hF rfl) ?_
      assumption
    · assumption
  · assumption

theorem State.fedFire_keeps {F : Nat} {a s : State} {x1 x2 x3} (hF : F ||| 59245864 = F) (h : Keeps F a s) :
    Keeps F a (State.fedFire s x1 x2 x3) := by
  unfold State.fedFire
  extract_lets +onlyGivenNames -underBinder -merge y0
  try clear_value y0
  extract_lets +onlyGivenNames -underBinder -merge y1
  have hy1 : Keeps F a y1 := by
    unfold y1
    refine State.setFed_keeps (maskSub hF rfl) ?_
    assumption
  try clear_value y1
  extract_lets +onlyGivenNames -underBinder -merge y2
  have hy2 : Keeps F a y2 := by
    unfold y2
    refine Keeps.ite ?_ ?_
    · refine State.resyncNow_keeps (maskSub hF rfl) ?_
      assumption
    · assumption
  try clear_value y2
  extract_lets +onlyGivenNames -underBinder -merge y3
  have hy3 : Keeps F a y3 := by
    unfold y3
    refine State.joinAll_keeps (maskSub hF rfl) ?_
    refine State.wr_keeps (maskSub hF rfl) ?_
    assumption
  try clear_value y3
  extract_lets +onlyGivenNames -underBinder -merge y4
  have hy4 : Keeps F a y4 := by
    unfold y4
    refine Keeps.ite ?_ ?_
    · refine State.raise_keeps (maskSub hF rfl) ?_
      refine State.set_keeps (maskSub hF rfl) ?_
      assumption
    · refine Keeps.ite ?_ ?_
      · refine State.adoptNow_keeps (maskSub hF rfl) ?_
        assumption
      · assumption
  try clear_value y4
  refine State.judgeFed_keeps (maskSub hF rfl) ?_
  assumption

theorem State.fedRunOut_keeps {F : Nat} {a s : State} (hF : F ||| 126355492 = F) (h : Keeps F a s) :
    Keeps F a (State.fedRunOut s) := by
  unfold State.fedRunOut
  refine Keeps.ite ?_ ?_
  · assumption
  · extract_lets +onlyGivenNames -underBinder -merge y0
    have hy0 : Keeps F a y0 := by
      unfold y0
      refine Keeps.foldl ?_ ?_
      · assumption
      · intro x2 x3 h1
        beta_reduce
        refine State.loseMember_keeps (maskSub hF rfl) ?_
        assumption
    try clear_value y0
    extract_lets +onlyGivenNames -underBinder -merge y4
    have hy4 : Keeps F a y4 := by
      unfold y4
      refine State.assumeCoord_keeps (maskSub hF rfl) ?_
      assumption
    try clear_value y4
    extract_lets +onlyGivenNames -underBinder -merge y5
    have hy5 : Keeps F a y5 := by
      unfold y5
      refine Keeps.foldl ?_ ?_
      · assumption
      · intro x7 x8 h6
        beta_reduce
        refine State.proposeAdopt_keeps (maskSub hF rfl) ?_
        assumption
    try clear_value y5
    extract_lets +onlyGivenNames -underBinder -merge y9
    have hy9 : Keeps F a y9 := by
      unfold y9
      refine Keeps.foldl ?_ ?_
      · assumption
      · intro x11 x12 h10
        beta_reduce
        refine State.unconfirmBar_keeps (maskSub hF rfl) ?_
        refine State.confirmBar_keeps (maskSub hF rfl) ?_
        assumption
    try clear_value y9
    refine State.redirectDue_keeps (maskSub hF rfl) ?_
    refine State.rowMapDue_keeps (maskSub hF rfl) ?_
    refine State.announceDue_keeps (maskSub hF rfl) ?_
    refine State.resyncDue_keeps (maskSub hF rfl) ?_
    refine State.staleAlloc_keeps (maskSub hF rfl) ?_
    refine State.allocDue_keeps (maskSub hF rfl) ?_
    assumption

/-! ### Actions -/

theorem State.pairFire_keeps {F : Nat} {a s : State} {x1 x2 x3} (hF : F ||| 59163676 = F) (h : Keeps F a s) :
    Keeps F a (State.pairFire s x1 x2 x3) := by
  unfold State.pairFire
  extract_lets +onlyGivenNames -underBinder -merge y0
  try clear_value y0
  extract_lets +onlyGivenNames -underBinder -merge y1
  have hy1 : Keeps F a y1 := by
    unfold y1
    refine State.setPair_keeps (maskSub hF rfl) ?_
    assumption
  try clear_value y1
  refine Keeps.ite ?_ ?_
  · refine State.swapAct_keeps (maskSub hF rfl) ?_
    assumption
  · refine Keeps.ite ?_ ?_
    · refine State.raise_keeps (maskSub hF rfl) ?_
      refine State.set_keeps (maskSub hF rfl) ?_
      assumption
    · refine Keeps.ite ?_ ?_
      · refine State.lsBegin_keeps (maskSub hF rfl) ?_
        assumption
      · assumption

theorem State.fireBarrier_keeps {F : Nat} {a s : State} {x1 x2} (hF : F ||| 59688252 = F) (h : Keeps F a s) :
    Keeps F a (State.fireBarrier s x1 x2) := by
  unfold State.fireBarrier
  extract_lets +onlyGivenNames -underBinder -merge y0
  have hfy0 : ∀ v0 v1 v2, Keeps F a v0 → Keeps F a (y0 v0 v1 v2) := by
    intro z1 z2 z3 k4
    unfold y0
    beta_reduce
    refine State.occur_keeps (maskSub hF rfl) ?_
    assumption
  try clear_value y0
  refine Keeps.ite ?_ ?_
  · refine State.raise_keeps (maskSub hF rfl) ?_
    refine Keeps.ite ?_ ?_
    · refine hfy0 _ _ _ ?_
      assumption
    · assumption
  · extract_lets +onlyGivenNames -underBinder -merge y5
    try clear_value y5
    extract_lets +onlyGivenNames -underBinder -merge y6
    try clear_value y6
    extract_lets +onlyGivenNames -underBinder -merge y7
    try clear_value y7
    extract_lets +onlyGivenNames -underBinder -merge y8
    have hy8 : Keeps F a y8 := by
      unfold y8
      refine State.wr_keeps (maskSub hF rfl) ?_
      refine State.wrap_keeps (maskSub hF rfl) ?_
      assumption
    try clear_value y8
    extract_lets +onlyGivenNames -underBinder -merge y9
    have hy9 : Keeps F a y9 := by
      unfold y9
      refine Keeps.ite ?_ ?_
      · refine hfy0 _ _ _ ?_
        assumption
      · assumption
    try clear_value y9
    extract_lets +onlyGivenNames -underBinder -merge y10
    have hy10 : Keeps F a y10 := by
      unfold y10
      refine Keeps.ite ?_ ?_
      · refine State.raise_keeps (maskSub hF rfl) ?_
        assumption
      · assumption
    try clear_value y10
    refine Keeps.ite ?_ ?_
    · refine State.fedFire_keeps (maskSub hF rfl) ?_
      assumption
    · refine State.pairFire_keeps (maskSub hF rfl) ?_
      assumption

theorem State.endFired_keeps {F : Nat} {a s : State} {x1} (hF : F ||| 33554436 = F) (h : Keeps F a s) :
    Keeps F a (State.endFired s x1) := by
  unfold State.endFired
  extract_lets +onlyGivenNames -underBinder -merge y0
  try clear_value y0
  extract_lets +onlyGivenNames -underBinder -merge y1
  try clear_value y1
  extract_lets +onlyGivenNames -underBinder -merge y2
  have hy2 : Keeps F a y2 := by
    unfold y2
    split
    · refine Keeps.ite ?_ ?_
      · assumption
      · refine State.count_keeps (maskSub hF rfl) ?_
        refine State.wr_keeps (maskSub hF rfl) ?_
        assumption
    · assumption
  try clear_value y2
  refine Keeps.ite ?_ ?_
  · refine Keeps.upd_act (maskSub hF rfl) ?_
    assumption
  · refine State.endEntry_keeps (maskSub hF rfl) ?_
    assumption

theorem State.fireEntry_keeps {F : Nat} {a s : State} {x1} (hF : F ||| 63884604 = F) (h : Keeps F a s) :
    Keeps F a (State.fireEntry s x1) := by
  unfold State.fireEntry
  extract_lets +onlyGivenNames -underBinder -merge y0
  try clear_value y0
  extract_lets +onlyGivenNames -underBinder -merge y1
  try clear_value y1
  extract_lets +onlyGivenNames -underBinder -merge y2
  try clear_value y2
  extract_lets +onlyGivenNames -underBinder -merge y3
  try clear_value y3
  refine Keeps.ite ?_ ?_
  · refine State.dropFedBar_keeps (maskSub hF rfl) ?_
    assumption
  · extract_lets +onlyGivenNames -underBinder -merge y4
    have hy4 : Keeps F a y4 := by
      unfold y4
      refine State.endFired_keeps (maskSub hF rfl) ?_
      assumption
    try clear_value y4
    split
    · refine State.planEmit_keeps (maskSub hF rfl) ?_
      assumption
    · refine State.warmhold_keeps (maskSub hF rfl) ?_
      assumption
    · refine State.snapshot_keeps (maskSub hF rfl) ?_
      assumption
    · refine State.occur_keeps (maskSub hF rfl) ?_
      assumption
    · refine State.fireBarrier_keeps (maskSub hF rfl) ?_
      assumption
    · assumption

theorem State.fireSetpoint_keeps {F : Nat} {a s : State} {x1} (hF : F ||| 33554436 = F) (h : Keeps F a s) :
    Keeps F a (State.fireSetpoint s x1) := by
  unfold State.fireSetpoint
  extract_lets +onlyGivenNames -underBinder -merge y0
  try clear_value y0
  extract_lets +onlyGivenNames -underBinder -merge y1
  try clear_value y1
  extract_lets +onlyGivenNames -underBinder -merge y2
  have hy2 : Keeps F a y2 := by
    unfold y2
    refine State.endFired_keeps (maskSub hF rfl) ?_
    assumption
  try clear_value y2
  refine Keeps.upd_act (maskSub hF rfl) ?_
  assumption

theorem State.fireAny_keeps {F : Nat} {a s : State} {x1} (hF : F ||| 63884604 = F) (h : Keeps F a s) :
    Keeps F a (State.fireAny s x1) := by
  unfold State.fireAny
  refine Keeps.ite ?_ ?_
  · refine State.fireSetpoint_keeps (maskSub hF rfl) ?_
    assumption
  · refine State.fireEntry_keeps (maskSub hF rfl) ?_
    assumption

theorem State.fireDue_keeps {F : Nat} {a s : State} (hF : F ||| 63884604 = F) (h : Keeps F a s) :
    Keeps F a (State.fireDue s) := by
  unfold State.fireDue
  refine Keeps.foldl ?_ ?_
  · assumption
  · intro x1 x2 h0
    beta_reduce
    refine Keeps.ite ?_ ?_
    · refine State.fireAny_keeps (maskSub hF rfl) ?_
      assumption
    · assumption

theorem execActionFire_keeps {F : Nat} {a s : State} {x0} (hF : F ||| 63884604 = F) (h : Keeps F a s) :
    ∃ t, execActionFire x0 s = .next t ∧ Keeps F a t := by
  refine ⟨_, rfl, ?_⟩
  refine Keeps.ite ?_ ?_
  · refine State.fireAny_keeps (maskSub hF rfl) ?_
    assumption
  · assumption

theorem State.fireStepped_keeps {F : Nat} {a s : State} {x1} (hF : F ||| 63884604 = F) (h : Keeps F a s) :
    Keeps F a (State.fireStepped s x1) := by
  unfold State.fireStepped
  extract_lets +onlyGivenNames -underBinder -merge y0
  try clear_value y0
  extract_lets +onlyGivenNames -underBinder -merge y1
  have hy1 : Keeps F a y1 := by
    unfold y1
    refine Keeps.upd_act (maskSub hF rfl) ?_
    assumption
  try clear_value y1
  refine Keeps.ite ?_ ?_
  · assumption
  · refine State.fireEntry_keeps (maskSub hF rfl) ?_
    assumption

theorem State.jumpIndex_keeps {F : Nat} {a s : State} {x1 x2} (hF : F ||| 63884604 = F) (h : Keeps F a s) :
    Keeps F a (State.jumpIndex s x1 x2) := by
  unfold State.jumpIndex
  extract_lets +onlyGivenNames -underBinder -merge y0
  extract_lets +onlyGivenNames -underBinder -merge y1
  have hy1 : Keeps F a y1 := by
    unfold y1
    refine Keeps.upd_clk (maskSub hF rfl) le_rfl ?_
    assumption
  try clear_value y1
  extract_lets +onlyGivenNames -underBinder -merge y2
  try clear_value y2
  refine Keeps.foldl ?_ ?_
  · assumption
  · intro x4 x5 h3
    beta_reduce
    refine Keeps.ite ?_ ?_
    · assumption
    · refine Keeps.ite ?_ ?_
      · extract_lets +onlyGivenNames -underBinder -merge y6
        try clear_value y6
        extract_lets +onlyGivenNames -underBinder -merge y7
        have hy7 : Keeps F a y7 := by
          unfold y7
          refine State.endEntry_keeps (maskSub hF rfl) ?_
          assumption
        try clear_value y7
        split
        · refine Keeps.ite ?_ ?_
          · refine State.abortSwap_keeps (maskSub hF rfl) ?_
            assumption
          · refine State.dropBar_keeps (maskSub hF rfl) ?_
            assumption
        · assumption
      · refine State.fireStepped_keeps (maskSub hF rfl) ?_
        assumption

theorem State.takeAligned_keeps {F : Nat} {a s : State} (hF : F ||| 63884604 = F) (h : Keeps F a s) :
    Keeps F a (State.takeAligned s) := by
  unfold State.takeAligned
  extract_lets +onlyGivenNames -underBinder -merge y0
  have hy0 : Keeps F a y0 := by
    unfold y0
    refine State.jumpIndex_keeps (maskSub hF rfl) ?_
    assumption
  try clear_value y0
  refine State.raise_keeps (maskSub hF rfl) ?_
  refine State.anchor_keeps (maskSub hF rfl) ?_
  refine State.set_keeps (maskSub hF rfl) ?_
  assumption

theorem State.anchorNow_keeps {F : Nat} {a s : State} (hF : F ||| 63884604 = F) (h : Keeps F a s) :
    Keeps F a (State.anchorNow s) := by
  unfold State.anchorNow
  refine Keeps.ite ?_ ?_
  · refine State.takeAligned_keeps (maskSub hF rfl) ?_
    assumption
  · assumption

theorem execTimReanchor_keeps {F : Nat} {a s : State} {x0} (hF : F ||| 62914568 = F) (h : Keeps F a s) :
    ∃ t, execTimReanchor x0 s = .next t ∧ Keeps F a t := by
  refine ⟨_, rfl, ?_⟩
  refine State.writeRow_keeps (maskSub hF rfl) ?_ ?_
  · assumption
  · intro x1 h0
    beta_reduce
    refine Keeps.upd_clk (maskSub hF rfl) le_rfl ?_
    assumption

theorem State.reanchorNow_keeps {F : Nat} {a s : State} (hF : F ||| 63884604 = F) (h : Keeps F a s) :
    Keeps F a (State.reanchorNow s) := by
  unfold State.reanchorNow
  refine Keeps.ite ?_ ?_
  · assumption
  · extract_lets +onlyGivenNames -underBinder -merge y0
    extract_lets +onlyGivenNames -underBinder -merge y1
    have hy1 : Keeps F a y1 := by
      unfold y1
      refine Keeps.upd_clk (maskSub hF rfl) le_rfl ?_
      assumption
    try clear_value y1
    refine Keeps.ite ?_ ?_
    · refine State.raise_keeps (maskSub hF rfl) ?_
      assumption
    · refine State.takeAligned_keeps (maskSub hF rfl) ?_
      assumption

theorem State.stepTime_keeps {F : Nat} {a s : State} {x1} (hF : F ||| 63884604 = F) (h : Keeps F a s) :
    Keeps F a (State.stepTime s x1) := by
  unfold State.stepTime
  extract_lets +onlyGivenNames -underBinder -merge y0
  try clear_value y0
  extract_lets +onlyGivenNames -underBinder -merge y1
  extract_lets +onlyGivenNames -underBinder -merge y2
  have hy2 : Keeps F a y2 := by
    unfold y2
    refine State.raise_keeps (maskSub hF rfl) ?_
    refine State.anchor_keeps (maskSub hF rfl) ?_
    refine Keeps.upd_clk (maskSub hF rfl) le_rfl ?_
    assumption
  try clear_value y2
  refine Keeps.ite ?_ ?_
  · assumption
  · refine Keeps.foldl ?_ ?_
    · assumption
    · intro x4 x5 h3
      beta_reduce
      refine Keeps.ite ?_ ?_
      · refine State.fireStepped_keeps (maskSub hF rfl) ?_
        assumption
      · assumption

theorem State.slew_keeps {F : Nat} {a s : State} (hF : F ||| 67108865 = F) (h : Keeps F a s) :
    Keeps F a (State.slew s) := by
  unfold State.slew
  extract_lets +onlyGivenNames -underBinder -merge y0
  have hy02 : Keeps F a y0.2 := by
    unfold y0
    refine State.free_keeps (maskSub hF rfl) ?_
    assumption
  try clear_value y0
  extract_lets +onlyGivenNames -underBinder -merge y1
  have hy1 : Keeps F a y1 := by
    unfold y1
    assumption
  try clear_value y1
  refine Keeps.upd_servo (maskSub hF rfl) ?_
  assumption

theorem execPtpSync_keeps {F : Nat} {a s : State} {x0 x1 x2 x3 x4} (hF : F ||| 130993469 = F) (h : Keeps F a s) :
    ∃ t, execPtpSync x0 x1 x2 x3 x4 s = .next t ∧ Keeps F a t := by
  refine ⟨_, rfl, ?_⟩
  extract_lets +onlyGivenNames -underBinder -merge y0
  have hy0 : Keeps F a y0 := by
    unfold y0
    refine State.countPtp_keeps (maskSub hF rfl) ?_
    assumption
  try clear_value y0
  refine Keeps.ite ?_ ?_
  · assumption
  · extract_lets +onlyGivenNames -underBinder -merge y1
    try clear_value y1
    extract_lets +onlyGivenNames -underBinder -merge y2
    have hy2 : Keeps F a y2 := by
      unfold y2
      refine State.servoJudge_keeps (maskSub hF rfl) ?_
      refine State.setPtp_keeps (maskSub hF rfl) ?_
      assumption
    try clear_value y2
    refine Keeps.ite ?_ ?_
    · assumption
    · extract_lets +onlyGivenNames -underBinder -merge y3
      have hy3 : Keeps F a y3 := by
        unfold y3
        refine State.wr_keeps (maskSub hF rfl) ?_
        assumption
      try clear_value y3
      split
      · extract_lets +onlyGivenNames -underBinder -merge y4
        have hy42 : Keeps F a y4.2 := by
          unfold y4
          refine State.free_keeps (maskSub hF rfl) ?_
          refine State.slew_keeps (maskSub hF rfl) ?_
          assumption
        try clear_value y4
        refine State.wr_keeps (maskSub hF rfl) ?_
        assumption
      · refine Keeps.ite ?_ ?_
        · extract_lets +onlyGivenNames -underBinder -merge y5
          try clear_value y5
          extract_lets +onlyGivenNames -underBinder -merge y6
          have hy6 : Keeps F a y6 := by
            unfold y6
            refine State.setPtp_keeps (maskSub hF rfl) ?_
            assumption
          try clear_value y6
          refine State.stepTime_keeps (maskSub hF rfl) ?_
          refine Keeps.upd_servo (maskSub hF rfl) ?_
          assumption
        · refine State.slew_keeps (maskSub hF rfl) ?_
          assumption
      · assumption

theorem execPacketSeal_keeps {F : Nat} {a s : State} (hF : F ||| 63884604 = F) (h : Keeps F a s) :
    ∃ t, execPacketSeal s = .next t ∧ Keeps F a t := by
  refine ⟨_, rfl, ?_⟩
  refine Keeps.ite ?_ ?_
  · assumption
  · extract_lets +onlyGivenNames -underBinder -merge y0
    have hy0 : Keeps F a y0 := by
      unfold y0
      refine State.fireDue_keeps (maskSub hF rfl) ?_
      assumption
    try clear_value y0
    split
    · assumption
    · refine Keeps.ite ?_ ?_
      · assumption
      · extract_lets +onlyGivenNames -underBinder -merge y1
        try clear_value y1
        refine State.send_keeps (maskSub hF rfl) ?_
        refine Keeps.upd_act (maskSub hF rfl) ?_
        assumption

/-! ### Security -/

theorem State.setLeaves_keeps {F : Nat} {a s : State} {x1 x2} (hF : F ||| 32 = F) (h : Keeps F a s) :
    Keeps F a (State.setLeaves s x1 x2) := by
  unfold State.setLeaves
  refine Keeps.ite ?_ ?_
  · refine Keeps.upd_sec (maskSub hF rfl) ?_
    assumption
  · refine Keeps.upd_sec (maskSub hF rfl) ?_
    assumption

theorem State.renewAk_keeps {F : Nat} {a s : State} {x1} (hF : F ||| 50331680 = F) (h : Keeps F a s) :
    KeepsOpt F a (State.renewAk s x1) := by
  unfold State.renewAk
  extract_lets +onlyGivenNames -underBinder -merge y0
  try clear_value y0
  split
  · exact KeepsOpt.none
  · extract_lets +onlyGivenNames -underBinder -merge y1
    have hy1 : Keeps F a y1 := by
      unfold y1
      refine State.setB_keeps (maskSub hF rfl) ?_
      refine State.set_keeps (maskSub hF rfl) ?_
      assumption
    try clear_value y1
    refine KeepsOpt.some ?_
    refine State.raise_keeps (maskSub hF rfl) ?_
    refine State.wrap_keeps (maskSub hF rfl) ?_
    refine State.setLeaves_keeps (maskSub hF rfl) ?_
    assumption

theorem State.useLeaf_keeps {F : Nat} {a s : State} {x1} (hF : F ||| 50331680 = F) (h : Keeps F a s) :
    Keeps F a (State.useLeaf s x1) := by
  unfold State.useLeaf
  extract_lets +onlyGivenNames -underBinder -merge y0 y1
  have hy1 : Keeps F a y1 := State.setLeaves_keeps (maskSub hF rfl) h
  try clear_value y1
  extract_lets +onlyGivenNames -underBinder -merge y2
  have hy2 : Keeps F a y2 := Keeps.ite (State.raise_keeps (maskSub hF rfl) hy1) hy1
  try clear_value y2
  refine Keeps.ite ?_ hy2
  have k : KeepsOpt F a (y2.renewAk x1) := State.renewAk_keeps (maskSub hF rfl) hy2
  cases e : y2.renewAk x1 with
  | none => exact hy2
  | some t => exact k t e

theorem State.readyAk_keeps {F : Nat} {a s : State} {x1} (hF : F ||| 50331680 = F) (h : Keeps F a s) :
    KeepsOpt F a (State.readyAk s x1) := by
  unfold State.readyAk
  split
  · refine KeepsOpt.some ?_
    assumption
  · refine State.renewAk_keeps (maskSub hF rfl) ?_
    assumption

theorem State.authFail_keeps {F : Nat} {a s : State} (hF : F ||| 50331648 = F) (h : Keeps F a s) :
    Keeps F a (State.authFail s) := by
  unfold State.authFail
  refine State.raise_keeps (maskSub hF rfl) ?_
  refine State.count_keeps (maskSub hF rfl) ?_
  assumption

theorem State.commitEntryOf_keeps {F : Nat} {a s : State} {x1} (hF : F ||| 32 = F) (h : Keeps F a s) :
    Keeps F a (State.commitEntryOf s x1) := by
  unfold State.commitEntryOf
  refine Keeps.upd_sec (maskSub hF rfl) ?_
  assumption

theorem State.writeKey_keeps {F : Nat} {a s : State} {x1 x2} (hF : F ||| 33554432 = F) (h : Keeps F a s) :
    Keeps F a (State.writeKey s x1 x2) := by
  unfold State.writeKey
  refine Keeps.foldl ?_ ?_
  · assumption
  · intro x1 x2 h0
    beta_reduce
    refine State.wr_keeps (maskSub hF rfl) ?_
    assumption

theorem State.enrolFirst_keeps {F : Nat} {a s : State} {x1} (hF : F ||| 50331680 = F) (h : Keeps F a s) :
    Keeps F a (State.enrolFirst s x1) := by
  unfold State.enrolFirst
  extract_lets +onlyGivenNames -underBinder -merge y0
  have hy0 : Keeps F a y0 := by
    unfold y0
    refine State.writeKey_keeps (maskSub hF rfl) ?_
    refine State.wr_keeps (maskSub hF rfl) ?_
    refine State.wr_keeps (maskSub hF rfl) ?_
    assumption
  try clear_value y0
  refine State.raise_keeps (maskSub hF rfl) ?_
  refine State.set_keeps (maskSub hF rfl) ?_
  refine State.commitEntryOf_keeps (maskSub hF rfl) ?_
  assumption

theorem State.closeOpening_keeps {F : Nat} {a s : State} {x1} (hF : F ||| 33554440 = F) (h : Keeps F a s) :
    Keeps F a (State.closeOpening s x1) := by
  unfold State.closeOpening
  refine State.delSess_keeps (maskSub hF rfl) ?_
  refine State.wr_keeps (maskSub hF rfl) ?_
  refine State.wr_keeps (maskSub hF rfl) ?_
  refine State.wr_keeps (maskSub hF rfl) ?_
  refine State.wr_keeps (maskSub hF rfl) ?_
  assumption

theorem State.enrol_keeps {F : Nat} {a s : State} {x1 x2} (hF : F ||| 50331688 = F) (h : Keeps F a s) :
    Keeps F a (State.enrol s x1 x2) := by
  unfold State.enrol
  extract_lets +onlyGivenNames -underBinder -merge y0
  try clear_value y0
  extract_lets +onlyGivenNames -underBinder -merge y1
  try clear_value y1
  extract_lets +onlyGivenNames -underBinder -merge y2
  have hy2 : Keeps F a y2 := by
    unfold y2
    refine State.commitEntryOf_keeps (maskSub hF rfl) ?_
    refine State.wr_keeps (maskSub hF rfl) ?_
    assumption
  try clear_value y2
  extract_lets +onlyGivenNames -underBinder -merge y3
  have hy3 : Keeps F a y3 := by
    unfold y3
    refine Keeps.ite ?_ ?_
    · assumption
    · refine Keeps.ite ?_ ?_
      · refine Keeps.foldl ?_ ?_
        · assumption
        · intro x5 x6 h4
          beta_reduce
          refine Keeps.ite ?_ ?_
          · refine State.endSession_keeps (maskSub hF rfl) ?_
            assumption
          · refine State.closeOpening_keeps (maskSub hF rfl) ?_
            assumption
      · refine Keeps.foldl ?_ ?_
        · assumption
        · intro x8 x9 h7
          beta_reduce
          extract_lets +onlyGivenNames -underBinder -merge y10
          have hy10 : Keeps F a y10 := by
            unfold y10
            refine State.wr_keeps (maskSub hF rfl) ?_
            assumption
          try clear_value y10
          refine Keeps.foldl ?_ ?_
          · assumption
          · intro x12 x13 h11
            beta_reduce
            refine Keeps.ite ?_ ?_
            · refine State.freeDomain_keeps (maskSub hF rfl) ?_
              assumption
            · assumption
  try clear_value y3
  refine State.raise_keeps (maskSub hF rfl) ?_
  refine State.setB_keeps (maskSub hF rfl) ?_
  assumption

theorem execEnrolCommit_keeps {F : Nat} {a s : State} {x0 x1 x2} (hF : F ||| 58720296 = F) (h : Keeps F a s) :
    ∃ t, execEnrolCommit x0 x1 x2 s = .next t ∧ Keeps F a t := by
  refine ⟨_, rfl, ?_⟩
  refine State.writeRow_keeps (maskSub hF rfl) ?_ ?_
  · assumption
  · intro x1 h0
    beta_reduce
    refine State.enrol_keeps (maskSub hF rfl) ?_
    assumption

theorem State.programKey_keeps {F : Nat} {a s : State} {x1 x2} (hF : F ||| 50331680 = F) (h : Keeps F a s) :
    Keeps F a (State.programKey s x1 x2) := by
  unfold State.programKey
  extract_lets +onlyGivenNames -underBinder -merge y0
  have hy0 : Keeps F a y0 := by
    unfold y0
    refine State.wr_keeps (maskSub hF rfl) ?_
    assumption
  try clear_value y0
  refine State.raise_keeps (maskSub hF rfl) ?_
  refine Keeps.upd_sec (maskSub hF rfl) ?_
  assumption

theorem execProgramKeyCommit_keeps {F : Nat} {a s : State} {x0 x1 x2} (hF : F ||| 58720296 = F) (h : Keeps F a s) :
    ∃ t, execProgramKeyCommit x0 x1 x2 s = .next t ∧ Keeps F a t := by
  refine ⟨_, rfl, ?_⟩
  refine State.writeRow_keeps (maskSub hF rfl) ?_ ?_
  · assumption
  · intro x1 h0
    beta_reduce
    refine State.programKey_keeps (maskSub hF rfl) ?_
    assumption

theorem State.random_keeps {F : Nat} {a s : State} {x1} (hF : F ||| 67108864 = F) (h : Keeps F a s) :
    Keeps F a (State.random s x1).2 := by
  unfold State.random
  refine Keeps.p2 ?_
  refine Keeps.upd_fresh (maskSub hF rfl) (Nat.le_succ _) ?_
  assumption

theorem State.newSession_keeps {F : Nat} {a s : State} (hF : F ||| 8 = F) (h : Keeps F a s) :
    Keeps F a (State.newSession s).2 := by
  unfold State.newSession
  extract_lets +onlyGivenNames -underBinder -merge y0
  try clear_value y0
  refine Keeps.p2 ?_
  refine Keeps.upd_zh (maskSub hF rfl) ?_
  assumption

theorem State.sessAccept_keeps {F : Nat} {a s : State} {x1 x2} (hF : F ||| 125829160 = F) (h : Keeps F a s) :
    Keeps F a (State.sessAccept s x1 x2) := by
  unfold State.sessAccept
  split
  · refine State.sendPlain_keeps (maskSub hF rfl) ?_
    assumption
  · rename_i p2 e3
    have hp2 : Keeps F a p2 := by
      refine KeepsOpt.of e3 ?_
      refine State.readyAk_keeps (maskSub hF rfl) ?_
      assumption
    extract_lets +onlyGivenNames -underBinder -merge y4
    have hy42 : Keeps F a y4.2 := by
      unfold y4
      refine State.newSession_keeps (maskSub hF rfl) ?_
      assumption
    extract_lets +onlyGivenNames -underBinder -merge y5
    have hy52 : Keeps F a y5.2 := by
      unfold y5
      refine State.random_keeps (maskSub hF rfl) ?_
      assumption
    extract_lets +onlyGivenNames -underBinder -merge y6
    extract_lets +onlyGivenNames -underBinder -merge y7
    have hy7 : Keeps F a y7 := by
      unfold y7
      assumption
    extract_lets +onlyGivenNames -underBinder -merge y8
    have hy8 : Keeps F a y8 := by
      unfold y8
      refine Keeps.upd_fresh (maskSub hF rfl) (Nat.le_succ _) ?_
      assumption
    extract_lets +onlyGivenNames -underBinder -merge y9
    extract_lets +onlyGivenNames -underBinder -merge y10
    extract_lets +onlyGivenNames -underBinder -merge y11
    extract_lets +onlyGivenNames -underBinder -merge y12
    have hy12 : Keeps F a y12 := by
      unfold y12
      refine State.useLeaf_keeps (maskSub hF rfl) ?_
      assumption
    extract_lets +onlyGivenNames -underBinder -merge y13
    extract_lets +onlyGivenNames -underBinder -merge y14
    extract_lets +onlyGivenNames -underBinder -merge y15
    extract_lets +onlyGivenNames -underBinder -merge y16
    have hy16 : Keeps F a y16 := by
      unfold y16
      refine Keeps.ite ?_ ?_
      · refine Keeps.upd_sec (maskSub hF rfl) ?_
        assumption
      · split
        · extract_lets +onlyGivenNames -underBinder -merge y17
          have hy17 : Keeps F a y17 := by
            unfold y17
            refine State.wr_keeps (maskSub hF rfl) ?_
            refine State.wr_keeps (maskSub hF rfl) ?_
            refine State.wr_keeps (maskSub hF rfl) ?_
            assumption
          extract_lets +onlyGivenNames -underBinder -merge y18
          have hy18 : Keeps F a y18 := by
            unfold y18
            refine State.wr_keeps (maskSub hF rfl) ?_
            assumption
          refine State.setSess_keeps (maskSub hF rfl) ?_
          assumption
        · assumption
    refine State.sendPlain_keeps (maskSub hF rfl) ?_
    assumption

theorem execSessOpen_keeps {F : Nat} {a s : State} {x0 x1 x2 x3} (hF : F ||| 125829160 = F) (h : Keeps F a s) :
    ∃ t, execSessOpen x0 x1 x2 x3 s = .next t ∧ Keeps F a t := by
  refine ⟨_, rfl, ?_⟩
  refine State.takePlain_keeps (maskSub hF rfl) ?_ ?_
  · assumption
  · intro x1 h0
    beta_reduce
    extract_lets +onlyGivenNames -underBinder -merge y2
    try clear_value y2
    split
    · refine State.sendPlain_keeps (maskSub hF rfl) ?_
      assumption
    · refine Keeps.ite ?_ ?_
      · refine State.sendPlain_keeps (maskSub hF rfl) ?_
        refine State.violate_keeps (maskSub hF rfl) ?_
        refine State.authFail_keeps (maskSub hF rfl) ?_
        assumption
      · refine Keeps.ite ?_ ?_
        · refine State.sendPlain_keeps (maskSub hF rfl) ?_
          refine State.violate_keeps (maskSub hF rfl) ?_
          refine State.authFail_keeps (maskSub hF rfl) ?_
          assumption
        · extract_lets +onlyGivenNames -underBinder -merge y3
          try clear_value y3
          extract_lets +onlyGivenNames -underBinder -merge y4
          have hy4 : Keeps F a y4 := by
            unfold y4
            refine Keeps.ite ?_ ?_
            · refine State.enrolFirst_keeps (maskSub hF rfl) ?_
              assumption
            · assumption
          try clear_value y4
          refine Keeps.ite ?_ ?_
          · refine State.sendPlain_keeps (maskSub hF rfl) ?_
            refine State.count_keeps (maskSub hF rfl) ?_
            assumption
          · refine State.sessAccept_keeps (maskSub hF rfl) ?_
            assumption

theorem State.takePeerKey_keeps {F : Nat} {a s : State} {x1 x2} (hF : F ||| 32 = F) (h : Keeps F a s) :
    Keeps F a (State.takePeerKey s x1 x2) := by
  unfold State.takePeerKey
  extract_lets +onlyGivenNames -underBinder -merge y0
  try clear_value y0
  refine Keeps.upd_sec (maskSub hF rfl) ?_
  assumption

theorem State.peerConfirmed_keeps {F : Nat} {a s : State} {x1} (hF : F ||| 32 = F) (h : Keeps F a s) :
    Keeps F a (State.peerConfirmed s x1) := by
  unfold State.peerConfirmed
  extract_lets +onlyGivenNames -underBinder -merge y0
  try clear_value y0
  extract_lets +onlyGivenNames -underBinder -merge y1
  try clear_value y1
  extract_lets +onlyGivenNames -underBinder -merge y2
  try clear_value y2
  split
  · refine Keeps.upd_sec (maskSub hF rfl) ?_
    assumption
  · refine Keeps.upd_sec (maskSub hF rfl) ?_
    assumption

theorem execSessKey_keeps {F : Nat} {a s : State} {x0 x1 x2 x3 x4 x5} (hF : F ||| 58720296 = F) (h : Keeps F a s) :
    ∃ t, execSessKey x0 x1 x2 x3 x4 x5 s = .next t ∧ Keeps F a t := by
  refine ⟨_, rfl, ?_⟩
  refine State.takePlain_keeps (maskSub hF rfl) ?_ ?_
  · assumption
  · intro x1 h0
    beta_reduce
    extract_lets +onlyGivenNames -underBinder -merge y2
    try clear_value y2
    split
    · extract_lets +onlyGivenNames -underBinder -merge y3
      try clear_value y3
      refine Keeps.ite ?_ ?_
      · extract_lets +onlyGivenNames -underBinder -merge y4
        have hy4 : Keeps F a y4 := by
          unfold y4
          refine State.setSess_keeps (maskSub hF rfl) ?_
          refine State.set_keeps (maskSub hF rfl) ?_
          assumption
        try clear_value y4
        extract_lets +onlyGivenNames -underBinder -merge y5
        have hy5 : Keeps F a y5 := by
          unfold y5
          refine State.raise_keeps (maskSub hF rfl) ?_
          refine State.count_keeps (maskSub hF rfl) ?_
          refine State.bump_keeps (maskSub hF rfl) ?_
          assumption
        try clear_value y5
        refine State.sendPlain_keeps (maskSub hF rfl) ?_
        assumption
      · refine State.sendPlain_keeps (maskSub hF rfl) ?_
        refine State.closeOpening_keeps (maskSub hF rfl) ?_
        refine State.authFail_keeps (maskSub hF rfl) ?_
        assumption
    · split
      · extract_lets +onlyGivenNames -underBinder -merge y6
        try clear_value y6
        extract_lets +onlyGivenNames -underBinder -merge y7
        have hy7 : Keeps F a y7 := by
          unfold y7
          refine Keeps.upd_sec (maskSub hF rfl) ?_
          assumption
        try clear_value y7
        split
        · extract_lets +onlyGivenNames -underBinder -merge y8
          try clear_value y8
          refine State.sendPlain_keeps (maskSub hF rfl) ?_
          refine State.peerConfirmed_keeps (maskSub hF rfl) ?_
          refine State.takePeerKey_keeps (maskSub hF rfl) ?_
          assumption
        · refine State.sendPlain_keeps (maskSub hF rfl) ?_
          refine State.authFail_keeps (maskSub hF rfl) ?_
          assumption
      · refine State.sendPlain_keeps (maskSub hF rfl) ?_
        assumption

theorem State.openPeer_keeps {F : Nat} {a s : State} {x1} (hF : F ||| 125829152 = F) (h : Keeps F a s) :
    Keeps F a (State.openPeer s x1) := by
  unfold State.openPeer
  split
  · assumption
  · rename_i p2 e3
    have hp2 : Keeps F a p2 := by
      refine KeepsOpt.of e3 ?_
      refine State.readyAk_keeps (maskSub hF rfl) ?_
      assumption
    extract_lets +onlyGivenNames -underBinder -merge y4
    have hy42 : Keeps F a y4.2 := by
      unfold y4
      refine State.random_keeps (maskSub hF rfl) ?_
      assumption
    try clear_value y4
    extract_lets +onlyGivenNames -underBinder -merge y5
    have hy52 : Keeps F a y5.2 := by
      unfold y5
      refine State.random_keeps (maskSub hF rfl) ?_
      assumption
    try clear_value y5
    extract_lets +onlyGivenNames -underBinder -merge y6
    have hy6 : Keeps F a y6 := by
      unfold y6
      assumption
    try clear_value y6
    extract_lets +onlyGivenNames -underBinder -merge y7
    try clear_value y7
    extract_lets +onlyGivenNames -underBinder -merge y8
    try clear_value y8
    extract_lets +onlyGivenNames -underBinder -merge y9
    try clear_value y9
    extract_lets +onlyGivenNames -underBinder -merge y10
    have hy10 : Keeps F a y10 := by
      unfold y10
      refine State.useLeaf_keeps (maskSub hF rfl) ?_
      assumption
    try clear_value y10
    extract_lets +onlyGivenNames -underBinder -merge y11
    try clear_value y11
    refine State.send_keeps (maskSub hF rfl) ?_
    refine Keeps.upd_sec (maskSub hF rfl) ?_
    assumption

theorem State.startExchanges_keeps {F : Nat} {a s : State} (hF : F ||| 125829152 = F) (h : Keeps F a s) :
    Keeps F a (State.startExchanges s) := by
  unfold State.startExchanges
  extract_lets +onlyGivenNames -underBinder -merge y0
  try clear_value y0
  extract_lets +onlyGivenNames -underBinder -merge y1
  have hy1 : Keeps F a y1 := by
    unfold y1
    refine Keeps.upd_sec (maskSub hF rfl) ?_
    assumption
  try clear_value y1
  refine Keeps.foldl ?_ ?_
  · assumption
  · intro x3 x4 h2
    beta_reduce
    refine State.openPeer_keeps (maskSub hF rfl) ?_
    assumption

theorem State.renewSend_keeps {F : Nat} {a s : State} (hF : F ||| 125829152 = F) (h : Keeps F a s) :
    Keeps F a (State.renewSend s) := by
  unfold State.renewSend
  refine Keeps.ite ?_ ?_
  · assumption
  · extract_lets +onlyGivenNames -underBinder -merge y0
    have hy02 : Keeps F a y0.2 := by
      unfold y0
      refine State.random_keeps (maskSub hF rfl) ?_
      assumption
    try clear_value y0
    extract_lets +onlyGivenNames -underBinder -merge y1
    have hy1 : Keeps F a y1 := by
      unfold y1
      assumption
    try clear_value y1
    extract_lets +onlyGivenNames -underBinder -merge y2
    try clear_value y2
    extract_lets +onlyGivenNames -underBinder -merge y3
    have hy3 : Keeps F a y3 := by
      unfold y3
      refine Keeps.upd_sec (maskSub hF rfl) ?_
      assumption
    try clear_value y3
    extract_lets +onlyGivenNames -underBinder -merge y4
    have hy4 : Keeps F a y4 := by
      unfold y4
      refine State.startExchanges_keeps (maskSub hF rfl) ?_
      assumption
    try clear_value y4
    refine Keeps.ite ?_ ?_
    · refine State.peerConfirmed_keeps (maskSub hF rfl) ?_
      assumption
    · assumption

theorem execSendKeyRenew_keeps {F : Nat} {a s : State} (hF : F ||| 125829152 = F) (h : Keeps F a s) :
    ∃ t, execSendKeyRenew s = .next t ∧ Keeps F a t := by
  refine ⟨_, rfl, ?_⟩
  refine State.renewSend_keeps (maskSub hF rfl) ?_
  assumption

theorem execPeerExchangeResponse_keeps {F : Nat} {a s : State} {x0 x1} (hF : F ||| 58720288 = F) (h : Keeps F a s) :
    ∃ t, execPeerExchangeResponse x0 x1 s = .next t ∧ Keeps F a t := by
  refine ⟨_, rfl, ?_⟩
  refine Keeps.ite ?_ ?_
  · assumption
  · split
    · assumption
    · split
      · extract_lets +onlyGivenNames -underBinder -merge y0
        try clear_value y0
        refine Keeps.ite ?_ ?_
        · assumption
        · refine Keeps.ite ?_ ?_
          · extract_lets +onlyGivenNames -underBinder -merge y1
            try clear_value y1
            extract_lets +onlyGivenNames -underBinder -merge y2
            try clear_value y2
            extract_lets +onlyGivenNames -underBinder -merge y3
            try clear_value y3
            extract_lets +onlyGivenNames -underBinder -merge y4
            have hy4 : Keeps F a y4 := by
              unfold y4
              refine Keeps.upd_sec (maskSub hF rfl) ?_
              assumption
            try clear_value y4
            refine State.send_keeps (maskSub hF rfl) ?_
            assumption
          · refine State.authFail_keeps (maskSub hF rfl) ?_
            refine Keeps.upd_sec (maskSub hF rfl) ?_
            assumption
      · extract_lets +onlyGivenNames -underBinder -merge y5
        try clear_value y5
        extract_lets +onlyGivenNames -underBinder -merge y6
        have hy6 : Keeps F a y6 := by
          unfold y6
          refine Keeps.upd_sec (maskSub hF rfl) ?_
          assumption
        try clear_value y6
        split
        · refine State.peerConfirmed_keeps (maskSub hF rfl) ?_
          refine State.takePeerKey_keeps (maskSub hF rfl) ?_
          assumption
        · refine State.authFail_keeps (maskSub hF rfl) ?_
          assumption

theorem State.fwDone_keeps {F : Nat} {a s : State} {x1} (hF : F ||| 50331648 = F) (h : Keeps F a s) :
    Keeps F a (State.fwDone s x1) := by
  unfold State.fwDone
  refine State.raise_keeps (maskSub hF rfl) ?_
  refine State.set_keeps (maskSub hF rfl) ?_
  assumption

theorem State.fwTry_keeps {F : Nat} {a s : State} {x1} (hF : F ||| 50331664 = F) (h : Keeps F a s) :
    Keeps F a (State.fwTry s x1) := by
  unfold State.fwTry
  refine Keeps.ite ?_ ?_
  · refine State.fwDone_keeps (maskSub hF rfl) ?_
    assumption
  · extract_lets +onlyGivenNames -underBinder -merge y0
    have hy0 : Keeps F a y0 := by
      unfold y0
      refine Keeps.foldl ?_ ?_
      · assumption
      · intro x2 x3 h1
        beta_reduce
        split
        · refine State.set_keeps (maskSub hF rfl) ?_
          refine State.set_keeps (maskSub hF rfl) ?_
          assumption
        · assumption
    try clear_value y0
    refine State.fwDone_keeps (maskSub hF rfl) ?_
    refine Keeps.upd_sys (maskSub hF rfl) ?_
    assumption

theorem State.fwCommit_keeps {F : Nat} {a s : State} {x1} (hF : F ||| 50331648 = F) (h : Keeps F a s) :
    Keeps F a (State.fwCommit s x1) := by
  unfold State.fwCommit
  extract_lets +onlyGivenNames -underBinder -merge y0
  have hy0 : Keeps F a y0 := by
    unfold y0
    refine Keeps.foldl ?_ ?_
    · assumption
    · intro x2 x3 h1
      beta_reduce
      split
      · refine State.set_keeps (maskSub hF rfl) ?_
        assumption
      · assumption
  try clear_value y0
  refine State.fwDone_keeps (maskSub hF rfl) ?_
  assumption

theorem State.fwCommand_keeps {F : Nat} {a s : State} {x1} (hF : F ||| 50331696 = F) (h : Keeps F a s) :
    Keeps F a (State.fwCommand s x1) := by
  unfold State.fwCommand
  refine Keeps.ite ?_ ?_
  · refine State.set_keeps (maskSub hF rfl) ?_
    assumption
  · split
    · extract_lets +onlyGivenNames -underBinder -merge y0
      have hy0 : Keeps F a y0 := by
        unfold y0
        refine State.set_keeps (maskSub hF rfl) ?_
        refine State.set_keeps (maskSub hF rfl) ?_
        assumption
      try clear_value y0
      refine Keeps.upd_sec (maskSub hF rfl) ?_
      assumption
    · refine State.fwTry_keeps (maskSub hF rfl) ?_
      assumption
    · refine State.fwTry_keeps (maskSub hF rfl) ?_
      assumption
    · refine State.fwCommit_keeps (maskSub hF rfl) ?_
      assumption
    · assumption

theorem State.fwRow_keeps {F : Nat} {a s : State} {x1 x2 x3 x4 x5} (hF : F ||| 58720312 = F) (h : Keeps F a s) :
    Keeps F a (State.fwRow s x1 x2 x3 x4 x5) := by
  unfold State.fwRow
  extract_lets +onlyGivenNames -underBinder -merge y0
  try clear_value y0
  refine State.writeRow_keeps (maskSub hF rfl) ?_ ?_
  · assumption
  · intro x2 h1
    beta_reduce
    refine State.fwCommand_keeps (maskSub hF rfl) ?_
    assumption

theorem execFwInstall_keeps {F : Nat} {a s : State} {x0 x1 x2} (hF : F ||| 58720312 = F) (h : Keeps F a s) :
    ∃ t, execFwInstall x0 x1 x2 s = .next t ∧ Keeps F a t := by
  refine ⟨_, rfl, ?_⟩
  refine State.fwRow_keeps (maskSub hF rfl) ?_
  assumption

theorem execFwInstallDone_keeps {F : Nat} {a s : State} (hF : F ||| 50331688 = F) (h : Keeps F a s) :
    ∃ t, execFwInstallDone s = .next t ∧ Keeps F a t := by
  refine ⟨_, rfl, ?_⟩
  split
  · assumption
  · extract_lets +onlyGivenNames -underBinder -merge y0
    try clear_value y0
    extract_lets +onlyGivenNames -underBinder -merge y1
    have hy1 : Keeps F a y1 := by
      unfold y1
      refine State.set_keeps (maskSub hF rfl) ?_
      refine Keeps.upd_sec (maskSub hF rfl) ?_
      assumption
    try clear_value y1
    split
    · refine State.fwDone_keeps (maskSub hF rfl) ?_
      assumption
    · extract_lets +onlyGivenNames -underBinder -merge y2
      try clear_value y2
      extract_lets +onlyGivenNames -underBinder -merge y3
      try clear_value y3
      refine Keeps.ite ?_ ?_
      · refine State.fwDone_keeps (maskSub hF rfl) ?_
        assumption
      · extract_lets +onlyGivenNames -underBinder -merge y4
        try clear_value y4
        extract_lets +onlyGivenNames -underBinder -merge y5
        have hy5 : Keeps F a y5 := by
          unfold y5
          refine State.wr_keeps (maskSub hF rfl) ?_
          refine State.set_keeps (maskSub hF rfl) ?_
          assumption
        try clear_value y5
        extract_lets +onlyGivenNames -underBinder -merge y6
        try clear_value y6
        extract_lets +onlyGivenNames -underBinder -merge y7
        try clear_value y7
        extract_lets +onlyGivenNames -underBinder -merge y8
        have hy8 : Keeps F a y8 := by
          unfold y8
          refine Keeps.upd (s := y5) ?_ id rfl le_rfl List.suffix_rfl le_rfl (FirnStep.refl _)
             (.inr rfl) (.inr rfl) (.inr rfl) (.inl (maskSub hF rfl)) (.inr rfl) (.inl (maskSub hF rfl)) (.inr rfl) (.inr rfl) (.inr rfl) (.inr rfl)
             (.inr rfl) (.inr rfl) (.inr rfl) (.inr rfl) (.inr rfl) (.inr rfl) (.inr rfl) (.inr rfl) (.inr rfl) (.inr rfl) (.inr rfl) (.inr rfl)
             (.inr rfl) (.inr rfl) (.inr rfl) (.inr rfl) (.inr rfl)
          assumption
        try clear_value y8
        refine State.fwDone_keeps (maskSub hF rfl) ?_
        assumption

theorem execFwActivate_keeps {F : Nat} {a s : State} {x0 x1} (hF : F ||| 58720312 = F) (h : Keeps F a s) :
    ∃ t, execFwActivate x0 x1 s = .next t ∧ Keeps F a t := by
  refine ⟨_, rfl, ?_⟩
  refine State.fwRow_keeps (maskSub hF rfl) ?_
  assumption

theorem execFwCommit_keeps {F : Nat} {a s : State} {x0 x1} (hF : F ||| 58720312 = F) (h : Keeps F a s) :
    ∃ t, execFwCommit x0 x1 s = .next t ∧ Keeps F a t := by
  refine ⟨_, rfl, ?_⟩
  refine State.fwRow_keeps (maskSub hF rfl) ?_
  assumption

theorem execFwRevert_keeps {F : Nat} {a s : State} {x0 x1} (hF : F ||| 58720312 = F) (h : Keeps F a s) :
    ∃ t, execFwRevert x0 x1 s = .next t ∧ Keeps F a t := by
  refine ⟨_, rfl, ?_⟩
  refine State.fwRow_keeps (maskSub hF rfl) ?_
  assumption

theorem State.trialGood_keeps {F : Nat} {a s : State} {x1} (hF : F ||| 33554432 = F) (h : Keeps F a s) :
    Keeps F a (State.trialGood s x1) := by
  unfold State.trialGood
  extract_lets +onlyGivenNames -underBinder -merge y0
  try clear_value y0
  refine Keeps.ite ?_ ?_
  · extract_lets +onlyGivenNames -underBinder -merge y1
    have hy1 : Keeps F a y1 := by
      unfold y1
      refine Keeps.ite ?_ ?_
      · refine State.set_keeps (maskSub hF rfl) ?_
        assumption
      · assumption
    try clear_value y1
    refine State.set_keeps (maskSub hF rfl) ?_
    refine State.set_keeps (maskSub hF rfl) ?_
    assumption
  · assumption

theorem execFwTrialGood_keeps {F : Nat} {a s : State} {x0} (hF : F ||| 33554432 = F) (h : Keeps F a s) :
    ∃ t, execFwTrialGood x0 s = .next t ∧ Keeps F a t := by
  refine ⟨_, rfl, ?_⟩
  refine State.trialGood_keeps (maskSub hF rfl) ?_
  assumption

theorem State.secRunOut_keeps {F : Nat} {a s : State} (hF : F ||| 125829152 = F) (h : Keeps F a s) :
    Keeps F a (State.secRunOut s) := by
  unfold State.secRunOut
  refine State.renewSend_keeps (maskSub hF rfl) ?_
  refine State.trialGood_keeps (maskSub hF rfl) ?_
  refine State.trialGood_keeps (maskSub hF rfl) ?_
  refine State.trialGood_keeps (maskSub hF rfl) ?_
  assumption

theorem judgeAttest_keeps {F : Nat} {a s : State} {x0 x1} (hF : F ||| 50331680 = F)  :
    JudgeKeeps F a (judgeAttest x0 x1 s) := by
  unfold judgeAttest
  refine JudgeKeeps.mk ?_
  intro x1 x2 h0
  beta_reduce
  split
  · refine Keeps.p1 ?_
    assumption
  · rename_i p5 e6
    have hp5 : Keeps F a p5 := by
      refine KeepsOpt.of e6 ?_
      refine State.readyAk_keeps (maskSub hF rfl) ?_
      assumption
    extract_lets +onlyGivenNames -underBinder -merge y7
    try clear_value y7
    extract_lets +onlyGivenNames -underBinder -merge y8
    try clear_value y8
    refine Keeps.p1 ?_
    refine State.count_keeps (maskSub hF rfl) ?_
    refine State.useLeaf_keeps (maskSub hF rfl) ?_
    assumption

theorem execAttest_keeps {F : Nat} {a s : State} {x0 x1} (hF : F ||| 58720296 = F) (h : Keeps F a s) :
    ∃ t, execAttest x0 x1 s = .next t ∧ Keeps F a t := by
  refine ⟨_, rfl, ?_⟩
  refine State.request_keeps (maskSub hF rfl) ?_ ?_
  · assumption
  · intro _ _
    beta_reduce
    refine judgeAttest_keeps (maskSub hF rfl)

end Sys2Proof.Machine
end

