-- ==== Sys2Proof/Laws/KeepsRegs.lean ====
section
/-! SUPPORT. What each operation and each command of register access and deferral may change, as `Keeps` says it. -/

namespace Sys2Proof.Machine

/-! ### Registers -/

theorem State.latchWord_keeps {F : Nat} {a s : State} {x1 x2 x3} (hF : F ||| 2097152 = F) (h : Keeps F a s) :
    Keeps F a (State.latchWord s x1 x2 x3) := by
  unfold State.latchWord
  refine Keeps.ite ?_ ?_
  · assumption
  · refine Keeps.upd_shadow (maskSub hF rfl) ?_
    assumption

theorem State.afterRead_keeps {F : Nat} {a s : State} {x1} (hF : F ||| 35717120 = F) (h : Keeps F a s) :
    Keeps F a (State.afterRead s x1) := by
  unfold State.afterRead
  extract_lets +onlyGivenNames -underBinder -merge y0
  try clear_value y0
  extract_lets +onlyGivenNames -underBinder -merge y1
  have hy1 : Keeps F a y1 := by
    unfold y1
    refine Keeps.ite ?_ ?_
    · refine State.readObj_keeps (maskSub hF rfl) ?_
      assumption
    · refine Keeps.ite ?_ ?_
      · refine State.readHp_keeps (maskSub hF rfl) ?_
        assumption
      · assumption
  try clear_value y1
  extract_lets +onlyGivenNames -underBinder -merge y2
  have hy2 : Keeps F a y2 := by
    unfold y2
    refine Keeps.foldl ?_ ?_
    · assumption
    · intro x4 x5 h3
      beta_reduce
      refine State.latchWord_keeps (maskSub hF rfl) ?_
      assumption
  try clear_value y2
  extract_lets +onlyGivenNames -underBinder -merge y6
  have hy6 : Keeps F a y6 := by
    unfold y6
    refine Keeps.ite ?_ ?_
    · assumption
    · refine Keeps.upd_shadow (maskSub hF rfl) ?_
      assumption
  try clear_value y6
  split
  · refine Keeps.ite ?_ ?_
    · assumption
    · refine State.wr_keeps (maskSub hF rfl) ?_
      assumption
  · assumption

theorem State.readRow_keeps {F : Nat} {a s : State} {x1} (hF : F ||| 60882944 = F) (h : Keeps F a s) :
    Keeps F a (State.readRow s x1) := by
  unfold State.readRow
  refine Keeps.ite ?_ ?_
  · refine State.denied_keeps (maskSub hF rfl) ?_
    assumption
  · refine State.afterRead_keeps (maskSub hF rfl) ?_
    refine State.send_keeps (maskSub hF rfl) ?_
    assumption

theorem execLatchedLowWordRead_keeps {F : Nat} {a s : State} {x0} (hF : F ||| 60882944 = F) (h : Keeps F a s) :
    ∃ t, execLatchedLowWordRead x0 s = .next t ∧ Keeps F a t := by
  refine ⟨_, rfl, ?_⟩
  refine State.readRow_keeps (maskSub hF rfl) ?_
  assumption

theorem execRcRegisterRead_keeps {F : Nat} {a s : State} {x0} (hF : F ||| 60882944 = F) (h : Keeps F a s) :
    ∃ t, execRcRegisterRead x0 s = .next t ∧ Keeps F a t := by
  refine ⟨_, rfl, ?_⟩
  refine State.readRow_keeps (maskSub hF rfl) ?_
  assumption

theorem readWords_keeps {F : Nat} {a s : State} {x0} (hF : F ||| 35717120 = F) (h : Keeps F a s) :
    Keeps F a (readWords x0 s).2 := by
  unfold readWords
  refine Keeps.foldlOn Prod.snd ?_ ?_
  · refine Keeps.p2 ?_
    assumption
  · intro x1 x2 h0
    beta_reduce
    refine Keeps.p2 ?_
    refine State.afterRead_keeps (maskSub hF rfl) ?_
    assumption

theorem judgeRegrd_keeps {F : Nat} {a s : State} {x0 x1 x2 x3} (hF : F ||| 52502544 = F)  :
    JudgeKeeps F a (judgeRegrd x0 x1 x2 x3 s) := by
  unfold judgeRegrd
  refine JudgeKeeps.mk ?_
  intro x1 x2 h0
  beta_reduce
  split
  · refine Keeps.p1 ?_
    refine State.busFail_keeps (maskSub hF rfl) ?_
    refine readWords_keeps (maskSub hF rfl) ?_
    assumption
  · extract_lets +onlyGivenNames -underBinder -merge y3
    have hy32 : Keeps F a y3.2 := by
      unfold y3
      refine readWords_keeps (maskSub hF rfl) ?_
      assumption
    try clear_value y3
    refine Keeps.p1 ?_
    assumption

theorem execRegrd_keeps {F : Nat} {a s : State} {x0 x1 x2 x3} (hF : F ||| 60891160 = F) (h : Keeps F a s) :
    ∃ t, execRegrd x0 x1 x2 x3 s = .next t ∧ Keeps F a t := by
  refine ⟨_, rfl, ?_⟩
  refine State.request_keeps (maskSub hF rfl) ?_ ?_
  · assumption
  · intro _ _
    beta_reduce
    refine judgeRegrd_keeps (maskSub hF rfl)

theorem execPeekReq_keeps {F : Nat} {a s : State} {x0 x1 x2 x3} (hF : F ||| 8388640 = F) (h : Keeps F a s) :
    ∃ t, execPeekReq x0 x1 x2 x3 s = .next t ∧ Keeps F a t := by
  refine ⟨_, rfl, ?_⟩
  refine Keeps.ite ?_ ?_
  · extract_lets +onlyGivenNames -underBinder -merge y0
    try clear_value y0
    refine State.cra_keeps (maskSub hF rfl) ?_
    assumption
  · assumption

/-! ### Writes -/

theorem wroteOk_keeps {F : Nat} {a s : State} (hF : F ||| 0 = F) (h : Keeps F a s) :
    Keeps F a (wroteOk s).1 := by
  unfold wroteOk
  refine Keeps.p1 ?_
  assumption

theorem State.applySys_keeps {F : Nat} {a s : State} {x1 x2 x3} (hF : F ||| 50331664 = F) (h : Keeps F a s) :
    Keeps F a (State.applySys s x1 x2 x3) := by
  unfold State.applySys
  refine Keeps.ite ?_ ?_
  · refine Keeps.ite ?_ ?_
    · refine State.askRecord_keeps (maskSub hF rfl) ?_
      assumption
    · refine Keeps.ite ?_ ?_
      · refine State.clearRecord_keeps (maskSub hF rfl) ?_
        assumption
      · assumption
  · refine Keeps.ite ?_ ?_
    · refine Keeps.upd_sys (maskSub hF rfl) ?_
      assumption
    · refine State.plainWrite_keeps (maskSub hF rfl) ?_
      assumption

theorem State.ptpOptions_keeps {F : Nat} {a s : State} {x1 x2} (hF : F ||| 50331649 = F) (h : Keeps F a s) :
    Keeps F a (State.ptpOptions s x1 x2) := by
  unfold State.ptpOptions
  extract_lets +onlyGivenNames -underBinder -merge y0
  have hy0 : Keeps F a y0 := by
    unfold y0
    refine State.plainWrite_keeps (maskSub hF rfl) ?_
    assumption
  try clear_value y0
  refine Keeps.ite ?_ ?_
  · assumption
  · refine State.loseMaster_keeps (maskSub hF rfl) ?_
    assumption

theorem State.applyTim_keeps {F : Nat} {a s : State} {x1 x2} (hF : F ||| 54528135 = F) (h : Keeps F a s) :
    Keeps F a (State.applyTim s x1 x2).1 := by
  unfold State.applyTim
  extract_lets +onlyGivenNames -underBinder -merge y0
  try clear_value y0
  split
  · extract_lets +onlyGivenNames -underBinder -merge y1
    have hy1 : Keeps F a y1 := by
      unfold y1
      refine State.servoJudge_keeps (maskSub hF rfl) ?_
      refine State.plainWrite_keeps (maskSub hF rfl) ?_
      assumption
    try clear_value y1
    refine wroteOk_keeps (maskSub hF rfl) ?_
    refine Keeps.ite ?_ ?_
    · refine Keeps.upd_clk (maskSub hF rfl) le_rfl ?_
      assumption
    · assumption
  · split
    · refine wroteOk_keeps (maskSub hF rfl) ?_
      refine Keeps.ite ?_ ?_
      · refine State.requestSnapshot_keeps (maskSub hF rfl) ?_
        assumption
      · assumption
    · split
      · refine wroteOk_keeps (maskSub hF rfl) ?_
        refine State.ptpOptions_keeps (maskSub hF rfl) ?_
        assumption
      · split
        · refine wroteOk_keeps (maskSub hF rfl) ?_
          refine State.ptpOptions_keeps (maskSub hF rfl) ?_
          assumption
        · split
          · extract_lets +onlyGivenNames -underBinder -merge y2
            try clear_value y2
            split
            · extract_lets +onlyGivenNames -underBinder -merge y3
              have hy3 : Keeps F a y3 := by
                unfold y3
                refine State.writeEntry_keeps (maskSub hF rfl) ?_
                assumption
              try clear_value y3
              split
              · refine Keeps.p1 ?_
                assumption
              · refine wroteOk_keeps (maskSub hF rfl) ?_
                assumption
            · refine wroteOk_keeps (maskSub hF rfl) ?_
              refine Keeps.ite ?_ ?_
              · assumption
              · refine State.plainWrite_keeps (maskSub hF rfl) ?_
                assumption
          · split
            · refine wroteOk_keeps (maskSub hF rfl) ?_
              refine State.writeJobCfg_keeps (maskSub hF rfl) ?_
              assumption
            · refine wroteOk_keeps (maskSub hF rfl) ?_
              refine State.plainWrite_keeps (maskSub hF rfl) ?_
              assumption

theorem State.applyStm_keeps {F : Nat} {a s : State} {x1 x2} (hF : F ||| 50594048 = F) (h : Keeps F a s) :
    Keeps F a (State.applyStm s x1 x2) := by
  unfold State.applyStm
  refine Keeps.ite ?_ ?_
  · refine Keeps.ite ?_ ?_
    · refine State.streamGo_keeps (maskSub hF rfl) ?_
      assumption
    · refine Keeps.ite ?_ ?_
      · refine State.streamLoad_keeps (maskSub hF rfl) ?_
        assumption
      · assumption
  · refine Keeps.ite ?_ ?_
    · refine State.streamAck_keeps (maskSub hF rfl) ?_
      assumption
    · refine State.plainWrite_keeps (maskSub hF rfl) ?_
      assumption

theorem State.applyIce_keeps {F : Nat} {a s : State} {x1 x2} (hF : F ||| 33555968 = F) (h : Keeps F a s) :
    Keeps F a (State.applyIce s x1 x2) := by
  unfold State.applyIce
  extract_lets +onlyGivenNames -underBinder -merge y0
  try clear_value y0
  refine Keeps.ite ?_ ?_
  · refine State.switchGo_keeps (maskSub hF rfl) ?_
    assumption
  · refine Keeps.ite ?_ ?_
    · refine State.partWrite_keeps (maskSub hF rfl) ?_
      assumption
    · refine Keeps.ite ?_ ?_
      · refine State.replayCmd_keeps (maskSub hF rfl) ?_
        assumption
      · refine Keeps.ite ?_ ?_
        · refine State.slotCmd_keeps (maskSub hF rfl) ?_
          assumption
        · refine State.plainWrite_keeps (maskSub hF rfl) ?_
          assumption

theorem State.applyTbl_keeps {F : Nat} {a s : State} {x1 x2} (hF : F ||| 41944072 = F) (h : Keeps F a s) :
    Keeps F a (State.applyTbl s x1 x2) := by
  unfold State.applyTbl
  extract_lets +onlyGivenNames -underBinder -merge y0
  try clear_value y0
  refine Keeps.ite ?_ ?_
  · extract_lets +onlyGivenNames -underBinder -merge y1
    try clear_value y1
    split
    · refine Keeps.ite ?_ ?_
      · assumption
      · refine State.plainWrite_keeps (maskSub hF rfl) ?_
        assumption
    · refine Keeps.ite ?_ ?_
      · assumption
      · refine State.plainWrite_keeps (maskSub hF rfl) ?_
        assumption
    · refine State.tableCmd_keeps (maskSub hF rfl) ?_
      assumption
    · refine State.plainWrite_keeps (maskSub hF rfl) ?_
      assumption
  · refine State.plainWrite_keeps (maskSub hF rfl) ?_
    assumption

theorem State.applyPln_keeps {F : Nat} {a s : State} {x1 x2 x3} (hF : F ||| 50333696 = F) (h : Keeps F a s) :
    Keeps F a (State.applyPln s x1 x2 x3).1 := by
  unfold State.applyPln
  extract_lets +onlyGivenNames -underBinder -merge y0
  try clear_value y0
  split
  · refine wroteOk_keeps (maskSub hF rfl) ?_
    refine State.ceilWrite_keeps (maskSub hF rfl) ?_
    assumption
  · split
    · refine State.stageWrite_keeps (maskSub hF rfl) ?_
      assumption
    · extract_lets +onlyGivenNames -underBinder -merge y1
      try clear_value y1
      extract_lets +onlyGivenNames -underBinder -merge y2
      have hy2 : Keeps F a y2 := by
        unfold y2
        refine State.notePlanWrite_keeps (maskSub hF rfl) ?_
        refine State.plainWrite_keeps (maskSub hF rfl) ?_
        assumption
      try clear_value y2
      extract_lets +onlyGivenNames -underBinder -merge y3
      have hy3 : Keeps F a y3 := by
        unfold y3
        refine Keeps.ite ?_ ?_
        · refine State.set_keeps (maskSub hF rfl) ?_
          assumption
        · assumption
      try clear_value y3
      refine State.capped_keeps (maskSub hF rfl) ?_
      assumption

theorem State.applyLop_keeps {F : Nat} {a s : State} {x1 x2} (hF : F ||| 50339840 = F) (h : Keeps F a s) :
    Keeps F a (State.applyLop s x1 x2) := by
  unfold State.applyLop
  extract_lets +onlyGivenNames -underBinder -merge y0
  try clear_value y0
  refine Keeps.ite ?_ ?_
  · refine Keeps.ite ?_ ?_
    · refine State.loopGo_keeps (maskSub hF rfl) ?_
      assumption
    · refine Keeps.ite ?_ ?_
      · refine State.loopLoad_keeps (maskSub hF rfl) ?_
        assumption
      · assumption
  · refine Keeps.ite ?_ ?_
    · refine State.loopChanged_keeps (maskSub hF rfl) ?_
      refine State.writeLoopCtrl_keeps (maskSub hF rfl) ?_
      assumption
    · refine Keeps.ite ?_ ?_
      · refine State.loopChanged_keeps (maskSub hF rfl) ?_
        refine State.plainWrite_keeps (maskSub hF rfl) ?_
        assumption
      · refine State.plainWrite_keeps (maskSub hF rfl) ?_
        assumption

theorem State.applySol_keeps {F : Nat} {a s : State} {x1 x2} (hF : F ||| 58769416 = F) (h : Keeps F a s) :
    Keeps F a (State.applySol s x1 x2) := by
  unfold State.applySol
  split
  · refine State.askRelease_keeps (maskSub hF rfl) ?_
    assumption
  · refine State.isoReset_keeps (maskSub hF rfl) ?_
    assumption
  · refine State.submit_keeps (maskSub hF rfl) ?_
    assumption

theorem State.applyBank_keeps {F : Nat} {a s : State} {x1 x2} (hF : F ||| 125878280 = F) (h : Keeps F a s) :
    Keeps F a (State.applyBank s x1 x2) := by
  unfold State.applyBank
  refine Keeps.ite ?_ ?_
  · refine State.isoResults_keeps (maskSub hF rfl) ?_
    refine State.cutBank_keeps (maskSub hF rfl) ?_
    assumption
  · refine Keeps.ite ?_ ?_
    · refine State.tryReclose_keeps (maskSub hF rfl) ?_
      refine State.free_keeps (maskSub hF rfl) ?_
      assumption
    · assumption

theorem State.applyAct_keeps {F : Nat} {a s : State} {x1 x2} (hF : F ||| 125947912 = F) (h : Keeps F a s) :
    Keeps F a (State.applyAct s x1 x2) := by
  unfold State.applyAct
  extract_lets +onlyGivenNames -underBinder -merge y0
  try clear_value y0
  refine Keeps.ite ?_ ?_
  · extract_lets +onlyGivenNames -underBinder -merge y1
    try clear_value y1
    split
    · refine State.driveObjects_keeps (maskSub hF rfl) ?_
      refine State.pumpConfigured_keeps (maskSub hF rfl) ?_
      refine State.plainWrite_keeps (maskSub hF rfl) ?_
      assumption
    · refine State.pumpCmd_keeps (maskSub hF rfl) ?_
      assumption
    · refine State.writeLock_keeps (maskSub hF rfl) ?_
      assumption
    · refine State.plainWrite_keeps (maskSub hF rfl) ?_
      assumption
  · refine Keeps.ite ?_ ?_
    · refine State.writeLock_keeps (maskSub hF rfl) ?_
      assumption
    · refine Keeps.ite ?_ ?_
      · extract_lets +onlyGivenNames -underBinder -merge y2
        try clear_value y2
        split
        · refine State.applySol_keeps (maskSub hF rfl) ?_
          assumption
        · refine State.writeLock_keeps (maskSub hF rfl) ?_
          assumption
        · refine State.plainWrite_keeps (maskSub hF rfl) ?_
          assumption
      · refine Keeps.ite ?_ ?_
        · refine State.applyBank_keeps (maskSub hF rfl) ?_
          assumption
        · refine Keeps.ite ?_ ?_
          · extract_lets +onlyGivenNames -underBinder -merge y3
            try clear_value y3
            split
            · refine State.fanRetry_keeps (maskSub hF rfl) ?_
              assumption
            · refine State.writeLock_keeps (maskSub hF rfl) ?_
              assumption
            · refine State.plainWrite_keeps (maskSub hF rfl) ?_
              assumption
          · refine Keeps.ite ?_ ?_
            · refine State.writeDemand_keeps (maskSub hF rfl) ?_
              assumption
            · refine Keeps.ite ?_ ?_
              · refine State.spareCmd_keeps (maskSub hF rfl) ?_
                assumption
              · refine Keeps.ite ?_ ?_
                · refine State.writeInput_keeps (maskSub hF rfl) ?_
                  assumption
                · refine State.plainWrite_keeps (maskSub hF rfl) ?_
                  assumption

theorem State.applyPrt_keeps {F : Nat} {a s : State} {x1 x2} (hF : F ||| 58757128 = F) (h : Keeps F a s) :
    Keeps F a (State.applyPrt s x1 x2) := by
  unfold State.applyPrt
  extract_lets +onlyGivenNames -underBinder -merge y0
  try clear_value y0
  refine Keeps.ite ?_ ?_
  · refine State.protAck_keeps (maskSub hF rfl) ?_
    assumption
  · refine Keeps.ite ?_ ?_
    · refine State.writeLimCfg_keeps (maskSub hF rfl) ?_
      assumption
    · refine State.plainWrite_keeps (maskSub hF rfl) ?_
      assumption

theorem State.applyPai_keeps {F : Nat} {a s : State} {x1 x2} (hF : F ||| 127796798 = F) (h : Keeps F a s) :
    Keeps F a (State.applyPai s x1 x2) := by
  unfold State.applyPai
  refine Keeps.ite ?_ ?_
  · refine State.writeWarm_keeps (maskSub hF rfl) ?_
    assumption
  · refine Keeps.ite ?_ ?_
    · refine State.swapGo_keeps (maskSub hF rfl) ?_
      assumption
    · refine Keeps.ite ?_ ?_
      · refine State.readPartner_keeps (maskSub hF rfl) ?_
        assumption
      · refine Keeps.ite ?_ ?_
        · refine Keeps.ite ?_ ?_
          · refine State.lsEnter_keeps (maskSub hF rfl) ?_
            refine State.free_keeps (maskSub hF rfl) ?_
            assumption
          · refine Keeps.ite ?_ ?_
            · refine State.lsLeave_keeps (maskSub hF rfl) ?_
              assumption
            · assumption
        · refine Keeps.ite ?_ ?_
          · refine State.judgeFed_keeps (maskSub hF rfl) ?_
            refine State.plainWrite_keeps (maskSub hF rfl) ?_
            assumption
          · refine Keeps.ite ?_ ?_
            · assumption
            · refine State.plainWrite_keeps (maskSub hF rfl) ?_
              assumption

theorem State.applySec_keeps {F : Nat} {a s : State} {x1 x2} (hF : F ||| 50331704 = F) (h : Keeps F a s) :
    Keeps F a (State.applySec s x1 x2) := by
  unfold State.applySec
  extract_lets +onlyGivenNames -underBinder -merge y0
  try clear_value y0
  refine Keeps.ite ?_ ?_
  · refine State.fwCommand_keeps (maskSub hF rfl) ?_
    assumption
  · refine Keeps.ite ?_ ?_
    · refine State.enrol_keeps (maskSub hF rfl) ?_
      assumption
    · refine Keeps.ite ?_ ?_
      · refine State.programKey_keeps (maskSub hF rfl) ?_
        assumption
      · refine State.plainWrite_keeps (maskSub hF rfl) ?_
        assumption

theorem State.applyFrn_keeps {F : Nat} {a s : State} {x1 x2 x3} (hF : F ||| 50331648 = F) (h : Keeps F a s) :
    Keeps F a (State.applyFrn s x1 x2 x3) := by
  unfold State.applyFrn
  extract_lets +onlyGivenNames -underBinder -merge y0
  try clear_value y0
  refine Keeps.ite ?_ ?_
  · refine Keeps.upd_firn (maskSub hF rfl) (FirnStep.of_eq rfl rfl rfl rfl rfl) ?_
    assumption
  · refine Keeps.ite ?_ ?_
    · extract_lets +onlyGivenNames -underBinder -merge y1
      have hy1 : Keeps F a y1 := by
        unfold y1
        refine State.plainWrite_keeps (maskSub hF rfl) ?_
        assumption
      try clear_value y1
      refine State.setCredit_keeps (maskSub hF rfl) ?_
      assumption
    · refine Keeps.ite ?_ ?_
      · extract_lets +onlyGivenNames -underBinder -merge y2
        have hy2 : Keeps F a y2 := by
          unfold y2
          refine State.plainWrite_keeps (maskSub hF rfl) ?_
          assumption
        try clear_value y2
        refine Keeps.ite ?_ ?_
        · refine State.latchWindow_keeps (maskSub hF rfl) ?_
          assumption
        · assumption
      · refine State.plainWrite_keeps (maskSub hF rfl) ?_
        assumption

theorem State.applyDia_keeps {F : Nat} {a s : State} {x1 x2} (hF : F ||| 117440512 = F) (h : Keeps F a s) :
    Keeps F a (State.applyDia s x1 x2) := by
  unfold State.applyDia
  refine Keeps.ite ?_ ?_
  · refine State.eccTest_keeps (maskSub hF rfl) ?_
    refine State.free_keeps (maskSub hF rfl) ?_
    assumption
  · refine Keeps.ite ?_ ?_
    · refine State.latchDigest_keeps (maskSub hF rfl) ?_
      refine State.plainWrite_keeps (maskSub hF rfl) ?_
      assumption
    · refine State.plainWrite_keeps (maskSub hF rfl) ?_
      assumption

theorem State.applyWord_keeps {F : Nat} {a s : State} {x1 x2 x3} (hF : F ||| 132120511 = F) (h : Keeps F a s) :
    Keeps F a (State.applyWord s x1 x2 x3).1 := by
  unfold State.applyWord
  split
  · refine wroteOk_keeps (maskSub hF rfl) ?_
    refine State.plainWrite_keeps (maskSub hF rfl) ?_
    assumption
  · split
    · refine wroteOk_keeps (maskSub hF rfl) ?_
      refine State.applySys_keeps (maskSub hF rfl) ?_
      assumption
    · refine State.applyTim_keeps (maskSub hF rfl) ?_
      assumption
    · refine wroteOk_keeps (maskSub hF rfl) ?_
      refine State.applyStm_keeps (maskSub hF rfl) ?_
      assumption
    · refine wroteOk_keeps (maskSub hF rfl) ?_
      refine State.applyIce_keeps (maskSub hF rfl) ?_
      assumption
    · refine wroteOk_keeps (maskSub hF rfl) ?_
      refine State.applyTbl_keeps (maskSub hF rfl) ?_
      assumption
    · refine State.applyPln_keeps (maskSub hF rfl) ?_
      assumption
    · refine wroteOk_keeps (maskSub hF rfl) ?_
      refine State.applyLop_keeps (maskSub hF rfl) ?_
      assumption
    · refine wroteOk_keeps (maskSub hF rfl) ?_
      refine State.applyAct_keeps (maskSub hF rfl) ?_
      assumption
    · refine wroteOk_keeps (maskSub hF rfl) ?_
      refine State.applyPrt_keeps (maskSub hF rfl) ?_
      assumption
    · refine wroteOk_keeps (maskSub hF rfl) ?_
      refine State.writeCan_keeps (maskSub hF rfl) ?_
      assumption
    · refine wroteOk_keeps (maskSub hF rfl) ?_
      refine State.applyPai_keeps (maskSub hF rfl) ?_
      assumption
    · refine wroteOk_keeps (maskSub hF rfl) ?_
      refine State.applySec_keeps (maskSub hF rfl) ?_
      assumption
    · refine wroteOk_keeps (maskSub hF rfl) ?_
      refine State.applyFrn_keeps (maskSub hF rfl) ?_
      assumption
    · refine wroteOk_keeps (maskSub hF rfl) ?_
      refine State.applyDia_keeps (maskSub hF rfl) ?_
      assumption
    · refine wroteOk_keeps (maskSub hF rfl) ?_
      refine State.plainWrite_keeps (maskSub hF rfl) ?_
      assumption

theorem State.writeWord_keeps {F : Nat} {a s : State} {x1 x2 x3} (hF : F ||| 132120511 = F) (h : Keeps F a s) :
    Keeps F a (State.writeWord s x1 x2 x3).1 := by
  unfold State.writeWord
  split
  · refine State.applyWord_keeps (maskSub hF rfl) ?_
    assumption
  · split
    · refine wroteOk_keeps (maskSub hF rfl) ?_
      assumption
    · split
      · refine wroteOk_keeps (maskSub hF rfl) ?_
        refine State.plainWrite_keeps (maskSub hF rfl) ?_
        assumption
      · split
        · refine wroteOk_keeps (maskSub hF rfl) ?_
          refine Keeps.upd_wlow (maskSub hF rfl) ?_
          assumption
        · extract_lets +onlyGivenNames -underBinder -merge y0
          try clear_value y0
          extract_lets +onlyGivenNames -underBinder -merge y1
          have hy1 : Keeps F a y1 := by
            unfold y1
            refine Keeps.foldl ?_ ?_
            · assumption
            · intro x3 x4 h2
              beta_reduce
              split
              · extract_lets +onlyGivenNames -underBinder -merge y5
                have hy5 : Keeps F a y5 := by
                  unfold y5
                  refine State.applyWord_keeps (maskSub hF rfl) ?_
                  assumption
                try clear_value y5
                refine Keeps.upd_wlow (maskSub hF rfl) ?_
                assumption
              · assumption
          try clear_value y1
          refine State.applyWord_keeps (maskSub hF rfl) ?_
          assumption

theorem State.applyWaiting_keeps {F : Nat} {a s : State} (hF : F ||| 132120575 = F) (h : Keeps F a s) :
    Keeps F a (State.applyWaiting s) := by
  unfold State.applyWaiting
  refine Keeps.foldl ?_ ?_
  · refine Keeps.upd_waitWrites (maskSub hF rfl) ?_
    assumption
  · intro x1 x2 h0
    beta_reduce
    refine State.writeWord_keeps (maskSub hF rfl) ?_
    assumption

theorem State.ahead_keeps {F : Nat} {a s : State} (hF : F ||| 33554432 = F) (h : Keeps F a s) :
    Keeps F a (State.ahead s) := by
  unfold State.ahead
  refine Keeps.foldl ?_ ?_
  · assumption
  · intro x1 x2 h0
    beta_reduce
    refine State.plainWrite_keeps (maskSub hF rfl) ?_
    assumption

theorem State.putWord_keeps {F : Nat} {a s : State} {x1 x2 x3} (hF : F ||| 132120575 = F) (h : Keeps F a s) :
    Keeps F a (State.putWord s x1 x2 x3).1 := by
  unfold State.putWord
  split
  · refine wroteOk_keeps (maskSub hF rfl) ?_
    refine Keeps.upd_waitWrites (maskSub hF rfl) ?_
    assumption
  · refine State.writeWord_keeps (maskSub hF rfl) ?_
    assumption

theorem WriteRun.state_keeps {F : Nat} {a : State} {x0} (hF : F ||| 0 = F) (h : Keeps F a x0.state) :
    Keeps F a (WriteRun.state x0) := by
  unfold WriteRun.state
  assumption

theorem WriteRun.word_keeps {F : Nat} {a : State} {x0 x1 x2 x3} (hF : F ||| 132120575 = F) (h : Keeps F a x2.state) :
    Keeps F a (WriteRun.word x0 x1 x2 x3).state := by
  unfold WriteRun.word
  split
  · assumption
  · split
    · refine Keeps.run ?_
      refine State.busFail_keeps (maskSub hF rfl) ?_
      assumption
    · split
      · refine Keeps.run ?_
        refine State.raise_keeps (maskSub hF rfl) ?_
        assumption
      · extract_lets +onlyGivenNames -underBinder -merge y0
        have hy01 : Keeps F a y0.1 := by
          unfold y0
          refine State.putWord_keeps (maskSub hF rfl) ?_
          assumption
        try clear_value y0
        extract_lets +onlyGivenNames -underBinder -merge y1
        have hy1s : Keeps F a y1.state := by
          unfold y1
          refine Keeps.run ?_
          assumption
        try clear_value y1
        split
        · assumption
        · refine Keeps.run ?_
          assumption

theorem State.writeRun_keeps {F : Nat} {a s : State} {x1 x2 x3} (hF : F ||| 132120575 = F) (h : Keeps F a s) :
    Keeps F a (State.writeRun s x1 x2 x3).state := by
  unfold State.writeRun
  refine Keeps.foldlOn WriteRun.state ?_ ?_
  · refine Keeps.run ?_
    assumption
  · intro x1 x2 h0
    beta_reduce
    refine WriteRun.word_keeps (maskSub hF rfl) ?_
    assumption

theorem judgeRegwr_keeps {F : Nat} {a s : State} {x0 x1 x2 x3} (hF : F ||| 132120575 = F)  :
    JudgeKeeps F a (judgeRegwr x0 x1 x2 x3 s) := by
  unfold judgeRegwr
  extract_lets +onlyGivenNames -underBinder -merge y0
  try clear_value y0
  extract_lets +onlyGivenNames -underBinder -merge y1
  try clear_value y1
  refine JudgeKeeps.mk ?_
  intro x3 x4 h2
  beta_reduce
  extract_lets +onlyGivenNames -underBinder -merge y5
  have hy5s : Keeps F a y5.state := by
    unfold y5
    refine State.writeRun_keeps (maskSub hF rfl) ?_
    assumption
  try clear_value y5
  refine Keeps.p1 ?_
  assumption

theorem execRegwr_keeps {F : Nat} {a s : State} {x0 x1 x2 x3} (hF : F ||| 132120575 = F) (h : Keeps F a s) :
    ∃ t, execRegwr x0 x1 x2 x3 s = .next t ∧ Keeps F a t := by
  refine ⟨_, rfl, ?_⟩
  refine State.request_keeps (maskSub hF rfl) ?_ ?_
  · assumption
  · intro _ _
    beta_reduce
    refine judgeRegwr_keeps (maskSub hF rfl)

theorem execRegisterWrite_keeps {F : Nat} {a s : State} {x0 x1 x2} (hF : F ||| 132120575 = F) (h : Keeps F a s) :
    ∃ t, execRegisterWrite x0 x1 x2 s = .next t ∧ Keeps F a t := by
  refine ⟨_, rfl, ?_⟩
  split
  · refine State.send_keeps (maskSub hF rfl) ?_
    refine State.denied_keeps (maskSub hF rfl) ?_
    assumption
  · extract_lets +onlyGivenNames -underBinder -merge y0
    have hy0 : Keeps F a y0 := by
      unfold y0
      refine Keeps.foldl ?_ ?_
      · assumption
      · intro x2 x3 h1
        beta_reduce
        refine State.renewLease_keeps (maskSub hF rfl) ?_
        assumption
    try clear_value y0
    extract_lets +onlyGivenNames -underBinder -merge y4
    have hy4s : Keeps F a y4.state := by
      unfold y4
      refine State.writeRun_keeps (maskSub hF rfl) ?_
      assumption
    try clear_value y4
    refine State.send_keeps (maskSub hF rfl) ?_
    assumption

/-! ### Deferral -/

theorem heldJudge_keeps {F : Nat} {a : State} {c : Instr} {q : Req} {j : Nat → State → Judge} (hF : F ||| 134217727 = F)
    (h : heldJudge c = some (q, j)) : ∀ k s, JudgeKeeps F a (j k s) := by
  intro k s
  unfold heldJudge at h
  split at h <;> cases h
  · exact judgeClose_keeps (maskSub hF rfl)
  · exact judgePing_keeps (maskSub hF rfl)
  · exact judgeSubscribe_keeps (maskSub hF rfl)
  · exact judgeAttest_keeps (maskSub hF rfl)
  · exact judgeClaim_keeps (maskSub hF rfl)
  · exact judgeRenew_keeps (maskSub hF rfl)
  · exact judgeRelease_keeps (maskSub hF rfl)
  · exact judgeHandover_keeps (maskSub hF rfl)
  · exact judgeQuery_keeps (maskSub hF rfl)
  · exact judgeRegrd_keeps (maskSub hF rfl)
  · exact judgeRegwr_keeps (maskSub hF rfl)
  · exact judgeStateReq_keeps (maskSub hF rfl)
  · exact judgeStateReq_keeps (maskSub hF rfl)
  · exact judgeStateReq_keeps (maskSub hF rfl)
  · exact judgeStateReq_keeps (maskSub hF rfl)
  · exact judgeStateReq_keeps (maskSub hF rfl)
  · exact judgeFcExit_keeps (maskSub hF rfl)
  · exact judgeAck_keeps (maskSub hF rfl)
  · exact judgeSetpoint_keeps (maskSub hF rfl)
  · exact judgeActionAdd_keeps (maskSub hF rfl)
  · exact judgeActionCancel_keeps (maskSub hF rfl)
  · exact judgePhase_keeps (maskSub hF rfl)
  · exact judgeStepMark_keeps (maskSub hF rfl)
  · exact judgeJobSet_keeps (maskSub hF rfl)
  · exact judgeJobSet_keeps (maskSub hF rfl)
  · exact judgeJobSet_keeps (maskSub hF rfl)
  · exact judgeCeilSet_keeps (maskSub hF rfl)
  · exact judgeCeilClear_keeps (maskSub hF rfl)
  · exact judgeXferOpen_keeps (maskSub hF rfl)
  · exact judgeXferRead_keeps (maskSub hF rfl)
  · exact judgeXferDelete_keeps (maskSub hF rfl)
  · exact judgeStoreAttach_keeps (maskSub hF rfl)
  · exact judgeStoreDetach_keeps (maskSub hF rfl)

theorem State.runHeld_keeps {F : Nat} {a s : State} {x1 x2 x3} (hF : F ||| 134217727 = F) (h : Keeps F a s) :
    Keeps F a (State.runHeld s x1 x2 x3) := by
  unfold State.runHeld
  refine Keeps.ite h ?_
  split
  · exact h
  · exact State.rerun_keeps (maskSub hF rfl) h (heldJudge_keeps (maskSub hF rfl) ‹_› _ _)

theorem execDeferredExecute_keeps {F : Nat} {a s : State} {x0 x1} (hF : F ||| 134217727 = F) (h : Keeps F a s) :
    ∃ t, execDeferredExecute x0 x1 s = .next t ∧ Keeps F a t := by
  refine ⟨_, rfl, ?_⟩
  split
  · assumption
  · refine Keeps.ite ?_ ?_
    · assumption
    · refine State.runHeld_keeps (maskSub hF rfl) ?_
      assumption

theorem State.heldTick_keeps {F : Nat} {a s : State} (hF : F ||| 134217727 = F) (h : Keeps F a s) :
    Keeps F a (State.heldTick s) := by
  unfold State.heldTick
  refine Keeps.ite ?_ ?_
  · assumption
  · refine Keeps.foldl ?_ ?_
    · assumption
    · intro x1 x2 h0
      beta_reduce
      split
      · refine State.applyStateReqs_keeps (maskSub hF rfl) ?_
        refine State.runHeld_keeps (maskSub hF rfl) ?_
        assumption
      · assumption

theorem State.runOut_keeps {F : Nat} {a s : State} (hF : F ||| 125830184 = F) (h : Keeps F a s) :
    Keeps F a (State.runOut s) := by
  unfold State.runOut
  extract_lets +onlyGivenNames -underBinder -merge y0
  have hy0 : Keeps F a y0 := by
    unfold y0
    refine Keeps.foldl ?_ ?_
    · assumption
    · intro x2 x3 h1
      beta_reduce
      refine State.expireLease_keeps (maskSub hF rfl) ?_
      refine State.lapseOffer_keeps (maskSub hF rfl) ?_
      assumption
  try clear_value y0
  extract_lets +onlyGivenNames -underBinder -merge y4
  have hy4 : Keeps F a y4 := by
    unfold y4
    refine Keeps.foldl ?_ ?_
    · assumption
    · intro x6 x7 h5
      beta_reduce
      refine State.timeoutOpening_keeps (maskSub hF rfl) ?_
      refine State.timeoutSession_keeps (maskSub hF rfl) ?_
      assumption
  try clear_value y4
  extract_lets +onlyGivenNames -underBinder -merge y8
  have hy8 : Keeps F a y8 := by
    unfold y8
    refine Keeps.foldl ?_ ?_
    · assumption
    · intro x10 x11 h9
      beta_reduce
      refine State.quarTick_keeps (maskSub hF rfl) ?_
      assumption
  try clear_value y8
  extract_lets +onlyGivenNames -underBinder -merge y12
  have hy12 : Keeps F a y12 := by
    unfold y12
    refine Keeps.ite ?_ ?_
    · assumption
    · refine Keeps.foldl ?_ ?_
      · assumption
      · intro x14 x15 h13
        beta_reduce
        refine Keeps.foldl ?_ ?_
        · assumption
        · intro x17 x18 h16
          beta_reduce
          refine State.timeoutHeld_keeps (maskSub hF rfl) ?_
          assumption
  try clear_value y12
  extract_lets +onlyGivenNames -underBinder -merge y19
  have hy19 : Keeps F a y19 := by
    unfold y19
    refine Keeps.foldl ?_ ?_
    · assumption
    · intro x21 x22 h20
      beta_reduce
      refine State.expireObj_keeps (maskSub hF rfl) ?_
      assumption
  try clear_value y19
  refine State.secRunOut_keeps (maskSub hF rfl) ?_
  refine Keeps.foldl ?_ ?_
  · assumption
  · intro x24 x25 h23
    beta_reduce
    refine State.retryDevice_keeps (maskSub hF rfl) ?_
    assumption

end Sys2Proof.Machine
end

