-- ==== Sys2Proof/Laws/KeepsSys.lean ====
section
/-! SUPPORT. What each operation and each command of the recorder, power and the tick may change, as `Keeps` says it. -/

namespace Sys2Proof.Machine

/-! ### Recorder -/

theorem State.summarise_keeps {F : Nat} {a s : State} {x1} (hF : F ||| 50331648 = F) (h : Keeps F a s) :
    Keeps F a (State.summarise s x1) := by
  unfold State.summarise
  extract_lets +onlyGivenNames -underBinder -merge y0
  try clear_value y0
  extract_lets +onlyGivenNames -underBinder -merge y1
  have hy1 : Keeps F a y1 := by
    unfold y1
    refine State.count_keeps (maskSub hF rfl) ?_
    refine State.set_keeps (maskSub hF rfl) ?_
    refine State.takeToken_keeps (maskSub hF rfl) ?_
    assumption
  try clear_value y1
  refine Keeps.upd_firn (maskSub hF rfl) (FirnStep.of_eq rfl rfl rfl rfl rfl) ?_
  assumption

theorem State.writeRecord_keeps {F : Nat} {a s : State} {x1} (hF : F ||| 54525952 = F) (h : Keeps F a s) :
    Keeps F a (State.writeRecord s x1) := by
  unfold State.writeRecord
  extract_lets +onlyGivenNames -underBinder -merge y0
  have e0 : y0.seq = s.firn.seq := rfl
  extract_lets +onlyGivenNames -underBinder -merge y1
  have e1 : y1.firn = s.firn := by
    unfold y1 State.requestSnapshot
    split
    · dsimp only
      split <;> rfl
    · rfl
  have hy1 : Keeps F a y1 := Keeps.ite (State.requestSnapshot_keeps (maskSub hF rfl) h) h
  extract_lets +onlyGivenNames -underBinder -merge y2 y3
  have hy3 : Keeps F a y3 := Keeps.upd_firn (maskSub hF rfl) (FirnStep.written (e0.trans (congrArg Firn.seq e1).symm)) hy1
  try clear_value y3
  extract_lets +onlyGivenNames -underBinder -merge y4
  have hy4 : Keeps F a y4 := State.count_keeps (maskSub hF rfl) hy3
  try clear_value y4
  exact Keeps.ite (State.raise_keeps (maskSub hF rfl) hy4) hy4

theorem State.loseRecords_keeps {F : Nat} {a s : State} {x1} (hF : F ||| 50331648 = F) (h : Keeps F a s) :
    Keeps F a (State.loseRecords s x1) := by
  unfold State.loseRecords
  split
  · assumption
  · extract_lets +onlyGivenNames -underBinder -merge y0
    extract_lets +onlyGivenNames -underBinder -merge y1
    have hy1 : Keeps F a y1 := by
      unfold y1
      refine Keeps.upd_firn (maskSub hF rfl) (FirnStep.of_eq rfl rfl rfl rfl rfl) ?_
      assumption
    try clear_value y1
    refine Keeps.foldl ?_ ?_
    · refine State.mark_keeps (maskSub hF rfl) ?_
      refine State.countBy_keeps (maskSub hF rfl) ?_
      assumption
    · intro x3 x4 h2
      beta_reduce
      refine State.occur_keeps (maskSub hF rfl) ?_
      assumption

theorem State.writeWindow_keeps {F : Nat} {a s : State} (hF : F ||| 54525952 = F) (h : Keeps F a s) :
    Keeps F a (State.writeWindow s) := by
  unfold State.writeWindow
  extract_lets +onlyGivenNames -underBinder -merge y0
  have hy0 : Keeps F a y0 := by
    unfold y0
    refine Keeps.foldl ?_ ?_
    · assumption
    · intro x2 x3 h1
      beta_reduce
      refine State.summarise_keeps (maskSub hF rfl) ?_
      assumption
  try clear_value y0
  extract_lets +onlyGivenNames -underBinder -merge y4
  try clear_value y4
  extract_lets +onlyGivenNames -underBinder -merge y5
  have hy5 : Keeps F a y5 := by
    unfold y5
    refine Keeps.ite ?_ ?_
    · assumption
    · refine State.count_keeps (maskSub hF rfl) ?_
      assumption
  try clear_value y5
  extract_lets +onlyGivenNames -underBinder -merge y6
  extract_lets +onlyGivenNames -underBinder -merge y7
  have hy7 : Keeps F a y7 := by
    unfold y7
    refine Keeps.upd_firn (maskSub hF rfl) (FirnStep.of_eq rfl rfl rfl rfl rfl) ?_
    assumption
  try clear_value y7
  extract_lets +onlyGivenNames -underBinder -merge y8
  have hy8 : Keeps F a y8 := by
    unfold y8
    refine Keeps.foldl ?_ ?_
    · assumption
    · intro x10 x11 h9
      beta_reduce
      refine State.writeRecord_keeps (maskSub hF rfl) ?_
      assumption
  try clear_value y8
  refine State.loseRecords_keeps (maskSub hF rfl) ?_
  assumption

/-! ### Sys -/

theorem State.keptFields_keeps {F : Nat} {a s : State} {s2 x2} (hF : F ||| 33554432 = F) (h : Keeps F a s) :
    Keeps F a (State.keptFields s s2 x2) := by
  unfold State.keptFields
  extract_lets +onlyGivenNames -underBinder -merge y0
  have hy0 : Keeps F a y0 := by
    unfold y0
    refine Keeps.foldl ?_ ?_
    · assumption
    · intro x2 x3 h1
      beta_reduce
      refine State.set_keeps (maskSub hF rfl) ?_
      refine State.set_keeps (maskSub hF rfl) ?_
      assumption
  try clear_value y0
  extract_lets +onlyGivenNames -underBinder -merge y4
  have hy4 : Keeps F a y4 := by
    unfold y4
    refine Keeps.foldl ?_ ?_
    · assumption
    · intro x6 x7 h5
      beta_reduce
      refine State.set_keeps (maskSub hF rfl) ?_
      assumption
  try clear_value y4
  extract_lets +onlyGivenNames -underBinder -merge y8
  have hy8 : Keeps F a y8 := by
    unfold y8
    refine State.set_keeps (maskSub hF rfl) ?_
    assumption
  try clear_value y8
  extract_lets +onlyGivenNames -underBinder -merge y9
  try clear_value y9
  refine Keeps.ite ?_ ?_
  · refine Keeps.foldl ?_ ?_
    · assumption
    · intro x11 x12 h10
      beta_reduce
      refine State.set_keeps (maskSub hF rfl) ?_
      assumption
  · assumption

theorem State.firnAfterLoss_keeps {F : Nat} {a s : State} (hF : F ||| 83886080 = F) (h : Keeps F a s) :
    Keeps F a (State.firnAfterLoss s) := by
  unfold State.firnAfterLoss
  extract_lets +onlyGivenNames -underBinder -merge y0 y1 y2 y3 y4
  have k : Keeps F a { s with firn := y4 } := Keeps.upd_firn (maskSub hF rfl) (FirnStep.lost rfl rfl rfl rfl rfl) h
  exact Keeps.upd_fresh (s := { s with firn := y4 }) (maskSub hF rfl) (Nat.le_add_right _ _) k

theorem State.forgetSpares_keeps {F : Nat} {a s : State} (hF : F ||| 34619392 = F) (h : Keeps F a s) :
    Keeps F a (State.forgetSpares s) := by
  unfold State.forgetSpares
  refine Keeps.ite ?_ ?_
  · assumption
  · extract_lets +onlyGivenNames -underBinder -merge y0
    try clear_value y0
    extract_lets +onlyGivenNames -underBinder -merge y1
    try clear_value y1
    extract_lets +onlyGivenNames -underBinder -merge y2
    try clear_value y2
    extract_lets +onlyGivenNames -underBinder -merge y3
    have hy3 : Keeps F a y3 := by
      unfold y3
      refine Keeps.upd (s := s) ?_ id rfl le_rfl List.suffix_rfl le_rfl (FirnStep.refl _)
         (.inr rfl) (.inr rfl) (.inr rfl) (.inr rfl) (.inr rfl) (.inr rfl) (.inr rfl) (.inr rfl) (.inr rfl) (.inr rfl) (.inr rfl) (.inr rfl)
         (.inr rfl) (.inr rfl) (.inl (maskSub hF rfl)) (.inr rfl) (.inr rfl) (.inr rfl) (.inr rfl) (.inr rfl) (.inl (maskSub hF rfl)) (.inr rfl)
         (.inr rfl) (.inr rfl) (.inr rfl) (.inr rfl) (.inr rfl)
      assumption
    try clear_value y3
    refine Keeps.foldl ?_ ?_
    · assumption
    · intro x5 x6 h4
      beta_reduce
      refine Keeps.ite ?_ ?_
      · refine State.set_keeps (maskSub hF rfl) ?_
        assumption
      · assumption

theorem restart_tail {F : Nat} {s : State} (hF : F ||| 134217727 = F) (y1 : State) (keep : Bool) (wear : List (Nat × Word))
    (e1 : y1.pending = s.pending) (e2 : y1.out = s.out) (e3 : y1.fresh = s.fresh) (e4 : y1.clk.now = s.clk.now)
    (e5 : regsWf s.regs = true → regsWf y1.regs = true) :
    Keeps F s
      (let r := wear.foldl (fun (r : State) p => r.wr p.1 p.2) (y1.keptFields s keep)
       let r := r.tablesReset
       let r := ((r.applyRepairs 0).applyRepairs 1).applyRepairs 2
       if keep then { r with firn := s.firn.afterReset } else ({ r with firn := s.firn }).firnAfterLoss) := by
  extract_lets +onlyGivenNames -underBinder -merge y2 y3 y4
  have hy2 : Keeps F y1 y2 := Keeps.foldl (State.keptFields_keeps (maskSub hF rfl) (Keeps.refl F y1)) (fun t x ht => State.wr_keeps (maskSub hF rfl) ht)
  try clear_value y2
  have hy3 : Keeps F y1 y3 := State.tablesReset_keeps (maskSub hF rfl) hy2
  try clear_value y3
  have hy4 : Keeps F y1 y4 := State.applyRepairs_keeps (maskSub hF rfl) (State.applyRepairs_keeps (maskSub hF rfl) (State.applyRepairs_keeps (maskSub hF rfl) hy3))
  try clear_value y4
  have m (n : Nat) (k : 134217727 ||| n = 134217727) : F ||| n = F := maskSub hF k
  have end_ (f : Firn) (hf : FirnStep s.firn f) : Keeps F s { y4 with firn := f } :=
    ⟨fun x => hy4.wf (e5 x), hy4.pending.trans e1, e3 ▸ hy4.freshLe, e2 ▸ hy4.sent, e4 ▸ hy4.now, hf,
     .inl (m _ rfl), .inl (m _ rfl), .inl (m _ rfl), .inl (m _ rfl), .inl (m _ rfl), .inl (m _ rfl), .inl (m _ rfl), .inl (m _ rfl), .inl (m _ rfl),
     .inl (m _ rfl), .inl (m _ rfl), .inl (m _ rfl), .inl (m _ rfl), .inl (m _ rfl), .inl (m _ rfl), .inl (m _ rfl), .inl (m _ rfl), .inl (m _ rfl),
     .inl (m _ rfl), .inl (m _ rfl), .inl (m _ rfl), .inl (m _ rfl), .inl (m _ rfl), .inl (m _ rfl), .inl (m _ rfl), .inl (m _ rfl), .inl (m _ rfl)⟩
  split
  · exact end_ _ (FirnStep.of_eq rfl rfl rfl rfl rfl)
  · exact State.firnAfterLoss_keeps (maskSub hF rfl) (end_ _ (FirnStep.refl _))

theorem State.restart_keeps {F : Nat} {a s : State} {x1 x2} (hF : F ||| 134217727 = F) (h : Keeps F a s) :
    Keeps F a (State.restart s x1 x2) := by
  unfold State.restart
  extract_lets +onlyGivenNames -underBinder -merge y0
  have hy0 : Keeps F a y0 := State.forgetSpares_keeps (maskSub hF rfl) (State.forgetRetirements_keeps (maskSub hF rfl) h)
  try clear_value y0
  exact hy0.trans (restart_tail hF _ _ _ rfl rfl rfl rfl (regsWf_filter _ _))

theorem State.logicOff_keeps {F : Nat} {a s : State} (hF : F ||| 134217727 = F) (h : Keeps F a s) :
    Keeps F a (State.logicOff s) := by
  unfold State.logicOff
  refine State.restart_keeps (maskSub hF rfl) ?_
  assumption

theorem State.sampleStraps_keeps {F : Nat} {a s : State} {x1} (hF : F ||| 16 = F) (h : Keeps F a s) :
    Keeps F a (State.sampleStraps s x1) := by
  unfold State.sampleStraps
  refine State.setSys_keeps (maskSub hF rfl) ?_
  assumption

theorem execPowerOn_keeps {F : Nat} {a s : State} {x0} (hF : F ||| 50331696 = F) (h : Keeps F a s) :
    ∃ t, execPowerOn x0 s = .next t ∧ Keeps F a t := by
  refine ⟨_, rfl, ?_⟩
  refine Keeps.ite ?_ ?_
  · extract_lets +onlyGivenNames -underBinder -merge y0
    try clear_value y0
    extract_lets +onlyGivenNames -underBinder -merge y1
    try clear_value y1
    extract_lets +onlyGivenNames -underBinder -merge y2
    have hy2 : Keeps F a y2 := by
      unfold y2
      refine State.sampleStraps_keeps (maskSub hF rfl) ?_
      refine State.setSys_keeps (maskSub hF rfl) ?_
      assumption
    try clear_value y2
    refine State.tellLow_keeps (maskSub hF rfl) ?_
    refine Keeps.upd_sec (maskSub hF rfl) ?_
    assumption
  · assumption

theorem execModuleResetInput_keeps {F : Nat} {a s : State} (hF : F ||| 134217727 = F) (h : Keeps F a s) :
    ∃ t, execModuleResetInput s = .next t ∧ Keeps F a t := by
  refine ⟨_, rfl, ?_⟩
  refine Keeps.ite ?_ ?_
  · refine Keeps.ite ?_ ?_
    · refine State.logicOff_keeps (maskSub hF rfl) ?_
      assumption
    · extract_lets +onlyGivenNames -underBinder -merge y0
      have hy0 : Keeps F a y0 := by
        unfold y0
        refine State.restart_keeps (maskSub hF rfl) ?_
        assumption
      try clear_value y0
      refine State.setSys_keeps (maskSub hF rfl) ?_
      assumption
  · assumption

theorem execModuleResetRelease_keeps {F : Nat} {a s : State} {x0} (hF : F ||| 16 = F) (h : Keeps F a s) :
    ∃ t, execModuleResetRelease x0 s = .next t ∧ Keeps F a t := by
  refine ⟨_, rfl, ?_⟩
  refine Keeps.ite ?_ ?_
  · refine State.sampleStraps_keeps (maskSub hF rfl) ?_
    refine State.setSys_keeps (maskSub hF rfl) ?_
    assumption
  · assumption

theorem execModuleInsert_keeps {F : Nat} {a s : State} (hF : F ||| 16 = F) (h : Keeps F a s) :
    ∃ t, execModuleInsert s = .next t ∧ Keeps F a t := by
  refine ⟨_, rfl, ?_⟩
  refine Keeps.ite ?_ ?_
  · assumption
  · refine State.setSys_keeps (maskSub hF rfl) ?_
    assumption

theorem execModuleWithdraw_keeps {F : Nat} {a s : State} (hF : F ||| 134217727 = F) (h : Keeps F a s) :
    ∃ t, execModuleWithdraw s = .next t ∧ Keeps F a t := by
  refine ⟨_, rfl, ?_⟩
  refine Keeps.ite ?_ ?_
  · extract_lets +onlyGivenNames -underBinder -merge y0
    have hy0 : Keeps F a y0 := by
      unfold y0
      refine State.logicOff_keeps (maskSub hF rfl) ?_
      assumption
    try clear_value y0
    refine State.setSys_keeps (maskSub hF rfl) ?_
    assumption
  · assumption

theorem State.loseInput_keeps {F : Nat} {a s : State} {x1} (hF : F ||| 50331648 = F) (h : Keeps F a s) :
    Keeps F a (State.loseInput s x1) := by
  unfold State.loseInput
  refine State.raise_keeps (maskSub hF rfl) ?_
  refine State.set_keeps (maskSub hF rfl) ?_
  assumption

theorem State.regainInput_keeps {F : Nat} {a s : State} {x1} (hF : F ||| 33554448 = F) (h : Keeps F a s) :
    Keeps F a (State.regainInput s x1) := by
  unfold State.regainInput
  extract_lets +onlyGivenNames -underBinder -merge y0
  have hy0 : Keeps F a y0 := by
    unfold y0
    refine State.set_keeps (maskSub hF rfl) ?_
    assumption
  try clear_value y0
  refine State.setSys_keeps (maskSub hF rfl) ?_
  assumption

theorem State.judgeInput_keeps {F : Nat} {a s : State} {x1 x2} (hF : F ||| 50331664 = F) (h : Keeps F a s) :
    Keeps F a (State.judgeInput s x1 x2) := by
  unfold State.judgeInput
  extract_lets +onlyGivenNames -underBinder -merge y0
  have hy0 : Keeps F a y0 := by
    unfold y0
    refine State.set_keeps (maskSub hF rfl) ?_
    assumption
  try clear_value y0
  refine Keeps.ite ?_ ?_
  · assumption
  · refine Keeps.ite ?_ ?_
    · refine State.regainInput_keeps (maskSub hF rfl) ?_
      assumption
    · refine State.loseInput_keeps (maskSub hF rfl) ?_
      assumption

theorem execLogicInputLost_keeps {F : Nat} {a s : State} {x0 x1} (hF : F ||| 50331664 = F) (h : Keeps F a s) :
    ∃ t, execLogicInputLost x0 x1 s = .next t ∧ Keeps F a t := by
  refine ⟨_, rfl, ?_⟩
  refine Keeps.ite ?_ ?_
  · refine State.judgeInput_keeps (maskSub hF rfl) ?_
    assumption
  · assumption

theorem execLogicInputRestored_keeps {F : Nat} {a s : State} {x0 x1} (hF : F ||| 50331664 = F) (h : Keeps F a s) :
    ∃ t, execLogicInputRestored x0 x1 s = .next t ∧ Keeps F a t := by
  refine ⟨_, rfl, ?_⟩
  refine Keeps.ite ?_ ?_
  · refine State.judgeInput_keeps (maskSub hF rfl) ?_
    assumption
  · assumption

theorem execLogicPowerFail_keeps {F : Nat} {a s : State} (hF : F ||| 134217727 = F) (h : Keeps F a s) :
    ∃ t, execLogicPowerFail s = .next t ∧ Keeps F a t := by
  refine ⟨_, rfl, ?_⟩
  refine Keeps.ite ?_ ?_
  · refine Keeps.ite ?_ ?_
    · extract_lets +onlyGivenNames -underBinder -merge y0
      have hy0 : Keeps F a y0 := by
        unfold y0
        refine State.set_keeps (maskSub hF rfl) ?_
        refine State.set_keeps (maskSub hF rfl) ?_
        assumption
      try clear_value y0
      refine State.setSys_keeps (maskSub hF rfl) ?_
      assumption
    · refine State.logicOff_keeps (maskSub hF rfl) ?_
      assumption
  · assumption

theorem State.judgeSupply_keeps {F : Nat} {a s : State} (hF : F ||| 50331648 = F) (h : Keeps F a s) :
    Keeps F a (State.judgeSupply s) := by
  unfold State.judgeSupply
  extract_lets +onlyGivenNames -underBinder -merge y0
  try clear_value y0
  extract_lets +onlyGivenNames -underBinder -merge y1
  try clear_value y1
  refine Keeps.ite ?_ ?_
  · assumption
  · extract_lets +onlyGivenNames -underBinder -merge y2
    try clear_value y2
    extract_lets +onlyGivenNames -underBinder -merge y3
    try clear_value y3
    extract_lets +onlyGivenNames -underBinder -merge y4
    have hy4 : Keeps F a y4 := by
      unfold y4
      refine State.set_keeps (maskSub hF rfl) ?_
      refine State.setB_keeps (maskSub hF rfl) ?_
      refine State.setB_keeps (maskSub hF rfl) ?_
      assumption
    try clear_value y4
    refine Keeps.ite ?_ ?_
    · assumption
    · refine State.raise_keeps (maskSub hF rfl) ?_
      assumption

theorem execActuatorSupplyChange_keeps {F : Nat} {a s : State} (hF : F ||| 50331648 = F) (h : Keeps F a s) :
    ∃ t, execActuatorSupplyChange s = .next t ∧ Keeps F a t := by
  refine ⟨_, rfl, ?_⟩
  refine Keeps.ite ?_ ?_
  · refine State.judgeSupply_keeps (maskSub hF rfl) ?_
    assumption
  · assumption

theorem execFieldSupplyLimit_keeps {F : Nat} {a s : State} {x0} (hF : F ||| 50331664 = F) (h : Keeps F a s) :
    ∃ t, execFieldSupplyLimit x0 s = .next t ∧ Keeps F a t := by
  refine ⟨_, rfl, ?_⟩
  refine Keeps.ite ?_ ?_
  · extract_lets +onlyGivenNames -underBinder -merge y0
    have hy0 : Keeps F a y0 := by
      unfold y0
      refine State.raise_keeps (maskSub hF rfl) ?_
      refine State.set_keeps (maskSub hF rfl) ?_
      refine State.set_keeps (maskSub hF rfl) ?_
      assumption
    try clear_value y0
    refine State.setSys_keeps (maskSub hF rfl) ?_
    assumption
  · assumption

theorem State.restoreLoads_keeps {F : Nat} {a s : State} (hF : F ||| 33554448 = F) (h : Keeps F a s) :
    Keeps F a (State.restoreLoads s) := by
  unfold State.restoreLoads
  refine Keeps.ite ?_ ?_
  · extract_lets +onlyGivenNames -underBinder -merge y0
    have hy0 : Keeps F a y0 := by
      unfold y0
      refine State.set_keeps (maskSub hF rfl) ?_
      assumption
    try clear_value y0
    refine State.setSys_keeps (maskSub hF rfl) ?_
    assumption
  · assumption

theorem execFieldSupplyRestore_keeps {F : Nat} {a s : State} {x0} (hF : F ||| 33554448 = F) (h : Keeps F a s) :
    ∃ t, execFieldSupplyRestore x0 s = .next t ∧ Keeps F a t := by
  refine ⟨_, rfl, ?_⟩
  refine Keeps.ite ?_ ?_
  · refine State.restoreLoads_keeps (maskSub hF rfl) ?_
    refine State.set_keeps (maskSub hF rfl) ?_
    assumption
  · assumption

theorem State.supplyRunOut_keeps {F : Nat} {a s : State} (hF : F ||| 50331664 = F) (h : Keeps F a s) :
    Keeps F a (State.supplyRunOut s) := by
  unfold State.supplyRunOut
  refine State.restoreLoads_keeps (maskSub hF rfl) ?_
  refine State.judgeSupply_keeps (maskSub hF rfl) ?_
  assumption

theorem execStrapChange_keeps {F : Nat} {a s : State} {x0} (hF : F ||| 50331664 = F) (h : Keeps F a s) :
    ∃ t, execStrapChange x0 s = .next t ∧ Keeps F a t := by
  refine ⟨_, rfl, ?_⟩
  refine Keeps.ite ?_ ?_
  · assumption
  · extract_lets +onlyGivenNames -underBinder -merge y0
    try clear_value y0
    extract_lets +onlyGivenNames -underBinder -merge y1
    have hy1 : Keeps F a y1 := by
      unfold y1
      refine State.setSys_keeps (maskSub hF rfl) ?_
      assumption
    try clear_value y1
    refine Keeps.ite ?_ ?_
    · refine State.raise_keeps (maskSub hF rfl) ?_
      assumption
    · assumption

theorem execSelChange_keeps {F : Nat} {a s : State} {x0} (hF : F ||| 33685520 = F) (h : Keeps F a s) :
    ∃ t, execSelChange x0 s = .next t ∧ Keeps F a t := by
  refine ⟨_, rfl, ?_⟩
  extract_lets +onlyGivenNames -underBinder -merge y0
  have hy0 : Keeps F a y0 := by
    unfold y0
    refine State.setB_keeps (maskSub hF rfl) ?_
    refine State.setB_keeps (maskSub hF rfl) ?_
    assumption
  try clear_value y0
  refine Keeps.ite ?_ ?_
  · refine State.setPair_keeps (maskSub hF rfl) ?_
    assumption
  · refine State.setSys_keeps (maskSub hF rfl) ?_
    assumption

theorem State.readHarness_keeps {F : Nat} {a s : State} {x1} (hF : F ||| 33554432 = F) (h : Keeps F a s) :
    Keeps F a (State.readHarness s x1) := by
  unfold State.readHarness
  extract_lets +onlyGivenNames -underBinder -merge y0
  have hy0 : Keeps F a y0 := by
    unfold y0
    refine State.wr_keeps (maskSub hF rfl) ?_
    refine State.wr_keeps (maskSub hF rfl) ?_
    refine State.wr_keeps (maskSub hF rfl) ?_
    refine State.wr_keeps (maskSub hF rfl) ?_
    assumption
  try clear_value y0
  extract_lets +onlyGivenNames -underBinder -merge y1
  have hy1 : Keeps F a y1 := by
    unfold y1
    split
    · assumption
    · refine State.set_keeps (maskSub hF rfl) ?_
      assumption
    · extract_lets +onlyGivenNames -underBinder -merge y2
      have hy2 : Keeps F a y2 := by
        unfold y2
        refine State.set_keeps (maskSub hF rfl) ?_
        assumption
      try clear_value y2
      refine Keeps.ite ?_ ?_
      · refine State.set_keeps (maskSub hF rfl) ?_
        assumption
      · refine Keeps.ite ?_ ?_
        · assumption
        · extract_lets +onlyGivenNames -underBinder -merge y3
          have hy3 : Keeps F a y3 := by
            unfold y3
            refine State.set_keeps (maskSub hF rfl) ?_
            assumption
          try clear_value y3
          extract_lets +onlyGivenNames -underBinder -merge y4
          have hy4 : Keeps F a y4 := by
            unfold y4
            refine State.set_keeps (maskSub hF rfl) ?_
            refine State.set_keeps (maskSub hF rfl) ?_
            refine State.set_keeps (maskSub hF rfl) ?_
            assumption
          try clear_value y4
          refine State.wr_keeps (maskSub hF rfl) ?_
          refine State.wr_keeps (maskSub hF rfl) ?_
          assumption
  try clear_value y1
  refine State.showMatch_keeps (maskSub hF rfl) ?_
  assumption

theorem execHarnessChange_keeps {F : Nat} {a s : State} {x0 x1 x2} (hF : F ||| 50331664 = F) (h : Keeps F a s) :
    ∃ t, execHarnessChange x0 x1 x2 s = .next t ∧ Keeps F a t := by
  refine ⟨_, rfl, ?_⟩
  extract_lets +onlyGivenNames -underBinder -merge y0
  try clear_value y0
  extract_lets +onlyGivenNames -underBinder -merge y1
  have hy1 : Keeps F a y1 := by
    unfold y1
    refine State.setSys_keeps (maskSub hF rfl) ?_
    assumption
  try clear_value y1
  refine Keeps.ite ?_ ?_
  · refine State.raise_keeps (maskSub hF rfl) ?_
    refine State.readHarness_keeps (maskSub hF rfl) ?_
    assumption
  · assumption

theorem execOpticPresent_keeps {F : Nat} {a s : State} {x0 x1} (hF : F ||| 33554432 = F) (h : Keeps F a s) :
    ∃ t, execOpticPresent x0 x1 s = .next t ∧ Keeps F a t := by
  refine ⟨_, rfl, ?_⟩
  refine Keeps.ite ?_ ?_
  · refine State.set_keeps (maskSub hF rfl) ?_
    assumption
  · assumption

theorem State.endTrials_keeps {F : Nat} {a s : State} {x1} (hF : F ||| 50331648 = F) (h : Keeps F a s) :
    Keeps F a (State.endTrials s x1) := by
  unfold State.endTrials
  refine Keeps.foldl ?_ ?_
  · assumption
  · intro x1 x2 h0
    beta_reduce
    refine Keeps.ite ?_ ?_
    · refine State.raise_keeps (maskSub hF rfl) ?_
      refine State.set_keeps (maskSub hF rfl) ?_
      assumption
    · assumption

theorem State.bootPart_keeps {F : Nat} {a s : State} {x1 x2 x3} (hF : F ||| 50331648 = F) (h : Keeps F a s) :
    KeepsOpt F a (State.bootPart s x1 x2 x3) := by
  unfold State.bootPart
  extract_lets +onlyGivenNames -underBinder -merge y0
  have hy0 : Keeps F a y0 := by
    unfold y0
    refine State.endTrials_keeps (maskSub hF rfl) ?_
    assumption
  try clear_value y0
  refine KeepsOpt.map ?_
  intro _
  beta_reduce
  extract_lets +onlyGivenNames -underBinder -merge y1
  have hy1 : Keeps F a y1 := by
    unfold y1
    refine Keeps.ite ?_ ?_
    · refine State.bump_keeps (maskSub hF rfl) ?_
      assumption
    · assumption
  try clear_value y1
  extract_lets +onlyGivenNames -underBinder -merge y2
  try clear_value y2
  extract_lets +onlyGivenNames -underBinder -merge y3
  have hy3 : Keeps F a y3 := by
    unfold y3
    refine State.set_keeps (maskSub hF rfl) ?_
    refine State.set_keeps (maskSub hF rfl) ?_
    assumption
  try clear_value y3
  extract_lets +onlyGivenNames -underBinder -merge y4
  have hy4 : Keeps F a y4 := by
    unfold y4
    refine State.set_keeps (maskSub hF rfl) ?_
    assumption
  try clear_value y4
  refine State.wr_keeps (maskSub hF rfl) ?_
  assumption

theorem State.startLevels_keeps {F : Nat} {a s : State} (hF : F ||| 33554432 = F) (h : Keeps F a s) :
    Keeps F a (State.startLevels s) := by
  unfold State.startLevels
  extract_lets +onlyGivenNames -underBinder -merge y0
  try clear_value y0
  extract_lets +onlyGivenNames -underBinder -merge y1
  have hy1 : Keeps F a y1 := by
    unfold y1
    refine State.set_keeps (maskSub hF rfl) ?_
    refine State.set_keeps (maskSub hF rfl) ?_
    assumption
  try clear_value y1
  extract_lets +onlyGivenNames -underBinder -merge y2
  try clear_value y2
  extract_lets +onlyGivenNames -underBinder -merge y3
  have hy3 : Keeps F a y3 := by
    unfold y3
    refine State.set_keeps (maskSub hF rfl) ?_
    refine State.set_keeps (maskSub hF rfl) ?_
    assumption
  try clear_value y3
  refine State.set_keeps (maskSub hF rfl) ?_
  refine State.set_keeps (maskSub hF rfl) ?_
  assumption

theorem State.enterBoot_keeps {F : Nat} {a s : State} (hF : F ||| 125870104 = F) (h : Keeps F a s) :
    Keeps F a (State.enterBoot s) := by
  unfold State.enterBoot
  extract_lets +onlyGivenNames -underBinder -merge y0
  try clear_value y0
  extract_lets +onlyGivenNames -underBinder -merge y1
  have hy1 : Keeps F a y1 := by
    unfold y1
    refine State.setSys_keeps (maskSub hF rfl) ?_
    assumption
  try clear_value y1
  extract_lets +onlyGivenNames -underBinder -merge y2
  have hy2 : Keeps F a y2 := by
    unfold y2
    refine State.occur_keeps (maskSub hF rfl) ?_
    assumption
  try clear_value y2
  extract_lets +onlyGivenNames -underBinder -merge y3
  have hy3 : Keeps F a y3 := by
    unfold y3
    refine State.startLevels_keeps (maskSub hF rfl) ?_
    refine State.setB_keeps (maskSub hF rfl) ?_
    assumption
  try clear_value y3
  extract_lets +onlyGivenNames -underBinder -merge y4
  have hy4 : Keeps F a y4 := by
    unfold y4
    refine State.set_keeps (maskSub hF rfl) ?_
    refine State.set_keeps (maskSub hF rfl) ?_
    refine State.set_keeps (maskSub hF rfl) ?_
    refine State.set_keeps (maskSub hF rfl) ?_
    assumption
  try clear_value y4
  extract_lets +onlyGivenNames -underBinder -merge y5
  have hy52 : Keeps F a y5.2 := by
    unfold y5
    refine State.free_keeps (maskSub hF rfl) ?_
    assumption
  try clear_value y5
  extract_lets +onlyGivenNames -underBinder -merge y6
  have hy6 : Keeps F a y6 := by
    unfold y6
    refine State.setB_keeps (maskSub hF rfl) ?_
    assumption
  try clear_value y6
  extract_lets +onlyGivenNames -underBinder -merge y7
  have hy7 : Keeps F a y7 := by
    unfold y7
    refine State.enter_keeps (maskSub hF rfl) ?_
    assumption
  try clear_value y7
  extract_lets +onlyGivenNames -underBinder -merge y8
  have hy8 : Keeps F a y8 := by
    unfold y8
    refine Keeps.foldl ?_ ?_
    · assumption
    · intro x10 x11 h9
      beta_reduce
      refine State.readHarness_keeps (maskSub hF rfl) ?_
      assumption
  try clear_value y8
  extract_lets +onlyGivenNames -underBinder -merge y12
  have hy12 : Keeps F a y12 := by
    unfold y12
    refine State.judgeRecord_keeps (maskSub hF rfl) ?_
    refine State.restoreLoops_keeps (maskSub hF rfl) ?_
    assumption
  try clear_value y12
  extract_lets +onlyGivenNames -underBinder -merge y13
  have hy13 : Keeps F a y13 := by
    unfold y13
    refine Keeps.foldl ?_ ?_
    · assumption
    · intro x15 x16 h14
      beta_reduce
      refine State.checkPos_keeps (maskSub hF rfl) ?_
      assumption
  try clear_value y13
  refine State.judgeTick_keeps (maskSub hF rfl) ?_
  assumption

theorem execSeracBootVerifyDone_keeps {F : Nat} {a s : State} {x0 x1 x2} (hF : F ||| 125870104 = F) (h : Keeps F a s) :
    ∃ t, execSeracBootVerifyDone x0 x1 x2 s = .next t ∧ Keeps F a t := by
  refine ⟨_, rfl, ?_⟩
  refine Keeps.ite ?_ ?_
  · split
    · rename_i p0 e1
      have hp0 : Keeps F a p0 := by
        refine KeepsOpt.of e1 ?_
        refine State.bootPart_keeps (maskSub hF rfl) ?_
        assumption
      refine State.enterBoot_keeps (maskSub hF rfl) ?_
      assumption
    · refine State.endTrials_keeps (maskSub hF rfl) ?_
      assumption
  · assumption

theorem execPortDieBootDone_keeps {F : Nat} {a s : State} {x0 x1} (hF : F ||| 125829168 = F) (h : Keeps F a s) :
    ∃ t, execPortDieBootDone x0 x1 s = .next t ∧ Keeps F a t := by
  refine ⟨_, rfl, ?_⟩
  refine Keeps.ite ?_ ?_
  · extract_lets +onlyGivenNames -underBinder -merge y0
    have hy0 : Keeps F a y0 := by
      unfold y0
      split
      · refine State.endTrials_keeps (maskSub hF rfl) ?_
        assumption
      · rename_i p3 e4
        have hp3 : Keeps F a p3 := by
          refine KeepsOpt.of e4 ?_
          refine State.bootPart_keeps (maskSub hF rfl) ?_
          assumption
        extract_lets +onlyGivenNames -underBinder -merge y5
        try clear_value y5
        extract_lets +onlyGivenNames -underBinder -merge y6
        have hy6 : Keeps F a y6 := by
          unfold y6
          refine State.setSys_keeps (maskSub hF rfl) ?_
          assumption
        try clear_value y6
        extract_lets +onlyGivenNames -underBinder -merge y7
        have hy72 : Keeps F a y7.2 := by
          unfold y7
          refine State.random_keeps (maskSub hF rfl) ?_
          assumption
        try clear_value y7
        extract_lets +onlyGivenNames -underBinder -merge y8
        have hy8 : Keeps F a y8 := by
          unfold y8
          assumption
        try clear_value y8
        extract_lets +onlyGivenNames -underBinder -merge y9
        try clear_value y9
        extract_lets +onlyGivenNames -underBinder -merge y10
        have hy10 : Keeps F a y10 := by
          unfold y10
          refine Keeps.upd_sec (maskSub hF rfl) ?_
          assumption
        try clear_value y10
        refine State.startExchanges_keeps (maskSub hF rfl) ?_
        assumption
    try clear_value y0
    refine Keeps.ite ?_ ?_
    · assumption
    · refine State.releaseMain_keeps (maskSub hF rfl) ?_
      assumption
  · assumption

theorem execMainDieBootDone_keeps {F : Nat} {a s : State} {x0 x1} (hF : F ||| 50332176 = F) (h : Keeps F a s) :
    ∃ t, execMainDieBootDone x0 x1 s = .next t ∧ Keeps F a t := by
  refine ⟨_, rfl, ?_⟩
  refine Keeps.ite ?_ ?_
  · split
    · refine State.endTrials_keeps (maskSub hF rfl) ?_
      assumption
    · rename_i p2 e3
      have hp2 : Keeps F a p2 := by
        refine KeepsOpt.of e3 ?_
        refine State.bootPart_keeps (maskSub hF rfl) ?_
        assumption
      extract_lets +onlyGivenNames -underBinder -merge y4
      try clear_value y4
      extract_lets +onlyGivenNames -underBinder -merge y5
      have hy5 : Keeps F a y5 := by
        unfold y5
        refine State.setSys_keeps (maskSub hF rfl) ?_
        assumption
      try clear_value y5
      split
      · refine Keeps.ite ?_ ?_
        · refine State.loadRecord_keeps (maskSub hF rfl) ?_
          assumption
        · assumption
      · assumption
  · assumption

theorem State.resolveActive_keeps {F : Nat} {a s : State} (hF : F ||| 58900504 = F) (h : Keeps F a s) :
    Keeps F a (State.resolveActive s) := by
  unfold State.resolveActive
  extract_lets +onlyGivenNames -underBinder -merge y0
  have hy0 : Keeps F a y0 := by
    unfold y0
    refine State.set_keeps (maskSub hF rfl) ?_
    assumption
  try clear_value y0
  extract_lets +onlyGivenNames -underBinder -merge y1
  try clear_value y1
  extract_lets +onlyGivenNames -underBinder -merge y2
  have hy2 : Keeps F a y2 := by
    unfold y2
    refine State.setSys_keeps (maskSub hF rfl) ?_
    assumption
  try clear_value y2
  refine State.leaveBoot_keeps (maskSub hF rfl) ?_
  refine State.judgeTick_keeps (maskSub hF rfl) ?_
  refine State.takeRow_keeps (maskSub hF rfl) ?_
  refine State.takeOutputs_keeps (maskSub hF rfl) ?_
  assumption

theorem State.resolveStandby_keeps {F : Nat} {a s : State} (hF : F ||| 59770430 = F) (h : Keeps F a s) :
    Keeps F a (State.resolveStandby s) := by
  unfold State.resolveStandby
  extract_lets +onlyGivenNames -underBinder -merge y0
  have hy0 : Keeps F a y0 := by
    unfold y0
    refine State.set_keeps (maskSub hF rfl) ?_
    assumption
  try clear_value y0
  extract_lets +onlyGivenNames -underBinder -merge y1
  try clear_value y1
  extract_lets +onlyGivenNames -underBinder -merge y2
  have hy2 : Keeps F a y2 := by
    unfold y2
    refine State.setSys_keeps (maskSub hF rfl) ?_
    assumption
  try clear_value y2
  extract_lets +onlyGivenNames -underBinder -merge y3
  have hy3 : Keeps F a y3 := by
    unfold y3
    refine State.enter_keeps (maskSub hF rfl) ?_
    assumption
  try clear_value y3
  extract_lets +onlyGivenNames -underBinder -merge y4
  have hy4 : Keeps F a y4 := by
    unfold y4
    split
    · refine Keeps.ite ?_ ?_
      · refine State.set_keeps (maskSub hF rfl) ?_
        assumption
      · assumption
    · assumption
  try clear_value y4
  extract_lets +onlyGivenNames -underBinder -merge y5
  have hy5 : Keeps F a y5 := by
    unfold y5
    refine Keeps.ite ?_ ?_
    · refine State.powerMainDown_keeps (maskSub hF rfl) ?_
      assumption
    · assumption
  try clear_value y5
  refine State.judgeTick_keeps (maskSub hF rfl) ?_
  assumption

theorem execRoleResolve_keeps {F : Nat} {a s : State} (hF : F ||| 59950654 = F) (h : Keeps F a s) :
    ∃ t, execRoleResolve s = .next t ∧ Keeps F a t := by
  refine ⟨_, rfl, ?_⟩
  refine Keeps.ite ?_ ?_
  · refine Keeps.ite ?_ ?_
    · refine State.resolveActive_keeps (maskSub hF rfl) ?_
      assumption
    · refine State.resolveStandby_keeps (maskSub hF rfl) ?_
      assumption
  · assumption

theorem State.withdraw_keeps {F : Nat} {a s : State} {x1} (hF : F ||| 134217727 = F) (h : Keeps F a s) :
    Keeps F a (State.withdraw s x1) := by
  unfold State.withdraw
  refine Keeps.ite ?_ ?_
  · extract_lets +onlyGivenNames -underBinder -merge y0
    try clear_value y0
    extract_lets +onlyGivenNames -underBinder -merge y1
    have hy1 : Keeps F a y1 := by
      unfold y1
      refine State.setSys_keeps (maskSub hF rfl) ?_
      assumption
    try clear_value y1
    extract_lets +onlyGivenNames -underBinder -merge y2
    have hy2 : Keeps F a y2 := by
      unfold y2
      refine State.writeWindow_keeps (maskSub hF rfl) ?_
      refine State.count_keeps (maskSub hF rfl) ?_
      refine State.raise_keeps (maskSub hF rfl) ?_
      assumption
    try clear_value y2
    extract_lets +onlyGivenNames -underBinder -merge y3
    have hy3 : Keeps F a y3 := by
      unfold y3
      refine State.restart_keeps (maskSub hF rfl) ?_
      assumption
    try clear_value y3
    refine State.sampleStraps_keeps (maskSub hF rfl) ?_
    assumption
  · assumption

theorem execSplit_keeps {F : Nat} {a s : State} (hF : F ||| 134217727 = F) (h : Keeps F a s) :
    ∃ t, execSplit s = .next t ∧ Keeps F a t := by
  refine ⟨_, rfl, ?_⟩
  refine State.withdraw_keeps (maskSub hF rfl) ?_
  assumption

/-! ### Tick -/

theorem State.latchPeer_keeps {F : Nat} {a s : State} {x1} (hF : F ||| 33685504 = F) (h : Keeps F a s) :
    Keeps F a (State.latchPeer s x1) := by
  unfold State.latchPeer
  extract_lets +onlyGivenNames -underBinder -merge y0
  try clear_value y0
  extract_lets +onlyGivenNames -underBinder -merge y1
  have hy1 : Keeps F a y1 := by
    unfold y1
    refine State.setB_keeps (maskSub hF rfl) ?_
    assumption
  try clear_value y1
  refine Keeps.ite ?_ ?_
  · refine State.setPair_keeps (maskSub hF rfl) ?_
    assumption
  · refine Keeps.ite ?_ ?_
    · refine State.setPair_keeps (maskSub hF rfl) ?_
      assumption
    · assumption

theorem State.applyLatch_keeps {F : Nat} {a s : State} {x1} (hF : F ||| 50483216 = F) (h : Keeps F a s) :
    Keeps F a (State.applyLatch s x1) := by
  unfold State.applyLatch
  split
  · refine State.latchInput_keeps (maskSub hF rfl) ?_
    assumption
  · refine State.wr_keeps (maskSub hF rfl) ?_
    assumption
  · refine State.latchFlt_keeps (maskSub hF rfl) ?_
    assumption
  · refine State.latchValve_keeps (maskSub hF rfl) ?_
    assumption
  · refine State.set_keeps (maskSub hF rfl) ?_
    assumption
  · refine State.latchFan_keeps (maskSub hF rfl) ?_
    assumption
  · refine State.latchTach_keeps (maskSub hF rfl) ?_
    assumption
  · refine State.judgeInput_keeps (maskSub hF rfl) ?_
    refine State.judgeInput_keeps (maskSub hF rfl) ?_
    assumption
  · extract_lets +onlyGivenNames -underBinder -merge y0
    have hy0 : Keeps F a y0 := by
      unfold y0
      refine State.set_keeps (maskSub hF rfl) ?_
      refine State.set_keeps (maskSub hF rfl) ?_
      assumption
    try clear_value y0
    extract_lets +onlyGivenNames -underBinder -merge y1
    try clear_value y1
    refine Keeps.upd_acts (maskSub hF rfl) ?_
    assumption
  · extract_lets +onlyGivenNames -underBinder -merge y2
    have hy2 : Keeps F a y2 := by
      unfold y2
      refine State.set_keeps (maskSub hF rfl) ?_
      assumption
    try clear_value y2
    refine State.setSys_keeps (maskSub hF rfl) ?_
    assumption
  · extract_lets +onlyGivenNames -underBinder -merge y3
    try clear_value y3
    extract_lets +onlyGivenNames -underBinder -merge y4
    have hy4 : Keeps F a y4 := by
      unfold y4
      refine State.set_keeps (maskSub hF rfl) ?_
      refine State.set_keeps (maskSub hF rfl) ?_
      assumption
    try clear_value y4
    refine Keeps.ite ?_ ?_
    · refine State.raise_keeps (maskSub hF rfl) ?_
      assumption
    · assumption
  · extract_lets +onlyGivenNames -underBinder -merge y5
    try clear_value y5
    extract_lets +onlyGivenNames -underBinder -merge y6
    have hy6 : Keeps F a y6 := by
      unfold y6
      refine State.set_keeps (maskSub hF rfl) ?_
      refine State.set_keeps (maskSub hF rfl) ?_
      assumption
    try clear_value y6
    refine Keeps.ite ?_ ?_
    · refine State.raise_keeps (maskSub hF rfl) ?_
      assumption
    · assumption
  · refine State.setB_keeps (maskSub hF rfl) ?_
    assumption
  · refine State.latchPeer_keeps (maskSub hF rfl) ?_
    assumption

theorem State.passTime_keeps {F : Nat} {a s : State} (hF : F ||| 4194305 = F) (h : Keeps F a s) :
    Keeps F a (State.passTime s) := by
  unfold State.passTime
  refine Keeps.ite ?_ ?_
  · refine Keeps.upd_clk (maskSub hF rfl) le_rfl ?_
    assumption
  · extract_lets +onlyGivenNames -underBinder -merge y0
    try clear_value y0
    refine Keeps.upd (s := s) ?_ id rfl le_rfl List.suffix_rfl le_rfl (FirnStep.refl _)
       (.inl (maskSub hF rfl)) (.inr rfl) (.inr rfl) (.inr rfl) (.inr rfl) (.inr rfl) (.inr rfl) (.inr rfl) (.inr rfl) (.inr rfl) (.inr rfl)
       (.inr rfl) (.inr rfl) (.inr rfl) (.inr rfl) (.inr rfl) (.inr rfl) (.inr rfl) (.inr rfl) (.inr rfl) (.inr rfl) (.inr rfl)
       (.inl (maskSub hF rfl)) (.inr rfl) (.inr rfl) (.inr rfl) (.inr rfl)
    assumption

theorem State.advance_keeps {F : Nat} {a s : State} {x1} (hF : F ||| 4194321 = F) (h : Keeps F a s) :
    Keeps F a (State.advance s x1) := by
  unfold State.advance
  extract_lets +onlyGivenNames -underBinder -merge y0
  have hy0 : Keeps F a y0 := State.passTime_keeps (maskSub hF rfl) h
  try clear_value y0
  exact State.setSys_keeps (maskSub hF rfl) (Keeps.upd_clk (maskSub hF rfl) (Nat.le_succ _) hy0)

theorem State.jobsTick_keeps {F : Nat} {a s : State} (hF : F ||| 50331650 = F) (h : Keeps F a s) :
    Keeps F a (State.jobsTick s) := by
  unfold State.jobsTick
  extract_lets +onlyGivenNames -underBinder -merge y0
  try clear_value y0
  extract_lets +onlyGivenNames -underBinder -merge y1
  have hy1 : Keeps F a y1 := by
    unfold y1
    refine State.tickJobs_keeps (maskSub hF rfl) ?_
    assumption
  try clear_value y1
  refine Keeps.ite ?_ ?_
  · assumption
  · refine Keeps.foldl ?_ ?_
    · assumption
    · intro x3 x4 h2
      beta_reduce
      extract_lets +onlyGivenNames -underBinder -merge y5
      try clear_value y5
      refine Keeps.ite ?_ ?_
      · refine Keeps.elim ?_ (fun _ => ?_)
        · assumption
        · refine State.latePhase_keeps (maskSub hF rfl) ?_
          assumption
      · assumption

theorem State.followMark_keeps {F : Nat} {a s : State} {x1 x2} (hF : F ||| 63884604 = F) (h : Keeps F a s) :
    Keeps F a (State.followMark s x1 x2) := by
  unfold State.followMark
  split
  · refine Keeps.ite ?_ ?_
    · refine State.jumpIndex_keeps (maskSub hF rfl) ?_
      assumption
    · assumption
  · assumption

theorem State.pairRunOut_keeps {F : Nat} {a s : State} (hF : F ||| 59113508 = F) (h : Keeps F a s) :
    Keeps F a (State.pairRunOut s) := by
  unfold State.pairRunOut
  refine Keeps.ite ?_ ?_
  · refine State.repeatRow_keeps (maskSub hF rfl) ?_
    assumption
  · extract_lets +onlyGivenNames -underBinder -merge y0
    have hy0 : Keeps F a y0 := by
      unfold y0
      refine State.judgePeer_keeps (maskSub hF rfl) ?_
      refine State.judgePartner_keeps (maskSub hF rfl) ?_
      refine State.offerReady_keeps (maskSub hF rfl) ?_
      refine State.sendHeartbeat_keeps (maskSub hF rfl) ?_
      assumption
    try clear_value y0
    extract_lets +onlyGivenNames -underBinder -merge y1
    have hy1 : Keeps F a y1 := by
      unfold y1
      refine Keeps.foldl ?_ ?_
      · assumption
      · intro x3 x4 h2
        beta_reduce
        refine State.cancelBar_keeps (maskSub hF rfl) ?_
        assumption
    try clear_value y1
    refine State.gapEnds_keeps (maskSub hF rfl) ?_
    refine State.staleImage_keeps (maskSub hF rfl) ?_
    refine State.timeoutPeek_keeps (maskSub hF rfl) ?_
    refine State.repeatRow_keeps (maskSub hF rfl) ?_
    assumption

theorem State.edgeBase_keeps {F : Nat} {a s : State} {x1} (hF : F ||| 132120575 = F) (h : Keeps F a s) :
    Keeps F a (State.edgeBase s x1) := by
  unfold State.edgeBase
  refine State.followMark_keeps (maskSub hF rfl) ?_
  refine State.settleCancels_keeps (maskSub hF rfl) ?_
  refine State.applyWaiting_keeps (maskSub hF rfl) ?_
  refine State.jobsTick_keeps (maskSub hF rfl) ?_
  refine State.takeoverNow_keeps (maskSub hF rfl) ?_
  refine State.advance_keeps (maskSub hF rfl) ?_
  refine State.supplyRunOut_keeps (maskSub hF rfl) ?_
  refine State.firnRunOut_keeps (maskSub hF rfl) ?_
  refine State.fedRunOut_keeps (maskSub hF rfl) ?_
  refine State.pairRunOut_keeps (maskSub hF rfl) ?_
  refine State.canRunOut_keeps (maskSub hF rfl) ?_
  refine State.runOut_keeps (maskSub hF rfl) ?_
  assumption

theorem State.edgeTo_keeps {F : Nat} {a s : State} {x1} (hF : F ||| 132120575 = F) (h : Keeps F a s) :
    Keeps F a (State.edgeTo s x1) := by
  unfold State.edgeTo
  refine State.commitNow_keeps (maskSub hF rfl) ?_
  refine State.deadlineNow_keeps (maskSub hF rfl) ?_
  refine State.fireDue_keeps (maskSub hF rfl) ?_
  refine State.snapshotNow_keeps (maskSub hF rfl) ?_
  refine State.applyClear_keeps (maskSub hF rfl) ?_
  refine State.freeNow_keeps (maskSub hF rfl) ?_
  refine State.secondNow_keeps (maskSub hF rfl) ?_
  refine State.reanchorNow_keeps (maskSub hF rfl) ?_
  refine State.anchorNow_keeps (maskSub hF rfl) ?_
  refine State.edgeBase_keeps (maskSub hF rfl) ?_
  assumption

theorem State.edge_keeps {F : Nat} {a s : State} (hF : F ||| 132120575 = F) (h : Keeps F a s) :
    Keeps F a (State.edge s) := by
  unfold State.edge
  refine State.edgeTo_keeps (maskSub hF rfl) ?_
  assumption

theorem State.mainBoundary_keeps {F : Nat} {a s : State} (hF : F ||| 127141416 = F) (h : Keeps F a s) :
    Keeps F a (State.mainBoundary s) := by
  unfold State.mainBoundary
  refine Keeps.ite ?_ ?_
  · assumption
  · refine Keeps.ite ?_ ?_
    · extract_lets +onlyGivenNames -underBinder -merge y0
      try clear_value y0
      extract_lets +onlyGivenNames -underBinder -merge y1
      try clear_value y1
      extract_lets +onlyGivenNames -underBinder -merge y2
      have hy2 : Keeps F a y2 := by
        unfold y2
        refine State.wr_keeps (maskSub hF rfl) ?_
        refine State.wr_keeps (maskSub hF rfl) ?_
        refine Keeps.upd_ice (maskSub hF rfl) ?_
        assumption
      try clear_value y2
      extract_lets +onlyGivenNames -underBinder -merge y3
      have hy3 : Keeps F a y3 := by
        unfold y3
        refine State.tablesBoundary_keeps (maskSub hF rfl) ?_
        assumption
      try clear_value y3
      refine State.lsAdvance_keeps (maskSub hF rfl) ?_
      assumption
    · extract_lets +onlyGivenNames -underBinder -merge y4
      try clear_value y4
      refine State.lsSend_keeps (maskSub hF rfl) ?_
      refine State.iceBoundary_keeps (maskSub hF rfl) ?_
      assumption

theorem State.activationReset_keeps {F : Nat} {a s : State} (hF : F ||| 134217727 = F) (h : Keeps F a s) :
    Keeps F a (State.activationReset s) := by
  unfold State.activationReset
  refine Keeps.ite ?_ ?_
  · refine State.sampleStraps_keeps (maskSub hF rfl) ?_
    refine State.restart_keeps (maskSub hF rfl) ?_
    assumption
  · assumption

theorem State.boundary_keeps {F : Nat} {a s : State} (hF : F ||| 134217727 = F) (h : Keeps F a s) :
    Keeps F a (State.boundary s) := by
  unfold State.boundary
  extract_lets +onlyGivenNames -underBinder -merge y0
  have hy0 : Keeps F a y0 := by
    unfold y0
    refine State.applyImage_keeps (maskSub hF rfl) ?_
    refine State.wholeFrame_keeps (maskSub hF rfl) ?_
    assumption
  try clear_value y0
  extract_lets +onlyGivenNames -underBinder -merge y1
  have hy1 : Keeps F a y1 := by
    unfold y1
    refine State.loopBoundary_keeps (maskSub hF rfl) ?_
    refine State.fieldBoundary_keeps (maskSub hF rfl) ?_
    refine State.streamBoundary_keeps (maskSub hF rfl) ?_
    refine State.ageForecasts_keeps (maskSub hF rfl) ?_
    assumption
  try clear_value y1
  extract_lets +onlyGivenNames -underBinder -merge y2
  have hy2 : Keeps F a y2 := by
    unfold y2
    refine State.digestBoundary_keeps (maskSub hF rfl) ?_
    refine State.canBoundary_keeps (maskSub hF rfl) ?_
    refine State.mainBoundary_keeps (maskSub hF rfl) ?_
    assumption
  try clear_value y2
  refine State.activationReset_keeps (maskSub hF rfl) ?_
  refine State.imageNow_keeps (maskSub hF rfl) ?_
  refine State.makeRecord_keeps (maskSub hF rfl) ?_
  assumption

theorem State.frameEdge_keeps {F : Nat} {a s : State} (hF : F ||| 134217727 = F) (h : Keeps F a s) :
    Keeps F a (State.frameEdge s) := by
  unfold State.frameEdge
  refine Keeps.ite ?_ ?_
  · refine State.boundary_keeps (maskSub hF rfl) ?_
    assumption
  · assumption

theorem State.edgeAll_keeps {F : Nat} {a s : State} (hF : F ||| 134217727 = F) (h : Keeps F a s) :
    Keeps F a (State.edgeAll s) := by
  unfold State.edgeAll
  refine State.frameEdge_keeps (maskSub hF rfl) ?_
  refine State.edge_keeps (maskSub hF rfl) ?_
  assumption

theorem State.beginTick_keeps {F : Nat} {a s : State} (hF : F ||| 4194304 = F) (h : Keeps F a s) :
    Keeps F a (State.beginTick s) := by
  unfold State.beginTick
  refine Keeps.upd_clk (maskSub hF rfl) le_rfl ?_
  assumption

theorem execFrameBoundary_keeps {F : Nat} {a s : State} (hF : F ||| 134217727 = F) (h : Keeps F a s) :
    ∃ t, execFrameBoundary s = .next t ∧ Keeps F a t := by
  refine ⟨_, rfl, ?_⟩
  refine Keeps.ite ?_ ?_
  · refine State.beginTick_keeps (maskSub hF rfl) ?_
    refine State.boundary_keeps (maskSub hF rfl) ?_
    refine State.edge_keeps (maskSub hF rfl) ?_
    assumption
  · assumption

theorem execSampleIndexAnchor_keeps {F : Nat} {a s : State} (hF : F ||| 134217727 = F) (h : Keeps F a s) :
    ∃ t, execSampleIndexAnchor s = .next t ∧ Keeps F a t := by
  refine ⟨_, rfl, ?_⟩
  refine Keeps.ite ?_ ?_
  · refine State.beginTick_keeps (maskSub hF rfl) ?_
    refine State.edgeAll_keeps (maskSub hF rfl) ?_
    assumption
  · assumption

theorem execFrameRunOverrun_keeps {F : Nat} {a s : State} (hF : F ||| 134217727 = F) (h : Keeps F a s) :
    ∃ t, execFrameRunOverrun s = .next t ∧ Keeps F a t := by
  refine ⟨_, rfl, ?_⟩
  refine Keeps.ite ?_ ?_
  · refine State.beginTick_keeps (maskSub hF rfl) ?_
    refine State.edgeAll_keeps (maskSub hF rfl) ?_
    assumption
  · assumption

theorem execLogCommit_keeps {F : Nat} {a s : State} (hF : F ||| 134217727 = F) (h : Keeps F a s) :
    ∃ t, execLogCommit s = .next t ∧ Keeps F a t := by
  refine ⟨_, rfl, ?_⟩
  refine Keeps.ite ?_ ?_
  · refine State.beginTick_keeps (maskSub hF rfl) ?_
    refine State.edgeAll_keeps (maskSub hF rfl) ?_
    assumption
  · assumption

theorem execTakeover_keeps {F : Nat} {a s : State} (hF : F ||| 134217727 = F) (h : Keeps F a s) :
    ∃ t, execTakeover s = .next t ∧ Keeps F a t := by
  refine ⟨_, rfl, ?_⟩
  refine Keeps.ite ?_ ?_
  · refine State.beginTick_keeps (maskSub hF rfl) ?_
    refine State.edgeAll_keeps (maskSub hF rfl) ?_
    assumption
  · assumption

theorem execImageCut_keeps {F : Nat} {a s : State} (hF : F ||| 134217727 = F) (h : Keeps F a s) :
    ∃ t, execImageCut s = .next t ∧ Keeps F a t := by
  refine ⟨_, rfl, ?_⟩
  refine Keeps.ite ?_ ?_
  · refine State.beginTick_keeps (maskSub hF rfl) ?_
    refine State.edgeAll_keeps (maskSub hF rfl) ?_
    assumption
  · assumption

theorem execAnchorSecond_keeps {F : Nat} {a s : State} (hF : F ||| 134217727 = F) (h : Keeps F a s) :
    ∃ t, execAnchorSecond s = .next t ∧ Keeps F a t := by
  refine ⟨_, rfl, ?_⟩
  refine Keeps.ite ?_ ?_
  · refine State.beginTick_keeps (maskSub hF rfl) ?_
    refine State.edgeAll_keeps (maskSub hF rfl) ?_
    assumption
  · assumption

theorem execAnchorFree_keeps {F : Nat} {a s : State} (hF : F ||| 134217727 = F) (h : Keeps F a s) :
    ∃ t, execAnchorFree s = .next t ∧ Keeps F a t := by
  refine ⟨_, rfl, ?_⟩
  refine Keeps.ite ?_ ?_
  · refine State.beginTick_keeps (maskSub hF rfl) ?_
    refine State.edgeAll_keeps (maskSub hF rfl) ?_
    assumption
  · assumption

theorem execCommonSnapshot_keeps {F : Nat} {a s : State} (hF : F ||| 134217727 = F) (h : Keeps F a s) :
    ∃ t, execCommonSnapshot s = .next t ∧ Keeps F a t := by
  refine ⟨_, rfl, ?_⟩
  refine Keeps.ite ?_ ?_
  · refine State.beginTick_keeps (maskSub hF rfl) ?_
    refine State.edgeAll_keeps (maskSub hF rfl) ?_
    assumption
  · assumption

theorem State.takeMark_keeps {F : Nat} {a s : State} {x1} (hF : F ||| 37748736 = F) (h : Keeps F a s) :
    Keeps F a (State.takeMark s x1) := by
  unfold State.takeMark
  refine State.set_keeps (maskSub hF rfl) ?_
  refine Keeps.upd_clk (maskSub hF rfl) le_rfl ?_
  assumption

theorem execPairTickMarker_keeps {F : Nat} {a s : State} {x0 x1 x2} (hF : F ||| 134217727 = F) (h : Keeps F a s) :
    ∃ t, execPairTickMarker x0 x1 x2 s = .next t ∧ Keeps F a t := by
  refine ⟨_, rfl, ?_⟩
  refine Keeps.ite ?_ ?_
  · assumption
  · extract_lets +onlyGivenNames -underBinder -merge y0
    have hy0 : Keeps F a y0 := by
      unfold y0
      refine State.laneAlive_keeps (maskSub hF rfl) ?_
      assumption
    try clear_value y0
    extract_lets +onlyGivenNames -underBinder -merge y1
    try clear_value y1
    refine Keeps.ite ?_ ?_
    · assumption
    · refine Keeps.ite ?_ ?_
      · refine State.beginTick_keeps (maskSub hF rfl) ?_
        refine State.frameEdge_keeps (maskSub hF rfl) ?_
        refine State.takeMark_keeps (maskSub hF rfl) ?_
        refine State.edgeTo_keeps (maskSub hF rfl) ?_
        assumption
      · refine State.takeMark_keeps (maskSub hF rfl) ?_
        assumption

theorem State.outputsTick_keeps {F : Nat} {a s : State} {x1} (hF : F ||| 50348032 = F) (h : Keeps F a s) :
    Keeps F a (State.outputsTick s x1) := by
  unfold State.outputsTick
  refine Keeps.ite ?_ ?_
  · assumption
  · extract_lets +onlyGivenNames -underBinder -merge y0
    have hy0 : Keeps F a y0 := by
      unfold y0
      refine Keeps.foldl ?_ ?_
      · assumption
      · intro x2 x3 h1
        beta_reduce
        refine State.pumpTick_keeps (maskSub hF rfl) ?_
        assumption
    try clear_value y0
    extract_lets +onlyGivenNames -underBinder -merge y4
    have hy4 : Keeps F a y4 := by
      unfold y4
      refine Keeps.foldl ?_ ?_
      · assumption
      · intro x6 x7 h5
        beta_reduce
        refine State.valveTick_keeps (maskSub hF rfl) ?_
        assumption
    try clear_value y4
    refine State.solTick_keeps (maskSub hF rfl) ?_
    refine State.fansTick_keeps (maskSub hF rfl) ?_
    assumption

theorem State.countTicks_keeps {F : Nat} {a s : State} (hF : F ||| 33554432 = F) (h : Keeps F a s) :
    Keeps F a (State.countTicks s) := by
  unfold State.countTicks
  refine Keeps.foldl ?_ ?_
  · assumption
  · intro x1 x2 h0
    beta_reduce
    refine Keeps.ite ?_ ?_
    · refine State.count_keeps (maskSub hF rfl) ?_
      assumption
    · assumption

theorem State.sendMarker_keeps {F : Nat} {a s : State} (hF : F ||| 8388608 = F) (h : Keeps F a s) :
    Keeps F a (State.sendMarker s) := by
  unfold State.sendMarker
  refine Keeps.ite ?_ ?_
  · refine State.send_keeps (maskSub hF rfl) ?_
    refine State.send_keeps (maskSub hF rfl) ?_
    assumption
  · assumption

theorem State.pinsTick_keeps {F : Nat} {a s : State} (hF : F ||| 16 = F) (h : Keeps F a s) :
    Keeps F a (State.pinsTick s) := by
  unfold State.pinsTick
  refine State.setSys_keeps (maskSub hF rfl) ?_
  assumption

theorem State.tickBody_keeps {F : Nat} {a s : State} {x1 x2} (hF : F ||| 134217727 = F) (h : Keeps F a s) :
    Keeps F a (State.tickBody s x1 x2) := by
  unfold State.tickBody
  extract_lets +onlyGivenNames -underBinder -merge y0
  have hy0 : Keeps F a y0 := by
    unfold y0
    refine Keeps.foldl ?_ ?_
    · refine State.canTick_keeps (maskSub hF rfl) ?_
      refine State.sendMarker_keeps (maskSub hF rfl) ?_
      assumption
    · intro x2 x3 h1
      beta_reduce
      refine State.applyLatch_keeps (maskSub hF rfl) ?_
      assumption
  try clear_value y0
  extract_lets +onlyGivenNames -underBinder -merge y4
  have hy4 : Keeps F a y4 := by
    unfold y4
    refine Keeps.foldl ?_ ?_
    · assumption
    · intro x6 x7 h5
      beta_reduce
      refine State.fieldTick_keeps (maskSub hF rfl) ?_
      assumption
  try clear_value y4
  extract_lets +onlyGivenNames -underBinder -merge y8
  try clear_value y8
  extract_lets +onlyGivenNames -underBinder -merge y9
  have hy9 : Keeps F a y9 := by
    unfold y9
    refine State.heldTick_keeps (maskSub hF rfl) ?_
    refine State.applyStateReqs_keeps (maskSub hF rfl) ?_
    refine State.protTick_keeps (maskSub hF rfl) ?_
    refine State.evaluateLoops_keeps (maskSub hF rfl) ?_
    assumption
  try clear_value y9
  extract_lets +onlyGivenNames -underBinder -merge y10
  have hy101 : Keeps F a y10.1 := by
    unfold y10
    refine State.arbitrate_keeps (maskSub hF rfl) ?_
    assumption
  try clear_value y10
  extract_lets +onlyGivenNames -underBinder -merge y11
  have hy11 : Keeps F a y11 := by
    unfold y11
    refine State.outputsTick_keeps (maskSub hF rfl) ?_
    assumption
  try clear_value y11
  extract_lets +onlyGivenNames -underBinder -merge y12
  have hy12 : Keeps F a y12 := by
    unfold y12
    refine State.judgeTick_keeps (maskSub hF rfl) ?_
    refine State.pinsTick_keeps (maskSub hF rfl) ?_
    refine State.governTick_keeps (maskSub hF rfl) ?_
    assumption
  try clear_value y12
  refine State.withdraw_keeps (maskSub hF rfl) ?_
  refine State.writeWindow_keeps (maskSub hF rfl) ?_
  refine State.countTicks_keeps (maskSub hF rfl) ?_
  refine State.sendTickRecord_keeps (maskSub hF rfl) ?_
  assumption

theorem execTickEdge_keeps {F : Nat} {a s : State} {x0 x1} (hF : F ||| 134217727 = F) (h : Keeps F a s) :
    ∃ t, execTickEdge x0 x1 s = .next t ∧ Keeps F a t := by
  refine ⟨_, rfl, ?_⟩
  refine Keeps.ite ?_ ?_
  · assumption
  · extract_lets +onlyGivenNames -underBinder -merge y0
    extract_lets +onlyGivenNames -underBinder -merge y1
    have hy1 : Keeps F a y1 := by
      unfold y1
      refine Keeps.ite ?_ ?_
      · refine Keeps.upd_clk (maskSub hF rfl) le_rfl ?_
        assumption
      · refine State.edgeAll_keeps (maskSub hF rfl) ?_
        assumption
    try clear_value y1
    refine Keeps.ite ?_ ?_
    · assumption
    · refine Keeps.ite ?_ ?_
      · refine State.logicOff_keeps (maskSub hF rfl) ?_
        assumption
      · refine State.tickBody_keeps (maskSub hF rfl) ?_
        assumption

end Sys2Proof.Machine
end

