-- ==== Sys2Proof/Laws/Tab.lean ====
section
/-! SUPPORT. The laws of sparse tables: an entry read after it is set or dropped, and the other entries. -/

namespace Sys2Proof.Machine

variable {α : Type}

@[simp] theorem Tab.at_put_self (d : α) (n : Nat) (x : α) (t : Tab α) : Tab.at d (Tab.put n x t) n = x := by
  induction t with
  | nil => simp [Tab.put, Tab.at]
  | cons p t ih =>
    obtain ⟨k, v⟩ := p
    simp only [Tab.put]
    split
    · simp [Tab.at]
    · split
      · simp [Tab.at]
      · rename_i h
        simp only [Tab.at, if_neg (Ne.symm h), ih]

theorem Tab.at_put_ne (d : α) (n m : Nat) (x : α) (t : Tab α) (h : m ≠ n) : Tab.at d (Tab.put n x t) m = Tab.at d t m := by
  induction t with
  | nil => simp [Tab.put, Tab.at, Ne.symm h]
  | cons p t ih =>
    obtain ⟨k, v⟩ := p
    simp only [Tab.put]
    split
    · simp [Tab.at, Ne.symm h]
    · split
      · rename_i e
        simp [Tab.at, ← e, Ne.symm h]
      · simp only [Tab.at, ih]

@[simp] theorem Tab.find_put_self (n : Nat) (x : α) (t : Tab α) : Tab.find (Tab.put n x t) n = some x := by
  induction t with
  | nil => simp [Tab.put, Tab.find]
  | cons p t ih =>
    obtain ⟨k, v⟩ := p
    simp only [Tab.put]
    split
    · simp [Tab.find]
    · split
      · simp [Tab.find]
      · rename_i h
        have e : (k == n) = false := by simpa using Ne.symm h
        simpa only [Tab.find, List.find?_cons, e] using ih

theorem Tab.find_put_ne (n m : Nat) (x : α) (t : Tab α) (h : m ≠ n) : Tab.find (Tab.put n x t) m = Tab.find t m := by
  have e : (n == m) = false := by simpa using Ne.symm h
  induction t with
  | nil => simp [Tab.put, Tab.find, e]
  | cons p t ih =>
    obtain ⟨k, v⟩ := p
    simp only [Tab.put]
    split
    · simp [Tab.find, e]
    · split
      · rename_i hk
        subst hk
        simp [Tab.find, e]
      · simp only [Tab.find, List.find?_cons] at ih ⊢
        split
        · rfl
        · exact ih

@[simp] theorem Tab.find_del_self (n : Nat) (t : Tab α) : Tab.find (Tab.del n t) n = none := by
  simp [Tab.find, Tab.del]

theorem Tab.find_del_ne (n m : Nat) (t : Tab α) (h : m ≠ n) : Tab.find (Tab.del n t) m = Tab.find t m := by
  unfold Tab.find Tab.del
  congr 1
  induction t with
  | nil => rfl
  | cons p t ih =>
    simp only [List.filter_cons]
    split
    · simp only [List.find?_cons, ih]
    · rename_i hp
      have hp : p.1 = n := by simpa using hp
      have e : (p.1 == m) = false := by simpa [hp] using Ne.symm h
      simp only [List.find?_cons, e, ih]

end Sys2Proof.Machine
end

