-- ==== Sys2Proof/Laws/Parts.lean ====
section
/-! SUPPORT. Reading back an entry of a table of the state: after writing it, after writing another, and after a change of another part. -/

namespace Sys2Proof.Machine

theorem State.setPump_pump (s : State) (i : Nat) (x : Pump) : (s.setPump i x).pump i = x := Tab.at_put_self _ _ _ _
theorem State.setPump_pump_ne (s : State) (i j : Nat) (x : Pump) (h : j ≠ i) : (s.setPump i x).pump j = s.pump j := Tab.at_put_ne _ _ _ _ _ h
theorem State.pump_of {s t : State} (h : t.acts = s.acts) (i : Nat) : t.pump i = s.pump i := by unfold State.pump; rw [h]
theorem State.setValve_valve (s : State) (i : Nat) (x : Valve) : (s.setValve i x).valve i = x := Tab.at_put_self _ _ _ _
theorem State.setValve_valve_ne (s : State) (i j : Nat) (x : Valve) (h : j ≠ i) : (s.setValve i x).valve j = s.valve j := Tab.at_put_ne _ _ _ _ _ h
theorem State.valve_of {s t : State} (h : t.acts = s.acts) (i : Nat) : t.valve i = s.valve i := by unfold State.valve; rw [h]
theorem State.setFan_fan (s : State) (i : Nat) (x : Fan) : (s.setFan i x).fan i = x := Tab.at_put_self _ _ _ _
theorem State.setFan_fan_ne (s : State) (i j : Nat) (x : Fan) (h : j ≠ i) : (s.setFan i x).fan j = s.fan j := Tab.at_put_ne _ _ _ _ _ h
theorem State.fan_of {s t : State} (h : t.acts = s.acts) (i : Nat) : t.fan i = s.fan i := by unfold State.fan; rw [h]
theorem State.setSol_sol (s : State) (i : Nat) (x : Sol) : (s.setSol i x).sol i = x := Tab.at_put_self _ _ _ _
theorem State.setSol_sol_ne (s : State) (i j : Nat) (x : Sol) (h : j ≠ i) : (s.setSol i x).sol j = s.sol j := Tab.at_put_ne _ _ _ _ _ h
theorem State.sol_of {s t : State} (h : t.acts = s.acts) (i : Nat) : t.sol i = s.sol i := by unfold State.sol; rw [h]
theorem State.setRackP_rackP (s : State) (i : Nat) (x : RackP) : (s.setRackP i x).rackP i = x := Tab.at_put_self _ _ _ _
theorem State.setRackP_rackP_ne (s : State) (i j : Nat) (x : RackP) (h : j ≠ i) : (s.setRackP i x).rackP j = s.rackP j := Tab.at_put_ne _ _ _ _ _ h
theorem State.rackP_of {s t : State} (h : t.prt = s.prt) (i : Nat) : t.rackP i = s.rackP i := by unfold State.rackP; rw [h]
theorem State.setLeakIn_leakIn (s : State) (i : Nat) (x : LeakIn) : (s.setLeakIn i x).leakIn i = x := Tab.at_put_self _ _ _ _
theorem State.setLeakIn_leakIn_ne (s : State) (i j : Nat) (x : LeakIn) (h : j ≠ i) : (s.setLeakIn i x).leakIn j = s.leakIn j := Tab.at_put_ne _ _ _ _ _ h
theorem State.leakIn_of {s t : State} (h : t.prt = s.prt) (i : Nat) : t.leakIn i = s.leakIn i := by unfold State.leakIn; rw [h]
theorem State.setLimP_limP (s : State) (i : Nat) (x : LimP) : (s.setLimP i x).limP i = x := Tab.at_put_self _ _ _ _
theorem State.setLimP_limP_ne (s : State) (i j : Nat) (x : LimP) (h : j ≠ i) : (s.setLimP i x).limP j = s.limP j := Tab.at_put_ne _ _ _ _ _ h
theorem State.limP_of {s t : State} (h : t.prt = s.prt) (i : Nat) : t.limP i = s.limP i := by unfold State.limP; rw [h]
theorem State.setLoop_loop (s : State) (i : Nat) (x : Loop) : (s.setLoop i x).loop i = x := Tab.at_put_self _ _ _ _
theorem State.setLoop_loop_ne (s : State) (i j : Nat) (x : Loop) (h : j ≠ i) : (s.setLoop i x).loop j = s.loop j := Tab.at_put_ne _ _ _ _ _ h
theorem State.loop_of {s t : State} (h : t.lop = s.lop) (i : Nat) : t.loop i = s.loop i := by unfold State.loop; rw [h]
theorem State.setStrm_strm (s : State) (i : Nat) (x : Strm) : (s.setStrm i x).strm i = x := Tab.at_put_self _ _ _ _
theorem State.setStrm_strm_ne (s : State) (i j : Nat) (x : Strm) (h : j ≠ i) : (s.setStrm i x).strm j = s.strm j := Tab.at_put_ne _ _ _ _ _ h
theorem State.strm_of {s t : State} (h : t.stm = s.stm) (i : Nat) : t.strm i = s.strm i := by unfold State.strm; rw [h]
theorem State.setJob_job (s : State) (i : Nat) (x : Job) : (s.setJob i x).job i = x := Tab.at_put_self _ _ _ _
theorem State.setJob_job_ne (s : State) (i j : Nat) (x : Job) (h : j ≠ i) : (s.setJob i x).job j = s.job j := Tab.at_put_ne _ _ _ _ _ h
theorem State.job_of {s t : State} (h : t.jobs = s.jobs) (i : Nat) : t.job i = s.job i := by unfold State.job; rw [h]
theorem State.setPlanAck_planAck (s : State) (i : Nat) (x : PlanAck) : (s.setPlanAck i x).planAck i = x := Tab.at_put_self _ _ _ _
theorem State.setPlanAck_planAck_ne (s : State) (i j : Nat) (x : PlanAck) (h : j ≠ i) : (s.setPlanAck i x).planAck j = s.planAck j := Tab.at_put_ne _ _ _ _ _ h
theorem State.planAck_of {s t : State} (h : t.plan = s.plan) (i : Nat) : t.planAck i = s.planAck i := by unfold State.planAck; rw [h]
theorem State.setSess_sess (s : State) (i : Nat) (x : Session) : (s.setSess i x).sess i = x := Tab.at_put_self _ _ _ _
theorem State.setSess_sess_ne (s : State) (i j : Nat) (x : Session) (h : j ≠ i) : (s.setSess i x).sess j = s.sess j := Tab.at_put_ne _ _ _ _ _ h
theorem State.sess_of {s t : State} (h : t.zh = s.zh) (i : Nat) : t.sess i = s.sess i := by unfold State.sess; rw [h]

end Sys2Proof.Machine
end

