-- ==== Sys2Proof/Laws/Words.lean ====
section
/-! SUPPORT. What the operations that many commands share do to the register file: the words that bringing protection's outputs up to
date, a change of the operating state and a notice leave alone. -/

namespace Sys2Proof.Machine

/-- What every step of a fold keeps, the fold keeps. -/
theorem foldl_keep {α β : Type} {f : State → α → State} (g : State → β) (h : ∀ s x, g (f s x) = g s) (l : List α) (s : State) :
    g (l.foldl f s) = g s := by
  induction l generalizing s with
  | nil => rfl
  | cons x l ih => exact (ih (f s x)).trans (h s x)

theorem State.noticeAll_rd (s : State) (c : Nat) (l : List Nat) (a : Nat) : (s.noticeAll c l).rd a = s.rd a :=
  foldl_keep (f := fun (s : State) k => s.notice k c l) (fun s => s.rd a) (fun _ _ => rfl) _ _

theorem State.setIf_rd_ne (s : State) (f : Fld) (v a : Nat) (h : a ≠ f.addr) : (s.setIf f v).rd a = s.rd a := by
  unfold State.setIf
  split
  · rfl
  · exact State.rd_set_ne _ _ _ _ h

theorem State.powerOff_rd (s : State) (r c n a : Nat) : (s.powerOff r c n).rd a = s.rd a := by
  unfold State.powerOff
  split
  · rfl
  · exact foldl_keep (f := fun (s : State) k => s.notice k 2 [r, c, 0, n]) (fun s => s.rd a) (fun _ _ => rfl) _ (s.setRackP r _)

/-- An event's own words are event words. -/
theorem ne_of_eventWord {a b : Nat} (ha : eventWord a = false) (hb : eventWord b = true) : a ≠ b := by
  rintro rfl
  rw [ha] at hb
  cases hb

/-- The words that the outputs of protection occupy: PRT_STAT, PRT_CNT_TRIP, PRT_EVT with its _SEQ, and RK_OUT of every rack. -/
def protOut (a : Nat) : Bool := a == Reg.PRT_STAT || a == Reg.PRT_CNT_TRIP || a == Reg.PRT_EVT || a == Reg.PRT_EVT + 4 || (decide (Reg.RK_OUT 0 ≤ a) && (a - Reg.RK_OUT 0) % 0x40 == 0)

theorem ne_of_protOut {a b : Nat} (ha : protOut a = false) (hb : protOut b = true) : a ≠ b := by
  rintro rfl
  rw [ha] at hb
  cases hb

theorem protOut_rack (r : Nat) : protOut (Reg.RK_OUT r) = true := by
  have h : (decide (Reg.RK_OUT 0 ≤ Reg.RK_OUT r) && (Reg.RK_OUT r - Reg.RK_OUT 0) % 0x40 == 0) = true := by
    unfold Reg.RK_OUT
    simp only [Bool.and_eq_true, decide_eq_true_eq, beq_iff_eq]
    omega
  unfold protOut
  rw [h, Bool.or_true]

/-- The outputs of one rack touch its RK_OUT, the count of trips, and event words. -/
theorem State.settleRack_rd (s : State) (r a : Nat) (he : eventWord a = false) (ho : a ≠ Reg.RK_OUT r) (hc : a ≠ Reg.PRT_CNT_TRIP)
    (hv : a ≠ Reg.PRT_EVT) (hw : a ≠ Reg.PRT_EVT + 4) :
    (s.settleRack r).rd a = s.rd a := by
  unfold State.settleRack
  extract_lets iso s1 was s2
  have e1 : s1.rd a = s.rd a := by
    simp only [s1]
    rw [State.setIf_rd_ne _ _ _ _ ho, State.setIf_rd_ne _ _ _ _ ho, State.setIf_rd_ne _ _ _ _ ho, State.setIf_rd_ne _ _ _ _ ho]
  have e2 : s2.rd a = s1.rd a := by
    simp only [s2]
    split
    · split
      · rfl
      · rw [State.powerOff_rd, State.raise_rd _ _ _ _ _ _ (by decide) he hv hw, State.count, State.rd_countBy_ne _ _ _ _ hc, State.rd_set_ne _ _ _ _ ho]
    · exact State.setIf_rd_ne _ _ _ _ ho
  rw [State.setIf_rd_ne _ _ _ _ ho, e2, e1]

theorem State.settleOverrides_rd (s : State) (a : Nat) : s.settleOverrides.rd a = s.rd a := rfl

/-- Bringing protection's outputs up to date touches them and event words only. -/
theorem State.settle_rd (s : State) (a : Nat) (he : eventWord a = false) (ho : protOut a = false) : s.settle.rd a = s.rd a := by
  have h1 : a ≠ Reg.PRT_STAT := ne_of_protOut ho (by decide)
  have h2 : a ≠ Reg.PRT_CNT_TRIP := ne_of_protOut ho (by decide)
  unfold State.settle
  extract_lets s1 l s2 s3
  have e1 : s1.rd a = s.rd a := State.setIf_rd_ne _ _ _ _ h1
  split
  · show s3.settleOverrides.rd a = _
    rw [State.settleOverrides_rd]
    have e3 : s3.rd a = s2.rd a := State.setIf_rd_ne _ _ _ _ h1
    rw [e3]
    refine Eq.trans ?_ e1
    exact foldl_keep (f := fun (s : State) r => s.settleRack r) (fun s => s.rd a)
      (fun s r => State.settleRack_rd s r a he (ne_of_protOut ho (protOut_rack r)) h2 (ne_of_protOut ho (by decide)) (ne_of_protOut ho (by decide))) _ _
  · exact e1

theorem State.settle_fld (s : State) (f : Fld) (he : eventWord f.addr = false) (ho : protOut f.addr = false) : s.settle.fld f = s.fld f := by
  unfold State.fld
  rw [State.settle_rd _ _ he ho]

theorem State.announce_rd (s : State) (o c a : Nat) (he : eventWord a = false) : (s.announce o c).rd a = s.rd a := by
  unfold State.announce
  rw [State.noticeAll_rd, State.occur_rd _ _ _ _ _ _ (by decide) he]

theorem State.announce_fld (s : State) (o c : Nat) (f : Fld) (he : eventWord f.addr = false) : (s.announce o c).fld f = s.fld f := by
  unfold State.fld
  rw [State.announce_rd _ _ _ _ he]

/-- Entering PROTECT or FULLCOOL touches SYS_STATE and event words only. -/
theorem State.enterProtective_rd (s : State) (n c a : Nat) (he : eventWord a = false) (h : a ≠ Reg.SYS_STATE) : (s.enterProtective n c).rd a = s.rd a := by
  unfold State.enterProtective
  dsimp only
  split
  · rfl
  · rw [State.announce_rd _ _ _ _ he, State.rd_set_ne _ _ _ _ h, State.rd_set_ne _ _ _ _ h]

theorem State.enterProtective_fld (s : State) (n c : Nat) (f : Fld) (he : eventWord f.addr = false) (h : f.addr ≠ Reg.SYS_STATE) :
    (s.enterProtective n c).fld f = s.fld f := by
  unfold State.fld
  rw [State.enterProtective_rd _ _ _ _ he h]

/-- A change of the operating state touches SYS_STATE, PRT_CTRL and event words only. -/
theorem State.enter_rd (s : State) (n c a : Nat) (he : eventWord a = false) (h : a ≠ Reg.SYS_STATE) (hp : a ≠ Reg.PRT_CTRL) :
    (s.enter n c).rd a = s.rd a := by
  unfold State.enter
  dsimp only
  split
  · rfl
  · rw [State.announce_rd _ _ _ _ he, State.rd_set_ne _ _ _ _ h, State.rd_set_ne _ _ _ _ h]
    split
    · exact State.rd_set_ne _ _ _ _ hp
    · rfl

theorem State.enter_fld (s : State) (n c : Nat) (f : Fld) (he : eventWord f.addr = false) (h : f.addr ≠ Reg.SYS_STATE) (hp : f.addr ≠ Reg.PRT_CTRL) :
    (s.enter n c).fld f = s.fld f := by
  unfold State.fld
  rw [State.enter_rd _ _ _ _ he h hp]

/-- The exits of BOOT touch SYS_STATE, PRT_CTRL and event words only. -/
theorem State.leaveBoot_rd (s : State) (a : Nat) (he : eventWord a = false) (h : a ≠ Reg.SYS_STATE) (hp : a ≠ Reg.PRT_CTRL) :
    s.leaveBoot.rd a = s.rd a := by
  unfold State.leaveBoot
  split
  · rfl
  · split
    · exact State.enter_rd _ _ _ _ he h hp
    · split
      · exact State.enter_rd _ _ _ _ he h hp
      · rfl

/-- Leaving PROTECT touches SYS_STATE, PRT_CTRL and event words only. -/
theorem State.leaveProtect_rd (s : State) (a : Nat) (he : eventWord a = false) (h : a ≠ Reg.SYS_STATE) (hp : a ≠ Reg.PRT_CTRL) :
    s.leaveProtect.rd a = s.rd a := by
  unfold State.leaveProtect
  split
  · exact (State.leaveBoot_rd _ _ he h hp).trans (State.enter_rd _ _ _ _ he h hp)
  · rfl

theorem State.leaveProtect_fld (s : State) (f : Fld) (he : eventWord f.addr = false) (h : f.addr ≠ Reg.SYS_STATE) (hp : f.addr ≠ Reg.PRT_CTRL) :
    s.leaveProtect.fld f = s.fld f := by
  unfold State.fld
  rw [State.leaveProtect_rd _ _ he h hp]

theorem State.enterIfFirst_rd (s : State) (b : Bool) (a : Nat) (he : eventWord a = false) (h : a ≠ Reg.SYS_STATE) : (s.enterIfFirst b).rd a = s.rd a := by
  unfold State.enterIfFirst
  split
  · exact State.enterProtective_rd _ _ _ _ he h
  · rfl

theorem State.enterIfFirst_fld (s : State) (b : Bool) (f : Fld) (he : eventWord f.addr = false) (h : f.addr ≠ Reg.SYS_STATE) :
    (s.enterIfFirst b).fld f = s.fld f := by
  unfold State.fld
  rw [State.enterIfFirst_rd _ _ _ he h]

/-- The record of a start touches the event register of its kind and event words only. -/
theorem State.tellStart_rd (s : State) (ev : Fld) (what index bit a : Nat) (hc : eventCode ev < 1024) (he : eventWord a = false)
    (h1 : a ≠ ev.addr) (h2 : a ≠ ev.addr + 4) : (s.tellStart ev what index bit).rd a = s.rd a := by
  unfold State.tellStart
  dsimp only
  rw [State.noticeAll_rd, State.raise_rd _ _ _ _ _ _ hc he h1 h2]

theorem State.tellStart_fld (s : State) (ev : Fld) (what index bit : Nat) (f : Fld) (hc : eventCode ev < 1024) (he : eventWord f.addr = false)
    (h1 : f.addr ≠ ev.addr) (h2 : f.addr ≠ ev.addr + 4) : (s.tellStart ev what index bit).fld f = s.fld f := by
  unfold State.fld
  rw [State.tellStart_rd _ _ _ _ _ _ hc he h1 h2]

/-- The words that the start of a rack's sequence and the outputs of protection occupy: those of `protOut`, SYS_STATE, and RK_ACT. -/
def protWord (a : Nat) : Bool := protOut a || a == Reg.SYS_STATE || (decide (Reg.RK_ACT 0 ≤ a) && (a - Reg.RK_ACT 0) % 0x40 == 0)

theorem ne_of_protWord {a b : Nat} (ha : protWord a = false) (hb : protWord b = true) : a ≠ b := by
  rintro rfl
  rw [ha] at hb
  cases hb

theorem protWord_rack (r : Nat) : protWord (Reg.RK_ACT r) = true := by
  have h : (decide (Reg.RK_ACT 0 ≤ Reg.RK_ACT r) && (Reg.RK_ACT r - Reg.RK_ACT 0) % 0x40 == 0) = true := by
    unfold Reg.RK_ACT
    simp only [Bool.and_eq_true, decide_eq_true_eq, beq_iff_eq]
    omega
  unfold protWord
  rw [h, Bool.or_true]

theorem protOut_of_protWord {a : Nat} (h : protWord a = false) : protOut a = false := by
  unfold protWord at h
  simp only [Bool.or_eq_false_iff] at h
  exact h.1.1

theorem State.startRack_rd (s : State) (r bit : Nat) (ev : Fld) (a : Nat) (hc : eventCode ev < 1024) (he : eventWord a = false)
    (hw : protWord a = false) (h1 : a ≠ ev.addr) (h2 : a ≠ ev.addr + 4) : (s.startRack r bit ev).rd a = s.rd a := by
  have e : ∀ (u : State) (x : RackP), (u.setRackP r x).rd a = u.rd a := fun _ _ => rfl
  have h3 : ((s.setBit (Fd.RK_ACT_ACTIVE r) bit true).setBit (Fd.RK_ACT_ACK_REQ r) bit true).rd a = s.rd a :=
    (State.setBit_rd_ne _ (Fd.RK_ACT_ACK_REQ r) bit true a (ne_of_protWord hw (protWord_rack r))).trans
      (State.setBit_rd_ne s (Fd.RK_ACT_ACTIVE r) bit true a (ne_of_protWord hw (protWord_rack r)))
  refine Eq.trans (State.tellStart_rd _ ev 0 r bit a hc he h1 h2) ?_
  refine Eq.trans (State.enterIfFirst_rd _ _ a he (ne_of_protWord hw (by decide))) ?_
  refine Eq.trans (e _ _) h3

/-- What protection makes of the ends of safety requests touches its own words only. -/
theorem State.isoResults_rd (s : State) (a : Nat) (he : eventWord a = false) (hw : protWord a = false) : s.isoResults.rd a = s.rd a := by
  unfold State.isoResults
  refine Eq.trans (State.settle_rd _ _ he (protOut_of_protWord hw)) ?_
  refine Eq.trans (foldl_keep (fun s => s.rd a) (fun u p => ?_) _ _) (rfl : { s with acts := { s.acts with ended := [] } }.rd a = s.rd a)
  split
  · exact State.startRack_rd _ _ _ _ _ (by decide) he hw (ne_of_protWord hw (by decide)) (ne_of_protWord hw (by decide))
  · rfl

theorem State.isoResults_fld (s : State) (f : Fld) (he : eventWord f.addr = false) (hw : protWord f.addr = false) :
    s.isoResults.fld f = s.fld f := by
  unfold State.fld
  rw [State.isoResults_rd _ _ he hw]

end Sys2Proof.Machine
end

