-- ==== Sys2Proof/Machine/Wire.lean ====
section
/-! DEFINITION. The bytes of what leaves the module (R10: wire formats are big-endian): Zhoide frames (R403, R406, R421, R436 to R438, R540),
the PROTO_ERROR notice (R126), the guard digest (R140), and Craori frames with the payloads whose layout chapter 12 gives (R478, R481,
R501, R502, R505, R510, R541). `Out` names the fields of a frame in their order; this file lays them out. -/

namespace Sys2Proof.Machine

/-! ### Layouts -/

/-- A piece of a layout: a field of so many bytes, or reserved bytes, which are zero. -/
inductive Piece
  | fld (n : Nat)
  | zero (n : Nat)
deriving DecidableEq, Repr

/-- The bytes of fields in a layout, each most significant byte first (R10). A layout ends where its fields do. -/
def layOut : List Piece → List Nat → List Byte
  | .zero n :: l, xs => beBytes n 0 ++ layOut l xs
  | .fld n :: l, x :: xs => beBytes n x ++ layOut l xs
  | _, _ => []

/-- A layout followed by a group of pieces as often as the fields need. -/
def layMany (l group : List Piece) (xs : List Nat) : List Byte := layOut (l ++ (List.replicate xs.length group).flatten) xs

/-! ### Zhoide -/

/-- The response fields of a command (Table 6 of chapter 10), and the group that repeats after them. -/
def answerLay (cmd : Nat) : List Piece × List Piece :=
  match cmd with
  | 0x01 => ([.fld 1, .fld 1, .fld 1, .fld 1, .fld 1, .fld 1, .zero 2], [])
  | 0x05 => ([.fld 8, .fld 8], [])
  | 0x10 | 0x11 => ([.fld 4], [])
  | 0x14 => ([], [.fld 1, .fld 1, .fld 2, .fld 4])
  | 0x20 => ([], [.fld 4])
  | 0x21 => ([.fld 2, .zero 2], [])
  | 0x41 => ([.fld 2, .zero 2, .fld 4], [])
  | 0x42 => ([.fld 1, .zero 3], [])
  | 0x52 => ([.fld 2, .zero 2], [])
  | 0x60 => ([.fld 2, .zero 2, .fld 4], [])
  | 0x61 => ([.fld 2, .zero 2], [])
  | 0x70 => ([.fld 2, .zero 2], [])
  | 0x73 => ([.fld 8], [.fld 1])
  | _ => ([], [.fld 1])

/-- The payload of an answer (R406): the response header of Table 3, and the response fields where there are some. -/
def Answer.payload (a : Answer) : List Byte :=
  let p := answerLay a.cmd
  beBytes 1 a.status ++ beBytes 1 (a.state % 16) ++ beBytes 2 a.legal ++ beBytes 4 a.detail ++ (if a.body.isEmpty then [] else layMany p.1 p.2 a.body)

/-- The class fields of a NOTICE (Table 8 of chapter 10). -/
def noticeLay (cls : Nat) : List Piece :=
  match cls with
  | 0 => [.fld 1, .fld 1, .fld 1, .zero 1, .fld 8]
  | 1 => [.fld 1, .fld 1, .fld 1, .fld 1, .fld 8]
  | 2 => [.fld 1, .fld 1, .fld 2, .fld 4]
  | _ => [.fld 1, .fld 1, .zero 2, .fld 2, .zero 2]

/-- The 20-byte key of a device request (R438). -/
def keyLay : List Piece := [.fld 2, .fld 1, .fld 1, .fld 4, .fld 4, .fld 8]

/-- The fields of a device request (R438): STORE_PUT and STORE_GET. -/
def deviceLay (cmd : Nat) : List Piece :=
  keyLay ++ (if cmd = 0xC1 then [.fld 8, .fld 8, .fld 1, .zero 3] else [.fld 8, .fld 4])

/-- A network's number in FLAGS.NET. -/
def netBit (n : Net) : Nat := match n with | .a => 0 | .b => 1

/-- The first 28 bytes of a Zhoide frame (R403); the module holds no request by deferral, so its DEFER_MS is 0. -/
def zhoideHead (level flags : Nat) (session : Word) (seq tag mbox cmd len : Nat) : List Byte :=
  beBytes 2 0xF1AB ++ beBytes 1 level ++ beBytes 1 flags ++ beBytes 4 session.toNat ++ beBytes 8 seq ++ beBytes 4 tag ++ beBytes 1 mbox ++
  beBytes 1 cmd ++ beBytes 2 len ++ beBytes 4 0

/-- A session frame to a master (R404, R540): bytes 0 to 27 are authenticated and the payload is encrypted. -/
def sealFrame (key : List Byte) (net : Net) (seq : Nat) (head payload : List Byte) : List Byte :=
  head ++ Config.gcmSeal key (beBytes 1 1 ++ beBytes 1 (netBit net) ++ beBytes 2 0 ++ beBytes 8 seq) head payload

/-- A sessionless frame with its CRC-32 (R403). -/
def crcFrame (head payload : List Byte) : List Byte := head ++ payload ++ beBytes 4 (crc32 (head ++ payload))

/-- An answer on a network, under the session's key or sessionless: FLAGS.RESP is 1 (R406). -/
def Answer.frame (a : Answer) (key : List Byte) (net : Net) : List Byte :=
  let head := zhoideHead a.level (netBit net + 2) a.session a.seq a.tag.toNat a.mbox a.cmd a.payload.length
  if a.session = 0 then crcFrame head a.payload else sealFrame key net a.seq head a.payload

/-- The PROTO_ERROR notice of R126. -/
def noticeBytes (level code src seq count : Nat) : List Byte :=
  beBytes 2 0xF1A8 ++ beBytes 1 level ++ beBytes 1 code ++ beBytes 4 src ++ beBytes 4 seq ++ beBytes 4 count

/-! ### The guard digest -/

/-- The guard digest on the safety link (R140): a 24-byte header, 4,096 entries in local-index order, and a CRC-32. -/
def Digest.bytes (d : Digest) : List Byte :=
  let b := beBytes 1 d.level ++ beBytes 3 0 ++ beBytes 8 d.tag.toNat ++ beBytes 4 d.seq ++ beBytes 8 0 ++
    (List.range 4096).flatMap (fun a => beBytes 4 (Tab.at noTemp d.entries a))
  b ++ beBytes 4 (crc32 b)

/-! ### Craori -/

/-- An IPv6 address of four words, word 0 first (R11), as the layout sends it: word 3 first. -/
def flipAddress (l : List Nat) : List Nat := (l.take 4).reverse ++ l.drop 4

/-- The payload of a Craori frame by its kind: its layout where chapter 12 gives one. -/
def craPayload (kind : OutKind) (ty : Nat) (xs : List Nat) : List Byte :=
  match kind with
  | .heartbeat => layOut [.fld 1, .fld 1, .fld 1, .zero 1, .fld 8, .fld 4, .fld 1, .fld 1, .fld 1, .fld 1, .fld 4] xs
  | .image => layMany [.fld 4, .fld 4] [.fld 1] xs
  | .fedAnnounce =>
    layMany [.fld 1, .fld 1, .fld 1, .fld 1, .fld 1, .fld 1, .fld 2, .fld 4, .fld 4, .fld 4, .fld 4, .fld 4, .fld 4, .fld 4, .fld 4, .fld 4, .fld 2, .zero 2]
      [.fld 1, .zero 1, .fld 2, .fld 4] (xs.take 11 ++ flipAddress (xs.drop 11))
  | .fedAlloc => layMany [.fld 8] [.fld 1, .zero 3, .fld 4, .fld 4] xs
  | .redirect =>
    -- the group's module and rack come first, and are no part of the payload
    layOut [.fld 4, .fld 2, .zero 2] ((xs.drop 2).take 2) ++ entries (xs.drop 4)
  | _ => Config.framePayload ty xs
where
  /-- The entries of a REDIRECT: index, two reserved bytes and a destination each. -/
  entries : List Nat → List Byte
    | i :: a :: b :: c :: d :: t => layOut [.fld 2, .zero 2, .fld 4, .fld 4, .fld 4, .fld 4] (i :: flipAddress [a, b, c, d]) ++ entries t
    | _ => []

/-- The bytes of a Craori frame on a path (R501, R541), its fields being path, level, TYPE, module, slot, SEQ, wire time and payload: on a lane
of the pair link with a CRC-32, on a network under the module's send key. -/
def craFrame (key : List Byte) (kind : OutKind) (xs : List Nat) : List Byte :=
  match xs with
  | path :: level :: ty :: module :: slot :: seq :: time :: rest =>
    let body := craPayload kind ty rest
    let flags := if path < 2 then 2 else path % 2
    let head := beBytes 2 0xF1AD ++ beBytes 1 level ++ beBytes 1 ty ++ beBytes 1 (module % 64 + 64 * (slot % 2)) ++ beBytes 1 flags ++
      beBytes 2 body.length ++ beBytes 4 seq ++ beBytes 8 time
    if path < 2 then head ++ body ++ beBytes 4 (crc32 (head ++ body))
    else head ++ Config.gcmSeal key (beBytes 1 (module % 64 + 64 * (slot % 2)) ++ beBytes 1 ty ++ beBytes 1 (path % 2) ++ beBytes 1 0 ++ beBytes 4 seq ++ beBytes 4 0)
      head body
  | _ => []

/-- Whether a kind of frame is a Craori frame. -/
def OutKind.isCraori : OutKind → Bool
  | .plan | .packet | .can | .tickMarker | .rowAddress | .peerOpen | .peerKey => false
  | .heartbeat | .image | .barPropose | .barAccept | .barCancel | .tickRec | .ready | .peekReq | .peekData | .lsInput | .lsDigest | .fedAnnounce
  | .fedRowmap | .fedAlloc | .redirect | .fedPropose | .fedAck | .fedConfirm => true

/-! ### What leaves -/

/-- The key of the direction to the master of a session slot (R540). -/
def State.keyTo (s : State) (k : Nat) : List Byte := (s.sess k).keyOut

/-- A frame of the module's own to a session slot, on a network: a notice, or a device request with FLAGS.DEVICE (R436, R437). -/
def State.slotFrame (s : State) (net : Net) (k cmd mbox tag seq : Nat) (payload : List Byte) : List Byte :=
  sealFrame (s.keyTo k) net seq
    (zhoideHead (fieldOf (s.rd (Reg.SS_LEVEL k)) 0 8) (netBit net + 4) (s.rd (Reg.SS_ID k)) seq tag mbox cmd payload.length) payload

/-- The bytes of what leaves in this state, on a network where it leaves on both. The row `wrote` is no frame; plan frames and frame packets
hold their bytes already. -/
def State.wire (s : State) (net : Net) (o : Out) : List Byte :=
  match o with
  | .answer n a => a.frame ((s.slotOf a.session).elim [] s.keyTo) n
  | .plain _ n a => a.frame [] n
  | .wrote _ _ _ _ _ => []
  | .notice k cls tag seq xs => s.slotFrame net k 0xC0 15 tag seq (beBytes 1 cls ++ beBytes 3 0 ++ layOut (noticeLay cls) xs)
  | .device k cmd tag seq xs => s.slotFrame net k cmd 14 tag seq (layMany (deviceLay cmd) [.fld 1] xs)
  | .protoNotice _ _ level code src seq count => noticeBytes level code src seq count
  | .frame kind xs =>
    if kind.isCraori then craFrame s.sec.sendKey kind xs
    else match kind with
      | .plan => (xs.drop 2).map (BitVec.ofNat 8)
      | .packet => xs.map (BitVec.ofNat 8)
      | _ => Config.framePayload 0 xs
  | .data bytes => bytes

end Sys2Proof.Machine
end

