-- ==== Sys2Proof/WellFormed.lean ====
section
/-! DEFINITION. Well-formedness of a command: its operands fit the fields that the wire formats and the registers give them. A command's
meaning does not depend on it: `exec` answers for every term. -/

namespace Sys2Proof

/-- The head of a PTP message in its widths (R60). -/
def PtpHead.ok (h : PtpHead) : Bool :=
  decide (h.sender < 2 ^ 80) && decide (-128 ≤ h.logInterval) && decide (h.logInterval < 128)

/-- The fields of an Announce message in their widths (R59). -/
def Announce.ok (a : Announce) : Bool :=
  decide (a.priority1 < 256) && decide (a.clockClass < 256) && decide (a.accuracy < 256) && decide (a.variance < 65536) &&
  decide (a.priority2 < 256) && decide (a.identity < 2 ^ 64) && decide (a.stepsRemoved < 65536) && a.head.ok

/-- A CAN frame (R449): at most 64 bytes, at most 8 of a classic frame, a base identifier below 2,048, and no FD frame that is remote. -/
def CanFrame.ok (f : CanFrame) : Bool :=
  decide (f.data.length ≤ (if f.fdf then 64 else 8)) && (f.ide || decide (f.id.toNat < 2048)) && !(f.fdf && f.rtr)

/-- Whether the operands of a command fit their fields. -/
def Instr.wellFormed (i : Instr) : Bool :=
  match i with
  | .powerOn _ => true
  | .seracBootVerifyDone _ _ _ => true
  | .portDieBootDone _ _ => true
  | .mainDieBootDone _ _ => true
  | .roleResolve => true
  | .bootTimeout => true
  | .moduleResetInput => true
  | .moduleInsert => true
  | .moduleWithdraw => true
  | .logicInputLost _ _ => true
  | .logicPowerFail => true
  | .actuatorSupplyChange => true
  | .fieldSupplyLimit _ => true
  | .fieldSupplyRestore _ => true
  | .strapChange _ => true
  | .harnessChange _ _ _ => true
  | .selChange _ => true
  | .mainDieThermalLimit _ => true
  | .portDieThermalLimit => true
  | .opticPresent _ _ => true
  | .tickEdge _ _ => true
  | .laneRecover _ => true
  | .laneReady _ => true
  | .frameBoundary => true
  | .framePacket _ _ => true
  | .packetAcceptExchange => true
  | .mainDieAbsent => true
  | .mainDieReset => true
  | .mainPowerGoodLost => true
  | .safetyLinkMLost => true
  | .mainDieRelease => true
  | .mainDieReady => true
  | .tableToRun => true
  | .portDieAbsent => true
  | .portDiePresent => true
  | .crecMake _ => true
  | .crecClear _ => true
  | .ceilingReset _ => true
  | .ptpAnnounce _ _ a => a.ok
  | .ptpSync _ _ m _ _ => m.head.ok
  | .announceReceiptTimeout _ => true
  | .holdoverExpiry => true
  | .instanceDisagree => true
  | .sampleIndexAnchor => true
  | .timReanchor _ => true
  | .snapshotRequest _ => true
  | .commonSnapshot => true
  | .actionCommit _ _ _ => true
  | .actionCancelWrite _ _ _ => true
  | .actionFire _ => true
  | .packetSeal => true
  | .markerWindowClose _ => true
  | .jobCoast _ => true
  | .jobLost _ => true
  | .jobCfgWrite _ _ _ => true
  | .streamFrame _ _ _ => true
  | .quarantineEnd _ => true
  | .reorderWaitExpiry _ => true
  | .streamStale _ => true
  | .pairResolved _ => true
  | .suspectClear _ => true
  | .fieldInputFault _ => true
  | .fieldInputFaultClear _ => true
  | .streamCommit _ => true
  | .streamConfigLoad _ => true
  | .streamAck _ _ => true
  | .guardDigest => true
  | .frameRunStart => true
  | .frameRunEnd _ _ _ => true
  | .frameRunOverrun => true
  | .kernelBatchStart _ => true
  | .kernelBatchEnd _ => true
  | .runMemoryError _ => true
  | .arrayTestDone _ _ _ _ => true
  | .slotLoad _ _ _ => true
  | .slotVerifyDone _ => true
  | .slotUnload _ _ => true
  | .ifdSwitch _ _ => true
  | .ifdPartWrite _ _ => true
  | .replayStart _ _ => true
  | .replayPause _ => true
  | .replayResume _ _ => true
  | .replayStep _ => true
  | .replaySnap _ => true
  | .replayRestore _ => true
  | .replayStop _ => true
  | .replayFrameEnd _ => true
  | .segmentLoadDone _ _ => true
  | .saveRetry => true
  | .logCommit => true
  | .commitWriteback => true
  | .checkpointStart => true
  | .checkpointDone => true
  | .tableCreate _ _ _ => true
  | .tableDelete _ _ => true
  | .tableSave _ _ => true
  | .tableRestore _ _ => true
  | .pcRetired _ _ _ => true
  | .stackLost _ => true
  | .plannerCompute => true
  | .changeFrameEmit => true
  | .refreshFrameEmit _ => true
  | .ceilingCommit _ _ _ => true
  | .ceilingClearWrite _ _ _ => true
  | .stagedChangeStage _ _ _ => true
  | .stagedChangeWithdraw _ _ _ => true
  | .protFrameRebuild _ => true
  | .protectiveCapSignal _ => true
  | .planAck _ _ _ => true
  | .planNoack _ => true
  | .loopCommit _ => true
  | .loopConfigLoad _ => true
  | .plAck _ _ _ => true
  | .plausibilityFault _ => true
  | .loopFailsafe _ => true
  | .loopConfigSave => true
  | .pumpStart _ _ => true
  | .pumpStop _ _ => true
  | .pumpAck _ _ => true
  | .pumpRestore _ _ => true
  | .pumpDriveReady _ => true
  | .pumpProven _ => true
  | .pumpReadyTimeout _ => true
  | .pumpProofTimeout _ => true
  | .pumpStopComplete _ => true
  | .pumpTrip _ _ => true
  | .lockoutWrite _ _ _ => true
  | .valveFault _ => true
  | .valveDeviation _ => true
  | .solPulse _ _ => true
  | .solEnergize _ _ => true
  | .solRelease _ _ => true
  | .solTest _ _ => true
  | .isoReset _ _ => true
  | .solenoidArmatureDip _ => true
  | .solenoidPullinEnd _ => true
  | .solenoidOpenCoil _ => true
  | .solenoidDecayEnd _ => true
  | .solenoidRetry _ => true
  | .solenoidDeferTimeout _ => true
  | .solenoidSelfTest _ _ => true
  | .bankCut _ _ => true
  | .bankCmdCut _ _ => true
  | .bankCmdReclose _ _ _ => true
  | .bankSupplyReclose _ => true
  | .actuatorOverbudget => true
  | .fanKickTimeout _ => true
  | .fanStarted _ => true
  | .fanTachTimeout _ => true
  | .fanOvercurrent _ => true
  | .fanOcRetry _ => true
  | .fanTachRecovered _ => true
  | .fanRetry _ _ => true
  | .fanDemandSilent _ => true
  | .converterCheck _ _ => true
  | .spaiAssign _ _ _ => true
  | .spaiRelease _ _ _ => true
  | .wearCounterSave => true
  | .leakMeasurement l => l.all (fun p => decide (p.2 ≤ 100000))
  | .imbalanceCheck _ => true
  | .leak _ => true
  | .leakFast _ => true
  | .gfault _ => true
  | .leakWaitExpiry _ => true
  | .isoTrip _ => true
  | .loopLeak => true
  | .loopGfault => true
  | .flowSample10ms => true
  | .flowEval100ms => true
  | .dieHard _ => true
  | .digestLost => true
  | .limHard _ => true
  | .loopLimHard _ => true
  | .supHard => true
  | .sequenceEnd _ => true
  | .poweroffNoticeRepeat _ => true
  | .fullcoolAutoExit => true
  | .prtAck _ _ => true
  | .hello _ _ _ => true
  | .sessOpen _ _ _ p => p.nonce.length == 32 && p.ek.length == 1184
  | .sessKey _ _ _ _ c _ => c.length == 32
  | .sessClose _ => true
  | .sessionTimeout _ => true
  | .sessionOpenTimeout _ => true
  | .ping _ => true
  | .subscribe _ _ => true
  | .attest _ n => n.length == 32
  | .ownClaim _ _ _ => true
  | .ownRenew _ _ => true
  | .ownRelease _ _ => true
  | .ownHandover _ _ _ => true
  | .handoverOfferLapse _ => true
  | .ownQuery _ => true
  | .ownerLeaseExpiry _ => true
  | .regrd _ a n _ => decide (a < 2 ^ 40) && decide (n < 65536)
  | .regwr _ a v _ => decide (a < 2 ^ 40) && decide (v.length < 65536)
  | .registerWrite _ a _ => decide (a < 2 ^ 40)
  | .latchedLowWordRead a => decide (a < 2 ^ 40)
  | .rcRegisterRead a => decide (a < 2 ^ 40)
  | .stateReqCommission _ => true
  | .stateReqRun _ => true
  | .stateReqManual _ => true
  | .stateReqMaint _ => true
  | .stateReqLeave _ => true
  | .fullcoolEnter _ => true
  | .fullcoolExit _ => true
  | .rackIsolate _ _ => true
  | .rackTrip _ _ => true
  | .ack _ _ _ => true
  | .setpoint _ _ _ => true
  | .actionAdd _ _ => true
  | .actionCancel _ _ => true
  | .phaseAnnounce _ _ _ l => decide (l.length < 256)
  | .stepMark _ _ _ _ => true
  | .jobSetClear _ _ => true
  | .jobSetAdd _ _ l => decide (l.length < 65536)
  | .jobSetRemove _ _ l => decide (l.length < 65536)
  | .ceilSet _ _ _ _ _ _ => true
  | .ceilClear _ _ => true
  | .xferOpen _ _ _ _ => true
  | .xferData _ _ _ d => decide (d.length ≤ 8176)
  | .xferClose _ _ h => h.length == 32
  | .xferRead _ _ _ _ => true
  | .xferDelete _ _ => true
  | .xferExpiry _ => true
  | .storeAttach _ => true
  | .storeDetach _ => true
  | .storePutResponse _ _ => true
  | .storeGetResponse _ n _ _ => decide (n < 2 ^ 64)
  | .deviceRequestRetry _ => true
  | .deferredExecute _ _ => true
  | .deferTimeout _ _ => true
  | .portLinkDown _ => true
  | .portLinkUp _ => true
  | .canFrameReceived _ f _ => f.ok
  | .podQuantityTimeout _ => true
  | .objStatRead _ _ => true
  | .hpStatRead _ => true
  | .canTxreq _ _ _ => true
  | .canAbort _ _ _ _ => true
  | .canTxComplete _ _ _ => true
  | .canErrorState _ _ _ _ => true
  | .canRecoveryStart _ => true
  | .canRecovered _ => true
  | .canModeWrite _ _ _ => true
  | .canAutoDwellTimeout _ => true
  | .canAutoTimeout _ => true
  | .driveCmdSend => true
  | .driveLost _ => true
  | .heartbeatSend => true
  | .heartbeatReceived _ _ => true
  | .partnerLost => true
  | .peerHealthLost => true
  | .takeover => true
  | .rowAddressRepeat => true
  | .split => true
  | .pairTickMarker _ _ _ => true
  | .pairLaneDown _ _ => true
  | .paiWarm _ _ => true
  | .partnerReadRegs _ _ => true
  | .partnerReadFirn _ _ => true
  | .peekReq _ _ _ _ => true
  | .peekData _ l => decide (l.length ≤ 16)
  | .peekTimeout => true
  | .imageCut => true
  | .imageFrame _ _ o b => decide (o < 2 ^ 32) && decide (b.length ≤ 8184)
  | .imageStale => true
  | .pairBarrierPropose _ => true
  | .pairBarrierAccept _ => true
  | .pairBarrierCancel _ => true
  | .fedBarrierPropose _ _ => true
  | .fedBarrierAck _ _ => true
  | .fedBarrierConfirmDue _ => true
  | .fedBarrierConfirm _ _ _ => true
  | .fedBarrierNoConfirm _ => true
  | .roleSwapRequest _ _ => true
  | .tickRecord _ => true
  | .swapReady => true
  | .lockstepEnterRequest _ _ => true
  | .lockstepLeave _ => true
  | .lockstepInputRecord _ => true
  | .lockstepDigest n d => decide (n.what < 2 ^ 64) && d.length == 32
  | .lockstepGap => true
  | .fedAnnounceSend => true
  | .fedAnnounce a => decide (a.what.adopted.length < 256)
  | .fedMemberLost _ => true
  | .fedRowmap _ l => decide (l.length ≤ 4096)
  | .fedRowmapSend => true
  | .fedCoordinatorAssume => true
  | .fedAllocCompute => true
  | .fedAlloc _ _ l => decide (l.length ≤ 64)
  | .fedAllocStale => true
  | .fedResync => true
  | .adoptPropose _ => true
  | .redirectSend => true
  | .fwInstall _ _ _ => true
  | .fwInstallDone => true
  | .fwActivate _ _ => true
  | .fwCommit _ _ => true
  | .fwRevert _ _ => true
  | .fwTrialGood _ => true
  | .enrolCommit _ _ _ => true
  | .programKeyCommit _ _ _ => true
  | .sendKeyRenew => true
  | .firnWindowLatch _ _ _ => true
  | .firnClear _ _ => true
  | .firnMirrorCopy => true
  | .anchorSecond => true
  | .anchorFree => true
  | .eccCorrectedError _ _ _ => true
  | .busError _ _ => true
  | .scrubPass _ => true
  | .eccTest _ _ _ => true
  | .digestLatch _ _ => true
  | .fieldInputConfigWrite _ _ _ _ => true
  | .logicInputRestored _ _ => true
  | .moduleResetRelease _ => true
  | .portDieThermalRelease => true
  | .uncorrectableError _ _ _ => true
  | .zhoideProtocolViolation _ _ _ => true
  | .solenoidShort _ => true
  | .peerExchangeResponse _ _ => true
  | .tableCreateDone _ => true

end Sys2Proof
end

