-- ==== Sys2Proof/Tests/Slice0.lean ====
section
/-! SUPPORT. The tests of the model: well-formedness refuses an ill-formed term for each check, values of the worked examples of the spec,
and for every statement states and operands that meet the hypotheses of its clauses. -/

set_option Elab.async false
set_option linter.unusedVariables false
set_option linter.unusedTactic false
set_option linter.unreachableTactic false

namespace Sys2Proof.Tests

open Sys2Proof Sys2Proof.Machine

/-! ### States -/

/-- A module in operating state `st` whose session in slot 0 is open with every role and holds every domain, and whose port A0 carries
mailbox and Craori traffic. -/
def base (st : Nat) : State :=
  let s := State.reset.set Fd.SYS_STATE_STATE st
  let s := ((s.set (Fd.SS_STAT_STATE 0) 2).wr (Reg.SS_ID 0) 1).wr (Reg.SS_ROLES 0) 0x7F
  let s := ((s.set (Fd.PORT_CFG_EN 0) 1).set (Fd.PORT_CFG_MBOX 0) 1).set (Fd.PORT_CFG_CRAORI 0) 1
  (List.range 4).foldl (fun (s : State) d => (s.set (Fd.OW_STAT_HELD d) 1).set (Fd.OW_STAT_SLOT d) 0) s

/-- A state with fields set. -/
def sets (s : State) (l : List (Fld × Nat)) : State := l.foldl (fun s p => s.set p.1 p.2) s

/-- A word with fields set, the rest 0. -/
def word (l : List (Fld × Nat)) : Word := l.foldl (fun w p => withField w p.1.lo p.1.width p.2) 0

/-- A state with words listed in front of the others: for words whose reset value is a fuse's, so that nothing compares with it. -/
def fronted (s : State) (l : List (Nat × Word)) : State := { s with regs := l ++ s.regs }

/-- A stream frame of source 5 with one T16 record of channel 3 (R107 to R109). -/
def strmBytes (seq epoch : Nat) : List Byte :=
  let b := beBytes 2 0xF1A7 ++ [1, 0] ++ beBytes 4 5 ++ beBytes 4 seq ++ beBytes 2 epoch ++ beBytes 2 1 ++ beBytes 8 0 ++
    [3, 0] ++ beBytes 2 1 ++ beBytes 4 0 ++ beBytes 2 0x0640 ++ [0, 0]
  b ++ beBytes 4 (crc32 b)

/-- A commissioning record without images. -/
def record : CrecRecord :=
  { seq := 1, time := 0, master := 3, variant := 0, moduleId := 0, images := [], part := 0x20, harness := [], crc := 0 }

/-- A harness identity memory of kind 8 and variant 5 (R605). -/
def harnessBytes : List Byte :=
  let b := beBytes 2 0xF1B0 ++ [1, 8, 5, 0, 0, 0] ++ beBytes 4 0x11223344 ++ beBytes 4 0x55667788 ++ List.replicate 108 0
  b ++ beBytes 4 (crc32 b)

/-- A powered module in POWERUP whose Serac has a GOOD firmware in slot A. -/
def poweredUp : State := { fronted State.reset [(Reg.FW_SLOT 0, word [(Fd.FW_SLOT_STATE_A 0, 3)])] with sys := { State.reset.sys with powered := true } }

/-- A request of that session. -/
def req : Req := { src := 1, port := 0, row := false, session := 1, seq := 1, tag := 7, mbox := 0, defer := false, deferMs := 0 }

/-- The state in which a request of slot `k` is judged. -/
def judged (s : State) (q : Req) (k : Nat) : State :=
  match seqVerdict ((s.onFrame k q).sess k).rxHigh ((s.onFrame k q).sess k).rxWin q.seq.toNat with
  | .fresh h w => (s.onFrame k q).arrive k h w q
  | _ => s

/-- Whether a request reaches its judgement. -/
def reachesB (s : State) (q : Req) (k : Nat) : Bool :=
  let u := judged s q k
  s.portTakes Fd.PORT_CFG_MBOX q.port q.src q.row && ((s.countRx q.port).quarEntry q.src).isNone && (s.countRx q.port).slotOf q.session == some k &&
  (q.defer || q.deferMs == 0) &&
  (match seqVerdict ((s.onFrame k q).sess k).rxHigh ((s.onFrame k q).sess k).rxWin q.seq.toNat with | .fresh _ _ => true | _ => false) &&
  (u.mailbox k q.mbox).exec.isNone && (u.mailbox k q.mbox).held.all (fun h => h.tag != q.tag) && (u.mailbox k q.mbox).last.all (fun a => a.tag != q.tag)

theorem reaches_of (s : State) (q : Req) (k : Nat) (h : reachesB s q k = true) : s.Reaches q k (judged s q k) := by
  unfold reachesB at h
  simp only [Bool.and_eq_true, Option.isNone_iff_eq_none, beq_iff_eq, Bool.or_eq_true] at h
  obtain ⟨⟨⟨⟨⟨⟨⟨h1, h2⟩, h3⟩, h4⟩, h5⟩, h6⟩, h7⟩, h8⟩ := h
  refine ⟨h1, h2, h3, h4, ?_, h6, h7, h8⟩
  unfold judged
  split at h5
  · rename_i a b e
    exact ⟨a, b, e, rfl⟩
  · cases h5

/-- Whether a sessionless frame is taken. -/
def plainTakenB (s : State) (q : Plain) : Bool :=
  s.portTakes Fd.PORT_CFG_MBOX q.port q.src q.row && ((s.countRx q.port).quarEntry q.src).isNone

theorem plain_of (s : State) (q : Plain) (h : plainTakenB s q = true) : s.TakesPlain q := by
  unfold plainTakenB at h
  simp only [Bool.and_eq_true, Option.isNone_iff_eq_none] at h
  exact ⟨h.1, h.2⟩

/-- Whether a Craori frame is taken. -/
def craTakenB (s : State) (c : Came) : Bool :=
  s.portTakes Fd.PORT_CFG_CRAORI c.port c.src c.row && ((s.countRx c.port).quarEntry c.src).isNone

theorem cra_of (s : State) (c : Came) (h : craTakenB s c = true) : s.TakesCra c := by
  unfold craTakenB at h
  simp only [Bool.and_eq_true, Option.isNone_iff_eq_none] at h
  exact ⟨h.1, h.2⟩

/-- Whether a write is taken. -/
def takenB (s : State) (k a : Nat) (v : Word) (ok : Bool) : Bool :=
  (s.checkWords k [(a, v)]).isNone && (rowAt a).elim true (fun r => fieldsOk r v) && ok

theorem taken_of (s : State) (k a : Nat) (v : Word) (ok : Bool) (h : takenB s k a v ok = true) : s.WriteTaken k a v ok := by
  unfold takenB at h
  simp only [Bool.and_eq_true, Option.isNone_iff_eq_none] at h
  exact ⟨h.1.1, h.1.2, h.2⟩

/-- An image of a role with no stage. -/
def prog (role : Nat) : Img := ⟨1, role, false, 1, 1, [], [], 10, 0, 0, 7, [], [], [], List.replicate 32 9⟩

/-- A run that has emitted nothing. -/
def noRun : RunOut := ⟨[], [], [], [], [], [], [], 0, 0, 0, 0, [], false, 0⟩

/-- A state with an image of a role active in a slot. -/
def running (s : State) (k role : Nat) : State :=
  let t := (sets s [(Fd.SLOT_STAT_STATE k, 3), (Fd.SLOT_STAT_ROLE k, role), (Fd.IFD_CTRL_EN, 1)])
  { t with ice := { t.ice with slots := t.ice.slots.put k ⟨1, some (prog role)⟩ } }

/-- The coordinator of a federation of one member. -/
def fedOne : State :=
  fronted (sets (base 4) [(Fd.PAI_FED_CTRL_EN, 1), (Fd.PAI_STAT_ROLE, 1), (Fd.PAI_FED_STAT_FSTATE, 2), (Fd.MEM_STAT_FSTATE 0, 2),
    (Fd.MEM_STAT_STATE 0, 4), (Fd.PAI_FED_STAT_COORD, 1)]) [(Reg.PAI_LVL, 0x010101)]

/-- An ANNOUNCE of module 5 as a member in RUN. -/
def announce : FedAnnounce := ⟨5, 1, true, 4, 1, 1, 1, 1, 900, 0, 700, 600, 50, []⟩

/-- A sessionless frame, and one of Craori, that port A0 carries. -/
def plain0 : Plain := ⟨77, 0, false, 9, 3⟩
def came0 : Came := ⟨77, 0, false⟩

/-- Without an active slot no time and no bandwidth is used. -/
theorem no_slots {s : State} (h : s.activeSet = []) :
    (∀ (p : Word) (cfg : List (Nat × Word)), s.overTime s.activeSet p cfg = false) ∧
      ∀ cfg : List (Nat × Word), s.overBandwidth s.activeSet cfg = false := by
  rw [h]
  exact ⟨fun p cfg => by simp [State.overTime], fun cfg => by simp [State.overBandwidth]⟩

/-- An answer that is there is its own default. -/
theorem some_getD {α : Type} {o : Option α} {d : α} (h : o.isSome = true) : o = some (o.getD d) := by
  cases o with
  | none => cases h
  | some x => rfl

/-- A segment finds no room where the stacks list no free byte. -/
theorem no_room (s : State) (tb seg : Nat) (h : ∀ k : Fin 12, Tab.find s.tbl.free k.val = some 0) (hb : 0 < s.segBytes tb) :
    s.place tb seg = none := by
  have hf : ∀ k, s.stackFree k = 0 := by
    intro k
    unfold State.stackFree
    split
    · rename_i hk
      have h12 : k < 12 := lt_of_lt_of_le hk.1 (by unfold stackCount; split <;> decide)
      rw [h ⟨k, h12⟩]
      rfl
    · rfl
  unfold State.place
  simp only [hf]
  rw [if_neg (by omega)]

/-! ### Well-formedness: a well-formed command is accepted, and each check refuses a term that fails it -/

/-- An Announce message that fits its fields. -/
def ann : Announce := ⟨128, 6, 0x21, 0x4E5D, 128, 7, 1, ⟨5, 0, 1, 0⟩⟩

theorem test_wellFormed_accepts :
    Instr.wellFormed (.ptpAnnounce .a 0 ann) = true ∧ Instr.wellFormed .roleResolve = true ∧
      Instr.wellFormed (.registerWrite 0 Reg.TIM_HOLD_LIM 3600) = true := by decide

theorem test_announce_widths :
    Instr.wellFormed (.ptpAnnounce .a 0 { ann with priority1 := 256 }) = false ∧ Instr.wellFormed (.ptpAnnounce .a 0 { ann with clockClass := 256 }) = false ∧
      Instr.wellFormed (.ptpAnnounce .a 0 { ann with accuracy := 256 }) = false ∧ Instr.wellFormed (.ptpAnnounce .a 0 { ann with variance := 65536 }) = false ∧
      Instr.wellFormed (.ptpAnnounce .a 0 { ann with priority2 := 256 }) = false ∧ Instr.wellFormed (.ptpAnnounce .a 0 { ann with identity := 2 ^ 64 }) = false ∧
      Instr.wellFormed (.ptpAnnounce .a 0 { ann with stepsRemoved := 65536 }) = false ∧
      Instr.wellFormed (.ptpAnnounce .a 0 { ann with head := ⟨2 ^ 80, 0, 1, 0⟩ }) = false := by decide +kernel

theorem test_ptp_head_widths :
    Instr.wellFormed (.ptpSync .a 0 ⟨⟨5, 0, 1, -7⟩, 0, false⟩ 0 0) = true ∧ Instr.wellFormed (.ptpSync .a 0 ⟨⟨2 ^ 80, 0, 1, 0⟩, 0, false⟩ 0 0) = false ∧
      Instr.wellFormed (.ptpSync .a 0 ⟨⟨5, 0, 1, 128⟩, 0, false⟩ 0 0) = false ∧
      Instr.wellFormed (.ptpSync .a 0 ⟨⟨5, 0, 1, -129⟩, 0, false⟩ 0 0) = false := by decide +kernel

/-- A classic base frame without data. -/
def frame0 : CanFrame := ⟨5, false, false, false, false, false, 0, []⟩

theorem test_can_frame_widths :
    Instr.wellFormed (.canFrameReceived 0 frame0 0) = true ∧
      Instr.wellFormed (.canFrameReceived 0 { frame0 with data := List.replicate 9 0 } 0) = false ∧
      Instr.wellFormed (.canFrameReceived 0 { frame0 with fdf := true, data := List.replicate 65 0 } 0) = false ∧
      Instr.wellFormed (.canFrameReceived 0 { frame0 with id := 2048 } 0) = false ∧
      Instr.wellFormed (.canFrameReceived 0 { frame0 with fdf := true, rtr := true } 0) = false := by decide +kernel

theorem test_address_widths :
    Instr.wellFormed (.regrd req (2 ^ 40) 1 none) = false ∧ Instr.wellFormed (.regrd req 0 65536 none) = false ∧
      Instr.wellFormed (.regwr req (2 ^ 40) [] none) = false ∧ Instr.wellFormed (.registerWrite 0 (2 ^ 40) 0) = false ∧
      Instr.wellFormed (.latchedLowWordRead (2 ^ 40)) = false ∧ Instr.wellFormed (.rcRegisterRead (2 ^ 40)) = false := by decide +kernel

theorem test_list_lengths :
    Instr.wellFormed (.regwr req 0 (List.replicate 65536 0) none) = false ∧ Instr.wellFormed (.phaseAnnounce req 0 0 (List.replicate 256 (0, 0))) = false ∧
      Instr.wellFormed (.jobSetAdd req 0 (List.replicate 65536 0)) = false ∧ Instr.wellFormed (.jobSetRemove req 0 (List.replicate 65536 0)) = false ∧
      Instr.wellFormed (.xferData req 0 0 (List.replicate 8177 0)) = false ∧ Instr.wellFormed (.peekData 0 (List.replicate 17 0)) = false ∧
      Instr.wellFormed (.imageFrame (.lane 0) 0 0 (List.replicate 8185 0)) = false ∧ Instr.wellFormed (.imageFrame (.lane 0) 0 (2 ^ 32) []) = false ∧
      Instr.wellFormed (.fedAnnounce ⟨came0, { announce with adopted := List.replicate 256 ⟨0, 0, 0⟩ }⟩) = false ∧
      Instr.wellFormed (.fedRowmap ⟨came0, 0⟩ (List.replicate 4097 ⟨0, 0, 0, 0, 0, []⟩)) = false ∧
      Instr.wellFormed (.fedAlloc ⟨came0, 0⟩ 0 (List.replicate 65 ⟨0, 0, 0⟩)) = false := by
  simp only [Instr.wellFormed, List.length_replicate]
  decide +kernel

theorem test_crypto_lengths :
    Instr.wellFormed (.sessOpen came0 9 3 ⟨1, 0, 0, 0, List.replicate 31 0, List.replicate 1184 0, [], [], [], [], []⟩) = false ∧
      Instr.wellFormed (.sessOpen came0 9 3 ⟨1, 0, 0, 0, List.replicate 32 0, List.replicate 1183 0, [], [], [], [], []⟩) = false ∧
      Instr.wellFormed (.sessKey came0 9 3 0 (List.replicate 31 0) []) = false ∧ Instr.wellFormed (.attest req (List.replicate 31 0)) = false ∧
      Instr.wellFormed (.xferClose req 0 (List.replicate 31 0)) = false ∧ Instr.wellFormed (.lockstepDigest ⟨came0, 0⟩ (List.replicate 31 0)) = false ∧
      Instr.wellFormed (.lockstepDigest ⟨came0, 2 ^ 64⟩ (List.replicate 32 0)) = false ∧ Instr.wellFormed (.storeGetResponse req (2 ^ 64) 0 none) = false ∧
      Instr.wellFormed (.leakMeasurement [(0, 100001)]) = false := by
  simp only [Instr.wellFormed, List.length_replicate]
  decide +kernel

/-! ### Values of the spec's worked examples -/

/-- The nominal and the data word of the example after R451: 500 kbit/s at 80 %, 4 Mbit/s at 75 %. -/
theorem test_can_timing_example : nominalWord 1 = 0x01F3EFC0 ∧ dataWord 2 0 = 0x007D11A0 := by decide

/-- The example of chapter 12: a federation of 20 members absorbs 2 rows with a reserve of 410 local indices per member. -/
theorem test_reserve_example : rowsAbsorbed 20 = 2 ∧ reservedOf 20 = 410 := by decide

/-- The check value of CRC-32 with the IEEE 802.3 polynomial: the bytes of "123456789". -/
theorem test_crc_check_value : crc32 [0x31, 0x32, 0x33, 0x34, 0x35, 0x36, 0x37, 0x38, 0x39] = 0xCBF43926 := by decide +kernel

/-! ### Witnesses: states and operands that meet the hypotheses of the statements -/

theorem witness_AStepTakesTheFrontCommand :
    (∃ (c : Instr) (rest : List Instr) (s : State), s.pending = c :: rest) ∧ ∃ s : State, s.pending = [] :=
  ⟨⟨.roleResolve, [.heartbeatSend], { base 4 with pending := [.roleResolve, .heartbeatSend] }, rfl⟩, base 4, by decide +kernel⟩

/-- A state other than reset that meets the invariant, with a command waiting and a record written: for EveryStepKeepsTheInvariant and
AnyRunIsSafe. -/
theorem witness_inv : ∃ s : State, Inv s ∧ s.pending ≠ [] ∧ s.firn.seq = 3 :=
  ⟨{ base 4 with pending := [.roleResolve], firn := { (base 4).firn with seq := 3, limit := 65536 } },
    ⟨by decide +kernel, ⟨by decide +kernel, by decide +kernel, by decide +kernel, by decide +kernel⟩⟩, by decide, rfl⟩

theorem witness_EachPartHasItsMovers :
    ∀ p ∈ [Part.clk, .servo, .ice, .plan, .field, .can, .lop, .lst, .fed, .pair], ∃ i : Instr, moves i p = false ∧ ∃ j : Instr, moves j p = true := by
  intro p h
  refine ⟨.ceilingReset 0, ?_, .split, ?_⟩ <;> (revert p; decide)

theorem witness_BusTimingIsWrittenInOff :
    (∃ (s : State) (b : Fin 8) (a : Nat), a ∈ [Reg.BUS_NBT b, Reg.BUS_DBT b, Reg.BUS_AUTO b] ∧ s.fld (Fd.BUS_CTRL_MODE b) = 0) ∧
    (∃ (s : State) (b : Fin 8) (a : Nat), a ∈ [Reg.BUS_NBT b, Reg.BUS_DBT b, Reg.BUS_AUTO b] ∧ s.fld (Fd.BUS_CTRL_MODE b) ≠ 0) :=
  ⟨⟨base 4, 7, Reg.BUS_AUTO 7, by decide, by decide +kernel⟩, sets (base 4) [(Fd.BUS_CTRL_MODE 7, 2)], 7, Reg.BUS_NBT 7, by decide, by decide +kernel⟩

theorem witness_SamplesPassInOrder :
    (∃ (s : State) (i : Fin 262144) (w : BitVec 64) (l : BitVec 64), (s.strm i).lastIdx = some l ∧ diff64 (s.indexOf w) l = 0) ∧
    (∃ (s : State) (i : Fin 262144) (w : BitVec 64) (l : BitVec 64), (s.strm i).lastIdx = some l ∧ diff64 (s.indexOf w) l = 1) ∧
    (∃ (s : State) (i : Fin 262144), (s.strm i).lastIdx = none) :=
  ⟨⟨(base 4).setStrm 262143 { Strm.fresh 0 with lastIdx := some 3 }, 262143, 30000, 3, by decide +kernel, by decide +kernel⟩,
   ⟨(base 4).setStrm 262143 { Strm.fresh 0 with lastIdx := some 2 }, 262143, 30000, 2, by decide +kernel, by decide +kernel⟩,
   base 4, 0, by decide +kernel⟩

/-- A judgement that finds BUSY. -/
def busyJudge : Judge := { code := 0x10, busy := true, run := fun _ s => (s, .later) }

theorem witness_RefusalsChangeNothing :
    (∃ (s u : State) (q : Req) (k : Nat) (j : Nat → State → Judge) (d : Denial),
      s.Reaches q k u ∧ (j k u).code = 0x10 ∧ (j k u).first q u = some d ∧ d.status ≠ 0 ∧ (d.status = 0x10 → q.defer = false) ∧
        (j k u).first { q with defer := false } u = some d) ∧
    (∃ (s : State) (w a : Nat) (v : Word) (d : Denial), s.checkWords w [(a, v)] = some d) ∧
    (∃ (s : State) (w a : Nat) (v : Word) (ok : Bool), s.checkWords w [(a, v)] = none ∧ ((rowAt a).elim true (fun r => fieldsOk r v) && ok) = false) :=
  ⟨⟨base 4, judged (base 4) req 0, req, 0, fun _ _ => busyJudge, ⟨0x12, 0, 0⟩, reaches_of (base 4) req 0 (by decide +kernel), rfl, by decide +kernel,
      by decide, by decide, by decide +kernel⟩,
   ⟨base 4, 0, 3, 0, ⟨0x20, 0, 3⟩, by decide +kernel⟩,
   base 4, 0, Reg.TIM_HOLD_LIM, 3600, false, by decide +kernel, by decide +kernel⟩

theorem witness_WordsKeepTheirOrderOnTheWire : ∃ n v : Nat, v < 256 ^ n ∧ v < 256 ^ (n + 1) := ⟨2, 0xF1A7, by decide, by decide⟩

theorem witness_TheDealGivesEachItsRoom : ∃ (q : List (Nat × Nat)) (m c n : Nat), (q.map (·.1)).Nodup ∧ (m, c) ∈ q ∧ 0 < n :=
  ⟨[(4, 2), (9, 0), (11, 1)], 4, 2, 20, by decide, by decide, by decide⟩

/-- An accelerator of rack 3 under a SURVIVAL cap, with a module budget, a rack budget and a ceiling over it. -/
def capped : State :=
  { sets (base 4) [(Fd.ACC_CFG_TDP 7, 1200), (Fd.RK_OUT_CAP 3, 2), (Fd.CL_CTRL_VALID 1023, 1), (Fd.CL_CTRL_SCOPE 1023, 1), (Fd.CL_CTRL_INDEX 1023, 3), (Fd.PLN_CTRL_EN, 1)] with
    stm := { (base 4).stm with row := [(7, 3)] } }

theorem witness_ThePlanStaysUnderItsLimits :
    (∃ (s : State) (a : Nat), s.accCap a = 2 ∧ s.accCap a ≠ 0 ∧ s.ceilValues a ≠ []) ∧
    (∃ s : State, s.modBudget ≠ noLimit) ∧ ∃ (s : State) (r : Nat), (s.rd (Reg.RK_BUDGET r)).toNat ≠ noLimit ∧ s.rackAccs r ≠ [] :=
  ⟨⟨capped, 7, by decide +kernel, by decide +kernel, by decide +kernel⟩, ⟨capped.wr Reg.PLN_MOD_BUDGET 500, by decide +kernel⟩,
   capped.wr (Reg.RK_BUDGET 3) 500, 3, by decide +kernel, by decide +kernel⟩

def at_HoldoverHasALimit_0 : State :=
  { sets (base 4) [(Fd.TIM_STAT_SERVO, 3), (Fd.TIM_HOLD_LIM_SEC, 10)] with clk := { (base 4).clk with now := 1000000 } }

def at_HoldoverHasALimit_1 : State :=
  { sets (base 4) [(Fd.TIM_STAT_SERVO, 3), (Fd.TIM_HOLD_LIM_SEC, 10)] with clk := { (base 4).clk with now := 999999 } }

def at_HoldoverHasALimit_2 : State :=
  (base 4).wr (Reg.SS_STAT 7) 0

/-- Every clause of HoldoverHasALimit has a state and operands that meet its hypotheses. -/
theorem witness_HoldoverHasALimit :
    (∃ (s : State), s.fld Fd.TIM_STAT_SERVO = 3 ∧ s.servo.holdFrom + 100000 * s.fld Fd.TIM_HOLD_LIM_SEC ≤ s.clk.now) ∧
    (∃ (s : State), s.clk.now < s.servo.holdFrom + 100000 * s.fld Fd.TIM_HOLD_LIM_SEC) ∧
    (∃ (w : Fin 8) (value : Word) (s : State), (value.toNat < 10 ∨ 86400 < value.toNat)) ∧
    (∃ (w : Fin 8) (value : Word) (s : State), s.checkWords w [(Reg.TIM_HOLD_LIM, value)] = none ∧ 10 ≤ value.toNat ∧ value.toNat ≤ 86400) :=
  ⟨⟨at_HoldoverHasALimit_0, (by decide +kernel), (by decide +kernel)⟩,
   ⟨at_HoldoverHasALimit_1, (by decide +kernel)⟩,
   ⟨(7), (86401), at_HoldoverHasALimit_2, (by decide +kernel)⟩,
   ⟨(0), (86400), (base 4), (by decide +kernel), (by decide +kernel)⟩⟩

def at_CommitsEndSessionsAndRoles_0 : State :=
  { sets (base 3) [(Fd.EN_MASTER_NUM 63, 7), (Fd.EN_CFG_VALID 63, 1), (Fd.EN_CFG_VALID 0, 1), (Fd.EN_CFG_ROLES 0, 0x7F), (Fd.SS_STAT_STATE 4, 2), (Fd.SS_STAT_MASTER 4, 7), (Fd.SS_STAT_STATE 5, 1), (Fd.SS_STAT_MASTER 5, 7), (Fd.OW_STAT_SLOT 1, 4)] with sec := { (base 3).sec with enr := [(63, (7, []))] } }

def at_CommitsEndSessionsAndRoles_1 : State :=
  { sets (base 3) [(Fd.EN_MASTER_NUM 63, 7), (Fd.EN_CFG_VALID 63, 1), (Fd.EN_CFG_VALID 0, 1), (Fd.EN_CFG_ROLES 0, 0x7F), (Fd.SS_STAT_STATE 4, 2), (Fd.SS_STAT_MASTER 4, 7), (Fd.OW_STAT_SLOT 1, 4)] with sec := { (base 3).sec with enr := [(63, (7, []))] } }

/-- Every clause of CommitsEndSessionsAndRoles has a state and operands that meet its hypotheses. -/
theorem witness_CommitsEndSessionsAndRoles :
    (∃ (w : Fin 8) (n : Fin 64) (value : Word) (s : State), s.WriteTaken w (Reg.EN_CFG n) value (s.enrolOk n value) ∧ s.on (Fd.EN_CFG_VALID n) = true ∧ (fieldOf value 31 1 = 0 ∨ s.fld (Fd.EN_MASTER_NUM n) ≠ s.enrolNum n)) ∧
    (∃ (w : Fin 8) (n : Fin 64) (value : Word) (s : State), s.WriteTaken w (Reg.EN_CFG n) value (s.enrolOk n value) ∧ s.on (Fd.EN_CFG_VALID n) = true ∧ fieldOf value 31 1 = 1 ∧ s.fld (Fd.EN_MASTER_NUM n) = s.enrolNum n) :=
  ⟨⟨(0), (63), (0), at_CommitsEndSessionsAndRoles_0, taken_of _ _ _ _ _ (by decide +kernel), (by decide +kernel), (by decide +kernel)⟩,
   ⟨(0), (63), (0x80000010), at_CommitsEndSessionsAndRoles_1, taken_of _ _ _ _ _ (by decide +kernel), (by decide +kernel), (by decide +kernel), (by decide +kernel)⟩⟩

def at_AnyFacilityMasterSetsCeilings_0 : State :=
  (base 4).wr (Reg.OW_STAT 1) 0

def at_AnyFacilityMasterSetsCeilings_1 : State :=
  (base 4).wr (Reg.SS_ROLES 0) 0x7E

def at_AnyFacilityMasterSetsCeilings_2 : State :=
  sets (base 4) [(Fd.CL_CTRL_VALID 1023, 1), (Fd.OW_STAT_HELD 1, 0)]

def at_AnyFacilityMasterSetsCeilings_3 : State :=
  (sets (base 4) [(Fd.CL_CTRL_VALID 1023, 1)]).wr (Reg.SS_ROLES 0) 0x7E

def at_AnyFacilityMasterSetsCeilings_4 : State :=
  ((base 4).wr (Reg.CL_VAL 1023) 500).wr (Reg.OW_STAT 1) 0

def at_AnyFacilityMasterSetsCeilings_5 : State :=
  ((base 4).wr (Reg.CL_VAL 1023) 500).wr (Reg.SS_ROLES 0) 0x7E

def at_AnyFacilityMasterSetsCeilings_8 : State :=
  (sets (base 4) [(Fd.CL_CTRL_VALID 1023, 1)]).wr (Reg.OW_STAT 1) 0

/-- Every clause of AnyFacilityMasterSetsCeilings has a state and operands that meet its hypotheses. -/
theorem witness_AnyFacilityMasterSetsCeilings :
    (∃ (q : Req) (entry : BitVec 16) (scope form : Byte) (index : BitVec 16) (value : Word) (s : State) (k : Nat) (u : State), s.Reaches q k u ∧ s.mainAbsent = false ∧ s.inMap 0x03FA = true ∧ q.defer = false ∧ entry.toNat < 1024 ∧ (scope.toNat < 4 ∧ form.toNat < 2 ∧ scopeOk scope.toNat index.toNat = true ∧ (form = 0 → value.toNat ≤ 0xFFFE)) ∧ s.hasRole k roleFacility = true) ∧
    (∃ (q : Req) (entry : BitVec 16) (scope form : Byte) (index : BitVec 16) (value : Word) (s : State) (k : Nat) (u : State), s.Reaches q k u ∧ s.mainAbsent = false ∧ q.defer = false ∧ entry.toNat < 1024 ∧ (scope.toNat < 4 ∧ form.toNat < 2 ∧ scopeOk scope.toNat index.toNat = true ∧ (form = 0 → value.toNat ≤ 0xFFFE)) ∧ s.hasRole k roleFacility = false) ∧
    (∃ (q : Req) (entry : BitVec 16) (s : State) (k : Nat) (u : State), s.Reaches q k u ∧ s.mainAbsent = false ∧ s.inMap 0x03FA = true ∧ q.defer = false ∧ entry.toNat < 1024 ∧ s.hasRole k roleFacility = true ∧ s.on (Fd.CL_CTRL_VALID entry.toNat) = true) ∧
    (∃ (q : Req) (entry : BitVec 16) (s : State) (k : Nat) (u : State), s.Reaches q k u ∧ s.mainAbsent = false ∧ q.defer = false ∧ (entry.toNat < 1024 ∨ entry = 0xFFFF) ∧ s.hasRole k roleFacility = false) ∧
    (∃ (w : Fin 8) (c : Fin 1024) (value : Word) (s : State), s.mainAbsent = false ∧ s.inMap 0x03FA = true ∧ crossPlan s (Reg.CL_CTRL c) (value ||| 0x80000000) = true ∧ s.sessOpen w = true ∧ s.hasRole w roleFacility = true) ∧
    (∃ (w : Fin 8) (c : Fin 1024) (value : Word) (s : State), s.mainAbsent = false ∧ s.hasRole w roleFacility = false) ∧
    (∃ (w : Fin 8) (c : Fin 1024) (value : Word) (s : State), s.mainAbsent = false ∧ s.inMap 0x03FA = true ∧ crossPlan s (Reg.CL_CTRL c) (value &&& 0x7FFFFFFF) = true ∧ s.sessOpen w = true ∧ s.hasRole w roleFacility = true) ∧
    (∃ (w : Fin 8) (c : Fin 1024) (value : Word) (s : State), s.mainAbsent = false ∧ s.hasRole w roleFacility = false) ∧
    (∃ (w : Fin 8) (value : Word) (s : State) (c : Fin 1024), s.mainAbsent = false ∧ s.inMap 0x03FA = true ∧ s.sessOpen w = true ∧ s.hasRole w roleFacility = true) ∧
    (∃ (w : Fin 8) (value : Word) (s : State) (c : Fin 1024), s.mainAbsent = false ∧ s.hasRole w roleFacility = false) :=
  ⟨⟨(req), (1023), (1), (0), (47), (500), at_AnyFacilityMasterSetsCeilings_0, (0), (judged at_AnyFacilityMasterSetsCeilings_0 (req) (0)), reaches_of at_AnyFacilityMasterSetsCeilings_0 (req) (0) (by decide +kernel), (by decide +kernel), (by decide +kernel), (by decide +kernel), (by decide +kernel), (by first | decide +kernel | exact ⟨rfl, by decide +kernel⟩ | rfl), (by decide +kernel)⟩,
   ⟨(req), (1023), (1), (0), (47), (500), at_AnyFacilityMasterSetsCeilings_1, (0), (judged at_AnyFacilityMasterSetsCeilings_1 (req) (0)), reaches_of at_AnyFacilityMasterSetsCeilings_1 (req) (0) (by decide +kernel), (by decide +kernel), (by decide +kernel), (by decide +kernel), (by first | decide +kernel | exact ⟨rfl, by decide +kernel⟩ | rfl), (by decide +kernel)⟩,
   ⟨(req), (1023), at_AnyFacilityMasterSetsCeilings_2, (0), (judged at_AnyFacilityMasterSetsCeilings_2 (req) (0)), reaches_of at_AnyFacilityMasterSetsCeilings_2 (req) (0) (by decide +kernel), (by decide +kernel), (by decide +kernel), (by decide +kernel), (by decide +kernel), (by decide +kernel), (by decide +kernel)⟩,
   ⟨(req), (0xFFFF), at_AnyFacilityMasterSetsCeilings_3, (0), (judged at_AnyFacilityMasterSetsCeilings_3 (req) (0)), reaches_of at_AnyFacilityMasterSetsCeilings_3 (req) (0) (by decide +kernel), (by decide +kernel), (by decide +kernel), (by decide +kernel), (by decide +kernel)⟩,
   ⟨(0), (1023), (0x30), at_AnyFacilityMasterSetsCeilings_4, (by decide +kernel), (by decide +kernel), (by decide +kernel), (by decide +kernel)⟩,
   ⟨(0), (1023), (0x30), at_AnyFacilityMasterSetsCeilings_5, (by decide +kernel), (by decide +kernel)⟩,
   ⟨(0), (1023), (0x30), at_AnyFacilityMasterSetsCeilings_2, (by decide +kernel), (by decide +kernel), (by decide +kernel), (by decide +kernel)⟩,
   ⟨(0), (1023), (0x30), at_AnyFacilityMasterSetsCeilings_3, (by decide +kernel), (by decide +kernel)⟩,
   ⟨(0), (900), at_AnyFacilityMasterSetsCeilings_8, (1023), (by decide +kernel), (by decide +kernel), (by decide +kernel)⟩,
   ⟨(0), (900), at_AnyFacilityMasterSetsCeilings_3, (1023), (by decide +kernel), (by decide +kernel)⟩⟩

def at_BarrierEntriesHaveNoLateAllowance_0 : State :=
  { (base 4).wr (Reg.AE_TRIG_LO 4095) 100 with clk := { (base 4).clk with sidx := 101 } }

def at_BarrierEntriesHaveNoLateAllowance_1 : State :=
  { base 4 with clk := { (base 4).clk with sidx := 101 } }

/-- Every clause of BarrierEntriesHaveNoLateAllowance has a state and operands that meet its hypotheses. -/
theorem witness_BarrierEntriesHaveNoLateAllowance :
    (∃ (w : Fin 8) (n : Fin 4096) (value : Word) (s : State), s.WriteTaken w (Reg.AE_CTRL n) value (crossAction value) ∧ s.fld (Fd.AE_STAT_STATE n) ≠ 1 ∧ fieldOf value 31 1 = 1 ∧ fieldOf value 24 4 = 6 ∧ 0 < s.lateness ((s.wr (Reg.AE_CTRL n) (writeMasked (s.rd (Reg.AE_CTRL n)) value 0xFFFF8000 0)).trigger n)) ∧
    (∃ (q : Req) (a : ActionFields) (s : State) (k : Nat) (u : State), s.Reaches q k u ∧ (judgeActionAdd a k u).first q u = none ∧ a.kind = 6 ∧ 0 < s.lateness ⟨a.trig.toNat, 6, a.job.toNat, a.every.toNat == 1, actionValue a⟩) :=
  ⟨⟨(0), (4095), (0x96000000), at_BarrierEntriesHaveNoLateAllowance_0, taken_of _ _ _ _ _ (by decide +kernel), (by decide +kernel), (by decide +kernel), (by decide +kernel), (by decide +kernel)⟩,
   ⟨(req), (⟨1, 6, 7, 0, 100, 11, 12⟩), at_BarrierEntriesHaveNoLateAllowance_1, (0), (judged at_BarrierEntriesHaveNoLateAllowance_1 (req) (0)), reaches_of at_BarrierEntriesHaveNoLateAllowance_1 (req) (0) (by decide +kernel), (by decide +kernel), (by decide +kernel), (by decide +kernel)⟩⟩

def at_RegistersAreReadAndWritten_0 : State :=
  { base 4 with clk := { (base 4).clk with sidx := 0x123456789, mtime := 5000000007 } }

def at_RegistersAreReadAndWritten_1 : State :=
  (base 4).wr 0x100009C 7

def at_RegistersAreReadAndWritten_2 : State :=
  sets (base 4) [(Fd.SYS_STATE_MAIN_ABSENT, 1)]

def at_RegistersAreReadAndWritten_3 : State :=
  (base 4).wr 0x1000094 7

def at_RegistersAreReadAndWritten_8 : State :=
  { base 4 with sys := { (base 4).sys with seracUp := true } }

def at_RegistersAreReadAndWritten_12 : State :=
  (base 4).wr (Reg.OW_STAT 0) 0

/-- Every clause of RegistersAreReadAndWritten has a state and operands that meet its hypotheses. -/
theorem witness_RegistersAreReadAndWritten :
    (∃ (s : State), s.mainAbsent = false) ∧
    (∃ (addr : Nat) (s : State), s.reachable addr = true) ∧
    (∃ (addr : Nat) (s : State), s.reachable addr = false) ∧
    (∃ (addr : Nat) (s : State), s.reachable addr = true) ∧
    (∃ (addr : Nat) (s : State) (r : RegRow), s.reachable addr = true ∧ rowAt addr = some r ∧ r.rc ≠ 0 ∧ windowOf addr ≠ 10 ∧ stickyPartners addr ++ oncePartners addr = []) ∧
    (∃ (q : Req) (addr count : Nat) (s : State) (k : Nat) (u : State), s.Reaches q k u ∧ (judgeRegrd addr count none k u).first q u = none) ∧
    (∃ (q : Req) (addr count : Nat) (busErr : Option Nat) (s : State) (k : Nat) (u : State) (n : Nat), s.Reaches q k u ∧ (judgeRegrd addr count busErr k u).first q u = none ∧ busErr = some n ∧ n < count) ∧
    (∃ (q : Req) (addr count : Nat) (busErr : Option Nat) (s : State) (k : Nat) (u : State), s.Reaches q k u ∧ (count = 0 ∨ 64 < count)) ∧
    (∃ (count : Fin 16) (addr : BitVec 64) (s : State), s.sys.seracUp = true ∧ (wordsFrom addr.toNat (count + 1)).all s.peekable = true) ∧
    (∃ (firn : Bool) (area : Fin 2) (count : Fin 16) (addr : BitVec 64) (s : State), s.sys.seracUp = true) ∧
    (∃ (firn : Bool) (area : Fin 2) (count : Fin 16) (addr : BitVec 64) (s : State), s.sys.seracUp = false) ∧
    (∃ (q : Req) (addr : Nat) (values : List Word) (s : State) (k : Nat) (u : State), s.Reaches q k u ∧ (values.length = 0 ∨ 64 < values.length)) ∧
    (∃ (q : Req) (addr : Nat) (values : List Word) (s : State) (k : Nat) (u : State) (d : Denial), s.Reaches q k u ∧ (judgeRegwr addr values none k u).first q u = some d ∧ d.status ≠ 0x10) ∧
    (∃ (q : Req) (addr : Nat) (v : Word) (s : State) (k : Nat) (u : State), s.Reaches q k u ∧ (judgeRegwr addr [v] none k u).first q u = none ∧ onSerac addr = true ∧ s.encodes addr v = true) ∧
    (∃ (q : Req) (addr : Nat) (v : Word) (s : State) (k : Nat) (u : State), s.Reaches q k u ∧ (judgeRegwr addr [v] none k u).first q u = none ∧ onSerac addr = false ∧ isCounterWord addr = true ∧ s.encodes addr v = true) ∧
    (∃ (w : Fin 8) (addr : Nat) (value : Word) (s : State), s.checkWords w [(addr, value)] = none ∧ onSerac addr = true ∧ s.encodes addr value = true) ∧
    (∃ (w : Fin 8) (addr : Nat) (value : Word) (s : State), s.checkWords w [(addr, value)] = none ∧ onSerac addr = false ∧ isCounterWord addr = true ∧ s.encodes addr value = true) ∧
    (∃ (w : Fin 8) (addr : Nat) (value : Word) (s : State) (d : Denial), s.checkWords w [(addr, value)] = some d) :=
  ⟨⟨at_RegistersAreReadAndWritten_0, (by decide +kernel)⟩,
   ⟨(0x100009C), at_RegistersAreReadAndWritten_1, (by decide +kernel)⟩,
   ⟨(Reg.SEC_STAT), at_RegistersAreReadAndWritten_2, (by decide +kernel)⟩,
   ⟨(0x1000094), at_RegistersAreReadAndWritten_3, (by decide +kernel)⟩,
   ⟨(0x1000094), at_RegistersAreReadAndWritten_3, (⟨0x1000094, [], 0, 0, 0, 0xFFFFFFFF, 0, []⟩), (by decide +kernel), (by decide +kernel), (by decide +kernel), (by decide +kernel), (by decide +kernel)⟩,
   ⟨(req), (0xE000100), (64), (base 4), (0), (judged (base 4) (req) (0)), reaches_of (base 4) (req) (0) (by decide +kernel), (by decide +kernel)⟩,
   ⟨(req), (0xE000100), (64), (some 5), (base 4), (0), (judged (base 4) (req) (0)), (5), reaches_of (base 4) (req) (0) (by decide +kernel), (by decide +kernel), (by decide +kernel), (by decide +kernel)⟩,
   ⟨(req), (0xE000100), (65), (none), (base 4), (0), (judged (base 4) (req) (0)), reaches_of (base 4) (req) (0) (by decide +kernel), (by decide +kernel)⟩,
   ⟨(15), (0xD031000), at_RegistersAreReadAndWritten_8, (by decide +kernel), (by decide +kernel)⟩,
   ⟨(true), (1), (15), (0), at_RegistersAreReadAndWritten_8, (by decide +kernel)⟩,
   ⟨(false), (0), (15), (0xD031000), (base 4), (by decide +kernel)⟩,
   ⟨(req), (Reg.LP_SP 127), ([]), (base 4), (0), (judged (base 4) (req) (0)), reaches_of (base 4) (req) (0) (by decide +kernel), (by decide +kernel)⟩,
   ⟨(req), (Reg.LP_SP 127), ([77]), at_RegistersAreReadAndWritten_12, (0), (judged at_RegistersAreReadAndWritten_12 (req) (0)), (⟨0x30, 0, 0⟩), reaches_of at_RegistersAreReadAndWritten_12 (req) (0) (by decide +kernel), (by decide +kernel), (by decide +kernel)⟩,
   ⟨(req), (Reg.LP_SP 127), (77), (base 4), (0), (judged (base 4) (req) (0)), reaches_of (base 4) (req) (0) (by decide +kernel), (by decide +kernel), (by decide +kernel), (by decide +kernel)⟩,
   ⟨(req), (Reg.CTR_SEL 14 31), (0x4F), (base 4), (0), (judged (base 4) (req) (0)), reaches_of (base 4) (req) (0) (by decide +kernel), (by decide +kernel), (by decide +kernel), (by decide +kernel), (by decide +kernel)⟩,
   ⟨(0), (Reg.LP_SP 127), (77), (base 4), (by decide +kernel), (by decide +kernel), (by decide +kernel)⟩,
   ⟨(0), (Reg.CTR_SEL 14 31), (0x4F), (base 4), (by decide +kernel), (by decide +kernel), (by decide +kernel), (by decide +kernel)⟩,
   ⟨(0), (Reg.LP_SP 127), (77), at_RegistersAreReadAndWritten_12, (⟨0x30, 0, 0⟩), (by decide +kernel)⟩⟩

def at_TicksAndFramesAdvance_0 : State :=
  { base 4 with sys := { (base 4).sys with seracUp := true }, clk := { (base 4).clk with sidx := 199, now := 7 } }

def at_TicksAndFramesAdvance_1 : State :=
  { base 4 with sys := { (base 4).sys with seracUp := true }, clk := { (base 4).clk with sidx := 97, now := 7 } }

def at_TicksAndFramesAdvance_3 : State :=
  { base 4 with sys := { (base 4).sys with seracUp := true, firstTick := true }, clk := { (base 4).clk with sidx := 97, now := 7 }, servo := { (base 4).servo with rate := -50000, frac := 40000 } }

def at_TicksAndFramesAdvance_4 : State :=
  { sets (base 4) [(Fd.TIM_STAT_TICK_SRC, 1)] with sys := { (base 4).sys with seracUp := true }, clk := { (base 4).clk with sidx := 97, now := 7, mtime := 20003 } }

def at_TicksAndFramesAdvance_5 : State :=
  { base 4 with sys := { (base 4).sys with seracUp := true }, clk := { (base 4).clk with sidx := 100, now := 7, begun := true } }

def at_TicksAndFramesAdvance_7 : State :=
  { base 4 with sys := { (base 4).sys with seracUp := true, powerEnd := some 7 }, clk := { (base 4).clk with sidx := 100, now := 7, begun := true } }

def at_TicksAndFramesAdvance_8 : State :=
  { base 4 with sys := { (base 4).sys with seracUp := true }, clk := { (base 4).clk with sidx := 100, now := 7 } }

/-- Every clause of TicksAndFramesAdvance has a state and operands that meet its hypotheses. -/
theorem witness_TicksAndFramesAdvance :
    (∃ (s : State), s.sys.seracUp = true ∧ s.clk.begun = false ∧ s.edge.clk.sidx.toNat % 100 = 0) ∧
    (∃ (latches : List Latch) (check : LaneCheck) (s : State), s.sys.seracUp = true ∧ s.clk.begun = false ∧ s.edgeAll.sys.seracUp = true ∧ (s.edgeAll.sys.powerEnd.all (fun n => decide (s.edgeAll.clk.now < n)) = true)) ∧
    (∃ (s : State) (mk : Mark), mk = none ∧ s.sys.firstTick = false ∧ s.fld Fd.TIM_STAT_TICK_SRC ≠ 1 ∧ s.servo.rate = 0 ∧ s.servo.frac = 0) ∧
    (∃ (s : State) (mk : Mark), mk = none ∧ s.sys.firstTick = true ∧ s.fld Fd.TIM_STAT_TICK_SRC ≠ 1) ∧
    (∃ (s : State) (mk : Mark) (x : BitVec 64 × BitVec 64), mk = some x ∧ s.fld Fd.TIM_STAT_TICK_SRC = 1) ∧
    (∃ (latches : List Latch) (check : LaneCheck) (s : State), s.sys.seracUp = true ∧ s.clk.begun = true ∧ s.sys.powerEnd = none) ∧
    (∃ (latches : List Latch) (check : LaneCheck) (s : State), s.sys.seracUp = false) ∧
    (∃ (latches : List Latch) (check : LaneCheck) (s : State) (n : Nat), s.sys.seracUp = true ∧ s.clk.begun = true ∧ s.sys.powerEnd = some n ∧ n ≤ s.clk.now) ∧
    (∃ (s : State), (s.sys.seracUp = false ∨ s.clk.begun = true ∨ s.edge.clk.sidx.toNat % 100 ≠ 0)) :=
  ⟨⟨at_TicksAndFramesAdvance_0, (by decide +kernel), (by decide +kernel), (by decide +kernel)⟩,
   ⟨([.fcInd true]), (LaneCheck.good), at_TicksAndFramesAdvance_1, (by decide +kernel), (by decide +kernel), (by decide +kernel), (by decide +kernel)⟩,
   ⟨at_TicksAndFramesAdvance_1, (none), (by decide +kernel), (by decide +kernel), (by decide +kernel), (by decide +kernel)⟩,
   ⟨at_TicksAndFramesAdvance_3, (none), (by decide +kernel), (by decide +kernel), (by decide +kernel)⟩,
   ⟨at_TicksAndFramesAdvance_4, (some (5000, 90)), ((5000, 90)), (by decide +kernel), (by decide +kernel)⟩,
   ⟨([]), (LaneCheck.good), at_TicksAndFramesAdvance_5, (by decide +kernel), (by decide +kernel), (by decide +kernel)⟩,
   ⟨([]), (LaneCheck.good), (base 4), (by decide +kernel)⟩,
   ⟨([]), (LaneCheck.good), at_TicksAndFramesAdvance_7, (7), (by decide +kernel), (by decide +kernel), (by decide +kernel), (by decide +kernel)⟩,
   ⟨at_TicksAndFramesAdvance_8, (by decide +kernel)⟩⟩

def at_SessionCommandsAreAnswered_1 : State :=
  { (base 4).wr (Reg.QU_ADDR 9 0) 77 with zh := { (base 4).zh with quarEnd := [(9, 100)] } }

def at_SessionCommandsAreAnswered_2 : State :=
  { base 4 with clk := { (base 4).clk with mtime := 2 ^ 63, sidx := 5 } }

def at_SessionCommandsAreAnswered_5 : State :=
  { base 4 with clk := { (base 4).clk with now := 100000000 } }

def at_SessionCommandsAreAnswered_6 : State :=
  { (sets (base 4) [(Fd.SS_STAT_STATE 7, 1)]).setSess 7 { Session.none with openedAt := 5 } with clk := { (base 4).clk with now := 500005 } }

def at_SessionCommandsAreAnswered_12 : State :=
  { base 4 with zh := { (base 4).zh with sources := [⟨77, 0, 100, none, none⟩] } }

/-- Every clause of SessionCommandsAreAnswered has a state and operands that meet its hypotheses. -/
theorem witness_SessionCommandsAreAnswered :
    (∃ (q : Plain) (s : State), s.TakesPlain q) ∧
    (∃ (q : Plain) (s : State) (e : Nat), s.portTakes Fd.PORT_CFG_MBOX q.port q.src q.row = true ∧ (s.countRx q.port).quarEntry q.src = some e) ∧
    (∃ (q : Req) (s : State) (k : Nat) (u : State), s.Reaches q k u ∧ (judgePing k u).first q u = none) ∧
    (∃ (q : Req) (classes : Word) (s : State) (k : Nat) (u : State), s.Reaches q k u ∧ (judgeSubscribe classes k u).first q u = none) ∧
    (∃ (q : Req) (s : State) (k : Nat) (u : State), s.Reaches q k u ∧ (judgeClose k u).first q u = none) ∧
    (∃ (slot : Fin 8) (s : State), s.sessOpen slot = true ∧ (s.sess slot).lastRx + sTicks (s.fld Fd.NET_SESS_TMO_SEC) ≤ s.clk.now) ∧
    (∃ (slot : Fin 8) (s : State), s.fld (Fd.SS_STAT_STATE slot) = 1 ∧ (s.sess slot).openedAt + sTicks 5 ≤ s.clk.now) ∧
    (∃ (q : Plain) (session : Word) (cmd : Byte) (s : State), s.TakesPlain q ∧ ((s.source q.src).second ≠ s.second ∨ (s.source q.src).count < 100) ∧ s.mayAnswerError q.src = true ∧ s.slotOf session = none) ∧
    (∃ (q : Plain) (cmd : Byte) (s : State), s.TakesPlain q ∧ ((s.source q.src).second ≠ s.second ∨ (s.source q.src).count < 100) ∧ s.mayAnswerError q.src = true ∧ s.slotOf 0 = none) ∧
    (∃ (q : Plain) (session : Word) (cmd : Byte) (s : State), s.TakesPlain q ∧ ((s.source q.src).second ≠ s.second ∨ (s.source q.src).count < 100) ∧ s.mayAnswerError q.src = true ∧ s.slotOf session = none) ∧
    (∃ (q : Plain) (session : Word) (cmd : Byte) (s : State), s.TakesPlain q ∧ ((s.source q.src).second ≠ s.second ∨ (s.source q.src).count < 100) ∧ s.mayAnswerError q.src = true ∧ s.slotOf session = none) ∧
    (∃ (q : Plain) (cmd : Byte) (s : State), s.TakesPlain q ∧ ((s.source q.src).second ≠ s.second ∨ (s.source q.src).count < 100) ∧ s.mayAnswerError q.src = true ∧ s.slotOf 0 = none) ∧
    (∃ (q : Plain) (cmd : Byte) (s : State) (e : Nat), s.TakesPlain q ∧ (s.source q.src).second = s.second ∧ (s.source q.src).count = 100 ∧ s.on Fd.NET_CTRL_QUAR_EN = true ∧ s.freeQuar = some e) ∧
    (∃ (q : Plain) (s : State), s.TakesPlain q) ∧
    (∃ (q : Plain) (s : State), s.TakesPlain q) ∧
    (∃ (q : Plain) (s : State), s.TakesPlain q) ∧
    (∃ (q : Plain) (s : State), s.TakesPlain q) ∧
    (∃ (q : Plain) (s : State), s.TakesCra ⟨q.src, q.port, q.row⟩) ∧
    (∃ (q : Plain) (s : State), s.TakesCra ⟨q.src, q.port, q.row⟩) ∧
    (∃ (q : Plain) (s : State), s.TakesCra ⟨q.src, q.port, q.row⟩ ∧ ((s.source q.src).second ≠ s.second ∨ (s.source q.src).count < 100)) ∧
    (∃ (q : Plain) (r : Req) (cmd : Byte) (s : State) (k : Nat) (u : State), s.Reaches r k u ∧ knownCmd cmd.toNat = false ∧ r.defer = false) ∧
    (∃ (q : Plain) (r : Req) (cmd : Byte) (offset : Fin 8192) (s : State) (k : Nat) (u : State), s.Reaches r k u ∧ knownCmd cmd.toNat = true ∧ (onLimited cmd.toNat = true ∨ s.mainAbsent = false)) :=
  ⟨⟨(plain0), (base 4), plain_of _ _ (by decide +kernel)⟩,
   ⟨(plain0), at_SessionCommandsAreAnswered_1, (9), (by decide +kernel), (by decide +kernel)⟩,
   ⟨(req), at_SessionCommandsAreAnswered_2, (0), (judged at_SessionCommandsAreAnswered_2 (req) (0)), reaches_of at_SessionCommandsAreAnswered_2 (req) (0) (by decide +kernel), (by decide +kernel)⟩,
   ⟨(req), (3), (base 4), (0), (judged (base 4) (req) (0)), reaches_of (base 4) (req) (0) (by decide +kernel), (by decide +kernel)⟩,
   ⟨(req), (base 4), (0), (judged (base 4) (req) (0)), reaches_of (base 4) (req) (0) (by decide +kernel), (by decide +kernel)⟩,
   ⟨(0), at_SessionCommandsAreAnswered_5, (by decide +kernel), (by decide +kernel)⟩,
   ⟨(7), at_SessionCommandsAreAnswered_6, (by decide +kernel), (by decide +kernel)⟩,
   ⟨(plain0), (5), (9), (base 4), plain_of _ _ (by decide +kernel), (by decide +kernel), (by decide +kernel), (by decide +kernel)⟩,
   ⟨(plain0), (9), (base 4), plain_of _ _ (by decide +kernel), (by decide +kernel), (by decide +kernel), (by decide +kernel)⟩,
   ⟨(plain0), (5), (9), (base 4), plain_of _ _ (by decide +kernel), (by decide +kernel), (by decide +kernel), (by decide +kernel)⟩,
   ⟨(plain0), (5), (9), (base 4), plain_of _ _ (by decide +kernel), (by decide +kernel), (by decide +kernel), (by decide +kernel)⟩,
   ⟨(plain0), (9), (base 4), plain_of _ _ (by decide +kernel), (by decide +kernel), (by decide +kernel), (by decide +kernel)⟩,
   ⟨(plain0), (9), at_SessionCommandsAreAnswered_12, (0), plain_of _ _ (by decide +kernel), (by decide +kernel), (by decide +kernel), (by decide +kernel), (by decide +kernel)⟩,
   ⟨(plain0), (base 4), plain_of _ _ (by decide +kernel)⟩,
   ⟨(plain0), (base 4), plain_of _ _ (by decide +kernel)⟩,
   ⟨(plain0), (base 4), plain_of _ _ (by decide +kernel)⟩,
   ⟨(plain0), (base 4), plain_of _ _ (by decide +kernel)⟩,
   ⟨(plain0), (base 4), cra_of _ _ (by decide +kernel)⟩,
   ⟨(plain0), (base 4), cra_of _ _ (by decide +kernel)⟩,
   ⟨(plain0), (base 4), cra_of _ _ (by decide +kernel), (by decide +kernel)⟩,
   ⟨(plain0), (req), (9), (base 4), (0), (judged (base 4) (req) (0)), reaches_of (base 4) (req) (0) (by decide +kernel), (by decide +kernel), (by decide +kernel)⟩,
   ⟨(plain0), (req), (0x10), (4), (base 4), (0), (judged (base 4) (req) (0)), reaches_of (base 4) (req) (0) (by decide +kernel), (by decide +kernel), (by decide +kernel)⟩⟩

def at_OwnershipPassesByCommand_0 : State :=
  sets (base 4) [(Fd.OW_STAT_HELD 3, 0), (Fd.SS_STAT_MASTER 0, 9)]

def at_OwnershipPassesByCommand_1 : State :=
  (sets (base 4) [(Fd.OW_STAT_SLOT 3, 5), (Fd.SS_STAT_MASTER 0, 9)]).setSess 0 { Session.none with prio := [0, 0, 0, 1] }

def at_OwnershipPassesByCommand_4 : State :=
  ((sets (base 4) [(Fd.SS_STAT_STATE 6, 2)]).wr (Reg.SS_ID 6) 0x55).wr (Reg.SS_ROLES 6) 0x10

def at_OwnershipPassesByCommand_5 : State :=
  { base 4 with zh := { (base 4).zh with offers := [(3, ⟨5, 7⟩)] }, clk := { (base 4).clk with now := 100007 } }

/-- Every clause of OwnershipPassesByCommand has a state and operands that meet its hypotheses. -/
theorem witness_OwnershipPassesByCommand :
    (∃ (q : Req) (domain flags : Byte) (s : State) (k : Nat) (u : State), s.Reaches q k u ∧ (judgeClaim domain flags k u).first q u = none ∧ s.holder domain.toNat = none) ∧
    (∃ (q : Req) (domain flags : Byte) (s : State) (k h : Nat) (u : State), s.Reaches q k u ∧ (judgeClaim domain flags k u).first q u = none ∧ s.holder domain.toNat = some h ∧ h ≠ k ∧ bitOf flags.toNat 0 = true ∧ bitOf flags.toNat 1 = false ∧ s.prio h domain.toNat < s.prio k domain.toNat) ∧
    (∃ (q : Req) (domain : Byte) (s : State) (k : Nat) (u : State), s.Reaches q k u ∧ (judgeRenew domain k u).first q u = none) ∧
    (∃ (q : Req) (domain : Byte) (s : State) (k : Nat) (u : State), s.Reaches q k u ∧ (judgeRelease domain k u).first q u = none) ∧
    (∃ (q : Req) (domain : Byte) (target : Word) (s : State) (k : Nat) (u : State) (h : Nat), s.Reaches q k u ∧ (judgeHandover domain target k u).first q u = none ∧ s.slotOf target = some h ∧ s.hasRole h (domainRole domain.toNat) = true) ∧
    (∃ (domain : Fin 4) (s : State) (o : Offer), Tab.find s.zh.offers domain = some o ∧ o.at_ + sTicks 1 ≤ s.clk.now) ∧
    (∃ (q : Req) (s : State) (k : Nat) (u : State), s.Reaches q k u ∧ (judgeQuery k u).first q u = none) ∧
    (∃ (domain : Fin 4) (s : State) (k : Nat), s.holder domain = some k ∧ Tab.at 0 s.zh.lease domain ≤ s.clk.now ∧ (domain.val ≠ 0 ∨ s.opState ≠ 6)) ∧
    (∃ (s : State) (k : Nat), s.holder 0 = some k ∧ Tab.at 0 s.zh.lease 0 ≤ s.clk.now ∧ s.opState = 6) :=
  ⟨⟨(req), (3), (0), at_OwnershipPassesByCommand_0, (0), (judged at_OwnershipPassesByCommand_0 (req) (0)), reaches_of at_OwnershipPassesByCommand_0 (req) (0) (by decide +kernel), (by decide +kernel), (by decide +kernel)⟩,
   ⟨(req), (3), (1), at_OwnershipPassesByCommand_1, (0), (5), (judged at_OwnershipPassesByCommand_1 (req) (0)), reaches_of at_OwnershipPassesByCommand_1 (req) (0) (by decide +kernel), (by decide +kernel), (by decide +kernel), (by decide +kernel), (by decide +kernel), (by decide +kernel), (by decide +kernel)⟩,
   ⟨(req), (3), (base 4), (0), (judged (base 4) (req) (0)), reaches_of (base 4) (req) (0) (by decide +kernel), (by decide +kernel)⟩,
   ⟨(req), (3), (base 4), (0), (judged (base 4) (req) (0)), reaches_of (base 4) (req) (0) (by decide +kernel), (by decide +kernel)⟩,
   ⟨(req), (3), (0x55), at_OwnershipPassesByCommand_4, (0), (judged at_OwnershipPassesByCommand_4 (req) (0)), (6), reaches_of at_OwnershipPassesByCommand_4 (req) (0) (by decide +kernel), (by decide +kernel), (by decide +kernel), (by decide +kernel)⟩,
   ⟨(3), at_OwnershipPassesByCommand_5, (⟨5, 7⟩), (by decide +kernel), (by decide +kernel)⟩,
   ⟨(req), (base 4), (0), (judged (base 4) (req) (0)), reaches_of (base 4) (req) (0) (by decide +kernel), (by decide +kernel)⟩,
   ⟨(3), (base 4), (0), (by decide +kernel), (by decide +kernel), (by decide +kernel)⟩,
   ⟨(base 6), (0), (by decide +kernel), (by decide +kernel), (by decide +kernel)⟩⟩

def at_StateRequestsAreAccepted_1 : State :=
  sets (base 3) [(Fd.SYS_CREC_STAT_VALID, 1)]

def at_StateRequestsAreAccepted_2 : State :=
  base 5

def at_HeldRequestsAreExecuted_0 : State :=
  { (sets (base 4) [(Fd.SYS_DEFER_HELD, 1), (Fd.SS_MBOX_HELD 0, 1)]).setMailbox 0 0 ⟨none, some ⟨.ping req, 7, 0, 1000, 0, 0x05, 0x03FF⟩, none, []⟩ with clk := { (base 4).clk with now := 500, mtime := 77, sidx := 78 } }

def at_HeldRequestsAreExecuted_1 : State :=
  { (sets (base 9) [(Fd.SYS_DEFER_HELD, 1), (Fd.SS_MBOX_HELD 0, 0x8000)]).setMailbox 0 15 ⟨none, some ⟨.ping req, 7, 0, 5, 0, 0x05, 0x0010⟩, none, []⟩ with clk := { (base 4).clk with now := 500 } }

/-- Every clause of StateRequestsAreAcceptedOrHeld has a state and operands that meet its hypotheses. -/
theorem witness_StateRequestsAreAcceptedOrHeld :
    (∃ (q : Req) (s : State) (k : Nat) (u : State), s.Reaches q k u ∧ (judgeStateReq 3 q k u).first q u = none) ∧
    (∃ (q : Req) (s : State) (k : Nat) (u : State), s.Reaches q k u ∧ (judgeStateReq 4 q k u).first q u = none ∧ s.recordValid = true) ∧
    (∃ (q : Req) (s : State) (k : Nat) (u : State), s.Reaches q k u ∧ (judgeStateReq 6 q k u).first q u = none) ∧
    (∃ (q : Req) (s : State) (k : Nat) (u : State), s.Reaches q k u ∧ (judgeStateReq 9 q k u).first q u = none) ∧
    (∃ (q : Req) (s : State) (k : Nat) (u : State), s.Reaches q k u ∧ (judgeStateReq 15 q k u).first q u = none) ∧
    (∃ (slot : Fin 8) (mbox : Fin 16) (s : State) (h : HeldReq) (q : Req), (s.mailbox slot mbox).held = some h ∧ h.cmd = .ping q ∧ q.mbox = mbox ∧ s.heldLegal h = true ∧ s.inMap 0x03FF = true ∧ (q.defer = false ∨ 1 ≤ q.deferMs.toNat ∧ q.deferMs.toNat ≤ 60000) ∧ (s.heldAll.any (fun p => decide (p.2.order < h.order) && s.heldLegal p.2 && s.heldEnds p.1 p.2) = false) ∧ s.sys.stateReq = []) ∧
    (∃ (slot : Fin 8) (mbox : Fin 16) (s : State) (h : HeldReq), (s.mailbox slot mbox).held = some h ∧ h.at_ + msTicks h.ms ≤ s.clk.now) ∧
    (∃ (slot : Fin 8) (mbox : Fin 16) (s : State), ((s.mailbox slot mbox).held.all (fun h => !s.heldLegal h) = true ∨ s.sys.stateReq ≠ [])) ∧
    (∃ (slot : Fin 8) (mbox : Fin 16) (s : State), ((s.mailbox slot mbox).held.all (fun h => decide (s.clk.now < h.at_ + msTicks h.ms)) = true)) :=
  ⟨⟨(req), (base 4), (0), (judged (base 4) (req) (0)), reaches_of (base 4) (req) (0) (by decide +kernel), (by decide +kernel)⟩,
   ⟨(req), at_StateRequestsAreAccepted_1, (0), (judged at_StateRequestsAreAccepted_1 (req) (0)), reaches_of at_StateRequestsAreAccepted_1 (req) (0) (by decide +kernel), (by decide +kernel), (by decide +kernel)⟩,
   ⟨(req), at_StateRequestsAreAccepted_2, (0), (judged at_StateRequestsAreAccepted_2 (req) (0)), reaches_of at_StateRequestsAreAccepted_2 (req) (0) (by decide +kernel), (by decide +kernel)⟩,
   ⟨(req), (base 6), (0), (judged (base 6) (req) (0)), reaches_of (base 6) (req) (0) (by decide +kernel), (by decide +kernel)⟩,
   ⟨(req), (base 9), (0), (judged (base 9) (req) (0)), reaches_of (base 9) (req) (0) (by decide +kernel), (by decide +kernel)⟩,
   ⟨(0), (0), at_HeldRequestsAreExecuted_0, (⟨.ping req, 7, 0, 1000, 0, 0x05, 0x03FF⟩), (req), (by decide +kernel), (by decide +kernel), (by decide +kernel), (by decide +kernel), (by decide +kernel), (by decide +kernel), (by decide +kernel), (by decide +kernel)⟩,
   ⟨(0), (15), at_HeldRequestsAreExecuted_1, (⟨.ping req, 7, 0, 5, 0, 0x05, 0x0010⟩), (by decide +kernel), (by decide +kernel)⟩,
   ⟨(0), (0), (base 4), (by decide +kernel)⟩,
   ⟨(0), (15), (base 9), (by decide +kernel)⟩⟩

def at_ActionEntriesAreCommitted_0 : State :=
  { base 4 with act := { (base 4).act with armed := [3], seq := 9 } }

def at_ActionEntriesAreCommitted_1 : State :=
  { (base 4).wr (Reg.AE_TRIG_LO 4095) 100 with clk := { (base 4).clk with mtime := 1000101 } }

def at_ActionEntriesAreCommitted_2 : State :=
  { sets (base 4) [(Fd.AE_STAT_STATE 4095, 1)] with act := { (base 4).act with armed := [4095] }, clk := { (base 4).clk with now := 6 } }

def at_ActionEntriesAreCommitted_4 : State :=
  { base 4 with act := { (base 4).act with armed := [0] } }

def at_ActionEntriesAreCommitted_5 : State :=
  { sets (base 4) [(Fd.AE_STAT_STATE 4095, 1), (Fd.AE_CTRL_KIND 4095, 5)] with act := { (base 4).act with armed := [4095] } }

def at_ActionTableActs_0 : State :=
  { sets (base 4) [(Fd.AE_CTRL_KIND 7, 5), (Fd.AE_STAT_STATE 7, 1)] with act := { (base 4).act with armed := [7, 9], since := [(7, 0)] }, clk := { (base 4).clk with now := 10 } }

def at_ActionTableActs_1 : State :=
  { (sets (base 4) [(Fd.AE_CTRL_KIND 7, 3), (Fd.AE_STAT_STATE 7, 1)]).wr (Reg.AE_ARG0 7) 255 |>.wr (Reg.AE_ARG1 7) 15 with act := { (base 4).act with armed := [7, 9], since := [(7, 0)] }, clk := { (base 4).clk with now := 10 } }

def at_ActionTableActs_2 : State :=
  { (sets (base 4) [(Fd.AE_CTRL_KIND 7, 2), (Fd.AE_STAT_STATE 7, 1)]).wr (Reg.AE_ARG0 7) 127 |>.wr (Reg.AE_ARG1 7) 15 with act := { (base 4).act with armed := [7, 9], since := [(7, 0)] }, clk := { (base 4).clk with now := 10, sidx := 180 } }

def at_ActionTableActs_3 : State :=
  { (sets (base 4) [(Fd.AE_CTRL_KIND 7, 1), (Fd.AE_STAT_STATE 7, 1), (Fd.STG_STAT_STATE 3, 1)]).wr (Reg.AE_ARG0 7) 3 with act := { (base 4).act with armed := [7, 9], since := [(7, 0)] }, clk := { (base 4).clk with now := 10 } }

def at_ActionTableActs_4 : State :=
  { sets (base 4) [(Fd.AE_CTRL_KIND 7, 4), (Fd.AE_STAT_STATE 7, 1)] with act := { (base 4).act with armed := [7, 9], since := [(7, 0)] }, clk := { (base 4).clk with now := 10, snapId := 0xFFFF } }

def at_ActionTableActs_5 : State :=
  { (sets (base 4) [(Fd.AE_CTRL_KIND 7, 6), (Fd.AE_STAT_STATE 7, 1), (Fd.BAR_CFG_ACTION 15, 3)]).wr (Reg.AE_ARG0 7) 15 with act := { (base 4).act with armed := [7, 9], since := [(7, 0)] }, clk := { (base 4).clk with now := 10 } }

def at_ActionTableActs_6 : State :=
  { (sets (base 4) [(Fd.AE_CTRL_KIND 7, 5), (Fd.AE_CTRL_TRIG 7, 3), (Fd.AE_CTRL_EVERY 7, 1), (Fd.AE_STAT_STATE 7, 1), (Fd.JOB_STAT_STATE 0, 2)]).setJob 0 { Job.idle with x := 0x0000000500000000 } with act := { (base 4).act with armed := [7, 9], since := [(7, 0)], every := [(7, 4)] }, clk := { (base 4).clk with now := 10 } }

def at_ActionTableActs_7 : State :=
  { running (base 4) 0 0 with clk := { (base 4).clk with sidx := 180 }, act := { (base 4).act with trims := [(0, 5)] }, ice := { (running (base 4) 0 0).ice with last := some { noRun with pkt := [] } } }

def at_ActionTableActs_9 : State :=
  { sets (base 4) [(Fd.TIM_STAT_SERVO, 2), (Fd.TIM_STAT_TICK_SRC, 1)] with sys := { (base 4).sys with seracUp := true }, clk := { (base 4).clk with mtime := 123456789012345 } }

def at_ActionTableActs_10 : State :=
  { sets (base 4) [(Fd.TIM_STAT_SERVO, 2), (Fd.TIM_STAT_TICK_SRC, 1)] with clk := { (base 4).clk with mtime := 123456789012345 } }

def at_ActionTableActs_12 : State :=
  { sets (base 2) [(Fd.PAI_STAT_PAIRED, 1), (Fd.PAI_STAT_ROLE, 2), (Fd.PAI_STAT_L0, 1), (Fd.TIM_STAT_TICK_SRC, 2)] with clk := { (base 2).clk with sidx := 1000 } }

def at_ActionTableActs_13 : State :=
  { sets (base 2) [(Fd.PAI_STAT_PAIRED, 1), (Fd.PAI_STAT_ROLE, 2), (Fd.PAI_STAT_L0, 0), (Fd.TIM_STAT_TICK_SRC, 2)] with sys := { (base 2).sys with seracUp := true } }

def at_ActionTableActs_14 : State :=
  { fronted (sets (base 4) [(Fd.PORT_CFG_EN 3, 1), (Fd.PORT_CFG_PTP 3, 1), (Fd.TIM_CTRL_SERVO_EN, 1), (Fd.TIM_STAT_SERVO, 1), (Fd.NET_CTRL_V4_EN, 1)]) [(Reg.TIM_PTP_A, 1)] with servo := { (base 4).servo with a := { Ptp.idle with master := some (masterKey 3 12) } }, clk := { (base 4).clk with mtime := 9000000 } }

def at_ActionTableActs_15 : State :=
  { fronted (sets (base 4) [(Fd.PORT_CFG_EN 3, 1), (Fd.PORT_CFG_PTP 3, 1), (Fd.TIM_CTRL_SERVO_EN, 1), (Fd.TIM_STAT_SERVO, 1), (Fd.NET_CTRL_V4_EN, 1)]) [(Reg.TIM_PTP_A, 1)] with servo := { (base 4).servo with a := { Ptp.idle with master := some (masterKey 3 12), inside := 15 } }, clk := { (base 4).clk with mtime := 9000000 } }

def at_ActionTableActs_16 : State :=
  { fronted (sets (base 4) [(Fd.PORT_CFG_EN 3, 1), (Fd.PORT_CFG_PTP 3, 1), (Fd.TIM_CTRL_SERVO_EN, 1), (Fd.TIM_STAT_SERVO, 2), (Fd.NET_CTRL_V4_EN, 1)]) [(Reg.TIM_PTP_A, 1)] with servo := { (base 4).servo with a := { Ptp.idle with master := some (masterKey 3 12), outside := 3, lock := true } }, clk := { (base 4).clk with mtime := 9000000 } }

/-- Every clause of ActionEntriesAreCommittedAndFire has a state and operands that meet its hypotheses. -/
theorem witness_ActionEntriesAreCommittedAndFire :
    (∃ (w : Fin 8) (n : Fin 4096) (value : Word) (s : State), s.WriteTaken w (Reg.AE_CTRL n) value (crossAction value) ∧ s.fld (Fd.AE_STAT_STATE n) ≠ 1 ∧ fieldOf value 31 1 = 1 ∧ tooLate (((s.wr (Reg.AE_CTRL n) (writeMasked (s.rd (Reg.AE_CTRL n)) value 0xFFFF8000 0)).takeAngle n).trigger n) (s.lateness (((s.wr (Reg.AE_CTRL n) (writeMasked (s.rd (Reg.AE_CTRL n)) value 0xFFFF8000 0)).takeAngle n).trigger n)) = false) ∧
    (∃ (w : Fin 8) (n : Fin 4096) (value : Word) (s : State), s.WriteTaken w (Reg.AE_CTRL n) value (crossAction value) ∧ s.fld (Fd.AE_STAT_STATE n) ≠ 1 ∧ fieldOf value 31 1 = 1 ∧ tooLate (((s.wr (Reg.AE_CTRL n) (writeMasked (s.rd (Reg.AE_CTRL n)) value 0xFFFF8000 0)).takeAngle n).trigger n) (s.lateness (((s.wr (Reg.AE_CTRL n) (writeMasked (s.rd (Reg.AE_CTRL n)) value 0xFFFF8000 0)).takeAngle n).trigger n)) = true) ∧
    (∃ (w : Fin 8) (n : Fin 4096) (value : Word) (s : State), s.WriteTaken w (Reg.AE_CTRL n) value (crossAction value) ∧ s.fld (Fd.AE_STAT_STATE n) = 1 ∧ fieldOf value 31 1 = 0) ∧
    (∃ (w : Fin 8) (n : Fin 4096) (value : Word) (s : State), s.WriteTaken w (Reg.AE_CTRL n) value (crossAction value) ∧ s.fld (Fd.AE_STAT_STATE n) ≠ 1 ∧ fieldOf value 31 1 = 0) ∧
    (∃ (q : Req) (a : ActionFields) (s : State) (k : Nat) (u : State) (n : Nat), s.Reaches q k u ∧ (judgeActionAdd a k u).first q u = none ∧ s.freeEntry = some n ∧ tooLate ⟨a.trig.toNat, a.kind.toNat, a.job.toNat, a.every.toNat == 1, actionValue a⟩ (s.lateness ⟨a.trig.toNat, a.kind.toNat, a.job.toNat, a.every.toNat == 1, actionValue a⟩) = false) ∧
    (∃ (q : Req) (entry : BitVec 16) (s : State) (k : Nat) (u : State), s.Reaches q k u ∧ (judgeActionCancel q entry k u).first q u = none ∧ s.fld (Fd.AE_STAT_STATE entry.toNat) = 1) ∧
    (∃ (n : Fin 4096) (s : State), s.dueEntries.head? = some n.val ∧ (s.trigger n).kind = 5 ∧ (s.trigger n).trig ≠ 3) ∧
    (∃ (n : Fin 4096) (s : State), s.dueEntries.head? = some n.val ∧ (s.trigger n).kind = 3 ∧ (s.trigger n).trig ≠ 3 ∧ (s.rd (Reg.AE_ARG1 n)).toNat ≤ 15) ∧
    (∃ (n : Fin 4096) (s : State), s.dueEntries.head? = some n.val ∧ (s.trigger n).kind = 2 ∧ ((s.trigger n).trig ≠ 3 ∨ (s.trigger n).every = false)) ∧
    (∃ (n : Fin 4096) (s : State), s.dueEntries.head? = some n.val ∧ (s.trigger n).kind = 1 ∧ ((s.trigger n).trig ≠ 3 ∨ (s.trigger n).every = false) ∧ (s.rd (Reg.AE_ARG0 n)).toNat < 256 ∧ s.fld (Fd.STG_STAT_STATE (s.rd (Reg.AE_ARG0 n)).toNat) = 1 ∧ s.plan.fired = []) ∧
    (∃ (n : Fin 4096) (s : State), s.dueEntries.head? = some n.val ∧ (s.trigger n).kind = 4 ∧ ((s.trigger n).trig ≠ 3 ∨ (s.trigger n).every = false) ∧ s.clk.snapTick ≠ some s.clk.now) ∧
    (∃ (n : Fin 4096) (s : State), s.dueEntries.head? = some n.val ∧ (s.trigger n).kind = 6 ∧ (s.trigger n).trig = 0 ∧ s.unconfirmed n = false ∧ (s.rd (Reg.AE_ARG0 n)).toNat < 16 ∧ s.fld (Fd.BAR_CFG_ACTION (s.rd (Reg.AE_ARG0 n)).toNat) = 3 ∧ s.fld (Fd.BAR_CFG_SCOPE (s.rd (Reg.AE_ARG0 n)).toNat) = 0) ∧
    (∃ (n : Fin 4096) (s : State), s.dueEntries.head? = some n.val ∧ (s.trigger n).kind = 5 ∧ (s.trigger n).trig = 3 ∧ (s.trigger n).every = true) ∧
    (∃ (s : State) (l : List (Nat × Int)), s.mainRuns = true ∧ s.sealTick = true ∧ s.fireDue.packetEntries = some l ∧ s.fireDue.fld Fd.PAI_STAT_ROLE ≠ 2) ∧
    (∃ (s : State) (l : List (Nat × Int)), s.mainRuns = true ∧ s.sealTick = true ∧ s.dueEntries = [] ∧ s.packetEntries = some l ∧ s.fld Fd.PAI_STAT_ROLE ≠ 2) ∧
    (∃ (s : State), s.edgeToCome = true ∧ s.fld Fd.TIM_STAT_SERVO = 2 ∧ s.fld Fd.TIM_STAT_TICK_SRC = 1 ∧ s.on Fd.TIM_STAT_ANCHORED = false) ∧
    (∃ (s : State), s.fld Fd.TIM_STAT_SERVO = 2 ∧ s.fld Fd.TIM_STAT_TICK_SRC = 1 ∧ s.on Fd.TIM_STAT_ANCHORED = false ∧ s.act.armed = []) ∧
    (∃ (w : Fin 8) (s : State), s.WriteTaken w Reg.TIM_CTRL (s.rd Reg.TIM_CTRL ||| 4) true) ∧
    (∃ (sidx tcnt : BitVec 64) (s : State), s.opState ≠ 0 ∧ s.on Fd.PAI_STAT_PAIRED = true ∧ (s.laneAlive 0).fld Fd.TIM_STAT_TICK_SRC = 2 ∧ (s.edgeToCome = false ∨ diff64 sidx s.clk.sidx ≤ 0)) ∧
    (∃ (lane : Fin 2) (sidx tcnt : BitVec 64) (s : State), s.opState ≠ 0 ∧ s.on Fd.PAI_STAT_PAIRED = true ∧ (s.laneAlive lane).fld Fd.TIM_STAT_TICK_SRC = 2 ∧ (lane.val = if (s.laneAlive lane).on Fd.PAI_STAT_L0 then 0 else 1) ∧ s.edgeToCome = true ∧ 0 < diff64 sidx s.clk.sidx) ∧
    (∃ (port : Fin 8) (m : PtpSync) (t1 t2 : BitVec 64) (s : State), s.takesSync .a port m = true ∧ s.servo.a.lock = false ∧ s.servo.b.lock = false ∧ s.servo.b.master = none ∧ s.on Fd.TIM_STAT_SEL = false ∧ s.on Fd.TIM_CTRL_SERVO_EN = true ∧ s.fld Fd.TIM_STAT_SERVO = 1 ∧ s.servo.stepped = false ∧ 1000000 < syncOffset s .a port t1 t2 m.pathDelay ∧ s.act.armed = []) ∧
    (∃ (port : Fin 8) (m : PtpSync) (t1 t2 : BitVec 64) (s : State), s.takesSync .a port m = true ∧ s.servo.a.inside = 15 ∧ s.servo.b.lock = false ∧ s.on Fd.TIM_STAT_SEL = false ∧ s.on Fd.TIM_CTRL_SERVO_EN = true ∧ s.fld Fd.TIM_STAT_SERVO = 1 ∧ (syncOffset s .a port t1 t2 m.pathDelay).natAbs ≤ 100) ∧
    (∃ (port : Fin 8) (m : PtpSync) (t1 t2 : BitVec 64) (s : State), s.takesSync .a port m = true ∧ s.servo.a.outside = 3 ∧ s.servo.b.lock = false ∧ s.servo.b.master = none ∧ s.on Fd.TIM_STAT_SEL = false ∧ s.on Fd.TIM_CTRL_SERVO_EN = true ∧ s.fld Fd.TIM_STAT_SERVO = 2 ∧ 1000 < (syncOffset s .a port t1 t2 m.pathDelay).natAbs ∧ (syncOffset s .a port t1 t2 m.pathDelay).natAbs ≤ 1000000) :=
  ⟨⟨(0), (4095), (0x95000000), at_ActionEntriesAreCommitted_0, taken_of _ _ _ _ _ (by decide +kernel), (by decide +kernel), (by decide +kernel), (by decide +kernel)⟩,
   ⟨(0), (4095), (0xA5000000), at_ActionEntriesAreCommitted_1, taken_of _ _ _ _ _ (by decide +kernel), (by decide +kernel), (by decide +kernel), (by decide +kernel)⟩,
   ⟨(0), (4095), (0x15000000), at_ActionEntriesAreCommitted_2, taken_of _ _ _ _ _ (by decide +kernel), (by decide +kernel), (by decide +kernel)⟩,
   ⟨(0), (4095), (0x35FF8000), (base 4), taken_of _ _ _ _ _ (by decide +kernel), (by decide +kernel), (by decide +kernel)⟩,
   ⟨(req), (⟨3, 5, 7, 1, 0x0000000980000000, 11, 12⟩), at_ActionEntriesAreCommitted_4, (0), (judged at_ActionEntriesAreCommitted_4 (req) (0)), (1), reaches_of at_ActionEntriesAreCommitted_4 (req) (0) (by decide +kernel), (by decide +kernel), (by decide +kernel), (by decide +kernel)⟩,
   ⟨(req), (4095), at_ActionEntriesAreCommitted_5, (0), (judged at_ActionEntriesAreCommitted_5 (req) (0)), reaches_of at_ActionEntriesAreCommitted_5 (req) (0) (by decide +kernel), (by decide +kernel), (by decide +kernel)⟩,
   ⟨(7), at_ActionTableActs_0, (by decide +kernel), (by decide +kernel), (by decide +kernel)⟩,
   ⟨(7), at_ActionTableActs_1, (by decide +kernel), (by decide +kernel), (by decide +kernel), (by decide +kernel)⟩,
   ⟨(7), at_ActionTableActs_2, (by decide +kernel), (by decide +kernel), (by decide +kernel)⟩,
   ⟨(7), at_ActionTableActs_3, (by decide +kernel), (by decide +kernel), (by decide +kernel), (by decide +kernel), (by decide +kernel), (by decide +kernel)⟩,
   ⟨(7), at_ActionTableActs_4, (by decide +kernel), (by decide +kernel), (by decide +kernel), (by decide +kernel)⟩,
   ⟨(7), at_ActionTableActs_5, (by decide +kernel), (by decide +kernel), (by decide +kernel), (by decide +kernel), (by decide +kernel), (by decide +kernel), (by decide +kernel)⟩,
   ⟨(7), at_ActionTableActs_6, (by decide +kernel), (by decide +kernel), (by decide +kernel), (by decide +kernel)⟩,
   ⟨at_ActionTableActs_7, ([(0, 5)]), (by decide +kernel), (by decide +kernel), (by decide +kernel), (by decide +kernel)⟩,
   ⟨at_ActionTableActs_7, ([(0, 5)]), (by decide +kernel), (by decide +kernel), (by decide +kernel), (by decide +kernel), (by decide +kernel)⟩,
   ⟨at_ActionTableActs_9, (by decide +kernel), (by decide +kernel), (by decide +kernel), (by decide +kernel)⟩,
   ⟨at_ActionTableActs_10, (by decide +kernel), (by decide +kernel), (by decide +kernel), (by decide +kernel)⟩,
   ⟨(0), (base 9), taken_of _ _ _ _ _ (by decide +kernel)⟩,
   ⟨(1000), (500), at_ActionTableActs_12, (by decide +kernel), (by decide +kernel), (by decide +kernel), (by decide +kernel)⟩,
   ⟨(1), (1000), (500), at_ActionTableActs_13, (by decide +kernel), (by decide +kernel), (by decide +kernel), (by decide +kernel), (by decide +kernel), (by decide +kernel)⟩,
   ⟨(3), (⟨⟨12, 0, 0, 0⟩, 500, false⟩), (1000), (5001000), at_ActionTableActs_14, (by decide +kernel), (by decide +kernel), (by decide +kernel), (by decide +kernel), (by decide +kernel), (by decide +kernel), (by decide +kernel), (by decide +kernel), (by decide +kernel), (by decide +kernel)⟩,
   ⟨(3), (⟨⟨12, 0, 0, 0⟩, 500, false⟩), (1000), (1600), at_ActionTableActs_15, (by decide +kernel), (by decide +kernel), (by decide +kernel), (by decide +kernel), (by decide +kernel), (by decide +kernel), (by decide +kernel)⟩,
   ⟨(3), (⟨⟨12, 0, 0, 0⟩, 500, false⟩), (1000), (6600), at_ActionTableActs_16, (by decide +kernel), (by decide +kernel), (by decide +kernel), (by decide +kernel), (by decide +kernel), (by decide +kernel), (by decide +kernel), (by decide +kernel)⟩⟩

def at_SnapshotsAndTimeServoAct_0 : State :=
  { base 4 with clk := { (base 4).clk with now := 7, snapAt := [8] } }

def at_SnapshotsAndTimeServoAct_1 : State :=
  { base 4 with clk := { (base 4).clk with now := 7, snapAt := [8] }, sys := { (base 4).sys with seracUp := true } }

def at_SnapshotsAndTimeServoAct_2 : State :=
  { (base 4).wr (Reg.CTR_VAL 14 31) 0x77 with clk := { (base 4).clk with now := 7, snapAt := [7, 9], snapId := 0xFFFF, sidx := 0x100000002 } }

def at_SnapshotsAndTimeServoAct_3 : State :=
  fronted (sets (base 4) [(Fd.PORT_CFG_EN 11, 1), (Fd.PORT_CFG_PTP 11, 1), (Fd.TIM_CTRL_SERVO_EN, 1), (Fd.NET_CTRL_V4_EN, 1)]) [(Reg.TIM_PTP_B, 1)]

def at_SnapshotsAndTimeServoAct_5 : State :=
  { sets (base 4) [(Fd.TIM_CTRL_SERVO_EN, 1), (Fd.TIM_STAT_SERVO, 2), (Fd.TIM_STAT_A_LOCK, 1)] with servo := { (base 4).servo with a := { Ptp.idle with master := some 7, lock := true, seen := [(7, (⟨128, 6, 0x21, 100, 128, 77, 1, ⟨5, 0, 0, 0⟩⟩, 0))] } }, clk := { (base 4).clk with now := 300000 } }

def at_SnapshotsAndTimeServoAct_6 : State :=
  { sets (base 4) [(Fd.TIM_STAT_SERVO, 1)] with servo := { (base 4).servo with b := { Ptp.idle with master := some 7, seen := [(7, (⟨128, 6, 0x21, 100, 128, 77, 1, ⟨5, 0, 0, 0⟩⟩, 0))] } }, clk := { (base 4).clk with now := 300000 } }

def at_SnapshotsAndTimeServoAct_7 : State :=
  { sets (base 4) [(Fd.TIM_STAT_SERVO, 3), (Fd.TIM_HOLD_LIM_SEC, 1)] with clk := { (base 4).clk with now := 100000 } }

def at_SnapshotsAndTimeServoAct_8 : State :=
  { base 4 with servo := { (base 4).servo with apartFrom := some 3, a := { Ptp.idle with lock := true }, b := { Ptp.idle with lock := true } }, clk := { (base 4).clk with now := 1000003 } }

/-- Every clause of SnapshotsAndTimeServoAct has a state and operands that meet its hypotheses. -/
theorem witness_SnapshotsAndTimeServoAct :
    (∃ (w : Fin 8) (s : State), s.WriteTaken w Reg.TIM_SNAP_CTRL 1 true ∧ s.clk.now + 2 ∉ s.clk.snapAt) ∧
    (∃ (s : State), s.edgeToCome = true ∧ (s.clk.snapAt.any (fun x => decide (x ≤ s.clk.now + 1)) = true)) ∧
    (∃ (s : State), (s.clk.snapAt.any (fun x => decide (x ≤ s.clk.now)) = true) ∧ s.clk.snapTick ≠ some s.clk.now ∧ s.mainAbsent = false ∧ s.portAbsent = false) ∧
    (∃ (net : Net) (port : Fin 8) (a : Announce) (s : State), s.portTakesPtp net port = true ∧ s.takesHead net a.head = true) ∧
    (∃ (net : Net) (port : Fin 8) (a : Announce) (s : State), s.portTakesPtp net port = true ∧ s.takesHead net a.head = false) ∧
    (∃ (s : State) (m : Nat), s.servo.a.master = some m ∧ (Tab.has (s.servo.a.seen.filter (fun e => decide (s.clk.now < e.2.2 + announceTimeout e.2.1.head.logInterval))) m = false) ∧ s.servo.b.lock = false ∧ s.on Fd.TIM_STAT_SEL = false ∧ s.fld Fd.TIM_STAT_SERVO = 2) ∧
    (∃ (s : State) (m : Nat), s.servo.b.master = some m ∧ (Tab.has (s.servo.b.seen.filter (fun e => decide (s.clk.now < e.2.2 + announceTimeout e.2.1.head.logInterval))) m = false)) ∧
    (∃ (s : State), s.fld Fd.TIM_STAT_SERVO = 3 ∧ s.servo.holdFrom + sTicks (s.fld Fd.TIM_HOLD_LIM_SEC) ≤ s.clk.now) ∧
    (∃ (s : State) (t0 : Nat), s.servo.apartFrom = some t0 ∧ t0 + sTicks 10 ≤ s.clk.now ∧ s.servo.told = false ∧ s.servo.a.lock = true ∧ s.servo.b.lock = true) :=
  ⟨⟨(0), at_SnapshotsAndTimeServoAct_0, taken_of _ _ _ _ _ (by decide +kernel), (by decide +kernel)⟩,
   ⟨at_SnapshotsAndTimeServoAct_1, (by decide +kernel), (by decide +kernel)⟩,
   ⟨at_SnapshotsAndTimeServoAct_2, (by decide +kernel), (by decide +kernel), (by decide +kernel), (by decide +kernel)⟩,
   ⟨(.b), (3), (⟨128, 6, 0x21, 100, 128, 77, 1, ⟨5, 0, 0, 0⟩⟩), at_SnapshotsAndTimeServoAct_3, (by decide +kernel), (by decide +kernel)⟩,
   ⟨(.b), (3), (⟨128, 6, 0x21, 100, 128, 77, 1, ⟨5, 1, 0, 0⟩⟩), at_SnapshotsAndTimeServoAct_3, (by decide +kernel), (by decide +kernel)⟩,
   ⟨at_SnapshotsAndTimeServoAct_5, (7), (by decide +kernel), (by decide +kernel), (by decide +kernel), (by decide +kernel), (by decide +kernel)⟩,
   ⟨at_SnapshotsAndTimeServoAct_6, (7), (by decide +kernel), (by decide +kernel)⟩,
   ⟨at_SnapshotsAndTimeServoAct_7, (by decide +kernel), (by decide +kernel)⟩,
   ⟨at_SnapshotsAndTimeServoAct_8, (3), (by decide +kernel), (by decide +kernel), (by decide +kernel), (by decide +kernel), (by decide +kernel)⟩⟩

def at_JobsAreTracked_0 : State :=
  { (base 4).setJob 255 { Job.idle with cfg := 0x00100003, window := some ⟨7, 0, [90, 80, 100]⟩ } with clk := { (base 4).clk with now := 1 } }

def at_JobsAreTracked_1 : State :=
  { ((sets (base 4) [(Fd.JOB_STAT_STATE 255, 1)]).wr (Reg.JOB_CFG 255) 0x00100503).setJob 255 { Job.idle with cfg := 0x00100503, window := some ⟨8, 0, [10000000]⟩, last := some (7, 0), interval := some 10000000, agree := 3 } with clk := { (base 4).clk with now := 1 } }

def at_JobsAreTracked_2 : State :=
  (sets (base 4) [(Fd.JOB_STAT_STATE 255, 2)]).setJob 255 { Job.idle with last := some (2, 0), x := 0x340000000 }

def at_JobsAreTracked_3 : State :=
  { (sets (base 4) [(Fd.JOB_STAT_STATE 255, 3), (Fd.AE_CTRL_TRIG 4, 3), (Fd.AE_CTRL_JOB 4, 255), (Fd.AE_STAT_STATE 4, 1)]).setJob 255 { Job.idle with last := some (2, 0), x := 0x340000000 } with act := { (base 4).act with armed := [3, 4] } }

def at_JobsAreTracked_5 : State :=
  (sets (base 4) [(Fd.JOB_STAT_STATE 255, 2)]).setJob 255 { Job.idle with cls := some 4 }

def at_JobsAreTracked_6 : State :=
  (sets (base 4) [(Fd.JOB_STAT_STATE 255, 2)]).setJob 255 { Job.idle with cfg := 3 }

def at_JobsAreTracked_7 : State :=
  sets (base 4) [(Fd.JOB_STAT_STATE 255, 2)]

/-- Every clause of JobsAreTracked has a state and operands that meet its hypotheses. -/
theorem witness_JobsAreTracked :
    (∃ (j : Fin 256) (s : State) (x : MarkWindow), (s.job j).window = some x ∧ x.openedAt + fieldOf (s.job j).cfg 20 10 ≤ s.clk.now ∧ (s.job j).last = none) ∧
    (∃ (j : Fin 256) (s : State) (x : MarkWindow) (s0 : BitVec 32) (t0 : BitVec 64) (p : Nat), (s.job j).window = some x ∧ x.openedAt + fieldOf (s.job j).cfg 20 10 ≤ s.clk.now ∧ (s.job j).last = some (s0, t0) ∧ s.jobState j = 1 ∧ (s.job j).interval = some p ∧ inRange (diff64 (lowerMedian x.times) t0 / diff32 x.step s0) = true ∧ (diff64 (lowerMedian x.times) t0 / diff32 x.step s0 - (p : Int)).natAbs * 1000 ≤ fieldOf (s.rd (Reg.JOB_CFG j)) 7 7 * p ∧ 3 ≤ (s.job j).agree ∧ s.act.armed = []) ∧
    (∃ (j : Fin 256) (s : State) (x : BitVec 64), coastLimit (s.job j) 1 = some x ∧ s.jobState j = 2 ∧ diff64 (s.job j).x x ≥ 0) ∧
    (∃ (j : Fin 256) (s : State) (x : BitVec 64), coastLimit (s.job j) (1 + fieldOf (s.job j).cfg 14 6) = some x ∧ s.jobState j = 3 ∧ diff64 (s.job j).x x ≥ 0) ∧
    (∃ (w : Fin 8) (j : Fin 256) (value : Word) (s : State), s.WriteTaken w (Reg.JOB_CFG j) value true ∧ fieldOf value 0 1 = 1 ∧ s.jobState j = 0) ∧
    (∃ (w : Fin 8) (j : Fin 256) (value : Word) (s : State), s.WriteTaken w (Reg.JOB_CFG j) value true ∧ fieldOf value 0 1 = 0 ∧ s.jobState j ≠ 0) ∧
    (∃ (q : Req) (job : Byte) (step : Word) (tb : BitVec 64) (ns : Fin 10000) (s : State) (k : Nat) (u : State), s.Reaches q k u ∧ (judgeStepMark job step ⟨tb, ns⟩ k u).first q u = none ∧ (s.jobState job.toNat = 1 ∨ s.jobState job.toNat = 2 ∨ s.jobState job.toNat = 3) ∧ fieldOf (s.job job.toNat).cfg 1 1 = 1 ∧ (s.job job.toNat).last = none ∧ (s.job job.toNat).window = none ∧ diff64 tb (s.arrival ns) ≤ 1000000) ∧
    (∃ (q : Req) (job : Byte) (step : Word) (segs : List (BitVec 16 × BitVec 16)) (s : State) (k : Nat) (u : State), s.Reaches q k u ∧ (judgePhase job step segs k u).first q u = none) :=
  ⟨⟨(255), at_JobsAreTracked_0, (⟨7, 0, [90, 80, 100]⟩), (by decide +kernel), (by decide +kernel), (by decide +kernel)⟩,
   ⟨(255), at_JobsAreTracked_1, (⟨8, 0, [10000000]⟩), (7), (0), (10000000), (by decide +kernel), (by decide +kernel), (by decide +kernel), (by decide +kernel), (by decide +kernel), (by decide +kernel), (by decide +kernel), (by decide +kernel), (by decide +kernel)⟩,
   ⟨(255), at_JobsAreTracked_2, (0x340000000), (by decide +kernel), (by decide +kernel), (by decide +kernel)⟩,
   ⟨(255), at_JobsAreTracked_3, (0x340000000), (by decide +kernel), (by decide +kernel), (by decide +kernel)⟩,
   ⟨(0), (255), (0x00104503), (base 4), taken_of _ _ _ _ _ (by decide +kernel), (by decide +kernel), (by decide +kernel)⟩,
   ⟨(0), (255), (0x00104502), at_JobsAreTracked_5, taken_of _ _ _ _ _ (by decide +kernel), (by decide +kernel), (by decide +kernel)⟩,
   ⟨(req), (255), (9), (1000), (9999), at_JobsAreTracked_6, (0), (judged at_JobsAreTracked_6 (req) (0)), reaches_of at_JobsAreTracked_6 (req) (0) (by decide +kernel), (by decide +kernel), (by decide +kernel), (by decide +kernel), (by decide +kernel), (by decide +kernel), (by decide +kernel)⟩,
   ⟨(req), (255), (9), ([(0, 0x0301), (0x8000, 0x0302)]), at_JobsAreTracked_7, (0), (judged at_JobsAreTracked_7 (req) (0)), reaches_of at_JobsAreTracked_7 (req) (0) (by decide +kernel), (by decide +kernel)⟩⟩

def at_PairBarriersAreAgreed_0 : State :=
  { sets (base 2) [(Fd.PAI_STAT_PAIRED, 1), (Fd.PAI_STAT_ROLE, 2), (Fd.PAI_STAT_L0, 1)] with act := { (base 2).act with armed := [0] } }

def at_PairBarriersAreAgreed_2 : State :=
  { { sets (base 2) [(Fd.PAI_STAT_PAIRED, 1), (Fd.PAI_STAT_ROLE, 2), (Fd.PAI_STAT_L0, 1)] with act := { (base 2).act with armed := [0] } } with clk := { (base 2).clk with sidx := 5001 } }

def at_PairBarriersAreAgreed_4 : State :=
  { sets (base 4) [(Fd.PAI_STAT_PAIRED, 1), (Fd.PAI_STAT_ROLE, 1)] with pair := { (base 4).pair with bars := [⟨⟨7, 5, 9, 5000⟩, none⟩] } }

def at_PairBarriersAreAgreed_5 : State :=
  { sets (base 4) [(Fd.PAI_STAT_PAIRED, 1), (Fd.PAI_STAT_ROLE, 1)] with pair := { (base 4).pair with bars := [⟨⟨0, 1, 9, 5000⟩, none⟩] } }

def at_PairBarriersAreAgreed_7 : State :=
  { sets (base 4) [(Fd.PAI_STAT_PAIRED, 1), (Fd.PAI_STAT_ROLE, 1)] with pair := { (base 4).pair with bars := [⟨⟨7, 5, 9, 50⟩, none⟩] } }

def at_PairBarriersAreAgreed_8 : State :=
  { sets (base 2) [(Fd.PAI_STAT_PAIRED, 1), (Fd.PAI_STAT_ROLE, 2), (Fd.AE_STAT_STATE 3, 1)] with pair := { (base 2).pair with bars := [⟨⟨7, 5, 9, 5000⟩, some 3⟩] }, act := { (base 2).act with armed := [2, 3] } }

def at_PairBarriersAreAgreed_9 : State :=
  { sets (base 4) [(Fd.PAI_STAT_PAIRED, 1), (Fd.PAI_STAT_ROLE, 1), (Fd.PAI_SWAP_STAT_STATE, 1)] with pair := { (base 4).pair with bars := [⟨⟨0, 1, 9, 50⟩, none⟩] } }

def at_PairBarriersAreAgreed_11 : State :=
  { sets (base 2) [(Fd.PAI_STAT_ROLE, 2), (Fd.PAI_SWAP_STAT_STATE, 2)] with pair := { (base 2).pair with swapN := some 1001 } }

def at_PairBarriersAreAgreed_13 : State :=
  { sets (base 4) [(Fd.PAI_STAT_ROLE, 1), (Fd.PAI_SWAP_STAT_STATE, 3)] with pair := { (base 4).pair with swapN := some 1001 } }

def at_PairBarriersAreAgreed_14 : State :=
  { sets (base 2) [(Fd.PAI_STAT_ROLE, 2), (Fd.PAI_SWAP_STAT_STATE, 3), (Fd.TBL_STAT_READY, 1), (Fd.LOP_STAT_B_STATE, 1)] with pair := { (base 2).pair with swapN := some 1001, recs := (List.range 90).map (fun i => ⟨901 + BitVec.ofNat 64 i, 0, false, []⟩) }, clk := { (base 2).clk with sidx := 991 }, sys := { (base 2).sys with crec := some record } }

def at_PairBarriersAreAgreed_15 : State :=
  sets (base 4) [(Fd.PAI_STAT_PAIRED, 1), (Fd.PAI_STAT_ROLE, 1)]

/-- Every clause of PairBarriersAreAgreed has a state and operands that meet its hypotheses. -/
theorem witness_PairBarriersAreAgreed :
    (∃ (b : BarrierMsg) (s : State) (n : Nat), s.fld Fd.PAI_STAT_ROLE = 2 ∧ s.pairUp = true ∧ s.mainAbsent = false ∧ s.pairBar b.id.val = none ∧ s.freeEntry = some n ∧ b.action.val ≠ actRoleSwap ∧ diff64 s.clk.sidx b.at_ ≤ 0) ∧
    (∃ (b : BarrierMsg) (s : State) (n : Nat), s.fld Fd.PAI_STAT_ROLE = 2 ∧ s.pairUp = true ∧ s.mainAbsent = false ∧ s.pairBar b.id.val = none ∧ s.freeEntry = some n ∧ b.action.val = actRoleSwap ∧ diff64 s.clk.sidx b.at_ ≤ 0) ∧
    (∃ (b : BarrierMsg) (s : State) (n : Nat), s.fld Fd.PAI_STAT_ROLE = 2 ∧ s.pairUp = true ∧ s.mainAbsent = false ∧ s.pairBar b.id.val = none ∧ s.freeEntry = some n ∧ diff64 s.clk.sidx b.at_ > 0) ∧
    (∃ (b : BarrierMsg) (s : State), (s.fld Fd.PAI_STAT_ROLE ≠ 2 ∨ s.pairUp = false ∨ (s.pairBar b.id).any (fun x => x.msg == b) = true)) ∧
    (∃ (id : Fin 16) (s : State) (x : PairBar) (n : Nat), s.pairBar id = some x ∧ s.isActive = true ∧ x.entry = none ∧ diff64 s.clk.sidx x.msg.at_ < -100 ∧ s.mainAbsent = false ∧ s.freeEntry = some n ∧ x.msg.action.val ≠ actRoleSwap) ∧
    (∃ (id : Fin 16) (s : State) (x : PairBar) (n : Nat), s.pairBar id = some x ∧ s.isActive = true ∧ x.entry = none ∧ diff64 s.clk.sidx x.msg.at_ < -100 ∧ s.mainAbsent = false ∧ s.freeEntry = some n ∧ x.msg.action.val = actRoleSwap) ∧
    (∃ (id : Fin 16) (s : State), (s.isActive = false ∨ (s.pairBar id).all (fun x => x.entry.isSome || decide (diff64 s.clk.sidx x.msg.at_ ≥ -100)) = true)) ∧
    (∃ (id : Fin 16) (s : State) (x : PairBar), s.pairBar id = some x ∧ s.isActive = true ∧ x.entry = none ∧ diff64 s.clk.sidx x.msg.at_ ≥ -100 ∧ x.msg.action.val ≠ actRoleSwap) ∧
    (∃ (id : Fin 16) (s : State) (x : PairBar) (n : Nat), s.pairBar id = some x ∧ s.isActive = false ∧ x.entry = some n ∧ s.fld (Fd.AE_STAT_STATE n) = 1 ∧ x.msg.action.val ≠ actRoleSwap) ∧
    (∃ (id : Fin 16) (s : State) (x : PairBar), s.pairBar id = some x ∧ s.isActive = true ∧ x.entry = none ∧ diff64 s.clk.sidx x.msg.at_ ≥ -100 ∧ x.msg.action.val = actRoleSwap ∧ id.val = barRoleSwap ∧ s.swapping = true) ∧
    (∃ (id : Fin 16) (s : State), s.pairBar id = none) ∧
    (∃ (r : TickRec) (s : State) (n : BitVec 64), s.pair.swapN = some n ∧ s.fld Fd.PAI_STAT_ROLE = 2 ∧ (s.swapState = 2 ∨ s.swapState = 3) ∧ 1 ≤ diff64 n r.sidx ∧ diff64 n r.sidx ≤ 100 ∧ (s.pair.recs.all (fun x => x.sidx != r.sidx) = true)) ∧
    (∃ (r : TickRec) (s : State), (s.fld Fd.PAI_STAT_ROLE ≠ 2 ∨ (s.swapState ≠ 2 ∧ s.swapState ≠ 3) ∨ s.pair.swapN = none ∨ s.pair.recs.any (fun x => x.sidx == r.sidx) = true)) ∧
    (∃ (s : State) (n : BitVec 64), s.pair.swapN = some n ∧ s.isActive = true ∧ s.swapState = 3) ∧
    (∃ (s : State) (n : BitVec 64), s.pair.swapN = some n ∧ s.fld Fd.PAI_STAT_ROLE = 2 ∧ s.clk.sidx = n - 10 ∧ s.pair.readyMark = false ∧ s.holdsRecords n = true ∧ s.lanesOk = true ∧ s.warmReady = true) ∧
    (∃ (s : State), s.isActive = true ∧ (s.swapState ≠ 3 ∨ s.pair.swapN = none)) :=
  ⟨⟨(⟨7, 5, 9, 5000⟩), at_PairBarriersAreAgreed_0, (1), (by decide +kernel), (by decide +kernel), (by decide +kernel), (by decide +kernel), (by decide +kernel), (by decide +kernel), (by decide +kernel)⟩,
   ⟨(⟨0, 1, 9, 5000⟩), at_PairBarriersAreAgreed_0, (1), (by decide +kernel), (by decide +kernel), (by decide +kernel), (by decide +kernel), (by decide +kernel), (by decide +kernel), (by decide +kernel)⟩,
   ⟨(⟨7, 5, 9, 5000⟩), at_PairBarriersAreAgreed_2, (1), (by decide +kernel), (by decide +kernel), (by decide +kernel), (by decide +kernel), (by decide +kernel), (by decide +kernel)⟩,
   ⟨(⟨7, 5, 9, 5000⟩), (base 4), (by decide +kernel)⟩,
   ⟨(7), at_PairBarriersAreAgreed_4, (⟨⟨7, 5, 9, 5000⟩, none⟩), (0), (by decide +kernel), (by decide +kernel), (by decide +kernel), (by decide +kernel), (by decide +kernel), (by decide +kernel), (by decide +kernel)⟩,
   ⟨(0), at_PairBarriersAreAgreed_5, (⟨⟨0, 1, 9, 5000⟩, none⟩), (0), (by decide +kernel), (by decide +kernel), (by decide +kernel), (by decide +kernel), (by decide +kernel), (by decide +kernel), (by decide +kernel)⟩,
   ⟨(7), (base 4), (by decide +kernel)⟩,
   ⟨(7), at_PairBarriersAreAgreed_7, (⟨⟨7, 5, 9, 50⟩, none⟩), (by decide +kernel), (by decide +kernel), (by decide +kernel), (by decide +kernel), (by decide +kernel)⟩,
   ⟨(7), at_PairBarriersAreAgreed_8, (⟨⟨7, 5, 9, 5000⟩, some 3⟩), (3), (by decide +kernel), (by decide +kernel), (by decide +kernel), (by decide +kernel), (by decide +kernel)⟩,
   ⟨(0), at_PairBarriersAreAgreed_9, (⟨⟨0, 1, 9, 50⟩, none⟩), (by decide +kernel), (by decide +kernel), (by decide +kernel), (by decide +kernel), (by decide +kernel), (by decide +kernel), (by decide +kernel)⟩,
   ⟨(7), (base 4), (by decide +kernel)⟩,
   ⟨(⟨1000, 5, true, [(0x6020000, 7)]⟩), at_PairBarriersAreAgreed_11, (1001), (by decide +kernel), (by decide +kernel), (by decide +kernel), (by decide +kernel), (by decide +kernel)⟩,
   ⟨(⟨1000, 5, true, [(0x6020000, 7)]⟩), (base 4), (by decide +kernel)⟩,
   ⟨at_PairBarriersAreAgreed_13, (1001), (by decide +kernel), (by decide +kernel), (by decide +kernel)⟩,
   ⟨at_PairBarriersAreAgreed_14, (1001), (by decide +kernel), (by decide +kernel), (by decide +kernel), (by decide +kernel), (by decide +kernel), (by decide +kernel), (by decide +kernel)⟩,
   ⟨at_PairBarriersAreAgreed_15, (by decide +kernel), (by decide +kernel)⟩⟩

def at_StreamEventsTakeEffect_0 : State :=
  { ((sets (base 4) [(Fd.PORT_CFG_EN 11, 1), (Fd.PORT_CFG_STREAM 11, 1), (Fd.STM_CTRL_EN, 1), (Fd.SRC_STAT_EPOCH 5, 4), (Fd.STM_CFG_EN 323, 1)]).wr (Reg.SRC_SEQ 5) 5) with stm := { (base 4).stm with row := [(5, 0)], src := [(5, { StrmSrc.none with passed := some 0, released := some 5 })] } }

def at_StreamEventsTakeEffect_1 : State :=
  { { ((sets (base 4) [(Fd.PORT_CFG_EN 11, 1), (Fd.PORT_CFG_STREAM 11, 1), (Fd.STM_CTRL_EN, 1), (Fd.SRC_STAT_EPOCH 5, 4), (Fd.STM_CFG_EN 323, 1)]).wr (Reg.SRC_SEQ 5) 5) with stm := { (base 4).stm with row := [(5, 0)], src := [(5, { StrmSrc.none with passed := some 0, released := some 5 })] } } with zh := { (base 4).zh with quarEnd := [(2, 900)] } }.wr (Reg.QU_ADDR 2 0) 77

def at_StreamEventsTakeEffect_6 : State :=
  { ((sets (base 4) [(Fd.PORT_CFG_EN 11, 1), (Fd.PORT_CFG_STREAM 11, 1), (Fd.STM_CTRL_EN, 1), (Fd.SRC_STAT_EPOCH 5, 4), (Fd.STM_CFG_EN 323, 1)]).wr (Reg.SRC_SEQ 5) 5) with stm := { (base 4).stm with row := [(5, 0)], src := [(5, { StrmSrc.none with passed := some 0, seen := 1, released := some 5 })] } }

def at_StreamEventsTakeEffect_7 : State :=
  ({ ((sets (base 4) [(Fd.PORT_CFG_EN 11, 1), (Fd.PORT_CFG_STREAM 11, 1), (Fd.STM_CTRL_EN, 1), (Fd.SRC_STAT_EPOCH 5, 4), (Fd.STM_CFG_EN 323, 1)]).wr (Reg.SRC_SEQ 5) 5) with stm := { (base 4).stm with row := [(5, 0)], src := [(5, { StrmSrc.none with passed := some 0, released := some 5 })] } }).wr (Reg.SRC_SEQ 5) 70

def at_StreamEventsTakeEffect_8 : State :=
  { ((sets (base 4) [(Fd.PORT_CFG_EN 11, 1), (Fd.PORT_CFG_STREAM 11, 1), (Fd.STM_CTRL_EN, 1), (Fd.SRC_STAT_EPOCH 5, 4), (Fd.STM_CFG_EN 323, 1)]).wr (Reg.SRC_SEQ 5) 5) with stm := { (base 4).stm with row := [(5, 0)], src := [] } }

def at_StreamEventsTakeEffect_10 : State :=
  { { sets (base 4) [(Fd.QU_STAT_VALID 255, 1), (Fd.QU_STAT_REMAIN 255, 1)] with zh := { (base 4).zh with quarEnd := [(255, 100)], quarNext := [(255, 100000)] } } with clk := { (base 4).clk with now := 100 } }

def at_StreamEventsTakeEffect_11 : State :=
  { { sets (base 4) [(Fd.QU_STAT_VALID 255, 1), (Fd.QU_STAT_REMAIN 255, 1)] with zh := { (base 4).zh with quarEnd := [(255, 1000000)], quarNext := [(255, 100000)] } } with clk := { (base 4).clk with now := 100000 } }

def at_StreamEventsTakeEffect_13 : State :=
  { { base 4 with stm := { (base 4).stm with src := [(5, { StrmSrc.none with released := some 5, held := [⟨9, 0, 0, 0, [⟨3, 0, 0, 0, [0x0640]⟩]⟩] })] } } with clk := { (base 4).clk with now := 100000 } }

def at_StreamEventsTakeEffect_14 : State :=
  { { base 4 with stm := { (base 4).stm with src := [(5, { StrmSrc.none with released := some 5, held := [⟨9, 100000, 0, 0, [⟨3, 0, 0, 0, [0x0640]⟩]⟩] })] } } with clk := { (base 4).clk with now := 100000 } }

def at_StreamEventsTakeEffect_15 : State :=
  { (sets (base 4) [(Fd.STM_CFG_EN 99, 1)]).setStrm 99 { Strm.fresh 0 with sup := { Supv.fresh 0 false with stale := false } } with clk := { (base 4).clk with now := 300 } }

def at_StreamEventsTakeEffect_17 : State :=
  { sets (base 4) [(Fd.SV_VAL_VALUE 64, 0x640), (Fd.SV_VAL_VALUE 65, 0x700), (Fd.SV_FCAST_VALUE 65, 0x640), (Fd.SV_FCAST_FVALID 65, 1), (Fd.PAIR_STAT_STATE 0, 1), (Fd.PAIR_STAT_SPLIT_MS 0, 1000)] with stm := { (base 4).stm with pairs := [(0, 64, 65, 0x1064)] } }

def at_StreamEventsTakeEffect_18 : State :=
  { sets (base 4) [(Fd.SV_VAL_VALUE 64, 0x640), (Fd.SV_VAL_VALUE 65, 0x700), (Fd.SV_FCAST_VALUE 65, 0x6f0), (Fd.SV_FCAST_FVALID 65, 1), (Fd.PAIR_STAT_STATE 0, 1), (Fd.PAIR_STAT_SPLIT_MS 0, 1000)] with stm := { (base 4).stm with pairs := [(0, 64, 65, 0x1064)] } }

def at_StreamEventsTakeEffect_20 : State :=
  fronted (base 4) [(Reg.STM_BUDGET, word [(Fd.STM_BUDGET_N, 1000)])]

def at_StreamEventsTakeEffect_21 : State :=
  { base 4 with stm := { (base 4).stm with commit := some ⟨5, [], []⟩ } }

def at_StreamEventsTakeEffect_22 : State :=
  fronted (sets (base 4) [(⟨Reg.STM_SCFG 9, 0, 1⟩, 1), (⟨Reg.STM_SCFG 9, 10, 12⟩, 7)]) [(Reg.STM_BUDGET, word [(Fd.STM_BUDGET_N, 1000)])]

def at_StreamEventsTakeEffect_23 : State :=
  sets (base 4) [(Fd.STM_CFG_EN 5, 1), (Fd.STM_CFG_CLASS 5, 2), (⟨Reg.STM_SCFG 9, 0, 1⟩, 1)]

/-- Every clause of StreamEventsTakeEffect has a state and operands that meet its hypotheses. -/
theorem witness_StreamEventsTakeEffect :
    (∃ (c : Came) (udp : BitVec 16) (bytes : List Byte) (ns : Fin 10000) (s : State), (s.portTakes Fd.PORT_CFG_STREAM c.port c.src c.row = false ∨ s.on Fd.STM_CTRL_EN = false)) ∧
    (∃ (c : Came) (udp : BitVec 16) (bytes : List Byte) (ns : Fin 10000) (s : State), s.portTakes Fd.PORT_CFG_STREAM c.port c.src c.row = true ∧ s.on Fd.STM_CTRL_EN = true ∧ ((s.countRx c.port).quarEntry c.src).isSome = true) ∧
    (∃ (c : Came) (udp : BitVec 16) (bytes : List Byte) (ns : Fin 10000) (s : State), s.portTakes Fd.PORT_CFG_STREAM c.port c.src c.row = true ∧ s.on Fd.STM_CTRL_EN = true ∧ (s.countRx c.port).quarEntry c.src = none ∧ (bytes.length < 28 ∨ beAt bytes 0 2 ≠ 0xF1A7)) ∧
    (∃ (c : Came) (udp : BitVec 16) (bytes : List Byte) (ns : Fin 10000) (s : State) (code : Nat), s.portTakes Fd.PORT_CFG_STREAM c.port c.src c.row = true ∧ s.on Fd.STM_CTRL_EN = true ∧ (s.countRx c.port).quarEntry c.src = none ∧ 28 ≤ bytes.length ∧ beAt bytes 0 2 = 0xF1A7 ∧ (s.countRx c.port).checkFrame bytes = .error code) ∧
    (∃ (c : Came) (udp : BitVec 16) (bytes : List Byte) (ns : Fin 10000) (s : State) (a : Nat) (rs : List StrmRec) (r : BitVec 32), s.portTakes Fd.PORT_CFG_STREAM c.port c.src c.row = true ∧ s.on Fd.STM_CTRL_EN = true ∧ (s.countRx c.port).quarEntry c.src = none ∧ 28 ≤ bytes.length ∧ beAt bytes 0 2 = 0xF1A7 ∧ (s.countRx c.port).checkFrame bytes = .ok (a, rs) ∧ beAt bytes 12 2 = s.fld (Fd.SRC_STAT_EPOCH a) ∧ (s.strmSrc a).passed.isSome = true ∧ s.rd (Reg.SRC_SEQ a) = r ∧ (s.strmSrc a).released = some r ∧ 1 < diff32 (BitVec.ofNat 32 (beAt bytes 8 4)) r) ∧
    (∃ (c : Came) (udp : BitVec 16) (bytes : List Byte) (ns : Fin 10000) (s : State) (a : Nat) (rs : List StrmRec) (r : BitVec 32), s.portTakes Fd.PORT_CFG_STREAM c.port c.src c.row = true ∧ s.on Fd.STM_CTRL_EN = true ∧ (s.countRx c.port).quarEntry c.src = none ∧ 28 ≤ bytes.length ∧ beAt bytes 0 2 = 0xF1A7 ∧ (s.countRx c.port).checkFrame bytes = .ok (a, rs) ∧ beAt bytes 12 2 = s.fld (Fd.SRC_STAT_EPOCH a) ∧ (s.strmSrc a).passed.isSome = true ∧ s.rd (Reg.SRC_SEQ a) = r ∧ (s.strmSrc a).released = some r ∧ (s.strmSrc a).held = [] ∧ diff32 (BitVec.ofNat 32 (beAt bytes 8 4)) r = 1) ∧
    (∃ (c : Came) (udp : BitVec 16) (bytes : List Byte) (ns : Fin 10000) (s : State) (a : Nat) (rs : List StrmRec), s.portTakes Fd.PORT_CFG_STREAM c.port c.src c.row = true ∧ s.on Fd.STM_CTRL_EN = true ∧ (s.countRx c.port).quarEntry c.src = none ∧ 28 ≤ bytes.length ∧ beAt bytes 0 2 = 0xF1A7 ∧ (s.countRx c.port).checkFrame bytes = .ok (a, rs) ∧ beAt bytes 12 2 = s.fld (Fd.SRC_STAT_EPOCH a) ∧ (s.strmSrc a).passed.isSome = true ∧ -64 < diff32 (BitVec.ofNat 32 (beAt bytes 8 4)) (s.rd (Reg.SRC_SEQ a)) ∧ diff32 (BitVec.ofNat 32 (beAt bytes 8 4)) (s.rd (Reg.SRC_SEQ a)) ≤ 0 ∧ bitOf (s.strmSrc a).seen (-diff32 (BitVec.ofNat 32 (beAt bytes 8 4)) (s.rd (Reg.SRC_SEQ a))).toNat = true) ∧
    (∃ (c : Came) (udp : BitVec 16) (bytes : List Byte) (ns : Fin 10000) (s : State) (a : Nat) (rs : List StrmRec), s.portTakes Fd.PORT_CFG_STREAM c.port c.src c.row = true ∧ s.on Fd.STM_CTRL_EN = true ∧ (s.countRx c.port).quarEntry c.src = none ∧ 28 ≤ bytes.length ∧ beAt bytes 0 2 = 0xF1A7 ∧ (s.countRx c.port).checkFrame bytes = .ok (a, rs) ∧ beAt bytes 12 2 = s.fld (Fd.SRC_STAT_EPOCH a) ∧ (s.strmSrc a).passed.isSome = true ∧ diff32 (BitVec.ofNat 32 (beAt bytes 8 4)) (s.rd (Reg.SRC_SEQ a)) ≤ -64) ∧
    (∃ (c : Came) (udp : BitVec 16) (bytes : List Byte) (ns : Fin 10000) (s : State) (a : Nat) (rs : List StrmRec), s.portTakes Fd.PORT_CFG_STREAM c.port c.src c.row = true ∧ s.on Fd.STM_CTRL_EN = true ∧ (s.countRx c.port).quarEntry c.src = none ∧ 28 ≤ bytes.length ∧ beAt bytes 0 2 = 0xF1A7 ∧ (s.countRx c.port).checkFrame bytes = .ok (a, rs) ∧ (beAt bytes 12 2 ≠ s.fld (Fd.SRC_STAT_EPOCH a) ∨ (s.strmSrc a).passed = none) ∧ s.silentSource a = true) ∧
    (∃ (c : Came) (udp : BitVec 16) (bytes : List Byte) (ns : Fin 10000) (s : State) (a : Nat) (rs : List StrmRec), s.portTakes Fd.PORT_CFG_STREAM c.port c.src c.row = true ∧ s.on Fd.STM_CTRL_EN = true ∧ (s.countRx c.port).quarEntry c.src = none ∧ 28 ≤ bytes.length ∧ beAt bytes 0 2 = 0xF1A7 ∧ (s.countRx c.port).checkFrame bytes = .ok (a, rs) ∧ beAt bytes 12 2 ≠ s.fld (Fd.SRC_STAT_EPOCH a) ∧ beAt bytes 3 1 / 2 % 2 = 0 ∧ s.silentSource a = false) ∧
    (∃ (entry : Fin 256) (s : State) (n : Nat), Tab.find s.zh.quarEnd entry = some n ∧ n ≤ s.clk.now) ∧
    (∃ (entry : Fin 256) (s : State) (n : Nat), Tab.find s.zh.quarEnd entry = some n ∧ s.clk.now < n) ∧
    (∃ (entry : Fin 256) (s : State), Tab.find s.zh.quarEnd entry = none) ∧
    (∃ (acc : Fin 4096) (s : State) (f : HeldFrame) (r : BitVec 32), (s.strmSrc acc).held = [f] ∧ (s.strmSrc acc).released = some r ∧ f.at_ + (s.fld Fd.STM_REORD_WAIT_US + 9) / 10 ≤ s.clk.now ∧ 1 < diff32 f.seq r) ∧
    (∃ (acc : Fin 4096) (s : State), (∀ f ∈ (s.strmSrc acc).held, s.clk.now < f.at_ + (s.fld Fd.STM_REORD_WAIT_US + 9) / 10)) ∧
    (∃ (sid : Fin 262144) (s : State) (n : Nat), classStale (s.fld (Fd.STM_CFG_CLASS sid)) = some n ∧ s.on (Fd.STM_CFG_EN sid) = true ∧ (s.strm sid).sup.stale = false ∧ (s.strm sid).sup.lastRead + n ≤ s.clk.now) ∧
    (∃ (sid : Fin 262144) (s : State), (classStale (s.fld (Fd.STM_CFG_CLASS sid)) = none ∨ s.on (Fd.STM_CFG_EN sid) = false ∨ (s.strm sid).sup.stale = true)) ∧
    (∃ (pair : Fin 4096) (s : State) (wa wb cfg : Word) (a b f : Int), Tab.find s.stm.pairs pair = some (wa, wb, cfg) ∧ s.okReading (fieldOf wa 0 18) = some a ∧ s.okReading (fieldOf wb 0 18) = some b ∧ s.pairForecast (fieldOf wa 0 18) (fieldOf wb 0 18) = some f ∧ s.clk.sidx.toNat % 100 = 0 ∧ s.fld (Fd.PAIR_STAT_STATE pair) = 1 ∧ fieldOf cfg 12 10 * 1000 ≤ s.fld (Fd.PAIR_STAT_SPLIT_MS pair) ∧ s.mainAbsent = false ∧ (a - f).natAbs < (b - f).natAbs) ∧
    (∃ (pair : Fin 4096) (s : State) (wa wb cfg : Word) (a b f : Int), Tab.find s.stm.pairs pair = some (wa, wb, cfg) ∧ s.okReading (fieldOf wa 0 18) = some a ∧ s.okReading (fieldOf wb 0 18) = some b ∧ s.pairForecast (fieldOf wa 0 18) (fieldOf wb 0 18) = some f ∧ s.clk.sidx.toNat % 100 = 0 ∧ s.fld (Fd.PAIR_STAT_STATE pair) = 1 ∧ fieldOf cfg 12 10 * 1000 ≤ s.fld (Fd.PAIR_STAT_SPLIT_MS pair) ∧ s.mainAbsent = false ∧ ((b - f).natAbs < (a - f).natAbs ∨ ((a - f).natAbs = (b - f).natAbs ∧ a ≤ b))) ∧
    (∃ (pair : Fin 4096) (s : State), (Tab.find s.stm.pairs pair = none ∨ s.clk.sidx.toNat % 100 ≠ 0 ∨ s.fld (Fd.PAIR_STAT_STATE pair) ≠ 1 ∨ s.mainAbsent = true)) ∧
    (∃ (w : Fin 8) (s : State), s.WriteTaken w Reg.STM_CMT 1 true ∧ s.stm.commit = none ∧ s.commitResult s.stagedCfg s.stagedPairs (!s.overTime s.activeSet s.ice.part s.stagedCfg && !s.overBandwidth s.activeSet s.stagedCfg) = 1 ∧ s.lsOn = false) ∧
    (∃ (w : Fin 8) (s : State), s.WriteTaken w Reg.STM_CMT 1 true ∧ s.stm.commit.isSome = true) ∧
    (∃ (w : Fin 8) (s : State), s.WriteTaken w Reg.STM_CMT 1 true ∧ s.stm.commit = none ∧ s.commitResult s.stagedCfg s.stagedPairs (!s.overTime s.activeSet s.ice.part s.stagedCfg && !s.overBandwidth s.activeSet s.stagedCfg) ≠ 1) ∧
    (∃ (w : Fin 8) (s : State), s.WriteTaken w Reg.STM_CMT 2 true ∧ regsWf s.regs = true) ∧
    (∃ (w : Fin 8) (value : Word) (s : State), s.WriteTaken w Reg.STM_ACK value true) :=
  ⟨⟨(⟨77, 11, true⟩), (9), (strmBytes 9 4), (0), at_StreamEventsTakeEffect_0, (by decide +kernel)⟩,
   ⟨(⟨77, 11, false⟩), (9), (strmBytes 9 4), (0), at_StreamEventsTakeEffect_1, (by decide +kernel), (by decide +kernel), (by decide +kernel)⟩,
   ⟨(⟨77, 11, false⟩), (9), ([0xF1, 0xA7, 1]), (0), at_StreamEventsTakeEffect_0, (by decide +kernel), (by decide +kernel), (by decide +kernel), (by decide +kernel)⟩,
   ⟨(⟨77, 11, false⟩), (9), ((strmBytes 9 4).set 27 5), (0), at_StreamEventsTakeEffect_0, (2), (by decide +kernel), (by decide +kernel), (by decide +kernel), (by decide +kernel), (by decide +kernel), (by first | decide +kernel | exact ⟨rfl, by decide +kernel⟩ | rfl)⟩,
   ⟨(⟨77, 11, false⟩), (9), (strmBytes 9 4), (25), at_StreamEventsTakeEffect_0, (5), ([⟨3, 0, 0, 0, [0x0640]⟩]), (5), (by decide +kernel), (by decide +kernel), (by decide +kernel), (by decide +kernel), (by decide +kernel), (by first | decide +kernel | exact ⟨rfl, by decide +kernel⟩ | rfl), (by decide +kernel), (by decide +kernel), (by decide +kernel), (by decide +kernel), (by decide +kernel)⟩,
   ⟨(⟨77, 11, false⟩), (9), (strmBytes 6 4), (25), at_StreamEventsTakeEffect_0, (5), ([⟨3, 0, 0, 0, [0x0640]⟩]), (5), (by decide +kernel), (by decide +kernel), (by decide +kernel), (by decide +kernel), (by decide +kernel), (by first | decide +kernel | exact ⟨rfl, by decide +kernel⟩ | rfl), (by decide +kernel), (by decide +kernel), (by decide +kernel), (by decide +kernel), (by decide +kernel), (by decide +kernel)⟩,
   ⟨(⟨77, 11, false⟩), (9), (strmBytes 5 4), (25), at_StreamEventsTakeEffect_6, (5), ([⟨3, 0, 0, 0, [0x0640]⟩]), (by decide +kernel), (by decide +kernel), (by decide +kernel), (by decide +kernel), (by decide +kernel), (by first | decide +kernel | exact ⟨rfl, by decide +kernel⟩ | rfl), (by decide +kernel), (by decide +kernel), (by decide +kernel), (by decide +kernel)⟩,
   ⟨(⟨77, 11, false⟩), (9), (strmBytes 6 4), (25), at_StreamEventsTakeEffect_7, (5), ([⟨3, 0, 0, 0, [0x0640]⟩]), (by decide +kernel), (by decide +kernel), (by decide +kernel), (by decide +kernel), (by decide +kernel), (by first | decide +kernel | exact ⟨rfl, by decide +kernel⟩ | rfl), (by decide +kernel), (by decide +kernel), (by decide +kernel)⟩,
   ⟨(⟨77, 11, false⟩), (9), (strmBytes 6 9), (25), at_StreamEventsTakeEffect_8, (5), ([⟨3, 0, 0, 0, [0x0640]⟩]), (by decide +kernel), (by decide +kernel), (by decide +kernel), (by decide +kernel), (by decide +kernel), (by first | decide +kernel | exact ⟨rfl, by decide +kernel⟩ | rfl), (by decide +kernel), (by decide +kernel)⟩,
   ⟨(⟨77, 11, false⟩), (9), (strmBytes 6 3), (25), at_StreamEventsTakeEffect_0, (5), ([⟨3, 0, 0, 0, [0x0640]⟩]), (by decide +kernel), (by decide +kernel), (by decide +kernel), (by decide +kernel), (by decide +kernel), (by first | decide +kernel | exact ⟨rfl, by decide +kernel⟩ | rfl), (by decide +kernel), (by decide +kernel), (by decide +kernel)⟩,
   ⟨(255), at_StreamEventsTakeEffect_10, (100), (by decide +kernel), (by decide +kernel)⟩,
   ⟨(255), at_StreamEventsTakeEffect_11, (1000000), (by decide +kernel), (by decide +kernel)⟩,
   ⟨(255), (base 4), (by decide +kernel)⟩,
   ⟨(5), at_StreamEventsTakeEffect_13, (⟨9, 0, 0, 0, [⟨3, 0, 0, 0, [0x0640]⟩]⟩), (5), (by decide +kernel), (by decide +kernel), (by decide +kernel), (by decide +kernel)⟩,
   ⟨(5), at_StreamEventsTakeEffect_14, (by decide +kernel)⟩,
   ⟨(99), at_StreamEventsTakeEffect_15, (300), (by decide +kernel), (by decide +kernel), (by decide +kernel), (by decide +kernel)⟩,
   ⟨(99), (base 4), (by decide +kernel)⟩,
   ⟨(0), at_StreamEventsTakeEffect_17, (64), (65), (0x1064), (0x640), (0x700), (0x640), (by decide +kernel), (by decide +kernel), (by decide +kernel), (by decide +kernel), (by decide +kernel), (by decide +kernel), (by decide +kernel), (by decide +kernel), (by decide +kernel)⟩,
   ⟨(0), at_StreamEventsTakeEffect_18, (64), (65), (0x1064), (0x640), (0x700), (0x6f0), (by decide +kernel), (by decide +kernel), (by decide +kernel), (by decide +kernel), (by decide +kernel), (by decide +kernel), (by decide +kernel), (by decide +kernel), (by decide +kernel)⟩,
   ⟨(0), (base 4), (by decide +kernel)⟩,
   ⟨(0), at_StreamEventsTakeEffect_20, taken_of _ _ _ _ _ (by decide +kernel), (by decide +kernel), (by have h := no_slots (s := at_StreamEventsTakeEffect_20) (by decide +kernel); rw [h.1, h.2]; decide +kernel), (by decide +kernel)⟩,
   ⟨(0), at_StreamEventsTakeEffect_21, taken_of _ _ _ _ _ (by decide +kernel), (by decide +kernel)⟩,
   ⟨(0), at_StreamEventsTakeEffect_22, taken_of _ _ _ _ _ (by decide +kernel), (by decide +kernel), (by decide +kernel)⟩,
   ⟨(0), at_StreamEventsTakeEffect_23, taken_of _ _ _ _ _ (by decide +kernel), (by decide +kernel)⟩,
   ⟨(0), (0x80000000), (base 4), taken_of _ _ _ _ _ (by decide +kernel)⟩⟩

def at_ProgramSlotsTakeCommands_0 : State :=
  sets (base 4) [(Fd.SLOT_STAT_LOAD_ERR 15, 2)]

def at_ProgramSlotsTakeCommands_1 : State :=
  running (base 4) 15 0

def at_ProgramSlotsTakeCommands_2 : State :=
  sets (running (base 4) 15 0) [(Fd.SLOT_STAT_STATE 15, 2)]

def at_ProgramSlotsTakeCommands_3 : State :=
  { sets (base 4) [(Fd.SLOT_STAT_STATE 15, 1)] with ice := { (base 4).ice with slots := [(15, ⟨7, none⟩)] } }

def at_ProgramSlotsTakeCommands_5 : State :=
  { sets (base 4) [(Fd.SLOT_STAT_STATE 15, 1)] with ice := { (base 4).ice with slots := [(15, ⟨7, none⟩)] }, zh := { (base 4).zh with store := [(7, ⟨1, false, 2, [(1, 9)], true, [], 0, 0⟩)] } }

def at_ProgramSlotsTakeCommands_6 : State :=
  sets (running (base 4) 15 7) [(Fd.SLOT_STAT_STATE 15, 2)]

def at_ProgramSlotsTakeCommands_8 : State :=
  { base 4 with ice := { (base 4).ice with switch := some (3, 0) } }

def at_ProgramSlotsTakeCommands_9 : State :=
  fronted (running (base 3) 3 0) [(Reg.TILE_STAT 63, 0)]

/-- Every clause of ProgramSlotsTakeCommands has a state and operands that meet its hypotheses. -/
theorem witness_ProgramSlotsTakeCommands :
    (∃ (w : Fin 8) (slot : Fin 16) (handle : BitVec 16) (s : State), s.WriteTaken w (Reg.SLOT_CMD slot) (BitVec.ofNat 32 (1 + 65536 * handle.toNat)) true ∧ s.fld (Fd.SLOT_STAT_STATE slot) ≠ 3) ∧
    (∃ (w : Fin 8) (slot : Fin 16) (handle : BitVec 16) (s : State), s.WriteTaken w (Reg.SLOT_CMD slot) (BitVec.ofNat 32 (1 + 65536 * handle.toNat)) true ∧ s.fld (Fd.SLOT_STAT_STATE slot) = 3) ∧
    (∃ (w : Fin 8) (slot : Fin 16) (s : State), s.WriteTaken w (Reg.SLOT_CMD slot) 2 true ∧ s.fld (Fd.SLOT_STAT_STATE slot) ≠ 3) ∧
    (∃ (slot : Fin 16) (s : State), s.fld (Fd.SLOT_STAT_STATE slot) = 1 ∧ s.mainRuns = true ∧ (s.object ((Tab.find s.ice.slots slot).elim 0 (fun x => x.handle)) 1 = none)) ∧
    (∃ (slot : Fin 16) (s : State), (s.fld (Fd.SLOT_STAT_STATE slot) ≠ 1 ∨ s.mainRuns = false)) ∧
    (∃ (slot : Fin 16) (s : State) (o : StoreObj), s.fld (Fd.SLOT_STAT_STATE slot) = 1 ∧ s.mainRuns = true ∧ (s.object ((Tab.find s.ice.slots slot).elim 0 (fun x => x.handle)) 1 = some o)) ∧
    (∃ (w : Fin 8) (slot : Fin 16) (s : State) (g : Img), s.WriteTaken w Reg.IFD_SWITCH (BitVec.ofNat 32 (2 ^ 31 + slot.val)) true ∧ s.ice.switch = none ∧ s.slotImg slot = some g ∧ s.fld (Fd.SLOT_STAT_STATE slot) = 2) ∧
    (∃ (w : Fin 8) (slot : Fin 16) (s : State), s.WriteTaken w Reg.IFD_SWITCH (BitVec.ofNat 32 (2 ^ 31 + slot.val)) true ∧ s.ice.switch = none ∧ (s.slotImg slot = none ∨ s.fld (Fd.SLOT_STAT_STATE slot) ≠ 2)) ∧
    (∃ (w : Fin 8) (slot : Fin 16) (s : State), s.WriteTaken w Reg.IFD_SWITCH (BitVec.ofNat 32 (2 ^ 31 + slot.val)) true ∧ s.ice.switch.isSome = true) ∧
    (∃ (w : Fin 8) (value : Word) (s : State), s.WriteTaken w Reg.IFD_PART value (crossIce Reg.IFD_PART value) ∧ (s.overTime s.activeSet value s.streamCfg = true ∨ s.overBandwidth s.activeSet s.streamCfg = true)) ∧
    (∃ (w : Fin 8) (value : Word) (s : State), s.WriteTaken w Reg.IFD_PART value (crossIce Reg.IFD_PART value) ∧ s.overTime s.activeSet value s.streamCfg = false ∧ s.overBandwidth s.activeSet s.streamCfg = false) :=
  ⟨⟨(0), (15), (0xFFFF), at_ProgramSlotsTakeCommands_0, taken_of _ _ _ _ _ (by decide +kernel), (by decide +kernel)⟩,
   ⟨(0), (15), (0xFFFF), at_ProgramSlotsTakeCommands_1, taken_of _ _ _ _ _ (by decide +kernel), (by decide +kernel)⟩,
   ⟨(0), (15), at_ProgramSlotsTakeCommands_2, taken_of _ _ _ _ _ (by decide +kernel), (by decide +kernel)⟩,
   ⟨(15), at_ProgramSlotsTakeCommands_3, (by decide +kernel), (by decide +kernel), (by decide +kernel)⟩,
   ⟨(15), (base 4), (by decide +kernel)⟩,
   ⟨(15), at_ProgramSlotsTakeCommands_5, (⟨1, false, 2, [(1, 9)], true, [], 0, 0⟩), (by decide +kernel), (by decide +kernel), (by decide +kernel)⟩,
   ⟨(0), (15), at_ProgramSlotsTakeCommands_6, (prog 7), taken_of _ _ _ _ _ (by decide +kernel), (by decide +kernel), (by decide +kernel), (by decide +kernel)⟩,
   ⟨(0), (15), (base 4), taken_of _ _ _ _ _ (by decide +kernel), (by decide +kernel), (by decide +kernel)⟩,
   ⟨(0), (15), at_ProgramSlotsTakeCommands_8, taken_of _ _ _ _ _ (by decide +kernel), (by decide +kernel)⟩,
   ⟨(0), (63), at_ProgramSlotsTakeCommands_9, taken_of _ _ _ _ _ (by decide +kernel), (by decide +kernel)⟩,
   ⟨(0), (0x0102), (base 3), taken_of _ _ _ _ _ (by decide +kernel), (no_slots (s := base 3) (by decide +kernel)).1 _ _, (no_slots (s := base 3) (by decide +kernel)).2 _⟩⟩

def at_RunsAndBatchesAct_0 : State :=
  { running (base 4) 3 0 with clk := { (base 4).clk with sidx := 102 } }

def at_RunsAndBatchesAct_2 : State :=
  { (fronted (sets (running (base 4) 3 0) [(Fd.IFD_STAT_FRUN, 1)]) [(Reg.TILE_STAT 3, 0)]) with ice := { (running (base 4) 3 0).ice with run := some noRun }, clk := { (base 4).clk with sidx := 179 } }

def at_RunsAndBatchesAct_3 : State :=
  { (fronted (sets (running (base 4) 3 0) [(Fd.IFD_STAT_FRUN, 1), (Fd.IFD_CTRL_SHADOW_EN, 1)]) [(Reg.TILE_STAT 60, 1)]) with ice := { (running (base 4) 3 0).ice with run := some noRun } }

def at_RunsAndBatchesAct_5 : State :=
  { (sets (running (base 4) 3 0) [(Fd.IFD_STAT_FRUN, 1)]) with ice := { (running (base 4) 3 0).ice with run := some noRun }, clk := { (base 4).clk with sidx := 179 }, sys := { (base 4).sys with seracUp := true } }

def at_RunsAndBatchesAct_7 : State :=
  { (sets (running (base 4) 3 0) [(Fd.IFD_STAT_FRUN, 1)]) with ice := { (running (base 4) 3 0).ice with run := some noRun }, clk := { (base 4).clk with sidx := 180 } }

def at_RunsAndBatchesAct_8 : State :=
  { sets (running (base 4) 3 5) [(Fd.STM_CFG_EN 9, 1), (Fd.STM_CFG_CLASS 9, 4)] with clk := { (base 4).clk with sidx := 100000 }, ice := { (running (base 4) 3 5).ice with pend := [(9, (List.range 33).map (fun i => (i, i)))] } }

def at_RunsAndBatchesAct_9 : State :=
  { running (base 4) 3 5 with clk := { (base 4).clk with sidx := 100000 }, ice := { (running (base 4) 3 5).ice with batches := [(4, ⟨1, 0, noRun, []⟩)] } }

def at_RunsAndBatchesAct_10 : State :=
  sets (base 4) [(Fd.IFD_CTRL_EN, 0)]

def at_RunsAndBatchesAct_11 : State :=
  running (base 4) 3 5

def at_RunsAndBatchesAct_12 : State :=
  { sets (running (base 4) 3 5) [(Fd.IFD_STAT_KRUN, 1)] with ice := { (running (base 4) 3 5).ice with batches := [(4, ⟨1, 0, noRun, []⟩)] } }

def at_RunsAndBatchesAct_14 : State :=
  { running (base 4) 3 0 with ice := { (running (base 4) 3 0).ice with run := some noRun } }

def at_RunsAndBatchesAct_15 : State :=
  { running (base 4) 3 0 with ice := { (running (base 4) 3 0).ice with batches := [(4, ⟨1, 0, noRun, [(9, [(1, 2)])]⟩)] } }

def at_RunsAndBatchesAct_17 : State :=
  { sets (base 4) [(Fd.TILE_STAT_PART 63, 0)] with ice := { (base 4).ice with tests := [(63, 7), (62, 7)] } }

def at_RunsAndBatchesAct_21 : State :=
  { base 4 with ice := { (base 4).ice with tests := [(63, 7), (62, 7)], transients := [(511, [5, 6])] } }

/-- Every clause of RunsAndBatchesAct has a state and operands that meet its hypotheses. -/
theorem witness_RunsAndBatchesAct :
    (∃ (s : State) (k : Nat) (g : Img), s.activeOf 0 = some (k, g) ∧ s.mainRuns = true ∧ s.on Fd.IFD_CTRL_EN = true ∧ s.ice.run = none ∧ s.ice.last = none ∧ s.ice.logNow.skipped = false ∧ s.clk.sidx.toNat % 100 = 2) ∧
    (∃ (s : State), (s.activeOf 0 = none ∨ s.mainRuns = false ∨ s.on Fd.IFD_CTRL_EN = false ∨ s.ice.run.isSome = true ∨ s.ice.last.isSome = true ∨ s.ice.logNow.skipped = true ∨ s.clk.sidx.toNat % 100 ≠ 2)) ∧
    (∃ (ns : Fin 10000) (inflight : Fin 294913) (mismatch : Option (Fin 64)) (s : State) (o : RunOut) (k : Nat) (g : Img), (mismatch.all (fun n => !s.shadows n) = true) ∧ s.ice.run = some o ∧ s.activeOf 0 = some (k, g)) ∧
    (∃ (ns : Fin 10000) (inflight : Fin 294913) (mismatch : Option (Fin 64)) (s : State) (o : RunOut) (k : Nat) (g : Img) (n : Fin 64), (mismatch = some n) ∧ s.shadows n = true ∧ s.ice.run = some o ∧ s.activeOf 0 = some (k, g)) ∧
    (∃ (ns : Fin 10000) (inflight : Fin 294913) (mismatch : Option (Fin 64)) (s : State), (s.ice.run = none ∨ s.activeOf 0 = none)) ∧
    (∃ (s : State), s.edgeToCome = true ∧ s.ice.run.isSome = true ∧ s.edge.clk.sidx.toNat % 100 = 80) ∧
    (∃ (s : State), (s.edgeToCome = false ∨ s.ice.run = none ∨ s.edge.clk.sidx.toNat % 100 ≠ 80)) ∧
    (∃ (s : State), s.ice.run.isSome = true ∧ 80 ≤ s.clk.sidx.toNat % 100) ∧
    (∃ (c : Fin 5) (s : State) (k : Nat) (g : Img), s.activeOf (c.val + 1) = some (k, g) ∧ (∀ x, x < c.val → s.activeOf (x + 1) = none ∨ s.clk.sidx.toNat % classPeriod x ≠ 0 ∨ Tab.find s.ice.batchAt x = some s.clk.now) ∧ s.mainRuns = true ∧ s.on Fd.IFD_CTRL_EN = true ∧ s.clk.sidx.toNat % classPeriod c = 0 ∧ Tab.find s.ice.batchAt c ≠ some s.clk.now ∧ Tab.has s.ice.batches c = false ∧ ((s.ice.pend.map (fun p => p.1)).Nodup)) ∧
    (∃ (c : Fin 5) (s : State) (k : Nat) (g : Img), s.activeOf (c.val + 1) = some (k, g) ∧ (∀ x, x < c.val → s.activeOf (x + 1) = none ∨ s.clk.sidx.toNat % classPeriod x ≠ 0 ∨ Tab.find s.ice.batchAt x = some s.clk.now) ∧ s.mainRuns = true ∧ s.on Fd.IFD_CTRL_EN = true ∧ s.clk.sidx.toNat % classPeriod c = 0 ∧ Tab.find s.ice.batchAt c ≠ some s.clk.now ∧ Tab.has s.ice.batches c = true) ∧
    (∃ (c : Fin 5) (s : State), (s.mainRuns = false ∨ s.on Fd.IFD_CTRL_EN = false)) ∧
    (∃ (c : Fin 5) (s : State), s.mainRuns = true ∧ s.on Fd.IFD_CTRL_EN = true) ∧
    (∃ (c : Fin 5) (inflight : Fin 294913) (s : State) (b : KBatch), Tab.find s.ice.batches c = some b) ∧
    (∃ (c : Fin 5) (inflight : Fin 294913) (s : State), Tab.find s.ice.batches c = none) ∧
    (∃ (kernel : Option (Fin 5)) (s : State), kernel = none ∧ s.ice.run.isSome = true) ∧
    (∃ (kernel : Option (Fin 5)) (s : State) (c : Fin 5) (b : KBatch), kernel = some c ∧ Tab.find s.ice.batches c = some b) ∧
    (∃ (kernel : Option (Fin 5)) (s : State), ((kernel = none ∧ s.ice.run = none) ∨ kernel.any (fun c => (Tab.find s.ice.batches c).isNone) = true)) ∧
    (∃ (tile : Fin 64) (arr : Fin 8) (activeOk spareOk : Bool) (s : State), s.ice.tests.contains (tile.val, arr.val) = true ∧ activeOk = false ∧ spareOk = true) ∧
    (∃ (tile : Fin 64) (arr : Fin 8) (activeOk spareOk : Bool) (s : State), s.ice.tests.contains (tile.val, arr.val) = true ∧ activeOk = true ∧ spareOk = false) ∧
    (∃ (tile : Fin 64) (arr : Fin 8) (activeOk spareOk : Bool) (s : State), s.ice.tests.contains (tile.val, arr.val) = true ∧ activeOk = false ∧ spareOk = false) ∧
    (∃ (tile : Fin 64) (arr : Fin 8) (activeOk spareOk : Bool) (s : State), s.ice.tests.contains (tile.val, arr.val) = true ∧ activeOk = true ∧ spareOk = true ∧ (((Tab.at [] s.ice.transients (tile.val * 8 + arr.val)).filter (fun x => decide (s.clk.now < x + sTicks 3600))).length < 2)) ∧
    (∃ (tile : Fin 64) (arr : Fin 8) (activeOk spareOk : Bool) (s : State), s.ice.tests.contains (tile.val, arr.val) = true ∧ activeOk = true ∧ spareOk = true ∧ (2 ≤ ((Tab.at [] s.ice.transients (tile.val * 8 + arr.val)).filter (fun x => decide (s.clk.now < x + sTicks 3600))).length)) ∧
    (∃ (tile : Fin 64) (arr : Fin 8) (activeOk spareOk : Bool) (s : State), s.ice.tests.contains (tile.val, arr.val) = false) :=
  ⟨⟨at_RunsAndBatchesAct_0, (3), (prog 0), (by decide +kernel), (by decide +kernel), (by decide +kernel), (by decide +kernel), (by decide +kernel), (by decide +kernel), (by decide +kernel)⟩,
   ⟨(base 4), (by decide +kernel)⟩,
   ⟨(9999), (294912), (some 3), at_RunsAndBatchesAct_2, (noRun), (3), (prog 0), (by decide +kernel), (by decide +kernel), (by decide +kernel)⟩,
   ⟨(9999), (294912), (some 60), at_RunsAndBatchesAct_3, (noRun), (3), (prog 0), (60), (by decide +kernel), (by decide +kernel), (by decide +kernel), (by decide +kernel)⟩,
   ⟨(9999), (294912), (some 60), (base 4), (by decide +kernel)⟩,
   ⟨at_RunsAndBatchesAct_5, (by decide +kernel), (by decide +kernel), (by decide +kernel)⟩,
   ⟨(base 4), (by decide +kernel)⟩,
   ⟨at_RunsAndBatchesAct_7, (by decide +kernel), (by decide +kernel)⟩,
   ⟨(4), at_RunsAndBatchesAct_8, (3), (prog 5), (by decide +kernel), (by first | decide +kernel | exact ⟨rfl, by decide +kernel⟩ | rfl), (by decide +kernel), (by decide +kernel), (by decide +kernel), (by decide +kernel), (by decide +kernel), (by decide +kernel)⟩,
   ⟨(4), at_RunsAndBatchesAct_9, (3), (prog 5), (by decide +kernel), (by first | decide +kernel | exact ⟨rfl, by decide +kernel⟩ | rfl), (by decide +kernel), (by decide +kernel), (by decide +kernel), (by decide +kernel), (by decide +kernel)⟩,
   ⟨(4), at_RunsAndBatchesAct_10, (by decide +kernel)⟩,
   ⟨(4), at_RunsAndBatchesAct_11, (by decide +kernel), (by decide +kernel)⟩,
   ⟨(4), (294912), at_RunsAndBatchesAct_12, (⟨1, 0, noRun, []⟩), (by decide +kernel)⟩,
   ⟨(4), (294912), (base 4), (by decide +kernel)⟩,
   ⟨(none), at_RunsAndBatchesAct_14, (by decide +kernel), (by decide +kernel)⟩,
   ⟨(some 4), at_RunsAndBatchesAct_15, (4), (⟨1, 0, noRun, [(9, [(1, 2)])]⟩), (by decide +kernel), (by decide +kernel)⟩,
   ⟨(some 4), (base 4), (by decide +kernel)⟩,
   ⟨(63), (7), (false), (true), at_RunsAndBatchesAct_17, (by decide +kernel), (by decide +kernel), (by decide +kernel)⟩,
   ⟨(63), (7), (true), (false), at_RunsAndBatchesAct_17, (by decide +kernel), (by decide +kernel), (by decide +kernel)⟩,
   ⟨(63), (7), (false), (false), at_RunsAndBatchesAct_17, (by decide +kernel), (by decide +kernel), (by decide +kernel)⟩,
   ⟨(63), (7), (true), (true), at_RunsAndBatchesAct_17, (by decide +kernel), (by decide +kernel), (by decide +kernel), (by decide +kernel)⟩,
   ⟨(63), (7), (true), (true), at_RunsAndBatchesAct_21, (by decide +kernel), (by decide +kernel), (by decide +kernel), (by decide +kernel)⟩,
   ⟨(63), (7), (true), (true), (base 4), (by decide +kernel)⟩⟩

def at_ReplayTakesCommands_0 : State :=
  { fronted (sets (running (base 4) 3 6) [(Fd.IFD_RPL_LOG_HANDLE, 0x7FFF)]) [(Reg.IFD_ALVL, 1)] with ice := { (running (base 4) 3 6).ice with capture := [LogFrame.none] } }

def at_ReplayTakesCommands_1 : State :=
  sets (running (base 4) 3 6) [(Fd.IFD_RPL_LOG_HANDLE, 5)]

def at_ReplayTakesCommands_3 : State :=
  sets (base 4) [(Fd.IFD_RPL_STAT_STATE, 1)]

def at_ReplayTakesCommands_4 : State :=
  sets (base 4) [(Fd.IFD_RPL_STAT_STATE, 3)]

def at_ReplayTakesCommands_5 : State :=
  { sets (base 4) [(Fd.IFD_RPL_STAT_STATE, 3)] with ice := { (base 4).ice with rpl := { (base 4).ice.rpl with log := [LogFrame.none] } } }

def at_ReplayTakesCommands_9 : State :=
  sets (running (base 4) 3 6) [(Fd.IFD_RPL_STAT_STATE, 4)]

def at_ReplayTakesCommands_10 : State :=
  { sets (running (base 4) 3 6) [(Fd.IFD_RPL_SNAP_HANDLE, 0x8000)] with ice := { (running (base 4) 3 6).ice with snaps := [(0x8000, ⟨7, 5, [], List.replicate 32 9, Inputs.none, [], []⟩)] } }

def at_ReplayTakesCommands_12 : State :=
  sets (base 4) [(Fd.IFD_RPL_STAT_STATE, 2)]

def at_ReplayTakesCommands_13 : State :=
  { sets (running (base 4) 3 6) [(Fd.IFD_RPL_STAT_STATE, 1), (Fd.IFD_STAT_RRUN, 1)] with ice := { (running (base 4) 3 6).ice with rpl := { (base 4).ice.rpl with log := [{ LogFrame.none with skipped := true }, LogFrame.none] } } }

def at_ReplayTakesCommands_14 : State :=
  { sets (running (base 4) 3 6) [(Fd.IFD_RPL_STAT_STATE, 1), (Fd.IFD_STAT_RRUN, 1)] with ice := { (running (base 4) 3 6).ice with rpl := { (base 4).ice.rpl with log := [LogFrame.none] } } }

/-- Every clause of ReplayTakesCommands has a state and operands that meet its hypotheses. -/
theorem witness_ReplayTakesCommands :
    (∃ (w : Fin 8) (pace : Bool) (s : State) (k : Nat) (g : Img) (v : Nat) (l : List LogFrame), (s.WriteTaken w Reg.IFD_RPL_CTRL (if pace then 9 else 1) true) ∧ s.ice.rpl.single = false ∧ s.rplState = 0 ∧ s.activeOf 6 = some (k, g) ∧ s.replayLog = some (v, l) ∧ (s.logMismatch g (some (v, l)) = false)) ∧
    (∃ (w : Fin 8) (pace : Bool) (s : State) (k : Nat) (g : Img), (s.WriteTaken w Reg.IFD_RPL_CTRL (if pace then 9 else 1) true) ∧ s.ice.rpl.single = false ∧ s.rplState = 0 ∧ s.activeOf 6 = some (k, g) ∧ (s.logMismatch g s.replayLog = true)) ∧
    (∃ (w : Fin 8) (pace : Bool) (s : State), (s.WriteTaken w Reg.IFD_RPL_CTRL (if pace then 9 else 1) true) ∧ s.ice.rpl.single = false ∧ s.rplState = 0 ∧ s.activeOf 6 = none) ∧
    (∃ (w : Fin 8) (s : State), s.WriteTaken w Reg.IFD_RPL_CTRL 2 true ∧ s.ice.rpl.single = false ∧ s.rplState = 1) ∧
    (∃ (w : Fin 8) (s : State), s.WriteTaken w Reg.IFD_RPL_CTRL 2 true ∧ (rplLegal (if s.ice.rpl.single then 2 else s.rplState) 2 = false)) ∧
    (∃ (w : Fin 8) (pace : Bool) (s : State), (s.WriteTaken w Reg.IFD_RPL_CTRL (if pace then 11 else 3) true) ∧ s.ice.rpl.single = false ∧ s.rplState = 3 ∧ s.ice.rpl.pos < s.ice.rpl.log.length) ∧
    (∃ (w : Fin 8) (pace : Bool) (s : State), (s.WriteTaken w Reg.IFD_RPL_CTRL (if pace then 11 else 3) true) ∧ s.ice.rpl.single = false ∧ s.rplState = 3 ∧ s.ice.rpl.log.length ≤ s.ice.rpl.pos) ∧
    (∃ (w : Fin 8) (s : State), s.WriteTaken w Reg.IFD_RPL_CTRL 4 true ∧ s.ice.rpl.single = false ∧ s.rplState = 3 ∧ s.ice.rpl.pos < s.ice.rpl.log.length) ∧
    (∃ (w : Fin 8) (s : State), s.WriteTaken w Reg.IFD_RPL_CTRL 4 true ∧ s.ice.rpl.single = false ∧ s.rplState = 3 ∧ s.ice.rpl.log.length ≤ s.ice.rpl.pos) ∧
    (∃ (w : Fin 8) (s : State) (k : Nat) (g : Img), s.WriteTaken w Reg.IFD_RPL_CTRL 5 true ∧ s.ice.rpl.single = false ∧ (s.rplState = 3 ∨ s.rplState = 4) ∧ s.activeOf 6 = some (k, g) ∧ Tab.has s.ice.snaps 0x8000 = false) ∧
    (∃ (w : Fin 8) (s : State) (k : Nat) (g : Img) (n : RplSnap), s.WriteTaken w Reg.IFD_RPL_CTRL 6 true ∧ s.ice.rpl.single = false ∧ (s.rplState = 0 ∨ s.rplState = 3) ∧ s.activeOf 6 = some (k, g) ∧ Tab.find s.ice.snaps (s.fld Fd.IFD_RPL_SNAP_HANDLE) = some n ∧ n.hash = g.hash) ∧
    (∃ (w : Fin 8) (s : State), s.WriteTaken w Reg.IFD_RPL_CTRL 6 true ∧ s.ice.rpl.single = false ∧ (s.rplState = 0 ∨ s.rplState = 3) ∧ (s.activeOf 6 = none ∨ Tab.find s.ice.snaps (s.fld Fd.IFD_RPL_SNAP_HANDLE) = none)) ∧
    (∃ (w : Fin 8) (s : State), s.WriteTaken w Reg.IFD_RPL_CTRL 7 true ∧ (s.rplState ≠ 0 ∨ s.ice.rpl.single = true)) ∧
    (∃ (logError : Bool) (inflight : Fin 294913) (s : State) (k : Nat) (g : Img) (f : LogFrame) (u : State), s.on Fd.IFD_STAT_RRUN = true ∧ s.mainRuns = true ∧ s.on Fd.IFD_CTRL_EN = true ∧ s.activeOf 6 = some (k, g) ∧ s.ice.rpl.log[s.ice.rpl.pos]? = some f ∧ (s.peakRequests inflight).replayFrame k g f = some u ∧ logError = false) ∧
    (∃ (logError : Bool) (inflight : Fin 294913) (s : State) (k : Nat) (g : Img) (f : LogFrame), s.on Fd.IFD_STAT_RRUN = true ∧ s.mainRuns = true ∧ s.on Fd.IFD_CTRL_EN = true ∧ s.activeOf 6 = some (k, g) ∧ s.ice.rpl.log[s.ice.rpl.pos]? = some f ∧ logError = true) ∧
    (∃ (logError : Bool) (inflight : Fin 294913) (s : State), (s.on Fd.IFD_STAT_RRUN = false ∨ s.mainRuns = false ∨ s.on Fd.IFD_CTRL_EN = false)) :=
  ⟨⟨(0), (true), at_ReplayTakesCommands_0, (3), (prog 6), (1), ([LogFrame.none]), taken_of _ _ _ _ _ (by decide +kernel), (by decide +kernel), (by decide +kernel), (by decide +kernel), (by decide +kernel), (by decide +kernel)⟩,
   ⟨(0), (true), at_ReplayTakesCommands_1, (3), (prog 6), taken_of _ _ _ _ _ (by decide +kernel), (by decide +kernel), (by decide +kernel), (by decide +kernel), (by decide +kernel)⟩,
   ⟨(0), (true), (base 4), taken_of _ _ _ _ _ (by decide +kernel), (by decide +kernel), (by decide +kernel), (by decide +kernel)⟩,
   ⟨(0), at_ReplayTakesCommands_3, taken_of _ _ _ _ _ (by decide +kernel), (by decide +kernel), (by decide +kernel)⟩,
   ⟨(0), at_ReplayTakesCommands_4, taken_of _ _ _ _ _ (by decide +kernel), (by decide +kernel)⟩,
   ⟨(0), (true), at_ReplayTakesCommands_5, taken_of _ _ _ _ _ (by decide +kernel), (by decide +kernel), (by decide +kernel), (by decide +kernel)⟩,
   ⟨(0), (true), at_ReplayTakesCommands_4, taken_of _ _ _ _ _ (by decide +kernel), (by decide +kernel), (by decide +kernel), (by decide +kernel)⟩,
   ⟨(0), at_ReplayTakesCommands_5, taken_of _ _ _ _ _ (by decide +kernel), (by decide +kernel), (by decide +kernel), (by decide +kernel)⟩,
   ⟨(0), at_ReplayTakesCommands_4, taken_of _ _ _ _ _ (by decide +kernel), (by decide +kernel), (by decide +kernel), (by decide +kernel)⟩,
   ⟨(0), at_ReplayTakesCommands_9, (3), (prog 6), taken_of _ _ _ _ _ (by decide +kernel), (by decide +kernel), (by decide +kernel), (by decide +kernel), (by decide +kernel)⟩,
   ⟨(0), at_ReplayTakesCommands_10, (3), (prog 6), (⟨7, 5, [], List.replicate 32 9, Inputs.none, [], []⟩), taken_of _ _ _ _ _ (by decide +kernel), (by decide +kernel), (by decide +kernel), (by decide +kernel), (by decide +kernel), (by decide +kernel)⟩,
   ⟨(0), (base 4), taken_of _ _ _ _ _ (by decide +kernel), (by decide +kernel), (by decide +kernel), (by decide +kernel)⟩,
   ⟨(0), at_ReplayTakesCommands_12, taken_of _ _ _ _ _ (by decide +kernel), (by decide +kernel)⟩,
   ⟨(false), (7), at_ReplayTakesCommands_13, (3), (prog 6), ({ LogFrame.none with skipped := true }), ((at_ReplayTakesCommands_13.peakRequests 7).replayFrame 3 (prog 6) { LogFrame.none with skipped := true } |>.getD at_ReplayTakesCommands_13), (by decide +kernel), (by decide +kernel), (by decide +kernel), (by decide +kernel), (by decide +kernel), some_getD (by decide +kernel), (by decide +kernel)⟩,
   ⟨(true), (7), at_ReplayTakesCommands_14, (3), (prog 6), (LogFrame.none), (by decide +kernel), (by decide +kernel), (by decide +kernel), (by decide +kernel), (by decide +kernel), (by decide +kernel)⟩,
   ⟨(true), (7), (base 4), (by decide +kernel)⟩⟩

def at_TableCommandsTakeEffect_0 : State :=
  sets (base 4) [(Fd.T_CFG_KIND 4095, 1)]

def at_TableCommandsTakeEffect_2 : State :=
  sets (base 4) [(Fd.T_CFG_KIND 4095, 4)]

def at_TableCommandsTakeEffect_3 : State :=
  sets (base 4) [(Fd.T_CFG_KIND 4095, 1), (Fd.T_STAT_STATE 4095, 2)]

def at_TableCommandsTakeEffect_5 : State :=
  { running (sets (base 4) [(Fd.T_STAT_STATE 4095, 2)]) 3 0 with ice := { (running (base 4) 3 0).ice with slots := [(3, ⟨1, some { prog 0 with tabs := [(4095, 1)] }⟩)] } }

def at_TableCommandsTakeEffect_6 : State :=
  (sets (base 4) [(Fd.T_STAT_STATE 4095, 2)]).setTbl 4095 { Tbl.empty with home := [(5, 0)] }

def at_TableCommandsTakeEffect_7 : State :=
  (sets (base 4) [(Fd.T_STAT_STATE 4095, 2)]).setTbl 4095 { Tbl.empty with dirty := [5, 3] }

def at_TableCommandsTakeEffect_8 : State :=
  (sets (base 4) [(Fd.T_STAT_STATE 4095, 2), (Fd.T_CFG_HOT 4095, 1)]).setTbl 4095 Tbl.empty

def at_TableCommandsTakeEffect_11 : State :=
  (sets (base 4) [(Fd.T_STAT_STATE 4095, 1)]).setTbl 4095 { Tbl.empty with image := some 7 }

def at_TableCommandsTakeEffect_12 : State :=
  ((sets (base 4) [(Fd.T_STAT_STATE 4095, 1)]).setTbl 4095 { Tbl.empty with image := some 7 }).setObj 7 ⟨2, false, 0, [], true, [], 0, 0⟩

/-- Every clause of TableCommandsTakeEffect has a state and operands that meet its hypotheses. -/
theorem witness_TableCommandsTakeEffect :
    (∃ (w : Fin 8) (tb : Fin 4096) (handle : BitVec 16) (s : State), s.WriteTaken w (Reg.T_CMD tb) (BitVec.ofNat 32 (1 + 65536 * handle.toNat)) (crossTable s (Reg.T_CMD tb) (BitVec.ofNat 32 (1 + 65536 * handle.toNat))) ∧ s.fld (Fd.T_STAT_STATE tb) = 0 ∧ s.tblKind tb = 1 ∧ s.tables.length < 256 ∧ ((s.tables.filter (fun u => s.tblKind u == 1)).length < 16) ∧ s.on (Fd.T_CFG_HOT tb) = false ∧ handle ≠ 0) ∧
    (∃ (w : Fin 8) (tb : Fin 4096) (s : State), s.WriteTaken w (Reg.T_CMD tb) 1 (crossTable s (Reg.T_CMD tb) 1) ∧ s.fld (Fd.T_STAT_STATE tb) = 0 ∧ s.tblKind tb = 1 ∧ s.tables.length < 256 ∧ ((s.tables.filter (fun u => s.tblKind u == 1)).length < 16) ∧ s.on (Fd.T_CFG_HOT tb) = false) ∧
    (∃ (w : Fin 8) (tb : Fin 4096) (handle : BitVec 16) (s : State), s.WriteTaken w (Reg.T_CMD tb) (BitVec.ofNat 32 (1 + 65536 * handle.toNat)) (crossTable s (Reg.T_CMD tb) (BitVec.ofNat 32 (1 + 65536 * handle.toNat))) ∧ s.fld (Fd.T_STAT_STATE tb) = 0 ∧ (256 ≤ s.tables.length ∨ (s.tblKind tb = 4 ∧ (s.tblRows tb < 64 ∨ 67108864 < s.tblRows tb ∨ s.tblRows tb % 64 ≠ 0)) ∨ (s.tblKind tb = 1 ∧ 16 ≤ (s.tables.filter (fun u => s.tblKind u == 1)).length))) ∧
    (∃ (w : Fin 8) (tb : Fin 4096) (handle : BitVec 16) (s : State), s.WriteTaken w (Reg.T_CMD tb) (BitVec.ofNat 32 (1 + 65536 * handle.toNat)) (crossTable s (Reg.T_CMD tb) (BitVec.ofNat 32 (1 + 65536 * handle.toNat))) ∧ s.fld (Fd.T_STAT_STATE tb) ≠ 0) ∧
    (∃ (w : Fin 8) (tb : Fin 4096) (s : State), s.WriteTaken w (Reg.T_CMD tb) 2 (crossTable s (Reg.T_CMD tb) 2) ∧ s.fld (Fd.T_STAT_STATE tb) = 0) ∧
    (∃ (w : Fin 8) (tb : Fin 4096) (s : State), s.WriteTaken w (Reg.T_CMD tb) 2 (crossTable s (Reg.T_CMD tb) 2) ∧ s.fld (Fd.T_STAT_STATE tb) ≠ 0 ∧ s.bound tb = true) ∧
    (∃ (w : Fin 8) (tb : Fin 4096) (s : State), s.WriteTaken w (Reg.T_CMD tb) 2 (crossTable s (Reg.T_CMD tb) 2) ∧ s.fld (Fd.T_STAT_STATE tb) ≠ 0 ∧ s.bound tb = false) ∧
    (∃ (w : Fin 8) (tb : Fin 4096) (s : State), s.WriteTaken w (Reg.T_CMD tb) 4 (crossTable s (Reg.T_CMD tb) 4)) ∧
    (∃ (w : Fin 8) (tb : Fin 4096) (s : State), s.WriteTaken w (Reg.T_CMD tb) 8 (crossTable s (Reg.T_CMD tb) 8) ∧ s.on (Fd.T_CFG_HOT tb) = true ∧ s.tblLive tb = true) ∧
    (∃ (w : Fin 8) (tb : Fin 4096) (s : State), s.WriteTaken w (Reg.T_CMD tb) 8 (crossTable s (Reg.T_CMD tb) 8) ∧ (s.on (Fd.T_CFG_HOT tb) = false ∨ s.tblLive tb = false)) ∧
    (∃ (tb : Fin 4096) (s : State), (s.fld (Fd.T_STAT_STATE tb) ≠ 1 ∨ s.mainRuns = false)) ∧
    (∃ (tb : Fin 4096) (s : State), s.fld (Fd.T_STAT_STATE tb) = 1 ∧ s.mainRuns = true ∧ ((s.tblOf tb).image.bind (fun h => s.object h 2) = none)) ∧
    (∃ (tb : Fin 4096) (s : State) (o : StoreObj), s.fld (Fd.T_STAT_STATE tb) = 1 ∧ s.mainRuns = true ∧ ((s.tblOf tb).image.bind (fun h => s.object h 2) = some o)) :=
  ⟨⟨(0), (4095), (0xFFFF), at_TableCommandsTakeEffect_0, taken_of _ _ _ _ _ (by decide +kernel), (by decide +kernel), (by decide +kernel), (by decide +kernel), (by decide +kernel), (by decide +kernel), (by decide +kernel)⟩,
   ⟨(0), (4095), at_TableCommandsTakeEffect_0, taken_of _ _ _ _ _ (by decide +kernel), (by decide +kernel), (by decide +kernel), (by decide +kernel), (by decide +kernel), (by decide +kernel)⟩,
   ⟨(0), (4095), (0xFFFF), at_TableCommandsTakeEffect_2, taken_of _ _ _ _ _ (by decide +kernel), (by decide +kernel), (by decide +kernel)⟩,
   ⟨(0), (4095), (0xFFFF), at_TableCommandsTakeEffect_3, taken_of _ _ _ _ _ (by decide +kernel), (by decide +kernel)⟩,
   ⟨(0), (4095), (base 4), taken_of _ _ _ _ _ (by decide +kernel), (by decide +kernel)⟩,
   ⟨(0), (4095), at_TableCommandsTakeEffect_5, taken_of _ _ _ _ _ (by decide +kernel), (by decide +kernel), (by decide +kernel)⟩,
   ⟨(0), (4095), at_TableCommandsTakeEffect_6, taken_of _ _ _ _ _ (by decide +kernel), (by decide +kernel), (by decide +kernel)⟩,
   ⟨(0), (4095), at_TableCommandsTakeEffect_7, taken_of _ _ _ _ _ (by decide +kernel)⟩,
   ⟨(0), (4095), at_TableCommandsTakeEffect_8, taken_of _ _ _ _ _ (by decide +kernel), (by decide +kernel), (by decide +kernel)⟩,
   ⟨(0), (4095), (base 4), taken_of _ _ _ _ _ (by decide +kernel), (by decide +kernel)⟩,
   ⟨(4095), (base 4), (by decide +kernel)⟩,
   ⟨(4095), at_TableCommandsTakeEffect_11, (by decide +kernel), (by decide +kernel), (by decide +kernel)⟩,
   ⟨(4095), at_TableCommandsTakeEffect_12, (⟨2, false, 0, [], true, [], 0, 0⟩), (by decide +kernel), (by decide +kernel), (by decide +kernel)⟩⟩

def at_SegmentsAndLogsMove_1 : State :=
  (sets (base 4) [(Fd.T_STAT_STATE 4095, 3)]).setTbl 4095 { Tbl.empty with whole := true, out := [5], home := [(5, 0)], rows := [(320, []), (384, [])] }

def at_SegmentsAndLogsMove_2 : State :=
  (sets (base 4) [(Fd.T_STAT_STATE 4095, 3)]).setTbl 4095 { Tbl.empty with whole := true, out := [5], rows := [] } |> fun x => { x with tbl := { x.tbl with free := (List.range 12).map (fun i => (i, 0)) } }

def at_SegmentsAndLogsMove_4 : State :=
  { base 4 with sys := { (base 4).sys with seracUp := true }, clk := { (base 4).clk with sidx := 189, now := 7 } }

def at_SegmentsAndLogsMove_6 : State :=
  { base 4 with tbl := { (base 4).tbl with logs := [⟨4, 77, []⟩, ⟨5, 1, []⟩] }, clk := { (base 4).clk with sidx := 590 }, ice := { (base 4).ice with frame := 5 } }

def at_SegmentsAndLogsMove_7 : State :=
  { base 4 with clk := { (base 4).clk with sidx := 590 }, ice := { (base 4).ice with frame := 5, batches := [(4, ⟨4, 0, { noRun with upds := [⟨0, 0, 0, 0, 0, 0, false, 0, 0, 0, 0, 0, 0, 0, []⟩] }, []⟩)] } }

def at_SegmentsAndLogsMove_8 : State :=
  { sets (base 4) [(Fd.TBL_STAT_COMMIT_LAG, 1)] with tbl := { (base 4).tbl with wback := true } }

def at_SegmentsAndLogsMove_10 : State :=
  { sets (base 4) [(Fd.TBL_CTRL_CKPT_EN, 1), (Fd.TBL_CKPT_CFG_PERIOD, 60)] with clk := { (base 4).clk with now := 6000000 } }

def at_SegmentsAndLogsMove_12 : State :=
  { sets (base 4) [(Fd.TBL_STAT_CKPT_RUN, 1), (Fd.TBL_CKPT_STAT_STATE, 1)] with tbl := { (base 4).tbl with sweep := some ⟨4294967301, []⟩ } }

/-- Every clause of SegmentsAndLogsMove has a state and operands that meet its hypotheses. -/
theorem witness_SegmentsAndLogsMove :
    (∃ (tb : Fin 4096) (seg : Fin 1048576) (s : State) (k : Nat) (rows : Tab (Tab (List Byte))), s.mainRuns = true ∧ s.loadNow = some (tb.val, seg.val) ∧ s.loadSource tb seg = some rows ∧ Tab.find (s.tblOf tb).home seg = some k) ∧
    (∃ (tb : Fin 4096) (seg : Fin 1048576) (s : State), s.mainRuns = true ∧ s.loadNow = some (tb.val, seg.val) ∧ Tab.find (s.tblOf tb).home seg = none ∧ s.place tb seg = none) ∧
    (∃ (tb : Fin 4096) (seg : Fin 1048576) (s : State), (s.mainRuns = false ∨ s.loadNow ≠ some (tb.val, seg.val))) ∧
    (∃ (s : State), s.edgeToCome = true ∧ s.edge.clk.sidx.toNat % 100 = 90) ∧
    (∃ (s : State), (s.edgeToCome = false ∨ s.edge.clk.sidx.toNat % 100 ≠ 90)) ∧
    (∃ (s : State) (l : UpdLog), s.clk.sidx.toNat % 100 = 90 ∧ s.mainRuns = true ∧ (s.tbl.logs.filter (fun x => decide (x.frame + 1 ≤ s.frameNo)) = [l]) ∧ s.ice.batches = []) ∧
    (∃ (s : State) (c : Nat) (b : KBatch), s.clk.sidx.toNat % 100 = 90 ∧ s.mainRuns = true ∧ s.ice.batches = [(c, b)] ∧ b.frame + 1 ≤ s.frameNo ∧ b.out.upds ≠ [] ∧ s.tbl.logs = []) ∧
    (∃ (s : State), s.tbl.wback = true ∧ (s.ice.batches.any (fun b => decide (b.2.frame < s.frameNo)) = false)) ∧
    (∃ (s : State), (s.tbl.wback = false ∨ s.ice.batches.any (fun b => decide (b.2.frame < s.frameNo)) = true)) ∧
    (∃ (s : State), s.on Fd.TBL_CTRL_CKPT_EN = true ∧ s.mainRuns = true ∧ s.tbl.sweep = none ∧ s.tbl.ckptFrom + sTicks (s.fld Fd.TBL_CKPT_CFG_PERIOD) ≤ s.clk.now) ∧
    (∃ (s : State), (s.on Fd.TBL_CTRL_CKPT_EN = false ∨ s.mainRuns = false ∨ s.tbl.sweep.isSome = true ∨ s.clk.now < s.tbl.ckptFrom + sTicks (s.fld Fd.TBL_CKPT_CFG_PERIOD))) ∧
    (∃ (s : State) (c : Ckpt), s.tbl.sweep = some c ∧ s.mainRuns = true) ∧
    (∃ (s : State), (s.tbl.sweep = none ∨ s.mainRuns = false)) :=
  ⟨⟨(4095), (5), at_SegmentsAndLogsMove_1, (0), ([]), (by decide +kernel), (by decide +kernel), (by decide +kernel), (by decide +kernel)⟩,
   ⟨(4095), (5), at_SegmentsAndLogsMove_2, (by decide +kernel), (by decide +kernel), (by decide +kernel), no_room at_SegmentsAndLogsMove_2 4095 5 (by decide +kernel) (by decide +kernel)⟩,
   ⟨(4095), (5), (base 4), (by decide +kernel)⟩,
   ⟨at_SegmentsAndLogsMove_4, (by decide +kernel), (by decide +kernel)⟩,
   ⟨(base 4), (by decide +kernel)⟩,
   ⟨at_SegmentsAndLogsMove_6, (⟨4, 77, []⟩), (by decide +kernel), (by decide +kernel), (by decide +kernel), (by decide +kernel)⟩,
   ⟨at_SegmentsAndLogsMove_7, (4), (⟨4, 0, { noRun with upds := [⟨0, 0, 0, 0, 0, 0, false, 0, 0, 0, 0, 0, 0, 0, []⟩] }, []⟩), (by decide +kernel), (by decide +kernel), (by decide +kernel), (by decide +kernel), (by decide +kernel), (by decide +kernel)⟩,
   ⟨at_SegmentsAndLogsMove_8, (by decide +kernel), (by decide +kernel)⟩,
   ⟨(base 4), (by decide +kernel)⟩,
   ⟨at_SegmentsAndLogsMove_10, (by decide +kernel), (by decide +kernel), (by decide +kernel), (by decide +kernel)⟩,
   ⟨(base 4), (by decide +kernel)⟩,
   ⟨at_SegmentsAndLogsMove_12, (⟨4294967301, []⟩), (by decide +kernel), (by decide +kernel)⟩,
   ⟨(base 4), (by decide +kernel)⟩⟩

def at_JobsAndCeilingsAreCommanded_0 : State :=
  { base 4 with plan := { (base 4).plan with jobOf := [(7, 255), (8, 3)] } }

def at_JobsAndCeilingsAreCommanded_1 : State :=
  sets (base 4) [(Fd.ACC_CFG_TDP 7, 1), (Fd.ACC_CFG_TDP 9, 1)]

def at_JobsAndCeilingsAreCommanded_3 : State :=
  (base 4).wr (Reg.CL_VAL 1023) 500

def at_JobsAndCeilingsAreCommanded_4 : State :=
  sets (base 4) [(Fd.CL_CTRL_VALID 1023, 1)]

def at_JobsAndCeilingsAreCommanded_8 : State :=
  sets (base 4) [(Fd.CL_CTRL_VALID 1023, 1), (Fd.CL_CTRL_VALID 1022, 1)]

def at_JobsAndCeilingsAreCommanded_9 : State :=
  sets (base 4) [(Fd.CL_CTRL_VALID 1022, 1)]

/-- Every clause of JobsAndCeilingsAreCommanded has a state and operands that meet its hypotheses. -/
theorem witness_JobsAndCeilingsAreCommanded :
    (∃ (q : Req) (job : Byte) (s : State) (k : Nat) (u : State), s.Reaches q k u ∧ (judgeJobSet job.toNat 0 [] k u).first q u = none) ∧
    (∃ (q : Req) (job : Byte) (idx : List (BitVec 16)) (s : State) (k : Nat) (u : State), s.Reaches q k u ∧ ((judgeJobSet job.toNat 1 (idx.map (fun x => x.toNat)) k u).first q u = none)) ∧
    (∃ (q : Req) (job : Byte) (idx : List (BitVec 16)) (s : State) (k : Nat) (u : State), s.Reaches q k u ∧ ((judgeJobSet job.toNat 2 (idx.map (fun x => x.toNat)) k u).first q u = none)) ∧
    (∃ (w : Fin 8) (c : Fin 1024) (value : Word) (s : State), s.WriteTaken w (Reg.CL_CTRL c) (value ||| 0x80000000) (crossPlan s (Reg.CL_CTRL c) (value ||| 0x80000000))) ∧
    (∃ (w : Fin 8) (c : Fin 1024) (value : Word) (s : State), s.WriteTaken w (Reg.CL_CTRL c) (value &&& 0x7FFFFFFF) (crossPlan s (Reg.CL_CTRL c) (value &&& 0x7FFFFFFF)) ∧ s.on (Fd.CL_CTRL_VALID c) = true) ∧
    (∃ (w : Fin 8) (c : Fin 1024) (value : Word) (s : State), s.WriteTaken w (Reg.CL_CTRL c) (value &&& 0x7FFFFFFF) (crossPlan s (Reg.CL_CTRL c) (value &&& 0x7FFFFFFF)) ∧ s.on (Fd.CL_CTRL_VALID c) = false) ∧
    (∃ (q : Req) (entry : BitVec 16) (scope form : Byte) (index : BitVec 16) (value : Word) (s : State) (k : Nat) (u : State), s.Reaches q k u ∧ (judgeCeilSet entry.toNat scope.toNat form.toNat index.toNat value k u).first q u = none ∧ entry ≠ 0xFFFF) ∧
    (∃ (q : Req) (entry : BitVec 16) (scope form : Byte) (index : BitVec 16) (value : Word) (s : State) (k : Nat) (u : State) (e : Nat), s.Reaches q k u ∧ (judgeCeilSet entry.toNat scope.toNat form.toNat index.toNat value k u).first q u = none ∧ entry = 0xFFFF ∧ s.freeCeiling = some e) ∧
    (∃ (q : Req) (entry : BitVec 16) (s : State) (k : Nat) (u : State), s.Reaches q k u ∧ (judgeCeilClear entry.toNat k u).first q u = none ∧ entry = 0xFFFF) ∧
    (∃ (q : Req) (entry : BitVec 16) (s : State) (k : Nat) (u : State), s.Reaches q k u ∧ (judgeCeilClear entry.toNat k u).first q u = none ∧ entry ≠ 0xFFFF ∧ s.on (Fd.CL_CTRL_VALID entry.toNat) = false) ∧
    (∃ (q : Req) (entry : BitVec 16) (s : State) (k : Nat) (u : State), s.Reaches q k u ∧ (judgeCeilClear entry.toNat k u).first q u = none ∧ entry ≠ 0xFFFF ∧ s.on (Fd.CL_CTRL_VALID entry.toNat) = true) :=
  ⟨⟨(req), (255), at_JobsAndCeilingsAreCommanded_0, (0), (judged at_JobsAndCeilingsAreCommanded_0 (req) (0)), reaches_of at_JobsAndCeilingsAreCommanded_0 (req) (0) (by decide +kernel), (by decide +kernel)⟩,
   ⟨(req), (255), ([7, 9]), at_JobsAndCeilingsAreCommanded_1, (0), (judged at_JobsAndCeilingsAreCommanded_1 (req) (0)), reaches_of at_JobsAndCeilingsAreCommanded_1 (req) (0) (by decide +kernel), (by decide +kernel)⟩,
   ⟨(req), (255), ([7, 9]), at_JobsAndCeilingsAreCommanded_1, (0), (judged at_JobsAndCeilingsAreCommanded_1 (req) (0)), reaches_of at_JobsAndCeilingsAreCommanded_1 (req) (0) (by decide +kernel), (by decide +kernel)⟩,
   ⟨(0), (1023), (0x30), at_JobsAndCeilingsAreCommanded_3, taken_of _ _ _ _ _ (by decide +kernel)⟩,
   ⟨(0), (1023), (0x30), at_JobsAndCeilingsAreCommanded_4, taken_of _ _ _ _ _ (by decide +kernel), (by decide +kernel)⟩,
   ⟨(0), (1023), (0x30), (base 4), taken_of _ _ _ _ _ (by decide +kernel), (by decide +kernel)⟩,
   ⟨(req), (1023), (1), (0), (47), (500), (base 4), (0), (judged (base 4) (req) (0)), reaches_of (base 4) (req) (0) (by decide +kernel), (by decide +kernel), (by decide +kernel)⟩,
   ⟨(req), (0xFFFF), (1), (0), (47), (500), (base 4), (0), (judged (base 4) (req) (0)), (0), reaches_of (base 4) (req) (0) (by decide +kernel), (by decide +kernel), (by decide +kernel), (by decide +kernel)⟩,
   ⟨(req), (0xFFFF), at_JobsAndCeilingsAreCommanded_8, (0), (judged at_JobsAndCeilingsAreCommanded_8 (req) (0)), reaches_of at_JobsAndCeilingsAreCommanded_8 (req) (0) (by decide +kernel), (by decide +kernel), (by decide +kernel)⟩,
   ⟨(req), (1023), at_JobsAndCeilingsAreCommanded_9, (0), (judged at_JobsAndCeilingsAreCommanded_9 (req) (0)), reaches_of at_JobsAndCeilingsAreCommanded_9 (req) (0) (by decide +kernel), (by decide +kernel), (by decide +kernel), (by decide +kernel)⟩,
   ⟨(req), (1023), at_JobsAndCeilingsAreCommanded_8, (0), (judged at_JobsAndCeilingsAreCommanded_8 (req) (0)), reaches_of at_JobsAndCeilingsAreCommanded_8 (req) (0) (by decide +kernel), (by decide +kernel), (by decide +kernel), (by decide +kernel)⟩⟩

def at_ThePlanIsComputedAndSent_0 : State :=
  { sets (base 4) [(Fd.PLN_CTRL_EN, 1), (Fd.ACC_CFG_TDP 7, 1200)] with clk := { (base 4).clk with sidx := 185, now := 9 }, stm := { (base 4).stm with row := [(7, 3)] }, plan := { (base 4).plan with jobSets := [(4, 1, [7])] } }

def at_ThePlanIsComputedAndSent_2 : State :=
  { sets (base 4) [(Fd.PLN_CTRL_EN, 1), (Fd.ACC_CFG_TDP 7, 1200)] with clk := { (base 4).clk with sidx := 195 }, stm := { (base 4).stm with row := [(7, 3)] }, plan := { (base 4).plan with frames := [⟨3, false, 0, [⟨7, false, false, false, 900, 0, 65535⟩]⟩], lead := 5, life := 9 } }

def at_ThePlanIsComputedAndSent_3 : State :=
  { sets (base 4) [(Fd.PLN_CTRL_EN, 1), (Fd.ACC_CFG_TDP 7, 1200)] with clk := { (base 4).clk with sidx := 195, mtime := 77 }, stm := { (base 4).stm with row := [(7, 3)] }, plan := { (base 4).plan with frames := [⟨3, false, 20, [⟨7, false, false, false, 900, 0, 65535⟩]⟩], lead := 5, life := 9 } }

def at_ThePlanIsComputedAndSent_5 : State :=
  { sets (base 4) [(Fd.PLN_CTRL_EN, 1), (Fd.ACC_CFG_TDP 7, 1200)] with clk := { (base 4).clk with now := 20000, sidx := 1000095, mtime := 77 }, stm := { (base 4).stm with row := [(7, 47)] }, plan := { (base 4).plan with entries := [(7, ⟨7, false, false, false, 900, 0, 65535⟩)], refresh := [(47, 100)], every := 100, lead := 5, life := 9 } }

def at_ThePlanIsComputedAndSent_7 : State :=
  sets (base 4) [(Fd.STG_VAL_TARGET 255, 700)]

def at_ThePlanIsComputedAndSent_8 : State :=
  { sets (base 4) [(Fd.STG_STAT_STATE 255, 1)] with plan := { (base 4).plan with built := [(255, 0, [])], fired := [⟨3, 0, 0, []⟩] } }

def at_ThePlanIsComputedAndSent_9 : State :=
  { base 4 with stm := { (base 4).stm with row := [(7, 47)] } }

def at_ThePlanIsComputedAndSent_10 : State :=
  sets (base 2) [(Fd.SYS_STATE_MAIN_ABSENT, 1)]

def at_ThePlanIsComputedAndSent_12 : State :=
  { base 4 with plan := { (base 4).plan with clamp := [(47, 2)] } }

def at_ThePlanIsComputedAndSent_13 : State :=
  { sets (base 4) [(Fd.RK_OUT_CAP 47, 2)] with plan := { (base 4).plan with prebuilt := [(47, [⟨7, true, false, false, 900, 0, 65535⟩], [⟨7, true, false, false, 0, 0, 65535⟩])], clamp := [(47, 1)] } }

def at_ThePlanIsComputedAndSent_14 : State :=
  { fronted (sets (base 4) [(Fd.PORT_CFG_PLAN 0, 1)]) [(Reg.STM_LVL, word [(Fd.STM_LVL_MIN, 1), (Fd.STM_LVL_MAX, 1)])] with stm := { (base 4).stm with row := [(7, 47)] }, plan := { (base 4).plan with acks := [(7, ⟨none, 0, 0, false, [⟨3, 5, false⟩, ⟨9, 5, false⟩]⟩)] } }

def at_ThePlanIsComputedAndSent_16 : State :=
  { fronted (sets (base 4) [(Fd.PORT_CFG_PLAN 0, 1)]) [(Reg.STM_LVL, word [(Fd.STM_LVL_MIN, 1), (Fd.STM_LVL_MAX, 1)])] with stm := { (base 4).stm with row := [(7, 47)] }, plan := { (base 4).plan with acks := [(7, ⟨some 50, 0, 0, false, []⟩)] } }

def at_ThePlanIsComputedAndSent_17 : State :=
  fronted (sets (base 4) [(Fd.PORT_CFG_PLAN 0, 1)]) [(Reg.STM_LVL, word [(Fd.STM_LVL_MIN, 1), (Fd.STM_LVL_MAX, 1)])]

def at_ThePlanIsComputedAndSent_20 : State :=
  { fronted (sets (base 4) [(Fd.PORT_CFG_PLAN 0, 1)]) [(Reg.STM_LVL, word [(Fd.STM_LVL_MIN, 1), (Fd.STM_LVL_MAX, 1)])] with stm := { (base 4).stm with row := [(8, 47)] } }

def at_ThePlanIsComputedAndSent_22 : State :=
  sets (base 4) [(Fd.PORT_CFG_EN 0, 0)]

def at_ThePlanIsComputedAndSent_23 : State :=
  { sets (base 4) [(Fd.ACC_STAT_ACKED 4095, 1)] with clk := { (base 4).clk with mtime := 10000050 }, plan := { (base 4).plan with acks := [(4095, ⟨some 5, 8, 0, false, [⟨9, 60, false⟩, ⟨8, 50, false⟩]⟩)] } }

/-- Every clause of ThePlanIsComputedAndSent has a state and operands that meet its hypotheses. -/
theorem witness_ThePlanIsComputedAndSent :
    (∃ (s : State), s.mainRuns = true ∧ s.on Fd.PLN_CTRL_EN = true ∧ s.clk.sidx.toNat % 100 = 85 ∧ s.plan.doneAt ≠ some s.clk.now) ∧
    (∃ (s : State), (s.mainRuns = false ∨ s.on Fd.PLN_CTRL_EN = false ∨ s.clk.sidx.toNat % 100 ≠ 85 ∨ s.plan.doneAt = some s.clk.now)) ∧
    (∃ (s : State), s.mainRuns = true ∧ s.on Fd.PLN_CTRL_EN = true ∧ s.clk.sidx.toNat % 100 = 95) ∧
    (∃ (s : State) (r : Nat) (d : Nat) (e : PlanEntry), s.mainRuns = true ∧ s.on Fd.PLN_CTRL_EN = true ∧ s.clk.sidx.toNat % 100 = 95 ∧ s.plan.frames = [⟨r, false, d, [e]⟩] ∧ r < 48 ∧ Tab.at 0 s.plan.clamp r = 0 ∧ s.sendsPlan = true) ∧
    (∃ (s : State), (s.mainRuns = false ∨ s.on Fd.PLN_CTRL_EN = false ∨ s.clk.sidx.toNat % 100 ≠ 95)) ∧
    (∃ (rack : Fin 48) (s : State), s.mainRuns = true ∧ s.on Fd.PLN_CTRL_EN = true ∧ s.clk.sidx.toNat % 100 = 95 ∧ s.refreshDue rack = true ∧ Tab.find s.plan.refresh rack ≠ some s.clk.now ∧ s.groupsOf rack = [rack.val] ∧ s.sendsPlan = true) ∧
    (∃ (rack : Fin 48) (s : State), (s.mainRuns = false ∨ s.on Fd.PLN_CTRL_EN = false ∨ s.clk.sidx.toNat % 100 ≠ 95 ∨ s.refreshDue rack = false ∨ Tab.find s.plan.refresh rack = some s.clk.now)) ∧
    (∃ (w : Fin 8) (h : Fin 256) (value : Word) (s : State), s.WriteTaken w (Reg.STG_CTRL h) (value ||| 0x80000000) (crossPlan s (Reg.STG_CTRL h) (value ||| 0x80000000))) ∧
    (∃ (w : Fin 8) (h : Fin 256) (value : Word) (s : State), s.WriteTaken w (Reg.STG_CTRL h) (value &&& 0x7FFFFFFF) (crossPlan s (Reg.STG_CTRL h) (value &&& 0x7FFFFFFF))) ∧
    (∃ (rack : Fin 48) (s : State), s.mainAbsent = false) ∧
    (∃ (rack : Fin 48) (s : State), s.mainAbsent = true) ∧
    (∃ (rack : Fin 48) (s : State), (s.rackCap rack = Tab.at 0 s.plan.clamp rack ∨ s.portAbsent = true)) ∧
    (∃ (rack : Fin 48) (s : State), s.rackCap rack = 0 ∧ Tab.at 0 s.plan.clamp rack ≠ 0 ∧ s.portAbsent = false) ∧
    (∃ (rack : Fin 48) (s : State), s.rackCap rack ≠ Tab.at 0 s.plan.clamp rack ∧ s.portAbsent = false) ∧
    (∃ (c : Came) (udp : BitVec 16) (bytes : List Byte) (ns : Fin 10000) (s : State) (a : Nat), s.portTakes Fd.PORT_CFG_PLAN c.port c.src c.row = true ∧ (s.countRx c.port).quarEntry c.src = none ∧ bytes.length = 36 ∧ beAt bytes 0 2 = 0xF1AA ∧ s.fld Fd.STM_LVL_MIN ≤ beAt bytes 2 1 ∧ beAt bytes 2 1 ≤ s.fld Fd.STM_LVL_MAX ∧ crc32 (bytes.take 32) = beAt bytes 32 4 ∧ s.localOf (beAt bytes 4 4 % 2 ^ 18) = some a ∧ ((s.planAck a).aseq.all (fun x => decide (0 < diff32 (BitVec.ofNat 32 (beAt bytes 8 4)) x)) = true) ∧ beAt bytes 3 1 / 2 % 2 = 0) ∧
    (∃ (c : Came) (udp : BitVec 16) (bytes : List Byte) (ns : Fin 10000) (s : State) (a : Nat), s.portTakes Fd.PORT_CFG_PLAN c.port c.src c.row = true ∧ (s.countRx c.port).quarEntry c.src = none ∧ bytes.length = 36 ∧ beAt bytes 0 2 = 0xF1AA ∧ s.fld Fd.STM_LVL_MIN ≤ beAt bytes 2 1 ∧ beAt bytes 2 1 ≤ s.fld Fd.STM_LVL_MAX ∧ crc32 (bytes.take 32) = beAt bytes 32 4 ∧ s.localOf (beAt bytes 4 4 % 2 ^ 18) = some a ∧ ((s.planAck a).aseq.all (fun x => decide (0 < diff32 (BitVec.ofNat 32 (beAt bytes 8 4)) x)) = true) ∧ beAt bytes 3 1 / 2 % 2 = 1) ∧
    (∃ (c : Came) (udp : BitVec 16) (bytes : List Byte) (ns : Fin 10000) (s : State) (a : Nat) (x : BitVec 32), s.portTakes Fd.PORT_CFG_PLAN c.port c.src c.row = true ∧ (s.countRx c.port).quarEntry c.src = none ∧ bytes.length = 36 ∧ beAt bytes 0 2 = 0xF1AA ∧ s.fld Fd.STM_LVL_MIN ≤ beAt bytes 2 1 ∧ beAt bytes 2 1 ≤ s.fld Fd.STM_LVL_MAX ∧ crc32 (bytes.take 32) = beAt bytes 32 4 ∧ s.localOf (beAt bytes 4 4 % 2 ^ 18) = some a ∧ (s.planAck a).aseq = some x ∧ diff32 (BitVec.ofNat 32 (beAt bytes 8 4)) x ≤ 0) ∧
    (∃ (c : Came) (udp : BitVec 16) (bytes : List Byte) (ns : Fin 10000) (s : State), s.portTakes Fd.PORT_CFG_PLAN c.port c.src c.row = true ∧ (s.countRx c.port).quarEntry c.src = none ∧ 36 ≤ bytes.length ∧ beAt bytes 0 2 = 0xF1AA ∧ s.fld Fd.STM_LVL_MIN ≤ beAt bytes 2 1 ∧ beAt bytes 2 1 ≤ s.fld Fd.STM_LVL_MAX ∧ crc32 (bytes.take 32) ≠ beAt bytes 32 4) ∧
    (∃ (c : Came) (udp : BitVec 16) (bytes : List Byte) (ns : Fin 10000) (s : State), s.portTakes Fd.PORT_CFG_PLAN c.port c.src c.row = true ∧ (s.countRx c.port).quarEntry c.src = none ∧ 36 ≤ bytes.length ∧ beAt bytes 0 2 = 0xF1AA ∧ (beAt bytes 2 1 < s.fld Fd.STM_LVL_MIN ∨ s.fld Fd.STM_LVL_MAX < beAt bytes 2 1)) ∧
    (∃ (c : Came) (udp : BitVec 16) (bytes : List Byte) (ns : Fin 10000) (s : State), s.portTakes Fd.PORT_CFG_PLAN c.port c.src c.row = true ∧ (s.countRx c.port).quarEntry c.src = none ∧ 36 < bytes.length ∧ beAt bytes 0 2 = 0xF1AA ∧ s.fld Fd.STM_LVL_MIN ≤ beAt bytes 2 1 ∧ beAt bytes 2 1 ≤ s.fld Fd.STM_LVL_MAX ∧ crc32 (bytes.take 32) = beAt bytes 32 4) ∧
    (∃ (c : Came) (udp : BitVec 16) (bytes : List Byte) (ns : Fin 10000) (s : State), s.portTakes Fd.PORT_CFG_PLAN c.port c.src c.row = true ∧ (s.countRx c.port).quarEntry c.src = none ∧ bytes.length = 36 ∧ beAt bytes 0 2 = 0xF1AA ∧ s.fld Fd.STM_LVL_MIN ≤ beAt bytes 2 1 ∧ beAt bytes 2 1 ≤ s.fld Fd.STM_LVL_MAX ∧ crc32 (bytes.take 32) = beAt bytes 32 4 ∧ s.localOf (beAt bytes 4 4 % 2 ^ 18) = none) ∧
    (∃ (c : Came) (udp : BitVec 16) (bytes : List Byte) (ns : Fin 10000) (s : State), s.portTakes Fd.PORT_CFG_PLAN c.port c.src c.row = true ∧ (s.countRx c.port).quarEntry c.src = none ∧ (bytes.length < 36 ∨ beAt bytes 0 2 ≠ 0xF1AA)) ∧
    (∃ (c : Came) (udp : BitVec 16) (bytes : List Byte) (ns : Fin 10000) (s : State), s.portTakes Fd.PORT_CFG_PLAN c.port c.src c.row = false) ∧
    (∃ (acc : Fin 4096) (s : State), ((s.planAck acc).owed.filter s.overdue).length ≠ 0) ∧
    (∃ (acc : Fin 4096) (s : State), ((s.planAck acc).owed.all (fun o => !s.overdue o) = true)) :=
  ⟨⟨at_ThePlanIsComputedAndSent_0, (by decide +kernel), (by decide +kernel), (by decide +kernel), (by decide +kernel)⟩,
   ⟨(base 4), (by decide +kernel)⟩,
   ⟨at_ThePlanIsComputedAndSent_2, (by decide +kernel), (by decide +kernel), (by decide +kernel)⟩,
   ⟨at_ThePlanIsComputedAndSent_3, (3), (20), (⟨7, false, false, false, 900, 0, 65535⟩), (by decide +kernel), (by decide +kernel), (by decide +kernel), (by decide +kernel), (by decide +kernel), (by decide +kernel), (by decide +kernel)⟩,
   ⟨(base 4), (by decide +kernel)⟩,
   ⟨(47), at_ThePlanIsComputedAndSent_5, (by decide +kernel), (by decide +kernel), (by decide +kernel), (by decide +kernel), (by decide +kernel), (by decide +kernel), (by decide +kernel)⟩,
   ⟨(47), (base 4), (by decide +kernel)⟩,
   ⟨(0), (255), (0x10030), at_ThePlanIsComputedAndSent_7, taken_of _ _ _ _ _ (by decide +kernel)⟩,
   ⟨(0), (255), (0x10030), at_ThePlanIsComputedAndSent_8, taken_of _ _ _ _ _ (by decide +kernel)⟩,
   ⟨(47), at_ThePlanIsComputedAndSent_9, (by decide +kernel)⟩,
   ⟨(47), at_ThePlanIsComputedAndSent_10, (by decide +kernel)⟩,
   ⟨(47), (base 4), (by decide +kernel)⟩,
   ⟨(47), at_ThePlanIsComputedAndSent_12, (by decide +kernel), (by decide +kernel), (by decide +kernel)⟩,
   ⟨(47), at_ThePlanIsComputedAndSent_13, (by decide +kernel), (by decide +kernel)⟩,
   ⟨(came0), (9), ((let b := beBytes 2 0xF1AA ++ beBytes 1 1 ++ beBytes 1 0 ++ beBytes 4 7 ++ beBytes 4 50 ++ beBytes 4 3 ++ beBytes 8 0 ++ beBytes 2 900 ++ beBytes 2 0 ++ beBytes 2 0 ++ beBytes 2 0x1234
  b ++ beBytes 4 (crc32 b))), (3), at_ThePlanIsComputedAndSent_14, (7), (by decide +kernel), (by decide +kernel), (by decide +kernel), (by decide +kernel), (by decide +kernel), (by decide +kernel), (by decide +kernel), (by decide +kernel)⟩,
   ⟨(came0), (9), ((let b := beBytes 2 0xF1AA ++ beBytes 1 1 ++ beBytes 1 2 ++ beBytes 4 7 ++ beBytes 4 50 ++ beBytes 4 3 ++ beBytes 8 0 ++ beBytes 2 900 ++ beBytes 2 0 ++ beBytes 2 0 ++ beBytes 2 0x1234
  b ++ beBytes 4 (crc32 b))), (3), at_ThePlanIsComputedAndSent_14, (7), (by decide +kernel), (by decide +kernel), (by decide +kernel), (by decide +kernel), (by decide +kernel), (by decide +kernel), (by decide +kernel), (by decide +kernel)⟩,
   ⟨(came0), (9), ((let b := beBytes 2 0xF1AA ++ beBytes 1 1 ++ beBytes 1 2 ++ beBytes 4 7 ++ beBytes 4 50 ++ beBytes 4 3 ++ beBytes 8 0 ++ beBytes 2 900 ++ beBytes 2 0 ++ beBytes 2 0 ++ beBytes 2 0x1234
  b ++ beBytes 4 (crc32 b))), (3), at_ThePlanIsComputedAndSent_16, (7), (50), (by decide +kernel), (by decide +kernel), (by decide +kernel), (by decide +kernel), (by decide +kernel), (by decide +kernel), (by decide +kernel), (by decide +kernel)⟩,
   ⟨(came0), (9), ([0xF1, 0xAA] ++ List.replicate 40 1), (3), at_ThePlanIsComputedAndSent_17, (by decide +kernel), (by decide +kernel), (by decide +kernel), (by decide +kernel), (by decide +kernel)⟩,
   ⟨(came0), (9), ([0xF1, 0xAA] ++ List.replicate 40 7), (3), at_ThePlanIsComputedAndSent_17, (by decide +kernel), (by decide +kernel), (by decide +kernel), (by decide +kernel)⟩,
   ⟨(came0), (9), ((let b := beBytes 2 0xF1AA ++ beBytes 1 1 ++ beBytes 1 2 ++ beBytes 4 7 ++ beBytes 4 50 ++ beBytes 4 3 ++ beBytes 8 0 ++ beBytes 2 900 ++ beBytes 2 0 ++ beBytes 2 0 ++ beBytes 2 0x1234
  b ++ beBytes 4 (crc32 b)) ++ [0]), (3), at_ThePlanIsComputedAndSent_17, (by decide +kernel), (by decide +kernel), (by decide +kernel), (by decide +kernel), (by decide +kernel)⟩,
   ⟨(came0), (9), ((let b := beBytes 2 0xF1AA ++ beBytes 1 1 ++ beBytes 1 2 ++ beBytes 4 7 ++ beBytes 4 50 ++ beBytes 4 3 ++ beBytes 8 0 ++ beBytes 2 900 ++ beBytes 2 0 ++ beBytes 2 0 ++ beBytes 2 0x1234
  b ++ beBytes 4 (crc32 b))), (3), at_ThePlanIsComputedAndSent_20, (by decide +kernel), (by decide +kernel), (by decide +kernel), (by decide +kernel), (by decide +kernel), (by decide +kernel)⟩,
   ⟨(came0), (9), ([1, 2]), (3), at_ThePlanIsComputedAndSent_17, (by decide +kernel), (by decide +kernel), (by decide +kernel)⟩,
   ⟨(came0), (9), ([1, 2]), (3), at_ThePlanIsComputedAndSent_22, (by decide +kernel)⟩,
   ⟨(4095), at_ThePlanIsComputedAndSent_23, (by decide +kernel)⟩,
   ⟨(4095), (base 4), (by decide +kernel)⟩⟩

def at_LoopConfigurationsAreCommitted_0 : State :=
  { sets (base 3) [(Fd.LP_STAT_MANUAL 3, 0)] with clk := { (base 4).clk with now := 100 } }

def at_LoopConfigurationsAreCommitted_1 : State :=
  { (base 3).wr (Reg.LP_SCFG0 9) 1 with clk := { (base 4).clk with now := 100 } }

def at_LoopConfigurationsAreCommitted_2 : State :=
  sets (base 3) [(Fd.LOP_CMT_STAT_PENDING, 1)]

def at_LoopConfigurationsAreCommitted_3 : State :=
  { ((base 3).wr (Reg.LP_SCFG0 9) 1).wr (Reg.LP_ACFG0 8) 7 with lop := { (base 3).lop with points := [(0x6030004, 9)] } }

def at_LoopConfigurationsAreCommitted_4 : State :=
  { (base 4).wr (Reg.LP_ACFG0 8) 7 with lop := { (base 3).lop with points := [(0x6030004, 9)], changed := some 9 } }

def at_LoopConfigurationsAreCommitted_6 : State :=
  { sets (base 4) [(Fd.LP_STAT_PLAUS 127, 1)] with lop := { (base 4).lop with loop := [(127, { Loop.idle with act := some 2, apart := 5, within := 3 })] } }

def at_LoopConfigurationsAreCommitted_9 : State :=
  { (sets (base 4) [(Fd.LP_PL1_PL_PERSIST 126, 5), (Fd.LP_PL0_PL_ACT 126, 1)]).wr (Reg.LP_ACFG0 126) 3 with lop := { (base 4).lop with loop := [(126, { Loop.idle with apart := 5, within := 3 })] } }

def at_LoopConfigurationsAreCommitted_10 : State :=
  { ((sets (base 4) [(Fd.LP_PL1_PL_PERSIST 126, 5), (Fd.LP_PL0_PL_ACT 126, 2)]).wr (Reg.LP_ACFG0 126) 0x313).wr (Reg.LP_FS_OUT 126) 77 with lop := { (base 4).lop with loop := [(126, { Loop.idle with apart := 5, within := 3 })] } }

def at_LoopConfigurationsAreCommitted_11 : State :=
  { ((sets (base 4) [(Fd.LP_CTRL_IN_TMO 126, 5), (Fd.LP_CTRL_FS_EN 126, 1)]).wr (Reg.LP_ACFG0 126) 0x311).wr (Reg.LP_FS_OUT 126) 77 with lop := { (base 4).lop with loop := [(126, { Loop.idle with noin := 5 })] } }

def at_PacketsAndLanesAct_0 : State :=
  { sets (base 4) [(Fd.PAI_PLVL_MIN, 1), (Fd.PAI_PLVL_MAX, 1), (Fd.LOP_STAT_B_STATE, 1)] with clk := { (base 4).clk with sidx := 190 } }

def at_PacketsAndLanesAct_2 : State :=
  { base 4 with lop := { (base 4).lop with bad := [1, 2] } }

def at_PacketsAndLanesAct_3 : State :=
  { sets (base 4) [(Fd.PAI_PLVL_MIN, 1), (Fd.PAI_PLVL_MAX, 1), (Fd.LOP_STAT_B_STATE, 1)] with clk := { (base 4).clk with sidx := 191 } }

def at_PacketsAndLanesAct_4 : State :=
  { sets (base 4) [(Fd.LOP_STAT_A_STATE, 0), (Fd.LOP_STAT_B_STATE, 3)] with clk := { (base 4).clk with sidx := 195 }, lop := { (base 4).lop with candA := some ⟨7, [(510, -1)]⟩ } }

def at_PacketsAndLanesAct_5 : State :=
  { sets (base 4) [(Fd.LOP_STAT_A_STATE, 3), (Fd.LOP_STAT_B_STATE, 0)] with clk := { (base 4).clk with sidx := 195 }, lop := { (base 4).lop with candB := some ⟨7, [(510, -1)]⟩ } }

def at_PacketsAndLanesAct_6 : State :=
  { sets (base 4) [(Fd.LOP_STAT_A_STATE, 3), (Fd.LOP_STAT_B_STATE, 3)] with clk := { (base 4).clk with sidx := 195 }, lop := { (base 4).lop with candB := some ⟨7, [(510, -1)]⟩ } }

def at_PacketsAndLanesAct_7 : State :=
  { base 4 with clk := { (base 4).clk with sidx := 194 } }

def at_PacketsAndLanesAct_8 : State :=
  { sets (base 4) [(Fd.LOP_STAT_A_STATE, 0), (Fd.LOP_STAT_B_STATE, 1)] with clk := { (base 4).clk with sidx := 195 }, lop := { (base 4).lop with candA := some ⟨7, [(510, -1)]⟩, candB := some ⟨7, [(510, -1)]⟩ } }

def at_PacketsAndLanesAct_9 : State :=
  { sets (base 4) [(Fd.LOP_STAT_B_STATE, 3)] with lop := { (base 4).lop with faults := [(1, [9, 8])] } }

def at_PacketsAndLanesAct_10 : State :=
  { sets (base 4) [(Fd.LOP_STAT_B_STATE, 2)] with lop := { (base 4).lop with matched := [(1, 100)] } }

def at_PacketsAndLanesAct_12 : State :=
  { sets (base 4) [(Fd.LOP_STAT_B_STATE, 2)] with lop := { (base 4).lop with matched := [(1, 99)] } }

/-- Every clause of LoopPacketsAndConfigurationsAct has a state and operands that meet its hypotheses. -/
theorem witness_LoopPacketsAndConfigurationsAct :
    (∃ (w : Fin 8) (s : State), s.WriteTaken w Reg.LOP_CMT 1 true ∧ s.on Fd.LOP_CMT_STAT_PENDING = false ∧ s.checkLoops.1 = 1) ∧
    (∃ (w : Fin 8) (s : State), s.WriteTaken w Reg.LOP_CMT 1 true ∧ s.on Fd.LOP_CMT_STAT_PENDING = false ∧ s.checkLoops.1 ≠ 1) ∧
    (∃ (w : Fin 8) (s : State), s.WriteTaken w Reg.LOP_CMT 1 true ∧ s.on Fd.LOP_CMT_STAT_PENDING = true) ∧
    (∃ (w : Fin 8) (s : State), s.WriteTaken w Reg.LOP_CMT 2 true) ∧
    (∃ (s : State) (n : Nat), s.lop.changed = some n) ∧
    (∃ (s : State), s.lop.changed = none) ∧
    (∃ (w : Fin 8) (q : Fin 128) (value : Word) (s : State), s.WriteTaken w (Reg.LP_CTRL q) value true ∧ fieldOf value 4 1 = 1 ∧ (s.loop q).act = some 2) ∧
    (∃ (w : Fin 8) (q : Fin 128) (value : Word) (s : State), s.WriteTaken w (Reg.LP_CTRL q) value true ∧ (fieldOf value 4 1 = 0 ∨ (s.loop q).act = none)) ∧
    (∃ (q : Fin 128) (s : State), s.plausDue q = false) ∧
    (∃ (q : Fin 128) (s : State), s.active.en q = true ∧ s.active.plaus q = true ∧ (s.loop q).act = none ∧ s.fld (Fd.LP_PL1_PL_PERSIST q) ≤ (s.loop q).apart ∧ s.fld (Fd.LP_PL0_PL_ACT q) ≠ 2) ∧
    (∃ (q : Fin 128) (s : State), s.active.en q = true ∧ s.active.plaus q = true ∧ (s.loop q).act = none ∧ s.fld (Fd.LP_PL1_PL_PERSIST q) ≤ (s.loop q).apart ∧ s.fld (Fd.LP_PL0_PL_ACT q) = 2) ∧
    (∃ (q : Fin 128) (s : State), s.active.en q = true ∧ s.fld (Fd.LP_CTRL_IN_TMO q) ≤ (s.loop q).noin ∧ s.on (Fd.LP_CTRL_FS_EN q) = true ∧ s.on (Fd.LP_STAT_FAILSAFE q) = false ∧ s.on (Fd.LP_STAT_OVR q) = false ∧ s.on (Fd.LP_STAT_LOCK q) = false ∧ s.on (Fd.LP_STAT_MANUAL q) = false ∧ s.on (Fd.LP_CTRL_HOLD q) = false ∧ s.innerFrozen q = false) ∧
    (∃ (q : Fin 128) (s : State), (s.active.en q = false ∨ s.failsafeDue q (s.loop q).noin = false ∨ s.on (Fd.LP_STAT_FAILSAFE q) = true ∨ s.on (Fd.LP_STAT_OVR q) = true ∨ s.on (Fd.LP_STAT_LOCK q) = true ∨ s.on (Fd.LP_STAT_MANUAL q) = true ∨ s.on (Fd.LP_CTRL_HOLD q) = true ∨ s.innerFrozen q = true)) ∧
    (∃ (lane : Lane) (bytes : List Byte) (s : State) (p : Packet), s.acceptPacket bytes = some p ∧ s.clk.sidx.toNat % 100 ≤ 90 ∧ s.takesPart lane = true) ∧
    (∃ (lane : Lane) (bytes : List Byte) (s : State), s.acceptPacket bytes = none ∧ s.lop.bad ≠ bytes) ∧
    (∃ (lane : Lane) (bytes : List Byte) (s : State), s.acceptPacket bytes = none ∧ s.lop.bad = bytes) ∧
    (∃ (lane : Lane) (bytes : List Byte) (s : State), (s.acceptPacket bytes).isSome = true ∧ (90 < s.clk.sidx.toNat % 100 ∨ s.takesPart lane = false)) ∧
    (∃ (s : State), s.clk.sidx.toNat % 100 = 95 ∧ s.takesPart .a = true ∧ s.takesPart .b = false) ∧
    (∃ (s : State), s.clk.sidx.toNat % 100 = 95 ∧ s.takesPart .a = false ∧ s.takesPart .b = true) ∧
    (∃ (s : State), s.clk.sidx.toNat % 100 = 95 ∧ s.takesPart .a = false ∧ s.takesPart .b = false) ∧
    (∃ (s : State), s.clk.sidx.toNat % 100 ≠ 95) ∧
    (∃ (s : State), s.clk.sidx.toNat % 100 = 95 ∧ s.takesPart .a = true ∧ s.takesPart .b = true) ∧
    (∃ (lane : Lane) (s : State), s.fld (stField lane) = 3 ∧ s.laneStuck lane = false) ∧
    (∃ (lane : Lane) (s : State), s.fld (stField lane) = 2 ∧ 100 ≤ Tab.at 0 s.lop.matched (laneCode lane)) ∧
    (∃ (lane : Lane) (s : State), (s.fld (stField lane) ≠ 3 ∨ s.laneStuck lane = true)) ∧
    (∃ (lane : Lane) (s : State), (s.fld (stField lane) ≠ 2 ∨ Tab.at 0 s.lop.matched (laneCode lane) < 100)) :=
  ⟨⟨(0), at_LoopConfigurationsAreCommitted_0, taken_of _ _ _ _ _ (by decide +kernel), (by decide +kernel), (by decide +kernel)⟩,
   ⟨(0), at_LoopConfigurationsAreCommitted_1, taken_of _ _ _ _ _ (by decide +kernel), (by decide +kernel), (by decide +kernel)⟩,
   ⟨(0), at_LoopConfigurationsAreCommitted_2, taken_of _ _ _ _ _ (by decide +kernel), (by decide +kernel)⟩,
   ⟨(0), at_LoopConfigurationsAreCommitted_3, taken_of _ _ _ _ _ (by decide +kernel)⟩,
   ⟨at_LoopConfigurationsAreCommitted_4, (9), (by decide +kernel)⟩,
   ⟨(base 4), (by decide +kernel)⟩,
   ⟨(0), (127), (0x10010), at_LoopConfigurationsAreCommitted_6, taken_of _ _ _ _ _ (by decide +kernel), (by decide +kernel), (by decide +kernel)⟩,
   ⟨(0), (127), (0x10000), at_LoopConfigurationsAreCommitted_6, taken_of _ _ _ _ _ (by decide +kernel), (by decide +kernel)⟩,
   ⟨(126), (base 4), (by decide +kernel)⟩,
   ⟨(126), at_LoopConfigurationsAreCommitted_9, (by decide +kernel), (by decide +kernel), (by decide +kernel), (by decide +kernel), (by decide +kernel)⟩,
   ⟨(126), at_LoopConfigurationsAreCommitted_10, (by decide +kernel), (by decide +kernel), (by decide +kernel), (by decide +kernel), (by decide +kernel)⟩,
   ⟨(126), at_LoopConfigurationsAreCommitted_11, (by decide +kernel), (by decide +kernel), (by decide +kernel), (by decide +kernel), (by decide +kernel), (by decide +kernel)⟩,
   ⟨(126), (base 4), (by decide +kernel)⟩,
   ⟨(.b), ((let b := beBytes 1 1 ++ beBytes 1 0 ++ beBytes 2 1 ++ beBytes 8 100 ++ beBytes 4 7 ++ beBytes 4 0 ++ beBytes 1 127 ++ beBytes 1 2 ++ beBytes 2 0 ++ beBytes 4 0xFFFFFFFF
  b ++ beBytes 4 (crc32 b))), at_PacketsAndLanesAct_0, (⟨7, [(510, -1)]⟩), (by decide +kernel), (by decide +kernel), (by decide +kernel)⟩,
   ⟨(.a), ([1, 2]), (base 4), (by decide +kernel), (by decide +kernel)⟩,
   ⟨(.a), ([1, 2]), at_PacketsAndLanesAct_2, (by decide +kernel), (by decide +kernel)⟩,
   ⟨(.b), ((let b := beBytes 1 1 ++ beBytes 1 0 ++ beBytes 2 1 ++ beBytes 8 100 ++ beBytes 4 7 ++ beBytes 4 0 ++ beBytes 1 127 ++ beBytes 1 2 ++ beBytes 2 0 ++ beBytes 4 0xFFFFFFFF
  b ++ beBytes 4 (crc32 b))), at_PacketsAndLanesAct_3, (by decide +kernel), (by decide +kernel)⟩,
   ⟨at_PacketsAndLanesAct_4, (by decide +kernel), (by decide +kernel)⟩,
   ⟨at_PacketsAndLanesAct_5, (by decide +kernel), (by decide +kernel)⟩,
   ⟨at_PacketsAndLanesAct_6, (by decide +kernel), (by decide +kernel)⟩,
   ⟨at_PacketsAndLanesAct_7, (by decide +kernel)⟩,
   ⟨at_PacketsAndLanesAct_8, (by decide +kernel), (by decide +kernel)⟩,
   ⟨(.b), at_PacketsAndLanesAct_9, (by decide +kernel), (by decide +kernel)⟩,
   ⟨(.b), at_PacketsAndLanesAct_10, (by decide +kernel), (by decide +kernel)⟩,
   ⟨(.b), (base 4), (by decide +kernel)⟩,
   ⟨(.b), at_PacketsAndLanesAct_12, (by decide +kernel)⟩⟩

def at_PumpCommandsTakeEffect_0 : State :=
  sets (base 3) [(Fd.PMP_CFG_ROLE 3, 0)]

def at_PumpCommandsTakeEffect_1 : State :=
  sets (base 3) [(Fd.PMP_CFG_ROLE 3, 0), (Fd.PMP_STAT_STATE 3, 3)]

def at_PumpCommandsTakeEffect_2 : State :=
  sets (base 3) [(Fd.PMP_STAT_STATE 7, 6), (Fd.PMP_STAT_SUBST_VALID 7, 1), (Fd.PMP_STAT_SUBST 7, 2)]

def at_PumpCommandsTakeEffect_3 : State :=
  sets (base 4) [(Fd.PMP_CFG_ROLE 0, 0), (Fd.PMP_STAT_SUBST_VALID 0, 1)]

def at_PumpCommandsTakeEffect_7 : State :=
  sets (base 9) [(Fd.PMP_CFG_ROLE 2, 1), (Fd.PMP_STAT_STATE 2, 3)]

def at_PumpSequenceAdvances_0 : State :=
  (sets (base 4) [(Fd.PMP_STAT_STATE 5, 1), (Fd.PMP_CFG_MODE 5, 3), (Fd.DRV_STAT_READY 5, 1), (Fd.DRV_STAT_LOST 5, 0)])

def at_PumpSequenceAdvances_1 : State :=
  sets (base 4) [(Fd.PMP_STAT_STATE 5, 2), (Fd.PMP_CFG_FB_KIND 5, 0), (Fd.PMP_SEQ_T_PROVE 5, 20)]

def at_PumpSequenceAdvances_2 : State :=
  sets (base 4) [(Fd.PMP_STAT_STATE 5, 1), (Fd.PMP_CFG_MODE 5, 0), (Fd.PMP_SEQ_T_READY 5, 0), (Fd.PMP_STAT_SUBST_VALID 5, 1)]

def at_PumpSequenceAdvances_3 : State :=
  sets (base 4) [(Fd.PMP_STAT_STATE 5, 2), (Fd.PMP_SEQ_T_PROVE 5, 0), (Fd.PMP_STAT_SUBST_VALID 5, 1)]

def at_PumpSequenceAdvances_4 : State :=
  sets (base 4) [(Fd.PMP_STAT_STATE 5, 4)]

def at_TripsAndValveFaultsAreTaken_0 : State :=
  { (sets (base 4) [(Fd.PMP_STAT_STATE 5, 3), (Fd.PMP_CFG_MODE 5, 0), (Fd.PMP_CFG_ROLE 5, 1), (Fd.PMP_TRIP_FLT_MS 5, 1)]).setPump 5 { (base 4).pump 5 with lowFrom := some 0 } with clk := { (base 4).clk with now := 1000000 } }

def at_TripsAndValveFaultsAreTaken_1 : State :=
  { (base 4).setValve 63 { (base 4).valve 63 with cond := 2, condFrom := 0 } with clk := { (base 4).clk with now := 5000 } }

def at_TripsAndValveFaultsAreTaken_2 : State :=
  { (base 4).setValve 63 { (base 4).valve 63 with devFrom := some 0 } with clk := { (base 4).clk with now := 1000000 } }

/-- Every clause of PumpsAreCommandedAdvanceAndTrip has a state and operands that meet its hypotheses. -/
theorem witness_PumpsAreCommandedAdvanceAndTrip :
    (∃ (w p : Fin 8) (s : State), s.WriteTaken w (Reg.PMP_CMD p) 1 true ∧ s.pumpLocked p = false ∧ s.fld (Fd.PMP_CFG_ROLE p) = 0 ∧ s.pumpState p = 0 ∧ s.on (Fd.PMP_STAT_SUBST_VALID p) = false) ∧
    (∃ (w p : Fin 8) (s : State), s.WriteTaken w (Reg.PMP_CMD p) 2 true ∧ s.pumpOverride p = none ∧ 1 ≤ s.pumpState p ∧ s.pumpState p ≤ 3) ∧
    (∃ (w p : Fin 8) (s : State), s.WriteTaken w (Reg.PMP_CMD p) 3 true ∧ (s.pumpState p = 5 ∨ s.pumpState p = 6)) ∧
    (∃ (w p : Fin 8) (s : State), s.WriteTaken w (Reg.PMP_CMD p) 4 true ∧ s.pumpState p = 0 ∧ s.fld (Fd.PMP_CFG_ROLE p) = 0 ∧ s.on (Fd.PMP_STAT_SUBST_VALID p) = true ∧ s.pumpLocked p = false) ∧
    (∃ (w : Fin 8) (v : Fin 64) (value : Word) (s : State), s.WriteTaken w (Reg.VLV_LOCK v) value true) ∧
    (∃ (w : Fin 8) (f : Fin 32) (value : Word) (s : State), s.WriteTaken w (Reg.FAN_LOCK f) value true) ∧
    (∃ (w : Fin 8) (k : Fin 64) (value : Word) (s : State), s.WriteTaken w (Reg.SOL_LOCK k) value true ∧ (s.on (Fd.SOL_LOCK_LOCK k) = true ∨ fieldOf value 0 1 = 0)) ∧
    (∃ (w p : Fin 8) (value : Word) (s : State), s.WriteTaken w (Reg.PMP_LOCK p) value true ∧ fieldOf value 0 1 = 1 ∧ s.pumpLocked p = false ∧ s.pumpOverride p = none ∧ s.fld (Fd.PMP_CFG_ROLE p) ≠ 0 ∧ 1 ≤ s.pumpState p ∧ s.pumpState p ≤ 3) ∧
    (∃ (p : Fin 8) (s : State), s.pumpState p = 1 ∧ s.driveReady p = true) ∧
    (∃ (p : Fin 8) (s : State), s.pumpState p = 2 ∧ s.pumpProof p = true ∧ s.clk.now < (s.pump p).start + 10000 * s.fld (Fd.PMP_SEQ_T_PROVE p) ∧ (s.pump p).restore = false) ∧
    (∃ (p : Fin 8) (s : State), s.pumpState p = 1 ∧ s.driveReady p = false ∧ (s.pump p).start + 10000 * s.fld (Fd.PMP_SEQ_T_READY p) ≤ s.clk.now ∧ (s.pump p).standsFor = none ∧ s.on (Fd.PMP_STAT_SUBST_VALID p) = true ∧ (s.pump p).byProt = false) ∧
    (∃ (p : Fin 8) (s : State), s.pumpState p = 2 ∧ (s.pump p).start + 10000 * s.fld (Fd.PMP_SEQ_T_PROVE p) ≤ s.clk.now ∧ (s.pump p).standsFor = none ∧ s.on (Fd.PMP_STAT_SUBST_VALID p) = true ∧ (s.pump p).byProt = false) ∧
    (∃ (p : Fin 8) (s : State), s.pumpState p = 4 ∧ (s.pump p).dem ≤ s.fld (Fd.PMP_SPD_SPD_MIN p) * rampUnit) ∧
    (∃ (p : Fin 8) (cause : Fin 3) (s : State), s.tripHolds p (cause + 1) = true ∧ s.rd Reg.PRT_QNOM = 0 ∧ (s.pump p).standsFor = none ∧ s.fld (Fd.PMP_CFG_ROLE p) = 1 ∧ (s.pump p).byProt = false) ∧
    (∃ (v : Fin 64) (s : State), (s.valve v).cond ≠ 0 ∧ (s.valve v).cond < 4 ∧ (s.valve v).condFrom + msTicks 50 ≤ s.clk.now ∧ s.fld (Fd.VLV_STAT_FAULT v) ≠ (s.valve v).cond) ∧
    (∃ (v : Fin 64) (s : State) (f : Nat), s.on (Fd.VLV_STAT_DEV v) = false ∧ (s.valve v).devFrom = some f ∧ f + 10000 * s.fld (Fd.VLV_CFG_DEV_T v) ≤ s.clk.now) :=
  ⟨⟨(0), (3), at_PumpCommandsTakeEffect_0, taken_of _ _ _ _ _ (by decide +kernel), (by decide +kernel), (by decide +kernel), (by decide +kernel), (by decide +kernel)⟩,
   ⟨(0), (3), at_PumpCommandsTakeEffect_1, taken_of _ _ _ _ _ (by decide +kernel), (by decide +kernel), (by decide +kernel), (by decide +kernel)⟩,
   ⟨(0), (7), at_PumpCommandsTakeEffect_2, taken_of _ _ _ _ _ (by decide +kernel), (by decide +kernel)⟩,
   ⟨(0), (0), at_PumpCommandsTakeEffect_3, taken_of _ _ _ _ _ (by decide +kernel), (by decide +kernel), (by decide +kernel), (by decide +kernel), (by decide +kernel)⟩,
   ⟨(0), (63), (0x80001234), (base 9), taken_of _ _ _ _ _ (by decide +kernel)⟩,
   ⟨(0), (31), (0x80000000), (base 9), taken_of _ _ _ _ _ (by decide +kernel)⟩,
   ⟨(0), (63), (0), (base 9), taken_of _ _ _ _ _ (by decide +kernel), (by decide +kernel)⟩,
   ⟨(0), (2), (1), at_PumpCommandsTakeEffect_7, taken_of _ _ _ _ _ (by decide +kernel), (by decide +kernel), (by decide +kernel), (by decide +kernel), (by decide +kernel), (by decide +kernel), (by decide +kernel)⟩,
   ⟨(5), at_PumpSequenceAdvances_0, (by decide +kernel), (by decide +kernel)⟩,
   ⟨(5), at_PumpSequenceAdvances_1, (by decide +kernel), (by decide +kernel), (by decide +kernel), (by decide +kernel)⟩,
   ⟨(5), at_PumpSequenceAdvances_2, (by decide +kernel), (by decide +kernel), (by decide +kernel), (by decide +kernel), (by decide +kernel), (by decide +kernel)⟩,
   ⟨(5), at_PumpSequenceAdvances_3, (by decide +kernel), (by decide +kernel), (by decide +kernel), (by decide +kernel), (by decide +kernel)⟩,
   ⟨(5), at_PumpSequenceAdvances_4, (by decide +kernel), (by decide +kernel)⟩,
   ⟨(5), (0), at_TripsAndValveFaultsAreTaken_0, (by decide +kernel), (by decide +kernel), (by decide +kernel), (by decide +kernel), (by decide +kernel)⟩,
   ⟨(63), at_TripsAndValveFaultsAreTaken_1, (by decide +kernel), (by decide +kernel), (by decide +kernel), (by decide +kernel)⟩,
   ⟨(63), at_TripsAndValveFaultsAreTaken_2, (0), (by decide +kernel), (by decide +kernel), (by decide +kernel)⟩⟩

def at_SolenoidCommandsTakeEffect_1 : State :=
  sets (base 4) [(Fd.SOL_CFG_PROF 50, 1)]

def at_SolenoidCommandsTakeEffect_2 : State :=
  sets (base 4) [(Fd.SOL_STAT_STATE 1, 6), (Fd.SOL_STAT_FAULT 1, 4)]

def at_SolenoidCommandsTakeEffect_3 : State :=
  sets (base 4) [(Fd.SOL_CFG_PROF 50, 1), (Fd.SOL_STAT_STATE 50, 3)]

def at_SolenoidCommandsTakeEffect_4 : State :=
  (sets (base 3) [(Fd.SOL_STAT_POS 47, 2)]).setRackP 47 { RackP.idle with closedAt := some 0 }

def at_SolenoidCommandsTakeEffect_5 : State :=
  ((sets (base 4) [(Fd.SOL_STAT_STATE 58, 1)]).setSol 58 { Sol.idle with req := some ⟨1, false, 1, 0, 0, none, false⟩ }).setSol 59 { Sol.idle with pull := some (0, 1), slot := true, req := some ⟨1, true, 1, 0, 0, none, false⟩ }

def at_SolenoidCommandsTakeEffect_6 : State :=
  sets (base 4) [(Fd.BANK_STAT_CUT 7, 1), (Fd.BANK_STAT_REASON 7, 3)]

/-- Every clause of SolenoidCommandsTakeEffect has a state and operands that meet its hypotheses. -/
theorem witness_SolenoidCommandsTakeEffect :
    (∃ (w : Fin 8) (k : Fin 64) (s : State), s.WriteTaken w (Reg.SOL_CMD k) 1 true ∧ s.bankCut (k / 8) = false ∧ (s.sol k).req = none ∧ s.on (Fd.SOL_LOCK_LOCK k) = false ∧ s.fld (Fd.SOL_STAT_FAULT k) = 0 ∧ s.solState k = 0) ∧
    (∃ (w : Fin 8) (k : Fin 64) (s : State), s.WriteTaken w (Reg.SOL_CMD k) 2 (s.solCmdOk k 2) ∧ s.bankCut (k / 8) = false ∧ (s.sol k).req = none ∧ s.on (Fd.SOL_LOCK_LOCK k) = false ∧ s.fld (Fd.SOL_STAT_FAULT k) = 0 ∧ s.solState k = 0) ∧
    (∃ (w : Fin 8) (k : Fin 64) (s : State), s.WriteTaken w (Reg.SOL_CMD k) 4 true ∧ s.bankCut (k / 8) = false ∧ (s.sol k).req = none ∧ s.on (Fd.SOL_LOCK_LOCK k) = false ∧ s.solState k = 6) ∧
    (∃ (w : Fin 8) (k : Fin 64) (s : State), s.WriteTaken w (Reg.SOL_CMD k) 3 (s.solCmdOk k 3)) ∧
    (∃ (w : Fin 8) (k : Fin 64) (s : State), s.WriteTaken w (Reg.SOL_CMD k) 5 (s.solCmdOk k 5)) ∧
    (∃ (w b : Fin 8) (s : State), s.WriteTaken w (Reg.BANK_CMD b) 1 true ∧ s.bankCut b = false) ∧
    (∃ (w b : Fin 8) (s : State), s.WriteTaken w (Reg.BANK_CMD b) 2 true ∧ s.bankCut b = true) :=
  ⟨⟨(0), (63), (base 4), taken_of _ _ _ _ _ (by decide +kernel), (by decide +kernel), (by decide +kernel), (by decide +kernel), (by decide +kernel), (by decide +kernel)⟩,
   ⟨(0), (50), at_SolenoidCommandsTakeEffect_1, taken_of _ _ _ _ _ (by decide +kernel), (by decide +kernel), (by decide +kernel), (by decide +kernel), (by decide +kernel), (by decide +kernel)⟩,
   ⟨(0), (1), at_SolenoidCommandsTakeEffect_2, taken_of _ _ _ _ _ (by decide +kernel), (by decide +kernel), (by decide +kernel), (by decide +kernel), (by decide +kernel)⟩,
   ⟨(0), (50), at_SolenoidCommandsTakeEffect_3, taken_of _ _ _ _ _ (by decide +kernel)⟩,
   ⟨(0), (47), at_SolenoidCommandsTakeEffect_4, taken_of _ _ _ _ _ (by decide +kernel)⟩,
   ⟨(0), (7), at_SolenoidCommandsTakeEffect_5, taken_of _ _ _ _ _ (by decide +kernel), (by decide +kernel)⟩,
   ⟨(0), (7), at_SolenoidCommandsTakeEffect_6, taken_of _ _ _ _ _ (by decide +kernel), (by decide +kernel)⟩⟩

def at_SolenoidSequenceAdvances_0 : State :=
  (sets (base 4) [(Fd.SOL_STAT_STATE 9, 2), (Fd.SOL_TIME_T_DET 9, 50)]).setSol 9 { Sol.idle with pull := some (0, 1), dip := none, slot := true, req := some ⟨1, false, 1, 0, 0, none, false⟩ }

def at_SolenoidSequenceAdvances_1 : State :=
  (sets (base 4) [(Fd.SOL_STAT_STATE 50, 2), (Fd.SOL_TIME_T_EXT 50, 0)]).setSol 50 { Sol.idle with pull := some (0, 2), dip := some 0, slot := true, req := some ⟨2, false, 1, 0, 0, none, false⟩ }

def at_SolenoidSequenceAdvances_2 : State :=
  (sets (base 4) [(Fd.SOL_STAT_STATE 50, 2), (Fd.SOL_TIME_T_PULSE 50, 0)]).setSol 50 { Sol.idle with pull := some (0, 1), dip := none, slot := true, req := some ⟨1, false, 1, 0, 0, none, false⟩ }

def at_SolenoidSequenceAdvances_3 : State :=
  { (sets (base 4) [(Fd.SOL_STAT_STATE 9, 2)]).setSol 9 { Sol.idle with pull := some (0, 1), dip := none, slot := true, req := some ⟨1, false, 1, 0, 0, none, false⟩ } with clk := { (base 4).clk with now := 500 } }

def at_SolenoidSequenceAdvances_4 : State :=
  (sets (base 4) [(Fd.SOL_STAT_STATE 9, 2)]).setSol 9 { Sol.idle with pull := some (0, 1), slot := true, req := some ⟨1, true, 1, 0, 0, none, false⟩ }

def at_SolenoidSequenceAdvances_5 : State :=
  (sets (base 4) [(Fd.SOL_STAT_STATE 9, 4)]).setSol 9 { Sol.idle with moves := some ⟨1, true, 1, 0, 0, none, false⟩, pending := 1, slot := true }

def at_SolenoidSequenceAdvances_6 : State :=
  (sets (base 4) [(Fd.SOL_STAT_STATE 9, 1)]).setSol 9 { Sol.idle with req := some ⟨1, false, 1, 0, 1, some 0, false⟩ }

def at_SolenoidSequenceAdvances_7 : State :=
  (sets (base 4) [(Fd.SOL_STAT_STATE 9, 1), (Fd.SOL_RETRY_DEFER_MS 9, 0)]).setSol 9 { Sol.idle with req := some ⟨1, true, 1, 0, 1, none, false⟩ }

def at_SolenoidSequenceAdvances_8 : State :=
  { sets (base 4) [(Fd.ACT_CTRL_SELFTEST_EN, 1)] with clk := { (base 4).clk with now := 6000000 } }

def at_SolenoidSequenceAdvances_12 : State :=
  { base 4 with clk := { (base 4).clk with now := 500 } }

def at_SolenoidSequenceAdvances_13 : State :=
  { sets (base 4) [(Fd.BANK_STAT_CUT 7, 1), (Fd.BANK_STAT_REASON 7, 5)] with acts := { (base 4).acts with busFrom := some 0 }, clk := { (base 4).clk with now := 10000 } }

/-- Every clause of SolenoidSequenceAdvances has a state and operands that meet its hypotheses. -/
theorem witness_SolenoidSequenceAdvances :
    (∃ (k : Fin 64) (s : State) (t0 op : Nat), s.solState k = 2 ∧ (s.sol k).pull = some (t0, op) ∧ (s.sol k).dip = none ∧ s.clk.now ≤ t0 + msTicks (s.fld (Fd.SOL_TIME_T_DET k))) ∧
    (∃ (k : Fin 64) (s : State) (t0 d : Nat) (r : SolReq), s.solState k = 2 ∧ (s.sol k).pull = some (t0, 2) ∧ (s.sol k).dip = some d ∧ s.pullEnd k t0 ≤ s.clk.now ∧ (s.sol k).req = some r ∧ r.op = 2) ∧
    (∃ (k : Fin 64) (s : State) (t0 : Nat) (r : SolReq), s.solState k = 2 ∧ (s.sol k).pull = some (t0, 1) ∧ (s.sol k).dip = none ∧ s.pullEnd k t0 ≤ s.clk.now ∧ (s.sol k).req = some r) ∧
    (∃ (k : Fin 64) (s : State) (t0 op : Nat) (r : SolReq), s.solState k = 2 ∧ (s.sol k).pull = some (t0, op) ∧ (s.sol k).dip = none ∧ t0 + msTicks 5 ≤ s.clk.now ∧ (s.sol k).req = some r) ∧
    (∃ (k : Fin 64) (s : State) (r : SolReq), s.solState k = 2 ∧ (s.sol k).req = some r) ∧
    (∃ (k : Fin 64) (s : State) (r : SolReq), s.solState k = 4 ∧ (s.sol k).moves = some r ∧ (s.sol k).pending = 1 ∧ (s.sol k).req = none ∧ s.fld (Fd.SOL_STAT_FAULT k) = 0) ∧
    (∃ (k : Fin 64) (s : State) (r : SolReq) (t0 : Nat), (s.sol k).req = some r ∧ r.rejoin = some t0 ∧ t0 ≤ s.clk.now) ∧
    (∃ (k : Fin 64) (s : State) (r : SolReq), (s.sol k).req = some r ∧ s.solState k = 1 ∧ r.rejoin = none ∧ r.clock + msTicks (s.fld (Fd.SOL_RETRY_DEFER_MS k)) ≤ s.clk.now) ∧
    (∃ (k : Fin 64) (s : State), s.solState k = 0 ∧ s.on Fd.ACT_CTRL_SELFTEST_EN = true ∧ s.slotTaken (k / 8) = false ∧ s.bankCut (k / 8) = false ∧ (s.sol k).testAt + sTicks 60 ≤ s.clk.now ∧ s.fld (Fd.SOL_STAT_FAULT k) = 0) ∧
    (∃ (b : Fin 8) (s : State), s.bankCut b = false) ∧
    (∃ (b : Fin 8) (s : State), s.bankCut b = false) ∧
    (∃ (b : Fin 8) (s : State), s.bankCut b = false ∧ max s.acts.volts.1 s.acts.volts.2 < 3600) ∧
    (∃ (b c : Fin 8) (s : State), s.bankCut b = false ∧ s.solState (8 * b + c) = 0 ∧ (s.sol (8 * b + c)).offAt + msTicks 5 ≤ s.clk.now) ∧
    (∃ (b : Fin 8) (s : State) (t0 : Nat), s.bankCut b = true ∧ s.fld (Fd.BANK_STAT_REASON b) = 5 ∧ s.acts.busFrom = some t0 ∧ t0 + msTicks 100 ≤ s.clk.now) :=
  ⟨⟨(9), at_SolenoidSequenceAdvances_0, (0), (1), (by decide +kernel), (by decide +kernel), (by decide +kernel), (by decide +kernel)⟩,
   ⟨(50), at_SolenoidSequenceAdvances_1, (0), (0), (⟨2, false, 1, 0, 0, none, false⟩), (by decide +kernel), (by decide +kernel), (by decide +kernel), (by decide +kernel), (by decide +kernel), (by decide +kernel)⟩,
   ⟨(50), at_SolenoidSequenceAdvances_2, (0), (⟨1, false, 1, 0, 0, none, false⟩), (by decide +kernel), (by decide +kernel), (by decide +kernel), (by decide +kernel), (by decide +kernel)⟩,
   ⟨(9), at_SolenoidSequenceAdvances_3, (0), (1), (⟨1, false, 1, 0, 0, none, false⟩), (by decide +kernel), (by decide +kernel), (by decide +kernel), (by decide +kernel), (by decide +kernel)⟩,
   ⟨(9), at_SolenoidSequenceAdvances_4, (⟨1, true, 1, 0, 0, none, false⟩), (by decide +kernel), (by decide +kernel)⟩,
   ⟨(9), at_SolenoidSequenceAdvances_5, (⟨1, true, 1, 0, 0, none, false⟩), (by decide +kernel), (by decide +kernel), (by decide +kernel), (by decide +kernel), (by decide +kernel)⟩,
   ⟨(9), at_SolenoidSequenceAdvances_6, (⟨1, false, 1, 0, 1, some 0, false⟩), (0), (by decide +kernel), (by decide +kernel), (by decide +kernel)⟩,
   ⟨(9), at_SolenoidSequenceAdvances_7, (⟨1, true, 1, 0, 1, none, false⟩), (by decide +kernel), (by decide +kernel), (by decide +kernel), (by decide +kernel)⟩,
   ⟨(9), at_SolenoidSequenceAdvances_8, (by decide +kernel), (by decide +kernel), (by decide +kernel), (by decide +kernel), (by decide +kernel), (by decide +kernel)⟩,
   ⟨(7), (base 4), (by decide +kernel)⟩,
   ⟨(7), (base 4), (by decide +kernel)⟩,
   ⟨(7), (base 4), (by decide +kernel), (by decide +kernel)⟩,
   ⟨(1), (3), at_SolenoidSequenceAdvances_12, (by decide +kernel), (by decide +kernel), (by decide +kernel)⟩,
   ⟨(7), at_SolenoidSequenceAdvances_13, (0), (by decide +kernel), (by decide +kernel), (by decide +kernel), (by decide +kernel)⟩⟩

def at_FanEventsTakeEffect_0 : State :=
  { (sets (base 4) [(Fd.FAN_STAT_STATE 31, 1), (Fd.FAN_STAT_ATTEMPT 31, 3)]).setFan 31 { Fan.idle with kick := some 0 } with clk := { (base 4).clk with now := 300000 } }

def at_FanEventsTakeEffect_1 : State :=
  { (sets (base 4) [(Fd.FAN_STAT_STATE 31, 1), (Fd.FAN_STAT_ATTEMPT 31, 2)]).setFan 31 { Fan.idle with kick := some 0 } with clk := { (base 4).clk with now := 300000 } }

def at_FanEventsTakeEffect_2 : State :=
  { (sets (base 4) [(Fd.FAN_STAT_STATE 31, 1), (Fd.FAN_CFG_RATED 31, 5000), (Fd.FAN_MEAS_RPM 31, 500)]).setFan 31 { Fan.idle with kick := some 0, edge := 10 } with clk := { (base 4).clk with now := 300000 } }

def at_FanEventsTakeEffect_3 : State :=
  { (sets (base 4) [(Fd.FAN_STAT_STATE 31, 2), (Fd.FAN_CFG_RATED 31, 5000), (Fd.FAN_FLOOR_FLOOR_MA 31, 100), (Fd.FAN_MEAS_MA 31, 100)]) with clk := { (base 4).clk with now := 300000 } }

def at_FanEventsTakeEffect_4 : State :=
  { (sets (base 4) [(Fd.FAN_STAT_STATE 31, 2), (Fd.FAN_CFG_RATED 31, 5000), (Fd.FAN_FLOOR_FLOOR_MA 31, 100), (Fd.FAN_MEAS_MA 31, 99)]) with clk := { (base 4).clk with now := 300000 } }

def at_FanEventsTakeEffect_5 : State :=
  { (sets (base 4) [(Fd.FAN_STAT_STATE 31, 2), (Fd.FAN_STAT_DRIVE 31, 99)]).setFan 31 { Fan.idle with ocFrom := some 0 } with clk := { (base 4).clk with now := 100 } }

def at_FanEventsTakeEffect_6 : State :=
  { (sets (base 4) [(Fd.FAN_STAT_STATE 31, 6), (Fd.FAN_STAT_ATTEMPT 31, 2)]) with clk := { (base 4).clk with now := 500000 } }

def at_FanEventsTakeEffect_7 : State :=
  { (sets (base 4) [(Fd.FAN_STAT_STATE 31, 5)]).setFan 31 { Fan.idle with goodFrom := some 0, edge := 100000 } with clk := { (base 4).clk with now := 100000 } }

def at_FanEventsTakeEffect_8 : State :=
  sets (base 4) [(Fd.FAN_STAT_STATE 31, 4), (Fd.FAN_STAT_ATTEMPT 31, 3)]

def at_FanEventsTakeEffect_9 : State :=
  { base 4 with clk := { (base 4).clk with now := 10000000 } }

def at_FanEventsTakeEffect_10 : State :=
  { base 4 with acts := { (base 4).acts with overFrom := some 0 }, clk := { (base 4).clk with now := 500 } }

def at_FanEventsTakeEffect_11 : State :=
  { base 4 with clk := { (base 4).clk with now := 60000000 } }

/-- Every clause of FanEventsTakeEffect has a state and operands that meet its hypotheses. -/
theorem witness_FanEventsTakeEffect :
    (∃ (f : Fin 32) (s : State) (t0 : Nat), s.fanState f = 1 ∧ (s.fan f).kick = some t0 ∧ t0 + sTicks 3 ≤ s.clk.now ∧ 3 ≤ s.fld (Fd.FAN_STAT_ATTEMPT f)) ∧
    (∃ (f : Fin 32) (s : State) (t0 : Nat), s.fanState f = 1 ∧ (s.fan f).kick = some t0 ∧ t0 + sTicks 3 ≤ s.clk.now ∧ s.fld (Fd.FAN_STAT_ATTEMPT f) < 3) ∧
    (∃ (f : Fin 32) (s : State) (t0 : Nat), s.fanState f = 1 ∧ (s.fan f).kick = some t0 ∧ t0 ≤ (s.fan f).edge ∧ s.clk.now ≤ t0 + sTicks 3 ∧ s.fld (Fd.FAN_CFG_RATED f) ≤ 10 * s.fld (Fd.FAN_MEAS_RPM f)) ∧
    (∃ (f : Fin 32) (s : State), s.fanState f = 2 ∧ s.tachLate f = true ∧ s.fanSuspended f = false ∧ s.fld (Fd.FAN_FLOOR_FLOOR_MA f) ≤ s.fld (Fd.FAN_MEAS_MA f)) ∧
    (∃ (f : Fin 32) (s : State), s.fanState f = 2 ∧ s.tachLate f = true ∧ s.fanSuspended f = false ∧ s.fld (Fd.FAN_MEAS_MA f) < s.fld (Fd.FAN_FLOOR_FLOOR_MA f)) ∧
    (∃ (f : Fin 32) (s : State) (t0 : Nat), s.fanState f = 2 ∧ (s.fan f).ocFrom = some t0 ∧ t0 + msTicks 1 ≤ s.clk.now) ∧
    (∃ (f : Fin 32) (s : State), s.fanState f = 6 ∧ s.fld (Fd.FAN_STAT_ATTEMPT f) < 3 ∧ (s.fan f).ocAt + sTicks 5 ≤ s.clk.now ∧ s.mayKick = true) ∧
    (∃ (f : Fin 32) (s : State) (t0 : Nat), s.fanState f = 5 ∧ s.tachLate f = false ∧ (s.fan f).goodFrom = some t0 ∧ t0 + sTicks 1 ≤ s.clk.now) ∧
    (∃ (w : Fin 8) (f : Fin 32) (s : State), s.WriteTaken w (Reg.FAN_CMD f) 1 true ∧ s.fanState f = 4) ∧
    (∃ (d : Fin 64) (s : State), s.on (Fd.ACT_FDEM_SRC d) = false ∧ s.demandFresh d = false) ∧
    (∃ (s : State) (t0 : Nat), s.on Fd.ACT_STAT_OVERBUDGET = false ∧ s.anyPull = false ∧ s.acts.overFrom = some t0 ∧ t0 + msTicks 5 ≤ s.clk.now ∧ s.acts.pull = false) ∧
    (∃ (s : State), s.acts.wearAt + sTicks 600 ≤ s.clk.now) :=
  ⟨⟨(31), at_FanEventsTakeEffect_0, (0), (by decide +kernel), (by decide +kernel), (by decide +kernel), (by decide +kernel)⟩,
   ⟨(31), at_FanEventsTakeEffect_1, (0), (by decide +kernel), (by decide +kernel), (by decide +kernel), (by decide +kernel)⟩,
   ⟨(31), at_FanEventsTakeEffect_2, (0), (by decide +kernel), (by decide +kernel), (by decide +kernel), (by decide +kernel), (by decide +kernel)⟩,
   ⟨(31), at_FanEventsTakeEffect_3, (by decide +kernel), (by decide +kernel), (by decide +kernel), (by decide +kernel)⟩,
   ⟨(31), at_FanEventsTakeEffect_4, (by decide +kernel), (by decide +kernel), (by decide +kernel), (by decide +kernel)⟩,
   ⟨(31), at_FanEventsTakeEffect_5, (0), (by decide +kernel), (by decide +kernel), (by decide +kernel)⟩,
   ⟨(31), at_FanEventsTakeEffect_6, (by decide +kernel), (by decide +kernel), (by decide +kernel), (by decide +kernel)⟩,
   ⟨(31), at_FanEventsTakeEffect_7, (0), (by decide +kernel), (by decide +kernel), (by decide +kernel), (by decide +kernel)⟩,
   ⟨(0), (31), at_FanEventsTakeEffect_8, taken_of _ _ _ _ _ (by decide +kernel), (by decide +kernel)⟩,
   ⟨(63), at_FanEventsTakeEffect_9, (by decide +kernel), (by decide +kernel)⟩,
   ⟨at_FanEventsTakeEffect_10, (0), (by decide +kernel), (by decide +kernel), (by decide +kernel), (by decide +kernel), (by decide +kernel)⟩,
   ⟨at_FanEventsTakeEffect_11, (by decide +kernel)⟩⟩

def at_FieldInputsTakeEffect_0 : State :=
  { sets (base 4) [(Fd.IN_CFG_TYPE 3, 1)] with field := { (base 4).field with beyond := [(3, 10)] } }

def at_FieldInputsTakeEffect_2 : State :=
  { { sets (base 4) [(Fd.IN_CFG_TYPE 3, 1)] with field := { (base 4).field with sup := [(3, { Supv.fresh 0 false with fault := true, validFrom := some 0 })] } } with clk := { (base 4).clk with now := 100000 } }

def at_FieldInputsTakeEffect_3 : State :=
  { (base 4).setStrm 99 { Strm.fresh 0 with sup := { Supv.fresh 0 false with fault := true, validFrom := some 0, lastRead := 100000 } } with clk := { (base 4).clk with now := 100000 } }

def at_FieldInputsTakeEffect_6 : State :=
  { base 4 with clk := { (base 4).clk with sidx := 7 } }

def at_FieldInputsTakeEffect_7 : State :=
  { { sets (base 4) [(Fd.IN_CFG_TYPE 3, 1), (Fd.STM_SUSP_CLR_SEC, 0)] with field := { (base 4).field with sup := [(3, { Supv.fresh 0 false with suspect := true, clearFrom := some 0 })] } } with clk := { (base 4).clk with now := 100000 } }

def at_FieldInputsTakeEffect_8 : State :=
  (sets (base 4) [(Fd.STM_SUP_PAIR 99, 1), (Fd.STM_SUSP_CLR_SEC, 0), (Fd.PAIR_STAT_STATE 0, 2)]).setStrm 99 { Strm.fresh 0 with sup := { Supv.fresh 0 false with suspect := true, clearFrom := some 0 } }

def at_FieldInputsTakeEffect_9 : State :=
  { base 4 with field := { (base 4).field with conv := [(9, 2)] } }

def at_FieldInputsTakeEffect_11 : State :=
  sets (base 4) [(Fd.SPAI_STAT_ASSIGNED 15, 1), (Fd.SPAI_STAT_INPUT 15, 127)]

def at_FieldInputsTakeEffect_15 : State :=
  sets (base 4) [(Fd.SPAI_STAT_FAILED 15, 1)]

/-- Every clause of FieldInputsTakeEffect has a state and operands that meet its hypotheses. -/
theorem witness_FieldInputsTakeEffect :
    (∃ (i : Fin 144) (s : State), 10 ≤ Tab.at 0 s.field.beyond i ∧ (s.fsup i).fault = false ∧ s.isTemp i = true) ∧
    (∃ (i : Fin 144) (s : State), Tab.at 0 s.field.beyond i < 10) ∧
    (∃ (i : Fin 144) (s : State) (t0 : Nat), (s.fsup i).fault = true ∧ s.converterGood i = true ∧ (s.fsup i).validFrom = some t0 ∧ t0 + sTicks 1 ≤ s.clk.now) ∧
    (∃ (sid : Fin 262144) (s : State) (t0 : Nat), (s.strm sid).sup.fault = true ∧ (s.strm sid).sup.validFrom = some t0 ∧ t0 + sTicks 1 ≤ (s.strm sid).sup.lastRead) ∧
    (∃ (i : Fin 144) (s : State), ((s.fsup i).fault = false ∨ s.converterGood i = false ∨ (s.fsup i).validFrom.all (fun t0 => decide (s.clk.now < t0 + sTicks 1)) = true)) ∧
    (∃ (sid : Fin 262144) (s : State), ((s.strm sid).sup.fault = false ∨ (s.strm sid).sup.validFrom.all (fun t0 => decide ((s.strm sid).sup.lastRead < t0 + sTicks 1)) = true)) ∧
    (∃ (x : TempSource) (s : State), (s.mainAbsent = true ∨ s.clk.sidx.toNat % 100 ≠ 0)) ∧
    (∃ (i : Fin 144) (s : State), s.mainAbsent = false ∧ s.clk.sidx.toNat % 100 = 0 ∧ s.mayClear (s.fsup i) (s.on (Fd.PRT_FSUP_ACK_REQ i)) = true) ∧
    (∃ (sid : Fin 262144) (s : State), s.mainAbsent = false ∧ s.clk.sidx.toNat % 100 = 0 ∧ s.mayClear (s.strm sid).sup (s.on (Fd.STM_SUP_ACK_REQ sid)) = true) ∧
    (∃ (c : Fin 128) (s : State), Tab.at 0 s.field.conv c = 2 ∧ (s.fsup c).fault = false ∧ s.on (Fd.SPAI_STAT_ASSIGNED (c / 8)) = false) ∧
    (∃ (w : Fin 8) (sp : Fin 16) (inp : Fin 8) (s : State), s.WriteTaken w (Reg.SPAI_CMD sp) (BitVec.ofNat 32 (1 + 16 * inp.val)) true ∧ s.on (Fd.SPAI_STAT_FAILED sp) = false ∧ s.on (Fd.SPAI_STAT_ASSIGNED sp) = false) ∧
    (∃ (w : Fin 8) (sp : Fin 16) (inp : Fin 8) (s : State), s.WriteTaken w (Reg.SPAI_CMD sp) (BitVec.ofNat 32 (2 + 16 * inp.val)) true ∧ s.on (Fd.SPAI_STAT_ASSIGNED sp) = true ∧ Tab.has s.field.conv (s.fld (Fd.SPAI_STAT_INPUT sp)) = false) ∧
    (∃ (w : Fin 8) (i : Fin 144) (word : Fin 3) (value : Word) (s : State), s.WriteTaken w (Reg.IN_CFG i + 4 * word.val) value (crossField s (Reg.IN_CFG i + 4 * word.val) value)) ∧
    (∃ (i : Fin 144) (s : State), s.mayClear (s.fsup i) (s.on (Fd.PRT_FSUP_ACK_REQ i)) = false) ∧
    (∃ (sid : Fin 262144) (s : State), s.mayClear (s.strm sid).sup (s.on (Fd.STM_SUP_ACK_REQ sid)) = false) ∧
    (∃ (w : Fin 8) (sp : Fin 16) (inp : Fin 8) (s : State), s.WriteTaken w (Reg.SPAI_CMD sp) (BitVec.ofNat 32 (1 + 16 * inp.val)) true ∧ (s.on (Fd.SPAI_STAT_FAILED sp) = true ∨ s.on (Fd.SPAI_STAT_ASSIGNED sp) = true)) ∧
    (∃ (w : Fin 8) (sp : Fin 16) (inp : Fin 8) (s : State), s.WriteTaken w (Reg.SPAI_CMD sp) (BitVec.ofNat 32 (2 + 16 * inp.val)) true ∧ (s.on (Fd.SPAI_STAT_ASSIGNED sp) = false ∨ Tab.has s.field.conv (s.fld (Fd.SPAI_STAT_INPUT sp)) = true)) ∧
    (∃ (bad : List (Fin 128)) (spareBad : List (Fin 16)) (s : State), (bad = [] ∧ s.field.conv = [] ∧ (∀ k, k < 16 → s.on (Fd.SPAI_STAT_ASSIGNED k) = false))) :=
  ⟨⟨(3), at_FieldInputsTakeEffect_0, (by decide +kernel), (by decide +kernel), (by decide +kernel)⟩,
   ⟨(3), (base 4), (by decide +kernel)⟩,
   ⟨(3), at_FieldInputsTakeEffect_2, (0), (by decide +kernel), (by decide +kernel), (by decide +kernel), (by decide +kernel)⟩,
   ⟨(99), at_FieldInputsTakeEffect_3, (0), (by decide +kernel), (by decide +kernel), (by decide +kernel)⟩,
   ⟨(3), (base 4), (by decide +kernel)⟩,
   ⟨(99), (base 4), (by decide +kernel)⟩,
   ⟨(.stream 99), at_FieldInputsTakeEffect_6, (by decide +kernel)⟩,
   ⟨(3), at_FieldInputsTakeEffect_7, (by decide +kernel), (by decide +kernel), (by decide +kernel)⟩,
   ⟨(99), at_FieldInputsTakeEffect_8, (by decide +kernel), (by decide +kernel), (by decide +kernel)⟩,
   ⟨(9), at_FieldInputsTakeEffect_9, (by decide +kernel), (by decide +kernel), (by decide +kernel)⟩,
   ⟨(0), (15), (7), (base 4), taken_of _ _ _ _ _ (by decide +kernel), (by decide +kernel), (by decide +kernel)⟩,
   ⟨(0), (15), (7), at_FieldInputsTakeEffect_11, taken_of _ _ _ _ _ (by decide +kernel), (by decide +kernel), (by decide +kernel)⟩,
   ⟨(0), (3), (0), (1), (base 3), taken_of _ _ _ _ _ (by decide +kernel)⟩,
   ⟨(3), (base 4), (by decide +kernel)⟩,
   ⟨(99), (base 4), (by decide +kernel)⟩,
   ⟨(0), (15), (7), at_FieldInputsTakeEffect_15, taken_of _ _ _ _ _ (by decide +kernel), (by decide +kernel)⟩,
   ⟨(0), (15), (7), (base 4), taken_of _ _ _ _ _ (by decide +kernel), (by decide +kernel)⟩,
   ⟨([]), ([5]), (base 4), (by first | decide +kernel | exact ⟨rfl, by decide +kernel⟩ | rfl)⟩⟩

def at_LeakSequencesStart_0 : State :=
  sets (base 4) [(Fd.SPOT_CFG_EN 31, 1), (Fd.SPOT_CFG_EOL 31, 1000)]

def at_LeakSequencesStart_1 : State :=
  (sets (base 4) [(Fd.PRT_LEAK_CFG0_LEAK_CONF, 1), (Fd.PRT_LEAK_CFG1_WET_PCT, 50), (Fd.PRT_LEAK_CFG1_OPEN_PCT, 200), (Fd.ROPE_CFG_EN 3, 1), (Fd.ROPE_CFG_EOL 3, 1000)]).setLeakIn 3 ⟨10, 20, 0, none, false⟩

def at_LeakSequencesStart_3 : State :=
  sets ((base 4).setRackP 47 { RackP.idle with sup := { FlowAvg.empty with ms := List.replicate 10 (some (100, 1)) }, ret := { FlowAvg.empty with ms := List.replicate 10 (some (50, 1)) } }) [(Fd.RK_FLOWSRC_SUP_KIND 47, 1), (Fd.RK_FLOWSRC_RET_KIND 47, 1), (Fd.PRT_LEAK_CFG1_IMB_WIN, 1), (Fd.RK_IMB_IMB_THR 47, 10), (Fd.RK_IMB_IMB_PCT 47, 0)]

def at_LeakSequencesStart_5 : State :=
  ((sets (base 4) [(Fd.SPOT_CFG_EN 31, 1), (Fd.SPOT_CFG_LOC 31, 47)]).wr (Reg.SPOT_STAT 31) 5).setLeakIn 79 ⟨10, 20, 0, none, false⟩

def at_LeakSequencesStart_13 : State :=
  { (sets (base 4) [(Fd.PRT_LEAK_CFG1_IMB_PERSIST, 1)]).setRackP 47 { RackP.idle with above := some 0 } with clk := { (base 4).clk with now := 10000 } }

def at_LeakSequencesStart_14 : State :=
  ((sets (base 4) [(Fd.SPOT_CFG_EN 31, 1), (Fd.SPOT_CFG_LOC 31, 47)]).wr (Reg.SPOT_STAT 31) 5).setLeakIn 79 ⟨10, 20, 0, none, false⟩ |>.setRackP 47 { RackP.idle with above := some 0 }

def at_LeakSequencesStart_15 : State :=
  (((base 4).wr (Reg.ROPE_STAT 0) 10).setLeakIn 0 ⟨10, 0, 200, none, false⟩)

def at_LeakSequencesStart_16 : State :=
  { (sets (base 4) [(Fd.RK_ACT_ACTIVE 47, 2), (Fd.PRT_ISO_CFG_LEAK_WAIT, 1), (Fd.PRT_CTRL_ISO_AUTO, 1)]).setRackP 47 { RackP.idle with leakAt := some 0 } with clk := { (base 4).clk with now := 10000 } }

def at_LeakSequencesStart_17 : State :=
  { (sets (base 4) [(Fd.SOL_STAT_POS 47, 2), (Fd.PRT_ISO_CFG_ISO_TRIP_S, 1)]).setRackP 47 { RackP.idle with closedAt := some 0 } with clk := { (base 4).clk with now := 100000 } }

def at_LeakSequencesStart_18 : State :=
  ((sets (base 4) [(Fd.SPOT_CFG_EN 31, 1), (Fd.SPOT_CFG_LOC 31, 0xFE)]).wr (Reg.SPOT_STAT 31) 5).setLeakIn 79 ⟨10, 20, 0, none, false⟩

def at_LeakSequencesStart_19 : State :=
  { { base 4 with prt := { (base 4).prt with gone := some 0 } } with clk := { (base 4).clk with now := 100000000 } }

/-- Every clause of LeakSequencesStart has a state and operands that meet its hypotheses. -/
theorem witness_LeakSequencesStart :
    (∃ (i : Fin 80) (r : Nat) (s : State), s.prt.leak = [] ∧ (s.leakCfg i).2 = true ∧ 1 < s.fld Fd.PRT_LEAK_CFG0_LEAK_CONF ∧ 1 < s.fld Fd.PRT_LEAK_CFG0_SPOT_CONF) ∧
    (∃ (i : Fin 80) (r : Nat) (s : State), s.leakInputs = [i.val] ∧ (s.leakCfg i).2 = true ∧ leakBand r (s.leakCfg i).1 (s.fld Fd.PRT_LEAK_CFG1_WET_PCT) (s.fld Fd.PRT_LEAK_CFG1_OPEN_PCT) = 1 ∧ ((if i.val < 48 then s.fld Fd.PRT_LEAK_CFG0_LEAK_CONF else s.fld Fd.PRT_LEAK_CFG0_SPOT_CONF) ≤ (s.leakIn i).wet + 1)) ∧
    (∃ (s : State), s.prt.leak = []) ∧
    (∃ (rack : Fin 48) (s : State) (i thr : Int), s.imbalance rack = some (i, thr) ∧ thr < i ∧ (s.rackP rack).above = none ∧ 0 ≤ thr) ∧
    (∃ (rack : Fin 48) (s : State), ((s.wetGuards rack).any (fun i => !(s.leakIn i).told) = true)) ∧
    (∃ (rack : Fin 48) (s : State), ((s.wetGuards rack).all (fun i => (s.leakIn i).told) = true) ∧ (s.since (s.rackP rack).above s.imbPersist = false ∨ (s.rackP rack).imbTold = true)) ∧
    (∃ (rack : Fin 48) (s : State), ((s.wetGuards rack).all (fun i => decide (i < 48)) = true ∨ (s.rackP rack).above = none ∨ (s.rackP rack).fastTold = true)) ∧
    (∃ (rack : Fin 48) (s : State), (s.rackFaulted rack = false ∨ (s.rackP rack).gfTold = true)) ∧
    (∃ (rack : Fin 48) (s : State), (s.drives = false ∨ s.rackActive rack seqLeak = false ∨ (s.rackP rack).asked = true ∨ s.since (s.rackP rack).leakAt (msTicks (s.fld Fd.PRT_ISO_CFG_LEAK_WAIT)) = false)) ∧
    (∃ (rack : Fin 48) (s : State), (s.isolated rack = false ∨ (s.rackP rack).isoTrip = true ∨ s.since (s.rackP rack).closedAt (sTicks (s.fld Fd.PRT_ISO_CFG_ISO_TRIP_S)) = false)) ∧
    (∃ (s : State), ((s.wetGuards 48).all (fun i => (s.leakIn i).told) = true)) ∧
    (∃ (s : State), (s.loopFaulted = false ∨ s.prt.gfTold = true)) ∧
    (∃ (rack : Fin 48) (s : State), s.since (s.rackP rack).above s.imbPersist = true ∧ (s.rackP rack).imbTold = false ∧ s.rackActive rack seqLeak = false ∧ s.rackActive rack seqLeakFast = false) ∧
    (∃ (rack : Fin 48) (s : State), ((s.wetGuards rack).any (fun i => decide (48 ≤ i)) = true) ∧ (s.rackP rack).above.isSome = true ∧ (s.rackP rack).fastTold = false) ∧
    (∃ (rack : Fin 48) (s : State), s.rackFaulted rack = true ∧ (s.rackP rack).gfTold = false) ∧
    (∃ (rack : Fin 48) (s : State), s.drives = true ∧ s.rackActive rack seqLeak = true ∧ (s.rackP rack).asked = false ∧ s.since (s.rackP rack).leakAt (msTicks (s.fld Fd.PRT_ISO_CFG_LEAK_WAIT)) = true ∧ s.on Fd.PRT_CTRL_ISO_AUTO = true ∧ s.isolated rack = false ∧ s.bankCut (rack / 8) = false ∧ (s.sol rack).req = none) ∧
    (∃ (rack : Fin 48) (s : State), s.isolated rack = true ∧ (s.rackP rack).isoTrip = false ∧ s.since (s.rackP rack).closedAt (sTicks (s.fld Fd.PRT_ISO_CFG_ISO_TRIP_S)) = true ∧ s.drives = true) ∧
    (∃ (s : State), ((s.wetGuards 48).any (fun i => !(s.leakIn i).told) = true)) ∧
    (∃ (s : State), s.loopFaulted = true ∧ s.prt.gfTold = false) :=
  ⟨⟨(79), (500), at_LeakSequencesStart_0, (by decide +kernel), (by decide +kernel), (by decide +kernel), (by decide +kernel)⟩,
   ⟨(3), (100), at_LeakSequencesStart_1, (by decide +kernel), (by decide +kernel), (by decide +kernel), (by decide +kernel)⟩,
   ⟨(base 4), (by decide +kernel)⟩,
   ⟨(47), at_LeakSequencesStart_3, (50), (10), (by decide +kernel), (by decide +kernel), (by decide +kernel), (by decide +kernel)⟩,
   ⟨(47), at_LeakSequencesStart_5, (by decide +kernel)⟩,
   ⟨(47), (base 4), (by decide +kernel), (by decide +kernel)⟩,
   ⟨(47), (base 4), (by decide +kernel)⟩,
   ⟨(47), (base 4), (by decide +kernel)⟩,
   ⟨(47), (base 4), (by decide +kernel)⟩,
   ⟨(47), (base 4), (by decide +kernel)⟩,
   ⟨(base 4), (by decide +kernel)⟩,
   ⟨(base 4), (by decide +kernel)⟩,
   ⟨(47), at_LeakSequencesStart_13, (by decide +kernel), (by decide +kernel), (by decide +kernel), (by decide +kernel)⟩,
   ⟨(47), at_LeakSequencesStart_14, (by decide +kernel), (by decide +kernel), (by decide +kernel)⟩,
   ⟨(0), at_LeakSequencesStart_15, (by decide +kernel), (by decide +kernel)⟩,
   ⟨(47), at_LeakSequencesStart_16, (by decide +kernel), (by decide +kernel), (by decide +kernel), (by decide +kernel), (by decide +kernel), (by decide +kernel), (by decide +kernel), (by decide +kernel)⟩,
   ⟨(47), at_LeakSequencesStart_17, (by decide +kernel), (by decide +kernel), (by decide +kernel), (by decide +kernel)⟩,
   ⟨at_LeakSequencesStart_18, (by decide +kernel)⟩,
   ⟨at_LeakSequencesStart_19, (by decide +kernel), (by decide +kernel)⟩⟩

def at_FlowSequencesStart_0 : State :=
  { sets ((base 4).wr Reg.PRT_QNOM 10) [(Fd.PRT_FLOW_SRC_KIND, 1), (Fd.PRT_FLOW_CFG1_SUDDEN_PCT, 50), (Fd.PRT_CTRL_FC_SUDDEN, 0)] with prt := { (base 4).prt with flow := { FlowAvg.empty with ms := List.replicate 10 (some (10, 10)) ++ List.replicate 100 (some (1000, 10)) } } }

def at_FlowSequencesStart_1 : State :=
  { base 4 with prt := { (base 4).prt with sudTold := true } }

def at_FlowSequencesStart_2 : State :=
  { base 4 with prt := { (base 4).prt with qs := List.replicate 99 (some 1000), flow := { FlowAvg.empty with ms := List.replicate 100 (some (1000, 1)) } } }

def at_DieAndLimitSequencesStart_0 : State :=
  { base 4 with stm := { (base 4).stm with digest := some ⟨5, 0, 1, [(3, 100)]⟩ } }

def at_DieAndLimitSequencesStart_3 : State :=
  { { sets (base 4) [(Fd.RK_DIECFG_DIE_PERSIST 47, 2)] with prt := { (base 4).prt with hard := [(5, 3)] } } with stm := { (base 4).stm with row := [(5, 47)] } }

def at_DieAndLimitSequencesStart_4 : State :=
  { base 4 with prt := { (base 4).prt with missed := 3, entries := [(1, 2)], hard := [(1, 2)] } }

def at_DieAndLimitSequencesStart_7 : State :=
  (sets (base 4) [(Fd.LIM_CFG_KIND 31, 1), (Fd.LIM_CFG_SCOPE 31, 47), (Fd.LIM_CFG_ACTION 31, 4), (Fd.LIM_CFG_PERSIST 31, 0)]).setLimP 31 ⟨some 0, false, none⟩

def at_DieAndLimitSequencesStart_8 : State :=
  (sets (base 4) [(Fd.LIM_CFG_KIND 31, 1), (Fd.LIM_CFG_SCOPE 31, 47), (Fd.LIM_CFG_ACTION 31, 0), (Fd.LIM_CFG_PERSIST 31, 0)]).setLimP 31 ⟨some 0, false, none⟩

def at_DieAndLimitSequencesStart_11 : State :=
  (sets (base 4) [(Fd.LIM_CFG_KIND 31, 1), (Fd.LIM_CFG_SCOPE 31, 47), (Fd.LIM_CFG_ACTION 31, 1), (Fd.LIM_CFG_PERSIST 31, 0)]).setLimP 31 ⟨some 0, false, none⟩

def at_DieAndLimitSequencesStart_12 : State :=
  (sets (base 4) [(Fd.LIM_CFG_KIND 31, 1), (Fd.LIM_CFG_SCOPE 31, 254), (Fd.LIM_CFG_ACTION 31, 1), (Fd.LIM_CFG_PERSIST 31, 0)]).setLimP 31 ⟨some 0, false, none⟩

def at_DieAndLimitSequencesStart_13 : State :=
  (sets (base 4) [(Fd.LIM_CFG_KIND 0, 1), (Fd.LIM_CFG_SCOPE 0, 0xFE), (Fd.LIM_CFG_PERSIST 0, 0)]).setLimP 0 ⟨some 0, false, none⟩

/-- Every clause of FlowDieAndLimitSequencesStart has a state and operands that meet its hypotheses. -/
theorem witness_FlowDieAndLimitSequencesStart :
    (∃ (s : State), s.rd Reg.PRT_QNOM ≠ 0 ∧ s.fld Fd.PRT_FLOW_SRC_KIND ≠ 0 ∧ s.fellSudden s.prt.flow (s.rd Reg.PRT_QNOM).toNat = true ∧ s.prt.sudTold = false ∧ s.on Fd.PRT_CTRL_FC_SUDDEN = false ∧ s.loopActive 4 = false ∧ ((s.listed (Reg.RK_FLOWSRC 0) 0x40 48).all (fun r => s.fld (Fd.RK_FLOWSRC_SUP_KIND r) == 0) = true)) ∧
    (∃ (s : State), (s.rd Reg.PRT_QNOM = 0 ∨ s.fld Fd.PRT_FLOW_SRC_KIND = 0 ∨ s.fellSudden s.prt.flow (s.rd Reg.PRT_QNOM).toNat = false) ∧ ((s.listed (Reg.RK_FLOWSRC 0) 0x40 48).all (fun r => s.fld (Fd.RK_FLOWSRC_SUP_KIND r) == 0) = true)) ∧
    (∃ (s : State) (l : List Int), { s with prt := { s.prt with qs := (s.prt.flow.mean 0 100 :: s.prt.qs).take 100 } }.lastQs = some l) ∧
    (∃ (s : State) (d : Digest), s.stm.digest = some d) ∧
    (∃ (s : State), s.stm.digest = none) ∧
    (∃ (rack : Fin 48) (s : State), (s.hardAccs rack = [] ∨ s.on Fd.PRT_STAT_DIGEST_LOST = true)) ∧
    (∃ (rack : Fin 48) (s : State), s.hardAccs rack ≠ [] ∧ s.on Fd.PRT_STAT_DIGEST_LOST = false) ∧
    (∃ (s : State), 3 ≤ s.prt.missed ∧ s.on Fd.PRT_STAT_DIGEST_LOST = false) ∧
    (∃ (s : State), (s.prt.missed < 3 ∨ s.on Fd.PRT_STAT_DIGEST_LOST = true)) ∧
    (∃ (e : Fin 32) (s : State), (e.val = 0 ∨ 48 ≤ s.fld (Fd.LIM_CFG_SCOPE e) ∨ s.limHardDue e = false)) ∧
    (∃ (e : Fin 32) (s : State), e.val ≠ 0 ∧ s.fld (Fd.LIM_CFG_SCOPE e) < 48 ∧ s.limHardDue e = true ∧ s.fld (Fd.LIM_CFG_ACTION e) = 4) ∧
    (∃ (e : Fin 32) (s : State), e.val ≠ 0 ∧ s.fld (Fd.LIM_CFG_SCOPE e) < 48 ∧ s.limHardDue e = true ∧ s.fld (Fd.LIM_CFG_ACTION e) = 0) ∧
    (∃ (e : Fin 32) (s : State), (e.val = 0 ∨ s.fld (Fd.LIM_CFG_SCOPE e) ≠ 0xFE ∨ s.limHardDue e = false)) ∧
    (∃ (s : State), s.limHardDue 0 = false) ∧
    (∃ (e : Fin 32) (s : State), e.val ≠ 0 ∧ s.fld (Fd.LIM_CFG_SCOPE e) < 48 ∧ s.limHardDue e = true ∧ s.fld (Fd.LIM_CFG_ACTION e) ≠ 0) ∧
    (∃ (e : Fin 32) (s : State), e.val ≠ 0 ∧ s.fld (Fd.LIM_CFG_SCOPE e) = 0xFE ∧ s.limHardDue e = true ∧ s.fld (Fd.LIM_CFG_ACTION e) ≠ 0) ∧
    (∃ (s : State), s.limHardDue 0 = true) :=
  ⟨⟨at_FlowSequencesStart_0, (by decide +kernel), (by decide +kernel), (by decide +kernel), (by decide +kernel), (by decide +kernel), (by decide +kernel), (by decide +kernel)⟩,
   ⟨at_FlowSequencesStart_1, (by decide +kernel), (by decide +kernel)⟩,
   ⟨at_FlowSequencesStart_2, (List.replicate 100 1000), (by decide +kernel)⟩,
   ⟨at_DieAndLimitSequencesStart_0, (⟨5, 0, 1, [(3, 100)]⟩), (by decide +kernel)⟩,
   ⟨(base 4), (by decide +kernel)⟩,
   ⟨(47), (base 4), (by decide +kernel)⟩,
   ⟨(47), at_DieAndLimitSequencesStart_3, (by decide +kernel), (by decide +kernel)⟩,
   ⟨at_DieAndLimitSequencesStart_4, (by decide +kernel), (by decide +kernel)⟩,
   ⟨(base 4), (by decide +kernel)⟩,
   ⟨(31), (base 4), (by decide +kernel)⟩,
   ⟨(31), at_DieAndLimitSequencesStart_7, (by decide +kernel), (by decide +kernel), (by decide +kernel), (by decide +kernel)⟩,
   ⟨(31), at_DieAndLimitSequencesStart_8, (by decide +kernel), (by decide +kernel), (by decide +kernel), (by decide +kernel)⟩,
   ⟨(31), (base 4), (by decide +kernel)⟩,
   ⟨(base 4), (by decide +kernel)⟩,
   ⟨(31), at_DieAndLimitSequencesStart_11, (by decide +kernel), (by decide +kernel), (by decide +kernel), (by decide +kernel)⟩,
   ⟨(31), at_DieAndLimitSequencesStart_12, (by decide +kernel), (by decide +kernel), (by decide +kernel), (by decide +kernel)⟩,
   ⟨at_DieAndLimitSequencesStart_13, (by decide +kernel)⟩⟩

def at_ProtectionEndsAndAnswers_0 : State :=
  sets (base 7) [(Fd.RK_ACT_ACTIVE 47, 64), (Fd.SYS_STATE_RETURN, 4)]

def at_ProtectionEndsAndAnswers_1 : State :=
  sets (base 7) [(Fd.PRT_LOOPSTAT_ACTIVE, 32), (Fd.SYS_STATE_RETURN, 4)]

def at_ProtectionEndsAndAnswers_2 : State :=
  sets (base 7) [(Fd.RK_ACT_ACTIVE 47, 64), (Fd.RK_ACT_ACK_REQ 47, 64)]

def at_ProtectionEndsAndAnswers_3 : State :=
  base 7

def at_ProtectionEndsAndAnswers_7 : State :=
  sets (base 4) [(Fd.PRT_LOOPSTAT_ACK_REQ, 2)]

def at_ProtectionEndsAndAnswers_8 : State :=
  sets (base 4) [(Fd.PRT_LOOPSTAT_ACK_REQ, 2), (Fd.RK_ACT_ACK_REQ 47, 2), (Fd.LIM_STAT_ACK_REQ 31, 1)]

def at_ProtectionEndsAndAnswers_9 : State :=
  { sets (base 4) [(Fd.RK_OUT_POWEROFF 47, 1)] with clk := { (base 4).clk with now := 100000 } }

def at_ProtectionEndsAndAnswers_10 : State :=
  { { sets (base 8) [(Fd.PRT_STAT_FULLCOOL, 1), (Fd.SYS_STATE_RETURN, 4), (Fd.PRT_FC_CFG_FC_MIN, 1)] with prt := { (base 4).prt with fcAuto := some 0 } } with clk := { (base 4).clk with now := 100000 } }

def at_ProtectionEndsAndAnswers_11 : State :=
  sets (base 4) [(Fd.RK_ACT_ACK_REQ 47, 2), (Fd.RK_ACT_ACTIVE 47, 2)]

def at_ProtectionEndsAndAnswers_12 : State :=
  sets (base 4) [(Fd.LIM_STAT_ACK_REQ 31, 1)]

/-- Every clause of ProtectionEndsAndAnswers has a state and operands that meet its hypotheses. -/
theorem witness_ProtectionEndsAndAnswers :
    (∃ (r : Fin 48) (b : Fin 8) (s : State), s.rackActive r b = true ∧ bitOf (s.fld (Fd.RK_ACT_ACK_REQ r)) b = false ∧ s.rackEnds r b = true) ∧
    (∃ (b : Fin 7) (s : State), s.loopActive b = true ∧ bitOf (s.fld Fd.PRT_LOOPSTAT_ACK_REQ) b = false ∧ s.loopEnds b = true) ∧
    (∃ (r : Fin 48) (b : Fin 8) (s : State), (s.rackActive r b = false ∨ bitOf (s.fld (Fd.RK_ACT_ACK_REQ r)) b = true ∨ s.rackEnds r b = false)) ∧
    (∃ (b : Fin 7) (s : State), (s.loopActive b = false ∨ bitOf (s.fld Fd.PRT_LOOPSTAT_ACK_REQ) b = true ∨ s.loopEnds b = false)) ∧
    (∃ (rack : Fin 48) (s : State), (s.on (Fd.RK_OUT_POWEROFF rack) = false ∨ s.mainAbsent = true ∨ s.clk.now < (s.rackP rack).noticeAt + sTicks 1)) ∧
    (∃ (s : State), (s.on Fd.PRT_STAT_FULLCOOL = false ∨ s.on Fd.PRT_STAT_FC_CMD = true ∨ s.prt.fcAuto = none ∨ s.fcAutoOver = false)) ∧
    (∃ (w : Fin 8) (i : Fin 256) (s : State), s.WriteTaken w Reg.PRT_ACK (BitVec.ofNat 32 (512 + i)) (crossPrt s Reg.PRT_ACK (BitVec.ofNat 32 (512 + i)))) ∧
    (∃ (w : Fin 8) (s : State), s.WriteTaken w Reg.PRT_ACK 256 (crossPrt s Reg.PRT_ACK 256)) ∧
    (∃ (w : Fin 8) (value : Word) (s : State), s.WriteTaken w Reg.PRT_ACK value (crossPrt s Reg.PRT_ACK value) ∧ fieldOf value 31 1 = 1) ∧
    (∃ (rack : Fin 48) (s : State), s.on (Fd.RK_OUT_POWEROFF rack) = true ∧ s.mainAbsent = false ∧ (s.rackP rack).noticeAt + sTicks 1 ≤ s.clk.now) ∧
    (∃ (s : State), s.on Fd.PRT_STAT_FULLCOOL = true ∧ s.on Fd.PRT_STAT_FC_CMD = false ∧ s.prt.fcAuto.isSome = true ∧ s.fcAutoOver = true) ∧
    (∃ (w : Fin 8) (r : Fin 48) (s : State), s.WriteTaken w Reg.PRT_ACK (BitVec.ofNat 32 r) (crossPrt s Reg.PRT_ACK (BitVec.ofNat 32 r))) ∧
    (∃ (w : Fin 8) (e : Fin 32) (s : State), s.WriteTaken w Reg.PRT_ACK (BitVec.ofNat 32 (768 + e)) (crossPrt s Reg.PRT_ACK (BitVec.ofNat 32 (768 + e)))) :=
  ⟨⟨(47), (6), at_ProtectionEndsAndAnswers_0, (by decide +kernel), (by decide +kernel), (by decide +kernel)⟩,
   ⟨(5), at_ProtectionEndsAndAnswers_1, (by decide +kernel), (by decide +kernel), (by decide +kernel)⟩,
   ⟨(47), (6), at_ProtectionEndsAndAnswers_2, (by decide +kernel)⟩,
   ⟨(5), at_ProtectionEndsAndAnswers_3, (by decide +kernel)⟩,
   ⟨(47), (base 4), (by decide +kernel)⟩,
   ⟨(base 4), (by decide +kernel)⟩,
   ⟨(0), (143), (base 4), taken_of _ _ _ _ _ (by decide +kernel)⟩,
   ⟨(0), at_ProtectionEndsAndAnswers_7, taken_of _ _ _ _ _ (by decide +kernel)⟩,
   ⟨(0), (0x80000000), at_ProtectionEndsAndAnswers_8, taken_of _ _ _ _ _ (by decide +kernel), (by decide +kernel)⟩,
   ⟨(47), at_ProtectionEndsAndAnswers_9, (by decide +kernel), (by decide +kernel), (by decide +kernel)⟩,
   ⟨at_ProtectionEndsAndAnswers_10, (by decide +kernel), (by decide +kernel), (by decide +kernel), (by decide +kernel)⟩,
   ⟨(0), (47), at_ProtectionEndsAndAnswers_11, taken_of _ _ _ _ _ (by decide +kernel)⟩,
   ⟨(0), (31), at_ProtectionEndsAndAnswers_12, taken_of _ _ _ _ _ (by decide +kernel)⟩⟩

def at_ProtectiveCommandsAct_1 : State :=
  base 2

def at_ProtectiveCommandsAct_8 : State :=
  sets (base 8) [(Fd.PRT_STAT_FULLCOOL, 1), (Fd.PRT_STAT_FC_CMD, 1), (Fd.SYS_STATE_RETURN, 4)]

def at_ProtectiveCommandsAct_11 : State :=
  sets (base 4) [(Fd.RK_ACT_ACK_REQ 47, 2)]

/-- Every clause of ProtectiveCommandsAct has a state and operands that meet its hypotheses. -/
theorem witness_ProtectiveCommandsAct :
    (∃ (q : Req) (s : State) (k : Nat) (u : State), s.Reaches q k u ∧ (judgeProt 0x31 0 0 k u).first { q with defer := false } u = none ∧ s.drives = true) ∧
    (∃ (q : Req) (s : State) (k : Nat) (u : State), s.Reaches q k u ∧ (judgeProt 0x31 0 0 k u).first { q with defer := false } u = none ∧ s.drives = false) ∧
    (∃ (q : Req) (rack : Byte) (s : State) (k : Nat) (u : State), s.Reaches q k u ∧ (judgeProt 0x33 1 rack.toNat k u).first { q with defer := false } u = none ∧ s.drives = false) ∧
    (∃ (q : Req) (rack : Byte) (s : State) (k : Nat) (u : State), s.Reaches q k u ∧ (judgeProt 0x34 2 rack.toNat k u).first { q with defer := false } u = none ∧ s.drives = false) ∧
    (∃ (q : Req) (index : Word) (s : State) (k : Nat) (u : State), s.Reaches q k u ∧ (judgeAck 1 index k u).first q u = none) ∧
    (∃ (q : Req) (index : Word) (s : State) (k : Nat) (u : State), s.Reaches q k u ∧ (judgeAck 2 index k u).first q u = none) ∧
    (∃ (q : Req) (index : Word) (s : State) (k : Nat) (u : State), s.Reaches q k u ∧ (judgeAck 3 index k u).first q u = none) ∧
    (∃ (q : Req) (index : Word) (s : State) (k : Nat) (u : State), s.Reaches q k u ∧ (judgeAck 5 index k u).first q u = none) ∧
    (∃ (q : Req) (s : State) (k : Nat) (u : State), s.Reaches q k u ∧ (judgeFcExit k u).first q u = none) ∧
    (∃ (q : Req) (rack : Byte) (s : State) (k : Nat) (u : State), s.Reaches q k u ∧ (judgeProt 0x33 1 rack.toNat k u).first { q with defer := false } u = none ∧ s.drives = true) ∧
    (∃ (q : Req) (rack : Byte) (s : State) (k : Nat) (u : State), s.Reaches q k u ∧ (judgeProt 0x34 2 rack.toNat k u).first { q with defer := false } u = none ∧ s.drives = true) ∧
    (∃ (q : Req) (index : Word) (s : State) (k : Nat) (u : State), s.Reaches q k u ∧ (judgeAck 0 index k u).first q u = none) ∧
    (∃ (q : Req) (index : Word) (s : State) (k : Nat) (u : State), s.Reaches q k u ∧ (judgeAck 4 index k u).first q u = none) ∧
    (∃ (q : Req) (loop : Byte) (value : Word) (s : State) (k : Nat) (u : State), s.Reaches q k u ∧ (judgeSetpoint loop value k u).first q u = none) :=
  ⟨⟨(req), (base 4), (0), (judged (base 4) (req) (0)), reaches_of (base 4) (req) (0) (by decide +kernel), (by decide +kernel), (by decide +kernel)⟩,
   ⟨(req), at_ProtectiveCommandsAct_1, (0), (judged at_ProtectiveCommandsAct_1 (req) (0)), reaches_of at_ProtectiveCommandsAct_1 (req) (0) (by decide +kernel), (by decide +kernel), (by decide +kernel)⟩,
   ⟨(req), (47), at_ProtectiveCommandsAct_1, (0), (judged at_ProtectiveCommandsAct_1 (req) (0)), reaches_of at_ProtectiveCommandsAct_1 (req) (0) (by decide +kernel), (by decide +kernel), (by decide +kernel)⟩,
   ⟨(req), (0), at_ProtectiveCommandsAct_1, (0), (judged at_ProtectiveCommandsAct_1 (req) (0)), reaches_of at_ProtectiveCommandsAct_1 (req) (0) (by decide +kernel), (by decide +kernel), (by decide +kernel)⟩,
   ⟨(req), (0), at_ProtectionEndsAndAnswers_7, (0), (judged at_ProtectionEndsAndAnswers_7 (req) (0)), reaches_of at_ProtectionEndsAndAnswers_7 (req) (0) (by decide +kernel), (by decide +kernel)⟩,
   ⟨(req), (143), (base 4), (0), (judged (base 4) (req) (0)), reaches_of (base 4) (req) (0) (by decide +kernel), (by decide +kernel)⟩,
   ⟨(req), (31), at_ProtectionEndsAndAnswers_12, (0), (judged at_ProtectionEndsAndAnswers_12 (req) (0)), reaches_of at_ProtectionEndsAndAnswers_12 (req) (0) (by decide +kernel), (by decide +kernel)⟩,
   ⟨(req), (0), at_ProtectionEndsAndAnswers_7, (0), (judged at_ProtectionEndsAndAnswers_7 (req) (0)), reaches_of at_ProtectionEndsAndAnswers_7 (req) (0) (by decide +kernel), (by decide +kernel)⟩,
   ⟨(req), at_ProtectiveCommandsAct_8, (0), (judged at_ProtectiveCommandsAct_8 (req) (0)), reaches_of at_ProtectiveCommandsAct_8 (req) (0) (by decide +kernel), (by decide +kernel)⟩,
   ⟨(req), (47), (base 4), (0), (judged (base 4) (req) (0)), reaches_of (base 4) (req) (0) (by decide +kernel), (by decide +kernel), (by decide +kernel)⟩,
   ⟨(req), (0), (base 4), (0), (judged (base 4) (req) (0)), reaches_of (base 4) (req) (0) (by decide +kernel), (by decide +kernel), (by decide +kernel)⟩,
   ⟨(req), (47), at_ProtectiveCommandsAct_11, (0), (judged at_ProtectiveCommandsAct_11 (req) (0)), reaches_of at_ProtectiveCommandsAct_11 (req) (0) (by decide +kernel), (by decide +kernel)⟩,
   ⟨(req), (262143), (base 4), (0), (judged (base 4) (req) (0)), reaches_of (base 4) (req) (0) (by decide +kernel), (by decide +kernel)⟩,
   ⟨(req), (127), (0xFFFFFFFF), (base 4), (0), (judged (base 4) (req) (0)), reaches_of (base 4) (req) (0) (by decide +kernel), (by decide +kernel)⟩⟩

def at_CanBusesChangeMode_0 : State :=
  sets (base 3) [(Fd.BUS_ERRC_TEC 7, 5), (Fd.BUS_STAT_ESTATE 7, 1)]

def at_CanBusesChangeMode_1 : State :=
  sets (base 3) [(Fd.BUS_CTRL_MODE 7, 0), (Fd.BUS_STAT_AUTO_FAIL 7, 1)]

def at_CanBusesChangeMode_2 : State :=
  { sets (base 3) [(Fd.BUS_CTRL_MODE 7, 1), (Fd.BUS_STAT_ESTATE 7, 2), (Fd.BUS_STAT_BOFF_LOCK 7, 1)] with can := { (base 3).can with recovering := [7] } }

def at_CanBusesChangeMode_3 : State :=
  { sets (base 4) [(Fd.BUS_CTRL_MODE 3, 3)] with can := { (base 4).can with auto := [(3, ⟨50, 3, 100, false, 0, false⟩)] }, clk := { (base 4).clk with now := 5100 } }

def at_CanBusesChangeMode_4 : State :=
  { sets (base 4) [(Fd.BUS_CTRL_MODE 3, 3), (Fd.BUS_AUTO_AUTO_TMO 3, 1)] with can := { (base 4).can with auto := [(3, ⟨50, 3, 100, false, 0, false⟩)] }, clk := { (base 4).clk with now := 105100 } }

def at_CanBusesChangeMode_5 : State :=
  { sets (base 4) [(Fd.BUS_CTRL_MODE 3, 3), (Fd.BUS_AUTO_AUTO_TMO 3, 1)] with can := { (base 4).can with auto := [(3, ⟨50, 2, 100, true, 0, false⟩)] }, clk := { (base 4).clk with now := 105100 } }

def at_CanErrorsAndProfilesAct_0 : State :=
  sets (base 4) [(Fd.BUS_CTRL_MODE 7, 1)]

def at_CanErrorsAndProfilesAct_1 : State :=
  { sets (base 4) [(Fd.BUS_CTRL_MODE 7, 1)] with clk := { (base 4).clk with now := 500 }, can := { (base 4).can with boffs := [(7, List.replicate 8 490)] } }

def at_CanErrorsAndProfilesAct_2 : State :=
  { sets (base 4) [(Fd.BUS_CTRL_MODE 7, 1), (Fd.BUS_STAT_ESTATE 7, 2), (Fd.BUS_CTRL_AUTO_REC 7, 1), (Fd.BUS_CTRL_REC_DLY 7, 1)] with clk := { (base 4).clk with now := 10400 }, can := { (base 4).can with boffs := [(7, [400])] } }

def at_CanErrorsAndProfilesAct_3 : State :=
  { sets (base 4) [(Fd.BUS_CTRL_MODE 7, 1), (Fd.BUS_STAT_ESTATE 7, 2), (Fd.BUS_ERRC_TEC 7, 5)] with can := { (base 4).can with recovering := [6, 7] } }

def at_CanErrorsAndProfilesAct_4 : State :=
  { sets (base 4) [(Fd.CAN_PODQ_KIND 255, 1), (Fd.CAN_PODQ_TMO 255, 1)] with clk := { (base 4).clk with now := 1400 }, can := { (base 4).can with podAt := [(255, 400)] } }

def at_CanErrorsAndProfilesAct_5 : State :=
  { sets (base 4) [(Fd.PMP_CFG_MODE 3, 3), (Fd.DRV_CFG_PERIOD 3, 1), (Fd.DRV_CFG_BUS 3, 5)] with clk := { (base 4).clk with now := 1400, tcnt := 203 } }

def at_CanErrorsAndProfilesAct_6 : State :=
  { sets (base 4) [(Fd.PMP_CFG_MODE 3, 3), (Fd.DRV_CFG_TMO 3, 100), (Fd.DRV_CFG_BUS 3, 5)] with clk := { (base 4).clk with now := 10400 } }

/-- Every clause of CanBusesChangeModeAndRecover has a state and operands that meet its hypotheses. -/
theorem witness_CanBusesChangeModeAndRecover :
    (∃ (w : Fin 8) (b : Fin 8) (value : Word) (s : State), s.WriteTaken w (Reg.BUS_CTRL b) value (crossCan s (Reg.BUS_CTRL b) value) ∧ fieldOf value 0 3 = 1 ∧ s.busMode b ≠ 1 ∧ s.busState b = 1) ∧
    (∃ (w : Fin 8) (b : Fin 8) (value : Word) (s : State), s.WriteTaken w (Reg.BUS_CTRL b) value (crossCan s (Reg.BUS_CTRL b) value) ∧ fieldOf value 0 3 = 3 ∧ s.busMode b = 0) ∧
    (∃ (w : Fin 8) (b : Fin 8) (value : Word) (s : State), s.WriteTaken w (Reg.BUS_CTRL b) value (crossCan s (Reg.BUS_CTRL b) value) ∧ fieldOf value 0 3 = 0 ∧ s.busMode b ≠ 0) ∧
    (∃ (b : Fin 8) (s : State) (x : AutoDetect), Tab.find s.can.auto b = some x ∧ x.kept = false ∧ x.since + msTicks 50 ≤ s.clk.now) ∧
    (∃ (b : Fin 8) (s : State) (x : AutoDetect), Tab.find s.can.auto b = some x ∧ x.start + msTicks (100 * s.fld (Fd.BUS_AUTO_AUTO_TMO b)) ≤ s.clk.now ∧ (x.kept = false ∨ x.tried = true)) ∧
    (∃ (b : Fin 8) (s : State) (x : AutoDetect), Tab.find s.can.auto b = some x ∧ x.start + msTicks (100 * s.fld (Fd.BUS_AUTO_AUTO_TMO b)) ≤ s.clk.now ∧ x.kept = true ∧ x.tried = false) ∧
    (∃ (b : Fin 8) (tec rcv : Fin 512) (frames : Nat) (s : State), s.canMode b ≠ 0 ∧ s.busState b = 0 ∧ tec.val < 256 ∧ (128 ≤ tec.val ∨ 128 ≤ rcv.val)) ∧
    (∃ (b : Fin 8) (tec rcv : Fin 512) (frames : Nat) (s : State), s.canMode b ≠ 0 ∧ s.busState b ≠ 2 ∧ 256 ≤ tec.val) ∧
    (∃ (b : Fin 8) (s : State) (x : Nat), s.busState b = 2 ∧ s.on (Fd.BUS_CTRL_AUTO_REC b) = true ∧ s.on (Fd.BUS_STAT_BOFF_LOCK b) = false ∧ s.can.recovering.contains b.val = false ∧ (Tab.at [] s.can.boffs b).head? = some x ∧ x + msTicks (100 * s.fld (Fd.BUS_CTRL_REC_DLY b)) ≤ s.clk.now) ∧
    (∃ (b : Fin 8) (s : State), s.can.recovering.contains b.val = true) ∧
    (∃ (q : Fin 256) (s : State) (x : Nat), s.fld (Fd.CAN_PODQ_KIND q) ≠ 0 ∧ Tab.find s.can.podAt q = some x ∧ x + msTicks (10 * s.fld (Fd.CAN_PODQ_TMO q)) ≤ s.clk.now) ∧
    (∃ (s : State), s.drives = true ∧ (List.range 8).filter s.driveDue = [3] ∧ Tab.find s.can.tx (128 * s.fld (Fd.DRV_CFG_BUS 3) + 7) = none) ∧
    (∃ (p : Fin 8) (s : State), s.fld (Fd.PMP_CFG_MODE p) = 3 ∧ s.on (Fd.DRV_STAT_LOST p) = false ∧ Tab.at 0 s.can.drvAt p + msTicks (s.fld (Fd.DRV_CFG_TMO p)) ≤ s.clk.now ∧ s.pumpDriven p = false) :=
  ⟨⟨(0), (7), (1), at_CanBusesChangeMode_0, taken_of _ _ _ _ _ (by decide +kernel), (by decide +kernel), (by decide +kernel), (by decide +kernel)⟩,
   ⟨(0), (7), (3), at_CanBusesChangeMode_1, taken_of _ _ _ _ _ (by decide +kernel), (by decide +kernel), (by decide +kernel)⟩,
   ⟨(0), (7), (0), at_CanBusesChangeMode_2, taken_of _ _ _ _ _ (by decide +kernel), (by decide +kernel), (by decide +kernel)⟩,
   ⟨(3), at_CanBusesChangeMode_3, (⟨50, 3, 100, false, 0, false⟩), (by decide +kernel), (by decide +kernel), (by decide +kernel)⟩,
   ⟨(3), at_CanBusesChangeMode_4, (⟨50, 3, 100, false, 0, false⟩), (by decide +kernel), (by decide +kernel), (by decide +kernel)⟩,
   ⟨(3), at_CanBusesChangeMode_5, (⟨50, 2, 100, true, 0, false⟩), (by decide +kernel), (by decide +kernel), (by decide +kernel), (by decide +kernel)⟩,
   ⟨(7), (5), (200), (3), at_CanErrorsAndProfilesAct_0, (by decide +kernel), (by decide +kernel), (by decide +kernel), (by decide +kernel)⟩,
   ⟨(7), (256), (20), (3), at_CanErrorsAndProfilesAct_1, (by decide +kernel), (by decide +kernel), (by decide +kernel)⟩,
   ⟨(7), at_CanErrorsAndProfilesAct_2, (400), (by decide +kernel), (by decide +kernel), (by decide +kernel), (by decide +kernel), (by decide +kernel), (by decide +kernel)⟩,
   ⟨(7), at_CanErrorsAndProfilesAct_3, (by decide +kernel)⟩,
   ⟨(255), at_CanErrorsAndProfilesAct_4, (400), (by decide +kernel), (by decide +kernel), (by decide +kernel)⟩,
   ⟨at_CanErrorsAndProfilesAct_5, (by decide +kernel), (by decide +kernel), (by decide +kernel)⟩,
   ⟨(3), at_CanErrorsAndProfilesAct_6, (by decide +kernel), (by decide +kernel), (by decide +kernel), (by decide +kernel)⟩⟩

def at_CanFramesAreReceived_0 : State :=
  (sets (base 4) [(Fd.BUS_CTRL_MODE 2, 1), (Fd.OBJ_CFG_EN 2 20, 1), (Fd.OBJ_CFG_FDF 2 20, 1)]).wr (Reg.OBJ_ID 2 20) 0x123

def at_CanFramesAreReceived_1 : State :=
  sets (base 4) [(Fd.BUS_CTRL_MODE 2, 1)]

def at_CanFramesAreReceived_2 : State :=
  { sets (base 4) [(Fd.BUS_CTRL_MODE 2, 3)] with can := { (base 4).can with auto := [(2, ⟨50, 1, 100, true, 0, false⟩)] } }

def at_CanFramesAreSent_0 : State :=
  (sets (base 4) [(Fd.BUS_CTRL_MODE 7, 1), (Fd.OBJ_CFG_EN 7 127, 1), (Fd.OBJ_CFG_DIR 7 127, 1), (Fd.OBJ_CFG_DLC 7 127, 8)]).wr (Reg.OBJ_ID 7 127) 0x123

def at_CanFramesAreSent_1 : State :=
  { sets (base 4) [(Fd.BUS_CTRL_MODE 7, 1), (Fd.OBJ_CFG_EN 7 127, 1), (Fd.OBJ_CFG_DIR 7 127, 1), (Fd.OBJ_STAT_TXPEND 7 127, 1)] with can := { (base 4).can with tx := [(1023, ⟨⟨0x123, false, false, false, false, false, 0, []⟩, 4⟩)] } }

def at_CanFramesAreSent_3 : State :=
  { sets (base 4) [(Fd.BUS_CTRL_MODE 7, 1), (Fd.OBJ_CFG_EN 7 127, 1), (Fd.OBJ_CFG_DIR 7 127, 1), (Fd.OBJ_CFG_SSHOT 7 127, 1), (Fd.OBJ_STAT_TXPEND 7 127, 1)] with can := { (base 4).can with tx := [(1023, ⟨⟨0x123, false, false, false, false, false, 0, []⟩, 4⟩)] } }

/-- Every clause of CanFramesAreReceivedAndSent has a state and operands that meet its hypotheses. -/
theorem witness_CanFramesAreReceivedAndSent :
    (∃ (b : Fin 8) (f : CanFrame) (missed : Nat) (s : State) (o : Nat), s.busHears b = true ∧ s.canMatch b f = some o ∧ Tab.find s.can.auto b = none) ∧
    (∃ (b : Fin 8) (f : CanFrame) (missed : Nat) (s : State), s.busHears b = true ∧ s.canMatch b f = none ∧ Tab.find s.can.auto b = none) ∧
    (∃ (b : Fin 8) (f : CanFrame) (missed : Nat) (s : State) (x : AutoDetect), s.busHears b = true ∧ s.canMatch b f = none ∧ Tab.find s.can.auto b = some x ∧ f.fdf = true ∧ f.brs = true ∧ x.kept = true) ∧
    (∃ (w : Fin 8) (b : Fin 8) (o : Fin 128) (s : State), s.WriteTaken w (Reg.OBJ_CMD b o) 1 (crossCan s (Reg.OBJ_CMD b o) 1) ∧ s.hostSends b o = true ∧ Tab.find s.can.tx (128 * b + o) = none) ∧
    (∃ (w : Fin 8) (b : Fin 8) (o : Fin 128) (started : Bool) (s : State) (x : TxPend), s.WriteTaken w (Reg.OBJ_CMD b o) 2 (crossCan s (Reg.OBJ_CMD b o) 2) ∧ s.hostSends b o = true ∧ Tab.find s.can.tx (128 * b + o) = some x ∧ started = false) ∧
    (∃ (b : Fin 8) (o : Fin 128) (r : TxOutcome) (s : State) (x : TxPend), r = .sent ∧ Tab.find s.can.tx (128 * b + o) = some x ∧ s.busSends b = true ∧ s.mayFinish b o x = true ∧ s.canMode b ≠ 4) ∧
    (∃ (b : Fin 8) (o : Fin 128) (r : TxOutcome) (s : State) (x : TxPend), r = .error ∧ Tab.find s.can.tx (128 * b + o) = some x ∧ s.busSends b = true ∧ s.mayFinish b o x = true ∧ s.on (Fd.OBJ_CFG_SSHOT b o) = true) :=
  ⟨⟨(2), (⟨0x123, false, true, false, false, false, 8, [1, 2, 3, 4, 5, 6, 7, 8]⟩), (0), at_CanFramesAreReceived_0, (20), (by decide +kernel), (by decide +kernel), (by decide +kernel)⟩,
   ⟨(2), (⟨0x123, false, true, false, false, false, 8, [1, 2, 3, 4, 5, 6, 7, 8]⟩), (0), at_CanFramesAreReceived_1, (by decide +kernel), (by decide +kernel), (by decide +kernel)⟩,
   ⟨(2), (⟨0x123, false, true, true, false, false, 8, [1, 2, 3, 4, 5, 6, 7, 8]⟩), (2), at_CanFramesAreReceived_2, (⟨50, 1, 100, true, 0, false⟩), (by decide +kernel), (by decide +kernel), (by decide +kernel), (by decide +kernel), (by decide +kernel)⟩,
   ⟨(0), (7), (127), at_CanFramesAreSent_0, taken_of _ _ _ _ _ (by decide +kernel), (by decide +kernel), (by decide +kernel)⟩,
   ⟨(0), (7), (127), (false), at_CanFramesAreSent_1, (⟨⟨0x123, false, false, false, false, false, 0, []⟩, 4⟩), taken_of _ _ _ _ _ (by decide +kernel), (by decide +kernel), (by decide +kernel), (by decide +kernel)⟩,
   ⟨(7), (127), (.sent), at_CanFramesAreSent_1, (⟨⟨0x123, false, false, false, false, false, 0, []⟩, 4⟩), (by decide +kernel), (by decide +kernel), (by decide +kernel), (by decide +kernel), (by decide +kernel)⟩,
   ⟨(7), (127), (.error), at_CanFramesAreSent_3, (⟨⟨0x123, false, false, false, false, false, 0, []⟩, 4⟩), (by decide +kernel), (by decide +kernel), (by decide +kernel), (by decide +kernel), (by decide +kernel)⟩⟩

def at_MembersAreHeard_2 : State :=
  sets (base 4) [(Fd.PAI_FED_CTRL_EN, 1), (Fd.PAI_STAT_ROLE, 2)]

def at_MembersAreHeard_3 : State :=
  sets (base 4) [(Fd.PAI_STAT_ROLE, 1)]

def at_MembersAreHeard_4 : State :=
  sets fedOne [(Fd.PORT_CFG_EN 0, 0)]

def at_MembersAreHeard_5 : State :=
  { fedOne with clk := { fedOne.clk with now := 500 }, fed := { fedOne.fed with mem := [(5, ⟨announce, 100, [(1, 100), (0, 450)]⟩)] } }

def at_MembersAreHeard_6 : State :=
  { fedOne with clk := { fedOne.clk with now := 500 } }

def at_MembersAreHeard_8 : State :=
  { sets fedOne [(Fd.MEM_STAT_FSTATE 5, 2), (Fd.MEM_STAT_STATE 5, 4), (Fd.PAI_FED_LOST_MS, 50)] with clk := { fedOne.clk with now := 5100 }, fed := { fedOne.fed with mem := [(5, ⟨announce, 100, [(1, 100)]⟩)] } }

def at_MembersAreHeard_12 : State :=
  { sets fedOne [(Fd.ACC_CFG_TDP 7, 900)] with stm := { fedOne.stm with row := [(7, 47)] } }

def at_MembersAreHeard_15 : State :=
  { fedOne with clk := { fedOne.clk with now := 100100 }, fed := { fedOne.fed with differ := some 100 } }

def at_TheBudgetIsAllocated_0 : State :=
  { sets fedOne [(Fd.PAI_FED_STAT_COORD, 0)] with clk := { fedOne.clk with now := 10100 }, fed := { fedOne.fed with selfFrom := some 100 } }

def at_TheBudgetIsAllocated_3 : State :=
  { fedOne with clk := { fedOne.clk with now := 10100 }, fed := { fedOne.fed with allocAt := some 100 } }

def at_TheBudgetIsAllocated_4 : State :=
  sets fedOne [(Fd.MEM_STAT_STATE 0, 3), (Fd.MEM_STAT_FSTATE 5, 2), (Fd.MEM_STAT_STATE 5, 4)]

def at_TheBudgetIsAllocated_8 : State :=
  { fedOne with clk := { fedOne.clk with now := 100100 }, fed := { fedOne.fed with allocAt := some 100 } }

def at_TheBudgetIsAllocated_9 : State :=
  { fedOne with fed := { fedOne.fed with adopt := [(7, ⟨5, ⟨9, 47, 900, 100, 0, []⟩⟩)], rseq := 3 } }

/-- Every clause of MembersAreHeardAndTheBudgetAllocated has a state and operands that meet its hypotheses. -/
theorem witness_MembersAreHeardAndTheBudgetAllocated :
    (∃ (s : State), s.fedOn = true ∧ (s.fed.annAt.all (fun x => decide (x + msTicks 10 ≤ s.clk.now)) = true)) ∧
    (∃ (s : State), (s.on Fd.PAI_FED_CTRL_EN = false ∨ s.fed.annAt.any (fun x => decide (s.clk.now < x + msTicks 10)) = true)) ∧
    (∃ (s : State), s.fedOn = false) ∧
    (∃ (c : Came) (a : FedAnnounce) (s : State), s.TakesCra c ∧ (s.on Fd.PAI_FED_CTRL_EN = false ∨ a.moduleId.val = s.myId ∧ (s.fedOn = false ∨ a.slot = s.sys.straps.slot))) ∧
    (∃ (c : Came) (a : FedAnnounce) (s : State), s.portTakes Fd.PORT_CFG_CRAORI c.port c.src c.row = false) ∧
    (∃ (c : Came) (a : FedAnnounce) (s : State) (x : Member) (y : Nat), s.TakesCra c ∧ s.on Fd.PAI_FED_CTRL_EN = true ∧ a.moduleId.val ≠ s.myId ∧ s.member? a.moduleId = some x ∧ Tab.find x.slotAt (1 - a.slot.val) = some y ∧ s.clk.now ≤ y + msTicks 100) ∧
    (∃ (c : Came) (a : FedAnnounce) (s : State), s.TakesCra c ∧ s.on Fd.PAI_FED_CTRL_EN = true ∧ a.moduleId.val ≠ s.myId ∧ ((s.member? a.moduleId).all (fun x => (Tab.find x.slotAt (1 - a.slot.val)).all (fun y => decide (y + msTicks 100 < s.clk.now))) = true)) ∧
    (∃ (c : Came) (a : FedAnnounce) (s : State), s.TakesCra c ∧ s.fedOn = true ∧ a.moduleId.val = s.myId ∧ a.slot ≠ s.sys.straps.slot) ∧
    (∃ (m : Fin 64) (s : State) (x : Member), s.member? m = some x ∧ s.on Fd.PAI_FED_CTRL_EN = true ∧ s.fld (Fd.MEM_STAT_FSTATE m) = 2 ∧ x.at_ + msTicks (s.fld Fd.PAI_FED_LOST_MS) ≤ s.clk.now ∧ m.val ≠ s.myId) ∧
    (∃ (m : Fin 64) (s : State), (s.on Fd.PAI_FED_CTRL_EN = false ∨ (s.member? m).all (fun x => decide (s.clk.now < x.at_ + msTicks (s.fld Fd.PAI_FED_LOST_MS))) = true ∨ s.fld (Fd.MEM_STAT_FSTATE m) = 0 ∨ s.fld (Fd.MEM_STAT_FSTATE m) = 3)) ∧
    (∃ (c : Came) (m : Fin 64) (map : List RowAcc) (s : State), s.TakesCra c ∧ (s.on Fd.PAI_FED_CTRL_EN = false ∨ s.mainAbsent = true ∨ m.val = s.myId)) ∧
    (∃ (c : Came) (m : Fin 64) (map : List RowAcc) (s : State), s.TakesCra c ∧ s.on Fd.PAI_FED_CTRL_EN = true ∧ s.mainAbsent = false ∧ m.val ≠ s.myId) ∧
    (∃ (s : State), s.fedOn = true ∧ s.mainAbsent = false ∧ (s.fed.mapAt.all (fun x => decide (x + sTicks 60 ≤ s.clk.now)) = true ∨ s.rowMap ≠ s.fed.mapSent)) ∧
    (∃ (s : State), (s.fedOn = false ∨ s.mainAbsent = true ∨ s.fed.mapAt.any (fun x => decide (s.clk.now < x + sTicks 60)) = true ∧ s.rowMap = s.fed.mapSent)) ∧
    (∃ (s : State), (s.fed.differ.all (fun x => decide (s.clk.now < x + sTicks 1)) = true)) ∧
    (∃ (s : State) (x : Nat), s.fed.differ = some x ∧ x + sTicks 1 ≤ s.clk.now) ∧
    (∃ (s : State) (x : Nat), s.fedOn = true ∧ s.fed.selfFrom = some x ∧ s.on Fd.PAI_FED_STAT_COORD = false ∧ x + msTicks 100 ≤ s.clk.now) ∧
    (∃ (s : State), (s.fedOn = false ∨ s.on Fd.PAI_FED_STAT_COORD = true ∨ s.fed.selfFrom.all (fun x => decide (s.clk.now < x + msTicks 100)) = true)) ∧
    (∃ (s : State), (s.fedOn = false ∨ s.on Fd.PAI_FED_STAT_COORD = false ∨ s.fed.allocAt.any (fun x => decide (s.clk.now < x + msTicks 100)) = true)) ∧
    (∃ (s : State), s.fedOn = true ∧ s.on Fd.PAI_FED_STAT_COORD = true ∧ (s.fed.allocAt.all (fun x => decide (x + msTicks 100 ≤ s.clk.now)) = true)) ∧
    (∃ (c : Came) (m : Fin 64) (effective : BitVec 64) (entries : List AllocEntry) (s : State) (e : AllocEntry), s.TakesCra c ∧ s.fedOn = true ∧ m.val ≠ s.myId ∧ s.coordinator = some m.val ∧ (entries.find? (fun x => x.m.val == s.myId) = some e)) ∧
    (∃ (c : Came) (m : Fin 64) (effective : BitVec 64) (entries : List AllocEntry) (s : State), s.TakesCra c ∧ (s.fedOn = false ∨ m.val = s.myId ∨ s.coordinator ≠ some m.val)) ∧
    (∃ (c : Came) (m : Fin 64) (effective : BitVec 64) (entries : List AllocEntry) (s : State), s.TakesCra c ∧ s.fedOn = true ∧ m.val ≠ s.myId ∧ s.coordinator = some m.val ∧ (entries.all (fun x => x.m.val != s.myId) = true)) ∧
    (∃ (s : State), (s.fedOn = false ∨ s.fld Fd.PAI_FED_STAT_FSTATE ≠ 2 ∨ s.fed.allocAt.all (fun x => decide (s.clk.now < x + sTicks 1)) = true)) ∧
    (∃ (s : State) (x : Nat), s.fedOn = true ∧ s.fld Fd.PAI_FED_STAT_FSTATE = 2 ∧ s.fed.allocAt = some x ∧ x + sTicks 1 ≤ s.clk.now) ∧
    (∃ (s : State) (x : Adopted), s.fedOn = true ∧ (s.fed.adopt.map (fun y => y.2) = [x]) ∧ (s.fed.redirAt.all (fun x => decide (x + sTicks 1 ≤ s.clk.now)) = true)) ∧
    (∃ (s : State), (s.fedOn = false ∨ s.fed.adopt = [] ∨ s.fed.redirAt.any (fun x => decide (s.clk.now < x + sTicks 1)) = true)) :=
  ⟨⟨fedOne, (by decide +kernel), (by decide +kernel)⟩,
   ⟨(base 4), (by decide +kernel)⟩,
   ⟨at_MembersAreHeard_2, (by decide +kernel)⟩,
   ⟨(came0), (announce), at_MembersAreHeard_3, cra_of _ _ (by decide +kernel), (by decide +kernel)⟩,
   ⟨(came0), (announce), at_MembersAreHeard_4, (by decide +kernel)⟩,
   ⟨(came0), (announce), at_MembersAreHeard_5, (⟨announce, 100, [(1, 100), (0, 450)]⟩), (450), cra_of _ _ (by decide +kernel), (by decide +kernel), (by decide +kernel), (by decide +kernel), (by decide +kernel), (by decide +kernel)⟩,
   ⟨(came0), (announce), at_MembersAreHeard_6, cra_of _ _ (by decide +kernel), (by decide +kernel), (by decide +kernel), (by decide +kernel)⟩,
   ⟨(came0), ({ announce with moduleId := 0 }), at_MembersAreHeard_6, cra_of _ _ (by decide +kernel), (by decide +kernel), (by decide +kernel), (by decide +kernel)⟩,
   ⟨(5), at_MembersAreHeard_8, (⟨announce, 100, [(1, 100)]⟩), (by decide +kernel), (by decide +kernel), (by decide +kernel), (by decide +kernel), (by decide +kernel)⟩,
   ⟨(5), fedOne, (by decide +kernel)⟩,
   ⟨(came0), (63), ([⟨4095, 47, 900, 100, 0, []⟩]), (base 4), cra_of _ _ (by decide +kernel), (by decide +kernel)⟩,
   ⟨(came0), (63), ([⟨4095, 47, 900, 100, 0, []⟩]), fedOne, cra_of _ _ (by decide +kernel), (by decide +kernel), (by decide +kernel), (by decide +kernel)⟩,
   ⟨at_MembersAreHeard_12, (by decide +kernel), (by decide +kernel), (by decide +kernel)⟩,
   ⟨(base 4), (by decide +kernel)⟩,
   ⟨(base 4), (by decide +kernel)⟩,
   ⟨at_MembersAreHeard_15, (100), (by decide +kernel), (by decide +kernel)⟩,
   ⟨at_TheBudgetIsAllocated_0, (100), (by decide +kernel), (by decide +kernel), (by decide +kernel), (by decide +kernel)⟩,
   ⟨fedOne, (by decide +kernel)⟩,
   ⟨(base 4), (by decide +kernel)⟩,
   ⟨at_TheBudgetIsAllocated_3, (by decide +kernel), (by decide +kernel), (by decide +kernel)⟩,
   ⟨(came0), (5), (9000), ([⟨5, 70, 80⟩, ⟨0, 30, 40⟩]), at_TheBudgetIsAllocated_4, (⟨0, 30, 40⟩), cra_of _ _ (by decide +kernel), (by decide +kernel), (by decide +kernel), (by decide +kernel), (by decide +kernel)⟩,
   ⟨(came0), (5), (9000), ([⟨5, 70, 80⟩, ⟨0, 30, 40⟩]), fedOne, cra_of _ _ (by decide +kernel), (by decide +kernel)⟩,
   ⟨(came0), (5), (9000), ([⟨5, 70, 80⟩]), at_TheBudgetIsAllocated_4, cra_of _ _ (by decide +kernel), (by decide +kernel), (by decide +kernel), (by decide +kernel), (by decide +kernel)⟩,
   ⟨fedOne, (by decide +kernel)⟩,
   ⟨at_TheBudgetIsAllocated_8, (100), (by decide +kernel), (by decide +kernel), (by decide +kernel), (by decide +kernel)⟩,
   ⟨at_TheBudgetIsAllocated_9, (⟨5, ⟨9, 47, 900, 100, 0, []⟩⟩), (by decide +kernel), (by decide +kernel), (by decide +kernel)⟩,
   ⟨fedOne, (by decide +kernel)⟩⟩

def at_FederationBarriersAreAgreed_5 : State :=
  { fedOne with fed := { fedOne.fed with bars := [⟨⟨15, 5, 9, 30000000⟩, [3], false, some 4⟩] } }

def at_FederationBarriersAreAgreed_6 : State :=
  { sets fedOne [(Fd.MEM_STAT_FSTATE 3, 2)] with clk := { fedOne.clk with mtime := 25000000 }, fed := { fedOne.fed with bars := [⟨⟨15, 5, 9, 30000000⟩, [3], false, some 4⟩] } }

def at_FederationBarriersAreAgreed_10 : State :=
  { sets fedOne [(Fd.AE_STAT_STATE 4, 1)] with clk := { fedOne.clk with mtime := 29000000 }, act := { fedOne.act with armed := [3, 4] }, fed := { fedOne.fed with bars := [⟨⟨15, 5, 9, 30000000⟩, [3], false, some 4⟩] } }

def at_FederationBarriersAreAgreed_13 : State :=
  { fedOne with clk := { fedOne.clk with now := 10100 }, fed := { fedOne.fed with lostAt := [(5, 100)] } }

/-- Every clause of FederationBarriersAreAgreed has a state and operands that meet its hypotheses. -/
theorem witness_FederationBarriersAreAgreed :
    (∃ (c : Option Came) (m : Fin 64) (b : BarrierMsg) (s : State) (n : Nat), c = none ∧ s.fedOn = true ∧ s.on Fd.PAI_FED_STAT_COORD = true ∧ diff64 b.at_ s.clk.mtime ≥ 20000000 ∧ s.fedBar b.id = none ∧ s.mainAbsent = false ∧ s.freeEntry = some n ∧ b.action.val ≠ actAdopt) ∧
    (∃ (c : Option Came) (m : Fin 64) (b : BarrierMsg) (s : State) (a : Came) (n : Nat), c = some a ∧ s.TakesCra a ∧ s.fedOn = true ∧ m.val ≠ s.myId ∧ s.coordinator = some m.val ∧ s.fedBar b.id = none ∧ s.mainAbsent = false ∧ 0 ≤ diff64 b.at_ s.clk.mtime ∧ s.freeEntry = some n ∧ b.action.val ≠ actAdopt) ∧
    (∃ (c : Option Came) (m : Fin 64) (b : BarrierMsg) (s : State) (a : Came), c = some a ∧ s.TakesCra a ∧ (s.fedOn = false ∨ m.val = s.myId ∨ s.coordinator ≠ some m.val ∨ (s.fedBar b.id).map (fun x => x.msg) = some b)) ∧
    (∃ (c : Option Came) (m : Fin 64) (b : BarrierMsg) (s : State), c = none ∧ (s.fedOn = false ∨ s.on Fd.PAI_FED_STAT_COORD = false ∨ diff64 b.at_ s.clk.mtime < 20000000 ∨ s.fedBar b.id ≠ none)) ∧
    (∃ (c : Came) (m : Fin 64) (id : Fin 16) (s : State), s.TakesCra c ∧ (s.on Fd.PAI_FED_STAT_COORD = false ∨ (s.fedBar id).all (fun x => decide (diff64 x.msg.at_ s.clk.mtime < 5000000) || x.acks.contains m.val) = true)) ∧
    (∃ (c : Came) (m : Fin 64) (id : Fin 16) (s : State) (x : FedBar), s.TakesCra c ∧ s.fedBar id = some x ∧ s.on Fd.PAI_FED_STAT_COORD = true ∧ diff64 x.msg.at_ s.clk.mtime ≥ 5000000 ∧ x.acks.contains m.val = false) ∧
    (∃ (id : Fin 16) (s : State) (x : FedBar), s.fedBar id = some x ∧ s.on Fd.PAI_FED_STAT_COORD = true ∧ x.confirmed = false ∧ diff64 x.msg.at_ s.clk.mtime ≤ 5000000 ∧ diff64 x.msg.at_ s.clk.mtime ≥ 1000000 ∧ (s.fedMembers.all (fun m => m == s.myId || x.acks.contains m) = true) ∧ s.portAbsent = false) ∧
    (∃ (id : Fin 16) (s : State), (s.on Fd.PAI_FED_STAT_COORD = false ∨ (s.fedBar id).all (fun x => x.confirmed || decide (5000000 < diff64 x.msg.at_ s.clk.mtime) || decide (diff64 x.msg.at_ s.clk.mtime < 1000000) || s.fedMembers.any (fun m => m != s.myId && !x.acks.contains m)) = true)) ∧
    (∃ (c : Came) (m : Fin 64) (id : Fin 16) (at_ : BitVec 64) (s : State), s.TakesCra c ∧ (s.coordinator ≠ some m.val ∨ (s.fedBar id).all (fun x => decide (x.msg.at_ ≠ at_)) = true ∨ diff64 at_ s.clk.mtime < 1000000)) ∧
    (∃ (c : Came) (m : Fin 64) (id : Fin 16) (at_ : BitVec 64) (s : State) (x : FedBar), s.TakesCra c ∧ s.fedBar id = some x ∧ s.coordinator = some m.val ∧ x.msg.at_ = at_ ∧ diff64 at_ s.clk.mtime ≥ 1000000) ∧
    (∃ (id : Fin 16) (s : State) (x : FedBar) (n : Nat), s.fedBar id = some x ∧ x.confirmed = false ∧ diff64 x.msg.at_ s.clk.mtime ≤ 1000000 ∧ x.entry = some n ∧ s.fld (Fd.AE_STAT_STATE n) = 1) ∧
    (∃ (id : Fin 16) (s : State), ((s.fedBar id).all (fun x => x.confirmed || decide (1000000 < diff64 x.msg.at_ s.clk.mtime)) = true)) ∧
    (∃ (m : Fin 64) (s : State), (s.fedOn = false ∨ s.on Fd.PAI_FED_STAT_COORD = false ∨ s.fedBar barAdopt ≠ none ∨ ((Tab.find s.fed.lostAt m).or (Tab.find s.fed.backAt m)).all (fun x => decide (s.clk.now < x + msTicks 100)) = true)) ∧
    (∃ (m : Fin 64) (s : State) (n x : Nat), s.fedOn = true ∧ s.on Fd.PAI_FED_STAT_COORD = true ∧ s.fedBar barAdopt = none ∧ (Tab.find s.fed.lostAt m).or (Tab.find s.fed.backAt m) = some x ∧ x + msTicks 100 ≤ s.clk.now ∧ s.mainAbsent = false ∧ s.freeEntry = some n) :=
  ⟨⟨(none), (0), (⟨7, 5, 9, 30000000⟩), fedOne, (0), (by decide +kernel), (by decide +kernel), (by decide +kernel), (by decide +kernel), (by decide +kernel), (by decide +kernel), (by decide +kernel), (by decide +kernel)⟩,
   ⟨(some came0), (5), (⟨7, 5, 9, 30000000⟩), at_TheBudgetIsAllocated_4, (came0), (0), (by first | decide +kernel | exact ⟨rfl, by decide +kernel⟩ | rfl), cra_of _ _ (by decide +kernel), (by decide +kernel), (by decide +kernel), (by decide +kernel), (by decide +kernel), (by decide +kernel), (by decide +kernel), (by decide +kernel), (by decide +kernel)⟩,
   ⟨(some came0), (5), (⟨7, 5, 9, 30000000⟩), fedOne, (came0), (by first | decide +kernel | exact ⟨rfl, by decide +kernel⟩ | rfl), cra_of _ _ (by decide +kernel), (by decide +kernel)⟩,
   ⟨(none), (0), (⟨7, 5, 9, 30000000⟩), (base 4), (by decide +kernel), (by decide +kernel)⟩,
   ⟨(came0), (63), (15), fedOne, cra_of _ _ (by decide +kernel), (by decide +kernel)⟩,
   ⟨(came0), (63), (15), at_FederationBarriersAreAgreed_5, (⟨⟨15, 5, 9, 30000000⟩, [3], false, some 4⟩), cra_of _ _ (by decide +kernel), (by decide +kernel), (by decide +kernel), (by decide +kernel), (by decide +kernel)⟩,
   ⟨(15), at_FederationBarriersAreAgreed_6, (⟨⟨15, 5, 9, 30000000⟩, [3], false, some 4⟩), (by decide +kernel), (by decide +kernel), (by decide +kernel), (by decide +kernel), (by decide +kernel), (by decide +kernel)⟩,
   ⟨(15), fedOne, (by decide +kernel)⟩,
   ⟨(came0), (0), (15), (30000000), fedOne, cra_of _ _ (by decide +kernel), (by decide +kernel)⟩,
   ⟨(came0), (0), (15), (30000000), at_FederationBarriersAreAgreed_5, (⟨⟨15, 5, 9, 30000000⟩, [3], false, some 4⟩), cra_of _ _ (by decide +kernel), (by decide +kernel), (by decide +kernel), (by decide +kernel), (by decide +kernel)⟩,
   ⟨(15), at_FederationBarriersAreAgreed_10, (⟨⟨15, 5, 9, 30000000⟩, [3], false, some 4⟩), (4), (by decide +kernel), (by decide +kernel), (by decide +kernel), (by decide +kernel), (by decide +kernel)⟩,
   ⟨(15), fedOne, (by decide +kernel)⟩,
   ⟨(5), fedOne, (by decide +kernel)⟩,
   ⟨(5), at_FederationBarriersAreAgreed_13, (0), (100), (by decide +kernel), (by decide +kernel), (by decide +kernel), (by decide +kernel), (by decide +kernel), (by decide +kernel), (by decide +kernel)⟩⟩

def at_TheImageIsCutAndTaken_0 : State :=
  { sets (base 4) [(Fd.PAI_STAT_PAIRED, 1), (Fd.PAI_STAT_ROLE, 1), (Fd.PAI_STAT_L0, 1)] with clk := { (base 4).clk with sidx := 4999, now := 7 }, sys := { (base 4).sys with seracUp := true } }

def at_TheImageIsCutAndTaken_2 : State :=
  { sets (base 4) [(Fd.PAI_STAT_PAIRED, 1), (Fd.PAI_STAT_ROLE, 1), (Fd.PAI_STAT_L0, 1)] with clk := { (base 4).clk with sidx := 5000 } }

def at_TheImageIsCutAndTaken_3 : State :=
  { sets (base 2) [(Fd.PAI_STAT_PAIRED, 1), (Fd.PAI_STAT_ROLE, 2), (Fd.PAI_STAT_L0, 1)] with pair := { (base 2).pair with rx := some (7, [(0, [9])]) } }

def at_TheImageIsCutAndTaken_4 : State :=
  { sets (base 2) [(Fd.PAI_STAT_PAIRED, 1), (Fd.PAI_STAT_ROLE, 2)] with pair := { (base 2).pair with rx := some (7, [(0, [9])]) } }

def at_TheImageIsCutAndTaken_8 : State :=
  { sets (base 2) [(Fd.PAI_STAT_PAIRED, 1), (Fd.PAI_STAT_ROLE, 2)] with pair := { (base 2).pair with appliedAt := some 100 }, clk := { (base 2).clk with now := 5100 } }

def at_TheStandbyTakesOver_0 : State :=
  { sets (base 2) [(Fd.PAI_STAT_PAIRED, 1), (Fd.PAI_STAT_ROLE, 2)] with pair := { (base 2).pair with declared := some 4100 }, clk := { (base 2).clk with now := 4100 }, sys := { (base 2).sys with seracUp := true } }

def at_TheStandbyTakesOver_2 : State :=
  { sets (base 2) [(Fd.PAI_STAT_PAIRED, 1), (Fd.PAI_STAT_ROLE, 2)] with pair := { (base 2).pair with declared := some 4000, appliedPseq := 8 }, clk := { (base 2).clk with now := 4100 } }

def at_TheStandbyTakesOver_3 : State :=
  { sets (base 4) [(Fd.PAI_STAT_PAIRED, 1), (Fd.PAI_STAT_ROLE, 1), (Fd.PAI_STAT_L0, 1)] with pair := { (base 4).pair with last := some ⟨0, 1, 2, 2, 0x3F, 0, 0, 0, 1, 1, 1, 0⟩ } }

def at_TheStandbyTakesOver_6 : State :=
  { sets (base 2) [(Fd.PAI_STAT_PAIRED, 1), (Fd.PAI_STAT_ROLE, 2), (Fd.PAI_CTRL_WARM, 1)] with sys := { (base 2).sys with mainPowered := true, mainUp := true } }

def at_TheStandbyTakesOver_7 : State :=
  { sets (base 2) [(Fd.PAI_STAT_PAIRED, 1), (Fd.PAI_STAT_ROLE, 1)] with sys := { (base 2).sys with mainPowered := false, mainUp := false } }

/-- Every clause of TheImageIsTakenAndTheStandbyTakesOver has a state and operands that meet its hypotheses. -/
theorem witness_TheImageIsTakenAndTheStandbyTakesOver :
    (∃ (s : State), s.edgeToCome = true ∧ s.isActive = true ∧ s.on Fd.PAI_STAT_PAIRED = true ∧ s.edge.clk.sidx.toNat % 1000 = 0) ∧
    (∃ (s : State), (s.edgeToCome = false ∨ s.isActive = false ∨ s.on Fd.PAI_STAT_PAIRED = false ∨ s.edge.clk.sidx.toNat % 1000 ≠ 0)) ∧
    (∃ (s : State), s.isActive = true ∧ s.on Fd.PAI_STAT_PAIRED = true ∧ s.clk.sidx.toNat % 1000 = 0 ∧ s.drives = true) ∧
    (∃ (path : PairPath) (iseq : Word) (offset : Nat) (bytes : List Byte) (s : State), s.fld Fd.PAI_STAT_ROLE = 2 ∧ path = .lane 0 ∧ s.on Fd.PAI_STAT_L0 = true ∧ iseq ≠ s.rd Reg.PAI_IMG_SEQ ∧ s.pair.ready = none ∧ s.pair.rx = some (iseq, [(0, [9])]) ∧ offset = 8184 ∧ bytes = [1, 2, 3]) ∧
    (∃ (path : PairPath) (iseq : Word) (offset : Nat) (bytes : List Byte) (s : State) (a : Came), path = .net a ∧ s.TakesCra a ∧ s.fld Fd.PAI_STAT_ROLE = 2 ∧ iseq ≠ s.rd Reg.PAI_IMG_SEQ ∧ s.pair.ready = none ∧ s.pair.rx = some (iseq, [(0, [9])]) ∧ offset = 8184 ∧ bytes = [1, 2, 3]) ∧
    (∃ (path : PairPath) (iseq : Word) (offset : Nat) (bytes : List Byte) (s : State) (n : Fin 2), path = .lane n ∧ (s.on (laneBit n) = false ∨ s.fld Fd.PAI_STAT_ROLE ≠ 2 ∨ iseq = s.rd Reg.PAI_IMG_SEQ ∨ s.pair.ready.any (fun r => r.iseq == iseq) = true)) ∧
    (∃ (path : PairPath) (iseq : Word) (offset : Nat) (bytes : List Byte) (s : State) (a : Came), path = .net a ∧ s.TakesCra a ∧ (s.fld Fd.PAI_STAT_ROLE ≠ 2 ∨ iseq = s.rd Reg.PAI_IMG_SEQ ∨ s.pair.ready.any (fun r => r.iseq == iseq) = true)) ∧
    (∃ (s : State), (s.fld Fd.PAI_STAT_ROLE ≠ 2 ∨ s.pair.staleTold = true ∨ s.clk.now < s.pair.appliedAt.getD (s.sys.bootAt + msTicks 50) + msTicks 50)) ∧
    (∃ (s : State), s.fld Fd.PAI_STAT_ROLE = 2 ∧ s.pair.staleTold = false ∧ s.pair.appliedAt.getD (s.sys.bootAt + msTicks 50) + msTicks 50 ≤ s.clk.now) ∧
    (∃ (s : State), s.edgeToCome = true ∧ s.fld Fd.PAI_STAT_ROLE = 2 ∧ (s.pair.declared.any (fun x => decide (x ≤ s.clk.now)) = true)) ∧
    (∃ (s : State), (s.edgeToCome = false ∨ s.fld Fd.PAI_STAT_ROLE ≠ 2 ∨ s.pair.declared.all (fun x => decide (s.clk.now < x)) = true)) ∧
    (∃ (s : State) (x : Nat), s.fld Fd.PAI_STAT_ROLE = 2 ∧ s.pair.declared = some x ∧ x < s.clk.now) ∧
    (∃ (w : Fin 8) (value : Word) (s : State), s.WriteTaken w Reg.PAI_SWAP value true ∧ fieldOf value 31 1 = 1 ∧ s.swapping = false ∧ s.swapCheck = 1) ∧
    (∃ (w : Fin 8) (value : Word) (s : State), s.WriteTaken w Reg.PAI_SWAP value true ∧ fieldOf value 31 1 = 1 ∧ s.swapCheck ≠ 1) ∧
    (∃ (w : Fin 8) (value : Word) (s : State), s.WriteTaken w Reg.PAI_SWAP value true ∧ fieldOf value 31 1 = 0) ∧
    (∃ (w : Fin 8) (value : Word) (s : State), s.WriteTaken w Reg.PAI_CTRL value true ∧ s.isActive = false) ∧
    (∃ (w : Fin 8) (value : Word) (s : State), s.WriteTaken w Reg.PAI_CTRL value true ∧ s.isActive = true) :=
  ⟨⟨at_TheImageIsCutAndTaken_0, (by decide +kernel), (by decide +kernel), (by decide +kernel), (by decide +kernel)⟩,
   ⟨(base 4), (by decide +kernel)⟩,
   ⟨at_TheImageIsCutAndTaken_2, (by decide +kernel), (by decide +kernel), (by decide +kernel), (by decide +kernel)⟩,
   ⟨(.lane 0), (7), (8184), ([1, 2, 3]), at_TheImageIsCutAndTaken_3, (by decide +kernel), (by first | decide +kernel | exact ⟨rfl, by decide +kernel⟩ | rfl), (by decide +kernel), (by decide +kernel), (by decide +kernel), (by decide +kernel), (by decide +kernel)⟩,
   ⟨(.net came0), (7), (8184), ([1, 2, 3]), at_TheImageIsCutAndTaken_4, (came0), (by first | decide +kernel | exact ⟨rfl, by decide +kernel⟩ | rfl), cra_of _ _ (by decide +kernel), (by decide +kernel), (by decide +kernel), (by decide +kernel), (by decide +kernel), (by decide +kernel), (by decide +kernel)⟩,
   ⟨(.lane 1), (7), (8184), ([1, 2, 3]), at_ProtectiveCommandsAct_1, (1), (by first | decide +kernel | exact ⟨rfl, by decide +kernel⟩ | rfl), (by decide +kernel)⟩,
   ⟨(.net came0), (7), (8184), ([1, 2, 3]), at_ProtectiveCommandsAct_1, (came0), (by first | decide +kernel | exact ⟨rfl, by decide +kernel⟩ | rfl), cra_of _ _ (by decide +kernel), (by decide +kernel)⟩,
   ⟨at_ProtectiveCommandsAct_1, (by decide +kernel)⟩,
   ⟨at_TheImageIsCutAndTaken_8, (by decide +kernel), (by decide +kernel), (by decide +kernel)⟩,
   ⟨at_TheStandbyTakesOver_0, (by decide +kernel), (by decide +kernel), (by decide +kernel)⟩,
   ⟨at_ProtectiveCommandsAct_1, (by decide +kernel)⟩,
   ⟨at_TheStandbyTakesOver_2, (4000), (by decide +kernel), (by decide +kernel), (by decide +kernel)⟩,
   ⟨(0), (0x80000014), at_TheStandbyTakesOver_3, taken_of _ _ _ _ _ (by decide +kernel), (by decide +kernel), (by decide +kernel), (by decide +kernel)⟩,
   ⟨(0), (0x80000014), at_PairBarriersAreAgreed_15, taken_of _ _ _ _ _ (by decide +kernel), (by decide +kernel), (by decide +kernel)⟩,
   ⟨(0), (0x14), at_PairBarriersAreAgreed_15, taken_of _ _ _ _ _ (by decide +kernel), (by decide +kernel)⟩,
   ⟨(0), (0), at_TheStandbyTakesOver_6, taken_of _ _ _ _ _ (by decide +kernel), (by decide +kernel)⟩,
   ⟨(0), (1), at_TheStandbyTakesOver_7, taken_of _ _ _ _ _ (by decide +kernel), (by decide +kernel)⟩⟩

def at_HeartbeatsAndLossesAreSeen_0 : State :=
  { sets (base 4) [(Fd.PAI_STAT_PAIRED, 1), (Fd.PAI_STAT_ROLE, 1)] with clk := { (base 4).clk with sidx := 250 } }

def at_HeartbeatsAndLossesAreSeen_2 : State :=
  { sets (base 2) [(Fd.PAI_STAT_PAIRED, 1), (Fd.PAI_STAT_ROLE, 2)] with pair := { (base 2).pair with lost := true }, clk := { (base 2).clk with now := 5100 } }

def at_HeartbeatsAndLossesAreSeen_3 : State :=
  { sets (base 4) [(Fd.PAI_STAT_PAIRED, 1), (Fd.PAI_STAT_ROLE, 1)] with clk := { (base 2).clk with now := 5100 } }

def at_HeartbeatsAndLossesAreSeen_4 : State :=
  fronted (sets (base 4) [(Fd.PAI_STAT_PAIRED, 1), (Fd.PAI_STAT_ROLE, 1), (Fd.PAI_STAT_L0, 1)]) [(Reg.PAI_PLVL, word [(Fd.PAI_PLVL_MIN, 1), (Fd.PAI_PLVL_MAX, 2), (Fd.PAI_PLVL_CAP, 2)])]

def at_HeartbeatsAndLossesAreSeen_7 : State :=
  sets (base 1) [(Fd.PAI_STAT_PAIRED, 1)]

def at_HeartbeatsAndLossesAreSeen_8 : State :=
  { sets (base 4) [(Fd.PAI_STAT_PAIRED, 1), (Fd.PAI_STAT_L1, 1)] with clk := { (base 2).clk with now := 5100 } }

def at_HeartbeatsAndLossesAreSeen_9 : State :=
  { sets (base 4) [(Fd.PAI_STAT_PAIRED, 1), (Fd.PAI_STAT_L1, 1)] with clk := { (base 2).clk with now := 9 } }

def at_HeartbeatsAndLossesAreSeen_11 : State :=
  { sets (base 2) [(Fd.PAI_STAT_PAIRED, 1), (Fd.PAI_STAT_ROLE, 2), (Fd.PAI_HB_MISS_PAIR, 3), (Fd.PAI_HB_MISS_NET, 3)] with clk := { (base 2).clk with now := 5100 } }

def at_HeartbeatsAndLossesAreSeen_12 : State :=
  { sets (base 2) [(Fd.PAI_STAT_PAIRED, 1), (Fd.PAI_STAT_ROLE, 2)] with pair := { (base 2).pair with peerLow := some 4000 }, clk := { (base 2).clk with now := 4100 } }

def at_HeartbeatsAndLossesAreSeen_15 : State :=
  { sets (base 4) [(Fd.PAI_STAT_PAIRED, 1), (Fd.PAI_STAT_ROLE, 1)] with pair := { (base 4).pair with repeats := [4000, 5000] }, clk := { (base 2).clk with now := 4100 } }

def at_ThePartnerIsRead_1 : State :=
  { sets (base 4) [(Fd.PAI_STAT_PAIRED, 1), (Fd.PAI_STAT_ROLE, 1), (Fd.PAI_STAT_L0, 1)] with clk := { (base 2).clk with now := 4100 } }

def at_ThePartnerIsRead_4 : State :=
  { sets (base 4) [(Fd.PAI_STAT_PAIRED, 1), (Fd.PAI_STAT_ROLE, 1)] with clk := { (base 2).clk with now := 4100 } }

def at_ThePartnerIsRead_5 : State :=
  { sets (base 4) [(Fd.PAI_STAT_PAIRED, 1), (Fd.PAI_STAT_ROLE, 1), (Fd.PAI_PRD_STAT_PENDING, 1)] with clk := { (base 2).clk with now := 4100 } }

def at_ThePartnerIsRead_6 : State :=
  { sets (base 4) [(Fd.PAI_PRD_STAT_PENDING, 1)] with pair := { (base 4).pair with peek := some 9 } }

def at_ThePartnerIsRead_9 : State :=
  { sets (base 4) [(Fd.PAI_PRD_STAT_PENDING, 1)] with pair := { (base 4).pair with peek := some 9 }, clk := { (base 2).clk with now := 109 } }

/-- Every clause of ThePartnerIsHeardAndRead has a state and operands that meet its hypotheses. -/
theorem witness_ThePartnerIsHeardAndRead :
    (∃ (s : State), s.on Fd.PAI_STAT_PAIRED = true ∧ s.opState ≠ 0 ∧ s.clk.sidx.toNat % 100 = 50 ∧ s.pair.hbSent ≠ some s.clk.now ∧ s.portAbsent = false) ∧
    (∃ (s : State), (s.on Fd.PAI_STAT_PAIRED = false ∨ s.opState = 0 ∨ s.clk.sidx.toNat % 100 ≠ 50 ∨ s.pair.hbSent = some s.clk.now)) ∧
    (∃ (path : PairPath) (h : Heartbeat) (s : State), s.on Fd.PAI_STAT_PAIRED = true ∧ s.opState ≠ 0 ∧ h.moduleId = s.sys.straps.moduleId ∧ h.slot ≠ s.sys.straps.slot ∧ s.isActive = false ∧ path = .lane 1) ∧
    (∃ (path : PairPath) (h : Heartbeat) (s : State) (a : Came), s.on Fd.PAI_STAT_PAIRED = true ∧ s.opState ≠ 0 ∧ h.moduleId = s.sys.straps.moduleId ∧ h.slot ≠ s.sys.straps.slot ∧ (s.isActive = false ∨ s.pairUp = false) ∧ path = .net a ∧ s.TakesCra a) ∧
    (∃ (path : PairPath) (h : Heartbeat) (s : State) (a : Came) (l : Nat), s.on Fd.PAI_STAT_PAIRED = true ∧ s.opState ≠ 0 ∧ h.moduleId = s.sys.straps.moduleId ∧ h.slot ≠ s.sys.straps.slot ∧ s.isActive = true ∧ s.pairUp = true ∧ h.role = 2 ∧ s.wantedLevel h = some l ∧ l ≠ s.pairLevel ∧ s.pairBar barPairLevel = none ∧ path = .net a ∧ s.TakesCra a) ∧
    (∃ (path : PairPath) (h : Heartbeat) (s : State), (s.on Fd.PAI_STAT_PAIRED = false ∨ s.opState = 0)) ∧
    (∃ (path : PairPath) (h : Heartbeat) (s : State) (a : Came), path = .net a ∧ s.on Fd.PAI_STAT_PAIRED = true ∧ s.opState ≠ 0 ∧ s.TakesCra a ∧ (h.moduleId ≠ s.sys.straps.moduleId ∧ (s.fld Fd.PAI_STAT_ROLE ≠ 0 ∨ s.sys.mismatch = true) ∨ h.moduleId = s.sys.straps.moduleId ∧ h.slot = s.sys.straps.slot)) ∧
    (∃ (path : PairPath) (h : Heartbeat) (s : State) (a : Came), s.on Fd.PAI_STAT_PAIRED = true ∧ s.opState ≠ 0 ∧ h.moduleId ≠ s.sys.straps.moduleId ∧ s.fld Fd.PAI_STAT_ROLE = 0 ∧ (s.sys.mismatch = false) ∧ path = .net a ∧ s.TakesCra a) ∧
    (∃ (lane : Fin 2) (lockLost : Bool) (s : State), s.on (laneBit lane) = true ∧ (lockLost = true ∨ Tab.at 0 s.pair.laneAt lane + 10 ≤ s.clk.now)) ∧
    (∃ (lane : Fin 2) (lockLost : Bool) (s : State), (s.on (laneBit lane) = false ∨ lockLost = false ∧ s.clk.now < Tab.at 0 s.pair.laneAt lane + 10)) ∧
    (∃ (s : State), (s.on Fd.PAI_STAT_PAIRED = false ∨ s.fld Fd.PAI_STAT_ROLE = 0 ∨ s.pair.lost = true ∨ s.fld Fd.PAI_HB_MISS_PAIR < 3 ∨ s.fld Fd.PAI_HB_MISS_NET < 3)) ∧
    (∃ (s : State), s.on Fd.PAI_STAT_PAIRED = true ∧ s.fld Fd.PAI_STAT_ROLE ≠ 0 ∧ s.pair.lost = false ∧ 3 ≤ s.fld Fd.PAI_HB_MISS_PAIR ∧ 3 ≤ s.fld Fd.PAI_HB_MISS_NET ∧ s.swapping = false) ∧
    (∃ (s : State) (x : Nat), s.fld Fd.PAI_STAT_ROLE = 2 ∧ s.pair.declared = none ∧ s.pair.peerLow = some x ∧ x + msTicks 1 ≤ s.clk.now ∧ s.swapping = false) ∧
    (∃ (s : State), (s.fld Fd.PAI_STAT_ROLE ≠ 2 ∨ s.pair.declared ≠ none ∨ s.pair.peerLow.all (fun x => decide (s.clk.now < x + msTicks 1)) = true)) ∧
    (∃ (s : State), (s.isActive = false ∨ s.pair.repeats.all (fun x => decide (s.clk.now < x)) = true)) ∧
    (∃ (s : State), s.isActive = true ∧ (s.pair.repeats.any (fun x => decide (x ≤ s.clk.now)) = true) ∧ s.portAbsent = false) ∧
    (∃ (w : Fin 8) (value : Word) (s : State), s.WriteTaken w Reg.PAI_PRD_CTRL value (crossPeek value) ∧ fieldOf value 31 1 = 0) ∧
    (∃ (w : Fin 8) (value : Word) (s : State), s.WriteTaken w Reg.PAI_PRD_CTRL value (crossPeek value) ∧ fieldOf value 31 1 = 1 ∧ s.on Fd.PAI_PRD_STAT_PENDING = false ∧ s.pairUp = true) ∧
    (∃ (w : Fin 8) (value : Word) (s : State), s.WriteTaken w Reg.PAI_PRD_CTRL value (crossPeek value) ∧ fieldOf value 31 1 = 0) ∧
    (∃ (w : Fin 8) (value : Word) (s : State), s.WriteTaken w Reg.PAI_PRD_CTRL value (crossPeek value) ∧ fieldOf value 31 1 = 1 ∧ s.on Fd.PAI_PRD_STAT_PENDING = false ∧ s.pairUp = true) ∧
    (∃ (w : Fin 8) (value : Word) (s : State), s.WriteTaken w Reg.PAI_PRD_CTRL value (crossPeek value) ∧ fieldOf value 31 1 = 1 ∧ (s.on Fd.PAI_PRD_STAT_PENDING = true ∨ s.pairUp = false)) ∧
    (∃ (w : Fin 8) (value : Word) (s : State), s.WriteTaken w Reg.PAI_PRD_CTRL value (crossPeek value) ∧ fieldOf value 31 1 = 1 ∧ (s.on Fd.PAI_PRD_STAT_PENDING = true ∨ s.pairUp = false)) ∧
    (∃ (result : Fin 5) (words : List Word) (s : State), s.on Fd.PAI_PRD_STAT_PENDING = true) ∧
    (∃ (result : Fin 5) (words : List Word) (s : State), s.on Fd.PAI_PRD_STAT_PENDING = false) ∧
    (∃ (s : State), (s.pair.peek.all (fun x => decide (s.clk.now < x + msTicks 1)) = true)) ∧
    (∃ (s : State) (x : Nat), s.pair.peek = some x ∧ x + msTicks 1 ≤ s.clk.now) :=
  ⟨⟨at_HeartbeatsAndLossesAreSeen_0, (by decide +kernel), (by decide +kernel), (by decide +kernel), (by decide +kernel), (by decide +kernel)⟩,
   ⟨(base 4), (by decide +kernel)⟩,
   ⟨(.lane 1), (⟨0, 1, 1, 4, 0x3F, 0, 0, 1, 1, 1, 1, 0⟩), at_HeartbeatsAndLossesAreSeen_2, (by decide +kernel), (by decide +kernel), (by decide +kernel), (by decide +kernel), (by decide +kernel), (by first | decide +kernel | exact ⟨rfl, by decide +kernel⟩ | rfl)⟩,
   ⟨(.net came0), (⟨0, 1, 2, 2, 0x2F, 0, 0, 1, 1, 1, 1, 0⟩), at_HeartbeatsAndLossesAreSeen_3, (came0), (by decide +kernel), (by decide +kernel), (by decide +kernel), (by decide +kernel), (by decide +kernel), (by first | decide +kernel | exact ⟨rfl, by decide +kernel⟩ | rfl), cra_of _ _ (by decide +kernel)⟩,
   ⟨(.net came0), (⟨0, 1, 2, 2, 0x2F, 0, 0, 1, 3, 3, 1, 0⟩), at_HeartbeatsAndLossesAreSeen_4, (came0), (2), (by decide +kernel), (by decide +kernel), (by decide +kernel), (by decide +kernel), (by decide +kernel), (by decide +kernel), (by decide +kernel), (by decide +kernel), (by decide +kernel), (by decide +kernel), (by first | decide +kernel | exact ⟨rfl, by decide +kernel⟩ | rfl), cra_of _ _ (by decide +kernel)⟩,
   ⟨(.net came0), (⟨3, 1, 2, 2, 0x2F, 0, 0, 1, 1, 1, 1, 0⟩), (base 4), (by decide +kernel)⟩,
   ⟨(.net came0), (⟨3, 1, 2, 2, 0x2F, 0, 0, 1, 1, 1, 1, 0⟩), at_PairBarriersAreAgreed_15, (came0), (by first | decide +kernel | exact ⟨rfl, by decide +kernel⟩ | rfl), (by decide +kernel), (by decide +kernel), cra_of _ _ (by decide +kernel), (by decide +kernel)⟩,
   ⟨(.net came0), (⟨3, 1, 2, 2, 0x2F, 0, 0, 1, 1, 1, 1, 0⟩), at_HeartbeatsAndLossesAreSeen_7, (came0), (by decide +kernel), (by decide +kernel), (by decide +kernel), (by decide +kernel), (by decide +kernel), (by first | decide +kernel | exact ⟨rfl, by decide +kernel⟩ | rfl), cra_of _ _ (by decide +kernel)⟩,
   ⟨(1), (false), at_HeartbeatsAndLossesAreSeen_8, (by decide +kernel), (by decide +kernel)⟩,
   ⟨(1), (false), at_HeartbeatsAndLossesAreSeen_9, (by decide +kernel)⟩,
   ⟨at_ProtectiveCommandsAct_1, (by decide +kernel)⟩,
   ⟨at_HeartbeatsAndLossesAreSeen_11, (by decide +kernel), (by decide +kernel), (by decide +kernel), (by decide +kernel), (by decide +kernel), (by decide +kernel)⟩,
   ⟨at_HeartbeatsAndLossesAreSeen_12, (4000), (by decide +kernel), (by decide +kernel), (by decide +kernel), (by decide +kernel), (by decide +kernel)⟩,
   ⟨at_ProtectiveCommandsAct_1, (by decide +kernel)⟩,
   ⟨at_ProtectiveCommandsAct_1, (by decide +kernel)⟩,
   ⟨at_HeartbeatsAndLossesAreSeen_15, (by decide +kernel), (by decide +kernel), (by decide +kernel)⟩,
   ⟨(0), (0), (base 4), taken_of _ _ _ _ _ (by decide +kernel), (by decide +kernel)⟩,
   ⟨(0), (0x80000000), at_ThePartnerIsRead_1, taken_of _ _ _ _ _ (by decide +kernel), (by decide +kernel), (by decide +kernel), (by decide +kernel)⟩,
   ⟨(0), (0), (base 4), taken_of _ _ _ _ _ (by decide +kernel), (by decide +kernel)⟩,
   ⟨(0), (0x80000001), at_ThePartnerIsRead_1, taken_of _ _ _ _ _ (by decide +kernel), (by decide +kernel), (by decide +kernel), (by decide +kernel)⟩,
   ⟨(0), (0x80000000), at_ThePartnerIsRead_4, taken_of _ _ _ _ _ (by decide +kernel), (by decide +kernel), (by decide +kernel)⟩,
   ⟨(0), (0x80000001), at_ThePartnerIsRead_5, taken_of _ _ _ _ _ (by decide +kernel), (by decide +kernel), (by decide +kernel)⟩,
   ⟨(1), ([5, 6, 7]), at_ThePartnerIsRead_6, (by decide +kernel)⟩,
   ⟨(1), ([5, 6, 7]), (base 4), (by decide +kernel)⟩,
   ⟨(base 4), (by decide +kernel)⟩,
   ⟨at_ThePartnerIsRead_9, (9), (by decide +kernel), (by decide +kernel)⟩⟩

def at_LockstepRunsAndEnds_0 : State :=
  { sets (base 4) [(Fd.PAI_STAT_PAIRED, 1), (Fd.PAI_STAT_ROLE, 1)] with pair := { (base 4).pair with last := some ⟨5, 1, 2, 2, 0x3F, 0, 0, 1, 1, 1, 1, 0⟩ } }

def at_LockstepRunsAndEnds_3 : State :=
  sets (base 4) [(Fd.PAI_LS_STAT_STATE, 2)]

def at_LockstepRunsAndEnds_5 : State :=
  { sets (base 4) [(Fd.PAI_LS_STAT_STATE, 2), (Fd.PAI_LS_STAT_LAG, 3)] with lst := ⟨some 5, true, [], 4, 5, [], 0, []⟩ }

def at_LockstepRunsAndEnds_6 : State :=
  { sets (base 4) [(Fd.PAI_LS_STAT_STATE, 1), (Fd.PAI_STAT_ROLE, 2)] with lst := ⟨some 5, false, [], 4, 7, [], 0, []⟩ }

def at_LockstepRunsAndEnds_8 : State :=
  sets (base 4) [(Fd.PAI_STAT_ROLE, 2)]

def at_LockstepRunsAndEnds_13 : State :=
  { sets (base 4) [(Fd.PAI_LS_STAT_STATE, 1), (Fd.PAI_STAT_ROLE, 1)] with lst := ⟨some 5, true, [], 4, 7, [], 99, []⟩, firn := { (base 4).firn with digests := [(9, [1])] } }

def at_LockstepRunsAndEnds_14 : State :=
  { sets (base 4) [(Fd.PAI_LS_STAT_STATE, 2), (Fd.PAI_STAT_ROLE, 1)] with lst := ⟨some 5, true, [], 4, 7, [], 99, []⟩, firn := { (base 4).firn with digests := [(9, [1])] } }

def at_LockstepRunsAndEnds_15 : State :=
  { sets (base 4) [(Fd.PAI_LS_STAT_STATE, 1), (Fd.PAI_STAT_ROLE, 2)] with lst := ⟨some 5, false, [], 17, 7, [], 0, []⟩ }

/-- Every clause of LockstepRunsAndEnds has a state and operands that meet its hypotheses. -/
theorem witness_LockstepRunsAndEnds :
    (∃ (w : Fin 8) (p : LsPartner) (s : State), s.WriteTaken w Reg.PAI_LS_CTRL 1 true ∧ s.lsOn = false ∧ s.pairBar barLockstep = none) ∧
    (∃ (w : Fin 8) (p : LsPartner) (s : State), s.WriteTaken w Reg.PAI_LS_CTRL 1 true ∧ s.lsOn = false ∧ s.pairBar barLockstep = none ∧ s.partnerWarm = true ∧ p.sameSlots = false) ∧
    (∃ (w : Fin 8) (p : LsPartner) (s : State), s.WriteTaken w Reg.PAI_LS_CTRL 1 true ∧ s.lsOn = false ∧ s.pairBar barLockstep = none ∧ s.lsCheck p ≠ 1) ∧
    (∃ (w : Fin 8) (p : LsPartner) (s : State), s.WriteTaken w Reg.PAI_LS_CTRL 1 true ∧ (s.lsOn = true ∨ s.pairBar barLockstep ≠ none)) ∧
    (∃ (w : Fin 8) (s : State), s.WriteTaken w Reg.PAI_LS_CTRL 2 true ∧ s.lsOn = false) ∧
    (∃ (w : Fin 8) (s : State), s.WriteTaken w Reg.PAI_LS_CTRL 2 true ∧ s.lsOn = true) ∧
    (∃ (c : Came) (f : LogFrame) (s : State), s.TakesCra c ∧ s.lsOn = true ∧ s.lst.sends = false ∧ s.lst.next ≤ f.frame ∧ (s.lst.recs.all (fun x => x.frame != f.frame) = true) ∧ s.on Fd.TBL_STAT_READY = false ∧ max s.lst.high f.frame + 1 ≤ s.lst.next + 2000) ∧
    (∃ (c : Came) (f : LogFrame) (s : State), s.TakesCra c ∧ s.lsOn = true ∧ s.lst.sends = false ∧ s.lst.next ≤ f.frame ∧ (s.lst.recs.all (fun x => x.frame != f.frame) = true) ∧ s.on Fd.TBL_STAT_READY = false ∧ s.lst.next + 2000 < max s.lst.high f.frame + 1) ∧
    (∃ (c : Came) (f : LogFrame) (s : State), s.TakesCra c ∧ (s.lsOn = false ∨ s.lst.sends = true ∨ f.frame < s.lst.next ∨ s.lst.recs.any (fun x => x.frame == f.frame) = true)) ∧
    (∃ (c : Came) (f : LogFrame) (s : State), s.portTakes Fd.PORT_CFG_CRAORI c.port c.src c.row = false) ∧
    (∃ (c : Came) (frame : Nat) (d : List Byte) (s : State) (n : Nat), s.TakesCra c ∧ s.lsOn = true ∧ s.lst.start = some n ∧ n ≤ frame ∧ s.lst.sends = false ∧ s.lst.next ≤ frame) ∧
    (∃ (c : Came) (frame : Nat) (d : List Byte) (s : State), s.TakesCra c ∧ (s.lsOn = false ∨ s.lst.start.any (fun n => decide (n ≤ frame)) = false ∨ (s.lst.sends = true ∨ frame < s.lst.next) ∧ Tab.find s.firn.digests frame = none)) ∧
    (∃ (c : Came) (frame : Nat) (d : List Byte) (s : State), s.portTakes Fd.PORT_CFG_CRAORI c.port c.src c.row = false) ∧
    (∃ (c : Came) (frame : Nat) (d : List Byte) (s : State) (n : Nat) (e : List Byte), s.TakesCra c ∧ s.lsOn = true ∧ s.lst.start = some n ∧ n ≤ frame ∧ (s.lst.sends = true ∨ frame < s.lst.next) ∧ Tab.find s.firn.digests frame = some e ∧ digestD e = d) ∧
    (∃ (c : Came) (frame : Nat) (d : List Byte) (s : State) (n : Nat) (e : List Byte), s.TakesCra c ∧ s.lsOn = true ∧ s.lst.start = some n ∧ n ≤ frame ∧ (s.lst.sends = true ∨ frame < s.lst.next) ∧ Tab.find s.firn.digests frame = some e ∧ digestD e ≠ d) ∧
    (∃ (s : State), s.lsOn = true ∧ s.lst.sends = false ∧ s.lst.next + 10 ≤ s.lst.high ∧ (s.lst.recs.all (fun f => f.frame != s.lst.next) = true)) ∧
    (∃ (s : State), (s.lsOn = false ∨ s.lst.sends = true ∨ s.lst.high < s.lst.next + 10 ∨ s.lst.recs.any (fun f => f.frame == s.lst.next) = true)) :=
  ⟨⟨(0), (⟨true, true⟩), at_LockstepRunsAndEnds_0, taken_of _ _ _ _ _ (by decide +kernel), (by decide +kernel), (by decide +kernel)⟩,
   ⟨(0), (⟨false, true⟩), at_LockstepRunsAndEnds_0, taken_of _ _ _ _ _ (by decide +kernel), (by decide +kernel), (by decide +kernel), (by decide +kernel), (by decide +kernel)⟩,
   ⟨(0), (⟨false, true⟩), at_PairBarriersAreAgreed_15, taken_of _ _ _ _ _ (by decide +kernel), (by decide +kernel), (by decide +kernel), (by decide +kernel)⟩,
   ⟨(0), (⟨true, true⟩), at_LockstepRunsAndEnds_3, taken_of _ _ _ _ _ (by decide +kernel), (by decide +kernel)⟩,
   ⟨(0), (base 4), taken_of _ _ _ _ _ (by decide +kernel), (by decide +kernel)⟩,
   ⟨(0), at_LockstepRunsAndEnds_5, taken_of _ _ _ _ _ (by decide +kernel), (by decide +kernel)⟩,
   ⟨(came0), (⟨9, ⟨[], [], [], [], 0⟩, false, [], [], [], [], []⟩), at_LockstepRunsAndEnds_6, cra_of _ _ (by decide +kernel), (by decide +kernel), (by decide +kernel), (by decide +kernel), (by decide +kernel), (by decide +kernel), (by decide +kernel)⟩,
   ⟨(came0), (⟨3000, ⟨[], [], [], [], 0⟩, false, [], [], [], [], []⟩), at_LockstepRunsAndEnds_6, cra_of _ _ (by decide +kernel), (by decide +kernel), (by decide +kernel), (by decide +kernel), (by decide +kernel), (by decide +kernel), (by decide +kernel)⟩,
   ⟨(came0), (⟨9, ⟨[], [], [], [], 0⟩, false, [], [], [], [], []⟩), at_LockstepRunsAndEnds_8, cra_of _ _ (by decide +kernel), (by decide +kernel)⟩,
   ⟨(came0), (⟨9, ⟨[], [], [], [], 0⟩, false, [], [], [], [], []⟩), at_ThePlanIsComputedAndSent_22, (by decide +kernel)⟩,
   ⟨(came0), (9), ([1, 2]), at_LockstepRunsAndEnds_6, (5), cra_of _ _ (by decide +kernel), (by decide +kernel), (by decide +kernel), (by decide +kernel), (by decide +kernel), (by decide +kernel)⟩,
   ⟨(came0), (9), ([1, 2]), at_LockstepRunsAndEnds_8, cra_of _ _ (by decide +kernel), (by decide +kernel)⟩,
   ⟨(came0), (9), ([1, 2]), at_ThePlanIsComputedAndSent_22, (by decide +kernel)⟩,
   ⟨(came0), (9), ([]), at_LockstepRunsAndEnds_13, (5), ([1]), cra_of _ _ (by decide +kernel), (by decide +kernel), (by decide +kernel), (by decide +kernel), (by decide +kernel), (by decide +kernel), (by decide +kernel)⟩,
   ⟨(came0), (9), ([7]), at_LockstepRunsAndEnds_14, (5), ([1]), cra_of _ _ (by decide +kernel), (by decide +kernel), (by decide +kernel), (by decide +kernel), (by decide +kernel), (by decide +kernel), (by decide +kernel)⟩,
   ⟨at_LockstepRunsAndEnds_15, (by decide +kernel), (by decide +kernel), (by decide +kernel), (by decide +kernel)⟩,
   ⟨(base 4), (by decide +kernel)⟩⟩

def at_KeysAndSessionsAreEstablished_0 : State :=
  { (sets (base 4) [(Fd.EN_CFG_VALID 63, 1), (Fd.EN_CFG_ROLES 63, 0x7F), (Fd.SYS_LVL_ZH_MIN, 1), (Fd.SYS_LVL_ZH_MAX, 1)]) with sec := { (base 4).sec with enr := [(63, 7, [])] } }

def at_KeysAndSessionsAreEstablished_1 : State :=
  { sets (sets (base 4) [(Fd.EN_CFG_VALID 63, 1), (Fd.EN_CFG_ROLES 63, 0x7F), (Fd.SYS_LVL_ZH_MIN, 1), (Fd.SYS_LVL_ZH_MAX, 1)]) [(Fd.SS_STAT_STATE 1, 2), (Fd.SS_STAT_STATE 2, 2), (Fd.SS_STAT_STATE 3, 2), (Fd.SS_STAT_STATE 4, 2), (Fd.SS_STAT_STATE 5, 2), (Fd.SS_STAT_STATE 6, 2), (Fd.SS_STAT_STATE 7, 2)] with sec := { (base 4).sec with enr := [(63, 7, [])] } }

def at_KeysAndSessionsAreEstablished_2 : State :=
  sets (base 4) [(Fd.SYS_LVL_ZH_MIN, 1), (Fd.SYS_LVL_ZH_MAX, 1)]

def at_KeysAndSessionsAreEstablished_5 : State :=
  (sets (base 4) [(Fd.SS_STAT_STATE 3, 1)]).wr (Reg.SS_ID 3) 77

def at_KeysAndSessionsAreEstablished_10 : State :=
  sets (base 3) [(Fd.EN_MASTER_NUM 63, 7)]

def at_KeysAndSessionsAreEstablished_11 : State :=
  { sets (base 3) [(Fd.EN_CFG_VALID 63, 1), (Fd.EN_CFG_VALID 0, 1), (Fd.EN_CFG_ROLES 0, 0x7F), (Fd.SS_STAT_STATE 4, 2), (Fd.SS_STAT_MASTER 4, 7), (Fd.SS_STAT_STATE 5, 1), (Fd.SS_STAT_MASTER 5, 7)] with sec := { (base 3).sec with enr := [(63, 7, [])] } }

def at_KeysAndSessionsAreEstablished_12 : State :=
  { sets (base 3) [(Fd.EN_MASTER_NUM 63, 7), (Fd.EN_CFG_VALID 63, 1), (Fd.EN_CFG_VALID 0, 1), (Fd.EN_CFG_ROLES 0, 0x7F), (Fd.SS_STAT_STATE 4, 2), (Fd.SS_STAT_MASTER 4, 7), (Fd.SS_STAT_STATE 5, 1), (Fd.SS_STAT_MASTER 5, 7)] with sec := { (base 3).sec with enr := [(63, 7, [])] } }

def at_KeysAndSessionsAreEstablished_14 : State :=
  { base 4 with clk := { (base 4).clk with now := 8640000000 } }

def at_KeysAndSessionsAreEstablished_17 : State :=
  { base 4 with sec := { (base 4).sec with opening := [(127, ⟨0, [], [], [], []⟩)] } }

def at_KeysAndSessionsAreEstablished_18 : State :=
  { base 4 with sec := { (base 4).sec with opening := [(127, ⟨5, [], [], [], []⟩)] } }

/-- Every clause of KeysAndSessionsAreEstablished has a state and operands that meet its hypotheses. -/
theorem witness_KeysAndSessionsAreEstablished :
    (∃ (q : Plain) (p : SessOpen) (s : State) (n c : Nat), s.TakesPlain q ∧ s.sessOpenBad p = none ∧ p.flags = 0 ∧ s.enrolled p.master.toNat = some n ∧ s.freeSession = some c ∧ (s.leaves 2).next + 1 < akLeaves) ∧
    (∃ (q : Plain) (p : SessOpen) (s : State), s.TakesPlain q ∧ s.sessOpenBad p = none ∧ p.flags = 0 ∧ s.initiatorKnown p = true ∧ s.freeSession = none) ∧
    (∃ (q : Plain) (p : SessOpen) (s : State), s.TakesPlain q ∧ s.sessOpenBad p = none ∧ s.initiatorKnown p = false) ∧
    (∃ (q : Plain) (p : SessOpen) (s : State) (o : Nat), s.TakesPlain q ∧ s.sessOpenBad p = some o) ∧
    (∃ (q : Plain) (p : SessOpen) (s : State), s.portTakes Fd.PORT_CFG_MBOX q.port q.src q.row = false) ∧
    (∃ (q : Plain) (session : Word) (peerKey : List Byte) (s : State) (k : Nat), s.TakesPlain q ∧ s.openingSlot session = some k) ∧
    (∃ (q : Plain) (session : Word) (conf peerKey : List Byte) (s : State) (k : Nat), s.TakesPlain q ∧ s.openingSlot session = some k) ∧
    (∃ (q : Plain) (session : Word) (conf peerKey : List Byte) (s : State), s.TakesPlain q ∧ s.openingSlot session = none ∧ (s.sec.responding.all (fun p => p.2.session != session) = true)) ∧
    (∃ (q : Plain) (session : Word) (conf peerKey : List Byte) (s : State), s.portTakes Fd.PORT_CFG_MBOX q.port q.src q.row = false) ∧
    (∃ (q : Req) (nonce : List Byte) (s : State) (k : Nat) (u : State), s.Reaches q k u ∧ (judgeAttest nonce k u).first q u = none ∧ (s.leaves 1).next + 1 < akLeaves) ∧
    (∃ (w : Fin 8) (n : Fin 64) (value : Word) (s : State), s.WriteTaken w (Reg.EN_CFG n) value (s.enrolOk n value) ∧ s.on (Fd.EN_CFG_VALID n) = false) ∧
    (∃ (w : Fin 8) (n : Fin 64) (value : Word) (s : State), s.WriteTaken w (Reg.EN_CFG n) value (s.enrolOk n value) ∧ s.on (Fd.EN_CFG_VALID n) = true ∧ fieldOf value 31 1 = 0) ∧
    (∃ (w : Fin 8) (n : Fin 64) (value : Word) (s : State), s.WriteTaken w (Reg.EN_CFG n) value (s.enrolOk n value) ∧ s.on (Fd.EN_CFG_VALID n) = true ∧ fieldOf value 31 1 = 1 ∧ fieldOf (s.rd (Reg.EN_MASTER n)) 0 16 = s.enrolNum n) ∧
    (∃ (w : Fin 8) (k : Fin 16) (value : Word) (s : State), s.WriteTaken w (Reg.PK_CFG k) value true) ∧
    (∃ (s : State), s.portAbsent = false ∧ s.sec.sendNext = none ∧ (s.sec.sendAt + sTicks 86400 ≤ s.clk.now ∨ 0 < s.sec.crossed) ∧ s.peers = []) ∧
    (∃ (s : State), (s.portAbsent = true ∨ s.sec.sendNext ≠ none ∨ s.clk.now < s.sec.sendAt + sTicks 86400 ∧ s.sec.crossed = 0)) ∧
    (∃ (peer : Fin 128) (p : PeerResponse) (s : State), (s.portAbsent = true ∨ Tab.find s.sec.opening peer = none)) ∧
    (∃ (peer : Fin 128) (confD sealedKey : List Byte) (s : State) (x : Exchange), s.portAbsent = false ∧ Tab.find s.sec.opening peer = some x ∧ x.session = 0) ∧
    (∃ (peer : Fin 128) (confD sealedKey : List Byte) (s : State) (x : Exchange), s.portAbsent = false ∧ Tab.find s.sec.opening peer = some x ∧ x.session ≠ 0) ∧
    (∃ (peer : Fin 128) (session : Word) (nonceD ct akpPub dik akpCert sig : List Byte) (s : State) (x : Exchange), s.portAbsent = false ∧ Tab.find s.sec.opening peer = some x ∧ x.session = 0) :=
  ⟨⟨(plain0), (⟨1, 7, 0, 0, List.replicate 32 3, List.replicate 1184 4, [], [], [], [], []⟩), at_KeysAndSessionsAreEstablished_0, (63), (1), plain_of _ _ (by decide +kernel), (by decide +kernel), (by decide +kernel), (by decide +kernel), (by decide +kernel), (by decide +kernel)⟩,
   ⟨(plain0), (⟨1, 7, 0, 0, List.replicate 32 3, List.replicate 1184 4, [], [], [], [], []⟩), at_KeysAndSessionsAreEstablished_1, plain_of _ _ (by decide +kernel), (by decide +kernel), (by decide +kernel), (by decide +kernel), (by decide +kernel)⟩,
   ⟨(plain0), (⟨1, 7, 0, 0, List.replicate 32 3, List.replicate 1184 4, [], [], [], [], []⟩), at_KeysAndSessionsAreEstablished_2, plain_of _ _ (by decide +kernel), (by decide +kernel), (by decide +kernel)⟩,
   ⟨(plain0), (⟨1, 7, 4, 0, List.replicate 32 3, List.replicate 1184 4, [], [], [], [], []⟩), at_KeysAndSessionsAreEstablished_2, (2), plain_of _ _ (by decide +kernel), (by decide +kernel)⟩,
   ⟨(plain0), (⟨1, 7, 0, 0, List.replicate 32 3, List.replicate 1184 4, [], [], [], [], []⟩), at_ThePlanIsComputedAndSent_22, (by decide +kernel)⟩,
   ⟨(plain0), (77), ([]), at_KeysAndSessionsAreEstablished_5, (3), plain_of _ _ (by decide +kernel), (by decide +kernel)⟩,
   ⟨(plain0), (77), ([1]), ([]), at_KeysAndSessionsAreEstablished_5, (3), plain_of _ _ (by decide +kernel), (by decide +kernel)⟩,
   ⟨(plain0), (77), ([1]), ([]), (base 4), plain_of _ _ (by decide +kernel), (by decide +kernel), (by decide +kernel)⟩,
   ⟨(plain0), (77), ([1]), ([]), at_ThePlanIsComputedAndSent_22, (by decide +kernel)⟩,
   ⟨(req), (List.replicate 32 9), (base 4), (0), (judged (base 4) (req) (0)), reaches_of (base 4) (req) (0) (by decide +kernel), (by decide +kernel), (by decide +kernel)⟩,
   ⟨(0), (63), (0x8000007F), at_KeysAndSessionsAreEstablished_10, taken_of _ _ _ _ _ (by decide +kernel), (by decide +kernel)⟩,
   ⟨(0), (63), (0), at_KeysAndSessionsAreEstablished_11, taken_of _ _ _ _ _ (by decide +kernel), (by decide +kernel), (by decide +kernel)⟩,
   ⟨(0), (63), (0x8000005F), at_KeysAndSessionsAreEstablished_12, taken_of _ _ _ _ _ (by decide +kernel), (by decide +kernel), (by decide +kernel), (by decide +kernel)⟩,
   ⟨(0), (15), (0x80000000), (base 3), taken_of _ _ _ _ _ (by decide +kernel)⟩,
   ⟨at_KeysAndSessionsAreEstablished_14, (by decide +kernel), (by decide +kernel), (by decide +kernel), (by decide +kernel)⟩,
   ⟨(base 4), (by decide +kernel)⟩,
   ⟨(127), (.keyed [] []), (base 4), (by decide +kernel)⟩,
   ⟨(127), ([]), ([]), at_KeysAndSessionsAreEstablished_17, (⟨0, [], [], [], []⟩), (by decide +kernel), (by decide +kernel), (by decide +kernel)⟩,
   ⟨(127), ([]), ([]), at_KeysAndSessionsAreEstablished_18, (⟨5, [], [], [], []⟩), (by decide +kernel), (by decide +kernel), (by decide +kernel)⟩,
   ⟨(127), (9), ([]), ([]), ([]), ([]), ([]), ([]), at_KeysAndSessionsAreEstablished_17, (⟨0, [], [], [], []⟩), (by decide +kernel), (by decide +kernel), (by decide +kernel)⟩⟩

def at_FirmwareCommandsTakeEffect_0 : State :=
  sets (base 3) [(Fd.SEC_FW_STAT_BUSY, 1)]

def at_FirmwareCommandsTakeEffect_3 : State :=
  { sets (base 4) [(Fd.SEC_FW_STAT_BUSY, 1)] with sec := { (base 4).sec with install := some (2, 9) } }

def at_FirmwareCommandsTakeEffect_4 : State :=
  { sets (base 4) [(Fd.SEC_FW_STAT_BUSY, 1)] with sec := { (base 4).sec with install := some (2, 9) }, zh := { (base 4).zh with store := [(9, ⟨4, false, 2, [(1, 9)], true, [], 0, 0⟩)] } }

def at_FirmwareCommandsTakeEffect_6 : State :=
  fronted (base 3) [(Reg.FW_SLOT 0, word [(Fd.FW_SLOT_STATE_A 0, 3), (Fd.FW_SLOT_STATE_B 0, 1)]), (Reg.FW_SLOT 2, word [(Fd.FW_SLOT_STATE_A 2, 1), (Fd.FW_SLOT_STATE_B 2, 3)])]

def at_FirmwareCommandsTakeEffect_7 : State :=
  fronted (base 3) [(Reg.FW_SLOT 0, word [(Fd.FW_SLOT_STATE_A 0, 3), (Fd.FW_SLOT_STATE_B 0, 1)]), (Reg.FW_SLOT 2, 0)]

def at_FirmwareCommandsTakeEffect_12 : State :=
  { fronted (base 3) [(Reg.FW_SLOT 2, word [(Fd.FW_SLOT_STATE_A 2, 1), (Fd.FW_SLOT_STATE_B 2, 3)]), (Reg.FW_SVN 2, word [(Fd.FW_SVN_FLOOR 2, 5)])] with sec := { (base 3).sec with fwImages := [(5, [0, 0, 0, 0, 0, 0, 0, 0, 0, 0, 0, 9])] } }

def at_FirmwareCommandsTakeEffect_13 : State :=
  { fronted (base 4) [(Reg.FW_SLOT 2, word [(Fd.FW_SLOT_STATE_A 2, 3), (Fd.FW_SLOT_STATE_B 2, 2), (Fd.FW_SLOT_RUN 2, 1), (Fd.FW_SLOT_ATTEMPTS 2, 2)])] with sys := { (base 4).sys with readyAt := [(2, 100)] }, clk := { (base 4).clk with now := 6000100 } }

def at_FirmwareCommandsTakeEffect_14 : State :=
  fronted (base 4) [(Reg.FW_SLOT 2, word [(Fd.FW_SLOT_STATE_A 2, 3), (Fd.FW_SLOT_STATE_B 2, 2)])]

/-- Every clause of FirmwareCommandsTakeEffect has a state and operands that meet its hypotheses. -/
theorem witness_FirmwareCommandsTakeEffect :
    (∃ (w : Fin 8) (part : Fin 4) (handle : BitVec 16) (s : State), s.WriteTaken w Reg.SEC_FW_CMD (BitVec.ofNat 32 (1 + 16 * part.val + 65536 * handle.toNat)) (crossFw (BitVec.ofNat 32 (1 + 16 * part.val + 65536 * handle.toNat))) ∧ s.on Fd.SEC_FW_STAT_BUSY = true) ∧
    (∃ (w : Fin 8) (part : Fin 4) (handle : BitVec 16) (s : State), s.WriteTaken w Reg.SEC_FW_CMD (BitVec.ofNat 32 (1 + 16 * part.val + 65536 * handle.toNat)) (crossFw (BitVec.ofNat 32 (1 + 16 * part.val + 65536 * handle.toNat))) ∧ s.on Fd.SEC_FW_STAT_BUSY = false) ∧
    (∃ (s : State), s.sec.install = none) ∧
    (∃ (s : State) (p h : Nat), s.sec.install = some (p, h) ∧ s.object h 4 = none) ∧
    (∃ (s : State) (p h : Nat) (o : StoreObj), s.sec.install = some (p, h) ∧ s.object h 4 = some o ∧ p < 3) ∧
    (∃ (w : Fin 8) (parts : Fin 8) (s : State), s.WriteTaken w Reg.SEC_FW_CMD (BitVec.ofNat 32 (2 + 64 * parts.val)) (crossFw (BitVec.ofNat 32 (2 + 64 * parts.val))) ∧ s.on Fd.SEC_FW_STAT_BUSY = true) ∧
    (∃ (w : Fin 8) (parts : Fin 8) (s : State), s.WriteTaken w Reg.SEC_FW_CMD (BitVec.ofNat 32 (2 + 64 * parts.val)) (crossFw (BitVec.ofNat 32 (2 + 64 * parts.val))) ∧ s.on Fd.SEC_FW_STAT_BUSY = false ∧ ((List.range 3).all (fun p => !bitOf parts.val p || (s.fwSlot p 1).isSome) = true)) ∧
    (∃ (w : Fin 8) (parts : Fin 8) (s : State), s.WriteTaken w Reg.SEC_FW_CMD (BitVec.ofNat 32 (2 + 64 * parts.val)) (crossFw (BitVec.ofNat 32 (2 + 64 * parts.val))) ∧ s.on Fd.SEC_FW_STAT_BUSY = false ∧ ((List.range 3).any (fun p => bitOf parts.val p && (s.fwSlot p 1).isNone) = true)) ∧
    (∃ (w : Fin 8) (parts : Fin 8) (s : State), s.WriteTaken w Reg.SEC_FW_CMD (BitVec.ofNat 32 (4 + 64 * parts.val)) (crossFw (BitVec.ofNat 32 (4 + 64 * parts.val))) ∧ s.on Fd.SEC_FW_STAT_BUSY = true) ∧
    (∃ (w : Fin 8) (parts : Fin 8) (s : State), s.WriteTaken w Reg.SEC_FW_CMD (BitVec.ofNat 32 (4 + 64 * parts.val)) (crossFw (BitVec.ofNat 32 (4 + 64 * parts.val))) ∧ s.on Fd.SEC_FW_STAT_BUSY = false ∧ ((List.range 3).all (fun p => !bitOf parts.val p || (s.fwSlot p 1).isSome) = true)) ∧
    (∃ (w : Fin 8) (parts : Fin 8) (s : State), s.WriteTaken w Reg.SEC_FW_CMD (BitVec.ofNat 32 (4 + 64 * parts.val)) (crossFw (BitVec.ofNat 32 (4 + 64 * parts.val))) ∧ s.on Fd.SEC_FW_STAT_BUSY = false ∧ ((List.range 3).any (fun p => bitOf parts.val p && (s.fwSlot p 1).isNone) = true)) ∧
    (∃ (w : Fin 8) (parts : Fin 8) (s : State), s.WriteTaken w Reg.SEC_FW_CMD (BitVec.ofNat 32 (3 + 64 * parts.val)) (crossFw (BitVec.ofNat 32 (3 + 64 * parts.val))) ∧ s.on Fd.SEC_FW_STAT_BUSY = true) ∧
    (∃ (w : Fin 8) (parts : Fin 8) (s : State), s.WriteTaken w Reg.SEC_FW_CMD (BitVec.ofNat 32 (3 + 64 * parts.val)) (crossFw (BitVec.ofNat 32 (3 + 64 * parts.val))) ∧ s.on Fd.SEC_FW_STAT_BUSY = false) ∧
    (∃ (part : Fin 3) (s : State) (x : Nat), s.fwStat part (s.fld (Fd.FW_SLOT_RUN part)) = 2 ∧ Tab.find s.sys.readyAt part = some x ∧ x + sTicks 60 ≤ s.clk.now) ∧
    (∃ (part : Fin 3) (s : State), ((Tab.find s.sys.readyAt part).all (fun x => decide (s.clk.now < x + sTicks 60)) = true ∨ s.fwStat part (s.fld (Fd.FW_SLOT_RUN part)) ≠ 2)) :=
  ⟨⟨(0), (2), (0xFFFF), at_FirmwareCommandsTakeEffect_0, taken_of _ _ _ _ _ (by decide +kernel), (by decide +kernel)⟩,
   ⟨(0), (2), (0xFFFF), (base 4), taken_of _ _ _ _ _ (by decide +kernel), (by decide +kernel)⟩,
   ⟨(base 4), (by decide +kernel)⟩,
   ⟨at_FirmwareCommandsTakeEffect_3, (2), (9), (by decide +kernel), (by decide +kernel)⟩,
   ⟨at_FirmwareCommandsTakeEffect_4, (2), (9), (⟨4, false, 2, [(1, 9)], true, [], 0, 0⟩), (by decide +kernel), (by decide +kernel), (by decide +kernel)⟩,
   ⟨(0), (5), at_FirmwareCommandsTakeEffect_0, taken_of _ _ _ _ _ (by decide +kernel), (by decide +kernel)⟩,
   ⟨(0), (5), at_FirmwareCommandsTakeEffect_6, taken_of _ _ _ _ _ (by decide +kernel), (by decide +kernel), (by decide +kernel)⟩,
   ⟨(0), (5), at_FirmwareCommandsTakeEffect_7, taken_of _ _ _ _ _ (by decide +kernel), (by decide +kernel), (by decide +kernel)⟩,
   ⟨(0), (5), at_FirmwareCommandsTakeEffect_0, taken_of _ _ _ _ _ (by decide +kernel), (by decide +kernel)⟩,
   ⟨(0), (5), at_FirmwareCommandsTakeEffect_6, taken_of _ _ _ _ _ (by decide +kernel), (by decide +kernel), (by decide +kernel)⟩,
   ⟨(0), (5), at_FirmwareCommandsTakeEffect_7, taken_of _ _ _ _ _ (by decide +kernel), (by decide +kernel), (by decide +kernel)⟩,
   ⟨(0), (5), at_FirmwareCommandsTakeEffect_0, taken_of _ _ _ _ _ (by decide +kernel), (by decide +kernel)⟩,
   ⟨(0), (4), at_FirmwareCommandsTakeEffect_12, taken_of _ _ _ _ _ (by decide +kernel), (by decide +kernel)⟩,
   ⟨(2), at_FirmwareCommandsTakeEffect_13, (100), (by decide +kernel), (by decide +kernel), (by decide +kernel)⟩,
   ⟨(2), at_FirmwareCommandsTakeEffect_14, (by decide +kernel)⟩⟩

def at_StoreTransfersAct_1 : State :=
  ({ base 4 with clk := { (base 4).clk with now := 9 } }).setObj 1 ⟨1, false, 5, [], false, [], 0, 0⟩

def at_StoreTransfersAct_2 : State :=
  (base 4).setObj 1 ⟨1, true, 1, [(0, 5)], false, [], 0, 0⟩

def at_StoreTransfersAct_3 : State :=
  (base 4).setObj 1 ⟨1, true, 2, [(0, 5)], false, [], 0, 0⟩

def at_StoreTransfersAct_4 : State :=
  (base 4).setObj 1 ⟨1, true, 2, [(0, 5), (1, 6)], true, [], 0, 0⟩

def at_StoreTransfersAct_7 : State :=
  (base 4).setObj 1 ⟨1, false, 5, [], true, [], 0, 0⟩

def at_StoreTransfersAct_9 : State :=
  ({ base 4 with clk := { (base 4).clk with now := 6000005 } }).setObj 1 ⟨1, true, 2, [], false, [], 5, 0⟩

def at_TheTableStoreIsServed_1 : State :=
  { base 4 with zh := { (base 4).zh with attached := some 0 } }

def at_TheTableStoreIsServed_2 : State :=
  (let x := (base 4).setTbl 4095 { Tbl.empty with dirty := [2, 3] } ; { x with zh := { x.zh with attached := some 0, devs := [⟨7, 0xC1, [1, 2], 0, 1, 0, 1, true, []⟩] }, tbl := { x.tbl with saves := [⟨4095, 2, [1, 2], [9], false, none, false⟩] } })

def at_TheTableStoreIsServed_3 : State :=
  { base 4 with zh := { (base 4).zh with attached := some 0, devs := [⟨7, 0xC2, [1, 2], 0, 1, 0, 1, true, []⟩] } }

def at_TheTableStoreIsServed_4 : State :=
  { base 4 with zh := { (base 4).zh with attached := some 0, devs := [⟨7, 0xC2, [1, 2, 3, 4, 5, 6], 0, 1, 0, 1, true, [5]⟩] } }

def at_TheTableStoreIsServed_7 : State :=
  { base 4 with zh := { (base 4).zh with attached := some 0, devs := [⟨7, 0xC1, [1, 2], 0, 4, 0, 1, true, []⟩] }, clk := { (base 4).clk with now := 100000 }, tbl := { (base 4).tbl with saves := [⟨4095, 2, [1, 2], [9], false, none, false⟩] } }

def at_TheTableStoreIsServed_8 : State :=
  { base 4 with zh := { (base 4).zh with attached := some 0, devs := [⟨7, 0xC2, [1, 2], 0, 3, 0, 1, true, [5]⟩] }, clk := { (base 4).clk with now := 100000 } }

def at_TheTableStoreIsServed_9 : State :=
  { base 4 with zh := { (base 4).zh with attached := some 0, devs := [⟨7, 0xC2, [1, 2], 0, 4, 0, 1, true, [5]⟩] }, clk := { (base 4).clk with now := 100000 } }

/-- Every clause of StoreTransfersAct has a state and operands that meet its hypotheses. -/
theorem witness_StoreTransfersAct :
    (∃ (q : Req) (kind flags : Byte) (size : BitVec 64) (s : State) (k : Nat) (u : State), s.Reaches q k u ∧ (judgeXferOpen kind flags size k u).first q u = none) ∧
    (∃ (q : Req) (handle : BitVec 16) (offset : BitVec 64) (data : List Byte) (s : State) (k : Nat) (u : State) (o : StoreObj), s.Reaches q k u ∧ (judgeXferData handle offset data k u).first q u = none ∧ Tab.find s.zh.store handle.toNat = some o ∧ o.closed = false) ∧
    (∃ (q : Req) (handle : BitVec 16) (hash : List Byte) (s : State) (k : Nat) (u : State) (o : StoreObj), s.Reaches q k u ∧ (judgeXferClose handle hash k u).first q u = none ∧ Tab.find s.zh.store handle.toNat = some o ∧ o.closed = false ∧ o.size ≤ o.data.length) ∧
    (∃ (q : Req) (handle : BitVec 16) (hash : List Byte) (s : State) (k : Nat) (u : State) (o : StoreObj), s.Reaches q k u ∧ (judgeXferClose handle hash k u).first q u = none ∧ Tab.find s.zh.store handle.toNat = some o ∧ o.closed = false ∧ o.data.length < o.size) ∧
    (∃ (q : Req) (handle : BitVec 16) (offset : BitVec 64) (length : Word) (s : State) (k : Nat) (u : State) (b : List Byte), s.Reaches q k u ∧ (judgeXferRead handle offset length k u).first q u = none ∧ s.readable handle.toNat = some b) ∧
    (∃ (q : Req) (handle : BitVec 16) (offset : BitVec 64) (length : Word) (s : State) (k : Nat) (u : State), s.Reaches q k u ∧ (judgeXferRead handle offset length k u).first q u = none ∧ s.readable handle.toNat = none) ∧
    (∃ (q : Req) (handle : BitVec 16) (s : State) (k : Nat) (u : State) (o : StoreObj), s.Reaches q k u ∧ (judgeXferDelete handle k u).first q u = none ∧ Tab.find s.zh.store handle.toNat = some o) ∧
    (∃ (q : Req) (handle : BitVec 16) (offset : BitVec 64) (data : List Byte) (s : State) (k : Nat) (u : State), s.Reaches q k u ∧ (judgeXferData handle offset data k u).first q u = none ∧ ((Tab.find s.zh.store handle.toNat).all (fun o => o.closed) = true)) ∧
    (∃ (handle : BitVec 16) (s : State), ((Tab.find s.zh.store handle.toNat).all (fun o => o.closed || decide (s.clk.now < o.lastData + sTicks 60)) = true)) ∧
    (∃ (handle : BitVec 16) (s : State) (o : StoreObj), Tab.find s.zh.store handle.toNat = some o ∧ o.closed = false ∧ o.lastData + sTicks 60 ≤ s.clk.now) ∧
    (∃ (q : Req) (s : State) (k : Nat) (u : State), s.Reaches q k u ∧ (judgeStoreAttach k u).first q u = none) ∧
    (∃ (q : Req) (s : State) (k : Nat) (u : State), s.Reaches q k u ∧ (judgeStoreDetach k u).first q u = none) ∧
    (∃ (q : Req) (s : State) (k high win : Nat) (d : DeviceReq) (j : SaveJob), s.portTakes Fd.PORT_CFG_MBOX q.port q.src q.row = true ∧ (s.countRx q.port).quarEntry q.src = none ∧ (s.countRx q.port).slotOf q.session = some k ∧ (q.defer = true ∨ q.deferMs = 0) ∧ s.zh.attached = some k ∧ q.mbox = 14 ∧ seqVerdict ((s.onFrame k q).sess k).rxHigh ((s.onFrame k q).sess k).rxWin q.seq.toNat = .fresh high win ∧ (s.zh.devs.find? (fun d => d.tag == q.tag && d.cmd == 0xC1) = some d) ∧ d.last = true ∧ (s.tbl.saves.find? (fun x => x.key == d.key) = some j) ∧ j.push = false ∧ j.written = false ∧ (s.storeKey j.table j.seg).getD 2 0 = j.key.getD 2 0) ∧
    (∃ (q : Req) (size : Nat) (epoch : BitVec 64) (s : State) (k high win : Nat) (d : DeviceReq), s.portTakes Fd.PORT_CFG_MBOX q.port q.src q.row = true ∧ (s.countRx q.port).quarEntry q.src = none ∧ (s.countRx q.port).slotOf q.session = some k ∧ (q.defer = true ∨ q.deferMs = 0) ∧ s.zh.attached = some k ∧ q.mbox = 14 ∧ seqVerdict ((s.onFrame k q).sess k).rxHigh ((s.onFrame k q).sess k).rxWin q.seq.toNat = .fresh high win ∧ (s.zh.devs.find? (fun d => d.tag == q.tag && d.cmd == 0xC2) = some d)) ∧
    (∃ (q : Req) (size : Nat) (epoch : BitVec 64) (b : List Byte) (s : State) (k high win : Nat) (d : DeviceReq), s.portTakes Fd.PORT_CFG_MBOX q.port q.src q.row = true ∧ (s.countRx q.port).quarEntry q.src = none ∧ (s.countRx q.port).slotOf q.session = some k ∧ (q.defer = true ∨ q.deferMs = 0) ∧ s.zh.attached = some k ∧ q.mbox = 14 ∧ seqVerdict ((s.onFrame k q).sess k).rxHigh ((s.onFrame k q).sess k).rxWin q.seq.toNat = .fresh high win ∧ (s.zh.devs.find? (fun d => d.tag == q.tag && d.cmd == 0xC2) = some d) ∧ size ≤ (d.buf ++ b).length) ∧
    (∃ (q : Req) (s : State) (k high win : Nat) (d : DeviceReq) (j : SaveJob), s.portTakes Fd.PORT_CFG_MBOX q.port q.src q.row = true ∧ (s.countRx q.port).quarEntry q.src = none ∧ (s.countRx q.port).slotOf q.session = some k ∧ (q.defer = true ∨ q.deferMs = 0) ∧ s.zh.attached = some k ∧ q.mbox = 14 ∧ seqVerdict ((s.onFrame k q).sess k).rxHigh ((s.onFrame k q).sess k).rxWin q.seq.toNat = .fresh high win ∧ (s.zh.devs.find? (fun d => d.tag == q.tag && d.cmd == 0xC1) = some d) ∧ (s.tbl.saves.find? (fun x => x.key == d.key) = some j) ∧ j.push = false) ∧
    (∃ (tag : Word) (s : State), ((s.zh.devs.find? (fun d => d.tag == tag)).all (fun d => decide (s.clk.now < d.sentAt + sTicks 1)) = true)) ∧
    (∃ (tag : Word) (s : State) (d : DeviceReq) (j : SaveJob), (s.zh.devs.find? (fun d => d.tag == tag) = some d) ∧ d.sentAt + sTicks 1 ≤ s.clk.now ∧ 3 < d.sent ∧ d.cmd = 0xC1 ∧ (s.tbl.saves.find? (fun x => x.key == d.key) = some j) ∧ j.push = false) ∧
    (∃ (tag : Word) (s : State) (k : Nat) (d : DeviceReq), (s.zh.devs.find? (fun d => d.tag == tag) = some d) ∧ d.sentAt + sTicks 1 ≤ s.clk.now ∧ d.sent ≤ 3 ∧ s.zh.attached = some k) ∧
    (∃ (tag : Word) (s : State) (d : DeviceReq), (s.zh.devs.find? (fun d => d.tag == tag) = some d) ∧ d.sentAt + sTicks 1 ≤ s.clk.now ∧ 3 < d.sent ∧ d.cmd ≠ 0xC1) :=
  ⟨⟨(req), (4), (1), (5), (base 4), (0), (judged (base 4) (req) (0)), reaches_of (base 4) (req) (0) (by decide +kernel), (by decide +kernel)⟩,
   ⟨(req), (1), (3), ([7, 8]), at_StoreTransfersAct_1, (0), (judged at_StoreTransfersAct_1 (req) (0)), (⟨1, false, 5, [], false, [], 0, 0⟩), reaches_of at_StoreTransfersAct_1 (req) (0) (by decide +kernel), (by decide +kernel), (by decide +kernel), (by decide +kernel)⟩,
   ⟨(req), (1), (List.replicate 32 0), at_StoreTransfersAct_2, (0), (judged at_StoreTransfersAct_2 (req) (0)), (⟨1, true, 1, [(0, 5)], false, [], 0, 0⟩), reaches_of at_StoreTransfersAct_2 (req) (0) (by decide +kernel), (by decide +kernel), (by decide +kernel), (by decide +kernel), (by decide +kernel)⟩,
   ⟨(req), (1), (List.replicate 32 0), at_StoreTransfersAct_3, (0), (judged at_StoreTransfersAct_3 (req) (0)), (⟨1, true, 2, [(0, 5)], false, [], 0, 0⟩), reaches_of at_StoreTransfersAct_3 (req) (0) (by decide +kernel), (by decide +kernel), (by decide +kernel), (by decide +kernel), (by decide +kernel)⟩,
   ⟨(req), (1), (1), (8168), at_StoreTransfersAct_4, (0), (judged at_StoreTransfersAct_4 (req) (0)), ([5, 6]), reaches_of at_StoreTransfersAct_4 (req) (0) (by decide +kernel), (by decide +kernel), (by decide +kernel)⟩,
   ⟨(req), (1), (1), (8168), (base 4), (0), (judged (base 4) (req) (0)), reaches_of (base 4) (req) (0) (by decide +kernel), (by decide +kernel), (by decide +kernel)⟩,
   ⟨(req), (1), at_StoreTransfersAct_4, (0), (judged at_StoreTransfersAct_4 (req) (0)), (⟨1, true, 2, [(0, 5), (1, 6)], true, [], 0, 0⟩), reaches_of at_StoreTransfersAct_4 (req) (0) (by decide +kernel), (by decide +kernel), (by decide +kernel)⟩,
   ⟨(req), (1), (3), ([7, 8]), at_StoreTransfersAct_7, (0), (judged at_StoreTransfersAct_7 (req) (0)), reaches_of at_StoreTransfersAct_7 (req) (0) (by decide +kernel), (by decide +kernel), (by decide +kernel)⟩,
   ⟨(1), (base 4), (by decide +kernel)⟩,
   ⟨(1), at_StoreTransfersAct_9, (⟨1, true, 2, [], false, [], 5, 0⟩), (by decide +kernel), (by decide +kernel), (by decide +kernel)⟩,
   ⟨(req), (base 4), (0), (judged (base 4) (req) (0)), reaches_of (base 4) (req) (0) (by decide +kernel), (by decide +kernel)⟩,
   ⟨(req), at_TheTableStoreIsServed_1, (0), (judged at_TheTableStoreIsServed_1 (req) (0)), reaches_of at_TheTableStoreIsServed_1 (req) (0) (by decide +kernel), (by decide +kernel)⟩,
   ⟨({ req with mbox := 14 }), at_TheTableStoreIsServed_2, (0), (1), (1), (⟨7, 0xC1, [1, 2], 0, 1, 0, 1, true, []⟩), (⟨4095, 2, [1, 2], [9], false, none, false⟩), (by decide +kernel), (by decide +kernel), (by decide +kernel), (by decide +kernel), (by decide +kernel), (by decide +kernel), (by decide +kernel), (by decide +kernel), (by decide +kernel), (by decide +kernel), (by decide +kernel), (by decide +kernel), (by decide +kernel)⟩,
   ⟨({ req with mbox := 14 }), (0), (0), at_TheTableStoreIsServed_3, (0), (1), (1), (⟨7, 0xC2, [1, 2], 0, 1, 0, 1, true, []⟩), (by decide +kernel), (by decide +kernel), (by decide +kernel), (by decide +kernel), (by decide +kernel), (by decide +kernel), (by decide +kernel), (by decide +kernel)⟩,
   ⟨({ req with mbox := 14 }), (3), (77), ([6, 7]), at_TheTableStoreIsServed_4, (0), (1), (1), (⟨7, 0xC2, [1, 2, 3, 4, 5, 6], 0, 1, 0, 1, true, [5]⟩), (by decide +kernel), (by decide +kernel), (by decide +kernel), (by decide +kernel), (by decide +kernel), (by decide +kernel), (by decide +kernel), (by decide +kernel), (by decide +kernel)⟩,
   ⟨({ req with mbox := 14 }), at_TheTableStoreIsServed_2, (0), (1), (1), (⟨7, 0xC1, [1, 2], 0, 1, 0, 1, true, []⟩), (⟨4095, 2, [1, 2], [9], false, none, false⟩), (by decide +kernel), (by decide +kernel), (by decide +kernel), (by decide +kernel), (by decide +kernel), (by decide +kernel), (by decide +kernel), (by decide +kernel), (by decide +kernel), (by decide +kernel)⟩,
   ⟨(7), (base 4), (by decide +kernel)⟩,
   ⟨(7), at_TheTableStoreIsServed_7, (⟨7, 0xC1, [1, 2], 0, 4, 0, 1, true, []⟩), (⟨4095, 2, [1, 2], [9], false, none, false⟩), (by decide +kernel), (by decide +kernel), (by decide +kernel), (by decide +kernel), (by decide +kernel), (by decide +kernel)⟩,
   ⟨(7), at_TheTableStoreIsServed_8, (0), (⟨7, 0xC2, [1, 2], 0, 3, 0, 1, true, [5]⟩), (by decide +kernel), (by decide +kernel), (by decide +kernel), (by decide +kernel)⟩,
   ⟨(7), at_TheTableStoreIsServed_9, (⟨7, 0xC2, [1, 2], 0, 4, 0, 1, true, [5]⟩), (by decide +kernel), (by decide +kernel), (by decide +kernel), (by decide +kernel)⟩⟩

def at_RecordCommandsTakeEffect_0 : State :=
  sets (base 3) [(Fd.SS_STAT_MASTER 0, 9)]

def at_RecordCommandsTakeEffect_1 : State :=
  { sets (base 9) [(Fd.SYS_CREC_STAT_VALID, 1)] with sys := { (base 9).sys with crec := some record } }

def at_RecordCommandsTakeEffect_2 : State :=
  sets (base 9) [(Fd.SS_STAT_MASTER 0, 9)]

def at_EvidenceIsReadAndKept_0 : State :=
  { base 4 with firn := { (base 4).firn with seq := 5, limit := 10, circ := [FirnRec.make 0x3C2 3 [4, 5] false] } }

def at_EvidenceIsReadAndKept_1 : State :=
  { base 4 with firn := { (base 4).firn with seq := 5, limit := 10 } }

def at_EvidenceIsReadAndKept_3 : State :=
  sets (base 9) [(Fd.SS_STAT_MASTER 0, 3)]

def at_EvidenceIsReadAndKept_4 : State :=
  { base 9 with firn := { (base 9).firn with seq := 5, limit := 10, clear := some (5, 3), first := [FirnRec.make 0x3C2 3 [4, 5] false], circ := [FirnRec.make 0x3C2 3 [4, 5] false] } }

def at_EvidenceIsReadAndKept_5 : State :=
  { sets (base 4) [(Fd.FRN_CTRL_MIRROR_EN, 1)] with firn := { (base 4).firn with seq := 5, limit := 10, mirror := 0, circ := [FirnRec.make 0x3C2 3 [4, 5] false], anchors := [⟨4, 0, 0, 0, 0, 0, 0, true⟩] } }

def at_EvidenceIsReadAndKept_6 : State :=
  { sets (base 4) [(Fd.FRN_CTRL_MIRROR_EN, 1)] with firn := { (base 4).firn with seq := 5, limit := 10, mirror := 5, anchors := [⟨4, 0, 0, 0, 0, 0, 0, true⟩] } }

def at_EvidenceIsReadAndKept_7 : State :=
  { sets (base 4) [(Fd.FRN_CTRL_MIRROR_EN, 1)] with firn := { (base 4).firn with seq := 5, limit := 10, mirror := 1, circ := [{ FirnRec.make 0x3C2 3 [4, 5] false with seq := 4 }] } }

def at_EvidenceIsReadAndKept_8 : State :=
  { base 4 with clk := { (base 4).clk with mtime := 4999999999, lastSecond := 4 }, sys := { (base 4).sys with seracUp := true, portUp := true } }

def at_EvidenceIsReadAndKept_9 : State :=
  { base 4 with clk := { (base 4).clk with mtime := 5000000001, lastSecond := 4 }, sys := { (base 4).sys with portUp := true } }

def at_EvidenceIsReadAndKept_10 : State :=
  { base 4 with clk := { (base 4).clk with now := 99999 }, sys := { (base 4).sys with seracUp := true } }

def at_EvidenceIsReadAndKept_11 : State :=
  { base 4 with clk := { (base 4).clk with now := 100000 } }

/-- Every clause of RecordsAndEvidenceAreKept has a state and operands that meet its hypotheses. -/
theorem witness_RecordsAndEvidenceAreKept :
    (∃ (w : Fin 8) (s : State), s.WriteTaken w Reg.SYS_CREC_CMD 1 true ∧ s.sys.crecMake = none) ∧
    (∃ (w : Fin 8) (s : State) (r : CrecRecord), s.WriteTaken w Reg.SYS_CREC_CMD 2 true ∧ s.sys.crecMake = none ∧ s.sys.crec = some r) ∧
    (∃ (w : Fin 8) (s : State), s.WriteTaken w Reg.SYS_CFGRST 0xCE110001 true) ∧
    (∃ (w : Fin 8) (win : Fin 8) (value : Word) (s : State) (r : FirnRec) (newer : Nat), s.WriteTaken w (Reg.W_CTRL win) value true ∧ fieldOf value 0 2 = 1 ∧ fieldOf value 2 1 = 1 ∧ s.cursor win ≠ 2 ^ 64 - 1 ∧ recordAt (s.cursor win) s.firn.circ = some (r, newer)) ∧
    (∃ (w : Fin 8) (win : Fin 8) (value : Word) (s : State), s.WriteTaken w (Reg.W_CTRL win) value true ∧ fieldOf value 2 1 = 1 ∧ (fieldOf value 0 2 ≠ 2 ∨ s.mainAbsent = false) ∧ s.area (fieldOf value 0 2) = []) ∧
    (∃ (w : Fin 8) (win : Fin 8) (value : Word) (s : State), s.WriteTaken w (Reg.W_CTRL win) value true ∧ fieldOf value 2 1 = 0) ∧
    (∃ (w : Fin 8) (value : Word) (s : State), s.WriteTaken w Reg.FRN_CLR value (fieldOf value 16 16 == 0xC1EA && fieldOf value 0 3 != 0)) ∧
    (∃ (s : State) (areas master : Nat), s.firn.clear = some (areas, master)) ∧
    (∃ (s : State) (o : FirnRec), s.mainAbsent = false ∧ s.on Fd.FRN_CTRL_MIRROR_EN = true ∧ ((s.firn.circ.filter (fun r => decide (s.firn.mirror ≤ r.seq))).getLast? = some o) ∧ o.seq ≤ s.firn.mirror) ∧
    (∃ (s : State), s.mainAbsent = false ∧ s.on Fd.FRN_CTRL_MIRROR_EN = true ∧ (s.firn.circ.all (fun r => decide (r.seq < s.firn.mirror)) = true)) ∧
    (∃ (s : State) (o : FirnRec), s.mainAbsent = false ∧ s.on Fd.FRN_CTRL_MIRROR_EN = true ∧ ((s.firn.circ.filter (fun r => decide (s.firn.mirror ≤ r.seq))).getLast? = some o) ∧ s.firn.mirror < o.seq) ∧
    (∃ (s : State), s.edgeToCome = true ∧ s.sys.portUp = true ∧ s.portAbsent = false ∧ s.clk.lastSecond < s.edge.clk.lastSecond) ∧
    (∃ (s : State), s.clk.lastSecond < s.clk.mtime.toNat / 1000000000 ∧ s.sys.portUp = true ∧ s.portAbsent = false) ∧
    (∃ (s : State), s.edgeToCome = true ∧ s.edge.tickOnTime = false ∧ s.edge.clk.lastFree = s.edge.clk.now) ∧
    (∃ (s : State), s.fld Fd.TIM_STAT_TICK_SRC ≠ 1 ∧ s.clk.lastFree + 100000 ≤ s.clk.now) :=
  ⟨⟨(0), at_RecordCommandsTakeEffect_0, taken_of _ _ _ _ _ (by decide +kernel), (by decide +kernel)⟩,
   ⟨(0), at_RecordCommandsTakeEffect_1, (record), taken_of _ _ _ _ _ (by decide +kernel), (by decide +kernel), (by decide +kernel)⟩,
   ⟨(0), at_RecordCommandsTakeEffect_2, taken_of _ _ _ _ _ (by decide +kernel)⟩,
   ⟨(0), (7), (5), at_EvidenceIsReadAndKept_0, (FirnRec.make 0x3C2 3 [4, 5] false), (0), taken_of _ _ _ _ _ (by decide +kernel), (by decide +kernel), (by decide +kernel), (by decide +kernel), (by decide +kernel)⟩,
   ⟨(0), (7), (6), at_EvidenceIsReadAndKept_1, taken_of _ _ _ _ _ (by decide +kernel), (by decide +kernel), (by decide +kernel), (by decide +kernel)⟩,
   ⟨(0), (7), (2), (base 4), taken_of _ _ _ _ _ (by decide +kernel), (by decide +kernel)⟩,
   ⟨(0), (0xC1EA0005), at_EvidenceIsReadAndKept_3, taken_of _ _ _ _ _ (by decide +kernel)⟩,
   ⟨at_EvidenceIsReadAndKept_4, (5), (3), (by decide +kernel)⟩,
   ⟨at_EvidenceIsReadAndKept_5, (FirnRec.make 0x3C2 3 [4, 5] false), (by decide +kernel), (by decide +kernel), (by decide +kernel), (by decide +kernel)⟩,
   ⟨at_EvidenceIsReadAndKept_6, (by decide +kernel), (by decide +kernel), (by decide +kernel)⟩,
   ⟨at_EvidenceIsReadAndKept_7, ({ FirnRec.make 0x3C2 3 [4, 5] false with seq := 4 }), (by decide +kernel), (by decide +kernel), (by decide +kernel), (by decide +kernel)⟩,
   ⟨at_EvidenceIsReadAndKept_8, (by decide +kernel), (by decide +kernel), (by decide +kernel), (by decide +kernel)⟩,
   ⟨at_EvidenceIsReadAndKept_9, (by decide +kernel), (by decide +kernel), (by decide +kernel)⟩,
   ⟨at_EvidenceIsReadAndKept_10, (by decide +kernel), (by decide +kernel), (by decide +kernel)⟩,
   ⟨at_EvidenceIsReadAndKept_11, (by decide +kernel), (by decide +kernel)⟩⟩

def at_MemoryIntegrityIsKept_2 : State :=
  { base 4 with tbl := { (base 4).tbl with pcErrs := [(11 * 64 + 63, List.replicate 64 0)] } }

def at_MemoryIntegrityIsKept_6 : State :=
  { base 4 with clk := { (base 4).clk with now := 100000 }, sys := { (base 4).sys with seracUp := true } }

def at_MemoryIntegrityIsKept_7 : State :=
  { sets (base 4) [(Fd.DIA_SCRUB_DDR4, 1)] with clk := { (base 4).clk with now := 400000000 }, sys := { (base 4).sys with readyAt := [(2, 5)] } }

def at_MemoryIntegrityIsKept_9 : State :=
  { (base 4).wr Reg.DIA_DIG_SEL_LO 7 with firn := { (base 4).firn with digests := [(7 + 2 ^ 32, List.replicate 256 5)] } }

def at_StacksFail_0 : State :=
  { fronted (base 4) [(Reg.STK_STAT 5, 0)] with tbl := { (base 4).tbl with pcDue := [(5, 63)] } }

def at_StacksFail_1 : State :=
  { fronted (base 4) [(Reg.STK_STAT 5, word [(Fd.STK_STAT_SPARE_USED 5, 1), (Fd.STK_STAT_PC_RET 5, 1)])] with tbl := { (base 4).tbl with pcDue := [(5, 63)] } }

def at_StacksFail_2 : State :=
  { fronted (base 4) [(Reg.STK_STAT 5, word [(Fd.STK_STAT_SPARE_USED 5, 1), (Fd.STK_STAT_PC_RET 5, 7)])] with tbl := { (base 4).tbl with pcDue := [(5, 63)] } }

def at_StacksFail_3 : State :=
  fronted (base 4) [(Reg.STK_STAT 5, 0)]

def at_StacksFail_5 : State :=
  fronted (base 4) [(Reg.STK_STAT 5, word [(Fd.STK_STAT_STATE 5, 3)])]

/-- Every clause of MemoryErrorsAreCountedAndStacksFail has a state and operands that meet its hypotheses. -/
theorem witness_MemoryErrorsAreCountedAndStacksFail :
    (∃ (unit : Fin 64) (place : Fin 65536) (s : State), (((Tab.at [] s.dia.errs (unit.val * 65536 + place.val)).filter (fun e => decide (s.clk.now < e + sTicks 3600))).length ≠ 16)) ∧
    (∃ (mem : MemKind) (unit : Fin 64) (place : Fin 65536) (s : State), mem ≠ .laneA ∧ mem ≠ .laneB ∧ mem ≠ .tileStore ∧ mem ≠ .stack ∧ (((Tab.at [] s.dia.errs ((memCode mem * 64 + unit.val) * 65536 + place.val)).filter (fun e => decide (s.clk.now < e + sTicks 3600))).length ≠ 16)) ∧
    (∃ (unit : Fin 64) (place : Fin 65536) (s : State), (((Tab.at [] s.tbl.pcErrs (unit.val * 64 + place.val % 64)).filter (fun e => decide (s.clk.now < e + sTicks 3600))).length = 64) ∧ (((Tab.at [] s.dia.errs ((448 + unit.val) * 65536 + place.val)).filter (fun e => decide (s.clk.now < e + sTicks 3600))).length ≠ 16)) ∧
    (∃ (unit : Fin 64) (place : Fin 65536) (s : State), (((Tab.at [] s.ice.bankErrs (unit.val * 16 + place.val % 16)).filter (fun e => decide (s.clk.now < e + sTicks 3600))).length < 16) ∧ (((Tab.at [] s.dia.errs ((256 + unit.val) * 65536 + place.val)).filter (fun e => decide (s.clk.now < e + sTicks 3600))).length ≠ 16)) ∧
    (∃ (obj : Nat) (s : State), s.on Fd.LOP_STAT_SEL = false ∧ s.fld Fd.LOP_STAT_B_STATE ≠ 3) ∧
    (∃ (s : State), s.sys.seracUp = true ∧ max s.sys.bootAt (Tab.at 0 s.dia.scrubAt 0) + sTicks 1 ≤ s.clk.now) ∧
    (∃ (s : State) (r : Nat), s.mainAbsent = false ∧ Tab.find s.sys.readyAt 2 = some r ∧ max r (Tab.at 0 s.dia.scrubAt 6) + sTicks (3600 * s.fld Fd.DIA_SCRUB_DDR4) ≤ s.clk.now) ∧
    (∃ (w : Fin 8) (value : Word) (pass : Bool) (s : State), s.WriteTaken w Reg.DIA_ECCTEST value (crossEccTest value) ∧ fieldOf value 31 1 = 1) ∧
    (∃ (w : Fin 8) (value : Word) (s : State) (e : List Byte), s.WriteTaken w Reg.DIA_DIG_SEL_HI value true ∧ (Tab.find (if s.on Fd.DIA_CTRL_DIG_KIND then s.firn.rplDigests else s.firn.digests) ((s.rd Reg.DIA_DIG_SEL_LO).toNat + 2 ^ 32 * value.toNat) = some e) ∧ e.length = 256) ∧
    (∃ (stack : Fin 12) (pc : Fin 64) (lost : List (Fin 4096 × Fin 1048576)) (s : State), stack.val < stackCount ∧ s.fld (Fd.STK_STAT_STATE stack) ≠ 3 ∧ (s.training = true ∨ (s.mainRuns = true ∧ s.tbl.pcDue.contains (stack.val, pc.val) = true)) ∧ s.on (Fd.STK_STAT_SPARE_USED stack) = false ∧ s.fld (Fd.STK_STAT_PC_RET stack) < 7) ∧
    (∃ (stack : Fin 12) (pc : Fin 64) (lost : List (Fin 4096 × Fin 1048576)) (s : State), stack.val < stackCount ∧ s.fld (Fd.STK_STAT_STATE stack) ≠ 3 ∧ (s.training = true ∨ (s.mainRuns = true ∧ s.tbl.pcDue.contains (stack.val, pc.val) = true)) ∧ s.on (Fd.STK_STAT_SPARE_USED stack) = true ∧ 1 ≤ s.fld (Fd.STK_STAT_PC_RET stack) ∧ s.fld (Fd.STK_STAT_PC_RET stack) < 7 ∧ s.segsOn stack = []) ∧
    (∃ (stack : Fin 12) (pc : Fin 64) (lost : List (Fin 4096 × Fin 1048576)) (s : State), stack.val < stackCount ∧ s.fld (Fd.STK_STAT_STATE stack) ≠ 3 ∧ (s.training = true ∨ (s.mainRuns = true ∧ s.tbl.pcDue.contains (stack.val, pc.val) = true)) ∧ s.fld (Fd.STK_STAT_PC_RET stack) = 7) ∧
    (∃ (stack : Fin 12) (pc : Fin 64) (lost : List (Fin 4096 × Fin 1048576)) (s : State), (stackCount ≤ stack.val ∨ s.fld (Fd.STK_STAT_STATE stack) = 3 ∨ (s.training = false ∧ (s.mainRuns = false ∨ s.tbl.pcDue.contains (stack.val, pc.val) = false)))) ∧
    (∃ (stack : Fin 12) (s : State), stack.val < stackCount ∧ s.fld (Fd.STK_STAT_STATE stack) ≠ 3 ∧ (s.mainRuns = true ∨ s.training = true)) ∧
    (∃ (stack : Fin 12) (s : State), (stackCount ≤ stack.val ∨ s.fld (Fd.STK_STAT_STATE stack) = 3 ∨ (s.mainRuns = false ∧ s.training = false))) :=
  ⟨⟨(63), (65535), (base 4), (by decide +kernel)⟩,
   ⟨(.ddr4), (63), (65535), (base 4), (by decide +kernel), (by decide +kernel)⟩,
   ⟨(11), (65535), at_MemoryIntegrityIsKept_2, (by decide +kernel), (by decide +kernel)⟩,
   ⟨(63), (65535), (base 4), (by decide +kernel), (by decide +kernel)⟩,
   ⟨(3), (base 4), (by decide +kernel), (by decide +kernel)⟩,
   ⟨at_MemoryIntegrityIsKept_6, (by decide +kernel), (by decide +kernel)⟩,
   ⟨at_MemoryIntegrityIsKept_7, (5), (by decide +kernel), (by decide +kernel), (by decide +kernel)⟩,
   ⟨(0), (0x80000B17), (true), (base 9), taken_of _ _ _ _ _ (by decide +kernel), (by decide +kernel)⟩,
   ⟨(0), (1), at_MemoryIntegrityIsKept_9, (List.replicate 256 5), taken_of _ _ _ _ _ (by decide +kernel), (by decide +kernel), (by decide +kernel)⟩,
   ⟨(5), (63), ([]), at_StacksFail_0, (by unfold stackCount; split <;> decide), (by decide +kernel), (by decide +kernel), (by decide +kernel), (by decide +kernel)⟩,
   ⟨(5), (63), ([]), at_StacksFail_1, (by unfold stackCount; split <;> decide), (by decide +kernel), (by decide +kernel), (by decide +kernel), (by decide +kernel), (by decide +kernel)⟩,
   ⟨(5), (63), ([]), at_StacksFail_2, (by unfold stackCount; split <;> decide), (by decide +kernel), (by decide +kernel), (by decide +kernel)⟩,
   ⟨(5), (63), ([]), at_StacksFail_3, (Or.inr (Or.inr (by decide +kernel)))⟩,
   ⟨(5), at_StacksFail_3, (by unfold stackCount; split <;> decide), (by decide +kernel), (by decide +kernel)⟩,
   ⟨(5), at_StacksFail_5, (Or.inr (Or.inl (by decide +kernel)))⟩⟩

def at_MainDieIsLostAndReturns_0 : State :=
  { base 4 with sys := { (base 4).sys with noPacket := 20, mainUp := true }, act := { (base 4).act with armed := [3] } }

def at_MainDieIsLostAndReturns_1 : State :=
  { base 3 with sys := { (base 3).sys with seracUp := true, mainUp := true } }

def at_MainDieIsLostAndReturns_2 : State :=
  { base 5 with sys := { (base 5).sys with seracUp := true, mainPowered := true } }

def at_MainDieIsLostAndReturns_3 : State :=
  { base 5 with sys := { (base 5).sys with seracUp := true } }

def at_MainDieIsLostAndReturns_5 : State :=
  { base 5 with sys := { (base 5).sys with seracUp := true }, sec := { (base 5).sec with akm := ⟨5, 100⟩ } }

def at_MainDieIsLostAndReturns_6 : State :=
  { sets (base 1) [(Fd.PAI_STAT_ROLE, 1), (Fd.SYS_STATE_MAIN_ABSENT, 1), (Fd.LOP_STAT_MAIN_ABSENT, 1)] with sys := { (base 1).sys with mainUp := true } }

def at_MainDieIsLostAndReturns_7 : State :=
  { base 5 with sys := { (base 5).sys with mainReady := true, applied := 100 } }

def at_MainDieIsLostAndReturns_8 : State :=
  { sets (base 1) [(Fd.PAI_STAT_ROLE, 1)] with clk := { (base 1).clk with now := 18000000 } }

/-- Every clause of MainDieIsLostAndReturns has a state and operands that meet its hypotheses. -/
theorem witness_MainDieIsLostAndReturns :
    (∃ (s : State), 20 ≤ s.sys.noPacket ∧ s.mainAbsent = false) ∧
    (∃ (s : State), s.sys.seracUp = true ∧ s.mainAbsent = false) ∧
    (∃ (s : State), s.sys.seracUp = true ∧ s.sys.mainPowered = true ∧ s.mainAbsent = false) ∧
    (∃ (s : State), s.sys.seracUp = true ∧ s.mainAbsent = false) ∧
    (∃ (s : State), s.sys.mainHeld = true ∧ s.sys.mainUp = false ∧ s.mayRun = true ∧ s.sys.mainPowered = true) ∧
    (∃ (s : State), s.sys.mainHeld = true ∧ s.sys.mainUp = false ∧ s.mayRun = true ∧ s.sys.mainPowered = false) ∧
    (∃ (s : State), s.readyNow = true ∧ s.sys.mainReady = false ∧ s.opState = 1 ∧ s.isActive = true) ∧
    (∃ (s : State), s.opState = 5 ∧ s.sys.mainReady = true ∧ s.mainAbsent = false ∧ 100 ≤ s.sys.applied) ∧
    (∃ (s : State), s.opState = 1 ∧ s.sys.mainReady = false ∧ s.fld Fd.PAI_STAT_ROLE ≠ 0 ∧ s.sys.bootAt + sTicks 180 ≤ s.clk.now) :=
  ⟨⟨at_MainDieIsLostAndReturns_0, (by decide +kernel), (by decide +kernel)⟩,
   ⟨at_MainDieIsLostAndReturns_1, (by decide +kernel), (by decide +kernel)⟩,
   ⟨at_MainDieIsLostAndReturns_2, (by decide +kernel), (by decide +kernel), (by decide +kernel)⟩,
   ⟨at_MainDieIsLostAndReturns_3, (by decide +kernel), (by decide +kernel)⟩,
   ⟨at_MainDieIsLostAndReturns_2, (by decide +kernel), (by decide +kernel), (by decide +kernel), (by decide +kernel)⟩,
   ⟨at_MainDieIsLostAndReturns_5, (by decide +kernel), (by decide +kernel), (by decide +kernel), (by decide +kernel)⟩,
   ⟨at_MainDieIsLostAndReturns_6, (by decide +kernel), (by decide +kernel), (by decide +kernel), (by decide +kernel)⟩,
   ⟨at_MainDieIsLostAndReturns_7, (by decide +kernel), (by decide +kernel), (by decide +kernel), (by decide +kernel)⟩,
   ⟨at_MainDieIsLostAndReturns_8, (by decide +kernel), (by decide +kernel), (by decide +kernel), (by decide +kernel)⟩⟩

def at_DiesFailAndReturn_0 : State :=
  { base 4 with sys := { (base 4).sys with seracUp := true, portUp := true } }

def at_DiesFailAndReturn_1 : State :=
  { sets (base 4) [(Fd.PRT_STAT_PORT_ABSENT, 1), (Fd.SYS_STATE_PORT_ABSENT, 1)] with sys := { (base 4).sys with seracUp := true, portUp := true } }

def at_DiesFailAndReturn_2 : State :=
  { base 4 with sys := { (base 4).sys with mainPowered := true } }

def at_DiesFailAndReturn_3 : State :=
  { base 4 with sys := { (base 4).sys with mainPowered := true, mainUp := true } }

def at_DiesFailAndReturn_4 : State :=
  { base 4 with sys := { (base 4).sys with portUp := true } }

def at_DiesFailAndReturn_8 : State :=
  sets (base 4) [(Fd.LOP_STAT_B_STATE, 1)]

def at_DiesFailAndReturn_10 : State :=
  sets (base 4) [(Fd.LOP_STAT_B_STATE, 3)]

def at_DiesFailAndReturn_11 : State :=
  { fronted (base 4) [(Reg.TILE_STAT 63, 1)] with ice := { (base 4).ice with run := some noRun } }

def at_DiesFailAndReturn_12 : State :=
  { sets (base 4) [(Fd.TBL_STAT_CKPT_RUN, 1)] with tbl := { (base 4).tbl with sweep := some ⟨0, []⟩ } }

/-- Every clause of DiesFailAndReturn has a state and operands that meet its hypotheses. -/
theorem witness_DiesFailAndReturn :
    (∃ (s : State), s.sys.seracUp = true ∧ s.portAbsent = false ∧ s.opState ≠ 2) ∧
    (∃ (s : State), s.sys.portUp = true ∧ s.portAbsent = true ∧ s.opState ≠ 2) ∧
    (∃ (s : State), s.sys.mainPowered = true) ∧
    (∃ (s : State), s.sys.mainPowered = true ∧ s.mainAbsent = false) ∧
    (∃ (s : State), s.sys.portThermal = false) ∧
    (∃ (mem : MemKind) (unit : Fin 64) (place : Fin 65536) (s : State), mem = .seracNv) ∧
    (∃ (unit : Fin 64) (place : Fin 65536) (s : State), s.on Fd.LOP_STAT_SEL = false ∧ s.fld Fd.LOP_STAT_B_STATE ≠ 3) ∧
    (∃ (unit : Fin 64) (place : Fin 65536) (s : State), s.on Fd.LOP_STAT_SEL = false ∧ s.fld Fd.LOP_STAT_A_STATE ≠ 3 ∧ s.fld Fd.LOP_STAT_B_STATE = 1) ∧
    (∃ (unit : Fin 64) (place : Fin 65536) (s : State), s.on Fd.LOP_STAT_SEL = false ∧ s.fld Fd.LOP_STAT_A_STATE ≠ 3 ∧ s.fld Fd.LOP_STAT_B_STATE ≠ 1) ∧
    (∃ (unit : Fin 64) (place : Fin 65536) (s : State), (s.ice.run.isSome = true ∨ s.ice.batches ≠ []) ∧ s.on (Fd.TILE_STAT_SPARE_BANK_USED unit) = false) ∧
    (∃ (unit : Fin 64) (place : Fin 65536) (s : State), s.tbl.sweep.isSome = true) ∧
    (∃ (unit : Fin 64) (place : Fin 65536) (s : State), s.mainAbsent = false) :=
  ⟨⟨at_DiesFailAndReturn_0, (by decide +kernel), (by decide +kernel), (by decide +kernel)⟩,
   ⟨at_DiesFailAndReturn_1, (by decide +kernel), (by decide +kernel), (by decide +kernel)⟩,
   ⟨at_DiesFailAndReturn_2, (by decide +kernel)⟩,
   ⟨at_DiesFailAndReturn_3, (by decide +kernel), (by decide +kernel)⟩,
   ⟨at_DiesFailAndReturn_4, (by decide +kernel)⟩,
   ⟨(.seracNv), (63), (65535), (base 4), (by decide +kernel)⟩,
   ⟨(63), (65535), at_DiesFailAndReturn_8, (by decide +kernel), (by decide +kernel)⟩,
   ⟨(63), (65535), at_DiesFailAndReturn_8, (by decide +kernel), (by decide +kernel), (by decide +kernel)⟩,
   ⟨(63), (65535), at_DiesFailAndReturn_10, (by decide +kernel), (by decide +kernel), (by decide +kernel)⟩,
   ⟨(63), (65535), at_DiesFailAndReturn_11, (by decide +kernel), (by decide +kernel)⟩,
   ⟨(63), (65535), at_DiesFailAndReturn_12, (by decide +kernel)⟩,
   ⟨(63), (65535), (base 4), (by decide +kernel)⟩⟩

def at_PowerAndResetAct_0 : State :=
  { State.reset with sec := { State.reset.sec with akp := ⟨5, 100⟩ } }

def at_PowerAndResetAct_1 : State :=
  { base 4 with sys := { (base 4).sys with powered := true } }

def at_PowerAndResetAct_3 : State :=
  { base 4 with sys := { (base 4).sys with powered := true, seracUp := true, powerEnd := some 500 } }

def at_PowerAndResetAct_4 : State :=
  { base 4 with sys := { (base 4).sys with powered := true, seracUp := true, mainUp := true }, act := { (base 4).act with armed := [3] }, firn := { (base 4).firn with seq := 7, limit := 65536 }, clk := { (base 4).clk with now := 5 } }

def at_PowerAndResetAct_5 : State :=
  { State.reset with sys := { State.reset.sys with powered := true, inReset := true } }

def at_PowerAndResetAct_8 : State :=
  { State.reset with sys := { State.reset.sys with mated := false }, clk := { State.reset.clk with now := 9 } }

def at_PowerAndResetAct_9 : State :=
  { base 4 with sys := { (base 4).sys with mated := false } }

def at_PowerAndResetAct_10 : State :=
  { base 4 with sys := { (base 4).sys with powered := true, seracUp := true, health := true }, firn := { (base 4).firn with seq := 7, limit := 65536 } }

def at_PowerAndResetAct_12 : State :=
  { sets (base 4) [(Fd.PAI_STAT_ROLE, 1), (Fd.PAI_STAT_PAIRED, 1)] with pair := { (base 4).pair with tookAt := some 5 }, clk := { (base 4).clk with now := 505 }, sys := { (base 4).sys with seracUp := true, health := true, powered := true } }

def at_PartsBoot_4 : State :=
  { fronted (base 1) [(Reg.FW_SLOT 1, word [(Fd.FW_SLOT_STATE_B 1, 2)])] with sys := { (base 1).sys with seracUp := true, mainPowered := true }, clk := { (base 1).clk with now := 7 } }

def at_PartsBoot_6 : State :=
  { fronted (base 1) [(Reg.FW_SLOT 2, word [(Fd.FW_SLOT_STATE_B 2, 2)])] with sys := { (base 1).sys with seracUp := true, mainPowered := true, mainHeld := false }, clk := { (base 1).clk with now := 7 } }

def at_PartsBoot_8 : State :=
  { fronted (base 1) [(Reg.FW_SLOT 2, word [(Fd.FW_SLOT_STATE_A 2, 3), (Fd.FW_SLOT_STATE_B 2, 2)])] with sys := { (base 1).sys with seracUp := true, mainPowered := true, mainHeld := false }, clk := { (base 1).clk with now := 7 } }

def at_TheRoleIsResolved_1 : State :=
  { base 1 with sys := { (base 1).sys with seracUp := true } }

def at_TheRoleIsResolved_2 : State :=
  { sets (base 1) [(Fd.PAI_STAT_PAIRED, 1), (Fd.PAI_STAT_PEER_HEALTH, 1)] with sys := { (base 1).sys with seracUp := true, mainPowered := true }, clk := { (base 1).clk with now := 5000 } }

/-- Every clause of StartUpTakesItsCourse has a state and operands that meet its hypotheses. -/
theorem witness_StartUpTakesItsCourse :
    (∃ (pins : Straps) (s : State), s.sys.mated = true ∧ s.sys.powered = false) ∧
    (∃ (pins : Straps) (s : State), (s.sys.mated = false ∨ s.sys.powered = true)) ∧
    (∃ (s : State), (s.sys.powered = false ∨ s.sys.inReset = true)) ∧
    (∃ (s : State), s.sys.powered = true ∧ s.sys.inReset = false ∧ s.sys.powerEnd ≠ none) ∧
    (∃ (s : State), s.sys.powered = true ∧ s.sys.inReset = false ∧ s.sys.powerEnd = none) ∧
    (∃ (pins : Straps) (s : State), s.sys.powered = true ∧ s.sys.inReset = true) ∧
    (∃ (pins : Straps) (s : State), (s.sys.powered = false ∨ s.sys.inReset = false)) ∧
    (∃ (s : State), s.sys.mated = true) ∧
    (∃ (s : State), s.sys.mated = false) ∧
    (∃ (s : State), s.sys.mated = false) ∧
    (∃ (s : State), s.sys.mated = true) ∧
    (∃ (s : State), (s.isActive = false ∨ s.on Fd.PAI_STAT_SEL = true ∨ s.pair.tookAt.all (fun x => decide (s.clk.now < x + msTicks 5)) = true)) ∧
    (∃ (s : State) (t0 : Nat), s.isActive = true ∧ s.on Fd.PAI_STAT_SEL = false ∧ s.pair.tookAt = some t0 ∧ t0 + msTicks 5 ≤ s.clk.now) ∧
    (∃ (okA okB : Bool) (s : State), s.sys.powered = true ∧ s.sys.inReset = false ∧ s.sys.seracUp = false ∧ (s.bootPart 0 okA okB).isSome = true) ∧
    (∃ (okA okB : Bool) (s : State), s.sys.powered = true ∧ s.sys.inReset = false ∧ s.sys.seracUp = false ∧ s.bootPart 0 okA okB = none) ∧
    (∃ (selfTest okA okB : Bool) (s : State), (selfTest = false ∨ s.sys.powered = false ∨ s.sys.inReset = true ∨ s.sys.seracUp = true)) ∧
    (∃ (okA okB : Bool) (s : State), (s.sys.seracUp = false ∨ s.sys.portUp = true ∨ s.sys.portThermal = true)) ∧
    (∃ (okA okB : Bool) (s : State), s.sys.seracUp = true ∧ s.sys.portUp = false ∧ s.sys.portThermal = false ∧ s.sys.mainPowered = true ∧ s.bootPart 1 okA okB = none) ∧
    (∃ (okA okB : Bool) (s : State), (s.sys.mainPowered = false ∨ s.sys.mainHeld = true ∨ s.sys.mainUp = true)) ∧
    (∃ (okA okB : Bool) (s : State), s.sys.mainPowered = true ∧ s.sys.mainHeld = false ∧ s.sys.mainUp = false ∧ s.bootPart 2 okA okB = none) ∧
    (∃ (okA okB : Bool) (s : State), s.sys.seracUp = true ∧ s.sys.portUp = false ∧ s.sys.portThermal = false ∧ s.sys.mainPowered = true ∧ (s.bootPart 1 okA okB).isSome = true) ∧
    (∃ (okA okB : Bool) (s : State), s.sys.mainPowered = true ∧ s.sys.mainHeld = false ∧ s.sys.mainUp = false ∧ s.sys.crec = none ∧ (s.bootPart 2 okA okB).isSome = true) ∧
    (∃ (s : State), (s.opState ≠ 1 ∨ s.fld Fd.PAI_STAT_ROLE ≠ 0 ∨ s.sys.mismatch = true ∨ s.on Fd.PAI_STAT_PAIRED = true ∧ s.clk.now < s.sys.bootAt + msTicks 50)) ∧
    (∃ (s : State), s.opState = 1 ∧ s.fld Fd.PAI_STAT_ROLE = 0 ∧ (s.sys.mismatch = false) ∧ s.on Fd.PAI_STAT_PAIRED = false) ∧
    (∃ (s : State), s.opState = 1 ∧ s.fld Fd.PAI_STAT_ROLE = 0 ∧ (s.sys.mismatch = false) ∧ s.on Fd.PAI_STAT_PAIRED = true ∧ s.sys.bootAt + msTicks 50 ≤ s.clk.now ∧ s.becomesActive = false) :=
  ⟨⟨(⟨63, 255, 1, true, 1, true⟩), at_PowerAndResetAct_0, (by decide +kernel), (by decide +kernel)⟩,
   ⟨(⟨63, 255, 1, true, 1, true⟩), at_PowerAndResetAct_1, (by decide +kernel)⟩,
   ⟨State.reset, (by decide +kernel)⟩,
   ⟨at_PowerAndResetAct_3, (by decide +kernel), (by decide +kernel), (by decide +kernel)⟩,
   ⟨at_PowerAndResetAct_4, (by decide +kernel), (by decide +kernel), (by decide +kernel)⟩,
   ⟨(⟨63, 255, 1, true, 1, true⟩), at_PowerAndResetAct_5, (by decide +kernel), (by decide +kernel)⟩,
   ⟨(⟨63, 255, 1, true, 1, true⟩), (base 4), (by decide +kernel)⟩,
   ⟨(base 4), (by decide +kernel)⟩,
   ⟨at_PowerAndResetAct_8, (by decide +kernel)⟩,
   ⟨at_PowerAndResetAct_9, (by decide +kernel)⟩,
   ⟨at_PowerAndResetAct_10, (by decide +kernel)⟩,
   ⟨(base 4), (by decide +kernel)⟩,
   ⟨at_PowerAndResetAct_12, (5), (by decide +kernel), (by decide +kernel), (by decide +kernel), (by decide +kernel)⟩,
   ⟨(true), (false), poweredUp, (by decide +kernel), (by decide +kernel), (by decide +kernel), (by decide +kernel)⟩,
   ⟨(false), (true), poweredUp, (by decide +kernel), (by decide +kernel), (by decide +kernel), (by decide +kernel)⟩,
   ⟨(false), (true), (true), poweredUp, (by decide +kernel)⟩,
   ⟨(true), (true), (base 4), (by decide +kernel)⟩,
   ⟨(true), (false), at_PartsBoot_4, (by decide +kernel), (by decide +kernel), (by decide +kernel), (by decide +kernel), (by decide +kernel)⟩,
   ⟨(true), (true), (base 4), (by decide +kernel)⟩,
   ⟨(true), (false), at_PartsBoot_6, (by decide +kernel), (by decide +kernel), (by decide +kernel), (by decide +kernel)⟩,
   ⟨(false), (true), at_PartsBoot_4, (by decide +kernel), (by decide +kernel), (by decide +kernel), (by decide +kernel), (by decide +kernel)⟩,
   ⟨(true), (true), at_PartsBoot_8, (by decide +kernel), (by decide +kernel), (by decide +kernel), (by decide +kernel), (by decide +kernel)⟩,
   ⟨(base 4), (by decide +kernel)⟩,
   ⟨at_TheRoleIsResolved_1, (by decide +kernel), (by decide +kernel), (by decide +kernel), (by decide +kernel)⟩,
   ⟨at_TheRoleIsResolved_2, (by decide +kernel), (by decide +kernel), (by decide +kernel), (by decide +kernel), (by decide +kernel), (by decide +kernel)⟩⟩

def at_SuppliesAndPinsAreFollowed_0 : State :=
  sets (base 4) [(Fd.ACT_HW_STAT_PB_OK, 1)]

def at_SuppliesAndPinsAreFollowed_3 : State :=
  { base 4 with sys := { (base 4).sys with powered := true, pfail := true } }

def at_SuppliesAndPinsAreFollowed_4 : State :=
  { sets (base 4) [(Fd.ACT_HW_STAT_PA_OK, 1)] with sys := { (base 4).sys with powered := true, seracUp := true, health := true }, clk := { (base 4).clk with now := 7 } }

def at_SuppliesAndPinsAreFollowed_8 : State :=
  { sets (base 4) [(Fd.ACT_STAT_AB, 1), (Fd.ACT_STAT_BUDGET, 40)] with sys := { (base 4).sys with seracUp := true }, acts := { (base 4).acts with volts := (3850, 3599) } }

def at_SuppliesAndPinsAreFollowed_9 : State :=
  { base 4 with sys := { (base 4).sys with seracUp := true, shedFrom := some 4 } }

def at_SuppliesAndPinsAreFollowed_12 : State :=
  sets (base 4) [(Fd.ACT_HW_STAT_FS_SHED, 1)]

def at_SuppliesAndPinsAreFollowed_13 : State :=
  { sets (base 4) [(Fd.ACT_HW_STAT_FS_SHED, 1)] with sys := { (base 4).sys with seracUp := true, shedFrom := some 5 }, clk := { (base 4).clk with now := 100005 } }

/-- Every clause of SuppliesAndPinsAreFollowed has a state and operands that meet its hypotheses. -/
theorem witness_SuppliesAndPinsAreFollowed :
    (∃ (input : Fin 2) (volts : Fin 65536) (s : State), s.on (inputOk input) = true ∧ logicInRange volts = false) ∧
    (∃ (input : Fin 2) (volts : Fin 65536) (s : State), (s.on (inputOk input) = false ∨ logicInRange volts = true)) ∧
    (∃ (input : Fin 2) (volts : Fin 65536) (s : State), (s.sys.powered = false ∨ s.on (inputOk input) = true ∨ logicInRange volts = false)) ∧
    (∃ (input : Fin 2) (volts : Fin 65536) (s : State), s.sys.powered = true ∧ s.on (inputOk input) = false ∧ logicInRange volts = true) ∧
    (∃ (s : State), s.sys.powered = true ∧ s.sys.pfail = false ∧ s.sys.seracUp = true) ∧
    (∃ (s : State), (s.sys.powered = false ∨ s.sys.pfail = true)) ∧
    (∃ (s : State), s.sys.powered = true ∧ s.sys.pfail = false ∧ s.sys.seracUp = false) ∧
    (∃ (s : State), (s.sys.seracUp = false ∨ supplyOn (s.on Fd.ACT_STAT_AA) s.acts.volts.1 = s.on Fd.ACT_STAT_AA ∧ supplyOn (s.on Fd.ACT_STAT_AB) s.acts.volts.2 = s.on Fd.ACT_STAT_AB)) ∧
    (∃ (s : State), s.sys.seracUp = true ∧ (supplyOn (s.on Fd.ACT_STAT_AA) s.acts.volts.1 ≠ s.on Fd.ACT_STAT_AA ∨ supplyOn (s.on Fd.ACT_STAT_AB) s.acts.volts.2 ≠ s.on Fd.ACT_STAT_AB)) ∧
    (∃ (ma : Fin 65536) (s : State), s.sys.seracUp = true ∧ 2800 ≤ ma.val ∧ s.on Fd.ACT_HW_STAT_FS_SHED = false) ∧
    (∃ (ma : Fin 65536) (s : State), (s.sys.seracUp = false ∨ ma.val < 2800 ∨ s.on Fd.ACT_HW_STAT_FS_SHED = true)) ∧
    (∃ (ma : Fin 65536) (s : State), (s.on Fd.ACT_HW_STAT_FS_SHED = false ∨ 2400 ≤ ma.val)) ∧
    (∃ (ma : Fin 65536) (s : State), s.on Fd.ACT_HW_STAT_FS_SHED = true ∧ ma.val < 2400 ∧ (s.sys.shedFrom.all (fun x => decide (s.clk.now < x + sTicks 1)) = true)) ∧
    (∃ (ma : Fin 65536) (s : State) (t0 : Nat), s.on Fd.ACT_HW_STAT_FS_SHED = true ∧ ma.val < 2400 ∧ s.sys.shedFrom = some t0 ∧ t0 + sTicks 1 ≤ s.clk.now) ∧
    (∃ (pins : Straps) (s : State), pins ≠ s.sys.pins ∧ s.sys.seracUp = true) ∧
    (∃ (pins : Straps) (s : State), pins = s.sys.pins) ∧
    (∃ (pins : Straps) (s : State), pins ≠ s.sys.pins ∧ s.sys.seracUp = false) :=
  ⟨⟨(1), (3999), at_SuppliesAndPinsAreFollowed_0, (by decide +kernel), (by decide +kernel)⟩,
   ⟨(1), (3999), (base 4), (by decide +kernel)⟩,
   ⟨(1), (3999), (base 4), (by decide +kernel)⟩,
   ⟨(1), (6000), at_SuppliesAndPinsAreFollowed_3, (by decide +kernel), (by decide +kernel), (by decide +kernel)⟩,
   ⟨at_SuppliesAndPinsAreFollowed_4, (by decide +kernel), (by decide +kernel), (by decide +kernel)⟩,
   ⟨(base 4), (by decide +kernel)⟩,
   ⟨at_PowerAndResetAct_1, (by decide +kernel), (by decide +kernel), (by decide +kernel)⟩,
   ⟨(base 4), (by decide +kernel)⟩,
   ⟨at_SuppliesAndPinsAreFollowed_8, (by decide +kernel), (by decide +kernel)⟩,
   ⟨(2800), at_SuppliesAndPinsAreFollowed_9, (by decide +kernel), (by decide +kernel), (by decide +kernel)⟩,
   ⟨(2799), (base 4), (by decide +kernel)⟩,
   ⟨(2400), (base 4), (by decide +kernel)⟩,
   ⟨(2399), at_SuppliesAndPinsAreFollowed_12, (by decide +kernel), (by decide +kernel), (by decide +kernel)⟩,
   ⟨(2399), at_SuppliesAndPinsAreFollowed_13, (5), (by decide +kernel), (by decide +kernel), (by decide +kernel), (by decide +kernel)⟩,
   ⟨(⟨63, 255, 1, true, 1, true⟩), at_RegistersAreReadAndWritten_8, (by decide +kernel), (by decide +kernel)⟩,
   ⟨(State.reset.sys.pins), (base 4), (by decide +kernel)⟩,
   ⟨(⟨63, 255, 1, true, 1, true⟩), (base 4), (by decide +kernel), (by decide +kernel)⟩⟩

def at_HarnessesAndOpticsAreRead_0 : State :=
  { (sets (base 4) [(Fd.HN_STAT_PRESENT 7, 1)]) with sys := { (base 4).sys with seracUp := true, harn := [(7, none)] } }

def at_PortLinksComeAndGo_0 : State :=
  sets (base 4) [(Fd.PORT_STAT_LINK 7, 1), (Fd.PORT_STAT_FEC_LOCK 7, 1), (Fd.NET_STAT_UP_A, 0x81)]

def at_PortLinksComeAndGo_1 : State :=
  sets (base 4) [(Fd.PORT_STAT_LINK 15, 1), (Fd.PORT_STAT_FEC_LOCK 15, 1), (Fd.NET_STAT_UP_B, 0x80)]

def at_PortLinksComeAndGo_2 : State :=
  { sets (base 4) [(Fd.PORT_CFG_EN 11, 1)] with sys := { (base 4).sys with portUp := true } }

def at_PortLinksComeAndGo_4 : State :=
  { sets (base 4) [(Fd.PORT_CFG_EN 3, 0)] with sys := { (base 4).sys with portUp := true } }

/-- Every clause of HarnessesOpticsAndLinksAreRead has a state and operands that meet its hypotheses. -/
theorem witness_HarnessesOpticsAndLinksAreRead :
    (∃ (pos : Fin 8) (mem : Option (List Byte)) (s : State), s.sys.seracUp = true) ∧
    (∃ (pos : Fin 8) (m : List Byte) (s : State), s.sys.seracUp = true ∧ harnessCrc m = true ∧ harnessForm m = true) ∧
    (∃ (pos : Fin 8) (present : Bool) (mem : Option (List Byte)) (s : State), s.sys.seracUp = false) ∧
    (∃ (pos : Fin 8) (m : List Byte) (s : State), s.sys.seracUp = true ∧ harnessCrc m = false) ∧
    (∃ (pos : Fin 8) (s : State), s.sys.seracUp = true) ∧
    (∃ (port : Fin 16) (media : Fin 6) (s : State), s.sys.portUp = false) ∧
    (∃ (port : Fin 16) (media : Fin 6) (s : State), s.sys.portUp = true) ∧
    (∃ (port : Fin 16) (s : State), s.on (Fd.PORT_STAT_LINK port) = true ∧ port.val < 8 ∧ s.fld Fd.NET_STAT_UP_A &&& (2 ^ 8 - 1 - 2 ^ (port.val % 8)) ≠ 0) ∧
    (∃ (port : Fin 16) (s : State), s.on (Fd.PORT_STAT_LINK port) = true ∧ 8 ≤ port.val ∧ s.fld Fd.NET_STAT_UP_B &&& (2 ^ 8 - 1 - 2 ^ (port.val % 8)) = 0) ∧
    (∃ (port : Fin 16) (s : State), s.on (Fd.PORT_CFG_EN port) = true ∧ s.on (Fd.PORT_STAT_LINK port) = false ∧ s.sys.portUp = true) ∧
    (∃ (port : Fin 16) (s : State), s.on (Fd.PORT_STAT_LINK port) = false) ∧
    (∃ (port : Fin 16) (s : State), (portExists port = false ∨ s.on (Fd.PORT_CFG_EN port) = false ∨ s.on (Fd.PORT_STAT_LINK port) = true ∨ s.sys.portUp = false)) :=
  ⟨⟨(7), (none), at_HarnessesAndOpticsAreRead_0, (by decide +kernel)⟩,
   ⟨(7), (harnessBytes), at_RegistersAreReadAndWritten_8, (by decide +kernel), (by decide +kernel), (by decide +kernel)⟩,
   ⟨(7), (true), (none), (base 4), (by decide +kernel)⟩,
   ⟨(7), ([1, 2]), at_RegistersAreReadAndWritten_8, (by decide +kernel), (by decide +kernel)⟩,
   ⟨(7), at_RegistersAreReadAndWritten_8, (by decide +kernel)⟩,
   ⟨(3), (5), (base 4), (by decide +kernel)⟩,
   ⟨(15), (5), at_DiesFailAndReturn_4, (by decide +kernel)⟩,
   ⟨(7), at_PortLinksComeAndGo_0, (by decide +kernel), (by decide +kernel), (by decide +kernel)⟩,
   ⟨(15), at_PortLinksComeAndGo_1, (by decide +kernel), (by decide +kernel), (by decide +kernel)⟩,
   ⟨(11), at_PortLinksComeAndGo_2, (by decide +kernel), (by decide +kernel), (by decide +kernel)⟩,
   ⟨(7), (base 4), (by decide +kernel)⟩,
   ⟨(3), at_PortLinksComeAndGo_4, (Or.inr (Or.inl (by decide +kernel)))⟩⟩

end Sys2Proof.Tests
end

section
/-! SUPPORT. A register write of one word (R16, R422): what REGISTER_WRITE leaves for a write that is denied, one whose encoding is reserved,
and one that is taken; and the commands' frames from `Keeps` and `Same`. -/

namespace Sys2Proof.Machine

/-- A change within a mask that touches no words but those named. -/
theorem Keeps.changes {F : Nat} {s t : State} {ps : List Part} {ws : List Nat} (h : Keeps F s t)
    (hps : ∀ p, p ∉ Part.regs :: ps → F ||| p.bit ≠ F) (hw : Same s t ws) : Changes ps ws s t :=
  ⟨h.only _ hps, hw⟩

/-- The words that an access answered with an error status may change (R420, R422, R447): SYS_ERR with its _SEQ, the counts of a denial, and
those of events. -/
def denialWord (a : Nat) : Bool :=
  eventWord a || a == Reg.SYS_ERR || a == Reg.SYS_ERR_SEQ || a == Reg.SYS_CNT_STATECONF || a == Reg.NET_CNT_BUSY

theorem denialWord_eq_false {a : Nat} : denialWord a = false ↔
    eventWord a = false ∧ a ≠ Reg.SYS_ERR ∧ a ≠ Reg.SYS_ERR_SEQ ∧ a ≠ Reg.SYS_CNT_STATECONF ∧ a ≠ Reg.NET_CNT_BUSY := by
  simp [denialWord, and_assoc]

/-- Raising a bit of SYS_ERR touches words of a denial only. -/
theorem State.raise_sysErr_rd (s : State) (f : Fld) (o : Nat) (l : List Nat) (a : Nat) (hf : f.addr = Reg.SYS_ERR)
    (hc : eventCode f < 1024) (ha : denialWord a = false) : (s.raise f o l).rd a = s.rd a := by
  obtain ⟨he, herr, hseq, -, -⟩ := denialWord_eq_false.mp ha
  exact State.raise_rd s f o l false a hc he (hf ▸ herr) (hf ▸ hseq)

theorem State.denied_rd (s : State) (cmd : Nat) (d : Denial) (a : Nat) (ha : denialWord a = false) : (s.denied cmd d).rd a = s.rd a := by
  obtain ⟨-, -, -, hconf, hbusy⟩ := denialWord_eq_false.mp ha
  unfold State.denied
  split
  · rw [State.raise_sysErr_rd _ _ _ _ _ rfl (by decide) ha, State.rd_count_ne _ _ _ hconf]
  · exact State.raise_sysErr_rd _ _ _ _ _ rfl (by decide) ha
  · exact State.raise_sysErr_rd _ _ _ _ _ rfl (by decide) ha
  · exact State.rd_count_ne _ _ _ hbusy
  · rfl

/-- The leases that a write of one word renews are those of its checks. -/
theorem State.renewUsed_one (s : State) (k a : Nat) (v : Word) :
    (s.usedDomains k [(a, v)]).foldl (fun s d => s.renewLease d) s = s.afterChecks k a v := by
  unfold State.usedDomains State.afterChecks
  cases h : s.usedDomain k (writeNeed a v) <;> simp [h]

/-- A word with a reserved encoding is not written (R16). -/
theorem State.writeRun_one_badEncoding {s : State} {k a : Nat} {v : Word} (h : s.encodes a v = false) :
    s.writeRun k [(a, v)] none = ⟨s.raise Fd.SYS_ERR_BADENC noObj [], 0, 0x21, 0, true⟩ := by
  simp [State.writeRun, WriteRun.word, h]

/-- A word without a reserved encoding, whose behaviour answers OK, is written. -/
theorem State.writeRun_one_ok {s t : State} {k a : Nat} {v : Word} (h : s.encodes a v = true) (hp : s.putWord k a v = wroteOk t) :
    s.writeRun k [(a, v)] none = ⟨t, 1, 0, 0, false⟩ := by
  simp [State.writeRun, WriteRun.word, h, hp, wroteOk]

theorem exec_registerWrite (w : Fin 8) (a : Nat) (v : Word) (s : State) : exec (.registerWrite w a v) s = execRegisterWrite w a v s := rfl

theorem exec_registerWrite_denied {s : State} {w : Fin 8} {a : Nat} {v : Word} {d : Denial} (h : s.checkWords w [(a, v)] = some d) :
    exec (.registerWrite w a v) s = .next ((s.denied 0x21 d).send (.wrote w a d.status d.legal d.detail)) := by
  rw [exec_registerWrite, execRegisterWrite, h]

theorem exec_registerWrite_badEncoding {s : State} {w : Fin 8} {a : Nat} {v : Word} (h : s.checkWords w [(a, v)] = none)
    (he : (s.afterChecks w a v).encodes a v = false) :
    exec (.registerWrite w a v) s =
      .next (((s.afterChecks w a v).raise Fd.SYS_ERR_BADENC noObj []).send (.wrote w a 0x21 0 0)) := by
  rw [exec_registerWrite, execRegisterWrite, h]
  dsimp only
  rw [State.renewUsed_one, State.writeRun_one_badEncoding he]

theorem exec_registerWrite_ok {s t : State} {w : Fin 8} {a : Nat} {v : Word} (h : s.checkWords w [(a, v)] = none)
    (he : (s.afterChecks w a v).encodes a v = true) (hp : (s.afterChecks w a v).putWord w a v = wroteOk t) :
    exec (.registerWrite w a v) s = .next (t.send (.wrote w a 0 0 0)) := by
  rw [exec_registerWrite, execRegisterWrite, h]
  dsimp only
  rw [State.renewUsed_one, State.writeRun_one_ok he hp]

/-- A write with a reserved encoding, denied or not, changes the words of a denial only. -/
theorem registerWrite_badEncoding_rd {s : State} {w : Fin 8} {a : Nat} {v : Word} (hv : (s.afterChecks w a v).encodes a v = false) (b : Nat)
    (hb : denialWord b = false) : ∃ t, exec (.registerWrite w a v) s = .next t ∧ t.rd b = s.rd b := by
  cases hc : s.checkWords w [(a, v)] with
  | some d => exact ⟨_, exec_registerWrite_denied hc, (State.rd_send _ _ _).trans (State.denied_rd s _ d b hb)⟩
  | none =>
    refine ⟨_, exec_registerWrite_badEncoding hc hv, ?_⟩
    rw [State.rd_send, State.raise_sysErr_rd _ _ _ _ _ rfl (by decide) hb, State.afterChecks_rd]

/-- A write that stores its value in its word: the frame of the whole command. -/
theorem registerWrite_wr_changes (s : State) (k a : Nat) (v : Word) (o : Out) :
    Changes [.zh, .out] [a] s (((s.afterChecks k a v).wr a v).send o) := by
  have hk : Keeps (Part.zh.bit ||| Part.regs.bit ||| Part.out.bit) s (((s.afterChecks k a v).wr a v).send o) :=
    State.send_keeps rfl (State.wr_keeps rfl (State.afterChecks_keeps rfl (Keeps.refl _ s)))
  refine hk.changes (fun p => by cases p <;> decide) (fun b _ hb => ?_)
  rw [State.rd_send, State.rd_wr_ne _ _ _ _ (by simpa using hb), State.afterChecks_rd]

/-- A word whose bits are all RW takes the value written (R12). -/
theorem writeMasked_rw (old v : Word) : writeMasked old v 0xFFFFFFFF 0 = v := by
  have hm : BitVec.ofNat 32 0xFFFFFFFF = BitVec.allOnes 32 := rfl
  simp only [writeMasked, hm, BitVec.not_allOnes, BitVec.and_allOnes, BitVec.and_zero, BitVec.zero_and, BitVec.zero_or]

end Sys2Proof.Machine
end

section
/-! PROOFS. The limit of HOLDOVER (R68): the word TIM_HOLD_LIM, the servo's entry to FREERUN, and HOLDOVER_EXPIRY. -/

namespace Sys2Proof.Machine

/-! ### TIM_HOLD_LIM -/

theorem rowAt_holdLim : rowAt Reg.TIM_HOLD_LIM = some ⟨0x1000030, [], 0xE10, 0xFFFFFFFF, 0x0, 0x0, 0x0, [(0, 32, 10, 86400)]⟩ := by decide

theorem resetWord_holdLim : resetWord Reg.TIM_HOLD_LIM = 3600 := by decide

/-- The encodings of TIM_HOLD_LIM that are not reserved: its range in seconds. -/
theorem State.encodes_holdLim (s : State) (v : Word) : s.encodes Reg.TIM_HOLD_LIM v = true ↔ 10 ≤ v.toNat ∧ v.toNat ≤ 86400 := by
  have hf : fieldOf v 0 32 = v.toNat := by simp [fieldOf, Nat.mod_eq_of_lt v.isLt]
  have hx : crossWord s.ahead Reg.TIM_HOLD_LIM v = true := rfl
  simp [State.encodes, rowAt_holdLim, fieldsOk, hx, hf]

/-- A write of TIM_HOLD_LIM takes its value at once: the word is the port die's and stands by itself. -/
theorem State.putWord_holdLim (s : State) (k : Nat) (v : Word) : s.putWord k Reg.TIM_HOLD_LIM v = wroteOk (s.wr Reg.TIM_HOLD_LIM v) := by
  have h : s.putWord k Reg.TIM_HOLD_LIM v = wroteOk (s.plainWrite Reg.TIM_HOLD_LIM v) := rfl
  rw [h, State.plainWrite, rowAt_holdLim]
  dsimp only
  rw [writeMasked_rw]

theorem registerWrite_holdLim_outside (w : Fin 8) (v : Word) (s : State) (hv : v.toNat < 10 ∨ 86400 < v.toNat) :
    ∃ t, exec (.registerWrite w Reg.TIM_HOLD_LIM v) s = .next t ∧ t.rd Reg.TIM_HOLD_LIM = s.rd Reg.TIM_HOLD_LIM := by
  have he : (s.afterChecks w Reg.TIM_HOLD_LIM v).encodes Reg.TIM_HOLD_LIM v = false := by
    rw [← Bool.not_eq_true, State.encodes_holdLim]
    omega
  exact registerWrite_badEncoding_rd he _ (by decide)

theorem registerWrite_holdLim_inside (w : Fin 8) (v : Word) (s : State) (hc : s.checkWords w [(Reg.TIM_HOLD_LIM, v)] = none)
    (hv : 10 ≤ v.toNat ∧ v.toNat ≤ 86400) :
    ∃ t, exec (.registerWrite w Reg.TIM_HOLD_LIM v) s = .next t ∧ WroteOk t w Reg.TIM_HOLD_LIM ∧ t.rd Reg.TIM_HOLD_LIM = v ∧
      Changes [.zh, .out] [Reg.TIM_HOLD_LIM] s t := by
  refine ⟨_, exec_registerWrite_ok hc ((State.encodes_holdLim _ v).mpr hv) (State.putWord_holdLim _ _ v), WroteOk.send _ _ _, ?_,
    registerWrite_wr_changes s w _ v _⟩
  rw [State.rd_send, State.rd_wr_self]

/-! ### Entering FREERUN from HOLDOVER -/

/-- Out of a state other than LOCKED, the servo enters FREERUN with no event of its own (R61). -/
theorem State.toFreerun_of_not_locked {s : State} (h : s.fld Fd.TIM_STAT_SERVO ≠ 2) :
    s.toFreerun = ({ s with servo := { s.servo with rate := 0 } }.set Fd.TIM_STAT_SERVO 0).wr Reg.TIM_ERR_EST 0xFFFFFFFF := by
  unfold State.toFreerun
  rw [if_neg h]

theorem State.toFreerun_servo {s : State} (h : s.fld Fd.TIM_STAT_SERVO ≠ 2) : s.toFreerun.servo = { s.servo with rate := 0 } := by
  rw [State.toFreerun_of_not_locked h, State.wr_servo, State.set_servo]

theorem State.toFreerun_clk {s : State} (h : s.fld Fd.TIM_STAT_SERVO ≠ 2) : s.toFreerun.clk = s.clk := by
  rw [State.toFreerun_of_not_locked h, State.wr_clk, State.set_clk]

theorem State.toFreerun_state {s : State} (h : s.fld Fd.TIM_STAT_SERVO ≠ 2) : s.toFreerun.fld Fd.TIM_STAT_SERVO = 0 := by
  rw [State.toFreerun_of_not_locked h, State.fld_wr_ne _ _ _ _ (by decide), State.fld_set_self _ _ _ (by decide), Nat.zero_mod]

theorem State.toFreerun_rd {s : State} (h : s.fld Fd.TIM_STAT_SERVO ≠ 2) (a : Nat) (h1 : a ≠ Reg.TIM_STAT) (h2 : a ≠ Reg.TIM_ERR_EST) :
    s.toFreerun.rd a = s.rd a := by
  rw [State.toFreerun_of_not_locked h, State.rd_wr_ne _ _ _ _ h2, State.rd_set_ne _ _ _ _ h1]
  rfl

/-! ### HOLDOVER_EXPIRY -/

theorem exec_holdoverExpiry (s : State) : exec .holdoverExpiry s = execHoldoverExpiry s := rfl

/-- HOLDOVER_EXPIRY acts where HOLDOVER has reached its limit. -/
theorem exec_holdoverExpiry_due {s : State} (h : s.fld Fd.TIM_STAT_SERVO = 3)
    (hl : s.servo.holdFrom + 100000 * s.fld Fd.TIM_HOLD_LIM_SEC ≤ s.clk.now) :
    exec .holdoverExpiry s = .next (s.toFreerun.raise Fd.TIM_EVT_HOLD_EXPIRED noObj []) := by
  rw [exec_holdoverExpiry, execHoldoverExpiry, sTicks, Nat.mul_comm, if_pos ⟨h, hl⟩]

/-- Before the limit HOLDOVER_EXPIRY does nothing (log entry 8). -/
theorem exec_holdoverExpiry_early {s : State} (hl : s.clk.now < s.servo.holdFrom + 100000 * s.fld Fd.TIM_HOLD_LIM_SEC) :
    exec .holdoverExpiry s = .next s := by
  rw [exec_holdoverExpiry, execHoldoverExpiry, sTicks, Nat.mul_comm, if_neg (fun h => absurd h.2 (Nat.not_le.mpr hl))]

/-- The frame of an expiry: the servo, Firn, and the words of TIM_ that tell of it. -/
theorem holdoverExpiry_changes {s : State} (h : s.fld Fd.TIM_STAT_SERVO ≠ 2) :
    Changes [.servo, .firn] [Reg.TIM_STAT, Reg.TIM_ERR_EST, Reg.TIM_EVT, Reg.TIM_EVT_SEQ] s
      (s.toFreerun.raise Fd.TIM_EVT_HOLD_EXPIRED noObj []) := by
  have hk : Keeps (Part.servo.bit ||| Part.regs.bit ||| Part.firn.bit) s (s.toFreerun.raise Fd.TIM_EVT_HOLD_EXPIRED noObj []) :=
    State.raise_keeps rfl (State.toFreerun_keeps rfl (Keeps.refl _ s))
  refine hk.changes (fun p => by cases p <;> decide) (fun a he ha => ?_)
  simp only [List.mem_cons, List.not_mem_nil, or_false, not_or] at ha
  obtain ⟨hstat, herr, hevt, hseq⟩ := ha
  exact (State.raise_rd _ Fd.TIM_EVT_HOLD_EXPIRED _ _ _ a (by decide) he hevt hseq).trans (State.toFreerun_rd h a hstat herr)

/-- In HOLDOVER at its limit, HOLDOVER_EXPIRY enters FREERUN with the event, and module time runs on (R68; the rate of 0 is log entry 37). -/
theorem holdoverExpiry_due {s : State} (h : s.fld Fd.TIM_STAT_SERVO = 3)
    (hl : s.servo.holdFrom + 100000 * s.fld Fd.TIM_HOLD_LIM_SEC ≤ s.clk.now) :
    ∃ t, exec .holdoverExpiry s = .next t ∧ t.fld Fd.TIM_STAT_SERVO = 0 ∧ t.on Fd.TIM_EVT_HOLD_EXPIRED = true ∧ t.clk = s.clk ∧
      t.servo = { s.servo with rate := 0 } ∧
      Changes [.servo, .firn] [Reg.TIM_STAT, Reg.TIM_ERR_EST, Reg.TIM_EVT, Reg.TIM_EVT_SEQ] s t := by
  have hn : s.fld Fd.TIM_STAT_SERVO ≠ 2 := by omega
  refine ⟨_, exec_holdoverExpiry_due h hl, ?_, ?_, ?_, ?_, holdoverExpiry_changes hn⟩
  · rw [State.raise_fld _ _ _ _ _ _ (by decide) (by decide) (by decide) (by decide), State.toFreerun_state hn]
  · exact State.raise_on _ _ _ _ _ (by decide) (by decide) rfl (by decide)
  · rw [State.raise_clk, State.toFreerun_clk hn]
  · rw [State.raise_servo, State.toFreerun_servo hn]

/-- Settles O7: the limit's word by its reset and its range, HOLDOVER_EXPIRY by whether the limit has been reached. -/
theorem holdoverHasALimit : Obligations.HoldoverHasALimit :=
  ⟨resetWord_holdLim, fun _ h hl => holdoverExpiry_due h hl, fun s hl => ⟨s, exec_holdoverExpiry_early hl, rfl⟩,
    registerWrite_holdLim_outside, registerWrite_holdLim_inside⟩

end Sys2Proof.Machine
end

section
/-! PROOFS. CEIL_CLEAR (R230, R426): the checks it passes, what it answers, and a register file that lists a ceiling entry twice. -/

namespace Sys2Proof.Machine

/-! ### What the arrival of a request leaves alone -/

/-- The arrival of a request changes no word but its port's count of frames. -/
theorem State.Reaches.rd {s u : State} {q : Req} {k : Nat} (h : s.Reaches q k u) (a : Nat) (ha : a ≠ Reg.PORT_CNT_RX q.port) :
    u.rd a = s.rd a := by
  obtain ⟨z, rfl⟩ := h.eq
  exact State.rd_count_ne s _ a ha

theorem State.Reaches.fld {s u : State} {q : Req} {k : Nat} (h : s.Reaches q k u) (f : Fld) (hf : f.addr ≠ Reg.PORT_CNT_RX q.port) :
    u.fld f = s.fld f := by
  rw [State.fld, State.fld, h.rd f.addr hf]

theorem State.Reaches.mainAbsent {s u : State} {q : Req} {k : Nat} (h : s.Reaches q k u) : u.mainAbsent = s.mainAbsent := by
  have hne : Fd.SYS_STATE_MAIN_ABSENT.addr ≠ Reg.PORT_CNT_RX q.port := by
    simp only [Fd.SYS_STATE_MAIN_ABSENT, Reg.SYS_STATE, Reg.PORT_CNT_RX]
    omega
  rw [State.mainAbsent, State.mainAbsent, State.on, State.on, h.fld _ hne]

theorem State.Reaches.inMap {s u : State} {q : Req} {k : Nat} (h : s.Reaches q k u) (m : Nat) : u.inMap m = s.inMap m := by
  have hne : Fd.SYS_STATE_STATE.addr ≠ Reg.PORT_CNT_RX q.port := by
    simp only [Fd.SYS_STATE_STATE, Reg.SYS_STATE, Reg.PORT_CNT_RX]
    omega
  rw [State.inMap, State.inMap, State.opState, State.opState, h.fld _ hne]

theorem State.Reaches.hasRole {s u : State} {q : Req} {k : Nat} (h : s.Reaches q k u) (j b : Nat) : u.hasRole j b = s.hasRole j b := by
  have hp := q.port.isLt
  have hne : Reg.SS_ROLES j ≠ Reg.PORT_CNT_RX q.port := by
    simp only [Reg.SS_ROLES, Reg.PORT_CNT_RX]
    omega
  rw [State.hasRole, State.hasRole, h.fld _ hne]

/-- An answer that went out has one body. -/
theorem AnsweredOk.body_eq {t : State} {q : Req} {code : Nat} {l m : List Nat} (hl : AnsweredOk t q code l) (hm : AnsweredOk t q code m) :
    l = m := by
  obtain ⟨n, a, ha, -, -, -, -, -, rfl⟩ := hl
  obtain ⟨n', a', ha', -, -, -, -, -, rfl⟩ := hm
  obtain ⟨-, rfl⟩ : n = n' ∧ a = a' := by simpa [ha] using ha'
  rfl

/-! ### CEIL_CLEAR -/

/-- The ceilings that CEIL_CLEAR of a number clears (R426), one for each valid CL_CTRL that the register file lists under it. -/
def State.ceilingsToClear (s : State) (entry : Nat) : List Nat :=
  (s.ceilings.map (·.1)).filter (fun c => entry == 0xFFFF || c == entry)

theorem exec_ceilClear (q : Req) (entry : BitVec 16) (s : State) : exec (.ceilClear q entry) s = execCeilClear q entry s := rfl

/-- CEIL_CLEAR from a session with the facility role, in a legal state, passes the checks of R427: none asks for a domain or for the setter. -/
theorem judgeCeilClear_first {s u : State} {q : Req} {entry k : Nat} (h : s.Reaches q k u) (hmain : s.mainAbsent = false)
    (hstate : s.inMap 0x03FA = true) (hdefer : q.defer = false) (hentry : entry < 1024) (hrole : s.hasRole k roleFacility = true) :
    (judgeCeilClear entry k u).first q u = none := by
  rw [← h.mainAbsent] at hmain
  rw [← h.inMap] at hstate
  rw [← h.hasRole] at hrole
  simp [judgeCeilClear, Judge.first, hmain, hstate, hdefer, hrole, Nat.not_le.mpr hentry]

/-- CEIL_CLEAR that passes its checks answers with the number of ceilings it has cleared. -/
theorem ceilClear_answers {s u : State} {q : Req} {entry : BitVec 16} {k : Nat} (h : s.Reaches q k u)
    (hj : (judgeCeilClear entry.toNat k u).first q u = none) :
    ∃ t, exec (.ceilClear q entry) s = .next t ∧ AnsweredOk t q 0x61 [(u.ceilingsToClear entry.toNat).length] := by
  rw [exec_ceilClear, execCeilClear, State.request_taken h hj]
  exact ⟨_, rfl, State.finish_ok _ _ _ _ _ _⟩

/-! ### A ceiling listed twice -/

/-- A module in RUN whose port A0 carries mailbox traffic and whose session in slot 0 is open with the facility role. -/
def facilityRun : State :=
  let s := ((State.reset.set Fd.SYS_STATE_STATE 4).set (Fd.PORT_CFG_EN 0) 1).set (Fd.PORT_CFG_MBOX 0) 1
  (s.set (Fd.SS_STAT_STATE 0) 2).wr (Reg.SS_ROLES 0) 1

/-- That module with ceiling entry 0 valid and its CL_CTRL listed twice: the register file is not in its canonical form (`regsWf`). -/
def ceilingListedTwice : State :=
  { facilityRun with regs := [(Reg.CL_CTRL 0, 0x80000000), (Reg.CL_CTRL 0, 0x80000000)] ++ facilityRun.regs }

/-- The first request of that session. -/
def facilityReq : Req :=
  { src := 1, port := 0, row := false, session := 0, seq := 1, tag := 7, mbox := 0, defer := false, deferMs := 0 }

/-- The state in which that request is judged. -/
def ceilingListedTwiceJudged : State := (ceilingListedTwice.onFrame 0 facilityReq).arrive 0 1 1 facilityReq

theorem ceilingListedTwice_reaches : ceilingListedTwice.Reaches facilityReq 0 ceilingListedTwiceJudged where
  port := by decide +kernel
  quar := by decide +kernel
  slot := by decide +kernel
  defer := .inr rfl
  fresh := ⟨1, 1, by decide +kernel, rfl⟩
  exec := by decide +kernel
  held := by decide +kernel
  last := by decide +kernel

/-- CEIL_CLEAR of entry 0 counts it twice there. -/
theorem ceilingListedTwice_toClear : ceilingListedTwiceJudged.ceilingsToClear 0 = [0, 0] := by decide +kernel

/-- Refutes O9, by its clause of CEIL_CLEAR of a valid entry: the answer counts the words listed under the entry, and the clause, which does
not ask for a canonical register file (`Inv.regs`), takes in `ceilingListedTwice`, where the answer is 2 and not 1. -/
theorem not_anyFacilityMasterSetsCeilings : ¬ Obligations.AnyFacilityMasterSetsCeilings := by
  unfold Obligations.AnyFacilityMasterSetsCeilings
  rintro ⟨-, -, hclear, -⟩
  have hmain : ceilingListedTwice.mainAbsent = false := by decide +kernel
  have hstate : ceilingListedTwice.inMap 0x03FA = true := by decide +kernel
  have hrole : ceilingListedTwice.hasRole 0 roleFacility = true := by decide +kernel
  have hvalid : ceilingListedTwice.on (Fd.CL_CTRL_VALID 0) = true := by decide +kernel
  have hpass : (judgeCeilClear 0 0 ceilingListedTwiceJudged).first facilityReq ceilingListedTwiceJudged = none :=
    judgeCeilClear_first ceilingListedTwice_reaches hmain hstate rfl (by decide) hrole
  obtain ⟨t, ht, hone, -⟩ :=
    hclear facilityReq 0 ceilingListedTwice 0 _ ceilingListedTwice_reaches hmain hstate rfl (by decide) hrole hvalid
  obtain ⟨t', ht', htwo⟩ := ceilClear_answers (entry := 0) ceilingListedTwice_reaches hpass
  obtain rfl : t = t' := Host.Outcome.next.inj (ht.symm.trans ht')
  have hlen : [1] = [(ceilingListedTwiceJudged.ceilingsToClear 0).length] := hone.body_eq htwo
  rw [ceilingListedTwice_toClear] at hlen
  exact absurd hlen (by decide)

end Sys2Proof.Machine
end

section
/-! PROOFS. The bit timing of a CAN bus (R451): a write of BUS_NBT, BUS_DBT or BUS_AUTO by the mode of its bus. -/

namespace Sys2Proof.Machine

/-! ### The three words of a bus -/

/-- The words that software writes only while the bus is in OFF (R451). -/
def busTimingWords (b : Nat) : List Nat := [Reg.BUS_NBT b, Reg.BUS_DBT b, Reg.BUS_AUTO b]

/-- A timing word stands at one of three offsets among its bus's words, in the part of the CAN_ window that holds the buses. -/
theorem busTimingWords_offset {b : Fin 8} {a : Nat} (ha : a ∈ busTimingWords b) :
    windowOf a = 10 ∧ offsetOf a < 0x800 ∧ offsetOf a / 0x100 = b ∧
      (offsetOf a % 0x100 = 0x10 ∨ offsetOf a % 0x100 = 0x14 ∨ offsetOf a % 0x100 = 0x1C) := by
  simp only [busTimingWords, Reg.BUS_NBT, Reg.BUS_DBT, Reg.BUS_AUTO, List.mem_cons, List.not_mem_nil, or_false] at ha
  simp only [windowOf, offsetOf]
  omega

/-- A timing word is no word of its bus's events. -/
theorem busTimingWords_ne_evt {b : Fin 8} {a : Nat} (ha : a ∈ busTimingWords b) : a ≠ Reg.BUS_EVT b ∧ a ≠ Reg.BUS_EVT_SEQ b := by
  simp only [busTimingWords, Reg.BUS_NBT, Reg.BUS_DBT, Reg.BUS_AUTO, List.mem_cons, List.not_mem_nil, or_false] at ha
  simp only [Reg.BUS_EVT, Reg.BUS_EVT_SEQ]
  omega

/-- Every timing word is in the register map, with bits that software writes. -/
theorem rowAt_busTimingWords {b : Fin 8} {a : Nat} (ha : a ∈ busTimingWords b) : ∃ r, rowAt a = some r ∧ r.rw ≠ 0 := by
  have hall : ∀ b : Fin 8, ∀ a ∈ busTimingWords b, (rowAt a).any (fun r => r.rw != 0) = true := by decide
  simpa [Option.any_eq_true] using hall b a ha

/-- No occurrence of an event counts in a timing word. -/
theorem busTimingWords_eventWord {b : Fin 8} {a : Nat} (ha : a ∈ busTimingWords b) : eventWord a = false := by
  have hall : ∀ b : Fin 8, ∀ a ∈ busTimingWords b, eventWord a = false := by decide
  exact hall b a ha

/-! ### A write by the mode of the bus -/

/-- A word of the bus part of the CAN_ window is neither a low word nor an event counter: its write is CAN_'s at once. -/
theorem State.writeWord_bus (s : State) (k : Nat) {a : Nat} (v : Word) (hw : windowOf a = 10) (ho : offsetOf a < 0x800) :
    s.writeWord k a v = wroteOk (s.writeCan a v) := by
  have hwide : wideOf a = none := by simp [wideOf, hw]
  have hctr : isCounterWord a = false := by
    simp only [isCounterWord, Bool.and_eq_false_iff, decide_eq_false_iff_not]
    omega
  simp [State.writeWord, State.applyWord, hwide, hctr, hw]

/-- In OFF a timing word is written as its access types say. -/
theorem State.writeCan_busTiming_off {s : State} {b : Fin 8} {a : Nat} (v : Word) (ha : a ∈ busTimingWords b) (hm : s.busMode b = 0) :
    s.writeCan a v = s.plainWrite a v := by
  obtain ⟨-, hbus, hb, hoff⟩ := busTimingWords_offset ha
  have hctrl : offsetOf a % 0x100 ≠ 0 := by omega
  simp [State.writeCan, hbus, hctrl, hb, hm]

/-- Outside OFF a write of a timing word is the event CFG_IGN and nothing else. -/
theorem State.writeCan_busTiming_on {s : State} {b : Fin 8} {a : Nat} (v : Word) (ha : a ∈ busTimingWords b) (hm : s.busMode b ≠ 0) :
    s.writeCan a v = s.raise (Fd.BUS_EVT_CFG_IGN b) b [] := by
  obtain ⟨-, hbus, hb, hoff⟩ := busTimingWords_offset ha
  have hctrl : offsetOf a % 0x100 ≠ 0 := by omega
  simp [State.writeCan, hbus, hctrl, hb, hm, hoff]

/-! ### The frames -/

theorem State.plainWrite_changes (s : State) (a : Nat) (v : Word) : Changes [] [a] s (s.plainWrite a v) := by
  have hk : Keeps Part.regs.bit s (s.plainWrite a v) := State.plainWrite_keeps rfl (Keeps.refl _ s)
  exact hk.changes (fun p => by cases p <;> decide) (fun c _ hc => State.rd_plainWrite_ne s a c v (by simpa using hc))

/-- An event changes Firn, the word of its bit and that word's companion _SEQ. -/
theorem State.raise_changes (s : State) (f : Fld) (o : Nat) (l : List Nat) (hc : eventCode f < 1024) :
    Changes [.firn] [f.addr, f.addr + 4] s (s.raise f o l) := by
  have hk : Keeps (Part.regs.bit ||| Part.firn.bit) s (s.raise f o l) := State.raise_keeps rfl (Keeps.refl _ s)
  refine hk.changes (fun p => by cases p <;> decide) (fun a he ha => ?_)
  simp only [List.mem_cons, List.not_mem_nil, or_false, not_or] at ha
  obtain ⟨hbit, hseq⟩ := ha
  exact State.raise_rd s f o l false a hc he hbit hseq

theorem eventCode_busCfgIgn (b : Fin 8) : eventCode (Fd.BUS_EVT_CFG_IGN b) < 1024 := by
  revert b
  decide

theorem eventWord_busEvt (b : Fin 8) : eventWord (Reg.BUS_EVT b) = false := by
  revert b
  decide

theorem busEvt_add_four (b : Nat) : Reg.BUS_EVT b + 4 = Reg.BUS_EVT_SEQ b := by
  simp only [Reg.BUS_EVT, Reg.BUS_EVT_SEQ]
  omega

/-! ### The two clauses of R451 -/

theorem writeWord_busTiming_off {s : State} (k : Nat) {b : Fin 8} (v : Word) {a : Nat} (ha : a ∈ busTimingWords b)
    (hm : s.busMode b = 0) :
    ∃ r, rowAt a = some r ∧ r.rw ≠ 0 ∧ (s.writeWord k a v).1.rd a = writeMasked (s.rd a) v r.rw r.w1c ∧
      Changes [] [a] s (s.writeWord k a v).1 := by
  obtain ⟨hw, ho, -, -⟩ := busTimingWords_offset ha
  obtain ⟨r, hr, hrw⟩ := rowAt_busTimingWords ha
  rw [State.writeWord_bus s k v hw ho, wroteOk, State.writeCan_busTiming_off v ha hm]
  exact ⟨r, hr, hrw, State.rd_plainWrite_self s a v r hr, State.plainWrite_changes s a v⟩

theorem writeWord_busTiming_on {s : State} (k : Nat) {b : Fin 8} (v : Word) {a : Nat} (ha : a ∈ busTimingWords b)
    (hm : s.busMode b ≠ 0) :
    (s.writeWord k a v).1.rd a = s.rd a ∧ (s.writeWord k a v).1.on (Fd.BUS_EVT_CFG_IGN b) = true ∧
      Changes [.firn] [Reg.BUS_EVT b, Reg.BUS_EVT_SEQ b] s (s.writeWord k a v).1 := by
  obtain ⟨hw, ho, -, -⟩ := busTimingWords_offset ha
  rw [State.writeWord_bus s k v hw ho, wroteOk, State.writeCan_busTiming_on v ha hm, ← busEvt_add_four]
  have hch := State.raise_changes s (Fd.BUS_EVT_CFG_IGN b) b [] (eventCode_busCfgIgn b)
  have hkeep : a ∉ [Reg.BUS_EVT b, Reg.BUS_EVT b + 4] := by
    simpa [busEvt_add_four] using busTimingWords_ne_evt ha
  exact ⟨hch.2 a (busTimingWords_eventWord ha) hkeep,
    State.raise_on _ _ _ _ _ (eventCode_busCfgIgn b) (eventWord_busEvt b) rfl (show 6 < 32 by decide), hch⟩

/-- Settles O11: the write is CAN_'s at once, which the mode of the bus lets through or turns into the event CFG_IGN. -/
theorem busTimingIsWrittenInOff : Obligations.BusTimingIsWrittenInOff :=
  fun _ k _ v _ ha => ⟨writeWord_busTiming_off k v ha, writeWord_busTiming_on k v ha⟩

end Sys2Proof.Machine
end

section
/-! PROOFS. The commit of an enrolment entry (R532, R533): the slots and the domains of its master's sessions. Both kinds of commit go through
the master's slots one by one, and the step for a slot changes no other slot and takes a domain from no other slot (`State.Frees`). -/

namespace Sys2Proof.Machine

/-! ### The words of slots and domains -/

/-- The words that say which slots are in use and which slot holds each domain: SS_STAT of every slot, OW_STAT of every domain. -/
def ownerWords : List Nat := (List.range 8).map Reg.SS_STAT ++ (List.range 4).map Reg.OW_STAT

theorem ssStat_mem_ownerWords {k : Nat} (hk : k < 8) : Reg.SS_STAT k ∈ ownerWords :=
  List.mem_append_left _ (List.mem_map_of_mem (List.mem_range.mpr hk))

theorem owStat_mem_ownerWords {d : Nat} (hd : d < 4) : Reg.OW_STAT d ∈ ownerWords :=
  List.mem_append_right _ (List.mem_map_of_mem (List.mem_range.mpr hd))

theorem eventWord_ownerWords : ∀ a ∈ ownerWords, eventWord a = false := by decide

/-- Owner words stand at multiples of 16, below the block SEC_. -/
theorem ownerWords_place : ∀ a ∈ ownerWords, a % 16 = 0 ∧ a < Reg.SEC_STAT := by decide

theorem ssStat_ne_owStat (k : Nat) {d : Nat} (hd : d < 4) : Reg.SS_STAT k ≠ Reg.OW_STAT d := by
  simp only [Reg.SS_STAT, Reg.OW_STAT]
  omega

theorem ssStat_ne {j k : Nat} (h : j ≠ k) : Reg.SS_STAT j ≠ Reg.SS_STAT k := by
  simp only [Reg.SS_STAT]
  omega

theorem ssStat_ne_of_mod (k : Nat) {b : Nat} (hb : b % 16 ≠ 0) : Reg.SS_STAT k ≠ b := by
  simp only [Reg.SS_STAT]
  omega

theorem owStat_ne {d e : Nat} (h : d ≠ e) : Reg.OW_STAT d ≠ Reg.OW_STAT e := by
  simp only [Reg.OW_STAT]
  omega

theorem State.fld_congr {s t : State} {f : Fld} (h : t.rd f.addr = s.rd f.addr) : t.fld f = s.fld f := by
  rw [State.fld, State.fld, h]

/-- The holder of a domain is read from its OW_STAT. -/
theorem State.holder_congr {s t : State} {d : Nat} (h : t.rd (Reg.OW_STAT d) = s.rd (Reg.OW_STAT d)) : t.holder d = s.holder d := by
  rw [State.holder, State.holder, State.on, State.on, State.fld_congr (f := Fd.OW_STAT_HELD d) h, State.fld_congr (f := Fd.OW_STAT_SLOT d) h]

/-- The state of a slot is read from its SS_STAT. -/
theorem State.sessOpen_congr {s t : State} {k : Nat} (h : t.rd (Reg.SS_STAT k) = s.rd (Reg.SS_STAT k)) : t.sessOpen k = s.sessOpen k := by
  rw [State.sessOpen, State.sessOpen, State.fld_congr (f := Fd.SS_STAT_STATE k) h]

/-! ### Steps that leave every slot and domain alone -/

/-- No owner word changes between two states. -/
def SameOwners (s t : State) : Prop := ∀ a ∈ ownerWords, t.rd a = s.rd a

theorem SameOwners.trans {s t u : State} (h : SameOwners s t) (g : SameOwners t u) : SameOwners s u :=
  fun a ha => (g a ha).trans (h a ha)

theorem SameOwners.holder {s t : State} (h : SameOwners s t) {d : Nat} (hd : d < 4) : t.holder d = s.holder d :=
  State.holder_congr (h _ (owStat_mem_ownerWords hd))

theorem SameOwners.stat {s t : State} (h : SameOwners s t) {k : Nat} (hk : k < 8) : t.rd (Reg.SS_STAT k) = s.rd (Reg.SS_STAT k) :=
  h _ (ssStat_mem_ownerWords hk)

theorem SameOwners.slotsOf {s t : State} (h : SameOwners s t) (m : Nat) : t.slotsOf m = s.slotsOf m := by
  refine List.filter_congr (fun k hk => ?_)
  simp only [State.fld, Fd.SS_STAT_STATE, Fd.SS_STAT_MASTER, h.stat (List.mem_range.mp hk)]

theorem State.lt_of_mem_slotsOf {s : State} {m k : Nat} (h : k ∈ s.slotsOf m) : k < 8 :=
  List.mem_range.mp (List.mem_of_mem_filter h)

theorem State.afterChecks_sameOwners (s : State) (k a : Nat) (v : Word) : SameOwners s (s.afterChecks k a v) :=
  fun b _ => State.afterChecks_rd s k a v b

/-! ### Steps that free slots and domains -/

/-- A step of slot `k`: no other slot's SS_STAT changes, and a domain keeps its holder or is taken from slot `k` and free. -/
structure State.Frees (k : Nat) (s t : State) : Prop where
  stat : ∀ j < 8, j ≠ k → t.rd (Reg.SS_STAT j) = s.rd (Reg.SS_STAT j)
  holder : ∀ d < 4, t.holder d = s.holder d ∨ s.holder d = some k ∧ t.holder d = none

theorem State.Frees.of_rd {k : Nat} {s t : State} (h : ∀ a ∈ ownerWords, a ≠ Reg.SS_STAT k → t.rd a = s.rd a) : State.Frees k s t where
  stat _ hj hne := h _ (ssStat_mem_ownerWords hj) (ssStat_ne hne)
  holder _ hd := Or.inl (State.holder_congr (h _ (owStat_mem_ownerWords hd) (ssStat_ne_owStat k hd).symm))

theorem State.Frees.refl (k : Nat) (s : State) : State.Frees k s s := .of_rd (fun _ _ _ => rfl)

/-- A free domain stays free. -/
theorem State.Frees.holder_none {k : Nat} {s t : State} (h : State.Frees k s t) {d : Nat} (hd : d < 4) (hn : s.holder d = none) :
    t.holder d = none := by
  obtain he | ⟨-, he⟩ := h.holder d hd
  · rw [he, hn]
  · exact he

/-- A slot gains no domain. -/
theorem State.Frees.holder_ne {j k : Nat} {s t : State} (h : State.Frees j s t) {d : Nat} (hd : d < 4) (hn : s.holder d ≠ some k) :
    t.holder d ≠ some k := by
  obtain he | ⟨-, he⟩ := h.holder d hd
  · rwa [he]
  · simp [he]

/-- A domain that is a slot's, or free, passes to no other slot. -/
theorem State.Frees.holder_or_none {j k : Nat} {s t : State} (h : State.Frees j s t) {d : Nat} (hd : d < 4)
    (hs : s.holder d = some k ∨ s.holder d = none) : t.holder d = some k ∨ t.holder d = none := by
  obtain he | ⟨-, he⟩ := h.holder d hd
  · rwa [he]
  · exact Or.inr he

theorem State.Frees.trans {k : Nat} {s t u : State} (h : State.Frees k s t) (g : State.Frees k t u) : State.Frees k s u where
  stat j hj hne := (g.stat j hj hne).trans (h.stat j hj hne)
  holder d hd := by
    obtain he | ⟨hk, hn⟩ := h.holder d hd
    · exact he ▸ g.holder d hd
    · exact Or.inr ⟨hk, g.holder_none hd hn⟩

theorem State.Frees.wr {k : Nat} {s t : State} (h : State.Frees k s t) {b : Nat} (w : Word) (hb : b = Reg.SS_STAT k ∨ b % 16 ≠ 0) :
    State.Frees k s (t.wr b w) := by
  refine h.trans (.of_rd (fun a ha hne => State.rd_wr_ne _ _ _ _ ?_))
  rintro rfl
  exact hb.elim hne (fun hb => hb (ownerWords_place a ha).1)

theorem State.Frees.set {k : Nat} {s t : State} (h : State.Frees k s t) (f : Fld) (v : Nat)
    (hb : f.addr = Reg.SS_STAT k ∨ f.addr % 16 ≠ 0) : State.Frees k s (t.set f v) := h.wr _ hb

/-- An event of the block NET_. -/
theorem State.Frees.raiseNet {k : Nat} {s t : State} (h : State.Frees k s t) (f : Fld) (o : Nat) (l : List Nat)
    (hf : f.addr = Reg.NET_EVT) (hc : eventCode f < 1024) : State.Frees k s (t.raise f o l) := by
  refine h.trans (.of_rd (fun a ha _ => ?_))
  have hp := (ownerWords_place a ha).1
  refine State.raise_rd _ _ _ _ _ _ hc (eventWord_ownerWords a ha) ?_ ?_ <;>
    · simp only [hf, Reg.NET_EVT]
      omega

theorem State.Frees.setZh {k : Nat} {s t : State} (h : State.Frees k s t) (z : Zhoide) : State.Frees k s { t with zh := z } :=
  ⟨h.stat, h.holder⟩

theorem State.Frees.foldl {k : Nat} {f : State → Nat → State} {l : List Nat} (h : ∀ s, ∀ x ∈ l, State.Frees k s (f s x)) (s : State) :
    State.Frees k s (l.foldl f s) :=
  List.foldlRecOn l f (motive := State.Frees k s) (.refl k s) (fun _ hb x hx => hb.trans (h _ x hx))

/-- What one step of a fold makes true, the fold makes true: the step's premise survives the other steps, and its effect every step. -/
theorem foldl_of_mem {f : State → Nat → State} {pre post : State → Prop} {k : Nat} {l : List Nat} (hk : k ∈ l)
    (hpre : ∀ s, ∀ j ∈ l, j ≠ k → pre s → pre (f s j)) (hstep : ∀ s, pre s → post (f s k))
    (hpost : ∀ s, ∀ j ∈ l, post s → post (f s j)) {s : State} (h : pre s) : post (l.foldl f s) := by
  induction l generalizing s with
  | nil => cases hk
  | cons j l ih =>
    rw [List.foldl_cons]
    by_cases hj : j = k
    · subst hj
      exact List.foldlRecOn l f (hstep s h) (fun t ht x hx => hpost t x (List.mem_cons_of_mem _ hx) ht)
    · exact ih ((List.mem_cons.mp hk).resolve_left (Ne.symm hj)) (fun t x hx => hpre t x (List.mem_cons_of_mem _ hx))
        (fun t x hx => hpost t x (List.mem_cons_of_mem _ hx)) (hpre s j List.mem_cons_self hj h)

/-! ### A domain becomes free -/

/-- The OW_STAT of a domain that no slot holds. -/
def State.vacate (s : State) (d : Nat) : State := ((s.set (Fd.OW_STAT_HELD d) 0).set (Fd.OW_STAT_SLOT d) 0).set (Fd.OW_STAT_MASTER d) 0

theorem State.vacate_holder (s : State) (d : Nat) : (s.vacate d).holder d = none := by
  have h : (s.vacate d).fld (Fd.OW_STAT_HELD d) = 0 := by
    rw [State.vacate, State.fld_set_bits _ (Fd.OW_STAT_MASTER d) (Fd.OW_STAT_HELD d) _ rfl (Or.inr (show 0 + 1 ≤ 16 by decide)),
      State.fld_set_bits _ (Fd.OW_STAT_SLOT d) (Fd.OW_STAT_HELD d) _ rfl (Or.inr (show 0 + 1 ≤ 1 by decide)),
      State.fld_set_self _ _ _ (show 0 + 1 ≤ 32 by decide), Nat.zero_mod]
  simp [State.holder, State.on, h]

theorem State.vacate_rd_ne (s : State) (d a : Nat) (h : a ≠ Reg.OW_STAT d) : (s.vacate d).rd a = s.rd a :=
  ((State.rd_set_ne _ _ _ _ h).trans (State.rd_set_ne _ _ _ _ h)).trans (State.rd_set_ne _ _ _ _ h)

theorem State.vacate_frees {s : State} {k d : Nat} (hd : d < 4) (h : s.holder d = some k) : State.Frees k s (s.vacate d) where
  stat j _ _ := State.vacate_rd_ne s d _ (ssStat_ne_owStat j hd)
  holder e _ := by
    by_cases he : e = d
    · subst he
      exact Or.inr ⟨h, s.vacate_holder e⟩
    · exact Or.inl (State.holder_congr (State.vacate_rd_ne s d _ (owStat_ne he)))

/-- After the domain's OW_STAT, its release touches the slot's DOMAINS, the lease with any offer, OW_SEQ and the event. -/
theorem State.freeDomain_eq {s : State} {k d : Nat} (h : s.holder d = some k) : ∃ z, s.freeDomain d =
    ({ (s.vacate d).setBit (Fd.SS_STAT_DOMAINS k) d false with zh := z }.wrap (Fd.OW_SEQ_N d)).raise Fd.NET_EVT_OWNER noObj
      [d, 0xFFFFFFFF] := by
  unfold State.freeDomain
  rw [h]
  exact ⟨_, rfl⟩

theorem State.freeDomain_frees_vacate {s : State} {k d : Nat} (h : s.holder d = some k) : State.Frees k (s.vacate d) (s.freeDomain d) := by
  obtain ⟨z, e⟩ := State.freeDomain_eq h
  have hseq : (Fd.OW_SEQ_N d).addr % 16 ≠ 0 := by
    simp only [Fd.OW_SEQ_N, Reg.OW_SEQ]
    omega
  rw [e]
  exact ((((State.Frees.refl k (s.vacate d)).set (Fd.SS_STAT_DOMAINS k) _ (Or.inl rfl)).setZh z).set _ _ (Or.inr hseq)).raiseNet _ _ _ rfl
    (by decide)

theorem State.freeDomain_frees {s : State} {k d : Nat} (hd : d < 4) (h : s.holder d = some k) : State.Frees k s (s.freeDomain d) :=
  (State.vacate_frees hd h).trans (State.freeDomain_frees_vacate h)

theorem State.freeDomain_holder {s : State} {k d : Nat} (hd : d < 4) (h : s.holder d = some k) : (s.freeDomain d).holder d = none :=
  (State.freeDomain_frees_vacate h).holder_none hd (s.vacate_holder d)

/-! ### A slot gives up domains -/

/-- The slot `k` gives up a domain that it holds and `p` selects. -/
def State.giveUp (p : Nat → Bool) (k : Nat) (s : State) (d : Nat) : State :=
  if s.holder d = some k ∧ p d = true then s.freeDomain d else s

/-- The slot `k` gives up every domain that it holds and `p` selects. -/
def State.giveUpEach (p : Nat → Bool) (k : Nat) (s : State) : State := (List.range 4).foldl (State.giveUp p k) s

theorem State.giveUp_frees (p : Nat → Bool) (k : Nat) (s : State) {d : Nat} (hd : d < 4) : State.Frees k s (s.giveUp p k d) := by
  unfold State.giveUp
  split
  case isTrue h => exact State.freeDomain_frees hd h.1
  case isFalse => exact .refl k s

theorem State.giveUp_holder {p : Nat → Bool} {k d : Nat} {s : State} (hd : d < 4) (hp : p d = true)
    (h : s.holder d = some k ∨ s.holder d = none) : (s.giveUp p k d).holder d = none := by
  unfold State.giveUp
  obtain h | h := h
  · rw [if_pos ⟨h, hp⟩]
    exact State.freeDomain_holder hd h
  · rwa [if_neg (by simp [h])]

theorem State.giveUpEach_frees (p : Nat → Bool) (k : Nat) (s : State) : State.Frees k s (s.giveUpEach p k) :=
  State.Frees.foldl (fun s _ hd => s.giveUp_frees p k (List.mem_range.mp hd)) s

theorem State.giveUpEach_holder {p : Nat → Bool} {k d : Nat} {s : State} (hd : d < 4) (hp : p d = true)
    (h : s.holder d = some k ∨ s.holder d = none) : (s.giveUpEach p k).holder d = none :=
  foldl_of_mem (pre := fun s => s.holder d = some k ∨ s.holder d = none) (post := fun s => s.holder d = none) (List.mem_range.mpr hd)
    (fun s _ hj _ => (s.giveUp_frees p k (List.mem_range.mp hj)).holder_or_none hd)
    (fun _ => State.giveUp_holder hd hp)
    (fun s _ hj => (s.giveUp_frees p k (List.mem_range.mp hj)).holder_none hd) h

/-- A slot that gives up every domain holds none. -/
theorem State.giveUpEach_all_holder_ne (k : Nat) (s : State) {d : Nat} (hd : d < 4) : (s.giveUpEach (fun _ => true) k).holder d ≠ some k := by
  by_cases h : s.holder d = some k
  · simp [State.giveUpEach_holder (p := fun _ => true) hd rfl (Or.inl h)]
  · exact (s.giveUpEach_frees _ k).holder_ne hd h

/-! ### A slot becomes free -/

/-- The end of a session once its domains are free (R410). -/
def State.clearSlot (s : State) (k : Nat) : State :=
  let s := s.set Fd.SYS_DEFER_HELD (s.fld Fd.SYS_DEFER_HELD - heldCount (s.sess k))
  let s := if s.zh.attached = some k then s.detachStore else s
  let s := s.delSess k
  let s := (((((s.wr (Reg.SS_STAT k) 0).wr (Reg.SS_ID k) 0).wr (Reg.SS_ROLES k) 0).wr (Reg.SS_MBOX k) 0).wr (Reg.SS_LEVEL k) 0)
  (s.set Fd.NET_STAT_SESSIONS (s.fld Fd.NET_STAT_SESSIONS - 1)).raise Fd.NET_EVT_SESS_CLOSE k []

theorem State.endSession_open {s : State} {k : Nat} (h : s.sessOpen k = true) :
    s.endSession k = (s.giveUpEach (fun _ => true) k).clearSlot k := by
  have hf : (fun (s : State) (d : Nat) => if s.holder d = some k then s.freeDomain d else s) = State.giveUp (fun _ => true) k := by
    funext s d
    simp [State.giveUp]
  unfold State.endSession
  rw [if_pos h, hf]
  rfl

/-- Of the words of a slot, those beside SS_STAT and SS_IDLE stand between owner words. -/
theorem slotWords_place (k : Nat) : Reg.SS_ID k % 16 ≠ 0 ∧ Reg.SS_ROLES k % 16 ≠ 0 ∧ Reg.SS_MBOX k % 16 ≠ 0 ∧ Reg.SS_LEVEL k % 16 ≠ 0 := by
  simp only [Reg.SS_ID, Reg.SS_ROLES, Reg.SS_MBOX, Reg.SS_LEVEL]
  omega

theorem State.clearSlot_frees (s : State) (k : Nat) : State.Frees k s (s.clearSlot k) := by
  obtain ⟨hid, hroles, hmbox, hlevel⟩ := slotWords_place k
  unfold State.clearSlot
  extract_lets s1 s2 s3 s4
  have h1 : State.Frees k s s1 := (State.Frees.refl k s).set _ _ (Or.inr (by decide))
  have h2 : State.Frees k s s2 := by
    unfold s2
    split
    · exact h1.setZh _
    · exact h1
  have h4 : State.Frees k s s4 :=
    (((((h2.setZh _).wr _ (Or.inl rfl)).wr _ (Or.inr hid)).wr _ (Or.inr hroles)).wr _ (Or.inr hmbox)).wr _ (Or.inr hlevel)
  exact (h4.set _ _ (Or.inr (by decide))).raiseNet _ _ _ rfl (by decide)

theorem State.clearSlot_stat (s : State) {k : Nat} (hk : k < 8) : (s.clearSlot k).rd (Reg.SS_STAT k) = 0 := by
  have he := eventWord_ownerWords _ (ssStat_mem_ownerWords hk)
  have hne {b : Nat} (hb : b % 16 ≠ 0) := ssStat_ne_of_mod k hb
  obtain ⟨hid, hroles, hmbox, hlevel⟩ := slotWords_place k
  unfold State.clearSlot
  dsimp only
  rw [State.raise_rd _ _ _ _ _ _ (by decide) he (hne (by decide)) (hne (by decide)),
    State.rd_set_ne _ _ _ _ (hne (by decide)), State.rd_wr_ne _ _ _ _ (hne hlevel), State.rd_wr_ne _ _ _ _ (hne hmbox),
    State.rd_wr_ne _ _ _ _ (hne hroles), State.rd_wr_ne _ _ _ _ (hne hid), State.rd_wr_self]

theorem State.closeOpening_frees (s : State) (k : Nat) : State.Frees k s (s.closeOpening k) := by
  obtain ⟨hid, hroles, -, hlevel⟩ := slotWords_place k
  exact (((((State.Frees.refl k s).wr _ (Or.inl rfl)).wr _ (Or.inr hid)).wr _ (Or.inr hroles)).wr _ (Or.inr hlevel)).setZh _

theorem State.closeOpening_stat (s : State) (k : Nat) : (s.closeOpening k).rd (Reg.SS_STAT k) = 0 := by
  have hne {b : Nat} (hb : b % 16 ≠ 0) := ssStat_ne_of_mod k hb
  obtain ⟨hid, hroles, -, hlevel⟩ := slotWords_place k
  show ((((s.wr (Reg.SS_STAT k) 0).wr (Reg.SS_ID k) 0).wr (Reg.SS_ROLES k) 0).wr (Reg.SS_LEVEL k) 0).rd (Reg.SS_STAT k) = 0
  rw [State.rd_wr_ne _ _ _ _ (hne hlevel), State.rd_wr_ne _ _ _ _ (hne hroles), State.rd_wr_ne _ _ _ _ (hne hid), State.rd_wr_self]

/-! ### The step of a commit for one slot -/

/-- What the end of an enrolment does to a slot of its master: its session ends, or its opening. -/
def State.dropSlot (s : State) (k : Nat) : State := if s.sessOpen k then s.endSession k else s.closeOpening k

theorem State.dropSlot_open {s : State} {k : Nat} (h : s.sessOpen k = true) : s.dropSlot k = (s.giveUpEach (fun _ => true) k).clearSlot k := by
  rw [State.dropSlot, if_pos h, State.endSession_open h]

theorem State.dropSlot_not_open {s : State} {k : Nat} (h : ¬ s.sessOpen k = true) : s.dropSlot k = s.closeOpening k := if_neg h

theorem State.dropSlot_frees (s : State) (k : Nat) : State.Frees k s (s.dropSlot k) := by
  by_cases h : s.sessOpen k = true
  · rw [State.dropSlot_open h]
    exact (s.giveUpEach_frees _ k).trans (State.clearSlot_frees _ k)
  · rw [State.dropSlot_not_open h]
    exact s.closeOpening_frees k

theorem State.dropSlot_stat (s : State) {k : Nat} (hk : k < 8) : (s.dropSlot k).rd (Reg.SS_STAT k) = 0 := by
  by_cases h : s.sessOpen k = true
  · rw [State.dropSlot_open h]
    exact State.clearSlot_stat _ hk
  · rw [State.dropSlot_not_open h]
    exact s.closeOpening_stat k

theorem State.dropSlot_holder_ne {s : State} {k d : Nat} (hd : d < 4) (h : s.sessOpen k = true) : (s.dropSlot k).holder d ≠ some k := by
  rw [State.dropSlot_open h]
  exact (State.clearSlot_frees _ k).holder_ne hd (State.giveUpEach_all_holder_ne k s hd)

/-- What new roles of an enrolment do to a slot of its master: it has them, and gives up the domains whose role they lack. -/
def State.stripSlot (roles : Nat) (s : State) (k : Nat) : State :=
  (s.wr (Reg.SS_ROLES k) (BitVec.ofNat 32 roles)).giveUpEach (fun d => !bitOf roles (domainRole d)) k

theorem State.wr_ssRoles_frees (s : State) (k : Nat) (w : Word) : State.Frees k s (s.wr (Reg.SS_ROLES k) w) := by
  obtain ⟨-, hroles, -, -⟩ := slotWords_place k
  exact (State.Frees.refl k s).wr w (Or.inr hroles)

theorem State.stripSlot_frees (roles : Nat) (s : State) (k : Nat) : State.Frees k s (s.stripSlot roles k) :=
  (s.wr_ssRoles_frees k _).trans (State.giveUpEach_frees _ k _)

theorem State.stripSlot_holder {roles k d : Nat} {s : State} (hd : d < 4) (hr : bitOf roles (domainRole d) = false)
    (h : s.holder d = some k ∨ s.holder d = none) : (s.stripSlot roles k).holder d = none :=
  State.giveUpEach_holder hd (by simp [hr]) ((s.wr_ssRoles_frees k _).holder_or_none hd h)

/-! ### All slots of the master -/

theorem foldl_dropSlot_stat {l : List Nat} (hl : ∀ j ∈ l, j < 8) {k : Nat} (hk : k ∈ l) (s : State) :
    (l.foldl State.dropSlot s).rd (Reg.SS_STAT k) = 0 := by
  refine foldl_of_mem (pre := fun _ => True) (post := fun s => s.rd (Reg.SS_STAT k) = 0) hk (fun _ _ _ _ h => h)
    (fun s _ => s.dropSlot_stat (hl k hk)) (fun s j _ h => ?_) trivial
  by_cases hj : k = j
  · exact hj ▸ s.dropSlot_stat (hl k hk)
  · exact ((s.dropSlot_frees j).stat k (hl k hk) hj).trans h

theorem foldl_dropSlot_holder_ne {l : List Nat} (hl : ∀ j ∈ l, j < 8) {k d : Nat} (hk : k ∈ l) (hd : d < 4) {s : State}
    (h : s.sessOpen k = true) : (l.foldl State.dropSlot s).holder d ≠ some k :=
  foldl_of_mem (pre := fun s => s.sessOpen k = true) (post := fun s => s.holder d ≠ some k) hk
    (fun s j _ hj h => (State.sessOpen_congr ((s.dropSlot_frees j).stat k (hl k hk) (Ne.symm hj))).trans h)
    (fun _ => State.dropSlot_holder_ne hd) (fun s j _ => (s.dropSlot_frees j).holder_ne hd) h

theorem foldl_stripSlot_holder {roles : Nat} {l : List Nat} {k d : Nat} (hk : k ∈ l) (hd : d < 4)
    (hr : bitOf roles (domainRole d) = false) {s : State} (h : s.holder d = some k) :
    (l.foldl (State.stripSlot roles) s).holder d = none :=
  foldl_of_mem (pre := fun s => s.holder d = some k ∨ s.holder d = none) (post := fun s => s.holder d = none) hk
    (fun s j _ _ => (s.stripSlot_frees roles j).holder_or_none hd) (fun _ => State.stripSlot_holder hd hr)
    (fun s j _ => (s.stripSlot_frees roles j).holder_none hd) (Or.inl h)

/-! ### The commit -/

/-- The entry is written and committed. -/
def State.putEntry (s : State) (n : Nat) (v : Word) : State := (s.wr (Reg.EN_CFG n) (v &&& 0x8000007F)).commitEntryOf n

/-- A commit is told, and OWNED follows the entries. -/
def State.tellEnrol (s : State) (n : Nat) : State := (s.setB Fd.SEC_STAT_OWNED s.owned).raise Fd.SEC_EVT_ENROL n []

theorem State.putEntry_sameOwners (s : State) (n : Nat) (v : Word) : SameOwners s (s.putEntry n v) := by
  intro a ha
  have hp := (ownerWords_place a ha).2
  refine State.rd_wr_ne s _ a _ ?_
  simp only [Reg.SEC_STAT, Reg.EN_CFG] at hp ⊢
  omega

theorem State.putEntry_enrolNum (s : State) (n : Nat) (v : Word) : (s.putEntry n v).enrolNum n = s.fld (Fd.EN_MASTER_NUM n) := by
  have hne : Reg.EN_MASTER n ≠ Reg.EN_CFG n := by
    simp only [Reg.EN_MASTER, Reg.EN_CFG]
    omega
  simp [State.enrolNum, State.enrolWord, State.putEntry, State.commitEntryOf, State.fld, Fd.EN_MASTER_NUM, State.rd_wr_ne _ _ _ _ hne]

theorem State.tellEnrol_sameOwners (s : State) (n : Nat) : SameOwners s (s.tellEnrol n) := by
  intro a ha
  have hp := (ownerWords_place a ha).2
  have hne : ∀ {b : Nat}, Reg.SEC_STAT ≤ b → a ≠ b := by omega
  rw [State.tellEnrol, State.raise_rd _ _ _ _ _ _ (by decide) (eventWord_ownerWords a ha) (hne (by decide)) (hne (by decide)), State.setB,
    State.rd_set_ne _ _ _ _ (hne (by decide))]

/-- A valid entry that is cleared, or goes to another master number (log entry 94), drops the slots of its master. -/
theorem State.enrol_drops {s : State} {n : Nat} {v : Word} (hv : s.on (Fd.EN_CFG_VALID n) = true)
    (he : fieldOf v 31 1 = 0 ∨ s.fld (Fd.EN_MASTER_NUM n) ≠ s.enrolNum n) :
    s.enrol n v = ((s.slotsOf (s.enrolNum n)).foldl State.dropSlot (s.putEntry n v)).tellEnrol n := by
  rw [← s.putEntry_enrolNum n v] at he
  rw [← (s.putEntry_sameOwners n v).slotsOf]
  unfold State.enrol
  dsimp only
  rw [if_neg (not_not.mpr hv)]
  exact congrArg (State.tellEnrol · n) (if_pos he)

/-- A valid entry that stays its master's strips that master's slots of the roles it lacks. -/
theorem State.enrol_strips {s : State} {n : Nat} {v : Word} (hv : s.on (Fd.EN_CFG_VALID n) = true) (h1 : fieldOf v 31 1 = 1)
    (he : s.fld (Fd.EN_MASTER_NUM n) = s.enrolNum n) :
    s.enrol n v = ((s.slotsOf (s.enrolNum n)).foldl (State.stripSlot (fieldOf v 0 7)) (s.putEntry n v)).tellEnrol n := by
  have hkept : ¬ (fieldOf v 31 1 = 0 ∨ (s.putEntry n v).enrolNum n ≠ s.enrolNum n) := by
    rw [s.putEntry_enrolNum n v]
    simp [h1, he]
  have hf : State.stripSlot (fieldOf v 0 7) = fun (s : State) (k : Nat) =>
      (List.range 4).foldl (fun (s : State) d => if s.holder d = some k ∧ ¬ bitOf (fieldOf v 0 7) (domainRole d) then s.freeDomain d else s)
        (s.wr (Reg.SS_ROLES k) (BitVec.ofNat 32 (fieldOf v 0 7))) := by
    funext s k
    unfold State.stripSlot State.giveUpEach
    congr 1
    funext s d
    simp [State.giveUp]
  rw [← (s.putEntry_sameOwners n v).slotsOf, hf]
  unfold State.enrol
  dsimp only
  rw [if_neg (not_not.mpr hv)]
  exact congrArg (State.tellEnrol · n) (if_neg hkept)

theorem State.enrol_drops_slot {s : State} {n : Nat} {v : Word} (hv : s.on (Fd.EN_CFG_VALID n) = true)
    (he : fieldOf v 31 1 = 0 ∨ s.fld (Fd.EN_MASTER_NUM n) ≠ s.enrolNum n) {k : Nat} (hk : k ∈ s.slotsOf (s.enrolNum n)) :
    (s.enrol n v).fld (Fd.SS_STAT_STATE k) = 0 ∧ ∀ d, d < 4 → s.sessOpen k = true → (s.enrol n v).holder d ≠ some k := by
  have hl : ∀ j ∈ s.slotsOf (s.enrolNum n), j < 8 := fun _ => State.lt_of_mem_slotsOf
  have htell := State.tellEnrol_sameOwners ((s.slotsOf (s.enrolNum n)).foldl State.dropSlot (s.putEntry n v)) n
  rw [State.enrol_drops hv he]
  constructor
  · have hw := (htell.stat (hl k hk)).trans (foldl_dropSlot_stat hl hk _)
    simp [State.fld, Fd.SS_STAT_STATE, hw, fieldOf]
  · intro d hd ho
    rw [htell.holder hd]
    exact foldl_dropSlot_holder_ne hl hk hd ((State.sessOpen_congr ((s.putEntry_sameOwners n v).stat (hl k hk))).trans ho)

theorem State.enrol_frees_domain {s : State} {n : Nat} {v : Word} (hv : s.on (Fd.EN_CFG_VALID n) = true) (h1 : fieldOf v 31 1 = 1)
    (he : s.fld (Fd.EN_MASTER_NUM n) = s.enrolNum n) {k d : Nat} (hk : k ∈ s.slotsOf (s.enrolNum n)) (hd : d < 4)
    (h : s.holder d = some k) (hr : bitOf (fieldOf v 0 7) (domainRole d) = false) : (s.enrol n v).holder d = none := by
  rw [State.enrol_strips hv h1 he, (State.tellEnrol_sameOwners _ n).holder hd]
  exact foldl_stripSlot_holder hk hd hr (((s.putEntry_sameOwners n v).holder hd).trans h)

/-! ### ENROL_COMMIT -/

theorem exec_enrolCommit (w : Fin 8) (n : Fin 64) (v : Word) (s : State) : exec (.enrolCommit w n v) s = execEnrolCommit w n v s := rfl

/-- A commit that is taken acts in the state after its checks. -/
theorem exec_enrolCommit_taken {w : Fin 8} {n : Fin 64} {v : Word} {s : State} (h : s.WriteTaken w (Reg.EN_CFG n) v (s.enrolOk n v)) :
    exec (.enrolCommit w n v) s = .next (((s.afterChecks w (Reg.EN_CFG n) v).enrol n v).send (.wrote w (Reg.EN_CFG n) 0 0 0)) := by
  rw [exec_enrolCommit, execEnrolCommit, State.writeRow_taken _ h]

/-- The checks of a write leave the committed master number of an entry as it is. -/
theorem State.afterChecks_enrolNum (s : State) (k a : Nat) (v : Word) (n : Nat) : (s.afterChecks k a v).enrolNum n = s.enrolNum n := by
  rw [State.enrolNum, State.enrolNum, State.enrolWord, State.enrolWord, State.afterChecks_sec]

theorem State.afterChecks_on (s : State) (k a : Nat) (v : Word) (f : Fld) : (s.afterChecks k a v).on f = s.on f := by
  rw [State.on, State.on, State.afterChecks_fld]

/-- The master's slots are those of the state before the checks. -/
theorem State.afterChecks_slotsOf_enrolNum (s : State) (k a : Nat) (v : Word) (n : Nat) :
    (s.afterChecks k a v).slotsOf ((s.afterChecks k a v).enrolNum n) = s.slotsOf (s.enrolNum n) := by
  rw [State.afterChecks_enrolNum, (s.afterChecks_sameOwners k a v).slotsOf]

theorem enrolCommit_drops {w : Fin 8} {n : Fin 64} {v : Word} {s : State} (h : s.WriteTaken w (Reg.EN_CFG n) v (s.enrolOk n v))
    (hv : s.on (Fd.EN_CFG_VALID n) = true) (he : fieldOf v 31 1 = 0 ∨ s.fld (Fd.EN_MASTER_NUM n) ≠ s.enrolNum n) :
    ∃ t, exec (.enrolCommit w n v) s = .next t ∧ ∀ k, k ∈ s.slotsOf (s.enrolNum n) →
      t.fld (Fd.SS_STAT_STATE k) = 0 ∧ ∀ d, d < 4 → s.sessOpen k = true → t.holder d ≠ some k := by
  refine ⟨_, exec_enrolCommit_taken h, fun k hk => ?_⟩
  have ho := State.sessOpen_congr ((s.afterChecks_sameOwners w (Reg.EN_CFG n) v).stat (State.lt_of_mem_slotsOf hk))
  rw [← State.afterChecks_slotsOf_enrolNum s w (Reg.EN_CFG n) v] at hk
  rw [← State.afterChecks_on s w (Reg.EN_CFG n) v] at hv
  rw [← State.afterChecks_fld s w (Reg.EN_CFG n) v, ← State.afterChecks_enrolNum s w (Reg.EN_CFG n) v] at he
  rw [← ho]
  exact State.enrol_drops_slot hv he hk

theorem enrolCommit_strips {w : Fin 8} {n : Fin 64} {v : Word} {s : State} (h : s.WriteTaken w (Reg.EN_CFG n) v (s.enrolOk n v))
    (hv : s.on (Fd.EN_CFG_VALID n) = true) (h1 : fieldOf v 31 1 = 1) (he : s.fld (Fd.EN_MASTER_NUM n) = s.enrolNum n) :
    ∃ t, exec (.enrolCommit w n v) s = .next t ∧ ∀ k d, k ∈ s.slotsOf (s.enrolNum n) → d < 4 → s.holder d = some k →
      bitOf (fieldOf v 0 7) (domainRole d) = false → t.holder d = none := by
  refine ⟨_, exec_enrolCommit_taken h, fun k d hk hd hh hr => ?_⟩
  rw [← State.afterChecks_slotsOf_enrolNum s w (Reg.EN_CFG n) v] at hk
  rw [← State.afterChecks_on s w (Reg.EN_CFG n) v] at hv
  rw [← State.afterChecks_fld s w (Reg.EN_CFG n) v, ← State.afterChecks_enrolNum s w (Reg.EN_CFG n) v] at he
  rw [← (s.afterChecks_sameOwners w (Reg.EN_CFG n) v).holder hd] at hh
  exact State.enrol_frees_domain hv h1 he hk hd hh hr

/-- Settles O8: by the step of a commit for one slot of the master, which no step for another slot undoes. -/
theorem commitsEndSessionsAndRoles : Obligations.CommitsEndSessionsAndRoles :=
  ⟨fun _ _ _ _ h hv he => enrolCommit_drops h hv he, fun _ _ _ _ h hv h1 he => enrolCommit_strips h hv h1 he⟩

end Sys2Proof.Machine
end

section
-- In order: the one text holds more declarations than asynchronous elaboration has threads for.
set_option Elab.async false

/-! SUPPORT. Frames step by step: each elementary update keeps to the parts and words that a statement names (`Changes`), and what a field
reads after it. -/

namespace Sys2Proof.Machine

variable {ps : List Part} {ws : List Nat} {s t u : State}

/-! ### The bits of parts -/

/-- The parts of the state, one by one. -/
def allParts : List Part :=
  [.servo, .jobs, .act, .zh, .sys, .sec, .waitWrites, .wlow, .stm, .ice, .tbl, .plan, .field, .lop, .acts, .prt, .can, .pair, .lst, .fed,
   .dia, .shadow, .clk, .out, .firn, .regs, .fresh]

theorem mem_allParts (p : Part) : p ∈ allParts := by cases p <;> decide

/-- The bit of another part is not in a part's mask. -/
theorem bit_or_ne {p q : Part} (h : p ≠ q) : q.bit ||| p.bit ≠ q.bit := by
  have hall : ∀ p ∈ allParts, ∀ q ∈ allParts, p ≠ q → q.bit ||| p.bit ≠ q.bit := by decide
  exact hall p (mem_allParts p) q (mem_allParts q) h

/-! ### Words and codes of events by their place -/

theorem eventCode_lt {a lo w : Nat} (ha : a < 0x10000000) (hl : lo < 32) : eventCode ⟨a, lo, w⟩ < 1024 := by
  simp only [eventCode, eventNumber]
  split
  · omega
  · split <;> omega

/-- A word below the last quarter of its block and below FRN_ is none of the words of events. -/
theorem eventWord_eq_false {a : Nat} (h : a % 0x1000000 < 0x7F0000) (hd : a < 0xD000000) : eventWord a = false := by
  simp only [eventWord, Reg.FRN_CNT_SUPP, Reg.FRN_EVT, Reg.FRN_EVT_SEQ, Bool.or_eq_false_iff, Bool.and_eq_false_iff, decide_eq_false_iff_not,
    beq_eq_false_iff_ne]
  omega

/-! ### Changes -/

theorem Changes.refl (ps : List Part) (ws : List Nat) (s : State) : Changes ps ws s s :=
  (Keeps.refl 0 s).changes (fun p _ => by cases p <;> decide) (fun _ _ _ => rfl)

theorem Changes.trans (h : Changes ps ws s t) (k : Changes ps ws t u) : Changes ps ws s u := ⟨h.1.trans k.1, h.2.trans k.2⟩

theorem Same.mono {vs : List Nat} (h : Same s t vs) (hw : ∀ a ∈ vs, a ∈ ws) : Same s t ws := fun a he ha => h a he (fun hv => ha (hw a hv))

theorem Changes.mono {qs : List Part} {vs : List Nat} (h : Changes qs vs s t) (hp : ∀ p ∈ qs, p ∈ ps) (hw : ∀ a ∈ vs, a ∈ ws) :
    Changes ps ws s t :=
  ⟨h.1.mono (fun p hq => (List.mem_cons.mp hq).elim (fun e => e ▸ List.mem_cons_self) (fun hq => List.mem_cons_of_mem _ (hp p hq))),
   h.2.mono hw⟩

theorem Changes.clk (h : Changes ps ws s t) (hp : Part.clk ∉ Part.regs :: ps := by decide) : t.clk = s.clk := h.1.2 .clk hp

theorem Changes.rd (h : Changes ps ws s t) {a : Nat} (he : eventWord a = false) (ha : a ∉ ws) : t.rd a = s.rd a := h.2 a he ha

theorem Changes.fld (h : Changes ps ws s t) {f : Fld} (he : eventWord f.addr = false) (ha : f.addr ∉ ws) : t.fld f = s.fld f :=
  State.fld_congr (h.rd he ha)

/-! ### Updates of the register file -/

theorem Changes.wr (h : Changes ps ws s t) {a : Nat} {w : Word} (ha : a ∈ ws := by repeat constructor) : Changes ps ws s (t.wr a w) :=
  h.trans ((State.wr_keeps rfl (Keeps.refl 33554432 t)).changes (fun p hp => by cases p <;> simp_all [Part.bit])
    (fun _ _ hb => State.rd_wr_ne _ _ _ _ (fun e => hb (e ▸ ha))))

theorem Changes.set (h : Changes ps ws s t) {f : Fld} {v : Nat} (ha : f.addr ∈ ws := by repeat constructor) :
    Changes ps ws s (t.set f v) := h.wr ha

theorem Changes.setB (h : Changes ps ws s t) {f : Fld} {b : Bool} (ha : f.addr ∈ ws := by repeat constructor) :
    Changes ps ws s (t.setB f b) := h.wr ha

theorem Changes.countBy (h : Changes ps ws s t) {a n : Nat} (ha : a ∈ ws := by repeat constructor) : Changes ps ws s (t.countBy a n) :=
  h.wr ha

theorem Changes.count (h : Changes ps ws s t) {a : Nat} (ha : a ∈ ws := by repeat constructor) : Changes ps ws s (t.count a) := h.wr ha

theorem Changes.bump (h : Changes ps ws s t) {f : Fld} (ha : f.addr ∈ ws := by repeat constructor) : Changes ps ws s (t.bump f) := h.wr ha

theorem Changes.wrap (h : Changes ps ws s t) {f : Fld} (ha : f.addr ∈ ws := by repeat constructor) : Changes ps ws s (t.wrap f) := h.wr ha

theorem Changes.setBit (h : Changes ps ws s t) {f : Fld} {n : Nat} {b : Bool} (ha : f.addr ∈ ws := by repeat constructor) :
    Changes ps ws s (t.setBit f n b) := h.wr ha

theorem Changes.setIf (h : Changes ps ws s t) {f : Fld} {v : Nat} (ha : f.addr ∈ ws := by repeat constructor) :
    Changes ps ws s (t.setIf f v) := by
  unfold State.setIf
  split
  · exact h
  · exact h.wr ha

theorem Changes.plainWrite (h : Changes ps ws s t) {a : Nat} {v : Word} (ha : a ∈ ws := by repeat constructor) :
    Changes ps ws s (t.plainWrite a v) := by
  unfold State.plainWrite
  split
  · exact h.wr ha
  · exact h

theorem Changes.mark (h : Changes ps ws s t) {f : Fld} (h1 : f.addr ∈ ws := by repeat constructor)
    (h2 : f.addr + 4 ∈ ws := by repeat constructor) : Changes ps ws s (t.mark f) := (h.wr h1).wr h2

/-! ### Events and what is sent -/

theorem Changes.occur (h : Changes ps ws s t) {c o : Nat} {l : List Nat} {b : Bool} (hp : Part.firn ∈ ps := by repeat constructor)
    (hc : c < 1024 := by decide) : Changes ps ws s (t.occur c o l b) :=
  h.trans ((State.occur_keeps rfl (Keeps.refl 50331648 t)).changes (fun p hp => by cases p <;> simp_all [Part.bit])
    (fun _ he _ => State.occur_rd _ _ _ _ _ _ hc he))

theorem Changes.raise (h : Changes ps ws s t) {f : Fld} {o : Nat} {l : List Nat} {b : Bool} (hp : Part.firn ∈ ps := by repeat constructor)
    (hc : eventCode f < 1024 := by decide) (h1 : f.addr ∈ ws := by repeat constructor) (h2 : f.addr + 4 ∈ ws := by repeat constructor) :
    Changes ps ws s (t.raise f o l b) := ((h.wr h1).wr h2).occur hp hc

theorem Changes.raiseEnd (h : Changes ps ws s t) {f : Fld} {o : Nat} {l : List Nat} (hp : Part.firn ∈ ps := by repeat constructor)
    (hc : eventCode f + 32 < 1024 := by decide) : Changes ps ws s (t.raiseEnd f o l) := h.occur hp hc

/-! ### Updates of one part -/

/-- An update of one part, the register file aside. -/
theorem Changes.part (h : Changes ps ws s t) (q : Part) (hk : Keeps q.bit t u) (hr : ∀ a, u.rd a = t.rd a) (hp : q ∈ ps) :
    Changes ps ws s u := by
  refine h.trans (hk.changes (fun p hn => bit_or_ne ?_) (fun a _ _ => hr a))
  rintro rfl
  exact hn (List.mem_cons_of_mem _ hp)

theorem Changes.upd_servo (h : Changes ps ws s t) {x : Servo} (hp : Part.servo ∈ ps := by repeat constructor) :
    Changes ps ws s { t with servo := x } := h.part .servo (Keeps.upd_servo rfl (Keeps.refl _ t)) (fun _ => rfl) hp
theorem Changes.upd_jobs (h : Changes ps ws s t) {x : Tab Job} (hp : Part.jobs ∈ ps := by repeat constructor) :
    Changes ps ws s { t with jobs := x } := h.part .jobs (Keeps.upd_jobs rfl (Keeps.refl _ t)) (fun _ => rfl) hp
theorem Changes.upd_act (h : Changes ps ws s t) {x : Actions} (hp : Part.act ∈ ps := by repeat constructor) :
    Changes ps ws s { t with act := x } := h.part .act (Keeps.upd_act rfl (Keeps.refl _ t)) (fun _ => rfl) hp
theorem Changes.upd_zh (h : Changes ps ws s t) {x : Zhoide} (hp : Part.zh ∈ ps := by repeat constructor) :
    Changes ps ws s { t with zh := x } := h.part .zh (Keeps.upd_zh rfl (Keeps.refl _ t)) (fun _ => rfl) hp
theorem Changes.upd_sys (h : Changes ps ws s t) {x : Sys} (hp : Part.sys ∈ ps := by repeat constructor) :
    Changes ps ws s { t with sys := x } := h.part .sys (Keeps.upd_sys rfl (Keeps.refl _ t)) (fun _ => rfl) hp
theorem Changes.upd_sec (h : Changes ps ws s t) {x : Sec} (hp : Part.sec ∈ ps := by repeat constructor) :
    Changes ps ws s { t with sec := x } := h.part .sec (Keeps.upd_sec rfl (Keeps.refl _ t)) (fun _ => rfl) hp
theorem Changes.upd_waitWrites (h : Changes ps ws s t) {x : List SeracWrite} (hp : Part.waitWrites ∈ ps := by repeat constructor) :
    Changes ps ws s { t with waitWrites := x } := h.part .waitWrites (Keeps.upd_waitWrites rfl (Keeps.refl _ t)) (fun _ => rfl) hp
theorem Changes.upd_wlow (h : Changes ps ws s t) {x : Tab Word} (hp : Part.wlow ∈ ps := by repeat constructor) :
    Changes ps ws s { t with wlow := x } := h.part .wlow (Keeps.upd_wlow rfl (Keeps.refl _ t)) (fun _ => rfl) hp
theorem Changes.upd_stm (h : Changes ps ws s t) {x : Streams} (hp : Part.stm ∈ ps := by repeat constructor) :
    Changes ps ws s { t with stm := x } := h.part .stm (Keeps.upd_stm rfl (Keeps.refl _ t)) (fun _ => rfl) hp
theorem Changes.upd_ice (h : Changes ps ws s t) {x : Icefield} (hp : Part.ice ∈ ps := by repeat constructor) :
    Changes ps ws s { t with ice := x } := h.part .ice (Keeps.upd_ice rfl (Keeps.refl _ t)) (fun _ => rfl) hp
theorem Changes.upd_tbl (h : Changes ps ws s t) {x : Tables} (hp : Part.tbl ∈ ps := by repeat constructor) :
    Changes ps ws s { t with tbl := x } := h.part .tbl (Keeps.upd_tbl rfl (Keeps.refl _ t)) (fun _ => rfl) hp
theorem Changes.upd_plan (h : Changes ps ws s t) {x : Plan} (hp : Part.plan ∈ ps := by repeat constructor) :
    Changes ps ws s { t with plan := x } := h.part .plan (Keeps.upd_plan rfl (Keeps.refl _ t)) (fun _ => rfl) hp
theorem Changes.upd_field (h : Changes ps ws s t) {x : FieldIn} (hp : Part.field ∈ ps := by repeat constructor) :
    Changes ps ws s { t with field := x } := h.part .field (Keeps.upd_field rfl (Keeps.refl _ t)) (fun _ => rfl) hp
theorem Changes.upd_lop (h : Changes ps ws s t) {x : LoopEng} (hp : Part.lop ∈ ps := by repeat constructor) :
    Changes ps ws s { t with lop := x } := h.part .lop (Keeps.upd_lop rfl (Keeps.refl _ t)) (fun _ => rfl) hp
theorem Changes.upd_acts (h : Changes ps ws s t) {x : Acts} (hp : Part.acts ∈ ps := by repeat constructor) :
    Changes ps ws s { t with acts := x } := h.part .acts (Keeps.upd_acts rfl (Keeps.refl _ t)) (fun _ => rfl) hp
theorem Changes.upd_prt (h : Changes ps ws s t) {x : Prot} (hp : Part.prt ∈ ps := by repeat constructor) :
    Changes ps ws s { t with prt := x } := h.part .prt (Keeps.upd_prt rfl (Keeps.refl _ t)) (fun _ => rfl) hp
theorem Changes.upd_can (h : Changes ps ws s t) {x : Can} (hp : Part.can ∈ ps := by repeat constructor) :
    Changes ps ws s { t with can := x } := h.part .can (Keeps.upd_can rfl (Keeps.refl _ t)) (fun _ => rfl) hp
theorem Changes.upd_pair (h : Changes ps ws s t) {x : Pair} (hp : Part.pair ∈ ps := by repeat constructor) :
    Changes ps ws s { t with pair := x } := h.part .pair (Keeps.upd_pair rfl (Keeps.refl _ t)) (fun _ => rfl) hp
theorem Changes.upd_lst (h : Changes ps ws s t) {x : LockStep} (hp : Part.lst ∈ ps := by repeat constructor) :
    Changes ps ws s { t with lst := x } := h.part .lst (Keeps.upd_lst rfl (Keeps.refl _ t)) (fun _ => rfl) hp
theorem Changes.upd_fed (h : Changes ps ws s t) {x : Fed} (hp : Part.fed ∈ ps := by repeat constructor) :
    Changes ps ws s { t with fed := x } := h.part .fed (Keeps.upd_fed rfl (Keeps.refl _ t)) (fun _ => rfl) hp
theorem Changes.upd_dia (h : Changes ps ws s t) {x : Dia} (hp : Part.dia ∈ ps := by repeat constructor) :
    Changes ps ws s { t with dia := x } := h.part .dia (Keeps.upd_dia rfl (Keeps.refl _ t)) (fun _ => rfl) hp
theorem Changes.upd_shadow (h : Changes ps ws s t) {x : Tab Word} (hp : Part.shadow ∈ ps := by repeat constructor) :
    Changes ps ws s { t with shadow := x } := h.part .shadow (Keeps.upd_shadow rfl (Keeps.refl _ t)) (fun _ => rfl) hp
theorem Changes.upd_clk (h : Changes ps ws s t) {x : Clock} (hx : t.clk.now ≤ x.now) (hp : Part.clk ∈ ps := by repeat constructor) :
    Changes ps ws s { t with clk := x } := h.part .clk (Keeps.upd_clk rfl hx (Keeps.refl _ t)) (fun _ => rfl) hp
theorem Changes.upd_firn (h : Changes ps ws s t) {x : Firn} (hx : FirnStep t.firn x) (hp : Part.firn ∈ ps := by repeat constructor) :
    Changes ps ws s { t with firn := x } := h.part .firn (Keeps.upd_firn rfl hx (Keeps.refl _ t)) (fun _ => rfl) hp
theorem Changes.upd_fresh (h : Changes ps ws s t) {x : Nat} (hx : t.fresh ≤ x) (hp : Part.fresh ∈ ps := by repeat constructor) :
    Changes ps ws s { t with fresh := x } := h.part .fresh (Keeps.upd_fresh rfl hx (Keeps.refl _ t)) (fun _ => rfl) hp

theorem Changes.send (h : Changes ps ws s t) {o : Out} (hp : Part.out ∈ ps := by repeat constructor) : Changes ps ws s (t.send o) :=
  h.part .out (State.send_keeps rfl (Keeps.refl _ t)) (fun _ => rfl) hp

/-! ### Changes by the setters of the parts -/

/-- A step within parts and words of those named. -/
theorem Changes.step {qs : List Part} {vs : List Nat} (h : Changes ps ws s t) (k : Changes qs vs t u) (hp : ∀ p ∈ qs, p ∈ ps := by decide)
    (hw : ∀ a ∈ vs, a ∈ ws := by simp) : Changes ps ws s u := h.trans (k.mono hp hw)

theorem Changes.afterChecks (h : Changes ps ws s t) {k a : Nat} {v : Word} (hp : Part.zh ∈ ps := by repeat constructor) :
    Changes ps ws s (t.afterChecks k a v) :=
  h.part .zh (State.afterChecks_keeps rfl (Keeps.refl _ t)) (fun _ => State.afterChecks_rd _ _ _ _ _) hp


theorem Changes.setSess (hc : Changes ps ws s u) {k : Nat} {x : Session} (hp : Part.zh ∈ ps := by repeat constructor) :
    Changes ps ws s (u.setSess k x) := hc.part .zh (State.setSess_keeps rfl (Keeps.refl _ u)) (fun _ => rfl) hp
theorem Changes.delSess (hc : Changes ps ws s u) {k : Nat} (hp : Part.zh ∈ ps := by repeat constructor) :
    Changes ps ws s (u.delSess k) := hc.part .zh (State.delSess_keeps rfl (Keeps.refl _ u)) (fun _ => rfl) hp
theorem Changes.setMailbox (hc : Changes ps ws s u) {k m : Nat} {x : Mbox} (hp : Part.zh ∈ ps := by repeat constructor) :
    Changes ps ws s (u.setMailbox k m x) := hc.part .zh (State.setMailbox_keeps rfl (Keeps.refl _ u)) (fun _ => rfl) hp
theorem Changes.setJob (hc : Changes ps ws s u) {j : Nat} {x : Job} (hp : Part.jobs ∈ ps := by repeat constructor) :
    Changes ps ws s (u.setJob j x) := hc.part .jobs (State.setJob_keeps rfl (Keeps.refl _ u)) (fun _ => rfl) hp
theorem Changes.setStrm (hc : Changes ps ws s u) {i : Nat} {x : Strm} (hp : Part.stm ∈ ps := by repeat constructor) :
    Changes ps ws s (u.setStrm i x) := hc.part .stm (State.setStrm_keeps rfl (Keeps.refl _ u)) (fun _ => rfl) hp
theorem Changes.setSrc (hc : Changes ps ws s u) {a : Nat} {x : StrmSrc} (hp : Part.stm ∈ ps := by repeat constructor) :
    Changes ps ws s (u.setSrc a x) := hc.part .stm (State.setSrc_keeps rfl (Keeps.refl _ u)) (fun _ => rfl) hp
theorem Changes.setLoop (hc : Changes ps ws s u) {q : Nat} {x : Loop} (hp : Part.lop ∈ ps := by repeat constructor) :
    Changes ps ws s (u.setLoop q x) := hc.part .lop (State.setLoop_keeps rfl (Keeps.refl _ u)) (fun _ => rfl) hp
theorem Changes.setPump (hc : Changes ps ws s u) {p : Nat} {x : Pump} (hp : Part.acts ∈ ps := by repeat constructor) :
    Changes ps ws s (u.setPump p x) := hc.part .acts (State.setPump_keeps rfl (Keeps.refl _ u)) (fun _ => rfl) hp
theorem Changes.setValve (hc : Changes ps ws s u) {v : Nat} {x : Valve} (hp : Part.acts ∈ ps := by repeat constructor) :
    Changes ps ws s (u.setValve v x) := hc.part .acts (State.setValve_keeps rfl (Keeps.refl _ u)) (fun _ => rfl) hp
theorem Changes.setCan (hc : Changes ps ws s u) {c : Can} (hp : Part.can ∈ ps := by repeat constructor) :
    Changes ps ws s (u.setCan c) := hc.part .can (State.setCan_keeps rfl (Keeps.refl _ u)) (fun _ => rfl) hp
theorem Changes.setTbl (hc : Changes ps ws s u) {t : Nat} {x : Tbl} (hp : Part.tbl ∈ ps := by repeat constructor) :
    Changes ps ws s (u.setTbl t x) := hc.part .tbl (State.setTbl_keeps rfl (Keeps.refl _ u)) (fun _ => rfl) hp
theorem Changes.setSaves (hc : Changes ps ws s u) {l : List SaveJob} (hp : Part.tbl ∈ ps := by repeat constructor) :
    Changes ps ws s (u.setSaves l) := hc.part .tbl (State.setSaves_keeps rfl (Keeps.refl _ u)) (fun _ => rfl) hp
theorem Changes.setGot (hc : Changes ps ws s u) {l : List StoreAnswer} (hp : Part.tbl ∈ ps := by repeat constructor) :
    Changes ps ws s (u.setGot l) := hc.part .tbl (State.setGot_keeps rfl (Keeps.refl _ u)) (fun _ => rfl) hp
theorem Changes.setSlot (hc : Changes ps ws s u) {k : Nat} {x : Slot} (hp : Part.ice ∈ ps := by repeat constructor) :
    Changes ps ws s (u.setSlot k x) := hc.part .ice (State.setSlot_keeps rfl (Keeps.refl _ u)) (fun _ => rfl) hp
theorem Changes.delSlot (hc : Changes ps ws s u) {k : Nat} (hp : Part.ice ∈ ps := by repeat constructor) :
    Changes ps ws s (u.delSlot k) := hc.part .ice (State.delSlot_keeps rfl (Keeps.refl _ u)) (fun _ => rfl) hp
theorem Changes.setIceRun (hc : Changes ps ws s u) {r : Option RunOut} (hp : Part.ice ∈ ps := by repeat constructor) :
    Changes ps ws s (u.setIceRun r) := hc.part .ice (State.setIceRun_keeps rfl (Keeps.refl _ u)) (fun _ => rfl) hp
theorem Changes.setRpl (hc : Changes ps ws s u) {r : Replay} (hp : Part.ice ∈ ps := by repeat constructor) :
    Changes ps ws s (u.setRpl r) := hc.part .ice (State.setRpl_keeps rfl (Keeps.refl _ u)) (fun _ => rfl) hp
theorem Changes.setSol (hc : Changes ps ws s u) {k : Nat} {x : Sol} (hp : Part.acts ∈ ps := by repeat constructor) :
    Changes ps ws s (u.setSol k x) := hc.part .acts (State.setSol_keeps rfl (Keeps.refl _ u)) (fun _ => rfl) hp
theorem Changes.setFan (hc : Changes ps ws s u) {f : Nat} {x : Fan} (hp : Part.acts ∈ ps := by repeat constructor) :
    Changes ps ws s (u.setFan f x) := hc.part .acts (State.setFan_keeps rfl (Keeps.refl _ u)) (fun _ => rfl) hp
theorem Changes.setRackP (hc : Changes ps ws s u) {r : Nat} {x : RackP} (hp : Part.prt ∈ ps := by repeat constructor) :
    Changes ps ws s (u.setRackP r x) := hc.part .prt (State.setRackP_keeps rfl (Keeps.refl _ u)) (fun _ => rfl) hp
theorem Changes.setLeakIn (hc : Changes ps ws s u) {i : Nat} {x : LeakIn} (hp : Part.prt ∈ ps := by repeat constructor) :
    Changes ps ws s (u.setLeakIn i x) := hc.part .prt (State.setLeakIn_keeps rfl (Keeps.refl _ u)) (fun _ => rfl) hp
theorem Changes.setLimP (hc : Changes ps ws s u) {e : Nat} {x : LimP} (hp : Part.prt ∈ ps := by repeat constructor) :
    Changes ps ws s (u.setLimP e x) := hc.part .prt (State.setLimP_keeps rfl (Keeps.refl _ u)) (fun _ => rfl) hp
theorem Changes.setPlanAck (hc : Changes ps ws s u) {a : Nat} {x : PlanAck} (hp : Part.plan ∈ ps := by repeat constructor) :
    Changes ps ws s (u.setPlanAck a x) := hc.part .plan (State.setPlanAck_keeps rfl (Keeps.refl _ u)) (fun _ => rfl) hp
theorem Changes.setObj (hc : Changes ps ws s u) {h : Nat} {o : StoreObj} (hp : Part.zh ∈ ps := by repeat constructor) :
    Changes ps ws s (u.setObj h o) := hc.part .zh (State.setObj_keeps rfl (Keeps.refl _ u)) (fun _ => rfl) hp
theorem Changes.delObj (hc : Changes ps ws s u) {h : Nat} (hp : Part.zh ∈ ps := by repeat constructor) :
    Changes ps ws s (u.delObj h) := hc.part .zh (State.delObj_keeps rfl (Keeps.refl _ u)) (fun _ => rfl) hp
theorem Changes.setSys (hc : Changes ps ws s u) {y : Sys} (hp : Part.sys ∈ ps := by repeat constructor) :
    Changes ps ws s (u.setSys y) := hc.part .sys (State.setSys_keeps rfl (Keeps.refl _ u)) (fun _ => rfl) hp
theorem Changes.setPair (hc : Changes ps ws s u) {p : Pair} (hp : Part.pair ∈ ps := by repeat constructor) :
    Changes ps ws s (u.setPair p) := hc.part .pair (State.setPair_keeps rfl (Keeps.refl _ u)) (fun _ => rfl) hp
theorem Changes.setFed (hc : Changes ps ws s u) {f : Fed} (hp : Part.fed ∈ ps := by repeat constructor) :
    Changes ps ws s (u.setFed f) := hc.part .fed (State.setFed_keeps rfl (Keeps.refl _ u)) (fun _ => rfl) hp

theorem Changes.notice (hc : Changes ps ws s u) {k c : Nat} {l : List Nat} (hz : Part.zh ∈ ps := by repeat constructor)
    (ho : Part.out ∈ ps := by repeat constructor) : Changes ps ws s (u.notice k c l) := (hc.setSess hz).send ho

theorem Changes.sendRequest (hc : Changes ps ws s u) {k c n : Nat} {l : List Nat} (hz : Part.zh ∈ ps := by repeat constructor)
    (ho : Part.out ∈ ps := by repeat constructor) : Changes ps ws s (u.sendRequest k c n l) := (hc.setSess hz).send ho

theorem Changes.noticeAll (hc : Changes ps ws s u) {c : Nat} {l : List Nat} (hz : Part.zh ∈ ps := by repeat constructor)
    (ho : Part.out ∈ ps := by repeat constructor) : Changes ps ws s (u.noticeAll c l) :=
  List.foldlRecOn _ _ (motive := fun (t : State) => Changes ps ws s t) hc (fun _ ht _ _ => ht.notice hz ho)

/-! ### What a word reads after an update -/

@[simp] theorem State.notice_rd (s : State) (k c : Nat) (l : List Nat) (a : Nat) : (s.notice k c l).rd a = s.rd a := (rfl)
@[simp] theorem State.notice_fld (s : State) (k c : Nat) (l : List Nat) (f : Fld) : (s.notice k c l).fld f = s.fld f := (rfl)
@[simp] theorem State.notice_out (s : State) (k c : Nat) (l : List Nat) :
    (s.notice k c l).out = .notice k c ((s.sess k).notices + 1) (s.sess k).txNext l :: s.out := (rfl)
@[simp] theorem State.notice_clk (s : State) (k c : Nat) (l : List Nat) : (s.notice k c l).clk = s.clk := (rfl)

@[simp] theorem State.rd_raise (s : State) (a lo w o b : Nat) (l : List Nat) (x : Bool) (ha : a < 0x10000000) (hl : lo < 32)
    (hb : b % 0x1000000 < 0x7F0000) (hd : b < 0xD000000) (h1 : b ≠ a) (h2 : b ≠ a + 4) : (s.raise ⟨a, lo, w⟩ o l x).rd b = s.rd b :=
  State.raise_rd _ _ _ _ _ _ (eventCode_lt ha hl) (eventWord_eq_false hb hd) h1 h2

@[simp] theorem State.fld_raise (s : State) (a lo w o b lo' w' : Nat) (l : List Nat) (x : Bool) (ha : a < 0x10000000) (hl : lo < 32)
    (hb : b % 0x1000000 < 0x7F0000) (hd : b < 0xD000000) (h1 : b ≠ a) (h2 : b ≠ a + 4) :
    (s.raise ⟨a, lo, w⟩ o l x).fld ⟨b, lo', w'⟩ = s.fld ⟨b, lo', w'⟩ := by
  rw [State.fld, State.fld, State.rd_raise _ _ _ _ _ _ _ _ ha hl hb hd h1 h2]

@[simp] theorem State.rd_occur (s : State) (c o b : Nat) (l : List Nat) (x : Bool) (hc : c < 1024) (hb : b % 0x1000000 < 0x7F0000)
    (hd : b < 0xD000000) : (s.occur c o l x).rd b = s.rd b := State.occur_rd _ _ _ _ _ _ hc (eventWord_eq_false hb hd)

@[simp] theorem State.fld_occur (s : State) (c o b lo w : Nat) (l : List Nat) (x : Bool) (hc : c < 1024) (hb : b % 0x1000000 < 0x7F0000)
    (hd : b < 0xD000000) : (s.occur c o l x).fld ⟨b, lo, w⟩ = s.fld ⟨b, lo, w⟩ := by
  rw [State.fld, State.fld, State.rd_occur _ _ _ _ _ _ hc hb hd]

/-- An event's bit reads 1 after the event. -/
@[simp] theorem State.fld_raise_self (s : State) (a lo o : Nat) (l : List Nat) (x : Bool) (ha : a < 0xD000000) (hl : lo < 32)
    (hb : a % 0x1000000 < 0x7F0000) : (s.raise ⟨a, lo, 1⟩ o l x).fld ⟨a, lo, 1⟩ = 1 :=
  State.raise_bit _ _ _ _ _ (eventCode_lt (Nat.lt_trans ha (by decide)) hl) (eventWord_eq_false hb ha) rfl hl

@[simp] theorem State.rd_set (s : State) (a lo w v b : Nat) (h : b ≠ a) : (s.set ⟨a, lo, w⟩ v).rd b = s.rd b := State.rd_wr_ne _ _ _ _ h

@[simp] theorem State.fld_set (s : State) (a lo w v b lo' w' : Nat) (h : b ≠ a) :
    (s.set ⟨a, lo, w⟩ v).fld ⟨b, lo', w'⟩ = s.fld ⟨b, lo', w'⟩ := State.fld_set_word _ _ _ _ h

@[simp] theorem State.fld_set_same (s : State) (a lo w v : Nat) (h : lo + w ≤ 32) : (s.set ⟨a, lo, w⟩ v).fld ⟨a, lo, w⟩ = v % 2 ^ w :=
  State.fld_set_self _ _ _ h

@[simp] theorem State.fld_set_beside (s : State) (a lo w v lo' w' : Nat) (h : lo + w ≤ lo' ∨ lo' + w' ≤ lo) :
    (s.set ⟨a, lo, w⟩ v).fld ⟨a, lo', w'⟩ = s.fld ⟨a, lo', w'⟩ := State.fld_set_bits _ _ _ _ rfl h

@[simp] theorem State.rd_wr (s : State) (a b : Nat) (w : Word) (h : b ≠ a) : (s.wr a w).rd b = s.rd b := State.rd_wr_ne _ _ _ _ h

@[simp] theorem State.fld_wr (s : State) (a : Nat) (w : Word) (b lo' w' : Nat) (h : b ≠ a) :
    (s.wr a w).fld ⟨b, lo', w'⟩ = s.fld ⟨b, lo', w'⟩ := State.fld_wr_ne _ _ _ _ h

@[simp] theorem State.rd_countBy (s : State) (a n b : Nat) (h : b ≠ a) : (s.countBy a n).rd b = s.rd b := State.rd_wr_ne _ _ _ _ h

@[simp] theorem State.fld_countBy (s : State) (a n b lo' w' : Nat) (h : b ≠ a) :
    (s.countBy a n).fld ⟨b, lo', w'⟩ = s.fld ⟨b, lo', w'⟩ := State.fld_wr_ne _ _ _ _ h

@[simp] theorem State.rd_count (s : State) (a b : Nat) (h : b ≠ a) : (s.count a).rd b = s.rd b := State.rd_wr_ne _ _ _ _ h

@[simp] theorem State.rd_count_same (s : State) (a : Nat) : (s.count a).rd a = satCount (s.rd a) 1 := State.rd_wr_self _ _ _

@[simp] theorem State.rd_countBy_same (s : State) (a n : Nat) : (s.countBy a n).rd a = satCount (s.rd a) n := State.rd_wr_self _ _ _

@[simp] theorem State.fld_count (s : State) (a b lo' w' : Nat) (h : b ≠ a) : (s.count a).fld ⟨b, lo', w'⟩ = s.fld ⟨b, lo', w'⟩ :=
  State.fld_wr_ne _ _ _ _ h

/-! ### Fields that count, wrap, and bits of fields -/

@[simp] theorem State.rd_wrap (s : State) (a lo w b : Nat) (h : b ≠ a) : (s.wrap ⟨a, lo, w⟩).rd b = s.rd b := State.rd_wr_ne _ _ _ _ h

@[simp] theorem State.fld_wrap (s : State) (a lo w b lo' w' : Nat) (h : b ≠ a) :
    (s.wrap ⟨a, lo, w⟩).fld ⟨b, lo', w'⟩ = s.fld ⟨b, lo', w'⟩ := State.fld_set_word _ _ _ _ h

@[simp] theorem State.fld_wrap_same (s : State) (a lo w : Nat) (h : lo + w ≤ 32) :
    (s.wrap ⟨a, lo, w⟩).fld ⟨a, lo, w⟩ = (s.fld ⟨a, lo, w⟩ + 1) % 2 ^ w := State.fld_set_self _ _ _ h

@[simp] theorem State.rd_bump (s : State) (a lo w b : Nat) (h : b ≠ a) : (s.bump ⟨a, lo, w⟩).rd b = s.rd b := State.rd_wr_ne _ _ _ _ h

@[simp] theorem State.fld_bump (s : State) (a lo w b lo' w' : Nat) (h : b ≠ a) :
    (s.bump ⟨a, lo, w⟩).fld ⟨b, lo', w'⟩ = s.fld ⟨b, lo', w'⟩ := State.fld_set_word _ _ _ _ h

@[simp] theorem State.fld_bump_beside (s : State) (a lo w lo' w' : Nat) (h : lo + w ≤ lo' ∨ lo' + w' ≤ lo) :
    (s.bump ⟨a, lo, w⟩).fld ⟨a, lo', w'⟩ = s.fld ⟨a, lo', w'⟩ := State.fld_set_bits _ _ _ _ rfl h

@[simp] theorem State.fld_bump_same (s : State) (a lo w : Nat) (h : lo + w ≤ 32) :
    (s.bump ⟨a, lo, w⟩).fld ⟨a, lo, w⟩ = min (s.fld ⟨a, lo, w⟩ + 1) (2 ^ w - 1) := by
  refine (State.fld_set_self _ _ _ h).trans (Nat.mod_eq_of_lt ?_)
  have := Nat.two_pow_pos w
  dsimp only
  omega

@[simp] theorem State.rd_setBit (s : State) (a lo w n b : Nat) (v : Bool) (h : b ≠ a) : (s.setBit ⟨a, lo, w⟩ n v).rd b = s.rd b :=
  State.rd_wr_ne _ _ _ _ h

@[simp] theorem State.fld_setBit (s : State) (a lo w n b lo' w' : Nat) (v : Bool) (h : b ≠ a) :
    (s.setBit ⟨a, lo, w⟩ n v).fld ⟨b, lo', w'⟩ = s.fld ⟨b, lo', w'⟩ := State.fld_set_word _ _ _ _ h

@[simp] theorem State.fld_setBit_beside (s : State) (a lo w n lo' w' : Nat) (v : Bool) (h : lo + w ≤ lo' ∨ lo' + w' ≤ lo) :
    (s.setBit ⟨a, lo, w⟩ n v).fld ⟨a, lo', w'⟩ = s.fld ⟨a, lo', w'⟩ := State.fld_set_bits _ _ _ _ rfl h

@[simp] theorem State.setBit_clk (s : State) (f : Fld) (n : Nat) (v : Bool) : (s.setBit f n v).clk = s.clk := State.set_clk _ _ _
@[simp] theorem State.setBit_zh (s : State) (f : Fld) (n : Nat) (v : Bool) : (s.setBit f n v).zh = s.zh := State.set_zh _ _ _
@[simp] theorem State.setBit_out (s : State) (f : Fld) (n : Nat) (v : Bool) : (s.setBit f n v).out = s.out := State.set_out _ _ _

/-! ### Words and fields after an update of parts -/

section parts
variable (w : State) (xpending : List Instr) (xshadow : Tab Word) (xclk : Clock) (xservo : Servo) (xjobs : Tab Job) (xact : Actions) (xzh : Zhoide)
  (xsys : Sys) (xfirn : Firn) (xsec : Sec) (xwaitWrites : List SeracWrite) (xwlow : Tab Word) (xstm : Streams) (xice : Icefield) (xtbl : Tables)
  (xplan : Plan) (xfield : FieldIn) (xlop : LoopEng) (xacts : Acts) (xprt : Prot) (xcan : Can) (xpair : Pair) (xlst : LockStep) (xfed : Fed)
  (xdia : Dia) (xout : List Out) (xfresh : Nat)

/-- A state with the register file of another reads its words. -/
@[simp] theorem State.rd_mk (a : Nat) : State.rd ⟨xpending, w.regs, xshadow, xclk, xservo, xjobs, xact, xzh, xsys, xfirn, xsec, xwaitWrites, xwlow,
    xstm, xice, xtbl, xplan, xfield, xlop, xacts, xprt, xcan, xpair, xlst, xfed, xdia, xout, xfresh⟩ a = w.rd a := rfl

@[simp] theorem State.fld_mk (f : Fld) : State.fld ⟨xpending, w.regs, xshadow, xclk, xservo, xjobs, xact, xzh, xsys, xfirn, xsec, xwaitWrites,
    xwlow, xstm, xice, xtbl, xplan, xfield, xlop, xacts, xprt, xcan, xpair, xlst, xfed, xdia, xout, xfresh⟩ f = w.fld f := rfl

end parts

/-! ### What the setters of the parts leave -/

@[simp] theorem State.setSess_fld (s : State) (k : Nat) (x : Session) (g : Fld) : (s.setSess k x).fld g = s.fld g := rfl
@[simp] theorem State.setSess_clk (s : State) (k : Nat) (x : Session) : (s.setSess k x).clk = s.clk := rfl
@[simp] theorem State.setSess_zh (s : State) (k : Nat) (x : Session) : (s.setSess k x).zh = { s.zh with sess := s.zh.sess.put k x } := rfl
@[simp] theorem State.delSess_rd (s : State) (k : Nat) (addr : Nat) : (s.delSess k).rd addr = s.rd addr := rfl
@[simp] theorem State.delSess_fld (s : State) (k : Nat) (g : Fld) : (s.delSess k).fld g = s.fld g := rfl
@[simp] theorem State.delSess_clk (s : State) (k : Nat) : (s.delSess k).clk = s.clk := rfl
@[simp] theorem State.delSess_zh (s : State) (k : Nat) : (s.delSess k).zh = { s.zh with sess := s.zh.sess.del k } := rfl
@[simp] theorem State.setJob_rd (s : State) (j : Nat) (x : Job) (addr : Nat) : (s.setJob j x).rd addr = s.rd addr := rfl
@[simp] theorem State.setJob_fld (s : State) (j : Nat) (x : Job) (g : Fld) : (s.setJob j x).fld g = s.fld g := rfl
@[simp] theorem State.setJob_clk (s : State) (j : Nat) (x : Job) : (s.setJob j x).clk = s.clk := rfl
@[simp] theorem State.setJob_jobs (s : State) (j : Nat) (x : Job) : (s.setJob j x).jobs = s.jobs.put j x := rfl
@[simp] theorem State.setStrm_rd (s : State) (i : Nat) (x : Strm) (addr : Nat) : (s.setStrm i x).rd addr = s.rd addr := rfl
@[simp] theorem State.setStrm_fld (s : State) (i : Nat) (x : Strm) (g : Fld) : (s.setStrm i x).fld g = s.fld g := rfl
@[simp] theorem State.setStrm_clk (s : State) (i : Nat) (x : Strm) : (s.setStrm i x).clk = s.clk := rfl
@[simp] theorem State.setStrm_stm (s : State) (i : Nat) (x : Strm) : (s.setStrm i x).stm = { s.stm with strm := s.stm.strm.put i x } := rfl
@[simp] theorem State.setSrc_rd (s : State) (a : Nat) (x : StrmSrc) (addr : Nat) : (s.setSrc a x).rd addr = s.rd addr := rfl
@[simp] theorem State.setSrc_fld (s : State) (a : Nat) (x : StrmSrc) (g : Fld) : (s.setSrc a x).fld g = s.fld g := rfl
@[simp] theorem State.setSrc_clk (s : State) (a : Nat) (x : StrmSrc) : (s.setSrc a x).clk = s.clk := rfl
@[simp] theorem State.setSrc_stm (s : State) (a : Nat) (x : StrmSrc) : (s.setSrc a x).stm = { s.stm with src := s.stm.src.put a x } := rfl
@[simp] theorem State.setLoop_rd (s : State) (q : Nat) (x : Loop) (addr : Nat) : (s.setLoop q x).rd addr = s.rd addr := rfl
@[simp] theorem State.setLoop_fld (s : State) (q : Nat) (x : Loop) (g : Fld) : (s.setLoop q x).fld g = s.fld g := rfl
@[simp] theorem State.setLoop_clk (s : State) (q : Nat) (x : Loop) : (s.setLoop q x).clk = s.clk := rfl
@[simp] theorem State.setLoop_lop (s : State) (q : Nat) (x : Loop) : (s.setLoop q x).lop = { s.lop with loop := s.lop.loop.put q x } := rfl
@[simp] theorem State.setPump_rd (s : State) (p : Nat) (x : Pump) (addr : Nat) : (s.setPump p x).rd addr = s.rd addr := rfl
@[simp] theorem State.setPump_fld (s : State) (p : Nat) (x : Pump) (g : Fld) : (s.setPump p x).fld g = s.fld g := rfl
@[simp] theorem State.setPump_clk (s : State) (p : Nat) (x : Pump) : (s.setPump p x).clk = s.clk := rfl
@[simp] theorem State.setPump_acts (s : State) (p : Nat) (x : Pump) : (s.setPump p x).acts = { s.acts with pump := s.acts.pump.put p x } := rfl
@[simp] theorem State.setValve_rd (s : State) (v : Nat) (x : Valve) (addr : Nat) : (s.setValve v x).rd addr = s.rd addr := rfl
@[simp] theorem State.setValve_fld (s : State) (v : Nat) (x : Valve) (g : Fld) : (s.setValve v x).fld g = s.fld g := rfl
@[simp] theorem State.setValve_clk (s : State) (v : Nat) (x : Valve) : (s.setValve v x).clk = s.clk := rfl
@[simp] theorem State.setValve_acts (s : State) (v : Nat) (x : Valve) : (s.setValve v x).acts = { s.acts with valve := s.acts.valve.put v x } := rfl
@[simp] theorem State.setTbl_rd (s : State) (t : Nat) (x : Tbl) (addr : Nat) : (s.setTbl t x).rd addr = s.rd addr := rfl
@[simp] theorem State.setTbl_fld (s : State) (t : Nat) (x : Tbl) (g : Fld) : (s.setTbl t x).fld g = s.fld g := rfl
@[simp] theorem State.setTbl_clk (s : State) (t : Nat) (x : Tbl) : (s.setTbl t x).clk = s.clk := rfl
@[simp] theorem State.setTbl_tbl (s : State) (t : Nat) (x : Tbl) : (s.setTbl t x).tbl = { s.tbl with tbl := s.tbl.tbl.put t x } := rfl
@[simp] theorem State.setSaves_rd (s : State) (l : List SaveJob) (addr : Nat) : (s.setSaves l).rd addr = s.rd addr := rfl
@[simp] theorem State.setSaves_fld (s : State) (l : List SaveJob) (g : Fld) : (s.setSaves l).fld g = s.fld g := rfl
@[simp] theorem State.setSaves_clk (s : State) (l : List SaveJob) : (s.setSaves l).clk = s.clk := rfl
@[simp] theorem State.setSaves_tbl (s : State) (l : List SaveJob) : (s.setSaves l).tbl = { s.tbl with saves := l } := rfl
@[simp] theorem State.setGot_rd (s : State) (l : List StoreAnswer) (addr : Nat) : (s.setGot l).rd addr = s.rd addr := rfl
@[simp] theorem State.setGot_fld (s : State) (l : List StoreAnswer) (g : Fld) : (s.setGot l).fld g = s.fld g := rfl
@[simp] theorem State.setGot_clk (s : State) (l : List StoreAnswer) : (s.setGot l).clk = s.clk := rfl
@[simp] theorem State.setGot_tbl (s : State) (l : List StoreAnswer) : (s.setGot l).tbl = { s.tbl with got := l } := rfl
@[simp] theorem State.setSlot_rd (s : State) (k : Nat) (x : Slot) (addr : Nat) : (s.setSlot k x).rd addr = s.rd addr := rfl
@[simp] theorem State.setSlot_fld (s : State) (k : Nat) (x : Slot) (g : Fld) : (s.setSlot k x).fld g = s.fld g := rfl
@[simp] theorem State.setSlot_clk (s : State) (k : Nat) (x : Slot) : (s.setSlot k x).clk = s.clk := rfl
@[simp] theorem State.setSlot_ice (s : State) (k : Nat) (x : Slot) : (s.setSlot k x).ice = { s.ice with slots := s.ice.slots.put k x } := rfl
@[simp] theorem State.delSlot_rd (s : State) (k : Nat) (addr : Nat) : (s.delSlot k).rd addr = s.rd addr := rfl
@[simp] theorem State.delSlot_fld (s : State) (k : Nat) (g : Fld) : (s.delSlot k).fld g = s.fld g := rfl
@[simp] theorem State.delSlot_clk (s : State) (k : Nat) : (s.delSlot k).clk = s.clk := rfl
@[simp] theorem State.delSlot_ice (s : State) (k : Nat) : (s.delSlot k).ice = { s.ice with slots := s.ice.slots.del k } := rfl
@[simp] theorem State.setIceRun_rd (s : State) (r : Option RunOut) (addr : Nat) : (s.setIceRun r).rd addr = s.rd addr := rfl
@[simp] theorem State.setIceRun_fld (s : State) (r : Option RunOut) (g : Fld) : (s.setIceRun r).fld g = s.fld g := rfl
@[simp] theorem State.setIceRun_clk (s : State) (r : Option RunOut) : (s.setIceRun r).clk = s.clk := rfl
@[simp] theorem State.setIceRun_ice (s : State) (r : Option RunOut) : (s.setIceRun r).ice = { s.ice with run := r } := rfl
@[simp] theorem State.setRpl_rd (s : State) (r : Replay) (addr : Nat) : (s.setRpl r).rd addr = s.rd addr := rfl
@[simp] theorem State.setRpl_fld (s : State) (r : Replay) (g : Fld) : (s.setRpl r).fld g = s.fld g := rfl
@[simp] theorem State.setRpl_clk (s : State) (r : Replay) : (s.setRpl r).clk = s.clk := rfl
@[simp] theorem State.setRpl_ice (s : State) (r : Replay) : (s.setRpl r).ice = { s.ice with rpl := r } := rfl
@[simp] theorem State.setSol_rd (s : State) (k : Nat) (x : Sol) (addr : Nat) : (s.setSol k x).rd addr = s.rd addr := rfl
@[simp] theorem State.setSol_fld (s : State) (k : Nat) (x : Sol) (g : Fld) : (s.setSol k x).fld g = s.fld g := rfl
@[simp] theorem State.setSol_clk (s : State) (k : Nat) (x : Sol) : (s.setSol k x).clk = s.clk := rfl
@[simp] theorem State.setSol_acts (s : State) (k : Nat) (x : Sol) : (s.setSol k x).acts = { s.acts with sol := s.acts.sol.put k x } := rfl
@[simp] theorem State.setFan_rd (s : State) (f : Nat) (x : Fan) (addr : Nat) : (s.setFan f x).rd addr = s.rd addr := rfl
@[simp] theorem State.setFan_fld (s : State) (f : Nat) (x : Fan) (g : Fld) : (s.setFan f x).fld g = s.fld g := rfl
@[simp] theorem State.setFan_clk (s : State) (f : Nat) (x : Fan) : (s.setFan f x).clk = s.clk := rfl
@[simp] theorem State.setFan_acts (s : State) (f : Nat) (x : Fan) : (s.setFan f x).acts = { s.acts with fan := s.acts.fan.put f x } := rfl
@[simp] theorem State.setRackP_rd (s : State) (r : Nat) (x : RackP) (addr : Nat) : (s.setRackP r x).rd addr = s.rd addr := rfl
@[simp] theorem State.setRackP_fld (s : State) (r : Nat) (x : RackP) (g : Fld) : (s.setRackP r x).fld g = s.fld g := rfl
@[simp] theorem State.setRackP_clk (s : State) (r : Nat) (x : RackP) : (s.setRackP r x).clk = s.clk := rfl
@[simp] theorem State.setRackP_prt (s : State) (r : Nat) (x : RackP) : (s.setRackP r x).prt = { s.prt with rack := s.prt.rack.put r x } := rfl
@[simp] theorem State.setLeakIn_rd (s : State) (i : Nat) (x : LeakIn) (addr : Nat) : (s.setLeakIn i x).rd addr = s.rd addr := rfl
@[simp] theorem State.setLeakIn_fld (s : State) (i : Nat) (x : LeakIn) (g : Fld) : (s.setLeakIn i x).fld g = s.fld g := rfl
@[simp] theorem State.setLeakIn_clk (s : State) (i : Nat) (x : LeakIn) : (s.setLeakIn i x).clk = s.clk := rfl
@[simp] theorem State.setLeakIn_prt (s : State) (i : Nat) (x : LeakIn) : (s.setLeakIn i x).prt = { s.prt with leak := s.prt.leak.put i x } := rfl
@[simp] theorem State.setLimP_rd (s : State) (e : Nat) (x : LimP) (addr : Nat) : (s.setLimP e x).rd addr = s.rd addr := rfl
@[simp] theorem State.setLimP_fld (s : State) (e : Nat) (x : LimP) (g : Fld) : (s.setLimP e x).fld g = s.fld g := rfl
@[simp] theorem State.setLimP_clk (s : State) (e : Nat) (x : LimP) : (s.setLimP e x).clk = s.clk := rfl
@[simp] theorem State.setLimP_prt (s : State) (e : Nat) (x : LimP) : (s.setLimP e x).prt = { s.prt with lim := s.prt.lim.put e x } := rfl
@[simp] theorem State.setPlanAck_rd (s : State) (a : Nat) (x : PlanAck) (addr : Nat) : (s.setPlanAck a x).rd addr = s.rd addr := rfl
@[simp] theorem State.setPlanAck_fld (s : State) (a : Nat) (x : PlanAck) (g : Fld) : (s.setPlanAck a x).fld g = s.fld g := rfl
@[simp] theorem State.setPlanAck_clk (s : State) (a : Nat) (x : PlanAck) : (s.setPlanAck a x).clk = s.clk := rfl
@[simp] theorem State.setPlanAck_plan (s : State) (a : Nat) (x : PlanAck) : (s.setPlanAck a x).plan = { s.plan with acks := s.plan.acks.put a x } := rfl
@[simp] theorem State.setObj_rd (s : State) (h : Nat) (o : StoreObj) (addr : Nat) : (s.setObj h o).rd addr = s.rd addr := rfl
@[simp] theorem State.setObj_fld (s : State) (h : Nat) (o : StoreObj) (g : Fld) : (s.setObj h o).fld g = s.fld g := rfl
@[simp] theorem State.setObj_clk (s : State) (h : Nat) (o : StoreObj) : (s.setObj h o).clk = s.clk := rfl
@[simp] theorem State.setObj_zh (s : State) (h : Nat) (o : StoreObj) : (s.setObj h o).zh = { s.zh with store := s.zh.store.put h o } := rfl
@[simp] theorem State.delObj_rd (s : State) (h : Nat) (addr : Nat) : (s.delObj h).rd addr = s.rd addr := rfl
@[simp] theorem State.delObj_fld (s : State) (h : Nat) (g : Fld) : (s.delObj h).fld g = s.fld g := rfl
@[simp] theorem State.delObj_clk (s : State) (h : Nat) : (s.delObj h).clk = s.clk := rfl
@[simp] theorem State.delObj_zh (s : State) (h : Nat) : (s.delObj h).zh = { s.zh with store := s.zh.store.del h } := rfl

theorem fieldOf_one (w : Word) (n : Nat) : fieldOf w n 1 = (w.getLsbD n).toNat := by
  simp only [fieldOf, pow_one, BitVec.getLsbD, Nat.toNat_testBit]

/-- A bit that is set stays set through another event of its register. -/
theorem State.raise_on_of_on (s : State) (a lo lo' o : Nat) (l : List Nat) (x : Bool) (ha : a < 0xD000000) (hl : lo < 32)
    (hb : a % 0x1000000 < 0x7F0000) (h : s.on ⟨a, lo', 1⟩ = true) : (s.raise ⟨a, lo, 1⟩ o l x).on ⟨a, lo', 1⟩ = true := by
  have hw : (s.raise ⟨a, lo, 1⟩ o l x).rd a = w1cAfter (s.rd a) 0 (BitVec.ofNat 32 (2 ^ lo)) := by
    unfold State.raise
    dsimp only
    rw [State.occur_rd _ _ _ _ _ _ (eventCode_lt (Nat.lt_trans ha (by decide)) hl) (eventWord_eq_false hb ha),
      State.rd_wr_ne _ _ _ _ (by omega), State.rd_wr_self]
  simp only [State.on, State.fld, beq_iff_eq, fieldOf_one, Bool.toNat_eq_one] at h ⊢
  rw [hw, w1cAfter, BitVec.getLsbD_or, BitVec.getLsbD_and, h, BitVec.getLsbD_not, decide_eq_true (BitVec.lt_of_getLsbD h),
    show (0 : Word) = 0#32 from rfl, BitVec.getLsbD_zero]
  rfl

end Sys2Proof.Machine
end

section
-- In order: the one text holds more declarations than asynchronous elaboration has threads for.
set_option Elab.async false

/-! SUPPORT. Requests and sessionless frames step by step: what the arrival of a request, its execution and its answer change, and what they
leave to be read. -/

namespace Sys2Proof.Machine

variable {ps : List Part} {ws : List Nat} {s t u v : State}

/-! ### Arrival -/

theorem State.Reaches.changes {q : Req} {k : Nat} (h : s.Reaches q k u) : Changes [.zh] [Reg.PORT_CNT_RX q.port] s u := by
  obtain ⟨z, rfl⟩ := h.eq
  exact (Changes.refl _ _ s).count.upd_zh

/-- The slot of a session is one of the eight. -/
theorem State.slotOf_lt {id : Word} {k : Nat} (h : s.slotOf id = some k) : k < 8 := by
  have hm := List.mem_of_find?_eq_some h
  exact List.mem_range.mp (List.mem_filter.mp hm).1

theorem State.Reaches.slot_lt {q : Req} {k : Nat} (h : s.Reaches q k u) : k < 8 := State.slotOf_lt h.slot

/-- A request's arrival touches of the sessions' part its own session's record alone, and of that the receive window, the times it was heard and
the mailboxes. -/
theorem State.Reaches.zh {q : Req} {k : Nat} (h : s.Reaches q k u) : ∃ x : Session, x.prio = (s.sess k).prio ∧
    u = { s.countRx q.port with zh := { s.zh with sess := u.zh.sess } } ∧ ∀ j, u.sess j = if j = k then x else s.sess j := by
  obtain ⟨x, w, -, e⟩ := h.fresh
  have hu : ∃ y z : Session, y.prio = (s.sess k).prio ∧ z.prio = (s.sess k).prio ∧ ∃ v, v.prio = (s.sess k).prio ∧
      u = (((s.countRx q.port).setSess k y).setSess k z).setSess k v := by
    unfold State.onFrame State.arrive State.heard at e
    cases hn : q.net <;> rw [hn] at e <;> dsimp only at e
    all_goals
      refine ⟨_, _, ?_, ?_, _, ?_, e⟩
      all_goals simp [State.setSess_sess, State.sess_of (State.count_zh _ _), State.countRx]
  obtain ⟨y, z, -, -, v, hv, rfl⟩ := hu
  refine ⟨v, hv, rfl, fun j => ?_⟩
  split
  · next hj => rw [hj, State.setSess_sess]
  · next hj => rw [State.setSess_sess_ne _ _ _ _ hj, State.setSess_sess_ne _ _ _ _ hj, State.setSess_sess_ne _ _ _ _ hj]; rfl

theorem State.Reaches.lease {q : Req} {k : Nat} (h : s.Reaches q k u) : u.zh.lease = s.zh.lease := by
  obtain ⟨x, -, hu, -⟩ := h.zh
  rw [hu]

theorem State.Reaches.offers {q : Req} {k : Nat} (h : s.Reaches q k u) : u.zh.offers = s.zh.offers := by
  obtain ⟨x, -, hu, -⟩ := h.zh
  rw [hu]

theorem State.Reaches.prio {q : Req} {k : Nat} (h : s.Reaches q k u) (j d : Nat) : u.prio j d = s.prio j d := by
  obtain ⟨x, hx, -, hs⟩ := h.zh
  unfold State.prio
  rw [hs]
  split
  · next hj => rw [hx, hj]
  · rfl

theorem State.Reaches.sess_ne {q : Req} {k : Nat} (h : s.Reaches q k u) {j : Nat} (hj : j ≠ k) : u.sess j = s.sess j := by
  obtain ⟨x, -, -, hs⟩ := h.zh
  rw [hs, if_neg hj]

theorem State.openSlots_open {k : Nat} (h : k ∈ s.openSlots) : s.sessOpen k = true := (List.mem_filter.mp h).2

/-- The session of a request that reaches its judgement is open. -/
theorem State.Reaches.open {q : Req} {k : Nat} (h : s.Reaches q k u) : u.sessOpen k = true := by
  have h1 : (s.countRx q.port).sessOpen k = true := State.openSlots_open (List.mem_of_find?_eq_some h.slot)
  have hrd : u.rd (Reg.SS_STAT k) = (s.countRx q.port).rd (Reg.SS_STAT k) := by
    obtain ⟨z, rfl⟩ := h.eq
    rfl
  exact (State.sessOpen_congr hrd).trans h1

theorem State.Reaches.clk {q : Req} {k : Nat} (h : s.Reaches q k u) : u.clk = s.clk := h.changes.clk

/-! ### Leases -/

/-- The leases of domains restarted (R416). -/
def State.renewAll (s : State) (l : List Nat) : State := l.foldl (fun s d => s.renewLease d) s

theorem Changes.renewLease (h : Changes ps ws s t) {d : Nat} (hp : Part.zh ∈ ps := by repeat constructor) :
    Changes ps ws s (t.renewLease d) := h.part .zh (State.renewLease_keeps rfl (Keeps.refl _ t)) (fun _ => rfl) hp

theorem Changes.renewAll (h : Changes ps ws s t) {l : List Nat} (hp : Part.zh ∈ ps := by repeat constructor) :
    Changes ps ws s (t.renewAll l) := by
  obtain ⟨z, e⟩ := renewAll_eq l t
  rw [State.renewAll, e]
  exact h.upd_zh hp

/-- Restarting leases changes the leases alone. -/
theorem State.renewAll_zh (l : List Nat) (s : State) : ∃ x, s.renewAll l = { s with zh := { s.zh with lease := x } } := by
  induction l generalizing s with
  | nil => exact ⟨s.zh.lease, rfl⟩
  | cons d l ih =>
    obtain ⟨x, e⟩ := ih (s.renewLease d)
    exact ⟨x, e⟩

@[simp] theorem State.renewAll_rd (s : State) (l : List Nat) (a : Nat) : (s.renewAll l).rd a = s.rd a := by
  obtain ⟨x, e⟩ := s.renewAll_zh l
  rw [e]
  rfl
@[simp] theorem State.renewAll_fld (s : State) (l : List Nat) (f : Fld) : (s.renewAll l).fld f = s.fld f := by
  simp only [State.fld, State.renewAll_rd]
@[simp] theorem State.renewAll_clk (s : State) (l : List Nat) : (s.renewAll l).clk = s.clk := by
  obtain ⟨x, e⟩ := s.renewAll_zh l
  rw [e]
@[simp] theorem State.renewAll_nil (s : State) : s.renewAll [] = s := rfl

/-! ### Answers -/

/-- The statuses whose denial is recorded (R420, R422, R447). -/
def recordedStatus (st : Nat) : Bool := [0x10, 0x20, 0x30, 0x12].contains st

theorem State.denied_silent (s : State) (code : Nat) (d : Denial) (h : recordedStatus d.status = false) : s.denied code d = s := by
  simp only [recordedStatus, List.contains_cons, List.contains_nil, Bool.or_false, Bool.or_eq_false_iff, beq_eq_false_iff_ne] at h
  obtain ⟨h1, h2, h3, h4⟩ := h
  unfold State.denied
  split
  case h_1 e => exact absurd e h1
  case h_2 e => exact absurd e h2
  case h_3 e => exact absurd e h3
  case h_4 e => exact absurd e h4
  case h_5 => rfl

theorem State.emit_changes (s : State) (k : Nat) (n : Net × Bool) (a : Answer) : Changes [.zh, .out] [] s (s.emit k n a) := by
  unfold State.emit
  dsimp only
  split
  · exact (Changes.refl _ _ s).setMailbox.setSess.send.send
  · exact (Changes.refl _ _ s).setMailbox.setSess.send

theorem Changes.emit (h : Changes ps ws s t) {k : Nat} {n : Net × Bool} {a : Answer} (hz : Part.zh ∈ ps := by repeat constructor)
    (ho : Part.out ∈ ps := by repeat constructor) : Changes ps ws s (t.emit k n a) :=
  h.step (t.emit_changes k n a) (by simp [hz, ho])

/-- The parts and words that an answer changes, where its status is none that is recorded. -/
theorem State.finish_changes (s : State) (k : Nat) (q : Req) (code : Nat) {st : Nat} (l d : Nat) (body : List Nat)
    (hs : recordedStatus st = false) : Changes [.zh, .out] [Reg.SS_MBOX k] s (s.finish k q code st l d body) := by
  unfold State.finish
  rw [State.denied_silent _ _ _ hs]
  dsimp only
  split
  · exact (Changes.refl _ _ s).setMailbox.setBit.emit
  · exact (Changes.refl _ _ s).setMailbox.emit

theorem Changes.finish (h : Changes ps ws s t) {k : Nat} {q : Req} {code st l d : Nat} {body : List Nat}
    (hs : recordedStatus st = false := by decide) (hz : Part.zh ∈ ps := by repeat constructor) (ho : Part.out ∈ ps := by repeat constructor)
    (hw : Reg.SS_MBOX k ∈ ws := by repeat constructor) : Changes ps ws s (t.finish k q code st l d body) :=
  h.step (t.finish_changes k q code l d body hs) (by simp [hz, ho]) (by simp [hw])

theorem State.finish_answered (s : State) (k : Nat) (q : Req) (code st l d : Nat) (body : List Nat) :
    ∃ n a, (s.finish k q code st l d body).out.head? = some (.answer n a) ∧ a.session = q.session ∧ a.mbox = q.mbox.val ∧ a.tag = q.tag ∧
      a.cmd = code ∧ a.status = st ∧ a.body = body := by
  unfold State.finish
  dsimp only
  rw [State.emit_head]
  exact ⟨_, _, rfl, rfl, rfl, rfl, rfl, rfl, rfl⟩

theorem State.finish_refused (s : State) (k : Nat) (q : Req) (code l d : Nat) {st : Nat} (body : List Nat) (hs : st ≠ 0) :
    Refused (s.finish k q code st l d body) q code st := by
  obtain ⟨n, a, hh, h1, h2, h3, h4, h5, -⟩ := s.finish_answered k q code st l d body
  exact ⟨n, a, hh, h1, h2, h3, h4, h5, hs⟩

section finish
variable (s) (k : Nat) (q : Req) (code : Nat) {st : Nat} (l d : Nat) (body : List Nat)

theorem State.finish_rd (hs : recordedStatus st = false) (a : Nat) (ha : a ≠ Reg.SS_MBOX k) :
    (s.finish k q code st l d body).rd a = s.rd a := by
  unfold State.finish
  rw [State.denied_silent _ _ _ hs]
  dsimp only
  rw [State.emit_rd]
  split
  · rw [State.setBit_rd_ne _ _ _ _ _ ha, State.setMailbox_rd]
  · exact State.setMailbox_rd _ _ _ _ _

theorem State.finish_fld (hs : recordedStatus st = false) (f : Fld) (hf : f.addr ≠ Reg.SS_MBOX k) :
    (s.finish k q code st l d body).fld f = s.fld f := State.fld_congr (s.finish_rd k q code l d body hs _ hf)

theorem State.setMailbox_zh (m : Nat) (x : Mbox) : ∃ z, (s.setMailbox k m x).zh = { s.zh with sess := z } := ⟨_, rfl⟩

/-- Of the sessions' part an answer changes the sessions' table alone. -/
theorem State.emit_zh (n : Net × Bool) (a : Answer) : ∃ z, (s.emit k n a).zh = { s.zh with sess := z } := by
  unfold State.emit
  dsimp only
  split <;> exact ⟨_, rfl⟩

theorem State.finish_zh (hs : recordedStatus st = false) : ∃ z, (s.finish k q code st l d body).zh = { s.zh with sess := z } := by
  unfold State.finish
  rw [State.denied_silent _ _ _ hs]
  dsimp only
  split <;> exact (State.emit_zh _ _ _ _).imp (fun z e => e.trans rfl)

theorem State.finish_lease (hs : recordedStatus st = false) : (s.finish k q code st l d body).zh.lease = s.zh.lease := by
  obtain ⟨z, e⟩ := s.finish_zh k q code l d body hs
  rw [e]
theorem State.finish_offers (hs : recordedStatus st = false) : (s.finish k q code st l d body).zh.offers = s.zh.offers := by
  obtain ⟨z, e⟩ := s.finish_zh k q code l d body hs
  rw [e]
theorem State.finish_sources (hs : recordedStatus st = false) : (s.finish k q code st l d body).zh.sources = s.zh.sources := by
  obtain ⟨z, e⟩ := s.finish_zh k q code l d body hs
  rw [e]
theorem State.finish_quarEnd (hs : recordedStatus st = false) : (s.finish k q code st l d body).zh.quarEnd = s.zh.quarEnd := by
  obtain ⟨z, e⟩ := s.finish_zh k q code l d body hs
  rw [e]
theorem State.finish_store (hs : recordedStatus st = false) : (s.finish k q code st l d body).zh.store = s.zh.store := by
  obtain ⟨z, e⟩ := s.finish_zh k q code l d body hs
  rw [e]
theorem State.finish_nvStore (hs : recordedStatus st = false) : (s.finish k q code st l d body).zh.nvStore = s.zh.nvStore := by
  obtain ⟨z, e⟩ := s.finish_zh k q code l d body hs
  rw [e]
theorem State.finish_attached (hs : recordedStatus st = false) : (s.finish k q code st l d body).zh.attached = s.zh.attached := by
  obtain ⟨z, e⟩ := s.finish_zh k q code l d body hs
  rw [e]
theorem State.finish_devs (hs : recordedStatus st = false) : (s.finish k q code st l d body).zh.devs = s.zh.devs := by
  obtain ⟨z, e⟩ := s.finish_zh k q code l d body hs
  rw [e]
theorem State.finish_devTag (hs : recordedStatus st = false) : (s.finish k q code st l d body).zh.devTag = s.zh.devTag := by
  obtain ⟨z, e⟩ := s.finish_zh k q code l d body hs
  rw [e]
theorem State.finish_held (hs : recordedStatus st = false) : (s.finish k q code st l d body).zh.held = s.zh.held := by
  obtain ⟨z, e⟩ := s.finish_zh k q code l d body hs
  rw [e]

end finish

/-! ### A session's record through an answer -/

/-- A session's record without its mailboxes and the number of its next frame. -/
def Session.core (x : Session) : Session := { x with mbox := [], txNext := 0 }

theorem State.setSess_core (s : State) (k j : Nat) (x : Session) (h : x.core = (s.sess k).core) : ((s.setSess k x).sess j).core = (s.sess j).core := by
  by_cases hj : j = k
  · subst hj
    rw [State.setSess_sess, h]
  · rw [State.setSess_sess_ne _ _ _ _ hj]

theorem State.setMailbox_core (s : State) (k m j : Nat) (x : Mbox) : ((s.setMailbox k m x).sess j).core = (s.sess j).core :=
  s.setSess_core k j _ rfl

theorem State.emit_core (s : State) (k j : Nat) (n : Net × Bool) (a : Answer) : ((s.emit k n a).sess j).core = (s.sess j).core := by
  unfold State.emit
  dsimp only
  have h (x : Mbox) (n : Nat) : (((s.setMailbox k a.mbox x).setSess k { (s.setMailbox k a.mbox x).sess k with txNext := n }).sess j).core =
      (s.sess j).core := (State.setSess_core _ k j _ (by rfl)).trans (State.setMailbox_core _ _ _ _ _)
  split <;> exact h _ _

theorem State.finish_core (s : State) (k : Nat) (q : Req) (code : Nat) {st : Nat} (l d : Nat) (body : List Nat) (hs : recordedStatus st = false)
    (j : Nat) : ((s.finish k q code st l d body).sess j).core = (s.sess j).core := by
  unfold State.finish
  rw [State.denied_silent _ _ _ hs]
  dsimp only
  rw [State.emit_core]
  split
  · exact (congrArg Session.core (State.sess_of (State.set_zh _ _ _) j)).trans (State.setMailbox_core _ _ _ _ _)
  · exact State.setMailbox_core _ _ _ _ _

/-! ### A request that executes -/

/-- A request that passes its checks executes and is answered at once. -/
theorem State.request_answers {i : Instr} {q : Req} {k code : Nat} {j : Nat → State → Judge} {st d : Nat} {body : List Nat} (h : s.Reaches q k u)
    (hj : (j k u).first q u = none) (hr : (j k u).run 0 (u.renewAll (j k u).uses) = (v, .now st d body)) :
    s.request i q code j = v.finish k q (j k u).code st 0 (if st = 0 then 0 else d) body := by
  rw [State.request_taken h hj]
  unfold State.renewAll at hr
  unfold State.runJudge
  dsimp only
  rw [hr]

/-- The answer of a request that passes its checks and executes with OK: the code it is answered under, the leases it restarts, what it does. -/
theorem State.request_ok {i : Instr} {q : Req} {k code : Nat} {j : Nat → State → Judge} {c d : Nat} {l body : List Nat} (h : s.Reaches q k u)
    (hj : (j k u).first q u = none) (hc : (j k u).code = c) (hl : (j k u).uses = l)
    (hr : (j k u).run 0 (u.renewAll l) = (v, .now 0 d body)) : s.request i q code j = v.finish k q c 0 0 0 body := by
  subst hc hl
  exact State.request_answers h hj hr

/-- A request that fails a check other than by state or with a recorded status, and so is never held. -/
theorem State.request_refused {i : Instr} {q : Req} {k code : Nat} {j : Nat → State → Judge} {d : Denial} (h : s.Reaches q k u)
    (hj : (j k u).first q u = some d) (hd : d.status ≠ 0x10) :
    s.request i q code j = u.finish k q (j k u).code d.status d.legal d.detail [] := by
  unfold State.request
  obtain ⟨hh, w, rfl, e⟩ := State.takeFrame_fresh (code := code) (fits := fun _ _ => true)
    (go := fun k h w s => let s := s.arrive k h w q; s.handle i k q (j k s)) h rfl
  rw [e]
  dsimp only
  unfold State.handle
  obtain ⟨-, -, -, -, -, he, hh', hl⟩ := h
  dsimp only
  generalize hm : State.mailbox _ k q.mbox = m at he hh' hl
  rw [if_neg (by simp [he])]
  have h2 : m.held.filter (fun h => h.tag == q.tag) = none := by
    cases hx : m.held with
    | none => rfl
    | some x => rw [hx] at hh'; simpa [Option.filter, bne] using hh'
  have h3 : m.last.filter (fun a => a.tag == q.tag) = none := by
    cases hx : m.last with
    | none => rfl
    | some x => rw [hx] at hl; simpa [Option.filter, bne] using hl
  rw [h2]
  dsimp only
  unfold State.judgeNew
  rw [h3]
  dsimp only
  rw [if_neg (by simp [he]), hj]
  dsimp only
  rw [if_neg (by simp [hd])]

/-! ### Sessionless frames -/

theorem State.takePlain_taken {q : Plain} (h : s.TakesPlain q) (go : State → State) : s.takePlain q go = go (s.countRx q.port) := by
  unfold State.takePlain
  simp [h.port, h.quar]

theorem State.takePlain_quarantined {q : Plain} {e : Nat} (go : State → State) (hp : s.portTakes Fd.PORT_CFG_MBOX q.port q.src q.row = true)
    (hq : (s.countRx q.port).quarEntry q.src = some e) : s.takePlain q go = (s.countRx q.port).count Reg.NET_CNT_QDROP := by
  unfold State.takePlain
  simp [hp, hq]

theorem State.takeCra_taken {c : Came} (h : s.TakesCra c) (go : State → State) : s.takeCra c go = go (s.countRx c.port) := by
  unfold State.takeCra
  simp [h.port, h.quar]

theorem State.sendPlain_answered (s : State) (q : Plain) (level cmd st d : Nat) (body : List Nat) :
    PlainAnswered (s.sendPlain q level cmd st d body) q cmd st d body := ⟨_, rfl, rfl, rfl, rfl, rfl, rfl, rfl⟩

theorem Changes.sendPlain (h : Changes ps ws s t) {q : Plain} {level cmd st d : Nat} {body : List Nat}
    (hp : Part.out ∈ ps := by repeat constructor) : Changes ps ws s (t.sendPlain q level cmd st d body) := h.send hp

theorem Changes.countRx (h : Changes ps ws s t) {p : Nat} (ha : Reg.PORT_CNT_RX p ∈ ws := by repeat constructor) :
    Changes ps ws s (t.countRx p) := h.count ha

end Sys2Proof.Machine
end

section
-- In order: the one text holds more declarations than asynchronous elaboration has threads for.
set_option Elab.async false

/-! PROOFS. The safety of steps and runs (R550), and the movers of each part of the state: every command answers a next state, and what it
may do between the two is its lemma of `Keeps`. -/

namespace Sys2Proof.Machine

/-! ### What a command may move -/

/-- Whether a mask names no part but those that a command may move. -/
def withinMoves (i : Instr) (F : Nat) : Bool := allParts.all (fun p => moves i p || (F ||| p.bit) != F)

theorem withinMoves_bit {i : Instr} {F : Nat} (h : withinMoves i F = true) {p : Part} (hp : moves i p = false) : F ||| p.bit ≠ F := by
  have hb := List.all_eq_true.mp h p (mem_allParts p)
  simpa [hp] using hb

/-- What a command does to a state: it answers a next one, keeps the order of things (`Keeps`), and leaves alone the parts that it may not
move. -/
def ExecKeeps (i : Instr) (s : State) : Prop := ∃ t, exec i s = .next t ∧ ∃ F, Keeps F s t ∧ withinMoves i F = true

theorem staysIn {i : Instr} {s : State} {F : Nat} (h : ∃ t, exec i s = .next t ∧ Keeps F s t) (hw : withinMoves i F = true) :
    ExecKeeps i s := by
  obtain ⟨t, ht, hk⟩ := h
  exact ⟨t, ht, F, hk, hw⟩

/-- Every command keeps to the parts that it may move: the mask of its lemma of `Keeps` names no other. -/
theorem exec_keeps (i : Instr) (s : State) : ExecKeeps i s := by
  cases i with
  | powerOn _ => exact staysIn (execPowerOn_keeps (Nat.or_self _) (Keeps.refl _ s)) rfl
  | seracBootVerifyDone _ _ _ => exact staysIn (execSeracBootVerifyDone_keeps (Nat.or_self _) (Keeps.refl _ s)) rfl
  | portDieBootDone _ _ => exact staysIn (execPortDieBootDone_keeps (Nat.or_self _) (Keeps.refl _ s)) rfl
  | mainDieBootDone _ _ => exact staysIn (execMainDieBootDone_keeps (Nat.or_self _) (Keeps.refl _ s)) rfl
  | roleResolve => exact staysIn (execRoleResolve_keeps (Nat.or_self _) (Keeps.refl _ s)) rfl
  | bootTimeout => exact staysIn (execBootTimeout_keeps (Nat.or_self _) (Keeps.refl _ s)) rfl
  | moduleResetInput => exact staysIn (execModuleResetInput_keeps (Nat.or_self _) (Keeps.refl _ s)) rfl
  | moduleInsert => exact staysIn (execModuleInsert_keeps (Nat.or_self _) (Keeps.refl _ s)) rfl
  | moduleWithdraw => exact staysIn (execModuleWithdraw_keeps (Nat.or_self _) (Keeps.refl _ s)) rfl
  | logicInputLost _ _ => exact staysIn (execLogicInputLost_keeps (Nat.or_self _) (Keeps.refl _ s)) rfl
  | logicPowerFail => exact staysIn (execLogicPowerFail_keeps (Nat.or_self _) (Keeps.refl _ s)) rfl
  | actuatorSupplyChange => exact staysIn (execActuatorSupplyChange_keeps (Nat.or_self _) (Keeps.refl _ s)) rfl
  | fieldSupplyLimit _ => exact staysIn (execFieldSupplyLimit_keeps (Nat.or_self _) (Keeps.refl _ s)) rfl
  | fieldSupplyRestore _ => exact staysIn (execFieldSupplyRestore_keeps (Nat.or_self _) (Keeps.refl _ s)) rfl
  | strapChange _ => exact staysIn (execStrapChange_keeps (Nat.or_self _) (Keeps.refl _ s)) rfl
  | harnessChange _ _ _ => exact staysIn (execHarnessChange_keeps (Nat.or_self _) (Keeps.refl _ s)) rfl
  | selChange _ => exact staysIn (execSelChange_keeps (Nat.or_self _) (Keeps.refl _ s)) rfl
  | mainDieThermalLimit _ => exact staysIn (execMainDieThermalLimit_keeps (Nat.or_self _) (Keeps.refl _ s)) rfl
  | portDieThermalLimit => exact staysIn (execPortDieThermalLimit_keeps (Nat.or_self _) (Keeps.refl _ s)) rfl
  | opticPresent _ _ => exact staysIn (execOpticPresent_keeps (Nat.or_self _) (Keeps.refl _ s)) rfl
  | tickEdge _ _ => exact staysIn (execTickEdge_keeps (Nat.or_self _) (Keeps.refl _ s)) rfl
  | laneRecover _ => exact staysIn (execLaneRecover_keeps (Nat.or_self _) (Keeps.refl _ s)) rfl
  | laneReady _ => exact staysIn (execLaneReady_keeps (Nat.or_self _) (Keeps.refl _ s)) rfl
  | frameBoundary => exact staysIn (execFrameBoundary_keeps (Nat.or_self _) (Keeps.refl _ s)) rfl
  | framePacket _ _ => exact staysIn (execFramePacket_keeps (Nat.or_self _) (Keeps.refl _ s)) rfl
  | packetAcceptExchange => exact staysIn (execPacketAcceptExchange_keeps (Nat.or_self _) (Keeps.refl _ s)) rfl
  | mainDieAbsent => exact staysIn (execMainDieAbsent_keeps (Nat.or_self _) (Keeps.refl _ s)) rfl
  | mainDieReset => exact staysIn (execMainDieReset_keeps (Nat.or_self _) (Keeps.refl _ s)) rfl
  | mainPowerGoodLost => exact staysIn (execMainPowerGoodLost_keeps (Nat.or_self _) (Keeps.refl _ s)) rfl
  | safetyLinkMLost => exact staysIn (execSafetyLinkMLost_keeps (Nat.or_self _) (Keeps.refl _ s)) rfl
  | mainDieRelease => exact staysIn (execMainDieRelease_keeps (Nat.or_self _) (Keeps.refl _ s)) rfl
  | mainDieReady => exact staysIn (execMainDieReady_keeps (Nat.or_self _) (Keeps.refl _ s)) rfl
  | tableToRun => exact staysIn (execTableToRun_keeps (Nat.or_self _) (Keeps.refl _ s)) rfl
  | portDieAbsent => exact staysIn (execPortDieAbsent_keeps (Nat.or_self _) (Keeps.refl _ s)) rfl
  | portDiePresent => exact staysIn (execPortDiePresent_keeps (Nat.or_self _) (Keeps.refl _ s)) rfl
  | crecMake _ => exact staysIn (execCrecMake_keeps (Nat.or_self _) (Keeps.refl _ s)) rfl
  | crecClear _ => exact staysIn (execCrecClear_keeps (Nat.or_self _) (Keeps.refl _ s)) rfl
  | ceilingReset _ => exact staysIn (execCeilingReset_keeps (Nat.or_self _) (Keeps.refl _ s)) rfl
  | ptpAnnounce _ _ _ => exact staysIn (execPtpAnnounce_keeps (Nat.or_self _) (Keeps.refl _ s)) rfl
  | ptpSync _ _ _ _ _ => exact staysIn (execPtpSync_keeps (Nat.or_self _) (Keeps.refl _ s)) rfl
  | announceReceiptTimeout _ => exact staysIn (execAnnounceReceiptTimeout_keeps (Nat.or_self _) (Keeps.refl _ s)) rfl
  | holdoverExpiry => exact staysIn (execHoldoverExpiry_keeps (Nat.or_self _) (Keeps.refl _ s)) rfl
  | instanceDisagree => exact staysIn (execInstanceDisagree_keeps (Nat.or_self _) (Keeps.refl _ s)) rfl
  | sampleIndexAnchor => exact staysIn (execSampleIndexAnchor_keeps (Nat.or_self _) (Keeps.refl _ s)) rfl
  | timReanchor _ => exact staysIn (execTimReanchor_keeps (Nat.or_self _) (Keeps.refl _ s)) rfl
  | snapshotRequest _ => exact staysIn (execSnapshotRequest_keeps (Nat.or_self _) (Keeps.refl _ s)) rfl
  | commonSnapshot => exact staysIn (execCommonSnapshot_keeps (Nat.or_self _) (Keeps.refl _ s)) rfl
  | actionCommit _ _ _ => exact staysIn (execActionCommit_keeps (Nat.or_self _) (Keeps.refl _ s)) rfl
  | actionCancelWrite _ _ _ => exact staysIn (execActionCancelWrite_keeps (Nat.or_self _) (Keeps.refl _ s)) rfl
  | actionFire _ => exact staysIn (execActionFire_keeps (Nat.or_self _) (Keeps.refl _ s)) rfl
  | packetSeal => exact staysIn (execPacketSeal_keeps (Nat.or_self _) (Keeps.refl _ s)) rfl
  | markerWindowClose _ => exact staysIn (execMarkerWindowClose_keeps (Nat.or_self _) (Keeps.refl _ s)) rfl
  | jobCoast _ => exact staysIn (execJobCoast_keeps (Nat.or_self _) (Keeps.refl _ s)) rfl
  | jobLost _ => exact staysIn (execJobLost_keeps (Nat.or_self _) (Keeps.refl _ s)) rfl
  | jobCfgWrite _ _ _ => exact staysIn (execJobCfgWrite_keeps (Nat.or_self _) (Keeps.refl _ s)) rfl
  | streamFrame _ _ _ => exact staysIn (execStreamFrame_keeps (Nat.or_self _) (Keeps.refl _ s)) rfl
  | quarantineEnd _ => exact staysIn (execQuarantineEnd_keeps (Nat.or_self _) (Keeps.refl _ s)) rfl
  | reorderWaitExpiry _ => exact staysIn (execReorderWaitExpiry_keeps (Nat.or_self _) (Keeps.refl _ s)) rfl
  | streamStale _ => exact staysIn (execStreamStale_keeps (Nat.or_self _) (Keeps.refl _ s)) rfl
  | pairResolved _ => exact staysIn (execPairResolved_keeps (Nat.or_self _) (Keeps.refl _ s)) rfl
  | suspectClear _ => exact staysIn (execSuspectClear_keeps (Nat.or_self _) (Keeps.refl _ s)) rfl
  | fieldInputFault _ => exact staysIn (execFieldInputFault_keeps (Nat.or_self _) (Keeps.refl _ s)) rfl
  | fieldInputFaultClear _ => exact staysIn (execFieldInputFaultClear_keeps (Nat.or_self _) (Keeps.refl _ s)) rfl
  | streamCommit _ => exact staysIn (execStreamCommit_keeps (Nat.or_self _) (Keeps.refl _ s)) rfl
  | streamConfigLoad _ => exact staysIn (execStreamConfigLoad_keeps (Nat.or_self _) (Keeps.refl _ s)) rfl
  | streamAck _ _ => exact staysIn (execStreamAck_keeps (Nat.or_self _) (Keeps.refl _ s)) rfl
  | guardDigest => exact staysIn (execGuardDigest_keeps (Nat.or_self _) (Keeps.refl _ s)) rfl
  | frameRunStart => exact staysIn (execFrameRunStart_keeps (Nat.or_self _) (Keeps.refl _ s)) rfl
  | frameRunEnd _ _ _ => exact staysIn (execFrameRunEnd_keeps (Nat.or_self _) (Keeps.refl _ s)) rfl
  | frameRunOverrun => exact staysIn (execFrameRunOverrun_keeps (Nat.or_self _) (Keeps.refl _ s)) rfl
  | kernelBatchStart _ => exact staysIn (execKernelBatchStart_keeps (Nat.or_self _) (Keeps.refl _ s)) rfl
  | kernelBatchEnd _ => exact staysIn (execKernelBatchEnd_keeps (Nat.or_self _) (Keeps.refl _ s)) rfl
  | runMemoryError _ => exact staysIn (execRunMemoryError_keeps (Nat.or_self _) (Keeps.refl _ s)) rfl
  | arrayTestDone _ _ _ _ => exact staysIn (execArrayTestDone_keeps (Nat.or_self _) (Keeps.refl _ s)) rfl
  | slotLoad _ _ _ => exact staysIn (execSlotLoad_keeps (Nat.or_self _) (Keeps.refl _ s)) rfl
  | slotVerifyDone _ => exact staysIn (execSlotVerifyDone_keeps (Nat.or_self _) (Keeps.refl _ s)) rfl
  | slotUnload _ _ => exact staysIn (execSlotUnload_keeps (Nat.or_self _) (Keeps.refl _ s)) rfl
  | ifdSwitch _ _ => exact staysIn (execIfdSwitch_keeps (Nat.or_self _) (Keeps.refl _ s)) rfl
  | ifdPartWrite _ _ => exact staysIn (execIfdPartWrite_keeps (Nat.or_self _) (Keeps.refl _ s)) rfl
  | replayStart _ _ => exact staysIn (execReplayStart_keeps (Nat.or_self _) (Keeps.refl _ s)) rfl
  | replayPause _ => exact staysIn (execReplayPause_keeps (Nat.or_self _) (Keeps.refl _ s)) rfl
  | replayResume _ _ => exact staysIn (execReplayResume_keeps (Nat.or_self _) (Keeps.refl _ s)) rfl
  | replayStep _ => exact staysIn (execReplayStep_keeps (Nat.or_self _) (Keeps.refl _ s)) rfl
  | replaySnap _ => exact staysIn (execReplaySnap_keeps (Nat.or_self _) (Keeps.refl _ s)) rfl
  | replayRestore _ => exact staysIn (execReplayRestore_keeps (Nat.or_self _) (Keeps.refl _ s)) rfl
  | replayStop _ => exact staysIn (execReplayStop_keeps (Nat.or_self _) (Keeps.refl _ s)) rfl
  | replayFrameEnd _ => exact staysIn (execReplayFrameEnd_keeps (Nat.or_self _) (Keeps.refl _ s)) rfl
  | segmentLoadDone _ _ => exact staysIn (execSegmentLoadDone_keeps (Nat.or_self _) (Keeps.refl _ s)) rfl
  | saveRetry => exact staysIn (execSaveRetry_keeps (Nat.or_self _) (Keeps.refl _ s)) rfl
  | logCommit => exact staysIn (execLogCommit_keeps (Nat.or_self _) (Keeps.refl _ s)) rfl
  | commitWriteback => exact staysIn (execCommitWriteback_keeps (Nat.or_self _) (Keeps.refl _ s)) rfl
  | checkpointStart => exact staysIn (execCheckpointStart_keeps (Nat.or_self _) (Keeps.refl _ s)) rfl
  | checkpointDone => exact staysIn (execCheckpointDone_keeps (Nat.or_self _) (Keeps.refl _ s)) rfl
  | tableCreate _ _ _ => exact staysIn (execTableCreate_keeps (Nat.or_self _) (Keeps.refl _ s)) rfl
  | tableDelete _ _ => exact staysIn (execTableDelete_keeps (Nat.or_self _) (Keeps.refl _ s)) rfl
  | tableSave _ _ => exact staysIn (execTableSave_keeps (Nat.or_self _) (Keeps.refl _ s)) rfl
  | tableRestore _ _ => exact staysIn (execTableRestore_keeps (Nat.or_self _) (Keeps.refl _ s)) rfl
  | pcRetired _ _ _ => exact staysIn (execPcRetired_keeps (Nat.or_self _) (Keeps.refl _ s)) rfl
  | stackLost _ => exact staysIn (execStackLost_keeps (Nat.or_self _) (Keeps.refl _ s)) rfl
  | plannerCompute => exact staysIn (execPlannerCompute_keeps (Nat.or_self _) (Keeps.refl _ s)) rfl
  | changeFrameEmit => exact staysIn (execChangeFrameEmit_keeps (Nat.or_self _) (Keeps.refl _ s)) rfl
  | refreshFrameEmit _ => exact staysIn (execRefreshFrameEmit_keeps (Nat.or_self _) (Keeps.refl _ s)) rfl
  | ceilingCommit _ _ _ => exact staysIn (execCeilingCommit_keeps (Nat.or_self _) (Keeps.refl _ s)) rfl
  | ceilingClearWrite _ _ _ => exact staysIn (execCeilingClearWrite_keeps (Nat.or_self _) (Keeps.refl _ s)) rfl
  | stagedChangeStage _ _ _ => exact staysIn (execStagedChangeStage_keeps (Nat.or_self _) (Keeps.refl _ s)) rfl
  | stagedChangeWithdraw _ _ _ => exact staysIn (execStagedChangeWithdraw_keeps (Nat.or_self _) (Keeps.refl _ s)) rfl
  | protFrameRebuild _ => exact staysIn (execProtFrameRebuild_keeps (Nat.or_self _) (Keeps.refl _ s)) rfl
  | protectiveCapSignal _ => exact staysIn (execProtectiveCapSignal_keeps (Nat.or_self _) (Keeps.refl _ s)) rfl
  | planAck _ _ _ => exact staysIn (execPlanAck_keeps (Nat.or_self _) (Keeps.refl _ s)) rfl
  | planNoack _ => exact staysIn (execPlanNoack_keeps (Nat.or_self _) (Keeps.refl _ s)) rfl
  | loopCommit _ => exact staysIn (execLoopCommit_keeps (Nat.or_self _) (Keeps.refl _ s)) rfl
  | loopConfigLoad _ => exact staysIn (execLoopConfigLoad_keeps (Nat.or_self _) (Keeps.refl _ s)) rfl
  | plAck _ _ _ => exact staysIn (execPlAck_keeps (Nat.or_self _) (Keeps.refl _ s)) rfl
  | plausibilityFault _ => exact staysIn (execPlausibilityFault_keeps (Nat.or_self _) (Keeps.refl _ s)) rfl
  | loopFailsafe _ => exact staysIn (execLoopFailsafe_keeps (Nat.or_self _) (Keeps.refl _ s)) rfl
  | loopConfigSave => exact staysIn (execLoopConfigSave_keeps (Nat.or_self _) (Keeps.refl _ s)) rfl
  | pumpStart _ _ => exact staysIn (execPumpStart_keeps (Nat.or_self _) (Keeps.refl _ s)) rfl
  | pumpStop _ _ => exact staysIn (execPumpStop_keeps (Nat.or_self _) (Keeps.refl _ s)) rfl
  | pumpAck _ _ => exact staysIn (execPumpAck_keeps (Nat.or_self _) (Keeps.refl _ s)) rfl
  | pumpRestore _ _ => exact staysIn (execPumpRestore_keeps (Nat.or_self _) (Keeps.refl _ s)) rfl
  | pumpDriveReady _ => exact staysIn (execPumpDriveReady_keeps (Nat.or_self _) (Keeps.refl _ s)) rfl
  | pumpProven _ => exact staysIn (execPumpProven_keeps (Nat.or_self _) (Keeps.refl _ s)) rfl
  | pumpReadyTimeout _ => exact staysIn (execPumpReadyTimeout_keeps (Nat.or_self _) (Keeps.refl _ s)) rfl
  | pumpProofTimeout _ => exact staysIn (execPumpProofTimeout_keeps (Nat.or_self _) (Keeps.refl _ s)) rfl
  | pumpStopComplete _ => exact staysIn (execPumpStopComplete_keeps (Nat.or_self _) (Keeps.refl _ s)) rfl
  | pumpTrip _ _ => exact staysIn (execPumpTrip_keeps (Nat.or_self _) (Keeps.refl _ s)) rfl
  | lockoutWrite _ _ _ => exact staysIn (execLockoutWrite_keeps (Nat.or_self _) (Keeps.refl _ s)) rfl
  | valveFault _ => exact staysIn (execValveFault_keeps (Nat.or_self _) (Keeps.refl _ s)) rfl
  | valveDeviation _ => exact staysIn (execValveDeviation_keeps (Nat.or_self _) (Keeps.refl _ s)) rfl
  | solPulse _ _ => exact staysIn (execSolPulse_keeps (Nat.or_self _) (Keeps.refl _ s)) rfl
  | solEnergize _ _ => exact staysIn (execSolEnergize_keeps (Nat.or_self _) (Keeps.refl _ s)) rfl
  | solRelease _ _ => exact staysIn (execSolRelease_keeps (Nat.or_self _) (Keeps.refl _ s)) rfl
  | solTest _ _ => exact staysIn (execSolTest_keeps (Nat.or_self _) (Keeps.refl _ s)) rfl
  | isoReset _ _ => exact staysIn (execIsoReset_keeps (Nat.or_self _) (Keeps.refl _ s)) rfl
  | solenoidArmatureDip _ => exact staysIn (execSolenoidArmatureDip_keeps (Nat.or_self _) (Keeps.refl _ s)) rfl
  | solenoidPullinEnd _ => exact staysIn (execSolenoidPullinEnd_keeps (Nat.or_self _) (Keeps.refl _ s)) rfl
  | solenoidOpenCoil _ => exact staysIn (execSolenoidOpenCoil_keeps (Nat.or_self _) (Keeps.refl _ s)) rfl
  | solenoidDecayEnd _ => exact staysIn (execSolenoidDecayEnd_keeps (Nat.or_self _) (Keeps.refl _ s)) rfl
  | solenoidRetry _ => exact staysIn (execSolenoidRetry_keeps (Nat.or_self _) (Keeps.refl _ s)) rfl
  | solenoidDeferTimeout _ => exact staysIn (execSolenoidDeferTimeout_keeps (Nat.or_self _) (Keeps.refl _ s)) rfl
  | solenoidSelfTest _ _ => exact staysIn (execSolenoidSelfTest_keeps (Nat.or_self _) (Keeps.refl _ s)) rfl
  | bankCut _ _ => exact staysIn (execBankCut_keeps (Nat.or_self _) (Keeps.refl _ s)) rfl
  | bankCmdCut _ _ => exact staysIn (execBankCmdCut_keeps (Nat.or_self _) (Keeps.refl _ s)) rfl
  | bankCmdReclose _ _ _ => exact staysIn (execBankCmdReclose_keeps (Nat.or_self _) (Keeps.refl _ s)) rfl
  | bankSupplyReclose _ => exact staysIn (execBankSupplyReclose_keeps (Nat.or_self _) (Keeps.refl _ s)) rfl
  | actuatorOverbudget => exact staysIn (execActuatorOverbudget_keeps (Nat.or_self _) (Keeps.refl _ s)) rfl
  | fanKickTimeout _ => exact staysIn (execFanKickTimeout_keeps (Nat.or_self _) (Keeps.refl _ s)) rfl
  | fanStarted _ => exact staysIn (execFanStarted_keeps (Nat.or_self _) (Keeps.refl _ s)) rfl
  | fanTachTimeout _ => exact staysIn (execFanTachTimeout_keeps (Nat.or_self _) (Keeps.refl _ s)) rfl
  | fanOvercurrent _ => exact staysIn (execFanOvercurrent_keeps (Nat.or_self _) (Keeps.refl _ s)) rfl
  | fanOcRetry _ => exact staysIn (execFanOcRetry_keeps (Nat.or_self _) (Keeps.refl _ s)) rfl
  | fanTachRecovered _ => exact staysIn (execFanTachRecovered_keeps (Nat.or_self _) (Keeps.refl _ s)) rfl
  | fanRetry _ _ => exact staysIn (execFanRetry_keeps (Nat.or_self _) (Keeps.refl _ s)) rfl
  | fanDemandSilent _ => exact staysIn (execFanDemandSilent_keeps (Nat.or_self _) (Keeps.refl _ s)) rfl
  | converterCheck _ _ => exact staysIn (execConverterCheck_keeps (Nat.or_self _) (Keeps.refl _ s)) rfl
  | spaiAssign _ _ _ => exact staysIn (execSpaiAssign_keeps (Nat.or_self _) (Keeps.refl _ s)) rfl
  | spaiRelease _ _ _ => exact staysIn (execSpaiRelease_keeps (Nat.or_self _) (Keeps.refl _ s)) rfl
  | wearCounterSave => exact staysIn (execWearCounterSave_keeps (Nat.or_self _) (Keeps.refl _ s)) rfl
  | leakMeasurement _ => exact staysIn (execLeakMeasurement_keeps (Nat.or_self _) (Keeps.refl _ s)) rfl
  | imbalanceCheck _ => exact staysIn (execImbalanceCheck_keeps (Nat.or_self _) (Keeps.refl _ s)) rfl
  | leak _ => exact staysIn (execLeak_keeps (Nat.or_self _) (Keeps.refl _ s)) rfl
  | leakFast _ => exact staysIn (execLeakFast_keeps (Nat.or_self _) (Keeps.refl _ s)) rfl
  | gfault _ => exact staysIn (execGfault_keeps (Nat.or_self _) (Keeps.refl _ s)) rfl
  | leakWaitExpiry _ => exact staysIn (execLeakWaitExpiry_keeps (Nat.or_self _) (Keeps.refl _ s)) rfl
  | isoTrip _ => exact staysIn (execIsoTrip_keeps (Nat.or_self _) (Keeps.refl _ s)) rfl
  | loopLeak => exact staysIn (execLoopLeak_keeps (Nat.or_self _) (Keeps.refl _ s)) rfl
  | loopGfault => exact staysIn (execLoopGfault_keeps (Nat.or_self _) (Keeps.refl _ s)) rfl
  | flowSample10ms => exact staysIn (execFlowSample10ms_keeps (Nat.or_self _) (Keeps.refl _ s)) rfl
  | flowEval100ms => exact staysIn (execFlowEval100ms_keeps (Nat.or_self _) (Keeps.refl _ s)) rfl
  | dieHard _ => exact staysIn (execDieHard_keeps (Nat.or_self _) (Keeps.refl _ s)) rfl
  | digestLost => exact staysIn (execDigestLost_keeps (Nat.or_self _) (Keeps.refl _ s)) rfl
  | limHard _ => exact staysIn (execLimHard_keeps (Nat.or_self _) (Keeps.refl _ s)) rfl
  | loopLimHard _ => exact staysIn (execLoopLimHard_keeps (Nat.or_self _) (Keeps.refl _ s)) rfl
  | supHard => exact staysIn (execSupHard_keeps (Nat.or_self _) (Keeps.refl _ s)) rfl
  | sequenceEnd _ => exact staysIn (execSequenceEnd_keeps (Nat.or_self _) (Keeps.refl _ s)) rfl
  | poweroffNoticeRepeat _ => exact staysIn (execPoweroffNoticeRepeat_keeps (Nat.or_self _) (Keeps.refl _ s)) rfl
  | fullcoolAutoExit => exact staysIn (execFullcoolAutoExit_keeps (Nat.or_self _) (Keeps.refl _ s)) rfl
  | prtAck _ _ => exact staysIn (execPrtAck_keeps (Nat.or_self _) (Keeps.refl _ s)) rfl
  | hello _ _ _ => exact staysIn (execHello_keeps (Nat.or_self _) (Keeps.refl _ s)) rfl
  | sessOpen _ _ _ _ => exact staysIn (execSessOpen_keeps (Nat.or_self _) (Keeps.refl _ s)) rfl
  | sessKey _ _ _ _ _ _ => exact staysIn (execSessKey_keeps (Nat.or_self _) (Keeps.refl _ s)) rfl
  | sessClose _ => exact staysIn (execSessClose_keeps (Nat.or_self _) (Keeps.refl _ s)) rfl
  | sessionTimeout _ => exact staysIn (execSessionTimeout_keeps (Nat.or_self _) (Keeps.refl _ s)) rfl
  | sessionOpenTimeout _ => exact staysIn (execSessionOpenTimeout_keeps (Nat.or_self _) (Keeps.refl _ s)) rfl
  | ping _ => exact staysIn (execPing_keeps (Nat.or_self _) (Keeps.refl _ s)) rfl
  | subscribe _ _ => exact staysIn (execSubscribe_keeps (Nat.or_self _) (Keeps.refl _ s)) rfl
  | attest _ _ => exact staysIn (execAttest_keeps (Nat.or_self _) (Keeps.refl _ s)) rfl
  | ownClaim _ _ _ => exact staysIn (execOwnClaim_keeps (Nat.or_self _) (Keeps.refl _ s)) rfl
  | ownRenew _ _ => exact staysIn (execOwnRenew_keeps (Nat.or_self _) (Keeps.refl _ s)) rfl
  | ownRelease _ _ => exact staysIn (execOwnRelease_keeps (Nat.or_self _) (Keeps.refl _ s)) rfl
  | ownHandover _ _ _ => exact staysIn (execOwnHandover_keeps (Nat.or_self _) (Keeps.refl _ s)) rfl
  | handoverOfferLapse _ => exact staysIn (execHandoverOfferLapse_keeps (Nat.or_self _) (Keeps.refl _ s)) rfl
  | ownQuery _ => exact staysIn (execOwnQuery_keeps (Nat.or_self _) (Keeps.refl _ s)) rfl
  | ownerLeaseExpiry _ => exact staysIn (execOwnerLeaseExpiry_keeps (Nat.or_self _) (Keeps.refl _ s)) rfl
  | regrd _ _ _ _ => exact staysIn (execRegrd_keeps (Nat.or_self _) (Keeps.refl _ s)) rfl
  | regwr _ _ _ _ => exact staysIn (execRegwr_keeps (Nat.or_self _) (Keeps.refl _ s)) rfl
  | registerWrite _ _ _ => exact staysIn (execRegisterWrite_keeps (Nat.or_self _) (Keeps.refl _ s)) rfl
  | latchedLowWordRead _ => exact staysIn (execLatchedLowWordRead_keeps (Nat.or_self _) (Keeps.refl _ s)) rfl
  | rcRegisterRead _ => exact staysIn (execRcRegisterRead_keeps (Nat.or_self _) (Keeps.refl _ s)) rfl
  | stateReqCommission _ => exact staysIn (execStateReqCommission_keeps (Nat.or_self _) (Keeps.refl _ s)) rfl
  | stateReqRun _ => exact staysIn (execStateReqRun_keeps (Nat.or_self _) (Keeps.refl _ s)) rfl
  | stateReqManual _ => exact staysIn (execStateReqManual_keeps (Nat.or_self _) (Keeps.refl _ s)) rfl
  | stateReqMaint _ => exact staysIn (execStateReqMaint_keeps (Nat.or_self _) (Keeps.refl _ s)) rfl
  | stateReqLeave _ => exact staysIn (execStateReqLeave_keeps (Nat.or_self _) (Keeps.refl _ s)) rfl
  | fullcoolEnter _ => exact staysIn (execFullcoolEnter_keeps (Nat.or_self _) (Keeps.refl _ s)) rfl
  | fullcoolExit _ => exact staysIn (execFullcoolExit_keeps (Nat.or_self _) (Keeps.refl _ s)) rfl
  | rackIsolate _ _ => exact staysIn (execRackIsolate_keeps (Nat.or_self _) (Keeps.refl _ s)) rfl
  | rackTrip _ _ => exact staysIn (execRackTrip_keeps (Nat.or_self _) (Keeps.refl _ s)) rfl
  | ack _ _ _ => exact staysIn (execAck_keeps (Nat.or_self _) (Keeps.refl _ s)) rfl
  | setpoint _ _ _ => exact staysIn (execSetpoint_keeps (Nat.or_self _) (Keeps.refl _ s)) rfl
  | actionAdd _ _ => exact staysIn (execActionAdd_keeps (Nat.or_self _) (Keeps.refl _ s)) rfl
  | actionCancel _ _ => exact staysIn (execActionCancel_keeps (Nat.or_self _) (Keeps.refl _ s)) rfl
  | phaseAnnounce _ _ _ _ => exact staysIn (execPhaseAnnounce_keeps (Nat.or_self _) (Keeps.refl _ s)) rfl
  | stepMark _ _ _ _ => exact staysIn (execStepMark_keeps (Nat.or_self _) (Keeps.refl _ s)) rfl
  | jobSetClear _ _ => exact staysIn (execJobSetClear_keeps (Nat.or_self _) (Keeps.refl _ s)) rfl
  | jobSetAdd _ _ _ => exact staysIn (execJobSetAdd_keeps (Nat.or_self _) (Keeps.refl _ s)) rfl
  | jobSetRemove _ _ _ => exact staysIn (execJobSetRemove_keeps (Nat.or_self _) (Keeps.refl _ s)) rfl
  | ceilSet _ _ _ _ _ _ => exact staysIn (execCeilSet_keeps (Nat.or_self _) (Keeps.refl _ s)) rfl
  | ceilClear _ _ => exact staysIn (execCeilClear_keeps (Nat.or_self _) (Keeps.refl _ s)) rfl
  | xferOpen _ _ _ _ => exact staysIn (execXferOpen_keeps (Nat.or_self _) (Keeps.refl _ s)) rfl
  | xferData _ _ _ _ => exact staysIn (execXferData_keeps (Nat.or_self _) (Keeps.refl _ s)) rfl
  | xferClose _ _ _ => exact staysIn (execXferClose_keeps (Nat.or_self _) (Keeps.refl _ s)) rfl
  | xferRead _ _ _ _ => exact staysIn (execXferRead_keeps (Nat.or_self _) (Keeps.refl _ s)) rfl
  | xferDelete _ _ => exact staysIn (execXferDelete_keeps (Nat.or_self _) (Keeps.refl _ s)) rfl
  | xferExpiry _ => exact staysIn (execXferExpiry_keeps (Nat.or_self _) (Keeps.refl _ s)) rfl
  | storeAttach _ => exact staysIn (execStoreAttach_keeps (Nat.or_self _) (Keeps.refl _ s)) rfl
  | storeDetach _ => exact staysIn (execStoreDetach_keeps (Nat.or_self _) (Keeps.refl _ s)) rfl
  | storePutResponse _ _ => exact staysIn (execStorePutResponse_keeps (Nat.or_self _) (Keeps.refl _ s)) rfl
  | storeGetResponse _ _ _ _ => exact staysIn (execStoreGetResponse_keeps (Nat.or_self _) (Keeps.refl _ s)) rfl
  | deviceRequestRetry _ => exact staysIn (execDeviceRequestRetry_keeps (Nat.or_self _) (Keeps.refl _ s)) rfl
  | deferredExecute _ _ => exact staysIn (execDeferredExecute_keeps (Nat.or_self _) (Keeps.refl _ s)) rfl
  | deferTimeout _ _ => exact staysIn (execDeferTimeout_keeps (Nat.or_self _) (Keeps.refl _ s)) rfl
  | portLinkDown _ => exact staysIn (execPortLinkDown_keeps (Nat.or_self _) (Keeps.refl _ s)) rfl
  | portLinkUp _ => exact staysIn (execPortLinkUp_keeps (Nat.or_self _) (Keeps.refl _ s)) rfl
  | canFrameReceived _ _ _ => exact staysIn (execCanFrameReceived_keeps (Nat.or_self _) (Keeps.refl _ s)) rfl
  | podQuantityTimeout _ => exact staysIn (execPodQuantityTimeout_keeps (Nat.or_self _) (Keeps.refl _ s)) rfl
  | objStatRead _ _ => exact staysIn (execObjStatRead_keeps (Nat.or_self _) (Keeps.refl _ s)) rfl
  | hpStatRead _ => exact staysIn (execHpStatRead_keeps (Nat.or_self _) (Keeps.refl _ s)) rfl
  | canTxreq _ _ _ => exact staysIn (execCanTxreq_keeps (Nat.or_self _) (Keeps.refl _ s)) rfl
  | canAbort _ _ _ _ => exact staysIn (execCanAbort_keeps (Nat.or_self _) (Keeps.refl _ s)) rfl
  | canTxComplete _ _ _ => exact staysIn (execCanTxComplete_keeps (Nat.or_self _) (Keeps.refl _ s)) rfl
  | canErrorState _ _ _ _ => exact staysIn (execCanErrorState_keeps (Nat.or_self _) (Keeps.refl _ s)) rfl
  | canRecoveryStart _ => exact staysIn (execCanRecoveryStart_keeps (Nat.or_self _) (Keeps.refl _ s)) rfl
  | canRecovered _ => exact staysIn (execCanRecovered_keeps (Nat.or_self _) (Keeps.refl _ s)) rfl
  | canModeWrite _ _ _ => exact staysIn (execCanModeWrite_keeps (Nat.or_self _) (Keeps.refl _ s)) rfl
  | canAutoDwellTimeout _ => exact staysIn (execCanAutoDwellTimeout_keeps (Nat.or_self _) (Keeps.refl _ s)) rfl
  | canAutoTimeout _ => exact staysIn (execCanAutoTimeout_keeps (Nat.or_self _) (Keeps.refl _ s)) rfl
  | driveCmdSend => exact staysIn (execDriveCmdSend_keeps (Nat.or_self _) (Keeps.refl _ s)) rfl
  | driveLost _ => exact staysIn (execDriveLost_keeps (Nat.or_self _) (Keeps.refl _ s)) rfl
  | heartbeatSend => exact staysIn (execHeartbeatSend_keeps (Nat.or_self _) (Keeps.refl _ s)) rfl
  | heartbeatReceived _ _ => exact staysIn (execHeartbeatReceived_keeps (Nat.or_self _) (Keeps.refl _ s)) rfl
  | partnerLost => exact staysIn (execPartnerLost_keeps (Nat.or_self _) (Keeps.refl _ s)) rfl
  | peerHealthLost => exact staysIn (execPeerHealthLost_keeps (Nat.or_self _) (Keeps.refl _ s)) rfl
  | takeover => exact staysIn (execTakeover_keeps (Nat.or_self _) (Keeps.refl _ s)) rfl
  | rowAddressRepeat => exact staysIn (execRowAddressRepeat_keeps (Nat.or_self _) (Keeps.refl _ s)) rfl
  | split => exact staysIn (execSplit_keeps (Nat.or_self _) (Keeps.refl _ s)) rfl
  | pairTickMarker _ _ _ => exact staysIn (execPairTickMarker_keeps (Nat.or_self _) (Keeps.refl _ s)) rfl
  | pairLaneDown _ _ => exact staysIn (execPairLaneDown_keeps (Nat.or_self _) (Keeps.refl _ s)) rfl
  | paiWarm _ _ => exact staysIn (execPaiWarm_keeps (Nat.or_self _) (Keeps.refl _ s)) rfl
  | partnerReadRegs _ _ => exact staysIn (execPartnerReadRegs_keeps (Nat.or_self _) (Keeps.refl _ s)) rfl
  | partnerReadFirn _ _ => exact staysIn (execPartnerReadFirn_keeps (Nat.or_self _) (Keeps.refl _ s)) rfl
  | peekReq _ _ _ _ => exact staysIn (execPeekReq_keeps (Nat.or_self _) (Keeps.refl _ s)) rfl
  | peekData _ _ => exact staysIn (execPeekData_keeps (Nat.or_self _) (Keeps.refl _ s)) rfl
  | peekTimeout => exact staysIn (execPeekTimeout_keeps (Nat.or_self _) (Keeps.refl _ s)) rfl
  | imageCut => exact staysIn (execImageCut_keeps (Nat.or_self _) (Keeps.refl _ s)) rfl
  | imageFrame _ _ _ _ => exact staysIn (execImageFrame_keeps (Nat.or_self _) (Keeps.refl _ s)) rfl
  | imageStale => exact staysIn (execImageStale_keeps (Nat.or_self _) (Keeps.refl _ s)) rfl
  | pairBarrierPropose _ => exact staysIn (execPairBarrierPropose_keeps (Nat.or_self _) (Keeps.refl _ s)) rfl
  | pairBarrierAccept _ => exact staysIn (execPairBarrierAccept_keeps (Nat.or_self _) (Keeps.refl _ s)) rfl
  | pairBarrierCancel _ => exact staysIn (execPairBarrierCancel_keeps (Nat.or_self _) (Keeps.refl _ s)) rfl
  | fedBarrierPropose _ _ => exact staysIn (execFedBarrierPropose_keeps (Nat.or_self _) (Keeps.refl _ s)) rfl
  | fedBarrierAck _ _ => exact staysIn (execFedBarrierAck_keeps (Nat.or_self _) (Keeps.refl _ s)) rfl
  | fedBarrierConfirmDue _ => exact staysIn (execFedBarrierConfirmDue_keeps (Nat.or_self _) (Keeps.refl _ s)) rfl
  | fedBarrierConfirm _ _ _ => exact staysIn (execFedBarrierConfirm_keeps (Nat.or_self _) (Keeps.refl _ s)) rfl
  | fedBarrierNoConfirm _ => exact staysIn (execFedBarrierNoConfirm_keeps (Nat.or_self _) (Keeps.refl _ s)) rfl
  | roleSwapRequest _ _ => exact staysIn (execRoleSwapRequest_keeps (Nat.or_self _) (Keeps.refl _ s)) rfl
  | tickRecord _ => exact staysIn (execTickRecord_keeps (Nat.or_self _) (Keeps.refl _ s)) rfl
  | swapReady => exact staysIn (execSwapReady_keeps (Nat.or_self _) (Keeps.refl _ s)) rfl
  | lockstepEnterRequest _ _ => exact staysIn (execLockstepEnterRequest_keeps (Nat.or_self _) (Keeps.refl _ s)) rfl
  | lockstepLeave _ => exact staysIn (execLockstepLeave_keeps (Nat.or_self _) (Keeps.refl _ s)) rfl
  | lockstepInputRecord _ => exact staysIn (execLockstepInputRecord_keeps (Nat.or_self _) (Keeps.refl _ s)) rfl
  | lockstepDigest _ _ => exact staysIn (execLockstepDigest_keeps (Nat.or_self _) (Keeps.refl _ s)) rfl
  | lockstepGap => exact staysIn (execLockstepGap_keeps (Nat.or_self _) (Keeps.refl _ s)) rfl
  | fedAnnounceSend => exact staysIn (execFedAnnounceSend_keeps (Nat.or_self _) (Keeps.refl _ s)) rfl
  | fedAnnounce _ => exact staysIn (execFedAnnounce_keeps (Nat.or_self _) (Keeps.refl _ s)) rfl
  | fedMemberLost _ => exact staysIn (execFedMemberLost_keeps (Nat.or_self _) (Keeps.refl _ s)) rfl
  | fedRowmap _ _ => exact staysIn (execFedRowmap_keeps (Nat.or_self _) (Keeps.refl _ s)) rfl
  | fedRowmapSend => exact staysIn (execFedRowmapSend_keeps (Nat.or_self _) (Keeps.refl _ s)) rfl
  | fedCoordinatorAssume => exact staysIn (execFedCoordinatorAssume_keeps (Nat.or_self _) (Keeps.refl _ s)) rfl
  | fedAllocCompute => exact staysIn (execFedAllocCompute_keeps (Nat.or_self _) (Keeps.refl _ s)) rfl
  | fedAlloc _ _ _ => exact staysIn (execFedAlloc_keeps (Nat.or_self _) (Keeps.refl _ s)) rfl
  | fedAllocStale => exact staysIn (execFedAllocStale_keeps (Nat.or_self _) (Keeps.refl _ s)) rfl
  | fedResync => exact staysIn (execFedResync_keeps (Nat.or_self _) (Keeps.refl _ s)) rfl
  | adoptPropose _ => exact staysIn (execAdoptPropose_keeps (Nat.or_self _) (Keeps.refl _ s)) rfl
  | redirectSend => exact staysIn (execRedirectSend_keeps (Nat.or_self _) (Keeps.refl _ s)) rfl
  | fwInstall _ _ _ => exact staysIn (execFwInstall_keeps (Nat.or_self _) (Keeps.refl _ s)) rfl
  | fwInstallDone => exact staysIn (execFwInstallDone_keeps (Nat.or_self _) (Keeps.refl _ s)) rfl
  | fwActivate _ _ => exact staysIn (execFwActivate_keeps (Nat.or_self _) (Keeps.refl _ s)) rfl
  | fwCommit _ _ => exact staysIn (execFwCommit_keeps (Nat.or_self _) (Keeps.refl _ s)) rfl
  | fwRevert _ _ => exact staysIn (execFwRevert_keeps (Nat.or_self _) (Keeps.refl _ s)) rfl
  | fwTrialGood _ => exact staysIn (execFwTrialGood_keeps (Nat.or_self _) (Keeps.refl _ s)) rfl
  | enrolCommit _ _ _ => exact staysIn (execEnrolCommit_keeps (Nat.or_self _) (Keeps.refl _ s)) rfl
  | programKeyCommit _ _ _ => exact staysIn (execProgramKeyCommit_keeps (Nat.or_self _) (Keeps.refl _ s)) rfl
  | sendKeyRenew => exact staysIn (execSendKeyRenew_keeps (Nat.or_self _) (Keeps.refl _ s)) rfl
  | firnWindowLatch _ _ _ => exact staysIn (execFirnWindowLatch_keeps (Nat.or_self _) (Keeps.refl _ s)) rfl
  | firnClear _ _ => exact staysIn (execFirnClear_keeps (Nat.or_self _) (Keeps.refl _ s)) rfl
  | firnMirrorCopy => exact staysIn (execFirnMirrorCopy_keeps (Nat.or_self _) (Keeps.refl _ s)) rfl
  | anchorSecond => exact staysIn (execAnchorSecond_keeps (Nat.or_self _) (Keeps.refl _ s)) rfl
  | anchorFree => exact staysIn (execAnchorFree_keeps (Nat.or_self _) (Keeps.refl _ s)) rfl
  | eccCorrectedError _ _ _ => exact staysIn (execEccCorrectedError_keeps (Nat.or_self _) (Keeps.refl _ s)) rfl
  | busError _ _ => exact staysIn (execBusError_keeps (Nat.or_self _) (Keeps.refl _ s)) rfl
  | scrubPass _ => exact staysIn (execScrubPass_keeps (Nat.or_self _) (Keeps.refl _ s)) rfl
  | eccTest _ _ _ => exact staysIn (execEccTest_keeps (Nat.or_self _) (Keeps.refl _ s)) rfl
  | digestLatch _ _ => exact staysIn (execDigestLatch_keeps (Nat.or_self _) (Keeps.refl _ s)) rfl
  | fieldInputConfigWrite _ _ _ _ => exact staysIn (execFieldInputConfigWrite_keeps (Nat.or_self _) (Keeps.refl _ s)) rfl
  | logicInputRestored _ _ => exact staysIn (execLogicInputRestored_keeps (Nat.or_self _) (Keeps.refl _ s)) rfl
  | moduleResetRelease _ => exact staysIn (execModuleResetRelease_keeps (Nat.or_self _) (Keeps.refl _ s)) rfl
  | portDieThermalRelease => exact staysIn (execPortDieThermalRelease_keeps (Nat.or_self _) (Keeps.refl _ s)) rfl
  | uncorrectableError _ _ _ => exact staysIn (execUncorrectableError_keeps (Nat.or_self _) (Keeps.refl _ s)) rfl
  | zhoideProtocolViolation _ _ _ => exact staysIn (execZhoideProtocolViolation_keeps (Nat.or_self _) (Keeps.refl _ s)) rfl
  | solenoidShort _ => exact staysIn (execSolenoidShort_keeps (Nat.or_self _) (Keeps.refl _ s)) rfl
  | peerExchangeResponse _ _ => exact staysIn (execPeerExchangeResponse_keeps (Nat.or_self _) (Keeps.refl _ s)) rfl
  | tableCreateDone _ => exact staysIn (execTableCreateDone_keeps (Nat.or_self _) (Keeps.refl _ s)) rfl

/-- Settles O6: a part that a command may not move is outside the mask of `exec_keeps`. -/
theorem eachPartHasItsMovers : Obligations.EachPartHasItsMovers := by
  intro i s
  obtain ⟨t, ht, F, hk, hw⟩ := exec_keeps i s
  exact ⟨t, ht, hk.pending, fun p hp => hk.same p (withinMoves_bit hw hp)⟩

/-! ### Steps -/

theorem step_of_empty {s : State} (h : s.pending = []) : step s = .next s := by rw [step, h]

theorem step_of_cons {s : State} {c : Instr} {rest : List Instr} (h : s.pending = c :: rest) : step s = exec c { s with pending := rest } := by
  rw [step, h]
  rfl

/-- What a step does to a state, beside its effect on the parts: the queue loses its front, and nothing runs backwards. -/
structure State.StepsTo (s t : State) : Prop where
  pending : t.pending = s.pending.tail
  wf : regsWf s.regs = true → regsWf t.regs = true
  firn : FirnStep s.firn t.firn
  out : s.out <:+ t.out
  now : s.clk.now ≤ t.clk.now

theorem step_stepsTo (s : State) : ∃ t, step s = .next t ∧ s.StepsTo t := by
  cases h : s.pending with
  | nil => exact ⟨s, step_of_empty h, by rw [h]; rfl, id, FirnStep.refl _, List.suffix_rfl, le_rfl⟩
  | cons c rest =>
    obtain ⟨t, ht, F, hk, -⟩ := exec_keeps c { s with pending := rest }
    exact ⟨t, (step_of_cons h).trans ht, by rw [hk.pending, h, List.tail_cons], hk.wf, hk.firnStep, hk.sent, hk.now⟩

theorem State.StepsTo.inv {s t : State} (h : s.StepsTo t) (hs : Inv s) : Inv t := ⟨h.wf hs.regs, (h.firn hs.firn).1⟩

/-- Settles O4. -/
theorem everyStepKeepsTheInvariant : Obligations.EveryStepKeepsTheInvariant := by
  intro s hs
  obtain ⟨t, ht, h⟩ := step_stepsTo s
  exact ⟨t, ht, h.inv hs⟩

theorem run_succ (M : Host.Core) {s u : M.State} (k : Nat) (h : M.step s = .next u) : M.run (k + 1) s = M.run k u := by
  rw [Host.Core.run, h]

/-- Settles O5, by induction on the number of steps. -/
theorem anyRunIsSafe : Obligations.AnyRunIsSafe := by
  intro k
  induction k with
  | zero => exact fun s hs => ⟨s, rfl, hs, rfl, le_rfl, List.suffix_rfl, le_rfl⟩
  | succ k ih =>
    intro s hs
    obtain ⟨u, hu, h⟩ := step_stepsTo s
    obtain ⟨t, ht, hinv, hpend, hseq, hout, hnow⟩ := ih u (h.inv hs)
    refine ⟨t, (run_succ Sys2Proof.core k hu).trans ht, hinv, ?_, (h.firn hs.firn).2.trans hseq, h.out.trans hout, h.now.trans hnow⟩
    rw [hpend, h.pending, List.drop_tail]

/-- Settles O1. -/
theorem aStepTakesTheFrontCommand : Obligations.AStepTakesTheFrontCommand := ⟨fun _ _ _ => step_of_cons, fun _ => step_of_empty⟩

/-! ### Reset -/

/-- Settles O3: the register file lists nothing, and Firn holds no record. -/
theorem resetMeetsTheInvariant : Obligations.ResetMeetsTheInvariant := ⟨by decide +kernel, by decide +kernel, by decide +kernel, by decide +kernel, by decide +kernel⟩

/-- Settles O2. -/
theorem resetStandsAtTheSpecsValues : Obligations.ResetStandsAtTheSpecsValues := by
  unfold Obligations.ResetStandsAtTheSpecsValues
  decide +kernel

end Sys2Proof.Machine
end

section
-- In order: the one text holds more declarations than asynchronous elaboration has threads for.
set_option Elab.async false

/-! PROOFS. Byte order on the wire (R10): what `beBytes` writes, `beNat` reads back. -/

namespace Sys2Proof.Machine

theorem beNat_foldl (bs : List Byte) (n : Nat) :
    bs.foldl (fun n b => n * 256 + b.toNat) n = n * 256 ^ bs.length + beNat bs := by
  induction bs generalizing n with
  | nil => simp [beNat]
  | cons b t ih =>
    rw [beNat, List.foldl_cons, List.foldl_cons, ih, ih (0 * 256 + b.toNat), List.length_cons]
    ring

theorem beNat_cons (b : Byte) (t : List Byte) : beNat (b :: t) = b.toNat * 256 ^ t.length + beNat t := by
  rw [beNat, List.foldl_cons, beNat_foldl, Nat.zero_mul, Nat.zero_add]

theorem beNat_lt (bs : List Byte) : beNat bs < 256 ^ bs.length := by
  induction bs with
  | nil => simp [beNat]
  | cons b t ih =>
    have hb : b.toNat + 1 ≤ 256 := b.isLt
    calc beNat (b :: t) < (b.toNat + 1) * 256 ^ t.length := by rw [beNat_cons, Nat.succ_mul]; omega
      _ ≤ 256 * 256 ^ t.length := Nat.mul_le_mul_right _ hb
      _ = 256 ^ (b :: t).length := by rw [List.length_cons, pow_succ, Nat.mul_comm]

theorem length_beBytes (n v : Nat) : (beBytes n v).length = n := by
  induction n with
  | zero => rfl
  | succ n ih => rw [beBytes, List.length_cons, ih]

/-- The bytes written carry the value modulo their width. -/
theorem beNat_beBytes (n v : Nat) : beNat (beBytes n v) = v % 256 ^ n := by
  induction n with
  | zero => rw [beBytes, pow_zero, Nat.mod_one]; rfl
  | succ n ih =>
    rw [beBytes, beNat_cons, ih, length_beBytes, Nat.mod_pow_succ, BitVec.toNat_ofNat]
    ring

/-- What lies above the width of a field does not show in its bytes. -/
theorem beBytes_add_mul (n v k : Nat) : beBytes n (v + k * 256 ^ n) = beBytes n v := by
  induction n generalizing k with
  | zero => rfl
  | succ n ih =>
    have hs : v + k * 256 ^ (n + 1) = v + k * 256 * 256 ^ n := by ring
    have hd : (v + k * 256 * 256 ^ n) / 256 ^ n = v / 256 ^ n + k * 256 := Nat.add_mul_div_right _ _ (by positivity)
    have hb : BitVec.ofNat 8 (v / 256 ^ n + k * 256) = BitVec.ofNat 8 (v / 256 ^ n) :=
      BitVec.eq_of_toNat_eq (by simp [Nat.add_mod])
    rw [beBytes, beBytes, hs, ih, hd, hb]

theorem beBytes_beNat (bs : List Byte) : beBytes bs.length (beNat bs) = bs := by
  induction bs with
  | nil => rfl
  | cons b t ih =>
    have hd : (beNat t + b.toNat * 256 ^ t.length) / 256 ^ t.length = b.toNat := by
      rw [Nat.add_mul_div_right _ _ (by positivity), Nat.div_eq_of_lt (beNat_lt t), Nat.zero_add]
    rw [List.length_cons, beBytes, beNat_cons, Nat.add_comm, beBytes_add_mul, ih, hd, BitVec.ofNat_toNat, BitVec.setWidth_eq]

/-- Settles O58: a field of a frame is what `beBytes` wrote at its place. -/
theorem wordsKeepTheirOrderOnTheWire : Obligations.WordsKeepTheirOrderOnTheWire := by
  refine ⟨fun n v pre post hv => ?_, length_beBytes, fun n v hv => ?_, beBytes_beNat⟩
  · rw [beAt, List.append_assoc, List.drop_left, List.take_left' (length_beBytes n v), beNat_beBytes, Nat.mod_eq_of_lt hv]
  · have hd : v / 256 ^ n < 256 := Nat.div_lt_of_lt_mul (by rwa [pow_succ] at hv)
    rw [beBytes, List.head?_cons, Option.map_some, BitVec.toNat_ofNat, Nat.mod_eq_of_lt hd]

end Sys2Proof.Machine
end

section
-- In order: the one text holds more declarations than asynchronous elaboration has threads for.
set_option Elab.async false

/-! PROOFS. The deal of lost accelerators (R509) and the reserve of a member (R508). -/

namespace Sys2Proof.Machine

theorem sumBy_eq_sum {α : Type} (f : α → Nat) (l : List α) : sumBy f l = (l.map f).sum := by
  rw [sumBy, List.sum_eq_foldl]

theorem sumBy_nil {α : Type} (f : α → Nat) : sumBy f [] = 0 := rfl

theorem sumBy_cons {α : Type} (f : α → Nat) (a : α) (l : List α) : sumBy f (a :: l) = f a + sumBy f l := by
  rw [sumBy_eq_sum, sumBy_eq_sum, List.map_cons, List.sum_cons]

theorem sumBy_append {α : Type} (f : α → Nat) (l m : List α) : sumBy f (l ++ m) = sumBy f l + sumBy f m := by
  rw [sumBy_eq_sum, sumBy_eq_sum, sumBy_eq_sum, List.map_append, List.sum_append]

/-- Those with room, of the members dealt to. -/
def withRoom (q : List (Nat × Nat)) : List (Nat × Nat) := q.filter (fun x => decide (0 < x.2))

theorem mem_withRoom {q : List (Nat × Nat)} {x : Nat × Nat} : x ∈ withRoom q ↔ x ∈ q ∧ 0 < x.2 := by
  simp [withRoom]

theorem sumBy_withRoom (q : List (Nat × Nat)) : sumBy (·.2) (withRoom q) = sumBy (·.2) q := by
  induction q with
  | nil => rfl
  | cons x q ih =>
    unfold withRoom at ih ⊢
    by_cases h : 0 < x.2
    · rw [List.filter_cons_of_pos (by simpa using h), sumBy_cons, sumBy_cons, ih]
    · rw [List.filter_cons_of_neg (by simpa using h), ih, sumBy_cons]
      omega

theorem nodup_withRoom {q : List (Nat × Nat)} (h : (q.map (·.1)).Nodup) : ((withRoom q).map (·.1)).Nodup :=
  h.sublist (List.filter_sublist.map _)

/-- The members left after the first of those with room has been dealt one. -/
def afterDeal (m c : Nat) (t : List (Nat × Nat)) : List (Nat × Nat) := t ++ [(m, c - 1)]

variable {α : Type} {q : List (Nat × Nat)}

theorem deal_cons_nil (a : α) (rest : List α) (h : withRoom q = []) : deal q (a :: rest) = [] := by
  unfold withRoom at h
  simp [deal, h]

theorem deal_cons_cons {m c : Nat} {t : List (Nat × Nat)} (a : α) (rest : List α) (h : withRoom q = (m, c) :: t) :
    deal q (a :: rest) = (a, m) :: deal (afterDeal m c t) rest := by
  unfold withRoom at h
  simp [deal, h, afterDeal]

/-- Two entries of one member are one, where the members are different. -/
theorem room_unique (h : (q.map (·.1)).Nodup) {m c d : Nat} (hc : (m, c) ∈ q) (hd : (m, d) ∈ q) : c = d :=
  congrArg Prod.snd (List.inj_on_of_nodup_map h hc hd rfl)

theorem nodup_afterDeal {m c : Nat} {t : List (Nat × Nat)} (hq : (q.map (·.1)).Nodup) (h : withRoom q = (m, c) :: t) :
    ((afterDeal m c t).map (·.1)).Nodup := by
  have hn := nodup_withRoom hq
  rw [h] at hn
  have hm : m ∉ t.map (·.1) := (List.nodup_cons.mp hn).1
  rw [afterDeal, List.map_append]
  exact List.Nodup.append (List.nodup_cons.mp hn).2 (List.nodup_singleton m) (List.disjoint_singleton.mpr hm)

theorem deal_prefix (q : List (Nat × Nat)) (l : List α) : (deal q l).map (·.1) <+: l := by
  induction l generalizing q with
  | nil => simp [deal]
  | cons a rest ih =>
    cases h : withRoom q with
    | nil => rw [deal_cons_nil a rest h]; exact List.nil_prefix
    | cons x t =>
      rw [deal_cons_cons a rest h, List.map_cons]
      exact (List.prefix_cons_inj a).mpr (ih _)

theorem length_deal (q : List (Nat × Nat)) (l : List α) : (deal q l).length = min l.length (sumBy (·.2) q) := by
  induction l generalizing q with
  | nil => simp [deal]
  | cons a rest ih =>
    rw [← sumBy_withRoom q]
    cases h : withRoom q with
    | nil => rw [deal_cons_nil a rest h, sumBy_nil, List.length_nil, Nat.min_zero]
    | cons x t =>
      have hpos : 0 < x.2 := (mem_withRoom.mp (h ▸ List.mem_cons_self)).2
      rw [deal_cons_cons a rest h, List.length_cons, ih, afterDeal, sumBy_append, sumBy_cons, sumBy_cons, sumBy_nil, List.length_cons]
      omega

/-- Who is dealt one has room. -/
theorem deal_hasRoom (q : List (Nat × Nat)) (l : List α) : ∀ x ∈ deal q l, ∃ c, (x.2, c) ∈ q ∧ 0 < c := by
  induction l generalizing q with
  | nil => simp [deal]
  | cons a rest ih =>
    cases h : withRoom q with
    | nil => simp [deal_cons_nil a rest h]
    | cons y t =>
      have hin : ∀ z ∈ y :: t, z ∈ q ∧ 0 < z.2 := fun z hz => mem_withRoom.mp (h ▸ hz)
      rw [deal_cons_cons a rest h]
      intro x hx
      obtain rfl | hx := List.mem_cons.mp hx
      · exact ⟨y.2, hin y List.mem_cons_self⟩
      · obtain ⟨c, hc, hpos⟩ := ih _ x hx
        obtain hc | hc := List.mem_append.mp hc
        · exact ⟨c, hin _ (List.mem_cons_of_mem _ hc)⟩
        · obtain ⟨hm, -⟩ : x.2 = y.1 ∧ c = y.2 - 1 := by simpa using hc
          exact ⟨y.2, hm ▸ hin y List.mem_cons_self⟩

/-- How many accelerators a deal gives a member. -/
def dealtTo (m : Nat) (l : List (α × Nat)) : Nat := (l.filter (fun x => x.2 == m)).length

theorem dealtTo_cons (m n : Nat) (a : α) (l : List (α × Nat)) : dealtTo m ((a, n) :: l) = (if n = m then 1 else 0) + dealtTo m l := by
  by_cases h : n = m
  · simp [dealtTo, h, Nat.add_comm]
  · simp [dealtTo, h]

/-- A member without room is dealt none. -/
theorem dealtTo_deal_eq_zero (l : List α) {m : Nat} (h : ∀ c, (m, c) ∈ q → c = 0) : dealtTo m (deal q l) = 0 := by
  refine List.length_eq_zero_iff.mpr (List.filter_eq_nil_iff.mpr (fun x hx he => ?_))
  obtain ⟨c, hc, hpos⟩ := deal_hasRoom q l x hx
  rw [beq_iff_eq] at he
  have := h c (he ▸ hc)
  omega

/-- No member is dealt more than its room. -/
theorem dealtTo_deal_le (q : List (Nat × Nat)) (l : List α) (hq : (q.map (·.1)).Nodup) {m c : Nat} (hm : (m, c) ∈ q) :
    dealtTo m (deal q l) ≤ c := by
  induction l generalizing q c with
  | nil => simp [deal, dealtTo]
  | cons a rest ih =>
    obtain rfl | hc := Nat.eq_zero_or_pos c
    · exact (dealtTo_deal_eq_zero _ (fun d hd => room_unique hq hd hm)).le
    · have hroom : (m, c) ∈ withRoom q := mem_withRoom.mpr ⟨hm, hc⟩
      cases h : withRoom q with
      | nil => simp [h] at hroom
      | cons y t =>
        obtain ⟨n, d⟩ := y
        have hn := nodup_afterDeal hq h
        obtain ⟨hy, -⟩ := mem_withRoom.mp (h ▸ List.mem_cons_self : (n, d) ∈ withRoom q)
        rw [h, List.mem_cons] at hroom
        rw [deal_cons_cons a rest h, dealtTo_cons]
        by_cases hnm : n = m
        · subst hnm
          obtain rfl := room_unique hq hm hy
          have := ih _ hn (c := c - 1) (List.mem_append_right _ List.mem_cons_self)
          rw [if_pos rfl]
          omega
        · have ht : (m, c) ∈ t := hroom.resolve_left (fun e => hnm (congrArg Prod.fst e).symm)
          rw [if_neg hnm, Nat.zero_add]
          exact ih _ hn (List.mem_append_left _ ht)

theorem reservedOf_ceil (n : Nat) (hn : 0 < n) : 4096 * rowsAbsorbed n ≤ n * reservedOf n ∧ n * reservedOf n < 4096 * rowsAbsorbed n + n := by
  rw [reservedOf, if_neg (by omega)]
  have h1 := Nat.div_add_mod (4096 * rowsAbsorbed n + n - 1) n
  have h2 := Nat.mod_lt (4096 * rowsAbsorbed n + n - 1) hn
  omega

/-- Settles O59, by induction on the accelerators dealt. -/
theorem theDealGivesEachItsRoom : Obligations.TheDealGivesEachItsRoom :=
  ⟨fun q l hq => ⟨deal_prefix q l, length_deal q l, deal_hasRoom q l, fun _ _ hm => dealtTo_deal_le q l hq hm⟩, reservedOf_ceil⟩

end Sys2Proof.Machine
end

section
-- In order: the one text holds more declarations than asynchronous elaboration has threads for.
set_option Elab.async false

/-! PROOFS. The order of samples (R117). -/

namespace Sys2Proof.Machine

/-- A step that keeps the part of the streams keeps every stream. -/
theorem Keeps.strm {F : Nat} {s t : State} (h : Keeps F s t) (i : Nat) (hF : F ||| 256 ≠ F := by decide) : t.strm i = s.strm i :=
  State.strm_of (h.stm.resolve_left hF) i

/-- What samples are ordered by: the index and the time of the last one accepted. -/
def Strm.mark (x : Strm) : Option (BitVec 64) × BitVec 64 := (x.lastIdx, x.lastTime)

theorem Strm.mark_of {s t : State} (h : t.stm = s.stm) (i : Nat) : (t.strm i).mark = (s.strm i).mark :=
  congrArg Strm.mark (State.strm_of h i)

theorem State.setSup_mark (s : State) (i : Nat) (u : Supv) : ((s.setSup i u).strm i).mark = (s.strm i).mark :=
  calc ((s.setSup i u).strm i).mark = ((s.setStrm i { s.strm i with sup := u }).strm i).mark := Strm.mark_of (State.set_stm _ _ _) i
    _ = Strm.mark { s.strm i with sup := u } := congrArg Strm.mark (s.setStrm_strm i _)
    _ = (s.strm i).mark := rfl

theorem State.faultStream_mark (s : State) (i : Nat) : ((s.faultStream i).strm i).mark = (s.strm i).mark := by
  unfold State.faultStream
  dsimp only
  have h (u : Supv) (f : Fld) (v : Nat) : (((s.setSup i u).set f v).strm i).mark = (s.strm i).mark :=
    (Strm.mark_of (State.set_stm _ _ _) i).trans (s.setSup_mark i u)
  split
  · exact h _ _ _
  · exact (Strm.mark_of ((State.raise_stm _ _ _ _ _).trans (State.set_stm _ _ _)) i).trans (h _ _ _)

theorem State.markers_mark (s : State) (js : List Nat) (n : BitVec 32) (w a : BitVec 64) (i : Nat) :
    ((js.foldl (fun s j => s.marker j n w a) s).strm i).mark = (s.strm i).mark :=
  foldl_keep (f := fun (s : State) j => s.marker j n w a) (fun s => (s.strm i).mark)
    (fun s _ => congrArg Strm.mark ((State.marker_keeps (F := 50333702) rfl (Keeps.refl _ s)).strm i)) js s

/-- Settles O57: an index that is not later is counted, and another leaves its index and time in the stream, whatever the quality of the
sample: a supervision or marker step after it keeps them. -/
theorem samplesPassInOrder : Obligations.SamplesPassInOrder := by
  intro s i qual v w arrived
  constructor
  · rintro ⟨l, hl, hle⟩
    have h : s.acceptSample i qual v w arrived = (s.bump (Fd.SV_MISS_REORD i)).count Reg.STM_CNT_REORD := by
      unfold State.acceptSample
      exact if_pos (by simp [hl, hle])
    rw [h]
    refine ⟨?_, ?_, (Changes.refl _ _ s).bump.count⟩
    all_goals simp (disch := omega) [State.bump, Fd.SV_MISS_REORD, Reg.SV_MISS, Reg.STM_CNT_REORD]
  · intro hnew
    have hany : ¬ ((s.strm i).lastIdx.any fun l => decide (diff64 (s.indexOf w) l ≤ 0)) = true := by
      cases hx : (s.strm i).lastIdx with
      | none => simp
      | some l => simpa using hnew l hx
    suffices h : ((s.acceptSample i qual v w arrived).strm i).mark = (some (s.indexOf w), w) from
      ⟨congrArg Prod.fst h, congrArg Prod.snd h⟩
    have hset : ∀ (t : State) (u : Supv), (((t.setStrm i { s.strm i with lastIdx := some (s.indexOf w), lastTime := w, sup := u })).strm i).mark =
        (some (s.indexOf w), w) := fun t u => congrArg Strm.mark (t.setStrm_strm i _)
    unfold State.acceptSample
    dsimp only
    rw [if_neg hany]
    generalize State.pendSample _ _ _ _ = t
    split
    · split
      · rw [State.markers_mark, State.setSup_mark]
        exact hset t (s.strm i).sup
      · rw [State.setSup_mark]
        exact hset t (s.strm i).sup
    · rw [State.faultStream_mark]
      exact hset t (s.strm i).sup
    · exact hset t _

end Sys2Proof.Machine
end

section
-- In order: the one text holds more declarations than asynchronous elaboration has threads for.
set_option Elab.async false

/-! PROOFS. The limits of plan values (R226 to R237). -/

namespace Sys2Proof.Machine

/-! ### Sums of shares -/

theorem sumBy_eq {α : Type} (f : α → Nat) (l : List α) : sumBy f l = (l.map f).sum := by
  rw [sumBy, List.sum_eq_foldl]

/-- Shares of a budget in proportion sum to at most the budget. -/
theorem sum_shares_le {α : Type} (f : α → Nat) (b n : Nat) (l : List α) : n * (l.map (fun x => b * f x / n)).sum ≤ b * (l.map f).sum := by
  induction l with
  | nil => simp
  | cons x l ih =>
    simp only [List.map_cons, List.sum_cons, Nat.mul_add]
    exact Nat.add_le_add (Nat.mul_div_le _ _) ih

theorem sumBy_shares_le {α : Type} (f : α → Nat) (b : Nat) (l : List α) (h : 0 < sumBy f l) :
    sumBy (fun x => b * f x / sumBy f l) l ≤ b := by
  refine Nat.le_of_mul_le_mul_left ?_ h
  calc sumBy f l * sumBy (fun x => b * f x / sumBy f l) l ≤ b * (l.map f).sum := by
        rw [sumBy_eq (fun x => b * f x / sumBy f l)]
        exact sum_shares_le f b _ l
    _ = sumBy f l * b := by rw [sumBy_eq f l, Nat.mul_comm]

theorem sumBy_le_sumBy {α : Type} {f g : α → Nat} {l : List α} (h : ∀ x ∈ l, f x ≤ g x) : sumBy f l ≤ sumBy g l := by
  rw [sumBy_eq, sumBy_eq]
  exact List.sum_le_sum h

/-! ### The budgets of the module and of a rack -/

theorem State.planCaps_le (s : State) (h : s.modBudget ≠ noLimit) : sumBy (·.2) s.planCaps ≤ s.modBudget := by
  unfold State.planCaps
  dsimp only
  split
  · rename_i hb
    refine le_trans (le_of_eq ?_) (sumBy_shares_le (fun p : Nat × Nat => p.2) s.modBudget (s.planAccs.map (fun a => (a, s.rackShare a)))
      (Nat.zero_lt_of_lt hb.2))
    unfold sumBy
    rw [List.map_map]
    exact congrArg (List.foldl (· + ·) 0) (List.map_congr_left (fun p _ => by simp only [Function.comp, Nat.mul_comm]))
  · rename_i hb
    exact Nat.not_lt.mp (fun hlt => hb ⟨h, hlt⟩)

theorem State.rackOf_of_mem {s : State} {r a : Nat} (h : a ∈ s.rackAccs r) : s.rackOf a = some r := by
  simpa using (List.mem_filter.mp h).2

theorem State.rackShares_le (s : State) (r : Nat) (h : (s.rd (Reg.RK_BUDGET r)).toNat ≠ noLimit) :
    sumBy s.rackShare (s.rackAccs r) ≤ (s.rd (Reg.RK_BUDGET r)).toNat := by
  by_cases ht : sumBy s.target (s.rackAccs r) ≤ (s.rd (Reg.RK_BUDGET r)).toNat
  · refine (sumBy_le_sumBy (fun a ha => ?_)).trans ht
    simp [State.rackShare, State.rackOf_of_mem ha, ht]
  · by_cases hz : sumBy s.planRequest (s.rackAccs r) = 0
    · refine (sumBy_le_sumBy (g := fun _ => 0) (fun a ha => ?_)).trans (by simp [sumBy_eq])
      simp [State.rackShare, State.rackOf_of_mem ha, h, ht, hz]
    · refine (sumBy_le_sumBy (fun a ha => ?_)).trans (sumBy_shares_le s.planRequest (s.rd (Reg.RK_BUDGET r)).toNat (s.rackAccs r)
        (Nat.pos_of_ne_zero hz))
      simp [State.rackShare, State.rackOf_of_mem ha, h, ht, hz]

/-! ### The effective cap and floor -/

/-- A plan cap lowered by ceilings: the least of them, with the source of R237. -/
def underCeilings (c : Nat × Nat) (l : List Nat) : Nat × Nat := l.foldl (fun (c : Nat × Nat) v => if v ≤ c.1 then (v, 1) else c) c

theorem underCeilings_le (c : Nat × Nat) (l : List Nat) : (underCeilings c l).1 ≤ c.1 ∧ ∀ v ∈ l, (underCeilings c l).1 ≤ v := by
  induction l generalizing c with
  | nil => simp [underCeilings]
  | cons x l ih =>
    have hcons : underCeilings c (x :: l) = underCeilings (if x ≤ c.1 then (x, 1) else c) l := rfl
    obtain ⟨h1, h2⟩ := ih (if x ≤ c.1 then (x, 1) else c)
    rw [hcons, List.forall_mem_cons]
    split at h1 <;> rename_i hx
    · exact ⟨by simpa [hx] using h1.trans hx, by simpa [hx] using h1, h2⟩
    · exact ⟨by simpa [hx] using h1, by simpa [hx] using h1.trans (Nat.le_of_not_le hx), h2⟩

theorem underCeilings_mem (c : Nat × Nat) (l : List Nat) : (underCeilings c l).1 = c.1 ∨ (underCeilings c l).1 ∈ l := by
  induction l generalizing c with
  | nil => exact .inl rfl
  | cons x l ih =>
    have hcons : underCeilings c (x :: l) = underCeilings (if x ≤ c.1 then (x, 1) else c) l := rfl
    rw [hcons]
    rcases ih (if x ≤ c.1 then (x, 1) else c) with h | h
    · rw [h]
      split
      · exact .inr List.mem_cons_self
      · exact .inl rfl
    · exact .inr (List.mem_cons_of_mem _ h)

theorem State.effCap_eq (s : State) (a pc : Nat) : (s.effCap a pc).1 =
    if s.accCap a ≠ 0 ∧ s.capValue (s.accCap a) a ≤ (underCeilings (pc, 0) (s.ceilValues a)).1 then s.capValue (s.accCap a) a
    else (underCeilings (pc, 0) (s.ceilValues a)).1 := by
  unfold State.effCap
  dsimp only
  rw [apply_ite Prod.fst]
  rfl

theorem lowered_le (c f : Nat) : (if c < f then (c, true) else (f, false)).1 ≤ c := by
  split
  · exact Nat.le_refl c
  · rename_i h
    exact Nat.not_lt.mp h

theorem State.effFloor_le (s : State) (a cap : Nat) : (s.effFloor a cap).1 ≤ cap := lowered_le cap _

theorem State.effFloor_survival {s : State} {a : Nat} (h : s.accCap a = 2) (cap : Nat) : (s.effFloor a cap).1 = 0 := by
  simp [State.effFloor, h]

theorem State.rampBound_le (s : State) (a : Nat) : s.rampBound a ≤ 0xFFFF := by
  unfold State.rampBound
  dsimp only
  split
  · split
    · rfl
    · exact Nat.min_le_right _ _
  · exact Nat.min_le_right _ _

/-- Settles O60: the effective values by the lemmas on the fold of the ceilings, the sums by the lemma on shares in proportion. -/
theorem thePlanStaysUnderItsLimits : Obligations.ThePlanStaysUnderItsLimits := by
  refine ⟨fun s a pc => ?_, State.planCaps_le, State.rackShares_le⟩
  have hcap : (s.planEntry a pc).cap = (s.effCap a pc).1 := rfl
  obtain ⟨hpc, hceil⟩ := underCeilings_le (pc, 0) (s.ceilValues a)
  have hmem := underCeilings_mem (pc, 0) (s.ceilValues a)
  refine ⟨?_, ?_, ?_, ?_, s.effFloor_le a _, fun h => State.effFloor_survival h _, s.rampBound_le a⟩
  all_goals
    rw [hcap, s.effCap_eq]
    split
  · rename_i h
    exact h.2.trans hpc
  · exact hpc
  · rename_i h
    exact fun v hv => h.2.trans (hceil v hv)
  · exact hceil
  · exact fun _ => le_rfl
  · rename_i h
    exact fun hk => Nat.le_of_not_le (fun hle => h ⟨hk, hle⟩)
  · rename_i h
    exact .inr (.inr ⟨h.1, rfl⟩)
  · exact hmem.imp_right .inl

end Sys2Proof.Machine
end

section
-- In order: the one text holds more declarations than asynchronous elaboration has threads for.
set_option Elab.async false

/-! PROOFS. Fans (R341, R342), silent demand (R338), the pull-back of an over-budget supply (R335) and the save of wear counters (R346). -/

namespace Sys2Proof.Machine

/-! ### The steps of a fan -/

theorem State.kick_spec (s : State) (f : Fin 32) {n : Nat} (hn : n < 4) :
    (s.kick f n).fanState f = 1 ∧ (s.kick f n).fld (Fd.FAN_STAT_ATTEMPT f) = n ∧ (s.kick f n).fld (Fd.FAN_STAT_DRIVE f) = 32767 ∧
      ((s.kick f n).fan f).kick = some s.clk.now ∧ Changes [.acts] [Reg.FAN_STAT f] s (s.kick f n) := by
  refine ⟨?_, ?_, ?_, ?_, (Changes.refl _ _ s).setFan.set.set.set⟩
  all_goals simp (disch := omega) [State.kick, State.setFanState, State.fanState, State.fan, Fd.FAN_STAT_STATE,
    Fd.FAN_STAT_DRIVE, Fd.FAN_STAT_ATTEMPT, Nat.mod_eq_of_lt hn]

theorem State.fanOff_spec (s : State) (f : Fin 32) {st : Nat} (hst : st < 8) :
    (s.fanOff f st).fanState f = st ∧ (s.fanOff f st).fld (Fd.FAN_STAT_DRIVE f) = 0 ∧ Changes [.acts] [Reg.FAN_STAT f] s (s.fanOff f st) := by
  refine ⟨?_, ?_, (Changes.refl _ _ s).setFan.set.set⟩
  all_goals simp (disch := omega) [State.fanOff, State.setFanState, State.fanState, Fd.FAN_STAT_STATE, Fd.FAN_STAT_DRIVE, Nat.mod_eq_of_lt hst]

theorem State.lockRotor_spec (s : State) (f : Fin 32) :
    (s.lockRotor f).fanState f = 4 ∧ (s.lockRotor f).fld (Fd.FAN_STAT_DRIVE f) = 0 ∧ (s.lockRotor f).on Fd.ACT_EVT_FAN_LOCKED = true ∧
      Changes [.acts, .firn] [Reg.FAN_STAT f, Reg.ACT_EVT, Reg.ACT_EVT_SEQ] s (s.lockRotor f) := by
  refine ⟨?_, ?_, ?_, (Changes.refl _ _ s).setFan.set.set.raise⟩
  all_goals simp (disch := omega) [State.lockRotor, State.fanOff, State.setFanState, State.fanState, State.on, Fd.FAN_STAT_STATE,
    Fd.FAN_STAT_DRIVE, Reg.FAN_STAT, Fd.ACT_EVT_FAN_LOCKED, Reg.ACT_EVT]

/-! ### The commands of fans -/

theorem exec_fanKickTimeout {f : Fin 32} {s : State} {t0 : Nat} (h1 : s.fanState f = 1) (h2 : (s.fan f).kick = some t0)
    (h3 : t0 + sTicks 3 ≤ s.clk.now) : exec (.fanKickTimeout f) s = .next (if 3 ≤ s.fld (Fd.FAN_STAT_ATTEMPT f) then s.lockRotor f else
      (s.setFan f { s.fan f with kick := none, again := some (t0 + sTicks 5) }).set (Fd.FAN_STAT_DRIVE f) 0) := by
  show execFanKickTimeout f s = _
  simp [execFanKickTimeout, h1, h2, h3]

theorem fanKickTimeout_again {f : Fin 32} {s : State} (t0 : Nat) (h1 : s.fanState f = 1) :
    let t := (s.setFan f { s.fan f with kick := none, again := some (t0 + sTicks 5) }).set (Fd.FAN_STAT_DRIVE f) 0
    t.fanState f = 1 ∧ (t.fan f).kick = none ∧ (t.fan f).again = some (t0 + sTicks 5) ∧ t.fld (Fd.FAN_STAT_DRIVE f) = 0 ∧
      Changes [.acts] [Reg.FAN_STAT f] s t := by
  refine ⟨Eq.trans ?_ h1, ?_, ?_, ?_, (Changes.refl _ _ s).setFan.set⟩
  all_goals simp (disch := omega) [State.fanState, State.fan, Fd.FAN_STAT_STATE, Fd.FAN_STAT_DRIVE]

theorem exec_fanStarted {f : Fin 32} {s : State} {t0 : Nat} (h1 : s.fanState f = 1) (h2 : (s.fan f).kick = some t0)
    (h3 : t0 ≤ (s.fan f).edge) (h4 : s.clk.now ≤ t0 + sTicks 3) (h5 : s.fld (Fd.FAN_CFG_RATED f) ≤ 10 * s.fld (Fd.FAN_MEAS_RPM f)) :
    exec (.fanStarted f) s = .next (((s.setFan f { s.fan f with kick := none, again := none, ocFrom := none }).setFanState f 2
      (s.fanGoal f)).count (Reg.FAN_STARTS f)) := by
  show execFanStarted f s = _
  simp [execFanStarted, h1, h2, h3, h4, h5]

theorem fanStarted_spec (s : State) (f : Fin 32) (x : Fan) (d : Nat) :
    let t := ((s.setFan f x).setFanState f 2 d).count (Reg.FAN_STARTS f)
    t.fanState f = 2 ∧ t.fld (Fd.FAN_STAT_DRIVE f) = d % 65536 ∧ t.rd (Reg.FAN_STARTS f) = satCount (s.rd (Reg.FAN_STARTS f)) 1 ∧
      Changes [.acts] [Reg.FAN_STAT f, Reg.FAN_STARTS f] s t := by
  refine ⟨?_, ?_, ?_, (Changes.refl _ _ s).setFan.set.set.count⟩
  all_goals simp (disch := omega) [State.fanState, State.setFanState, Fd.FAN_STAT_STATE, Fd.FAN_STAT_DRIVE, Reg.FAN_STAT,
    Reg.FAN_STARTS]

theorem exec_fanTachTimeout {f : Fin 32} {s : State} (h1 : s.fanState f = 2) (h2 : s.tachLate f = true) (h3 : s.fanSuspended f = false) :
    exec (.fanTachTimeout f) s = .next (if s.fld (Fd.FAN_FLOOR_FLOOR_MA f) ≤ s.fld (Fd.FAN_MEAS_MA f) then
      ((s.setFan f { s.fan f with goodFrom := none }).set (Fd.FAN_STAT_STATE f) 5).raise Fd.ACT_EVT_TACH_LOST f [] else s.fanOff f 3) := by
  show execFanTachTimeout f s = _
  simp [execFanTachTimeout, h1, h2, h3]

theorem fanTachLost_spec (s : State) (f : Fin 32) (x : Fan) :
    let t := ((s.setFan f x).set (Fd.FAN_STAT_STATE f) 5).raise Fd.ACT_EVT_TACH_LOST f []
    t.fanState f = 5 ∧ t.on Fd.ACT_EVT_TACH_LOST = true ∧ Changes [.acts, .firn] [Reg.FAN_STAT f, Reg.ACT_EVT, Reg.ACT_EVT_SEQ] s t := by
  refine ⟨?_, ?_, (Changes.refl _ _ s).setFan.set.raise⟩
  all_goals simp (disch := omega) [State.fanState, State.on, Fd.FAN_STAT_STATE, Reg.FAN_STAT, Fd.ACT_EVT_TACH_LOST, Reg.ACT_EVT]

theorem exec_fanOvercurrent {f : Fin 32} {s : State} {t0 : Nat} (h1 : s.fanState f = 2) (h2 : (s.fan f).ocFrom = some t0)
    (h3 : t0 + msTicks 1 ≤ s.clk.now) :
    exec (.fanOvercurrent f) s = .next (((s.fanOff f 6).setFan f { (s.fanOff f 6).fan f with ocAt := (s.fanOff f 6).clk.now }).raise
      Fd.ACT_EVT_FAN_OC f [(s.fanOff f 6).fld (Fd.FAN_MEAS_MA f)]) := by
  show execFanOvercurrent f s = _
  unfold execFanOvercurrent
  rw [if_pos ⟨h1, by simp [h2, h3]⟩]

theorem setFan_raiseOc_spec (s : State) (f : Fin 32) (x : Fan) (l : List Nat) :
    let t := (s.setFan f x).raise Fd.ACT_EVT_FAN_OC f l
    t.fanState f = s.fanState f ∧ t.fld (Fd.FAN_STAT_DRIVE f) = s.fld (Fd.FAN_STAT_DRIVE f) ∧ t.fan f = x ∧ t.on Fd.ACT_EVT_FAN_OC = true ∧
      Changes [.acts, .firn] [Reg.ACT_EVT, Reg.ACT_EVT_SEQ] s t := by
  refine ⟨?_, ?_, ?_, ?_, (Changes.refl _ _ s).setFan.raise⟩
  all_goals simp (disch := omega) [State.fanState, State.fan, State.on, Fd.FAN_STAT_STATE, Fd.FAN_STAT_DRIVE, Reg.FAN_STAT, Fd.ACT_EVT_FAN_OC,
    Reg.ACT_EVT]

theorem fanOvercurrent_spec (s : State) (f : Fin 32) (x : Fan) (l : List Nat) (hx : x.ocAt = s.clk.now) :
    let t := ((s.fanOff f 6).setFan f x).raise Fd.ACT_EVT_FAN_OC f l
    t.fanState f = 6 ∧ t.fld (Fd.FAN_STAT_DRIVE f) = 0 ∧ (t.fan f).ocAt = s.clk.now ∧ t.on Fd.ACT_EVT_FAN_OC = true ∧
      Changes [.acts, .firn] [Reg.FAN_STAT f, Reg.ACT_EVT, Reg.ACT_EVT_SEQ] s t := by
  obtain ⟨hst, hdr, hch⟩ := s.fanOff_spec f (st := 6) (by decide)
  obtain ⟨hst', hdr', hfan, hon, hch'⟩ := setFan_raiseOc_spec (s.fanOff f 6) f x l
  exact ⟨hst'.trans hst, hdr'.trans hdr, (congrArg Fan.ocAt hfan).trans hx, hon, ((Changes.refl _ _ s).step hch).step hch'⟩

theorem exec_fanOcRetry {f : Fin 32} {s : State} (h1 : s.fanState f = 6) (h2 : s.fld (Fd.FAN_STAT_ATTEMPT f) < 3)
    (h3 : (s.fan f).ocAt + sTicks 5 ≤ s.clk.now) (h4 : s.mayKick = true) :
    exec (.fanOcRetry f) s = .next (s.kick f (s.fld (Fd.FAN_STAT_ATTEMPT f) + 1)) := by
  show execFanOcRetry f s = _
  simp [execFanOcRetry, h1, h2, h3, h4]

theorem exec_fanTachRecovered {f : Fin 32} {s : State} {t0 : Nat} (h1 : s.fanState f = 5) (h2 : s.tachLate f = false)
    (h3 : (s.fan f).goodFrom = some t0) (h4 : t0 + sTicks 1 ≤ s.clk.now) :
    exec (.fanTachRecovered f) s = .next (s.setFanState f 2 (s.fanGoal f)) := by
  show execFanTachRecovered f s = _
  simp [execFanTachRecovered, h1, h2, h3, h4]

theorem setFanState_run_spec (s : State) (f : Fin 32) (d : Nat) :
    (s.setFanState f 2 d).fanState f = 2 ∧ (s.setFanState f 2 d).fld (Fd.FAN_STAT_DRIVE f) = d % 65536 ∧
      Changes [] [Reg.FAN_STAT f] s (s.setFanState f 2 d) := by
  refine ⟨?_, ?_, (Changes.refl _ _ s).set.set⟩
  all_goals simp (disch := omega) [State.fanState, State.setFanState, Fd.FAN_STAT_STATE, Fd.FAN_STAT_DRIVE]

/-- RETRY of a locked rotor: the fan is off, and kicks at once where it is to run and may. -/
theorem State.fanRetry_spec {s : State} {f : Fin 32} (h : s.fanState f = 4) :
    ((s.fanRetry f).fanState f = 0 ∨ (s.fanRetry f).fanState f = 1) ∧ (s.fanRetry f).fld (Fd.FAN_STAT_ATTEMPT f) ≤ 1 ∧
      Changes [.acts] [Reg.FAN_STAT f] s (s.fanRetry f) := by
  have hoff : Changes [.acts] [Reg.FAN_STAT f] s ((s.fanOff f 0).set (Fd.FAN_STAT_ATTEMPT f) 0) := (Changes.refl _ _ s).setFan.set.set.set
  unfold State.fanRetry
  rw [if_pos (Or.inl h)]
  dsimp only
  split
  · obtain ⟨hs, ha, -, -, hc⟩ := State.kick_spec ((s.fanOff f 0).set (Fd.FAN_STAT_ATTEMPT f) 0) f (n := 1) (by decide)
    exact ⟨Or.inr hs, ha.le, hoff.trans hc⟩
  · refine ⟨Or.inl ?_, ?_, hoff⟩
    all_goals simp (disch := omega) [State.fanOff, State.setFanState, State.fanState, Fd.FAN_STAT_STATE, Fd.FAN_STAT_DRIVE,
      Fd.FAN_STAT_ATTEMPT]

theorem exec_fanDemandSilent {d : Fin 64} {s : State} (h1 : s.on (Fd.ACT_FDEM_SRC d) = false) (h2 : s.demandFresh d = false) :
    exec (.fanDemandSilent d) s = .next (s.set (Fd.ACT_FDEM_SILENT d) 1) := by
  show execFanDemandSilent d s = _
  simp [execFanDemandSilent, h1, h2]

theorem fanDemandSilent_spec (s : State) (d : Fin 64) :
    let t := s.set (Fd.ACT_FDEM_SILENT d) 1
    t.on (Fd.ACT_FDEM_SILENT d) = true ∧ t.fld (Fd.ACT_FDEM_VAL d) = s.fld (Fd.ACT_FDEM_VAL d) ∧ Changes [] [Reg.ACT_FDEM d] s t := by
  refine ⟨?_, ?_, (Changes.refl _ _ s).set⟩
  all_goals simp (disch := omega) [State.on, Fd.ACT_FDEM_SILENT, Fd.ACT_FDEM_VAL]

/-! ### The pull-back -/

/-- What a pull-back is set from: the draw of the solenoids, the fans that it limits, and the budget. -/
theorem State.pullInputs_congr {s t : State} (h : ∀ a, a % 0x1000000 < 0x7F0000 → a < 0xD000000 → a ≠ Reg.ACT_STAT → a ≠ Reg.ACT_EVT → a ≠ Reg.ACT_EVT_SEQ → t.rd a = s.rd a) :
    t.solDraw = s.solDraw ∧ t.pulledFans = s.pulledFans := by
  constructor
  · unfold State.solDraw
    congr 1
    refine List.map_congr_left (fun b hb => State.fld_congr (h _ ?_ ?_ ?_ ?_ ?_))
    all_goals
      have := List.mem_range.mp hb
      simp only [Fd.BANK_STAT_I_BANK, Reg.BANK_STAT, Reg.ACT_STAT, Reg.ACT_EVT, Reg.ACT_EVT_SEQ]
      omega
  · unfold State.pulledFans
    refine List.filter_congr (fun f hf => ?_)
    have he : t.fld (Fd.FAN_STAT_STATE f) = s.fld (Fd.FAN_STAT_STATE f) := by
      refine State.fld_congr (h _ ?_ ?_ ?_ ?_ ?_)
      all_goals
        have := List.mem_range.mp hf
        simp only [Fd.FAN_STAT_STATE, Reg.FAN_STAT, Reg.ACT_STAT, Reg.ACT_EVT, Reg.ACT_EVT_SEQ]
        omega
    rw [he]

/-- An over-budget supply is told. -/
def State.tellOverbudget (s : State) : State :=
  (s.set Fd.ACT_STAT_OVERBUDGET 1).raise Fd.ACT_EVT_OVERBUDGET noObj [(s.fanDraw + s.solDraw) / 10]

theorem exec_actuatorOverbudget {s : State} {t0 : Nat} (h1 : s.on Fd.ACT_STAT_OVERBUDGET = false) (h2 : s.anyPull = false)
    (h3 : s.acts.overFrom = some t0) (h4 : t0 + msTicks 5 ≤ s.clk.now) :
    exec .actuatorOverbudget s = .next (s.tellOverbudget.beginPull s.tellOverbudget.solDraw) := by
  show execActuatorOverbudget s = _
  unfold execActuatorOverbudget
  rw [if_pos ⟨by simp [h1], by simp [h2], by simp [h3, h4]⟩]
  rfl

theorem State.tellOverbudget_rd (s : State) (a : Nat) (hb : a % 0x1000000 < 0x7F0000) (hd : a < 0xD000000) (h1 : a ≠ Reg.ACT_STAT)
    (h2 : a ≠ Reg.ACT_EVT) (h3 : a ≠ Reg.ACT_EVT_SEQ) : s.tellOverbudget.rd a = s.rd a :=
  (State.raise_rd _ Fd.ACT_EVT_OVERBUDGET _ _ _ _ (by decide) (eventWord_eq_false hb hd) h2 h3).trans (State.rd_set_ne _ _ _ _ h1)

/-- The fans that a pull-back limits are marked. -/
def State.markPulled (s : State) (l : List Nat) : State := l.foldl (fun (s : State) f => s.set (Fd.FAN_STAT_PULLBACK f) 1) s

/-- The part of the actuators as a pull-back begins. -/
def State.pulling (s : State) (n : Nat) : State :=
  { s with acts := { s.acts with limit := pullLimit s.budgetMa n s.pulledFans.length, fit := false, pull := true, base := s.fanDraw } }

/-- The pull-back that begins where none is on. -/
theorem State.beginPull_on {s : State} (n : Nat) (h : s.acts.pull = false) : s.beginPull n =
    (((((s.pulling n).markPulled s.pulledFans).set Fd.ACT_STAT_PULLBACK 1).count Reg.ACT_CNT_PULLBACK).raise Fd.ACT_EVT_PULLBACK noObj
      [pullLimit s.budgetMa n s.pulledFans.length]) := by
  unfold State.beginPull
  dsimp only
  rw [if_neg (by simp [h])]
  rfl

theorem State.markPulled_rd (s : State) (l : List Nat) (a : Nat) (ha : ∀ f ∈ l, a ≠ Reg.FAN_STAT f) : (s.markPulled l).rd a = s.rd a :=
  List.foldlRecOn l _ (motive := fun (t : State) => t.rd a = s.rd a) rfl (fun _ ht f hf => (State.rd_set_ne _ _ _ _ (ha f hf)).trans ht)

theorem State.markPulled_acts (s : State) (l : List Nat) : (s.markPulled l).acts = s.acts := foldl_keep (f := fun (s : State) f => s.set (Fd.FAN_STAT_PULLBACK f) 1) State.acts (fun _ _ => rfl) l s

theorem actStat_ne_fanStat (f : Nat) : Reg.ACT_STAT ≠ Reg.FAN_STAT f := by
  simp only [Reg.ACT_STAT, Reg.FAN_STAT]
  omega

theorem actCntPullback_ne_fanStat (f : Nat) : Reg.ACT_CNT_PULLBACK ≠ Reg.FAN_STAT f := by
  simp only [Reg.ACT_CNT_PULLBACK, Reg.FAN_STAT]
  omega

theorem actuatorOverbudget_spec {s : State} (h : s.acts.pull = false) :
    let t := s.tellOverbudget.beginPull s.tellOverbudget.solDraw
    t.on Fd.ACT_STAT_OVERBUDGET = true ∧ t.on Fd.ACT_STAT_PULLBACK = true ∧ t.acts.pull = true ∧
      t.acts.limit = pullLimit s.budgetMa s.solDraw s.pulledFans.length ∧
      t.rd Reg.ACT_CNT_PULLBACK = satCount (s.rd Reg.ACT_CNT_PULLBACK) 1 ∧ Only [.acts, .regs, .firn] s t := by
  have hk : Keeps (Part.acts.bit ||| Part.regs.bit ||| Part.firn.bit) s (s.tellOverbudget.beginPull s.tellOverbudget.solDraw) :=
    State.beginPull_keeps rfl (State.raise_keeps rfl (State.set_keeps rfl (Keeps.refl _ s)))
  obtain ⟨hsol, hfans⟩ := State.pullInputs_congr s.tellOverbudget_rd
  have hbud : s.tellOverbudget.budgetMa = s.budgetMa := by
    simp (disch := omega) [State.budgetMa, State.tellOverbudget, Fd.ACT_STAT_BUDGET, Fd.ACT_STAT_OVERBUDGET, Fd.ACT_EVT_OVERBUDGET,
      Reg.ACT_STAT, Reg.ACT_EVT]
  have hp : s.tellOverbudget.acts.pull = false := by simp [State.tellOverbudget, h]
  have hover : s.tellOverbudget.fld Fd.ACT_STAT_OVERBUDGET = 1 := by
    simp (disch := omega) [State.tellOverbudget, Fd.ACT_STAT_OVERBUDGET, Fd.ACT_EVT_OVERBUDGET, Reg.ACT_STAT, Reg.ACT_EVT]
  have hrd : ∀ a, (∀ f, a ≠ Reg.FAN_STAT f) →
      ((s.tellOverbudget.pulling s.tellOverbudget.solDraw).markPulled s.tellOverbudget.pulledFans).rd a = s.tellOverbudget.rd a :=
    fun a ha => State.markPulled_rd _ _ a (fun f _ => ha f)
  have hcnt : s.tellOverbudget.rd Reg.ACT_CNT_PULLBACK = s.rd Reg.ACT_CNT_PULLBACK :=
    s.tellOverbudget_rd _ (by decide) (by decide) (by decide) (by decide) (by decide)
  have hrdS := hrd _ actStat_ne_fanStat
  have hrdC := hrd _ actCntPullback_ne_fanStat
  rw [State.beginPull_on _ hp, hbud, hsol, hfans]
  rw [hsol, hfans] at hrdS hrdC
  refine ⟨?_, ?_, ?_, ?_, ?_, ?_⟩
  · rw [State.on, State.raise_fld _ _ _ _ _ _ (by decide) (by decide) (by decide) (by decide), State.fld_count_ne _ _ _ (by decide),
      State.fld_set_bits _ Fd.ACT_STAT_PULLBACK Fd.ACT_STAT_OVERBUDGET _ rfl (by decide), State.fld_congr (f := Fd.ACT_STAT_OVERBUDGET) hrdS, hover]
    rfl
  · simp (disch := omega) [State.on, Fd.ACT_STAT_PULLBACK, Reg.ACT_STAT, Fd.ACT_EVT_PULLBACK, Reg.ACT_EVT, Reg.ACT_CNT_PULLBACK]
  · simp [State.markPulled_acts, State.pulling]
  · simp [State.markPulled_acts, State.pulling, hbud, hfans]
  · rw [State.raise_rd _ _ _ _ _ _ (by decide) (by decide) (by decide) (by decide), State.rd_count_self, State.rd_set_ne _ _ _ _ (by decide),
      hrdC, hcnt]
  · rw [State.beginPull_on _ hp, hbud, hsol, hfans] at hk
    exact hk.only _ (fun p => by cases p <;> decide)

theorem exec_wearCounterSave {s : State} (h : s.acts.wearAt + sTicks 600 ≤ s.clk.now) :
    exec .wearCounterSave s = .next { s with acts := { s.acts with nvWear := s.wearWords, wearAt := s.clk.now } } := by
  show execWearCounterSave s = _
  rw [execWearCounterSave, if_pos h]

/-- Settles O33, clause by clause: the case of the command, and what its step of the fan does. -/
theorem fanEventsTakeEffect : Obligations.FanEventsTakeEffect := by
  refine ⟨fun f s t0 h1 h2 h3 h4 => ⟨_, (exec_fanKickTimeout h1 h2 h3).trans (by rw [if_pos h4]), s.lockRotor_spec f⟩,
    fun f s t0 h1 h2 h3 h4 => ⟨_, (exec_fanKickTimeout h1 h2 h3).trans (by rw [if_neg (by omega)]), fanKickTimeout_again t0 h1⟩,
    fun f s t0 h1 h2 h3 h4 h5 => ⟨_, exec_fanStarted h1 h2 h3 h4 h5, fanStarted_spec s f _ _⟩,
    fun f s h1 h2 h3 h4 => ⟨_, (exec_fanTachTimeout h1 h2 h3).trans (by rw [if_pos h4]), fanTachLost_spec s f _⟩,
    fun f s h1 h2 h3 h4 => ⟨_, (exec_fanTachTimeout h1 h2 h3).trans (by rw [if_neg (by omega)]), s.fanOff_spec f (by decide)⟩,
    fun f s t0 h1 h2 h3 => ⟨_, exec_fanOvercurrent h1 h2 h3, fanOvercurrent_spec s f _ _ (congrArg Clock.now (s.fanOff_spec f (by decide)).2.2.clk)⟩,
    fun f s h1 h2 h3 h4 => ⟨_, exec_fanOcRetry h1 h2 h3 h4, ?_⟩,
    fun f s t0 h1 h2 h3 h4 => ⟨_, exec_fanTachRecovered h1 h2 h3 h4, setFanState_run_spec s f _⟩,
    fun w f s h1 h2 => ⟨_, congrArg Host.Outcome.next (State.writeRow_taken (fun s => s.fanRetry f) h1), WroteOk.send _ _ _, ?_⟩,
    fun d s h1 h2 => ⟨_, exec_fanDemandSilent h1 h2, fanDemandSilent_spec s d⟩,
    fun s t0 h1 h2 h3 h4 h5 => ⟨_, exec_actuatorOverbudget h1 h2 h3 h4, actuatorOverbudget_spec h5⟩,
    fun s h => ⟨_, exec_wearCounterSave h, rfl, rfl, ?_⟩⟩
  · exact State.kick_spec s f (by omega)
  · obtain ⟨hst, hatt, hch⟩ := State.fanRetry_spec (s := s.afterChecks w (Reg.FAN_CMD f) 1) (f := f)
      ((State.afterChecks_fld _ _ _ _ _).trans h2)
    exact ⟨hst, hatt, ((Changes.refl _ _ s).afterChecks.step hch).send⟩
  · exact (Keeps.upd_acts rfl (Keeps.refl 16384 s)).only _ (fun p => by cases p <;> decide)

end Sys2Proof.Machine
end

section
-- In order: the one text holds more declarations than asynchronous elaboration has threads for.
set_option Elab.async false

/-! PROOFS. A read of a message object's status by its address (R458) latches the object, so it changes the CAN buses' part. -/

namespace Sys2Proof.Machine

theorem exec_latchedLowWordRead (a : Nat) (s : State) : exec (.latchedLowWordRead a) s = .next (s.readRow a) := rfl

/-- OBJ_STAT of object 0 of bus 0 is served in the state after reset. -/
theorem reset_reachable_objStat : State.reset.reachable (Reg.OBJ_STAT 0 0) = true := by decide +kernel

/-- After reset no object is latched; a read of OBJ_STAT latches one. -/
theorem reset_objLatch : (Tab.find State.reset.can.shadow 0).isSome = false := by decide +kernel

theorem readRow_objStat_latches : (Tab.find (State.reset.readRow (Reg.OBJ_STAT 0 0)).can.shadow 0).isSome = true := by decide +kernel

/-- Refutes O12, by its second clause: it takes every served address for a low word and names the parts a read of one changes, but a read of
OBJ_STAT, served too, latches its object in the CAN buses' part (`State.readObj`), as at object 0 of bus 0 after reset. -/
theorem not_registersAreReadAndWritten : ¬ Obligations.RegistersAreReadAndWritten := by
  unfold Obligations.RegistersAreReadAndWritten
  rintro ⟨-, hread, -⟩
  obtain ⟨t, ht, -, -, honly⟩ := hread (Reg.OBJ_STAT 0 0) State.reset reset_reachable_objStat
  obtain rfl : State.reset.readRow (Reg.OBJ_STAT 0 0) = t := Host.Outcome.next.inj ((exec_latchedLowWordRead _ _).symm.trans ht)
  have hcan : (State.reset.readRow (Reg.OBJ_STAT 0 0)).can = State.reset.can := honly.2 .can (by decide)
  have hlatch := readRow_objStat_latches
  rw [hcan, reset_objLatch] at hlatch
  cases hlatch

end Sys2Proof.Machine
end

section
-- In order: the one text holds more declarations than asynchronous elaboration has threads for.
set_option Elab.async false

/-! PROOFS. Session commands, the end of sessions, and violations of the protocol (R410, R421, R440, R441). -/

namespace Sys2Proof.Machine

variable {ps : List Part} {ws : List Nat} {s t u : State}

/-! ### HELLO, PING and SUBSCRIBE -/

/-- The fields that HELLO answers (R421). -/
def State.helloBody (s : State) : List Nat :=
  [s.fld Fd.SYS_LVL_ZH_MIN, s.fld Fd.SYS_LVL_ZH_MAX, s.fld Fd.SYS_ID_VARIANT, s.sys.straps.moduleId, s.fld Fd.NET_STAT_ROW_OWNER,
    ((List.range 8).filter (fun k => s.fld (Fd.SS_STAT_STATE k) == 0)).length]

theorem exec_hello (q : Plain) (s : State) : exec (.hello q.came q.tag q.mbox) s =
    .next (s.takePlain q (fun s => s.sendPlain q (s.fld Fd.SYS_LVL_ZH_MAX) 0x01 0 0 s.helloBody)) := rfl

/-- The count of a port's frames is none of the words that HELLO answers. -/
theorem State.countRx_helloBody (s : State) (p : Fin 16) : (s.countRx p).helloBody = s.helloBody := by
  have hp := p.isLt
  have hfilter : (List.range 8).filter (fun k => (s.countRx p).fld (Fd.SS_STAT_STATE k) == 0) =
      (List.range 8).filter (fun k => s.fld (Fd.SS_STAT_STATE k) == 0) := by
    refine List.filter_congr (fun k hk => ?_)
    have hk := List.mem_range.mp hk
    simp (disch := omega) [State.countRx, Fd.SS_STAT_STATE, Reg.SS_STAT, Reg.PORT_CNT_RX]
  unfold State.helloBody
  rw [hfilter]
  simp (disch := omega) [State.countRx, Fd.SYS_LVL_ZH_MIN, Fd.SYS_LVL_ZH_MAX, Fd.SYS_ID_VARIANT, Fd.NET_STAT_ROW_OWNER, Reg.SYS_LVL, Reg.SYS_ID,
    Reg.NET_STAT, Reg.PORT_CNT_RX]

theorem hello_answers {q : Plain} (h : s.TakesPlain q) : ∃ t, exec (.hello q.came q.tag q.mbox) s = .next t ∧
    PlainAnswered t q 0x01 0 0 s.helloBody ∧ t.out.length = s.out.length + 1 ∧ Changes [.out] [Reg.PORT_CNT_RX q.port] s t := by
  refine ⟨_, (exec_hello q s).trans (congrArg _ (State.takePlain_taken h _)), ?_, rfl, (Changes.refl _ _ s).countRx.sendPlain⟩
  rw [s.countRx_helloBody]
  exact State.sendPlain_answered _ _ _ _ _ _ _

theorem hello_quarantined {q : Plain} {e : Nat} (hp : s.portTakes Fd.PORT_CFG_MBOX q.port q.src q.row = true)
    (hq : (s.countRx q.port).quarEntry q.src = some e) : ∃ t, exec (.hello q.came q.tag q.mbox) s = .next t ∧
      t.rd Reg.NET_CNT_QDROP = satCount (s.rd Reg.NET_CNT_QDROP) 1 ∧ Changes [] [Reg.PORT_CNT_RX q.port, Reg.NET_CNT_QDROP] s t := by
  refine ⟨_, (exec_hello q s).trans (congrArg _ (State.takePlain_quarantined _ hp hq)), ?_, (Changes.refl _ _ s).countRx.count⟩
  simp (disch := omega) [State.countRx, Reg.NET_CNT_QDROP, Reg.PORT_CNT_RX]

theorem exec_ping (q : Req) (s : State) : exec (.ping q) s = .next (s.request (.ping q) q 0x05 judgePing) := rfl

theorem ping_answers {q : Req} {k : Nat} (h : s.Reaches q k u) (hj : (judgePing k u).first q u = none) : ∃ t, exec (.ping q) s = .next t ∧
    AnsweredOk t q 0x05 [s.clk.mtime.toNat, s.clk.sidx.toNat] ∧ Changes [.zh, .out] [Reg.SS_MBOX k, Reg.PORT_CNT_RX q.port] s t := by
  refine ⟨_, (exec_ping q s).trans (congrArg _ (State.request_ok h hj rfl rfl rfl)), ?_, ((Changes.refl _ _ s).step h.changes).finish⟩
  rw [← h.changes.clk]
  exact State.finish_ok _ _ _ _ _ _

theorem exec_subscribe (q : Req) (c : Word) (s : State) :
    exec (.subscribe q c) s = .next (s.request (.subscribe q c) q 0x06 (judgeSubscribe c)) := rfl

theorem subscribe_answers {q : Req} {c : Word} {k : Nat} (h : s.Reaches q k u) (hj : (judgeSubscribe c k u).first q u = none) :
    ∃ t, exec (.subscribe q c) s = .next t ∧ AnsweredOk t q 0x06 [] ∧ (t.sess k).subs = c.toNat ∧
      Changes [.zh, .out] [Reg.SS_MBOX k, Reg.PORT_CNT_RX q.port] s t := by
  refine ⟨_, (exec_subscribe q c s).trans (congrArg _ (State.request_ok h hj rfl rfl rfl)), State.finish_ok _ _ _ _ _ _, ?_,
    ((Changes.refl _ _ s).step h.changes).setSess.finish⟩
  refine (congrArg Session.subs (State.finish_core _ k q _ _ _ _ (by decide) k)).trans ?_
  exact congrArg Session.subs (State.setSess_sess u k _)

/-! ### The end of sessions -/

theorem State.delSess_find (s : State) (k : Nat) : Tab.find (s.delSess k).zh.sess k = none := Tab.find_del_self _ _

/-- What the end of a session leaves of its slot (R410). -/
theorem State.clearSlot_spec (s : State) {k : Nat} (hk : k < 8) :
    (s.clearSlot k).rd (Reg.SS_ID k) = 0 ∧ Tab.find (s.clearSlot k).zh.sess k = none ∧ (s.clearSlot k).on Fd.NET_EVT_SESS_CLOSE = true := by
  unfold State.clearSlot
  extract_lets s1 s2 s3 s4
  clear_value s2
  refine ⟨?_, ?_, ?_⟩
  · simp (disch := omega) [s4, Fd.NET_EVT_SESS_CLOSE, Reg.NET_EVT, Fd.NET_STAT_SESSIONS, Reg.NET_STAT, Reg.SS_LEVEL, Reg.SS_MBOX, Reg.SS_ROLES,
      Reg.SS_ID]
  · simp [s4, s3, Tab.find_del_self]
  · simp (disch := omega) [State.on, Fd.NET_EVT_SESS_CLOSE, Reg.NET_EVT]

theorem State.sessOpen_of_stat {k : Nat} (h : s.rd (Reg.SS_STAT k) = 0) : s.sessOpen k = false := by
  simp [State.sessOpen, State.fld, Fd.SS_STAT_STATE, h, fieldOf]

theorem State.endSession_spec {k : Nat} (hk : k < 8) (h : s.sessOpen k = true) :
    (s.endSession k).sessOpen k = false ∧ (s.endSession k).rd (Reg.SS_ID k) = 0 ∧ Tab.find (s.endSession k).zh.sess k = none ∧
      (s.endSession k).on Fd.NET_EVT_SESS_CLOSE = true ∧ Only [.zh, .regs, .firn] s (s.endSession k) := by
  have hk' : Keeps (Part.zh.bit ||| Part.regs.bit ||| Part.firn.bit) s (s.endSession k) := State.endSession_keeps rfl (Keeps.refl _ s)
  have honly := hk'.only [.zh, .regs, .firn] (fun p => by cases p <;> decide)
  rw [State.endSession_open h] at honly ⊢
  obtain ⟨hid, hsess, hev⟩ := (s.giveUpEach (fun _ => true) k).clearSlot_spec hk
  exact ⟨State.sessOpen_of_stat (State.clearSlot_stat _ hk), hid, hsess, hev, honly⟩

theorem exec_sessClose (q : Req) (s : State) : exec (.sessClose q) s = .next (s.request (.sessClose q) q 0x04 judgeClose) := rfl

theorem sessClose_request {q : Req} {k : Nat} (h : s.Reaches q k u) (hj : (judgeClose k u).first q u = none) :
    s.request (.sessClose q) q 0x04 judgeClose = (u.finish k q 0x04 0 0 0 []).endSession k := State.request_taken h hj

theorem sessClose_ends {q : Req} {k : Nat} (h : s.Reaches q k u) (hj : (judgeClose k u).first q u = none) :
    ∃ t, exec (.sessClose q) s = .next t ∧ AnsweredOk t q 0x04 [] ∧ t.sessOpen k = false ∧ t.rd (Reg.SS_ID k) = 0 ∧
      (∀ d, d < 4 → t.holds k d = false) ∧ t.on Fd.NET_EVT_SESS_CLOSE = true ∧ Only [.zh, .regs, .firn, .out] s t := by
  have hk := h.slot_lt
  have hopen : (u.finish k q 0x04 0 0 0 []).sessOpen k = true := by
    refine (State.sessOpen_congr (State.finish_rd _ _ _ _ _ _ _ (by decide) _ ?_)).trans h.open
    simp only [Reg.SS_STAT, Reg.SS_MBOX]
    omega
  obtain ⟨hclosed, hid, -, hev, honly⟩ := State.endSession_spec hk hopen
  have hout : ((u.finish k q 0x04 0 0 0 []).endSession k).out = (u.finish k q 0x04 0 0 0 []).out := honly.2 .out (by decide)
  refine ⟨_, (exec_sessClose q s).trans (congrArg _ (sessClose_request h hj)), ?_, hclosed, hid, ?_, hev, ?_⟩
  · unfold AnsweredOk
    rw [hout]
    exact State.finish_ok _ _ _ _ _ _
  · intro d _
    simp [State.holds, hclosed]
  · have h1 : Changes [.zh, .out] [Reg.SS_MBOX k, Reg.PORT_CNT_RX q.port] s (u.finish k q 0x04 0 0 0 []) :=
      ((Changes.refl _ _ s).step h.changes).finish
    exact (h1.1.mono (by decide)).trans (honly.mono (by decide))

theorem exec_sessionTimeout {slot : Fin 8} (h1 : s.sessOpen slot = true) (h2 : (s.sess slot).lastRx + sTicks (s.fld Fd.NET_SESS_TMO_SEC) ≤ s.clk.now) :
    exec (.sessionTimeout slot) s = .next (s.endSession slot) := by
  show execSessionTimeout slot s = _
  simp [execSessionTimeout, State.timeoutSession, h1, h2]

theorem sessionTimeout_ends {slot : Fin 8} (h1 : s.sessOpen slot = true)
    (h2 : (s.sess slot).lastRx + sTicks (s.fld Fd.NET_SESS_TMO_SEC) ≤ s.clk.now) : ∃ t, exec (.sessionTimeout slot) s = .next t ∧
      t.sessOpen slot = false ∧ t.rd (Reg.SS_ID slot) = 0 ∧ Tab.find t.zh.sess slot = none ∧ t.on Fd.NET_EVT_SESS_CLOSE = true ∧
      Only [.zh, .regs, .firn] s t := ⟨_, exec_sessionTimeout h1 h2, State.endSession_spec slot.isLt h1⟩

theorem exec_sessionOpenTimeout {slot : Fin 8} (h1 : s.fld (Fd.SS_STAT_STATE slot) = 1) (h2 : (s.sess slot).openedAt + sTicks 5 ≤ s.clk.now) :
    exec (.sessionOpenTimeout slot) s =
      .next (((((s.wr (Reg.SS_STAT slot) 0).wr (Reg.SS_ID slot) 0).wr (Reg.SS_ROLES slot) 0).wr (Reg.SS_LEVEL slot) 0).delSess slot) := by
  show execSessionOpenTimeout slot s = _
  simp [execSessionOpenTimeout, State.timeoutOpening, h1, h2]

theorem sessionOpenTimeout_frees {slot : Fin 8} (h1 : s.fld (Fd.SS_STAT_STATE slot) = 1)
    (h2 : (s.sess slot).openedAt + sTicks 5 ≤ s.clk.now) : ∃ t, exec (.sessionOpenTimeout slot) s = .next t ∧
      t.rd (Reg.SS_STAT slot) = 0 ∧ t.rd (Reg.SS_ID slot) = 0 ∧ Tab.find t.zh.sess slot = none ∧
      Changes [.zh] [Reg.SS_STAT slot, Reg.SS_ID slot, Reg.SS_ROLES slot, Reg.SS_LEVEL slot] s t := by
  refine ⟨_, exec_sessionOpenTimeout h1 h2, ?_, ?_, State.delSess_find _ _, (Changes.refl _ _ s).wr.wr.wr.wr.delSess⟩
  all_goals simp (disch := omega) [Reg.SS_STAT, Reg.SS_ID, Reg.SS_ROLES, Reg.SS_LEVEL]

/-! ### Violations -/

theorem State.source_addr (s : State) (a : Nat) : (s.source a).addr = a := by
  unfold State.source
  cases h : s.zh.sources.find? (fun x => x.addr == a) with
  | none => rfl
  | some x => simpa using List.find?_some h

theorem State.source_count (s : State) (a x : Nat) : (s.count a).source x = s.source x := by rw [State.source, State.count_zh]; rfl
theorem State.second_count (s : State) (a : Nat) : (s.count a).second = s.second := by rw [State.second, State.count_clk]; rfl

theorem State.setSource_source (s : State) (x : Source) : (s.setSource x).source x.addr = x := by
  simp [State.source, State.setSource]

theorem Changes.setSource (h : Changes ps ws s t) {x : Source} (hp : Part.zh ∈ ps := by repeat constructor) :
    Changes ps ws s (t.setSource x) := h.upd_zh hp

/-- The violations counted against a source in the present second, this one with them (R441). -/
def State.violations (s : State) (a : Nat) : Nat := if (s.source a).second = s.second then (s.source a).count + 1 else 1

/-- The entry of a source with one violation more. -/
def State.countedSource (s : State) (a : Nat) : Source := { s.source a with second := s.second, count := s.violations a }

theorem State.countedSource_addr (s : State) (a : Nat) : (s.countedSource a).addr = a := s.source_addr a

theorem State.source_setSource {x : Source} {a : Nat} (h : x.addr = a) : (t.setSource x).source a = x := h ▸ t.setSource_source x

/-- A violation within the limit is counted and no more. -/
theorem State.violate_within {a : Nat} (h : (s.source a).second ≠ s.second ∨ (s.source a).count < 100) :
    s.violate a = s.setSource (s.countedSource a) := by
  have hn : ¬ 100 < s.violations a := by
    unfold State.violations
    split
    · rename_i he
      have := h.resolve_left (not_not.mpr he)
      omega
    · omega
  unfold State.violate
  exact if_neg (fun hc => hn hc.1)

/-- A violation is counted, and counts against its source. -/
def State.countViolation (s : State) (a : Nat) : State := (s.count Reg.NET_CNT_PROTO).violate a

/-- The answer to a violation, where one is due (R440). -/
def State.answerViolation (s : State) (q : Plain) (session : Word) (cmd code : Nat) : State :=
  let s := s.setSource { s.source q.src with lastErr := some s.clk.now }
  match s.slotOf session with
  | some k =>
    (s.setSess k { s.sess k with txNext := (s.sess k).txNext + 1 }).send (.answer (portNet q.port)
      { level := fieldOf (s.rd (Reg.SS_LEVEL k)) 0 8, seq := (s.sess k).txNext, session := session, mbox := q.mbox, tag := q.tag, cmd := cmd,
        status := 0x50, state := s.opState, legal := 0, detail := code, body := [] })
  | none => s.sendPlain q (s.fld Fd.SYS_LVL_ZH_MAX) cmd 0x50 code []

theorem State.protoError_eq (s : State) (q : Plain) (session : Word) (cmd code : Nat) : s.protoError q session cmd code =
    if (s.countViolation q.src).mayAnswerError q.src then (s.countViolation q.src).answerViolation q session cmd code
    else s.countViolation q.src := rfl

theorem State.answerViolation_plain {q : Plain} {session : Word} {cmd code : Nat} (h : s.slotOf session = none) :
    s.answerViolation q session cmd code =
      (s.setSource { s.source q.src with lastErr := some s.clk.now }).sendPlain q (s.fld Fd.SYS_LVL_ZH_MAX) cmd 0x50 code [] := by
  have h' : (s.setSource { s.source q.src with lastErr := some s.clk.now }).slotOf session = none := h
  unfold State.answerViolation
  dsimp only
  rw [h']
  rfl

/-- The words of slots: whose session is open, and its ID. -/
theorem State.slotOf_congr {id : Word} (h : ∀ k < 8, t.rd (Reg.SS_STAT k) = s.rd (Reg.SS_STAT k) ∧ t.rd (Reg.SS_ID k) = s.rd (Reg.SS_ID k)) :
    t.slotOf id = s.slotOf id := by
  have hopen : t.openSlots = s.openSlots := List.filter_congr (fun k hk => State.sessOpen_congr (h k (List.mem_range.mp hk)).1)
  unfold State.slotOf
  rw [hopen]
  refine List.find?_congr (fun k hk => ?_)
  rw [(h k (List.mem_range.mp (List.mem_of_mem_filter hk))).2]

theorem State.slotOf_count {id : Word} {a : Nat} (ha : ∀ k < 8, Reg.SS_STAT k ≠ a ∧ Reg.SS_ID k ≠ a) : (s.count a).slotOf id = s.slotOf id :=
  State.slotOf_congr (fun k hk => ⟨State.rd_count_ne _ _ _ (ha k hk).1, State.rd_count_ne _ _ _ (ha k hk).2⟩)

/-- A violation within the limit, answered to no open session: its counts, its source's entry, and the answer. -/
theorem State.protoError_within {q : Plain} {session : Word} {cmd code : Nat}
    (hv : (s.source q.src).second ≠ s.second ∨ (s.source q.src).count < 100) (ha : s.mayAnswerError q.src = true)
    (hs : s.slotOf session = none) :
    let t := s.protoError q session cmd code
    t.rd Reg.NET_CNT_PROTO = satCount (s.rd Reg.NET_CNT_PROTO) 1 ∧ (t.source q.src).count = s.violations q.src ∧
      (t.source q.src).lastErr = some s.clk.now ∧ PlainAnswered t q cmd 0x50 code [] ∧ Changes [.zh, .out] [Reg.NET_CNT_PROTO] s t := by
  generalize hx : s.countedSource q.src = x
  have haddr : x.addr = q.src := hx ▸ s.countedSource_addr q.src
  have hc : s.countViolation q.src = (s.count Reg.NET_CNT_PROTO).setSource x := by
    rw [← hx]
    exact State.violate_within hv
  have hsrc : ((s.count Reg.NET_CNT_PROTO).setSource x).source q.src = x := State.source_setSource haddr
  have hmay : ((s.count Reg.NET_CNT_PROTO).setSource x).mayAnswerError q.src = true := by
    unfold State.mayAnswerError
    rw [hsrc, ← hx]
    exact ha
  have hslot : ((s.count Reg.NET_CNT_PROTO).setSource x).slotOf session = none := by
    refine Eq.trans (State.slotOf_count (s := s) (fun k hk => ?_)) hs
    simp only [Reg.SS_STAT, Reg.SS_ID, Reg.NET_CNT_PROTO]
    omega
  dsimp only
  rw [State.protoError_eq, hc, if_pos hmay, State.answerViolation_plain hslot, hsrc]
  have hsrc' : ((((s.count Reg.NET_CNT_PROTO).setSource x).setSource { x with lastErr := some s.clk.now })).source q.src =
      { x with lastErr := some s.clk.now } := State.source_setSource haddr
  refine ⟨State.rd_count_self _ _, ?_, ?_, State.sendPlain_answered _ _ _ _ _ _ _, (Changes.refl _ _ s).count.setSource.setSource.sendPlain⟩
  · exact (congrArg Source.count hsrc').trans (hx ▸ rfl)
  · exact congrArg Source.lastErr hsrc'

/-! ### Quarantine -/

/-- The word of an address in its place. -/
def addrWord (a i : Nat) : Word := BitVec.ofNat 32 (a / 2 ^ (32 * i))

theorem addrWords_sum (a : Nat) : (addrWord a 0).toNat + 2 ^ 32 * (addrWord a 1).toNat + 2 ^ 64 * (addrWord a 2).toNat +
    2 ^ 96 * (addrWord a 3).toNat = a % 2 ^ 128 := by
  simp only [addrWord, BitVec.toNat_ofNat]
  norm_num
  omega

theorem State.startQuarantine_eq (s : State) (e a n : Nat) : ∃ z, z.quarEnd = s.zh.quarEnd.put e (s.clk.now + sTicks 10) ∧
    s.startQuarantine e a n = ((({ ((((((((s.set (Fd.QU_STAT_VALID e) 1).set (Fd.QU_STAT_REMAIN e) 10).wr (Reg.QU_ADDR e 0) (addrWord a 0)).wr
      (Reg.QU_ADDR e 1) (addrWord a 1)).wr (Reg.QU_ADDR e 2) (addrWord a 2)).wr (Reg.QU_ADDR e 3) (addrWord a 3)).wr (Reg.QU_VIOL e)
      (BitVec.ofNat 32 n))) with zh := z } : State).count Reg.NET_CNT_QUAR).raise Fd.NET_EVT_QUARANTINE e [n]).raise Fd.STM_EVT_QUARANTINE e [n] :=
  ⟨_, rfl, rfl⟩

/-- The start of a quarantine (R441). -/
theorem State.startQuarantine_spec (s : State) {e : Nat} (he : e < 256) (a n : Nat) :
    let t := s.startQuarantine e a n
    t.on (Fd.QU_STAT_VALID e) = true ∧ t.quarAddr e = a % 2 ^ 128 ∧ Tab.find t.zh.quarEnd e = some (s.clk.now + sTicks 10) ∧
      t.rd Reg.NET_CNT_QUAR = satCount (s.rd Reg.NET_CNT_QUAR) 1 ∧ t.on Fd.NET_EVT_QUARANTINE = true ∧ t.on Fd.STM_EVT_QUARANTINE = true := by
  obtain ⟨z, hz, heq⟩ := s.startQuarantine_eq e a n
  dsimp only
  rw [heq, ← addrWords_sum]
  refine ⟨?_, ?_, ?_, ?_, ?_, ?_⟩
  · simp (disch := omega) [State.on, Fd.QU_STAT_VALID, Fd.QU_STAT_REMAIN, Reg.QU_STAT, Reg.QU_ADDR, Reg.QU_VIOL, Reg.NET_CNT_QUAR,
      Fd.NET_EVT_QUARANTINE, Reg.NET_EVT, Fd.STM_EVT_QUARANTINE, Reg.STM_EVT]
  · simp (disch := omega) [State.quarAddr, Fd.QU_STAT_VALID, Fd.QU_STAT_REMAIN, Reg.QU_STAT, Reg.QU_ADDR, Reg.QU_VIOL, Reg.NET_CNT_QUAR,
      Fd.NET_EVT_QUARANTINE, Reg.NET_EVT, Fd.STM_EVT_QUARANTINE, Reg.STM_EVT]
  · simp [hz]
  · simp (disch := omega) [Fd.QU_STAT_VALID, Fd.QU_STAT_REMAIN, Reg.QU_STAT, Reg.QU_ADDR, Reg.QU_VIOL, Reg.NET_CNT_QUAR,
      Fd.NET_EVT_QUARANTINE, Reg.NET_EVT, Fd.STM_EVT_QUARANTINE, Reg.STM_EVT]
  · simp (disch := omega) [State.on, Fd.NET_EVT_QUARANTINE, Reg.NET_EVT, Fd.STM_EVT_QUARANTINE, Reg.STM_EVT]
  · simp (disch := omega) [State.on, Fd.STM_EVT_QUARANTINE, Reg.STM_EVT]

/-- An answer to a violation touches neither words nor quarantines. -/
theorem State.answerViolation_keeps (s : State) (q : Plain) (session : Word) (cmd code : Nat) :
    Changes [.zh, .out] [] s (s.answerViolation q session cmd code) ∧ (s.answerViolation q session cmd code).zh.quarEnd = s.zh.quarEnd := by
  unfold State.answerViolation
  dsimp only
  split
  · exact ⟨(Changes.refl _ _ s).setSource.setSess.send, rfl⟩
  · exact ⟨(Changes.refl _ _ s).setSource.sendPlain, rfl⟩

theorem State.protoError_changes (s : State) (q : Plain) (session : Word) (cmd code : Nat) :
    Changes [.zh, .out] [] (s.countViolation q.src) (s.protoError q session cmd code) ∧
      (s.protoError q session cmd code).zh.quarEnd = (s.countViolation q.src).zh.quarEnd := by
  rw [State.protoError_eq]
  split
  · exact State.answerViolation_keeps _ q session cmd code
  · exact ⟨Changes.refl _ _ _, rfl⟩

theorem State.quarEntry_congr {a : Nat} (hz : t.zh.quarEnd = s.zh.quarEnd) (ha : ∀ e, t.quarAddr e = s.quarAddr e) :
    t.quarEntry a = s.quarEntry a := by
  unfold State.quarEntry
  simp only [hz, ha]

theorem State.count_quarAddr {a : Nat} (ha : a < Reg.QU_STAT 0) (e : Nat) : (s.count a).quarAddr e = s.quarAddr e := by
  have h (i : Nat) : (s.count a).rd (Reg.QU_ADDR e i) = s.rd (Reg.QU_ADDR e i) := by
    refine State.rd_count_ne _ _ _ ?_
    simp only [Reg.QU_STAT, Reg.QU_ADDR] at ha ⊢
    omega
  simp only [State.quarAddr, h]

theorem State.quarEntry_count {a : Nat} (ha : a < Reg.QU_STAT 0) (x : Nat) : (s.count a).quarEntry x = s.quarEntry x :=
  State.quarEntry_congr (congrArg Zhoide.quarEnd (State.count_zh s a)) (State.count_quarAddr ha)

theorem State.freeQuar_count (a : Nat) : (s.count a).freeQuar = s.freeQuar := by rw [State.freeQuar, State.count_zh]; rfl

/-- The violation that exceeds the limit starts a quarantine, while an entry is free (R441). -/
theorem State.violate_exceeds {a e : Nat} (h1 : (s.source a).second = s.second) (h2 : (s.source a).count = 100)
    (h3 : s.on Fd.NET_CTRL_QUAR_EN = true) (h4 : s.quarEntry a = none) (h5 : s.freeQuar = some e) :
    s.violate a = (s.setSource { s.source a with second := s.second, count := 101 }).startQuarantine e a 101 := by
  have h6 : (s.setSource { s.source a with second := s.second, count := 101 }).freeQuar = some e := h5
  unfold State.violate
  dsimp only
  rw [if_pos h1, h2, if_pos ⟨by decide, h3, Option.isNone_iff_eq_none.mpr h4⟩, h6]

theorem State.freeQuar_lt {e : Nat} (h : s.freeQuar = some e) : e < 256 := List.mem_range.mp (List.mem_of_find?_eq_some h)

theorem exec_badCrc (q : Plain) (cmd : Byte) (s : State) : exec (.zhoideProtocolViolation q.came ⟨q.tag, q.mbox⟩ (.badCrc cmd)) s =
    .next (s.takePlain q (fun s => s.protoError q 0 cmd.toNat 2)) := rfl

theorem badCrc_quarantines {q : Plain} {cmd : Byte} {e : Nat} (h : s.TakesPlain q) (h1 : (s.source q.src).second = s.second)
    (h2 : (s.source q.src).count = 100) (h3 : s.on Fd.NET_CTRL_QUAR_EN = true) (h4 : s.freeQuar = some e) :
    ∃ t, exec (.zhoideProtocolViolation q.came ⟨q.tag, q.mbox⟩ (.badCrc cmd)) s = .next t ∧ t.on (Fd.QU_STAT_VALID e) = true ∧
      t.quarAddr e = q.src % 2 ^ 128 ∧ Tab.find t.zh.quarEnd e = some (s.clk.now + sTicks 10) ∧
      t.rd Reg.NET_CNT_QUAR = satCount (s.rd Reg.NET_CNT_QUAR) 1 ∧ t.on Fd.NET_EVT_QUARANTINE = true ∧ t.on Fd.STM_EVT_QUARANTINE = true := by
  have hp := q.port.isLt
  have he := State.freeQuar_lt h4
  generalize hc : (s.countRx q.port).count Reg.NET_CNT_PROTO = c
  have hrx : s.countRx q.port = s.count (Reg.PORT_CNT_RX q.port) := rfl
  have hsrc : c.source q.src = s.source q.src := by rw [← hc, hrx, State.source_count, State.source_count]
  have hsec : c.second = s.second := by rw [← hc, hrx, State.second_count, State.second_count]
  have hclk : c.clk = s.clk := by rw [← hc, hrx, State.count_clk, State.count_clk]
  have hen : c.on Fd.NET_CTRL_QUAR_EN = true := by
    rw [← hc]
    simpa (disch := omega) [State.on, State.countRx, Fd.NET_CTRL_QUAR_EN, Reg.NET_CTRL, Reg.NET_CNT_PROTO, Reg.PORT_CNT_RX] using h3
  have hnone : c.quarEntry q.src = none := by
    rw [← hc, State.quarEntry_count (by decide)]
    exact h.quar
  have hfree : c.freeQuar = some e := by rw [← hc, hrx, State.freeQuar_count, State.freeQuar_count, h4]
  have hqcnt : c.rd Reg.NET_CNT_QUAR = s.rd Reg.NET_CNT_QUAR := by
    rw [← hc]
    simp (disch := omega) [State.countRx, Reg.NET_CNT_QUAR, Reg.NET_CNT_PROTO, Reg.PORT_CNT_RX]
  have hcount : (s.countRx q.port).countViolation q.src =
      (c.setSource { c.source q.src with second := c.second, count := 101 }).startQuarantine e q.src 101 := by
    rw [State.countViolation, hc]
    exact State.violate_exceeds (by rw [hsrc, hsec, h1]) (by rw [hsrc, h2]) hen hnone hfree
  obtain ⟨hval, haddr, hend, hcnt, hnet, hstm⟩ :=
    (c.setSource { c.source q.src with second := c.second, count := 101 }).startQuarantine_spec he q.src 101
  obtain ⟨hch, hquar⟩ := (s.countRx q.port).protoError_changes q 0 cmd.toNat 2
  rw [hcount] at hch hquar
  have hev {f : Fld} (hf : eventWord f.addr = false) := hch.fld hf List.not_mem_nil
  refine ⟨_, (exec_badCrc q cmd s).trans (congrArg _ (State.takePlain_taken h _)), ?_, ?_, ?_, ?_, ?_, ?_⟩
  · rw [State.on, hev (eventWord_eq_false _ _)]
    · exact hval
    all_goals
      simp only [Fd.QU_STAT_VALID, Reg.QU_STAT]
      omega
  · rw [← haddr]
    have hrd (i : Nat) (hi : i < 4) := hch.rd (a := Reg.QU_ADDR e i)
      (eventWord_eq_false (by simp only [Reg.QU_ADDR]; omega) (by simp only [Reg.QU_ADDR]; omega)) List.not_mem_nil
    simp only [State.quarAddr, hrd 0 (by decide), hrd 1 (by decide), hrd 2 (by decide), hrd 3 (by decide)]
  · rw [hquar, hend, ← hclk]
    rfl
  · rw [hch.rd (by decide) List.not_mem_nil, hcnt, ← hqcnt]
    rfl
  · rw [State.on, hev (by decide)]
    exact hnet
  · rw [State.on, hev (by decide)]
    exact hstm

/-! ### The answers to frames that fail -/

/-- A taken frame with a violation within the limit, answered to no open session. -/
theorem protoError_answers {q : Plain} {session : Word} {cmd code : Nat} {i : Instr} (h : s.TakesPlain q)
    (hi : exec i s = .next (s.takePlain q (fun s => s.protoError q session cmd code)))
    (hv : (s.source q.src).second ≠ s.second ∨ (s.source q.src).count < 100) (ha : s.mayAnswerError q.src = true)
    (hs : s.slotOf session = none) : ∃ t, exec i s = .next t ∧ t.rd Reg.NET_CNT_PROTO = satCount (s.rd Reg.NET_CNT_PROTO) 1 ∧
      ((t.source q.src).count = if (s.source q.src).second = s.second then (s.source q.src).count + 1 else 1) ∧
      (t.source q.src).lastErr = some s.clk.now ∧ PlainAnswered t q cmd 0x50 code [] ∧
      Changes [.zh, .out] [Reg.PORT_CNT_RX q.port, Reg.NET_CNT_PROTO] s t := by
  have hp := q.port.isLt
  have hslot : (s.countRx q.port).slotOf session = none := by
    refine Eq.trans (State.slotOf_count (fun k hk => ?_)) hs
    simp only [Reg.SS_STAT, Reg.SS_ID, Reg.PORT_CNT_RX]
    omega
  obtain ⟨hcnt, hsrc, herr, hans, hch⟩ := State.protoError_within (s := s.countRx q.port) (cmd := cmd) (code := code) hv ha hslot
  refine ⟨_, hi.trans (congrArg _ (State.takePlain_taken h _)), ?_, hsrc, herr, hans, ((Changes.refl _ _ s).countRx).step hch⟩
  rw [hcnt]
  refine congrArg (satCount · 1) (State.rd_count_ne _ _ _ ?_)
  simp only [Reg.NET_CNT_PROTO, Reg.PORT_CNT_RX]
  omega

/-- A taken frame that is counted and no more. -/
theorem countOnly_counts {p : Fin 16} {i : Instr} {a : Nat} (hi : exec i s = .next ((s.countRx p).count a)) (ha : ∀ p : Fin 16, a ≠ Reg.PORT_CNT_RX p) :
    ∃ t, exec i s = .next t ∧ t.rd a = satCount (s.rd a) 1 ∧ Changes [] [Reg.PORT_CNT_RX p, a] s t := by
  refine ⟨_, hi, ?_, (Changes.refl _ _ s).countRx.count⟩
  rw [State.rd_count_self]
  exact congrArg (satCount · 1) (State.rd_count_ne _ _ _ (ha p))

theorem gcmFail_spec (s : State) (p : Fin 16) :
    let t := (((s.countRx p).count Reg.NET_CNT_UNPARSE).count Reg.NET_CNT_AUTH).raise Fd.NET_EVT_AUTH_FAIL noObj []
    t.rd Reg.NET_CNT_UNPARSE = satCount (s.rd Reg.NET_CNT_UNPARSE) 1 ∧ t.rd Reg.NET_CNT_AUTH = satCount (s.rd Reg.NET_CNT_AUTH) 1 ∧
      t.on Fd.NET_EVT_AUTH_FAIL = true ∧
      Changes [.firn] [Reg.PORT_CNT_RX p, Reg.NET_CNT_UNPARSE, Reg.NET_CNT_AUTH, Reg.NET_EVT, Reg.NET_EVT_SEQ] s t := by
  have hp := p.isLt
  refine ⟨?_, ?_, ?_, (Changes.refl _ _ s).countRx.count.count.raise⟩
  all_goals simp (disch := omega) [State.on, State.countRx, Fd.NET_EVT_AUTH_FAIL, Reg.NET_EVT, Reg.NET_CNT_UNPARSE, Reg.NET_CNT_AUTH, Reg.PORT_CNT_RX]

theorem craoriViolation_counts {q : Plain} (h : s.TakesCra ⟨q.src, q.port, q.row⟩)
    (hv : (s.source q.src).second ≠ s.second ∨ (s.source q.src).count < 100) :
    ∃ t, exec (.zhoideProtocolViolation q.came ⟨q.tag, q.mbox⟩ .craoriViolation) s = .next t ∧
      t.rd Reg.NET_CNT_PROTO = satCount (s.rd Reg.NET_CNT_PROTO) 1 ∧
      ((t.source q.src).count = if (s.source q.src).second = s.second then (s.source q.src).count + 1 else 1) ∧
      Changes [.zh] [Reg.PORT_CNT_RX q.port, Reg.NET_CNT_PROTO] s t := by
  have hx : exec (.zhoideProtocolViolation q.came ⟨q.tag, q.mbox⟩ .craoriViolation) s =
      .next (s.takeCra ⟨q.src, q.port, q.row⟩ (fun s => (s.count Reg.NET_CNT_PROTO).violate q.src)) := rfl
  generalize hc : (s.countRx q.port).count Reg.NET_CNT_PROTO = c
  have hrx : s.countRx q.port = s.count (Reg.PORT_CNT_RX q.port) := rfl
  have hsrc : c.source q.src = s.source q.src := by rw [← hc, hrx, State.source_count, State.source_count]
  have hsec : c.second = s.second := by rw [← hc, hrx, State.second_count, State.second_count]
  have hviol : c.violate q.src = c.setSource (c.countedSource q.src) := State.violate_within (by rwa [hsrc, hsec])
  have hcount : (c.countedSource q.src).count = if (s.source q.src).second = s.second then (s.source q.src).count + 1 else 1 := by
    rw [← hsrc, ← hsec]
    rfl
  have hch : Changes [.zh] [Reg.PORT_CNT_RX q.port, Reg.NET_CNT_PROTO] s c := hc ▸ (Changes.refl _ _ s).countRx.count
  have hcnt : c.rd Reg.NET_CNT_PROTO = satCount (s.rd Reg.NET_CNT_PROTO) 1 := by
    have hp := q.port.isLt
    rw [← hc]
    simp (disch := omega) [State.countRx, Reg.NET_CNT_PROTO, Reg.PORT_CNT_RX]
  refine ⟨c.setSource (c.countedSource q.src), hx.trans (congrArg _ ((State.takeCra_taken h _).trans ?_)), hcnt, ?_, hch.setSource⟩
  · exact (congrArg (State.violate · q.src) hc).trans hviol
  · rw [State.source_setSource (c.countedSource_addr q.src), hcount]

theorem unknownCmd_refused {q : Plain} {r : Req} {cmd : Byte} {k : Nat} (h : s.Reaches r k u) (hk : knownCmd cmd.toNat = false)  :
    ∃ t, exec (.zhoideProtocolViolation q.came ⟨q.tag, q.mbox⟩ (.unknownCmd r cmd)) s = .next t ∧ Refused t r cmd.toNat 0x22 ∧
      Changes [.zh, .out] [Reg.SS_MBOX k, Reg.PORT_CNT_RX r.port] s t := by
  have hx : exec (.zhoideProtocolViolation q.came ⟨q.tag, q.mbox⟩ (.unknownCmd r cmd)) s =
      .next (if knownCmd cmd.toNat then s else s.request (.ping r) r cmd.toNat (judgeUnknown cmd.toNat)) := rfl
  rw [hk, if_neg (by decide)] at hx
  exact ⟨_, hx.trans (congrArg _ (State.request_refused (d := ⟨0x22, 0, 0⟩) h rfl (by decide))),
    State.finish_refused _ _ _ _ _ _ _ (by decide), ((Changes.refl _ _ s).step h.changes).finish⟩

theorem badPayload_refused {q : Plain} {r : Req} {cmd : Byte} {offset : Fin 8192} {k : Nat} (h : s.Reaches r k u)
    (hk : knownCmd cmd.toNat = true) (hm : onLimited cmd.toNat = true ∨ s.mainAbsent = false) :
    ∃ t, exec (.zhoideProtocolViolation q.came ⟨q.tag, q.mbox⟩ (.badPayload r cmd offset)) s = .next t ∧ Refused t r cmd.toNat 0x21 ∧
      Changes [.zh, .out] [Reg.SS_MBOX k, Reg.PORT_CNT_RX r.port] s t := by
  have hx : exec (.zhoideProtocolViolation q.came ⟨q.tag, q.mbox⟩ (.badPayload r cmd offset)) s =
      .next (if knownCmd cmd.toNat then s.request (.ping r) r cmd.toNat (judgePayload cmd.toNat offset) else s) := rfl
  rw [if_pos hk] at hx
  have hj : (judgePayload cmd.toNat offset k u).first r u = some ⟨0x21, 0, offset⟩ := by
    rw [← h.mainAbsent] at hm
    rcases hm with hm | hm <;> simp [Judge.first, judgePayload, hm]
  exact ⟨_, hx.trans (congrArg _ (State.request_refused h hj (by simp))), State.finish_refused _ _ _ _ _ _ _ (by simp),
    ((Changes.refl _ _ s).step h.changes).finish (show recordedStatus 0x21 = false by decide)⟩

theorem netCounts_ne (p : Fin 16) : Reg.NET_CNT_UNPARSE ≠ Reg.PORT_CNT_RX p ∧ Reg.NET_CNT_DUP ≠ Reg.PORT_CNT_RX p ∧
    Reg.NET_CNT_OLD ≠ Reg.PORT_CNT_RX p := by
  simp only [Reg.NET_CNT_UNPARSE, Reg.NET_CNT_DUP, Reg.NET_CNT_OLD, Reg.PORT_CNT_RX]
  omega

/-- Settles O14, clause by clause: requests by their answer, sessions by the end of their slot, frames that fail by what they count. -/
theorem sessionCommandsAreAnswered : Obligations.SessionCommandsAreAnswered :=
  ⟨fun _ _ h => hello_answers h, fun _ _ _ hp hq => hello_quarantined hp hq, fun _ _ _ _ h hj => ping_answers h hj,
    fun _ _ _ _ _ h hj => subscribe_answers h hj, fun _ _ _ _ h hj => sessClose_ends h hj, fun _ _ h1 h2 => sessionTimeout_ends h1 h2,
    fun _ _ h1 h2 => sessionOpenTimeout_frees h1 h2,
    fun _ _ _ _ h hv ha hs => protoError_answers h rfl hv ha hs, fun _ _ _ h hv ha hs => protoError_answers h rfl hv ha hs,
    fun _ _ _ _ h hv ha hs => protoError_answers h rfl hv ha hs, fun _ _ _ _ h hv ha hs => protoError_answers h rfl hv ha hs,
    fun _ _ _ h hv ha hs => protoError_answers h rfl hv ha hs, fun _ _ _ _ h h1 h2 h3 h4 => badCrc_quarantines h h1 h2 h3 h4,
    fun _ _ h => countOnly_counts (congrArg Host.Outcome.next (State.takePlain_taken h _)) (fun p => (netCounts_ne p).1),
    fun q s h => ⟨_, congrArg Host.Outcome.next (State.takePlain_taken h _), gcmFail_spec s q.port⟩,
    fun _ _ h => countOnly_counts (congrArg Host.Outcome.next (State.takePlain_taken h _)) (fun p => (netCounts_ne p).2.1),
    fun _ _ h => countOnly_counts (congrArg Host.Outcome.next (State.takePlain_taken h _)) (fun p => (netCounts_ne p).2.2),
    fun _ _ h => countOnly_counts (congrArg Host.Outcome.next (State.takeCra_taken h _)) (fun p => (netCounts_ne p).1),
    fun q s h => ⟨_, congrArg Host.Outcome.next (State.takeCra_taken h _), (gcmFail_spec s q.port).2⟩,
    fun _ _ h hv => craoriViolation_counts h hv, fun _ _ _ _ _ _ h hk _ => unknownCmd_refused h hk,
    fun _ _ _ _ _ _ _ h hk hm => badPayload_refused h hk hm⟩

end Sys2Proof.Machine
end

section
-- In order: the one text holds more declarations than asynchronous elaboration has threads for.
set_option Elab.async false

/-! PROOFS. Ownership of domains (R414 to R417): grants, renewals, releases, handovers, lapses and expiries. -/

namespace Sys2Proof.Machine

variable {ps : List Part} {ws : List Nat} {s t u : State}

/-! ### A domain is given to a slot -/

/-- The offer of a domain is dropped. -/
def State.dropOffer (s : State) (d : Nat) : State := { s with zh := { s.zh with offers := s.zh.offers.del d } }

@[simp] theorem State.dropOffer_rd (s : State) (d a : Nat) : (s.dropOffer d).rd a = s.rd a := rfl
@[simp] theorem State.dropOffer_fld (s : State) (d : Nat) (f : Fld) : (s.dropOffer d).fld f = s.fld f := rfl
@[simp] theorem State.dropOffer_clk (s : State) (d : Nat) : (s.dropOffer d).clk = s.clk := rfl
@[simp] theorem State.dropOffer_out (s : State) (d : Nat) : (s.dropOffer d).out = s.out := rfl
@[simp] theorem State.dropOffer_zh (s : State) (d : Nat) : (s.dropOffer d).zh = { s.zh with offers := s.zh.offers.del d } := rfl
@[simp] theorem State.renewLease_rd (s : State) (d a : Nat) : (s.renewLease d).rd a = s.rd a := rfl
@[simp] theorem State.renewLease_fld (s : State) (d : Nat) (f : Fld) : (s.renewLease d).fld f = s.fld f := rfl
@[simp] theorem State.renewLease_out (s : State) (d : Nat) : (s.renewLease d).out = s.out := rfl
@[simp] theorem State.renewLease_zh (s : State) (d : Nat) :
    (s.renewLease d).zh = { s.zh with lease := s.zh.lease.put d (s.clk.now + sTicks 2) } := rfl

theorem Changes.dropOffer (h : Changes ps ws s t) {d : Nat} (hp : Part.zh ∈ ps := by repeat constructor) :
    Changes ps ws s (t.dropOffer d) := h.upd_zh hp

/-- The lease and the offer of a domain are dropped. -/
def State.dropLease (s : State) (d : Nat) : State := { s with zh := { s.zh with lease := s.zh.lease.del d, offers := s.zh.offers.del d } }

@[simp] theorem State.dropLease_rd (s : State) (d a : Nat) : (s.dropLease d).rd a = s.rd a := (rfl)
@[simp] theorem State.dropLease_fld (s : State) (d : Nat) (f : Fld) : (s.dropLease d).fld f = s.fld f := (rfl)
@[simp] theorem State.dropLease_out (s : State) (d : Nat) : (s.dropLease d).out = s.out := (rfl)
@[simp] theorem State.dropLease_zh (s : State) (d : Nat) :
    (s.dropLease d).zh = { s.zh with lease := s.zh.lease.del d, offers := s.zh.offers.del d } := (rfl)

theorem Changes.dropLease (h : Changes ps ws s t) {d : Nat} (hp : Part.zh ∈ ps := by repeat constructor) :
    Changes ps ws s (t.dropLease d) := h.upd_zh hp

/-- The table entry of a domain that goes to a slot. -/
def State.entitle (s : State) (k d : Nat) : State :=
  (((s.set (Fd.OW_STAT_HELD d) 1).set (Fd.OW_STAT_SLOT d) k).set (Fd.OW_STAT_MASTER d) (s.fld (Fd.SS_STAT_MASTER k))).setBit
    (Fd.SS_STAT_DOMAINS k) d true

/-- A domain goes to a slot: the table entry, its lease and its event. -/
def State.give (s : State) (k d : Nat) : State :=
  ((((s.entitle k d).dropOffer d).renewLease d).wrap (Fd.OW_SEQ_N d)).raise Fd.NET_EVT_OWNER noObj
    [d, ((((s.entitle k d).dropOffer d)).fld (Fd.SS_STAT_MASTER k))]

theorem State.grant_free {d : Nat} (k : Nat) (h : s.holder d = none) : s.grant k d = s.give k d := by
  unfold State.grant
  rw [h]
  rfl

theorem State.grant_held {d j : Nat} (k : Nat) (h : s.holder d = some j) : s.grant k d = (s.setBit (Fd.SS_STAT_DOMAINS j) d false).give k d := by
  unfold State.grant
  rw [h]
  rfl

/-- The words of a domain that a slot has been given, and what the gift changes. -/
theorem State.give_spec (s : State) {k d : Nat} (hk : k < 8) (hd : d < 4) :
    let t := s.give k d
    t.on (Fd.OW_STAT_HELD d) = true ∧ t.fld (Fd.OW_STAT_SLOT d) = k ∧ t.fld (Fd.OW_STAT_MASTER d) = s.fld (Fd.SS_STAT_MASTER k) ∧
      t.fld (Fd.SS_STAT_STATE k) = s.fld (Fd.SS_STAT_STATE k) ∧
      Tab.at 0 t.zh.lease d = s.clk.now + sTicks 2 ∧ t.fld (Fd.OW_SEQ_N d) = (s.fld (Fd.OW_SEQ_N d) + 1) % 65536 ∧ t.on Fd.NET_EVT_OWNER = true ∧
      t.zh.sess = s.zh.sess ∧ t.out = s.out ∧
      Changes [.zh, .firn] [Reg.OW_STAT d, Reg.OW_SEQ d, Reg.SS_STAT k, Reg.NET_EVT, Reg.NET_EVT_SEQ] s t := by
  have hm : s.fld ⟨0x9030000 + 0x20 * k, 16, 16⟩ < 65536 := s.fld_lt _
  refine ⟨?_, ?_, ?_, ?_, ?_, ?_, ?_, ?_, ?_, (Changes.refl _ _ s).set.set.set.setBit.dropOffer.renewLease.wrap.raise⟩
  all_goals
    simp -implicitDefEqProofs (disch := omega) [State.give, State.entitle, State.on, Fd.OW_STAT_HELD, Fd.OW_STAT_SLOT, Fd.OW_STAT_MASTER,
      Reg.OW_STAT, Fd.SS_STAT_DOMAINS, Fd.SS_STAT_STATE, Fd.SS_STAT_MASTER, Reg.SS_STAT, Fd.OW_SEQ_N, Reg.OW_SEQ, Fd.NET_EVT_OWNER, Reg.NET_EVT,
      Nat.mod_eq_of_lt hk, Nat.mod_eq_of_lt hm]

/-- A slot that has been given a domain holds it. -/
theorem State.holds_of {k d : Nat} (ho : t.sessOpen k = true) (h1 : t.on (Fd.OW_STAT_HELD d) = true) (h2 : t.fld (Fd.OW_STAT_SLOT d) = k) :
    t.holds k d = true := by
  simp [State.holds, ho, h1, h2]

theorem State.holder_of {k d : Nat} (h1 : t.on (Fd.OW_STAT_HELD d) = true) (h2 : t.fld (Fd.OW_STAT_SLOT d) = k) : t.holder d = some k := by
  simp [State.holder, h1, h2]

theorem State.holder_lt {d j : Nat} (h : s.holder d = some j) : j < 8 := by
  unfold State.holder at h
  split at h
  · obtain rfl := Option.some.inj h
    exact s.fld_lt _
  · cases h

theorem State.holder_of_holds {k d : Nat} (h : s.holds k d = true) : s.holder d = some k := by
  simp only [State.holds, Bool.and_eq_true, beq_iff_eq] at h
  obtain ⟨⟨-, hheld⟩, hslot⟩ := h
  exact State.holder_of hheld hslot

/-! ### Checks of the commands -/

theorem judgeClaim_first {domain flags : Byte} {k : Nat} {q : Req} (h : (judgeClaim domain flags k u).first q u = none) : domain.toNat < 4 := by
  by_contra hd
  simp [judgeClaim, Judge.first, show 4 ≤ domain.toNat by omega] at h

theorem judgeHolder_first {code : Nat} {domain : Byte} {run : Nat → State → State × Reply} {k : Nat} {q : Req}
    (h : (judgeHolder code domain run k u).first q u = none) : domain.toNat < 4 ∧ u.holder domain.toNat = some k := by
  have hd : domain.toNat < 4 := by
    by_contra hd
    simp [judgeHolder, Judge.first, show 4 ≤ domain.toNat by omega] at h
  refine ⟨hd, State.holder_of_holds ?_⟩
  by_contra hh
  simp [judgeHolder, Judge.first, show ¬ 4 ≤ domain.toNat by omega, hh] at h
  split at h <;> cases h

/-! ### What a request's arrival leaves of domains -/

theorem State.Reaches.ownerFld {q : Req} {k : Nat} (h : s.Reaches q k u) {f : Fld} (hf : f.addr < 0x9000000 ∨ f.addr % 0x20 = 0) : u.fld f = s.fld f := by
  have hp := q.port.isLt
  refine h.fld f ?_
  simp only [Reg.PORT_CNT_RX]
  omega

theorem State.Reaches.holder {q : Req} {k : Nat} (h : s.Reaches q k u) {d : Nat} (_hd : d < 4) : u.holder d = s.holder d := by
  refine State.holder_congr (h.rd _ ?_)
  simp only [Reg.OW_STAT, Reg.PORT_CNT_RX]
  omega

/-! ### OWN_CLAIM -/

theorem exec_ownClaim (q : Req) (domain flags : Byte) (s : State) :
    exec (.ownClaim q domain flags) s = .next (s.request (.ownClaim q domain flags) q 0x10 (judgeClaim domain flags)) := rfl

theorem claimRun_free {k d : Nat} (take hand : Bool) (h : s.holder d = none) : claimRun k d take hand s = (s.give k d, .now 0 0 [2000]) := by
  unfold claimRun
  rw [h, State.grant_free k h]
  rfl

theorem claimRun_takeover {k d j : Nat} (h : s.holder d = some j) (hj : j ≠ k) (hp : s.prio j d < s.prio k d) : claimRun k d true false s =
    (((s.setBit (Fd.SS_STAT_DOMAINS j) d false).give k d).notice j 3 [d, 1, s.fld (Fd.SS_STAT_MASTER k)], .now 0 0 [2000]) := by
  unfold claimRun
  rw [h]
  dsimp only
  rw [if_neg hj, if_neg (by simp), if_pos (by simp [hp]), State.grant_held k h]
  rfl

theorem ownClaim_free {q : Req} {domain flags : Byte} {k : Nat} (h : s.Reaches q k u) (hj : (judgeClaim domain flags k u).first q u = none)
    (hd : s.holder domain.toNat = none) : ∃ t, exec (.ownClaim q domain flags) s = .next t ∧ AnsweredOk t q 0x10 [2000] ∧
      t.holds k domain.toNat = true ∧ t.fld (Fd.OW_STAT_MASTER domain.toNat) = s.fld (Fd.SS_STAT_MASTER k) ∧
      Tab.at 0 t.zh.lease domain.toNat = s.clk.now + sTicks 2 ∧
      t.fld (Fd.OW_SEQ_N domain.toNat) = (s.fld (Fd.OW_SEQ_N domain.toNat) + 1) % 65536 ∧ t.on Fd.NET_EVT_OWNER = true ∧
      Changes [.zh, .firn, .out] [Reg.OW_STAT domain.toNat, Reg.OW_SEQ domain.toNat, Reg.SS_STAT k, Reg.SS_MBOX k, Reg.NET_EVT, Reg.NET_EVT_SEQ,
        Reg.PORT_CNT_RX q.port] s t := by
  have hk := h.slot_lt
  have hd4 := judgeClaim_first hj
  obtain ⟨hheld, hslot, hmaster, hstate, hlease, hseq, hev, -, -, hch⟩ := u.give_spec hk hd4
  have hfin {f : Fld} (hf : f.addr ≠ Reg.SS_MBOX k) := (u.give k domain.toNat).finish_fld k q 0x10 0 0 [2000] (st := 0) (by decide) f hf
  have hne : Reg.OW_STAT domain.toNat ≠ Reg.SS_MBOX k ∧ Reg.OW_SEQ domain.toNat ≠ Reg.SS_MBOX k ∧ Reg.NET_EVT ≠ Reg.SS_MBOX k ∧
      Reg.SS_STAT k ≠ Reg.SS_MBOX k := by
    simp only [Reg.OW_STAT, Reg.OW_SEQ, Reg.NET_EVT, Reg.SS_STAT, Reg.SS_MBOX]
    omega
  obtain ⟨hstat, hseqw, hevw, hsess⟩ := hne
  have hx : exec (.ownClaim q domain flags) s = .next ((u.give k domain.toNat).finish k q 0x10 0 0 0 [2000]) :=
    (exec_ownClaim q domain flags s).trans (congrArg _ (State.request_ok h hj rfl rfl (claimRun_free _ _ ((h.holder hd4).trans hd))))
  refine ⟨_, hx, State.finish_ok _ _ _ _ _ _, State.holds_of ?_ ?_ ?_, ?_, ?_, ?_, ?_, (((Changes.refl _ _ s).step h.changes).step hch).finish⟩
  · have hopen := h.open
    simp only [State.sessOpen, beq_iff_eq] at hopen ⊢
    rw [hfin hsess, hstate, hopen]
  · rw [State.on, hfin hstat]
    exact hheld
  · rw [hfin hstat, hslot]
  · rw [hfin hstat, hmaster]
    exact h.ownerFld (.inr (by simp only [Fd.SS_STAT_MASTER, Reg.SS_STAT]; omega))
  · rw [State.finish_lease _ _ _ _ _ _ _ (by decide), hlease, h.clk]
  · rw [hfin hseqw, hseq, h.ownerFld (.inl (by simp only [Fd.OW_SEQ_N, Reg.OW_SEQ]; omega))]
  · rw [State.on, hfin hevw]
    exact hev

theorem ownClaim_takeover {q : Req} {domain flags : Byte} {k j : Nat} (h : s.Reaches q k u)
    (hjd : (judgeClaim domain flags k u).first q u = none) (hd : s.holder domain.toNat = some j) (hj : j ≠ k)
    (h0 : bitOf flags.toNat 0 = true) (h1 : bitOf flags.toNat 1 = false) (hp : s.prio j domain.toNat < s.prio k domain.toNat) :
    ∃ t, exec (.ownClaim q domain flags) s = .next t ∧ AnsweredOk t q 0x10 [2000] ∧ t.holds k domain.toNat = true ∧
      t.holder domain.toNat = some k ∧
      Out.notice j 3 ((s.sess j).notices + 1) (s.sess j).txNext [domain.toNat, 1, s.fld (Fd.SS_STAT_MASTER k)] ∈ t.out ∧
      Changes [.zh, .firn, .out] [Reg.OW_STAT domain.toNat, Reg.OW_SEQ domain.toNat, Reg.SS_STAT k, Reg.SS_STAT j, Reg.SS_MBOX k, Reg.NET_EVT,
        Reg.NET_EVT_SEQ, Reg.PORT_CNT_RX q.port] s t := by
  have hk := h.slot_lt
  have hd4 := judgeClaim_first hjd
  have hj8 := State.holder_lt hd
  let v := u.setBit (Fd.SS_STAT_DOMAINS j) domain.toNat false
  have hv : Changes [] [Reg.SS_STAT j] u v := (Changes.refl _ _ u).setBit
  obtain ⟨hheld, hslot, -, hstate, -, -, -, hsess, -, hch⟩ := v.give_spec hk hd4
  let w := (v.give k domain.toNat).notice j 3 [domain.toNat, 1, u.fld (Fd.SS_STAT_MASTER k)]
  have hw : Changes [.zh, .out] [] (v.give k domain.toNat) w := (Changes.refl _ _ _).notice
  have hfin {f : Fld} (hf : f.addr ≠ Reg.SS_MBOX k) : (w.finish k q 0x10 0 0 0 [2000]).fld f = (v.give k domain.toNat).fld f :=
    (w.finish_fld k q 0x10 0 0 [2000] (st := 0) (by decide) f hf).trans (State.notice_fld _ _ _ _ _)
  have hne : Reg.OW_STAT domain.toNat ≠ Reg.SS_MBOX k ∧ Reg.SS_STAT k ≠ Reg.SS_MBOX k ∧ Reg.SS_STAT k ≠ Reg.SS_STAT j := by
    simp only [Reg.OW_STAT, Reg.SS_STAT, Reg.SS_MBOX]
    omega
  obtain ⟨hstat, hst, hkj⟩ := hne
  have hheld' : (w.finish k q 0x10 0 0 0 [2000]).on (Fd.OW_STAT_HELD domain.toNat) = true := by
    rw [State.on, hfin hstat]
    exact hheld
  have hslot' : (w.finish k q 0x10 0 0 0 [2000]).fld (Fd.OW_STAT_SLOT domain.toNat) = k := (hfin hstat).trans hslot
  have hrun : claimRun k domain.toNat (bitOf flags.toNat 0) (bitOf flags.toNat 1) u = (w, .now 0 0 [2000]) := by
    rw [h0, h1]
    exact claimRun_takeover ((h.holder hd4).trans hd) hj (by rwa [h.prio, h.prio])
  have hx : exec (.ownClaim q domain flags) s = .next (w.finish k q 0x10 0 0 0 [2000]) :=
    (exec_ownClaim q domain flags s).trans (congrArg _ (State.request_ok h hjd rfl rfl hrun))
  refine ⟨_, hx, State.finish_ok _ _ _ _ _ _, State.holds_of ?_ hheld' hslot', State.holder_of hheld' hslot', ?_,
    (((((Changes.refl _ _ s).step h.changes).step hv).step hch).step hw).finish⟩
  · have hopen := h.open
    simp only [State.sessOpen, beq_iff_eq] at hopen ⊢
    rw [hfin hst, hstate, ← hopen]
    exact State.fld_set_word _ _ _ _ hkj
  · have hsent : w.out <:+ (w.finish k q 0x10 0 0 0 [2000]).out := (State.finish_keeps (F := 58720264) rfl (Keeps.refl _ w)).sent
    have hrec : (v.give k domain.toNat).sess j = s.sess j := by
      rw [State.sess, hsess]
      exact h.sess_ne hj
    have hmaster : u.fld (Fd.SS_STAT_MASTER k) = s.fld (Fd.SS_STAT_MASTER k) :=
      h.ownerFld (.inr (by simp only [Fd.SS_STAT_MASTER, Reg.SS_STAT]; omega))
    refine hsent.mem ?_
    rw [State.notice_out, hrec, hmaster]
    exact List.mem_cons_self

/-! ### OWN_RENEW and OWN_RELEASE -/

theorem exec_ownRenew (q : Req) (domain : Byte) (s : State) :
    exec (.ownRenew q domain) s = .next (s.request (.ownRenew q domain) q 0x11 (judgeRenew domain)) := rfl

theorem ownRenew_renews {q : Req} {domain : Byte} {k : Nat} (h : s.Reaches q k u) (hj : (judgeRenew domain k u).first q u = none) :
    ∃ t, exec (.ownRenew q domain) s = .next t ∧ AnsweredOk t q 0x11 [2000] ∧ Tab.at 0 t.zh.lease domain.toNat = s.clk.now + sTicks 2 ∧
      Changes [.zh, .out] [Reg.SS_MBOX k, Reg.PORT_CNT_RX q.port] s t := by
  have hx : exec (.ownRenew q domain) s = .next ((u.renewLease domain.toNat).finish k q 0x11 0 0 0 [2000]) :=
    (exec_ownRenew q domain s).trans (congrArg _ (State.request_ok (l := [domain.toNat]) h hj rfl rfl rfl))
  refine ⟨_, hx, State.finish_ok _ _ _ _ _ _, ?_, ((Changes.refl _ _ s).step h.changes).renewLease.finish⟩
  rw [State.finish_lease _ _ _ _ _ _ _ (by decide), ← h.clk]
  exact Tab.at_put_self _ _ _ _

theorem exec_ownRelease (q : Req) (domain : Byte) (s : State) :
    exec (.ownRelease q domain) s = .next (s.request (.ownRelease q domain) q 0x12 (judgeRelease domain)) := rfl

/-- A domain that is released (R416). -/
theorem State.freeDomain_spec {k d : Nat} (hd : d < 4) (h : s.holder d = some k) :
    let t := s.freeDomain d
    t.holder d = none ∧ t.fld (Fd.OW_SEQ_N d) = (s.fld (Fd.OW_SEQ_N d) + 1) % 65536 ∧ Tab.find t.zh.lease d = none ∧
      t.on Fd.NET_EVT_OWNER = true ∧ t.zh.sess = s.zh.sess ∧ t.out = s.out ∧ t.fld Fd.SYS_STATE_STATE = s.fld Fd.SYS_STATE_STATE ∧
      Changes [.zh, .firn] [Reg.OW_STAT d, Reg.OW_SEQ d, Reg.SS_STAT k, Reg.NET_EVT, Reg.NET_EVT_SEQ] s t := by
  have hk := State.holder_lt h
  have hf : s.freeDomain d = ((((s.vacate d).setBit (Fd.SS_STAT_DOMAINS k) d false).dropLease d).wrap (Fd.OW_SEQ_N d)).raise Fd.NET_EVT_OWNER
      noObj [d, 0xFFFFFFFF] := by
    unfold State.freeDomain
    rw [h]
    rfl
  have hch : Changes [.zh, .firn] [Reg.OW_STAT d, Reg.OW_SEQ d, Reg.SS_STAT k, Reg.NET_EVT, Reg.NET_EVT_SEQ] s (s.freeDomain d) := by
    rw [hf]
    exact (Changes.refl _ _ s).set.set.set.setBit.dropLease.wrap.raise
  dsimp only
  refine ⟨State.freeDomain_holder hd h, ?_, ?_, ?_, ?_, ?_, hch.fld (by decide) ?_, hch⟩
  any_goals
    rw [hf]
    simp -implicitDefEqProofs (disch := omega) [State.vacate, State.on, Fd.OW_STAT_HELD, Fd.OW_STAT_SLOT, Fd.OW_STAT_MASTER, Reg.OW_STAT,
      Fd.SS_STAT_DOMAINS, Reg.SS_STAT, Fd.OW_SEQ_N, Reg.OW_SEQ, Fd.NET_EVT_OWNER, Reg.NET_EVT]
  · simp only [Fd.SYS_STATE_STATE, Reg.SYS_STATE, Reg.OW_STAT, Reg.OW_SEQ, Reg.SS_STAT, Reg.NET_EVT, Reg.NET_EVT_SEQ, List.mem_cons,
      List.not_mem_nil, or_false]
    omega

theorem ownRelease_frees {q : Req} {domain : Byte} {k : Nat} (h : s.Reaches q k u) (hj : (judgeRelease domain k u).first q u = none) :
    ∃ t, exec (.ownRelease q domain) s = .next t ∧ AnsweredOk t q 0x12 [] ∧ t.holder domain.toNat = none ∧
      t.fld (Fd.OW_SEQ_N domain.toNat) = (s.fld (Fd.OW_SEQ_N domain.toNat) + 1) % 65536 ∧ Tab.find t.zh.lease domain.toNat = none ∧
      Changes [.zh, .firn, .out] [Reg.OW_STAT domain.toNat, Reg.OW_SEQ domain.toNat, Reg.SS_STAT k, Reg.SS_MBOX k, Reg.NET_EVT, Reg.NET_EVT_SEQ,
        Reg.PORT_CNT_RX q.port] s t := by
  obtain ⟨hd, hheld⟩ := judgeHolder_first hj
  obtain ⟨hfree, hseq, hlease, -, -, -, -, hch⟩ := State.freeDomain_spec (s := u.renewLease domain.toNat) hd hheld
  have hx : exec (.ownRelease q domain) s = .next (((u.renewLease domain.toNat).freeDomain domain.toNat).finish k q 0x12 0 0 0 []) :=
    (exec_ownRelease q domain s).trans (congrArg _ (State.request_ok (l := [domain.toNat]) h hj rfl rfl rfl))
  have hne : Reg.OW_STAT domain.toNat ≠ Reg.SS_MBOX k ∧ Reg.OW_SEQ domain.toNat ≠ Reg.SS_MBOX k := by
    simp only [Reg.OW_STAT, Reg.OW_SEQ, Reg.SS_MBOX]
    omega
  refine ⟨_, hx, State.finish_ok _ _ _ _ _ _, ?_, ?_, ?_, (((Changes.refl _ _ s).step h.changes).renewLease.step hch).finish⟩
  · exact (State.holder_congr (State.finish_rd _ _ _ _ _ _ _ (by decide) _ hne.1)).trans hfree
  · rw [State.finish_fld _ _ _ _ _ _ _ (by decide) _ hne.2, hseq, State.renewLease_fld,
      h.ownerFld (.inl (by simp only [Fd.OW_SEQ_N, Reg.OW_SEQ]; omega))]
  · rw [State.finish_lease _ _ _ _ _ _ _ (by decide), hlease]

/-! ### OWN_HANDOVER, its lapse, and OWN_QUERY -/

theorem exec_ownHandover (q : Req) (domain : Byte) (target : Word) (s : State) : exec (.ownHandover q domain target) s =
    .next (s.request (.ownHandover q domain target) q 0x13 (judgeHandover domain target)) := rfl

/-- A domain is offered to a slot. -/
def State.offer (s : State) (d j : Nat) : State := { s with zh := { s.zh with offers := s.zh.offers.put d ⟨j, s.clk.now⟩ } }

theorem State.Reaches.slotOf {q : Req} {k : Nat} (h : s.Reaches q k u) (id : Word) : u.slotOf id = s.slotOf id := by
  refine State.slotOf_congr (fun j hj => ⟨h.rd _ ?_, h.rd _ ?_⟩)
  all_goals
    simp only [Reg.SS_STAT, Reg.SS_ID, Reg.PORT_CNT_RX]
    omega

theorem judgeHandover_run {domain : Byte} {target : Word} {k j : Nat} {t : State} (hs : t.slotOf target = some j)
    (hr : t.hasRole j (domainRole domain.toNat) = true) :
    (judgeHandover domain target k u).run 0 t = (t.offer domain.toNat j, .now 0 0 []) := by
  unfold judgeHandover judgeHolder
  dsimp only
  rw [hs]
  dsimp only
  rw [if_pos hr]
  rfl

theorem State.offer_offers (s : State) (d j : Nat) : Tab.find (s.offer d j).zh.offers d = some ⟨j, s.clk.now⟩ := Tab.find_put_self _ _ _

theorem ownHandover_offers {q : Req} {domain : Byte} {target : Word} {k j : Nat} (h : s.Reaches q k u)
    (hjd : (judgeHandover domain target k u).first q u = none) (hs : s.slotOf target = some j) (hr : s.hasRole j (domainRole domain.toNat) = true) :
    ∃ t, exec (.ownHandover q domain target) s = .next t ∧ AnsweredOk t q 0x13 [] ∧ Tab.find t.zh.offers domain.toNat = some ⟨j, s.clk.now⟩ ∧
      t.holder domain.toNat = s.holder domain.toNat ∧ Changes [.zh, .out] [Reg.SS_MBOX k, Reg.PORT_CNT_RX q.port] s t := by
  obtain ⟨hd, -⟩ := judgeHolder_first hjd
  let v := u.renewLease domain.toNat
  have hrun : (judgeHandover domain target k u).run 0 v = (v.offer domain.toNat j, .now 0 0 []) :=
    judgeHandover_run ((h.slotOf target).trans hs) ((h.hasRole j _).trans hr)
  have hx : exec (.ownHandover q domain target) s = .next ((v.offer domain.toNat j).finish k q 0x13 0 0 0 []) :=
    (exec_ownHandover q domain target s).trans (congrArg _ (State.request_ok (l := [domain.toNat]) h hjd rfl rfl hrun))
  have hne : Reg.OW_STAT domain.toNat ≠ Reg.SS_MBOX k := by
    simp only [Reg.OW_STAT, Reg.SS_MBOX]
    omega
  refine ⟨_, hx, State.finish_ok _ _ _ _ _ _, ?_, ?_, ((Changes.refl _ _ s).step h.changes).renewLease.upd_zh.finish⟩
  · rw [State.finish_offers _ _ _ _ _ _ _ (by decide), State.offer_offers, ← h.clk]
    rfl
  · exact (State.holder_congr ((State.finish_rd _ _ _ _ _ _ _ (by decide) _ hne).trans rfl)).trans (h.holder hd)

theorem handoverOfferLapse_drops {d : Fin 4} {o : Offer} (h : Tab.find s.zh.offers d = some o) (ho : o.at_ + sTicks 1 ≤ s.clk.now) :
    ∃ t, exec (.handoverOfferLapse d) s = .next t ∧ Tab.find t.zh.offers d = none ∧ Only [.zh] s t := by
  have hx : exec (.handoverOfferLapse d) s = .next (s.dropOffer d) := by
    show execHandoverOfferLapse d s = _
    unfold execHandoverOfferLapse State.lapseOffer
    rw [h]
    dsimp only
    rw [if_pos ho]
    rfl
  exact ⟨_, hx, Tab.find_del_self _ _, (Keeps.upd_zh rfl (Keeps.refl 8 s)).only _ (fun p => by cases p <;> decide)⟩

theorem exec_ownQuery (q : Req) (s : State) : exec (.ownQuery q) s = .next (s.request (.ownQuery q) q 0x14 judgeQuery) := rfl

/-- The fields that OWN_QUERY answers (R421). -/
def State.ownersBody (s : State) : List Nat :=
  (List.range 4).flatMap (fun d => [s.fld (Fd.OW_STAT_HELD d), s.fld (Fd.OW_STAT_SLOT d), s.fld (Fd.OW_STAT_MASTER d), s.leaseMs d])

theorem State.Reaches.ownersBody {q : Req} {k : Nat} (h : s.Reaches q k u) : u.ownersBody = s.ownersBody := by
  refine List.flatMap_congr (fun d hd => ?_)
  have hd := List.mem_range.mp hd
  have hw {f : Fld} (hf : f.addr = Reg.OW_STAT d) : u.fld f = s.fld f := h.ownerFld (.inl (by simp only [hf, Reg.OW_STAT]; omega))
  rw [State.leaseMs, State.leaseMs, State.on, State.on, hw rfl, hw rfl, hw rfl, h.lease, h.clk]

theorem ownQuery_answers {q : Req} {k : Nat} (h : s.Reaches q k u) (hj : (judgeQuery k u).first q u = none) :
    ∃ t, exec (.ownQuery q) s = .next t ∧ AnsweredOk t q 0x14 s.ownersBody ∧ Changes [.zh, .out] [Reg.SS_MBOX k, Reg.PORT_CNT_RX q.port] s t := by
  have hx : exec (.ownQuery q) s = .next (u.finish k q 0x14 0 0 0 u.ownersBody) :=
    (exec_ownQuery q s).trans (congrArg _ (State.request_ok (l := []) h hj rfl rfl rfl))
  refine ⟨_, hx, ?_, ((Changes.refl _ _ s).step h.changes).finish⟩
  rw [← h.ownersBody]
  exact State.finish_ok _ _ _ _ _ _

/-! ### OWNER_LEASE_EXPIRY -/

/-- A domain that expires is released, and its holder told (R416). -/
def State.releaseTold (s : State) (d k : Nat) : State := (s.freeDomain d).notice k 3 [d, 0, 0]

theorem exec_ownerLeaseExpiry {d : Fin 4} {k : Nat} (h : s.holder d = some k) (hl : Tab.at 0 s.zh.lease d ≤ s.clk.now) :
    exec (.ownerLeaseExpiry d) s = .next (if d.val = domControl ∧ (s.releaseTold d k).opState = 6
      then (s.releaseTold d k).enter (s.releaseTold d k).leaveTarget 0 else s.releaseTold d k) := by
  show execOwnerLeaseExpiry d s = _
  unfold execOwnerLeaseExpiry State.expireLease
  rw [if_pos hl]
  unfold State.expireDomain
  rw [h]
  rfl

/-- What a release with its notice leaves. -/
theorem State.releaseTold_spec {d k : Nat} (hd : d < 4) (h : s.holder d = some k) :
    let t := s.releaseTold d k
    t.holder d = none ∧ t.out = .notice k 3 ((s.sess k).notices + 1) (s.sess k).txNext [d, 0, 0] :: s.out ∧ t.on Fd.NET_EVT_OWNER = true ∧
      t.opState = s.opState ∧ Changes [.zh, .firn, .out] [Reg.OW_STAT d, Reg.OW_SEQ d, Reg.SS_STAT k, Reg.NET_EVT, Reg.NET_EVT_SEQ] s t := by
  obtain ⟨hfree, -, -, hev, hsess, hout, hst, hch⟩ := State.freeDomain_spec hd h
  have hrec : (s.freeDomain d).sess k = s.sess k := by rw [State.sess, State.sess, hsess]
  refine ⟨?_, ?_, ?_, ?_, ((Changes.refl _ _ s).step hch).notice⟩
  · exact (State.holder_congr (State.notice_rd _ _ _ _ _)).trans hfree
  · rw [State.releaseTold, State.notice_out, hrec, hout]
  · rw [State.releaseTold, State.on, State.notice_fld]
    exact hev
  · rw [State.opState, State.releaseTold, State.notice_fld, hst, State.opState]

theorem ownerLeaseExpiry_releases {d : Fin 4} {k : Nat} (h : s.holder d = some k) (hl : Tab.at 0 s.zh.lease d ≤ s.clk.now)
    (hm : d.val ≠ 0 ∨ s.opState ≠ 6) : ∃ t, exec (.ownerLeaseExpiry d) s = .next t ∧ t.holder d = none ∧
      t.out = .notice k 3 ((s.sess k).notices + 1) (s.sess k).txNext [d.val, 0, 0] :: s.out ∧ t.on Fd.NET_EVT_OWNER = true ∧
      Changes [.zh, .firn, .out] [Reg.OW_STAT d, Reg.OW_SEQ d, Reg.SS_STAT k, Reg.NET_EVT, Reg.NET_EVT_SEQ] s t := by
  obtain ⟨hfree, hout, hev, hst, hch⟩ := State.releaseTold_spec d.isLt h
  have hx := exec_ownerLeaseExpiry h hl
  rw [hst, if_neg (by simpa [domControl, ← imp_iff_not_or] using hm)] at hx
  exact ⟨_, hx, hfree, hout, hev, hch⟩

/-- A change of the operating state (R46). -/
theorem State.enter_spec {code : Nat} (cause : Nat) (hc : code < 16) (h : s.opState ≠ code) :
    (s.enter code cause).opState = code ∧ (s.enter code cause).fld Fd.SYS_STATE_RETURN = 15 := by
  unfold State.enter
  dsimp only
  rw [if_neg h]
  generalize (if code = 4 ∨ code = 5 then s.set Fd.PRT_CTRL_ISO_AUTO 1 else s) = t
  constructor
  all_goals
    simp only [State.opState]
    rw [State.announce_fld _ _ _ _ (by decide)]
    simp (disch := omega) [Fd.SYS_STATE_STATE, Fd.SYS_STATE_RETURN, Nat.mod_eq_of_lt hc]

theorem State.leaveTarget_ne (s : State) : s.leaveTarget = 3 ∨ s.leaveTarget = 4 ∨ s.leaveTarget = 5 := by
  unfold State.leaveTarget
  split
  · simp
  · split <;> simp

/-- The target of an exit from MANUAL by the words of the state that it is taken in. -/
theorem State.leaveTarget_congr (h1 : t.fld Fd.SYS_STATE_MAIN_ABSENT = s.fld Fd.SYS_STATE_MAIN_ABSENT)
    (h2 : t.fld Fd.SYS_CREC_STAT_VALID = s.fld Fd.SYS_CREC_STAT_VALID) : t.leaveTarget = s.leaveTarget := by
  have hm : t.mainAbsent = s.mainAbsent := by rw [State.mainAbsent, State.mainAbsent, State.on, State.on, h1]
  have hr : t.recordValid = s.recordValid := by rw [State.recordValid, State.recordValid, State.on, State.on, h2]
  rw [State.leaveTarget, State.leaveTarget, hm, hr]

theorem ownerLeaseExpiry_endsManual {k : Nat} (h : s.holder 0 = some k) (hl : Tab.at 0 s.zh.lease 0 ≤ s.clk.now) (hm : s.opState = 6) :
    ∃ t, exec (.ownerLeaseExpiry 0) s = .next t ∧ t.holder 0 = none ∧ t.opState = s.leaveTarget ∧ t.fld Fd.SYS_STATE_RETURN = 15 := by
  have hk := State.holder_lt h
  obtain ⟨hfree, -, -, hst, hch⟩ := State.releaseTold_spec (d := 0) (by decide) h
  have hx := exec_ownerLeaseExpiry (d := 0) h hl
  have hkeep {f : Fld} (hf : f.addr < 0x40) (he : eventWord f.addr = false) : (s.releaseTold 0 k).fld f = s.fld f := by
    refine hch.fld he ?_
    simp only [Reg.OW_STAT, Reg.OW_SEQ, Reg.SS_STAT, Reg.NET_EVT, Reg.NET_EVT_SEQ, List.mem_cons, List.not_mem_nil, or_false]
    omega
  have htarget : (s.releaseTold 0 k).leaveTarget = s.leaveTarget :=
    State.leaveTarget_congr (hkeep (by decide) (by decide)) (hkeep (by decide) (by decide))
  rw [Fin.val_zero, if_pos ⟨rfl, hst.trans hm⟩, htarget] at hx
  have hne := s.leaveTarget_ne
  obtain ⟨hop, hret⟩ := State.enter_spec (s := s.releaseTold 0 k) (code := s.leaveTarget) 0 (by omega) (by rw [hst, hm]; omega)
  refine ⟨_, hx, ?_, hop, hret⟩
  exact (State.holder_congr (State.enter_rd _ _ _ _ (by decide) (by decide) (by decide))).trans hfree

/-- Settles O15, clause by clause: the decision of each request, and the table entry, the lease and the notice that it leaves. -/
theorem ownershipPassesByCommand : Obligations.OwnershipPassesByCommand :=
  ⟨fun _ _ _ _ _ _ h hj hd => ownClaim_free h hj hd, fun _ _ _ _ _ _ _ h hj hd hne h0 h1 hp => ownClaim_takeover h hj hd hne h0 h1 hp,
    fun _ _ _ _ _ h hj => ownRenew_renews h hj, fun _ _ _ _ _ h hj => ownRelease_frees h hj,
    fun _ _ _ _ _ _ _ h hj hs hr => ownHandover_offers h hj hs hr, fun _ _ _ h ho => handoverOfferLapse_drops h ho,
    fun _ _ _ _ h hj => ownQuery_answers h hj, fun _ _ _ h hl hm => ownerLeaseExpiry_releases h hl hm,
    fun _ _ h hl hm => ownerLeaseExpiry_endsManual h hl hm⟩

end Sys2Proof.Machine
end

section
-- In order: the one text holds more declarations than asynchronous elaboration has threads for.
set_option Elab.async false

/-! SUPPORT. Tables with an entry taken out, words written whole, and walks along lists in which one element acts. -/

namespace Sys2Proof.Machine

/-! ### Tables -/

section tabs
variable {α : Type} (d : α) (n m : Nat) (x : α) (t : Tab α)

/-- What stands at an index is what is found there, or the default. -/
theorem Tab.at_eq_find : Tab.at d t n = (Tab.find t n).getD d := by
  induction t with
  | nil => rfl
  | cons p t ih =>
    obtain ⟨k, v⟩ := p
    by_cases h : k = n
    · simp [Tab.at, Tab.find, h]
    · simpa [Tab.at, Tab.find, h] using ih

@[simp] theorem Tab.at_del_self : Tab.at d (Tab.del n t) n = d := by rw [Tab.at_eq_find, Tab.find_del_self]; rfl

theorem Tab.at_del_ne (h : m ≠ n) : Tab.at d (Tab.del n t) m = Tab.at d t m := by
  rw [Tab.at_eq_find, Tab.at_eq_find, Tab.find_del_ne _ _ _ h]

@[simp] theorem Tab.has_del_self : Tab.has (Tab.del n t) n = false := by simp [Tab.has, Tab.del]

end tabs

/-! ### Words written whole -/

@[simp] theorem State.fld_wr_same (s : State) (a lo n : Nat) (w : Word) : (s.wr a w).fld ⟨a, lo, n⟩ = fieldOf w lo n :=
  congrArg (fun x => fieldOf x lo n) (State.rd_wr_self s a w)

theorem fieldOf_ofNat {n : Nat} (lo k : Nat) (h : n < 2 ^ 32) : fieldOf (BitVec.ofNat 32 n) lo k = n / 2 ^ lo % 2 ^ k := by
  rw [fieldOf, BitVec.toNat_ofNat, Nat.mod_eq_of_lt h]

@[simp] theorem fieldOf_zero (lo k : Nat) : fieldOf 0 lo k = 0 := by simp [fieldOf]

/-- A flag is 0 or 1. -/
theorem State.flag_lt (s : State) (f : Fld) (h : f.width = 1) : s.fld f < 2 := by
  have := s.fld_lt f
  rwa [h] at this

/-- A flag that is not on reads 0. -/
theorem State.flag_off {s : State} {f : Fld} (h : f.width = 1) (ho : s.on f = false) : s.fld f = 0 := by
  have := s.flag_lt f h
  simp only [State.on, beq_eq_false_iff_ne, ne_eq] at ho
  omega

/-! ### Walks along a list -/

/-- A walk along a list none of whose elements acts. -/
theorem foldl_idle {α β : Type} {f : β → α → β} {s : β} (l : List α) (h : ∀ x ∈ l, f s x = s) : l.foldl f s = s :=
  List.foldlRecOn l f (motive := fun t => t = s) rfl (fun _ ht x hx => ht ▸ h x hx)

/-- A walk along a list of distinct elements of which one acts, on the first state and after it none. -/
theorem foldl_one {α β : Type} {f : β → α → β} {s : β} (l : List α) {x : α} (hd : l.Nodup) (hx : x ∈ l) (h : ∀ y ∈ l, y ≠ x → f s y = s)
    (h' : ∀ y ∈ l, y ≠ x → f (f s x) y = f s x) : l.foldl f s = f s x := by
  obtain ⟨l₁, l₂, rfl⟩ := List.append_of_mem hx
  rw [List.nodup_middle, List.nodup_cons] at hd
  have hne : ∀ y ∈ l₁ ++ l₂, y ≠ x := fun y hy e => hd.1 (e ▸ hy)
  rw [List.foldl_append, List.foldl_cons, foldl_idle l₁ (fun y hy => h y (by simp [hy]) (hne y (by simp [hy]))),
    foldl_idle l₂ (fun y hy => h' y (by simp [hy]) (hne y (by simp [hy])))]

end Sys2Proof.Machine
end

section
-- In order: the one text holds more declarations than asynchronous elaboration has threads for.
set_option Elab.async false

/-! PROOFS. Field inputs (R127 to R132), converter checks and spare analog channels (R345), and configuration writes (R611). -/

namespace Sys2Proof.Machine

variable {ps : List Part} {ws : List Nat} {s t u : State}

/-! ### The supervision of an input -/

@[simp] theorem State.setFSup_field (s : State) (i : Nat) (x : Supv) : (s.setFSup i x).field = { s.field with sup := s.field.sup.put i x } := by
  unfold State.setFSup
  dsimp only
  split
  · exact State.set_field _ _ _
  · rfl

@[simp] theorem State.setFSup_clk (s : State) (i : Nat) (x : Supv) : (s.setFSup i x).clk = s.clk := by
  unfold State.setFSup
  dsimp only
  split
  · exact State.set_clk _ _ _
  · rfl

@[simp] theorem State.setFSup_rd (s : State) (i : Nat) (x : Supv) (a : Nat) (h : a ≠ 0x8040000 + 4 * i) : (s.setFSup i x).rd a = s.rd a := by
  unfold State.setFSup
  dsimp only
  split
  · exact State.rd_set_ne _ _ _ _ h
  · rfl

@[simp] theorem State.setFSup_fld (s : State) (i : Nat) (x : Supv) (a lo n : Nat) (h : a ≠ 0x8040000 + 4 * i) :
    (s.setFSup i x).fld ⟨a, lo, n⟩ = s.fld ⟨a, lo, n⟩ := State.fld_congr (State.setFSup_rd s i x a h)

theorem Changes.setFSup (h : Changes ps ws s t) {i : Nat} {x : Supv} (hp : Part.field ∈ ps := by repeat constructor)
    (ha : Reg.PRT_FSUP i ∈ ws := by repeat constructor) : Changes ps ws s (t.setFSup i x) := by
  unfold State.setFSup
  dsimp only
  split
  · exact (h.upd_field hp).set ha
  · exact h.upd_field hp

theorem State.fsup_of (h : t.field.sup = s.field.sup) (i : Nat) : t.fsup i = s.fsup i := congrArg (fun x => Tab.at (Supv.fresh 0 false) x i) h

@[simp] theorem State.setFSup_fsup (s : State) (i : Nat) (x : Supv) : (s.setFSup i x).fsup i = x := by simp [State.fsup]

theorem State.isTemp_of {i : Nat} (h : t.rd (Reg.IN_CFG i) = s.rd (Reg.IN_CFG i)) : t.isTemp i = s.isTemp i := congrArg tempSource h

/-- The words of a temperature source that enters FAULT. -/
theorem State.setFSup_state {i : Nat} (s : State) (x : Supv) (h : s.isTemp i = true) : (s.setFSup i x).fld (Fd.PRT_FSUP_STATE i) = supState x := by
  have hx : supState x < 8 := by
    unfold supState
    split_ifs <;> decide
  have ht : State.isTemp { s with field := { s.field with sup := s.field.sup.put i x } } i = true := h
  unfold State.setFSup
  dsimp only
  rw [if_pos ht, State.fld_set_self _ _ _ (by exact (by decide : 0 + 3 ≤ 32))]
  exact Nat.mod_eq_of_lt hx

/-- An input in FAULT. -/
def Supv.faulted (x : Supv) : Supv := { x with fault := true, validFrom := none }

/-- A temperature source in FAULT is told. -/
def State.tellFault (s : State) (i : Nat) : State := (s.set (Fd.PRT_FSUP_ACK_REQ i) 1).raise Fd.PRT_EVT_FFAULT i []

theorem State.faultField_idle {i : Nat} (h : (s.fsup i).fault = true) : s.faultField i = s := if_pos h

theorem State.faultField_new {i : Nat} (h : (s.fsup i).fault = false) : s.faultField i =
    if (s.setFSup i (s.fsup i).faulted).isTemp i = true then (s.setFSup i (s.fsup i).faulted).tellFault i else s.setFSup i (s.fsup i).faulted := by
  unfold State.faultField
  dsimp only
  rw [if_neg (by simp [h])]
  rfl

@[simp] theorem State.tellFault_field (s : State) (i : Nat) : (s.tellFault i).field = s.field := by
  simp [State.tellFault]

/-- An input that is put in FAULT: its supervision alone of the field part. -/
theorem State.faultField_field (s : State) (i : Nat) :
    ((s.faultField i).fsup i).fault = true ∧ (s.faultField i).field = { s.field with sup := (s.faultField i).field.sup } := by
  cases h : (s.fsup i).fault with
  | true => rw [State.faultField_idle h]; exact ⟨h, rfl⟩
  | false =>
    rw [State.faultField_new h]
    split <;> simp [State.fsup, Supv.faulted]

theorem State.faultField_rd (s : State) (i a : Nat) (hb : a % 0x1000000 < 0x7F0000) (hd : a < 0xD000000) (h1 : a ≠ Reg.PRT_FSUP i)
    (h2 : a ≠ Reg.PRT_EVT) (h3 : a ≠ Reg.PRT_EVT_SEQ) : (s.faultField i).rd a = s.rd a := by
  cases h : (s.fsup i).fault with
  | true => rw [State.faultField_idle h]
  | false =>
    rw [State.faultField_new h]
    have hs : (s.setFSup i (s.fsup i).faulted).rd a = s.rd a := State.setFSup_rd _ _ _ _ h1
    split
    · exact ((State.rd_raise _ _ _ _ _ _ _ _ (by decide) (by decide) hb hd h2 h3).trans (State.rd_set_ne _ _ _ _ h1)).trans hs
    · exact hs

theorem Changes.faultField (h : Changes ps ws s t) {i : Nat} (hp : Part.field ∈ ps := by repeat constructor)
    (hf : Part.firn ∈ ps := by repeat constructor) (ha : Reg.PRT_FSUP i ∈ ws := by repeat constructor)
    (hb : Reg.PRT_EVT ∈ ws := by repeat constructor) (hc : Reg.PRT_EVT_SEQ ∈ ws := by repeat constructor) : Changes ps ws s (t.faultField i) := by
  unfold State.faultField
  dsimp only
  split
  · exact h
  · split
    · exact ((h.setFSup hp ha).set ha).raise hf (h1 := hb) (h2 := hc)
    · exact h.setFSup hp ha

/-- A temperature source that enters FAULT. -/
theorem fieldInputFault_spec {i : Fin 144} (h : (s.fsup i).fault = false) (ht : s.isTemp i = true) :
    ((s.faultField i).fsup i).fault = true ∧ (s.faultField i).fld (Fd.PRT_FSUP_STATE i) = 2 ∧
      (s.faultField i).on (Fd.PRT_FSUP_ACK_REQ i) = true ∧ (s.faultField i).on Fd.PRT_EVT_FFAULT = true := by
  have ht' : (s.setFSup i (s.fsup i).faulted).isTemp i = true := by
    refine (State.isTemp_of (State.setFSup_rd _ _ _ _ ?_)).trans ht
    simp only [Reg.IN_CFG]
    omega
  have hst := s.setFSup_state (s.fsup i).faulted ht
  refine ⟨(s.faultField_field i).1, ?_⟩
  rw [State.faultField_new h, if_pos ht']
  simp only [Fd.PRT_FSUP_STATE, Reg.PRT_FSUP] at hst
  refine ⟨?_, ?_, ?_⟩
  all_goals simp (disch := omega) [State.tellFault, State.on, Fd.PRT_FSUP_STATE, Fd.PRT_FSUP_ACK_REQ, Fd.PRT_EVT_FFAULT, Reg.PRT_FSUP, Reg.PRT_EVT, hst]
  rfl

/-! ### Faults and suspicion that clear -/

@[simp] theorem State.setSup_sup (s : State) (i : Nat) (x : Supv) : ((s.setSup i x).strm i).sup = x :=
  (congrArg Strm.sup (State.strm_of (State.set_stm _ _ _) i)).trans (congrArg Strm.sup (s.setStrm_strm i _))

theorem Changes.setSup (h : Changes ps ws s t) {i : Nat} {x : Supv} (hp : Part.stm ∈ ps := by repeat constructor)
    (ha : Reg.STM_SUP i ∈ ws := by repeat constructor) : Changes ps ws s (t.setSup i x) := (h.setStrm hp).set ha

@[simp] theorem State.set_strm (s : State) (f : Fld) (v i : Nat) : (s.set f v).strm i = s.strm i := State.strm_of (State.set_stm _ _ _) i
@[simp] theorem State.wr_strm (s : State) (a : Nat) (w : Word) (i : Nat) : (s.wr a w).strm i = s.strm i := (rfl)

theorem clearFault_spec (s : State) (sid : Nat) (x : Supv) (hx : x.fault = false) :
    let t := (s.setSup sid x).set (Fd.STM_SUP_AGENT_FAULT sid) 0
    (t.strm sid).sup.fault = false ∧ t.on (Fd.STM_SUP_AGENT_FAULT sid) = false ∧ Changes [.stm] [Reg.STM_SUP sid] s t := by
  refine ⟨by simpa using hx, ?_, (Changes.refl _ _ s).setSup.set⟩
  simp (disch := omega) [State.on, Fd.STM_SUP_AGENT_FAULT]

theorem State.clearStream_spec (s : State) (sid : Nat) :
    ((s.clearStream sid).strm sid).sup.suspect = false ∧ (s.clearStream sid).on (Fd.STM_SUP_PAIR sid) = false ∧
      Changes [.stm] [Reg.STM_SUP sid, Reg.PAIR_STAT (s.fld (Fd.STM_CFG_PAIR sid))] s (s.clearStream sid) := by
  unfold State.clearStream
  dsimp only
  generalize hx : ({ (s.strm sid).sup with suspect := false } : Supv) = x
  have hs : x.suspect = false := by rw [← hx]
  have hlt : s.fld ⟨0x2400000 + 4 * sid, 10, 12⟩ < 4096 := s.fld_lt _
  have hne : Reg.STM_CFG sid ≠ Reg.STM_SUP sid := by simp only [Reg.STM_CFG, Reg.STM_SUP]; omega
  have hp : (s.setSup sid x).fld (Fd.STM_CFG_PAIR sid) = s.fld (Fd.STM_CFG_PAIR sid) := State.fld_set_word _ _ _ _ hne
  split
  · have hp' : ((s.setSup sid x).set (Fd.STM_SUP_PAIR sid) 0).fld (Fd.STM_CFG_PAIR sid) = s.fld (Fd.STM_CFG_PAIR sid) :=
      (State.fld_set_word _ _ _ _ hne).trans hp
    refine ⟨by simpa using hs, ?_, (Changes.refl _ _ s).setSup.set.wr (by rw [hp]; repeat constructor)⟩
    rw [hp]
    simp -implicitDefEqProofs (disch := omega) [State.on, Fd.STM_SUP_PAIR, Fd.STM_CFG_PAIR, Reg.STM_CFG, Reg.STM_SUP, Reg.PAIR_STAT]
  · next h => exact ⟨by simpa using hs, by simpa using h, (Changes.refl _ _ s).setSup⟩

theorem exec_suspectClear_field (s : State) (i : Fin 144) : exec (.suspectClear (.field i)) s = .next (
    if s.mainAbsent = false ∧ s.clk.sidx.toNat % 100 = 0 ∧ s.mayClear (s.fsup i) (s.on (Fd.PRT_FSUP_ACK_REQ i)) = true then
      s.setFSup i { s.fsup i with suspect := false } else s) := by
  show execSuspectClear (.field i) s = _
  unfold execSuspectClear
  by_cases h : s.mainAbsent = true ∨ s.clk.sidx.toNat % 100 ≠ 0
  · rw [if_pos h, if_neg (by rintro ⟨h1, h2, -⟩; simp [h1, h2] at h)]
  · rw [if_neg h]
    push Not at h
    simp [h.1, h.2]

theorem exec_suspectClear_stream (s : State) (sid : Fin 262144) : exec (.suspectClear (.stream sid)) s = .next (
    if s.mainAbsent = false ∧ s.clk.sidx.toNat % 100 = 0 ∧ s.mayClear (s.strm sid).sup (s.on (Fd.STM_SUP_ACK_REQ sid)) = true then
      s.clearStream sid else s) := by
  show execSuspectClear (.stream sid) s = _
  unfold execSuspectClear
  by_cases h : s.mainAbsent = true ∨ s.clk.sidx.toNat % 100 ≠ 0
  · rw [if_pos h, if_neg (by rintro ⟨h1, h2, -⟩; simp [h1, h2] at h)]
  · rw [if_neg h]
    push Not at h
    simp [h.1, h.2]

theorem exec_suspectClear_idle {x : TempSource} (h : s.mainAbsent = true ∨ s.clk.sidx.toNat % 100 ≠ 0) : exec (.suspectClear x) s = .next s := by
  show execSuspectClear x s = _
  unfold execSuspectClear
  rw [if_pos h]

/-! ### Windows, converters and spares -/

@[simp] theorem State.restartWindows_rd (s : State) (i a : Nat) (h : a ≠ 0x8040000 + 4 * i) : (s.restartWindows i).rd a = s.rd a :=
  State.setFSup_rd _ _ _ _ h

@[simp] theorem State.restartWindows_fld (s : State) (i a lo n : Nat) (h : a ≠ 0x8040000 + 4 * i) :
    (s.restartWindows i).fld ⟨a, lo, n⟩ = s.fld ⟨a, lo, n⟩ := State.setFSup_fld _ _ _ _ _ _ h

theorem Changes.restartWindows (h : Changes ps ws s t) {i : Nat} (hp : Part.field ∈ ps := by repeat constructor)
    (ha : Reg.PRT_FSUP i ∈ ws := by repeat constructor) : Changes ps ws s (t.restartWindows i) := (h.setFSup hp ha).upd_field hp

/-- Windows that restart leave the fault and the count of failed checks, and no count of readings beyond a limit. -/
theorem State.restartWindows_spec (s : State) (i : Nat) : ((s.restartWindows i).fsup i).fault = (s.fsup i).fault ∧
    (s.restartWindows i).field.conv = s.field.conv ∧ Tab.has (s.restartWindows i).field.beyond i = false := by
  have h : (s.restartWindows i).fsup i = { Supv.fresh s.clk.now false with
      fault := (s.fsup i).fault, suspect := (s.fsup i).suspect, lastRead := (s.fsup i).lastRead } :=
    (State.fsup_of (s := s.setFSup i _) rfl i).trans (s.setFSup_fsup i _)
  refine ⟨by rw [h], ?_, Tab.has_del_self _ _⟩
  unfold State.restartWindows
  simp

/-- The words of a spare that is assigned. -/
theorem State.assignSpare_spec (s : State) {k i : Nat} (auto : Bool) (hk : k < 16) (hi : i < 128) :
    (s.assignSpare k i auto).on (Fd.SPAI_STAT_ASSIGNED k) = true ∧ (s.assignSpare k i auto).fld (Fd.SPAI_STAT_INPUT k) = i ∧
      (s.assignSpare k i auto).fld (Fd.SPAI_STAT_FAILED k) = s.fld (Fd.SPAI_STAT_FAILED k) ∧
      (s.assignSpare k i auto).fld Fd.LOP_INMAP_ID = (s.fld Fd.LOP_INMAP_ID + 1) % 2 ^ 32 ∧ (s.assignSpare k i auto).on Fd.ACT_EVT_SPARE_AI = true := by
  have hf : s.fld (Fd.SPAI_STAT_FAILED k) < 2 := s.fld_lt _
  unfold State.assignSpare
  dsimp only
  generalize s.fld (Fd.SPAI_STAT_FAILED k) = b at hf ⊢
  generalize hn : 1 + 2 * i + (if auto = true then 256 else 0) + 512 * b = n
  have hb : n = 1 + 2 * i + 256 * auto.toNat + 512 * b := by
    rw [← hn]
    cases auto <;> rfl
  have ha := auto.toNat_le
  have h32 : n < 2 ^ 32 := by omega
  refine ⟨?_, ?_, ?_, ?_, ?_⟩
  all_goals simp -implicitDefEqProofs (disch := omega) [State.on, Fd.SPAI_STAT_ASSIGNED, Fd.SPAI_STAT_INPUT, Fd.SPAI_STAT_FAILED, Reg.SPAI_STAT,
    Fd.LOP_INMAP_ID, Reg.LOP_INMAP, Fd.ACT_EVT_SPARE_AI, Reg.ACT_EVT, fieldOf_ofNat _ _ h32]
  all_goals omega

theorem State.assignSpare_field (s : State) (k i : Nat) (auto : Bool) : ((s.assignSpare k i auto).fsup i).fault = (s.fsup i).fault ∧
    (s.assignSpare k i auto).field.conv = s.field.conv := by
  unfold State.assignSpare
  dsimp only
  generalize hu : s.wr (Reg.SPAI_STAT k) _ = u
  obtain ⟨hf, hc, -⟩ := u.restartWindows_spec i
  have he : u.field = s.field := by rw [← hu, State.wr_field]
  have hr (v : State) : ((v.wrap Fd.LOP_INMAP_ID).raise Fd.ACT_EVT_SPARE_AI i [k]).field = v.field :=
    (State.raise_field _ _ _ _ _).trans (State.set_field _ _ _)
  exact ⟨(congrArg Supv.fault (State.fsup_of (congrArg _ (hr _)) i)).trans (hf.trans (congrArg Supv.fault (State.fsup_of (congrArg _ he) i))),
    (congrArg _ (hr _)).trans (hc.trans (congrArg _ he))⟩

/-- A spare that is released. -/
theorem State.releaseSpare_spec (s : State) {k : Nat} (hk : k < 16) :
    (s.releaseSpare k).on (Fd.SPAI_STAT_ASSIGNED k) = false ∧ (s.releaseSpare k).fld Fd.LOP_INMAP_ID = (s.fld Fd.LOP_INMAP_ID + 1) % 2 ^ 32 := by
  have hf : s.fld (Fd.SPAI_STAT_FAILED k) < 2 := s.fld_lt _
  have hi : s.fld (Fd.SPAI_STAT_INPUT k) < 128 := s.fld_lt _
  unfold State.releaseSpare
  dsimp only
  generalize s.fld (Fd.SPAI_STAT_FAILED k) = b at hf ⊢
  generalize s.fld (Fd.SPAI_STAT_INPUT k) = i at hi ⊢
  have h32 : 512 * b < 2 ^ 32 := by omega
  refine ⟨?_, ?_⟩
  all_goals simp -implicitDefEqProofs (disch := omega) [State.on, Fd.SPAI_STAT_ASSIGNED, Reg.SPAI_STAT, Fd.LOP_INMAP_ID, Reg.LOP_INMAP,
    fieldOf_ofNat _ _ h32]
  all_goals omega

/-! ### The check of the converters -/

@[simp] theorem State.checkConverter_rd (s : State) (c : Nat) (b : Bool) (a : Nat) : (s.checkConverter c b).rd a = s.rd a := rfl
@[simp] theorem State.checkConverter_fld (s : State) (c : Nat) (b : Bool) (f : Fld) : (s.checkConverter c b).fld f = s.fld f := rfl
@[simp] theorem State.checkConverter_on (s : State) (c : Nat) (b : Bool) (f : Fld) : (s.checkConverter c b).on f = s.on f := rfl
@[simp] theorem State.checkConverter_fsup (s : State) (c : Nat) (b : Bool) (i : Nat) : (s.checkConverter c b).fsup i = s.fsup i := rfl

theorem State.checkConverter_conv (s : State) (c j : Nat) (b : Bool) : Tab.at 0 (s.checkConverter c b).field.conv j =
    if j = c then (if b then Tab.at 0 s.field.conv c + 1 else 0) else Tab.at 0 s.field.conv j := by
  unfold State.checkConverter
  cases b
  · by_cases h : j = c
    · simp [h]
    · simp [h, Tab.at_del_ne]
  · by_cases h : j = c
    · simp [h]
    · simp [h, Tab.at_put_ne]

/-- The own converters of the inputs are checked. -/
def State.checkOwn (s : State) (bad : Nat → Bool) (l : List Nat) : State := l.foldl (fun s c => s.checkConverter c (bad c)) s

/-- A spare's converter is checked, and its mark shows the result. -/
def State.checkSpare (bad : Nat → Bool) (s : State) (k : Nat) : State := (s.checkConverter (144 + k) (bad k)).setB (Fd.SPAI_STAT_FAILED k) (bad k)

/-- An input whose own converter has just failed its third check, and which no spare serves, is put in FAULT. -/
def State.dropInput (s : State) (i : Nat) : State :=
  if Tab.at 0 s.field.conv i = 3 ∧ ¬ (s.on (Fd.SPAI_STAT_ASSIGNED (i / 8)) ∧ s.fld (Fd.SPAI_STAT_INPUT (i / 8)) = i) then s.converterFailed i else s

/-- An input whose spare has just failed its third check is put in FAULT. -/
def State.dropSpare (s : State) (k : Nat) : State :=
  if s.on (Fd.SPAI_STAT_ASSIGNED k) ∧ Tab.at 0 s.field.conv (144 + k) = 3 then s.faultField (s.fld (Fd.SPAI_STAT_INPUT k)) else s

/-- The converters that a check concerns: the bad ones, and those with failed checks. -/
def State.concerned (s : State) (bad : Nat → Bool) : List Nat := (List.range 128).filter (fun c => bad c || Tab.has s.field.conv c)

theorem exec_converterCheck (bad : List (Fin 128)) (spareBad : List (Fin 16)) (s : State) : exec (.converterCheck bad spareBad) s = .next (
    (List.range 16).foldl State.dropSpare ((s.concerned (fun c => bad.any (fun i => i.val == c))).foldl State.dropInput
      ((List.range 16).foldl (State.checkSpare (fun k => spareBad.any (fun x => x.val == k)))
        (s.checkOwn (fun c => bad.any (fun i => i.val == c)) (s.concerned (fun c => bad.any (fun i => i.val == c))))))) := rfl

/-- What the checks leave of a word that no mark of a spare stands in. -/
theorem State.checkSpares_rd (bad : Nat → Bool) (l : List Nat) (s : State) (a : Nat) (h : ∀ k ∈ l, a ≠ Reg.SPAI_STAT k) :
    (l.foldl (State.checkSpare bad) s).rd a = s.rd a :=
  List.foldlRecOn l _ (motive := fun (t : State) => t.rd a = s.rd a) rfl (fun _ ht k hk => (State.rd_set_ne _ _ _ _ (h k hk)).trans ht)

theorem State.checkSpare_field (bad : Nat → Bool) (s : State) (k : Nat) : (s.checkSpare bad k).field = (s.checkConverter (144 + k) (bad k)).field :=
  State.set_field _ _ _

/-- The checks of the spares leave the count of an input's own converter, and the supervision of every input. -/
theorem State.checkSpares_field (bad : Nat → Bool) (l : List Nat) (s : State) :
    (∀ c < 144, Tab.at 0 (l.foldl (State.checkSpare bad) s).field.conv c = Tab.at 0 s.field.conv c) ∧
      (l.foldl (State.checkSpare bad) s).field.sup = s.field.sup := by
  refine List.foldlRecOn l _ (motive := fun (t : State) => (∀ c < 144, Tab.at 0 t.field.conv c = Tab.at 0 s.field.conv c) ∧ t.field.sup = s.field.sup)
    ⟨fun _ _ => rfl, rfl⟩ (fun t ht k hk => ⟨fun c hc => ?_, ?_⟩)
  · rw [State.checkSpare_field, State.checkConverter_conv, if_neg (by omega), ht.1 c hc]
  · rw [State.checkSpare_field]
    exact ht.2

/-- The mark and the count of every spare after its check. -/
theorem State.checkSpares_spec (bad : Nat → Bool) (l : List Nat) (s : State) (hd : l.Nodup) {k : Nat} (hk : k ∈ l) (hl : ∀ j ∈ l, j < 16) :
    (l.foldl (State.checkSpare bad) s).on (Fd.SPAI_STAT_FAILED k) = bad k ∧
      (bad k = false → Tab.at 0 (l.foldl (State.checkSpare bad) s).field.conv (144 + k) = 0) := by
  obtain ⟨l₁, l₂, rfl⟩ := List.append_of_mem hk
  rw [List.nodup_middle, List.nodup_cons] at hd
  rw [List.foldl_append, List.foldl_cons]
  generalize l₁.foldl (State.checkSpare bad) s = u
  refine List.foldlRecOn l₂ _ (motive := fun (t : State) => t.on (Fd.SPAI_STAT_FAILED k) = bad k ∧ (bad k = false → Tab.at 0 t.field.conv (144 + k) = 0))
    ⟨?_, fun hb => ?_⟩ (fun t ht j hj => ?_)
  · cases hb : bad k <;> simp [State.checkSpare, State.setB, State.on, Fd.SPAI_STAT_FAILED, hb]
  · rw [State.checkSpare_field, State.checkConverter_conv, if_pos rfl, hb]
    rfl
  · have hne : k ≠ j := fun e => hd.1 (by simp [e, hj])
    refine ⟨?_, fun hb => ?_⟩
    · have : (t.checkSpare bad j).fld (Fd.SPAI_STAT_FAILED k) = t.fld (Fd.SPAI_STAT_FAILED k) :=
        State.fld_set_word _ _ _ _ (by simp only [Fd.SPAI_STAT_FAILED, Reg.SPAI_STAT]; omega)
      rw [State.on, this]
      exact ht.1
    · rw [State.checkSpare_field, State.checkConverter_conv, if_neg (by omega), ht.2 hb]

/-- The checks of the spares leave which input a spare serves. -/
theorem State.checkSpares_fld (bad : Nat → Bool) (l : List Nat) (s : State) (k lo n : Nat) (h : lo + n ≤ 9) :
    (l.foldl (State.checkSpare bad) s).fld ⟨Reg.SPAI_STAT k, lo, n⟩ = s.fld ⟨Reg.SPAI_STAT k, lo, n⟩ :=
  List.foldlRecOn l _ (motive := fun (t : State) => t.fld ⟨Reg.SPAI_STAT k, lo, n⟩ = s.fld ⟨Reg.SPAI_STAT k, lo, n⟩) rfl (fun t ht j _ =>
    (by
      by_cases e : k = j
      · rw [e]; exact State.fld_set_beside _ _ _ _ _ _ _ (Or.inr h)
      · exact State.fld_set _ _ _ _ _ _ _ _ (by simp only [Reg.SPAI_STAT]; omega) : (t.checkSpare bad j).fld ⟨Reg.SPAI_STAT k, lo, n⟩ = t.fld ⟨Reg.SPAI_STAT k, lo, n⟩).trans ht)

@[simp] theorem State.checkOwn_rd (s : State) (bad : Nat → Bool) (l : List Nat) (a : Nat) : (s.checkOwn bad l).rd a = s.rd a :=
  foldl_keep (f := fun (s : State) c => s.checkConverter c (bad c)) (fun s => s.rd a) (fun _ _ => rfl) l s

@[simp] theorem State.checkOwn_fsup (s : State) (bad : Nat → Bool) (l : List Nat) (i : Nat) : (s.checkOwn bad l).fsup i = s.fsup i :=
  foldl_keep (f := fun (s : State) c => s.checkConverter c (bad c)) (fun s => s.fsup i) (fun _ _ => rfl) l s

theorem State.checkOwn_conv (bad : Nat → Bool) (l : List Nat) (s : State) (hd : l.Nodup) (j : Nat) :
    Tab.at 0 (s.checkOwn bad l).field.conv j = if j ∈ l then (if bad j then Tab.at 0 s.field.conv j + 1 else 0) else Tab.at 0 s.field.conv j := by
  induction l generalizing s with
  | nil => rfl
  | cons c l ih =>
    rw [List.nodup_cons] at hd
    refine (ih (s.checkConverter c (bad c)) hd.2).trans ?_
    rw [State.checkConverter_conv]
    by_cases h : j = c
    · subst h
      simp [hd.1]
    · simp [h]

/-- A converter that has no count of failed checks has none listed. -/
theorem Tab.at_of_not_has {α : Type} {d : α} {t : Tab α} {n : Nat} (h : Tab.has t n = false) : Tab.at d t n = d := by
  rw [Tab.at_eq_find, Tab.find, List.find?_eq_none.mpr]
  · rfl
  · simpa [Tab.has] using h

theorem State.concerned_nodup (s : State) (bad : Nat → Bool) : (s.concerned bad).Nodup := List.Nodup.filter _ List.nodup_range

/-- The count of every own converter after a check. -/
theorem State.checkOwn_concerned (s : State) (bad : Nat → Bool) {j : Nat} (hj : j < 128) :
    Tab.at 0 (s.checkOwn bad (s.concerned bad)).field.conv j = if bad j then Tab.at 0 s.field.conv j + 1 else 0 := by
  rw [State.checkOwn_conv _ _ _ (s.concerned_nodup bad)]
  by_cases hb : bad j = true
  · simp [State.concerned, hb, hj]
  · by_cases hh : Tab.has s.field.conv j = true
    · simp [State.concerned, hb, hj, hh]
    · simp [State.concerned, hb, hh, Tab.at_of_not_has (Bool.not_eq_true _ ▸ hh : Tab.has s.field.conv j = false)]

theorem State.faultField_conv (s : State) (i : Nat) : (s.faultField i).field.conv = s.field.conv := by
  rw [(s.faultField_field i).2]

/-- The words of the spares, where no other event's and no supervision's word lies. -/
theorem State.faultField_spare (s : State) (i k lo n : Nat) (hi : i < 0x10000) (hk : k < 16) :
    (s.faultField i).fld ⟨Reg.SPAI_STAT k, lo, n⟩ = s.fld ⟨Reg.SPAI_STAT k, lo, n⟩ := by
  refine State.fld_congr (s.faultField_rd i _ ?_ ?_ ?_ ?_ ?_)
  all_goals simp only [Reg.SPAI_STAT, Reg.PRT_FSUP, Reg.PRT_EVT, Reg.PRT_EVT_SEQ]
  all_goals omega

/-- An input whose converter has failed is in FAULT, whether or not its group's spare takes it. -/
theorem State.converterFailed_spec (s : State) {i : Nat} (hi : i < 128) : ((s.converterFailed i).fsup i).fault = true ∧
    (s.converterFailed i).field.conv = s.field.conv ∧
    (s.converterFailed i).fld (Fd.SPAI_STAT_FAILED (i / 8)) = s.fld (Fd.SPAI_STAT_FAILED (i / 8)) := by
  obtain ⟨hf, -⟩ := s.faultField_field i
  have hw : (s.faultField i).fld (Fd.SPAI_STAT_FAILED (i / 8)) = s.fld (Fd.SPAI_STAT_FAILED (i / 8)) :=
    s.faultField_spare i _ _ _ (by omega) (by omega)
  unfold State.converterFailed
  dsimp only
  split
  · obtain ⟨h1, h2⟩ := (s.faultField i).assignSpare_field (i / 8) i true
    obtain ⟨-, -, h3, -⟩ := (s.faultField i).assignSpare_spec (k := i / 8) (i := i) true (by omega) hi
    exact ⟨h1.trans hf, h2.trans (s.faultField_conv i), h3.trans hw⟩
  · exact ⟨hf, s.faultField_conv i, hw⟩

theorem State.dropInput_idle {s : State} {i : Nat} (h : Tab.at 0 s.field.conv i ≠ 3) : s.dropInput i = s := if_neg (fun e => h e.1)

theorem State.dropSpare_idle {s : State} {k : Nat} (h : s.on (Fd.SPAI_STAT_ASSIGNED k) = false ∨ Tab.at 0 s.field.conv (144 + k) ≠ 3) :
    s.dropSpare k = s := by
  refine if_neg ?_
  rintro ⟨h1, h2⟩
  simp [h1, h2] at h

/-- The third failed check of the own converter of one input, which no spare serves. -/
theorem converterCheck_drops {c : Fin 128} (h : Tab.at 0 s.field.conv c = 2) (ha : s.on (Fd.SPAI_STAT_ASSIGNED (c / 8)) = false) :
    ∃ t, exec (.converterCheck [c] []) s = .next t ∧ Tab.at 0 t.field.conv c = 3 ∧ (t.fsup c).fault = true ∧
      t.on (Fd.SPAI_STAT_FAILED (c / 8)) = false := by
  obtain ⟨c, hc⟩ := c
  dsimp only at h ha ⊢
  refine ⟨_, exec_converterCheck _ _ s, ?_⟩
  have hbad : (fun c' => [(⟨c, hc⟩ : Fin 128)].any (fun i => i.val == c')) = (fun c' => c == c') := by
    funext c'
    simp
  have hgood : (fun k => ([] : List (Fin 16)).any (fun x => x.val == k)) = fun _ => false := rfl
  rw [hbad, hgood]
  set u := s.checkOwn (fun c' => c == c') (s.concerned (fun c' => c == c')) with hu
  set w := (List.range 16).foldl (State.checkSpare (fun _ => false)) u with hw
  have hconv : ∀ j < 128, Tab.at 0 w.field.conv j = if c = j then 3 else 0 := by
    intro j hj
    rw [hw, ((State.checkSpares_field _ _ u).1 j (by omega)), hu, State.checkOwn_concerned _ _ hj]
    by_cases e : c = j
    · subst e
      simp [h]
    · simp [e]
  have hspare : ∀ k < 16, Tab.at 0 w.field.conv (144 + k) = 0 ∧ w.on (Fd.SPAI_STAT_FAILED k) = false := by
    intro k hk
    obtain ⟨h1, h2⟩ := State.checkSpares_spec (fun _ => false) (List.range 16) u List.nodup_range (List.mem_range.mpr hk) (fun j hj => List.mem_range.mp hj)
    exact ⟨h2 rfl, h1⟩
  have hasg : w.on (Fd.SPAI_STAT_ASSIGNED (c / 8)) = false := by
    rw [State.on, hw, Fd.SPAI_STAT_ASSIGNED, State.checkSpares_fld _ _ _ _ _ _ (by decide), State.fld_congr (s.checkOwn_rd _ _ _)]
    exact ha
  obtain ⟨h1, h2, h3⟩ := w.converterFailed_spec hc
  have hmem : c ∈ s.concerned (fun c' => c == c') := by simp [State.concerned, hc]
  have hact : w.dropInput c = w.converterFailed c := if_pos ⟨by simp [hconv c hc], by simp [hasg]⟩
  have hdrop : (s.concerned (fun c' => c == c')).foldl State.dropInput w = w.converterFailed c := by
    rw [← hact]
    have hlt : ∀ y ∈ s.concerned (fun c' => c == c'), y < 128 := fun y hy => List.mem_range.mp (List.mem_filter.mp hy).1
    refine foldl_one _ (s.concerned_nodup _) hmem (fun y hy hne => State.dropInput_idle ?_) (fun y hy hne => State.dropInput_idle ?_)
    · simp [hconv y (hlt y hy), Ne.symm hne]
    · rw [hact, h2]
      simp [hconv y (hlt y hy), Ne.symm hne]
  have hlast : (List.range 16).foldl State.dropSpare (w.converterFailed c) = w.converterFailed c := by
    refine foldl_idle _ (fun k hk => State.dropSpare_idle (Or.inr ?_))
    rw [h2, (hspare k (List.mem_range.mp hk)).1]
    decide
  rw [hdrop, hlast]
  refine ⟨by rw [h2]; simp [hconv c hc], h1, ?_⟩
  rw [State.on, h3]
  exact (hspare (c / 8) (by omega)).2

/-- A check that every converter of an input passes, of inputs that no spare serves: the marks of the spares alone. -/
theorem converterCheck_marks {spareBad : List (Fin 16)} (h : s.field.conv = []) (ha : ∀ k, k < 16 → s.on (Fd.SPAI_STAT_ASSIGNED k) = false) :
    ∃ t, exec (.converterCheck [] spareBad) s = .next t ∧ (∀ k : Fin 16, t.on (Fd.SPAI_STAT_FAILED k) = spareBad.contains k) ∧
      Only [.field, .regs] s t := by
  have hown : s.concerned (fun c => ([] : List (Fin 128)).any (fun i => i.val == c)) = [] := by simp [State.concerned, h, Tab.has]
  refine ⟨(List.range 16).foldl (State.checkSpare (fun k => spareBad.any (fun x => x.val == k))) s, ?_, fun k => ?_, ?_⟩
  · rw [exec_converterCheck, hown, State.checkOwn, List.foldl_nil, List.foldl_nil, foldl_idle _ (fun k hk => State.dropSpare_idle (Or.inl ?_))]
    rw [State.on, Fd.SPAI_STAT_ASSIGNED, State.checkSpares_fld _ _ _ _ _ _ (by decide)]
    exact ha k (List.mem_range.mp hk)
  · rw [(State.checkSpares_spec _ _ s List.nodup_range (List.mem_range.mpr k.isLt) (fun j hj => List.mem_range.mp hj)).1,
      List.contains_eq_any_beq]
    exact congrArg (List.any spareBad) (funext fun x => by simp [Fin.ext_iff, eq_comm, beq_eq_decide])
  · refine (List.foldlRecOn _ _ (motive := fun (t : State) => Keeps (Part.field.bit ||| Part.regs.bit) s t) (Keeps.refl _ s)
      (fun t ht k _ => State.setB_keeps rfl (State.checkConverter_keeps rfl ht))).only _ (fun p => by cases p <;> decide)

/-! ### The commands of field inputs -/

theorem exec_fieldInputFault (s : State) (i : Fin 144) : exec (.fieldInputFault i) s = .next (
    if 10 ≤ Tab.at 0 s.field.beyond i then s.faultField i else s) := rfl

/-- Whether the time from which a source reads validly is a second or more before `n`. -/
def validFor (v : Option Nat) (n : Nat) : Bool := v.any (fun t => decide (t + sTicks 1 ≤ n))

theorem exec_fieldInputFaultClear_field (s : State) (i : Fin 144) : exec (.fieldInputFaultClear (.field i)) s = .next (
    if (s.fsup i).fault = true ∧ s.converterGood i = true ∧ validFor (s.fsup i).validFrom s.clk.now = true then
      s.setFSup i { s.fsup i with fault := false } else s) := rfl

theorem exec_fieldInputFaultClear_stream (s : State) (sid : Fin 262144) : exec (.fieldInputFaultClear (.stream sid)) s = .next (
    if (s.strm sid).sup.fault = true ∧ validFor (s.strm sid).sup.validFrom (s.strm sid).sup.lastRead = true then
      (s.setSup sid { (s.strm sid).sup with fault := false }).set (Fd.STM_SUP_AGENT_FAULT sid) 0 else s) := rfl

theorem exec_spaiAssign {w : Fin 8} {sp : Fin 16} {inp : Fin 8} (h : s.WriteTaken w (Reg.SPAI_CMD sp) (BitVec.ofNat 32 (1 + 16 * inp.val)) true) :
    exec (.spaiAssign w sp inp) s = .next (((s.afterChecks w (Reg.SPAI_CMD sp) (BitVec.ofNat 32 (1 + 16 * inp.val))).spareCmd sp
      (BitVec.ofNat 32 (1 + 16 * inp.val))).send (.wrote w (Reg.SPAI_CMD sp) 0 0 0)) := congrArg _ (State.writeRow_taken _ h)

theorem exec_spaiRelease {w : Fin 8} {sp : Fin 16} {inp : Fin 8} (h : s.WriteTaken w (Reg.SPAI_CMD sp) (BitVec.ofNat 32 (2 + 16 * inp.val)) true) :
    exec (.spaiRelease w sp inp) s = .next (((s.afterChecks w (Reg.SPAI_CMD sp) (BitVec.ofNat 32 (2 + 16 * inp.val))).spareCmd sp
      (BitVec.ofNat 32 (2 + 16 * inp.val))).send (.wrote w (Reg.SPAI_CMD sp) 0 0 0)) := congrArg _ (State.writeRow_taken _ h)

theorem exec_fieldInputConfigWrite {w : Fin 8} {i : Fin 144} {word : Fin 3} {v : Word}
    (h : s.WriteTaken w (Reg.IN_CFG i + 4 * word.val) v (crossField s (Reg.IN_CFG i + 4 * word.val) v)) :
    exec (.fieldInputConfigWrite w i word v) s = .next (((s.afterChecks w (Reg.IN_CFG i + 4 * word.val) v).writeInput i (4 * word.val) v).send
      (.wrote w (Reg.IN_CFG i + 4 * word.val) 0 0 0)) := congrArg _ (State.writeRow_taken _ h)

/-- ASSIGN of a spare that is free and passes its check, or of one that is not. -/
theorem State.spareCmd_assign (s : State) (k : Nat) (inp : Fin 8) : s.spareCmd k (BitVec.ofNat 32 (1 + 16 * inp.val)) =
    if s.on (Fd.SPAI_STAT_FAILED k) = true ∨ s.on (Fd.SPAI_STAT_ASSIGNED k) = true then s else s.assignSpare k (8 * k + inp) false := by
  have h : 1 + 16 * inp.val < 2 ^ 32 := by omega
  have hop : fieldOf (BitVec.ofNat 32 (1 + 16 * inp.val)) 0 2 = 1 := by rw [fieldOf_ofNat _ _ h]; omega
  have hin : fieldOf (BitVec.ofNat 32 (1 + 16 * inp.val)) 4 3 = inp := by rw [fieldOf_ofNat _ _ h]; omega
  unfold State.spareCmd
  rw [hop, hin]
  rfl

/-- RELEASE of a spare that is assigned and whose input's own converter passes its check, or of another. -/
theorem State.spareCmd_release (s : State) (k : Nat) (inp : Fin 8) : s.spareCmd k (BitVec.ofNat 32 (2 + 16 * inp.val)) =
    if s.on (Fd.SPAI_STAT_ASSIGNED k) = true ∧ ¬ Tab.has s.field.conv (s.fld (Fd.SPAI_STAT_INPUT k)) = true then s.releaseSpare k else s := by
  have h : 2 + 16 * inp.val < 2 ^ 32 := by omega
  have hop : fieldOf (BitVec.ofNat 32 (2 + 16 * inp.val)) 0 2 = 2 := by rw [fieldOf_ofNat _ _ h]; omega
  unfold State.spareCmd
  rw [hop]
  rfl

theorem State.writeInput_spec (s : State) (i o : Nat) (v : Word) (hi : i < 144) (ho : o < 12) :
    (s.writeInput i o v).rd (Reg.IN_CFG i + o) = (s.plainWrite (Reg.IN_CFG i + o) v).rd (Reg.IN_CFG i + o) ∧
      Tab.has (s.writeInput i o v).field.beyond i = false ∧ Changes [.field] [Reg.IN_CFG i + o, Reg.PRT_FSUP i] s (s.writeInput i o v) := by
  have hne : Reg.IN_CFG i + o ≠ 0x8040000 + 4 * i := by simp only [Reg.IN_CFG]; omega
  have hc : Changes [.field] [Reg.IN_CFG i + o, Reg.PRT_FSUP i] s (s.plainWrite (Reg.IN_CFG i + o) v) := (Changes.refl _ _ s).plainWrite
  unfold State.writeInput
  dsimp only
  generalize s.plainWrite (Reg.IN_CFG i + o) v = u at hc ⊢
  have hu : ∃ w : State, (if o = 0 then { u with field := { u.field with meas := u.field.meas.del i } } else u) = w ∧
      w.rd (Reg.IN_CFG i + o) = u.rd (Reg.IN_CFG i + o) ∧ Changes [.field] [Reg.IN_CFG i + o, Reg.PRT_FSUP i] s w := by
    split
    · exact ⟨_, rfl, rfl, hc.upd_field⟩
    · exact ⟨_, rfl, rfl, hc⟩
  obtain ⟨w, hw, hr, hcw⟩ := hu
  rw [hw]
  split
  · exact ⟨(State.restartWindows_rd _ _ _ hne).trans hr, (w.restartWindows_spec i).2.2, hcw.restartWindows⟩
  · refine ⟨?_, ?_, (hcw.upd_field.restartWindows).wr⟩
    · exact ((State.rd_wr_ne _ _ _ _ hne).trans (State.restartWindows_rd _ _ _ hne)).trans hr
    · rw [State.wr_field]
      exact (State.restartWindows_spec _ i).2.2

/-- A source reads validly from no known time, or for less than a second. -/
theorem not_validFor {v : Option Nat} {n : Nat} (h : v.all (fun t0 => decide (n < t0 + sTicks 1)) = true) : validFor v n = false := by
  cases v with
  | none => rfl
  | some t0 => simpa [validFor] using h

theorem validFor_some {t0 n : Nat} {v : Option Nat} (hv : v = some t0) (h : t0 + sTicks 1 ≤ n) : validFor v n = true := by
  simpa [validFor, hv] using h

/-- Settles O34: the faults and marks of inputs by the rules of their supervision, the third failed check by the walk over the converters, in
which the bad one alone acts, and the writes by what an assigned, a released and a reconfigured input leaves. -/
theorem fieldInputsTakeEffect : Obligations.FieldInputsTakeEffect := by
  refine ⟨?_, ?_, ?_, ?_, ?_, ?_, ?_, ?_, ?_, ?_, ?_, ?_, ?_, ?_, ?_, ?_, ?_, ?_⟩
  · intro i s h hf ht
    obtain ⟨h1, h2, h3, h4⟩ := fieldInputFault_spec hf ht
    exact ⟨s.faultField i, (exec_fieldInputFault s i).trans (congrArg _ (if_pos h)), h1, h2, h3, h4, (Changes.refl _ _ s).faultField⟩
  · intro i s h
    exact ⟨s, (exec_fieldInputFault s i).trans (congrArg _ (if_neg (Nat.not_le.mpr h))), rfl⟩
  · intro i s t0 hf hg hv ht
    exact ⟨_, (exec_fieldInputFaultClear_field s i).trans (congrArg _ (if_pos ⟨hf, hg, validFor_some hv ht⟩)),
      congrArg Supv.fault (s.setFSup_fsup i _), (Changes.refl _ _ s).setFSup⟩
  · intro sid s t0 hf hv ht
    exact ⟨_, (exec_fieldInputFaultClear_stream s sid).trans (congrArg _ (if_pos ⟨hf, validFor_some hv ht⟩)), clearFault_spec s sid _ rfl⟩
  · intro i s h
    refine ⟨s, (exec_fieldInputFaultClear_field s i).trans (congrArg _ (if_neg ?_)), rfl⟩
    rintro ⟨h1, h2, h3⟩
    rcases h with h | h | h
    · exact absurd h1 (by simp [h])
    · exact absurd h2 (by simp [h])
    · exact absurd h3 (by rw [not_validFor h]; decide)
  · intro sid s h
    refine ⟨s, (exec_fieldInputFaultClear_stream s sid).trans (congrArg _ (if_neg ?_)), rfl⟩
    rintro ⟨h1, h2⟩
    rcases h with h | h
    · exact absurd h1 (by simp [h])
    · exact absurd h2 (by rw [not_validFor h]; decide)
  · intro x s h
    exact ⟨s, exec_suspectClear_idle h, rfl⟩
  · intro i s hm hx hc
    exact ⟨_, (exec_suspectClear_field s i).trans (congrArg _ (if_pos ⟨hm, hx, hc⟩)), congrArg Supv.suspect (s.setFSup_fsup i _),
      (Changes.refl _ _ s).setFSup⟩
  · intro sid s hm hx hc
    exact ⟨_, (exec_suspectClear_stream s sid).trans (congrArg _ (if_pos ⟨hm, hx, hc⟩)), s.clearStream_spec sid⟩
  · intro c s h _ ha
    exact converterCheck_drops h ha
  · intro w sp inp s h hf ha
    obtain ⟨h1, h2, -, h4, h5⟩ := (s.afterChecks w (Reg.SPAI_CMD sp) (BitVec.ofNat 32 (1 + 16 * inp.val))).assignSpare_spec
      (k := sp) (i := 8 * sp + inp) false (by omega) (by omega)
    have hcmd := (s.afterChecks w (Reg.SPAI_CMD sp) (BitVec.ofNat 32 (1 + 16 * inp.val))).spareCmd_assign sp inp
    rw [if_neg (by simp [State.afterChecks_on, hf, ha])] at hcmd
    refine ⟨_, exec_spaiAssign h, WroteOk.send _ _ _, ?_⟩
    rw [hcmd]
    rw [State.send_on, State.send_fld, State.send_fld, State.send_on]
    rw [State.afterChecks_fld] at h4
    exact ⟨h1, h2, h4, h5⟩
  · intro w sp inp s h ha hc
    obtain ⟨h1, h2⟩ := (s.afterChecks w (Reg.SPAI_CMD sp) (BitVec.ofNat 32 (2 + 16 * inp.val))).releaseSpare_spec (k := sp) (by omega)
    have hcmd := (s.afterChecks w (Reg.SPAI_CMD sp) (BitVec.ofNat 32 (2 + 16 * inp.val))).spareCmd_release sp inp
    rw [if_pos ⟨by simp [State.afterChecks_on, ha], by simp [hc]⟩] at hcmd
    refine ⟨_, exec_spaiRelease h, WroteOk.send _ _ _, ?_⟩
    rw [hcmd]
    rw [State.send_on, State.send_fld]
    rw [State.afterChecks_fld] at h2
    exact ⟨h1, h2⟩
  · intro w i word v s h
    obtain ⟨h1, h2, h3⟩ := (s.afterChecks w (Reg.IN_CFG i + 4 * word.val) v).writeInput_spec i (4 * word.val) v (by omega) (by omega)
    rw [State.rd_plainWrite_congr s _ _ _ (State.afterChecks_rd _ _ _ _ _)] at h1
    refine ⟨_, exec_fieldInputConfigWrite h, WroteOk.send _ _ _, ?_, ?_, ((Changes.refl _ _ s).afterChecks.step h3).send⟩
    · rwa [State.send_rd]
    · rwa [State.send_field]
  · intro i s h
    exact ⟨s, (exec_suspectClear_field s i).trans (congrArg _ (if_neg (by simp [h]))), rfl⟩
  · intro sid s h
    exact ⟨s, (exec_suspectClear_stream s sid).trans (congrArg _ (if_neg (by simp [h]))), rfl⟩
  · intro w sp inp s h hf
    have hcmd := (s.afterChecks w (Reg.SPAI_CMD sp) (BitVec.ofNat 32 (1 + 16 * inp.val))).spareCmd_assign sp inp
    rw [if_pos (by simpa [State.afterChecks_on] using hf)] at hcmd
    refine ⟨_, exec_spaiAssign h, WroteOk.send _ _ _, ?_⟩
    rw [hcmd]
    exact (Changes.refl _ _ s).afterChecks.send
  · intro w sp inp s h hf
    have hcmd := (s.afterChecks w (Reg.SPAI_CMD sp) (BitVec.ofNat 32 (2 + 16 * inp.val))).spareCmd_release sp inp
    rw [if_neg (by simpa [State.afterChecks_on, imp_iff_not_or] using hf)] at hcmd
    refine ⟨_, exec_spaiRelease h, WroteOk.send _ _ _, ?_⟩
    rw [hcmd]
    exact (Changes.refl _ _ s).afterChecks.send
  · rintro bad spareBad s ⟨rfl, hc, ha⟩
    exact converterCheck_marks hc ha

end Sys2Proof.Machine
end

section
-- In order: the one text holds more declarations than asynchronous elaboration has threads for.
set_option Elab.async false

/-! PROOFS. Solenoid channels and banks (R323 to R332): what a step leaves of a channel, of its words and of its bank, and the commands and events
that take such steps. -/

namespace Sys2Proof.Machine

variable {ps : List Part} {ws : List Nat} {s t u : State}

/-! ### What protection makes of the ends of safety requests -/

/-- The words of the actuators are none that protection shows its state in. -/
theorem protWord_act {a : Nat} (h1 : 0x7000000 ≤ a) (h2 : a < 0x77F0000) : protWord a = false ∧ eventWord a = false := by
  refine ⟨?_, eventWord_eq_false (by omega) (by omega)⟩
  unfold protWord protOut
  simp only [Reg.PRT_STAT, Reg.PRT_CNT_TRIP, Reg.PRT_EVT, Reg.RK_OUT, Reg.RK_ACT, Reg.SYS_STATE, Bool.or_eq_false_iff, beq_eq_false_iff_ne,
    Bool.and_eq_false_iff]
  refine ⟨⟨⟨⟨⟨⟨?_, ?_⟩, ?_⟩, ?_⟩, Or.inl (decide_eq_false ?_)⟩, ?_⟩, Or.inl (decide_eq_false ?_)⟩
  all_goals omega

@[simp] theorem State.isoResults_act (s : State) (a lo n : Nat) (h1 : 0x7000000 ≤ a) (h2 : a < 0x77F0000) :
    s.isoResults.fld ⟨a, lo, n⟩ = s.fld ⟨a, lo, n⟩ := State.isoResults_fld _ _ (protWord_act h1 h2).2 (protWord_act h1 h2).1

@[simp] theorem State.isoResults_actRd (s : State) (a : Nat) (h1 : 0x7000000 ≤ a) (h2 : a < 0x77F0000) :
    s.isoResults.rd a = s.rd a := State.isoResults_rd _ _ (protWord_act h1 h2).2 (protWord_act h1 h2).1

theorem State.sol_congr (h : t.acts.sol = s.acts.sol) (k : Nat) : t.sol k = s.sol k := congrArg (fun x => Tab.at Sol.idle x k) h

theorem State.settle_acts (s : State) : s.settle.acts = s.acts := (State.settle_keeps (F := 58753032) rfl (Keeps.refl _ s)).acts.resolve_left (by decide)

theorem State.startRack_acts (s : State) (r b : Nat) (e : Fld) : (s.startRack r b e).acts = s.acts :=
  (State.startRack_keeps (F := 58753032) rfl (Keeps.refl _ s)).acts.resolve_left (by decide)

theorem State.isoResults_acts (s : State) : s.isoResults.acts = { s.acts with ended := [] } := by
  unfold State.isoResults
  refine (State.settle_acts _).trans ((foldl_keep (fun u => u.acts) (fun u p => ?_) _ _).trans rfl)
  split
  · exact State.startRack_acts _ _ _ _
  · rfl

@[simp] theorem State.isoResults_sol (s : State) (k : Nat) : s.isoResults.sol k = s.sol k :=
  State.sol_congr (by rw [s.isoResults_acts]) k

/-! ### A bank's slot, and the end of a request -/

@[simp] theorem State.set_sol (s : State) (f : Fld) (v k : Nat) : (s.set f v).sol k = s.sol k := State.sol_of (State.set_acts _ _ _) k
@[simp] theorem State.setB_sol (s : State) (f : Fld) (v : Bool) (k : Nat) : (s.setB f v).sol k = s.sol k := State.sol_of (State.setB_acts _ _ _) k
@[simp] theorem State.wr_sol (s : State) (a : Nat) (w : Word) (k : Nat) : (s.wr a w).sol k = s.sol k := State.sol_of (State.wr_acts _ _ _) k
@[simp] theorem State.count_sol (s : State) (a k : Nat) : (s.count a).sol k = s.sol k := State.sol_of (State.count_acts _ _) k
@[simp] theorem State.raise_sol (s : State) (f : Fld) (o : Nat) (l : List Nat) (k : Nat) : (s.raise f o l).sol k = s.sol k :=
  State.sol_of (State.raise_acts _ _ _ _ _) k

/-- A channel gives the slot it holds back. -/
def State.giveSlot (s : State) (k : Nat) : State :=
  let s := s.setSol k { s.sol k with slot := false }
  { s with acts := { s.acts with freeing := (k / 8) :: s.acts.freeing } }

@[simp] theorem State.giveSlot_rd (s : State) (k a : Nat) : (s.giveSlot k).rd a = s.rd a := (rfl)
@[simp] theorem State.giveSlot_fld (s : State) (k : Nat) (f : Fld) : (s.giveSlot k).fld f = s.fld f := (rfl)
@[simp] theorem State.giveSlot_clk (s : State) (k : Nat) : (s.giveSlot k).clk = s.clk := (rfl)

theorem State.giveSlot_sol (s : State) (k j : Nat) : (s.giveSlot k).sol j = if j = k then { s.sol k with slot := false } else s.sol j := by
  refine (State.sol_congr (s := s.setSol k { s.sol k with slot := false }) rfl j).trans ?_
  split
  · next h => rw [h, State.setSol_sol]
  · next h => rw [State.setSol_sol_ne _ _ _ _ h]

theorem State.freeSlot_eq (s : State) (k : Nat) : s.freeSlot k =
    if (s.sol k).slot = true then (s.set (Fd.BANK_STAT_SLOT (k / 8)) 0xF).giveSlot k else s.set (Fd.BANK_STAT_SLOT (k / 8)) 0xF := by
  have h : (s.set (Fd.BANK_STAT_SLOT (k / 8)) 0xF).sol k = s.sol k := State.set_sol _ _ _ _
  rw [← h]
  rfl

/-- A slot is given back: of the channels' parts it is the one's slot that changes. -/
theorem State.freeSlot_sol (s : State) (k j : Nat) : (s.freeSlot k).sol j = if j = k then { s.sol k with slot := false } else s.sol j := by
  rw [State.freeSlot_eq]
  split
  · rw [State.giveSlot_sol, State.set_sol, State.set_sol]
  · next hs =>
    rw [State.set_sol]
    split
    · next h =>
      rw [h]
      cases hx : s.sol k
      simp_all
    · rfl

@[simp] theorem State.freeSlot_rd (s : State) (k a : Nat) (h : a ≠ 0x7031000 + 0x10 * (k / 8)) : (s.freeSlot k).rd a = s.rd a := by
  rw [State.freeSlot_eq]
  split
  · rw [State.giveSlot_rd, State.rd_set_ne _ _ _ _ h]
  · exact State.rd_set_ne _ _ _ _ h

@[simp] theorem State.freeSlot_fld (s : State) (k a lo n : Nat) (h : a ≠ 0x7031000 + 0x10 * (k / 8)) :
    (s.freeSlot k).fld ⟨a, lo, n⟩ = s.fld ⟨a, lo, n⟩ := State.fld_congr (State.freeSlot_rd s k a h)

@[simp] theorem State.freeSlot_clk (s : State) (k : Nat) : (s.freeSlot k).clk = s.clk := by
  rw [State.freeSlot_eq]
  split
  · rw [State.giveSlot_clk, State.set_clk]
  · exact State.set_clk _ _ _

/-- The cut of a bank and its reason stand in the low bits of its word. -/
theorem State.freeSlot_bank (s : State) (k b lo n : Nat) (h : lo + n ≤ 4) : (s.freeSlot k).fld ⟨Reg.BANK_STAT b, lo, n⟩ = s.fld ⟨Reg.BANK_STAT b, lo, n⟩ := by
  have hset : (s.set (Fd.BANK_STAT_SLOT (k / 8)) 0xF).fld ⟨Reg.BANK_STAT b, lo, n⟩ = s.fld ⟨Reg.BANK_STAT b, lo, n⟩ := by
    by_cases e : b = k / 8
    · rw [e]
      exact State.fld_set_beside _ _ _ _ _ _ _ (Or.inr h)
    · exact State.fld_set _ _ _ _ _ _ _ _ (by simp only [Reg.BANK_STAT]; omega)
  rw [State.freeSlot_eq]
  split
  · rw [State.giveSlot_fld, hset]
  · exact hset

theorem Changes.freeSlot (h : Changes ps ws s t) {k : Nat} (hp : Part.acts ∈ ps := by repeat constructor)
    (ha : Reg.BANK_STAT (k / 8) ∈ ws := by repeat constructor) : Changes ps ws s (t.freeSlot k) := by
  rw [State.freeSlot_eq]
  split
  · exact ((h.set ha).setSol hp).upd_acts hp
  · exact h.set ha

/-- The end of a safety request is kept for protection. -/
def State.keepEnd (s : State) (p : Nat × Nat) : State := { s with acts := { s.acts with ended := s.acts.ended ++ [p] } }

@[simp] theorem State.keepEnd_rd (s : State) (p : Nat × Nat) (a : Nat) : (s.keepEnd p).rd a = s.rd a := (rfl)
@[simp] theorem State.keepEnd_fld (s : State) (p : Nat × Nat) (f : Fld) : (s.keepEnd p).fld f = s.fld f := (rfl)
@[simp] theorem State.keepEnd_clk (s : State) (p : Nat × Nat) : (s.keepEnd p).clk = s.clk := (rfl)
@[simp] theorem State.keepEnd_sol (s : State) (p : Nat × Nat) (k : Nat) : (s.keepEnd p).sol k = s.sol k := State.sol_congr rfl k

theorem State.solEnded_eq (s : State) (k : Nat) (r : SolReq) (res : Nat) : s.solEnded k r res =
    if r.safety = true then (s.solResult k res).keepEnd (k, res) else s.solResult k res := rfl

@[simp] theorem State.solEnded_sol (s : State) (k : Nat) (r : SolReq) (res j : Nat) : (s.solEnded k r res).sol j = s.sol j := by
  rw [State.solEnded_eq]
  split
  · rw [State.keepEnd_sol]
    exact State.set_sol _ _ _ _
  · exact State.set_sol _ _ _ _

@[simp] theorem State.solEnded_fld (s : State) (k : Nat) (r : SolReq) (res : Nat) (f : Fld) : (s.solEnded k r res).fld f = (s.solResult k res).fld f := by
  rw [State.solEnded_eq]
  split
  · rw [State.keepEnd_fld]
  · rfl

@[simp] theorem State.solEnded_rd (s : State) (k : Nat) (r : SolReq) (res a : Nat) : (s.solEnded k r res).rd a = (s.solResult k res).rd a := by
  rw [State.solEnded_eq]
  split
  · rw [State.keepEnd_rd]
  · rfl

@[simp] theorem State.solEnded_clk (s : State) (k : Nat) (r : SolReq) (res : Nat) : (s.solEnded k r res).clk = s.clk := by
  rw [State.solEnded_eq]
  split
  · rw [State.keepEnd_clk]
    exact State.set_clk _ _ _
  · exact State.set_clk _ _ _

theorem Changes.solEnded (h : Changes ps ws s t) {k : Nat} {r : SolReq} {res : Nat} (hp : Part.acts ∈ ps := by repeat constructor)
    (ha : Reg.SOL_STAT k ∈ ws := by repeat constructor) : Changes ps ws s (t.solEnded k r res) := by
  unfold State.solEnded
  dsimp only
  split
  · exact (h.set ha).upd_acts hp
  · exact h.set ha

/-- The request of a channel is dropped, and a channel that waits or is in TEST goes to rest. -/
def State.dropRequest (s : State) (k : Nat) : State :=
  let u := s.setSol k { s.sol k with req := none }
  if u.solState k = 1 ∨ u.solState k = 5 then u.setSolState k (u.solRest k) else u

theorem State.endRequest_none {k res : Nat} (h : (s.sol k).req = none) : s.endRequest k res = s := by
  unfold State.endRequest
  rw [h]

theorem State.endRequest_some {k res : Nat} {r : SolReq} (h : (s.sol k).req = some r) : s.endRequest k res = (s.dropRequest k).solEnded k r res := by
  unfold State.endRequest
  rw [h]
  rfl

theorem State.dropRequest_sol (s : State) (k j : Nat) : (s.dropRequest k).sol j = if j = k then { s.sol k with req := none } else s.sol j := by
  have hset : (s.setSol k { s.sol k with req := none }).sol j = if j = k then { s.sol k with req := none } else s.sol j := by
    split
    · next h => rw [h, State.setSol_sol]
    · next h => rw [State.setSol_sol_ne _ _ _ _ h]
  unfold State.dropRequest
  dsimp only
  split
  · exact (State.set_sol _ _ _ _).trans hset
  · exact hset

@[simp] theorem State.dropRequest_rd (s : State) (k a : Nat) (h : a ≠ 0x7030014 + 0x20 * k) : (s.dropRequest k).rd a = s.rd a := by
  unfold State.dropRequest
  dsimp only
  split
  · exact (State.rd_set_ne _ _ _ _ h).trans rfl
  · rfl

@[simp] theorem State.dropRequest_fld (s : State) (k a lo n : Nat) (h : a ≠ 0x7030014 + 0x20 * k) :
    (s.dropRequest k).fld ⟨a, lo, n⟩ = s.fld ⟨a, lo, n⟩ := State.fld_congr (State.dropRequest_rd s k a h)

/-- All of a channel's word but its state stands. -/
@[simp] theorem State.dropRequest_stat (s : State) (k lo n : Nat) (h : 3 ≤ lo) : (s.dropRequest k).fld ⟨0x7030014 + 0x20 * k, lo, n⟩ =
    s.fld ⟨0x7030014 + 0x20 * k, lo, n⟩ := by
  unfold State.dropRequest
  dsimp only
  split
  · exact (State.fld_set_beside _ _ _ _ _ _ _ (Or.inl h)).trans rfl
  · rfl

/-- The state of a channel that neither waits nor is in TEST stands. -/
theorem State.dropRequest_state {k : Nat} (h1 : s.solState k ≠ 1) (h2 : s.solState k ≠ 5) : (s.dropRequest k).solState k = s.solState k := by
  unfold State.dropRequest
  dsimp only
  rw [if_neg]
  · rfl
  · rintro (h | h)
    · exact h1 h
    · exact h2 h

theorem Changes.dropRequest (h : Changes ps ws s t) {k : Nat} (hp : Part.acts ∈ ps := by repeat constructor)
    (ha : Reg.SOL_STAT k ∈ ws := by repeat constructor) : Changes ps ws s (t.dropRequest k) := by
  unfold State.dropRequest
  dsimp only
  split
  · exact (h.setSol hp).set ha
  · exact h.setSol hp

theorem Changes.endRequest (h : Changes ps ws s t) {k res : Nat} (hp : Part.acts ∈ ps := by repeat constructor)
    (ha : Reg.SOL_STAT k ∈ ws := by repeat constructor) : Changes ps ws s (t.endRequest k res) := by
  cases hr : (t.sol k).req with
  | none => rw [State.endRequest_none hr]; exact h
  | some r => rw [State.endRequest_some hr]; exact (h.dropRequest hp ha).solEnded hp ha

/-- Of the channels, the end of a request drops the one's request alone. -/
theorem State.endRequest_sol (s : State) (k res j : Nat) : (s.endRequest k res).sol j = if j = k then { s.sol k with req := none } else s.sol j := by
  cases hr : (s.sol k).req with
  | none =>
    rw [State.endRequest_none hr]
    split
    · next h => rw [h, ← hr]
    · rfl
  | some r => rw [State.endRequest_some hr, State.solEnded_sol, State.dropRequest_sol]

@[simp] theorem State.endRequest_rd (s : State) (k res a : Nat) (h : a ≠ 0x7030014 + 0x20 * k) : (s.endRequest k res).rd a = s.rd a := by
  cases hr : (s.sol k).req with
  | none => rw [State.endRequest_none hr]
  | some r => rw [State.endRequest_some hr, State.solEnded_rd, State.solResult, State.rd_set_ne _ _ _ _ h, State.dropRequest_rd _ _ _ h]

@[simp] theorem State.endRequest_fld (s : State) (k res a lo n : Nat) (h : a ≠ 0x7030014 + 0x20 * k) :
    (s.endRequest k res).fld ⟨a, lo, n⟩ = s.fld ⟨a, lo, n⟩ := State.fld_congr (State.endRequest_rd s k res a h)

/-- All of a channel's word but its state and its result stands. -/
@[simp] theorem State.endRequest_stat (s : State) (k res lo n : Nat) (h : 8 ≤ lo) : (s.endRequest k res).fld ⟨0x7030014 + 0x20 * k, lo, n⟩ =
    s.fld ⟨0x7030014 + 0x20 * k, lo, n⟩ := by
  cases hr : (s.sol k).req with
  | none => rw [State.endRequest_none hr]
  | some r =>
    rw [State.endRequest_some hr, State.solEnded_fld, State.solResult]
    exact (State.fld_set_beside _ _ _ _ _ _ _ (Or.inl h)).trans (State.dropRequest_stat s k lo n (by omega))

/-- What the end of a request shows, on a channel that neither waits nor is in TEST. -/
theorem State.endRequest_shows {k res : Nat} {r : SolReq} (h : (s.sol k).req = some r) (hres : res < 16) (h1 : s.solState k ≠ 1) (h2 : s.solState k ≠ 5) :
    (s.endRequest k res).solState k = s.solState k ∧ (s.endRequest k res).fld (Fd.SOL_STAT_RESULT k) = res := by
  rw [State.endRequest_some h]
  refine ⟨?_, ?_⟩
  · rw [State.solState, State.solEnded_fld]
    exact (State.fld_set_beside _ _ _ _ _ _ _ (Or.inr (by decide))).trans (State.dropRequest_state h1 h2)
  · rw [State.solEnded_fld]
    exact (State.fld_set_same _ _ _ _ _ (by decide)).trans (Nat.mod_eq_of_lt hres)

theorem State.endRequest_result {k res : Nat} {r : SolReq} (h : (s.sol k).req = some r) (hres : res < 16) :
    (s.endRequest k res).fld (Fd.SOL_STAT_RESULT k) = res := by
  rw [State.endRequest_some h, State.solEnded_fld]
  exact (State.fld_set_same _ _ _ _ _ (by decide)).trans (Nat.mod_eq_of_lt hres)

/-! ### Faults -/

theorem Changes.solFault (h : Changes ps ws s t) {k c : Nat} (hp : Part.firn ∈ ps := by repeat constructor)
    (ha : Reg.SOL_STAT k ∈ ws := by repeat constructor) (h1 : Reg.ACT_EVT ∈ ws := by repeat constructor)
    (h2 : Reg.ACT_EVT_SEQ ∈ ws := by repeat constructor) : Changes ps ws s (t.solFault k c) := by
  unfold State.solFault
  dsimp only
  split
  · exact ((h.set ha).raise (f := Fd.ACT_EVT_SOL_FAULT) hp (h1 := h1) (h2 := h2)).set ha
  · exact (h.set ha).raise (f := Fd.ACT_EVT_SOL_FAULT) hp (h1 := h1) (h2 := h2)

/-- A fault is recorded and told. -/
def State.markFault (s : State) (k c : Nat) : State := (s.set (Fd.SOL_STAT_FAULT k) c).raise Fd.ACT_EVT_SOL_FAULT k [c]

theorem State.markFault_spec (s : State) {k c : Nat} (hk : k < 64) (hc : c < 8) : (s.markFault k c).solState k = s.solState k ∧
    (s.markFault k c).fld (Fd.SOL_STAT_FAULT k) = c ∧ (s.markFault k c).on Fd.ACT_EVT_SOL_FAULT = true ∧
    (∀ b lo n, (s.markFault k c).fld ⟨Reg.BANK_STAT b, lo, n⟩ = s.fld ⟨Reg.BANK_STAT b, lo, n⟩ ∨ 8 ≤ b) ∧ (∀ j, (s.markFault k c).sol j = s.sol j) := by
  unfold State.markFault
  refine ⟨?_, ?_, ?_, fun b lo n => ?_, fun j => by simp⟩
  · simp (disch := omega) [State.solState, Fd.SOL_STAT_STATE, Fd.SOL_STAT_FAULT, Reg.SOL_STAT, Fd.ACT_EVT_SOL_FAULT, Reg.ACT_EVT]
  · simp (disch := omega) [Fd.SOL_STAT_FAULT, Reg.SOL_STAT, Fd.ACT_EVT_SOL_FAULT, Reg.ACT_EVT, Nat.mod_eq_of_lt hc]
  · simp (disch := omega) [State.on, Fd.SOL_STAT_FAULT, Reg.SOL_STAT, Fd.ACT_EVT_SOL_FAULT, Reg.ACT_EVT]
  · by_cases hb : 8 ≤ b
    · exact Or.inr hb
    · left
      simp (disch := omega) [Fd.SOL_STAT_FAULT, Reg.SOL_STAT, Fd.ACT_EVT_SOL_FAULT, Reg.ACT_EVT, Reg.BANK_STAT]

theorem State.solFault_eq (s : State) (k c : Nat) : s.solFault k c =
    if (s.markFault k c).solState k = 0 ∨ (s.markFault k c).solState k = 1 ∨ (s.markFault k c).solState k = 5 then (s.markFault k c).setSolState k 6
    else s.markFault k c := rfl

/-- A fault of a channel: its code, the event, and FAULT where the channel was off, waited or was in TEST. -/
theorem State.solFault_spec (s : State) {k c : Nat} (hk : k < 64) (hc : c < 8) :
    (s.solFault k c).solState k = (if s.solState k = 0 ∨ s.solState k = 1 ∨ s.solState k = 5 then 6 else s.solState k) ∧
    (s.solFault k c).fld (Fd.SOL_STAT_FAULT k) = c ∧ (s.solFault k c).on Fd.ACT_EVT_SOL_FAULT = true ∧
    (∀ b lo n, b < 8 → (s.solFault k c).fld ⟨Reg.BANK_STAT b, lo, n⟩ = s.fld ⟨Reg.BANK_STAT b, lo, n⟩) ∧ (∀ j, (s.solFault k c).sol j = s.sol j) := by
  obtain ⟨h1, h2, h3, h4, h5⟩ := s.markFault_spec hk hc
  rw [State.solFault_eq, h1]
  generalize s.markFault k c = u at *
  split
  · refine ⟨State.fld_set_same _ _ _ _ _ (by decide), (State.fld_set_beside _ _ _ _ _ _ _ (Or.inl (by decide))).trans h2, ?_, fun b lo n hb => ?_, fun j => ?_⟩
    · refine Eq.trans (congrArg (· == 1) (State.fld_set_word _ _ _ _ ?_)) h3
      simp only [Fd.ACT_EVT_SOL_FAULT, Reg.ACT_EVT, Fd.SOL_STAT_STATE, Reg.SOL_STAT]
      omega
    · refine (State.fld_set _ _ _ _ _ _ _ _ ?_).trans ((h4 b lo n).resolve_right (by omega))
      simp only [Reg.SOL_STAT, Reg.BANK_STAT]
      omega
    · exact (State.set_sol _ _ _ _).trans (h5 j)
  · exact ⟨h1, h2, h3, fun b lo n hb => (h4 b lo n).resolve_right (by omega), h5⟩

/-- A pull-in is over: the channel gives the slot back and is off. -/
def State.stopPull (s : State) (k : Nat) : State :=
  let s := s.freeSlot k
  (s.setSol k { s.sol k with pull := none, offAt := s.clk.now }).setSolState k 0

theorem State.stopPull_spec (s : State) (k : Nat) : (s.stopPull k).solState k = 0 ∧ ((s.stopPull k).sol k).req = (s.sol k).req := by
  unfold State.stopPull
  refine ⟨State.fld_set_same _ _ _ _ _ (by decide), ?_⟩
  dsimp only
  rw [State.setSolState, State.set_sol, State.setSol_sol, State.freeSlot_sol, if_pos rfl]

/-- A pull-in that ends in a fault. -/
theorem State.pullFault_spec (s : State) {k c : Nat} {r : SolReq} (hk : k < 64) (hc : c < 8) (hr : (s.sol k).req = some r) :
    (s.pullFault k c).solState k = 6 ∧ (s.pullFault k c).fld (Fd.SOL_STAT_FAULT k) = c ∧ (s.pullFault k c).fld (Fd.SOL_STAT_RESULT k) = 9 ∧
      ((s.pullFault k c).sol k).req = none ∧ (s.pullFault k c).on Fd.ACT_EVT_SOL_FAULT = true := by
  obtain ⟨hst, hreq⟩ := s.stopPull_spec k
  obtain ⟨h1, h2, h3, -, h5⟩ := (s.stopPull k).solFault_spec hk hc
  rw [if_pos (Or.inl hst)] at h1
  rw [hr, ← h5 k] at hreq
  obtain ⟨h6, h7⟩ := State.endRequest_shows (res := 9) hreq (by decide) (by rw [h1]; decide) (by rw [h1]; decide)
  show ((((s.stopPull k).solFault k c).endRequest k 9)).solState k = 6 ∧ _
  refine ⟨h6.trans h1, (State.endRequest_stat _ _ _ _ _ (by decide)).trans h2, h7, ?_, ?_⟩
  · show ((((s.stopPull k).solFault k c).endRequest k 9).sol k).req = none
    rw [State.endRequest_sol, if_pos rfl]
  · refine Eq.trans (congrArg (· == 1) (State.endRequest_fld _ _ _ _ _ _ ?_)) h3
    simp only [Reg.ACT_EVT]
    omega

/-! ### The cut of a bank -/

/-- The decay of a channel that is cut loses its request. -/
def State.cutMoves (s : State) (k : Nat) (m : Option SolReq) : State :=
  match m with
  | some r => (s.setSol k { s.sol k with moves := none, pending := 0 }).solEnded k r 5
  | none => s

/-- A channel that is cut is off. -/
def State.cutPull (s : State) (k : Nat) : State := s.setSol k { s.sol k with pull := none, offAt := s.clk.now, release := false }

/-- A channel that is not off goes to rest. -/
def State.restState (s : State) (k : Nat) : State := if s.solState k = 0 then s else s.setSolState k (s.solRest k)

theorem State.cutChannel_eq (s : State) (k : Nat) : s.cutChannel k =
    (if (s.sol k).pull.isSome = true ∨ (s.sol k).release = true then (((s.freeSlot k).restState k).cutMoves k (s.sol k).moves).cutPull k
      else ((s.freeSlot k).restState k).cutMoves k (s.sol k).moves).endRequest k 5 := rfl

theorem State.restState_sol (s : State) (k j : Nat) : (s.restState k).sol j = s.sol j := by
  unfold State.restState
  split
  · rfl
  · exact State.set_sol _ _ _ _

theorem State.restState_fld (s : State) (k a lo n : Nat) (h : a ≠ 0x7030014 + 0x20 * k ∨ 3 ≤ lo) : (s.restState k).fld ⟨a, lo, n⟩ = s.fld ⟨a, lo, n⟩ := by
  unfold State.restState
  split
  · rfl
  · by_cases e : a = 0x7030014 + 0x20 * k
    · rw [e]
      exact State.fld_set_beside _ _ _ _ _ _ _ (Or.inl (h.resolve_left (fun x => x e)))
    · exact State.fld_set _ _ _ _ _ _ _ _ e

theorem State.cutMoves_sol (s : State) (k j : Nat) (m : Option SolReq) : ((s.cutMoves k m).sol j).req = (s.sol j).req ∧
    ((s.cutMoves k m).sol j).pull = (s.sol j).pull := by
  cases m with
  | none => exact ⟨rfl, rfl⟩
  | some r =>
    simp only [State.cutMoves, State.solEnded_sol]
    by_cases h : j = k
    · rw [h, State.setSol_sol]
      exact ⟨rfl, rfl⟩
    · rw [State.setSol_sol_ne _ _ _ _ h]
      exact ⟨rfl, rfl⟩

theorem State.cutMoves_fld (s : State) (k : Nat) (m : Option SolReq) (a lo n : Nat) (h : a ≠ 0x7030014 + 0x20 * k ∨ 8 ≤ lo) :
    (s.cutMoves k m).fld ⟨a, lo, n⟩ = s.fld ⟨a, lo, n⟩ := by
  cases m with
  | none => rfl
  | some r =>
    simp only [State.cutMoves, State.solEnded_fld, State.solResult]
    by_cases e : a = 0x7030014 + 0x20 * k
    · rw [e]
      exact (State.fld_set_beside _ _ _ _ _ _ _ (Or.inl (h.resolve_left (fun x => x e)))).trans (State.setSol_fld _ _ _ _)
    · exact (State.fld_set _ _ _ _ _ _ _ _ e).trans (State.setSol_fld _ _ _ _)

/-- What the cut of a channel leaves of the words: all but its own state and result, and its bank's slot. -/
theorem State.cutChannel_fld (s : State) (k a lo n : Nat) (h : a ≠ 0x7030014 + 0x20 * k ∨ 8 ≤ lo) (hb : a ≠ 0x7031000 + 0x10 * (k / 8) ∨ lo + n ≤ 4) :
    (s.cutChannel k).fld ⟨a, lo, n⟩ = s.fld ⟨a, lo, n⟩ := by
  have hfree : (s.freeSlot k).fld ⟨a, lo, n⟩ = s.fld ⟨a, lo, n⟩ := by
    by_cases e : a = 0x7031000 + 0x10 * (k / 8)
    · rw [e]
      exact s.freeSlot_bank k (k / 8) lo n (hb.resolve_left (fun x => x e))
    · exact State.freeSlot_fld _ _ _ _ _ e
  have hend (u : State) : (u.endRequest k 5).fld ⟨a, lo, n⟩ = u.fld ⟨a, lo, n⟩ := by
    by_cases e : a = 0x7030014 + 0x20 * k
    · rw [e]
      exact State.endRequest_stat _ _ _ _ _ (h.resolve_left (fun x => x e))
    · exact State.endRequest_fld _ _ _ _ _ _ e
  have hmov : (((s.freeSlot k).restState k).cutMoves k (s.sol k).moves).fld ⟨a, lo, n⟩ = s.fld ⟨a, lo, n⟩ := by
    rw [State.cutMoves_fld _ _ _ _ _ _ h, State.restState_fld _ _ _ _ _ (h.imp_right (by omega)), hfree]
  rw [State.cutChannel_eq, hend]
  split
  · exact (State.setSol_fld _ _ _ _).trans hmov
  · exact hmov

/-- A channel that is cut holds no request and no pull-in; the others stand. -/
theorem State.cutChannel_sol (s : State) (k j : Nat) : if j = k then ((s.cutChannel k).sol j).req = none ∧ ((s.cutChannel k).sol j).pull = none
    else ((s.cutChannel k).sol j).req = (s.sol j).req ∧ ((s.cutChannel k).sol j).pull = (s.sol j).pull := by
  have hu : ∀ j, ((((s.freeSlot k).restState k).cutMoves k (s.sol k).moves).sol j).req = (s.sol j).req ∧
      ((((s.freeSlot k).restState k).cutMoves k (s.sol k).moves).sol j).pull = (s.sol j).pull := by
    intro j
    obtain ⟨h1, h2⟩ := ((s.freeSlot k).restState k).cutMoves_sol k j (s.sol k).moves
    rw [h1, h2, State.restState_sol, State.freeSlot_sol]
    split
    · next h => rw [h]; exact ⟨rfl, rfl⟩
    · exact ⟨rfl, rfl⟩
  rw [State.cutChannel_eq]
  generalize ((s.freeSlot k).restState k).cutMoves k (s.sol k).moves = u at hu ⊢
  split
  · next h =>
    subst h
    rw [State.endRequest_sol, if_pos rfl]
    refine ⟨rfl, ?_⟩
    split
    · show ((u.cutPull j).sol j).pull = none
      rw [State.cutPull, State.setSol_sol]
    · next hn =>
      show (u.sol j).pull = none
      rw [(hu j).2]
      exact Option.not_isSome_iff_eq_none.mp (fun h => hn (Or.inl h))
  · next h =>
    rw [State.endRequest_sol, if_neg h]
    split
    · rw [State.cutPull, State.setSol_sol_ne _ _ _ _ h]
      exact hu j
    · exact hu j

theorem Changes.cutChannel (h : Changes ps ws s t) {k : Nat} (hp : Part.acts ∈ ps := by repeat constructor)
    (ha : Reg.SOL_STAT k ∈ ws := by repeat constructor) (hb : Reg.BANK_STAT (k / 8) ∈ ws := by repeat constructor) :
    Changes ps ws s (t.cutChannel k) := by
  rw [State.cutChannel_eq]
  have hrest : Changes ps ws s ((t.freeSlot k).restState k) := by
    unfold State.restState
    split
    · exact h.freeSlot hp hb
    · exact (h.freeSlot hp hb).set ha
  have hmov : Changes ps ws s (((t.freeSlot k).restState k).cutMoves k (t.sol k).moves) := by
    unfold State.cutMoves
    split
    · exact (hrest.setSol hp).solEnded hp ha
    · exact hrest
  split
  · exact (hmov.setSol hp).endRequest hp ha
  · exact hmov.endRequest hp ha

/-- The channels of a bank are cut. -/
def State.cutChannels (s : State) (l : List Nat) : State := l.foldl (fun s k => s.cutChannel k) s

theorem State.cutChannels_fld (s : State) (l : List Nat) (a lo n : Nat) (h : ∀ k ∈ l, (a ≠ 0x7030014 + 0x20 * k ∨ 8 ≤ lo) ∧
    (a ≠ 0x7031000 + 0x10 * (k / 8) ∨ lo + n ≤ 4)) : (s.cutChannels l).fld ⟨a, lo, n⟩ = s.fld ⟨a, lo, n⟩ :=
  List.foldlRecOn l _ (motive := fun (t : State) => t.fld ⟨a, lo, n⟩ = s.fld ⟨a, lo, n⟩) rfl
    (fun t ht k hk => (t.cutChannel_fld k a lo n (h k hk).1 (h k hk).2).trans ht)

/-- A cut channel stays without request and pull-in while others are cut. -/
theorem State.cutChannels_sol (l : List Nat) (s : State) (k : Nat) (hk : k ∈ l ∨ (s.sol k).req = none ∧ (s.sol k).pull = none) :
    ((s.cutChannels l).sol k).req = none ∧ ((s.cutChannels l).sol k).pull = none := by
  induction l generalizing s with
  | nil => exact hk.resolve_left (by simp)
  | cons j l ih =>
    refine ih (s.cutChannel j) ?_
    have hj := s.cutChannel_sol j k
    by_cases e : k = j
    · rw [if_pos e] at hj
      exact Or.inr hj
    · rw [if_neg e] at hj
      rw [hj.1, hj.2]
      exact hk.imp_left (fun h => (List.mem_cons.mp h).resolve_left e)

theorem State.cutChannels_cnt (s : State) (l : List Nat) : (s.cutChannels l).rd Reg.ACT_CNT_CUT = s.rd Reg.ACT_CNT_CUT := by
  refine List.foldlRecOn l _ (motive := fun (t : State) => t.rd Reg.ACT_CNT_CUT = s.rd Reg.ACT_CNT_CUT) rfl (fun t ht k _ => Eq.trans ?_ ht)
  refine ((Changes.refl [.acts] [Reg.SOL_STAT k, Reg.BANK_STAT (k / 8)] t).cutChannel (k := k)).rd (eventWord_eq_false (by decide) (by decide)) ?_
  simp only [Reg.ACT_CNT_CUT, Reg.SOL_STAT, Reg.BANK_STAT, List.mem_cons, List.not_mem_nil, or_false, not_or]
  omega

theorem State.cutBank_eq {b r : Nat} (h : s.bankCut b = false) : s.cutBank b r =
    (((((s.set (Fd.BANK_STAT_CUT b) 1).set (Fd.BANK_STAT_REASON b) r).cutChannels (bankChannels b)).count Reg.ACT_CNT_CUT).raise Fd.ACT_EVT_BANK_CUT b [r]) := by
  unfold State.cutBank
  rw [if_neg (by simp [h])]
  rfl

theorem mem_bankChannels {b k : Nat} : k ∈ bankChannels b ↔ 8 * b ≤ k ∧ k < 8 * b + 8 := by
  unfold bankChannels
  rw [List.mem_map]
  constructor
  · rintro ⟨i, hi, rfl⟩
    have := List.mem_range.mp hi
    omega
  · rintro ⟨h1, h2⟩
    exact ⟨k - 8 * b, List.mem_range.mpr (by omega), by omega⟩

/-- The cut of a bank shows in its word, is counted, and leaves its channels without request and pull-in. -/
theorem State.cutBank_spec {b r : Nat} (h : s.bankCut b = false) (hb : b < 8) (hr : r < 8) : (s.cutBank b r).bankCut b = true ∧
    (s.cutBank b r).fld (Fd.BANK_STAT_REASON b) = r ∧ (s.cutBank b r).rd Reg.ACT_CNT_CUT = satCount (s.rd Reg.ACT_CNT_CUT) 1 ∧
    (∀ k, 8 * b ≤ k → k < 8 * b + 8 → ((s.cutBank b r).sol k).req = none ∧ ((s.cutBank b r).sol k).pull = none) ∧
    (∀ k, 8 * b ≤ k → k < 8 * b + 8 → (s.cutBank b r).fld (Fd.SOL_STAT_FAULT k) = s.fld (Fd.SOL_STAT_FAULT k)) := by
  rw [State.cutBank_eq h]
  have hw : ∀ a lo n, (∀ k, 8 * b ≤ k → k < 8 * b + 8 → (a ≠ 0x7030014 + 0x20 * k ∨ 8 ≤ lo) ∧ (a ≠ 0x7031000 + 0x10 * (k / 8) ∨ lo + n ≤ 4)) →
      (((s.set (Fd.BANK_STAT_CUT b) 1).set (Fd.BANK_STAT_REASON b) r).cutChannels (bankChannels b)).fld ⟨a, lo, n⟩ =
        ((s.set (Fd.BANK_STAT_CUT b) 1).set (Fd.BANK_STAT_REASON b) r).fld ⟨a, lo, n⟩ := fun a lo n ha =>
    State.cutChannels_fld _ _ _ _ _ (fun k hk => ha k (mem_bankChannels.mp hk).1 (mem_bankChannels.mp hk).2)
  have hcnt : (((s.set (Fd.BANK_STAT_CUT b) 1).set (Fd.BANK_STAT_REASON b) r).cutChannels (bankChannels b)).rd Reg.ACT_CNT_CUT =
      s.rd Reg.ACT_CNT_CUT :=
    ((s.set (Fd.BANK_STAT_CUT b) 1).set (Fd.BANK_STAT_REASON b) r).cutChannels_cnt _ |>.trans
      ((State.rd_set _ _ _ _ _ _ (by simp only [Reg.ACT_CNT_CUT, Reg.BANK_STAT]; omega)).trans
        (State.rd_set _ _ _ _ _ _ (by simp only [Reg.ACT_CNT_CUT, Reg.BANK_STAT]; omega)))
  have hcut := hw (Reg.BANK_STAT b) 0 1 (fun k h1 h2 => ⟨Or.inl (by simp only [Reg.BANK_STAT]; omega), Or.inr (by decide)⟩)
  have hrea := hw (Reg.BANK_STAT b) 1 3 (fun k h1 h2 => ⟨Or.inl (by simp only [Reg.BANK_STAT]; omega), Or.inr (by decide)⟩)
  have hflt := fun k => hw (Reg.SOL_STAT k) 8 3 (fun j h1 h2 => ⟨Or.inr (by decide), Or.inl (by simp only [Reg.SOL_STAT]; omega)⟩)
  have hsol := State.cutChannels_sol (bankChannels b) ((s.set (Fd.BANK_STAT_CUT b) 1).set (Fd.BANK_STAT_REASON b) r)
  generalize hv : ((s.set (Fd.BANK_STAT_CUT b) 1).set (Fd.BANK_STAT_REASON b) r).cutChannels (bankChannels b) = v at *
  rw [show (((s.set (Fd.BANK_STAT_CUT b) 1).set (Fd.BANK_STAT_REASON b) r).fld ⟨Reg.BANK_STAT b, 0, 1⟩) = 1 from
    (State.fld_set_beside _ _ _ _ _ _ _ (Or.inr (by decide))).trans (State.fld_set_same _ _ _ _ _ (by decide))] at hcut
  rw [show (((s.set (Fd.BANK_STAT_CUT b) 1).set (Fd.BANK_STAT_REASON b) r).fld ⟨Reg.BANK_STAT b, 1, 3⟩) = r from
    (State.fld_set_same _ _ _ _ _ (by decide)).trans (Nat.mod_eq_of_lt hr)] at hrea
  refine ⟨?_, ?_, ?_, fun k h1 h2 => ?_, fun k h1 h2 => ?_⟩
  · simp only [Reg.BANK_STAT] at hcut
    simp -implicitDefEqProofs (disch := omega) [State.bankCut, State.on, Fd.BANK_STAT_CUT, Reg.BANK_STAT, Reg.ACT_CNT_CUT, Fd.ACT_EVT_BANK_CUT,
      Reg.ACT_EVT, hcut]
  · simp only [Reg.BANK_STAT] at hrea
    simp -implicitDefEqProofs (disch := omega) [Fd.BANK_STAT_REASON, Reg.BANK_STAT, Reg.ACT_CNT_CUT, Fd.ACT_EVT_BANK_CUT, Reg.ACT_EVT, hrea]
  · simp only [Reg.ACT_CNT_CUT] at hcnt
    simp -implicitDefEqProofs (disch := omega) [Reg.ACT_CNT_CUT, Fd.ACT_EVT_BANK_CUT, Reg.ACT_EVT, hcnt]
  · rw [State.raise_sol, State.count_sol]
    exact hsol k (Or.inl (mem_bankChannels.mpr ⟨h1, h2⟩))
  · have hk := (hflt k).trans ((State.fld_set _ _ _ _ _ _ _ _ (by simp only [Reg.SOL_STAT, Reg.BANK_STAT]; omega)).trans
      (State.fld_set _ _ _ _ _ _ _ _ (by simp only [Reg.SOL_STAT, Reg.BANK_STAT]; omega)))
    simp only [Reg.SOL_STAT] at hk
    simp -implicitDefEqProofs (disch := omega) [Fd.SOL_STAT_FAULT, Reg.SOL_STAT, Reg.ACT_CNT_CUT, Fd.ACT_EVT_BANK_CUT, Reg.ACT_EVT, hk]

/-! ### Requests -/

/-- The sequence a request takes. -/
def State.nextReq (s : State) : Nat := (s.rd Reg.ACT_REQ_SEQ).toNat + 1

/-- A request takes its sequence and its channel. -/
def State.holdReq (s : State) (k op : Nat) (safety : Bool) : State :=
  let u := ((s.wr Reg.ACT_REQ_SEQ (BitVec.ofNat 32 s.nextReq)).wr (Reg.SOL_SEQ k) (BitVec.ofNat 32 s.nextReq)).setB (Fd.SOL_STAT_CLASS k) safety
  u.setSol k { u.sol k with req := some ⟨op, safety, s.nextReq % 2 ^ 32, u.clk.now, 0, none, false⟩ }

theorem State.acceptReq_eq (s : State) (k op : Nat) (safety : Bool) : s.acceptReq k op safety =
    if (s.holdReq k op safety).solState k = 3 ∨ (s.holdReq k op safety).solState k = 4 then s.holdReq k op safety
    else (s.holdReq k op safety).setSolState k 1 := rfl

theorem nextReq_word (w : Word) : BitVec.ofNat 32 (w.toNat + 1) = w + 1 := by
  apply BitVec.eq_of_toNat_eq
  simp [BitVec.toNat_add]

theorem State.nextReq_word (s : State) : BitVec.ofNat 32 s.nextReq = s.rd Reg.ACT_REQ_SEQ + 1 := Machine.nextReq_word _

theorem State.nextReq_mod (s : State) : s.nextReq % 2 ^ 32 = (s.rd Reg.ACT_REQ_SEQ + 1).toNat := by
  rw [← State.nextReq_word, BitVec.toNat_ofNat]

/-- An accepted request of a channel that neither holds nor decays waits. -/
theorem State.acceptReq_spec (s : State) {k op : Nat} (safety : Bool) (hk : k < 64) (h3 : s.solState k ≠ 3) (h4 : s.solState k ≠ 4) :
    (s.acceptReq k op safety).solState k = 1 ∧ (s.acceptReq k op safety).rd Reg.ACT_REQ_SEQ = s.rd Reg.ACT_REQ_SEQ + 1 ∧
      (s.acceptReq k op safety).rd (Reg.SOL_SEQ k) = s.rd Reg.ACT_REQ_SEQ + 1 ∧
      ((s.acceptReq k op safety).sol k).req = some ⟨op, safety, (s.rd Reg.ACT_REQ_SEQ + 1).toNat, s.clk.now, 0, none, false⟩ ∧
      Changes [.acts] [Reg.ACT_REQ_SEQ, Reg.SOL_SEQ k, Reg.SOL_STAT k] s (s.acceptReq k op safety) := by
  have hst : (s.holdReq k op safety).solState k = s.solState k := by
    unfold State.holdReq
    simp -implicitDefEqProofs (disch := omega) [State.solState, State.setB, Fd.SOL_STAT_STATE, Fd.SOL_STAT_CLASS, Reg.SOL_STAT, Reg.SOL_SEQ, Reg.ACT_REQ_SEQ]
  have hreq : ((s.holdReq k op safety).sol k).req = some ⟨op, safety, s.nextReq % 2 ^ 32, s.clk.now, 0, none, false⟩ := by
    unfold State.holdReq
    dsimp only
    rw [State.setSol_sol, State.setB_clk, State.wr_clk, State.wr_clk]
  have hseq : (s.holdReq k op safety).rd Reg.ACT_REQ_SEQ = BitVec.ofNat 32 s.nextReq := by
    unfold State.holdReq
    simp -implicitDefEqProofs (disch := omega) [State.setB, Fd.SOL_STAT_CLASS, Reg.SOL_STAT, Reg.SOL_SEQ, Reg.ACT_REQ_SEQ]
  have hsol : (s.holdReq k op safety).rd (Reg.SOL_SEQ k) = BitVec.ofNat 32 s.nextReq := by
    unfold State.holdReq
    simp -implicitDefEqProofs (disch := omega) [State.setB, Fd.SOL_STAT_CLASS, Reg.SOL_STAT, Reg.SOL_SEQ, Reg.ACT_REQ_SEQ]
  have hc : Changes [.acts] [Reg.ACT_REQ_SEQ, Reg.SOL_SEQ k, Reg.SOL_STAT k] s (s.holdReq k op safety) :=
    (Changes.refl _ _ s).wr.wr.setB.setSol
  rw [State.acceptReq_eq, if_neg (by rw [hst]; simp [h3, h4]), ← State.nextReq_mod, ← State.nextReq_word]
  refine ⟨State.fld_set_same _ _ _ _ _ (by decide), ?_, ?_, ?_, hc.set⟩
  · exact (State.rd_set _ _ _ _ _ _ (by simp only [Reg.ACT_REQ_SEQ, Reg.SOL_STAT]; omega)).trans hseq
  · exact (State.rd_set _ _ _ _ _ _ (by simp only [Reg.SOL_SEQ, Reg.SOL_STAT]; omega)).trans hsol
  · exact (congrArg Sol.req (State.set_sol _ _ _ _)).trans hreq

/-- A normal request of a free channel that is not locked, and has no fault unless it is a TEST, is accepted. -/
theorem State.submit_accepts {k op : Nat} (hb : s.bankCut (k / 8) = false) (hr : (s.sol k).req = none) (hl : s.on (Fd.SOL_LOCK_LOCK k) = false)
    (hf : s.fld (Fd.SOL_STAT_FAULT k) = 0 ∨ op = 4) : s.submit k op false = s.acceptReq k op false := by
  unfold State.submit
  rw [if_neg (by simp [hb]), hr]
  dsimp only
  rw [if_neg (by decide), if_neg (by simp [hl]), if_neg (by rintro ⟨h1, h2⟩; exact hf.elim h1 h2)]

theorem State.afterChecks_sol (s : State) (w a : Nat) (v : Word) (k : Nat) : (s.afterChecks w a v).sol k = s.sol k :=
  State.sol_of (State.afterChecks_acts _ _ _ _) k

theorem State.afterChecks_solState (s : State) (w a : Nat) (v : Word) (k : Nat) : (s.afterChecks w a v).solState k = s.solState k :=
  State.afterChecks_fld _ _ _ _ _

theorem State.send_sol (s : State) (o : Out) (k : Nat) : (s.send o).sol k = s.sol k := State.sol_of (State.send_acts _ _) k

/-- What a taken write of a request of a channel leaves. -/
theorem submit_taken {w : Fin 8} {k : Fin 64} {op : Nat} {v : Word} {ok : Bool} (h : s.WriteTaken w (Reg.SOL_CMD k) v ok)
    (hb : s.bankCut (k / 8) = false) (hr : (s.sol k).req = none) (hl : s.on (Fd.SOL_LOCK_LOCK k) = false)
    (hf : s.fld (Fd.SOL_STAT_FAULT k) = 0 ∨ op = 4) (h3 : s.solState k ≠ 3) (h4 : s.solState k ≠ 4) :
    ∃ t, s.writeRow w (Reg.SOL_CMD k) v ok (fun s => s.submit k op false) = t ∧ WroteOk t w (Reg.SOL_CMD k) ∧ t.solState k = 1 ∧
      t.rd Reg.ACT_REQ_SEQ = s.rd Reg.ACT_REQ_SEQ + 1 ∧ t.rd (Reg.SOL_SEQ k) = s.rd Reg.ACT_REQ_SEQ + 1 ∧
      (t.sol k).req = some ⟨op, false, (s.rd Reg.ACT_REQ_SEQ + 1).toNat, s.clk.now, 0, none, false⟩ ∧
      Changes [.zh, .acts, .out] [Reg.ACT_REQ_SEQ, Reg.SOL_SEQ k, Reg.SOL_STAT k] s t := by
  have hs : (s.afterChecks w (Reg.SOL_CMD k) v).submit k op false = (s.afterChecks w (Reg.SOL_CMD k) v).acceptReq k op false :=
    State.submit_accepts (by rw [State.bankCut, State.on, State.afterChecks_fld]; exact hb) (by rw [State.afterChecks_sol]; exact hr)
      (by rw [State.on, State.afterChecks_fld]; exact hl) (by rw [State.afterChecks_fld]; exact hf)
  obtain ⟨h1, h2, h5, h6, h7⟩ := (s.afterChecks w (Reg.SOL_CMD k) v).acceptReq_spec (op := op) false k.isLt
    (by rw [State.afterChecks_solState]; exact h3) (by rw [State.afterChecks_solState]; exact h4)
  rw [State.afterChecks_rd] at h2 h5 h6
  rw [State.afterChecks_clk] at h6
  refine ⟨_, rfl, ?_⟩
  rw [State.writeRow_taken _ h, hs]
  refine ⟨WroteOk.send _ _ _, ?_, ?_, ?_, ?_, ((Changes.refl _ _ s).afterChecks.step h7).send⟩
  · rw [State.solState, State.send_fld]
    exact h1
  · rw [State.send_rd]
    exact h2
  · rw [State.send_rd]
    exact h5
  · rw [State.send_sol]
    exact h6

/-! ### Positions, cuts and reclosures by command -/

theorem exec_solRelease {w : Fin 8} {k : Fin 64} (h : s.WriteTaken w (Reg.SOL_CMD k) 3 (s.solCmdOk k 3)) :
    exec (.solRelease w k) s = .next (((s.afterChecks w (Reg.SOL_CMD k) 3).askRelease k).send (.wrote w (Reg.SOL_CMD k) 0 0 0)) :=
  congrArg _ (State.writeRow_taken _ h)

theorem exec_isoReset {w : Fin 8} {k : Fin 64} (h : s.WriteTaken w (Reg.SOL_CMD k) 5 (s.solCmdOk k 5)) :
    exec (.isoReset w k) s = .next (((s.afterChecks w (Reg.SOL_CMD k) 5).isoReset k).send (.wrote w (Reg.SOL_CMD k) 0 0 0)) :=
  congrArg _ (State.writeRow_taken _ h)

theorem exec_bankCmdCut {w b : Fin 8} (h : s.WriteTaken w (Reg.BANK_CMD b) 1 true) :
    exec (.bankCmdCut w b) s = .next ((((s.afterChecks w (Reg.BANK_CMD b) 1).cutBank b 3).isoResults).send (.wrote w (Reg.BANK_CMD b) 0 0 0)) :=
  congrArg _ (State.writeRow_taken _ h)

theorem exec_bankCmdReclose {w b : Fin 8} {passes : Bool} (h : s.WriteTaken w (Reg.BANK_CMD b) 2 true) :
    exec (.bankCmdReclose w b passes) s = .next (((s.afterChecks w (Reg.BANK_CMD b) 2).tryReclose b passes).send (.wrote w (Reg.BANK_CMD b) 0 0 0)) :=
  congrArg _ (State.writeRow_taken _ h)

theorem State.checkPos_fld (s : State) (r : Nat) (a lo n : Nat) (h1 : 0x7000000 ≤ a) (h2 : a < 0x77F0000) : (s.checkPos r).fld ⟨a, lo, n⟩ = s.fld ⟨a, lo, n⟩ := by
  unfold State.checkPos
  dsimp only
  split
  · simp (disch := omega) [Reg.PRT_CNT_ISO, Fd.PRT_EVT_ISOLATED, Reg.PRT_EVT]
  · split <;> rfl

theorem State.settle_act (s : State) (a lo n : Nat) (h1 : 0x7000000 ≤ a) (h2 : a < 0x77F0000) : s.settle.fld ⟨a, lo, n⟩ = s.fld ⟨a, lo, n⟩ :=
  State.settle_fld _ _ (protWord_act h1 h2).2 (protOut_of_protWord (protWord_act h1 h2).1)

theorem State.isoReset_pos (s : State) (k : Fin 64) : (s.isoReset k).fld (Fd.SOL_STAT_POS k) = 1 := by
  unfold State.isoReset
  rw [Fd.SOL_STAT_POS, State.settle_act _ _ _ _ (by simp only [Reg.SOL_STAT]; omega) (by simp only [Reg.SOL_STAT]; omega),
    State.checkPos_fld _ _ _ _ _ (by simp only [Reg.SOL_STAT]; omega) (by simp only [Reg.SOL_STAT]; omega)]
  exact State.fld_set_same _ _ _ _ _ (by decide)

/-- A bank that is closed again. -/
theorem State.reclose_spec (s : State) (b : Nat) : (s.reclose b).bankCut b = false ∧ (s.reclose b).fld (Fd.BANK_STAT_REASON b) = 0 ∧
    Changes [.acts] [Reg.BANK_STAT b] s (s.reclose b) := by
  unfold State.reclose
  refine ⟨?_, ?_, (Changes.refl _ _ s).set.set.upd_acts⟩
  all_goals simp -implicitDefEqProofs (disch := omega) [State.bankCut, State.on, Fd.BANK_STAT_CUT, Fd.BANK_STAT_REASON]

/-- Settles O31: a request is accepted where no lock, fault, cut or other request stands in its way, and the other commands by what a release, a
reset of the position, a cut and a reclosure leave. -/
theorem solenoidCommandsTakeEffect : Obligations.SolenoidCommandsTakeEffect := by
  refine ⟨?_, ?_, ?_, ?_, ?_, ?_, ?_⟩
  · intro w k s h hb hr hl hf hst
    obtain ⟨t, ht, h1⟩ := submit_taken (op := 1) h hb hr hl (Or.inl hf) (by omega) (by omega)
    exact ⟨t, congrArg _ ht, h1⟩
  · intro w k s h hb hr hl hf hst
    obtain ⟨t, ht, h1⟩ := submit_taken (op := 2) h hb hr hl (Or.inl hf) (by omega) (by omega)
    exact ⟨t, congrArg _ ht, h1⟩
  · intro w k s h hb hr hl hst
    obtain ⟨t, ht, h1, h2, -, -, h3⟩ := submit_taken (op := 4) h hb hr hl (Or.inr rfl) (by omega) (by omega)
    exact ⟨t, congrArg _ ht, h1, h2, h3⟩
  · intro w k s h
    refine ⟨_, exec_solRelease h, WroteOk.send _ _ _, ?_, ?_, (Changes.refl _ _ s).afterChecks.setSol.send⟩
    · rw [State.send_sol, State.askRelease, State.setSol_sol]
    · rw [State.send_sol, State.askRelease, State.setSol_sol, State.afterChecks_sol]
  · intro w k s h
    have hp := (s.afterChecks w (Reg.SOL_CMD k) 5).isoReset_pos k
    refine ⟨_, exec_isoReset h, WroteOk.send _ _ _, ?_, ?_⟩
    · rw [State.send_fld]
      exact hp
    · rw [State.isolated, State.send_fld, hp]
      decide
  · intro w b s h hb
    obtain ⟨h1, h2, -, h3, -⟩ := State.cutBank_spec (s := s.afterChecks w (Reg.BANK_CMD b) 1) (b := b) (r := 3)
      (by rw [State.bankCut, State.on, State.afterChecks_fld]; exact hb) b.isLt (by decide)
    refine ⟨_, exec_bankCmdCut h, WroteOk.send _ _ _, ?_, ?_, fun k hk hk' => ?_⟩
    · rw [State.bankCut, State.on, State.send_fld, Fd.BANK_STAT_CUT,
        State.isoResults_act _ _ _ _ (by simp only [Reg.BANK_STAT]; omega) (by simp only [Reg.BANK_STAT]; omega)]
      exact h1
    · rw [State.send_fld, Fd.BANK_STAT_REASON,
        State.isoResults_act _ _ _ _ (by simp only [Reg.BANK_STAT]; omega) (by simp only [Reg.BANK_STAT]; omega)]
      exact h2
    · rw [State.send_sol, State.isoResults_sol]
      exact h3 k hk hk'
  · intro w b s h hb
    have hcut : (s.afterChecks w (Reg.BANK_CMD b) 2).bankCut b = true := by rw [State.bankCut, State.on, State.afterChecks_fld]; exact hb
    have htry : (s.afterChecks w (Reg.BANK_CMD b) 2).tryReclose b true = (s.afterChecks w (Reg.BANK_CMD b) 2).reclose b := if_pos ⟨hcut, rfl⟩
    obtain ⟨h1, h2, h3⟩ := (s.afterChecks w (Reg.BANK_CMD b) 2).reclose_spec b
    refine ⟨_, exec_bankCmdReclose h, WroteOk.send _ _ _, ?_⟩
    rw [htry]
    refine ⟨?_, ?_, ((Changes.refl _ _ s).afterChecks.step h3).send⟩
    · rw [State.bankCut, State.on, State.send_fld]
      exact h1
    · rw [State.send_fld]
      exact h2

end Sys2Proof.Machine
end

section
-- In order: the one text holds more declarations than asynchronous elaboration has threads for.
set_option Elab.async false

/-! PROOFS. The events of the solenoid sequence (R324 to R332): pull-ins and decays, faults, repetitions, deferrals, self-tests, and cuts. -/

namespace Sys2Proof.Machine

variable {ps : List Part} {ws : List Nat} {s t u : State}

/-! ### Pull-ins -/

theorem State.switchOff_eq (s : State) (k p : Nat) (m : Option SolReq) (n : Nat)
    (hn : n = if (s.setSol k { s.sol k with pull := none, offAt := s.clk.now, pending := p, moves := m }).solState k = 2 then 0xF else
      (s.setSol k { s.sol k with pull := none, offAt := s.clk.now, pending := p, moves := m }).fld (Fd.BANK_STAT_SLOT (k / 8))) :
    s.switchOff k p m = ((s.setSol k { s.sol k with pull := none, offAt := s.clk.now, pending := p, moves := m }).set (Fd.BANK_STAT_SLOT (k / 8)) n).setSolState k 4 := by
  rw [hn]
  rfl

/-- A channel that switches off decays. -/
theorem State.switchOff_spec (s : State) (k p : Nat) (m : Option SolReq) : (s.switchOff k p m).solState k = 4 ∧
    ((s.switchOff k p m).sol k).pending = p ∧ ((s.switchOff k p m).sol k).moves = m ∧ ((s.switchOff k p m).sol k).req = (s.sol k).req ∧
    Changes [.acts] [Reg.SOL_STAT k, Reg.BANK_STAT (k / 8)] s (s.switchOff k p m) := by
  rw [s.switchOff_eq k p m _ rfl]
  have h (n : Nat) : ((((s.setSol k { s.sol k with pull := none, offAt := s.clk.now, pending := p, moves := m }).set (Fd.BANK_STAT_SLOT (k / 8)) n).setSolState k 4).sol k) =
      { s.sol k with pull := none, offAt := s.clk.now, pending := p, moves := m } := by
    rw [State.setSolState, State.set_sol, State.set_sol, State.setSol_sol]
  rw [h]
  exact ⟨State.fld_set_same _ _ _ _ _ (by decide), rfl, rfl, rfl, (Changes.refl _ _ s).setSol.set.set⟩

theorem exec_solenoidArmatureDip {k : Fin 64} {t0 op : Nat} (h1 : s.solState k = 2) (h2 : (s.sol k).pull = some (t0, op)) (h3 : (s.sol k).dip = none)
    (h4 : s.clk.now ≤ t0 + msTicks (s.fld (Fd.SOL_TIME_T_DET k))) : exec (.solenoidArmatureDip k) s = .next (
      ((s.setSol k { s.sol k with dip := some s.clk.now }).set (Fd.SOL_STAT_DIP_MS k) (min ((s.clk.now - t0) / 10) 0xFFFE)).solResult k 1) := by
  show execSolenoidArmatureDip k s = _
  unfold execSolenoidArmatureDip State.dipped
  rw [if_pos h1, h2]
  dsimp only
  rw [if_pos ⟨by simp [h3], h4⟩]

theorem exec_solenoidPullinEnd {k : Fin 64} {t0 op : Nat} (h1 : s.solState k = 2) (h2 : (s.sol k).pull = some (t0, op)) (h3 : s.pullEnd k t0 ≤ s.clk.now) :
    exec (.solenoidPullinEnd k) s = .next (s.endPullIn k) := by
  show execSolenoidPullinEnd k s = _
  unfold execSolenoidPullinEnd
  rw [h2]
  dsimp only
  rw [if_pos ⟨h1, h3⟩]

/-- The start of HOLD: the pull-in is over, and the slot is given back. -/
def State.beginHold (s : State) (k : Nat) : State :=
  let s := s.freeSlot k
  (s.setSol k { s.sol k with pull := none }).setSolState k 3

theorem State.beginHold_spec (s : State) (k : Nat) : (s.beginHold k).solState k = 3 ∧ ((s.beginHold k).sol k).req = (s.sol k).req ∧
    Changes [.acts] [Reg.SOL_STAT k, Reg.BANK_STAT (k / 8)] s (s.beginHold k) := by
  unfold State.beginHold
  refine ⟨State.fld_set_same _ _ _ _ _ (by decide), ?_, (Changes.refl _ _ s).freeSlot.setSol.set⟩
  dsimp only
  rw [State.setSolState, State.set_sol, State.setSol_sol, State.freeSlot_sol, if_pos rfl]

theorem State.endPullIn_hold {k d : Nat} {r : SolReq} (hd : (s.sol k).dip = some d) (hr : (s.sol k).req = some r) (ho : r.op = 2) :
    s.endPullIn k = ((s.count (Reg.SOL_OPS k)).beginHold k).endRequest k 1 := by
  have hm : (s.sol k).dip.isSome = true := by rw [hd]; rfl
  unfold State.endPullIn
  dsimp only
  rw [if_pos ⟨hm, by simp [hr, ho]⟩, if_pos hm]
  rfl

theorem State.endPullIn_still {k : Nat} {r : SolReq} (hd : (s.sol k).dip = none) (hr : (s.sol k).req = some r) :
    s.endPullIn k = ((s.setSol k { s.sol k with req := none }).solResult k 2).switchOff k 2 (some r) := by
  have hm : ¬ (s.sol k).dip.isSome = true := by simp [hd]
  unfold State.endPullIn
  dsimp only
  rw [if_neg (fun h => hm h.1), if_neg hm, if_neg hm, if_neg hm, hr]

theorem exec_solenoidOpenCoil {k : Fin 64} {t0 op : Nat} (h1 : s.solState k = 2) (h2 : (s.sol k).pull = some (t0, op)) (h3 : (s.sol k).dip = none)
    (h4 : t0 + msTicks 5 ≤ s.clk.now) : exec (.solenoidOpenCoil k) s = .next (s.pullFault k 1).isoResults := by
  show execSolenoidOpenCoil k s = _
  unfold execSolenoidOpenCoil
  rw [h2]
  dsimp only
  rw [if_pos ⟨h1, by simp [h3], h4⟩]

theorem exec_solenoidShort {k : Fin 64} (h : s.solState k = 2) : exec (.solenoidShort k) s = .next (s.pullFault k 2).isoResults := congrArg _ (if_pos h)

/-- A channel fault in a pull-in, after protection has judged the end of its request. -/
theorem pullFault_isoResults {k : Fin 64} {c : Nat} {r : SolReq} (hc : c < 8) (hr : (s.sol k).req = some r) :
    ((s.pullFault k c).isoResults).solState k = 6 ∧ ((s.pullFault k c).isoResults).fld (Fd.SOL_STAT_FAULT k) = c ∧
      ((s.pullFault k c).isoResults).fld (Fd.SOL_STAT_RESULT k) = 9 ∧ (((s.pullFault k c).isoResults).sol k).req = none ∧
      ((s.pullFault k c).isoResults).on Fd.ACT_EVT_SOL_FAULT = true := by
  obtain ⟨h1, h2, h3, h4, h5⟩ := State.pullFault_spec (s := s) k.isLt hc hr
  have hw (lo n : Nat) : ((s.pullFault k c).isoResults).fld ⟨Reg.SOL_STAT k, lo, n⟩ = (s.pullFault k c).fld ⟨Reg.SOL_STAT k, lo, n⟩ :=
    State.isoResults_act _ _ _ _ (by simp only [Reg.SOL_STAT]; omega) (by simp only [Reg.SOL_STAT]; omega)
  refine ⟨(hw 0 3).trans h1, (hw 8 3).trans h2, (hw 4 4).trans h3, ?_, ?_⟩
  · rw [State.isoResults_sol]
    exact h4
  · exact (congrArg (· == 1) (State.isoResults_act _ _ _ _ (by decide) (by decide))).trans h5

/-! ### Decays -/

/-- A decay that ends: the channel gives its slot back, and its request is taken out. -/
def State.takeMoves (s : State) (k : Nat) : State :=
  let s := s.freeSlot k
  s.setSol k { s.sol k with pending := 0, moves := none }

theorem State.takeMoves_sol (s : State) (k : Nat) : (s.takeMoves k).sol k = { s.sol k with slot := false, pending := 0, moves := none } := by
  unfold State.takeMoves
  dsimp only
  rw [State.setSol_sol, State.freeSlot_sol, if_pos rfl]

theorem State.takeMoves_fld (s : State) (k lo n : Nat) : (s.takeMoves k).fld ⟨Reg.SOL_STAT k, lo, n⟩ = s.fld ⟨Reg.SOL_STAT k, lo, n⟩ :=
  (State.setSol_fld _ _ _ _).trans (State.freeSlot_fld _ _ _ _ _ (by simp only [Reg.SOL_STAT]; omega))

/-- The armature of a rack's valve has closed it. -/
def State.closePos (s : State) (k : Nat) : State := if k < 48 then s.set (Fd.SOL_STAT_POS k) 2 else s

/-- A channel shows whether it waits or is at rest. -/
def State.showRest (s : State) (k : Nat) : State := s.setSolState k (if (s.sol k).req.isSome then 1 else s.solRest k)

/-- What the end of a decay sets for its request. -/
def State.setMoves (s : State) (k p : Nat) (m : Option SolReq) : State :=
  match m with
  | some r => s.decayResult k p r
  | none => s

theorem State.endDecay_eq (s : State) (k : Nat) : s.endDecay k = ((s.takeMoves k).setMoves k (s.sol k).pending (s.sol k).moves).showRest k := rfl

theorem State.endDecay_moved {k : Nat} {r : SolReq} (hm : (s.sol k).moves = some r) (hp : (s.sol k).pending = 1) : s.endDecay k =
    (((s.takeMoves k).closePos k).solEnded k r 1).showRest k := by
  rw [State.endDecay_eq, hm, hp]
  rfl

theorem State.endDecay_spec {k : Nat} {r : SolReq} (hm : (s.sol k).moves = some r) (hp : (s.sol k).pending = 1) (hr : (s.sol k).req = none)
    (hf : s.fld (Fd.SOL_STAT_FAULT k) = 0) : (s.endDecay k).solState k = 0 ∧ (s.endDecay k).fld (Fd.SOL_STAT_RESULT k) = 1 ∧
      (s.endDecay k).fld (Fd.SOL_STAT_POS k) = (if k < 48 then 2 else s.fld (Fd.SOL_STAT_POS k)) ∧ ((s.endDecay k).sol k).slot = false := by
  have hsol : (((s.takeMoves k).closePos k).solEnded k r 1).sol k = { s.sol k with slot := false, pending := 0, moves := none } := by
    rw [State.solEnded_sol, ← State.takeMoves_sol]
    unfold State.closePos
    split
    · exact State.set_sol _ _ _ _
    · rfl
  have hpos : ((s.takeMoves k).closePos k).fld (Fd.SOL_STAT_POS k) = if k < 48 then 2 else s.fld (Fd.SOL_STAT_POS k) := by
    unfold State.closePos
    split
    · exact State.fld_set_same _ _ _ _ _ (by decide)
    · exact State.takeMoves_fld s k 11 2
  have hflt : ((s.takeMoves k).closePos k).fld (Fd.SOL_STAT_FAULT k) = 0 := by
    have h := (State.takeMoves_fld s k 8 3).trans hf
    unfold State.closePos
    split
    · exact (State.fld_set_beside _ _ _ _ _ _ _ (Or.inr (by decide))).trans h
    · exact h
  rw [State.endDecay_moved hm hp, State.showRest, hsol, hr]
  have hrest : (((s.takeMoves k).closePos k).solEnded k r 1).solRest k = 0 := by
    unfold State.solRest
    rw [if_pos]
    rw [State.solEnded_fld]
    exact (State.fld_set_beside _ _ _ _ _ _ _ (Or.inl (by decide))).trans hflt
  rw [hrest]
  refine ⟨State.fld_set_same _ _ _ _ _ (by decide), ?_, ?_, ?_⟩
  · refine (State.fld_set_beside _ _ _ _ _ _ _ (Or.inl (by decide))).trans ?_
    exact (State.solEnded_fld _ _ _ _ _).trans (State.fld_set_same _ _ _ _ _ (by decide))
  · refine (State.fld_set_beside _ _ _ _ _ _ _ (Or.inl (by decide))).trans ?_
    exact (State.solEnded_fld _ _ _ _ _).trans ((State.fld_set_beside _ _ _ _ _ _ _ (Or.inl (by decide))).trans hpos)
  · exact (congrArg Sol.slot (State.set_sol _ _ _ _)).trans (congrArg Sol.slot hsol)

theorem exec_solenoidDecayEnd {k : Fin 64} (h : s.solState k = 4) : exec (.solenoidDecayEnd k) s = .next (
    if k.val < 48 then (s.endDecay k).checkPos k else s.endDecay k).isoResults := congrArg _ (if_pos h)

theorem State.checkPos_acts (s : State) (r : Nat) : (s.checkPos r).acts = s.acts :=
  (State.checkPos_keeps (F := 50364416) rfl (Keeps.refl _ s)).acts.resolve_left (by decide)

/-! ### The arbitration after a deferral -/

/-- A step that gives a channel without request none, and leaves its result and the count of deferrals that timed out. -/
structure State.Spares (k : Nat) (s t : State) : Prop where
  req : (s.sol k).req = none → (t.sol k).req = none
  result : t.fld (Fd.SOL_STAT_RESULT k) = s.fld (Fd.SOL_STAT_RESULT k)
  count : t.rd Reg.ACT_CNT_DEFTMO = s.rd Reg.ACT_CNT_DEFTMO

theorem State.Spares.refl (k : Nat) (s : State) : State.Spares k s s := ⟨id, rfl, rfl⟩

theorem State.Spares.trans {k : Nat} (h : State.Spares k s t) (h' : State.Spares k t u) : State.Spares k s u :=
  ⟨fun e => h'.req (h.req e), h'.result.trans h.result, h'.count.trans h.count⟩

section combinators
variable {k : Nat}

theorem State.Spares.set (h : State.Spares k s t) {f : Fld} {v : Nat} (h1 : f.addr ≠ Reg.SOL_STAT k) (h2 : f.addr ≠ Reg.ACT_CNT_DEFTMO) :
    State.Spares k s (t.set f v) :=
  h.trans ⟨fun h => by rw [State.set_sol]; exact h, State.fld_set_word _ _ _ _ (Ne.symm h1), State.rd_set_ne _ _ _ _ (Ne.symm h2)⟩

/-- A field of a channel's word beside its result. -/
theorem State.Spares.setStat (h : State.Spares k s t) {j lo n v : Nat} (hl : lo + n ≤ 4 ∨ 8 ≤ lo) : State.Spares k s (t.set ⟨Reg.SOL_STAT j, lo, n⟩ v) := by
  refine h.trans ⟨fun e => by rw [State.set_sol]; exact e, ?_, State.rd_set_ne _ _ _ _ (by simp only [Reg.SOL_STAT, Reg.ACT_CNT_DEFTMO]; omega)⟩
  by_cases e : k = j
  · rw [e]
    exact State.fld_set_beside _ _ _ _ _ _ _ hl
  · exact State.fld_set_word _ _ _ _ (by simp only [Fd.SOL_STAT_RESULT, Reg.SOL_STAT]; omega)

theorem State.Spares.setState (h : State.Spares k s t) {j v : Nat} : State.Spares k s (t.setSolState j v) :=
  h.setStat (lo := 0) (n := 3) (Or.inl (by decide))

theorem State.Spares.setDip (h : State.Spares k s t) {j v : Nat} : State.Spares k s (t.set (Fd.SOL_STAT_DIP_MS j) v) :=
  h.setStat (lo := 16) (n := 16) (Or.inr (by decide))

theorem State.Spares.setSlot (h : State.Spares k s t) {b v : Nat} : State.Spares k s (t.set (Fd.BANK_STAT_SLOT b) v) := by
  refine h.set ?_ ?_
  all_goals
    simp only [Fd.BANK_STAT_SLOT, Reg.BANK_STAT, Reg.SOL_STAT, Reg.ACT_CNT_DEFTMO]
    omega

theorem State.Spares.counted (h : State.Spares k s t) {a : Nat} (h1 : Reg.SOL_STAT k ≠ a) (h2 : Reg.ACT_CNT_DEFTMO ≠ a) : State.Spares k s (t.count a) :=
  h.trans ⟨fun h => by rw [State.count_sol]; exact h, State.fld_count_ne _ _ _ h1, State.rd_count _ _ _ h2⟩

theorem State.Spares.acts (h : State.Spares k s t) {x : Acts} (hx : x.sol = t.acts.sol) : State.Spares k s { t with acts := x } :=
  h.trans ⟨fun e => by rw [State.sol_congr (t := { t with acts := x }) hx]; exact e, State.fld_mk t _ _ _ _ _ _ _ _ _ _ _ _ _ _ _ _ _ _ _ _ _ _ _ _ _ _ _ _,
    State.rd_mk t _ _ _ _ _ _ _ _ _ _ _ _ _ _ _ _ _ _ _ _ _ _ _ _ _ _ _ _⟩

/-- A channel whose request stays, or becomes another one where there is one. -/
theorem State.Spares.setSol (h : State.Spares k s t) {j : Nat} {x : Sol} (hx : (t.sol j).req = none → x.req = none) : State.Spares k s (t.setSol j x) := by
  refine h.trans ⟨fun hk => ?_, State.setSol_fld _ _ _ _, State.setSol_rd _ _ _ _⟩
  by_cases e : k = j
  · subst e
    rw [State.setSol_sol]
    exact hx hk
  · rw [State.setSol_sol_ne _ _ _ _ e]
    exact hk

theorem State.Spares.raise (h : State.Spares k s t) (hk : k < 64) {f : Fld} {o : Nat} {l : List Nat} (hf : f = Fd.ACT_EVT_PULLBACK ∨ f = Fd.ACT_EVT_DEFER_TMO) :
    State.Spares k s (t.raise f o l) := by
  have hc : eventCode f < 1024 ∧ f.addr = Reg.ACT_EVT := by rcases hf with rfl | rfl <;> exact ⟨by decide, rfl⟩
  have hrd (a : Nat) (h1 : 0x7000010 ≤ a) (h2 : a < 0x77F0000) : (t.raise f o l).rd a = t.rd a :=
    State.raise_rd _ _ _ _ _ _ hc.1 (eventWord_eq_false (by omega) (by omega)) (by rw [hc.2, Reg.ACT_EVT]; omega) (by rw [hc.2, Reg.ACT_EVT]; omega)
  refine h.trans ⟨fun h => by rw [State.raise_sol]; exact h, State.fld_congr (hrd _ ?_ ?_), hrd _ (by decide) (by decide)⟩
  all_goals
    simp only [Fd.SOL_STAT_RESULT, Reg.SOL_STAT]
    omega

theorem State.Spares.switchOff (h : State.Spares k s t) {j p : Nat} {m : Option SolReq} : State.Spares k s (t.switchOff j p m) := by
  rw [t.switchOff_eq j p m _ rfl]
  refine State.Spares.setState (State.Spares.setSlot (State.Spares.setSol h ?_))
  exact fun h => h

theorem State.Spares.yieldSlot (h : State.Spares k s t) {b : Nat} : State.Spares k s (t.yieldSlot b) := by
  unfold State.yieldSlot
  split
  · exact h
  · next j _ =>
    split
    · exact (h.setSol (fun h => by rw [h]; rfl)).switchOff
    · exact h

theorem State.Spares.startPull (h : State.Spares k s t) {j : Nat} {r : SolReq} : State.Spares k s (t.startPull j r) := by
  unfold State.startPull
  split
  · exact h.setState
  · refine State.Spares.setState (State.Spares.setSlot (State.Spares.setDip (State.Spares.setSol h ?_)))
    exact fun h => h

/-- A pull-back leaves the channels. -/
theorem State.Spares.beginPull (h : State.Spares k s t) (hk : k < 64) {n : Nat} : State.Spares k s (t.beginPull n) := by
  have hmark : ∀ (l : List Nat) (u : State), State.Spares k s u → (∀ f ∈ l, f < 32) →
      State.Spares k s (l.foldl (fun s f => s.set (Fd.FAN_STAT_PULLBACK f) 1) u) := by
    intro l u hu hl
    refine List.foldlRecOn l _ (motive := fun u => State.Spares k s u) hu (fun u hu f hf => hu.set ?_ ?_)
    all_goals
      have := hl f hf
      simp only [Fd.FAN_STAT_PULLBACK, Reg.FAN_STAT, Reg.SOL_STAT, Reg.ACT_CNT_DEFTMO]
      omega
  unfold State.beginPull
  dsimp only
  split
  · exact h.acts rfl
  · refine (State.Spares.counted (State.Spares.set (hmark _ _ ?_ ?_) ?_ (by decide)) ?_ (by decide)).raise hk (Or.inl rfl)
    · exact (h.acts rfl).acts rfl
    · exact fun f hf => List.mem_range.mp (List.mem_filter.mp hf).1
    all_goals
      simp only [Fd.ACT_STAT_PULLBACK, Reg.ACT_STAT, Reg.ACT_CNT_PULLBACK, Reg.SOL_STAT]
      omega

theorem State.Spares.admitReq {x : State × Nat × Nat} (h : State.Spares k s x.1) (hk : k < 64) {c : Nat × SolReq} :
    State.Spares k s (State.admitReq x c).1 := by
  unfold State.admitReq
  dsimp only
  generalize (if c.2.op = 4 then 50 else x.1.fld (Fd.SOL_CFG_I_PEAK c.1)) = i
  generalize (if c.2.safety = true then 0 else 10 * x.1.fld Fd.ACT_GOV_RESERVE) = n
  split
  · exact h
  · split
    · exact h.startPull
    · split
      · exact (h.startPull).beginPull hk
      · exact h

end combinators

/-- The arbitration gives no request to a channel without one. -/
theorem State.Spares.arbitrateSol {k : Nat} (h : State.Spares k s t) (hk : k < 64) : State.Spares k s t.arbitrateSol := by
  have hyield : State.Spares k s ((List.range 8).foldl (fun s b => s.yieldSlot b) t) :=
    List.foldlRecOn _ _ (motive := fun t => State.Spares k s t) h (fun t ht b _ => ht.yieldSlot)
  have hadmit (l : List (Nat × SolReq)) (x : State × Nat × Nat) (hx : State.Spares k s x.1) :
      State.Spares k s (l.foldl State.admitReq x).1 :=
    List.foldlRecOn _ _ (motive := fun y : State × Nat × Nat => State.Spares k s y.1) hx (fun y hy c _ => hy.admitReq hk)
  unfold State.arbitrateSol
  dsimp only
  refine List.foldlRecOn _ _ (motive := fun t => State.Spares k s t) (hadmit _ _ hyield) (fun t ht j _ => ?_)
  split
  · next r hr =>
    split
    · exact ht
    · exact (ht.setSol (fun h => by rw [hr] at h; cases h)).counted (by simp only [Reg.SOL_STAT, Reg.ACT_CNT_DEFER]; omega) (by decide)
  · exact ht

theorem State.deferTimeout_eq {k : Nat} {r : SolReq} (hr : (s.sol k).req = some r) (hs : s.solState k = 1) (hj : r.rejoin = none)
    (ht : r.clock + msTicks (s.fld (Fd.SOL_RETRY_DEFER_MS k)) ≤ s.clk.now) :
    s.deferTimeout k = ((s.endRequest k 4).count Reg.ACT_CNT_DEFTMO).raise Fd.ACT_EVT_DEFER_TMO k [] := by
  unfold State.deferTimeout
  rw [hr]
  dsimp only
  rw [if_pos ⟨by omega, by omega, by simp [hj], ht⟩]

theorem exec_solenoidDeferTimeout (s : State) (k : Fin 64) : exec (.solenoidDeferTimeout k) s = .next (
    if s.drives then (s.deferTimeout k).arbitrateSol.isoResults else (s.deferTimeout k).isoResults) := rfl

theorem solenoidDeferTimeout_spec {k : Fin 64} {r : SolReq} (hr : (s.sol k).req = some r) (hs : s.solState k = 1) (hj : r.rejoin = none)
    (ht : r.clock + msTicks (s.fld (Fd.SOL_RETRY_DEFER_MS k)) ≤ s.clk.now) : (s.deferTimeout k).fld (Fd.SOL_STAT_RESULT k) = 4 ∧
      ((s.deferTimeout k).sol k).req = none ∧ (s.deferTimeout k).rd Reg.ACT_CNT_DEFTMO = satCount (s.rd Reg.ACT_CNT_DEFTMO) 1 := by
  have hres := State.endRequest_result (res := 4) hr (by decide)
  have hsol : ((s.endRequest k 4).sol k).req = none := by rw [State.endRequest_sol, if_pos rfl]
  have hcnt : (s.endRequest k 4).rd Reg.ACT_CNT_DEFTMO = s.rd Reg.ACT_CNT_DEFTMO :=
    State.endRequest_rd _ _ _ _ (by simp only [Reg.ACT_CNT_DEFTMO]; omega)
  rw [State.deferTimeout_eq hr hs hj ht]
  generalize s.endRequest k 4 = u at *
  refine ⟨?_, by rw [State.raise_sol, State.count_sol]; exact hsol, ?_⟩
  · simp only [Fd.SOL_STAT_RESULT, Reg.SOL_STAT] at hres
    simp -implicitDefEqProofs (disch := omega) [Fd.SOL_STAT_RESULT, Reg.SOL_STAT, Reg.ACT_CNT_DEFTMO, Fd.ACT_EVT_DEFER_TMO, Reg.ACT_EVT, hres]
  · simp only [Reg.ACT_CNT_DEFTMO] at hcnt
    simp -implicitDefEqProofs (disch := omega) [Reg.ACT_CNT_DEFTMO, Fd.ACT_EVT_DEFER_TMO, Reg.ACT_EVT, hcnt]

/-! ### Repetitions, self-tests and cuts -/

theorem exec_solenoidRetry {k : Fin 64} {r : SolReq} {t0 : Nat} (hr : (s.sol k).req = some r) (hj : r.rejoin = some t0) (ht : t0 ≤ s.clk.now) :
    exec (.solenoidRetry k) s = .next (s.setSol k { s.sol k with req := some { r with rejoin := none, clock := s.clk.now } }) := by
  show Host.Outcome.next (s.rejoin k) = _
  unfold State.rejoin
  rw [hr]
  dsimp only
  rw [if_pos (by simp [hj, ht])]

/-- A channel is tested. -/
def State.noteTest (s : State) (k : Nat) : State := s.setSol k { s.sol k with testAt := s.clk.now }

theorem exec_solenoidSelfTest_open {k : Fin 64} (h0 : s.solState k = 0) (he : s.on Fd.ACT_CTRL_SELFTEST_EN = true) (hs : s.slotTaken (k / 8) = false)
    (hb : s.bankCut (k / 8) = false) (ht : (s.sol k).testAt + sTicks 60 ≤ s.clk.now) (hf : s.fld (Fd.SOL_STAT_FAULT k) = 0) :
    exec (.solenoidSelfTest k 1) s = .next ((s.noteTest k).solFault k 1) := by
  show execSolenoidSelfTest k 1 s = _
  unfold execSolenoidSelfTest
  rw [if_neg (by omega), if_pos ⟨he, Or.inl h0, by simp [hs], by simp [hb], ht⟩]
  have hf' : (s.noteTest k).fld (Fd.SOL_STAT_FAULT k) = 0 := (State.setSol_fld _ _ _ _).trans hf
  refine congrArg _ ?_
  show (if (s.noteTest k).fld (Fd.SOL_STAT_FAULT k) = 1 then s.noteTest k else (s.noteTest k).solFault k 1) = _
  rw [if_neg (by omega)]

/-- A cut of a bank, after protection has judged the ends of its requests. -/
theorem cutBank_isoResults {b : Fin 8} {r : Nat} (h : s.bankCut b = false) (hr : r < 8) : ((s.cutBank b r).isoResults).bankCut b = true ∧
    ((s.cutBank b r).isoResults).fld (Fd.BANK_STAT_REASON b) = r ∧
    ((s.cutBank b r).isoResults).rd Reg.ACT_CNT_CUT = satCount (s.rd Reg.ACT_CNT_CUT) 1 ∧
    ∀ c : Fin 8, ((s.cutBank b r).isoResults).fld (Fd.SOL_STAT_FAULT (8 * b + c)) = s.fld (Fd.SOL_STAT_FAULT (8 * b + c)) := by
  obtain ⟨h1, h2, h3, -, h5⟩ := State.cutBank_spec (s := s) h b.isLt hr
  refine ⟨?_, ?_, ?_, fun c => ?_⟩
  · exact (congrArg (· == 1) (State.isoResults_act _ _ _ _ (by simp only [Reg.BANK_STAT]; omega) (by simp only [Reg.BANK_STAT]; omega))).trans h1
  · exact (State.isoResults_act _ _ _ _ (by simp only [Reg.BANK_STAT]; omega) (by simp only [Reg.BANK_STAT]; omega)).trans h2
  · exact (State.isoResults_actRd _ _ (by decide) (by decide)).trans h3
  · exact (State.isoResults_act _ _ _ _ (by simp only [Reg.SOL_STAT]; omega) (by simp only [Reg.SOL_STAT]; omega)).trans (h5 _ (by omega) (by omega))

theorem exec_bankSupplyReclose {b : Fin 8} {t0 : Nat} (h1 : s.bankCut b = true) (h2 : s.fld (Fd.BANK_STAT_REASON b) = 5)
    (h3 : s.acts.busFrom = some t0) (h4 : t0 + msTicks 100 ≤ s.clk.now) : exec (.bankSupplyReclose b) s = .next (s.reclose b) :=
  congrArg _ (if_pos ⟨h1, h2, by simp [h3, h4]⟩)

theorem exec_bankCut_supply {b : Fin 8} (h : max s.acts.volts.1 s.acts.volts.2 < 3600) : exec (.bankCut b .supply) s = .next (s.cutBank b 5).isoResults :=
  congrArg _ (if_pos h)

theorem exec_bankCut_stuckOn {b c : Fin 8} (h1 : s.solState (8 * b + c) = 0) (h2 : (s.sol (8 * b + c)).offAt + msTicks 5 ≤ s.clk.now) :
    exec (.bankCut b (.stuckOn c)) s = .next ((s.solFault (8 * b + c) 3).cutBank b 2).isoResults := by
  show execBankCut b (.stuckOn c) s = _
  unfold execBankCut
  dsimp only
  rw [if_pos ⟨by omega, by omega, h2⟩]

/-- Settles O32: each event by the step of the sequence it takes: a dip, the end of a pull-in or of a decay, a fault, a repetition, the end of a
deferral (after which the arbitration gives the channel no other request), a self-test, and the cuts and the reclosure of a bank. -/
theorem solenoidSequenceAdvances : Obligations.SolenoidSequenceAdvances := by
  refine ⟨?_, ?_, ?_, ?_, ?_, ?_, ?_, ?_, ?_, ?_, ?_, ?_, ?_, ?_⟩
  · intro k s t0 op h1 h2 h3 h4
    refine ⟨_, exec_solenoidArmatureDip h1 h2 h3 h4, ?_, ?_, (Changes.refl _ _ s).setSol.set.set⟩
    · rw [State.solResult, State.set_sol, State.set_sol, State.setSol_sol]
    · refine (State.fld_set_beside _ _ _ _ _ _ _ (Or.inl (by decide))).trans ((State.fld_set_same _ _ _ _ _ (by decide)).trans (Nat.mod_eq_of_lt ?_))
      omega
  · intro k s t0 d r h1 h2 h3 h4 h5 h6
    obtain ⟨b1, b2, b3⟩ := (s.count (Reg.SOL_OPS k)).beginHold_spec k
    rw [State.count_sol, h5] at b2
    obtain ⟨e1, e2⟩ := State.endRequest_shows (res := 1) b2 (by decide) (by rw [b1]; decide) (by rw [b1]; decide)
    refine ⟨_, (exec_solenoidPullinEnd h1 h2 h4).trans (congrArg _ (State.endPullIn_hold h3 h5 h6)), e1.trans b1, e2, ?_, ?_,
      (((Changes.refl _ _ s).count).step b3).endRequest⟩
    · rw [State.endRequest_sol, if_pos rfl]
    · refine (State.endRequest_rd _ _ _ _ (by simp only [Reg.SOL_OPS]; omega)).trans ((b3.rd ?_ ?_).trans (State.rd_count_same _ _))
      · exact eventWord_eq_false (by simp only [Reg.SOL_OPS]; omega) (by simp only [Reg.SOL_OPS]; omega)
      · simp only [Reg.SOL_OPS, Reg.SOL_STAT, Reg.BANK_STAT, List.mem_cons, List.not_mem_nil, or_false, not_or]
        omega
  · intro k s t0 r h1 h2 h3 h4 h5
    obtain ⟨b1, b2, b3, b4, b5⟩ := ((s.setSol k { s.sol k with req := none }).solResult k 2).switchOff_spec k 2 (some r)
    refine ⟨_, (exec_solenoidPullinEnd h1 h2 h4).trans (congrArg _ (State.endPullIn_still h3 h5)), b1, b2, b3, ?_,
      (((Changes.refl _ _ s).setSol).set).step b5⟩
    rw [b4, State.solResult, State.set_sol, State.setSol_sol]
  · intro k s t0 op r h1 h2 h3 h4 h5
    exact ⟨_, exec_solenoidOpenCoil h1 h2 h3 h4, pullFault_isoResults (by decide) h5⟩
  · intro k s r h1 h2
    exact ⟨_, exec_solenoidShort h1, pullFault_isoResults (by decide) h2⟩
  · intro k s r h1 h2 h3 h4 h5
    obtain ⟨e1, e2, e3, e4⟩ := State.endDecay_spec h2 h3 h4 h5
    have hu : ∃ u, exec (.solenoidDecayEnd k) s = .next (State.isoResults u) ∧ u.acts = (s.endDecay k).acts ∧
        ∀ lo n, u.fld ⟨Reg.SOL_STAT k, lo, n⟩ = (s.endDecay k).fld ⟨Reg.SOL_STAT k, lo, n⟩ := by
      by_cases hk : k.val < 48
      · refine ⟨(s.endDecay k).checkPos k, (exec_solenoidDecayEnd h1).trans (by rw [if_pos hk]), State.checkPos_acts _ _, fun lo n => ?_⟩
        exact State.checkPos_fld _ _ _ _ _ (by simp only [Reg.SOL_STAT]; omega) (by simp only [Reg.SOL_STAT]; omega)
      · exact ⟨s.endDecay k, (exec_solenoidDecayEnd h1).trans (by rw [if_neg hk]), rfl, fun _ _ => rfl⟩
    obtain ⟨u, hx, ha, hw⟩ := hu
    have hw' (lo n : Nat) : u.isoResults.fld ⟨Reg.SOL_STAT k, lo, n⟩ = (s.endDecay k).fld ⟨Reg.SOL_STAT k, lo, n⟩ :=
      (State.isoResults_act _ _ _ _ (by simp only [Reg.SOL_STAT]; omega) (by simp only [Reg.SOL_STAT]; omega)).trans (hw lo n)
    refine ⟨_, hx, (hw' 0 3).trans e1, (hw' 4 4).trans e2, (hw' 11 2).trans e3, ?_⟩
    rw [State.isoResults_sol, State.sol_of ha]
    exact e4
  · intro k s r t0 h1 h2 h3
    refine ⟨_, exec_solenoidRetry h1 h2 h3, ?_, (Changes.refl _ _ s).setSol⟩
    rw [State.setSol_sol]
  · intro k s r h1 h2 h3 h4
    obtain ⟨d1, d2, d3⟩ := solenoidDeferTimeout_spec h1 h2 h3 h4
    have hu : ∃ u, exec (.solenoidDeferTimeout k) s = .next (State.isoResults u) ∧ State.Spares k (s.deferTimeout k) u := by
      by_cases hd : s.drives = true
      · exact ⟨_, (exec_solenoidDeferTimeout s k).trans (by rw [if_pos hd]), (State.Spares.refl _ _).arbitrateSol k.isLt⟩
      · exact ⟨_, (exec_solenoidDeferTimeout s k).trans (by rw [if_neg hd]), State.Spares.refl _ _⟩
    obtain ⟨u, hx, hsp⟩ := hu
    refine ⟨_, hx, ?_, ?_, ?_⟩
    · exact (State.isoResults_act _ _ _ _ (by simp only [Reg.SOL_STAT]; omega) (by simp only [Reg.SOL_STAT]; omega)).trans (hsp.result.trans d1)
    · rw [State.isoResults_sol]
      exact hsp.req d2
    · exact (State.isoResults_actRd _ _ (by decide) (by decide)).trans (hsp.count.trans d3)
  · intro k s h1 h2 h3 h4 h5 h6
    obtain ⟨e1, e2, e3, -, e5⟩ := (s.noteTest k).solFault_spec (c := 1) k.isLt (by decide)
    refine ⟨_, exec_solenoidSelfTest_open h1 h2 h3 h4 h5 h6, e1.trans (if_pos (Or.inl h1)), e2, ?_, e3, ((Changes.refl _ _ s).setSol).solFault⟩
    rw [e5, State.noteTest, State.setSol_sol]
  · intro b s h
    obtain ⟨c1, c2, c3, -⟩ := cutBank_isoResults (r := 1) h (by decide)
    exact ⟨_, rfl, c1, c2, c3⟩
  · intro b s h
    obtain ⟨c1, c2, c3, -⟩ := cutBank_isoResults (r := 4) h (by decide)
    exact ⟨_, rfl, c1, c2, c3⟩
  · intro b s h hv
    obtain ⟨c1, c2, c3, -⟩ := cutBank_isoResults (r := 5) h (by decide)
    exact ⟨_, exec_bankCut_supply hv, c1, c2, c3⟩
  · intro b c s h h0 ho
    obtain ⟨-, f2, -, f4, -⟩ := s.solFault_spec (k := 8 * b + c) (c := 3) (by omega) (by decide)
    obtain ⟨c1, c2, -, c4⟩ := cutBank_isoResults (s := s.solFault (8 * b + c) 3) (b := b) (r := 2)
      ((congrArg (· == 1) (f4 b 0 1 b.isLt)).trans h) (by decide)
    exact ⟨_, exec_bankCut_stuckOn h0 ho, c1, c2, (c4 c).trans f2⟩
  · intro b s t0 h1 h2 h3 h4
    exact ⟨_, exec_bankSupplyReclose h1 h2 h3 h4, s.reclose_spec b⟩

end Sys2Proof.Machine
end

section
-- In order: the one text holds more declarations than asynchronous elaboration has threads for.
set_option Elab.async false

/-! PROOFS. Pump channels (R309, R315 to R320), lockouts (R309), and the faults of proportional valve outputs (R322). -/

namespace Sys2Proof.Machine

variable {ps : List Part} {ws : List Nat} {s t u : State}

/-! ### The part of a pump -/

@[simp] theorem State.set_pump (s : State) (f : Fld) (v p : Nat) : (s.set f v).pump p = s.pump p := State.pump_of (State.set_acts _ _ _) p
@[simp] theorem State.setB_pump (s : State) (f : Fld) (v : Bool) (p : Nat) : (s.setB f v).pump p = s.pump p := State.pump_of (State.setB_acts _ _ _) p
@[simp] theorem State.count_pump (s : State) (a p : Nat) : (s.count a).pump p = s.pump p := State.pump_of (State.count_acts _ _) p
@[simp] theorem State.send_pump (s : State) (o : Out) (p : Nat) : (s.send o).pump p = s.pump p := State.pump_of (State.send_acts _ _) p
@[simp] theorem State.raise_pump (s : State) (f : Fld) (o : Nat) (l : List Nat) (p : Nat) : (s.raise f o l).pump p = s.pump p :=
  State.pump_of (State.raise_acts _ _ _ _ _) p
@[simp] theorem State.afterChecks_pump (s : State) (w a : Nat) (v : Word) (p : Nat) : (s.afterChecks w a v).pump p = s.pump p :=
  State.pump_of (State.afterChecks_acts _ _ _ _) p

/-- What of a pump's channel a command is judged by. -/
structure State.SamePump (p : Nat) (s t : State) : Prop where
  words : ∀ a, t.rd a = s.rd a
  part : t.pump p = s.pump p
  ovr : t.prt = s.prt

theorem State.SamePump.fld {p : Nat} (h : State.SamePump p s t) (f : Fld) : t.fld f = s.fld f := State.fld_congr (h.words _)
theorem State.SamePump.on {p : Nat} (h : State.SamePump p s t) (f : Fld) : t.on f = s.on f := congrArg (· == 1) (h.fld f)
theorem State.SamePump.override {p : Nat} (h : State.SamePump p s t) : t.pumpOverride p = s.pumpOverride p := by
  unfold State.pumpOverride
  rw [h.fld, h.ovr]

theorem State.afterChecks_samePump (s : State) (w a : Nat) (v : Word) (p : Nat) : State.SamePump p s (s.afterChecks w a v) :=
  ⟨State.afterChecks_rd _ _ _ _, State.afterChecks_pump _ _ _ _ _, State.afterChecks_prt _ _ _ _⟩

/-! ### Starts, stops and rests -/

theorem State.startPump_spec (s : State) {p : Nat} (b : Bool) : (s.startPump p b).pumpState p = 1 ∧
    ((s.startPump p b).pump p).intent = (s.pump p).intent ∧ (s.startPump p b).fld (Fd.PMP_DEM_DEMAND p) = s.fld (Fd.PMP_SPD_SPD_MIN p) ∧
    (s.startPump p b).fld (Fd.PMP_STAT_SUBST_VALID p) = s.fld (Fd.PMP_STAT_SUBST_VALID p) ∧
    Changes [.acts] [Reg.PMP_STAT p, Reg.PMP_DEM p] s (s.startPump p b) := by
  have hlo : s.fld (Fd.PMP_SPD_SPD_MIN p) < 65536 := s.fld_lt _
  unfold State.startPump
  dsimp only
  generalize s.fld (Fd.PMP_SPD_SPD_MIN p) = lo at hlo ⊢
  refine ⟨?_, ?_, ?_, ?_, (Changes.refl _ _ s).setPump.set.set.set⟩
  · simp -implicitDefEqProofs (disch := omega) [State.pumpState, Fd.PMP_STAT_STATE, Fd.PMP_STAT_CAUSE, Fd.PMP_DEM_DEMAND, Reg.PMP_STAT, Reg.PMP_DEM]
  · rw [State.set_pump, State.set_pump, State.set_pump, State.setPump_pump]
  · simp -implicitDefEqProofs (disch := omega) [Fd.PMP_DEM_DEMAND, Nat.mod_eq_of_lt hlo]
  · simp -implicitDefEqProofs (disch := omega) [Fd.PMP_STAT_SUBST_VALID, Fd.PMP_STAT_STATE, Fd.PMP_STAT_CAUSE, Fd.PMP_DEM_DEMAND, Reg.PMP_STAT, Reg.PMP_DEM]

theorem State.stopPump_spec {p : Nat} (h1 : 1 ≤ s.pumpState p) (h3 : s.pumpState p ≤ 3) : (s.stopPump p).pumpState p = 4 ∧
    ((s.stopPump p).pump p).intent = (s.pump p).intent ∧ ((s.stopPump p).pump p).ramping = true ∧ Changes [.acts] [Reg.PMP_STAT p] s (s.stopPump p) := by
  have he : s.stopPump p = (s.setPump p { s.pump p with ramping := true, restore := false }).set (Fd.PMP_STAT_STATE p) 4 :=
    if_pos (by simp [State.pumpDriven, h1, h3])
  rw [he]
  refine ⟨State.fld_set_same _ _ _ _ _ (by decide), ?_, ?_, (Changes.refl _ _ s).setPump.set⟩
  all_goals rw [State.set_pump, State.setPump_pump]

/-- A pump without drive shows its state and its cause; its substitution stands. -/
theorem State.pumpOff_spec (s : State) {p st c : Nat} (hst : st < 8) (hc : c < 16) : (s.pumpOff p st c).pumpState p = st ∧
    (s.pumpOff p st c).fld (Fd.PMP_STAT_CAUSE p) = c ∧ (s.pumpOff p st c).fld (Fd.PMP_DEM_DEMAND p) = 0 ∧
    (s.pumpOff p st c).fld (Fd.PMP_STAT_SUBST_VALID p) = s.fld (Fd.PMP_STAT_SUBST_VALID p) ∧
    (s.pumpOff p st c).fld (Fd.PMP_STAT_SUBST p) = s.fld (Fd.PMP_STAT_SUBST p) ∧
    (s.pumpOff p st c).pump p = { s.pump p with dem := 0, ramping := false, restore := false, weakFrom := none } ∧
    Changes [.acts] [Reg.PMP_STAT p, Reg.PMP_DEM p] s (s.pumpOff p st c) := by
  unfold State.pumpOff
  dsimp only
  refine ⟨?_, ?_, ?_, ?_, ?_, ?_, (Changes.refl _ _ s).setPump.set.set.set⟩
  · simp -implicitDefEqProofs (disch := omega) [State.pumpState, Fd.PMP_STAT_STATE, Fd.PMP_STAT_CAUSE, Fd.PMP_DEM_DEMAND, Reg.PMP_STAT, Reg.PMP_DEM,
      Nat.mod_eq_of_lt hst]
  · simp -implicitDefEqProofs (disch := omega) [Fd.PMP_STAT_STATE, Fd.PMP_STAT_CAUSE, Fd.PMP_DEM_DEMAND, Reg.PMP_STAT, Reg.PMP_DEM, Nat.mod_eq_of_lt hc]
  · simp -implicitDefEqProofs (disch := omega) [Fd.PMP_DEM_DEMAND]
  · simp -implicitDefEqProofs (disch := omega) [Fd.PMP_STAT_SUBST_VALID, Fd.PMP_STAT_STATE, Fd.PMP_STAT_CAUSE, Fd.PMP_DEM_DEMAND, Reg.PMP_STAT, Reg.PMP_DEM]
  · simp -implicitDefEqProofs (disch := omega) [Fd.PMP_STAT_SUBST, Fd.PMP_STAT_STATE, Fd.PMP_STAT_CAUSE, Fd.PMP_DEM_DEMAND, Reg.PMP_STAT, Reg.PMP_DEM]
  · rw [State.set_pump, State.set_pump, State.set_pump, State.setPump_pump]

/-! ### Commands -/

theorem exec_pumpStart {w p : Fin 8} (h : s.WriteTaken w (Reg.PMP_CMD p) 1 true) :
    exec (.pumpStart w p) s = .next (((s.afterChecks w (Reg.PMP_CMD p) 1).pumpCmd p 1).send (.wrote w (Reg.PMP_CMD p) 0 0 0)) :=
  congrArg _ (State.writeRow_taken _ h)

theorem exec_pumpStop {w p : Fin 8} (h : s.WriteTaken w (Reg.PMP_CMD p) 2 true) :
    exec (.pumpStop w p) s = .next (((s.afterChecks w (Reg.PMP_CMD p) 2).pumpCmd p 2).send (.wrote w (Reg.PMP_CMD p) 0 0 0)) :=
  congrArg _ (State.writeRow_taken _ h)

theorem exec_pumpAck {w p : Fin 8} (h : s.WriteTaken w (Reg.PMP_CMD p) 3 true) :
    exec (.pumpAck w p) s = .next (((s.afterChecks w (Reg.PMP_CMD p) 3).pumpCmd p 3).send (.wrote w (Reg.PMP_CMD p) 0 0 0)) :=
  congrArg _ (State.writeRow_taken _ h)

theorem exec_pumpRestore {w p : Fin 8} (h : s.WriteTaken w (Reg.PMP_CMD p) 4 true) :
    exec (.pumpRestore w p) s = .next (((s.afterChecks w (Reg.PMP_CMD p) 4).pumpCmd p 4).send (.wrote w (Reg.PMP_CMD p) 0 0 0)) :=
  congrArg _ (State.writeRow_taken _ h)

/-- A pump is meant to run, or no longer. -/
def State.meanPump (s : State) (p : Nat) (b : Bool) : State := s.setPump p { s.pump p with intent := b }

theorem State.pumpCmd_one (s : State) (p : Nat) : s.pumpCmd p 1 = if s.pumpLocked p = true then s else
    if ¬ (s.fld (Fd.PMP_CFG_ROLE p) == 0) = true then s.meanPump p true
    else if s.pumpState p = 0 ∧ ¬ (s.meanPump p true).on (Fd.PMP_STAT_SUBST_VALID p) = true then (s.meanPump p true).startPump p false
    else if s.pumpState p = 4 then (s.meanPump p true).resumePump p false else s.meanPump p true := rfl

theorem State.pumpCmd_two (s : State) (p : Nat) : s.pumpCmd p 2 =
    if ((s.meanPump p false).pumpOverride p).isSome = true then s.meanPump p false else (s.meanPump p false).stopPump p := rfl

/-- An acknowledged pump is off, and its fault input is reset. -/
def State.ackPump (s : State) (p : Nat) : State :=
  (s.pumpOff p 0 0).setPump p { s.pump p with dem := 0, ramping := false, faultReset := true }

theorem State.pumpCmd_three (s : State) (p : Nat) : s.pumpCmd p 3 = if s.pumpState p = 5 ∨ s.pumpState p = 6 then s.ackPump p else s := rfl

/-- A pump that a start brings back ends its redirection once it is proven. -/
def State.restorePump (s : State) (p : Nat) : State := (s.startPump p false).setPump p { (s.startPump p false).pump p with restore := true }

theorem State.pumpCmd_four (s : State) (p : Nat) : s.pumpCmd p 4 = if s.pumpState p = 0 ∧ (s.fld (Fd.PMP_CFG_ROLE p) == 0) = true ∧
    s.on (Fd.PMP_STAT_SUBST_VALID p) = true ∧ ¬ s.pumpLocked p = true then s.restorePump p else s := rfl

@[simp] theorem State.meanPump_fld (s : State) (p : Nat) (b : Bool) (f : Fld) : (s.meanPump p b).fld f = s.fld f := (rfl)
@[simp] theorem State.meanPump_on (s : State) (p : Nat) (b : Bool) (f : Fld) : (s.meanPump p b).on f = s.on f := (rfl)
@[simp] theorem State.meanPump_state (s : State) (p : Nat) (b : Bool) : (s.meanPump p b).pumpState p = s.pumpState p := (rfl)
@[simp] theorem State.meanPump_override (s : State) (p : Nat) (b : Bool) : (s.meanPump p b).pumpOverride p = s.pumpOverride p := (rfl)
@[simp] theorem State.meanPump_intent (s : State) (p : Nat) (b : Bool) : ((s.meanPump p b).pump p).intent = b := by
  rw [State.meanPump, State.setPump_pump]

/-- START of a DUTY pump that is off and has no substitute. -/
theorem State.pumpCmd_start {p : Nat} (hl : s.pumpLocked p = false) (hr : s.fld (Fd.PMP_CFG_ROLE p) = 0) (h0 : s.pumpState p = 0)
    (hs : s.on (Fd.PMP_STAT_SUBST_VALID p) = false) : s.pumpCmd p 1 = (s.meanPump p true).startPump p false := by
  rw [State.pumpCmd_one, if_neg (by simp [hl]), if_neg (by simp [hr]), if_pos ⟨h0, by simp [hs]⟩]

theorem State.pumpCmd_stop {p : Nat} (ho : s.pumpOverride p = none) : s.pumpCmd p 2 = (s.meanPump p false).stopPump p := by
  rw [State.pumpCmd_two, if_neg (by simp [ho])]

theorem State.pumpCmd_restore {p : Nat} (h0 : s.pumpState p = 0) (hr : s.fld (Fd.PMP_CFG_ROLE p) = 0) (hs : s.on (Fd.PMP_STAT_SUBST_VALID p) = true)
    (hl : s.pumpLocked p = false) : s.pumpCmd p 4 = s.restorePump p := by
  rw [State.pumpCmd_four, if_pos ⟨h0, by simp [hr], hs, by simp [hl]⟩]

/-! ### Lockouts -/

/-- Software writes the bits of the lockouts. -/
theorem written_pumpLock : ∀ p : Fin 8, written (Fd.PMP_LOCK_LOCK p) = true := by decide
theorem written_valveLock : ∀ v : Fin 64, written (Fd.VLV_LOCK_LOCK v) = true ∧ written (Fd.VLV_LOCK_LOCKVAL v) = true := by decide
theorem written_solLock : ∀ k : Fin 64, written (Fd.SOL_LOCK_LOCK k) = true := by decide
theorem written_fanLock : ∀ f : Fin 32, written (Fd.FAN_LOCK_LOCK f) = true := by decide

theorem exec_lockoutWrite {w : Fin 8} {c : LockChannel} {v : Word} (h : s.WriteTaken w (lockAddr c) v true) :
    exec (.lockoutWrite w c v) s = .next (((s.afterChecks w (lockAddr c) v).writeLock c v).send (.wrote w (lockAddr c) 0 0 0)) :=
  congrArg _ (State.writeRow_taken _ h)

/-- A bit of a value is 0 or 1, and a mark that is set to it shows it. -/
theorem fieldOf_bit (v : Word) (n : Nat) : (if fieldOf v n 1 == 1 then 1 else 0) = fieldOf v n 1 := by
  have : fieldOf v n 1 < 2 := Nat.mod_lt _ (by decide)
  split
  · next h => exact (beq_iff_eq.mp h).symm
  · next h =>
    rw [beq_iff_eq] at h
    omega

theorem State.setB_fld_same (s : State) (a lo : Nat) (b : Bool) (h : lo < 32) : (s.setB ⟨a, lo, 1⟩ b).fld ⟨a, lo, 1⟩ = if b then 1 else 0 := by
  rw [State.setB, State.fld_set_same _ _ _ _ _ (by omega)]
  cases b <;> rfl

@[simp] theorem State.setB_fld_ne (s : State) (a lo n b lo' n' : Nat) (x : Bool) (h : b ≠ a) :
    (s.setB ⟨a, lo, n⟩ x).fld ⟨b, lo', n'⟩ = s.fld ⟨b, lo', n'⟩ := State.fld_set _ _ _ _ _ _ _ _ h

theorem writeLock_valve (s : State) (v : Fin 64) (x : Word) : (s.writeLock (.valve v) x).fld (Fd.VLV_LOCK_LOCK v) = fieldOf x 31 1 ∧
    (s.writeLock (.valve v) x).fld (Fd.VLV_LOCK_LOCKVAL v) = fieldOf x 0 16 ∧ (s.writeLock (.valve v) x).fld (Fd.VLV_STAT_LOCK v) = fieldOf x 31 1 ∧
    Changes [] [Reg.VLV_LOCK v, Reg.VLV_STAT v] s (s.writeLock (.valve v) x) := by
  have hl := s.fld_plainWrite (Fd.VLV_LOCK_LOCK v) (Reg.VLV_LOCK v) x rfl (written_valveLock v).1
  have hv := s.fld_plainWrite (Fd.VLV_LOCK_LOCKVAL v) (Reg.VLV_LOCK v) x rfl (written_valveLock v).2
  have hne : Reg.VLV_LOCK v ≠ Reg.VLV_STAT v := by simp only [Reg.VLV_LOCK, Reg.VLV_STAT]; omega
  have he : s.writeLock (.valve v) x =
      (s.plainWrite (Reg.VLV_LOCK v) x).setB (Fd.VLV_STAT_LOCK v) ((s.plainWrite (Reg.VLV_LOCK v) x).on (Fd.VLV_LOCK_LOCK v)) := rfl
  rw [he]
  refine ⟨(State.setB_fld_ne _ _ _ _ _ _ _ _ hne).trans hl, (State.setB_fld_ne _ _ _ _ _ _ _ _ hne).trans hv, ?_, (Changes.refl _ _ s).plainWrite.setB⟩
  refine (State.setB_fld_same _ _ _ _ (by decide)).trans ?_
  rw [State.on, hl]
  exact fieldOf_bit x 31

theorem writeLock_fan (s : State) (f : Fin 32) (x : Word) : (s.writeLock (.fan f) x).fld (Fd.FAN_LOCK_LOCK f) = fieldOf x 31 1 ∧
    (s.writeLock (.fan f) x).fld (Fd.FAN_STAT_LOCK f) = fieldOf x 31 1 ∧
    Changes [] [Reg.FAN_LOCK f, Reg.FAN_STAT f] s (s.writeLock (.fan f) x) := by
  have hl := s.fld_plainWrite (Fd.FAN_LOCK_LOCK f) (Reg.FAN_LOCK f) x rfl (written_fanLock f)
  have hne : Reg.FAN_LOCK f ≠ Reg.FAN_STAT f := by simp only [Reg.FAN_LOCK, Reg.FAN_STAT]; omega
  have he : s.writeLock (.fan f) x =
      (s.plainWrite (Reg.FAN_LOCK f) x).setB (Fd.FAN_STAT_LOCK f) ((s.plainWrite (Reg.FAN_LOCK f) x).on (Fd.FAN_LOCK_LOCK f)) := rfl
  rw [he]
  refine ⟨(State.setB_fld_ne _ _ _ _ _ _ _ _ hne).trans hl, ?_, (Changes.refl _ _ s).plainWrite.setB⟩
  refine (State.setB_fld_same _ _ _ _ (by decide)).trans ?_
  rw [State.on, hl]
  exact fieldOf_bit x 31

/-- A lockout of a solenoid that stands already, or that is not set. -/
theorem writeLock_solenoid (k : Fin 64) (x : Word) (h : s.on (Fd.SOL_LOCK_LOCK k) = true ∨ fieldOf x 0 1 = 0) :
    (s.writeLock (.solenoid k) x).fld (Fd.SOL_LOCK_LOCK k) = fieldOf x 0 1 ∧ (s.writeLock (.solenoid k) x).fld (Fd.SOL_STAT_LOCK k) = fieldOf x 0 1 ∧
    Changes [] [Reg.SOL_LOCK k, Reg.SOL_STAT k] s (s.writeLock (.solenoid k) x) := by
  have hl := s.fld_plainWrite (Fd.SOL_LOCK_LOCK k) (Reg.SOL_LOCK k) x rfl (written_solLock k)
  have hne : Reg.SOL_LOCK k ≠ Reg.SOL_STAT k := by simp only [Reg.SOL_LOCK, Reg.SOL_STAT]; omega
  have he : s.writeLock (.solenoid k) x =
      (s.plainWrite (Reg.SOL_LOCK k) x).setB (Fd.SOL_STAT_LOCK k) ((s.plainWrite (Reg.SOL_LOCK k) x).on (Fd.SOL_LOCK_LOCK k)) := by
    refine if_neg ?_
    rintro ⟨h1, h2⟩
    rcases h with h | h
    · exact h2 h
    · have h1' : ((s.plainWrite (Reg.SOL_LOCK k) x).fld (Fd.SOL_LOCK_LOCK k) == 1) = true := h1
      rw [hl] at h1'
      exact absurd (h.symm.trans (beq_iff_eq.mp h1')) (by decide)
  rw [he]
  refine ⟨(State.setB_fld_ne _ _ _ _ _ _ _ _ hne).trans hl, ?_, (Changes.refl _ _ s).plainWrite.setB⟩
  refine (State.setB_fld_same _ _ _ _ (by decide)).trans ?_
  rw [State.on, hl]
  exact fieldOf_bit x 0

/-- A lockout of a pump that runs for itself. -/
theorem writeLock_pump (p : Fin 8) (x : Word) (hx : fieldOf x 0 1 = 1) (hw : s.pumpLocked p = false) (ho : s.pumpOverride p = none)
    (hr : s.fld (Fd.PMP_CFG_ROLE p) ≠ 0) (h1 : 1 ≤ s.pumpState p) (h3 : s.pumpState p ≤ 3) : (s.writeLock (.pump p) x).pumpLocked p = true ∧
      (s.writeLock (.pump p) x).pumpState p = 4 ∧ Changes [.acts] [Reg.PMP_LOCK p, Reg.PMP_STAT p] s (s.writeLock (.pump p) x) := by
  have hl := s.fld_plainWrite (Fd.PMP_LOCK_LOCK p) (Reg.PMP_LOCK p) x rfl (written_pumpLock p)
  have hne : Reg.PMP_LOCK p ≠ Reg.PMP_STAT p := by simp only [Reg.PMP_LOCK, Reg.PMP_STAT]; omega
  have hcfg : Reg.PMP_CFG p ≠ Reg.PMP_LOCK p ∧ Reg.PMP_CFG p ≠ Reg.PMP_STAT p := by simp only [Reg.PMP_CFG, Reg.PMP_LOCK, Reg.PMP_STAT]; omega
  have hlock : (s.plainWrite (Reg.PMP_LOCK p) x).pumpLocked p = true := by rw [State.pumpLocked, State.on, hl]; exact beq_iff_eq.mpr hx
  generalize hu : (s.plainWrite (Reg.PMP_LOCK p) x).setB (Fd.PMP_STAT_LOCK p) true = u
  have hrole : u.fld (Fd.PMP_CFG_ROLE p) = s.fld (Fd.PMP_CFG_ROLE p) := by
    rw [← hu]
    exact (State.setB_fld_ne _ _ _ _ _ _ _ _ hcfg.2).trans (State.fld_plainWrite_ne _ _ _ _ hcfg.1)
  have hprt : u.prt = s.prt := by
    rw [← hu, State.setB_prt]
    exact (State.plainWrite_keeps (F := 33554432) rfl (Keeps.refl _ s)).prt.resolve_left (by decide)
  have hstate : u.pumpState p = s.pumpState p := by
    rw [← hu]
    exact (State.fld_set_beside _ _ _ _ _ _ _ (Or.inr (by decide))).trans (State.fld_plainWrite_ne _ _ _ _ (Ne.symm hne))
  have hc : Changes [.acts] [Reg.PMP_LOCK p, Reg.PMP_STAT p] s u := by
    rw [← hu]
    exact (Changes.refl _ _ s).plainWrite.setB
  have hul : u.pumpLocked p = true := by
    rw [← hu]
    exact (congrArg (· == 1) (State.setB_fld_ne _ _ _ _ _ _ _ _ hne)).trans hlock
  have he : s.writeLock (.pump p) x = u.stopPump p := by
    show (s.plainWrite (Reg.PMP_LOCK p) x).lockPump p (s.pumpLocked p) = _
    unfold State.lockPump
    dsimp only
    rw [hlock, hw, hu, if_pos ⟨rfl, by decide⟩]
    have ho' : u.pumpOverride p = none := by rw [State.pumpOverride, hrole, hprt]; exact ho
    rw [if_neg (by simp [hrole, hr]), if_neg (by simp [ho'])]
  obtain ⟨e1, -, -, e2⟩ := State.stopPump_spec (s := u) (p := p) (by omega) (by omega)
  rw [he]
  refine ⟨?_, e1, hc.step e2⟩
  refine (congrArg (· == 1) (e2.fld ?_ ?_)).trans hul
  · exact eventWord_eq_false (by simp only [Fd.PMP_LOCK_LOCK, Reg.PMP_LOCK]; omega) (by simp only [Fd.PMP_LOCK_LOCK, Reg.PMP_LOCK]; omega)
  · exact fun h => hne (List.mem_singleton.mp h)

/-! ### Sequences, trips and valves -/

theorem exec_pumpDriveReady {p : Fin 8} (h1 : s.pumpState p = 1) (h2 : s.driveReady p = true) : exec (.pumpDriveReady p) s = .next (
    (s.setPump p { s.pump p with ramping := true }).set (Fd.PMP_STAT_STATE p) 2) := congrArg _ (if_pos ⟨h1, h2⟩)

theorem exec_pumpProven {p : Fin 8} (h1 : s.pumpState p = 2) (h2 : s.pumpProof p = true)
    (h3 : s.clk.now < (s.pump p).start + 10000 * s.fld (Fd.PMP_SEQ_T_PROVE p)) : exec (.pumpProven p) s = .next (s.provePump p) :=
  congrArg _ (if_pos ⟨h1, h2, h3⟩)

/-- A proven pump runs and its start is counted. -/
def State.pumpRuns (s : State) (p : Nat) : State :=
  let s := (s.set (Fd.PMP_STAT_STATE p) 3).count (Reg.PMP_STARTS p)
  s.setPump p { s.pump p with byProt := false }

theorem State.provePump_plain {p : Nat} (h : (s.pump p).restore = false) : s.provePump p = s.pumpRuns p := by
  have hr : ((s.pumpRuns p).pump p).restore = false := by
    rw [State.pumpRuns, State.setPump_pump, State.count_pump, State.set_pump]
    exact h
  unfold State.provePump
  exact if_neg (by rw [← State.pumpRuns, hr]; decide)

theorem State.pumpRuns_spec (s : State) (p : Nat) : (s.pumpRuns p).pumpState p = 3 ∧
    (s.pumpRuns p).rd (Reg.PMP_STARTS p) = satCount (s.rd (Reg.PMP_STARTS p)) 1 ∧ Changes [.acts] [Reg.PMP_STAT p, Reg.PMP_STARTS p] s (s.pumpRuns p) := by
  unfold State.pumpRuns
  refine ⟨?_, ?_, (Changes.refl _ _ s).set.count.setPump⟩
  all_goals simp -implicitDefEqProofs (disch := omega) [State.pumpState, Fd.PMP_STAT_STATE, Reg.PMP_STAT, Reg.PMP_STARTS]

/-- What follows the loss of a pump that stands in for none, that needs no substitute and that protection has not started: nothing. -/
theorem State.pumpLost_idle {p : Nat} {b : Bool} (h1 : (s.pump p).standsFor = none) (h2 : s.fld (Fd.PMP_CFG_ROLE p) ≠ 0 ∨ s.on (Fd.PMP_STAT_SUBST_VALID p) = true)
    (h3 : (s.pump p).byProt = false) : s.pumpLost p b = s := by
  unfold State.pumpLost
  rw [h1]
  dsimp only
  rw [if_neg (fun h => h2.elim (fun e => e h.1) (fun e => h.2 e)), if_neg (by simp [h3])]

/-- A start that fails is told. -/
def State.tellFailStart (s : State) (p c : Nat) : State := (s.pumpOff p 6 c).raise Fd.ACT_EVT_PMP_FAIL_START p [c]

theorem State.tellFailStart_spec (s : State) {p c : Nat} (hp : p < 8) (hc : c < 16) : (s.tellFailStart p c).pumpState p = 6 ∧
    (s.tellFailStart p c).fld (Fd.PMP_STAT_CAUSE p) = c ∧ (s.tellFailStart p c).fld (Fd.PMP_DEM_DEMAND p) = 0 ∧
    (s.tellFailStart p c).fld (Fd.PMP_STAT_SUBST_VALID p) = s.fld (Fd.PMP_STAT_SUBST_VALID p) ∧
    (s.tellFailStart p c).on Fd.ACT_EVT_PMP_FAIL_START = true ∧
    (s.tellFailStart p c).pump p = { s.pump p with dem := 0, ramping := false, restore := false, weakFrom := none } := by
  obtain ⟨h1, h2, h3, h4, -, h6, -⟩ := s.pumpOff_spec (p := p) (st := 6) (by decide) hc
  unfold State.tellFailStart
  generalize s.pumpOff p 6 c = u at *
  simp only [State.pumpState, Fd.PMP_STAT_STATE, Fd.PMP_STAT_CAUSE, Fd.PMP_DEM_DEMAND, Fd.PMP_STAT_SUBST_VALID, Reg.PMP_STAT, Reg.PMP_DEM] at h1 h2 h3 h4
  refine ⟨?_, ?_, ?_, ?_, ?_, by rw [State.raise_pump, h6]⟩
  all_goals simp -implicitDefEqProofs (disch := omega) [State.pumpState, State.on, Fd.PMP_STAT_STATE, Fd.PMP_STAT_CAUSE, Fd.PMP_DEM_DEMAND,
    Fd.PMP_STAT_SUBST_VALID, Reg.PMP_STAT, Reg.PMP_DEM, Fd.ACT_EVT_PMP_FAIL_START, Reg.ACT_EVT, h1, h2, h3, h4]

theorem State.failStart_plain {p c : Nat} (hp : p < 8) (hc : c < 16) (h1 : (s.pump p).standsFor = none) (h2 : s.on (Fd.PMP_STAT_SUBST_VALID p) = true)
    (h3 : (s.pump p).byProt = false) : s.failStart p c = s.tellFailStart p c := by
  obtain ⟨-, -, -, e4, -, e6⟩ := s.tellFailStart_spec hp hc
  exact State.pumpLost_idle (by rw [← State.tellFailStart, e6]; exact h1)
    (Or.inr (by rw [← State.tellFailStart, State.on, e4]; exact h2)) (by rw [← State.tellFailStart, e6]; exact h3)

theorem exec_pumpReadyTimeout {p : Fin 8} (h1 : s.pumpState p = 1) (h2 : s.driveReady p = false)
    (h3 : (s.pump p).start + 10000 * s.fld (Fd.PMP_SEQ_T_READY p) ≤ s.clk.now) : exec (.pumpReadyTimeout p) s = .next (s.failStart p 4) :=
  congrArg _ (if_pos ⟨h1, by simp [h2], h3⟩)

theorem exec_pumpProofTimeout {p : Fin 8} (h1 : s.pumpState p = 2) (h3 : (s.pump p).start + 10000 * s.fld (Fd.PMP_SEQ_T_PROVE p) ≤ s.clk.now) :
    exec (.pumpProofTimeout p) s = .next (s.failStart p 5) := congrArg _ (if_pos ⟨Or.inr h1, h3⟩)

theorem exec_pumpStopComplete {p : Fin 8} (h1 : s.pumpState p = 4) (h3 : (s.pump p).dem ≤ s.fld (Fd.PMP_SPD_SPD_MIN p) * rampUnit) :
    exec (.pumpStopComplete p) s = .next (s.pumpOff p 0 0) := congrArg _ (if_pos ⟨h1, h3⟩)

/-- A trip is counted and told. -/
def State.tellTrip (s : State) (p c : Nat) : State := ((s.pumpOff p 5 c).count Reg.ACT_CNT_TRIP).raise Fd.ACT_EVT_PMP_TRIP p [c]

theorem State.tellTrip_spec (s : State) {p c : Nat} (hp : p < 8) (hc : c < 16) : (s.tellTrip p c).pumpState p = 5 ∧
    (s.tellTrip p c).fld (Fd.PMP_STAT_CAUSE p) = c ∧ (s.tellTrip p c).fld (Fd.PMP_DEM_DEMAND p) = 0 ∧
    (s.tellTrip p c).rd Reg.ACT_CNT_TRIP = satCount (s.rd Reg.ACT_CNT_TRIP) 1 ∧ (s.tellTrip p c).on Fd.ACT_EVT_PMP_TRIP = true ∧
    (s.tellTrip p c).pump p = { s.pump p with dem := 0, ramping := false, restore := false, weakFrom := none } ∧
    Changes [.acts, .firn] [Reg.PMP_STAT p, Reg.PMP_DEM p, Reg.ACT_CNT_TRIP, Reg.ACT_EVT, Reg.ACT_EVT_SEQ] s (s.tellTrip p c) := by
  obtain ⟨h1, h2, h3, -, -, h6, h7⟩ := s.pumpOff_spec (p := p) (st := 5) (by decide) hc
  have hcnt : (s.pumpOff p 5 c).rd Reg.ACT_CNT_TRIP = s.rd Reg.ACT_CNT_TRIP := by
    refine h7.rd (eventWord_eq_false (by decide) (by decide)) ?_
    simp only [Reg.ACT_CNT_TRIP, Reg.PMP_STAT, Reg.PMP_DEM, List.mem_cons, List.not_mem_nil, or_false, not_or]
    omega
  unfold State.tellTrip
  generalize s.pumpOff p 5 c = u at *
  simp only [State.pumpState, Fd.PMP_STAT_STATE, Fd.PMP_STAT_CAUSE, Fd.PMP_DEM_DEMAND, Reg.PMP_STAT, Reg.PMP_DEM, Reg.ACT_CNT_TRIP] at h1 h2 h3 hcnt
  refine ⟨?_, ?_, ?_, ?_, ?_, by rw [State.raise_pump, State.count_pump, h6], ((Changes.refl _ _ s).step h7).count.raise⟩
  all_goals simp -implicitDefEqProofs (disch := omega) [State.pumpState, State.on, Fd.PMP_STAT_STATE, Fd.PMP_STAT_CAUSE, Fd.PMP_DEM_DEMAND,
    Reg.PMP_STAT, Reg.PMP_DEM, Reg.ACT_CNT_TRIP, Fd.ACT_EVT_PMP_TRIP, Reg.ACT_EVT, h1, h2, h3, hcnt]

theorem State.tripPump_plain {p c : Nat} (hp : p < 8) (hc : c < 16) (h1 : (s.pump p).standsFor = none) (h2 : s.fld (Fd.PMP_CFG_ROLE p) = 1)
    (h3 : (s.pump p).byProt = false) : s.tripPump p c = s.tellTrip p c := by
  obtain ⟨-, -, -, -, -, e6, e7⟩ := s.tellTrip_spec hp hc
  have hrole : (s.tellTrip p c).fld (Fd.PMP_CFG_ROLE p) = s.fld (Fd.PMP_CFG_ROLE p) := by
    refine e7.fld (eventWord_eq_false ?_ ?_) ?_
    all_goals simp only [Fd.PMP_CFG_ROLE, Reg.PMP_CFG, Reg.PMP_STAT, Reg.PMP_DEM, Reg.ACT_CNT_TRIP, Reg.ACT_EVT, Reg.ACT_EVT_SEQ, List.mem_cons,
      List.not_mem_nil, or_false, not_or]
    all_goals omega
  exact State.pumpLost_idle (by rw [← State.tellTrip, e6]; exact h1) (Or.inl (by rw [← State.tellTrip, hrole, h2]; decide))
    (by rw [← State.tellTrip, e6]; exact h3)

theorem exec_pumpTrip {p : Fin 8} {c : Fin 3} (h : s.tripHolds p (c + 1) = true) : exec (.pumpTrip p c) s = .next (s.tripPump p (c + 1)).pumpTripped :=
  congrArg _ (if_pos h)

theorem State.pumpTripped_idle (h : s.rd Reg.PRT_QNOM = 0) : s.pumpTripped = s := if_pos (Or.inl h)

theorem exec_valveFault {v : Fin 64} (h1 : (s.valve v).cond ≠ 0) (h2 : (s.valve v).condFrom + msTicks 50 ≤ s.clk.now)
    (h3 : s.fld (Fd.VLV_STAT_FAULT v) ≠ (s.valve v).cond) : exec (.valveFault v) s = .next (
      (s.set (Fd.VLV_STAT_FAULT v) (s.valve v).cond).raise Fd.ACT_EVT_VLV_FAULT v [(s.valve v).cond]) := congrArg _ (if_pos ⟨h1, h2, h3⟩)

theorem valveFault_spec (s : State) {v c : Nat} (hv : v < 64) (hc : c < 4) :
    let t := (s.set (Fd.VLV_STAT_FAULT v) c).raise Fd.ACT_EVT_VLV_FAULT v [c]
    t.fld (Fd.VLV_STAT_FAULT v) = c ∧ t.on Fd.ACT_EVT_VLV_FAULT = true ∧ Changes [.firn] [Reg.VLV_STAT v, Reg.ACT_EVT, Reg.ACT_EVT_SEQ] s t := by
  refine ⟨?_, ?_, (Changes.refl _ _ s).set.raise⟩
  all_goals simp -implicitDefEqProofs (disch := omega) [State.on, Fd.VLV_STAT_FAULT, Reg.VLV_STAT, Fd.ACT_EVT_VLV_FAULT, Reg.ACT_EVT, Nat.mod_eq_of_lt hc]

theorem exec_valveDeviation {v : Fin 64} {f : Nat} (h1 : s.on (Fd.VLV_STAT_DEV v) = false) (h2 : (s.valve v).devFrom = some f)
    (h3 : f + 10000 * s.fld (Fd.VLV_CFG_DEV_T v) ≤ s.clk.now) : exec (.valveDeviation v) s = .next (
      (s.set (Fd.VLV_STAT_DEV v) 1).raise Fd.ACT_EVT_VLV_DEV v []) := congrArg _ (if_pos ⟨by simp [h1], by simp [h2, h3]⟩)

theorem valveDeviation_spec (s : State) {v : Nat} (hv : v < 64) :
    let t := (s.set (Fd.VLV_STAT_DEV v) 1).raise Fd.ACT_EVT_VLV_DEV v []
    t.on (Fd.VLV_STAT_DEV v) = true ∧ t.on Fd.ACT_EVT_VLV_DEV = true ∧ Changes [.firn] [Reg.VLV_STAT v, Reg.ACT_EVT, Reg.ACT_EVT_SEQ] s t := by
  refine ⟨?_, ?_, (Changes.refl _ _ s).set.raise⟩
  all_goals simp -implicitDefEqProofs (disch := omega) [State.on, Fd.VLV_STAT_DEV, Reg.VLV_STAT, Fd.ACT_EVT_VLV_DEV, Reg.ACT_EVT]

/-! ### What the commands of pumps and valves leave -/

theorem State.ackPump_spec (s : State) (p : Nat) : (s.ackPump p).pumpState p = 0 ∧
    (s.ackPump p).on (Fd.PMP_STAT_SUBST_VALID p) = s.on (Fd.PMP_STAT_SUBST_VALID p) ∧
    (s.ackPump p).fld (Fd.PMP_STAT_SUBST p) = s.fld (Fd.PMP_STAT_SUBST p) ∧ Changes [.acts] [Reg.PMP_STAT p, Reg.PMP_DEM p] s (s.ackPump p) := by
  obtain ⟨h1, -, -, h4, h5, -, h7⟩ := s.pumpOff_spec (p := p) (st := 0) (c := 0) (by decide) (by decide)
  refine ⟨(State.setPump_fld _ _ _ _).trans h1, congrArg (· == 1) ((State.setPump_fld _ _ _ _).trans h4), (State.setPump_fld _ _ _ _).trans h5, ?_⟩
  exact ((Changes.refl _ _ s).step h7).setPump

theorem State.restorePump_spec (s : State) (p : Nat) : (s.restorePump p).pumpState p = 1 ∧ ((s.restorePump p).pump p).restore = true ∧
    (s.restorePump p).on (Fd.PMP_STAT_SUBST_VALID p) = s.on (Fd.PMP_STAT_SUBST_VALID p) ∧
    Changes [.acts] [Reg.PMP_STAT p, Reg.PMP_DEM p] s (s.restorePump p) := by
  obtain ⟨h1, -, -, h4, h5⟩ := s.startPump_spec (p := p) false
  refine ⟨(State.setPump_fld _ _ _ _).trans h1, ?_, congrArg (· == 1) ((State.setPump_fld _ _ _ _).trans h4), ((Changes.refl _ _ s).step h5).setPump⟩
  rw [State.restorePump, State.setPump_pump]

/-- Settles O30: the commands of a pump by the start, stop and rest they cause, lockouts by the word they write and the mark that shows it, and
time-outs and trips of a pump that no substitution follows. -/
theorem pumpsAreCommandedAdvanceAndTrip : Obligations.PumpsAreCommandedAdvanceAndTrip := by
  refine ⟨?_, ?_, ?_, ?_, ?_, ?_, ?_, ?_, ?_, ?_, ?_, ?_, ?_, ?_, ?_, ?_⟩
  · intro w p s h hl hr h0 hs
    have hk := s.afterChecks_samePump w (Reg.PMP_CMD p) 1 p
    have hcmd := State.pumpCmd_start (s := s.afterChecks w (Reg.PMP_CMD p) 1) (p := p) ((hk.on _).trans hl) ((hk.fld _).trans hr)
      ((hk.fld _).trans h0) ((hk.on _).trans hs)
    obtain ⟨e1, e2, e3, -, e5⟩ := ((s.afterChecks w (Reg.PMP_CMD p) 1).meanPump p true).startPump_spec (p := p) false
    refine ⟨_, exec_pumpStart h, WroteOk.send _ _ _, ?_⟩
    rw [hcmd, State.pumpState, State.send_fld, State.send_pump, State.send_fld]
    refine ⟨e1, e2.trans (State.meanPump_intent _ _ _), e3.trans ((State.meanPump_fld _ _ _ _).trans (hk.fld _)), ?_⟩
    exact (((Changes.refl _ _ s).afterChecks.setPump).step e5).send
  · intro w p s h ho h1 h3
    have hk := s.afterChecks_samePump w (Reg.PMP_CMD p) 2 p
    have hst : (s.afterChecks w (Reg.PMP_CMD p) 2).pumpState p = s.pumpState p := hk.fld _
    have hcmd := State.pumpCmd_stop (s := s.afterChecks w (Reg.PMP_CMD p) 2) (p := p) (hk.override.trans ho)
    obtain ⟨e1, e2, e3, e4⟩ := State.stopPump_spec (s := (s.afterChecks w (Reg.PMP_CMD p) 2).meanPump p false) (p := p)
      (by rw [State.meanPump_state, hst]; exact h1) (by rw [State.meanPump_state, hst]; exact h3)
    refine ⟨_, exec_pumpStop h, WroteOk.send _ _ _, ?_⟩
    rw [hcmd, State.pumpState, State.send_fld, State.send_pump]
    exact ⟨e1, e2.trans (State.meanPump_intent _ _ _), e3, (((Changes.refl _ _ s).afterChecks.setPump).step e4).send⟩
  · intro w p s h hst
    have hk := s.afterChecks_samePump w (Reg.PMP_CMD p) 3 p
    have hcmd : (s.afterChecks w (Reg.PMP_CMD p) 3).pumpCmd p 3 = (s.afterChecks w (Reg.PMP_CMD p) 3).ackPump p := by
      rw [State.pumpCmd_three, if_pos]
      exact hst.imp (hk.fld _).trans (hk.fld _).trans
    obtain ⟨e1, e2, e3, e4⟩ := (s.afterChecks w (Reg.PMP_CMD p) 3).ackPump_spec p
    refine ⟨_, exec_pumpAck h, WroteOk.send _ _ _, ?_⟩
    rw [hcmd, State.pumpState, State.send_fld, State.send_fld, State.send_on]
    exact ⟨e1, e2.trans (hk.on _), e3.trans (hk.fld _), ((Changes.refl _ _ s).afterChecks.step e4).send⟩
  · intro w p s h h0 hr hs hl
    have hk := s.afterChecks_samePump w (Reg.PMP_CMD p) 4 p
    have hcmd := State.pumpCmd_restore (s := s.afterChecks w (Reg.PMP_CMD p) 4) (p := p) ((hk.fld _).trans h0) ((hk.fld _).trans hr)
      ((hk.on _).trans hs) ((hk.on _).trans hl)
    obtain ⟨e1, e2, e3, e4⟩ := (s.afterChecks w (Reg.PMP_CMD p) 4).restorePump_spec p
    refine ⟨_, exec_pumpRestore h, WroteOk.send _ _ _, ?_⟩
    rw [hcmd, State.pumpState, State.send_fld, State.send_on, State.send_pump]
    exact ⟨e1, e2, e3.trans ((hk.on _).trans hs), ((Changes.refl _ _ s).afterChecks.step e4).send⟩
  · intro w v x s h
    obtain ⟨e1, e2, e3, e4⟩ := writeLock_valve (s.afterChecks w (Reg.VLV_LOCK v) x) v x
    refine ⟨_, exec_lockoutWrite (c := .valve v) h, WroteOk.send _ _ _, ?_⟩
    rw [State.send_fld, State.send_fld, State.send_fld]
    exact ⟨e1, e2, e3, ((Changes.refl _ _ s).afterChecks.step e4).send⟩
  · intro w f x s h
    obtain ⟨e1, e2, e3⟩ := writeLock_fan (s.afterChecks w (Reg.FAN_LOCK f) x) f x
    refine ⟨_, exec_lockoutWrite (c := .fan f) h, WroteOk.send _ _ _, ?_⟩
    rw [State.send_fld, State.send_fld]
    exact ⟨e1, e2, ((Changes.refl _ _ s).afterChecks.step e3).send⟩
  · intro w k x s h hx
    obtain ⟨e1, e2, e3⟩ := writeLock_solenoid (s := s.afterChecks w (Reg.SOL_LOCK k) x) k x
      (hx.imp_left (fun e => (State.afterChecks_on _ _ _ _ _).trans e))
    refine ⟨_, exec_lockoutWrite (c := .solenoid k) h, WroteOk.send _ _ _, ?_⟩
    rw [State.send_fld, State.send_fld]
    exact ⟨e1, e2, ((Changes.refl _ _ s).afterChecks.step e3).send⟩
  · intro w p x s h hx hl ho hr h1 h3
    have hk := s.afterChecks_samePump w (Reg.PMP_LOCK p) x p
    have hst : (s.afterChecks w (Reg.PMP_LOCK p) x).pumpState p = s.pumpState p := hk.fld _
    obtain ⟨e1, e2, e3⟩ := writeLock_pump (s := s.afterChecks w (Reg.PMP_LOCK p) x) p x hx ((hk.on _).trans hl) (hk.override.trans ho)
      (by rw [hk.fld]; exact hr) (by rw [hst]; exact h1) (by rw [hst]; exact h3)
    refine ⟨_, exec_lockoutWrite (c := .pump p) h, ?_⟩
    rw [State.pumpLocked, State.pumpState, State.send_fld, State.send_on]
    exact ⟨e1, e2, ((Changes.refl _ _ s).afterChecks.step e3).send⟩
  · intro p s h1 h2
    refine ⟨_, exec_pumpDriveReady h1 h2, State.fld_set_same _ _ _ _ _ (by decide), ?_, (Changes.refl _ _ s).setPump.set⟩
    rw [State.set_pump, State.setPump_pump]
  · intro p s h1 h2 h3 h4
    exact ⟨_, (exec_pumpProven h1 h2 h3).trans (congrArg _ (State.provePump_plain h4)), s.pumpRuns_spec p⟩
  · intro p s h1 h2 h3 h4 h5 h6
    obtain ⟨e1, e2, e3, -, e5, -⟩ := s.tellFailStart_spec (c := 4) p.isLt (by decide)
    refine ⟨_, (exec_pumpReadyTimeout h1 h2 h3).trans (congrArg _ (State.failStart_plain p.isLt (by decide) h4 h5 h6)), e1, e2, e3, e5, ?_⟩
    exact (State.raise_keeps rfl (State.pumpOff_keeps (F := Part.acts.bit ||| Part.regs.bit ||| Part.firn.bit) rfl (Keeps.refl _ s))).only _
      (fun p => by cases p <;> decide)
  · intro p s h1 h3 h4 h5 h6
    obtain ⟨e1, e2, e3, -, e5, -⟩ := s.tellFailStart_spec (c := 5) p.isLt (by decide)
    exact ⟨_, (exec_pumpProofTimeout h1 h3).trans (congrArg _ (State.failStart_plain p.isLt (by decide) h4 h5 h6)), e1, e2, e3, e5⟩
  · intro p s h1 h2
    obtain ⟨e1, -, e3, -, -, e6, e7⟩ := s.pumpOff_spec (p := p) (st := 0) (c := 0) (by decide) (by decide)
    exact ⟨_, exec_pumpStopComplete h1 h2, e1, e3, by rw [e6], e7⟩
  · intro p c s h hq hs hr hb
    obtain ⟨e1, e2, e3, e4, e5, e6, e7⟩ := s.tellTrip_spec (c := c + 1) p.isLt (by omega)
    have hq' : (s.tellTrip p (c + 1)).rd Reg.PRT_QNOM = 0 := by
      refine (e7.rd (eventWord_eq_false (by decide) (by decide)) ?_).trans hq
      simp only [Reg.PRT_QNOM, Reg.PMP_STAT, Reg.PMP_DEM, Reg.ACT_CNT_TRIP, Reg.ACT_EVT, Reg.ACT_EVT_SEQ, List.mem_cons, List.not_mem_nil, or_false, not_or]
      omega
    refine ⟨s.tellTrip p (c + 1), (exec_pumpTrip h).trans (congrArg _ ?_), e1, e2, e3, by rw [e6], e4, e5, e7⟩
    rw [State.tripPump_plain p.isLt (by omega) hs hr hb, State.pumpTripped_idle hq']
  · intro v s h0 h4 ht hf
    exact ⟨_, exec_valveFault h0 ht hf, valveFault_spec s v.isLt h4⟩
  · intro v s f h1 h2 h3
    exact ⟨_, exec_valveDeviation h1 h2 h3, valveDeviation_spec s v.isLt⟩

end Sys2Proof.Machine
end

section
-- In order: the one text holds more declarations than asynchronous elaboration has threads for.
set_option Elab.async false

/-! PROOFS. Program slots: loading and verification (R153 to R156), the switch of the slots in force (R160 to R163) and the partition (R166). -/

namespace Sys2Proof.Machine

variable {ps : List Part} {ws : List Nat} {s t u : State}

/-! ### What the checks of a write leave as they were -/

@[simp] theorem State.afterChecks_slotImg (s : State) (w a : Nat) (v : Word) (k : Nat) : (s.afterChecks w a v).slotImg k = s.slotImg k :=
  congrArg (fun x : Icefield => (Tab.find x.slots k).bind (·.img)) (State.afterChecks_ice _ _ _ _)

/-- Nothing that the switch judges reads the ownership of a domain. -/
theorem State.switchResult_zh (s : State) (z : Zhoide) (act : ActiveSet) (p : Word) (cfg : List (Nat × Word)) :
    ({ s with zh := z } : State).switchResult act p cfg = s.switchResult act p cfg := by
  rfl

theorem State.afterChecks_switchResult (s : State) (w a : Nat) (v : Word) (act : ActiveSet) (p : Word) (cfg : List (Nat × Word)) :
    (s.afterChecks w a v).switchResult act p cfg = s.switchResult act p cfg := by
  obtain ⟨z, h⟩ := s.afterChecks_eq w a v
  rw [h]; exact State.switchResult_zh s z act p cfg

theorem State.afterChecks_setWith (s : State) (w a : Nat) (v : Word) (k : Nat) (g : Img) : (s.afterChecks w a v).setWith k g = s.setWith k g := by
  obtain ⟨z, h⟩ := s.afterChecks_eq w a v
  rw [h]; rfl

theorem State.afterChecks_activeSet (s : State) (w a : Nat) (v : Word) : (s.afterChecks w a v).activeSet = s.activeSet := by
  obtain ⟨z, h⟩ := s.afterChecks_eq w a v
  rw [h]; rfl

theorem State.afterChecks_streamCfg (s : State) (w a : Nat) (v : Word) : (s.afterChecks w a v).streamCfg = s.streamCfg := by
  obtain ⟨z, h⟩ := s.afterChecks_eq w a v
  rw [h]; rfl

theorem State.afterChecks_overTime (s : State) (w a : Nat) (v : Word) (act : ActiveSet) (p : Word) (cfg : List (Nat × Word)) :
    (s.afterChecks w a v).overTime act p cfg = s.overTime act p cfg := by
  obtain ⟨z, h⟩ := s.afterChecks_eq w a v
  rw [h]; rfl

theorem State.afterChecks_overBandwidth (s : State) (w a : Nat) (v : Word) (act : ActiveSet) (cfg : List (Nat × Word)) :
    (s.afterChecks w a v).overBandwidth act cfg = s.overBandwidth act cfg := by
  obtain ⟨z, h⟩ := s.afterChecks_eq w a v
  rw [h]; rfl

/-! ### The registers of a slot -/

/-- The registers that show the image of a slot. -/
def slotWords (k : Nat) : List Nat :=
  [Reg.SLOT_STAT k, Reg.SLOT_WCC k, Reg.SLOT_WREQ k, Reg.SLOT_UPDQ k] ++ (List.range 8).map (Reg.SLOT_HASH k)

/-- The words of a hash are written one by one. -/
def State.wrHash (s : State) (k : Nat) (l : List Word) : State := (List.range 8).foldl (fun s j => s.wr (Reg.SLOT_HASH k j) (l.getD j 0)) s

theorem Changes.wrHash (h : Changes ps ws s t) {k : Nat} {l : List Word} (hw : ∀ a ∈ slotWords k, a ∈ ws) : Changes ps ws s (t.wrHash k l) :=
  List.foldlRecOn _ _ (motive := fun (t : State) => Changes ps ws s t) h (fun _ ht _ hj =>
    ht.wr (hw _ (List.mem_append_right _ (List.mem_map_of_mem hj))))

theorem State.wrHash_stat (s : State) (k : Nat) (l : List Word) : (s.wrHash k l).rd (Reg.SLOT_STAT k) = s.rd (Reg.SLOT_STAT k) :=
  List.foldlRecOn _ _ (motive := fun (t : State) => t.rd (Reg.SLOT_STAT k) = s.rd (Reg.SLOT_STAT k)) rfl (fun t ht j hj => by
    have hj := List.mem_range.mp hj
    rw [State.rd_wr_ne _ _ _ _ (by simp only [Reg.SLOT_STAT, Reg.SLOT_HASH]; omega), ht])

theorem State.showSlot_eq (s : State) (k : Nat) (g : Option Img) : s.showSlot k g =
    (((((s.set (Fd.SLOT_STAT_ROLE k) (g.elim 0 (·.role))).set (Fd.SLOT_STAT_LTILES k) (g.elim 0 (·.ltiles))).wr
      (Reg.SLOT_WCC k) (BitVec.ofNat 32 (g.elim 0 (·.wcc)))).wr (Reg.SLOT_WREQ k) (BitVec.ofNat 32 (g.elim 0 (·.wreq)))).wr
      (Reg.SLOT_UPDQ k) (BitVec.ofNat 32 (g.elim 0 (·.updq)))).wrHash k (g.elim [] (fun g => leWords g.hash)) := rfl

theorem Changes.showSlot (h : Changes ps ws s t) {k : Nat} {g : Option Img} (hw : ∀ a ∈ slotWords k, a ∈ ws) :
    Changes ps ws s (t.showSlot k g) := by
  have hm : ∀ a ∈ [Reg.SLOT_STAT k, Reg.SLOT_WCC k, Reg.SLOT_WREQ k, Reg.SLOT_UPDQ k], a ∈ ws := fun a ha => hw a (List.mem_append_left _ ha)
  simp only [List.forall_mem_cons] at hm
  obtain ⟨hs, hwcc, hreq, hupd, -⟩ := hm
  rw [State.showSlot_eq]
  refine Changes.wrHash ?_ hw
  exact ((((h.set hs).set hs).wr hwcc).wr hreq).wr hupd

theorem State.showSlot_spec (s : State) (k : Nat) (g : Option Img) : (s.showSlot k g).ice = s.ice ∧
    (s.showSlot k g).fld (Fd.SLOT_STAT_STATE k) = s.fld (Fd.SLOT_STAT_STATE k) ∧
    (s.showSlot k g).fld (Fd.SLOT_STAT_ROLE k) = (g.elim 0 (·.role)) % 16 ∧
    (s.showSlot k g).fld (Fd.SLOT_STAT_LTILES k) = (g.elim 0 (·.ltiles)) % 128 := by
  have hrd : (s.showSlot k g).rd (Reg.SLOT_STAT k) =
      ((s.set (Fd.SLOT_STAT_ROLE k) (g.elim 0 (·.role))).set (Fd.SLOT_STAT_LTILES k) (g.elim 0 (·.ltiles))).rd (Reg.SLOT_STAT k) := by
    rw [State.showSlot_eq, State.wrHash_stat, State.rd_wr_ne, State.rd_wr_ne, State.rd_wr_ne] <;>
      simp only [Reg.SLOT_STAT, Reg.SLOT_WCC, Reg.SLOT_WREQ, Reg.SLOT_UPDQ] <;> omega
  have hice : (s.showSlot k g).ice = s.ice := (State.showSlot_keeps (F := 33554432) rfl (Keeps.refl _ s)).ice.resolve_left (by decide)
  refine ⟨hice, ?_, ?_, ?_⟩
  · exact (State.fld_congr hrd).trans (by simp [Fd.SLOT_STAT_STATE, Fd.SLOT_STAT_ROLE, Fd.SLOT_STAT_LTILES])
  · exact (State.fld_congr hrd).trans (by simp [Fd.SLOT_STAT_ROLE, Fd.SLOT_STAT_LTILES])
  · exact (State.fld_congr hrd).trans (by simp [Fd.SLOT_STAT_LTILES])

/-! ### SLOT_CMD and the end of a verification -/

theorem State.slotCmd_active {k : Nat} {v : Word} (h0 : fieldOf v 0 2 ≠ 0) (h : s.fld (Fd.SLOT_STAT_STATE k) = 3) :
    s.slotCmd k v = s.set (Fd.SLOT_STAT_LOAD_ERR k) 5 := (if_neg h0).trans (if_pos h)

theorem State.slotCmd_load {k : Nat} {v : Word} (h1 : fieldOf v 0 2 = 1) (h : s.fld (Fd.SLOT_STAT_STATE k) ≠ 3) : s.slotCmd k v =
    ((s.set (Fd.SLOT_STAT_STATE k) 1).set (Fd.SLOT_STAT_LOAD_ERR k) 0).setSlot k ⟨fieldOf v 16 16, s.slotImg k⟩ :=
  (if_neg (by omega)).trans ((if_neg h).trans (if_pos h1))

theorem State.slotCmd_unload {k : Nat} {v : Word} (h1 : fieldOf v 0 2 = 2) (h : s.fld (Fd.SLOT_STAT_STATE k) ≠ 3) : s.slotCmd k v =
    (((s.set (Fd.SLOT_STAT_STATE k) 0).set (Fd.SLOT_STAT_LOAD_ERR k) 0).showSlot k none).delSlot k :=
  (if_neg (by omega)).trans ((if_neg h).trans (if_neg (by omega)))

/-- The word of SLOT_LOAD: OP 1 and the handle. -/
theorem loadWord_op (h : BitVec 16) : fieldOf (BitVec.ofNat 32 (1 + 65536 * h.toNat)) 0 2 = 1 := by
  rw [fieldOf_ofNat _ _ (by omega)]; omega
theorem loadWord_handle (h : BitVec 16) : fieldOf (BitVec.ofNat 32 (1 + 65536 * h.toNat)) 16 16 = h.toNat := by
  rw [fieldOf_ofNat _ _ (by omega)]; omega

theorem exec_slotLoad {w : Fin 8} {slot : Fin 16} {handle : BitVec 16}
    (h : s.WriteTaken w (Reg.SLOT_CMD slot) (BitVec.ofNat 32 (1 + 65536 * handle.toNat)) true) : exec (.slotLoad w slot handle) s = .next (
      ((s.afterChecks w (Reg.SLOT_CMD slot) (BitVec.ofNat 32 (1 + 65536 * handle.toNat))).slotCmd slot (BitVec.ofNat 32 (1 + 65536 * handle.toNat))).send
        (.wrote w (Reg.SLOT_CMD slot) 0 0 0)) := congrArg _ (State.writeRow_taken _ h)

theorem exec_slotUnload {w : Fin 8} {slot : Fin 16} (h : s.WriteTaken w (Reg.SLOT_CMD slot) 2 true) : exec (.slotUnload w slot) s = .next (
    ((s.afterChecks w (Reg.SLOT_CMD slot) 2).slotCmd slot 2).send (.wrote w (Reg.SLOT_CMD slot) 0 0 0)) := congrArg _ (State.writeRow_taken _ h)

/-- A slot whose verification fails stands at FAILED with the cause. -/
def State.slotFailed (s : State) (k e : Nat) : State := (s.set (Fd.SLOT_STAT_STATE k) 4).set (Fd.SLOT_STAT_LOAD_ERR k) e

theorem State.slotFailed_spec (s : State) {k e : Nat} (he : e < 16) : (s.slotFailed k e).fld (Fd.SLOT_STAT_STATE k) = 4 ∧
    (s.slotFailed k e).fld (Fd.SLOT_STAT_LOAD_ERR k) = e ∧ (s.slotFailed k e).ice = s.ice ∧
    Changes [] [Reg.SLOT_STAT k] s (s.slotFailed k e) := by
  have hm : e % 16 = e := Nat.mod_eq_of_lt he
  refine ⟨?_, ?_, rfl, ((Changes.refl _ _ s).set).set⟩ <;>
    simp [State.slotFailed, Fd.SLOT_STAT_STATE, Fd.SLOT_STAT_LOAD_ERR, hm]

/-- A slot whose verification succeeds holds the image. -/
def State.slotLoaded (s : State) (k h : Nat) (g : Img) : State := ((s.set (Fd.SLOT_STAT_STATE k) 2).setSlot k ⟨h, some g⟩).showSlot k (some g)

theorem State.slotLoaded_spec (s : State) (k h : Nat) (g : Img) : (s.slotLoaded k h g).fld (Fd.SLOT_STAT_STATE k) = 2 ∧
    (s.slotLoaded k h g).slotImg k = some g ∧ (s.slotLoaded k h g).fld (Fd.SLOT_STAT_ROLE k) = g.role % 16 ∧
    Changes [.ice] (slotWords k) s (s.slotLoaded k h g) := by
  have h2 : ((s.set (Fd.SLOT_STAT_STATE k) 2).setSlot k ⟨h, some g⟩).fld (Fd.SLOT_STAT_STATE k) = 2 := by
    simp [Fd.SLOT_STAT_STATE]
  have hs : ((s.set (Fd.SLOT_STAT_STATE k) 2).setSlot k ⟨h, some g⟩).slotImg k = some g :=
    congrArg (fun x => Option.bind x Slot.img) (Tab.find_put_self _ _ _)
  have hc : Changes [.ice] (slotWords k) s ((s.set (Fd.SLOT_STAT_STATE k) 2).setSlot k ⟨h, some g⟩) :=
    (((Changes.refl [.ice] [Reg.SLOT_STAT k] s).set).setSlot).mono (fun _ h => h) (by simp [slotWords])
  unfold State.slotLoaded
  generalize (s.set (Fd.SLOT_STAT_STATE k) 2).setSlot k ⟨h, some g⟩ = u at h2 hs hc ⊢
  obtain ⟨hice, hst, hro, -⟩ := State.showSlot_spec u k (some g)
  exact ⟨hst.trans h2, (congrArg (fun x : Icefield => (Tab.find x.slots k).bind (·.img)) hice).trans hs, hro, hc.showSlot (fun a ha => ha)⟩

theorem exec_slotVerifyDone (slot : Fin 16) (s : State) : exec (.slotVerifyDone slot) s = .next (
    if s.fld (Fd.SLOT_STAT_STATE slot) ≠ 1 ∨ ¬ s.mainRuns = true then s else
    if (if (s.object ((Tab.find s.ice.slots slot).elim 0 (·.handle)) 1).isNone = true then 1
      else s.imageError ((s.object ((Tab.find s.ice.slots slot).elim 0 (·.handle)) 1).elim [] StoreObj.bytes)) = 0 then
      s.slotLoaded slot ((Tab.find s.ice.slots slot).elim 0 (·.handle))
        (parseImage ((s.object ((Tab.find s.ice.slots slot).elim 0 (·.handle)) 1).elim [] StoreObj.bytes))
    else s.slotFailed slot (if (s.object ((Tab.find s.ice.slots slot).elim 0 (·.handle)) 1).isNone = true then 1
      else s.imageError ((s.object ((Tab.find s.ice.slots slot).elim 0 (·.handle)) 1).elim [] StoreObj.bytes))) := rfl

theorem State.imageError_lt (s : State) (bs : List Byte) : s.imageError bs < 16 := by
  unfold State.imageError
  dsimp only
  split
  · decide
  split
  · decide
  split
  · decide
  split <;> decide

/-- An image that is taken names a role of at most 6. -/
theorem State.role_of_imageError {bs : List Byte} (h : s.imageError bs = 0) : (parseImage bs).role ≤ 6 := by
  unfold State.imageError at h
  dsimp only at h
  split at h
  · exact absurd h (by decide)
  split at h
  · exact absurd h (by decide)
  next hf =>
    simp only [imageFormatOk, Bool.and_eq_true, decide_eq_true_eq, not_not] at hf
    tauto

/-! ### The switch and the partition -/

theorem exec_ifdSwitch {w : Fin 8} {slot : Fin 16} (h : s.WriteTaken w Reg.IFD_SWITCH (BitVec.ofNat 32 (2 ^ 31 + slot.val)) true) :
    exec (.ifdSwitch w slot) s = .next (((s.afterChecks w Reg.IFD_SWITCH (BitVec.ofNat 32 (2 ^ 31 + slot.val))).switchGo
      (BitVec.ofNat 32 (2 ^ 31 + slot.val))).send (.wrote w Reg.IFD_SWITCH 0 0 0)) := congrArg _ (State.writeRow_taken _ h)

theorem exec_ifdPartWrite {w : Fin 8} {v : Word} (h : s.WriteTaken w Reg.IFD_PART v (crossIce Reg.IFD_PART v)) :
    exec (.ifdPartWrite w v) s = .next (((s.afterChecks w Reg.IFD_PART v).partWrite v).send (.wrote w Reg.IFD_PART 0 0 0)) :=
  congrArg _ (State.writeRow_taken _ h)

/-- The switch waits for the frame that follows `n`. -/
def State.awaitSwitch (s : State) (k : Nat) : State :=
  { (s.set Fd.IFD_SW_STAT_RESULT 1).set Fd.IFD_SW_STAT_PENDING 1 with ice := { s.ice with switch := some (k, s.clk.now) } }

theorem State.switchGo_eq (s : State) (k : Fin 16) : s.switchGo (BitVec.ofNat 32 (2 ^ 31 + k.val)) =
    if s.ice.switch.isSome = true then s.set Fd.IFD_SW_STAT_RESULT 9 else
    match s.slotImg k with
    | some g =>
      if s.fld (Fd.SLOT_STAT_STATE k) ≠ 2 then s.set Fd.IFD_SW_STAT_RESULT 2 else
      if s.switchResult (s.setWith k g) s.ice.part s.streamCfg = 1 then s.awaitSwitch k
      else s.set Fd.IFD_SW_STAT_RESULT (s.switchResult (s.setWith k g) s.ice.part s.streamCfg)
    | none => s.set Fd.IFD_SW_STAT_RESULT 2 := by
  have h1 : fieldOf (BitVec.ofNat 32 (2 ^ 31 + k.val)) 31 1 = 1 := by rw [fieldOf_ofNat _ _ (by omega)]; omega
  have hk : fieldOf (BitVec.ofNat 32 (2 ^ 31 + k.val)) 0 4 = k := by rw [fieldOf_ofNat _ _ (by omega)]; omega
  unfold State.switchGo
  rw [h1, hk]
  rfl

theorem State.switchResult_lt (s : State) (act : ActiveSet) (p : Word) (cfg : List (Nat × Word)) : s.switchResult act p cfg < 16 := by
  unfold State.switchResult
  split
  · decide
  split
  · decide
  split
  · decide
  split
  · decide
  split
  · decide
  split <;> decide

theorem State.setResult_spec (s : State) {r : Nat} (hr : r < 16) : (s.set Fd.IFD_SW_STAT_RESULT r).fld Fd.IFD_SW_STAT_RESULT = r ∧
    Changes [] [Reg.IFD_SW_STAT] s (s.set Fd.IFD_SW_STAT_RESULT r) :=
  ⟨(State.fld_set_self _ _ _ (by decide)).trans (Nat.mod_eq_of_lt hr), (Changes.refl _ _ s).set⟩

theorem State.awaitSwitch_spec (s : State) (k : Nat) : (s.awaitSwitch k).fld Fd.IFD_SW_STAT_RESULT = 1 ∧
    (s.awaitSwitch k).on Fd.IFD_SW_STAT_PENDING = true ∧ (s.awaitSwitch k).ice.switch = some (k, s.clk.now) ∧
    Changes [.ice] [Reg.IFD_SW_STAT] s (s.awaitSwitch k) := by
  refine ⟨?_, ?_, rfl, (((Changes.refl _ _ s).set).set).upd_ice⟩ <;>
    simp [State.awaitSwitch, State.on, Fd.IFD_SW_STAT_RESULT, Fd.IFD_SW_STAT_PENDING]

/-! ### The obligation -/

theorem slotLoad_loads {w : Fin 8} {slot : Fin 16} {handle : BitVec 16}
    (h : s.WriteTaken w (Reg.SLOT_CMD slot) (BitVec.ofNat 32 (1 + 65536 * handle.toNat)) true) (hst : s.fld (Fd.SLOT_STAT_STATE slot) ≠ 3) :
    ∃ t, exec (.slotLoad w slot handle) s = .next t ∧ WroteOk t w (Reg.SLOT_CMD slot) ∧
      t.fld (Fd.SLOT_STAT_STATE slot) = 1 ∧ t.fld (Fd.SLOT_STAT_LOAD_ERR slot) = 0 ∧
      Tab.find t.ice.slots slot = some ⟨handle.toNat, s.slotImg slot⟩ ∧
      Changes [.zh, .ice, .out] [Reg.SLOT_STAT slot] s t := by
  refine ⟨_, (exec_slotLoad h).trans (by rw [State.slotCmd_load (loadWord_op handle) (by simpa using hst)]), WroteOk.send _ _ _, ?_, ?_, ?_,
    ((((Changes.refl _ _ s).afterChecks).set).set).setSlot.send⟩
  · simp [Fd.SLOT_STAT_STATE, Fd.SLOT_STAT_LOAD_ERR]
  · simp [Fd.SLOT_STAT_STATE, Fd.SLOT_STAT_LOAD_ERR]
  · simp only [State.send_ice, State.setSlot_ice, Tab.find_put_self, loadWord_handle, State.afterChecks_slotImg]

theorem slotUnload_unloads {w : Fin 8} {slot : Fin 16} (h : s.WriteTaken w (Reg.SLOT_CMD slot) 2 true) (hst : s.fld (Fd.SLOT_STAT_STATE slot) ≠ 3) :
    ∃ t, exec (.slotUnload w slot) s = .next t ∧ WroteOk t w (Reg.SLOT_CMD slot) ∧
      t.fld (Fd.SLOT_STAT_STATE slot) = 0 ∧ t.fld (Fd.SLOT_STAT_ROLE slot) = 0 ∧ t.fld (Fd.SLOT_STAT_LTILES slot) = 0 ∧
      t.slotImg slot = none ∧ Changes [.zh, .ice, .out] (slotWords slot) s t := by
  have hx := exec_slotUnload h
  rw [State.slotCmd_unload (by decide) (by simpa using hst)] at hx
  have h0 : (((s.afterChecks w (Reg.SLOT_CMD slot) 2).set (Fd.SLOT_STAT_STATE slot) 0).set (Fd.SLOT_STAT_LOAD_ERR slot) 0).fld
      (Fd.SLOT_STAT_STATE slot) = 0 := by simp [Fd.SLOT_STAT_STATE, Fd.SLOT_STAT_LOAD_ERR]
  have hc : Changes [.zh, .ice, .out] (slotWords slot) s
      (((s.afterChecks w (Reg.SLOT_CMD slot) 2).set (Fd.SLOT_STAT_STATE slot) 0).set (Fd.SLOT_STAT_LOAD_ERR slot) 0) :=
    ((((Changes.refl [.zh, .ice, .out] [Reg.SLOT_STAT slot] s).afterChecks).set).set).mono (fun _ h => h) (by simp [slotWords])
  generalize ((s.afterChecks w (Reg.SLOT_CMD slot) 2).set (Fd.SLOT_STAT_STATE slot) 0).set (Fd.SLOT_STAT_LOAD_ERR slot) 0 = u at hx h0 hc
  obtain ⟨-, hstate, hrole, htiles⟩ := State.showSlot_spec u slot none
  refine ⟨_, hx, WroteOk.send _ _ _, ?_, ?_, ?_, congrArg (fun x => Option.bind x Slot.img) (Tab.find_del_self _ _),
    ((hc.showSlot (fun a ha => ha)).delSlot).send⟩
  · rw [State.send_fld, State.delSlot_fld, hstate, h0]
  · rw [State.send_fld, State.delSlot_fld, hrole]; rfl
  · rw [State.send_fld, State.delSlot_fld, htiles]; rfl

theorem slotVerifyDone_judges {slot : Fin 16} {o : StoreObj} (h1 : s.fld (Fd.SLOT_STAT_STATE slot) = 1) (hm : s.mainRuns = true)
    (ho : s.object ((Tab.find s.ice.slots slot).elim 0 (·.handle)) 1 = some o) : ∃ t, exec (.slotVerifyDone slot) s = .next t ∧
      (t.fld (Fd.SLOT_STAT_STATE slot) = if s.imageError o.bytes = 0 then 2 else 4) ∧
      (s.imageError o.bytes = 0 → t.slotImg slot = some (parseImage o.bytes) ∧ t.fld (Fd.SLOT_STAT_ROLE slot) = (parseImage o.bytes).role % 8) ∧
      (s.imageError o.bytes ≠ 0 → t.fld (Fd.SLOT_STAT_LOAD_ERR slot) = s.imageError o.bytes ∧ t.ice = s.ice) ∧
      Changes [.ice] (slotWords slot) s t := by
  have hx := exec_slotVerifyDone slot s
  rw [if_neg (by simp [h1, hm])] at hx
  simp only [ho, Option.isNone_some, Bool.false_eq_true, if_false, Option.elim_some] at hx
  by_cases he : s.imageError o.bytes = 0
  · obtain ⟨hstate, himg, hrole, hc⟩ := s.slotLoaded_spec slot ((Tab.find s.ice.slots slot).elim 0 (·.handle)) (parseImage o.bytes)
    have hr := State.role_of_imageError he
    rw [if_pos he] at hx
    exact ⟨_, hx, by rw [hstate, if_pos he], fun _ => ⟨himg, by rw [hrole]; omega⟩, fun h => absurd he h, hc⟩
  · obtain ⟨hstate, herr, hice, hc⟩ := s.slotFailed_spec (k := slot) (s.imageError_lt o.bytes)
    rw [if_neg he] at hx
    exact ⟨_, hx, by rw [hstate, if_neg he], fun h => absurd h he, fun _ => ⟨herr, hice⟩, hc.mono (by simp) (by simp [slotWords])⟩

theorem slotVerifyDone_missing {slot : Fin 16} (h1 : s.fld (Fd.SLOT_STAT_STATE slot) = 1) (hm : s.mainRuns = true)
    (ho : s.object ((Tab.find s.ice.slots slot).elim 0 (·.handle)) 1 = none) : exec (.slotVerifyDone slot) s = .next (s.slotFailed slot 1) := by
  rw [exec_slotVerifyDone, if_neg (by simp [h1, hm])]
  simp only [ho, Option.isNone_none, if_true]
  rfl

theorem ifdPartWrite_refuses {w : Fin 8} {v : Word} (h : s.WriteTaken w Reg.IFD_PART v (crossIce Reg.IFD_PART v))
    (ho : s.overTime s.activeSet v s.streamCfg = true ∨ s.overBandwidth s.activeSet s.streamCfg = true) : exec (.ifdPartWrite w v) s = .next (
      ((s.afterChecks w Reg.IFD_PART v).set Fd.IFD_SW_STAT_RESULT 4).send (.wrote w Reg.IFD_PART 0 0 0)) := by
  rw [exec_ifdPartWrite h, State.partWrite, State.afterChecks_activeSet, State.afterChecks_streamCfg, State.afterChecks_overTime,
    State.afterChecks_overBandwidth, if_pos (by simpa using ho)]

theorem ifdPartWrite_writes {w : Fin 8} {v : Word} (h : s.WriteTaken w Reg.IFD_PART v (crossIce Reg.IFD_PART v))
    (ht : s.overTime s.activeSet v s.streamCfg = false) (hb : s.overBandwidth s.activeSet s.streamCfg = false) : exec (.ifdPartWrite w v) s = .next (
      ((s.afterChecks w Reg.IFD_PART v).wr Reg.IFD_PART (v &&& 0x7F7F)).send (.wrote w Reg.IFD_PART 0 0 0)) := by
  rw [exec_ifdPartWrite h, State.partWrite, State.afterChecks_activeSet, State.afterChecks_streamCfg, State.afterChecks_overTime,
    State.afterChecks_overBandwidth, if_neg (by simp [ht, hb])]

theorem ifdSwitch_judges {w : Fin 8} {slot : Fin 16} {g : Img} (h : s.WriteTaken w Reg.IFD_SWITCH (BitVec.ofNat 32 (2 ^ 31 + slot.val)) true)
    (hi : s.ice.switch = none) (hg : s.slotImg slot = some g) (h2 : s.fld (Fd.SLOT_STAT_STATE slot) = 2) :
    ∃ t, exec (.ifdSwitch w slot) s = .next t ∧ WroteOk t w Reg.IFD_SWITCH ∧
      t.fld Fd.IFD_SW_STAT_RESULT = s.switchResult (s.setWith slot g) s.ice.part s.streamCfg ∧
      (t.ice.switch = if s.switchResult (s.setWith slot g) s.ice.part s.streamCfg = 1 then some (slot.val, s.clk.now) else none) ∧
      (s.switchResult (s.setWith slot g) s.ice.part s.streamCfg = 1 → t.on Fd.IFD_SW_STAT_PENDING = true) ∧
      Changes [.zh, .ice, .out] [Reg.IFD_SW_STAT] s t := by
  have hx := exec_ifdSwitch h
  simp only [State.switchGo_eq, State.afterChecks_ice, State.afterChecks_slotImg, State.afterChecks_fld, State.afterChecks_switchResult,
    State.afterChecks_setWith, State.afterChecks_streamCfg, hi, hg, h2, Option.isSome_none, Bool.false_eq_true, if_false, ne_eq, not_true] at hx
  have hc : Changes [.zh, .ice, .out] [Reg.IFD_SW_STAT] s (s.afterChecks w Reg.IFD_SWITCH (BitVec.ofNat 32 (2 ^ 31 + slot.val))) :=
    (Changes.refl _ _ s).afterChecks
  have hclk := State.afterChecks_clk s w Reg.IFD_SWITCH (BitVec.ofNat 32 (2 ^ 31 + slot.val))
  have hice := State.afterChecks_ice s w Reg.IFD_SWITCH (BitVec.ofNat 32 (2 ^ 31 + slot.val))
  generalize s.afterChecks w Reg.IFD_SWITCH (BitVec.ofNat 32 (2 ^ 31 + slot.val)) = u at hx hc hclk hice
  by_cases hr : s.switchResult (s.setWith slot g) s.ice.part s.streamCfg = 1
  · obtain ⟨hres, hpend, hsw, hd⟩ := u.awaitSwitch_spec slot
    rw [if_pos hr] at hx
    exact ⟨_, hx, WroteOk.send _ _ _, hres.trans hr.symm, by rw [if_pos hr, ← hclk]; exact hsw, fun _ => hpend, (hc.step hd).send⟩
  · obtain ⟨hres, hd⟩ := u.setResult_spec (s.switchResult_lt (s.setWith slot g) s.ice.part s.streamCfg)
    rw [if_neg hr] at hx
    refine ⟨_, hx, WroteOk.send _ _ _, hres, ?_, fun h => absurd h hr, (hc.step hd).send⟩
    rw [if_neg hr, State.send_ice, State.set_ice, hice, hi]

/-- The result stands alone where the switch does nothing else. -/
theorem ifdSwitch_refuses {w : Fin 8} {slot : Fin 16} {r : Nat} (h : s.WriteTaken w Reg.IFD_SWITCH (BitVec.ofNat 32 (2 ^ 31 + slot.val)) true)
    (hr : r < 16) (hs : (s.afterChecks w Reg.IFD_SWITCH (BitVec.ofNat 32 (2 ^ 31 + slot.val))).switchGo (BitVec.ofNat 32 (2 ^ 31 + slot.val)) =
      (s.afterChecks w Reg.IFD_SWITCH (BitVec.ofNat 32 (2 ^ 31 + slot.val))).set Fd.IFD_SW_STAT_RESULT r) :
    ∃ t, exec (.ifdSwitch w slot) s = .next t ∧ WroteOk t w Reg.IFD_SWITCH ∧ t.fld Fd.IFD_SW_STAT_RESULT = r ∧ t.ice = s.ice ∧
      Changes [.zh, .out] [Reg.IFD_SW_STAT] s t := by
  have hx := exec_ifdSwitch h
  rw [hs] at hx
  obtain ⟨hres, hd⟩ := (s.afterChecks w Reg.IFD_SWITCH (BitVec.ofNat 32 (2 ^ 31 + slot.val))).setResult_spec hr
  exact ⟨_, hx, WroteOk.send _ _ _, hres, State.afterChecks_ice _ _ _ _, (((Changes.refl _ _ s).afterChecks).step hd).send⟩

/-- Settles O22, command by command. -/
theorem programSlotsTakeCommands : Obligations.ProgramSlotsTakeCommands := by
  unfold Obligations.ProgramSlotsTakeCommands
  refine ⟨?_, ?_, ?_, ?_, ?_, ?_, ?_, ?_, ?_, ?_, ?_⟩
  · intro w slot handle s h hst
    exact slotLoad_loads h hst
  · intro w slot handle s h h3
    refine ⟨_, (exec_slotLoad h).trans (by rw [State.slotCmd_active (by rw [loadWord_op]; decide) (by simpa using h3)]), ?_, ?_,
      (((Changes.refl _ _ s).afterChecks).set).send⟩
    · simpa [Fd.SLOT_STAT_STATE, Fd.SLOT_STAT_LOAD_ERR] using h3
    · simp [Fd.SLOT_STAT_LOAD_ERR]
  · intro w slot s h hst
    exact slotUnload_unloads h hst
  · intro slot s h1 hm ho
    obtain ⟨hstate, herr, hice, hc⟩ := s.slotFailed_spec (k := slot) (e := 1) (by decide)
    exact ⟨_, slotVerifyDone_missing h1 hm ho, hstate, herr, hice, hc⟩
  · intro slot s h
    exact ⟨_, (exec_slotVerifyDone slot s).trans (by rw [if_pos (by simpa using h)]), rfl⟩
  · intro slot s o h1 hm ho
    exact slotVerifyDone_judges h1 hm ho
  · intro w slot s g h hi hg h2
    exact ifdSwitch_judges h hi hg h2
  · intro w slot s h hi hor
    obtain ⟨t, hx, -, hres, hice, hc⟩ := ifdSwitch_refuses (r := 2) h (by decide) (by
      simp only [State.switchGo_eq, State.afterChecks_ice, State.afterChecks_slotImg, State.afterChecks_fld, hi, Option.isSome_none,
        Bool.false_eq_true, if_false]
      split
      · next g hg => rw [if_pos (hor.resolve_left (by simp [hg]))]
      · rfl)
    exact ⟨t, hx, hres, hice, hc⟩
  · intro w slot s h hi
    exact ifdSwitch_refuses h (by decide) (by rw [State.switchGo_eq, if_pos (by simpa using hi)])
  · intro w v s h ho
    obtain ⟨hres, hc⟩ := (s.afterChecks w Reg.IFD_PART v).setResult_spec (r := 4) (by decide)
    refine ⟨_, ifdPartWrite_refuses h ho, WroteOk.send _ _ _, hres, (((Changes.refl _ _ s).afterChecks).step hc).send⟩
  · intro w v s h ht hb
    refine ⟨_, ifdPartWrite_writes h ht hb, WroteOk.send _ _ _, ?_, (((Changes.refl _ _ s).afterChecks).wr).send⟩
    rw [State.send_rd, State.rd_wr_self]

end Sys2Proof.Machine
end

section
-- In order: the one text holds more declarations than asynchronous elaboration has threads for.
set_option Elab.async false

/-! PROOFS. A frame of a replay whose program emits forecasts (R162, R182) delivers them to the streams. -/

namespace Sys2Proof.Machine

/-- A program of role REPLAY whose one stage emits its horizon as a forecast of the stream that its horizon names (R155, R162). -/
def forecastImage : Img :=
  { level := 0, role := 6, exactReq := false, alvl := 0, ltiles := 1, tabs := [], grants := [], wcc := 0, wreq := 0, updq := 0, seed := 0,
    horizon := [5], bufs := [], stages := [[0xF6F60007, 1, 0, 0, 0, 0, 0, 0], [0, 0, 0, 0, 0, 0, 0, 0]], hash := [] }

/-- A frame of an input log with nothing latched. -/
def emptyFrame : LogFrame := { frame := 0, inputs := Inputs.none, skipped := false, starved := [], batches := [], kskip := [], disc := [], tables := [] }

/-- After reset, with the program active in slot 0 and a replay of one frame in progress. -/
def replayingForecast : State :=
  ((((State.reset.set Fd.IFD_STAT_RRUN 1).set Fd.IFD_CTRL_EN 1).set (Fd.SLOT_STAT_STATE 0) 3).set Fd.SYS_STATE_MAIN_ABSENT 0).setSlot 0 ⟨0, some forecastImage⟩
    |>.setRpl { State.reset.ice.rpl with log := [emptyFrame], pos := 0 }

theorem replayingForecast_runs : replayingForecast.on Fd.IFD_STAT_RRUN = true ∧ replayingForecast.mainRuns = true ∧
    replayingForecast.on Fd.IFD_CTRL_EN = true ∧ replayingForecast.activeOf 6 = some (0, forecastImage) ∧
    replayingForecast.ice.rpl.log[replayingForecast.ice.rpl.pos]? = some emptyFrame := by decide +kernel

theorem replayingForecast_frame : ((replayingForecast.peakRequests 0).replayFrame 0 forecastImage emptyFrame).isSome = true := by decide +kernel

/-- The forecast of stream 5 is new. -/
theorem replayingForecast_delivers : (match exec (.replayFrameEnd ⟨false, 0⟩) replayingForecast with
    | .next t => Tab.has t.stm.strm 5 | _ => false) = true ∧ Tab.has replayingForecast.stm.strm 5 = false := by decide +kernel

/-- Refutes O24, by the clause on the end of a frame: it says that the streams stay, but a program of role REPLAY that emits a forecast
delivers it to its stream. -/
theorem not_replayTakesCommands : ¬ Obligations.ReplayTakesCommands := by
  unfold Obligations.ReplayTakesCommands
  rintro ⟨-, -, -, -, -, -, -, -, -, -, -, -, -, h, -⟩
  obtain ⟨hrun, hmain, hen, hact, hlog⟩ := replayingForecast_runs
  obtain ⟨u, hu⟩ := Option.isSome_iff_exists.mp replayingForecast_frame
  obtain ⟨t, hx, -, -, -, -, ho⟩ := h false 0 replayingForecast 0 forecastImage emptyFrame u hrun hmain hen hact hlog hu rfl
  obtain ⟨hnew, hold⟩ := replayingForecast_delivers
  rw [hx] at hnew
  have hstm : t.stm = replayingForecast.stm := ho.2 .stm (by decide)
  exact absurd ((congrArg (fun x : Streams => Tab.has x.strm 5) hstm).symm.trans hnew) (by rw [hold]; decide)

end Sys2Proof.Machine
end

section
-- In order: the one text holds more declarations than asynchronous elaboration has threads for.
set_option Elab.async false

/-! PROOFS. Segment loads and saves (R194 to R198), the commit of an update log and its write-back (R205 to R207), and checkpoints (R213, R214). -/

namespace Sys2Proof.Machine

variable {ps : List Part} {ws : List Nat} {s t u : State}

/-! ### The device request that follows a change of the tables -/

theorem State.nextDevice_spec (s : State) : s.nextDevice.tbl = s.tbl ∧ (∀ a, s.nextDevice.rd a = s.rd a) ∧
    Changes [.zh, .out] [] s s.nextDevice := by
  have h := State.nextDevice_keeps (F := 8388616) rfl (Keeps.refl _ s)
  have hr : ∀ a, s.nextDevice.rd a = s.rd a := fun a => by
    rw [State.rd, State.rd, h.regs.resolve_left (by decide)]
  exact ⟨h.tbl.resolve_left (by decide), hr, h.changes (fun p hp => by cases p <;> simp_all [Part.bit]) (fun a _ _ => hr a)⟩

@[simp] theorem State.nextDevice_tbl (s : State) : s.nextDevice.tbl = s.tbl := s.nextDevice_spec.1
@[simp] theorem State.nextDevice_rd (s : State) (a : Nat) : s.nextDevice.rd a = s.rd a := s.nextDevice_spec.2.1 a
@[simp] theorem State.nextDevice_fld (s : State) (f : Fld) : s.nextDevice.fld f = s.fld f := State.fld_congr (s.nextDevice_rd _)

theorem Changes.nextDevice (h : Changes ps ws s t) (hz : Part.zh ∈ ps := by repeat constructor) (ho : Part.out ∈ ps := by repeat constructor) :
    Changes ps ws s t.nextDevice :=
  h.step t.nextDevice_spec.2.2 (by simp [hz, ho]) (by simp)

/-! ### The free space shown -/

/-- The words of the stacks' free space. -/
def freeWords : List Nat := [Reg.TBL_FREE, Reg.TBL_CAP, Reg.TBL_STAT] ++ (List.range stackCount).map Reg.STK_FREE

theorem Changes.showFree (h : Changes ps ws s t) (hw : ∀ a ∈ freeWords, a ∈ ws) : Changes ps ws s t.showFree := by
  have hs : ∀ v : Nat → State → Nat, Changes ps ws s ((List.range stackCount).foldl (fun u k => u.set (Fd.STK_FREE_MIB k) (v k u)) t) :=
    fun v => List.foldlRecOn _ _ (motive := fun (u : State) => Changes ps ws s u) h (fun _ hu k hk =>
      hu.set (hw _ (List.mem_append_right _ (List.mem_map_of_mem hk))))
  unfold State.showFree
  exact (((hs (fun k u => u.stackFree k / 1048576)).set (hw _ (by simp [freeWords, Fd.TBL_FREE_MIB]))).set
    (hw _ (by simp [freeWords, Fd.TBL_CAP_MIB]))).set (hw _ (by simp [freeWords, Fd.TBL_STAT_STACKS]))

theorem stackCount_le : stackCount ≤ 12 := by unfold stackCount; split <;> decide

theorem State.showFree_tbl (s : State) : s.showFree.tbl = s.tbl :=
  (State.showFree_keeps (F := 33554432) rfl (Keeps.refl _ s)).tbl.resolve_left (by decide)

theorem State.showFree_rd (s : State) {a : Nat} (he : eventWord a = false) (h : a ∉ freeWords) : s.showFree.rd a = s.rd a :=
  ((Changes.refl [] freeWords s).showFree (fun _ h => h)).rd he h

theorem not_mem_freeWords {a : Nat} (h : a < 0x4000000 ∨ 0x4000034 ≤ a ∧ a < 0x4000100 ∨ 0x4010000 ≤ a) : a ∉ freeWords := by
  have := stackCount_le
  simp only [freeWords, Reg.TBL_FREE, Reg.TBL_CAP, Reg.TBL_STAT, Reg.STK_FREE, List.mem_append, List.mem_cons, List.not_mem_nil, or_false,
    List.mem_map, List.mem_range, not_or, not_exists, not_and]
  refine ⟨by omega, fun k hk => by omega⟩

/-! ### A save tried again, and a load that ends -/

theorem exec_saveRetry (s : State) : exec .saveRetry s = .next ((s.setSaves (s.tbl.saves.map (fun j =>
    if j.failed.any (fun t => decide (t + sTicks 10 ≤ s.clk.now)) then { j with failed := none } else j))).nextDevice) := rfl

/-- A load that ends in place: its rows stand, and the answer it came with is used up. -/
def State.loaded (s : State) (t seg : Nat) (rows : Tab (Tab (List Byte))) : State :=
  ((s.setGot (s.tbl.got.filter (fun r => r.key.take 5 != (s.storeKey t seg).take 5))).setTbl t
    { s.tblOf t with rows := rows.foldl (fun r p => r.put p.1 p.2) (dropSegRows seg (s.tblOf t).rows), loaded := (s.tblOf t).loaded ++ [seg],
                     cls := match s.classOf (seg % 4096) with | some c => (s.tblOf t).cls.put seg c | none => (s.tblOf t).cls }).count
    Reg.TBL_CNT_LOAD

theorem exec_segmentLoadDone (tb : Fin 4096) (seg : Fin 1048576) (s : State) : exec (.segmentLoadDone tb seg) s = .next (
    if (s.mainRuns && s.loadNow == some (tb.val, seg.val)) = true then
      match s.loadSource tb seg with
      | none => s
      | some rows =>
        match if (Tab.find (s.tblOf tb).home seg).isSome = true then some s else s.place tb seg with
        | none => s.raise Fd.TBL_EVT_SPACE tb [seg]
        | some u => (u.loaded tb seg rows).showFree.nextDevice
    else s) := rfl

@[simp] theorem State.setTbl_tblOf (s : State) (k : Nat) (x : Tbl) : (s.setTbl k x).tblOf k = x := Tab.at_put_self _ _ _ _

theorem State.tblOf_of (h : t.tbl = s.tbl) (k : Nat) : t.tblOf k = s.tblOf k := congrArg (fun x : Tables => Tab.at Tbl.empty x.tbl k) h

theorem State.loaded_tblOf (s : State) (k seg : Nat) (rows : Tab (Tab (List Byte))) : (s.loaded k seg rows).tblOf k =
    { s.tblOf k with rows := rows.foldl (fun r p => r.put p.1 p.2) (dropSegRows seg (s.tblOf k).rows), loaded := (s.tblOf k).loaded ++ [seg],
                     cls := match s.classOf (seg % 4096) with | some c => (s.tblOf k).cls.put seg c | none => (s.tblOf k).cls } :=
  (State.tblOf_of (State.count_tbl _ _) k).trans (State.setTbl_tblOf _ _ _)

theorem Changes.loaded (h : Changes ps ws s t) {k seg : Nat} {rows : Tab (Tab (List Byte))} (hp : Part.tbl ∈ ps := by repeat constructor)
    (ha : Reg.TBL_CNT_LOAD ∈ ws := by simp) : Changes ps ws s (t.loaded k seg rows) :=
  ((h.setGot hp).setTbl hp).count ha

theorem segmentLoadDone_loads {tb : Fin 4096} {seg : Fin 1048576} {k : Nat} {rows : Tab (Tab (List Byte))} (hm : s.mainRuns = true)
    (hn : s.loadNow = some (tb.val, seg.val)) (hl : s.loadSource tb seg = some rows) (hk : Tab.find (s.tblOf tb).home seg = some k) :
    ∃ t, exec (.segmentLoadDone tb seg) s = .next t ∧ (t.tblOf tb).loaded = (s.tblOf tb).loaded ++ [seg.val] ∧
      (t.tblOf tb).rows = rows.foldl (fun x p => x.put p.1 p.2) (dropSegRows seg (s.tblOf tb).rows) ∧
      t.rd Reg.TBL_CNT_LOAD = satCount (s.rd Reg.TBL_CNT_LOAD) 1 ∧
      (t.tblOf tb).res = (s.tblOf tb).res ∧ (t.tblOf tb).out = (s.tblOf tb).out ∧ Only [.tbl, .zh, .out, .regs] s t := by
  have hx := exec_segmentLoadDone tb seg s
  simp only [hm, hn, hl, hk, beq_self_eq_true, Bool.and_self, if_true, Option.isSome_some] at hx
  have ht : ((s.loaded tb seg rows).showFree.nextDevice).tblOf tb = (s.loaded tb seg rows).tblOf tb :=
    State.tblOf_of ((State.nextDevice_tbl _).trans (State.showFree_tbl _)) tb
  have hc : Changes [.tbl, .zh, .out] (Reg.TBL_CNT_LOAD :: freeWords) s (s.loaded tb seg rows).showFree.nextDevice :=
    (((Changes.refl _ _ s).loaded).showFree (fun a ha => List.mem_cons_of_mem _ ha)).nextDevice
  refine ⟨_, hx, ?_, ?_, ?_, ?_, ?_, hc.1.mono (by decide)⟩
  · rw [ht, State.loaded_tblOf]
  · rw [ht, State.loaded_tblOf]
  · rw [State.nextDevice_rd, State.showFree_rd _ (by decide) (not_mem_freeWords (by decide))]
    exact State.rd_count_same _ _
  · rw [ht, State.loaded_tblOf]
  · rw [ht, State.loaded_tblOf]

theorem segmentLoadDone_noSpace {tb : Fin 4096} {seg : Fin 1048576} (hm : s.mainRuns = true) (hn : s.loadNow = some (tb.val, seg.val))
    (hk : Tab.find (s.tblOf tb).home seg = none) (hp : s.place tb seg = none) :
    exec (.segmentLoadDone tb seg) s = .next (s.raise Fd.TBL_EVT_SPACE tb [seg]) := by
  have hl : (s.loadSource tb seg).isSome = true := by
    rw [State.loadNow] at hn
    simpa using List.find?_some hn
  obtain ⟨rows, hl⟩ := Option.isSome_iff_exists.mp hl
  have hx := exec_segmentLoadDone tb seg s
  simp only [hm, hn, hl, hk, hp, beq_self_eq_true, Bool.and_self, if_true, Option.isSome_none, Bool.false_eq_true, if_false] at hx
  exact hx

/-! ### The commit of a log -/

theorem exec_logCommit (s : State) : exec .logCommit s = .next (
    if s.edgeToCome = true ∧ s.edge.clk.sidx.toNat % 100 = 90 then s.edgeAll.beginTick else s) := rfl

/-- States whose tables stand alike: the same rows and the same table registers. -/
structure State.SameTables (s t : State) : Prop where
  tbl : t.tbl = s.tbl
  words : ∀ a, 0x4010000 ≤ a → t.rd a = s.rd a

theorem State.SameTables.fld (h : State.SameTables s t) {f : Fld} (ha : 0x4010000 ≤ f.addr) : t.fld f = s.fld f := State.fld_congr (h.words _ ha)

theorem State.SameTables.tblEkind (h : State.SameTables s t) (k : Nat) : t.tblEkind k = s.tblEkind k :=
  h.fld (by simp only [Fd.T_CFG_EKIND, Reg.T_CFG]; omega)

theorem State.SameTables.tblKind (h : State.SameTables s t) (k : Nat) : t.tblKind k = s.tblKind k :=
  h.fld (by simp only [Fd.T_CFG_KIND, Reg.T_CFG]; omega)

theorem State.SameTables.tblLive (h : State.SameTables s t) (k : Nat) : t.tblLive k = s.tblLive k := by
  rw [State.tblLive, State.tblLive, h.fld (by simp only [Fd.T_STAT_STATE, Reg.T_STAT]; omega)]

theorem State.SameTables.tblSegs (h : State.SameTables s t) (k : Nat) : t.tblSegs k = s.tblSegs k := by
  have hd : t.fld (Fd.T_CFG_DEPTH k) = s.fld (Fd.T_CFG_DEPTH k) := h.fld (by simp only [Fd.T_CFG_DEPTH, Reg.T_CFG]; omega)
  have hr : t.rd (Reg.T_ROWS k) = s.rd (Reg.T_ROWS k) := h.words _ (by simp only [Reg.T_ROWS]; omega)
  rw [State.tblSegs, State.tblSegs, State.tblRows, State.tblRows, h.tblKind, hd, hr]

theorem State.SameTables.resident (h : State.SameTables s t) (k g : Nat) : t.resident k g = s.resident k g := by
  rw [State.resident, State.resident, State.tblOf_of h.tbl, h.tblSegs]

theorem State.SameTables.commitLines (h : State.SameTables s t) (c : List CommitRow) (k i l n : Nat) :
    t.commitLines c k i l n = s.commitLines c k i l n := by
  simp only [State.commitLines, State.rowLine, State.tblOf_of h.tbl, h.tblEkind]

theorem State.SameTables.commitLog (h : State.SameTables s t) (l : UpdLog) : t.commitLog l = s.commitLog l := by
  have hrec : ∀ frame, t.commitRec frame = s.commitRec frame := fun frame => by
    funext acc r
    simp only [State.commitRec, h.tblEkind, h.tblLive, h.resident, h.commitLines]
  rw [State.commitLog, State.commitLog, State.commitAfter, State.commitAfter, hrec]

/-- The logs that have closed leave, and their commit stands in the buffer. -/
def State.closeLogs (s : State) (frame : Nat) (c : List CommitRow × Nat × Tab Nat) : State :=
  { s with tbl := { s.tbl with logs := s.tbl.logs.filter (fun l => !decide (l.frame + 1 ≤ s.frameNo)), commit := some ⟨frame, c.1, c.2.2⟩ } }

@[simp] theorem State.closeLogs_rd (s : State) (n : Nat) (c : List CommitRow × Nat × Tab Nat) (a : Nat) : (s.closeLogs n c).rd a = s.rd a := (rfl)
@[simp] theorem State.closeLogs_fld (s : State) (n : Nat) (c : List CommitRow × Nat × Tab Nat) (f : Fld) : (s.closeLogs n c).fld f = s.fld f := (rfl)
theorem State.closeLogs_tbl (s : State) (n : Nat) (c : List CommitRow × Nat × Tab Nat) : (s.closeLogs n c).tbl =
    { s.tbl with logs := s.tbl.logs.filter (fun l => !decide (l.frame + 1 ≤ s.frameNo)), commit := some ⟨n, c.1, c.2.2⟩ } := (rfl)
theorem Changes.closeLogs (h : Changes ps ws s t) {n : Nat} {c : List CommitRow × Nat × Tab Nat} (hp : Part.tbl ∈ ps := by repeat constructor) :
    Changes ps ws s (t.closeLogs n c) := h.upd_tbl hp

theorem State.commitNow_due {due : List UpdLog} (h : s.clk.sidx.toNat % 100 = 90) (hm : s.mainRuns = true)
    (hd : s.tbl.logs.filter (fun l => decide (l.frame + 1 ≤ s.frameNo)) = due) (hne : due.isEmpty = false) : s.commitNow =
    ((s.discardLate.showLog ((due.map (·.lines)).foldl (· + ·) 0)).countBy Reg.TBL_CNT_NRDROP
      (due.foldl (s.discardLate.showLog ((due.map (·.lines)).foldl (· + ·) 0)).commitAfter ([], 0, [])).2.1).closeLogs
        ((due.map (·.frame)).foldl max 0) (due.foldl (s.discardLate.showLog ((due.map (·.lines)).foldl (· + ·) 0)).commitAfter ([], 0, [])) := by
  subst hd
  rw [State.commitNow, if_pos h, State.commitDue, if_neg (by simp [hm])]
  dsimp only
  rw [if_neg (by rw [hne]; decide)]
  rfl

theorem State.commitNow_closed {due : List UpdLog} {n m : Nat} {c : List CommitRow × Nat × Tab Nat} (h : s.clk.sidx.toNat % 100 = 90)
    (hm : s.mainRuns = true) (hd : s.tbl.logs.filter (fun l => decide (l.frame + 1 ≤ s.frameNo)) = due) (hne : due.isEmpty = false)
    (hn : (due.map (·.lines)).foldl (· + ·) 0 = n) (hf : (due.map (·.frame)).foldl max 0 = m)
    (hc : due.foldl (s.discardLate.showLog n).commitAfter ([], 0, []) = c) :
    s.commitNow = ((s.discardLate.showLog n).countBy Reg.TBL_CNT_NRDROP c.2.1).closeLogs m c := by
  subst hn hf hc
  exact State.commitNow_due h hm hd hne

theorem State.commitNow_idle {due : List UpdLog} {n : Nat} (h : s.clk.sidx.toNat % 100 = 90) (hm : s.mainRuns = true)
    (hd : s.tbl.logs.filter (fun l => decide (l.frame + 1 ≤ s.frameNo)) = due) (he : due.isEmpty = true)
    (hn : (due.map (·.lines)).foldl (· + ·) 0 = n) : s.commitNow = s.discardLate.showLog n := by
  subst hd hn
  rw [State.commitNow, if_pos h, State.commitDue, if_neg (by simp [hm])]
  dsimp only
  rw [if_pos he]

theorem State.discardLate_none (h : s.ice.batches = []) : s.discardLate = s := by rw [State.discardLate, h]; rfl

theorem State.showLog_spec (s : State) (n : Nat) : (s.showLog n).fld Fd.TBL_LOG_USE_LINES = n % 2 ^ Fd.TBL_LOG_USE_LINES.width ∧
    State.SameTables s (s.showLog n) ∧ Changes [] [Reg.TBL_LOG_USE, Reg.TBL_LOG_MAX] s (s.showLog n) := by
  refine ⟨?_, ⟨by rw [State.showLog, State.set_tbl, State.set_tbl], fun a ha => ?_⟩, ((Changes.refl _ _ s).set).set⟩
  · simp -implicitDefEqProofs [State.showLog, Fd.TBL_LOG_USE_LINES, Fd.TBL_LOG_MAX_LINES, Reg.TBL_LOG_USE, Reg.TBL_LOG_MAX]
  · have h1 : a ≠ Reg.TBL_LOG_USE := by simp only [Reg.TBL_LOG_USE]; omega
    have h2 : a ≠ Reg.TBL_LOG_MAX := by simp only [Reg.TBL_LOG_MAX]; omega
    rw [State.showLog, State.rd_set_ne _ _ _ _ h2, State.rd_set_ne _ _ _ _ h1]

/-- The commit of a log that has closed. -/
def State.committed (s : State) (l : UpdLog) (c : List CommitRow × Nat × Tab Nat) : State :=
  ((s.showLog l.lines).countBy Reg.TBL_CNT_NRDROP c.2.1).closeLogs l.frame c

theorem State.commitNow_one {l : UpdLog} (h : s.clk.sidx.toNat % 100 = 90) (hm : s.mainRuns = true)
    (hl : s.tbl.logs.filter (fun x => decide (x.frame + 1 ≤ s.frameNo)) = [l]) (hb : s.ice.batches = []) :
    s.commitNow = s.committed l (s.commitLog l) := by
  obtain ⟨-, hs, -⟩ := s.showLog_spec l.lines
  have hd := State.discardLate_none hb
  have hc : [l].foldl (s.discardLate.showLog l.lines).commitAfter ([], 0, []) = s.commitLog l := by rw [hd]; exact hs.commitLog l
  rw [State.commitNow_closed (m := l.frame) h hm hl rfl (by simp) (by simp) hc, hd, State.committed]

theorem State.committed_spec (s : State) (l : UpdLog) (c : List CommitRow × Nat × Tab Nat) :
    (s.committed l c).tbl.logs = s.tbl.logs.filter (fun x => !decide (x.frame + 1 ≤ s.frameNo)) ∧
    (s.committed l c).tbl.commit = some ⟨l.frame, c.1, c.2.2⟩ ∧
    (s.committed l c).rd Reg.TBL_CNT_NRDROP = satCount (s.rd Reg.TBL_CNT_NRDROP) c.2.1 ∧
    (s.committed l c).fld Fd.TBL_LOG_USE_LINES = l.lines % 2 ^ Fd.TBL_LOG_USE_LINES.width ∧
    Changes [.tbl] [Reg.TBL_CNT_NRDROP, Reg.TBL_LOG_USE, Reg.TBL_LOG_MAX] s (s.committed l c) := by
  obtain ⟨huse, hs, hc⟩ := s.showLog_spec l.lines
  have hr : (s.showLog l.lines).rd Reg.TBL_CNT_NRDROP = s.rd Reg.TBL_CNT_NRDROP := hc.rd (by decide) (by decide)
  have hf : ((s.showLog l.lines).countBy Reg.TBL_CNT_NRDROP c.2.1).frameNo = s.frameNo := by
    rw [State.frameNo, State.countBy_ice, hc.1.2 .ice (by decide), State.frameNo]
  refine ⟨?_, ?_, ?_, ?_, ?_⟩
  · rw [State.committed, State.closeLogs_tbl, hf, State.countBy_tbl, hs.tbl]
  · rw [State.committed, State.closeLogs_tbl]
  · rw [State.committed, State.closeLogs_rd, State.rd_countBy_same, hr]
  · rw [State.committed, State.closeLogs_fld, Fd.TBL_LOG_USE_LINES, State.fld_countBy _ _ _ _ _ _ (by decide)]
    exact huse
  · exact ((((Changes.refl _ _ s).step hc).countBy).closeLogs)

/-- The records of a batch are discarded. -/
def State.dropRecords (s : State) (c : Nat) (b : KBatch) : State :=
  { s with ice := { s.ice with batches := s.ice.batches.put c { b with out := { b.out with upds := [] } },
                               logNow := { s.ice.logNow with disc := s.ice.logNow.disc ++ [(c, b.start)] } } }

/-- A batch that is late loses its records. -/
def State.loseLate (s : State) (c : Nat) (b : KBatch) : State := ((s.dropRecords c b).count Reg.TBL_CNT_DISC).raise Fd.TBL_EVT_COMMIT_DISC c []

theorem State.discardLate_one {c : Nat} {b : KBatch} (hb : s.ice.batches = [(c, b)]) (hf : b.frame + 1 ≤ s.frameNo) (hu : b.out.upds ≠ []) :
    s.discardLate = s.loseLate c b := by
  have hl : s.ice.batches.filter (fun b => decide (b.2.frame + 1 ≤ s.frameNo) && !b.2.out.upds.isEmpty) = [(c, b)] := by
    rw [hb, List.filter_cons_of_pos (by simp [hf, hu]), List.filter_nil]
  rw [State.discardLate, hl]
  rfl

theorem State.loseLate_spec (s : State) (c : Nat) (b : KBatch) :
    Tab.find (s.loseLate c b).ice.batches c = some { b with out := { b.out with upds := [] } } ∧
    (s.loseLate c b).ice.logNow.disc = s.ice.logNow.disc ++ [(c, b.start)] ∧
    (s.loseLate c b).rd Reg.TBL_CNT_DISC = satCount (s.rd Reg.TBL_CNT_DISC) 1 ∧ (s.loseLate c b).fld Fd.TBL_EVT_COMMIT_DISC = 1 := by
  have hi : (s.loseLate c b).ice = (s.dropRecords c b).ice := by rw [State.loseLate, State.raise_ice, State.count_ice]
  refine ⟨by rw [hi]; exact Tab.find_put_self _ _ _, by rw [hi]; rfl, ?_, ?_⟩
  · rw [State.loseLate, Fd.TBL_EVT_COMMIT_DISC, State.rd_raise _ _ _ _ _ _ _ _ (by decide) (by decide) (by decide) (by decide) (by decide) (by decide),
      State.rd_count_same]
    rfl
  · exact State.fld_raise_self _ _ _ _ _ _ (by decide) (by decide) (by decide)

/-! ### Checkpoints -/

theorem exec_commitWriteback (s : State) : exec .commitWriteback s = .next (
    if s.tbl.wback = true ∧ ¬ s.ice.batches.any (fun b => decide (b.2.frame < s.frameNo)) = true then
      { s with tbl := { s.tbl with wback := false } }.set Fd.TBL_STAT_COMMIT_LAG 0 else s) := rfl

theorem exec_checkpointStart (s : State) : exec .checkpointStart s = .next (
    if s.on Fd.TBL_CTRL_CKPT_EN = true ∧ s.mainRuns = true ∧ s.tbl.sweep.isNone = true ∧
      s.tbl.ckptFrom + sTicks (s.fld Fd.TBL_CKPT_CFG_PERIOD) ≤ s.clk.now then
      ({ s with tbl := { s.tbl with sweep := some s.hotCopy } }.set Fd.TBL_STAT_CKPT_RUN 1).set Fd.TBL_CKPT_STAT_STATE 1 else s) := rfl

/-- A checkpoint is kept, and its pushes wait. -/
def State.keepCkpt (s : State) (c : Ckpt) (push : List SaveJob) : State :=
  { s with tbl := { s.tbl with ckpt := some c, sweep := none, ckptFrom := s.clk.now, saves := s.tbl.saves.filter (fun j => !j.push) ++ push } }

/-- A checkpoint that has ended is reported. -/
def State.reportCkpt (s : State) (frame st : Nat) : State :=
  (((((s.set Fd.TBL_STAT_CKPT_RUN 0).set Fd.TBL_CKPT_STAT_STATE st).wr Reg.TBL_CKPT_FRM_LO (BitVec.ofNat 32 frame)).wr Reg.TBL_CKPT_FRM_HI
    (BitVec.ofNat 32 (frame / 2 ^ 32))).wrap Fd.TBL_CKPT_STAT_SEQ).raise Fd.TBL_EVT_CKPT_DONE noObj []

theorem exec_checkpointDone (s : State) : exec .checkpointDone s = .next (
    match s.tbl.sweep with
    | none => s
    | some c =>
      if ¬ s.mainRuns = true then s else
      ((s.keepCkpt c (if s.fld Fd.PAI_STAT_ROLE = 2 then [] else s.pushJobs c)).reportCkpt c.frame
        (if (if s.fld Fd.PAI_STAT_ROLE = 2 then [] else s.pushJobs c).isEmpty = true then 0 else 2)).nextDevice) := rfl

@[simp] theorem State.fld_wrap_beside (s : State) (a lo w lo' w' : Nat) (h : lo + w ≤ lo' ∨ lo' + w' ≤ lo) :
    (s.wrap ⟨a, lo, w⟩).fld ⟨a, lo', w'⟩ = s.fld ⟨a, lo', w'⟩ := State.fld_set_bits _ _ _ _ rfl h

theorem State.reportCkpt_spec (s : State) {frame st : Nat} (h : st < 4) : (s.reportCkpt frame st).tbl = s.tbl ∧
    (s.reportCkpt frame st).fld Fd.TBL_CKPT_STAT_STATE = st ∧ (s.reportCkpt frame st).fld Fd.TBL_STAT_CKPT_RUN = 0 ∧
    (s.reportCkpt frame st).rd Reg.TBL_CKPT_FRM_LO = BitVec.ofNat 32 frame ∧
    (s.reportCkpt frame st).rd Reg.TBL_CKPT_FRM_HI = BitVec.ofNat 32 (frame / 2 ^ 32) ∧
    (s.reportCkpt frame st).fld Fd.TBL_EVT_CKPT_DONE = 1 ∧
    Changes [.firn] [Reg.TBL_STAT, Reg.TBL_CKPT_STAT, Reg.TBL_CKPT_FRM_LO, Reg.TBL_CKPT_FRM_HI, Reg.TBL_EVT, Reg.TBL_EVT_SEQ] s
      (s.reportCkpt frame st) := by
  have hm : st % 4 = st := Nat.mod_eq_of_lt h
  refine ⟨?_, ?_, ?_, ?_, ?_, ?_, ?_⟩
  · rw [State.reportCkpt, State.raise_tbl, State.wrap_tbl, State.wr_tbl, State.wr_tbl, State.set_tbl, State.set_tbl]
  · simp -implicitDefEqProofs (disch := omega) [State.reportCkpt, Fd.TBL_EVT_CKPT_DONE, Fd.TBL_CKPT_STAT_SEQ, Fd.TBL_CKPT_STAT_STATE,
      Fd.TBL_STAT_CKPT_RUN, Reg.TBL_CKPT_STAT, Reg.TBL_CKPT_FRM_LO, Reg.TBL_CKPT_FRM_HI, Reg.TBL_EVT, Reg.TBL_STAT, hm]
  · simp -implicitDefEqProofs (disch := omega) [State.reportCkpt, Fd.TBL_EVT_CKPT_DONE, Fd.TBL_CKPT_STAT_SEQ, Fd.TBL_CKPT_STAT_STATE,
      Fd.TBL_STAT_CKPT_RUN, Reg.TBL_CKPT_STAT, Reg.TBL_CKPT_FRM_LO, Reg.TBL_CKPT_FRM_HI, Reg.TBL_EVT, Reg.TBL_STAT]
  · simp -implicitDefEqProofs (disch := omega) [State.reportCkpt, Fd.TBL_EVT_CKPT_DONE, Fd.TBL_CKPT_STAT_SEQ, Fd.TBL_CKPT_STAT_STATE,
      Fd.TBL_STAT_CKPT_RUN, Reg.TBL_CKPT_STAT, Reg.TBL_CKPT_FRM_LO, Reg.TBL_CKPT_FRM_HI, Reg.TBL_EVT, Reg.TBL_STAT]
  · simp -implicitDefEqProofs (disch := omega) [State.reportCkpt, Fd.TBL_EVT_CKPT_DONE, Fd.TBL_CKPT_STAT_SEQ, Fd.TBL_CKPT_STAT_STATE,
      Fd.TBL_STAT_CKPT_RUN, Reg.TBL_CKPT_STAT, Reg.TBL_CKPT_FRM_LO, Reg.TBL_CKPT_FRM_HI, Reg.TBL_EVT, Reg.TBL_STAT]
  · exact State.fld_raise_self _ _ _ _ _ _ (by decide) (by decide) (by decide)
  · exact ((((((Changes.refl _ _ s).set).set).wr).wr).wrap).raise

theorem checkpointDone_keeps {c : Ckpt} (hw : s.tbl.sweep = some c) (hm : s.mainRuns = true) : ∃ t, exec .checkpointDone s = .next t ∧
      t.tbl.ckpt = some c ∧ t.tbl.sweep = none ∧ t.tbl.ckptFrom = s.clk.now ∧
      (t.tbl.saves = s.tbl.saves.filter (fun j => !j.push) ++ (if s.fld Fd.PAI_STAT_ROLE = 2 then [] else s.pushJobs c)) ∧
      (t.fld Fd.TBL_CKPT_STAT_STATE = (if s.fld Fd.PAI_STAT_ROLE = 2 ∨ s.pushJobs c = [] then 0 else 2) ∧ t.on Fd.TBL_STAT_CKPT_RUN = false) ∧
      t.rd Reg.TBL_CKPT_FRM_LO = BitVec.ofNat 32 c.frame ∧ t.rd Reg.TBL_CKPT_FRM_HI = BitVec.ofNat 32 (c.frame / 2 ^ 32) ∧
      t.on Fd.TBL_EVT_CKPT_DONE = true ∧
      Changes [.tbl, .zh, .out, .firn] [Reg.TBL_STAT, Reg.TBL_CKPT_STAT, Reg.TBL_CKPT_FRM_LO, Reg.TBL_CKPT_FRM_HI, Reg.TBL_EVT, Reg.TBL_EVT_SEQ] s t := by
  have hx := exec_checkpointDone s
  simp only [hw, hm, not_true_eq_false, if_false] at hx
  have hst : (if (if s.fld Fd.PAI_STAT_ROLE = 2 then [] else s.pushJobs c).isEmpty = true then 0 else 2) =
      (if s.fld Fd.PAI_STAT_ROLE = 2 ∨ s.pushJobs c = [] then 0 else 2) := by
    by_cases h : s.fld Fd.PAI_STAT_ROLE = 2 <;> simp [h]
  have hlt : (if s.fld Fd.PAI_STAT_ROLE = 2 ∨ s.pushJobs c = [] then 0 else 2) < 4 := by split <;> decide
  rw [hst] at hx
  have hk : Changes [.tbl] [] s (s.keepCkpt c (if s.fld Fd.PAI_STAT_ROLE = 2 then [] else s.pushJobs c)) := (Changes.refl _ _ s).upd_tbl
  obtain ⟨htbl, hstate, hrun, hlo, hhi, hevt, hc⟩ := State.reportCkpt_spec (s.keepCkpt c (if s.fld Fd.PAI_STAT_ROLE = 2 then [] else s.pushJobs c))
    (frame := c.frame) hlt
  refine ⟨_, hx, ?_, ?_, ?_, ?_, ⟨?_, ?_⟩, ?_, ?_, ?_, (((Changes.refl _ _ s).step hk).step hc).nextDevice⟩
  · rw [State.nextDevice_tbl, htbl]; rfl
  · rw [State.nextDevice_tbl, htbl]; rfl
  · rw [State.nextDevice_tbl, htbl]; rfl
  · rw [State.nextDevice_tbl, htbl]; rfl
  · rw [State.nextDevice_fld, hstate]
  · rw [State.on, State.nextDevice_fld, hrun]; rfl
  · rw [State.nextDevice_rd, hlo]
  · rw [State.nextDevice_rd, hhi]
  · rw [State.on, State.nextDevice_fld, hevt]; rfl

/-- Settles O26, command by command. -/
theorem segmentsAndLogsMove : Obligations.SegmentsAndLogsMove := by
  unfold Obligations.SegmentsAndLogsMove
  refine ⟨?_, ?_, ?_, ?_, ?_, ?_, ?_, ?_, ?_, ?_, ?_, ?_, ?_, ?_⟩
  · intro s
    exact ⟨_, exec_saveRetry s, by rw [State.nextDevice_tbl]; rfl,
      (State.nextDevice_keeps rfl (State.setSaves_keeps (F := Part.zh.bit ||| Part.tbl.bit ||| Part.out.bit) rfl (Keeps.refl _ s))).only _
        (fun p => by cases p <;> decide)⟩
  · intro tb seg s k rows hm hn hl hk
    exact segmentLoadDone_loads hm hn hl hk
  · intro tb seg s hm hn hk hp
    refine ⟨_, segmentLoadDone_noSpace hm hn hk hp, ?_, State.raise_tbl _ _ _ _ _, ?_⟩
    · exact congrArg (· == 1) (State.fld_raise_self _ _ _ _ _ _ (by decide) (by decide) (by decide))
    · exact (State.raise_keeps (F := Part.regs.bit ||| Part.firn.bit) rfl (Keeps.refl _ s)).only _ (fun p => by cases p <;> decide)
  · intro tb seg s h
    have hn : ¬ (s.mainRuns && s.loadNow == some (tb.val, seg.val)) = true := by rcases h with h | h <;> simp [h]
    exact ⟨_, (exec_segmentLoadDone tb seg s).trans (by rw [if_neg hn]), rfl⟩
  · intro s h1 h2
    exact ⟨_, (exec_logCommit s).trans (by rw [if_pos ⟨h1, h2⟩]), rfl, rfl⟩
  · intro s h
    exact ⟨_, (exec_logCommit s).trans (by rw [if_neg (by rintro ⟨h1, h2⟩; simp_all)]), rfl⟩
  · intro s l h hm hl hb
    obtain ⟨hlogs, hcommit, hdrop, huse, hc⟩ := s.committed_spec l (s.commitLog l)
    rw [State.commitNow_one h hm hl hb]
    exact ⟨_, rfl, hlogs, hcommit, hdrop, huse, hc⟩
  · intro s c b h hm hb hf hu hl
    obtain ⟨hbat, hdisc, hcnt, hevt⟩ := s.loseLate_spec c b
    obtain ⟨-, -, hc⟩ := (s.loseLate c b).showLog_spec 0
    have hi : ((s.loseLate c b).showLog 0).ice = (s.loseLate c b).ice := hc.1.2 .ice (by decide)
    rw [State.commitNow_idle (n := 0) h hm (by rw [hl]; rfl) List.isEmpty_nil rfl, State.discardLate_one hb hf hu]
    exact ⟨_, rfl, by rw [hi, hbat], by rw [hi, hdisc], (hc.rd (by decide) (by decide)).trans hcnt,
      congrArg (· == 1) ((State.fld_congr (hc.2 _ (by decide) (by decide))).trans hevt)⟩
  · intro s hw hb
    refine ⟨_, (exec_commitWriteback s).trans (by rw [if_pos ⟨hw, by simp [hb]⟩]), rfl, ?_, ((Changes.refl _ _ s).upd_tbl).set⟩
    simp [State.on, Fd.TBL_STAT_COMMIT_LAG]
  · intro s h
    exact ⟨_, (exec_commitWriteback s).trans (by rw [if_neg (by rintro ⟨h1, h2⟩; rcases h with h | h <;> simp_all)]), rfl⟩
  · intro s h1 hm hw ht
    refine ⟨_, (exec_checkpointStart s).trans (by rw [if_pos ⟨h1, hm, by simp [hw], ht⟩]), rfl, ?_, ?_, (((Changes.refl _ _ s).upd_tbl).set).set⟩
    · simp [State.on, Fd.TBL_STAT_CKPT_RUN, Fd.TBL_CKPT_STAT_STATE, Reg.TBL_STAT, Reg.TBL_CKPT_STAT]
    · simp [Fd.TBL_CKPT_STAT_STATE]
  · intro s h
    have hn : ¬ (s.on Fd.TBL_CTRL_CKPT_EN = true ∧ s.mainRuns = true ∧ s.tbl.sweep.isNone = true ∧
        s.tbl.ckptFrom + sTicks (s.fld Fd.TBL_CKPT_CFG_PERIOD) ≤ s.clk.now) := by
      rintro ⟨h1, hm, hw, ht⟩
      rcases h with h | h | h | h
      · rw [h] at h1; cases h1
      · rw [h] at hm; cases hm
      · rw [Option.isNone_iff_eq_none] at hw; rw [hw] at h; cases h
      · omega
    exact ⟨_, (exec_checkpointStart s).trans (by rw [if_neg hn]), rfl⟩
  · intro s c hw hm
    exact checkpointDone_keeps hw hm
  · intro s h
    refine ⟨_, (exec_checkpointDone s).trans ?_, rfl⟩
    split
    · rfl
    next c hc => rw [if_pos (by simpa [hc] using h)]
end Sys2Proof.Machine
end

section
-- In order: the one text holds more declarations than asynchronous elaboration has threads for.
set_option Elab.async false

/-! PROOFS. CEIL_CLEAR of an entry that the register file lists twice (R232, R425). -/

namespace Sys2Proof.Machine

/-- Refutes O27, by its last clause: CEIL_CLEAR of a valid entry answers with the number of words listed under it, which is 2 and not 1 in
`ceilingListedTwice`; the clause does not ask for a canonical register file. -/
theorem not_jobsAndCeilingsAreCommanded : ¬ Obligations.JobsAndCeilingsAreCommanded := by
  unfold Obligations.JobsAndCeilingsAreCommanded
  rintro ⟨-, -, -, -, -, -, -, -, -, -, hclear⟩
  have hmain : ceilingListedTwice.mainAbsent = false := by decide +kernel
  have hstate : ceilingListedTwice.inMap 0x03FA = true := by decide +kernel
  have hrole : ceilingListedTwice.hasRole 0 roleFacility = true := by decide +kernel
  have hvalid : ceilingListedTwice.on (Fd.CL_CTRL_VALID 0) = true := by decide +kernel
  have hpass : (judgeCeilClear 0 0 ceilingListedTwiceJudged).first facilityReq ceilingListedTwiceJudged = none :=
    judgeCeilClear_first ceilingListedTwice_reaches hmain hstate rfl (by decide) hrole
  obtain ⟨t, ht, hone, -⟩ := hclear facilityReq 0 ceilingListedTwice 0 _ ceilingListedTwice_reaches hpass (by decide) hvalid
  obtain ⟨t', ht', htwo⟩ := ceilClear_answers (entry := 0) ceilingListedTwice_reaches hpass
  obtain rfl : t = t' := Host.Outcome.next.inj (ht.symm.trans ht')
  have hlen : [1] = [(ceilingListedTwiceJudged.ceilingsToClear 0).length] := hone.body_eq htwo
  rw [ceilingListedTwice_toClear] at hlen
  exact absurd hlen (by decide)

end Sys2Proof.Machine
end

section
-- In order: the one text holds more declarations than asynchronous elaboration has threads for.
set_option Elab.async false

/-! PROOFS. LOP_CMT.LOAD (R294) where the table points in force are listed with a word of the active configuration. -/

namespace Sys2Proof.Machine

/-- A module at an operating state whose session in slot 0 is open with every role and owns domains 0 to 3. -/
def ownerAt (st : Nat) : State :=
  let s := ((State.reset.set Fd.SYS_STATE_STATE st).set (Fd.SS_STAT_STATE 0) 2).wr (Reg.SS_ROLES 0) 0x7F
  (List.range 4).foldl (fun (s : State) d => (s.set (Fd.OW_STAT_HELD d) 1).set (Fd.OW_STAT_SLOT d) 0) s

theorem State.writeTaken_of {s : State} {k a : Nat} {v : Word} {ok : Bool} (h : (s.checkWords k [(a, v)]).isNone = true)
    (hf : (rowAt a).elim true (fun r => fieldsOk r v) = true) (ho : ok = true) : s.WriteTaken k a v ok :=
  ⟨Option.isNone_iff_eq_none.mp h, hf, ho⟩

/-- That module in COMMISSION, with LP_ACFG0 of loop 0 among the table points in force. -/
def pointOnConfig : State := { ownerAt 3 with lop := { (ownerAt 3).lop with points := [(Reg.LP_ACFG0 0, 1)] } }

theorem pointOnConfig_taken : pointOnConfig.WriteTaken 0 Reg.LOP_CMT 2 true :=
  State.writeTaken_of (by decide +kernel) (by decide +kernel) rfl

/-- The load stages the point and not the word that was in force. -/
theorem pointOnConfig_staged : (match exec (.loopConfigLoad 0) pointOnConfig with
    | .next t => t.staged 0 0 | _ => 0) = 1 ∧ pointOnConfig.active 0 0 = 0 := by decide +kernel

/-- Refutes O29, by its clause on LOP_CMT.LOAD: the clause bounds neither the addresses of the table points in force nor the state, and in
`pointOnConfig` a point overwrites a word of the active configuration before it is copied. -/
theorem not_loopPacketsAndConfigurationsAct : ¬ Obligations.LoopPacketsAndConfigurationsAct := by
  unfold Obligations.LoopPacketsAndConfigurationsAct
  rintro ⟨-, -, -, hload, -⟩
  obtain ⟨t, hx, -, hst, -⟩ := hload 0 pointOnConfig pointOnConfig_taken
  obtain ⟨hnew, hold⟩ := pointOnConfig_staged
  rw [hx] at hnew
  exact absurd ((hst 0 0 (by decide) (by decide)).symm.trans hnew) (by rw [hold]; decide)

end Sys2Proof.Machine
end

section
-- In order: the one text holds more declarations than asynchronous elaboration has threads for.
set_option Elab.async false

/-! PROOFS. The automatic end of FULLCOOL (R389) in a module whose boot was held. -/

namespace Sys2Proof.Machine

/-- An ACTIVE module held at its boot, in FULLCOOL taken by itself out of BOOT, whose cause has gone. -/
def heldInFullcool : State :=
  let s := (((ownerAt 8).set Fd.SYS_STATE_RETURN 1).set Fd.PRT_STAT_FULLCOOL 1).set Fd.PAI_STAT_ROLE 1
  { s with
    sys := { s.sys with hold := true }
    prt := { s.prt with fcAuto := some 0 }
    clk := { s.clk with now := 10 ^ 15 } }

/-- It is to return to BOOT, and the command that was held takes it on to TABLE at once. -/
theorem heldInFullcool_left : heldInFullcool.returnTarget = 1 ∧
    (match exec .fullcoolAutoExit heldInFullcool with | .next t => t.opState | _ => 0) = 5 := by decide +kernel

/-- Refutes O37, by its clause on the end of FULLCOOL: the state is not always the one to return to, as a module that returns to BOOT with
its release held leaves BOOT in the same step (`heldInFullcool`). -/
theorem not_protectionEndsAndAnswers : ¬ Obligations.ProtectionEndsAndAnswers := by
  unfold Obligations.ProtectionEndsAndAnswers
  rintro ⟨-, -, -, -, -, -, -, -, -, -, hexit, -⟩
  obtain ⟨t, hx, -, -, -, hst⟩ := hexit heldInFullcool (by decide +kernel) (by decide +kernel) (by decide +kernel) (by decide +kernel)
  obtain ⟨hret, hnew⟩ := heldInFullcool_left
  rw [hx] at hnew
  exact absurd ((hst (by decide +kernel) (by decide +kernel)).symm.trans hnew) (by rw [hret]; decide)

end Sys2Proof.Machine
end

section
-- In order: the one text holds more declarations than asynchronous elaboration has threads for.
set_option Elab.async false

/-! PROOFS. The CAN buses: frames received and sent (R456 to R460), modes and rate detection (R452 to R454), errors and recovery (R461, R462),
pods and drives (R465, R466, R468). -/

namespace Sys2Proof.Machine

variable {ps : List Part} {ws : List Nat} {s t u : State}

/-! ### A frame that arrives -/

theorem State.objMatches_count (s : State) (b : Nat) (f : CanFrame) {c : Nat} (hc : c < 0xA010000) :
    (s.count c).objMatches b f = s.objMatches b f := by
  have h : ∀ a, 0xA010000 ≤ a → (s.count c).rd a = s.rd a := fun a ha => State.rd_count _ _ _ (by omega)
  funext o
  unfold State.objMatches
  rw [h _ (by simp only [Reg.OBJ_CFG]; omega), h _ (by simp only [Reg.OBJ_ID]; omega), h _ (by simp only [Reg.OBJ_MASK]; omega)]

/-- Counting the frame does not change where it goes. -/
theorem State.canMatch_count (s : State) {b : Nat} (hb : b < 8) (f : CanFrame) : (s.count (Reg.BUS_CNT_RXOK b)).canMatch b f = s.canMatch b f := by
  have hp : (s.count (Reg.BUS_CNT_RXOK b)).hpMatches b f = s.hpMatches b f := by
    unfold State.hpMatches State.on Fd.BUS_CTRL_HP_EN
    rw [State.fld_count _ _ _ _ _ (by simp only [Reg.BUS_CTRL, Reg.BUS_CNT_RXOK]; omega),
      State.rd_count _ _ _ (by simp only [Reg.HP_ID, Reg.BUS_CNT_RXOK]; omega),
      State.rd_count _ _ _ (by simp only [Reg.HP_MASK, Reg.BUS_CNT_RXOK]; omega)]
  unfold State.canMatch
  rw [hp, State.objMatches_count s b f (by simp only [Reg.BUS_CNT_RXOK]; omega)]

theorem exec_canFrameReceived {b : Fin 8} {f : CanFrame} {missed : Nat} (h : s.busHears b = true) :
    exec (.canFrameReceived b f missed) s = .next ((s.canReceive b f).autoFrame b f missed) := congrArg _ (if_pos h)

theorem State.canReceive_some {b o : Nat} {f : CanFrame} (hb : b < 8) (h : s.canMatch b f = some o) : s.canReceive b f =
    (s.count (Reg.BUS_CNT_RXOK b)).setCan { s.can with arrived := s.can.arrived ++ [⟨b, o, f⟩] } := by
  unfold State.canReceive
  simp only [State.canMatch_count _ hb, h, State.count_can]

theorem State.canReceive_none {b : Nat} {f : CanFrame} (hb : b < 8) (h : s.canMatch b f = none) : s.canReceive b f =
    (s.count (Reg.BUS_CNT_RXOK b)).count (Reg.BUS_CNT_NOMATCH b) := by
  unfold State.canReceive
  simp only [State.canMatch_count _ hb, h]

theorem State.autoFrame_none {b : Nat} {f : CanFrame} {missed : Nat} (h : Tab.find s.can.auto b = none) : s.autoFrame b f missed = s := by
  unfold State.autoFrame
  simp only [h]

theorem State.autoFrame_data {b : Nat} {f : CanFrame} {missed : Nat} {x : AutoDetect} (h : Tab.find s.can.auto b = some x)
    (hf : f.fdf = true ∧ f.brs = true) (hk : x.kept = true) : s.autoFrame b f missed =
    s.autoFound b { x with data := (x.data + missed) % 5, tried := x.tried || decide (0 < missed) } (some ((x.data + missed) % 5)) := by
  unfold State.autoFrame
  simp only [h, hk, hf.1, hf.2, not_true_eq_false, if_false, Bool.and_self, if_true]

theorem Changes.raiseBus (h : Changes ps ws s t) {b lo o : Nat} {l : List Nat} {x : Bool} (hb : b < 8) (hl : lo < 32)
    (hp : Part.firn ∈ ps := by repeat constructor) (h1 : Reg.BUS_EVT b ∈ ws := by repeat constructor)
    (h2 : Reg.BUS_EVT_SEQ b ∈ ws := by repeat constructor) : Changes ps ws s (t.raise ⟨Reg.BUS_EVT b, lo, 1⟩ o l x) := by
  refine h.raise hp (eventCode_lt (by simp only [Reg.BUS_EVT]; omega) hl) h1 ?_
  rwa [show Reg.BUS_EVT b + 4 = Reg.BUS_EVT_SEQ b by simp only [Reg.BUS_EVT, Reg.BUS_EVT_SEQ]; omega]

/-- The end of rate detection is shown and told. -/
def State.autoDone (s : State) (b : Nat) : State :=
  ((s.setCan { s.can with auto := s.can.auto.del b }).set (Fd.BUS_STAT_AUTO_DONE b) 1).raise (Fd.BUS_EVT_AUTO b) b []

theorem State.autoDone_spec (s : State) {b : Nat} (hb : b < 8) : Tab.find (s.autoDone b).can.auto b = none ∧
    (s.autoDone b).on (Fd.BUS_STAT_AUTO_DONE b) = true ∧ (s.autoDone b).on (Fd.BUS_EVT_AUTO b) = true ∧
    Changes [.can, .firn] [Reg.BUS_STAT b, Reg.BUS_EVT b, Reg.BUS_EVT_SEQ b] s (s.autoDone b) := by
  have hc : (s.autoDone b).can = { s.can with auto := s.can.auto.del b } := (State.raise_can _ _ _ _ _).trans (State.set_can _ _ _)
  refine ⟨by rw [hc]; exact Tab.find_del_self _ _, ?_, ?_, ?_⟩
  · simp -implicitDefEqProofs (disch := omega) [State.autoDone, State.on, Fd.BUS_STAT_AUTO_DONE, Reg.BUS_STAT, Fd.BUS_EVT_AUTO, Reg.BUS_EVT]
  · simp -implicitDefEqProofs (disch := omega) [State.autoDone, State.on, Fd.BUS_EVT_AUTO, Reg.BUS_EVT]
  · exact (Changes.refl _ _ s).setCan.set.raiseBus hb (by decide)

theorem State.autoFound_none (s : State) (b : Nat) (x : AutoDetect) :
    s.autoFound b x none = (s.wr (Reg.BUS_NBT b) (nominalWord x.cand)).autoDone b := rfl

theorem State.autoFound_some (s : State) (b : Nat) (x : AutoDetect) (d : Nat) : s.autoFound b x (some d) =
    (({ s.wr (Reg.BUS_NBT b) (nominalWord x.cand) with fresh := s.fresh + 1 } : State).wr (Reg.BUS_DBT b)
      (dataWord d (Config.freeValue s.fresh))).autoDone b := rfl

theorem State.autoFound_data (s : State) {b : Nat} (hb : b < 8) (x : AutoDetect) (d : Nat) :
    (s.autoFound b x (some d)).rd (Reg.BUS_NBT b) = nominalWord x.cand ∧
    (s.autoFound b x (some d)).rd (Reg.BUS_DBT b) = dataWord d (Config.freeValue s.fresh) ∧
    Tab.find (s.autoFound b x (some d)).can.auto b = none ∧ (s.autoFound b x (some d)).on (Fd.BUS_STAT_AUTO_DONE b) = true ∧
    Changes [.can, .fresh, .firn] [Reg.BUS_NBT b, Reg.BUS_DBT b, Reg.BUS_STAT b, Reg.BUS_EVT b, Reg.BUS_EVT_SEQ b] s
      (s.autoFound b x (some d)) := by
  rw [State.autoFound_some]
  have hu : Changes [.can, .fresh, .firn] [Reg.BUS_NBT b, Reg.BUS_DBT b, Reg.BUS_STAT b, Reg.BUS_EVT b, Reg.BUS_EVT_SEQ b] s
      (({ s.wr (Reg.BUS_NBT b) (nominalWord x.cand) with fresh := s.fresh + 1 } : State).wr (Reg.BUS_DBT b)
        (dataWord d (Config.freeValue s.fresh))) :=
    ((Changes.refl _ _ s).wr.upd_fresh (Nat.le_succ s.fresh)).wr
  have hn : (({ s.wr (Reg.BUS_NBT b) (nominalWord x.cand) with fresh := s.fresh + 1 } : State).wr (Reg.BUS_DBT b)
        (dataWord d (Config.freeValue s.fresh))).rd (Reg.BUS_NBT b) = nominalWord x.cand :=
    (State.rd_wr _ _ _ _ (by simp only [Reg.BUS_NBT, Reg.BUS_DBT]; omega)).trans (State.rd_wr_self _ _ _)
  have hd := State.rd_wr_self { s.wr (Reg.BUS_NBT b) (nominalWord x.cand) with fresh := s.fresh + 1 } (Reg.BUS_DBT b)
        (dataWord d (Config.freeValue s.fresh))
  generalize State.wr _ (Reg.BUS_DBT b) _ = u at *
  obtain ⟨h1, h2, -, h4⟩ := u.autoDone_spec hb
  refine ⟨(h4.rd (eventWord_eq_false ?_ ?_) ?_).trans hn, (h4.rd (eventWord_eq_false ?_ ?_) ?_).trans hd, h1, h2, hu.step h4⟩
  all_goals simp only [Reg.BUS_NBT, Reg.BUS_DBT, Reg.BUS_STAT, Reg.BUS_EVT, Reg.BUS_EVT_SEQ, List.mem_cons, List.not_mem_nil, or_false, not_or]
  all_goals omega

/-! ### Reads that clear, and frames to send -/

theorem State.readObj_spec (s : State) (b o : Nat) : (s.readObj b o).on (Fd.OBJ_STAT_NEW b o) = false ∧
    (s.readObj b o).on (Fd.OBJ_STAT_OVR b o) = false ∧
    Tab.find (s.readObj b o).can.shadow b = some ⟨o, [s.rd (Reg.OBJ_RXID b o), s.rd (Reg.OBJ_TS b o)] ++
      (List.range 16).map (fun i => s.rd (Reg.OBJ_DATA b o i))⟩ ∧
    Changes [.can] [Reg.OBJ_STAT b o] s (s.readObj b o) := by
  unfold State.readObj
  refine ⟨?_, ?_, ?_, (Changes.refl _ _ s).setCan.set.set⟩
  · simp -implicitDefEqProofs (disch := omega) [State.on, Fd.OBJ_STAT_NEW, Fd.OBJ_STAT_OVR]
  · simp -implicitDefEqProofs (disch := omega) [State.on, Fd.OBJ_STAT_OVR]
  · rw [State.set_can, State.set_can]
    exact Tab.find_put_self _ _ _

theorem State.readHp_spec (s : State) (b : Nat) : (s.readHp b).on (Fd.HP_STAT_NEW b) = false ∧ (s.readHp b).on (Fd.HP_STAT_OVR b) = false ∧
    Tab.find (s.readHp b).can.hpShadow b = some ([s.rd (Reg.HP_RXID b), s.rd (Reg.HP_TS b)] ++
      (List.range 16).map (fun i => s.rd (Reg.HP_DATA b i))) ∧
    Changes [.can] [Reg.HP_STAT b] s (s.readHp b) := by
  unfold State.readHp
  refine ⟨?_, ?_, ?_, (Changes.refl _ _ s).setCan.set.set⟩
  · simp -implicitDefEqProofs (disch := omega) [State.on, Fd.HP_STAT_NEW, Fd.HP_STAT_OVR]
  · simp -implicitDefEqProofs (disch := omega) [State.on, Fd.HP_STAT_OVR]
  · rw [State.set_can, State.set_can]
    exact Tab.find_put_self _ _ _

/-- The marks of a frame that waits to be sent. -/
def State.markPending (s : State) (b o : Nat) : State :=
  ((s.set (Fd.OBJ_STAT_TXPEND b o) 1).set (Fd.OBJ_STAT_TXOK b o) 0).set (Fd.OBJ_STAT_TXABORTED b o) 0

theorem State.markPending_spec (s : State) (b o : Nat) : (s.markPending b o).on (Fd.OBJ_STAT_TXPEND b o) = true ∧
    (s.markPending b o).on (Fd.OBJ_STAT_TXOK b o) = false ∧ (s.markPending b o).on (Fd.OBJ_STAT_TXABORTED b o) = false ∧
    (s.markPending b o).can = s.can ∧ Changes [] [Reg.OBJ_STAT b o] s (s.markPending b o) := by
  unfold State.markPending
  refine ⟨?_, ?_, ?_, by rw [State.set_can, State.set_can, State.set_can], (Changes.refl _ _ s).set.set.set⟩
  all_goals simp -implicitDefEqProofs (disch := omega) [State.on, Fd.OBJ_STAT_TXPEND, Fd.OBJ_STAT_TXOK, Fd.OBJ_STAT_TXABORTED]

theorem State.txRequest_new {b o : Nat} (h : Tab.find s.can.tx (128 * b + o) = none) : s.txRequest b o =
    (s.setCan { s.can with tx := s.can.tx.put (128 * b + o) ⟨s.objFrame b o, s.can.txCount⟩, txCount := s.can.txCount + 1 }).markPending b o := by
  unfold State.txRequest
  simp only [h]
  rfl

/-- An object's frame is withdrawn. -/
def State.dropTx (s : State) (b o : Nat) : State := (s.setCan { s.can with tx := s.can.tx.del (128 * b + o) }).set (Fd.OBJ_STAT_TXPEND b o) 0

theorem State.dropTx_spec (s : State) (b o : Nat) : Tab.find (s.dropTx b o).can.tx (128 * b + o) = none ∧
    (s.dropTx b o).on (Fd.OBJ_STAT_TXPEND b o) = false ∧ Changes [.can] [Reg.OBJ_STAT b o] s (s.dropTx b o) := by
  unfold State.dropTx
  refine ⟨by rw [State.set_can]; exact Tab.find_del_self _ _, ?_, (Changes.refl _ _ s).setCan.set⟩
  simp -implicitDefEqProofs (disch := omega) [State.on, Fd.OBJ_STAT_TXPEND]

theorem State.dropTx_aborted (s : State) (b o : Nat) : Tab.find ((s.dropTx b o).set (Fd.OBJ_STAT_TXABORTED b o) 1).can.tx (128 * b + o) = none ∧
    ((s.dropTx b o).set (Fd.OBJ_STAT_TXABORTED b o) 1).on (Fd.OBJ_STAT_TXPEND b o) = false ∧
    ((s.dropTx b o).set (Fd.OBJ_STAT_TXABORTED b o) 1).on (Fd.OBJ_STAT_TXABORTED b o) = true ∧
    Changes [.can] [Reg.OBJ_STAT b o] s ((s.dropTx b o).set (Fd.OBJ_STAT_TXABORTED b o) 1) := by
  obtain ⟨h1, h2, h3⟩ := s.dropTx_spec b o
  generalize s.dropTx b o = u at *
  refine ⟨by rwa [State.set_can], ?_, ?_, h3.set⟩
  · rw [State.on, Fd.OBJ_STAT_TXPEND, Fd.OBJ_STAT_TXABORTED, State.fld_set_beside _ _ _ _ _ _ _ (by decide)]
    exact h2
  · simp -implicitDefEqProofs (disch := omega) [State.on, Fd.OBJ_STAT_TXABORTED]

theorem State.WriteTaken.uncrossed {k a : Nat} {v : Word} {ok : Bool} (h : s.WriteTaken k a v ok) : s.WriteTaken k a v true :=
  ⟨h.checks, h.fields, rfl⟩

theorem exec_canTxreq {w : Fin 8} {b : Fin 8} {o : Fin 128} (h : s.WriteTaken w (Reg.OBJ_CMD b o) 1 true) :
    exec (.canTxreq w b o) s = .next ((if (s.afterChecks w (Reg.OBJ_CMD b o) 1).hostSends b o = true then
      (s.afterChecks w (Reg.OBJ_CMD b o) 1).txRequest b o else s.afterChecks w (Reg.OBJ_CMD b o) 1).send (.wrote w (Reg.OBJ_CMD b o) 0 0 0)) :=
  congrArg _ (State.writeRow_taken _ h)

theorem exec_canAbort {w : Fin 8} {b : Fin 8} {o : Fin 128} {started : Bool} (h : s.WriteTaken w (Reg.OBJ_CMD b o) 2 true) :
    exec (.canAbort w b o started) s = .next ((if (s.afterChecks w (Reg.OBJ_CMD b o) 2).hostSends b o = true then
      (s.afterChecks w (Reg.OBJ_CMD b o) 2).txAbort b o started else s.afterChecks w (Reg.OBJ_CMD b o) 2).send (.wrote w (Reg.OBJ_CMD b o) 0 0 0)) :=
  congrArg _ (State.writeRow_taken _ h)

theorem State.afterChecks_hostSends (s : State) (k a : Nat) (v : Word) (b o : Nat) : (s.afterChecks k a v).hostSends b o = s.hostSends b o := by
  obtain ⟨z, h⟩ := s.afterChecks_eq k a v
  rw [h]
  rfl

theorem State.afterChecks_objFrame (s : State) (k a : Nat) (v : Word) (b o : Nat) : (s.afterChecks k a v).objFrame b o = s.objFrame b o := by
  obtain ⟨z, h⟩ := s.afterChecks_eq k a v
  rw [h]
  rfl

theorem State.txAbort_waiting {b o : Nat} {x : TxPend} (h : Tab.find s.can.tx (128 * b + o) = some x) :
    s.txAbort b o false = (s.dropTx b o).set (Fd.OBJ_STAT_TXABORTED b o) 1 := if_pos (by simp [h])

/-- A frame that has been sent. -/
def State.txSent (s : State) (b o : Nat) : State := ((s.dropTx b o).set (Fd.OBJ_STAT_TXOK b o) 1).count (Reg.BUS_CNT_TXOK b)

theorem exec_canTxComplete (b : Fin 8) (o : Fin 128) (r : TxOutcome) (s : State) : exec (.canTxComplete b o r) s = .next (
    match Tab.find s.can.tx (128 * b + o) with
    | none => s
    | some x =>
      if s.busSends b && s.mayFinish b o x then
        match r with
        | .sent => if (s.txSent b o).canMode b = 4 then (s.txSent b o).canReceive b x.frame
            else (s.txSent b o).send (.frame .can (canFields b o x.frame))
        | .lostArbitration => if s.on (Fd.OBJ_CFG_SSHOT b o) then (s.dropTx b o).set (Fd.OBJ_STAT_TXABORTED b o) 1 else s
        | .error => if (s.count (Reg.BUS_CNT_ERRFRM b)).on (Fd.OBJ_CFG_SSHOT b o) then
            ((s.count (Reg.BUS_CNT_ERRFRM b)).dropTx b o).set (Fd.OBJ_STAT_TXABORTED b o) 1 else s.count (Reg.BUS_CNT_ERRFRM b)
      else s) := rfl

theorem State.canMode_of {b : Nat} (h1 : t.rd Reg.SYS_STATE = s.rd Reg.SYS_STATE) (h2 : t.rd (Reg.BUS_CTRL b) = s.rd (Reg.BUS_CTRL b)) :
    t.canMode b = s.canMode b := by
  unfold State.canMode State.opState State.busMode
  rw [State.fld_congr (f := Fd.SYS_STATE_STATE) h1, State.fld_congr (f := Fd.BUS_CTRL_MODE b) h2]

theorem State.txSent_spec (s : State) {b o : Nat} (hb : b < 8) : Tab.find (s.txSent b o).can.tx (128 * b + o) = none ∧
    (s.txSent b o).on (Fd.OBJ_STAT_TXPEND b o) = false ∧ (s.txSent b o).on (Fd.OBJ_STAT_TXOK b o) = true ∧
    (s.txSent b o).rd (Reg.BUS_CNT_TXOK b) = satCount (s.rd (Reg.BUS_CNT_TXOK b)) 1 ∧ (s.txSent b o).canMode b = s.canMode b ∧
    (s.txSent b o).out = s.out ∧ Changes [.can] [Reg.OBJ_STAT b o, Reg.BUS_CNT_TXOK b] s (s.txSent b o) := by
  obtain ⟨h1, h2, h3⟩ := s.dropTx_spec b o
  have hc : Changes [.can] [Reg.OBJ_STAT b o, Reg.BUS_CNT_TXOK b] s (s.txSent b o) := ((Changes.refl _ _ s).step h3).set.count
  have ho : (s.dropTx b o).rd (Reg.BUS_CNT_TXOK b) = s.rd (Reg.BUS_CNT_TXOK b) :=
    (State.rd_set _ _ _ _ _ _ (by simp only [Reg.OBJ_STAT, Reg.BUS_CNT_TXOK]; omega)).trans (State.setCan_rd _ _ _)
  have hm : (s.txSent b o).canMode b = s.canMode b := by
    refine State.canMode_of (hc.rd (by decide) ?_) (hc.rd (eventWord_eq_false ?_ ?_) ?_)
    all_goals simp only [Reg.SYS_STATE, Reg.OBJ_STAT, Reg.BUS_CNT_TXOK, Reg.BUS_CTRL, List.mem_cons, List.not_mem_nil, or_false, not_or]
    all_goals omega
  refine ⟨?_, ?_, ?_, ?_, hm, hc.1.2 .out (by decide), hc⟩
  all_goals unfold State.txSent
  all_goals generalize s.dropTx b o = u at *
  · rwa [State.count_can, State.set_can]
  · rw [State.on, Fd.OBJ_STAT_TXPEND, State.fld_count _ _ _ _ _ (by simp only [Reg.OBJ_STAT, Reg.BUS_CNT_TXOK]; omega), Fd.OBJ_STAT_TXOK,
      State.fld_set_beside _ _ _ _ _ _ _ (by decide)]
    exact h2
  · rw [State.on, Fd.OBJ_STAT_TXOK, State.fld_count _ _ _ _ _ (by simp only [Reg.OBJ_STAT, Reg.BUS_CNT_TXOK]; omega),
      State.fld_set_same _ _ _ _ _ (by decide)]
    rfl
  · rw [State.rd_count_same, Fd.OBJ_STAT_TXOK, State.rd_set _ _ _ _ _ _ (by simp only [Reg.OBJ_STAT, Reg.BUS_CNT_TXOK]; omega), ho]

/-- Settles O40: a frame that arrives is counted and goes to its object or ends rate detection, a read of a status clears it, and a frame is
queued, withdrawn, sent or dropped. -/
theorem canFramesAreReceivedAndSent : Obligations.CanFramesAreReceivedAndSent := by
  refine ⟨?_, ?_, ?_, fun b o s => ⟨_, rfl, s.readObj_spec b o⟩, fun b s => ⟨_, rfl, s.readHp_spec b⟩, ?_, ?_, ?_, ?_⟩
  · intro b f missed s o hh hm ha
    have hx := exec_canFrameReceived (f := f) (missed := missed) hh
    rw [State.canReceive_some b.isLt hm, State.autoFrame_none (by exact ha)] at hx
    exact ⟨_, hx, rfl, (State.setCan_rd _ _ _).trans (State.rd_count_same _ _), (Changes.refl _ _ s).count.setCan⟩
  · intro b f missed s hh hm ha
    have hx := exec_canFrameReceived (f := f) (missed := missed) hh
    rw [State.canReceive_none b.isLt hm, State.autoFrame_none (by rwa [State.count_can, State.count_can])] at hx
    refine ⟨_, hx, ?_, ?_, (Changes.refl _ _ s).count.count⟩
    · rw [State.rd_count _ _ _ (by simp only [Reg.BUS_CNT_RXOK, Reg.BUS_CNT_NOMATCH]; omega), State.rd_count_same]
    · rw [State.rd_count_same, State.rd_count _ _ _ (by simp only [Reg.BUS_CNT_RXOK, Reg.BUS_CNT_NOMATCH]; omega)]
  · intro b f missed s x hh hm ha hf hk
    have hx := exec_canFrameReceived (f := f) (missed := missed) hh
    rw [State.canReceive_none b.isLt hm, State.autoFrame_data (by rw [State.count_can, State.count_can]; exact ha) hf hk] at hx
    obtain ⟨h1, h2, h3, h4, h5⟩ := State.autoFound_data ((s.count (Reg.BUS_CNT_RXOK b)).count (Reg.BUS_CNT_NOMATCH b)) b.isLt
      { x with data := (x.data + missed) % 5, tried := x.tried || decide (0 < missed) } ((x.data + missed) % 5)
    exact ⟨_, hx, h1, h2, h3, h4, ((Changes.refl _ _ s).count.count).step h5⟩
  · intro w b o s h hs ht
    have hx := exec_canTxreq h.uncrossed
    rw [State.afterChecks_hostSends, if_pos hs, State.txRequest_new (by rwa [State.afterChecks_can]), State.afterChecks_objFrame,
      State.afterChecks_can] at hx
    obtain ⟨h1, h2, h3, h4, h5⟩ := State.markPending_spec ((s.afterChecks w (Reg.OBJ_CMD b o) 1).setCan
      { s.can with tx := s.can.tx.put (128 * b + o) ⟨s.objFrame b o, s.can.txCount⟩, txCount := s.can.txCount + 1 }) b o
    refine ⟨_, hx, WroteOk.send _ _ _, ?_, ?_, ?_⟩
    · rw [State.send_can, h4]
      exact Tab.find_put_self _ _ _
    · rw [State.send_can, h4]
      rfl
    · rw [State.send_on, State.send_on, State.send_on]
      exact ⟨h1, h2, h3, ((Changes.refl _ _ s).afterChecks.setCan.step h5).send⟩
  · intro w b o started s x h hs ht hst
    subst hst
    have hx := exec_canAbort (started := false) h.uncrossed
    rw [State.afterChecks_hostSends, if_pos hs, State.txAbort_waiting (by rw [State.afterChecks_can]; exact ht)] at hx
    obtain ⟨h1, h2, h3, h4⟩ := State.dropTx_aborted (s.afterChecks w (Reg.OBJ_CMD b o) 2) b o
    refine ⟨_, hx, ?_⟩
    rw [State.send_can, State.send_on, State.send_on]
    exact ⟨h1, h2, h3, ((Changes.refl _ _ s).afterChecks.step h4).send⟩
  · intro b o r s x hr ht hb hm h4
    subst hr
    obtain ⟨e1, e2, e3, e4, e5, e6, e7⟩ := s.txSent_spec (o := o) b.isLt
    have hx := exec_canTxComplete b o .sent s
    simp only [ht, hb, hm, e5, h4, Bool.and_self, if_true, if_false] at hx
    refine ⟨_, hx, ?_⟩
    rw [State.send_can, State.send_on, State.send_on, State.send_rd]
    exact ⟨e1, e2, e3, e4, by rw [State.send_out, e6], ((Changes.refl _ _ s).step e7).send⟩
  · intro b o r s x hr ht hb hm hs
    subst hr
    have hs' : (s.count (Reg.BUS_CNT_ERRFRM b)).on (Fd.OBJ_CFG_SSHOT b o) = true := by
      rw [State.on, Fd.OBJ_CFG_SSHOT, State.fld_count _ _ _ _ _ (by simp only [Reg.OBJ_CFG, Reg.BUS_CNT_ERRFRM]; omega)]
      exact hs
    have hx := exec_canTxComplete b o .error s
    simp only [ht, hb, hm, hs', Bool.and_self, if_true] at hx
    obtain ⟨h1, h2, h3, h4⟩ := State.dropTx_aborted (s.count (Reg.BUS_CNT_ERRFRM b)) b o
    refine ⟨_, hx, h1, h2, h3, ?_, ((Changes.refl _ _ s).count.step h4)⟩
    refine (h4.rd (eventWord_eq_false ?_ ?_) ?_).trans (State.rd_count_same _ _)
    all_goals simp only [Reg.OBJ_STAT, Reg.BUS_CNT_ERRFRM, List.mem_cons, List.not_mem_nil, or_false]
    all_goals omega

/-! ### A change of mode -/

theorem written_busMode : ∀ b : Fin 8, written (Fd.BUS_CTRL_MODE b) = true := by decide

theorem exec_canModeWrite {w : Fin 8} {b : Fin 8} {v : Word} (h : s.WriteTaken w (Reg.BUS_CTRL b) v true) :
    exec (.canModeWrite w b v) s = .next (((s.afterChecks w (Reg.BUS_CTRL b) v).writeBusCtrl b v).send (.wrote w (Reg.BUS_CTRL b) 0 0 0)) :=
  congrArg _ (State.writeRow_taken _ h)

/-- What a change of a bus's mode does first. -/
def State.modeLeft (s : State) (b : Nat) : State := (s.zeroErrors b).setCan { s.can with auto := s.can.auto.del b }

theorem State.modeLeft_spec (s : State) {b : Nat} : (s.modeLeft b).rd (Reg.BUS_ERRC b) = 0 ∧ (s.modeLeft b).busState b = s.busState b ∧
    (s.modeLeft b).clk = s.clk ∧ Changes [.can] [Reg.BUS_ERRC b] s (s.modeLeft b) := by
  refine ⟨State.rd_wr_self _ _ _, ?_, rfl, (Changes.refl [.can] _ s).wr.setCan⟩
  exact State.fld_wr _ _ _ _ _ _ (by simp only [Reg.BUS_ERRC, Reg.BUS_STAT]; omega)

theorem State.busModeFrom_normal {b old : Nat} (h1 : s.busMode b = 1) (h2 : old ≠ 1) (h3 : s.busState b = 1) :
    s.busModeFrom b old = (s.modeLeft b).set (Fd.BUS_STAT_ESTATE b) 0 := by
  have h : (s.modeLeft b).busState b = 1 := s.modeLeft_spec.2.1.trans h3
  have he : s.busModeFrom b old = if 1 = old then s else
      (if (s.modeLeft b).busState b = 1 then (s.modeLeft b).set (Fd.BUS_STAT_ESTATE b) 0 else s.modeLeft b) := by
    unfold State.busModeFrom
    rw [h1]
    rfl
  rw [he, if_neg h2.symm, if_pos h]

theorem State.busModeFrom_auto {b : Nat} (h : s.busMode b = 3) : s.busModeFrom b 0 =
    (if (s.modeLeft b).busState b = 1 then (s.modeLeft b).set (Fd.BUS_STAT_ESTATE b) 0 else s.modeLeft b).startAuto b := by
  unfold State.busModeFrom
  rw [h]
  rfl

/-- A bus whose mode has become OFF: its bus-off and what it waited for are over. -/
def State.busCleared (s : State) (b : Nat) : State :=
  let s := (s.set (Fd.BUS_STAT_ESTATE b) 0).set (Fd.BUS_STAT_BOFF_LOCK b) 0
  s.setCan { s.can with recovering := s.can.recovering.filter (fun x => x != b), boffs := s.can.boffs.del b }

theorem State.busModeFrom_off {b old : Nat} (h1 : s.busMode b = 0) (h2 : old ≠ 0) : s.busModeFrom b old = (s.modeLeft b).busCleared b := by
  have he : s.busModeFrom b old = if 0 = old then s else (s.modeLeft b).busCleared b := by
    unfold State.busModeFrom
    rw [h1]
    rfl
  rw [he, if_neg h2.symm]

theorem State.busCleared_spec (s : State) (b : Nat) : (s.busCleared b).busState b = 0 ∧ (s.busCleared b).on (Fd.BUS_STAT_BOFF_LOCK b) = false ∧
    (s.busCleared b).can.recovering.contains b = false ∧ Changes [.can] [Reg.BUS_STAT b] s (s.busCleared b) := by
  unfold State.busCleared
  refine ⟨?_, ?_, ?_, (Changes.refl _ _ s).set.set.setCan⟩
  · simp -implicitDefEqProofs (disch := omega) [State.busState, Fd.BUS_STAT_ESTATE, Fd.BUS_STAT_BOFF_LOCK]
  · simp -implicitDefEqProofs (disch := omega) [State.on, Fd.BUS_STAT_BOFF_LOCK]
  · simp [State.setCan]

theorem State.startAuto_spec (s : State) (b : Nat) : Tab.find (s.startAuto b).can.auto b = some ⟨s.clk.now, 0, s.clk.now, false, 0, false⟩ ∧
    (s.startAuto b).on (Fd.BUS_STAT_AUTO_DONE b) = false ∧ (s.startAuto b).on (Fd.BUS_STAT_AUTO_FAIL b) = false ∧
    Changes [.can] [Reg.BUS_STAT b] s (s.startAuto b) := by
  unfold State.startAuto
  refine ⟨(Tab.find_put_self _ _ _).trans (by rw [State.set_clk, State.set_clk]), ?_, ?_, (Changes.refl _ _ s).set.set.setCan⟩
  · simp -implicitDefEqProofs (disch := omega) [State.on, Fd.BUS_STAT_AUTO_DONE, Fd.BUS_STAT_AUTO_FAIL]
  · simp -implicitDefEqProofs (disch := omega) [State.on, Fd.BUS_STAT_AUTO_FAIL]

/-- A write of a mode, up to its effect: the state with the mode written. -/
theorem canModeWrite_after {w : Fin 8} {b : Fin 8} {v : Word} (h : s.WriteTaken w (Reg.BUS_CTRL b) v (crossCan s (Reg.BUS_CTRL b) v)) :
    ∃ u, exec (.canModeWrite w b v) s = .next ((u.busModeFrom b (s.busMode b)).send (.wrote w (Reg.BUS_CTRL b) 0 0 0)) ∧
      u.busMode b = fieldOf v 0 3 ∧ u.busState b = s.busState b ∧ u.clk = s.clk ∧ Changes [.zh] [Reg.BUS_CTRL b] s u := by
  have hm : (s.afterChecks w (Reg.BUS_CTRL b) v).busMode b = s.busMode b := State.afterChecks_fld _ _ _ _ _
  have hx := exec_canModeWrite h.uncrossed
  rw [State.writeBusCtrl, hm] at hx
  have hc : Changes [.zh] [Reg.BUS_CTRL b] s ((s.afterChecks w (Reg.BUS_CTRL b) v).plainWrite (Reg.BUS_CTRL b) v) :=
    (Changes.refl _ _ s).afterChecks.plainWrite
  refine ⟨_, hx, State.fld_plainWrite _ (Fd.BUS_CTRL_MODE b) _ _ rfl (written_busMode b), hc.fld (eventWord_eq_false ?_ ?_) ?_, hc.clk, hc⟩
  all_goals simp only [Fd.BUS_STAT_ESTATE, Reg.BUS_STAT, Reg.BUS_CTRL, List.mem_cons, List.not_mem_nil, or_false]
  all_goals omega

/-! ### Rate detection that ends -/

theorem exec_canAutoDwellTimeout {b : Fin 8} {x : AutoDetect} (h1 : Tab.find s.can.auto b = some x) (h2 : x.kept = false)
    (h3 : x.since + msTicks 50 ≤ s.clk.now) : exec (.canAutoDwellTimeout b) s = .next
      (s.setCan { s.can with auto := s.can.auto.put b { x with cand := (x.cand + 1) % 4, since := s.clk.now } }) := by
  refine congrArg Host.Outcome.next ?_
  unfold State.autoDwell
  simp only [h1, h2, h3, Bool.false_eq_true, not_false_eq_true, and_self, if_true]

theorem State.autoTimeout_some {b : Nat} {x : AutoDetect} (h1 : Tab.find s.can.auto b = some x)
    (h2 : x.start + msTicks (100 * s.fld (Fd.BUS_AUTO_AUTO_TMO b)) ≤ s.clk.now) : s.autoTimeout b =
      if x.kept = true ∧ ¬ x.tried = true then s.autoFound b x none else
        ((s.setCan { s.can with auto := s.can.auto.del b }).set (Fd.BUS_STAT_AUTO_FAIL b) 1).raise (Fd.BUS_EVT_AUTO b) b [] := by
  unfold State.autoTimeout
  simp only [h1, h2, if_true]

/-- The failure of rate detection is shown and told. -/
theorem autoFail_spec (s : State) {b : Nat} (hb : b < 8) :
    let t := ((s.setCan { s.can with auto := s.can.auto.del b }).set (Fd.BUS_STAT_AUTO_FAIL b) 1).raise (Fd.BUS_EVT_AUTO b) b []
    Tab.find t.can.auto b = none ∧ t.on (Fd.BUS_STAT_AUTO_FAIL b) = true ∧ t.on (Fd.BUS_EVT_AUTO b) = true ∧
    Changes [.can, .firn] [Reg.BUS_STAT b, Reg.BUS_EVT b, Reg.BUS_EVT_SEQ b] s t := by
  refine ⟨?_, ?_, ?_, (Changes.refl _ _ s).setCan.set.raiseBus hb (by decide)⟩
  · rw [State.raise_can, State.set_can]
    exact Tab.find_del_self _ _
  · simp -implicitDefEqProofs (disch := omega) [State.on, Fd.BUS_STAT_AUTO_FAIL, Reg.BUS_STAT, Fd.BUS_EVT_AUTO, Reg.BUS_EVT]
  · simp -implicitDefEqProofs (disch := omega) [State.on, Fd.BUS_EVT_AUTO, Reg.BUS_EVT]

/-! ### Error states and bus-off -/

/-- The counters as an error state brings them. -/
def State.countErrors (s : State) (b frames : Nat) (w : Word) : State := (s.countBy (Reg.BUS_CNT_ERRFRM b) frames).wr (Reg.BUS_ERRC b) w

/-- BUS_ERRC for the counters of a controller. -/
def errWord (tec rcv : Nat) : Word := BitVec.ofNat 32 (tec + min rcv 127 * 65536 + (if 128 ≤ rcv then 0x800000 else 0))

theorem exec_canErrorState (b : Fin 8) (tec rcv : Fin 512) (frames : Nat) (s : State) : exec (.canErrorState b tec rcv frames) s = .next (
    if s.canMode b = 0 ∨ s.busState b = 2 then s
    else if 256 ≤ tec.val then (s.countErrors b frames (errWord tec rcv)).busOff b
    else if 128 ≤ tec.val ∨ 128 ≤ rcv.val then
      if (s.countErrors b frames (errWord tec rcv)).busState b = 1 then s.countErrors b frames (errWord tec rcv)
      else ((s.countErrors b frames (errWord tec rcv)).set (Fd.BUS_STAT_ESTATE b) 1).raise (Fd.BUS_EVT_PASSIVE b) b []
    else (s.countErrors b frames (errWord tec rcv)).set (Fd.BUS_STAT_ESTATE b) 0) := rfl

theorem State.countErrors_spec (s : State) {b frames : Nat} (hb : b < 8) {w : Word} : (s.countErrors b frames w).rd (Reg.BUS_ERRC b) = w ∧
    (s.countErrors b frames w).rd (Reg.BUS_CNT_ERRFRM b) = satCount (s.rd (Reg.BUS_CNT_ERRFRM b)) frames ∧
    (s.countErrors b frames w).busState b = s.busState b ∧ (s.countErrors b frames w).can = s.can ∧
    (s.countErrors b frames w).rd (Reg.BUS_CNT_BOFF b) = s.rd (Reg.BUS_CNT_BOFF b) ∧
    (s.countErrors b frames w).on (Fd.BUS_STAT_BOFF_LOCK b) = s.on (Fd.BUS_STAT_BOFF_LOCK b) ∧
    Changes [] [Reg.BUS_ERRC b, Reg.BUS_CNT_ERRFRM b] s (s.countErrors b frames w) := by
  have hc : Changes [] [Reg.BUS_ERRC b, Reg.BUS_CNT_ERRFRM b] s (s.countErrors b frames w) := (Changes.refl _ _ s).countBy.wr
  refine ⟨State.rd_wr_self _ _ _, ?_, hc.fld (eventWord_eq_false ?_ ?_) ?_, rfl, hc.rd (eventWord_eq_false ?_ ?_) ?_,
    congrArg (· == 1) (hc.fld (f := Fd.BUS_STAT_BOFF_LOCK b) (eventWord_eq_false ?_ ?_) ?_), hc⟩
  · exact (State.rd_wr _ _ _ _ (by simp only [Reg.BUS_ERRC, Reg.BUS_CNT_ERRFRM]; omega)).trans (State.rd_countBy_same _ _ _)
  all_goals simp only [Fd.BUS_STAT_ESTATE, Fd.BUS_STAT_BOFF_LOCK, Reg.BUS_STAT, Reg.BUS_ERRC, Reg.BUS_CNT_ERRFRM, Reg.BUS_CNT_BOFF, List.mem_cons,
    List.not_mem_nil, or_false, not_or]
  all_goals omega

theorem passive_spec (s : State) {b : Nat} (hb : b < 8) :
    let t := (s.set (Fd.BUS_STAT_ESTATE b) 1).raise (Fd.BUS_EVT_PASSIVE b) b []
    t.busState b = 1 ∧ t.on (Fd.BUS_EVT_PASSIVE b) = true ∧ Changes [.firn] [Reg.BUS_STAT b, Reg.BUS_EVT b, Reg.BUS_EVT_SEQ b] s t := by
  refine ⟨?_, ?_, (Changes.refl _ _ s).set.raiseBus hb (by decide)⟩
  all_goals simp -implicitDefEqProofs (disch := omega) [State.busState, State.on, Fd.BUS_STAT_ESTATE, Reg.BUS_STAT, Fd.BUS_EVT_PASSIVE, Reg.BUS_EVT]

/-- A bus enters bus-off: what is shown, counted and told. -/
def State.busOffShown (s : State) (b : Nat) (recent : List Nat) : State :=
  (((s.setCan { s.can with boffs := s.can.boffs.put b recent }).set (Fd.BUS_STAT_ESTATE b) 2).count (Reg.BUS_CNT_BOFF b)).raise
    (Fd.BUS_EVT_BUS_OFF b) b []

/-- The times of a bus's last bus-offs, with the one that comes now. -/
def State.boffsNow (s : State) (b : Nat) : List Nat :=
  s.clk.now :: (Tab.at [] s.can.boffs b).filter (fun t => decide (s.clk.now < t + sTicks 60))

theorem State.busOff_eq (s : State) (b : Nat) : s.busOff b = if 9 ≤ (s.boffsNow b).length then
    (((s.busOffShown b (s.boffsNow b)).podsGone b).set (Fd.BUS_STAT_BOFF_LOCK b) 1).raise (Fd.BUS_EVT_BOFF_LOCK b) b []
    else (s.busOffShown b (s.boffsNow b)).podsGone b := rfl

theorem State.busOffShown_spec (s : State) {b : Nat} (hb : b < 8) (l : List Nat) : (s.busOffShown b l).busState b = 2 ∧
    (s.busOffShown b l).on (Fd.BUS_EVT_BUS_OFF b) = true ∧ (s.busOffShown b l).rd (Reg.BUS_CNT_BOFF b) = satCount (s.rd (Reg.BUS_CNT_BOFF b)) 1 ∧
    (s.busOffShown b l).on (Fd.BUS_STAT_BOFF_LOCK b) = s.on (Fd.BUS_STAT_BOFF_LOCK b) ∧
    Changes [.can, .firn] [Reg.BUS_STAT b, Reg.BUS_CNT_BOFF b, Reg.BUS_EVT b, Reg.BUS_EVT_SEQ b] s (s.busOffShown b l) := by
  unfold State.busOffShown
  refine ⟨?_, ?_, ?_, ?_, (Changes.refl _ _ s).setCan.set.count.raiseBus hb (by decide)⟩
  all_goals simp -implicitDefEqProofs (disch := omega) [State.busState, State.on, Fd.BUS_STAT_ESTATE, Fd.BUS_STAT_BOFF_LOCK, Reg.BUS_STAT,
    Fd.BUS_EVT_BUS_OFF, Reg.BUS_EVT, Reg.BUS_CNT_BOFF]

theorem State.lt_of_mem_listed {base stride n i : Nat} (h : i ∈ s.listed base stride n) : i < n := by
  refine List.foldlRecOn (motive := fun (l : List Nat) => i ∈ l → i < n) _ _ (fun h => absurd h List.not_mem_nil) (fun l hl p hp => ?_) h
  obtain ⟨-, hp⟩ := List.mem_filter.mp hp
  simp only [Bool.and_eq_true, decide_eq_true_eq] at hp
  dsimp only
  split
  · exact hl
  · intro hi
    rcases List.mem_append.mp hi with hi | hi
    · exact hl hi
    · rw [List.mem_singleton.mp hi]
      exact Nat.div_lt_of_lt_mul (by omega)

/-- The words of the pod quantities. -/
def podWords : List Nat := (List.range 256).map Reg.CAN_PODV

theorem State.podsGone_changes (s : State) (b : Nat) : Changes [] podWords s (s.podsGone b) := by
  refine List.foldlRecOn _ _ (motive := fun (u : State) => Changes [] podWords s u) (Changes.refl _ _ s) (fun u hu q hq => ?_)
  have hq' : Reg.CAN_PODV q ∈ podWords := 
    List.mem_map_of_mem (List.mem_range.mpr (State.lt_of_mem_listed hq))
  split
  · exact hu.wr hq'
  · exact hu

/-- The words of the buses stay. -/
theorem State.podsGone_rd (s : State) (b : Nat) {a : Nat} (ha : a < 0xA010000) (hl : 0xA000000 ≤ a) : (s.podsGone b).rd a = s.rd a := by
  refine (s.podsGone_changes b).rd (eventWord_eq_false (by omega) (by omega)) ?_
  simp only [podWords, List.mem_map, Reg.CAN_PODV, not_exists, not_and]
  omega

theorem State.busOff_spec (s : State) {b : Nat} (hb : b < 8) : (s.busOff b).busState b = 2 ∧ (s.busOff b).on (Fd.BUS_EVT_BUS_OFF b) = true ∧
    (s.busOff b).rd (Reg.BUS_CNT_BOFF b) = satCount (s.rd (Reg.BUS_CNT_BOFF b)) 1 ∧
    (s.busOff b).on (Fd.BUS_STAT_BOFF_LOCK b) = (s.on (Fd.BUS_STAT_BOFF_LOCK b) ||
      decide (8 ≤ ((Tab.at [] s.can.boffs b).filter (fun x => decide (s.clk.now < x + sTicks 60))).length)) ∧
    Only [.can, .regs, .firn] s (s.busOff b) := by
  obtain ⟨h1, h2, h3, h4, h5⟩ := s.busOffShown_spec hb (s.boffsNow b)
  have hs : ((s.busOffShown b (s.boffsNow b)).podsGone b).rd (Reg.BUS_STAT b) = (s.busOffShown b (s.boffsNow b)).rd (Reg.BUS_STAT b) :=
    State.podsGone_rd _ _ (by simp only [Reg.BUS_STAT]; omega) (by simp only [Reg.BUS_STAT]; omega)
  have he : ((s.busOffShown b (s.boffsNow b)).podsGone b).rd (Reg.BUS_EVT b) = (s.busOffShown b (s.boffsNow b)).rd (Reg.BUS_EVT b) :=
    State.podsGone_rd _ _ (by simp only [Reg.BUS_EVT]; omega) (by simp only [Reg.BUS_EVT]; omega)
  have hn : ((s.busOffShown b (s.boffsNow b)).podsGone b).rd (Reg.BUS_CNT_BOFF b) = (s.busOffShown b (s.boffsNow b)).rd (Reg.BUS_CNT_BOFF b) :=
    State.podsGone_rd _ _ (by simp only [Reg.BUS_CNT_BOFF]; omega) (by simp only [Reg.BUS_CNT_BOFF]; omega)
  have hc : Changes [.can, .firn] (Reg.BUS_STAT b :: Reg.BUS_CNT_BOFF b :: Reg.BUS_EVT b :: Reg.BUS_EVT_SEQ b :: podWords) s
      ((s.busOffShown b (s.boffsNow b)).podsGone b) :=
    ((Changes.refl _ _ s).step h5).step (State.podsGone_changes _ b) (hw := fun a ha => by simp [ha])
  replace h1 : ((s.busOffShown b (s.boffsNow b)).podsGone b).fld (Fd.BUS_STAT_ESTATE b) = 2 := (State.fld_congr hs).trans h1
  replace h2 : ((s.busOffShown b (s.boffsNow b)).podsGone b).on (Fd.BUS_EVT_BUS_OFF b) = true :=
    (congrArg (· == 1) (State.fld_congr (f := Fd.BUS_EVT_BUS_OFF b) he)).trans h2
  replace h3 := hn.trans h3
  replace h4 : ((s.busOffShown b (s.boffsNow b)).podsGone b).on (Fd.BUS_STAT_BOFF_LOCK b) = s.on (Fd.BUS_STAT_BOFF_LOCK b) :=
    (congrArg (· == 1) (State.fld_congr (f := Fd.BUS_STAT_BOFF_LOCK b) hs)).trans h4
  have hl : 9 ≤ (s.boffsNow b).length ↔ 8 ≤ ((Tab.at [] s.can.boffs b).filter (fun x => decide (s.clk.now < x + sTicks 60))).length := by
    rw [State.boffsNow, List.length_cons]
    omega
  rw [State.busOff_eq]
  generalize (s.busOffShown b (s.boffsNow b)).podsGone b = u at *
  by_cases h9 : 9 ≤ (s.boffsNow b).length
  · rw [if_pos h9, decide_eq_true (hl.mp h9), Bool.or_true]
    refine ⟨?_, State.raise_on_of_on _ _ _ _ _ _ _ (by simp only [Reg.BUS_EVT]; omega) (by decide) (by simp only [Reg.BUS_EVT]; omega) ?_,
      ?_, ?_, ((hc.set (f := Fd.BUS_STAT_BOFF_LOCK b)).raiseBus hb (by decide)).1.mono (by decide)⟩
    · simp -implicitDefEqProofs (disch := omega) [State.busState, Fd.BUS_STAT_ESTATE, Fd.BUS_STAT_BOFF_LOCK, Reg.BUS_STAT,
        Fd.BUS_EVT_BOFF_LOCK, Reg.BUS_EVT]
      exact h1
    · rw [State.on, Fd.BUS_STAT_BOFF_LOCK, State.fld_set _ _ _ _ _ _ _ _ (by simp only [Reg.BUS_EVT, Reg.BUS_STAT]; omega)]
      exact h2
    · simp -implicitDefEqProofs (disch := omega) [Fd.BUS_STAT_BOFF_LOCK, Reg.BUS_STAT, Fd.BUS_EVT_BOFF_LOCK, Reg.BUS_EVT, Reg.BUS_CNT_BOFF]
      exact h3
    · simp -implicitDefEqProofs (disch := omega) [State.on, Fd.BUS_STAT_BOFF_LOCK, Reg.BUS_STAT, Fd.BUS_EVT_BOFF_LOCK, Reg.BUS_EVT]
  · rw [if_neg h9, decide_eq_false (fun h => h9 (hl.mpr h)), Bool.or_false]
    exact ⟨h1, h2, h3, h4, hc.1.mono (by decide)⟩

theorem exec_canRecoveryStart {b : Fin 8} {x : Nat} (h1 : s.busState b = 2) (h2 : s.on (Fd.BUS_CTRL_AUTO_REC b) = true)
    (h3 : s.on (Fd.BUS_STAT_BOFF_LOCK b) = false) (h4 : s.can.recovering.contains b.val = false) (h5 : (Tab.at [] s.can.boffs b).head? = some x)
    (h6 : x + msTicks (100 * s.fld (Fd.BUS_CTRL_REC_DLY b)) ≤ s.clk.now) :
    exec (.canRecoveryStart b) s = .next (s.setCan { s.can with recovering := s.can.recovering ++ [b.val] }) :=
  congrArg _ (if_pos ⟨h1, h2, by simp [h3], by simpa using h4, by simp [h5, h6]⟩)

/-- A bus takes part again. -/
def State.recovered (s : State) (b : Nat) : State :=
  (((s.setCan { s.can with recovering := s.can.recovering.filter (fun x => x != b) }).set (Fd.BUS_STAT_ESTATE b) 0).zeroErrors b).raise
    (Fd.BUS_EVT_RECOVERED b) b []

theorem exec_canRecovered {b : Fin 8} (h : s.can.recovering.contains b.val = true) : exec (.canRecovered b) s = .next (s.recovered b) :=
  congrArg _ (if_pos h)

theorem State.recovered_spec (s : State) {b : Nat} (hb : b < 8) : (s.recovered b).busState b = 0 ∧ (s.recovered b).rd (Reg.BUS_ERRC b) = 0 ∧
    (s.recovered b).can = { s.can with recovering := s.can.recovering.filter (fun x => x != b) } ∧
    (s.recovered b).on (Fd.BUS_EVT_RECOVERED b) = true ∧
    Changes [.can, .firn] [Reg.BUS_STAT b, Reg.BUS_ERRC b, Reg.BUS_EVT b, Reg.BUS_EVT_SEQ b] s (s.recovered b) := by
  unfold State.recovered State.zeroErrors
  refine ⟨?_, ?_, ?_, ?_, ((Changes.refl _ _ s).setCan.set.wr (a := Reg.BUS_ERRC b)).raiseBus hb (by decide)⟩
  · simp -implicitDefEqProofs (disch := omega) [State.busState, Fd.BUS_STAT_ESTATE, Reg.BUS_STAT, Fd.BUS_EVT_RECOVERED, Reg.BUS_EVT, Reg.BUS_ERRC]
  · rw [Fd.BUS_EVT_RECOVERED, State.rd_raise _ _ _ _ _ _ _ _ (by simp only [Reg.BUS_EVT]; omega) (by decide)
      (by simp only [Reg.BUS_ERRC]; omega) (by simp only [Reg.BUS_ERRC]; omega) (by simp only [Reg.BUS_EVT, Reg.BUS_ERRC]; omega)
      (by simp only [Reg.BUS_EVT, Reg.BUS_ERRC]; omega), State.rd_wr_self]
  · rw [State.raise_can, State.wr_can, State.set_can]
    rfl
  · simp -implicitDefEqProofs (disch := omega) [State.on, Fd.BUS_EVT_RECOVERED, Reg.BUS_EVT]

/-! ### Pods and drives -/

theorem exec_podQuantityTimeout {q : Fin 256} {x : Nat} (h1 : s.fld (Fd.CAN_PODQ_KIND q) ≠ 0) (h2 : Tab.find s.can.podAt q = some x)
    (h3 : x + msTicks (10 * s.fld (Fd.CAN_PODQ_TMO q)) ≤ s.clk.now) : exec (.podQuantityTimeout q) s = .next (s.wr (Reg.CAN_PODV q) 0x80000000) :=
  congrArg _ (if_pos ⟨h1, by simp [h2, h3]⟩)

/-- The loss of a drive is shown and told. -/
def State.tellDriveLost (s : State) (p b : Nat) : State := (s.set (Fd.DRV_STAT_LOST p) 1).raise (Fd.BUS_EVT_DRV_LOST b) b []

theorem State.loseDrive_eq (s : State) {p : Nat} (h1 : s.fld (Fd.PMP_CFG_MODE p) = 3) (h2 : s.on (Fd.DRV_STAT_LOST p) = false)
    (h3 : Tab.at 0 s.can.drvAt p + msTicks (s.fld (Fd.DRV_CFG_TMO p)) ≤ s.clk.now) : s.loseDrive p =
    if (s.tellDriveLost p (s.fld (Fd.DRV_CFG_BUS p))).pumpDriven p then (s.tellDriveLost p (s.fld (Fd.DRV_CFG_BUS p))).tripPump p 3
    else s.tellDriveLost p (s.fld (Fd.DRV_CFG_BUS p)) := by
  unfold State.loseDrive
  rw [if_pos ⟨h1, by simp [h2], h3⟩]
  rfl

theorem State.tellDriveLost_spec (s : State) {p b : Nat} (hp : p < 8) (hb : b < 8) : (s.tellDriveLost p b).on (Fd.DRV_STAT_LOST p) = true ∧
    (s.tellDriveLost p b).on (Fd.BUS_EVT_DRV_LOST b) = true ∧ (s.tellDriveLost p b).pumpDriven p = s.pumpDriven p ∧
    Changes [.firn] [Reg.DRV_STAT p, Reg.BUS_EVT b, Reg.BUS_EVT_SEQ b] s (s.tellDriveLost p b) := by
  have hst : (s.tellDriveLost p b).pumpState p = s.pumpState p := by
    unfold State.tellDriveLost
    simp -implicitDefEqProofs (disch := omega) [State.pumpState, Fd.DRV_STAT_LOST, Reg.DRV_STAT, Fd.BUS_EVT_DRV_LOST, Reg.BUS_EVT,
      Fd.PMP_STAT_STATE, Reg.PMP_STAT]
  refine ⟨?_, ?_, by rw [State.pumpDriven, hst, State.pumpDriven], (Changes.refl _ _ s).set.raiseBus hb (by decide)⟩
  all_goals unfold State.tellDriveLost
  all_goals simp -implicitDefEqProofs (disch := omega) [State.on, Fd.DRV_STAT_LOST, Reg.DRV_STAT, Fd.BUS_EVT_DRV_LOST, Reg.BUS_EVT]

/-- A pump's DRIVE_CMD as it stands in its object before it is queued. -/
def State.driveFilled (s : State) (p : Nat) : State :=
  let d := s.driveBytes p (Tab.at 0 s.can.drvSeq p)
  (((s.wr (Reg.OBJ_DATA (s.fld (Fd.DRV_CFG_BUS p)) (2 * p + 1) 0) (BitVec.ofNat 32 (leAt d 0 4))).wr
    (Reg.OBJ_DATA (s.fld (Fd.DRV_CFG_BUS p)) (2 * p + 1) 1) (BitVec.ofNat 32 (leAt d 4 4))).setPump p { s.pump p with faultReset := false }).setCan
      { s.can with drvSeq := s.can.drvSeq.put p ((Tab.at 0 s.can.drvSeq p + 1) % 65536), drvSent := s.can.drvSent.put p s.clk.now }

theorem State.sendDrive_eq (s : State) (p : Nat) : s.sendDrive p = (s.driveFilled p).txRequest (s.fld (Fd.DRV_CFG_BUS p)) (2 * p + 1) := rfl

theorem State.markPending_rd (s : State) (b o : Nat) {a : Nat} (h : a ≠ Reg.OBJ_STAT b o) : (s.markPending b o).rd a = s.rd a := by
  unfold State.markPending
  simp -implicitDefEqProofs only [State.rd_set_ne, Fd.OBJ_STAT_TXPEND, Fd.OBJ_STAT_TXOK, Fd.OBJ_STAT_TXABORTED, ne_eq, h, not_false_eq_true]

theorem State.driveFilled_rd (s : State) (p : Nat) : (s.driveFilled p).rd (Reg.OBJ_DATA (s.fld (Fd.DRV_CFG_BUS p)) (2 * p + 1) 0) =
    BitVec.ofNat 32 (leAt (s.driveBytes p (Tab.at 0 s.can.drvSeq p)) 0 4) := by
  unfold State.driveFilled
  rw [State.setCan_rd, State.setPump_rd, State.rd_wr _ _ _ _ (by simp only [Reg.OBJ_DATA]; omega), State.rd_wr_self]

theorem State.driveFilled_changes (s : State) (p : Nat) : Changes [.can, .acts]
    [Reg.OBJ_DATA (s.fld (Fd.DRV_CFG_BUS p)) (2 * p + 1) 0, Reg.OBJ_DATA (s.fld (Fd.DRV_CFG_BUS p)) (2 * p + 1) 1] s (s.driveFilled p) :=
  (((Changes.refl [.can, .acts] _ s).wr.wr).setPump).setCan

theorem State.markPending_objFrame (s : State) (b o : Nat) : (s.markPending b o).objFrame b o = s.objFrame b o := by
  have hd : ∀ i, (s.markPending b o).rd (Reg.OBJ_DATA b o i) = s.rd (Reg.OBJ_DATA b o i) := fun i =>
    s.markPending_rd b o (by simp only [Reg.OBJ_DATA, Reg.OBJ_STAT]; omega)
  have hs : (s.markPending b o).busState b = s.busState b :=
    State.fld_congr (f := Fd.BUS_STAT_ESTATE b) (s.markPending_rd b o (by simp only [Fd.BUS_STAT_ESTATE, Reg.BUS_STAT, Reg.OBJ_STAT]; omega))
  unfold State.objFrame State.objPayload
  simp only [hd, hs, s.markPending_rd b o (a := Reg.OBJ_CFG b o) (by simp only [Reg.OBJ_CFG, Reg.OBJ_STAT]; omega),
    s.markPending_rd b o (a := Reg.OBJ_ID b o) (by simp only [Reg.OBJ_ID, Reg.OBJ_STAT]; omega)]

/-- The CAN part when a pump's DRIVE_CMD has been queued anew. -/
def Can.driveSent (c : Can) (p key now : Nat) (f : CanFrame) : Can :=
  { c with drvSeq := c.drvSeq.put p ((Tab.at 0 c.drvSeq p + 1) % 65536), drvSent := c.drvSent.put p now, tx := c.tx.put key ⟨f, c.txCount⟩,
           txCount := c.txCount + 1 }

theorem State.sendDrive_spec {p : Nat} (h : Tab.find s.can.tx (128 * s.fld (Fd.DRV_CFG_BUS p) + (2 * p + 1)) = none) :
    (s.sendDrive p).can = s.can.driveSent p (128 * s.fld (Fd.DRV_CFG_BUS p) + (2 * p + 1)) s.clk.now
      ((s.sendDrive p).objFrame (s.fld (Fd.DRV_CFG_BUS p)) (2 * p + 1)) ∧
    (s.sendDrive p).on (Fd.OBJ_STAT_TXPEND (s.fld (Fd.DRV_CFG_BUS p)) (2 * p + 1)) = true ∧
    (s.sendDrive p).rd (Reg.OBJ_DATA (s.fld (Fd.DRV_CFG_BUS p)) (2 * p + 1) 0) =
      BitVec.ofNat 32 (leAt (s.driveBytes p (Tab.at 0 s.can.drvSeq p)) 0 4) ∧
    Changes [.can, .acts] [Reg.OBJ_STAT (s.fld (Fd.DRV_CFG_BUS p)) (2 * p + 1), Reg.OBJ_DATA (s.fld (Fd.DRV_CFG_BUS p)) (2 * p + 1) 0,
      Reg.OBJ_DATA (s.fld (Fd.DRV_CFG_BUS p)) (2 * p + 1) 1] s (s.sendDrive p) := by
  have hr := s.driveFilled_rd p
  have hc := s.driveFilled_changes p
  have hcan : (s.driveFilled p).can = { s.can with
      drvSeq := s.can.drvSeq.put p ((Tab.at 0 s.can.drvSeq p + 1) % 65536), drvSent := s.can.drvSent.put p s.clk.now } := rfl
  rw [State.sendDrive_eq, State.txRequest_new (by rw [hcan]; exact h)]
  generalize s.fld (Fd.DRV_CFG_BUS p) = b at *
  generalize s.driveFilled p = u at *
  obtain ⟨h1, -, -, h4, h5⟩ := State.markPending_spec
    (u.setCan { u.can with
      tx := u.can.tx.put (128 * b + (2 * p + 1)) ⟨u.objFrame b (2 * p + 1), u.can.txCount⟩
      txCount := u.can.txCount + 1 }) b (2 * p + 1)
  refine ⟨?_, h1, ?_, ?_⟩
  · rw [h4, State.markPending_objFrame, hcan]
    rfl
  · rw [State.markPending_rd _ _ _ (by simp only [Reg.OBJ_DATA, Reg.OBJ_STAT]; omega)]
    exact hr
  · exact (((Changes.refl _ _ s).step hc).setCan).step h5

theorem State.driveDue_of {p q b o : Nat} (hc : Changes [.can, .acts] [Reg.OBJ_STAT b o, Reg.OBJ_DATA b o 0, Reg.OBJ_DATA b o 1] s t) (hq : q < 8)
    (hb : b < 8) (ho : o < 128) (hs : t.can.drvSent = s.can.drvSent.put p s.clk.now) (hn : q ≠ p) : t.driveDue q = s.driveDue q := by
  have hm : t.fld (Fd.PMP_CFG_MODE q) = s.fld (Fd.PMP_CFG_MODE q) := by
    refine hc.fld (eventWord_eq_false ?_ ?_) ?_
    all_goals simp only [Fd.PMP_CFG_MODE, Reg.PMP_CFG, Reg.OBJ_STAT, Reg.OBJ_DATA, List.mem_cons, List.not_mem_nil, or_false, not_or]
    all_goals omega
  have hp : t.fld (Fd.DRV_CFG_PERIOD q) = s.fld (Fd.DRV_CFG_PERIOD q) := by
    refine hc.fld (eventWord_eq_false ?_ ?_) ?_
    all_goals simp only [Fd.DRV_CFG_PERIOD, Reg.DRV_CFG, Reg.OBJ_STAT, Reg.OBJ_DATA, List.mem_cons, List.not_mem_nil, or_false, not_or]
    all_goals omega
  unfold State.driveDue
  rw [hm, hp, hs, hc.clk, Tab.find_put_ne _ _ _ _ hn]

theorem exec_driveCmdSend {p : Nat} (hd : s.drives = true) (h : (List.range 8).filter s.driveDue = [p])
    (ht : Tab.find s.can.tx (128 * s.fld (Fd.DRV_CFG_BUS p) + (2 * p + 1)) = none) : exec .driveCmdSend s = .next (s.sendDrive p) := by
  have hm : ∀ q, q ∈ List.range 8 ∧ s.driveDue q = true ↔ q = p := fun q => by
    rw [← List.mem_filter, h, List.mem_singleton]
  obtain ⟨hr, hdue⟩ := (hm p).mpr rfl
  obtain ⟨hcan, -, -, hc⟩ := State.sendDrive_spec ht
  have hb : s.fld (Fd.DRV_CFG_BUS p) < 8 := s.fld_lt _
  have hn : ∀ q ∈ List.range 8, q ≠ p → s.driveDue q = false := fun q hq hne => by
    by_contra hx
    exact hne ((hm q).mp ⟨hq, by simpa using hx⟩)
  refine congrArg Host.Outcome.next ((if_pos hd).trans ((foldl_one _ List.nodup_range hr (fun q hq hne => if_neg (by simp [hn q hq hne])) ?_).trans
    (if_pos hdue)))
  intro q hq hne
  rw [if_pos hdue]
  refine if_neg ?_
  rw [State.driveDue_of hc (List.mem_range.mp hq) hb (by have := List.mem_range.mp hr; omega) (by rw [hcan]; rfl) hne, hn q hq hne]
  decide

/-- Settles O39: a change of mode by the state of the bus it meets, rate detection by the candidate it has kept, bus-off by the earlier ones of
the last minute, and the one drive command that is due. -/
theorem canBusesChangeModeAndRecover : Obligations.CanBusesChangeModeAndRecover := by
  refine ⟨?_, ?_, ?_, ?_, ?_, ?_, ?_, ?_, ?_, ?_, ?_, ?_, ?_⟩
  · intro w b v s h hv hm hs
    obtain ⟨u, hx, hu, hst, -, hc⟩ := canModeWrite_after h
    obtain ⟨e1, -, -, e4⟩ := u.modeLeft_spec (b := b)
    rw [State.busModeFrom_normal (hu.trans hv) hm (hst.trans hs)] at hx
    refine ⟨_, hx, WroteOk.send _ _ _, ?_⟩
    rw [State.busMode, State.busState, State.send_fld, State.send_fld, State.send_rd]
    refine ⟨?_, ?_, State.fld_set_same _ _ _ _ _ (by decide), (((hc.mono (by decide) (by simp)).step e4).set).send⟩
    · refine (State.fld_set _ _ _ _ _ _ _ _ (by simp only [Reg.BUS_CTRL, Reg.BUS_STAT]; omega)).trans ((e4.fld (eventWord_eq_false ?_ ?_) ?_).trans
        (hu.trans hv))
      all_goals simp only [Reg.BUS_CTRL, Reg.BUS_ERRC, List.mem_cons, List.not_mem_nil, or_false]
      all_goals omega
    · exact (State.rd_set _ _ _ _ _ _ (by simp only [Reg.BUS_ERRC, Reg.BUS_STAT]; omega)).trans e1
  · intro w b v s h hv hm
    obtain ⟨u, hx, hu, -, hclk, hc⟩ := canModeWrite_after h
    obtain ⟨-, -, e3, e4⟩ := u.modeLeft_spec (b := b)
    rw [hm, State.busModeFrom_auto (hu.trans hv)] at hx
    have hd : Changes [.can] [Reg.BUS_ERRC b, Reg.BUS_STAT b] u
        (if (u.modeLeft b).busState b = 1 then (u.modeLeft b).set (Fd.BUS_STAT_ESTATE b) 0 else u.modeLeft b) := by
      split
      · exact ((Changes.refl _ _ u).step e4).set
      · exact (Changes.refl _ _ u).step e4
    generalize (if (u.modeLeft b).busState b = 1 then (u.modeLeft b).set (Fd.BUS_STAT_ESTATE b) 0 else u.modeLeft b) = v at hx hd
    obtain ⟨f1, f2, f3, f4⟩ := v.startAuto_spec b
    rw [hd.clk, hclk] at f1
    refine ⟨_, hx, ?_⟩
    rw [State.send_can, State.send_on, State.send_on]
    exact ⟨f1, f2, f3, (((hc.mono (by decide) (by simp)).step hd).step f4).send⟩
  · intro w b v s h hv hm
    obtain ⟨u, hx, hu, -, -, hc⟩ := canModeWrite_after h
    obtain ⟨-, -, -, e4⟩ := u.modeLeft_spec (b := b)
    rw [State.busModeFrom_off (hu.trans hv) hm] at hx
    obtain ⟨f1, f2, f3, f4⟩ := (u.modeLeft b).busCleared_spec b
    refine ⟨_, hx, ?_⟩
    rw [State.busState, State.send_fld, State.send_on, State.send_can]
    exact ⟨f1, f2, f3, (((hc.mono (by decide) (by simp)).step e4).step f4).send⟩
  · intro b s x h1 h2 h3
    exact ⟨_, exec_canAutoDwellTimeout h1 h2 h3, Tab.find_put_self _ _ _,
      (State.setCan_keeps (F := 65536) rfl (Keeps.refl _ s)).only _ (fun p => by cases p <;> decide)⟩
  · intro b s x h1 h2 h3
    obtain ⟨e1, e2, e3, e4⟩ := autoFail_spec s b.isLt
    have hn : ¬ (x.kept = true ∧ ¬ x.tried = true) := by
      rintro ⟨hk, ht⟩
      rcases h3 with h | h
      · exact absurd (hk.symm.trans h) (by decide)
      · exact ht h
    exact ⟨_, congrArg Host.Outcome.next ((State.autoTimeout_some h1 h2).trans (if_neg hn)), e1, e2, e3, e4⟩
  · intro b s x h1 h2 h3 h4
    obtain ⟨e1, e2, e3, e4⟩ := (s.wr (Reg.BUS_NBT b) (nominalWord x.cand)).autoDone_spec b.isLt
    refine ⟨_, congrArg Host.Outcome.next ((State.autoTimeout_some h1 h2).trans (if_pos ⟨h3, by simp [h4]⟩)), ?_⟩
    rw [State.autoFound_none]
    refine ⟨e1, (e4.rd (eventWord_eq_false ?_ ?_) ?_).trans (State.rd_wr_self _ _ _), e2, e3, (Changes.refl _ _ s).wr.step e4⟩
    all_goals simp only [Reg.BUS_NBT, Reg.BUS_STAT, Reg.BUS_EVT, Reg.BUS_EVT_SEQ, List.mem_cons, List.not_mem_nil, or_false, not_or]
    all_goals omega
  · intro b tec rcv frames s h1 h2 h3 h4
    obtain ⟨e1, e2, e3, -, -, -, e7⟩ := s.countErrors_spec (frames := frames) b.isLt (w := errWord tec rcv)
    have hx := exec_canErrorState b tec rcv frames s
    rw [if_neg (by omega), if_neg (by omega), if_pos h4, if_neg (by rw [e3, h2]; decide)] at hx
    obtain ⟨f1, f2, f3⟩ := passive_spec (s.countErrors b frames (errWord tec rcv)) b.isLt
    refine ⟨_, hx, f1, (f3.rd (eventWord_eq_false ?_ ?_) ?_).trans e1, (f3.rd (eventWord_eq_false ?_ ?_) ?_).trans e2, f2,
      ((Changes.refl _ _ s).step e7).step f3⟩
    all_goals simp only [Reg.BUS_ERRC, Reg.BUS_CNT_ERRFRM, Reg.BUS_STAT, Reg.BUS_EVT, Reg.BUS_EVT_SEQ, List.mem_cons, List.not_mem_nil, or_false, not_or]
    all_goals omega
  · intro b tec rcv frames s h1 h2 h3
    obtain ⟨-, -, -, e4, e5, e6, e7⟩ := s.countErrors_spec (frames := frames) b.isLt (w := errWord tec rcv)
    have hx := exec_canErrorState b tec rcv frames s
    rw [if_neg (by omega), if_pos h3] at hx
    obtain ⟨f1, f2, f3, f4, f5⟩ := (s.countErrors b frames (errWord tec rcv)).busOff_spec b.isLt
    rw [e5] at f3
    rw [e4, e6, e7.clk] at f4
    exact ⟨_, hx, f1, f2, f3, f4, (e7.1.mono (by decide)).trans f5⟩
  · intro b s x h1 h2 h3 h4 h5 h6
    exact ⟨_, exec_canRecoveryStart h1 h2 h3 h4 h5 h6, rfl⟩
  · intro b s h
    exact ⟨_, exec_canRecovered h, s.recovered_spec b.isLt⟩
  · intro q s x h1 h2 h3
    exact ⟨_, exec_podQuantityTimeout h1 h2 h3, State.rd_wr_self _ _ _, (Changes.refl _ _ s).wr⟩
  · intro s hd h ht
    obtain ⟨e1, e2, e3, e4⟩ := State.sendDrive_spec (p := 3) ht
    refine ⟨_, exec_driveCmdSend hd h ht, ?_, e2, e3, by rw [e1]; rfl, by rw [e1]; rfl, e4⟩
    rw [e1]
    exact Tab.find_put_self _ _ _
  · intro p s h1 h2 h3 h4
    have hb : s.fld (Fd.DRV_CFG_BUS p) < 8 := s.fld_lt _
    obtain ⟨e1, e2, e3, e4⟩ := s.tellDriveLost_spec p.isLt hb
    exact ⟨_, congrArg Host.Outcome.next ((s.loseDrive_eq h1 h2 h3).trans (if_neg (by rw [e3, h4]; decide))), e1, e2, e4⟩

end Sys2Proof.Machine
end

section
-- In order: the one text holds more declarations than asynchronous elaboration has threads for.
set_option Elab.async false

/-! PROOFS. The first boundary of a job slot (R80, R82) that is LOST without having had one. -/

namespace Sys2Proof.Machine

/-- Job slot 0 LOST, with an open collection window and no fused boundary. -/
def lostUnfused : State :=
  { State.reset.set (Fd.JOB_STAT_STATE 0) 4 with jobs := [(0, { Job.idle with window := some ⟨0, 0, [0]⟩ })] }

/-- The close of the window takes the slot to ACQUIRE, which its status word shows. -/
theorem lostUnfused_acquires : (match exec (.markerWindowClose 0) lostUnfused with | .next t => t.jobState 0 | _ => 0) = 1 ∧
    lostUnfused.jobState 0 = 4 := by decide +kernel

/-- Refutes O19, by its clause on the first fused boundary: the clause lets the job trackers alone change, and a LOST slot that meets it passes
to ACQUIRE in JOB_STAT (`lostUnfused`). -/
theorem not_jobsAreTracked : ¬ Obligations.JobsAreTracked := by
  unfold Obligations.JobsAreTracked
  rintro ⟨hclose, -⟩
  obtain ⟨t, hx, -, -, -, ho⟩ := hclose 0 lostUnfused ⟨0, 0, [0]⟩ (by decide +kernel) (by decide +kernel) (by decide +kernel)
  obtain ⟨hnew, hold⟩ := lostUnfused_acquires
  rw [hx] at hnew
  have hregs : t.regs = lostUnfused.regs := ho.2 .regs (by decide)
  have hst : t.jobState 0 = lostUnfused.jobState 0 := by
    simp only [State.jobState, State.fld, State.rd, hregs]
  exact absurd (hst.symm.trans hnew) (by rw [hold]; decide)

end Sys2Proof.Machine
end

section
-- In order: the one text holds more declarations than asynchronous elaboration has threads for.
set_option Elab.async false

/-! PROOFS. A stream frame in violation (R125) whose source is adopted at a local index beyond those of a module. -/

namespace Sys2Proof.Machine

/-- An address on which SRC_VIOL of an index falls that no module has: the word NET_EVT_SEQ. -/
def farIndex : Nat := 0x6FE000

/-- A module that takes stream frames on port 0, with source 0 adopted at `farIndex` and 100 violations of address 0 in this second. -/
def farSource : State :=
  let s := [Fd.PORT_CFG_EN 0, Fd.PORT_CFG_STREAM 0, Fd.STM_CTRL_EN, Fd.NET_CTRL_V6_EN, Fd.NET_CTRL_QUAR_EN].foldl (fun (s : State) f => s.set f 1)
    State.reset
  { s with
    stm := { s.stm with adopted := [(farIndex, 0)] }
    zh := { s.zh with sources := [⟨0, 0, 100, none, none⟩] } }

/-- A stream frame of a level that is not spoken. -/
def badLevel : List Byte := [0xF1, 0xA7, 0xFF, 0] ++ List.replicate 24 0

theorem farSource_rejects : (farSource.countRx 0).checkFrame badLevel = .error 1 := by rfl

/-- The quarantine that the violation starts marks NET_EVT, and the count of the violation falls on the mark's SEQ. -/
theorem farSource_counts : (match exec (.streamFrame ⟨⟨0, 0, false⟩, 0⟩ badLevel 0) farSource with
    | .next t => t.rd (Reg.SRC_VIOL farIndex) | _ => 0) = 2 ∧ satCount (farSource.rd (Reg.SRC_VIOL farIndex)) 1 = 1 := by decide +kernel

/-- Refutes O21, by its clause on a frame that breaks the protocol: the clause takes any local index of the source, and for one beyond those of
a module SRC_VIOL is another word, here NET_EVT_SEQ (`farSource`). -/
theorem not_streamEventsTakeEffect : ¬ Obligations.StreamEventsTakeEffect := by
  unfold Obligations.StreamEventsTakeEffect
  rintro ⟨-, -, -, hviol, -⟩
  obtain ⟨t, hx, -, -, hcount, -⟩ := hviol ⟨0, 0, false⟩ 0 badLevel 0 farSource 1 (by decide +kernel) (by decide +kernel) (by decide +kernel)
    (by decide +kernel) (by decide +kernel) farSource_rejects
  obtain ⟨hnew, hold⟩ := farSource_counts
  rw [hx] at hnew
  exact absurd ((hcount farIndex (by decide +kernel)).symm.trans hnew) (by rw [hold]; decide)

end Sys2Proof.Machine
end

section
-- In order: the one text holds more declarations than asynchronous elaboration has threads for.
set_option Elab.async false

/-! PROOFS. The end of a frame run (R162, R185) whose program forecasts a stream beyond those of a module. -/

namespace Sys2Proof.Machine

/-- A frame program with no stages. -/
def idleProgram : Img := { forecastImage with role := 0, horizon := [], stages := [] }

/-- The outcome of a run that forecasts one stream, whose SV_FCAST would stand at the address of IFD_RUN_MAX. -/
def farForecast : RunOut :=
  { pkt := [], fcast := [(0x40002, 5)], plan := [], host := [], trace := [], upds := [], kst := [], gmiss := 0, sat := 0, updDrop := 0,
    pktDrop := 0, tmiss := [], tainted := false, free := 0 }

/-- After reset, with the program active in slot 0 and a run of that outcome in progress. -/
def runningFar : State := ((State.reset.set (Fd.SLOT_STAT_STATE 0) 3).setSlot 0 ⟨0, some idleProgram⟩).setIceRun (some farForecast)

theorem runningFar_runs : runningFar.ice.run = some farForecast ∧ runningFar.activeOf 0 = some (0, idleProgram) := by decide +kernel

/-- The run ends at the start of a frame; IFD_RUN_MAX holds the forecast. -/
theorem runningFar_ends : (match exec (.frameRunEnd 0 0 none) runningFar with | .next t => t.fld Fd.IFD_RUN_MAX_NS | _ => 0) = 65541 ∧
    max (runningFar.fld Fd.IFD_RUN_MAX_NS) (10000 * (runningFar.clk.sidx.toNat % 100) + (0 : Fin 10000)) = 0 := by decide +kernel

/-- Refutes O23, by its clause on the end of a frame run: the clause takes any outcome, and a forecast for a stream that no module has falls on
another word, here IFD_RUN_MAX (`farForecast`). -/
theorem not_runsAndBatchesAct : ¬ Obligations.RunsAndBatchesAct := by
  unfold Obligations.RunsAndBatchesAct
  rintro ⟨-, -, hend, -⟩
  obtain ⟨hrun, hact⟩ := runningFar_runs
  obtain ⟨t, hx, -, -, -, -, hmax, -⟩ := hend 0 0 none runningFar farForecast 0 idleProgram rfl hrun hact
  obtain ⟨hnew, hold⟩ := runningFar_ends
  rw [hx] at hnew
  exact absurd (hmax.symm.trans hnew) (by rw [hold]; decide)

end Sys2Proof.Machine
end

section
-- In order: the one text holds more declarations than asynchronous elaboration has threads for.
set_option Elab.async false

/-! PROOFS. What the main die's loss and its return write (R38, R43, R586, R598) where a store of Serac names a register of another unit. -/

namespace Sys2Proof.Machine

/-! ### The end of a boot that is held -/

/-- An ACTIVE module in BOOT whose main die runs and whose release is held (R586). -/
def heldInBoot : State :=
  let s := (State.reset.set Fd.SYS_STATE_STATE 1).set Fd.PAI_STAT_ROLE 1
  { s with sys := { s.sys with mainUp := true, hold := true } }

theorem heldInBoot_left : (match exec .mainDieReady heldInBoot with | .next t => t.opState | _ => 0) = 5 := by decide +kernel

/-- Refutes O51, by its clause on MAIN_DIE_READY: a module whose release is held leaves BOOT for TABLE, not for RUN or COMMISSION
(`heldInBoot`). -/
theorem not_mainDieIsLostAndReturns : ¬ Obligations.MainDieIsLostAndReturns := by
  unfold Obligations.MainDieIsLostAndReturns
  rintro ⟨-, -, -, -, -, -, hready, -⟩
  obtain ⟨t, hx, -, -, -, -, hst⟩ := hready heldInBoot (by decide +kernel) (by decide +kernel) (by decide +kernel) (by decide +kernel)
  have hnew := heldInBoot_left
  rw [hx] at hnew
  exact absurd (hst.symm.trans hnew) (by decide +kernel)

/-! ### Tables that are reset -/

theorem State.retrain_rd (s : State) (k : Nat) {a : Nat} (ha : a ≠ Reg.STK_STAT k) : (s.retrain k).rd a = s.rd a := by
  unfold State.retrain
  split
  · rfl
  · exact State.rd_set_ne _ _ _ _ ha

theorem State.retrain_tbl (s : State) (k : Nat) : (s.retrain k).tbl = s.tbl := by
  unfold State.retrain
  split
  · rfl
  · exact State.set_tbl _ _ _

theorem State.retrainAll_rd (l : List Nat) (s : State) {a : Nat} (ha : a < Reg.TBL_STAT) : (l.foldl State.retrain s).rd a = s.rd a :=
  List.foldlRecOn (motive := fun x : State => x.rd a = s.rd a) l _ rfl fun x hx k _ =>
    (x.retrain_rd k (by simp only [Reg.STK_STAT, Reg.TBL_STAT] at ha ⊢; omega)).trans hx

theorem State.retrainAll_tbl (l : List Nat) (s : State) : (l.foldl State.retrain s).tbl = s.tbl :=
  List.foldlRecOn (motive := fun x : State => x.tbl = s.tbl) l _ rfl fun x hx k _ => (x.retrain_tbl k).trans hx

/-- Without a table the count of free memory writes no word. -/
theorem State.recount_rd (s : State) (ht : s.tbl.tbl = []) (a : Nat) : s.recount.rd a = s.rd a := by
  unfold State.recount State.tables
  simp only [ht, List.map_nil, List.foldl_nil]
  rfl

/-- The reset of the tables, with none defined, leaves every word below theirs. -/
theorem State.tablesReset_rd (s : State) {a : Nat} (ht : s.tbl.tbl = []) (ha : a < Reg.TBL_STAT) : s.tablesReset.rd a = s.rd a := by
  unfold State.tablesReset
  simp only []
  generalize hu : ((State.set { s with tbl := { s.tbl with logs := [], commit := none, wback := false, sweep := none, saves := [], got := [], pcDue := [] } }
    Fd.TBL_STAT_COMMIT_LAG 0).set Fd.TBL_STAT_CKPT_RUN 0).set Fd.TBL_CKPT_STAT_STATE 0 = u
  have hurd : u.rd a = s.rd a := by
    have hlag : a ≠ Fd.TBL_STAT_COMMIT_LAG.addr := Nat.ne_of_lt ha
    have hrun : a ≠ Fd.TBL_STAT_CKPT_RUN.addr := Nat.ne_of_lt ha
    have hck : a ≠ Fd.TBL_CKPT_STAT_STATE.addr := Nat.ne_of_lt (Nat.lt_trans ha (by decide))
    rw [← hu, State.rd_set_ne _ _ _ _ hck, State.rd_set_ne _ _ _ _ hrun, State.rd_set_ne _ _ _ _ hlag]
    rfl
  have hutbl : u.tbl.tbl = [] := by rw [← hu, State.set_tbl, State.set_tbl, State.set_tbl]; exact ht
  have hr := State.retrainAll_tbl (List.range stackCount) u
  have htabs : ((List.range stackCount).foldl State.retrain u).tables = [] := by unfold State.tables; rw [hr, hutbl]; rfl
  rw [htabs, List.foldl_nil, State.recount_rd _ (by rw [hr]; exact hutbl), State.retrainAll_rd _ u ha, hurd]

/-! ### Retirements kept under another address -/

/-- The main die runs, and the retirement that no fuse holds stands under the address of SYS_STATE. -/
def strayRetirement : State :=
  { State.reset with
    sys := { State.reset.sys with mainPowered := true }
    dia := { State.reset.dia with fused := some [(Reg.SYS_STATE, 0)] } }

/-- The loss of the main die up to the reset of its tables. -/
def strayLost : State := strayRetirement.declareAbsent.forgetRetirements.emptyActions.dropAllHeld.iceReset

theorem strayLost_state : strayLost.tbl.tbl = [] ∧ strayLost.rd Reg.SYS_STATE = 0 := by decide +kernel

/-- SYS_STATE after the main die has been powered down is as the reset of its tables leaves it. -/
theorem State.powerMainDown_state (s : State) : s.powerMainDown.rd Reg.SYS_STATE =
    s.declareAbsent.forgetRetirements.emptyActions.dropAllHeld.iceReset.tablesReset.rd Reg.SYS_STATE := by
  unfold State.powerMainDown State.loseMain State.resetMain
  generalize s.declareAbsent.forgetRetirements.emptyActions.dropAllHeld.iceReset.tablesReset = u
  simp only [State.rd_mk]
  exact ((State.rd_set_ne _ _ _ _ (by decide)).trans (State.rd_set_ne _ _ _ _ (by decide))).trans (State.rd_set_ne _ _ _ _ (by decide))

theorem strayLost_present : strayRetirement.powerMainDown.mainAbsent = false := by
  obtain ⟨htbl, hst⟩ := strayLost_state
  have h0 : strayRetirement.powerMainDown.rd Fd.SYS_STATE_MAIN_ABSENT.addr = 0 :=
    (State.powerMainDown_state _).trans ((State.tablesReset_rd strayLost htbl (by decide)).trans hst)
  unfold State.mainAbsent State.on State.fld
  rw [h0]
  decide

/-- Refutes O52, by its clause on the power-down of a hot main die: the die need not read absent, as the reset first puts back the
retirements that no fuse holds, and one of them may stand under SYS_STATE (`strayRetirement`). -/
theorem not_diesFailAndReturn : ¬ Obligations.DiesFailAndReturn := by
  unfold Obligations.DiesFailAndReturn
  rintro ⟨-, -, -, hdown, -⟩
  obtain ⟨t, hx, -, -, -, -, habs⟩ := hdown strayRetirement rfl (by decide +kernel)
  have hexec : exec (.mainDieThermalLimit true) strayRetirement =
      .next { strayRetirement.powerMainDown with sys := { strayRetirement.powerMainDown.sys with mainThermal := true } } := rfl
  obtain rfl := Host.Outcome.next.inj (hexec.symm.trans hx)
  exact absurd (strayLost_present.symm.trans habs) (by decide)

/-! ### Wear counts kept under another address -/

theorem State.firnAfterLoss_rd (s : State) (a : Nat) : s.firnAfterLoss.rd a = s.rd a := rfl

theorem State.applyRepairs_rd (s : State) (die a : Nat) : (s.applyRepairs die).rd a = s.rd a := rfl

theorem State.forgetRetirements_kept (s : State) (hd : s.dia.fused = none) : s.forgetRetirements = s := by
  unfold State.forgetRetirements
  rw [hd]

theorem State.forgetSpares_kept (s : State) (hd : s.dia.spares = []) : s.forgetSpares = s := by
  unfold State.forgetSpares
  rw [hd]
  rfl

/-- After a loss of logic power SYS_STATE holds what the store of wear counts has for it. -/
theorem State.logicOff_state (s : State) (v : Word) (hf : s.dia.fused = none) (hs : s.dia.spares = []) (ht : s.tbl.tbl = [])
    (hw : s.acts.nvWear = [(Reg.SYS_STATE, v)]) : s.logicOff.rd Reg.SYS_STATE = v := by
  unfold State.logicOff State.restart
  simp only [s.forgetRetirements_kept hf, s.forgetSpares_kept hs, hw, List.foldl_cons, List.foldl_nil, Bool.false_eq_true, ↓reduceIte]
  rw [State.firnAfterLoss_rd, State.rd_mk, State.applyRepairs_rd, State.applyRepairs_rd, State.applyRepairs_rd, State.tablesReset_rd _ ?_ (by decide),
    State.rd_wr_self]
  rw [State.wr_tbl, (State.keptFields_keeps (F := 33554432) rfl (Keeps.refl _ _)).tbl.resolve_left (by decide)]
  exact ht

/-- A mated module with power that Serac does not run yet; the store of wear counts has a word for SYS_STATE. -/
def strayWear : State :=
  { State.reset with
    sys := { State.reset.sys with mated := true, powered := true }
    acts := { State.reset.acts with nvWear := [(Reg.SYS_STATE, 4)] } }

theorem strayWear_off : strayWear.logicOff.rd Reg.SYS_STATE = 4 := State.logicOff_state strayWear 4 rfl rfl rfl rfl

theorem State.opState_of {s : State} {v : Word} (h : s.rd Reg.SYS_STATE = v) : s.opState = fieldOf v 0 4 := congrArg (fieldOf · 0 4) h

/-- Refutes O53, by its clause on MODULE_WITHDRAW: the wear counts are written back under the addresses that their store gives, which may be
that of SYS_STATE (`strayWear`). -/
theorem not_startUpTakesItsCourse : ¬ Obligations.StartUpTakesItsCourse := by
  unfold Obligations.StartUpTakesItsCourse
  rintro ⟨-, -, -, -, -, -, -, -, -, -, hgone, -⟩
  obtain ⟨t, hx, -, -, -, -, hst, -⟩ := hgone strayWear rfl
  have hexec : exec .moduleWithdraw strayWear = .next (strayWear.logicOff.setSys { strayWear.logicOff.sys with mated := false }) := rfl
  obtain rfl := Host.Outcome.next.inj (hexec.symm.trans hx)
  exact absurd (hst.symm.trans (State.opState_of strayWear_off)) (by decide)

/-- Refutes O54, by its clause on LOGIC_POWER_FAIL without a running Serac, as the module stops in the same way (`strayWear`). -/
theorem not_suppliesAndPinsAreFollowed : ¬ Obligations.SuppliesAndPinsAreFollowed := by
  unfold Obligations.SuppliesAndPinsAreFollowed
  rintro ⟨-, -, -, -, -, -, hfail, -⟩
  obtain ⟨t, hx, -, -, -, hst⟩ := hfail strayWear rfl rfl rfl
  have hexec : exec .logicPowerFail strayWear = .next strayWear.logicOff := rfl
  obtain rfl := Host.Outcome.next.inj (hexec.symm.trans hx)
  exact absurd (hst.symm.trans (State.opState_of strayWear_off)) (by decide)

end Sys2Proof.Machine
end

section
-- In order: the one text holds more declarations than asynchronous elaboration has threads for.
set_option Elab.async false

/-! PROOFS. The time servo after a change of its PTP clocks (R61 to R64), and its commands with those of the common snapshot (R59, R68,
R99, R100). -/

namespace Sys2Proof.Machine

/-! ### A judgement of the servo -/

/-- The words that a judgement of the servo may write. -/
def servoWords : List Nat := [Reg.TIM_STAT, Reg.TIM_EVT, Reg.TIM_EVT_SEQ, Reg.TIM_ERR_EST]

/-- What a judgement may do to a PTP clock: it keeps what it has heard, and gains no lock. -/
structure Ptp.Eases (p q : Ptp) : Prop where
  seen : q.seen = p.seen
  master : q.master = p.master
  offset : q.offset = p.offset
  lock : p.lock = false → q.lock = false
  inside : p.inside = 0 → q.inside = 0

/-- What a judgement may do to the state. -/
structure State.Judged (s t : State) : Prop where
  frame : Changes [.servo, .firn] servoWords s t
  ptp : ∀ n, (s.ptp n).Eases (t.ptp n)

theorem Ptp.Eases.refl (p : Ptp) : p.Eases p := ⟨rfl, rfl, rfl, id, id⟩

theorem Ptp.Eases.trans {p q r : Ptp} (h : p.Eases q) (k : q.Eases r) : p.Eases r :=
  ⟨k.seen.trans h.seen, k.master.trans h.master, k.offset.trans h.offset, fun x => k.lock (h.lock x), fun x => k.inside (h.inside x)⟩

theorem State.Judged.refl (s : State) : s.Judged s := ⟨Changes.refl _ _ s, fun _ => Ptp.Eases.refl _⟩

theorem State.Judged.trans {s t u : State} (h : s.Judged t) (k : t.Judged u) : s.Judged u :=
  ⟨h.frame.trans k.frame, fun n => (h.ptp n).trans (k.ptp n)⟩

theorem State.ptp_of {s t : State} (ha : t.servo.a = s.servo.a) (hb : t.servo.b = s.servo.b) (n : Net) : t.ptp n = s.ptp n := by
  cases n
  · exact ha
  · exact hb

/-- A step that leaves the PTP clocks. -/
theorem State.Judged.of (h : Changes [.servo, .firn] servoWords s t) (ha : t.servo.a = s.servo.a) (hb : t.servo.b = s.servo.b) : s.Judged t :=
  ⟨h, fun n => by rw [State.ptp_of ha hb n]; exact Ptp.Eases.refl _⟩

variable {s t : State}

theorem State.Judged.set (h : s.Judged t) {f : Fld} {v : Nat} (hf : f.addr = Reg.TIM_STAT := by rfl) : s.Judged (t.set f v) :=
  h.trans (.of ((Changes.refl _ _ t).set (by rw [hf]; decide)) (by rw [State.set_servo]) (by rw [State.set_servo]))

theorem State.Judged.setB (h : s.Judged t) {f : Fld} {b : Bool} (hf : f.addr = Reg.TIM_STAT := by rfl) : s.Judged (t.setB f b) := h.set hf

theorem State.Judged.raise (h : s.Judged t) {lo o : Nat} {l : List Nat} (hl : lo < 32 := by decide) :
    s.Judged (t.raise ⟨Reg.TIM_EVT, lo, 1⟩ o l) :=
  h.trans (.of ((Changes.refl _ _ t).raise (hc := eventCode_lt (by decide) hl)) (by rw [State.raise_servo]) (by rw [State.raise_servo]))

theorem State.Judged.wr (h : s.Judged t) {w : Word} : s.Judged (t.wr Reg.TIM_ERR_EST w) :=
  h.trans (.of ((Changes.refl _ _ t).wr) (by rw [State.wr_servo]) (by rw [State.wr_servo]))

/-- A change of the servo beside its PTP clocks. -/
theorem State.Judged.upd (h : s.Judged t) {x : Servo} (ha : x.a = t.servo.a := by rfl) (hb : x.b = t.servo.b := by rfl) :
    s.Judged { t with servo := x } := h.trans (.of ((Changes.refl _ _ t).upd_servo) ha hb)

theorem State.judged_watchApart (s : State) : s.Judged s.watchApart := by
  unfold State.watchApart
  simp only []
  split
  · split
    · exact .refl s
    · exact (State.Judged.refl s).upd
  · exact (State.Judged.refl s).upd

theorem State.judged_showLocks (s : State) : s.Judged s.showLocks :=
  ((State.Judged.refl s).setB.setB).trans (State.judged_watchApart _)

theorem State.judged_lockLost (s : State) : s.Judged (if s.fld Fd.TIM_STAT_SERVO = 2 then s.raise Fd.TIM_EVT_LOCK_LOST noObj [] else s) := by
  split
  · exact (State.Judged.refl s).raise
  · exact .refl s

theorem State.judged_toAcquire (s : State) : s.Judged s.toAcquire :=
  s.judged_lockLost.upd.set.wr

theorem State.judged_toFreerun (s : State) : s.Judged s.toFreerun :=
  s.judged_lockLost.upd.set.wr

theorem State.judged_toHoldover (s : State) : s.Judged s.toHoldover :=
  (State.Judged.refl s).upd.raise.set

@[simp] theorem State.setPtp_ptp (s : State) (n : Net) (p : Ptp) : (s.setPtp n p).ptp n = p := by cases n <;> rfl

theorem State.setPtp_ptp_ne (s : State) {n m : Net} (p : Ptp) (h : m ≠ n) : (s.setPtp n p).ptp m = s.ptp m := by
  match n, m with
  | .a, .b | .b, .a => rfl
  | .a, .a | .b, .b => exact absurd rfl h

theorem Changes.setPtp {ps : List Part} {ws : List Nat} {s t : State} (h : Changes ps ws s t) {n : Net} {p : Ptp}
    (hp : Part.servo ∈ ps := by repeat constructor) : Changes ps ws s (t.setPtp n p) := by
  cases n
  · exact h.upd_servo hp
  · exact h.upd_servo hp

/-- A PTP clock is eased. -/
theorem State.Judged.setPtp (h : s.Judged t) {n : Net} {p : Ptp} (hp : (t.ptp n).Eases p) : s.Judged (t.setPtp n p) := by
  refine h.trans ⟨(Changes.refl _ _ t).setPtp, fun m => ?_⟩
  by_cases hm : m = n
  · subst hm
    rw [State.setPtp_ptp]
    exact hp
  · rw [State.setPtp_ptp_ne t p hm]
    exact .refl _

/-- TIM_STAT.SEL names another PTP clock, and the switch is told. -/
def State.pointTo (s : State) (n : Net) : State :=
  let s := s.setB Fd.TIM_STAT_SEL (n == Net.b)
  if s.servo.chosen then s.raise Fd.TIM_EVT_NET_SWITCH noObj [] else s

theorem State.switchTo_eq (s : State) (n : Net) : s.switchTo n =
    if (s.pointTo n).fld Fd.TIM_STAT_SERVO = 2 ∧ (s.pointTo n).servo.farApart then
      ((s.pointTo n).setPtp n { (s.pointTo n).ptp n with inside := 0, lock := false }).showLocks.toAcquire
    else s.pointTo n := rfl

theorem State.judged_pointTo (s : State) (n : Net) : s.Judged (s.pointTo n) := by
  have h : s.Judged (s.setB Fd.TIM_STAT_SEL (n == Net.b)) := (State.Judged.refl s).setB
  unfold State.pointTo
  simp only []
  split
  · exact h.raise
  · exact h

theorem State.judged_switchTo (s : State) (n : Net) : s.Judged (s.switchTo n) := by
  rw [State.switchTo_eq]
  generalize hu : s.pointTo n = u
  have h : s.Judged u := hu ▸ s.judged_pointTo n
  split
  · have hp : (u.ptp n).Eases { u.ptp n with inside := 0, lock := false } := ⟨rfl, rfl, rfl, fun _ => rfl, fun _ => rfl⟩
    have h1 := h.setPtp hp
    exact (h1.trans (State.judged_showLocks _)).trans (State.judged_toAcquire _)
  · exact h

/-- The part of a judgement that follows the selection. -/
def State.settleServo (s : State) (p : Ptp) : State :=
  match s.fld Fd.TIM_STAT_SERVO with
  | 2 => if p.lock then s else if p.master.isNone then s.toHoldover else s.toAcquire
  | 1 => if p.lock then s.set Fd.TIM_STAT_SERVO 2 else s
  | _ => if p.master.isSome then (let s := s.toAcquire; if p.lock then s.set Fd.TIM_STAT_SERVO 2 else s) else s

/-- The selection of a judgement. -/
def State.reselect (s : State) : State :=
  let t := if s.selected = s.choose then s else s.switchTo s.choose
  { t with servo := { t.servo with chosen := (t.ptp s.choose).master.isSome || t.servo.chosen } }

theorem State.servoJudge_eq (s : State) : s.servoJudge =
    if ¬ s.showLocks.on Fd.TIM_CTRL_SERVO_EN then (if s.showLocks.fld Fd.TIM_STAT_SERVO = 0 then s.showLocks else s.showLocks.toFreerun)
    else s.showLocks.reselect.settleServo (s.showLocks.reselect.ptp s.showLocks.choose) := rfl

theorem State.judged_reselect (s : State) : s.Judged s.reselect := by
  have h : s.Judged (if s.selected = s.choose then s else s.switchTo s.choose) := by
    split
    · exact .refl s
    · exact s.judged_switchTo _
  exact h.upd

theorem State.judged_settleServo (s : State) (p : Ptp) : s.Judged (s.settleServo p) := by
  have hlock (u : State) : u.Judged (if p.lock then u.set Fd.TIM_STAT_SERVO 2 else u) := by
    split
    · exact (State.Judged.refl u).set
    · exact .refl u
  unfold State.settleServo
  split
  · split
    · exact .refl s
    · split
      · exact s.judged_toHoldover
      · exact s.judged_toAcquire
  · exact hlock s
  · split
    · exact s.judged_toAcquire.trans (hlock _)
    · exact .refl s

theorem State.judged_servoJudge (s : State) : s.Judged s.servoJudge := by
  rw [State.servoJudge_eq]
  split
  · split
    · exact s.judged_showLocks
    · exact s.judged_showLocks.trans (State.judged_toFreerun _)
  · exact s.judged_showLocks.trans ((State.judged_reselect _).trans (State.judged_settleServo _ _))

theorem State.judged_lostMaster (s : State) (n : Net) : s.Judged (s.lostMaster n) := by
  unfold State.lostMaster
  split
  · exact s.judged_showLocks.trans (State.judged_toHoldover _)
  · exact s.judged_servoJudge

/-! ### The common snapshot -/

theorem exec_snapshotRequest {w : Fin 8} (h : s.WriteTaken w Reg.TIM_SNAP_CTRL 1 true) : exec (.snapshotRequest w) s =
    .next ((s.afterChecks w Reg.TIM_SNAP_CTRL 1).requestSnapshot.send (.wrote w Reg.TIM_SNAP_CTRL 0 0 0)) :=
  congrArg _ (State.writeRow_taken _ h)

theorem State.requestSnapshot_new (hn : s.clk.now + 2 ∉ s.clk.snapAt) :
    s.requestSnapshot = { s with clk := { s.clk with snapAt := s.clk.snapAt ++ [s.clk.now + 2] } } := if_neg hn

theorem State.requestSnapshot_changes (s : State) : Changes [.clk] [] s s.requestSnapshot := by
  unfold State.requestSnapshot
  simp only []
  split
  · exact Changes.refl _ _ s
  · exact (Changes.refl _ _ s).upd_clk (Nat.le_refl _)

/-- A block latches its counters and the ID. -/
def State.latchBlock (s : State) (id b : Nat) : State :=
  ((List.range 32).foldl (fun s n => s.wr (Reg.CTR_SNAP b n) (s.rd (Reg.CTR_VAL b n))) s).wr (Reg.BLK_SNAP_ID b) (BitVec.ofNat 32 id)

/-- Every block present latches. -/
def State.latchBlocks (s : State) (id : Nat) : State :=
  (List.range 15).foldl (fun s b => if s.blockPresent b then s.latchBlock id b else s) s

/-- The words of the last snapshot taken with the main die present. -/
def State.showSnap (s : State) (id : Nat) : State :=
  ((s.wr Reg.TIM_SNAP_ID (BitVec.ofNat 32 id)).wr Reg.TIM_SNAP_IDX_LO (s.clk.sidx.setWidth 32)).wr Reg.TIM_SNAP_IDX_HI
    ((s.clk.sidx >>> 32).setWidth 32)

/-- The ID of the next snapshot. -/
def State.newSnapId (s : State) : Nat := if s.clk.snapId = 0xFFFF then 1 else s.clk.snapId + 1

/-- The clock with the snapshot of this tick taken. -/
def State.noteSnap (s : State) : State :=
  { s with clk := { s.clk with snapId := s.newSnapId, snapTick := some s.clk.now, snapAt := s.clk.snapAt.filter (fun t => decide (s.clk.now < t)) } }

theorem State.snapshot_eq (hn : s.clk.snapTick ≠ some s.clk.now) : s.snapshot =
    if (s.noteSnap.latchBlocks s.newSnapId).mainAbsent then s.noteSnap.latchBlocks s.newSnapId
    else (s.noteSnap.latchBlocks s.newSnapId).showSnap s.newSnapId := if_neg hn

/-- A latch leaves every word but those of its block's snapshot. -/
theorem State.latchBlock_rd_ne (s : State) (id b : Nat) {a : Nat} (hs : ∀ n, n < 32 → a ≠ Reg.CTR_SNAP b n) (hb : a ≠ Reg.BLK_SNAP_ID b) :
    (s.latchBlock id b).rd a = s.rd a :=
  (State.rd_wr_ne _ _ _ _ hb).trans (List.foldlRecOn (motive := fun t : State => t.rd a = s.rd a) _ _ rfl
    fun _ ht n hn => (State.rd_wr_ne _ _ _ _ (hs n (List.mem_range.mp hn))).trans ht)

/-- Of the words of the counters, a latch writes none that holds a count. -/
theorem State.latchBlock_rd_count (s : State) (id b : Nat) {a : Nat} (ha : a % 16 = 4) : (s.latchBlock id b).rd a = s.rd a :=
  s.latchBlock_rd_ne id b (fun n _ => by simp only [Reg.CTR_SNAP]; omega) (by simp only [Reg.BLK_SNAP_ID]; omega)

theorem State.latchBlock_snap (s : State) (id b : Nat) {n : Nat} (hn : n < 32) :
    (s.latchBlock id b).rd (Reg.CTR_SNAP b n) = s.rd (Reg.CTR_VAL b n) := by
  refine (State.rd_wr_ne _ _ _ _ (by simp only [Reg.CTR_SNAP, Reg.BLK_SNAP_ID]; omega)).trans ?_
  refine (foldl_of_mem (f := fun s n => s.wr (Reg.CTR_SNAP b n) (s.rd (Reg.CTR_VAL b n))) (pre := fun t => t.rd (Reg.CTR_VAL b n) = s.rd (Reg.CTR_VAL b n))
    (post := fun t => t.rd (Reg.CTR_VAL b n) = s.rd (Reg.CTR_VAL b n) ∧ t.rd (Reg.CTR_SNAP b n) = s.rd (Reg.CTR_VAL b n))
    (List.mem_range.mpr hn) (fun t j _ _ ht => ?_) (fun t ht => ⟨?_, (State.rd_wr_self _ _ _).trans ht⟩) (fun t j _ ht => ⟨?_, ?_⟩) rfl).2
  · exact (State.rd_wr_ne _ _ _ _ (by simp only [Reg.CTR_SNAP, Reg.CTR_VAL]; omega)).trans ht
  · exact (State.rd_wr_ne _ _ _ _ (by simp only [Reg.CTR_SNAP, Reg.CTR_VAL]; omega)).trans ht
  · exact (State.rd_wr_ne _ _ _ _ (by simp only [Reg.CTR_SNAP, Reg.CTR_VAL]; omega)).trans ht.1
  · by_cases hj : j = n
    · subst hj
      exact (State.rd_wr_self _ _ _).trans ht.1
    · exact (State.rd_wr_ne _ _ _ _ (by simp only [Reg.CTR_SNAP]; omega)).trans ht.2

theorem State.latchBlock_clk (s : State) (id b : Nat) : (s.latchBlock id b).clk = s.clk :=
  (State.wr_clk _ _ _).trans (foldl_keep State.clk (fun _ _ => State.wr_clk _ _ _) _ s)

/-- With the main die present every block latches. -/
theorem State.latchBlocks_present (s : State) (id : Nat) (hm : s.mainAbsent = false) :
    (s.latchBlocks id).clk = s.clk ∧ (s.latchBlocks id).mainAbsent = false ∧
    ∀ b, b < 15 → (s.latchBlocks id).rd (Reg.BLK_SNAP_ID b) = BitVec.ofNat 32 id ∧
      ∀ n, n < 32 → (s.latchBlocks id).rd (Reg.CTR_SNAP b n) = s.rd (Reg.CTR_VAL b n) := by
  have hkeep (t : State) (b : Nat) : (∀ a, a % 16 = 4 → t.rd a = s.rd a) → ∀ a, a % 16 = 4 →
      (if t.blockPresent b then t.latchBlock id b else t).rd a = s.rd a := fun h a ha => by
    split
    · exact (t.latchBlock_rd_count id b ha).trans (h a ha)
    · exact h a ha
  have habs (t : State) (h : ∀ a, a % 16 = 4 → t.rd a = s.rd a) : t.mainAbsent = false :=
    (congrArg (· == 1) (State.fld_congr (h _ (by decide)))).trans hm
  have hlatch (t : State) (b : Nat) (h : ∀ a, a % 16 = 4 → t.rd a = s.rd a) :
      (if t.blockPresent b then t.latchBlock id b else t) = t.latchBlock id b := if_pos (by simp [State.blockPresent, habs t h])
  refine ⟨foldl_keep State.clk (fun t b => ?_) _ s, habs _ ?_, fun b hb => ?_⟩
  · split
    · exact t.latchBlock_clk id b
    · rfl
  · exact List.foldlRecOn (motive := fun t : State => ∀ a, a % 16 = 4 → t.rd a = s.rd a) _ _ (fun _ _ => rfl) fun t ht b _ => hkeep t b ht
  · refine (foldl_of_mem (f := fun s b => if s.blockPresent b then s.latchBlock id b else s) (pre := fun t => ∀ a, a % 16 = 4 → t.rd a = s.rd a)
      (post := fun t => (∀ a, a % 16 = 4 → t.rd a = s.rd a) ∧ t.rd (Reg.BLK_SNAP_ID b) = BitVec.ofNat 32 id ∧
        ∀ n, n < 32 → t.rd (Reg.CTR_SNAP b n) = s.rd (Reg.CTR_VAL b n))
      (List.mem_range.mpr hb) (fun t j _ _ ht => hkeep t j ht) (fun t ht => ⟨hkeep t b ht, ?_⟩) (fun t j hj ht => ⟨hkeep t j ht.1, ?_⟩) (fun _ _ => rfl)).2
    · rw [hlatch t b ht]
      exact ⟨State.rd_wr_self _ _ _, fun n hn => (t.latchBlock_snap id b hn).trans (ht _ (by simp only [Reg.CTR_VAL]; omega))⟩
    · rw [hlatch t j ht.1]
      by_cases hjb : j = b
      · subst hjb
        exact ⟨State.rd_wr_self _ _ _, fun n hn => (t.latchBlock_snap id j hn).trans (ht.1 _ (by simp only [Reg.CTR_VAL]; omega))⟩
      · refine ⟨(t.latchBlock_rd_ne id j (fun n hn => ?_) ?_).trans ht.2.1, fun n hn => (t.latchBlock_rd_ne id j (fun m hm' => ?_) ?_).trans (ht.2.2 n hn)⟩
        all_goals simp only [Reg.BLK_SNAP_ID, Reg.CTR_SNAP]
        all_goals omega

theorem State.snapshotNow_eq (hd : s.clk.snapAt.any (fun x => decide (x ≤ s.clk.now)) = true) : s.snapshotNow = s.snapshot := if_pos hd

theorem State.showSnap_rd (s : State) (id : Nat) {a : Nat} (ha : a % 0x1000000 ≥ 0x7F0000) : (s.showSnap id).rd a = s.rd a := by
  unfold State.showSnap
  rw [State.rd_wr, State.rd_wr, State.rd_wr]
  all_goals simp only [Reg.TIM_SNAP_ID, Reg.TIM_SNAP_IDX_LO, Reg.TIM_SNAP_IDX_HI]
  all_goals omega

theorem State.showSnap_clk (s : State) (id : Nat) : (s.showSnap id).clk = s.clk := by
  unfold State.showSnap
  rw [State.wr_clk, State.wr_clk, State.wr_clk]

theorem State.snapshotNow_latches (hd : s.clk.snapAt.any (fun x => decide (x ≤ s.clk.now)) = true) (hn : s.clk.snapTick ≠ some s.clk.now)
    (hm : s.mainAbsent = false) : s.snapshotNow.clk = s.noteSnap.clk ∧
      (∀ b n, b < 15 → n < 32 → s.snapshotNow.rd (Reg.CTR_SNAP b n) = s.rd (Reg.CTR_VAL b n)) ∧
      (∀ b, b < 15 → s.snapshotNow.rd (Reg.BLK_SNAP_ID b) = BitVec.ofNat 32 s.newSnapId) ∧
      s.snapshotNow.rd Reg.TIM_SNAP_IDX_LO = s.clk.sidx.setWidth 32 ∧ s.snapshotNow.rd Reg.TIM_SNAP_IDX_HI = (s.clk.sidx >>> 32).setWidth 32 ∧
      Only [.clk, .regs] s s.snapshotNow := by
  have hk : Only [.clk, .regs] s s.snapshot :=
    (State.snapshot_keeps (F := 37748736) rfl (Keeps.refl _ s)).only _ (fun p => by cases p <;> decide)
  obtain ⟨hclk, habs, hblk⟩ := s.noteSnap.latchBlocks_present s.newSnapId hm
  have he : s.snapshot = (s.noteSnap.latchBlocks s.newSnapId).showSnap s.newSnapId := by
    rw [State.snapshot_eq hn, if_neg (by rw [habs]; decide)]
  rw [State.snapshotNow_eq hd]
  refine ⟨?_, fun b n hb hn => ?_, fun b hb => ?_, ?_, ?_, hk⟩
  all_goals rw [he]
  · rw [State.showSnap_clk, hclk]
  · exact (State.showSnap_rd _ _ (by simp only [Reg.CTR_SNAP]; omega)).trans ((hblk b hb).2 n hn)
  · exact (State.showSnap_rd _ _ (by simp only [Reg.BLK_SNAP_ID]; omega)).trans (hblk b hb).1
  · rw [State.showSnap, State.rd_wr _ _ _ _ (by decide), State.rd_wr_self, hclk]
    rfl
  · rw [State.showSnap, State.rd_wr_self, hclk]
    rfl

/-! ### Announce messages and their time-outs -/

theorem State.countRx_servo (s : State) (p : Nat) : (s.countRx p).servo = s.servo := State.count_servo _ _

theorem State.countRx_ptp (s : State) (p : Nat) (n : Net) : (s.countRx p).ptp n = s.ptp n :=
  State.ptp_of (congrArg Servo.a (s.countRx_servo p)) (congrArg Servo.b (s.countRx_servo p)) n

theorem portOf_lt (n : Net) (port : Fin 8) : portOf n port < 16 := by
  cases n <;> simp only [portOf] <;> omega

theorem State.countPtp_taken {net : Net} {port : Nat} (h : s.portTakesPtp net port = true) :
    s.countPtp net port = s.countRx (portOf net port) := if_pos h

/-- The count of a port's frames is none of the words that judge a message. -/
theorem State.countRx_rd_mod (s : State) (p : Nat) {a : Nat} (ha : a % 16 ≠ 8 ∨ a < 0x9010000) : (s.countRx p).rd a = s.rd a :=
  State.rd_count_ne _ _ _ (by simp only [Reg.PORT_CNT_RX]; omega)

theorem State.countRx_on (s : State) (p : Nat) {f : Fld} (ha : f.addr % 16 ≠ 8 ∨ f.addr < 0x9010000) : (s.countRx p).on f = s.on f :=
  congrArg (· == 1) (State.fld_congr (s.countRx_rd_mod p ha))

theorem ptpWord_lt (n : Net) : ptpWord n < 0x9010000 := by cases n <;> decide

theorem State.countRx_portTakesPtp (s : State) (p : Nat) (n : Net) (port : Nat) : (s.countRx p).portTakesPtp n port = s.portTakesPtp n port := by
  have hen (q : Nat) : (s.countRx p).on (Fd.PORT_CFG_EN q) = s.on (Fd.PORT_CFG_EN q) :=
    s.countRx_on p (Or.inl (by simp only [Fd.PORT_CFG_EN, Reg.PORT_CFG]; omega))
  have hptp (q : Nat) : (s.countRx p).on (Fd.PORT_CFG_PTP q) = s.on (Fd.PORT_CFG_PTP q) :=
    s.countRx_on p (Or.inl (by simp only [Fd.PORT_CFG_PTP, Reg.PORT_CFG]; omega))
  have habs : (s.countRx p).portAbsent = s.portAbsent := s.countRx_on p (Or.inr (by decide))
  unfold State.portTakesPtp
  rw [habs, s.countRx_rd_mod p (Or.inr (ptpWord_lt n))]
  simp only [hen, hptp]

theorem State.countRx_takesHead (s : State) (p : Nat) (n : Net) (h : PtpHead) : (s.countRx p).takesHead n h = s.takesHead n h := by
  unfold State.takesHead
  rw [s.countRx_rd_mod p (Or.inr (ptpWord_lt n)), s.countRx_on p (Or.inr (by decide)), s.countRx_on p (Or.inr (by decide))]

/-- The PTP clock with an Announce heard. -/
def State.announced (s : State) (net : Net) (port : Nat) (a : Announce) : State :=
  s.setPtp net { s.ptp net with
    seen := (s.ptp net).seen.put (masterKey port a.head.sender) (a, s.clk.now)
    master := bestMaster ((s.ptp net).seen.put (masterKey port a.head.sender) (a, s.clk.now)) }

theorem exec_ptpAnnounce {net : Net} {port : Fin 8} {a : Announce} (h : s.portTakesPtp net port = true) : exec (.ptpAnnounce net port a) s =
    .next (if s.takesHead net a.head then ((s.countRx (portOf net port)).announced net port a).servoJudge else s.countRx (portOf net port)) := by
  have he : exec (.ptpAnnounce net port a) s = .next (if (s.countPtp net port).portTakesPtp net port && (s.countPtp net port).takesHead net a.head then
      ((s.countPtp net port).announced net port a).servoJudge else s.countPtp net port) := rfl
  rw [he, State.countPtp_taken h, State.countRx_portTakesPtp, State.countRx_takesHead, h, Bool.true_and]

theorem ptpAnnounce_taken {net : Net} {port : Fin 8} {a : Announce} (h : s.portTakesPtp net port = true) (hh : s.takesHead net a.head = true) :
    ∃ t, exec (.ptpAnnounce net port a) s = .next t ∧
      (t.ptp net).seen = (s.ptp net).seen.put (masterKey port a.head.sender) (a, s.clk.now) ∧
      (t.ptp net).master = bestMaster ((s.ptp net).seen.put (masterKey port a.head.sender) (a, s.clk.now)) ∧
      Only [.servo, .regs, .firn] s t := by
  have hx := exec_ptpAnnounce (a := a) h
  rw [if_pos hh] at hx
  generalize hu : (s.countRx (portOf net port)).announced net port a = u at hx
  have hp : u.ptp net = { s.ptp net with
      seen := (s.ptp net).seen.put (masterKey port a.head.sender) (a, s.clk.now)
      master := bestMaster ((s.ptp net).seen.put (masterKey port a.head.sender) (a, s.clk.now)) } := by
    rw [← hu, State.announced, State.setPtp_ptp, State.countRx_ptp]
    rfl
  have hc : Changes [.servo, .firn] [Reg.PORT_CNT_RX (portOf net port)] s u := by
    rw [← hu]
    exact (Changes.refl _ _ s).count.setPtp
  have hj := u.judged_servoJudge
  refine ⟨_, hx, ?_, ?_, ((hc.mono (fun p hp => hp) (fun a ha => List.mem_append_left servoWords ha)).trans
    (hj.frame.mono (fun p hp => hp) (fun a ha => List.mem_append_right _ ha))).1.mono (by decide)⟩
  · rw [(hj.ptp net).seen, hp]
  · rw [(hj.ptp net).master, hp]

/-- The Announce messages heard that have not timed out. -/
def State.stillHeard (s : State) (n : Net) : Tab (Announce × Nat) :=
  (s.ptp n).seen.filter (fun e => decide (s.clk.now < e.2.2 + announceTimeout e.2.1.head.logInterval))

/-- The PTP clock without the masters that have timed out. -/
def State.unheard (s : State) (n : Net) : State :=
  s.setPtp n { s.ptp n with seen := s.stillHeard n, master := bestMaster (s.stillHeard n), inside := 0, outside := 0, lock := false }

theorem exec_announceReceiptTimeout {n : Net} {m : Nat} (hm : (s.ptp n).master = some m) (hs : Tab.has (s.stillHeard n) m = false) :
    exec (.announceReceiptTimeout n) s = .next ((s.unheard n).lostMaster n) := by
  have he : exec (.announceReceiptTimeout n) s = .next (if (s.ptp n).master.any (fun m => !Tab.has (s.stillHeard n) m) then
      (s.unheard n).lostMaster n else s) := rfl
  rw [he, if_pos (by simp [hm, hs])]

theorem State.watchApart_changes (s : State) : Changes [.servo] [] s s.watchApart := by
  unfold State.watchApart
  simp only []
  split
  · split
    · exact Changes.refl _ _ s
    · exact (Changes.refl _ _ s).upd_servo
  · exact (Changes.refl _ _ s).upd_servo

theorem State.showLocks_changes (s : State) : Changes [.servo] [Reg.TIM_STAT] s s.showLocks :=
  ((Changes.refl _ _ s).setB.setB).step (State.watchApart_changes _)

/-- LOCKED is left for HOLDOVER. -/
theorem State.toHoldover_spec (s : State) : s.toHoldover.fld Fd.TIM_STAT_SERVO = 3 ∧ s.toHoldover.on Fd.TIM_EVT_LOCK_LOST = true ∧
    s.toHoldover.servo = { s.servo with holdFrom := s.clk.now, holdBase := (s.rd Reg.TIM_ERR_EST).toNat } ∧
    Changes [.servo, .firn] [Reg.TIM_STAT, Reg.TIM_EVT, Reg.TIM_EVT_SEQ] s s.toHoldover := by
  unfold State.toHoldover
  refine ⟨State.fld_set_self _ _ _ (by decide), ?_, ?_, (Changes.refl _ _ s).upd_servo.raise.set⟩
  · exact (congrArg (· == 1) (State.fld_set _ _ _ _ _ _ _ _ (by decide))).trans (State.raise_on _ _ _ _ _ (by decide) (by decide) rfl (by decide))
  · rw [State.set_servo, State.raise_servo]

theorem announceTimeout_holdover {m : Nat} (hm : s.servo.a.master = some m) (hs : Tab.has (s.stillHeard .a) m = false)
    (hb : s.servo.b.lock = false) (hsel : s.on Fd.TIM_STAT_SEL = false) (hl : s.fld Fd.TIM_STAT_SERVO = 2) :
    ∃ t, exec (.announceReceiptTimeout .a) s = .next t ∧ t.servo.a.lock = false ∧ t.servo.a.inside = 0 ∧
      t.servo.a.master = bestMaster (s.stillHeard .a) ∧ t.fld Fd.TIM_STAT_SERVO = 3 ∧ t.servo.holdFrom = s.clk.now ∧
      t.servo.holdBase = (s.rd Reg.TIM_ERR_EST).toNat ∧ t.on Fd.TIM_EVT_LOCK_LOST = true ∧
      Changes [.servo, .firn] [Reg.TIM_STAT, Reg.TIM_EVT, Reg.TIM_EVT_SEQ] s t := by
  have hx := exec_announceReceiptTimeout (n := .a) hm hs
  have hlost : (s.unheard .a).lostMaster .a = (s.unheard .a).showLocks.toHoldover :=
    if_pos ⟨hl, if_neg (by rw [show (s.unheard .a).on Fd.TIM_STAT_SEL = false from hsel]; decide),
      by rw [show ((s.unheard .a).ptp (otherNet .a)).lock = false from hb]; decide⟩
  rw [hlost] at hx
  have hc : Changes [.servo, .firn] [Reg.TIM_STAT, Reg.TIM_EVT, Reg.TIM_EVT_SEQ] s (s.unheard .a).showLocks :=
    ((Changes.refl _ _ s).setPtp).step (State.showLocks_changes _)
  have he := ((State.judged_showLocks (s.unheard .a)).ptp .a)
  obtain ⟨hst, hon, hsv, hd⟩ := (s.unheard .a).showLocks.toHoldover_spec
  refine ⟨_, hx, ?_, ?_, ?_, hst, ?_, ?_, hon, hc.trans hd⟩
  · rw [hsv]
    exact he.lock rfl
  · rw [hsv]
    exact he.inside rfl
  · rw [hsv]
    exact he.master
  · rw [hsv]
    exact congrArg Clock.now hc.clk
  · rw [hsv]
    exact congrArg BitVec.toNat (hc.rd (by decide) (by decide))

theorem announceTimeout_b {m : Nat} (hm : s.servo.b.master = some m) (hs : Tab.has (s.stillHeard .b) m = false) :
    ∃ t, exec (.announceReceiptTimeout .b) s = .next t ∧ t.servo.b.seen = s.stillHeard .b ∧ t.servo.b.lock = false ∧ t.servo.b.inside = 0 ∧
      Only [.servo, .regs, .firn] s t := by
  have hj := (s.unheard .b).judged_lostMaster .b
  have hc : Changes [.servo, .firn] servoWords s (s.unheard .b) := (Changes.refl _ _ s).setPtp
  exact ⟨_, exec_announceReceiptTimeout (n := .b) hm hs, (hj.ptp .b).seen, (hj.ptp .b).lock rfl, (hj.ptp .b).inside rfl,
    (hc.trans hj.frame).1.mono (by decide)⟩

/-- Settles O18, command by command. -/
theorem snapshotsAndTimeServoAct : Obligations.SnapshotsAndTimeServoAct := by
  unfold Obligations.SnapshotsAndTimeServoAct
  refine ⟨?_, ?_, ?_, ?_, ?_, ?_, ?_, ?_, ?_⟩
  · intro w s h hn
    have hclk := State.afterChecks_clk s w Reg.TIM_SNAP_CTRL 1
    refine ⟨_, exec_snapshotRequest h, WroteOk.send _ _ _, ?_, ?_⟩
    · rw [State.send_clk, State.requestSnapshot_new (by rw [hclk]; exact hn), hclk]
    · exact ((Changes.refl _ _ s).afterChecks.step (State.requestSnapshot_changes _)).send
  · intro s he hd
    have hx : exec .commonSnapshot s = .next s.edgeAll.beginTick := congrArg Host.Outcome.next (if_pos ⟨he, hd⟩)
    exact ⟨_, hx, rfl, rfl⟩
  · intro s hd hn hm _
    obtain ⟨hclk, hcnt, hid, hlo, hhi, ho⟩ := State.snapshotNow_latches hd hn hm
    exact ⟨_, rfl, congrArg Clock.snapId hclk, congrArg Clock.snapTick hclk, congrArg Clock.snapAt hclk, hcnt,
      fun b hb => (hid b hb).trans (congrArg (BitVec.ofNat 32) (congrArg Clock.snapId hclk).symm), hlo, hhi, ho⟩
  · intro net port a s h hh
    exact ptpAnnounce_taken h hh
  · intro net port a s h hh
    exact ⟨_, (exec_ptpAnnounce h).trans (congrArg _ (if_neg (by rw [hh]; decide))), (Changes.refl _ _ s).count⟩
  · intro s m hm hs hb hsel hl
    exact announceTimeout_holdover hm hs hb hsel hl
  · intro s m hm hs
    exact announceTimeout_b hm hs
  · intro s h hl
    have hn : s.fld Fd.TIM_STAT_SERVO ≠ 2 := by omega
    obtain ⟨t, hx, hst, hon, -, hsv, hc⟩ := holdoverExpiry_due h (by rw [Nat.mul_comm]; exact hl)
    obtain rfl := Host.Outcome.next.inj ((exec_holdoverExpiry_due h (by rw [Nat.mul_comm]; exact hl)).symm.trans hx)
    refine ⟨_, hx, hst, ?_, hon, hsv, hc⟩
    exact (State.rd_raise _ _ _ _ _ _ _ _ (by decide) (by decide) (by decide) (by decide) (by decide) (by decide)).trans
      (by rw [State.toFreerun_of_not_locked hn, State.rd_wr_self])
  · intro s t0 h0 ht hn ha hb
    have hx : exec .instanceDisagree s = .next ({ s with servo := { s.servo with told := true } }.raise Fd.TIM_EVT_DISAGREE noObj []) := by
      have he : exec .instanceDisagree s = .next (match s.servo.apartFrom with
        | some t => if t + sTicks 10 ≤ s.clk.now ∧ ¬ s.servo.told ∧ s.servo.a.lock ∧ s.servo.b.lock then
            { s with servo := { s.servo with told := true } }.raise Fd.TIM_EVT_DISAGREE noObj [] else s
        | none => s) := rfl
      rw [he, h0]
      exact congrArg _ (if_pos ⟨ht, by simp [hn], ha, hb⟩)
    refine ⟨_, hx, State.raise_servo _ _ _ _ _, State.raise_on _ _ _ _ _ (by decide) (by decide) rfl (by decide), ?_,
      (Changes.refl _ _ s).upd_servo.raise⟩
    exact State.fld_raise _ _ _ _ _ _ _ _ _ _ (by decide) (by decide) (by decide) (by decide) (by decide) (by decide)

end Sys2Proof.Machine
end

section
-- In order: the one text holds more declarations than asynchronous elaboration has threads for.
set_option Elab.async false

/-! PROOFS. Harness positions (R605, R606), optics (R607) and the links of the host ports (R399, R62). -/

namespace Sys2Proof.Machine

variable {s t : State}

/-! ### A harness position is read -/

/-- The position is recorded as the pins have it. -/
def State.plug (s : State) (h : Nat) (present : Bool) (mem : Option (List Byte)) : State :=
  s.setSys { s.sys with harn := if present then s.sys.harn.put h mem else s.sys.harn.del h }

theorem State.plug_sys (s : State) (h : Nat) (present : Bool) (mem : Option (List Byte)) :
    (s.plug h present mem).sys = { s.sys with harn := if present then s.sys.harn.put h mem else s.sys.harn.del h } := rfl

theorem Changes.plug {ps : List Part} {ws : List Nat} (h : Changes ps ws s t) {n : Nat} {present : Bool} {mem : Option (List Byte)}
    (hp : Part.sys ∈ ps := by repeat constructor) : Changes ps ws s (t.plug n present mem) := h.setSys hp

theorem exec_harnessChange {pos : Fin 8} {present : Bool} {mem : Option (List Byte)} (h : s.sys.seracUp = true) :
    exec (.harnessChange pos present mem) s = .next (((s.plug pos present mem).readHarness pos).raise Fd.ACT_HWEVT_HARNESS pos []) :=
  congrArg Host.Outcome.next (if_pos h)

theorem exec_harnessChange_down {pos : Fin 8} {present : Bool} {mem : Option (List Byte)} (h : s.sys.seracUp = false) :
    exec (.harnessChange pos present mem) s = .next (s.plug pos present mem) :=
  congrArg Host.Outcome.next (if_neg (show ¬ s.sys.seracUp = true by simp [h]))

/-- The words of a position, before it is read. -/
def State.blankHarness (s : State) (h : Nat) : State :=
  (((s.wr (Reg.HN_STAT h) 0).wr (Reg.HN_ID h) 0).wr (Reg.HN_SER_LO h) 0).wr (Reg.HN_SER_HI h) 0

theorem State.blankHarness_sys (s : State) (h : Nat) : (s.blankHarness h).sys = s.sys := by
  unfold State.blankHarness
  rw [State.wr_sys, State.wr_sys, State.wr_sys, State.wr_sys]

theorem State.blankHarness_spec (s : State) (h : Nat) : (s.blankHarness h).rd (Reg.HN_STAT h) = 0 ∧ (s.blankHarness h).rd (Reg.HN_ID h) = 0 ∧
    (s.blankHarness h).rd (Reg.HN_SER_LO h) = 0 ∧ (s.blankHarness h).rd (Reg.HN_SER_HI h) = 0 := by
  unfold State.blankHarness
  refine ⟨?_, ?_, ?_, State.rd_wr_self _ _ _⟩
  all_goals simp -implicitDefEqProofs (disch := omega) [Reg.HN_STAT, Reg.HN_ID, Reg.HN_SER_LO, Reg.HN_SER_HI]

/-- The words that a readable memory gives. -/
def State.takeHarness (s : State) (h : Nat) (m : List Byte) : State :=
  let s := s.set (Fd.HN_STAT_READ_OK h) 1
  let s := ((s.set (Fd.HN_ID_KIND h) (beAt m 3 1)).set (Fd.HN_ID_VARIANT h) (beAt m 4 1)).set (Fd.HN_ID_LEVEL h) (beAt m 2 1)
  (s.wr (Reg.HN_SER_HI h) (BitVec.ofNat 32 (beAt m 8 4))).wr (Reg.HN_SER_LO h) (BitVec.ofNat 32 (beAt m 12 4))

theorem State.readHarness_eq (s : State) (h : Nat) : s.readHarness h = State.showMatch (match Tab.find s.sys.harn h with
    | none => s.blankHarness h
    | some none => (s.blankHarness h).set (Fd.HN_STAT_PRESENT h) 1
    | some (some m) =>
      if ¬ harnessCrc m then ((s.blankHarness h).set (Fd.HN_STAT_PRESENT h) 1).set (Fd.HN_STAT_CRC_ERR h) 1
      else if ¬ harnessForm m then (s.blankHarness h).set (Fd.HN_STAT_PRESENT h) 1
      else ((s.blankHarness h).set (Fd.HN_STAT_PRESENT h) 1).takeHarness h m) h := by
  unfold State.readHarness
  have hh := s.blankHarness_sys h
  unfold State.blankHarness at hh
  simp only [hh]
  rfl

/-- The words of a position. -/
def harnessWords (h : Nat) : List Nat := [Reg.HN_STAT h, Reg.HN_ID h, Reg.HN_SER_LO h, Reg.HN_SER_HI h]

/-- What a position shows: present, read, with a wrong CRC, and its words. -/
structure State.Shows (s : State) (h : Nat) (present ok crc : Bool) (id lo hi : Word) : Prop where
  present : s.on (Fd.HN_STAT_PRESENT h) = present
  ok : s.on (Fd.HN_STAT_READ_OK h) = ok
  crc : s.on (Fd.HN_STAT_CRC_ERR h) = crc
  id : s.rd (Reg.HN_ID h) = id
  lo : s.rd (Reg.HN_SER_LO h) = lo
  hi : s.rd (Reg.HN_SER_HI h) = hi

/-- The MATCH bit, and the event, are beside what a position shows. -/
theorem State.Shows.told {h : Nat} {present ok crc : Bool} {id lo hi : Word} (hs : s.Shows h present ok crc id lo hi) (hh : h < 8) :
    ((s.showMatch h).raise Fd.ACT_HWEVT_HARNESS h []).Shows h present ok crc id lo hi := by
  have hr (a : Nat) (h1 : 0x7070100 ≤ a) (h2 : a < 0x7070180) : (((s.showMatch h).raise Fd.ACT_HWEVT_HARNESS h []).rd a) = (s.showMatch h).rd a :=
    State.rd_raise _ _ _ _ _ _ _ _ (by decide) (by decide) (by omega) (by omega) (by simp only [Reg.ACT_HWEVT]; omega)
      (by simp only [Reg.ACT_HWEVT]; omega)
  have hf (f : Fld) (ha : f.addr = Reg.HN_STAT h) (hl : f.lo + f.width ≤ 3) :
      ((s.showMatch h).raise Fd.ACT_HWEVT_HARNESS h []).on f = s.on f := by
    refine congrArg (· == 1) ((State.fld_congr (hr _ ?_ ?_)).trans (State.fld_set_bits _ _ _ _ ha (Or.inr hl)))
    all_goals simp only [ha, Reg.HN_STAT]
    all_goals omega
  have hw (a : Nat) (h0 : a ≠ Reg.HN_STAT h) (h1 : 0x7070100 ≤ a) (h2 : a < 0x7070180) :
      ((s.showMatch h).raise Fd.ACT_HWEVT_HARNESS h []).rd a = s.rd a := (hr a h1 h2).trans (State.rd_set_ne _ _ _ _ h0)
  refine ⟨(hf _ rfl (show 0 + 1 ≤ 3 by decide)).trans hs.present, (hf _ rfl (show 1 + 1 ≤ 3 by decide)).trans hs.ok,
    (hf _ rfl (show 2 + 1 ≤ 3 by decide)).trans hs.crc,
    (hw _ ?_ ?_ ?_).trans hs.id, (hw _ ?_ ?_ ?_).trans hs.lo, (hw _ ?_ ?_ ?_).trans hs.hi⟩
  all_goals simp only [Reg.HN_ID, Reg.HN_SER_LO, Reg.HN_SER_HI, Reg.HN_STAT]
  all_goals omega

theorem State.blankHarness_shows (s : State) (h : Nat) : (s.blankHarness h).Shows h false false false 0 0 0 := by
  obtain ⟨hst, hid, hlo, hhi⟩ := s.blankHarness_spec h
  have hz (lo w : Nat) : (s.blankHarness h).on ⟨Reg.HN_STAT h, lo, w⟩ = false := by
    rw [State.on, State.fld, hst, fieldOf_zero]
    rfl
  exact ⟨hz 0 1, hz 1 1, hz 2 1, hid, hlo, hhi⟩

theorem State.Shows.setPresent {h : Nat} {present ok crc : Bool} {id lo hi : Word} (hs : s.Shows h present ok crc id lo hi) :
    (s.set (Fd.HN_STAT_PRESENT h) 1).Shows h true ok crc id lo hi := by
  refine ⟨congrArg (· == 1) (State.fld_set_same _ _ _ _ _ (by decide)), (congrArg (· == 1) (State.fld_set_beside _ _ _ _ _ _ _ (by decide))).trans hs.ok,
    (congrArg (· == 1) (State.fld_set_beside _ _ _ _ _ _ _ (by decide))).trans hs.crc, ?_, ?_, ?_⟩
  · exact (State.rd_set_ne _ _ _ _ (by simp only [Fd.HN_STAT_PRESENT, Reg.HN_STAT, Reg.HN_ID]; omega)).trans hs.id
  · exact (State.rd_set_ne _ _ _ _ (by simp only [Fd.HN_STAT_PRESENT, Reg.HN_STAT, Reg.HN_SER_LO]; omega)).trans hs.lo
  · exact (State.rd_set_ne _ _ _ _ (by simp only [Fd.HN_STAT_PRESENT, Reg.HN_STAT, Reg.HN_SER_HI]; omega)).trans hs.hi


theorem State.Shows.setCrcErr {h : Nat} {present ok crc : Bool} {id lo hi : Word} (hs : s.Shows h present ok crc id lo hi) :
    (s.set (Fd.HN_STAT_CRC_ERR h) 1).Shows h present ok true id lo hi := by
  refine ⟨(congrArg (· == 1) (State.fld_set_beside _ _ _ _ _ _ _ (by decide))).trans hs.present,
    (congrArg (· == 1) (State.fld_set_beside _ _ _ _ _ _ _ (by decide))).trans hs.ok,
    congrArg (· == 1) (State.fld_set_same _ _ _ _ _ (by decide)), ?_, ?_, ?_⟩
  · exact (State.rd_set_ne _ _ _ _ (by simp only [Fd.HN_STAT_CRC_ERR, Reg.HN_STAT, Reg.HN_ID]; omega)).trans hs.id
  · exact (State.rd_set_ne _ _ _ _ (by simp only [Fd.HN_STAT_CRC_ERR, Reg.HN_STAT, Reg.HN_SER_LO]; omega)).trans hs.lo
  · exact (State.rd_set_ne _ _ _ _ (by simp only [Fd.HN_STAT_CRC_ERR, Reg.HN_STAT, Reg.HN_SER_HI]; omega)).trans hs.hi

theorem beAt_one_lt (m : List Byte) (o : Nat) : beAt m o 1 < 256 :=
  Nat.lt_of_lt_of_le (beNat_lt _) (Nat.pow_le_pow_right (by decide) (by simp) : 256 ^ ((m.drop o).take 1).length ≤ 256 ^ 1)

/-- A readable memory is shown with its kind, its variant and its serial number. -/
theorem State.Shows.take {h : Nat} {crc : Bool} {id lo hi : Word} (hs : s.Shows h true false crc id lo hi) (m : List Byte) :
    ∃ w, (s.takeHarness h m).Shows h true true crc w (BitVec.ofNat 32 (beAt m 12 4)) (BitVec.ofNat 32 (beAt m 8 4)) ∧
      fieldOf w 0 8 = beAt m 3 1 ∧ fieldOf w 8 8 = beAt m 4 1 := by
  have hk := beAt_one_lt m 3
  have hv := beAt_one_lt m 4
  have hp : s.fld ⟨Reg.HN_STAT h, 0, 1⟩ = 1 := beq_iff_eq.mp hs.present
  have hc := hs.crc
  unfold State.takeHarness
  refine ⟨_, ⟨?_, ?_, ?_, rfl, State.rd_wr_self _ _ _, ?_⟩, ?_, ?_⟩
  · simp -implicitDefEqProofs (disch := omega) [State.on, Fd.HN_STAT_PRESENT, Fd.HN_STAT_READ_OK, Fd.HN_ID_KIND, Fd.HN_ID_VARIANT, Fd.HN_ID_LEVEL,
      Reg.HN_STAT, Reg.HN_ID, Reg.HN_SER_LO, Reg.HN_SER_HI]
    exact hp
  · simp -implicitDefEqProofs (disch := omega) [State.on, Fd.HN_STAT_READ_OK, Fd.HN_ID_KIND, Fd.HN_ID_VARIANT, Fd.HN_ID_LEVEL,
      Reg.HN_STAT, Reg.HN_ID, Reg.HN_SER_LO, Reg.HN_SER_HI]
  · rw [← hc]
    simp -implicitDefEqProofs (disch := omega) [State.on, Fd.HN_STAT_CRC_ERR, Fd.HN_STAT_READ_OK, Fd.HN_ID_KIND, Fd.HN_ID_VARIANT, Fd.HN_ID_LEVEL,
      Reg.HN_STAT, Reg.HN_ID, Reg.HN_SER_LO, Reg.HN_SER_HI]
  · simp -implicitDefEqProofs (disch := omega) [Reg.HN_SER_LO, Reg.HN_SER_HI]
  · change State.fld _ ⟨Reg.HN_ID h, 0, 8⟩ = _
    simp -implicitDefEqProofs (disch := omega) [Fd.HN_ID_KIND, Fd.HN_ID_VARIANT, Fd.HN_ID_LEVEL, Reg.HN_ID, Reg.HN_SER_LO, Reg.HN_SER_HI]
    omega
  · change State.fld _ ⟨Reg.HN_ID h, 8, 8⟩ = _
    simp -implicitDefEqProofs (disch := omega) [Fd.HN_ID_KIND, Fd.HN_ID_VARIANT, Fd.HN_ID_LEVEL, Reg.HN_ID, Reg.HN_SER_LO, Reg.HN_SER_HI]
    omega

/-! ### A change at a position -/

theorem harnessChange_removed {pos : Fin 8} {mem : Option (List Byte)} (h : s.sys.seracUp = true) :
    ∃ t, exec (.harnessChange pos false mem) s = .next t ∧ t.Shows pos false false false 0 0 0 ∧ t.on Fd.ACT_HWEVT_HARNESS = true ∧
      Tab.find t.sys.harn pos = none ∧
      Changes [.sys, .firn] [Reg.HN_STAT pos, Reg.HN_ID pos, Reg.HN_SER_LO pos, Reg.HN_SER_HI pos, Reg.ACT_HWEVT, Reg.ACT_HWEVT_SEQ] s t := by
  have hx := exec_harnessChange (pos := pos) (present := false) (mem := mem) h
  have hf : Tab.find (s.plug pos false mem).sys.harn pos = none := Tab.find_del_self _ _
  have hb : Changes [.sys, .firn] (harnessWords pos) (s.plug pos false mem) ((s.plug pos false mem).blankHarness pos) :=
    (Changes.refl _ _ _).wr.wr.wr.wr
  have hsys := (s.plug pos false mem).blankHarness_sys pos
  rw [State.readHarness_eq, hf] at hx
  refine ⟨_, hx, (State.blankHarness_shows _ _).told pos.isLt, State.raise_on _ _ _ _ _ (by decide) (by decide) rfl (by decide), ?_,
    (((Changes.refl _ _ s).plug.step hb (hw := fun a ha => ?_)).setB).raise⟩
  · rw [State.raise_sys, State.showMatch, State.setB, State.set_sys, hsys]
    exact hf
  · simp only [harnessWords, List.mem_cons, List.not_mem_nil, or_false] at ha
    simp only [List.mem_cons, List.not_mem_nil, or_false]
    tauto

theorem State.plug_find (s : State) (h : Nat) (mem : Option (List Byte)) : Tab.find (s.plug h true mem).sys.harn h = some mem :=
  Tab.find_put_self _ _ _

theorem harnessChange_unread {pos : Fin 8} (h : s.sys.seracUp = true) : ∃ t, exec (.harnessChange pos true none) s = .next t ∧
    t.Shows pos true false false 0 0 0 ∧ t.on Fd.ACT_HWEVT_HARNESS = true := by
  have hx := exec_harnessChange (pos := pos) (present := true) (mem := none) h
  rw [State.readHarness_eq, State.plug_find] at hx
  exact ⟨_, hx, (State.blankHarness_shows _ _).setPresent.told pos.isLt, State.raise_on _ _ _ _ _ (by decide) (by decide) rfl (by decide)⟩

theorem harnessChange_badCrc {pos : Fin 8} {m : List Byte} (h : s.sys.seracUp = true) (hc : harnessCrc m = false) :
    ∃ t, exec (.harnessChange pos true (some m)) s = .next t ∧ t.Shows pos true false true 0 0 0 ∧ t.on Fd.ACT_HWEVT_HARNESS = true := by
  have hx := exec_harnessChange (pos := pos) (present := true) (mem := some m) h
  rw [State.readHarness_eq, State.plug_find] at hx
  simp only [hc, Bool.false_eq_true, not_false_eq_true, if_true] at hx
  exact ⟨_, hx, (State.blankHarness_shows _ _).setPresent.setCrcErr.told pos.isLt,
    State.raise_on _ _ _ _ _ (by decide) (by decide) rfl (by decide)⟩

theorem harnessChange_read {pos : Fin 8} {m : List Byte} (h : s.sys.seracUp = true) (hc : harnessCrc m = true) (hm : harnessForm m = true) :
    ∃ t w, exec (.harnessChange pos true (some m)) s = .next t ∧
      t.Shows pos true true false w (BitVec.ofNat 32 (beAt m 12 4)) (BitVec.ofNat 32 (beAt m 8 4)) ∧ fieldOf w 0 8 = beAt m 3 1 ∧
      fieldOf w 8 8 = beAt m 4 1 ∧ t.on Fd.ACT_HWEVT_HARNESS = true := by
  have hx := exec_harnessChange (pos := pos) (present := true) (mem := some m) h
  rw [State.readHarness_eq, State.plug_find] at hx
  simp only [hc, hm, not_true, if_false] at hx
  obtain ⟨w, hs, hk, hv⟩ := (State.blankHarness_shows (s.plug pos true (some m)) pos).setPresent.take m
  exact ⟨_, w, hx, hs.told pos.isLt, hk, hv, State.raise_on _ _ _ _ _ (by decide) (by decide) rfl (by decide)⟩

/-! ### Optics and links -/

theorem exec_opticPresent {port : Fin 16} {media : Fin 6} (h : s.sys.portUp = true) : exec (.opticPresent port media) s =
    .next (if portExists port then s.set (Fd.PORT_STAT_MEDIA port) media else s) := by
  refine congrArg Host.Outcome.next ?_
  by_cases hp : portExists port = true
  · exact (if_pos ⟨h, hp⟩).trans (if_pos hp).symm
  · exact (if_neg fun hh => hp hh.2).trans (if_neg hp).symm

/-- The field of NET_STAT that lists the ports of a network with link. -/
def upField (port : Nat) : Fld := if port < 8 then Fd.NET_STAT_UP_A else Fd.NET_STAT_UP_B

/-- A port whose link is gone, with NET_STAT and the event. -/
def State.unlink (s : State) (port : Nat) : State :=
  let s := ((s.set (Fd.PORT_STAT_LINK port) 0).set (Fd.PORT_STAT_FEC_LOCK port) 0).bump (Fd.PORT_STAT_FLAPS port)
  (s.setBit (upField port) (port % 8) false).raise Fd.NET_EVT_LINK_DOWN port []

theorem exec_portLinkDown {port : Fin 16} (h : s.on (Fd.PORT_STAT_LINK port) = true) : exec (.portLinkDown port) s =
    .next (if (s.unlink port).fld (upField port) = 0 then
      ((s.unlink port).raise Fd.NET_EVT_NET_LOST noObj []).loseMaster (if port.val < 8 then Net.a else Net.b) else s.unlink port) :=
  congrArg Host.Outcome.next (if_pos h)

theorem upField_addr (port : Nat) : (upField port).addr = Reg.NET_STAT := by
  unfold upField
  split <;> rfl

theorem upField_width (port : Nat) : (upField port).width = 8 := by
  unfold upField
  split <;> rfl

theorem upField_fits (port : Nat) : (upField port).lo + (upField port).width ≤ 32 := by
  unfold upField
  split <;> decide

theorem State.unlink_spec (s : State) (port : Fin 16) : (s.unlink port).on (Fd.PORT_STAT_LINK port) = false ∧
    (s.unlink port).on (Fd.PORT_STAT_FEC_LOCK port) = false ∧
    (s.unlink port).fld (upField port) = s.fld (upField port) &&& (2 ^ 8 - 1 - 2 ^ (port.val % 8)) ∧
    (s.unlink port).on Fd.NET_EVT_LINK_DOWN = true ∧
    Changes [.firn] [Reg.PORT_STAT port, Reg.NET_STAT, Reg.NET_EVT, Reg.NET_EVT_SEQ] s (s.unlink port) := by
  have hp := port.isLt
  have hlt : s.fld (upField port) &&& (2 ^ 8 - 1 - 2 ^ (port.val % 8)) < 256 :=
    Nat.lt_of_le_of_lt Nat.and_le_right (by have := Nat.two_pow_pos (port.val % 8); omega)
  unfold State.unlink
  refine ⟨?_, ?_, ?_, State.raise_on _ _ _ _ _ (by decide) (by decide) rfl (by decide),
    (((Changes.refl _ _ s).set.set.bump).setBit (by rw [upField_addr]; simp)).raise⟩
  · unfold upField
    split <;> simp -implicitDefEqProofs (disch := omega) [State.on, Fd.PORT_STAT_LINK, Fd.PORT_STAT_FEC_LOCK, Fd.PORT_STAT_FLAPS, Reg.PORT_STAT,
      Fd.NET_EVT_LINK_DOWN, Reg.NET_EVT, Fd.NET_STAT_UP_A, Fd.NET_STAT_UP_B, Reg.NET_STAT]
  · unfold upField
    split <;> simp -implicitDefEqProofs (disch := omega) [State.on, Fd.PORT_STAT_FEC_LOCK, Fd.PORT_STAT_FLAPS, Reg.PORT_STAT,
      Fd.NET_EVT_LINK_DOWN, Reg.NET_EVT, Fd.NET_STAT_UP_A, Fd.NET_STAT_UP_B, Reg.NET_STAT]
  · have hs : ∀ u : State, u.fld (upField port) = s.fld (upField port) →
        ((u.setBit (upField port) (port % 8) false).raise Fd.NET_EVT_LINK_DOWN port []).fld (upField port) =
          s.fld (upField port) &&& (2 ^ 8 - 1 - 2 ^ (port.val % 8)) := fun u hu => by
      rw [State.raise_fld _ _ _ _ _ _ (by decide) (by rw [upField_addr]; decide) (by rw [upField_addr]; decide) (by rw [upField_addr]; decide),
        State.setBit, State.fld_set_self _ _ _ (upField_fits port), hu, upField_width]
      exact Nat.mod_eq_of_lt hlt
    refine hs _ (State.fld_congr ?_)
    rw [upField_addr, State.rd_bump, State.rd_set, State.rd_set]
    all_goals show Reg.NET_STAT ≠ Reg.PORT_STAT port
    all_goals simp only [Reg.NET_STAT, Reg.PORT_STAT]
    all_goals omega


theorem Changes.servePort {ps : List Part} {ws : List Nat} (h : Changes ps ws s t) (hp : Part.sys ∈ ps := by repeat constructor) :
    Changes ps ws s t.servePort := by
  unfold State.servePort
  split
  · exact h
  · exact h.upd_sys hp

/-- A port that gains link, with NET_STAT and the event. -/
def State.link (s : State) (port : Nat) : State :=
  let s := (s.set (Fd.PORT_STAT_LINK port) 1).set (Fd.PORT_STAT_FEC_LOCK port) 1
  (s.setBit (upField port) (port % 8) true).raise Fd.NET_EVT_LINK_UP port []

theorem exec_portLinkUp {port : Fin 16} (he : s.on (Fd.PORT_CFG_EN port) = true) (hl : s.on (Fd.PORT_STAT_LINK port) = false)
    (hu : s.sys.portUp = true) : exec (.portLinkUp port) s = .next (if portExists port then (s.link port).servePort else s) := by
  have hx : exec (.portLinkUp port) s = .next (if portExists port && s.on (Fd.PORT_CFG_EN port) && !s.on (Fd.PORT_STAT_LINK port) && s.sys.portUp then
      (s.link port).servePort else s) := rfl
  rw [hx, he, hl, hu, Bool.not_false, Bool.and_true, Bool.and_true, Bool.and_true]

theorem State.servePort_fld (s : State) (f : Fld) : s.servePort.fld f = s.fld f := by
  unfold State.servePort
  split <;> rfl

theorem bitOf_eq_testBit (v n : Nat) : bitOf v n = v.testBit n := by
  rw [Nat.testBit_eq_decide_div_mod_eq]
  exact beq_eq_decide _ _

theorem State.link_spec (s : State) (port : Fin 16) : (s.link port).on (Fd.PORT_STAT_LINK port) = true ∧
    (s.link port).on (Fd.PORT_STAT_FEC_LOCK port) = true ∧ (s.link port).on Fd.NET_EVT_LINK_UP = true ∧
    bitOf ((s.link port).fld (upField port)) (port.val % 8) = true ∧
    Changes [.firn] [Reg.PORT_STAT port, Reg.NET_STAT, Reg.NET_EVT, Reg.NET_EVT_SEQ] s (s.link port) := by
  have hp := port.isLt
  unfold State.link
  refine ⟨?_, ?_, State.raise_on _ _ _ _ _ (by decide) (by decide) rfl (by decide), ?_,
    (((Changes.refl _ _ s).set.set).setBit (by rw [upField_addr]; simp)).raise⟩
  · unfold upField
    split <;> simp -implicitDefEqProofs (disch := omega) [State.on, Fd.PORT_STAT_LINK, Fd.PORT_STAT_FEC_LOCK, Reg.PORT_STAT,
      Fd.NET_EVT_LINK_UP, Reg.NET_EVT, Fd.NET_STAT_UP_A, Fd.NET_STAT_UP_B, Reg.NET_STAT]
  · unfold upField
    split <;> simp -implicitDefEqProofs (disch := omega) [State.on, Fd.PORT_STAT_FEC_LOCK, Reg.PORT_STAT,
      Fd.NET_EVT_LINK_UP, Reg.NET_EVT, Fd.NET_STAT_UP_A, Fd.NET_STAT_UP_B, Reg.NET_STAT]
  · rw [State.raise_fld _ _ _ _ _ _ (by decide) (by rw [upField_addr]; decide) (by rw [upField_addr]; decide) (by rw [upField_addr]; decide),
      State.setBit, if_pos rfl, State.fld_set_self _ _ _ (upField_fits port), upField_width]
    rw [bitOf_eq_testBit, Nat.testBit_mod_two_pow, Nat.testBit_or, Nat.testBit_two_pow_self, Bool.or_true, Bool.and_true, decide_eq_true]
    omega

theorem State.ptp_b (s : State) : s.ptp .b = s.servo.b := rfl

theorem State.loseMaster_spec (s : State) (n : Net) : Changes [.servo, .firn] servoWords s (s.loseMaster n) ∧
    ((s.loseMaster n).ptp n).master = none ∧ ((s.loseMaster n).ptp n).seen = [] := by
  unfold State.loseMaster
  generalize hu : s.setPtp n { s.ptp n with seen := [], master := none, inside := 0, outside := 0, lock := false } = u
  have hc : Changes [.servo, .firn] servoWords s u := by
    rw [← hu]
    exact (Changes.refl _ _ s).setPtp
  have hp : u.ptp n = { s.ptp n with seen := [], master := none, inside := 0, outside := 0, lock := false } := by
    rw [← hu, State.setPtp_ptp]
  have hj := u.judged_lostMaster n
  exact ⟨hc.trans hj.frame, by rw [(hj.ptp n).master, hp], by rw [(hj.ptp n).seen, hp]⟩

/-- A network that loses its last link loses its master. -/
theorem portLinkDown_last {port : Fin 16} (h : s.on (Fd.PORT_STAT_LINK port) = true) (hp : 8 ≤ port.val)
    (hz : s.fld Fd.NET_STAT_UP_B &&& (2 ^ 8 - 1 - 2 ^ (port.val % 8)) = 0) : ∃ t, exec (.portLinkDown port) s = .next t ∧
      t.on (Fd.PORT_STAT_LINK port) = false ∧ t.fld Fd.NET_STAT_UP_B = 0 ∧ t.on Fd.NET_EVT_LINK_DOWN = true ∧
      t.on Fd.NET_EVT_NET_LOST = true ∧ t.servo.b.master = none ∧ t.servo.b.seen = [] := by
  have hn : ¬ port.val < 8 := Nat.not_lt.mpr hp
  have hup : upField port = Fd.NET_STAT_UP_B := if_neg hn
  obtain ⟨hlink, -, hfld, hevt, -⟩ := s.unlink_spec port
  have hx := exec_portLinkDown h
  rw [hfld, hup, if_pos hz, if_neg hn] at hx
  rw [hup] at hfld
  generalize s.unlink port = u at hlink hfld hevt hx
  have hlost := State.raise_on u Fd.NET_EVT_NET_LOST noObj [] false (by decide) (by decide) rfl (by decide)
  have hlink' : (u.raise Fd.NET_EVT_NET_LOST noObj []).on (Fd.PORT_STAT_LINK port) = false := by
    refine (congrArg (· == 1) (State.fld_raise _ _ _ _ _ _ _ _ _ _ (by decide) (by decide) ?_ ?_ ?_ ?_)).trans hlink
    all_goals simp only [Reg.PORT_STAT, Reg.NET_EVT]
    all_goals omega
  have hfld' : (u.raise Fd.NET_EVT_NET_LOST noObj []).fld Fd.NET_STAT_UP_B = 0 :=
    (State.fld_raise _ _ _ _ _ _ _ _ _ _ (by decide) (by decide) (by decide) (by decide) (by decide) (by decide)).trans (hfld.trans hz)
  have hevt' : (u.raise Fd.NET_EVT_NET_LOST noObj []).on Fd.NET_EVT_LINK_DOWN = true :=
    State.raise_on_of_on _ _ _ _ _ _ _ (by decide) (by decide) (by decide) hevt
  generalize u.raise Fd.NET_EVT_NET_LOST noObj [] = v at hx hlost hlink' hfld' hevt'
  obtain ⟨hc, hmaster, hseen⟩ := v.loseMaster_spec .b
  rw [State.ptp_b] at hmaster hseen
  have hport : Reg.PORT_STAT port ∉ servoWords := by
    simp only [servoWords, Reg.PORT_STAT, Reg.TIM_STAT, Reg.TIM_EVT, Reg.TIM_EVT_SEQ, Reg.TIM_ERR_EST, List.mem_cons, List.not_mem_nil, or_false]
    omega
  refine ⟨_, hx, (congrArg (· == 1) (hc.fld ?_ hport)).trans hlink', (hc.fld (by decide) (by decide)).trans hfld',
    (congrArg (· == 1) (hc.fld (by decide) (by decide))).trans hevt', (congrArg (· == 1) (hc.fld (by decide) (by decide))).trans hlost,
    hmaster, hseen⟩
  refine eventWord_eq_false ?_ ?_
  all_goals simp only [Fd.PORT_STAT_LINK, Reg.PORT_STAT]
  all_goals omega

/-- Settles O55, command by command. -/
theorem harnessesOpticsAndLinksAreRead : Obligations.HarnessesOpticsAndLinksAreRead := by
  unfold Obligations.HarnessesOpticsAndLinksAreRead
  refine ⟨?_, ?_, ?_, ?_, ?_, ?_, ?_, ?_, ?_, ?_, ?_, ?_⟩
  · intro pos mem s h
    obtain ⟨t, hx, hs, he, hf, hc⟩ := harnessChange_removed (pos := pos) (mem := mem) h
    exact ⟨t, hx, hs.present, hs.ok, hs.id, hs.lo, hs.hi, he, hf, hc⟩
  · intro pos m s h hc hm
    obtain ⟨t, w, hx, hs, hk, hv, he⟩ := harnessChange_read (pos := pos) h hc hm
    exact ⟨t, hx, hs.present, hs.ok, hs.crc, (congrArg (fieldOf · 0 8) hs.id).trans hk, (congrArg (fieldOf · 8 8) hs.id).trans hv, hs.hi, hs.lo, he⟩
  · intro pos present mem s h
    exact ⟨_, exec_harnessChange_down h, State.plug_sys _ _ _ _,
      (State.setSys_keeps (F := 16) rfl (Keeps.refl _ s)).only _ (fun p => by cases p <;> decide)⟩
  · intro pos m s h hc
    obtain ⟨t, hx, hs, he⟩ := harnessChange_badCrc (pos := pos) h hc
    exact ⟨t, hx, hs.present, hs.ok, hs.crc, hs.id, hs.lo, hs.hi, he⟩
  · intro pos s h
    obtain ⟨t, hx, hs, he⟩ := harnessChange_unread (pos := pos) h
    exact ⟨t, hx, hs.present, hs.ok, hs.crc, he⟩
  · intro port media s h
    exact ⟨s, congrArg Host.Outcome.next (if_neg (by simp [h])), rfl⟩
  · intro port media s h
    refine ⟨_, exec_opticPresent h, fun hp => ?_, ?_⟩
    · rw [if_pos hp]
      exact (State.fld_set_same _ _ _ _ _ (by decide)).trans (Nat.mod_eq_of_lt (by omega))
    · split
      · exact (Changes.refl _ _ s).set
      · exact Changes.refl _ _ s
  · intro port s h hp hz
    obtain ⟨hlink, hfec, hfld, hevt, hc⟩ := s.unlink_spec port
    have hx := exec_portLinkDown h
    have hup : upField port = Fd.NET_STAT_UP_A := if_pos hp
    rw [hup] at hfld hx
    rw [if_neg (by rw [hfld]; exact hz)] at hx
    exact ⟨_, hx, hlink, hfec, hfld, hevt, hc⟩
  · intro port s h hp hz
    exact portLinkDown_last h hp hz
  · intro port s he hl hu
    have hx := exec_portLinkUp he hl hu
    obtain ⟨hlink, hfec, hevt, hbit, hc⟩ := s.link_spec port
    by_cases hp : portExists port = true
    · rw [if_pos hp] at hx
      refine ⟨_, hx, fun _ => ⟨?_, ?_, ?_⟩, fun _ => ?_, (hc.mono (by decide) (fun a ha => ha)).servePort⟩
      · exact (congrArg (· == 1) (State.servePort_fld _ _)).trans hlink
      · exact (congrArg (· == 1) (State.servePort_fld _ _)).trans hfec
      · exact (congrArg (· == 1) (State.servePort_fld _ _)).trans hevt
      · exact (congrArg (bitOf · _) (State.servePort_fld _ _)).trans hbit
    · rw [if_neg hp] at hx
      exact ⟨_, hx, fun h => absurd h hp, fun h => absurd h hp, Changes.refl _ _ s⟩
  · intro port s h
    exact ⟨s, congrArg Host.Outcome.next (if_neg (by simp [h])), rfl⟩
  · intro port s h
    refine ⟨s, congrArg Host.Outcome.next (if_neg ?_), rfl⟩
    obtain h | h | h | h := h <;> simp [h]

end Sys2Proof.Machine
end

section
-- In order: the one text holds more declarations than asynchronous elaboration has threads for.
set_option Elab.async false

/-! PROOFS. Firmware commands (R525, R526): the words of a part, what each command does to them, and the results. -/

namespace Sys2Proof.Machine

variable {s t : State}

/-! ### The word of a command -/

/-- The word a firmware row writes. -/
def fwWord (op part parts handle : Nat) : Word := BitVec.ofNat 32 (op + 16 * part + 64 * parts + 65536 * handle)

theorem exec_fwRow {w op part parts handle : Nat} (h : s.WriteTaken w Reg.SEC_FW_CMD (fwWord op part parts handle) (crossFw (fwWord op part parts handle))) :
    s.fwRow w op part parts handle = ((s.afterChecks w Reg.SEC_FW_CMD (fwWord op part parts handle)).fwCommand (fwWord op part parts handle)).send
      (.wrote w Reg.SEC_FW_CMD 0 0 0) := State.writeRow_taken _ h

theorem fwWord_op {op part parts handle : Nat} (h1 : op < 8) (h2 : part < 4) (h3 : parts < 8) (h4 : handle < 65536) :
    fieldOf (fwWord op part parts handle) 0 3 = op := by
  rw [fwWord, fieldOf_ofNat _ _ (by omega)]
  omega

theorem fwWord_part {op part parts handle : Nat} (h1 : op < 8) (h2 : part < 4) (h3 : parts < 8) (h4 : handle < 65536) :
    fieldOf (fwWord op part parts handle) 4 2 = part := by
  rw [fwWord, fieldOf_ofNat _ _ (by omega)]
  omega

theorem fwWord_parts {op part parts handle : Nat} (h1 : op < 8) (h2 : part < 4) (h3 : parts < 8) (h4 : handle < 65536) :
    fieldOf (fwWord op part parts handle) 6 3 = parts := by
  rw [fwWord, fieldOf_ofNat _ _ (by omega)]
  omega

theorem fwWord_handle {op part parts handle : Nat} (h1 : op < 8) (h2 : part < 4) (h3 : parts < 8) (h4 : handle < 65536) :
    fieldOf (fwWord op part parts handle) 16 16 = handle := by
  rw [fwWord, fieldOf_ofNat _ _ (by omega)]
  omega

/-- The parts that a command names. -/
def namedParts (parts : Nat) : List Nat := (List.range 3).filter (fun p => bitOf parts p)

theorem mem_namedParts {parts p : Nat} : p ∈ namedParts parts ↔ p < 3 ∧ bitOf parts p = true := by
  rw [namedParts, List.mem_filter, List.mem_range]

theorem fwWord_install (part handle : Nat) : BitVec.ofNat 32 (1 + 16 * part + 65536 * handle) = fwWord 1 part 0 handle := by
  rw [fwWord]
  congr 1

theorem fwWord_named (op parts : Nat) : BitVec.ofNat 32 (op + 64 * parts) = fwWord op 0 parts 0 := by
  rw [fwWord]
  congr 1

theorem State.fwCommand_busy (v : Word) (hb : s.on Fd.SEC_FW_STAT_BUSY = true) : s.fwCommand v = s.set Fd.SEC_FW_STAT_RESULT 6 := if_pos hb

/-- INSTALL begins: the part is busy and the object is noted. -/
def State.beginInstall (s : State) (p h : Nat) : State :=
  { ((s.set Fd.SEC_FW_STAT_BUSY 1).set Fd.SEC_FW_STAT_RESULT 0) with sec := { s.sec with install := some (p, h) } }

theorem State.beginInstall_spec (s : State) (p h : Nat) : (s.beginInstall p h).on Fd.SEC_FW_STAT_BUSY = true ∧
    (s.beginInstall p h).fld Fd.SEC_FW_STAT_RESULT = 0 ∧ (s.beginInstall p h).sec = { s.sec with install := some (p, h) } ∧
    Changes [.sec] [Reg.SEC_FW_STAT] s (s.beginInstall p h) := by
  unfold State.beginInstall
  refine ⟨?_, ?_, rfl, ((Changes.refl _ _ s).set.set).upd_sec⟩
  · rw [State.on, State.fld_mk]
    refine beq_iff_eq.mpr ?_
    exact (State.fld_set_beside _ _ _ _ _ _ _ (by decide)).trans (State.fld_set_same _ _ _ _ _ (by decide))
  · rw [State.fld_mk]
    exact State.fld_set_same _ _ _ _ _ (by decide)

theorem State.fwCommand_install {v : Word} (hb : s.on Fd.SEC_FW_STAT_BUSY = false) (hop : fieldOf v 0 3 = 1) :
    s.fwCommand v = s.beginInstall (fieldOf v 4 2) (fieldOf v 16 16) := by
  unfold State.fwCommand
  rw [if_neg (by simp [hb]), hop]
  rfl

theorem State.fwCommand_try {op parts : Nat} (hb : s.on Fd.SEC_FW_STAT_BUSY = false) (hop : op = 2 ∨ op = 4) (hp : parts < 8) :
    s.fwCommand (fwWord op 0 parts 0) = s.fwTry (namedParts parts) := by
  have hparts : partsOf (fwWord op 0 parts 0) = namedParts parts := by
    rw [partsOf, fwWord_parts (by omega) (by decide) hp (by decide)]
    rfl
  unfold State.fwCommand
  rw [if_neg (by simp [hb]), fwWord_op (by omega) (by decide) hp (by decide), hparts]
  obtain rfl | rfl := hop <;> rfl

theorem State.fwCommand_commit {parts : Nat} (hb : s.on Fd.SEC_FW_STAT_BUSY = false) (hp : parts < 8) :
    s.fwCommand (fwWord 3 0 parts 0) = s.fwCommit (namedParts parts) := by
  have hparts : partsOf (fwWord 3 0 parts 0) = namedParts parts := by
    rw [partsOf, fwWord_parts (by decide) (by decide) hp (by decide)]
    rfl
  unfold State.fwCommand
  rw [if_neg (by simp [hb]), fwWord_op (by decide) (by decide) hp (by decide), hparts]
  rfl

theorem State.afterChecks_busy (s : State) (w a : Nat) (v : Word) : (s.afterChecks w a v).on Fd.SEC_FW_STAT_BUSY = s.on Fd.SEC_FW_STAT_BUSY :=
  State.afterChecks_on _ _ _ _ _

/-- A command while INSTALL runs is refused. -/
theorem fwRow_busy {w op part parts handle : Nat}
    (h : s.WriteTaken w Reg.SEC_FW_CMD (fwWord op part parts handle) (crossFw (fwWord op part parts handle)))
    (hb : s.on Fd.SEC_FW_STAT_BUSY = true) : WroteOk (s.fwRow w op part parts handle) w Reg.SEC_FW_CMD ∧
      (s.fwRow w op part parts handle).fld Fd.SEC_FW_STAT_RESULT = 6 ∧ Changes [.zh, .out] [Reg.SEC_FW_STAT] s (s.fwRow w op part parts handle) := by
  rw [exec_fwRow h, State.fwCommand_busy _ ((State.afterChecks_busy _ _ _ _).trans hb)]
  exact ⟨WroteOk.send _ _ _, (State.send_fld _ _ _).trans (State.fld_set_self _ _ _ (by decide)), ((Changes.refl _ _ s).afterChecks.set).send⟩

/-! ### INSTALL -/

theorem fwInstall_starts {w : Fin 8} {part : Fin 4} {handle : BitVec 16}
    (h : s.WriteTaken w Reg.SEC_FW_CMD (fwWord 1 part 0 handle.toNat) (crossFw (fwWord 1 part 0 handle.toNat)))
    (hb : s.on Fd.SEC_FW_STAT_BUSY = false) : ∃ t, exec (.fwInstall w part handle) s = .next t ∧ WroteOk t w Reg.SEC_FW_CMD ∧
      t.on Fd.SEC_FW_STAT_BUSY = true ∧ t.fld Fd.SEC_FW_STAT_RESULT = 0 ∧
      t.sec = { s.sec with install := some (part.val, handle.toNat) } ∧ Changes [.zh, .sec, .out] [Reg.SEC_FW_STAT] s t := by
  have hx : exec (.fwInstall w part handle) s = .next (s.fwRow w 1 part 0 handle.toNat) := rfl
  have hh := handle.isLt
  have hsec := State.afterChecks_sec s w Reg.SEC_FW_CMD (fwWord 1 part 0 handle.toNat)
  have hc : Changes [.zh, .sec, .out] [Reg.SEC_FW_STAT] s (s.afterChecks w Reg.SEC_FW_CMD (fwWord 1 part 0 handle.toNat)) :=
    (Changes.refl _ _ s).afterChecks
  rw [exec_fwRow h, State.fwCommand_install ((State.afterChecks_busy _ _ _ _).trans hb) (fwWord_op (by decide) part.isLt (by decide) hh),
    fwWord_part (by decide) part.isLt (by decide) hh, fwWord_handle (by decide) part.isLt (by decide) hh] at hx
  generalize s.afterChecks w Reg.SEC_FW_CMD (fwWord 1 part 0 handle.toNat) = u at hx hc hsec
  obtain ⟨hbusy, hres, hins, hch⟩ := u.beginInstall_spec part.val handle.toNat
  rw [hsec] at hins
  exact ⟨_, hx, WroteOk.send _ _ _, (State.send_on _ _ _).trans hbusy, (State.send_fld _ _ _).trans hres, (State.send_sec _ _).trans hins,
    (hc.step hch).send⟩

/-! ### The slots of a part -/

theorem fwState_addr (p b : Nat) : (fwState p b).addr = Reg.FW_SLOT p := by
  unfold fwState
  split <;> rfl

theorem State.fwStat_of {p : Nat} (h : t.rd (Reg.FW_SLOT p) = s.rd (Reg.FW_SLOT p)) (b : Nat) : t.fwStat p b = s.fwStat p b :=
  State.fld_congr (by rw [fwState_addr]; exact h)

theorem State.fwSlot_of {p : Nat} (h : t.rd (Reg.FW_SLOT p) = s.rd (Reg.FW_SLOT p)) (n : Nat) : t.fwSlot p n = s.fwSlot p n := by
  unfold State.fwSlot
  simp only [State.fwStat_of h]

theorem State.fwSlot_some {p n b : Nat} (h : s.fwSlot p n = some b) : b < 2 ∧ s.fwStat p b = n :=
  ⟨List.mem_range.mp (List.mem_of_find?_eq_some h), by simpa using List.find?_some h⟩

theorem State.fwStat_set_same (s : State) (p b v : Nat) (hv : v < 8) : (s.set (fwState p b) v).fwStat p b = v := by
  unfold State.fwStat fwState
  split
  · exact (State.fld_set_same _ _ _ _ _ (by decide)).trans (Nat.mod_eq_of_lt hv)
  · exact (State.fld_set_same _ _ _ _ _ (by decide)).trans (Nat.mod_eq_of_lt hv)

theorem State.fwStat_set_ne (s : State) (p v : Nat) {b c : Nat} (hb : b < 2) (hc : c < 2) (hne : c ≠ b) :
    (s.set (fwState p b) v).fwStat p c = s.fwStat p c := by
  obtain rfl | rfl : b = 0 ∨ b = 1 := by omega
  · obtain rfl : c = 1 := by omega
    exact State.fld_set_beside _ _ _ _ _ _ _ (by decide)
  · obtain rfl : c = 0 := by omega
    exact State.fld_set_beside _ _ _ _ _ _ _ (by decide)

theorem State.fwStat_attempts (s : State) (p b v : Nat) : (s.set (Fd.FW_SLOT_ATTEMPTS p) v).fwStat p b = s.fwStat p b := by
  unfold State.fwStat fwState
  split
  · exact State.fld_set_beside _ _ _ _ _ _ _ (by decide)
  · exact State.fld_set_beside _ _ _ _ _ _ _ (by decide)

theorem Changes.setFwState {ps : List Part} {ws : List Nat} (h : Changes ps ws s t) {p b v : Nat} (hw : Reg.FW_SLOT p ∈ ws) :
    Changes ps ws s (t.set (fwState p b) v) := h.set (by rw [fwState_addr]; exact hw)

/-! ### The result of a command -/

theorem State.fwDone_spec (s : State) {r : Nat} (hr : r < 16) : (s.fwDone r).fld Fd.SEC_FW_STAT_RESULT = r ∧ (s.fwDone r).on Fd.SEC_EVT_FW_DONE = true ∧
    (s.fwDone r).on Fd.SEC_FW_STAT_BUSY = s.on Fd.SEC_FW_STAT_BUSY ∧ (s.fwDone r).sec = s.sec ∧ (s.fwDone r).sys = s.sys ∧ (s.fwDone r).zh = s.zh ∧
    Changes [.firn] [Reg.SEC_FW_STAT, Reg.SEC_EVT, Reg.SEC_EVT_SEQ] s (s.fwDone r) := by
  unfold State.fwDone
  refine ⟨?_, State.raise_on _ _ _ _ _ (by decide) (by decide) rfl (by decide), ?_, ?_, ?_, ?_, (Changes.refl _ _ s).set.raise⟩
  · refine (State.fld_raise _ _ _ _ _ _ _ _ _ _ (by decide) (by decide) (by decide) (by decide) (by decide) (by decide)).trans ?_
    exact (State.fld_set_same _ _ _ _ _ (by decide)).trans (Nat.mod_eq_of_lt hr)
  · refine congrArg (· == 1) ((State.fld_raise _ _ _ _ _ _ _ _ _ _ (by decide) (by decide) (by decide) (by decide) (by decide) (by decide)).trans ?_)
    exact State.fld_set_beside _ _ _ _ _ _ _ (by decide)
  · rw [State.raise_sec, State.set_sec]
  · rw [State.raise_sys, State.set_sys]
  · rw [State.raise_zh, State.set_zh]


/-! ### ACTIVATE and REVERT -/

/-- The VALID slot of a part becomes TRIAL. -/
def State.tryPart (s : State) (p : Nat) : State :=
  match s.fwSlot p 1 with
  | some b => (s.set (fwState p b) 2).set (Fd.FW_SLOT_ATTEMPTS p) 0
  | none => s

theorem State.fwTry_eq (s : State) (ps : List Nat) : s.fwTry ps = if ps.any (fun p => (s.fwSlot p 1).isNone) then s.fwDone 7 else
    { ps.foldl State.tryPart s with sys := { (ps.foldl State.tryPart s).sys with fwReset := true } }.fwDone 1 := rfl

theorem Changes.tryPart {ps : List Part} {ws : List Nat} (h : Changes ps ws s t) {p : Nat} (hw : Reg.FW_SLOT p ∈ ws) :
    Changes ps ws s (t.tryPart p) := by
  unfold State.tryPart
  split
  · exact (h.setFwState hw).set hw
  · exact h

theorem eventWord_fwSlot {p : Nat} (hp : p < 3) : eventWord (Reg.FW_SLOT p) = false :=
  eventWord_eq_false (by simp only [Reg.FW_SLOT]; omega) (by simp only [Reg.FW_SLOT]; omega)

theorem fwSlot_mem {p : Nat} (hp : p < 3) : Reg.FW_SLOT p ∈ (List.range 3).map Reg.FW_SLOT :=
  List.mem_map_of_mem (List.mem_range.mpr hp)

theorem State.tryPart_rd_ne (s : State) {p q : Nat} (hq : q < 3) (h : p ≠ q) : (s.tryPart p).rd (Reg.FW_SLOT q) = s.rd (Reg.FW_SLOT q) := by
  refine ((Changes.refl [] [Reg.FW_SLOT p] s).tryPart (List.mem_singleton.mpr rfl)).rd (eventWord_fwSlot hq) (fun hm => ?_)
  have := List.mem_singleton.mp hm
  simp only [Reg.FW_SLOT] at this
  omega

/-- The slot that a trial takes turns TRIAL. -/
theorem State.tryPart_fwStat {p b : Nat} (h : s.fwSlot p 1 = some b) : (s.tryPart p).fwStat p b = 2 := by
  unfold State.tryPart
  rw [h]
  exact (State.fwStat_attempts _ _ _ _).trans (State.fwStat_set_same _ _ _ _ (by decide))

/-- A slot on trial stays so. -/
theorem State.tryPart_keeps_trial {p b : Nat} (hb : b < 2) (q : Nat) (hp : p < 3) (h : s.fwStat p b = 2) : (s.tryPart q).fwStat p b = 2 := by
  by_cases hq : q = p
  · subst hq
    unfold State.tryPart
    split
    next c hc =>
      obtain ⟨hc2, hc1⟩ := State.fwSlot_some hc
      have hne : b ≠ c := fun e => by rw [e, hc1] at h; exact absurd h (by decide)
      exact (State.fwStat_attempts _ _ _ _).trans ((State.fwStat_set_ne _ _ _ hc2 hb hne).trans h)
    next => exact h
  · exact (State.fwStat_of (s.tryPart_rd_ne hp hq) b).trans h

theorem State.tried_spec (s : State) {ps : List Nat} (hps : ∀ p ∈ ps, p < 3) :
    (∀ p ∈ ps, ∀ b, s.fwSlot p 1 = some b → (ps.foldl State.tryPart s).fwStat p b = 2) ∧
    Changes [] ((List.range 3).map Reg.FW_SLOT) s (ps.foldl State.tryPart s) := by
  refine ⟨fun p hp b hb => ?_, List.foldlRecOn ps State.tryPart (Changes.refl _ _ s) (fun t ht p hp => ht.tryPart (fwSlot_mem (hps p hp)))⟩
  refine foldl_of_mem (pre := fun t => t.rd (Reg.FW_SLOT p) = s.rd (Reg.FW_SLOT p)) (post := fun t => t.fwStat p b = 2) hp
    (fun t q _ hq ht => (t.tryPart_rd_ne (hps p hp) hq).trans ht) (fun t ht => ?_)
    (fun t q _ ht => State.tryPart_keeps_trial (State.fwSlot_some hb).1 q (hps p hp) ht) rfl
  exact State.tryPart_fwStat ((State.fwSlot_of ht 1).trans hb)

theorem State.fwTry_missing {ps : List Nat} (h : ps.any (fun p => (s.fwSlot p 1).isNone) = true) : s.fwTry ps = s.fwDone 7 :=
  (s.fwTry_eq ps).trans (if_pos h)

/-- What ACTIVATE and REVERT leave when each part named holds a VALID slot. -/
structure Tried (parts : Nat) (s t : State) : Prop where
  stat : ∀ p, p < 3 → bitOf parts p = true → ∀ b, s.fwSlot p 1 = some b → t.fwStat p b = 2
  sys : t.sys = { s.sys with fwReset := true }
  result : t.fld Fd.SEC_FW_STAT_RESULT = 1
  done : t.on Fd.SEC_EVT_FW_DONE = true
  changes : Changes [.sys, .firn] ([Reg.SEC_FW_STAT, Reg.SEC_EVT, Reg.SEC_EVT_SEQ] ++ (List.range 3).map Reg.FW_SLOT) s t

theorem State.fwTry_tried {parts : Nat} (h : (namedParts parts).any (fun p => (s.fwSlot p 1).isNone) = false) :
    Tried parts s (s.fwTry (namedParts parts)) := by
  obtain ⟨hstat, hch⟩ := s.tried_spec (fun p (hp : p ∈ namedParts parts) => (mem_namedParts.mp hp).1)
  have hsys : ((namedParts parts).foldl State.tryPart s).sys = s.sys := hch.1.2 .sys (by decide)
  rw [s.fwTry_eq, if_neg (by simp [h])]
  generalize (namedParts parts).foldl State.tryPart s = u at *
  have hr : Changes [.sys, .firn] ([Reg.SEC_FW_STAT, Reg.SEC_EVT, Reg.SEC_EVT_SEQ] ++ (List.range 3).map Reg.FW_SLOT) s
      { u with sys := { u.sys with fwReset := true } } := (hch.mono (by decide) (fun a ha => List.mem_append_right _ ha)).upd_sys
  have hru : ∀ a, State.rd { u with sys := { u.sys with fwReset := true } } a = u.rd a := fun _ => rfl
  have hsu : State.sys { u with sys := { u.sys with fwReset := true } } = { s.sys with fwReset := true } := by
    show ({ u.sys with fwReset := true } : _) = _
    rw [hsys]
  generalize ({ u with sys := { u.sys with fwReset := true } } : State) = v at *
  obtain ⟨h1, h2, -, -, h5, -, h7⟩ := v.fwDone_spec (r := 1) (by decide)
  refine ⟨fun p hp hb b hs => ?_, h5.trans hsu, h1, h2, hr.step h7 (hw := fun a ha => List.mem_append_left _ ha)⟩
  refine (State.fwStat_of ((h7.rd (eventWord_fwSlot hp) ?_).trans (hru _)) b).trans (hstat p (mem_namedParts.mpr ⟨hp, hb⟩) b hs)
  simp only [Reg.FW_SLOT, Reg.SEC_FW_STAT, Reg.SEC_EVT, Reg.SEC_EVT_SEQ, List.mem_cons, List.not_mem_nil, or_false]
  omega

/-- A named part whose slots are all on trial or VALID is not missing one. -/
theorem State.any_missing {parts : Nat} : (namedParts parts).any (fun p => (s.fwSlot p 1).isNone) =
    (List.range 3).any (fun p => bitOf parts p && (s.fwSlot p 1).isNone) := by
  rw [namedParts, List.any_filter]

theorem State.none_missing {parts : Nat} (h : (List.range 3).all (fun p => !bitOf parts p || (s.fwSlot p 1).isSome) = true) :
    (namedParts parts).any (fun p => (s.fwSlot p 1).isNone) = false := by
  rw [List.any_eq_false]
  intro p hp
  obtain ⟨hp3, hb⟩ := mem_namedParts.mp hp
  have := List.all_eq_true.mp h p (List.mem_range.mpr hp3)
  simpa [hb, Option.isSome_iff_ne_none] using this

theorem Tried.all {parts : Nat} (h : Tried parts s t) (hv : (List.range 3).all (fun p => !bitOf parts p || (s.fwSlot p 1).isSome) = true) :
    (List.range 3).all (fun p => !bitOf parts p || (s.fwSlot p 1).any (fun b => t.fwStat p b == 2)) = true := by
  refine List.all_eq_true.mpr fun p hp => ?_
  have hvp := List.all_eq_true.mp hv p hp
  cases hb : bitOf parts p with
  | false => rfl
  | true =>
    obtain ⟨b, hs⟩ := Option.isSome_iff_exists.mp (by simpa [hb] using hvp)
    simpa [hs] using h.stat p (List.mem_range.mp hp) hb b hs

theorem fwRow_try {w op parts : Nat} (hop : op = 2 ∨ op = 4) (hp : parts < 8)
    (h : s.WriteTaken w Reg.SEC_FW_CMD (fwWord op 0 parts 0) (crossFw (fwWord op 0 parts 0)))
    (hb : s.on Fd.SEC_FW_STAT_BUSY = false) (hv : (List.range 3).all (fun p => !bitOf parts p || (s.fwSlot p 1).isSome) = true) :
    WroteOk (s.fwRow w op 0 parts 0) w Reg.SEC_FW_CMD ∧
      ((List.range 3).all (fun p => !bitOf parts p || (s.fwSlot p 1).any (fun b => (s.fwRow w op 0 parts 0).fwStat p b == 2)) = true) ∧
      (s.fwRow w op 0 parts 0).sys = { s.sys with fwReset := true } ∧
      (s.fwRow w op 0 parts 0).fld Fd.SEC_FW_STAT_RESULT = 1 ∧ (s.fwRow w op 0 parts 0).on Fd.SEC_EVT_FW_DONE = true ∧
      Changes [.zh, .sys, .firn, .out] ([Reg.SEC_FW_STAT, Reg.SEC_EVT, Reg.SEC_EVT_SEQ] ++ (List.range 3).map Reg.FW_SLOT) s
        (s.fwRow w op 0 parts 0) := by
  rw [exec_fwRow h, State.fwCommand_try ((State.afterChecks_busy _ _ _ _).trans hb) hop hp]
  have hstat : ∀ p b, (s.afterChecks w Reg.SEC_FW_CMD (fwWord op 0 parts 0)).fwStat p b = s.fwStat p b := fun p b => State.afterChecks_fld _ _ _ _ _
  have hslot : ∀ p, (s.afterChecks w Reg.SEC_FW_CMD (fwWord op 0 parts 0)).fwSlot p 1 = s.fwSlot p 1 := fun p => by
    unfold State.fwSlot
    simp only [hstat]
  have hsys := State.afterChecks_sys s w Reg.SEC_FW_CMD (fwWord op 0 parts 0)
  have hc : Changes [.zh, .sys, .firn, .out] ([Reg.SEC_FW_STAT, Reg.SEC_EVT, Reg.SEC_EVT_SEQ] ++ (List.range 3).map Reg.FW_SLOT) s
    (s.afterChecks w Reg.SEC_FW_CMD (fwWord op 0 parts 0)) := (Changes.refl _ _ s).afterChecks
  generalize s.afterChecks w Reg.SEC_FW_CMD (fwWord op 0 parts 0) = u at *
  have hvu : (List.range 3).all (fun p => !bitOf parts p || (u.fwSlot p 1).isSome) = true := by
    simpa only [hslot] using hv
  have ht := State.fwTry_tried (State.none_missing hvu)
  have hall := ht.all hvu
  simp only [hslot] at hall
  obtain ⟨-, hts, hres, hdone, hch⟩ := ht
  generalize u.fwTry (namedParts parts) = v at *
  refine ⟨WroteOk.send _ _ _, ?_, ?_, (State.send_fld _ _ _).trans hres, (State.send_on _ _ _).trans hdone,
    (hc.step hch (hw := fun a ha => ha)).send⟩
  · unfold State.fwStat at hall ⊢
    simpa only [State.send_fld] using hall
  · rw [State.send_sys, hts, hsys]

theorem fwRow_missing {w op parts : Nat} (hop : op = 2 ∨ op = 4) (hp : parts < 8)
    (h : s.WriteTaken w Reg.SEC_FW_CMD (fwWord op 0 parts 0) (crossFw (fwWord op 0 parts 0)))
    (hb : s.on Fd.SEC_FW_STAT_BUSY = false) (hv : (List.range 3).any (fun p => bitOf parts p && (s.fwSlot p 1).isNone) = true) :
    (s.fwRow w op 0 parts 0).fld Fd.SEC_FW_STAT_RESULT = 7 ∧ (s.fwRow w op 0 parts 0).on Fd.SEC_EVT_FW_DONE = true ∧
      Changes [.zh, .firn, .out] [Reg.SEC_FW_STAT, Reg.SEC_EVT, Reg.SEC_EVT_SEQ] s (s.fwRow w op 0 parts 0) := by
  rw [exec_fwRow h, State.fwCommand_try ((State.afterChecks_busy _ _ _ _).trans hb) hop hp]
  have hstat : ∀ p b, (s.afterChecks w Reg.SEC_FW_CMD (fwWord op 0 parts 0)).fwStat p b = s.fwStat p b := fun p b => State.afterChecks_fld _ _ _ _ _
  have hc : Changes [.zh, .firn, .out] [Reg.SEC_FW_STAT, Reg.SEC_EVT, Reg.SEC_EVT_SEQ] s
    (s.afterChecks w Reg.SEC_FW_CMD (fwWord op 0 parts 0)) := (Changes.refl _ _ s).afterChecks
  generalize s.afterChecks w Reg.SEC_FW_CMD (fwWord op 0 parts 0) = u at *
  have hslot : ∀ p, u.fwSlot p 1 = s.fwSlot p 1 := fun p => by
    unfold State.fwSlot
    simp only [hstat]
  rw [State.fwTry_missing (State.any_missing.trans (by simpa only [hslot] using hv))]
  obtain ⟨h1, h2, -, -, -, -, h7⟩ := u.fwDone_spec (r := 7) (by decide)
  exact ⟨(State.send_fld _ _ _).trans h1, (State.send_on _ _ _).trans h2, (hc.step h7).send⟩

/-! ### COMMIT -/

/-- The floor of a part rises to the security version of its GOOD image. -/
def State.raiseFloor (s : State) (p : Nat) : State :=
  match s.fwSlot p 3 with
  | some b => s.set (Fd.FW_SVN_FLOOR p) (max (s.fld (Fd.FW_SVN_FLOOR p)) (min (fwSvn (s.fwImage p b)) 64))
  | none => s

theorem State.fwCommit_eq (s : State) (ps : List Nat) : s.fwCommit ps = (ps.foldl State.raiseFloor s).fwDone 1 := rfl

theorem Changes.raiseFloor {ps : List Part} {ws : List Nat} (h : Changes ps ws s t) {p : Nat} (hw : Reg.FW_SVN p ∈ ws) :
    Changes ps ws s (t.raiseFloor p) := by
  unfold State.raiseFloor
  split
  · exact h.set hw
  · exact h

theorem fwSvn_mem {p : Nat} (hp : p < 3) : Reg.FW_SVN p ∈ (List.range 3).map Reg.FW_SVN := List.mem_map_of_mem (List.mem_range.mpr hp)

theorem eventWord_fwSvn {p : Nat} (hp : p < 3) : eventWord (Reg.FW_SVN p) = false :=
  eventWord_eq_false (by simp only [Reg.FW_SVN]; omega) (by simp only [Reg.FW_SVN]; omega)

/-- What the floor of a part becomes by COMMIT. -/
def State.floorAfter (s : State) (p : Nat) : Nat :=
  (s.fwSlot p 3).elim (s.fld (Fd.FW_SVN_FLOOR p)) (fun b => max (s.fld (Fd.FW_SVN_FLOOR p)) (min (fwSvn (s.fwImage p b)) 64))

theorem State.raiseFloor_fld (s : State) (p : Nat) : (s.raiseFloor p).fld (Fd.FW_SVN_FLOOR p) = s.floorAfter p := by
  unfold State.raiseFloor State.floorAfter
  split
  next b hb =>
    have : s.fld (Fd.FW_SVN_FLOOR p) < 128 := State.fld_lt _ _
    rw [hb]
    refine (State.fld_set_same _ _ _ _ _ (by decide)).trans (Nat.mod_eq_of_lt ?_)
    show max _ _ < 128
    omega
  next hb =>
    rw [hb]
    rfl

/-- The words of the floors. -/
def floorWords : List Nat := (List.range 3).map Reg.FW_SVN

theorem Changes.fwSlot (h : Changes [] floorWords s t) {p : Nat} (hp : p < 3) (n : Nat) : t.fwSlot p n = s.fwSlot p n := by
  refine State.fwSlot_of (h.rd (eventWord_fwSlot hp) (fun hm => ?_)) n
  obtain ⟨q, hq, he⟩ := List.mem_map.mp hm
  have := List.mem_range.mp hq
  simp only [Reg.FW_SLOT, Reg.FW_SVN] at he
  omega

theorem Changes.fwImage (h : Changes [] floorWords s t) (p b : Nat) : t.fwImage p b = s.fwImage p b := by
  unfold State.fwImage
  rw [h.1.2 .sec (by decide)]

theorem State.raiseFloor_rd_ne (s : State) {p q : Nat} (hq : q < 3) (h : p ≠ q) : (s.raiseFloor p).fld (Fd.FW_SVN_FLOOR q) = s.fld (Fd.FW_SVN_FLOOR q) := by
  refine ((Changes.refl [] [Reg.FW_SVN p] s).raiseFloor (List.mem_singleton.mpr rfl)).fld (eventWord_fwSvn hq) (fun hm => ?_)
  have := List.mem_singleton.mp hm
  simp only [Fd.FW_SVN_FLOOR, Reg.FW_SVN] at this
  omega

/-- The floor after COMMIT of a state in which it has been raised is the same. -/
theorem State.floorAfter_raised {p : Nat} (hslot : t.fwSlot p 3 = s.fwSlot p 3) (himg : ∀ b, t.fwImage p b = s.fwImage p b)
    (h : t.fld (Fd.FW_SVN_FLOOR p) = s.floorAfter p) : t.floorAfter p = s.floorAfter p := by
  unfold State.floorAfter at h ⊢
  rw [hslot]
  cases hs : s.fwSlot p 3 with
  | none => simpa [hs] using h
  | some b =>
    simp only [hs, Option.elim_some, himg] at h ⊢
    omega

theorem State.raisedFloors_spec (s : State) {ps : List Nat} (hps : ∀ p ∈ ps, p < 3) :
    (∀ p, p < 3 → (ps.foldl State.raiseFloor s).fld (Fd.FW_SVN_FLOOR p) = if p ∈ ps then s.floorAfter p else s.fld (Fd.FW_SVN_FLOOR p)) ∧
    Changes [] floorWords s (ps.foldl State.raiseFloor s) := by
  have hstep : ∀ u, Changes [] floorWords s u → ∀ q ∈ ps, Changes [] floorWords s (u.raiseFloor q) := fun u hu q hq =>
    hu.raiseFloor (fwSvn_mem (hps q hq))
  refine ⟨fun p hp => ?_, List.foldlRecOn ps State.raiseFloor (Changes.refl _ _ s) hstep⟩
  split
  next hm =>
    refine (foldl_of_mem (pre := fun u => Changes [] floorWords s u ∧ u.fld (Fd.FW_SVN_FLOOR p) = s.fld (Fd.FW_SVN_FLOOR p))
      (post := fun u => Changes [] floorWords s u ∧ u.fld (Fd.FW_SVN_FLOOR p) = s.floorAfter p) hm
      (fun u q hq hne hu => ⟨hstep u hu.1 q hq, (u.raiseFloor_rd_ne hp hne).trans hu.2⟩) (fun u hu => ?_) (fun u q hq hu => ?_)
      ⟨Changes.refl _ _ s, rfl⟩).2
    · refine ⟨hstep u hu.1 p hm, (u.raiseFloor_fld p).trans ?_⟩
      unfold State.floorAfter
      rw [hu.2, hu.1.fwSlot hp]
      simp only [hu.1.fwImage]
    · refine ⟨hstep u hu.1 q hq, ?_⟩
      by_cases hqp : q = p
      · subst hqp
        exact (u.raiseFloor_fld q).trans (State.floorAfter_raised (hu.1.fwSlot hp 3) (hu.1.fwImage q) hu.2)
      · exact (u.raiseFloor_rd_ne hp hqp).trans hu.2
  next hm =>
    exact List.foldlRecOn (motive := fun u => u.fld (Fd.FW_SVN_FLOOR p) = s.fld (Fd.FW_SVN_FLOOR p)) ps State.raiseFloor rfl
      (fun u hu q hq => (u.raiseFloor_rd_ne hp (fun e => hm (e ▸ hq))).trans hu)

theorem fwRow_commit {w parts : Nat} (hp : parts < 8)
    (h : s.WriteTaken w Reg.SEC_FW_CMD (fwWord 3 0 parts 0) (crossFw (fwWord 3 0 parts 0))) (hb : s.on Fd.SEC_FW_STAT_BUSY = false) :
    WroteOk (s.fwRow w 3 0 parts 0) w Reg.SEC_FW_CMD ∧
      (∀ p, p < 3 → (s.fwRow w 3 0 parts 0).fld (Fd.FW_SVN_FLOOR p) = if bitOf parts p then s.floorAfter p else s.fld (Fd.FW_SVN_FLOOR p)) ∧
      (s.fwRow w 3 0 parts 0).fld Fd.SEC_FW_STAT_RESULT = 1 ∧ (s.fwRow w 3 0 parts 0).on Fd.SEC_EVT_FW_DONE = true ∧
      Changes [.zh, .firn, .out] ([Reg.SEC_FW_STAT, Reg.SEC_EVT, Reg.SEC_EVT_SEQ] ++ (List.range 3).map Reg.FW_SVN) s
        (s.fwRow w 3 0 parts 0) := by
  rw [exec_fwRow h, State.fwCommand_commit ((State.afterChecks_busy _ _ _ _).trans hb) hp]
  have hfld : ∀ f, (s.afterChecks w Reg.SEC_FW_CMD (fwWord 3 0 parts 0)).fld f = s.fld f := fun f => State.afterChecks_fld _ _ _ _ _
  have hsec := State.afterChecks_sec s w Reg.SEC_FW_CMD (fwWord 3 0 parts 0)
  have hc : Changes [.zh, .firn, .out] ([Reg.SEC_FW_STAT, Reg.SEC_EVT, Reg.SEC_EVT_SEQ] ++ (List.range 3).map Reg.FW_SVN) s
    (s.afterChecks w Reg.SEC_FW_CMD (fwWord 3 0 parts 0)) := (Changes.refl _ _ s).afterChecks
  generalize s.afterChecks w Reg.SEC_FW_CMD (fwWord 3 0 parts 0) = u at *
  have hafter : ∀ p, u.floorAfter p = s.floorAfter p := fun p => by
    unfold State.floorAfter State.fwSlot State.fwStat State.fwImage
    simp only [hfld, hsec]
  obtain ⟨hfloor, hch⟩ := u.raisedFloors_spec (fun p (hp : p ∈ namedParts parts) => (mem_namedParts.mp hp).1)
  rw [u.fwCommit_eq]
  generalize (namedParts parts).foldl State.raiseFloor u = v at *
  obtain ⟨h1, h2, -, -, -, -, h7⟩ := v.fwDone_spec (r := 1) (by decide)
  refine ⟨WroteOk.send _ _ _, fun p hp3 => ?_, (State.send_fld _ _ _).trans h1, (State.send_on _ _ _).trans h2,
    ((hc.step hch (hw := fun a ha => List.mem_append_right _ ha)).step h7 (hw := fun a ha => List.mem_append_left _ ha)).send⟩
  refine (State.send_fld _ _ _).trans ((h7.fld (eventWord_fwSvn hp3) ?_).trans ((hfloor p hp3).trans ?_))
  · simp only [Fd.FW_SVN_FLOOR, Reg.FW_SVN, Reg.SEC_FW_STAT, Reg.SEC_EVT, Reg.SEC_EVT_SEQ, List.mem_cons, List.not_mem_nil, or_false]
    omega
  · rw [hafter, hfld]
    simp only [mem_namedParts, hp3, true_and]

/-! ### FW_INSTALL_DONE -/

/-- The installation is over: nothing is noted and the part is not busy. -/
def State.endInstall (s : State) : State := { s with sec := { s.sec with install := none } }.set Fd.SEC_FW_STAT_BUSY 0

theorem State.endInstall_spec (s : State) : s.endInstall.on Fd.SEC_FW_STAT_BUSY = false ∧ s.endInstall.sec = { s.sec with install := none } ∧
    s.endInstall.zh = s.zh ∧ (∀ f, f.addr ≠ Reg.SEC_FW_STAT → s.endInstall.fld f = s.fld f) ∧
    Changes [.sec] [Reg.SEC_FW_STAT] s s.endInstall := by
  unfold State.endInstall
  refine ⟨?_, ?_, ?_, fun f hf => ?_, ((Changes.refl _ _ s).upd_sec).set⟩
  · rw [State.on, State.fld_set_self _ _ _ (by decide)]
    rfl
  · rw [State.set_sec]
  · rw [State.set_zh]
  · exact State.fld_set_word _ _ _ _ hf

/-- The image goes into the slot `b` of its part, and its object goes from the store. -/
def State.placeImage (s : State) (p b h : Nat) (bs : List Byte) : State :=
  let s := (s.set (fwState p b) 1).wr (if b = 0 then Reg.FW_VERA p else Reg.FW_VERB p) (BitVec.ofNat 32 (fwVersion bs))
  { s with sec := { s.sec with fwImages := s.sec.fwImages.put (2 * p + b) bs }, zh := { s.zh with store := s.zh.store.del h } }

theorem exec_fwInstallDone_idle (h : s.sec.install = none) : exec .fwInstallDone s = .next s := by
  show Host.Outcome.next _ = _
  rw [h]

theorem exec_fwInstallDone_gone {p h : Nat} (hi : s.sec.install = some (p, h)) (ho : s.endInstall.object h 4 = none) :
    exec .fwInstallDone s = .next (s.endInstall.fwDone 2) := by
  unfold State.endInstall at ho ⊢
  show Host.Outcome.next _ = _
  rw [hi]
  simp only [ho]

theorem exec_fwInstallDone_failed {p h : Nat} {o : StoreObj} (hi : s.sec.install = some (p, h)) (ho : s.endInstall.object h 4 = some o)
    (hr : s.endInstall.fwVerify p o.bytes ≠ 1) : exec .fwInstallDone s = .next (s.endInstall.fwDone (s.endInstall.fwVerify p o.bytes)) := by
  unfold State.endInstall at ho hr ⊢
  show Host.Outcome.next _ = _
  rw [hi]
  simp only [ho]
  rw [if_pos hr]

theorem exec_fwInstallDone_good {p h : Nat} {o : StoreObj} (hi : s.sec.install = some (p, h)) (ho : s.endInstall.object h 4 = some o)
    (hr : s.endInstall.fwVerify p o.bytes = 1) :
    exec .fwInstallDone s = .next ((s.endInstall.placeImage p (s.endInstall.fwSpare p) h o.bytes).fwDone 1) := by
  unfold State.endInstall at ho hr ⊢
  show Host.Outcome.next _ = _
  rw [hi]
  simp only [ho]
  rw [if_neg (fun hn => hn hr)]
  rfl
theorem fwVer_addr {p b : Nat} (hp : p < 3) : (if b = 0 then Reg.FW_VERA p else Reg.FW_VERB p) ≠ Reg.FW_SLOT p ∧
    eventWord (if b = 0 then Reg.FW_VERA p else Reg.FW_VERB p) = false ∧
    (if b = 0 then Reg.FW_VERA p else Reg.FW_VERB p) ∉ [Reg.SEC_FW_STAT, Reg.SEC_EVT, Reg.SEC_EVT_SEQ] := by
  split
  · refine ⟨by simp only [Reg.FW_VERA, Reg.FW_SLOT]; omega, eventWord_eq_false (by simp only [Reg.FW_VERA]; omega) (by simp only [Reg.FW_VERA]; omega), ?_⟩
    simp only [Reg.FW_VERA, Reg.SEC_FW_STAT, Reg.SEC_EVT, Reg.SEC_EVT_SEQ, List.mem_cons, List.not_mem_nil, or_false]
    omega
  · refine ⟨by simp only [Reg.FW_VERB, Reg.FW_SLOT]; omega, eventWord_eq_false (by simp only [Reg.FW_VERB]; omega) (by simp only [Reg.FW_VERB]; omega), ?_⟩
    simp only [Reg.FW_VERB, Reg.SEC_FW_STAT, Reg.SEC_EVT, Reg.SEC_EVT_SEQ, List.mem_cons, List.not_mem_nil, or_false]
    omega

theorem State.placeImage_spec (s : State) {p : Nat} (b h : Nat) (bs : List Byte) (hp : p < 3) :
    (s.placeImage p b h bs).fwStat p b = 1 ∧
    (s.placeImage p b h bs).rd (if b = 0 then Reg.FW_VERA p else Reg.FW_VERB p) = BitVec.ofNat 32 (fwVersion bs) ∧
    (s.placeImage p b h bs).fwImage p b = bs ∧ (s.placeImage p b h bs).sec.install = s.sec.install ∧
    Tab.find (s.placeImage p b h bs).zh.store h = none ∧
    (s.placeImage p b h bs).on Fd.SEC_FW_STAT_BUSY = s.on Fd.SEC_FW_STAT_BUSY := by
  obtain ⟨hne, -, hstat⟩ := fwVer_addr (b := b) hp
  have hslot : Reg.FW_SLOT p ≠ Reg.SEC_FW_STAT := by
    simp only [Reg.FW_SLOT, Reg.SEC_FW_STAT]
    omega
  generalize hx : (s.set (fwState p b) 1).wr (if b = 0 then Reg.FW_VERA p else Reg.FW_VERB p) (BitVec.ofNat 32 (fwVersion bs)) = u
  have hplace : s.placeImage p b h bs =
      { u with sec := { u.sec with fwImages := u.sec.fwImages.put (2 * p + b) bs }, zh := { u.zh with store := u.zh.store.del h } } := by
    rw [← hx]
    rfl
  rw [hplace]
  refine ⟨?_, ?_, ?_, ?_, Tab.find_del_self _ _, congrArg (· == 1) ?_⟩
  · unfold State.fwStat
    rw [State.fld_mk, ← hx]
    exact (State.fld_congr (State.rd_wr_ne _ _ _ _ (by rw [fwState_addr]; exact hne.symm))).trans (State.fwStat_set_same s p b 1 (by decide))
  · rw [State.rd_mk, ← hx]
    exact State.rd_wr_self _ _ _
  · unfold State.fwImage
    rw [Tab.find_put_self]
    rfl
  · show u.sec.install = _
    rw [← hx, State.wr_sec, State.set_sec]
  · rw [State.fld_mk, ← hx]
    refine (State.fld_congr (State.rd_wr_ne _ _ _ _ (fun he => hstat (List.mem_cons.mpr (.inl he.symm))))).trans ?_
    exact State.fld_set_word _ _ _ _ (by rw [fwState_addr]; exact hslot.symm)

/-! ### The end of a trial -/

/-- The running slot turns GOOD, the one that was GOOD turns VALID. -/
def State.confirmSlot (s : State) (p b : Nat) : State :=
  ((if s.fwStat p (1 - b) = 3 then s.set (fwState p (1 - b)) 1 else s).set (fwState p b) 3).set (Fd.FW_SLOT_ATTEMPTS p) 0

theorem State.confirmSlot_spec (s : State) (p : Nat) {b : Nat} (hb : b < 2) : (s.confirmSlot p b).fwStat p b = 3 ∧
    (s.confirmSlot p b).fwStat p (1 - b) = (if s.fwStat p (1 - b) = 3 then 1 else s.fwStat p (1 - b)) ∧
    (s.confirmSlot p b).fld (Fd.FW_SLOT_ATTEMPTS p) = 0 ∧ Changes [] [Reg.FW_SLOT p] s (s.confirmSlot p b) := by
  unfold State.confirmSlot
  refine ⟨(State.fwStat_attempts _ _ _ _).trans (State.fwStat_set_same _ _ _ _ (by decide)),
    (State.fwStat_attempts _ _ _ _).trans ((State.fwStat_set_ne _ _ _ hb (by omega) (by omega)).trans ?_),
    State.fld_set_same _ _ _ _ _ (by decide), ?_⟩
  · split
    · exact State.fwStat_set_same _ _ _ _ (by decide)
    · rfl
  · have hm : Reg.FW_SLOT p ∈ [Reg.FW_SLOT p] := List.mem_singleton.mpr rfl
    split
    · exact (((Changes.refl _ _ s).setFwState hm).setFwState hm).set hm
    · exact ((Changes.refl _ _ s).setFwState hm).set hm

theorem State.trialGood_eq (s : State) (p : Nat) : s.trialGood p =
    if (Tab.find s.sys.readyAt p).any (fun t => decide (t + sTicks 60 ≤ s.clk.now)) ∧ s.fwStat p (s.fld (Fd.FW_SLOT_RUN p)) = 2 then
      s.confirmSlot p (s.fld (Fd.FW_SLOT_RUN p)) else s := rfl

theorem fwInstallDone_gone {p h : Nat} (hi : s.sec.install = some (p, h)) (ho : s.object h 4 = none) :
    ∃ t, exec .fwInstallDone s = .next t ∧ t.sec = { s.sec with install := none } ∧
      t.on Fd.SEC_FW_STAT_BUSY = false ∧ t.fld Fd.SEC_FW_STAT_RESULT = 2 ∧ t.on Fd.SEC_EVT_FW_DONE = true ∧
      Changes [.sec, .firn] [Reg.SEC_FW_STAT, Reg.SEC_EVT, Reg.SEC_EVT_SEQ] s t := by
  obtain ⟨hbusy, hsec, hzh, -, hch⟩ := s.endInstall_spec
  have ho' : s.endInstall.object h 4 = none := by
    unfold State.object at ho ⊢
    rw [hzh]
    exact ho
  have hx := exec_fwInstallDone_gone hi ho'
  generalize s.endInstall = u at *
  obtain ⟨h1, h2, h3, h4, -, -, h7⟩ := u.fwDone_spec (r := 2) (by decide)
  exact ⟨_, hx, h4.trans hsec, h3.trans hbusy, h1, h2, (hch.mono (by decide) (by simp)).step h7⟩

theorem fwInstallDone_ends {p h : Nat} {o : StoreObj} (hi : s.sec.install = some (p, h)) (ho : s.object h 4 = some o) (hp : p < 3) :
    ∃ t, exec .fwInstallDone s = .next t ∧
      t.on Fd.SEC_FW_STAT_BUSY = false ∧ t.fld Fd.SEC_FW_STAT_RESULT = s.fwVerify p o.bytes ∧ t.sec.install = none ∧
      t.on Fd.SEC_EVT_FW_DONE = true ∧
      (s.fwVerify p o.bytes = 1 → t.fwStat p (s.fwSpare p) = 1 ∧
        t.rd (if s.fwSpare p = 0 then Reg.FW_VERA p else Reg.FW_VERB p) = BitVec.ofNat 32 (fwVersion o.bytes) ∧
        t.fwImage p (s.fwSpare p) = o.bytes ∧ Tab.find t.zh.store h = none) ∧
      (s.fwVerify p o.bytes ≠ 1 → Changes [.sec, .firn] [Reg.SEC_FW_STAT, Reg.SEC_EVT, Reg.SEC_EVT_SEQ] s t) := by
  obtain ⟨hbusy, hsec, hzh, hfld, hch⟩ := s.endInstall_spec
  have ho' : s.endInstall.object h 4 = some o := by
    unfold State.object at ho ⊢
    rw [hzh]
    exact ho
  have hv : s.endInstall.fwVerify p o.bytes = s.fwVerify p o.bytes := by
    unfold State.fwVerify
    rw [hfld (Fd.FW_SVN_FLOOR p) (by simp only [Fd.FW_SVN_FLOOR, Reg.FW_SVN, Reg.SEC_FW_STAT]; omega)]
  have hfs : ∀ b, (fwState p b).addr ≠ Reg.SEC_FW_STAT := fun b => by
    rw [fwState_addr]
    simp only [Reg.FW_SLOT, Reg.SEC_FW_STAT]
    omega
  have hspare : s.endInstall.fwSpare p = s.fwSpare p := by
    unfold State.fwSpare State.fwSlot State.fwStat
    simp only [hfld _ (hfs _), hfld (Fd.FW_SLOT_RUN p) (hfs 0)]
  by_cases hr : s.fwVerify p o.bytes = 1
  · have hx := exec_fwInstallDone_good hi ho' (hv.trans hr)
    rw [hspare] at hx
    generalize s.endInstall = u at *
    obtain ⟨i1, i2, i3, i4, i5, i6⟩ := u.placeImage_spec (s.fwSpare p) h o.bytes hp
    obtain ⟨-, hev, hnot⟩ := fwVer_addr (b := s.fwSpare p) hp
    generalize u.placeImage p (s.fwSpare p) h o.bytes = v at *
    obtain ⟨h1, h2, h3, h4, -, h6, h7⟩ := v.fwDone_spec (r := 1) (by decide)
    have hslot : Reg.FW_SLOT p ∉ [Reg.SEC_FW_STAT, Reg.SEC_EVT, Reg.SEC_EVT_SEQ] := by
      simp only [Reg.FW_SLOT, Reg.SEC_FW_STAT, Reg.SEC_EVT, Reg.SEC_EVT_SEQ, List.mem_cons, List.not_mem_nil, or_false]
      omega
    refine ⟨_, hx, (h3.trans i6).trans hbusy, h1.trans hr.symm, ?_, h2, fun _ => ⟨?_, (h7.rd hev hnot).trans i2, ?_, ?_⟩, fun hn => absurd hr hn⟩
    · rw [h4, i4, hsec]
    · exact (State.fwStat_of (h7.rd (eventWord_fwSlot hp) hslot) _).trans i1
    · unfold State.fwImage at i3 ⊢
      rw [h4]
      exact i3
    · rw [h6]
      exact i5
  · have hx := exec_fwInstallDone_failed hi ho' (fun he => hr (hv.symm.trans he))
    have hlt : s.fwVerify p o.bytes < 16 := by
      unfold State.fwVerify
      repeat' split
      all_goals decide
    rw [hv] at hx
    generalize s.endInstall = u at *
    obtain ⟨h1, h2, h3, h4, -, -, h7⟩ := u.fwDone_spec hlt
    refine ⟨_, hx, h3.trans hbusy, h1, ?_, h2, fun he => absurd he hr, fun _ => (hch.mono (by decide) (by simp)).step h7⟩
    rw [h4, hsec]

theorem exec_fwInstall (w : Fin 8) (part : Fin 4) (handle : BitVec 16) (s : State) :
    exec (.fwInstall w part handle) s = .next (s.fwRow w 1 part 0 handle.toNat) := rfl

theorem exec_fwActivate (w parts : Fin 8) (s : State) : exec (.fwActivate w parts) s = .next (s.fwRow w 2 0 parts 0) := rfl

theorem exec_fwRevert (w parts : Fin 8) (s : State) : exec (.fwRevert w parts) s = .next (s.fwRow w 4 0 parts 0) := rfl

theorem exec_fwCommit (w parts : Fin 8) (s : State) : exec (.fwCommit w parts) s = .next (s.fwRow w 3 0 parts 0) := rfl

theorem exec_fwTrialGood (p : Fin 3) (s : State) : exec (.fwTrialGood p) s = .next (s.trialGood p) := rfl

theorem State.trialGood_due {p x : Nat} (ht : s.fwStat p (s.fld (Fd.FW_SLOT_RUN p)) = 2) (hx : Tab.find s.sys.readyAt p = some x)
    (hd : x + sTicks 60 ≤ s.clk.now) : s.trialGood p = s.confirmSlot p (s.fld (Fd.FW_SLOT_RUN p)) := by
  rw [s.trialGood_eq, if_pos]
  refine ⟨?_, ht⟩
  rw [hx, Option.any_some, decide_eq_true_iff]
  exact hd

theorem State.trialGood_idle {p : Nat} (h : (Tab.find s.sys.readyAt p).all (fun x => decide (s.clk.now < x + sTicks 60)) = true ∨
    s.fwStat p (s.fld (Fd.FW_SLOT_RUN p)) ≠ 2) : s.trialGood p = s := by
  rw [s.trialGood_eq, if_neg]
  rintro ⟨hr, ht⟩
  obtain hn | hn := h
  · cases hx : Tab.find s.sys.readyAt p with
    | none => simp [hx] at hr
    | some x =>
      rw [hx, Option.all_some, decide_eq_true_iff] at hn
      rw [hx, Option.any_some, decide_eq_true_iff] at hr
      exact absurd hn (Nat.not_lt.mpr hr)
  · exact hn ht

/-- Settles O47, clause by clause: INSTALL and its end, ACTIVATE and REVERT by the fold over the parts named, COMMIT by the floors, and the
end of a trial. -/
theorem firmwareCommandsTakeEffect : Obligations.FirmwareCommandsTakeEffect := by
  unfold Obligations.FirmwareCommandsTakeEffect
  simp only [fwWord_install, fwWord_named]
  refine ⟨fun w part handle s h hb => ⟨_, exec_fwInstall _ _ _ _, fwRow_busy h hb⟩, fun w part handle s h hb => fwInstall_starts h hb,
    fun s hi => ⟨_, exec_fwInstallDone_idle hi, rfl⟩, fun s p h hi ho => fwInstallDone_gone hi ho, fun s p h o hi ho hp => fwInstallDone_ends hi ho hp,
    fun w parts s h hb => ⟨_, exec_fwActivate _ _ _, fwRow_busy h hb⟩, fun w parts s h hb hv => ⟨_, exec_fwActivate _ _ _, fwRow_try (.inl rfl) parts.isLt h hb hv⟩,
    fun w parts s h hb hv => ⟨_, exec_fwActivate _ _ _, fwRow_missing (.inl rfl) parts.isLt h hb hv⟩,
    fun w parts s h hb => ⟨_, exec_fwRevert _ _ _, fwRow_busy h hb⟩, fun w parts s h hb hv => ⟨_, exec_fwRevert _ _ _, fwRow_try (.inr rfl) parts.isLt h hb hv⟩,
    fun w parts s h hb hv => ⟨_, exec_fwRevert _ _ _, fwRow_missing (.inr rfl) parts.isLt h hb hv⟩,
    fun w parts s h hb => ⟨_, exec_fwCommit _ _ _, fwRow_busy h hb⟩, fun w parts s h hb => ⟨_, exec_fwCommit _ _ _, fwRow_commit parts.isLt h hb⟩,
    fun part s x ht hx hd => ?_, fun part s hn => ⟨_, (exec_fwTrialGood _ _).trans (congrArg Host.Outcome.next (State.trialGood_idle hn)), rfl⟩⟩
  exact ⟨_, (exec_fwTrialGood _ _).trans (congrArg Host.Outcome.next (State.trialGood_due ht hx hd)),
    s.confirmSlot_spec part (State.flag_lt s (Fd.FW_SLOT_RUN part) rfl)⟩

end Sys2Proof.Machine
end

section
-- In order: the one text holds more declarations than asynchronous elaboration has threads for.
set_option Elab.async false

/-! PROOFS. The words of the federation and of lock-step (PAI_FED_, PAI_LS_, MEM_). They lie above the event counters of their page, so
`eventWord` counts them with those, but an event moves none of them beside its own. -/

namespace Sys2Proof.Machine

variable {s t u : State} {ps : List Part} {ws : List Nat}

/-- A word above the event counters of page 0xB. -/
def highFed (a : Nat) : Bool := decide (0xB800000 ≤ a) && decide (a < 0xC000000)

theorem highFed_iff {a : Nat} : highFed a = true ↔ 0xB800000 ≤ a ∧ a < 0xC000000 := by
  simp [highFed]

theorem State.occurOnce_rd_fed (s : State) (c o : Nat) (l : List Nat) (x : Bool) {a : Nat} (hc : c < 1024) (ha : highFed a = true) :
    (s.occurOnce c o l x).1.rd a = s.rd a := by
  obtain ⟨h1, h2⟩ := highFed_iff.mp ha
  have n1 : ∀ n ∈ countersFor s c o, a ≠ Reg.CTR_VAL (c / 64) n := by
    intro n hn
    have := mem_countersFor hn
    simp only [Reg.CTR_VAL]
    omega
  have n2 : a ≠ Reg.CODE_CNT c := by simp only [Reg.CODE_CNT]; omega
  have n3 : a ≠ (Fd.CODE_STAT_PEND c).addr := by simp only [Fd.CODE_STAT_PEND, Reg.CODE_STAT]; omega
  have n4 : a ≠ Reg.FRN_CNT_SUPP := by simp only [Reg.FRN_CNT_SUPP]; omega
  unfold State.occurOnce
  dsimp only
  split
  · show ((_ : State).takeToken c).rd a = _
    rw [State.takeToken_rd, State.rd_count_ne _ _ _ n2, State.foldl_count_rd_mem _ _ _ n1]
  · show (((_ : State).bump _).count _).rd a = _
    rw [State.rd_count_ne _ _ _ n4, State.bump, State.rd_set_ne _ _ _ _ n3, State.rd_count_ne _ _ _ n2, State.foldl_count_rd_mem _ _ _ n1]

theorem State.markSuppressed_rd_fed (s : State) {a : Nat} (ha : highFed a = true) : s.markSuppressed.1.rd a = s.rd a := by
  obtain ⟨h1, h2⟩ := highFed_iff.mp ha
  have n1 : a ≠ Fd.FRN_EVT_SUPPRESSED.addr := by simp only [Fd.FRN_EVT_SUPPRESSED, Reg.FRN_EVT]; omega
  have n2 : a ≠ Reg.FRN_EVT_SEQ := by simp only [Reg.FRN_EVT_SEQ]; omega
  unfold State.markSuppressed
  dsimp only
  rw [State.occurOnce_rd_fed _ _ _ _ _ (by decide) ha, State.rd_wr_ne _ _ _ _ n2, State.rd_set_ne _ _ _ _ n1]

/-- An occurrence moves no word of the federation. -/
theorem State.occur_rd_fed (s : State) (c o : Nat) (l : List Nat) (x : Bool) {a : Nat} (hc : c < 1024) (ha : highFed a = true) :
    (s.occur c o l x).rd a = s.rd a := by
  unfold State.occur
  dsimp only
  split
  · split
    · rw [State.markSuppressed_rd_fed _ ha, State.markSuppressed_rd_fed _ ha, State.occurOnce_rd_fed _ _ _ _ _ hc ha]
    · rw [State.markSuppressed_rd_fed _ ha, State.occurOnce_rd_fed _ _ _ _ _ hc ha]
  · exact State.occurOnce_rd_fed _ _ _ _ _ hc ha

/-- An event moves no word of the federation but its own register and its _SEQ. -/
theorem State.raise_rd_fed (s : State) (f : Fld) (o : Nat) (l : List Nat) (x : Bool) {a : Nat} (hc : eventCode f < 1024 := by decide)
    (ha : highFed a = true := by decide) (h1 : a ≠ f.addr := by decide) (h2 : a ≠ f.addr + 4 := by decide) :
    (s.raise f o l x).rd a = s.rd a := by
  unfold State.raise
  dsimp only
  rw [State.occur_rd_fed _ _ _ _ _ hc ha, State.rd_wr_ne _ _ _ _ h2, State.rd_wr_ne _ _ _ _ h1]

theorem State.raise_fld_fed (s : State) (f g : Fld) (o : Nat) (l : List Nat) (x : Bool) (hc : eventCode f < 1024 := by decide)
    (ha : highFed g.addr = true := by decide) (h1 : g.addr ≠ f.addr := by decide) (h2 : g.addr ≠ f.addr + 4 := by decide) :
    (s.raise f o l x).fld g = s.fld g := State.fld_congr (State.raise_rd_fed _ _ _ _ _ hc ha h1 h2)

/-- An event of the federation shows in its own bit. -/
theorem State.raise_on_fed (s : State) (f : Fld) (o : Nat) (l : List Nat) (x : Bool) (hc : eventCode f < 1024 := by decide)
    (ha : highFed f.addr = true := by decide) (hw : f.width = 1 := by rfl) (hl : f.lo < 32 := by decide) : (s.raise f o l x).on f = true := by
  unfold State.raise State.on State.fld
  dsimp only
  rw [State.occur_rd_fed _ _ _ _ _ hc ha, State.rd_wr_ne _ _ _ _ (by omega), State.rd_wr_self, hw, fieldOf_w1cAfter_set _ _ hl]
  rfl

/-! ### Craori messages -/

/-- What an operation that writes no register may have moved. -/
theorem Changes.kept {F : Nat} (h : Changes ps ws s t) (hk : Keeps F t u)
    (hp : ∀ p, p ∉ Part.regs :: ps → F ||| p.bit ≠ F := by intro p; cases p <;> decide) (hF : F ||| 33554432 ≠ F := by decide) : Changes ps ws s u :=
  h.trans (hk.changes hp (fun a _ _ => by rw [State.rd, State.rd, hk.regs.resolve_left hF]))

theorem Changes.cra {kind : OutKind} {ty level : Nat} {paths fields : List Nat} (h : Changes ps ws s t)
    (hs : Part.sec ∈ ps := by repeat constructor) (ho : Part.out ∈ ps := by repeat constructor) :
    Changes ps ws s (t.cra kind ty level paths fields) := by
  refine h.trans (((Changes.refl [.sec, .out] [] t).kept (State.cra_keeps (F := 8388640) rfl (Keeps.refl _ t))).mono ?_ (by simp))
  intro p hp
  simp only [List.mem_cons, List.not_mem_nil, or_false] at hp
  obtain rfl | rfl := hp
  · exact hs
  · exact ho

@[simp] theorem State.cra_rd (s : State) (kind : OutKind) (ty level : Nat) (paths fields : List Nat) (a : Nat) :
    (s.cra kind ty level paths fields).rd a = s.rd a := by
  have hk := State.cra_keeps (x1 := kind) (x2 := ty) (x3 := level) (x4 := paths) (x5 := fields) (F := 8388640) rfl (Keeps.refl _ s)
  rw [State.rd, State.rd, hk.regs.resolve_left (by decide)]

@[simp] theorem State.cra_fld (s : State) (kind : OutKind) (ty level : Nat) (paths fields : List Nat) (f : Fld) :
    (s.cra kind ty level paths fields).fld f = s.fld f := State.fld_congr (State.cra_rd _ _ _ _ _ _ _)

@[simp] theorem State.cra_pair (s : State) (kind : OutKind) (ty level : Nat) (paths fields : List Nat) :
    (s.cra kind ty level paths fields).pair = s.pair :=
  (State.cra_keeps (F := 8388640) rfl (Keeps.refl _ s)).pair.resolve_left (by decide)

@[simp] theorem State.cra_fed (s : State) (kind : OutKind) (ty level : Nat) (paths fields : List Nat) :
    (s.cra kind ty level paths fields).fed = s.fed :=
  (State.cra_keeps (F := 8388640) rfl (Keeps.refl _ s)).fed.resolve_left (by decide)

/-! ### Pair barriers -/

theorem State.putBar_self (s : State) (x : PairBar) : (s.putBar x).pairBar x.msg.id.val = some x := by
  show ((s.pair.bars.filter (fun y => y.msg.id.val != x.msg.id.val)) ++ [x]).find? (fun y => y.msg.id.val == x.msg.id.val) = some x
  rw [List.find?_append, List.find?_eq_none.mpr]
  · simp
  · intro y hy
    simpa using (List.mem_filter.mp hy).2

theorem State.proposePair_spec (s : State) (b : BarrierMsg) : (s.proposePair b).pairBar b.id.val = some ⟨b, none⟩ ∧
    Changes [.pair, .sec, .out] [] s (s.proposePair b) ∧ (∀ a, (s.proposePair b).rd a = s.rd a) := by
  refine ⟨?_, (Changes.refl _ _ s).kept (State.proposePair_keeps (F := 8519712) rfl (Keeps.refl _ s)), fun a => State.cra_rd _ _ _ _ _ _ _⟩
  show (State.cra _ _ _ _ _ _).pair.bars.find? _ = _
  rw [State.cra_pair]
  exact s.putBar_self ⟨b, none⟩

end Sys2Proof.Machine
end

section
-- In order: the one text holds more declarations than asynchronous elaboration has threads for.
set_option Elab.async false

/-! PROOFS. Lock-step (R497 to R500): entry, records, digests, and what ends it. -/

namespace Sys2Proof.Machine

variable {s t u : State} {ps : List Part} {ws : List Nat}

/-! ### The end of lock-step -/

/-- What the end of lock-step leaves. -/
structure LsEnded (r : Nat) (s t : State) : Prop where
  state : t.fld Fd.PAI_LS_STAT_STATE = 3
  result : t.fld Fd.PAI_LS_STAT_RESULT = r
  lag : t.fld Fd.PAI_LS_STAT_LAG = 0
  lst : t.lst = ⟨none, false, [], 0, 0, [], 0, []⟩
  event : t.on Fd.PAI_FED_EVT_LS_END = true
  frames : t.rd Reg.PAI_CNT_LSFRM = s.rd Reg.PAI_CNT_LSFRM
  changes : Changes [.lst, .firn] [Reg.PAI_LS_STAT, Reg.PAI_FED_EVT, Reg.PAI_FED_EVT_SEQ] s t

theorem State.lsEnd_spec (s : State) {r : Nat} (hr : r < 16) (args : List Nat) : LsEnded r s (s.lsEnd r args) := by
  unfold State.lsEnd
  have hc : Changes [.lst, .firn] [Reg.PAI_LS_STAT, Reg.PAI_FED_EVT, Reg.PAI_FED_EVT_SEQ] s
      (((s.set Fd.PAI_LS_STAT_STATE 3).set Fd.PAI_LS_STAT_RESULT r).set Fd.PAI_LS_STAT_LAG 0) := (Changes.refl _ _ s).set.set.set
  refine ⟨(State.raise_fld_fed _ _ _ _ _ _).trans ?_, (State.raise_fld_fed _ _ _ _ _ _).trans ?_, (State.raise_fld_fed _ _ _ _ _ _).trans ?_, ?_,
    State.raise_on_fed _ _ _ _ _, (State.raise_rd_fed _ _ _ _ _).trans ?_, hc.upd_lst.raise⟩
  · rw [State.fld_mk]
    exact (State.fld_set_beside _ _ _ _ _ _ _ (by decide)).trans
      ((State.fld_set_beside _ _ _ _ _ _ _ (by decide)).trans (State.fld_set_same _ _ _ _ _ (by decide)))
  · rw [State.fld_mk]
    exact (State.fld_set_beside _ _ _ _ _ _ _ (by decide)).trans
      ((State.fld_set_same _ _ _ _ _ (by decide)).trans (Nat.mod_eq_of_lt hr))
  · rw [State.fld_mk]
    exact State.fld_set_same _ _ _ _ _ (by decide)
  · rw [State.raise_lst]
  · rw [State.rd_mk]
    exact (State.rd_set_ne _ _ _ _ (by decide)).trans ((State.rd_set_ne _ _ _ _ (by decide)).trans (State.rd_set_ne _ _ _ _ (by decide)))

/-! ### Entry -/

theorem State.lsCheck_lt (s : State) (p : LsPartner) : s.lsCheck p < 16 := by
  unfold State.lsCheck
  repeat' split
  all_goals decide

/-- What the entry command sees is as it was when the write came. -/
theorem State.afterChecks_lsCheck (s : State) (w a : Nat) (v : Word) (p : LsPartner) : (s.afterChecks w a v).lsCheck p = s.lsCheck p := by
  obtain ⟨z, e⟩ := s.afterChecks_eq w a v
  rw [e]
  rfl

theorem exec_lsEnter {w : Fin 8} {p : LsPartner} (h : s.WriteTaken w Reg.PAI_LS_CTRL 1 true) : exec (.lockstepEnterRequest w p) s =
    .next (((s.afterChecks w Reg.PAI_LS_CTRL 1).lsEnter p).send (.wrote w Reg.PAI_LS_CTRL 0 0 0)) :=
  congrArg Host.Outcome.next (State.writeRow_taken _ h)

theorem exec_lsLeave {w : Fin 8} (h : s.WriteTaken w Reg.PAI_LS_CTRL 2 true) : exec (.lockstepLeave w) s =
    .next ((s.afterChecks w Reg.PAI_LS_CTRL 2).lsLeave.send (.wrote w Reg.PAI_LS_CTRL 0 0 0)) :=
  congrArg Host.Outcome.next (State.writeRow_taken _ h)

theorem State.lsEnter_again {p : LsPartner} (h : s.lsOn = true ∨ s.pairBar barLockstep ≠ none) : s.lsEnter p = s :=
  if_pos (h.imp_right Option.isSome_iff_ne_none.mpr)

theorem State.lsEnter_refused {p : LsPartner} (ho : s.lsOn = false) (hb : s.pairBar barLockstep = none) (hr : s.lsCheck p ≠ 1) :
    s.lsEnter p = s.set Fd.PAI_LS_STAT_RESULT (s.lsCheck p) :=
  (if_neg (by simp [ho, hb])).trans (if_neg hr)

theorem State.lsEnter_admitted {p : LsPartner} (ho : s.lsOn = false) (hb : s.pairBar barLockstep = none) (hr : s.lsCheck p = 1) :
    s.lsEnter p = (s.set Fd.PAI_LS_STAT_RESULT (s.lsCheck p)).proposePair
      { id := 2, action := 3, arg := 0, at_ := (s.set Fd.PAI_LS_STAT_RESULT (s.lsCheck p)).boundaryAhead 2000 } :=
  (if_neg (by simp [ho, hb])).trans (if_pos hr)

/-- An entry that is not admitted reports why, and no barrier is proposed. -/
theorem lsEnter_refused {w : Fin 8} {p : LsPartner} (h : s.WriteTaken w Reg.PAI_LS_CTRL 1 true) (ho : s.lsOn = false)
    (hb : s.pairBar barLockstep = none) (hr : s.lsCheck p ≠ 1) : ∃ t, exec (.lockstepEnterRequest w p) s = .next t ∧
      WroteOk t w Reg.PAI_LS_CTRL ∧ t.fld Fd.PAI_LS_STAT_RESULT = s.lsCheck p ∧ t.pairBar barLockstep = none ∧
      Changes [.zh, .out] [Reg.PAI_LS_STAT] s t := by
  have hx := exec_lsEnter (p := p) h
  have hc : Changes [.zh, .out] [Reg.PAI_LS_STAT] s (s.afterChecks w Reg.PAI_LS_CTRL 1) := (Changes.refl _ _ s).afterChecks
  have hcheck := s.afterChecks_lsCheck w Reg.PAI_LS_CTRL 1 p
  have hon : (s.afterChecks w Reg.PAI_LS_CTRL 1).lsOn = false := by
    simpa only [State.lsOn, State.afterChecks_fld] using ho
  have hbar : (s.afterChecks w Reg.PAI_LS_CTRL 1).pairBar barLockstep = none := by
    simpa only [State.pairBar, State.afterChecks_pair] using hb
  generalize s.afterChecks w Reg.PAI_LS_CTRL 1 = u at *
  rw [State.lsEnter_refused hon hbar (hcheck ▸ hr), hcheck] at hx
  refine ⟨_, hx, WroteOk.send _ _ _, ?_, ?_, hc.set.send⟩
  · exact (State.send_fld _ _ _).trans ((State.fld_set_same _ _ _ _ _ (by decide)).trans (Nat.mod_eq_of_lt (s.lsCheck_lt p)))
  · simpa only [State.pairBar, State.send_pair, State.set_pair] using hbar

theorem lsEnter_judged {w : Fin 8} {p : LsPartner} (h : s.WriteTaken w Reg.PAI_LS_CTRL 1 true) (ho : s.lsOn = false)
    (hb : s.pairBar barLockstep = none) : ∃ t, exec (.lockstepEnterRequest w p) s = .next t ∧
      WroteOk t w Reg.PAI_LS_CTRL ∧ t.fld Fd.PAI_LS_STAT_RESULT = s.lsCheck p ∧
      (t.pairBar barLockstep).isSome = decide (s.lsCheck p = 1) ∧
      (s.lsCheck p = 1 → (t.pairBar barLockstep).map (fun x => (x.msg.action.val, x.msg.at_)) = some (actLockstep, s.boundaryAhead 2000)) ∧
      Changes [.zh, .pair, .sec, .out] [Reg.PAI_LS_STAT] s t := by
  by_cases hr : s.lsCheck p = 1
  · have hx := exec_lsEnter (p := p) h
    have hc : Changes [.zh, .pair, .sec, .out] [Reg.PAI_LS_STAT] s (s.afterChecks w Reg.PAI_LS_CTRL 1) := (Changes.refl _ _ s).afterChecks
    have hcheck := s.afterChecks_lsCheck w Reg.PAI_LS_CTRL 1 p
    have hon : (s.afterChecks w Reg.PAI_LS_CTRL 1).lsOn = false := by
      simpa only [State.lsOn, State.afterChecks_fld] using ho
    have hbar : (s.afterChecks w Reg.PAI_LS_CTRL 1).pairBar barLockstep = none := by
      simpa only [State.pairBar, State.afterChecks_pair] using hb
    have hat : ∀ v, ((s.afterChecks w Reg.PAI_LS_CTRL 1).set Fd.PAI_LS_STAT_RESULT v).boundaryAhead 2000 = s.boundaryAhead 2000 := fun v => by
      rw [State.boundaryAhead, State.set_clk, State.afterChecks_clk, State.boundaryAhead]
    generalize s.afterChecks w Reg.PAI_LS_CTRL 1 = u at *
    rw [State.lsEnter_admitted hon hbar (hcheck.trans hr), hcheck, hat] at hx
    obtain ⟨hbar', hch, hrd⟩ := (u.set Fd.PAI_LS_STAT_RESULT (s.lsCheck p)).proposePair_spec { id := 2, action := 3, arg := 0, at_ := s.boundaryAhead 2000 }
    have hres : (u.set Fd.PAI_LS_STAT_RESULT (s.lsCheck p)).fld Fd.PAI_LS_STAT_RESULT = s.lsCheck p :=
      (State.fld_set_same _ _ _ _ _ (by decide)).trans (Nat.mod_eq_of_lt (s.lsCheck_lt p))
    have hcu : Changes [.zh, .pair, .sec, .out] [Reg.PAI_LS_STAT] s (u.set Fd.PAI_LS_STAT_RESULT (s.lsCheck p)) := hc.set
    generalize u.set Fd.PAI_LS_STAT_RESULT (s.lsCheck p) = v at *
    generalize v.proposePair { id := 2, action := 3, arg := 0, at_ := s.boundaryAhead 2000 } = x at *
    have hsend : ∀ o, (x.send o).pairBar barLockstep = some ⟨{ id := 2, action := 3, arg := 0, at_ := s.boundaryAhead 2000 }, none⟩ := fun o => by
      rw [State.pairBar, State.send_pair]
      exact hbar'
    refine ⟨_, hx, WroteOk.send _ _ _, (State.send_fld _ _ _).trans ((State.fld_congr (hrd _)).trans hres), ?_, fun _ => ?_, (hcu.step hch).send⟩
    · rw [hsend, hr]
      rfl
    · rw [hsend]
      rfl
  · obtain ⟨t, hx, hw, hres, hbar, hch⟩ := lsEnter_refused (p := p) h ho hb hr
    refine ⟨t, hx, hw, hres, ?_, fun he => absurd he hr, hch.mono (by decide) (fun _ h => h)⟩
    rw [hbar, decide_eq_false hr]
    rfl

theorem State.lsCheck_slots {p : LsPartner} (hw : s.partnerWarm = true) (hs : p.sameSlots = false) : s.lsCheck p = 3 := by
  unfold State.lsCheck
  rw [if_neg (by simp [hw]), if_pos (by simp [hs])]

theorem lsEnter_again {w : Fin 8} {p : LsPartner} (h : s.WriteTaken w Reg.PAI_LS_CTRL 1 true) (ho : s.lsOn = true ∨ s.pairBar barLockstep ≠ none) :
    ∃ t, exec (.lockstepEnterRequest w p) s = .next t ∧ WroteOk t w Reg.PAI_LS_CTRL ∧ Changes [.zh, .out] [] s t := by
  have hx := exec_lsEnter (p := p) h
  rw [State.lsEnter_again (by simpa only [State.lsOn, State.pairBar, State.afterChecks_fld, State.afterChecks_pair] using ho)] at hx
  exact ⟨_, hx, WroteOk.send _ _ _, ((Changes.refl _ _ s).afterChecks).send⟩

/-! ### LEAVE -/

theorem lsLeave_idle {w : Fin 8} (h : s.WriteTaken w Reg.PAI_LS_CTRL 2 true) (ho : s.lsOn = false) :
    ∃ t, exec (.lockstepLeave w) s = .next t ∧ WroteOk t w Reg.PAI_LS_CTRL ∧ Changes [.zh, .out] [] s t := by
  have hx := exec_lsLeave h
  have hon : (s.afterChecks w Reg.PAI_LS_CTRL 2).lsOn = false := by
    simpa only [State.lsOn, State.afterChecks_fld] using ho
  rw [State.lsLeave, if_neg (Bool.eq_false_iff.mp hon)] at hx
  exact ⟨_, hx, WroteOk.send _ _ _, ((Changes.refl _ _ s).afterChecks).send⟩

theorem lsLeave_ends {w : Fin 8} (h : s.WriteTaken w Reg.PAI_LS_CTRL 2 true) (ho : s.lsOn = true) :
    ∃ t, exec (.lockstepLeave w) s = .next t ∧ WroteOk t w Reg.PAI_LS_CTRL ∧
      t.fld Fd.PAI_LS_STAT_STATE = 3 ∧ t.fld Fd.PAI_LS_STAT_RESULT = 10 ∧ t.fld Fd.PAI_LS_STAT_LAG = 0 ∧
      t.lst = ⟨none, false, [], 0, 0, [], 0, []⟩ ∧ t.on Fd.PAI_FED_EVT_LS_END = true ∧
      Changes [.zh, .out, .lst, .firn] [Reg.PAI_LS_STAT, Reg.PAI_FED_EVT, Reg.PAI_FED_EVT_SEQ] s t := by
  have hx := exec_lsLeave h
  have hon : (s.afterChecks w Reg.PAI_LS_CTRL 2).lsOn = true := by
    simpa only [State.lsOn, State.afterChecks_fld] using ho
  have hc : Changes [.zh, .out, .lst, .firn] [Reg.PAI_LS_STAT, Reg.PAI_FED_EVT, Reg.PAI_FED_EVT_SEQ] s (s.afterChecks w Reg.PAI_LS_CTRL 2) :=
    (Changes.refl _ _ s).afterChecks
  generalize s.afterChecks w Reg.PAI_LS_CTRL 2 = u at *
  rw [State.lsLeave, if_pos hon] at hx
  obtain ⟨h1, h2, h3, h4, h5, -, h7⟩ := u.lsEnd_spec (r := 10) (by decide) []
  generalize u.lsEnd 10 [] = v at *
  exact ⟨_, hx, WroteOk.send _ _ _, (State.send_fld _ _ _).trans h1, (State.send_fld _ _ _).trans h2, (State.send_fld _ _ _).trans h3,
    (State.send_lst _ _).trans h4, (State.send_on _ _ _).trans h5, (hc.step h7).send⟩

/-! ### What a received frame leaves of the words of the federation -/

theorem State.countRx_rd_fed (s : State) {p : Nat} (hp : p < 16) {a : Nat} (ha : highFed a = true) : (s.countRx p).rd a = s.rd a := by
  refine State.rd_count_ne _ _ _ ?_
  have := highFed_iff.mp ha
  simp only [Reg.PORT_CNT_RX]
  omega

theorem State.countRx_lsOn (s : State) {p : Nat} (hp : p < 16) : (s.countRx p).lsOn = s.lsOn := by
  unfold State.lsOn
  rw [State.fld_congr (f := Fd.PAI_LS_STAT_STATE) (s.countRx_rd_fed hp (by decide))]

theorem State.countRx_lst (s : State) (p : Nat) : (s.countRx p).lst = s.lst := State.count_lst _ _

theorem State.takeCra_closed {c : Came} (h : s.portTakes Fd.PORT_CFG_CRAORI c.port c.src c.row = false) (go : State → State) : s.takeCra c go = s :=
  if_pos (by simp [h])

/-! ### Input records -/

/-- The standby takes the record of a frame and runs what it can. -/
def State.takeRecord (s : State) (f : LogFrame) : State :=
  let s := { s with lst := { s.lst with recs := s.lst.recs ++ [f], high := max s.lst.high f.frame } }
  let s := s.lsAdvance s.lst.recs.length
  let lag := s.lst.high + 1 - s.lst.next
  let s := if s.lsOn then s.set Fd.PAI_LS_STAT_LAG (min lag 0xFFFF) else s
  if s.lsOn ∧ 2000 < lag then s.lsEnd 8 [] else s

theorem exec_inputRecord {c : Came} {f : LogFrame} (h : s.TakesCra c) : exec (.lockstepInputRecord ⟨c, f⟩) s =
    .next (if (s.countRx c.port).lsOn ∧ ¬ (s.countRx c.port).lst.sends ∧ (s.countRx c.port).lst.next ≤ f.frame ∧
      (s.countRx c.port).lst.recs.all (fun x => x.frame != f.frame) then (s.countRx c.port).takeRecord f else s.countRx c.port) :=
  congrArg Host.Outcome.next (State.takeCra_taken h _)

theorem exec_inputRecord_closed {c : Came} {f : LogFrame} (h : s.portTakes Fd.PORT_CFG_CRAORI c.port c.src c.row = false) :
    exec (.lockstepInputRecord ⟨c, f⟩) s = .next s := congrArg Host.Outcome.next (State.takeCra_closed h _)

theorem State.lsAdvance_unready (s : State) (n : Nat) (h : s.on Fd.TBL_STAT_READY = false) : s.lsAdvance n = s := by
  cases n with
  | zero => rfl
  | succ n =>
    rw [State.lsAdvance, if_pos (by simp [h])]

/-- The record noted. -/
def State.noteRecord (s : State) (f : LogFrame) : State := { s with lst := { s.lst with recs := s.lst.recs ++ [f], high := max s.lst.high f.frame } }

theorem State.takeRecord_unready (s : State) (f : LogFrame) (ho : s.lsOn = true) (h : s.on Fd.TBL_STAT_READY = false) :
    s.takeRecord f =
      if 2000 < max s.lst.high f.frame + 1 - s.lst.next then
        ((s.noteRecord f).set Fd.PAI_LS_STAT_LAG (min (max s.lst.high f.frame + 1 - s.lst.next) 0xFFFF)).lsEnd 8 []
      else (s.noteRecord f).set Fd.PAI_LS_STAT_LAG (min (max s.lst.high f.frame + 1 - s.lst.next) 0xFFFF) := by
  have hl : (s.noteRecord f).lst = { s.lst with recs := s.lst.recs ++ [f], high := max s.lst.high f.frame } := rfl
  have ho' : (s.noteRecord f).lsOn = true := ho
  have hr : (s.noteRecord f).on Fd.TBL_STAT_READY = false := h
  have he : s.takeRecord f = (let s := (s.noteRecord f).lsAdvance (s.noteRecord f).lst.recs.length
    let lag := s.lst.high + 1 - s.lst.next
    let s := if s.lsOn then s.set Fd.PAI_LS_STAT_LAG (min lag 0xFFFF) else s
    if s.lsOn ∧ 2000 < lag then s.lsEnd 8 [] else s) := rfl
  have hset : ∀ v, ((s.noteRecord f).set Fd.PAI_LS_STAT_LAG v).lsOn = true := fun v => by
    have hf : ((s.noteRecord f).set Fd.PAI_LS_STAT_LAG v).fld Fd.PAI_LS_STAT_STATE = (s.noteRecord f).fld Fd.PAI_LS_STAT_STATE :=
      State.fld_set_beside _ _ _ _ _ _ _ (by decide)
    unfold State.lsOn at ho' ⊢
    rw [hf]
    exact ho'
  rw [he, State.lsAdvance_unready _ _ hr]
  simp only [ho', hset, true_and, if_true]
  rw [hl]

theorem Changes.noteRecord {f : LogFrame} (h : Changes ps ws s t) (hp : Part.lst ∈ ps := by repeat constructor) : Changes ps ws s (t.noteRecord f) :=
  h.upd_lst (hp := hp)

theorem State.countRx_ready (s : State) (p : Nat) : (s.countRx p).on Fd.TBL_STAT_READY = s.on Fd.TBL_STAT_READY :=
  congrArg (· == 1) (State.fld_congr (s.countRx_rd_mod p (by decide)))

/-- A record that is new to the standby while its tables load is noted with its lag. -/
theorem inputRecord_noted {c : Came} {f : LogFrame} (h : s.TakesCra c) (ho : s.lsOn = true) (hs : s.lst.sends = false)
    (hn : s.lst.next ≤ f.frame) (hr : s.lst.recs.all (fun x => x.frame != f.frame) = true) (ht : s.on Fd.TBL_STAT_READY = false)
    (hl : max s.lst.high f.frame + 1 ≤ s.lst.next + 2000) : ∃ t, exec (.lockstepInputRecord ⟨c, f⟩) s = .next t ∧
      t.lst = { s.lst with recs := s.lst.recs ++ [f], high := max s.lst.high f.frame } ∧
      t.fld Fd.PAI_LS_STAT_LAG = max s.lst.high f.frame + 1 - s.lst.next ∧
      Changes [.lst] [Reg.PAI_LS_STAT, Reg.PORT_CNT_RX c.port] s t := by
  have hx := exec_inputRecord (f := f) h
  have hc : Changes [.lst] [Reg.PAI_LS_STAT, Reg.PORT_CNT_RX c.port] s (s.countRx c.port) := (Changes.refl _ _ s).countRx
  have hlst := s.countRx_lst c.port
  have hon := (s.countRx_lsOn c.port.isLt).trans ho
  have hrdy := (s.countRx_ready c.port).trans ht
  generalize s.countRx c.port = u at *
  rw [hlst, if_pos ⟨hon, by simp [hs], hn, hr⟩, State.takeRecord_unready _ _ hon hrdy, hlst, if_neg (by omega)] at hx
  refine ⟨_, hx, ?_, ?_, hc.noteRecord.set⟩
  · rw [State.set_lst, State.noteRecord, hlst]
  · refine (State.fld_set_same _ _ _ _ _ (by decide)).trans ?_
    rw [Nat.min_eq_left (by omega)]
    exact Nat.mod_eq_of_lt (by omega)

theorem inputRecord_ends {c : Came} {f : LogFrame} (h : s.TakesCra c) (ho : s.lsOn = true) (hs : s.lst.sends = false)
    (hn : s.lst.next ≤ f.frame) (hr : s.lst.recs.all (fun x => x.frame != f.frame) = true) (ht : s.on Fd.TBL_STAT_READY = false)
    (hl : s.lst.next + 2000 < max s.lst.high f.frame + 1) : ∃ t, exec (.lockstepInputRecord ⟨c, f⟩) s = .next t ∧
      t.fld Fd.PAI_LS_STAT_STATE = 3 ∧ t.fld Fd.PAI_LS_STAT_RESULT = 8 ∧ t.on Fd.PAI_FED_EVT_LS_END = true ∧
      Changes [.lst, .firn] [Reg.PAI_LS_STAT, Reg.PAI_FED_EVT, Reg.PAI_FED_EVT_SEQ, Reg.PORT_CNT_RX c.port] s t := by
  have hx := exec_inputRecord (f := f) h
  have hc : Changes [.lst, .firn] [Reg.PAI_LS_STAT, Reg.PAI_FED_EVT, Reg.PAI_FED_EVT_SEQ, Reg.PORT_CNT_RX c.port] s (s.countRx c.port) :=
    (Changes.refl _ _ s).countRx
  have hlst := s.countRx_lst c.port
  have hon := (s.countRx_lsOn c.port.isLt).trans ho
  have hrdy := (s.countRx_ready c.port).trans ht
  generalize s.countRx c.port = u at *
  rw [hlst, if_pos ⟨hon, by simp [hs], hn, hr⟩, State.takeRecord_unready _ _ hon hrdy, hlst, if_pos (by omega)] at hx
  have hcu : Changes [.lst, .firn] [Reg.PAI_LS_STAT, Reg.PAI_FED_EVT, Reg.PAI_FED_EVT_SEQ, Reg.PORT_CNT_RX c.port] s
      ((u.noteRecord f).set Fd.PAI_LS_STAT_LAG (min (max s.lst.high f.frame + 1 - s.lst.next) 0xFFFF)) := hc.noteRecord.set
  generalize (u.noteRecord f).set Fd.PAI_LS_STAT_LAG (min (max s.lst.high f.frame + 1 - s.lst.next) 0xFFFF) = v at *
  obtain ⟨h1, h2, -, -, h5, -, h7⟩ := v.lsEnd_spec (r := 8) (by decide) []
  exact ⟨_, hx, h1, h2, h5, hcu.step h7⟩

theorem inputRecord_idle {c : Came} {f : LogFrame} (h : s.TakesCra c) (hn : s.lsOn = false ∨ s.lst.sends = true ∨ f.frame < s.lst.next ∨
    s.lst.recs.any (fun x => x.frame == f.frame) = true) :
    ∃ t, exec (.lockstepInputRecord ⟨c, f⟩) s = .next t ∧ Changes [] [Reg.PORT_CNT_RX c.port] s t := by
  have hx := exec_inputRecord (f := f) h
  rw [s.countRx_lsOn c.port.isLt, s.countRx_lst, if_neg] at hx
  · exact ⟨_, hx, (Changes.refl _ _ s).countRx⟩
  · rintro ⟨ho, hs, hf, hr⟩
    obtain hn | hn | hn | hn := hn
    · exact absurd (ho.symm.trans hn) (by decide)
    · exact hs hn
    · omega
    · obtain ⟨x, hx, he⟩ := List.any_eq_true.mp hn
      simpa [beq_iff_eq.mp he] using List.all_eq_true.mp hr x hx

/-! ### Digests -/

theorem exec_lsDigest {c : Came} {frame : Nat} {d : List Byte} (h : s.TakesCra c) : exec (.lockstepDigest ⟨c, frame⟩ d) s =
    .next (if (s.countRx c.port).lsOn ∧ (s.countRx c.port).lst.start.any (fun n => decide (n ≤ frame)) then
      if (s.countRx c.port).lst.sends ∨ frame < (s.countRx c.port).lst.next then
        match Tab.find (s.countRx c.port).firn.digests frame with
        | some e => (s.countRx c.port).lsCompare frame (digestD e) d
        | none => s.countRx c.port
      else { s.countRx c.port with lst := { (s.countRx c.port).lst with digs := (s.countRx c.port).lst.digs.put frame d } }
    else s.countRx c.port) := congrArg Host.Outcome.next (State.takeCra_taken h _)

theorem exec_lsDigest_closed {c : Came} {frame : Nat} {d : List Byte} (h : s.portTakes Fd.PORT_CFG_CRAORI c.port c.src c.row = false) :
    exec (.lockstepDigest ⟨c, frame⟩ d) s = .next s := congrArg Host.Outcome.next (State.takeCra_closed h _)

theorem State.countRx_firn (s : State) (p : Nat) : (s.countRx p).firn = s.firn := State.count_firn _ _

/-- Lock-step is on and the frame is one of it. -/
theorem any_le_of_start {o : Option Nat} {n frame : Nat} (hs : o = some n) (hn : n ≤ frame) : o.any (fun n => decide (n ≤ frame)) = true := by
  rw [hs, Option.any_some, decide_eq_true_iff]
  exact hn

theorem lsDigest_waits {c : Came} {frame n : Nat} {d : List Byte} (h : s.TakesCra c) (ho : s.lsOn = true) (hs : s.lst.start = some n)
    (hn : n ≤ frame) (hse : s.lst.sends = false) (hf : s.lst.next ≤ frame) : ∃ t, exec (.lockstepDigest ⟨c, frame⟩ d) s = .next t ∧
      t.lst = { s.lst with digs := s.lst.digs.put frame d } ∧ Changes [.lst] [Reg.PORT_CNT_RX c.port] s t := by
  have hx := exec_lsDigest (frame := frame) (d := d) h
  have hc : Changes [.lst] [Reg.PORT_CNT_RX c.port] s (s.countRx c.port) := (Changes.refl _ _ s).countRx
  have hlst := s.countRx_lst c.port
  have hon := (s.countRx_lsOn c.port.isLt).trans ho
  generalize s.countRx c.port = u at *
  rw [hlst, if_pos ⟨hon, any_le_of_start hs hn⟩, if_neg (by simp [hse, hf])] at hx
  exact ⟨_, hx, rfl, hc.upd_lst⟩

theorem lsDigest_idle {c : Came} {frame : Nat} {d : List Byte} (h : s.TakesCra c) (hn : s.lsOn = false ∨
    s.lst.start.any (fun n => decide (n ≤ frame)) = false ∨ (s.lst.sends = true ∨ frame < s.lst.next) ∧ Tab.find s.firn.digests frame = none) :
    ∃ t, exec (.lockstepDigest ⟨c, frame⟩ d) s = .next t ∧ Changes [] [Reg.PORT_CNT_RX c.port] s t := by
  have hx := exec_lsDigest (frame := frame) (d := d) h
  have hc : Changes [] [Reg.PORT_CNT_RX c.port] s (s.countRx c.port) := (Changes.refl _ _ s).countRx
  have hon := s.countRx_lsOn c.port.isLt
  have hlst := s.countRx_lst c.port
  have hfirn := s.countRx_firn c.port
  generalize s.countRx c.port = u at *
  rw [hlst, hon, hfirn] at hx
  refine ⟨u, hx.trans (congrArg Host.Outcome.next ?_), hc⟩
  obtain hn | hn | ⟨hb, hn⟩ := hn
  · exact if_neg (fun hp => absurd (hp.1.symm.trans hn) (by decide))
  · exact if_neg (fun hp => absurd (hp.2.symm.trans hn) (by decide))
  · rw [if_pos hb, hn]
    exact ite_self _

/-- The digest is the own one: the match counts, and the 100th ends ENTERING. -/
theorem State.lsCompare_same (s : State) (frame : Nat) (d : List Byte) :
    (s.lsCompare frame d d).lst = { s.lst with matched := s.lst.matched + 1 } ∧
    (s.lsCompare frame d d).rd Reg.PAI_CNT_LSFRM = satCount (s.rd Reg.PAI_CNT_LSFRM) 1 ∧
    ((s.lsCompare frame d d).fld Fd.PAI_LS_STAT_STATE = if 100 ≤ s.lst.matched + 1 then 2 else s.fld Fd.PAI_LS_STAT_STATE) ∧
    ((s.lsCompare frame d d).fld Fd.PAI_LS_STAT_RESULT = if 100 ≤ s.lst.matched + 1 then 1 else s.fld Fd.PAI_LS_STAT_RESULT) ∧
    Changes [.lst] [Reg.PAI_LS_STAT, Reg.PAI_CNT_LSFRM] s (s.lsCompare frame d d) := by
  have hcnt : (s.count Reg.PAI_CNT_LSFRM).rd Reg.PAI_CNT_LSFRM = satCount (s.rd Reg.PAI_CNT_LSFRM) 1 := State.rd_count_same _ _
  have hfld : ∀ lo w, (s.count Reg.PAI_CNT_LSFRM).fld ⟨Reg.PAI_LS_STAT, lo, w⟩ = s.fld ⟨Reg.PAI_LS_STAT, lo, w⟩ := fun lo w =>
    State.fld_congr (State.rd_count_ne _ _ _ (show Reg.PAI_LS_STAT ≠ Reg.PAI_CNT_LSFRM by decide))
  have hlst : (s.count Reg.PAI_CNT_LSFRM).lst = s.lst := State.count_lst _ _
  have hc : Changes [.lst] [Reg.PAI_LS_STAT, Reg.PAI_CNT_LSFRM] s (s.count Reg.PAI_CNT_LSFRM) := (Changes.refl _ _ s).count
  unfold State.lsCompare
  generalize s.count Reg.PAI_CNT_LSFRM = u at *
  simp only [if_true, hlst]
  by_cases hm : 100 ≤ s.lst.matched + 1
  · simp only [if_pos hm]
    refine ⟨by rw [State.set_lst, State.set_lst], ?_, ?_, ?_, (hc.upd_lst).set.set⟩
    · exact (State.rd_set_ne _ _ _ _ (by decide)).trans ((State.rd_set_ne _ _ _ _ (by decide)).trans hcnt)
    · exact (State.fld_set_beside _ _ _ _ _ _ _ (by decide)).trans (State.fld_set_same _ _ _ _ _ (by decide))
    · exact State.fld_set_same _ _ _ _ _ (by decide)
  · simp only [if_neg hm]
    exact ⟨trivial, hcnt, hfld _ _, hfld _ _, hc.upd_lst⟩

theorem lsDigest_matches {c : Came} {frame n : Nat} {d e : List Byte} (h : s.TakesCra c) (ho : s.lsOn = true) (hs : s.lst.start = some n)
    (hn : n ≤ frame) (hse : s.lst.sends = true ∨ frame < s.lst.next) (he : Tab.find s.firn.digests frame = some e) (hd : digestD e = d) :
    ∃ t, exec (.lockstepDigest ⟨c, frame⟩ d) s = .next t ∧ t.lst = { s.lst with matched := s.lst.matched + 1 } ∧
      t.rd Reg.PAI_CNT_LSFRM = satCount (s.rd Reg.PAI_CNT_LSFRM) 1 ∧
      (t.fld Fd.PAI_LS_STAT_STATE = if 100 ≤ s.lst.matched + 1 then 2 else s.fld Fd.PAI_LS_STAT_STATE) ∧
      (t.fld Fd.PAI_LS_STAT_RESULT = if 100 ≤ s.lst.matched + 1 then 1 else s.fld Fd.PAI_LS_STAT_RESULT) ∧
      Changes [.lst] [Reg.PAI_LS_STAT, Reg.PAI_CNT_LSFRM, Reg.PORT_CNT_RX c.port] s t := by
  have hx := exec_lsDigest (frame := frame) (d := d) h
  have hc : Changes [.lst] [Reg.PAI_LS_STAT, Reg.PAI_CNT_LSFRM, Reg.PORT_CNT_RX c.port] s (s.countRx c.port) := (Changes.refl _ _ s).countRx
  have hlst := s.countRx_lst c.port
  have hon := (s.countRx_lsOn c.port.isLt).trans ho
  have hfirn := s.countRx_firn c.port
  have hcnt : (s.countRx c.port).rd Reg.PAI_CNT_LSFRM = s.rd Reg.PAI_CNT_LSFRM := s.countRx_rd_fed c.port.isLt (by decide)
  have hfld : ∀ lo w, (s.countRx c.port).fld ⟨Reg.PAI_LS_STAT, lo, w⟩ = s.fld ⟨Reg.PAI_LS_STAT, lo, w⟩ := fun lo w =>
    State.fld_congr (s.countRx_rd_fed c.port.isLt (show highFed Reg.PAI_LS_STAT = true by decide))
  generalize s.countRx c.port = u at *
  simp only [hlst, hfirn, if_pos (And.intro hon (any_le_of_start hs hn)), if_pos hse, he, hd] at hx
  obtain ⟨h1, h2, h3, h4, h5⟩ := u.lsCompare_same frame d
  rw [hlst] at h1 h3 h4
  exact ⟨_, hx, h1, h2.trans (congrArg (satCount · 1) hcnt), h3.trans (by rw [Fd.PAI_LS_STAT_STATE, hfld]),
    h4.trans (by rw [Fd.PAI_LS_STAT_RESULT, hfld]), hc.step h5⟩

theorem lsDigest_differs {c : Came} {frame n : Nat} {d e : List Byte} (h : s.TakesCra c) (ho : s.lsOn = true) (hs : s.lst.start = some n)
    (hn : n ≤ frame) (hse : s.lst.sends = true ∨ frame < s.lst.next) (he : Tab.find s.firn.digests frame = some e) (hd : digestD e ≠ d) :
    ∃ t, exec (.lockstepDigest ⟨c, frame⟩ d) s = .next t ∧
      t.fld Fd.PAI_LS_STAT_STATE = 3 ∧ t.fld Fd.PAI_LS_STAT_RESULT = 7 ∧ t.on Fd.PAI_FED_EVT_LS_END = true ∧
      t.rd Reg.PAI_CNT_LSFRM = satCount (s.rd Reg.PAI_CNT_LSFRM) 1 ∧
      Changes [.lst, .firn] [Reg.PAI_LS_STAT, Reg.PAI_CNT_LSFRM, Reg.PAI_FED_EVT, Reg.PAI_FED_EVT_SEQ, Reg.PORT_CNT_RX c.port] s t := by
  have hx := exec_lsDigest (frame := frame) (d := d) h
  have hc : Changes [.lst, .firn] [Reg.PAI_LS_STAT, Reg.PAI_CNT_LSFRM, Reg.PAI_FED_EVT, Reg.PAI_FED_EVT_SEQ, Reg.PORT_CNT_RX c.port] s
    ((s.countRx c.port).count Reg.PAI_CNT_LSFRM) := (Changes.refl _ _ s).countRx.count
  have hlst := s.countRx_lst c.port
  have hon := (s.countRx_lsOn c.port.isLt).trans ho
  have hfirn := s.countRx_firn c.port
  have hcnt : ((s.countRx c.port).count Reg.PAI_CNT_LSFRM).rd Reg.PAI_CNT_LSFRM = satCount (s.rd Reg.PAI_CNT_LSFRM) 1 :=
    (State.rd_count_same _ _).trans (congrArg (satCount · 1) (s.countRx_rd_fed c.port.isLt (by decide)))
  generalize s.countRx c.port = u at *
  simp only [hlst, hfirn, if_pos (And.intro hon (any_le_of_start hs hn)), if_pos hse, he] at hx
  rw [State.lsCompare, if_neg hd] at hx
  generalize u.count Reg.PAI_CNT_LSFRM = v at *
  obtain ⟨h1, h2, -, -, h5, h6, h7⟩ := v.lsEnd_spec (r := 7) (by decide) [frame % 2 ^ 32, frame / 2 ^ 32]
  exact ⟨_, hx, h1, h2, h5, h6.trans hcnt, hc.step h7⟩

/-! ### A gap -/

theorem State.gapEnds_idle (hn : s.lsOn = false ∨ s.lst.sends = true ∨ s.lst.high < s.lst.next + 10 ∨
    s.lst.recs.any (fun f => f.frame == s.lst.next) = true) : s.gapEnds = s := by
  rw [State.gapEnds, if_neg]
  rintro ⟨ho, hs, hf, hr⟩
  obtain hn | hn | hn | hn := hn
  · exact absurd (ho.symm.trans hn) (by decide)
  · exact hs hn
  · omega
  · obtain ⟨x, hx, he⟩ := List.any_eq_true.mp hn
    simpa [beq_iff_eq.mp he] using List.all_eq_true.mp hr x hx

/-- Settles O45, clause by clause; every end of lock-step is `lsEnd_spec`. -/
theorem lockstepRunsAndEnds : Obligations.LockstepRunsAndEnds := by
  unfold Obligations.LockstepRunsAndEnds
  refine ⟨fun w p s h ho hb => lsEnter_judged h ho hb, fun w p s h ho hb hw hs => ?_, fun w p s h ho hb hr => lsEnter_refused h ho hb hr,
    fun w p s h ho => lsEnter_again h ho, fun w s h ho => lsLeave_idle h ho, fun w s h ho => lsLeave_ends h ho,
    fun c f s h ho hs hn hr ht hl => inputRecord_noted h ho hs hn hr ht hl, fun c f s h ho hs hn hr ht hl => inputRecord_ends h ho hs hn hr ht hl,
    fun c f s h hn => inputRecord_idle h hn, fun c f s h => ⟨s, exec_inputRecord_closed h, rfl⟩,
    fun c frame d s n h ho hs hn hse hf => lsDigest_waits h ho hs hn hse hf, fun c frame d s h hn => lsDigest_idle h hn,
    fun c frame d s h => ⟨s, exec_lsDigest_closed h, rfl⟩, fun c frame d s n e h ho hs hn hse he hd => lsDigest_matches h ho hs hn hse he hd,
    fun c frame d s n e h ho hs hn hse he hd => lsDigest_differs h ho hs hn hse he hd, fun s ho hs hf hr => ?_,
    fun s hn => ⟨s, congrArg Host.Outcome.next (State.gapEnds_idle hn), rfl⟩⟩
  · have hr := State.lsCheck_slots hw hs
    obtain ⟨t, hx, -, hres, hbar, hch⟩ := lsEnter_refused (p := p) h ho hb (hr ▸ by decide)
    exact ⟨t, hx, hres.trans hr, hbar, hch⟩
  · have hx : exec .lockstepGap s = .next (s.lsEnd 9 []) := congrArg Host.Outcome.next (if_pos ⟨ho, by simp [hs], hf, hr⟩)
    obtain ⟨h1, h2, h3, -, h5, -, h7⟩ := s.lsEnd_spec (r := 9) (by decide) []
    exact ⟨_, hx, h1, h2, h3, h5, h7⟩

end Sys2Proof.Machine
end

section
-- In order: the one text holds more declarations than asynchronous elaboration has threads for.
set_option Elab.async false

/-! PROOFS. Commissioning record and Firn's windows, clearing, mirror and anchors (R549 to R564). -/

namespace Sys2Proof.Machine

variable {s t u : State} {ps : List Part} {ws : List Nat}

/-! ### Firn after an event -/

/-- Firn but for its rate limits and the records that wait for the window of the tick. -/
def Firn.kept (f : Firn) : Firn := { f with buckets := [], fresh := [] }

theorem State.foldl_count_firn (g : Nat → Nat) (l : List Nat) (s : State) : (l.foldl (fun (u : State) x => u.count (g x)) s).firn = s.firn :=
  foldl_keep State.firn (fun u x => State.count_firn u (g x)) l s

theorem State.takeToken_kept (s : State) (c : Nat) : (s.takeToken c).firn.kept = s.firn.kept := by
  unfold State.takeToken
  split <;> rfl

theorem State.occurOnce_kept (s : State) (c o : Nat) (l : List Nat) (x : Bool) : (s.occurOnce c o l x).1.firn.kept = s.firn.kept := by
  have hf : (((countersFor s c o).foldl (fun s n => s.count (Reg.CTR_VAL (c / 64) n)) s).count (Reg.CODE_CNT c)).firn = s.firn := by
    rw [State.count_firn, State.foldl_count_firn]
  unfold State.occurOnce
  dsimp only
  generalize ((countersFor s c o).foldl (fun s n => s.count (Reg.CTR_VAL (c / 64) n)) s).count (Reg.CODE_CNT c) = u at *
  split
  · show ((u.takeToken c).firn.kept : Firn) = _
    rw [State.takeToken_kept, hf]
  · show (State.count _ _).firn.kept = _
    rw [State.count_firn, State.bump, State.set_firn, hf]

theorem State.markSuppressed_kept (s : State) : s.markSuppressed.1.firn.kept = s.firn.kept := by
  unfold State.markSuppressed
  dsimp only
  rw [State.occurOnce_kept, State.wr_firn, State.set_firn]

/-- An occurrence adds a record to those that wait, and touches Firn's rate limits. -/
theorem State.occur_kept (s : State) (c o : Nat) (l : List Nat) (x : Bool) : (s.occur c o l x).firn.kept = s.firn.kept := by
  unfold State.occur
  dsimp only
  split
  · split
    · rw [State.markSuppressed_kept, State.markSuppressed_kept, State.occurOnce_kept]
    · rw [State.markSuppressed_kept, State.occurOnce_kept]
  · exact State.occurOnce_kept _ _ _ _ _

theorem State.raise_kept (s : State) (f : Fld) (o : Nat) (l : List Nat) (x : Bool) : (s.raise f o l x).firn.kept = s.firn.kept := by
  unfold State.raise
  dsimp only
  rw [State.occur_kept, State.wr_firn, State.wr_firn]

theorem Firn.kept_fields {f g : Firn} (h : g.kept = f.kept) : g.first = f.first ∧ g.circ = f.circ ∧ g.ring = f.ring ∧ g.clear = f.clear ∧
    g.mirror = f.mirror ∧ g.digests = f.digests := by
  have h1 := congrArg Firn.first h
  have h2 := congrArg Firn.circ h
  have h3 := congrArg Firn.ring h
  have h4 := congrArg Firn.clear h
  have h5 := congrArg Firn.mirror h
  have h6 := congrArg Firn.digests h
  exact ⟨h1, h2, h3, h4, h5, h6⟩

/-! ### Firn's own events -/

theorem State.occurOnce_rd_evt (s : State) (c o : Nat) (l : List Nat) (x : Bool) (hc : c < 1024) :
    (s.occurOnce c o l x).1.rd Reg.FRN_EVT = s.rd Reg.FRN_EVT := by
  have n1 : ∀ n ∈ countersFor s c o, Reg.FRN_EVT ≠ Reg.CTR_VAL (c / 64) n := by
    intro n hn
    have := mem_countersFor hn
    simp only [Reg.FRN_EVT, Reg.CTR_VAL]
    omega
  have n2 : Reg.FRN_EVT ≠ Reg.CODE_CNT c := by simp only [Reg.FRN_EVT, Reg.CODE_CNT]; omega
  have n3 : Reg.FRN_EVT ≠ (Fd.CODE_STAT_PEND c).addr := by simp only [Reg.FRN_EVT, Fd.CODE_STAT_PEND, Reg.CODE_STAT]; omega
  unfold State.occurOnce
  dsimp only
  split
  · show ((_ : State).takeToken c).rd _ = _
    rw [State.takeToken_rd, State.rd_count_ne _ _ _ n2, State.foldl_count_rd_mem _ _ _ n1]
  · show (((_ : State).bump _).count _).rd _ = _
    rw [State.rd_count_ne _ _ _ (by decide), State.bump, State.rd_set_ne _ _ _ _ n3, State.rd_count_ne _ _ _ n2, State.foldl_count_rd_mem _ _ _ n1]

theorem State.markSuppressed_fld_evt (s : State) {lo : Nat} (hl : 2 < lo) :
    s.markSuppressed.1.fld ⟨Reg.FRN_EVT, lo, 1⟩ = s.fld ⟨Reg.FRN_EVT, lo, 1⟩ := by
  unfold State.markSuppressed
  dsimp only
  rw [State.fld_congr (State.occurOnce_rd_evt _ _ _ _ _ (by decide)), State.fld_congr (State.rd_wr_ne _ _ _ _ (show Reg.FRN_EVT ≠ Reg.FRN_EVT_SEQ by decide))]
  exact State.fld_set_beside _ _ _ _ _ _ _ (.inl hl)

/-- An occurrence leaves Firn's event bits but SUPPRESSED. -/
theorem State.occur_fld_evt (s : State) (c o : Nat) (l : List Nat) (x : Bool) {lo : Nat} (hc : c < 1024) (hl : 2 < lo) :
    (s.occur c o l x).fld ⟨Reg.FRN_EVT, lo, 1⟩ = s.fld ⟨Reg.FRN_EVT, lo, 1⟩ := by
  have h1 : (s.occurOnce c o l x).1.fld ⟨Reg.FRN_EVT, lo, 1⟩ = s.fld ⟨Reg.FRN_EVT, lo, 1⟩ := State.fld_congr (State.occurOnce_rd_evt _ _ _ _ _ hc)
  unfold State.occur
  dsimp only
  split
  · split
    · rw [State.markSuppressed_fld_evt _ hl, State.markSuppressed_fld_evt _ hl, h1]
    · rw [State.markSuppressed_fld_evt _ hl, h1]
  · exact h1

/-- An event of Firn shows in its own bit. -/
theorem State.raise_on_evt (s : State) {lo : Nat} (o : Nat) (l : List Nat) (x : Bool) (h2 : 2 < lo) (hl : lo < 32) :
    (s.raise ⟨Reg.FRN_EVT, lo, 1⟩ o l x).on ⟨Reg.FRN_EVT, lo, 1⟩ = true := by
  unfold State.raise State.on
  dsimp only
  rw [State.occur_fld_evt _ _ _ _ _ (eventCode_lt (by decide) hl) h2, State.fld,
    State.rd_wr_ne _ _ _ _ (show Reg.FRN_EVT ≠ Reg.FRN_EVT + 4 by decide), State.rd_wr_self, fieldOf_w1cAfter_set _ _ hl]
  rfl

/-! ### A row of words -/

/-- Words written one after the other. -/
def State.wrRow (s : State) (g : Nat → Nat) (ps : List (Nat × Word)) : State := ps.foldl (fun s p => s.wr (g p.1) p.2) s

theorem Changes.wrRow {g : Nat → Nat} {l : List (Nat × Word)} (h : Changes ps ws s t) (hw : ∀ p ∈ l, g p.1 ∈ ws) : Changes ps ws s (t.wrRow g l) :=
  List.foldlRecOn (motive := fun u => Changes ps ws s u) l _ h (fun _ hu p hp => hu.wr (hw p hp))

theorem State.wrRow_ne (g : Nat → Nat) {l : List (Nat × Word)} {a : Nat} (h : ∀ p ∈ l, a ≠ g p.1) : (s.wrRow g l).rd a = s.rd a :=
  List.foldlRecOn (motive := fun u : State => u.rd a = s.rd a) l _ rfl (fun _ hu p hp => (State.rd_wr_ne _ _ _ _ (h p hp)).trans hu)

theorem State.wrRow_cons (g : Nat → Nat) (q : Nat × Word) (l : List (Nat × Word)) : s.wrRow g (q :: l) = (s.wr (g q.1) q.2).wrRow g l := rfl

theorem State.wrRow_rd (g : Nat → Nat) {l : List (Nat × Word)} (hn : (l.map (fun p => g p.1)).Nodup) {p : Nat × Word} (hp : p ∈ l) (s : State) :
    (s.wrRow g l).rd (g p.1) = p.2 := by
  induction l generalizing s with
  | nil => cases hp
  | cons q l ih =>
    rw [List.map_cons, List.nodup_cons] at hn
    rw [State.wrRow_cons]
    rcases List.mem_cons.mp hp with rfl | hp
    · exact (State.wrRow_ne g (fun x hx he => hn.1 (List.mem_map.mpr ⟨x, hx, he.symm⟩))).trans (State.rd_wr_self _ _ _)
    · exact ih hn.2 hp _

theorem State.wrRow_part {α : Type} (f : State → α) (hf : ∀ (u : State) a w, f (u.wr a w) = f u) (g : Nat → Nat) (l : List (Nat × Word)) (s : State) :
    f (s.wrRow g l) = f s :=
  foldl_keep (f := fun (u : State) (p : Nat × Word) => u.wr (g p.1) p.2) f (fun u p => hf u (g p.1) p.2) l s

/-- The i-th of a row of n words. -/
theorem State.wrRow_zip {g : Nat → Nat} {n : Nat} {l : List Word} (hl : l.length = n) (hg : ∀ i j, i < n → j < n → g i = g j → i = j)
    {i : Nat} (hi : i < n) (s : State) : (s.wrRow g ((List.range n).zip l)).rd (g i) = l.getD i 0 := by
  have hmap : ((List.range n).zip l).map (fun p => g p.1) = (List.range n).map g := by
    rw [show (fun p : Nat × Word => g p.1) = g ∘ Prod.fst from rfl, ← List.map_map, List.map_fst_zip (by simp [hl])]
  have hn : (((List.range n).zip l).map (fun p => g p.1)).Nodup := by
    rw [hmap]
    exact List.Nodup.map_on (fun x hx y hy => hg x y (List.mem_range.mp hx) (List.mem_range.mp hy)) List.nodup_range
  have hm : (i, l.getD i 0) ∈ (List.range n).zip l := by
    refine List.mem_iff_getElem.mpr ⟨i, by simp [hl, hi], ?_⟩
    have hil : i < l.length := by omega
    simp [List.getElem?_eq_getElem hil]
  exact State.wrRow_rd g hn hm s

/-! ### The read windows -/

theorem FirnRec.words_length (r : FirnRec) (gone : Bool) : (r.words gone).length = 16 := rfl

theorem FirnRec.snapWords_length (r : FirnRec) (gone : Bool) : (r.snapWords gone).length = 128 := by
  simp [FirnRec.snapWords]

/-- The words of a read window. -/
def windowWords (w : Nat) : List Nat := [Reg.W_CTRL w, Reg.W_CUR_LO w, Reg.W_CUR_HI w, Reg.W_STAT w] ++ (List.range 16).map (Reg.FRN_WREC w) ++
  (List.range 128).map (Reg.FRN_WSNAP w)

theorem mem_windowWords {w a : Nat} : a ∈ windowWords w ↔ (a = Reg.W_CTRL w ∨ a = Reg.W_CUR_LO w ∨ a = Reg.W_CUR_HI w ∨ a = Reg.W_STAT w) ∨
    (∃ i, i < 16 ∧ Reg.FRN_WREC w i = a) ∨ ∃ i, i < 128 ∧ Reg.FRN_WSNAP w i = a := by
  simp only [windowWords, List.mem_append, List.mem_cons, List.not_mem_nil, or_false, List.mem_map, List.mem_range, or_assoc]

/-- The record's words, the snapshot's words and the cursor. -/
def State.fillWindow (s : State) (w a : Nat) (r : FirnRec) (newer : Nat) : State :=
  (((s.wrRow (Reg.FRN_WREC w) ((List.range 16).zip (r.words (r.snap.isSome && snapGone a newer)))).wrRow (Reg.FRN_WSNAP w)
    ((List.range 128).zip (r.snapWords (r.snap.isSome && snapGone a newer)))).wr (Reg.W_CUR_LO w) (BitVec.ofNat 32 (r.seq + 1))).wr (Reg.W_CUR_HI w)
    (BitVec.ofNat 32 ((r.seq + 1) / 2 ^ 32))

theorem State.latchRecord_eq (s : State) (w a res : Nat) (r : FirnRec) (newer : Nat) : s.latchRecord w a res r newer =
    ((s.fillWindow w a r newer).set (Fd.W_STAT_RESULT w) res).set (Fd.W_STAT_SNAPW w) (r.snap.getD []).length := rfl

theorem State.fillWindow_spec (s : State) {w : Nat} (a : Nat) (r : FirnRec) (newer : Nat) (hw : w < 8) :
    (∀ i, i < 16 → (s.fillWindow w a r newer).rd (Reg.FRN_WREC w i) = (r.words (r.snap.isSome && snapGone a newer)).getD i 0) ∧
    (∀ i, i < 128 → (s.fillWindow w a r newer).rd (Reg.FRN_WSNAP w i) = (r.snapWords (r.snap.isSome && snapGone a newer)).getD i 0) ∧
    (s.fillWindow w a r newer).cursor w = (r.seq + 1) % 2 ^ 64 ∧ Changes [] (windowWords w) s (s.fillWindow w a r newer) := by
  unfold State.fillWindow
  generalize hu : s.wrRow (Reg.FRN_WREC w) ((List.range 16).zip (r.words (r.snap.isSome && snapGone a newer))) = u
  generalize hv : u.wrRow (Reg.FRN_WSNAP w) ((List.range 128).zip (r.snapWords (r.snap.isSome && snapGone a newer))) = v
  have hrange : ∀ {n : Nat} {l : List Word} {p : Nat × Word}, p ∈ (List.range n).zip l → p.1 < n := fun hp =>
    List.mem_range.mp (List.of_mem_zip (a := _) (b := _) hp).1
  have hrec : ∀ i, i < 16 → u.rd (Reg.FRN_WREC w i) = (r.words (r.snap.isSome && snapGone a newer)).getD i 0 := fun i hi => by
    rw [← hu]
    exact State.wrRow_zip (r.words_length _) (fun i j _ _ h => by simp only [Reg.FRN_WREC] at h; omega) hi s
  have hsnap : ∀ i, i < 128 → v.rd (Reg.FRN_WSNAP w i) = (r.snapWords (r.snap.isSome && snapGone a newer)).getD i 0 := fun i hi => by
    rw [← hv]
    exact State.wrRow_zip (r.snapWords_length _) (fun i j _ _ h => by simp only [Reg.FRN_WSNAP] at h; omega) hi u
  have hvu : ∀ i, i < 16 → v.rd (Reg.FRN_WREC w i) = u.rd (Reg.FRN_WREC w i) := fun i hi => by
    rw [← hv]
    refine State.wrRow_ne _ (fun p hp => ?_)
    have := hrange hp
    simp only [Reg.FRN_WREC, Reg.FRN_WSNAP]
    omega
  have hcu : Changes [] (windowWords w) s u := hu ▸ (Changes.refl _ _ s).wrRow (fun p hp => mem_windowWords.mpr (.inr (.inl ⟨p.1, hrange hp, rfl⟩)))
  have hcv : Changes [] (windowWords w) s v := hv ▸ hcu.wrRow (fun p hp => mem_windowWords.mpr (.inr (.inr ⟨p.1, hrange hp, rfl⟩)))
  refine ⟨fun i hi => ?_, fun i hi => ?_, ?_, (hcv.wr (mem_windowWords.mpr (by simp))).wr (mem_windowWords.mpr (by simp))⟩
  · refine (State.rd_wr_ne _ _ _ _ ?_).trans ((State.rd_wr_ne _ _ _ _ ?_).trans ((hvu i hi).trans (hrec i hi)))
    all_goals
      simp only [Reg.FRN_WREC, Reg.W_CUR_LO, Reg.W_CUR_HI]
      omega
  · refine (State.rd_wr_ne _ _ _ _ ?_).trans ((State.rd_wr_ne _ _ _ _ ?_).trans (hsnap i hi))
    all_goals
      simp only [Reg.FRN_WSNAP, Reg.W_CUR_LO, Reg.W_CUR_HI]
      omega
  · have hne : Reg.W_CUR_LO w ≠ Reg.W_CUR_HI w := by
      simp only [Reg.W_CUR_LO, Reg.W_CUR_HI]
      omega
    rw [State.cursor, State.rd_wr_self, State.rd_wr_ne _ _ _ _ hne, State.rd_wr_self, BitVec.toNat_ofNat, BitVec.toNat_ofNat]
    omega

theorem State.latchRecord_spec (s : State) {w a res : Nat} (r : FirnRec) (newer : Nat) (hw : w < 8) (hres : res < 8) :
    (∀ i, i < 16 → (s.latchRecord w a res r newer).rd (Reg.FRN_WREC w i) = (r.words (r.snap.isSome && snapGone a newer)).getD i 0) ∧
    (∀ i, i < 128 → (s.latchRecord w a res r newer).rd (Reg.FRN_WSNAP w i) = (r.snapWords (r.snap.isSome && snapGone a newer)).getD i 0) ∧
    (s.latchRecord w a res r newer).cursor w = (r.seq + 1) % 2 ^ 64 ∧ (s.latchRecord w a res r newer).fld (Fd.W_STAT_RESULT w) = res ∧
    Changes [] (windowWords w) s (s.latchRecord w a res r newer) := by
  obtain ⟨h1, h2, h3, h4⟩ := s.fillWindow_spec a r newer hw
  rw [State.latchRecord_eq]
  generalize s.fillWindow w a r newer = u at *
  have hrd : ∀ b, b ≠ Reg.W_STAT w → ((u.set (Fd.W_STAT_RESULT w) res).set (Fd.W_STAT_SNAPW w) (r.snap.getD []).length).rd b = u.rd b :=
    fun b hb => (State.rd_set_ne _ _ _ _ hb).trans (State.rd_set_ne _ _ _ _ hb)
  refine ⟨fun i hi => (hrd _ ?_).trans (h1 i hi), fun i hi => (hrd _ ?_).trans (h2 i hi), ?_, ?_,
    (h4.set (mem_windowWords.mpr (by simp [Fd.W_STAT_RESULT]))).set (mem_windowWords.mpr (by simp [Fd.W_STAT_SNAPW]))⟩
  · simp only [Reg.FRN_WREC, Reg.W_STAT]
    omega
  · simp only [Reg.FRN_WSNAP, Reg.W_STAT]
    omega
  · unfold State.cursor at h3 ⊢
    rw [hrd _ (by simp only [Reg.W_CUR_LO, Reg.W_STAT]; omega), hrd _ (by simp only [Reg.W_CUR_HI, Reg.W_STAT]; omega)]
    exact h3
  · exact (State.fld_set_beside _ _ _ _ _ _ _ (by decide)).trans ((State.fld_set_same _ _ _ _ _ (by decide)).trans (Nat.mod_eq_of_lt hres))

/-- What a write of W_CTRL does once it is taken. -/
def State.windowWritten (s : State) (win : Nat) (value : Word) : State :=
  if fieldOf value 2 1 = 1 then (s.set (Fd.W_CTRL_AREA win) (fieldOf value 0 2)).latchWindow win else s.set (Fd.W_CTRL_AREA win) (fieldOf value 0 2)

theorem exec_firnWindowLatch {w win : Fin 8} {value : Word} (h : s.WriteTaken w (Reg.W_CTRL win) value true) : exec (.firnWindowLatch w win value) s =
    .next (((s.afterChecks w (Reg.W_CTRL win) value).windowWritten win value).send (.wrote w (Reg.W_CTRL win) 0 0 0)) :=
  congrArg Host.Outcome.next (State.writeRow_taken _ h)

theorem State.latchWindow_empty {w : Nat} (h2 : s.fld (Fd.W_CTRL_AREA w) ≠ 2 ∨ s.mainAbsent = false) (ha : s.area (s.fld (Fd.W_CTRL_AREA w)) = []) :
    s.latchWindow w = s.set (Fd.W_STAT_RESULT w) 3 := by
  unfold State.latchWindow
  rw [if_neg (fun hn => h2.elim (fun h => h hn.1) (fun h => absurd (h.symm.trans hn.2) (by decide)))]
  simp only [ha]
  rfl

theorem State.latchWindow_takes {w : Nat} {r : FirnRec} {newer : Nat} (ha : s.fld (Fd.W_CTRL_AREA w) = 1) (hc : s.cursor w ≠ 2 ^ 64 - 1)
    (hr : recordAt (s.cursor w) s.firn.circ = some (r, newer)) : s.latchWindow w = s.latchRecord w 1
      (if decide (s.cursor w ≠ 0) && (s.firn.circ.getLast?).any (fun o => decide (s.cursor w < o.seq)) then 2 else 1) r newer := by
  unfold State.latchWindow
  rw [ha, if_neg (fun h => absurd h.1 (by decide))]
  simp only [if_neg hc]
  rw [show s.area 1 = s.firn.circ from rfl, hr]
  rfl

theorem ite_decide_and {p : Prop} [Decidable p] (b : Bool) (m n : Nat) : (if decide p && b then m else n) = if p ∧ b = true then m else n := by
  by_cases hp : p
  · simp [hp]
  · simp [hp]

theorem State.windowArea (s : State) (win : Nat) (value : Word) :
    (s.set (Fd.W_CTRL_AREA win) (fieldOf value 0 2)).fld (Fd.W_CTRL_AREA win) = fieldOf value 0 2 :=
  (State.fld_set_same _ _ _ _ _ (by decide)).trans (Nat.mod_eq_of_lt (Nat.mod_lt _ (by decide)))

theorem window_written {w win : Fin 8} {value : Word} (h : s.WriteTaken w (Reg.W_CTRL win) value true) (hn : fieldOf value 2 1 = 0) :
    ∃ t, exec (.firnWindowLatch w win value) s = .next t ∧ WroteOk t w (Reg.W_CTRL win) ∧ t.fld (Fd.W_CTRL_AREA win) = fieldOf value 0 2 ∧
      Changes [.zh, .out] [Reg.W_CTRL win] s t := by
  have hx := exec_firnWindowLatch h
  have hc : Changes [.zh, .out] [Reg.W_CTRL win] s (s.afterChecks w (Reg.W_CTRL win) value) := (Changes.refl _ _ s).afterChecks
  generalize s.afterChecks w (Reg.W_CTRL win) value = u at *
  rw [State.windowWritten, if_neg (by omega)] at hx
  exact ⟨_, hx, WroteOk.send _ _ _, (State.send_fld _ _ _).trans (State.windowArea _ _ _), hc.set.send⟩

theorem window_empty {w win : Fin 8} {value : Word} (h : s.WriteTaken w (Reg.W_CTRL win) value true) (hn : fieldOf value 2 1 = 1)
    (h2 : fieldOf value 0 2 ≠ 2 ∨ s.mainAbsent = false) (ha : s.area (fieldOf value 0 2) = []) :
    ∃ t, exec (.firnWindowLatch w win value) s = .next t ∧ WroteOk t w (Reg.W_CTRL win) ∧ t.fld (Fd.W_STAT_RESULT win) = 3 ∧
      Changes [.zh, .out] [Reg.W_CTRL win, Reg.W_STAT win] s t := by
  have hx := exec_firnWindowLatch h
  have hc : Changes [.zh, .out] [Reg.W_CTRL win, Reg.W_STAT win] s (s.afterChecks w (Reg.W_CTRL win) value) := (Changes.refl _ _ s).afterChecks
  have habs : (s.afterChecks w (Reg.W_CTRL win) value).mainAbsent = s.mainAbsent := by
    simp only [State.mainAbsent, State.on, State.afterChecks_fld]
  have hfirn := State.afterChecks_firn s w (Reg.W_CTRL win) value
  generalize s.afterChecks w (Reg.W_CTRL win) value = u at *
  have hcu : Changes [.zh, .out] [Reg.W_CTRL win, Reg.W_STAT win] s (u.set (Fd.W_CTRL_AREA win) (fieldOf value 0 2)) := hc.set
  have harea := State.windowArea u win value
  have habs' : (u.set (Fd.W_CTRL_AREA win) (fieldOf value 0 2)).mainAbsent = s.mainAbsent := by
    rw [← habs]
    refine congrArg (· == 1) (State.fld_set_word _ _ _ _ ?_)
    simp only [Fd.W_CTRL_AREA, Reg.W_CTRL, Fd.SYS_STATE_MAIN_ABSENT, Reg.SYS_STATE]
    omega
  have hlist : (u.set (Fd.W_CTRL_AREA win) (fieldOf value 0 2)).area (fieldOf value 0 2) = [] := by
    unfold State.area at ha ⊢
    rw [State.set_firn, hfirn]
    exact ha
  rw [State.windowWritten, if_pos hn] at hx
  generalize u.set (Fd.W_CTRL_AREA win) (fieldOf value 0 2) = v at *
  rw [State.latchWindow_empty (by rw [harea, habs']; exact h2) (by rw [harea]; exact hlist)] at hx
  refine ⟨_, hx, WroteOk.send _ _ _, (State.send_fld _ _ _).trans (State.fld_set_same _ _ _ _ _ (by decide)), hcu.set.send⟩

theorem window_takes {w win : Fin 8} {value : Word} {r : FirnRec} {newer : Nat} (h : s.WriteTaken w (Reg.W_CTRL win) value true)
    (ha : fieldOf value 0 2 = 1) (hn : fieldOf value 2 1 = 1) (hcur : s.cursor win ≠ 2 ^ 64 - 1)
    (hr : recordAt (s.cursor win) s.firn.circ = some (r, newer)) :
    ∃ t, exec (.firnWindowLatch w win value) s = .next t ∧ WroteOk t w (Reg.W_CTRL win) ∧
      (∀ i, i < 16 → t.rd (Reg.FRN_WREC win i) = (r.words (r.snap.isSome && snapGone 1 newer)).getD i 0) ∧
      (∀ i, i < 128 → t.rd (Reg.FRN_WSNAP win i) = (r.snapWords (r.snap.isSome && snapGone 1 newer)).getD i 0) ∧
      t.cursor win = (r.seq + 1) % 2 ^ 64 ∧
      (t.fld (Fd.W_STAT_RESULT win) = if s.cursor win ≠ 0 ∧ (s.firn.circ.getLast?).any (fun o => decide (s.cursor win < o.seq)) = true then 2 else 1) ∧
      t.firn = s.firn ∧ Changes [.zh, .out] (windowWords win) s t := by
  have hx := exec_firnWindowLatch h
  have hc : Changes [.zh, .out] (windowWords win) s (s.afterChecks w (Reg.W_CTRL win) value) := (Changes.refl _ _ s).afterChecks
  have hcur' : (s.afterChecks w (Reg.W_CTRL win) value).cursor win = s.cursor win := by
    simp only [State.cursor, State.afterChecks_rd]
  have hfirn := State.afterChecks_firn s w (Reg.W_CTRL win) value
  generalize s.afterChecks w (Reg.W_CTRL win) value = u at *
  have hcu : Changes [.zh, .out] (windowWords win) s (u.set (Fd.W_CTRL_AREA win) (fieldOf value 0 2)) :=
    hc.set (mem_windowWords.mpr (.inl (.inl rfl)))
  have harea := State.windowArea u win value
  have hcv : (u.set (Fd.W_CTRL_AREA win) (fieldOf value 0 2)).cursor win = s.cursor win := by
    rw [← hcur', State.cursor, State.cursor, State.rd_set_ne _ _ _ _ (by simp only [Fd.W_CTRL_AREA, Reg.W_CTRL, Reg.W_CUR_LO]; omega),
      State.rd_set_ne _ _ _ _ (by simp only [Fd.W_CTRL_AREA, Reg.W_CTRL, Reg.W_CUR_HI]; omega)]
  have hfv : (u.set (Fd.W_CTRL_AREA win) (fieldOf value 0 2)).firn = s.firn := (State.set_firn _ _ _).trans hfirn
  rw [State.windowWritten, if_pos hn] at hx
  generalize u.set (Fd.W_CTRL_AREA win) (fieldOf value 0 2) = v at *
  rw [State.latchWindow_takes (r := r) (newer := newer) (harea.trans ha) (by rw [hcv]; exact hcur) (by rw [hcv, hfv]; exact hr), hcv, hfv] at hx
  rw [ite_decide_and] at hx
  generalize hk : (if s.cursor win ≠ 0 ∧ (s.firn.circ.getLast?).any (fun o => decide (s.cursor win < o.seq)) = true then 2 else 1) = k at *
  have hk8 : k < 8 := by
    rw [← hk]
    split <;> decide
  obtain ⟨h1, h2, h3, h4, h5⟩ := v.latchRecord_spec (a := 1) r newer win.isLt hk8
  refine ⟨_, hx, WroteOk.send _ _ _, fun i hi => (State.rd_send _ _ _).trans (h1 i hi), fun i hi => (State.rd_send _ _ _).trans (h2 i hi), ?_,
    (State.send_fld _ _ _).trans h4, ?_, (hcu.step h5 (hw := fun _ h => h)).send⟩
  · rw [State.cursor, State.rd_send, State.rd_send]
    exact h3
  · exact (State.send_firn _ _).trans ((h5.1.2 .firn (by decide)).trans hfv)

/-! ### The commissioning record -/

theorem exec_crecMake {w : Fin 8} (h : s.WriteTaken w Reg.SYS_CREC_CMD 1 true) : exec (.crecMake w) s =
    .next (((s.afterChecks w Reg.SYS_CREC_CMD 1).askRecord w).send (.wrote w Reg.SYS_CREC_CMD 0 0 0)) :=
  congrArg Host.Outcome.next (State.writeRow_taken _ h)

theorem exec_crecClear {w : Fin 8} (h : s.WriteTaken w Reg.SYS_CREC_CMD 2 true) : exec (.crecClear w) s =
    .next (((s.afterChecks w Reg.SYS_CREC_CMD 2).clearRecord w).send (.wrote w Reg.SYS_CREC_CMD 0 0 0)) :=
  congrArg Host.Outcome.next (State.writeRow_taken _ h)

theorem crecMake_asks {w : Fin 8} (h : s.WriteTaken w Reg.SYS_CREC_CMD 1 true) (hn : s.sys.crecMake = none) :
    ∃ t, exec (.crecMake w) s = .next t ∧ WroteOk t w Reg.SYS_CREC_CMD ∧
      t.sys = { s.sys with crecMake := some (s.fld (Fd.SS_STAT_MASTER w)) } ∧ t.on Fd.SYS_CREC_STAT_PENDING = true ∧
      Changes [.zh, .sys, .out] [Reg.SYS_CREC_STAT] s t := by
  have hx := exec_crecMake h
  have hc : Changes [.zh, .sys, .out] [Reg.SYS_CREC_STAT] s (s.afterChecks w Reg.SYS_CREC_CMD 1) := (Changes.refl _ _ s).afterChecks
  have hsys := State.afterChecks_sys s w Reg.SYS_CREC_CMD 1
  have hfld := fun f => State.afterChecks_fld s w Reg.SYS_CREC_CMD 1 f
  generalize s.afterChecks w Reg.SYS_CREC_CMD 1 = u at *
  rw [State.askRecord, if_neg (by rw [hsys, hn]; decide), hfld, hsys] at hx
  refine ⟨_, hx, WroteOk.send _ _ _, ?_, ?_, hc.upd_sys.set.send⟩
  · rw [State.send_sys, State.set_sys]
  · refine (State.send_on _ _ _).trans (beq_iff_eq.mpr ?_)
    exact State.fld_set_same _ _ _ _ _ (by decide)

/-- The record whose CRC no longer holds. -/
def spoiled (r : CrecRecord) : CrecRecord := { r with crc := r.crcOf + 1 }

theorem State.recordHolds_spoiled (s : State) (r : CrecRecord) : s.recordHolds (spoiled r) = false := by
  have hne : ((spoiled r).crc == (spoiled r).crcOf) = false := beq_eq_false_iff_ne.mpr (Nat.succ_ne_self r.crcOf)
  unfold State.recordHolds
  rw [hne]
  rfl

theorem State.judgeRecord_spoiled {r : CrecRecord} (h : s.sys.crec = some (spoiled r)) : s.judgeRecord false = s.setB Fd.SYS_CREC_STAT_VALID false := by
  unfold State.judgeRecord
  rw [h, Option.any_some, State.recordHolds_spoiled]
  simp only [State.setB_sys, h]
  rfl

/-- The record is spoiled, judged and the clear recorded. -/
def State.spoilRecord (s : State) (r : CrecRecord) : State := { s with sys := { s.sys with crec := some (spoiled r) } }

theorem State.clearRecord_some {w : Nat} {r : CrecRecord} (hn : s.sys.crecMake = none) (hr : s.sys.crec = some r) : s.clearRecord w =
    (((s.spoilRecord r).setB Fd.SYS_CREC_STAT_VALID false).occur 0x3C9 noObj
      [1, s.fld Fd.SYS_CREC_SEQ_N, s.fld (Fd.SS_STAT_MASTER w)]) := by
  have hj := State.judgeRecord_spoiled (s := s.spoilRecord r) (r := r) rfl
  rw [← hj]
  unfold State.clearRecord
  rw [hn, hr]
  rfl

theorem crecClear_spoils {w : Fin 8} {r : CrecRecord} (h : s.WriteTaken w Reg.SYS_CREC_CMD 2 true) (hn : s.sys.crecMake = none)
    (hr : s.sys.crec = some r) : ∃ t, exec (.crecClear w) s = .next t ∧ WroteOk t w Reg.SYS_CREC_CMD ∧
      t.sys = { s.sys with crec := some { r with crc := r.crcOf + 1 } } ∧ t.recordValid = false ∧
      Changes [.zh, .sys, .firn, .out] [Reg.SYS_CREC_STAT] s t := by
  have hx := exec_crecClear h
  have hc : Changes [.zh, .sys, .firn, .out] [Reg.SYS_CREC_STAT] s (s.afterChecks w Reg.SYS_CREC_CMD 2) := (Changes.refl _ _ s).afterChecks
  have hsys := State.afterChecks_sys s w Reg.SYS_CREC_CMD 2
  generalize s.afterChecks w Reg.SYS_CREC_CMD 2 = u at *
  rw [State.clearRecord_some (r := r) (by rw [hsys, hn]) (by rw [hsys, hr])] at hx
  have hcu : Changes [.zh, .sys, .firn, .out] [Reg.SYS_CREC_STAT] s ((u.spoilRecord r).setB Fd.SYS_CREC_STAT_VALID false) := hc.upd_sys.setB
  have hv : ((u.spoilRecord r).setB Fd.SYS_CREC_STAT_VALID false).on Fd.SYS_CREC_STAT_VALID = false :=
    Bool.eq_false_iff.mpr (fun h => absurd ((State.setB_fld_same _ _ _ _ (by decide)).symm.trans (beq_iff_eq.mp h)) (by decide))
  have hsu : ((u.spoilRecord r).setB Fd.SYS_CREC_STAT_VALID false).sys = { s.sys with crec := some (spoiled r) } := by
    rw [State.setB_sys, ← hsys]
    rfl
  generalize (u.spoilRecord r).setB Fd.SYS_CREC_STAT_VALID false = v at *
  refine ⟨_, hx, WroteOk.send _ _ _, ?_, ?_, hcu.occur.send⟩
  · rw [State.send_sys, State.occur_sys]
    exact hsu
  · rw [State.recordValid, State.send_on, State.on, State.fld_congr (State.occur_rd _ _ _ _ _ _ (by decide) (by decide))]
    exact hv

theorem ceilingReset_asked {w : Fin 8} (h : s.WriteTaken w Reg.SYS_CFGRST 0xCE110001 true) : ∃ t, exec (.ceilingReset w) s = .next t ∧
      WroteOk t w Reg.SYS_CFGRST ∧ t.sys = { s.sys with ceilReset := some (s.fld (Fd.SS_STAT_MASTER w)) } ∧ Changes [.zh, .sys, .out] [] s t := by
  have hx : exec (.ceilingReset w) s = _ := congrArg Host.Outcome.next (State.writeRow_taken _ h)
  have hc : Changes [.zh, .sys, .out] [] s (s.afterChecks w Reg.SYS_CFGRST 0xCE110001) := (Changes.refl _ _ s).afterChecks
  have hsys := State.afterChecks_sys s w Reg.SYS_CFGRST 0xCE110001
  have hfld := State.afterChecks_fld s w Reg.SYS_CFGRST 0xCE110001 (Fd.SS_STAT_MASTER w)
  generalize s.afterChecks w Reg.SYS_CFGRST 0xCE110001 = u at *
  refine ⟨_, hx, WroteOk.send _ _ _, ?_, hc.upd_sys.send⟩
  rw [← hfld, ← hsys]
  rfl

/-! ### Authorised clearing -/

theorem firnClear_asked {w : Fin 8} {value : Word} (h : s.WriteTaken w Reg.FRN_CLR value (fieldOf value 16 16 == 0xC1EA && fieldOf value 0 3 != 0)) :
    ∃ t, exec (.firnClear w value) s = .next t ∧ WroteOk t w Reg.FRN_CLR ∧
      t.firn = { s.firn with clear := some (fieldOf value 0 3, s.fld (Fd.SS_STAT_MASTER w)) } ∧ Changes [.zh, .firn, .out] [] s t := by
  have hx : exec (.firnClear w value) s = _ := congrArg Host.Outcome.next (State.writeRow_taken _ h)
  have hc : Changes [.zh, .firn, .out] [] s (s.afterChecks w Reg.FRN_CLR value) := (Changes.refl _ _ s).afterChecks
  have hfirn := State.afterChecks_firn s w Reg.FRN_CLR value
  have hfld := State.afterChecks_fld s w Reg.FRN_CLR value (Fd.SS_STAT_MASTER w)
  generalize s.afterChecks w Reg.FRN_CLR value = u at *
  refine ⟨_, hx, WroteOk.send _ _ _, ?_, (hc.upd_firn (by exact FirnStep.of_eq rfl rfl rfl rfl rfl)).send⟩
  rw [← hfld, ← hfirn]
  rfl

/-- The span that a clear reports, with the state after values that are not stated. -/
def State.clearSpan (s : State) (gone : List FirnRec) : (Nat × Nat) × State :=
  match seqSpan gone with
  | some p => (p, s)
  | none => ((s.free.1, s.free.2.free.1), s.free.2.free.2)

theorem State.clearSpan_changes (s : State) (gone : List FirnRec) : Changes [.firn, .fresh] [] s (s.clearSpan gone).2 := by
  unfold State.clearSpan
  split
  · exact Changes.refl _ _ s
  · exact ((Changes.refl _ _ s).upd_fresh (Nat.le_succ _)).upd_fresh (Nat.le_succ _)

/-- The records that a clear removes from the areas. -/
def Firn.clearAreas (f : Firn) (areas : Nat) : Firn :=
  { f with first := cleared areas 0 f.seq f.first, circ := cleared areas 1 f.seq f.circ, ring := cleared areas 2 f.seq f.ring, clear := none,
           mirror := if bitOf areas 2 then max f.mirror f.seq else f.mirror }

theorem State.applyClear_some {areas master : Nat} (h : s.firn.clear = some (areas, master)) : ∃ (gone : List FirnRec) (l : List Nat),
    s.applyClear = (({ (s.clearSpan gone).2 with firn := s.firn.clearAreas areas }).occur 0x3C3 noObj l).raise Fd.FRN_EVT_CLEARED noObj [] := by
  unfold State.applyClear
  rw [h]
  exact ⟨_, _, rfl⟩

theorem State.clearSpan_firn (s : State) (gone : List FirnRec) : (s.clearSpan gone).2.firn = s.firn :=  by
  unfold State.clearSpan
  split <;> rfl

theorem applyClear_clears {areas master : Nat} (h : s.firn.clear = some (areas, master)) : s.applyClear.firn.clear = none ∧
    s.applyClear.firn.first = cleared areas 0 s.firn.seq s.firn.first ∧ s.applyClear.firn.circ = cleared areas 1 s.firn.seq s.firn.circ ∧
    s.applyClear.firn.ring = cleared areas 2 s.firn.seq s.firn.ring ∧ s.applyClear.on Fd.FRN_EVT_CLEARED = true ∧
    Changes [.firn, .fresh] [Reg.FRN_EVT, Reg.FRN_EVT_SEQ] s s.applyClear := by
  obtain ⟨gone, l, hx⟩ := State.applyClear_some h
  have hc := s.clearSpan_changes gone
  have hf := s.clearSpan_firn gone
  rw [hx]
  generalize (s.clearSpan gone).2 = u at *
  have hstep : FirnStep u.firn (s.firn.clearAreas areas) := by
    rw [hf]
    exact FirnStep.clear
  have hcv : Changes [.firn, .fresh] [Reg.FRN_EVT, Reg.FRN_EVT_SEQ] s { u with firn := s.firn.clearAreas areas } :=
    (hc.mono (by decide) (by simp)).upd_firn hstep
  have hv : State.firn { u with firn := s.firn.clearAreas areas } = s.firn.clearAreas areas := rfl
  generalize ({ u with firn := s.firn.clearAreas areas } : State) = v at *
  have hk : ((v.occur 0x3C3 noObj l).raise Fd.FRN_EVT_CLEARED noObj []).firn.kept = (s.firn.clearAreas areas).kept := by
    rw [State.raise_kept, State.occur_kept, hv]
  obtain ⟨h1, h2, h3, h4, -, -⟩ := Firn.kept_fields hk
  exact ⟨h4, h1, h2, h3, State.raise_on_evt _ _ _ _ (by decide) (by decide), hcv.occur.raise⟩

/-! ### The mirror -/

/-- The anchors not yet in the ring are copied. -/
def State.copyAnchors (s : State) : State := { s with firn := { s.firn with anchorRing := (s.firn.newAnchors ++ s.firn.anchorRing).take 1048576 } }

/-- The records of the circulating area not yet in the ring. -/
def State.toMirror (s : State) : List FirnRec := s.firn.circ.filter (fun r => decide (s.firn.mirror ≤ r.seq))

/-- The records and anchors not yet in the rings are copied. -/
def State.copyRecords (s : State) : State :=
  { s with firn := { s.firn with ring := (s.toMirror ++ s.firn.ring).take 16777216, mirror := s.firn.seq,
                                 anchorRing := (s.firn.newAnchors ++ s.firn.anchorRing).take 1048576 } }

theorem State.mirrorCopy_on (hm : s.mainAbsent = false) (he : s.on Fd.FRN_CTRL_MIRROR_EN = true) : s.mirrorCopy =
    match s.toMirror.getLast? with
    | none => s.copyAnchors
    | some o => if 0 < o.seq - s.firn.mirror then
        (s.copyRecords.countBy Reg.FRN_CNT_MGAP (o.seq - s.firn.mirror)).raise Fd.FRN_EVT_MIRROR_GAP noObj [o.seq - s.firn.mirror] else s.copyRecords := by
  unfold State.mirrorCopy
  rw [if_neg (by simp [hm, he])]
  rfl

theorem Only.copyAnchors (s : State) : Only [.firn] s s.copyAnchors := by
  refine ⟨rfl, fun p hp => ?_⟩
  cases p
  case firn => exact absurd (List.mem_singleton.mpr rfl) hp
  all_goals rfl

theorem Only.copyRecords (s : State) : Only [.firn] s s.copyRecords := by
  refine ⟨rfl, fun p hp => ?_⟩
  cases p
  case firn => exact absurd (List.mem_singleton.mpr rfl) hp
  all_goals rfl

/-- The oldest record still to be copied is the next one: nothing was lost. -/
theorem mirrorCopy_whole {o : FirnRec} (hm : s.mainAbsent = false) (he : s.on Fd.FRN_CTRL_MIRROR_EN = true) (ho : s.toMirror.getLast? = some o)
    (hg : o.seq ≤ s.firn.mirror) : s.mirrorCopy = s.copyRecords := by
  rw [State.mirrorCopy_on hm he, ho]
  exact if_neg (by omega)

theorem mirrorCopy_none (hm : s.mainAbsent = false) (he : s.on Fd.FRN_CTRL_MIRROR_EN = true)
    (hn : s.firn.circ.all (fun r => decide (r.seq < s.firn.mirror)) = true) : s.mirrorCopy = s.copyAnchors := by
  have h0 : s.toMirror = [] := List.filter_eq_nil_iff.mpr fun r hr => by
    have := List.all_eq_true.mp hn r hr
    rw [decide_eq_true_iff] at this ⊢
    omega
  rw [State.mirrorCopy_on hm he, h0]
  rfl

theorem mirrorCopy_gap {o : FirnRec} (hm : s.mainAbsent = false) (he : s.on Fd.FRN_CTRL_MIRROR_EN = true) (ho : s.toMirror.getLast? = some o)
    (hg : s.firn.mirror < o.seq) : s.mirrorCopy.firn.mirror = s.firn.seq ∧
      s.mirrorCopy.rd Reg.FRN_CNT_MGAP = satCount (s.rd Reg.FRN_CNT_MGAP) (o.seq - s.firn.mirror) ∧
      s.mirrorCopy.on Fd.FRN_EVT_MIRROR_GAP = true ∧ Changes [.firn] [Reg.FRN_CNT_MGAP, Reg.FRN_EVT, Reg.FRN_EVT_SEQ] s s.mirrorCopy := by
  have hx : s.mirrorCopy = (s.copyRecords.countBy Reg.FRN_CNT_MGAP (o.seq - s.firn.mirror)).raise Fd.FRN_EVT_MIRROR_GAP noObj [o.seq - s.firn.mirror] := by
    rw [State.mirrorCopy_on hm he, ho]
    exact if_pos (by omega)
  have hc : Changes [.firn] [Reg.FRN_CNT_MGAP, Reg.FRN_EVT, Reg.FRN_EVT_SEQ] s s.copyRecords :=
    (Changes.refl _ _ s).upd_firn (FirnStep.trans (FirnStep.of_eq (g := { s.firn with anchorRing := (s.firn.newAnchors ++ s.firn.anchorRing).take 1048576 })
      rfl rfl rfl rfl rfl) (FirnStep.mirrored (fun r hr => (List.mem_filter.mp hr).1)))
  have hm : s.copyRecords.firn.mirror = s.firn.seq := rfl
  have hr : s.copyRecords.rd Reg.FRN_CNT_MGAP = s.rd Reg.FRN_CNT_MGAP := rfl
  rw [hx]
  generalize s.copyRecords = u at *
  refine ⟨?_, ?_, State.raise_on_evt _ _ _ _ (by decide) (by decide), hc.countBy.raise⟩
  · obtain ⟨-, -, -, -, h5, -⟩ := Firn.kept_fields (State.raise_kept (u.countBy Reg.FRN_CNT_MGAP (o.seq - s.firn.mirror)) Fd.FRN_EVT_MIRROR_GAP noObj
      [o.seq - s.firn.mirror] false)
    rw [h5, State.countBy_firn]
    exact hm
  · rw [State.raise_rd _ _ _ _ _ _ (by decide) (by decide) (by decide) (by decide), State.rd_countBy_same, hr]

/-! ### Anchors -/

theorem State.anchor_spec (s : State) (k : Nat) :
    (s.anchor k).firn.anchors.head?.map (fun x => (x.mtime, x.sidx, x.kind, x.valid)) = some (s.clk.mtime, s.clk.sidx, k, k != 3) ∧
    (s.anchor k).fld Fd.FRN_ANC_HEAD_IDX = (s.fld Fd.FRN_ANC_HEAD_IDX + 1) % 4096 ∧ (s.anchor k).clk = s.clk ∧
    Changes [.firn] [Reg.FRN_ANC_HEAD] s (s.anchor k) := by
  unfold State.anchor
  refine ⟨?_, State.fld_set_same _ _ _ _ _ (by decide), State.set_clk _ _ _, ?_⟩
  · rw [State.set_firn]
    rfl
  · exact ((Changes.refl _ _ s).upd_firn (by exact FirnStep.of_eq rfl rfl rfl rfl rfl)).set

/-- The second that has passed is noted. -/
def State.noteSecond (s : State) : State := { s with clk := { s.clk with lastSecond := s.second } }

/-- The tick of the last free anchor is noted. -/
def State.noteFree (s : State) : State := { s with clk := { s.clk with lastFree := s.clk.now } }

theorem noteSecond_changes (s : State) (ws : List Nat) : Changes [.clk, .firn] ws s s.noteSecond := (Changes.refl _ _ s).upd_clk (Nat.le_refl _)

theorem noteFree_changes (s : State) (ws : List Nat) : Changes [.clk, .firn] ws s s.noteFree := (Changes.refl _ _ s).upd_clk (Nat.le_refl _)

theorem secondNow_anchors (hl : s.clk.lastSecond < s.second) (hu : s.sys.portUp = true) (ha : s.portAbsent = false) :
    s.secondNow = s.noteSecond.anchor 0 := by
  unfold State.secondNow
  rw [if_neg (by omega)]
  exact if_pos (by simp [hl, hu, ha])

theorem freeNow_anchors (ht : s.fld Fd.TIM_STAT_TICK_SRC ≠ 1) (hd : s.clk.lastFree + 100000 ≤ s.clk.now) : s.freeNow = s.noteFree.anchor 3 := by
  unfold State.freeNow
  rw [if_neg (by simp [State.tickOnTime, ht])]
  exact if_pos hd

/-- Settles O49, clause by clause: a window's latch by the words it fills, a clear and the mirror by what an event leaves of Firn, and the
anchors by the one written at the head. -/
theorem recordsAndEvidenceAreKept : Obligations.RecordsAndEvidenceAreKept := by
  unfold Obligations.RecordsAndEvidenceAreKept
  refine ⟨fun w s h hn => crecMake_asks h hn, fun w s r h hn hr => crecClear_spoils h hn hr, fun w s h => ceilingReset_asked h,
    fun w win value s r newer h ha hn hcur hr => window_takes h ha hn hcur hr, fun w win value s h hn h2 ha => window_empty h hn h2 ha,
    fun w win value s h hn => window_written h hn, fun w value s h => firnClear_asked h, fun s areas master h => ⟨_, rfl, applyClear_clears h⟩,
    fun s o hm he ho hg => ?_, fun s hm he hn => ?_, fun s o hm he ho hg => ⟨_, rfl, mirrorCopy_gap hm he ho hg⟩, fun s h1 h2 h3 h4 => ?_,
    fun s hl hu ha => ?_, fun s h1 h2 h3 => ?_, fun s ht hd => ?_⟩
  · exact ⟨_, congrArg Host.Outcome.next (mirrorCopy_whole hm he ho hg), rfl, Only.copyRecords s⟩
  · exact ⟨_, congrArg Host.Outcome.next (mirrorCopy_none hm he hn), rfl, Only.copyAnchors s⟩
  · exact ⟨_, congrArg Host.Outcome.next (if_pos ⟨h1, h2, by simp [h3], h4⟩), rfl, rfl⟩
  · obtain ⟨k1, k2, k3, k4⟩ := s.noteSecond.anchor_spec 0
    refine ⟨_, rfl, ?_⟩
    rw [secondNow_anchors hl hu ha]
    refine ⟨congrArg Clock.lastSecond k3, ?_, k2, (noteSecond_changes s _).step k4⟩
    obtain ⟨x, hx, he⟩ := Option.map_eq_some_iff.mp k1
    rw [hx, Option.map_some]
    simp only [Prod.mk.injEq] at he
    obtain ⟨e1, e2, e3, -⟩ := he
    rw [e1, e2, e3]
    rfl
  · exact ⟨_, congrArg Host.Outcome.next (if_pos ⟨h1, by simp [h2], h3⟩), rfl, rfl⟩
  · obtain ⟨k1, k2, k3, k4⟩ := s.noteFree.anchor_spec 3
    refine ⟨_, rfl, ?_⟩
    rw [freeNow_anchors ht hd]
    refine ⟨congrArg Clock.lastFree k3, ?_, k2, (noteFree_changes s _).step k4⟩
    obtain ⟨x, hx, he⟩ := Option.map_eq_some_iff.mp k1
    rw [hx, Option.map_some]
    simp only [Prod.mk.injEq] at he
    obtain ⟨-, -, e3, e4⟩ := he
    rw [e3, e4]
    rfl

end Sys2Proof.Machine
end

section
-- In order: the one text holds more declarations than asynchronous elaboration has threads for.
set_option Elab.async false

/-! PROOFS. Memory integrity (R567 to R572), the digest latch (R580), and the loss of pseudo-channels and stacks (R218 to R220). -/

namespace Sys2Proof.Machine

variable {s t u : State} {ps : List Part} {ws : List Nat}

/-! ### Corrected errors -/

/-- The error counted and told. -/
def State.tellCorrected (s : State) (m : MemKind) (unit : Nat) : State :=
  (s.count Reg.DIA_CNT_CORR).raise Fd.DIA_EVT_CORR noObj [memCode m, unit]

/-- What the memory itself keeps of a corrected error. -/
def State.countCorrected (s : State) (m : MemKind) (unit place : Nat) : State :=
  match m with
  | .laneA => (s.bump Fd.FRN_ECC_A).raise Fd.FRN_EVT_ECC_CORR noObj [0]
  | .laneB => (s.bump Fd.FRN_ECC_B).raise Fd.FRN_EVT_ECC_CORR noObj [1]
  | .tileStore => s.bankCorrected unit (bankOf place)
  | .stack => s.pcCorrected unit (place % 64)
  | _ => s

/-- The corrected errors of a row within 1 h, with the one that comes now. -/
def State.rowErrs (s : State) (key : Nat) : List Nat := s.clk.now :: (Tab.at [] s.dia.errs key).filter (fun t => decide (s.clk.now < t + sTicks 3600))

/-- The row's errors noted. -/
def State.noteErr (s : State) (key : Nat) : State := { s with dia := { s.dia with errs := s.dia.errs.put key (s.rowErrs key) } }

theorem State.corrected_eq (s : State) (m : MemKind) (unit place : Nat) : s.corrected m unit place =
    if (((s.tellCorrected m unit).countCorrected m unit place).rowErrs ((memCode m * 64 + unit) * 65536 + place)).length = 17 then
      (((s.tellCorrected m unit).countCorrected m unit place).noteErr ((memCode m * 64 + unit) * 65536 + place)).repairRow m unit place
    else ((s.tellCorrected m unit).countCorrected m unit place).noteErr ((memCode m * 64 + unit) * 65536 + place) := by
  cases m <;> rfl

theorem State.tellCorrected_spec (s : State) (m : MemKind) (unit : Nat) :
    (s.tellCorrected m unit).rd Reg.DIA_CNT_CORR = satCount (s.rd Reg.DIA_CNT_CORR) 1 ∧ (s.tellCorrected m unit).on Fd.DIA_EVT_CORR = true ∧
    (s.tellCorrected m unit).clk = s.clk ∧ (s.tellCorrected m unit).dia = s.dia ∧
    Changes [.firn] [Reg.DIA_CNT_CORR, Reg.DIA_EVT, Reg.DIA_EVT_SEQ] s (s.tellCorrected m unit) := by
  unfold State.tellCorrected
  refine ⟨?_, State.raise_on _ _ _ _ _ (by decide) (by decide) rfl (by decide), ?_, ?_, (Changes.refl _ _ s).count.raise⟩
  · rw [State.raise_rd _ _ _ _ _ _ (by decide) (by decide) (by decide) (by decide), State.rd_count_same]
  · rw [State.raise_clk, State.count_clk]
  · rw [State.raise_dia, State.count_dia]

theorem State.noteErr_spec (s : State) (key : Nat) : (∀ a, (s.noteErr key).rd a = s.rd a) ∧ (s.noteErr key).tbl = s.tbl ∧
    Tab.at [] (s.noteErr key).dia.errs key = s.rowErrs key ∧ Changes [.dia] [] s (s.noteErr key) := by
  refine ⟨fun _ => rfl, rfl, ?_, (Changes.refl _ _ s).upd_dia⟩
  rw [Tab.at_eq_find]
  exact congrArg (Option.getD · []) (Tab.find_put_self _ _ _)

/-- A row whose run of errors is not the 17th is only noted. -/
theorem exec_corrected {m : MemKind} {unit : Fin 64} {place : Fin 65536} {key : Nat} (hk : (memCode m * 64 + unit.val) * 65536 + place.val = key)
    (hc : u = (s.tellCorrected m unit).countCorrected m unit place) (hclk : u.clk = s.clk) (hd : u.dia = s.dia)
    (hn : ((Tab.at [] s.dia.errs key).filter (fun e => decide (s.clk.now < e + sTicks 3600))).length ≠ 16) :
    ∃ t, exec (.eccCorrectedError m unit place) s = .next t ∧ (∀ a, t.rd a = u.rd a) ∧ t.tbl = u.tbl ∧
      (Tab.at [] t.dia.errs key).head? = some s.clk.now ∧ Changes [.dia] [] u t := by
  obtain ⟨h1, h2, h3, h4⟩ := u.noteErr_spec key
  refine ⟨u.noteErr key, congrArg Host.Outcome.next ((s.corrected_eq m unit place).trans ?_), h1, h2, ?_, h4⟩
  · rw [← hc, hk]
    refine if_neg ?_
    rw [State.rowErrs, hclk, hd, List.length_cons]
    omega
  · rw [h3, State.rowErrs, hclk]
    rfl

theorem fld_bump_self {f : Fld} (h : f.lo + f.width ≤ 32) (s : State) : (s.bump f).fld f = min (s.fld f + 1) (2 ^ f.width - 1) := by
  have := Nat.two_pow_pos f.width
  rw [State.bump, State.fld_set_self _ _ _ h]
  exact Nat.mod_eq_of_lt (by omega)

theorem eccLaneA {unit : Fin 64} {place : Fin 65536}
    (hn : ((Tab.at [] s.dia.errs (unit.val * 65536 + place.val)).filter (fun e => decide (s.clk.now < e + sTicks 3600))).length ≠ 16) :
    ∃ t, exec (.eccCorrectedError .laneA unit place) s = .next t ∧ t.fld Fd.FRN_ECC_A = min (s.fld Fd.FRN_ECC_A + 1) 65535 ∧
      t.fld Fd.FRN_ECC_B = s.fld Fd.FRN_ECC_B ∧ t.rd Reg.DIA_CNT_CORR = satCount (s.rd Reg.DIA_CNT_CORR) 1 ∧ t.on Fd.DIA_EVT_CORR = true ∧
      t.on Fd.FRN_EVT_ECC_CORR = true ∧
      Changes [.dia, .firn] [Reg.DIA_CNT_CORR, Reg.DIA_EVT, Reg.DIA_EVT_SEQ, Reg.FRN_ECC, Reg.FRN_EVT, Reg.FRN_EVT_SEQ] s t := by
  obtain ⟨h1, h2, h3, h4, h5⟩ := s.tellCorrected_spec .laneA unit
  have hecc : ∀ f : Fld, f.addr = Reg.FRN_ECC → (s.tellCorrected .laneA unit).fld f = s.fld f := fun f hf =>
    h5.fld (by rw [hf]; decide) (by rw [hf]; decide)
  have hc : Changes [.dia, .firn] [Reg.DIA_CNT_CORR, Reg.DIA_EVT, Reg.DIA_EVT_SEQ, Reg.FRN_ECC, Reg.FRN_EVT, Reg.FRN_EVT_SEQ] s
    (s.tellCorrected .laneA unit) := h5.mono (by decide) (by simp)
  have hv : ∃ v, v = (s.tellCorrected .laneA unit).countCorrected .laneA unit place ∧
      v = ((s.tellCorrected .laneA unit).bump Fd.FRN_ECC_A).raise Fd.FRN_EVT_ECC_CORR noObj [0] := ⟨_, rfl, rfl⟩
  obtain ⟨v, hv, he⟩ := hv
  have hclk : v.clk = s.clk := by rw [he, State.raise_clk, State.bump, State.set_clk, h3]
  have hdia : v.dia = s.dia := by rw [he, State.raise_dia, State.bump, State.set_dia, h4]
  obtain ⟨t, hx, hrd, -, -, hch⟩ := exec_corrected (by simp [memCode]) hv hclk hdia hn
  generalize s.tellCorrected .laneA unit = u at *
  have hcv : Changes [.dia, .firn] [Reg.DIA_CNT_CORR, Reg.DIA_EVT, Reg.DIA_EVT_SEQ, Reg.FRN_ECC, Reg.FRN_EVT, Reg.FRN_EVT_SEQ] s v :=
    he ▸ hc.bump.raise
  have hru : ∀ a, eventWord a = false → a ≠ Reg.FRN_EVT → a ≠ Reg.FRN_EVT_SEQ → t.rd a = (u.bump Fd.FRN_ECC_A).rd a := fun a ha e1 e2 => by
    rw [hrd, he]
    exact State.raise_rd _ _ _ _ _ _ (by decide) ha e1 e2
  have hne : ∀ a, eventWord a = false → a ≠ Reg.FRN_EVT → a ≠ Reg.FRN_EVT_SEQ → a ≠ Reg.FRN_ECC → t.rd a = u.rd a := fun a ha e1 e2 e3 =>
    (hru a ha e1 e2).trans (State.rd_set_ne _ _ _ _ e3)
  refine ⟨t, hx, ?_, ?_, ?_, ?_, ?_, hcv.step hch⟩
  · refine (State.fld_congr (hru _ (by decide) (by decide) (by decide))).trans ((fld_bump_self (by decide) u).trans ?_)
    rw [hecc _ rfl]
    rfl
  · refine (State.fld_congr (hru _ (by decide) (by decide) (by decide))).trans ?_
    exact (State.fld_set_beside _ _ _ _ _ _ _ (by decide)).trans (hecc _ rfl)
  · exact (hne _ (by decide) (by decide) (by decide) (by decide)).trans h1
  · exact (congrArg (· == 1) (State.fld_congr (hne _ (by decide) (by decide) (by decide) (by decide)))).trans h2
  · refine (congrArg (· == 1) (State.fld_congr (hrd _))).trans ?_
    rw [he]
    exact State.raise_on_evt (u.bump Fd.FRN_ECC_A) (lo := 5) noObj [0] false (by decide) (by decide)

theorem State.countCorrected_other {m : MemKind} (hm : m ≠ .laneA ∧ m ≠ .laneB ∧ m ≠ .tileStore ∧ m ≠ .stack) (unit place : Nat) :
    s.countCorrected m unit place = s := by
  obtain ⟨ha, hb, hc, hd⟩ := hm
  cases m
  case laneA => exact absurd rfl ha
  case laneB => exact absurd rfl hb
  case tileStore => exact absurd rfl hc
  case stack => exact absurd rfl hd
  all_goals rfl

theorem eccOther {m : MemKind} {unit : Fin 64} {place : Fin 65536} (hm : m ≠ .laneA ∧ m ≠ .laneB ∧ m ≠ .tileStore ∧ m ≠ .stack)
    (hn : ((Tab.at [] s.dia.errs ((memCode m * 64 + unit.val) * 65536 + place.val)).filter (fun e => decide (s.clk.now < e + sTicks 3600))).length ≠ 16) :
    ∃ t, exec (.eccCorrectedError m unit place) s = .next t ∧ t.rd Reg.DIA_CNT_CORR = satCount (s.rd Reg.DIA_CNT_CORR) 1 ∧
      t.on Fd.DIA_EVT_CORR = true ∧ (Tab.at [] t.dia.errs ((memCode m * 64 + unit.val) * 65536 + place.val)).head? = some s.clk.now ∧
      Changes [.dia, .firn] [Reg.DIA_CNT_CORR, Reg.DIA_EVT, Reg.DIA_EVT_SEQ] s t := by
  obtain ⟨h1, h2, h3, h4, h5⟩ := s.tellCorrected_spec m unit
  have hv := State.countCorrected_other (s := s.tellCorrected m unit) hm unit place
  generalize hk : (memCode m * 64 + unit.val) * 65536 + place.val = key at *
  obtain ⟨t, hx, hrd, -, herr, hch⟩ := exec_corrected hk hv.symm h3 h4 hn
  exact ⟨t, hx, (hrd _).trans h1, (congrArg (· == 1) (State.fld_congr (hrd _))).trans h2, herr, (h5.mono (by decide) (fun _ h => h)).step hch⟩

/-- The 65th corrected error of a pseudo-channel within 1 h makes it due for retirement. -/
theorem State.pcCorrected_due {k pc : Nat}
    (hp : ((Tab.at [] s.tbl.pcErrs (k * 64 + pc)).filter (fun e => decide (s.clk.now < e + sTicks 3600))).length = 64) :
    (s.pcCorrected k pc).rd (Reg.STK_CORR k) = satCount (s.rd (Reg.STK_CORR k)) 1 ∧ (s.pcCorrected k pc).tbl.pcDue = s.tbl.pcDue ++ [(k, pc)] ∧
    (s.pcCorrected k pc).clk = s.clk ∧ (s.pcCorrected k pc).dia = s.dia ∧ Changes [.tbl] [Reg.STK_CORR k] s (s.pcCorrected k pc) := by
  unfold State.pcCorrected
  simp only [if_pos (show 64 < (s.clk.now :: (Tab.at [] s.tbl.pcErrs (k * 64 + pc)).filter (fun e => decide (s.clk.now < e + sTicks 3600))).length by
    rw [List.length_cons, hp]
    decide)]
  refine ⟨?_, ?_, ?_, ?_, ((Changes.refl _ _ s).upd_tbl.count).upd_tbl⟩
  · rw [State.rd_mk, State.rd_count_same, State.rd_mk]
  · rw [State.count_tbl]
  · rw [State.count_clk]
  · rw [State.count_dia]

theorem eccStack {unit : Fin 64} {place : Fin 65536}
    (hp : ((Tab.at [] s.tbl.pcErrs (unit.val * 64 + place.val % 64)).filter (fun e => decide (s.clk.now < e + sTicks 3600))).length = 64)
    (hn : ((Tab.at [] s.dia.errs ((448 + unit.val) * 65536 + place.val)).filter (fun e => decide (s.clk.now < e + sTicks 3600))).length ≠ 16) :
    ∃ t, exec (.eccCorrectedError .stack unit place) s = .next t ∧ t.rd (Reg.STK_CORR unit) = satCount (s.rd (Reg.STK_CORR unit)) 1 ∧
      t.tbl.pcDue = s.tbl.pcDue ++ [(unit.val, place.val % 64)] ∧
      Changes [.dia, .tbl, .firn] [Reg.STK_CORR unit, Reg.DIA_CNT_CORR, Reg.DIA_EVT, Reg.DIA_EVT_SEQ] s t := by
  obtain ⟨-, -, h3, h4, h5⟩ := s.tellCorrected_spec .stack unit
  have htbl : (s.tellCorrected .stack unit).tbl = s.tbl := h5.1.2 .tbl (by decide)
  have hstk : (s.tellCorrected .stack unit).rd (Reg.STK_CORR unit) = s.rd (Reg.STK_CORR unit) := by
    refine h5.rd (eventWord_eq_false (by simp only [Reg.STK_CORR]; omega) (by simp only [Reg.STK_CORR]; omega)) ?_
    simp only [Reg.STK_CORR, Reg.DIA_CNT_CORR, Reg.DIA_EVT, Reg.DIA_EVT_SEQ, List.mem_cons, List.not_mem_nil, or_false]
    omega
  obtain ⟨k1, k2, k3, k4, k5⟩ := State.pcCorrected_due (s := s.tellCorrected .stack unit) (k := unit) (pc := place.val % 64) (by rw [htbl, h3]; exact hp)
  obtain ⟨t, hx, hrd, ht, -, hch⟩ := exec_corrected (m := .stack) (unit := unit) (place := place) rfl rfl (k3.trans h3) (k4.trans h4) hn
  have hcc : (s.tellCorrected .stack unit).countCorrected .stack unit place = (s.tellCorrected .stack unit).pcCorrected unit (place.val % 64) := rfl
  rw [hcc] at hrd ht hch
  refine ⟨t, hx, (hrd _).trans (k1.trans (by rw [hstk])), ?_, (((h5.mono (by decide) (by simp)).step k5)).step hch⟩
  rw [ht, k2, htbl]

theorem State.bankCorrected_counts {tile bank : Nat}
    (hp : ((Tab.at [] s.ice.bankErrs (tile * 16 + bank)).filter (fun e => decide (s.clk.now < e + sTicks 3600))).length < 16) :
    (s.bankCorrected tile bank).fld (Fd.TILE_ERR_CORR tile) = min (s.fld (Fd.TILE_ERR_CORR tile) + 1) 65535 ∧
    (∀ a, a ≠ Reg.TILE_ERR tile → (s.bankCorrected tile bank).rd a = s.rd a) ∧
    (s.bankCorrected tile bank).clk = s.clk ∧ (s.bankCorrected tile bank).dia = s.dia ∧
    Changes [.ice] [Reg.TILE_ERR tile] s (s.bankCorrected tile bank) := by
  unfold State.bankCorrected
  simp only [if_neg (show ¬ 16 < (s.clk.now :: (Tab.at [] s.ice.bankErrs (tile * 16 + bank)).filter (fun e => decide (s.clk.now < e + sTicks 3600))).length by
    rw [List.length_cons]
    omega)]
  refine ⟨?_, fun a ha => ?_, ?_, ?_, (Changes.refl _ _ s).upd_ice.bump⟩
  · rw [fld_bump_self (show 0 + 16 ≤ 32 by decide), State.fld_mk]
    rfl
  · exact State.rd_set_ne _ _ _ _ ha
  · rw [State.bump, State.set_clk]
  · rw [State.bump, State.set_dia]

theorem eccTile {unit : Fin 64} {place : Fin 65536}
    (hp : ((Tab.at [] s.ice.bankErrs (unit.val * 16 + place.val % 16)).filter (fun e => decide (s.clk.now < e + sTicks 3600))).length < 16)
    (hn : ((Tab.at [] s.dia.errs ((256 + unit.val) * 65536 + place.val)).filter (fun e => decide (s.clk.now < e + sTicks 3600))).length ≠ 16) :
    ∃ t, exec (.eccCorrectedError .tileStore unit place) s = .next t ∧
      t.fld (Fd.TILE_ERR_CORR unit) = min (s.fld (Fd.TILE_ERR_CORR unit) + 1) 65535 ∧
      t.rd Reg.DIA_CNT_CORR = satCount (s.rd Reg.DIA_CNT_CORR) 1 ∧
      Changes [.dia, .ice, .firn] [Reg.TILE_ERR unit, Reg.DIA_CNT_CORR, Reg.DIA_EVT, Reg.DIA_EVT_SEQ] s t := by
  obtain ⟨h1, -, h3, h4, h5⟩ := s.tellCorrected_spec .tileStore unit
  have hice : (s.tellCorrected .tileStore unit).ice = s.ice := h5.1.2 .ice (by decide)
  have htile : (s.tellCorrected .tileStore unit).fld (Fd.TILE_ERR_CORR unit) = s.fld (Fd.TILE_ERR_CORR unit) := by
    refine h5.fld (eventWord_eq_false (by simp only [Fd.TILE_ERR_CORR, Reg.TILE_ERR]; omega) (by simp only [Fd.TILE_ERR_CORR, Reg.TILE_ERR]; omega)) ?_
    simp only [Fd.TILE_ERR_CORR, Reg.TILE_ERR, Reg.DIA_CNT_CORR, Reg.DIA_EVT, Reg.DIA_EVT_SEQ, List.mem_cons, List.not_mem_nil, or_false]
    omega
  obtain ⟨k1, k2, k3, k4, k5⟩ := State.bankCorrected_counts (s := s.tellCorrected .tileStore unit) (tile := unit) (bank := place.val % 16)
    (by rw [hice, h3]; exact hp)
  obtain ⟨t, hx, hrd, -, -, hch⟩ := exec_corrected (m := .tileStore) (unit := unit) (place := place) rfl rfl (k3.trans h3) (k4.trans h4) hn
  have hcc : (s.tellCorrected .tileStore unit).countCorrected .tileStore unit place = (s.tellCorrected .tileStore unit).bankCorrected unit (place.val % 16) := rfl
  rw [hcc] at hrd hch
  refine ⟨t, hx, (State.fld_congr (hrd _)).trans (k1.trans (by rw [htile])), (hrd _).trans ((k2 _ ?_).trans h1),
    (((h5.mono (by decide) (by simp)).step k5)).step hch⟩
  simp only [Reg.DIA_CNT_CORR, Reg.TILE_ERR]
  omega

/-! ### Bus errors -/

/-- The error counted and told. -/
def State.tellBus (s : State) (obj : Nat) : State := (s.count Reg.DIA_CNT_BUSERR).raise Fd.DIA_EVT_BUS_ERR obj []

theorem State.tellBus_spec (s : State) (obj : Nat) : (s.tellBus obj).rd Reg.DIA_CNT_BUSERR = satCount (s.rd Reg.DIA_CNT_BUSERR) 1 ∧
    (s.tellBus obj).on Fd.DIA_EVT_BUS_ERR = true ∧ Changes [.firn] [Reg.DIA_CNT_BUSERR, Reg.DIA_EVT, Reg.DIA_EVT_SEQ] s (s.tellBus obj) := by
  unfold State.tellBus
  refine ⟨?_, State.raise_on _ _ _ _ _ (by decide) (by decide) rfl (by decide), (Changes.refl _ _ s).count.raise⟩
  rw [State.raise_rd _ _ _ _ _ _ (by decide) (by decide) (by decide) (by decide), State.rd_count_same]

theorem State.faultLane_spec (s : State) (l : Lane) : (s.faultLane l).fld (stField l) = 3 ∧ (s.faultLane l).on Fd.LOP_EVT_LANE_FAULT = true ∧
    Changes [.lop, .firn] [Reg.LOP_STAT, Reg.LOP_EVT, Reg.LOP_EVT_SEQ] s (s.faultLane l) := by
  have ha : (stField l).addr = Reg.LOP_STAT := by cases l <;> rfl
  have hw : (stField l).lo + (stField l).width ≤ 32 ∧ (stField l).width = 2 := by cases l <;> decide
  have hc : Changes [.lop, .firn] [Reg.LOP_STAT, Reg.LOP_EVT, Reg.LOP_EVT_SEQ] s
    { s with lop := { s.lop with faults := s.lop.faults.put (laneCode l) (s.clk.now :: Tab.at [] s.lop.faults (laneCode l)),
                                 matched := s.lop.matched.del (laneCode l) } } := (Changes.refl _ _ s).upd_lop
  unfold State.faultLane
  generalize ({ s with lop := _ } : State) = u at *
  refine ⟨?_, State.raise_on _ _ _ _ _ (by decide) (by decide) rfl (by decide), (hc.set (by rw [ha]; simp)).raise⟩
  refine (State.raise_fld _ _ _ _ _ _ (by decide) (by rw [ha]; decide) (by rw [ha]; decide) (by rw [ha]; decide)).trans ?_
  rw [State.fld_set_self _ _ _ hw.1, hw.2]
  rfl

theorem busLaneB {obj : Nat} (hs : s.on Fd.LOP_STAT_SEL = false) (hb : s.fld Fd.LOP_STAT_B_STATE ≠ 3) :
    ∃ t, exec (.busError (some .b) obj) s = .next t ∧ t.fld Fd.LOP_STAT_B_STATE = 3 ∧ t.on Fd.LOP_EVT_LANE_FAULT = true ∧
      t.rd Reg.DIA_CNT_BUSERR = satCount (s.rd Reg.DIA_CNT_BUSERR) 1 ∧
      Changes [.lop, .firn] [Reg.DIA_CNT_BUSERR, Reg.DIA_EVT, Reg.DIA_EVT_SEQ, Reg.LOP_STAT, Reg.LOP_EVT, Reg.LOP_EVT_SEQ] s t := by
  obtain ⟨h1, -, h3⟩ := s.tellBus_spec obj
  have hx : exec (.busError (some .b) obj) s = .next ((s.tellBus obj).laneBad .b) := rfl
  have hb' : (s.tellBus obj).fld Fd.LOP_STAT_B_STATE = s.fld Fd.LOP_STAT_B_STATE := h3.fld (by decide) (by decide)
  have hs' : (s.tellBus obj).on Fd.LOP_STAT_SEL = false := (congrArg (· == 1) (h3.fld (f := Fd.LOP_STAT_SEL) (by decide) (by decide))).trans hs
  generalize s.tellBus obj = u at *
  have hsel : u.selLane = .a := if_neg (Bool.eq_false_iff.mp hs')
  rw [State.laneBad, if_neg (by rw [stField, hb']; exact hb), hsel, if_neg (by decide)] at hx
  obtain ⟨k1, k2, k3⟩ := u.faultLane_spec .b
  refine ⟨_, hx, k1, k2, (k3.rd (by decide) (by decide)).trans h1, (h3.mono (by decide) (by simp)).step k3⟩

/-! ### Scrubbing and tests -/

/-- The pass noted. -/
def State.noteScrub (s : State) (m : MemKind) : State := { s with dia := { s.dia with scrubAt := s.dia.scrubAt.put (memCode m) s.clk.now } }

theorem State.noteScrub_at (s : State) (m : MemKind) : Tab.at 0 (s.noteScrub m).dia.scrubAt (memCode m) = s.clk.now := by
  rw [Tab.at_eq_find]
  exact congrArg (Option.getD · 0) (Tab.find_put_self _ _ _)

theorem noteScrub_changes (s : State) (m : MemKind) (ws : List Nat) : Changes [.dia, .firn] ws s (s.noteScrub m) := (Changes.refl _ _ s).upd_dia

theorem State.scrubDue_of {m : MemKind} {r p : Nat} (hf : s.scrubFrom m = some r) (hp : s.scrubTicks m = some p)
    (hd : max r (Tab.at 0 s.dia.scrubAt (memCode m)) + p ≤ s.clk.now) : s.scrubDue m = true := by
  unfold State.scrubDue
  rw [hf, hp]
  exact decide_eq_true hd

theorem scrubLaneA (hu : s.sys.seracUp = true) (hd : max s.sys.bootAt (Tab.at 0 s.dia.scrubAt 0) + sTicks 1 ≤ s.clk.now) :
    ∃ t, exec (.scrubPass .laneA) s = .next t ∧ Tab.at 0 t.dia.scrubAt 0 = s.clk.now ∧
      t.fld Fd.FRN_SCRUB_A = (s.fld Fd.FRN_SCRUB_A + 1) % 65536 ∧ t.on Fd.DIA_EVT_SCRUB_PASS = true ∧
      Changes [.dia, .firn] [Reg.FRN_SCRUB, Reg.DIA_EVT, Reg.DIA_EVT_SEQ] s t := by
  have hdue := State.scrubDue_of (s := s) (m := .laneA) (if_pos hu) rfl hd
  have hx : exec (.scrubPass .laneA) s = .next (((s.noteScrub .laneA).wrap Fd.FRN_SCRUB_A).raise Fd.DIA_EVT_SCRUB_PASS noObj [0]) :=
    congrArg Host.Outcome.next (if_neg (by simp [hdue]))
  have hat := s.noteScrub_at .laneA
  have hc := noteScrub_changes s .laneA [Reg.FRN_SCRUB, Reg.DIA_EVT, Reg.DIA_EVT_SEQ]
  have hf : (s.noteScrub .laneA).fld Fd.FRN_SCRUB_A = s.fld Fd.FRN_SCRUB_A := rfl
  generalize s.noteScrub .laneA = u at *
  refine ⟨_, hx, ?_, ?_, State.raise_on _ _ _ _ _ (by decide) (by decide) rfl (by decide), hc.wrap.raise⟩
  · rw [State.raise_dia, State.wrap, State.set_dia]
    exact hat
  · refine (State.raise_fld _ _ _ _ _ _ (by decide) (by decide) (by decide) (by decide)).trans ?_
    rw [State.wrap, State.fld_set_self _ _ _ (by decide), hf]
    rfl

theorem scrubDdr4 {r : Nat} (hm : s.mainAbsent = false) (hr : Tab.find s.sys.readyAt 2 = some r)
    (hd : max r (Tab.at 0 s.dia.scrubAt 6) + sTicks (3600 * s.fld Fd.DIA_SCRUB_DDR4) ≤ s.clk.now) :
    ∃ t, exec (.scrubPass .ddr4) s = .next t ∧ Tab.at 0 t.dia.scrubAt 6 = s.clk.now ∧ t.on Fd.DIA_EVT_SCRUB_PASS = true ∧
      Changes [.dia, .firn] [Reg.DIA_EVT, Reg.DIA_EVT_SEQ] s t := by
  have hdue := State.scrubDue_of (s := s) (m := .ddr4) ((if_neg (Bool.eq_false_iff.mp hm)).trans hr) rfl hd
  have hx : exec (.scrubPass .ddr4) s = .next ((s.noteScrub .ddr4).raise Fd.DIA_EVT_SCRUB_PASS noObj [6]) :=
    congrArg Host.Outcome.next (if_neg (by simp [hdue]))
  have hat := s.noteScrub_at .ddr4
  have hc := noteScrub_changes s .ddr4 [Reg.DIA_EVT, Reg.DIA_EVT_SEQ]
  generalize s.noteScrub .ddr4 = u at *
  refine ⟨_, hx, ?_, State.raise_on _ _ _ _ _ (by decide) (by decide) rfl (by decide), hc.raise⟩
  rw [State.raise_dia]
  exact hat

theorem eccTested {w : Fin 8} {value : Word} {pass : Bool} (h : s.WriteTaken w Reg.DIA_ECCTEST value (crossEccTest value))
    (hg : fieldOf value 31 1 = 1) : ∃ t, exec (.eccTest w value pass) s = .next t ∧ WroteOk t w Reg.DIA_ECCTEST ∧
      (t.fld Fd.DIA_ECCTEST_RESULT = if pass then 1 else 2) ∧ t.on Fd.DIA_EVT_ECCTEST_DONE = true ∧
      Changes [.zh, .firn, .out] [Reg.DIA_ECCTEST, Reg.DIA_EVT, Reg.DIA_EVT_SEQ] s t := by
  have hx : exec (.eccTest w value pass) s = _ := congrArg Host.Outcome.next (State.writeRow_taken (fun s => s.eccTest value pass) h)
  have hc : Changes [.zh, .firn, .out] [Reg.DIA_ECCTEST, Reg.DIA_EVT, Reg.DIA_EVT_SEQ] s
    ((s.afterChecks w Reg.DIA_ECCTEST value).plainWrite Reg.DIA_ECCTEST value) := (Changes.refl _ _ s).afterChecks.plainWrite
  rw [State.eccTest, if_pos hg] at hx
  generalize (s.afterChecks w Reg.DIA_ECCTEST value).plainWrite Reg.DIA_ECCTEST value = u at *
  refine ⟨_, hx, WroteOk.send _ _ _, ?_, (State.send_on _ _ _).trans (State.raise_on _ _ _ _ _ (by decide) (by decide) rfl (by decide)),
    hc.set.raise.send⟩
  refine (State.send_fld _ _ _).trans ((State.raise_fld _ _ _ _ _ _ (by decide) (by decide) (by decide) (by decide)).trans
    ((State.fld_set_self _ _ _ (by decide)).trans ?_))
  cases pass <;> rfl

/-! ### The digest latch -/

theorem leWords_length : ∀ (n : Nat) (l : List Byte), l.length = 4 * n → (leWords l).length = n
  | 0, [], _ => rfl
  | 0, _ :: _, h => by simp at h
  | n + 1, a :: b :: c :: d :: l, h => by
    rw [leWords, List.length_cons, leWords_length n l (by simp only [List.length_cons] at h; omega)]
  | n + 1, [], h => by simp at h
  | n + 1, [_], h => by simp at h; omega
  | n + 1, [_, _], h => by simp at h; omega
  | n + 1, [_, _, _], h => by simp at h; omega

/-- The digest of a frame in the ring that DIG_KIND selects. -/
def State.digestRing (s : State) : Tab (List Byte) := if s.on Fd.DIA_CTRL_DIG_KIND then s.firn.rplDigests else s.firn.digests

theorem State.latchDigest_some {e : List Byte} (h : Tab.find s.digestRing (regPair s Reg.DIA_DIG_SEL_LO Reg.DIA_DIG_SEL_HI) = some e) :
    s.latchDigest = (s.wrRow Reg.DIA_DIGW ((List.range 64).zip (leWords e))).set Fd.DIA_DIG_STAT_RESULT 1 := by
  unfold State.latchDigest
  unfold State.digestRing at h
  simp only [h]
  rfl

theorem digestLatched {w : Fin 8} {value : Word} {e : List Byte} (h : s.WriteTaken w Reg.DIA_DIG_SEL_HI value true)
    (hf : Tab.find (if s.on Fd.DIA_CTRL_DIG_KIND then s.firn.rplDigests else s.firn.digests)
      ((s.rd Reg.DIA_DIG_SEL_LO).toNat + 2 ^ 32 * value.toNat) = some e) (he : e.length = 256) :
    ∃ t, exec (.digestLatch w value) s = .next t ∧ WroteOk t w Reg.DIA_DIG_SEL_HI ∧ t.fld Fd.DIA_DIG_STAT_RESULT = 1 ∧
      (∀ i, i < 64 → t.rd (Reg.DIA_DIGW i) = (leWords e).getD i 0) ∧
      Changes [.zh, .out] ([Reg.DIA_DIG_SEL_HI, Reg.DIA_DIG_STAT] ++ (List.range 64).map Reg.DIA_DIGW) s t := by
  have hx : exec (.digestLatch w value) s = _ :=
    congrArg Host.Outcome.next (State.writeRow_taken (fun s => (s.plainWrite Reg.DIA_DIG_SEL_HI value).latchDigest) h)
  have hc : Changes [.zh, .out] ([Reg.DIA_DIG_SEL_HI, Reg.DIA_DIG_STAT] ++ (List.range 64).map Reg.DIA_DIGW) s
    ((s.afterChecks w Reg.DIA_DIG_SEL_HI value).plainWrite Reg.DIA_DIG_SEL_HI value) := (Changes.refl _ _ s).afterChecks.plainWrite (by simp)
  have hhi := State.fld_plainWrite (s.afterChecks w Reg.DIA_DIG_SEL_HI value) ⟨Reg.DIA_DIG_SEL_HI, 0, 32⟩ Reg.DIA_DIG_SEL_HI value rfl (by decide)
  have hlo : ((s.afterChecks w Reg.DIA_DIG_SEL_HI value).plainWrite Reg.DIA_DIG_SEL_HI value).rd Reg.DIA_DIG_SEL_LO = s.rd Reg.DIA_DIG_SEL_LO :=
    (State.rd_plainWrite_ne _ _ _ _ (by decide)).trans (State.afterChecks_rd _ _ _ _ _)
  have hkind : ((s.afterChecks w Reg.DIA_DIG_SEL_HI value).plainWrite Reg.DIA_DIG_SEL_HI value).on Fd.DIA_CTRL_DIG_KIND = s.on Fd.DIA_CTRL_DIG_KIND :=
    congrArg (· == 1) ((State.fld_plainWrite_ne _ _ _ _ (by decide)).trans (State.afterChecks_fld _ _ _ _ _))
  have hfirn : ((s.afterChecks w Reg.DIA_DIG_SEL_HI value).plainWrite Reg.DIA_DIG_SEL_HI value).firn = s.firn :=
    hc.1.2 .firn (by decide)
  generalize (s.afterChecks w Reg.DIA_DIG_SEL_HI value).plainWrite Reg.DIA_DIG_SEL_HI value = u at *
  have hhi' : (u.rd Reg.DIA_DIG_SEL_HI).toNat = value.toNat := by
    have := hhi
    simp only [State.fld, fieldOf] at this
    have h1 := (u.rd Reg.DIA_DIG_SEL_HI).isLt
    have h2 := value.isLt
    omega
  have hfu : Tab.find u.digestRing (regPair u Reg.DIA_DIG_SEL_LO Reg.DIA_DIG_SEL_HI) = some e := by
    rw [State.digestRing, hkind, hfirn, regPair, hlo, hhi']
    exact hf
  rw [State.latchDigest_some hfu] at hx
  have hlen := leWords_length 64 e (by omega)
  have hrow : ∀ i, i < 64 → (u.wrRow Reg.DIA_DIGW ((List.range 64).zip (leWords e))).rd (Reg.DIA_DIGW i) = (leWords e).getD i 0 := fun i hi =>
    State.wrRow_zip hlen (fun i j _ _ h => by simp only [Reg.DIA_DIGW] at h; omega) hi u
  have hcr := hc.wrRow (g := Reg.DIA_DIGW) (l := (List.range 64).zip (leWords e)) (fun p hp =>
    List.mem_append_right _ (List.mem_map_of_mem (List.of_mem_zip (a := p.1) (b := p.2) hp).1))
  generalize u.wrRow Reg.DIA_DIGW ((List.range 64).zip (leWords e)) = v at *
  refine ⟨_, hx, WroteOk.send _ _ _, (State.send_fld _ _ _).trans (State.fld_set_same _ _ _ _ _ (by decide)), fun i hi => ?_, (hcr.set (by simp [Fd.DIA_DIG_STAT_RESULT])).send⟩
  refine (State.rd_send _ _ _).trans ((State.rd_set_ne _ _ _ _ ?_).trans (hrow i hi))
  simp only [Reg.DIA_DIGW, Fd.DIA_DIG_STAT_RESULT, Reg.DIA_DIG_STAT]
  omega

/-! ### Segments that are lost -/

theorem Tab.mem_put {α : Type} {n m : Nat} {x y : α} {l : Tab α} (h : (m, y) ∈ Tab.put n x l) : m = n ∨ (m, y) ∈ l := by
  induction l with
  | nil =>
    rw [Tab.put, List.mem_singleton] at h
    exact .inl (congrArg Prod.fst h)
  | cons q l ih =>
    obtain ⟨k, v⟩ := q
    rw [Tab.put] at h
    split at h
    · exact (List.mem_cons.mp h).imp_left (congrArg Prod.fst)
    · split at h
      · exact (List.mem_cons.mp h).imp (congrArg Prod.fst) (List.mem_cons_of_mem _)
      · rcases List.mem_cons.mp h with e | h
        · exact .inr (e ▸ List.mem_cons_self)
        · exact (ih h).imp_right (List.mem_cons_of_mem _)

theorem Tab.del_of_find_none {α : Type} {n : Nat} {l : Tab α} (h : Tab.find l n = none) : Tab.del n l = l := by
  refine List.filter_eq_self.mpr fun p hp => bne_iff_ne.mpr fun he => ?_
  rw [Tab.find, Option.map_eq_none_iff, List.find?_eq_none] at h
  exact h p hp (beq_iff_eq.mpr he)

theorem State.setTbl_tblOf_ne (s : State) {k j : Nat} (x : Tbl) (h : j ≠ k) : (s.setTbl k x).tblOf j = s.tblOf j := Tab.at_put_ne _ _ _ _ _ h

theorem State.setTbl_mem {k j : Nat} {x : Tbl} (h : j ∈ (s.setTbl k x).tables) : j = k ∨ j ∈ s.tables := by
  obtain ⟨p, hp, rfl⟩ := List.mem_map.mp h
  exact (Tab.mem_put hp).imp_right (fun h => List.mem_map_of_mem h)

/-- A segment that is out of place has no home. -/
theorem State.unplace_spec (s : State) (t g : Nat) : ((s.unplace t g).tblOf t).home = Tab.del g (s.tblOf t).home ∧
    (∀ j, j ≠ t → (s.unplace t g).tblOf j = s.tblOf j) ∧ (∀ j, j ∈ (s.unplace t g).tables → j = t ∨ j ∈ s.tables) ∧
    Changes [.tbl] [] s (s.unplace t g) := by
  have hc := (Changes.refl [.tbl] [] s).kept (State.unplace_keeps (x1 := t) (x2 := g) (F := 1024) rfl (Keeps.refl _ s))
  cases hf : Tab.find (s.tblOf t).home g with
  | none =>
    have he : s.unplace t g = s := by
      unfold State.unplace
      simp only [hf]
    rw [he] at hc ⊢
    exact ⟨(Tab.del_of_find_none hf).symm, fun _ _ => rfl, fun _ h => .inr h, hc⟩
  | some k =>
    have he : s.unplace t g = (s.giveSpace k (s.segBytes t)).setTbl t { s.tblOf t with home := (s.tblOf t).home.del g } := by
      unfold State.unplace
      simp only [hf]
    rw [he] at hc ⊢
    exact ⟨by rw [State.setTbl_tblOf], fun j hj => State.setTbl_tblOf_ne _ _ hj, fun j hj => State.setTbl_mem hj, hc⟩

/-- The words of the stacks. -/
def stkWord (a : Nat) : Prop := 0x4000100 ≤ a ∧ a < 0x4010000

/-- What stays of the stacks' words, and of the events of the tables. -/
structure StkKept (s t : State) : Prop where
  rd : ∀ a, stkWord a → t.rd a = s.rd a
  evt : ∀ lo, s.on ⟨Reg.TBL_EVT, lo, 1⟩ = true → t.on ⟨Reg.TBL_EVT, lo, 1⟩ = true

theorem StkKept.refl (s : State) : StkKept s s := ⟨fun _ _ => rfl, fun _ h => h⟩

theorem StkKept.trans (h : StkKept s t) (k : StkKept t u) : StkKept s u := ⟨fun a ha => (k.rd a ha).trans (h.rd a ha), fun lo hl => k.evt lo (h.evt lo hl)⟩

theorem StkKept.of_changes (h : Changes ps ws s t) (hw : ∀ a ∈ ws, ¬ stkWord a ∧ a ≠ Reg.TBL_EVT) : StkKept s t := by
  refine ⟨fun a ha => h.rd (eventWord_eq_false ?_ ?_) (fun hm => (hw a hm).1 ha), fun lo hl => ?_⟩
  · have := ha.1
    have := ha.2
    omega
  · have := ha.2
    omega
  · exact (congrArg (· == 1) (h.fld (f := ⟨Reg.TBL_EVT, lo, 1⟩) (show eventWord Reg.TBL_EVT = false by decide) (fun hm => (hw _ hm).2 rfl))).trans hl

theorem StkKept.raise (s : State) {lo : Nat} (o : Nat) (l : List Nat) (hl : lo < 32) : StkKept s (s.raise ⟨Reg.TBL_EVT, lo, 1⟩ o l) := by
  refine ⟨fun a ha => ?_, fun lo' h => State.raise_on_of_on _ _ _ _ _ _ _ (by decide) hl (by decide) h⟩
  obtain ⟨h1, h2⟩ := ha
  refine State.raise_rd _ _ _ _ _ _ (eventCode_lt (by decide) hl) (eventWord_eq_false (by omega) (by omega)) ?_ ?_
  all_goals
    simp only [Reg.TBL_EVT]
    omega

theorem StkKept.fld (h : StkKept s t) {f : Fld} (hf : stkWord f.addr) : t.fld f = s.fld f := State.fld_congr (h.rd _ hf)

theorem stkWord_stat {k : Nat} (h : k < 12) : stkWord (Reg.STK_STAT k) ∧ stkWord (Reg.STK_PCMAP k) ∧ stkWord (Reg.STK_FREE k) := by
  simp only [stkWord, Reg.STK_STAT, Reg.STK_PCMAP, Reg.STK_FREE]
  omega

/-- The record of a segment that is lost, without its place. -/
def State.strikeSegment (s : State) (t seg : Nat) : State :=
  s.setTbl t { s.tblOf t with rows := dropSegRows seg (s.tblOf t).rows, res := (s.tblOf t).res.filter (· != seg), loaded := (s.tblOf t).loaded.filter (· != seg),
                              out := if (s.tblOf t).whole && !(s.tblOf t).out.contains seg then (s.tblOf t).out ++ [seg] else (s.tblOf t).out,
                              dirty := (s.tblOf t).dirty.filter (· != seg), cls := (s.tblOf t).cls.del seg,
                              restore := (s.tblOf t).restore || (s.hotSaved t).isSome }

theorem State.loseSegment_eq (s : State) (t seg : Nat) : s.loseSegment t seg =
    (((s.unplace t seg).strikeSegment t seg).count Reg.TBL_CNT_LOST).raise Fd.TBL_EVT_SEG_LOST t [seg] := rfl

theorem State.strikeSegment_home (s : State) (t seg : Nat) : ((s.strikeSegment t seg).tblOf t).home = (s.tblOf t).home := by
  rw [State.strikeSegment, State.setTbl_tblOf]

theorem State.loseSegment_spec (s : State) (t g : Nat) : ((s.loseSegment t g).tblOf t).home = Tab.del g (s.tblOf t).home ∧
    (∀ j, j ≠ t → (s.loseSegment t g).tblOf j = s.tblOf j) ∧ (∀ j, j ∈ (s.loseSegment t g).tables → j = t ∨ j ∈ s.tables) ∧
    StkKept s (s.loseSegment t g) := by
  obtain ⟨h1, h2, h3, h4⟩ := s.unplace_spec t g
  rw [State.loseSegment_eq]
  have hhome := State.strikeSegment_home (s.unplace t g) t g
  have hne : ∀ j, j ≠ t → ((s.unplace t g).strikeSegment t g).tblOf j = s.tblOf j := fun j hj => (State.setTbl_tblOf_ne _ _ hj).trans (h2 j hj)
  have hmem : ∀ j, j ∈ ((s.unplace t g).strikeSegment t g).tables → j = t ∨ j ∈ s.tables := fun j hj =>
    (State.setTbl_mem hj).elim .inl (h3 j)
  have hch : Changes [.tbl] [Reg.TBL_CNT_LOST] s (((s.unplace t g).strikeSegment t g).count Reg.TBL_CNT_LOST) :=
    ((h4.mono (fun _ h => h) (by simp)).setTbl).count
  generalize (s.unplace t g).strikeSegment t g = u at *
  have htbl : ((u.count Reg.TBL_CNT_LOST).raise Fd.TBL_EVT_SEG_LOST t [g]).tbl = u.tbl := by rw [State.raise_tbl, State.count_tbl]
  refine ⟨?_, fun j hj => (State.tblOf_of htbl j).trans (hne j hj), fun j hj => hmem j ?_, ?_⟩
  · rw [State.tblOf_of htbl t, hhome, h1]
  · rw [State.tables, htbl] at hj
    exact hj
  · refine (StkKept.of_changes hch ?_).trans (StkKept.raise _ _ _ (by decide))
    simp [stkWord, Reg.TBL_CNT_LOST, Reg.TBL_EVT]

/-- Segments lost one after the other. -/
def State.loseAll (s : State) (gone : List (Nat × Nat)) : State := gone.foldl (fun s p => s.loseSegment p.1 p.2) s

theorem State.loseAll_kept (gone : List (Nat × Nat)) (s : State) : StkKept s (s.loseAll gone) :=
  List.foldlRecOn (motive := fun u => StkKept s u) gone _ (StkKept.refl s) (fun u hu p _ => hu.trans (u.loseSegment_spec p.1 p.2).2.2.2)

/-- No segment that is lost has a home after it. -/
theorem State.loseAll_home (gone : List (Nat × Nat)) (s : State) {j : Nat} {x : Nat × Nat} (h : x ∈ ((s.loseAll gone).tblOf j).home) :
    x ∈ (s.tblOf j).home ∧ (j, x.1) ∉ gone := by
  induction gone generalizing s with
  | nil => exact ⟨h, List.not_mem_nil⟩
  | cons p gone ih =>
    obtain ⟨h1, h2, -, -⟩ := s.loseSegment_spec p.1 p.2
    obtain ⟨hx, hn⟩ := ih (s.loseSegment p.1 p.2) h
    by_cases hj : j = p.1
    · subst hj
      rw [h1] at hx
      obtain ⟨hm, hne⟩ := List.mem_filter.mp hx
      refine ⟨hm, fun hc => (List.mem_cons.mp hc).elim (fun e => ?_) hn⟩
      exact bne_iff_ne.mp hne (congrArg Prod.snd e)
    · rw [h2 j hj] at hx
      exact ⟨hx, fun hc => (List.mem_cons.mp hc).elim (fun e => hj (congrArg Prod.fst e)) hn⟩

theorem State.loseAll_tables (gone : List (Nat × Nat)) (s : State) {j : Nat} (h : j ∈ (s.loseAll gone).tables) : j ∈ s.tables ∨ ∃ p ∈ gone, p.1 = j := by
  induction gone generalizing s with
  | nil => exact .inl h
  | cons p gone ih =>
    rcases ih (s.loseSegment p.1 p.2) h with hj | ⟨q, hq, e⟩
    · exact ((s.loseSegment_spec p.1 p.2).2.2.1 j hj).elim (fun e => .inr ⟨p, List.mem_cons_self, e.symm⟩) .inl
    · exact .inr ⟨q, List.mem_cons_of_mem _ hq, e⟩

theorem State.mem_segsOn {k : Nat} {q : Nat × Nat} : q ∈ s.segsOn k ↔ q.1 ∈ s.tables ∧ ∃ x ∈ (s.tblOf q.1).home, x.2 = k ∧ x.1 = q.2 := by
  rw [State.segsOn, List.mem_flatMap]
  constructor
  · rintro ⟨j, hj, hq⟩
    obtain ⟨x, hx, rfl⟩ := List.mem_map.mp hq
    obtain ⟨hm, he⟩ := List.mem_filter.mp hx
    exact ⟨hj, x, hm, beq_iff_eq.mp he, rfl⟩
  · rintro ⟨hj, x, hx, he, hg⟩
    exact ⟨q.1, hj, List.mem_map.mpr ⟨x, List.mem_filter.mpr ⟨hx, beq_iff_eq.mpr he⟩, by rw [hg]⟩⟩

/-- A stack whose segments are lost holds none. -/
theorem State.loseAll_segsOn (s : State) (k : Nat) : (s.loseAll (s.segsOn k)).segsOn k = [] := by
  refine List.eq_nil_iff_forall_not_mem.mpr fun q hq => ?_
  obtain ⟨hj, x, hx, he, hg⟩ := State.mem_segsOn.mp hq
  obtain ⟨hm, hn⟩ := State.loseAll_home _ _ hx
  have hjs : q.1 ∈ s.tables := (State.loseAll_tables _ _ hj).elim id (fun ⟨p, hp, e⟩ => e ▸ (State.mem_segsOn.mp hp).1)
  exact hn (State.mem_segsOn.mpr ⟨hjs, x, hm, he, rfl⟩)

/-! ### The words shown of tables and stacks -/

theorem State.showTable_rd (s : State) (t : Nat) {a : Nat} (ha : a < 0x4010000) : (s.showTable t).rd a = s.rd a := by
  have h1 : a ≠ Reg.T_SEGS t := by simp only [Reg.T_SEGS]; omega
  have h2 : a ≠ Reg.T_SEGREQ t := by simp only [Reg.T_SEGREQ]; omega
  have h3 : a ≠ Reg.T_MIB t := by simp only [Reg.T_MIB]; omega
  have h4 : a ≠ (Fd.T_STAT_STATE t).addr := by simp only [Fd.T_STAT_STATE, Reg.T_STAT]; omega
  unfold State.showTable
  dsimp only
  split
  · rw [State.rd_set_ne _ _ _ _ h4, State.rd_wr_ne _ _ _ _ h3, State.rd_wr_ne _ _ _ _ h2, State.rd_wr_ne _ _ _ _ h1]
  · rw [State.rd_wr_ne _ _ _ _ h3, State.rd_wr_ne _ _ _ _ h2, State.rd_wr_ne _ _ _ _ h1]

theorem State.showTables_rd (s : State) {a : Nat} (ha : a < 0x4010000) (hs : a ≠ Reg.TBL_STAT) : s.showTables.rd a = s.rd a := by
  have hf := foldl_keep (f := State.showTable) (fun u : State => u.rd a) (fun u t => u.showTable_rd t ha) s.tables s
  unfold State.showTables
  exact (State.rd_wr_ne _ _ _ _ hs).trans hf

theorem State.showTables_kept (s : State) : StkKept s s.showTables := by
  refine ⟨fun a ha => s.showTables_rd ha.2 ?_, fun lo h => ?_⟩
  · have := ha.1
    simp only [Reg.TBL_STAT]
    omega
  · exact (congrArg (· == 1) (State.fld_congr (s.showTables_rd (show Reg.TBL_EVT < 0x4010000 by decide) (show Reg.TBL_EVT ≠ Reg.TBL_STAT by decide)))).trans h

theorem State.showTables_tbl (s : State) : s.showTables.tbl = s.tbl :=
  (State.showTables_keeps (F := 33554432) rfl (Keeps.refl _ s)).tbl.resolve_left (by decide)

theorem State.stackFree_of {k : Nat} (h : t.rd (Reg.STK_STAT k) = s.rd (Reg.STK_STAT k)) (ht : t.tbl = s.tbl) : t.stackFree k = s.stackFree k := by
  have hf : ∀ f : Fld, f.addr = Reg.STK_STAT k → t.fld f = s.fld f := fun f hf => State.fld_congr (by rw [hf]; exact h)
  unfold State.stackFree State.stackCap State.carried
  rw [hf _ rfl, hf _ rfl, ht]

theorem stkStat_not_free {k : Nat} (hk : k < 12) : Reg.STK_STAT k ∉ freeWords ∧ Reg.STK_PCMAP k ∉ freeWords := by
  simp only [freeWords, Reg.TBL_FREE, Reg.TBL_CAP, Reg.TBL_STAT, Reg.STK_FREE, Reg.STK_STAT, Reg.STK_PCMAP, List.mem_append, List.mem_cons,
    List.not_mem_nil, or_false, List.mem_map, List.mem_range, not_or, not_exists, not_and]
  refine ⟨⟨by omega, fun j _ => by omega⟩, by omega, fun j _ => by omega⟩

theorem State.showFree_stk (s : State) {k : Nat} (hk : k < 12) : s.showFree.rd (Reg.STK_STAT k) = s.rd (Reg.STK_STAT k) ∧
    s.showFree.rd (Reg.STK_PCMAP k) = s.rd (Reg.STK_PCMAP k) := by
  obtain ⟨h1, h2⟩ := stkStat_not_free hk
  refine ⟨s.showFree_rd (eventWord_eq_false ?_ ?_) h1, s.showFree_rd (eventWord_eq_false ?_ ?_) h2⟩
  all_goals
    simp only [Reg.STK_STAT, Reg.STK_PCMAP]
    omega

theorem State.showFree_evt (s : State) (lo : Nat) : s.showFree.on ⟨Reg.TBL_EVT, lo, 1⟩ = s.on ⟨Reg.TBL_EVT, lo, 1⟩ := by
  refine congrArg (· == 1) (State.fld_congr (s.showFree_rd (show eventWord Reg.TBL_EVT = false by decide) ?_))
  simp only [freeWords, Reg.TBL_FREE, Reg.TBL_CAP, Reg.TBL_STAT, Reg.STK_FREE, Reg.TBL_EVT, List.mem_append, List.mem_cons,
    List.not_mem_nil, or_false, List.mem_map, List.mem_range, not_or, not_exists, not_and]
  exact ⟨by omega, fun j _ => by omega⟩

/-- The free space of the stacks, as it is shown. -/
def State.showSpaces (s : State) : State := (List.range stackCount).foldl (fun s k => s.set (Fd.STK_FREE_MIB k) (s.stackFree k / 1048576)) s

theorem State.showFree_eq (s : State) : ∃ m c d, s.showFree = ((s.showSpaces.set Fd.TBL_FREE_MIB m).set Fd.TBL_CAP_MIB c).set Fd.TBL_STAT_STACKS d :=
  ⟨_, _, _, rfl⟩

theorem State.showSpaces_fld (s : State) {k : Nat} (hk : k < stackCount) :
    s.showSpaces.fld (Fd.STK_FREE_MIB k) = s.stackFree k / 1048576 % 2 ^ 32 := by
  have hset : ∀ (u : State) (j v : Nat), (u.set (Fd.STK_FREE_MIB j) v).stackFree k = u.stackFree k := fun u j v =>
    State.stackFree_of (State.rd_set_ne _ _ _ _ (by simp only [Fd.STK_FREE_MIB, Reg.STK_STAT, Reg.STK_FREE]; omega)) (State.set_tbl _ _ _)
  refine (foldl_of_mem (f := fun (u : State) j => u.set (Fd.STK_FREE_MIB j) (u.stackFree j / 1048576)) (pre := fun u => u.stackFree k = s.stackFree k)
    (post := fun u => u.stackFree k = s.stackFree k ∧ u.fld (Fd.STK_FREE_MIB k) = s.stackFree k / 1048576 % 2 ^ 32) (List.mem_range.mpr hk)
    (fun u j _ _ hu => (hset u j _).trans hu) (fun u hu => ⟨(hset u k _).trans hu, ?_⟩) (fun u j _ hu => ⟨(hset u j _).trans hu.1, ?_⟩) rfl).2
  · rw [hu]
    exact State.fld_set_self _ _ _ (show 0 + 32 ≤ 32 by decide)
  · by_cases hj : j = k
    · rw [hj, hu.1]
      exact State.fld_set_self _ _ _ (show 0 + 32 ≤ 32 by decide)
    · refine (State.fld_set_word _ _ _ _ ?_).trans hu.2
      simp only [Fd.STK_FREE_MIB, Reg.STK_FREE]
      omega

theorem State.showFree_fld (s : State) {k : Nat} (hk : k < stackCount) : s.showFree.fld (Fd.STK_FREE_MIB k) = s.stackFree k / 1048576 % 2 ^ 32 := by
  obtain ⟨m, c, d, hx⟩ := s.showFree_eq
  have hne : ∀ a, a < 0x4000100 → (Fd.STK_FREE_MIB k).addr ≠ a := fun a ha => by
    simp only [Fd.STK_FREE_MIB, Reg.STK_FREE]
    omega
  rw [hx, State.fld_set_word _ _ _ _ (hne _ (by decide)), State.fld_set_word _ _ _ _ (hne _ (by decide)),
    State.fld_set_word _ _ _ _ (hne _ (by decide)), s.showSpaces_fld hk]

/-! ### The loss of a stack -/

/-- The space of a lost stack is gone. -/
def State.dropSpace (s : State) (k : Nat) : State :=
  { s with tbl := { s.tbl with free := s.tbl.free.put k 0, held := s.tbl.held.filter (fun h => h.stack != k) } }

theorem State.loseStack_eq (s : State) (k : Nat) :
    s.loseStack k = (((s.set (Fd.STK_STAT_STATE k) 3).loseAll (s.segsOn k)).dropSpace k).raise Fd.TBL_EVT_STACK_LOST k [] := rfl

theorem State.dropSpace_kept (s : State) (k : Nat) : StkKept s (s.dropSpace k) := ⟨fun _ _ => rfl, fun _ h => h⟩

theorem State.segsOn_of (h : t.tbl = s.tbl) (k : Nat) : t.segsOn k = s.segsOn k := by
  unfold State.segsOn State.tables State.tblOf
  rw [h]

/-- A lost stack holds no segment and shows its loss; the events told before stand. -/
theorem State.loseStack_spec (s : State) {k : Nat} (hk : k < 12) : (s.loseStack k).fld (Fd.STK_STAT_STATE k) = 3 ∧
    (s.loseStack k).on Fd.TBL_EVT_STACK_LOST = true ∧ (s.loseStack k).segsOn k = [] ∧
    (∀ lo, s.on ⟨Reg.TBL_EVT, lo, 1⟩ = true → (s.loseStack k).on ⟨Reg.TBL_EVT, lo, 1⟩ = true) := by
  rw [State.loseStack_eq]
  have hset : (s.set (Fd.STK_STAT_STATE k) 3).fld (Fd.STK_STAT_STATE k) = 3 := State.fld_set_same _ _ _ _ _ (by decide)
  have hevt : ∀ lo, (s.set (Fd.STK_STAT_STATE k) 3).on ⟨Reg.TBL_EVT, lo, 1⟩ = s.on ⟨Reg.TBL_EVT, lo, 1⟩ := fun lo => by
    refine congrArg (· == 1) (State.fld_set_word _ _ _ _ ?_)
    simp only [Fd.STK_STAT_STATE, Reg.STK_STAT, Reg.TBL_EVT]
    omega
  have hsegs : (s.set (Fd.STK_STAT_STATE k) 3).segsOn k = s.segsOn k := State.segsOn_of (State.set_tbl _ _ _) k
  generalize s.set (Fd.STK_STAT_STATE k) 3 = u at *
  rw [← hsegs]
  have hno := u.loseAll_segsOn k
  have hkept := u.loseAll_kept (u.segsOn k)
  generalize u.loseAll (u.segsOn k) = v at *
  have hk1 := (hkept.trans (v.dropSpace_kept k)).trans (StkKept.raise (lo := 7) (v.dropSpace k) k [] (by decide))
  refine ⟨(hk1.fld (stkWord_stat hk).1).trans hset, State.raise_on _ _ _ _ _ (by decide) (by decide) rfl (by decide), ?_, fun lo h => hk1.evt lo ((hevt lo).trans h)⟩
  have htbl : ((v.dropSpace k).raise Fd.TBL_EVT_STACK_LOST k []).segsOn k = (v.dropSpace k).segsOn k := State.segsOn_of (State.raise_tbl _ _ _ _ _) k
  exact htbl.trans hno

theorem stackLost_exec {stack : Fin 12} (hk : stack.val < stackCount) (hs : s.fld (Fd.STK_STAT_STATE stack) ≠ 3) (hr : s.mainRuns = true ∨ s.training = true) :
    exec (.stackLost stack) s = .next (s.loseStack stack).showFree.showTables := by
  refine congrArg Host.Outcome.next (if_neg ?_)
  rintro (h | h | h)
  · exact absurd hk (Nat.not_lt.mpr h)
  · exact hs h
  · exact h hr

theorem stackLost_idle {stack : Fin 12} (h : stackCount ≤ stack.val ∨ s.fld (Fd.STK_STAT_STATE stack) = 3 ∨ (s.mainRuns = false ∧ s.training = false)) :
    exec (.stackLost stack) s = .next s := by
  refine congrArg Host.Outcome.next (if_pos (h.imp_right (Or.imp_right ?_)))
  rintro ⟨h1, h2⟩ (h | h)
  · exact absurd (h.symm.trans h1) (by decide)
  · exact absurd (h.symm.trans h2) (by decide)

/-- What is shown of a stack once the words of the tables and stacks are shown again. -/
theorem State.shown_spec (s : State) {k : Nat} (hk : k < 12) :
    (∀ f : Fld, f.addr = Reg.STK_STAT k ∨ f.addr = Reg.STK_PCMAP k → s.showFree.showTables.fld f = s.fld f) ∧
    (∀ lo, s.showFree.showTables.on ⟨Reg.TBL_EVT, lo, 1⟩ = true ↔ s.on ⟨Reg.TBL_EVT, lo, 1⟩ = true) ∧
    (k < stackCount → s.showFree.showTables.fld (Fd.STK_FREE_MIB k) = s.stackFree k / 1048576 % 2 ^ 32) ∧
    s.showFree.showTables.tbl = s.tbl := by
  obtain ⟨w1, w2, w3⟩ := stkWord_stat hk
  obtain ⟨f1, f2⟩ := s.showFree_stk hk
  have hkept := s.showFree.showTables_kept
  have hev : ∀ lo, s.showFree.showTables.fld ⟨Reg.TBL_EVT, lo, 1⟩ = s.showFree.fld ⟨Reg.TBL_EVT, lo, 1⟩ := fun lo =>
    State.fld_congr (s.showFree.showTables_rd (show Reg.TBL_EVT < 0x4010000 by decide) (show Reg.TBL_EVT ≠ Reg.TBL_STAT by decide))
  refine ⟨fun f hf => State.fld_congr ?_, fun lo => ?_, fun hc => (hkept.fld w3).trans (s.showFree_fld hc), ?_⟩
  · rcases hf with hf | hf
    · rw [hf]
      exact (hkept.rd _ w1).trans f1
    · rw [hf]
      exact (hkept.rd _ w2).trans f2
  · rw [State.on, hev, ← s.showFree_evt lo]
    exact Iff.rfl
  · rw [State.showTables_tbl, State.showFree_tbl]

/-! ### The retirement of a pseudo-channel -/

theorem State.rd_ite (c : Prop) [Decidable c] (x y : State) (a : Nat) : (if c then x else y).rd a = if c then x.rd a else y.rd a := apply_ite (State.rd · a) c x y

theorem State.holdRetirement_rd (s : State) (die kind unit a : Nat) : (s.holdRetirement die kind unit).rd a = s.rd a := by
  unfold State.holdRetirement
  split
  · rfl
  · split <;> rfl

/-- The fuse's word written. -/
def State.burnFuse (s : State) (die kind unit logical phys m n : Nat) : State :=
  (s.wr (Reg.DIA_FUSE m) (BitVec.ofNat 32 (2 ^ 31 + kind % 8 * 2 ^ 28 + unit % 4096 * 65536 + logical % 256 * 256 + phys % 256))).set (fuseFree die) n

/-- A repair of a row or a column noted. -/
def State.noteRepair (s : State) (kind m : Nat) : State :=
  if kind = 3 ∨ kind = 4 then { s with dia := { s.dia with repairs := s.dia.repairs ++ [m] } } else s

/-- Fuses that run low are told. -/
def State.warnLow (s : State) (die n : Nat) : State := if n ≤ 8 then s.raise Fd.DIA_EVT_FUSE_LOW noObj [die, n] else s

/-- Fuses that have run out are told. -/
def State.warnOut (s : State) (die n : Nat) : State := if n = 0 then s.raise Fd.DIA_EVT_FUSE_OUT noObj [die] else s

theorem State.blowFuse_nil {die : Nat} (h : s.freeFuses die = []) (kind unit logical phys : Nat) :
    s.blowFuse die kind unit logical phys = (s.holdRetirement die kind unit).raise Fd.DIA_EVT_FUSE_OUT noObj [die] := by
  unfold State.blowFuse
  rw [h]

theorem State.blowFuse_cons {die m : Nat} {rest : List Nat} (h : s.freeFuses die = m :: rest) (kind unit logical phys : Nat) :
    s.blowFuse die kind unit logical phys = (((((s.burnFuse die kind unit logical phys m rest.length).noteRepair kind m).raise
      Fd.DIA_EVT_FUSE_BLOWN m [die]).warnLow die rest.length).warnOut die rest.length) := by
  unfold State.blowFuse
  rw [h]
  rfl

/-- A fuse that is blown, or none left, moves words of DIA alone. -/
theorem State.blowFuse_rd (s : State) (die kind unit logical phys : Nat) {a : Nat} (ha : a < 0xD000000) (hm : a % 0x1000000 < 0x7F0000) :
    (s.blowFuse die kind unit logical phys).rd a = s.rd a := by
  have hr : ∀ (u : State) (lo o : Nat) (l : List Nat), lo < 32 → (u.raise ⟨Reg.DIA_EVT, lo, 1⟩ o l).rd a = u.rd a := fun u lo o l hl =>
    State.raise_rd _ _ _ _ _ _ (eventCode_lt (by decide) hl) (eventWord_eq_false hm ha) (by simp only [Reg.DIA_EVT]; omega) (by simp only [Reg.DIA_EVT]; omega)
  have hf : a ≠ (fuseFree die).addr := by
    unfold fuseFree
    split
    all_goals
      simp only [Fd.DIA_FUSE_FREE_SERAC, Fd.DIA_FUSE_FREE_PORT, Fd.DIA_FUSE_FREE_MAIN, Reg.DIA_FUSE_FREE]
      omega
  have hburn : ∀ m n, (s.burnFuse die kind unit logical phys m n).rd a = s.rd a := fun m n =>
    (State.rd_set_ne _ _ _ _ hf).trans (State.rd_wr_ne _ _ _ _ (by simp only [Reg.DIA_FUSE]; omega))
  have hnote : ∀ (u : State) (m : Nat), (u.noteRepair kind m).rd a = u.rd a := fun u m => by
    rw [State.noteRepair, State.rd_ite, State.rd_mk, ite_self]
  have hlow : ∀ (u : State) (n : Nat), (u.warnLow die n).rd a = u.rd a := fun u n => by
    rw [State.warnLow, State.rd_ite, Fd.DIA_EVT_FUSE_LOW, hr _ _ _ _ (by decide), ite_self]
  have hout : ∀ (u : State) (n : Nat), (u.warnOut die n).rd a = u.rd a := fun u n => by
    rw [State.warnOut, State.rd_ite, Fd.DIA_EVT_FUSE_OUT, hr _ _ _ _ (by decide), ite_self]
  cases h : s.freeFuses die with
  | nil =>
    rw [State.blowFuse_nil h]
    exact (hr _ _ _ _ (by decide)).trans (s.holdRetirement_rd _ _ _ _)
  | cons m rest =>
    rw [State.blowFuse_cons h, hout, hlow, Fd.DIA_EVT_FUSE_BLOWN, hr _ _ _ _ (by decide), hnote, hburn]

theorem State.blowFuse_kept (s : State) (die kind unit logical phys : Nat) : StkKept s (s.blowFuse die kind unit logical phys) := by
  refine ⟨fun a ha => s.blowFuse_rd _ _ _ _ _ (by have := ha.2; omega) (by have := ha.1; have := ha.2; omega), fun lo h => ?_⟩
  exact (congrArg (· == 1) (State.fld_congr (s.blowFuse_rd die kind unit logical phys (show Reg.TBL_EVT < 0xD000000 by decide)
    (show Reg.TBL_EVT % 0x1000000 < 0x7F0000 by decide)))).trans h

theorem State.blowFuse_tbl (s : State) (die kind unit logical phys : Nat) : (s.blowFuse die kind unit logical phys).tbl = s.tbl :=
  (State.blowFuse_keeps (F := 51380224) rfl (Keeps.refl _ s)).tbl.resolve_left (by decide)

/-- The pseudo-channel is no longer due. -/
def State.dropDue (s : State) (k pc : Nat) : State :=
  { s with tbl := { s.tbl with pcDue := s.tbl.pcDue.filter (· != (k, pc)), pcErrs := s.tbl.pcErrs.del (k * 64 + pc) } }

/-- The retirement counted and told; `spare` is the place that the fuse names. -/
def State.countRetired (s : State) (k pc spare : Nat) : State :=
  ((((s.dropDue k pc).blowFuse 2 2 k pc spare).set (Fd.STK_STAT_PC_RET k) (s.fld (Fd.STK_STAT_PC_RET k) + 1)).set (Fd.STK_STAT_STATE k) 2).raise
    Fd.TBL_EVT_PC_RETIRED k [pc]

/-- The spare pseudo-channel stands for the one that is retired. -/
def State.useSpare (s : State) (k pc : Nat) : State :=
  ((s.set (Fd.STK_STAT_SPARE_USED k) 1).set (Fd.STK_PCMAP_PC k) pc).set (Fd.STK_PCMAP_VALID k) 1

/-- The space of a pseudo-channel without a spare is given up. -/
def State.yieldSpace (s : State) (k : Nat) : State :=
  match Tab.find s.tbl.free k with
  | some b => { s with tbl := { s.tbl with free := s.tbl.free.put k (b - 1000 * 1048576) } }
  | none => s

theorem State.retirePc_first {k pc : Nat} (un : List (Nat × Nat)) (h : s.on (Fd.STK_STAT_SPARE_USED k) = false) : ∃ gone : List (Nat × Nat),
    s.retirePc k pc un = if 8 ≤ s.fld (Fd.STK_STAT_PC_RET k) + 1 then (((s.countRetired k pc 64).loseAll gone).useSpare k pc).loseStack k
      else ((s.countRetired k pc 64).loseAll gone).useSpare k pc := by
  have hf : ¬ s.on (Fd.STK_STAT_SPARE_USED k) = true := Bool.eq_false_iff.mp h
  refine ⟨((s.countRetired k pc 64).segsOn k).filter (fun p => un.contains p), ?_⟩
  unfold State.retirePc
  simp only [if_pos hf]
  rfl

theorem State.retirePc_again {k pc : Nat} (un : List (Nat × Nat)) (h : s.on (Fd.STK_STAT_SPARE_USED k) = true) : ∃ gone : List (Nat × Nat),
    ((s.countRetired k pc 255).segsOn k = [] → gone = []) ∧
    s.retirePc k pc un = if 8 ≤ s.fld (Fd.STK_STAT_PC_RET k) + 1 then (((s.countRetired k pc 255).loseAll gone).yieldSpace k).loseStack k
      else ((s.countRetired k pc 255).loseAll gone).yieldSpace k := by
  have hf : ¬ ¬ s.on (Fd.STK_STAT_SPARE_USED k) = true := not_not_intro h
  refine ⟨((s.countRetired k pc 255).segsOn k).filter (fun p => (s.countRetired k pc 255).linesOn p.1 pc), fun he => by rw [he]; rfl, ?_⟩
  unfold State.retirePc
  simp only [if_neg hf]
  rfl

theorem State.countRetired_spec (s : State) {k : Nat} (pc spare : Nat) (hk : k < 12) (hn : s.fld (Fd.STK_STAT_PC_RET k) < 8) :
    (s.countRetired k pc spare).fld (Fd.STK_STAT_PC_RET k) = s.fld (Fd.STK_STAT_PC_RET k) + 1 ∧
    (s.countRetired k pc spare).fld (Fd.STK_STAT_STATE k) = 2 ∧ (s.countRetired k pc spare).on Fd.TBL_EVT_PC_RETIRED = true ∧
    (s.countRetired k pc spare).tbl = (s.dropDue k pc).tbl := by
  have htbl : ((s.dropDue k pc).blowFuse 2 2 k pc spare).tbl = (s.dropDue k pc).tbl := State.blowFuse_tbl _ _ _ _ _ _
  unfold State.countRetired
  generalize (s.dropDue k pc).blowFuse 2 2 k pc spare = u at *
  have hrd : ∀ (x : State) (f : Fld), f.addr = Reg.STK_STAT k → (x.raise Fd.TBL_EVT_PC_RETIRED k [pc]).fld f = x.fld f := fun x f hf =>
    State.fld_congr (by rw [hf]; exact (StkKept.raise x (lo := 6) k [pc] (by decide)).rd _ (stkWord_stat hk).1)
  refine ⟨(hrd _ _ rfl).trans ?_, (hrd _ _ rfl).trans ?_, State.raise_on _ _ _ _ _ (by decide) (by decide) rfl (by decide), ?_⟩
  · refine (State.fld_set_beside _ _ _ _ _ _ _ (by decide)).trans ((State.fld_set_same _ _ _ _ _ (by decide)).trans (Nat.mod_eq_of_lt ?_))
    omega
  · exact State.fld_set_same _ _ _ _ _ (by decide)
  · rw [State.raise_tbl, State.set_tbl, State.set_tbl, htbl]

theorem State.yieldSpace_rd (s : State) (k a : Nat) : (s.yieldSpace k).rd a = s.rd a := by
  unfold State.yieldSpace
  split <;> rfl

theorem State.useSpare_spec (s : State) {k pc : Nat} (hpc : pc < 64) : (s.useSpare k pc).fld (Fd.STK_STAT_PC_RET k) = s.fld (Fd.STK_STAT_PC_RET k) ∧
    (s.useSpare k pc).fld (Fd.STK_STAT_STATE k) = s.fld (Fd.STK_STAT_STATE k) ∧ (s.useSpare k pc).on (Fd.STK_STAT_SPARE_USED k) = true ∧
    (s.useSpare k pc).fld (Fd.STK_PCMAP_PC k) = pc ∧ (s.useSpare k pc).on (Fd.STK_PCMAP_VALID k) = true ∧
    (∀ lo, (s.useSpare k pc).on ⟨Reg.TBL_EVT, lo, 1⟩ = s.on ⟨Reg.TBL_EVT, lo, 1⟩) := by
  unfold State.useSpare
  have hne : Reg.STK_STAT k ≠ Reg.STK_PCMAP k := by
    simp only [Reg.STK_STAT, Reg.STK_PCMAP]
    omega
  have hs : ∀ (x : State) (lo w : Nat), ((x.set (Fd.STK_PCMAP_PC k) pc).set (Fd.STK_PCMAP_VALID k) 1).fld ⟨Reg.STK_STAT k, lo, w⟩ = x.fld ⟨Reg.STK_STAT k, lo, w⟩ :=
    fun x lo w => (State.fld_set_word _ _ _ _ hne).trans (State.fld_set_word _ _ _ _ hne)
  refine ⟨(hs _ _ _).trans (State.fld_set_beside _ _ _ _ _ _ _ (by decide)), (hs _ _ _).trans (State.fld_set_beside _ _ _ _ _ _ _ (by decide)),
    beq_iff_eq.mpr ((hs _ _ _).trans (State.fld_set_same _ _ _ _ _ (by decide))), ?_, beq_iff_eq.mpr (State.fld_set_same _ _ _ _ _ (by decide)), fun lo => ?_⟩
  · exact (State.fld_set_beside _ _ _ _ _ _ _ (by decide)).trans ((State.fld_set_same _ _ _ _ _ (by decide)).trans (Nat.mod_eq_of_lt hpc))
  · have h1 : Reg.TBL_EVT ≠ Reg.STK_STAT k := by
      simp only [Reg.TBL_EVT, Reg.STK_STAT]
      omega
    have h2 : Reg.TBL_EVT ≠ Reg.STK_PCMAP k := by
      simp only [Reg.TBL_EVT, Reg.STK_PCMAP]
      omega
    exact congrArg (· == 1) ((State.fld_set_word _ _ _ _ h2).trans ((State.fld_set_word _ _ _ _ h2).trans (State.fld_set_word _ _ _ _ h1)))

theorem exec_pcRetired {stack : Fin 12} {pc : Fin 64} {lost : List (Fin 4096 × Fin 1048576)} (hk : stack.val < stackCount)
    (hs : s.fld (Fd.STK_STAT_STATE stack) ≠ 3)
    (hr : s.training = true ∨ (s.mainRuns = true ∧ s.tbl.pcDue.contains (stack.val, pc.val) = true)) : exec (.pcRetired stack pc lost) s =
      .next (s.retirePc stack pc (lost.map (fun p => (p.1.val, p.2.val)))).showFree.showTables := by
  refine congrArg Host.Outcome.next (if_pos ?_)
  unfold State.pcFails
  rw [Bool.and_eq_true, Bool.and_eq_true, decide_eq_true_iff, Bool.or_eq_true, Bool.and_eq_true, bne_iff_ne]
  exact ⟨⟨hk, hs⟩, hr⟩

theorem pcRetired_idle {stack : Fin 12} {pc : Fin 64} {lost : List (Fin 4096 × Fin 1048576)}
    (h : stackCount ≤ stack.val ∨ s.fld (Fd.STK_STAT_STATE stack) = 3 ∨ (s.training = false ∧ (s.mainRuns = false ∨ s.tbl.pcDue.contains (stack.val, pc.val) = false))) :
    exec (.pcRetired stack pc lost) s = .next s := by
  refine congrArg Host.Outcome.next (if_neg ?_)
  unfold State.pcFails
  rw [Bool.and_eq_true, Bool.and_eq_true, decide_eq_true_iff, Bool.or_eq_true, Bool.and_eq_true, bne_iff_ne]
  rintro ⟨⟨hk, hs⟩, hr⟩
  rcases h with h | h | ⟨h1, h2⟩
  · exact absurd hk (Nat.not_lt.mpr h)
  · exact hs h
  · rcases hr with hr | ⟨hr, hc⟩
    · exact absurd (hr.symm.trans h1) (by decide)
    · rcases h2 with h2 | h2
      · exact absurd (hr.symm.trans h2) (by decide)
      · exact absurd (hc.symm.trans h2) (by decide)

theorem Only.retired (s : State) (k pc : Nat) (un : List (Nat × Nat)) : Only [.tbl, .dia, .regs, .firn] s (s.retirePc k pc un).showFree.showTables :=
  (State.showTables_keeps (F := 51381248) rfl (State.showFree_keeps rfl (State.retirePc_keeps rfl (Keeps.refl _ s)))).only _ (fun p => by
    cases p <;> decide)

theorem Only.stackGone (s : State) (k : Nat) : Only [.tbl, .regs, .firn] s (s.loseStack k).showFree.showTables :=
  (State.showTables_keeps (F := 50332672) rfl (State.showFree_keeps rfl (State.loseStack_keeps rfl (Keeps.refl _ s)))).only _ (fun p => by
    cases p <;> decide)

/-- The first retirement on a stack takes its spare pseudo-channel. -/
theorem pcRetired_first {stack : Fin 12} {pc : Fin 64} {lost : List (Fin 4096 × Fin 1048576)} (hk : stack.val < stackCount)
    (hs : s.fld (Fd.STK_STAT_STATE stack) ≠ 3)
    (hr : s.training = true ∨ (s.mainRuns = true ∧ s.tbl.pcDue.contains (stack.val, pc.val) = true))
    (hu : s.on (Fd.STK_STAT_SPARE_USED stack) = false) (hn : s.fld (Fd.STK_STAT_PC_RET stack) < 7) :
    ∃ t, exec (.pcRetired stack pc lost) s = .next t ∧ t.fld (Fd.STK_STAT_PC_RET stack) = s.fld (Fd.STK_STAT_PC_RET stack) + 1 ∧
      t.fld (Fd.STK_STAT_STATE stack) = 2 ∧ t.on (Fd.STK_STAT_SPARE_USED stack) = true ∧ t.fld (Fd.STK_PCMAP_PC stack) = pc ∧
      t.on (Fd.STK_PCMAP_VALID stack) = true ∧ t.on Fd.TBL_EVT_PC_RETIRED = true ∧ Only [.tbl, .dia, .regs, .firn] s t := by
  have hx := exec_pcRetired (pc := pc) (lost := lost) hk hs hr
  have hon := Only.retired s stack pc (lost.map (fun p => (p.1.val, p.2.val)))
  obtain ⟨gone, he⟩ := State.retirePc_first (pc := pc) (lost.map (fun p => (p.1.val, p.2.val))) hu
  rw [if_neg (by omega)] at he
  obtain ⟨c1, c2, c3, -⟩ := s.countRetired_spec pc 64 stack.isLt (by omega)
  have hkept := (s.countRetired stack pc 64).loseAll_kept gone
  obtain ⟨u1, u2, u3, u4, u5, u6⟩ := ((s.countRetired stack pc 64).loseAll gone).useSpare_spec (k := stack) pc.isLt
  rw [hkept.fld (stkWord_stat stack.isLt).1] at u1 u2
  have u7 := (u6 6).trans (hkept.evt 6 c3)
  rw [← he] at u1 u2 u3 u4 u5 u7
  generalize s.retirePc stack pc (lost.map (fun p => (p.1.val, p.2.val))) = v at *
  obtain ⟨w1, w2, -, -⟩ := v.shown_spec stack.isLt
  exact ⟨_, hx, (w1 _ (.inl rfl)).trans (u1.trans c1), (w1 _ (.inl rfl)).trans (u2.trans c2), (congrArg (· == 1) (w1 _ (.inl rfl))).trans u3,
    (w1 _ (.inr rfl)).trans u4, (congrArg (· == 1) (w1 _ (.inr rfl))).trans u5, (w2 6).mpr u7, hon⟩

theorem State.loseAll_nil (s : State) : s.loseAll [] = s := rfl

theorem State.yieldSpace_cap (s : State) (k : Nat) : (s.yieldSpace k).stackCap k = s.stackCap k := by
  unfold State.stackCap State.carried
  rw [State.fld_congr (s.yieldSpace_rd k _)]

theorem State.yieldSpace_some {k b : Nat} (hf : Tab.find s.tbl.free k = some b) :
    Tab.find (s.yieldSpace k).tbl.free k = some (b - 1000 * 1048576) := by
  unfold State.yieldSpace
  rw [hf]
  exact Tab.find_put_self _ _ _

theorem State.yieldSpace_none {k : Nat} (hf : Tab.find s.tbl.free k = none) : Tab.find (s.yieldSpace k).tbl.free k = none := by
  unfold State.yieldSpace
  rw [hf]
  exact hf

theorem State.stackFree_up {k : Nat} (hk : k < stackCount) (hs : s.fld (Fd.STK_STAT_STATE k) ≠ 3) :
    s.stackFree k = (Tab.find s.tbl.free k).getD (s.stackCap k) := if_pos ⟨hk, hs⟩

/-- A retirement on a stack whose spare is used gives up the space of a pseudo-channel. -/
theorem pcRetired_again {stack : Fin 12} {pc : Fin 64} {lost : List (Fin 4096 × Fin 1048576)} (hk : stack.val < stackCount)
    (hs : s.fld (Fd.STK_STAT_STATE stack) ≠ 3)
    (hr : s.training = true ∨ (s.mainRuns = true ∧ s.tbl.pcDue.contains (stack.val, pc.val) = true))
    (hu : s.on (Fd.STK_STAT_SPARE_USED stack) = true) (hn : 1 ≤ s.fld (Fd.STK_STAT_PC_RET stack) ∧ s.fld (Fd.STK_STAT_PC_RET stack) < 7)
    (hseg : s.segsOn stack = []) : ∃ t, exec (.pcRetired stack pc lost) s = .next t ∧
      t.fld (Fd.STK_STAT_PC_RET stack) = s.fld (Fd.STK_STAT_PC_RET stack) + 1 ∧ t.fld (Fd.STK_STAT_STATE stack) = 2 ∧
      t.stackFree stack = s.stackFree stack - 1000 * 1048576 ∧ t.on Fd.TBL_EVT_PC_RETIRED = true ∧ Only [.tbl, .dia, .regs, .firn] s t := by
  have hx := exec_pcRetired (pc := pc) (lost := lost) hk hs hr
  have hon := Only.retired s stack pc (lost.map (fun p => (p.1.val, p.2.val)))
  obtain ⟨gone, hgone, he⟩ := State.retirePc_again (pc := pc) (lost.map (fun p => (p.1.val, p.2.val))) hu
  obtain ⟨c1, c2, c3, c4⟩ := s.countRetired_spec pc 255 stack.isLt (by omega)
  have hnone : (s.countRetired stack pc 255).segsOn stack = [] := by
    rw [← hseg]
    unfold State.segsOn State.tables State.tblOf
    rw [c4]
    rfl
  rw [if_neg (by omega), hgone hnone, State.loseAll_nil] at he
  have hcap : (s.countRetired stack pc 255).stackCap stack = s.stackCap stack - 1000 * 1048576 := by
    rw [State.stackCap, State.carried, c1, State.stackCap, State.carried]
    obtain ⟨h1, h2⟩ := hn
    generalize s.fld (Fd.STK_STAT_PC_RET stack) = n at *
    omega
  have hfind : Tab.find (s.countRetired stack pc 255).tbl.free stack = Tab.find s.tbl.free stack := by
    rw [c4]
    rfl
  have hyr := fun a => (s.countRetired stack pc 255).yieldSpace_rd stack a
  have hycap := ((s.countRetired stack pc 255).yieldSpace_cap stack).trans hcap
  have hysome := fun b => State.yieldSpace_some (s := s.countRetired stack pc 255) (k := stack) (b := b)
  have hynone := State.yieldSpace_none (s := s.countRetired stack pc 255) (k := stack)
  rw [hfind] at hysome hynone
  rw [← he] at hyr hycap hysome hynone
  generalize s.retirePc stack pc (lost.map (fun p => (p.1.val, p.2.val))) = v at *
  obtain ⟨w1, w2, -, w4⟩ := v.shown_spec stack.isLt
  have hv2 := (State.fld_congr (hyr _)).trans c2
  refine ⟨_, hx, (w1 _ (.inl rfl)).trans ((State.fld_congr (hyr _)).trans c1), (w1 _ (.inl rfl)).trans hv2, ?_,
    (w2 6).mpr ((congrArg (· == 1) (State.fld_congr (hyr _))).trans c3), hon⟩
  have hrd : v.showFree.showTables.rd (Reg.STK_STAT stack) = v.rd (Reg.STK_STAT stack) :=
    (v.showFree.showTables_kept.rd _ (stkWord_stat stack.isLt).1).trans (v.showFree_stk stack.isLt).1
  rw [State.stackFree_of hrd w4, State.stackFree_up hk (by rw [hv2]; decide), State.stackFree_up hk hs, hycap]
  cases hf : Tab.find s.tbl.free stack.val with
  | none => rw [hynone hf, Option.getD_none, Option.getD_none]
  | some b => rw [hysome b hf, Option.getD_some, Option.getD_some]

/-- The eighth retirement on a stack loses it. -/
theorem pcRetired_last {stack : Fin 12} {pc : Fin 64} {lost : List (Fin 4096 × Fin 1048576)} (hk : stack.val < stackCount)
    (hs : s.fld (Fd.STK_STAT_STATE stack) ≠ 3)
    (hr : s.training = true ∨ (s.mainRuns = true ∧ s.tbl.pcDue.contains (stack.val, pc.val) = true))
    (hn : s.fld (Fd.STK_STAT_PC_RET stack) = 7) : ∃ t, exec (.pcRetired stack pc lost) s = .next t ∧
      t.fld (Fd.STK_STAT_STATE stack) = 3 ∧ t.fld (Fd.STK_FREE_MIB stack) = 0 ∧ t.on Fd.TBL_EVT_PC_RETIRED = true ∧
      t.on Fd.TBL_EVT_STACK_LOST = true := by
  have hx := exec_pcRetired (pc := pc) (lost := lost) hk hs hr
  obtain ⟨u, hu, he⟩ : ∃ u : State, u.on Fd.TBL_EVT_PC_RETIRED = true ∧
      s.retirePc stack pc (lost.map (fun p => (p.1.val, p.2.val))) = u.loseStack stack := by
    cases hon : s.on (Fd.STK_STAT_SPARE_USED stack) with
    | false =>
      obtain ⟨gone, he⟩ := State.retirePc_first (pc := pc) (lost.map (fun p => (p.1.val, p.2.val))) hon
      rw [if_pos (by omega)] at he
      obtain ⟨-, -, c3, -⟩ := s.countRetired_spec pc 64 stack.isLt (by omega)
      obtain ⟨-, -, -, -, -, u6⟩ := ((s.countRetired stack pc 64).loseAll gone).useSpare_spec (k := stack) pc.isLt
      exact ⟨_, (u6 6).trans (((s.countRetired stack pc 64).loseAll_kept gone).evt 6 c3), he⟩
    | true =>
      obtain ⟨gone, -, he⟩ := State.retirePc_again (pc := pc) (lost.map (fun p => (p.1.val, p.2.val))) hon
      rw [if_pos (by omega)] at he
      obtain ⟨-, -, c3, -⟩ := s.countRetired_spec pc 255 stack.isLt (by omega)
      exact ⟨_, (congrArg (· == 1) (State.fld_congr (State.yieldSpace_rd _ _ _))).trans (((s.countRetired stack pc 255).loseAll_kept gone).evt 6 c3), he⟩
  obtain ⟨l1, l2, -, l4⟩ := u.loseStack_spec stack.isLt
  have l6 := l4 6 hu
  rw [he] at hx
  generalize u.loseStack stack = v at *
  obtain ⟨w1, w2, w3, -⟩ := v.shown_spec stack.isLt
  refine ⟨_, hx, (w1 _ (.inl rfl)).trans l1, (w3 hk).trans ?_, (w2 6).mpr l6, (w2 7).mpr l2⟩
  rw [State.stackFree, if_neg (fun h => h.2 l1)]
  rfl

theorem stackLost_lost {stack : Fin 12} (hk : stack.val < stackCount) (hs : s.fld (Fd.STK_STAT_STATE stack) ≠ 3) (hr : s.mainRuns = true ∨ s.training = true) :
    ∃ t, exec (.stackLost stack) s = .next t ∧ t.fld (Fd.STK_STAT_STATE stack) = 3 ∧ t.fld (Fd.STK_FREE_MIB stack) = 0 ∧
      t.on Fd.TBL_EVT_STACK_LOST = true ∧ t.segsOn stack = [] ∧ Only [.tbl, .regs, .firn] s t := by
  have hx := stackLost_exec hk hs hr
  have hon := Only.stackGone s stack
  obtain ⟨l1, l2, l3, -⟩ := s.loseStack_spec stack.isLt
  generalize s.loseStack stack = v at *
  obtain ⟨w1, w2, w3, w4⟩ := v.shown_spec stack.isLt
  refine ⟨_, hx, (w1 _ (.inl rfl)).trans l1, (w3 hk).trans ?_, (w2 7).mpr l2, (State.segsOn_of w4 stack).trans l3, hon⟩
  rw [State.stackFree, if_neg (fun h => h.2 l1)]
  rfl

/-- Settles O50, clause by clause: a corrected error by what it tells and what its memory keeps, and the loss of a stack by the segments that
lose their homes. -/
theorem memoryErrorsAreCountedAndStacksFail : Obligations.MemoryErrorsAreCountedAndStacksFail := by
  unfold Obligations.MemoryErrorsAreCountedAndStacksFail
  exact ⟨fun unit place s hn => eccLaneA hn, fun m unit place s hm hn => eccOther hm hn, fun unit place s hp hn => eccStack hp hn,
    fun unit place s hp hn => eccTile hp hn, fun obj s => ⟨_, rfl, s.tellBus_spec obj⟩, fun obj s hs hb => busLaneB hs hb,
    fun s hu hd => scrubLaneA hu hd, fun s r hm hr hd => scrubDdr4 hm hr hd, fun w value pass s h hg => eccTested h hg,
    fun w value s e h hf he => digestLatched h hf he, fun stack pc lost s hk hs hr hu hn => pcRetired_first hk hs hr hu hn,
    fun stack pc lost s hk hs hr hu hn hseg => pcRetired_again hk hs hr hu hn hseg, fun stack pc lost s hk hs hr hn => pcRetired_last hk hs hr hn,
    fun stack pc lost s h => ⟨s, pcRetired_idle h, rfl⟩, fun stack s hk hs hr => stackLost_lost hk hs hr, fun stack s h => ⟨s, stackLost_idle h, rfl⟩⟩

end Sys2Proof.Machine
end

section
-- In order: the one text holds more declarations than asynchronous elaboration has threads for.
set_option Elab.async false

/-! PROOFS. Transfers of the image store (R426), and the host table store with its device requests (R437 to R439). -/

namespace Sys2Proof.Machine

variable {s t u v : State} {ps : List Part} {ws : List Nat}

/-! ### The state in which a transfer command runs -/

/-- What the arrival of a request and the renewal of the leases it uses leave of the stores. -/
theorem State.Reaches.renewed {q : Req} {k : Nat} (h : s.Reaches q k u) (l : List Nat) :
    (u.renewAll l).zh.store = s.zh.store ∧ (u.renewAll l).zh.nvStore = s.zh.nvStore ∧ (u.renewAll l).clk = s.clk ∧ (u.renewAll l).ice = s.ice ∧
      Changes [.zh, .out] [Reg.SS_MBOX k, Reg.PORT_CNT_RX q.port] s (u.renewAll l) := by
  obtain ⟨x, e⟩ := State.renewAll_zh l u
  obtain ⟨-, -, hu, -⟩ := h.zh
  have hice : u.ice = s.ice := h.changes.1.2 .ice (by decide)
  have hst : u.zh.store = s.zh.store := by rw [hu]
  have hnv : u.zh.nvStore = s.zh.nvStore := by rw [hu]
  exact ⟨by rw [e]; exact hst, by rw [e]; exact hnv, (State.renewAll_clk _ _).trans h.clk, by rw [e]; exact hice,
    ((Changes.refl _ _ s).step h.changes).renewAll⟩

theorem State.freeHandle_of (h : t.zh.store = s.zh.store) : t.freeHandle = s.freeHandle := by
  unfold State.freeHandle
  rw [h]

theorem exec_xferOpen (q : Req) (kind flags : Byte) (size : BitVec 64) (s : State) : exec (.xferOpen q kind flags size) s =
    .next (s.request (.xferOpen q kind flags size) q 0x70 (judgeXferOpen kind flags size)) := rfl

theorem exec_xferData (q : Req) (handle : BitVec 16) (offset : BitVec 64) (data : List Byte) (s : State) :
    exec (.xferData q handle offset data) s = .next (s.request (.ping q) q 0x71 (judgeXferData handle offset data)) := rfl

theorem exec_xferClose (q : Req) (handle : BitVec 16) (hash : List Byte) (s : State) :
    exec (.xferClose q handle hash) s = .next (s.request (.ping q) q 0x72 (judgeXferClose handle hash)) := rfl

theorem exec_xferRead (q : Req) (handle : BitVec 16) (offset : BitVec 64) (length : Word) (s : State) : exec (.xferRead q handle offset length) s =
    .next (s.request (.xferRead q handle offset length) q 0x73 (judgeXferRead handle offset length)) := rfl

theorem exec_xferDelete (q : Req) (handle : BitVec 16) (s : State) : exec (.xferDelete q handle) s =
    .next (s.request (.xferDelete q handle) q 0x74 (judgeXferDelete handle)) := rfl

/-- A new object of the image store. -/
def State.newObj (s : State) (kind flags : Byte) (size : BitVec 64) : StoreObj :=
  { kind := kind.toNat, retain := bitOf flags.toNat 0, size := size.toNat, data := [], closed := false, hash := [], lastData := s.clk.now,
    domain := if kind.toNat = 4 then domMaint else domControl }

theorem State.setObj_find (s : State) (h : Nat) (o : StoreObj) : Tab.find (s.setObj h o).zh.store h = some o := Tab.find_put_self _ _ _

theorem State.delObj_find (s : State) (h : Nat) : Tab.find (s.delObj h).zh.store h = none := Tab.find_del_self _ _

theorem xferOpen_opens {q : Req} {kind flags : Byte} {size : BitVec 64} {k : Nat} (h : s.Reaches q k u)
    (hj : (judgeXferOpen kind flags size k u).first q u = none) : ∃ t, exec (.xferOpen q kind flags size) s = .next t ∧
      AnsweredOk t q 0x70 [s.freeHandle] ∧ Tab.find t.zh.store s.freeHandle = some (s.newObj kind flags size) ∧
      Changes [.zh, .out] [Reg.SS_MBOX k, Reg.PORT_CNT_RX q.port] s t := by
  obtain ⟨h1, -, h3, -, h5⟩ := h.renewed [xferDomain kind.toNat]
  have hrun : (judgeXferOpen kind flags size k u).run 0 (u.renewAll [xferDomain kind.toNat]) =
      ((u.renewAll [xferDomain kind.toNat]).setObj s.freeHandle (s.newObj kind flags size), .now 0 0 [s.freeHandle]) := by
    show openRun _ _ _ _ = _
    rw [openRun, State.freeHandle_of h1, h3]
    rfl
  refine ⟨_, (exec_xferOpen _ _ _ _ _).trans (congrArg _ (State.request_ok h hj rfl rfl hrun)), State.finish_ok _ _ _ _ _ _, ?_, h5.setObj.finish⟩
  rw [State.finish_store _ _ _ _ _ _ _ (by decide)]
  exact State.setObj_find _ _ _

/-! ### Commands on an object -/

/-- What a command on an object runs with. -/
theorem judgeObject_run {code h : Nat} {bad : Option (Nat × Nat)} {run : StoreObj → State → State × Reply} {k : Nat} (n : Nat) (v : State) :
    (judgeObject code h bad run k u).run n v = match Tab.find v.zh.store h with
      | none => (v, .now 0x40 0 [])
      | some o => run o v := rfl

theorem xferData_takes {q : Req} {handle : BitVec 16} {offset : BitVec 64} {data : List Byte} {k : Nat} {o : StoreObj} (h : s.Reaches q k u)
    (hj : (judgeXferData handle offset data k u).first q u = none) (ho : Tab.find s.zh.store handle.toNat = some o) (hc : o.closed = false) :
    ∃ t, exec (.xferData q handle offset data) s = .next t ∧ AnsweredOk t q 0x71 [] ∧
      Tab.find t.zh.store handle.toNat = some { o with data := putBytes offset.toNat data o.data, lastData := s.clk.now } ∧
      Changes [.zh, .out] [Reg.SS_MBOX k, Reg.PORT_CNT_RX q.port] s t := by
  obtain ⟨h1, -, h3, -, h5⟩ := h.renewed [u.objDomain handle.toNat]
  have hrun : (judgeXferData handle offset data k u).run 0 (u.renewAll [u.objDomain handle.toNat]) =
      ((u.renewAll [u.objDomain handle.toNat]).setObj handle.toNat { o with data := putBytes offset.toNat data o.data, lastData := s.clk.now }, .now 0 0 []) := by
    rw [judgeXferData, judgeObject_run, h1, ho]
    dsimp only
    rw [if_neg (by simp [hc]), h3]
  refine ⟨_, (exec_xferData _ _ _ _ _).trans (congrArg _ (State.request_ok (l := [u.objDomain handle.toNat]) h hj rfl rfl hrun)),
    State.finish_ok _ _ _ _ _ _, ?_, h5.setObj.finish⟩
  rw [State.finish_store _ _ _ _ _ _ _ (by decide)]
  exact State.setObj_find _ _ _

/-- A handle without an open object is refused. -/
theorem xferData_refused {q : Req} {handle : BitVec 16} {offset : BitVec 64} {data : List Byte} {k : Nat} (h : s.Reaches q k u)
    (hj : (judgeXferData handle offset data k u).first q u = none) (ho : (Tab.find s.zh.store handle.toNat).all (fun o => o.closed) = true) :
    ∃ t, exec (.xferData q handle offset data) s = .next t ∧ Refused t q 0x71 0x40 ∧ t.zh.store = s.zh.store := by
  obtain ⟨h1, -, -, -, -⟩ := h.renewed [u.objDomain handle.toNat]
  have hrun : (judgeXferData handle offset data k u).run 0 (u.renewAll [u.objDomain handle.toNat]) =
      (u.renewAll [u.objDomain handle.toNat], .now 0x40 0 []) := by
    rw [judgeXferData, judgeObject_run, h1]
    cases hf : Tab.find s.zh.store handle.toNat with
    | none => rfl
    | some o =>
      rw [hf, Option.all_some] at ho
      exact if_pos ho
  refine ⟨_, (exec_xferData _ _ _ _ _).trans (congrArg _ (State.request_answers h hj hrun)), State.finish_refused _ _ _ _ _ _ _ (by decide), ?_⟩
  rw [State.finish_store _ _ _ _ _ _ _ (by decide)]
  exact h1

/-- XFER_CLOSE on an object: incomplete, with another hash, or closed and kept. -/
theorem xferClose_run {handle : BitVec 16} {hash : List Byte} {k : Nat} {o : StoreObj} (v : State) (ho : Tab.find v.zh.store handle.toNat = some o)
    (hc : o.closed = false) : (judgeXferClose handle hash k u).run 0 v =
      if o.data.length < o.size then (v.delObj handle.toNat, .now 0x41 3 [])
      else if Config.sha256 o.bytes ≠ hash then (v.delObj handle.toNat, .now 0x41 2 [])
      else ((v.setObj handle.toNat { o with closed := true, hash := hash }).retain { o with closed := true, hash := hash }, .now 0 0 []) := by
  unfold judgeXferClose judgeObject
  dsimp only
  rw [ho]
  exact if_neg (by simp [hc])

theorem State.retain_spec (s : State) (o : StoreObj) : (s.retain o).zh.store = s.zh.store ∧ Changes [.zh] [] s (s.retain o) ∧
    (o.kept = true → s.zh.nvStore.any (fun p => p.2.kind == o.kind && p.2.hash == o.hash) = false →
      (s.retain o).zh.nvStore.any (fun p => p.2.kind == o.kind && p.2.hash == o.hash) = true) := by
  unfold State.retain
  split
  next h =>
    refine ⟨rfl, (Changes.refl _ _ s).upd_zh, fun _ _ => ?_⟩
    generalize ((List.range 256).find? (fun n => !Tab.has s.zh.nvStore n)).getD 0 = n
    have hf : Tab.find (s.zh.nvStore.put n o) n = some o := Tab.find_put_self _ _ _
    obtain ⟨p, hp, he⟩ := Option.map_eq_some_iff.mp hf
    refine List.any_eq_true.mpr ⟨p, List.mem_of_find?_eq_some hp, ?_⟩
    rw [he, beq_self_eq_true, beq_self_eq_true]
    rfl
  next h => exact ⟨rfl, Changes.refl _ _ s, fun h1 h2 => absurd ⟨h1, by rw [h2]; decide⟩ h⟩

/-- An object closed too early goes, and the close is refused. -/
theorem xferClose_incomplete {q : Req} {handle : BitVec 16} {hash : List Byte} {k : Nat} {o : StoreObj} (h : s.Reaches q k u)
    (hj : (judgeXferClose handle hash k u).first q u = none) (ho : Tab.find s.zh.store handle.toNat = some o) (hc : o.closed = false)
    (hl : o.data.length < o.size) : ∃ t, exec (.xferClose q handle hash) s = .next t ∧ Refused t q 0x72 0x41 ∧
      Tab.find t.zh.store handle.toNat = none ∧ Changes [.zh, .out] [Reg.SS_MBOX k, Reg.PORT_CNT_RX q.port] s t := by
  obtain ⟨h1, -, -, -, h5⟩ := h.renewed [u.objDomain handle.toNat]
  have hrun := xferClose_run (u := u) (hash := hash) (k := k) (u.renewAll [u.objDomain handle.toNat]) (h1 ▸ ho) hc
  rw [if_pos hl] at hrun
  refine ⟨_, (exec_xferClose _ _ _ _).trans (congrArg _ (State.request_answers h hj hrun)), State.finish_refused _ _ _ _ _ _ _ (by decide), ?_, h5.delObj.finish⟩
  rw [State.finish_store _ _ _ _ _ _ _ (by decide)]
  exact State.delObj_find _ _

theorem xferClose_judged {q : Req} {handle : BitVec 16} {hash : List Byte} {k : Nat} {o : StoreObj} (h : s.Reaches q k u)
    (hj : (judgeXferClose handle hash k u).first q u = none) (ho : Tab.find s.zh.store handle.toNat = some o) (hc : o.closed = false)
    (hl : o.size ≤ o.data.length) : ∃ t, exec (.xferClose q handle hash) s = .next t ∧
      (Config.sha256 o.bytes = hash → AnsweredOk t q 0x72 [] ∧ Tab.find t.zh.store handle.toNat = some { o with closed := true, hash := hash }) ∧
      (Config.sha256 o.bytes = hash → { o with closed := true, hash := hash }.kept = true →
        s.zh.nvStore.any (fun p => p.2.kind == o.kind && p.2.hash == hash) = false → t.zh.nvStore.any (fun p => p.2.kind == o.kind && p.2.hash == hash) = true) ∧
      (Config.sha256 o.bytes ≠ hash → Tab.find t.zh.store handle.toNat = none ∧ Refused t q 0x72 0x41) ∧
      Changes [.zh, .out] [Reg.SS_MBOX k, Reg.PORT_CNT_RX q.port] s t := by
  obtain ⟨h1, h2, -, -, h5⟩ := h.renewed [u.objDomain handle.toNat]
  have hrun := xferClose_run (u := u) (hash := hash) (k := k) (u.renewAll [u.objDomain handle.toNat]) (h1 ▸ ho) hc
  rw [if_neg (Nat.not_lt.mpr hl)] at hrun
  by_cases hs : Config.sha256 o.bytes = hash
  · rw [if_neg (fun hn => hn hs)] at hrun
    obtain ⟨k1, k2, k3⟩ := ((u.renewAll [u.objDomain handle.toNat]).setObj handle.toNat { o with closed := true, hash := hash }).retain_spec
      { o with closed := true, hash := hash }
    refine ⟨_, (exec_xferClose _ _ _ _).trans (congrArg _ (State.request_ok (l := [u.objDomain handle.toNat]) h hj rfl rfl hrun)),
      fun _ => ⟨State.finish_ok _ _ _ _ _ _, ?_⟩, fun _ hk hn => ?_, fun hn => absurd hs hn, (h5.setObj.step k2).finish⟩
    · rw [State.finish_store _ _ _ _ _ _ _ (by decide), k1]
      exact State.setObj_find _ _ _
    · rw [State.finish_nvStore _ _ _ _ _ _ _ (by decide)]
      exact k3 hk (h2.symm ▸ hn)
  · rw [if_pos hs] at hrun
    refine ⟨_, (exec_xferClose _ _ _ _).trans (congrArg _ (State.request_answers h hj hrun)), fun hn => absurd hn hs, fun hn => absurd hn hs,
      fun _ => ⟨?_, State.finish_refused _ _ _ _ _ _ _ (by decide)⟩, h5.delObj.finish⟩
    rw [State.finish_store _ _ _ _ _ _ _ (by decide)]
    exact State.delObj_find _ _

theorem State.readable_of (hs : t.zh.store = s.zh.store) (hi : t.ice = s.ice) (n : Nat) : t.readable n = s.readable n := by
  unfold State.readable
  rw [hs, hi]

theorem xferRead_reads {q : Req} {handle : BitVec 16} {offset : BitVec 64} {length : Word} {k : Nat} {b : List Byte} (h : s.Reaches q k u)
    (hj : (judgeXferRead handle offset length k u).first q u = none) (hb : s.readable handle.toNat = some b) :
    ∃ t, exec (.xferRead q handle offset length) s = .next t ∧
      AnsweredOk t q 0x73 (b.length :: ((b.drop offset.toNat).take length.toNat).map (·.toNat)) ∧
      Changes [.zh, .out] [Reg.SS_MBOX k, Reg.PORT_CNT_RX q.port] s t := by
  obtain ⟨h1, -, -, h4, h5⟩ := h.renewed []
  have hrun : (judgeXferRead handle offset length k u).run 0 (u.renewAll []) =
      (u.renewAll [], .now 0 0 (b.length :: ((b.drop offset.toNat).take length.toNat).map (·.toNat))) := by
    show (match (u.renewAll []).readable handle.toNat with | none => _ | some b => _) = _
    rw [State.readable_of h1 h4, hb]
  exact ⟨_, (exec_xferRead _ _ _ _ _).trans (congrArg _ (State.request_ok (l := []) h hj rfl rfl hrun)), State.finish_ok _ _ _ _ _ _, h5.finish⟩

theorem xferRead_refused {q : Req} {handle : BitVec 16} {offset : BitVec 64} {length : Word} {k : Nat} (h : s.Reaches q k u)
    (hj : (judgeXferRead handle offset length k u).first q u = none) (hb : s.readable handle.toNat = none) :
    ∃ t, exec (.xferRead q handle offset length) s = .next t ∧ Refused t q 0x73 0x40 ∧
      Changes [.zh, .out] [Reg.SS_MBOX k, Reg.PORT_CNT_RX q.port] s t := by
  obtain ⟨h1, -, -, h4, h5⟩ := h.renewed []
  have hrun : (judgeXferRead handle offset length k u).run 0 (u.renewAll []) = (u.renewAll [], .now 0x40 0 []) := by
    show (match (u.renewAll []).readable handle.toNat with | none => _ | some b => _) = _
    rw [State.readable_of h1 h4, hb]
  exact ⟨_, (exec_xferRead _ _ _ _ _).trans (congrArg _ (State.request_answers h hj hrun)), State.finish_refused _ _ _ _ _ _ _ (by decide), h5.finish⟩

theorem xferDelete_deletes {q : Req} {handle : BitVec 16} {k : Nat} {o : StoreObj} (h : s.Reaches q k u)
    (hj : (judgeXferDelete handle k u).first q u = none) (ho : Tab.find s.zh.store handle.toNat = some o) :
    ∃ t, exec (.xferDelete q handle) s = .next t ∧ AnsweredOk t q 0x74 [] ∧ Tab.find t.zh.store handle.toNat = none ∧
      Changes [.zh, .out] [Reg.SS_MBOX k, Reg.PORT_CNT_RX q.port] s t := by
  obtain ⟨h1, -, -, -, h5⟩ := h.renewed [u.objDomain handle.toNat]
  have hrun : (judgeXferDelete handle k u).run 0 (u.renewAll [u.objDomain handle.toNat]) =
      ((u.renewAll [u.objDomain handle.toNat]).delObj handle.toNat, .now 0 0 []) := by
    rw [judgeXferDelete, judgeObject_run, h1, ho]
  refine ⟨_, (exec_xferDelete _ _ _).trans (congrArg _ (State.request_ok (l := [u.objDomain handle.toNat]) h hj rfl rfl hrun)), State.finish_ok _ _ _ _ _ _, ?_, h5.delObj.finish⟩
  rw [State.finish_store _ _ _ _ _ _ _ (by decide)]
  exact State.delObj_find _ _

theorem State.expireObj_idle {n : Nat} (h : (Tab.find s.zh.store n).all (fun o => o.closed || decide (s.clk.now < o.lastData + sTicks 60)) = true) :
    s.expireObj n = s := by
  unfold State.expireObj
  split
  next => rfl
  next o ho =>
    rw [ho, Option.all_some, Bool.or_eq_true, decide_eq_true_iff] at h
    rw [if_neg]
    rintro ⟨h1, h2⟩
    exact h.elim h1 (fun h3 => absurd h3 (Nat.not_lt.mpr h2))

theorem State.expireObj_due {n : Nat} {o : StoreObj} (ho : Tab.find s.zh.store n = some o) (hc : o.closed = false)
    (hd : o.lastData + sTicks 60 ≤ s.clk.now) : s.expireObj n = s.delObj n := by
  unfold State.expireObj
  rw [ho]
  exact if_pos ⟨by simp [hc], hd⟩


/-! ### A master's answer to a device request -/

/-- The answer to an open device request that the attached session sends. -/
structure State.Answers (s : State) (q : Req) (cmd k high win : Nat) (d : DeviceReq) : Prop where
  port : s.portTakes Fd.PORT_CFG_MBOX q.port q.src q.row = true
  quar : (s.countRx q.port).quarEntry q.src = none
  slot : (s.countRx q.port).slotOf q.session = some k
  defer : q.defer = true ∨ q.deferMs = 0
  attached : s.zh.attached = some k
  mbox : q.mbox = 14
  fresh : seqVerdict ((s.onFrame k q).sess k).rxHigh ((s.onFrame k q).sess k).rxWin q.seq.toNat = .fresh high win
  dev : s.zh.devs.find? (fun d => d.tag == q.tag && d.cmd == cmd) = some d

theorem State.onFrame_attached (s : State) (k : Nat) (q : Req) : (s.onFrame k q).zh.attached = s.zh.attached := by
  unfold State.onFrame State.heard State.countRx State.count
  cases q.net <;> rfl

theorem State.onFrame_devs (s : State) (k : Nat) (q : Req) : (s.onFrame k q).zh.devs = s.zh.devs := by
  unfold State.onFrame State.heard State.countRx State.count
  cases q.net <;> rfl

theorem Changes.onFrame (h : Changes ps ws s t) {k : Nat} {q : Req} (hp : Reg.PORT_CNT_RX q.port ∈ ws) (hz : Part.zh ∈ ps := by repeat constructor) :
    Changes ps ws s (t.onFrame k q) := by
  have h1 : Changes ps ws s (t.countRx q.port) := h.count hp
  unfold State.onFrame State.heard
  cases q.net
  · exact h1.upd_zh hz
  · exact h1.upd_zh hz

/-- The state an answer is judged in: the frame counted and its number taken, the request no longer open. -/
def State.answered (s : State) (k high win : Nat) (q : Req) : State :=
  let u := (s.onFrame k q).setSess k { (s.onFrame k q).sess k with rxHigh := high, rxWin := win }
  { u with zh := { u.zh with devs := u.zh.devs.filter (fun (x : DeviceReq) => x.tag != q.tag) } }

theorem State.Answers.response {q : Req} {cmd k high win : Nat} {d : DeviceReq} (h : s.Answers q cmd k high win d) (f : DeviceReq → State → State) :
    s.response q cmd f = f d (s.answered k high win q) := by
  obtain ⟨h1, h2, h3, h4, h5, h6, h7, h8⟩ := h
  have hd : (!q.defer && q.deferMs != 0) = false := by
    rcases h4 with h4 | h4 <;> simp [h4]
  have hf : ((s.onFrame k q).zh.attached == some k && q.mbox == 14) = true := by
    rw [s.onFrame_attached, h5, h6, beq_self_eq_true]
    rfl
  have hgo : ∀ go : Nat → Nat → Nat → State → State, s.takeFrame q cmd (fun k s => s.zh.attached == some k && q.mbox == 14) go =
      go k high win (s.onFrame k q) := by
    intro go
    unfold State.takeFrame
    unfold State.onFrame at *
    simp only [h1, h2, h3, hd, hf, h7, Bool.not_true, Bool.false_eq_true, if_false, Option.isSome_none, Bool.or_false]
  have hdev : ∀ x, ((s.onFrame k q).setSess k x).zh.devs.find? (fun d => d.tag == q.tag && d.cmd == cmd) = some d := fun x =>
    (congrArg (List.find? (fun d => d.tag == q.tag && d.cmd == cmd)) (s.onFrame_devs k q)).trans h8
  unfold State.response
  rw [hgo]
  dsimp only
  rw [hdev]
  rfl

theorem State.answered_changes (s : State) (k high win : Nat) (q : Req) : Changes [.zh] [Reg.PORT_CNT_RX q.port] s (s.answered k high win q) :=
  (((Changes.refl [.zh] [Reg.PORT_CNT_RX q.port] s).onFrame (by simp)).upd_zh).upd_zh

/-! ### Saves that end and fail -/

theorem State.freeHeld_spec (s : State) : s.freeHeld.tbl.saves = s.tbl.saves ∧ s.freeHeld.tbl.tbl = s.tbl.tbl := by
  unfold State.freeHeld
  have h := foldl_keep (f := fun (s : State) (h : SpaceHeld) => s.giveSpace h.stack h.bytes) (fun v : State => (v.tbl.saves, v.tbl.tbl)) (fun _ _ => rfl)
    (s.tbl.held.filter (fun h => !h.saving && !s.ice.batches.any (fun b => decide (b.2.frame < h.frame))))
    { s with tbl := { s.tbl with held := s.tbl.held.filter (fun h => !(!h.saving && !s.ice.batches.any (fun b => decide (b.2.frame < h.frame)))) } }
  exact Prod.mk.inj h

theorem State.tblOf_map (h : t.tbl.tbl = s.tbl.tbl) (k : Nat) : t.tblOf k = s.tblOf k := congrArg (fun x => Tab.at Tbl.empty x k) h

theorem State.storeKey_class (s : State) (n g : Nat) : (s.storeKey n g).getD 2 0 =
    if s.tblKind n = 1 then ((Tab.find (s.tblOf n).cls g).or (s.classOf (g % 4096))).getD 0 else 0 := by
  unfold State.storeKey
  simp only [List.getD_cons_succ, List.getD_cons_zero]

/-- The class in a segment's key rests on its table, on the jobs and on the table's kind. -/
theorem State.storeKey_class_of {n : Nat} (hr : t.tblKind n = s.tblKind n) (ht : t.tblOf n = s.tblOf n) (hj : t.jobs = s.jobs) (hp : t.plan = s.plan)
    (g : Nat) : (t.storeKey n g).getD 2 0 = (s.storeKey n g).getD 2 0 := by
  rw [State.storeKey_class, State.storeKey_class, hr, ht]
  unfold State.classOf State.jobOf State.job
  rw [hj, hp]

/-- A save whose last part the store has taken: it leaves the list, and its segment is clean. -/
theorem State.saveDone_clean {key : List Nat} {j : SaveJob} (hf : s.tbl.saves.find? (fun x => x.key == key) = some j) (hp : j.push = false)
    (hw : j.written = false) (hk : (s.storeKey j.table j.seg).getD 2 0 = j.key.getD 2 0) :
    (s.saveDone key).tbl.saves = s.tbl.saves.filter (fun x => x.key != key) ∧
      ((s.saveDone key).tblOf j.table).dirty = (s.tblOf j.table).dirty.filter (· != j.seg) := by
  unfold State.saveDone
  rw [hf]
  dsimp only
  rw [if_neg (by simp [hp])]
  generalize hu : State.setSaves s (s.tbl.saves.filter (fun x => x.key != key)) = u
  have hus : u.tbl.saves = s.tbl.saves.filter (fun x => x.key != key) := by rw [← hu]; rfl
  have hut : u.tbl.tbl = s.tbl.tbl := by rw [← hu]; rfl
  have hkey : (u.storeKey j.table j.seg).getD 2 0 = j.key.getD 2 0 := by rw [← hu]; exact hk
  rw [if_neg]
  · refine ⟨(State.freeHeld_spec _).1.trans hus, ?_⟩
    rw [State.tblOf_map (State.freeHeld_spec _).2, State.setTbl_tblOf]
    exact congrArg (fun x : Tbl => x.dirty.filter (· != j.seg)) (State.tblOf_map hut j.table)
  · rintro (h | h)
    · exact absurd (hw.symm.trans h) (by decide)
    · exact h hkey

/-- A save that fails is marked with its time, and its event is raised. -/
theorem State.saveFailed_spec {key : List Nat} {j : SaveJob} (hf : s.tbl.saves.find? (fun x => x.key == key) = some j) (hp : j.push = false) :
    (s.saveFailed key).tbl.saves = s.tbl.saves.map (fun x => if x.key == key then { x with failed := some s.clk.now } else x) ∧
      (s.saveFailed key).on Fd.TBL_EVT_SAVE_FAIL = true := by
  unfold State.saveFailed
  rw [hf]
  dsimp only
  rw [if_neg (by simp [hp])]
  exact ⟨by rw [State.raise_tbl]; rfl, State.raise_on _ _ _ _ _ (by decide) (by decide) rfl (by decide)⟩

/-! ### A request sent again -/

theorem State.retryDevice_idle {tag : Word}
    (h : (s.zh.devs.find? (fun d => d.tag == tag)).all (fun d => decide (s.clk.now < d.sentAt + sTicks 1)) = true) : s.retryDevice tag = s := by
  unfold State.retryDevice
  split
  next => rfl
  next d hd =>
    rw [hd, Option.all_some, decide_eq_true_iff] at h
    exact if_pos h

/-- The state in which a request is given up. -/
def State.dropDevice (s : State) (tag : Word) : State :=
  { s with zh := { s.zh with devs := s.zh.devs.filter (fun (x : DeviceReq) => x.tag != tag) } }

/-- A request sent three times is given up: a save fails, and a load takes the next source. -/
theorem State.retryDevice_gives {tag : Word} {d : DeviceReq} (hd : s.zh.devs.find? (fun d => d.tag == tag) = some d)
    (ht : d.sentAt + sTicks 1 ≤ s.clk.now) (hn : 3 < d.sent) : s.retryDevice tag =
      if d.cmd = 0xC1 then ((s.dropDevice tag).saveFailed d.key).nextDevice
      else ((s.dropDevice tag).setGot ((s.dropDevice tag).tbl.got ++ [⟨d.key, none⟩])).nextDevice := by
  unfold State.retryDevice
  rw [hd]
  dsimp only
  rw [if_neg (Nat.not_lt.mpr ht), if_neg (Nat.not_le.mpr hn)]
  rfl

/-- A request not answered in time is sent again. -/
theorem State.retryDevice_resends {tag : Word} {d : DeviceReq} (hd : s.zh.devs.find? (fun d => d.tag == tag) = some d)
    (ht : d.sentAt + sTicks 1 ≤ s.clk.now) (hn : d.sent ≤ 3) : ∃ fields, s.retryDevice tag = s.resend d fields := by
  unfold State.retryDevice
  rw [hd]
  dsimp only
  rw [if_neg (Nat.not_lt.mpr ht), if_pos hn]
  cases s.tbl.saves.find? (fun j => d.cmd == 0xC1 && j.key == d.key) with
  | none => exact ⟨_, rfl⟩
  | some j => exact ⟨_, rfl⟩

/-- The first request under a tag, its entry written anew. -/
theorem find_map_tag {tag : Word} {d e : DeviceReq} (he : e.tag = d.tag) {l : List DeviceReq} (hd : l.find? (fun d => d.tag == tag) = some d) :
    (l.map (fun x => if x.tag == d.tag then e else x)).find? (fun d => d.tag == tag) = some e := by
  have htag : (d.tag == tag) = true := List.find?_some (p := fun d : DeviceReq => d.tag == tag) hd
  induction l with
  | nil => cases hd
  | cons x xs ih =>
    rw [List.find?_cons] at hd
    rw [List.map_cons, List.find?_cons]
    cases hx : (x.tag == tag) with
    | true =>
      rw [hx] at hd
      cases hd
      rw [beq_self_eq_true, if_pos rfl, he, hx]
    | false =>
      rw [hx] at hd
      have hne : (x.tag == d.tag) = false := by rw [eq_of_beq htag, hx]
      rw [hne, if_neg (by decide), hx]
      exact ih hd

theorem State.resend_spec {tag : Word} {d : DeviceReq} {k : Nat} (hd : s.zh.devs.find? (fun d => d.tag == tag) = some d) (hk : s.zh.attached = some k)
    (fields : List Nat) : (s.resend d fields).zh.devs.find? (fun d => d.tag == tag) = some { d with sentAt := s.clk.now, sent := d.sent + 1 } ∧
      (s.resend d fields).out = .device k d.cmd d.tag.toNat (s.sess k).txNext fields :: s.out := by
  unfold State.resend
  rw [hk]
  exact ⟨find_map_tag (d := d) (e := { d with sentAt := s.clk.now, sent := d.sent + 1 }) rfl hd, rfl⟩

/-! ### The store attached -/

theorem State.sendDevice_attached (s : State) (d : DeviceReq) (l : List Nat) : (s.sendDevice d l).zh.attached = s.zh.attached := by
  unfold State.sendDevice
  cases hk : s.zh.attached with
  | none => exact hk
  | some k => exact hk

theorem State.nextDevice_attached (s : State) : s.nextDevice.zh.attached = s.zh.attached := by
  unfold State.nextDevice
  split
  next => rfl
  next =>
    cases s.tbl.saves.find? (fun j => j.failed.isNone) with
    | some j => exact State.sendDevice_attached _ _ _
    | none =>
      cases s.nextLoad with
      | none => rfl
      | some p => exact State.sendDevice_attached _ _ _

theorem exec_storeAttach (q : Req) (s : State) : exec (.storeAttach q) s = .next (s.request (.storeAttach q) q 0x78 judgeStoreAttach) := rfl

theorem exec_storeDetach (q : Req) (s : State) : exec (.storeDetach q) s = .next (s.request (.storeDetach q) q 0x79 judgeStoreDetach) := rfl

theorem storeAttach_attaches {q : Req} {k : Nat} (h : s.Reaches q k u) (hj : (judgeStoreAttach k u).first q u = none) :
    ∃ t, exec (.storeAttach q) s = .next t ∧ AnsweredOk t q 0x78 [] ∧ t.zh.attached = some k ∧
      Changes [.zh, .out] [Reg.SS_MBOX k, Reg.PORT_CNT_RX q.port] s t := by
  obtain ⟨-, -, -, -, h5⟩ := h.renewed []
  have hrun : (judgeStoreAttach k u).run 0 (u.renewAll []) =
      (State.nextDevice { u.renewAll [] with zh := { (u.renewAll []).zh with attached := some k } }, .now 0 0 []) := rfl
  refine ⟨_, (exec_storeAttach _ _).trans (congrArg _ (State.request_ok (l := []) h hj rfl rfl hrun)), State.finish_ok _ _ _ _ _ _, ?_,
    (h5.upd_zh.nextDevice).finish⟩
  rw [State.finish_attached _ _ _ _ _ _ _ (by decide)]
  exact State.nextDevice_attached _

theorem storeDetach_detaches {q : Req} {k : Nat} (h : s.Reaches q k u) (hj : (judgeStoreDetach k u).first q u = none) :
    ∃ t, exec (.storeDetach q) s = .next t ∧ AnsweredOk t q 0x79 [] ∧ t.zh.attached = none ∧ t.zh.devs = [] ∧
      Changes [.zh, .out] [Reg.SS_MBOX k, Reg.PORT_CNT_RX q.port] s t := by
  obtain ⟨-, -, -, -, h5⟩ := h.renewed []
  have hrun : (judgeStoreDetach k u).run 0 (u.renewAll []) = ((u.renewAll []).detachStore, .now 0 0 []) := rfl
  refine ⟨_, (exec_storeDetach _ _).trans (congrArg _ (State.request_ok (l := []) h hj rfl rfl hrun)), State.finish_ok _ _ _ _ _ _, ?_, ?_,
    (h5.upd_zh).finish⟩
  · rw [State.finish_attached _ _ _ _ _ _ _ (by decide)]
    rfl
  · rw [State.finish_devs _ _ _ _ _ _ _ (by decide)]
    rfl

/-! ### The answers to a save and to a load -/

theorem State.answered_tbl (s : State) (k high win : Nat) (q : Req) : (s.answered k high win q).tbl = s.tbl :=
  (s.answered_changes k high win q).1.2 .tbl (by decide)

theorem State.answered_clk (s : State) (k high win : Nat) (q : Req) : (s.answered k high win q).clk = s.clk :=
  (s.answered_changes k high win q).1.2 .clk (by decide)

theorem State.answered_storeKey (s : State) (k high win : Nat) (q : Req) (n g : Nat) :
    ((s.answered k high win q).storeKey n g).getD 2 0 = (s.storeKey n g).getD 2 0 := by
  have hc := s.answered_changes k high win q
  have hr : ∀ a, a ≠ Reg.PORT_CNT_RX q.port → (s.answered k high win q).rd a = s.rd a := fun a ha => by
    refine Eq.trans ?_ (State.rd_count s _ _ ha)
    unfold State.answered State.onFrame State.heard
    cases q.net <;> rfl
  refine State.storeKey_class_of (State.fld_congr (hr _ ?_)) (State.tblOf_of (s.answered_tbl k high win q) n) (hc.1.2 .jobs (by decide))
    (hc.1.2 .plan (by decide)) g
  simp only [Fd.T_CFG_KIND, Reg.T_CFG, Reg.PORT_CNT_RX]
  omega

/-- What the answer brings before it is judged, beside the parts of a save. -/
theorem Only.answered {k high win : Nat} {q : Req} (h : Only [.zh, .tbl, .out, .regs] (s.answered k high win q) t) : Only [.zh, .tbl, .out, .regs] s t :=
  ((s.answered_changes k high win q).1.mono (by decide)).trans h

theorem exec_storePutResponse (q : Req) (ok : Bool) (s : State) : exec (.storePutResponse q ok) s = .next (s.response q 0xC1 (fun d s =>
    if ¬ ok then (s.saveFailed d.key).nextDevice
    else if d.last then (s.saveDone d.key).nextDevice
    else match s.tbl.saves.find? (fun j => j.key == d.key) with
      | some j => s.sendPart j (d.offset + partBytes)
      | none => s.nextDevice)) := rfl

theorem exec_storeGetResponse_none (q : Req) (size : Nat) (epoch : BitVec 64) (s : State) : exec (.storeGetResponse q size epoch none) s =
    .next (s.response q 0xC2 (fun d s => (s.setGot (s.tbl.got ++ [⟨d.key, none⟩])).nextDevice)) := rfl

theorem exec_storeGetResponse_some (q : Req) (size : Nat) (epoch : BitVec 64) (b : List Byte) (s : State) :
    exec (.storeGetResponse q size epoch (some b)) s = .next (s.response q 0xC2 (fun d s =>
      if (d.buf ++ b).length < size ∧ b ≠ [] then s.askPart (d.key.take 5 ++ [epoch.toNat]) (d.buf ++ b)
      else (s.setGot (s.tbl.got ++ [⟨d.key.take 5 ++ [epoch.toNat], some (epoch.toNat, d.buf ++ b)⟩])).nextDevice)) := rfl

theorem storePut_saves {q : Req} {k high win : Nat} {d : DeviceReq} {j : SaveJob} (h : s.Answers q 0xC1 k high win d) (hl : d.last = true)
    (hf : s.tbl.saves.find? (fun x => x.key == d.key) = some j) (hp : j.push = false) (hw : j.written = false)
    (hk : (s.storeKey j.table j.seg).getD 2 0 = j.key.getD 2 0) : ∃ t, exec (.storePutResponse q true) s = .next t ∧
      t.tbl.saves = s.tbl.saves.filter (fun x => x.key != d.key) ∧ (t.tblOf j.table).dirty = (s.tblOf j.table).dirty.filter (· != j.seg) ∧
      Only [.zh, .tbl, .out, .regs] s t := by
  have hx : exec (.storePutResponse q true) s = .next (((s.answered k high win q).saveDone d.key).nextDevice) := by
    rw [exec_storePutResponse, h.response]
    exact congrArg Host.Outcome.next ((if_neg (by decide)).trans (if_pos hl))
  have hkeep := State.nextDevice_keeps rfl (State.saveDone_keeps (x1 := d.key) (F := Part.zh.bit ||| Part.tbl.bit ||| Part.out.bit ||| Part.regs.bit) rfl
    (Keeps.refl _ (s.answered k high win q)))
  have htbl := s.answered_tbl k high win q
  have hkey := (s.answered_storeKey k high win q j.table j.seg).trans hk
  have honly := Only.answered (hkeep.only _ (fun p => by cases p <;> decide))
  generalize s.answered k high win q = u at *
  obtain ⟨h1, h2⟩ := State.saveDone_clean (s := u) (htbl ▸ hf) hp hw hkey
  refine ⟨_, hx, ?_, ?_, ?_⟩
  · rw [State.nextDevice_tbl, h1, htbl]
  · rw [State.tblOf_of (State.nextDevice_tbl _), h2, State.tblOf_of htbl]
  · exact honly

theorem storePut_fails {q : Req} {k high win : Nat} {d : DeviceReq} {j : SaveJob} (h : s.Answers q 0xC1 k high win d)
    (hf : s.tbl.saves.find? (fun x => x.key == d.key) = some j) (hp : j.push = false) : ∃ t, exec (.storePutResponse q false) s = .next t ∧
      t.tbl.saves = s.tbl.saves.map (fun x => if x.key == d.key then { x with failed := some s.clk.now } else x) ∧
      t.on Fd.TBL_EVT_SAVE_FAIL = true ∧ Only [.zh, .tbl, .out, .regs, .firn] s t := by
  have hx : exec (.storePutResponse q false) s = .next (((s.answered k high win q).saveFailed d.key).nextDevice) := by
    rw [exec_storePutResponse, h.response]
    exact congrArg Host.Outcome.next (if_pos (by decide))
  have hkeep := State.nextDevice_keeps rfl (State.saveFailed_keeps (x1 := d.key) (F := Part.zh.bit ||| Part.tbl.bit ||| Part.out.bit ||| Part.regs.bit ||| Part.firn.bit) rfl
    (Keeps.refl _ (s.answered k high win q)))
  have htbl := s.answered_tbl k high win q
  have hclk := s.answered_clk k high win q
  have honly := ((s.answered_changes k high win q).1.mono (qs := [.zh, .tbl, .out, .regs, .firn]) (by decide)).trans (hkeep.only _ (fun p => by cases p <;> decide))
  generalize s.answered k high win q = u at *
  obtain ⟨h1, h2⟩ := State.saveFailed_spec (s := u) (htbl ▸ hf) hp
  refine ⟨_, hx, ?_, ?_, honly⟩
  · rw [State.nextDevice_tbl, h1, htbl, hclk]
  · exact (congrArg (· == 1) (State.nextDevice_fld _ _)).trans h2

/-- A load's answer is kept for its segment, and the next request is sent. -/
theorem State.answered_got {k high win : Nat} {q : Req} (x : StoreAnswer) :
    (((s.answered k high win q).setGot ((s.answered k high win q).tbl.got ++ [x])).nextDevice).tbl.got = s.tbl.got ++ [x] ∧
      Only [.zh, .tbl, .out, .regs] s (((s.answered k high win q).setGot ((s.answered k high win q).tbl.got ++ [x])).nextDevice) := by
  refine ⟨?_, Only.answered ((State.nextDevice_keeps rfl (State.setGot_keeps (F := Part.zh.bit ||| Part.tbl.bit ||| Part.out.bit) rfl (Keeps.refl _ _))).only _ (fun p => by cases p <;> decide))⟩
  rw [State.nextDevice_tbl, s.answered_tbl]
  rfl

theorem retry_saveFails {tag : Word} {d : DeviceReq} {j : SaveJob} (hd : s.zh.devs.find? (fun d => d.tag == tag) = some d)
    (ht : d.sentAt + sTicks 1 ≤ s.clk.now) (hn : 3 < d.sent) (hc : d.cmd = 0xC1) (hf : s.tbl.saves.find? (fun x => x.key == d.key) = some j)
    (hp : j.push = false) :
    (s.retryDevice tag).tbl.saves = s.tbl.saves.map (fun x => if x.key == d.key then { x with failed := some s.clk.now } else x) ∧
      (s.retryDevice tag).on Fd.TBL_EVT_SAVE_FAIL = true := by
  rw [State.retryDevice_gives hd ht hn, if_pos hc]
  obtain ⟨h1, h2⟩ := State.saveFailed_spec (s := s.dropDevice tag) hf hp
  exact ⟨by rw [State.nextDevice_tbl, h1]; rfl, (congrArg (· == 1) (State.nextDevice_fld _ _)).trans h2⟩

theorem retry_loadGives {tag : Word} {d : DeviceReq} (hd : s.zh.devs.find? (fun d => d.tag == tag) = some d)
    (ht : d.sentAt + sTicks 1 ≤ s.clk.now) (hn : 3 < d.sent) (hc : d.cmd ≠ 0xC1) : (s.retryDevice tag).tbl.got = s.tbl.got ++ [⟨d.key, none⟩] ∧
      Only [.zh, .tbl, .out] s (s.retryDevice tag) := by
  rw [State.retryDevice_gives hd ht hn, if_neg hc]
  refine ⟨by rw [State.nextDevice_tbl]; rfl, ?_⟩
  exact (State.nextDevice_keeps rfl (State.setGot_keeps (F := Part.zh.bit ||| Part.tbl.bit ||| Part.out.bit) rfl
    (Keeps.upd_zh rfl (Keeps.refl _ s)))).only _ (fun p => by cases p <;> decide)

theorem exec_xferExpiry (handle : BitVec 16) (s : State) : exec (.xferExpiry handle) s = .next (s.expireObj handle.toNat) := rfl

theorem exec_deviceRequestRetry (tag : Word) (s : State) : exec (.deviceRequestRetry tag) s = .next (s.retryDevice tag) := rfl

/-- Settles O48, command by command. -/
theorem storeTransfersAct : Obligations.StoreTransfersAct := by
  unfold Obligations.StoreTransfersAct
  refine ⟨fun _ _ _ _ _ _ _ h hj => xferOpen_opens h hj, fun _ _ _ _ _ _ _ _ h hj ho hc => xferData_takes h hj ho hc,
    fun _ _ _ _ _ _ _ h hj ho hc hl => xferClose_judged h hj ho hc hl, fun _ _ _ _ _ _ _ h hj ho hc hl => xferClose_incomplete h hj ho hc hl,
    fun _ _ _ _ _ _ _ _ h hj hb => xferRead_reads h hj hb, fun _ _ _ _ _ _ _ h hj hb => xferRead_refused h hj hb,
    fun _ _ _ _ _ _ h hj ho => xferDelete_deletes h hj ho, fun _ _ _ _ _ _ _ h hj ho => xferData_refused h hj ho, ?_, ?_,
    fun _ _ _ _ h hj => storeAttach_attaches h hj, fun _ _ _ _ h hj => storeDetach_detaches h hj, ?_, ?_, ?_, ?_, ?_, ?_, ?_, ?_⟩
  · intro handle s h
    exact ⟨_, exec_xferExpiry _ _, State.expireObj_idle h⟩
  · intro handle s o ho hc hd
    refine ⟨_, (exec_xferExpiry _ _).trans (congrArg _ (State.expireObj_due ho hc hd)), State.delObj_find _ _, ?_⟩
    exact (Keeps.upd_zh (F := Part.zh.bit) rfl (Keeps.refl _ s)).only _ (fun p => by cases p <;> decide)
  · intro q s k high win d j h1 h2 h3 h4 h5 h6 h7 h8 hl hf hp hw hk
    exact storePut_saves ⟨h1, h2, h3, h4, h5, h6, h7, h8⟩ hl hf hp hw hk
  · intro q size epoch s k high win d h1 h2 h3 h4 h5 h6 h7 h8
    have h : s.Answers q 0xC2 k high win d := ⟨h1, h2, h3, h4, h5, h6, h7, h8⟩
    obtain ⟨e1, e2⟩ := s.answered_got (k := k) (high := high) (win := win) (q := q) ⟨d.key, none⟩
    exact ⟨_, (exec_storeGetResponse_none _ _ _ _).trans (congrArg _ (h.response _)), e1, e2⟩
  · intro q size epoch b s k high win d h1 h2 h3 h4 h5 h6 h7 h8 hs
    have h : s.Answers q 0xC2 k high win d := ⟨h1, h2, h3, h4, h5, h6, h7, h8⟩
    obtain ⟨e1, e2⟩ := s.answered_got (k := k) (high := high) (win := win) (q := q) ⟨d.key.take 5 ++ [epoch.toNat], some (epoch.toNat, d.buf ++ b)⟩
    exact ⟨_, (exec_storeGetResponse_some _ _ _ _ _).trans (congrArg _ ((h.response _).trans (if_neg (fun hn => Nat.not_lt.mpr hs hn.1)))), e1, e2⟩
  · intro q s k high win d j h1 h2 h3 h4 h5 h6 h7 h8 hf hp
    exact storePut_fails ⟨h1, h2, h3, h4, h5, h6, h7, h8⟩ hf hp
  · intro tag s h
    exact ⟨_, exec_deviceRequestRetry _ _, State.retryDevice_idle h⟩
  · intro tag s d j hd ht hn hc hf hp
    exact ⟨_, exec_deviceRequestRetry _ _, retry_saveFails hd ht hn hc hf hp⟩
  · intro tag s k d hd ht hn hk
    obtain ⟨fields, hx⟩ := State.retryDevice_resends hd ht hn
    obtain ⟨h1, h2⟩ := State.resend_spec hd hk fields
    exact ⟨_, (exec_deviceRequestRetry _ _).trans (congrArg _ hx), h1, ⟨fields, h2⟩,
      (State.resend_keeps (F := Part.zh.bit ||| Part.out.bit) rfl (Keeps.refl _ s)).only _ (fun p => by cases p <;> decide)⟩
  · intro tag s d hd ht hn hc
    exact ⟨_, exec_deviceRequestRetry _ _, retry_loadGives hd ht hn hc⟩
end Sys2Proof.Machine
end

section
-- In order: the one text holds more declarations than asynchronous elaboration has threads for.
set_option Elab.async false

/-! PROOFS. Sessions and their keys (R536 to R539), attestation (R544), enrolment and program keys (R532 to R535), and exchanges between modules
(R541 to R543). -/

namespace Sys2Proof.Machine

variable {s t u v : State} {ps : List Part} {ws : List Nat}

/-! ### What a counted frame leaves of the keys -/

theorem State.countRx_rd_far {p a : Nat} (hp : p < 16) (h : a < 0x9010000 ∨ 0x9020000 ≤ a) : (s.countRx p).rd a = s.rd a := by
  refine State.rd_count _ _ _ ?_
  simp only [Reg.PORT_CNT_RX]
  omega

theorem State.countRx_fld_far {p : Nat} {f : Fld} (hp : p < 16) (h : f.addr < 0x9010000 ∨ 0x9020000 ≤ f.addr) : (s.countRx p).fld f = s.fld f :=
  State.fld_congr (State.countRx_rd_far hp h)

theorem State.countRx_sec (s : State) (p : Nat) : (s.countRx p).sec = s.sec := State.count_sec _ _
theorem State.countRx_sys (s : State) (p : Nat) : (s.countRx p).sys = s.sys := State.count_sys _ _
theorem State.countRx_zh (s : State) (p : Nat) : (s.countRx p).zh = s.zh := State.count_zh _ _

/-- Which slot is free rests on the slots' words. -/
theorem State.freeSession_of (h : ∀ k < 8, t.rd (Reg.SS_STAT k) = s.rd (Reg.SS_STAT k)) : t.freeSession = s.freeSession :=
  List.find?_congr (fun k hk => by rw [State.fld_congr (f := Fd.SS_STAT_STATE k) (h k (List.mem_range.mp hk))])

theorem State.openingSlot_of {id : Word} (h : ∀ k < 8, t.rd (Reg.SS_STAT k) = s.rd (Reg.SS_STAT k) ∧ t.rd (Reg.SS_ID k) = s.rd (Reg.SS_ID k)) :
    t.openingSlot id = s.openingSlot id :=
  List.find?_congr (fun k hk => by
    obtain ⟨h1, h2⟩ := h k (List.mem_range.mp hk)
    rw [State.fld_congr (f := Fd.SS_STAT_STATE k) h1, h2])

theorem State.enrolNum_of (h : t.sec.enr = s.sec.enr) (n : Nat) : t.enrolNum n = s.enrolNum n := by
  unfold State.enrolNum State.enrolWord
  rw [h]

theorem State.enrolPub_of (h : t.sec.enr = s.sec.enr) (n : Nat) : t.enrolPub n = s.enrolPub n := by
  unfold State.enrolPub
  rw [h]

theorem State.enrolled_of {m : Nat} (h : t.sec.enr = s.sec.enr) (hr : ∀ n < 64, t.rd (Reg.EN_CFG n) = s.rd (Reg.EN_CFG n)) :
    t.enrolled m = s.enrolled m :=
  List.find?_congr (fun n hn => by
    rw [State.enrolNum_of h, State.on, State.on, State.fld_congr (f := Fd.EN_CFG_VALID n) (hr n (List.mem_range.mp hn))])

theorem State.countRx_slots {p : Nat} (hp : p < 16) (k : Nat) :
    (s.countRx p).rd (Reg.SS_STAT k) = s.rd (Reg.SS_STAT k) ∧ (s.countRx p).rd (Reg.SS_ID k) = s.rd (Reg.SS_ID k) := by
  constructor <;>
    · refine State.countRx_rd_far hp ?_
      simp only [Reg.SS_STAT, Reg.SS_ID]
      omega

theorem State.countRx_freeSession {p : Nat} (hp : p < 16) : (s.countRx p).freeSession = s.freeSession :=
  State.freeSession_of (fun k _ => (State.countRx_slots hp k).1)

theorem State.countRx_openingSlot {p : Nat} (hp : p < 16) (id : Word) : (s.countRx p).openingSlot id = s.openingSlot id :=
  State.openingSlot_of (fun k _ => State.countRx_slots hp k)

theorem State.countRx_enrolled {p : Nat} (hp : p < 16) (m : Nat) : (s.countRx p).enrolled m = s.enrolled m :=
  State.enrolled_of (congrArg Sec.enr (s.countRx_sec p)) (fun n _ => State.countRx_rd_far hp (by simp only [Reg.EN_CFG]; omega))

theorem State.countRx_sessOpenBad {q : Nat} (hp : q < 16) (p : SessOpen) : (s.countRx q).sessOpenBad p = s.sessOpenBad p := by
  unfold State.sessOpenBad
  rw [State.countRx_fld_far hp (by decide), State.countRx_fld_far hp (by decide), State.countRx_sys]

theorem State.countRx_peerTrusted {q : Nat} (hp : q < 16) (j : Nat) (dik : List Byte) : (s.countRx q).peerTrusted j dik = s.peerTrusted j dik := by
  have hcfg : (s.countRx q).on (Fd.PR_CFG_VALID j) = s.on (Fd.PR_CFG_VALID j) :=
    congrArg (· == 1) (State.countRx_fld_far hp (by simp only [Fd.PR_CFG_VALID, Reg.PR_CFG]; omega))
  have hhash : (s.countRx q).peerHash j = s.peerHash j := by
    unfold State.peerHash
    exact congrArg (fun g => (List.range 8).flatMap g)
      (funext (fun i => congrArg wordBytes (State.countRx_rd_far hp (by simp only [Reg.PR_HASH]; omega))))
  unfold State.peerTrusted
  rw [hcfg, hhash]

theorem State.countRx_owned {q : Nat} (hp : q < 16) : (s.countRx q).owned = s.owned := by
  unfold State.owned
  refine congrArg (fun g => (List.range 64).any g) (funext (fun n => ?_))
  exact congrArg (· == 1) (State.countRx_fld_far hp (by simp only [Fd.EN_CFG_VALID, Reg.EN_CFG]; omega))

theorem State.countRx_initiatorKnown {q : Nat} (hp : q < 16) (p : SessOpen) : (s.countRx q).initiatorKnown p = s.initiatorKnown p := by
  unfold State.initiatorKnown
  rw [State.countRx_peerTrusted hp, State.countRx_owned hp, State.countRx_sys, State.countRx_enrolled hp]

theorem State.countRx_initiatorSigned {q : Nat} (hp : q < 16) (p : SessOpen) : (s.countRx q).initiatorSigned p = s.initiatorSigned p := by
  have hpub : (s.countRx q).enrolPub = s.enrolPub := funext (State.enrolPub_of (congrArg Sec.enr (s.countRx_sec q)))
  unfold State.initiatorSigned
  rw [State.countRx_enrolled hp, hpub]

/-! ### A failed authentication, and the violation it is -/

theorem State.authFail_spec (s : State) : s.authFail.rd Reg.SEC_CNT_AUTHFAIL = satCount (s.rd Reg.SEC_CNT_AUTHFAIL) 1 ∧
    s.authFail.on Fd.SEC_EVT_AUTH_FAIL = true ∧ Changes [.firn] [Reg.SEC_CNT_AUTHFAIL, Reg.SEC_EVT, Reg.SEC_EVT_SEQ] s s.authFail := by
  refine ⟨?_, State.raise_on _ _ _ _ _ (by decide) (by decide) rfl (by decide), (Changes.refl _ _ s).count.raise⟩
  unfold State.authFail
  rw [State.raise_rd _ _ _ _ _ _ (by decide) (by decide) (by decide) (by decide), State.rd_count_same]

theorem State.violate_spec (s : State) (a : Nat) : (s.violate a).sec = s.sec ∧
    ∀ b, 0xC000000 ≤ b → b < 0xC7F0000 → (s.violate a).rd b = s.rd b := by
  refine ⟨(State.violate_keeps (F := Part.zh.bit ||| Part.regs.bit ||| Part.firn.bit) rfl (Keeps.refl _ s)).sec.resolve_left (by decide), fun b h1 h2 => ?_⟩
  have he : eventWord b = false := eventWord_eq_false (by omega) (by omega)
  unfold State.violate
  dsimp only
  have hraise (v : State) (f : Fld) (o : Nat) (l : List Nat) (hc : eventCode f < 1024) (hf : f.addr < 0xB000000) : (v.raise f o l).rd b = v.rd b :=
    State.raise_rd _ _ _ _ _ _ hc he (by omega) (by omega)
  generalize (if (s.source a).second = s.second then (s.source a).count + 1 else 1) = n
  generalize hv : s.setSource { s.source a with second := s.second, count := n } = v
  have hs : v.rd b = s.rd b := by rw [← hv]; rfl
  split
  · cases hq : v.freeQuar with
    | none => exact (hraise _ _ _ _ (by decide) (by decide)).trans hs
    | some e =>
      have hlt := State.freeQuar_lt hq
      obtain ⟨z, -, heq⟩ := v.startQuarantine_eq e a n
      dsimp only
      rw [heq, hraise _ _ _ _ (by decide) (by decide), hraise _ _ _ _ (by decide) (by decide), ← hs]
      simp (disch := omega) [Fd.QU_STAT_VALID, Fd.QU_STAT_REMAIN, Reg.QU_STAT, Reg.QU_ADDR, Reg.QU_VIOL, Reg.NET_CNT_QUAR]
  · exact hs


/-! ### SESS_OPEN refused -/

theorem State.sendPlain_rd (s : State) (q : Plain) (l cmd st d : Nat) (body : List Nat) (a : Nat) : (s.sendPlain q l cmd st d body).rd a = s.rd a := rfl
theorem State.sendPlain_on (s : State) (q : Plain) (l cmd st d : Nat) (body : List Nat) (f : Fld) : (s.sendPlain q l cmd st d body).on f = s.on f := rfl
theorem State.sendPlain_fld (s : State) (q : Plain) (l cmd st d : Nat) (body : List Nat) (f : Fld) : (s.sendPlain q l cmd st d body).fld f = s.fld f := rfl
theorem State.sendPlain_sessOpen (s : State) (q : Plain) (l cmd st d : Nat) (body : List Nat) (k : Nat) :
    (s.sendPlain q l cmd st d body).sessOpen k = s.sessOpen k := rfl
theorem State.sendPlain_sec (s : State) (q : Plain) (l cmd st d : Nat) (body : List Nat) : (s.sendPlain q l cmd st d body).sec = s.sec := rfl
theorem State.sendPlain_zh (s : State) (q : Plain) (l cmd st d : Nat) (body : List Nat) : (s.sendPlain q l cmd st d body).zh = s.zh := rfl

/-- The checks of a SESS_OPEN, and its acceptance (R537). -/
def State.sessChecked (q : Plain) (p : SessOpen) (s : State) : State :=
  match s.sessOpenBad p with
  | some o => s.sendPlain q p.level.toNat 0x02 0x21 o []
  | none =>
    if ¬ s.initiatorKnown p then (s.authFail.violate q.src).sendPlain q p.level.toNat 0x02 0x40 0 []
    else if ¬ s.initiatorSigned p then (s.authFail.violate q.src).sendPlain q p.level.toNat 0x02 0x21 1224 []
    else
      let boot := p.flags.getLsbD 0
      let s := if boot then s.enrolFirst p.pub else s
      if ¬ p.flags.getLsbD 1 ∧ s.freeSession.isNone then (s.count Reg.NET_CNT_BUSY).sendPlain q p.level.toNat 0x02 0x12 0 []
      else s.sessAccept q (if boot then { p with master := 0 } else p)

theorem exec_sessOpen (q : Plain) (p : SessOpen) (s : State) : exec (.sessOpen q.came q.tag q.mbox p) s = .next (s.takePlain q (State.sessChecked q p)) := rfl

theorem exec_sessOpen_taken {q : Plain} {p : SessOpen} (h : s.TakesPlain q) :
    exec (.sessOpen q.came q.tag q.mbox p) s = .next ((s.countRx q.port).sessChecked q p) :=
  (exec_sessOpen q p s).trans (congrArg _ (State.takePlain_taken h _))

/-- A frame that no port takes does nothing. -/
theorem State.takePlain_ignored {q : Plain} (h : s.portTakes Fd.PORT_CFG_MBOX q.port q.src q.row = false) (go : State → State) : s.takePlain q go = s := by
  unfold State.takePlain
  rw [h]
  rfl

theorem sessOpen_bad {q : Plain} {p : SessOpen} {o : Nat} (h : s.TakesPlain q) (hb : s.sessOpenBad p = some o) :
    ∃ t, exec (.sessOpen q.came q.tag q.mbox p) s = .next t ∧ PlainAnswered t q 0x02 0x21 o [] ∧ Changes [.out] [Reg.PORT_CNT_RX q.port] s t := by
  refine ⟨_, (exec_sessOpen_taken h).trans (congrArg _ ?_), State.sendPlain_answered (s.countRx q.port) q p.level.toNat 0x02 0x21 o [],
    ((Changes.refl _ _ s).countRx).sendPlain⟩
  unfold State.sessChecked
  rw [State.countRx_sessOpenBad q.port.isLt, hb]

/-- An authentication that fails is answered, counted and told, and is a violation of its source. -/
theorem State.authFail_answered {q : Plain} {l st d : Nat} :
    PlainAnswered (((s.countRx q.port).authFail.violate q.src).sendPlain q l 0x02 st d []) q 0x02 st d [] ∧
      (((s.countRx q.port).authFail.violate q.src).sendPlain q l 0x02 st d []).rd Reg.SEC_CNT_AUTHFAIL = satCount (s.rd Reg.SEC_CNT_AUTHFAIL) 1 ∧
      (((s.countRx q.port).authFail.violate q.src).sendPlain q l 0x02 st d []).on Fd.SEC_EVT_AUTH_FAIL = true ∧
      (((s.countRx q.port).authFail.violate q.src).sendPlain q l 0x02 st d []).sec = s.sec := by
  obtain ⟨h1, h2, h3⟩ := (s.countRx q.port).authFail_spec
  obtain ⟨k1, k2⟩ := (s.countRx q.port).authFail.violate_spec q.src
  have hsec : (s.countRx q.port).authFail.sec = s.sec := (h3.1.2 .sec (by decide)).trans (s.countRx_sec _)
  refine ⟨State.sendPlain_answered _ _ _ _ _ _ _, ?_, ?_, ?_⟩
  · rw [State.sendPlain_rd, k2 _ (by decide) (by decide), h1, State.countRx_rd_far q.port.isLt (by decide)]
  · rw [State.sendPlain_on]
    exact (congrArg (· == 1) (State.fld_congr (k2 _ (by decide) (by decide)))).trans h2
  · rw [State.sendPlain_sec, k1, hsec]

theorem sessOpen_unknown {q : Plain} {p : SessOpen} (h : s.TakesPlain q) (hb : s.sessOpenBad p = none) (hk : s.initiatorKnown p = false) :
    ∃ t, exec (.sessOpen q.came q.tag q.mbox p) s = .next t ∧ PlainAnswered t q 0x02 0x40 0 [] ∧
      t.rd Reg.SEC_CNT_AUTHFAIL = satCount (s.rd Reg.SEC_CNT_AUTHFAIL) 1 ∧ t.on Fd.SEC_EVT_AUTH_FAIL = true ∧ t.sec = s.sec := by
  refine ⟨_, (exec_sessOpen_taken h).trans (congrArg _ ?_), s.authFail_answered (l := p.level.toNat)⟩
  unfold State.sessChecked
  rw [State.countRx_sessOpenBad q.port.isLt, hb]
  dsimp only
  rw [State.countRx_initiatorKnown q.port.isLt, hk, if_pos (by decide)]

theorem sessChecked_unsigned {q : Plain} {p : SessOpen} (hb : s.sessOpenBad p = none) (hk : s.initiatorKnown p = true) (hs : s.initiatorSigned p = false) :
    (s.countRx q.port).sessChecked q p = ((s.countRx q.port).authFail.violate q.src).sendPlain q p.level.toNat 0x02 0x21 1224 [] := by
  unfold State.sessChecked
  rw [State.countRx_sessOpenBad q.port.isLt, hb]
  dsimp only
  rw [State.countRx_initiatorKnown q.port.isLt, hk, if_neg (by decide), State.countRx_initiatorSigned q.port.isLt, hs, if_pos (by decide)]

/-- A known and proven initiator without flags: BUSY where no slot is free, and accepted otherwise. -/
theorem sessChecked_signed {q : Plain} {p : SessOpen} (hb : s.sessOpenBad p = none) (hk : s.initiatorKnown p = true) (hs : s.initiatorSigned p = true)
    (h0 : p.flags.getLsbD 0 = false) (h1 : p.flags.getLsbD 1 = false) : (s.countRx q.port).sessChecked q p =
      if s.freeSession.isNone then ((s.countRx q.port).count Reg.NET_CNT_BUSY).sendPlain q p.level.toNat 0x02 0x12 0 []
      else (s.countRx q.port).sessAccept q p := by
  unfold State.sessChecked
  rw [State.countRx_sessOpenBad q.port.isLt, hb]
  dsimp only
  rw [State.countRx_initiatorKnown q.port.isLt, hk, if_neg (by decide), State.countRx_initiatorSigned q.port.isLt, hs, if_neg (by decide), h0, h1]
  have hff : ¬ false = true := by decide
  rw [if_neg hff, if_neg hff, State.countRx_freeSession q.port.isLt]
  cases s.freeSession with
  | none => exact if_pos ⟨hff, rfl⟩
  | some c => exact if_neg (fun hn => hff hn.2)

theorem sessOpen_full {q : Plain} {p : SessOpen} (h : s.TakesPlain q) (hb : s.sessOpenBad p = none) (hf : p.flags = 0) (hk : s.initiatorKnown p = true)
    (hc : s.freeSession = none) : ∃ t, exec (.sessOpen q.came q.tag q.mbox p) s = .next t ∧ (s.initiatorSigned p = true →
      PlainAnswered t q 0x02 0x12 0 [] ∧ t.rd Reg.NET_CNT_BUSY = satCount (s.rd Reg.NET_CNT_BUSY) 1 ∧
        Changes [.out] [Reg.NET_CNT_BUSY, Reg.PORT_CNT_RX q.port] s t) := by
  refine ⟨_, exec_sessOpen_taken h, fun hs => ?_⟩
  rw [sessChecked_signed hb hk hs (by rw [hf]; rfl) (by rw [hf]; rfl), hc, if_pos (by decide)]
  refine ⟨State.sendPlain_answered ((s.countRx q.port).count Reg.NET_CNT_BUSY) q p.level.toNat 0x02 0x12 0 [], ?_, (((Changes.refl _ _ s).countRx).count).sendPlain⟩
  rw [State.sendPlain_rd, State.rd_count_same, State.countRx_rd_far q.port.isLt (by decide)]

/-! ### A leaf used, and the session opened -/

theorem State.readyAk_ready {h : Nat} (hl : (s.leaves h).next < akLeaves) : s.readyAk h = some s := if_pos hl

theorem State.setLeaves_spec (s : State) {h : Nat} (x : Leaves) : (s.setLeaves h x).leaves h = x ∧ (s.setLeaves h x).sec.enr = s.sec.enr ∧
    (∀ a, (s.setLeaves h x).rd a = s.rd a) ∧ Changes [.sec] [] s (s.setLeaves h x) := by
  unfold State.setLeaves State.leaves
  by_cases hh : h = 1
  · simp only [if_pos hh]
    exact ⟨trivial, trivial, fun _ => rfl, (Changes.refl _ _ s).upd_sec⟩
  · simp only [if_neg hh]
    exact ⟨trivial, trivial, fun _ => rfl, (Changes.refl _ _ s).upd_sec⟩

theorem State.leaves_of (h : t.sec = s.sec) (n : Nat) : t.leaves n = s.leaves n := by
  unfold State.leaves
  rw [h]

/-- A leaf that is not the last is used: NEXT moves on, and KEY_LOW may be told. -/
theorem State.useLeaf_spec {h : Nat} (hl : (s.leaves h).next + 1 < akLeaves) : ((s.useLeaf h).leaves h).next = (s.leaves h).next + 1 ∧
    (s.useLeaf h).sec.enr = s.sec.enr ∧ Changes [.sec, .firn] [Reg.SEC_EVT, Reg.SEC_EVT_SEQ] s (s.useLeaf h) := by
  unfold State.useLeaf
  dsimp only
  rw [if_neg (Nat.not_le.mpr hl)]
  obtain ⟨h1, h2, -, h4⟩ := s.setLeaves_spec (h := h)
    ⟨(s.leaves h).next + 1, if (s.leaves h).next = (s.leaves h).limit then (s.leaves h).limit + 1024 else (s.leaves h).limit⟩
  generalize State.setLeaves s h _ = v at h1 h2 h4
  have h5 : Changes [.sec, .firn] [Reg.SEC_EVT, Reg.SEC_EVT_SEQ] s v := h4.mono (by decide) (by decide)
  split
  · rw [State.leaves_of (State.raise_sec _ _ _ _ _), State.raise_sec, h1]
    exact ⟨rfl, h2, h5.raise⟩
  · rw [h1]
    exact ⟨rfl, h2, h5⟩

/-- The state from which a session's answer is made: its ID taken, and two draws of random bytes. -/
def State.drawn (s : State) : State := { s with zh := { s.zh with lastSession := s.newSession.1 }, fresh := s.fresh + 2 }

theorem State.drawn_changes (s : State) : Changes [.zh, .fresh] [] s s.drawn :=
  ((Changes.refl [.zh, .fresh] [] s).upd_zh (x := { s.zh with lastSession := s.newSession.1 })).upd_fresh (x := s.fresh + 2) (Nat.le_add_right _ 2)

/-- A slot enters OPENING. -/
def State.fillSlot (s : State) (c n id : Nat) (p : SessOpen) (x : Session) : State :=
  (((((s.wr (Reg.SS_STAT c) (BitVec.ofNat 32 (1 + 65536 * p.master.toNat))).wr (Reg.SS_ID c) (BitVec.ofNat 32 id)).wr (Reg.SS_ROLES c)
    (BitVec.ofNat 32 (s.fld (Fd.EN_CFG_ROLES n)))).wr (Reg.SS_LEVEL c) (BitVec.ofNat 32 p.level.toNat)).setSess c x)

theorem State.fillSlot_spec (s : State) {c n id : Nat} {p : SessOpen} (x : Session) :
    (s.fillSlot c n id p x).fld (Fd.SS_STAT_STATE c) = 1 ∧ (s.fillSlot c n id p x).fld (Fd.SS_STAT_MASTER c) = p.master.toNat ∧
      (s.fillSlot c n id p x).rd (Reg.SS_ID c) = BitVec.ofNat 32 id ∧
      (s.fillSlot c n id p x).rd (Reg.SS_ROLES c) = BitVec.ofNat 32 (s.fld (Fd.EN_CFG_ROLES n)) ∧
      Changes [.zh] [Reg.SS_STAT c, Reg.SS_ID c, Reg.SS_ROLES c, Reg.SS_LEVEL c] s (s.fillSlot c n id p x) := by
  have hm := p.master.isLt
  have hs : ∀ a, (s.fillSlot c n id p x).rd a = ((((s.wr (Reg.SS_STAT c) (BitVec.ofNat 32 (1 + 65536 * p.master.toNat))).wr (Reg.SS_ID c)
    (BitVec.ofNat 32 id)).wr (Reg.SS_ROLES c) (BitVec.ofNat 32 (s.fld (Fd.EN_CFG_ROLES n)))).wr (Reg.SS_LEVEL c) (BitVec.ofNat 32 p.level.toNat)).rd a := fun _ => rfl
  have hstat : (s.fillSlot c n id p x).rd (Reg.SS_STAT c) = BitVec.ofNat 32 (1 + 65536 * p.master.toNat) := by
    rw [hs]
    simp (disch := omega) [Reg.SS_STAT, Reg.SS_ID, Reg.SS_ROLES, Reg.SS_LEVEL]
  refine ⟨?_, ?_, ?_, ?_, ?_⟩
  · simp only [State.fld, Fd.SS_STAT_STATE, hstat]
    rw [fieldOf_ofNat _ _ (by omega)]
    omega
  · simp only [State.fld, Fd.SS_STAT_MASTER, hstat]
    rw [fieldOf_ofNat _ _ (by omega)]
    omega
  · rw [hs]
    simp (disch := omega) [Reg.SS_STAT, Reg.SS_ID, Reg.SS_ROLES, Reg.SS_LEVEL]
  · rw [hs]
    simp (disch := omega) [Reg.SS_STAT, Reg.SS_ID, Reg.SS_ROLES, Reg.SS_LEVEL]
  · exact (((((Changes.refl _ _ s).wr).wr).wr).wr).setSess

/-- A session that is accepted: the slot is filled, and the answer goes out. -/
theorem State.sessAccept_fills {q : Plain} {p : SessOpen} {c n : Nat} (hl : (s.leaves 2).next < akLeaves) (hp : p.flags.getLsbD 1 = false)
    (hc : (s.drawn.useLeaf 2).freeSession = some c) (he : (s.drawn.useLeaf 2).enrolled p.master.toNat = some n) :
    ∃ x body, s.sessAccept q p = ((s.drawn.useLeaf 2).fillSlot c n s.newSession.1 p x).sendPlain q p.level.toNat 0x02 0 0 body := by
  unfold State.sessAccept
  rw [State.readyAk_ready hl]
  dsimp only
  rw [hp]
  generalize hu : State.useLeaf _ 2 = w
  obtain rfl : s.drawn.useLeaf 2 = w := hu
  rw [if_neg (by decide), hc, he]
  exact ⟨_, _, rfl⟩

theorem sessOpen_opens {q : Plain} {p : SessOpen} {n c : Nat} (h : s.TakesPlain q) (hb : s.sessOpenBad p = none) (hf : p.flags = 0)
    (he : s.enrolled p.master.toNat = some n) (hc : s.freeSession = some c) (hl : (s.leaves 2).next + 1 < akLeaves)
    (hk : s.initiatorKnown p = true) (hs : s.initiatorSigned p = true) : ∃ t, exec (.sessOpen q.came q.tag q.mbox p) s = .next t ∧
      t.fld (Fd.SS_STAT_STATE c) = 1 ∧ t.fld (Fd.SS_STAT_MASTER c) = p.master.toNat ∧ t.rd (Reg.SS_ID c) = BitVec.ofNat 32 s.newSession.1 ∧
      t.fld ⟨Reg.SS_ROLES c, 0, 7⟩ = s.fld (Fd.EN_CFG_ROLES n) ∧ (t.leaves 2).next = (s.leaves 2).next + 1 ∧
      Changes [.sec, .zh, .fresh, .firn, .out]
        [Reg.SS_STAT c, Reg.SS_ID c, Reg.SS_ROLES c, Reg.SS_LEVEL c, Reg.SEC_EVT, Reg.SEC_EVT_SEQ, Reg.PORT_CNT_RX q.port] s t := by
  have h0 : p.flags.getLsbD 0 = false := by rw [hf]; rfl
  have h1 : p.flags.getLsbD 1 = false := by rw [hf]; rfl
  have hp := q.port.isLt
  have hl2 : ((s.countRx q.port).drawn.leaves 2).next = (s.leaves 2).next := congrArg Leaves.next (State.leaves_of (s.countRx_sec q.port) 2)
  have hid : (s.countRx q.port).newSession.1 = s.newSession.1 := by
    unfold State.newSession
    rw [State.countRx_zh]
  obtain ⟨k1, k2, k3⟩ := (s.countRx q.port).drawn.useLeaf_spec (h := 2) (by rw [hl2]; exact hl)
  have hdrawn : Changes [.sec, .zh, .fresh, .firn] [Reg.SEC_EVT, Reg.SEC_EVT_SEQ, Reg.PORT_CNT_RX q.port] s (s.countRx q.port).drawn :=
    ((Changes.refl _ _ s).countRx).step (State.drawn_changes _)
  have hw := hdrawn.step k3
  have henr : ((s.countRx q.port).drawn.useLeaf 2).sec.enr = s.sec.enr := k2.trans (congrArg Sec.enr (s.countRx_sec q.port))
  have hrd : ∀ a, (0x9030000 ≤ a ∧ a < 0x9030100 ∨ 0xC010000 ≤ a ∧ a < 0xC020000) → ((s.countRx q.port).drawn.useLeaf 2).rd a = s.rd a := fun a ha => by
    refine hw.rd (eventWord_eq_false (by omega) (by omega)) ?_
    simp only [Reg.SEC_EVT, Reg.SEC_EVT_SEQ, Reg.PORT_CNT_RX, List.mem_cons, List.not_mem_nil, or_false, not_or]
    omega
  have hcfg : ∀ m < 64, ((s.countRx q.port).drawn.useLeaf 2).rd (Reg.EN_CFG m) = s.rd (Reg.EN_CFG m) := fun m hm =>
    hrd _ (by simp only [Reg.EN_CFG]; omega)
  have hfree := (State.freeSession_of (fun k hk => hrd (Reg.SS_STAT k) (by simp only [Reg.SS_STAT]; omega))).trans hc
  have hent := (State.enrolled_of henr hcfg).trans he
  have hn : n < 64 := List.mem_range.mp (List.mem_of_find?_eq_some he)
  obtain ⟨x, body, hx⟩ := State.sessAccept_fills (q := q) (s := s.countRx q.port) (p := p) (by rw [State.leaves_of (s.countRx_sec q.port)]; omega) h1 hfree hent
  have hexec := exec_sessOpen_taken (p := p) h
  rw [sessChecked_signed hb hk hs h0 h1, hc, if_neg (show ¬ (some c).isNone = true from Bool.false_ne_true), hx, hid] at hexec
  rw [hl2] at k1
  have hroles : ((s.countRx q.port).drawn.useLeaf 2).fld (Fd.EN_CFG_ROLES n) = s.fld (Fd.EN_CFG_ROLES n) := State.fld_congr (hcfg n hn)
  generalize State.useLeaf _ 2 = w at *
  obtain ⟨e1, e2, e3, e4, e5⟩ := w.fillSlot_spec (c := c) (n := n) (id := s.newSession.1) (p := p) x
  have hall : Changes [.sec, .zh, .fresh, .firn, .out]
      [Reg.SS_STAT c, Reg.SS_ID c, Reg.SS_ROLES c, Reg.SS_LEVEL c, Reg.SEC_EVT, Reg.SEC_EVT_SEQ, Reg.PORT_CNT_RX q.port] s (w.fillSlot c n s.newSession.1 p x) :=
    (hw.mono (by decide) (by simp)).step e5
  have hsec : (w.fillSlot c n s.newSession.1 p x).sec = w.sec := e5.1.2 .sec (by decide)
  refine ⟨_, hexec, ?_⟩
  rw [State.sendPlain_fld, State.sendPlain_fld, State.sendPlain_rd, State.sendPlain_fld, e1, e2, e3, State.leaves_of (State.sendPlain_sec _ _ _ _ _ _ _),
    State.leaves_of hsec]
  refine ⟨rfl, rfl, rfl, ?_, k1, hall.sendPlain⟩
  have hlt : s.fld (Fd.EN_CFG_ROLES n) < 128 := s.fld_lt _
  rw [State.fld, e4, hroles, fieldOf_ofNat _ _ (by omega)]
  show s.fld (Fd.EN_CFG_ROLES n) / 2 ^ 0 % 2 ^ 7 = _
  omega


/-! ### SESS_KEY -/

/-- What a SESS_KEY does in a port that takes it. -/
def State.keyChecked (q : Plain) (session : Word) (conf peerKey : List Byte) (s : State) : State :=
  let l := s.fld Fd.SYS_LVL_ZH_MAX
  match s.openingSlot session with
  | some k =>
    let x := s.sess k
    if conf = Config.hmac x.keyConf (0x4D :: x.transcript) then
      let s := (s.set (Fd.SS_STAT_STATE k) 2).setSess k { x with lastRx := s.clk.now }
      let s := ((s.bump Fd.NET_STAT_SESSIONS).count Reg.SEC_CNT_SESSOPEN).raise Fd.NET_EVT_SESS_OPEN k []
      s.sendPlain q (fieldOf (s.rd (Reg.SS_LEVEL k)) 0 8) 0x03 0 0 (natsOf (Config.hmac x.keyConf (0x44 :: x.transcript)))
    else (s.authFail.closeOpening k).sendPlain q l 0x03 0x21 8 []
  | none =>
    match s.sec.responding.find? (fun p => p.2.session == session) with
    | some (j, x) =>
      let s := { s with sec := { s.sec with responding := s.sec.responding.del j } }
      match (if conf = Config.hmac x.keyConf (0x4D :: x.transcript) then Config.gcmOpen x.keyIn (keyNonce 0) [] peerKey else none) with
      | some key =>
        let own := Config.gcmSeal x.keyOut (keyNonce 1) [] s.keyToSend
        ((s.takePeerKey j key).peerConfirmed j).sendPlain q l 0x03 0 0 (natsOf (Config.hmac x.keyConf (0x44 :: x.transcript) ++ own))
      | none => s.authFail.sendPlain q l 0x03 0x21 8 []
    | none => s.sendPlain q l 0x03 0x21 0 []

theorem exec_sessKey (q : Plain) (session : Word) (conf peerKey : List Byte) (s : State) : exec (.sessKey q.came q.tag q.mbox session conf peerKey) s =
    .next (s.takePlain q (State.keyChecked q session conf peerKey)) := rfl

theorem exec_sessKey_taken {q : Plain} {session : Word} {conf peerKey : List Byte} (h : s.TakesPlain q) :
    exec (.sessKey q.came q.tag q.mbox session conf peerKey) s = .next ((s.countRx q.port).keyChecked q session conf peerKey) :=
  (exec_sessKey _ _ _ _ _).trans (congrArg _ (State.takePlain_taken h _))

theorem State.openingSlot_lt {id : Word} {k : Nat} (h : s.openingSlot id = some k) : k < 8 := List.mem_range.mp (List.mem_of_find?_eq_some h)

/-- A slot in OPENING opens. -/
def State.openSession (s : State) (k : Nat) : State :=
  ((((s.set (Fd.SS_STAT_STATE k) 2).setSess k { s.sess k with lastRx := s.clk.now }).bump Fd.NET_STAT_SESSIONS).count Reg.SEC_CNT_SESSOPEN).raise
    Fd.NET_EVT_SESS_OPEN k []

theorem State.keyChecked_right {q : Plain} {session : Word} {peerKey : List Byte} {k : Nat} (hk : s.openingSlot session = some k) :
    s.keyChecked q session (Config.hmac (s.sess k).keyConf (0x4D :: (s.sess k).transcript)) peerKey =
      (s.openSession k).sendPlain q (fieldOf ((s.openSession k).rd (Reg.SS_LEVEL k)) 0 8) 0x03 0 0
        (natsOf (Config.hmac (s.sess k).keyConf (0x44 :: (s.sess k).transcript))) := by
  unfold State.keyChecked
  rw [hk]
  dsimp only
  rw [if_pos rfl]
  rfl

theorem State.keyChecked_wrong {q : Plain} {session : Word} {conf peerKey : List Byte} {k : Nat} (hk : s.openingSlot session = some k)
    (hc : conf ≠ Config.hmac (s.sess k).keyConf (0x4D :: (s.sess k).transcript)) : s.keyChecked q session conf peerKey =
      (s.authFail.closeOpening k).sendPlain q (s.fld Fd.SYS_LVL_ZH_MAX) 0x03 0x21 8 [] := by
  unfold State.keyChecked
  rw [hk]
  exact if_neg hc

theorem State.keyChecked_none {q : Plain} {session : Word} {conf peerKey : List Byte} (hk : s.openingSlot session = none)
    (hr : s.sec.responding.find? (fun p => p.2.session == session) = none) :
    s.keyChecked q session conf peerKey = s.sendPlain q (s.fld Fd.SYS_LVL_ZH_MAX) 0x03 0x21 0 [] := by
  unfold State.keyChecked
  rw [hk, hr]

theorem State.rd_bump_ne (s : State) (f : Fld) {b : Nat} (h : b ≠ f.addr) : (s.bump f).rd b = s.rd b := State.rd_wr_ne _ _ _ _ h

theorem State.openSession_spec (s : State) {k : Nat} (hk : k < 8) : (s.openSession k).sessOpen k = true ∧
    (s.openSession k).sess k = { s.sess k with lastRx := s.clk.now } ∧
    (s.openSession k).rd Reg.SEC_CNT_SESSOPEN = satCount (s.rd Reg.SEC_CNT_SESSOPEN) 1 ∧ (s.openSession k).on Fd.NET_EVT_SESS_OPEN = true ∧
    Changes [.zh, .firn] [Reg.SS_STAT k, Reg.NET_STAT, Reg.SEC_CNT_SESSOPEN, Reg.NET_EVT, Reg.NET_EVT_SEQ] s (s.openSession k) := by
  have hset : ∀ (u : State) (x : Session) (a : Nat), (u.setSess k x).rd a = u.rd a := fun _ _ _ => rfl
  refine ⟨?_, ?_, ?_, State.raise_on _ _ _ _ _ (by decide) (by decide) rfl (by decide), (((((Changes.refl _ _ s).set).setSess).bump).count).raise⟩
  · unfold State.openSession State.sessOpen
    refine beq_iff_eq.mpr ?_
    rw [State.fld_congr (State.raise_rd _ _ _ _ _ _ (by decide) (eventWord_eq_false ?_ ?_) ?_ ?_), State.fld_congr (State.rd_count _ _ _ ?_),
      State.fld_congr (State.rd_bump_ne _ _ ?_), State.fld_congr (hset _ _ _), State.fld_set_self _ _ _ (show 0 + 2 ≤ 32 by decide)]
    all_goals
      simp only [Fd.SS_STAT_STATE, Reg.SS_STAT, Fd.NET_EVT_SESS_OPEN, Reg.NET_EVT, Reg.SEC_CNT_SESSOPEN, Fd.NET_STAT_SESSIONS, Reg.NET_STAT]
      omega
  · unfold State.openSession
    rw [State.sess_of (State.raise_zh _ _ _ _ _), State.sess_of (State.count_zh _ _), State.sess_of (State.bump_zh _ _)]
    exact State.setSess_sess _ _ _
  · unfold State.openSession
    rw [State.raise_rd _ _ _ _ _ _ (by decide) (by decide) (by decide) (by decide), State.rd_count_same]
    refine congrArg (fun w => satCount w 1) ?_
    rw [State.rd_bump_ne _ _ (show Reg.SEC_CNT_SESSOPEN ≠ Reg.NET_STAT by decide), hset, State.rd_set_ne]
    simp only [Reg.SEC_CNT_SESSOPEN, Fd.SS_STAT_STATE, Reg.SS_STAT]
    omega

theorem sessKey_opens {q : Plain} {session : Word} {peerKey : List Byte} {k : Nat} (h : s.TakesPlain q) (hk : s.openingSlot session = some k) :
    ∃ t, exec (.sessKey q.came q.tag q.mbox session (Config.hmac (s.sess k).keyConf (0x4D :: (s.sess k).transcript)) peerKey) s = .next t ∧
      t.sessOpen k = true ∧ t.sess k = { s.sess k with lastRx := s.clk.now } ∧
      t.rd Reg.SEC_CNT_SESSOPEN = satCount (s.rd Reg.SEC_CNT_SESSOPEN) 1 ∧ t.on Fd.NET_EVT_SESS_OPEN = true ∧
      PlainAnswered t q 0x03 0 0 (natsOf (Config.hmac (s.sess k).keyConf (0x44 :: (s.sess k).transcript))) ∧
      Changes [.zh, .firn, .out] [Reg.SS_STAT k, Reg.NET_STAT, Reg.SEC_CNT_SESSOPEN, Reg.NET_EVT, Reg.NET_EVT_SEQ, Reg.PORT_CNT_RX q.port] s t := by
  have hp := q.port.isLt
  have hx := exec_sessKey_taken (session := session) (conf := Config.hmac (s.sess k).keyConf (0x4D :: (s.sess k).transcript)) (peerKey := peerKey) h
  have hopen := (State.countRx_openingSlot hp session).trans hk
  have hsess : (s.countRx q.port).sess k = s.sess k := State.sess_of (s.countRx_zh _) k
  have hclk : (s.countRx q.port).clk = s.clk := State.count_clk _ _
  have hcnt : (s.countRx q.port).rd Reg.SEC_CNT_SESSOPEN = s.rd Reg.SEC_CNT_SESSOPEN := State.countRx_rd_far hp (by decide)
  have hc : Changes [.zh, .firn, .out] [Reg.SS_STAT k, Reg.NET_STAT, Reg.SEC_CNT_SESSOPEN, Reg.NET_EVT, Reg.NET_EVT_SEQ, Reg.PORT_CNT_RX q.port] s
    (s.countRx q.port) := (Changes.refl _ _ s).countRx
  rw [← hsess] at hx ⊢
  rw [State.keyChecked_right hopen] at hx
  rw [← hclk, ← hcnt]
  generalize s.countRx q.port = v at *
  obtain ⟨h1, h2, h3, h4, h5⟩ := v.openSession_spec (State.openingSlot_lt hk)
  refine ⟨_, hx, ?_⟩
  rw [State.sendPlain_sessOpen, State.sess_of (State.sendPlain_zh _ _ _ _ _ _ _), State.sendPlain_rd, State.sendPlain_on]
  exact ⟨h1, h2, h3, h4, State.sendPlain_answered _ _ _ _ _ _ _, (hc.step h5 (by decide) (by simp)).sendPlain⟩

theorem State.closeOpening_changes (s : State) (k : Nat) :
    Changes [.zh] [Reg.SS_STAT k, Reg.SS_ID k, Reg.SS_ROLES k, Reg.SS_LEVEL k] s (s.closeOpening k) :=
  (((((Changes.refl _ _ s).wr).wr).wr).wr).upd_zh

theorem sessKey_fails {q : Plain} {session : Word} {conf peerKey : List Byte} {k : Nat} (h : s.TakesPlain q) (hk : s.openingSlot session = some k) :
    ∃ t, exec (.sessKey q.came q.tag q.mbox session conf peerKey) s = .next t ∧
      (conf ≠ Config.hmac (s.sess k).keyConf (0x4D :: (s.sess k).transcript) → PlainAnswered t q 0x03 0x21 8 [] ∧ t.fld (Fd.SS_STAT_STATE k) = 0 ∧
        t.rd Reg.SEC_CNT_AUTHFAIL = satCount (s.rd Reg.SEC_CNT_AUTHFAIL) 1 ∧ Changes [.zh, .firn, .out] [Reg.SS_STAT k, Reg.SS_ID k, Reg.SS_ROLES k,
          Reg.SS_LEVEL k, Reg.SEC_CNT_AUTHFAIL, Reg.SEC_EVT, Reg.SEC_EVT_SEQ, Reg.PORT_CNT_RX q.port] s t) := by
  have hp := q.port.isLt
  have hlt := State.openingSlot_lt hk
  refine ⟨_, exec_sessKey_taken h, fun hc => ?_⟩
  rw [State.keyChecked_wrong ((State.countRx_openingSlot hp session).trans hk) (by rw [State.sess_of (s.countRx_zh _)]; exact hc)]
  have hcnt : (s.countRx q.port).rd Reg.SEC_CNT_AUTHFAIL = s.rd Reg.SEC_CNT_AUTHFAIL := State.countRx_rd_far hp (by decide)
  have hch : Changes [.zh, .firn, .out] [Reg.SS_STAT k, Reg.SS_ID k, Reg.SS_ROLES k, Reg.SS_LEVEL k, Reg.SEC_CNT_AUTHFAIL, Reg.SEC_EVT,
    Reg.SEC_EVT_SEQ, Reg.PORT_CNT_RX q.port] s (s.countRx q.port) := (Changes.refl _ _ s).countRx
  obtain ⟨h1, -, h3⟩ := (s.countRx q.port).authFail_spec
  rw [hcnt] at h1
  have hch := hch.step h3
  generalize (s.countRx q.port).authFail = v at *
  have hcl := v.closeOpening_changes k
  refine ⟨State.sendPlain_answered _ _ _ _ _ _ _, ?_, ?_, (hch.step hcl).sendPlain⟩
  · rw [State.sendPlain_fld, State.fld]
    rw [show (v.closeOpening k).rd (Fd.SS_STAT_STATE k).addr = 0 from v.closeOpening_stat k]
    exact fieldOf_zero _ _
  · rw [State.sendPlain_rd, hcl.rd (by decide) ?_, h1]
    simp only [Reg.SEC_CNT_AUTHFAIL, Reg.SS_STAT, Reg.SS_ID, Reg.SS_ROLES, Reg.SS_LEVEL, List.mem_cons, List.not_mem_nil, or_false, not_or]
    omega

theorem sessKey_unknown {q : Plain} {session : Word} {conf peerKey : List Byte} (h : s.TakesPlain q) (hk : s.openingSlot session = none)
    (hr : s.sec.responding.all (fun p => p.2.session != session) = true) :
    ∃ t, exec (.sessKey q.came q.tag q.mbox session conf peerKey) s = .next t ∧ PlainAnswered t q 0x03 0x21 0 [] ∧
      Changes [.out] [Reg.PORT_CNT_RX q.port] s t := by
  have hnone : s.sec.responding.find? (fun p => p.2.session == session) = none := by
    refine List.find?_eq_none.mpr (fun p hp he => ?_)
    have hne := List.all_eq_true.mp hr p hp
    rw [bne, he] at hne
    exact absurd hne (by decide)
  refine ⟨_, (exec_sessKey_taken h).trans (congrArg _ (State.keyChecked_none ((State.countRx_openingSlot q.port.isLt session).trans hk)
    ((s.countRx_sec _).symm ▸ hnone))), State.sendPlain_answered _ _ _ _ _ _ _, ((Changes.refl _ _ s).countRx).sendPlain⟩

/-! ### ATTEST -/

/-- The report rests on the dies' images, the enrolments and words outside the network's. -/
theorem State.report_of (hclk : t.clk = s.clk) (hsys : t.sys = s.sys) (hsec : t.sec = s.sec) (hice : t.ice = s.ice)
    (hr : ∀ a, a < 0x9010000 ∨ 0x9040000 ≤ a → t.rd a = s.rd a) (nonce : List Byte) : t.report nonce = s.report nonce := by
  have hf : ∀ f : Fld, f.addr < 0x9010000 ∨ 0x9040000 ≤ f.addr → t.fld f = s.fld f := fun f h => State.fld_congr (hr _ h)
  have hserial : (fun i => wordBytes (t.rd (Reg.SEC_SERIAL i))) = fun i => wordBytes (s.rd (Reg.SEC_SERIAL i)) :=
    funext (fun i => congrArg wordBytes (hr _ (by simp only [Reg.SEC_SERIAL]; omega)))
  have hroot : (fun i => wordBytes (t.rd (Reg.SEC_ROOT i))) = fun i => wordBytes (s.rd (Reg.SEC_ROOT i)) :=
    funext (fun i => congrArg wordBytes (hr _ (by simp only [Reg.SEC_ROOT]; omega)))
  have hpart : t.partReport = s.partReport := funext (fun p => by
    have hrun : t.fld (Fd.FW_SLOT_RUN p) = s.fld (Fd.FW_SLOT_RUN p) := hf _ (by simp only [Fd.FW_SLOT_RUN, Reg.FW_SLOT]; omega)
    have hstat : ∀ b, t.fwStat p b = s.fwStat p b := fun b => hf _ (by
      unfold fwState
      split <;>
        · simp only [Fd.FW_SLOT_STATE_A, Fd.FW_SLOT_STATE_B, Reg.FW_SLOT]
          omega)
    have hver : ∀ b : Nat, t.rd (if b = 0 then Reg.FW_VERA p else Reg.FW_VERB p) = s.rd (if b = 0 then Reg.FW_VERA p else Reg.FW_VERB p) := fun b => hr _ (by
      split <;>
        · simp only [Reg.FW_VERA, Reg.FW_VERB]
          omega)
    have himg : ∀ b, t.fwImage p b = s.fwImage p b := fun b => by
      unfold State.fwImage
      rw [hsec]
    unfold State.partReport
    dsimp only
    rw [hrun, hstat, himg, hver, hf (Fd.FW_SVN_LEVEL p) (by simp only [Fd.FW_SVN_LEVEL, Reg.FW_SVN]; omega),
      hf (Fd.FW_SVN_FLOOR p) (by simp only [Fd.FW_SVN_FLOOR, Reg.FW_SVN]; omega), hf (Fd.FW_SVN_SVN p) (by simp only [Fd.FW_SVN_SVN, Reg.FW_SVN]; omega)])
  have hprog : t.progHash = s.progHash := by
    unfold State.progHash State.slotImg
    rw [hice]
  have henrol : t.enrolHash = s.enrolHash := by
    have hcfg : (fun n => wordBytes (t.rd (Reg.EN_CFG n)) ++ wordBytes (t.enrolWord n) ++ t.enrolPub n) =
        fun n => wordBytes (s.rd (Reg.EN_CFG n)) ++ wordBytes (s.enrolWord n) ++ s.enrolPub n := funext (fun n => by
      rw [hr (Reg.EN_CFG n) (by simp only [Reg.EN_CFG]; omega), State.enrolPub_of (congrArg Sec.enr hsec)]
      unfold State.enrolWord
      rw [hsec])
    unfold State.enrolHash
    rw [hcfg]
  have hgen : t.generation 1 = s.generation 1 := hf _ (by decide)
  have hop : t.opState = s.opState := hf _ (by decide)
  unfold State.report State.akCert State.akPub
  rw [hf _ (show Fd.SYS_LVL_ZH_MAX.addr < 0x9010000 ∨ _ by decide), hf _ (show Fd.SYS_ID_VARIANT.addr < 0x9010000 ∨ _ by decide), hserial, hroot, hpart,
    hprog, henrol, hgen, hop, hclk, hsys, hr Reg.LOP_INMAP (by decide)]

theorem exec_attest (q : Req) (nonce : List Byte) (s : State) : exec (.attest q nonce) s =
    .next (s.request (.attest q nonce) q 0x07 (judgeAttest nonce)) := rfl

/-- The state in which a report is made: the leaf used, and the answer counted. -/
def State.attested (s : State) : State := (s.useLeaf 1).count Reg.SEC_CNT_ATTEST

theorem judgeAttest_run {nonce : List Byte} {k : Nat} (v : State) (hl : (v.leaves 1).next < akLeaves) : (judgeAttest nonce k u).run 0 v =
    (v.attested, .now 0 0 (natsOf (v.report nonce ++ Config.lmsSign 1 (v.nextLeaf 1) (v.report nonce)))) := by
  unfold judgeAttest
  dsimp only
  rw [State.readyAk_ready hl]
  rfl

/-- A request's arrival leaves the words outside those of the ports. -/
theorem State.Reaches.rd_far {q : Req} {k a : Nat} (h : s.Reaches q k u) (ha : a < 0x9010000 ∨ 0x9020000 ≤ a) : u.rd a = s.rd a := by
  have hp := q.port.isLt
  refine h.rd _ ?_
  simp only [Reg.PORT_CNT_RX]
  omega

theorem attest_answers {q : Req} {nonce : List Byte} {k : Nat} (h : s.Reaches q k u) (hj : (judgeAttest nonce k u).first q u = none)
    (hl : (s.leaves 1).next + 1 < akLeaves) : ∃ t, exec (.attest q nonce) s = .next t ∧
      AnsweredOk t q 0x07 (natsOf (s.report nonce ++ Config.lmsSign 1 (s.nextLeaf 1) (s.report nonce))) ∧
      (t.leaves 1).next = (s.leaves 1).next + 1 ∧ t.rd Reg.SEC_CNT_ATTEST = satCount (s.rd Reg.SEC_CNT_ATTEST) 1 ∧
      Changes [.zh, .sec, .firn, .out] [Reg.SS_MBOX k, Reg.SEC_CNT_ATTEST, Reg.SEC_EVT, Reg.SEC_EVT_SEQ, Reg.PORT_CNT_RX q.port] s t := by
  have hc := h.changes
  have hsec : u.sec = s.sec := hc.1.2 .sec (by decide)
  have hrep : u.report nonce = s.report nonce := State.report_of (hc.1.2 .clk (by decide)) (hc.1.2 .sys (by decide)) hsec (hc.1.2 .ice (by decide))
    (fun a ha => h.rd_far (by omega)) nonce
  have hleaf : u.nextLeaf 1 = s.nextLeaf 1 := by
    unfold State.nextLeaf State.generation
    rw [State.leaves_of hsec, State.fld_congr (h.rd_far (a := (genField 1).addr) (by decide))]
  have hlu : (u.leaves 1).next + 1 < akLeaves := by rw [State.leaves_of hsec]; exact hl
  have hrun := judgeAttest_run (u := u) (nonce := nonce) (k := k) u (Nat.lt_of_succ_lt hlu)
  rw [hrep, hleaf] at hrun
  obtain ⟨h1, -, h3⟩ := u.useLeaf_spec hlu
  have hcnt : (u.useLeaf 1).rd Reg.SEC_CNT_ATTEST = s.rd Reg.SEC_CNT_ATTEST := (h3.rd (by decide) (by decide)).trans (h.rd_far (by decide))
  have hall : Changes [.zh, .sec, .firn, .out] [Reg.SS_MBOX k, Reg.SEC_CNT_ATTEST, Reg.SEC_EVT, Reg.SEC_EVT_SEQ, Reg.PORT_CNT_RX q.port] s u.attested :=
    (((Changes.refl _ _ s).step hc).step h3).count
  have hn : (u.attested.leaves 1).next = (s.leaves 1).next + 1 := by
    rw [← State.leaves_of hsec, ← h1]
    exact congrArg Leaves.next (State.leaves_of (State.count_sec _ _) 1)
  have hcount : u.attested.rd Reg.SEC_CNT_ATTEST = satCount (s.rd Reg.SEC_CNT_ATTEST) 1 := by
    rw [← hcnt]
    exact State.rd_count_same _ _
  have hx := State.request_ok (i := .attest q nonce) (code := 0x07) (l := []) h hj rfl rfl hrun
  have hk := h.slot_lt
  generalize u.attested = w at *
  refine ⟨_, (exec_attest _ _ _).trans (congrArg _ hx), State.finish_ok _ _ _ _ _ _, ?_, ?_, hall.finish⟩
  · rw [State.leaves_of (((Changes.refl [.zh, .out] [Reg.SS_MBOX k] w).finish).1.2 .sec (by decide)), hn]
  · refine (State.finish_rd _ _ _ _ _ _ _ (by decide) _ ?_).trans hcount
    simp only [Reg.SEC_CNT_ATTEST, Reg.SS_MBOX]
    omega

/-! ### Enrolment and program keys -/

/-- The key written for an entry is read beside its EN_CFG. -/
theorem State.keyAt_of {a : Nat} (h : ∀ j < 14, t.rd (a + 4 * j) = s.rd (a + 4 * j)) : t.keyAt a = s.keyAt a := by
  unfold State.keyAt
  exact List.flatMap_congr (fun j hj => congrArg wordBytes (h j (List.mem_range.mp hj)))

theorem State.putEntry_sec (s : State) (n : Nat) (v : Word) :
    (s.putEntry n v).sec = { s.sec with enr := s.sec.enr.put n (s.rd (Reg.EN_MASTER n), s.keyAt (Reg.EN_PUB n 0)) } := by
  have hm : (s.wr (Reg.EN_CFG n) (v &&& 0x8000007F)).rd (Reg.EN_MASTER n) = s.rd (Reg.EN_MASTER n) := State.rd_wr_ne _ _ _ _ (by
    simp only [Reg.EN_CFG, Reg.EN_MASTER]
    omega)
  have hk : (s.wr (Reg.EN_CFG n) (v &&& 0x8000007F)).keyAt (Reg.EN_PUB n 0) = s.keyAt (Reg.EN_PUB n 0) := State.keyAt_of (fun j hj => State.rd_wr_ne _ _ _ _ (by
    simp only [Reg.EN_CFG, Reg.EN_PUB]
    omega))
  rw [← hm, ← hk]
  rfl

theorem State.putEntry_changes (s : State) (n : Nat) (v : Word) : Changes [.sec] [Reg.EN_CFG n] s (s.putEntry n v) :=
  ((Changes.refl _ _ s).wr).upd_sec

theorem State.putEntry_cfg (s : State) (n : Nat) (v : Word) : (s.putEntry n v).rd (Reg.EN_CFG n) = v &&& 0x8000007F := State.rd_wr_self _ _ _

theorem State.tellEnrol_spec (s : State) (n : Nat) : (s.tellEnrol n).on Fd.SEC_EVT_ENROL = true ∧
    Changes [.firn] [Reg.SEC_STAT, Reg.SEC_EVT, Reg.SEC_EVT_SEQ] s (s.tellEnrol n) :=
  ⟨State.raise_on _ _ _ _ _ (by decide) (by decide) rfl (by decide), ((Changes.refl _ _ s).setB).raise⟩

theorem State.enrol_new {n : Nat} {v : Word} (hv : s.on (Fd.EN_CFG_VALID n) = false) : s.enrol n v = (s.putEntry n v).tellEnrol n := by
  unfold State.enrol
  dsimp only
  rw [if_pos (by rw [hv]; decide)]
  rfl

theorem enrolCommit_new {w : Fin 8} {n : Fin 64} {value : Word} (h : s.WriteTaken w (Reg.EN_CFG n) value (s.enrolOk n value))
    (hv : s.on (Fd.EN_CFG_VALID n) = false) : ∃ t, exec (.enrolCommit w n value) s = .next t ∧ WroteOk t w (Reg.EN_CFG n) ∧
      t.rd (Reg.EN_CFG n) = value &&& 0x8000007F ∧
      t.sec = { s.sec with enr := s.sec.enr.put n (s.rd (Reg.EN_MASTER n), s.keyAt (Reg.EN_PUB n 0)) } ∧ t.on Fd.SEC_EVT_ENROL = true ∧
      Changes [.zh, .sec, .firn, .out] [Reg.EN_CFG n, Reg.SEC_STAT, Reg.SEC_EVT, Reg.SEC_EVT_SEQ] s t := by
  have hx := exec_enrolCommit_taken h
  rw [State.enrol_new (by rw [State.afterChecks_on]; exact hv)] at hx
  have hn := n.isLt
  have hsec : (s.afterChecks w (Reg.EN_CFG n) value).sec = s.sec := State.afterChecks_sec _ _ _ _
  have hkey : (s.afterChecks w (Reg.EN_CFG n) value).keyAt (Reg.EN_PUB n 0) = s.keyAt (Reg.EN_PUB n 0) := State.keyAt_of (fun j _ => State.afterChecks_rd _ _ _ _ _)
  have hmas : (s.afterChecks w (Reg.EN_CFG n) value).rd (Reg.EN_MASTER n) = s.rd (Reg.EN_MASTER n) := State.afterChecks_rd _ _ _ _ _
  have hch : Changes [.zh, .sec, .firn, .out] [Reg.EN_CFG n, Reg.SEC_STAT, Reg.SEC_EVT, Reg.SEC_EVT_SEQ] s (s.afterChecks w (Reg.EN_CFG n) value) :=
    (Changes.refl _ _ s).afterChecks
  have hput := State.putEntry_sec (s.afterChecks w (Reg.EN_CFG n) value) n value
  rw [hkey, hmas, hsec] at hput
  have hcfg := State.putEntry_cfg (s.afterChecks w (Reg.EN_CFG n) value) n value
  have hch := hch.step (State.putEntry_changes (s.afterChecks w (Reg.EN_CFG n) value) n value)
  generalize State.putEntry _ _ _ = v at *
  obtain ⟨k1, k2⟩ := v.tellEnrol_spec n
  refine ⟨_, hx, WroteOk.send _ _ _, ?_, ?_, ?_, (hch.step k2).send⟩
  · rw [State.rd_send, k2.rd (eventWord_eq_false ?_ ?_) ?_, hcfg]
    all_goals
      simp only [Reg.EN_CFG, Reg.SEC_STAT, Reg.SEC_EVT, Reg.SEC_EVT_SEQ, List.mem_cons, List.not_mem_nil, or_false]
      omega
  · rw [State.send_sec, k2.1.2 .sec (by decide), hput]
  · exact k1

/-! ### Commits that end sessions, or take roles -/

theorem State.clearSlot_changes (s : State) (k : Nat) : Changes [.zh, .firn] [Reg.SYS_DEFER, Reg.SS_STAT k, Reg.SS_ID k, Reg.SS_ROLES k, Reg.SS_MBOX k,
    Reg.SS_LEVEL k, Reg.NET_STAT, Reg.NET_EVT, Reg.NET_EVT_SEQ] s (s.clearSlot k) := by
  unfold State.clearSlot
  dsimp only
  generalize heldCount _ = n
  have h1 : Changes [.zh, .firn] [Reg.SYS_DEFER, Reg.SS_STAT k, Reg.SS_ID k, Reg.SS_ROLES k, Reg.SS_MBOX k, Reg.SS_LEVEL k, Reg.NET_STAT, Reg.NET_EVT,
    Reg.NET_EVT_SEQ] s (s.set Fd.SYS_DEFER_HELD (s.fld Fd.SYS_DEFER_HELD - n)) := (Changes.refl _ _ s).set
  generalize s.set Fd.SYS_DEFER_HELD _ = u at h1
  have h2 : Changes [.zh, .firn] [Reg.SYS_DEFER, Reg.SS_STAT k, Reg.SS_ID k, Reg.SS_ROLES k, Reg.SS_MBOX k, Reg.SS_LEVEL k, Reg.NET_STAT, Reg.NET_EVT,
      Reg.NET_EVT_SEQ] s (if u.zh.attached = some k then u.detachStore else u) := by
    split
    · exact h1.upd_zh
    · exact h1
  generalize (if u.zh.attached = some k then u.detachStore else u) = w at h2
  have h3 : Changes [.zh, .firn] [Reg.SYS_DEFER, Reg.SS_STAT k, Reg.SS_ID k, Reg.SS_ROLES k, Reg.SS_MBOX k, Reg.SS_LEVEL k, Reg.NET_STAT, Reg.NET_EVT,
      Reg.NET_EVT_SEQ] s (w.delSess k) := h2.upd_zh
  exact ((((((h3.wr).wr).wr).wr).wr).set).raise

/-- The words of keys and enrolments. -/
def secWord (a : Nat) : Prop := 0xC000010 ≤ a ∧ a < 0xC7F0000

theorem secWord.quiet {a : Nat} (h : secWord a) : eventWord a = false := eventWord_eq_false (by unfold secWord at h; omega) (by unfold secWord at h; omega)

theorem State.freeDomain_rd_sec {k d a : Nat} (hd : d < 4) (hh : s.holder d = some k) (ha : secWord a) : (s.freeDomain d).rd a = s.rd a := by
  have hk := State.holder_lt hh
  obtain ⟨-, -, -, -, -, -, -, hc⟩ := State.freeDomain_spec hd hh
  refine hc.rd ha.quiet ?_
  unfold secWord at ha
  simp only [Reg.OW_STAT, Reg.OW_SEQ, Reg.SS_STAT, Reg.NET_EVT, Reg.NET_EVT_SEQ, List.mem_cons, List.not_mem_nil, or_false, not_or]
  omega

theorem State.giveUpEach_rd_sec (p : Nat → Bool) (k : Nat) (s : State) {a : Nat} (ha : secWord a) : (s.giveUpEach p k).rd a = s.rd a := by
  refine List.foldlRecOn (motive := fun t : State => t.rd a = s.rd a) _ _ rfl (fun t ht d hd => ?_)
  unfold State.giveUp
  split
  case isTrue h => exact (State.freeDomain_rd_sec (List.mem_range.mp hd) h.1 ha).trans ht
  case isFalse => exact ht

theorem State.dropSlot_rd_sec (s : State) {k a : Nat} (hk : k < 8) (ha : secWord a) : (s.dropSlot k).rd a = s.rd a := by
  by_cases h : s.sessOpen k = true
  · rw [State.dropSlot_open h, (State.clearSlot_changes _ k).rd ha.quiet ?_, State.giveUpEach_rd_sec _ _ _ ha]
    unfold secWord at ha
    simp only [Reg.SYS_DEFER, Reg.SS_STAT, Reg.SS_ID, Reg.SS_ROLES, Reg.SS_MBOX, Reg.SS_LEVEL, Reg.NET_STAT, Reg.NET_EVT, Reg.NET_EVT_SEQ, List.mem_cons,
      List.not_mem_nil, or_false, not_or]
    omega
  · rw [State.dropSlot_not_open h, (s.closeOpening_changes k).rd ha.quiet]
    unfold secWord at ha
    simp only [Reg.SS_STAT, Reg.SS_ID, Reg.SS_ROLES, Reg.SS_LEVEL, List.mem_cons, List.not_mem_nil, or_false, not_or]
    omega

theorem fieldOf_masked_valid {v : Word} (h : fieldOf v 31 1 = 0) : fieldOf (v &&& 0x8000007F) 31 1 = 0 := by
  rw [fieldOf_one] at h ⊢
  rw [BitVec.getLsbD_and, Bool.toNat_eq_zero.mp h]
  rfl

theorem enrolWord_sec {n : Nat} (hn : n < 64) : secWord (Reg.EN_CFG n) := by
  unfold secWord
  simp only [Reg.EN_CFG]
  omega

theorem State.tellEnrol_cfg (s : State) {n m : Nat} (hn : n < 64) : (s.tellEnrol m).rd (Reg.EN_CFG n) = s.rd (Reg.EN_CFG n) := by
  refine (s.tellEnrol_spec m).2.rd (enrolWord_sec hn).quiet ?_
  simp only [Reg.EN_CFG, Reg.SEC_STAT, Reg.SEC_EVT, Reg.SEC_EVT_SEQ, List.mem_cons, List.not_mem_nil, or_false]
  omega

theorem State.foldl_dropSlot_cfg {l : List Nat} (hl : ∀ k ∈ l, k < 8) (s : State) {n : Nat} (hn : n < 64) :
    (l.foldl State.dropSlot s).rd (Reg.EN_CFG n) = s.rd (Reg.EN_CFG n) :=
  List.foldlRecOn (motive := fun t : State => t.rd (Reg.EN_CFG n) = s.rd (Reg.EN_CFG n)) _ _ rfl
    (fun t ht k hk => (t.dropSlot_rd_sec (hl k hk) (enrolWord_sec hn)).trans ht)

theorem enrolCommit_clears {w : Fin 8} {n : Fin 64} {value : Word} (h : s.WriteTaken w (Reg.EN_CFG n) value (s.enrolOk n value))
    (hv : s.on (Fd.EN_CFG_VALID n) = true) (h0 : fieldOf value 31 1 = 0) : ∃ t, exec (.enrolCommit w n value) s = .next t ∧
      t.on (Fd.EN_CFG_VALID n) = false ∧ (∀ k, k ∈ s.slotsOf (s.enrolNum n) → t.fld (Fd.SS_STAT_STATE k) = 0) ∧ t.on Fd.SEC_EVT_ENROL = true := by
  obtain ⟨t, hx, hs⟩ := enrolCommit_drops h hv (Or.inl h0)
  have hl : ∀ k ∈ s.slotsOf (s.enrolNum n), k < 8 := fun _ => State.lt_of_mem_slotsOf
  have e := exec_enrolCommit_taken h
  rw [State.enrol_drops (by rw [State.afterChecks_on]; exact hv) (Or.inl h0), State.afterChecks_slotsOf_enrolNum] at e
  have ht := Host.Outcome.next.inj (hx.symm.trans e)
  refine ⟨t, hx, ?_, fun k hk => (hs k hk).1, ?_⟩
  · have hcfg : t.rd (Reg.EN_CFG n) = value &&& 0x8000007F := by
      rw [ht, State.rd_send, State.tellEnrol_cfg _ n.isLt, State.foldl_dropSlot_cfg hl _ n.isLt, State.putEntry_cfg]
    have hf : t.fld (Fd.EN_CFG_VALID n) = 0 := (congrArg (fun w => fieldOf w 31 1) hcfg).trans (fieldOf_masked_valid h0)
    rw [State.on, hf]
    rfl
  · rw [ht]
    exact (State.tellEnrol_spec _ _).1

theorem State.rd_wrap_ne (s : State) (f : Fld) {a : Nat} (h : a ≠ f.addr) : (s.wrap f).rd a = s.rd a := State.rd_wr_ne _ _ _ _ h

theorem State.domainFreed_rd (u : State) (z : Zhoide) {d j : Nat} (hj : j < 8) (l : List Nat) :
    (({ u with zh := z }.wrap (Fd.OW_SEQ_N d)).raise Fd.NET_EVT_OWNER noObj l).rd (Reg.SS_STAT j) = u.rd (Reg.SS_STAT j) := by
  have hz : State.rd { u with zh := z } (Reg.SS_STAT j) = u.rd (Reg.SS_STAT j) := rfl
  generalize { u with zh := z } = v at hz ⊢
  rw [State.raise_rd _ _ _ _ _ _ (by decide) (eventWord_eq_false ?_ ?_) ?_ ?_, State.rd_wrap_ne, hz]
  all_goals
    simp only [Reg.SS_STAT, Fd.NET_EVT_OWNER, Reg.NET_EVT, Fd.OW_SEQ_N, Reg.OW_SEQ]
    omega

theorem State.domainTaken_state (s : State) {d j : Nat} (hd : d < 4) (hj : j < 8) :
    ((s.vacate d).setBit (Fd.SS_STAT_DOMAINS j) d false).fld (Fd.SS_STAT_STATE j) = s.fld (Fd.SS_STAT_STATE j) := by
  rw [State.setBit, State.fld_set_bits _ (Fd.SS_STAT_DOMAINS j) (Fd.SS_STAT_STATE j) _ rfl (Or.inr (show 0 + 2 ≤ 4 by decide)),
    State.fld_congr (State.vacate_rd_ne _ _ _ ?_)]
  simp only [Fd.SS_STAT_STATE, Reg.SS_STAT, Reg.OW_STAT]
  omega

/-- The release of a domain leaves the state of every slot, and its roles. -/
theorem State.freeDomain_slot {k d j : Nat} (hd : d < 4) (hh : s.holder d = some k) (hj : j < 8) :
    (s.freeDomain d).fld (Fd.SS_STAT_STATE j) = s.fld (Fd.SS_STAT_STATE j) ∧ (s.freeDomain d).rd (Reg.SS_ROLES j) = s.rd (Reg.SS_ROLES j) := by
  have hk := State.holder_lt hh
  obtain ⟨-, -, -, -, -, -, -, hc⟩ := State.freeDomain_spec hd hh
  constructor
  · by_cases hjk : j = k
    · subst hjk
      obtain ⟨z, e⟩ := State.freeDomain_eq hh
      refine (State.fld_congr ?_).trans (s.domainTaken_state hd hj)
      rw [e]
      exact State.domainFreed_rd _ z hj _
    · exact State.fld_congr ((State.freeDomain_frees hd hh).stat j hj hjk)
  · refine hc.rd (eventWord_eq_false ?_ ?_) ?_
    all_goals
      simp only [Reg.SS_ROLES, Reg.OW_STAT, Reg.OW_SEQ, Reg.SS_STAT, Reg.NET_EVT, Reg.NET_EVT_SEQ, List.mem_cons, List.not_mem_nil, or_false]
      omega

theorem State.giveUpEach_slot (p : Nat → Bool) (k : Nat) (s : State) {j : Nat} (hj : j < 8) :
    (s.giveUpEach p k).fld (Fd.SS_STAT_STATE j) = s.fld (Fd.SS_STAT_STATE j) ∧ (s.giveUpEach p k).rd (Reg.SS_ROLES j) = s.rd (Reg.SS_ROLES j) := by
  refine List.foldlRecOn (motive := fun t : State => t.fld (Fd.SS_STAT_STATE j) = s.fld (Fd.SS_STAT_STATE j) ∧ t.rd (Reg.SS_ROLES j) = s.rd (Reg.SS_ROLES j))
    _ _ ⟨rfl, rfl⟩ (fun t ht d hd => ?_)
  unfold State.giveUp
  split
  case isTrue h =>
    obtain ⟨h1, h2⟩ := State.freeDomain_slot (List.mem_range.mp hd) h.1 hj
    exact ⟨h1.trans ht.1, h2.trans ht.2⟩
  case isFalse => exact ht

theorem State.stripSlot_state (s : State) (roles k : Nat) {j : Nat} (hj : j < 8) : (s.stripSlot roles k).fld (Fd.SS_STAT_STATE j) = s.fld (Fd.SS_STAT_STATE j) := by
  unfold State.stripSlot
  rw [(State.giveUpEach_slot _ _ _ hj).1, State.fld_congr (State.rd_wr_ne _ _ _ _ ?_)]
  simp only [Fd.SS_STAT_STATE, Reg.SS_STAT, Reg.SS_ROLES]
  omega

theorem State.stripSlot_roles (s : State) (roles : Nat) {k : Nat} (hk : k < 8) : (s.stripSlot roles k).rd (Reg.SS_ROLES k) = BitVec.ofNat 32 roles := by
  unfold State.stripSlot
  rw [(State.giveUpEach_slot _ _ _ hk).2, State.rd_wr_self]

theorem State.stripSlot_roles_ne (s : State) (roles : Nat) {k j : Nat} (hj : j < 8) (hne : j ≠ k) :
    (s.stripSlot roles k).rd (Reg.SS_ROLES j) = s.rd (Reg.SS_ROLES j) := by
  unfold State.stripSlot
  rw [(State.giveUpEach_slot _ _ _ hj).2, State.rd_wr_ne]
  simp only [Reg.SS_ROLES]
  omega

theorem foldl_stripSlot_roles {roles : Nat} {l : List Nat} (hl : ∀ k ∈ l, k < 8) {k : Nat} (hk : k ∈ l) (s : State) :
    (l.foldl (State.stripSlot roles) s).rd (Reg.SS_ROLES k) = BitVec.ofNat 32 roles := by
  refine foldl_of_mem (pre := fun _ => True) (post := fun s => s.rd (Reg.SS_ROLES k) = BitVec.ofNat 32 roles) hk (fun _ _ _ _ h => h)
    (fun t _ => t.stripSlot_roles roles (hl k hk)) (fun t j hj h => ?_) trivial
  by_cases he : k = j
  · exact he ▸ t.stripSlot_roles roles (hl k hk)
  · exact (t.stripSlot_roles_ne roles (hl k hk) he).trans h

theorem foldl_stripSlot_state {roles : Nat} (l : List Nat) {k : Nat} (hk : k < 8) (s : State) :
    (l.foldl (State.stripSlot roles) s).fld (Fd.SS_STAT_STATE k) = s.fld (Fd.SS_STAT_STATE k) :=
  List.foldlRecOn (motive := fun t : State => t.fld (Fd.SS_STAT_STATE k) = s.fld (Fd.SS_STAT_STATE k)) _ _ rfl
    (fun t ht j _ => (t.stripSlot_state roles j hk).trans ht)

theorem State.on_of_holder_none {d : Nat} (h : s.holder d = none) : s.on (Fd.OW_STAT_HELD d) = false := by
  unfold State.holder at h
  cases hon : s.on (Fd.OW_STAT_HELD d) with
  | false => rfl
  | true => rw [hon] at h; cases h

theorem enrolCommit_keeps {w : Fin 8} {n : Fin 64} {value : Word} (h : s.WriteTaken w (Reg.EN_CFG n) value (s.enrolOk n value))
    (hv : s.on (Fd.EN_CFG_VALID n) = true) (h1 : fieldOf value 31 1 = 1) (he : s.fld (Fd.EN_MASTER_NUM n) = s.enrolNum n) :
    ∃ t, exec (.enrolCommit w n value) s = .next t ∧
      (∀ k, k ∈ s.slotsOf (s.enrolNum n) → t.fld (Fd.SS_STAT_STATE k) = s.fld (Fd.SS_STAT_STATE k) ∧ t.rd (Reg.SS_ROLES k) = BitVec.ofNat 32 (fieldOf value 0 7)) ∧
      (∀ d, d < 4 → bitOf (fieldOf value 0 7) (domainRole d) = false → (∃ k, k ∈ s.slotsOf (s.enrolNum n) ∧ s.holder d = some k) → t.on (Fd.OW_STAT_HELD d) = false) ∧
      t.on Fd.SEC_EVT_ENROL = true := by
  obtain ⟨t, hx, hs⟩ := enrolCommit_strips h hv h1 he
  have hl : ∀ k ∈ s.slotsOf (s.enrolNum n), k < 8 := fun _ => State.lt_of_mem_slotsOf
  have e := exec_enrolCommit_taken h
  rw [State.enrol_strips (by rw [State.afterChecks_on]; exact hv) h1 (by rw [State.afterChecks_fld, State.afterChecks_enrolNum]; exact he),
    State.afterChecks_slotsOf_enrolNum] at e
  have ht := Host.Outcome.next.inj (hx.symm.trans e)
  have htell : ∀ (u : State) (a : Nat), 0x9030000 ≤ a → a < 0x9030100 → ((u.tellEnrol n).send (.wrote w (Reg.EN_CFG n) 0 0 0)).rd a = u.rd a := fun u a ha hb => by
    rw [State.rd_send]
    refine (u.tellEnrol_spec n).2.rd (eventWord_eq_false (by omega) (by omega)) ?_
    simp only [Reg.SEC_STAT, Reg.SEC_EVT, Reg.SEC_EVT_SEQ, List.mem_cons, List.not_mem_nil, or_false]
    omega
  refine ⟨t, hx, fun k hk => ?_, fun d hd hr hh => ?_, by rw [ht]; exact (State.tellEnrol_spec _ _).1⟩
  · have hk8 := hl k hk
    have ha : 0x9030000 ≤ Reg.SS_STAT k ∧ Reg.SS_STAT k < 0x9030100 ∧ 0x9030000 ≤ Reg.SS_ROLES k ∧ Reg.SS_ROLES k < 0x9030100 := by
      simp only [Reg.SS_STAT, Reg.SS_ROLES]
      omega
    obtain ⟨a1, a2, a3, a4⟩ := ha
    constructor
    · rw [ht, State.fld_congr (htell _ _ a1 a2), foldl_stripSlot_state _ hk8, State.fld_congr ((State.putEntry_sameOwners _ n value).stat hk8), State.afterChecks_fld]
    · rw [ht, htell _ _ a3 a4, foldl_stripSlot_roles hl hk]
  · obtain ⟨k, hk, hh⟩ := hh
    exact State.on_of_holder_none (hs k d hk hd hh hr)

theorem exec_programKeyCommit (w : Fin 8) (k : Fin 16) (value : Word) (s : State) : exec (.programKeyCommit w k value) s =
    .next (s.writeRow w (Reg.PK_CFG k) value true (fun s => s.programKey k value)) := rfl

theorem State.programKey_spec (s : State) (k : Nat) (hk : k < 16) (v : Word) : (s.programKey k v).rd (Reg.PK_CFG k) = v &&& 0x80000000 ∧
    (s.programKey k v).sec = { s.sec with pkey := s.sec.pkey.put k (s.keyAt (Reg.PK_PUB k 0)) } ∧ (s.programKey k v).on Fd.SEC_EVT_ENROL = true ∧
    Changes [.sec, .firn] [Reg.PK_CFG k, Reg.SEC_EVT, Reg.SEC_EVT_SEQ] s (s.programKey k v) := by
  have hkey : (s.wr (Reg.PK_CFG k) (v &&& 0x80000000)).keyAt (Reg.PK_PUB k 0) = s.keyAt (Reg.PK_PUB k 0) := State.keyAt_of (fun j hj => State.rd_wr_ne _ _ _ _ (by
    simp only [Reg.PK_CFG, Reg.PK_PUB]
    omega))
  unfold State.programKey
  dsimp only
  rw [hkey]
  have hself := State.rd_wr_self s (Reg.PK_CFG k) (v &&& 0x80000000)
  have hsec : (s.wr (Reg.PK_CFG k) (v &&& 0x80000000)).sec = s.sec := rfl
  have hch : Changes [.sec, .firn] [Reg.PK_CFG k, Reg.SEC_EVT, Reg.SEC_EVT_SEQ] s (s.wr (Reg.PK_CFG k) (v &&& 0x80000000)) := (Changes.refl _ _ s).wr
  generalize s.wr (Reg.PK_CFG k) (v &&& 0x80000000) = u at *
  refine ⟨?_, ?_, State.raise_on _ _ _ _ _ (by decide) (by decide) rfl (by decide), (hch.upd_sec).raise⟩
  · rw [State.raise_rd _ _ _ _ _ _ (by decide) (eventWord_eq_false ?_ ?_) ?_ ?_]
    · exact hself
    all_goals
      simp only [Reg.PK_CFG, Fd.SEC_EVT_ENROL, Reg.SEC_EVT]
      omega
  · rw [State.raise_sec, hsec]

theorem programKeyCommit_commits {w : Fin 8} {k : Fin 16} {value : Word} (h : s.WriteTaken w (Reg.PK_CFG k) value true) :
    ∃ t, exec (.programKeyCommit w k value) s = .next t ∧ WroteOk t w (Reg.PK_CFG k) ∧ t.rd (Reg.PK_CFG k) = value &&& 0x80000000 ∧
      t.sec = { s.sec with pkey := s.sec.pkey.put k (s.keyAt (Reg.PK_PUB k 0)) } ∧ t.on Fd.SEC_EVT_ENROL = true ∧
      Changes [.zh, .sec, .firn, .out] [Reg.PK_CFG k, Reg.SEC_EVT, Reg.SEC_EVT_SEQ] s t := by
  have hx := (exec_programKeyCommit w k value s).trans (congrArg _ (State.writeRow_taken _ h))
  have hsec : (s.afterChecks w (Reg.PK_CFG k) value).sec = s.sec := State.afterChecks_sec _ _ _ _
  have hkey : (s.afterChecks w (Reg.PK_CFG k) value).keyAt (Reg.PK_PUB k 0) = s.keyAt (Reg.PK_PUB k 0) := State.keyAt_of (fun j _ => State.afterChecks_rd _ _ _ _ _)
  have hch : Changes [.zh, .sec, .firn, .out] [Reg.PK_CFG k, Reg.SEC_EVT, Reg.SEC_EVT_SEQ] s (s.afterChecks w (Reg.PK_CFG k) value) := (Changes.refl _ _ s).afterChecks
  generalize s.afterChecks w (Reg.PK_CFG k) value = v at *
  obtain ⟨k1, k2, k3, k4⟩ := v.programKey_spec k k.isLt value
  rw [hsec, hkey] at k2
  exact ⟨_, hx, WroteOk.send _ _ _, k1, k2, k3, (hch.step k4).send⟩


/-! ### The send key, and exchanges with peers -/

theorem exec_sendKeyRenew (s : State) : exec .sendKeyRenew s = .next s.renewSend := rfl

theorem State.renewSend_idle (h : s.portAbsent = true ∨ s.sec.sendNext ≠ none ∨ s.clk.now < s.sec.sendAt + sTicks 86400 ∧ s.sec.crossed = 0) :
    s.renewSend = s := by
  unfold State.renewSend
  refine if_pos ?_
  rcases h with h | h | ⟨h, h0⟩
  · exact Or.inl h
  · exact Or.inr (Or.inl (Option.isSome_iff_ne_none.mpr h))
  · exact Or.inr (Or.inr (fun hn => hn.elim (fun h1 => Nat.not_lt.mpr h1 h) (fun h1 => Nat.lt_irrefl 0 (h0 ▸ h1))))

/-- A new send key is drawn. -/
def State.drawKey (s : State) : State :=
  { s with fresh := s.fresh + 1, sec := { s.sec with sendNext := some (Config.randomBytes s.fresh 32), sendAt := s.clk.now, crossed := 0 } }

theorem State.startExchanges_alone (h : s.peers = []) : s.startExchanges = { s with sec := { s.sec with awaiting := [] } } := by
  have h' : State.peers { s with sec := { s.sec with awaiting := s.peers } } = [] := h
  unfold State.startExchanges
  dsimp only
  rw [h', h]
  rfl

/-- Without peers the new send key is in use at once. -/
theorem State.renewSend_alone (h1 : s.portAbsent = false) (h2 : s.sec.sendNext = none) (h3 : s.sec.sendAt + sTicks 86400 ≤ s.clk.now ∨ 0 < s.sec.crossed)
    (h4 : s.peers = []) : s.renewSend = { s with fresh := s.fresh + 1, sec := { s.sec with
      sendKey := Config.randomBytes s.fresh 32, sendAt := s.clk.now, crossed := 0, awaiting := [] } } := by
  have hn : ¬ (s.portAbsent = true ∨ s.sec.sendNext.isSome = true ∨ ¬ (s.sec.sendAt + sTicks 86400 ≤ s.clk.now ∨ 0 < s.sec.crossed)) := by
    rintro (h | h | h)
    · exact absurd (h1.symm.trans h) (by decide)
    · rw [h2] at h
      exact absurd h (by decide)
    · exact h h3
  have hp : s.drawKey.peers = [] := h4
  have hr : s.renewSend = if s.drawKey.startExchanges.sec.awaiting.isEmpty then s.drawKey.startExchanges.peerConfirmed 128 else s.drawKey.startExchanges :=
    if_neg hn
  rw [hr, State.startExchanges_alone hp]
  have he : s.sec = { s.sec with sendNext := none } := by rw [← h2]
  refine (if_pos rfl).trans ?_
  show ({ s.drawKey with sec := { s.sec with sendKey := Config.randomBytes s.fresh 32, sendAt := s.clk.now, crossed := 0, awaiting := [], sendNext := none } } : State) = _
  rw [← h2]
  rfl

theorem State.drawn_only (s : State) (x : Sec) : Only [.sec, .fresh] s { s with fresh := s.fresh + 1, sec := x } := by
  refine ⟨rfl, fun p hp => ?_⟩
  cases p
  case sec | fresh => exact absurd (by decide) hp
  all_goals rfl

/-- The answer of a peer is for an exchange this module has opened. -/
theorem exec_peerExchangeResponse_ignored {peer : Fin 128} {p : PeerResponse} (h : s.portAbsent = true ∨ Tab.find s.sec.opening peer = none) :
    exec (.peerExchangeResponse peer p) s = .next s := by
  refine congrArg Host.Outcome.next ?_
  split
  · rfl
  · next hp => rw [h.resolve_left hp]

/-- An exchange closes. -/
def State.closePeer (s : State) (j : Nat) : State := { s with sec := { s.sec with opening := s.sec.opening.del j } }

theorem exec_keyed {peer : Fin 128} {confD sealedKey : List Byte} {x : Exchange} (hp : s.portAbsent = false) (hx : Tab.find s.sec.opening peer = some x) :
    exec (.peerExchangeResponse peer (.keyed confD sealedKey)) s = .next (match (if x.session ≠ 0 ∧ confD = Config.hmac x.keyConf (0x44 :: x.transcript)
      then Config.gcmOpen x.keyOut (keyNonce 1) [] sealedKey else none) with
      | some key => ((s.closePeer peer).takePeerKey peer key).peerConfirmed peer
      | none => (s.closePeer peer).authFail) := by
  refine congrArg Host.Outcome.next ?_
  rw [hp, if_neg (by decide), hx]
  rfl

theorem State.closePeer_authFail (s : State) (j : Nat) : (s.closePeer j).authFail.sec = { s.sec with opening := s.sec.opening.del j } ∧
    (s.closePeer j).authFail.rd Reg.SEC_CNT_AUTHFAIL = satCount (s.rd Reg.SEC_CNT_AUTHFAIL) 1 ∧
    Changes [.sec, .firn] [Reg.SEC_CNT_AUTHFAIL, Reg.SEC_EVT, Reg.SEC_EVT_SEQ] s (s.closePeer j).authFail := by
  obtain ⟨h1, -, h3⟩ := (s.closePeer j).authFail_spec
  exact ⟨h3.1.2 .sec (by decide), h1, ((Changes.refl _ _ s).upd_sec).step h3⟩

theorem State.peerConfirmed_spec (s : State) (j : Nat) : (s.peerConfirmed j).sec.peerKeys = s.sec.peerKeys ∧
    (s.peerConfirmed j).sec.awaiting = s.sec.awaiting.filter (· != j) ∧ Only [.sec] s (s.peerConfirmed j) := by
  refine ⟨?_, ?_, (State.peerConfirmed_keeps (F := Part.sec.bit) rfl (Keeps.refl _ s)).only _ (fun p => by cases p <;> decide)⟩
  all_goals
    unfold State.peerConfirmed
    dsimp only
    split
    next => rfl
    next => rfl

theorem keyed_taken {peer : Fin 128} {confD sealedKey : List Byte} {x : Exchange} (hp : s.portAbsent = false) (hx : Tab.find s.sec.opening peer = some x)
    (hs : x.session ≠ 0) : ∃ t, exec (.peerExchangeResponse peer (.keyed confD sealedKey)) s = .next t ∧
      (∀ key, confD = Config.hmac x.keyConf (0x44 :: x.transcript) → Config.gcmOpen x.keyOut (keyNonce 1) [] sealedKey = some key →
        Tab.find t.sec.peerKeys peer = some key ∧ t.sec.awaiting = s.sec.awaiting.filter (fun y => y != peer.val) ∧ Only [.sec] s t) := by
  refine ⟨_, exec_keyed hp hx, fun key hc hk => ?_⟩
  rw [if_pos ⟨hs, hc⟩, hk]
  obtain ⟨h1, h2, h3⟩ := ((s.closePeer peer).takePeerKey peer key).peerConfirmed_spec peer
  have htake : Only [.sec] s ((s.closePeer peer).takePeerKey peer key) :=
    (Keeps.upd_sec (F := Part.sec.bit) rfl (Keeps.upd_sec rfl (Keeps.refl _ s))).only _ (fun p => by cases p <;> decide)
  exact ⟨(congrArg (Tab.find · peer) h1).trans (Tab.find_put_self _ _ _), h2, htake.trans h3⟩

/-- What a peer answers to SESS_OPEN is signed by its AK-P, whose DIK is trusted (R542). -/
def State.peerSigned (s : State) (peer : Fin 128) (x : Exchange) (session : Word) (nonceD ct akpPub dik akpCert sig : List Byte) : Prop :=
  s.peerTrusted peer dik = true ∧ lmsOk dik akpPub akpCert = true ∧
    lmsOk akpPub (Config.sha256 (x.transcript ++ beBytes 4 session.toNat ++ nonceD ++ ct ++ akpPub ++ dik ++ akpCert)) sig = true

/-- The exchange that a peer's answer gives, and the send key delivered under it. -/
def State.keyPeer (s : State) (peer : Fin 128) (x : Exchange) (session : Word) (nonceD ct akpPub dik akpCert : List Byte) : State :=
  let t := Config.sha256 (x.transcript ++ beBytes 4 session.toNat ++ nonceD ++ ct ++ akpPub ++ dik ++ akpCert)
  let k := exchangeKeys (Config.kemDecaps ct) ((x.transcript.drop 4).take 32) nonceD t
  let y : Exchange := ⟨session, k.1, k.2.1, k.2.2, t⟩
  let s := { s with sec := { s.sec with opening := s.sec.opening.put peer y } }
  s.send (.frame .peerKey (peer :: session.toNat :: natsOf (Config.hmac k.2.2 (0x4D :: t) ++ Config.gcmSeal k.1 (keyNonce 0) [] s.keyToSend)))

theorem State.keyPeer_spec (s : State) (peer : Fin 128) (x : Exchange) (session : Word) (nonceD ct akpPub dik akpCert : List Byte) :
    (∃ y, Tab.find (s.keyPeer peer x session nonceD ct akpPub dik akpCert).sec.opening peer = some y ∧ y.session = session) ∧
      Only [.sec, .out] s (s.keyPeer peer x session nonceD ct akpPub dik akpCert) :=
  ⟨⟨_, Tab.find_put_self _ _ _, rfl⟩,
    (State.send_keeps (F := Part.sec.bit ||| Part.out.bit) rfl (Keeps.upd_sec rfl (Keeps.refl _ s))).only _ (fun p => by cases p <;> decide)⟩

theorem exec_opened_signed {peer : Fin 128} {session : Word} {nonceD ct akpPub dik akpCert sig : List Byte} {x : Exchange} (hp : s.portAbsent = false)
    (hx : Tab.find s.sec.opening peer = some x) (h0 : x.session = 0) (hs : s.peerSigned peer x session nonceD ct akpPub dik akpCert sig) :
    exec (.peerExchangeResponse peer (.opened session nonceD ct akpPub dik akpCert sig)) s = .next (s.keyPeer peer x session nonceD ct akpPub dik akpCert) := by
  refine congrArg Host.Outcome.next ?_
  rw [hp, if_neg (by decide), hx]
  exact (if_neg (not_not.mpr h0)).trans (if_pos hs)

theorem exec_opened_unsigned {peer : Fin 128} {session : Word} {nonceD ct akpPub dik akpCert sig : List Byte} {x : Exchange} (hp : s.portAbsent = false)
    (hx : Tab.find s.sec.opening peer = some x) (h0 : x.session = 0) (hs : ¬ s.peerSigned peer x session nonceD ct akpPub dik akpCert sig) :
    exec (.peerExchangeResponse peer (.opened session nonceD ct akpPub dik akpCert sig)) s = .next (s.closePeer peer).authFail := by
  refine congrArg Host.Outcome.next ?_
  rw [hp, if_neg (by decide), hx]
  exact (if_neg (not_not.mpr h0)).trans (if_neg hs)

theorem opened_answered {peer : Fin 128} {session : Word} {nonceD ct akpPub dik akpCert sig : List Byte} {x : Exchange} (hp : s.portAbsent = false)
    (hx : Tab.find s.sec.opening peer = some x) (h0 : x.session = 0) :
    ∃ t, exec (.peerExchangeResponse peer (.opened session nonceD ct akpPub dik akpCert sig)) s = .next t ∧
      (s.peerSigned peer x session nonceD ct akpPub dik akpCert sig → (∃ y, Tab.find t.sec.opening peer = some y ∧ y.session = session) ∧ Only [.sec, .out] s t) ∧
      (¬ s.peerSigned peer x session nonceD ct akpPub dik akpCert sig → Tab.find t.sec.opening peer = none ∧
        t.rd Reg.SEC_CNT_AUTHFAIL = satCount (s.rd Reg.SEC_CNT_AUTHFAIL) 1 ∧ Changes [.sec, .firn] [Reg.SEC_CNT_AUTHFAIL, Reg.SEC_EVT, Reg.SEC_EVT_SEQ] s t) := by
  by_cases hs : s.peerSigned peer x session nonceD ct akpPub dik akpCert sig
  · exact ⟨_, exec_opened_signed hp hx h0 hs, fun _ => State.keyPeer_spec _ _ _ _ _ _ _ _ _, fun hn => absurd hs hn⟩
  · obtain ⟨h1, h2, h3⟩ := s.closePeer_authFail peer
    exact ⟨_, exec_opened_unsigned hp hx h0 hs, fun hn => absurd hn hs,
      fun _ => ⟨(congrArg (fun z => Tab.find z.opening peer) h1).trans (Tab.find_del_self _ _), h2, h3⟩⟩

/-- Settles O46, command by command. -/
theorem keysAndSessionsAreEstablished : Obligations.KeysAndSessionsAreEstablished := by
  unfold Obligations.KeysAndSessionsAreEstablished
  refine ⟨?_, fun _ _ _ h hb hf hk hc => sessOpen_full h hb hf hk hc, fun _ _ _ h hb hk => sessOpen_unknown h hb hk,
    fun _ _ _ _ h hb => sessOpen_bad h hb, fun _ _ _ h => ⟨_, (exec_sessOpen _ _ _).trans (congrArg _ (State.takePlain_ignored h _)), rfl⟩,
    fun _ _ _ _ _ h hk => sessKey_opens h hk, fun _ _ _ _ _ _ h hk => sessKey_fails h hk, fun _ _ _ _ _ h hk hr => sessKey_unknown h hk hr,
    fun _ _ _ _ _ h => ⟨_, (exec_sessKey _ _ _ _ _).trans (congrArg _ (State.takePlain_ignored h _)), rfl⟩, fun _ _ _ _ _ h hj hl => attest_answers h hj hl,
    fun _ _ _ _ h hv => enrolCommit_new h hv, fun _ _ _ _ h hv h0 => enrolCommit_clears h hv h0, fun _ _ _ _ h hv h1 he => enrolCommit_keeps h hv h1 he,
    fun _ _ _ _ h => programKeyCommit_commits h, ?_, fun s h => ⟨s, (exec_sendKeyRenew s).trans (congrArg _ (State.renewSend_idle h)), rfl⟩,
    fun _ _ s h => ⟨s, exec_peerExchangeResponse_ignored h, rfl⟩, ?_, fun _ _ _ _ _ hp hx hs => keyed_taken hp hx hs,
    fun _ _ _ _ _ _ _ _ _ _ hp hx h0 => opened_answered hp hx h0⟩
  · intro q p s n c h hb hf he hc hl
    have hk : s.initiatorKnown p = true := by
      unfold State.initiatorKnown
      rw [hf, he]
      rfl
    cases hs : s.initiatorSigned p with
    | true =>
      obtain ⟨t, hx, ht⟩ := sessOpen_opens h hb hf he hc hl hk hs
      exact ⟨t, hx, fun _ => ht, fun hn => Bool.noConfusion hn⟩
    | false =>
      refine ⟨_, (exec_sessOpen_taken h).trans (congrArg _ (sessChecked_unsigned hb hk hs)), fun hn => Bool.noConfusion hn, fun _ => ?_⟩
      obtain ⟨h1, h2, -, h4⟩ := s.authFail_answered (q := q) (l := p.level.toNat) (st := 0x21) (d := 1224)
      exact ⟨h1, h2, h4⟩
  · intro s h1 h2 h3 h4
    refine ⟨_, (exec_sendKeyRenew s).trans (congrArg _ (State.renewSend_alone h1 h2 h3 h4)), rfl, rfl, ?_⟩
    exact State.drawn_only _ _
  · intro peer confD sealedKey s x hp hx h0
    refine ⟨_, (exec_keyed hp hx).trans (congrArg _ ?_), s.closePeer_authFail peer⟩
    rw [if_neg (fun hn => hn.1 h0)]
end Sys2Proof.Machine
end

section
-- In order: the one text holds more declarations than asynchronous elaboration has threads for.
set_option Elab.async false

/-! SUPPORT. What the steps of protection leave standing (R355 to R358): a sequence that has started stays active and unacknowledged through the
outputs, notices, state changes and further starts that follow it, and the parts of a rack keep what they held. -/

namespace Sys2Proof.Machine

variable {ps : List Part} {ws : List Nat} {s t u : State}

/-! ### Bits of fields -/

theorem bitOf_testBit (v n : Nat) : bitOf v n = v.testBit n := by
  rw [Nat.testBit_eq_decide_div_mod_eq]
  exact beq_eq_decide _ _

/-- A bit that is set in a field, beside those it held. -/
theorem State.setBit_true_bit (s : State) (f : Fld) {n m : Nat} (hw : f.lo + f.width ≤ 32) (hn : n < f.width) :
    bitOf ((s.setBit f n true).fld f) m = (bitOf (s.fld f) m || decide (m = n)) := by
  have hlt : s.fld f ||| 2 ^ n < 2 ^ f.width := Nat.or_lt_two_pow (s.fld_lt f) (Nat.pow_lt_pow_right (by decide) hn)
  rw [State.setBit, if_pos rfl, State.fld_set_self _ _ _ hw, Nat.mod_eq_of_lt hlt, bitOf_testBit, bitOf_testBit, Nat.testBit_or, Nat.testBit_two_pow]
  exact congrArg _ (decide_eq_decide.mpr eq_comm)

/-- Setting a bit takes no other away, of this field or of one beside it. -/
theorem State.setBit_true_keeps (s : State) (f g : Fld) {n m : Nat} (hw : f.lo + f.width ≤ 32) (hn : n < f.width)
    (hg : g = f ∨ g.addr ≠ f.addr ∨ g.lo + g.width ≤ f.lo ∨ f.lo + f.width ≤ g.lo) (h : bitOf (s.fld g) m = true) :
    bitOf ((s.setBit f n true).fld g) m = true := by
  rcases hg with rfl | hg | hg
  · rw [State.setBit_true_bit _ _ hw hn, h, Bool.true_or]
  · rw [State.fld_congr (State.setBit_rd_ne _ _ _ _ _ hg)]
    exact h
  · by_cases ha : g.addr = f.addr
    · rw [State.setBit, State.fld_set_bits _ _ _ _ ha (by omega)]
      exact h
    · rw [State.fld_congr (State.setBit_rd_ne _ _ _ _ _ ha)]
      exact h

/-! ### What stands -/

/-- What the steps of protection may change of its part: the clear times and notices of racks, the clear times of the loop level, the last
automatic entry to FULLCOOL and the overrides. -/
def State.PrtSame (s t : State) : Prop :=
  (∃ rack clear fc p v f, t.prt = { s.prt with rack := rack, clear := clear, fcAuto := fc, pumpOvr := p, valveOvr := v, fanOvr := f }) ∧
    ∀ r, ∃ c a n, t.rackP r = { s.rackP r with clear := c, noticeAt := a, notices := n }

theorem State.PrtSame.of_eq (h : t.prt = s.prt) : s.PrtSame t :=
  ⟨⟨_, _, _, _, _, _, h⟩, fun r => ⟨_, _, _, State.rackP_of h r⟩⟩

theorem State.PrtSame.refl (s : State) : s.PrtSame s := .of_eq rfl

theorem State.PrtSame.trans (h : s.PrtSame t) (k : t.PrtSame u) : s.PrtSame u := by
  obtain ⟨⟨_, _, _, _, _, _, h⟩, h'⟩ := h
  obtain ⟨⟨_, _, _, _, _, _, k⟩, k'⟩ := k
  refine ⟨⟨_, _, _, _, _, _, k.trans (by rw [h])⟩, fun r => ?_⟩
  obtain ⟨_, _, _, h'⟩ := h' r
  obtain ⟨_, _, _, k'⟩ := k' r
  exact ⟨_, _, _, k'.trans (by rw [h'])⟩

theorem State.PrtSame.setRackP (s : State) (r : Nat) (c : Tab Nat) (a n : Nat) :
    s.PrtSame (s.setRackP r { s.rackP r with clear := c, noticeAt := a, notices := n }) := by
  refine ⟨⟨_, _, _, _, _, _, rfl⟩, fun j => ?_⟩
  by_cases h : j = r
  · subst h
    exact ⟨_, _, _, State.setRackP_rackP _ _ _⟩
  · exact ⟨_, _, _, State.setRackP_rackP_ne _ _ _ _ h⟩

/-- The words that show what protection holds: the operating state, the starts and causes, and the outputs of the racks. -/
def guardWord (a : Nat) : Bool :=
  protOut a || a == Reg.SYS_STATE || a == Reg.PRT_LOOPSTAT || (decide (Reg.RK_ACT 0 ≤ a) && decide (a < Reg.RK_ACT 48) && (a - Reg.RK_ACT 0) % 0x40 == 0)

/-- The bits of PRT_STAT that commands and digests set: FULLCOOL, FC_CMD and DIGEST_LOST. -/
def statBit (lo : Nat) : Prop := lo = 0 ∨ lo = 2 ∨ lo = 5

/-- What has started stands: the starts and acknowledgements of racks and of the loop level, the bits of PRT_STAT, the drive of the outputs, and
protection's part; of the other words only those named change. -/
structure State.Rises (ws : List Nat) (s t : State) : Prop where
  words : ∀ a, eventWord a = false → guardWord a = false → a ∉ ws → t.rd a = s.rd a
  act : ∀ r < 48, ∀ b, s.rackActive r b = true → t.rackActive r b = true
  ack : ∀ r < 48, ∀ b, bitOf (s.fld (Fd.RK_ACT_ACK_REQ r)) b = true → bitOf (t.fld (Fd.RK_ACT_ACK_REQ r)) b = true
  loop : ∀ b, s.loopActive b = true → t.loopActive b = true
  loopAck : ∀ b, bitOf (s.fld Fd.PRT_LOOPSTAT_ACK_REQ) b = true → bitOf (t.fld Fd.PRT_LOOPSTAT_ACK_REQ) b = true
  stat : ∀ lo, statBit lo → s.on ⟨Reg.PRT_STAT, lo, 1⟩ = true → t.on ⟨Reg.PRT_STAT, lo, 1⟩ = true
  role : t.isActive = s.isActive
  lane : t.laneDrives = s.laneDrives
  state : t.opState = s.opState ∨ s.drives = true ∧ (t.opState = 7 ∨ t.opState = 8)
  prt : s.PrtSame t
  clk : t.clk = s.clk

theorem State.Rises.refl (ws : List Nat) (s : State) : State.Rises ws s s :=
  ⟨fun _ _ _ _ => rfl, fun _ _ _ h => h, fun _ _ _ h => h, fun _ h => h, fun _ h => h, fun _ _ h => h, rfl, rfl, Or.inl rfl, .refl s, rfl⟩

theorem State.drives_of (h1 : t.isActive = s.isActive) (h2 : t.laneDrives = s.laneDrives) (h3 : t.opState = s.opState) : t.drives = s.drives := by
  unfold State.drives
  rw [h1, h2, h3]

/-- A module that drives its outputs drives them in PROTECT and FULLCOOL too. -/
theorem State.Rises.drives (h : State.Rises ws s t) (hd : s.drives = true) : t.drives = true := by
  rcases h.state with e | ⟨-, e⟩
  · exact (State.drives_of h.role h.lane e).trans hd
  · unfold State.drives at hd ⊢
    rw [h.lane]
    rw [Bool.and_eq_true] at hd ⊢
    refine ⟨?_, hd.2⟩
    rcases e with e | e <;> simp [e]

theorem State.Rises.trans (h : State.Rises ws s t) (k : State.Rises ws t u) : State.Rises ws s u where
  words a he hg hn := (k.words a he hg hn).trans (h.words a he hg hn)
  act r hr b hb := k.act r hr b (h.act r hr b hb)
  ack r hr b hb := k.ack r hr b (h.ack r hr b hb)
  loop b hb := k.loop b (h.loop b hb)
  loopAck b hb := k.loopAck b (h.loopAck b hb)
  stat lo hl hb := k.stat lo hl (h.stat lo hl hb)
  role := k.role.trans h.role
  lane := k.lane.trans h.lane
  state := by
    rcases k.state with e | ⟨hd, e⟩
    · rcases h.state with e' | ⟨hd, e'⟩
      · exact Or.inl (e.trans e')
      · exact Or.inr ⟨hd, by rw [e]; exact e'⟩
    · rcases h.state with e' | ⟨hd', e'⟩
      · exact Or.inr ⟨(State.drives_of h.role h.lane e').symm.trans hd, e⟩
      · exact Or.inr ⟨hd', e⟩
  prt := h.prt.trans k.prt
  clk := k.clk.trans h.clk

theorem State.Rises.mono {vs : List Nat} (h : State.Rises ws s t) (hv : ∀ a ∈ ws, a ∈ vs) : State.Rises vs s t :=
  { h with words := fun a he hg hn => h.words a he hg (fun ha => hn (hv a ha)) }

/-! ### Words that are not of protection's own -/

theorem guardWord_rack {r : Nat} (hr : r < 48) : guardWord (Reg.RK_ACT r) = true := by
  have h : (decide (Reg.RK_ACT 0 ≤ Reg.RK_ACT r) && decide (Reg.RK_ACT r < Reg.RK_ACT 48) && (Reg.RK_ACT r - Reg.RK_ACT 0) % 0x40 == 0) = true := by
    unfold Reg.RK_ACT
    simp only [Bool.and_eq_true, decide_eq_true_eq, beq_iff_eq]
    omega
  unfold guardWord
  rw [h, Bool.or_true]

theorem guardWord_out {a : Nat} (h : protOut a = true) : guardWord a = true := by
  unfold guardWord
  rw [h]
  rfl

theorem ne_of_guardWord {a b : Nat} (ha : guardWord a = false) (hb : guardWord b = true) : a ≠ b := by
  rintro rfl
  rw [ha] at hb
  cases hb

theorem protOut_of_guardWord {a : Nat} (h : guardWord a = false) : protOut a = false := by
  cases hp : protOut a with
  | false => rfl
  | true => exact absurd (h.symm.trans (guardWord_out hp)) (by decide)

theorem protOut_act (r : Nat) : protOut (Reg.RK_ACT r) = false := by
  unfold protOut
  simp only [Reg.PRT_STAT, Reg.PRT_CNT_TRIP, Reg.PRT_EVT, Reg.RK_OUT, Reg.RK_ACT, Bool.or_eq_false_iff, beq_eq_false_iff_ne, Bool.and_eq_false_iff]
  refine ⟨⟨⟨⟨?_, ?_⟩, ?_⟩, ?_⟩, ?_⟩
  · omega
  · omega
  · omega
  · omega
  · rcases Nat.eq_zero_or_pos r with rfl | hr
    · exact Or.inl (by decide)
    · exact Or.inr (by omega)

theorem quiet_act {r : Nat} (hr : r < 48) : eventWord (Reg.RK_ACT r) = false :=
  eventWord_eq_false (by simp only [Reg.RK_ACT]; omega) (by simp only [Reg.RK_ACT]; omega)

theorem State.isActive_of (h : t.rd Reg.PAI_STAT = s.rd Reg.PAI_STAT) : t.isActive = s.isActive := congrArg (· == 1) (State.fld_congr h)

theorem State.laneDrives_of (h : t.rd Reg.LOP_STAT = s.rd Reg.LOP_STAT) : t.laneDrives = s.laneDrives := by
  have h : ∀ f : Fld, f.addr = Reg.LOP_STAT → t.fld f = s.fld f := fun f hf => State.fld_congr (by rw [hf]; exact h)
  unfold State.laneDrives State.on
  rw [h Fd.LOP_STAT_SEL rfl]
  split
  · rw [h Fd.LOP_STAT_B_STATE rfl]
  · rw [h Fd.LOP_STAT_A_STATE rfl]

/-- A step that changes none of the words of starts, of the state, of PRT_STAT's commands and of the lanes. -/
theorem State.Rises.of_words (hw : ∀ a, eventWord a = false → guardWord a = false → a ∉ ws → t.rd a = s.rd a)
    (ha : ∀ r < 48, t.rd (Reg.RK_ACT r) = s.rd (Reg.RK_ACT r)) (hl : t.rd Reg.PRT_LOOPSTAT = s.rd Reg.PRT_LOOPSTAT)
    (hs : ∀ lo, statBit lo → s.on ⟨Reg.PRT_STAT, lo, 1⟩ = true → t.on ⟨Reg.PRT_STAT, lo, 1⟩ = true)
    (hst : t.opState = s.opState ∨ s.drives = true ∧ (t.opState = 7 ∨ t.opState = 8))
    (hpai : t.rd Reg.PAI_STAT = s.rd Reg.PAI_STAT) (hlop : t.rd Reg.LOP_STAT = s.rd Reg.LOP_STAT) (hp : s.PrtSame t) (hc : t.clk = s.clk) :
    State.Rises ws s t where
  words := hw
  act r hr b h := by rw [State.rackActive, State.fld_congr (f := Fd.RK_ACT_ACTIVE r) (ha r hr)]; exact h
  ack r hr b h := by rw [State.fld_congr (f := Fd.RK_ACT_ACK_REQ r) (ha r hr)]; exact h
  loop b h := by rw [State.loopActive, State.fld_congr (f := Fd.PRT_LOOPSTAT_ACTIVE) hl]; exact h
  loopAck b h := by rw [State.fld_congr (f := Fd.PRT_LOOPSTAT_ACK_REQ) hl]; exact h
  stat := hs
  role := State.isActive_of hpai
  lane := State.laneDrives_of hlop
  state := hst
  prt := hp
  clk := hc

/-- A step that changes no word of protection's starts, nor one that tells whether the module drives. -/
theorem State.Rises.of_rd (hw : ∀ a, eventWord a = false → a ∉ ws → t.rd a = s.rd a) (hp : s.PrtSame t) (hc : t.clk = s.clk)
    (hn : ∀ a ∈ ws, guardWord a = false ∧ a ≠ Reg.PAI_STAT ∧ a ≠ Reg.LOP_STAT := by decide) : State.Rises ws s t := by
  have hg : ∀ {a : Nat}, eventWord a = false → guardWord a = true → t.rd a = s.rd a := fun he hg => hw _ he (fun h => by
    rw [(hn _ h).1] at hg
    cases hg)
  exact .of_words (fun a he _ h => hw a he h) (fun r hr => hg (quiet_act hr) (guardWord_rack hr)) (hg (by decide) (by decide))
    (fun lo _ h => (congrArg (· == 1) (State.fld_congr (hg (a := Reg.PRT_STAT) (by decide) (by decide)))).trans h)
    (Or.inl (State.fld_congr (hg (a := Reg.SYS_STATE) (by decide) (by decide))))
    (hw _ (by decide) (fun h => (hn _ h).2.1 rfl)) (hw _ (by decide) (fun h => (hn _ h).2.2 rfl)) hp hc

/-! ### The outputs -/

theorem State.setIf_prt (s : State) (f : Fld) (v : Nat) : (s.setIf f v).prt = s.prt := by
  unfold State.setIf
  split
  · rfl
  · exact State.set_prt _ _ _

theorem State.powerOff_prtSame (s : State) (r c n : Nat) : s.PrtSame (s.powerOff r c n) := by
  unfold State.powerOff
  split
  · exact .refl s
  · refine State.PrtSame.trans (State.PrtSame.setRackP s r (s.rackP r).clear s.clk.now n) (.of_eq ?_)
    exact foldl_keep (f := fun (s : State) k => s.notice k 2 [r, c, 0, n]) (fun s => s.prt) (fun s k => (State.notice_keeps (F := 8388616) rfl (Keeps.refl _ s)).prt.resolve_left (by decide)) _ _

theorem State.settleRack_prtSame (s : State) (r : Nat) : s.PrtSame (s.settleRack r) := by
  unfold State.settleRack
  extract_lets iso s1 was s2
  have e1 : s.PrtSame s1 := .of_eq (by
    unfold s1
    rw [State.setIf_prt, State.setIf_prt, State.setIf_prt, State.setIf_prt])
  have e2 : s1.PrtSame s2 := by
    unfold s2
    split
    · split
      · exact .refl _
      · exact State.PrtSame.trans (.of_eq (by rw [State.raise_prt, State.count_prt, State.set_prt])) (State.powerOff_prtSame _ _ _ _)
    · exact .of_eq (State.setIf_prt _ _ _)
  exact (e1.trans e2).trans (.of_eq (State.setIf_prt _ _ _))

theorem State.foldl_prtSame {α : Type} {f : State → α → State} (h : ∀ s x, State.PrtSame s (f s x)) (l : List α) (s : State) : s.PrtSame (l.foldl f s) :=
  List.foldlRecOn l f (motive := fun t => s.PrtSame t) (.refl s) (fun t ht x _ => ht.trans (h t x))

theorem State.settleOverrides_prtSame (s : State) : s.PrtSame s.settleOverrides :=
  ⟨⟨_, _, _, _, _, _, rfl⟩, fun _ => ⟨_, _, _, rfl⟩⟩

theorem State.settle_prtSame (s : State) : s.PrtSame s.settle := by
  unfold State.settle
  extract_lets s1 l s2 s3
  have e1 : s.PrtSame s1 := .of_eq (State.setIf_prt _ _ _)
  split
  · have e2 : s1.PrtSame s2 := State.foldl_prtSame (fun s r => State.settleRack_prtSame s r) _ _
    have e3 : s2.PrtSame s3 := .of_eq (State.setIf_prt _ _ _)
    exact ((e1.trans e2).trans e3).trans (State.settleOverrides_prtSame _)
  · exact e1

/-- A bit of PRT_STAT that the outputs do not show. -/
theorem State.setIf_statBit (s : State) {f : Fld} {v lo : Nat} (hf : f = Fd.PRT_STAT_FC_AUTO ∨ f = Fd.PRT_STAT_WATCH) (hl : statBit lo) :
    (s.setIf f v).fld ⟨Reg.PRT_STAT, lo, 1⟩ = s.fld ⟨Reg.PRT_STAT, lo, 1⟩ := by
  unfold State.setIf
  split
  · rfl
  · refine State.fld_set_bits _ _ _ _ ?_ ?_
    · rcases hf with rfl | rfl <;> rfl
    · unfold statBit at hl
      rcases hf with rfl | rfl <;>
        · simp only [Fd.PRT_STAT_FC_AUTO, Fd.PRT_STAT_WATCH]
          omega

theorem State.settleRack_stat (s : State) (r : Nat) : (s.settleRack r).rd Reg.PRT_STAT = s.rd Reg.PRT_STAT :=
  State.settleRack_rd s r _ (show eventWord Reg.PRT_STAT = false by decide) (by simp only [Reg.PRT_STAT, Reg.RK_OUT]; omega) (by decide) (by decide)
    (by decide)

theorem State.settle_statBit (s : State) {lo : Nat} (hl : statBit lo) : s.settle.fld ⟨Reg.PRT_STAT, lo, 1⟩ = s.fld ⟨Reg.PRT_STAT, lo, 1⟩ := by
  unfold State.settle
  extract_lets s1 l s2 s3
  have e1 : s1.fld ⟨Reg.PRT_STAT, lo, 1⟩ = s.fld ⟨Reg.PRT_STAT, lo, 1⟩ := State.setIf_statBit _ (Or.inl rfl) hl
  split
  · have e2 : s2.fld ⟨Reg.PRT_STAT, lo, 1⟩ = s1.fld ⟨Reg.PRT_STAT, lo, 1⟩ :=
      foldl_keep (f := fun (s : State) r => s.settleRack r) (fun s => s.fld ⟨Reg.PRT_STAT, lo, 1⟩)
        (fun s r => State.fld_congr (State.settleRack_stat s r)) _ _
    exact (State.setIf_statBit s2 (Or.inr rfl) hl).trans (e2.trans e1)
  · exact e1

theorem State.settle_clk (s : State) : s.settle.clk = s.clk := (State.settle_keeps (F := 58753032) rfl (Keeps.refl _ s)).clk.resolve_left (by decide)

theorem State.settle_rises (s : State) : State.Rises ws s s.settle :=
  .of_words (fun _ he hg _ => State.settle_rd _ _ he (protOut_of_guardWord hg)) (fun r hr => State.settle_rd _ _ (quiet_act hr) (protOut_act r))
    (State.settle_rd _ _ (by decide) (by decide)) (fun _ hl h => (congrArg (· == 1) (State.settle_statBit s hl)).trans h)
    (Or.inl (State.settle_fld _ Fd.SYS_STATE_STATE (by decide) (by decide))) (State.settle_rd _ _ (by decide) (by decide))
    (State.settle_rd _ _ (by decide) (by decide))
    s.settle_prtSame s.settle_clk


/-! ### Reports and changes of state -/

/-- An event of protection's register. -/
theorem State.raise_rises (s : State) (lo o : Nat) (l : List Nat) (x : Bool) (hl : lo < 32) : State.Rises ws s (s.raise ⟨Reg.PRT_EVT, lo, 1⟩ o l x) := by
  have hw : ∀ a, eventWord a = false → a ≠ Reg.PRT_EVT → a ≠ Reg.PRT_EVT + 4 → (s.raise ⟨Reg.PRT_EVT, lo, 1⟩ o l x).rd a = s.rd a :=
    fun a he h1 h2 => State.raise_rd _ _ _ _ _ _ (eventCode_lt (by decide) hl) he h1 h2
  exact .of_words (fun a he hg _ => hw a he (ne_of_guardWord hg (by decide)) (ne_of_guardWord hg (by decide)))
    (fun r hr => hw _ (quiet_act hr) (by simp only [Reg.RK_ACT, Reg.PRT_EVT]; omega) (by simp only [Reg.RK_ACT, Reg.PRT_EVT]; omega))
    (hw _ (by decide) (by decide) (by decide))
    (fun lo' _ h => (congrArg (· == 1) (State.fld_congr (f := ⟨Reg.PRT_STAT, lo', 1⟩) (hw Reg.PRT_STAT (by decide) (by decide) (by decide)))).trans h)
    (Or.inl (State.fld_congr (hw Reg.SYS_STATE (by decide) (by decide) (by decide)))) (hw _ (by decide) (by decide) (by decide))
    (hw _ (by decide) (by decide) (by decide)) (.of_eq (State.raise_prt _ _ _ _ _)) (State.raise_clk _ _ _ _ _)

theorem State.notice_rises (s : State) (k c : Nat) (l : List Nat) : State.Rises ws s (s.notice k c l) :=
  .of_words (fun _ _ _ _ => State.notice_rd _ _ _ _ _) (fun _ _ => State.notice_rd _ _ _ _ _) (State.notice_rd _ _ _ _ _)
    (fun _ _ h => (congrArg (· == 1) (State.notice_fld _ _ _ _ _)).trans h) (Or.inl (State.notice_fld _ _ _ _ _)) (State.notice_rd _ _ _ _ _)
    (State.notice_rd _ _ _ _ _) (.of_eq ((State.notice_keeps (F := 8388616) rfl (Keeps.refl _ s)).prt.resolve_left (by decide)))
    (State.notice_clk _ _ _ _)

theorem State.Rises.foldl {α : Type} {f : State → α → State} {l : List α} (h : ∀ s, ∀ x ∈ l, State.Rises ws s (f s x)) (s : State) :
    State.Rises ws s (l.foldl f s) :=
  List.foldlRecOn l f (motive := fun t => State.Rises ws s t) (.refl ws s) (fun t ht x hx => ht.trans (h t x hx))

theorem State.noticeAll_rises (s : State) (c : Nat) (l : List Nat) : State.Rises ws s (s.noticeAll c l) :=
  .foldl (fun s k _ => State.notice_rises s k c l) s

theorem State.tellStart_rises (s : State) (lo what i b : Nat) (hl : lo < 32) : State.Rises ws s (s.tellStart ⟨Reg.PRT_EVT, lo, 1⟩ what i b) :=
  (State.raise_rises s lo _ _ _ hl).trans (State.noticeAll_rises _ _ _)

/-- A count of protection. -/
theorem State.count_rises (s : State) (c : Nat) (hc : guardWord c = false ∧ c ≠ Reg.PAI_STAT ∧ c ≠ Reg.LOP_STAT := by decide) :
    State.Rises [c] s (s.count c) :=
  .of_rd (fun _ _ hn => State.rd_count _ _ _ (fun h => hn (List.mem_singleton.mpr h))) (.of_eq (State.count_prt _ _)) (State.count_clk _ _)
    (fun a ha => by rw [List.mem_singleton.mp ha]; exact hc)

/-- The state that an entry leads to: a module in FULLCOOL does not leave it for PROTECT. -/
theorem State.enterProtective_state (s : State) {n : Nat} (c : Nat) (hn : n = 7 ∨ n = 8) :
    (s.enterProtective n c).opState = if s.opState = 8 ∧ n = 7 then 8 else n := by
  unfold State.enterProtective
  dsimp only
  have hset : ∀ v, (((s.set Fd.SYS_STATE_RETURN v).set Fd.SYS_STATE_STATE n).announce s.opState c).opState = n := fun v =>
    (State.announce_fld _ _ _ Fd.SYS_STATE_STATE (by decide)).trans ((State.fld_set_self _ _ _ (by decide)).trans (by rcases hn with rfl | rfl <;> rfl))
  split
  · next h =>
    split
    · next h' => exact h'.1
    · next h' => exact h.resolve_right h'
  · next h => rw [hset, if_neg (fun h' => h (Or.inr h'))]

theorem State.enterProtective_only (s : State) (n c : Nat) : Only [.regs, .fresh, .zh, .out, .firn] s (s.enterProtective n c) :=
  (State.enterProtective_keeps (F := 58720264) rfl (Keeps.refl _ s)).only _ (fun p => by cases p <;> decide)

/-- Entering PROTECT or FULLCOOL, on a module that drives its outputs. -/
theorem State.enterProtective_rises (s : State) {n : Nat} (c : Nat) (hd : s.drives = true) (hn : n = 7 ∨ n = 8) :
    State.Rises ws s (s.enterProtective n c) := by
  have hw : ∀ a, eventWord a = false → a ≠ Reg.SYS_STATE → (s.enterProtective n c).rd a = s.rd a := fun a he h => State.enterProtective_rd _ _ _ _ he h
  have hst := s.enterProtective_state c hn
  refine .of_words (fun a he hg _ => hw a he (ne_of_guardWord hg (by decide))) (fun r hr => hw _ (quiet_act hr) ?_) (hw _ (by decide) (by decide))
    (fun lo' _ h => (congrArg (· == 1) (State.fld_congr (f := ⟨Reg.PRT_STAT, lo', 1⟩) (hw Reg.PRT_STAT (by decide) (by decide)))).trans h)
    (Or.inr ⟨hd, ?_⟩) (hw _ (by decide) (by decide)) (hw _ (by decide) (by decide)) (.of_eq ((s.enterProtective_only n c).2 .prt (by decide)))
    ((s.enterProtective_only n c).2 .clk (by decide))
  · simp only [Reg.RK_ACT, Reg.SYS_STATE]
    omega
  · rw [hst]
    split
    · exact Or.inr rfl
    · exact hn

theorem State.enterIfFirst_rises (s : State) (b : Bool) : State.Rises ws s (s.enterIfFirst b) := by
  unfold State.enterIfFirst
  split
  · next h => exact State.enterProtective_rises s 0 (Bool.and_eq_true _ _ |>.mp h).2 (Or.inl rfl)
  · exact .refl _ _

/-! ### Starts -/

/-- A start's bit: ACTIVE in the low half of a word and ACK_REQ in its high half. -/
def State.startBits (s : State) (a n b : Nat) : State := (s.setBit ⟨a, 0, n⟩ b true).setBit ⟨a, 16, n⟩ b true

section startBits

variable (s : State) {a n b m : Nat}

theorem State.startBits_rd {x : Nat} (h : x ≠ a) : (s.startBits a n b).rd x = s.rd x :=
  (State.setBit_rd_ne _ ⟨a, 16, n⟩ _ _ _ h).trans (State.setBit_rd_ne _ ⟨a, 0, n⟩ _ _ _ h)

theorem State.startBits_act (hn : n ≤ 16) (hb : b < n) :
    bitOf ((s.startBits a n b).fld ⟨a, 0, n⟩) m = (bitOf (s.fld ⟨a, 0, n⟩) m || decide (m = b)) :=
  (congrArg (fun v => bitOf v m) (State.fld_set_bits (s.setBit ⟨a, 0, n⟩ b true) ⟨a, 16, n⟩ ⟨a, 0, n⟩ _ rfl (Or.inr (by dsimp only; omega)))).trans
    (State.setBit_true_bit s ⟨a, 0, n⟩ (by dsimp only; omega) hb)

theorem State.startBits_ack (hn : n ≤ 16) (hb : b < n) :
    bitOf ((s.startBits a n b).fld ⟨a, 16, n⟩) m = (bitOf (s.fld ⟨a, 16, n⟩) m || decide (m = b)) := by
  have h : (s.setBit ⟨a, 0, n⟩ b true).fld ⟨a, 16, n⟩ = s.fld ⟨a, 16, n⟩ :=
    State.fld_set_bits s ⟨a, 0, n⟩ ⟨a, 16, n⟩ _ rfl (Or.inl (by dsimp only; omega))
  exact (State.setBit_true_bit _ ⟨a, 16, n⟩ (by dsimp only; omega) hb).trans (by rw [h])

theorem State.startBits_prt : (s.startBits a n b).prt = s.prt := (State.set_prt _ _ _).trans (State.set_prt _ _ _)
theorem State.startBits_clk : (s.startBits a n b).clk = s.clk := (State.setBit_clk _ _ _ _).trans (State.setBit_clk _ _ _ _)

end startBits

/-- The words of starts are apart from each other. -/
theorem rackAct_ne {r j : Nat} (h : j ≠ r) : Reg.RK_ACT j ≠ Reg.RK_ACT r := by
  simp only [Reg.RK_ACT]
  omega

theorem State.startBits_rack (s : State) {r b : Nat} (hr : r < 48) (hb : b < 10) : State.Rises ws s (s.startBits (Reg.RK_ACT r) 10 b) := by
  have hw : ∀ a, a ≠ Reg.RK_ACT r → (s.startBits (Reg.RK_ACT r) 10 b).rd a = s.rd a := fun a h => s.startBits_rd h
  have hf : ∀ a, a < Reg.RK_ACT 0 → a ≠ Reg.RK_ACT r := fun a ha => by simp only [Reg.RK_ACT] at ha ⊢; omega
  have hl : ∀ f : Fld, f.addr < Reg.RK_ACT 0 → (s.startBits (Reg.RK_ACT r) 10 b).fld f = s.fld f := fun f h => State.fld_congr (hw _ (hf _ h))
  exact
    { words := fun a _ hg _ => hw a (ne_of_guardWord hg (guardWord_rack hr))
      act := fun j _ m h => by
        by_cases hj : j = r
        · subst hj
          exact (s.startBits_act (by decide) hb).trans (by rw [show bitOf (s.fld ⟨Reg.RK_ACT j, 0, 10⟩) m = true from h, Bool.true_or])
        · exact (congrArg (fun v => bitOf v m) (State.fld_congr (f := Fd.RK_ACT_ACTIVE j) (hw _ (rackAct_ne hj)))).trans h
      ack := fun j _ m h => by
        by_cases hj : j = r
        · subst hj
          exact (s.startBits_ack (by decide) hb).trans (by rw [show bitOf (s.fld ⟨Reg.RK_ACT j, 16, 10⟩) m = true from h, Bool.true_or])
        · exact (congrArg (fun v => bitOf v m) (State.fld_congr (f := Fd.RK_ACT_ACK_REQ j) (hw _ (rackAct_ne hj)))).trans h
      loop := fun m h => (congrArg (fun v => bitOf v m) (hl Fd.PRT_LOOPSTAT_ACTIVE (by decide))).trans h
      loopAck := fun m h => (congrArg (fun v => bitOf v m) (hl Fd.PRT_LOOPSTAT_ACK_REQ (by decide))).trans h
      stat := fun lo _ h => (congrArg (· == 1) (hl ⟨Reg.PRT_STAT, lo, 1⟩ (show Reg.PRT_STAT < Reg.RK_ACT 0 by decide))).trans h
      role := State.isActive_of (hw _ (by simp only [Reg.RK_ACT, Reg.PAI_STAT]; omega))
      lane := State.laneDrives_of (hw _ (hf _ (by decide)))
      state := Or.inl (hl Fd.SYS_STATE_STATE (by decide))
      prt := .of_eq (State.startBits_prt s)
      clk := State.startBits_clk s }

theorem State.startBits_loop (s : State) {b : Nat} (hb : b < 8) : State.Rises ws s (s.startBits Reg.PRT_LOOPSTAT 8 b) := by
  have hw : ∀ a, a ≠ Reg.PRT_LOOPSTAT → (s.startBits Reg.PRT_LOOPSTAT 8 b).rd a = s.rd a := fun a h => s.startBits_rd h
  exact
    { words := fun a _ hg _ => hw a (ne_of_guardWord hg (by decide))
      act := fun j _ m h => (congrArg (fun v => bitOf v m) (State.fld_congr (f := Fd.RK_ACT_ACTIVE j)
        (hw _ (by simp only [Fd.RK_ACT_ACTIVE, Reg.RK_ACT, Reg.PRT_LOOPSTAT]; omega)))).trans h
      ack := fun j _ m h => (congrArg (fun v => bitOf v m) (State.fld_congr (f := Fd.RK_ACT_ACK_REQ j)
        (hw _ (by simp only [Fd.RK_ACT_ACK_REQ, Reg.RK_ACT, Reg.PRT_LOOPSTAT]; omega)))).trans h
      loop := fun m h => (s.startBits_act (by decide) hb).trans (by rw [show bitOf (s.fld ⟨Reg.PRT_LOOPSTAT, 0, 8⟩) m = true from h, Bool.true_or])
      loopAck := fun m h => (s.startBits_ack (by decide) hb).trans (by rw [show bitOf (s.fld ⟨Reg.PRT_LOOPSTAT, 16, 8⟩) m = true from h, Bool.true_or])
      stat := fun lo _ h => (congrArg (· == 1) (State.fld_congr (f := ⟨Reg.PRT_STAT, lo, 1⟩) (hw _ (show Reg.PRT_STAT ≠ Reg.PRT_LOOPSTAT by decide)))).trans h
      role := State.isActive_of (hw _ (by decide))
      lane := State.laneDrives_of (hw _ (by decide))
      state := Or.inl (State.fld_congr (hw _ (by decide)))
      prt := .of_eq (State.startBits_prt s)
      clk := State.startBits_clk s }

/-- A change of protection's part alone. -/
theorem State.Rises.of_prt (s : State) {p : Prot} (h : s.PrtSame { s with prt := p }) : State.Rises ws s { s with prt := p } :=
  .of_words (fun _ _ _ _ => rfl) (fun _ _ => rfl) rfl (fun _ _ h => h) (Or.inl rfl) rfl rfl h rfl

/-- A rack's sequence, with the bits of its start set. -/
theorem State.startRack_eq (s : State) (r b : Nat) (ev : Fld) : s.startRack r b ev =
    (((s.startBits (Reg.RK_ACT r) 10 b).setRackP r { (s.startBits (Reg.RK_ACT r) 10 b).rackP r with
      clear := ((s.startBits (Reg.RK_ACT r) 10 b).rackP r).clear.del b }).enterIfFirst (decide (b < 8) && !s.anySequence)).tellStart ev 0 r b := rfl

theorem State.startRack_after (s : State) (r b lo : Nat) (hl : lo < 32) :
    State.Rises ws (s.startBits (Reg.RK_ACT r) 10 b) (s.startRack r b ⟨Reg.PRT_EVT, lo, 1⟩) := by
  rw [State.startRack_eq]
  exact ((State.Rises.of_prt _ (State.PrtSame.setRackP _ _ _ _ _)).trans (State.enterIfFirst_rises _ _)).trans (State.tellStart_rises _ _ _ _ _ hl)

/-- A rack's sequence or alarm starts: what stood stands. -/
theorem State.startRack_rises (s : State) {r b : Nat} (lo : Nat) (hr : r < 48) (hb : b < 10) (hl : lo < 32) :
    State.Rises ws s (s.startRack r b ⟨Reg.PRT_EVT, lo, 1⟩) :=
  (State.startBits_rack s hr hb).trans (s.startRack_after r b lo hl)

/-- A rack's sequence that starts is active and unacknowledged. -/
theorem State.startRack_on (s : State) {r b : Nat} (lo : Nat) (hr : r < 48) (hb : b < 10) (hl : lo < 32) :
    (s.startRack r b ⟨Reg.PRT_EVT, lo, 1⟩).rackActive r b = true ∧
      bitOf ((s.startRack r b ⟨Reg.PRT_EVT, lo, 1⟩).fld (Fd.RK_ACT_ACK_REQ r)) b = true := by
  have h := State.startRack_after (ws := []) s r b lo hl
  refine ⟨h.act r hr b ?_, h.ack r hr b ?_⟩
  · exact (s.startBits_act (by decide) hb).trans (by simp)
  · exact (s.startBits_ack (by decide) hb).trans (by simp)

theorem State.Rises.loopClear (s : State) (c : Tab Nat) : State.Rises ws s { s with prt := { s.prt with clear := c } } :=
  .of_prt s ⟨⟨_, _, _, _, _, _, rfl⟩, fun _ => ⟨_, _, _, rfl⟩⟩

/-- A loop-level sequence, with the bits of its start set. -/
theorem State.startLoop_eq (s : State) (b : Nat) (ev : Fld) : s.startLoop b ev =
    ((({ s.startBits Reg.PRT_LOOPSTAT 8 b with prt := { (s.startBits Reg.PRT_LOOPSTAT 8 b).prt with
      clear := (s.startBits Reg.PRT_LOOPSTAT 8 b).prt.clear.del b } } : State).enterIfFirst (decide (b < 7) && !s.anySequence)).tellStart ev 1 0 b) := rfl

theorem State.startLoop_after (s : State) (b lo : Nat) (hl : lo < 32) :
    State.Rises ws (s.startBits Reg.PRT_LOOPSTAT 8 b) (s.startLoop b ⟨Reg.PRT_EVT, lo, 1⟩) := by
  rw [State.startLoop_eq]
  generalize s.startBits Reg.PRT_LOOPSTAT 8 b = v
  exact ((State.Rises.loopClear v _).trans (State.enterIfFirst_rises _ _)).trans (State.tellStart_rises _ _ _ _ _ hl)

/-- A loop-level sequence or alarm starts: what stood stands. -/
theorem State.startLoop_rises (s : State) {b : Nat} (lo : Nat) (hb : b < 8) (hl : lo < 32) : State.Rises ws s (s.startLoop b ⟨Reg.PRT_EVT, lo, 1⟩) :=
  (State.startBits_loop s hb).trans (s.startLoop_after b lo hl)

/-- A loop-level sequence that starts is active and unacknowledged. -/
theorem State.startLoop_on (s : State) {b : Nat} (lo : Nat) (hb : b < 8) (hl : lo < 32) :
    (s.startLoop b ⟨Reg.PRT_EVT, lo, 1⟩).loopActive b = true ∧
      bitOf ((s.startLoop b ⟨Reg.PRT_EVT, lo, 1⟩).fld Fd.PRT_LOOPSTAT_ACK_REQ) b = true := by
  have h := State.startLoop_after (ws := []) s b lo hl
  refine ⟨h.loop b ?_, h.loopAck b ?_⟩
  · exact (s.startBits_act (by decide) hb).trans (by simp)
  · exact (s.startBits_ack (by decide) hb).trans (by simp)

/-! ### FULLCOOL and isolation results -/

/-- A bit of PRT_STAT that is set. -/
theorem State.setStat_rises (s : State) {lo : Nat} (hl : statBit lo) : State.Rises ws s (s.set ⟨Reg.PRT_STAT, lo, 1⟩ 1) := by
  have hw : ∀ a, a ≠ Reg.PRT_STAT → (s.set ⟨Reg.PRT_STAT, lo, 1⟩ 1).rd a = s.rd a := fun a h => State.rd_set_ne _ _ _ _ h
  refine .of_words (fun a _ hg _ => hw a (ne_of_guardWord hg (by decide))) (fun r _ => hw _ ?_) (hw _ (by decide)) (fun lo' hl' h => ?_)
    (Or.inl (State.fld_congr (hw _ (by decide)))) (hw _ (by decide)) (hw _ (by decide)) (.of_eq (State.set_prt _ _ _)) (State.set_clk _ _ _)
  · simp only [Reg.RK_ACT, Reg.PRT_STAT]
    omega
  · by_cases he : lo' = lo
    · subst he
      exact beq_iff_eq.mpr (State.fld_set_self _ ⟨Reg.PRT_STAT, lo', 1⟩ _ (by dsimp only; unfold statBit at hl; omega))
    · exact (congrArg (· == 1) (State.fld_set_bits _ ⟨Reg.PRT_STAT, lo, 1⟩ ⟨Reg.PRT_STAT, lo', 1⟩ _ rfl (by dsimp only; omega))).trans h

theorem State.setStat_on (s : State) {lo : Nat} (hl : statBit lo) : (s.set ⟨Reg.PRT_STAT, lo, 1⟩ 1).on ⟨Reg.PRT_STAT, lo, 1⟩ = true :=
  beq_iff_eq.mpr (State.fld_set_self _ ⟨Reg.PRT_STAT, lo, 1⟩ _ (by dsimp only; unfold statBit at hl; omega))

/-- How an entry to FULLCOOL is marked: its time, or its command. -/
def State.markFullcool (s : State) (auto : Bool) : State :=
  if auto then { s with prt := { s.prt with fcAuto := some s.clk.now } } else s.set Fd.PRT_STAT_FC_CMD 1

/-- FULLCOOL shown in PRT_STAT. -/
def State.showFullcool (s : State) (auto : Bool) : State :=
  if s.on Fd.PRT_STAT_FULLCOOL then s else (s.set Fd.PRT_STAT_FULLCOOL 1).raise Fd.PRT_EVT_FULLCOOL noObj [if auto then 0 else 1]

/-- The operating state of a module in FULLCOOL. -/
def State.stateFullcool (s : State) (auto : Bool) : State := if s.drives then s.enterProtective 8 (if auto then 0 else 1) else s

theorem State.enterFullcool_eq (s : State) (auto : Bool) : s.enterFullcool auto = (((s.markFullcool auto).showFullcool auto).stateFullcool auto).settle := rfl

theorem State.markFullcool_rises (s : State) (auto : Bool) : State.Rises ws s (s.markFullcool auto) := by
  cases auto
  · exact State.setStat_rises s (lo := 2) (Or.inr (Or.inl rfl))
  · exact .of_prt s ⟨⟨_, _, _, _, _, _, rfl⟩, fun _ => ⟨_, _, _, rfl⟩⟩

theorem State.showFullcool_rises (s : State) (auto : Bool) : State.Rises ws s (s.showFullcool auto) := by
  unfold State.showFullcool
  split
  · exact .refl _ _
  · exact (State.setStat_rises s (lo := 0) (Or.inl rfl)).trans (State.raise_rises _ _ _ _ _ (by decide))

theorem State.showFullcool_on (s : State) (auto : Bool) : (s.showFullcool auto).on Fd.PRT_STAT_FULLCOOL = true := by
  unfold State.showFullcool
  split
  · next h => exact h
  · exact (State.raise_rises (ws := []) _ 10 _ _ _ (by decide)).stat 0 (Or.inl rfl) (State.setStat_on s (Or.inl rfl))

theorem State.stateFullcool_rises (s : State) (auto : Bool) : State.Rises ws s (s.stateFullcool auto) := by
  unfold State.stateFullcool
  split
  · next h => exact State.enterProtective_rises s _ h (Or.inr rfl)
  · exact .refl _ _

/-- An entry to FULLCOOL: what stood stands. -/
theorem State.enterFullcool_rises (s : State) (auto : Bool) : State.Rises ws s (s.enterFullcool auto) := by
  rw [State.enterFullcool_eq]
  exact (((State.markFullcool_rises s auto).trans (State.showFullcool_rises _ auto)).trans (State.stateFullcool_rises _ auto)).trans
    (State.settle_rises _)

/-- An entry to FULLCOOL shows it, and its command where it has one; a module that drives its outputs is then in that state. -/
theorem State.enterFullcool_on (s : State) (auto : Bool) : (s.enterFullcool auto).on Fd.PRT_STAT_FULLCOOL = true ∧
    (auto = false → (s.enterFullcool auto).on Fd.PRT_STAT_FC_CMD = true) ∧ (s.drives = true → (s.enterFullcool auto).opState = 8) := by
  have h1 := State.markFullcool_rises (ws := []) s auto
  have h2 := State.showFullcool_rises (ws := []) (s.markFullcool auto) auto
  have h3 := (State.stateFullcool_rises (ws := []) ((s.markFullcool auto).showFullcool auto) auto).trans (State.settle_rises _)
  rw [State.enterFullcool_eq]
  refine ⟨h3.stat 0 (Or.inl rfl) (State.showFullcool_on _ _), fun ha => ?_, fun hd => ?_⟩
  · subst ha
    exact (h2.trans h3).stat 2 (Or.inr (Or.inl rfl)) (State.setStat_on s (Or.inr (Or.inl rfl)))
  · refine (State.settle_fld _ Fd.SYS_STATE_STATE (by decide) (by decide)).trans ?_
    unfold State.stateFullcool
    rw [if_pos ((h1.trans h2).drives hd)]
    exact (State.enterProtective_state _ _ (Or.inr rfl)).trans (if_neg (fun h => absurd h.2 (by decide)))

/-- What protection makes of the ends of safety requests: what stood stands. -/
theorem State.isoResults_rises (s : State) : State.Rises ws s s.isoResults := by
  unfold State.isoResults
  refine State.Rises.trans (State.Rises.trans (t := { s with acts := { s.acts with ended := [] } }) ?_ (.foldl (fun u p _ => ?_) _)) (State.settle_rises _)
  · exact .of_words (fun _ _ _ _ => rfl) (fun _ _ => rfl) rfl (fun _ _ h => h) (Or.inl rfl) rfl rfl (.refl s) rfl
  · split
    · next h => exact State.startRack_rises _ 3 h.1 (by decide) (by decide)
    · exact .refl _ _

/-! ### Leaks -/

/-- What a leak adds to a rack's part. -/
def RackP.leaking (x : RackP) (fresh : Bool) (now : Nat) (inputs : List Nat) (imb : Bool) : RackP :=
  let x := if fresh then { x with leakAt := some now, asked := false, inputs := [], imb := false } else x
  { x with
    inputs := x.inputs ++ inputs.filter (fun i => !x.inputs.contains i), imb := x.imb || imb
    leakAt := x.leakAt.orElse (fun _ => some now) }

/-- The state in which a leak has been noted, before its sequence starts. -/
def State.noteLeak (s : State) (r : Nat) (inputs : List Nat) (imb : Bool) : State :=
  s.setRackP r ((s.rackP r).leaking (!s.rackActive r seqLeak && !s.rackActive r seqLeakFast) s.clk.now inputs imb)

theorem State.startLeak_eq (s : State) (r b : Nat) (inputs : List Nat) (imb : Bool) : s.startLeak r b inputs imb =
    ((((s.noteLeak r inputs imb).startRack r b Fd.PRT_EVT_LEAK).count Reg.PRT_CNT_LEAK).setRackP r
      { (((s.noteLeak r inputs imb).startRack r b Fd.PRT_EVT_LEAK).count Reg.PRT_CNT_LEAK).rackP r with
        clear := ((((s.noteLeak r inputs imb).startRack r b Fd.PRT_EVT_LEAK).count Reg.PRT_CNT_LEAK).rackP r).clear.put b
          (((s.noteLeak r inputs imb).startRack r b Fd.PRT_EVT_LEAK).count Reg.PRT_CNT_LEAK).clk.now }) := rfl

/-- A leak's sequence that starts: active, unacknowledged and counted, and what the leak added to the rack's part. -/
theorem State.startLeak_spec (s : State) {r b : Nat} (inputs : List Nat) (imb : Bool) (hr : r < 48) (hb : b < 10) :
    State.Rises [Reg.PRT_CNT_LEAK] (s.noteLeak r inputs imb) (s.startLeak r b inputs imb) ∧ (s.startLeak r b inputs imb).rackActive r b = true ∧
      bitOf ((s.startLeak r b inputs imb).fld (Fd.RK_ACT_ACK_REQ r)) b = true ∧
      (s.startLeak r b inputs imb).rd Reg.PRT_CNT_LEAK = satCount (s.rd Reg.PRT_CNT_LEAK) 1 := by
  have h1 := State.startRack_rises (ws := []) (s.noteLeak r inputs imb) (b := b) 0 hr hb (by decide)
  obtain ⟨ha, hk⟩ := State.startRack_on (s.noteLeak r inputs imb) (b := b) 0 hr hb (by decide)
  rw [State.startLeak_eq]
  have hn : (s.noteLeak r inputs imb).rd Reg.PRT_CNT_LEAK = s.rd Reg.PRT_CNT_LEAK := rfl
  generalize s.noteLeak r inputs imb = u at *
  change State.Rises [] u (u.startRack r b Fd.PRT_EVT_LEAK) at h1
  change (u.startRack r b Fd.PRT_EVT_LEAK).rackActive r b = true at ha
  change bitOf ((u.startRack r b Fd.PRT_EVT_LEAK).fld (Fd.RK_ACT_ACK_REQ r)) b = true at hk
  generalize u.startRack r b Fd.PRT_EVT_LEAK = v at *
  have h2 := State.count_rises v Reg.PRT_CNT_LEAK
  have hc : (v.count Reg.PRT_CNT_LEAK).rd Reg.PRT_CNT_LEAK = satCount (s.rd Reg.PRT_CNT_LEAK) 1 := by
    rw [State.rd_count_same, h1.words _ (by decide) (by decide) List.not_mem_nil, hn]
  generalize v.count Reg.PRT_CNT_LEAK = w at *
  have h3 : State.Rises [Reg.PRT_CNT_LEAK] w _ := .of_prt w (State.PrtSame.setRackP w r ((w.rackP r).clear.put b w.clk.now) (w.rackP r).noticeAt (w.rackP r).notices)
  exact ⟨((h1.mono (fun _ h => absurd h List.not_mem_nil)).trans h2).trans h3, h3.act r hr b (h2.act r hr b ha), h3.ack r hr b (h2.ack r hr b hk), hc⟩

/-! ### Racks listed, and trips -/

theorem mem_insertBy {α : Type} (le : α → α → Bool) (x y : α) (l : List α) : y ∈ insertBy le x l ↔ y = x ∨ y ∈ l := by
  induction l with
  | nil => simp [insertBy]
  | cons z l ih =>
    rw [insertBy]
    split
    · simp
    · rw [List.mem_cons, ih, List.mem_cons]
      exact or_left_comm

theorem mem_sortBy {α : Type} (le : α → α → Bool) (y : α) (l : List α) : y ∈ sortBy le l ↔ y ∈ l := by
  induction l with
  | nil => simp [sortBy]
  | cons x l ih => rw [show sortBy le (x :: l) = insertBy le x (sortBy le l) from rfl, mem_insertBy, ih, List.mem_cons]

/-- A word that differs from its reset value has an entry in the register file. -/
theorem mem_of_regGet {l : List (Nat × Word)} {a : Nat} (h : regGet l a ≠ resetWord a) : ∃ w, (a, w) ∈ l := by
  induction l with
  | nil => exact absurd rfl h
  | cons p l ih =>
    obtain ⟨k, w⟩ := p
    rw [regGet] at h
    split at h
    · next hk => exact ⟨w, hk ▸ List.mem_cons_self⟩
    · exact (ih h).imp (fun _ => List.mem_cons_of_mem _)

/-- The step of `State.listed` keeps what it has and takes each entry's index. -/
theorem mem_indices (base stride : Nat) (l : List (Nat × Word)) (m : List Nat) (i : Nat) (h : i ∈ m ∨ ∃ p ∈ l, (p.1 - base) / stride = i) :
    i ∈ l.foldl (fun (l : List Nat) (p : Nat × Word) => let i := (p.1 - base) / stride; if l.contains i then l else l ++ [i]) m := by
  induction l generalizing m with
  | nil => exact h.resolve_right (fun ⟨_, hp, _⟩ => absurd hp List.not_mem_nil)
  | cons p l ih =>
    refine ih _ ?_
    dsimp only
    rcases h with h | ⟨q, hq, hi⟩
    · refine Or.inl ?_
      split
      · exact h
      · exact List.mem_append_left _ h
    · rcases List.mem_cons.mp hq with rfl | hq
      · refine Or.inl ?_
        split
        · next hc => exact hi ▸ List.contains_iff_mem.mp hc
        · exact List.mem_append_right _ (List.mem_singleton.mpr hi.symm)
      · exact Or.inr ⟨q, hq, hi⟩

/-- A word of an array that differs from its reset value lists its index. -/
theorem State.mem_listed (s : State) {base stride n a : Nat} (h1 : base ≤ a) (h2 : a < base + stride * n) (h : s.rd a ≠ resetWord a) :
    (a - base) / stride ∈ s.listed base stride n := by
  obtain ⟨w, hw⟩ := mem_of_regGet h
  refine mem_indices _ _ _ _ _ (Or.inr ⟨(a, w), List.mem_filter.mpr ⟨hw, ?_⟩, rfl⟩)
  rw [decide_eq_true h1, decide_eq_true h2]
  rfl

theorem resetWord_act : ∀ r : Fin 48, resetWord (Reg.RK_ACT r) = 0 := by decide +kernel
theorem resetWord_flowsrc : ∀ r : Fin 48, resetWord (Reg.RK_FLOWSRC r) = 0 := by decide +kernel

/-- A rack of which a start or an acknowledgement stands is listed. -/
theorem State.mem_racksListed (s : State) {r : Nat} (hr : r < 48) (h : s.fld (Fd.RK_ACT_ACTIVE r) ≠ 0) : r ∈ s.racksListed := by
  have hne : s.rd (Reg.RK_ACT r) ≠ resetWord (Reg.RK_ACT r) := by
    intro e
    refine h ?_
    rw [State.fld, show (Fd.RK_ACT_ACTIVE r).addr = Reg.RK_ACT r from rfl, e, resetWord_act ⟨r, hr⟩]
    exact fieldOf_zero 0 10
  have hm := s.mem_listed (base := Reg.RK_FLOWSRC 0) (stride := 0x40) (n := 48) (a := Reg.RK_ACT r) (by simp only [Reg.RK_FLOWSRC, Reg.RK_ACT]; omega)
    (by simp only [Reg.RK_FLOWSRC, Reg.RK_ACT]; omega) hne
  rw [show (Reg.RK_ACT r - Reg.RK_FLOWSRC 0) / 0x40 = r by simp only [Reg.RK_FLOWSRC, Reg.RK_ACT]; omega] at hm
  exact List.mem_append_left _ hm

theorem State.mem_racksListed_key (s : State) {r : Nat} (h : r ∈ s.prt.rack.map (·.1)) : r ∈ s.racksListed := by
  unfold State.racksListed
  dsimp only
  by_cases hl : r ∈ s.listed (Reg.RK_FLOWSRC 0) 0x40 48
  · exact List.mem_append_left _ hl
  · exact List.mem_append_right _ (List.mem_filter.mpr ⟨h, by simpa using hl⟩)

theorem State.racksListed_cases (s : State) {r : Nat} (h : r ∈ s.racksListed) : r < 48 ∨ r ∈ s.prt.rack.map (·.1) := by
  rcases List.mem_append.mp h with h | h
  · exact Or.inl (State.lt_of_mem_listed h)
  · exact Or.inr (List.mem_filter.mp h).1

/-- Any sequence stands where the same starts stand and every rack known before is known or one of the 48. -/
theorem State.anySequence_of (hl : t.fld Fd.PRT_LOOPSTAT_ACTIVE = s.fld Fd.PRT_LOOPSTAT_ACTIVE)
    (ha : ∀ r, t.fld (Fd.RK_ACT_ACTIVE r) = s.fld (Fd.RK_ACT_ACTIVE r)) (hk : ∀ r ∈ s.prt.rack.map (·.1), r < 48 ∨ r ∈ t.prt.rack.map (·.1))
    (h : s.anySequence = true) : t.anySequence = true := by
  unfold State.anySequence at h ⊢
  rw [Bool.or_eq_true] at h ⊢
  rw [hl]
  refine h.imp id (fun h => ?_)
  obtain ⟨r, hr, hn⟩ := List.any_eq_true.mp h
  refine List.any_eq_true.mpr ⟨r, ?_, by rw [ha]; exact hn⟩
  rcases (s.racksListed_cases hr).elim Or.inl (hk r) with h48 | hk'
  · refine t.mem_racksListed h48 (fun e => ?_)
    rw [← ha, e] at hn
    exact absurd hn (by decide)
  · exact t.mem_racksListed_key hk'

/-- A rack that is listed is among those whose outputs are brought up to date. -/
theorem State.mem_racksInUse (s : State) {r : Nat} (hr : r < 48) (h : r ∈ s.racksListed) : r ∈ s.racksInUse := by
  unfold State.racksInUse
  split
  · exact (mem_sortBy _ _ _).mpr h
  · exact List.mem_range.mpr hr

theorem State.setIf_fld_ne (s : State) (f g : Fld) (v : Nat) (h : g.addr ≠ f.addr ∨ f.lo + f.width ≤ g.lo ∨ g.lo + g.width ≤ f.lo) :
    (s.setIf f v).fld g = s.fld g := by
  unfold State.setIf
  split
  · rfl
  · by_cases ha : g.addr = f.addr
    · exact State.fld_set_bits _ _ _ _ ha (h.resolve_left (fun hn => hn ha))
    · exact State.fld_set_word _ _ _ _ ha

/-- What holds a rack's trip by itself: a die limit, an isolation that failed, a command, or an isolation that has stood long enough. -/
def State.tripHeld (s : State) (r : Nat) : Bool :=
  s.rackActive r seqDieHard || s.rackActive r seqIsoFail || s.rackActive r seqCmdTrip || (s.isolated r && (s.rackP r).isoTrip)

theorem State.tripCause_of_held {r : Nat} (h : s.tripHeld r = true) : (s.tripCause r).isSome = true := by
  unfold State.tripHeld at h
  unfold State.tripCause
  split
  · rfl
  · next h1 => 
    split
    · rfl
    · next h2 =>
      split
      · rfl
      · next h3 =>
        split
        · rfl
        · split
          · rfl
          · next h5 =>
            simp only [Bool.not_eq_true] at h1 h2 h3 h5
            rw [h1, h2, h3, h5] at h
            exact absurd h (by decide)

theorem State.tripHeld_congr {r : Nat} (h1 : t.rd (Reg.RK_ACT r) = s.rd (Reg.RK_ACT r)) (h2 : t.rd (Reg.SOL_STAT r) = s.rd (Reg.SOL_STAT r))
    (h3 : (t.rackP r).isoTrip = (s.rackP r).isoTrip) : t.tripHeld r = s.tripHeld r := by
  unfold State.tripHeld State.rackActive State.isolated
  rw [State.fld_congr (f := Fd.RK_ACT_ACTIVE r) h1, State.fld_congr (f := Fd.SOL_STAT_POS r) h2, h3]

theorem State.PrtSame.isoTrip (h : s.PrtSame t) (r : Nat) : (t.rackP r).isoTrip = (s.rackP r).isoTrip := by
  obtain ⟨_, _, _, e⟩ := h.2 r
  rw [e]

theorem State.settleRack_tripHeld (s : State) (j : Nat) {r : Nat} (hr : r < 48) : (s.settleRack j).tripHeld r = s.tripHeld r := by
  refine State.tripHeld_congr (State.settleRack_rd s j _ (quiet_act hr) ?_ ?_ ?_ ?_) (State.settleRack_rd s j _ ?_ ?_ ?_ ?_ ?_)
    ((s.settleRack_prtSame j).isoTrip r)
  case refine_5 => exact eventWord_eq_false (by simp only [Reg.SOL_STAT]; omega) (by simp only [Reg.SOL_STAT]; omega)
  all_goals
    simp only [Reg.RK_ACT, Reg.RK_OUT, Reg.PRT_CNT_TRIP, Reg.PRT_EVT, Reg.SOL_STAT]
    omega

/-- Before its trip is judged, a rack's cap, isolation and watch are shown. -/
def State.showRack (s : State) (r : Nat) : State :=
  (((s.setIf (Fd.RK_OUT_CAP r) (s.capOf r)).setIf (Fd.RK_OUT_ISOLATED r) (if s.isolated r then 1 else 0)).setIf
    (Fd.RK_OUT_VALVE_OVR r) (if s.isolated r then 1 else 0)).setIf (Fd.RK_OUT_WATCH r) (if s.watched r then 1 else 0)

/-- A rack's trip, as its cause stands. -/
def State.showTrip (s : State) (r : Nat) : State :=
  match s.tripCause r with
  | some c => if s.on (Fd.RK_OUT_TRIP r) then s else (((s.set (Fd.RK_OUT_TRIP r) 1).count Reg.PRT_CNT_TRIP).raise Fd.PRT_EVT_TRIP r [c]).powerOff r c 0
  | none => s.setIf (Fd.RK_OUT_TRIP r) 0

theorem State.showRack_rd (s : State) (r a : Nat) (h : a ≠ Reg.RK_OUT r) : (s.showRack r).rd a = s.rd a := by
  unfold State.showRack
  rw [State.setIf_rd_ne _ _ _ _ h, State.setIf_rd_ne _ _ _ _ h, State.setIf_rd_ne _ _ _ _ h, State.setIf_rd_ne _ _ _ _ h]

theorem State.showRack_prt (s : State) (r : Nat) : (s.showRack r).prt = s.prt := by
  unfold State.showRack
  rw [State.setIf_prt, State.setIf_prt, State.setIf_prt, State.setIf_prt]

theorem State.settleRack_eq (s : State) (r : Nat) : s.settleRack r = ((s.showRack r).showTrip r).setIf (Fd.RK_OUT_POWEROFF r)
    (if ((s.showRack r).showTrip r).on (Fd.RK_OUT_TRIP r) && ((s.showRack r).showTrip r).tripAck r && !((s.showRack r).showTrip r).mainAbsent then 1 else 0) := by
  rfl

theorem State.showTrip_on (s : State) {r : Nat} (hr : r < 48) (h : (s.tripCause r).isSome = true) : (s.showTrip r).on (Fd.RK_OUT_TRIP r) = true := by
  obtain ⟨c, hc⟩ := Option.isSome_iff_exists.mp h
  unfold State.showTrip
  rw [hc]
  dsimp only
  split
  · next h' => exact h'
  · have hq : eventWord (Reg.RK_OUT r) = false := eventWord_eq_false (by simp only [Reg.RK_OUT]; omega) (by simp only [Reg.RK_OUT]; omega)
    have h1 : Reg.RK_OUT r ≠ Reg.PRT_EVT := by simp only [Reg.RK_OUT, Reg.PRT_EVT]; omega
    have h2 : Reg.RK_OUT r ≠ Reg.PRT_EVT + 4 := by simp only [Reg.RK_OUT, Reg.PRT_EVT]; omega
    have h3 : Reg.RK_OUT r ≠ Reg.PRT_CNT_TRIP := by simp only [Reg.RK_OUT, Reg.PRT_CNT_TRIP]; omega
    have e : ((((s.set (Fd.RK_OUT_TRIP r) 1).count Reg.PRT_CNT_TRIP).raise Fd.PRT_EVT_TRIP r [c]).powerOff r c 0).rd (Reg.RK_OUT r) =
        (s.set (Fd.RK_OUT_TRIP r) 1).rd (Reg.RK_OUT r) := by
      rw [State.powerOff_rd, State.raise_rd _ _ _ _ _ _ (by decide) hq h1 h2, State.rd_count _ _ _ h3]
    exact beq_iff_eq.mpr ((State.fld_congr (f := Fd.RK_OUT_TRIP r) e).trans (State.fld_set_self _ (Fd.RK_OUT_TRIP r) _ (show 2 + 1 ≤ 32 by decide)))

/-- A rack's trip is on while something holds it. -/
theorem State.settleRack_trip (s : State) {r : Nat} (hr : r < 48) (h : s.tripHeld r = true) : (s.settleRack r).on (Fd.RK_OUT_TRIP r) = true := by
  rw [State.settleRack_eq]
  have hh : (s.showRack r).tripHeld r = true := (State.tripHeld_congr (s.showRack_rd r _ (by simp only [Reg.RK_ACT, Reg.RK_OUT]; omega))
    (s.showRack_rd r _ (by simp only [Reg.SOL_STAT, Reg.RK_OUT]; omega)) (by rw [State.rackP_of (s.showRack_prt r)])).trans h
  exact (congrArg (· == 1) (State.setIf_fld_ne _ (Fd.RK_OUT_POWEROFF r) (Fd.RK_OUT_TRIP r) _ (Or.inr (Or.inr (show 2 + 1 ≤ 3 by decide))))).trans
    (State.showTrip_on _ hr (State.tripCause_of_held hh))

theorem State.settleRack_trip_ne (s : State) {r j : Nat} (hr : r < 48) (hj : j ≠ r) : (s.settleRack j).on (Fd.RK_OUT_TRIP r) = s.on (Fd.RK_OUT_TRIP r) := by
  refine congrArg (· == 1) (State.fld_congr (State.settleRack_rd s j _ ?_ ?_ ?_ ?_ ?_))
  · exact eventWord_eq_false (by simp only [Fd.RK_OUT_TRIP, Reg.RK_OUT]; omega) (by simp only [Fd.RK_OUT_TRIP, Reg.RK_OUT]; omega)
  all_goals
    simp only [Fd.RK_OUT_TRIP, Reg.RK_OUT, Reg.PRT_CNT_TRIP, Reg.PRT_EVT]
    omega

/-- On a module that drives its outputs, the trip of a rack that is known is on while something holds it. -/
theorem State.settle_trip (s : State) {r : Nat} (hr : r < 48) (hd : s.drives = true)
    (hm : s.fld (Fd.RK_ACT_ACTIVE r) ≠ 0 ∨ r ∈ s.prt.rack.map (·.1)) (h : s.tripHeld r = true) : s.settle.on (Fd.RK_OUT_TRIP r) = true := by
  have hs : ∀ a, a ≠ Reg.PRT_STAT → (s.setIf Fd.PRT_STAT_FC_AUTO (if s.fcAutoActive then 1 else 0)).rd a = s.rd a := fun a ha => State.setIf_rd_ne _ _ _ _ ha
  have hp : (s.setIf Fd.PRT_STAT_FC_AUTO (if s.fcAutoActive then 1 else 0)).prt = s.prt := State.setIf_prt _ _ _
  unfold State.settle
  extract_lets s1 l s2 s3
  change ∀ a, a ≠ Reg.PRT_STAT → s1.rd a = s.rd a at hs
  change s1.prt = s.prt at hp
  have hact : s1.rd (Reg.RK_ACT r) = s.rd (Reg.RK_ACT r) := hs _ (by simp only [Reg.RK_ACT, Reg.PRT_STAT]; omega)
  have hd1 : s1.drives = true := (State.drives_of (State.isActive_of (hs _ (by decide))) (State.laneDrives_of (hs _ (by decide)))
    (State.fld_congr (hs _ (by decide)))).trans hd
  have hl : r ∈ l := List.mem_append_left _ (s1.mem_racksInUse hr (hm.elim
    (fun h => s1.mem_racksListed hr (by rw [State.fld_congr (f := Fd.RK_ACT_ACTIVE r) hact]; exact h)) (fun h => s1.mem_racksListed_key (by rw [hp]; exact h))))
  have h1 : s1.tripHeld r = true := (State.tripHeld_congr hact (hs _ (by simp only [Reg.SOL_STAT, Reg.PRT_STAT]; omega)) (by rw [State.rackP_of hp])).trans h
  have h2 : s2.tripHeld r = true ∧ s2.on (Fd.RK_OUT_TRIP r) = true :=
    foldl_of_mem (f := fun (s : State) r => s.settleRack r) (pre := fun u => u.tripHeld r = true)
      (post := fun u => u.tripHeld r = true ∧ u.on (Fd.RK_OUT_TRIP r) = true) hl (fun u j _ _ hu => (u.settleRack_tripHeld j hr).trans hu)
      (fun u hu => ⟨(u.settleRack_tripHeld r hr).trans hu, u.settleRack_trip hr hu⟩)
      (fun u j _ hu => by
        refine ⟨(u.settleRack_tripHeld j hr).trans hu.1, ?_⟩
        by_cases hj : j = r
        · rw [hj]
          exact u.settleRack_trip hr hu.1
        · exact (u.settleRack_trip_ne hr hj).trans hu.2) h1
  have h3 : s3.fld (Fd.RK_OUT_TRIP r) = s2.fld (Fd.RK_OUT_TRIP r) := State.fld_congr (State.setIf_rd_ne _ _ _ _ (by
    simp only [Fd.RK_OUT_TRIP, Fd.PRT_STAT_WATCH, Reg.RK_OUT, Reg.PRT_STAT]
    omega))
  rw [if_pos hd1]
  exact (congrArg (· == 1) ((State.fld_congr (State.settleOverrides_rd s3 _)).trans h3)).trans h2.2
end Sys2Proof.Machine
end

section
-- In order: the one text holds more declarations than asynchronous elaboration has threads for.
set_option Elab.async false

/-! PROOFS. Protective commands (R358, R389 to R392, R423, R432): FULLCOOL entered and left, a rack isolated and tripped, acknowledgements and
set points. -/

namespace Sys2Proof.Machine

variable {ps : List Part} {ws : List Nat} {s t u v : State} {q : Req} {k : Nat}

/-! ### Requests that are not held -/

/-- The answer to a request that is never held. -/
def State.sendNow (v : State) (k : Nat) (q : Req) (code : Nat) : State :=
  (v.setMailbox k q.mbox { v.mailbox k q.mbox with last := some (answerOf q code 0 0 0 [] v) }).emit k (q.net, false) (answerOf q code 0 0 0 [] v)

/-- A request that passes its checks and is never held executes and is answered. -/
theorem State.requestNow_ok {code : Nat} {j : Nat → State → Judge} {l : List Nat} (h : s.Reaches q k u)
    (hj : (j k u).first { q with defer := false } u = none) (hl : (j k u).uses = l) (hr : ((j k u).run 0 (u.renewAll l)).1 = v) :
    s.requestNow q code j = v.sendNow k q code := by
  subst hl hr
  exact State.requestNow_taken h hj

theorem State.sendNow_ok (v : State) (k : Nat) (q : Req) (code : Nat) : AnsweredOk (v.sendNow k q code) q code [] := by
  unfold State.sendNow AnsweredOk
  rw [State.emit_head]
  exact ⟨_, _, rfl, rfl, rfl, rfl, rfl, rfl, rfl⟩

theorem State.sendNow_rd (v : State) (k : Nat) (q : Req) (code a : Nat) : (v.sendNow k q code).rd a = v.rd a := by
  unfold State.sendNow
  rw [State.emit_rd, State.setMailbox_rd]

theorem State.sendNow_fld (v : State) (k : Nat) (q : Req) (code : Nat) (f : Fld) : (v.sendNow k q code).fld f = v.fld f :=
  State.fld_congr (State.sendNow_rd _ _ _ _ _)

theorem State.sendNow_prt (v : State) (k : Nat) (q : Req) (code : Nat) : (v.sendNow k q code).prt = v.prt := by
  unfold State.sendNow
  exact ((Changes.refl [.zh, .out] [] v).setMailbox.emit).1.2 .prt (by decide)

/-! ### What the checks have found -/

/-- A request that fails no check names no bad value, and its state is one that it is legal in. -/
theorem Judge.first_none {j : Judge} (h : j.first q s = none) : j.bad = none ∧ s.inMap j.legal = true ∧ j.barred = false := by
  unfold Judge.first at h
  split at h
  · cases h
  · split at h
    · cases h
    · next hb =>
      split at h
      · cases h
      · split at h
        · cases h
        · split at h
          · cases h
          · split at h
            · cases h
            · next hl =>
              simp only [Bool.or_eq_true, Bool.not_eq_true', not_or, Bool.not_eq_false, Bool.not_eq_true] at hl
              exact ⟨hb, hl.1, hl.2⟩

/-- The state a request finds: its port's count apart, the words and the parts outside the sessions are those before it. -/
theorem State.Reaches.found (h : s.Reaches q k u) (l : List Nat) :
    (∀ a, (a < 0x9010000 ∨ 0x9020000 ≤ a) → (u.renewAll l).rd a = s.rd a) ∧ Changes [.zh] [Reg.PORT_CNT_RX q.port] s (u.renewAll l) :=
  ⟨fun _ ha => (State.renewAll_rd _ _ _).trans (h.rd_far ha), h.changes.renewAll⟩

theorem State.Reaches.found_prt (h : s.Reaches q k u) (l : List Nat) : (u.renewAll l).prt = s.prt := (h.found l).2.1.2 .prt (by decide)

theorem State.Reaches.found_drives (h : s.Reaches q k u) (l : List Nat) : (u.renewAll l).drives = s.drives :=
  have hw := (h.found l).1
  State.drives_of (State.isActive_of (hw _ (by decide))) (State.laneDrives_of (hw _ (by decide))) (State.fld_congr (hw _ (by decide)))

/-! ### Protective commands -/

theorem exec_fullcoolEnter (q : Req) (s : State) : exec (.fullcoolEnter q) s = .next (s.requestNow q 0x31 (judgeProt 0x31 0 0)) := rfl
theorem exec_rackIsolate (q : Req) (rack : Byte) (s : State) :
    exec (.rackIsolate q rack) s = .next (s.requestNow q 0x33 (judgeProt 0x33 1 rack.toNat)) := rfl
theorem exec_rackTrip (q : Req) (rack : Byte) (s : State) : exec (.rackTrip q rack) s = .next (s.requestNow q 0x34 (judgeProt 0x34 2 rack.toNat)) := rfl

/-- A protective command on a module that drives no outputs is recorded. -/
theorem judgeProt_recorded {code kind rack : Nat} (h : s.Reaches q k u) (hj : (judgeProt code kind rack k u).first { q with defer := false } u = none)
    (hd : s.drives = false) : ∃ t, s.requestNow q code (judgeProt code kind rack) = t ∧ AnsweredOk t q code [] ∧
      t.prt = { s.prt with cmds := s.prt.cmds ++ [(kind, rack)] } ∧ t.opState = s.opState := by
  have hf := (h.found (u.facilityOrControl k).2).1
  have hp := h.found_prt (u.facilityOrControl k).2
  have hdr := (h.found_drives (u.facilityOrControl k).2).trans hd
  have hrun : (u.renewAll (u.facilityOrControl k).2).protOrRecord kind rack =
      { u.renewAll (u.facilityOrControl k).2 with prt := { (u.renewAll (u.facilityOrControl k).2).prt with
          cmds := (u.renewAll (u.facilityOrControl k).2).prt.cmds ++ [(kind, rack)] } } := by
    unfold State.protOrRecord
    rw [hdr]
    rfl
  refine ⟨_, State.requestNow_ok h hj rfl hrun, State.sendNow_ok _ _ _ _, ?_, ?_⟩
  · rw [State.sendNow_prt, hp]
  · exact (State.sendNow_fld _ _ _ _ _).trans (State.fld_congr (hf Reg.SYS_STATE (by decide)))

/-- A protective command on a module that drives its outputs acts. -/
theorem judgeProt_acts {code kind rack : Nat} (h : s.Reaches q k u) (hj : (judgeProt code kind rack k u).first { q with defer := false } u = none)
    (hd : s.drives = true) : ∃ v : State, v.drives = true ∧ v.prt = s.prt ∧ s.requestNow q code (judgeProt code kind rack) = (v.protCommand kind rack).sendNow k q code := by
  have hdr := (h.found_drives (u.facilityOrControl k).2).trans hd
  refine ⟨_, hdr, h.found_prt _, State.requestNow_ok h hj rfl ?_⟩
  show (u.renewAll (u.facilityOrControl k).2).protOrRecord kind rack = _
  unfold State.protOrRecord
  rw [if_pos hdr]

/-- A rack that a protective command names is one of the 48. -/
theorem judgeProt_rack {code kind rack : Nat} (hj : (judgeProt code kind rack k u).first q u = none) : rack < 48 := by
  have hb : (if 48 ≤ rack then some (0x21, 0) else none) = (none : Option (Nat × Nat)) := (Judge.first_none hj).1
  split at hb
  · cases hb
  · omega

/-- A rack whose isolation is forced and not yet asked for. -/
def State.forceRack (s : State) (r : Nat) : State := s.setRackP r { s.rackP r with asked := false, force := true }

/-- A rack whose isolation is forced, its leak not yet timed. -/
def State.forceLeak (s : State) (r : Nat) : State := s.setRackP r { s.rackP r with asked := false, force := true, leakAt := none }

theorem State.protCommand_isolate (s : State) (r : Nat) :
    s.protCommand 1 r = (((s.forceLeak r).startLeak r seqLeak [] false).forceRack r).settle := rfl

theorem State.forceRack_rackP (s : State) (r : Nat) : (s.forceRack r).rackP r = { s.rackP r with asked := false, force := true } :=
  State.setRackP_rackP _ _ _

/-- A rack is isolated by command: its LEAK starts, and an isolation is asked for whatever ISO_AUTO reads. -/
theorem State.isolateCommand_spec (s : State) {r : Nat} (hr : r < 48) :
    (s.protCommand 1 r).rackActive r seqLeak = true ∧ ((s.protCommand 1 r).rackP r).force = true ∧ ((s.protCommand 1 r).rackP r).asked = false := by
  rw [State.protCommand_isolate]
  obtain ⟨-, ha, -, -⟩ := State.startLeak_spec (s.forceLeak r) (b := seqLeak) [] false hr (by decide)
  generalize (s.forceLeak r).startLeak r seqLeak [] false = w at *
  have hx := State.forceRack_rackP w r
  have ha' : (w.forceRack r).rackActive r seqLeak = true := ha
  generalize w.forceRack r = x at *
  obtain ⟨c, a, n, e⟩ := x.settle_prtSame.2 r
  rw [e, hx]
  exact ⟨(State.settle_rises (ws := []) x).act r hr _ ha', rfl, rfl⟩

/-- A rack is tripped by command: CMD_TRIP starts, and its trip is on. -/
theorem State.tripCommand_spec (s : State) {r : Nat} (hr : r < 48) (hd : s.drives = true) :
    (s.protCommand 2 r).rackActive r seqCmdTrip = true ∧ (s.protCommand 2 r).on (Fd.RK_OUT_TRIP r) = true := by
  have h := State.startRack_rises (ws := []) s (b := seqCmdTrip) 4 hr (by decide) (by decide)
  obtain ⟨ha, -⟩ := State.startRack_on s (b := seqCmdTrip) 4 hr (by decide) (by decide)
  change (s.startRack r seqCmdTrip Fd.PRT_EVT_TRIP).settle.rackActive r seqCmdTrip = true ∧ (s.startRack r seqCmdTrip Fd.PRT_EVT_TRIP).settle.on (Fd.RK_OUT_TRIP r) = true
  change State.Rises [] s (s.startRack r seqCmdTrip Fd.PRT_EVT_TRIP) at h
  change (s.startRack r seqCmdTrip Fd.PRT_EVT_TRIP).rackActive r seqCmdTrip = true at ha
  generalize s.startRack r seqCmdTrip Fd.PRT_EVT_TRIP = v at *
  refine ⟨(State.settle_rises (ws := []) v).act r hr _ ha, State.settle_trip v hr (h.drives hd) (Or.inl (fun e => ?_)) ?_⟩
  · unfold State.rackActive at ha
    rw [e] at ha
    exact absurd ha (by decide)
  · unfold State.tripHeld
    rw [ha, Bool.or_true, Bool.true_or]


/-! ### Leaving FULLCOOL -/

theorem State.on_of_zero {f : Fld} (h : s.fld f = 0) : s.on f = false := by
  unfold State.on
  rw [h]
  rfl

/-- FULLCOOL and its command no longer shown. -/
def State.hideFullcool (s : State) : State :=
  { (s.set Fd.PRT_STAT_FULLCOOL 0).set Fd.PRT_STAT_FC_CMD 0 with prt := { ((s.set Fd.PRT_STAT_FULLCOOL 0).set Fd.PRT_STAT_FC_CMD 0).prt with fcAuto := none } }

/-- The state that FULLCOOL leads back to. -/
def State.afterFullcool (s : State) (cause : Nat) : State :=
  if s.opState = 8 then (if s.anySequence then (s.set Fd.SYS_STATE_STATE 7).announce 8 cause else (s.enter s.returnTarget cause).leaveBoot) else s

theorem State.leaveFullcool_eq (s : State) (cause : Nat) : s.leaveFullcool cause = (s.hideFullcool.afterFullcool cause).settle := rfl

theorem State.hideFullcool_rd (s : State) {a : Nat} (h : a ≠ Reg.PRT_STAT) : s.hideFullcool.rd a = s.rd a :=
  (State.rd_set_ne _ Fd.PRT_STAT_FC_CMD _ _ h).trans (State.rd_set_ne _ Fd.PRT_STAT_FULLCOOL _ _ h)

theorem State.hideFullcool_off (s : State) : s.hideFullcool.fld Fd.PRT_STAT_FULLCOOL = 0 ∧ s.hideFullcool.fld Fd.PRT_STAT_FC_CMD = 0 :=
  ⟨(State.fld_set_bits (s.set Fd.PRT_STAT_FULLCOOL 0) Fd.PRT_STAT_FC_CMD Fd.PRT_STAT_FULLCOOL 0 rfl (by decide)).trans
    (State.fld_set_self s Fd.PRT_STAT_FULLCOOL 0 (by decide)), State.fld_set_self (s.set Fd.PRT_STAT_FULLCOOL 0) Fd.PRT_STAT_FC_CMD 0 (by decide)⟩

theorem State.hideFullcool_rack (s : State) : s.hideFullcool.prt.rack = s.prt.rack := by
  show ((s.set Fd.PRT_STAT_FULLCOOL 0).set Fd.PRT_STAT_FC_CMD 0).prt.rack = s.prt.rack
  rw [State.set_prt, State.set_prt]

theorem State.afterFullcool_stat (s : State) (cause lo : Nat) : (s.afterFullcool cause).fld ⟨Reg.PRT_STAT, lo, 1⟩ = s.fld ⟨Reg.PRT_STAT, lo, 1⟩ := by
  refine State.fld_congr ?_
  show (s.afterFullcool cause).rd Reg.PRT_STAT = s.rd Reg.PRT_STAT
  unfold State.afterFullcool
  split
  · split
    · rw [State.announce_rd _ _ _ _ (by decide), State.rd_set_ne _ _ _ _ (by decide)]
    · rw [State.leaveBoot_rd _ _ (by decide) (by decide) (by decide), State.enter_rd _ _ _ _ (by decide) (by decide) (by decide)]
  · rfl

/-- FULLCOOL is no longer shown, and a module in it with a sequence active is in PROTECT. -/
theorem State.leaveFullcool_spec (s : State) (cause : Nat) : (s.leaveFullcool cause).on Fd.PRT_STAT_FULLCOOL = false ∧
    (s.leaveFullcool cause).on Fd.PRT_STAT_FC_CMD = false ∧ (s.opState = 8 → s.anySequence = true → (s.leaveFullcool cause).opState = 7) := by
  rw [State.leaveFullcool_eq]
  obtain ⟨h1, h2⟩ := s.hideFullcool_off
  have hw : ∀ a, a ≠ Reg.PRT_STAT → s.hideFullcool.rd a = s.rd a := fun a h => s.hideFullcool_rd h
  have hr := s.hideFullcool_rack
  generalize s.hideFullcool = u at *
  refine ⟨?_, ?_, fun h8 ha => ?_⟩
  · exact State.on_of_zero (((State.settle_statBit _ (Or.inl rfl)).trans (u.afterFullcool_stat cause 0)).trans h1)
  · exact State.on_of_zero (((State.settle_statBit _ (Or.inr (Or.inl rfl))).trans (u.afterFullcool_stat cause 2)).trans h2)
  · have h8' : u.opState = 8 := (State.fld_congr (hw Reg.SYS_STATE (by decide))).trans h8
    have ha' : u.anySequence = true := State.anySequence_of (State.fld_congr (hw _ (by decide)))
      (fun r => State.fld_congr (hw _ (by simp only [Fd.RK_ACT_ACTIVE, Reg.RK_ACT, Reg.PRT_STAT]; omega))) (fun r h => Or.inr (by rw [hr]; exact h)) ha
    refine (State.settle_fld _ Fd.SYS_STATE_STATE (by decide) (by decide)).trans ?_
    unfold State.afterFullcool
    rw [if_pos h8', if_pos ha']
    exact (State.announce_fld _ _ _ Fd.SYS_STATE_STATE (by decide)).trans (State.fld_set_self u Fd.SYS_STATE_STATE 7 (by decide))

/-! ### Acknowledgements -/

theorem State.ackOne_rack (s : State) (r : Nat) {w : Nat} (h : w = 0) : s.ackOne w r = (s.set (Fd.RK_ACT_ACK_REQ r) 0).settle := by
  unfold State.ackOne
  split
  · rfl
  · cases h
  · cases h
  · next h0 _ _ => exact absurd h h0

theorem State.ackOne_loop (s : State) (i : Nat) {w : Nat} (h : w = 1) : s.ackOne w i = (s.set Fd.PRT_LOOPSTAT_ACK_REQ 0).settle := by
  unfold State.ackOne
  split
  · cases h
  · rfl
  · cases h
  · next h1 _ => exact absurd h h1

theorem State.ackOne_field (s : State) (i : Nat) {w : Nat} (h : w = 2) : s.ackOne w i = { s with field := { s.field with acks := s.field.acks ++ [i] } } := by
  unfold State.ackOne
  split
  · cases h
  · cases h
  · rfl
  · next h2 => exact absurd h h2

theorem State.ackOne_limit (s : State) (e : Nat) {w : Nat} (h : w = 3) : s.ackOne w e = s.set (Fd.LIM_STAT_ACK_REQ e) 0 := by
  unfold State.ackOne
  split
  · cases h
  · cases h
  · cases h
  · rfl

theorem State.ackRack_fld (s : State) {r : Nat} (hr : r < 48) : (s.set (Fd.RK_ACT_ACK_REQ r) 0).settle.fld (Fd.RK_ACT_ACK_REQ r) = 0 := by
  refine (State.settle_fld _ _ (quiet_act hr) (protOut_act r)).trans ?_
  exact State.fld_set_self s (Fd.RK_ACT_ACK_REQ r) 0 (show 16 + 10 ≤ 32 by decide)

theorem State.ackLoop_fld (s : State) : (s.set Fd.PRT_LOOPSTAT_ACK_REQ 0).settle.fld Fd.PRT_LOOPSTAT_ACK_REQ = 0 := by
  refine (State.settle_fld _ _ (by decide) (by decide)).trans ?_
  exact State.fld_set_self s Fd.PRT_LOOPSTAT_ACK_REQ 0 (by decide)

/-- Every rack's acknowledgements taken. -/
def State.ackRacks (s : State) : State := s.racksListed.foldl (fun (s : State) r => s.set (Fd.RK_ACT_ACK_REQ r) 0) s

/-- Every acknowledgement of the limit entries and of the loop level taken. -/
def State.ackLimits (s : State) : State :=
  s.limListed.foldl (fun (s : State) e => s.set (Fd.LIM_STAT_ACK_REQ e) 0) (s.set Fd.PRT_LOOPSTAT_ACK_REQ 0)

/-- The mark that the field inputs take at the next tick edge. -/
def State.markAckAll (s : State) : State := { s with field := { s.field with ackAll := true } }

theorem State.ackAll_eq (s : State) : s.ackAll = s.ackRacks.ackLimits.markAckAll.settle := rfl

theorem State.ackLimits_loop (s : State) : s.ackLimits.fld Fd.PRT_LOOPSTAT_ACK_REQ = 0 := by
  have h := foldl_keep (f := fun (s : State) e => s.set (Fd.LIM_STAT_ACK_REQ e) 0) (fun s => s.fld Fd.PRT_LOOPSTAT_ACK_REQ)
    (fun s e => State.fld_set_word _ _ _ _ (by simp only [Fd.PRT_LOOPSTAT_ACK_REQ, Fd.LIM_STAT_ACK_REQ, Reg.PRT_LOOPSTAT, Reg.LIM_STAT]; omega))
    s.limListed (s.set Fd.PRT_LOOPSTAT_ACK_REQ 0)
  exact h.trans (State.fld_set_self s Fd.PRT_LOOPSTAT_ACK_REQ 0 (by decide))

theorem State.settle_only (s : State) : Only [.zh, .prt, .out, .firn, .regs, .fresh] s s.settle :=
  (State.settle_keeps (F := 58753032) rfl (Keeps.refl _ s)).only _ (fun p => by cases p <;> decide)

theorem State.ackAll_only (s : State) : Only [.zh, .prt, .out, .firn, .regs, .fresh, .field] s s.ackAll :=
  (State.ackAll_keeps (F := 58757128) rfl (Keeps.refl _ s)).only _ (fun p => by cases p <;> decide)

/-- Everything is acknowledged: the loop level at once, the field inputs at the next tick edge. -/
theorem State.ackAll_spec (s : State) : s.ackAll.fld Fd.PRT_LOOPSTAT_ACK_REQ = 0 ∧ s.ackAll.field.ackAll = true ∧ s.ackAll.stm = s.stm := by
  refine ⟨?_, ?_, s.ackAll_only.2 .stm (by decide)⟩
  · rw [State.ackAll_eq]
    refine (State.settle_fld _ _ (by decide) (by decide)).trans ?_
    exact s.ackRacks.ackLimits_loop
  · rw [State.ackAll_eq]
    have h : s.ackRacks.ackLimits.markAckAll.settle.field = s.ackRacks.ackLimits.markAckAll.field := (State.settle_only _).2 .field (by decide)
    rw [h]
    rfl

theorem State.ackCmd_one (s : State) (i : Nat) {w : Nat} (h : w < 4) : s.ackCmd w i = s.ackOne w i := by
  unfold State.ackCmd
  split
  · exact absurd h (by decide)
  · exact absurd h (by decide)
  · rfl

theorem State.ackCmd_stream (s : State) (i : Nat) {w : Nat} (h : w = 4) : s.ackCmd w i = s.streamAck (BitVec.ofNat 32 i) := by
  unfold State.ackCmd
  split
  · rfl
  · cases h
  · next h4 _ => exact absurd h h4

theorem State.ackCmd_all (s : State) (i : Nat) {w : Nat} (h : w = 5) :
    s.ackCmd w i = if s.mainAbsent then s.ackAll else s.ackAll.streamAck 0x80000000 := by
  unfold State.ackCmd
  split
  · cases h
  · rfl
  · next h5 => exact absurd h h5

theorem exec_ack (q : Req) (what : Byte) (index : Word) (s : State) :
    exec (.ack q what index) s = .next (s.request (.ack q what index) q 0x35 (judgeAck what index)) := rfl

/-- An acknowledgement that passes its checks acts and is answered. -/
theorem judgeAck_acts {what : Byte} {index : Word} (h : s.Reaches q k u) (hj : (judgeAck what index k u).first q u = none) :
    exec (.ack q what index) s =
      .next (((u.renewAll (u.facilityOrControl k).2).ackCmd what.toNat index.toNat).finish k q 0x35 0 0 0 []) :=
  (exec_ack _ _ _ _).trans (congrArg _ (State.request_ok (l := (u.facilityOrControl k).2) h hj rfl rfl rfl))

/-- An acknowledgement names what there is to acknowledge. -/
theorem judgeAck_index {what : Byte} {index : Word} (hj : (judgeAck what index k u).first q u = none) (hw : what.toNat < 4) :
    ackIndexOk what.toNat index.toNat = true := by
  have hb : (if what.toNat = 5 ∨ (what.toNat = 4 ∧ index.toNat < 262144) ∨ (what.toNat < 4 ∧ ackIndexOk what.toNat index.toNat) then none
      else some (0x21, 0)) = (none : Option (Nat × Nat)) := (Judge.first_none hj).1
  split at hb
  · next h =>
    rcases h with h | h | h
    · omega
    · omega
    · exact h.2
  · cases hb

theorem State.finish_part (v : State) (k : Nat) (q : Req) (code : Nat) : Changes [.zh, .out] [Reg.SS_MBOX k] v (v.finish k q code 0 0 0 []) :=
  (Changes.refl [.zh, .out] [Reg.SS_MBOX k] v).finish

theorem State.finish_fld_low (v : State) (k : Nat) (q : Req) (code : Nat) (f : Fld) (hf : f.addr < 0x9030000) :
    (v.finish k q code 0 0 0 []).fld f = v.fld f :=
  State.finish_fld _ _ _ _ _ _ _ (by decide) _ (by simp only [Reg.SS_MBOX]; omega)

/-- An acknowledgement of streams waits for the next boundary; one of all of them is marked. -/
theorem State.streamAck_spec (s : State) (v : Word) :
    (s.streamAck v).stm.ackAll = (s.stm.ackAll || fieldOf v 31 1 == 1) ∧ Changes [.stm] [] s (s.streamAck v) := by
  unfold State.streamAck
  split
  · next h => exact ⟨by rw [h]; simp, (Changes.refl _ _ s).upd_stm⟩
  · next h => exact ⟨by simp [h], (Changes.refl _ _ s).upd_stm⟩

/-! ### The clauses -/

theorem fullcoolEnter_acts (h : s.Reaches q k u) (hj : (judgeProt 0x31 0 0 k u).first { q with defer := false } u = none) (hd : s.drives = true) :
    ∃ t, exec (.fullcoolEnter q) s = .next t ∧ AnsweredOk t q 0x31 [] ∧ t.on Fd.PRT_STAT_FULLCOOL = true ∧ t.on Fd.PRT_STAT_FC_CMD = true ∧
      t.opState = 8 := by
  obtain ⟨v, hv, -, e⟩ := judgeProt_acts h hj hd
  obtain ⟨h1, h2, h3⟩ := v.enterFullcool_on false
  have hc : v.protCommand 0 0 = v.enterFullcool false := rfl
  rw [hc] at e
  refine ⟨_, (exec_fullcoolEnter q s).trans (congrArg _ e), State.sendNow_ok _ _ _ _, ?_, ?_, ?_⟩
  · exact (congrArg (· == 1) (State.sendNow_fld _ _ _ _ _)).trans h1
  · exact (congrArg (· == 1) (State.sendNow_fld _ _ _ _ _)).trans (h2 rfl)
  · exact (State.sendNow_fld _ _ _ _ Fd.SYS_STATE_STATE).trans (h3 hv)

theorem fullcoolEnter_recorded (h : s.Reaches q k u) (hj : (judgeProt 0x31 0 0 k u).first { q with defer := false } u = none) (hd : s.drives = false) :
    ∃ t, exec (.fullcoolEnter q) s = .next t ∧ AnsweredOk t q 0x31 [] ∧ t.prt = { s.prt with cmds := s.prt.cmds ++ [(0, 0)] } ∧
      t.opState = s.opState := by
  obtain ⟨t, e, ha, hp, ho⟩ := judgeProt_recorded h hj hd
  exact ⟨t, (exec_fullcoolEnter q s).trans (congrArg _ e), ha, hp, ho⟩

theorem rackIsolate_recorded {rack : Byte} (h : s.Reaches q k u) (hj : (judgeProt 0x33 1 rack.toNat k u).first { q with defer := false } u = none)
    (hd : s.drives = false) : ∃ t, exec (.rackIsolate q rack) s = .next t ∧ AnsweredOk t q 0x33 [] ∧
      t.prt = { s.prt with cmds := s.prt.cmds ++ [(1, rack.toNat)] } := by
  obtain ⟨t, e, ha, hp, -⟩ := judgeProt_recorded h hj hd
  exact ⟨t, (exec_rackIsolate q rack s).trans (congrArg _ e), ha, hp⟩

theorem rackTrip_recorded {rack : Byte} (h : s.Reaches q k u) (hj : (judgeProt 0x34 2 rack.toNat k u).first { q with defer := false } u = none)
    (hd : s.drives = false) : ∃ t, exec (.rackTrip q rack) s = .next t ∧ AnsweredOk t q 0x34 [] ∧
      t.prt = { s.prt with cmds := s.prt.cmds ++ [(2, rack.toNat)] } := by
  obtain ⟨t, e, ha, hp, -⟩ := judgeProt_recorded h hj hd
  exact ⟨t, (exec_rackTrip q rack s).trans (congrArg _ e), ha, hp⟩

theorem rackIsolate_acts {rack : Byte} (h : s.Reaches q k u) (hj : (judgeProt 0x33 1 rack.toNat k u).first { q with defer := false } u = none)
    (hd : s.drives = true) : ∃ t, exec (.rackIsolate q rack) s = .next t ∧ AnsweredOk t q 0x33 [] ∧ t.rackActive rack.toNat seqLeak = true ∧
      (t.rackP rack.toNat).force = true ∧ (t.rackP rack.toNat).asked = false := by
  obtain ⟨v, -, -, e⟩ := judgeProt_acts h hj hd
  obtain ⟨h1, h2, h3⟩ := v.isolateCommand_spec (judgeProt_rack hj)
  generalize v.protCommand 1 rack.toNat = w at *
  have hr : (w.sendNow k q 0x33).rackP rack.toNat = w.rackP rack.toNat := State.rackP_of (State.sendNow_prt _ _ _ _) _
  refine ⟨_, (exec_rackIsolate q rack s).trans (congrArg _ e), State.sendNow_ok _ _ _ _, ?_, ?_, ?_⟩
  · exact (congrArg (fun x => bitOf x seqLeak) (State.sendNow_fld _ _ _ _ _)).trans h1
  · rw [hr, h2]
  · rw [hr, h3]

theorem rackTrip_acts {rack : Byte} (h : s.Reaches q k u) (hj : (judgeProt 0x34 2 rack.toNat k u).first { q with defer := false } u = none)
    (hd : s.drives = true) : ∃ t, exec (.rackTrip q rack) s = .next t ∧ AnsweredOk t q 0x34 [] ∧ t.rackActive rack.toNat seqCmdTrip = true ∧
      t.on (Fd.RK_OUT_TRIP rack.toNat) = true := by
  obtain ⟨v, hv, -, e⟩ := judgeProt_acts h hj hd
  obtain ⟨h1, h2⟩ := v.tripCommand_spec (judgeProt_rack hj) hv
  generalize v.protCommand 2 rack.toNat = w at *
  refine ⟨_, (exec_rackTrip q rack s).trans (congrArg _ e), State.sendNow_ok _ _ _ _, ?_, ?_⟩
  · exact (congrArg (fun x => bitOf x seqCmdTrip) (State.sendNow_fld _ _ _ _ _)).trans h1
  · exact (congrArg (· == 1) (State.sendNow_fld _ _ _ _ _)).trans h2

theorem ack_rack {index : Word} (h : s.Reaches q k u) (hj : (judgeAck 0 index k u).first q u = none) :
    ∃ t, exec (.ack q 0 index) s = .next t ∧ AnsweredOk t q 0x35 [] ∧ t.fld (Fd.RK_ACT_ACK_REQ index.toNat) = 0 := by
  have hi : index.toNat < 48 := of_decide_eq_true (judgeAck_index hj (by decide))
  refine ⟨_, judgeAck_acts h hj, State.finish_ok _ _ _ _ _ _, ?_⟩
  rw [State.finish_fld_low _ _ _ _ _ (by simp only [Fd.RK_ACT_ACK_REQ, Reg.RK_ACT]; omega), State.ackCmd_one _ _ (by decide),
    State.ackOne_rack _ _ (by decide)]
  exact State.ackRack_fld _ hi

theorem ack_loop {index : Word} (h : s.Reaches q k u) (hj : (judgeAck 1 index k u).first q u = none) :
    ∃ t, exec (.ack q 1 index) s = .next t ∧ AnsweredOk t q 0x35 [] ∧ t.fld Fd.PRT_LOOPSTAT_ACK_REQ = 0 := by
  refine ⟨_, judgeAck_acts h hj, State.finish_ok _ _ _ _ _ _, ?_⟩
  rw [State.finish_fld_low _ _ _ _ _ (by decide), State.ackCmd_one _ _ (by decide), State.ackOne_loop _ _ (by decide)]
  exact State.ackLoop_fld _

theorem ack_field {index : Word} (h : s.Reaches q k u) (hj : (judgeAck 2 index k u).first q u = none) :
    ∃ t, exec (.ack q 2 index) s = .next t ∧ AnsweredOk t q 0x35 [] ∧ t.field = { s.field with acks := s.field.acks ++ [index.toNat] } := by
  refine ⟨_, judgeAck_acts h hj, State.finish_ok _ _ _ _ _ _, ?_⟩
  rw [State.ackCmd_one _ _ (by decide), State.ackOne_field _ _ (by decide)]
  have hf : (u.renewAll (u.facilityOrControl k).2).field = s.field := (h.found _).2.1.2 .field (by decide)
  generalize u.renewAll (u.facilityOrControl k).2 = w at *
  exact ((State.finish_part _ k q 0x35).1.2 .field (by decide)).trans (by rw [hf])

theorem ack_limit {index : Word} (h : s.Reaches q k u) (hj : (judgeAck 3 index k u).first q u = none) :
    ∃ t, exec (.ack q 3 index) s = .next t ∧ AnsweredOk t q 0x35 [] ∧ t.on (Fd.LIM_STAT_ACK_REQ index.toNat) = false := by
  have hi : index.toNat < 32 := of_decide_eq_true (judgeAck_index hj (by decide))
  refine ⟨_, judgeAck_acts h hj, State.finish_ok _ _ _ _ _ _, State.on_of_zero ?_⟩
  rw [State.finish_fld_low _ _ _ _ _ (by simp only [Fd.LIM_STAT_ACK_REQ, Reg.LIM_STAT]; omega), State.ackCmd_one _ _ (by decide),
    State.ackOne_limit _ _ (by decide)]
  exact State.fld_set_self _ (Fd.LIM_STAT_ACK_REQ index.toNat) 0 (show 2 + 1 ≤ 32 by decide)

theorem ack_streams {index : Word} (h : s.Reaches q k u) (hj : (judgeAck 4 index k u).first q u = none) :
    ∃ t, exec (.ack q 4 index) s = .next t ∧ AnsweredOk t q 0x35 [] ∧ t.stm.ackAll = (s.stm.ackAll || fieldOf index 31 1 == 1) ∧
      Changes [.zh, .stm, .out] [Reg.SS_MBOX k, Reg.PORT_CNT_RX q.port] s t := by
  refine ⟨_, judgeAck_acts h hj, State.finish_ok _ _ _ _ _ _, ?_⟩
  rw [State.ackCmd_stream _ _ (by decide), BitVec.ofNat_toNat, BitVec.setWidth_eq]
  obtain ⟨-, hf⟩ := h.found (u.facilityOrControl k).2
  have hs : (u.renewAll (u.facilityOrControl k).2).stm = s.stm := hf.1.2 .stm (by decide)
  generalize u.renewAll (u.facilityOrControl k).2 = w at *
  obtain ⟨h1, h2⟩ := w.streamAck_spec index
  refine ⟨?_, ?_⟩
  · rw [(State.finish_part _ k q 0x35).1.2 .stm (by decide)]
    rw [hs] at h1
    exact h1
  · exact ((hf.mono (ps := [.zh, .stm, .out]) (ws := [Reg.SS_MBOX k, Reg.PORT_CNT_RX q.port]) (by decide) (by simp)).step h2).finish

theorem ack_all {index : Word} (h : s.Reaches q k u) (hj : (judgeAck 5 index k u).first q u = none) :
    ∃ t, exec (.ack q 5 index) s = .next t ∧ AnsweredOk t q 0x35 [] ∧ t.fld Fd.PRT_LOOPSTAT_ACK_REQ = 0 ∧ t.field.ackAll = true ∧
      t.stm.ackAll = (s.stm.ackAll || !s.mainAbsent) := by
  refine ⟨_, judgeAck_acts h hj, State.finish_ok _ _ _ _ _ _, ?_⟩
  rw [State.finish_fld_low _ _ _ _ _ (by decide), State.ackCmd_all _ _ (by decide)]
  obtain ⟨hw, hf⟩ := h.found (u.facilityOrControl k).2
  have hm : (u.renewAll (u.facilityOrControl k).2).mainAbsent = s.mainAbsent := congrArg (· == 1) (State.fld_congr (hw _ (by decide)))
  have hs : (u.renewAll (u.facilityOrControl k).2).stm = s.stm := hf.1.2 .stm (by decide)
  generalize u.renewAll (u.facilityOrControl k).2 = w at *
  rw [← hm, ← hs]
  obtain ⟨h1, h2, h3⟩ := w.ackAll_spec
  generalize w.ackAll = x at *
  obtain ⟨k1, k2⟩ := x.streamAck_spec 0x80000000
  cases hc : w.mainAbsent with
  | true =>
    refine ⟨h1, ?_, ?_⟩
    · exact (congrArg FieldIn.ackAll ((State.finish_part _ k q 0x35).1.2 .field (by decide))).trans h2
    · exact (congrArg Streams.ackAll ((State.finish_part _ k q 0x35).1.2 .stm (by decide))).trans (by rw [if_pos rfl, h3]; simp)
  | false =>
    rw [if_neg (by decide)]
    refine ⟨(k2.fld (by decide) (by decide)).trans h1, ?_, ?_⟩
    · exact (congrArg FieldIn.ackAll ((State.finish_part _ k q 0x35).1.2 .field (by decide))).trans
        ((congrArg FieldIn.ackAll (k2.1.2 .field (by decide))).trans h2)
    · exact (congrArg Streams.ackAll ((State.finish_part _ k q 0x35).1.2 .stm (by decide))).trans (k1.trans (by rw [h3]; rfl))

theorem exec_fullcoolExit (q : Req) (s : State) : exec (.fullcoolExit q) s = .next (s.request (.fullcoolExit q) q 0x32 judgeFcExit) := rfl

/-- The only state that FULLCOOL is left from by command. -/
theorem judgeFcExit_state (hj : (judgeFcExit k u).first q u = none) : u.opState = 8 := by
  have hl : bitOf 0x0100 u.opState = true := (Judge.first_none hj).2.1
  rw [bitOf_testBit, show (0x0100 : Nat) = 2 ^ 8 from rfl, Nat.testBit_two_pow] at hl
  exact (of_decide_eq_true hl).symm

theorem fullcoolExit_acts (h : s.Reaches q k u) (hj : (judgeFcExit k u).first q u = none) :
    ∃ t, exec (.fullcoolExit q) s = .next t ∧ AnsweredOk t q 0x32 [] ∧ t.on Fd.PRT_STAT_FULLCOOL = false ∧ t.on Fd.PRT_STAT_FC_CMD = false ∧
      (s.anySequence = true → t.opState = 7) := by
  obtain ⟨hw, hf⟩ := h.found (u.facilityOrControl k).2
  have h8 : (u.renewAll (u.facilityOrControl k).2).opState = 8 := (State.renewAll_fld _ _ _).trans (judgeFcExit_state hj)
  have hp := h.found_prt (u.facilityOrControl k).2
  have hr : ∀ r, (u.renewAll (u.facilityOrControl k).2).rd (Reg.RK_ACT r) = s.rd (Reg.RK_ACT r) := fun r =>
    (State.renewAll_rd _ _ _).trans (h.rd _ (by simp only [Reg.RK_ACT, Reg.PORT_CNT_RX]; omega))
  have he : exec (.fullcoolExit q) s = .next (((u.renewAll (u.facilityOrControl k).2).leaveFullcool 1).finish k q 0x32 0 0 0 []) :=
    (exec_fullcoolExit _ _).trans (congrArg _ (State.request_ok (l := (u.facilityOrControl k).2) h hj rfl rfl rfl))
  generalize u.renewAll (u.facilityOrControl k).2 = w at *
  obtain ⟨h1, h2, h3⟩ := w.leaveFullcool_spec 1
  generalize w.leaveFullcool 1 = x at *
  refine ⟨_, he, State.finish_ok _ _ _ _ _ _, ?_, ?_, fun ha => ?_⟩
  · exact (congrArg (· == 1) (State.finish_fld_low _ _ _ _ _ (by decide))).trans h1
  · exact (congrArg (· == 1) (State.finish_fld_low _ _ _ _ _ (by decide))).trans h2
  · refine (State.finish_fld_low _ _ _ _ Fd.SYS_STATE_STATE (by decide)).trans (h3 h8 ?_)
    refine State.anySequence_of (State.fld_congr (hw _ (by decide))) (fun r => State.fld_congr (hr r)) (fun r hk => Or.inr (by rw [hp]; exact hk)) ha

theorem exec_setpoint (q : Req) (loop : Byte) (value : Word) (s : State) :
    exec (.setpoint q loop value) s = .next (s.request (.setpoint q loop value) q 0x40 (judgeSetpoint loop value)) := rfl

theorem setpoint_acts {loop : Byte} {value : Word} (h : s.Reaches q k u) (hj : (judgeSetpoint loop value k u).first q u = none) :
    ∃ t, exec (.setpoint q loop value) s = .next t ∧ AnsweredOk t q 0x40 [] ∧
      t.waitWrites = s.waitWrites ++ [⟨k, Reg.LP_SP loop.toNat, value⟩] ∧
      Changes [.zh, .waitWrites, .out] [Reg.SS_MBOX k, Reg.PORT_CNT_RX q.port] s t := by
  have hf := (h.found [domControl]).2
  have hs : (u.renewAll [domControl]).waitWrites = s.waitWrites := hf.1.2 .waitWrites (by decide)
  have he : exec (.setpoint q loop value) s = .next (({ u.renewAll [domControl] with
      waitWrites := (u.renewAll [domControl]).waitWrites ++ [⟨k, Reg.LP_SP loop.toNat, value⟩] } : State).finish k q 0x40 0 0 0 []) :=
    (exec_setpoint _ _ _ _).trans (congrArg _ (State.request_ok (l := [domControl]) h hj rfl rfl rfl))
  generalize u.renewAll [domControl] = w at *
  refine ⟨_, he, State.finish_ok _ _ _ _ _ _, ?_, ?_⟩
  · exact ((State.finish_part _ k q 0x40).1.2 .waitWrites (by decide)).trans (by rw [hs])
  · exact ((hf.mono (ps := [.zh, .waitWrites, .out]) (ws := [Reg.SS_MBOX k, Reg.PORT_CNT_RX q.port]) (by decide) (by simp)).upd_waitWrites).finish

/-- Settles O38: what a request finds is what stood before it (`State.Reaches.found`), what has started stands through the outputs
(`State.Rises`), and each command's effect is read back through its answer. -/
theorem protectiveCommandsAct : Obligations.ProtectiveCommandsAct := by
  unfold Obligations.ProtectiveCommandsAct
  exact ⟨fun _ _ _ _ h hj hd => fullcoolEnter_acts h hj hd, fun _ _ _ _ h hj hd => fullcoolEnter_recorded h hj hd,
    fun _ _ _ _ _ h hj hd => rackIsolate_recorded h hj hd, fun _ _ _ _ _ h hj hd => rackTrip_recorded h hj hd,
    fun _ _ _ _ _ h hj => ack_loop h hj, fun _ _ _ _ _ h hj => ack_field h hj, fun _ _ _ _ _ h hj => ack_limit h hj,
    fun _ _ _ _ _ h hj => ack_all h hj, fun _ _ _ _ h hj => fullcoolExit_acts h hj, fun _ _ _ _ _ h hj hd => rackIsolate_acts h hj hd,
    fun _ _ _ _ _ h hj hd => rackTrip_acts h hj hd, fun _ _ _ _ _ h hj => ack_rack h hj, fun _ _ _ _ _ h hj => ack_streams h hj,
    fun _ _ _ _ _ _ h hj => setpoint_acts h hj⟩
end Sys2Proof.Machine
end

section
-- In order: the one text holds more declarations than asynchronous elaboration has threads for.
set_option Elab.async false

/-! PROOFS. Leak inputs and leak sequences (R360 to R372): a measurement, the imbalance, and the starts of LEAK, LEAK_FAST, GFAULT and of their
loop-level kin. -/

namespace Sys2Proof.Machine

variable {ps : List Part} {ws : List Nat} {s t u v : State}

/-! ### A measurement -/

theorem leakBand_lt (r e w o : Nat) : leakBand r e w o < 4 := by
  unfold leakBand
  split
  · decide
  · split
    · decide
    · split <;> decide

/-- The word of a leak input's status: its band, whether it is confirmed wet and faulted, and its resistance. -/
def leakWord (b : Nat) (wet bad : Bool) (res : Nat) : Nat := b + (if wet then 4 else 0) + (if bad then 8 else 0) + 65536 * min (res / 10) 65535

theorem leakWord_lt {b : Nat} (hb : b < 4) (wet bad : Bool) (res : Nat) : leakWord b wet bad res < 2 ^ 32 := by
  unfold leakWord
  cases wet <;> cases bad <;> simp only [if_true, Bool.false_eq_true, if_false] <;> omega

theorem leakWord_band {b : Nat} (hb : b < 4) (wet bad : Bool) (res : Nat) : fieldOf (BitVec.ofNat 32 (leakWord b wet bad res)) 0 2 = b := by
  rw [fieldOf_ofNat _ _ (leakWord_lt hb _ _ _)]
  unfold leakWord
  cases wet <;> cases bad <;> simp only [if_true, Bool.false_eq_true, if_false] <;> omega

theorem leakWord_wet {b : Nat} (hb : b < 4) (wet bad : Bool) (res : Nat) : (fieldOf (BitVec.ofNat 32 (leakWord b wet bad res)) 2 1 == 1) = wet := by
  rw [fieldOf_ofNat _ _ (leakWord_lt hb _ _ _), beq_eq_decide]
  unfold leakWord
  cases wet
  · refine decide_eq_false ?_
    cases bad <;> simp only [if_true, Bool.false_eq_true, if_false] <;> omega
  · refine decide_eq_true ?_
    cases bad <;> simp only [if_true, Bool.false_eq_true, if_false] <;> omega

/-- The band that an input's resistance lies in. -/
def State.bandOf (s : State) (i : Nat) : Nat :=
  leakBand (s.leakIn i).res (s.leakCfg i).1 (s.fld Fd.PRT_LEAK_CFG1_WET_PCT) (s.fld Fd.PRT_LEAK_CFG1_OPEN_PCT)

/-- How many wet measurements in a row an input has with this one. -/
def State.wetRun (s : State) (i : Nat) : Nat := if s.bandOf i = 1 then (s.leakIn i).wet + 1 else 0

/-- How many wet measurements in a row confirm an input wet. -/
def State.wetConfirm (s : State) (i : Nat) : Nat := if i < 48 then s.fld Fd.PRT_LEAK_CFG0_LEAK_CONF else s.fld Fd.PRT_LEAK_CFG0_SPOT_CONF

/-- A measurement of an input that is supervised: its band shows, its run of wet ones is kept, and it is confirmed wet when the run is long enough. -/
theorem State.measureLeak_on (s : State) {i : Nat} (hc : (s.leakCfg i).2 = true) :
    ((s.measureLeak i).leakIn i).res = (s.leakIn i).res ∧ ((s.measureLeak i).leakIn i).wet = s.wetRun i ∧
      fieldOf ((s.measureLeak i).rd (leakStat i)) 0 2 = s.bandOf i ∧ (s.measureLeak i).wetConf i = decide (s.wetConfirm i ≤ s.wetRun i) ∧
      Changes [.prt] [leakStat i] s (s.measureLeak i) := by
  have hb : s.bandOf i < 4 := leakBand_lt _ _ _ _
  have e : ∃ (x : LeakIn) (bad : Bool), x.res = (s.leakIn i).res ∧ x.wet = s.wetRun i ∧ s.measureLeak i =
      (s.setLeakIn i x).wr (leakStat i) (BitVec.ofNat 32 (leakWord (s.bandOf i) (decide (s.wetConfirm i ≤ s.wetRun i)) bad (s.leakIn i).res)) := by
    unfold State.measureLeak
    dsimp only
    rw [if_neg (by simp [hc])]
    refine ⟨_, decide (100 * s.fld Fd.PRT_LEAK_CFG0_FAULT_CONF ≤ if 2 ≤ s.bandOf i then (s.leakIn i).bad + 1 else 0), ?_, ?_, rfl⟩
    · rfl
    · rfl
  obtain ⟨x, bad, hres, hwet, e⟩ := e
  rw [e]
  refine ⟨?_, ?_, ?_, ?_, (Changes.refl _ _ s).setLeakIn.wr⟩
  · rw [show ((s.setLeakIn i x).wr (leakStat i) _).leakIn i = (s.setLeakIn i x).leakIn i from rfl, State.setLeakIn_leakIn, hres]
  · rw [show ((s.setLeakIn i x).wr (leakStat i) _).leakIn i = (s.setLeakIn i x).leakIn i from rfl, State.setLeakIn_leakIn, hwet]
  · rw [State.rd_wr_self]
    exact leakWord_band hb _ _ _
  · unfold State.wetConf
    rw [State.rd_wr_self]
    exact leakWord_wet hb _ _ _

/-- An input's measured resistance, before it is judged. -/
def State.measured (s : State) (i r : Nat) : State := s.setLeakIn i { s.leakIn i with res := r }

theorem exec_leakMeasurement_one (s : State) (i : Fin 80) (r : Nat) (h : (s.measured i r).leakInputs = [i.val]) :
    exec (.leakMeasurement [(i, r)]) s = .next ((s.measured i r).measureLeak i) := by
  have e : exec (.leakMeasurement [(i, r)]) s =
      .next ((s.measured i r).leakInputs.foldl (fun (s : State) i => s.measureLeak i) (s.measured i r)) := rfl
  rw [e, h]
  rfl

/-- One measurement of the only input there is. -/
theorem leakMeasurement_one (s : State) (i : Fin 80) (r : Nat) (h : (s.measured i r).leakInputs = [i.val]) (hc : (s.leakCfg i).2 = true) :
    ∃ t, exec (.leakMeasurement [(i, r)]) s = .next t ∧ (t.leakIn i).res = r ∧ (t.leakIn i).wet = (s.measured i r).wetRun i ∧
      fieldOf (t.rd (leakStat i)) 0 2 = (s.measured i r).bandOf i ∧
      t.wetConf i = decide ((s.measured i r).wetConfirm i ≤ (s.measured i r).wetRun i) ∧ Changes [.prt] [leakStat i] s t := by
  obtain ⟨h1, h2, h3, h4, h5⟩ := (s.measured i r).measureLeak_on (i := i) hc
  refine ⟨_, exec_leakMeasurement_one s i r h, ?_, h2, h3, h4, ?_⟩
  · rw [h1, State.measured, State.setLeakIn_leakIn]
  · exact ((Changes.refl [.prt] [leakStat i] s).setLeakIn (i := i) (x := { s.leakIn i with res := r })).trans h5

theorem State.measured_band (s : State) (i r : Nat) : (s.measured i r).bandOf i =
    leakBand r (s.leakCfg i).1 (s.fld Fd.PRT_LEAK_CFG1_WET_PCT) (s.fld Fd.PRT_LEAK_CFG1_OPEN_PCT) := by
  unfold State.bandOf
  rw [State.measured, State.setLeakIn_leakIn]
  rfl

theorem leakMeasurement_first (i : Fin 80) (r : Nat) (hl : s.prt.leak = []) (hc : (s.leakCfg i).2 = true)
    (h1 : 1 < s.fld Fd.PRT_LEAK_CFG0_LEAK_CONF) (h2 : 1 < s.fld Fd.PRT_LEAK_CFG0_SPOT_CONF) :
    ∃ t, exec (.leakMeasurement [(i, r)]) s = .next t ∧ (t.leakIn i).res = r ∧
      fieldOf (t.rd (leakStat i)) 0 2 = leakBand r (s.leakCfg i).1 (s.fld Fd.PRT_LEAK_CFG1_WET_PCT) (s.fld Fd.PRT_LEAK_CFG1_OPEN_PCT) ∧
      t.wetConf i = false ∧ Changes [.prt] [leakStat i] s t := by
  have hk : (s.measured i r).leakInputs = [i.val] := by
    unfold State.leakInputs State.measured
    rw [State.setLeakIn_prt, hl]
    rfl
  obtain ⟨t, e, hr, -, hb, hw, hch⟩ := leakMeasurement_one s i r hk hc
  refine ⟨t, e, hr, hb.trans (s.measured_band i r), ?_, hch⟩
  rw [hw]
  refine decide_eq_false ?_
  have hrun : (s.measured i r).wetRun i ≤ 1 := by
    have h0 : ((s.measured i r).leakIn i).wet = 0 := by
      rw [State.measured, State.setLeakIn_leakIn, State.leakIn, hl]
      rfl
    unfold State.wetRun
    rw [h0]
    split <;> decide
  have hconf : 1 < (s.measured i r).wetConfirm i := by
    unfold State.wetConfirm
    split
    · exact h1
    · exact h2
  omega

theorem leakMeasurement_wet (i : Fin 80) (r : Nat) (hl : s.leakInputs = [i.val]) (hc : (s.leakCfg i).2 = true)
    (hb : leakBand r (s.leakCfg i).1 (s.fld Fd.PRT_LEAK_CFG1_WET_PCT) (s.fld Fd.PRT_LEAK_CFG1_OPEN_PCT) = 1)
    (hn : (if i.val < 48 then s.fld Fd.PRT_LEAK_CFG0_LEAK_CONF else s.fld Fd.PRT_LEAK_CFG0_SPOT_CONF) ≤ (s.leakIn i).wet + 1) :
    ∃ t, exec (.leakMeasurement [(i, r)]) s = .next t ∧ (t.leakIn i).wet = (s.leakIn i).wet + 1 ∧ t.wetConf i = true ∧
      Changes [.prt] [leakStat i] s t := by
  have hk : (s.measured i r).leakInputs = [i.val] := by
    unfold State.leakInputs State.measured
    rw [State.setLeakIn_prt]
    unfold State.leakInputs at hl
    generalize s.leakIn i = x
    match hm : s.prt.leak, hl with
    | [(j, y)], hl =>
      obtain rfl : j = i.val := by simpa using hl
      simp [Tab.put]
  obtain ⟨t, e, -, hw, -, hconf, hch⟩ := leakMeasurement_one s i r hk hc
  have hrun : (s.measured i r).wetRun i = (s.leakIn i).wet + 1 := by
    unfold State.wetRun
    rw [s.measured_band i r, if_pos hb, State.measured, State.setLeakIn_leakIn]
  exact ⟨t, e, hw.trans hrun, hconf.trans (decide_eq_true (by rw [hrun]; exact hn)), hch⟩

theorem leakMeasurement_none (hl : s.prt.leak = []) : ∃ t, exec (.leakMeasurement []) s = .next t ∧ t = s := by
  have e : exec (.leakMeasurement []) s = .next (s.leakInputs.foldl (fun (s : State) i => s.measureLeak i) s) := rfl
  refine ⟨s, e.trans ?_, rfl⟩
  unfold State.leakInputs
  rw [hl]
  rfl

/-! ### The imbalance -/

/-- A rack's part after its imbalance is judged. -/
def RackP.judged (x : RackP) (m : Option (Int × Int)) (now : Nat) : RackP :=
  { x with
    above := if m.any (fun p => decide (p.2 < p.1)) then x.above.orElse (fun _ => some now) else none
    reversed := if m.any (fun p => decide (p.1 < -p.2)) then x.reversed.orElse (fun _ => some now) else none
    balanced := if m.any (fun p => decide (p.2 < p.1)) || m.any (fun p => decide (p.1 < -p.2)) then none
      else if x.above.isSome || x.reversed.isSome then some now else x.balanced
    imbTold := x.imbTold && m.any (fun p => decide (p.2 < p.1)), fastTold := x.fastTold && m.any (fun p => decide (p.2 < p.1)) }

theorem exec_imbalanceCheck (rack : Fin 48) (s : State) : exec (.imbalanceCheck rack) s =
    .next ((s.setRackP rack ((s.rackP rack).judged (s.imbalance rack) s.clk.now)).wr (Reg.RK_IMBV rack) (wordOf ((s.imbalance rack).map (·.1)))) := rfl

theorem imbalanceCheck_spec (rack : Fin 48) (s : State) : ∃ t, exec (.imbalanceCheck rack) s = .next t ∧
    t.rackP rack = (s.rackP rack).judged (s.imbalance rack) s.clk.now ∧ t.rd (Reg.RK_IMBV rack) = wordOf ((s.imbalance rack).map (·.1)) ∧
      Changes [.prt] [Reg.RK_IMBV rack] s t :=
  ⟨_, exec_imbalanceCheck rack s, State.setRackP_rackP _ _ _, State.rd_wr_self _ _ _, (Changes.refl _ _ s).setRackP.wr⟩

/-! ### What the arbitration leaves alone -/

/-- A step that changes no word outside the actuators' own. -/
def State.ActsOnly (s t : State) : Prop := ∀ a, eventWord a = false → 0x77F0000 ≤ a → t.rd a = s.rd a

theorem State.ActsOnly.refl (s : State) : s.ActsOnly s := fun _ _ _ => rfl

section combinators

theorem State.ActsOnly.set (h : s.ActsOnly t) {f : Fld} {v : Nat} (hf : f.addr < 0x77F0000) : s.ActsOnly (t.set f v) :=
  fun a he ha => (State.rd_set_ne _ _ _ _ (by omega)).trans (h a he ha)

theorem State.ActsOnly.count (h : s.ActsOnly t) {c : Nat} (hc : c < 0x77F0000) : s.ActsOnly (t.count c) :=
  fun a he ha => (State.rd_count _ _ _ (by omega)).trans (h a he ha)

theorem State.ActsOnly.raise (h : s.ActsOnly t) {f : Fld} {o : Nat} {l : List Nat} {x : Bool} (hc : eventCode f < 1024) (hf : f.addr + 4 < 0x77F0000) :
    s.ActsOnly (t.raise f o l x) := fun a he ha => (State.raise_rd _ _ _ _ _ _ hc he (by omega) (by omega)).trans (h a he ha)

theorem State.ActsOnly.acts (h : s.ActsOnly t) {x : Acts} : s.ActsOnly { t with acts := x } := h

theorem State.ActsOnly.setSol (h : s.ActsOnly t) {k : Nat} {x : Sol} : s.ActsOnly (t.setSol k x) := h

theorem State.ActsOnly.foldl {α : Type} {f : State → α → State} {l : List α} (h : s.ActsOnly t) (hf : ∀ u, s.ActsOnly u → ∀ x ∈ l, s.ActsOnly (f u x)) :
    s.ActsOnly (l.foldl f t) :=
  List.foldlRecOn l f (motive := fun t => s.ActsOnly t) h (fun u hu x hx => hf u hu x hx)

/-- A field of a channel's word. -/
theorem State.ActsOnly.setStat (h : s.ActsOnly t) {k lo n v : Nat} (hk : k < 64) : s.ActsOnly (t.set ⟨Reg.SOL_STAT k, lo, n⟩ v) :=
  h.set (by simp only [Reg.SOL_STAT]; omega)

theorem State.ActsOnly.setSlot (h : s.ActsOnly t) {k v : Nat} (hk : k < 64) : s.ActsOnly (t.set (Fd.BANK_STAT_SLOT (k / 8)) v) :=
  h.set (by simp only [Fd.BANK_STAT_SLOT, Reg.BANK_STAT]; omega)

theorem State.ActsOnly.switchOff (h : s.ActsOnly t) {k p : Nat} {m : Option SolReq} (hk : k < 64) : s.ActsOnly (t.switchOff k p m) := by
  rw [t.switchOff_eq k p m _ rfl]
  exact (h.setSol.setSlot hk).setStat hk

theorem lt_of_mem_bank {b k : Nat} (h : k ∈ bankChannels b) (hb : b < 8) : k < 64 := by
  have := mem_bankChannels.mp h
  omega

theorem State.ActsOnly.yieldSlot (h : s.ActsOnly t) {b : Nat} (hb : b < 8) : s.ActsOnly (t.yieldSlot b) := by
  unfold State.yieldSlot
  split
  · exact h
  · next k hk =>
    split
    · exact h.setSol.switchOff (lt_of_mem_bank (List.mem_of_find?_eq_some hk) hb)
    · exact h

theorem State.ActsOnly.startPull (h : s.ActsOnly t) {k : Nat} {r : SolReq} (hk : k < 64) : s.ActsOnly (t.startPull k r) := by
  unfold State.startPull
  split
  · exact h.setStat hk
  · exact ((h.setSol.setStat hk).setSlot hk).setStat hk

theorem State.ActsOnly.beginPull (h : s.ActsOnly t) {n : Nat} : s.ActsOnly (t.beginPull n) := by
  unfold State.beginPull
  dsimp only
  split
  · exact h.acts
  · refine ((State.ActsOnly.set (State.ActsOnly.foldl ?_ (fun u hu f hf => hu.set ?_)) (by decide)).count (by decide)).raise (by decide) (by decide)
    · exact h.acts.acts
    · have := List.mem_range.mp (List.mem_filter.mp hf).1
      simp only [Fd.FAN_STAT_PULLBACK, Reg.FAN_STAT]
      omega

theorem State.ActsOnly.admitReq {x : State × Nat × Nat} (h : s.ActsOnly x.1) {c : Nat × SolReq} (hc : c.1 < 64) :
    s.ActsOnly (State.admitReq x c).1 := by
  unfold State.admitReq
  dsimp only
  generalize (if c.2.op = 4 then 50 else x.1.fld (Fd.SOL_CFG_I_PEAK c.1)) = i
  generalize (if c.2.safety = true then 0 else 10 * x.1.fld Fd.ACT_GOV_RESERVE) = n
  split
  · exact h
  · split
    · exact h.startPull hc
    · split
      · exact (h.startPull hc).beginPull
      · exact h

theorem State.ActsOnly.acceptReq (h : s.ActsOnly t) {k op : Nat} {safety : Bool} (hk : k < 64) : s.ActsOnly (t.acceptReq k op safety) := by
  have hh : s.ActsOnly (t.holdReq k op safety) := fun a he ha => by
    refine Eq.trans ?_ (h a he ha)
    unfold State.holdReq
    simp -implicitDefEqProofs (disch := omega) [State.setB, Fd.SOL_STAT_CLASS, Reg.SOL_STAT, Reg.SOL_SEQ, Reg.ACT_REQ_SEQ]
  rw [State.acceptReq_eq]
  split
  · exact hh
  · exact hh.setStat hk

theorem State.ActsOnly.submit (h : s.ActsOnly t) {k op : Nat} {safety : Bool} (hk : k < 64) : s.ActsOnly (t.submit k op safety) := by
  have hres : ∀ {u : State} {r : Nat}, s.ActsOnly u → s.ActsOnly (u.solResult k r) := fun hu => hu.setStat hk
  unfold State.submit
  split
  · dsimp only
    split
    · exact ((hres h).setStat hk).acts
    · exact (hres h).setStat hk
  · split
    · split
      · split
        · exact h
        · exact hres h
      · split
        · refine State.ActsOnly.acceptReq (hres ?_) hk
          split
          · exact h.setSol.switchOff hk
          · exact h.setSol
        · exact hres h
    · split
      · exact h.acceptReq hk
      · split
        · exact hres h
        · split
          · exact hres h
          · exact h.acceptReq hk

end combinators

/-- The first waiting request of a bank is of one of its channels. -/
theorem State.bankFirst_mem (s : State) {b : Nat} {c : Nat × SolReq} (h : s.bankFirst b = some c) : c.1 ∈ bankChannels b := by
  unfold State.bankFirst at h
  split at h
  · cases h
  · revert h
    refine List.foldlRecOn (motive := fun (m : Option (Nat × SolReq)) => m = some c → c.1 ∈ bankChannels b) _ _ (fun h => by cases h)
      (fun m hm k hk => ?_)
    split
    · split
      · exact hm
      · intro h
        cases h
        exact hk
    · intro h
      cases h
      exact hk
    · exact hm

theorem State.ActsOnly.arbitrateSol (h : s.ActsOnly t) : s.ActsOnly t.arbitrateSol := by
  unfold State.arbitrateSol
  dsimp only
  generalize hy : (List.range 8).foldl (fun s b => s.yieldSlot b) t = y
  have h1 : s.ActsOnly y := hy ▸ h.foldl (fun u hu b hb => hu.yieldSlot (List.mem_range.mp hb))
  generalize hl : sortBy (fun (a b : Nat × SolReq) => reqBefore a.2 b.2) ((List.range 8).filterMap y.bankFirst) = l
  have hl' : ∀ c ∈ l, c.1 < 64 := fun c hc => by
    rw [← hl, mem_sortBy] at hc
    obtain ⟨b, hb, hbc⟩ := List.mem_filterMap.mp hc
    exact lt_of_mem_bank (y.bankFirst_mem hbc) (List.mem_range.mp hb)
  have h2 : ∀ x : State × Nat × Nat, s.ActsOnly x.1 → s.ActsOnly (l.foldl State.admitReq x).1 := fun x hx =>
    List.foldlRecOn _ _ (motive := fun z : State × Nat × Nat => s.ActsOnly z.1) hx (fun z hz c hc => hz.admitReq (hl' c hc))
  refine (h2 (y, y.fanDraw + y.solDraw, y.solDraw) h1).foldl (fun u hu k _ => ?_)
  split
  · split
    · exact hu
    · exact hu.setSol.count (by decide)
  · exact hu

/-! ### Starts of leak sequences -/

/-- The inputs of a rack (48: of the loop level) that are confirmed wet and have not been told. -/
def State.newWet (s : State) (r : Nat) : List Nat := (s.wetGuards r).filter (fun i => !(s.leakIn i).told)

/-- Whether a rack's imbalance has stood long enough and has not been told. -/
def State.newImbalance (s : State) (r : Nat) : Bool := s.since (s.rackP r).above s.imbPersist && !(s.rackP r).imbTold

/-- Inputs told. -/
def State.tellWet (s : State) (l : List Nat) : State := l.foldl (fun (s : State) i => s.setLeakIn i { s.leakIn i with told := true }) s

/-- A rack's imbalance told. -/
def State.tellImbalance (s : State) (r : Nat) (imb : Bool) : State := if imb then s.setRackP r { s.rackP r with imbTold := true } else s

theorem State.tellWet_eq (s : State) (l : List Nat) : ∃ x, s.tellWet l = { s with prt := { s.prt with leak := x } } := by
  induction l generalizing s with
  | nil => exact ⟨_, rfl⟩
  | cons i l ih =>
    obtain ⟨x, e⟩ := ih (s.setLeakIn i { s.leakIn i with told := true })
    exact ⟨x, e⟩

/-- Of a rack's part, telling its imbalance touches that mark alone. -/
theorem State.tellImbalance_eq (s : State) (r : Nat) (imb : Bool) : ∃ x, s.tellImbalance r imb = { s with prt := { s.prt with rack := x } } ∧
    ((s.tellImbalance r imb).rackP r).leakAt = (s.rackP r).leakAt ∧ ∀ j ∈ x.map (·.1), j = r ∨ j ∈ s.prt.rack.map (·.1) := by
  unfold State.tellImbalance
  split
  · refine ⟨_, rfl, ?_, fun j hj => ?_⟩
    · rw [State.setRackP_rackP]
    · obtain ⟨⟨_, y⟩, hm, rfl⟩ := List.mem_map.mp hj
      exact (Tab.mem_put hm).imp id (fun h => List.mem_map.mpr ⟨_, h, rfl⟩)
  · exact ⟨_, rfl, rfl, fun j hj => Or.inr hj⟩

theorem exec_leak (rack : Fin 48) (s : State) : exec (.leak rack) s = .next (
    if (s.newWet rack).isEmpty ∧ ¬ s.newImbalance rack then s
    else ((((s.tellWet (s.newWet rack)).tellImbalance rack (s.newImbalance rack)).startLeak rack seqLeak (s.newWet rack) (s.newImbalance rack)).settle)) := rfl

/-- What a leak's start and the outputs that follow it show. -/
theorem State.startLeak_settled (s : State) {r b : Nat} (inputs : List Nat) (imb : Bool) (hr : r < 48) (hb : b < 10) :
    (s.startLeak r b inputs imb).settle.rackActive r b = true ∧ bitOf ((s.startLeak r b inputs imb).settle.fld (Fd.RK_ACT_ACK_REQ r)) b = true ∧
      (s.startLeak r b inputs imb).settle.rd Reg.PRT_CNT_LEAK = satCount (s.rd Reg.PRT_CNT_LEAK) 1 := by
  obtain ⟨-, h1, h2, h3⟩ := s.startLeak_spec (b := b) inputs imb hr hb
  generalize s.startLeak r b inputs imb = v at *
  have h := State.settle_rises (ws := []) v
  exact ⟨h.act r hr b h1, h.ack r hr b h2, (h.words _ (by decide) (by decide) List.not_mem_nil).trans h3⟩

/-- A LEAK starts on a new wet input or a new standing imbalance. -/
theorem leak_starts (rack : Fin 48) (h : s.newWet rack ≠ [] ∨ s.newImbalance rack = true) :
    ∃ u : State, (∃ x y, u = { s with prt := { s.prt with leak := x, rack := y } } ∧ ∀ j ∈ y.map (·.1), j = rack.val ∨ j ∈ s.prt.rack.map (·.1)) ∧
      exec (.leak rack) s = .next (u.startLeak rack seqLeak (s.newWet rack) (s.newImbalance rack)).settle := by
  obtain ⟨x, e1⟩ := s.tellWet_eq (s.newWet rack)
  obtain ⟨y, e2, -, hy⟩ := (s.tellWet (s.newWet rack)).tellImbalance_eq rack (s.newImbalance rack)
  refine ⟨_, ⟨x, y, ?_, fun j hj => ?_⟩, (exec_leak rack s).trans (congrArg _ (if_neg ?_))⟩
  · rw [e2, e1]
  · rw [e1] at hy
    exact hy j hj
  · rintro ⟨he, hi⟩
    rcases h with h | h
    · exact h (List.isEmpty_iff.mp he)
    · exact hi h

theorem leak_wet (rack : Fin 48) (h : (s.wetGuards rack).any (fun i => !(s.leakIn i).told) = true) :
    ∃ t, exec (.leak rack) s = .next t ∧ t.rackActive rack seqLeak = true ∧ bitOf (t.fld (Fd.RK_ACT_ACK_REQ rack)) seqLeak = true ∧
      t.rd Reg.PRT_CNT_LEAK = satCount (s.rd Reg.PRT_CNT_LEAK) 1 := by
  obtain ⟨i, hi, ht⟩ := List.any_eq_true.mp h
  obtain ⟨u, ⟨x, y, hu, -⟩, e⟩ := leak_starts rack (Or.inl (List.ne_nil_of_mem (List.mem_filter.mpr ⟨hi, ht⟩)))
  obtain ⟨h1, h2, h3⟩ := u.startLeak_settled (b := seqLeak) (s.newWet rack) (s.newImbalance rack) rack.isLt (by decide)
  refine ⟨_, e, h1, h2, h3.trans ?_⟩
  rw [hu]
  rfl

theorem leak_none (rack : Fin 48) (h : (s.wetGuards rack).all (fun i => (s.leakIn i).told) = true)
    (hi : s.since (s.rackP rack).above s.imbPersist = false ∨ (s.rackP rack).imbTold = true) : ∃ t, exec (.leak rack) s = .next t ∧ t = s := by
  refine ⟨s, (exec_leak rack s).trans (congrArg _ (if_pos ⟨?_, ?_⟩)), rfl⟩
  · refine List.isEmpty_iff.mpr (List.filter_eq_nil_iff.mpr (fun i hi => ?_))
    rw [List.all_eq_true.mp h i hi]
    decide
  · unfold State.newImbalance
    rcases hi with hi | hi <;> simp [hi]

theorem State.enterIfFirst_state (s : State) (hd : s.drives = true) (h8 : s.opState ≠ 8) : (s.enterIfFirst true).opState = 7 := by
  have h : s.enterIfFirst true = s.enterProtective 7 0 := by
    unfold State.enterIfFirst
    rw [hd]
    exact if_pos (by decide)
  rw [h]
  exact (s.enterProtective_state 0 (Or.inl rfl)).trans (if_neg (fun h => h8 h.1))

/-- A rack with a start's bits set and its clear time forgotten. -/
def State.beginRack (s : State) (r b : Nat) : State :=
  (s.startBits (Reg.RK_ACT r) 10 b).setRackP r { (s.startBits (Reg.RK_ACT r) 10 b).rackP r with
    clear := ((s.startBits (Reg.RK_ACT r) 10 b).rackP r).clear.del b }

theorem State.startRack_begin (s : State) (r b : Nat) (ev : Fld) :
    s.startRack r b ev = ((s.beginRack r b).enterIfFirst (decide (b < 8) && !s.anySequence)).tellStart ev 0 r b := State.startRack_eq s r b ev

theorem State.beginRack_rises (s : State) {r b : Nat} (hr : r < 48) (hb : b < 10) : State.Rises ws s (s.beginRack r b) :=
  (State.startBits_rack s hr hb).trans (.of_prt _ (State.PrtSame.setRackP _ _ _ _ _))

theorem State.beginRack_opState (s : State) (r b : Nat) : (s.beginRack r b).opState = s.opState := by
  have h : (s.beginRack r b).rd Reg.SYS_STATE = s.rd Reg.SYS_STATE := by
    unfold State.beginRack
    rw [State.setRackP_rd]
    exact s.startBits_rd (by simp only [Reg.SYS_STATE, Reg.RK_ACT]; omega)
  exact State.fld_congr (f := Fd.SYS_STATE_STATE) h

/-- The record of a start leaves the state. -/
theorem State.tellStart_opState (s : State) {lo : Nat} (what i b : Nat) (hl : lo < 32) : (s.tellStart ⟨Reg.PRT_EVT, lo, 1⟩ what i b).opState = s.opState :=
  State.tellStart_fld _ _ _ _ _ Fd.SYS_STATE_STATE (eventCode_lt (by decide) hl) (by decide) (show Reg.SYS_STATE ≠ Reg.PRT_EVT by decide)
    (show Reg.SYS_STATE ≠ Reg.PRT_EVT + 4 by decide)

/-- The first sequence to start takes a module that drives its outputs to PROTECT, unless it is in FULLCOOL. -/
theorem State.startRack_state (s : State) {r b : Nat} (lo : Nat) (hr : r < 48) (hl : lo < 32) (hb : b < 8) (hd : s.drives = true)
    (ha : s.anySequence = false) (h8 : s.opState ≠ 8) : (s.startRack r b ⟨Reg.PRT_EVT, lo, 1⟩).opState = 7 := by
  rw [State.startRack_begin, ha, decide_eq_true hb, State.tellStart_opState _ _ _ _ hl]
  have h := State.beginRack_rises (ws := []) s hr (Nat.lt_trans hb (by decide))
  exact State.enterIfFirst_state _ (h.drives hd) (by rw [s.beginRack_opState r b]; exact h8)

theorem State.startLeak_state (s : State) {r b : Nat} (inputs : List Nat) (imb : Bool) (hr : r < 48) (hb : b < 8) (hd : s.drives = true)
    (ha : s.anySequence = false) (h8 : s.opState ≠ 8) : (s.startLeak r b inputs imb).settle.opState = 7 := by
  have hn : (s.noteLeak r inputs imb).anySequence = false := by
    refine Bool.eq_false_iff.mpr (fun h => ?_)
    rw [State.anySequence_of (s := s.noteLeak r inputs imb) (t := s) rfl (fun _ => rfl) (fun j hj => ?_) h] at ha
    · cases ha
    · obtain ⟨⟨_, y⟩, hm, rfl⟩ := List.mem_map.mp hj
      exact (Tab.mem_put hm).imp (fun e => lt_of_eq_of_lt e hr) (fun h => List.mem_map.mpr ⟨_, h, rfl⟩)
  have h := (s.noteLeak r inputs imb).startRack_state (b := b) 0 hr (by decide) hb hd hn h8
  refine (State.settle_fld _ Fd.SYS_STATE_STATE (by decide) (by decide)).trans ?_
  rw [State.startLeak_eq]
  change ((s.noteLeak r inputs imb).startRack r b Fd.PRT_EVT_LEAK).opState = 7 at h
  generalize (s.noteLeak r inputs imb).startRack r b Fd.PRT_EVT_LEAK = v at *
  exact (State.fld_congr (State.rd_count _ _ _ (by decide))).trans h

/-- A rack that no leak stood on takes the time of the one that starts. -/
theorem State.startLeak_leakAt (s : State) {r b : Nat} (inputs : List Nat) (imb : Bool) (hr : r < 48) (hb : b < 10)
    (h1 : s.rackActive r seqLeak = false) (h2 : s.rackActive r seqLeakFast = false) :
    ((s.startLeak r b inputs imb).settle.rackP r).leakAt = some s.clk.now := by
  obtain ⟨h, -, -, -⟩ := s.startLeak_spec (b := b) inputs imb hr hb
  obtain ⟨_, _, _, e⟩ := (h.prt.trans (s.startLeak r b inputs imb).settle_prtSame).2 r
  have hn : ((s.noteLeak r inputs imb).rackP r).leakAt = some s.clk.now := by
    unfold State.noteLeak
    rw [State.setRackP_rackP, h1, h2]
    rfl
  rw [e]
  exact hn

theorem leak_imbalance (rack : Fin 48) (hs : s.since (s.rackP rack).above s.imbPersist = true) (hi : (s.rackP rack).imbTold = false)
    (h1 : s.rackActive rack seqLeak = false) (h2 : s.rackActive rack seqLeakFast = false) :
    ∃ t, exec (.leak rack) s = .next t ∧ t.rackActive rack seqLeak = true ∧ bitOf (t.fld (Fd.RK_ACT_ACK_REQ rack)) seqLeak = true ∧
      t.rd Reg.PRT_CNT_LEAK = satCount (s.rd Reg.PRT_CNT_LEAK) 1 ∧ (t.rackP rack).leakAt = some s.clk.now ∧
      (s.drives = true → s.anySequence = false → s.opState ≠ 7 → s.opState ≠ 8 → t.opState = 7) := by
  have him : s.newImbalance rack = true := by
    unfold State.newImbalance
    rw [hs, hi]
    rfl
  obtain ⟨u, ⟨x, y, hu, hk⟩, e⟩ := leak_starts rack (Or.inr him)
  have hrd : ∀ a, u.rd a = s.rd a := by
    intro a
    rw [hu]
    rfl
  obtain ⟨k1, k2, k3⟩ := u.startLeak_settled (b := seqLeak) (s.newWet rack) (s.newImbalance rack) rack.isLt (by decide)
  have hclk : u.clk = s.clk := by rw [hu]
  refine ⟨_, e, k1, k2, k3.trans (by rw [hrd]), ?_, fun hd ha _ h8 => ?_⟩
  · have hf : ∀ b, u.rackActive rack b = s.rackActive rack b := fun b => congrArg (bitOf · b) (State.fld_congr (hrd _))
    rw [← hclk]
    exact u.startLeak_leakAt _ _ rack.isLt (by decide) ((hf _).trans h1) ((hf _).trans h2)
  · refine u.startLeak_state _ _ rack.isLt (by decide) ((State.drives_of (State.isActive_of (hrd _)) (State.laneDrives_of (hrd _)) (State.fld_congr (hrd _))).trans hd) ?_
      (fun h => h8 ((State.fld_congr (hrd _)).symm.trans h))
    refine Bool.eq_false_iff.mpr (fun h => ?_)
    rw [State.anySequence_of (s := u) (t := s) (State.fld_congr (hrd _).symm) (fun _ => State.fld_congr (hrd _).symm) (fun j hj => ?_) h] at ha
    · cases ha
    · rw [hu] at hj
      exact (hk j hj).imp (fun h => lt_of_eq_of_lt h rack.isLt) id

/-! ### LEAK_FAST and the isolation request -/

/-- The isolation request of a rack touches the actuators' words, and of protection's part that rack's mark alone. -/
theorem State.askIsolation_spec (s : State) {r : Nat} (always : Bool) (hr : r < 48) :
    s.ActsOnly (s.askIsolation r always) ∧ (s.askIsolation r always).prt = (s.setRackP r { s.rackP r with asked := true }).prt := by
  unfold State.askIsolation
  dsimp only
  split
  · exact ⟨State.ActsOnly.refl s, rfl⟩
  · exact ⟨State.ActsOnly.submit (t := s.setRackP r { s.rackP r with asked := true }) (State.ActsOnly.refl s) (by omega),
      (State.submit_keeps (F := 50348032) rfl (Keeps.refl _ _)).prt.resolve_left (by decide)⟩

theorem State.arbitrateSol_prt (s : State) : s.arbitrateSol.prt = s.prt :=
  (State.arbitrateSol_keeps (F := 50348032) rfl (Keeps.refl _ s)).prt.resolve_left (by decide)

theorem exec_leakFast (rack : Fin 48) (s : State) : exec (.leakFast rack) s = .next (
    if ((s.wetGuards rack).filter (fun i => decide (48 ≤ i))).isEmpty ∨ (s.rackP rack).above.isNone ∨ (s.rackP rack).fastTold then s
    else (let v := (s.setRackP rack { s.rackP rack with fastTold := true }).startLeak rack seqLeakFast ((s.wetGuards rack).filter (fun i => decide (48 ≤ i))) true
      if v.drives then ((v.askIsolation rack false).arbitrateSol).isoResults else v.settle)) := rfl

theorem leakFast_none (rack : Fin 48)
    (h : (s.wetGuards rack).all (fun i => decide (i < 48)) = true ∨ (s.rackP rack).above = none ∨ (s.rackP rack).fastTold = true) :
    ∃ t, exec (.leakFast rack) s = .next t ∧ t = s := by
  refine ⟨s, (exec_leakFast rack s).trans (congrArg _ (if_pos ?_)), rfl⟩
  rcases h with h | h | h
  · refine Or.inl (List.isEmpty_iff.mpr (List.filter_eq_nil_iff.mpr (fun i hi => ?_)))
    have := of_decide_eq_true (List.all_eq_true.mp h i hi)
    simp only [decide_eq_true_eq]
    omega
  · exact Or.inr (Or.inl (by rw [h]; rfl))
  · exact Or.inr (Or.inr h)

theorem leakFast_starts (rack : Fin 48) (hw : (s.wetGuards rack).any (fun i => decide (48 ≤ i)) = true) (ha : (s.rackP rack).above.isSome = true)
    (hf : (s.rackP rack).fastTold = false) :
    ∃ t, exec (.leakFast rack) s = .next t ∧ t.rackActive rack seqLeakFast = true ∧ bitOf (t.fld (Fd.RK_ACT_ACK_REQ rack)) seqLeakFast = true ∧
      t.rd Reg.PRT_CNT_LEAK = satCount (s.rd Reg.PRT_CNT_LEAK) 1 ∧ (s.drives = true → (t.rackP rack).asked = true) := by
  have hne : ¬ (((s.wetGuards rack).filter (fun i => decide (48 ≤ i))).isEmpty = true ∨ (s.rackP rack).above.isNone = true ∨ (s.rackP rack).fastTold = true) := by
    obtain ⟨i, hi, h48⟩ := List.any_eq_true.mp hw
    rintro (h | h | h)
    · exact List.ne_nil_of_mem (List.mem_filter.mpr ⟨hi, h48⟩) (List.isEmpty_iff.mp h)
    · rw [Option.isNone_iff_eq_none.mp h] at ha
      cases ha
    · rw [hf] at h
      cases h
  have hd : (s.setRackP rack { s.rackP rack with fastTold := true }).drives = s.drives := rfl
  have hc : (s.setRackP rack { s.rackP rack with fastTold := true }).rd Reg.PRT_CNT_LEAK = s.rd Reg.PRT_CNT_LEAK := rfl
  have he := (exec_leakFast rack s).trans (congrArg _ (if_neg hne))
  generalize (s.wetGuards rack).filter (fun i => decide (48 ≤ i)) = l at *
  generalize s.setRackP rack { s.rackP rack with fastTold := true } = u at *
  obtain ⟨h0, h1, h2, h3⟩ := u.startLeak_spec (b := seqLeakFast) l true rack.isLt (by decide)
  obtain ⟨g1, g2, g3⟩ := u.startLeak_settled (b := seqLeakFast) l true rack.isLt (by decide)
  have hnd : (u.noteLeak rack l true).drives = u.drives := rfl
  generalize u.noteLeak rack l true = n at *
  generalize u.startLeak rack seqLeakFast l true = v at *
  refine ⟨_, he, ?_⟩
  dsimp only
  split
  · next hv =>
    obtain ⟨k1, k2⟩ := v.askIsolation_spec false rack.isLt
    have k3 := k1.arbitrateSol
    have k4 := (v.askIsolation rack false).arbitrateSol_prt
    generalize (v.askIsolation rack false).arbitrateSol = w at *
    have h := State.isoResults_rises (ws := []) w
    have hact : w.rd (Reg.RK_ACT rack) = v.rd (Reg.RK_ACT rack) := k3 _ (quiet_act rack.isLt) (by simp only [Reg.RK_ACT]; omega)
    refine ⟨h.act _ rack.isLt _ ?_, h.ack _ rack.isLt _ ?_, ?_, fun _ => ?_⟩
    · exact (congrArg (bitOf · _) (State.fld_congr (f := Fd.RK_ACT_ACTIVE rack) hact)).trans h1
    · exact (congrArg (bitOf · _) (State.fld_congr (f := Fd.RK_ACT_ACK_REQ rack) hact)).trans h2
    · rw [h.words _ (by decide) (by decide) List.not_mem_nil, k3 _ (by decide) (by decide), h3, hc]
    · obtain ⟨_, _, _, e⟩ := h.prt.2 rack
      rw [e, State.rackP_of (k4.trans k2), State.setRackP_rackP]
  · next hv =>
    refine ⟨g1, g2, g3.trans (by rw [hc]), fun h => absurd (h0.drives (hnd.trans (hd.trans h))) hv⟩

/-! ### GFAULT, the end of LEAK_WAIT and a standing isolation -/

theorem exec_gfault (rack : Fin 48) (s : State) : exec (.gfault rack) s = .next (
    if s.rackFaulted rack ∧ ¬ (s.rackP rack).gfTold then
      (((s.setRackP rack { s.rackP rack with gfTold := true }).startRack rack seqGfault Fd.PRT_EVT_GFAULT).count Reg.PRT_CNT_GFAULT).settle
    else s) := rfl

theorem gfault_none (rack : Fin 48) (h : s.rackFaulted rack = false ∨ (s.rackP rack).gfTold = true) : ∃ t, exec (.gfault rack) s = .next t ∧ t = s := by
  refine ⟨s, (exec_gfault rack s).trans (congrArg _ (if_neg ?_)), rfl⟩
  rintro ⟨h1, h2⟩
  rcases h with h | h
  · rw [h] at h1
    cases h1
  · exact h2 h

/-- A rack's sequence that starts and is counted, through the outputs. -/
theorem State.startRack_counted (s : State) {r b lo c : Nat} (hr : r < 48) (hb : b < 10) (hl : lo < 32)
    (hc : (guardWord c = false ∧ c ≠ Reg.PAI_STAT ∧ c ≠ Reg.LOP_STAT) ∧ eventWord c = false) :
    State.Rises [c] s ((s.startRack r b ⟨Reg.PRT_EVT, lo, 1⟩).count c).settle ∧
      ((s.startRack r b ⟨Reg.PRT_EVT, lo, 1⟩).count c).settle.rackActive r b = true ∧
      bitOf (((s.startRack r b ⟨Reg.PRT_EVT, lo, 1⟩).count c).settle.fld (Fd.RK_ACT_ACK_REQ r)) b = true ∧
      ((s.startRack r b ⟨Reg.PRT_EVT, lo, 1⟩).count c).settle.rd c = satCount (s.rd c) 1 := by
  have h1 := State.startRack_rises (ws := []) s (b := b) lo hr hb hl
  obtain ⟨ha, hk⟩ := s.startRack_on (b := b) lo hr hb hl
  generalize s.startRack r b ⟨Reg.PRT_EVT, lo, 1⟩ = v at *
  have h2 := State.count_rises v c hc.1
  have hcnt : (v.count c).rd c = satCount (s.rd c) 1 := by rw [State.rd_count_same, h1.words _ hc.2 hc.1.1 List.not_mem_nil]
  generalize v.count c = w at *
  have h3 := State.settle_rises (ws := []) w
  exact ⟨((h1.mono (fun _ h => absurd h List.not_mem_nil)).trans h2).trans (h3.mono (fun _ h => absurd h List.not_mem_nil)),
    h3.act r hr b (h2.act r hr b ha), h3.ack r hr b (h2.ack r hr b hk), (h3.words _ hc.2 hc.1.1 List.not_mem_nil).trans hcnt⟩

/-- A loop-level sequence that starts and is counted, through the outputs. -/
theorem State.startLoop_counted (s : State) {b lo c : Nat} (hb : b < 8) (hl : lo < 32)
    (hc : (guardWord c = false ∧ c ≠ Reg.PAI_STAT ∧ c ≠ Reg.LOP_STAT) ∧ eventWord c = false) :
    State.Rises [c] s ((s.startLoop b ⟨Reg.PRT_EVT, lo, 1⟩).count c).settle ∧
      ((s.startLoop b ⟨Reg.PRT_EVT, lo, 1⟩).count c).settle.loopActive b = true ∧
      bitOf (((s.startLoop b ⟨Reg.PRT_EVT, lo, 1⟩).count c).settle.fld Fd.PRT_LOOPSTAT_ACK_REQ) b = true ∧
      ((s.startLoop b ⟨Reg.PRT_EVT, lo, 1⟩).count c).settle.rd c = satCount (s.rd c) 1 := by
  have h1 := State.startLoop_rises (ws := []) s (b := b) lo hb hl
  obtain ⟨ha, hk⟩ := s.startLoop_on (b := b) lo hb hl
  generalize s.startLoop b ⟨Reg.PRT_EVT, lo, 1⟩ = v at *
  have h2 := State.count_rises v c hc.1
  have hcnt : (v.count c).rd c = satCount (s.rd c) 1 := by rw [State.rd_count_same, h1.words _ hc.2 hc.1.1 List.not_mem_nil]
  generalize v.count c = w at *
  have h3 := State.settle_rises (ws := []) w
  exact ⟨((h1.mono (fun _ h => absurd h List.not_mem_nil)).trans h2).trans (h3.mono (fun _ h => absurd h List.not_mem_nil)),
    h3.loop b (h2.loop b ha), h3.loopAck b (h2.loopAck b hk), (h3.words _ hc.2 hc.1.1 List.not_mem_nil).trans hcnt⟩

theorem gfault_starts (rack : Fin 48) (hf : s.rackFaulted rack = true) (ht : (s.rackP rack).gfTold = false) :
    ∃ t, exec (.gfault rack) s = .next t ∧ t.rackActive rack seqGfault = true ∧ bitOf (t.fld (Fd.RK_ACT_ACK_REQ rack)) seqGfault = true ∧
      t.rd Reg.PRT_CNT_GFAULT = satCount (s.rd Reg.PRT_CNT_GFAULT) 1 := by
  have hc : (s.setRackP rack { s.rackP rack with gfTold := true }).rd Reg.PRT_CNT_GFAULT = s.rd Reg.PRT_CNT_GFAULT := rfl
  have he := (exec_gfault rack s).trans (congrArg _ (if_pos ⟨hf, by simp [ht]⟩))
  generalize s.setRackP rack { s.rackP rack with gfTold := true } = u at *
  obtain ⟨-, h1, h2, h3⟩ := u.startRack_counted (b := seqGfault) (lo := 1) (c := Reg.PRT_CNT_GFAULT) rack.isLt (by decide) (by decide) (by decide)
  exact ⟨_, he, h1, h2, h3.trans (by rw [hc])⟩

theorem exec_leakWaitExpiry (rack : Fin 48) (s : State) : exec (.leakWaitExpiry rack) s = .next (
    if s.drives ∧ s.rackActive rack seqLeak ∧ ¬ (s.rackP rack).asked ∧ s.since (s.rackP rack).leakAt (msTicks (s.fld Fd.PRT_ISO_CFG_LEAK_WAIT)) then
      (s.askIsolation rack (s.rackP rack).force).isoResults
    else s) := rfl

theorem leakWaitExpiry_none (rack : Fin 48) (h : s.drives = false ∨ s.rackActive rack seqLeak = false ∨ (s.rackP rack).asked = true ∨
    s.since (s.rackP rack).leakAt (msTicks (s.fld Fd.PRT_ISO_CFG_LEAK_WAIT)) = false) : ∃ t, exec (.leakWaitExpiry rack) s = .next t ∧ t = s := by
  refine ⟨s, (exec_leakWaitExpiry rack s).trans (congrArg _ (if_neg ?_)), rfl⟩
  rintro ⟨h1, h2, h3, h4⟩
  rcases h with h | h | h | h
  · rw [h] at h1; cases h1
  · rw [h] at h2; cases h2
  · exact h3 h
  · rw [h] at h4; cases h4

/-- A request's sequence and record, whatever its channel does. -/
theorem State.acceptReq_req (s : State) {k op : Nat} (safety : Bool) :
    (s.acceptReq k op safety).rd (Reg.SOL_SEQ k) = s.rd Reg.ACT_REQ_SEQ + 1 ∧
      ((s.acceptReq k op safety).sol k).req = some ⟨op, safety, (s.rd Reg.ACT_REQ_SEQ + 1).toNat, s.clk.now, 0, none, false⟩ := by
  have hreq : ((s.holdReq k op safety).sol k).req = some ⟨op, safety, s.nextReq % 2 ^ 32, s.clk.now, 0, none, false⟩ := by
    unfold State.holdReq
    dsimp only
    rw [State.setSol_sol, State.setB_clk, State.wr_clk, State.wr_clk]
  have hsol : (s.holdReq k op safety).rd (Reg.SOL_SEQ k) = BitVec.ofNat 32 s.nextReq := by
    unfold State.holdReq
    simp -implicitDefEqProofs (disch := omega) [State.setB, Fd.SOL_STAT_CLASS, Reg.SOL_STAT, Reg.SOL_SEQ, Reg.ACT_REQ_SEQ]
  rw [State.acceptReq_eq, ← State.nextReq_mod, ← State.nextReq_word]
  split
  · exact ⟨hsol, hreq⟩
  · exact ⟨(State.rd_set _ _ _ _ _ _ (by simp only [Reg.SOL_SEQ, Reg.SOL_STAT]; omega)).trans hsol, (congrArg Sol.req (State.set_sol _ _ _ _)).trans hreq⟩

/-- A safety request of a channel without one, in a bank that is not cut, is accepted. -/
theorem State.submit_safety {k op : Nat} (hb : s.bankCut (k / 8) = false) (hr : (s.sol k).req = none) :
    s.submit k op true = s.acceptReq k op true := by
  unfold State.submit
  rw [if_neg (by simp [hb]), hr]
  rfl

/-- A rack marked as asked to isolate. -/
def State.markAsked (s : State) (r : Nat) : State := s.setRackP r { s.rackP r with asked := true }

theorem State.askIsolation_auto {r : Nat} {always : Bool} (hi : s.isolated r = false) (ha : s.on Fd.PRT_CTRL_ISO_AUTO = true) :
    s.askIsolation r always = (s.markAsked r).submit r 1 true := by
  have h : ¬ ((s.markAsked r).isolated r = true ∨ ¬ (always = true ∨ (s.markAsked r).on Fd.PRT_CTRL_ISO_AUTO = true)) := by
    rintro (h | h)
    · have h' : s.isolated r = true := h
      rw [hi] at h'
      cases h'
    · exact h (Or.inr ha)
  exact if_neg h

theorem leakWaitExpiry_asks (rack : Fin 48) (hd : s.drives = true) (hl : s.rackActive rack seqLeak = true) (ha : (s.rackP rack).asked = false)
    (hs : s.since (s.rackP rack).leakAt (msTicks (s.fld Fd.PRT_ISO_CFG_LEAK_WAIT)) = true) (hauto : s.on Fd.PRT_CTRL_ISO_AUTO = true)
    (hi : s.isolated rack = false) (hb : s.bankCut (rack / 8) = false) (hr : (s.sol rack).req = none) :
    ∃ t, exec (.leakWaitExpiry rack) s = .next t ∧ (t.rackP rack).asked = true ∧
      (t.sol rack).req = some ⟨1, true, (s.rd Reg.ACT_REQ_SEQ + 1).toNat, s.clk.now, 0, none, false⟩ ∧ t.rd (Reg.SOL_SEQ rack) = s.rd Reg.ACT_REQ_SEQ + 1 := by
  have he := (exec_leakWaitExpiry rack s).trans (congrArg _ (if_pos ⟨hd, hl, by simp [ha], hs⟩))
  obtain ⟨-, hp⟩ := s.askIsolation_spec (s.rackP rack).force rack.isLt
  have hsub : s.askIsolation rack (s.rackP rack).force = (s.markAsked rack).acceptReq rack 1 true :=
    (State.askIsolation_auto hi hauto).trans (State.submit_safety hb hr)
  obtain ⟨h1, h2⟩ := (s.markAsked rack).acceptReq_req (k := rack) (op := 1) true
  rw [← hsub] at h1 h2
  generalize s.askIsolation rack (s.rackP rack).force = v at *
  refine ⟨_, he, ?_, ?_, ?_⟩
  · obtain ⟨_, _, _, e⟩ := (State.isoResults_rises (ws := []) v).prt.2 rack
    rw [e, State.rackP_of hp, State.setRackP_rackP]
  · rw [State.sol_congr (s := v) (by rw [State.isoResults_acts])]
    exact h2
  · rw [State.isoResults_actRd _ _ (by simp only [Reg.SOL_SEQ]; omega) (by simp only [Reg.SOL_SEQ]; omega)]
    exact h1

theorem exec_isoTrip (rack : Fin 48) (s : State) : exec (.isoTrip rack) s = .next (
    if s.isolated rack ∧ ¬ (s.rackP rack).isoTrip ∧ s.since (s.rackP rack).closedAt (sTicks (s.fld Fd.PRT_ISO_CFG_ISO_TRIP_S)) then
      (s.setRackP rack { s.rackP rack with isoTrip := true }).settle
    else s) := rfl

theorem isoTrip_none (rack : Fin 48) (h : s.isolated rack = false ∨ (s.rackP rack).isoTrip = true ∨
    s.since (s.rackP rack).closedAt (sTicks (s.fld Fd.PRT_ISO_CFG_ISO_TRIP_S)) = false) : ∃ t, exec (.isoTrip rack) s = .next t ∧ t = s := by
  refine ⟨s, (exec_isoTrip rack s).trans (congrArg _ (if_neg ?_)), rfl⟩
  rintro ⟨h1, h2, h3⟩
  rcases h with h | h | h
  · rw [h] at h1; cases h1
  · exact h2 h
  · rw [h] at h3; cases h3

/-- A key put into a table is one of its keys. -/
theorem Tab.put_key {α : Type} (t : Tab α) (n : Nat) (x : α) : n ∈ (t.put n x).map (·.1) := by
  induction t with
  | nil => exact List.mem_cons_self
  | cons p t ih =>
    obtain ⟨k, v⟩ := p
    rw [Tab.put]
    split
    · exact List.mem_cons_self
    · split
      · exact List.mem_cons_self
      · exact List.mem_cons_of_mem _ ih

theorem isoTrip_trips (rack : Fin 48) (hi : s.isolated rack = true) (ht : (s.rackP rack).isoTrip = false)
    (hs : s.since (s.rackP rack).closedAt (sTicks (s.fld Fd.PRT_ISO_CFG_ISO_TRIP_S)) = true) (hd : s.drives = true) :
    ∃ t, exec (.isoTrip rack) s = .next t ∧ (t.rackP rack).isoTrip = true ∧ t.on (Fd.RK_OUT_TRIP rack) = true := by
  have he := (exec_isoTrip rack s).trans (congrArg _ (if_pos ⟨hi, by simp [ht], hs⟩))
  have h1 : (s.setRackP rack { s.rackP rack with isoTrip := true }).isolated rack = true := hi
  have h2 : ((s.setRackP rack { s.rackP rack with isoTrip := true }).rackP rack).isoTrip = true := by rw [State.setRackP_rackP]
  have h3 : (s.setRackP rack { s.rackP rack with isoTrip := true }).drives = true := hd
  have h4 : rack.val ∈ (s.setRackP rack { s.rackP rack with isoTrip := true }).prt.rack.map (·.1) := Tab.put_key _ _ _
  generalize s.setRackP rack { s.rackP rack with isoTrip := true } = u at *
  refine ⟨_, he, (u.settle_prtSame.isoTrip rack).trans h2, u.settle_trip rack.isLt h3 (Or.inr h4) ?_⟩
  unfold State.tripHeld
  rw [h1, h2, Bool.and_true, Bool.or_true]

/-! ### The loop level -/

theorem exec_loopLeak (s : State) : exec .loopLeak s = .next (
    if (s.newWet 48).isEmpty then s
    else (let u := s.tellWet (s.newWet 48)
      let old := if u.loopActive 5 then u.prt.loopInputs else []
      (({ u with prt := { u.prt with loopInputs := old ++ (s.newWet 48).filter (fun i => !old.contains i) } } : State).startLoop 5 Fd.PRT_EVT_LEAK).settle)) := rfl

theorem loopLeak_none (h : (s.wetGuards 48).all (fun i => (s.leakIn i).told) = true) : ∃ t, exec .loopLeak s = .next t ∧ t = s := by
  refine ⟨s, (exec_loopLeak s).trans (congrArg _ (if_pos (List.isEmpty_iff.mpr (List.filter_eq_nil_iff.mpr (fun i hi => ?_))))), rfl⟩
  rw [List.all_eq_true.mp h i hi]
  decide

/-- The inputs of a loop-level leak with new ones among them. -/
theorem append_new_ne_nil {old l : List Nat} (hl : l ≠ []) : old ++ l.filter (fun i => !old.contains i) ≠ [] := by
  intro h
  obtain ⟨h1, h2⟩ := List.append_eq_nil_iff.mp h
  obtain ⟨i, hi⟩ := List.exists_mem_of_ne_nil l hl
  refine absurd (List.filter_eq_nil_iff.mp h2 i hi) ?_
  rw [h1]
  simp

theorem State.PrtSame.loopInputs (h : s.PrtSame t) : t.prt.loopInputs = s.prt.loopInputs := by
  obtain ⟨⟨_, _, _, _, _, _, e⟩, -⟩ := h
  rw [e]

theorem State.PrtSame.gfTold (h : s.PrtSame t) : t.prt.gfTold = s.prt.gfTold := by
  obtain ⟨⟨_, _, _, _, _, _, e⟩, -⟩ := h
  rw [e]

theorem loopLeak_starts (h : (s.wetGuards 48).any (fun i => !(s.leakIn i).told) = true) :
    ∃ t, exec .loopLeak s = .next t ∧ t.loopActive 5 = true ∧ bitOf (t.fld Fd.PRT_LOOPSTAT_ACK_REQ) 5 = true ∧ t.prt.loopInputs ≠ [] := by
  obtain ⟨i, hi, ht⟩ := List.any_eq_true.mp h
  have hne : s.newWet 48 ≠ [] := List.ne_nil_of_mem (List.mem_filter.mpr ⟨hi, ht⟩)
  have he := (exec_loopLeak s).trans (congrArg _ (if_neg (fun h => hne (List.isEmpty_iff.mp h))))
  dsimp only at he
  generalize s.newWet 48 = l at *
  generalize s.tellWet l = u at *
  generalize (if u.loopActive 5 = true then u.prt.loopInputs else []) = old at *
  have hin : ({ u with prt := { u.prt with loopInputs := old ++ l.filter (fun i => !old.contains i) } } : State).prt.loopInputs ≠ [] := append_new_ne_nil hne
  generalize ({ u with prt := { u.prt with loopInputs := old ++ l.filter (fun i => !old.contains i) } } : State) = v at *
  have h1 := State.startLoop_rises (ws := []) v (b := 5) 0 (by decide) (by decide)
  obtain ⟨ha, hk⟩ := v.startLoop_on (b := 5) 0 (by decide) (by decide)
  change State.Rises [] v (v.startLoop 5 Fd.PRT_EVT_LEAK) at h1
  change (v.startLoop 5 Fd.PRT_EVT_LEAK).loopActive 5 = true at ha
  change bitOf ((v.startLoop 5 Fd.PRT_EVT_LEAK).fld Fd.PRT_LOOPSTAT_ACK_REQ) 5 = true at hk
  generalize v.startLoop 5 Fd.PRT_EVT_LEAK = w at *
  have h2 := State.settle_rises (ws := []) w
  exact ⟨_, he, h2.loop 5 ha, h2.loopAck 5 hk, by rw [(h1.trans h2).prt.loopInputs]; exact hin⟩

theorem exec_loopGfault (s : State) : exec .loopGfault s = .next (
    if s.loopFaulted ∧ ¬ s.prt.gfTold then
      ((({ s with prt := { s.prt with gfTold := true } } : State).startLoop 6 Fd.PRT_EVT_GFAULT).count Reg.PRT_CNT_GFAULT).settle
    else s) := rfl

theorem loopGfault_none (h : s.loopFaulted = false ∨ s.prt.gfTold = true) : ∃ t, exec .loopGfault s = .next t ∧ t = s := by
  refine ⟨s, (exec_loopGfault s).trans (congrArg _ (if_neg ?_)), rfl⟩
  rintro ⟨h1, h2⟩
  rcases h with h | h
  · rw [h] at h1; cases h1
  · exact h2 h

theorem loopGfault_starts (hf : s.loopFaulted = true) (ht : s.prt.gfTold = false) :
    ∃ t, exec .loopGfault s = .next t ∧ t.loopActive 6 = true ∧ bitOf (t.fld Fd.PRT_LOOPSTAT_ACK_REQ) 6 = true ∧ t.prt.gfTold = true ∧
      t.rd Reg.PRT_CNT_GFAULT = satCount (s.rd Reg.PRT_CNT_GFAULT) 1 := by
  have he := (exec_loopGfault s).trans (congrArg _ (if_pos ⟨hf, by simp [ht]⟩))
  have hc : ({ s with prt := { s.prt with gfTold := true } } : State).rd Reg.PRT_CNT_GFAULT = s.rd Reg.PRT_CNT_GFAULT := rfl
  have hg : ({ s with prt := { s.prt with gfTold := true } } : State).prt.gfTold = true := rfl
  generalize ({ s with prt := { s.prt with gfTold := true } } : State) = u at *
  obtain ⟨h0, h1, h2, h3⟩ := u.startLoop_counted (b := 6) (lo := 1) (c := Reg.PRT_CNT_GFAULT) (by decide) (by decide) (by decide)
  exact ⟨_, he, h1, h2, h0.prt.gfTold.trans hg, h3.trans (by rw [hc])⟩

theorem imbalanceCheck_above (rack : Fin 48) {i thr : Int} (hm : s.imbalance rack = some (i, thr)) (hi : thr < i) (ha : (s.rackP rack).above = none)
    (h0 : 0 ≤ thr) : ∃ t, exec (.imbalanceCheck rack) s = .next t ∧ (t.rackP rack).above = some s.clk.now ∧ (t.rackP rack).reversed = none ∧
      t.rd (Reg.RK_IMBV rack) = wordOf (some i) ∧ Changes [.prt] [Reg.RK_IMBV rack] s t := by
  obtain ⟨t, e, hp, hw, hc⟩ := imbalanceCheck_spec rack s
  have h1 : decide (thr < i) = true := decide_eq_true hi
  have h2 : decide (i < -thr) = false := decide_eq_false (by omega)
  rw [hm] at hp hw
  refine ⟨t, e, ?_, ?_, hw, hc⟩
  · rw [hp]
    unfold RackP.judged
    simp only [Option.any_some, h1, if_true, ha]
    rfl
  · rw [hp]
    unfold RackP.judged
    simp only [Option.any_some, h2, Bool.false_eq_true, if_false]

theorem imbalanceCheck_shown (rack : Fin 48) (s : State) : ∃ t, exec (.imbalanceCheck rack) s = .next t ∧
    t.rd (Reg.RK_IMBV rack) = wordOf ((s.imbalance rack).map (·.1)) ∧
      (s.imbalance rack = none → (t.rackP rack).above = none ∧ (t.rackP rack).reversed = none ∧ (t.rackP rack).imbTold = false) ∧
      Changes [.prt] [Reg.RK_IMBV rack] s t := by
  obtain ⟨t, e, hp, hw, hc⟩ := imbalanceCheck_spec rack s
  refine ⟨t, e, hw, fun hm => ?_, hc⟩
  rw [hp, hm]
  unfold RackP.judged
  simp

/-- Settles O35: a measurement by the word it writes (`leakWord`), the starts by what they leave standing (`State.Rises`), and the isolation
request by the words that the actuators keep to themselves (`State.ActsOnly`). -/
theorem leakSequencesStart : Obligations.LeakSequencesStart := by
  unfold Obligations.LeakSequencesStart
  exact ⟨fun i r _ hl hc h1 h2 => leakMeasurement_first i r hl hc h1 h2, fun i r _ hl hc hb hn => leakMeasurement_wet i r hl hc hb hn,
    fun _ hl => leakMeasurement_none hl, fun rack _ _ _ hm hi ha h0 => imbalanceCheck_above rack hm hi ha h0, imbalanceCheck_shown,
    fun rack _ h => leak_wet rack h, fun rack _ h hi => leak_none rack h hi, fun rack _ h => leakFast_none rack h, fun rack _ h => gfault_none rack h,
    fun rack _ h => leakWaitExpiry_none rack h, fun rack _ h => isoTrip_none rack h, fun _ h => loopLeak_none h, fun _ h => loopGfault_none h,
    fun rack _ hs hi h1 h2 => leak_imbalance rack hs hi h1 h2, fun rack _ hw ha hf => leakFast_starts rack hw ha hf,
    fun rack _ hf ht => gfault_starts rack hf ht, fun rack _ hd hl ha hs hauto hi hb hr => leakWaitExpiry_asks rack hd hl ha hs hauto hi hb hr,
    fun rack _ hi ht hs hd => isoTrip_trips rack hi ht hs hd, fun _ h => loopLeak_starts h, fun _ hf ht => loopGfault_starts hf ht⟩
end Sys2Proof.Machine
end

section
-- In order: the one text holds more declarations than asynchronous elaboration has threads for.
set_option Elab.async false

/-! PROOFS. Flow loss, die limits and limit entries (R140, R373 to R384): a sample and an evaluation of the flow, the digest and its loss, and the
starts of DIE_HARD, of the limit sequences and of the supply's. -/

namespace Sys2Proof.Machine

variable {ps : List Part} {ws : List Nat} {s t u v : State}

/-! ### Words of racks and entries -/

theorem quiet_flowsrc (r : Fin 48) : eventWord (Reg.RK_FLOWSRC r) = false ∧ guardWord (Reg.RK_FLOWSRC r) = false := by
  revert r
  decide

theorem quiet_limStat (e : Fin 32) : eventWord (Reg.LIM_STAT e) = false ∧ guardWord (Reg.LIM_STAT e) = false := by
  revert e
  decide

/-! ### The flow of racks -/

/-- The racks whose supply flow has a source, in order. -/
def State.flowRacks (s : State) : List Nat :=
  sortBy (fun a b => decide (a ≤ b)) ((s.listed (Reg.RK_FLOWSRC 0) 0x40 48).filter (fun r => s.fld (Fd.RK_FLOWSRC_SUP_KIND r) != 0))

/-- Where no listed rack has a source, none has. -/
theorem State.supKind_zero (h : (s.listed (Reg.RK_FLOWSRC 0) 0x40 48).all (fun r => s.fld (Fd.RK_FLOWSRC_SUP_KIND r) == 0) = true) (r : Fin 48) :
    s.fld (Fd.RK_FLOWSRC_SUP_KIND r) = 0 := by
  by_contra hn
  have hne : s.rd (Reg.RK_FLOWSRC r) ≠ resetWord (Reg.RK_FLOWSRC r) := by
    intro e
    refine hn ?_
    rw [State.fld, show (Fd.RK_FLOWSRC_SUP_KIND r).addr = Reg.RK_FLOWSRC r from rfl, e, resetWord_flowsrc r]
    exact fieldOf_zero _ _
  have hm := s.mem_listed (base := Reg.RK_FLOWSRC 0) (stride := 0x40) (n := 48) (a := Reg.RK_FLOWSRC r) (by simp only [Reg.RK_FLOWSRC]; omega)
    (by simp only [Reg.RK_FLOWSRC]; omega) hne
  rw [show (Reg.RK_FLOWSRC r - Reg.RK_FLOWSRC 0) / 0x40 = r.val by simp only [Reg.RK_FLOWSRC]; omega] at hm
  exact hn (beq_iff_eq.mp (List.all_eq_true.mp h _ hm))

theorem State.flowRacks_nil (h : ∀ r : Fin 48, s.fld (Fd.RK_FLOWSRC_SUP_KIND r) = 0) : s.flowRacks = [] := by
  unfold State.flowRacks
  rw [List.filter_eq_nil_iff.mpr (fun r hr => ?_)]
  · rfl
  · rw [h ⟨r, State.lt_of_mem_listed hr⟩]
    decide

/-! ### FLOW_SUDDEN -/

/-- Whether the loop's flow has fallen suddenly. -/
def State.flowFell (s : State) : Bool :=
  (s.rd Reg.PRT_QNOM).toNat != 0 && s.fld Fd.PRT_FLOW_SRC_KIND != 0 && s.fellSudden s.prt.flow (s.rd Reg.PRT_QNOM).toNat

/-- The fall of the flow noted. -/
def State.noteFall (s : State) (b : Bool) : State := { s with prt := { s.prt with sudTold := b } }

theorem exec_flowSample (s : State) : exec .flowSample10ms s = .next (
    (if s.flowFell ∧ ¬ s.prt.sudTold then (s.noteFall s.flowFell).startSudden.watchLost else s.noteFall s.flowFell).flowRacks.foldl
      (fun (s : State) r => s.judgeRflow r) (if s.flowFell ∧ ¬ s.prt.sudTold then (s.noteFall s.flowFell).startSudden.watchLost else s.noteFall s.flowFell)) := rfl

/-- A group needs a standby pump: one of its DUTY pumps has no substitution in force. -/
def State.groupNeeds (s : State) (g : Nat) : Bool :=
  (List.range 8).any (fun p => s.fld (Fd.PMP_CFG_ROLE p) == 0 && s.fld (Fd.PMP_CFG_GROUP p) == g && !s.on (Fd.PMP_STAT_SUBST_VALID p))

/-- The standby pumps that a sudden loss of flow starts. -/
def State.standbys (s : State) : State :=
  if s.drives then (List.range 4).foldl (fun (s : State) g => if s.groupNeeds g then s.standbyStart g 8 else s) s else s

theorem State.startSudden_eq (s : State) : s.startSudden =
    (let w := ((s.startLoop 1 Fd.PRT_EVT_FLOW_SUDDEN).count Reg.PRT_CNT_FLOW).standbys
     if w.on Fd.PRT_CTRL_FC_SUDDEN then ({ w with prt := { w.prt with sudFc := true } } : State).enterFullcool true else w.settle) := rfl

theorem State.ActsOnly.setPump (h : s.ActsOnly t) {p : Nat} {x : Pump} : s.ActsOnly (t.setPump p x) := h

theorem State.ActsOnly.startPump (h : s.ActsOnly t) {p : Nat} {safety : Bool} (hp : p < 8) : s.ActsOnly (t.startPump p safety) := by
  unfold State.startPump
  refine ((State.ActsOnly.set (State.ActsOnly.setPump h) ?_).set ?_).set ?_
  all_goals
    simp only [Fd.PMP_STAT_STATE, Fd.PMP_STAT_CAUSE, Fd.PMP_DEM_DEMAND, Reg.PMP_STAT, Reg.PMP_DEM]
    omega

/-- A standby pump's start touches the actuators' words, and no part of protection. -/
theorem State.standbyStart_actsOnly (h : s.ActsOnly t) (g skip : Nat) : s.ActsOnly (t.standbyStart g skip) := by
  unfold State.standbyStart
  split
  · exact h
  · next c hc =>
    have hc8 : c < 8 := List.mem_range.mp (List.mem_of_find?_eq_some hc)
    exact State.ActsOnly.raise (State.ActsOnly.startPump (State.ActsOnly.setPump h) hc8) (by decide) (by decide)

theorem State.standbys_actsOnly (s : State) : s.ActsOnly s.standbys := by
  unfold State.standbys
  split
  · refine (State.ActsOnly.refl s).foldl (fun u hu g _ => ?_)
    split
    · exact State.standbyStart_actsOnly hu g 8
    · exact hu
  · exact .refl s

theorem State.standbys_prt (s : State) : s.standbys.prt = s.prt := by
  unfold State.standbys
  split
  · refine foldl_keep (f := fun (s : State) g => if s.groupNeeds g then s.standbyStart g 8 else s) (fun s => s.prt) (fun u g => ?_) _ _
    split
    · exact (State.standbyStart_keeps (F := 50348032) rfl (Keeps.refl _ u)).prt.resolve_left (by decide)
    · rfl
  · rfl

/-- The loop level with a start's bits set and its clear time forgotten. -/
def State.beginLoop (s : State) (b : Nat) : State :=
  { s.startBits Reg.PRT_LOOPSTAT 8 b with prt := { (s.startBits Reg.PRT_LOOPSTAT 8 b).prt with clear := (s.startBits Reg.PRT_LOOPSTAT 8 b).prt.clear.del b } }

theorem State.startLoop_begin (s : State) (b : Nat) (ev : Fld) :
    s.startLoop b ev = ((s.beginLoop b).enterIfFirst (decide (b < 7) && !s.anySequence)).tellStart ev 1 0 b := State.startLoop_eq s b ev

theorem State.beginLoop_rd (s : State) (b a : Nat) : (s.beginLoop b).rd a = (s.startBits Reg.PRT_LOOPSTAT 8 b).rd a := by
  unfold State.beginLoop State.rd
  rfl

/-- The words that the start of a loop-level sequence leaves beside its bits. -/
theorem State.startLoop_rd (s : State) (b lo a : Nat) (hl : lo < 32) (he : eventWord a = false) (h2 : a ≠ Reg.SYS_STATE)
    (h3 : a ≠ Reg.PRT_EVT) (h4 : a ≠ Reg.PRT_EVT + 4) :
    (s.startLoop b ⟨Reg.PRT_EVT, lo, 1⟩).rd a = (s.startBits Reg.PRT_LOOPSTAT 8 b).rd a := by
  rw [State.startLoop_begin, ← State.beginLoop_rd]
  generalize s.beginLoop b = v
  exact (State.tellStart_rd _ _ _ _ _ _ (eventCode_lt (by decide) hl) he h3 h4).trans (State.enterIfFirst_rd _ _ _ he h2)

/-- The loop level's starts after one of them. -/
theorem State.startLoop_act (s : State) {b m : Nat} (lo : Nat) (hl : lo < 32) (hb : b < 8) :
    (s.startLoop b ⟨Reg.PRT_EVT, lo, 1⟩).loopActive m = (s.loopActive m || decide (m = b)) :=
  (congrArg (bitOf · m) (State.fld_congr (f := Fd.PRT_LOOPSTAT_ACTIVE)
    (s.startLoop_rd b lo Reg.PRT_LOOPSTAT hl (by decide) (by decide) (by decide) (by decide)))).trans (s.startBits_act (by decide) hb)

/-- FLOW_SUDDEN without FULLCOOL: active, unacknowledged and counted, with no other loop-level sequence, and what it leaves. -/
theorem State.startSudden_spec (s : State) (hf : s.on Fd.PRT_CTRL_FC_SUDDEN = false) (h4 : s.loopActive 4 = false) :
    s.startSudden.loopActive 1 = true ∧ bitOf (s.startSudden.fld Fd.PRT_LOOPSTAT_ACK_REQ) 1 = true ∧
      s.startSudden.rd Reg.PRT_CNT_FLOW = satCount (s.rd Reg.PRT_CNT_FLOW) 1 ∧ s.startSudden.loopActive 4 = false ∧
      s.startSudden.prt.sudTold = s.prt.sudTold ∧ ∀ r : Fin 48, s.startSudden.rd (Reg.RK_FLOWSRC r) = s.rd (Reg.RK_FLOWSRC r) := by
  have r1 := State.startLoop_rises (ws := []) s (b := 1) 6 (by decide) (by decide)
  obtain ⟨a1, k1⟩ := s.startLoop_on (b := 1) 6 (by decide) (by decide)
  have b4 := s.startLoop_act (b := 1) (m := 4) 6 (by decide) (by decide)
  rw [h4] at b4
  rw [State.startSudden_eq]
  change State.Rises [] s (s.startLoop 1 Fd.PRT_EVT_FLOW_SUDDEN) at r1
  change (s.startLoop 1 Fd.PRT_EVT_FLOW_SUDDEN).loopActive 1 = true at a1
  change bitOf ((s.startLoop 1 Fd.PRT_EVT_FLOW_SUDDEN).fld Fd.PRT_LOOPSTAT_ACK_REQ) 1 = true at k1
  change (s.startLoop 1 Fd.PRT_EVT_FLOW_SUDDEN).loopActive 4 = _ at b4
  generalize s.startLoop 1 Fd.PRT_EVT_FLOW_SUDDEN = v at *
  have r2 := (r1.mono (vs := [Reg.PRT_CNT_FLOW]) (fun _ h => absurd h List.not_mem_nil)).trans (State.count_rises v Reg.PRT_CNT_FLOW)
  have c2 : (v.count Reg.PRT_CNT_FLOW).rd Reg.PRT_CNT_FLOW = satCount (s.rd Reg.PRT_CNT_FLOW) 1 := by
    rw [State.rd_count_same, r1.words _ (by decide) (by decide) List.not_mem_nil]
  have l2 : (v.count Reg.PRT_CNT_FLOW).rd Reg.PRT_LOOPSTAT = v.rd Reg.PRT_LOOPSTAT := State.rd_count _ _ _ (by decide)
  generalize v.count Reg.PRT_CNT_FLOW = w at *
  have hx := w.standbys_actsOnly
  have px := w.standbys_prt
  generalize w.standbys = x at *
  have hfc : x.on Fd.PRT_CTRL_FC_SUDDEN = false := (congrArg (· == 1) (State.fld_congr ((hx Reg.PRT_CTRL (by decide) (by decide)).trans
    (r2.words _ (by decide) (by decide) (by decide))))).trans hf
  have hl : x.rd Reg.PRT_LOOPSTAT = v.rd Reg.PRT_LOOPSTAT := (hx _ (by decide) (by decide)).trans l2
  dsimp only
  rw [hfc, if_neg (by decide)]
  have h := State.settle_rises (ws := []) x
  refine ⟨h.loop 1 ?_, h.loopAck 1 ?_, ?_, ?_, ?_, fun r => ?_⟩
  · exact (congrArg (bitOf · 1) (State.fld_congr (f := Fd.PRT_LOOPSTAT_ACTIVE) hl)).trans a1
  · exact (congrArg (bitOf · 1) (State.fld_congr (f := Fd.PRT_LOOPSTAT_ACK_REQ) hl)).trans k1
  · rw [h.words _ (by decide) (by decide) List.not_mem_nil, hx _ (by decide) (by decide), c2]
  · exact (congrArg (bitOf · 4) ((State.settle_fld _ Fd.PRT_LOOPSTAT_ACTIVE (by decide) (by decide)).trans (State.fld_congr hl))).trans b4
  · obtain ⟨_, _, _, _, _, _, e⟩ := h.prt.1
    obtain ⟨_, _, _, _, _, _, e2⟩ := r2.prt.1
    rw [e, px, e2]
  · have hr := quiet_flowsrc r
    rw [h.words _ hr.1 hr.2 List.not_mem_nil, hx _ hr.1 (by simp only [Reg.RK_FLOWSRC]; omega), r2.words _ hr.1 hr.2 (by
      simp only [List.mem_singleton, Reg.RK_FLOWSRC, Reg.PRT_CNT_FLOW]
      omega)]

theorem flowSample_falls (hq : s.rd Reg.PRT_QNOM ≠ 0) (hk : s.fld Fd.PRT_FLOW_SRC_KIND ≠ 0)
    (hs : s.fellSudden s.prt.flow (s.rd Reg.PRT_QNOM).toNat = true) (ht : s.prt.sudTold = false) (hf : s.on Fd.PRT_CTRL_FC_SUDDEN = false)
    (h4 : s.loopActive 4 = false) (hr : (s.listed (Reg.RK_FLOWSRC 0) 0x40 48).all (fun r => s.fld (Fd.RK_FLOWSRC_SUP_KIND r) == 0) = true) :
    ∃ t, exec .flowSample10ms s = .next t ∧ t.loopActive 1 = true ∧ bitOf (t.fld Fd.PRT_LOOPSTAT_ACK_REQ) 1 = true ∧
      t.rd Reg.PRT_CNT_FLOW = satCount (s.rd Reg.PRT_CNT_FLOW) 1 ∧ t.prt.sudTold = true := by
  have hq' : (s.rd Reg.PRT_QNOM).toNat ≠ 0 := fun h => hq (BitVec.eq_of_toNat_eq h)
  have hfell : s.flowFell = true := by
    unfold State.flowFell
    rw [hs, bne_iff_ne.mpr hq', bne_iff_ne.mpr hk]
    rfl
  have he := exec_flowSample s
  rw [if_pos ⟨hfell, by simp [ht]⟩, hfell] at he
  obtain ⟨h1, h2, h3, h5, h6, h7⟩ := (s.noteFall true).startSudden_spec hf h4
  have hnil : (s.noteFall true).startSudden.flowRacks = [] := State.flowRacks_nil (fun r =>
    (State.fld_congr (f := Fd.RK_FLOWSRC_SUP_KIND r) (h7 r)).trans (State.supKind_zero hr r))
  have hc : (s.noteFall true).rd Reg.PRT_CNT_FLOW = s.rd Reg.PRT_CNT_FLOW := rfl
  have ht' : (s.noteFall true).prt.sudTold = true := rfl
  generalize (s.noteFall true).startSudden = w at *
  have hw : w.watchLost = w := by
    unfold State.watchLost
    rw [h5]
    rfl
  rw [hw, hnil] at he
  exact ⟨w, he, h1, h2, h3.trans (by rw [hc]), h6.trans ht'⟩

theorem flowSample_steady (h : s.rd Reg.PRT_QNOM = 0 ∨ s.fld Fd.PRT_FLOW_SRC_KIND = 0 ∨ s.fellSudden s.prt.flow (s.rd Reg.PRT_QNOM).toNat = false)
    (hr : (s.listed (Reg.RK_FLOWSRC 0) 0x40 48).all (fun r => s.fld (Fd.RK_FLOWSRC_SUP_KIND r) == 0) = true) :
    ∃ t, exec .flowSample10ms s = .next t ∧ t.prt = { s.prt with sudTold := false } ∧ Only [.prt] s t := by
  have hfell : s.flowFell = false := by
    unfold State.flowFell
    rcases h with h | h | h
    · rw [h]
      rfl
    · rw [h]
      simp
    · rw [h, Bool.and_false]
  have hnil : (s.noteFall false).flowRacks = [] := State.flowRacks_nil (fun r => State.supKind_zero hr r)
  have he := exec_flowSample s
  rw [if_neg (by simp [hfell]), hfell, hnil] at he
  exact ⟨_, he, rfl, (Keeps.upd_prt (F := 32768) rfl (Keeps.refl _ s)).only _ (fun p => by cases p <;> decide)⟩

/-! ### FLOW_EVAL -/

/-- The state with the mean of the last 100 ms taken. -/
def State.takeQ (s : State) : State := { s with prt := { s.prt with qs := (s.prt.flow.mean 0 100 :: s.prt.qs).take 100 } }

/-- The mean of the last 100 ms as its register shows it. -/
def State.qWord (s : State) : Word := match s.prt.flow.mean 0 100 with | some x => BitVec.ofInt 32 x | none => 0xFFFFFFFF

/-- Whether a slope told or not is noted. -/
def State.noteSlope (s : State) (b : Bool) : State := { s with prt := { s.prt with slowTold := b } }

/-- Whether the flow is in use and its slope lies low. -/
def State.slopeTold (s : State) (sum : Int) : Bool := s.rd Reg.PRT_QNOM != 0 && s.fld Fd.PRT_FLOW_SRC_KIND != 0 && s.slopeLow sum

/-- A slope's value as its register shows it. -/
def slopeWord (sum : Int) : Word := BitVec.ofInt 32 (clampInt (-2147483647) 2147483647 (roundDiv sum 16665))

/-- The mean shown. -/
def State.showQ (s : State) : State := s.takeQ.wr Reg.PRT_Q s.qWord

/-- What follows an evaluation with a slope. -/
def State.actSlope (s : State) (l : List Int) (low was : Bool) : State :=
  let u := if low ∧ ¬ was then s.startSlow else s
  (if u.loopActive 0 then u.stepSlow (l.headD 0) (slopeSum l) else u.wr Reg.PRT_TTL 0xFFFFFFFF).settle

/-- The slope shown. -/
def State.showSlope (s : State) (l : List Int) : State := s.showQ.wr Reg.PRT_SLOPE (slopeWord (slopeSum l))

/-- Whether an evaluation finds the flow in use and its slope low. -/
def State.evalLow (s : State) (l : List Int) : Bool :=
  (s.rd Reg.PRT_QNOM != 0 && s.fld Fd.PRT_FLOW_SRC_KIND != 0) && (s.showSlope l).slopeLow (slopeSum l)

theorem exec_flowEval_none (h : s.showQ.lastQs = none) :
    exec .flowEval100ms s = .next ((s.showQ.noteSlope false).wr Reg.PRT_SLOPE 0xFFFFFFFF) := by
  change execFlowEval100ms s = _
  unfold execFlowEval100ms
  dsimp only
  split
  · rfl
  · next l hl => exact absurd (h.symm.trans hl) (by simp)

theorem exec_flowEval_some {l : List Int} (h : s.showQ.lastQs = some l) :
    exec .flowEval100ms s = .next (((s.showSlope l).noteSlope (s.evalLow l)).actSlope l (s.evalLow l) (s.showSlope l).prt.slowTold) := by
  change execFlowEval100ms s = _
  unfold execFlowEval100ms
  dsimp only
  split
  · next hl => exact absurd (h.symm.trans hl) (by simp)
  · next m hl =>
    obtain rfl : m = l := Option.some.inj (hl.symm.trans h)
    rfl

/-- What an evaluation shows stands. -/
structure State.Shown (s t : State) : Prop where
  qs : t.prt.qs = s.prt.qs
  told : t.prt.slowTold = s.prt.slowTold
  q : t.rd Reg.PRT_Q = s.rd Reg.PRT_Q
  slope : t.rd Reg.PRT_SLOPE = s.rd Reg.PRT_SLOPE

theorem State.Shown.refl (s : State) : s.Shown s := ⟨rfl, rfl, rfl, rfl⟩

theorem State.Shown.trans (h : s.Shown t) (k : t.Shown u) : s.Shown u :=
  ⟨k.qs.trans h.qs, k.told.trans h.told, k.q.trans h.q, k.slope.trans h.slope⟩

theorem State.Rises.shown (h : State.Rises ws s t) (h1 : Reg.PRT_Q ∉ ws := by decide) (h2 : Reg.PRT_SLOPE ∉ ws := by decide) : s.Shown t := by
  obtain ⟨_, _, _, _, _, _, e⟩ := h.prt.1
  exact ⟨by rw [e], by rw [e], h.words _ (by decide) (by decide) h1, h.words _ (by decide) (by decide) h2⟩

/-- A change of the boost or of the step of a slow loss. -/
theorem State.Shown.of_prt (s : State) {p : Prot} (h1 : p.qs = s.prt.qs) (h2 : p.slowTold = s.prt.slowTold) : s.Shown { s with prt := p } :=
  ⟨h1, h2, rfl, rfl⟩

theorem State.Shown.wr (s : State) {a : Nat} (v : Word) (h1 : Reg.PRT_Q ≠ a) (h2 : Reg.PRT_SLOPE ≠ a) : s.Shown (s.wr a v) :=
  ⟨congrArg Prot.qs (State.wr_prt _ _ _), congrArg Prot.slowTold (State.wr_prt _ _ _), State.rd_wr_ne _ _ _ _ h1, State.rd_wr_ne _ _ _ _ h2⟩

theorem State.startSlow_shown (s : State) : s.Shown s.startSlow := by
  unfold State.startSlow
  dsimp only
  generalize (List.range 8).filter (fun p => s.pumpState p == 3 && !s.prt.boosted.contains p) = l
  have h1 : s.Shown { s with prt := { s.prt with boosted := s.prt.boosted ++ l } } := .of_prt s rfl rfl
  generalize ({ s with prt := { s.prt with boosted := s.prt.boosted ++ l } } : State) = u at *
  have h2 := (State.startLoop_rises (ws := []) u (b := 0) 5 (by decide) (by decide)).shown
  change u.Shown (u.startLoop 0 Fd.PRT_EVT_FLOW_SLOW) at h2
  generalize u.startLoop 0 Fd.PRT_EVT_FLOW_SLOW = v at *
  exact (h1.trans h2).trans (State.count_rises v Reg.PRT_CNT_FLOW).shown

theorem State.stepSlow_shown (s : State) (q sum : Int) : s.Shown (s.stepSlow q sum) := by
  unfold State.stepSlow
  dsimp only
  have h1 : s.Shown (s.wr Reg.PRT_TTL (BitVec.ofNat 32 (s.ttlWord q sum))) := .wr s _ (by decide) (by decide)
  generalize s.wr Reg.PRT_TTL (BitVec.ofNat 32 (s.ttlWord q sum)) = u at *
  split
  · have h2 : u.Shown { u with prt := { u.prt with slowStep := u.ttlStep q sum } } := .of_prt u rfl rfl
    exact (h1.trans h2).trans (State.raise_rises (ws := []) _ 5 _ _ _ (by decide)).shown
  · exact h1

theorem State.actSlope_shown (s : State) (l : List Int) (low was : Bool) : s.Shown (s.actSlope l low was) := by
  have h1 : s.Shown (if low ∧ ¬ was then s.startSlow else s) := by
    split
    · exact s.startSlow_shown
    · exact .refl s
  unfold State.actSlope
  dsimp only
  generalize (if low = true ∧ ¬ was = true then s.startSlow else s) = u at *
  refine (h1.trans ?_).trans (State.settle_rises (ws := []) _).shown
  split
  · exact u.stepSlow_shown _ _
  · exact .wr u _ (by decide) (by decide)

/-- The list of means has none of 100 until 100 are taken. -/
theorem State.lastQs_short (h : s.prt.qs.length < 99) : s.showQ.lastQs = none := by
  unfold State.lastQs
  have hq : s.showQ.prt.qs = (s.prt.flow.mean 0 100 :: s.prt.qs).take 100 := rfl
  dsimp only
  rw [if_pos]
  rw [hq, List.length_take, List.length_take, List.length_cons]
  omega

theorem State.showQ_q (s : State) : s.showQ.rd Reg.PRT_Q = s.qWord := State.rd_wr_self _ _ _

theorem State.showSlope_rd (s : State) (l : List Int) {a : Nat} (h : a ≠ Reg.PRT_SLOPE) : (s.showSlope l).rd a = s.showQ.rd a := State.rd_wr_ne _ _ _ _ h

theorem State.showSlope_slope (s : State) (l : List Int) : (s.showSlope l).rd Reg.PRT_SLOPE = slopeWord (slopeSum l) := State.rd_wr_self _ _ _

theorem State.noteSlope_rd (s : State) (b : Bool) (a : Nat) : (s.noteSlope b).rd a = s.rd a := by
  unfold State.noteSlope State.rd
  rfl

theorem flowEval_slope {l : List Int} (h : { s with prt := { s.prt with qs := (s.prt.flow.mean 0 100 :: s.prt.qs).take 100 } }.lastQs = some l) :
    ∃ t, exec .flowEval100ms s = .next t ∧ t.prt.qs = (s.prt.flow.mean 0 100 :: s.prt.qs).take 100 ∧
      t.rd Reg.PRT_SLOPE = BitVec.ofInt 32 (clampInt (-2147483647) 2147483647 (roundDiv (slopeSum l) 16665)) ∧
      t.prt.slowTold = (decide (s.rd Reg.PRT_QNOM ≠ 0) && decide (s.fld Fd.PRT_FLOW_SRC_KIND ≠ 0) && s.slopeLow (slopeSum l)) := by
  have hs := ((s.showSlope l).noteSlope (s.evalLow l)).actSlope_shown l (s.evalLow l) (s.showSlope l).prt.slowTold
  refine ⟨_, exec_flowEval_some h, hs.qs, hs.slope.trans ?_, hs.told.trans ?_⟩
  · exact (State.noteSlope_rd _ _ _).trans (s.showSlope_slope l)
  · show s.evalLow l = _
    have hl : (s.showSlope l).slopeLow (slopeSum l) = s.slopeLow (slopeSum l) := by
      have hw : ∀ a, a ≠ Reg.PRT_SLOPE → a ≠ Reg.PRT_Q → (s.showSlope l).rd a = s.rd a := fun a h1 h2 =>
        (State.rd_wr_ne _ _ _ _ h1).trans (State.rd_wr_ne _ _ _ _ h2)
      unfold State.slopeLow
      rw [hw Reg.PRT_QNOM (by decide) (by decide), State.fld_congr (f := Fd.PRT_FLOW_CFG1_SLOW_SLOPE) (hw Reg.PRT_FLOW_CFG1 (by decide) (by decide))]
    unfold State.evalLow
    rw [hl]
    rw [Bool.eq_iff_iff]
    simp

theorem flowEval_shows (s : State) : ∃ t, exec .flowEval100ms s = .next t ∧ t.prt.qs = (s.prt.flow.mean 0 100 :: s.prt.qs).take 100 ∧
    t.rd Reg.PRT_Q = s.qWord ∧ (s.prt.qs.length < 99 → t.rd Reg.PRT_SLOPE = 0xFFFFFFFF) := by
  cases hl : s.showQ.lastQs with
  | none =>
    refine ⟨_, exec_flowEval_none hl, rfl, ?_, fun _ => State.rd_wr_self _ _ _⟩
    rw [State.rd_wr_ne _ _ _ _ (show Reg.PRT_Q ≠ Reg.PRT_SLOPE by decide), State.noteSlope_rd]
    exact s.showQ_q
  | some l =>
    have hs := ((s.showSlope l).noteSlope (s.evalLow l)).actSlope_shown l (s.evalLow l) (s.showSlope l).prt.slowTold
    refine ⟨_, exec_flowEval_some hl, hs.qs, hs.q.trans ?_, fun h => absurd (hl.symm.trans (State.lastQs_short h)) (by simp)⟩
    rw [State.noteSlope_rd, State.showSlope_rd _ _ (show Reg.PRT_Q ≠ Reg.PRT_SLOPE by decide)]
    exact s.showQ_q

/-! ### Digests -/

/-- A digest taken, to be judged at the next tick. -/
def State.takeDigest (s : State) (d : Digest) : State :=
  { s with stm := { s.stm with digest := none }, prt := { s.prt with entries := d.entries, judge := true, got := true, missed := 0 } }

theorem State.takeDigest_only (s : State) (d : Digest) : Only [.stm, .prt] s (s.takeDigest d) := by
  refine ⟨rfl, fun p hp => ?_⟩
  cases p
  case stm => exact absurd List.mem_cons_self hp
  case prt => exact absurd (List.mem_cons_of_mem _ List.mem_cons_self) hp
  all_goals rfl

theorem exec_guardDigest_some {d : Digest} (h : s.stm.digest = some d) : exec .guardDigest s = .next (s.takeDigest d) := by
  change execGuardDigest s = _
  unfold execGuardDigest
  rw [h]
  rfl

theorem exec_guardDigest_none (h : s.stm.digest = none) : exec .guardDigest s = .next s := by
  change execGuardDigest s = _
  unfold execGuardDigest
  rw [h]

theorem guardDigest_taken {d : Digest} (h : s.stm.digest = some d) : ∃ t, exec .guardDigest s = .next t ∧ t.stm.digest = none ∧
    t.prt.entries = d.entries ∧ t.prt.judge = true ∧ t.prt.missed = 0 ∧ Only [.stm, .prt] s t :=
  ⟨_, exec_guardDigest_some h, rfl, rfl, rfl, rfl, s.takeDigest_only d⟩

theorem exec_dieHard (rack : Fin 48) (s : State) : exec (.dieHard rack) s = .next (
    if (s.hardAccs rack).isEmpty ∨ s.on Fd.PRT_STAT_DIGEST_LOST then s
    else ({ s with prt := { s.prt with hardTold := s.prt.hardTold ++ s.hardAccs rack } } : State).startDieHard rack) := rfl

theorem dieHard_none (rack : Fin 48) (h : s.hardAccs rack = [] ∨ s.on Fd.PRT_STAT_DIGEST_LOST = true) : ∃ t, exec (.dieHard rack) s = .next t ∧ t = s :=
  ⟨s, (exec_dieHard rack s).trans (congrArg _ (if_pos (h.imp (fun h => by rw [h]; rfl) id))), rfl⟩

/-- DIE_HARD starts: it is active, unacknowledged and counted. -/
theorem State.startDieHard_spec (s : State) {r : Nat} (hr : r < 48) : State.Rises [Reg.PRT_CNT_LIMIT] s (s.startDieHard r) ∧
    (s.startDieHard r).rackActive r seqDieHard = true ∧ bitOf ((s.startDieHard r).fld (Fd.RK_ACT_ACK_REQ r)) seqDieHard = true ∧
      (s.startDieHard r).rd Reg.PRT_CNT_LIMIT = satCount (s.rd Reg.PRT_CNT_LIMIT) 1 :=
  s.startRack_counted (b := seqDieHard) (lo := 7) (c := Reg.PRT_CNT_LIMIT) hr (by decide) (by decide) (by decide)

theorem State.PrtSame.hardTold (h : s.PrtSame t) : t.prt.hardTold = s.prt.hardTold := by
  obtain ⟨⟨_, _, _, _, _, _, e⟩, -⟩ := h
  rw [e]

theorem dieHard_starts (rack : Fin 48) (hl : s.hardAccs rack ≠ []) (hd : s.on Fd.PRT_STAT_DIGEST_LOST = false) :
    ∃ t, exec (.dieHard rack) s = .next t ∧ t.rackActive rack seqDieHard = true ∧ bitOf (t.fld (Fd.RK_ACT_ACK_REQ rack)) seqDieHard = true ∧
      t.rd Reg.PRT_CNT_LIMIT = satCount (s.rd Reg.PRT_CNT_LIMIT) 1 ∧ t.prt.hardTold = s.prt.hardTold ++ s.hardAccs rack := by
  have he := (exec_dieHard rack s).trans (congrArg _ (if_neg (by
    rintro (h | h)
    · exact hl (List.isEmpty_iff.mp h)
    · rw [hd] at h
      cases h)))
  have hc : ({ s with prt := { s.prt with hardTold := s.prt.hardTold ++ s.hardAccs rack } } : State).rd Reg.PRT_CNT_LIMIT = s.rd Reg.PRT_CNT_LIMIT := rfl
  have ht : ({ s with prt := { s.prt with hardTold := s.prt.hardTold ++ s.hardAccs rack } } : State).prt.hardTold = s.prt.hardTold ++ s.hardAccs rack := rfl
  generalize ({ s with prt := { s.prt with hardTold := s.prt.hardTold ++ s.hardAccs rack } } : State) = u at *
  obtain ⟨h0, h1, h2, h3⟩ := u.startDieHard_spec rack.isLt
  exact ⟨_, he, h1, h2, h3.trans (by rw [hc]), h0.prt.hardTold.trans ht⟩

/-- A watched rack that has lost its die temperatures: what stood stands. -/
theorem State.watchLost_rises (s : State) : State.Rises [Reg.PRT_CNT_LIMIT] s s.watchLost := by
  unfold State.watchLost
  split
  · exact .foldl (fun u r hr => (u.startDieHard_spec (List.mem_range.mp (List.mem_filter.mp hr).1)).1) s
  · exact .refl _ s

/-- No digest is held, and none is judged. -/
def State.dropDigest (s : State) : State := { s with prt := { s.prt with entries := [], judge := false, hard := [], hardTold := [] } }

/-- The alarms of racks that a digest gives, ended. -/
def State.endDieAlarms (s : State) : State := s.racksListed.foldl (fun (s : State) r => (s.rackAlarm r 8 false).rackAlarm r 9 false) s

theorem exec_digestLost (s : State) : exec .digestLost s = .next (
    if 3 ≤ s.prt.missed ∧ ¬ s.on Fd.PRT_STAT_DIGEST_LOST then
      ((s.dropDigest.endDieAlarms.set Fd.PRT_STAT_DIGEST_LOST 1).startLoop 4 Fd.PRT_EVT_DIGEST_LOST).watchLost.settle
    else s) := rfl

theorem State.rackAlarm_off_prt (s : State) (r b : Nat) : (s.rackAlarm r b false).prt = s.prt := by
  unfold State.rackAlarm
  split
  · rfl
  · rw [if_neg (by decide)]
    exact State.set_prt _ _ _

theorem State.endDieAlarms_prt (s : State) : s.endDieAlarms.prt = s.prt :=
  foldl_keep (f := fun (s : State) r => (s.rackAlarm r 8 false).rackAlarm r 9 false) (fun s => s.prt)
    (fun u r => ((u.rackAlarm r 8 false).rackAlarm_off_prt r 9).trans (u.rackAlarm_off_prt r 8)) _ _

theorem digestLost_starts (hm : 3 ≤ s.prt.missed) (hd : s.on Fd.PRT_STAT_DIGEST_LOST = false) :
    ∃ t, exec .digestLost s = .next t ∧ t.on Fd.PRT_STAT_DIGEST_LOST = true ∧ t.loopActive 4 = true ∧ t.prt.entries = [] ∧ t.prt.hard = [] := by
  have he := (exec_digestLost s).trans (congrArg _ (if_pos ⟨hm, by simp [hd]⟩))
  have hp : s.dropDigest.endDieAlarms.prt = s.dropDigest.prt := s.dropDigest.endDieAlarms_prt
  generalize s.dropDigest.endDieAlarms = u at *
  have h1 := State.setStat_rises (ws := []) u (lo := 5) (Or.inr (Or.inr rfl))
  have o1 := u.setStat_on (lo := 5) (Or.inr (Or.inr rfl))
  change State.Rises [] u (u.set Fd.PRT_STAT_DIGEST_LOST 1) at h1
  change (u.set Fd.PRT_STAT_DIGEST_LOST 1).on Fd.PRT_STAT_DIGEST_LOST = true at o1
  generalize u.set Fd.PRT_STAT_DIGEST_LOST 1 = v at *
  have h2 := State.startLoop_rises (ws := []) v (b := 4) 9 (by decide) (by decide)
  obtain ⟨a2, -⟩ := v.startLoop_on (b := 4) 9 (by decide) (by decide)
  change State.Rises [] v (v.startLoop 4 Fd.PRT_EVT_DIGEST_LOST) at h2
  change (v.startLoop 4 Fd.PRT_EVT_DIGEST_LOST).loopActive 4 = true at a2
  generalize v.startLoop 4 Fd.PRT_EVT_DIGEST_LOST = w at *
  have h3 := w.watchLost_rises.trans (State.settle_rises _)
  obtain ⟨_, _, _, _, _, _, e⟩ := ((h1.prt.trans h2.prt).trans h3.prt).1
  refine ⟨_, he, h3.stat 5 (Or.inr (Or.inr rfl)) (h2.stat 5 (Or.inr (Or.inr rfl)) o1), h3.loop 4 a2, ?_, ?_⟩
  · rw [e, hp]
    rfl
  · rw [e, hp]
    rfl

theorem digestLost_none (h : s.prt.missed < 3 ∨ s.on Fd.PRT_STAT_DIGEST_LOST = true) : ∃ t, exec .digestLost s = .next t ∧ t = s := by
  refine ⟨s, (exec_digestLost s).trans (congrArg _ (if_neg ?_)), rfl⟩
  rintro ⟨h1, h2⟩
  rcases h with h | h
  · omega
  · exact h2 h

/-! ### Limit entries -/

/-- A limit entry that has reached HARD: shown, unacknowledged and counted. -/
def State.showHard (s : State) (e : Nat) : State := ((s.set (Fd.LIM_STAT_HARD e) 1).set (Fd.LIM_STAT_ACK_REQ e) 1).count Reg.PRT_CNT_LIMIT

/-- A limit entry whose action is held. -/
def State.holdLimit (s : State) (e : Nat) : State := s.setLimP e { s.limP e with active := true }

/-- The start of a limit's sequence on its scope. -/
def State.startLimit (s : State) (sc : Nat) : State := if sc < 48 then s.startRack sc seqLimHard Fd.PRT_EVT_LIMIT else s.startLoop 3 Fd.PRT_EVT_LIMIT

/-- An entry that holds FULLCOOL. -/
def State.holdFullcool (s : State) (e : Nat) : State :=
  { s with prt := { s.prt with limFc := e :: s.prt.limFc.filter (fun x => x != e) } }

theorem State.limHard_eq (s : State) (e : Nat) : s.limHard e =
    (if e = 0 then (((s.showHard e).holdLimit 0).startLoop 2 Fd.PRT_EVT_LIMIT).enterFullcool true
    else if (s.showHard e).fld (Fd.LIM_CFG_ACTION e) = 0 then (s.showHard e).warnStart e
    else if (s.showHard e).fld (Fd.LIM_CFG_ACTION e) = 4 then
      ((((s.showHard e).holdLimit e).startLimit (((s.showHard e).holdLimit e).fld (Fd.LIM_CFG_SCOPE e))).holdFullcool e).enterFullcool true
    else (((s.showHard e).holdLimit e).startLimit (((s.showHard e).holdLimit e).fld (Fd.LIM_CFG_SCOPE e))).settle) := rfl

/-- What an entry that has reached HARD shows. -/
structure State.HardShown (e : Fin 32) (s t : State) : Prop where
  hard : t.on (Fd.LIM_STAT_HARD e) = true
  ack : t.on (Fd.LIM_STAT_ACK_REQ e) = true
  count : t.rd Reg.PRT_CNT_LIMIT = satCount (s.rd Reg.PRT_CNT_LIMIT) 1

theorem State.HardShown.rises {e : Fin 32} (h : State.HardShown e s t) (k : State.Rises [] t u) : State.HardShown e s u := by
  have he := quiet_limStat e
  have hw : u.rd (Reg.LIM_STAT e) = t.rd (Reg.LIM_STAT e) := k.words _ he.1 he.2 List.not_mem_nil
  exact ⟨(congrArg (· == 1) (State.fld_congr (f := Fd.LIM_STAT_HARD e) hw)).trans h.hard,
    (congrArg (· == 1) (State.fld_congr (f := Fd.LIM_STAT_ACK_REQ e) hw)).trans h.ack, (k.words _ (by decide) (by decide) List.not_mem_nil).trans h.count⟩

theorem State.showHard_rd (s : State) (e a : Nat) (h1 : a ≠ Reg.LIM_STAT e) (h2 : a ≠ Reg.PRT_CNT_LIMIT) : (s.showHard e).rd a = s.rd a := by
  unfold State.showHard
  rw [State.rd_count _ _ _ h2, State.rd_set_ne _ (Fd.LIM_STAT_ACK_REQ e) _ _ h1, State.rd_set_ne _ (Fd.LIM_STAT_HARD e) _ _ h1]

theorem State.showHard_shown (s : State) (e : Fin 32) : State.HardShown e s (s.showHard e) := by
  have hne : Reg.LIM_STAT e ≠ Reg.PRT_CNT_LIMIT := by simp only [Reg.LIM_STAT, Reg.PRT_CNT_LIMIT]; omega
  have hw : (s.showHard e).rd (Reg.LIM_STAT e) = ((s.set (Fd.LIM_STAT_HARD e) 1).set (Fd.LIM_STAT_ACK_REQ e) 1).rd (Reg.LIM_STAT e) := State.rd_count _ _ _ hne
  refine ⟨beq_iff_eq.mpr ?_, beq_iff_eq.mpr ?_, ?_⟩
  · refine (State.fld_congr (f := Fd.LIM_STAT_HARD e) hw).trans ?_
    rw [State.fld_set_bits _ (Fd.LIM_STAT_ACK_REQ e) (Fd.LIM_STAT_HARD e) _ rfl (show 2 + 1 ≤ 1 ∨ 1 + 1 ≤ 2 by decide)]
    exact State.fld_set_self _ (Fd.LIM_STAT_HARD e) _ (show 1 + 1 ≤ 32 by decide)
  · exact (State.fld_congr (f := Fd.LIM_STAT_ACK_REQ e) hw).trans (State.fld_set_self _ (Fd.LIM_STAT_ACK_REQ e) _ (show 2 + 1 ≤ 32 by decide))
  · unfold State.showHard
    rw [State.rd_count_same, State.rd_set_ne _ (Fd.LIM_STAT_ACK_REQ e) _ _ (Ne.symm hne), State.rd_set_ne _ (Fd.LIM_STAT_HARD e) _ _ (Ne.symm hne)]

theorem State.HardShown.of_prt {e : Fin 32} (h : State.HardShown e s t) (p : Prot) : State.HardShown e s { t with prt := p } := ⟨h.hard, h.ack, h.count⟩

theorem State.limP_congr (h : t.prt.lim = s.prt.lim) (e : Nat) : t.limP e = s.limP e := by
  unfold State.limP
  rw [h]

theorem State.PrtSame.lim (h : s.PrtSame t) : t.prt.lim = s.prt.lim := by
  obtain ⟨⟨_, _, _, _, _, _, e⟩, -⟩ := h
  rw [e]

theorem State.holdLimit_active (s : State) (e : Nat) : ((s.holdLimit e).limP e).active = true := by
  unfold State.holdLimit
  rw [State.setLimP_limP]

theorem State.showHard_cfg (s : State) (e : Fin 32) (f : Fld) (hf : f.addr = Reg.LIM_CFG e) : (s.showHard e).fld f = s.fld f :=
  State.fld_congr (s.showHard_rd e _ (by rw [hf]; simp only [Reg.LIM_CFG, Reg.LIM_STAT]; omega)
    (by rw [hf]; simp only [Reg.LIM_CFG, Reg.PRT_CNT_LIMIT]; omega))

/-- An entry of a rack or of the loop level with an action: its sequence starts and its action is held. -/
theorem State.limHard_acts (s : State) (e : Fin 32) (h0 : e.val ≠ 0) (ha : s.fld (Fd.LIM_CFG_ACTION e) ≠ 0) :
    State.HardShown e s (s.limHard e) ∧ ((s.limHard e).limP e).active = true ∧
      (s.fld (Fd.LIM_CFG_SCOPE e) < 48 → (s.limHard e).rackActive (s.fld (Fd.LIM_CFG_SCOPE e)) seqLimHard = true) ∧
      (¬ s.fld (Fd.LIM_CFG_SCOPE e) < 48 → (s.limHard e).loopActive 3 = true) ∧
      (s.fld (Fd.LIM_CFG_ACTION e) = 4 → (s.limHard e).on Fd.PRT_STAT_FULLCOOL = true) := by
  have hs := s.showHard_shown e
  have hact : (s.showHard e).fld (Fd.LIM_CFG_ACTION e) = s.fld (Fd.LIM_CFG_ACTION e) := s.showHard_cfg e _ rfl
  have hsc : ((s.showHard e).holdLimit e).fld (Fd.LIM_CFG_SCOPE e) = s.fld (Fd.LIM_CFG_SCOPE e) := s.showHard_cfg e _ rfl
  rw [State.limHard_eq, if_neg h0, hact, if_neg ha, hsc]
  have hh : State.HardShown e s ((s.showHard e).holdLimit e) := hs.of_prt _
  have hl := (s.showHard e).holdLimit_active e
  generalize (s.showHard e).holdLimit e = v at *
  generalize s.fld (Fd.LIM_CFG_SCOPE e) = sc at *
  have hw : State.Rises [] v (v.startLimit sc) ∧ (sc < 48 → (v.startLimit sc).rackActive sc seqLimHard = true) ∧
      (¬ sc < 48 → (v.startLimit sc).loopActive 3 = true) := by
    unfold State.startLimit
    split
    · next h => exact ⟨v.startRack_rises (b := seqLimHard) 7 h (by decide) (by decide), fun _ => (v.startRack_on (b := seqLimHard) 7 h (by decide) (by decide)).1,
        fun hn => absurd h hn⟩
    · next h => exact ⟨v.startLoop_rises (b := 3) 7 (by decide) (by decide), fun hn => absurd hn h, fun _ => (v.startLoop_on (b := 3) 7 (by decide) (by decide)).1⟩
  generalize v.startLimit sc = w at *
  obtain ⟨r1, a1, l1⟩ := hw
  have h1 := hh.rises r1
  have p1 : (w.limP e).active = true := by rw [State.limP_congr r1.prt.lim]; exact hl
  split
  · next h4 =>
    have r2 := State.enterFullcool_rises (ws := []) (w.holdFullcool e) true
    have hx : State.HardShown e s (w.holdFullcool e) := h1.of_prt _
    refine ⟨hx.rises r2, ?_, fun h => r2.act sc h _ (a1 h), fun h => r2.loop 3 (l1 h), fun _ => ((w.holdFullcool e).enterFullcool_on true).1⟩
    rw [State.limP_congr r2.prt.lim]
    exact p1
  · next h4 =>
    have r2 := State.settle_rises (ws := []) w
    refine ⟨h1.rises r2, ?_, fun h => r2.act sc h _ (a1 h), fun h => r2.loop 3 (l1 h), fun h => absurd h h4⟩
    rw [State.limP_congr r2.prt.lim]
    exact p1

/-- An entry without an action warns alone. -/
theorem State.limHard_warns (s : State) (e : Fin 32) (h0 : e.val ≠ 0) (ha : s.fld (Fd.LIM_CFG_ACTION e) = 0) :
    State.HardShown e s (s.limHard e) ∧ ∀ r < 48, ∀ b, (s.limHard e).rackActive r b = s.rackActive r b := by
  have hs := s.showHard_shown e
  have hact : (s.showHard e).fld (Fd.LIM_CFG_ACTION e) = s.fld (Fd.LIM_CFG_ACTION e) := s.showHard_cfg e _ rfl
  rw [State.limHard_eq, if_neg h0, hact, if_pos ha]
  have hr : ∀ r, (s.showHard e).rd (Reg.RK_ACT r) = s.rd (Reg.RK_ACT r) := fun r => s.showHard_rd e _
    (by simp only [Reg.RK_ACT, Reg.LIM_STAT]; omega) (by simp only [Reg.RK_ACT, Reg.PRT_CNT_LIMIT]; omega)
  generalize s.showHard e = u at *
  have hset : ∀ a, a ≠ Reg.LIM_STAT e → (u.set (Fd.LIM_STAT_ACK_REQ e) 1).rd a = u.rd a := fun a h => State.rd_set_ne _ _ _ _ h
  have hu : State.HardShown e s (u.set (Fd.LIM_STAT_ACK_REQ e) 1) :=
    ⟨(congrArg (· == 1) (State.fld_set_bits u (Fd.LIM_STAT_ACK_REQ e) (Fd.LIM_STAT_HARD e) 1 rfl (show 2 + 1 ≤ 1 ∨ 1 + 1 ≤ 2 by decide))).trans hs.hard,
      beq_iff_eq.mpr (State.fld_set_self _ (Fd.LIM_STAT_ACK_REQ e) _ (show 2 + 1 ≤ 32 by decide)),
      (hset _ (by simp only [Reg.LIM_STAT, Reg.PRT_CNT_LIMIT]; omega)).trans hs.count⟩
  have hw : u.warnStart e = (u.set (Fd.LIM_STAT_ACK_REQ e) 1).startLoop 7 Fd.PRT_EVT_WARN := rfl
  rw [hw]
  have hr' : ∀ r, (u.set (Fd.LIM_STAT_ACK_REQ e) 1).rd (Reg.RK_ACT r) = s.rd (Reg.RK_ACT r) := fun r =>
    (hset _ (by simp only [Reg.RK_ACT, Reg.LIM_STAT]; omega)).trans (hr r)
  generalize u.set (Fd.LIM_STAT_ACK_REQ e) 1 = v at *
  refine ⟨hu.rises (v.startLoop_rises (b := 7) 8 (by decide) (by decide)), fun r h b => congrArg (bitOf · b) (State.fld_congr (f := Fd.RK_ACT_ACTIVE r) ?_)⟩
  have h1 := v.startLoop_rd 7 8 (Reg.RK_ACT r) (by decide) (quiet_act h) (by simp only [Reg.RK_ACT, Reg.SYS_STATE]; omega)
    (by simp only [Reg.RK_ACT, Reg.PRT_EVT]; omega) (by simp only [Reg.RK_ACT, Reg.PRT_EVT]; omega)
  exact (h1.trans (v.startBits_rd (by simp only [Reg.RK_ACT, Reg.PRT_LOOPSTAT]; omega))).trans (hr' r)

/-- The supply's entry: its sequence starts and FULLCOOL is entered. -/
theorem State.limHard_supply (s : State) : State.HardShown 0 s (s.limHard 0) ∧ (s.limHard 0).loopActive 2 = true ∧
    (s.limHard 0).on Fd.PRT_STAT_FULLCOOL = true ∧ (s.drives = true → (s.limHard 0).opState = 8) := by
  have hs : State.HardShown 0 s (s.showHard 0) := s.showHard_shown 0
  rw [State.limHard_eq, if_pos rfl]
  have hh : State.HardShown 0 s ((s.showHard 0).holdLimit 0) := hs.of_prt _
  have hw : ∀ a, a ≠ Reg.LIM_STAT 0 → a ≠ Reg.PRT_CNT_LIMIT → ((s.showHard 0).holdLimit 0).rd a = s.rd a := fun a h1 h2 => s.showHard_rd 0 a h1 h2
  generalize (s.showHard 0).holdLimit 0 = v at *
  have r1 := v.startLoop_rises (ws := []) (b := 2) 7 (by decide) (by decide)
  obtain ⟨a1, -⟩ := v.startLoop_on (b := 2) 7 (by decide) (by decide)
  change State.Rises [] v (v.startLoop 2 Fd.PRT_EVT_LIMIT) at r1
  change (v.startLoop 2 Fd.PRT_EVT_LIMIT).loopActive 2 = true at a1
  generalize v.startLoop 2 Fd.PRT_EVT_LIMIT = w at *
  have r2 := State.enterFullcool_rises (ws := []) w true
  obtain ⟨f1, -, f3⟩ := w.enterFullcool_on true
  refine ⟨(hh.rises r1).rises r2, r2.loop 2 a1, f1, fun hd => f3 (r1.drives ?_)⟩
  exact (State.drives_of (State.isActive_of (hw _ (by decide) (by decide))) (State.laneDrives_of (hw _ (by decide) (by decide)))
    (State.fld_congr (hw _ (by decide) (by decide)))).trans hd

theorem exec_limHard (e : Fin 32) (s : State) : exec (.limHard e) s = .next (
    if e.val ≠ 0 ∧ s.fld (Fd.LIM_CFG_SCOPE e) < 48 ∧ s.limHardDue e then s.limHard e else s) := rfl

theorem exec_loopLimHard (e : Fin 32) (s : State) : exec (.loopLimHard e) s = .next (
    if e.val ≠ 0 ∧ s.fld (Fd.LIM_CFG_SCOPE e) = 0xFE ∧ s.limHardDue e then s.limHard e else s) := rfl

theorem exec_supHard (s : State) : exec .supHard s = .next (if s.limHardDue 0 then s.limHard 0 else s) := rfl

theorem limHard_none (e : Fin 32) (h : e.val = 0 ∨ 48 ≤ s.fld (Fd.LIM_CFG_SCOPE e) ∨ s.limHardDue e = false) :
    ∃ t, exec (.limHard e) s = .next t ∧ t = s := by
  refine ⟨s, (exec_limHard e s).trans (congrArg _ (if_neg ?_)), rfl⟩
  rintro ⟨h1, h2, h3⟩
  rcases h with h | h | h
  · exact h1 h
  · omega
  · rw [h] at h3; cases h3

theorem loopLimHard_none (e : Fin 32) (h : e.val = 0 ∨ s.fld (Fd.LIM_CFG_SCOPE e) ≠ 0xFE ∨ s.limHardDue e = false) :
    ∃ t, exec (.loopLimHard e) s = .next t ∧ t = s := by
  refine ⟨s, (exec_loopLimHard e s).trans (congrArg _ (if_neg ?_)), rfl⟩
  rintro ⟨h1, h2, h3⟩
  rcases h with h | h | h
  · exact h1 h
  · exact h h2
  · rw [h] at h3; cases h3

theorem supHard_none (h : s.limHardDue 0 = false) : ∃ t, exec .supHard s = .next t ∧ t = s :=
  ⟨s, (exec_supHard s).trans (congrArg _ (if_neg (by simp [h]))), rfl⟩

theorem limHard_starts (e : Fin 32) (h0 : e.val ≠ 0) (hs : s.fld (Fd.LIM_CFG_SCOPE e) < 48) (hd : s.limHardDue e = true)
    (ha : s.fld (Fd.LIM_CFG_ACTION e) ≠ 0) : ∃ t, exec (.limHard e) s = .next t ∧ t.on (Fd.LIM_STAT_HARD e) = true ∧
      t.on (Fd.LIM_STAT_ACK_REQ e) = true ∧ t.rackActive (s.fld (Fd.LIM_CFG_SCOPE e)) seqLimHard = true ∧ (t.limP e).active = true ∧
      t.rd Reg.PRT_CNT_LIMIT = satCount (s.rd Reg.PRT_CNT_LIMIT) 1 := by
  obtain ⟨h1, h2, h3, -, -⟩ := s.limHard_acts e h0 ha
  exact ⟨_, (exec_limHard e s).trans (congrArg _ (if_pos ⟨h0, hs, hd⟩)), h1.hard, h1.ack, h3 hs, h2, h1.count⟩

theorem limHard_fullcool (e : Fin 32) (h0 : e.val ≠ 0) (hs : s.fld (Fd.LIM_CFG_SCOPE e) < 48) (hd : s.limHardDue e = true)
    (ha : s.fld (Fd.LIM_CFG_ACTION e) = 4) : ∃ t, exec (.limHard e) s = .next t ∧ t.on (Fd.LIM_STAT_HARD e) = true ∧
      t.rackActive (s.fld (Fd.LIM_CFG_SCOPE e)) seqLimHard = true ∧ t.on Fd.PRT_STAT_FULLCOOL = true ∧ (t.limP e).active = true ∧
      t.rd Reg.PRT_CNT_LIMIT = satCount (s.rd Reg.PRT_CNT_LIMIT) 1 := by
  obtain ⟨h1, h2, h3, -, h5⟩ := s.limHard_acts e h0 (by rw [ha]; decide)
  exact ⟨_, (exec_limHard e s).trans (congrArg _ (if_pos ⟨h0, hs, hd⟩)), h1.hard, h3 hs, h5 ha, h2, h1.count⟩

theorem limHard_alarm (e : Fin 32) (h0 : e.val ≠ 0) (hs : s.fld (Fd.LIM_CFG_SCOPE e) < 48) (hd : s.limHardDue e = true)
    (ha : s.fld (Fd.LIM_CFG_ACTION e) = 0) : ∃ t, exec (.limHard e) s = .next t ∧ t.on (Fd.LIM_STAT_HARD e) = true ∧
      t.on (Fd.LIM_STAT_ACK_REQ e) = true ∧
      t.rackActive (s.fld (Fd.LIM_CFG_SCOPE e)) seqLimHard = s.rackActive (s.fld (Fd.LIM_CFG_SCOPE e)) seqLimHard ∧
      t.rd Reg.PRT_CNT_LIMIT = satCount (s.rd Reg.PRT_CNT_LIMIT) 1 := by
  obtain ⟨h1, h2⟩ := s.limHard_warns e h0 ha
  exact ⟨_, (exec_limHard e s).trans (congrArg _ (if_pos ⟨h0, hs, hd⟩)), h1.hard, h1.ack, h2 _ hs _, h1.count⟩

theorem loopLimHard_starts (e : Fin 32) (h0 : e.val ≠ 0) (hs : s.fld (Fd.LIM_CFG_SCOPE e) = 0xFE) (hd : s.limHardDue e = true)
    (ha : s.fld (Fd.LIM_CFG_ACTION e) ≠ 0) : ∃ t, exec (.loopLimHard e) s = .next t ∧ t.on (Fd.LIM_STAT_HARD e) = true ∧
      t.on (Fd.LIM_STAT_ACK_REQ e) = true ∧ t.loopActive 3 = true ∧ (t.limP e).active = true ∧
      t.rd Reg.PRT_CNT_LIMIT = satCount (s.rd Reg.PRT_CNT_LIMIT) 1 := by
  obtain ⟨h1, h2, -, h4, -⟩ := s.limHard_acts e h0 ha
  exact ⟨_, (exec_loopLimHard e s).trans (congrArg _ (if_pos ⟨h0, hs, hd⟩)), h1.hard, h1.ack, h4 (by rw [hs]; decide), h2, h1.count⟩

theorem supHard_starts (hd : s.limHardDue 0 = true) : ∃ t, exec .supHard s = .next t ∧ t.on (Fd.LIM_STAT_HARD 0) = true ∧ t.loopActive 2 = true ∧
    t.on Fd.PRT_STAT_FULLCOOL = true ∧ (s.drives = true → t.opState = 8) ∧ t.rd Reg.PRT_CNT_LIMIT = satCount (s.rd Reg.PRT_CNT_LIMIT) 1 := by
  obtain ⟨h1, h2, h3, h4⟩ := s.limHard_supply
  exact ⟨_, (exec_supHard s).trans (congrArg _ (if_pos hd)), h1.hard, h2, h3, h4, h1.count⟩

/-- Settles O36: a sample and an evaluation by what they show (`State.Shown`), the digest by what its loss leaves, and the limit entries by what
an entry that has reached HARD shows (`State.HardShown`) through the starts that follow it. -/
theorem flowDieAndLimitSequencesStart : Obligations.FlowDieAndLimitSequencesStart := by
  unfold Obligations.FlowDieAndLimitSequencesStart
  exact ⟨fun _ hq hk hs ht hf h4 hr => flowSample_falls hq hk hs ht hf h4 hr, fun _ h hr => flowSample_steady h hr, fun _ _ h => flowEval_slope h,
    flowEval_shows, fun _ _ h => guardDigest_taken h, fun s h => ⟨s, exec_guardDigest_none h, rfl⟩, fun rack _ h => dieHard_none rack h,
    fun rack _ hl hd => dieHard_starts rack hl hd, fun _ hm hd => digestLost_starts hm hd, fun _ h => digestLost_none h,
    fun e _ h => limHard_none e h, fun e _ h0 hs hd ha => limHard_fullcool e h0 hs hd ha, fun e _ h0 hs hd ha => limHard_alarm e h0 hs hd ha,
    fun e _ h => loopLimHard_none e h, fun _ h => supHard_none h, fun e _ h0 hs hd ha => limHard_starts e h0 hs hd ha,
    fun e _ h0 hs hd ha => loopLimHard_starts e h0 hs hd ha, fun _ hd => supHard_starts hd⟩
end Sys2Proof.Machine
end

section
-- In order: the one text holds more declarations than asynchronous elaboration has threads for.
set_option Elab.async false

/-! PROOFS. The action table: what a commit leaves of an entry, timely or late (R86, R93, R94), and what the end of an entry leaves. -/

namespace Sys2Proof.Machine

variable {s t u : State} {ps : List Part} {ws : List Nat}

/-! ### The entry that a commit takes -/

theorem State.freeEntry_lt {n : Nat} (h : s.freeEntry = some n) : n < 4096 := by
  simpa using List.mem_of_find?_eq_some h

/-- An entry's words lie apart from the event registers. -/
theorem eventWord_aeStat {n : Nat} (hn : n < 4096) : eventWord (Reg.AE_STAT n) = false :=
  eventWord_eq_false (by simp only [Reg.AE_STAT]; omega) (by simp only [Reg.AE_STAT]; omega)

theorem aeStat_ne_actUsed (n : Nat) : Reg.AE_STAT n ≠ Reg.TIM_ACT_USED := by simp only [Reg.AE_STAT, Reg.TIM_ACT_USED]; omega

theorem State.fld_set_small (s : State) (f : Fld) (v : Nat) (h : f.lo + f.width ≤ 32 := by decide) (hv : v < 2 ^ f.width := by decide) :
    (s.set f v).fld f = v := by rw [State.fld_set_self _ _ _ h, Nat.mod_eq_of_lt hv]

theorem State.aeState_set (s : State) (n v : Nat) (hv : v < 8 := by decide) : (s.set (Fd.AE_STAT_STATE n) v).fld (Fd.AE_STAT_STATE n) = v :=
  State.fld_set_small _ _ _ (show 0 + 3 ≤ 32 by decide) hv

theorem State.aeReason_set (s : State) (n v : Nat) (hv : v < 16 := by decide) : (s.set (Fd.AE_STAT_REASON n) v).fld (Fd.AE_STAT_REASON n) = v :=
  State.fld_set_small _ _ _ (show 4 + 4 ≤ 32 by decide) hv

theorem State.aeState_setReason (s : State) (n v : Nat) : (s.set (Fd.AE_STAT_REASON n) v).fld (Fd.AE_STAT_STATE n) = s.fld (Fd.AE_STAT_STATE n) :=
  State.fld_set_bits _ _ _ _ rfl (Or.inr (show 0 + 3 ≤ 4 by decide))

/-! ### Commit -/

/-- The words that a commit writes, where the entry is not late. -/
def commitWords (n : Nat) : List Nat := [Reg.AE_STAT n, Reg.AE_SEQ n, Reg.AE_LATE n, Reg.TIM_ACT_USED]

/-- The entry under its new number, before it is judged. -/
def State.numberEntry (s : State) (n : Nat) : State :=
  (({ s with act := { s.act with seq := s.act.seq + 1 } }.wr (Reg.AE_SEQ n) (s.act.seq + 1)).wr (Reg.AE_LATE n) 0).set (Fd.AE_STAT_REASON n) 0

/-- The entry ARMED, with what the action table notes of it beside. -/
def State.armEntry (s : State) (n : Nat) (t : Trigger) (l : Int) : State :=
  let s := (s.set (Fd.AE_STAT_STATE n) 1).setArmed (s.act.armed ++ [n])
  let act := { s.act with since := s.act.since.put n s.clk.now }
  let act := if l > 0 then { act with late := act.late.put n (lateUs l) } else act
  let act := if t.trig = 3 ∧ t.every then { act with every := act.every.put n (nextCrossing (s.job t.job) t.angle) } else act
  { s with act := act }

/-- The entry REFUSED as late. -/
def State.refuseEntry (s : State) (n us : Nat) : State :=
  ((s.set (Fd.AE_STAT_STATE n) 4).set (Fd.AE_STAT_REASON n) 1).refuseLate n us

theorem State.commitEntry_eq (s : State) (n : Nat) : s.commitEntry n =
    if tooLate (s.trigger n) (s.lateness (s.trigger n)) then (s.numberEntry n).refuseEntry n (lateUs (s.lateness (s.trigger n)))
    else (s.numberEntry n).armEntry n (s.trigger n) (s.lateness (s.trigger n)) := rfl

theorem State.numberEntry_changes (s : State) (n : Nat) : Changes [.act] [Reg.AE_STAT n, Reg.AE_SEQ n, Reg.AE_LATE n] s (s.numberEntry n) := by
  unfold State.numberEntry
  exact (((Changes.refl [.act] _ s).upd_act.wr).wr).set

theorem State.numberEntry_rd (s : State) (n : Nat) {a : Nat} (ha : a ∉ [Reg.AE_STAT n, Reg.AE_SEQ n, Reg.AE_LATE n]) :
    (s.numberEntry n).rd a = s.rd a := by
  simp only [List.mem_cons, List.not_mem_nil, or_false, not_or] at ha
  obtain ⟨h1, h2, h3⟩ := ha
  unfold State.numberEntry
  rw [State.rd_set_ne _ _ _ _ h1, State.rd_wr_ne _ _ _ _ h3, State.rd_wr_ne _ _ _ _ h2]
  rfl

theorem State.numberEntry_seq (s : State) (n : Nat) : (s.numberEntry n).rd (Reg.AE_SEQ n) = s.act.seq + 1 := by
  unfold State.numberEntry
  rw [State.rd_set_ne _ _ _ _ (by simp only [Reg.AE_SEQ, Fd.AE_STAT_REASON, Reg.AE_STAT]; omega),
    State.rd_wr_ne _ _ _ _ (by simp only [Reg.AE_SEQ, Reg.AE_LATE]; omega), State.rd_wr_self]

theorem State.numberEntry_reason (s : State) (n : Nat) : (s.numberEntry n).fld (Fd.AE_STAT_REASON n) = 0 := by
  unfold State.numberEntry
  exact State.aeReason_set _ _ _

theorem State.armEntry_changes (s : State) (n : Nat) (t : Trigger) (l : Int) :
    Changes [.act] [Reg.AE_STAT n, Reg.TIM_ACT_USED] s (s.armEntry n t l) := by
  unfold State.armEntry State.setArmed
  exact ((((Changes.refl [.act] _ s).set).upd_act).set).upd_act

theorem State.armEntry_rd (s : State) (n : Nat) (t : Trigger) (l : Int) (a : Nat) :
    (s.armEntry n t l).rd a = ((s.set (Fd.AE_STAT_STATE n) 1).set Fd.TIM_ACT_USED_N (s.act.armed ++ [n]).length).rd a := rfl

theorem State.armEntry_armed (s : State) (n : Nat) (t : Trigger) (l : Int) : (s.armEntry n t l).act.armed = s.act.armed ++ [n] := by
  unfold State.armEntry
  dsimp only
  split <;> split <;> rfl

theorem State.armEntry_seq (s : State) (n : Nat) (t : Trigger) (l : Int) : (s.armEntry n t l).act.seq = s.act.seq := by
  unfold State.armEntry
  dsimp only
  split <;> split <;> rfl

/-- What a commit leaves of an entry that is not late. -/
structure State.Armed (n : Nat) (s t : State) : Prop where
  stat : t.fld (Fd.AE_STAT_STATE n) = 1
  number : t.rd (Reg.AE_SEQ n) = s.act.seq + 1
  seq : t.act.seq = s.act.seq + 1
  armed : t.act.armed = s.act.armed ++ [n]
  rd : ∀ a, a ∉ commitWords n → t.rd a = s.rd a
  changes : Changes [.act] (commitWords n) s t

theorem State.commitEntry_timely {n : Nat} (h : tooLate (s.trigger n) (s.lateness (s.trigger n)) = false) : State.Armed n s (s.commitEntry n) := by
  rw [State.commitEntry_eq, if_neg (by rw [h]; decide)]
  have hr := State.armEntry_rd (s.numberEntry n) n (s.trigger n) (s.lateness (s.trigger n))
  refine ⟨?_, ?_, State.armEntry_seq _ _ _ _, State.armEntry_armed _ _ _ _, fun a ha => ?_, ?_⟩
  · rw [State.fld_congr (hr _), State.fld_set_word _ _ _ _ (aeStat_ne_actUsed n)]
    exact State.aeState_set _ _ _
  · rw [hr, State.rd_set_ne _ _ _ _ (by simp only [Reg.AE_SEQ, Fd.TIM_ACT_USED_N, Reg.TIM_ACT_USED]; omega),
      State.rd_set_ne _ _ _ _ (by simp only [Reg.AE_SEQ, Fd.AE_STAT_STATE, Reg.AE_STAT]; omega), State.numberEntry_seq]
  · simp only [commitWords, List.mem_cons, List.not_mem_nil, or_false, not_or] at ha
    obtain ⟨h1, h2, h3, h4⟩ := ha
    rw [hr, State.rd_set_ne _ _ _ _ h4, State.rd_set_ne _ _ _ _ h1, State.numberEntry_rd _ _ (by simp [h1, h2, h3])]
  · exact ((State.numberEntry_changes s n).mono (List.Subset.refl _) (by simp [commitWords])).trans
      ((State.armEntry_changes _ _ _ _).mono (List.Subset.refl _) (by simp [commitWords]))


/-! ### A refusal as late -/

/-- The words of the action table's and the planner's counts and events, which a refusal as late moves. -/
def lateWords : List Nat := [Reg.TIM_ACT_CNT_LATE, Reg.TIM_EVT, Reg.TIM_EVT + 4, Reg.PLN_CNT_LATE, Reg.PLN_EVT, Reg.PLN_EVT + 4]

theorem State.refuseLate_changes (s : State) (n us : Nat) : Changes [.firn] lateWords s (s.refuseLate n us) := by
  unfold State.refuseLate lateWords
  dsimp only
  split
  · exact ((((Changes.refl [.firn] _ s).count).raise (f := Fd.TIM_EVT_ACT_LATE)).count).raise (f := Fd.PLN_EVT_LATE)
  · exact ((Changes.refl [.firn] _ s).count).raise (f := Fd.TIM_EVT_ACT_LATE)

theorem State.refuseLate_count (s : State) (n us : Nat) :
    (s.refuseLate n us).rd Reg.TIM_ACT_CNT_LATE = satCount (s.rd Reg.TIM_ACT_CNT_LATE) 1 := by
  have hr : ((s.count Reg.TIM_ACT_CNT_LATE).raise Fd.TIM_EVT_ACT_LATE n [us]).rd Reg.TIM_ACT_CNT_LATE = satCount (s.rd Reg.TIM_ACT_CNT_LATE) 1 := by
    rw [State.raise_rd _ _ _ _ _ _ (by decide) (by decide) (by decide) (by decide), State.rd_count_same]
  unfold State.refuseLate
  dsimp only
  split
  · rw [State.raise_rd _ _ _ _ _ _ (by decide) (by decide) (by decide) (by decide), State.rd_count _ _ _ (by decide), hr]
  · exact hr

theorem State.refuseLate_on (s : State) (n us : Nat) : (s.refuseLate n us).on Fd.TIM_EVT_ACT_LATE = true := by
  have hr := State.raise_on (s.count Reg.TIM_ACT_CNT_LATE) Fd.TIM_EVT_ACT_LATE n [us] false (by decide) (by decide) rfl (by decide)
  unfold State.refuseLate
  dsimp only
  split
  · refine Eq.trans (congrArg (· == 1) (State.fld_congr ?_)) hr
    rw [State.raise_rd _ _ _ _ _ _ (by decide) (by decide) (by decide) (by decide), State.rd_count _ _ _ (by decide)]
  · exact hr

/-- What a commit leaves of an entry that comes too late. -/
structure State.Refused (n : Nat) (s t : State) : Prop where
  stat : t.fld (Fd.AE_STAT_STATE n) = 4
  reason : t.fld (Fd.AE_STAT_REASON n) = 1
  seq : t.act.seq = s.act.seq + 1
  armed : t.act.armed = s.act.armed
  count : t.rd Reg.TIM_ACT_CNT_LATE = satCount (s.rd Reg.TIM_ACT_CNT_LATE) 1
  event : t.on Fd.TIM_EVT_ACT_LATE = true
  changes : Changes [.act, .firn] (commitWords n ++ lateWords) s t

theorem aeStat_not_late (n : Nat) : Reg.AE_STAT n ∉ lateWords := by
  simp only [lateWords, Reg.AE_STAT, Reg.TIM_ACT_CNT_LATE, Reg.TIM_EVT, Reg.PLN_CNT_LATE, Reg.PLN_EVT, List.mem_cons, List.not_mem_nil, or_false,
    not_or]
  omega

theorem State.commitEntry_late {n : Nat} (hn : n < 4096) (h : tooLate (s.trigger n) (s.lateness (s.trigger n)) = true) :
    State.Refused n s (s.commitEntry n) := by
  rw [State.commitEntry_eq, if_pos h, State.refuseEntry]
  generalize lateUs (s.lateness (s.trigger n)) = us
  have h1 := State.numberEntry_changes s n
  have h2 : Changes [] [Reg.AE_STAT n] (s.numberEntry n) (((s.numberEntry n).set (Fd.AE_STAT_STATE n) 4).set (Fd.AE_STAT_REASON n) 1) :=
    (Changes.refl [] _ _).set.set
  have hs : (((s.numberEntry n).set (Fd.AE_STAT_STATE n) 4).set (Fd.AE_STAT_REASON n) 1).fld (Fd.AE_STAT_STATE n) = 4 :=
    (State.aeState_setReason _ _ _).trans (State.aeState_set _ _ _)
  have hq := State.aeReason_set ((s.numberEntry n).set (Fd.AE_STAT_STATE n) 4) n 1
  have hc : (((s.numberEntry n).set (Fd.AE_STAT_STATE n) 4).set (Fd.AE_STAT_REASON n) 1).rd Reg.TIM_ACT_CNT_LATE = s.rd Reg.TIM_ACT_CNT_LATE :=
    ((h1.mono (List.Subset.refl _) (List.Subset.refl _)).step h2).rd (by decide)
      (by simp only [Reg.TIM_ACT_CNT_LATE, Reg.AE_STAT, Reg.AE_SEQ, Reg.AE_LATE, List.mem_cons, List.not_mem_nil, or_false, not_or]; omega)
  have ha : (((s.numberEntry n).set (Fd.AE_STAT_STATE n) 4).set (Fd.AE_STAT_REASON n) 1).act = { s.act with seq := s.act.seq + 1 } := rfl
  generalize ((s.numberEntry n).set (Fd.AE_STAT_STATE n) 4).set (Fd.AE_STAT_REASON n) 1 = u at *
  have hl := u.refuseLate_changes n us
  have hla := hl.1.2 .act (by decide)
  refine ⟨?_, ?_, ?_, ?_, ?_, State.refuseLate_on _ _ _, ?_⟩
  · rw [hl.fld (eventWord_aeStat hn) (aeStat_not_late n), hs]
  · rw [hl.fld (eventWord_aeStat hn) (aeStat_not_late n), hq]
  · exact (congrArg Actions.seq (hla.trans ha) :)
  · exact (congrArg Actions.armed (hla.trans ha) :)
  · rw [State.refuseLate_count, hc]
  · exact ((h1.mono (ps := [.act, .firn]) (ws := commitWords n ++ lateWords) (by decide) (by simp [commitWords])).step h2 (by decide)
      (by simp [commitWords])).step hl (by decide) (fun _ => List.mem_append_right _)

/-! ### The end of an entry -/

/-- What the end of an entry leaves. -/
structure State.Ended (n st reason : Nat) (s t : State) : Prop where
  stat : t.fld (Fd.AE_STAT_STATE n) = st
  reason : t.fld (Fd.AE_STAT_REASON n) = reason
  armed : t.act.armed = s.act.armed.filter (fun m => m != n)
  trims : t.act.trims = s.act.trims
  rd : ∀ a, a ≠ Reg.AE_STAT n → a ≠ Reg.TIM_ACT_USED → t.rd a = s.rd a
  changes : Changes [.act] [Reg.AE_STAT n, Reg.TIM_ACT_USED] s t

theorem State.endEntry_spec (s : State) (n : Nat) {st reason : Nat} (h1 : st < 8) (h2 : reason < 16) :
    State.Ended n st reason s (s.endEntry n st reason) := by
  have hr (a : Nat) : (s.endEntry n st reason).rd a = (((s.set (Fd.AE_STAT_STATE n) st).set (Fd.AE_STAT_REASON n) reason).set Fd.TIM_ACT_USED_N
      (s.act.armed.filter (fun m => m != n)).length).rd a := rfl
  refine ⟨?_, ?_, rfl, rfl, fun a ha hb => ?_, ?_⟩
  · rw [State.fld_congr (hr _), State.fld_set_word _ _ _ _ (aeStat_ne_actUsed n), State.aeState_setReason, State.aeState_set _ _ _ h1]
  · rw [State.fld_congr (hr _), State.fld_set_word _ _ _ _ (aeStat_ne_actUsed n), State.aeReason_set _ _ _ h2]
  · rw [hr, State.rd_set_ne _ _ _ _ hb, State.rd_set_ne _ _ _ _ ha, State.rd_set_ne _ _ _ _ ha]
  · unfold State.endEntry State.setArmed
    exact (((((Changes.refl [.act] _ s).set).set).upd_act).upd_act).set

/-! ### Barriers -/

/-- The words of a barrier's entry and of its register. -/
def barrierWords (b : BarrierMsg) (n : Nat) : List Nat :=
  [Reg.BAR_CFG b.id.val, Reg.AE_CTRL n, Reg.AE_TRIG_LO n, Reg.AE_TRIG_HI n, Reg.AE_ARG0 n, Reg.AE_ARG1 n]

/-- The state with a barrier's words written, before its entry is committed. -/
def State.fillBarrier (s : State) (b : BarrierMsg) (trig scope n : Nat) : State :=
  (((((s.setBarrier b scope).wr (Reg.AE_CTRL n) (BitVec.ofNat 32 (2 ^ 31 + trig * 2 ^ 28 + 6 * 2 ^ 24))).wr (Reg.AE_TRIG_LO n) (b.at_.setWidth 32)).wr
    (Reg.AE_TRIG_HI n) ((b.at_ >>> 32).setWidth 32)).wr (Reg.AE_ARG0 n) (BitVec.ofNat 32 b.id.val)).wr (Reg.AE_ARG1 n) 0

theorem State.commitBarrier_eq {b : BarrierMsg} {trig scope n : Nat} (hm : s.mainAbsent = false) (hn : s.freeEntry = some n) :
    s.commitBarrier b trig scope = (if ((s.fillBarrier b trig scope n).commitEntry n).fld (Fd.AE_STAT_STATE n) = 1 then some n else none,
      (s.fillBarrier b trig scope n).commitEntry n) := by
  unfold State.commitBarrier
  rw [if_neg (by rw [hm]; decide), hn]
  rfl

theorem State.fillBarrier_changes (s : State) (b : BarrierMsg) (trig scope n : Nat) :
    Changes [] (barrierWords b n) s (s.fillBarrier b trig scope n) := by
  unfold State.fillBarrier State.setBarrier barrierWords
  exact (((((((Changes.refl [] _ s).set).set).set).wr.wr).wr).wr).wr

theorem State.fillBarrier_rd (s : State) (b : BarrierMsg) (trig scope n : Nat) {a : Nat} (ha : a ∉ barrierWords b n) :
    (s.fillBarrier b trig scope n).rd a = s.rd a := by
  simp only [barrierWords, List.mem_cons, List.not_mem_nil, or_false, not_or] at ha
  obtain ⟨h0, h1, h2, h3, h4, h5⟩ := ha
  unfold State.fillBarrier State.setBarrier
  dsimp only
  rw [State.rd_wr_ne _ _ _ _ h5, State.rd_wr_ne _ _ _ _ h4, State.rd_wr_ne _ _ _ _ h3, State.rd_wr_ne _ _ _ _ h2, State.rd_wr_ne _ _ _ _ h1,
    State.rd_set_ne _ _ _ _ h0, State.rd_set_ne _ _ _ _ h0, State.rd_set_ne _ _ _ _ h0]

/-- The control word of a barrier's entry. -/
theorem State.fillBarrier_ctrl (s : State) (b : BarrierMsg) (trig scope n : Nat) :
    (s.fillBarrier b trig scope n).rd (Reg.AE_CTRL n) = BitVec.ofNat 32 (2 ^ 31 + trig * 2 ^ 28 + 6 * 2 ^ 24) := by
  unfold State.fillBarrier
  rw [State.rd_wr_ne _ _ _ _ (by simp only [Reg.AE_CTRL, Reg.AE_ARG1]; omega), State.rd_wr_ne _ _ _ _ (by simp only [Reg.AE_CTRL, Reg.AE_ARG0]; omega),
    State.rd_wr_ne _ _ _ _ (by simp only [Reg.AE_CTRL, Reg.AE_TRIG_HI]; omega),
    State.rd_wr_ne _ _ _ _ (by simp only [Reg.AE_CTRL, Reg.AE_TRIG_LO]; omega), State.rd_wr_self]

theorem State.fillBarrier_lo (s : State) (b : BarrierMsg) (trig scope n : Nat) :
    (s.fillBarrier b trig scope n).rd (Reg.AE_TRIG_LO n) = b.at_.setWidth 32 := by
  unfold State.fillBarrier
  rw [State.rd_wr_ne _ _ _ _ (by simp only [Reg.AE_TRIG_LO, Reg.AE_ARG1]; omega),
    State.rd_wr_ne _ _ _ _ (by simp only [Reg.AE_TRIG_LO, Reg.AE_ARG0]; omega),
    State.rd_wr_ne _ _ _ _ (by simp only [Reg.AE_TRIG_LO, Reg.AE_TRIG_HI]; omega), State.rd_wr_self]

theorem State.fillBarrier_hi (s : State) (b : BarrierMsg) (trig scope n : Nat) :
    (s.fillBarrier b trig scope n).rd (Reg.AE_TRIG_HI n) = (b.at_ >>> 32).setWidth 32 := by
  unfold State.fillBarrier
  rw [State.rd_wr_ne _ _ _ _ (by simp only [Reg.AE_TRIG_HI, Reg.AE_ARG1]; omega),
    State.rd_wr_ne _ _ _ _ (by simp only [Reg.AE_TRIG_HI, Reg.AE_ARG0]; omega), State.rd_wr_self]

/-- The two words of a value hold it. -/
theorem append_halves (v : BitVec 64) : ((v >>> 32).setWidth 32 : Word) ++ (v.setWidth 32 : Word) = v := by
  refine BitVec.eq_of_getLsbD_eq fun i hi => ?_
  rw [BitVec.getLsbD_append]
  by_cases h : i < 32
  · simp [h]
  · rw [if_neg h, BitVec.getLsbD_setWidth, BitVec.getLsbD_ushiftRight, show 32 + (i - 32) = i by omega, decide_eq_true (by omega : i - 32 < 32),
      Bool.true_and]

/-- The trigger that a barrier's entry holds. -/
theorem State.fillBarrier_trigger (s : State) (b : BarrierMsg) {trig : Nat} (ht : trig = 1 ∨ trig = 2) (scope n : Nat) :
    (s.fillBarrier b trig scope n).trigger n = ⟨trig, 6, 0, false, b.at_⟩ := by
  have hc := s.fillBarrier_ctrl b trig scope n
  have hv : (s.fillBarrier b trig scope n).rd (Reg.AE_TRIG_HI n) ++ (s.fillBarrier b trig scope n).rd (Reg.AE_TRIG_LO n) = b.at_ := by
    rw [State.fillBarrier_hi, State.fillBarrier_lo, append_halves]
  unfold State.trigger
  rw [hv]
  obtain rfl | rfl := ht
  all_goals
    simp only [State.on, State.fld, Fd.AE_CTRL_TRIG, Fd.AE_CTRL_KIND, Fd.AE_CTRL_JOB, Fd.AE_CTRL_EVERY, hc]
    rfl


/-- A barrier is late as soon as its moment has passed (R94). -/
theorem tooLate_barrier (trig job : Nat) (e : Bool) (v : BitVec 64) (l : Int) : tooLate ⟨trig, 6, job, e, v⟩ l = decide (l > 0) := by
  unfold tooLate
  by_cases h : l > 0
  · simp [h]
  · have : ¬ l > 1000000 := by omega
    simp [h, this]

theorem State.lateness_sidx (s : State) (v : BitVec 64) : s.lateness ⟨1, 6, 0, false, v⟩ = diff64 s.clk.sidx v * 10000 := rfl

theorem State.lateness_time (s : State) (v : BitVec 64) : s.lateness ⟨2, 6, 0, false, v⟩ = diff64 s.clk.mtime v := rfl

/-- Whether a barrier's moment has passed, by the index or by module time. -/
def State.passed (s : State) (trig : Nat) (v : BitVec 64) : Bool :=
  if trig = 1 then decide (diff64 s.clk.sidx v > 0) else decide (diff64 s.clk.mtime v > 0)

theorem State.fillBarrier_tooLate (s : State) (b : BarrierMsg) {trig : Nat} (ht : trig = 1 ∨ trig = 2) (scope n : Nat) :
    tooLate ((s.fillBarrier b trig scope n).trigger n) ((s.fillBarrier b trig scope n).lateness ((s.fillBarrier b trig scope n).trigger n)) =
      s.passed trig b.at_ := by
  rw [State.fillBarrier_trigger s b ht scope n, tooLate_barrier]
  have hclk : (s.fillBarrier b trig scope n).clk = s.clk := (s.fillBarrier_changes b trig scope n).1.2 .clk (by decide)
  unfold State.passed
  obtain rfl | rfl := ht
  · rw [State.lateness_sidx, hclk, if_pos rfl]
    exact decide_eq_decide.mpr (by omega)
  · rw [State.lateness_time, hclk, if_neg (by decide)]

/-- The words of a barrier's entry that is committed. -/
def barrierEntryWords (b : BarrierMsg) (n : Nat) : List Nat :=
  [Reg.AE_CTRL n, Reg.AE_TRIG_LO n, Reg.AE_TRIG_HI n, Reg.AE_ARG0 n, Reg.AE_ARG1 n, Reg.AE_STAT n, Reg.AE_SEQ n, Reg.AE_LATE n, Reg.TIM_ACT_USED,
    Reg.BAR_CFG b.id.val]

/-- What the commit of a barrier leaves, where its moment is to come. -/
structure State.BarrierSet (b : BarrierMsg) (trig scope n : Nat) (s t : State) : Prop where
  stat : t.fld (Fd.AE_STAT_STATE n) = 1
  armed : t.act.armed = s.act.armed ++ [n]
  trigger : t.trigger n = ⟨trig, 6, 0, false, b.at_⟩
  action : t.fld (Fd.BAR_CFG_ACTION b.id.val) = b.action.val
  scope : t.fld (Fd.BAR_CFG_SCOPE b.id.val) = scope
  rd : ∀ a, a ∉ barrierEntryWords b n → t.rd a = s.rd a
  changes : Changes [.act] (barrierEntryWords b n) s t

theorem State.fillBarrier_cfg (s : State) (b : BarrierMsg) (trig scope : Nat) {n : Nat} (hn : n < 4096) :
    (s.fillBarrier b trig scope n).rd (Reg.BAR_CFG b.id.val) = (s.setBarrier b scope).rd (Reg.BAR_CFG b.id.val) := by
  unfold State.fillBarrier
  rw [State.rd_wr_ne _ _ _ _ (by simp only [Reg.BAR_CFG, Reg.AE_ARG1]; omega), State.rd_wr_ne _ _ _ _ (by simp only [Reg.BAR_CFG, Reg.AE_ARG0]; omega),
    State.rd_wr_ne _ _ _ _ (by simp only [Reg.BAR_CFG, Reg.AE_TRIG_HI]; omega),
    State.rd_wr_ne _ _ _ _ (by simp only [Reg.BAR_CFG, Reg.AE_TRIG_LO]; omega),
    State.rd_wr_ne _ _ _ _ (by simp only [Reg.BAR_CFG, Reg.AE_CTRL]; omega)]

theorem State.barAction_setScope (s : State) (i v : Nat) : (s.set (Fd.BAR_CFG_SCOPE i) v).fld (Fd.BAR_CFG_ACTION i) = s.fld (Fd.BAR_CFG_ACTION i) :=
  State.fld_set_bits _ _ _ _ rfl (Or.inr (show 0 + 3 ≤ 3 by decide))

theorem State.barAction_setArg (s : State) (i v : Nat) : (s.set (Fd.BAR_CFG_ARG i) v).fld (Fd.BAR_CFG_ACTION i) = s.fld (Fd.BAR_CFG_ACTION i) :=
  State.fld_set_bits _ _ _ _ rfl (Or.inr (show 0 + 3 ≤ 8 by decide))

theorem State.barScope_setArg (s : State) (i v : Nat) : (s.set (Fd.BAR_CFG_ARG i) v).fld (Fd.BAR_CFG_SCOPE i) = s.fld (Fd.BAR_CFG_SCOPE i) :=
  State.fld_set_bits _ _ _ _ rfl (Or.inr (show 3 + 1 ≤ 8 by decide))

theorem State.setBarrier_action (s : State) (b : BarrierMsg) (scope : Nat) :
    (s.setBarrier b scope).fld (Fd.BAR_CFG_ACTION b.id.val) = b.action.val := by
  unfold State.setBarrier
  dsimp only
  rw [State.barAction_setArg, State.barAction_setScope]
  exact State.fld_set_small _ _ _ (show 0 + 3 ≤ 32 by decide) b.action.isLt

theorem State.setBarrier_scope (s : State) (b : BarrierMsg) {scope : Nat} (hs : scope < 2) :
    (s.setBarrier b scope).fld (Fd.BAR_CFG_SCOPE b.id.val) = scope := by
  unfold State.setBarrier
  dsimp only
  rw [State.barScope_setArg]
  exact State.fld_set_small _ _ _ (show 3 + 1 ≤ 32 by decide) hs

theorem barCfg_not_commit (n i : Nat) : Reg.BAR_CFG i ∉ commitWords n := by
  simp only [commitWords, Reg.BAR_CFG, Reg.AE_STAT, Reg.AE_SEQ, Reg.AE_LATE, Reg.TIM_ACT_USED, List.mem_cons, List.not_mem_nil, or_false, not_or]
  omega

theorem State.commitBarrier_timely {b : BarrierMsg} {trig scope n : Nat} (ht : trig = 1 ∨ trig = 2) (hs : scope < 2) (hm : s.mainAbsent = false)
    (hn : s.freeEntry = some n) (hp : s.passed trig b.at_ = false) :
    ∃ t, s.commitBarrier b trig scope = (some n, t) ∧ State.BarrierSet b trig scope n s t := by
  have hlt := State.freeEntry_lt hn
  have hk := State.commitEntry_timely ((s.fillBarrier_tooLate b ht scope n).trans hp)
  have hf := s.fillBarrier_changes b trig scope n
  have hw (a : Nat) (ha : a ∈ [Reg.AE_CTRL n, Reg.AE_TRIG_LO n, Reg.AE_TRIG_HI n]) : a ∉ commitWords n := by
    simp only [commitWords, Reg.AE_CTRL, Reg.AE_TRIG_LO, Reg.AE_TRIG_HI, Reg.AE_STAT, Reg.AE_SEQ, Reg.AE_LATE, Reg.TIM_ACT_USED, List.mem_cons,
      List.not_mem_nil, or_false] at ha ⊢
    omega
  refine ⟨_, (State.commitBarrier_eq hm hn).trans (by rw [if_pos hk.stat]), hk.stat, ?_, ?_, ?_, ?_, fun a ha => ?_, ?_⟩
  · rw [hk.armed]
    exact congrArg (fun x : Actions => x.armed ++ [n]) (hf.1.2 .act (by decide))
  · rw [← s.fillBarrier_trigger b ht scope n]
    unfold State.trigger
    simp only [State.on, State.fld, Fd.AE_CTRL_TRIG, Fd.AE_CTRL_KIND, Fd.AE_CTRL_JOB, Fd.AE_CTRL_EVERY, hk.rd _ (hw (Reg.AE_CTRL n) (by simp)),
      hk.rd _ (hw (Reg.AE_TRIG_LO n) (by simp)), hk.rd _ (hw (Reg.AE_TRIG_HI n) (by simp))]
  · exact ((State.fld_congr (hk.rd _ (barCfg_not_commit _ _))).trans (State.fld_congr (s.fillBarrier_cfg b trig scope hlt))).trans
      (s.setBarrier_action b scope)
  · exact ((State.fld_congr (hk.rd _ (barCfg_not_commit _ _))).trans (State.fld_congr (s.fillBarrier_cfg b trig scope hlt))).trans
      (s.setBarrier_scope b hs)
  · simp only [barrierEntryWords, List.mem_cons, List.not_mem_nil, or_false, not_or] at ha
    obtain ⟨h1, h2, h3, h4, h5, h6, h7, h8, h9, h10⟩ := ha
    rw [hk.rd a (by simp [commitWords, *]), s.fillBarrier_rd b trig scope n (by simp [barrierWords, *])]
  · exact (hf.mono (ps := [.act]) (ws := barrierEntryWords b n) (by decide) (by simp [barrierWords, barrierEntryWords])).step hk.changes (by decide)
      (by simp [commitWords, barrierEntryWords])

/-- What the commit of a barrier leaves, where its moment has passed. -/
theorem State.commitBarrier_late {b : BarrierMsg} {trig scope n : Nat} (ht : trig = 1 ∨ trig = 2) (hm : s.mainAbsent = false)
    (hn : s.freeEntry = some n) (hp : s.passed trig b.at_ = true) :
    ∃ t, s.commitBarrier b trig scope = (none, t) ∧ t.act.armed = s.act.armed ∧ t.fld (Fd.AE_STAT_STATE n) = 4 ∧ t.fld (Fd.AE_STAT_REASON n) = 1 ∧
      t.on Fd.TIM_EVT_ACT_LATE = true ∧ Only [.act, .regs, .firn] s t := by
  have hk := State.commitEntry_late (State.freeEntry_lt hn) ((s.fillBarrier_tooLate b ht scope n).trans hp)
  have hf := s.fillBarrier_changes b trig scope n
  refine ⟨_, (State.commitBarrier_eq hm hn).trans (by rw [if_neg (by rw [hk.stat]; decide)]), ?_, hk.stat, hk.reason, hk.event, ?_⟩
  · rw [hk.armed]
    exact congrArg Actions.armed (hf.1.2 .act (by decide))
  · exact (hf.1.mono (by decide)).trans (hk.changes.1.mono (by decide))
end Sys2Proof.Machine
end

section
-- In order: the one text holds more declarations than asynchronous elaboration has threads for.
set_option Elab.async false

/-! PROOFS. Pair barriers are proposed, accepted and cancelled (R491), and the planned swap exchanges its tick records and READY (R494). -/

namespace Sys2Proof.Machine

variable {s t u : State} {ps : List Part} {ws : List Nat}

/-! ### Frames that leave -/

theorem State.foldl_send_length (f : Nat × List Nat → Out) (l : List (Nat × List Nat)) (s : State) :
    (l.foldl (fun (s : State) x => s.send (f x)) s).out.length = s.out.length + l.length := by
  induction l generalizing s with
  | nil => rfl
  | cons x xs ih =>
    rw [List.foldl_cons, ih, List.length_cons]
    show (_ :: s.out).length + xs.length = _
    rw [List.length_cons]
    omega

/-- A Craori frame leaves on each of its paths that stands. -/
theorem State.craEach_length (s : State) (kind : OutKind) (ty level : Nat) (paths : List (Nat × List Nat)) :
    (s.craEach kind ty level paths).out.length = s.out.length + (paths.filter (fun x => decide (x.1 < 2) || !s.portAbsent)).length :=
  State.foldl_send_length _ _ _

theorem State.cra_lanes_length (s : State) (kind : OutKind) (ty level : Nat) (fields : List Nat) :
    (s.cra kind ty level [0, 1] fields).out.length = s.out.length + 2 := by
  unfold State.cra
  rw [State.craEach_length]
  rfl

/-! ### The barriers under agreement -/

theorem Changes.endEntry (h : Changes ps ws s t) {n st r : Nat} (hp : Part.act ∈ ps := by repeat constructor)
    (h1 : Reg.AE_STAT n ∈ ws := by repeat constructor) (h2 : Reg.TIM_ACT_USED ∈ ws := by repeat constructor) : Changes ps ws s (t.endEntry n st r) := by
  unfold State.endEntry State.setArmed
  exact (((((h.set h1).set h1).upd_act hp).upd_act hp)).set h2

/-- What an ID names is under that ID. -/
theorem State.pairBar_id {id : Nat} {x : PairBar} (h : s.pairBar id = some x) : x.msg.id.val = id := by
  simpa using List.find?_some h

theorem PairBar.filter_idle {l : List PairBar} {id : Nat} (h : l.find? (fun x => x.msg.id.val == id) = none) :
    l.filter (fun x => x.msg.id.val != id) = l :=
  List.filter_eq_self.mpr fun x hx => by simpa using List.find?_eq_none.mp h x hx

/-- No barrier is under an ID once that has been dropped. -/
theorem PairBar.find_filter (l : List PairBar) (id : Nat) :
    (l.filter (fun x => x.msg.id.val != id)).find? (fun x => x.msg.id.val == id) = none :=
  List.find?_eq_none.mpr fun x hx => by simpa using (List.mem_filter.mp hx).2

/-- The state without the barriers under an ID, their entries aside. -/
def State.forgetBar (s : State) (id : Nat) : State :=
  { s with pair := { s.pair with bars := s.pair.bars.filter (fun x => x.msg.id.val != id) } }

theorem State.forgetBar_pairBar (s : State) (id : Nat) : (s.forgetBar id).pairBar id = none := PairBar.find_filter _ _

theorem State.forgetBar_changes (s : State) (id : Nat) : Changes [.pair] [] s (s.forgetBar id) := (Changes.refl [.pair] [] s).upd_pair

theorem State.dropBar_pairBar (s : State) (id : Nat) : (s.dropBar id).pairBar id = none := State.forgetBar_pairBar _ id

theorem State.dropBar_unarmed {id : Nat} (h : (s.pairBar id).bind (·.entry) = none) : s.dropBar id = s.forgetBar id := by
  unfold State.dropBar
  rw [h]
  rfl

theorem State.dropBar_none {id : Nat} (h : s.pairBar id = none) : s.dropBar id = s := by
  rw [State.dropBar_unarmed (by rw [h]; rfl)]
  unfold State.forgetBar
  rw [PairBar.filter_idle h]

theorem State.dropBar_armed {id n : Nat} {x : PairBar} (h : s.pairBar id = some x) (hx : x.entry = some n) (hs : s.fld (Fd.AE_STAT_STATE n) = 1) :
    s.dropBar id = (s.endEntry n 3 3).forgetBar id := by
  unfold State.dropBar
  rw [h, Option.bind_some, hx]
  dsimp only
  rw [if_pos hs]
  rfl

theorem State.putBar_bars {x : PairBar} (h : s.pairBar x.msg.id.val = none) : (s.putBar x).pair = { s.pair with bars := s.pair.bars ++ [x] } := by
  show { s.pair with bars := s.pair.bars.filter (fun (y : PairBar) => y.msg.id.val != x.msg.id.val) ++ [x] } = _
  rw [PairBar.filter_idle h]

theorem State.putBar_changes (s : State) (x : PairBar) : Changes [.pair] [] s (s.putBar x) := (Changes.refl [.pair] [] s).upd_pair

/-! ### A swap stands ARMED -/

/-- The words of a swap. -/
def swapWords : List Nat := [Reg.PAI_SWAP_STAT, Reg.PAI_SWAP_IDX_LO, Reg.PAI_SWAP_IDX_HI]

theorem State.armSwap_changes (s : State) (v : BitVec 64) : Changes [.pair] swapWords s (s.armSwap v) :=
  ((((Changes.refl [.pair] swapWords s).set (f := Fd.PAI_SWAP_STAT_STATE) (v := 2)).wr (a := Reg.PAI_SWAP_IDX_LO)).wr (a := Reg.PAI_SWAP_IDX_HI)).upd_pair

theorem State.armSwap_pair (s : State) (v : BitVec 64) :
    (s.armSwap v).pair = { s.pair with swapN := some v, recs := [], readyMark := false, sentGo := none } := rfl

theorem State.armSwap_rd (s : State) (v : BitVec 64) (a : Nat) : (s.armSwap v).rd a =
    (((s.set Fd.PAI_SWAP_STAT_STATE 2).wr Reg.PAI_SWAP_IDX_LO (v.setWidth 32)).wr Reg.PAI_SWAP_IDX_HI ((v >>> 32).setWidth 32)).rd a := rfl

theorem State.armSwap_state (s : State) (v : BitVec 64) : (s.armSwap v).swapState = 2 := by
  unfold State.swapState
  rw [State.fld_congr (s.armSwap_rd v _), State.fld, State.rd_wr_ne _ _ _ _ (by decide), State.rd_wr_ne _ _ _ _ (by decide)]
  exact State.fld_set_small _ Fd.PAI_SWAP_STAT_STATE 2

theorem State.armSwap_lo (s : State) (v : BitVec 64) : (s.armSwap v).rd Reg.PAI_SWAP_IDX_LO = v.setWidth 32 := by
  rw [State.armSwap_rd, State.rd_wr_ne _ _ _ _ (by decide), State.rd_wr_self]

theorem State.armSwap_hi (s : State) (v : BitVec 64) : (s.armSwap v).rd Reg.PAI_SWAP_IDX_HI = (v >>> 32).setWidth 32 := by
  rw [State.armSwap_rd, State.rd_wr_self]

theorem swapWords_not_entry (b : BarrierMsg) {n : Nat} (hn : n < 4096) {a : Nat} (ha : a ∈ barrierEntryWords b n) : a ∉ swapWords := by
  simp only [barrierEntryWords, swapWords, Reg.AE_CTRL, Reg.AE_TRIG_LO, Reg.AE_TRIG_HI, Reg.AE_ARG0, Reg.AE_ARG1, Reg.AE_STAT, Reg.AE_SEQ, Reg.AE_LATE,
    Reg.TIM_ACT_USED, Reg.BAR_CFG, Reg.PAI_SWAP_STAT, Reg.PAI_SWAP_IDX_LO, Reg.PAI_SWAP_IDX_HI, List.mem_cons, List.not_mem_nil, or_false, not_or] at ha ⊢
  omega

/-! ### Proposals -/

/-- A barrier whose entry stands ARMED, under agreement; the entry of a swap with the words of the swap. -/
def State.agreeBar (s : State) (b : BarrierMsg) (n : Nat) : State :=
  if b.action.val = actRoleSwap then (s.putBar ⟨b, some n⟩).armSwap b.at_ else s.putBar ⟨b, some n⟩

theorem State.agreeBar_plain {b : BarrierMsg} (n : Nat) (h : b.action.val ≠ actRoleSwap) : s.agreeBar b n = s.putBar ⟨b, some n⟩ := if_neg h

theorem State.agreeBar_swap {b : BarrierMsg} (n : Nat) (h : b.action.val = actRoleSwap) : s.agreeBar b n = (s.putBar ⟨b, some n⟩).armSwap b.at_ := if_pos h

theorem exec_pairPropose (b : BarrierMsg) (s : State) : exec (.pairBarrierPropose b) s =
    .next (if s.fld Fd.PAI_STAT_ROLE = 2 ∧ s.pairUp ∧ (s.pairBar b.id).all (fun x => x.msg != b) then
      (match (s.dropBar b.id.val).commitBarrier b 1 0 with
        | (none, s) => s
        | (some n, s) => (s.agreeBar b n).cra .barAccept 5 (s.agreeBar b n).pairLevel [0, 1] [b.id.val])
    else s) := by
  change execPairBarrierPropose b s = _
  unfold execPairBarrierPropose
  dsimp only
  split
  · rcases (s.dropBar b.id.val).commitBarrier b 1 0 with ⟨_ | n, u⟩
    · rfl
    · rfl
  · rfl

/-- A proposal that the standby does not hold yet. -/
theorem pairPropose_taken {b : BarrierMsg} (hr : s.fld Fd.PAI_STAT_ROLE = 2) (hu : s.pairUp = true) (hb : s.pairBar b.id.val = none) :
    exec (.pairBarrierPropose b) s = .next (match s.commitBarrier b 1 0 with
      | (none, s) => s
      | (some n, s) => (s.agreeBar b n).cra .barAccept 5 (s.agreeBar b n).pairLevel [0, 1] [b.id.val]) := by
  rw [exec_pairPropose, if_pos ⟨hr, hu, by rw [hb]; rfl⟩, State.dropBar_none hb]

theorem State.passed_sidx {v : BitVec 64} : s.passed 1 v = decide (diff64 s.clk.sidx v > 0) := rfl

theorem State.passed_sidx_off {v : BitVec 64} (h : diff64 s.clk.sidx v ≤ 0) : s.passed 1 v = false := decide_eq_false (by omega)

theorem State.BarrierSet.pair {b : BarrierMsg} {trig scope n : Nat} (h : State.BarrierSet b trig scope n s t) : t.pair = s.pair :=
  h.changes.1.2 .pair (by decide)

theorem State.BarrierSet.pairBar {b : BarrierMsg} {trig scope n : Nat} (h : State.BarrierSet b trig scope n s t) (id : Nat) : t.pairBar id = s.pairBar id :=
  congrArg (fun p : Pair => p.bars.find? (fun (x : PairBar) => x.msg.id.val == id)) h.pair

/-- The words of a barrier's entry after a change of parts alone. -/
theorem State.BarrierSet.moved {b : BarrierMsg} {trig scope n : Nat} (h : State.BarrierSet b trig scope n s t) (hr : ∀ a ∈ barrierEntryWords b n, u.rd a = t.rd a) :
    u.fld (Fd.AE_STAT_STATE n) = 1 ∧ u.trigger n = ⟨trig, 6, 0, false, b.at_⟩ ∧ u.fld (Fd.BAR_CFG_ACTION b.id.val) = b.action.val ∧
      u.fld (Fd.BAR_CFG_SCOPE b.id.val) = scope := by
  refine ⟨(State.fld_congr (hr _ ?_)).trans h.stat, ?_, (State.fld_congr (hr _ ?_)).trans h.action, (State.fld_congr (hr _ ?_)).trans h.scope⟩
  · simp [barrierEntryWords, Fd.AE_STAT_STATE]
  · rw [← h.trigger]
    unfold State.trigger
    simp only [State.on, State.fld, Fd.AE_CTRL_TRIG, Fd.AE_CTRL_KIND, Fd.AE_CTRL_JOB, Fd.AE_CTRL_EVERY,
      hr (Reg.AE_CTRL n) (by simp [barrierEntryWords]), hr (Reg.AE_TRIG_LO n) (by simp [barrierEntryWords]),
      hr (Reg.AE_TRIG_HI n) (by simp [barrierEntryWords])]
  · simp [barrierEntryWords, Fd.BAR_CFG_ACTION]
  · simp [barrierEntryWords, Fd.BAR_CFG_SCOPE]


/-- What the standby leaves of a proposal it takes. -/
theorem State.agreeBar_plain_spec {b : BarrierMsg} {trig scope n : Nat} (h : State.BarrierSet b trig scope n s t) (hb : s.pairBar b.id.val = none)
    (ha : b.action.val ≠ actRoleSwap) : (t.agreeBar b n).pair = { s.pair with bars := s.pair.bars ++ [⟨b, some n⟩] } ∧
      (∀ a, (t.agreeBar b n).rd a = t.rd a) ∧ Changes [.act, .pair] (barrierEntryWords b n) s (t.agreeBar b n) := by
  rw [State.agreeBar_plain n ha]
  refine ⟨?_, fun _ => rfl, (h.changes.mono (ps := [.act, .pair]) (by decide) (List.Subset.refl _)).step (State.putBar_changes t _)⟩
  rw [State.putBar_bars ((h.pairBar _).trans hb), h.pair]

theorem pairPropose_commits {b : BarrierMsg} {n : Nat} (hr : s.fld Fd.PAI_STAT_ROLE = 2) (hu : s.pairUp = true) (hm : s.mainAbsent = false)
    (hb : s.pairBar b.id.val = none) (hn : s.freeEntry = some n) (ha : b.action.val ≠ actRoleSwap) (hd : diff64 s.clk.sidx b.at_ ≤ 0) :
    ∃ t, exec (.pairBarrierPropose b) s = .next t ∧
      t.pair.bars = s.pair.bars ++ [⟨b, some n⟩] ∧
      t.act.armed = s.act.armed ++ [n] ∧
      t.fld (Fd.AE_STAT_STATE n) = 1 ∧
      (t.trigger n).kind = 6 ∧
      (t.trigger n).trig = 1 ∧
      (t.trigger n).value = b.at_ ∧
      t.fld (Fd.BAR_CFG_ACTION b.id.val) = b.action.val ∧
      t.fld (Fd.BAR_CFG_SCOPE b.id.val) = 0 ∧
      Changes [.act, .pair, .sec, .out] (barrierEntryWords b n) s t := by
  obtain ⟨u, hc, hu'⟩ := State.commitBarrier_timely (b := b) (trig := 1) (scope := 0) (Or.inl rfl) (by decide) hm hn (State.passed_sidx_off hd)
  refine ⟨_, (pairPropose_taken hr hu hb).trans (by rw [hc]), ?_⟩
  dsimp only
  obtain ⟨hp, hrd, hch⟩ := State.agreeBar_plain_spec hu' hb ha
  have hact : (u.agreeBar b n).act = u.act := by rw [State.agreeBar_plain n ha]; rfl
  generalize u.agreeBar b n = v at *
  obtain ⟨h1, h2, h3, h4⟩ := hu'.moved (u := v.cra .barAccept 5 v.pairLevel [0, 1] [b.id.val]) (fun a _ => (State.cra_rd _ _ _ _ _ _ _).trans (hrd a))
  refine ⟨by rw [State.cra_pair, hp], ?_, h1, by rw [h2], by rw [h2], by rw [h2], h3, h4,
    (hch.mono (ps := [.act, .pair, .sec, .out]) (by decide) (List.Subset.refl _)).cra⟩
  rw [show (v.cra .barAccept 5 v.pairLevel [0, 1] [b.id.val]).act = v.act from
    ((Changes.refl [.sec, .out] [] v).cra (kind := .barAccept)).1.2 .act (by decide), hact, hu'.armed]

/-- What the standby and the active module leave of a swap they agree. -/
theorem State.agreeBar_swap_spec {b : BarrierMsg} {trig scope n : Nat} (h : State.BarrierSet b trig scope n s t)
    (ha : b.action.val = actRoleSwap) :
    (t.agreeBar b n).pair.bars = (t.putBar ⟨b, some n⟩).pair.bars ∧ (t.agreeBar b n).act = t.act ∧ (t.agreeBar b n).pair.swapN = some b.at_ ∧
      (t.agreeBar b n).swapState = 2 ∧ (t.agreeBar b n).rd Reg.PAI_SWAP_IDX_LO = b.at_.setWidth 32 ∧
      (t.agreeBar b n).rd Reg.PAI_SWAP_IDX_HI = (b.at_ >>> 32).setWidth 32 ∧ (t.agreeBar b n).pair.recs = [] ∧
      Only [.act, .pair, .regs] s (t.agreeBar b n) := by
  rw [State.agreeBar_swap n ha]
  refine ⟨rfl, rfl, rfl, State.armSwap_state _ _, State.armSwap_lo _ _, State.armSwap_hi _ _, rfl, ?_⟩
  exact ((h.changes.1.mono (by decide)).trans ((State.putBar_changes t _).1.mono (by decide))).trans ((State.armSwap_changes _ _).1.mono (by decide))

theorem pairPropose_swap {b : BarrierMsg} {n : Nat} (hr : s.fld Fd.PAI_STAT_ROLE = 2) (hu : s.pairUp = true) (hm : s.mainAbsent = false)
    (hb : s.pairBar b.id.val = none) (hn : s.freeEntry = some n) (ha : b.action.val = actRoleSwap) (hd : diff64 s.clk.sidx b.at_ ≤ 0) :
    ∃ t, exec (.pairBarrierPropose b) s = .next t ∧
      t.pair.bars = s.pair.bars ++ [⟨b, some n⟩] ∧
      t.act.armed = s.act.armed ++ [n] ∧
      t.pair.swapN = some b.at_ ∧
      t.swapState = 2 ∧
      t.rd Reg.PAI_SWAP_IDX_LO = b.at_.setWidth 32 ∧ t.rd Reg.PAI_SWAP_IDX_HI = (b.at_ >>> 32).setWidth 32 ∧
      t.pair.recs = [] ∧
      Only [.act, .pair, .sec, .out, .regs] s t := by
  obtain ⟨u, hc, hu'⟩ := State.commitBarrier_timely (b := b) (trig := 1) (scope := 0) (Or.inl rfl) (by decide) hm hn (State.passed_sidx_off hd)
  refine ⟨_, (pairPropose_taken hr hu hb).trans (by rw [hc]), ?_⟩
  dsimp only
  obtain ⟨hbars, hact, h1, h2, h3, h4, h5, h6⟩ := State.agreeBar_swap_spec hu' ha
  rw [State.putBar_bars ((hu'.pairBar _).trans hb), hu'.pair] at hbars
  generalize u.agreeBar b n = v at *
  have hcra : Changes [.sec, .out] [] v (v.cra .barAccept 5 v.pairLevel [0, 1] [b.id.val]) := (Changes.refl [.sec, .out] [] v).cra
  refine ⟨by rw [State.cra_pair, hbars], ?_, by rw [State.cra_pair, h1], (State.cra_fld _ _ _ _ _ _ _).trans h2, by rw [State.cra_rd, h3],
    by rw [State.cra_rd, h4], by rw [State.cra_pair, h5], (h6.mono (by decide)).trans (hcra.1.mono (by decide))⟩
  rw [show (v.cra .barAccept 5 v.pairLevel [0, 1] [b.id.val]).act = v.act from hcra.1.2 .act (by decide), hact, hu'.armed]

theorem pairPropose_late {b : BarrierMsg} {n : Nat} (hr : s.fld Fd.PAI_STAT_ROLE = 2) (hu : s.pairUp = true) (hm : s.mainAbsent = false)
    (hb : s.pairBar b.id.val = none) (hn : s.freeEntry = some n) (hd : diff64 s.clk.sidx b.at_ > 0) :
    ∃ t, exec (.pairBarrierPropose b) s = .next t ∧
      t.pair = s.pair ∧
      t.act.armed = s.act.armed ∧
      t.fld (Fd.AE_STAT_STATE n) = 4 ∧
      t.fld (Fd.AE_STAT_REASON n) = 1 ∧
      t.on Fd.TIM_EVT_ACT_LATE = true ∧
      Only [.act, .regs, .firn] s t := by
  obtain ⟨u, hc, h1, h2, h3, h4, h5⟩ := State.commitBarrier_late (b := b) (trig := 1) (scope := 0) (Or.inl rfl) hm hn (decide_eq_true hd)
  exact ⟨u, (pairPropose_taken hr hu hb).trans (by rw [hc]), h5.2 .pair (by decide), h1, h2, h3, h4, h5⟩

theorem pairPropose_idle {b : BarrierMsg}
    (h : s.fld Fd.PAI_STAT_ROLE ≠ 2 ∨ s.pairUp = false ∨ (s.pairBar b.id).any (fun x => x.msg == b) = true) :
    exec (.pairBarrierPropose b) s = .next s := by
  rw [exec_pairPropose, if_neg]
  rintro ⟨hr, hu, hb⟩
  obtain h | h | h := h
  · exact h hr
  · rw [h] at hu
    exact absurd hu (by decide)
  · rcases hx : s.pairBar b.id with _ | x
    · rw [hx] at h
      exact absurd h Bool.false_ne_true
    · rw [hx] at h hb
      simp only [Option.any_some, Option.all_some, bne_iff_ne, beq_iff_eq] at h hb
      exact hb h

/-! ### Answers -/

theorem exec_pairAccept {id : Fin 16} {x : PairBar} (hb : s.pairBar id = some x) : exec (.pairBarrierAccept id) s =
    .next (if s.isActive ∧ x.entry.isNone ∧ diff64 s.clk.sidx x.msg.at_ < -100 then
      (match s.commitBarrier x.msg 1 0 with
        | (none, s) => s
        | (some n, s) => s.agreeBar x.msg n)
    else s) := by
  change execPairBarrierAccept id s = _
  unfold execPairBarrierAccept
  rw [hb]
  rfl

/-- ACCEPT of a proposal that stands: the active module commits its own entry. -/
theorem pairAccept_commits {id : Fin 16} {x : PairBar} {n : Nat} (hb : s.pairBar id = some x) (hact : s.isActive = true) (hx : x.entry = none)
    (hd : diff64 s.clk.sidx x.msg.at_ < -100) (hm : s.mainAbsent = false) (hn : s.freeEntry = some n) :
    ∃ u, State.BarrierSet x.msg 1 0 n s u ∧ exec (.pairBarrierAccept id) s = .next (u.agreeBar x.msg n) := by
  obtain ⟨u, hc, hu⟩ := State.commitBarrier_timely (b := x.msg) (trig := 1) (scope := 0) (Or.inl rfl) (by decide) hm hn
    (State.passed_sidx_off (by omega))
  exact ⟨u, hu, by rw [exec_pairAccept hb, if_pos ⟨hact, by rw [hx]; rfl, hd⟩, hc]⟩

theorem pairAccept_plain {id : Fin 16} {x : PairBar} {n : Nat} (hb : s.pairBar id = some x) (hact : s.isActive = true) (hx : x.entry = none)
    (hd : diff64 s.clk.sidx x.msg.at_ < -100) (hm : s.mainAbsent = false) (hn : s.freeEntry = some n) (ha : x.msg.action.val ≠ actRoleSwap) :
    ∃ t, exec (.pairBarrierAccept id) s = .next t ∧
      t.pairBar id = some ⟨x.msg, some n⟩ ∧
      t.act.armed = s.act.armed ++ [n] ∧
      t.fld (Fd.AE_STAT_STATE n) = 1 ∧
      (t.trigger n).value = x.msg.at_ ∧
      Only [.act, .pair, .regs] s t := by
  obtain ⟨u, hu, he⟩ := pairAccept_commits hb hact hx hd hm hn
  rw [State.agreeBar_plain n ha] at he
  obtain ⟨h1, h2, -⟩ := hu.moved (u := u.putBar ⟨x.msg, some n⟩) (fun _ _ => rfl)
  refine ⟨_, he, ?_, hu.armed, h1, by rw [h2], (hu.changes.1.mono (by decide)).trans ((State.putBar_changes u _).1.mono (by decide))⟩
  rw [← State.pairBar_id hb]
  exact u.putBar_self ⟨x.msg, some n⟩

theorem pairAccept_swap {id : Fin 16} {x : PairBar} {n : Nat} (hb : s.pairBar id = some x) (hact : s.isActive = true) (hx : x.entry = none)
    (hd : diff64 s.clk.sidx x.msg.at_ < -100) (hm : s.mainAbsent = false) (hn : s.freeEntry = some n) (ha : x.msg.action.val = actRoleSwap) :
    ∃ t, exec (.pairBarrierAccept id) s = .next t ∧
      t.pairBar id = some ⟨x.msg, some n⟩ ∧
      t.act.armed = s.act.armed ++ [n] ∧
      t.pair.swapN = some x.msg.at_ ∧
      t.swapState = 2 ∧
      Only [.act, .pair, .regs] s t := by
  obtain ⟨u, hu, he⟩ := pairAccept_commits hb hact hx hd hm hn
  obtain ⟨hbars, hacts, h1, h2, -, -, -, h6⟩ := State.agreeBar_swap_spec hu ha
  refine ⟨_, he, ?_, by rw [hacts, hu.armed], h1, h2, h6⟩
  rw [← State.pairBar_id hb]
  exact (congrArg (List.find? (fun (y : PairBar) => y.msg.id.val == x.msg.id.val)) hbars).trans (u.putBar_self ⟨x.msg, some n⟩)

theorem pairAccept_idle {id : Fin 16}
    (h : s.isActive = false ∨ (s.pairBar id).all (fun x => x.entry.isSome || decide (diff64 s.clk.sidx x.msg.at_ ≥ -100)) = true) :
    exec (.pairBarrierAccept id) s = .next s := by
  rcases hb : s.pairBar id with _ | x
  · change execPairBarrierAccept id s = _
    unfold execPairBarrierAccept
    rw [hb]
  · rw [exec_pairAccept hb, if_neg]
    rintro ⟨hact, hx, hd⟩
    obtain h | h := h
    · rw [h] at hact
      exact absurd hact (by decide)
    · rw [hb, Option.all_some, Bool.or_eq_true, decide_eq_true_iff] at h
      obtain h | h := h
      · rw [Option.isNone_iff_eq_none.mp hx] at h
        exact absurd h (by decide)
      · omega

/-! ### Cancels -/

/-- A swap given up: its words and what the pair held of it. -/
def State.endSwap (s : State) : State :=
  let s := (s.set Fd.PAI_SWAP_STAT_STATE 5).set Fd.PAI_SWAP_STAT_RESULT 6
  { s with pair := { s.pair with recs := [], readyMark := false, swapN := none, sentGo := none } }

theorem State.abortSwap_eq (h : s.swapping = true) : s.abortSwap = (s.dropBar barRoleSwap).endSwap.raise Fd.PAI_EVT_SWAP_ABORT noObj [] := by
  unfold State.abortSwap
  rw [if_pos h]
  rfl

theorem State.endSwap_changes (s : State) : Changes [.pair] [Reg.PAI_SWAP_STAT] s s.endSwap :=
  (((Changes.refl [.pair] [Reg.PAI_SWAP_STAT] s).set (f := Fd.PAI_SWAP_STAT_STATE) (v := 5)).set (f := Fd.PAI_SWAP_STAT_RESULT) (v := 6)).upd_pair

theorem State.endSwap_rd (s : State) (a : Nat) : s.endSwap.rd a = ((s.set Fd.PAI_SWAP_STAT_STATE 5).set Fd.PAI_SWAP_STAT_RESULT 6).rd a := rfl

theorem State.endSwap_state (s : State) : s.endSwap.fld Fd.PAI_SWAP_STAT_STATE = 5 := by
  rw [State.fld_congr (s.endSwap_rd _), State.fld_set_bits _ Fd.PAI_SWAP_STAT_RESULT Fd.PAI_SWAP_STAT_STATE _ rfl (by decide)]
  exact State.fld_set_small _ Fd.PAI_SWAP_STAT_STATE 5

theorem State.endSwap_result (s : State) : s.endSwap.fld Fd.PAI_SWAP_STAT_RESULT = 6 := by
  rw [State.fld_congr (s.endSwap_rd _)]
  exact State.fld_set_small _ Fd.PAI_SWAP_STAT_RESULT 6

/-- What the end of a swap that does not happen leaves, where its barrier has no entry yet (R495). -/
theorem State.abortSwap_unarmed (h : s.swapping = true) (hb : (s.pairBar barRoleSwap).bind (·.entry) = none) :
    s.abortSwap.pairBar barRoleSwap = none ∧ s.abortSwap.swapState = 5 ∧ s.abortSwap.fld Fd.PAI_SWAP_STAT_RESULT = 6 ∧
      s.abortSwap.on Fd.PAI_EVT_SWAP_ABORT = true ∧ Only [.pair, .regs, .firn] s s.abortSwap := by
  rw [State.abortSwap_eq h, State.dropBar_unarmed hb]
  have hf := (s.forgetBar_changes barRoleSwap).1.mono (qs := [.pair, .regs, .firn]) (by decide)
  have h1 := (s.forgetBar barRoleSwap).endSwap_changes.1.mono (qs := [.pair, .regs, .firn]) (by decide)
  have hs := (s.forgetBar barRoleSwap).endSwap_state
  have hr := (s.forgetBar barRoleSwap).endSwap_result
  have hb : (s.forgetBar barRoleSwap).endSwap.pairBar barRoleSwap = none := s.forgetBar_pairBar barRoleSwap
  generalize (s.forgetBar barRoleSwap).endSwap = u at *
  have he : Changes [.firn] [Reg.PAI_EVT, Reg.PAI_EVT + 4] u (u.raise Fd.PAI_EVT_SWAP_ABORT noObj []) :=
    (Changes.refl [.firn] _ u).raise (f := Fd.PAI_EVT_SWAP_ABORT)
  refine ⟨?_, ?_, ?_, State.raise_on _ _ _ _ _ (by decide) (by decide) rfl (by decide), (hf.trans h1).trans (he.1.mono (by decide))⟩
  · rw [← hb]
    exact congrArg (fun p : Pair => p.bars.find? (fun (x : PairBar) => x.msg.id.val == barRoleSwap)) (he.1.2 .pair (by decide))
  · exact (he.fld (by decide) (by decide)).trans hs
  · exact (he.fld (by decide) (by decide)).trans hr

theorem exec_pairCancel (id : Fin 16) (s : State) : exec (.pairBarrierCancel id) s =
    .next (if s.isActive then s.cancelBar id else
      match s.pairBar id with
      | some x => (if x.msg.action.val = actRoleSwap then s.abortSwap else s).dropBar id
      | none => s) := rfl

theorem State.cancelBar_eq {id : Nat} {x : PairBar} (hb : s.pairBar id = some x) (hact : s.isActive = true) (hx : x.entry = none)
    (hd : diff64 s.clk.sidx x.msg.at_ ≥ -100) : s.cancelBar id =
      ((if x.msg.action.val = actRoleSwap then s.abortSwap else s).dropBar id).cra .barCancel 5
        (if x.msg.action.val = actRoleSwap then s.abortSwap else s).pairLevel [0, 1] [id] := by
  unfold State.cancelBar
  rw [hb]
  dsimp only
  rw [if_pos ⟨hact, by rw [hx]; rfl, hd⟩]

theorem pairCancel_plain {id : Fin 16} {x : PairBar} (hb : s.pairBar id = some x) (hact : s.isActive = true) (hx : x.entry = none)
    (hd : diff64 s.clk.sidx x.msg.at_ ≥ -100) (ha : x.msg.action.val ≠ actRoleSwap) :
    ∃ t, exec (.pairBarrierCancel id) s = .next t ∧ t.pairBar id = none ∧ Only [.pair, .sec, .out] s t := by
  refine ⟨_, (exec_pairCancel id s).trans (by rw [if_pos hact, State.cancelBar_eq hb hact hx hd, if_neg ha]), ?_, ?_⟩
  · unfold State.pairBar
    rw [State.cra_pair]
    exact s.dropBar_pairBar id
  · rw [State.dropBar_unarmed (by rw [hb, Option.bind_some, hx])]
    have hf : Only [.pair, .sec, .out] s (s.forgetBar id) := by
      refine ⟨rfl, fun p hp => ?_⟩
      cases p
      case pair => exact absurd (by decide) hp
      all_goals rfl
    exact hf.trans ((State.cra_keeps (F := 8388640) rfl (Keeps.refl _ _)).only _ (fun p => by cases p <;> decide))

theorem pairCancel_swap {id : Fin 16} {x : PairBar} (hb : s.pairBar id = some x) (hact : s.isActive = true) (hx : x.entry = none)
    (hd : diff64 s.clk.sidx x.msg.at_ ≥ -100) (ha : x.msg.action.val = actRoleSwap) (hid : id.val = barRoleSwap) (hs : s.swapping = true) :
    ∃ t, exec (.pairBarrierCancel id) s = .next t ∧
      t.pairBar id = none ∧
      t.swapState = 5 ∧
      t.fld Fd.PAI_SWAP_STAT_RESULT = 6 ∧
      t.on Fd.PAI_EVT_SWAP_ABORT = true ∧
      Only [.pair, .sec, .out, .regs, .firn] s t := by
  obtain ⟨h1, h2, h3, h4, h5⟩ := State.abortSwap_unarmed hs (by rw [← hid, hb, Option.bind_some, hx])
  rw [← hid] at h1
  refine ⟨_, (exec_pairCancel id s).trans (by rw [if_pos hact, State.cancelBar_eq hb hact hx hd, if_pos ha, State.dropBar_none h1]), ?_, ?_, ?_, ?_, ?_⟩
  · unfold State.pairBar
    rw [State.cra_pair]
    exact h1
  · exact (State.cra_fld _ _ _ _ _ _ _).trans h2
  · exact (State.cra_fld _ _ _ _ _ _ _).trans h3
  · exact (congrArg (· == 1) (State.cra_fld _ _ _ _ _ _ Fd.PAI_EVT_SWAP_ABORT)).trans h4
  · exact (h5.mono (by decide)).trans (((Changes.refl [.sec, .out] [] _).cra).1.mono (by decide))

theorem pairCancel_arrives {id : Fin 16} {x : PairBar} {n : Nat} (hb : s.pairBar id = some x) (hact : s.isActive = false) (hx : x.entry = some n)
    (hs : s.fld (Fd.AE_STAT_STATE n) = 1) (ha : x.msg.action.val ≠ actRoleSwap) :
    ∃ t, exec (.pairBarrierCancel id) s = .next t ∧
      t.pairBar id = none ∧
      t.fld (Fd.AE_STAT_STATE n) = 3 ∧
      t.fld (Fd.AE_STAT_REASON n) = 3 ∧
      (t.act.armed = s.act.armed.filter (fun m => m != n)) ∧
      Changes [.act, .pair] [Reg.AE_STAT n, Reg.TIM_ACT_USED] s t := by
  have he := s.endEntry_spec n (st := 3) (reason := 3) (by decide) (by decide)
  refine ⟨(s.endEntry n 3 3).forgetBar id, (exec_pairCancel id s).trans ?_, State.forgetBar_pairBar _ _, he.stat, he.reason, he.armed,
    (he.changes.mono (by decide) (List.Subset.refl _)).step (State.forgetBar_changes _ _)⟩
  rw [if_neg (by rw [hact]; decide), hb]
  dsimp only
  rw [if_neg ha, State.dropBar_armed hb hx hs]

theorem pairCancel_idle {id : Fin 16} (hb : s.pairBar id = none) : exec (.pairBarrierCancel id) s = .next s := by
  rw [exec_pairCancel]
  unfold State.cancelBar
  rw [hb, ite_self]

/-! ### Tick records and READY -/

theorem tickRecord_held {r : TickRec} {n : BitVec 64} (hn : s.pair.swapN = some n) (hr : s.fld Fd.PAI_STAT_ROLE = 2)
    (hs : s.swapState = 2 ∨ s.swapState = 3) (hd : 1 ≤ diff64 n r.sidx ∧ diff64 n r.sidx ≤ 100) (ha : s.pair.recs.all (fun x => x.sidx != r.sidx) = true) :
    ∃ t, exec (.tickRecord r) s = .next t ∧
      t.pair.recs = s.pair.recs ++ [r] ∧
      t.swapState = 3 ∧
      Changes [.pair] [Reg.PAI_SWAP_STAT] s t := by
  refine ⟨{ s with pair := { s.pair with recs := s.pair.recs ++ [r] } }.set Fd.PAI_SWAP_STAT_STATE 3, ?_, rfl, ?_, ((Changes.refl [.pair] [Reg.PAI_SWAP_STAT] s).upd_pair).set⟩
  · change execTickRecord r s = _
    unfold execTickRecord
    rw [hn]
    dsimp only
    rw [if_pos ⟨hr, hs, hd.1, hd.2, ha⟩]
  · unfold State.swapState
    exact State.fld_set_small _ Fd.PAI_SWAP_STAT_STATE 3

theorem tickRecord_idle {r : TickRec} (h : s.fld Fd.PAI_STAT_ROLE ≠ 2 ∨ (s.swapState ≠ 2 ∧ s.swapState ≠ 3) ∨ s.pair.swapN = none ∨
    s.pair.recs.any (fun x => x.sidx == r.sidx) = true) : exec (.tickRecord r) s = .next s := by
  change execTickRecord r s = _
  unfold execTickRecord
  rcases hn : s.pair.swapN with _ | n
  · rfl
  · dsimp only
    rw [if_neg]
    rintro ⟨hr, hs, -, -, ha⟩
    obtain h | ⟨h2, h3⟩ | h | h := h
    · exact h hr
    · exact hs.elim h2 h3
    · rw [hn] at h
      cases h
    · obtain ⟨x, hx, he⟩ := List.any_eq_true.mp h
      have := List.all_eq_true.mp ha x hx
      rw [beq_iff_eq] at he
      simp [he] at this

theorem swapReady_arrives {n : BitVec 64} (hn : s.pair.swapN = some n) (hact : s.isActive = true) (hs : s.swapState = 3) :
    ∃ t, exec .swapReady s = .next t ∧ t.pair.readyMark = true ∧ Only [.pair] s t := by
  refine ⟨{ s with pair := { s.pair with readyMark := true } }, ?_, rfl, rfl, fun p hp => ?_⟩
  · change execSwapReady s = _
    unfold execSwapReady
    rw [if_pos hact, if_pos ⟨by rw [hn]; rfl, hs⟩]
  · cases p
    case pair => exact absurd (by decide) hp
    all_goals rfl

/-- READY sent or received. -/
def State.markReady (s : State) : State := { s with pair := { s.pair with readyMark := true } }

theorem swapReady_sent {n : BitVec 64} (hn : s.pair.swapN = some n) (hr : s.fld Fd.PAI_STAT_ROLE = 2) (hi : s.clk.sidx = n - 10)
    (hm : s.pair.readyMark = false) (hh : s.holdsRecords n = true) (hl : s.lanesOk = true) (hw : s.warmReady = true) :
    ∃ t, exec .swapReady s = .next t ∧
      t.pair.readyMark = true ∧
      t.out.head?.isSome = true ∧
      Only [.pair, .sec, .out] s t := by
  refine ⟨s.markReady.cra .ready 8 s.pairLevel [0, 1] [s.clk.sidx.toNat], ?_, by rw [State.cra_pair]; rfl, ?_, ?_⟩
  · change execSwapReady s = _
    unfold execSwapReady
    rw [if_neg (by unfold State.isActive; rw [hr]; decide)]
    unfold State.offerReady
    rw [hn]
    dsimp only
    rw [if_pos ⟨hr, hi, by rw [hm]; decide, hh, hl, hw⟩]
    rfl
  · rw [List.isSome_head?, ← List.length_pos_iff, State.cra_lanes_length]
    omega
  · have hf : Only [.pair, .sec, .out] s s.markReady := by
      refine ⟨rfl, fun p hp => ?_⟩
      cases p
      case pair => exact absurd (by decide) hp
      all_goals rfl
    exact hf.trans ((State.cra_keeps (F := 8388640) rfl (Keeps.refl _ _)).only _ (fun p => by cases p <;> decide))

theorem swapReady_idle (hact : s.isActive = true) (h : s.swapState ≠ 3 ∨ s.pair.swapN = none) : exec .swapReady s = .next s := by
  change execSwapReady s = _
  unfold execSwapReady
  rw [if_pos hact, if_neg]
  rintro ⟨hn, hs⟩
  obtain h | h := h
  · exact h hs
  · rw [h] at hn
    exact absurd hn (by decide)

/-- Settles O20, clause by clause: what the standby and the active module leave of a proposal, an answer, a cancel, a tick record and READY. -/
theorem pairBarriersAreAgreed : Obligations.PairBarriersAreAgreed := by
  unfold Obligations.PairBarriersAreAgreed
  exact ⟨fun _ _ _ => pairPropose_commits, fun _ _ _ => pairPropose_swap, fun _ _ _ => pairPropose_late, fun _ s h => ⟨s, pairPropose_idle h, rfl⟩,
    fun _ _ _ _ => pairAccept_plain, fun _ _ _ _ => pairAccept_swap, fun _ s h => ⟨s, pairAccept_idle h, rfl⟩, fun _ _ _ => pairCancel_plain,
    fun _ _ _ _ => pairCancel_arrives, fun _ _ _ => pairCancel_swap, fun _ s h => ⟨s, pairCancel_idle h, rfl⟩, fun _ _ _ => tickRecord_held,
    fun _ s h => ⟨s, tickRecord_idle h, rfl⟩, fun _ _ => swapReady_arrives, fun _ _ => swapReady_sent, fun s h h' => ⟨s, swapReady_idle h h', rfl⟩⟩
end Sys2Proof.Machine
end

section
-- In order: the one text holds more declarations than asynchronous elaboration has threads for.
set_option Elab.async false

/-! PROOFS. Federation barriers are proposed, acknowledged, confirmed or given up, and an adoption is proposed (R492, R509, R511). -/

namespace Sys2Proof.Machine

variable {s t u : State} {ps : List Part} {ws : List Nat}

/-! ### What the federation reads -/

theorem State.fedOn_of (h1 : t.rd Reg.PAI_FED_CTRL = s.rd Reg.PAI_FED_CTRL) (h2 : t.rd Reg.PAI_STAT = s.rd Reg.PAI_STAT)
    (h3 : t.rd Reg.PRT_STAT = s.rd Reg.PRT_STAT) : t.fedOn = s.fedOn := by
  unfold State.fedOn State.isActive State.portAbsent State.on
  rw [State.fld_congr (f := Fd.PAI_FED_CTRL_EN) h1, State.fld_congr (f := Fd.PAI_STAT_ROLE) h2, State.fld_congr (f := Fd.PRT_STAT_PORT_ABSENT) h3]

theorem State.fedMembers_of (h : ∀ m < 64, t.rd (Reg.MEM_STAT m) = s.rd (Reg.MEM_STAT m)) : t.fedMembers = s.fedMembers :=
  List.filter_congr fun m hm => by rw [State.fld_congr (f := Fd.MEM_STAT_FSTATE m) (h m (List.mem_range.mp hm))]

theorem State.fedMember_lt {m : Nat} (h : m ∈ s.fedMembers) : m < 64 := List.mem_range.mp (List.mem_filter.mp h).1

theorem find_congr_mem {α : Type} {p q : α → Bool} {l : List α} (h : ∀ x ∈ l, p x = q x) : l.find? p = l.find? q := by
  induction l with
  | nil => rfl
  | cons x xs ih =>
    rw [List.find?_cons, List.find?_cons, h x List.mem_cons_self, ih fun y hy => h y (List.mem_cons_of_mem _ hy)]

theorem State.coordinator_of (h : ∀ m < 64, t.rd (Reg.MEM_STAT m) = s.rd (Reg.MEM_STAT m)) : t.coordinator = s.coordinator := by
  unfold State.coordinator
  rw [State.fedMembers_of h, find_congr_mem (q := fun m => s.fld (Fd.MEM_STAT_STATE m) == 4)]
  intro m hm
  rw [State.fld_congr (f := Fd.MEM_STAT_STATE m) (h m (State.fedMember_lt hm))]

theorem State.countRx_fedOn {p : Nat} (hp : p < 16) : (s.countRx p).fedOn = s.fedOn :=
  State.fedOn_of (State.countRx_rd_far hp (by decide)) (State.countRx_rd_far hp (by decide)) (State.countRx_rd_far hp (by decide))

theorem State.countRx_coordinator {p : Nat} (hp : p < 16) : (s.countRx p).coordinator = s.coordinator :=
  State.coordinator_of fun _ _ => State.countRx_rd_far hp (by simp only [Reg.MEM_STAT]; omega)

theorem State.countRx_coord {p : Nat} (hp : p < 16) : (s.countRx p).on Fd.PAI_FED_STAT_COORD = s.on Fd.PAI_FED_STAT_COORD :=
  congrArg (· == 1) (State.countRx_fld_far hp (by decide))

theorem State.countRx_mainAbsent {p : Nat} (hp : p < 16) : (s.countRx p).mainAbsent = s.mainAbsent :=
  congrArg (· == 1) (State.countRx_fld_far (f := Fd.SYS_STATE_MAIN_ABSENT) hp (by decide))

theorem State.countRx_fed (p : Nat) : (s.countRx p).fed = s.fed := State.count_fed _ _
theorem State.countRx_act (p : Nat) : (s.countRx p).act = s.act := State.count_act _ _
theorem State.countRx_clk (p : Nat) : (s.countRx p).clk = s.clk := State.count_clk _ _
theorem State.countRx_out (p : Nat) : (s.countRx p).out = s.out := State.count_out _ _

theorem State.countRx_freeEntry (p : Nat) : (s.countRx p).freeEntry = s.freeEntry := by unfold State.freeEntry; rw [State.countRx_act]

theorem State.countRx_myId (p : Nat) : (s.countRx p).myId = s.myId := congrArg (fun x : Sys => x.straps.moduleId.val) (State.countRx_sys s p)

theorem State.countRx_fedBar (p id : Nat) : (s.countRx p).fedBar id = s.fedBar id := by unfold State.fedBar; rw [State.countRx_fed]

/-! ### Frames on the networks -/

theorem State.portAbsent_of_fedOn (h : s.fedOn = true) : s.portAbsent = false := by
  unfold State.fedOn at h
  simp only [Bool.and_eq_true, Bool.not_eq_true'] at h
  exact h.2

/-- A frame leaves on both networks while the port die is present. -/
theorem State.cra_nets_length (s : State) (kind : OutKind) (ty level : Nat) (fields : List Nat) (h : s.portAbsent = false) :
    (s.cra kind ty level [2, 3] fields).out.length = s.out.length + 2 := by
  unfold State.cra
  rw [State.craEach_length, h]
  rfl

theorem State.cra_portAbsent (s : State) (kind : OutKind) (ty level : Nat) (paths fields : List Nat) :
    (s.cra kind ty level paths fields).portAbsent = s.portAbsent := congrArg (· == 1) (State.cra_fld s kind ty level paths fields Fd.PRT_STAT_PORT_ABSENT)

theorem State.cra_act (s : State) (kind : OutKind) (ty level : Nat) (paths fields : List Nat) : (s.cra kind ty level paths fields).act = s.act :=
  (State.cra_keeps (F := 8388640) rfl (Keeps.refl _ s)).act.resolve_left (by decide)

/-! ### The barriers under agreement -/

/-- What an ID names is under that ID. -/
theorem State.fedBar_id {id : Nat} {x : FedBar} (h : s.fedBar id = some x) : x.msg.id.val = id := by
  simpa using List.find?_some h

theorem State.putFedBar_self (s : State) (x : FedBar) : (s.putFedBar x).fedBar x.msg.id.val = some x := by
  show ((s.fed.bars.filter (fun y => y.msg.id.val != x.msg.id.val)) ++ [x]).find? (fun y => y.msg.id.val == x.msg.id.val) = some x
  rw [List.find?_append, List.find?_eq_none.mpr]
  · simp
  · intro y hy
    simpa using (List.mem_filter.mp hy).2

theorem State.putFedBar_changes (s : State) (x : FedBar) : Changes [.fed] [] s (s.putFedBar x) := (Changes.refl [.fed] [] s).upd_fed

/-- The state without the federation's barriers under an ID, their entries aside. -/
def State.forgetFedBar (s : State) (id : Nat) : State :=
  s.setFed { s.fed with bars := s.fed.bars.filter (fun x => x.msg.id.val != id) }

theorem State.forgetFedBar_fedBar (s : State) (id : Nat) : (s.forgetFedBar id).fedBar id = none :=
  List.find?_eq_none.mpr fun x hx => by simpa using (List.mem_filter.mp hx).2

theorem State.forgetFedBar_changes (s : State) (id : Nat) : Changes [.fed] [] s (s.forgetFedBar id) := (Changes.refl [.fed] [] s).upd_fed

theorem State.dropFedBar_none {id : Nat} (h : s.fedBar id = none) : s.dropFedBar id = s := by
  have hf : s.fed.bars.filter (fun (x : FedBar) => x.msg.id.val != id) = s.fed.bars :=
    List.filter_eq_self.mpr fun x hx => by simpa using List.find?_eq_none.mp h x hx
  unfold State.dropFedBar
  rw [h]
  dsimp only [Option.bind_none]
  rw [hf]
  rfl

theorem State.dropFedBar_armed {id n : Nat} {x : FedBar} (h : s.fedBar id = some x) (hx : x.entry = some n) (hs : s.fld (Fd.AE_STAT_STATE n) = 1) :
    s.dropFedBar id = (s.endEntry n 3 3).forgetFedBar id := by
  unfold State.dropFedBar
  rw [h, Option.bind_some, hx]
  dsimp only
  rw [if_pos hs]
  rfl

theorem State.noteAdoption_plain {b : BarrierMsg} (h : b.action.val ≠ actAdopt) : s.noteAdoption b = s := if_neg h

theorem State.noteAdoption_changes (s : State) (b : BarrierMsg) : Changes [.fed] [] s (s.noteAdoption b) := by
  unfold State.noteAdoption
  split
  · exact (Changes.refl [.fed] [] s).upd_fed
  · exact Changes.refl _ _ _

/-- A barrier whose entry stands ARMED, under agreement in the federation. -/
def State.agreeFed (s : State) (b : BarrierMsg) (n : Nat) : State := (s.putFedBar ⟨b, [], false, some n⟩).noteAdoption b

theorem State.agreeFed_changes (s : State) (b : BarrierMsg) (n : Nat) : Changes [.fed] [] s (s.agreeFed b n) :=
  (State.putFedBar_changes s _).trans (State.noteAdoption_changes _ b)

theorem State.agreeFed_fedBar (s : State) (b : BarrierMsg) (n : Nat) : (s.agreeFed b n).fedBar b.id.val = some ⟨b, [], false, some n⟩ := by
  have h := s.putFedBar_self ⟨b, [], false, some n⟩
  unfold State.agreeFed State.noteAdoption
  split
  · exact h
  · exact h

theorem State.agreeFed_rd (s : State) (b : BarrierMsg) (n a : Nat) : (s.agreeFed b n).rd a = s.rd a := by
  unfold State.agreeFed State.noteAdoption
  split <;> rfl

/-- What the commit and the agreement of a federation barrier leave, after which a frame goes out. -/
theorem State.agreeFed_sent {b : BarrierMsg} {n : Nat} (h : State.BarrierSet b 2 1 n s t) (kind : OutKind) (level : Nat) (fields : List Nat) :
    ((t.agreeFed b n).cra kind 5 level [2, 3] fields).fedBar b.id.val = some ⟨b, [], false, some n⟩ ∧
      ((t.agreeFed b n).cra kind 5 level [2, 3] fields).act.armed = s.act.armed ++ [n] ∧
      ((t.agreeFed b n).cra kind 5 level [2, 3] fields).fld (Fd.AE_STAT_STATE n) = 1 ∧
      ((t.agreeFed b n).cra kind 5 level [2, 3] fields).trigger n = ⟨2, 6, 0, false, b.at_⟩ ∧
      ((t.agreeFed b n).cra kind 5 level [2, 3] fields).fld (Fd.BAR_CFG_ACTION b.id.val) = b.action.val ∧
      ((t.agreeFed b n).cra kind 5 level [2, 3] fields).fld (Fd.BAR_CFG_SCOPE b.id.val) = 1 ∧
      Changes [.act, .fed, .sec, .out] (barrierEntryWords b n) s ((t.agreeFed b n).cra kind 5 level [2, 3] fields) := by
  have hf := t.agreeFed_changes b n
  obtain ⟨h1, h2, h3, h4⟩ := h.moved (u := (t.agreeFed b n).cra kind 5 level [2, 3] fields) (fun a _ => (State.cra_rd _ _ _ _ _ _ _).trans (t.agreeFed_rd b n a))
  refine ⟨?_, ?_, h1, h2, h3, h4, ((h.changes.mono (ps := [.act, .fed, .sec, .out]) (by decide) (List.Subset.refl _)).step hf).cra⟩
  · unfold State.fedBar
    rw [State.cra_fed]
    exact t.agreeFed_fedBar b n
  · rw [State.cra_act, show (t.agreeFed b n).act = t.act from hf.1.2 .act (by decide), h.armed]

/-! ### Proposals -/

/-- A moment to come has not passed. -/
theorem diff64_nonpos {a b : BitVec 64} (h : 0 ≤ diff64 a b) : diff64 b a ≤ 0 := by
  unfold diff64 at *
  simp only [BitVec.toInt_eq_toNat_cond, BitVec.toNat_sub] at *
  omega

theorem State.passed_time_off {v : BitVec 64} (h : 0 ≤ diff64 v s.clk.mtime) : s.passed 2 v = false :=
  decide_eq_false (by have := diff64_nonpos h; omega)

theorem exec_fedProposeOwn (m : Fin 64) (b : BarrierMsg) (s : State) : exec (.fedBarrierPropose (none, m) b) s =
    .next (if s.fedOn ∧ s.on Fd.PAI_FED_STAT_COORD ∧ diff64 b.at_ s.clk.mtime ≥ 20000000 ∧ (s.fedBar b.id).isNone then s.proposeFed b else s) := rfl

/-- The coordinator's own entry and proposal. -/
theorem State.proposeFed_timely {b : BarrierMsg} {n : Nat} (hm : s.mainAbsent = false) (hn : s.freeEntry = some n) (hp : s.passed 2 b.at_ = false) :
    ∃ u, State.BarrierSet b 2 1 n s u ∧ s.proposeFed b =
      (u.agreeFed b n).cra .fedPropose 5 (u.agreeFed b n).fedLevel [2, 3] [b.id.val, b.action.val, b.arg.toNat, b.at_.toNat] := by
  obtain ⟨u, hc, hu⟩ := State.commitBarrier_timely (b := b) (trig := 2) (scope := 1) (Or.inr rfl) (by decide) hm hn hp
  refine ⟨u, hu, ?_⟩
  unfold State.proposeFed
  rw [hc]
  rfl

theorem fedPropose_own {c : Option Came} {m : Fin 64} {b : BarrierMsg} {n : Nat} (hc : c = none) (hf : s.fedOn = true)
    (ho : s.on Fd.PAI_FED_STAT_COORD = true) (hd : diff64 b.at_ s.clk.mtime ≥ 20000000) (hb : s.fedBar b.id = none) (hm : s.mainAbsent = false)
    (hn : s.freeEntry = some n) (_ : b.action.val ≠ actAdopt) :
    ∃ t, exec (.fedBarrierPropose (c, m) b) s = .next t ∧
      t.fedBar b.id = some ⟨b, [], false, some n⟩ ∧
      t.act.armed = s.act.armed ++ [n] ∧
      t.fld (Fd.AE_STAT_STATE n) = 1 ∧
      (t.trigger n).trig = 2 ∧ (t.trigger n).kind = 6 ∧ (t.trigger n).value = b.at_ ∧
      t.fld (Fd.BAR_CFG_ACTION b.id.val) = b.action.val ∧ t.fld (Fd.BAR_CFG_SCOPE b.id.val) = 1 ∧
      Changes [.act, .fed, .sec, .out] (barrierEntryWords b n) s t := by
  subst hc
  obtain ⟨u, hu, he⟩ := State.proposeFed_timely (b := b) hm hn (State.passed_time_off (by omega))
  refine ⟨_, (exec_fedProposeOwn m b s).trans (by rw [if_pos ⟨hf, ho, hd, by rw [hb]; rfl⟩, he]), ?_⟩
  obtain ⟨h1, h2, h3, h4, h5, h6, h7⟩ := State.agreeFed_sent hu .fedPropose (u.agreeFed b n).fedLevel [b.id.val, b.action.val, b.arg.toNat, b.at_.toNat]
  exact ⟨h1, h2, h3, by rw [h4], by rw [h4], by rw [h4], h5, h6, h7⟩

theorem fedPropose_ownIdle {c : Option Came} {m : Fin 64} {b : BarrierMsg} (hc : c = none)
    (h : s.fedOn = false ∨ s.on Fd.PAI_FED_STAT_COORD = false ∨ diff64 b.at_ s.clk.mtime < 20000000 ∨ s.fedBar b.id ≠ none) :
    exec (.fedBarrierPropose (c, m) b) s = .next s := by
  subst hc
  rw [exec_fedProposeOwn, if_neg]
  rintro ⟨hf, ho, hd, hb⟩
  obtain h | h | h | h := h
  · rw [h] at hf
    exact absurd hf (by decide)
  · rw [h] at ho
    exact absurd ho (by decide)
  · omega
  · exact h (Option.isNone_iff_eq_none.mp hb)

/-- A member's answer to a proposal of the coordinator. -/
def State.answerFed (s : State) (m : Fin 64) (b : BarrierMsg) : State :=
  if s.fedOn ∧ m.val ≠ s.myId ∧ s.coordinator = some m.val ∧ (s.fedBar b.id).all (fun x => x.msg != b) then
    match (s.dropFedBar b.id).commitBarrier b 2 1 with
    | (none, s) => s
    | (some n, s) => (s.agreeFed b n).cra .fedAck 5 s.fedLevel [2, 3] [b.id.val, b.at_.toNat]
  else s

theorem exec_fedPropose {a : Came} (h : s.TakesCra a) (m : Fin 64) (b : BarrierMsg) :
    exec (.fedBarrierPropose (some a, m) b) s = .next ((s.countRx a.port).answerFed m b) := by
  change execFedBarrierPropose (some a, m) b s = _
  unfold execFedBarrierPropose
  dsimp only
  rw [State.takeCra_taken h]
  unfold State.answerFed
  split
  · rcases State.commitBarrier _ b 2 1 with ⟨_ | n, u⟩
    · rfl
    · rfl
  · rfl

theorem fedPropose_answered {c : Option Came} {m : Fin 64} {b : BarrierMsg} {a : Came} {n : Nat} (hc : c = some a) (h : s.TakesCra a) (hf : s.fedOn = true)
    (hi : m.val ≠ s.myId) (ho : s.coordinator = some m.val) (hb : s.fedBar b.id = none) (hm : s.mainAbsent = false)
    (hd : 0 ≤ diff64 b.at_ s.clk.mtime) (hn : s.freeEntry = some n) (_ : b.action.val ≠ actAdopt) :
    ∃ t, exec (.fedBarrierPropose (c, m) b) s = .next t ∧
      t.fedBar b.id = some ⟨b, [], false, some n⟩ ∧
      t.act.armed = s.act.armed ++ [n] ∧
      (t.trigger n).trig = 2 ∧ (t.trigger n).kind = 6 ∧ (t.trigger n).value = b.at_ ∧
      t.out.length = s.out.length + 2 ∧
      Changes [.act, .fed, .sec, .out] (barrierEntryWords b n ++ [Reg.PORT_CNT_RX a.port]) s t := by
  subst hc
  have hp := a.port.isLt
  have hx := exec_fedPropose h m b
  have hrx : Changes [.act, .fed, .sec, .out] (barrierEntryWords b n ++ [Reg.PORT_CNT_RX a.port]) s (s.countRx a.port) :=
    (Changes.refl _ _ s).countRx (ha := List.mem_append_right _ List.mem_cons_self)
  have hout := State.countRx_out (s := s) a.port
  have hact := State.countRx_act (s := s) a.port
  rw [← State.countRx_fedOn hp] at hf
  rw [← State.countRx_myId a.port] at hi
  rw [← State.countRx_coordinator hp] at ho
  rw [← State.countRx_fedBar a.port] at hb
  rw [← State.countRx_mainAbsent hp] at hm
  rw [← State.countRx_freeEntry a.port] at hn
  rw [← State.countRx_clk a.port] at hd
  generalize s.countRx a.port = v at *
  obtain ⟨u, hcb, hu⟩ := State.commitBarrier_timely (b := b) (trig := 2) (scope := 1) (Or.inr rfl) (by decide) hm hn (State.passed_time_off hd)
  have he : v.answerFed m b = (u.agreeFed b n).cra .fedAck 5 u.fedLevel [2, 3] [b.id.val, b.at_.toNat] := by
    unfold State.answerFed
    rw [if_pos ⟨hf, hi, ho, by rw [hb]; rfl⟩, State.dropFedBar_none hb, hcb]
  obtain ⟨h1, h2, -, h4, -, -, h7⟩ := State.agreeFed_sent hu .fedAck u.fedLevel [b.id.val, b.at_.toNat]
  have hport : (u.agreeFed b n).portAbsent = false := by
    rw [← State.portAbsent_of_fedOn hf]
    refine congrArg (· == 1) (State.fld_congr (f := Fd.PRT_STAT_PORT_ABSENT) ((State.agreeFed_rd _ _ _ _).trans (hu.changes.rd (by decide) ?_)))
    simp only [barrierEntryWords, Fd.PRT_STAT_PORT_ABSENT, Reg.PRT_STAT, Reg.AE_CTRL, Reg.AE_TRIG_LO, Reg.AE_TRIG_HI, Reg.AE_ARG0, Reg.AE_ARG1,
      Reg.AE_STAT, Reg.AE_SEQ, Reg.AE_LATE, Reg.TIM_ACT_USED, Reg.BAR_CFG, List.mem_cons, List.not_mem_nil, or_false, not_or]
    have := State.freeEntry_lt hn
    omega
  refine ⟨_, hx.trans (congrArg _ he), h1, by rw [h2, hact], by rw [h4], by rw [h4], by rw [h4], ?_, ?_⟩
  · rw [State.cra_nets_length _ _ _ _ _ hport, ← hout]
    rw [show (u.agreeFed b n).out = u.out from (u.agreeFed_changes b n).1.2 .out (by decide), show u.out = v.out from hu.changes.1.2 .out (by decide)]
  · exact hrx.trans (h7.mono (List.Subset.refl _) (fun _ => List.mem_append_left _))

theorem fedPropose_idle {c : Option Came} {m : Fin 64} {b : BarrierMsg} {a : Came} (hc : c = some a) (h : s.TakesCra a)
    (hn : s.fedOn = false ∨ m.val = s.myId ∨ s.coordinator ≠ some m.val ∨ (s.fedBar b.id).map (fun x => x.msg) = some b) :
    ∃ t, exec (.fedBarrierPropose (c, m) b) s = .next t ∧ Changes [] [Reg.PORT_CNT_RX a.port] s t := by
  subst hc
  refine ⟨_, (exec_fedPropose h m b).trans (congrArg _ (if_neg ?_)), (Changes.refl _ _ s).countRx⟩
  rw [State.countRx_fedOn a.port.isLt, State.countRx_myId, State.countRx_coordinator a.port.isLt, State.countRx_fedBar]
  rintro ⟨hf, hi, ho, hb⟩
  obtain hn | hn | hn | hn := hn
  · rw [hn] at hf
    exact absurd hf (by decide)
  · exact hi hn
  · exact hn ho
  · obtain ⟨x, hx, he⟩ := Option.map_eq_some_iff.mp hn
    rw [hx, Option.all_some, he] at hb
    simp at hb


/-! ### Answers and confirmation -/

/-- A member's answer reaches the coordinator. -/
def State.takeFedAck (s : State) (m : Fin 64) (id : Fin 16) : State :=
  match s.fedBar id with
  | some x => if s.on Fd.PAI_FED_STAT_COORD ∧ diff64 x.msg.at_ s.clk.mtime ≥ 5000000 ∧ ¬ x.acks.contains m.val then
      s.putFedBar { x with acks := x.acks ++ [m.val] } else s
  | none => s

theorem exec_fedAck {c : Came} (h : s.TakesCra c) (m : Fin 64) (id : Fin 16) :
    exec (.fedBarrierAck ⟨c, m⟩ id) s = .next ((s.countRx c.port).takeFedAck m id) := congrArg Host.Outcome.next (State.takeCra_taken h _)

theorem fedAck_idle {c : Came} {m : Fin 64} {id : Fin 16} (h : s.TakesCra c) (hn : s.on Fd.PAI_FED_STAT_COORD = false ∨
    (s.fedBar id).all (fun x => decide (diff64 x.msg.at_ s.clk.mtime < 5000000) || x.acks.contains m.val) = true) :
    ∃ t, exec (.fedBarrierAck ⟨c, m⟩ id) s = .next t ∧ Changes [] [Reg.PORT_CNT_RX c.port] s t := by
  refine ⟨_, (exec_fedAck h m id).trans (congrArg _ ?_), (Changes.refl _ _ s).countRx⟩
  unfold State.takeFedAck
  rw [State.countRx_fedBar, State.countRx_coord c.port.isLt, State.countRx_clk]
  rcases hb : s.fedBar id with _ | x
  · rfl
  · refine if_neg ?_
    rintro ⟨ho, hd, ha⟩
    obtain hn | hn := hn
    · rw [hn] at ho
      exact absurd ho (by decide)
    · rw [hb, Option.all_some, Bool.or_eq_true, decide_eq_true_iff] at hn
      exact hn.elim (fun h => by omega) ha

theorem fedAck_taken {c : Came} {m : Fin 64} {id : Fin 16} {x : FedBar} (h : s.TakesCra c) (hb : s.fedBar id = some x)
    (ho : s.on Fd.PAI_FED_STAT_COORD = true) (hd : diff64 x.msg.at_ s.clk.mtime ≥ 5000000) (ha : x.acks.contains m.val = false) :
    ∃ t, exec (.fedBarrierAck ⟨c, m⟩ id) s = .next t ∧
      t.fedBar id = some { x with acks := x.acks ++ [m.val] } ∧ Changes [.fed] [Reg.PORT_CNT_RX c.port] s t := by
  refine ⟨(s.countRx c.port).putFedBar { x with acks := x.acks ++ [m.val] }, (exec_fedAck h m id).trans (congrArg _ ?_), ?_,
    ((Changes.refl [.fed] _ s).countRx).step (State.putFedBar_changes _ _)⟩
  · unfold State.takeFedAck
    rw [State.countRx_fedBar, hb]
    dsimp only
    rw [State.countRx_coord c.port.isLt, State.countRx_clk]
    exact if_pos ⟨ho, hd, by rw [ha]; decide⟩
  · rw [← State.fedBar_id hb]
    exact State.putFedBar_self _ { x with acks := x.acks ++ [m.val] }

theorem exec_fedConfirmDue (id : Fin 16) (s : State) : exec (.fedBarrierConfirmDue id) s = .next (s.confirmBar id) := rfl

/-- CONFIRM, three times on both networks. -/
def State.sendConfirm (s : State) (id : Nat) (v : BitVec 64) : State :=
  (List.range 3).foldl (fun (s : State) _ => s.cra .fedConfirm 5 s.fedLevel [2, 3] [id, v.toNat]) s

theorem State.sendConfirm_length (s : State) (id : Nat) (v : BitVec 64) (h : s.portAbsent = false) :
    (s.sendConfirm id v).out.length = s.out.length + 6 := by
  show (State.cra (State.cra (State.cra s _ _ _ _ _) _ _ _ _ _) _ _ _ _ _).out.length = _
  rw [State.cra_nets_length _ _ _ _ _ (by rw [State.cra_portAbsent, State.cra_portAbsent, h]),
    State.cra_nets_length _ _ _ _ _ (by rw [State.cra_portAbsent, h]), State.cra_nets_length _ _ _ _ _ h]

theorem State.sendConfirm_fed (s : State) (id : Nat) (v : BitVec 64) : (s.sendConfirm id v).fed = s.fed := by
  show (State.cra (State.cra (State.cra s _ _ _ _ _) _ _ _ _ _) _ _ _ _ _).fed = _
  rw [State.cra_fed, State.cra_fed, State.cra_fed]

theorem State.sendConfirm_only (s : State) (id : Nat) (v : BitVec 64) : Only [.sec, .out] s (s.sendConfirm id v) :=
  ((State.cra_keeps (F := 8388640) rfl (State.cra_keeps rfl (State.cra_keeps rfl (Keeps.refl _ s)))).only _ (fun p => by cases p <;> decide))

theorem State.putFedBar_only (s : State) (x : FedBar) : Only [.fed] s (s.putFedBar x) := by
  refine ⟨rfl, fun p hp => ?_⟩
  cases p
  case fed => exact absurd (by decide) hp
  all_goals rfl

theorem fedConfirm_due {id : Fin 16} {x : FedBar} (hb : s.fedBar id = some x) (ho : s.on Fd.PAI_FED_STAT_COORD = true) (hx : x.confirmed = false)
    (hd : diff64 x.msg.at_ s.clk.mtime ≤ 5000000 ∧ diff64 x.msg.at_ s.clk.mtime ≥ 1000000)
    (ha : s.fedMembers.all (fun m => m == s.myId || x.acks.contains m) = true) (hp : s.portAbsent = false) :
    ∃ t, exec (.fedBarrierConfirmDue id) s = .next t ∧
      t.fedBar id = some { x with confirmed := true } ∧
      t.out.length = s.out.length + 6 ∧
      Only [.fed, .sec, .out] s t := by
  refine ⟨(s.putFedBar { x with confirmed := true }).sendConfirm id x.msg.at_, (exec_fedConfirmDue id s).trans (congrArg _ ?_), ?_, ?_, ?_⟩
  · unfold State.confirmBar
    rw [hb]
    exact if_pos ⟨ho, by rw [hx]; decide, hd.1, hd.2, ha⟩
  · unfold State.fedBar
    rw [State.sendConfirm_fed, ← State.fedBar_id hb]
    exact State.putFedBar_self _ { x with confirmed := true }
  · exact State.sendConfirm_length _ _ _ hp
  · exact ((State.putFedBar_only _ _).mono (by decide)).trans ((State.sendConfirm_only _ _ _).mono (by decide))

theorem fedConfirm_notDue {id : Fin 16} (h : s.on Fd.PAI_FED_STAT_COORD = false ∨ (s.fedBar id).all (fun x => x.confirmed ||
    decide (5000000 < diff64 x.msg.at_ s.clk.mtime) || decide (diff64 x.msg.at_ s.clk.mtime < 1000000) ||
    s.fedMembers.any (fun m => m != s.myId && !x.acks.contains m)) = true) : exec (.fedBarrierConfirmDue id) s = .next s := by
  rw [exec_fedConfirmDue]
  unfold State.confirmBar
  rcases hb : s.fedBar id with _ | x
  · rfl
  · refine congrArg _ (if_neg ?_)
    rintro ⟨ho, hx, h1, h2, ha⟩
    obtain h | h := h
    · rw [h] at ho
      exact absurd ho (by decide)
    · rw [hb, Option.all_some] at h
      simp only [Bool.or_eq_true, decide_eq_true_iff] at h
      obtain ((h | h) | h) | h := h
      · exact hx h
      · omega
      · omega
      · obtain ⟨m, hm, hn⟩ := List.any_eq_true.mp h
        have := List.all_eq_true.mp ha m hm
        simp only [Bool.and_eq_true, bne_iff_ne, Bool.not_eq_true'] at hn
        simp only [Bool.or_eq_true, beq_iff_eq] at this
        obtain h | h := this
        · exact hn.1 h
        · rw [hn.2] at h
          exact absurd h (by decide)

/-- CONFIRM reaches a member. -/
def State.takeFedConfirm (s : State) (m : Fin 64) (id : Fin 16) (v : BitVec 64) : State :=
  match s.fedBar id with
  | some x => if s.coordinator = some m.val ∧ x.msg.at_ = v ∧ diff64 v s.clk.mtime ≥ 1000000 then s.putFedBar { x with confirmed := true } else s
  | none => s

theorem exec_fedConfirm {c : Came} (h : s.TakesCra c) (m : Fin 64) (id : Fin 16) (v : BitVec 64) :
    exec (.fedBarrierConfirm ⟨c, m⟩ id v) s = .next ((s.countRx c.port).takeFedConfirm m id v) := congrArg Host.Outcome.next (State.takeCra_taken h _)

theorem fedConfirm_idle {c : Came} {m : Fin 64} {id : Fin 16} {v : BitVec 64} (h : s.TakesCra c)
    (hn : s.coordinator ≠ some m.val ∨ (s.fedBar id).all (fun x => decide (x.msg.at_ ≠ v)) = true ∨ diff64 v s.clk.mtime < 1000000) :
    ∃ t, exec (.fedBarrierConfirm ⟨c, m⟩ id v) s = .next t ∧ Changes [] [Reg.PORT_CNT_RX c.port] s t := by
  refine ⟨_, (exec_fedConfirm h m id v).trans (congrArg _ ?_), (Changes.refl _ _ s).countRx⟩
  unfold State.takeFedConfirm
  rw [State.countRx_fedBar, State.countRx_coordinator c.port.isLt, State.countRx_clk]
  rcases hb : s.fedBar id with _ | x
  · rfl
  · refine if_neg ?_
    rintro ⟨ho, hv, hd⟩
    obtain hn | hn | hn := hn
    · exact hn ho
    · rw [hb, Option.all_some, decide_eq_true_iff] at hn
      exact hn hv
    · omega

theorem fedConfirm_taken {c : Came} {m : Fin 64} {id : Fin 16} {v : BitVec 64} {x : FedBar} (h : s.TakesCra c) (hb : s.fedBar id = some x)
    (ho : s.coordinator = some m.val) (hv : x.msg.at_ = v) (hd : diff64 v s.clk.mtime ≥ 1000000) :
    ∃ t, exec (.fedBarrierConfirm ⟨c, m⟩ id v) s = .next t ∧
      t.fedBar id = some { x with confirmed := true } ∧ Changes [.fed] [Reg.PORT_CNT_RX c.port] s t := by
  refine ⟨(s.countRx c.port).putFedBar { x with confirmed := true }, (exec_fedConfirm h m id v).trans (congrArg _ ?_), ?_,
    ((Changes.refl [.fed] _ s).countRx).step (State.putFedBar_changes _ _)⟩
  · unfold State.takeFedConfirm
    rw [State.countRx_fedBar, hb]
    dsimp only
    rw [State.countRx_coordinator c.port.isLt, State.countRx_clk]
    exact if_pos ⟨ho, hv, hd⟩
  · rw [← State.fedBar_id hb]
    exact State.putFedBar_self _ { x with confirmed := true }

theorem exec_fedNoConfirm (id : Fin 16) (s : State) : exec (.fedBarrierNoConfirm id) s = .next (s.unconfirmBar id) := rfl

theorem fedNoConfirm_drops {id : Fin 16} {x : FedBar} {n : Nat} (hb : s.fedBar id = some x) (hx : x.confirmed = false)
    (hd : diff64 x.msg.at_ s.clk.mtime ≤ 1000000) (he : x.entry = some n) (hs : s.fld (Fd.AE_STAT_STATE n) = 1) :
    ∃ t, exec (.fedBarrierNoConfirm id) s = .next t ∧
      t.fedBar id = none ∧
      t.fld (Fd.AE_STAT_STATE n) = 3 ∧ t.fld (Fd.AE_STAT_REASON n) = 3 ∧
      (t.act.armed = s.act.armed.filter (fun m => m != n)) ∧
      Changes [.act, .fed] [Reg.AE_STAT n, Reg.TIM_ACT_USED] s t := by
  have hk := s.endEntry_spec n (st := 3) (reason := 3) (by decide) (by decide)
  refine ⟨(s.endEntry n 3 3).forgetFedBar id, (exec_fedNoConfirm id s).trans (congrArg _ ?_), State.forgetFedBar_fedBar _ _, hk.stat, hk.reason,
    hk.armed, (hk.changes.mono (by decide) (List.Subset.refl _)).step (State.forgetFedBar_changes _ _)⟩
  unfold State.unconfirmBar
  rw [hb]
  dsimp only
  rw [if_pos ⟨by rw [hx]; decide, hd⟩, State.dropFedBar_armed hb he hs]

theorem fedNoConfirm_idle {id : Fin 16} (h : (s.fedBar id).all (fun x => x.confirmed || decide (1000000 < diff64 x.msg.at_ s.clk.mtime)) = true) :
    exec (.fedBarrierNoConfirm id) s = .next s := by
  rw [exec_fedNoConfirm]
  unfold State.unconfirmBar
  rcases hb : s.fedBar id with _ | x
  · rfl
  · refine congrArg _ (if_neg ?_)
    rintro ⟨hx, hd⟩
    rw [hb, Option.all_some, Bool.or_eq_true, decide_eq_true_iff] at h
    exact h.elim hx (fun h => by omega)

/-! ### Adoption -/

theorem exec_adoptPropose (m : Fin 64) (s : State) : exec (.adoptPropose m) s = .next (s.proposeAdopt m) := rfl

theorem adoptPropose_idle {m : Fin 64} (h : s.fedOn = false ∨ s.on Fd.PAI_FED_STAT_COORD = false ∨ s.fedBar barAdopt ≠ none ∨
    ((Tab.find s.fed.lostAt m).or (Tab.find s.fed.backAt m)).all (fun x => decide (s.clk.now < x + msTicks 100)) = true) :
    exec (.adoptPropose m) s = .next s := by
  rw [exec_adoptPropose]
  refine congrArg _ (if_neg ?_)
  rintro ⟨hf, ho, hb, ha⟩
  obtain h | h | h | h := h
  · rw [h] at hf
    exact absurd hf (by decide)
  · rw [h] at ho
    exact absurd ho (by decide)
  · exact h (Option.isNone_iff_eq_none.mp hb)
  · rcases hx : (Tab.find s.fed.lostAt m).or (Tab.find s.fed.backAt m) with _ | x
    · rw [hx] at ha
      exact absurd ha Bool.false_ne_true
    · rw [hx] at ha h
      rw [Option.any_some, decide_eq_true_iff] at ha
      rw [Option.all_some, decide_eq_true_iff] at h
      omega

/-- A moment less than 2^63 ahead has not passed. -/
theorem diff64_ahead (v : BitVec 64) {k : Nat} (h : k < 2 ^ 63) : 0 ≤ diff64 (BitVec.ofNat 64 (v.toNat + k)) v := by
  have he : BitVec.ofNat 64 (v.toNat + k) - v = BitVec.ofNat 64 k := by
    rw [BitVec.ofNat_add, BitVec.ofNat_toNat, BitVec.setWidth_eq, BitVec.add_comm, BitVec.add_sub_cancel]
  unfold diff64
  rw [he, BitVec.toInt_eq_toNat_cond, BitVec.toNat_ofNat]
  omega

/-- The moment of a proposal is at least 20 ms ahead, so that it has not passed. -/
theorem State.wireAhead_ahead (s : State) : 0 ≤ diff64 s.wireAhead s.clk.mtime := by
  obtain ⟨k, hk, he⟩ : ∃ k < 2 ^ 63, (s.clk.mtime.toNat + 20000000 + 9999) / 10000 * 10000 = s.clk.mtime.toNat + k :=
    ⟨(s.clk.mtime.toNat + 20000000 + 9999) / 10000 * 10000 - s.clk.mtime.toNat, by omega, by omega⟩
  unfold State.wireAhead
  rw [he]
  exact diff64_ahead _ hk

/-- The barrier of an adoption. -/
def State.adoptMsg (s : State) : BarrierMsg := { id := 4, action := 4, arg := 0, at_ := s.wireAhead }

theorem State.proposeAdopt_eq {m : Fin 64} {x : Nat} (hf : s.fedOn = true) (ho : s.on Fd.PAI_FED_STAT_COORD = true) (hb : s.fedBar barAdopt = none)
    (ha : (Tab.find s.fed.lostAt m).or (Tab.find s.fed.backAt m) = some x) (hx : x + msTicks 100 ≤ s.clk.now) :
    s.proposeAdopt m = s.proposeFed s.adoptMsg :=
  if_pos ⟨hf, ho, by rw [hb]; rfl, by rw [ha, Option.any_some, decide_eq_true_iff]; exact hx⟩

/-- What an agreement to adopt leaves of the losses and returns not settled. -/
theorem State.agreeFed_adopt {b : BarrierMsg} (n : Nat) (h : b.action.val = actAdopt) : (s.agreeFed b n).fed.pendingSet =
    s.fed.lostAt.map (fun x => (x.1, true)) ++ s.fed.backAt.map (fun x => (x.1, false)) := by
  unfold State.agreeFed State.noteAdoption
  rw [if_pos h]
  rfl

theorem adoptPropose_sent {m : Fin 64} {n x : Nat} (hf : s.fedOn = true) (ho : s.on Fd.PAI_FED_STAT_COORD = true) (hb : s.fedBar barAdopt = none)
    (ha : (Tab.find s.fed.lostAt m).or (Tab.find s.fed.backAt m) = some x) (hx : x + msTicks 100 ≤ s.clk.now) (hm : s.mainAbsent = false)
    (hn : s.freeEntry = some n) :
    ∃ t, exec (.adoptPropose m) s = .next t ∧
      (t.fedBar barAdopt).map (fun x => (x.msg.action.val, x.msg.at_, x.entry)) = some (actAdopt, s.wireAhead, some n) ∧
      (t.fed.pendingSet = s.fed.lostAt.map (fun x => (x.1, true)) ++ s.fed.backAt.map (fun x => (x.1, false))) ∧
      Only [.act, .fed, .sec, .out, .regs] s t := by
  have hid : s.adoptMsg.id.val = barAdopt := rfl
  have hac : s.adoptMsg.action.val = actAdopt := rfl
  have hat : s.adoptMsg.at_ = s.wireAhead := rfl
  have hx := (exec_adoptPropose m s).trans (congrArg Host.Outcome.next (State.proposeAdopt_eq hf ho hb ha hx))
  have hp : s.passed 2 s.adoptMsg.at_ = false := State.passed_time_off s.wireAhead_ahead
  generalize s.adoptMsg = b at *
  obtain ⟨u, hu, he⟩ := State.proposeFed_timely hm hn hp
  have hfed : u.fed = s.fed := hu.changes.1.2 .fed (by decide)
  obtain ⟨h1, -, -, -, -, -, h7⟩ := State.agreeFed_sent hu .fedPropose (u.agreeFed b n).fedLevel [b.id.val, b.action.val, b.arg.toNat, b.at_.toNat]
  refine ⟨_, hx.trans (congrArg _ he), ?_, ?_, h7.1.mono (by decide)⟩
  · rw [← hid, h1, Option.map_some, hac, hat]
  · rw [State.cra_fed, State.agreeFed_adopt n hac, hfed]

/-- Settles O42, clause by clause: a proposal, its answers, its confirmation or cancel, and the proposal of an adoption. -/
theorem federationBarriersAreAgreed : Obligations.FederationBarriersAreAgreed := by
  unfold Obligations.FederationBarriersAreAgreed
  exact ⟨fun _ _ _ _ _ => fedPropose_own, fun _ _ _ _ _ _ => fedPropose_answered, fun _ _ _ _ _ => fedPropose_idle,
    fun _ _ _ s hc h => ⟨s, fedPropose_ownIdle hc h, rfl⟩, fun _ _ _ _ => fedAck_idle, fun _ _ _ _ _ => fedAck_taken, fun _ _ _ => fedConfirm_due,
    fun _ s h => ⟨s, fedConfirm_notDue h, rfl⟩, fun _ _ _ _ _ => fedConfirm_idle, fun _ _ _ _ _ _ => fedConfirm_taken,
    fun _ _ _ _ => fedNoConfirm_drops, fun _ s h => ⟨s, fedNoConfirm_idle h, rfl⟩, fun _ s h => ⟨s, adoptPropose_idle h, rfl⟩,
    fun _ _ _ _ => adoptPropose_sent⟩
end Sys2Proof.Machine
end

section
-- In order: the one text holds more declarations than asynchronous elaboration has threads for.
set_option Elab.async false

/-! PROOFS. Federation members are heard and lost, the coordinator is assumed, and shares are computed and taken (R502 to R505, R510). -/

namespace Sys2Proof.Machine

variable {s t u : State} {ps : List Part} {ws : List Nat}

/-! ### Changes that name the federation's words too -/

/-- Only the named parts and words differ, the words of the federation among those that do not. -/
def FedChanges (ps : List Part) (ws : List Nat) (s t : State) : Prop :=
  Changes ps ws s t ∧ ∀ a, highFed a = true → a ∉ ws → t.rd a = s.rd a

theorem FedChanges.refl (ps : List Part) (ws : List Nat) (s : State) : FedChanges ps ws s s := ⟨Changes.refl _ _ _, fun _ _ _ => rfl⟩

theorem FedChanges.trans (h : FedChanges ps ws s t) (k : FedChanges ps ws t u) : FedChanges ps ws s u :=
  ⟨h.1.trans k.1, fun a ha hn => (k.2 a ha hn).trans (h.2 a ha hn)⟩

theorem FedChanges.mono {qs : List Part} {vs : List Nat} (h : FedChanges qs vs s t) (hp : ∀ p ∈ qs, p ∈ ps) (hw : ∀ a ∈ vs, a ∈ ws) :
    FedChanges ps ws s t := ⟨h.1.mono hp hw, fun a ha hn => h.2 a ha (fun hv => hn (hw a hv))⟩

theorem FedChanges.step {qs : List Part} {vs : List Nat} (h : FedChanges ps ws s t) (k : FedChanges qs vs t u) (hp : ∀ p ∈ qs, p ∈ ps := by decide)
    (hw : ∀ a ∈ vs, a ∈ ws := by simp) : FedChanges ps ws s u := h.trans (k.mono hp hw)

theorem FedChanges.wr (h : FedChanges ps ws s t) {a : Nat} {w : Word} (ha : a ∈ ws := by repeat constructor) : FedChanges ps ws s (t.wr a w) :=
  ⟨h.1.wr ha, fun b hb hn => (State.rd_wr_ne _ _ _ _ (fun e : b = a => hn (e ▸ ha))).trans (h.2 b hb hn)⟩

theorem FedChanges.set (h : FedChanges ps ws s t) {f : Fld} {v : Nat} (ha : f.addr ∈ ws := by repeat constructor) :
    FedChanges ps ws s (t.set f v) := h.wr ha

theorem FedChanges.setB (h : FedChanges ps ws s t) {f : Fld} {b : Bool} (ha : f.addr ∈ ws := by repeat constructor) :
    FedChanges ps ws s (t.setB f b) := h.wr ha

theorem FedChanges.setFed (h : FedChanges ps ws s t) {f : Fed} (hp : Part.fed ∈ ps := by repeat constructor) : FedChanges ps ws s (t.setFed f) :=
  ⟨h.1.upd_fed hp, h.2⟩

theorem FedChanges.raise (h : FedChanges ps ws s t) {f : Fld} {o : Nat} {l : List Nat} {b : Bool} (hp : Part.firn ∈ ps := by repeat constructor)
    (hc : eventCode f < 1024 := by decide) (h1 : f.addr ∈ ws := by repeat constructor) (h2 : f.addr + 4 ∈ ws := by repeat constructor) :
    FedChanges ps ws s (t.raise f o l b) :=
  ⟨h.1.raise hp hc h1 h2, fun a ha hn =>
    (State.raise_rd_fed _ _ _ _ _ hc ha (fun e => hn (e ▸ h1)) (fun e => hn (e ▸ h2))).trans (h.2 a ha hn)⟩

theorem FedChanges.cra (h : FedChanges ps ws s t) {kind : OutKind} {ty level : Nat} {paths fields : List Nat}
    (hs : Part.sec ∈ ps := by repeat constructor) (ho : Part.out ∈ ps := by repeat constructor) :
    FedChanges ps ws s (t.cra kind ty level paths fields) :=
  ⟨h.1.cra hs ho, fun a ha hn => (State.cra_rd _ _ _ _ _ _ _).trans (h.2 a ha hn)⟩

/-! ### The membership words -/

/-- The words that the judgement of the membership writes. -/
def judgeWords (m : Nat) : List Nat := [Reg.PAI_FED_STAT, Reg.PAI_RESV, Reg.MEM_STAT m, Reg.MEM_NACC m, Reg.PAI_FED_EVT, Reg.PAI_FED_EVT_SEQ]

/-- This module takes part, and shows itself. -/
def State.judgeSelf (s : State) : State :=
  let s := if s.fedOn then (if s.fld Fd.PAI_FED_STAT_FSTATE = 0 then s.set Fd.PAI_FED_STAT_FSTATE 1 else s) else s.set Fd.PAI_FED_STAT_FSTATE 0
  s.showSelf

/-- Who coordinates, and how many members there are. -/
def State.judgeCoord (s : State) : State :=
  let c := s.coordinator
  let mine := s.fedOn && c == some s.myId
  let from_ := if mine then some (s.fed.selfFrom.getD s.clk.now) else none
  let s := s.setFed { s.fed with selfFrom := from_ }
  let s := if mine then s else s.set Fd.PAI_FED_STAT_COORD 0
  (s.set Fd.PAI_FED_STAT_COORD_ID (c.getD 0)).set Fd.PAI_FED_STAT_MEMBERS s.fedMembers.length

/-- The reserve. -/
def State.judgeReserve (s : State) : State :=
  let on_ := s.on Fd.PAI_FED_CTRL_RESV_EN && decide (s.fld Fd.PAI_FED_STAT_FSTATE = 2)
  let n := s.fedSize
  let r := if on_ then reservedOf n else 0
  let was := s.on Fd.PAI_FED_STAT_RESV_OK
  let had := s.fld Fd.PAI_RESV_RESERVED
  let s := ((s.set Fd.PAI_FED_STAT_K (if on_ then rowsAbsorbed n else 0)).set Fd.PAI_RESV_RESERVED r).set Fd.PAI_RESV_MAXOWN (4096 - r)
  let ok := on_ && s.reserveOk
  let s := s.setB Fd.PAI_FED_STAT_RESV_OK ok
  if on_ ∧ ¬ ok ∧ (was ∨ had ≠ r) then s.raise Fd.PAI_FED_EVT_RESV_SHORT noObj [] else s

theorem State.judgeFed_eq (s : State) : s.judgeFed = s.judgeSelf.judgeCoord.judgeReserve := rfl

theorem State.showSelf_changes (s : State) : FedChanges [] [Reg.MEM_STAT s.myId, Reg.MEM_NACC s.myId] s s.showSelf := by
  unfold State.showSelf
  exact ((((FedChanges.refl [] _ s).set.set).set).set).set

theorem State.judgeSelf_changes (s : State) : FedChanges [] [Reg.PAI_FED_STAT, Reg.MEM_STAT s.myId, Reg.MEM_NACC s.myId] s s.judgeSelf := by
  have key (u : State) (hu : FedChanges [] [Reg.PAI_FED_STAT] s u) (hm : u.myId = s.myId) :
      FedChanges [] [Reg.PAI_FED_STAT, Reg.MEM_STAT s.myId, Reg.MEM_NACC s.myId] s u.showSelf := by
    rw [← hm]
    exact (hu.mono (ws := [Reg.PAI_FED_STAT, Reg.MEM_STAT u.myId, Reg.MEM_NACC u.myId]) (List.Subset.refl _) (by simp)).step (State.showSelf_changes u)
  unfold State.judgeSelf
  dsimp only
  split
  · split
    · exact key _ (FedChanges.refl [] _ s).set rfl
    · exact key _ (FedChanges.refl [] _ s) rfl
  · exact key _ (FedChanges.refl [] _ s).set rfl

theorem State.judgeCoord_changes (s : State) : FedChanges [.fed] [Reg.PAI_FED_STAT] s s.judgeCoord := by
  unfold State.judgeCoord
  dsimp only
  generalize (if (s.fedOn && s.coordinator == some s.myId) = true then some (s.fed.selfFrom.getD s.clk.now) else none) = x
  have hf : FedChanges [.fed] [Reg.PAI_FED_STAT] s (s.setFed { s.fed with selfFrom := x }) := (FedChanges.refl [.fed] _ s).setFed
  split
  · exact hf.set.set
  · exact (hf.set).set.set

/-- The words of a reserve. -/
def State.setReserve (s : State) (k r : Nat) (ok : Bool) : State :=
  (((s.set Fd.PAI_FED_STAT_K k).set Fd.PAI_RESV_RESERVED r).set Fd.PAI_RESV_MAXOWN (4096 - r)).setB Fd.PAI_FED_STAT_RESV_OK ok

theorem State.setReserve_changes (s : State) (k r : Nat) (ok : Bool) : FedChanges [] [Reg.PAI_FED_STAT, Reg.PAI_RESV] s (s.setReserve k r ok) :=
  ((((FedChanges.refl [] _ s).set (f := Fd.PAI_FED_STAT_K)).set (f := Fd.PAI_RESV_RESERVED)).set (f := Fd.PAI_RESV_MAXOWN)).setB
    (f := Fd.PAI_FED_STAT_RESV_OK)

theorem State.judgeReserve_cases (s : State) : ∃ k r ok, s.judgeReserve = s.setReserve k r ok ∨
    s.judgeReserve = (s.setReserve k r ok).raise Fd.PAI_FED_EVT_RESV_SHORT noObj [] := ⟨_, _, _, (ite_eq_or_eq _ _ _).symm⟩

theorem State.judgeReserve_changes (s : State) :
    FedChanges [.firn] [Reg.PAI_FED_STAT, Reg.PAI_RESV, Reg.PAI_FED_EVT, Reg.PAI_FED_EVT_SEQ] s s.judgeReserve := by
  obtain ⟨k, r, ok, h | h⟩ := s.judgeReserve_cases
  · rw [h]
    exact (FedChanges.refl _ _ s).step (State.setReserve_changes _ _ _ _)
  · rw [h]
    exact ((FedChanges.refl [.firn] _ s).step (State.setReserve_changes _ _ _ _)).raise (f := Fd.PAI_FED_EVT_RESV_SHORT)

theorem State.judgeFed_changes (s : State) : FedChanges [.fed, .firn] (judgeWords s.myId) s s.judgeFed := by
  rw [State.judgeFed_eq]
  exact (((s.judgeSelf_changes.mono (ps := [.fed, .firn]) (ws := judgeWords s.myId) (by decide) (by simp [judgeWords])).step
    s.judgeSelf.judgeCoord_changes (by decide) (by simp [judgeWords])).step s.judgeSelf.judgeCoord.judgeReserve_changes (by decide)
      (by simp [judgeWords]))


/-! ### What the judgement leaves beside the words it writes -/

theorem State.judgeFed_fed (s : State) : ∃ x, s.judgeFed.fed = { s.fed with selfFrom := x } := by
  have h1 : s.judgeSelf.fed = s.fed := s.judgeSelf_changes.1.1.2 .fed (by decide)
  have h2 : ∃ x, s.judgeSelf.judgeCoord.fed = { s.judgeSelf.fed with selfFrom := x } := by
    unfold State.judgeCoord
    dsimp only
    split
    · exact ⟨_, rfl⟩
    · exact ⟨_, rfl⟩
  obtain ⟨x, hx⟩ := h2
  exact ⟨x, (s.judgeSelf.judgeCoord.judgeReserve_changes.1.1.2 .fed (by decide)).trans (hx.trans (by rw [h1]))⟩

/-- An event leaves the bits of the federation's event register that stand. -/
theorem State.raise_on_stands (s : State) {lo lo' : Nat} (o : Nat) (l : List Nat) (hl : lo < 32) (h : s.on ⟨Reg.PAI_FED_EVT, lo', 1⟩ = true) :
    (s.raise ⟨Reg.PAI_FED_EVT, lo, 1⟩ o l).on ⟨Reg.PAI_FED_EVT, lo', 1⟩ = true := by
  have hw : (s.raise ⟨Reg.PAI_FED_EVT, lo, 1⟩ o l).rd Reg.PAI_FED_EVT = w1cAfter (s.rd Reg.PAI_FED_EVT) 0 (BitVec.ofNat 32 (2 ^ lo)) := by
    unfold State.raise
    dsimp only
    rw [State.occur_rd_fed _ _ _ _ _ (eventCode_lt (by decide) hl) (by decide), State.rd_wr_ne _ _ _ _ (by decide), State.rd_wr_self]
  simp only [State.on, State.fld, beq_iff_eq, fieldOf_one, Bool.toNat_eq_one] at h ⊢
  rw [hw, w1cAfter, BitVec.getLsbD_or, BitVec.getLsbD_and, h, BitVec.getLsbD_not, decide_eq_true (BitVec.lt_of_getLsbD h),
    show (0 : Word) = 0#32 from rfl, BitVec.getLsbD_zero]
  rfl

theorem State.judgeReserve_on (s : State) {lo : Nat} (h : s.on ⟨Reg.PAI_FED_EVT, lo, 1⟩ = true) : s.judgeReserve.on ⟨Reg.PAI_FED_EVT, lo, 1⟩ = true := by
  obtain ⟨k, r, ok, hr⟩ := s.judgeReserve_cases
  have h1 : (s.setReserve k r ok).on ⟨Reg.PAI_FED_EVT, lo, 1⟩ = true :=
    (congrArg (· == 1) (State.fld_congr ((s.setReserve_changes k r ok).2 Reg.PAI_FED_EVT (by decide) (by decide)))).trans h
  obtain hr | hr := hr
  · rw [hr]
    exact h1
  · rw [hr]
    exact State.raise_on_stands _ _ _ (by decide) h1

theorem State.judgeFed_on (s : State) {lo : Nat} (h : s.on ⟨Reg.PAI_FED_EVT, lo, 1⟩ = true) : s.judgeFed.on ⟨Reg.PAI_FED_EVT, lo, 1⟩ = true := by
  rw [State.judgeFed_eq]
  refine State.judgeReserve_on _ ((congrArg (· == 1) (State.fld_congr ?_)).trans h)
  refine (s.judgeSelf.judgeCoord_changes.2 Reg.PAI_FED_EVT (by decide) (by decide)).trans (s.judgeSelf_changes.2 Reg.PAI_FED_EVT (by decide) ?_)
  simp only [Reg.PAI_FED_EVT, Reg.PAI_FED_STAT, Reg.MEM_STAT, Reg.MEM_NACC, List.mem_cons, List.not_mem_nil, or_false, not_or]
  omega

/-! ### Announcements that go out -/

theorem State.foldl_send_sec (f : Nat × List Nat → Out) (l : List (Nat × List Nat)) (s : State) :
    (l.foldl (fun (s : State) x => s.send (f x)) s).sec = s.sec :=
  foldl_keep (f := fun (s : State) x => s.send (f x)) State.sec (fun _ _ => rfl) l s

/-- A frame takes the next SEQ of its type (R501). -/
theorem State.craEach_seq (s : State) (kind : OutKind) (ty level : Nat) (paths : List (Nat × List Nat)) :
    (s.craEach kind ty level paths).sec.craSeq = s.sec.craSeq.put ty ((Tab.at 0 s.sec.craSeq ty + 1) % 2 ^ 32) :=
  congrArg (fun x : Sec => x.craSeq) (State.foldl_send_sec _ _ _)

theorem State.craEach_nets_length (s : State) (kind : OutKind) (ty level : Nat) (a b : List Nat) (h : s.portAbsent = false) :
    (s.craEach kind ty level [(2, a), (3, b)]).out.length = s.out.length + 2 := by
  rw [State.craEach_length, h]
  rfl

theorem State.craEach_keep (s : State) (kind : OutKind) (ty level : Nat) (paths : List (Nat × List Nat)) :
    Keeps 8388640 s (s.craEach kind ty level paths) := State.craEach_keeps rfl (Keeps.refl _ s)

theorem State.craEach_changes (s : State) (kind : OutKind) (ty level : Nat) (paths : List (Nat × List Nat)) :
    FedChanges [.sec, .out] [] s (s.craEach kind ty level paths) := by
  have hk := s.craEach_keep kind ty level paths
  have hr (a : Nat) : (s.craEach kind ty level paths).rd a = s.rd a := by rw [State.rd, State.rd, hk.regs.resolve_left (by decide)]
  exact ⟨hk.changes (fun p => by cases p <;> decide) (fun a _ _ => hr a), fun a _ _ => hr a⟩

theorem State.craEach_only (s : State) (kind : OutKind) (ty level : Nat) (paths : List (Nat × List Nat)) : Only [.sec, .out] s (s.craEach kind ty level paths) :=
  (s.craEach_keep kind ty level paths).only _ (fun p => by cases p <;> decide)

theorem State.craEach_fed (s : State) (kind : OutKind) (ty level : Nat) (paths : List (Nat × List Nat)) : (s.craEach kind ty level paths).fed = s.fed :=
  (s.craEach_keep kind ty level paths).fed.resolve_left (by decide)

theorem judgeWords_low {m a : Nat} (ha : a < 0xB800000) : a ∉ judgeWords m := by
  simp only [judgeWords, Reg.PAI_FED_STAT, Reg.PAI_RESV, Reg.MEM_STAT, Reg.MEM_NACC, Reg.PAI_FED_EVT, Reg.PAI_FED_EVT_SEQ, List.mem_cons,
    List.not_mem_nil, or_false, not_or]
  omega

theorem judgeWords_far {m a : Nat} (ha : 0xB800008 ≤ a) (hb : a < 0xB810000) (h : a ≠ Reg.PAI_RESV ∧ a ≠ Reg.PAI_FED_EVT ∧ a ≠ Reg.PAI_FED_EVT_SEQ) :
    a ∉ judgeWords m := by
  obtain ⟨h1, h2, h3⟩ := h
  simp only [judgeWords, List.mem_cons, List.not_mem_nil, or_false, not_or]
  refine ⟨?_, h1, ?_, ?_, h2, h3⟩
  · simp only [Reg.PAI_FED_STAT]; omega
  · simp only [Reg.MEM_STAT]; omega
  · simp only [Reg.MEM_NACC]; omega

theorem judgeWords_ctrl (m : Nat) : Reg.PAI_FED_CTRL ∉ judgeWords m := by
  simp only [judgeWords, Reg.PAI_FED_CTRL, Reg.PAI_FED_STAT, Reg.PAI_RESV, Reg.MEM_STAT, Reg.MEM_NACC, Reg.PAI_FED_EVT, Reg.PAI_FED_EVT_SEQ, List.mem_cons,
    List.not_mem_nil, or_false, not_or]
  omega

theorem State.judgeFed_fedOn (s : State) : s.judgeFed.fedOn = s.fedOn :=
  State.fedOn_of (s.judgeFed_changes.2 _ (by decide) (judgeWords_ctrl _)) (s.judgeFed_changes.1.rd (by decide) (judgeWords_low (by decide)))
    (s.judgeFed_changes.1.rd (by decide) (judgeWords_low (by decide)))

theorem State.fedOn_en (h : s.fedOn = true) : s.on Fd.PAI_FED_CTRL_EN = true := by
  unfold State.fedOn at h
  simp only [Bool.and_eq_true] at h
  exact h.1.1

/-- What goes out at intervals is not due before its time. -/
theorem State.periodDue_off {last : Option Nat} {every : Nat} (h : last.any (fun x => decide (s.clk.now < x + every)) = true) :
    s.periodDue last every = false := by
  unfold State.periodDue
  rcases last with _ | x
  · exact absurd h Bool.false_ne_true
  · rw [Option.any_some, decide_eq_true_iff] at h
    rw [Option.all_some, decide_eq_false_iff_not]
    omega

theorem exec_announceSend (s : State) : exec .fedAnnounceSend s = .next s.announceDue := rfl

/-- An ANNOUNCE on both networks. -/
def State.sendAnnounce (s : State) : State :=
  (s.setFed { s.fed with annAt := some s.clk.now }).craEach .fedAnnounce 2 s.fedLevel [(2, s.announceOn .a), (3, s.announceOn .b)]

theorem State.sendAnnounce_spec (s : State) (h : s.portAbsent = false) : s.sendAnnounce.fed = { s.fed with annAt := some s.clk.now } ∧
    s.sendAnnounce.sec.craSeq = s.sec.craSeq.put 2 ((Tab.at 0 s.sec.craSeq 2 + 1) % 2 ^ 32) ∧ s.sendAnnounce.out.length = s.out.length + 2 ∧
      FedChanges [.fed, .sec, .out] [] s s.sendAnnounce :=
  ⟨State.craEach_fed _ _ _ _ _, State.craEach_seq _ _ _ _ _, State.craEach_nets_length _ _ _ _ _ _ h,
    ((FedChanges.refl [.fed, .sec, .out] [] s).setFed).step (State.craEach_changes _ _ _ _ _)⟩

theorem announceSend_sent (hf : s.fedOn = true) (ha : s.fed.annAt.all (fun x => decide (x + msTicks 10 ≤ s.clk.now)) = true) :
    ∃ t, exec .fedAnnounceSend s = .next t ∧
      t.fed.annAt = some s.clk.now ∧
      t.sec.craSeq = s.sec.craSeq.put 2 ((Tab.at 0 s.sec.craSeq 2 + 1) % 2 ^ 32) ∧
      t.out.length = s.out.length + 2 ∧
      Changes [.sec, .fed, .firn, .out] [Reg.PAI_FED_STAT, Reg.PAI_RESV, Reg.MEM_STAT s.myId, Reg.MEM_NACC s.myId, Reg.PAI_FED_EVT, Reg.PAI_FED_EVT_SEQ] s t := by
  have hd : s.periodDue s.fed.annAt (msTicks 10) = true := ha
  have hx : s.announceDue = s.judgeFed.sendAnnounce := by
    unfold State.announceDue
    rw [if_neg (not_or.mpr ⟨not_not.mpr (State.fedOn_en hf), not_not.mpr hd⟩)]
    dsimp only
    rw [State.judgeFed_fedOn, if_neg (not_not.mpr hf)]
    rfl
  have hj := s.judgeFed_changes
  have hport : s.judgeFed.portAbsent = false := State.portAbsent_of_fedOn (by rw [State.judgeFed_fedOn]; exact hf)
  generalize s.judgeFed = u at *
  obtain ⟨h1, h2, h3, h4⟩ := u.sendAnnounce_spec hport
  rw [show u.clk = s.clk from hj.1.1.2 .clk (by decide)] at h1
  rw [show u.sec = s.sec from hj.1.1.2 .sec (by decide)] at h2
  rw [show u.out = s.out from hj.1.1.2 .out (by decide)] at h3
  exact ⟨_, (exec_announceSend s).trans (congrArg _ hx), by rw [h1], h2, h3,
    ((hj.mono (ps := [.sec, .fed, .firn, .out]) (by decide) (List.Subset.refl _)).step h4).1⟩

theorem announceSend_idle (h : s.on Fd.PAI_FED_CTRL_EN = false ∨ s.fed.annAt.any (fun x => decide (s.clk.now < x + msTicks 10)) = true) :
    exec .fedAnnounceSend s = .next s := by
  rw [exec_announceSend]
  unfold State.announceDue
  refine congrArg _ (if_pos ?_)
  obtain h | h := h
  · exact Or.inl (by rw [h]; decide)
  · exact Or.inr (by rw [State.periodDue_off h]; decide)

theorem State.announceDue_silent (h : s.fedOn = false) : s.announceDue = s ∨ s.announceDue = s.judgeFed := by
  unfold State.announceDue
  split
  · exact Or.inl rfl
  · dsimp only
    rw [State.judgeFed_fedOn, h]
    exact Or.inr (if_pos (by decide))

theorem announceSend_silent (h : s.fedOn = false) : ∃ t, exec .fedAnnounceSend s = .next t ∧ t.out = s.out ∧ t.sec = s.sec := by
  have hx := exec_announceSend s
  obtain he | he := State.announceDue_silent h
  · rw [he] at hx
    exact ⟨s, hx, rfl, rfl⟩
  · rw [he] at hx
    exact ⟨_, hx, s.judgeFed_changes.1.1.2 .out (by decide), s.judgeFed_changes.1.1.2 .sec (by decide)⟩

/-! ### What a member's words keep -/

theorem highFed_memStat {m : Nat} (h : m < 64) : highFed (Reg.MEM_STAT m) = true :=
  highFed_iff.mpr ⟨by simp only [Reg.MEM_STAT]; omega, by simp only [Reg.MEM_STAT]; omega⟩

theorem highFed_memNacc {m : Nat} (h : m < 64) : highFed (Reg.MEM_NACC m) = true :=
  highFed_iff.mpr ⟨by simp only [Reg.MEM_NACC]; omega, by simp only [Reg.MEM_NACC]; omega⟩

/-- What this module holds of a member, and its own identity, are the same. -/
structure State.KeepsMember (m : Nat) (s t : State) : Prop where
  mem : t.fed.mem = s.fed.mem
  sys : t.sys = s.sys
  stat : t.rd (Reg.MEM_STAT m) = s.rd (Reg.MEM_STAT m)
  nacc : t.rd (Reg.MEM_NACC m) = s.rd (Reg.MEM_NACC m)

theorem State.KeepsMember.trans {m : Nat} (h : State.KeepsMember m s t) (k : State.KeepsMember m t u) : State.KeepsMember m s u :=
  ⟨k.mem.trans h.mem, k.sys.trans h.sys, k.stat.trans h.stat, k.nacc.trans h.nacc⟩

theorem State.KeepsMember.of {m : Nat} (hm : t.fed.mem = s.fed.mem) (hs : t.sys = s.sys) (hr : ∀ a, highFed a = true → a ≠ Reg.PAI_FED_EVT →
    a ≠ Reg.PAI_FED_EVT_SEQ → t.rd a = s.rd a) (h : m < 64) : State.KeepsMember m s t := by
  refine ⟨hm, hs, hr _ (highFed_memStat h) ?_ ?_, hr _ (highFed_memNacc h) ?_ ?_⟩
  · simp only [Reg.MEM_STAT, Reg.PAI_FED_EVT]; omega
  · simp only [Reg.MEM_STAT, Reg.PAI_FED_EVT_SEQ]; omega
  · simp only [Reg.MEM_NACC, Reg.PAI_FED_EVT]; omega
  · simp only [Reg.MEM_NACC, Reg.PAI_FED_EVT_SEQ]; omega

theorem memStat_not_judged {m k : Nat} (h : m ≠ k) : Reg.MEM_STAT m ∉ judgeWords k := by
  simp only [judgeWords, Reg.PAI_FED_STAT, Reg.PAI_RESV, Reg.MEM_STAT, Reg.MEM_NACC, Reg.PAI_FED_EVT, Reg.PAI_FED_EVT_SEQ, List.mem_cons,
    List.not_mem_nil, or_false, not_or]
  omega

theorem memNacc_not_judged {m k : Nat} (h : m ≠ k) : Reg.MEM_NACC m ∉ judgeWords k := by
  simp only [judgeWords, Reg.PAI_FED_STAT, Reg.PAI_RESV, Reg.MEM_STAT, Reg.MEM_NACC, Reg.PAI_FED_EVT, Reg.PAI_FED_EVT_SEQ, List.mem_cons,
    List.not_mem_nil, or_false, not_or]
  omega

theorem State.judgeFed_keepsMember {m : Nat} (h : m < 64) (hm : m ≠ s.myId) : State.KeepsMember m s s.judgeFed := by
  obtain ⟨x, hx⟩ := s.judgeFed_fed
  exact ⟨by rw [hx], s.judgeFed_changes.1.1.2 .sys (by decide), s.judgeFed_changes.2 _ (highFed_memStat h) (memStat_not_judged hm),
    s.judgeFed_changes.2 _ (highFed_memNacc h) (memNacc_not_judged hm)⟩

theorem State.commitEntry_rd_fed {n a : Nat} (hn : n < 4096) (ha : highFed a = true) : (s.commitEntry n).rd a = s.rd a := by
  obtain ⟨h1, h2⟩ := highFed_iff.mp ha
  have hw : a ∉ [Reg.AE_STAT n, Reg.AE_SEQ n, Reg.AE_LATE n] := by
    simp only [Reg.AE_STAT, Reg.AE_SEQ, Reg.AE_LATE, List.mem_cons, List.not_mem_nil, or_false, not_or]
    omega
  rw [State.commitEntry_eq]
  split
  · unfold State.refuseEntry State.refuseLate
    have hs (u : State) (f : Fld) (v : Nat) (hf : f.addr < 0xB800000) : (u.set f v).rd a = u.rd a := State.rd_set_ne _ _ _ _ (by omega)
    have hc (u : State) (c : Nat) (hf : c < 0xB800000) : (u.count c).rd a = u.rd a := State.rd_count _ _ _ (by omega)
    have hr (u : State) (f : Fld) (l : List Nat) (hf : f.addr < 0xB700000) (hc : eventCode f < 1024) : (u.raise f n l).rd a = u.rd a :=
      State.raise_rd_fed _ _ _ _ _ hc ha (by omega) (by omega)
    have hst : ∀ f ∈ [Fd.AE_STAT_STATE n, Fd.AE_STAT_REASON n], f.addr < 0xB800000 := by
      simp only [Fd.AE_STAT_STATE, Fd.AE_STAT_REASON, Reg.AE_STAT, List.mem_cons, List.not_mem_nil, or_false, forall_eq_or_imp, forall_eq]
      omega
    dsimp only
    split
    · rw [hr _ _ _ (by decide) (by decide), hc _ _ (by decide), hr _ _ _ (by decide) (by decide), hc _ _ (by decide), hs _ _ _ (hst _ (by simp)),
        hs _ _ _ (hst _ (by simp)), State.numberEntry_rd _ _ hw]
    · rw [hr _ _ _ (by decide) (by decide), hc _ _ (by decide), hs _ _ _ (hst _ (by simp)), hs _ _ _ (hst _ (by simp)), State.numberEntry_rd _ _ hw]
  · rw [State.armEntry_rd, State.rd_set_ne _ _ _ _ (by simp only [Fd.TIM_ACT_USED_N, Reg.TIM_ACT_USED]; omega),
      State.rd_set_ne _ _ _ _ (by simp only [Fd.AE_STAT_STATE, Reg.AE_STAT]; omega), State.numberEntry_rd _ _ hw]

/-- The commit of a barrier moves no word of the federation. -/
theorem State.commitBarrier_rd_fed (s : State) (b : BarrierMsg) (trig scope : Nat) {a : Nat} (ha : highFed a = true) :
    (s.commitBarrier b trig scope).2.rd a = s.rd a := by
  obtain ⟨h1, h2⟩ := highFed_iff.mp ha
  rcases hm : s.mainAbsent with _ | _
  · rcases hn : s.freeEntry with _ | n
    · unfold State.commitBarrier
      rw [hm, hn]
      rfl
    · rw [State.commitBarrier_eq hm hn, State.commitEntry_rd_fed (State.freeEntry_lt hn) ha, State.fillBarrier_rd]
      have := State.freeEntry_lt hn
      have := b.id.isLt
      simp only [barrierWords, Reg.BAR_CFG, Reg.AE_CTRL, Reg.AE_TRIG_LO, Reg.AE_TRIG_HI, Reg.AE_ARG0, Reg.AE_ARG1, List.mem_cons, List.not_mem_nil,
        or_false, not_or]
      omega
  · unfold State.commitBarrier
    rw [hm]
    rfl

theorem State.raise_keepsMember (f : Fld) (o : Nat) (l : List Nat) {m : Nat} (h : m < 64) (hf : f.addr = Reg.PAI_FED_EVT) (hc : eventCode f < 1024) :
    State.KeepsMember m s (s.raise f o l) :=
  State.KeepsMember.of (congrArg Fed.mem (State.raise_fed _ _ _ _ _)) (State.raise_sys _ _ _ _ _)
    (fun _ ha h1 h2 => State.raise_rd_fed _ _ _ _ _ hc ha (hf ▸ h1) (hf ▸ h2)) h

theorem State.passPseq_keepsMember (a : FedAnnounce) {m : Nat} (h : m < 64) : State.KeepsMember m s (s.passPseq a) := by
  refine State.KeepsMember.of ?_ ?_ (fun x hx _ _ => ?_) h
  · exact congrArg Fed.mem ((State.passPseq_keeps (x1 := a) (F := 33554432) rfl (Keeps.refl _ s)).fed.resolve_left (by decide))
  · exact (State.passPseq_keeps (x1 := a) (F := 33554432) rfl (Keeps.refl _ s)).sys.resolve_left (by decide)
  · refine foldl_keep (f := fun (s : State) (x : AdoptRow) => if diff32 x.pseq (s.rd Reg.PLN_PSEQ) > 0 then s.wr Reg.PLN_PSEQ x.pseq else s)
      (fun s => s.rd x) (fun u y => ?_) _ s
    split
    · exact State.rd_wr_ne _ _ _ _ (by have := (highFed_iff.mp hx).1; simp only [Reg.PLN_PSEQ]; omega)
    · rfl

theorem State.watchEpoch_keepsMember (a : FedAnnounce) {m : Nat} (h : m < 64) : State.KeepsMember m s (s.watchEpoch a) := by
  unfold State.watchEpoch
  split
  · exact State.KeepsMember.of rfl rfl (fun _ _ _ _ => rfl) h
  · exact State.KeepsMember.of rfl rfl (fun _ _ _ _ => rfl) h

/-- A proposal moves no word of the federation, and what this module holds of the members stays. -/
theorem State.proposeFed_kept (s : State) (b : BarrierMsg) :
    (∀ a, highFed a = true → (s.proposeFed b).rd a = s.rd a) ∧ (s.proposeFed b).fed.mem = s.fed.mem := by
  have hk := State.commitBarrier_keeps (x1 := b) (x2 := 2) (x3 := 1) (F := 50331652) rfl (Keeps.refl _ s)
  have hr (a : Nat) (ha : highFed a = true) : (s.commitBarrier b 2 1).2.rd a = s.rd a := s.commitBarrier_rd_fed b 2 1 ha
  have hm : (s.commitBarrier b 2 1).2.fed.mem = s.fed.mem := congrArg Fed.mem (hk.fed.resolve_left (by decide))
  unfold State.proposeFed
  rcases hc : s.commitBarrier b 2 1 with ⟨_ | n, u⟩
  · simp only [hc] at hr hm
    exact ⟨hr, hm⟩
  · simp only [hc] at hr hm
    refine ⟨fun a ha => ((State.cra_rd _ _ _ _ _ _ _).trans (u.agreeFed_rd b n a)).trans (hr a ha), ?_⟩
    rw [State.cra_fed, ← hm]
    unfold State.noteAdoption
    split <;> rfl

theorem State.proposeFedLevel_kept (s : State) : (∀ a, highFed a = true → s.proposeFedLevel.rd a = s.rd a) ∧ s.proposeFedLevel.fed.mem = s.fed.mem := by
  unfold State.proposeFedLevel
  rcases s.fedWanted with _ | l
  · exact ⟨fun _ _ => rfl, rfl⟩
  · dsimp only
    split
    · exact s.proposeFed_kept _
    · exact ⟨fun _ _ => rfl, rfl⟩

theorem State.proposeFedLevel_keepsMember {m : Nat} (h : m < 64) : State.KeepsMember m s s.proposeFedLevel :=
  State.KeepsMember.of s.proposeFedLevel_kept.2 ((State.proposeFedLevel_keeps (F := 59244580) rfl (Keeps.refl _ s)).sys.resolve_left (by decide))
    (fun a ha _ _ => s.proposeFedLevel_kept.1 a ha) h

/-! ### Announcements heard -/

/-- What this module holds of a member that it hears. -/
def State.memberOf (s : State) (a : FedAnnounce) : Member :=
  ⟨a, s.clk.now, Tab.put a.slot.val s.clk.now ((s.member? a.moduleId.val).elim [] (fun x => x.slotAt))⟩

/-- The state with a member that it hears, and the member's words. -/
def State.keepMember (s : State) (a : FedAnnounce) : State :=
  (s.setFed { s.fed with mem := s.fed.mem.put a.moduleId.val (s.memberOf a) }).showMember a

/-- A lost member is back. -/
def State.backMember (s : State) (m : Nat) (wasLost : Bool) : State :=
  if wasLost then
    let s := if Tab.has s.fed.lostAt m then s.setFed { s.fed with lostAt := s.fed.lostAt.del m }
             else s.setFed { s.fed with backAt := s.fed.backAt.put m s.clk.now }
    s.raise Fd.PAI_FED_EVT_MEMBER_BACK m []
  else s

/-- An ANNOUNCE of another module is taken. -/
def State.hearMember (s : State) (a : FedAnnounce) : State :=
  ((((s.keepMember a).backMember a.moduleId.val (decide (s.fld (Fd.MEM_STAT_FSTATE a.moduleId.val) = 3))).passPseq a).judgeFed.watchEpoch a).proposeFedLevel

/-- Whether another slot of the same module ID has been heard within 100 ms. -/
def State.otherSlot (s : State) (a : FedAnnounce) : Bool :=
  (s.member? a.moduleId.val).any (fun x => (Tab.find x.slotAt (1 - a.slot.val)).any (fun t => decide (s.clk.now ≤ t + msTicks 100)))

def State.hearAnnounce (s : State) (a : FedAnnounce) : State :=
  if ¬ s.on Fd.PAI_FED_CTRL_EN then s
  else if a.moduleId.val = s.myId then
    if s.fedOn ∧ a.slot ≠ s.sys.straps.slot then s.raise Fd.PAI_FED_EVT_DUP_ID a.moduleId.val [] else s
  else if s.otherSlot a then s.raise Fd.PAI_FED_EVT_DUP_ID a.moduleId.val []
  else s.hearMember a

theorem exec_fedAnnounce {c : Came} {a : FedAnnounce} (h : s.TakesCra c) :
    exec (.fedAnnounce ⟨c, a⟩) s = .next ((s.countRx c.port).hearAnnounce a) := by
  change execFedAnnounce ⟨c, a⟩ s = _
  unfold execFedAnnounce
  rw [State.takeCra_taken h]
  dsimp only
  unfold State.hearAnnounce State.hearMember State.otherSlot State.keepMember State.memberOf State.backMember
  by_cases hl : (s.countRx c.port).fld (Fd.MEM_STAT_FSTATE a.moduleId.val) = 3
  · rw [if_pos hl, decide_eq_true hl]
    rfl
  · rw [if_neg hl, decide_eq_false hl]
    rfl

theorem State.memFstate_setState (s : State) (m v : Nat) : (s.set (Fd.MEM_STAT_STATE m) v).fld (Fd.MEM_STAT_FSTATE m) = s.fld (Fd.MEM_STAT_FSTATE m) :=
  State.fld_set_bits _ _ _ _ rfl (Or.inr (show 0 + 2 ≤ 4 by decide))

theorem State.memFstate_setLmin (s : State) (m v : Nat) : (s.set (Fd.MEM_STAT_LMIN m) v).fld (Fd.MEM_STAT_FSTATE m) = s.fld (Fd.MEM_STAT_FSTATE m) :=
  State.fld_set_bits _ _ _ _ rfl (Or.inr (show 0 + 2 ≤ 16 by decide))

theorem State.memFstate_setLmax (s : State) (m v : Nat) : (s.set (Fd.MEM_STAT_LMAX m) v).fld (Fd.MEM_STAT_FSTATE m) = s.fld (Fd.MEM_STAT_FSTATE m) :=
  State.fld_set_bits _ _ _ _ rfl (Or.inr (show 0 + 2 ≤ 8 by decide))

theorem State.memState_setLmin (s : State) (m v : Nat) : (s.set (Fd.MEM_STAT_LMIN m) v).fld (Fd.MEM_STAT_STATE m) = s.fld (Fd.MEM_STAT_STATE m) :=
  State.fld_set_bits _ _ _ _ rfl (Or.inr (show 4 + 4 ≤ 16 by decide))

theorem State.memState_setLmax (s : State) (m v : Nat) : (s.set (Fd.MEM_STAT_LMAX m) v).fld (Fd.MEM_STAT_STATE m) = s.fld (Fd.MEM_STAT_STATE m) :=
  State.fld_set_bits _ _ _ _ rfl (Or.inr (show 4 + 4 ≤ 8 by decide))

theorem State.rd_setNacc (s : State) (m v : Nat) : (s.set (Fd.MEM_NACC_NACC m) v).rd (Reg.MEM_STAT m) = s.rd (Reg.MEM_STAT m) :=
  State.rd_set_ne _ _ _ _ (by simp only [Fd.MEM_NACC_NACC, Reg.MEM_NACC, Reg.MEM_STAT]; omega)

theorem State.memFstate_setNacc (s : State) (m v : Nat) : (s.set (Fd.MEM_NACC_NACC m) v).fld (Fd.MEM_STAT_FSTATE m) = s.fld (Fd.MEM_STAT_FSTATE m) :=
  State.fld_congr (f := Fd.MEM_STAT_FSTATE m) (State.rd_setNacc s m v)

theorem State.memState_setNacc (s : State) (m v : Nat) : (s.set (Fd.MEM_NACC_NACC m) v).fld (Fd.MEM_STAT_STATE m) = s.fld (Fd.MEM_STAT_STATE m) :=
  State.fld_congr (f := Fd.MEM_STAT_STATE m) (State.rd_setNacc s m v)

/-- The words of a member show what it has announced. -/
theorem State.showMember_spec (s : State) (a : FedAnnounce) :
    (s.showMember a).fld (Fd.MEM_STAT_FSTATE a.moduleId.val) = (if a.member then 2 else 1) ∧
      (s.showMember a).fld (Fd.MEM_STAT_STATE a.moduleId.val) = a.state.val ∧
      (s.showMember a).fld (Fd.MEM_NACC_NACC a.moduleId.val) = min a.nacc.toNat 4096 := by
  unfold State.showMember
  dsimp only
  refine ⟨?_, ?_, ?_⟩
  · rw [State.memFstate_setNacc, State.memFstate_setLmax, State.memFstate_setLmin, State.memFstate_setState]
    refine State.fld_set_small _ _ _ (show 0 + 2 ≤ 32 by decide) (show _ < 4 from ?_)
    split <;> decide
  · rw [State.memState_setNacc, State.memState_setLmax, State.memState_setLmin]
    exact State.fld_set_small _ _ _ (show 4 + 4 ≤ 32 by decide) a.state.isLt
  · exact State.fld_set_small _ (Fd.MEM_NACC_NACC a.moduleId.val) _ (show 0 + 13 ≤ 32 by decide)
      (Nat.lt_of_le_of_lt (Nat.min_le_right _ _) (show 4096 < 2 ^ 13 by decide))

theorem State.keepMember_sys (s : State) (a : FedAnnounce) : (s.keepMember a).sys = s.sys :=
  (State.showMember_keeps (F := 33554432) rfl (Keeps.refl _ (s.setFed _))).sys.resolve_left (by decide)

theorem State.keepMember_fed (s : State) (a : FedAnnounce) :
    (s.keepMember a).fed = { s.fed with mem := s.fed.mem.put a.moduleId.val (s.memberOf a) } :=
  (State.showMember_keeps (F := 33554432) rfl (Keeps.refl _ (s.setFed _))).fed.resolve_left (by decide)

theorem State.keepMember_heard (s : State) (a : FedAnnounce) :
    ((s.keepMember a).member? a.moduleId).map (fun x => (x.ann, x.at_)) = some (a, s.clk.now) := by
  unfold State.member?
  rw [State.keepMember_fed, Tab.find_put_self]
  rfl

theorem State.setFed_keepsMember (m : Nat) {f : Fed} (hf : f.mem = s.fed.mem) : State.KeepsMember m s (s.setFed f) := ⟨hf, rfl, rfl, rfl⟩

theorem State.backMember_keepsMember (l : Bool) (k : Nat) {m : Nat} (h : m < 64) : State.KeepsMember m s (s.backMember k l) := by
  have key (f : Fed) (hf : f.mem = s.fed.mem) : State.KeepsMember m s ((s.setFed f).raise Fd.PAI_FED_EVT_MEMBER_BACK k []) :=
    (State.setFed_keepsMember m hf).trans (State.raise_keepsMember _ _ _ h rfl (by decide))
  unfold State.backMember
  cases l
  · exact ⟨rfl, rfl, rfl, rfl⟩
  · dsimp only
    rw [if_pos rfl]
    split
    · exact key _ rfl
    · exact key _ rfl

/-- What follows on the words of a member that it hears. -/
theorem State.afterMember_keeps {a : FedAnnounce} (l : Bool) (hm : a.moduleId.val ≠ s.myId) :
    State.KeepsMember a.moduleId.val s (((((s.backMember a.moduleId.val l).passPseq a).judgeFed).watchEpoch a).proposeFedLevel) := by
  have hlt := a.moduleId.isLt
  have h1 := (State.backMember_keepsMember (s := s) l a.moduleId.val hlt).trans (State.passPseq_keepsMember a hlt)
  generalize (s.backMember a.moduleId.val l).passPseq a = v at *
  have hv : a.moduleId.val ≠ v.myId := by
    unfold State.myId
    rw [h1.sys]
    exact hm
  exact ((h1.trans (State.judgeFed_keepsMember hlt hv)).trans (State.watchEpoch_keepsMember a hlt)).trans (State.proposeFedLevel_keepsMember hlt)

/-- After a member is heard, this module holds what it announced. -/
theorem State.hearMember_keeps {a : FedAnnounce} (hm : a.moduleId.val ≠ s.myId) : State.KeepsMember a.moduleId.val (s.keepMember a) (s.hearMember a) :=
  State.afterMember_keeps _ (by unfold State.myId; rw [State.keepMember_sys]; exact hm)

theorem State.countRx_en {p : Nat} (hp : p < 16) : (s.countRx p).on Fd.PAI_FED_CTRL_EN = s.on Fd.PAI_FED_CTRL_EN :=
  congrArg (· == 1) (State.countRx_fld_far hp (by decide))

theorem State.countRx_otherSlot (p : Nat) (a : FedAnnounce) : (s.countRx p).otherSlot a = s.otherSlot a := by
  unfold State.otherSlot State.member?
  rw [State.countRx_fed, State.countRx_clk]

theorem fedAnnounce_ignored {c : Came} {a : FedAnnounce} (h : s.TakesCra c)
    (hn : s.on Fd.PAI_FED_CTRL_EN = false ∨ a.moduleId.val = s.myId ∧ (s.fedOn = false ∨ a.slot = s.sys.straps.slot)) :
    ∃ t, exec (.fedAnnounce ⟨c, a⟩) s = .next t ∧ Changes [] [Reg.PORT_CNT_RX c.port] s t := by
  refine ⟨_, (exec_fedAnnounce h).trans (congrArg _ ?_), (Changes.refl _ _ s).countRx⟩
  unfold State.hearAnnounce
  rw [State.countRx_en c.port.isLt, State.countRx_myId, State.countRx_fedOn c.port.isLt, State.countRx_sys]
  obtain hn | ⟨hm, hn⟩ := hn
  · exact if_pos (by rw [hn]; decide)
  · rw [if_pos hm, if_neg (c := s.fedOn = true ∧ _)]
    · exact ite_self _
    · rintro ⟨hf, hs⟩
      obtain hn | hn := hn
      · rw [hn] at hf
        exact absurd hf (by decide)
      · exact hs hn

theorem fedAnnounce_closed {c : Came} {a : FedAnnounce} (h : s.portTakes Fd.PORT_CFG_CRAORI c.port c.src c.row = false) :
    exec (.fedAnnounce ⟨c, a⟩) s = .next s := congrArg Host.Outcome.next (State.takeCra_closed h _)

theorem State.dupId_spec (s : State) (p : Fin 16) (m : Nat) : ((s.countRx p).raise Fd.PAI_FED_EVT_DUP_ID m []).on Fd.PAI_FED_EVT_DUP_ID = true ∧
    Changes [.firn] [Reg.PAI_FED_EVT, Reg.PAI_FED_EVT_SEQ, Reg.PORT_CNT_RX p] s ((s.countRx p).raise Fd.PAI_FED_EVT_DUP_ID m []) :=
  ⟨State.raise_on_fed _ _ _ _ _, ((Changes.refl [.firn] _ s).countRx).raise (f := Fd.PAI_FED_EVT_DUP_ID)⟩

theorem fedAnnounce_other {c : Came} {a : FedAnnounce} {x : Member} {y : Nat} (h : s.TakesCra c) (he : s.on Fd.PAI_FED_CTRL_EN = true)
    (hm : a.moduleId.val ≠ s.myId) (hx : s.member? a.moduleId = some x) (hy : Tab.find x.slotAt (1 - a.slot.val) = some y)
    (hn : s.clk.now ≤ y + msTicks 100) :
    ∃ t, exec (.fedAnnounce ⟨c, a⟩) s = .next t ∧ t.on Fd.PAI_FED_EVT_DUP_ID = true ∧
      Changes [.firn] [Reg.PAI_FED_EVT, Reg.PAI_FED_EVT_SEQ, Reg.PORT_CNT_RX c.port] s t := by
  refine ⟨_, (exec_fedAnnounce h).trans (congrArg _ ?_), State.dupId_spec s c.port a.moduleId.val⟩
  unfold State.hearAnnounce
  rw [State.countRx_en c.port.isLt, State.countRx_myId, if_neg (not_not.mpr he), if_neg hm, State.countRx_otherSlot]
  refine if_pos ?_
  unfold State.otherSlot
  rw [hx, Option.any_some, hy, Option.any_some, decide_eq_true_iff]
  exact hn

theorem fedAnnounce_own {c : Came} {a : FedAnnounce} (h : s.TakesCra c) (hf : s.fedOn = true) (hm : a.moduleId.val = s.myId)
    (hs : a.slot ≠ s.sys.straps.slot) :
    ∃ t, exec (.fedAnnounce ⟨c, a⟩) s = .next t ∧ t.on Fd.PAI_FED_EVT_DUP_ID = true ∧
      Changes [.firn] [Reg.PAI_FED_EVT, Reg.PAI_FED_EVT_SEQ, Reg.PORT_CNT_RX c.port] s t := by
  refine ⟨_, (exec_fedAnnounce h).trans (congrArg _ ?_), State.dupId_spec s c.port a.moduleId.val⟩
  unfold State.hearAnnounce
  rw [State.countRx_en c.port.isLt, State.countRx_myId, if_neg (not_not.mpr (State.fedOn_en hf)), if_pos hm, State.countRx_fedOn c.port.isLt,
    State.countRx_sys, if_pos ⟨hf, hs⟩]

theorem State.otherSlot_off {a : FedAnnounce}
    (h : (s.member? a.moduleId).all (fun x => (Tab.find x.slotAt (1 - a.slot.val)).all (fun y => decide (y + msTicks 100 < s.clk.now))) = true) :
    s.otherSlot a = false := by
  unfold State.otherSlot
  rcases hx : s.member? a.moduleId.val with _ | x
  · rfl
  · rw [hx, Option.all_some] at h
    rw [Option.any_some]
    rcases hy : Tab.find x.slotAt (1 - a.slot.val) with _ | y
    · rfl
    · rw [hy, Option.all_some, decide_eq_true_iff] at h
      rw [Option.any_some, decide_eq_false_iff_not]
      omega

theorem fedAnnounce_heard {c : Came} {a : FedAnnounce} (h : s.TakesCra c) (he : s.on Fd.PAI_FED_CTRL_EN = true) (hm : a.moduleId.val ≠ s.myId)
    (hn : (s.member? a.moduleId).all (fun x => (Tab.find x.slotAt (1 - a.slot.val)).all (fun y => decide (y + msTicks 100 < s.clk.now))) = true) :
    ∃ t, exec (.fedAnnounce ⟨c, a⟩) s = .next t ∧
      (t.member? a.moduleId).map (fun x => (x.ann, x.at_)) = some (a, s.clk.now) ∧
      (t.fld (Fd.MEM_STAT_FSTATE a.moduleId) = if a.member then 2 else 1) ∧
      t.fld (Fd.MEM_STAT_STATE a.moduleId) = a.state.val ∧
      t.fld (Fd.MEM_NACC_NACC a.moduleId) = min a.nacc.toNat 4096 := by
  have hx : (s.countRx c.port).hearAnnounce a = (s.countRx c.port).hearMember a := by
    unfold State.hearAnnounce
    rw [State.countRx_en c.port.isLt, State.countRx_myId, if_neg (not_not.mpr he), if_neg hm, State.countRx_otherSlot, State.otherSlot_off hn]
    exact if_neg Bool.false_ne_true
  have hclk := State.countRx_clk (s := s) c.port
  rw [← State.countRx_myId c.port] at hm
  have hx := (exec_fedAnnounce (a := a) h).trans (congrArg Host.Outcome.next hx)
  generalize s.countRx c.port = v at *
  have hk := State.hearMember_keeps (a := a) hm
  have h1 := v.keepMember_heard a
  obtain ⟨h2, h3, h4⟩ : (v.keepMember a).fld (Fd.MEM_STAT_FSTATE a.moduleId.val) = (if a.member then 2 else 1) ∧
      (v.keepMember a).fld (Fd.MEM_STAT_STATE a.moduleId.val) = a.state.val ∧
      (v.keepMember a).fld (Fd.MEM_NACC_NACC a.moduleId.val) = min a.nacc.toNat 4096 := State.showMember_spec _ a
  refine ⟨_, hx, ?_, (State.fld_congr hk.stat).trans h2, (State.fld_congr hk.stat).trans h3, (State.fld_congr hk.nacc).trans h4⟩
  rw [← hclk, ← h1]
  unfold State.member?
  rw [hk.mem]

/-! ### Members lost -/

/-- A member out of the federation, before that is told and judged. -/
def State.dropMember (s : State) (m : Nat) : State :=
  (s.set (Fd.MEM_STAT_FSTATE m) 3).setFed { s.fed with lostAt := s.fed.lostAt.put m s.clk.now, backAt := s.fed.backAt.del m }

theorem State.loseMember_eq {m : Nat} {x : Member} (hx : s.member? m = some x) (he : s.on Fd.PAI_FED_CTRL_EN = true)
    (hf : s.fld (Fd.MEM_STAT_FSTATE m) = 2) (hn : x.at_ + msTicks (s.fld Fd.PAI_FED_LOST_MS) ≤ s.clk.now) :
    s.loseMember m = ((s.dropMember m).raise Fd.PAI_FED_EVT_MEMBER_LOST m []).judgeFed := by
  unfold State.loseMember
  rw [hx]
  dsimp only
  rw [if_pos ⟨he, Or.inr hf, hn⟩, if_pos hf]
  rfl

theorem State.dropMember_changes (s : State) (m : Nat) : FedChanges [.fed] [Reg.MEM_STAT m] s (s.dropMember m) :=
  ((FedChanges.refl [.fed] [Reg.MEM_STAT m] s).set (f := Fd.MEM_STAT_FSTATE m) (v := 3)).setFed

theorem State.dropMember_fstate (s : State) (m : Nat) : (s.dropMember m).fld (Fd.MEM_STAT_FSTATE m) = 3 :=
  State.fld_set_small s (Fd.MEM_STAT_FSTATE m) 3 (show 0 + 2 ≤ 32 by decide) (show 3 < 4 by decide)

theorem exec_memberLost (m : Fin 64) (s : State) : exec (.fedMemberLost m) s = .next (s.loseMember m) := rfl

theorem memberLost_lost {m : Fin 64} {x : Member} (hx : s.member? m = some x) (he : s.on Fd.PAI_FED_CTRL_EN = true)
    (hf : s.fld (Fd.MEM_STAT_FSTATE m) = 2) (hn : x.at_ + msTicks (s.fld Fd.PAI_FED_LOST_MS) ≤ s.clk.now) (hm : m.val ≠ s.myId) :
    ∃ t, exec (.fedMemberLost m) s = .next t ∧
      t.fld (Fd.MEM_STAT_FSTATE m) = 3 ∧
      t.fed.lostAt = s.fed.lostAt.put m s.clk.now ∧ t.fed.backAt = s.fed.backAt.del m ∧
      t.on Fd.PAI_FED_EVT_MEMBER_LOST = true ∧
      Changes [.fed, .firn] [Reg.PAI_FED_STAT, Reg.PAI_RESV, Reg.MEM_STAT s.myId, Reg.MEM_NACC s.myId, Reg.MEM_STAT m, Reg.PAI_FED_EVT, Reg.PAI_FED_EVT_SEQ] s t := by
  have hd := s.dropMember_changes m
  have hfs := s.dropMember_fstate m
  have hfed : (s.dropMember m).fed = { s.fed with lostAt := s.fed.lostAt.put m s.clk.now, backAt := s.fed.backAt.del m } := rfl
  have hx := (exec_memberLost m s).trans (congrArg _ (State.loseMember_eq hx he hf hn))
  generalize s.dropMember m = u at *
  have hr : FedChanges [.firn] [Reg.PAI_FED_EVT, Reg.PAI_FED_EVT_SEQ] u (u.raise Fd.PAI_FED_EVT_MEMBER_LOST m []) :=
    (FedChanges.refl [.firn] _ u).raise (f := Fd.PAI_FED_EVT_MEMBER_LOST)
  have hrf : (u.raise Fd.PAI_FED_EVT_MEMBER_LOST m []).fed = u.fed := State.raise_fed _ _ _ _ _
  have hon : (u.raise Fd.PAI_FED_EVT_MEMBER_LOST m []).on Fd.PAI_FED_EVT_MEMBER_LOST = true := State.raise_on_fed _ _ _ _ _
  have hst : (u.raise Fd.PAI_FED_EVT_MEMBER_LOST m []).fld (Fd.MEM_STAT_FSTATE m) = 3 := by
    refine (State.fld_congr (hr.2 _ (highFed_memStat m.isLt) ?_)).trans hfs
    simp only [Fd.MEM_STAT_FSTATE, Reg.MEM_STAT, Reg.PAI_FED_EVT, Reg.PAI_FED_EVT_SEQ, List.mem_cons, List.not_mem_nil, or_false, not_or]
    omega
  generalize u.raise Fd.PAI_FED_EVT_MEMBER_LOST m [] = v at *
  have hv : v.myId = s.myId := congrArg (fun y : Sys => y.straps.moduleId.val) ((hr.1.1.2 .sys (by decide)).trans (hd.1.1.2 .sys (by decide)))
  obtain ⟨y, hy⟩ := v.judgeFed_fed
  rw [hrf, hfed] at hy
  have hj := v.judgeFed_changes
  rw [hv] at hj
  refine ⟨_, hx, (State.fld_congr (hj.2 _ (highFed_memStat m.isLt) (memStat_not_judged hm))).trans hst, by rw [hy], by rw [hy], v.judgeFed_on hon, ?_⟩
  exact (((hd.mono (ps := [.fed, .firn]) (ws := [Reg.PAI_FED_STAT, Reg.PAI_RESV, Reg.MEM_STAT s.myId, Reg.MEM_NACC s.myId, Reg.MEM_STAT m, Reg.PAI_FED_EVT,
    Reg.PAI_FED_EVT_SEQ]) (by decide) (by simp)).step hr).step hj (by decide) (by simp [judgeWords])).1

theorem memberLost_idle {m : Fin 64} (h : s.on Fd.PAI_FED_CTRL_EN = false ∨
    (s.member? m).all (fun x => decide (s.clk.now < x.at_ + msTicks (s.fld Fd.PAI_FED_LOST_MS))) = true ∨ s.fld (Fd.MEM_STAT_FSTATE m) = 0 ∨
    s.fld (Fd.MEM_STAT_FSTATE m) = 3) : exec (.fedMemberLost m) s = .next s := by
  rw [exec_memberLost]
  unfold State.loseMember
  rcases hx : s.member? m.val with _ | x
  · rfl
  · refine congrArg _ (if_neg ?_)
    rintro ⟨he, hf, hn⟩
    obtain h | h | h | h := h
    · rw [h] at he
      exact absurd he (by decide)
    · rw [hx, Option.all_some, decide_eq_true_iff] at h
      omega
    · omega
    · omega

/-! ### Row maps -/

theorem exec_fedRowmap {c : Came} {m : Fin 64} {map : List RowAcc} (h : s.TakesCra c) : exec (.fedRowmap ⟨c, m⟩ map) s =
    .next (if (s.countRx c.port).on Fd.PAI_FED_CTRL_EN ∧ ¬ (s.countRx c.port).mainAbsent ∧ m.val ≠ (s.countRx c.port).myId then
      (s.countRx c.port).setFed { (s.countRx c.port).fed with maps := (s.countRx c.port).fed.maps.put m map } else s.countRx c.port) :=
  congrArg Host.Outcome.next (State.takeCra_taken h _)

theorem fedRowmap_idle {c : Came} {m : Fin 64} {map : List RowAcc} (h : s.TakesCra c)
    (hn : s.on Fd.PAI_FED_CTRL_EN = false ∨ s.mainAbsent = true ∨ m.val = s.myId) :
    ∃ t, exec (.fedRowmap ⟨c, m⟩ map) s = .next t ∧ Changes [] [Reg.PORT_CNT_RX c.port] s t := by
  refine ⟨_, (exec_fedRowmap h).trans (congrArg _ (if_neg ?_)), (Changes.refl _ _ s).countRx⟩
  rw [State.countRx_en c.port.isLt, State.countRx_mainAbsent c.port.isLt, State.countRx_myId]
  rintro ⟨he, hm, hi⟩
  obtain hn | hn | hn := hn
  · rw [hn] at he
    exact absurd he (by decide)
  · exact hm hn
  · exact hi hn

theorem fedRowmap_kept {c : Came} {m : Fin 64} {map : List RowAcc} (h : s.TakesCra c) (he : s.on Fd.PAI_FED_CTRL_EN = true) (hm : s.mainAbsent = false)
    (hi : m.val ≠ s.myId) :
    ∃ t, exec (.fedRowmap ⟨c, m⟩ map) s = .next t ∧
      t.fed = { s.fed with maps := s.fed.maps.put m map } ∧ Changes [.fed] [Reg.PORT_CNT_RX c.port] s t := by
  refine ⟨_, (exec_fedRowmap h).trans (congrArg _ (if_pos ?_)), ?_, ((Changes.refl [.fed] _ s).countRx).upd_fed⟩
  · rw [State.countRx_en c.port.isLt, State.countRx_mainAbsent c.port.isLt, State.countRx_myId]
    exact ⟨he, by rw [hm]; decide, hi⟩
  · rw [← State.countRx_fed (s := s) c.port]
    rfl

theorem exec_rowmapSend (s : State) : exec .fedRowmapSend s = .next s.rowMapDue := rfl

theorem rowmapSend_sent (hf : s.fedOn = true) (hm : s.mainAbsent = false)
    (hd : s.fed.mapAt.all (fun x => decide (x + sTicks 60 ≤ s.clk.now)) = true ∨ s.rowMap ≠ s.fed.mapSent) :
    ∃ t, exec .fedRowmapSend s = .next t ∧
      t.fed = { s.fed with mapAt := some s.clk.now, mapSent := s.rowMap } ∧
      t.sec.craSeq = s.sec.craSeq.put 9 ((Tab.at 0 s.sec.craSeq 9 + 1) % 2 ^ 32) ∧
      t.out.length = s.out.length + 2 ∧
      Only [.sec, .fed, .out] s t := by
  have hx : s.rowMapDue = (s.setFed { s.fed with mapAt := some s.clk.now, mapSent := s.rowMap }).cra .fedRowmap 9 s.fedLevel [2, 3] s.rowMap := by
    refine if_neg ?_
    rintro (h | h | ⟨hp, hq⟩)
    · exact h hf
    · rw [hm] at h
      exact absurd h (by decide)
    · exact hd.elim hp (fun h => h hq)
  refine ⟨_, (exec_rowmapSend s).trans (congrArg _ hx), State.cra_fed _ _ _ _ _ _, State.craEach_seq _ _ _ _ _,
    State.cra_nets_length (s.setFed _) _ _ _ _ (State.portAbsent_of_fedOn hf), ?_⟩
  have hs : Only [.sec, .fed, .out] s (s.setFed { s.fed with mapAt := some s.clk.now, mapSent := s.rowMap }) := by
    refine ⟨rfl, fun p hp => ?_⟩
    cases p
    case fed => exact absurd (by decide) hp
    all_goals rfl
  exact hs.trans ((State.craEach_only _ _ _ _ _).mono (by decide))

theorem rowmapSend_idle (h : s.fedOn = false ∨ s.mainAbsent = true ∨
    s.fed.mapAt.any (fun x => decide (s.clk.now < x + sTicks 60)) = true ∧ s.rowMap = s.fed.mapSent) : exec .fedRowmapSend s = .next s := by
  rw [exec_rowmapSend]
  refine congrArg _ (if_pos ?_)
  obtain h | h | ⟨h1, h2⟩ := h
  · exact Or.inl (by rw [h]; decide)
  · exact Or.inr (Or.inl h)
  · exact Or.inr (Or.inr ⟨by rw [State.periodDue_off h1]; decide, h2⟩)

/-! ### The epoch -/

theorem exec_fedResync (s : State) : exec .fedResync s = .next s.resyncDue := rfl

theorem fedResync_idle (h : s.fed.differ.all (fun x => decide (s.clk.now < x + sTicks 1)) = true) : exec .fedResync s = .next s := by
  rw [exec_fedResync]
  refine congrArg _ (if_neg fun hn => ?_)
  rcases hx : s.fed.differ with _ | x
  · rw [hx] at hn
    exact absurd hn Bool.false_ne_true
  · rw [hx, Option.all_some, decide_eq_true_iff] at h
    rw [hx, Option.any_some, decide_eq_true_iff] at hn
    omega

theorem fedResync_noted {x : Nat} (hx : s.fed.differ = some x) (hn : x + sTicks 1 ≤ s.clk.now) :
    exec .fedResync s = .next { s with fed := { s.fed with resync := true } } := by
  rw [exec_fedResync]
  refine congrArg _ (if_pos ?_)
  rw [hx, Option.any_some, decide_eq_true_iff]
  exact hn

/-! ### The coordinator -/

theorem State.rangeOf_of (hr : ∀ a, a ≠ Reg.PAI_FED_STAT → t.rd a = s.rd a) (hf : t.fed = s.fed) (hs : t.sys = s.sys) (m : Nat) :
    t.rangeOf m = s.rangeOf m := by
  unfold State.rangeOf State.member? State.myId
  rw [hf, hs, State.fld_congr (f := Fd.PAI_LVL_MIN) (hr Reg.PAI_LVL (by decide)), State.fld_congr (f := Fd.PAI_LVL_MAX) (hr Reg.PAI_LVL (by decide)),
    State.fld_congr (f := Fd.PAI_PLVL_CAP) (hr _ (by decide)),
    State.fld_congr (f := Fd.MEM_STAT_LMIN m) (hr (Reg.MEM_STAT m) (by simp only [Reg.MEM_STAT, Reg.PAI_FED_STAT]; omega)),
    State.fld_congr (f := Fd.MEM_STAT_LMAX m) (hr (Reg.MEM_STAT m) (by simp only [Reg.MEM_STAT, Reg.PAI_FED_STAT]; omega))]

theorem State.fedWanted_of (hr : ∀ a, a ≠ Reg.PAI_FED_STAT → t.rd a = s.rd a) (hf : t.fed = s.fed) (hs : t.sys = s.sys) : t.fedWanted = s.fedWanted := by
  unfold State.fedWanted
  rw [State.fedMembers_of (s := s) (fun m _ => hr _ (by simp only [Reg.MEM_STAT, Reg.PAI_FED_STAT]; omega))]
  simp only [State.rangeOf_of hr hf hs]

/-- This module coordinates, before it proposes a level. -/
def State.setCoord (s : State) : State := s.set Fd.PAI_FED_STAT_COORD 1

theorem State.setCoord_changes (s : State) : Changes [] [Reg.PAI_FED_STAT] s s.setCoord := (Changes.refl [] _ s).set (f := Fd.PAI_FED_STAT_COORD) (v := 1)

theorem State.setCoord_rd (s : State) {a : Nat} (ha : a ≠ Reg.PAI_FED_STAT) : s.setCoord.rd a = s.rd a := State.rd_set_ne s Fd.PAI_FED_STAT_COORD 1 a ha

theorem State.setCoord_fld (s : State) : s.setCoord.fld Fd.PAI_FED_STAT_COORD = 1 := State.fld_set_small s Fd.PAI_FED_STAT_COORD 1

/-- Nothing is proposed where the level that is wanted runs. -/
theorem State.proposeFedLevel_idle (h : s.fedWanted = some s.fedLevel ∨ s.fedWanted = none) : s.proposeFedLevel = s := by
  unfold State.proposeFedLevel
  obtain h | h := h
  · rw [h]
    exact if_neg fun hn => hn.2.1 rfl
  · rw [h]

theorem exec_coordAssume (s : State) : exec .fedCoordinatorAssume s = .next s.assumeCoord := rfl

theorem coordAssume_assumed {x : Nat} (hf : s.fedOn = true) (hx : s.fed.selfFrom = some x) (hc : s.on Fd.PAI_FED_STAT_COORD = false)
    (hn : x + msTicks 100 ≤ s.clk.now) :
    ∃ t, exec .fedCoordinatorAssume s = .next t ∧
      t.on Fd.PAI_FED_STAT_COORD = true ∧
      (s.fedWanted = some s.fedLevel ∨ s.fedWanted = none → Changes [] [Reg.PAI_FED_STAT] s t) := by
  have he : s.assumeCoord = s.setCoord.proposeFedLevel := by
    refine if_pos ⟨hf, by rw [hc]; decide, ?_⟩
    rw [hx, Option.any_some, decide_eq_true_iff]
    exact hn
  have hw : s.setCoord.fedWanted = s.fedWanted := State.fedWanted_of (fun _ => s.setCoord_rd) rfl rfl
  have hl : s.setCoord.fedLevel = s.fedLevel := State.fld_congr (f := Fd.PAI_LVL_RUN) (s.setCoord_rd (by decide))
  refine ⟨_, (exec_coordAssume s).trans (congrArg _ he), ?_, fun h => ?_⟩
  · exact beq_iff_eq.mpr ((State.fld_congr (s.setCoord.proposeFedLevel_kept.1 _ (by decide))).trans s.setCoord_fld)
  · rw [State.proposeFedLevel_idle (by rw [hw, hl]; exact h)]
    exact s.setCoord_changes

theorem coordAssume_idle (h : s.fedOn = false ∨ s.on Fd.PAI_FED_STAT_COORD = true ∨
    s.fed.selfFrom.all (fun x => decide (s.clk.now < x + msTicks 100)) = true) : exec .fedCoordinatorAssume s = .next s := by
  rw [exec_coordAssume]
  refine congrArg _ (if_neg ?_)
  rintro ⟨hf, hc, hx⟩
  obtain h | h | h := h
  · rw [h] at hf
    exact absurd hf (by decide)
  · exact hc h
  · rcases hs : s.fed.selfFrom with _ | x
    · rw [hs] at hx
      exact absurd hx Bool.false_ne_true
    · rw [hs, Option.all_some, decide_eq_true_iff] at h
      rw [hs, Option.any_some, decide_eq_true_iff] at hx
      omega

/-! ### Shares -/

/-- The budgets of an ALLOC, as words. -/
def allocRow (l : List (Nat × Nat × Nat)) : List (Nat × Word) := l.map (fun e => (e.1, BitVec.ofNat 32 e.2.1))

/-- The budget and ramp that this module takes at a time. -/
def State.noteShare (s : State) (v : BitVec 64) (b r : Nat) : State :=
  { s with plan := { s.plan with fedNext := s.plan.fedNext.filter (fun x => x.1 != v) ++ [(v, b, r)] } }

/-- The members' budgets and the time of an ALLOC. -/
def State.noteAlloc (s : State) (l : List (Nat × Nat × Nat)) : State :=
  (s.wrRow Reg.MEM_BUDGET (allocRow l)).setFed { s.fed with allocAt := some s.clk.now }

theorem State.takeAlloc_eq (s : State) (eff : Nat) (l : List (Nat × Nat × Nat)) : s.takeAlloc eff l =
    match l.find? (fun e => e.1 == s.myId) with
    | some e => (s.noteAlloc l).noteShare (BitVec.ofNat 64 eff) e.2.1 e.2.2
    | none => s.noteAlloc l := by
  have hw : l.foldl (fun (s : State) e => s.wr (Reg.MEM_BUDGET e.1) (BitVec.ofNat 32 e.2.1)) s = s.wrRow Reg.MEM_BUDGET (allocRow l) := by
    unfold State.wrRow allocRow
    rw [List.foldl_map]
  have hf : (s.wrRow Reg.MEM_BUDGET (allocRow l)).fed = s.fed := State.wrRow_part State.fed (fun _ _ _ => rfl) _ _ _
  have hc : (s.wrRow Reg.MEM_BUDGET (allocRow l)).clk = s.clk := State.wrRow_part State.clk (fun _ _ _ => rfl) _ _ _
  have hs : (s.wrRow Reg.MEM_BUDGET (allocRow l)).sys = s.sys := State.wrRow_part State.sys (fun _ _ _ => rfl) _ _ _
  unfold State.takeAlloc State.noteAlloc State.noteShare
  rw [hw]
  generalize s.wrRow Reg.MEM_BUDGET (allocRow l) = u at *
  dsimp only
  rw [hf, hc]
  have hm : (u.setFed { s.fed with allocAt := some s.clk.now }).myId = s.myId := congrArg (fun y : Sys => y.straps.moduleId.val) hs
  rcases hx : l.find? (fun e => e.1 == s.myId) with _ | e <;> simp only [hm, hx]

theorem State.noteAlloc_changes (s : State) {l : List (Nat × Nat × Nat)} (hw : ∀ e ∈ l, Reg.MEM_BUDGET e.1 ∈ ws) :
    Changes [.fed] ws s (s.noteAlloc l) := by
  refine Changes.upd_fed ((Changes.refl [.fed] ws s).wrRow ?_)
  intro p hp
  obtain ⟨e, he, rfl⟩ := List.mem_map.mp hp
  exact hw e he

theorem State.noteAlloc_rd {l : List (Nat × Nat × Nat)} (hn : (l.map (fun e => e.1)).Nodup) {e : Nat × Nat × Nat} (he : e ∈ l) (s : State) :
    (s.noteAlloc l).rd (Reg.MEM_BUDGET e.1) = BitVec.ofNat 32 e.2.1 := by
  refine State.wrRow_rd Reg.MEM_BUDGET (p := (e.1, BitVec.ofNat 32 e.2.1)) ?_ (List.mem_map.mpr ⟨e, he, rfl⟩) s
  change ((allocRow l).map (fun p => Reg.MEM_BUDGET p.1)).Nodup
  have hm : (allocRow l).map (fun p => Reg.MEM_BUDGET p.1) = (l.map (fun e => e.1)).map Reg.MEM_BUDGET := by
    unfold allocRow
    rw [List.map_map, List.map_map]
    rfl
  rw [hm]
  exact hn.map (fun a b h => by simp only [Reg.MEM_BUDGET] at h; omega)

theorem State.noteShare_changes (s : State) (v : BitVec 64) (b r : Nat) : Changes [.plan] [] s (s.noteShare v b r) := (Changes.refl [.plan] [] s).upd_plan

theorem State.takeAlloc_rd (s : State) (eff : Nat) (l : List (Nat × Nat × Nat)) (a : Nat) : (s.takeAlloc eff l).rd a = (s.noteAlloc l).rd a := by
  rw [State.takeAlloc_eq]
  split <;> rfl

theorem State.takeAlloc_fed (s : State) (eff : Nat) (l : List (Nat × Nat × Nat)) : (s.takeAlloc eff l).fed = { s.fed with allocAt := some s.clk.now } := by
  rw [State.takeAlloc_eq]
  split <;> rfl

theorem State.takeAlloc_changes (s : State) (eff : Nat) {l : List (Nat × Nat × Nat)} (hw : ∀ e ∈ l, Reg.MEM_BUDGET e.1 ∈ ws) :
    Changes [.fed, .plan] ws s (s.takeAlloc eff l) := by
  have h := (s.noteAlloc_changes hw).mono (ps := [.fed, .plan]) (by decide) (List.Subset.refl _)
  rw [State.takeAlloc_eq]
  split
  · exact h.step (State.noteShare_changes _ _ _ _)
  · exact h

theorem exec_allocCompute (s : State) : exec .fedAllocCompute s = .next s.allocDue := rfl

theorem allocCompute_idle (h : s.fedOn = false ∨ s.on Fd.PAI_FED_STAT_COORD = false ∨
    s.fed.allocAt.any (fun x => decide (s.clk.now < x + msTicks 100)) = true) : exec .fedAllocCompute s = .next s := by
  rw [exec_allocCompute]
  refine congrArg _ (if_neg ?_)
  rintro ⟨hf, hc, hd⟩
  obtain h | h | h := h
  · rw [h] at hf
    exact absurd hf (by decide)
  · rw [h] at hc
    exact absurd hc (by decide)
  · rw [State.periodDue_off h] at hd
    exact absurd hd (by decide)

theorem State.fedAlloc_members (s : State) : s.fedAlloc.map (fun e => e.1) = s.fedMembers := by
  unfold State.fedAlloc
  dsimp only
  rw [List.map_map]
  exact List.map_id'' (fun _ => rfl) _

theorem State.fedMembers_nodup (s : State) : s.fedMembers.Nodup := List.nodup_range.filter _

/-- The state with the free values of an ALLOC drawn. -/
def State.drawShares (s : State) : State := { s with fresh := s.fresh + 192 }

theorem allocCompute_sent (hf : s.fedOn = true) (hc : s.on Fd.PAI_FED_STAT_COORD = true)
    (hd : s.fed.allocAt.all (fun x => decide (x + msTicks 100 ≤ s.clk.now)) = true) :
    ∃ t, exec .fedAllocCompute s = .next t ∧
      t.fed.allocAt = some s.clk.now ∧
      (∀ e ∈ s.fedAlloc, t.rd (Reg.MEM_BUDGET e.1) = BitVec.ofNat 32 e.2.1) ∧
      Changes [.fed, .plan, .sec, .out, .fresh] (s.fedMembers.map Reg.MEM_BUDGET) s t := by
  have hx : s.allocDue = (s.drawShares.takeAlloc (s.clk.mtime.toNat + 20000000) s.fedAlloc).cra .fedAlloc 4 s.fedLevel [2, 3]
      ((s.clk.mtime.toNat + 20000000) :: s.fedAlloc.flatMap (fun (e : Nat × Nat × Nat) => [e.1, e.2.1, e.2.2])) := if_pos ⟨hf, hc, hd⟩
  have hw : ∀ e ∈ s.fedAlloc, Reg.MEM_BUDGET e.1 ∈ s.fedMembers.map Reg.MEM_BUDGET := by
    intro e he
    rw [← s.fedAlloc_members, List.map_map]
    exact List.mem_map.mpr ⟨e, he, rfl⟩
  have hdraw : Changes [.fed, .plan, .sec, .out, .fresh] (s.fedMembers.map Reg.MEM_BUDGET) s s.drawShares :=
    (Changes.refl _ _ s).upd_fresh (x := s.fresh + 192) (Nat.le_add_right _ _)
  refine ⟨_, (exec_allocCompute s).trans (congrArg _ hx), ?_, fun e he => ?_, ?_⟩
  · rw [State.cra_fed, State.takeAlloc_fed]
    rfl
  · rw [State.cra_rd, State.takeAlloc_rd]
    exact State.noteAlloc_rd (by rw [s.fedAlloc_members]; exact s.fedMembers_nodup) he _
  · exact (hdraw.step (State.takeAlloc_changes _ _ hw) (by decide) (fun _ h => h)).cra

theorem exec_fedAlloc {c : Came} {m : Fin 64} {eff : BitVec 64} {l : List AllocEntry} (h : s.TakesCra c) : exec (.fedAlloc ⟨c, m⟩ eff l) s =
    .next (if (s.countRx c.port).fedOn ∧ m.val ≠ (s.countRx c.port).myId ∧ (s.countRx c.port).coordinator = some m.val then
      (s.countRx c.port).takeAlloc eff.toNat (l.map (fun (e : AllocEntry) => (e.m.val, e.budget.toNat, e.ramp.toNat))) else s.countRx c.port) :=
  congrArg Host.Outcome.next (State.takeCra_taken h _)

/-- An ALLOC of the coordinator. -/
theorem exec_fedAlloc_taken {c : Came} {m : Fin 64} {eff : BitVec 64} {l : List AllocEntry} (h : s.TakesCra c) (hf : s.fedOn = true) (hm : m.val ≠ s.myId)
    (hc : s.coordinator = some m.val) : exec (.fedAlloc ⟨c, m⟩ eff l) s =
      .next ((s.countRx c.port).takeAlloc eff.toNat (l.map (fun (e : AllocEntry) => (e.m.val, e.budget.toNat, e.ramp.toNat)))) := by
  rw [exec_fedAlloc h, State.countRx_fedOn c.port.isLt, State.countRx_myId, State.countRx_coordinator c.port.isLt, if_pos ⟨hf, hm, hc⟩]

theorem alloc_find (l : List AllocEntry) (k : Nat) : (l.map (fun (e : AllocEntry) => (e.m.val, e.budget.toNat, e.ramp.toNat))).find? (fun e => e.1 == k) =
    (l.find? (fun e => e.m.val == k)).map (fun (e : AllocEntry) => (e.m.val, e.budget.toNat, e.ramp.toNat)) := by
  rw [List.find?_map]
  rfl

/-- The words that an ALLOC writes, with the count of its frame. -/
theorem alloc_words (p : Nat) (l : List AllocEntry) : ∀ e ∈ l.map (fun (e : AllocEntry) => (e.m.val, e.budget.toNat, e.ramp.toNat)),
    Reg.MEM_BUDGET e.1 ∈ Reg.PORT_CNT_RX p :: l.map (fun x => Reg.MEM_BUDGET x.m) := by
  intro e he
  obtain ⟨x, hx, rfl⟩ := List.mem_map.mp he
  exact List.mem_cons_of_mem _ (List.mem_map.mpr ⟨x, hx, rfl⟩)

theorem State.noteAlloc_plan (s : State) (l : List (Nat × Nat × Nat)) : (s.noteAlloc l).plan = s.plan :=
  State.wrRow_part State.plan (fun _ _ _ => rfl) Reg.MEM_BUDGET (allocRow l) s

theorem State.takeAlloc_plan {eff : Nat} {l : List (Nat × Nat × Nat)} {e : Nat × Nat × Nat} (h : l.find? (fun e => e.1 == s.myId) = some e) :
    (s.takeAlloc eff l).plan = { s.plan with fedNext := s.plan.fedNext.filter (fun x => x.1 != BitVec.ofNat 64 eff) ++
      [(BitVec.ofNat 64 eff, e.2.1, e.2.2)] } := by
  rw [State.takeAlloc_eq, h, ← s.noteAlloc_plan l]
  rfl

theorem fedAlloc_share {c : Came} {m : Fin 64} {eff : BitVec 64} {l : List AllocEntry} {e : AllocEntry} (h : s.TakesCra c) (hf : s.fedOn = true)
    (hm : m.val ≠ s.myId) (hc : s.coordinator = some m.val) (he : l.find? (fun x => x.m.val == s.myId) = some e) :
    ∃ t, exec (.fedAlloc ⟨c, m⟩ eff l) s = .next t ∧
      t.fed.allocAt = some s.clk.now ∧
      (t.plan = { s.plan with fedNext := s.plan.fedNext.filter (fun x => x.1 != eff) ++ [(eff, e.budget.toNat, e.ramp.toNat)] }) ∧
      (Changes [.fed, .plan] (Reg.PORT_CNT_RX c.port :: l.map (fun x => Reg.MEM_BUDGET x.m)) s t) := by
  have hrx : Changes [.fed, .plan] (Reg.PORT_CNT_RX c.port :: l.map (fun x => Reg.MEM_BUDGET x.m)) s (s.countRx c.port) :=
    (Changes.refl _ _ s).countRx (ha := List.mem_cons_self)
  have hplan : (s.countRx c.port).plan = s.plan := State.count_plan _ _
  refine ⟨_, exec_fedAlloc_taken h hf hm hc, ?_, ?_, hrx.trans (State.takeAlloc_changes _ _ (alloc_words _ _))⟩
  · rw [State.takeAlloc_fed, State.countRx_clk]
  · rw [State.takeAlloc_plan (by rw [alloc_find, State.countRx_myId, he]; rfl), hplan, BitVec.ofNat_toNat, BitVec.setWidth_eq]

theorem fedAlloc_ignored {c : Came} {m : Fin 64} {eff : BitVec 64} {l : List AllocEntry} (h : s.TakesCra c)
    (hn : s.fedOn = false ∨ m.val = s.myId ∨ s.coordinator ≠ some m.val) :
    ∃ t, exec (.fedAlloc ⟨c, m⟩ eff l) s = .next t ∧ Changes [] [Reg.PORT_CNT_RX c.port] s t := by
  refine ⟨_, (exec_fedAlloc h).trans (congrArg _ (if_neg ?_)), (Changes.refl _ _ s).countRx⟩
  rw [State.countRx_fedOn c.port.isLt, State.countRx_myId, State.countRx_coordinator c.port.isLt]
  rintro ⟨hf, hm, hc⟩
  obtain hn | hn | hn := hn
  · rw [hn] at hf
    exact absurd hf (by decide)
  · exact hm hn
  · exact hn hc

theorem fedAlloc_others {c : Came} {m : Fin 64} {eff : BitVec 64} {l : List AllocEntry} (h : s.TakesCra c) (hf : s.fedOn = true)
    (hm : m.val ≠ s.myId) (hc : s.coordinator = some m.val) (he : l.all (fun x => x.m.val != s.myId) = true) :
    ∃ t, exec (.fedAlloc ⟨c, m⟩ eff l) s = .next t ∧
      t.fed.allocAt = some s.clk.now ∧ t.plan = s.plan ∧
      (Changes [.fed] (Reg.PORT_CNT_RX c.port :: l.map (fun x => Reg.MEM_BUDGET x.m)) s t) := by
  have hrx : Changes [.fed] (Reg.PORT_CNT_RX c.port :: l.map (fun x => Reg.MEM_BUDGET x.m)) s (s.countRx c.port) :=
    (Changes.refl _ _ s).countRx (ha := List.mem_cons_self)
  have hplan : (s.countRx c.port).plan = s.plan := State.count_plan _ _
  have hfind : l.find? (fun e => e.m.val == s.myId) = none :=
    List.find?_eq_none.mpr fun x hx => by simpa using List.all_eq_true.mp he x hx
  have hx := exec_fedAlloc_taken (eff := eff) (l := l) h hf hm hc
  rw [State.takeAlloc_eq, alloc_find, State.countRx_myId, hfind] at hx
  refine ⟨_, hx, ?_, ?_, hrx.trans (State.noteAlloc_changes _ (alloc_words _ _))⟩
  · rw [← State.countRx_clk (s := s) c.port]
    rfl
  · rw [← hplan]
    exact State.noteAlloc_plan _ _

theorem exec_allocStale (s : State) : exec .fedAllocStale s = .next s.staleAlloc := rfl

theorem allocStale_idle (h : s.fedOn = false ∨ s.fld Fd.PAI_FED_STAT_FSTATE ≠ 2 ∨
    s.fed.allocAt.all (fun x => decide (s.clk.now < x + sTicks 1)) = true) : exec .fedAllocStale s = .next s := by
  rw [exec_allocStale]
  refine congrArg _ (if_neg ?_)
  rintro ⟨hf, hs, hx⟩
  obtain h | h | h := h
  · rw [h] at hf
    exact absurd hf (by decide)
  · exact h hs
  · rcases ha : s.fed.allocAt with _ | x
    · rw [ha] at hx
      exact absurd hx Bool.false_ne_true
    · rw [ha, Option.all_some, decide_eq_true_iff] at h
      rw [ha, Option.any_some, decide_eq_true_iff] at hx
      omega

theorem allocStale_told {x : Nat} (hf : s.fedOn = true) (hs : s.fld Fd.PAI_FED_STAT_FSTATE = 2) (hx : s.fed.allocAt = some x)
    (hn : x + sTicks 1 ≤ s.clk.now) :
    ∃ t, exec .fedAllocStale s = .next t ∧
      t.fed = { s.fed with allocAt := none } ∧
      t.plan = s.plan ∧
      t.on Fd.PAI_FED_EVT_ALLOC_STALE = true ∧
      Changes [.fed, .firn] [Reg.PAI_FED_EVT, Reg.PAI_FED_EVT_SEQ] s t := by
  have he : s.staleAlloc = (s.setFed { s.fed with allocAt := none }).raise Fd.PAI_FED_EVT_ALLOC_STALE noObj [] := by
    refine if_pos ⟨hf, hs, ?_⟩
    rw [hx, Option.any_some, decide_eq_true_iff]
    exact hn
  exact ⟨_, (exec_allocStale s).trans (congrArg _ he), State.raise_fed _ _ _ _ _, State.raise_plan _ _ _ _ _, State.raise_on_fed _ _ _ _ _,
    ((Changes.refl [.fed, .firn] _ s).upd_fed).raise (f := Fd.PAI_FED_EVT_ALLOC_STALE)⟩

/-! ### Redirects -/

theorem exec_redirectSend (s : State) : exec .redirectSend s = .next s.redirectDue := rfl

/-- The next number of a REDIRECT. -/
def State.nextRedirect (s : State) : State := s.setFed { s.fed with rseq := (s.fed.rseq + 1) % 2 ^ 32 }

theorem State.setFed_only (s : State) (f : Fed) : Only [.fed] s (s.setFed f) := by
  refine ⟨rfl, fun p hp => ?_⟩
  cases p
  case fed => exact absurd (by decide) hp
  all_goals rfl

theorem State.redirect_spec (s : State) (m rack : Nat) (back : Bool) (h : s.portAbsent = false) :
    (s.redirect m rack back).fed = { s.fed with rseq := (s.fed.rseq + 1) % 2 ^ 32 } ∧ (s.redirect m rack back).out.length = s.out.length + 2 ∧
      Only [.fed, .sec, .out] s (s.redirect m rack back) :=
  ⟨State.craEach_fed _ _ _ _ _, State.craEach_nets_length s.nextRedirect _ _ _ _ _ h,
    ((s.setFed_only _).mono (by decide)).trans ((State.craEach_only _ _ _ _ _).mono (by decide))⟩

theorem redirectSend_sent {x : Adopted} (hf : s.fedOn = true) (ha : s.fed.adopt.map (fun y => y.2) = [x])
    (hd : s.fed.redirAt.all (fun x => decide (x + sTicks 1 ≤ s.clk.now)) = true) :
    ∃ t, exec .redirectSend s = .next t ∧
      t.fed = { s.fed with rseq := (s.fed.rseq + 1) % 2 ^ 32, redirAt := some s.clk.now } ∧
      t.out.length = s.out.length + 2 ∧
      Only [.fed, .sec, .out] s t := by
  obtain ⟨y, hy, hyx⟩ := List.map_eq_singleton_iff.mp ha
  have hr : s.adoptedRacks = [(x.m, x.acc.rack.val)] := by
    unfold State.adoptedRacks
    rw [hy, List.map_singleton, hyx]
    rfl
  have he : s.redirectDue = (s.setFed { s.fed with redirAt := some s.clk.now }).redirect x.m x.acc.rack.val false := by
    unfold State.redirectDue
    rw [if_neg, hr]
    · rfl
    · rintro (h | h | h)
      · exact h hf
      · rw [hy] at h
        exact absurd h (by simp)
      · exact h hd
  obtain ⟨h1, h2, h3⟩ := (s.setFed { s.fed with redirAt := some s.clk.now }).redirect_spec x.m x.acc.rack.val false (State.portAbsent_of_fedOn hf)
  exact ⟨_, (exec_redirectSend s).trans (congrArg _ he), h1, h2, ((s.setFed_only _).mono (by decide)).trans h3⟩

theorem redirectSend_idle (h : s.fedOn = false ∨ s.fed.adopt = [] ∨ s.fed.redirAt.any (fun x => decide (s.clk.now < x + sTicks 1)) = true) :
    exec .redirectSend s = .next s := by
  rw [exec_redirectSend]
  refine congrArg _ (if_pos ?_)
  obtain h | h | h := h
  · exact Or.inl (by rw [h]; decide)
  · exact Or.inr (Or.inl (by rw [h]; rfl))
  · exact Or.inr (Or.inr (by rw [State.periodDue_off h]; decide))

/-- Settles O41, clause by clause: announcements, losses, row maps, the coordinator, shares and redirects. -/
theorem membersAreHeardAndTheBudgetAllocated : Obligations.MembersAreHeardAndTheBudgetAllocated := by
  unfold Obligations.MembersAreHeardAndTheBudgetAllocated
  exact ⟨fun _ => announceSend_sent, fun s h => ⟨s, announceSend_idle h, rfl⟩, fun _ => announceSend_silent, fun _ _ _ => fedAnnounce_ignored,
    fun _ _ s h => ⟨s, fedAnnounce_closed h, rfl⟩, fun _ _ _ _ _ => fedAnnounce_other, fun _ _ _ => fedAnnounce_heard, fun _ _ _ => fedAnnounce_own,
    fun _ _ _ => memberLost_lost, fun _ s h => ⟨s, memberLost_idle h, rfl⟩, fun _ _ _ _ => fedRowmap_idle, fun _ _ _ _ => fedRowmap_kept,
    fun _ => rowmapSend_sent, fun s h => ⟨s, rowmapSend_idle h, rfl⟩, fun s h => ⟨s, fedResync_idle h, rfl⟩, fun _ _ hx hn => ⟨_, fedResync_noted hx hn, rfl⟩,
    fun _ _ => coordAssume_assumed, fun s h => ⟨s, coordAssume_idle h, rfl⟩, fun s h => ⟨s, allocCompute_idle h, rfl⟩, fun _ => allocCompute_sent,
    fun _ _ _ _ _ _ => fedAlloc_share, fun _ _ _ _ _ => fedAlloc_ignored, fun _ _ _ _ _ => fedAlloc_others, fun s h => ⟨s, allocStale_idle h, rfl⟩,
    fun _ _ => allocStale_told, fun _ _ => redirectSend_sent, fun s h => ⟨s, redirectSend_idle h, rfl⟩⟩
end Sys2Proof.Machine
end

section
-- In order: the one text holds more declarations than asynchronous elaboration has threads for.
set_option Elab.async false

/-! PROOFS. The partner is heard, lost and read: heartbeats (R478), lanes and losses (R476, R479, R480), the row addresses (R489) and the reading
of the partner's registers and records (R477). -/

namespace Sys2Proof.Machine

variable {s t u : State} {ps : List Part} {ws : List Nat}

/-! ### Heartbeats that leave -/

theorem exec_heartbeatSend (s : State) : exec .heartbeatSend s = .next s.sendHeartbeat := rfl

/-- The payload of a heartbeat (Table 1). -/
def State.beatFields (s : State) : List Nat :=
  [s.fld Fd.PAI_STAT_ROLE, s.opState, s.healthBits, s.clk.sidx.toNat, (s.rd Reg.PAI_IMG_SEQ).toNat, s.fld Fd.PAI_PLVL_MIN,
    s.fld Fd.PAI_PLVL_MAX, s.fld Fd.PAI_PLVL_CAP, s.pairLevel, if s.isActive then (s.rd Reg.PLN_PSEQ).toNat else 0]

/-- The state with the tick of its last heartbeat. -/
def State.noteBeat (s : State) : State := { s with pair := { s.pair with hbSent := some s.clk.now } }

theorem State.cra_all_out (s : State) (kind : OutKind) (ty level : Nat) (fields : List Nat) (h : s.portAbsent = false) :
    (s.cra kind ty level [0, 1, 2, 3] fields).out = [3, 2, 1, 0].map (fun p => Out.frame kind (p :: ([level, ty, s.sys.straps.moduleId.val,
      s.sys.straps.slot.val, (Tab.at 0 s.sec.craSeq ty + 1) % 2 ^ 32, s.clk.mtime.toNat] ++ fields))) ++ s.out := by
  have hp : (s.nextCra ty).2.portAbsent = false := h
  unfold State.cra State.craEach
  dsimp only
  rw [hp]
  rfl

theorem heartbeatSend_sent (hp : s.on Fd.PAI_STAT_PAIRED = true) (ho : s.opState ≠ 0) (hi : s.clk.sidx.toNat % 100 = 50)
    (hs : s.pair.hbSent ≠ some s.clk.now) (ha : s.portAbsent = false) :
    ∃ t, exec .heartbeatSend s = .next t ∧
      t.sec.craSeq = s.sec.craSeq.put 1 ((Tab.at 0 s.sec.craSeq 1 + 1) % 2 ^ 32) ∧
      (t.out = [3, 2, 1, 0].map (fun p => Out.frame .heartbeat [p, s.pairLevel, 1, s.sys.straps.moduleId.val, s.sys.straps.slot.val, (Tab.at 0 s.sec.craSeq 1 + 1) % 2 ^ 32, s.clk.mtime.toNat, s.fld Fd.PAI_STAT_ROLE, s.opState, s.healthBits, s.clk.sidx.toNat, (s.rd Reg.PAI_IMG_SEQ).toNat, s.fld Fd.PAI_PLVL_MIN, s.fld Fd.PAI_PLVL_MAX, s.fld Fd.PAI_PLVL_CAP, s.pairLevel, if s.isActive then (s.rd Reg.PLN_PSEQ).toNat else 0]) ++ s.out) ∧
      t.pair = { s.pair with hbSent := some s.clk.now } ∧
      Only [.sec, .out, .pair] s t := by
  have hx : s.sendHeartbeat = s.noteBeat.cra .heartbeat 1 s.pairLevel [0, 1, 2, 3] s.beatFields := if_pos ⟨hp, ho, hi, hs⟩
  have hn : Only [.sec, .out, .pair] s s.noteBeat := by
    refine ⟨rfl, fun p hp => ?_⟩
    cases p
    case pair => exact absurd (by decide) hp
    all_goals rfl
  refine ⟨_, (exec_heartbeatSend s).trans (congrArg _ hx), State.craEach_seq _ _ _ _ _, State.cra_all_out s.noteBeat _ _ _ _ ha, State.cra_pair _ _ _ _ _ _,
    hn.trans ((State.craEach_only _ _ _ _ _).mono (by decide))⟩

theorem heartbeatSend_idle (h : s.on Fd.PAI_STAT_PAIRED = false ∨ s.opState = 0 ∨ s.clk.sidx.toNat % 100 ≠ 50 ∨ s.pair.hbSent = some s.clk.now) :
    exec .heartbeatSend s = .next s := by
  rw [exec_heartbeatSend]
  refine congrArg _ (if_neg ?_)
  rintro ⟨hp, ho, hi, hs⟩
  obtain h | h | h | h := h
  · rw [h] at hp
    exact absurd hp (by decide)
  · exact ho h
  · exact h hi
  · exact hs h

/-! ### Heartbeats that come -/

/-- What this module holds of the partner that it hears on a path. -/
def State.noteHeard (s : State) (p : Nat) (h : Heartbeat) : State :=
  s.setPair { s.pair with heard := p :: s.pair.heard.filter (· != p), heardIn := s.pair.heardIn.put p s.clk.now, last := some h,
                          lost := false, fullNext := s.pair.fullNext || !h.health.getLsbD 4 }

theorem State.noteHeard_pair (s : State) (p : Nat) (h : Heartbeat) : (s.noteHeard p h).pair =
    { s.pair with heard := p :: s.pair.heard.filter (· != p), heardIn := s.pair.heardIn.put p s.clk.now, last := some h, lost := false,
                  fullNext := s.pair.fullNext || !h.health.getLsbD 4 } := rfl

theorem State.heartbeat_partner {h : Heartbeat} (p : Nat) (hm : h.moduleId = s.sys.straps.moduleId) (hs : h.slot ≠ s.sys.straps.slot) :
    s.heartbeat p h = (s.noteHeard p h).proposeLevel h := by
  unfold State.heartbeat
  rw [if_neg (not_not.mpr hm), if_neg hs]
  rfl

theorem State.proposeLevel_idle {h : Heartbeat} (hn : s.isActive = false ∨ s.pairUp = false) : s.proposeLevel h = s := by
  unfold State.proposeLevel
  rcases s.wantedLevel h with _ | l
  · rfl
  · refine if_neg ?_
    rintro ⟨ha, hp, -⟩
    obtain hn | hn := hn
    · rw [hn] at ha
      exact absurd ha (by decide)
    · rw [hn] at hp
      exact absurd hp (by decide)

theorem exec_heartbeatLane {n : Fin 2} {h : Heartbeat} (hp : s.on Fd.PAI_STAT_PAIRED = true) (ho : s.opState ≠ 0) :
    exec (.heartbeatReceived (.lane n) h) s = .next ((s.laneAlive n).heartbeat 0 h) :=
  congrArg Host.Outcome.next (if_neg (not_or.mpr ⟨not_not.mpr hp, ho⟩))

theorem exec_heartbeatNet {path : PairPath} {h : Heartbeat} {a : Came} (hp : s.on Fd.PAI_STAT_PAIRED = true) (ho : s.opState ≠ 0) (hpath : path = .net a)
    (ht : s.TakesCra a) : exec (.heartbeatReceived path h) s = .next ((s.countRx a.port).heartbeat 1 h) := by
  subst hpath
  exact congrArg Host.Outcome.next ((if_neg (not_or.mpr ⟨not_not.mpr hp, ho⟩)).trans (State.takeCra_taken ht _))

theorem State.laneAlive_rd (s : State) (n : Nat) {a : Nat} (h : a ≠ Reg.PAI_STAT) (h' : a ≠ Reg.TIM_STAT) : (s.laneAlive n).rd a = s.rd a := by
  have hb : a ≠ (laneBit n).addr := by unfold laneBit; split <;> exact h
  unfold State.laneAlive State.judgeTick
  rw [State.rd_set_ne _ _ _ _ h', State.rd_set_ne _ _ _ _ hb]
  rfl

theorem State.laneAlive_stat (s : State) (n : Nat) : (s.laneAlive n).rd Reg.PAI_STAT = (s.set (laneBit n) 1).rd Reg.PAI_STAT := by
  unfold State.laneAlive State.judgeTick
  rw [State.rd_set_ne _ _ _ _ (by decide)]
  rfl

theorem State.laneAlive_changes (s : State) (n : Nat) : Changes [.pair] [Reg.PAI_STAT, Reg.TIM_STAT] s (s.laneAlive n) := by
  have hb : (laneBit n).addr ∈ [Reg.PAI_STAT, Reg.TIM_STAT] := by unfold laneBit; split <;> exact List.mem_cons_self
  exact ((((Changes.refl [.pair] [Reg.PAI_STAT, Reg.TIM_STAT] s).upd_pair).set hb)).set (f := Fd.TIM_STAT_TICK_SRC)

theorem State.laneAlive_pair (s : State) (n : Nat) : (s.laneAlive n).pair = { s.pair with laneAt := s.pair.laneAt.put n s.clk.now } := rfl

/-- A lane that delivers is up. -/
theorem State.laneAlive_up (s : State) (n : Nat) : (s.laneAlive n).on (laneBit n) = true := by
  have hw : ∀ u : State, (u.set (laneBit n) 1).fld (laneBit n) = 1 := fun u => by
    unfold laneBit
    split
    · exact State.fld_set_small u Fd.PAI_STAT_L0 1
    · exact State.fld_set_small u Fd.PAI_STAT_L1 1
  refine beq_iff_eq.mpr (Eq.trans (State.fld_congr ?_) (hw s))
  have ha : (laneBit n).addr = Reg.PAI_STAT := by unfold laneBit; split <;> rfl
  rw [ha, State.laneAlive_stat]

/-- The role stands beside the bits of the lanes. -/
theorem State.laneAlive_role (s : State) (n : Nat) : (s.laneAlive n).fld Fd.PAI_STAT_ROLE = s.fld Fd.PAI_STAT_ROLE := by
  rw [State.fld_congr (f := Fd.PAI_STAT_ROLE) (s.laneAlive_stat n)]
  unfold laneBit
  split
  · exact State.fld_set_bits s Fd.PAI_STAT_L0 Fd.PAI_STAT_ROLE 1 rfl (by decide)
  · exact State.fld_set_bits s Fd.PAI_STAT_L1 Fd.PAI_STAT_ROLE 1 rfl (by decide)

theorem heartbeat_lane {path : PairPath} {h : Heartbeat} (hp : s.on Fd.PAI_STAT_PAIRED = true) (ho : s.opState ≠ 0)
    (hm : h.moduleId = s.sys.straps.moduleId) (hs : h.slot ≠ s.sys.straps.slot) (ha : s.isActive = false) (hpath : path = .lane 1) :
    ∃ t, exec (.heartbeatReceived path h) s = .next t ∧
      t.on Fd.PAI_STAT_L1 = true ∧
      (t.pair = { s.pair with laneAt := s.pair.laneAt.put 1 s.clk.now, heard := 0 :: s.pair.heard.filter (fun x => x != 0), heardIn := s.pair.heardIn.put 0 s.clk.now, last := some h, lost := false, fullNext := s.pair.fullNext || !h.health.getLsbD 4 }) ∧
      Changes [.pair] [Reg.PAI_STAT, Reg.TIM_STAT] s t := by
  subst hpath
  have hx := exec_heartbeatLane (n := 1) (h := h) hp ho
  have hsys : (s.laneAlive (1 : Fin 2).val).sys = s.sys := rfl
  have hup : (s.laneAlive (1 : Fin 2).val).on Fd.PAI_STAT_L1 = true := s.laneAlive_up 1
  have hch := s.laneAlive_changes (1 : Fin 2).val
  have hpair : (s.laneAlive (1 : Fin 2).val).pair = { s.pair with laneAt := s.pair.laneAt.put 1 s.clk.now } := rfl
  have hclk : (s.laneAlive (1 : Fin 2).val).clk = s.clk := rfl
  have hrole : (s.laneAlive (1 : Fin 2).val).isActive = false := by
    unfold State.isActive
    rw [State.laneAlive_role]
    exact ha
  generalize s.laneAlive (1 : Fin 2).val = u at *
  rw [State.heartbeat_partner 0 (by rw [hsys]; exact hm) (by rw [hsys]; exact hs), State.proposeLevel_idle (s := u.noteHeard 0 h) (Or.inl hrole)] at hx
  refine ⟨_, hx, hup, ?_, hch.upd_pair⟩
  rw [State.noteHeard_pair, hpair, hclk]

/-! ### Heartbeats on a network -/

theorem State.countRx_pair (p : Nat) : (s.countRx p).pair = s.pair := State.count_pair _ _

theorem State.countRx_stat {p : Nat} (hp : p < 16) {f : Fld} (h : f.addr = Reg.PAI_STAT) : (s.countRx p).fld f = s.fld f :=
  State.countRx_fld_far hp (Or.inr (by rw [h]; decide))

theorem State.countRx_isActive {p : Nat} (hp : p < 16) : (s.countRx p).isActive = s.isActive :=
  congrArg (· == 1) (State.countRx_stat (f := Fd.PAI_STAT_ROLE) hp rfl)

theorem State.countRx_pairUp {p : Nat} (hp : p < 16) : (s.countRx p).pairUp = s.pairUp := by
  unfold State.pairUp State.on
  rw [State.countRx_stat (f := Fd.PAI_STAT_L0) hp rfl, State.countRx_stat (f := Fd.PAI_STAT_L1) hp rfl]

theorem heartbeat_net {path : PairPath} {h : Heartbeat} {a : Came} (hp : s.on Fd.PAI_STAT_PAIRED = true) (ho : s.opState ≠ 0)
    (hm : h.moduleId = s.sys.straps.moduleId) (hs : h.slot ≠ s.sys.straps.slot) (ha : s.isActive = false ∨ s.pairUp = false) (hpath : path = .net a)
    (ht : s.TakesCra a) :
    ∃ t, exec (.heartbeatReceived path h) s = .next t ∧
      (t.pair = { s.pair with heard := 1 :: s.pair.heard.filter (fun x => x != 1), heardIn := s.pair.heardIn.put 1 s.clk.now, last := some h, lost := false, fullNext := s.pair.fullNext || !h.health.getLsbD 4 }) ∧
      Changes [.pair] [Reg.PORT_CNT_RX a.port] s t := by
  have hx := exec_heartbeatNet (h := h) hp ho hpath ht
  have hidle : (s.countRx a.port).isActive = false ∨ (s.countRx a.port).pairUp = false := by
    rw [State.countRx_isActive a.port.isLt, State.countRx_pairUp a.port.isLt]
    exact ha
  rw [State.heartbeat_partner 1 (by rw [State.countRx_sys]; exact hm) (by rw [State.countRx_sys]; exact hs),
    State.proposeLevel_idle (s := (s.countRx a.port).noteHeard 1 h) hidle] at hx
  refine ⟨_, hx, ?_, ((Changes.refl [.pair] _ s).countRx).upd_pair⟩
  rw [State.noteHeard_pair, State.countRx_pair, State.countRx_clk]

/-- The barrier of a level that the pair is to run at. -/
def State.levelMsg (s : State) (l : Nat) : BarrierMsg := { id := 1, action := 2, arg := BitVec.ofNat 8 l, at_ := s.boundaryAhead 2000 }

theorem State.proposeLevel_proposed {h : Heartbeat} {l : Nat} (hw : s.wantedLevel h = some l) (ha : s.isActive = true) (hu : s.pairUp = true)
    (hr : h.role = 2) (hl : l ≠ s.pairLevel) (hb : s.pairBar barPairLevel = none) : s.proposeLevel h = s.proposePair (s.levelMsg l) := by
  unfold State.proposeLevel
  rw [hw]
  exact if_pos ⟨ha, hu, by rw [hr]; rfl, hl, by rw [hb]; rfl⟩

theorem State.countRx_wantedLevel {p : Nat} (hp : p < 16) (h : Heartbeat) : (s.countRx p).wantedLevel h = s.wantedLevel h := by
  unfold State.wantedLevel
  rw [State.countRx_fld_far (f := Fd.PAI_PLVL_MIN) hp (by decide), State.countRx_fld_far (f := Fd.PAI_PLVL_MAX) hp (by decide),
    State.countRx_fld_far (f := Fd.PAI_PLVL_CAP) hp (by decide)]

theorem heartbeat_level {path : PairPath} {h : Heartbeat} {a : Came} {l : Nat} (hp : s.on Fd.PAI_STAT_PAIRED = true) (ho : s.opState ≠ 0)
    (hm : h.moduleId = s.sys.straps.moduleId) (hs : h.slot ≠ s.sys.straps.slot) (ha : s.isActive = true) (hu : s.pairUp = true) (hr : h.role = 2)
    (hw : s.wantedLevel h = some l) (hl : l ≠ s.pairLevel) (hb : s.pairBar barPairLevel = none) (hpath : path = .net a) (ht : s.TakesCra a) :
    ∃ t, exec (.heartbeatReceived path h) s = .next t ∧
      (t.pairBar barPairLevel).map (fun x => (x.msg.action.val, x.msg.arg.toNat, x.msg.at_)) = some (2, l % 256, s.boundaryAhead 2000) ∧
      Changes [.pair, .sec, .out] [Reg.PORT_CNT_RX a.port] s t := by
  have hx := exec_heartbeatNet (h := h) hp ho hpath ht
  have hch : Changes [.pair, .sec, .out] [Reg.PORT_CNT_RX a.port] s ((s.countRx a.port).noteHeard 1 h) :=
    ((Changes.refl [.pair, .sec, .out] _ s).countRx).upd_pair
  have hw' : ((s.countRx a.port).noteHeard 1 h).wantedLevel h = some l := (State.countRx_wantedLevel a.port.isLt h).trans hw
  have ha' : ((s.countRx a.port).noteHeard 1 h).isActive = true := (State.countRx_isActive a.port.isLt).trans ha
  have hu' : ((s.countRx a.port).noteHeard 1 h).pairUp = true := (State.countRx_pairUp a.port.isLt).trans hu
  have hl' : l ≠ ((s.countRx a.port).noteHeard 1 h).pairLevel := fun e => hl (e.trans (State.countRx_fld_far (f := Fd.PAI_PLVL_RUN) a.port.isLt (by decide)))
  have hb' : ((s.countRx a.port).noteHeard 1 h).pairBar barPairLevel = none := by
    unfold State.pairBar
    rw [State.noteHeard_pair, State.countRx_pair]
    exact hb
  have hat : ((s.countRx a.port).noteHeard 1 h).levelMsg l = s.levelMsg l := by
    unfold State.levelMsg State.boundaryAhead
    rw [show ((s.countRx a.port).noteHeard 1 h).clk = s.clk from State.countRx_clk a.port]
  rw [State.heartbeat_partner 1 (by rw [State.countRx_sys]; exact hm) (by rw [State.countRx_sys]; exact hs),
    State.proposeLevel_proposed hw' ha' hu' hr hl' hb', hat] at hx
  obtain ⟨h1, h2, -⟩ := ((s.countRx a.port).noteHeard 1 h).proposePair_spec (s.levelMsg l)
  refine ⟨_, hx, ?_, hch.step h2⟩
  rw [show barPairLevel = (s.levelMsg l).id.val from rfl, h1, Option.map_some]
  exact congrArg (fun x => some (2, x, s.boundaryAhead 2000)) (BitVec.toNat_ofNat l 8)

theorem heartbeat_off {path : PairPath} {h : Heartbeat} (hn : s.on Fd.PAI_STAT_PAIRED = false ∨ s.opState = 0) :
    exec (.heartbeatReceived path h) s = .next s := by
  refine congrArg Host.Outcome.next (if_pos (hn.imp_left fun hn => ?_))
  rw [hn]
  decide

theorem heartbeat_ignored {path : PairPath} {h : Heartbeat} {a : Came} (hpath : path = .net a) (hp : s.on Fd.PAI_STAT_PAIRED = true) (ho : s.opState ≠ 0)
    (ht : s.TakesCra a) (hn : h.moduleId ≠ s.sys.straps.moduleId ∧ (s.fld Fd.PAI_STAT_ROLE ≠ 0 ∨ s.sys.mismatch = true) ∨
      h.moduleId = s.sys.straps.moduleId ∧ h.slot = s.sys.straps.slot) :
    ∃ t, exec (.heartbeatReceived path h) s = .next t ∧ Changes [] [Reg.PORT_CNT_RX a.port] s t := by
  refine ⟨_, (exec_heartbeatNet hp ho hpath ht).trans (congrArg _ ?_), (Changes.refl _ _ s).countRx⟩
  unfold State.heartbeat
  rw [State.countRx_stat (f := Fd.PAI_STAT_ROLE) a.port.isLt rfl, State.countRx_sys]
  obtain ⟨hm, hn⟩ | ⟨hm, hs⟩ := hn
  · rw [if_pos hm, if_neg]
    rintro ⟨hr, hmis⟩
    exact hn.elim (fun h => h hr) hmis
  · rw [if_neg (not_not.mpr hm), if_pos hs]

theorem heartbeat_mismatch {path : PairPath} {h : Heartbeat} {a : Came} (hp : s.on Fd.PAI_STAT_PAIRED = true) (ho : s.opState ≠ 0)
    (hm : h.moduleId ≠ s.sys.straps.moduleId) (hr : s.fld Fd.PAI_STAT_ROLE = 0) (hmis : s.sys.mismatch = false) (hpath : path = .net a)
    (ht : s.TakesCra a) :
    ∃ t, exec (.heartbeatReceived path h) s = .next t ∧
      (t.sys = { s.sys with mismatch := true }) ∧
      t.on Fd.ACT_HWEVT_STRAP_MISMATCH = true ∧
      Changes [.sys, .firn] [Reg.ACT_HWEVT, Reg.ACT_HWEVT_SEQ, Reg.PORT_CNT_RX a.port] s t := by
  have hx := exec_heartbeatNet (h := h) hp ho hpath ht
  have hsys := State.countRx_sys s a.port
  have hr' := (State.countRx_stat (s := s) (f := Fd.PAI_STAT_ROLE) a.port.isLt rfl).trans hr
  have hch : Changes [.sys, .firn] [Reg.ACT_HWEVT, Reg.ACT_HWEVT_SEQ, Reg.PORT_CNT_RX a.port] s (s.countRx a.port) := (Changes.refl _ _ s).countRx
  generalize s.countRx a.port = u at *
  have he : u.heartbeat 1 h = { u with sys := { u.sys with mismatch := true } }.raise Fd.ACT_HWEVT_STRAP_MISMATCH noObj [] := by
    unfold State.heartbeat
    rw [if_pos (by rw [hsys]; exact hm), if_pos ⟨hr', by rw [hsys, hmis]; decide⟩]
  refine ⟨_, hx.trans (congrArg _ he), ?_, State.raise_on _ _ _ _ _ (by decide) (by decide) rfl (by decide),
    (hch.upd_sys).raise (f := Fd.ACT_HWEVT_STRAP_MISMATCH)⟩
  rw [State.raise_sys, hsys]

/-! ### Lanes and losses -/

theorem exec_laneDown (lane : Fin 2) (l : Bool) (s : State) : exec (.pairLaneDown lane l) s =
    .next (if s.on (laneBit lane) ∧ (l ∨ Tab.at 0 s.pair.laneAt lane + 10 ≤ s.clk.now) then
      ((s.set (laneBit lane) 0).raise Fd.PAI_EVT_LANE_DOWN lane []).judgeTick else s) := rfl

theorem laneBit_addr (n : Nat) : (laneBit n).addr = Reg.PAI_STAT := by unfold laneBit; split <;> rfl

theorem State.set_laneBit (s : State) (n : Nat) : (s.set (laneBit n) 0).fld (laneBit n) = 0 := by
  unfold laneBit
  split
  · exact State.fld_set_small s Fd.PAI_STAT_L0 0
  · exact State.fld_set_small s Fd.PAI_STAT_L1 0

theorem laneDown_told {lane : Fin 2} {l : Bool} (hon : s.on (laneBit lane) = true) (hl : l = true ∨ Tab.at 0 s.pair.laneAt lane + 10 ≤ s.clk.now) :
    ∃ t, exec (.pairLaneDown lane l) s = .next t ∧
      t.on (laneBit lane) = false ∧
      t.on Fd.PAI_EVT_LANE_DOWN = true ∧
      Changes [.firn] [Reg.PAI_STAT, Reg.TIM_STAT, Reg.PAI_EVT, Reg.PAI_EVT_SEQ] s t := by
  have h0 := s.set_laneBit lane
  have hb : (laneBit lane).addr ∈ [Reg.PAI_STAT, Reg.TIM_STAT, Reg.PAI_EVT, Reg.PAI_EVT_SEQ] := by rw [laneBit_addr]; exact List.mem_cons_self
  have hch : Changes [.firn] [Reg.PAI_STAT, Reg.TIM_STAT, Reg.PAI_EVT, Reg.PAI_EVT_SEQ] s (s.set (laneBit lane) 0) := (Changes.refl _ _ s).set hb
  have hx := exec_laneDown lane l s
  rw [if_pos ⟨hon, hl⟩] at hx
  generalize s.set (laneBit lane) 0 = u at *
  refine ⟨_, hx, ?_, ?_, (hch.raise (f := Fd.PAI_EVT_LANE_DOWN)).set (f := Fd.TIM_STAT_TICK_SRC)⟩
  · refine congrArg (· == 1) (Eq.trans (State.fld_congr ?_) h0)
    rw [laneBit_addr, State.judgeTick, State.rd_set_ne _ _ _ _ (by decide), State.raise_rd _ _ _ _ _ _ (by decide) (by decide) (by decide) (by decide)]
  · refine (congrArg (· == 1) (State.fld_congr ?_)).trans (State.raise_on u Fd.PAI_EVT_LANE_DOWN lane [] false (by decide) (by decide) rfl (by decide))
    rw [State.judgeTick, State.rd_set_ne _ _ _ _ (by decide)]

theorem laneDown_idle {lane : Fin 2} {l : Bool} (h : s.on (laneBit lane) = false ∨ l = false ∧ s.clk.now < Tab.at 0 s.pair.laneAt lane + 10) :
    exec (.pairLaneDown lane l) s = .next s := by
  rw [exec_laneDown]
  refine congrArg _ (if_neg ?_)
  rintro ⟨hon, hl⟩
  obtain h | ⟨hf, hn⟩ := h
  · rw [h] at hon
    exact absurd hon (by decide)
  · rw [hf] at hl
    exact hl.elim (by decide) (fun h => by omega)

theorem exec_partnerLost (s : State) : exec .partnerLost s = .next s.judgePartner := rfl

theorem partnerLost_idle (h : s.on Fd.PAI_STAT_PAIRED = false ∨ s.fld Fd.PAI_STAT_ROLE = 0 ∨ s.pair.lost = true ∨ s.fld Fd.PAI_HB_MISS_PAIR < 3 ∨
    s.fld Fd.PAI_HB_MISS_NET < 3) : exec .partnerLost s = .next s := by
  rw [exec_partnerLost]
  refine congrArg _ (if_neg ?_)
  rintro ⟨hp, hr, hl, h1, h2⟩
  obtain h | h | h | h | h := h
  · rw [h] at hp
    exact absurd hp (by decide)
  · exact hr h
  · exact hl h
  · omega
  · omega

theorem State.abortSwap_idle (h : s.swapping = false) : s.abortSwap = s := if_neg (by rw [h]; decide)

theorem State.swapping_of (h : t.rd Reg.PAI_SWAP_STAT = s.rd Reg.PAI_SWAP_STAT) : t.swapping = s.swapping := by
  unfold State.swapping State.swapState
  rw [State.fld_congr (f := Fd.PAI_SWAP_STAT_STATE) h]

theorem partnerLost_declared (hp : s.on Fd.PAI_STAT_PAIRED = true) (hr : s.fld Fd.PAI_STAT_ROLE ≠ 0) (hl : s.pair.lost = false)
    (h1 : 3 ≤ s.fld Fd.PAI_HB_MISS_PAIR) (h2 : 3 ≤ s.fld Fd.PAI_HB_MISS_NET) (hs : s.swapping = false) :
    ∃ t, exec .partnerLost s = .next t ∧
      (t.pair = { s.pair with lost := true, declared := if s.isActive then s.pair.declared else some s.clk.now }) ∧
      t.rd Reg.PAI_CNT_HBMISS = satCount (s.rd Reg.PAI_CNT_HBMISS) 1 ∧
      t.on Fd.PAI_EVT_PARTNER_LOST = true ∧
      Changes [.pair, .firn] [Reg.PAI_CNT_HBMISS, Reg.PAI_EVT, Reg.PAI_EVT_SEQ] s t := by
  have hx : s.judgePartner = (((s.setPair { s.pair with lost := true, declared := if s.isActive then s.pair.declared else some s.clk.now }).count
      Reg.PAI_CNT_HBMISS).raise Fd.PAI_EVT_PARTNER_LOST noObj []).abortSwap := if_pos ⟨hp, hr, by rw [hl]; decide, h1, h2⟩
  rw [State.abortSwap_idle] at hx
  · refine ⟨_, (exec_partnerLost s).trans (congrArg _ hx), State.raise_pair _ _ _ _ _, ?_, State.raise_on _ _ _ _ _ (by decide) (by decide) rfl (by decide),
      (((Changes.refl [.pair, .firn] _ s).upd_pair).count).raise (f := Fd.PAI_EVT_PARTNER_LOST)⟩
    rw [State.raise_rd _ _ _ _ _ _ (by decide) (by decide) (by decide) (by decide), State.rd_count_same]
    rfl
  · rw [← hs]
    refine State.swapping_of ?_
    rw [State.raise_rd _ _ _ _ _ _ (by decide) (by decide) (by decide) (by decide), State.rd_count _ _ _ (by decide)]
    rfl

theorem exec_peerLost (s : State) : exec .peerHealthLost s = .next s.judgePeer := rfl

theorem peerLost_declared {x : Nat} (hr : s.fld Fd.PAI_STAT_ROLE = 2) (hd : s.pair.declared = none) (hx : s.pair.peerLow = some x)
    (hn : x + msTicks 1 ≤ s.clk.now) (hs : s.swapping = false) :
    exec .peerHealthLost s = .next { s with pair := { s.pair with declared := some s.clk.now } } := by
  rw [exec_peerLost]
  refine congrArg _ ((if_pos ⟨hr, by rw [hd]; rfl, ?_⟩).trans (State.abortSwap_idle hs))
  rw [hx, Option.any_some, decide_eq_true_iff]
  exact hn

theorem peerLost_idle (h : s.fld Fd.PAI_STAT_ROLE ≠ 2 ∨ s.pair.declared ≠ none ∨ s.pair.peerLow.all (fun x => decide (s.clk.now < x + msTicks 1)) = true) :
    exec .peerHealthLost s = .next s := by
  rw [exec_peerLost]
  refine congrArg _ (if_neg ?_)
  rintro ⟨hr, hd, hx⟩
  obtain h | h | h := h
  · exact h hr
  · exact h (Option.isNone_iff_eq_none.mp hd)
  · rcases hp : s.pair.peerLow with _ | x
    · rw [hp] at hx
      exact absurd hx Bool.false_ne_true
    · rw [hp, Option.all_some, decide_eq_true_iff] at h
      rw [hp, Option.any_some, decide_eq_true_iff] at hx
      omega

/-! ### The row addresses -/

theorem exec_rowRepeat (s : State) : exec .rowAddressRepeat s = .next s.repeatRow := rfl

theorem rowRepeat_idle (h : s.isActive = false ∨ s.pair.repeats.all (fun x => decide (s.clk.now < x)) = true) : exec .rowAddressRepeat s = .next s := by
  rw [exec_rowRepeat]
  refine congrArg _ (if_neg ?_)
  rintro ⟨ha, hx⟩
  obtain h | h := h
  · rw [h] at ha
    exact absurd ha (by decide)
  · obtain ⟨x, hm, hx⟩ := List.any_eq_true.mp hx
    have := List.all_eq_true.mp h x hm
    rw [decide_eq_true_iff] at hx this
    omega

theorem State.sendRowAddresses_spec (s : State) (h : s.portAbsent = false) :
    s.sendRowAddresses.out.length = s.out.length + 2 ∧ s.sendRowAddresses.pair = s.pair ∧ Only [.out] s s.sendRowAddresses := by
  unfold State.sendRowAddresses
  rw [if_neg (by rw [h]; decide)]
  refine ⟨rfl, rfl, rfl, fun p hp => ?_⟩
  cases p
  case out => exact absurd (by decide) hp
  all_goals rfl

theorem State.setPair_only (s : State) (x : Pair) : Only [.pair] s (s.setPair x) := by
  refine ⟨rfl, fun p hp => ?_⟩
  cases p
  case pair => exact absurd (by decide) hp
  all_goals rfl

theorem rowRepeat_sent (ha : s.isActive = true) (hd : s.pair.repeats.any (fun x => decide (x ≤ s.clk.now)) = true) (hp : s.portAbsent = false) :
    ∃ t, exec .rowAddressRepeat s = .next t ∧
      t.pair = { s.pair with repeats := s.pair.repeats.drop 1 } ∧
      t.out.length = s.out.length + 2 ∧
      Only [.pair, .out] s t := by
  have hx : s.repeatRow = (s.setPair { s.pair with repeats := s.pair.repeats.drop 1 }).sendRowAddresses := if_pos ⟨ha, hd⟩
  obtain ⟨h1, h2, h3⟩ := (s.setPair { s.pair with repeats := s.pair.repeats.drop 1 }).sendRowAddresses_spec hp
  exact ⟨_, (exec_rowRepeat s).trans (congrArg _ hx), h2, h1, ((s.setPair_only _).mono (by decide)).trans (h3.mono (by decide))⟩

/-! ### Reading the partner -/

/-- The two commands of one register. -/
theorem exec_readRegs {w : Fin 8} {v : Word} (h : s.WriteTaken w Reg.PAI_PRD_CTRL v (crossPeek v)) : exec (.partnerReadRegs w v) s =
    .next (((s.afterChecks w Reg.PAI_PRD_CTRL v).readPartner v).send (.wrote w Reg.PAI_PRD_CTRL 0 0 0)) :=
  congrArg Host.Outcome.next (State.writeRow_taken _ h)

theorem exec_readFirn {w : Fin 8} {v : Word} (h : s.WriteTaken w Reg.PAI_PRD_CTRL v (crossPeek v)) : exec (.partnerReadFirn w v) s =
    .next (((s.afterChecks w Reg.PAI_PRD_CTRL v).readPartner v).send (.wrote w Reg.PAI_PRD_CTRL 0 0 0)) :=
  congrArg Host.Outcome.next (State.writeRow_taken _ h)

theorem State.readPartner_idle {v : Word} (h : fieldOf v 31 1 = 0) : s.readPartner v = s := if_pos h

/-- The write of a read that is not asked for. -/
theorem readPartner_plain {w : Fin 8} {v : Word} (hg : fieldOf v 31 1 = 0) :
    WroteOk (((s.afterChecks w Reg.PAI_PRD_CTRL v).readPartner v).send (.wrote w Reg.PAI_PRD_CTRL 0 0 0)) w Reg.PAI_PRD_CTRL ∧
      Changes [.zh, .out] [Reg.PAI_PRD_CTRL] s (((s.afterChecks w Reg.PAI_PRD_CTRL v).readPartner v).send (.wrote w Reg.PAI_PRD_CTRL 0 0 0)) := by
  rw [State.readPartner_idle hg]
  exact ⟨WroteOk.send _ _ _, ((Changes.refl [.zh, .out] _ s).afterChecks).send⟩

/-- A read of the partner is under way. -/
def State.startPeek (s : State) : State := (s.set Fd.PAI_PRD_STAT_PENDING 1).setPair { s.pair with peek := some s.clk.now }

theorem State.startPeek_spec (s : State) : s.startPeek.fld Fd.PAI_PRD_STAT_PENDING = 1 ∧ s.startPeek.pair = { s.pair with peek := some s.clk.now } ∧
    Changes [.pair] [Reg.PAI_PRD_STAT] s s.startPeek :=
  ⟨State.fld_set_small s Fd.PAI_PRD_STAT_PENDING 1, rfl,
    ((Changes.refl [.pair] [Reg.PAI_PRD_STAT] s).set (f := Fd.PAI_PRD_STAT_PENDING) (v := 1)).upd_pair⟩

/-- The fields of a PEEK_REQ. -/
def State.peekFields (s : State) (v : Word) : List Nat :=
  [fieldOf v 0 1, fieldOf v 1 2, fieldOf v 3 4, (s.rd Reg.PAI_PRD_ADDR_LO).toNat, (s.rd Reg.PAI_PRD_ADDR_HI).toNat]

theorem State.readPartner_asked {v : Word} (hg : fieldOf v 31 1 = 1) (hp : s.on Fd.PAI_PRD_STAT_PENDING = false) (hu : s.pairUp = true) :
    s.readPartner v = s.startPeek.cra .peekReq 0x0B s.startPeek.pairLevel [0, 1] (s.startPeek.peekFields v) := by
  unfold State.readPartner
  rw [if_neg (by rw [hg]; decide), if_neg (by rw [hp]; decide), if_neg (not_not.mpr hu)]
  rfl

theorem readPartner_sent {w : Fin 8} {v : Word} (hg : fieldOf v 31 1 = 1) (hp : s.on Fd.PAI_PRD_STAT_PENDING = false) (hu : s.pairUp = true) :
    ∃ t, ((s.afterChecks w Reg.PAI_PRD_CTRL v).readPartner v).send (.wrote w Reg.PAI_PRD_CTRL 0 0 0) = t ∧
      WroteOk t w Reg.PAI_PRD_CTRL ∧
      t.on Fd.PAI_PRD_STAT_PENDING = true ∧
      t.pair = { s.pair with peek := some s.clk.now } ∧
      Changes [.zh, .pair, .sec, .out] [Reg.PAI_PRD_CTRL, Reg.PAI_PRD_STAT] s t := by
  have hc : Changes [.zh, .pair, .sec, .out] [Reg.PAI_PRD_CTRL, Reg.PAI_PRD_STAT] s (s.afterChecks w Reg.PAI_PRD_CTRL v) := (Changes.refl _ _ s).afterChecks
  have hp' : (s.afterChecks w Reg.PAI_PRD_CTRL v).on Fd.PAI_PRD_STAT_PENDING = false := by rw [State.afterChecks_on]; exact hp
  have hu' : (s.afterChecks w Reg.PAI_PRD_CTRL v).pairUp = true := by
    unfold State.pairUp
    rw [State.afterChecks_on, State.afterChecks_on]
    exact hu
  have hpair := s.afterChecks_pair w Reg.PAI_PRD_CTRL v
  have hclk := s.afterChecks_clk w Reg.PAI_PRD_CTRL v
  generalize s.afterChecks w Reg.PAI_PRD_CTRL v = u at *
  rw [State.readPartner_asked hg hp' hu']
  obtain ⟨h1, h2, h3⟩ := u.startPeek_spec
  generalize u.startPeek = x at *
  refine ⟨_, rfl, WroteOk.send _ _ _, ?_, ?_, ((hc.step h3).cra).send⟩
  · exact beq_iff_eq.mpr ((State.cra_fld _ _ _ _ _ _ _).trans h1)
  · rw [State.send_pair, State.cra_pair, h2, hpair, hclk]

theorem readPartner_refused {w : Fin 8} {v : Word} (hg : fieldOf v 31 1 = 1) (hn : s.on Fd.PAI_PRD_STAT_PENDING = true ∨ s.pairUp = false) :
    ∃ t, ((s.afterChecks w Reg.PAI_PRD_CTRL v).readPartner v).send (.wrote w Reg.PAI_PRD_CTRL 0 0 0) = t ∧
      (t.fld Fd.PAI_PRD_STAT_RESULT = if s.on Fd.PAI_PRD_STAT_PENDING then 7 else 5) ∧
      Changes [.zh, .out] [Reg.PAI_PRD_CTRL, Reg.PAI_PRD_STAT] s t := by
  have hc : Changes [.zh, .out] [Reg.PAI_PRD_CTRL, Reg.PAI_PRD_STAT] s (s.afterChecks w Reg.PAI_PRD_CTRL v) := (Changes.refl _ _ s).afterChecks
  have hp := s.afterChecks_on w Reg.PAI_PRD_CTRL v Fd.PAI_PRD_STAT_PENDING
  have hu : (s.afterChecks w Reg.PAI_PRD_CTRL v).pairUp = s.pairUp := by
    unfold State.pairUp
    rw [State.afterChecks_on, State.afterChecks_on]
  generalize s.afterChecks w Reg.PAI_PRD_CTRL v = u at *
  have hx : u.readPartner v = u.set Fd.PAI_PRD_STAT_RESULT (if s.on Fd.PAI_PRD_STAT_PENDING then 7 else 5) := by
    unfold State.readPartner
    rw [if_neg (by rw [hg]; decide), hp, hu]
    by_cases h : s.on Fd.PAI_PRD_STAT_PENDING = true
    · rw [if_pos h, if_pos h]
    · rw [if_neg h, if_neg h, hn.resolve_left h]
      rfl
  rw [hx]
  refine ⟨_, rfl, (State.send_fld _ _ _).trans ?_, (hc.set (f := Fd.PAI_PRD_STAT_RESULT)).send⟩
  refine State.fld_set_small _ _ _ (by decide) ?_
  split <;> decide


/-- The words of a PEEK_DATA, landed in the data words; then its status. -/
def peekRow (words : List Word) : List (Nat × Word) := (List.range 16).zip (words.take 16)

def State.peekStat (s : State) (result count : Nat) : State :=
  ((s.set Fd.PAI_PRD_STAT_RESULT result).set Fd.PAI_PRD_STAT_PENDING 0).set Fd.PAI_PRD_STAT_WORDS count

theorem State.peekStat_fields (s : State) {r c : Nat} (hr : r < 8) (hc : c < 32) :
    (s.peekStat r c).fld Fd.PAI_PRD_STAT_RESULT = r ∧ (s.peekStat r c).on Fd.PAI_PRD_STAT_PENDING = false ∧
    (s.peekStat r c).fld Fd.PAI_PRD_STAT_WORDS = c := by
  have h1 : (s.set Fd.PAI_PRD_STAT_RESULT r).fld Fd.PAI_PRD_STAT_RESULT = r := State.fld_set_small s Fd.PAI_PRD_STAT_RESULT r (by decide) hr
  unfold State.peekStat
  generalize s.set Fd.PAI_PRD_STAT_RESULT r = u at *
  have h2 : (u.set Fd.PAI_PRD_STAT_PENDING 0).fld Fd.PAI_PRD_STAT_RESULT = r :=
    (u.fld_set_bits Fd.PAI_PRD_STAT_PENDING Fd.PAI_PRD_STAT_RESULT 0 rfl (by decide)).trans h1
  have h3 : (u.set Fd.PAI_PRD_STAT_PENDING 0).fld Fd.PAI_PRD_STAT_PENDING = 0 := State.fld_set_small u Fd.PAI_PRD_STAT_PENDING 0
  generalize u.set Fd.PAI_PRD_STAT_PENDING 0 = x at *
  refine ⟨(x.fld_set_bits Fd.PAI_PRD_STAT_WORDS Fd.PAI_PRD_STAT_RESULT c rfl (by decide)).trans h2, beq_eq_false_iff_ne.mpr ?_,
    State.fld_set_small x Fd.PAI_PRD_STAT_WORDS c (by decide) hc⟩
  rw [x.fld_set_bits Fd.PAI_PRD_STAT_WORDS Fd.PAI_PRD_STAT_PENDING c rfl (by decide), h3]
  decide

theorem State.peekStat_changes (s : State) (r c : Nat) : Changes [] [Reg.PAI_PRD_STAT] s (s.peekStat r c) :=
  (((Changes.refl [] [Reg.PAI_PRD_STAT] s).set (f := Fd.PAI_PRD_STAT_RESULT)).set (f := Fd.PAI_PRD_STAT_PENDING)).set (f := Fd.PAI_PRD_STAT_WORDS)

theorem exec_peekData (result : Fin 5) (words : List Word) (s : State) : exec (.peekData result words) s =
    .next (if s.on Fd.PAI_PRD_STAT_PENDING then
      ((s.wrRow Reg.PAI_PRD_DATA (peekRow words)).peekStat result (words.take 16).length).setPair
        { (s.wrRow Reg.PAI_PRD_DATA (peekRow words)).pair with peek := none } else s) := rfl

theorem mem_peekRow {words : List Word} {k : Nat} {x : Word} (hk : k < 16) (hx : words[k]? = some x) : (k, x) ∈ peekRow words := by
  refine List.mem_iff_getElem?.mpr ⟨k, ?_⟩
  rw [peekRow, List.getElem?_zip_eq_some]
  exact ⟨List.getElem?_range hk, by rw [List.getElem?_take_of_lt hk]; exact hx⟩

theorem peekRow_bound {words : List Word} {p : Nat × Word} (h : p ∈ peekRow words) : p.1 < 16 :=
  List.mem_range.mp (List.of_mem_zip h).1

theorem eventWord_peek {k : Nat} (hk : k < 16) : eventWord (Reg.PAI_PRD_DATA k) = false := by
  refine eventWord_eq_false (a := Reg.PAI_PRD_DATA k) ?_ ?_ <;> unfold Reg.PAI_PRD_DATA <;> omega

theorem peekRow_nodup (words : List Word) : ((peekRow words).map (fun p => Reg.PAI_PRD_DATA p.1)).Nodup := by
  have hs : ((peekRow words).map Prod.fst).Nodup := by
    rw [peekRow, List.zip_eq_zip_take_min, List.map_fst_zip (by simp)]
    exact List.nodup_range.sublist (List.take_sublist _ _)
  rw [show (fun p : Nat × Word => Reg.PAI_PRD_DATA p.1) = Reg.PAI_PRD_DATA ∘ Prod.fst from rfl, ← List.map_map]
  refine hs.map (fun i j h => ?_)
  unfold Reg.PAI_PRD_DATA at h
  omega

theorem peekData_taken {result : Fin 5} {words : List Word} (h : s.on Fd.PAI_PRD_STAT_PENDING = true) :
    ∃ t, exec (.peekData result words) s = .next t ∧
      t.fld Fd.PAI_PRD_STAT_RESULT = result.val ∧ t.on Fd.PAI_PRD_STAT_PENDING = false ∧ t.fld Fd.PAI_PRD_STAT_WORDS = min words.length 16 ∧
      (∀ k, k < 16 → ∀ x, words[k]? = some x → t.rd (Reg.PAI_PRD_DATA k) = x) ∧
      t.pair = { s.pair with peek := none } ∧
      Changes [.pair] (Reg.PAI_PRD_STAT :: (List.range 16).map Reg.PAI_PRD_DATA) s t := by
  have hlen : (words.take 16).length = min words.length 16 := by rw [List.length_take, Nat.min_comm]
  have hc : Changes [.pair] (Reg.PAI_PRD_STAT :: (List.range 16).map Reg.PAI_PRD_DATA) s (s.wrRow Reg.PAI_PRD_DATA (peekRow words)) :=
    (Changes.refl _ _ s).wrRow (fun p hp => List.mem_cons_of_mem _ (List.mem_map.mpr ⟨p.1, List.mem_range.mpr (peekRow_bound hp), rfl⟩))
  have hr : ∀ k, k < 16 → ∀ x, words[k]? = some x → (s.wrRow Reg.PAI_PRD_DATA (peekRow words)).rd (Reg.PAI_PRD_DATA k) = x :=
    fun k hk x hx => State.wrRow_rd Reg.PAI_PRD_DATA (peekRow_nodup words) (mem_peekRow hk hx) s
  have hp : (s.wrRow Reg.PAI_PRD_DATA (peekRow words)).pair = s.pair := State.wrRow_part State.pair (fun _ _ _ => rfl) _ _ s
  refine ⟨_, (exec_peekData result words s).trans (congrArg _ (if_pos h)), ?_⟩
  generalize s.wrRow Reg.PAI_PRD_DATA (peekRow words) = u at *
  obtain ⟨h1, h2, h3⟩ := u.peekStat_fields (r := result) (c := (words.take 16).length) (by omega) (by omega)
  have h4 := u.peekStat_changes result (words.take 16).length
  generalize u.peekStat result (words.take 16).length = x at *
  have h5 : Changes [.pair] (Reg.PAI_PRD_STAT :: (List.range 16).map Reg.PAI_PRD_DATA) s x := hc.step h4 (by decide) (by simp)
  refine ⟨h1, h2, h3.trans hlen, fun k hk y hy => ?_, ?_, h5.upd_pair⟩
  · refine (h4.rd (a := Reg.PAI_PRD_DATA k) (eventWord_peek hk) (fun hm => ?_)).trans (hr k hk y hy)
    exact absurd (List.mem_singleton.mp hm) (by unfold Reg.PAI_PRD_DATA Reg.PAI_PRD_STAT; omega)
  · exact congrArg (fun q : Pair => { q with peek := none }) hp

theorem peekData_idle {result : Fin 5} {words : List Word} (h : s.on Fd.PAI_PRD_STAT_PENDING = false) :
    exec (.peekData result words) s = .next s :=
  (exec_peekData result words s).trans (congrArg _ (if_neg (by rw [h]; decide)))

theorem exec_peekTimeout (s : State) : exec .peekTimeout s = .next s.timeoutPeek := rfl

theorem peekTimeout_idle (h : s.pair.peek.all (fun x => decide (s.clk.now < x + msTicks 1)) = true) : exec .peekTimeout s = .next s := by
  refine (exec_peekTimeout s).trans (congrArg _ (if_neg ?_))
  rcases hx : s.pair.peek with _ | x <;> rw [hx] at h
  · exact Bool.false_ne_true
  · have hlt : s.clk.now < x + msTicks 1 := of_decide_eq_true h
    exact fun hd => absurd (of_decide_eq_true hd) (Nat.not_le.mpr hlt)

theorem State.dropPeek_fields (s : State) (r : Nat) (hr : r < 8) :
    ((s.set Fd.PAI_PRD_STAT_RESULT r).set Fd.PAI_PRD_STAT_PENDING 0).fld Fd.PAI_PRD_STAT_RESULT = r ∧
    ((s.set Fd.PAI_PRD_STAT_RESULT r).set Fd.PAI_PRD_STAT_PENDING 0).on Fd.PAI_PRD_STAT_PENDING = false := by
  have h1 : (s.set Fd.PAI_PRD_STAT_RESULT r).fld Fd.PAI_PRD_STAT_RESULT = r := State.fld_set_small s Fd.PAI_PRD_STAT_RESULT r (by decide) hr
  generalize s.set Fd.PAI_PRD_STAT_RESULT r = u at *
  refine ⟨(u.fld_set_bits Fd.PAI_PRD_STAT_PENDING Fd.PAI_PRD_STAT_RESULT 0 rfl (by decide)).trans h1, beq_eq_false_iff_ne.mpr ?_⟩
  rw [State.fld_set_small u Fd.PAI_PRD_STAT_PENDING 0]
  decide

theorem peekTimeout_fired {x : Nat} (hx : s.pair.peek = some x) (hd : x + msTicks 1 ≤ s.clk.now) :
    ∃ t, exec .peekTimeout s = .next t ∧
      t.fld Fd.PAI_PRD_STAT_RESULT = 6 ∧ t.on Fd.PAI_PRD_STAT_PENDING = false ∧
      t.pair = { s.pair with peek := none } ∧
      Changes [.pair] [Reg.PAI_PRD_STAT] s t := by
  have ht : s.timeoutPeek = ((s.set Fd.PAI_PRD_STAT_RESULT 6).set Fd.PAI_PRD_STAT_PENDING 0).setPair { s.pair with peek := none } :=
    if_pos (by rw [hx]; exact decide_eq_true hd)
  obtain ⟨h1, h2⟩ := s.dropPeek_fields 6 (by decide)
  exact ⟨_, (exec_peekTimeout s).trans (congrArg _ ht), h1, h2, rfl,
    (((Changes.refl [.pair] [Reg.PAI_PRD_STAT] s).set (f := Fd.PAI_PRD_STAT_RESULT)).set (f := Fd.PAI_PRD_STAT_PENDING)).upd_pair⟩

/-- Settles O44, clause by clause: heartbeats, lanes, losses, repeats of the row address and the reads of the partner. -/
theorem thePartnerIsHeardAndRead : Obligations.ThePartnerIsHeardAndRead := by
  unfold Obligations.ThePartnerIsHeardAndRead
  exact ⟨fun _ => heartbeatSend_sent, fun s h => ⟨s, heartbeatSend_idle h, rfl⟩, fun _ _ _ => heartbeat_lane, fun _ _ _ _ => heartbeat_net,
    fun _ _ _ _ _ => heartbeat_level, fun _ _ s h => ⟨s, heartbeat_off h, rfl⟩, fun _ _ _ _ => heartbeat_ignored, fun _ _ _ _ => heartbeat_mismatch,
    fun _ _ _ => laneDown_told, fun _ _ s h => ⟨s, laneDown_idle h, rfl⟩, fun s h => ⟨s, partnerLost_idle h, rfl⟩, fun _ => partnerLost_declared,
    fun _ _ hr hd hx hn hs => ⟨_, peerLost_declared hr hd hx hn hs, rfl⟩, fun s h => ⟨s, peerLost_idle h, rfl⟩,
    fun s h => ⟨s, rowRepeat_idle h, rfl⟩, fun _ => rowRepeat_sent,
    fun _ _ _ ht hg => ⟨_, exec_readRegs ht, (readPartner_plain hg).1, (readPartner_plain hg).2⟩,
    fun _ _ _ ht hg hp hu => let ⟨t, hx, h⟩ := readPartner_sent hg hp hu; ⟨t, (exec_readRegs ht).trans (congrArg _ hx), h⟩,
    fun _ _ _ ht hg => ⟨_, exec_readFirn ht, (readPartner_plain hg).1, (readPartner_plain hg).2⟩,
    fun _ _ _ ht hg hp hu => let ⟨t, hx, h⟩ := readPartner_sent hg hp hu; ⟨t, (exec_readFirn ht).trans (congrArg _ hx), h⟩,
    fun _ _ _ ht hg hn => let ⟨t, hx, h⟩ := readPartner_refused hg hn; ⟨t, (exec_readRegs ht).trans (congrArg _ hx), h⟩,
    fun _ _ _ ht hg hn => let ⟨t, hx, h⟩ := readPartner_refused hg hn; ⟨t, (exec_readFirn ht).trans (congrArg _ hx), h⟩,
    fun _ _ _ => peekData_taken, fun _ _ s h => ⟨s, peekData_idle h, rfl⟩, fun s h => ⟨s, peekTimeout_idle h, rfl⟩, fun _ _ => peekTimeout_fired⟩
end Sys2Proof.Machine
end

section
-- In order: the one text holds more declarations than asynchronous elaboration has threads for.
set_option Elab.async false

/-! PROOFS. A staged change whose frames reach the rack group of a lost row's module (R250, R510). -/

namespace Sys2Proof.Machine

/-- The main die is present, the planner enabled and PLAN_EMIT of change 0 armed for the next tick in entry 0; the change is STAGED, and one
of its frames is built for the first rack of module 0, whose row was lost (plan group 4096). -/
def adoptedChange : State :=
  let s := (((State.reset.set Fd.SYS_STATE_MAIN_ABSENT 0).set Fd.PLN_CTRL_EN 1).set (Fd.AE_CTRL_KIND 0) 1).set (Fd.STG_STAT_STATE 0) 1
  { s with
    act := { s.act with armed := [0] }
    clk := { s.clk with now := 1 }
    plan := { s.plan with built := [(0, (0, [⟨4096, false, 0, [⟨0, false, false, false, 0, 0, 0⟩]⟩]))] } }

theorem adoptedChange_due : adoptedChange.dueEntries.head? = some 0 ∧ (adoptedChange.trigger 0).kind = 1 ∧ (adoptedChange.trigger 0).trig ≠ 3 ∧
    (adoptedChange.rd (Reg.AE_ARG0 0)).toNat < 256 ∧ adoptedChange.fld (Fd.STG_STAT_STATE (adoptedChange.rd (Reg.AE_ARG0 0)).toNat) = 1 ∧
    adoptedChange.plan.fired = [] := by decide +kernel

/-- The frame takes the next PSEQ of the lost row, which the federation holds. -/
theorem adoptedChange_fires : (match exec (.actionFire 0) adoptedChange with | .next t => t.fed.pseq | _ => []) = [(0, 1)] ∧
    adoptedChange.fed.pseq = [] := by decide +kernel

/-- Refutes O17, by its clause on the firing of a PLAN_EMIT: the clause leaves the federation as it was, and a built frame of a lost row's rack
takes the next PSEQ of that row (`adoptedChange`). -/
theorem not_actionEntriesAreCommittedAndFire : ¬ Obligations.ActionEntriesAreCommittedAndFire := by
  unfold Obligations.ActionEntriesAreCommittedAndFire
  rintro ⟨-, -, -, -, -, -, -, -, -, hemit, -⟩
  obtain ⟨hdue, hkind, htrig, harg, hstaged, hfired⟩ := adoptedChange_due
  obtain ⟨t, hx, -, -, -, hc⟩ := hemit 0 adoptedChange hdue hkind (Or.inl htrig) harg hstaged hfired
  obtain ⟨hnew, hold⟩ := adoptedChange_fires
  rw [hx] at hnew
  have hfed : t.fed = adoptedChange.fed := hc.1.2 .fed (by decide)
  exact absurd (hnew.symm.trans ((congrArg (·.pseq) hfed).trans hold)) (by decide)
end Sys2Proof.Machine
end
